-- ==== Sys2Proof/Word.lean ====
section
/-! DEFINITION. The words of the LY8412: bytes, headers and payloads are bit vectors (spec/00_scope.md R3, R4);
counts, sizes, instance numbers and instants are natural numbers. -/

namespace Sys2Proof

/-- One byte. -/
abbrev Byte := BitVec 8

/-- A string of bytes, the first byte sent first. -/
abbrev Bytes := List Byte

/-- The value of a byte string, most significant byte first (R4). -/
def bytesToNat (b : Bytes) : Nat := b.foldl (fun a x => a * 256 + x.toNat) 0

/-- The `n` bytes of a value, most significant byte first (R4). -/
def natToBytes : Nat → Nat → Bytes
  | 0, _ => []
  | n + 1, v => BitVec.ofNat 8 (v / 256 ^ n) :: natToBytes n v

end Sys2Proof
end

