-- ==== Sys2Proof/Syntax.lean ====
section
/-! DEFINITION. The commands of the LY8412: one constructor per row of spec/opcode_table.json, with the operands that
the owning rule gives the happening. Every operand type is the range the spec states (00_scope.md Table 0.1), so that
no operand names an instance that does not exist. -/

namespace Sys2Proof

/-- Plane P0 to P3 (R2). -/
abbrev Plane := Fin 4
/-- Fabric port F000 to F127. -/
abbrev Port := Fin 128
/-- Long-haul port L0 to L3. -/
abbrev Lh := Fin 4
/-- Optical chiplet C0 to C3. -/
abbrev Chip := Fin 4
/-- A row or column group of the crosspoint array, 0 to 19 (R64). -/
abbrev Group := Fin 20
/-- Traffic class 0 to 7. -/
abbrev Cls := Fin 8
/-- Tenant T0000 to T4095. -/
abbrev Tenant := Fin 4096
/-- Buffer pool 0 to 4 (R91). -/
abbrev Pool := Fin 5
/-- Reduction context slot 0x0000 to 0x07FF (R128). -/
abbrev Rctx := Fin 2048
/-- Collective slot 0x0000 to 0x03FF (R162). -/
abbrev SlotId := Fin 1024
/-- Collective group 0 to 4095 (R170). -/
abbrev GroupId := Fin 4096
/-- Tributary 0 to 1023 (R226). -/
abbrev Trib := Fin 1024
/-- Ballast region 0x000 to 0x3FF (R274). -/
abbrev RgnId := Fin 1024
/-- Calibration pair 0 to 15 of a chiplet (R303). -/
abbrev Pair := Fin 16
/-- Ring of a chiplet, in the encoding of `ring_sel` (R315): [7:3] local port, [2] receive, [1:0] wavelength. -/
abbrev Ring := Fin 256
/-- Bank of a chiplet: [5:1] local port, [0] receive (R311). -/
abbrev Bank := Fin 64
/-- Time base TB0 to TB7 (R333). -/
abbrev Tb := Fin 8
/-- Management session: 0 the mailbox, 1 to 16 NDP sessions (R375, R380). -/
abbrev Session := Fin 17
/-- A port that leaves the plane, encoded as `gcl_port_sel` (R124): 0 to 127 F000 to F127, 128 to 131 L0 to L3. -/
abbrev LinePort := Fin 132

/-- An LFL frame as received: the 32 header bytes as bits [255:0] (R40), the payload bytes, and the trailer, which
means nothing when the payload is empty (R41). -/
structure Frame where
  hdr : BitVec 256
  payload : Bytes
  trailer : BitVec 32
  deriving DecidableEq, Repr

/-- The inputs of the crosspoint array that are no fabric port (Table 4.1, R71). -/
inductive Internal where
  | longHaul (l : Lh)
  | matrix
  | checkpoint
  | stateCopy
  | hubPath
  | reinject
  deriving DecidableEq, Repr

/-- An attachment of the crosspoint array (Table 4.1). -/
inductive Attach where
  | fabric (n : Port)
  | internal (a : Internal)
  deriving DecidableEq, Repr

/-- What takes frames from a column: an output attachment or the column reducer (R109). -/
inductive Sink where
  | attach (a : Attach)
  | reducer (c : Group)
  deriving DecidableEq, Repr

/-- The six fields that identify a SPRAY_DATA flow (R60). -/
structure FlowId where
  srcDevice : BitVec 12
  srcPort : BitVec 8
  destDevice : BitVec 12
  destPort : BitVec 8
  tenant : BitVec 12
  cls : BitVec 3
  deriving DecidableEq, Repr

/-- A carrier frame as received (Table 10.1). -/
structure CarrierFrame where
  dst : BitVec 48
  src : BitVec 48
  etherType : BitVec 16
  oh : BitVec 512
  area : Bytes
  fcs : BitVec 32
  deriving DecidableEq, Repr

/-- The fields of an IEEE 1588 message that chapter 15 uses, with the receive timestamp in units of 2^-16 ns. -/
structure PtpMsg where
  sdo : BitVec 4
  version : BitVec 4
  domain : BitVec 8
  twoStep : Bool
  seqId : BitVec 16
  /-- correctionField, signed, units of 2^-16 ns -/
  correction : Int
  /-- originTimestamp in ns -/
  origin : Nat
  /-- receive timestamp, units of 2^-16 ns, before the asymmetry correction of Table 15.2 -/
  rxStamp : Nat
  /-- the carrier frame's slot had RETX set, was rebuilt, or lay on another link (R339); false on a fabric port -/
  untimed : Bool
  /-- the grandmaster fields of an Announce: priority 1, clock quality, priority 2, identity (R340) -/
  grandmaster : BitVec 112
  /-- sourcePortIdentity -/
  source : BitVec 80
  deriving DecidableEq, Repr

/-- A management request: its session and REQ_ID (R377). -/
structure Req where
  ses : Session
  id : BitVec 32
  deriving DecidableEq, Repr

/-- What a calibration round found on one ring (R305): the fitted heater set point in uW and cold resonance in MHz
relative to f0, or no resonance within the four points; and whether the ring's port receives light, which matters to its
receive rings alone (R304). -/
structure RingFit where
  ring : Ring
  found : Bool
  setUw : Nat
  lit : Bool
  coldMhz : Int
  deriving DecidableEq, Repr

/-- The end of a unit's BIST slices (R421): passed, failing cells that the spare rows and columns cover, or failed. -/
inductive BistResult where
  | pass
  | softRepaired
  | fail
  deriving DecidableEq, Repr

/-- What the hardware of a plane reports while it initialises (Table 20.5, Table 20.6): whether HBM, CXL and state
memory trained in time, and the CXL link found. -/
structure InitReport where
  trained : Bool
  cxlWidth : BitVec 4
  cxlRate : BitVec 4
  cxlGib : BitVec 16
  deriving DecidableEq, Repr

/-- One rail as read over PMBus (R448), or a failed transaction. -/
structure RailReading where
  ok : Bool
  mv : Nat
  ma : Nat
  deriving DecidableEq, Repr

/-- Where a journalled write or a compaction stands when the supply collapses (Table 17.11). -/
inductive JournalStep where
  | idle
  | step1
  | afterStep1
  | step2
  | afterStep2
  | step3
  | afterStep3
  | compactCopying
  | compactHeader
  | compactAfterHeader
  | bankErase
  deriving DecidableEq, Repr

/-- The commands. -/
inductive Instr where
  /-- HUB_LOSS (R19). -/
  | hubLoss (p : Plane)
  /-- HUB_RETURN (R401). -/
  | hubReturn (p : Plane)
  /-- FM_TIMEOUT (R31). -/
  | fmTimeout
  /-- FENCE (R35). -/
  | fence (p : Plane) (rq : Req)
  /-- UNFENCE (R36). -/
  | unfence (p : Plane) (rq : Req)
  /-- FENCE_COMPLETE (R35). -/
  | fenceComplete (p : Plane)
  /-- PORT_ADMIN_WRITE (R63). -/
  | portAdminWrite (p : Plane) (n : Port) (v : Byte) (rq : Req)
  /-- TRAIN_CMD (R63). -/
  | trainCmd (p : Plane) (n : Port) (rq : Req)
  /-- CDR_LOCK (R47). -/
  | cdrLock (p : Plane) (n : Port)
  /-- FEC_LOCK (R47). -/
  | fecLock (p : Plane) (n : Port)
  /-- TRAIN_TX_TIMER (R47). -/
  | trainTxTimer (p : Plane) (n : Port)
  /-- TRAIN (R47). -/
  | train (p : Plane) (n : Port) (f : Frame)
  /-- TRAIN_DONE (R47). -/
  | trainDone (p : Plane) (n : Port) (f : Frame)
  /-- TRAINING_TIMEOUT (R49). -/
  | trainingTimeout (p : Plane) (n : Port)
  /-- TRAINING_RETRY_TIMER (R49). -/
  | trainingRetryTimer (p : Plane) (n : Port)
  /-- CREDIT (R50). -/
  | credit (p : Plane) (n : Port) (f : Frame)
  /-- CREDIT_TX_TIMER (R51). -/
  | creditTxTimer (p : Plane) (n : Port)
  /-- RETRY_NAK (R55). -/
  | retryNak (p : Plane) (n : Port) (f : Frame)
  /-- ACK_TIMEOUT (R55). -/
  | ackTimeout (p : Plane) (n : Port)
  /-- BYPASS_PREAMBLE (R61). -/
  | bypassPreamble (p : Plane) (n : Port)
  /-- RX_FORWARDED_FRAME (R57). -/
  | rxForwardedFrame (p : Plane) (n : Port) (f : Frame)
  /-- INTERNAL_INPUT_WRITE (R71). -/
  | internalInputWrite (p : Plane) (a : Attach)
  /-- MOVE_PARKED_FRAME (R72). -/
  | moveParkedFrame (p : Plane) (row col : Group)
  /-- MAKE_DEFERRED_COPY (R72). -/
  | makeDeferredCopy (p : Plane) (row col : Group)
  /-- CELL_RELEASE (R75). -/
  | cellRelease (p : Plane) (copy : Nat) (o : Sink)
  /-- RESEQ_GAP_TIMEOUT (R82). -/
  | reseqGapTimeout (p : Plane) (flow : FlowId)
  /-- RESEQ_FLOW_EXPIRE (R82). -/
  | reseqFlowExpire (p : Plane) (flow : FlowId)
  /-- KITE_FAULT (R85). -/
  | kiteFault (p : Plane) (row col : Group)
  /-- KITE_SPARE_IN_SERVICE (R85). -/
  | kiteSpareInService (p : Plane) (row : Group)
  /-- SPARE_KITE_FAULT (R485). -/
  | spareKiteFault (p : Plane) (row : Group)
  /-- HAND_OVER_TO_SPARE (R84). -/
  | handOverToSpare (p : Plane) (rq : Req)
  /-- RETURN_FROM_SPARE (R84). -/
  | returnFromSpare (p : Plane) (rq : Req)
  /-- KITE_DRAIN_COMPLETE (R84). -/
  | kiteDrainComplete (p : Plane) (row : Group)
  /-- SPRAY_MEMBERS_WRITE (R79). -/
  | sprayMembersWrite (p : Plane) (v : BitVec 256) (rq : Req)
  /-- POOL_CACHE_REFILL (R94). -/
  | poolCacheRefill (p : Plane) (pool : Pool)
  /-- POOL_SCRUB (R98). -/
  | poolScrub (p : Plane) (rq : Req)
  /-- POOL_SCRUB_DONE (R98). -/
  | poolScrubDone (p : Plane) (pool : Pool)
  /-- CXL_TRAIN_COMPLETE (R103). -/
  | cxlTrainComplete (p : Plane) (width rate : BitVec 4) (gib : BitVec 16)
  /-- CXL_LINK_DOWN (R104). -/
  | cxlLinkDown (p : Plane)
  /-- CXL_RESET (R104). -/
  | cxlReset (p : Plane) (rq : Req)
  /-- SCHEDULING_DECISION (R111). -/
  | schedulingDecision (p : Plane) (o : Sink)
  /-- GATE_ENTRY_CHANGE (R114). -/
  | gateEntryChange (p : Plane) (o : LinePort)
  /-- GCL_ENABLE_WRITE (R114). -/
  | gclEnableWrite (p : Plane) (v : Byte) (rq : Req)
  /-- GCL_COMMIT (R115). -/
  | gclCommit (p : Plane) (rq : Req)
  /-- GCL_PAGE_SWAP (R115). -/
  | gclPageSwap (p : Plane) (o : LinePort)
  /-- QUEUE_PROMOTION (R121). -/
  | queuePromotion (p : Plane) (o : LinePort) (c : Cls) (t : Tenant)
  /-- BACKGROUND_PROMOTION (R122). -/
  | backgroundPromotion (p : Plane) (o : LinePort) (kind : Fin 3)
  /-- OBSERVATION_SAMPLE (R123). -/
  | observationSample (p : Plane) (o : LinePort)
  /-- RCTX_CLEAR_DONE (R137). -/
  | rctxClearDone (p : Plane) (x : Rctx)
  /-- REDUCER_FRAME (R139). -/
  | reducerFrame (p : Plane) (col : Group) (copy : Nat)
  /-- RCTX_IDLE_TIMEOUT (R155). -/
  | rctxIdleTimeout (p : Plane) (x : Rctx)
  /-- RCTX_ABORT_CMD (R155). -/
  | rctxAbortCmd (p : Plane) (rq : Req)
  /-- REDUCER_LANE_FAULT (R158). -/
  | reducerLaneFault (p : Plane) (col : Group) (lane : Fin 68)
  /-- SPARE_LANE_STAND_IN (R158). -/
  | spareLaneStandIn (p : Plane) (col : Group) (lane : Fin 68)
  /-- ACCUMULATOR_ERROR (R155). -/
  | accumulatorError (p : Plane) (x : Rctx) (elem : Nat)
  /-- SLOT_LOAD (R164). -/
  | slotLoad (p : Plane) (rq : Req)
  /-- SLOT_LAUNCH (R168). -/
  | slotLaunch (p : Plane) (rq : Req)
  /-- SLOT_STOP (R165). -/
  | slotStop (p : Plane) (rq : Req)
  /-- SLOT_CLEAR (R164). -/
  | slotClear (p : Plane) (rq : Req)
  /-- LAUNCH (R168). -/
  | launch (p : Plane) (f : Frame)
  /-- SIGNAL (R172). -/
  | signal (p : Plane) (f : Frame)
  /-- NOTIFY (R172). -/
  | notify (p : Plane) (f : Frame)
  /-- ABORT_CTX (R183). -/
  | abortCtx (p : Plane) (f : Frame)
  /-- REPORT (R180). -/
  | report (p : Plane) (f : Frame)
  /-- CONTRIBUTE (R163). -/
  | contribute (p : Plane) (f : Frame)
  /-- XREADY (R182). -/
  | xready (p : Plane) (f : Frame)
  /-- FAILED (R165). -/
  | failed (p : Plane) (f : Frame)
  /-- STEP_TIMEOUT (R165). -/
  | stepTimeout (p : Plane) (sl : SlotId)
  /-- XSITE_TIMEOUT (R165). -/
  | xsiteTimeout (p : Plane) (sl : SlotId)
  /-- COUNTS (R176). -/
  | counts (p : Plane) (f : Frame)
  /-- GRP_EXCLUDE (R187). -/
  | grpExclude (p : Plane) (v : BitVec 16) (rq : Req)
  /-- GRP_COMMIT (R185). -/
  | grpCommit (p : Plane) (rq : Req)
  /-- GRP_BOUNDARY (R186). -/
  | grpBoundary (p : Plane) (g : GroupId)
  /-- SYNC_VALUE_WRITE (R174). -/
  | syncValueWrite (p : Plane) (v : BitVec 64) (rq : Req)
  /-- TILE_FAULT (R194). -/
  | tileFault (p : Plane) (tile : Fin 9)
  /-- COMPRESS_UNIT (R202). -/
  | compressUnit (p : Plane) (c : Fin 256)
  /-- LR_TILE (R203). -/
  | lrTile (p : Plane) (f : Frame)
  /-- CCTX_LOAD (R199). -/
  | cctxLoad (p : Plane) (rq : Req)
  /-- CCTX_CLEAR (R199). -/
  | cctxClear (p : Plane) (rq : Req)
  /-- LH_ADMIN_WRITE (R215). -/
  | lhAdminWrite (p : Plane) (l : Lh) (v : Byte) (rq : Req)
  /-- CARRIER_FRAME_TX (R230). -/
  | carrierFrameTx (p : Plane) (l : Lh)
  /-- CARRIER_FRAME_RX (R220). -/
  | carrierFrameRx (p : Plane) (l : Lh) (cf : CarrierFrame)
  /-- CARRIER_FRAME_ABSENT (R220). -/
  | carrierFrameAbsent (p : Plane) (l : Lh)
  /-- LH_LOSS_OF_SIGNAL (R220). -/
  | lhLossOfSignal (p : Plane) (l : Lh)
  /-- MULTIFRAME_BOUNDARY (R236). -/
  | multiframeBoundary (p : Plane)
  /-- HOLDOFF_EXPIRY (R234). -/
  | holdoffExpiry (p : Plane) (g : Fin 2)
  /-- WTR_EXPIRY (R237). -/
  | wtrExpiry (p : Plane)
  /-- APS_COMMAND (R237). -/
  | apsCommand (p : Plane) (v : Byte) (rq : Req)
  /-- TSI_COMMIT_TX (R231). -/
  | tsiCommitTx (p : Plane) (rq : Req)
  /-- TSI_COMMIT_RX (R232). -/
  | tsiCommitRx (p : Plane) (rq : Req)
  /-- TRIB_DESC_WRITE (R226). -/
  | tribDescWrite (p : Plane) (v : BitVec 32) (rq : Req)
  /-- ACK_REPORT_TIMER (R238). -/
  | ackReportTimer (p : Plane) (tr : Trib)
  /-- RENAK_TIMER (R240). -/
  | renakTimer (p : Plane) (tr : Trib)
  /-- RETX_TIMEOUT (R241). -/
  | retxTimeout (p : Plane) (tr : Trib)
  /-- CIPHER_FAULT (R249). -/
  | cipherFault (p : Plane) (dir : Fin 2) (pipe : Fin 17)
  /-- MASTER_INSTALL (R258). -/
  | masterInstall (p : Plane) (rq : Req)
  /-- MASTER_ERASE (R259). -/
  | masterErase (p : Plane) (rq : Req)
  /-- REKEY_CMD (R265). -/
  | rekeyCmd (p : Plane) (rq : Req)
  /-- DERIVATION_COMPLETE (R264). -/
  | derivationComplete (p : Plane)
  /-- CKPT_WRITE (R278). -/
  | ckptWrite (p : Plane) (port : Attach) (f : Frame)
  /-- CKPT_READ (R289). -/
  | ckptRead (p : Plane) (port : Attach) (f : Frame)
  /-- CKPT_DATA (R435). -/
  | ckptData (p : Plane) (f : Frame)
  /-- REPL_COMMIT (R284). -/
  | replCommit (p : Plane) (f : Frame)
  /-- REPL_ACK (R285). -/
  | replAck (p : Plane) (f : Frame)
  /-- REPL_TIMEOUT (R285). -/
  | replTimeout (p : Plane) (g : RgnId) (mirror : Bool)
  /-- RGN_LOAD (R275). -/
  | rgnLoad (p : Plane) (rq : Req)
  /-- RGN_ARM_COMMIT (R280). -/
  | rgnArmCommit (p : Plane) (rq : Req)
  /-- RGN_ABANDON (R280). -/
  | rgnAbandon (p : Plane) (rq : Req)
  /-- RGN_CLEAR (R275). -/
  | rgnClear (p : Plane) (rq : Req)
  /-- RGN_COMMIT (R280). -/
  | rgnCommit (p : Plane) (g : RgnId)
  /-- DRAIN_COMPLETE (R287). -/
  | drainComplete (p : Plane) (g : RgnId)
  /-- LASER_ABSENT (R294). -/
  | laserAbsent (p : Plane) (c : Chip) (e : Fin 4)
  /-- LASER_LEVEL_ALARM (R293). -/
  | laserLevelAlarm (p : Plane) (c : Chip) (e : Fin 4) (wl : Fin 4) (cdbm : Int)
  /-- LASER_PRESENT (R296). -/
  | laserPresent (p : Plane) (c : Chip) (e : Fin 4) (cdbm : List Int) (tones : BitVec 4)
  /-- LASER_ENABLE (R296). -/
  | laserEnable (p : Plane) (c : Chip) (rq : Req)
  /-- LASER_DISABLE (R296). -/
  | laserDisable (p : Plane) (c : Chip) (rq : Req)
  /-- CMIS_POLL (R297). -/
  | cmisPoll (p : Plane) (m : Fin 20) (st : Byte) (outOff : Bool)
  /-- MODULE_READY_TIMEOUT (R297). -/
  | moduleReadyTimeout (p : Plane) (c : Chip) (e : Fin 4)
  /-- XTALK_MODE_WRITE (R300). -/
  | xtalkModeWrite (p : Plane) (c : Chip) (v : Byte) (rq : Req)
  /-- RING_LOCK_LOST (R301). -/
  | ringLockLost (p : Plane) (c : Chip) (ring : Ring)
  /-- CAL_PERIOD_EXPIRY (R303). -/
  | calPeriodExpiry (p : Plane) (c : Chip) (j : Pair)
  /-- SETPOINT_ERROR_DUE (R303). -/
  | setpointErrorDue (p : Plane) (c : Chip) (j : Pair)
  /-- PORT_IDLE_DETECTED (R304). -/
  | portIdleDetected (p : Plane) (n : Port)
  /-- CAL_ROUND_START (R305). -/
  | calRoundStart (p : Plane) (c : Chip)
  /-- CAL_ROUND_COMPLETE (R305). -/
  | calRoundComplete (p : Plane) (c : Chip) (fits : List RingFit)
  /-- CAL_WINDOW_REQUEST (R307). -/
  | calWindowRequest (p : Plane) (c : Chip) (j : Pair)
  /-- CAL_FORCE (R308). -/
  | calForce (p : Plane) (c : Chip) (rq : Req)
  /-- MATRIX_CMD (R309). -/
  | matrixCmd (p : Plane) (c : Chip) (rq : Req)
  /-- MATRIX_ROUND_COMPLETE (R309). -/
  | matrixRoundComplete (p : Plane) (c : Chip) (j : Pair)
  /-- HEATER_STEP_CHECK (R311). -/
  | heaterStepCheck (p : Plane) (c : Chip) (ring : Ring) (heaters : List Nat)
  /-- TONE_VERDICT (R310). -/
  | toneVerdict (p : Plane) (c : Chip) (verdicts : List (Ring × Fin 4))
  /-- RESWEEP_COMPLETE (R312). -/
  | resweepComplete (p : Plane) (c : Chip) (bank : Bank) (locked : Bool) (heaters : List Nat)
  /-- BYPASS_INSTALL (R320). -/
  | bypassInstall (p : Plane) (c : Chip) (rq : Req)
  /-- BYPASS_REMOVE (R320). -/
  | bypassRemove (p : Plane) (c : Chip) (rq : Req)
  /-- BYPASS_WINDOW_START (R324). -/
  | bypassWindowStart (p : Plane) (n : Port)
  /-- BYPASS_WINDOW_END (R324). -/
  | bypassWindowEnd (p : Plane) (n : Port)
  /-- WINDOW_FRAME (R326). -/
  | windowFrame (p : Plane) (n : Port) (f : Frame)
  /-- BYPASS_PATH_CHECK (R328). -/
  | bypassPathCheck (p : Plane) (c : Chip) (k : Fin 32) (pass : Bool)
  /-- SYNC (R343). -/
  | sync (p : Plane) (o : LinePort) (m : PtpMsg)
  /-- ANNOUNCE (R340). -/
  | announce (p : Plane) (o : LinePort) (m : PtpMsg)
  /-- PDELAY_REQ (R341). -/
  | pdelayReq (p : Plane) (o : LinePort) (m : PtpMsg)
  /-- PDELAY_RESP (R341). -/
  | pdelayResp (p : Plane) (o : LinePort) (m : PtpMsg)
  /-- SYNC_TX_TIMER (R340). -/
  | syncTxTimer (p : Plane) (tb : Tb) (o : LinePort)
  /-- ANNOUNCE_TX_TIMER (R340). -/
  | announceTxTimer (p : Plane) (tb : Tb) (o : LinePort)
  /-- PDELAY_REQ_TIMER (R340). -/
  | pdelayReqTimer (p : Plane) (o : LinePort)
  /-- LINK_DELAY_EXPIRY (R341). -/
  | linkDelayExpiry (p : Plane) (o : LinePort)
  /-- HOLDOVER_TIMEOUT (R345). -/
  | holdoverTimeout (p : Plane) (tb : Tb)
  /-- STANDBY_DIFF_READ (R347). -/
  | standbyDiffRead (p : Plane) (tb : Tb)
  /-- TB_ENABLE_WRITE (R345). -/
  | tbEnableWrite (p : Plane) (tb : Tb) (v : Byte) (rq : Req)
  /-- TB_TIME_WRITE (R346). -/
  | tbTimeWrite (p : Plane) (tb : Tb) (v : BitVec 80) (rq : Req)
  /-- TB_SWITCH_TO_STANDBY (R348). -/
  | tbSwitchToStandby (p : Plane) (tb : Tb) (rq : Req)
  /-- TB_RETURN (R349). -/
  | tbReturn (p : Plane) (tb : Tb) (rq : Req)
  /-- SNAPSHOT_LATCH (R351). -/
  | snapshotLatch (p : Plane)
  /-- TENANT_CREATE (R360). -/
  | tenantCreate (p : Plane) (t : Tenant) (rq : Req)
  /-- TENANT_SUSPEND (R361). -/
  | tenantSuspend (p : Plane) (t : Tenant) (rq : Req)
  /-- TENANT_SUSPEND_DONE (R361). -/
  | tenantSuspendDone (p : Plane) (t : Tenant)
  /-- TENANT_RESUME (R361). -/
  | tenantResume (p : Plane) (t : Tenant) (rq : Req)
  /-- TENANT_REMOVE (R362). -/
  | tenantRemove (p : Plane) (t : Tenant) (rq : Req)
  /-- NDP_HANDSHAKE (R376). -/
  | ndpHandshake (mp : Fin 2) (fp : BitVec 256) (chainOk : Bool)
  /-- SESSION_IDLE_TIMEOUT (R375). -/
  | sessionIdleTimeout (ses : Session)
  /-- MGMT_LINK_DOWN (R375). -/
  | mgmtLinkDown (mp : Fin 2)
  /-- READ (R377). -/
  | read (rq : Req) (idx : BitVec 16) (sub : Byte)
  /-- WRITE (R369). -/
  | write (rq : Req) (idx : BitVec 16) (sub : Byte) (v : Bytes)
  /-- READ_CLEAR (R386). -/
  | readClear (rq : Req) (idx : BitVec 16) (sub : Byte)
  /-- DOMAIN_READ_START (R384). -/
  | domainReadStart (rq : Req) (idx : BitVec 16) (sub : Byte)
  /-- DOMAIN_READ_SEG (R384). -/
  | domainReadSeg (rq : Req) (idx : BitVec 16) (sub : Byte) (seg : BitVec 32)
  /-- DOMAIN_WRITE_START (R384). -/
  | domainWriteStart (rq : Req) (idx : BitVec 16) (sub : Byte) (total crc : BitVec 32)
  /-- DOMAIN_WRITE_SEG (R384). -/
  | domainWriteSeg (rq : Req) (idx : BitVec 16) (sub : Byte) (seg : BitVec 32) (v : Bytes)
  /-- DOMAIN_ABORT (R384). -/
  | domainAbort (rq : Req) (idx : BitVec 16) (sub : Byte)
  /-- DOMAIN_TIMEOUT (R385). -/
  | domainTimeout (ses : Session)
  /-- KEEPALIVE (R377). -/
  | keepalive (rq : Req)
  /-- MB_DOORBELL (R380). -/
  | mbDoorbell (v : BitVec 32) (msg : Bytes)
  /-- MB_STATUS_WRITE (R380). -/
  | mbStatusWrite (v : BitVec 32)
  /-- HOST_WINDOW_WRITE (R381). -/
  | hostWindowWrite (off : BitVec 16) (v : Bytes)
  /-- LOCK (R371). -/
  | lock (rq : Req)
  /-- LOCK_RELEASE (R371). -/
  | lockRelease (rq : Req)
  /-- FACTORY_RESET (R396). -/
  | factoryReset (rq : Req)
  /-- SNAPSHOT_ARM (R393). -/
  | snapshotArm (rq : Req)
  /-- CAUSE_CLEAR (R400). -/
  | causeClear (rq : Req) (idx : BitVec 16) (v : BitVec 32)
  /-- SUBSCRIBE (R405). -/
  | subscribe (rq : Req) (idx : BitVec 16) (mask : BitVec 32)
  /-- UNSUBSCRIBE (R405). -/
  | unsubscribe (rq : Req) (flt : Byte)
  /-- EVENT_ACK (R406). -/
  | eventAck (rq : Req) (seq : BitVec 32)
  /-- EVENT_RESEND_TIMER (R406). -/
  | eventResendTimer
  /-- HEALTH_WINDOW_END (R410). -/
  | healthWindowEnd (p : Plane)
  /-- HBM_FAULT (R414). -/
  | hbmFault (p : Plane) (pc : Fin 64) (retryOk : Bool)
  /-- PLANE_STATE_FAULT (R415). -/
  | planeStateFault (p : Plane)
  /-- DIAG_INJECT (R437). -/
  | diagInject (rq : Req)
  /-- HF_RESTORE (R437). -/
  | hfRestore (p : Plane) (bistPass : Bool) (rq : Req)
  /-- HF_RETIRE (R437). -/
  | hfRetire (p : Plane) (rq : Req)
  /-- PLANE_RECOVER_CMD (R415). -/
  | planeRecoverCmd (p : Plane) (rq : Req)
  /-- PLANE_RECOVERY_START (R415). -/
  | planeRecoveryStart (p : Plane)
  /-- PLANE_RECOVERY_END (R415). -/
  | planeRecoveryEnd (p : Plane)
  /-- RECOVERY_TIMEOUT (R417). -/
  | recoveryTimeout (p : Plane)
  /-- MAINT_ENTER (R424). -/
  | maintEnter (p : Plane) (rq : Req)
  /-- MAINT_LEAVE (R424). -/
  | maintLeave (p : Plane) (rq : Req)
  /-- FUSE_CMD (R424). -/
  | fuseCmd (p : Plane) (fits : Bool) (rq : Req)
  /-- FULL_BIST (R424). -/
  | fullBist (failed : List (BitVec 16)) (rq : Req)
  /-- RETIRE_CLEAR (R413). -/
  | retireClear (rq : Req)
  /-- REPL_REASON_SET (R428). -/
  | replReasonSet (rq : Req)
  /-- REPL_REASON_CLEAR (R428). -/
  | replReasonClear (rq : Req)
  /-- BIST_UNIT_START (R420). -/
  | bistUnitStart (p : Plane)
  /-- BIST_UNIT_COMPLETE (R421). -/
  | bistUnitComplete (p : Plane) (r : BistResult)
  /-- AGEING_MEASURE (R425). -/
  | ageingMeasure (p : Plane) (vals : List (BitVec 16 × Int))
  /-- MARGIN_REPLAN (R426). -/
  | marginReplan (p : Plane)
  /-- REPLAN_CMD (R426). -/
  | replanCmd (p : Plane) (rq : Req)
  /-- SC_START (R432). -/
  | scStart (p : Plane) (rq : Req)
  /-- SC_ABORT (R436). -/
  | scAbort (p : Plane) (rq : Req)
  /-- SC_REQUEST (R434). -/
  | scRequest (p : Plane) (f : Frame)
  /-- SC_BOUNDARY (R434). -/
  | scBoundary (p : Plane)
  /-- OBJECTS (R433). -/
  | objects (p : Plane) (f : Frame)
  /-- SLOTS (R433). -/
  | slots (p : Plane) (f : Frame)
  /-- SC_DONE (R435). -/
  | scDone (p : Plane) (f : Frame)
  /-- SC_REFUSED (R435). -/
  | scRefused (p : Plane) (f : Frame)
  /-- SC_TIMEOUT (R436). -/
  | scTimeout (p : Plane)
  /-- PORESET (R443). -/
  | poreset (lowNs : Nat)
  /-- PLANE_RST (R443). -/
  | planeRst (p : Plane) (lowNs : Nat)
  /-- PLANE_RESET_CMD (R443). -/
  | planeResetCmd (rq : Req)
  /-- HUB_BOOT (R452). -/
  | hubBoot
  /-- PLANE_INIT (R455). -/
  | planeInit (p : Plane) (st : InitReport)
  /-- REFCLK_LOST (R442). -/
  | refclkLost (p : Plane)
  /-- REFCLK_RETURN (R442). -/
  | refclkReturn (p : Plane)
  /-- AVS_UPDATE (R448). -/
  | avsUpdate (busOk : Bool)
  /-- PMBUS_POLL (R448). -/
  | pmbusPoll (readings : List RailReading)
  /-- OPERATING_POINT_CHANGE (R449). -/
  | operatingPointChange (tj : Int)
  /-- CHIPLET_TEMPERATURE (R450). -/
  | chipletTemperature (p : Plane) (c : Chip) (t : Int)
  /-- THERMAL_TRIP (R451). -/
  | thermalTrip
  /-- FW_VERIFY (R454). -/
  | fwVerify (rq : Req)
  /-- ROLLBACK_FLOOR_RAISE (R454). -/
  | rollbackFloorRaise (rq : Req)
  /-- VDD_IO_LOW (R477). -/
  | vddIoLow
  /-- CLOCK_RECOVERY_LOCK_LOSS (R408). -/
  | clockRecoveryLockLoss (p : Plane) (n : Port) (w : Fin 4)
  /-- UNCORRECTABLE_CODEWORD (R408). -/
  | uncorrectableCodeword (p : Plane) (n : Port) (w : Fin 4)
  /-- FAULT_RETRY_BIST_COMPLETE (R410). -/
  | faultRetryBistComplete (p : Plane) (chan : BitVec 16) (pass : Bool)
  /-- LONG_HAUL_REJOIN_TIMEOUT (R410). -/
  | longHaulRejoinTimeout (p : Plane) (l : Lh)
  /-- LONG_HAUL_PCS_LOCK (R215). -/
  | longHaulPcsLock (p : Plane) (l : Lh) (lock : Bool)
  /-- MGMT_LINK_UP (R375). -/
  | mgmtLinkUp (mp : Fin 2)
  /-- HOST_LINK_TRAINED (R379). -/
  | hostLinkTrained (width rate : BitVec 4)
  /-- PLANE_NOT_ANSWERING (R401). -/
  | planeNotAnswering (p : Plane)
  /-- SUPPLY_COLLAPSE (R390). -/
  | supplyCollapse (at_ : JournalStep)
  /-- VDD_IO_RESTORED (R477). -/
  | vddIoRestored
  /-- HUB_REFCLK_LOST (R442). -/
  | hubRefclkLost
  deriving DecidableEq, Repr

end Sys2Proof
end

