-- ==== Sys2Proof/Decode.lean ====
section
/-! DEFINITION. Words to commands. No row of spec/opcode_table.json gives bits: the block takes commands, and none of them
is spelled by a word. -/

namespace Sys2Proof

/-- The command that a word spells by the table's bits: none, since the table's rows give none. -/
def decodeTableWord (_nbits _w : Nat) : Option Instr := none

end Sys2Proof
end

