-- ==== Sys2Proof/Config.lean ====
section
/-! DEFINITION. What the spec leaves open. Each constant below is opaque: it has no body, so no proof can see a value of
it, and a statement holds whatever it is. -/

namespace Sys2Proof.Config

/-- The free values: applied to the counter `Device.freeCtr`, which every use advances (assumption log 6). -/
opaque free : Nat → Nat

/-- Whether an ECDSA P-384 signature verifies: public key, message, signature (spec/20 R452). The algorithm is defined
outside the spec (assumption log 9). -/
opaque ecdsaVerify : Bytes → Bytes → Bytes → Bool

/-- SHA-384 of a byte string (spec/20 R452), defined outside the spec (assumption log 9). -/
opaque sha384 : Bytes → Bytes

/-- The 256-bit key fused in the device (spec/11 R258), of which the spec gives no value (assumption log 8). -/
opaque deviceKey : Nat → BitVec 256

/-- The clock identity in messages of the common mean link delay service of a plane, which R335 excepts from Table 15.1
(assumption log 6). -/
opaque cmldsIdentity : Nat → BitVec 64

/-- The voltage request of an island (plane, island) in mV before any raise of R426, which the spec does not state
(assumption log 6). -/
opaque islandRequest : Nat → Nat → Nat

/-- The corrected errors counted so far, of which no command of the table tells: which counter (0 `fec_corrected`, 1
`hbm_corrected`, 2 `acc_corrected`), plane, instance, clock (assumption log 6). -/
opaque corrected : Nat → Nat → Nat → Nat → Nat

/-- The coefficients that a matrix round measures, signed Q1.15: the free-value counter at its end and the place in the 16 × 16 block
(spec/13 R299, R309; assumption log 41). -/
opaque coupling : Nat → Nat → BitVec 16

/-- The scrub interval of an HBM pseudo-channel in hours before Table 19.5 halves it (assumption log 6). -/
opaque hbmScrubHours : Nat

/-- What a firmware image's header carries: the 32-bit version, the signed part and the signature with its public key; the
spec gives the header's content but not its layout (spec/20, 20.7; assumption log 9). -/
opaque imageVersion : Bytes → BitVec 32
opaque imageBody : Bytes → Bytes
opaque imageKey : Bytes → Bytes
opaque imageSignature : Bytes → Bytes

/-- The device certificate, factory data of which the spec gives no value (spec/17 Table 17.12; assumption log 6). -/
opaque devCert : Bytes

end Sys2Proof.Config
end

