-- ==== Sys2Proof/Machine/Bits.lean ====
section
/-! DEFINITION. Bit fields, check sums and byte strings shared by the formats of the spec. -/

namespace Sys2Proof.Machine

/-- Field `[lo+w-1 : lo]` of a number (spec/00_scope.md R3). -/
def fld (v lo w : Nat) : Nat := v / 2 ^ lo % 2 ^ w

/-- A number with field `[lo+w-1 : lo]` replaced. -/
def setFld (v lo w x : Nat) : Nat := v - fld v lo w * 2 ^ lo + x % 2 ^ w * 2 ^ lo

/-- Bit `i` of a number. -/
def bit (v i : Nat) : Bool := v / 2 ^ i % 2 = 1

/-- Set bit `i`. -/
def setBit (v i : Nat) : Nat := if bit v i then v else v + 2 ^ i

/-- Clear bit `i`. -/
def clrBit (v i : Nat) : Nat := if bit v i then v - 2 ^ i else v

/-- Write bit `i`. -/
def putBit (v i : Nat) (b : Bool) : Nat := if b then setBit v i else clrBit v i

/-- The bits of `v` that are not in `m`, both below `2 ^ n`. -/
def andNot (n v m : Nat) : Nat := (BitVec.ofNat n v &&& ~~~ BitVec.ofNat n m).toNat

/-- The numbers of the set bits of `v` below `n`, in increasing order. -/
def bitsOf (n v : Nat) : List Nat := (List.range n).filter (bit v)

/-- The number with the given bits set. -/
def ofBits (l : List Nat) : Nat := l.foldl setBit 0

/-- Byte or wider element `i` of an OCTETS value of `n` elements of `w` bits, element 0 most significant (R4). -/
def octet (n w v i : Nat) : Nat := fld v ((n - 1 - i) * w) w

/-- Replace element `i` of an OCTETS value. -/
def setOctet (n w v i x : Nat) : Nat := setFld v ((n - 1 - i) * w) w x

/-- The elements of an OCTETS value in order. -/
def octetList (n w v : Nat) : List Nat := (List.range n).map (octet n w v)

/-- A number read as two's complement of `w` bits. -/
def toSigned (w v : Nat) : Int := (BitVec.ofNat w v).toInt

/-- Two's complement of `w` bits of an integer. -/
def ofSigned (w : Nat) (v : Int) : Nat := (BitVec.ofInt w v).toNat

/-- One step of a bit-serial CRC of `n` bits, most significant bit first. -/
def crcBit (n poly reg : Nat) (b : Bool) : Nat :=
  let top := xor (bit reg (n - 1)) b
  let sh := reg * 2 % 2 ^ n
  if top then sh ^^^ poly else sh

/-- CRC of one byte, most significant bit first. -/
def crcByte (n poly reg byte : Nat) : Nat :=
  [7, 6, 5, 4, 3, 2, 1, 0].foldl (fun r i => crcBit n poly r (bit byte i)) reg

/-- CRC of a byte string. -/
def crc (n poly init fin : Nat) (b : Bytes) : Nat :=
  b.foldl (fun r x => crcByte n poly r x.toNat) init ^^^ fin

/-- HDR_CRC (spec/03_fabric_ports_and_link.md R41). -/
def crc16 (b : Bytes) : Nat := crc 16 0x1021 0xFFFF 0 b

/-- The trailer CRC-32 (R41); also of journal records and DOMAIN values (spec/17 R384, R388). -/
def crc32 (b : Bytes) : Nat := crc 32 0x04C11DB7 0xFFFFFFFF 0xFFFFFFFF b

/-- Reverse the low `n` bits. -/
def reflect (n v : Nat) : Nat := (List.range n).foldl (fun a i => if bit v i then a + 2 ^ (n - 1 - i) else a) 0

/-- The Ethernet frame check sequence: reflected CRC-32. -/
def ethFcs (b : Bytes) : Nat :=
  reflect 32 (b.foldl (fun r x => crcByte 32 0x04C11DB7 r (reflect 8 x.toNat)) 0xFFFFFFFF) ^^^ 0xFFFFFFFF

/-- `d` bytes at offset `o` of a byte string as a number; bytes beyond its end read as 0. -/
def beNat (b : Bytes) (o d : Nat) : Nat :=
  let s := (b.drop o).take d
  bytesToNat s * 256 ^ (d - s.length)

/-- The first element of a list with a property. -/
def firstWith {α : Type} (l : List α) (f : α → Bool) : Option α := l.find? f

/-- Insert an element after all elements that are not above it. -/
def insertBy {α : Type} (lt : α → α → Bool) (x : α) : List α → List α
  | [] => [x]
  | y :: r => if lt x y then x :: y :: r else y :: insertBy lt x r

/-- Sort a list, equal elements keeping their order. -/
def sortBy {α : Type} (lt : α → α → Bool) (l : List α) : List α := l.foldl (fun a x => insertBy lt x a) []

/-- The first element with the greatest value of `f`. -/
def argMax {α : Type} (f : α → Nat) : List α → Option α
  | [] => none
  | x :: r =>
    match argMax f r with
    | none => some x
    | some y => if f y > f x then some y else some x

/-- The first element with the least value of `f`. -/
def argMin {α : Type} (f : α → Nat) : List α → Option α
  | [] => none
  | x :: r =>
    match argMin f r with
    | none => some x
    | some y => if f y < f x then some y else some x

/-- Sum of a list of numbers. -/
def total (l : List Nat) : Nat := l.foldl (· + ·) 0

/-- Whether a list has no repeated element. -/
def distinct (l : List Nat) : Bool :=
  match l with
  | [] => true
  | x :: r => !r.contains x && distinct r

/-- Element `i` of a list of numbers, 0 beyond its end. -/
def nth (l : List Nat) (i : Nat) : Nat := l.getD i 0

/-- Replace element `i` of a list by a function of it. -/
def modNth {α : Type} (l : List α) (i : Nat) (f : α → α) : List α := l.modify i f

/-- Quotient rounded up. -/
def ceilDiv (a b : Nat) : Nat := (a + b - 1) / b

end Sys2Proof.Machine
end

