-- ==== Sys2Proof/Machine/Objects.lean ====
section
/-! DEFINITION. The object dictionary (spec/17_object_dictionary.md): one constructor of `Obj` per dictionary object of
the tables of the spec, with its place, type, access code and reset value (the column Default of its table; the value
0 where that column gives none, assumption log 5). -/

namespace Sys2Proof.Machine

/-- The dictionary objects; each docstring names the rule that defines the object. -/
inductive Obj where
  /-- `plane_role` (R10) -/
  | planeRole
  /-- `plane_role_active` (R10) -/
  | planeRoleActive
  /-- `fm_timeout_ms` (R32) -/
  | fmTimeoutMs
  /-- `port_partition` (R32) -/
  | portPartition
  /-- `lh_port_partition` (R32) -/
  | lhPortPartition
  /-- `fence_partition` (R32) -/
  | fencePartition
  /-- `fence_cmd` (R32) -/
  | fenceCmd
  /-- `fenced_fabric_lo` (R32) -/
  | fencedFabricLo
  /-- `fenced_fabric_hi` (R32) -/
  | fencedFabricHi
  /-- `fenced_long_haul` (R32) -/
  | fencedLongHaul
  /-- `port_admin` (R63) -/
  | portAdmin
  /-- `port_state` (R63) -/
  | portState
  /-- `port_rate` (R63) -/
  | portRate
  /-- `port_lane_retired` (R63) -/
  | portLaneRetired
  /-- `peer_id` (R63) -/
  | peerId
  /-- `credit_limit` (R63) -/
  | creditLimit
  /-- `ack_timeout_ns` (R63) -/
  | ackTimeoutNs
  /-- `tenant_bind_sel` (R63) -/
  | tenantBindSel
  /-- `tenant_bind` (R63) -/
  | tenantBind
  /-- `train_cmd` (R63) -/
  | trainCmd
  /-- `rx_frames` (R63) -/
  | rxFrames
  /-- `rx_bytes` (R63) -/
  | rxBytes
  /-- `tx_frames` (R63) -/
  | txFrames
  /-- `tx_bytes` (R63) -/
  | txBytes
  /-- `fec_corrected` (R63) -/
  | fecCorrected
  /-- `fec_uncorrectable` (R63) -/
  | fecUncorrectable
  /-- `hdr_crc_err` (R63) -/
  | hdrCrcErr
  /-- `crc32_err` (R63) -/
  | crc32Err
  /-- `stomped_rx` (R63) -/
  | stompedRx
  /-- `out_of_seq` (R63) -/
  | outOfSeq
  /-- `retransmissions` (R63) -/
  | retransmissions
  /-- `nak_ignored` (R63) -/
  | nakIgnored
  /-- `retry_exhausted` (R63) -/
  | retryExhausted
  /-- `link_discard` (R63) -/
  | linkDiscard
  /-- `credit_violation` (R63) -/
  | creditViolation
  /-- `opcode_reject` (R63) -/
  | opcodeReject
  /-- `plane_reject` (R63) -/
  | planeReject
  /-- `tenant_reject` (R63) -/
  | tenantReject
  /-- `hops_expired` (R63) -/
  | hopsExpired
  /-- `training_fail` (R63) -/
  | trainingFail
  /-- `rx_not_up` (R63) -/
  | rxNotUp
  /-- `switch_status` (R88) -/
  | switchStatus
  /-- `spare_in_use` (R88) -/
  | spareInUse
  /-- `ecn_min` (R88) -/
  | ecnMin
  /-- `ecn_max` (R88) -/
  | ecnMax
  /-- `reseq_timeout_us` (R88) -/
  | reseqTimeoutUs
  /-- `swap_cmd` (R88) -/
  | swapCmd
  /-- `parked_frames` (R88) -/
  | parkedFrames
  /-- `moved_cells` (R88) -/
  | movedCells
  /-- `deferred_copies` (R88) -/
  | deferredCopies
  /-- `mcast_copies` (R88) -/
  | mcastCopies
  /-- `mcast_omitted` (R88) -/
  | mcastOmitted
  /-- `ecn_marked` (R88) -/
  | ecnMarked
  /-- `route_miss` (R88) -/
  | routeMiss
  /-- `partition_discard` (R88) -/
  | partitionDiscard
  /-- `kite_loss_frames` (R88) -/
  | kiteLossFrames
  /-- `kite_swaps` (R88) -/
  | kiteSwaps
  /-- `lost_frame_retrain` (R88) -/
  | lostFrameRetrain
  /-- `reseq_gap` (R88) -/
  | reseqGap
  /-- `reseq_window_drop` (R88) -/
  | reseqWindowDrop
  /-- `reseq_store_full` (R88) -/
  | reseqStoreFull
  /-- `reseq_untracked` (R88) -/
  | reseqUntracked
  /-- `route_sel` (R88) -/
  | routeSel
  /-- `route_entry` (R88) -/
  | routeEntry
  /-- `spray_sel` (R88) -/
  | spraySel
  /-- `spray_members` (R88) -/
  | sprayMembers
  /-- `spray_live` (R88) -/
  | sprayLive
  /-- `mcast_sel` (R88) -/
  | mcastSel
  /-- `mcast_set` (R88) -/
  | mcastSet
  /-- `kite_sel` (R88) -/
  | kiteSel
  /-- `kite_state` (R88) -/
  | kiteState
  /-- `kite_occupancy` (R88) -/
  | kiteOccupancy
  /-- `kite_parked_cells` (R88) -/
  | kiteParkedCells
  /-- `kite_high_water` (R88) -/
  | kiteHighWater
  /-- `kite_stand_in` (R88) -/
  | kiteStandIn
  /-- `pool_sel` (R106) -/
  | poolSel
  /-- `pool_size_gib` (R106) -/
  | poolSizeGib
  /-- `pool_buf_size` (R106) -/
  | poolBufSize
  /-- `pool_buffers` (R106) -/
  | poolBuffers
  /-- `pool_free` (R106) -/
  | poolFree
  /-- `pool_reserved` (R106) -/
  | poolReserved
  /-- `pool_low_water` (R106) -/
  | poolLowWater
  /-- `double_free` (R106) -/
  | doubleFree
  /-- `bad_free` (R106) -/
  | badFree
  /-- `pool_corrupt` (R106) -/
  | poolCorrupt
  /-- `pool_empty` (R106) -/
  | poolEmpty
  /-- `pool_scrub_cmd` (R106) -/
  | poolScrubCmd
  /-- `quota_sel` (R106) -/
  | quotaSel
  /-- `quota_buffers` (R106) -/
  | quotaBuffers
  /-- `quota_used` (R106) -/
  | quotaUsed
  /-- `quota_high_water` (R106) -/
  | quotaHighWater
  /-- `quota_refused` (R106) -/
  | quotaRefused
  /-- `hbm_share` (R106) -/
  | hbmShare
  /-- `hbm_capacity_gib` (R106) -/
  | hbmCapacityGib
  /-- `hbm_corrected` (R106) -/
  | hbmCorrected
  /-- `cxl_state` (R106) -/
  | cxlState
  /-- `cxl_link` (R106) -/
  | cxlLink
  /-- `cxl_capacity_gib` (R106) -/
  | cxlCapacityGib
  /-- `cxl_poison` (R106) -/
  | cxlPoison
  /-- `cxl_link_down` (R106) -/
  | cxlLinkDown
  /-- `cxl_reset_cmd` (R106) -/
  | cxlResetCmd
  /-- `sched_service` (R124) -/
  | schedService
  /-- `sched_service_active` (R124) -/
  | schedServiceActive
  /-- `class_rank` (R124) -/
  | classRank
  /-- `urgency_ms` (R124) -/
  | urgencyMs
  /-- `bg_urgency_ms` (R124) -/
  | bgUrgencyMs
  /-- `starve_promoted` (R124) -/
  | starvePromoted
  /-- `bg_promoted` (R124) -/
  | bgPromoted
  /-- `gcl_port_sel` (R124) -/
  | gclPortSel
  /-- `gcl_enable` (R124) -/
  | gclEnable
  /-- `gcl_time_base` (R124) -/
  | gclTimeBase
  /-- `gcl_base_time` (R124) -/
  | gclBaseTime
  /-- `gcl_cycle_ns` (R124) -/
  | gclCycleNs
  /-- `gcl_length` (R124) -/
  | gclLength
  /-- `gcl_entry_sel` (R124) -/
  | gclEntrySel
  /-- `gcl_entry` (R124) -/
  | gclEntry
  /-- `gcl_active_entry` (R124) -/
  | gclActiveEntry
  /-- `gcl_change_time` (R124) -/
  | gclChangeTime
  /-- `gcl_commit_cmd` (R124) -/
  | gclCommitCmd
  /-- `gcl_current` (R124) -/
  | gclCurrent
  /-- `gcl_late` (R124) -/
  | gclLate
  /-- `gcl_time_step` (R124) -/
  | gclTimeStep
  /-- `tq_sel` (R124) -/
  | tqSel
  /-- `drr_quantum` (R124) -/
  | drrQuantum
  /-- `cbs_idle_mbps` (R124) -/
  | cbsIdleMbps
  /-- `cbs_hi_credit` (R124) -/
  | cbsHiCredit
  /-- `cbs_lo_credit` (R124) -/
  | cbsLoCredit
  /-- `obs_port_sel` (R124) -/
  | obsPortSel
  /-- `q_depth` (R124) -/
  | qDepth
  /-- `q_delay_ns` (R124) -/
  | qDelayNs
  /-- `q_depth_max` (R124) -/
  | qDepthMax
  /-- `q_delay_max` (R124) -/
  | qDelayMax
  /-- `q_promoted` (R124) -/
  | qPromoted
  /-- `class_depth_hw` (R124) -/
  | classDepthHw
  /-- `class_delay_hw` (R124) -/
  | classDelayHw
  /-- `red_idle_timeout_us` (R160) -/
  | redIdleTimeoutUs
  /-- `red_restart_max` (R160) -/
  | redRestartMax
  /-- `anchor_raise` (R160) -/
  | anchorRaise
  /-- `sparse_max_nz` (R160) -/
  | sparseMaxNz
  /-- `red_contexts_active` (R160) -/
  | redContextsActive
  /-- `red_blocks_added` (R160) -/
  | redBlocksAdded
  /-- `red_blocks_skipped` (R160) -/
  | redBlocksSkipped
  /-- `red_no_context` (R160) -/
  | redNoContext
  /-- `red_tenant_reject` (R160) -/
  | redTenantReject
  /-- `red_stale` (R160) -/
  | redStale
  /-- `red_restarts` (R160) -/
  | redRestarts
  /-- `red_overflow_restarts` (R160) -/
  | redOverflowRestarts
  /-- `red_failed` (R160) -/
  | redFailed
  /-- `rctx_refused` (R160) -/
  | rctxRefused
  /-- `out_saturated` (R160) -/
  | outSaturated
  /-- `acc_corrected` (R160) -/
  | accCorrected
  /-- `rctx_sel` (R160) -/
  | rctxSel
  /-- `rctx_desc` (R160) -/
  | rctxDesc
  /-- `rctx_tenant` (R160) -/
  | rctxTenant
  /-- `rctx_seed` (R160) -/
  | rctxSeed
  /-- `rctx_state` (R160) -/
  | rctxState
  /-- `rctx_status` (R160) -/
  | rctxStatus
  /-- `rctx_attempt` (R160) -/
  | rctxAttempt
  /-- `rctx_anchor_now` (R160) -/
  | rctxAnchorNow
  /-- `rctx_blocks_done` (R160) -/
  | rctxBlocksDone
  /-- `rctx_abort_cmd` (R160) -/
  | rctxAbortCmd
  /-- `reducer_sel` (R160) -/
  | reducerSel
  /-- `reducer_state` (R160) -/
  | reducerState
  /-- `red_lane_retired` (R160) -/
  | redLaneRetired
  /-- `spare_lanes_used` (R160) -/
  | spareLanesUsed
  /-- `acc_free_elements` (R160) -/
  | accFreeElements
  /-- `step_timeout_ms` (R189) -/
  | stepTimeoutMs
  /-- `xsite_timeout_ms` (R189) -/
  | xsiteTimeoutMs
  /-- `slots_running` (R189) -/
  | slotsRunning
  /-- `seq_launches` (R189) -/
  | seqLaunches
  /-- `launch_dup` (R189) -/
  | launchDup
  /-- `launch_refused` (R189) -/
  | launchRefused
  /-- `seq_malformed` (R189) -/
  | seqMalformed
  /-- `seq_tenant_reject` (R189) -/
  | seqTenantReject
  /-- `seq_nonmember` (R189) -/
  | seqNonmember
  /-- `seq_stale` (R189) -/
  | seqStale
  /-- `seq_range_reject` (R189) -/
  | seqRangeReject
  /-- `disp_reject` (R189) -/
  | dispReject
  /-- `reform_merges` (R189) -/
  | reformMerges
  /-- `reform_restarts` (R189) -/
  | reformRestarts
  /-- `sync_saturated` (R189) -/
  | syncSaturated
  /-- `notify_refused` (R189) -/
  | notifyRefused
  /-- `slot_sel` (R189) -/
  | slotSel
  /-- `slot_tenant` (R189) -/
  | slotTenant
  /-- `slot_group` (R189) -/
  | slotGroup
  /-- `slot_length` (R189) -/
  | slotLength
  /-- `slot_step_sel` (R189) -/
  | slotStepSel
  /-- `slot_step` (R189) -/
  | slotStep
  /-- `slot_tpl_sel` (R189) -/
  | slotTplSel
  /-- `slot_tpl` (R189) -/
  | slotTpl
  /-- `slot_seed` (R189) -/
  | slotSeed
  /-- `slot_state` (R189) -/
  | slotState
  /-- `slot_status` (R189) -/
  | slotStatus
  /-- `slot_step_now` (R189) -/
  | slotStepNow
  /-- `slot_launch_no` (R189) -/
  | slotLaunchNo
  /-- `slot_gen` (R189) -/
  | slotGen
  /-- `slot_cmd` (R189) -/
  | slotCmd
  /-- `grp_sel` (R189) -/
  | grpSel
  /-- `grp_desc` (R189) -/
  | grpDesc
  /-- `grp_desc_active` (R189) -/
  | grpDescActive
  /-- `grp_member_sel` (R189) -/
  | grpMemberSel
  /-- `grp_member` (R189) -/
  | grpMember
  /-- `grp_member_active` (R189) -/
  | grpMemberActive
  /-- `grp_exclude` (R189) -/
  | grpExclude
  /-- `grp_boundary_kind` (R189) -/
  | grpBoundaryKind
  /-- `grp_boundary_time` (R189) -/
  | grpBoundaryTime
  /-- `grp_boundary_tb` (R189) -/
  | grpBoundaryTb
  /-- `grp_boundary_obj` (R189) -/
  | grpBoundaryObj
  /-- `grp_boundary_value` (R189) -/
  | grpBoundaryValue
  /-- `grp_commit_cmd` (R189) -/
  | grpCommitCmd
  /-- `grp_state` (R189) -/
  | grpState
  /-- `grp_live` (R189) -/
  | grpLive
  /-- `sync_sel` (R189) -/
  | syncSel
  /-- `sync_value` (R189) -/
  | syncValue
  /-- `sync_saturated_flag` (R189) -/
  | syncSaturatedFlag
  /-- `notify_used` (R189) -/
  | notifyUsed
  /-- `disp_sel` (R189) -/
  | dispSel
  /-- `disp_experts` (R189) -/
  | dispExperts
  /-- `disp_token_elems` (R189) -/
  | dispTokenElems
  /-- `disp_origin_tokens` (R189) -/
  | dispOriginTokens
  /-- `disp_entry_sel` (R189) -/
  | dispEntrySel
  /-- `disp_entry` (R189) -/
  | dispEntry
  /-- `mx_tiles_in_service` (R212) -/
  | mxTilesInService
  /-- `mx_spare_in_use` (R212) -/
  | mxSpareInUse
  /-- `mx_tile_retired` (R212) -/
  | mxTileRetired
  /-- `mx_products` (R212) -/
  | mxProducts
  /-- `cmp_elements` (R212) -/
  | cmpElements
  /-- `cmp_bytes_sent` (R212) -/
  | cmpBytesSent
  /-- `cmp_uncompressed_units` (R212) -/
  | cmpUncompressedUnits
  /-- `cmp_refused` (R212) -/
  | cmpRefused
  /-- `cmp_mismatch` (R212) -/
  | cmpMismatch
  /-- `exp_saturated` (R212) -/
  | expSaturated
  /-- `mx_tile_faults` (R212) -/
  | mxTileFaults
  /-- `cctx_sel` (R212) -/
  | cctxSel
  /-- `cctx_tenant` (R212) -/
  | cctxTenant
  /-- `cctx_desc` (R212) -/
  | cctxDesc
  /-- `cctx_seed` (R212) -/
  | cctxSeed
  /-- `cctx_chunks` (R212) -/
  | cctxChunks
  /-- `cctx_shard_blocks` (R212) -/
  | cctxShardBlocks
  /-- `cctx_state` (R212) -/
  | cctxState
  /-- `cctx_cmd` (R212) -/
  | cctxCmd
  /-- `cctx_res_buffers` (R212) -/
  | cctxResBuffers
  /-- `cctx_proj_buffers` (R212) -/
  | cctxProjBuffers
  /-- `cctx_commits` (R212) -/
  | cctxCommits
  /-- `lh_admin` (R246) -/
  | lhAdmin
  /-- `lh_state` (R246) -/
  | lhState
  /-- `lh_module_state` (R246) -/
  | lhModuleState
  /-- `lh_skew_ns` (R246) -/
  | lhSkewNs
  /-- `lh_rdi_rx` (R246) -/
  | lhRdiRx
  /-- `lh_tx_frames` (R246) -/
  | lhTxFrames
  /-- `lh_rx_frames` (R246) -/
  | lhRxFrames
  /-- `lh_bad_frames` (R246) -/
  | lhBadFrames
  /-- `lh_oof_events` (R246) -/
  | lhOofEvents
  /-- `lh_oom_events` (R246) -/
  | lhOomEvents
  /-- `lh_peer_mismatch` (R246) -/
  | lhPeerMismatch
  /-- `lh_erased_frames` (R246) -/
  | lhErasedFrames
  /-- `lh_partner_device` (R246) -/
  | lhPartnerDevice
  /-- `lh_deskew_max_us` (R246) -/
  | lhDeskewMaxUs
  /-- `lh_renak_us` (R246) -/
  | lhRenakUs
  /-- `lh_retx_timeout_us` (R246) -/
  | lhRetxTimeoutUs
  /-- `lh_retx_max` (R246) -/
  | lhRetxMax
  /-- `lh_bundle` (R246) -/
  | lhBundle
  /-- `lh_mfn_tx` (R246) -/
  | lhMfnTx
  /-- `lh_mfn_rx` (R246) -/
  | lhMfnRx
  /-- `lh_stripes_repaired` (R246) -/
  | lhStripesRepaired
  /-- `lh_stripes_unrecovered` (R246) -/
  | lhStripesUnrecovered
  /-- `lh_parity_dropped` (R246) -/
  | lhParityDropped
  /-- `lh_slot_malformed` (R246) -/
  | lhSlotMalformed
  /-- `lh_trib_mismatch` (R246) -/
  | lhTribMismatch
  /-- `lh_no_trib` (R246) -/
  | lhNoTrib
  /-- `lh_dup_slots` (R246) -/
  | lhDupSlots
  /-- `lh_window_drop` (R246) -/
  | lhWindowDrop
  /-- `lh_rx_quota_drop` (R246) -/
  | lhRxQuotaDrop
  /-- `lh_nak_ignored` (R246) -/
  | lhNakIgnored
  /-- `lh_nak_overflow` (R246) -/
  | lhNakOverflow
  /-- `lh_frames_lost` (R246) -/
  | lhFramesLost
  /-- `lh_rx_reject` (R246) -/
  | lhRxReject
  /-- `aps_command` (R246) -/
  | apsCommand
  /-- `lh_holdoff_ms` (R246) -/
  | lhHoldoffMs
  /-- `lh_wtr_s` (R246) -/
  | lhWtrS
  /-- `lh_sd_threshold` (R246) -/
  | lhSdThreshold
  /-- `aps_local_req` (R246) -/
  | apsLocalReq
  /-- `aps_remote_req` (R246) -/
  | apsRemoteReq
  /-- `aps_bridge` (R246) -/
  | apsBridge
  /-- `aps_select` (R246) -/
  | apsSelect
  /-- `aps_switches` (R246) -/
  | apsSwitches
  /-- `aps_wtr_left_s` (R246) -/
  | apsWtrLeftS
  /-- `tsi_dir_sel` (R246) -/
  | tsiDirSel
  /-- `tsi_pos_sel` (R246) -/
  | tsiPosSel
  /-- `tsi_entry` (R246) -/
  | tsiEntry
  /-- `tsi_entry_active` (R246) -/
  | tsiEntryActive
  /-- `tsi_pcode` (R246) -/
  | tsiPcode
  /-- `tsi_pcode_active` (R246) -/
  | tsiPcodeActive
  /-- `tsi_switch_mfn` (R246) -/
  | tsiSwitchMfn
  /-- `tsi_commit_cmd` (R246) -/
  | tsiCommitCmd
  /-- `tsi_unready` (R246) -/
  | tsiUnready
  /-- `trib_sel` (R246) -/
  | tribSel
  /-- `trib_desc` (R246) -/
  | tribDesc
  /-- `trib_tx_next` (R246) -/
  | tribTxNext
  /-- `trib_rx_expected` (R246) -/
  | tribRxExpected
  /-- `trib_unacked` (R246) -/
  | tribUnacked
  /-- `trib_held` (R246) -/
  | tribHeld
  /-- `trib_retransmitted` (R246) -/
  | tribRetransmitted
  /-- `trib_lost_slots` (R246) -/
  | tribLostSlots
  /-- `trib_tx_bytes` (R246) -/
  | tribTxBytes
  /-- `trib_rx_bytes` (R246) -/
  | tribRxBytes
  /-- `cipher_tx_retired` (R272) -/
  | cipherTxRetired
  /-- `cipher_rx_retired` (R272) -/
  | cipherRxRetired
  /-- `key_limit_log2` (R272) -/
  | keyLimitLog2
  /-- `key_epoch_tx` (R272) -/
  | keyEpochTx
  /-- `key_epoch_rx` (R272) -/
  | keyEpochRx
  /-- `key_epoch_hi` (R272) -/
  | keyEpochHi
  /-- `rekey_mfn` (R272) -/
  | rekeyMfn
  /-- `rekey_cmd` (R272) -/
  | rekeyCmd
  /-- `rekey_state` (R272) -/
  | rekeyState
  /-- `rekey_auto` (R272) -/
  | rekeyAuto
  /-- `gcm_tx_records` (R272) -/
  | gcmTxRecords
  /-- `gcm_rx_records` (R272) -/
  | gcmRxRecords
  /-- `gcm_auth_fail` (R272) -/
  | gcmAuthFail
  /-- `gcm_nonce_reject` (R272) -/
  | gcmNonceReject
  /-- `key_unknown` (R272) -/
  | keyUnknown
  /-- `gcm_len_reject` (R272) -/
  | gcmLenReject
  /-- `key_exhausted` (R272) -/
  | keyExhausted
  /-- `kdf_derivations` (R272) -/
  | kdfDerivations
  /-- `cipher_faults` (R272) -/
  | cipherFaults
  /-- `unwrap_fail` (R272) -/
  | unwrapFail
  /-- `key_sel` (R272) -/
  | keySel
  /-- `master_wrapped` (R272) -/
  | masterWrapped
  /-- `master_cmd` (R272) -/
  | masterCmd
  /-- `master_state` (R272) -/
  | masterState
  /-- `key_held` (R272) -/
  | keyHeld
  /-- `key_ctr_max` (R272) -/
  | keyCtrMax
  /-- `key_stalled` (R272) -/
  | keyStalled
  /-- `repl_timeout_ms` (R290) -/
  | replTimeoutMs
  /-- `repl_retry_max` (R290) -/
  | replRetryMax
  /-- `ckpt_pages_stored` (R290) -/
  | ckptPagesStored
  /-- `ckpt_pages_unchanged` (R290) -/
  | ckptPagesUnchanged
  /-- `ckpt_no_region` (R290) -/
  | ckptNoRegion
  /-- `ckpt_tenant_reject` (R290) -/
  | ckptTenantReject
  /-- `ckpt_role_reject` (R290) -/
  | ckptRoleReject
  /-- `ckpt_malformed` (R290) -/
  | ckptMalformed
  /-- `ckpt_stale` (R290) -/
  | ckptStale
  /-- `ckpt_late_write` (R290) -/
  | ckptLateWrite
  /-- `ckpt_commit_refused` (R290) -/
  | ckptCommitRefused
  /-- `ckpt_read_fail` (R290) -/
  | ckptReadFail
  /-- `repl_retries` (R290) -/
  | replRetries
  /-- `repl_failed` (R290) -/
  | replFailed
  /-- `drain_refused` (R290) -/
  | drainRefused
  /-- `drain_abandoned` (R290) -/
  | drainAbandoned
  /-- `t2_versions_recovered` (R290) -/
  | t2VersionsRecovered
  /-- `rgn_sel` (R290) -/
  | rgnSel
  /-- `rgn_desc` (R290) -/
  | rgnDesc
  /-- `rgn_pages` (R290) -/
  | rgnPages
  /-- `rgn_t1_limit` (R290) -/
  | rgnT1Limit
  /-- `rgn_t2_pages` (R290) -/
  | rgnT2Pages
  /-- `rgn_sync` (R290) -/
  | rgnSync
  /-- `rgn_peer_device` (R290) -/
  | rgnPeerDevice
  /-- `rgn_peer_region` (R290) -/
  | rgnPeerRegion
  /-- `rgn_mirror_device` (R290) -/
  | rgnMirrorDevice
  /-- `rgn_mirror_region` (R290) -/
  | rgnMirrorRegion
  /-- `rgn_state` (R290) -/
  | rgnState
  /-- `rgn_cmd` (R290) -/
  | rgnCmd
  /-- `rgn_status` (R290) -/
  | rgnStatus
  /-- `rgn_version` (R290) -/
  | rgnVersion
  /-- `rgn_t1_held` (R290) -/
  | rgnT1Held
  /-- `rgn_boundary_kind` (R290) -/
  | rgnBoundaryKind
  /-- `rgn_boundary_time` (R290) -/
  | rgnBoundaryTime
  /-- `rgn_boundary_tb` (R290) -/
  | rgnBoundaryTb
  /-- `rgn_boundary_value` (R290) -/
  | rgnBoundaryValue
  /-- `repl_state` (R290) -/
  | replState
  /-- `repl_version` (R290) -/
  | replVersion
  /-- `mirror_state` (R290) -/
  | mirrorState
  /-- `mirror_version` (R290) -/
  | mirrorVersion
  /-- `t2_versions` (R290) -/
  | t2Versions
  /-- `xtalk_mode` (R315) -/
  | xtalkMode
  /-- `xtalk_mode_active` (R315) -/
  | xtalkModeActive
  /-- `wl_check_mode` (R315) -/
  | wlCheckMode
  /-- `wl_check_active` (R315) -/
  | wlCheckActive
  /-- `cal_period_s` (R315) -/
  | calPeriodS
  /-- `cal_window_req` (R315) -/
  | calWindowReq
  /-- `cal_force_sel` (R315) -/
  | calForceSel
  /-- `cal_force_cmd` (R315) -/
  | calForceCmd
  /-- `matrix_cmd` (R315) -/
  | matrixCmd
  /-- `heater_reserve_uw` (R315) -/
  | heaterReserveUw
  /-- `heater_headroom_uw` (R315) -/
  | heaterHeadroomUw
  /-- `laser_sel` (R315) -/
  | laserSel
  /-- `laser_state` (R315) -/
  | laserState
  /-- `laser_power` (R315) -/
  | laserPower
  /-- `laser_tones` (R315) -/
  | laserTones
  /-- `laser_cmd` (R315) -/
  | laserCmd
  /-- `ring_sel` (R315) -/
  | ringSel
  /-- `ring_state` (R315) -/
  | ringState
  /-- `ring_heater_code` (R315) -/
  | ringHeaterCode
  /-- `ring_offset_mhz` (R315) -/
  | ringOffsetMhz
  /-- `ring_wrong_locks` (R315) -/
  | ringWrongLocks
  /-- `cal_rounds` (R315) -/
  | calRounds
  /-- `cal_aborts` (R315) -/
  | calAborts
  /-- `cal_fit_fail` (R315) -/
  | calFitFail
  /-- `cal_forced` (R315) -/
  | calForced
  /-- `matrix_rounds` (R315) -/
  | matrixRounds
  /-- `wrong_lock_events` (R315) -/
  | wrongLockEvents
  /-- `wl_retired` (R315) -/
  | wlRetired
  /-- `laser_loss_events` (R315) -/
  | laserLossEvents
  /-- `byp_a` (R331) -/
  | bypA
  /-- `byp_b` (R331) -/
  | bypB
  /-- `byp_kind` (R331) -/
  | bypKind
  /-- `byp_cmd` (R331) -/
  | bypCmd
  /-- `byp_map` (R331) -/
  | bypMap
  /-- `byp_port_sel` (R331) -/
  | bypPortSel
  /-- `byp_win_peer` (R331) -/
  | bypWinPeer
  /-- `byp_win_cells` (R331) -/
  | bypWinCells
  /-- `byp_installs` (R331) -/
  | bypInstalls
  /-- `byp_drop_frames` (R331) -/
  | bypDropFrames
  /-- `byp_windows` (R331) -/
  | bypWindows
  /-- `byp_path_faults` (R331) -/
  | bypPathFaults
  /-- `byp_win_rx_err` (R331) -/
  | bypWinRxErr
  /-- `byp_win_overrun` (R331) -/
  | bypWinOverrun
  /-- `tb_domain` (R353) -/
  | tbDomain
  /-- `tb_enable` (R353) -/
  | tbEnable
  /-- `tb_state` (R353) -/
  | tbState
  /-- `tb_time` (R353) -/
  | tbTime
  /-- `tb_offset_ns` (R353) -/
  | tbOffsetNs
  /-- `tb_freq_ppb` (R353) -/
  | tbFreqPpb
  /-- `servo_kp` (R353) -/
  | servoKp
  /-- `servo_ki` (R353) -/
  | servoKi
  /-- `step_threshold_ns` (R353) -/
  | stepThresholdNs
  /-- `lock_threshold_ns` (R353) -/
  | lockThresholdNs
  /-- `holdover_timeout_ms` (R353) -/
  | holdoverTimeoutMs
  /-- `sync_interval_log2` (R353) -/
  | syncIntervalLog2
  /-- `tb_redundant` (R353) -/
  | tbRedundant
  /-- `tb_switch_cmd` (R353) -/
  | tbSwitchCmd
  /-- `tb_source` (R353) -/
  | tbSource
  /-- `tb_standby_diff_ns` (R353) -/
  | tbStandbyDiffNs
  /-- `ptp_port_sel` (R353) -/
  | ptpPortSel
  /-- `ptp_port_role` (R353) -/
  | ptpPortRole
  /-- `tb_steps` (R353) -/
  | tbSteps
  /-- `tb_holdovers` (R353) -/
  | tbHoldovers
  /-- `tb_switchovers` (R353) -/
  | tbSwitchovers
  /-- `ptp_rx_discard` (R353) -/
  | ptpRxDiscard
  /-- `ptp_twostep_reject` (R353) -/
  | ptpTwostepReject
  /-- `ptp_lh_untimed` (R353) -/
  | ptpLhUntimed
  /-- `tb_offset_max_ns` (R353) -/
  | tbOffsetMaxNs
  /-- `link_delay_ns` (R354) -/
  | linkDelayNs
  /-- `link_delay_valid` (R354) -/
  | linkDelayValid
  /-- `lh_asym_ns` (R354) -/
  | lhAsymNs
  /-- `lh_link_delay_ns` (R354) -/
  | lhLinkDelayNs
  /-- `lh_link_delay_valid` (R354) -/
  | lhLinkDelayValid
  /-- `tn_agent_fp` (R356) -/
  | tnAgentFp
  /-- `tn_planes` (R356) -/
  | tnPlanes
  /-- `tn_state` (R356) -/
  | tnState
  /-- `tn_cmd` (R356) -/
  | tnCmd
  /-- `tn_sync_range` (R356) -/
  | tnSyncRange
  /-- `tn_group_range` (R356) -/
  | tnGroupRange
  /-- `tn_disp_range` (R356) -/
  | tnDispRange
  /-- `tn_cell_quota` (R356) -/
  | tnCellQuota
  /-- `tn_cells_used` (R356) -/
  | tnCellsUsed
  /-- `tn_cell_drop` (R356) -/
  | tnCellDrop
  /-- `tn_suspend_drop` (R356) -/
  | tnSuspendDrop
  /-- `tn_bound_ports` (R356) -/
  | tnBoundPorts
  /-- `vendor_name` (R395) -/
  | vendorName
  /-- `part_name` (R395) -/
  | partName
  /-- `silicon_rev` (R395) -/
  | siliconRev
  /-- `serial_number` (R395) -/
  | serialNumber
  /-- `device_id` (R395) -/
  | deviceId
  /-- `device_id_active` (R395) -/
  | deviceIdActive
  /-- `fw_version` (R395) -/
  | fwVersion
  /-- `dict_version` (R395) -/
  | dictVersion
  /-- `ndp_udp_port` (R395) -/
  | ndpUdpPort
  /-- `mgmt_port_sel` (R395) -/
  | mgmtPortSel
  /-- `mgmt_ipv6_addr` (R395) -/
  | mgmtIpv6Addr
  /-- `mgmt_prefix_len` (R395) -/
  | mgmtPrefixLen
  /-- `mgmt_link_state` (R395) -/
  | mgmtLinkState
  /-- `ndp_sessions` (R395) -/
  | ndpSessions
  /-- `host_role` (R395) -/
  | hostRole
  /-- `ndp_session_idle_s` (R395) -/
  | ndpSessionIdleS
  /-- `ndp_requests` (R395) -/
  | ndpRequests
  /-- `mgmt_refused` (R395) -/
  | mgmtRefused
  /-- `ndp_auth_fail` (R395) -/
  | ndpAuthFail
  /-- `ndp_dup_requests` (R395) -/
  | ndpDupRequests
  /-- `ndp_malformed` (R395) -/
  | ndpMalformed
  /-- `domain_discarded` (R395) -/
  | domainDiscarded
  /-- `host_win_write` (R395) -/
  | hostWinWrite
  /-- `hw_map_sel` (R395) -/
  | hwMapSel
  /-- `hw_map` (R395) -/
  | hwMap
  /-- `role_fp_sel` (R395) -/
  | roleFpSel
  /-- `role_fp` (R395) -/
  | roleFp
  /-- `role_fp_roles` (R395) -/
  | roleFpRoles
  /-- `ca_cert` (R395) -/
  | caCert
  /-- `dev_cert` (R395) -/
  | devCert
  /-- `lock_cmd` (R395) -/
  | lockCmd
  /-- `lock_state` (R395) -/
  | lockState
  /-- `jnl_bank` (R395) -/
  | jnlBank
  /-- `jnl_generation` (R395) -/
  | jnlGeneration
  /-- `jnl_seq` (R395) -/
  | jnlSeq
  /-- `jnl_free_bytes` (R395) -/
  | jnlFreeBytes
  /-- `jnl_compactions` (R395) -/
  | jnlCompactions
  /-- `jnl_discarded` (R395) -/
  | jnlDiscarded
  /-- `jnl_errors` (R395) -/
  | jnlErrors
  /-- `jnl_export` (R395) -/
  | jnlExport
  /-- `factory_reset_cmd` (R395) -/
  | factoryResetCmd
  /-- `snap_time` (R395) -/
  | snapTime
  /-- `snap_tb` (R395) -/
  | snapTb
  /-- `snap_obj_sel` (R395) -/
  | snapObjSel
  /-- `snap_obj` (R395) -/
  | snapObj
  /-- `snap_cmd` (R395) -/
  | snapCmd
  /-- `snap_result` (R395) -/
  | snapResult
  /-- `irq_summary` (R398) -/
  | irqSummary
  /-- `irq_mask` (R398) -/
  | irqMask
  /-- `irq_msix_en` (R398) -/
  | irqMsixEn
  /-- `time_summary` (R398) -/
  | timeSummary
  /-- `time_mask` (R398) -/
  | timeMask
  /-- `pl_summary` (R398) -/
  | plSummary
  /-- `pl_mask` (R398) -/
  | plMask
  /-- `health_summary` (R437) -/
  | healthSummary
  /-- `repl_reasons` (R437) -/
  | replReasons
  /-- `repl_open_time` (R437) -/
  | replOpenTime
  /-- `device_horizon_days` (R437) -/
  | deviceHorizonDays
  /-- `horizon_limit_days` (R437) -/
  | horizonLimitDays
  /-- `repl_cmd` (R437) -/
  | replCmd
  /-- `retire_log` (R437) -/
  | retireLog
  /-- `retire_clear_plane` (R437) -/
  | retireClearPlane
  /-- `retire_clear_cmd` (R437) -/
  | retireClearCmd
  /-- `diag_plane` (R437) -/
  | diagPlane
  /-- `diag_chan_sel` (R437) -/
  | diagChanSel
  /-- `diag_inject_cmd` (R437) -/
  | diagInjectCmd
  /-- `diag_full_bist_cmd` (R437) -/
  | diagFullBistCmd
  /-- `diag_injected` (R437) -/
  | diagInjected
  /-- `hf_chan_sel` (R437) -/
  | hfChanSel
  /-- `hf_chan_state` (R437) -/
  | hfChanState
  /-- `hf_chan_faults` (R437) -/
  | hfChanFaults
  /-- `hf_chan_window` (R437) -/
  | hfChanWindow
  /-- `hf_chan_over` (R437) -/
  | hfChanOver
  /-- `hf_threshold` (R437) -/
  | hfThreshold
  /-- `hf_restore_cmd` (R437) -/
  | hfRestoreCmd
  /-- `hf_retire_cmd` (R437) -/
  | hfRetireCmd
  /-- `plane_recover_cmd` (R437) -/
  | planeRecoverCmd
  /-- `maint_cmd` (R437) -/
  | maintCmd
  /-- `fuse_cmd` (R437) -/
  | fuseCmd
  /-- `plane_recoveries` (R437) -/
  | planeRecoveries
  /-- `plane_horizon_days` (R437) -/
  | planeHorizonDays
  /-- `bist_enable` (R437) -/
  | bistEnable
  /-- `bist_spacing_us` (R437) -/
  | bistSpacingUs
  /-- `bist_port_slices` (R437) -/
  | bistPortSlices
  /-- `bist_rotation_pos` (R437) -/
  | bistRotationPos
  /-- `bist_units_tested` (R437) -/
  | bistUnitsTested
  /-- `bist_skipped` (R437) -/
  | bistSkipped
  /-- `bist_failures` (R437) -/
  | bistFailures
  /-- `soft_repairs` (R437) -/
  | softRepairs
  /-- `bist_rotation_s` (R437) -/
  | bistRotationS
  /-- `mon_sel` (R437) -/
  | monSel
  /-- `mon_value` (R437) -/
  | monValue
  /-- `mon_limit` (R437) -/
  | monLimit
  /-- `mon_horizon_days` (R437) -/
  | monHorizonDays
  /-- `replan_cmd` (R437) -/
  | replanCmd
  /-- `replan_last` (R437) -/
  | replanLast
  /-- `sc_source_device` (R437) -/
  | scSourceDevice
  /-- `sc_tenant` (R437) -/
  | scTenant
  /-- `sc_sync_first` (R437) -/
  | scSyncFirst
  /-- `sc_sync_count` (R437) -/
  | scSyncCount
  /-- `sc_slot_first` (R437) -/
  | scSlotFirst
  /-- `sc_slot_count` (R437) -/
  | scSlotCount
  /-- `sc_boundary_kind` (R437) -/
  | scBoundaryKind
  /-- `sc_boundary_time` (R437) -/
  | scBoundaryTime
  /-- `sc_boundary_tb` (R437) -/
  | scBoundaryTb
  /-- `sc_boundary_obj` (R437) -/
  | scBoundaryObj
  /-- `sc_boundary_value` (R437) -/
  | scBoundaryValue
  /-- `sc_cmd` (R437) -/
  | scCmd
  /-- `sc_state` (R437) -/
  | scState
  /-- `sc_status` (R437) -/
  | scStatus
  /-- `sc_pages_copied` (R437) -/
  | scPagesCopied
  /-- `sc_timeout_ms` (R437) -/
  | scTimeoutMs
  /-- `sc_serve_device` (R437) -/
  | scServeDevice
  /-- `boot_image` (R458) -/
  | bootImage
  /-- `boot_pref` (R458) -/
  | bootPref
  /-- `fw_version_a` (R458) -/
  | fwVersionA
  /-- `fw_version_b` (R458) -/
  | fwVersionB
  /-- `rollback_floor` (R458) -/
  | rollbackFloor
  /-- `fw_update` (R458) -/
  | fwUpdate
  /-- `fw_update_cmd` (R458) -/
  | fwUpdateCmd
  /-- `boot_key_hash` (R458) -/
  | bootKeyHash
  /-- `pkg_power_w` (R458) -/
  | pkgPowerW
  /-- `power_limit_w` (R458) -/
  | powerLimitW
  /-- `op_level` (R458) -/
  | opLevel
  /-- `vdd_core_mv` (R458) -/
  | vddCoreMv
  /-- `avs_margin_mv` (R458) -/
  | avsMarginMv
  /-- `tj_max` (R458) -/
  | tjMax
  /-- `chiplet_temp` (R458) -/
  | chipletTemp
  /-- `rail_sel` (R458) -/
  | railSel
  /-- `rail_mv` (R458) -/
  | railMv
  /-- `rail_ma` (R458) -/
  | railMa
  /-- `throttle_events` (R458) -/
  | throttleEvents
  /-- `pmbus_errors` (R458) -/
  | pmbusErrors
  /-- `refclk_state` (R458) -/
  | refclkState
  /-- `reset_reason` (R458) -/
  | resetReason
  /-- `plane_reset_sel` (R458) -/
  | planeResetSel
  /-- `plane_reset_cmd` (R458) -/
  | planeResetCmd
  /-- `bringup_stage` (R458) -/
  | bringupStage
  /-- `bringup_time_ms` (R458) -/
  | bringupTimeMs
  /-- `cause` (R399) -/
  | cause
  /-- `cause_mask` (R399) -/
  | causeMask
  /-- `cause_unit` (R399) -/
  | causeUnit
  /-- `cause_time` (R399) -/
  | causeTime
  /-- `evt_filter` (R405) -/
  | evtFilter
  deriving DecidableEq, Repr

/-- Where an object's index lies (Table 17.4), and which instance of the device it belongs to. -/
inductive Space where
  /-- one object of the hub at this index -/
  | hub
  /-- 0x1400: one per plane, at subindexes from `sub` on (R10) -/
  | role
  /-- 0x1410 + p: fabric port partitions, from subindex 0x01 (R32) -/
  | partF
  /-- 0x1410 + p: long-haul port partitions, from subindex 0x81 -/
  | partL
  /-- base + p -/
  | hubPlane
  /-- 0x8000 + t -/
  | tenant
  /-- 0x8000 + t at subindex 0x10 + 0x10 p + k (R356) -/
  | tenantPlane
  /-- 0x3000 + 0x100 p + 0x20 n (R353) -/
  | timeBase
  /-- B + n for fabric port n -/
  | fabric
  /-- B + 0x080 + n -/
  | longHaul
  /-- B + 0x0A0 + n -/
  | chiplet
  /-- B + 0x0B0 + n -/
  | bypass
  /-- B + base -/
  | plane
  /-- a cause object (R399) -/
  | cause
  /-- 0x9000 + e (R405) -/
  | evtFilter
  deriving DecidableEq, Repr

/-- Types (Table 17.1). -/
inductive Ty where
  | bool | u8 | u16 | u32 | u64 | i16 | i32 | i64 | time
  | octets (n : Nat)
  | string (n : Nat)
  | domain
  deriving DecidableEq, Repr

/-- Access codes (Table 17.2). -/
inductive Acc where
  | ro | rw | wo | rwp | rwl | cmd
  deriving DecidableEq, Repr

/-- One row of an object table. -/
structure ObjInfo where
  space : Space
  base : Nat
  sub : Nat
  ty : Ty
  acc : Acc
  dflt : Nat
  deriving DecidableEq, Repr

/-- Bytes of a value of a type (Table 17.1); a STRING's greatest size, 0 for a DOMAIN. -/
def Ty.bytes : Ty → Nat
  | .bool => 1 | .u8 => 1 | .u16 => 2 | .u32 => 4 | .u64 => 8
  | .i16 => 2 | .i32 => 4 | .i64 => 8 | .time => 10
  | .octets n => n | .string n => n | .domain => 0

/-- Type codes (Table 17.1). -/
def Ty.code : Ty → Nat
  | .bool => 0x01 | .u8 => 0x02 | .u16 => 0x03 | .u32 => 0x04 | .u64 => 0x05
  | .i16 => 0x06 | .i32 => 0x07 | .i64 => 0x08 | .time => 0x0A
  | .octets _ => 0x0B | .string _ => 0x0C | .domain => 0x0D

/-- The row of each object in its chapter's table. -/
def Obj.info : Obj → ObjInfo
  | .planeRole => ⟨.role, 0x0, 0x1, .u8, .rwp, 0⟩
  | .planeRoleActive => ⟨.role, 0x0, 0x5, .u8, .ro, 0⟩
  | .fmTimeoutMs => ⟨.hub, 0x1400, 0x9, .u32, .rwp, 10000⟩
  | .portPartition => ⟨.partF, 0x1410, 0x1, .u8, .rwp, 0⟩
  | .lhPortPartition => ⟨.partL, 0x1410, 0x81, .u8, .rwp, 0⟩
  | .fencePartition => ⟨.hubPlane, 0x1420, 0x1, .u8, .rw, 0⟩
  | .fenceCmd => ⟨.hubPlane, 0x1420, 0x2, .u8, .cmd, 0⟩
  | .fencedFabricLo => ⟨.hubPlane, 0x1420, 0x3, .u64, .ro, 0⟩
  | .fencedFabricHi => ⟨.hubPlane, 0x1420, 0x4, .u64, .ro, 0⟩
  | .fencedLongHaul => ⟨.hubPlane, 0x1420, 0x5, .u8, .ro, 0⟩
  | .portAdmin => ⟨.fabric, 0x0, 0x1, .u8, .rwp, 1⟩
  | .portState => ⟨.fabric, 0x0, 0x2, .u8, .ro, 0⟩
  | .portRate => ⟨.fabric, 0x0, 0x3, .u8, .ro, 0⟩
  | .portLaneRetired => ⟨.fabric, 0x0, 0x4, .u8, .ro, 0⟩
  | .peerId => ⟨.fabric, 0x0, 0x5, .u32, .ro, 0⟩
  | .creditLimit => ⟨.fabric, 0x0, 0x6, (.octets 16), .rwp, 0x4000200040004000100004000400080⟩
  | .ackTimeoutNs => ⟨.fabric, 0x0, 0x7, .u32, .rwp, 4000⟩
  | .tenantBindSel => ⟨.fabric, 0x0, 0x8, .u8, .rw, 0⟩
  | .tenantBind => ⟨.fabric, 0x0, 0x9, .u16, .rwp, 65535⟩
  | .trainCmd => ⟨.fabric, 0x0, 0xA, .u8, .cmd, 0⟩
  | .rxFrames => ⟨.fabric, 0x0, 0x10, .u64, .ro, 0⟩
  | .rxBytes => ⟨.fabric, 0x0, 0x11, .u64, .ro, 0⟩
  | .txFrames => ⟨.fabric, 0x0, 0x12, .u64, .ro, 0⟩
  | .txBytes => ⟨.fabric, 0x0, 0x13, .u64, .ro, 0⟩
  | .fecCorrected => ⟨.fabric, 0x0, 0x14, .u64, .ro, 0⟩
  | .fecUncorrectable => ⟨.fabric, 0x0, 0x15, .u32, .ro, 0⟩
  | .hdrCrcErr => ⟨.fabric, 0x0, 0x16, .u32, .ro, 0⟩
  | .crc32Err => ⟨.fabric, 0x0, 0x17, .u32, .ro, 0⟩
  | .stompedRx => ⟨.fabric, 0x0, 0x18, .u32, .ro, 0⟩
  | .outOfSeq => ⟨.fabric, 0x0, 0x19, .u32, .ro, 0⟩
  | .retransmissions => ⟨.fabric, 0x0, 0x1A, .u32, .ro, 0⟩
  | .nakIgnored => ⟨.fabric, 0x0, 0x1B, .u32, .ro, 0⟩
  | .retryExhausted => ⟨.fabric, 0x0, 0x1C, .u32, .ro, 0⟩
  | .linkDiscard => ⟨.fabric, 0x0, 0x1D, .u32, .ro, 0⟩
  | .creditViolation => ⟨.fabric, 0x0, 0x1E, .u32, .ro, 0⟩
  | .opcodeReject => ⟨.fabric, 0x0, 0x1F, .u32, .ro, 0⟩
  | .planeReject => ⟨.fabric, 0x0, 0x20, .u32, .ro, 0⟩
  | .tenantReject => ⟨.fabric, 0x0, 0x21, .u32, .ro, 0⟩
  | .hopsExpired => ⟨.fabric, 0x0, 0x22, .u32, .ro, 0⟩
  | .trainingFail => ⟨.fabric, 0x0, 0x23, .u32, .ro, 0⟩
  | .rxNotUp => ⟨.fabric, 0x0, 0x24, .u32, .ro, 0⟩
  | .switchStatus => ⟨.plane, 0x100, 0x1, .u8, .ro, 0⟩
  | .spareInUse => ⟨.plane, 0x100, 0x2, .u32, .ro, 0⟩
  | .ecnMin => ⟨.plane, 0x100, 0x3, (.octets 16), .rwp, 0x2000200020002000200020002000200⟩
  | .ecnMax => ⟨.plane, 0x100, 0x4, (.octets 16), .rwp, 0x6000600060006000600060006000600⟩
  | .reseqTimeoutUs => ⟨.plane, 0x100, 0x5, .u32, .rwp, 200⟩
  | .swapCmd => ⟨.plane, 0x100, 0x6, .u8, .cmd, 0⟩
  | .parkedFrames => ⟨.plane, 0x100, 0x10, .u64, .ro, 0⟩
  | .movedCells => ⟨.plane, 0x100, 0x11, .u64, .ro, 0⟩
  | .deferredCopies => ⟨.plane, 0x100, 0x12, .u64, .ro, 0⟩
  | .mcastCopies => ⟨.plane, 0x100, 0x13, .u64, .ro, 0⟩
  | .mcastOmitted => ⟨.plane, 0x100, 0x14, .u32, .ro, 0⟩
  | .ecnMarked => ⟨.plane, 0x100, 0x15, .u64, .ro, 0⟩
  | .routeMiss => ⟨.plane, 0x100, 0x16, .u32, .ro, 0⟩
  | .partitionDiscard => ⟨.plane, 0x100, 0x17, .u32, .ro, 0⟩
  | .kiteLossFrames => ⟨.plane, 0x100, 0x18, .u32, .ro, 0⟩
  | .kiteSwaps => ⟨.plane, 0x100, 0x19, .u32, .ro, 0⟩
  | .lostFrameRetrain => ⟨.plane, 0x100, 0x1A, .u32, .ro, 0⟩
  | .reseqGap => ⟨.plane, 0x100, 0x1B, .u32, .ro, 0⟩
  | .reseqWindowDrop => ⟨.plane, 0x100, 0x1C, .u32, .ro, 0⟩
  | .reseqStoreFull => ⟨.plane, 0x100, 0x1D, .u32, .ro, 0⟩
  | .reseqUntracked => ⟨.plane, 0x100, 0x1E, .u32, .ro, 0⟩
  | .routeSel => ⟨.plane, 0x101, 0x1, .u16, .rw, 0⟩
  | .routeEntry => ⟨.plane, 0x101, 0x2, .u32, .rwp, 0⟩
  | .spraySel => ⟨.plane, 0x102, 0x1, .u8, .rw, 0⟩
  | .sprayMembers => ⟨.plane, 0x102, 0x2, (.octets 32), .rwp, 0xffffffffffffffffffffffffffffffffffffffffffffffffffffffffffffffff⟩
  | .sprayLive => ⟨.plane, 0x102, 0x3, .u32, .ro, 0⟩
  | .mcastSel => ⟨.plane, 0x103, 0x1, .u16, .rw, 0⟩
  | .mcastSet => ⟨.plane, 0x103, 0x2, (.octets 20), .rwp, 0⟩
  | .kiteSel => ⟨.plane, 0x104, 0x1, .u16, .rw, 0⟩
  | .kiteState => ⟨.plane, 0x104, 0x2, .u8, .ro, 0⟩
  | .kiteOccupancy => ⟨.plane, 0x104, 0x3, .u16, .ro, 0⟩
  | .kiteParkedCells => ⟨.plane, 0x104, 0x4, .u16, .ro, 0⟩
  | .kiteHighWater => ⟨.plane, 0x104, 0x5, .u16, .rw, 0⟩
  | .kiteStandIn => ⟨.plane, 0x104, 0x6, .u8, .ro, 255⟩
  | .poolSel => ⟨.plane, 0x300, 0x1, .u8, .rw, 0⟩
  | .poolSizeGib => ⟨.plane, 0x300, 0x2, .u16, .rwp, 0⟩
  | .poolBufSize => ⟨.plane, 0x300, 0x3, .u8, .ro, 0⟩
  | .poolBuffers => ⟨.plane, 0x300, 0x4, .u32, .ro, 0⟩
  | .poolFree => ⟨.plane, 0x300, 0x5, .u32, .ro, 0⟩
  | .poolReserved => ⟨.plane, 0x300, 0x6, .u32, .ro, 0⟩
  | .poolLowWater => ⟨.plane, 0x300, 0x7, .u32, .rw, 0⟩
  | .doubleFree => ⟨.plane, 0x300, 0x8, .u32, .ro, 0⟩
  | .badFree => ⟨.plane, 0x300, 0x9, .u32, .ro, 0⟩
  | .poolCorrupt => ⟨.plane, 0x300, 0xA, .u32, .ro, 0⟩
  | .poolEmpty => ⟨.plane, 0x300, 0xB, .u32, .ro, 0⟩
  | .poolScrubCmd => ⟨.plane, 0x300, 0xC, .u8, .cmd, 0⟩
  | .quotaSel => ⟨.plane, 0x301, 0x1, .u16, .rw, 0⟩
  | .quotaBuffers => ⟨.plane, 0x301, 0x2, .u32, .rwp, 0⟩
  | .quotaUsed => ⟨.plane, 0x301, 0x3, .u32, .ro, 0⟩
  | .quotaHighWater => ⟨.plane, 0x301, 0x4, .u32, .rw, 0⟩
  | .quotaRefused => ⟨.plane, 0x301, 0x5, .u32, .ro, 0⟩
  | .hbmShare => ⟨.plane, 0x302, 0x1, (.octets 6), .rwp, 0x230a0a052305⟩
  | .hbmCapacityGib => ⟨.plane, 0x302, 0x2, .u16, .ro, 72⟩
  | .hbmCorrected => ⟨.plane, 0x302, 0x3, .u64, .ro, 0⟩
  | .cxlState => ⟨.plane, 0x303, 0x1, .u8, .ro, 0⟩
  | .cxlLink => ⟨.plane, 0x303, 0x2, .u8, .ro, 0⟩
  | .cxlCapacityGib => ⟨.plane, 0x303, 0x3, .u16, .ro, 0⟩
  | .cxlPoison => ⟨.plane, 0x303, 0x4, .u32, .ro, 0⟩
  | .cxlLinkDown => ⟨.plane, 0x303, 0x5, .u32, .ro, 0⟩
  | .cxlResetCmd => ⟨.plane, 0x303, 0x6, .u8, .cmd, 0⟩
  | .schedService => ⟨.plane, 0x200, 0x1, .u8, .rw, 1⟩
  | .schedServiceActive => ⟨.plane, 0x200, 0x2, .u8, .ro, 1⟩
  | .classRank => ⟨.plane, 0x200, 0x3, (.octets 8), .rwp, 0x1020304070605⟩
  | .urgencyMs => ⟨.plane, 0x200, 0x4, (.octets 16), .rwp, 0x320032003200320032003200320032⟩
  | .bgUrgencyMs => ⟨.plane, 0x200, 0x5, (.octets 6), .rwp, 0x3200320032⟩
  | .starvePromoted => ⟨.plane, 0x200, 0x6, .u32, .ro, 0⟩
  | .bgPromoted => ⟨.plane, 0x200, 0x7, .u32, .ro, 0⟩
  | .gclPortSel => ⟨.plane, 0x201, 0x1, .u8, .rw, 0⟩
  | .gclEnable => ⟨.plane, 0x201, 0x2, .u8, .rwp, 0⟩
  | .gclTimeBase => ⟨.plane, 0x201, 0x3, .u8, .rwp, 0⟩
  | .gclBaseTime => ⟨.plane, 0x201, 0x4, .time, .rwp, 0⟩
  | .gclCycleNs => ⟨.plane, 0x201, 0x5, .u32, .rwp, 1000⟩
  | .gclLength => ⟨.plane, 0x201, 0x6, .u16, .rwp, 1⟩
  | .gclEntrySel => ⟨.plane, 0x201, 0x7, .u8, .rw, 0⟩
  | .gclEntry => ⟨.plane, 0x201, 0x8, .u64, .rwp, 0xff000000000003e8⟩
  | .gclActiveEntry => ⟨.plane, 0x201, 0x9, .u64, .ro, 0xff000000000003e8⟩
  | .gclChangeTime => ⟨.plane, 0x201, 0xA, .time, .rw, 0⟩
  | .gclCommitCmd => ⟨.plane, 0x201, 0xB, .u8, .cmd, 0⟩
  | .gclCurrent => ⟨.plane, 0x201, 0xC, .u8, .ro, 0⟩
  | .gclLate => ⟨.plane, 0x201, 0xD, .u32, .ro, 0⟩
  | .gclTimeStep => ⟨.plane, 0x201, 0xE, .u32, .ro, 0⟩
  | .tqSel => ⟨.plane, 0x202, 0x1, .u16, .rw, 0⟩
  | .drrQuantum => ⟨.plane, 0x202, 0x2, .u32, .rwp, 16384⟩
  | .cbsIdleMbps => ⟨.plane, 0x202, 0x3, .u32, .rwp, 0⟩
  | .cbsHiCredit => ⟨.plane, 0x202, 0x4, .u32, .rwp, 65536⟩
  | .cbsLoCredit => ⟨.plane, 0x202, 0x5, .i32, .rwp, 0xffff0000⟩
  | .obsPortSel => ⟨.plane, 0x203, 0x1, .u8, .rw, 0⟩
  | .qDepth => ⟨.plane, 0x203, 0x2, .u32, .ro, 0⟩
  | .qDelayNs => ⟨.plane, 0x203, 0x3, .u32, .ro, 0⟩
  | .qDepthMax => ⟨.plane, 0x203, 0x4, .u32, .rw, 0⟩
  | .qDelayMax => ⟨.plane, 0x203, 0x5, .u32, .rw, 0⟩
  | .qPromoted => ⟨.plane, 0x203, 0x6, .u32, .ro, 0⟩
  | .classDepthHw => ⟨.plane, 0x203, 0x7, (.octets 32), .rw, 0⟩
  | .classDelayHw => ⟨.plane, 0x203, 0x8, (.octets 32), .rw, 0⟩
  | .redIdleTimeoutUs => ⟨.plane, 0x400, 0x1, .u32, .rwp, 10000⟩
  | .redRestartMax => ⟨.plane, 0x400, 0x2, .u8, .rwp, 4⟩
  | .anchorRaise => ⟨.plane, 0x400, 0x3, .u8, .rwp, 8⟩
  | .sparseMaxNz => ⟨.plane, 0x400, 0x4, .u8, .rwp, 16⟩
  | .redContextsActive => ⟨.plane, 0x400, 0x5, .u16, .ro, 0⟩
  | .redBlocksAdded => ⟨.plane, 0x400, 0x10, .u64, .ro, 0⟩
  | .redBlocksSkipped => ⟨.plane, 0x400, 0x11, .u64, .ro, 0⟩
  | .redNoContext => ⟨.plane, 0x400, 0x12, .u32, .ro, 0⟩
  | .redTenantReject => ⟨.plane, 0x400, 0x13, .u32, .ro, 0⟩
  | .redStale => ⟨.plane, 0x400, 0x14, .u32, .ro, 0⟩
  | .redRestarts => ⟨.plane, 0x400, 0x15, .u32, .ro, 0⟩
  | .redOverflowRestarts => ⟨.plane, 0x400, 0x16, .u32, .ro, 0⟩
  | .redFailed => ⟨.plane, 0x400, 0x17, .u32, .ro, 0⟩
  | .rctxRefused => ⟨.plane, 0x400, 0x18, .u32, .ro, 0⟩
  | .outSaturated => ⟨.plane, 0x400, 0x19, .u32, .ro, 0⟩
  | .accCorrected => ⟨.plane, 0x400, 0x1A, .u32, .ro, 0⟩
  | .rctxSel => ⟨.plane, 0x401, 0x1, .u16, .rw, 0⟩
  | .rctxDesc => ⟨.plane, 0x401, 0x2, .u64, .ro, 0⟩
  | .rctxTenant => ⟨.plane, 0x401, 0x3, .u16, .ro, 0⟩
  | .rctxSeed => ⟨.plane, 0x401, 0x4, .u32, .ro, 0⟩
  | .rctxState => ⟨.plane, 0x401, 0x5, .u8, .ro, 0⟩
  | .rctxStatus => ⟨.plane, 0x401, 0x6, .u8, .ro, 0⟩
  | .rctxAttempt => ⟨.plane, 0x401, 0x7, .u8, .ro, 255⟩
  | .rctxAnchorNow => ⟨.plane, 0x401, 0x8, .i16, .ro, 0⟩
  | .rctxBlocksDone => ⟨.plane, 0x401, 0x9, .u16, .ro, 0⟩
  | .rctxAbortCmd => ⟨.plane, 0x401, 0xA, .u8, .cmd, 0⟩
  | .reducerSel => ⟨.plane, 0x402, 0x1, .u8, .rw, 0⟩
  | .reducerState => ⟨.plane, 0x402, 0x2, .u8, .ro, 0⟩
  | .redLaneRetired => ⟨.plane, 0x402, 0x3, .u64, .ro, 0⟩
  | .spareLanesUsed => ⟨.plane, 0x402, 0x4, .u8, .ro, 0⟩
  | .accFreeElements => ⟨.plane, 0x402, 0x5, .u32, .ro, 196608⟩
  | .stepTimeoutMs => ⟨.plane, 0x500, 0x1, .u32, .rwp, 10000⟩
  | .xsiteTimeoutMs => ⟨.plane, 0x500, 0x2, .u32, .rwp, 1000⟩
  | .slotsRunning => ⟨.plane, 0x500, 0x3, .u16, .ro, 0⟩
  | .seqLaunches => ⟨.plane, 0x500, 0x10, .u64, .ro, 0⟩
  | .launchDup => ⟨.plane, 0x500, 0x11, .u32, .ro, 0⟩
  | .launchRefused => ⟨.plane, 0x500, 0x12, .u32, .ro, 0⟩
  | .seqMalformed => ⟨.plane, 0x500, 0x13, .u32, .ro, 0⟩
  | .seqTenantReject => ⟨.plane, 0x500, 0x14, .u32, .ro, 0⟩
  | .seqNonmember => ⟨.plane, 0x500, 0x15, .u32, .ro, 0⟩
  | .seqStale => ⟨.plane, 0x500, 0x16, .u32, .ro, 0⟩
  | .seqRangeReject => ⟨.plane, 0x500, 0x17, .u32, .ro, 0⟩
  | .dispReject => ⟨.plane, 0x500, 0x18, .u32, .ro, 0⟩
  | .reformMerges => ⟨.plane, 0x500, 0x19, .u32, .ro, 0⟩
  | .reformRestarts => ⟨.plane, 0x500, 0x1A, .u32, .ro, 0⟩
  | .syncSaturated => ⟨.plane, 0x500, 0x1B, .u32, .ro, 0⟩
  | .notifyRefused => ⟨.plane, 0x500, 0x1C, .u32, .ro, 0⟩
  | .slotSel => ⟨.plane, 0x501, 0x1, .u16, .rw, 0⟩
  | .slotTenant => ⟨.plane, 0x501, 0x2, .u16, .rwp, 65535⟩
  | .slotGroup => ⟨.plane, 0x501, 0x3, .u16, .rwp, 0⟩
  | .slotLength => ⟨.plane, 0x501, 0x4, .u8, .rwp, 1⟩
  | .slotStepSel => ⟨.plane, 0x501, 0x5, .u8, .rw, 0⟩
  | .slotStep => ⟨.plane, 0x501, 0x6, .u64, .rwp, 0⟩
  | .slotTplSel => ⟨.plane, 0x501, 0x7, .u8, .rw, 0⟩
  | .slotTpl => ⟨.plane, 0x501, 0x8, .u64, .rwp, 0⟩
  | .slotSeed => ⟨.plane, 0x501, 0x9, .u32, .rwp, 0⟩
  | .slotState => ⟨.plane, 0x501, 0xA, .u8, .ro, 0⟩
  | .slotStatus => ⟨.plane, 0x501, 0xB, .u8, .ro, 0⟩
  | .slotStepNow => ⟨.plane, 0x501, 0xC, .u8, .ro, 0⟩
  | .slotLaunchNo => ⟨.plane, 0x501, 0xD, .u64, .ro, 0⟩
  | .slotGen => ⟨.plane, 0x501, 0xE, .u8, .ro, 0⟩
  | .slotCmd => ⟨.plane, 0x501, 0xF, .u8, .cmd, 0⟩
  | .grpSel => ⟨.plane, 0x502, 0x1, .u16, .rw, 0⟩
  | .grpDesc => ⟨.plane, 0x502, 0x2, .u64, .rwp, 0⟩
  | .grpDescActive => ⟨.plane, 0x502, 0x3, .u64, .ro, 0⟩
  | .grpMemberSel => ⟨.plane, 0x502, 0x4, .u16, .rw, 0⟩
  | .grpMember => ⟨.plane, 0x502, 0x5, .u32, .rwp, 4080⟩
  | .grpMemberActive => ⟨.plane, 0x502, 0x6, .u32, .ro, 4080⟩
  | .grpExclude => ⟨.plane, 0x502, 0x7, .u16, .wo, 0⟩
  | .grpBoundaryKind => ⟨.plane, 0x502, 0x8, .u8, .rw, 0⟩
  | .grpBoundaryTime => ⟨.plane, 0x502, 0x9, .time, .rw, 0⟩
  | .grpBoundaryTb => ⟨.plane, 0x502, 0xA, .u8, .rw, 0⟩
  | .grpBoundaryObj => ⟨.plane, 0x502, 0xB, .u16, .rw, 0⟩
  | .grpBoundaryValue => ⟨.plane, 0x502, 0xC, .u64, .rw, 0⟩
  | .grpCommitCmd => ⟨.plane, 0x502, 0xD, .u8, .cmd, 0⟩
  | .grpState => ⟨.plane, 0x502, 0xE, .u8, .ro, 0⟩
  | .grpLive => ⟨.plane, 0x502, 0xF, .u16, .ro, 0⟩
  | .syncSel => ⟨.plane, 0x503, 0x1, .u16, .rw, 0⟩
  | .syncValue => ⟨.plane, 0x503, 0x2, .u64, .rw, 0⟩
  | .syncSaturatedFlag => ⟨.plane, 0x503, 0x3, .bool, .ro, 0⟩
  | .notifyUsed => ⟨.plane, 0x503, 0x4, .u16, .ro, 0⟩
  | .dispSel => ⟨.plane, 0x504, 0x1, .u16, .rw, 0⟩
  | .dispExperts => ⟨.plane, 0x504, 0x2, .u16, .rwp, 1⟩
  | .dispTokenElems => ⟨.plane, 0x504, 0x3, .u32, .rwp, 32⟩
  | .dispOriginTokens => ⟨.plane, 0x504, 0x4, .u16, .rwp, 1⟩
  | .dispEntrySel => ⟨.plane, 0x504, 0x5, .u16, .rw, 0⟩
  | .dispEntry => ⟨.plane, 0x504, 0x6, .u32, .rwp, 0xfffff⟩
  | .mxTilesInService => ⟨.plane, 0x600, 0x1, .u8, .ro, 8⟩
  | .mxSpareInUse => ⟨.plane, 0x600, 0x2, .bool, .ro, 0⟩
  | .mxTileRetired => ⟨.plane, 0x600, 0x3, .u16, .ro, 0⟩
  | .mxProducts => ⟨.plane, 0x600, 0x10, .u64, .ro, 0⟩
  | .cmpElements => ⟨.plane, 0x600, 0x11, .u64, .ro, 0⟩
  | .cmpBytesSent => ⟨.plane, 0x600, 0x12, .u64, .ro, 0⟩
  | .cmpUncompressedUnits => ⟨.plane, 0x600, 0x13, .u32, .ro, 0⟩
  | .cmpRefused => ⟨.plane, 0x600, 0x14, .u32, .ro, 0⟩
  | .cmpMismatch => ⟨.plane, 0x600, 0x15, .u32, .ro, 0⟩
  | .expSaturated => ⟨.plane, 0x600, 0x16, .u32, .ro, 0⟩
  | .mxTileFaults => ⟨.plane, 0x600, 0x17, .u32, .ro, 0⟩
  | .cctxSel => ⟨.plane, 0x601, 0x1, .u8, .rw, 0⟩
  | .cctxTenant => ⟨.plane, 0x601, 0x2, .u16, .rwp, 65535⟩
  | .cctxDesc => ⟨.plane, 0x601, 0x3, .u64, .rwp, 0⟩
  | .cctxSeed => ⟨.plane, 0x601, 0x4, .u32, .rwp, 0⟩
  | .cctxChunks => ⟨.plane, 0x601, 0x5, .u32, .rwp, 1⟩
  | .cctxShardBlocks => ⟨.plane, 0x601, 0x6, .u16, .rwp, 1⟩
  | .cctxState => ⟨.plane, 0x601, 0x7, .u8, .ro, 0⟩
  | .cctxCmd => ⟨.plane, 0x601, 0x8, .u8, .cmd, 0⟩
  | .cctxResBuffers => ⟨.plane, 0x601, 0x9, .u32, .ro, 0⟩
  | .cctxProjBuffers => ⟨.plane, 0x601, 0xA, .u32, .ro, 0⟩
  | .cctxCommits => ⟨.plane, 0x601, 0xB, .u32, .ro, 0⟩
  | .lhAdmin => ⟨.longHaul, 0x80, 0x1, .u8, .rwp, 1⟩
  | .lhState => ⟨.longHaul, 0x80, 0x2, .u8, .ro, 0⟩
  | .lhModuleState => ⟨.longHaul, 0x80, 0x3, .u8, .ro, 0⟩
  | .lhSkewNs => ⟨.longHaul, 0x80, 0x4, .u32, .ro, 0⟩
  | .lhRdiRx => ⟨.longHaul, 0x80, 0x5, .bool, .ro, 0⟩
  | .lhTxFrames => ⟨.longHaul, 0x80, 0x10, .u64, .ro, 0⟩
  | .lhRxFrames => ⟨.longHaul, 0x80, 0x11, .u64, .ro, 0⟩
  | .lhBadFrames => ⟨.longHaul, 0x80, 0x12, .u32, .ro, 0⟩
  | .lhOofEvents => ⟨.longHaul, 0x80, 0x13, .u32, .ro, 0⟩
  | .lhOomEvents => ⟨.longHaul, 0x80, 0x14, .u32, .ro, 0⟩
  | .lhPeerMismatch => ⟨.longHaul, 0x80, 0x15, .u32, .ro, 0⟩
  | .lhErasedFrames => ⟨.longHaul, 0x80, 0x16, .u32, .ro, 0⟩
  | .lhPartnerDevice => ⟨.plane, 0x700, 0x1, .u16, .rwp, 0⟩
  | .lhDeskewMaxUs => ⟨.plane, 0x700, 0x2, .u16, .rwp, 4000⟩
  | .lhRenakUs => ⟨.plane, 0x700, 0x3, .u32, .rwp, 21000⟩
  | .lhRetxTimeoutUs => ⟨.plane, 0x700, 0x4, .u32, .rwp, 21000⟩
  | .lhRetxMax => ⟨.plane, 0x700, 0x5, .u8, .rwp, 8⟩
  | .lhBundle => ⟨.plane, 0x700, 0x6, .u8, .ro, 0⟩
  | .lhMfnTx => ⟨.plane, 0x700, 0x7, .u64, .ro, 0⟩
  | .lhMfnRx => ⟨.plane, 0x700, 0x8, .u64, .ro, 0⟩
  | .lhStripesRepaired => ⟨.plane, 0x700, 0x10, .u64, .ro, 0⟩
  | .lhStripesUnrecovered => ⟨.plane, 0x700, 0x11, .u32, .ro, 0⟩
  | .lhParityDropped => ⟨.plane, 0x700, 0x12, .u32, .ro, 0⟩
  | .lhSlotMalformed => ⟨.plane, 0x700, 0x13, .u32, .ro, 0⟩
  | .lhTribMismatch => ⟨.plane, 0x700, 0x14, .u32, .ro, 0⟩
  | .lhNoTrib => ⟨.plane, 0x700, 0x15, .u32, .ro, 0⟩
  | .lhDupSlots => ⟨.plane, 0x700, 0x16, .u32, .ro, 0⟩
  | .lhWindowDrop => ⟨.plane, 0x700, 0x17, .u32, .ro, 0⟩
  | .lhRxQuotaDrop => ⟨.plane, 0x700, 0x18, .u32, .ro, 0⟩
  | .lhNakIgnored => ⟨.plane, 0x700, 0x19, .u32, .ro, 0⟩
  | .lhNakOverflow => ⟨.plane, 0x700, 0x1A, .u32, .ro, 0⟩
  | .lhFramesLost => ⟨.plane, 0x700, 0x1B, .u32, .ro, 0⟩
  | .lhRxReject => ⟨.plane, 0x700, 0x1C, .u32, .ro, 0⟩
  | .apsCommand => ⟨.plane, 0x701, 0x1, .u8, .rw, 0⟩
  | .lhHoldoffMs => ⟨.plane, 0x701, 0x2, .u16, .rwp, 0⟩
  | .lhWtrS => ⟨.plane, 0x701, 0x3, .u16, .rwp, 300⟩
  | .lhSdThreshold => ⟨.plane, 0x701, 0x4, .u32, .rwp, 100⟩
  | .apsLocalReq => ⟨.plane, 0x701, 0x5, .u8, .ro, 0⟩
  | .apsRemoteReq => ⟨.plane, 0x701, 0x6, .u8, .ro, 0⟩
  | .apsBridge => ⟨.plane, 0x701, 0x7, .u8, .ro, 0⟩
  | .apsSelect => ⟨.plane, 0x701, 0x8, .u8, .ro, 0⟩
  | .apsSwitches => ⟨.plane, 0x701, 0x9, .u32, .ro, 0⟩
  | .apsWtrLeftS => ⟨.plane, 0x701, 0xA, .u16, .ro, 0⟩
  | .tsiDirSel => ⟨.plane, 0x702, 0x1, .u8, .rw, 0⟩
  | .tsiPosSel => ⟨.plane, 0x702, 0x2, .u16, .rw, 0⟩
  | .tsiEntry => ⟨.plane, 0x702, 0x3, .u16, .rwp, 0⟩
  | .tsiEntryActive => ⟨.plane, 0x702, 0x4, .u16, .ro, 0⟩
  | .tsiPcode => ⟨.plane, 0x702, 0x5, .u8, .rwp, 0⟩
  | .tsiPcodeActive => ⟨.plane, 0x702, 0x6, .u8, .ro, 0⟩
  | .tsiSwitchMfn => ⟨.plane, 0x702, 0x7, .u64, .rw, 0⟩
  | .tsiCommitCmd => ⟨.plane, 0x702, 0x8, .u8, .cmd, 0⟩
  | .tsiUnready => ⟨.plane, 0x702, 0x9, .u32, .ro, 0⟩
  | .tribSel => ⟨.plane, 0x703, 0x1, .u16, .rw, 0⟩
  | .tribDesc => ⟨.plane, 0x703, 0x2, .u32, .rwp, 0⟩
  | .tribTxNext => ⟨.plane, 0x703, 0x3, .u32, .ro, 0⟩
  | .tribRxExpected => ⟨.plane, 0x703, 0x4, .u32, .ro, 0⟩
  | .tribUnacked => ⟨.plane, 0x703, 0x5, .u32, .ro, 0⟩
  | .tribHeld => ⟨.plane, 0x703, 0x6, .u32, .ro, 0⟩
  | .tribRetransmitted => ⟨.plane, 0x703, 0x7, .u32, .ro, 0⟩
  | .tribLostSlots => ⟨.plane, 0x703, 0x8, .u32, .ro, 0⟩
  | .tribTxBytes => ⟨.plane, 0x703, 0x9, .u64, .ro, 0⟩
  | .tribRxBytes => ⟨.plane, 0x703, 0xA, .u64, .ro, 0⟩
  | .cipherTxRetired => ⟨.plane, 0x800, 0x1, .u32, .ro, 0⟩
  | .cipherRxRetired => ⟨.plane, 0x800, 0x2, .u32, .ro, 0⟩
  | .keyLimitLog2 => ⟨.plane, 0x800, 0x3, .u8, .rwp, 40⟩
  | .keyEpochTx => ⟨.plane, 0x800, 0x4, .u16, .ro, 0⟩
  | .keyEpochRx => ⟨.plane, 0x800, 0x5, .u16, .ro, 0⟩
  | .keyEpochHi => ⟨.plane, 0x800, 0x6, .u16, .ro, 0⟩
  | .rekeyMfn => ⟨.plane, 0x800, 0x7, .u64, .rw, 0⟩
  | .rekeyCmd => ⟨.plane, 0x800, 0x8, .u8, .cmd, 0⟩
  | .rekeyState => ⟨.plane, 0x800, 0x9, .u8, .ro, 0⟩
  | .rekeyAuto => ⟨.plane, 0x800, 0xA, .u8, .rwp, 0⟩
  | .gcmTxRecords => ⟨.plane, 0x800, 0x10, .u64, .ro, 0⟩
  | .gcmRxRecords => ⟨.plane, 0x800, 0x11, .u64, .ro, 0⟩
  | .gcmAuthFail => ⟨.plane, 0x800, 0x12, .u32, .ro, 0⟩
  | .gcmNonceReject => ⟨.plane, 0x800, 0x13, .u32, .ro, 0⟩
  | .keyUnknown => ⟨.plane, 0x800, 0x14, .u32, .ro, 0⟩
  | .gcmLenReject => ⟨.plane, 0x800, 0x15, .u32, .ro, 0⟩
  | .keyExhausted => ⟨.plane, 0x800, 0x16, .u32, .ro, 0⟩
  | .kdfDerivations => ⟨.plane, 0x800, 0x17, .u64, .ro, 0⟩
  | .cipherFaults => ⟨.plane, 0x800, 0x18, .u32, .ro, 0⟩
  | .unwrapFail => ⟨.plane, 0x800, 0x19, .u32, .ro, 0⟩
  | .keySel => ⟨.plane, 0x801, 0x1, .u16, .rw, 0⟩
  | .masterWrapped => ⟨.plane, 0x801, 0x2, (.octets 40), .wo, 0⟩
  | .masterCmd => ⟨.plane, 0x801, 0x3, .u8, .cmd, 0⟩
  | .masterState => ⟨.plane, 0x801, 0x4, .u8, .ro, 0⟩
  | .keyHeld => ⟨.plane, 0x801, 0x5, .u8, .ro, 0⟩
  | .keyCtrMax => ⟨.plane, 0x801, 0x6, .u64, .ro, 0⟩
  | .keyStalled => ⟨.plane, 0x801, 0x7, .u8, .ro, 0⟩
  | .replTimeoutMs => ⟨.plane, 0x900, 0x1, .u32, .rwp, 1000⟩
  | .replRetryMax => ⟨.plane, 0x900, 0x2, .u8, .rwp, 4⟩
  | .ckptPagesStored => ⟨.plane, 0x900, 0x10, .u64, .ro, 0⟩
  | .ckptPagesUnchanged => ⟨.plane, 0x900, 0x11, .u64, .ro, 0⟩
  | .ckptNoRegion => ⟨.plane, 0x900, 0x12, .u32, .ro, 0⟩
  | .ckptTenantReject => ⟨.plane, 0x900, 0x13, .u32, .ro, 0⟩
  | .ckptRoleReject => ⟨.plane, 0x900, 0x14, .u32, .ro, 0⟩
  | .ckptMalformed => ⟨.plane, 0x900, 0x15, .u32, .ro, 0⟩
  | .ckptStale => ⟨.plane, 0x900, 0x16, .u32, .ro, 0⟩
  | .ckptLateWrite => ⟨.plane, 0x900, 0x17, .u32, .ro, 0⟩
  | .ckptCommitRefused => ⟨.plane, 0x900, 0x18, .u32, .ro, 0⟩
  | .ckptReadFail => ⟨.plane, 0x900, 0x19, .u32, .ro, 0⟩
  | .replRetries => ⟨.plane, 0x900, 0x1A, .u32, .ro, 0⟩
  | .replFailed => ⟨.plane, 0x900, 0x1B, .u32, .ro, 0⟩
  | .drainRefused => ⟨.plane, 0x900, 0x1C, .u32, .ro, 0⟩
  | .drainAbandoned => ⟨.plane, 0x900, 0x1D, .u32, .ro, 0⟩
  | .t2VersionsRecovered => ⟨.plane, 0x900, 0x1E, .u32, .ro, 0⟩
  | .rgnSel => ⟨.plane, 0x901, 0x1, .u16, .rw, 0⟩
  | .rgnDesc => ⟨.plane, 0x901, 0x2, .u64, .rwp, 0⟩
  | .rgnPages => ⟨.plane, 0x901, 0x3, .u32, .rwp, 1⟩
  | .rgnT1Limit => ⟨.plane, 0x901, 0x4, .u32, .rwp, 0⟩
  | .rgnT2Pages => ⟨.plane, 0x901, 0x5, .u32, .rwp, 0⟩
  | .rgnSync => ⟨.plane, 0x901, 0x6, .u16, .rwp, 0⟩
  | .rgnPeerDevice => ⟨.plane, 0x901, 0x7, .u16, .rwp, 0⟩
  | .rgnPeerRegion => ⟨.plane, 0x901, 0x8, .u16, .rwp, 0⟩
  | .rgnMirrorDevice => ⟨.plane, 0x901, 0x9, .u16, .rwp, 0⟩
  | .rgnMirrorRegion => ⟨.plane, 0x901, 0xA, .u16, .rwp, 0⟩
  | .rgnState => ⟨.plane, 0x901, 0xB, .u8, .ro, 0⟩
  | .rgnCmd => ⟨.plane, 0x901, 0xC, .u8, .cmd, 0⟩
  | .rgnStatus => ⟨.plane, 0x901, 0xD, .u8, .ro, 0⟩
  | .rgnVersion => ⟨.plane, 0x901, 0xE, .u32, .ro, 0⟩
  | .rgnT1Held => ⟨.plane, 0x901, 0xF, .u32, .ro, 0⟩
  | .rgnBoundaryKind => ⟨.plane, 0x901, 0x10, .u8, .rw, 0⟩
  | .rgnBoundaryTime => ⟨.plane, 0x901, 0x11, .time, .rw, 0⟩
  | .rgnBoundaryTb => ⟨.plane, 0x901, 0x12, .u8, .rw, 0⟩
  | .rgnBoundaryValue => ⟨.plane, 0x901, 0x13, .u64, .rw, 0⟩
  | .replState => ⟨.plane, 0x901, 0x14, .u8, .ro, 0⟩
  | .replVersion => ⟨.plane, 0x901, 0x15, .u32, .ro, 0⟩
  | .mirrorState => ⟨.plane, 0x901, 0x16, .u8, .ro, 0⟩
  | .mirrorVersion => ⟨.plane, 0x901, 0x17, .u32, .ro, 0⟩
  | .t2Versions => ⟨.plane, 0x901, 0x18, (.octets 32), .ro, 0⟩
  | .xtalkMode => ⟨.chiplet, 0xA0, 0x1, .u8, .rwp, 0⟩
  | .xtalkModeActive => ⟨.chiplet, 0xA0, 0x2, .u8, .ro, 1⟩
  | .wlCheckMode => ⟨.chiplet, 0xA0, 0x3, .u8, .rwp, 0⟩
  | .wlCheckActive => ⟨.chiplet, 0xA0, 0x4, .u8, .ro, 0⟩
  | .calPeriodS => ⟨.chiplet, 0xA0, 0x5, .u32, .rwp, 600⟩
  | .calWindowReq => ⟨.chiplet, 0xA0, 0x6, .u16, .ro, 0⟩
  | .calForceSel => ⟨.chiplet, 0xA0, 0x7, .u8, .rw, 0⟩
  | .calForceCmd => ⟨.chiplet, 0xA0, 0x8, .u8, .cmd, 0⟩
  | .matrixCmd => ⟨.chiplet, 0xA0, 0x9, .u8, .cmd, 0⟩
  | .heaterReserveUw => ⟨.chiplet, 0xA0, 0xA, .u16, .ro, 2000⟩
  | .heaterHeadroomUw => ⟨.chiplet, 0xA0, 0xB, .u16, .ro, 0⟩
  | .laserSel => ⟨.chiplet, 0xA0, 0x10, .u8, .rw, 0⟩
  | .laserState => ⟨.chiplet, 0xA0, 0x11, .u8, .ro, 0⟩
  | .laserPower => ⟨.chiplet, 0xA0, 0x12, (.octets 8), .ro, 0⟩
  | .laserTones => ⟨.chiplet, 0xA0, 0x13, .u8, .ro, 0⟩
  | .laserCmd => ⟨.chiplet, 0xA0, 0x14, .u8, .cmd, 0⟩
  | .ringSel => ⟨.chiplet, 0xA0, 0x18, .u8, .rw, 0⟩
  | .ringState => ⟨.chiplet, 0xA0, 0x19, .u8, .ro, 0⟩
  | .ringHeaterCode => ⟨.chiplet, 0xA0, 0x1A, .u16, .ro, 0⟩
  | .ringOffsetMhz => ⟨.chiplet, 0xA0, 0x1B, .i32, .ro, 0⟩
  | .ringWrongLocks => ⟨.chiplet, 0xA0, 0x1C, .u8, .ro, 0⟩
  | .calRounds => ⟨.chiplet, 0xA0, 0x20, .u64, .ro, 0⟩
  | .calAborts => ⟨.chiplet, 0xA0, 0x21, .u32, .ro, 0⟩
  | .calFitFail => ⟨.chiplet, 0xA0, 0x22, .u32, .ro, 0⟩
  | .calForced => ⟨.chiplet, 0xA0, 0x23, .u32, .ro, 0⟩
  | .matrixRounds => ⟨.chiplet, 0xA0, 0x24, .u32, .ro, 0⟩
  | .wrongLockEvents => ⟨.chiplet, 0xA0, 0x25, .u32, .ro, 0⟩
  | .wlRetired => ⟨.chiplet, 0xA0, 0x26, .u32, .ro, 0⟩
  | .laserLossEvents => ⟨.chiplet, 0xA0, 0x27, .u32, .ro, 0⟩
  | .bypA => ⟨.bypass, 0xB0, 0x1, .u8, .rw, 0⟩
  | .bypB => ⟨.bypass, 0xB0, 0x2, .u8, .rw, 0⟩
  | .bypKind => ⟨.bypass, 0xB0, 0x3, .u8, .rw, 0⟩
  | .bypCmd => ⟨.bypass, 0xB0, 0x4, .u8, .cmd, 0⟩
  | .bypMap => ⟨.bypass, 0xB0, 0x5, (.octets 32), .ro, 0⟩
  | .bypPortSel => ⟨.bypass, 0xB0, 0x6, .u8, .rw, 0⟩
  | .bypWinPeer => ⟨.bypass, 0xB0, 0x7, .u32, .rwp, 0xffffffff⟩
  | .bypWinCells => ⟨.bypass, 0xB0, 0x8, .u16, .rwp, 1024⟩
  | .bypInstalls => ⟨.plane, 0xBF, 0x1, .u32, .ro, 0⟩
  | .bypDropFrames => ⟨.plane, 0xBF, 0x2, .u32, .ro, 0⟩
  | .bypWindows => ⟨.plane, 0xBF, 0x3, .u64, .ro, 0⟩
  | .bypPathFaults => ⟨.plane, 0xBF, 0x4, .u32, .ro, 0⟩
  | .bypWinRxErr => ⟨.plane, 0xBF, 0x5, .u32, .ro, 0⟩
  | .bypWinOverrun => ⟨.plane, 0xBF, 0x6, .u32, .ro, 0⟩
  | .tbDomain => ⟨.timeBase, 0x0, 0x1, .u8, .rwp, 0⟩
  | .tbEnable => ⟨.timeBase, 0x0, 0x2, .u8, .rwp, 0⟩
  | .tbState => ⟨.timeBase, 0x0, 0x3, .u8, .ro, 4⟩
  | .tbTime => ⟨.timeBase, 0x0, 0x4, .time, .rw, 0⟩
  | .tbOffsetNs => ⟨.timeBase, 0x0, 0x5, .i32, .ro, 0⟩
  | .tbFreqPpb => ⟨.timeBase, 0x0, 0x6, .i32, .ro, 0⟩
  | .servoKp => ⟨.timeBase, 0x0, 0x7, .u32, .rwp, 32768⟩
  | .servoKi => ⟨.timeBase, 0x0, 0x8, .u32, .rwp, 6554⟩
  | .stepThresholdNs => ⟨.timeBase, 0x0, 0x9, .u32, .rwp, 1000⟩
  | .lockThresholdNs => ⟨.timeBase, 0x0, 0xA, .u32, .rwp, 10⟩
  | .holdoverTimeoutMs => ⟨.timeBase, 0x0, 0xB, .u32, .rwp, 3000⟩
  | .syncIntervalLog2 => ⟨.timeBase, 0x0, 0xC, .i32, .rwp, 0xfffffffc⟩
  | .tbRedundant => ⟨.timeBase, 0x0, 0xD, .u8, .rwp, 255⟩
  | .tbSwitchCmd => ⟨.timeBase, 0x0, 0xE, .u8, .cmd, 0⟩
  | .tbSource => ⟨.timeBase, 0x0, 0xF, .u8, .ro, 0⟩
  | .tbStandbyDiffNs => ⟨.timeBase, 0x0, 0x10, .i64, .ro, 0⟩
  | .ptpPortSel => ⟨.timeBase, 0x0, 0x11, .u8, .rw, 0⟩
  | .ptpPortRole => ⟨.timeBase, 0x0, 0x12, .u8, .rwp, 0⟩
  | .tbSteps => ⟨.timeBase, 0x0, 0x13, .u32, .ro, 0⟩
  | .tbHoldovers => ⟨.timeBase, 0x0, 0x14, .u32, .ro, 0⟩
  | .tbSwitchovers => ⟨.timeBase, 0x0, 0x15, .u32, .ro, 0⟩
  | .ptpRxDiscard => ⟨.timeBase, 0x0, 0x16, .u32, .ro, 0⟩
  | .ptpTwostepReject => ⟨.timeBase, 0x0, 0x17, .u32, .ro, 0⟩
  | .ptpLhUntimed => ⟨.timeBase, 0x0, 0x18, .u32, .ro, 0⟩
  | .tbOffsetMaxNs => ⟨.timeBase, 0x0, 0x19, .u32, .rw, 0⟩
  | .linkDelayNs => ⟨.fabric, 0x0, 0x30, .u32, .ro, 0⟩
  | .linkDelayValid => ⟨.fabric, 0x0, 0x31, .bool, .ro, 0⟩
  | .lhAsymNs => ⟨.longHaul, 0x80, 0x20, .i32, .rwp, 0⟩
  | .lhLinkDelayNs => ⟨.longHaul, 0x80, 0x21, .u32, .ro, 0⟩
  | .lhLinkDelayValid => ⟨.longHaul, 0x80, 0x22, .bool, .ro, 0⟩
  | .tnAgentFp => ⟨.tenant, 0x8000, 0x1, (.octets 32), .rwp, 0⟩
  | .tnPlanes => ⟨.tenant, 0x8000, 0x2, .u8, .ro, 0⟩
  | .tnState => ⟨.tenantPlane, 0x8000, 0x0, .u8, .ro, 0⟩
  | .tnCmd => ⟨.tenantPlane, 0x8000, 0x1, .u8, .cmd, 0⟩
  | .tnSyncRange => ⟨.tenantPlane, 0x8000, 0x2, .u32, .rwp, 0⟩
  | .tnGroupRange => ⟨.tenantPlane, 0x8000, 0x3, .u32, .rwp, 0⟩
  | .tnDispRange => ⟨.tenantPlane, 0x8000, 0x4, .u32, .rwp, 0⟩
  | .tnCellQuota => ⟨.tenantPlane, 0x8000, 0x5, .u32, .rwp, 819200⟩
  | .tnCellsUsed => ⟨.tenantPlane, 0x8000, 0x6, .u32, .ro, 0⟩
  | .tnCellDrop => ⟨.tenantPlane, 0x8000, 0x7, .u32, .ro, 0⟩
  | .tnSuspendDrop => ⟨.tenantPlane, 0x8000, 0x8, .u32, .ro, 0⟩
  | .tnBoundPorts => ⟨.tenantPlane, 0x8000, 0x9, .u16, .ro, 0⟩
  | .vendorName => ⟨.hub, 0x1000, 0x1, (.string 16), .ro, 0x4f6c6975726179⟩
  | .partName => ⟨.hub, 0x1000, 0x2, (.string 16), .ro, 0x42616d6e6173204c5938343132⟩
  | .siliconRev => ⟨.hub, 0x1000, 0x3, .u16, .ro, 0⟩
  | .serialNumber => ⟨.hub, 0x1000, 0x4, (.string 24), .ro, 0⟩
  | .deviceId => ⟨.hub, 0x1000, 0x5, .u16, .rwp, 0⟩
  | .deviceIdActive => ⟨.hub, 0x1000, 0x6, .u16, .ro, 0⟩
  | .fwVersion => ⟨.hub, 0x1000, 0x7, .u32, .ro, 0⟩
  | .dictVersion => ⟨.hub, 0x1000, 0x8, .u16, .ro, 256⟩
  | .ndpUdpPort => ⟨.hub, 0x1100, 0x1, .u16, .rwp, 49811⟩
  | .mgmtPortSel => ⟨.hub, 0x1100, 0x2, .u8, .rw, 0⟩
  | .mgmtIpv6Addr => ⟨.hub, 0x1100, 0x3, (.octets 16), .rwp, 0⟩
  | .mgmtPrefixLen => ⟨.hub, 0x1100, 0x4, .u8, .rwp, 64⟩
  | .mgmtLinkState => ⟨.hub, 0x1100, 0x5, .u8, .ro, 0⟩
  | .ndpSessions => ⟨.hub, 0x1100, 0x6, .u8, .ro, 0⟩
  | .hostRole => ⟨.hub, 0x1100, 0x7, .u8, .rwp, 1⟩
  | .ndpSessionIdleS => ⟨.hub, 0x1100, 0x8, .u16, .rwp, 60⟩
  | .ndpRequests => ⟨.hub, 0x1100, 0x10, .u64, .ro, 0⟩
  | .mgmtRefused => ⟨.hub, 0x1100, 0x11, .u32, .ro, 0⟩
  | .ndpAuthFail => ⟨.hub, 0x1100, 0x12, .u32, .ro, 0⟩
  | .ndpDupRequests => ⟨.hub, 0x1100, 0x13, .u32, .ro, 0⟩
  | .ndpMalformed => ⟨.hub, 0x1100, 0x14, .u32, .ro, 0⟩
  | .domainDiscarded => ⟨.hub, 0x1100, 0x15, .u32, .ro, 0⟩
  | .hostWinWrite => ⟨.hub, 0x1100, 0x16, .u32, .ro, 0⟩
  | .hwMapSel => ⟨.hub, 0x1110, 0x1, .u16, .rw, 0⟩
  | .hwMap => ⟨.hub, 0x1110, 0x2, .u32, .rwp, 0⟩
  | .roleFpSel => ⟨.hub, 0x1200, 0x1, .u8, .rw, 0⟩
  | .roleFp => ⟨.hub, 0x1200, 0x2, (.octets 32), .rwl, 0⟩
  | .roleFpRoles => ⟨.hub, 0x1200, 0x3, .u8, .rwl, 0⟩
  | .caCert => ⟨.hub, 0x1200, 0x4, .domain, .rwl, 0⟩
  | .devCert => ⟨.hub, 0x1200, 0x5, .domain, .ro, 0⟩
  | .lockCmd => ⟨.hub, 0x1200, 0x6, .u8, .cmd, 0⟩
  | .lockState => ⟨.hub, 0x1200, 0x7, .bool, .ro, 0⟩
  | .jnlBank => ⟨.hub, 0x1300, 0x1, .u8, .ro, 0⟩
  | .jnlGeneration => ⟨.hub, 0x1300, 0x2, .u32, .ro, 0⟩
  | .jnlSeq => ⟨.hub, 0x1300, 0x3, .u64, .ro, 0⟩
  | .jnlFreeBytes => ⟨.hub, 0x1300, 0x4, .u32, .ro, 0⟩
  | .jnlCompactions => ⟨.hub, 0x1300, 0x5, .u32, .ro, 0⟩
  | .jnlDiscarded => ⟨.hub, 0x1300, 0x6, .u32, .ro, 0⟩
  | .jnlErrors => ⟨.hub, 0x1300, 0x7, .u32, .ro, 0⟩
  | .jnlExport => ⟨.hub, 0x1300, 0x8, .domain, .ro, 0⟩
  | .factoryResetCmd => ⟨.hub, 0x1300, 0x9, .u8, .cmd, 0⟩
  | .snapTime => ⟨.hub, 0x9080, 0x1, .time, .rw, 0⟩
  | .snapTb => ⟨.hub, 0x9080, 0x2, .u8, .rw, 0⟩
  | .snapObjSel => ⟨.hub, 0x9080, 0x3, .u8, .rw, 0⟩
  | .snapObj => ⟨.hub, 0x9080, 0x4, .u32, .rw, 0⟩
  | .snapCmd => ⟨.hub, 0x9080, 0x5, .u8, .cmd, 0⟩
  | .snapResult => ⟨.hub, 0x9080, 0x6, .domain, .ro, 0⟩
  | .irqSummary => ⟨.hub, 0x2000, 0x1, .u32, .ro, 0⟩
  | .irqMask => ⟨.hub, 0x2000, 0x2, .u32, .rwp, 0⟩
  | .irqMsixEn => ⟨.hub, 0x2000, 0x3, .u8, .rwp, 0⟩
  | .timeSummary => ⟨.hub, 0x2004, 0x1, .u32, .ro, 0⟩
  | .timeMask => ⟨.hub, 0x2004, 0x2, .u32, .rwp, 0⟩
  | .plSummary => ⟨.plane, 0xB00, 0x1, .u32, .ro, 0⟩
  | .plMask => ⟨.plane, 0xB00, 0x2, .u32, .rwp, 0⟩
  | .healthSummary => ⟨.hub, 0x2300, 0x1, .u32, .ro, 0⟩
  | .replReasons => ⟨.hub, 0x2300, 0x2, .u8, .ro, 0⟩
  | .replOpenTime => ⟨.hub, 0x2300, 0x3, .time, .ro, 0⟩
  | .deviceHorizonDays => ⟨.hub, 0x2300, 0x4, .u16, .ro, 3650⟩
  | .horizonLimitDays => ⟨.hub, 0x2300, 0x5, .u16, .rwp, 90⟩
  | .replCmd => ⟨.hub, 0x2300, 0x6, .u8, .cmd, 0⟩
  | .retireLog => ⟨.hub, 0x2300, 0x7, .domain, .ro, 0⟩
  | .retireClearPlane => ⟨.hub, 0x2300, 0x8, .u8, .rw, 0⟩
  | .retireClearCmd => ⟨.hub, 0x2300, 0x9, .u8, .cmd, 0⟩
  | .diagPlane => ⟨.hub, 0xF000, 0x1, .u8, .rw, 0⟩
  | .diagChanSel => ⟨.hub, 0xF000, 0x2, .u16, .rw, 0⟩
  | .diagInjectCmd => ⟨.hub, 0xF000, 0x3, .u8, .cmd, 0⟩
  | .diagFullBistCmd => ⟨.hub, 0xF000, 0x4, .u8, .cmd, 0⟩
  | .diagInjected => ⟨.hub, 0xF000, 0x5, .u32, .ro, 0⟩
  | .hfChanSel => ⟨.plane, 0xA00, 0x1, .u16, .rw, 4096⟩
  | .hfChanState => ⟨.plane, 0xA00, 0x2, .u8, .ro, 0⟩
  | .hfChanFaults => ⟨.plane, 0xA00, 0x3, .u32, .ro, 0⟩
  | .hfChanWindow => ⟨.plane, 0xA00, 0x4, .u16, .ro, 0⟩
  | .hfChanOver => ⟨.plane, 0xA00, 0x5, .u8, .ro, 0⟩
  | .hfThreshold => ⟨.plane, 0xA00, 0x6, (.octets 10), .rwp, 0x100003004004000002⟩
  | .hfRestoreCmd => ⟨.plane, 0xA00, 0x7, .u8, .cmd, 0⟩
  | .hfRetireCmd => ⟨.plane, 0xA00, 0x8, .u8, .cmd, 0⟩
  | .planeRecoverCmd => ⟨.plane, 0xA00, 0x9, .u8, .cmd, 0⟩
  | .maintCmd => ⟨.plane, 0xA00, 0xA, .u8, .cmd, 0⟩
  | .fuseCmd => ⟨.plane, 0xA00, 0xB, .u8, .cmd, 0⟩
  | .planeRecoveries => ⟨.plane, 0xA00, 0xC, .u32, .ro, 0⟩
  | .planeHorizonDays => ⟨.plane, 0xA00, 0xD, .u16, .ro, 3650⟩
  | .bistEnable => ⟨.plane, 0xA00, 0x10, .u8, .rwp, 1⟩
  | .bistSpacingUs => ⟨.plane, 0xA00, 0x11, .u32, .rwp, 0x17d784⟩
  | .bistPortSlices => ⟨.plane, 0xA00, 0x12, .u8, .rwp, 0⟩
  | .bistRotationPos => ⟨.plane, 0xA00, 0x13, .u16, .ro, 0⟩
  | .bistUnitsTested => ⟨.plane, 0xA00, 0x14, .u16, .ro, 0⟩
  | .bistSkipped => ⟨.plane, 0xA00, 0x15, .u32, .ro, 0⟩
  | .bistFailures => ⟨.plane, 0xA00, 0x16, .u32, .ro, 0⟩
  | .softRepairs => ⟨.plane, 0xA00, 0x17, .u32, .ro, 0⟩
  | .bistRotationS => ⟨.plane, 0xA00, 0x18, .u32, .ro, 0⟩
  | .monSel => ⟨.plane, 0xA00, 0x20, .u16, .rw, 4096⟩
  | .monValue => ⟨.plane, 0xA00, 0x21, .i32, .ro, 0⟩
  | .monLimit => ⟨.plane, 0xA00, 0x22, .i32, .ro, 0⟩
  | .monHorizonDays => ⟨.plane, 0xA00, 0x23, .u16, .ro, 3650⟩
  | .replanCmd => ⟨.plane, 0xA00, 0x24, .u8, .cmd, 0⟩
  | .replanLast => ⟨.plane, 0xA00, 0x25, .time, .ro, 0⟩
  | .scSourceDevice => ⟨.plane, 0xA40, 0x1, .u16, .rw, 0⟩
  | .scTenant => ⟨.plane, 0xA40, 0x2, .u16, .rw, 0⟩
  | .scSyncFirst => ⟨.plane, 0xA40, 0x3, .u16, .rw, 0⟩
  | .scSyncCount => ⟨.plane, 0xA40, 0x4, .u16, .rw, 0⟩
  | .scSlotFirst => ⟨.plane, 0xA40, 0x5, .u16, .rw, 0⟩
  | .scSlotCount => ⟨.plane, 0xA40, 0x6, .u16, .rw, 0⟩
  | .scBoundaryKind => ⟨.plane, 0xA40, 0x7, .u8, .rw, 0⟩
  | .scBoundaryTime => ⟨.plane, 0xA40, 0x8, .time, .rw, 0⟩
  | .scBoundaryTb => ⟨.plane, 0xA40, 0x9, .u8, .rw, 0⟩
  | .scBoundaryObj => ⟨.plane, 0xA40, 0xA, .u16, .rw, 0⟩
  | .scBoundaryValue => ⟨.plane, 0xA40, 0xB, .u64, .rw, 0⟩
  | .scCmd => ⟨.plane, 0xA40, 0xC, .u8, .cmd, 0⟩
  | .scState => ⟨.plane, 0xA40, 0xD, .u8, .ro, 0⟩
  | .scStatus => ⟨.plane, 0xA40, 0xE, .u8, .ro, 0⟩
  | .scPagesCopied => ⟨.plane, 0xA40, 0xF, .u64, .ro, 0⟩
  | .scTimeoutMs => ⟨.plane, 0xA40, 0x10, .u32, .rwp, 1000⟩
  | .scServeDevice => ⟨.plane, 0xA40, 0x11, .u16, .rwp, 65535⟩
  | .bootImage => ⟨.hub, 0x1210, 0x1, .u8, .ro, 0⟩
  | .bootPref => ⟨.hub, 0x1210, 0x2, .u8, .rwp, 0⟩
  | .fwVersionA => ⟨.hub, 0x1210, 0x3, .u32, .ro, 0⟩
  | .fwVersionB => ⟨.hub, 0x1210, 0x4, .u32, .ro, 0⟩
  | .rollbackFloor => ⟨.hub, 0x1210, 0x5, .u32, .ro, 0⟩
  | .fwUpdate => ⟨.hub, 0x1210, 0x6, .domain, .wo, 0⟩
  | .fwUpdateCmd => ⟨.hub, 0x1210, 0x7, .u8, .cmd, 0⟩
  | .bootKeyHash => ⟨.hub, 0x1210, 0x8, (.octets 48), .ro, 0⟩
  | .pkgPowerW => ⟨.hub, 0x2100, 0x1, .u16, .ro, 0⟩
  | .powerLimitW => ⟨.hub, 0x2100, 0x2, .u16, .rwp, 1900⟩
  | .opLevel => ⟨.hub, 0x2100, 0x3, .u8, .ro, 0⟩
  | .vddCoreMv => ⟨.hub, 0x2100, 0x4, .u16, .ro, 750⟩
  | .avsMarginMv => ⟨.hub, 0x2100, 0x5, .u8, .rwp, 10⟩
  | .tjMax => ⟨.hub, 0x2100, 0x6, .i16, .ro, 0⟩
  | .chipletTemp => ⟨.hub, 0x2100, 0x7, (.octets 32), .ro, 0⟩
  | .railSel => ⟨.hub, 0x2100, 0x8, .u8, .rw, 0⟩
  | .railMv => ⟨.hub, 0x2100, 0x9, .u16, .ro, 0⟩
  | .railMa => ⟨.hub, 0x2100, 0xA, .u32, .ro, 0⟩
  | .throttleEvents => ⟨.hub, 0x2100, 0xB, .u32, .ro, 0⟩
  | .pmbusErrors => ⟨.hub, 0x2100, 0xC, .u32, .ro, 0⟩
  | .refclkState => ⟨.hub, 0x2200, 0x1, .u8, .ro, 0⟩
  | .resetReason => ⟨.hub, 0x2200, 0x2, .u8, .ro, 1⟩
  | .planeResetSel => ⟨.hub, 0x2200, 0x3, .u8, .rw, 0⟩
  | .planeResetCmd => ⟨.hub, 0x2200, 0x4, .u8, .cmd, 0⟩
  | .bringupStage => ⟨.hub, 0x2200, 0x5, (.octets 4), .ro, 0⟩
  | .bringupTimeMs => ⟨.hub, 0x2200, 0x6, (.octets 16), .ro, 0⟩
  | .cause => ⟨.cause, 0x0, 0x1, .u32, .rw, 0⟩
  | .causeMask => ⟨.cause, 0x0, 0x2, .u32, .rwp, 0⟩
  | .causeUnit => ⟨.cause, 0x0, 0x3, .u32, .ro, 0⟩
  | .causeTime => ⟨.cause, 0x0, 0x4, .time, .ro, 0⟩
  | .evtFilter => ⟨.evtFilter, 0x9000, 0x1, .u64, .ro, 0⟩

/-- Part 1 of the list of all objects, in the order of the spec's files. -/
def Obj.all0 : List Obj :=
  [.planeRole, .planeRoleActive, .fmTimeoutMs, .portPartition, .lhPortPartition, .fencePartition,
   .fenceCmd, .fencedFabricLo, .fencedFabricHi, .fencedLongHaul, .portAdmin, .portState,
   .portRate, .portLaneRetired, .peerId, .creditLimit, .ackTimeoutNs, .tenantBindSel,
   .tenantBind, .trainCmd, .rxFrames, .rxBytes, .txFrames, .txBytes,
   .fecCorrected, .fecUncorrectable, .hdrCrcErr, .crc32Err, .stompedRx, .outOfSeq,
   .retransmissions, .nakIgnored, .retryExhausted, .linkDiscard, .creditViolation, .opcodeReject,
   .planeReject, .tenantReject, .hopsExpired, .trainingFail, .rxNotUp, .switchStatus,
   .spareInUse, .ecnMin, .ecnMax, .reseqTimeoutUs, .swapCmd, .parkedFrames,
   .movedCells, .deferredCopies, .mcastCopies, .mcastOmitted, .ecnMarked, .routeMiss,
   .partitionDiscard, .kiteLossFrames, .kiteSwaps, .lostFrameRetrain, .reseqGap, .reseqWindowDrop]

/-- Part 2 of the list of all objects, in the order of the spec's files. -/
def Obj.all1 : List Obj :=
  [.reseqStoreFull, .reseqUntracked, .routeSel, .routeEntry, .spraySel, .sprayMembers,
   .sprayLive, .mcastSel, .mcastSet, .kiteSel, .kiteState, .kiteOccupancy,
   .kiteParkedCells, .kiteHighWater, .kiteStandIn, .poolSel, .poolSizeGib, .poolBufSize,
   .poolBuffers, .poolFree, .poolReserved, .poolLowWater, .doubleFree, .badFree,
   .poolCorrupt, .poolEmpty, .poolScrubCmd, .quotaSel, .quotaBuffers, .quotaUsed,
   .quotaHighWater, .quotaRefused, .hbmShare, .hbmCapacityGib, .hbmCorrected, .cxlState,
   .cxlLink, .cxlCapacityGib, .cxlPoison, .cxlLinkDown, .cxlResetCmd, .schedService,
   .schedServiceActive, .classRank, .urgencyMs, .bgUrgencyMs, .starvePromoted, .bgPromoted,
   .gclPortSel, .gclEnable, .gclTimeBase, .gclBaseTime, .gclCycleNs, .gclLength,
   .gclEntrySel, .gclEntry, .gclActiveEntry, .gclChangeTime, .gclCommitCmd, .gclCurrent]

/-- Part 3 of the list of all objects, in the order of the spec's files. -/
def Obj.all2 : List Obj :=
  [.gclLate, .gclTimeStep, .tqSel, .drrQuantum, .cbsIdleMbps, .cbsHiCredit,
   .cbsLoCredit, .obsPortSel, .qDepth, .qDelayNs, .qDepthMax, .qDelayMax,
   .qPromoted, .classDepthHw, .classDelayHw, .redIdleTimeoutUs, .redRestartMax, .anchorRaise,
   .sparseMaxNz, .redContextsActive, .redBlocksAdded, .redBlocksSkipped, .redNoContext, .redTenantReject,
   .redStale, .redRestarts, .redOverflowRestarts, .redFailed, .rctxRefused, .outSaturated,
   .accCorrected, .rctxSel, .rctxDesc, .rctxTenant, .rctxSeed, .rctxState,
   .rctxStatus, .rctxAttempt, .rctxAnchorNow, .rctxBlocksDone, .rctxAbortCmd, .reducerSel,
   .reducerState, .redLaneRetired, .spareLanesUsed, .accFreeElements, .stepTimeoutMs, .xsiteTimeoutMs,
   .slotsRunning, .seqLaunches, .launchDup, .launchRefused, .seqMalformed, .seqTenantReject,
   .seqNonmember, .seqStale, .seqRangeReject, .dispReject, .reformMerges, .reformRestarts]

/-- Part 4 of the list of all objects, in the order of the spec's files. -/
def Obj.all3 : List Obj :=
  [.syncSaturated, .notifyRefused, .slotSel, .slotTenant, .slotGroup, .slotLength,
   .slotStepSel, .slotStep, .slotTplSel, .slotTpl, .slotSeed, .slotState,
   .slotStatus, .slotStepNow, .slotLaunchNo, .slotGen, .slotCmd, .grpSel,
   .grpDesc, .grpDescActive, .grpMemberSel, .grpMember, .grpMemberActive, .grpExclude,
   .grpBoundaryKind, .grpBoundaryTime, .grpBoundaryTb, .grpBoundaryObj, .grpBoundaryValue, .grpCommitCmd,
   .grpState, .grpLive, .syncSel, .syncValue, .syncSaturatedFlag, .notifyUsed,
   .dispSel, .dispExperts, .dispTokenElems, .dispOriginTokens, .dispEntrySel, .dispEntry,
   .mxTilesInService, .mxSpareInUse, .mxTileRetired, .mxProducts, .cmpElements, .cmpBytesSent,
   .cmpUncompressedUnits, .cmpRefused, .cmpMismatch, .expSaturated, .mxTileFaults, .cctxSel,
   .cctxTenant, .cctxDesc, .cctxSeed, .cctxChunks, .cctxShardBlocks, .cctxState]

/-- Part 5 of the list of all objects, in the order of the spec's files. -/
def Obj.all4 : List Obj :=
  [.cctxCmd, .cctxResBuffers, .cctxProjBuffers, .cctxCommits, .lhAdmin, .lhState,
   .lhModuleState, .lhSkewNs, .lhRdiRx, .lhTxFrames, .lhRxFrames, .lhBadFrames,
   .lhOofEvents, .lhOomEvents, .lhPeerMismatch, .lhErasedFrames, .lhPartnerDevice, .lhDeskewMaxUs,
   .lhRenakUs, .lhRetxTimeoutUs, .lhRetxMax, .lhBundle, .lhMfnTx, .lhMfnRx,
   .lhStripesRepaired, .lhStripesUnrecovered, .lhParityDropped, .lhSlotMalformed, .lhTribMismatch, .lhNoTrib,
   .lhDupSlots, .lhWindowDrop, .lhRxQuotaDrop, .lhNakIgnored, .lhNakOverflow, .lhFramesLost,
   .lhRxReject, .apsCommand, .lhHoldoffMs, .lhWtrS, .lhSdThreshold, .apsLocalReq,
   .apsRemoteReq, .apsBridge, .apsSelect, .apsSwitches, .apsWtrLeftS, .tsiDirSel,
   .tsiPosSel, .tsiEntry, .tsiEntryActive, .tsiPcode, .tsiPcodeActive, .tsiSwitchMfn,
   .tsiCommitCmd, .tsiUnready, .tribSel, .tribDesc, .tribTxNext, .tribRxExpected]

/-- Part 6 of the list of all objects, in the order of the spec's files. -/
def Obj.all5 : List Obj :=
  [.tribUnacked, .tribHeld, .tribRetransmitted, .tribLostSlots, .tribTxBytes, .tribRxBytes,
   .cipherTxRetired, .cipherRxRetired, .keyLimitLog2, .keyEpochTx, .keyEpochRx, .keyEpochHi,
   .rekeyMfn, .rekeyCmd, .rekeyState, .rekeyAuto, .gcmTxRecords, .gcmRxRecords,
   .gcmAuthFail, .gcmNonceReject, .keyUnknown, .gcmLenReject, .keyExhausted, .kdfDerivations,
   .cipherFaults, .unwrapFail, .keySel, .masterWrapped, .masterCmd, .masterState,
   .keyHeld, .keyCtrMax, .keyStalled, .replTimeoutMs, .replRetryMax, .ckptPagesStored,
   .ckptPagesUnchanged, .ckptNoRegion, .ckptTenantReject, .ckptRoleReject, .ckptMalformed, .ckptStale,
   .ckptLateWrite, .ckptCommitRefused, .ckptReadFail, .replRetries, .replFailed, .drainRefused,
   .drainAbandoned, .t2VersionsRecovered, .rgnSel, .rgnDesc, .rgnPages, .rgnT1Limit,
   .rgnT2Pages, .rgnSync, .rgnPeerDevice, .rgnPeerRegion, .rgnMirrorDevice, .rgnMirrorRegion]

/-- Part 7 of the list of all objects, in the order of the spec's files. -/
def Obj.all6 : List Obj :=
  [.rgnState, .rgnCmd, .rgnStatus, .rgnVersion, .rgnT1Held, .rgnBoundaryKind,
   .rgnBoundaryTime, .rgnBoundaryTb, .rgnBoundaryValue, .replState, .replVersion, .mirrorState,
   .mirrorVersion, .t2Versions, .xtalkMode, .xtalkModeActive, .wlCheckMode, .wlCheckActive,
   .calPeriodS, .calWindowReq, .calForceSel, .calForceCmd, .matrixCmd, .heaterReserveUw,
   .heaterHeadroomUw, .laserSel, .laserState, .laserPower, .laserTones, .laserCmd,
   .ringSel, .ringState, .ringHeaterCode, .ringOffsetMhz, .ringWrongLocks, .calRounds,
   .calAborts, .calFitFail, .calForced, .matrixRounds, .wrongLockEvents, .wlRetired,
   .laserLossEvents, .bypA, .bypB, .bypKind, .bypCmd, .bypMap,
   .bypPortSel, .bypWinPeer, .bypWinCells, .bypInstalls, .bypDropFrames, .bypWindows,
   .bypPathFaults, .bypWinRxErr, .bypWinOverrun, .tbDomain, .tbEnable, .tbState]

/-- Part 8 of the list of all objects, in the order of the spec's files. -/
def Obj.all7 : List Obj :=
  [.tbTime, .tbOffsetNs, .tbFreqPpb, .servoKp, .servoKi, .stepThresholdNs,
   .lockThresholdNs, .holdoverTimeoutMs, .syncIntervalLog2, .tbRedundant, .tbSwitchCmd, .tbSource,
   .tbStandbyDiffNs, .ptpPortSel, .ptpPortRole, .tbSteps, .tbHoldovers, .tbSwitchovers,
   .ptpRxDiscard, .ptpTwostepReject, .ptpLhUntimed, .tbOffsetMaxNs, .linkDelayNs, .linkDelayValid,
   .lhAsymNs, .lhLinkDelayNs, .lhLinkDelayValid, .tnAgentFp, .tnPlanes, .tnState,
   .tnCmd, .tnSyncRange, .tnGroupRange, .tnDispRange, .tnCellQuota, .tnCellsUsed,
   .tnCellDrop, .tnSuspendDrop, .tnBoundPorts, .vendorName, .partName, .siliconRev,
   .serialNumber, .deviceId, .deviceIdActive, .fwVersion, .dictVersion, .ndpUdpPort,
   .mgmtPortSel, .mgmtIpv6Addr, .mgmtPrefixLen, .mgmtLinkState, .ndpSessions, .hostRole,
   .ndpSessionIdleS, .ndpRequests, .mgmtRefused, .ndpAuthFail, .ndpDupRequests, .ndpMalformed]

/-- Part 9 of the list of all objects, in the order of the spec's files. -/
def Obj.all8 : List Obj :=
  [.domainDiscarded, .hostWinWrite, .hwMapSel, .hwMap, .roleFpSel, .roleFp,
   .roleFpRoles, .caCert, .devCert, .lockCmd, .lockState, .jnlBank,
   .jnlGeneration, .jnlSeq, .jnlFreeBytes, .jnlCompactions, .jnlDiscarded, .jnlErrors,
   .jnlExport, .factoryResetCmd, .snapTime, .snapTb, .snapObjSel, .snapObj,
   .snapCmd, .snapResult, .irqSummary, .irqMask, .irqMsixEn, .timeSummary,
   .timeMask, .plSummary, .plMask, .healthSummary, .replReasons, .replOpenTime,
   .deviceHorizonDays, .horizonLimitDays, .replCmd, .retireLog, .retireClearPlane, .retireClearCmd,
   .diagPlane, .diagChanSel, .diagInjectCmd, .diagFullBistCmd, .diagInjected, .hfChanSel,
   .hfChanState, .hfChanFaults, .hfChanWindow, .hfChanOver, .hfThreshold, .hfRestoreCmd,
   .hfRetireCmd, .planeRecoverCmd, .maintCmd, .fuseCmd, .planeRecoveries, .planeHorizonDays]

/-- Part 10 of the list of all objects, in the order of the spec's files. -/
def Obj.all9 : List Obj :=
  [.bistEnable, .bistSpacingUs, .bistPortSlices, .bistRotationPos, .bistUnitsTested, .bistSkipped,
   .bistFailures, .softRepairs, .bistRotationS, .monSel, .monValue, .monLimit,
   .monHorizonDays, .replanCmd, .replanLast, .scSourceDevice, .scTenant, .scSyncFirst,
   .scSyncCount, .scSlotFirst, .scSlotCount, .scBoundaryKind, .scBoundaryTime, .scBoundaryTb,
   .scBoundaryObj, .scBoundaryValue, .scCmd, .scState, .scStatus, .scPagesCopied,
   .scTimeoutMs, .scServeDevice, .bootImage, .bootPref, .fwVersionA, .fwVersionB,
   .rollbackFloor, .fwUpdate, .fwUpdateCmd, .bootKeyHash, .pkgPowerW, .powerLimitW,
   .opLevel, .vddCoreMv, .avsMarginMv, .tjMax, .chipletTemp, .railSel,
   .railMv, .railMa, .throttleEvents, .pmbusErrors, .refclkState, .resetReason,
   .planeResetSel, .planeResetCmd, .bringupStage, .bringupTimeMs, .cause, .causeMask]

/-- Part 11 of the list of all objects, in the order of the spec's files. -/
def Obj.all10 : List Obj :=
  [.causeUnit, .causeTime, .evtFilter]

/-- Every object. -/
def Obj.all : List Obj :=
  Obj.all0 ++ Obj.all1 ++ Obj.all2 ++ Obj.all3 ++ Obj.all4 ++ Obj.all5 ++ Obj.all6 ++ Obj.all7 ++ Obj.all8 ++ Obj.all9 ++ Obj.all10

/-- The selectors an object acts on, outermost first (R383 and the owning chapters). -/
def Obj.sels : Obj → List Obj
  | .tenantBind => [.tenantBindSel]
  | .routeEntry => [.routeSel]
  | .sprayMembers => [.spraySel]
  | .sprayLive => [.spraySel]
  | .mcastSet => [.mcastSel]
  | .swapCmd => [.kiteSel]
  | .kiteState => [.kiteSel]
  | .kiteOccupancy => [.kiteSel]
  | .kiteParkedCells => [.kiteSel]
  | .kiteHighWater => [.kiteSel]
  | .kiteStandIn => [.kiteSel]
  | .poolSizeGib => [.poolSel]
  | .poolBufSize => [.poolSel]
  | .poolBuffers => [.poolSel]
  | .poolFree => [.poolSel]
  | .poolReserved => [.poolSel]
  | .poolLowWater => [.poolSel]
  | .doubleFree => [.poolSel]
  | .badFree => [.poolSel]
  | .poolCorrupt => [.poolSel]
  | .poolEmpty => [.poolSel]
  | .poolScrubCmd => [.poolSel]
  | .quotaBuffers => [.quotaSel]
  | .quotaUsed => [.quotaSel]
  | .quotaHighWater => [.quotaSel]
  | .quotaRefused => [.quotaSel]
  | .gclEnable => [.gclPortSel]
  | .gclTimeBase => [.gclPortSel]
  | .gclBaseTime => [.gclPortSel]
  | .gclCycleNs => [.gclPortSel]
  | .gclLength => [.gclPortSel]
  | .gclChangeTime => [.gclPortSel]
  | .gclCommitCmd => [.gclPortSel]
  | .gclCurrent => [.gclPortSel]
  | .gclLate => [.gclPortSel]
  | .gclTimeStep => [.gclPortSel]
  | .gclEntry => [.gclPortSel, .gclEntrySel]
  | .gclActiveEntry => [.gclPortSel, .gclEntrySel]
  | .drrQuantum => [.tqSel]
  | .cbsIdleMbps => [.tqSel]
  | .cbsHiCredit => [.tqSel]
  | .cbsLoCredit => [.tqSel]
  | .qDepth => [.obsPortSel, .tqSel]
  | .qDelayNs => [.obsPortSel, .tqSel]
  | .qDepthMax => [.obsPortSel, .tqSel]
  | .qDelayMax => [.obsPortSel, .tqSel]
  | .qPromoted => [.obsPortSel, .tqSel]
  | .classDepthHw => [.obsPortSel]
  | .classDelayHw => [.obsPortSel]
  | .rctxDesc => [.rctxSel]
  | .rctxTenant => [.rctxSel]
  | .rctxSeed => [.rctxSel]
  | .rctxState => [.rctxSel]
  | .rctxStatus => [.rctxSel]
  | .rctxAttempt => [.rctxSel]
  | .rctxAnchorNow => [.rctxSel]
  | .rctxBlocksDone => [.rctxSel]
  | .rctxAbortCmd => [.rctxSel]
  | .reducerState => [.reducerSel]
  | .redLaneRetired => [.reducerSel]
  | .spareLanesUsed => [.reducerSel]
  | .accFreeElements => [.reducerSel]
  | .slotTenant => [.slotSel]
  | .slotGroup => [.slotSel]
  | .slotLength => [.slotSel]
  | .slotSeed => [.slotSel]
  | .slotState => [.slotSel]
  | .slotStatus => [.slotSel]
  | .slotStepNow => [.slotSel]
  | .slotLaunchNo => [.slotSel]
  | .slotGen => [.slotSel]
  | .slotCmd => [.slotSel]
  | .slotStep => [.slotSel, .slotStepSel]
  | .slotTpl => [.slotSel, .slotTplSel]
  | .grpDesc => [.grpSel]
  | .grpDescActive => [.grpSel]
  | .grpExclude => [.grpSel]
  | .grpBoundaryKind => [.grpSel]
  | .grpBoundaryTime => [.grpSel]
  | .grpBoundaryTb => [.grpSel]
  | .grpBoundaryObj => [.grpSel]
  | .grpBoundaryValue => [.grpSel]
  | .grpCommitCmd => [.grpSel]
  | .grpState => [.grpSel]
  | .grpLive => [.grpSel]
  | .grpMember => [.grpSel, .grpMemberSel]
  | .grpMemberActive => [.grpSel, .grpMemberSel]
  | .syncValue => [.syncSel]
  | .syncSaturatedFlag => [.syncSel]
  | .dispExperts => [.dispSel]
  | .dispTokenElems => [.dispSel]
  | .dispOriginTokens => [.dispSel]
  | .dispEntry => [.dispSel, .dispEntrySel]
  | .cctxTenant => [.cctxSel]
  | .cctxDesc => [.cctxSel]
  | .cctxSeed => [.cctxSel]
  | .cctxChunks => [.cctxSel]
  | .cctxShardBlocks => [.cctxSel]
  | .cctxState => [.cctxSel]
  | .cctxCmd => [.cctxSel]
  | .cctxResBuffers => [.cctxSel]
  | .cctxProjBuffers => [.cctxSel]
  | .cctxCommits => [.cctxSel]
  | .tsiEntry => [.tsiDirSel, .tsiPosSel]
  | .tsiEntryActive => [.tsiDirSel, .tsiPosSel]
  | .tsiPcode => [.tsiDirSel]
  | .tsiPcodeActive => [.tsiDirSel]
  | .tsiCommitCmd => [.tsiDirSel]
  | .tribDesc => [.tribSel]
  | .tribTxNext => [.tribSel]
  | .tribRxExpected => [.tribSel]
  | .tribUnacked => [.tribSel]
  | .tribHeld => [.tribSel]
  | .tribRetransmitted => [.tribSel]
  | .tribLostSlots => [.tribSel]
  | .tribTxBytes => [.tribSel]
  | .tribRxBytes => [.tribSel]
  | .masterWrapped => [.keySel]
  | .masterCmd => [.keySel]
  | .masterState => [.keySel]
  | .keyHeld => [.keySel]
  | .keyCtrMax => [.keySel]
  | .keyStalled => [.keySel]
  | .rgnDesc => [.rgnSel]
  | .rgnPages => [.rgnSel]
  | .rgnT1Limit => [.rgnSel]
  | .rgnT2Pages => [.rgnSel]
  | .rgnSync => [.rgnSel]
  | .rgnPeerDevice => [.rgnSel]
  | .rgnPeerRegion => [.rgnSel]
  | .rgnMirrorDevice => [.rgnSel]
  | .rgnMirrorRegion => [.rgnSel]
  | .rgnState => [.rgnSel]
  | .rgnCmd => [.rgnSel]
  | .rgnStatus => [.rgnSel]
  | .rgnVersion => [.rgnSel]
  | .rgnT1Held => [.rgnSel]
  | .rgnBoundaryKind => [.rgnSel]
  | .rgnBoundaryTime => [.rgnSel]
  | .rgnBoundaryTb => [.rgnSel]
  | .rgnBoundaryValue => [.rgnSel]
  | .replState => [.rgnSel]
  | .replVersion => [.rgnSel]
  | .mirrorState => [.rgnSel]
  | .mirrorVersion => [.rgnSel]
  | .t2Versions => [.rgnSel]
  | .laserState => [.laserSel]
  | .laserPower => [.laserSel]
  | .laserTones => [.laserSel]
  | .laserCmd => [.laserSel]
  | .ringState => [.ringSel]
  | .ringHeaterCode => [.ringSel]
  | .ringOffsetMhz => [.ringSel]
  | .ringWrongLocks => [.ringSel]
  | .bypWinPeer => [.bypPortSel]
  | .bypWinCells => [.bypPortSel]
  | .ptpPortRole => [.ptpPortSel]
  | .mgmtIpv6Addr => [.mgmtPortSel]
  | .mgmtPrefixLen => [.mgmtPortSel]
  | .mgmtLinkState => [.mgmtPortSel]
  | .hwMap => [.hwMapSel]
  | .roleFp => [.roleFpSel]
  | .roleFpRoles => [.roleFpSel]
  | .snapObj => [.snapObjSel]
  | .hfChanState => [.hfChanSel]
  | .hfChanFaults => [.hfChanSel]
  | .hfChanWindow => [.hfChanSel]
  | .hfChanOver => [.hfChanSel]
  | .hfRestoreCmd => [.hfChanSel]
  | .hfRetireCmd => [.hfChanSel]
  | .monValue => [.monSel]
  | .monLimit => [.monSel]
  | .monHorizonDays => [.monSel]
  | .diagInjectCmd => [.diagChanSel]
  | .railMv => [.railSel]
  | .railMa => [.railSel]
  | .planeResetCmd => [.planeResetSel]
  | _ => []

/-- The range an owning table states for a write, as lowest and highest value (R369). Bits [63:48] of `tsi_switch_mfn` and
`rekey_mfn`, whose values stand in [47:0], are taken as out of range, not as reserved (DESIGN CHOICE, assumption log 15). -/
def Obj.range : Obj → Option (Nat × Nat)
  | .planeRole => some (0, 2)
  | .fmTimeoutMs => some (1000, 600000)
  | .portPartition => some (0, 254)
  | .lhPortPartition => some (0, 254)
  | .portAdmin => some (0, 1)
  | .ackTimeoutNs => some (1000, 100000)
  | .tenantBindSel => some (0, 63)
  | .reseqTimeoutUs => some (50, 10000)
  | .routeSel => some (0, 4095)
  | .mcastSel => some (0, 4095)
  | .poolSel => some (0, 4)
  | .gclPortSel => some (0, 131)
  | .obsPortSel => some (0, 131)
  | .gclEnable => some (0, 1)
  | .gclTimeBase => some (0, 7)
  | .schedService => some (0, 1)
  | .drrQuantum => some (4132, 1048576)
  | .cbsIdleMbps => some (0, 800000)
  | .cbsHiCredit => some (4132, 16777216)
  | .redIdleTimeoutUs => some (100, 1000000)
  | .redRestartMax => some (1, 16)
  | .anchorRaise => some (4, 64)
  | .sparseMaxNz => some (0, 31)
  | .rctxSel => some (0, 2047)
  | .reducerSel => some (0, 19)
  | .stepTimeoutMs => some (10, 600000)
  | .xsiteTimeoutMs => some (1, 60000)
  | .slotSel => some (0, 1023)
  | .slotGroup => some (0, 4095)
  | .slotLength => some (1, 32)
  | .slotStepSel => some (0, 31)
  | .slotTplSel => some (0, 3)
  | .grpSel => some (0, 4095)
  | .grpMemberSel => some (0, 4095)
  | .grpExclude => some (0, 4095)
  | .grpBoundaryKind => some (0, 1)
  | .grpBoundaryTb => some (0, 7)
  | .grpBoundaryObj => some (0, 16383)
  | .syncSel => some (0, 16383)
  | .dispSel => some (0, 2047)
  | .dispExperts => some (1, 1024)
  | .dispTokenElems => some (32, 196608)
  | .dispOriginTokens => some (1, 6144)
  | .dispEntrySel => some (0, 1023)
  | .cctxChunks => some (1, 65536)
  | .cctxShardBlocks => some (1, 6144)
  | .lhAdmin => some (0, 1)
  | .lhPartnerDevice => some (0, 4095)
  | .lhDeskewMaxUs => some (10, 4000)
  | .lhRenakUs => some (100, 1000000)
  | .lhRetxTimeoutUs => some (100, 1000000)
  | .lhRetxMax => some (1, 32)
  | .lhHoldoffMs => some (0, 10000)
  | .lhWtrS => some (0, 3600)
  | .lhSdThreshold => some (1, 1000000)
  | .tsiDirSel => some (0, 1)
  | .tsiPosSel => some (0, 2047)
  | .tsiPcode => some (0, 3)
  | .tribSel => some (0, 1023)
  | .tsiSwitchMfn => some (0, 281474976710655)
  | .rekeyMfn => some (0, 281474976710655)
  | .keyLimitLog2 => some (32, 44)
  | .rekeyAuto => some (0, 1)
  | .replTimeoutMs => some (10, 60000)
  | .replRetryMax => some (1, 16)
  | .rgnSel => some (0, 1023)
  | .rgnPages => some (1, 18612224)
  | .rgnT1Limit => some (0, 18612224)
  | .rgnT2Pages => some (0, 134217728)
  | .rgnSync => some (0, 16383)
  | .rgnPeerDevice => some (0, 4095)
  | .rgnPeerRegion => some (0, 1023)
  | .rgnMirrorDevice => some (0, 4095)
  | .rgnMirrorRegion => some (0, 1023)
  | .rgnBoundaryKind => some (0, 1)
  | .rgnBoundaryTb => some (0, 7)
  | .xtalkMode => some (0, 1)
  | .wlCheckMode => some (0, 2)
  | .calPeriodS => some (10, 86400)
  | .calForceSel => some (0, 15)
  | .laserSel => some (0, 3)
  | .bypKind => some (0, 1)
  | .bypPortSel => some (0, 31)
  | .bypWinCells => some (65, 4096)
  | .tbDomain => some (0, 127)
  | .tbEnable => some (0, 1)
  | .servoKp => some (1, 262144)
  | .servoKi => some (0, 65536)
  | .stepThresholdNs => some (100, 1000000000)
  | .lockThresholdNs => some (2, 1000)
  | .holdoverTimeoutMs => some (100, 60000)
  | .ptpPortSel => some (0, 131)
  | .ptpPortRole => some (0, 3)
  | .tnCellQuota => some (65, 819200)
  | .deviceId => some (0, 4095)
  | .ndpUdpPort => some (1024, 65535)
  | .mgmtPortSel => some (0, 1)
  | .mgmtPrefixLen => some (1, 128)
  | .ndpSessionIdleS => some (10, 3600)
  | .hwMapSel => some (0, 4095)
  | .roleFpSel => some (0, 31)
  | .snapTb => some (0, 7)
  | .horizonLimitDays => some (30, 365)
  | .retireClearPlane => some (0, 3)
  | .diagPlane => some (0, 3)
  | .bistEnable => some (0, 1)
  | .bistSpacingUs => some (500000, 100000000)
  | .bistPortSlices => some (0, 1)
  | .scSourceDevice => some (0, 4095)
  | .scTenant => some (0, 4095)
  | .scSyncFirst => some (0, 16383)
  | .scSyncCount => some (0, 16384)
  | .scSlotFirst => some (0, 1023)
  | .scSlotCount => some (0, 1024)
  | .scBoundaryKind => some (0, 1)
  | .scBoundaryTb => some (0, 7)
  | .scBoundaryObj => some (0, 16383)
  | .scTimeoutMs => some (100, 60000)
  | .bootPref => some (0, 1)
  | .powerLimitW => some (1000, 1900)
  | .avsMarginMv => some (0, 50)
  | .railSel => some (0, 7)
  | .planeResetSel => some (0, 3)
  | .gclLength => some (1, 256)
  | _ => none

/-- The reserved bits of an object (R6). Those of `pl_mask` and of the cause masks above the last cause that a table names are
taken as reserved (DESIGN CHOICE, assumption log 15). -/
def Obj.reserved : Obj → Nat
  | .apsCommand => 0xE
  | .routeEntry => 0x3FFF0000
  | .kiteSel => 0xE0E0
  | .tqSel => 0x8000
  | .grpDesc => 0xFFFFFF0000000
  | .grpMember => 0xE
  | .gclEntry => 0x3FFFFF00000000
  | .slotTpl => 0x3F0000
  | .cctxDesc => 0xFFFF
  | .tsiEntry => 0x3C00
  | .tribDesc => 0x3FF
  | .keySel => 0x7000
  | .rgnDesc => 0xFFFFFFFFFFF
  | .tnSyncRange => 0xC0008000
  | .tnGroupRange => 0xF000E000
  | .tnDispRange => 0xF800F000
  | .hostRole => 0xF4
  | .hwMap => 0xFF
  | .roleFpRoles => 0xF0
  | .snapObj => 0xFF
  | .irqMask => 0xFFFFFC00
  | .irqMsixEn => 0xFC
  | .plMask => 0xFFFFF800
  | _ => 0

/-- The roles that may write an object (R372 and the owning chapters): bit 0 operator, bit 1 fault manager, bit 2 security
officer. Without a rule of its own an object takes writes from the operator. -/
def Obj.writers : Obj → Nat
  | .fmTimeoutMs => 3
  | .portPartition => 3
  | .lhPortPartition => 3
  | .fencePartition => 3
  | .fenceCmd => 3
  | .schedService => 3
  | .classRank => 3
  | .urgencyMs => 3
  | .bgUrgencyMs => 3
  | .gclPortSel => 3
  | .gclEnable => 3
  | .gclTimeBase => 3
  | .gclBaseTime => 3
  | .gclCycleNs => 3
  | .gclLength => 3
  | .gclEntrySel => 3
  | .gclEntry => 3
  | .gclChangeTime => 3
  | .gclCommitCmd => 3
  | .rctxAbortCmd => 3
  | .rctxSel => 3
  | .grpSel => 3
  | .grpExclude => 3
  | .grpCommitCmd => 3
  | .apsCommand => 3
  | .tsiCommitCmd => 3
  | .calForceCmd => 3
  | .calForceSel => 3
  | .matrixCmd => 3
  | .laserCmd => 3
  | .laserSel => 3
  | .bypCmd => 3
  | .bypWinPeer => 3
  | .bypWinCells => 3
  | .bypPortSel => 3
  | .tbSwitchCmd => 3
  | .tbTime => 3
  | .cause => 3
  | .causeMask => 3
  | .irqMask => 3
  | .irqMsixEn => 3
  | .timeMask => 3
  | .plMask => 3
  | .hfRestoreCmd => 3
  | .hfRetireCmd => 3
  | .hfChanSel => 3
  | .planeRecoverCmd => 3
  | .maintCmd => 3
  | .replanCmd => 3
  | .replCmd => 3
  | .scSourceDevice => 3
  | .scTenant => 3
  | .scSyncFirst => 3
  | .scSyncCount => 3
  | .scSlotFirst => 3
  | .scSlotCount => 3
  | .scBoundaryKind => 3
  | .scBoundaryTime => 3
  | .scBoundaryTb => 3
  | .scBoundaryObj => 3
  | .scBoundaryValue => 3
  | .scCmd => 3
  | .planeResetCmd => 3
  | .planeResetSel => 3
  | .rgnSel => 3
  | .masterWrapped => 4
  | .masterCmd => 4
  | .keySel => 5
  | .keyLimitLog2 => 4
  | .tnAgentFp => 4
  | .roleFpSel => 4
  | .roleFp => 4
  | .roleFpRoles => 4
  | .caCert => 4
  | .lockCmd => 4
  | .factoryResetCmd => 4
  | .bootPref => 4
  | .fwUpdate => 4
  | .fwUpdateCmd => 4
  | .hostRole => 4
  | .rekeyCmd => 6
  | .rekeyMfn => 6
  | .rekeyAuto => 6
  | _ => 1

end Sys2Proof.Machine
end

