-- ==== Sys2Proof/Machine/State.lean ====
section
/-! DEFINITION. The state of the LY8412 as plain data: the register file of the object dictionary, the state the chapters
of the spec name or imply beside it, what has left the device, and the queue of waiting commands. -/

namespace Sys2Proof.Machine

/-- A register of the dictionary: the object, its plane (4 for the hub) and its place among the object's repetitions
(port, chiplet, time base, selected entry). -/
structure Key where
  obj : Obj
  plane : Nat
  idx : Nat
  deriving DecidableEq, Repr

/-- The order in which the register file lists its entries. -/
def Key.lt (a b : Key) : Bool :=
  a.obj.ctorIdx < b.obj.ctorIdx ||
    (a.obj.ctorIdx == b.obj.ctorIdx && (a.plane < b.plane || (a.plane == b.plane && a.idx < b.idx)))

/-- The key of a per-plane table: plane and index. -/
abbrev Ix := Nat × Nat

/-- The order of per-plane keys. -/
def Ix.lt (a b : Ix) : Bool := a.1 < b.1 || (a.1 == b.1 && a.2 < b.2)

/-! ### Planes and hub -/

/-- Where a plane stands (spec/20 R443, R444, R455; spec/19 R415, R418, R424; spec/01 R13; spec/20 R442, R451). -/
inductive Cond where
  /-- held in reset, or released and not yet initialised -/
  | inReset
  /-- released while the hub does not answer (R444) -/
  | waiting
  | running
  | recovering
  | maintenance
  | retired
  | disabled
  /-- its reference clock is lost (R442) -/
  | halted
  /-- stopped by a thermal trip (R451) -/
  | tripped
  deriving DecidableEq, Repr

/-- State of one plane die that no chapter's table holds. -/
structure PlaneSt where
  cond : Cond := .inReset
  /-- the plane sees the hub silent (R19) -/
  hubSilent : Bool := false
  /-- the hub sees the plane not answering (R401) -/
  notAnswering : Bool := false
  /-- when the plane was released or power came good, for `bringup_time_ms` -/
  releasedAt : Nat := 0
  /-- a fence in progress (R36) -/
  fenceBusy : Bool := false
  /-- a pool scrub in progress on this pool (R98) -/
  scrub : Option Nat := none
  /-- the channels whose retirement waits for a plane recovery (R415) -/
  recoverFor : List Nat := []
  /-- the recovery owed when the hub returns or a command starts it (R415) -/
  recoveryDue : Bool := false
  /-- instants at which its recoveries started (R417), and of its last initialisation (R426) -/
  recoveries : List Nat := []
  initAt : Nat := 0
  /-- retirement entries made while the hub did not answer (R413) -/
  unlogged : List (Nat × Nat × Nat) := []
  /-- its reference clock is absent (spec/20 R442) -/
  clockLost : Bool := false
  /-- a macro's fuses could not hold its repairs (spec/19 R424) -/
  fuseFull : Bool := false
  /-- the running recovery has initialised the plane (spec/19 R415) -/
  recoveryInit : Bool := false
  /-- margin re-planning (Table 19.5): raises of the islands' voltage requests in mV, equalisers to retune (`mon_sel` values),
  scrub intervals of HBM pseudo-channels in hours -/
  vraise : List (Nat × Nat) := []
  retune : List Nat := []
  scrubHours : List (Nat × Nat) := []
  deriving DecidableEq, Repr

/-! ### Fabric ports (spec/03) -/

/-- A transmitted frame that the peer has not acknowledged (R55). -/
structure Unacked where
  seq : Nat
  copy : Nat
  cls : Nat
  cells : Nat
  tries : Nat
  frame : Frame
  deriving DecidableEq, Repr

/-- State of a fabric port beside its objects. -/
structure PortSt where
  /-- consecutive training frames that agree (R47) and the last of them without MSG and TRAIN_SEQ; whether three have agreed in
  this training, from which on the port sends TRAIN_DONE -/
  agree : Nat := 0
  lastTrain : BitVec 256 := 0
  agreed : Bool := false
  trainSeq : Nat := 0
  doneSent : Bool := false
  doneRcvd : Bool := false
  /-- consecutive failed trainings (R49) -/
  failed : Nat := 0
  peerLanes : Nat := 0
  peerCaps : Nat := 0
  /-- cells per class the peer granted, and those granted to the peer at this training -/
  limTx : List Nat := []
  limRx : List Nat := []
  /-- cells per class, modulo 2^16: sent, freed by the peer, received, freed, freed as last reported in CREDIT (R50) -/
  sent : List Nat := []
  freedPeer : List Nat := []
  rcvd : List Nat := []
  freed : List Nat := []
  reported : List Nat := []
  /-- next LINK_SEQ to send, next expected -/
  txSeq : Nat := 0
  rxExp : Nat := 0
  /-- the number expected when the last CREDIT went out: frames received since are not acknowledged yet (R51) -/
  ackSent : Nat := 0
  unacked : List Unacked := []
  /-- a NAK has been sent for the present gap (R53) -/
  nakSent : Bool := false
  /-- LINK_SEQ numbers to send again (R55), and whether the resend counts toward R56 (R58) -/
  resend : List Nat := []
  resendFree : Bool := false
  /-- link frames waiting for the next frame boundary (R110) -/
  linkQ : List Frame := []
  /-- the fence bit is set (R35) -/
  fenced : Bool := false
  /-- what holds the port DOWN, as bits: 0 laser pair lost (R295), 1 chiplet hot (R450), 2 port failure (R58, Table 19.1),
  3 ring bank released (R312), 4 chiplet retired (Table 19.2) -/
  holdDown : Nat := 0
  /-- a bypass window is open on the port and its link state is frozen (spec/14 R324, R327); an endpoint's cells sent and
  received in it -/
  window : Bool := false
  winTx : Nat := 0
  winRx : Nat := 0
  deriving DecidableEq, Repr

/-! ### Switch core (spec/04) -/

/-- A frame stored in a row of kites. -/
structure FrameRec where
  plane : Nat
  /-- switch port of the input -/
  input : Nat
  frame : Frame
  cls : Nat
  tenant : Nat
  cells : Nat
  /-- its copies are charged to the tenant's cell quota (R359) -/
  charged : Bool
  /-- the fabric port whose credit returns when the last copy is freed -/
  credit : Option Nat
  /-- the group whose member at the copy's output gives DEST_DEVICE and DEST_PORT (spec/08 R171) -/
  grp : Option Nat := none
  /-- the reduction context whose result the frame carries (spec/07 Table 7.8) -/
  ctx : Option Nat := none
  deriving DecidableEq, Repr

/-- Where a copy stands (R69, R70, R72). -/
inductive Stage where
  | queued
  | parked
  | deferred
  deriving DecidableEq, Repr

/-- One copy of a frame toward one column. -/
structure Copy where
  plane : Nat
  fid : Nat
  row : Nat
  col : Nat
  stage : Stage
  /-- cells held, per kite of the row (20 for the spare) -/
  place : List (Nat × Nat)
  /-- targets not yet sent; sent and not at their release point; at their release point (R75) -/
  wait : List Nat
  sentTo : List Nat
  due : List Nat
  /-- append order (R73) and the instant of the append -/
  seq : Nat
  at_ : Nat
  /-- reached its kite by a move (R67) -/
  moved : Bool
  /-- whether the copy is counted in `tn_cells_used` -/
  charged : Bool
  deriving DecidableEq, Repr

/-- A held frame of a resequenced flow (R81). -/
structure Held where
  seq : Nat
  input : Nat
  frame : Frame
  at_ : Nat
  buf : Nat
  deriving DecidableEq, Repr

/-- A resequencer flow (R81, R82). -/
structure Flow where
  plane : Nat
  id : FlowId
  expected : Nat
  held : List Held
  lastRx : Nat
  deriving DecidableEq, Repr

/-- A frame from an internal input that waits for R71. -/
structure WaitIn where
  plane : Nat
  /-- switch port of the input -/
  input : Nat
  frame : Frame
  /-- switch ports of its targets (200 + c: the reducer of column c) -/
  outs : List Nat
  /-- the group of a multicast set, as in `FrameRec.grp` -/
  grp : Option Nat := none
  /-- the reduction context whose result the frame carries (spec/07 Table 7.8) -/
  ctx : Option Nat := none
  deriving DecidableEq, Repr

/-- The hand-over or forced swap of a row (R84, R85). -/
structure RowSt where
  /-- the column the spare stands in for or is being connected to -/
  col : Option Nat := none
  /-- the spare carries new frames of that column -/
  connected : Bool := false
  /-- a forced swap is running and the spare is not yet in service -/
  forced : Bool := false
  /-- a planned hand-over to the spare (true) or a return (false) drains the other kite -/
  draining : Option Bool := none
  /-- the swap serves a self-test slice (R419) -/
  forBist : Bool := false
  /-- the kite leaves service for good when it has drained (spec/19 R437) -/
  retire : Bool := false
  /-- the kite is to return from the spare as soon as no swap is in progress (spec/19 R410) -/
  returnDue : Bool := false
  deriving DecidableEq, Repr

/-! ### Reduction contexts (spec/07) and collectives (spec/08) -/

/-- A block of a reduction context: reports and contributions of this attempt, greatest report (R141), whether some
contribution was not absent, and its 32 sums: integers at the anchor, or binary32 bits in float mode. -/
structure RBlk where
  reports : Nat := 0
  top : Option Int := none
  arrived : Nat := 0
  present : Bool := false
  sums : List Int := []
  deriving DecidableEq, Repr

/-- A reduction context beside its objects. -/
structure RctxSt where
  /-- the collective slot and step that launched it -/
  slot : Nat := 0
  step : Nat := 0
  /-- entries being cleared, at launch or for a restart (R137, R156) -/
  clearing : Bool := false
  /-- held in ABORTING by a group re-formation until the program reaches its step (R186), and ABORT_CTX still to go out for it -/
  held : Bool := false
  owes : Bool := false
  /-- 2 + ℓ: waits in ABORTING until lane ℓ has its spare (R158); 0 otherwise -/
  hold : Nat := 0
  /-- `anchor_raise`, `red_restart_max` and `sparse_max_nz` as read at the launch (R160) -/
  raiseBy : Nat := 8
  restartMax : Nat := 4
  maxNz : Nat := 16
  /-- the anchor rises at the restart (R151) -/
  raise : Bool := false
  /-- restarts of this launch, and those with status 0x02 or 0x03 (R156) -/
  restarts : Nat := 0
  faults : Nat := 0
  blocks : List (Nat × RBlk) := []
  /-- where results go: the AUX of the REDUCE step, 0x1000 members of a COMBINE step, 0xFFFF not yet named (R181) -/
  dest : Nat := 0xFFFF
  /-- the upper device, context and ATTEMPT that a block of this attempt has gone to (R183) -/
  sentUp : Option (Nat × Nat × Nat) := none
  deriving DecidableEq, Repr

/-- A collective slot beside its objects. -/
structure SlotSt where
  /-- launches that wait (R168) -/
  queued : Nat := 0
  /-- launch number of the running launch -/
  launch : Nat := 0
  /-- the action of the step at `slot_step_now` has been taken -/
  acted : Bool := false
  /-- WAIT targets by step (R173) -/
  targets : List Nat := []
  /-- by FORWARD_UP step (R180): the ATTEMPT of the upper device's REPORT, that of its CONTRIBUTE, and the ATTEMPT that the bound
  reports carried -/
  upReports : List (Nat × Nat) := []
  upContributes : List (Nat × Nat) := []
  upSent : List (Nat × Nat) := []
  /-- the partner's most recent XREADY: context and ATTEMPT (R182) -/
  xready : Option (Nat × Nat) := none
  /-- BROADCAST steps whose last frame has been relayed (R163) -/
  relayed : List Nat := []
  /-- COUNTS: member, destination, count; members that sent LAST; admitted tokens per destination (R176) -/
  counts : List (Nat × Nat × Nat) := []
  lasts : List Nat := []
  totals : List (Nat × Nat) := []
  /-- bytes each member announced for an ALLGATHER, and bytes relayed per member -/
  need : List (Nat × Nat) := []
  got : List (Nat × Nat) := []
  /-- tokens forwarded per expert (R178) -/
  forwarded : List (Nat × Nat) := []
  /-- in the re-formation under way (R186, R187): 1 aborted and waiting for its contexts to clear, 2 restarted -/
  reformed : Nat := 0
  deriving DecidableEq, Repr

/-- A notify entry (R172). -/
structure Notify where
  plane : Nat
  obj : Nat
  value : Nat
  slot : Nat
  device : Nat
  port : Nat
  deriving DecidableEq, Repr

/-! ### Compression contexts (spec/09) -/

/-- A span of the residual store (R210): the buffers of its two banks, and the zero flag. -/
structure SpanSt where
  b0 : Option Nat := none
  b1 : Option Nat := none
  /-- chunks whose old bank in this span is all +0 -/
  zero : List Nat := []
  deriving DecidableEq, Repr

/-- A compression context beside its objects. -/
structure CctxSt where
  /-- the slot and step that run on it -/
  slot : Nat := 0
  step : Nat := 0
  /-- chunk and iteration of the launch (R200) -/
  chunk : Nat := 0
  iter : Nat := 0
  /-- result blocks taken from the REDUCE step, in block order, as binary32 bits; none for a block of +0 -/
  shard : List (List Nat) := []
  /-- the place format: OUT_FORMAT of the REDUCE step's context that produced the shard (R195) -/
  place : Nat := 2
  /-- next unit; factor rows not yet sent, with the number of the first (low-rank) -/
  unit : Nat := 0
  rows : List Bytes := []
  row0 : Nat := 0
  proj : List Nat := []
  /-- bit k: chunk k's old bank is bank 1 -/
  banks : Nat := 0
  spans : List (Nat × SpanSt) := []
  /-- residuals: key 2 x + bank, binary32 bits, those that are +0 left out -/
  vals : List (Nat × Nat) := []
  /-- spans whose new bank was refused in this launch (R211) -/
  refused : List Nat := []
  /-- spans whose new bank has been written in this attempt -/
  written : List Nat := []
  deriving DecidableEq, Repr

/-! ### Pools (spec/05) -/

/-- One buffer pool. A requester is a tenant, or 4096 for the system requester (R99). -/
structure PoolSt where
  laidOut : Bool := false
  cache : Nat := 0
  ring : Nat := 0
  /-- free-store entries whose state bit is 1: a fault of the pool records (R96) -/
  stale : Nat := 0
  /-- allocated buffers and their owners -/
  owners : List (Nat × Nat) := []
  deriving DecidableEq, Repr

/-! ### Scheduler (spec/06) -/

/-- A page of a gate control list: time base, base time in ns, cycle, entries. -/
structure GatePage where
  tb : Nat := 0
  base : Nat := 0
  cycle : Nat := 1000
  entries : List Nat := [0xFF000000000003E8]
  deriving DecidableEq, Repr

/-- A pending change of list: the page, the instant from which gates keep the last entry and the change instant, as
readings of the active and of the new page's time base. -/
structure GatePend where
  page : GatePage
  holdFrom : Nat
  change : Nat
  deriving DecidableEq, Repr

/-- State of a scheduled output. -/
structure OutSt where
  page : GatePage := {}
  pend : Option GatePend := none
  /-- `gcl_enable` in force, and a write that waits for a cycle start (R114) -/
  enabled : Bool := false
  enableNext : Option Bool := none
  /-- active lists per class: tenants, head first (R117) -/
  lists : List (List Nat) := []
  /-- per class, the tenant whose queue is at its turn plus one, 0 for none; the promoted queue being served: class, tenant,
  allowance left (R121) -/
  turns : List Nat := []
  promo : Option (Nat × Nat × Nat) := none
  /-- promoted queues: class, tenant (R121) -/
  promoted : List (Nat × Nat) := []
  /-- idle holds waiting, in ns: calibration, BIST; and the kinds that are promoted, 1 calibration and 2 BIST (R122) -/
  calHold : List Nat := []
  /-- a hold taken at the next frame boundary, ahead of every class (spec/13 R308) -/
  forceHold : Option Nat := none
  bistHold : List Nat := []
  bgPromoted : List Nat := []
  /-- an idle hold is in force until this instant -/
  holdUntil : Nat := 0
  /-- service clock per class (units of 1/2400 ns), the instant up to which it counts and whether it runs (R118) -/
  svc : List Nat := []
  svcAt : Nat := 0
  svcRun : List Bool := []
  /-- per class, the row served last plus one, for outputs without tenant queues (R109) -/
  lastRow : List Nat := []
  /-- the bypass entries of the output's lists run as closed entries until a list without any is committed (spec/14 R320) -/
  bypClosed : Bool := false
  /-- recovery service is in force at this output, as of its last decision (R119); `sched_service` defaults to it -/
  recovery : Bool := true
  /-- decisions taken, and a sample that is due since the last 1,024th of them (R123) -/
  decisions : Nat := 0
  sampleDue : Bool := false
  /-- long-haul output: tenants whose request was refused spool, passed over until a buffer of theirs is freed (spec/05 Table
  5.5) -/
  noSpool : List Nat := []
  deriving DecidableEq, Repr

/-- A tenant queue of an output (R117 to R121): deficit, shaper credit in 1/19,200,000 byte, the instant it is brought up
to (units of 1/2400 ns), the service-clock mark, the wait clock (its reading in ns, and the instant since when it runs).
Tenant 4096 is the telemetry queue of class 7 (R122). -/
structure TqSt where
  deficit : Nat := 0
  credit : Int := 0
  upTo : Nat := 0
  mark : Nat := 0
  waited : Nat := 0
  waitFrom : Option Nat := none
  backlogged : Bool := false
  deriving DecidableEq, Repr

/-! ### Time bases (spec/15) -/

/-- A time base: reading `base` (units of 2^-32 ns) at clock `since`, frequency adjustment in 2^-32 ppb. -/
structure TbSt where
  base : Nat := 0
  since : Nat := 0
  adj : Int := 0
  /-- sum of the servo, in 2^-16 ns (R344) -/
  integ : Int := 0
  /-- consecutive samples within, and beyond, the lock threshold (R345) -/
  good : Nat := 0
  bad : Nat := 0
  /-- last 16 adjustments, newest first, and whether the adjustment is frozen (R345) -/
  adjs : List Int := []
  /-- last 16 readings of b − a in 2^-16 ns (R347), newest first, and the frozen difference (R348) -/
  diffs : List Int := []
  frozen : Int := 0
  /-- last 8 own samples while following the standby, in 2^-16 ns (R349) -/
  own : List Int := []
  /-- the grandmaster fields of the slave port's last Announce (R340) -/
  announced : Option Nat := none
  syncSeq : Nat := 0
  annSeq : Nat := 0
  deriving DecidableEq, Repr

/-- A PTP port's peer delay state (R341), per line port. -/
structure PdSt where
  /-- the outstanding request: sequence number and t1 in 2^-16 ns -/
  req : Option (Nat × Nat) := none
  nextSeq : Nat := 0
  /-- last 8 results in 2^-16 ns, newest first -/
  results : List Int := []
  deriving DecidableEq, Repr

/-! ### Tether (spec/10) and keys (spec/11) -/

/-- A long-haul link beside its objects. Frames are numbered 64 · MFN + FN. -/
structure LinkSt where
  /-- PCS lock (R215) -/
  pcs : Bool := false
  /-- 0 out of frame, 1 in frame and out of multiframe, 2 in multiframe (Table 10.4) -/
  align : Nat := 0
  /-- out of frame: the number of the last frame, where it was valid -/
  last : Option Nat := none
  /-- in frame: the number of the next frame, and the run of bad frames -/
  expect : Nat := 0
  bad : Nat := 0
  /-- the running multiframe was in frame from its start; no valid frame of it had another MFN -/
  whole : Bool := false
  clean : Bool := true
  /-- runs of consistent and inconsistent multiframes -/
  good : Nat := 0
  incons : Nat := 0
  /-- next frame to send in the transmit multiframe -/
  fn : Nat := 0
  /-- the module is removed: its loss is no fault event -/
  removed : Bool := false
  /-- the module reports its output disabled -/
  outOff : Bool := false
  deriving DecidableEq, Repr

/-- A stripe whose 16 frames are not all decided (R225): its number 16 · MFN + s, the frames received as symbol and slot
area. -/
structure Stripe where
  no : Nat
  got : List (Nat × Bytes) := []
  par : List (Nat × Bytes) := []
  /-- parity frames discarded over the limit -/
  dropped : List Nat := []
  deriving DecidableEq, Repr

/-- A value read from the carrier overhead at FN 0: the MFN, the value, and the length of its run (R235). -/
structure Reading where
  mfn : Nat := 0
  value : Nat := 0
  run : Nat := 0
  deriving DecidableEq, Repr

/-- Tether of a plane beside its objects. -/
structure TetherSt where
  /-- slot areas of the transmit multiframe by 4 · FN + L (empty: all idle), and how many are filled -/
  areas : List (Nat × Bytes) := []
  filled : Nat := 0
  /-- transmit page, a commit pending for an MFN, and whether it is announced (R231) -/
  txPage : Nat := 0
  txPend : Option Nat := none
  announced : Bool := false
  /-- receive page, the MFN from which it holds, an armed commit, an accepted announcement not yet reached (R232) -/
  rxPage : Nat := 0
  rxFrom : Option Nat := none
  rxArmed : Bool := false
  rxNext : Option Nat := none
  /-- BRIDGE and BRIDGE_RG by MFN; earliest arrival of FN 0 by MFN -/
  infos : List (Nat × Nat) := []
  fn0 : List (Nat × Nat) := []
  stripes : List Stripe := []
  parityBufs : List Nat := []
  /-- readings of REQ, KEY_EPOCH, REKEY_MFN and NEXT_PAGE_MFN; the accepted REKEY_MFN -/
  reqRun : Reading := {}
  epochRun : Reading := {}
  rekeyRun : Reading := {}
  pageRun : Reading := {}
  accRekey : Nat := 0
  /-- signal fails and degrades as 16 · REQ + group: those whose hold-off runs, in the order in which they began; those that have
  persisted (R234); those among them that have caused a bridge; wait-to-restore: group and its end (R237) -/
  running : List Nat := []
  confirmed : List Nat := []
  caused : List Nat := []
  wtr : Option (Nat × Nat) := none
  /-- signal-degrade window: its number, stripes lost per route group in it and in the one before -/
  sdWindow : Nat := 0
  sdNow : List Nat := []
  sdLast : List Nat := []
  /-- ACKs and NAKs to send (R238, R240): tributary; tributary, first TSN, count -/
  ackQ : List Nat := []
  nakQ : List (Nat × Nat × Nat) := []
  /-- records sealed in the transmit multiframe, and whether its limit has acted; records received and limit reached by MFN, the
  multiframes that may still be arriving (R250) -/
  sealed : Nat := 0
  limited : Bool := false
  opened : List (Nat × Nat) := []
  deriving DecidableEq, Repr

/-- A frame waiting in a tributary: its bytes not yet sent, whether some have been sent, and the link a PTP frame is bound to
(spec/15 R339). -/
structure TxFrame where
  bytes : Bytes
  begun : Bool := false
  only : Option Nat := none
  deriving DecidableEq, Repr

/-- A transmit copy (R238). -/
structure TxCopy where
  tsn : Nat
  firstOff : Nat
  payload : Bytes
  tries : Nat
  link : Nat
  deriving DecidableEq, Repr

/-- A received slot that is held (R239): where it came from, its 1,040 bytes, and whether it has been delivered and its stripe
decided. -/
structure RxSlot where
  tsn : Nat
  link : Nat
  stripe : Nat
  bytes : Bytes
  done : Bool := false
  decided : Bool := false
  deriving DecidableEq, Repr

/-- A gap that has been NAKed (R240). -/
structure Gap where
  first : Nat
  count : Nat
  naks : Nat
  at_ : Nat
  /-- the queue of NAKs was full: left to the sender's timeout (R240) -/
  left : Bool := false
  deriving DecidableEq, Repr

/-- A tributary beside its objects. -/
structure TribSt where
  txq : List TxFrame := []
  txBufs : List Nat := []
  copies : List TxCopy := []
  retx : List Nat := []
  held : List RxSlot := []
  rxBufs : List Nat := []
  /-- stream bytes of the frame in progress; false after a loss, until the next FIRST_OFF -/
  stream : Bytes := []
  synced : Bool := true
  gaps : List Gap := []
  deriving DecidableEq, Repr

/-- A traffic key: its epoch, usage limit and the four links' counters (R254, R256). -/
structure TKey where
  epoch : Nat
  key : Nat
  limit : Nat
  ctrs : List Nat := [0, 0, 0, 0]
  deriving DecidableEq, Repr

/-- A master key selection (R258, R259): the wrapped blobs are in the journal. -/
structure MasterSt where
  inForce : Option Nat := none
  pending : Option Nat := none
  /-- a traffic key was held at some time in the transmit epoch in force -/
  keyed : Bool := false
  deriving DecidableEq, Repr

/-- The key engine of a plane (spec/11 11.6, 11.7). -/
structure KeySt where
  /-- the epoch being derived, and whether for a resynchronisation -/
  deriving_ : Option Nat := none
  resync : Bool := false
  /-- the epoch taken at the next multiframe after a resynchronisation -/
  next : Option Nat := none
  /-- a leader's `rekey_mfn` as its command took it -/
  leading : Bool := false
  target : Nat := 0
  /-- REKEY_MFN as sent; passed without a ready partner -/
  announce : Nat := 0
  late : Bool := false
  deriving DecidableEq, Repr

/-! ### Ballast (spec/12) -/

/-- A page held in tier 1: its number, buffer, CRC-64 and content. -/
structure Page where
  no : Nat
  buf : Nat
  crc : Nat
  data : Bytes
  deriving DecidableEq, Repr

/-- A version held in tier 2 (R287): its header (number, tenant, `rgn_pages`, CRC-64 by page; the region is the record's own) and
its pages. -/
structure T2Ver where
  no : Nat
  tenant : Nat := 0
  pages : Nat := 0
  crcs : List (Nat × Nat) := []
  data : List (Nat × Bytes) := []
  deriving DecidableEq, Repr

/-- Replication or mirroring of a region (R283, R285): acknowledged and pending CRCs by page, the version of the outstanding
REPL_COMMIT, consecutive failures. -/
structure PeerSt where
  acked : List (Nat × Nat) := []
  pend : List (Nat × Nat) := []
  outst : Option Nat := none
  fails : Nat := 0
  deriving DecidableEq, Repr

/-- A region beside its objects. -/
structure RgnSt where
  /-- the in-progress version's number -/
  next : Nat := 1
  /-- pages of the committed version in tier 1, and of the in-progress version -/
  cur : List Page := []
  prog : List Page := []
  /-- a page of the in-progress version was refused (check 6) -/
  incomplete : Bool := false
  /-- replica: page frames received for the in-progress version, and their page numbers -/
  recv : Nat := 0
  seen : List Nat := []
  /-- versions in tier 2, newest first; the version being drained -/
  t2 : List T2Ver := []
  drain : Option Nat := none
  repl : PeerSt := {}
  mirror : PeerSt := {}
  deriving DecidableEq, Repr

/-! ### Hub (spec/17, 18, 20) -/

/-- A stored response (R378). -/
structure Resp where
  ses : Nat
  id : Nat
  status : Nat
  typ : Nat := 0
  sat : Bool := false
  value : Bytes := []
  deriving DecidableEq, Repr

/-- An open DOMAIN transfer (R384). -/
structure Xfer where
  key : Key
  write : Bool
  next : Nat := 0
  total : Nat := 0
  crc : Nat := 0
  data : Bytes := []
  deriving DecidableEq, Repr

/-- A management session (R375, R383, R405, R406). -/
structure SessionSt where
  isOpen : Bool := false
  port : Nat := 0
  fp : Nat := 0
  responses : List Resp := []
  xfer : Option Xfer := none
  /-- a transfer of the session was discarded (R385): later segments answer 0x0602 -/
  xferLost : Bool := false
  filters : List (Option (Nat × Nat)) := []
  events : List (BitVec 256) := []
  evSeq : Nat := 0
  overflow : Bool := false
  deriving DecidableEq, Repr

/-- The snapshot service (R351, R393): while armed the instant in ns, the time base, the listed objects and the planes that have
not latched; the parts latched so far as place in the list, flags and value bytes. -/
structure SnapSt where
  armed : Bool := false
  t : Nat := 0
  tb : Nat := 0
  objs : List (Nat × Nat) := []
  wait : List Nat := []
  parts : List (Nat × Nat × Bytes) := []
  deriving DecidableEq, Repr

/-- One committed journal record: SEQ and the values it stores (R388). -/
structure JRec where
  seq : Nat
  vals : List (Key × Nat)
  bytes : Nat
  deriving DecidableEq, Repr

/-- A health channel beside its objects (spec/19 R409, R410). -/
structure ChanSt where
  /-- fault events in the running window -/
  count : Nat := 0
  /-- a retry of a fault event is running -/
  retry : Bool := false
  /-- when the last event was cleared -/
  cleared : Option Nat := none
  deriving DecidableEq, Repr

/-- A chiplet's calibration engine and optics beside its objects (spec/13). -/
structure CalSt where
  /-- the pair whose round runs, and its kind: 0 calibration, 1 forced, 2 matrix -/
  round : Option Nat := none
  kind : Nat := 0
  /-- heater codes recorded at the round's start: ring, code -/
  saved : List (Nat × Nat) := []
  /-- pairs that are due, with the instant they became so (R303) -/
  due : List (Nat × Nat) := []
  /-- run of consecutive aborts per pair (R306), and instant of the last completed round -/
  aborts : List (Nat × Nat) := []
  lastDone : List (Nat × Nat) := []
  /-- consecutive completed rounds without a fit, per ring -/
  misses : List (Nat × Nat) := []
  /-- pairs that a matrix command has still to measure (R309) -/
  matrix : List Nat := []
  /-- idle runs noted per local port (R304) -/
  idle : List Nat := []
  /-- the pair that a forced round is asked for (R308) -/
  forcedPair : Option Nat := none
  /-- per ring: heater power in uW, cold resonance in MHz relative to f0, heater at the last check -/
  heater : List (Nat × Nat) := []
  cold : List (Nat × Int) := []
  /-- power of the lasers when a round started, 0.01 dBm -/
  atStart : List (Nat × Int) := []
  /-- lasers: consecutive samples below absence, level alarms standing -/
  below : List (Nat × Nat) := []
  /-- wrong-lock instants per ring (R313) -/
  wrong : List (Nat × Nat) := []
  /-- banks released and being re-swept, with the attempts made (R312) -/
  sweeping : List (Nat × Nat) := []
  /-- the stored block of each pair in matrix mode: its 16 × 16 coefficients by rows, signed Q1.15 (R299) -/
  blocks : List (Nat × List (BitVec 16)) := []
  /-- local ports whose incoming light showed the pilot tones at their last training (R310) -/
  toned : List Nat := []
  /-- a valid matrix is held; a mode written during a round (R300) -/
  matrixOk : Bool := false
  pendMode : Option Nat := none
  /-- the reserve that margin re-planning asks for; least and greatest set point per ring since the last one (spec/19
  Table 19.5) -/
  raised : Nat := 0
  swing : List (Nat × Nat × Nat) := []
  deriving DecidableEq, Repr

/-- The self-test rotation of a plane (spec/19 R419 to R422). -/
structure BistSt where
  /-- the unit under test, by its place in the rotation; it waits for its stand-in; it is tested once more after a repair -/
  unit : Option Nat := none
  waiting : Bool := false
  again : Bool := false
  /-- units tested in this rotation, its start, groups whose suspension has been latched -/
  tested : Nat := 0
  startAt : Nat := 0
  suspended : List Nat := []
  deriving DecidableEq, Repr

/-- An ageing monitor (spec/19 R427): the worst value of each past day, newest first, and of today. -/
structure MonSt where
  days : List Int := []
  day : Nat := 0
  today : Option Int := none
  deriving DecidableEq, Repr

/-- State copy of a plane (spec/19 R432 to R436). -/
structure ScSt where
  /-- destination: regions to read with their next page; reads in flight as region, next page, pages left -/
  todo : List (Nat × Nat) := []
  flight : List (Nat × Nat × Nat) := []
  /-- OBJECTS entries by object, SLOTS entries -/
  objs : List (Nat × Nat) := []
  slots : List Nat := []
  /-- sequencer messages held for the session's slots -/
  held : List Frame := []
  /-- destination: the REQUEST to send, the source and the tenant, as the start command found them -/
  req : Nat := 0
  dev : Nat := 0
  tenant : Nat := 0
  /-- destination: pages received of a region not yet stored whole, with the region; the version they belong to -/
  got : List (Nat × Page) := []
  vers : List (Nat × Nat) := []
  /-- source: the REQUEST being served -/
  serving : Option Frame := none
  deriving DecidableEq, Repr

/-- One entry of the retire log (spec/19 R413): plane, channel, kind (1 retired, 2 soft repair, 3 fused), time. -/
structure RetireEntry where
  plane : Nat
  chan : Nat
  kind : Nat
  at_ : Nat
  deriving DecidableEq, Repr

/-- The hub die. -/
structure HubSt where
  /-- power-good has come and the hub has not booted since (spec/20 R447, R452) -/
  awaitBoot : Bool := true
  running : Bool := false
  /-- stays in the boot ROM (R453) -/
  romStay : Bool := false
  /-- has stopped answering in service (R19) -/
  silent : Bool := false
  /-- pins: released or high is true -/
  irqN : Bool := true
  serviceN : Bool := true
  thermTripN : Bool := true
  /-- VDD_IO in range (R477) -/
  vddIo : Bool := true
  /-- width and rate at which the host link trained (R379) -/
  hostLink : Option (Nat × Nat) := none
  /-- the fault manager's last message is within its timer (R31) -/
  fmPresent : Bool := true
  lockPendingRelease : Bool := false
  factoryPending : Bool := false
  /-- the journal's committed records in SEQ order, its active bank and generation; read-backs of the flash that will
  fail next; records that a boot ignores and the bytes they take; a bank to be erased -/
  jnl : List JRec := []
  jnlBadReads : Nat := 0
  jnlTorn : Nat := 0
  jnlTornBytes : Nat := 0
  jnlUnreadable : Bool := false
  /-- the firmware images in the flash (R387) -/
  imgA : Bytes := []
  imgB : Bytes := []
  /-- mailbox (R379, R380) -/
  mbStatus : Nat := 0
  mbIrqEn : Bool := false
  mbIgnored : Nat := 0
  mbRequest : Bytes := []
  mbResponse : Bytes := []
  /-- the journal holds a thermal trip (spec/20 R451) -/
  tripReason : Bool := false
  /-- latches made while the hub was silent, to be pushed when it answers: INDEX, BIT, PLANE, UNIT, STAMP, UNLOCKED -/
  heldEvents : List (Nat × Nat × Nat × Nat × Nat × Bool) := []
  /-- stamps of the last event record of each plane, for ORDER_UNDEF (spec/15 R350) -/
  lastStamp : List Nat := []
  retireLog : List RetireEntry := []
  /-- power: failed AVSBus transactions in a row; a lower set point asked for, in mV, and since when (spec/20 R448) -/
  avsFails : Nat := 0
  avsLowSince : Option (Nat × Nat) := none
  deriving DecidableEq, Repr

/-! ### Outputs -/

/-- What leaves the device or is handed to a unit outside a chapter's model, in the order of leaving. -/
inductive Out where
  /-- an LFL frame on a fabric port: plane, port, frame -/
  | lfl (p n : Nat) (f : Frame)
  /-- a frame handed to the hub path: plane -/
  | hubPath (p : Nat) (f : Frame)
  /-- a carrier frame on a long-haul port -/
  | carrier (p l : Nat) (cf : CarrierFrame)
  /-- a response to a management request -/
  | resp (r : Resp)
  /-- event records pushed to a session -/
  | event (ses : Nat) (recs : List (BitVec 256))
  /-- an MSI-X vector -/
  | msix (v : Nat)
  /-- a CMIS operation on a laser or coherent module: plane, module (0 to 15 laser 4 c + e, 16 to 19 coherent), on -/
  | cmis (p m : Nat) (on : Bool)
  deriving DecidableEq, Repr

/-- The whole device but the queue of commands. -/
structure Device where
  /-- the dictionary's registers: entries in rising order, none at its reset value -/
  regs : List (Key × Nat) := []
  /-- sticky saturation flags (R386) -/
  sat : List Key := []
  /-- values of DOMAIN objects and others longer than a number -/
  domains : List (Key × Bytes) := []
  /-- the model's clock: ns since power-good (assumption log 2) -/
  clock : Nat := 0
  /-- the model's counter of free values (assumption log 6) -/
  freeCtr : Nat := 0
  /-- the model's counter of frame, copy and append numbers -/
  nextId : Nat := 1
  out : List Out := []
  /-- frames taken in for a unit of the plane: plane, unit, switch port of the input, frame -/
  inbox : List (Nat × Nat × Nat × Frame) := []
  hub : HubSt := {}
  planes : List (Ix × PlaneSt) := []
  sessions : List (Ix × SessionSt) := []
  ports : List (Ix × PortSt) := []
  frames : List (Ix × FrameRec) := []
  copies : List (Ix × Copy) := []
  flows : List Flow := []
  waitIn : List WaitIn := []
  rows : List (Ix × RowSt) := []
  lfsr : List (Ix × Nat) := []
  spray : List (Ix × Nat) := []
  pools : List (Ix × PoolSt) := []
  outs : List (Ix × OutSt) := []
  tqs : List (Ix × TqSt) := []
  tbs : List (Ix × TbSt) := []
  pds : List (Ix × PdSt) := []
  rctxs : List (Ix × RctxSt) := []
  slots : List (Ix × SlotSt) := []
  notifies : List Notify := []
  cctxs : List (Ix × CctxSt) := []
  chans : List (Ix × ChanSt) := []
  cals : List (Ix × CalSt) := []
  links : List (Ix × LinkSt) := []
  tethers : List (Ix × TetherSt) := []
  tribs : List (Ix × TribSt) := []
  masters : List (Ix × MasterSt) := []
  tkeys : List (Ix × Option TKey) := []
  keys : List (Ix × KeySt) := []
  rgns : List (Ix × RgnSt) := []
  bists : List (Ix × BistSt) := []
  /-- spares that stand in, per group (code · 4096 + place): unit, spare (spec/19 Table 19.1) -/
  stands : List (Ix × List (Nat × Nat)) := []
  mons : List (Ix × MonSt) := []
  copiesSc : List (Ix × ScSt) := []
  snap : SnapSt := {}
  deriving DecidableEq, Repr

/-- The machine's state: the device and the commands that wait, first in, first out. -/
structure State where
  dev : Device := {}
  pending : List Instr := []
  deriving DecidableEq, Repr

/-- The stops by fault. -/
inductive Fault where
  /-- raised by PORESET and PLANE_RST for a pulse longer than 100 ns and shorter than the minimum of R443, for which
  spec/22 R477 defines nothing; safe: the model stops where the hardware does something unknown -/
  | resetPulseUndefined
  deriving DecidableEq, Repr

/-- The stops by refusal. -/
inductive Refusal where
  /-- a command that has no meaning yet; safe: nothing is said about it -/
  | notModelled (mnemonic : String)
  deriving DecidableEq, Repr

/-- The machine right after power-good: every register at its reset value, the hub not yet booted (spec/20 R455), nothing
in any store, no command waiting. -/
def State.reset : State := {}

end Sys2Proof.Machine
end

