-- ==== Sys2Proof/Machine/Tbl.lean ====
section
/-! DEFINITION. Tables: sorted lists of keys and values that list no entry equal to the default, so that equal tables are
equal data. -/

namespace Sys2Proof.Machine

/-- The value of a key, `z` where the table lists none. -/
def Tbl.get {κ β : Type} [DecidableEq κ] (t : List (κ × β)) (k : κ) (z : β) : β :=
  match t with
  | [] => z
  | (j, v) :: r => if j = k then v else Tbl.get r k z

/-- Insert an entry before the first greater key. -/
def Tbl.ins {κ β : Type} (lt : κ → κ → Bool) (k : κ) (v : β) : List (κ × β) → List (κ × β)
  | [] => [(k, v)]
  | (j, w) :: r => if lt k j then (k, v) :: (j, w) :: r else (j, w) :: Tbl.ins lt k v r

/-- Remove a key. -/
def Tbl.erase {κ β : Type} [DecidableEq κ] (t : List (κ × β)) (k : κ) : List (κ × β) :=
  t.filter (fun e => !decide (e.1 = k))

/-- Write a key: its entry is replaced, and removed where the value is the default. -/
def Tbl.put {κ β : Type} [DecidableEq κ] [DecidableEq β] (lt : κ → κ → Bool) (t : List (κ × β)) (k : κ) (v z : β) :
    List (κ × β) :=
  if v = z then Tbl.erase t k else Tbl.ins lt k v (Tbl.erase t k)

/-- Canonical form: keys strictly rising, no entry at its default. -/
def Tbl.wf {κ β : Type} [DecidableEq β] (lt : κ → κ → Bool) (z : κ → β) : List (κ × β) → Bool
  | [] => true
  | (k, v) :: r => (!decide (v = z k)) && r.all (fun e => lt k e.1) && Tbl.wf lt z r

end Sys2Proof.Machine
end

