-- ==== Sys2Proof/Machine/Ops.lean ====
section
/-! DEFINITION. The named operations over the device's state: registers, tables, counters, causes and events, the journal,
time. -/

namespace Sys2Proof.Machine

/-- The outcome of a step of this machine. -/
abbrev Res := Host.Outcome State Fault Refusal

/-! ### Registers -/

/-- Width of an object's value in bits (Table 17.1). -/
def Obj.width (o : Obj) : Nat := 8 * o.info.ty.bytes

/-- Buffers of a pool of `g` GiB (Table 5.2). -/
def poolCount (pool g : Nat) : Nat := if pool = 1 || pool = 4 then g * 262144 else g * 16384

/-- Default size of a pool in GiB (Table 5.2). -/
def poolDefault (pool : Nat) : Nat := nth [8, 2, 16, 4, 41] pool

/-- The reset value of a register: its table's default, where it depends on the entry computed from it. -/
def Obj.dflt (o : Obj) (i : Nat) : Nat :=
  match o with
  | .poolSizeGib => poolDefault i
  | .poolBufSize => if i = 1 || i = 4 then 0 else 1
  | .poolBuffers => poolCount i (poolDefault i)
  | .poolLowWater => poolCount i (poolDefault i)
  | .kiteState => if i % 256 = 0x1F then 2 else 0
  | .tbDomain => i
  | _ => o.info.dflt

/-- Read a register. -/
def Device.get (d : Device) (o : Obj) (p i : Nat) : Nat := Tbl.get d.regs ⟨o, p, i⟩ (o.dflt i)

/-- Write a register: the one operation that changes the register file. -/
def Device.set (d : Device) (o : Obj) (p i v : Nat) : Device :=
  { d with regs := Tbl.put Key.lt d.regs ⟨o, p, i⟩ (v % 2 ^ o.width) (o.dflt i) }

/-- Whether the sticky saturation flag of a counter is set (R386). -/
def Device.satOf (d : Device) (k : Key) : Bool := d.sat.contains k

/-- Count `n` events: a U32 counter stops at its highest value and sets its saturation flag, a wider one never saturates
(R386). -/
def Device.count (d : Device) (o : Obj) (p i n : Nat) : Device :=
  let v := d.get o p i + n
  if o.width = 64 then d.set o p i v
  else if v < 2 ^ o.width then d.set o p i v
  else
    let k : Key := ⟨o, p, i⟩
    { d.set o p i (2 ^ o.width - 1) with sat := if d.sat.contains k then d.sat else k :: d.sat }

/-- Count one event. -/
def Device.bump (d : Device) (o : Obj) (p i : Nat) : Device := d.count o p i 1

/-- Raise a high-water object to a sample. -/
def Device.highWater (d : Device) (o : Obj) (p i v : Nat) : Device :=
  if d.get o p i < v then d.set o p i v else d

/-- The value of a DOMAIN object. -/
def Device.domain (d : Device) (o : Obj) (p i : Nat) : Bytes := Tbl.get d.domains ⟨o, p, i⟩ []

/-- Replace the value of a DOMAIN object. -/
def Device.setDomain (d : Device) (o : Obj) (p i : Nat) (v : Bytes) : Device :=
  { d with domains := Tbl.put Key.lt d.domains ⟨o, p, i⟩ v [] }

/-! ### Tables -/

/-- State of a plane die. -/
def Device.plane (d : Device) (p : Nat) : PlaneSt := Tbl.get d.planes (p, 0) {}
/-- Replace it. -/
def Device.setPlane (d : Device) (p : Nat) (v : PlaneSt) : Device := { d with planes := Tbl.put Ix.lt d.planes (p, 0) v {} }
/-- State of a fabric port. -/
def Device.port (d : Device) (p n : Nat) : PortSt := Tbl.get d.ports (p, n) {}
/-- Replace it. -/
def Device.setPort (d : Device) (p n : Nat) (v : PortSt) : Device := { d with ports := Tbl.put Ix.lt d.ports (p, n) v {} }
/-- A row's spare and swap. -/
def Device.row (d : Device) (p r : Nat) : RowSt := Tbl.get d.rows (p, r) {}
/-- Replace it. -/
def Device.setRow (d : Device) (p r : Nat) (v : RowSt) : Device := { d with rows := Tbl.put Ix.lt d.rows (p, r) v {} }
/-- A buffer pool. -/
def Device.pool (d : Device) (p k : Nat) : PoolSt := Tbl.get d.pools (p, k) {}
/-- Replace it. -/
def Device.setPool (d : Device) (p k : Nat) (v : PoolSt) : Device := { d with pools := Tbl.put Ix.lt d.pools (p, k) v {} }
/-- A scheduled output: line port 0 to 131, or 200 + attachment or reducer for outputs without gates. -/
def Device.outp (d : Device) (p o : Nat) : OutSt := Tbl.get d.outs (p, o) {}
/-- Replace it. -/
def Device.setOutp (d : Device) (p o : Nat) (v : OutSt) : Device := { d with outs := Tbl.put Ix.lt d.outs (p, o) v {} }
/-- The number of tenant queue (o, c, t). -/
def tqIx (o c t : Nat) : Nat := (o * 8 + c) * 8192 + t
/-- A tenant queue. -/
def Device.tq (d : Device) (p o c t : Nat) : TqSt := Tbl.get d.tqs (p, tqIx o c t) {}
/-- Replace it. -/
def Device.setTq (d : Device) (p o c t : Nat) (v : TqSt) : Device :=
  { d with tqs := Tbl.put Ix.lt d.tqs (p, tqIx o c t) v {} }
/-- A time base. -/
def Device.tb (d : Device) (p n : Nat) : TbSt := Tbl.get d.tbs (p, n) {}
/-- Replace it. -/
def Device.setTb (d : Device) (p n : Nat) (v : TbSt) : Device := { d with tbs := Tbl.put Ix.lt d.tbs (p, n) v {} }
/-- The peer delay state of a line port. -/
def Device.pd (d : Device) (p o : Nat) : PdSt := Tbl.get d.pds (p, o) {}
/-- Replace it. -/
def Device.setPd (d : Device) (p o : Nat) (v : PdSt) : Device := { d with pds := Tbl.put Ix.lt d.pds (p, o) v {} }
/-- A reduction context. -/
def Device.rctx (d : Device) (p x : Nat) : RctxSt := Tbl.get d.rctxs (p, x) {}
/-- Replace it. -/
def Device.setRctx (d : Device) (p x : Nat) (v : RctxSt) : Device := { d with rctxs := Tbl.put Ix.lt d.rctxs (p, x) v {} }
/-- A collective slot. -/
def Device.slot (d : Device) (p n : Nat) : SlotSt := Tbl.get d.slots (p, n) {}
/-- Replace it. -/
def Device.setSlot (d : Device) (p n : Nat) (v : SlotSt) : Device := { d with slots := Tbl.put Ix.lt d.slots (p, n) v {} }
/-- A compression context. -/
def Device.cctx (d : Device) (p n : Nat) : CctxSt := Tbl.get d.cctxs (p, n) {}
/-- Replace it. -/
def Device.setCctx (d : Device) (p n : Nat) (v : CctxSt) : Device := { d with cctxs := Tbl.put Ix.lt d.cctxs (p, n) v {} }
/-- A management session. -/
def Device.session (d : Device) (s : Nat) : SessionSt := Tbl.get d.sessions (0, s) {}
/-- Replace it. -/
def Device.setSession (d : Device) (s : Nat) (v : SessionSt) : Device :=
  { d with sessions := Tbl.put Ix.lt d.sessions (0, s) v {} }

/-! ### Free values, numbers, outputs -/

/-- A free value and the device whose counter it advanced (assumption log 6). -/
def Device.fresh (d : Device) : Nat × Device := (Config.free d.freeCtr, { d with freeCtr := d.freeCtr + 1 })

/-- A new number for a frame, a copy or an append. -/
def Device.newId (d : Device) : Nat × Device := (d.nextId, { d with nextId := d.nextId + 1 })

/-- Append to what has left the device. -/
def Device.emit (d : Device) (o : Out) : Device := { d with out := d.out ++ [o] }

/-! ### Time -/

/-- The reading of P<p>.TB<n> in units of 2^-32 ns (spec/15 R333): the clock since the last set, at the nominal rate plus the
frequency adjustment. -/
def Device.tbFine (d : Device) (p n : Nat) : Nat :=
  let t := d.tb p n
  let e : Int := (d.clock - t.since : Nat)
  (Int.ofNat t.base + e * (1000000000 * 2 ^ 32 + t.adj) / 1000000000).toNat

/-- The reading of P<p>.TB<n> in whole ns. -/
def Device.tbNow (d : Device) (p n : Nat) : Nat := d.tbFine p n / 2 ^ 32

/-- A TIME value (Table 17.1) of an instant in ns: 48-bit seconds, 32-bit nanoseconds. -/
def packTime (ns : Nat) : Nat := ns / 1000000000 % 2 ^ 48 * 2 ^ 32 + ns % 1000000000

/-- The instant in ns of a TIME value. -/
def unpackTime (v : Nat) : Nat := v / 2 ^ 32 * 1000000000 + v % 2 ^ 32

/-- The line ports with a role on a time base (spec/15 R341): 1 master, 2 slave, 3 passive. -/
def Device.ptpPorts (d : Device) (p n role : Nat) : List Nat :=
  (List.range 132).filter (fun o => d.get .ptpPortRole p (n * 256 + o) = role)

/-- The slave port of a time base. -/
def Device.slavePort (d : Device) (p n : Nat) : Option Nat := (d.ptpPorts p n 2).head?

/-- Whether a time base counts as locked (spec/15 R350). -/
def Device.tbLocked (d : Device) (p n : Nat) : Bool :=
  d.get .tbState p n = 2 ||
    (d.get .tbState p n = 0 && d.get .tbEnable p n = 1 && (d.slavePort p n).isNone && !(d.ptpPorts p n 1).isEmpty)

/-! ### Conditions of planes and hub -/

/-- The hub answers: booted and not stopped (R19, R452). -/
def Device.hubUp (d : Device) : Bool := d.hub.running && !d.hub.silent

/-- The plane works: initialised and not stopped. -/
def Device.live (d : Device) (p : Nat) : Bool :=
  match (d.plane p).cond with
  | .running => true
  | .maintenance => true
  | .recovering => true
  | _ => false

/-- The plane moves traffic: it does not in maintenance (spec/19 R424). -/
def Device.carries (d : Device) (p : Nat) : Bool := d.live p && (d.plane p).cond ≠ .maintenance

/-- Ports and links of the plane may come up: it runs, or its recovery has initialised it (spec/19 Table 19.3). -/
def Device.operates (d : Device) (p : Nat) : Bool :=
  (d.plane p).cond = .running || ((d.plane p).cond = .recovering && (d.plane p).recoveryInit)

/-- The plane answers the hub (R367): not disabled, held in reset, without clock or silent. A retired plane answers, since
its `switch_status` is read (spec/19 R418). -/
def Device.answers (d : Device) (p : Nat) : Bool :=
  (match (d.plane p).cond with
    | .inReset => false
    | .waiting => false
    | .disabled => false
    | .halted => false
    | _ => true) && !(d.plane p).notAnswering

/-- Role in force (spec/01 R10): 0 spine, 1 spine and gateway, 2 disabled. -/
def Device.role (d : Device) (p : Nat) : Nat := d.get .planeRoleActive 4 p

/-- The device ID in force on plane p: planes adopt it at initialisation (Table 17.12). -/
def Device.devId (d : Device) (p : Nat) : Nat := d.get .deviceIdActive 4 p

/-! ### Causes and events (spec/18) -/

/-- The index of a cause object: plane blocks 1 to 11, time bases 0x20 + n, and the hub's (plane 4) 1, 2, 3, 0x101, 0x301. -/
def causeIndex (p i : Nat) : Nat :=
  if p < 4 then
    if i < 0x20 then 0x4000 + 0x1000 * p + 0xB00 + i else 0x3000 + 0x100 * p + 0x20 * (i - 0x20)
  else 0x2000 + i

/-- The instant of a stamp: TB0 of the plane, hub time for the hub (R399, R334). -/
def Device.stamp (d : Device) (p : Nat) : Nat := if p < 4 then d.tbNow p 0 else d.clock

/-- An event record (Table 18.5) without its SEQ and OVERFLOW. -/
def eventRecord (index bitNo kind flags pl unit stamp : Nat) : BitVec 256 :=
  BitVec.ofNat 256 (index * 2 ^ 240 + bitNo * 2 ^ 232 + kind * 2 ^ 224 + flags * 2 ^ 216 + pl * 2 ^ 208 +
    unit * 2 ^ 160 + stamp * 2 ^ 80)

/-- Whether a session's filters match a cause (R405). -/
def SessionSt.matches (s : SessionSt) (index bitNo : Nat) : Bool :=
  s.filters.any (fun f =>
    match f with
    | none => false
    | some (i, m) => (i = 0 || i = index) && bit m bitNo)

/-- Queue and push one record to a session (R406): SEQ counts from 1, at 1,024 records the oldest is dropped and the next
record carries OVERFLOW. -/
def Device.pushTo (d : Device) (ses : Nat) (r : BitVec 256) : Device :=
  let s := d.session ses
  let seq := s.evSeq + 1
  let full := s.events.length ≥ 1024
  let r' := r ||| BitVec.ofNat 256 (seq % 2 ^ 32 * 2 ^ 48) ||| (if s.overflow then BitVec.ofNat 256 (2 ^ 221) else 0)
  let kept := if full then s.events.drop 1 else s.events
  (d.setSession ses { s with evSeq := seq, events := kept ++ [r'], overflow := full }).emit (.event ses [r'])

/-- The ORDER_UNDEF flag on the queued records of other planes whose stamps differ by less than 12 ns (spec/15 R350). -/
def markOrder (p stamp : Nat) (r : BitVec 256) : BitVec 256 :=
  let v := r.toNat
  let rp := fld v 208 8
  let rs := unpackTime (fld v 80 80)
  if rp < 4 && rp ≠ p && rs < stamp + 12 && stamp < rs + 12 then r ||| BitVec.ofNat 256 (2 ^ 223) else r

/-- Push a record to every session that asked for it (R406); records of planes whose stamps differ by less than 12 ns carry
ORDER_UNDEF, one of a plane whose TB0 counts as unlocked carries UNLOCKED (spec/15 R350). -/
def Device.pushRecord (d : Device) (p i bitNo kind unit stamp : Nat) (unlocked : Bool) : Device :=
  let index := causeIndex p i
  let near := p < 4 && (List.range 4).any (fun q => q ≠ p && (d.hub.lastStamp.getD q 0 ≠ 0) &&
    d.hub.lastStamp.getD q 0 < stamp + 1 + 12 && stamp + 1 < d.hub.lastStamp.getD q 0 + 12)
  let flags := (if near then 128 else 0) + (if unlocked then 64 else 0)
  let r := eventRecord index bitNo kind flags (if p < 4 then p else 0xFF) unit (packTime stamp)
  let ls := if d.hub.lastStamp.length = 4 then d.hub.lastStamp else [0, 0, 0, 0]
  let d := if p < 4 then { d with hub.lastStamp := ls.set p (stamp + 1) } else d
  (List.range 17).foldl (fun d s =>
    let st := d.session s
    if st.isOpen && st.matches index bitNo then
      (d.setSession s { st with events := st.events.map (markOrder p stamp) }).pushTo s r
    else d) d

/-- Push a record of a latch (kind 1) or a clear (kind 2); while the hub does not answer it is kept. -/
def Device.pushEvent (d : Device) (p i bitNo kind unit stamp : Nat) : Device :=
  let unl := p < 4 && !d.tbLocked p 0
  if !d.hubUp then { d with hub.heldEvents := d.hub.heldEvents ++ [(i, bitNo + 64 * kind, p, unit, stamp, unl)] }
  else d.pushRecord p i bitNo kind unit stamp unl

/-- The hub answers again: the records kept meanwhile go out in the order of their stamps (R350). -/
def Device.flushEvents (d : Device) : Device :=
  let l := sortBy (fun (a b : Nat × Nat × Nat × Nat × Nat × Bool) => a.2.2.2.2.1 < b.2.2.2.2.1) d.hub.heldEvents
  l.foldl (fun d e => d.pushRecord e.2.2.1 e.1 (e.2.1 % 64) (e.2.1 / 64) e.2.2.2.1 e.2.2.2.2.1 e.2.2.2.2.2)
    { d with hub.heldEvents := [] }

/-- Raise a cause (R400): a bit that is 0 is latched, the first latch since `cause` was 0 loads unit and time, and a record
goes out; a raise of a latched bit changes nothing. -/
def Device.latch (d : Device) (p i bitNo unit : Nat) : Device :=
  let c := d.get .cause p i
  if bit c bitNo then d
  else
    let st := d.stamp p
    let d := if c = 0 then
        (d.set .causeUnit p i (bitNo * 2 ^ 24 + unit % 2 ^ 16)).set .causeTime p i (packTime st) else d
    (d.set .cause p i (setBit c bitNo)).pushEvent p i bitNo 1 (unit % 2 ^ 16) st

/-- Clear the bits `m` of a cause object (R400): a record for each latched bit cleared; at 0 unit and time read 0. -/
def Device.clearCause (d : Device) (p i m : Nat) : Device :=
  let c := d.get .cause p i
  let v := andNot 32 c m
  let d := d.set .cause p i v
  let unit := d.get .causeUnit p i % 2 ^ 16
  let d := if v = 0 then (d.set .causeUnit p i 0).set .causeTime p i 0 else d
  ((bitsOf 32 c).filter (bit m)).foldl (fun d b => d.pushEvent p i b 2 unit (d.stamp p)) d

/-! The cause objects by name: Table 18.2, Table 18.3. -/

/-- Fabric-port causes. -/
def Device.causeFabric (d : Device) (p bitNo port : Nat) : Device := d.latch p 1 bitNo port
/-- Switch causes. -/
def Device.causeSwitch (d : Device) (p bitNo unit : Nat) : Device := d.latch p 2 bitNo unit
/-- Memory causes. -/
def Device.causeMemory (d : Device) (p bitNo unit : Nat) : Device := d.latch p 3 bitNo unit
/-- Reduction, collective and compression causes. -/
def Device.causeCollective (d : Device) (p bitNo unit : Nat) : Device := d.latch p 4 bitNo unit
/-- Tether causes. -/
def Device.causeTether (d : Device) (p bitNo unit : Nat) : Device := d.latch p 5 bitNo unit
/-- Cipher and key causes. -/
def Device.causeCipher (d : Device) (p bitNo unit : Nat) : Device := d.latch p 6 bitNo unit
/-- Ballast causes. -/
def Device.causeBallast (d : Device) (p bitNo unit : Nat) : Device := d.latch p 7 bitNo unit
/-- Optics causes. -/
def Device.causeOptics (d : Device) (p bitNo unit : Nat) : Device := d.latch p 8 bitNo unit
/-- Bypass causes. -/
def Device.causeBypass (d : Device) (p bitNo unit : Nat) : Device := d.latch p 9 bitNo unit
/-- Health causes. -/
def Device.causeHealth (d : Device) (p bitNo unit : Nat) : Device := d.latch p 10 bitNo unit
/-- Time causes of P<p>.TB<n>. -/
def Device.causeTime (d : Device) (p n bitNo : Nat) : Device := d.latch p (0x20 + n) bitNo 0
/-- Causes of 0x2001. -/
def Device.causeHub (d : Device) (bitNo unit : Nat) : Device := d.latch 4 1 bitNo unit
/-- Causes of 0x2002. -/
def Device.causeSecurity (d : Device) (bitNo unit : Nat) : Device := d.latch 4 2 bitNo unit
/-- Causes of 0x2003. -/
def Device.causeJournal (d : Device) (bitNo : Nat) : Device := d.latch 4 3 bitNo 0
/-- Causes of 0x2101. -/
def Device.causePower (d : Device) (bitNo unit : Nat) : Device := d.latch 4 0x101 bitNo unit
/-- Causes of 0x2301. -/
def Device.causeReplace (d : Device) (bitNo unit : Nat) : Device := d.latch 4 0x301 bitNo unit

/-! ### The journal (spec/17, 17.8) -/

/-- Bytes of a record that stores a value of `n` bytes: header, value padded to 8, commit word (R388). -/
def recordBytes (n : Nat) : Nat := 32 + ceilDiv n 8 * 8 + 8

/-- Value bytes of a record over some registers: one value (of a record kept as one number below a leading 1: the bytes below it), or
a list of (INDEX, SUBINDEX, TYPE, LENGTH, value). -/
def valueBytes (vals : List (Key × Nat)) : Nat :=
  let one := fun (e : Key × Nat) => if e.2 < 2 ^ e.1.obj.width then e.1.obj.width / 8 else Nat.log2 e.2 / 8
  match vals with
  | [e] => one e
  | l => total (l.map (fun e => 6 + one e))

/-- Bytes of the record area of a bank: 64 MiB less header and index area (R387). -/
def bankBytes : Nat := 0x4000000 - 64 - 0x100000

/-- The last recorded value of a register. -/
def journalled (l : List JRec) (k : Key) : Option Nat :=
  l.foldl (fun a r => match r.vals.find? (fun e => e.1 == k) with | some e => some e.2 | none => a) none

/-- The live records: those that hold the last value of some register (R391). -/
def liveRecords (l : List JRec) : List JRec :=
  match l with
  | [] => []
  | r :: rest =>
    if r.vals.any (fun e => !rest.any (fun s => s.vals.any (fun f => f.1 == e.1))) then r :: liveRecords rest
    else liveRecords rest

/-- Bytes used in the active bank. -/
def usedBytes (l : List JRec) : Nat := total (l.map (·.bytes))

/-- Compaction (R391): the live records move to the other bank, whose GEN is one higher, SEQ kept. -/
def Device.compact (d : Device) : Device :=
  let live := liveRecords d.hub.jnl
  let d := { d with hub.jnl := live, hub.jnlTorn := 0, hub.jnlTornBytes := 0 }
  let d := d.set .jnlBank 4 0 (1 - d.get .jnlBank 4 0)
  let d := d.set .jnlGeneration 4 0 (d.get .jnlGeneration 4 0 + 1)
  d.bump .jnlCompactions 4 0

/-- Records of `n` bytes that failed their read-back stay in the bank, to be ignored at a boot. -/
def Device.tornRecords (d : Device) (k n : Nat) : Device :=
  { d with hub.jnlTorn := d.hub.jnlTorn + k, hub.jnlTornBytes := d.hub.jnlTornBytes + k * n }

/-- Free bytes of the active bank (`jnl_free_bytes`). -/
def Device.jnlFree (d : Device) : Nat := bankBytes - usedBytes d.hub.jnl - d.hub.jnlTornBytes

/-- A journalled write (R389, R391): one group record; false where it ends with 0x0501. A read-back that fails is repeated
once at the next free address, and a failed attempt stays as an ignored record. -/
def Device.journal (d : Device) (vals : List (Key × Nat)) : Device × Bool :=
  let n := recordBytes (valueBytes vals)
  let isNew := vals.any (fun e => (journalled d.hub.jnl e.1).isNone)
  let live := usedBytes (liveRecords d.hub.jnl)
  if isNew && live * 10 > bankBytes * 9 then (d, false)
  else
    let tries := d.hub.jnlBadReads
    let d := { d with hub.jnlBadReads := tries - 2 }
    if tries ≥ 2 then (((d.tornRecords 2 n).bump .jnlErrors 4 0).causeJournal 0, false)
    else
      let d := if tries = 1 then d.tornRecords 1 n else d
      let seq := d.get .jnlSeq 4 0 + 1
      let d := { d with hub.jnl := d.hub.jnl ++ [({ seq := seq, vals := vals, bytes := n } : JRec)] }
      let d := d.set .jnlSeq 4 0 seq
      let d := if d.jnlFree * 10 < bankBytes then d.compact else d
      (d, true)

/-- A journalled write of one register, applied where it is committed. -/
def Device.setJ (d : Device) (o : Obj) (p i v : Nat) : Device :=
  let r := d.journal [(⟨o, p, i⟩, v % 2 ^ o.width)]
  if r.2 then r.1.set o p i v else r.1

end Sys2Proof.Machine
end

