-- ==== Sys2Proof/Machine/Flags.lean ====
section
/-! DEFINITION. The summaries of the cause tree and the pins that follow them (spec/18_interrupts_and_events.md R397, R401 to
R404), and the stages of bring-up (spec/20_clocking_reset_and_bring_up.md R455): what is recomputed in every cycle, applied after every command. -/

namespace Sys2Proof.Machine

/-- What a cause object passes to its parent (R397): latched and not masked. -/
def Device.passes (d : Device) (p i : Nat) : Bool := andNot 32 (d.get .cause p i) (d.get .causeMask p i) ≠ 0

/-- `pl_summary` of plane p: bit k for block k of Table 18.2, whose cause object is number k + 1. -/
def Device.plSummaryNow (d : Device) (p : Nat) : Nat := ofBits ((List.range 11).filter (fun k => d.passes p (k + 1)))

/-- `time_summary`: bit 8 p + n for P<p>.TB<n>; the bits of a plane that does not answer keep their value (R401). -/
def Device.timeSummaryNow (d : Device) : Nat :=
  ofBits ((List.range 32).filter (fun b =>
    if d.answers (b / 8) then d.passes (b / 8) (0x20 + b % 8) else bit (d.get .timeSummary 4 0) b))

/-- `irq_summary` (Table 18.1) from the level-1 values: planes that do not answer keep their bit (R401). -/
def Device.irqSummaryNow (d : Device) : Nat :=
  ofBits ((List.range 10).filter (fun b =>
    if b < 4 then
      if d.answers b then andNot 32 (d.get .plSummary b 0) (d.get .plMask b 0) ≠ 0 else bit (d.get .irqSummary 4 0) b
    else if b = 4 then d.passes 4 1
    else if b = 5 then andNot 32 (d.get .timeSummary 4 0) (d.get .timeMask 4 0) ≠ 0
    else if b = 6 then d.passes 4 2
    else if b = 7 then d.passes 4 0x101
    else if b = 8 then d.passes 4 0x301
    else d.passes 4 3))

/-- What drives IRQ_N: `irq_summary` AND NOT `irq_mask` (R402). -/
def Device.irqPending (d : Device) : Nat := andNot 32 (d.get .irqSummary 4 0) (d.get .irqMask 4 0)

/-- Whether a replacement request is open (spec/19 R428): some reason is set; the hub in its boot ROM drives SERVICE_N too
(spec/20 R453). -/
def Device.serviceAsked (d : Device) : Bool := d.get .replReasons 4 0 ≠ 0

/-- Summaries of the four planes. -/
def Device.settlePlanes (d : Device) : Device :=
  (List.range 4).foldl (fun d p => d.set .plSummary p 0 (d.plSummaryNow p)) d

/-- The hub's summaries. -/
def Device.settleHub (d : Device) : Device :=
  let d := d.set .timeSummary 4 0 d.timeSummaryNow
  d.set .irqSummary 4 0 d.irqSummaryNow

/-- IRQ_N, SERVICE_N and MSI-X vectors 1 and 2 (R402, R403, R404), given what was pending before. -/
def Device.settlePins (d : Device) (before : Nat) : Device :=
  let now := d.irqPending
  let rise := andNot 32 now before ≠ 0
  let srv := d.serviceAsked
  let fall := srv && d.hub.serviceN
  let d := { d with hub.irqN := now == 0, hub.serviceN := !srv }
  let d := if rise && bit (d.get .irqMsixEn 4 0) 0 then d.emit (.msix 1) else d
  if fall && bit (d.get .irqMsixEn 4 0) 1 then d.emit (.msix 2) else d

/-! ### Stages of bring-up (spec/20 Table 20.5; assumption log 14) -/

/-- `bringup_stage` of plane p. -/
def Device.stage (d : Device) (p : Nat) : Nat := octet 4 8 (d.get .bringupStage 4 0) p
/-- Set it. -/
def Device.setStage (d : Device) (p v : Nat) : Device :=
  d.set .bringupStage 4 0 (setOctet 4 8 (d.get .bringupStage 4 0) p v)

/-- Whether laser input e of a chiplet is in use. -/
def Device.inputUsed (d : Device) (p c e : Nat) : Bool := [2, 3].contains (d.get .laserState p (c * 256 + e))

/-- No input that is still enabling holds its group back: its partner is in use. -/
def Device.lasersReady (d : Device) (p : Nat) : Bool :=
  (List.range 4).all (fun c => (List.range 4).all (fun e =>
    d.get .laserState p (c * 256 + e) ≠ 1 || d.inputUsed p c (e / 2 * 2) || d.inputUsed p c (e / 2 * 2 + 1)))

/-- No pair that has light is due or to be measured, and no round runs. -/
def Device.pairsReady (d : Device) (p : Nat) : Bool :=
  (List.range 4).all (fun c =>
    let s : CalSt := Tbl.get d.cals (p, c) {}
    s.round.isNone && (s.due.map (·.1) ++ s.matrix).all (fun j =>
      !d.inputUsed p c (2 * (j / 8)) && !d.inputUsed p c (2 * (j / 8) + 1)))

/-- Every line port is up, held or failed: single failures never hold back the plane (R456). -/
def Device.portsReady (d : Device) (p : Nat) : Bool :=
  (List.range 128).all (fun n =>
    d.get .portState p n ≥ 4 || d.get .portAdmin p n = 0 || (d.port p n).holdDown ≠ 0 || (d.port p n).failed > 0) &&
  (List.range 4).all (fun l => [0, 5, 6].contains (d.get .lhState p l) || d.get .lhModuleState p l ≠ 3)

/-- Move the stage of a plane on where its condition is met; a plane that is ready records how long it took. -/
def Device.stageOn (d : Device) (p : Nat) : Device :=
  let go := fun (d : Device) (v : Nat) (ok : Bool) => if d.stage p = v && ok then d.setStage p (v + 1) else d
  if d.stage p < 2 || 4 < d.stage p then d
  else
    let d := go d 2 (d.lasersReady p)
    let d := go d 3 (d.pairsReady p)
    let d := go d 4 (d.portsReady p)
    if d.stage p = 5 then
      d.set .bringupTimeMs 4 0
        (setOctet 4 32 (d.get .bringupTimeMs 4 0) p ((d.clock - (d.plane p).releasedAt) / 1000000))
    else d

/-- What the cause tree shows after a command. While the hub does not answer its summaries and pins keep their value
(R402). -/
def Device.settle (d : Device) : Device :=
  let before := d.irqPending
  let d := d.settlePlanes
  let d := [0, 1, 2, 3].foldl (fun d p => d.stageOn p) d
  if d.hubUp then d.settleHub.settlePins before else d

/-- The level of IRQ_N at the land: high-impedance, so pulled up, while VDD_IO is low (spec/22 R477). -/
def Device.irqPin (d : Device) : Bool := !d.hub.vddIo || d.hub.irqN
/-- The level of SERVICE_N at the land. -/
def Device.servicePin (d : Device) : Bool := !d.hub.vddIo || d.hub.serviceN
/-- The level of THERM_TRIP_N at the land. -/
def Device.thermTripPin (d : Device) : Bool := !d.hub.vddIo || d.hub.thermTripN

/-- The next state of a command whose effect on the device is `f`; the summaries and pins follow. -/
def State.run (f : Device → Device) (s : State) : Res := .next { s with dev := (f s.dev).settle }

/-- The same for what happens on a plane: a plane that is in reset, stopped, retired or disabled does nothing. -/
def State.runOn (p : Nat) (f : Device → Device) (s : State) : Res := s.run (fun d => if d.live p then f d else d)

/-- The same for what moves traffic, which a plane in maintenance does not (spec/19 R424). -/
def State.carry (p : Nat) (f : Device → Device) (s : State) : Res := s.run (fun d => if d.carries p then f d else d)

end Sys2Proof.Machine
end

