-- ==== Sys2Proof/Machine/Operands.lean ====
section
/-! DEFINITION. The operand forms of the commands: LFL headers and link-frame payloads (spec/03), attachments and sinks
(spec/04), and the places of the object dictionary (spec/17). -/

namespace Sys2Proof

open Machine

/-! ### LFL header (Table 3.2) -/

/-- A header field as a number. -/
def Frame.fld (f : Frame) (lo w : Nat) : Nat := (f.hdr.extractLsb' lo w).toNat

/-- A header with field `[lo+w-1 : lo]` replaced. -/
def setHdr (h : BitVec 256) (lo w v : Nat) : BitVec 256 := BitVec.ofNat 256 (setFld h.toNat lo w v)

/-- Replace a header field of a frame. -/
def Frame.setFld (f : Frame) (lo w v : Nat) : Frame := { f with hdr := setHdr f.hdr lo w v }

/-- OPCODE [255:250]. -/
def Frame.opcode (f : Frame) : Nat := f.fld 250 6
/-- CLASS [249:247]. -/
def Frame.cls (f : Frame) : Nat := f.fld 247 3
/-- FLAGS [246:240]: bit 6 FIRST, 5 LAST, 4 ONE_STEP. -/
def Frame.flags (f : Frame) : Nat := f.fld 240 7
/-- TENANT [239:228]. -/
def Frame.tenant (f : Frame) : Nat := f.fld 228 12
/-- HOPS [227:224]. -/
def Frame.hops (f : Frame) : Nat := f.fld 224 4
/-- DEST_DEVICE [223:212]. -/
def Frame.destDevice (f : Frame) : Nat := f.fld 212 12
/-- DEST_PLANE [211:210]. -/
def Frame.destPlane (f : Frame) : Nat := f.fld 210 2
/-- DEST_PORT [207:200]. -/
def Frame.destPort (f : Frame) : Nat := f.fld 200 8
/-- ECN [199:198]. -/
def Frame.ecn (f : Frame) : Nat := f.fld 198 2
/-- FORMAT [197:192]. -/
def Frame.format (f : Frame) : Nat := f.fld 192 6
/-- SRC_DEVICE [191:180]. -/
def Frame.srcDevice (f : Frame) : Nat := f.fld 180 12
/-- SRC_PORT [175:168]. -/
def Frame.srcPort (f : Frame) : Nat := f.fld 168 8
/-- CONTEXT [159:144]. -/
def Frame.context (f : Frame) : Nat := f.fld 144 16
/-- LENGTH [140:128]. -/
def Frame.length (f : Frame) : Nat := f.fld 128 13
/-- FLOW_SEQ [127:104]. -/
def Frame.flowSeq (f : Frame) : Nat := f.fld 104 24
/-- OFFSET [95:64]. -/
def Frame.offset (f : Frame) : Nat := f.fld 64 32
/-- LINK_SEQ [63:52]. -/
def Frame.linkSeq (f : Frame) : Nat := f.fld 52 12
/-- HDR_CRC [15:0]. -/
def Frame.hdrCrc (f : Frame) : Nat := f.fld 0 16

/-- The reserved bits of the header: FLAGS [3:0], [209:208], [179:176], [167:160], [143:141], [103:96], [51:16]. -/
def Frame.reserved (f : Frame) : Bool :=
  f.fld 240 4 ≠ 0 || f.fld 208 2 ≠ 0 || f.fld 176 4 ≠ 0 || f.fld 160 8 ≠ 0 || f.fld 141 3 ≠ 0 || f.fld 96 8 ≠ 0 ||
    f.fld 16 36 ≠ 0

/-- The 32 header bytes. -/
def Frame.hdrBytes (f : Frame) : Bytes := natToBytes 32 f.hdr.toNat

/-- HDR_CRC over bytes 0 to 29 (R41). -/
def Frame.crcOk (f : Frame) : Bool := f.hdrCrc = crc16 (f.hdrBytes.take 30)

/-- The trailer: good, stomped (its complement, R53) or bad; a frame without payload has none. -/
inductive Trailer where
  | good
  | stomped
  | bad
  deriving DecidableEq, Repr

/-- Check a frame's trailer (R41, R53). -/
def Frame.trailerCheck (f : Frame) : Trailer :=
  if f.length = 0 then .good
  else if f.payload.length ≠ f.length then .bad
  else if f.trailer.toNat = crc32 f.payload then .good
  else if f.trailer.toNat = crc32 f.payload ^^^ 0xFFFFFFFF then .stomped
  else .bad

/-- Bytes of a frame on the wire: header, payload and trailer (R43). -/
def Frame.bytes (f : Frame) : Nat := 32 + f.length + (if f.length > 0 then 4 else 0)

/-- Cells of 64 bytes a frame occupies (R43). -/
def Frame.cells (f : Frame) : Nat := ceilDiv f.bytes 64

/-- Recompute HDR_CRC (R42). -/
def Frame.seal (f : Frame) : Frame := f.setFld 0 16 (crc16 (f.hdrBytes.take 30))

/-- The trailer of a payload. -/
def trailerOf (b : Bytes) : BitVec 32 := BitVec.ofNat 32 (if b = [] then 0 else crc32 b)

/-- The stomped trailer (R53). -/
def Frame.stomp (f : Frame) : Frame := { f with trailer := BitVec.ofNat 32 (crc32 f.payload ^^^ 0xFFFFFFFF) }

/-- The header fields that the device chooses when it makes a frame itself (R481: HOPS 15). -/
structure Mk where
  opcode : Nat
  cls : Nat
  flags : Nat := 0
  tenant : Nat := 0
  hops : Nat := 15
  destDevice : Nat := 0
  destPlane : Nat := 0
  destPort : Nat := 0
  ecn : Nat := 0
  format : Nat := 0
  srcDevice : Nat := 0
  srcPort : Nat := 0
  context : Nat := 0
  flowSeq : Nat := 0
  offset : Nat := 0
  linkSeq : Nat := 0

/-- Build a frame with good HDR_CRC and trailer. -/
def Mk.frame (m : Mk) (payload : Bytes) : Frame :=
  let h := m.opcode % 64 * 2 ^ 250 + m.cls % 8 * 2 ^ 247 + m.flags % 128 * 2 ^ 240 + m.tenant % 4096 * 2 ^ 228 +
    m.hops % 16 * 2 ^ 224 + m.destDevice % 4096 * 2 ^ 212 + m.destPlane % 4 * 2 ^ 210 + m.destPort % 256 * 2 ^ 200 +
    m.ecn % 4 * 2 ^ 198 + m.format % 64 * 2 ^ 192 + m.srcDevice % 4096 * 2 ^ 180 + m.srcPort % 256 * 2 ^ 168 +
    m.context % 65536 * 2 ^ 144 + payload.length % 8192 * 2 ^ 128 + m.flowSeq % 2 ^ 24 * 2 ^ 104 +
    m.offset % 2 ^ 32 * 2 ^ 64 + m.linkSeq % 4096 * 2 ^ 52
  Frame.seal { hdr := BitVec.ofNat 256 h, payload := payload, trailer := trailerOf payload }

/-! Opcodes (Table 3.3). -/

def opData : Nat := 0x00
def opSpray : Nat := 0x01
def opRedContrib : Nat := 0x02
def opRedResult : Nat := 0x03
def opExpAnchor : Nat := 0x04
def opCounts : Nat := 0x05
def opDispatch : Nat := 0x06
def opCombine : Nat := 0x07
def opCkptWrite : Nat := 0x08
def opCkptRead : Nat := 0x09
def opCkptData : Nat := 0x0A
def opStateCopy : Nat := 0x0B
def opPtp : Nat := 0x0C
def opCtrl : Nat := 0x30
def opCredit : Nat := 0x31
def opRetryNak : Nat := 0x32
def opPreamble : Nat := 0x33

/-- The classes Table 3.3 permits for an opcode; none for an invalid opcode. -/
def classesOf (op : Nat) : List Nat :=
  if op = 0x00 then [0, 2, 4, 7]
  else if op = 0x01 then [0, 2]
  else if op = 0x02 || op = 0x03 || op = 0x04 then [3]
  else if op = 0x05 then [2, 4]
  else if op = 0x06 || op = 0x07 then [4]
  else if op = 0x08 || op = 0x09 || op = 0x0A then [1]
  else if op = 0x0B then [0]
  else if op = 0x0C then [6]
  else if 0x30 ≤ op && op ≤ 0x33 then [5]
  else []

/-- Link frames (3.3). -/
def isLinkOp (op : Nat) : Bool := 0x30 ≤ op && op ≤ 0x33

/-- Whether DEST_PORT is valid (Table 3.2). -/
def destPortOk (d : Nat) : Bool := d ≤ 0x83 || d = 0xFE || d = 0xFF

/-- Check 4 of Table 3.9 on a forwarded frame. -/
def Frame.formOk (f : Frame) : Bool :=
  !isLinkOp f.opcode && (classesOf f.opcode).contains f.cls && f.length ≤ 4096 && destPortOk f.destPort && !f.reserved

/-- The flow of a frame (R60). -/
def Frame.flow (f : Frame) : FlowId :=
  { srcDevice := BitVec.ofNat 12 f.srcDevice, srcPort := BitVec.ofNat 8 f.srcPort,
    destDevice := BitVec.ofNat 12 f.destDevice, destPort := BitVec.ofNat 8 f.destPort,
    tenant := BitVec.ofNat 12 f.tenant, cls := BitVec.ofNat 3 f.cls }

/-! ### Attachments (Table 4.1) -/

/-- The lowest switch port of an internal input. -/
def Internal.sw : Internal → Nat
  | .longHaul l => 128 + 4 * l.val
  | .matrix => 144
  | .checkpoint => 152
  | .stateCopy => 156
  | .hubPath => 157
  | .reinject => 158

/-- The lowest switch port of an attachment. -/
def Attach.sw : Attach → Nat
  | .fabric n => n.val
  | .internal a => a.sw

/-- A sink: its lowest switch port, or 200 + c for the reducer of column c. -/
def Sink.sw : Sink → Nat
  | .attach a => a.sw
  | .reducer c => 200 + c.val

end Sys2Proof

namespace Sys2Proof.Machine

/-- The row of an input or the column of an output: switch port div 8, or the reducer's column. -/
def group (sw : Nat) : Nat := if sw ≥ 200 then sw - 200 else sw / 8

/-- A line port (0 to 127 fabric, 128 to 131 long-haul) of a switch port, where it is one. -/
def linePortOf (sw : Nat) : Option Nat :=
  if sw < 128 then some sw
  else if sw = 128 || sw = 132 || sw = 136 || sw = 140 then some (128 + (sw - 128) / 4)
  else none

/-- The switch port of a line port. -/
def swOfLine (o : Nat) : Nat := if o < 128 then o else 128 + 4 * (o - 128)

/-- Whether a switch port is an attachment's lowest (R88). -/
def isAttachment (sw : Nat) : Bool :=
  sw < 128 || [128, 132, 136, 140, 144, 152, 156, 157, 158].contains sw

/-- The unit encoding of a port in causes (`gcl_port_sel`). -/
def portUnit (sw : Nat) : Nat := (linePortOf sw).getD sw

/-! ### Dictionary places (R374, Table 17.4) -/

/-- A place of the dictionary: object, plane (4 for the hub) and repetition. -/
structure Target where
  obj : Obj
  plane : Nat
  inst : Nat
  deriving DecidableEq, Repr

/-- The cause object at an index, for the subindexes of Table 18.2a: plane and number. -/
def causeAt (idx sub : Nat) : Option (Nat × Nat × Nat) :=
  if 0x4000 ≤ idx && idx < 0x8000 && 0xB01 ≤ idx % 0x1000 && idx % 0x1000 ≤ 0xB0B then
    if 1 ≤ sub && sub ≤ 4 then some (idx / 0x1000 - 4, idx % 0x1000 - 0xB00, sub) else none
  else if 0x3000 ≤ idx && idx < 0x3400 && idx % 0x20 = 0 then
    if 0x1A ≤ sub && sub ≤ 0x1D then some ((idx - 0x3000) / 0x100, 0x20 + idx % 0x100 / 0x20, sub - 0x19) else none
  else if idx = 0x2001 || idx = 0x2002 || idx = 0x2003 || idx = 0x2101 || idx = 0x2301 then
    if 1 ≤ sub && sub ≤ 4 then some (4, idx - 0x2000, sub) else none
  else none

/-- The plane and repetition at which a row of an object table stands under an index and subindex. -/
def ObjInfo.at_ (r : ObjInfo) (idx sub : Nat) : Option (Nat × Nat) :=
  let pl := idx / 0x1000 - 4
  let off := idx % 0x1000
  let inPlane := 0x4000 ≤ idx && idx < 0x8000
  match r.space with
  | .hub => if idx = r.base && sub = r.sub then some (4, 0) else none
  | .role => if idx = 0x1400 && r.sub ≤ sub && sub < r.sub + 4 then some (4, sub - r.sub) else none
  | .partF => if 0x1410 ≤ idx && idx < 0x1414 && 1 ≤ sub && sub ≤ 0x80 then some (idx - 0x1410, sub - 1) else none
  | .partL => if 0x1410 ≤ idx && idx < 0x1414 && 0x81 ≤ sub && sub ≤ 0x84 then some (idx - 0x1410, sub - 0x81) else none
  | .hubPlane => if r.base ≤ idx && idx < r.base + 4 && sub = r.sub then some (idx - r.base, 0) else none
  | .tenant => if 0x8000 ≤ idx && idx < 0x9000 && sub = r.sub then some (4, idx - 0x8000) else none
  | .tenantPlane =>
    if 0x8000 ≤ idx && idx < 0x9000 && 0x10 ≤ sub && sub < 0x50 && sub % 16 = r.sub then
      some (sub / 16 - 1, idx - 0x8000) else none
  | .timeBase =>
    if 0x3000 ≤ idx && idx < 0x3400 && idx % 0x20 = 0 && sub = r.sub then
      some ((idx - 0x3000) / 0x100, idx % 0x100 / 0x20) else none
  | .fabric => if inPlane && off < 0x80 && sub = r.sub then some (pl, off) else none
  | .longHaul => if inPlane && 0x80 ≤ off && off < 0x84 && sub = r.sub then some (pl, off - 0x80) else none
  | .chiplet => if inPlane && 0xA0 ≤ off && off < 0xA4 && sub = r.sub then some (pl, off - 0xA0) else none
  | .bypass => if inPlane && 0xB0 ≤ off && off < 0xB4 && sub = r.sub then some (pl, off - 0xB0) else none
  | .plane => if inPlane && off = r.base && sub = r.sub then some (pl, 0) else none
  | .cause => match causeAt idx sub with | some (p, i, k) => if k = r.sub then some (p, i) else none | none => none
  | .evtFilter => if 0x9000 ≤ idx && idx < 0x9080 && sub = 1 then some (4, idx - 0x9000) else none

/-- The object that an index and subindex name, among a list of objects. -/
def findObj (idx sub : Nat) : List Obj → Option Target
  | [] => none
  | o :: r =>
    match o.info.at_ idx sub with
    | some (p, i) => some ⟨o, p, i⟩
    | none => findObj idx sub r

/-- The object that an index and subindex name (R374). -/
def target (idx sub : Nat) : Option Target := findObj idx sub Obj.all

/-- The register of a selector in a session's own copy (R383). -/
def selIdx (inst ses : Nat) : Nat := inst * 32 + ses

/-- Whether an object is a selector (R383). -/
def Obj.isSel (o : Obj) : Bool :=
  [Obj.tenantBindSel, .routeSel, .spraySel, .mcastSel, .kiteSel, .poolSel, .quotaSel, .gclPortSel, .gclEntrySel, .tqSel,
   .obsPortSel, .rctxSel, .reducerSel, .slotSel, .slotStepSel, .slotTplSel, .grpSel, .grpMemberSel, .syncSel, .dispSel,
   .dispEntrySel, .cctxSel, .tsiDirSel, .tsiPosSel, .tribSel, .keySel, .rgnSel, .calForceSel, .laserSel, .ringSel,
   .bypPortSel, .ptpPortSel, .mgmtPortSel, .hwMapSel, .roleFpSel, .snapObjSel, .hfChanSel, .monSel, .diagChanSel, .railSel,
   .planeResetSel].contains o

/-- The value of a selector in a session. -/
def Device.sel (d : Device) (o : Obj) (p inst ses : Nat) : Nat := d.get o p (selIdx inst ses)

/-- The register a target names for a session: the repetition, then the values of the selectors it acts on. A `quota_sel`
or `key_sel` with bit 15 set ignores its tenant ID. -/
def Device.place (d : Device) (t : Target) (ses : Nat) : Nat :=
  if t.obj.isSel then selIdx t.inst ses
  else if t.obj = .grpMember || t.obj = .grpMemberActive then
    -- members lie in one store per page, from the descriptor's BASE on (spec/08 R170)
    let o := if t.obj = .grpMember then Obj.grpDesc else .grpDescActive
    (fld (d.get o t.plane (d.sel .grpSel t.plane 0 ses)) 0 16 + d.sel .grpMemberSel t.plane 0 ses) % 65536
  else t.obj.sels.foldl (fun i o =>
    let v := d.sel o t.plane t.inst ses
    let v := if o = .quotaSel && bit v 15 then v / 4096 * 4096 else if o = .keySel && bit v 15 then 0x8000 else v
    i * 2 ^ o.width + v) t.inst

end Sys2Proof.Machine
end

