-- ==== Sys2Proof/Machine/Access.lean ====
section
/-! DEFINITION. Management requests (spec/17_object_dictionary.md): roles, the order of the checks (R479), responses and
their store (R378), and the access codes (R369, R370). Every command that is a dictionary request goes through here. -/

namespace Sys2Proof.Machine

/-! ### Roles (R372, R373, R365) -/

/-- Whether some entry of the role table has the security officer bit (R373). -/
def Device.hasOfficer (d : Device) : Bool := d.regs.any (fun e => e.1.obj = .roleFpRoles && bit e.2 2)

/-- Roles of a session as bits: 1 operator, 2 fault manager, 4 security officer, 8 monitor. -/
def Device.roles (d : Device) (ses : Nat) : Nat :=
  if ses = 0 then
    if d.hasOfficer then ofBits ((bitsOf 4 (d.get .hostRole 4 0)).filter (· ≠ 2)) else 0xF
  else
    let fp := (d.session ses).fp
    if fp = 0 then 0 else
    (List.range 32).foldl (fun r e =>
      if d.get .roleFp 4 e = fp then ofBits (bitsOf 4 r ++ bitsOf 4 (d.get .roleFpRoles 4 e)) else r) 0

/-- Whether a session holds one of the roles in a bit mask. -/
def Device.holds (d : Device) (ses mask : Nat) : Bool := (bitsOf 4 (d.roles ses)).any (bit mask)

/-- The tenants whose agent a session is (R365). -/
def Device.agentOf (d : Device) (ses : Nat) : List Nat :=
  let fp := (d.session ses).fp
  if ses = 0 || fp = 0 then [] else
  (d.regs.filter (fun e => e.1.obj = .tnAgentFp && e.2 = fp)).map (fun e => e.1.idx)

/-- Whether `[first, first + count)` of a tenant's range object holds a number. -/
def inRange (r lo w n x : Nat) : Bool := fld r lo w ≤ x && x < fld r lo w + fld r 0 n

/-- What the agent of tenant t may read of an object (R107, R125, R161, R190, R213, R247, R273, R291, R355, R365). -/
def Device.agentReads (d : Device) (t : Nat) (g : Target) (ses : Nat) : Bool :=
  let p := g.plane
  let own (o sel : Obj) := d.get o p (d.sel sel p 0 ses) = t
  match g.obj with
  | .tnAgentFp => g.inst = t
  | .tnPlanes => g.inst = t
  | .quotaBuffers => fld (d.sel .quotaSel p 0 ses) 0 12 = t && !bit (d.sel .quotaSel p 0 ses) 15
  | .quotaUsed => fld (d.sel .quotaSel p 0 ses) 0 12 = t && !bit (d.sel .quotaSel p 0 ses) 15
  | .quotaHighWater => fld (d.sel .quotaSel p 0 ses) 0 12 = t && !bit (d.sel .quotaSel p 0 ses) 15
  | .quotaRefused => fld (d.sel .quotaSel p 0 ses) 0 12 = t && !bit (d.sel .quotaSel p 0 ses) 15
  | .tbState => true
  | .tbTime => true
  | .tbOffsetNs => true
  | .masterState => fld (d.sel .keySel p 0 ses) 0 12 = t && !bit (d.sel .keySel p 0 ses) 15
  | .keyHeld => fld (d.sel .keySel p 0 ses) 0 12 = t && !bit (d.sel .keySel p 0 ses) 15
  | .keyCtrMax => fld (d.sel .keySel p 0 ses) 0 12 = t && !bit (d.sel .keySel p 0 ses) 15
  | .keyStalled => fld (d.sel .keySel p 0 ses) 0 12 = t && !bit (d.sel .keySel p 0 ses) 15
  | o =>
    let i := o.info
    if i.space = .tenantPlane then g.inst = t
    else if i.space ≠ .plane then false
    else if i.base = 0x202 then fld (d.sel .tqSel p 0 ses) 0 12 = t
    else if i.base = 0x203 then fld (d.sel .tqSel p 0 ses) 0 12 = t
    else if i.base = 0x401 then own .rctxTenant .rctxSel
    else if i.base = 0x500 then true
    else if i.base = 0x501 then own .slotTenant .slotSel
    else if i.base = 0x502 then inRange (d.get .tnGroupRange p t) 16 12 13 (d.sel .grpSel p 0 ses)
    else if i.base = 0x503 then inRange (d.get .tnSyncRange p t) 16 14 15 (d.sel .syncSel p 0 ses)
    else if i.base = 0x504 then inRange (d.get .tnDispRange p t) 16 11 12 (d.sel .dispSel p 0 ses)
    else if i.base = 0x600 then true
    else if i.base = 0x601 then own .cctxTenant .cctxSel
    else if i.base = 0x703 then
      (let v := d.get .tribDesc p (d.sel .tribSel p 0 ses); !bit v 30 && fld v 10 12 = t)
    else if i.base = 0x901 then fld (d.get .rgnDesc p (d.sel .rgnSel p 0 ses)) 52 12 = t
    else false

/-- What the agent of tenant t may write (same rules): selectors are the session's own copies. -/
def Device.agentWrites (d : Device) (t : Nat) (g : Target) (ses : Nat) : Bool :=
  if g.obj.isSel then
    [Obj.quotaSel, .obsPortSel, .rctxSel, .slotSel, .slotStepSel, .slotTplSel, .grpSel, .grpMemberSel, .syncSel,
     .dispSel, .dispEntrySel, .cctxSel, .tribSel, .keySel, .rgnSel].contains g.obj
  else
    match g.obj with
    | .slotTenant => false
    | .cctxTenant => false
    | .rgnCmd => d.agentReads t g ses
    | .rgnBoundaryKind => d.agentReads t g ses
    | .rgnBoundaryTime => d.agentReads t g ses
    | .rgnBoundaryTb => d.agentReads t g ses
    | .rgnBoundaryValue => d.agentReads t g ses
    | o =>
      let i := o.info
      if i.space = .plane && (i.base = 0x501 || i.base = 0x502 || i.base = 0x503 || i.base = 0x504 || i.base = 0x601) then
        d.agentReads t g ses
      else false

/-- Whether a session may read an object (R372). -/
def Device.mayRead (d : Device) (g : Target) (ses : Nat) : Bool :=
  d.holds ses 0xF || (d.agentOf ses).any (fun t => d.agentReads t g ses)

/-- Whether a session may write a value to an object (R372 and the owning chapters). -/
def Device.mayWrite (d : Device) (g : Target) (ses v : Nat) : Bool :=
  let m := g.obj.writers
  let m := if g.obj = .rgnCmd && v = 4 then 3 else if g.obj = .tnCmd && v = 2 then 3 else m
  d.holds ses m || (d.agentOf ses).any (fun t => d.agentWrites t g ses)

/-! ### Requests and responses (R377, R378) -/

/-- Answer a request: the response leaves, the last 32 of the session are kept, a refusal by access, role, lock or value is
counted (R369), an applied request too. -/
def Device.respond (d : Device) (rq : Req) (r : Resp) : Device :=
  let d := if r.status = 0 then d.bump .ndpRequests 4 0
    else if 0x0202 ≤ r.status && r.status ≤ 0x0304 then d.bump .mgmtRefused 4 0 else d
  let s := d.session rq.ses.val
  (d.setSession rq.ses.val { s with responses := (r :: s.responses).take 32 }).emit (.resp r)

/-- A response with a status and nothing else. -/
def statusResp (rq : Req) (st : Nat) : Resp := { ses := rq.ses.val, id := rq.id.toNat, status := st }

/-- A message of a session that holds the fault-manager role restarts the liveness timer and clears its cause (R31). -/
def Device.fmMessage (d : Device) (ses : Nat) : Device :=
  if ses ≠ 0 && d.holds ses 2 then
    let d := { d with hub.fmPresent := true }
    if bit (d.get .cause 4 1) 0 then d.clearCause 4 1 1 else d
  else d

/-- Whether the hub takes requests of a session: it answers, and the session is open (the mailbox always is). -/
def Device.served (d : Device) (ses : Nat) : Bool := d.hubUp && (ses = 0 || (d.session ses).isOpen)

/-- A management request: where it is not taken, nothing happens; a REQ_ID among the last 32 is answered with the stored
response and not applied again (R378); otherwise it is applied and answered. -/
def Device.requestIf (d : Device) (taken : Bool) (rq : Req) (f : Device → Device × Resp) : Device :=
  if !taken then d
  else
    let d := d.fmMessage rq.ses.val
    match (d.session rq.ses.val).responses.find? (fun r => r.id = rq.id.toNat) with
    | some r => (d.bump .ndpDupRequests 4 0).emit (.resp r)
    | none => let x := f d; x.1.respond rq x.2

/-- Whether the hub, or its boot ROM on the mailbox (spec/20 R453), takes a request of a session. -/
def Device.romServed (d : Device) (ses : Nat) : Bool := d.served ses || (d.hub.romStay && ses = 0)

/-- A management request of a session that the hub serves. The boot ROM holds none of the objects that requests go to through
here (R453). -/
def Device.request (d : Device) (rq : Req) (f : Device → Device × Resp) : Device :=
  d.requestIf (d.romServed rq.ses.val) rq (fun d => if d.hub.romStay then (d, statusResp rq 0x0201) else f d)

/-! ### Writes (R369, R370, R479) -/

/-- What a write carries: its place, the bytes sent and the value. -/
structure Write where
  tgt : Target
  len : Nat
  val : Nat

/-- The lock of RWL objects (R371). -/
def Device.locked (d : Device) : Bool := d.get .lockState 4 0 = 1

/-- The causes of a cause object as bits (spec/18 Tables 18.2 and 18.3, spec/19 R438, spec/20 R454 and R458). -/
def causeBits (p i : Nat) : Nat :=
  if i ≥ 0x20 && i < 0x28 then 2 ^ 5 - 1
  else if p < 4 then 2 ^ nth [0, 11, 5, 7, 5, 4, 6, 6, 9, 1, 14, 1] i - 1
  else if i = 1 then 7 else if i = 2 then 0x3F03 else if i = 3 then 3 else if i = 0x101 then 0x7F else if i = 0x301 then 0xF else 0

/-- The reserved bits of the register at a place (R6). -/
def Target.reserved (t : Target) : Nat :=
  match t.obj with
  | .cause => andNot 32 (2 ^ 32 - 1) (causeBits t.plane t.inst)
  | .causeMask => andNot 32 (2 ^ 32 - 1) (causeBits t.plane t.inst)
  | o => o.reserved

/-- The reserved bits of the value written: an empty `byp_win_peer` is all ones (spec/14 Table 14.3). -/
def Write.reserved (w : Write) : Nat :=
  if w.tgt.obj = .bypWinPeer then if w.val = 0xFFFFFFFF then 0 else 0xFFC00000 else w.tgt.reserved

/-- Checks 0x0202 to 0x0302 of R479 and the type and range checks of 0x0303; `busy` is the register that reads 0x01 while a
command runs. 0 when all pass. The objects of a plane at the hub's indexes 0x1410 to 0x1423 (partitions, fences) count as objects
of the plane, so 0x0401 where it does not answer (DESIGN CHOICE, assumption log 15). -/
def Device.writeStatus (d : Device) (w : Write) (ses : Nat) : Nat :=
  let o := w.tgt.obj
  let i := o.info
  if i.ty = .domain then 0x0102
  else if i.acc = .ro then 0x0202
  else if !d.mayWrite w.tgt ses w.val then 0x0203
  else if i.acc = .rwl && d.locked then 0x0204
  else if w.tgt.plane < 4 && !d.answers w.tgt.plane then 0x0401
  else if w.len ≠ i.ty.bytes then 0x0301
  else if (bitsOf o.width w.val).any (bit w.reserved) then 0x0302
  else if i.ty = .bool && w.val > 1 then 0x0303
  else if i.ty = .time && w.val % 2 ^ 32 ≥ 1000000000 then 0x0303
  else
    match o.range with
    | some (lo, hi) => if w.val < lo || hi < w.val then 0x0303 else 0
    | none => 0

/-- Whether a command object reads 0x01 (R370). -/
def Device.cmdBusy (d : Device) (t : Target) (ses : Nat) : Bool :=
  t.obj.info.acc = .cmd && d.get t.obj t.plane (d.place t ses) = 1

/-- A write request with the rule of its owning chapter (0x0303 where it does not hold) and its effect, which is false where
the journal fails (0x0501). -/
def Device.doWrite (d : Device) (rq : Req) (w : Write) (rule : Device → Bool) (apply : Device → Device × Bool) :
    Device × Resp :=
  let ses := rq.ses.val
  let st := d.writeStatus w ses
  if st ≠ 0 then (d, statusResp rq st)
  else if !rule d then (d, statusResp rq 0x0303)
  else if d.cmdBusy w.tgt ses then (d, statusResp rq 0x0304)
  else
    let r := apply d
    if r.2 then (r.1, statusResp rq 0) else (r.1, statusResp rq 0x0501)

/-- A write to a command object: a value that is none of its commands is refused (0x0303), and its action answers what the
command object reads afterwards through the state it leaves. -/
def Device.command (d : Device) (rq : Req) (t : Target) (v : Nat) (act : Device → Device) : Device :=
  d.request rq (fun d => d.doWrite rq ⟨t, 1, v⟩ (fun _ => true) (fun d => (act d, true)))

/-- A write to a command object whose chapter says itself what comes of one that finds an action in progress (R370): every
check but 0x0304. -/
def Device.doWriteNow (d : Device) (rq : Req) (w : Write) (apply : Device → Device × Bool) : Device × Resp :=
  let st := d.writeStatus w rq.ses.val
  if st ≠ 0 then (d, statusResp rq st)
  else
    let r := apply d
    if r.2 then (r.1, statusResp rq 0) else (r.1, statusResp rq 0x0501)

/-- A command that its chapter takes, or refuses with 0x03, while another of the same object is in progress (R370). -/
def Device.commandNow (d : Device) (rq : Req) (t : Target) (v : Nat) (act : Device → Device) : Device :=
  d.request rq (fun d => d.doWriteNow rq ⟨t, 1, v⟩ (fun d => (act d, true)))

/-- The register of a command object for the session of a request. -/
def Device.cmdIdx (d : Device) (t : Target) (rq : Req) : Nat := d.place t rq.ses.val

/-- Set what a command object reads: 0x01 in progress, 0x02 done, 0x03 refused (R370). -/
def Device.cmdReads (d : Device) (t : Target) (ses v : Nat) : Device := d.set t.obj t.plane (d.place t ses) v

/-- Store a register value as its access code says: journalled first for RWP and RWL, plain otherwise (R369). -/
def Device.store (d : Device) (o : Obj) (p i v : Nat) : Device × Bool :=
  if o.info.acc = .rwp || o.info.acc = .rwl then
    let r := d.journal [(⟨o, p, i⟩, v % 2 ^ o.width)]
    if r.2 then (r.1.set o p i v, true) else (r.1, false)
  else (d.set o p i v, true)

end Sys2Proof.Machine
end

