-- ==== Sys2Proof/Machine/Buffers.lean ====
section
/-! DEFINITION. Buffers of the pools: quotas, the free store with its cache and ring, allocation and free
(spec/05_memory_and_pools.md R92 to R100). -/

namespace Sys2Proof.Machine

/-- The system requester of a pool (R99). -/
def sysReq : Nat := 4096

/-- The requester of a tenant: T0000 is served by the system requester (spec/16 R358). -/
def requester (t : Nat) : Nat := if t = 0 then sysReq else t

/-- The `quota_sel` value of a requester in a pool (Table 5.7). -/
def quotaIdx (pool req : Nat) : Nat := if req = sysReq then 0x8000 + pool * 4096 else pool * 4096 + req

/-- Quota of the system requester for a size in GiB (R99). -/
def sysQuota (pool gib : Nat) : Nat :=
  if pool = 0 then (if gib ≥ 1 then 2048 else 0) else if pool = 1 then 4096 else 0

/-- Buffer count in force (Table 5.7 `pool_buffers`). -/
def Device.poolBuffers (d : Device) (p pool : Nat) : Nat := d.get .poolBuffers p pool

/-- Size in force, in GiB. -/
def Device.poolGib (d : Device) (p pool : Nat) : Nat :=
  d.poolBuffers p pool / poolCount pool 1

/-- Whether a tenant has a context on the plane (spec/16 R356). -/
def Device.hasTenant (d : Device) (p t : Nat) : Bool := d.get .tnState p t ≠ 0

/-- `quota_buffers` of a requester (R99): fixed for the system requester, 0 for a tenant without a context. -/
def Device.quota (d : Device) (p pool req : Nat) : Nat :=
  if req = sysReq then sysQuota pool (d.poolGib p pool)
  else if d.hasTenant p req then d.get .quotaBuffers p (quotaIdx pool req) else 0

/-- `quota_used`: buffers a requester holds. -/
def Device.quotaUsed (d : Device) (p pool req : Nat) : Nat :=
  ((d.pool p pool).owners.filter (fun o => o.2 = req)).length

/-- `pool_free`: cache plus ring entries (R94). -/
def Device.poolFree (d : Device) (p pool : Nat) : Nat :=
  let s := d.pool p pool
  if s.laidOut then s.cache + s.ring else d.poolBuffers p pool

/-- Sum of the quotas of a pool's requesters (`pool_reserved`), the system requester's for the size given. -/
def Device.poolReserved (d : Device) (p pool gib : Nat) : Nat :=
  sysQuota pool gib +
    total ((d.regs.filter (fun e => e.1.obj = .quotaBuffers && e.1.plane = p && e.1.idx / 4096 = pool &&
      d.hasTenant p (e.1.idx % 4096))).map (·.2))

/-- Lay out a pool with a size in GiB: every buffer free (R92), all of them in the ring and none in the cache (DESIGN CHOICE,
assumption log 29). -/
def Device.layOutPool (d : Device) (p pool gib : Nat) : Device :=
  let n := poolCount pool gib
  let d := d.setPool p pool { laidOut := true, cache := 0, ring := n, stale := 0, owners := [] }
  (d.set .poolBuffers p pool n).set .poolLowWater p pool n

/-- POOL_CACHE_REFILL (R94): below 1,024 entries the cache takes 2,048 from the ring, or all it holds; moves wait while the
pool is scrubbed. -/
def Device.cacheRefill (d : Device) (p pool : Nat) : Device :=
  let s := d.pool p pool
  if s.cache < 1024 && (d.plane p).scrub ≠ some pool then
    let m := min 2048 s.ring
    d.setPool p pool { s with cache := s.cache + m, ring := s.ring - m }
  else d

/-- While the cache holds more than 3,072 entries, 2,048 go to the ring tail (R94); moves wait while the pool is scrubbed. -/
def Device.cacheSpill (d : Device) (p pool : Nat) : Device :=
  let s := d.pool p pool
  if s.cache > 3072 && (d.plane p).scrub ≠ some pool then
    let m := 2048 * ceilDiv (s.cache - 3072) 2048
    d.setPool p pool { s with cache := s.cache - m, ring := s.ring + m }
  else d

/-- POOL_SCRUB_DONE: every buffer with state bit 0 is in the free store once (R98), and the moves that waited go on. -/
def Device.poolScrubDone (d : Device) (p pool : Nat) : Device :=
  let pl := d.plane p
  if pl.scrub = some pool then
    let s := d.pool p pool
    let d := d.setPlane p { pl with scrub := none }
    let d := d.setPool p pool { s with stale := 0, ring := d.poolBuffers p pool - s.owners.length - s.cache }
    (d.set .poolScrubCmd p pool 2).cacheSpill p pool
  else d

/-- An allocation that finds the cache empty waits for the refill (R94), and while the pool is scrubbed for the scrub's end, since
moves wait for it (R98). A command is one step, so the wait ends within it (assumption log 29). -/
def Device.awaitRefill (d : Device) (p pool : Nat) : Device :=
  if (d.pool p pool).cache = 0 then (d.poolScrubDone p pool).cacheRefill p pool else d

/-- The first index from `i` on, cyclic in `n`, that is not allocated. -/
def firstFree (n : Nat) (used : List Nat) : Nat → Nat → Nat
  | 0, i => i % n
  | fuel + 1, i => if used.contains (i % n) then firstFree n used fuel (i + 1) else i % n

/-- Entries dropped because their state bit is 1 (R96). The order of entries is not specified (R95), so neither is which
allocation meets them: all are dropped at the next one (DESIGN CHOICE, assumption log 29). -/
def Device.dropStale (d : Device) (p pool req : Nat) : Device :=
  let s := d.pool p pool
  if s.stale = 0 then d
  else
    let c := min s.stale s.cache
    let d := d.setPool p pool { s with stale := 0, cache := s.cache - c, ring := s.ring - (s.stale - c) }
    (d.count .poolCorrupt p pool s.stale).causeMemory p 1 (quotaIdx pool req)

/-- Allocate a buffer (Table 5.3). The index handed out is not specified (R95): a free value. -/
def Device.alloc (d : Device) (p pool req : Nat) : Device × Option Nat :=
  if d.quota p pool req ≤ d.quotaUsed p pool req then
    ((d.bump .quotaRefused p (quotaIdx pool req)).causeMemory p 0 (quotaIdx pool req), none)
  else
    let d := (d.dropStale p pool req).awaitRefill p pool
    let s := d.pool p pool
    if s.cache = 0 then
      ((d.bump .poolEmpty p pool).causeMemory p 1 (quotaIdx pool req), none)
    else
      let x := d.fresh
      let n := d.poolBuffers p pool
      let used := s.owners.map (·.1)
      let i := firstFree n used used.length (x.1 % n)
      let d := x.2.setPool p pool { s with cache := s.cache - 1, owners := (i, req) :: s.owners }
      let d := d.highWater .quotaHighWater p (quotaIdx pool req) (d.quotaUsed p pool req)
      let d := if d.poolFree p pool < d.get .poolLowWater p pool then d.set .poolLowWater p pool (d.poolFree p pool) else d
      (d, some i)

/-- A spool buffer of a requester is freed: the long-haul outputs no longer pass over its tenant's queues (Table 5.5). -/
def Device.spoolFreed (d : Device) (p req : Nat) : Device :=
  [128, 129, 130, 131].foldl (fun d o =>
    let s := d.outp p o
    if s.noSpool.any (fun t => requester t = req) then
      d.setOutp p o { s with noSpool := s.noSpool.filter (fun t => requester t ≠ req) }
    else d) d

/-- Free a buffer (Table 5.3): range, double free, owner; the index goes into the cache. While the pool is scrubbed moves wait
(R98), and the cache then takes what is freed beyond its 4,096 entries (DESIGN CHOICE, assumption log 29). -/
def Device.free (d : Device) (p pool req i : Nat) : Device :=
  let u := quotaIdx pool req
  if i ≥ d.poolBuffers p pool then (d.bump .badFree p pool).causeMemory p 2 u
  else
    let s := d.pool p pool
    match s.owners.find? (fun o => o.1 = i) with
    | none => (d.bump .doubleFree p pool).causeMemory p 3 u
    | some o =>
      if o.2 ≠ req then (d.bump .badFree p pool).causeMemory p 2 u
      else
        let d := (d.setPool p pool { s with owners := s.owners.filter (fun x => x.1 ≠ i), cache := s.cache + 1 }).cacheSpill p pool
        if pool = 0 then d.spoolFreed p req else d

/-- Free a list of buffers of one requester. -/
def Device.freeAll (d : Device) (p pool req : Nat) (l : List Nat) : Device := l.foldl (fun d i => d.free p pool req i) d

end Sys2Proof.Machine
end

