-- ==== Sys2Proof/Machine/Channel.lean ====
section
/-! DEFINITION. Health channels (spec/19_health_faults_and_self_test.md R408 to R413): fault events and their retries, the
retirement log, and the reasons of the replacement request (R428). -/

namespace Sys2Proof.Machine

/-- A channel as `hf_chan_sel` names it: [15:12] code, [11:0] index (R437). -/
def chan (code idx : Nat) : Nat := code * 4096 + idx
/-- The code of a channel (Table 19.1). -/
def chanCode (ch : Nat) : Nat := ch / 4096
/-- The index of a channel. -/
def chanIdx (ch : Nat) : Nat := ch % 4096

/-- Channels per plane of a code (Table 19.1). -/
def chanCount (code : Nat) : Nat :=
  if code = 1 then 512 else if code = 2 then 128 else if code = 3 then 420 else if code = 4 then 1360 else if code = 5 then 9
  else if code = 6 then 34 else if code = 7 then 64 else if code = 8 then 4 else if code = 9 then 128
  else if code = 10 then 1 else 0

/-- Whether a selector value names a channel. -/
def chanOk (ch : Nat) : Bool := chanIdx ch < chanCount (chanCode ch)

/-- A channel beside its objects. -/
def Device.chanSt (d : Device) (p ch : Nat) : ChanSt := Tbl.get d.chans (p, ch) {}
/-- Replace it. -/
def Device.setChan (d : Device) (p ch : Nat) (v : ChanSt) : Device := { d with chans := Tbl.put Ix.lt d.chans (p, ch) v {} }

/-- `hf_chan_state` of a channel. -/
def Device.chanState (d : Device) (p ch : Nat) : Nat := d.get .hfChanState p ch
/-- Set it. -/
def Device.setChanState (d : Device) (p ch v : Nat) : Device := d.set .hfChanState p ch v
/-- Whether a channel is retired. -/
def Device.retired (d : Device) (p ch : Nat) : Bool := d.chanState p ch = 4

/-- The threshold of a code (`hf_threshold`), for the codes that have one. -/
def Device.threshold (d : Device) (p code : Nat) : Option Nat :=
  let el := fun i => some (octet 5 16 (d.get .hfThreshold p 0) i)
  if code = 1 then el 0 else if code = 2 then el 1 else if code = 3 then el 2 else if code = 7 then el 3
  else if code = 8 then el 4 else none

/-! ### State copy (R436) -/

/-- State copy of a plane. -/
def Device.sc (d : Device) (p : Nat) : ScSt := Tbl.get d.copiesSc (p, 0) {}
/-- Replace it. -/
def Device.setSc (d : Device) (p : Nat) (v : ScSt) : Device := { d with copiesSc := Tbl.put Ix.lt d.copiesSc (p, 0) v {} }

/-- A session is in BALLAST, ARMED or APPLYING (Table 19.9). -/
def Device.scRuns (d : Device) (p : Nat) : Bool := [1, 2, 3].contains (d.get .scState p 0)

/-- The destination session becomes FAILED with a status of Table 19.10: the pages of regions not yet stored whole are freed,
messages that were held are discarded and counted (assumption log 20). -/
def Device.scFail (d : Device) (p status : Nat) : Device :=
  if !d.scRuns p then d
  else
    let s := d.sc p
    let d := d.freeAll p 4 (requester s.tenant) (s.got.map (fun x => x.2.buf))
    let d := (d.setSc p { serving := s.serving }).count .seqStale p 0 s.held.length
    (((d.set .scState p 0 5).set .scStatus p 0 status).set .scCmd p 0 3).causeHealth p 12 0

/-- Count a fault event of a channel (R409); its retry is running from now on. A retired channel has no further events. A fault
during a plane recovery restarts it (R417), and one during a state copy fails the session (Table 19.6). -/
def Device.chanFault (d : Device) (p ch : Nat) : Device :=
  if d.retired p ch then d
  else
    let s := d.chanSt p ch
    let d := (d.setChan p ch { s with count := s.count + 1, retry := true }).bump .hfChanFaults p ch
    let pl := d.plane p
    let d := if pl.cond = .recovering then d.setPlane p { pl with recoveryDue := true } else d
    d.scFail p 0x16

/-- Whether a fault event now is the second within 3,600 s of a first that was cleared (R410), for the codes it names. -/
def Device.secondFault (d : Device) (p ch : Nat) : Bool :=
  let c := chanCode ch
  (c = 3 || c = 4 || c = 5 || c = 6 || c = 9) &&
    (match (d.chanSt p ch).cleared with
      | some t => d.clock ≤ t + 3600 * 1000000000
      | none => false)

/-- Equalisers that wait for a gap or training are retuned (Table 19.5): kind 2 the four wavelengths of fabric port n, kind 3 the
eight lanes of long-haul link n, or the CXL port's with n = 4 and 5. -/
def Device.retuned (d : Device) (p n kind : Nat) : Device :=
  let s := d.plane p
  if s.retune = [] then d
  else d.setPlane p { s with retune := s.retune.filter (fun m => !(m / 4096 = kind && m % 4096 / (if kind = 2 then 4 else 8) = n)) }

/-- The retry of a channel's fault event succeeds: the event is cleared (R410). -/
def Device.chanClear (d : Device) (p ch : Nat) : Device :=
  let s := d.chanSt p ch
  if s.retry then d.setChan p ch { s with retry := false, cleared := some d.clock } else d

/-! ### Calibration rounds that other events abort (spec/13 R306) -/

/-- A chiplet's calibration engine. -/
def Device.cal (d : Device) (p c : Nat) : CalSt := Tbl.get d.cals (p, c) {}
/-- Replace it. -/
def Device.setCal (d : Device) (p c : Nat) (v : CalSt) : Device := { d with cals := Tbl.put Ix.lt d.cals (p, c) v {} }

/-- The value of a key in a list of pairs, 0 where it is not listed. -/
def lookNat (l : List (Nat × Nat)) (k : Nat) : Nat := match l.find? (fun e => e.1 = k) with | some e => e.2 | none => 0

/-- Set the value of a key in a list of pairs. -/
def putNat (l : List (Nat × Nat)) (k v : Nat) : List (Nat × Nat) := (k, v) :: l.filter (fun e => e.1 ≠ k)

/-- The unit of an optics cause: [9:8] chiplet, [7:0] input or ring (Table 18.2). -/
def opticsUnit (c x : Nat) : Nat := c * 256 + x

/-- A pair asks for a window: its bit of `cal_window_req` and the cause, with the pair's first ring as unit (R307). -/
def Device.windowRequest (d : Device) (p c j : Nat) : Device :=
  (d.set .calWindowReq p c (setBit (d.get .calWindowReq p c) j)).causeOptics p 5 (opticsUnit c (16 * j))

/-- The pairs of a chiplet. -/
def allPairs : List Nat := List.range 16

/-- The reserve can no longer be kept above a ring's set point: heater range (R301). -/
def Device.rangeCheck (d : Device) (p c r uw : Nat) : Device :=
  if uw + d.get .heaterReserveUw p c > 20000 then d.causeOptics p 4 (opticsUnit c r) else d

/-- `heater_reserve_uw`: that of the mode in force (Table 13.4), or what margin re-planning has raised it to (R301). A rise is
held against every ring's set point. -/
def Device.setReserve (d : Device) (p c : Nat) : Device :=
  let was := d.get .heaterReserveUw p c
  let d := d.set .heaterReserveUw p c (max (if d.get .xtalkModeActive p c = 0 then 500 else 2000) (d.cal p c).raised)
  ((d.cal p c).heater.filter (fun x => x.2 + was ≤ 20000)).foldl (fun d x => d.rangeCheck p c x.1 x.2) d

/-- The mode in `xtalk_mode` takes effect: matrix mode only with a valid matrix, which is else measured first (R300). -/
def Device.applyMode (d : Device) (p c : Nat) : Device :=
  let v := d.get .xtalkMode p c
  let s := d.cal p c
  let d :=
    if v = 0 && !s.matrixOk then (d.setCal p c { s with matrix := allPairs, pendMode := none }).set .xtalkModeActive p c 1
    else (d.setCal p c { s with pendMode := none }).set .xtalkModeActive p c v
  d.setReserve p c

/-- A round of a chiplet ends: its rings are locked again, its holds end, and a mode written during it takes effect. -/
def Device.endRound (d : Device) (p c j : Nat) : Device :=
  let s := d.cal p c
  let d := s.saved.foldl (fun d e => if d.get .ringState p (c * 256 + e.1) = 2 then d.set .ringState p (c * 256 + e.1) 1 else d) d
  let d := d.setCal p c { s with round := none, saved := [] }
  let d := [2 * j, 2 * j + 1].foldl (fun d k => let o := d.outp p (32 * c + k)
                                                d.setOutp p (32 * c + k) { o with holdUntil := d.clock }) d
  if s.pendMode.isSome then d.applyMode p c else d

/-- Abort the round of a chiplet: the recorded heater codes return, the holds end, the pair stays due, and its 16th
consecutive abort asks for a window (R306, R307, R308). -/
def Device.calAbort (d : Device) (p c : Nat) : Device :=
  let s := d.cal p c
  match s.round with
  | none => d
  | some j =>
    let n := lookNat s.aborts j + 1
    let d := s.saved.foldl (fun d e => d.set .ringHeaterCode p (c * 256 + e.1) e.2) d
    let d := d.setCal p c { s with aborts := putNat s.aborts j n }
    let d := (d.bump .calAborts p c).endRound p c j
    let d := if s.kind = 1 && d.get .calForceCmd p c = 1 then d.set .calForceCmd p c 3 else d
    if n ≥ 16 then d.windowRequest p c j else d

/-- Abort a round on the pair of a fabric port. -/
def Device.calAbortPort (d : Device) (p n : Nat) : Device :=
  if (d.cal p (n / 32)).round = some (n % 32 / 2) then d.calAbort p (n / 32) else d

/-- A frame passes a port: it is idle no longer (R304). -/
def Device.notIdle (d : Device) (p n : Nat) : Device :=
  let s := d.cal p (n / 32)
  if s.idle.contains (n % 32) then
    (d.setCal p (n / 32) { s with idle := s.idle.filter (· ≠ n % 32) }).setOutp p n { d.outp p n with calHold := [] }
  else d

/-- A start block received on a port aborts a round that is not forced (R306, R308). -/
def Device.startBlock (d : Device) (p n : Nat) : Device :=
  if (d.cal p (n / 32)).kind = 1 then d else d.calAbortPort p n

/-! ### The retirement log (R413) -/

/-- One entry as 16 bytes: plane, code, index, kind, reserved, TIME. -/
def RetireEntry.bytes (e : RetireEntry) : Bytes :=
  natToBytes 1 e.plane ++ natToBytes 1 (chanCode e.chan) ++ natToBytes 2 (chanIdx e.chan) ++ natToBytes 1 e.kind ++
    natToBytes 1 0 ++ natToBytes 10 (packTime e.at_)

/-- The log as one journalled number: its bytes below a leading 1. -/
def logValue (l : List RetireEntry) : Nat := bytesToNat (1 :: l.flatMap RetireEntry.bytes)

/-- Read the log back from its journalled number. -/
def logOf (v : Nat) : List RetireEntry :=
  let n := (Nat.log2 v) / 128
  (List.range n).map (fun k =>
    let e := fld v (128 * (n - 1 - k)) 128
    { plane := fld e 120 8, chan := chan (fld e 112 8) (fld e 96 16), kind := fld e 88 8, at_ := unpackTime (fld e 0 80) })

/-- Replace the log, journalled. -/
def Device.setLog (d : Device) (l : List RetireEntry) : Device :=
  let r := d.journal [(⟨.retireLog, 4, 0⟩, logValue l)]
  if r.2 then { r.1 with hub.retireLog := l } else r.1

/-- Enter one entry at the hub; a log full at 1,024 entries takes none and latches its cause. -/
def Device.logEntry (d : Device) (e : RetireEntry) : Device :=
  if d.hub.retireLog.length < 1024 then
    let d := d.setLog (d.hub.retireLog ++ [e])
    if d.hub.retireLog.length ≥ 1024 then d.causeReplace 3 0 else d
  else d.causeReplace 3 0

/-- Record a permanent retirement (kind 1), a soft repair (2) or a fuse repair (3): at the hub, or, while it does not answer,
among the plane's 64 unlogged entries (R413). -/
def Device.logRetire (d : Device) (p ch kind : Nat) : Device :=
  if d.hubUp then d.logEntry { plane := p, chan := ch, kind := kind, at_ := d.clock }
  else
    let s := d.plane p
    if s.unlogged.length < 64 then d.setPlane p { s with unlogged := s.unlogged ++ [(ch, kind, d.clock)] }
    else d.causeHealth p 13 0

/-- The plane passes its unlogged entries to the hub (R413). -/
def Device.passEntries (d : Device) (p : Nat) : Device :=
  let s := d.plane p
  if d.hubUp && s.unlogged ≠ [] then
    s.unlogged.foldl (fun d e => d.logEntry { plane := p, chan := e.1, kind := e.2.1, at_ := e.2.2 })
      (d.setPlane p { s with unlogged := [] })
  else d

/-! ### The replacement request (R428) -/

/-- Kites that are retired stand in a row whose spare is not idle. -/
def Device.rowSpent (d : Device) (p : Nat) : Bool :=
  d.regs.any (fun e => e.1.obj = .kiteState && e.1.plane = p && e.2 = 4 &&
    d.get .kiteState p (e.1.idx / 256 * 256 + 0x1F) ≠ 2)

/-! Groups of spared units (Table 19.1): the reducers (code 4, by column), the matrix engine (5) and the two cipher
directions (6), named code · 4096 + place. -/

/-- Units of a group, spares apart. -/
def grpUnits (g : Nat) : Nat := if g / 4096 = 4 then 64 else if g / 4096 = 5 then 8 else 16
/-- Units of a group, spares included; the spares come last. -/
def grpAll (g : Nat) : Nat := if g / 4096 = 4 then 68 else if g / 4096 = 5 then 9 else 17
/-- The channel of unit u of a group. -/
def unitChan (g u : Nat) : Nat := chan (g / 4096) (grpAll g * (g % 4096) + u)
/-- The groups of a plane. -/
def allGroups : List Nat := (List.range 20).map (fun c => 4 * 4096 + c) ++ [5 * 4096, 6 * 4096, 6 * 4096 + 1]

/-- Which spare stands in for which unit of a group. -/
def Device.standsOf (d : Device) (p g : Nat) : List (Nat × Nat) := Tbl.get d.stands (p, g) []
/-- Replace it. -/
def Device.setStands (d : Device) (p g : Nat) (l : List (Nat × Nat)) : Device :=
  { d with stands := Tbl.put Ix.lt d.stands (p, g) l [] }

/-- The spare that stands in for a unit. -/
def Device.spareFor (d : Device) (p g u : Nat) : Option Nat := ((d.standsOf p g).find? (fun x => x.1 = u)).map (·.2)

/-- The first spare of a group that is free: it stands in for nothing, is not retired and not under test. -/
def Device.freeSpare (d : Device) (p g : Nat) : Option Nat :=
  ((List.range (grpAll g)).filter (fun u => grpUnits g ≤ u)).find? (fun s =>
    !(d.standsOf p g).any (fun x => x.2 = s) && !([3, 4].contains (d.chanState p (unitChan g s))))

/-- A group with a retired unit and no spare to use. -/
def Device.groupSpent (d : Device) (p g : Nat) : Bool :=
  (List.range (grpAll g)).any (fun u => d.retired p (unitChan g u)) && (d.freeSpare p g).isNone

/-- A chiplet whose ports are retired as a group (Table 19.2). -/
def Device.chipletSpent (d : Device) (p : Nat) : Bool :=
  (List.range 4).any (fun c => ((List.range 32).filter (fun k => d.retired p (chan 2 (32 * c + k)))).length ≥ 16)

/-- Set the reasons of the request to a value: the opening takes the hub time and latches its cause, an added reason another
(R428). -/
def Device.setReasons (d : Device) (v : Nat) : Device :=
  let was := d.get .replReasons 4 0
  let d := d.set .replReasons 4 0 v
  let d := if was = 0 && v ≠ 0 then (d.set .replOpenTime 4 0 (packTime d.clock)).causeReplace 0 0 else d
  if was ≠ 0 && andNot 8 v was ≠ 0 then d.causeReplace 1 0 else d

/-- The reasons that follow the planes: [0] horizon, [1] retired plane, [2] spent group (R428). A hub that does not answer
changes none. -/
def Device.reviewReasons (d : Device) : Device :=
  if !d.hubUp then d
  else
    let r := d.get .replReasons 4 0
    let h := d.get .deviceHorizonDays 4 0
    let lim := d.get .horizonLimitDays 4 0
    let r := putBit r 0 (h < lim || (bit r 0 && h < lim + 30))
    let r := putBit r 1 ((List.range 4).any (fun p => decide ((d.plane p).cond = .retired)))
    let r := putBit r 2 ((List.range 4).any (fun p =>
      d.rowSpent p || allGroups.any (d.groupSpent p) || d.chipletSpent p))
    d.setReasons r

end Sys2Proof.Machine
end

