-- ==== Sys2Proof/Machine/Store.lean ====
section
/-! DEFINITION. The storage of the switch core (spec/04_switch_core.md 4.1 to 4.4): kites, cells, admission, parking, deferred
copies, release and credit return; and the link frames a fabric port sends by itself (spec/03). -/

namespace Sys2Proof.Machine

/-! ### Kites -/

/-- The `kite_sel` value of a kite: row, and column 0 to 19 or 20 for the spare (R88). -/
def kiteUnit (r k : Nat) : Nat := r * 256 + (if k = 20 then 0x1F else k)

/-- `kite_state` of a kite. -/
def Device.kiteState (d : Device) (p r k : Nat) : Nat := d.get .kiteState p (kiteUnit r k)
/-- Set it. -/
def Device.setKiteState (d : Device) (p r k v : Nat) : Device := d.set .kiteState p (kiteUnit r k) v

/-- The copies of a plane, with their numbers. -/
def Device.copiesOf (d : Device) (p : Nat) : List (Nat × Copy) :=
  (d.copies.filter (fun e => e.1.1 = p)).map (fun e => (e.1.2, e.2))

/-- A stored copy. -/
def Device.copy? (d : Device) (p id : Nat) : Option Copy := (d.copies.find? (fun e => e.1 = (p, id))).map (·.2)

/-- Replace or add a copy. -/
def Device.setCopy (d : Device) (p id : Nat) (c : Copy) : Device :=
  { d with copies := Tbl.ins Ix.lt (p, id) c (Tbl.erase d.copies (p, id)) }

/-- Remove a copy. -/
def Device.dropCopy (d : Device) (p id : Nat) : Device := { d with copies := Tbl.erase d.copies (p, id) }

/-- A stored frame. -/
def Device.frame? (d : Device) (p fid : Nat) : Option FrameRec := (d.frames.find? (fun e => e.1 = (p, fid))).map (·.2)

/-- Replace or add a frame record. -/
def Device.setFrame (d : Device) (p fid : Nat) (f : FrameRec) : Device :=
  { d with frames := Tbl.ins Ix.lt (p, fid) f (Tbl.erase d.frames (p, fid)) }

/-- Cells a copy holds in kite k of its row. -/
def Copy.cellsIn (c : Copy) (k : Nat) : Nat := total ((c.place.filter (fun x => x.1 = k)).map (·.2))

/-- All cells a copy holds. -/
def Copy.cellsHeld (c : Copy) : Nat := total (c.place.map (·.2))

/-- Cells in use in kite k of row r (R83: parked cells included). -/
def Device.occupancy (d : Device) (p r k : Nat) : Nat :=
  total ((d.copies.filter (fun e => e.2.plane = p && e.2.row = r)).map (fun e => e.2.cellsIn k))

/-- Free cells of a kite. -/
def Device.kiteFree (d : Device) (p r k : Nat) : Nat := 2048 - d.occupancy p r k

/-- The kite that takes new frames of row r toward column c: the spare while it is connected for c, none while K(r,c) is
closed by a forced swap (R84, R85). -/
def Device.kiteFor (d : Device) (p r c : Nat) : Option Nat :=
  let s := d.row p r
  if s.col = some c then
    if s.connected then some 20 else if s.forced then none else some c
  else if d.kiteState p r c = 0 then some c else none

/-- The kites in service of a row, by column (R68). -/
def Device.rowKites (d : Device) (p r : Nat) : List Nat := (List.range 20).filterMap (d.kiteFor p r)

/-- F(r): free cells of the row's kites in service (R68). -/
def Device.freeCells (d : Device) (p r : Nat) : Nat := total ((d.rowKites p r).map (d.kiteFree p r))

/-- Unspent credit of one fabric input (R68): limit less the cells received and not yet returned in CREDIT. -/
def PortSt.unspent (s : PortSt) : Nat :=
  total ((List.range 8).map (fun c => nth s.limRx c - (nth s.rcvd c + 65536 - nth s.reported c) % 65536))

/-- The number of a port among its chiplet's bypass port objects (`byp_port_sel`). -/
def bypIx (n : Nat) : Nat := n / 32 * 256 + n % 32

/-- Whether a port is a bypass endpoint (spec/14 R327): `byp_win_peer` names a peer and its active list has bypass entries. -/
def Device.isEndpoint (d : Device) (p n : Nat) : Bool :=
  d.get .bypWinPeer p (bypIx n) ≠ 0xFFFFFFFF && (d.outp p n).page.entries.any (fun e => bit e 54)

/-- The cells that an endpoint counts as if granted. -/
def Device.windowCells (d : Device) (p n : Nat) : Nat := if d.isEndpoint p n then d.get .bypWinCells p (bypIx n) else 0

/-- U(r): the unspent credit of the row's fabric inputs (R68), window cells of endpoints among them (spec/14 R327); rows 16 to
19 have none. A port grants its credit from UP on (R62). -/
def Device.unspent (d : Device) (p r : Nat) : Nat :=
  if r < 16 then total ((List.range 8).map (fun k =>
    (if 4 ≤ d.get .portState p (8 * r + k) then (d.port p (8 * r + k)).unspent else 0) + d.windowCells p (8 * r + k))) else 0

/-- Whether F(r) − n ≥ U(r) + 2,048 (R70, R71). -/
def Device.reserveKept (d : Device) (p r n : Nat) : Bool := d.unspent p r + 2048 + n ≤ d.freeCells p r

/-! ### Tenants' cells (R359) -/

/-- `tn_cells_used`: cells held by the tenant's charged copies. -/
def Device.cellsUsed (d : Device) (p t : Nat) : Nat :=
  total ((d.copies.filter (fun e => e.2.plane = p && e.2.charged)).map (fun e =>
    match d.frame? p e.2.fid with
    | some f => if f.tenant = t then e.2.cellsHeld else 0
    | none => 0))

/-- Whether n more cells stay within the tenant's quota. -/
def Device.quotaFits (d : Device) (p t n : Nat) : Bool := d.cellsUsed p t + n ≤ d.get .tnCellQuota p t

/-- Count a frame or copy that the tenant's quota does not allow, and raise tenant capacity with the input port. -/
def Device.tenantDrop (d : Device) (p t input : Nat) : Device :=
  (d.bump .tnCellDrop p t).causeFabric p 10 (portUnit input)

/-! ### Link frames a port sends (R50, R51, R53) -/

/-- The address fields of a link frame (DEDUCED, assumption log 24: the spec gives them no value): toward the peer of the port
as `peer_id` names it, from this device and port. -/
def Device.peerMk (d : Device) (p n : Nat) (m : Mk) : Mk :=
  let id := d.get .peerId p n
  { m with destDevice := fld id 10 12, destPlane := fld id 8 2, destPort := fld id 0 8, srcDevice := d.devId p, srcPort := n }

/-- A link frame leaves at once and aborts a calibration round (spec/13 R306), or waits while the port's link state is frozen
(spec/14 R327). -/
def Device.sendLink (d : Device) (p n : Nat) (f : Frame) : Device :=
  if d.get .portState p n = 5 then d.setPort p n { d.port p n with linkQ := (d.port p n).linkQ ++ [f] }
  else (d.calAbortPort p n).emit (.lfl p n f)

/-- Send a CREDIT frame: cumulative freed cells per class and the last sequence number received in order (R50, R51). -/
def Device.sendCredit (d : Device) (p n : Nat) : Device :=
  let s := d.port p n
  let m : Mk := { opcode := opCredit, cls := 5, hops := 1, linkSeq := (s.rxExp + 4095) % 4096 }
  let f := (d.peerMk p n m).frame ((List.range 8).flatMap (fun c => natToBytes 2 (nth s.freed c)))
  (d.setPort p n { s with reported := s.freed, ackSent := s.rxExp }).sendLink p n f

/-- Send a RETRY_NAK with the expected number (R53). -/
def Device.sendNak (d : Device) (p n : Nat) : Device :=
  let m : Mk := { opcode := opRetryNak, cls := 5, hops := 1, linkSeq := (d.port p n).rxExp }
  d.sendLink p n ((d.peerMk p n m).frame [])

/-- Add to element c of an eight-entry list of 16-bit counts. -/
def addCount (l : List Nat) (c n : Nat) : List Nat :=
  (List.range 8).map (fun k => if k = c then (nth l k + n) % 65536 else nth l k)

/-- A CREDIT goes out when 64 or more cells of some class have been freed since the last (R51). -/
def Device.creditDue (d : Device) (p n : Nat) : Device :=
  let s := d.port p n
  if (List.range 8).any (fun k => (nth s.freed k + 65536 - nth s.reported k) % 65536 ≥ 64) && d.get .portState p n = 4 then
    d.sendCredit p n
  else d

/-- Return n cells of class c to the peer of a fabric input: the freed count rises, and is reported when it is due. -/
def Device.returnCredit (d : Device) (p n c cells : Nat) : Device :=
  (d.setPort p n { d.port p n with freed := addCount (d.port p n).freed c cells }).creditDue p n

/-! ### Release (R75) -/

/-- Whether a frame has deferred copies that refer to its first copy's cells (R70). -/
def Device.hasDeferred (d : Device) (p fid : Nat) : Bool :=
  d.copies.any (fun e => e.2.plane = p && e.2.fid = fid && e.2.stage = .deferred)

/-- Remove a frame of which no copy is left, and return its input's credit once (R76). -/
def Device.frameDone (d : Device) (p fid : Nat) : Device :=
  if d.copies.any (fun e => e.2.plane = p && e.2.fid = fid) then d
  else
    match d.frame? p fid with
    | none => d
    | some f =>
      let d := { d with frames := Tbl.erase d.frames (p, fid) }
      match f.credit with
      | some n => d.returnCredit p n f.cls f.cells
      | none => d

/-- Free a copy whose targets are all released, unless deferred copies still refer to its cells. -/
def Device.tidyCopy (d : Device) (p id : Nat) : Device :=
  match d.copy? p id with
  | none => d
  | some c =>
    let first := c.cellsHeld > 0 && !(d.copiesOf p).any (fun e => e.2.fid = c.fid && e.1 < id)
    if c.wait = [] && c.sentTo = [] && c.due = [] && !(first && d.hasDeferred p c.fid) then
      (d.dropCopy p id).frameDone p c.fid
    else d

/-- Release target o of a copy: at once for a discard, at its release point otherwise. -/
def Device.release (d : Device) (p id o : Nat) : Device :=
  match d.copy? p id with
  | none => d
  | some c =>
    (d.setCopy p id { c with wait := c.wait.filter (· ≠ o), sentTo := c.sentTo.filter (· ≠ o), due := c.due.filter (· ≠ o) }).tidyCopy p id

/-- A target of a copy reaches its release point (Table 4.2). -/
def Device.markDue (d : Device) (p id o : Nat) : Device :=
  match d.copy? p id with
  | none => d
  | some c =>
    if c.sentTo.contains o then d.setCopy p id { c with sentTo := c.sentTo.filter (· ≠ o), due := c.due ++ [o] } else d

/-- Count a frame discarded for an output: in `link_discard` of a fabric port (R56); for a fenced long-haul port, for which the
spec names no counter, in `partition_discard` (DESIGN CHOICE, assumption log 23). -/
def Device.countGone (d : Device) (p o : Nat) : Device :=
  if o < 128 then d.bump .linkDiscard p o else d.bump .partitionDiscard p 0

/-- Whether a copy's pointer to an output is discarded: a fabric port that is not UP (R77), a fenced long-haul port (spec/02
R35). -/
def Device.outShut (d : Device) (p o : Nat) : Bool :=
  (o < 128 && d.get .portState p o ≠ 4 && !(d.port p o).window) ||
    (128 ≤ o && o < 144 && bit (d.get .fencedLongHaul p 0) ((o - 128) / 4))

/-- Discard the pointers of a copy to outputs that are shut: counted and released (R77, spec/02 R35). -/
def Device.purge (d : Device) (p id : Nat) : Device :=
  match d.copy? p id with
  | none => d
  | some c =>
    if c.stage = .queued then
      (c.wait.filter (d.outShut p)).foldl (fun d o => (d.countGone p o).release p id o) d
    else d

/-! ### Admission (R69 to R72) -/

/-- Park mode of (input, class) toward column c (R69). -/
def Device.parkMode (d : Device) (p input cls c : Nat) : Bool :=
  d.copies.any (fun e => e.2.plane = p && e.2.col = c && e.2.stage ≠ .queued &&
    (match d.frame? p e.2.fid with
      | some f => f.input = input && f.cls = cls
      | none => false))

/-- Where a parked frame of n cells is written: the kite of the row with the most free cells, ties to the lowest column,
going on in the next by the same rule (R69). -/
def Device.parkPlace (d : Device) (p r : Nat) : Nat → Nat → List (Nat × Nat) → List (Nat × Nat)
  | 0, _, acc => acc
  | _, 0, acc => acc
  | fuel + 1, n, acc =>
    let freeOf := fun k => d.kiteFree p r k - total ((acc.filter (fun x => x.1 = k)).map (·.2))
    match argMax freeOf (d.rowKites p r) with
    | none => acc
    | some k =>
      let m := min n (freeOf k)
      if m = 0 then acc else d.parkPlace p r fuel (n - m) (acc ++ [(k, m)])

/-- Raise `kite_high_water` of the kites of a placement. -/
def Device.noteHigh (d : Device) (p r : Nat) (pl : List (Nat × Nat)) : Device :=
  pl.foldl (fun d x => d.highWater .kiteHighWater p (kiteUnit r x.1) (d.occupancy p r x.1)) d

/-- Write the copy toward column c of a stored frame at once, or park it (R69 steps 1 to 3); a multicast frame's copy counts
once in `mcast_copies`, where it is first stored. -/
def Device.admitFirst (d : Device) (p fid : Nat) (f : FrameRec) (r c : Nat) (outs : List Nat) (mcast : Bool) : Device :=
  let x := d.newId
  let id := x.1
  let y := x.2.newId
  let d := y.2
  let room := match d.kiteFor p r c with
    | some k => if !d.parkMode p f.input f.cls c && f.cells ≤ d.kiteFree p r k then some k else none
    | none => none
  match room with
  | some k =>
    let cp : Copy := { plane := p, fid := fid, row := r, col := c, stage := .queued, place := [(k, f.cells)], wait := outs,
                       sentTo := [], due := [], seq := y.1, at_ := d.clock, moved := false, charged := f.charged }
    let d := (d.setCopy p id cp).noteHigh p r cp.place
    let d := if mcast then d.bump .mcastCopies p 0 else d
    d.purge p id
  | none =>
    let cp : Copy := { plane := p, fid := fid, row := r, col := c, stage := .parked, place := d.parkPlace p r 21 f.cells [],
                       wait := outs, sentTo := [], due := [], seq := y.1, at_ := d.clock, moved := false,
                       charged := f.charged }
    let d := if mcast then d.bump .mcastCopies p 0 else d
    ((d.setCopy p id cp).noteHigh p r cp.place).bump .parkedFrames p 0

/-- An extra copy of a multicast frame (R70): written at once where there is room and the reserve is kept and the tenant's
quota allows, omitted where the quota does not, deferred otherwise. -/
def Device.admitExtra (d : Device) (p fid : Nat) (f : FrameRec) (r c : Nat) (outs : List Nat) : Device :=
  let x := d.newId
  let id := x.1
  let y := x.2.newId
  let d := y.2
  let room := match d.kiteFor p r c with
    | some k =>
      if !d.parkMode p f.input f.cls c && f.cells ≤ d.kiteFree p r k && d.reserveKept p r f.cells && !(d.row p r).forced then
        some k else none
    | none => none
  match room with
  | some k =>
    if f.charged && !d.quotaFits p f.tenant f.cells then d.tenantDrop p f.tenant f.input
    else
      let cp : Copy := { plane := p, fid := fid, row := r, col := c, stage := .queued, place := [(k, f.cells)], wait := outs,
                         sentTo := [], due := [], seq := y.1, at_ := d.clock, moved := false, charged := f.charged }
      (((d.setCopy p id cp).noteHigh p r cp.place).bump .mcastCopies p 0).purge p id
  | none =>
    let cp : Copy := { plane := p, fid := fid, row := r, col := c, stage := .deferred, place := [], wait := outs,
                       sentTo := [], due := [], seq := y.1, at_ := d.clock, moved := false, charged := f.charged }
    (d.setCopy p id cp).bump .deferredCopies p 0

/-- Queue a frame for a line port that comes to it from beside the crosspoint array: through its group's memory port (spec/01 R16)
or as background work (spec/06 R122). It holds no cell of a kite. -/
def Device.queueDirect (d : Device) (p input o : Nat) (f : Frame) (tenant : Nat) : Device :=
  let x := d.newId
  let y := x.2.newId
  let z := y.2.newId
  let fr : FrameRec := { plane := p, input := input, frame := f, cls := f.cls, tenant := tenant, cells := f.cells,
                         charged := false, credit := none }
  let c : Copy := { plane := p, fid := x.1, row := 20, col := 20, stage := .queued, place := [], wait := [swOfLine o],
                    sentTo := [], due := [], seq := z.1, at_ := d.clock, moved := false, charged := false }
  ((z.2.setFrame p x.1 fr).setCopy p y.1 c).purge p y.1

/-- The target columns of a list of outputs, in increasing order. -/
def columnsOf (outs : List Nat) : List Nat := (List.range 20).filter (fun c => outs.any (fun o => group o = c))

/-! ### Congestion marking (R83, R484) -/

/-- One step of a kite's generator (R484). -/
def lfsrStep (s : Nat) : Nat := if bit s 15 then s * 2 % 65536 ^^^ 0xA011 else s * 2 % 65536

/-- The seed of the generator of kite k (20: the spare) of row r (R484). -/
def lfsrSeed (r k : Nat) : Nat := 0xACE1 ^^^ (32 * r + k)

/-- A kite's generator; until it first steps it holds its seed. -/
def Device.generator (d : Device) (p r k : Nat) : Nat := Tbl.get d.lfsr (p, r * 21 + k) (lfsrSeed r k)

/-- The ECN field of a frame judged at its first copy's target kite, and the generator's step (R83). -/
def Device.ecnMark (d : Device) (p r c : Nat) (f : Frame) : Device × Frame :=
  if f.ecn = 0 || f.ecn = 3 then (d, f)
  else
    let marked := fun (d : Device) => (d.bump .ecnMarked p 0, f.setFld 198 2 3)
    match d.kiteFor p r c with
    | none => marked d
    | some k =>
      let o := d.occupancy p r k
      let lo := octet 8 16 (d.get .ecnMin p 0) f.cls
      let hi := octet 8 16 (d.get .ecnMax p 0) f.cls
      if o ≥ hi then marked d
      else if o < lo then (d, f)
      else
        let x := lfsrStep (d.generator p r k)
        let d := { d with lfsr := Tbl.put Ix.lt d.lfsr (p, r * 21 + k) x (lfsrSeed r k) }
        if (o - lo) * 65536 > x * (hi - lo) then marked d else (d, f)

/-- Admit a frame into the kites of its input's row: marking, first copy, extra copies (R69, R70, R76, R83). -/
def Device.enterStore (d : Device) (p input : Nat) (f : Frame) (outs : List Nat) (grp : Option Nat) (charged : Bool)
    (credit : Option Nat) (ctx : Option Nat := none) : Device :=
  let r := group input
  match columnsOf outs with
  | [] => d
  | c0 :: rest =>
    let m := d.ecnMark p r c0 f
    let x := m.1.newId
    let fr : FrameRec := { plane := p, input := input, frame := m.2, cls := f.cls, tenant := f.tenant, cells := f.cells,
                           charged := charged, credit := credit, grp := grp, ctx := ctx }
    let d := x.2.setFrame p x.1 fr
    let mcast := grp.isSome
    let d := d.admitFirst p x.1 fr r c0 (outs.filter (fun o => group o = c0)) mcast
    let d := rest.foldl (fun d c => d.admitExtra p x.1 fr r c (outs.filter (fun o => group o = c))) d
    d.frameDone p x.1

/-- A frame from an internal input waits until its first copy keeps the reserve (R71). -/
def Device.hold (d : Device) (p input : Nat) (f : Frame) (outs : List Nat) (grp : Option Nat)
    (ctx : Option Nat := none) : Device :=
  { d with waitIn := d.waitIn ++ [{ plane := p, input := input, frame := f, outs := outs, grp := grp, ctx := ctx }] }

/-- Write the oldest held frame of an internal input, if the reserve allows (R71). -/
def Device.writeHeld (d : Device) (p input : Nat) : Device :=
  match d.waitIn.find? (fun w => w.plane = p && w.input = input) with
  | none => d
  | some w =>
    if d.reserveKept p (group input) w.frame.cells then
      ({ d with waitIn := d.waitIn.erase w }).enterStore p input w.frame w.outs w.grp false none w.ctx
    else d

/-- The items of row r toward column c that wait for the move engine, in admission order (R72). -/
def Device.moveItems (d : Device) (p r c : Nat) : List (Nat × Copy) :=
  sortBy (fun a b => a.2.fid < b.2.fid) ((d.copiesOf p).filter (fun e => e.2.row = r && e.2.col = c && e.2.stage ≠ .queued))

/-- The move engine moves the oldest parked frame toward column c (R72). -/
def Device.moveParked (d : Device) (p r c : Nat) : Device :=
  match d.moveItems p r c with
  | (id, cp) :: _ =>
    match cp.stage, d.frame? p cp.fid, d.kiteFor p r c with
    | .parked, some f, some k =>
      if f.cells ≤ d.kiteFree p r k then
        let x := d.newId
        let cp := { cp with stage := .queued, place := [(k, f.cells)], seq := x.1, at_ := d.clock, moved := true }
        let d := (x.2.setCopy p id cp).noteHigh p r cp.place
        (d.count .movedCells p 0 f.cells).purge p id
      else d
    | _, _, _ => d
  | [] => d

/-- The move engine makes the oldest deferred copy toward column c (R70, R72, R359). -/
def Device.makeDeferred (d : Device) (p r c : Nat) : Device :=
  match d.moveItems p r c with
  | (id, cp) :: _ =>
    match cp.stage, d.frame? p cp.fid, d.kiteFor p r c with
    | .deferred, some f, some k =>
      if f.cells ≤ d.kiteFree p r k && d.reserveKept p r f.cells && !(d.row p r).forced then
        let done := fun (d : Device) => ((d.copiesOf p).filter (fun e => e.2.fid = cp.fid)).foldl (fun d e => d.tidyCopy p e.1) d
        if cp.charged && !d.quotaFits p f.tenant f.cells then
          done (((d.dropCopy p id).tenantDrop p f.tenant f.input).frameDone p cp.fid)
        else
          let x := d.newId
          let cp := { cp with stage := .queued, place := [(k, f.cells)], seq := x.1, at_ := d.clock, moved := true }
          let d := (x.2.setCopy p id cp).noteHigh p r cp.place
          done (((d.count .movedCells p 0 f.cells).bump .mcastCopies p 0).purge p id)
      else d
    | _, _, _ => d
  | [] => d

/-- Discard every pointer queued for an output and every copy sent to it and not released, counted (R56, R35). -/
def Device.flushOut (d : Device) (p o : Nat) : Device :=
  (d.copiesOf p).foldl (fun d e =>
    if e.2.wait.contains o || e.2.sentTo.contains o || e.2.due.contains o then
      let counted := e.2.wait.contains o || e.2.sentTo.contains o
      (if counted then d.countGone p o else d).release p e.1 o
    else d) d

/-! ### Groups (spec/08 R170, R171) -/

/-- Members of the active page of a group. -/
def Device.members (d : Device) (p g : Nat) : Nat := fld (d.get .grpDescActive p g) 16 12 + 1

/-- The entry of member m in the active page. -/
def Device.member (d : Device) (p g m : Nat) : Nat :=
  d.get .grpMemberActive p ((fld (d.get .grpDescActive p g) 0 16 + m) % 65536)

/-- Fields of a member entry (Table 8.8). -/
def memDevice (v : Nat) : Nat := fld v 20 12
/-- PORT. -/
def memPort (v : Nat) : Nat := fld v 12 8
/-- LINK. -/
def memLink (v : Nat) : Nat := fld v 4 8

/-- The live members of a group, in increasing index (R171); none before its first page is in force (`grp_live` 0 at reset). -/
def Device.liveMembers (d : Device) (p g : Nat) : List Nat :=
  if fld (d.get .grpDescActive p g) 52 12 = 0 then []
  else (List.range (d.members p g)).filter (fun m => !bit (d.member p g m) 0)

/-- The switch port of a LINK field. -/
def linkSw (l : Nat) : Nat := if l < 128 then l else 128 + 4 * (l - 128)

/-- The live member of a group whose LINK is a line port. -/
def Device.memberAt (d : Device) (p g sw : Nat) : Option Nat :=
  ((d.liveMembers p g).map (d.member p g)).find? (fun v => linkSw (memLink v) = sw)

/-- A frame with the DEST_DEVICE and DEST_PORT of the member whose LINK is the copy's output (spec/08 R171). -/
def Device.readdress (d : Device) (p sw : Nat) (grp : Option Nat) (f : Frame) : Frame :=
  match grp.bind (fun g => d.memberAt p g sw) with
  | some v => (f.setFld 212 12 (memDevice v)).setFld 200 8 (memPort v)
  | none => f

end Sys2Proof.Machine
end

