-- ==== Sys2Proof/Machine/Pools.lean ====
section
/-! DEFINITION. Writes and commands of the buffer pools, and the CXL port (spec/05_memory_and_pools.md). -/

namespace Sys2Proof.Machine

/-! ### Rules of writes (R92, R99, R106) -/

/-- Sum of the pending sizes with one pool's replaced. -/
def Device.pendingGib (d : Device) (p pool v : Nat) : Nat :=
  total ((List.range 5).map (fun k => if k = pool then v else d.get .poolSizeGib p k))

/-- The size range of a pool (Table 5.2). -/
def poolRange (pool : Nat) : Nat × Nat := [(0, 64), (1, 16), (0, 64), (0, 32), (0, 71)].getD pool (0, 0)

/-- A write to `pool_size_gib` (R92). -/
def Device.poolSizeOk (d : Device) (p pool v : Nat) : Bool :=
  (poolRange pool).1 ≤ v && v ≤ (poolRange pool).2 && d.pendingGib p pool v ≤ 71 && d.poolReserved p pool v ≤ poolCount pool v

/-- A write to `quota_buffers` (R99) at a `quota_sel` value. -/
def Device.quotaOk (d : Device) (p sel v : Nat) : Bool :=
  let pool := fld sel 12 3
  let t := fld sel 0 12
  let others := fun gib => d.poolReserved p pool gib - d.quota p pool t
  !bit sel 15 && t ≠ 0 && d.hasTenant p t && d.quotaUsed p pool t ≤ v &&
    others (d.poolGib p pool) + v ≤ d.poolBuffers p pool &&
    others (d.get .poolSizeGib p pool) + v ≤ poolCount pool (d.get .poolSizeGib p pool)

/-- A write to `hbm_share`: six percentages of 1 to 100 that sum to 100 (Table 5.7). -/
def hbmShareOk (v : Nat) : Bool :=
  let l := octetList 6 8 v
  l.all (fun x => 1 ≤ x && x ≤ 100) && total l = 100

/-! ### Commands -/

/-- POOL_CACHE_REFILL. -/
def execPoolCacheRefill (p : Plane) (pool : Pool) (s : State) : Res := s.runOn p (fun d => d.cacheRefill p pool)

/-- POOL_SCRUB: refused while a scrub runs on the plane (R98). -/
def Device.poolScrub (d : Device) (p ses : Nat) : Device :=
  let t : Target := ⟨.poolScrubCmd, p, 0⟩
  let pool := d.sel .poolSel p 0 ses
  let s := d.plane p
  match s.scrub with
  | some _ => d.cmdReads t ses 3
  | none => (d.setPlane p { s with scrub := some pool }).cmdReads t ses 1

/-- POOL_SCRUB. -/
def execPoolScrub (p : Plane) (rq : Req) (s : State) : Res :=
  s.run (fun d => d.commandNow rq ⟨.poolScrubCmd, p, 0⟩ 1 (fun d => d.poolScrub p rq.ses.val))

/-- POOL_SCRUB_DONE. -/
def execPoolScrubDone (p : Plane) (pool : Pool) (s : State) : Res := s.runOn p (fun d => d.poolScrubDone p pool)

/-- CXL training ends (R103): used as trained; narrower, slower or larger than 512 GiB is degraded; width 0: no expander. -/
def Device.cxlTrained (d : Device) (p width rate gib : Nat) : Device :=
  let d := ((d.retuned p 4 3).retuned p 5 3).set .cxlLink p 0 (width * 16 + rate)
  let d := d.set .cxlCapacityGib p 0 (if width = 0 then 0 else min gib 512)
  let cmd := fun (d : Device) v => if d.get .cxlResetCmd p 0 = 1 then d.set .cxlResetCmd p 0 v else d
  if width = 0 then cmd (d.set .cxlState p 0 0) 3
  else if width = 3 && rate = 3 && gib ≤ 512 then cmd (d.set .cxlState p 0 2) 2
  else cmd ((d.set .cxlState p 0 3).causeMemory p 5 0) 2

/-- CXL_TRAIN_COMPLETE. -/
def execCxlTrainComplete (p : Plane) (width rate : BitVec 4) (gib : BitVec 16) (s : State) : Res :=
  s.runOn p (fun d => d.cxlTrained p width.toNat rate.toNat gib.toNat)

/-- CXL_RESET: the port retrains (R104). -/
def execCxlReset (p : Plane) (rq : Req) (s : State) : Res :=
  s.run (fun d => d.command rq ⟨.cxlResetCmd, p, 0⟩ 1 (fun d => (d.set .cxlResetCmd p 0 1).set .cxlState p 0 1))

end Sys2Proof.Machine
end

