-- ==== Sys2Proof/Machine/Shaper.lean ====
section
/-! DEFINITION. Outputs that are scheduled (spec/06_scheduling_and_shaping.md): their gate lists as they run, the heads of their
queues, shaper credits and service clocks. A scheduled output is a line port: 0 to 127 fabric, 128 to 131 long-haul. -/

namespace Sys2Proof.Machine

/-- Cipher pipelines in service in a direction (R248, R250): those not out, with the spare at most 16. -/
def Device.pipes (d : Device) (p dir : Nat) : Nat :=
  let out := (List.range 17).filter (fun n => [2, 3, 4].contains (d.chanState p (chan 6 (17 * dir + n))))
  min 16 (17 - out.length)

/-- Whether nothing holds a long-haul port down (R215). -/
def Device.lhUp (d : Device) (p l : Nat) : Bool :=
  d.get .lhAdmin p l = 1 && !bit (d.get .fencedLongHaul p 0) l && d.role p = 1 && d.operates p &&
    d.poolBuffers p 0 > 0 && d.pipes p 0 ≥ 15 && d.pipes p 1 ≥ 15

/-- The current rate of a line port in Mb/s (R108, R114). -/
def Device.rate (d : Device) (p o : Nat) : Nat :=
  if o ≥ 128 then 800000 else if d.get .portRate p o = 1 then 150000 else 200000

/-- Bytes a frame costs (R114, R117). -/
def frameCost (f : Frame) : Nat := f.bytes

/-! ### Time gates (R113 to R116) -/

/-- INTERVAL_NS of a gate list entry. -/
def entryNs (e : Nat) : Nat := fld e 0 32
/-- Whether an entry opens class c to scheduled traffic: in a bypass entry nothing of it starts (spec/14 R324). -/
def entryOpen (e c : Nat) : Bool := bit e (56 + c) && !bit e 54
/-- CAL_WINDOW. -/
def entryCal (e : Nat) : Bool := bit e 55
/-- BYPASS_WINDOW. -/
def entryByp (e : Nat) : Bool := bit e 54

/-- The entry at an offset into a cycle, and what remains of it. -/
def entryAt : List Nat → Nat → Nat → Nat × Nat
  | [], i, _ => (i, 0)
  | e :: r, i, off => if off < entryNs e then (i, entryNs e - off) else entryAt r (i + 1) (off - entryNs e)

/-- The running entry of a page and its remaining ns at a reading (R114): cycles run in phase before the base time too. -/
def GatePage.at_ (g : GatePage) (reading : Nat) : Nat × Nat :=
  entryAt g.entries 0 (((reading : Int) - g.base) % (max 1 g.cycle : Nat)).toNat

/-- An entry of a page. -/
def GatePage.entry (g : GatePage) (i : Nat) : Nat := g.entries.getD i 0

/-- The entry word in force `t` ns from now and how long it still holds; with a change pending, the last entry stands from the
end of its cycle to the change instant (R115). -/
def Device.gateIn (d : Device) (p o t : Nat) : Nat × Nat :=
  let s := d.outp p o
  let now := d.tbNow p s.page.tb + t
  let run := fun (g : GatePage) (r : Nat) => let x := g.at_ r; (g.entry x.1, x.2)
  match s.pend with
  | none => run s.page now
  | some w =>
    let new := d.tbNow p w.page.tb + t
    if w.change ≤ new then run w.page new
    else if w.holdFrom ≤ now then (s.page.entry (s.page.entries.length - 1), w.change - new)
    else let x := run s.page now; (x.1, min x.2 (w.holdFrom - now))

/-- A window is open in which the port is an endpoint and may send (spec/14 R327). -/
def Device.sendsWindow (d : Device) (p o : Nat) : Bool :=
  o < 128 && (d.port p o).window && d.isEndpoint p o && !bit (octet 32 8 (d.get .bypMap p (o / 32)) (o % 32)) 7

/-- ns until the next start of a cycle of the active list (R114); from the end of its cycle to a change instant none starts, and
the change instant is one (R115). -/
def Device.cycleLeft (d : Device) (p o : Nat) : Nat :=
  let s := d.outp p o
  let left := fun (g : GatePage) (r : Nat) => max 1 g.cycle - (((r : Int) - g.base) % (max 1 g.cycle : Nat)).toNat
  let now := d.tbNow p s.page.tb
  match s.pend with
  | none => left s.page now
  | some w =>
    let new := d.tbNow p w.page.tb
    if w.change ≤ new then left w.page new
    else if now + left s.page now < w.holdFrom then left s.page now
    else w.change - new

/-- `gcl_enable` as in force `t` ns from now: a write takes effect at the next start of a cycle (R114). -/
def Device.enableIn (d : Device) (p o t : Nat) : Bool :=
  match (d.outp p o).enableNext with
  | some v => if d.cycleLeft p o ≤ t then v else (d.outp p o).enabled
  | none => (d.outp p o).enabled

/-- Whether the gate of class c is open now. -/
def Device.gateOpen (d : Device) (p o c : Nat) : Bool :=
  let e := (d.gateIn p o 0).1
  !(d.outp p o).enabled || (if d.sendsWindow p o then entryByp e && bit e (56 + c) else entryOpen e c)

/-- Credit left for class c (R50). -/
def PortSt.creditLeft (s : PortSt) (c : Nat) : Nat := nth s.limTx c - (nth s.sent c + 65536 - nth s.freedPeer c) % 65536

/-! ### Queues (R73, R111, R117) -/

/-- The copies at the heads of the kite queues of a switch port, with their frames, by append order. -/
def Device.headsAt (d : Device) (p sw : Nat) : List (Nat × Copy × FrameRec) :=
  let all := (d.copiesOf p).filterMap (fun e =>
    if e.2.stage = .queued && e.2.wait.contains sw then (d.frame? p e.2.fid).map (fun f => (e.1, e.2, f)) else none)
  let head := all.filter (fun x => !all.any (fun y =>
    y.2.1.seq < x.2.1.seq && y.2.2.input = x.2.2.input && y.2.2.cls = x.2.2.cls))
  sortBy (fun a b => a.2.1.seq < b.2.1.seq || (a.2.1.seq = b.2.1.seq && a.2.1.row < b.2.1.row)) head

/-- The heads of a line port's kite queues. -/
def Device.heads (d : Device) (p o : Nat) : List (Nat × Copy × FrameRec) := d.headsAt p (swOfLine o)

/-- The head frames of tenant queue (o, c, t): the one appended earliest first, ties to the lowest row. -/
def queueHeads (heads : List (Nat × Copy × FrameRec)) (c t : Nat) : List (Nat × Copy × FrameRec) :=
  heads.filter (fun x => x.2.2.cls = c && x.2.2.tenant = t)

/-- Tenants with a head frame of class c, earliest head first. -/
def backlog (heads : List (Nat × Copy × FrameRec)) (c : Nat) : List Nat :=
  ((heads.filter (fun x => x.2.2.cls = c)).map (fun x => x.2.2.tenant)).eraseDups

/-- Move a tenant to the tail of its class's list. -/
def Device.toTail (d : Device) (p o c t : Nat) : Device :=
  let s := d.outp p o
  d.setOutp p o { s with
    lists := (List.range 8).map (fun k => let l := s.lists.getD k []; if k = c then l.filter (· ≠ t) ++ (if l.contains t then [t] else []) else l),
    turns := (List.range 8).map (fun k => if k = c then 0 else nth s.turns k) }

/-! ### Shaper credit (R118 to R120) -/

/-- Units of shaper credit in a byte, and of shaper time in a ns. -/
def creditUnit : Nat := 19200000
/-- The model's clock in shaper time units. -/
def Device.sTime (d : Device) : Nat := d.clock * 2400

/-- Recovery service is in force (R119). -/
def Device.recoveryMode (d : Device) (p : Nat) : Bool := (d.plane p).cond = .recovering || d.get .schedService p 0 = 1

/-- The tenant-and-class key of the shaper and quantum objects (`tq_sel`). -/
def tqSelOf (c t : Nat) : Nat := c * 4096 + t

/-- The idle slope of a queue in Mb/s, 0 where its shaper is off; the telemetry queue has none. -/
def Device.idleMbps (d : Device) (p c t : Nat) : Nat := if t = sysReq then 0 else d.get .cbsIdleMbps p (tqSelOf c t)

/-- Clip a credit into its bounds (R118). -/
def Device.clipCredit (d : Device) (p c t : Nat) (x : Int) : Int :=
  let hi : Int := (d.get .cbsHiCredit p (tqSelOf c t) : Int) * creditUnit
  let lo : Int := toSigned 32 (d.get .cbsLoCredit p (tqSelOf c t)) * creditUnit
  max lo (min hi x)

/-- A class's service clock at an instant not before its last change. -/
def Device.svcThen (d : Device) (p o c t : Nat) : Nat :=
  let s := d.outp p o
  nth s.svc c + (if s.svcRun.getD c false then t - s.svcAt else 0)

/-- The credit of a queue that sends nothing up to an instant and a reading of the service clock (Table 6.3); `open_` says whether
the class gate was open since. -/
def Device.creditAt (d : Device) (p o c t : Nat) (open_ : Bool) (now sv : Nat) : Int :=
  let q := d.tq p o c t
  let i : Int := d.idleMbps p c t
  let rec_ := (d.outp p o).recovery
  if i = 0 then 0
  else if q.backlogged then
    d.clipCredit p c t (q.credit + (if !open_ then 0 else if rec_ then i * ((sv : Int) - q.mark) else i * ((now : Int) - q.upTo)))
  else if q.credit > 0 then 0
  else if !open_ || rec_ then d.clipCredit p c t q.credit
  else d.clipCredit p c t (min 0 (q.credit + i * ((now : Int) - q.upTo)))

/-- Bring a queue's credit up to date (Table 6.3). -/
def Device.updateCredit (d : Device) (p o c t : Nat) (open_ : Bool) : Device :=
  let q := d.tq p o c t
  let now := max q.upTo d.sTime
  let sv := max q.mark (d.svcThen p o c d.sTime)
  d.setTq p o c t { q with credit := d.creditAt p o c t open_ now sv, upTo := now, mark := sv }

/-- The class and tenant of the queues of an output that hold credit or traffic. -/
def Device.queuesOf (d : Device) (p o : Nat) : List (Nat × Nat) :=
  (d.tqs.filter (fun e => e.1.1 = p && e.1.2 / 65536 = o)).map (fun e => (e.1.2 / 8192 % 8, e.1.2 % 8192))

/-- Bring every queue of an output up to date; `open_` says of each class whether its gate was open since. -/
def Device.creditTick (d : Device) (p o : Nat) (open_ : Nat → Bool) : Device :=
  (d.queuesOf p o).foldl (fun d q => d.updateCredit p o q.1 q.2 (open_ q.1)) d

/-- A queue wakes at the instant `at_` (R120): deficit 0; its credit is up to date, and in recovery service 0 from the service
clock as it stands. -/
def Device.wakeQueue (d : Device) (p o c t at_ : Nat) : Device :=
  let q := d.tq p o c t
  let since := max q.upTo (at_ * 2400)
  let sv := max q.mark (d.svcThen p o c (at_ * 2400))
  let cr : Int := if (d.outp p o).recovery then 0 else d.creditAt p o c t (d.gateOpen p o c) since sv
  d.setTq p o c t { q with deficit := 0, credit := cr, upTo := since, mark := sv, backlogged := true }

/-- Whether the class's oldest head frame has link credit (R118). -/
def Device.headCredit (d : Device) (p o : Nat) (x : Nat × Copy × FrameRec) : Bool :=
  o ≥ 128 || x.2.2.cells ≤ (d.port p o).creditLeft x.2.2.cls

/-- Whether a class's service clock runs now: the output is UP, not in a plane recovery, the gate is open and there is link
credit for the class's oldest head frame (R118). -/
def Device.svcRuns (d : Device) (p o c : Nat) (heads : List (Nat × Copy × FrameRec)) : Bool :=
  let up := if o < 128 then d.get .portState p o = 4 || d.sendsWindow p o else d.lhUp p (o - 128)
  up && (d.plane p).cond ≠ .recovering && d.gateOpen p o c &&
    (match heads.find? (fun x => x.2.2.cls = c) with
      | some x => d.headCredit p o x
      | none => true)

/-- A class's service clock as brought up to now: a clock that runs stopped where a head frame without link credit was
appended. -/
def Device.svcNow (d : Device) (p o c : Nat) (heads : List (Nat × Copy × FrameRec)) : Nat :=
  let stop := match heads.find? (fun x => x.2.2.cls = c) with
    | some x => if d.headCredit p o x then d.sTime else max (d.outp p o).svcAt (x.2.1.at_ * 2400)
    | none => d.sTime
  d.svcThen p o c stop

/-- Advance the service clocks of an output and note which run from now on; the queues of a class whose clock starts again wake
and join the tail of the round in their order (R120). -/
def Device.svcUpdate (d : Device) (p o : Nat) : Device :=
  let heads := d.heads p o
  let s := d.outp p o
  let runs := (List.range 8).map (fun c => d.svcRuns p o c heads)
  let svc := (List.range 8).map (fun c => d.svcNow p o c heads)
  let woken := (List.range 8).filter (fun c => runs.getD c false && s.svcRun ≠ [] && !s.svcRun.getD c false)
  let turns := (List.range 8).map (fun c => if woken.contains c then 0 else nth s.turns c)
  let d := d.setOutp p o { s with svc := svc, svcAt := d.sTime, svcRun := runs, turns := turns }
  woken.foldl (fun d c => ((d.outp p o).lists.getD c []).foldl (fun d t => d.wakeQueue p o c t d.clock) d) d

end Sys2Proof.Machine
end

