-- ==== Sys2Proof/Machine/Gaps.lean ====
section
/-! DEFINITION. Gaps and idle holds of calibration rounds (spec/13_optical_control.md 13.4): the inputs a pair runs on, when a pair
is in a gap, and the holds the engine asks its outputs for. Objects of an input stand at 256 · chiplet + input. -/

namespace Sys2Proof.Machine

/-- `laser_state` of input e. -/
def Device.laserState (d : Device) (p c e : Nat) : Nat := d.get .laserState p (c * 256 + e)

/-- Whether an input is in use: present or low (Table 13.2). -/
def Device.laserUsed (d : Device) (p c e : Nat) : Bool := d.laserState p c e = 2 || d.laserState p c e = 3

/-- Inputs in use that feed a calibration pair. -/
def Device.pairInputs (d : Device) (p c j : Nat) : List Nat :=
  ([0, 1].map (fun k => 2 * (j / 8) + k)).filter (d.laserUsed p c)

/-- The hold of a round in ns: by its kind and the inputs present (R305, R309). -/
def Device.holdNs (d : Device) (p c j kind : Nat) : Nat :=
  if kind = 2 then 162000 else if (d.pairInputs p c j).length ≥ 2 then 42000 else 82000

/-- Whether a frame is queued for a fabric output. -/
def Device.hasQueued (d : Device) (p n : Nat) : Bool := (d.copiesOf p).any (fun e => e.2.wait.contains n)

/-- Whether a port meets a gap condition (R304) for a hold of `ns`. -/
def Device.portGap (d : Device) (p n ns : Nat) : Bool :=
  let s := d.outp p n
  let g := d.gateIn p n 0
  let st := d.get .portState p n
  if s.enabled && entryByp g.1 && !s.bypClosed then false
  else (s.enabled && entryCal g.1 && ns ≤ g.2) ||
    ((d.cal p (n / 32)).idle.contains (n % 32) && !d.hasQueued p n) || st = 0 || (st = 5 && !(d.port p n).window)

/-- Whether a pair is in a gap. -/
def Device.pairGap (d : Device) (p c j kind : Nat) : Bool :=
  [2 * j, 2 * j + 1].all (fun k => d.portGap p (32 * c + k) (d.holdNs p c j kind))

/-- The round the engine would run next: a forced pair, then the due pair in a gap that has been due longest, then a matrix
round (R303, R308, R309); no calibration round starts at OP1 or OP2 (spec/20 Table 20.4). -/
def Device.nextRound (d : Device) (p c : Nat) : Option (Nat × Nat) :=
  let s := d.cal p c
  if s.round.isSome then none
  else
    match s.forcedPair with
    | some j => some (j, 1)
    | none =>
      match argMin (fun x => x.2 * 16 + x.1) (s.due.filter (fun x => d.get .opLevel 4 0 = 0 && d.pairGap p c x.1 0)) with
      | some x => some (x.1, 0)
      | none => (s.matrix.find? (fun j => d.pairGap p c j 2)).map (fun j => (j, 2))

/-- The engine requests the idle holds of the round it would run next (R305): once per output. -/
def Device.requestHolds (d : Device) (p c : Nat) : Device :=
  match d.nextRound p c with
  | none => d
  | some (j, kind) =>
    [2 * j, 2 * j + 1].foldl (fun d k =>
      let n := 32 * c + k
      let s := d.outp p n
      let ns := d.holdNs p c j kind
      if d.clock < s.holdUntil then d
      else if kind = 1 then d.setOutp p n { s with forceHold := some ns }
      else if s.calHold = [] then d.setOutp p n { s with calHold := [ns] }
      else d) d

/-- The calibration engine of a fabric output's chiplet asks for the holds it needs, at a decision of the output or as its gates
change. -/
def Device.calHolds (d : Device) (p o : Nat) : Device := if o < 128 then d.requestHolds p (o / 32) else d

end Sys2Proof.Machine
end

