-- ==== Sys2Proof/Machine/Ptp.lean ====
section
/-! DEFINITION. The bytes of IEEE 1588 messages the device sends, and the one-step insertion of departure times
(spec/15_time_and_synchronisation.md R336, R338, R341). -/

namespace Sys2Proof.Machine

/-- messageType of a message. -/
def ptpType (b : Bytes) : Nat := beNat b 0 1 % 16
/-- sequenceId. -/
def ptpSeq (b : Bytes) : Nat := beNat b 30 2
/-- The time base whose identity a message carries (Table 15.1). -/
def ptpTb (b : Bytes) : Nat := beNat b 27 1 % 8

/-- Replace the bytes from offset `o` on. -/
def putBytes (b : Bytes) (o : Nat) (x : Bytes) : Bytes := b.take o ++ x ++ b.drop (o + x.length)

/-- The scale of the common mean link delay service in 2^-16 ns: the plane's clock, which no step of a time base moves
(assumption log 13). -/
def Device.delayTime (d : Device) : Nat := d.clock * 65536

/-- A frame as it departs from line port o, with half of `lh_asym_ns` in 2^-16 ns added (Table 15.2): a Sync takes the time into
originTimestamp and the fraction, in steps of 0.125 ns, into correctionField; a Pdelay_Resp adds t3 to correctionField, which
was made as -t2; a Pdelay_Req leaves t1 behind (R338, R341). -/
def Device.ptpDepart (d : Device) (p o : Nat) (half : Int) (f : Frame) : Device × Frame :=
  if f.opcode ≠ opPtp then (d, f)
  else
    let b := f.payload
    let put := fun (x : Bytes) => { f with payload := x, trailer := trailerOf x }
    let dly : Nat := ((d.delayTime : Int) + half).toNat
    if ptpType b = 0 then
      let t := ((d.tbFine p (ptpTb b) : Int) + half * 65536).toNat
      (d, put (putBytes (putBytes b 34 (natToBytes 10 (packTime (t / 2 ^ 32)))) 8 (natToBytes 8 (t % 2 ^ 32 / 2 ^ 29 * 8192))))
    else if ptpType b = 3 then (d, put (putBytes b 8 (natToBytes 8 ((beNat b 8 8 + dly) % 2 ^ 64))))
    else if ptpType b = 2 then (d.setPd p o { d.pd p o with req := some (ptpSeq b, dly) }, f)
    else (d, f)

/-! ### Messages that are counted (R340) -/

/-- The time base at which a message is counted: the enabled one of its domain, else one of its domain, else an open choice
(assumption log 6). -/
def Device.ptpCounts (d : Device) (p domain : Nat) : Device × Nat :=
  let all := (List.range 8).filter (fun n => d.get .tbDomain p n = domain)
  match all.find? (fun n => d.get .tbEnable p n = 1), all with
  | some n, _ => (d, n)
  | none, n :: _ => (d, n)
  | none, [] => let r := d.fresh; (r.2, r.1 % 8)

/-- Count a message at the time base of its domain. -/
def Device.ptpCount (d : Device) (o : Obj) (p domain : Nat) : Device :=
  let r := d.ptpCounts p domain
  r.1.bump o p r.2

/-- A PTP frame is consumed. What a message of Table 15.3 says arrives as its command; every other message type is discarded and
counted (R340). -/
def Device.ptpTaken (d : Device) (p : Nat) (f : Frame) : Device :=
  if [0x0, 0x2, 0x3, 0xB].contains (ptpType f.payload) then d else d.ptpCount .ptpRxDiscard p (beNat f.payload 4 1)

end Sys2Proof.Machine
end

