-- ==== Sys2Proof/Machine/Link.lean ====
section
/-! DEFINITION. Fabric ports: training, credits, link sequence and retry (spec/03_fabric_ports_and_link.md). -/

namespace Sys2Proof.Machine

/-! ### Port state -/

/-- Whether a persistent bypass circuit holds the port: its paths stay parked as long as it is installed (spec/14 R318, R321). -/
def Device.parked (d : Device) (p n : Nat) : Bool :=
  let b := octet 32 8 (d.get .bypMap p (n / 32)) (n % 32)
  bit b 7 && !bit b 6

/-- The port may train: the plane operates and has calibrated its pairs (spec/13 R303), the port is administratively up, not
fenced, held down by nothing (R46, R35) and in no persistent bypass circuit. -/
def Device.canTrain (d : Device) (p n : Nat) : Bool :=
  d.operates p && !d.parked p n && 4 ≤ d.stage p && d.stage p ≤ 5 && d.get .portAdmin p n = 1 && !(d.port p n).fenced && (d.port p n).holdDown = 0

/-- Wavelengths in use at this end (R46 LANES): those not retired. -/
def Device.lanes (d : Device) (p n : Nat) : Nat := andNot 4 0xF (d.get .portLaneRetired p n)

/-- Set `port_state`; the rate is reported only in UP and BYPASS. -/
def Device.setPortState (d : Device) (p n v : Nat) : Device :=
  let d := if d.get .portState p n = v then d else d.calAbortPort p n
  let d := d.set .portState p n v
  (if v = 4 || v = 5 then d else d.set .portRate p n 0).svcUpdate p n

/-- Frames of an input's past link life return no credit to the new one. -/
def Device.forgetCredit (d : Device) (p n : Nat) : Device :=
  { d with frames := d.frames.map (fun e => if e.2.plane = p && e.2.credit = some n then (e.1, { e.2 with credit := none }) else e) }

/-- Clear the link state of a port: training, counts and sequence numbers start anew (R47). -/
def Device.clearLink (d : Device) (p n : Nat) : Device :=
  let s := d.port p n
  let d := d.forgetCredit p n
  d.setPort p n { failed := s.failed, trainSeq := s.trainSeq, fenced := s.fenced, holdDown := s.holdDown }

/-- Discard a port's unacknowledged frames and every frame queued for it, counted in `link_discard` (R56). -/
def Device.discardPort (d : Device) (p n : Nat) : Device :=
  let gone := (d.port p n).unacked.filter (fun u => (d.copy? p u.copy).isNone)
  (d.flushOut p n).count .linkDiscard p n gone.length

/-- The port leaves UP with its frames treated as R56 states, and stands in `st`. -/
def Device.leavePort (d : Device) (p n st : Nat) : Device :=
  ((d.discardPort p n).clearLink p n).setPortState p n st

/-- A port in UP leaves it other than by command, fence or bypass: a fault event of its channel (spec/19 Table 19.1). -/
def Device.portFault (d : Device) (p n : Nat) : Device :=
  if d.get .portState p n = 4 then d.chanFault p (chan 2 n) else d

/-- The port returns to training (R56, R47): DOWN until clock recovery locks; FENCED where it is fenced. -/
def Device.retrain (d : Device) (p n : Nat) : Device :=
  d.leavePort p n (if (d.port p n).fenced then 6 else 0)

/-- A retrain that keeps the unacknowledged frames for a resend after UP (R58), from the FEC_LOCK stage. -/
def Device.laneRetrain (d : Device) (p n : Nat) : Device :=
  let d := d.portFault p n
  let s := d.port p n
  let d := d.forgetCredit p n
  let d := d.setPort p n { failed := s.failed, trainSeq := s.trainSeq, fenced := s.fenced, holdDown := s.holdDown,
                           unacked := s.unacked, resendFree := true, limTx := s.limTx, limRx := s.limRx }
  d.setPortState p n 1

/-- Take a port down for a condition that holds it there. -/
def Device.holdPort (d : Device) (p n code : Nat) : Device :=
  let d := d.portFault p n
  let s := d.port p n
  let d := d.setPort p n { s with holdDown := setBit s.holdDown code }
  d.leavePort p n (if s.fenced then 6 else 0)

/-- Lift such a condition; the port trains when nothing else holds it (the light's lock arrives as CDR_LOCK). -/
def Device.unholdPort (d : Device) (p n code : Nat) : Device :=
  let s := d.port p n
  d.setPort p n { s with holdDown := clrBit s.holdDown code }

/-! ### Training (R46 to R49) -/

/-- Eight 16-bit counts as one number, class 0 first. -/
def packCounts (l : List Nat) : Nat := (List.range 8).foldl (fun v c => v * 65536 + nth l c % 65536) 0

/-- The CTRL training payload (Table 3.6); its limits are those loaded when this training began (R49). -/
def Device.trainPayload (d : Device) (p n msg : Nat) : Bytes :=
  natToBytes 32 (msg * 2 ^ 248 + d.devId p % 4096 * 2 ^ 236 + p % 4 * 2 ^ 234 + n % 256 * 2 ^ 224 +
    d.lanes p n * 2 ^ 220 + 3 * 2 ^ 216 + (d.port p n).trainSeq % 256 * 2 ^ 208 + packCounts (d.port p n).limRx * 2 ^ 80)

/-- Whether the row of a fabric port backs the limits the port is about to grant: F(r) ≥ U(r) + 2,048 then still holds (R68).
Where it does not yet, since frames of a past link life hold cells, the port waits in EXCHANGE (DEDUCED, assumption log 24). -/
def Device.backs (d : Device) (p n : Nat) : Bool := d.reserveKept p (n / 8) (total (d.port p n).limRx)

/-- The limits that a training grants: those of `credit_limit` as it stands when the training begins (R49), unchanged after a
lane retirement (R58). -/
def Device.loadLimits (d : Device) (p n : Nat) : List Nat :=
  let s := d.port p n
  if s.resendFree && s.limRx ≠ [] then s.limRx else octetList 8 16 (d.get .creditLimit p n)

/-- The port enters EXCHANGE. -/
def Device.toExchange (d : Device) (p n : Nat) : Device := if d.get .portState p n = 2 then d.setPortState p n 3 else d

/-- The port enters UP when it has both sent and received TRAIN_DONE (R47) and its row backs the limits it grants (R68):
LINK_SEQ 0 in both directions, credits from the peer's limits, kept frames queued for resend under R58 with the transmissions
they have had. -/
def Device.tryUp (d : Device) (p n : Nat) : Device :=
  let s := d.port p n
  if d.get .portState p n = 3 && s.doneSent && s.doneRcvd && d.backs p n then
    let v := s.lastTrain.toNat
    let lanes := bitsOf 4 (fld v 220 4 &&& d.lanes p n)
    let kept := (s.unacked.zip (List.range s.unacked.length)).map (fun x => { x.1 with seq := x.2 })
    let d := d.setPort p n { s with
      failed := 0, txSeq := kept.length, rxExp := 0, nakSent := false, unacked := kept, resend := kept.map (·.seq),
      limTx := if s.resendFree && s.limTx ≠ [] then s.limTx else octetList 8 16 (fld v 80 128),
      peerLanes := fld v 220 4, peerCaps := fld v 216 4, sent := [], freedPeer := [], rcvd := [], freed := [],
      reported := [], ackSent := 0, agree := 0, agreed := false, doneSent := false, doneRcvd := false }
    let d := d.set .peerId p n (fld v 236 12 * 1024 + fld v 234 2 * 256 + fld v 224 8)
    let d := ([0, 1, 2, 3].foldl (fun d k => d.chanClear p (chan 1 (4 * n + k))) (d.chanClear p (chan 2 n))).retuned p n 2
    let d := (d.set .portRate p n (if lanes.length = 4 then 2 else 1)).setPortState p n 4
    if d.get .trainCmd p n = 1 then d.set .trainCmd p n 2 else d
  else d

/-- A port sees its incoming light: its receive rings are lit, and whether the light shows the pilot tones, a free value, is kept
(spec/13 R304, R310; assumption log 41). -/
def Device.lightSeen (d : Device) (p n : Nat) : Device :=
  let tones := d.fresh.1 % 2 = 1
  let d := d.fresh.2
  let s := d.cal p (n / 32)
  let others := s.toned.filter (· ≠ n % 32)
  let d := d.setCal p (n / 32) { s with toned := if tones then n % 32 :: others else others }
  ((List.range 4).map (fun w => n / 32 * 256 + 8 * (n % 32) + 4 + w)).foldl (fun d r =>
    if d.get .ringState p r = 5 then d.set .ringState p r 1 else d) d

/-- CDR_LOCK: clock recovery locks and the port enters OPTICAL. -/
def Device.cdrLock (d : Device) (p n : Nat) : Device :=
  if d.canTrain p n && d.get .portState p n = 0 then (d.lightSeen p n).setPortState p n 1 else d

/-- FEC_LOCK: codewords lock and the port enters FEC_LOCK, with the limits it will grant (R49, R58). EXCHANGE follows at the
first training frame that is sent or received (DEDUCED, assumption log 24). -/
def Device.fecLock (d : Device) (p n : Nat) : Device :=
  if d.canTrain p n && d.get .portState p n = 1 then
    let s := d.port p n
    (d.setPort p n { s with limRx := d.loadLimits p n, agree := 0, agreed := false, doneSent := false,
                            doneRcvd := false }).setPortState p n 2
  else d

/-- TRAIN_TX_TIMER: in EXCHANGE send TRAIN, or TRAIN_DONE once three agreeing frames have been received (R47); from FEC_LOCK
the port enters EXCHANGE with its first training frame. -/
def Device.trainTx (d : Device) (p n : Nat) : Device :=
  let d := d.toExchange p n
  if d.get .portState p n = 3 then
    let s := d.port p n
    let msg := if s.agreed then 2 else 1
    let m : Mk := { opcode := opCtrl, cls := 5, hops := 1 }
    let d := (d.calAbortPort p n).emit (.lfl p n ((d.peerMk p n m).frame (d.trainPayload p n msg)))
    let d := d.setPort p n { s with trainSeq := (s.trainSeq + 1) % 256, doneSent := s.doneSent || msg = 2 }
    d.tryUp p n
  else d

/-- The checks of R482 on a link frame; `ctrl` for a CTRL payload. The device after the counts, and whether the frame acts. A
frame that fails both a check of its form and its trailer counts in `opcode_reject` alone (DEDUCED, assumption log 24). -/
def Device.linkChecks (d : Device) (p n : Nat) (f : Frame) (len : Nat) (ctrl : Bool) : Device × Bool :=
  if !f.crcOk then ((d.bump .hdrCrcErr p n).causeFabric p 0 n, false)
  else
    let v := bytesToNat f.payload
    let bad := f.length ≠ len || f.cls ≠ 5 || f.tenant ≠ 0 || f.reserved ||
      (ctrl && f.payload.length = 32 && f.trailerCheck = .good &&
        (fld v 232 2 ≠ 0 || fld v 218 2 ≠ 0 || fld v 0 80 ≠ 0 || (fld v 248 8 ≠ 1 && fld v 248 8 ≠ 2)))
    if bad then ((d.bump .opcodeReject p n).causeFabric p 2 n, false)
    else if f.trailerCheck ≠ .good then ((d.bump .crc32Err p n).causeFabric p 0 n, false)
    else (d, true)

/-- A training frame takes effect in EXCHANGE (R47, R48). -/
def Device.trainRx (d : Device) (p n : Nat) (f : Frame) : Device :=
  let v := bytesToNat f.payload
  let msg := fld v 248 8
  let key := BitVec.ofNat 256 (setFld (setFld v 248 8 0) 208 8 0)
  let s := d.port p n
  let common := bitsOf 4 (fld v 220 4 &&& d.lanes p n)
  if fld v 234 2 ≠ p then (d.setPort p n { s with agree := 0 }).causeFabric p 3 n
  else if common.length < 3 || (common.length = 3 && !bit (fld v 216 4) 0) then d.setPort p n { s with agree := 0 }
  else
    let agree := if s.agree > 0 && s.lastTrain = key then s.agree + 1 else 1
    (d.setPort p n { s with agree := agree, agreed := s.agreed || agree ≥ 3, lastTrain := key,
                            doneRcvd := s.doneRcvd || msg = 2 }).tryUp p n

/-- A CTRL frame is received: in UP a TRAIN sends the port back to EXCHANGE and a TRAIN_DONE is ignored (R47). Without codeword
lock nothing is seen. -/
def Device.ctrlRx (d : Device) (p n : Nat) (f : Frame) : Device :=
  if 2 ≤ d.get .portState p n && d.get .portState p n ≤ 4 then
    let r := (d.startBlock p n).linkChecks p n f 32 true
    if !r.2 then r.1
    else if r.1.get .portState p n = 4 then
      if fld (bytesToNat f.payload) 248 8 = 1 then
        let d := (r.1.portFault p n).leavePort p n 3
        let s := d.port p n
        (d.setPort p n { s with limRx := octetList 8 16 (d.get .creditLimit p n) }).trainRx p n f
      else r.1
    else (r.1.toExchange p n).trainRx p n f
  else d

/-- TRAINING_TIMEOUT: 500 ms without UP (Table 3.7, R49). -/
def Device.trainingTimeout (d : Device) (p n : Nat) : Device :=
  if d.canTrain p n && d.get .portState p n < 4 then
    let d := d.bump .trainingFail p n
    let s := d.port p n
    let d := d.setPort p n { s with failed := s.failed + 1 }
    let d := d.leavePort p n 0
    if s.failed + 1 ≥ 16 then d.causeFabric p 7 n else d
  else d

/-- TRAINING_RETRY_TIMER: training starts again, waiting for clock recovery. -/
def Device.trainingRetry (d : Device) (p n : Nat) : Device :=
  if d.canTrain p n && d.get .portState p n = 0 then (d.clearLink p n).setPortState p n 0 else d

/-! ### Acknowledgement and retry (R53 to R56, R86) -/

/-- Index of a sequence number among the unacknowledged frames, where it is outstanding (R54). -/
def PortSt.outstanding (s : PortSt) (m : Nat) : Option Nat :=
  match s.unacked with
  | [] => none
  | u :: _ => let k := (m + 4096 - u.seq) % 4096; if k < s.unacked.length then some k else none

/-- A cumulative acknowledgement (R54): the frames up to it reach their release point. -/
def Device.applyAck (d : Device) (p n m : Nat) : Device :=
  let s := d.port p n
  match s.outstanding m with
  | none => d
  | some k =>
    let gone := s.unacked.take (k + 1)
    let d := d.setPort p n { s with unacked := s.unacked.drop (k + 1),
                                    resend := s.resend.filter (fun q => !(gone.any (fun u => u.seq = q))) }
    gone.foldl (fun d u => d.markDue p u.copy n) d

/-- Resend every unacknowledged frame from index k (R55); a frame lost in a failed kite (R86) or at its eighth transmission
(R56) sends the port back to training. -/
def Device.resendFrom (d : Device) (p n k : Nat) : Device :=
  let s := d.port p n
  let tail := s.unacked.drop k
  if tail.any (fun u => (d.copy? p u.copy).isNone) then ((d.bump .lostFrameRetrain p 0).portFault p n).retrain p n
  else if tail.any (fun u => u.tries ≥ 8) then
    (((d.bump .retryExhausted p n).causeFabric p 8 n).portFault p n).retrain p n
  else d.setPort p n { s with resend := tail.map (·.seq), resendFree := false }

/-- A CREDIT frame is received (R50, R482). -/
def Device.creditRx (d : Device) (p n : Nat) (f : Frame) : Device :=
  if 2 ≤ d.get .portState p n && d.get .portState p n ≤ 4 then
    let r := (d.startBlock p n).linkChecks p n f 16 false
    if r.2 && r.1.get .portState p n = 4 then
      let d := r.1
      let s := d.port p n
      ((d.setPort p n { s with freedPeer := octetList 8 16 (bytesToNat f.payload) }).applyAck p n f.linkSeq).svcUpdate p n
    else r.1
  else d

/-- The 500 ns CREDIT (R51): while cells or frames are outstanding in either direction, on this side those the peer does not
yet know to be freed or acknowledged. -/
def Device.creditTimer (d : Device) (p n : Nat) : Device :=
  let s := d.port p n
  let cellsOut := (List.range 8).any (fun c => nth s.rcvd c ≠ nth s.reported c || nth s.sent c ≠ nth s.freedPeer c)
  if d.get .portState p n = 4 && (s.unacked ≠ [] || s.rxExp ≠ s.ackSent || cellsOut) then d.sendCredit p n else d

/-- A RETRY_NAK is received (R54, R55). -/
def Device.nakRx (d : Device) (p n : Nat) (f : Frame) : Device :=
  if 2 ≤ d.get .portState p n && d.get .portState p n ≤ 4 then
    let r := (d.startBlock p n).linkChecks p n f 0 false
    if r.2 && r.1.get .portState p n = 4 then
      match (r.1.port p n).outstanding f.linkSeq with
      | some k => r.1.resendFrom p n k
      | none => r.1.bump .nakIgnored p n
    else r.1
  else d

/-- The acknowledgement timer (R55). -/
def Device.ackTimeout (d : Device) (p n : Nat) : Device :=
  if d.get .portState p n = 4 && (d.port p n).unacked ≠ [] then d.resendFrom p n 0 else d

/-! ### Transmission (R42, R50, R110) -/

/-- Whether a frame made by the device itself (engines, R481) leaves with its HOPS as stored. -/
def FrameRec.own (f : FrameRec) : Bool := f.input ≥ 144

/-- The frame as it leaves on a link: own LINK_SEQ, HOPS reduced by one unless the device made it, HDR_CRC recomputed
(R42, R481). -/
def FrameRec.outgoing (f : FrameRec) (seq : Nat) : Frame :=
  let g := f.frame.setFld 52 12 seq
  (if f.own then g else g.setFld 224 4 (f.frame.hops - 1)).seal

/-- Transmit a stored copy on a fabric port for the first time. -/
def Device.transmit (d : Device) (p n id : Nat) (stomped : Bool) : Device :=
  match d.copy? p id with
  | none => d
  | some c =>
    match d.frame? p c.fid with
    | none => d
    | some fr =>
      let s := d.port p n
      let f := { fr with frame := d.readdress p n fr.grp fr.frame }.outgoing s.txSeq
      let x := d.ptpDepart p n 0 f
      let d := x.1
      let f := if stomped then x.2.stomp else x.2
      let u : Unacked := { seq := s.txSeq, copy := id, cls := fr.cls, cells := fr.cells, tries := 1, frame := f }
      let d := d.setPort p n { s with txSeq := (s.txSeq + 1) % 4096, sent := addCount s.sent fr.cls fr.cells,
                                      unacked := s.unacked ++ [u] }
      let d := d.setCopy p id { c with wait := c.wait.filter (· ≠ n), sentTo := c.sentTo ++ [n] }
      (((d.notIdle p n).bump .txFrames p n).count .txBytes p n f.bytes).emit (.lfl p n f)

/-- An unacknowledged frame as it departs again: a PTP message takes the new departure time (spec/15 R338). -/
def Device.again (d : Device) (p n : Nat) (u : Unacked) (q : Nat) : Device × Frame :=
  if u.frame.opcode ≠ opPtp then (d, (u.frame.setFld 52 12 q).seal)
  else
    match (d.copy? p u.copy).bind (fun c => d.frame? p c.fid) with
    | some fr => d.ptpDepart p n 0 (fr.outgoing q)
    | none => (d, (u.frame.setFld 52 12 q).seal)

/-- Send the next waiting resend (R55, R110), if its class has credit. The frame leaves as the port's record holds it, also
where the cells of its copy were lost after the resend was called for (DEDUCED, assumption log 27: R86 speaks of a NAK or
timeout after the loss). -/
def Device.sendResend (d : Device) (p n : Nat) : Device :=
  let s := d.port p n
  match s.resend with
  | [] => d
  | q :: rest =>
    match s.unacked.find? (fun u => u.seq = q) with
    | none => d.setPort p n { s with resend := rest }
    | some u =>
      if s.creditLeft u.cls < u.cells then d
      else
        let tries := if s.resendFree then u.tries else u.tries + 1
        let x := d.again p n u q
        let f := x.2
        let d := x.1.setPort p n { s with
          resend := rest, sent := addCount s.sent u.cls u.cells,
          unacked := s.unacked.map (fun x => if x.seq = q then { x with tries := tries, frame := f } else x) }
        (((d.notIdle p n).bump .retransmissions p n).calAbortPort p n).emit (.lfl p n f)

/-! ### Management of a port (R63) -/

/-- A write to `port_admin` takes the port down, or starts training; for a port that a persistent circuit holds it acts when the
circuit is removed (DEDUCED, assumption log 39). -/
def Device.portAdmin (d : Device) (p n v : Nat) : Device × Bool :=
  let r := d.store .portAdmin p n v
  if !r.2 then r
  else if v = 0 && !d.parked p n then (r.1.leavePort p n (if (d.port p n).fenced then 6 else 0), true)
  else r

/-- `train_cmd`: refused while fenced or down, or in a persistent circuit (DEDUCED, assumption log 39), else the port retrains and
the command reads 0x01 until UP. -/
def Device.trainCmd (d : Device) (p n : Nat) : Device :=
  if d.canTrain p n then (d.retrain p n).set .trainCmd p n 1 else d.set .trainCmd p n 3

/-! ### Commands -/

/-- CDR_LOCK. -/
def execCdrLock (p : Plane) (n : Port) (s : State) : Res := s.runOn p (fun d => d.cdrLock p n)
/-- FEC_LOCK. -/
def execFecLock (p : Plane) (n : Port) (s : State) : Res := s.runOn p (fun d => d.fecLock p n)
/-- TRAIN_TX_TIMER. -/
def execTrainTxTimer (p : Plane) (n : Port) (s : State) : Res := s.runOn p (fun d => d.trainTx p n)
/-- TRAIN. -/
def execTrain (p : Plane) (n : Port) (f : Frame) (s : State) : Res := s.runOn p (fun d => d.ctrlRx p n f)
/-- TRAIN_DONE. -/
def execTrainDone (p : Plane) (n : Port) (f : Frame) (s : State) : Res := s.runOn p (fun d => d.ctrlRx p n f)
/-- TRAINING_TIMEOUT. -/
def execTrainingTimeout (p : Plane) (n : Port) (s : State) : Res := s.runOn p (fun d => d.trainingTimeout p n)
/-- TRAINING_RETRY_TIMER. -/
def execTrainingRetryTimer (p : Plane) (n : Port) (s : State) : Res := s.runOn p (fun d => d.trainingRetry p n)
/-- CREDIT. -/
def execCredit (p : Plane) (n : Port) (f : Frame) (s : State) : Res := s.runOn p (fun d => d.creditRx p n f)
/-- CREDIT_TX_TIMER. -/
def execCreditTxTimer (p : Plane) (n : Port) (s : State) : Res := s.runOn p (fun d => d.creditTimer p n)
/-- RETRY_NAK. -/
def execRetryNak (p : Plane) (n : Port) (f : Frame) (s : State) : Res := s.runOn p (fun d => d.nakRx p n f)
/-- ACK_TIMEOUT. -/
def execAckTimeout (p : Plane) (n : Port) (s : State) : Res := s.runOn p (fun d => d.ackTimeout p n)
/-- BYPASS_PREAMBLE: the receiver relocks and discards the frames without checks or counts (R61, R482). -/
def execBypassPreamble (_p : Plane) (_n : Port) (s : State) : Res := s.run (fun d => d)
/-- PORT_ADMIN_WRITE. -/
def execPortAdminWrite (p : Plane) (n : Port) (v : Byte) (rq : Req) (s : State) : Res :=
  s.run (fun d => d.request rq (fun d =>
    d.doWrite rq ⟨⟨.portAdmin, p, n⟩, 1, v.toNat⟩ (fun _ => true) (fun d => d.portAdmin p n v.toNat)))
/-- TRAIN_CMD. -/
def execTrainCmd (p : Plane) (n : Port) (rq : Req) (s : State) : Res :=
  s.run (fun d => d.command rq ⟨.trainCmd, p, n⟩ 1 (fun d => d.trainCmd p n))

end Sys2Proof.Machine
end

