-- ==== Sys2Proof/Machine/Switch.lean ====
section
/-! DEFINITION. The switch core's own commands (spec/04_switch_core.md): writes of held frames, moves, releases, spare kites
and swaps, spray sets. -/

namespace Sys2Proof.Machine

/-! ### Swaps (R84, R85, R87) -/

/-- A swap is in progress on the plane: a forced swap or a planned hand-over or return (R84). -/
def Device.swapBusy (d : Device) (p : Nat) : Bool :=
  (List.range 20).any (fun r => (d.row p r).forced || (d.row p r).draining.isSome)

/-- Set or clear the row's bit of `spare_in_use`, with `kite_stand_in` of the spare. -/
def Device.standIn (d : Device) (p r : Nat) (col : Option Nat) : Device :=
  let d := d.set .spareInUse p 0 (putBit (d.get .spareInUse p 0) r col.isSome)
  d.set .kiteStandIn p (kiteUnit r 20) (col.getD 0xFF)

/-- Whether a planned hand-over of K(r,c) may start (R84). -/
def Device.handOverOk (d : Device) (p r c : Nat) : Bool :=
  !d.swapBusy p && (d.row p r).col.isNone && d.kiteState p r 20 = 2 && d.kiteState p r c = 0

/-- Start a planned hand-over (R84): the spare is connected and takes the column's new frames. -/
def Device.handOver (d : Device) (p r c : Nat) (forBist retire : Bool) : Device :=
  let d := d.setRow p r { col := some c, connected := true, draining := some true, forBist := forBist, retire := retire }
  ((d.setKiteState p r c 3).setKiteState p r 20 1).standIn p r (some c)

/-- Whether the kite of column c may return from the spare (R84). -/
def Device.returnOk (d : Device) (p r c : Nat) : Bool :=
  let s := d.row p r
  !d.swapBusy p && s.col = some c && s.connected && d.kiteState p r c ≠ 4

/-- Start the return from the spare (R84): K(r,c) takes new frames and the spare drains. -/
def Device.returnFrom (d : Device) (p r c : Nat) : Device :=
  let s := d.row p r
  let d := d.setRow p r { s with connected := false, draining := some false }
  (d.setKiteState p r c 0).setKiteState p r 20 3

/-- Start the return of the first kite that may return from its spare and is to (spec/19 R410). -/
def Device.startReturns (d : Device) (p : Nat) : Device :=
  match (List.range 20).find? (fun r => (d.row p r).returnDue && (match (d.row p r).col with | some c => d.returnOk p r c | none => false)) with
  | some r =>
    (match (d.row p r).col with
      | some c => (d.setRow p r { d.row p r with returnDue := false }).returnFrom p r c
      | none => d)
  | none => d

/-- The swap command of a kite reads done where it was in progress. -/
def Device.swapDone (d : Device) (p r c : Nat) : Device :=
  if d.get .swapCmd p (kiteUnit r c) = 1 then d.set .swapCmd p (kiteUnit r c) 2 else d

/-- The draining kite of a row holds no cell (R84): after a hand-over it leaves service, under test or retired; after a return
the spare is idle again. -/
def Device.kiteDrained (d : Device) (p r : Nat) : Device :=
  let s := d.row p r
  match s.col, s.draining with
  | some c, some true =>
    if d.occupancy p r c = 0 then
      ((d.setRow p r { s with draining := none }).setKiteState p r c (if s.retire then 4 else 5)).swapDone p r c
    else d
  | some c, some false =>
    if d.occupancy p r 20 = 0 then
      (((d.setRow p r {}).setKiteState p r 20 2).standIn p r none).swapDone p r c
    else d
  | _, _ => d

/-- Discard every frame with a cell in kite k of row r, each counted once, with the deferred copies that refer to such cells;
copies already written in other kites stay (R85). -/
def Device.loseKite (d : Device) (p r k : Nat) : Device × List FrameRec :=
  let hit := (d.copiesOf p).filter (fun e => e.2.row = r && e.2.cellsIn k > 0)
  let fids := (hit.map (fun e => e.2.fid)).eraseDups
  let recs := fids.filterMap (d.frame? p)
  let gone := fun (e : Ix × Copy) => e.1.1 = p && e.2.row = r &&
    (e.2.cellsIn k > 0 ||
      (e.2.stage = .deferred && hit.any (fun h => h.2.fid = e.2.fid &&
        !(d.copiesOf p).any (fun x => x.2.fid = h.2.fid && x.2.cellsHeld > 0 && x.1 < h.1))))
  let d := { d with copies := d.copies.filter (fun e => !gone e) }
  let d := fids.foldl (fun d f => d.frameDone p f) d
  (d.count .kiteLossFrames p 0 fids.length, recs)

/-- The spare of a row is the unit under a routine self-test slice (spec/19 R419). -/
def Device.spareTested (d : Device) (p r : Nat) : Bool :=
  (Tbl.get d.bists (p, 0) ({} : BistSt)).unit = some (21 * r + 20)

/-- Whether the row's spare is available to kite c (R87): idle, or under a routine slice that a fault aborts; or connected to the very
kite that a planned hand-over drains. -/
def Device.spareReady (d : Device) (p r c : Nat) : Bool :=
  let s := d.row p r
  (s.col.isNone && !s.forced && (d.kiteState p r 20 = 2 || d.spareTested p r)) ||
    (s.draining = some true && s.connected && s.col = some c)

/-- Begin the forced swap of K(r,c) (Table 4.4, t = 0): closed, its frames discarded, the kite-failure cause raised. A kite
that a planned hand-over drains has its spare connected already (R87); the hand-over is then done, since nothing is left to drain
(DEDUCED, assumption log 27). -/
def Device.forceSwap (d : Device) (p r c : Nat) : Device × List FrameRec :=
  let s := d.row p r
  let held := s.col = some c && s.connected
  let d := d.setRow p r { col := some c, connected := held, forced := true }
  let d := d.setKiteState p r c 5
  let d := if held then d else d.setKiteState p r 20 5
  let d := if held then d.swapDone p r c else d
  let x := d.loseKite p r c
  (x.1.causeSwitch p 1 (kiteUnit r c), x.2)

/-- The spare enters service after a forced swap (Table 4.4, t = 120 µs). -/
def Device.spareInService (d : Device) (p r : Nat) : Device :=
  let s := d.row p r
  match s.col with
  | some c =>
    if s.forced then
      let d := (d.setRow p r { s with forced := false, connected := true }).setKiteState p r 20 1
      (d.standIn p r (some c)).bump .kiteSwaps p 0
    else d
  | none => d

/-- Row and column of a `kite_sel` value; column 20 for the spare. -/
def kiteOf (v : Nat) : Nat × Nat := (fld v 8 5, if fld v 0 5 = 0x1F then 20 else fld v 0 5)

/-- A write to `swap_cmd`. -/
def Device.swapCmd (d : Device) (p ses v : Nat) : Device :=
  let t : Target := ⟨.swapCmd, p, 0⟩
  let k := kiteOf (d.sel .kiteSel p 0 ses)
  if v = 1 then
    if k.2 < 20 && d.handOverOk p k.1 k.2 then (d.handOver p k.1 k.2 false false).cmdReads t ses 1 else d.cmdReads t ses 3
  else
    if k.2 < 20 && d.returnOk p k.1 k.2 then (d.returnFrom p k.1 k.2).cmdReads t ses 1 else d.cmdReads t ses 3

/-- Rows and columns that `kite_sel` takes (Table 4.5). -/
def kiteSelOk (v : Nat) : Bool := fld v 8 5 < 20 && (fld v 0 5 < 20 || fld v 0 5 = 0x1F)

/-! ### Spray sets (R79, R80) -/

/-- The members of a spray set by position, 0xFF where empty. -/
def Device.sprayMembers (d : Device) (p set : Nat) : List Nat := octetList 32 8 (d.get .sprayMembers p set)

/-- Whether an attachment is UP: a fabric port in UP or in a bypass window, a long-haul port in its bundle's working order. -/
def Device.portUp (d : Device) (p sw : Nat) : Bool :=
  match linePortOf sw with
  | none => true
  | some o => if o < 128 then d.get .portState p o = 4 || (d.port p o).window else d.get .lhState p (o - 128) = 5

/-- Whether a line port is fenced (R35). -/
def Device.portFenced (d : Device) (p sw : Nat) : Bool :=
  match linePortOf sw with
  | none => false
  | some o => if o < 128 then (d.port p o).fenced else d.get .lhState p (o - 128) = 6

/-- `spray_live`: members that are UP and not fenced (R79). -/
def Device.sprayLive (d : Device) (p set : Nat) : Nat :=
  ofBits ((List.range 32).filter (fun k =>
    let m := nth (d.sprayMembers p set) k
    m ≠ 0xFF && d.portUp p m && !d.portFenced p m))

/-- A value that `spray_members` takes (Table 4.5). -/
def sprayOk (v : Nat) : Bool :=
  let m := (octetList 32 8 v).filter (· ≠ 0xFF)
  distinct m && m.all (fun x => x < 128 || x = 128 || x = 132 || x = 136 || x = 140)

/-- A write to `spray_members` (R79, R89): one change, and the last choice becomes member 31. -/
def Device.sprayWrite (d : Device) (p set v : Nat) : Device × Bool :=
  let r := d.store .sprayMembers p set v
  if r.2 then ({ r.1 with spray := Tbl.erase r.1.spray (p, set) }, true) else r

/-- Rules of the thresholds (Table 4.5). -/
def Device.ecnMinOk (d : Device) (p v : Nat) : Bool :=
  (List.range 8).all (fun c => octet 8 16 v c < octet 8 16 (d.get .ecnMax p 0) c)
/-- The same for `ecn_max`. -/
def Device.ecnMaxOk (d : Device) (p v : Nat) : Bool :=
  (List.range 8).all (fun c => octet 8 16 (d.get .ecnMin p 0) c < octet 8 16 v c && octet 8 16 v c ≤ 2048)

/-- Attachments that a unicast route may name. -/
def routeOk (v : Nat) : Bool :=
  fld v 30 2 ≠ 3 && (fld v 30 2 ≠ 1 || (linePortOf (fld v 0 8)).isSome)

/-- A value that `mcast_set` takes: only attachments' lowest ports (R88). Byte k bit j is switch port 8 k + j. -/
def mcastOk (v : Nat) : Bool :=
  (List.range 160).all (fun sw => !bit (octet 20 8 v (sw / 8)) (sw % 8) || isAttachment sw)

/-- The switch ports in a multicast set. -/
def mcastPorts (v : Nat) : List Nat := (List.range 160).filter (fun sw => bit (octet 20 8 v (sw / 8)) (sw % 8))

/-! ### Commands -/

/-- INTERNAL_INPUT_WRITE. -/
def execInternalInputWrite (p : Plane) (a : Attach) (s : State) : Res := s.carry p (fun d => d.writeHeld p a.sw)
/-- MOVE_PARKED_FRAME. -/
def execMoveParkedFrame (p : Plane) (row col : Group) (s : State) : Res := s.carry p (fun d => d.moveParked p row col)
/-- MAKE_DEFERRED_COPY. -/
def execMakeDeferredCopy (p : Plane) (row col : Group) (s : State) : Res := s.carry p (fun d => d.makeDeferred p row col)
/-- CELL_RELEASE: a target at its release point is released. -/
def execCellRelease (p : Plane) (copy : Nat) (o : Sink) (s : State) : Res :=
  s.carry p (fun d =>
    match d.copy? p copy with
    | some c => if c.due.contains o.sw then d.release p copy o.sw else d
    | none => d)
/-- KITE_SPARE_IN_SERVICE. -/
def execKiteSpareInService (p : Plane) (row : Group) (s : State) : Res := s.runOn p (fun d => (d.spareInService p row).startReturns p)
/-- HAND_OVER_TO_SPARE. -/
def execHandOverToSpare (p : Plane) (rq : Req) (s : State) : Res :=
  s.run (fun d => d.commandNow rq ⟨.swapCmd, p, 0⟩ 1 (fun d => d.swapCmd p rq.ses.val 1))
/-- RETURN_FROM_SPARE. -/
def execReturnFromSpare (p : Plane) (rq : Req) (s : State) : Res :=
  s.run (fun d => d.commandNow rq ⟨.swapCmd, p, 0⟩ 2 (fun d => d.swapCmd p rq.ses.val 2))
/-- KITE_DRAIN_COMPLETE. -/
def execKiteDrainComplete (p : Plane) (row : Group) (s : State) : Res := s.runOn p (fun d => (d.kiteDrained p row).startReturns p)
/-- SPRAY_MEMBERS_WRITE. -/
def execSprayMembersWrite (p : Plane) (v : BitVec 256) (rq : Req) (s : State) : Res :=
  s.run (fun d => d.request rq (fun d =>
    let t : Target := ⟨.sprayMembers, p, 0⟩
    d.doWrite rq ⟨t, 32, v.toNat⟩ (fun _ => sprayOk v.toNat) (fun d => d.sprayWrite p (d.place t rq.ses.val) v.toNat)))

end Sys2Proof.Machine
end

