-- ==== Sys2Proof/Machine/Lookup.lean ====
section
/-! DEFINITION. Output selection (spec/04 R78 to R80, R486), partitions (spec/02 R33) and group members (spec/08 R170, R171). -/

namespace Sys2Proof.Machine

/-! ### Partitions (R33) -/

/-- The partition of a switch port; none for the engine ports, which belong to every partition. -/
def Device.partitionOf (d : Device) (p sw : Nat) : Option Nat :=
  match linePortOf sw with
  | some o => some (if o < 128 then d.get .portPartition p o else d.get .lhPortPartition p (o - 128))
  | none => none

/-- Whether an output lies in the input's partition. -/
def Device.samePart (d : Device) (p input out : Nat) : Bool :=
  match d.partitionOf p input, d.partitionOf p out with
  | some a, some b => a = b
  | _, _ => true

/-! ### Spray sets (R79, R80) -/

/-- Cells queued for an output across its column (R79). -/
def Device.queuedCells (d : Device) (p o : Nat) : Nat :=
  total ((d.copiesOf p).map (fun e =>
    if e.2.stage = .queued && e.2.wait.contains o then (match d.frame? p e.2.fid with | some f => f.cells | none => 0) else 0))

/-- Positions of the live members for an input. -/
def Device.liveFor (d : Device) (p set input : Nat) : List Nat :=
  (bitsOf 32 (d.sprayLive p set)).filter (fun k => d.samePart p input (nth (d.sprayMembers p set) k))

/-- The member of a SPRAY_DATA frame (R79): fewest cells queued, ties to the first live member after the last choice. -/
def Device.sprayPick (d : Device) (p set input : Nat) : Option (Device × Nat) :=
  let live := d.liveFor p set input
  let last := Tbl.get d.spray (p, set) 31
  let order := live.filter (fun k => last < k) ++ live.filter (fun k => k ≤ last)
  match argMin (fun k => d.queuedCells p (nth (d.sprayMembers p set) k)) order with
  | none => none
  | some k => some ({ d with spray := Tbl.put Ix.lt d.spray (p, set) k 31 }, nth (d.sprayMembers p set) k)

/-- The member of any other frame (R80). -/
def Device.sprayHash (d : Device) (p set input : Nat) (f : Frame) : Option Nat :=
  let live := d.liveFor p set input
  if live = [] then none
  else some (nth (d.sprayMembers p set) (nth live ((f.srcDevice + f.srcPort + f.destPort + f.tenant + f.cls) % live.length)))

/-! ### Multicast sets of groups (spec/08 R171) -/

/-- Write a multicast set from the LINK fields of a group's live members (R171); none where a LINK is missing or repeated. -/
def Device.fillSet (d : Device) (p g set : Nat) : Option Device :=
  let links := (d.liveMembers p g).map (fun m => memLink (d.member p g m))
  if links.any (fun l => l > 0x83) || !distinct links then none
  else
    let v := (links.map linkSw).foldl (fun v sw => setOctet 20 8 v (sw / 8) (setBit (octet 20 8 v (sw / 8)) (sw % 8))) 0
    some (d.set .mcastSet p set v)

/-! ### Row 5: DEST_PORT 0xFE (R486) -/

/-- Step word `i` of a slot. -/
def Device.stepWord (d : Device) (p sl i : Nat) : Nat := d.get .slotStep p (sl * 256 + i)
/-- KIND of a step word (Table 8.1). -/
def stKind (v : Nat) : Nat := fld v 59 5
/-- TPL. -/
def stTpl (v : Nat) : Nat := fld v 57 2
/-- SYNC. -/
def stSync (v : Nat) : Nat := fld v 43 14
/-- RCTX. -/
def stRctx (v : Nat) : Nat := fld v 32 11
/-- AUX. -/
def stAux (v : Nat) : Nat := fld v 20 12
/-- VALUE. -/
def stValue (v : Nat) : Nat := fld v 0 20

/-- Slots that are RUNNING or REWINDING. -/
def Device.activeSlots (d : Device) (p : Nat) : List Nat :=
  (d.slots.filter (fun e => e.1.1 = p)).map (·.1.2) |>.filter (fun sl => d.get .slotState p sl = 2 || d.get .slotState p sl = 3)

/-- The BROADCAST relay for a context (R163, R486), set up until its step completes: slot, step and multicast set. -/
def Device.relayFor (d : Device) (p ctx : Nat) : Option (Nat × Nat × Nat) :=
  ((d.activeSlots p).flatMap (fun sl => (List.range (d.get .slotLength p sl)).map (fun i => (sl, i)))).findSome? (fun e =>
    let w := d.stepWord p e.1 e.2
    if stKind w = 8 && stRctx w = ctx && d.get .slotStepNow p e.1 ≤ e.2 then
      some (e.1, e.2, stAux w)
    else none)

/-- Whether a context was launched by an XSITE step (R197). -/
def Device.byXsite (d : Device) (p x : Nat) : Bool :=
  let c := d.rctx p x
  d.get .rctxState p x ≠ 0 && stKind (d.stepWord p c.slot c.step) = 6

/-! ### Selection (Table 4.3) -/

/-- What the lookup answers. -/
inductive Route where
  /-- into the crosspoint array toward these switch ports; a group whose members' addresses the copies take -/
  | to (outs : List Nat) (grp : Option Nat)
  /-- handed to a unit at lookup without entering the array: the unit's number in the inbox -/
  | unit (u : Nat)
  /-- no route, counted in `route_miss` -/
  | miss
  /-- a reduction frame without a context or relay (R486) -/
  | noContext
  deriving DecidableEq, Repr

/-- Inbox numbers of units that have no switch port: the collective sequencer. -/
def unitSeq : Nat := 300

/-- The switch ports in a multicast set. -/
def Device.setPorts (d : Device) (p set : Nat) : List Nat := mcastPorts (d.get .mcastSet p set)

/-- The ALLGATHER or DISPATCH step that runs now in a slot, by kind. -/
def Device.runsStep (d : Device) (p sl kind : Nat) : Bool :=
  d.get .slotState p sl = 2 && stKind (d.stepWord p sl (d.get .slotStepNow p sl)) = kind

/-- The slot in which the DISPATCH step of a table runs (R178). -/
def Device.dispatchSlot (d : Device) (p tbl : Nat) : Option Nat :=
  (d.activeSlots p).find? (fun sl => d.runsStep p sl 0x0B && stAux (d.stepWord p sl (d.get .slotStepNow p sl)) = tbl)

/-- Row 5 of Table 4.3 by opcode (R486). -/
def Device.route5 (d : Device) (p : Nat) (f : Frame) : Route :=
  let x := f.context
  if f.opcode = opRedContrib || f.opcode = opExpAnchor || f.opcode = opCombine then
    if x > 0x7FF || d.get .rctxState p x = 0 then .noContext
    else if f.opcode = opRedContrib && f.format = 0x20 && d.byXsite p x then .to [144] none
    else .to [200 + fld (d.get .rctxDesc p x) 47 5] none
  else if f.opcode = opRedResult then
    match d.relayFor p x with
    | some (sl, _, set) => .to (d.setPorts p set) (some (d.get .slotGroup p sl))
    | none => .noContext
  else if f.opcode = opCkptWrite || f.opcode = opCkptRead || f.opcode = opCkptData then .to [152] none
  else if f.opcode = opStateCopy then .to [156] none
  else .unit unitSeq

/-- The output of a frame (Table 4.3); `input` is a switch port. -/
def Device.route (d : Device) (p input : Nat) (f : Frame) : Device × Route :=
  let here := f.destDevice = d.devId p
  if (f.opcode = opCkptWrite || f.opcode = opCkptRead) && here && f.destPlane = p then
    (d, if input < 128 then .unit 152 else .to [152] none)
  else if !here then
    let e := d.get .routeEntry p f.destDevice
    if fld e 30 2 = 1 then (d, .to [fld e 0 8] none)
    else if fld e 30 2 = 2 then
      if f.opcode = opSpray then
        match d.sprayPick p (fld e 8 8) input with
        | some r => (r.1, .to [r.2] none)
        | none => (d, .miss)
      else
        match d.sprayHash p (fld e 8 8) input f with
        | some o => (d, .to [o] none)
        | none => (d, .miss)
    else (d, .miss)
  else if f.destPort < 0x80 then (d, .to [f.destPort] none)
  else if f.destPort < 0x84 then (d, .to [128 + 4 * (f.destPort - 0x80)] none)
  else if f.destPort = 0xFE then (d, d.route5 p f)
  else if f.destPort = 0xFF then (d, .to [157] none)
  else (d, .miss)

/-- Count a route miss and raise its cause (unit 0, spec/18 Table 18.2). -/
def Device.routeMiss (d : Device) (p : Nat) : Device := (d.bump .routeMiss p 0).causeSwitch p 0 0

/-- Send a frame that a unit of the plane makes, through its internal input (R64, R71): unicast by Table 4.3. -/
def Device.sendOwn (d : Device) (p input : Nat) (f : Frame) (ctx : Option Nat := none) : Device :=
  let r := d.route p input f
  match r.2 with
  | .to outs g => if outs = [] then r.1.bump .mcastOmitted p 0 else r.1.hold p input f outs g ctx
  | .unit u => { r.1 with inbox := r.1.inbox ++ [(p, u, input, f)] }
  | .miss => r.1.routeMiss p
  | .noContext => r.1.bump .redNoContext p 0

/-- Send a frame of a unit to a multicast set (R76, R77). -/
def Device.sendSet (d : Device) (p input set : Nat) (g : Option Nat) (f : Frame) (ctx : Option Nat := none) : Device :=
  let outs := d.setPorts p set
  if outs = [] then d.bump .mcastOmitted p 0 else d.hold p input f outs g ctx

/-- A frame that column reducer c hands straight to outputs of its own group (spec/01 1.3): it waits there in its class, in
no kite. -/
def Device.sendDirect (d : Device) (p c : Nat) (f : Frame) (outs : List Nat) (g ctx : Option Nat) : Device :=
  let a := d.newId
  let b := a.2.newId
  let s := b.2.newId
  let fr : FrameRec := { plane := p, input := 500 + c, frame := f, cls := f.cls, tenant := f.tenant, cells := f.cells,
                         charged := false, credit := none, grp := g, ctx := ctx }
  let cp : Copy := { plane := p, fid := a.1, row := 20, col := c, stage := .queued, place := [], wait := outs, sentTo := [],
                     due := [], seq := s.1, at_ := d.clock, moved := false, charged := false }
  (s.2.setFrame p a.1 fr).setCopy p b.1 cp

/-- Whether column group c holds every one of some outputs. -/
def allInGroup (c : Nat) (outs : List Nat) : Bool := outs ≠ [] && outs.all (fun o => group o = c)

/-- Send a result of column reducer c to a multicast set: straight to outputs of its own group, or through the re-injection
port `input` (spec/01 1.3). -/
def Device.resultToSet (d : Device) (p c input set : Nat) (g : Option Nat) (f : Frame) (ctx : Option Nat) : Device :=
  let outs := d.setPorts p set
  if allInGroup c outs then d.sendDirect p c f outs g ctx else d.sendSet p input set g f ctx

/-- Send a result of column reducer c by its header, by the same rule. -/
def Device.resultByHeader (d : Device) (p c input : Nat) (f : Frame) (ctx : Option Nat) : Device :=
  let r := d.route p input f
  match r.2 with
  | .to outs g => if allInGroup c outs then r.1.sendDirect p c f outs g ctx else d.sendOwn p input f ctx
  | _ => d.sendOwn p input f ctx

end Sys2Proof.Machine
end

