-- ==== Sys2Proof/Machine/Numerics.lean ====
section
/-! DEFINITION. Number formats, exact conversion, rounding and reduction payloads (spec/07_in-network reduction: R129 to R134,
R140, R143, R145 to R150; spec/09 R192, R193, R205). A number is held exactly as sign, magnitude and power of two. -/

namespace Sys2Proof.Machine

/-- A number exactly: NaN, an infinity, or (−1)^neg · m · 2^e. -/
inductive Fp where
  | nan
  | inf (neg : Bool)
  | fin (neg : Bool) (m : Nat) (e : Int)
  deriving DecidableEq, Repr

/-- A binary format: exponent and significand field widths, and what its highest exponent holds: infinities and NaN (IEEE),
one NaN (E4M3), or plain numbers (E2M1). -/
structure Fmt where
  eb : Nat
  mb : Nat
  special : Nat
  deriving DecidableEq, Repr

/-- FP32. -/
def fmt32 : Fmt := ⟨8, 23, 2⟩
/-- BF16. -/
def fmtBf : Fmt := ⟨8, 7, 2⟩

/-- The element format of a format code (Table 7.1); none for the integer formats. -/
def fmtOf (code : Nat) : Option Fmt :=
  if code = 1 then some fmt32 else if code = 2 then some fmtBf else if code = 3 then some ⟨5, 10, 2⟩
  else if code = 4 || code = 6 then some ⟨4, 3, 1⟩ else if code = 5 || code = 7 then some ⟨5, 2, 2⟩
  else if code = 8 then some ⟨2, 1, 0⟩ else none

/-- Whether a code is an MX format. -/
def isMx (code : Nat) : Bool := code = 6 || code = 7 || code = 8
/-- Bits of an element (Table 7.1). -/
def elemBits (code : Nat) : Nat :=
  if code = 1 || code = 10 then 32 else if code = 2 || code = 3 then 16 else if code = 8 then 4 else 8
/-- Bytes of a dense body (Table 7.1). -/
def bodyBytes (code : Nat) : Nat := 4 * elemBits code + (if isMx code then 1 else 0)

/-- Bias of a format. -/
def Fmt.bias (f : Fmt) : Int := 2 ^ (f.eb - 1) - 1
/-- Significand bits with the hidden bit (Table 7.6). -/
def Fmt.p (f : Fmt) : Nat := f.mb + 1
/-- Exponent of the smallest normal value (Table 7.6). -/
def Fmt.emin (f : Fmt) : Int := 1 - f.bias

/-- The number that bits of a format encode. -/
def Fmt.decode (f : Fmt) (v : Nat) : Fp :=
  let s := bit v (f.eb + f.mb)
  let x := fld v f.mb f.eb
  let m := fld v 0 f.mb
  if f.special = 2 && x = 2 ^ f.eb - 1 then (if m = 0 then .inf s else .nan)
  else if f.special = 1 && x = 2 ^ f.eb - 1 && m = 2 ^ f.mb - 1 then .nan
  else if x = 0 then .fin s m (1 - f.bias - f.mb)
  else .fin s (m + 2 ^ f.mb) (Int.ofNat x - f.bias - f.mb)

/-- The number that an element of a format code encodes, without an MX scale. -/
def decodeElem (code v : Nat) : Fp :=
  match fmtOf code with
  | some f => f.decode v
  | none =>
    let i := toSigned (elemBits code) v
    .fin (decide (i < 0)) i.natAbs 0

/-- A number times 2^k. -/
def Fp.scale (x : Fp) (k : Int) : Fp :=
  match x with
  | .fin s m e => .fin s m (e + k)
  | x => x

/-- Exact product; 0 times an infinity is NaN. -/
def Fp.mul (x y : Fp) : Fp :=
  match x, y with
  | .nan, _ => .nan
  | _, .nan => .nan
  | .inf s, .inf t => .inf (xor s t)
  | .inf s, .fin t m _ => if m = 0 then .nan else .inf (xor s t)
  | .fin t m _, .inf s => if m = 0 then .nan else .inf (xor s t)
  | .fin s m e, .fin t n k => .fin (xor s t) (m * n) (e + k)

/-- Exact sum; a zero sum is −0 only where both are −0; infinities of unlike sign give NaN. -/
def Fp.add (x y : Fp) : Fp :=
  match x, y with
  | .nan, _ => .nan
  | _, .nan => .nan
  | .inf s, .inf t => if s = t then .inf s else .nan
  | .inf s, _ => .inf s
  | _, .inf t => .inf t
  | .fin s m e, .fin t n k =>
    let lo := min e k
    let a : Int := Int.ofNat (m * 2 ^ (e - lo).toNat) * (if s then -1 else 1)
    let b : Int := Int.ofNat (n * 2 ^ (k - lo).toNat) * (if t then -1 else 1)
    let c := a + b
    if c = 0 then .fin (s && t) 0 0 else .fin (decide (c < 0)) c.natAbs lo

/-- Negation. -/
def Fp.neg (x : Fp) : Fp :=
  match x with
  | .nan => .nan
  | .inf s => .inf (!s)
  | .fin s m e => .fin (!s) m e

/-- Whether a number is finite. -/
def Fp.finite (x : Fp) : Bool := match x with | .fin _ _ _ => true | _ => false
/-- Whether a number is a zero. -/
def Fp.isZero (x : Fp) : Bool := match x with | .fin _ 0 _ => true | _ => false

/-- ⌊log₂⌋ of a nonzero magnitude m · 2^e (R140). -/
def expOf (m : Nat) (e : Int) : Int := Int.ofNat m.log2 + e

/-- The rounding step: m · 2^e at a quantum of 2^x, to nearest with ties to even, or up where the fraction exceeds r / 2^32
(R146). -/
def roundAt (m : Nat) (e x : Int) (sr : Option Nat) : Nat × Int :=
  if x ≤ e then (m, e)
  else
    let k := (x - e).toNat
    let q := m / 2 ^ k
    let r := m % 2 ^ k
    let up := match sr with
      | some v => decide (r * 2 ^ 32 > v * 2 ^ k)
      | none => decide (2 * r > 2 ^ k) || (decide (2 * r = 2 ^ k) && decide (q % 2 = 1))
    (if up then q + 1 else q, x)

/-- Round a magnitude to a format (R146). -/
def Fmt.round (f : Fmt) (m : Nat) (e : Int) (sr : Option Nat) : Nat × Int :=
  if m = 0 then (0, 0) else roundAt m e (max (expOf m e) f.emin - f.p + 1) sr

/-- Largest finite value of a format as a field value (Table 7.6). -/
def Fmt.maxField (f : Fmt) : Nat :=
  if f.special = 2 then (2 ^ f.eb - 2) * 2 ^ f.mb + 2 ^ f.mb - 1
  else if f.special = 1 then (2 ^ f.eb - 1) * 2 ^ f.mb + 2 ^ f.mb - 2
  else 2 ^ (f.eb + f.mb) - 1

/-- Exponent and significand fields of a magnitude that the format's precision holds; it may lie beyond its range. -/
def Fmt.field (f : Fmt) (q : Nat) (x : Int) : Nat :=
  if q = 0 then 0
  else
    let ex := expOf q x
    if ex < f.emin then q * 2 ^ (x - (f.emin - f.mb)).toNat
    else
      let frac := if (f.mb : Int) ≥ Int.ofNat q.log2 then q * 2 ^ (f.mb - q.log2) else q / 2 ^ (q.log2 - f.mb)
      (ex + f.bias).toNat * 2 ^ f.mb + frac - 2 ^ f.mb

/-- Bits of a number rounded to a format, and whether the last column of Table 7.6 was taken; `sat` bounds infinities by the
largest finite value (R148). -/
def Fmt.encode (f : Fmt) (x : Fp) (sr : Option Nat) (sat : Bool) : Nat × Bool :=
  let sign := fun (s : Bool) => if s then 2 ^ (f.eb + f.mb) else 0
  let above := fun (s : Bool) =>
    (sign s + (if f.special = 2 && !sat then (2 ^ f.eb - 1) * 2 ^ f.mb else f.maxField), true)
  match x with
  | .nan => (if f.special = 2 then (2 ^ f.eb - 1) * 2 ^ f.mb + 2 ^ (f.mb - 1) else (2 ^ f.eb - 1) * 2 ^ f.mb + 2 ^ f.mb - 1, false)
  | .inf s => above s
  | .fin s m e =>
    let r := f.round m e sr
    let v := f.field r.1 r.2
    if f.maxField < v then above s else (sign s + v, false)

/-- An integer result of `w` bits (R146): to nearest even, saturated to the range; a NaN gives 0. -/
def encodeInt (w : Nat) (x : Fp) : Nat × Bool :=
  match x with
  | .nan => (0, true)
  | .inf s => (ofSigned w (if s then -(2 ^ (w - 1)) else 2 ^ (w - 1) - 1), true)
  | .fin s m e =>
    let r := roundAt m e 0 none
    let v : Int := Int.ofNat (r.1 * 2 ^ r.2.toNat) * (if s then -1 else 1)
    if v < -(2 ^ (w - 1)) then (ofSigned w (-(2 ^ (w - 1))), true)
    else if 2 ^ (w - 1) - 1 < v then (2 ^ (w - 1) - 1, true)
    else (ofSigned w v, false)

/-! ### binary32 (R150, R192) -/

/-- The number of binary32 bits. -/
def of32 (v : Nat) : Fp := fmt32.decode v
/-- Binary32 bits of a number, to nearest even; a NaN is 0x7FC00000. -/
def to32 (x : Fp) : Nat := (fmt32.encode x none false).1
/-- Sum of two binary32 values. -/
def add32 (a b : Nat) : Nat := to32 ((of32 a).add (of32 b))
/-- Difference of two binary32 values. -/
def sub32 (a b : Nat) : Nat := to32 ((of32 a).add (of32 b).neg)
/-- Product of two binary32 values. -/
def mul32 (a b : Nat) : Nat := to32 ((of32 a).mul (of32 b))

/-! ### Fixed point (R143) -/

/-- Whether a finite number fits anchor A; in a block without one only zeros do. -/
def Fp.inRange (x : Fp) (a : Option Int) : Bool :=
  match x, a with
  | .fin _ 0 _, _ => true
  | .fin _ m e, some a => decide (expOf m e < a + 1)
  | _, _ => false

/-- `to_fixed` (R143): ⌊x · 2^(50 − A)⌋. -/
def Fp.toFixed (x : Fp) (a : Int) : Int :=
  match x with
  | .fin s m e =>
    let k := e + 50 - a
    let v : Int := if s then -(Int.ofNat m) else Int.ofNat m
    if 0 ≤ k then v * 2 ^ k.toNat else v / 2 ^ (-k).toNat
  | _ => 0

/-- The number that a sum S at anchor A stands for. -/
def ofFixed (s a : Int) : Fp := .fin (decide (s < 0)) s.natAbs (a - 50)

/-- One round of `sr_bits`. -/
def srRound (x : Nat) : Nat :=
  let x := x ^^^ (x / 2 ^ 16)
  let x := x * 0x85EBCA6B % 2 ^ 32
  let x := x ^^^ (x / 2 ^ 13)
  let x := x * 0xC2B2AE35 % 2 ^ 32
  x ^^^ (x / 2 ^ 16)

/-- `sr_bits` (R147). -/
def srBits (seed ctx i : Nat) : Nat :=
  srRound (srRound (i % 2 ^ 32 ^^^ ctx * 0x9E3779B1 % 2 ^ 32 ^^^ seed % 2 ^ 32))

/-! ### Blocks (R130 to R132) -/

/-- A block of a payload: absent, zero, or a body with its format code, MX scale and elements (index, bits). -/
inductive Blk where
  | absent
  | zero
  | body (code : Nat) (scale : Option Nat) (elems : List (Nat × Nat))
  deriving DecidableEq, Repr

/-- The number of an element, its MX scale applied. -/
def blkElem (code : Nat) (scale : Option Nat) (v : Nat) : Fp :=
  match scale with
  | some 0xFF => .nan
  | some s => (decodeElem code v).scale (Int.ofNat s - 127)
  | none => decodeElem code v

/-- The elements of a block, in increasing index, as numbers. -/
def Blk.values (b : Blk) : List (Nat × Fp) :=
  match b with
  | .body c s es => es.map (fun e => (e.1, blkElem c s e.2))
  | _ => []

/-- Split the bits of packed elements of one format: whole bytes, or two per byte for MXFP4. -/
def unpackElems (code n : Nat) (b : Bytes) : List Nat :=
  let w := elemBits code
  if w = 4 then (List.range n).map (fun i => fld (beNat b (i / 2) 1) (if i % 2 = 0 then 4 else 0) 4)
  else (List.range n).map (fun i => beNat b (i * (w / 8)) (w / 8))

/-- Bytes of n packed elements. -/
def elemBytes (code n : Nat) : Nat := ceilDiv (n * elemBits code) 8

/-- The bytes of packed elements. -/
def packElems (code : Nat) (l : List Nat) : Bytes :=
  let w := elemBits code
  if w = 4 then
    (List.range (ceilDiv l.length 2)).map (fun j => BitVec.ofNat 8 (nth l (2 * j) * 16 + nth l (2 * j + 1)))
  else l.flatMap (natToBytes (w / 8))

/-- Read a dense body. -/
def parseDense (code : Nat) (b : Bytes) : Blk :=
  if isMx code then .body code (some (beNat b 0 1)) ((List.range 32).zip (unpackElems code 32 (b.drop 1)))
  else .body code none ((List.range 32).zip (unpackElems code 32 b))

/-- Read a sparse body (R132) and its length; none where it is cut short or an odd MXFP4 count lacks its zero nibble. -/
def parseSparse (code : Nat) (b : Bytes) : Option (Blk × Nat) :=
  let idx := bitsOf 32 (beNat b 0 4)
  let h := 4 + (if isMx code then 1 else 0)
  let n := h + elemBytes code idx.length
  if b.length < n then none
  else if elemBits code = 4 && idx.length % 2 = 1 && fld (beNat b (n - 1) 1) 0 4 ≠ 0 then none
  else some (.body code (if isMx code then some (beNat b 4 1) else none) (idx.zip (unpackElems code idx.length (b.drop h))), n)

/-- Read the bodies that a list of tags announces; the bytes must be used up. -/
def parseTagged : List Nat → Bytes → Option (List Blk)
  | [], b => if b = [] then some [] else none
  | t :: ts, b =>
    let code := fld t 0 6
    if bit t 6 then none
    else if code = 0x3C && !bit t 7 then (parseTagged ts b).map (Blk.zero :: ·)
    else if code = 0x3D && !bit t 7 then (parseTagged ts b).map (Blk.absent :: ·)
    else if 1 ≤ code && code ≤ 10 then
      if bit t 7 then
        match parseSparse code b with
        | some (k, n) => (parseTagged ts (b.drop n)).map (k :: ·)
        | none => none
      else if b.length < bodyBytes code then none
      else (parseTagged ts (b.drop (bodyBytes code))).map (parseDense code b :: ·)
    else none

/-- Read a run of dense bodies. -/
def parseRun (code : Nat) : Nat → Bytes → List Blk
  | 0, _ => []
  | n + 1, b => parseDense code b :: parseRun code n (b.drop (bodyBytes code))

/-- The blocks of a payload (R131); none where it is malformed. -/
def parseBlocks (format : Nat) (b : Bytes) : Option (List Blk) :=
  if 1 ≤ format && format ≤ 10 then
    let n := b.length / bodyBytes format
    if b.length % bodyBytes format ≠ 0 || n = 0 || n > 128 then none else some (parseRun format n b)
  else if format = 0x3F then
    let n := beNat b 0 2
    let tags := (b.drop 4).take n
    let h := ceilDiv (4 + n) 8 * 8
    if n = 0 || n > 128 || beNat b 2 2 ≠ 0 || b.length < h then none
    else if ((b.take h).drop (4 + n)).any (· ≠ 0) then none
    else parseTagged (tags.map (·.toNat)) (b.drop h)
  else none

/-- The tag of a block, dense or sparse. -/
def Blk.tag (b : Blk) (sparse : Bool) : Nat :=
  match b with
  | .absent => 0x3D
  | .zero => 0x3C
  | .body c _ _ => c + (if sparse then 128 else 0)

/-- The body of a block; sparse with the elements that are not +0. -/
def Blk.bytes (b : Blk) (sparse : Bool) : Bytes :=
  match b with
  | .body c s es =>
    let sc := match s with | some v => natToBytes 1 v | none => []
    if sparse then
      let nz := es.filter (fun e => e.2 ≠ 0)
      natToBytes 4 (ofBits (nz.map (·.1))) ++ sc ++ packElems c (nz.map (·.2))
    else sc ++ packElems c (es.map (·.2))
  | _ => []

/-- The payload of FORMAT 0x3F for blocks with their sparse marks. -/
def blocksPayload (l : List (Blk × Bool)) : Bytes :=
  let n := l.length
  let head := natToBytes 2 n ++ natToBytes 2 0 ++ l.map (fun x => BitVec.ofNat 8 (x.1.tag x.2))
  head ++ List.replicate (ceilDiv (4 + n) 8 * 8 - (4 + n)) 0 ++ l.flatMap (fun x => x.1.bytes x.2)

/-- Bytes of that payload. -/
def blocksLen (l : List (Blk × Bool)) : Nat :=
  ceilDiv (4 + l.length) 8 * 8 + total (l.map (fun x => (x.1.bytes x.2).length))

/-! ### Result blocks (R146, R148, R150) -/

/-- emax of an MX element format (R148). -/
def mxEmax (code : Nat) : Int := if code = 6 then 8 else if code = 7 then 15 else 2

/-- Round 32 sums to a result block of a format code, with the random values of its elements where SR is set; the second part
counts saturated elements. -/
def roundBlock (code : Nat) (xs : List Fp) (sr : Option (List Nat)) : Blk × Nat :=
  let rnd := fun (i : Nat) => sr.map (fun l => nth l i)
  let ix := List.range xs.length
  match fmtOf code with
  | none =>
    let r := xs.map (encodeInt (elemBits code))
    (.body code none (ix.zip (r.map (·.1))), (r.filter (·.2)).length)
  | some f =>
    if isMx code then
      if xs.any (· = .nan) then (.body code (some 0xFF) (ix.map (fun i => (i, 0))), 0)
      else
        let es := xs.filterMap (fun x => match x with | .fin _ m e => if m = 0 then none else some (expOf m e) | _ => none)
        let top := es.foldl (fun (a : Option Int) e => match a with | none => some e | some b => some (max b e)) none
        let x := match top with | none => 0 | some t => max (-127) (min 127 (t - mxEmax code))
        let r := (ix.zip xs).map (fun e => f.encode (e.2.scale (-x)) (rnd e.1) true)
        (.body code (some (x + 127).toNat) (ix.zip (r.map (·.1))), (r.filter (·.2)).length)
    else
      let r := (ix.zip xs).map (fun e => f.encode e.2 (rnd e.1) false)
      (.body code none (ix.zip (r.map (·.1))), (r.filter (·.2)).length)

/-- Whether every result of a block is +0 (R149); a NaN block is not. -/
def Blk.allZero (b : Blk) : Bool :=
  match b with
  | .body _ s es => s ≠ some 0xFF && es.all (fun e => e.2 = 0)
  | _ => false

/-- Results other than +0. -/
def Blk.nonZero (b : Blk) : Nat :=
  match b with
  | .body _ _ es => (es.filter (fun e => e.2 ≠ 0)).length
  | _ => 0

/-! ### The basis of the low-rank method (R205) -/

/-- Parity of the set bits of a number below 2^16. -/
def parity (v : Nat) : Bool := (bitsOf 16 v).length % 2 = 1

/-- Entry (c, j) of the basis: whether it is −1. -/
def basisNeg (seed iter t l c j : Nat) : Bool :=
  let n := 2 ^ l
  let h := srBits (seed ^^^ iter % 2 ^ 32) t 0
  let a := 2 * (srBits h 1 0 % (n / 2)) + 1
  let b := srBits h 2 0 % n
  let col := (a * j + b) % n
  xor (srBits h 3 c / 2 ^ 31 = 1) (parity (c &&& col))

/-- BF16 bits of a binary32 value by the expander (R193): values beyond the largest finite saturate, which is told. -/
def expandBf (v : Nat) : Nat × Bool := fmtBf.encode (of32 v) none true

end Sys2Proof.Machine
end

