-- ==== Sys2Proof/Machine/Reduce.lean ====
section
/-! DEFINITION. Reduction contexts (spec/07): launch, the reducer's checks and additions, results, aborts and restarts. What a
collective slot does with a context's events is in Collect.lean. -/

namespace Sys2Proof.Machine

/-! ### Descriptor (Table 7.3) -/

/-- MODE. -/
def dMode (v : Nat) : Nat := fld v 61 3
/-- SR. -/
def dSr (v : Nat) : Bool := bit v 60
/-- SPARSE_OUT. -/
def dSparse (v : Nat) : Bool := bit v 59
/-- WEIGHTED. -/
def dWeighted (v : Nat) : Bool := bit v 58
/-- OUT_FORMAT. -/
def dOut (v : Nat) : Nat := fld v 52 6
/-- COLUMN. -/
def dColumn (v : Nat) : Nat := fld v 47 5
/-- Contributors per block. -/
def dN (v : Nat) : Nat := fld v 35 12 + 1
/-- Blocks. -/
def dBlocks (v : Nat) : Nat := fld v 22 13 + 1
/-- STATIC_ANCHOR. -/
def dAnchor (v : Nat) : Int := toSigned 16 (fld v 0 16)

/-- `rctx_state` of a context (Table 7.4). -/
def Device.ctxState (d : Device) (p x : Nat) : Nat := d.get .rctxState p x
/-- Its descriptor. -/
def Device.ctxDesc (d : Device) (p x : Nat) : Nat := d.get .rctxDesc p x
/-- Whether it is in ANCHOR or ACCUMULATE. -/
def Device.ctxRuns (d : Device) (p x : Nat) : Bool := d.ctxState p x = 1 || d.ctxState p x = 2

/-- First state of a descriptor: ANCHOR with an anchor pass, ACCUMULATE otherwise. -/
def firstState (desc : Nat) : Nat := if dMode desc = 0 then 1 else 2

/-- Take or give back entries of a reducer (R128). -/
def Device.accFree (d : Device) (p c : Nat) : Nat := d.get .accFreeElements p c

/-! ### Launch (R137) -/

/-- Whether a reducer with some free entries takes a descriptor. -/
def Device.descFits (d : Device) (p desc free : Nat) : Bool :=
  dMode desc ≤ 2 && 1 ≤ dOut desc && dOut desc ≤ 10 && (!dSr desc || (4 ≤ dOut desc && dOut desc ≤ 8)) &&
    dBlocks desc ≤ 6144 && dColumn desc < 20 && 32 * dBlocks desc ≤ free &&
    d.get .reducerState p (dColumn desc) = 0 && (dMode desc ≠ 1 || (-256 ≤ dAnchor desc && dAnchor desc ≤ 255))

/-- Whether a reducer takes a descriptor for slot x. -/
def Device.descOk (d : Device) (p x desc : Nat) : Bool :=
  d.descFits p desc (d.accFree p (dColumn desc)) && d.ctxState p x = 0

/-- Launch a context for a slot's step; false where the descriptor is refused. -/
def Device.launchCtx (d : Device) (p x desc tenant seed slot step : Nat) : Device × Bool :=
  if !d.descOk p x desc then (d.bump .rctxRefused p 0, false)
  else
    let c := dColumn desc
    let d := d.set .accFreeElements p c (d.accFree p c - 32 * dBlocks desc)
    let d := ((d.set .rctxDesc p x desc).set .rctxTenant p x tenant).set .rctxSeed p x seed
    let d := (d.set .rctxAttempt p x ((d.get .rctxAttempt p x + 1) % 256)).set .rctxState p x (firstState desc)
    let d := ((d.set .rctxStatus p x 0).set .rctxBlocksDone p x 0).set .rctxAnchorNow p x
      (if dMode desc = 1 then fld desc 0 16 else 0)
    (d.setRctx p x { slot := slot, step := step, clearing := true, raiseBy := d.get .anchorRaise p 0,
                     restartMax := d.get .redRestartMax p 0, maxNz := d.get .sparseMaxNz p 0 }, true)

/-- Entries of a context that ends (R128). -/
def Device.giveBack (d : Device) (p x : Nat) : Device :=
  let desc := d.ctxDesc p x
  d.set .accFreeElements p (dColumn desc) (d.accFree p (dColumn desc) + 32 * dBlocks desc)

/-! ### Aborts (R151, R155, R156) -/

/-- What came of a context. -/
inductive CtxEvent where
  | none
  /-- every anchor is fixed (R141) -/
  | anchored
  /-- every result block has been emitted -/
  | done
  /-- in ABORTING, to restart -/
  | restarts
  | failed (status : Nat)
  deriving DecidableEq, Repr

/-- End a context FAILED (R155, R156); a `rctx_abort_cmd` in progress is done. -/
def Device.failCtx (d : Device) (p x status : Nat) : Device :=
  let d := (d.giveBack p x).set .rctxStatus p x status
  let d := if d.get .rctxAbortCmd p x = 1 then d.set .rctxAbortCmd p x 2 else d
  let c := d.rctx p x
  let d := d.setRctx p x { c with blocks := [], clearing := false, hold := 0, held := false, owes := false }
  ((d.set .rctxState p x 5).bump .redFailed p 0).causeCollective p 0 x

/-- Abort a context in ANCHOR or ACCUMULATE with a restart status; where `hold` is not 0 it stays in ABORTING: 1 for a group
re-formation (R186), 2 + ℓ until lane ℓ has its spare (R158). -/
def Device.abortCtx (d : Device) (p x status hold : Nat) : Device × CtxEvent :=
  if !d.ctxRuns p x then (d, .none)
  else
    let c := d.rctx p x
    let fault := status = 2 || status = 3
    let next := toSigned 16 (d.get .rctxAnchorNow p x) + c.raiseBy
    if status = 1 && next > 255 then (d.failCtx p x 0x16, .failed 0x16)
    else if (fault && c.faults ≥ c.restartMax) || c.restarts ≥ 255 then (d.failCtx p x 0x15, .failed 0x15)
    else
      let d := ((d.set .rctxStatus p x status).set .rctxState p x 4).set .rctxBlocksDone p x 0
      let keep := (stKind (d.stepWord p c.slot c.step) = 4 || stKind (d.stepWord p c.slot c.step) = 12)
      (d.setRctx p x { c with
        blocks := [], clearing := true, hold := if hold = 1 then 0 else hold, held := hold = 1, raise := status = 1,
        restarts := c.restarts + 1, faults := if fault then c.faults + 1 else c.faults,
        dest := if keep then c.dest else 0xFFFF }, .restarts)

/-- Restart a cleared context (R156): ATTEMPT rises by 1 and the first state returns. -/
def Device.restartCtx (d : Device) (p x : Nat) : Device :=
  let c := d.rctx p x
  let d := if c.raise then
      (d.set .rctxAnchorNow p x (ofSigned 16 (toSigned 16 (d.get .rctxAnchorNow p x) + c.raiseBy))).bump
        .redOverflowRestarts p 0
    else d
  let d := (d.set .rctxAttempt p x ((d.get .rctxAttempt p x + 1) % 256)).set .rctxState p x (firstState (d.ctxDesc p x))
  (d.setRctx p x { c with raise := false, hold := 0, held := false, owes := false, sentUp := none }).bump .redRestarts p 0

/-- Release a DONE or FAILED context to IDLE (R163). -/
def Device.releaseCtx (d : Device) (p x : Nat) : Device :=
  if d.ctxState p x = 3 || d.ctxState p x = 5 then (d.set .rctxState p x 0).setRctx p x {} else d

/-- Contexts that a slot has launched and not released. -/
def Device.slotCtxs (d : Device) (p sl : Nat) : List Nat :=
  (d.rctxs.filter (fun e => e.1.1 = p && e.2.slot = sl && d.ctxState p e.1.2 ≠ 0)).map (·.1.2)

/-- Whether a context is in ANCHOR, ACCUMULATE or ABORTING, but not held in ABORTING by a group re-formation (R163). -/
def Device.ctxOpen (d : Device) (p x : Nat) : Bool :=
  d.ctxRuns p x || (d.ctxState p x = 4 && !(d.rctx p x).held)

/-- End without restart every context of a slot that still runs, and release all of them (R163, R165); a context that a
re-formation holds in ABORTING stays. -/
def Device.dropCtxs (d : Device) (p sl : Nat) : Device :=
  (d.slotCtxs p sl).foldl (fun d x => (if d.ctxOpen p x then d.failCtx p x 4 else d).releaseCtx p x) d

/-! ### Blocks -/

/-- Block b of a context. -/
def RctxSt.blk (c : RctxSt) (b : Nat) : RBlk := Tbl.get c.blocks b {}
/-- Replace it. -/
def RctxSt.setBlk (c : RctxSt) (b : Nat) (v : RBlk) : RctxSt :=
  { c with blocks := Tbl.put (fun (a b : Nat) => decide (a < b)) c.blocks b v {} }

/-- The anchor of block b: the greatest report, or the static anchor in force. -/
def Device.blkAnchor (d : Device) (p x b : Nat) : Option Int :=
  if dMode (d.ctxDesc p x) = 1 then some (toSigned 16 (d.get .rctxAnchorNow p x)) else ((d.rctx p x).blk b).top

/-! ### Checks 5 to 9 and the addition (Table 7.5, R143, R144, R150) -/

/-- The WEIGHT of a COMBINE frame; 1 otherwise. -/
def frameWeight (f : Frame) : Fp := if f.opcode = opCombine then fmtBf.decode (beNat f.payload 0 2) else .fin false 1 0

/-- The blocks of a contribution with their numbers, or none where the payload is malformed (check 5). -/
def Device.contribution (d : Device) (p x : Nat) (f : Frame) : Option (List (Nat × Blk)) :=
  let body := if f.opcode = opCombine then f.payload.drop 8 else f.payload
  let pre := f.opcode ≠ opCombine || (f.payload.length ≥ 8 && beNat f.payload 2 6 = 0)
  if !pre || f.flowSeq % 65536 ≠ 0 || f.offset % 32 ≠ 0 then none
  else
    match parseBlocks f.format body with
    | none => none
    | some l =>
      if f.offset / 32 + l.length > dBlocks (d.ctxDesc p x) then none
      else some ((List.range l.length).map (fun i => f.offset / 32 + i) |>.zip l)

/-- The reports of an EXP_ANCHOR frame (R133): block and exponent, none for −32,768. -/
def Device.reports (d : Device) (p x : Nat) (f : Frame) : Option (List (Nat × Option Int)) :=
  let n := f.payload.length / 2
  let v := (List.range n).map (fun i => toSigned 16 (beNat f.payload (2 * i) 2))
  if f.payload.length % 2 ≠ 0 || n = 0 || f.offset % 32 ≠ 0 || f.flowSeq % 65536 ≠ 0 then none
  else if v.any (fun e => e ≠ -32768 && (e < -256 || 255 < e)) then none
  else if f.offset / 32 + n > dBlocks (d.ctxDesc p x) then none
  else some ((List.range n).map (fun i => f.offset / 32 + i) |>.zip (v.map (fun e => if e = -32768 then none else some e)))

/-- Greater of two reports. -/
def topOf (a b : Option Int) : Option Int :=
  match a, b with
  | none, b => b
  | a, none => a
  | some x, some y => some (max x y)

/-- Add one block to its entries. -/
def addBlk (v : RBlk) (float : Bool) (a : Option Int) (w : Fp) (weighted : Bool) (b : Blk) : RBlk :=
  let sums := match b with
    | .body _ _ _ =>
      b.values.foldl (fun s e =>
        let s := if s = [] then List.replicate 32 0 else s
        s.modify e.1 (fun t =>
          if float then
            Int.ofNat (add32 t.toNat (to32 (if weighted then e.2.mul w else e.2)))
          else toSigned 64 (ofSigned 64 (t + (e.2.mul w).toFixed (a.getD 0))))) v.sums
    | _ => v.sums
  { v with arrived := v.arrived + 1, present := v.present || b ≠ .absent, sums := sums }

/-- An MX block whose scale is 0xFF (check 8). -/
def Blk.badScale : Blk → Bool
  | .body _ s _ => s = some 0xFF
  | _ => false

/-- A reduction frame read from a kite (R139): the checks in order, then its effect. -/
def Device.reduceFrame (d : Device) (p : Nat) (f : Frame) : Device × CtxEvent :=
  let x := f.context
  let st := d.ctxState p x
  let desc := d.ctxDesc p x
  let n := dN desc
  let c := d.rctx p x
  let fail := fun (s : Nat) => (d.failCtx p x s, CtxEvent.failed s)
  if x > 0x7FF || !(st = 1 || st = 2 || st = 4) then (d.bump .redNoContext p 0, .none)
  else if f.tenant ≠ d.get .rctxTenant p x then ((d.bump .redTenantReject p 0).causeCollective p 2 x, .none)
  else if st = 4 || f.flowSeq / 65536 ≠ d.get .rctxAttempt p x then (d.bump .redStale p 0, .none)
  else if !((f.opcode = opExpAnchor && st = 1) || (f.opcode = opRedContrib && st = 2 && !dWeighted desc) ||
      (f.opcode = opCombine && st = 2 && dWeighted desc)) then fail 0x11
  else if f.opcode = opExpAnchor then
    match d.reports p x f with
    | none => fail 0x10
    | some l =>
      if l.any (fun r => (c.blk r.1).reports ≥ n) then fail 0x12
      else
        let c := l.foldl (fun c r =>
          let b := c.blk r.1
          c.setBlk r.1 { b with reports := b.reports + 1, top := topOf b.top r.2 }) c
        let d := d.setRctx p x c
        if (List.range (dBlocks desc)).all (fun b => (c.blk b).reports = n) then (d.set .rctxState p x 2, .anchored)
        else (d, .none)
  else
    match d.contribution p x f with
    | none => fail 0x10
    | some l =>
      let w := frameWeight f
      let weighted := f.opcode = opCombine
      let float := dMode desc = 2
      if l.any (fun r => (c.blk r.1).arrived ≥ n) then fail 0x12
      else if !float && (!w.finite || l.any (fun r => r.2.badScale || r.2.values.any (fun e => !e.2.finite))) then fail 0x14
      else if !float && l.any (fun r => r.2.values.any (fun e => !(e.2.mul w).inRange (d.blkAnchor p x r.1))) then
        if dMode desc = 0 then fail 0x13 else d.abortCtx p x 1 0
      else
        let c := l.foldl (fun c r => c.setBlk r.1 (addBlk (c.blk r.1) float (d.blkAnchor p x r.1) w weighted r.2)) c
        let added := (l.filter (fun r => match r.2 with | .body _ _ _ => true | _ => false)).length
        ((d.setRctx p x c).count .redBlocksAdded p 0 added |>.count .redBlocksSkipped p 0 (l.length - added), .none)

/-! ### Results (R145 to R150) -/

/-- The result of a complete block, whether it is sent sparse, and its saturated elements. -/
def Device.resultBlk (d : Device) (p x b : Nat) : (Blk × Bool) × Nat :=
  let desc := d.ctxDesc p x
  let v := (d.rctx p x).blk b
  if !v.present then ((.absent, false), 0)
  else
    let s := if v.sums = [] then List.replicate 32 0 else v.sums
    let xs := s.map (fun t => if dMode desc = 2 then of32 t.toNat else ofFixed t ((d.blkAnchor p x b).getD 0))
    let sr := if dSr desc then some ((List.range 32).map (fun i => srBits (d.get .rctxSeed p x) x (32 * b + i))) else none
    let r := roundBlock (dOut desc) xs sr
    if r.1.allZero then ((.zero, false), r.2)
    else ((r.1, dSparse desc && r.1.nonZero ≤ (d.rctx p x).maxNz &&
      (match r.1 with | .body _ s _ => decide (s ≠ some 0xFF) | _ => true)), r.2)

/-- Complete blocks from block b on, at most `fuel`. -/
def Device.readyRun (d : Device) (p x : Nat) : Nat → Nat → List Nat
  | 0, _ => []
  | fuel + 1, b =>
    if b < dBlocks (d.ctxDesc p x) && ((d.rctx p x).blk b).arrived = dN (d.ctxDesc p x) then b :: d.readyRun p x fuel (b + 1)
    else []

/-- Group result blocks into frames (R149): at most 128 blocks and 4,096 bytes, and closed at every multiple of `per`
elements where `per` is not 0 (R179). -/
def packBlocks (per : Nat) : List (Nat × Blk × Bool) → List (Nat × Blk × Bool) → List (List (Nat × Blk × Bool))
  | cur, [] => if cur = [] then [] else [cur]
  | cur, b :: r =>
    let next := cur ++ [b]
    let close := per ≠ 0 && b.1 * 32 % per = 0
    if cur ≠ [] && (cur.length ≥ 128 || blocksLen (next.map (·.2)) > 4096 || close) then cur :: packBlocks per [b] r
    else packBlocks per next r

/-- The nearest step before `i` of a kind in a slot's program. -/
def Device.stepBefore (d : Device) (p sl kind : Nat) : Nat → Option Nat
  | 0 => none
  | i + 1 => if stKind (d.stepWord p sl i) = kind then some i else d.stepBefore p sl kind i

/-- The ATTEMPT noted for a step. -/
def stepAtt (l : List (Nat × Nat)) (i : Nat) : Option Nat := (l.find? (fun e => e.1 = i)).map (·.2)

/-- A result frame of a context without its destination. -/
def Device.resultMk (d : Device) (p x : Nat) (l : List (Nat × Blk × Bool)) : Mk :=
  let b0 := (l.head?.map (·.1)).getD 0
  let first := b0 = 0
  let last := b0 + l.length = dBlocks (d.ctxDesc p x)
  { opcode := opRedResult, cls := 3, flags := (if first then 64 else 0) + (if last then 32 else 0),
    tenant := d.get .rctxTenant p x, destDevice := d.devId p, destPlane := p, destPort := 0xFE, format := 0x3F,
    srcDevice := d.devId p, srcPort := 0xFE, context := x, flowSeq := d.get .rctxAttempt p x * 65536, offset := b0 * 32 }

/-- Switch port of the reducer re-injection attachment. -/
def reinjectSw : Nat := 158

/-- Binary32 bits of a result block's elements; none for +0 elements (Table 9.5 step 1). -/
def Blk.to32s (b : Blk) : List Nat := b.values.map (fun e => to32 e.2)

/-- Send one frame's worth of result blocks to the context's destination. -/
def Device.sendResults (d : Device) (p x : Nat) (l : List (Nat × Blk × Bool)) : Device :=
  let c := d.rctx p x
  let m := d.resultMk p x l
  let pay := blocksPayload (l.map (·.2))
  let g := d.get .slotGroup p c.slot
  let col := dColumn (d.ctxDesc p x)
  if c.dest = 0xFFD then
    match d.stepBefore p c.slot 6 (d.get .slotStepNow p c.slot) with
    | some i =>
      let k := stValue (d.stepWord p c.slot i) % 256
      let s := d.cctx p k
      -- a restarted context emits its blocks again, each in its own place
      let b0 := (l.head?.map (·.1)).getD 0
      d.setCctx p k { s with shard := s.shard.take b0 ++ l.map (fun b => b.2.1.to32s) ++ s.shard.drop (b0 + l.length),
                             place := dOut (d.ctxDesc p x) }
    | none => d
  else if c.dest = 0xFFE then
    match d.stepBefore p c.slot 5 (d.get .slotStepNow p c.slot) with
    | some i =>
      let w := d.stepWord p c.slot i
      match stepAtt (d.slot p c.slot).upReports i with
      | some att =>
        let d := d.setRctx p x { c with sentUp := some (stAux w, stRctx w, att) }
        d.resultByHeader p col reinjectSw
          ({ m with opcode := opRedContrib, destDevice := stAux w, context := stRctx w, flowSeq := att * 65536 }.frame pay) (some x)
      | none => d
    | none => d
  else if c.dest = 0x1000 then
    let per := d.get .dispOriginTokens p x * d.get .dispTokenElems p x
    let v := d.member p g (((l.head?.map (·.1)).getD 0) * 32 / per)
    d.resultByHeader p col reinjectSw ({ m with destDevice := memDevice v, destPort := memPort v }.frame pay) (some x)
  -- a REDUCE step names one of the sets 0x000–0xFFC, a REMOTE_REDUCE step any set (0x2000 + AUX)
  else d.resultToSet p col reinjectSw (c.dest % 4096) (some g) (m.frame pay) (some x)

/-- Emit every complete block in order (R149); the context is DONE after the last. -/
def Device.emitResults (d : Device) (p x : Nat) : Device × CtxEvent :=
  let c := d.rctx p x
  if d.ctxState p x ≠ 2 || c.dest = 0xFFFF || c.clearing then (d, .none)
  else
    let b0 := d.get .rctxBlocksDone p x
    let ready := d.readyRun p x 6144 b0
    let res := ready.map (fun b => (b, d.resultBlk p x b))
    let d := d.count .outSaturated p 0 (total (res.map (fun r => r.2.2)))
    let per := if c.dest = 0x1000 then d.get .dispOriginTokens p x * d.get .dispTokenElems p x else 0
    let d := (packBlocks per [] (res.map (fun r => (r.1, r.2.1)))).foldl (fun d l => d.sendResults p x l) d
    let d := d.set .rctxBlocksDone p x (b0 + ready.length)
    if b0 + ready.length = dBlocks (d.ctxDesc p x) then
      let c := d.rctx p x
      (((d.giveBack p x).set .rctxState p x 3).setRctx p x { c with blocks := [] }, .done)
    else (d, .none)

/-! ### Lost frames (Table 7.8 status 0x02) -/

/-- The context that a frame lost in a kite failure aborts with status 0x02 (Table 7.8): its own where it was on its way to the
context's own reducer (a record bound for the matrix engine is not, and a frame of another tenant is none of the context's), or
that of a result which the local reducer emitted while the context accumulates. -/
def Device.lostCtx (d : Device) (p : Nat) (f : FrameRec) : Option Nat :=
  let g := f.frame
  let x := g.context
  match f.ctx with
  | some x => if d.ctxState p x = 2 then some x else none
  | none =>
    if g.destDevice = d.devId p && g.destPort = 0xFE && x ≤ 0x7FF &&
        (g.opcode = opRedContrib || g.opcode = opExpAnchor || g.opcode = opCombine) &&
        !(g.opcode = opRedContrib && g.format = 0x20 && d.byXsite p x) && g.tenant = d.get .rctxTenant p x && d.ctxRuns p x then
      some x
    else none

end Sys2Proof.Machine
end

