-- ==== Sys2Proof/Machine/Compress.lean ====
section
/-! DEFINITION. Compression contexts and the matrix engine's work (spec/09): start, units, records, commit. What the collective
slot does with a failure is in Collect.lean. -/

namespace Sys2Proof.Machine

/-! ### Descriptor (Table 9.4) -/

/-- METHOD. -/
def cMethod (v : Nat) : Nat := fld v 61 3
/-- EF. -/
def cEf (v : Nat) : Bool := bit v 60
/-- WIRE_FORMAT. -/
def cWire (v : Nat) : Nat := fld v 54 6
/-- EXP_FORMAT. -/
def cExp (v : Nat) : Nat := fld v 48 6
/-- RANK. -/
def cRank (v : Nat) : Nat := fld v 40 8
/-- LOG2_COLS. -/
def cLog (v : Nat) : Nat := fld v 36 4
/-- Tile height m. -/
def cHeight (v : Nat) : Nat := fld v 24 12 + 1
/-- KEEP. -/
def cKeep (v : Nat) : Nat := fld v 16 8

/-- Whether the fields of a descriptor lie within Table 9.4, for S blocks (R199). -/
def cctxDescOk (v s : Nat) : Bool :=
  cMethod v ≤ 3 && fld v 0 16 = 0 && !(cEf v && cMethod v = 0) &&
    (cMethod v ≠ 1 || (cWire v = 2 && (cExp v = 1 || cExp v = 2) && 6 ≤ cLog v && cLog v ≤ 12 && cRank v % 8 = 0 &&
      8 ≤ cRank v && cRank v ≤ 128 && cRank v ≤ 2 ^ cLog v / 2 && 32 * s % 2 ^ cLog v = 0)) &&
    (cMethod v ≠ 2 || (1 ≤ cWire v && cWire v ≤ 8 && 1 ≤ cKeep v)) &&
    (cMethod v ≠ 3 || (4 ≤ cWire v && cWire v ≤ 8))

/-- Descriptor, S and C of a compression context. -/
def Device.cDesc (d : Device) (p k : Nat) : Nat := d.get .cctxDesc p k
/-- S. -/
def Device.cBlocks (d : Device) (p k : Nat) : Nat := d.get .cctxShardBlocks p k
/-- C. -/
def Device.cChunks (d : Device) (p k : Nat) : Nat := d.get .cctxChunks p k

/-! ### Residual store (R210, R211) -/

/-- Elements of a span. -/
def spanElems : Nat := 16384

/-- A span of a compression context. -/
def CctxSt.span (c : CctxSt) (s : Nat) : SpanSt := Tbl.get c.spans s {}
/-- Replace it. -/
def CctxSt.setSpan (c : CctxSt) (s : Nat) (v : SpanSt) : CctxSt :=
  { c with spans := Tbl.put (fun (a b : Nat) => decide (a < b)) c.spans s v {} }

/-- The old bank of the running chunk. -/
def CctxSt.oldBank (c : CctxSt) : Nat := if bit c.banks c.chunk then 1 else 0

/-- The buffer of a bank of a span. -/
def SpanSt.buf (s : SpanSt) (bank : Nat) : Option Nat := if bank = 0 then s.b0 else s.b1

/-- The old residual of element x (Table 9.5 step 2). -/
def CctxSt.resOld (c : CctxSt) (x : Nat) : Nat :=
  let s := c.span (x / spanElems)
  if (s.buf c.oldBank).isNone || s.zero.contains c.chunk then 0 else Tbl.get c.vals (2 * x + c.oldBank) 0

/-- Write the new residual of element x. -/
def CctxSt.putRes (c : CctxSt) (x v : Nat) : CctxSt :=
  { c with vals := Tbl.put (fun (a b : Nat) => decide (a < b)) c.vals (2 * x + (1 - c.oldBank)) v 0 }

/-- Buffers of the residual store and the projection, as the objects count them. -/
def Device.noteCctx (d : Device) (p k : Nat) : Device :=
  let c := d.cctx p k
  let n := total (c.spans.map (fun e => (if e.2.b0.isSome then 1 else 0) + (if e.2.b1.isSome then 1 else 0)))
  (d.set .cctxResBuffers p k n).set .cctxProjBuffers p k c.proj.length

/-- See that the new bank of a span has its buffer; a refused allocation marks the span for this launch (R211). -/
def Device.needSpan (d : Device) (p k s : Nat) : Device :=
  let c := d.cctx p k
  let bank := 1 - c.oldBank
  if ((c.span s).buf bank).isSome || c.refused.contains s then d
  else
    let r := d.alloc p 2 (requester (d.get .cctxTenant p k))
    match r.2 with
    | some b =>
      let sp := c.span s
      (r.1.setCctx p k (c.setSpan s (if bank = 0 then { sp with b0 := some b } else { sp with b1 := some b }))).noteCctx p k
    | none => r.1.setCctx p k { c with refused := c.refused ++ [s] }

/-! ### Load and clear (R199) -/

/-- The requester that holds a buffer of pool 2: the tenant that the compression context had when it was allocated (R210). -/
def Device.resHolder (d : Device) (p k b : Nat) : Nat :=
  match (d.pool p 2).owners.find? (fun o => o.1 = b) with
  | some o => o.2
  | none => requester (d.get .cctxTenant p k)

/-- Free the residual buffers of a compression context. -/
def Device.freeResiduals (d : Device) (p k : Nat) : Device :=
  let c := d.cctx p k
  let l := c.spans.flatMap (fun e => e.2.b0.toList ++ e.2.b1.toList)
  let d := l.foldl (fun d b => d.free p 2 (d.resHolder p k b) b) d
  (d.setCctx p k { c with spans := [], vals := [], banks := 0, refused := [], written := [] }).noteCctx p k

/-- A write to `cctx_cmd`. That a context is loaded is kept in the journal, since it stays LOADED over an initialisation (R199;
assumption log 21). -/
def Device.cctxCmd (d : Device) (p ses v : Nat) : Device :=
  let t : Target := ⟨.cctxCmd, p, 0⟩
  let k := d.place t ses
  let st := d.get .cctxState p k
  let tn := d.get .cctxTenant p k
  if v = 1 then
    if st = 0 && tn ≠ 0xFFFF && tn ≠ 0 && cctxDescOk (d.cDesc p k) (d.cBlocks p k) then
      let r := d.journal [(⟨.cctxState, p, k⟩, 1)]
      if r.2 then (r.1.set .cctxState p k 1).cmdReads t ses 2 else r.1.cmdReads t ses 3
    else d.cmdReads t ses 3
  else if st = 2 then d.cmdReads t ses 3
  else
    let r := d.journal [(⟨.cctxState, p, k⟩, 0)]
    if r.2 then ((r.1.freeResiduals p k).set .cctxState p k 0).cmdReads t ses 2 else r.1.cmdReads t ses 3

/-! ### Start, restart and end of a launch (R200, R201, R204) -/

/-- Buffers of pool 3 that a launch on chunk `chunk` needs (R201). -/
def Device.projNeed (d : Device) (p k chunk : Nat) : Nat :=
  let v := d.cDesc p k
  let n := 2 ^ cLog v
  let first := chunk * 32 * d.cBlocks p k / n / cHeight v
  let last := ((chunk + 1) * 32 * d.cBlocks p k - 1) / n / cHeight v
  if cMethod v = 1 then ceilDiv ((last - first + 1) * 2 * n * cRank v) 65536 else 0

/-- Allocate n buffers of pool 3, or none. -/
def Device.allocProj (d : Device) (p k : Nat) : Nat → List Nat → Device × Option (List Nat)
  | 0, acc => (d, some acc)
  | n + 1, acc =>
    let req := requester (d.get .cctxTenant p k)
    let r := d.alloc p 3 req
    match r.2 with
    | some b => r.1.allocProj p k n (b :: acc)
    | none => (r.1.freeAll p 3 req acc, none)

/-- XSITE_START: the engine's checks, and the context becomes ACTIVE (R201); false where it refuses. -/
def Device.cmpStart (d : Device) (p k slot step launch blocks : Nat) : Device × Bool :=
  let chunk := launch % d.cChunks p k
  -- with no tile left every XSITE step fails (spec/19 Table 19.2)
  if d.get .mxTilesInService p 0 = 0 || k ≥ 256 || d.get .cctxState p k ≠ 1 || d.get .cctxTenant p k ≠ d.get .slotTenant p slot ||
      d.cBlocks p k ≠ blocks then
    (d.bump .cmpRefused p 0, false)
  else
    let r := d.allocProj p k (d.projNeed p k chunk) []
    match r.2 with
    | none => (r.1.bump .cmpRefused p 0, false)
    | some l =>
      let d := r.1
      let c := d.cctx p k
      let d := d.setCctx p k { c with
        slot := slot, step := step, chunk := chunk, iter := launch / d.cChunks p k % 2 ^ 32, shard := [], unit := 0, rows := [],
        row0 := 0, proj := l, refused := [], written := [] }
      ((d.set .cctxState p k 2).noteCctx p k, true)

/-- Process the units again from the first (R204). -/
def Device.cmpRestart (d : Device) (p k : Nat) : Device :=
  d.setCctx p k { d.cctx p k with shard := [], unit := 0, rows := [], row0 := 0, written := [] }

/-- End a launch: the projection buffers are freed and the context is LOADED again. -/
def Device.cmpEnd (d : Device) (p k : Nat) : Device :=
  let c := d.cctx p k
  let d := d.freeAll p 3 (requester (d.get .cctxTenant p k)) c.proj
  let d := d.setCctx p k { c with proj := [], shard := [], rows := [], unit := 0, row0 := 0, refused := [], written := [] }
  (d.set .cctxState p k 1).noteCctx p k

/-- CCTX_COMMIT (R204, R211): the chunk's bank bit changes; refused spans hold +0. -/
def Device.cmpCommit (d : Device) (p k : Nat) : Device :=
  let c := d.cctx p k
  let c := c.written.foldl (fun c s => c.setSpan s { c.span s with zero := (c.span s).zero.filter (· ≠ c.chunk) }) c
  let c := c.refused.foldl (fun c s => c.setSpan s { c.span s with zero := (c.span s).zero.filter (· ≠ c.chunk) ++ [c.chunk] }) c
  let c := if cEf (d.cDesc p k) then { c with banks := putBit c.banks c.chunk (!bit c.banks c.chunk) } else c
  ((d.setCctx p k c).cmpEnd p k).bump .cctxCommits p k

/-- The compression contexts that are ACTIVE for a slot. -/
def Device.cmpActive (d : Device) (p sl : Nat) : List Nat :=
  (List.range 256).filter (fun k => d.get .cctxState p k = 2 && (d.cctx p k).slot = sl)

/-! ### Low-rank arithmetic (R206) -/

/-- A sum of ± terms in increasing order from +0 (R192). -/
def signedSum (l : List (Bool × Nat)) : Nat := l.foldl (fun a e => add32 a (if e.1 then to32 (of32 e.2).neg else e.2)) 0

/-- BF16 bits as binary32 bits. -/
def bfTo32 (v : Nat) : Nat := v * 65536

/-- The factor row of a row g of tile t (R206 steps 1 and 2): BF16 bits, and how many operands saturated. -/
def factorRow (seed iter t l r : Nat) (g : List Nat) : List Nat × Nat :=
  let x := g.map expandBf
  let n := g.length
  let m := (List.range r).map (fun j =>
    signedSum ((List.range n).map (fun c => (basisNeg seed iter t l c j, bfTo32 (nth (x.map (·.1)) c)))))
  (m.map (fun v => (fmtBf.encode (of32 v) none false).1), (x.filter (·.2)).length)

/-- The expansion of a factor row (R206 step 3) in a format: element bits. -/
def expandRow (seed iter t l r code : Nat) (m : List Nat) : List Nat :=
  let f := if code = 1 then fmt32 else fmtBf
  (List.range (2 ^ l)).map (fun c =>
    let s := signedSum ((List.range r).map (fun j => (basisNeg seed iter t l c j, bfTo32 (nth m j))))
    (f.encode (of32 (to32 ((of32 s).scale (-(l : Int))))) none false).1)

/-- Split a list into groups of n, at most `fuel`. -/
def chunksOf {α : Type} (n : Nat) : Nat → List α → List (List α)
  | 0, _ => []
  | fuel + 1, l => if l = [] then [] else l.take n :: chunksOf n fuel (l.drop n)

/-- Dense blocks of element bits in a format. -/
def denseBlks (code : Nat) (l : List Nat) : List Blk :=
  (chunksOf 32 6144 l).map (fun b => .body code none ((List.range b.length).zip b))

/-! ### Sending (R197, R202) -/

/-- Send blocks as RED_CONTRIB frames toward a device's context, dense in one format or, for code 0x3F, tagged. -/
def Device.sendContrib (d : Device) (p dev ctx att tenant code b0 : Nat) (l : List (Blk × Bool)) : Device :=
  let per := if code = 0x3F then 0 else min 128 (4096 / bodyBytes code)
  let groups := if code = 0x3F then (packBlocks 0 [] ((List.range l.length).map (· + b0) |>.zip l)).map (fun g => (g.map (·.2)))
    else chunksOf per 6144 l
  (groups.foldl (fun (s : Device × Nat) g =>
    let m : Mk := { opcode := opRedContrib, cls := 3, tenant := tenant, destDevice := dev, destPlane := p, destPort := 0xFE,
                    format := code, srcDevice := s.1.devId p, srcPort := 0xFE, context := ctx, flowSeq := att * 65536,
                    offset := s.2 * 32 }
    let pay := if code = 0x3F then blocksPayload g else g.flatMap (fun b => b.1.bytes false)
    (s.1.sendOwn p 144 (m.frame pay), s.2 + g.length)) (d, b0)).1

/-- Payload bytes of those frames. -/
def contribBytes (code : Nat) (l : List (Blk × Bool)) : Nat :=
  if code = 0x3F then total ((packBlocks 0 [] ((List.range l.length).zip l)).map (fun g => blocksLen (g.map (·.2))))
  else l.length * bodyBytes code

/-- Send the gathered factor rows as one LR_TILE record (R196). -/
def Device.sendRows (d : Device) (p k dev ctx att : Nat) : Device :=
  let c := d.cctx p k
  if c.rows = [] then d
  else
    let v := d.cDesc p k
    let h := c.chunk % 65536 * 2 ^ 112 + c.iter * 2 ^ 80 + cRank v * 2 ^ 72 + cLog v * 2 ^ 68 + c.rows.length * 2 ^ 58
    let m : Mk := { opcode := opRedContrib, cls := 3, tenant := d.get .cctxTenant p k, destDevice := dev, destPlane := p,
                    destPort := 0xFE, format := 0x20, srcDevice := d.devId p, srcPort := 0xFE, context := ctx,
                    flowSeq := att * 65536, offset := c.row0 * 2 ^ cLog v }
    let pay := natToBytes 16 h ++ c.rows.flatten
    let d := d.setCctx p k { c with rows := [], row0 := c.row0 + c.rows.length }
    (d.sendOwn p 144 (m.frame pay)).count .cmpBytesSent p 0 pay.length

/-! ### One unit (Table 9.5) -/

/-- Blocks of a unit: a row, a window or one block. -/
def unitBlocks (v s u : Nat) : Nat :=
  if cMethod v = 1 then 2 ^ cLog v / 32 else if cMethod v = 2 then min 256 (s - u * 256) else 1

/-- First block of unit u. -/
def unitFirst (v u : Nat) : Nat := if cMethod v = 1 then u * (2 ^ cLog v / 32) else if cMethod v = 2 then u * 256 else u

/-- ν of a block (R208). -/
def blockNorm (g : List Nat) : Nat := g.foldl (fun a x => add32 a (mul32 x x)) 0

/-- Kept blocks of a window (R208): positions of the ⌈KEEP · w / 256⌉ largest, ties to the lower. -/
def topBlocks (keep : Nat) (norms : List Nat) : List Nat :=
  let n := ceilDiv (keep * norms.length) 256
  let order := sortBy (fun (a b : Nat × Nat) => b.2 < a.2) ((List.range norms.length).zip norms)
  (order.take n).map (·.1)

/-- Round binary32 elements to a block of a format, to nearest even. -/
def roundTo (code : Nat) (g : List Nat) : Blk := (roundBlock code (g.map of32) none).1

/-- What a unit becomes: the blocks for the partner with their format code, the local blocks with theirs, the factor row, the
expansion e as binary32 bits per element, and operands saturated. -/
structure UnitOut where
  code : Nat
  sent : List (Blk × Bool)
  localCode : Nat
  kept : List (Blk × Bool)
  factor : List Nat
  e : List Nat
  sat : Nat

/-- Elements of a block as 32 binary32 values, +0 for those it does not hold. -/
def Blk.dense32 (b : Blk) : List Nat :=
  let v := b.values
  (List.range 32).map (fun i => match v.find? (fun e => e.1 = i) with | some e => to32 e.2 | none => 0)

/-- Compress the elements g of a unit (R206, R208, R209); `plain` sends it uncompressed (R211). -/
def Device.compressG (d : Device) (p k row : Nat) (plain : Bool) (g : List Nat) : UnitOut :=
  let v := d.cDesc p k
  let c := d.cctx p k
  let blocks := chunksOf 32 6144 g
  if plain || cMethod v = 0 then
    let f := c.place
    let l := blocks.map (fun b => (roundTo f b, false))
    ⟨f, l, f, l, [], l.flatMap (fun b => b.1.dense32), 0⟩
  else if cMethod v = 1 then
    let t := row / cHeight v
    let seed := d.get .cctxSeed p k
    let m := factorRow seed c.iter t (cLog v) (cRank v) g
    let e := expandRow seed c.iter t (cLog v) (cRank v) (cExp v) m.1
    let l := (denseBlks (cExp v) e).map (fun b => (b, false))
    ⟨0x20, [], cExp v, l, m.1, l.flatMap (fun b => b.1.dense32), m.2⟩
  else if cMethod v = 2 then
    let keep := topBlocks (cKeep v) (blocks.map blockNorm)
    let l := ((List.range blocks.length).zip blocks).map (fun b =>
      if keep.contains b.1 then
        let r := roundTo (cWire v) b.2
        (if r.allZero then Blk.zero else r, false)
      else (Blk.absent, false))
    ⟨0x3F, l, 0x3F, l, [], l.flatMap (fun b => b.1.dense32), 0⟩
  else
    let l := blocks.map (fun b => (roundTo (cWire v) b, false))
    ⟨cWire v, l, cWire v, l, [], l.flatMap (fun b => b.1.dense32), 0⟩

/-- Take the next unit of the REDUCE results through Table 9.5, once the partner's XREADY has come (R202). -/
def Device.cmpUnit (d : Device) (p k : Nat) : Device :=
  let c := d.cctx p k
  let v := d.cDesc p k
  let s := d.cBlocks p k
  let b0 := unitFirst v c.unit
  let nb := unitBlocks v s c.unit
  let x := stRctx (d.stepWord p c.slot c.step)
  match (d.slot p c.slot).xready with
  | none => d
  | some (pctx, patt) =>
    if d.get .cctxState p k ≠ 2 || s ≤ b0 || c.shard.length < b0 + nb || d.ctxState p x ≠ 2 then d
    else
      let ef := cEf v
      let e0 := c.chunk * 32 * s + b0 * 32
      let n := nb * 32
      let spans := (List.range ((e0 + n - 1) / spanElems - e0 / spanElems + 1)).map (· + e0 / spanElems)
      let d := if ef then spans.foldl (fun d sp => d.needSpan p k sp) d else d
      let c := d.cctx p k
      let plain := ef && spans.any (fun sp => c.refused.contains sp)
      let gs := (List.range nb).flatMap (fun i => let b := c.shard.getD (b0 + i) []; if b = [] then List.replicate 32 0 else b)
      -- the old residual is +0 with EF 0, so an element −0 becomes +0
      let g := ((List.range n).zip gs).map (fun e => add32 e.2 (if ef then c.resOld (e0 + e.1) else 0))
      let o := d.compressG p k (e0 / 2 ^ cLog v) plain g
      let dev := stAux (d.stepWord p c.slot c.step)
      let tn := d.get .cctxTenant p k
      let low := o.code = 0x20
      -- residuals (step 8); of an uncompressed unit +0 where the new bank exists
      let c := if ef then
          ((List.range n).zip (g.zip o.e)).foldl (fun c e =>
            if c.refused.contains ((e0 + e.1) / spanElems) then c
            else c.putRes (e0 + e.1) (if plain then 0 else sub32 e.2.1 e.2.2)) c
        else c
      let c := if ef then { c with written := (c.written ++ spans.filter (fun sp => !c.refused.contains sp)).eraseDups } else c
      let row := o.factor.flatMap (natToBytes 2)
      let d := d.setCctx p k { c with unit := c.unit + 1, rows := if low then c.rows ++ [row] else c.rows,
                                      row0 := if low || c.rows ≠ [] then c.row0 else c.unit + 1 }
      -- toward the partner: whole records of rows, or frames
      let d := if low then
          let full := 16 + ((d.cctx p k).rows.length + 1) * row.length > 4096 || (d.cctx p k).rows.length ≥ 255 || b0 + nb ≥ s
          if full then d.sendRows p k dev pctx patt else d
        else
          let d := d.sendRows p k dev pctx patt
          let d := d.setCctx p k { d.cctx p k with row0 := c.unit + 1 }
          (d.sendContrib p dev pctx patt tn o.code b0 o.sent).count .cmpBytesSent p 0 (contribBytes o.code o.sent)
      let d := d.sendContrib p (d.devId p) x (d.get .rctxAttempt p x) tn o.localCode b0 o.kept
      let d := (d.count .cmpElements p 0 n).count .expSaturated p 0 o.sat
      let d := if low then d.count .mxProducts p 0 (2 * n * cRank v) else d
      if plain then d.bump .cmpUncompressedUnits p 0 else d

/-! ### Records from the partner (R196, R203) -/

/-- What the engine makes of an LR_TILE record. -/
inductive LrOutcome where
  | discarded
  | taken
  /-- refused: the context ends FAILED with status 0x10 -/
  | mismatch (ctx cctx : Nat)
  deriving DecidableEq, Repr

/-- Check a record and expand its rows into the local context. -/
def Device.lrTile (d : Device) (p : Nat) (f : Frame) : Device × LrOutcome :=
  let x := f.context
  let rc := d.rctx p x
  let k := stValue (d.stepWord p rc.slot rc.step) % 256
  if x > 0x7FF || !d.byXsite p x || d.get .cctxState p k ≠ 2 || !(d.ctxState p x = 2 || d.ctxState p x = 4) then
    (d.bump .redNoContext p 0, .discarded)
  else if f.tenant ≠ d.get .rctxTenant p x then ((d.bump .redTenantReject p 0).causeCollective p 2 x, .discarded)
  else if d.ctxState p x = 4 || f.flowSeq / 65536 ≠ d.get .rctxAttempt p x then (d.bump .redStale p 0, .discarded)
  else
    let v := d.cDesc p k
    let c := d.cctx p k
    let h := beNat f.payload 0 16
    let r := cRank v
    let n := 2 ^ cLog v
    let rows := fld h 58 10
    let bad := f.payload.length < 16 || fld h 72 8 ≠ r || fld h 68 4 ≠ cLog v || fld h 112 16 ≠ c.chunk % 65536 ||
      fld h 80 32 ≠ c.iter || rows = 0 || rows > 255 || f.payload.length ≠ 16 + 2 * r * rows || f.offset % n ≠ 0 ||
      f.offset + rows * n > 32 * d.cBlocks p k || fld h 0 58 ≠ 0 || cMethod v ≠ 1
    if bad then ((d.bump .cmpMismatch p 0).causeCollective p 4 k, .mismatch x k)
    else
      let g0 := (c.chunk * 32 * d.cBlocks p k + f.offset) / n
      let d := (List.range rows).foldl (fun d i =>
        let m := (List.range r).map (fun j => beNat f.payload (16 + 2 * (i * r + j)) 2)
        let e := expandRow (d.get .cctxSeed p k) c.iter ((g0 + i) / cHeight v) (cLog v) r (cExp v) m
        let l := (denseBlks (cExp v) e).map (fun b => (b, false))
        let d := d.sendContrib p (d.devId p) x (d.get .rctxAttempt p x) (d.get .cctxTenant p k) (cExp v)
          (f.offset / 32 + i * (n / 32)) l
        d.count .mxProducts p 0 (n * r)) d
      (d, .taken)

end Sys2Proof.Machine
end

