-- ==== Sys2Proof/Machine/Collect.lean ====
section
/-! DEFINITION. Collective slots: the sequencer, its messages, synchronisation objects, counts, dispatch, re-formation
(spec/08), and what a slot does with the events of its reduction contexts (R163, R165, R169, R183). -/

namespace Sys2Proof.Machine

/-! ### Messages (R166, Table 8.4) -/

/-- Send a sequencer message of a slot to a device and port. -/
def Device.sendMsg (d : Device) (p sl typ arg attempt status value dev port : Nat) : Device :=
  let v := typ * 2 ^ 120 + d.get .slotGen p sl * 2 ^ 112 + d.get .slotStepNow p sl * 2 ^ 104 + attempt % 256 * 2 ^ 96 +
    arg % 16384 * 2 ^ 80 + status % 256 * 2 ^ 72 + value % 2 ^ 64
  let m : Mk := { opcode := opData, cls := 4, tenant := d.get .slotTenant p sl, destDevice := dev, destPlane := p,
                  destPort := port, srcDevice := d.devId p, srcPort := 0xFE, context := sl }
  d.sendOwn p reinjectSw (m.frame (natToBytes 16 v))

/-- Send a message to every live member of the slot's group (R169). -/
def Device.tellMembers (d : Device) (p sl typ arg attempt status value : Nat) : Device :=
  let g := d.get .slotGroup p sl
  (d.liveMembers p g).foldl (fun d m =>
    d.sendMsg p sl typ arg attempt status value (memDevice (d.member p g m)) (memPort (d.member p g m))) d

/-- Live members of a slot's group. -/
def Device.slotLive (d : Device) (p sl : Nat) : List Nat := d.liveMembers p (d.get .slotGroup p sl)

/-! ### Failure (R165) -/

/-- SLOT_FAIL. -/
def Device.failSlot (d : Device) (p sl status : Nat) : Device :=
  let up := (List.range (d.get .slotLength p sl)).filterMap (fun i =>
    let w := d.stepWord p sl i
    if stKind w = 5 || stKind w = 6 then some (stAux w) else none)
  let d := d.dropCtxs p sl
  let d := (d.cmpActive p sl).foldl (fun d k => d.cmpEnd p k) d
  let d := (d.set .slotState p sl 4).set .slotStatus p sl status
  let d := d.tellMembers p sl 0x85 0 0 status 0
  let d := up.eraseDups.foldl (fun d dev => d.sendMsg p sl 0x85 0 0 status 0 dev 0xFE) d
  let s := d.slot p sl
  let d := d.setSlot p sl { targets := s.targets, launch := s.launch }
  d.causeCollective p 1 sl

/-! ### Synchronisation objects (R172 to R174) -/

/-- Value of a synchronisation object. -/
def Device.syncVal (d : Device) (p o : Nat) : Nat := d.get .syncValue p o

/-- Add a signal to an object (R172). -/
def Device.signalObj (d : Device) (p o v : Nat) : Device :=
  if d.syncVal p o + v ≥ 2 ^ 64 then
    ((d.set .syncValue p o (2 ^ 64 - 1)).set .syncSaturatedFlag p o 1).bump .syncSaturated p 0
  else d.set .syncValue p o (d.syncVal p o + v)

/-- Send REACHED for the notify entries whose object has come to their value, and free them (R172). -/
def Device.fireNotifies (d : Device) (p : Nat) : Device :=
  let hit := d.notifies.filter (fun n => n.plane = p && n.value ≤ d.syncVal p n.obj)
  let d := { d with notifies := d.notifies.filter (fun n => !(n.plane = p && n.value ≤ d.syncVal p n.obj)) }
  hit.foldl (fun d n => d.sendMsg p n.slot 0x86 n.obj 0 0 n.value n.device n.port) d

/-! ### Step actions (Table 8.2) -/

/-- The template of a step with the step's contributor count (R162). -/
def Device.tplDesc (d : Device) (p sl w n : Nat) : Nat := setFld (d.get .slotTpl p (sl * 256 + stTpl w)) 35 12 (n - 1)

/-- The context of a slot is released where it has ended. -/
def Device.freeCtx (d : Device) (p x : Nat) : Device := d.releaseCtx p x

/-- Notice of a context whose entries have been cleared (R169): REPORT in ANCHOR, CONTRIBUTE in ACCUMULATE; the context of an
XSITE step has no contributors among the members. -/
def Device.ctxNotice (d : Device) (p x : Nat) : Device :=
  let c := d.rctx p x
  if c.clearing || stKind (d.stepWord p c.slot c.step) = 6 then d
  else if d.ctxState p x = 1 then d.tellMembers p c.slot 0x82 x (d.get .rctxAttempt p x) 0 0
  else if d.ctxState p x = 2 then d.tellMembers p c.slot 0x83 x (d.get .rctxAttempt p x) 0 0
  else d

/-- Launch a step's context, or restart the one that a re-formation holds in ABORTING, with the descriptor of the present page
(R186) where its reducer takes it; a context that already runs for this step, or restarts, stays. False where the descriptor is
refused. -/
def Device.stepLaunch (d : Device) (p sl i x desc : Nat) : Device × Bool :=
  let st := d.ctxState p x
  let c := d.rctx p x
  if st ≠ 0 && c.slot = sl && (st = 1 || st = 2) && c.step = i then (d, true)
  else if st = 4 && c.slot = sl && c.step = i then
    if !c.held then (d, true)
    else
      let e := d.giveBack p x
      let free := e.accFree p (dColumn desc)
      if !d.descFits p desc free then (d.bump .rctxRefused p 0, false)
      else
        let d := (e.set .accFreeElements p (dColumn desc) (free - 32 * dBlocks desc)).set .rctxDesc p x desc
        let d := d.setRctx p x { c with held := false }
        (if c.clearing || c.hold ≠ 0 then d else (d.restartCtx p x).ctxNotice p x, true)
  else
    let d := if c.slot = sl then d.freeCtx p x else d
    d.launchCtx p x desc (d.get .slotTenant p sl) (d.get .slotSeed p sl) sl i

/-- Bound report B of a block (R180). -/
def boundReport (a : Option Int) (n : Nat) : Int :=
  match a with
  | some v => v + (if n ≤ 1 then 0 else Int.ofNat ((n - 1).log2 + 1)) + 1
  | none => -32768

/-- Send the bound reports of an ANCHOR context to the upper device (R180). -/
def Device.sendBounds (d : Device) (p sl x dev uctx att : Nat) : Device :=
  let n := dN (d.ctxDesc p x)
  let bs := (List.range (dBlocks (d.ctxDesc p x))).map (fun b => boundReport (d.blkAnchor p x b) n)
  (((List.range (ceilDiv bs.length 2048)).zip (chunksOf 2048 6144 bs)).foldl (fun d e =>
    let m : Mk := { opcode := opExpAnchor, cls := 3, tenant := d.get .slotTenant p sl, destDevice := dev, destPlane := p,
                    destPort := 0xFE, srcDevice := d.devId p, srcPort := 0xFE, context := uctx, flowSeq := att * 65536,
                    offset := e.1 * 2048 * 32 }
    d.sendOwn p reinjectSw (m.frame (e.2.flatMap (fun b => natToBytes 2 (ofSigned 16 b))))) d)

/-- Start a context's results toward the AUX of a REDUCE step, or the multicast set of a REMOTE_REDUCE step (R163, R181); a
multicast set is written first (R171). None where the set cannot be. -/
def Device.nameDest (d : Device) (p sl x aux : Nat) (remote : Bool) : Option Device :=
  let d := d.setRctx p x { d.rctx p x with dest := if remote then 0x2000 + aux else aux }
  if remote || aux ≤ 0xFFC then d.fillSet p (d.get .slotGroup p sl) aux else some d

/-- Blocks of a COMBINE context (R179). -/
def Device.combineBlocks (d : Device) (p sl t : Nat) : Nat :=
  (d.slotLive p sl).length * d.get .dispOriginTokens p t * d.get .dispTokenElems p t / 32

/-- Act on the step at which a slot stands. A failure leaves the slot FAILED. -/
def Device.stepAct (d : Device) (p sl : Nat) : Device :=
  let i := d.get .slotStepNow p sl
  let w := d.stepWord p sl i
  let k := stKind w
  let x := stRctx w
  let live := (d.slotLive p sl).length
  let n := if stValue w = 0 then live else stValue w
  let d := d.setSlot p sl { d.slot p sl with acted := true }
  let orFail := fun (r : Device × Bool) => if r.2 then r.1 else r.1.failSlot p sl 0x20
  if k = 2 then d.signalObj p (stSync w) (stValue w)
  else if k = 3 then orFail (d.stepLaunch p sl i x (d.tplDesc p sl w n))
  else if k = 4 then
    let own := d.ctxState p x ≠ 0 && (d.rctx p x).slot = sl && stKind (d.stepWord p sl (d.rctx p x).step) = 3
    let r := if own then (d, true) else d.stepLaunch p sl i x (d.tplDesc p sl w n)
    if !r.2 then r.1.failSlot p sl 0x20
    else match r.1.nameDest p sl x (stAux w) false with
      | some d => d
      | none => r.1.failSlot p sl 0x21
  else if k = 6 then
    let desc := d.tplDesc p sl w 2
    let again := d.get .cctxState p (stValue w) = 2 && (d.cctx p (stValue w)).slot = sl && (d.cctx p (stValue w)).step = i
    let r := if again then (d.cmpRestart p (stValue w), true)
      else d.cmpStart p (stValue w) sl i (d.slot p sl).launch (dBlocks desc)
    if !r.2 then r.1.failSlot p sl 0x20
    else
      let d := r.1
      let r := d.stepLaunch p sl i x desc
      if !r.2 then r.1.failSlot p sl 0x20
      else r.1.sendMsg p sl 0x87 x (r.1.get .rctxAttempt p x) 0 0 (stAux w) 0xFE
  else if k = 7 then
    match d.nameDest p sl x (stAux w) true with
    | some d => d
    | none => d.failSlot p sl 0x21
  else if k = 8 || k = 9 then
    -- an ALLGATHER counts the bytes relayed while it runs
    let d := if k = 9 then d.setSlot p sl { d.slot p sl with got := [] } else d
    match d.fillSet p (d.get .slotGroup p sl) (stAux w) with
    | some d => d
    | none => d.failSlot p sl 0x21
  else if k = 10 then d.setSlot p sl { d.slot p sl with relayed := (d.slot p sl).relayed.filter (· ≠ i) }
  else if k = 11 then d.setSlot p sl { d.slot p sl with forwarded := [] }
  else if k = 12 then
    let t := stAux w
    let b := d.combineBlocks p sl t
    if b = 0 || b > 6144 then (d.bump .rctxRefused p 0).failSlot p sl 0x20
    else
      let desc := setFld (d.tplDesc p sl w (stValue w)) 22 13 (b - 1)
      let r := d.stepLaunch p sl i t desc
      if r.2 then r.1.setRctx p t { r.1.rctx p t with dest := 0x1000 } else r.1.failSlot p sl 0x20
  else d

/-- Whether the step at which a slot stands has completed. -/
def Device.stepDone (d : Device) (p sl : Nat) : Bool :=
  let i := d.get .slotStepNow p sl
  let w := d.stepWord p sl i
  let k := stKind w
  let s := d.slot p sl
  let live := d.slotLive p sl
  if k = 1 then nth s.targets i ≤ d.syncVal p (stSync w)
  else if k = 2 then true
  else if k = 3 then d.ctxState p (stRctx w) = 2 && !(d.rctx p (stRctx w)).clearing
  else if k = 4 || k = 7 then d.ctxState p (stRctx w) = 3
  else if k = 5 then (stepAtt s.upContributes i).isSome
  else if k = 6 then s.xready.isSome
  else if k = 8 then s.relayed.contains i
  else if k = 9 then
    live.all (fun m =>
      let need := if stValue w = 0 then (match s.need.find? (fun e => e.1 = m) with | some e => e.2 | none => 0) else stValue w
      need ≤ (match s.got.find? (fun e => e.1 = m) with | some e => e.2 | none => 0))
  else if k = 10 then s.relayed.contains i
  else if k = 11 then
    s.totals.all (fun e => e.2 ≤ (match s.forwarded.find? (fun f => f.1 = e.1) with | some f => f.2 | none => 0))
  else if k = 12 then d.ctxState p (stAux w) = 3
  else false

/-- Rise of a WAIT target at a launch (R173). -/
def Device.waitRise (d : Device) (p sl i : Nat) : Nat :=
  let w := d.stepWord p sl i
  if stKind w ≠ 1 then 0 else if stValue w = 0 then (d.slotLive p sl).length else stValue w

/-- The state of a slot in the switch of its group under way: a launch that begins takes the new page (R186). -/
def Device.reformMark (d : Device) (p sl : Nat) : Nat := if d.get .grpState p (d.get .slotGroup p sl) = 3 then 2 else 0

/-- Begin a launch (R168): targets rise, LAUNCHED goes out, the relays are set up, step 0 is next. A group without a live
member fails the slot (R165 status 0x21). -/
def Device.beginLaunch (d : Device) (p sl n : Nat) : Device :=
  let s := d.slot p sl
  let t := (List.range 32).map (fun i => nth s.targets i + d.waitRise p sl i)
  let d := d.setSlot p sl { s with launch := n, acted := false, targets := t, relayed := [], counts := [], lasts := [],
                                   totals := [], need := [], got := [], forwarded := [], upSent := [],
                                   reformed := d.reformMark p sl }
  let d := ((d.set .slotState p sl 2).set .slotStatus p sl 0).set .slotStepNow p sl 0
  if d.slotLive p sl = [] then d.failSlot p sl 0x21
  else
    let d := d.tellMembers p sl 0x81 0 0 0 n
    (List.range (d.get .slotLength p sl)).foldl (fun d i =>
      let w := d.stepWord p sl i
      if stKind w = 8 then (d.fillSet p (d.get .slotGroup p sl) (stAux w)).getD d else d) d

/-- END (R163): a context still running fails the slot; otherwise DONE goes out and a queued launch begins. -/
def Device.endLaunch (d : Device) (p sl : Nat) : Device :=
  if (d.slotCtxs p sl).any (fun x => d.ctxOpen p x) then d.failSlot p sl 4
  else
    let d := d.dropCtxs p sl
    let s := d.slot p sl
    let d := d.tellMembers p sl 0x88 0 0 0 s.launch
    let d := d.setSlot p sl { targets := s.targets, launch := s.launch, queued := s.queued - 1 }
    let d := (d.set .slotState p sl 1).set .slotStepNow p sl 0
    if s.queued > 0 then d.beginLaunch p sl (s.launch + 1) else d

/-- Leave a completed step: a context that it names is released (R163). -/
def Device.leaveStep (d : Device) (p sl : Nat) : Device :=
  let i := d.get .slotStepNow p sl
  let w := d.stepWord p sl i
  let d := if stKind w = 4 || stKind w = 7 then d.releaseCtx p (stRctx w)
    else if stKind w = 12 then d.releaseCtx p (stAux w) else d
  (d.setSlot p sl { d.slot p sl with acted := false }).set .slotStepNow p sl (i + 1)

/-- Note a step's ATTEMPT. -/
def noteAtt (l : List (Nat × Nat)) (i att : Nat) : List (Nat × Nat) := (i, att) :: l.filter (fun e => e.1 ≠ i)

/-- FORWARD_UP acts when the upper device's REPORT has come: the bound reports go out with its ATTEMPT (R180). -/
def Device.forwardUp (d : Device) (p sl att : Nat) : Device :=
  let i := d.get .slotStepNow p sl
  let w := d.stepWord p sl i
  let s := d.slot p sl
  let d := d.setSlot p sl { s with upSent := noteAtt s.upSent i att }
  match d.stepBefore p sl 3 i with
  | none => d
  | some j => d.sendBounds p sl (stRctx (d.stepWord p sl j)) (stAux w) (stRctx w) att

/-- The ATTEMPT whose bound reports a FORWARD_UP step has still to send. -/
def SlotSt.upDue (s : SlotSt) (i : Nat) : Option Nat :=
  if stepAtt s.upReports i = stepAtt s.upSent i then none else stepAtt s.upReports i

/-! ### Counts (R175, R176) -/

/-- Number of destinations of a COUNTS step: one for AUX 0xFFF, the table's experts otherwise. -/
def Device.countDests (d : Device) (p aux : Nat) : Nat := if aux = 0xFFF then 1 else d.get .dispExperts p aux

/-- Capacity of a destination; none where it is unlimited. -/
def Device.capOf (d : Device) (p aux dst : Nat) : Option Nat :=
  if aux = 0xFFF then none
  else
    let c := fld (d.get .dispEntry p (aux * 65536 + dst)) 0 20
    if c = 0xFFFFF then none else some c

/-- The count of a sender for a destination. -/
def SlotSt.countOf (s : SlotSt) (m dst : Nat) : Nat :=
  total ((s.counts.filter (fun e => e.1 = m && e.2.1 = dst)).map (·.2.2))

/-- `base` of R176: counts of the live senders before a member. -/
def SlotSt.baseOf (s : SlotSt) (live : List Nat) (m dst : Nat) : Nat :=
  total ((live.filter (· < m)).map (fun q => s.countOf q dst))

/-- What R176 calls taking a contribution in. -/
def SlotSt.admitOf (s : SlotSt) (cap : Option Nat) (live : List Nat) (m dst : Nat) : Nat :=
  match cap with
  | none => s.countOf m dst
  | some c => min (s.countOf m dst) (c - s.baseOf live m dst)

/-- A COUNTS reply frame (Table 8.9). -/
def Device.sendCounts (d : Device) (p sl v : Nat) (totals last : Bool) (first : Nat) (es : List (Nat × Nat)) : Device :=
  let h := (if totals then 2 ^ 31 else 0) + first * 2 ^ 16 + es.length
  let m : Mk := { opcode := opCounts, cls := 2, flags := if last then 32 else 0, tenant := d.get .slotTenant p sl,
                  destDevice := memDevice v, destPlane := p, destPort := memPort v, srcDevice := d.devId p, srcPort := 0xFE,
                  context := sl }
  d.sendOwn p reinjectSw (m.frame (natToBytes 4 h ++ es.flatMap (fun e => natToBytes 4 e.1 ++ natToBytes 4 e.2)))

/-- The replies of a COUNTS step (R176). -/
def Device.countsReplies (d : Device) (p sl aux : Nat) : Device :=
  let s := d.slot p sl
  let g := d.get .slotGroup p sl
  let live := d.slotLive p sl
  let n := d.countDests p aux
  let tot := fun (dst : Nat) => total (live.map (fun m => s.admitOf (d.capOf p aux dst) live m dst))
  if aux = 0xFFF then
    live.foldl (fun d m => d.sendCounts p sl (d.member p g m) true true 0 [(s.baseOf live m 0, tot 0)]) d
  else
    let d := live.foldl (fun d m =>
      let es := (List.range n).map (fun dst => (s.baseOf live m dst, s.admitOf (d.capOf p aux dst) live m dst))
      let parts := chunksOf 511 1024 es
      ((List.range parts.length).zip parts).foldl (fun d e =>
        d.sendCounts p sl (d.member p g m) false (e.1 + 1 = parts.length) (e.1 * 511) e.2) d) d
    (List.range n).foldl (fun d dst =>
      d.sendCounts p sl (d.member p g (fld (d.get .dispEntry p (aux * 65536 + dst)) 20 12)) true true dst [(0, tot dst)]) d

/-- Whether a base or a total of a COUNTS step lies above 2³² − 1 (R176). -/
def Device.countsHigh (d : Device) (p sl aux : Nat) : Bool :=
  let s := d.slot p sl
  let live := d.slotLive p sl
  (List.range (d.countDests p aux)).any (fun dst =>
    live.any (fun m => s.baseOf live m dst ≥ 2 ^ 32) ||
      total (live.map (fun m => s.admitOf (d.capOf p aux dst) live m dst)) ≥ 2 ^ 32)

/-- Close a COUNTS step whose live members have all sent LAST: the replies go out, or the step fails on a sum that is too high
(R176). -/
def Device.countsClose (d : Device) (p sl i aux : Nat) : Device :=
  if d.countsHigh p sl aux then d.failSlot p sl 0x22 else
  let s := d.slot p sl
  let live := d.slotLive p sl
  let tot := (List.range (d.countDests p aux)).map (fun dst =>
    (dst, total (live.map (fun q => s.admitOf (d.capOf p aux dst) live q dst))))
  let d := d.countsReplies p sl aux
  d.setSlot p sl { s with
    counts := [], lasts := [], totals := if aux = 0xFFF then s.totals else tot,
    need := if aux = 0xFFF then live.map (fun q => (q, s.countOf q 0)) else s.need, relayed := s.relayed ++ [i] }

/-- One move of a RUNNING slot, or none; a slot that a switch of its group has still to restart waits for it. -/
def Device.slotMove (d : Device) (p sl : Nat) : Option Device :=
  if d.get .slotState p sl ≠ 2 || (d.slot p sl).reformed ≠ d.reformMark p sl then none
  else
    let w := d.stepWord p sl (d.get .slotStepNow p sl)
    let due := if stKind w = 5 then (d.slot p sl).upDue (d.get .slotStepNow p sl) else none
    if stKind w = 0 then some (d.endLaunch p sl)
    else if !(d.slot p sl).acted then some (d.stepAct p sl)
    else
      match due with
      | some u => some (d.forwardUp p sl u)
      | none =>
        if stKind w = 10 && !(d.slot p sl).relayed.contains (d.get .slotStepNow p sl) &&
            (d.slotLive p sl).all (fun q => (d.slot p sl).lasts.contains q) then
          some (d.countsClose p sl (d.get .slotStepNow p sl) (stAux w))
        else if d.stepDone p sl then some (d.leaveStep p sl)
        else none

/-- Emit what is ready of the contexts whose destination is named; an XSITE context that ends DONE commits its launch. -/
def Device.emitReady (d : Device) (p : Nat) : Device :=
  ((d.rctxs.filter (fun e => e.1.1 = p && e.2.dest ≠ 0xFFFF && d.ctxState p e.1.2 = 2)).map (·.1.2)).foldl (fun d x =>
    let c := d.rctx p x
    let r := d.emitResults p x
    if r.2 = .done && stKind (r.1.stepWord p c.slot c.step) = 6 then
      r.1.cmpCommit p (stValue (r.1.stepWord p c.slot c.step) % 256)
    else r.1) d

/-! ### Switch of a group (R186, R187) -/

/-- Send ABORT_CTX for what a restarting context has sent beyond this device (Table 8.11), not back to the device that asked for
the restart. -/
def Device.passAbort (d : Device) (p x : Nat) (sender : Option Nat) : Device :=
  let c := d.rctx p x
  let sl := c.slot
  let s := d.slot p sl
  let d := match c.sentUp with
    | some (dev, u, att) => if sender = some dev then d else d.sendMsg p sl 0x04 u att 0 0 dev 0xFE
    | none => d
  let w := d.stepWord p sl c.step
  if stKind w = 6 && sender ≠ some (stAux w) then
    match s.xready with
    | some (pc, pa) => d.sendMsg p sl 0x04 pc pa 0 0 (stAux w) 0xFE
    | none => d.sendMsg p sl 0x04 x (d.get .rctxAttempt p x) 0 0 (stAux w) 0xFE
  else d

/-- Take the standby page (R186 step 2). -/
def Device.takePage (d : Device) (p g : Nat) : Device :=
  let s := d.get .grpDesc p g
  let d := (List.range (fld s 16 12 + 1)).foldl (fun d m =>
    let e := (fld s 0 16 + m) % 65536
    d.set .grpMemberActive p e (d.get .grpMember p e)) d
  d.set .grpDescActive p g s

/-- The active slots of a group, in increasing order. -/
def Device.groupSlots (d : Device) (p g : Nat) : List Nat :=
  (List.range 1024).filter (fun sl => (d.activeSlots p).contains sl && d.get .slotGroup p sl = g)

/-- Set how far a slot is in the switch. -/
def Device.setReformed (d : Device) (p sl n : Nat) : Device := d.setSlot p sl { d.slot p sl with reformed := n }

/-- Step 1 of R186 for a slot: its contexts abort with status 0x04 and are held in ABORTING, those restarting for another reason
as well. -/
def Device.reformAbort (d : Device) (p sl : Nat) : Device :=
  let r := (d.slotCtxs p sl).foldl (fun (s : Device × Option Nat) x =>
    if s.1.ctxState p x = 4 then (s.1.setRctx p x { s.1.rctx p x with held := true }, s.2)
    else
      let a := s.1.abortCtx p x 4 1
      match a.2 with
      | .failed st => (a.1, some st)
      | .restarts => (a.1.setRctx p x { a.1.rctx p x with owes := true }, s.2)
      | _ => (a.1, s.2)) (d, none)
  match r.2 with
  | some st => r.1.failSlot p sl st
  | none => r.1.setReformed p sl 1

/-- Steps 3 to 5 of R186 for a slot: GEN rises, targets and counts start anew, RESTART and then ABORT_CTX go out, and the program
resumes at step 0 with the same launch number. -/
def Device.reformRestart (d : Device) (p sl : Nat) : Device :=
  let xs := d.slotCtxs p sl
  let d := xs.foldl (fun d x => if d.ctxState p x = 4 then d else d.releaseCtx p x) d
  let d := (d.cmpActive p sl).foldl (fun d k => d.cmpRestart p k) d
  let d := (d.set .slotGen p sl ((d.get .slotGen p sl + 1) % 256)).set .slotStepNow p sl 0
  let s := d.slot p sl
  let t := (List.range 32).map (fun i =>
    let w := d.stepWord p sl i
    if stKind w = 1 then d.syncVal p (stSync w) + d.waitRise p sl i else nth s.targets i)
  if d.slotLive p sl = [] then d.failSlot p sl 0x21
  else
    let d := d.tellMembers p sl 0x84 0 0 0 s.launch
    let d := xs.foldl (fun d x =>
      if (d.rctx p x).owes then (d.passAbort p x none).setRctx p x { d.rctx p x with owes := false } else d) d
    (d.setSlot p sl { targets := t, launch := s.launch, queued := s.queued, reformed := 2 }).set .slotState p sl 2

/-- The switch ends (Table 8.12): the active page is copied to the standby page, and the command reads done. -/
def Device.reformEnd (d : Device) (p g : Nat) : Device :=
  let a := d.get .grpDescActive p g
  let d := (List.range (fld a 16 12 + 1)).foldl (fun d m =>
    let e := (fld a 0 16 + m) % 65536
    d.set .grpMember p e (d.get .grpMemberActive p e)) d
  let d := (d.groupSlots p g).foldl (fun d sl => d.setReformed p sl 0) d
  ((d.set .grpDesc p g a).set .grpState p g 0).set .grpCommitCmd p g 2

/-- One turn of the switch of a group, and whether it goes on: its slots restart one after another, each once its contexts have been
cleared (DESIGN CHOICE, assumption log 32), and after the last the switch ends. -/
def Device.reformTurn (d : Device) (p g : Nat) : Device × Bool :=
  match (d.groupSlots p g).find? (fun sl => (d.slot p sl).reformed ≠ 2) with
  | none => (d.reformEnd p g, false)
  | some sl =>
    let d := if (d.slot p sl).reformed = 0 then d.reformAbort p sl else d
    if (d.slot p sl).reformed = 0 then (d, true)
    else if (d.slotCtxs p sl).any (fun x => (d.rctx p x).clearing) then (d, false)
    else (d.reformRestart p sl, true)

/-- Turns of the switch of a group, until it has to wait or has ended. -/
def Device.reformNext (d : Device) (p g : Nat) : Nat → Device
  | 0 => d
  | fuel + 1 =>
    let r := d.reformTurn p g
    if r.2 then r.1.reformNext p g fuel else r.1

/-- Groups of a plane in a state. -/
def Device.groupsIn (d : Device) (p st : Nat) : List Nat :=
  (d.regs.filter (fun e => e.1.obj = .grpState && e.1.plane = p && e.2 = st)).map (fun e => e.1.idx)

/-- Go on with every switch of a plane: more turns than a group has slots. -/
def Device.reforms (d : Device) (p : Nat) : Device := (d.groupsIn p 3).foldl (fun d g => d.reformNext p g 4096) d

/-- Whether the boundary of a group has been reached: an object at or above its value; the instant of a time base is reported
by the command itself (assumption log 3). -/
def Device.grpBoundaryMet (d : Device) (p g : Nat) : Bool :=
  d.get .grpBoundaryKind p g = 0 || d.get .grpBoundaryValue p g ≤ d.syncVal p (d.get .grpBoundaryObj p g)

/-- The boundary of a PENDING group: the standby page becomes active and the switch begins (Table 8.12). -/
def Device.startSwitch (d : Device) (p g : Nat) : Device := (d.takePage p g).set .grpState p g 3

/-- Boundaries of the object kind that have been reached (R185). -/
def Device.boundaries (d : Device) (p : Nat) : Device :=
  ((d.groupsIn p 2).filter (fun g => d.get .grpBoundaryKind p g = 1 && d.grpBoundaryMet p g)).foldl (fun d g => d.startSwitch p g) d

/-- Run the slots of a plane until none can move. -/
def Device.runSlots (d : Device) (p : Nat) : Nat → Device
  | 0 => d
  | fuel + 1 =>
    let d := (((d.emitReady p).fireNotifies p).boundaries p).reforms p
    match (d.activeSlots p).findSome? (fun sl => d.slotMove p sl) with
    | some d => d.runSlots p fuel
    | none => d

/-- Run the slots of a plane: more moves than any set of programs and queued launches takes. -/
def Device.run (d : Device) (p : Nat) : Device := d.runSlots p 1000000

/-! ### Restarts (R169, R183) -/

/-- Put a slot back to step i, its action still to be taken. -/
def Device.rewind (d : Device) (p sl i : Nat) (state : Nat) (acted : Bool) : Device :=
  let s := d.slot p sl
  let d := d.setSlot p sl { s with acted := acted, relayed := s.relayed.filter (· < i) }
  (d.set .slotStepNow p sl i).set .slotState p sl state

/-- A context of a slot has gone to ABORTING: the slot rewinds (R169), for an XSITE context to the nearest earlier ANCHOR step,
whose context is launched again (Table 8.11). -/
def Device.ctxRestarts (d : Device) (p x : Nat) (sender : Option Nat) : Device :=
  let c := d.rctx p x
  let sl := c.slot
  let d := d.passAbort p x sender
  if d.get .slotState p sl ≠ 2 && d.get .slotState p sl ≠ 3 then d
  else if stKind (d.stepWord p sl c.step) = 6 then
    let d := d.setSlot p sl { d.slot p sl with xready := none }
    let d := d.cmpRestart p (stValue (d.stepWord p sl c.step) % 256)
    match d.stepBefore p sl 3 c.step with
    | some i =>
      let y := stRctx (d.stepWord p sl i)
      let r := if d.ctxRuns p y then d.abortCtx p y 4 0 else (d, .none)
      match r.2 with
      | .failed s => (r.1.releaseCtx p y).failSlot p sl s
      | _ => r.1.rewind p sl i 3 (r.2 = .restarts)
    | none => d.rewind p sl c.step 3 false
  else d.rewind p sl c.step 3 true

/-- What a slot does with an event of one of its contexts. -/
def Device.ctxEvent (d : Device) (p x : Nat) (ev : CtxEvent) (sender : Option Nat) : Device :=
  let sl := (d.rctx p x).slot
  match ev with
  | .none => d.run p
  | .anchored => (d.tellMembers p sl 0x83 x (d.get .rctxAttempt p x) 0 0).run p
  | .done => d.run p
  | .restarts => (d.ctxRestarts p x sender).run p
  | .failed s =>
    let d := if d.get .slotState p sl = 2 || d.get .slotState p sl = 3 then d.failSlot p sl s else d.releaseCtx p x
    d.run p

/-- Abort a context and let its slot follow. -/
def Device.abortAnd (d : Device) (p x status : Nat) (sender : Option Nat) : Device :=
  let r := d.abortCtx p x status 0
  if r.2 = .none then d else r.1.ctxEvent p x r.2 sender

/-- A slot in REWINDING goes on when none of its contexts is being cleared (Table 8.3). -/
def Device.resumeSlot (d : Device) (p sl : Nat) : Device :=
  if d.get .slotState p sl = 3 && (d.slotCtxs p sl).all (fun x => !((d.rctx p x).clearing || (d.ctxState p x = 4 && (d.rctx p x).hold ≥ 2)))
  then d.set .slotState p sl 2 else d

/-! ### Re-formation (8.8) -/

/-- GRP_BOUNDARY (R186). -/
def Device.grpBoundary (d : Device) (p g : Nat) : Device :=
  if d.get .grpState p g = 2 && d.grpBoundaryMet p g then (d.startSwitch p g).run p else d

/-- Live members of a page, standby or active. -/
def Device.pageLive (d : Device) (desc : Nat) (o : Obj) (p : Nat) : List Nat :=
  ((List.range (fld desc 16 12 + 1)).map (fun m => d.get o p ((fld desc 0 16 + m) % 65536))).filter (fun e => !bit e 0)

/-- Whether a commit is taken (R185). -/
def Device.grpCommitOk (d : Device) (p g : Nat) : Bool :=
  let s := d.get .grpDesc p g
  let live := d.pageLive s .grpMember p
  let tn := fld s 52 12
  d.get .grpState p g = 1 && live ≠ [] && distinct (live.map memLink) && tn ≠ 0 &&
    (List.range 1024).all (fun sl => d.get .slotState p sl = 0 || d.get .slotGroup p sl ≠ g || d.get .slotTenant p sl = tn)

/-- A write to `grp_commit_cmd`: a boundary already past is reached at once (R185). -/
def Device.grpCommit (d : Device) (p ses : Nat) : Device :=
  let t : Target := ⟨.grpCommitCmd, p, 0⟩
  let g := d.place t ses
  if !d.grpCommitOk p g then d.cmdReads t ses 3
  else
    let d := (d.set .grpState p g 2).cmdReads t ses 1
    let past := if d.get .grpBoundaryKind p g = 0 then
        unpackTime (d.get .grpBoundaryTime p g) ≤ d.tbNow p (d.get .grpBoundaryTb p g)
      else d.grpBoundaryMet p g
    if past then d.grpBoundary p g else d

/-- A write to `grp_exclude` (Table 8.12, R187). -/
def Device.grpExclude (d : Device) (p ses v : Nat) : Device :=
  let g := d.sel .grpSel p 0 ses
  let mark := fun (d : Device) (desc : Nat) (o : Obj) =>
    let e := (fld desc 0 16 + v) % 65536
    d.set o p e (setBit (d.get o p e) 0)
  match d.get .grpState p g with
  | 2 => (mark d (d.get .grpDesc p g) .grpMember).bump .reformMerges p 0
  | 3 =>
    let d := (mark d (d.get .grpDescActive p g) .grpMemberActive).bump .reformRestarts p 0
    -- the slots already restarted are rewound again; the others restart once
    ((d.groupSlots p g).foldl (fun d sl => if (d.slot p sl).reformed = 2 then d.setReformed p sl 0 else d) d).run p
  | _ => (mark d (d.get .grpDesc p g) .grpMember).set .grpState p g 1

/-- The member index that `grp_exclude` takes: one of the page it is applied to. -/
def Device.grpExcludeOk (d : Device) (p ses v : Nat) : Bool :=
  let g := d.sel .grpSel p 0 ses
  let desc := if d.get .grpState p g = 3 then d.get .grpDescActive p g else d.get .grpDesc p g
  v ≤ fld desc 16 12

/-! ### Slot commands (R164, R165, R168) -/

/-- Whether a tenant's range object holds a number (R357). -/
def Device.inTnRange (d : Device) (o : Obj) (p t lo w n x : Nat) : Bool := inRange (d.get o p t) lo w n x

/-- Whether one step word passes the validation of a load (R164). -/
def Device.stepOk (d : Device) (p sl i : Nat) : Bool :=
  let w := d.stepWord p sl i
  let k := stKind w
  let tn := d.get .slotTenant p sl
  let tpl := d.get .slotTpl p (sl * 256 + stTpl w)
  k ≤ 12 &&
    (!(k = 1 || k = 2) || d.inTnRange .tnSyncRange p tn 16 14 15 (stSync w)) &&
    (k ≠ 2 || stValue w ≥ 1) && (!(k = 3 || k = 4) || stValue w ≤ 4096) &&
    (k ≠ 3 || dMode tpl = 0) &&
    (k ≠ 4 || (stAux w ≠ 0xFFF &&
      (stAux w ≠ 0xFFE || ((d.stepBefore p sl 5 i).isSome && dOut tpl = 1)) &&
      (stAux w ≠ 0xFFD || (d.stepBefore p sl 6 i).isSome))) &&
    (k ≠ 5 || (d.stepBefore p sl 3 i).isSome) && (k ≠ 6 || (dMode tpl = 2 && stValue w < 256)) &&
    (k ≠ 10 || stAux w ≤ 0x7FF || stAux w = 0xFFF) && (!(k = 11 || k = 12) || stAux w ≤ 0x7FF) &&
    (k ≠ 12 || (dWeighted tpl && 1 ≤ stValue w && stValue w ≤ 4096))

/-- Whether a slot's program may be loaded (R164, R358). -/
def Device.loadOk (d : Device) (p sl : Nat) : Bool :=
  let tn := d.get .slotTenant p sl
  let n := d.get .slotLength p sl
  tn ≠ 0xFFFF && tn ≠ 0 && tn = fld (d.get .grpDescActive p (d.get .slotGroup p sl)) 52 12 &&
    d.get .slotState p sl ≠ 2 && d.get .slotState p sl ≠ 3 &&
    (List.range n).all (fun i => d.stepOk p sl i) && stKind (d.stepWord p sl (n - 1)) = 0

/-- Accept launch number n (R168): it starts at once in READY or FAILED, and waits otherwise. -/
def Device.acceptLaunch (d : Device) (p sl n : Nat) : Device :=
  let d := (d.set .slotLaunchNo p sl n).bump .seqLaunches p 0
  if d.get .slotState p sl = 2 || d.get .slotState p sl = 3 then
    d.setSlot p sl { d.slot p sl with queued := (d.slot p sl).queued + 1 }
  else (d.beginLaunch p sl n).run p

/-- A LAUNCH with a number (R168). -/
def Device.tryLaunch (d : Device) (p sl n : Nat) : Device :=
  let last := d.get .slotLaunchNo p sl
  let active := d.get .slotState p sl = 2 || d.get .slotState p sl = 3
  if last = 2 ^ 64 - 1 then d.bump .launchRefused p 0
  else if n ≤ last then d.bump .launchDup p 0
  else if n ≠ last + 1 || (active && (d.slot p sl).queued ≥ 15) then d.bump .launchRefused p 0
  else d.acceptLaunch p sl n

/-- A write to `slot_cmd`. -/
def Device.slotCmd (d : Device) (p ses v : Nat) : Device :=
  let t : Target := ⟨.slotCmd, p, 0⟩
  let sl := d.place t ses
  let st := d.get .slotState p sl
  if v = 1 then
    if d.loadOk p sl then
      ((d.setSlot p sl {}).set .slotState p sl 1).cmdReads t ses 2
    else d.cmdReads t ses 3
  else if v = 2 then
    let last := d.get .slotLaunchNo p sl
    -- an EMPTY slot has no program to launch; R168 counts what it does not take from the others
    if st = 0 then d.cmdReads t ses 3
    else if last = 2 ^ 64 - 1 || ((st = 2 || st = 3) && (d.slot p sl).queued ≥ 15) then
      (d.bump .launchRefused p 0).cmdReads t ses 3
    else (d.acceptLaunch p sl (last + 1)).cmdReads t ses 2
  else if v = 3 then
    if st = 2 || st = 3 then ((d.failSlot p sl 4).run p).cmdReads t ses 2 else d.cmdReads t ses 3
  else
    if st = 1 || st = 4 then ((d.setSlot p sl {}).set .slotState p sl 0).cmdReads t ses 2 else d.cmdReads t ses 3

/-! ### Messages received (R167, Table 8.6) -/

/-- The fields of a message payload (Table 8.4). -/
structure Msg where
  typ : Nat
  gen : Nat
  attempt : Nat
  arg : Nat
  value : Nat
  bad : Bool

/-- Read a message. -/
def msgOf (f : Frame) : Msg :=
  let v := bytesToNat f.payload
  { typ := fld v 120 8, gen := fld v 112 8, attempt := fld v 96 8, arg := fld v 80 14, value := fld v 0 64,
    bad := fld v 94 2 ≠ 0 || fld v 64 8 ≠ 0 || f.payload.length ≠ 16 }

/-- The live member of a group with a device ID and port. -/
def Device.memberOf (d : Device) (p g dev port : Nat) : Option Nat :=
  (d.liveMembers p g).find? (fun m => memDevice (d.member p g m) = dev && memPort (d.member p g m) = port)

/-- Whether a device is the upper device or partner that a step of the slot names (R165, R167). -/
def Device.namedBy (d : Device) (p sl kind dev : Nat) : Bool :=
  (List.range (d.get .slotLength p sl)).any (fun i => stKind (d.stepWord p sl i) = kind && stAux (d.stepWord p sl i) = dev)

/-- Count a refused message. -/
def Device.badMsg (d : Device) (p x : Nat) : Device := (d.bump .seqMalformed p 0).causeCollective p 3 x

/-- The FORWARD_UP steps of a slot that name an upper device and context. -/
def Device.upSteps (d : Device) (p sl dev uctx : Nat) : List Nat :=
  (List.range (d.get .slotLength p sl)).filter (fun i =>
    let w := d.stepWord p sl i
    stKind w = 5 && stAux w = dev && stRctx w = uctx)

/-- A REPORT from the upper device for FORWARD_UP step `fu` (R180, Table 8.11). -/
def Device.upperReport (d : Device) (p sl fu att : Nat) : Device :=
  let s := d.slot p sl
  let active := d.get .slotState p sl = 2 || d.get .slotState p sl = 3
  let fresh := stepAtt s.upReports fu ≠ some att
  let d := d.setSlot p sl { s with upReports := noteAtt s.upReports fu att,
                                   upContributes := if fresh then s.upContributes.filter (fun e => e.1 ≠ fu) else s.upContributes }
  if !fresh || !active || (stepAtt s.upSent fu).isNone || d.get .slotStepNow p sl < fu then d
  else
    match d.stepBefore p sl 3 fu with
    | none => d
    | some a =>
      let x := stRctx (d.stepWord p sl a)
      if d.ctxState p x = 0 || d.ctxState p x = 3 || (d.rctx p x).sentUp.isSome then
        let r := if d.ctxRuns p x then d.abortCtx p x 4 0 else (d, .none)
        match r.2 with
        | .failed st => (r.1.releaseCtx p x).failSlot p sl st
        | .restarts => r.1.rewind p sl a 3 true
        | _ => r.1.rewind p sl a 2 false
      else
        -- nothing sent up: reports and results use the new ATTEMPT
        let d := d.setRctx p x { d.rctx p x with dest := 0xFFFF }
        d.rewind p sl fu (d.get .slotState p sl) true

/-- A CONTRIBUTE from the upper device completes the FORWARD_UP steps whose REPORT it follows. -/
def Device.upperContribute (d : Device) (p sl dev uctx att : Nat) : Device :=
  (d.upSteps p sl dev uctx).foldl (fun d i =>
    let s := d.slot p sl
    if stepAtt s.upReports i = some att then d.setSlot p sl { s with upContributes := noteAtt s.upContributes i att } else d) d

/-- Take a NOTIFY (R172). -/
def Device.takeNotify (d : Device) (p sl obj value dev port : Nat) : Device :=
  if value ≤ d.syncVal p obj then d.sendMsg p sl 0x86 obj 0 0 value dev port
  else if (d.notifies.filter (fun n => n.plane = p)).length ≥ 4096 then d.bump .notifyRefused p 0
  else { d with notifies := d.notifies ++ [{ plane := p, obj := obj, value := value, slot := sl, device := dev, port := port }] }

/-- Apply a message that has passed the checks. -/
def Device.applyMsg (d : Device) (p sl : Nat) (f : Frame) (m : Msg) : Device :=
  let active := d.get .slotState p sl = 2 || d.get .slotState p sl = 3
  let dev := f.srcDevice
  if m.typ = 1 then d.tryLaunch p sl m.value
  else if m.typ = 2 then (d.signalObj p m.arg m.value).run p
  else if m.typ = 3 then d.takeNotify p sl m.arg m.value dev f.srcPort
  else if m.typ = 4 then
    if m.arg ≤ 0x7FF && (d.rctx p m.arg).slot = sl && d.ctxState p m.arg ≠ 0 then d.abortAnd p m.arg 4 (some dev) else d
  else if m.typ = 0x82 then
    ((d.upSteps p sl dev m.arg).foldl (fun d fu => d.upperReport p sl fu m.attempt) d).run p
  else if m.typ = 0x83 then (d.upperContribute p sl dev m.arg m.attempt).run p
  else if m.typ = 0x85 then
    if active && (d.namedBy p sl 5 dev || d.namedBy p sl 6 dev) then (d.failSlot p sl 0x25).run p else d
  else if m.typ = 0x87 then
    if d.namedBy p sl 6 dev then (d.setSlot p sl { d.slot p sl with xready := some (m.arg, m.attempt) }).run p else d
  else d

/-- The checks of Table 8.6 in order, then the message. -/
def Device.seqMessage (d : Device) (p : Nat) (f : Frame) : Device :=
  let sl := f.context
  let m := msgOf f
  let g := d.get .slotGroup p sl
  let tn := d.get .slotTenant p sl
  let ofDevice := m.typ = 4 || 0x81 ≤ m.typ
  let member := (d.memberOf p g f.srcDevice f.srcPort).isSome
  let named := f.srcPort = 0xFE && (d.namedBy p sl 5 f.srcDevice || d.namedBy p sl 6 f.srcDevice)
  if sl > 0x3FF || d.get .slotState p sl = 0 || m.bad || !([1, 2, 3, 4, 0x81, 0x82, 0x83, 0x84, 0x85, 0x86, 0x87, 0x88].contains m.typ)
  then d.badMsg p sl
  else if f.tenant ≠ tn then (d.bump .seqTenantReject p 0).causeCollective p 2 sl
  else if !(member || (ofDevice && named)) then d.bump .seqNonmember p 0
  else if m.typ ≠ 1 && m.gen ≠ d.get .slotGen p sl then d.bump .seqStale p 0
  else if (m.typ = 2 || m.typ = 3) && !d.inTnRange .tnSyncRange p tn 16 14 15 m.arg then
    (d.bump .seqRangeReject p 0).causeCollective p 2 sl
  else d.applyMsg p sl f m

/-- A message for a slot of a running state copy is held, up to 256 on a plane (spec/19 R436); any other is checked now. -/
def Device.seqIn (d : Device) (p : Nat) (f : Frame) : Device :=
  let s := d.sc p
  let first := fld s.req 176 16
  if d.scRuns p && first ≤ f.context && f.context < first + fld s.req 160 16 then
    if s.held.length < 256 then d.setSc p { s with held := s.held ++ [f] } else d.bump .seqStale p 0
  else d.seqMessage p f

/-! ### Counts (R175, R176) -/

/-- The first COUNTS step at or after which a slot stands. -/
def Device.countsStep (d : Device) (p sl : Nat) : Option Nat :=
  (List.range 32).find? (fun i => d.get .slotStepNow p sl ≤ i && i < d.get .slotLength p sl && stKind (d.stepWord p sl i) = 10)

/-- The slot of a COUNTS request: CONTEXT names it in class 2, and in class 4 a dispatch table (Table 3.3), for the active slot
whose next COUNTS step has that table (DEDUCED, assumption log 32). -/
def Device.countsSlot (d : Device) (p : Nat) (f : Frame) : Option Nat :=
  if f.cls = 2 then some f.context
  else (d.activeSlots p).find? (fun sl =>
    match d.countsStep p sl with
    | some i => stAux (d.stepWord p sl i) = f.context
    | none => false)

/-- A COUNTS request for a slot (R175, R176): the checks of Table 8.6 that apply to it, then its counts. -/
def Device.countsFor (d : Device) (p sl : Nat) (f : Frame) : Device :=
  let h := beNat f.payload 0 4
  let n := fld h 0 11
  if sl > 0x3FF || d.get .slotState p sl = 0 || f.payload.length ≠ 4 + 4 * n || n = 0 || n > 1023 || fld h 26 6 ≠ 0 ||
      fld h 11 5 ≠ 0 then d.badMsg p sl
  else if f.tenant ≠ d.get .slotTenant p sl then (d.bump .seqTenantReject p 0).causeCollective p 2 sl
  else
    match d.memberOf p (d.get .slotGroup p sl) f.srcDevice f.srcPort with
    | none => d.bump .seqNonmember p 0
    | some m =>
      if d.get .slotState p sl ≠ 2 && d.get .slotState p sl ≠ 3 then d.bump .seqStale p 0
      else
        match d.countsStep p sl with
        | none => d.bump .seqStale p 0
        | some i =>
          let aux := stAux (d.stepWord p sl i)
          let s := d.slot p sl
          let first := fld h 16 10
          let es := (List.range n).map (fun k => (m, first + k, beNat f.payload (4 + 4 * k) 4))
          let s := { s with counts := s.counts ++ es }
          let last := bit f.flags 5
          if first + n > d.countDests p aux || (last && s.lasts.contains m) then (d.failSlot p sl 0x22).run p
          else (d.setSlot p sl (if last then { s with lasts := s.lasts ++ [m] } else s)).run p

/-- A COUNTS request; one of class 4 for whose table no COUNTS step stands is stale (DEDUCED, assumption log 32). -/
def Device.countsRx (d : Device) (p : Nat) (f : Frame) : Device :=
  match d.countsSlot p f with
  | some sl => d.countsFor p sl f
  | none => d.bump .seqStale p 0

/-! ### What the lookup relays for a slot (R163, R178) -/

/-- A RED_RESULT relayed by a BROADCAST step: its last frame completes the step. -/
def Device.noteRelay (d : Device) (p : Nat) (f : Frame) : Device :=
  match d.relayFor p f.context with
  | some (sl, i, _) =>
    if bit f.flags 5 then (d.setSlot p sl { d.slot p sl with relayed := (d.slot p sl).relayed ++ [i] }).run p else d
  | none => d

/-- Add to an entry of a list of counts. -/
def addTo (l : List (Nat × Nat)) (k n : Nat) : List (Nat × Nat) :=
  if l.any (fun e => e.1 = k) then l.map (fun e => if e.1 = k then (k, e.2 + n) else e) else l ++ [(k, n)]

/-- The multicast set of a DATA frame for an ALLGATHER step that runs (R163), with its slot and member. -/
def Device.gatherFor (d : Device) (p : Nat) (f : Frame) : Option (Nat × Nat) :=
  let sl := f.context
  if sl ≤ 0x3FF && d.runsStep p sl 9 && f.tenant = d.get .slotTenant p sl then
    (d.memberOf p (d.get .slotGroup p sl) f.srcDevice f.srcPort).map (fun m => (stAux (d.stepWord p sl (d.get .slotStepNow p sl)), m))
  else none

/-- Note the bytes relayed for a member. -/
def Device.noteGather (d : Device) (p sl m n : Nat) : Device :=
  (d.setSlot p sl { d.slot p sl with got := addTo (d.slot p sl).got m n }).run p

/-- Where a DISPATCH frame goes (R178): the slot, the expert and its member's entry. -/
def Device.dispatchFor (d : Device) (p : Nat) (f : Frame) : Option (Nat × Nat × Nat) :=
  let t := f.context
  let e := f.offset / 2 ^ 22
  if t > 0x7FF then none
  else
    match d.dispatchSlot p t with
    | none => none
    | some sl =>
      let en := d.get .dispEntry p (t * 65536 + e)
      let g := d.get .slotGroup p sl
      let cap := fld en 0 20
      let v := d.member p g (fld en 20 12)
      if e ≥ d.get .dispExperts p t || (cap ≠ 0xFFFFF && f.offset % 2 ^ 22 ≥ cap) || fld en 20 12 ≥ d.members p g ||
        memLink v > 0x83 then none
      else some (sl, e, v)

/-- A token is forwarded when its last frame is. -/
def Device.noteToken (d : Device) (p sl e : Nat) (last : Bool) : Device :=
  if last then (d.setSlot p sl { d.slot p sl with forwarded := addTo (d.slot p sl).forwarded e 1 }).run p else d

/-! ### Inbox -/

/-- Take a frame for a unit out of the inbox, where it stands there. -/
def Device.takeIn (d : Device) (p u : Nat) (f : Frame) : Device :=
  match d.inbox.find? (fun e => e.1 = p && e.2.1 = u && e.2.2.2 = f) with
  | some e => { d with inbox := d.inbox.erase e }
  | none => d

/-! ### Reducer frames -/

/-- Whether a queued copy is at the head of its queue toward a sink (R73). -/
def Device.atHead (d : Device) (p id o : Nat) : Bool :=
  match d.copy? p id with
  | none => false
  | some c =>
    match d.frame? p c.fid with
    | none => false
    | some f =>
      c.stage = .queued && c.wait.contains o &&
        !(d.copiesOf p).any (fun e => e.2.stage = .queued && e.2.wait.contains o && e.2.seq < c.seq &&
          (match d.frame? p e.2.fid with | some g => g.input = f.input && g.cls = f.cls | none => false))

/-- A sink has read a copy's last cell: the release point of Table 4.2. -/
def Device.readCopy (d : Device) (p id o : Nat) : Device :=
  match d.copy? p id with
  | none => d
  | some c => d.setCopy p id { c with wait := c.wait.filter (· ≠ o), due := c.due ++ [o] }

/-- A frame stays in its kite while the entries of its context are being cleared (spec/07 R137). -/
def Device.clearsFor (d : Device) (p : Nat) (f : FrameRec) : Bool :=
  let x := f.frame.context
  x ≤ 0x7FF && (d.rctx p x).clearing && d.ctxRuns p x

/-- REDUCER_FRAME: the frame at the head of a queue of the column is read, unless its context is being cleared. -/
def Device.reducerFrame (d : Device) (p col id : Nat) : Device :=
  let o := 200 + col
  if !d.atHead p id o || d.get .reducerState p col ≠ 0 then d
  else
    match (d.copy? p id).bind (fun c => d.frame? p c.fid) with
    | none => d
    | some fr =>
      if d.clearsFor p fr then d
      else
        let r := (d.readCopy p id o).reduceFrame p fr.frame
        r.1.ctxEvent p fr.frame.context r.2 none

/-- RCTX_CLEAR_DONE. -/
def Device.clearDone (d : Device) (p x : Nat) : Device :=
  let c := d.rctx p x
  if !c.clearing then d
  else
    let d := d.setRctx p x { c with clearing := false }
    let d := if d.ctxState p x = 4 && c.hold = 0 && !c.held then d.restartCtx p x else d
    let d := d.ctxNotice p x
    let d := if d.get .rctxAbortCmd p x = 1 && d.ctxState p x ≠ 4 then d.set .rctxAbortCmd p x 2 else d
    (d.resumeSlot p c.slot).run p

/-- A write to `rctx_abort_cmd`. -/
def Device.rctxAbort (d : Device) (p ses : Nat) : Device :=
  let t : Target := ⟨.rctxAbortCmd, p, 0⟩
  let x := d.place t ses
  if !d.ctxRuns p x then d.cmdReads t ses 3
  else
    let d := (d.cmdReads t ses 1).abortAnd p x 4 none
    if d.ctxState p x = 4 then d else d.cmdReads t ses 2

/-! ### Commands -/

/-- RCTX_CLEAR_DONE. -/
def execRctxClearDone (p : Plane) (x : Rctx) (s : State) : Res := s.runOn p (fun d => d.clearDone p x)
/-- RCTX_IDLE_TIMEOUT (R155 status 0x03). -/
def execRctxIdleTimeout (p : Plane) (x : Rctx) (s : State) : Res := s.runOn p (fun d => d.abortAnd p x 3 none)
/-- RCTX_ABORT_CMD. -/
def execRctxAbortCmd (p : Plane) (rq : Req) (s : State) : Res :=
  s.run (fun d => d.commandNow rq ⟨.rctxAbortCmd, p, 0⟩ 1 (fun d => d.rctxAbort p rq.ses.val))
/-- ACCUMULATOR_ERROR (R155 status 0x02): an entry of the context. -/
def execAccumulatorError (p : Plane) (x : Rctx) (elem : Nat) (s : State) : Res :=
  s.runOn p (fun d => if elem < 32 * dBlocks (d.ctxDesc p x) then d.abortAnd p x 2 none else d)
/-- SLOT_LOAD. -/
def execSlotLoad (p : Plane) (rq : Req) (s : State) : Res :=
  s.run (fun d => d.command rq ⟨.slotCmd, p, 0⟩ 1 (fun d => d.slotCmd p rq.ses.val 1))
/-- SLOT_LAUNCH. -/
def execSlotLaunch (p : Plane) (rq : Req) (s : State) : Res :=
  s.run (fun d => d.command rq ⟨.slotCmd, p, 0⟩ 2 (fun d => d.slotCmd p rq.ses.val 2))
/-- SLOT_STOP. -/
def execSlotStop (p : Plane) (rq : Req) (s : State) : Res :=
  s.run (fun d => d.command rq ⟨.slotCmd, p, 0⟩ 3 (fun d => d.slotCmd p rq.ses.val 3))
/-- SLOT_CLEAR. -/
def execSlotClear (p : Plane) (rq : Req) (s : State) : Res :=
  s.run (fun d => d.command rq ⟨.slotCmd, p, 0⟩ 4 (fun d => d.slotCmd p rq.ses.val 4))
/-- LAUNCH. -/
def execLaunch (p : Plane) (f : Frame) (s : State) : Res := s.runOn p (fun d => (d.takeIn p unitSeq f).seqIn p f)
/-- SIGNAL. -/
def execSignal (p : Plane) (f : Frame) (s : State) : Res := s.runOn p (fun d => (d.takeIn p unitSeq f).seqIn p f)
/-- NOTIFY. -/
def execNotify (p : Plane) (f : Frame) (s : State) : Res := s.runOn p (fun d => (d.takeIn p unitSeq f).seqIn p f)
/-- ABORT_CTX. -/
def execAbortCtx (p : Plane) (f : Frame) (s : State) : Res := s.runOn p (fun d => (d.takeIn p unitSeq f).seqIn p f)
/-- REPORT. -/
def execReport (p : Plane) (f : Frame) (s : State) : Res := s.runOn p (fun d => (d.takeIn p unitSeq f).seqIn p f)
/-- CONTRIBUTE. -/
def execContribute (p : Plane) (f : Frame) (s : State) : Res := s.runOn p (fun d => (d.takeIn p unitSeq f).seqIn p f)
/-- XREADY. -/
def execXready (p : Plane) (f : Frame) (s : State) : Res := s.runOn p (fun d => (d.takeIn p unitSeq f).seqIn p f)
/-- FAILED. -/
def execFailed (p : Plane) (f : Frame) (s : State) : Res := s.runOn p (fun d => (d.takeIn p unitSeq f).seqIn p f)
/-- STEP_TIMEOUT (R165 status 0x23). -/
def execStepTimeout (p : Plane) (sl : SlotId) (s : State) : Res :=
  s.runOn p (fun d => if d.get .slotState p sl = 2 || d.get .slotState p sl = 3 then (d.failSlot p sl 0x23).run p else d)
/-- XSITE_TIMEOUT (R165 status 0x24). -/
def execXsiteTimeout (p : Plane) (sl : SlotId) (s : State) : Res :=
  s.runOn p (fun d => if d.runsStep p sl 6 && (d.slot p sl).xready.isNone then (d.failSlot p sl 0x24).run p else d)
/-- COUNTS. -/
def execCounts (p : Plane) (f : Frame) (s : State) : Res := s.runOn p (fun d => (d.takeIn p unitSeq f).countsRx p f)
/-- GRP_EXCLUDE. -/
def execGrpExclude (p : Plane) (v : BitVec 16) (rq : Req) (s : State) : Res :=
  s.run (fun d => d.request rq (fun d =>
    d.doWrite rq ⟨⟨.grpExclude, p, 0⟩, 2, v.toNat⟩ (fun d => d.grpExcludeOk p rq.ses.val v.toNat)
      (fun d => (d.grpExclude p rq.ses.val v.toNat, true))))
/-- GRP_COMMIT. -/
def execGrpCommit (p : Plane) (rq : Req) (s : State) : Res :=
  s.run (fun d => d.commandNow rq ⟨.grpCommitCmd, p, 0⟩ 1 (fun d => d.grpCommit p rq.ses.val))
/-- GRP_BOUNDARY. -/
def execGrpBoundary (p : Plane) (g : GroupId) (s : State) : Res := s.runOn p (fun d => d.grpBoundary p g)

/-- A write to `sync_value`: the value is loaded and the saturation flag cleared (R174). -/
def Device.syncWrite (d : Device) (p o v : Nat) : Device := ((d.set .syncValue p o v).set .syncSaturatedFlag p o 0).run p

/-- SYNC_VALUE_WRITE. -/
def execSyncValueWrite (p : Plane) (v : BitVec 64) (rq : Req) (s : State) : Res :=
  s.run (fun d => d.request rq (fun d =>
    let t : Target := ⟨.syncValue, p, 0⟩
    d.doWrite rq ⟨t, 8, v.toNat⟩ (fun _ => true) (fun d => (d.syncWrite p (d.place t rq.ses.val) v.toNat, true))))
/-- COMPRESS_UNIT. -/
def execCompressUnit (p : Plane) (c : Fin 256) (s : State) : Res := s.runOn p (fun d => d.cmpUnit p c)

/-- LR_TILE: a refused record ends the context FAILED and the slot with it (R203). -/
def Device.lrTileRx (d : Device) (p : Nat) (f : Frame) : Device :=
  let r := d.lrTile p f
  match r.2 with
  | .mismatch x _ => (r.1.failCtx p x 0x10).ctxEvent p x (.failed 0x10) none
  | _ => r.1

/-- LR_TILE. -/
def execLrTile (p : Plane) (f : Frame) (s : State) : Res := s.runOn p (fun d => (d.takeIn p 144 f).lrTileRx p f)
/-- CCTX_LOAD. -/
def execCctxLoad (p : Plane) (rq : Req) (s : State) : Res :=
  s.run (fun d => d.command rq ⟨.cctxCmd, p, 0⟩ 1 (fun d => d.cctxCmd p rq.ses.val 1))
/-- CCTX_CLEAR. -/
def execCctxClear (p : Plane) (rq : Req) (s : State) : Res :=
  s.run (fun d => d.command rq ⟨.cctxCmd, p, 0⟩ 2 (fun d => d.cctxCmd p rq.ses.val 2))

end Sys2Proof.Machine
end

