-- ==== Sys2Proof/Machine/Receive.lean ====
section
/-! DEFINITION. What a plane does with a forwarded frame it receives: the receive checks (spec/03 R52 to R57, R480, R483), the
lookup and the partition rule (spec/04 R77, R78; spec/02 R33), tenants' charges (spec/16 R359, R361) and resequencing
(spec/04 R81, R82). -/

namespace Sys2Proof.Machine

/-! ### Checks 4 to 7 of Table 3.9 -/

/-- The fate of a frame under checks 4 to 7. -/
inductive Verdict where
  | pass
  | malformed
  | wrongPlane
  | suspended
  | tenant
  | hops
  deriving DecidableEq, Repr

/-- Whether a DATA frame to DEST_PORT 0xFE is a sequencer message (spec/08 R166). -/
def isMsg (f : Frame) : Bool := f.opcode = opData && f.cls = 4 && f.length = 16

/-- Whether a frame ends at this device: it is taken in by a unit and not sent on (check 7). -/
def Device.endsHere (d : Device) (p : Nat) (f : Frame) : Bool :=
  f.destDevice = d.devId p &&
    (f.opcode = opCkptWrite || f.opcode = opCkptRead || f.destPort = 0xFF ||
      (f.destPort = 0xFE && f.opcode ≠ opRedResult && f.opcode ≠ opDispatch && (f.opcode ≠ opData || isMsg f)))

/-- Checks 4 to 7 in order; `bound` says whether the frame's TENANT is in the bound set. Ingress frames of a suspended tenant
are discarded in place of check 6 (spec/16 R361). -/
def Device.verdict (d : Device) (p : Nat) (f : Frame) (bound : Bool) : Verdict :=
  if !f.formOk then .malformed
  else if f.destPlane ≠ p then .wrongPlane
  else if f.tenant ≠ 0 && d.get .tnState p f.tenant = 2 then .suspended
  else if !bound then .tenant
  else if f.hops = 0 && !d.endsHere p f && f.opcode ≠ opPtp then .hops
  else .pass

/-- The bound set of a fabric port (check 6, spec/16 R358): T0000 alone in classes 5 and 6, T0000 in class 7 where it is bound,
and in no other class. -/
def Device.boundTo (d : Device) (p n : Nat) (f : Frame) : Bool :=
  let held := (List.range 64).any (fun e => d.get .tenantBind p (n * 256 + e) = f.tenant)
  if f.cls = 5 || f.cls = 6 then f.tenant = 0 else if f.tenant = 0 then f.cls = 7 && held else held

/-! ### The way into the plane -/

/-- How a frame goes on after the checks. -/
structure Onward where
  outs : List Nat
  grp : Option Nat
  /-- several targets from a multicast set -/
  many : Bool := false

/-- The targets of a frame in the input's partition (R33, R77): others are counted in `mcast_omitted`; an empty set counts 1;
false where none is left. -/
def Device.omitted (d : Device) (p input : Nat) (w : Onward) : Device × List Nat :=
  let ok := w.outs.filter (d.samePart p input)
  if w.outs = [] then (d.bump .mcastOmitted p 0, [])
  else (d.count .mcastOmitted p 0 (w.outs.length - ok.length), ok)

/-- Return a fabric input's credit for a frame that was not stored; other inputs have none. -/
def Device.creditBack (d : Device) (p : Nat) (input : Nat) (f : Frame) : Device :=
  if input < 128 then d.returnCredit p input f.cls f.cells else d

/-- Store a frame in the array: a fabric frame is charged to its tenant (R359) and written at once; one from another input, or
one the resequencer held, waits for R71. A frame with d = 0 does not wait for frames of its flow that still wait under R71
(DEDUCED, assumption log 28). -/
def Device.enter (d : Device) (p input : Nat) (f : Frame) (outs : List Nat) (grp : Option Nat) (direct : Bool) : Device :=
  if direct && input < 128 then
    if f.tenant ≠ 0 && !d.quotaFits p f.tenant f.cells then (d.tenantDrop p f.tenant input).creditBack p input f
    else d.enterStore p input f outs grp (f.tenant ≠ 0) (some input)
  else d.hold p input f outs grp

/-- Send a frame toward its targets, the partition rule applied (check 8). `direct` is false for a frame that the resequencer
held, whose credit has been returned already. -/
def Device.onward (d : Device) (p input : Nat) (f : Frame) (w : Onward) (direct : Bool) : Device :=
  let back := fun (d : Device) => if direct then d.creditBack p input f else d
  if w.many then
    let r := d.omitted p input w
    if r.2 = [] then back r.1 else r.1.enter p input f r.2 w.grp direct
  else
    match w.outs with
    | [o] =>
      if d.samePart p input o then d.enter p input f [o] w.grp direct
      -- a frame off the long-haul line counts in `lh_rx_reject` (spec/10 R227)
      else back ((d.bump (if 128 ≤ input && input < 144 then .lhRxReject else .partitionDiscard) p 0).causeFabric p 6 (portUnit input))
    | _ => back d

/-- Output selection and what the owning units note of it (R78, R486; spec/08 R163, R178). -/
def Device.dispatchFrame (d : Device) (p input : Nat) (f : Frame) (direct : Bool) : Device :=
  let back := fun (d : Device) => if direct then d.creditBack p input f else d
  let engine := f.destDevice = d.devId p && f.destPort = 0xFE
  if engine && f.opcode = opData && !isMsg f then
    match d.gatherFor p f with
    | some (set, m) =>
      (d.onward p input f ⟨d.setPorts p set, some (d.get .slotGroup p f.context), true⟩ direct).noteGather p f.context m f.length
    | none => back d
  else if engine && f.opcode = opDispatch then
    match d.dispatchFor p f with
    | some (sl, e, v) =>
      let g := (f.setFld 212 12 (memDevice v)).setFld 200 8 (memPort v)
      (d.onward p input g ⟨[linkSw (memLink v)], none, false⟩ direct).noteToken p sl e (bit f.flags 5)
    | none => back (d.bump .dispReject p 0)
  else
    let r := d.route p input f
    match r.2 with
    | .to outs g =>
      let d := r.1.onward p input f ⟨outs, g, g.isSome⟩ direct
      if engine && f.opcode = opRedResult then d.noteRelay p f else d
    | .unit u =>
      let d := { r.1 with inbox := r.1.inbox ++ [(p, u, input, f)] }
      -- the class 1 credit of a frame for Ballast returns when it has been decided (spec/12 R277)
      if u = 152 then d else back d
    | .miss => back (r.1.routeMiss p)
    | .noContext => back (r.1.bump .redNoContext p 0)

/-! ### Resequencing (R81, R82) -/

/-- Whether the plane resequences a frame's flow. -/
def Device.reseqs (d : Device) (p : Nat) (f : Frame) : Bool :=
  f.opcode = opSpray && f.destDevice = d.devId p && (0x80 ≤ f.destPort)

/-- A flow's entry. -/
def Device.flow? (d : Device) (p : Nat) (id : FlowId) : Option Flow := d.flows.find? (fun w => w.plane = p && w.id = id)

/-- Replace or add a flow entry. -/
def Device.setFlow (d : Device) (w : Flow) : Device :=
  if d.flows.any (fun x => x.plane = w.plane && x.id = w.id) then
    { d with flows := d.flows.map (fun x => if x.plane = w.plane && x.id = w.id then w else x) }
  else { d with flows := d.flows ++ [w] }

/-- The requester of a flow's reorder buffers: its tenant, or the system requester in classes 5 to 7 (spec/05 5.4). -/
def flowReq (id : FlowId) : Nat := if id.cls.toNat ≥ 5 then sysReq else requester id.tenant.toNat

/-- Distance of a sequence number above another, modulo 2^24. -/
def seqDist (a b : Nat) : Nat := (a + 2 ^ 24 - b % 2 ^ 24) % 2 ^ 24

/-- Pass a held frame on: its buffer is freed, and it enters as a frame of an internal input. -/
def Device.passHeld (d : Device) (p : Nat) (id : FlowId) (h : Held) : Device :=
  (d.free p 1 (flowReq id) h.buf).dispatchFrame p h.input h.frame false

/-- Pass on what is in sequence; where the expected value then stands at a gap whose time has run out, or `force` says that it
has, skip it and go on (R82). -/
def Device.flowRun (d : Device) (p : Nat) (id : FlowId) : Nat → Bool → Device
  | 0, _ => d
  | fuel + 1, force =>
    match d.flow? p id with
    | none => d
    | some w =>
      match w.held.find? (fun h => h.seq = w.expected) with
      | some h =>
        let d := d.setFlow { w with expected := (w.expected + 1) % 2 ^ 24, held := w.held.filter (fun x => x.seq ≠ h.seq) }
        (d.passHeld p id h).flowRun p id fuel force
      | none =>
        match argMin (fun h => seqDist h.seq w.expected) w.held, argMin (fun h => h.at_) w.held with
        | some lo, some first =>
          if force || first.at_ + d.get .reseqTimeoutUs p 0 * 1000 ≤ d.clock then
            let n := seqDist lo.seq w.expected
            let d := d.setFlow { w with expected := lo.seq }
            ((d.count .reseqGap p 0 n).causeSwitch p 2 0).flowRun p id fuel false
          else d
        | _, _ => d

/-- A SPRAY_DATA frame of a flow that the plane resequences. -/
def Device.reseqFrame (d : Device) (p input : Nat) (f : Frame) : Device :=
  let id := f.flow
  let back := fun (d : Device) => d.creditBack p input f
  match d.flow? p id with
  | none =>
    if (d.flows.filter (fun w => w.plane = p)).length ≥ 16384 then
      ((d.bump .reseqUntracked p 0).causeSwitch p 3 0).dispatchFrame p input f true
    else
      (d.setFlow { plane := p, id := id, expected := (f.flowSeq + 1) % 2 ^ 24, held := [], lastRx := d.clock }).dispatchFrame
        p input f true
  | some w =>
    let d := d.setFlow { w with lastRx := d.clock }
    let n := seqDist f.flowSeq w.expected
    if n = 0 then
      let d := d.setFlow { w with expected := (w.expected + 1) % 2 ^ 24, lastRx := d.clock }
      (d.dispatchFrame p input f true).flowRun p id 4096 false
    else if n < 2048 && !w.held.any (fun h => h.seq = f.flowSeq) then
      let r := d.alloc p 1 (flowReq id)
      match r.2 with
      | none => back (r.1.bump .reseqStoreFull p 0)
      | some b =>
        back (r.1.setFlow { w with held := w.held ++ [{ seq := f.flowSeq, input := input, frame := f, at_ := d.clock, buf := b }],
                                   lastRx := d.clock })
    else back (d.bump .reseqWindowDrop p 0)

/-- A frame that has passed checks 1 to 7 and whose trailer is good goes on. -/
def Device.intake (d : Device) (p input : Nat) (f : Frame) : Device :=
  if d.reseqs p f then d.reseqFrame p input f else d.dispatchFrame p input f true

/-! ### A frame received on a fabric port -/

/-- Send the one RETRY_NAK of a gap (R53). A resend of the expected frame that is bad again belongs to the same gap (DEDUCED,
assumption log 24). -/
def Device.nakOnce (d : Device) (p n : Nat) : Device :=
  if (d.port p n).nakSent then d else (d.setPort p n { d.port p n with nakSent := true }).sendNak p n

/-- Take a frame into sequence: the expected number advances and its cells are received (R53, R54). -/
def Device.accept (d : Device) (p n : Nat) (f : Frame) : Device :=
  let s := d.port p n
  d.setPort p n { s with rxExp := (s.rxExp + 1) % 4096, nakSent := false, rcvd := addCount s.rcvd f.cls f.cells }

/-- What lookup gives a frame that goes to outputs: the frame with the address it leaves with, its outputs and the group whose
members' addresses its copies take; no output for any other frame. -/
def Device.lookupOf (d : Device) (p input : Nat) (f : Frame) : Frame × List Nat × Option Nat :=
  if f.destDevice = d.devId p && f.destPort = 0xFE && f.opcode = opData && !isMsg f then
    match d.gatherFor p f with
    | some (set, _) => (f, d.setPorts p set, some (d.get .slotGroup p f.context))
    | none => (f, [], none)
  else if f.destDevice = d.devId p && f.destPort = 0xFE && f.opcode = opDispatch then
    match d.dispatchFor p f with
    | some (_, _, v) => ((f.setFld 212 12 (memDevice v)).setFld 200 8 (memPort v), [linkSw (memLink v)], none)
    | none => (f, [], none)
  else
    match (d.route p input f).2 with
    | .to outs g => (f, outs, g)
    | _ => (f, [], none)

/-- The outputs that lookup gives a frame, where it gives any. -/
def Device.outputsOf (d : Device) (p input : Nat) (f : Frame) : List Nat := (d.lookupOf p input f).2.1

/-- Check 8 of Table 3.9 fails: lookup gives the frame outputs and none lies in the input's partition. The frames of a flow that
the plane resequences meet the check as they are passed on. -/
def Device.outOfPart (d : Device) (p input : Nat) (f : Frame) : Bool :=
  let outs := d.outputsOf p input f
  !d.reseqs p f && outs ≠ [] && !outs.any (d.samePart p input)

/-- Count an accepted frame in `rx_frames` and `rx_bytes`: one that passes every check of Table 3.9, check 8 with them, since a
frame that fails increments one counter alone (R57). -/
def Device.countRx (d : Device) (p n : Nat) (f : Frame) : Device :=
  let outs := d.outputsOf p n f
  if outs = [] || outs.any (d.samePart p n) then (d.bump .rxFrames p n).count .rxBytes p n f.bytes else d

/-- Whether the sender had credit for a frame, as the receiver sees it: the limit less the cells received and not reported as
freed (R50, R52). -/
def PortSt.hadCredit (s : PortSt) (f : Frame) : Bool :=
  (nth s.rcvd f.cls + 65536 - nth s.reported f.cls) % 65536 + f.cells ≤ nth s.limRx f.cls

/-- A discard under checks 4 to 7 on a fabric port: its counter and cause. -/
def Device.rejectPort (d : Device) (p n : Nat) (f : Frame) (v : Verdict) : Device :=
  match v with
  | .pass => d
  | .malformed => (d.bump .opcodeReject p n).causeFabric p 2 n
  | .wrongPlane => (d.bump .planeReject p n).causeFabric p 3 n
  | .suspended => d.bump .tnSuspendDrop p f.tenant
  | .tenant => (d.bump .tenantReject p n).causeFabric p 4 n
  | .hops => (d.bump .hopsExpired p n).causeFabric p 5 n

/-- Rate of a fabric port in units of 50 Gb/s. -/
def Device.portSpeed (d : Device) (p n : Nat) : Nat := if d.get .portRate p n = 1 then 3 else 4

/-- Whether an output can have begun to send a frame of fabric input n before the frame ended (R67, R69, R480): a fabric port in
UP at no more than the input's rate, the frame written directly into its kite at the head of its queue. Engines and long-haul
ports wait for the last cell. -/
def Device.cutThrough (d : Device) (p n : Nat) (f : Frame) (o : Nat) : Bool :=
  let r := group n
  o < 128 && d.get .portState p o = 4 && d.portSpeed p o ≤ d.portSpeed p n && !d.parkMode p n f.cls (group o) &&
    (match d.kiteFor p r (group o) with
      | some k => f.cells ≤ d.kiteFree p r k
      | none => false) &&
    !(d.copiesOf p).any (fun e => e.2.row = r && e.2.stage = .queued && e.2.wait.contains o &&
      (match d.frame? p e.2.fid with
        | some g => g.input = n && g.cls = f.cls
        | none => false))

/-- The outputs among `outs` that had begun, one free value each. -/
def Device.begun (d : Device) : List Nat → Device × List Nat
  | [] => (d, [])
  | o :: rest =>
    let x := d.fresh
    let y := x.2.begun rest
    (y.1, if x.1 % 2 = 1 then o :: y.2 else y.2)

/-- A frame with a bad or stomped trailer may have begun to leave cut-through; then the copies that had begun end stomped, and no
other copy is sent (R53, R67, R480). Whether an output that could have begun had done so is a free value (assumption log 25). -/
def Device.stompOnward (d : Device) (p n : Nat) (f : Frame) : Device :=
  if d.reseqs p f then d
  else
    let w := d.lookupOf p n f
    let x := d.begun (w.2.1.filter (fun o => d.samePart p n o && d.cutThrough p n f o))
    if x.2 = [] then x.1 else x.1.enterStore p n w.1.stomp x.2 w.2.2 false none

/-- Discard a frame that is not taken into sequence: its cells were charged to the port and are freed at once (R50, Table 3.8).
One with a bad HDR_CRC names no class and no length that could be trusted, so nothing is freed for it (DEDUCED, assumption log
25). -/
def Device.discardRx (d : Device) (p n : Nat) (f : Frame) : Device :=
  let s := d.port p n
  d.setPort p n { s with rcvd := addCount s.rcvd f.cls f.cells, freed := addCount s.freed f.cls f.cells }

/-- A forwarded frame received on a fabric port in UP: checks 1 to 9 in order. -/
def Device.rxUp (d : Device) (p n : Nat) (f : Frame) : Device :=
  if !f.crcOk then ((d.bump .hdrCrcErr p n).causeFabric p 0 n).nakOnce p n
  else
    let s := d.port p n
    let k := (f.linkSeq + 4096 - s.rxExp) % 4096
    if k ≠ 0 then
      let d := (d.bump .outOfSeq p n).discardRx p n f
      if k < 2048 then (d.creditDue p n).nakOnce p n else d.sendCredit p n
    else if !s.hadCredit f then
      (((d.accept p n f).bump .creditViolation p n).causeFabric p 1 n).creditBack p n f
    else
      let v := d.verdict p f (d.boundTo p n f)
      if v ≠ .pass then ((d.accept p n f).rejectPort p n f v).creditBack p n f
      else if d.outOfPart p n f then (d.accept p n f).intake p n f
      else
        match f.trailerCheck with
        | .bad => (((((d.bump .crc32Err p n).causeFabric p 0 n).discardRx p n f).creditDue p n).nakOnce p n).stompOnward p n f
        | .stomped => (((d.accept p n f).bump .stompedRx p n).creditBack p n f).stompOnward p n f
        | .good =>
          let d := (d.accept p n f).countRx p n f
          if f.opcode = opPtp then (d.ptpTaken p f).creditBack p n f else d.intake p n f

/-- RX_FORWARDED_FRAME: without codeword lock nothing is seen; a port that is not UP discards and counts (R483). -/
def Device.rxForwarded (d : Device) (p n : Nat) (f : Frame) : Device :=
  if !d.live p || d.get .portState p n < 2 then d
  else
    let d := (d.notIdle p n).startBlock p n
    if d.get .portState p n = 4 then d.rxUp p n f else d.bump .rxNotUp p n

/-! ### Commands -/

/-- RX_FORWARDED_FRAME. -/
def execRxForwardedFrame (p : Plane) (n : Port) (f : Frame) (s : State) : Res := s.carry p (fun d => d.rxForwarded p n f)

/-- RESEQ_GAP_TIMEOUT. -/
def execReseqGapTimeout (p : Plane) (flow : FlowId) (s : State) : Res := s.runOn p (fun d => d.flowRun p flow 4096 true)

/-- RESEQ_FLOW_EXPIRE: an entry that holds no frame is removed. -/
def execReseqFlowExpire (p : Plane) (flow : FlowId) (s : State) : Res :=
  s.runOn p (fun d =>
    { d with flows := d.flows.filter (fun w => !(w.plane = p.val && w.id = flow && w.held = [])) })

end Sys2Proof.Machine
end

