-- ==== Sys2Proof/Machine/Ballast.lean ====
section
/-! DEFINITION. The checkpoint store (spec/12_ballast_checkpoint_store.md): regions, versions, commit, replication, tier 2 and
restore. -/

namespace Sys2Proof.Machine

/-- A region beside its objects. -/
def Device.rgn (d : Device) (p g : Nat) : RgnSt := Tbl.get d.rgns (p, g) {}
/-- Replace it. -/
def Device.setRgn (d : Device) (p g : Nat) (v : RgnSt) : Device := { d with rgns := Tbl.put Ix.lt d.rgns (p, g) v {} }

/-- The switch port of the checkpoint engine (Table 4.1). -/
def ckptSw : Nat := 152
/-- The checkpoint pool (Table 5.2). -/
def ckptPool : Nat := 4

/-- CRC-64 of a page (R278). -/
def pageCrc (b : Bytes) : Nat := crc 64 0x42F0E1EBA9EA3693 0xFFFFFFFFFFFFFFFF 0xFFFFFFFFFFFFFFFF b

/-! Fields of the descriptor (Table 12.1). -/

/-- TENANT. -/
def Device.rgnTenant (d : Device) (p g : Nat) : Nat := fld (d.get .rgnDesc p g) 52 12
/-- ROLE replica. -/
def Device.rgnReplica (d : Device) (p g : Nat) : Bool := fld (d.get .rgnDesc p g) 50 2 = 1
/-- DELTA. -/
def Device.rgnDelta (d : Device) (p g : Nat) : Bool := bit (d.get .rgnDesc p g) 49
/-- KEEP. -/
def Device.rgnKeep (d : Device) (p g : Nat) : Nat := fld (d.get .rgnDesc p g) 44 3
/-- The pool requester of a region. -/
def Device.rgnReq (d : Device) (p g : Nat) : Nat := requester (d.rgnTenant p g)

/-- The tier-1 buffers a region holds. -/
def RgnSt.bufs (r : RgnSt) : List Nat := ((r.cur ++ r.prog).map (·.buf)).dedup

/-- `rgn_t1_held`. -/
def Device.rgnHeld (d : Device) (p g : Nat) : Nat := (d.rgn p g).bufs.length

/-- The page of a number. -/
def pageOf (l : List Page) (n : Nat) : Option Page := l.find? (fun x => x.no = n)

/-- Replace the region's lists and free the buffers that it no longer refers to. -/
def Device.keepPages (d : Device) (p g : Nat) (cur prog : List Page) : Device :=
  let r := d.rgn p g
  let r' := { r with cur := cur, prog := prog }
  (d.setRgn p g r').freeAll p ckptPool (d.rgnReq p g) (r.bufs.filter (fun b => !r'.bufs.contains b))

/-- Empty the in-progress version. -/
def Device.dropProgress (d : Device) (p g : Nat) : Device :=
  let d := d.keepPages p g (d.rgn p g).cur []
  d.setRgn p g { d.rgn p g with incomplete := false, recv := 0, seen := [] }

/-! ### Checks (Table 12.2) -/

/-- The region of CONTEXT, where it is one and not EMPTY (check 1). -/
def Device.ckptRegion (d : Device) (p : Nat) (f : Frame) : Option Nat :=
  if f.context ≤ 0x3FF && d.get .rgnState p f.context ≠ 0 then some f.context else none

/-- Whether a frame of LENGTH 32 is a control record of a type, without reserved bits (Table 12.4). -/
def recordOk (f : Frame) (typ : Nat) : Bool :=
  let v := bytesToNat f.payload
  f.length = 32 && f.payload.length = 32 && fld v 248 8 = typ && fld v 0 144 = 0

/-- How far FLOW_SEQ lies ahead of the in-progress number, modulo 2^24. -/
def Device.ckptAhead (d : Device) (p g : Nat) (f : Frame) : Nat := seqDist f.flowSeq ((d.rgn p g).next % 2 ^ 24)

/-- Check 5: the in-progress version, or at a replica one 1 to 2^23 − 1 ahead of it (R284). -/
def Device.ckptTimely (d : Device) (p g : Nat) (f : Frame) : Bool :=
  d.ckptAhead p g f = 0 || (d.rgnReplica p g && d.ckptAhead p g f < 2 ^ 23)

/-- Whether FLOW_SEQ is a number that a commit has sealed (R280): one of the versions up to the committed one, modulo 2^24. -/
def Device.sealed (d : Device) (p g : Nat) (f : Frame) : Bool :=
  seqDist (d.get .rgnVersion p g % 2 ^ 24) f.flowSeq < min (d.get .rgnVersion p g) (2 ^ 24)

/-- Checks 2 to 5 on a CKPT_WRITE: the first that fails counts and raises its cause; none where all pass. -/
def Device.ckptFail (d : Device) (p g : Nat) (f : Frame) : Option Device :=
  let rep := d.rgnReplica p g
  if f.tenant ≠ d.rgnTenant p g then some ((d.bump .ckptTenantReject p 0).causeBallast p 0 g)
  else if (!rep && f.srcPort = 0xFE) || (rep && !(f.srcDevice = d.get .rgnPeerDevice p g && f.srcPort = 0xFE)) then
    some ((d.bump .ckptRoleReject p 0).causeBallast p 0 g)
  else if !(f.format = 0 && ((f.length = 4096 && f.offset < d.get .rgnPages p g) || (rep && recordOk f 1))) then
    some ((d.bump .ckptMalformed p 0).causeBallast p 1 g)
  else if !d.ckptTimely p g f then
    if d.sealed p g f then some ((d.bump .ckptLateWrite p 0).causeBallast p 2 g)
    else some (d.bump .ckptStale p 0)
  else none

/-! ### Pages (R278) -/

/-- A page that no buffer takes: check 6 fails. -/
def Device.pageRefused (d : Device) (p g : Nat) : Device := d.setRgn p g { d.rgn p g with incomplete := true }

/-- Store a page of the in-progress version: unchanged against the committed version in delta mode, or in a new buffer. -/
def Device.putPage (d : Device) (p g no : Nat) (data : Bytes) : Device :=
  let r := d.rgn p g
  let c := pageCrc data
  let others := r.prog.filter (fun x => x.no ≠ no)
  match (if d.rgnDelta p g then (pageOf r.cur no).filter (fun x => x.crc = c) else none) with
  | some x => (d.keepPages p g r.cur (others ++ [x])).bump .ckptPagesUnchanged p 0
  | none =>
    let q := d.rgnReq p g
    if d.get .rgnT1Limit p g ≤ r.bufs.length then
      ((d.bump .quotaRefused p (quotaIdx ckptPool q)).causeMemory p 0 (quotaIdx ckptPool q)).pageRefused p g
    else
      let a := d.alloc p ckptPool q
      match a.2 with
      | none => a.1.pageRefused p g
      | some b => (a.1.keepPages p g r.cur (others ++ [⟨no, b, c, data⟩])).bump .ckptPagesStored p 0

/-- A replica opens the version that a frame lies ahead to (R284). -/
def Device.openVersion (d : Device) (p g k : Nat) : Device :=
  if k = 0 then d
  else
    let d := d.dropProgress p g
    d.setRgn p g { d.rgn p g with next := (d.rgn p g).next + k }

/-! ### Replication and mirroring (R282 to R285) -/

/-- Replication or mirroring of a region. -/
def RgnSt.peer (r : RgnSt) (m : Bool) : PeerSt := if m then r.mirror else r.repl
/-- Replace it. -/
def Device.setPeer (d : Device) (p g : Nat) (m : Bool) (v : PeerSt) : Device :=
  d.setRgn p g (if m then { d.rgn p g with mirror := v } else { d.rgn p g with repl := v })

/-- The objects of replication (false) or mirroring (true): peer device, peer region, state, version, descriptor bit. -/
def peerObjs (m : Bool) : Obj × Obj × Obj × Obj × Nat :=
  if m then (.rgnMirrorDevice, .rgnMirrorRegion, .mirrorState, .mirrorVersion, 47)
  else (.rgnPeerDevice, .rgnPeerRegion, .replState, .replVersion, 48)

/-- Whether a region is replicated or mirrored. -/
def Device.peerOn (d : Device) (p g : Nat) (m : Bool) : Bool :=
  !d.rgnReplica p g && bit (d.get .rgnDesc p g) (peerObjs m).2.2.2.2

/-- A control record (Table 12.4). -/
def recordBytesOf (typ status version base sent : Nat) : Bytes :=
  natToBytes 32 (typ * 2 ^ 248 + status % 256 * 2 ^ 240 + version % 2 ^ 32 * 2 ^ 208 + base % 2 ^ 32 * 2 ^ 176 +
    sent % 2 ^ 32 * 2 ^ 144)

/-- The header of a frame that the engine sends. -/
def Device.ckptMk (d : Device) (p g op dev port ctx seq off : Nat) : Mk :=
  { opcode := op, cls := 1, tenant := d.rgnTenant p g, destDevice := dev, destPlane := p, destPort := port,
    srcDevice := d.devId p, srcPort := 0xFE, context := ctx, flowSeq := seq, offset := off }

/-- A frame of a region's send still waits at the engine's input. -/
def Device.ofSend (d : Device) (p g : Nat) (m : Bool) (w : WaitIn) : Bool :=
  w.plane = p && w.input = ckptSw && w.frame.opcode = opCkptWrite &&
    w.frame.destDevice = d.get (peerObjs m).1 p g && w.frame.context = d.get (peerObjs m).2.1 p g &&
    w.frame.tenant = d.rgnTenant p g

/-- The REPL_COMMIT of the present send has not left the engine: pages are still being sent (R283). -/
def Device.sending (d : Device) (p g : Nat) (m : Bool) : Bool :=
  ((d.rgn p g).peer m).outst.isSome && d.waitIn.any (d.ofSend p g m)

/-- `repl_state` and `mirror_state`: sending while frames of the send wait at the engine's input. -/
def Device.peerState (d : Device) (p g : Nat) (m : Bool) : Nat :=
  let v := d.get (peerObjs m).2.2.1 p g
  if v = 2 && d.sending p g m then 1 else v

/-- Send the committed version (R283): pages whose CRC differs from the acknowledged one, in page order, then REPL_COMMIT. -/
def Device.sendVersion (d : Device) (p g : Nat) (m : Bool) : Device :=
  let r := d.rgn p g
  let s := r.peer m
  let o := peerObjs m
  let v := d.get .rgnVersion p g
  let pages := (sortBy (fun (x y : Page) => x.no < y.no) r.cur).filter (fun x =>
    !s.acked.any (fun a => a.1 = x.no && a.2 = x.crc))
  let base := if s.acked = [] then 0xFFFFFFFF else d.get o.2.2.2.1 p g
  let dev := d.get o.1 p g
  let ctx := d.get o.2.1 p g
  let d := pages.foldl (fun d x =>
    d.sendOwn p ckptSw ((d.ckptMk p g opCkptWrite dev 0xFE ctx v x.no).frame x.data)) d
  let d := d.sendOwn p ckptSw ((d.ckptMk p g opCkptWrite dev 0xFE ctx v 0).frame (recordBytesOf 1 0 v base pages.length))
  (d.setPeer p g m { s with pend := pages.map (fun x => (x.no, x.crc)), outst := some v }).set o.2.2.1 p g 2

/-- Abandon a send: its waiting frames and its pending CRCs. -/
def Device.abandonSend (d : Device) (p g : Nat) (m : Bool) : Device :=
  let s := (d.rgn p g).peer m
  let d : Device := { d with waitIn := d.waitIn.filter (fun w => !d.ofSend p g m w) }
  d.setPeer p g m { s with pend := [], outst := none }

/-- A new committed version is to be replicated or mirrored (R283): at once when nothing is outstanding or the pages of an
older one are still being sent; else once its REPL_COMMIT is decided. -/
def Device.startPeer (d : Device) (p g : Nat) (m : Bool) : Device :=
  if !d.peerOn p g m then d
  else
    let d := if d.sending p g m then d.abandonSend p g m else d
    if ((d.rgn p g).peer m).outst.isSome then d else d.sendVersion p g m

/-- A send has failed (R285): the pending CRCs are dropped, and after a base mismatch every acknowledged one; the committed
version is sent again, until `repl_retry_max` failures in a row. -/
def Device.peerFailed (d : Device) (p g : Nat) (m mismatch : Bool) : Device :=
  let d := d.abandonSend p g m
  let s := (d.rgn p g).peer m
  let n := s.fails + 1
  let d := d.bump .replRetries p 0
  let d := d.setPeer p g m { s with acked := if mismatch then [] else s.acked, fails := n }
  if n ≥ d.get .replRetryMax p 0 then
    ((((d.setPeer p g m { (d.rgn p g).peer m with fails := 0 }).set (peerObjs m).2.2.1 p g 3).bump .replFailed p 0)).causeBallast p 4 g
  else d.sendVersion p g m

/-- REPL_ACK 0x00 (R285): pending CRCs become acknowledged; a version committed since is sent. -/
def Device.peerAcked (d : Device) (p g : Nat) (m : Bool) (v : Nat) : Device :=
  let s := (d.rgn p g).peer m
  let acked := s.pend ++ s.acked.filter (fun a => !s.pend.any (fun b => b.1 = a.1))
  let d := d.setPeer p g m { acked := acked, pend := [], outst := none, fails := 0 }
  let d := (d.set (peerObjs m).2.2.2.1 p g v).set (peerObjs m).2.2.1 p g 0
  if d.get .rgnVersion p g ≠ v then d.sendVersion p g m else d

/-! ### Tier 2 (R287) -/

/-- An expander is present and its link up. -/
def Device.cxlUp (d : Device) (p : Nat) : Bool :=
  (d.get .cxlState p 0 = 2 || d.get .cxlState p 0 = 3) && d.get .cxlCapacityGib p 0 ≠ 0

/-- Start the drain of the committed version, abandoning one that runs. -/
def Device.startDrain (d : Device) (p g : Nat) : Device :=
  let r := d.rgn p g
  let d := if r.drain.isSome then (d.setRgn p g { r with drain := none }).bump .drainAbandoned p 0 else d
  if d.rgnKeep p g = 0 || !d.cxlUp p then d
  else
    let n := d.get .rgnPages p g
    if d.get .rgnT2Pages p g < r.t2.length * n + n then (d.bump .drainRefused p 0).causeBallast p 5 g
    else d.setRgn p g { d.rgn p g with drain := some (d.get .rgnVersion p g) }

/-- DRAIN_COMPLETE: the header is written, so the version is held; those beyond KEEP go, oldest first. -/
def Device.drainDone (d : Device) (p g : Nat) : Device :=
  let r := d.rgn p g
  match r.drain with
  | none => d
  | some v =>
    let t := { no := v, tenant := d.rgnTenant p g, pages := d.get .rgnPages p g, crcs := r.cur.map (fun x => (x.no, x.crc)),
               data := r.cur.map (fun x => (x.no, x.data)) : T2Ver } :: r.t2
    d.setRgn p g { r with drain := none, t2 := t.take (d.rgnKeep p g) }

/-- `t2_versions`: eight version numbers, newest first. -/
def Device.t2Versions (d : Device) (p g : Nat) : Nat :=
  bytesToNat ((List.range 8).flatMap (fun i => natToBytes 4 (((d.rgn p g).t2.map (·.no)).getD i 0)))

/-! ### Commit (R280) -/

/-- The version `v` of pages `pages` becomes the committed one; drain, replication and mirroring begin. -/
def Device.commitAs (d : Device) (p g v : Nat) (pages : List Page) : Device :=
  let d := d.keepPages p g pages []
  let d := d.setRgn p g { d.rgn p g with next := v + 1, incomplete := false, recv := 0, seen := [] }
  let d := (d.set .rgnVersion p g v).set .rgnStatus p g 0
  ((d.startDrain p g).startPeer p g false).startPeer p g true

/-- Pages of a new version with those of the committed version that it does not replace. -/
def carried (prog cur : List Page) : List Page := prog ++ cur.filter (fun x => (pageOf prog x.no).isNone)

/-- Refuse a commit with a reason (Table 12.3). -/
def Device.commitRefused (d : Device) (p g status : Nat) : Device :=
  (((d.dropProgress p g).set .rgnStatus p g status).bump .ckptCommitRefused p 0).causeBallast p 3 g

/-- The boundary is reached: the in-progress version is sealed and committed or refused; the region is OPEN again. -/
def Device.sealVersion (d : Device) (p g : Nat) : Device :=
  let r := d.rgn p g
  let pages := if d.rgnDelta p g then carried r.prog r.cur else r.prog
  let d :=
    if r.incomplete then d.commitRefused p g 1
    else if (List.range (d.get .rgnPages p g)).any (fun n => (pageOf pages n).isNone) then d.commitRefused p g 2
    else d.commitAs p g r.next pages
  (d.set .rgnState p g 1).set .rgnCmd p g 2

/-- Whether a pending region's boundary is an object value and reached. -/
def Device.rgnReached (d : Device) (p g : Nat) : Bool :=
  d.get .rgnBoundaryKind p g = 1 && d.get .rgnBoundaryValue p g ≤ d.syncVal p (d.get .rgnSync p g)

/-- RGN_COMMIT: an object boundary must have been reached; an instant has been, as the command says. -/
def Device.rgnCommit (d : Device) (p g : Nat) : Device :=
  if d.get .rgnState p g = 2 && (d.get .rgnBoundaryKind p g = 0 || d.rgnReached p g) then d.sealVersion p g else d

/-! ### CKPT_WRITE and REPL_COMMIT -/

/-- Answer a REPL_COMMIT (R284). -/
def Device.replReply (d : Device) (p g : Nat) (f : Frame) (v status : Nat) : Device :=
  d.sendOwn p ckptSw ((d.ckptMk p g opCkptData f.srcDevice 0xFE (d.get .rgnPeerRegion p g) v 0).frame
    (recordBytesOf 2 status v (d.get .rgnVersion p g) 0))

/-- A REPL_COMMIT that has passed the checks: the three conditions of R284 in order. -/
def Device.replicaCommit (d : Device) (p g : Nat) (f : Frame) : Device :=
  let d := d.openVersion p g (d.ckptAhead p g f)
  let r := d.rgn p g
  let rec_ := bytesToNat f.payload
  let base := fld rec_ 176 32
  let v := r.next
  let full := base = 0xFFFFFFFF
  let n := d.get .rgnPages p g
  let status :=
    if fld rec_ 208 32 ≠ v || r.recv ≠ fld rec_ 144 32 then 1
    else if full && !((List.range n).all (fun k => r.seen.contains k)) then 1
    else if !full && (base ≠ d.get .rgnVersion p g || (base ≠ 0 && r.cur = [])) then 3
    else if r.incomplete then 2
    else if !full && (List.range n).any (fun k => (pageOf (carried r.prog r.cur) k).isNone) then 1
    else 0
  if status = 0 then
    (d.commitAs p g v (if full then r.prog else carried r.prog r.cur)).replReply p g f v 0
  else (d.dropProgress p g).replReply p g f (fld rec_ 208 32) status

/-- A page frame that has passed checks 1 to 5. -/
def Device.ckptPage (d : Device) (p g : Nat) (f : Frame) : Device :=
  let d := d.openVersion p g (d.ckptAhead p g f)
  let r := d.rgn p g
  let d := if d.rgnReplica p g then
      d.setRgn p g { r with recv := r.recv + 1, seen := if r.seen.contains f.offset then r.seen else f.offset :: r.seen }
    else d
  d.putPage p g f.offset f.payload

/-- The frame leaves the inbox; the class 1 credit of one that came through a memory port returns, as it is decided (R277). -/
def Device.takeCkpt (d : Device) (p : Nat) (f : Frame) : Device :=
  match d.inbox.find? (fun e => e.1 = p && e.2.1 = ckptSw && e.2.2.2 = f) with
  | some e =>
    let d : Device := { d with inbox := d.inbox.erase e }
    if f.opcode = opCkptWrite || f.opcode = opCkptRead then d.creditBack p e.2.2.1 f else d
  | none => d

/-- A CKPT_WRITE with LAST adds 1 to `rgn_sync` of the region that its CONTEXT names, whatever the outcome and the region's state
(R279). -/
def Device.lastSignal (d : Device) (p : Nat) (f : Frame) : Device :=
  if bit f.flags 5 && f.context ≤ 0x3FF then ((d.signalObj p (d.get .rgnSync p f.context) 1).fireNotifies p).run p else d

/-- A CKPT_WRITE: the checks, the page or record, and the signal of a LAST (R278, R279). -/
def Device.ckptWrite (d : Device) (p : Nat) (f : Frame) : Device :=
  match d.ckptRegion p f with
  | none => (d.bump .ckptNoRegion p 0).lastSignal p f
  | some g =>
    (match d.ckptFail p g f with
     | some d => d
     | none => if f.length = 32 then d.replicaCommit p g f else d.ckptPage p g f).lastSignal p f

/-! ### REPL_ACK (R285) -/

/-- A REPL_ACK: of the replica or the mirror whose version is outstanding; others are ignored. -/
def Device.replAckRx (d : Device) (p : Nat) (f : Frame) : Device :=
  match d.ckptRegion p f with
  | none => d
  | some g =>
    if !recordOk f 2 then (d.bump .ckptMalformed p 0).causeBallast p 1 g
    else
      let v := fld (bytesToNat f.payload) 208 32
      let st := fld (bytesToNat f.payload) 240 8
      let mine := fun m => d.peerOn p g m && ((d.rgn p g).peer m).outst = some v && f.srcDevice = d.get (peerObjs m).1 p g &&
        f.tenant = d.rgnTenant p g
      let go := fun m => if st = 0 then d.peerAcked p g m v else d.peerFailed p g m (st = 3)
      if mine false then go false else if mine true then go true else d

/-- No REPL_ACK within `repl_timeout_ms`. -/
def Device.replTimedOut (d : Device) (p g : Nat) (m : Bool) : Device :=
  if ((d.rgn p g).peer m).outst.isSome then d.peerFailed p g m false else d

/-! ### Restore (R286, R289) -/

/-- A page as it is served: its bytes, or none; tier 2 may return poison (R104), a free value. -/
def Device.readPage (d : Device) (p g v n : Nat) : Device × Option Bytes :=
  let r := d.rgn p g
  if v = 0 then (d, none)
  else if v = d.get .rgnVersion p g && r.cur ≠ [] then (d, (pageOf r.cur n).map (·.data))
  else
    match r.t2.find? (fun t => t.no = v) with
    | none => (d, none)
    | some t =>
      if !d.cxlUp p then (d, none)
      else
        let x := d.fresh
        if x.1 % 2 = 1 then (x.2.bump .cxlPoison p 0, none)
        else (x.2, (t.data.find? (fun e => e.1 = n)).map (·.2))

/-- Send a response: to a requester's fabric port of this plane through the memory port of its group (input 500 + group, beside
the array), where it is queued for that output; to any other through the array (R16). -/
def Device.ckptRespond (d : Device) (p : Nat) (rq : Frame) (f : Frame) : Device :=
  if rq.srcDevice = d.devId p && rq.srcPort < 128 then d.queueDirect p (500 + group rq.srcPort) rq.srcPort f f.tenant
  else d.sendOwn p ckptSw f

/-- A CKPT_READ. -/
def Device.ckptReadRx (d : Device) (p : Nat) (f : Frame) : Device :=
  match d.ckptRegion p f with
  | none => d.bump .ckptNoRegion p 0
  | some g =>
    if f.tenant ≠ d.rgnTenant p g then (d.bump .ckptTenantReject p 0).causeBallast p 0 g
    else
      let v := beNat f.payload 0 4
      let n := beNat f.payload 4 2
      if f.length ≠ 16 || f.flowSeq ≠ 0 || n = 0 || n > 1024 || f.offset + n > d.get .rgnPages p g || beNat f.payload 6 10 ≠ 0 then
        d.bump .ckptMalformed p 0
      else
        let v := if v = 0 then d.get .rgnVersion p g else v
        (List.range n).foldl (fun d k =>
          let r := d.readPage p g v (f.offset + k)
          let m := { r.1.ckptMk p g opCkptData f.srcDevice f.srcPort f.context v (f.offset + k) with
                     flags := if k + 1 = n then 32 else 0 }
          match r.2 with
          | some b => r.1.ckptRespond p f (m.frame b)
          | none => (r.1.bump .ckptReadFail p 0).ckptRespond p f (m.frame [])) d

/-! ### Region commands (R275, R280, R281) -/

/-- The load checks of R275. -/
def Device.rgnLoadOk (d : Device) (p g : Nat) : Bool :=
  let w := d.get .rgnDesc p g
  let t := d.rgnTenant p g
  let n := d.get .rgnPages p g
  let k := d.rgnKeep p g
  let used := total (((List.range 1024).filter (fun h => h ≠ g && d.get .rgnState p h ≠ 0)).map (fun h => d.get .rgnT2Pages p h))
  d.get .rgnState p g = 0 && d.hasTenant p t && fld w 50 2 ≤ 1 && fld w 0 44 = 0 &&
    !(fld w 50 2 = 1 && (bit w 48 || bit w 47)) &&
    inRange (d.get .tnSyncRange p t) 16 14 15 (d.get .rgnSync p g) &&
    !(k > 0 && d.get .rgnT2Pages p g < (k + 1) * n) &&
    used + d.get .rgnT2Pages p g ≤ d.get .cxlCapacityGib p 0 * 262144

/-- The objects of a region that has no version. -/
def Device.rgnFresh (d : Device) (p g state : Nat) : Device :=
  let d := (d.setRgn p g {}).set .rgnState p g state
  let d := (d.set .rgnVersion p g 0).set .rgnStatus p g 0
  [Obj.replState, .replVersion, .mirrorState, .mirrorVersion].foldl (fun d o => d.set o p g 0) d

/-- `rgn_cmd` 0x01. That a region is loaded is kept in the journal (R288 finds it loaded after an initialisation). -/
def Device.rgnLoad (d : Device) (p ses : Nat) : Device :=
  let t : Target := ⟨.rgnCmd, p, 0⟩
  let g := d.place t ses
  if !d.rgnLoadOk p g then d.cmdReads t ses 3
  else
    let r := d.journal [(⟨.rgnState, p, g⟩, 1)]
    if r.2 then (r.1.rgnFresh p g 1).cmdReads t ses 2 else r.1.cmdReads t ses 3

/-- Whether an armed boundary is already past. -/
def Device.rgnPast (d : Device) (p g : Nat) : Bool :=
  if d.get .rgnBoundaryKind p g = 1 then d.rgnReached p g
  else unpackTime (d.get .rgnBoundaryTime p g) ≤ d.tbNow p (d.get .rgnBoundaryTb p g)

/-- `rgn_cmd` 0x02. -/
def Device.rgnArm (d : Device) (p ses : Nat) : Device :=
  let t : Target := ⟨.rgnCmd, p, 0⟩
  let g := d.place t ses
  if d.get .rgnState p g ≠ 1 || d.rgnReplica p g then d.cmdReads t ses 3
  else
    let d := (d.set .rgnState p g 2).cmdReads t ses 1
    if d.rgnPast p g then d.sealVersion p g else d

/-- `rgn_cmd` 0x03: the in-progress version is abandoned; an armed boundary with it (R281). -/
def Device.rgnAbandon (d : Device) (p ses : Nat) : Device :=
  let t : Target := ⟨.rgnCmd, p, 0⟩
  let g := d.place t ses
  if d.get .rgnState p g = 0 then d.cmdReads t ses 3
  else (((d.dropProgress p g).set .rgnStatus p g 3).set .rgnState p g 1).cmdReads t ses 2

/-- Clear a region: its sends, drain, buffers and tier-2 versions go. -/
def Device.clearRegion (d : Device) (p g : Nat) : Device :=
  let d := (d.abandonSend p g false).abandonSend p g true
  (d.keepPages p g [] []).rgnFresh p g 0

/-- `rgn_cmd` 0x04. -/
def Device.rgnClear (d : Device) (p ses : Nat) : Device :=
  let t : Target := ⟨.rgnCmd, p, 0⟩
  let g := d.place t ses
  let r := d.journal [(⟨.rgnState, p, g⟩, 0)]
  if r.2 then (r.1.clearRegion p g).cmdReads t ses 2 else r.1.cmdReads t ses 3

/-- The CXL link goes down (R104): counted, every tier-2 version is lost and no drain goes on (R287). -/
def Device.cxlDown (d : Device) (p : Nat) : Device :=
  let d := ((d.bump .cxlLinkDown p 0).set .cxlState p 0 4).causeMemory p 6 0
  (List.range 1024).foldl (fun d g =>
    let r := d.rgn p g
    if r.t2 = [] && r.drain.isNone then d else d.setRgn p g { r with t2 := [], drain := none }) d

/-- What initialisation does with tier 2 (R288): empty tier 1 leaves the regions that are loaded OPEN, with the versions whose
headers in tier 2 have the region's tenant and size. -/
def Device.recoverRegion (d : Device) (p g : Nat) : Device :=
  let t2 := if d.cxlUp p then
      (d.rgn p g).t2.filter (fun t => t.tenant = d.rgnTenant p g && t.pages = d.get .rgnPages p g)
    else []
  let d := d.rgnFresh p g 1
  let top := (t2.map (·.no)).foldl max 0
  let d := d.setRgn p g { d.rgn p g with next := top + 1, t2 := t2 }
  (d.set .rgnVersion p g top).count .t2VersionsRecovered p 0 t2.length

/-! ### Commands -/

/-- CKPT_WRITE. -/
def execCkptWrite (p : Plane) (port : Attach) (f : Frame) (s : State) : Res :=
  s.runOn p (fun d => (if port.sw < 128 then d.takeCkpt p f else d.takeIn p ckptSw f).ckptWrite p f)

/-- CKPT_READ. -/
def execCkptRead (p : Plane) (port : Attach) (f : Frame) (s : State) : Res :=
  s.runOn p (fun d => (if port.sw < 128 then d.takeCkpt p f else d.takeIn p ckptSw f).ckptReadRx p f)

/-- REPL_COMMIT: a CKPT_WRITE of LENGTH 32. -/
def execReplCommit (p : Plane) (f : Frame) (s : State) : Res := s.runOn p (fun d => (d.takeCkpt p f).ckptWrite p f)

/-- REPL_ACK. -/
def execReplAck (p : Plane) (f : Frame) (s : State) : Res := s.runOn p (fun d => (d.takeIn p ckptSw f).replAckRx p f)

/-- REPL_TIMEOUT. -/
def execReplTimeout (p : Plane) (g : RgnId) (mirror : Bool) (s : State) : Res := s.runOn p (fun d => d.replTimedOut p g mirror)

/-- RGN_LOAD. -/
def execRgnLoad (p : Plane) (rq : Req) (s : State) : Res :=
  s.run (fun d => d.commandNow rq ⟨.rgnCmd, p, 0⟩ 1 (fun d => d.rgnLoad p rq.ses.val))

/-- RGN_ARM_COMMIT. -/
def execRgnArmCommit (p : Plane) (rq : Req) (s : State) : Res :=
  s.run (fun d => d.commandNow rq ⟨.rgnCmd, p, 0⟩ 2 (fun d => d.rgnArm p rq.ses.val))

/-- RGN_ABANDON: taken while a commit is pending (R281). -/
def execRgnAbandon (p : Plane) (rq : Req) (s : State) : Res :=
  s.run (fun d => d.commandNow rq ⟨.rgnCmd, p, 0⟩ 3 (fun d => d.rgnAbandon p rq.ses.val))

/-- RGN_CLEAR: taken while a commit is pending (R281). -/
def execRgnClear (p : Plane) (rq : Req) (s : State) : Res :=
  s.run (fun d => d.commandNow rq ⟨.rgnCmd, p, 0⟩ 4 (fun d => d.rgnClear p rq.ses.val))

/-- RGN_COMMIT. -/
def execRgnCommit (p : Plane) (g : RgnId) (s : State) : Res := s.runOn p (fun d => d.rgnCommit p g)

/-- DRAIN_COMPLETE. -/
def execDrainComplete (p : Plane) (g : RgnId) (s : State) : Res := s.runOn p (fun d => d.drainDone p g)

/-- CXL_LINK_DOWN. -/
def execCxlLinkDown (p : Plane) (s : State) : Res := s.runOn p (fun d => d.cxlDown p)

end Sys2Proof.Machine
end

