-- ==== Sys2Proof/Machine/Aes.lean ====
section
/-! DEFINITION. The algorithms that spec/11_line_encryption_and_keys.md names and NIST defines: AES-256 (FIPS 197), CMAC
(SP 800-38B), the counter-mode KDF of R260, KW (SP 800-38F) and GCM (SP 800-38D). PRESUMED: their tables and steps are not
in the spec (assumption log 10). A 128-bit block is a number, its first byte most significant. -/

namespace Sys2Proof.Machine

/-- The S-box of FIPS 197, 32 entries a number. -/
def aesSboxRows : List Nat :=
  [0x637C777BF26B6FC53001672BFED7AB76CA82C97DFA5947F0ADD4A2AF9CA472C0,
   0xB7FD9326363FF7CC34A5E5F171D8311504C723C31896059A071280E2EB27B275,
   0x09832C1A1B6E5AA0523BD6B329E32F8453D100ED20FCB15B6ACBBE394A4C58CF,
   0xD0EFAAFB434D338545F9027F503C9FA851A3408F929D38F5BCB6DA2110FFF3D2,
   0xCD0C13EC5F974417C4A77E3D645D197360814FDC222A908846EEB814DE5E0BDB,
   0xE0323A0A4906245CC2D3AC629195E479E7C8376D8DD54EA96C56F4EA657AAE08,
   0xBA78252E1CA6B4C6E8DD741F4BBD8B8A703EB5664803F60E613557B986C11D9E,
   0xE1F8981169D98E949B1E87E9CE5528DF8CA1890DBFE6426841992D0FB054BB16]

/-- Its inverse. -/
def aesInvRows : List Nat :=
  [0x52096AD53036A538BF40A39E81F3D7FB7CE339829B2FFF87348E4344C4DEE9CB,
   0x547B9432A6C2233DEE4C950B42FAC34E082EA16628D924B2765BA2496D8BD125,
   0x72F8F66486689816D4A45CCC5D65B6926C704850FDEDB9DA5E154657A78D9D84,
   0x90D8AB008CBCD30AF7E45805B8B34506D02C1E8FCA3F0F02C1AFBD0301138A6B,
   0x3A9111414F67DCEA97F2CFCEF0B4E67396AC7422E7AD3585E2F937E81C75DF6E,
   0x47F11A711D29C5896FB7620EAA18BE1BFC563E4BC6D279209ADBC0FE78CD5AF4,
   0x1FDDA8338807C731B11210592780EC5F60517FA919B54A0D2DE57A9F93C99CEF,
   0xA0E03B4DAE2AF5B0C8EBBB3C83539961172B047EBA77D626E169146355210C7D]

/-- SubBytes of one byte. -/
def aesSub (x : Nat) : Nat := octet 32 8 (nth aesSboxRows (x / 32)) (x % 32)
/-- InvSubBytes of one byte. -/
def aesInvSub (x : Nat) : Nat := octet 32 8 (nth aesInvRows (x / 32)) (x % 32)

/-- Multiplication by x in the field of AES. -/
def aesDouble (a : Nat) : Nat := if a < 128 then 2 * a else (2 * a - 256) ^^^ 0x1B

/-- A product in the field of AES by a constant of four bits. -/
def aesMul (a k : Nat) : Nat :=
  let a2 := aesDouble a
  let a4 := aesDouble a2
  (if bit k 0 then a else 0) ^^^ (if bit k 1 then a2 else 0) ^^^ (if bit k 2 then a4 else 0) ^^^
    (if bit k 3 then aesDouble a4 else 0)

/-- The bytes of a 32-bit word through the S-box. -/
def aesSubWord (w : Nat) : Nat :=
  aesSub (fld w 24 8) * 2 ^ 24 + aesSub (fld w 16 8) * 2 ^ 16 + aesSub (fld w 8 8) * 2 ^ 8 + aesSub (fld w 0 8)

/-- Word `i` of the key schedule from the words before it, the newest first. -/
def aesNextWord (i : Nat) (ws : List Nat) : Nat :=
  let t := nth ws 0
  let t := if i % 8 = 0 then aesSubWord (fld t 0 24 * 256 + fld t 24 8) ^^^ 2 ^ (24 + (i / 8 - 1))
           else if i % 8 = 4 then aesSubWord t else t
  nth ws 7 ^^^ t

/-- The key schedule: 60 words, the newest first. -/
def aesSchedule (key : Nat) : List Nat :=
  (List.range 52).foldl (fun ws i => aesNextWord (i + 8) ws :: ws) ((octetList 8 32 key).reverse)

/-- The 15 round keys as blocks. -/
def aesRoundKeys (key : Nat) : List Nat :=
  let ws := (aesSchedule key).reverse
  (List.range 15).map (fun r => (List.range 4).foldl (fun a c => a * 2 ^ 32 + nth ws (4 * r + c)) 0)

/-- A block from its 16 bytes. -/
def ofBytes16 (l : List Nat) : Nat := l.foldl (fun a x => a * 256 + x) 0

/-- ShiftRows: byte r + 4 c comes from column c + r (or c − r). -/
def aesShift (fwd : Bool) (l : List Nat) : List Nat :=
  (List.range 16).map (fun i => let r := i % 4; let c := i / 4
                                nth l (r + 4 * ((c + (if fwd then r else 4 - r)) % 4)))

/-- MixColumns with the four coefficients of a row. -/
def aesMix (k : List Nat) (l : List Nat) : List Nat :=
  (List.range 16).map (fun i => let r := i % 4; let c := i / 4
                                (List.range 4).foldl (fun a j => a ^^^ aesMul (nth l (4 * c + j)) (nth k ((j + 4 - r) % 4))) 0)

/-- One round of the cipher after the first key addition. -/
def aesRound (mix : Bool) (b rk : Nat) : Nat :=
  let l := aesShift true ((octetList 16 8 b).map aesSub)
  ofBytes16 (if mix then aesMix [2, 3, 1, 1] l else l) ^^^ rk

/-- AES-256 over a key schedule. -/
def aesEncRk (rks : List Nat) (b : Nat) : Nat :=
  let s := (rks.drop 1).take 13 |>.foldl (fun b rk => aesRound true b rk) (b ^^^ nth rks 0)
  aesRound false s (nth rks 14)

/-- AES-256 encryption of a block. -/
def aesEnc (key b : Nat) : Nat := aesEncRk (aesRoundKeys key) b

/-- One round of the inverse cipher. -/
def aesInvRound (mix : Bool) (b rk : Nat) : Nat :=
  let l := octetList 16 8 (ofBytes16 ((aesShift false (octetList 16 8 b)).map aesInvSub) ^^^ rk)
  ofBytes16 (if mix then aesMix [14, 11, 13, 9] l else l)

/-- AES-256 decryption of a block. -/
def aesDec (key b : Nat) : Nat :=
  let rks := aesRoundKeys key
  let s := ((rks.drop 1).take 13).reverse.foldl (fun b rk => aesInvRound true b rk) (b ^^^ nth rks 14)
  aesInvRound false s (nth rks 0)

/-! ### KW (SP 800-38F) -/

/-- The steps of the unwrap: A and the four semiblocks, step t from 24 down to 1. -/
def kwSteps (key : Nat) : Nat → Nat × List Nat → Nat × List Nat
  | 0, s => s
  | t + 1, (a, r) =>
    let i := t % 4
    let b := aesDec key ((a ^^^ (t + 1)) * 2 ^ 64 + nth r i)
    kwSteps key t (b / 2 ^ 64, r.set i (b % 2 ^ 64))

/-- Unwrap a 40-byte blob to a 256-bit key; none where the integrity check fails. -/
def kwUnwrap (key blob : Nat) : Option Nat :=
  match octetList 5 64 blob with
  | a :: r =>
    let s := kwSteps key 24 (a, r)
    if s.1 = 0xA6A6A6A6A6A6A6A6 then some (s.2.foldl (fun x y => x * 2 ^ 64 + y) 0) else none
  | [] => none

/-! ### CMAC and KDF -/

/-- The subkey step of CMAC. -/
def cmacDouble (l : Nat) : Nat := if l < 2 ^ 127 then 2 * l else (2 * l - 2 ^ 128) ^^^ 0x87

/-- The 16-byte blocks of a message but the last, and the last. -/
def cmacBlocks : Nat → Bytes → List Bytes
  | 0, b => [b]
  | n + 1, b => if b.length ≤ 16 then [b] else b.take 16 :: cmacBlocks n (b.drop 16)

/-- AES-CMAC. -/
def aesCmac (key : Nat) (m : Bytes) : Nat :=
  let rks := aesRoundKeys key
  let k1 := cmacDouble (aesEncRk rks 0)
  let blocks := cmacBlocks m.length m
  let last := blocks.getLastD []
  let mLast := if last.length = 16 then bytesToNat last ^^^ k1
    else (bytesToNat last * 256 + 0x80) * 256 ^ (15 - last.length) ^^^ cmacDouble k1
  let c := blocks.dropLast.foldl (fun c b => aesEncRk rks (c ^^^ bytesToNat b)) 0
  aesEncRk rks (c ^^^ mLast)

/-- The label of R260: LYSEY-TETHER. -/
def kdfLabel : Bytes := [0x4C, 0x59, 0x53, 0x45, 0x59, 0x2D, 0x54, 0x45, 0x54, 0x48, 0x45, 0x52]

/-- The traffic key of R260 for a context of 12 bytes. -/
def kdf (master : Nat) (context : Bytes) : Nat :=
  let prf := fun i => aesCmac master (natToBytes 4 i ++ kdfLabel ++ [0] ++ context ++ natToBytes 4 256)
  prf 1 * 2 ^ 128 + prf 2

/-! ### GCM -/

/-- The steps of a product in GF(2^128), bit 0 the most significant: z, v after each bit of x. -/
def ghashMul (x y : Nat) : Nat :=
  ((List.range 128).foldl (fun (s : Nat × Nat) i =>
    let z := if bit x (127 - i) then s.1 ^^^ s.2 else s.1
    (z, if s.2 % 2 = 1 then s.2 / 2 ^^^ (0xE1 * 2 ^ 120) else s.2 / 2)) (0, y)).1

/-- The 16-byte blocks of a byte string whose length is a multiple of 16. -/
def blocks16 (b : Bytes) : List Nat := (List.range (b.length / 16)).map (fun k => bytesToNat ((b.drop (16 * k)).take 16))

/-- GHASH over AAD and ciphertext of whole blocks, and their lengths. -/
def ghash (h : Nat) (aad c : Bytes) : Nat :=
  (blocks16 aad ++ blocks16 c ++ [8 * aad.length * 2 ^ 64 + 8 * c.length]).foldl (fun y x => ghashMul (y ^^^ x) h) 0

/-- The key stream over whole blocks, from counter 2 on. -/
def gcmStream (rks : List Nat) (iv : Nat) (b : Bytes) : Bytes :=
  let bs := blocks16 b
  (List.range bs.length).flatMap (fun k => natToBytes 16 (nth bs k ^^^ aesEncRk rks (iv * 2 ^ 32 + k + 2)))

/-- The tag of a ciphertext. -/
def gcmTag (rks : List Nat) (iv : Nat) (aad c : Bytes) : Nat :=
  ghash (aesEncRk rks 0) aad c ^^^ aesEncRk rks (iv * 2 ^ 32 + 1)

/-- Seal: ciphertext and 16-byte tag. -/
def gcmSeal (key iv : Nat) (aad plain : Bytes) : Bytes :=
  let rks := aesRoundKeys key
  let c := gcmStream rks iv plain
  c ++ natToBytes 16 (gcmTag rks iv aad c)

/-- Open: the plaintext, or none where the tag does not verify. -/
def gcmOpen (key iv : Nat) (aad c tag : Bytes) : Option Bytes :=
  let rks := aesRoundKeys key
  if gcmTag rks iv aad c = bytesToNat tag then some (gcmStream rks iv c) else none

end Sys2Proof.Machine
end

