-- ==== Sys2Proof/Machine/Keys.lean ====
section
/-! DEFINITION. Master keys, traffic keys, epochs and rekey (spec/11_line_encryption_and_keys.md 11.3 to 11.7). -/

namespace Sys2Proof.Machine

/-! ### Tables -/

/-- The key engine of a plane. -/
def Device.keySt (d : Device) (p : Nat) : KeySt := Tbl.get d.keys (p, 0) {}
/-- Replace it. -/
def Device.setKeySt (d : Device) (p : Nat) (v : KeySt) : Device := { d with keys := Tbl.put Ix.lt d.keys (p, 0) v {} }
/-- A master selection: a tenant, or 0x8000 for the management master. -/
def Device.master (d : Device) (p sel : Nat) : MasterSt := Tbl.get d.masters (p, sel) {}
/-- Replace it. -/
def Device.setMaster (d : Device) (p sel : Nat) (v : MasterSt) : Device :=
  { d with masters := Tbl.put Ix.lt d.masters (p, sel) v {} }
/-- The traffic key of a slot: 2 · holder + epoch parity, where the holder is a tenant or 4096 + a management pair (R261). -/
def Device.tkey (d : Device) (p i : Nat) : Option TKey := Tbl.get d.tkeys (p, i) none
/-- Replace it. -/
def Device.setTkey (d : Device) (p i : Nat) (v : Option TKey) : Device := { d with tkeys := Tbl.put Ix.lt d.tkeys (p, i) v none }

/-- The management selection. -/
def mgmtSel : Nat := 0x8000

/-- The holders whose keys come from a master: the tenant, or the 64 management pairs. -/
def holdersOf (sel : Nat) : List Nat := if sel = mgmtSel then (List.range 64).map (4096 + ·) else [sel]

/-- The selections of a plane that have a master in force. -/
def Device.keyedSels (d : Device) (p : Nat) : List Nat :=
  ((d.masters.filter (fun e => e.1.1 = p && e.2.inForce.isSome)).map (·.1.2))

/-! ### Derivation (R260, R261) -/

/-- The KDF context of R260. -/
def Device.kdfContext (d : Device) (p holder epoch : Nat) : Bytes :=
  let a := d.devId p
  let b := d.get .lhPartnerDevice p 0
  natToBytes 2 (min a b) ++ natToBytes 2 (max a b) ++ natToBytes 1 p ++ natToBytes 1 (if holder ≥ 4096 then 1 else 0) ++
    natToBytes 2 (if holder ≥ 4096 then holder - 4096 else holder) ++ natToBytes 2 epoch ++ natToBytes 2 0

/-- Derive the keys of one selection for an epoch: counters start at 0, the limit is the one in force now (R254, R257). -/
def Device.deriveSel (d : Device) (p sel epoch : Nat) : Device :=
  let m := d.master p sel
  match m.inForce with
  | none => d
  | some k =>
    let d := d.setMaster p sel { m with keyed := true }
    (holdersOf sel).foldl (fun d h =>
      (d.setTkey p (2 * h + epoch % 2) (some { epoch := epoch, key := kdf k (d.kdfContext p h epoch),
                                                limit := 2 ^ d.get .keyLimitLog2 p 0 })).bump .kdfDerivations p 0) d

/-- Derive every key of an epoch. -/
def Device.deriveAll (d : Device) (p epoch : Nat) : Device := (d.keyedSels p).foldl (fun d s => d.deriveSel p s epoch) d

/-- Pending masters become those in force at the next derivation (R259). -/
def Device.promoteMasters (d : Device) (p : Nat) : Device :=
  { d with masters := d.masters.map (fun e =>
      if e.1.1 = p && e.2.pending.isSome then (e.1, { e.2 with inForce := e.2.pending, pending := none }) else e) }

/-- Begin the derivation of an epoch: `key_epoch_hi` is journalled first; false where the journal fails or R262 forbids the
epoch: one at or below `key_epoch_hi`, or past the last, which raises the key-exhausted cause. -/
def Device.startDerive (d : Device) (p epoch : Nat) (resync : Bool) : Device × Bool :=
  if epoch > 0xFFFF then (d.causeCipher p 1 0, false) else
  if epoch ≤ d.get .keyEpochHi p 0 then (d, false) else
  let j := d.journal [(⟨.keyEpochHi, p, 0⟩, epoch)]
  if j.2 then
    let d := (j.1.set .keyEpochHi p 0 epoch).promoteMasters p
    (d.setKeySt p { d.keySt p with deriving_ := some epoch, resync := resync }, true)
  else (j.1, false)

/-- The transmit epoch changes: a master counts as keyed in it when it holds a key (R259); stalls end with the old keys
(R256). -/
def Device.enterEpoch (d : Device) (p epoch : Nat) : Device :=
  let d := d.set .keyEpochTx p 0 epoch
  { d with masters := d.masters.map (fun e =>
      if e.1.1 = p then
        (e.1, { e.2 with keyed := (holdersOf e.1.2).any (fun h => (d.tkey p (2 * h)).isSome || (d.tkey p (2 * h + 1)).isSome) })
      else e) }

/-! ### Rekey and resynchronisation (R263 to R269) -/

/-- The partner is ready to open slots of the next epoch (R266). -/
def Device.partnerReady (d : Device) (p : Nat) (accRekey : Nat) : Bool :=
  let e := d.get .keyEpochTx p 0
  let f := d.get .keyEpochRx p 0
  (accRekey ≠ 0 && f = e) || f = e + 1

/-- What the accepted values of the partner call for (R263, R264, R269). -/
def Device.keyReview (d : Device) (p accRekey : Nat) : Device :=
  let e := d.get .keyEpochTx p 0
  let f := d.get .keyEpochRx p 0
  let s := d.keySt p
  let st := d.get .rekeyState p 0
  if st = 3 then
    if f = e then
      (d.set .rekeyState p 0 0).set .rekeyCmd p 0 2
    else d
  else if st ≠ 0 || s.deriving_.isSome || s.next.isSome || !d.hubUp then d
  else if f > e then
    let hi := d.get .keyEpochHi p 0
    (d.startDerive p (if f > hi then f else hi + 1) true).1.causeCipher p 3 0
  else if accRekey ≠ 0 && f = e then
    let r := d.startDerive p (e + 1) false
    if r.2 then (r.1.set .rekeyState p 0 1).setKeySt p { r.1.keySt p with leading := false, announce := 0 } else r.1
  else d

/-- Whether a rekey may start (R265), but for the epoch's end. -/
def Device.rekeyOk (d : Device) (p mfn : Nat) : Bool :=
  d.get .rekeyState p 0 = 0 && (d.keySt p).deriving_.isNone && (d.keySt p).next.isNone &&
    d.get .lhMfnTx p 0 + 32768 ≤ mfn && d.get .keyEpochRx p 0 = d.get .keyEpochTx p 0 && d.hubUp

/-- Start a rekey as leader (R264, R265): a rekey past the last epoch is refused with the key-exhausted cause (R262). -/
def Device.startRekey (d : Device) (p mfn : Nat) : Device × Bool :=
  if !d.rekeyOk p mfn then (d, false)
  else
    let r := d.startDerive p (d.get .keyEpochTx p 0 + 1) false
    if r.2 then ((r.1.set .rekeyState p 0 1).setKeySt p { r.1.keySt p with leading := true, target := mfn, announce := 0 }, true)
    else r

/-- A write to `rekey_cmd`. -/
def Device.rekeyCommand (d : Device) (p : Nat) : Device :=
  let r := d.startRekey p (d.get .rekeyMfn p 0 % 2 ^ 48)
  r.1.set .rekeyCmd p 0 (if r.2 then 1 else 3)

/-- Every key of the epoch has been derived (R263, R264). -/
def Device.derived (d : Device) (p accRekey : Nat) : Device :=
  let s := d.keySt p
  match s.deriving_ with
  | none => d
  | some f =>
    let d := d.deriveAll p f
    if s.resync then d.setKeySt p { s with deriving_ := none, resync := false, next := some f }
    else
      let mfn := if s.leading then s.target else d.get .lhMfnTx p 0 + 16
      let d := d.setKeySt p { s with deriving_ := none, announce := mfn, late := false }
      (d.set .rekeyState p 0 2).keyReview p accRekey

/-- The key part of a multiframe boundary (Table 11.3). -/
def Device.keyBoundary (d : Device) (p accRekey : Nat) : Device :=
  let s := d.keySt p
  let mfn := d.get .lhMfnTx p 0
  match s.next with
  | some f => ((d.enterEpoch p f).setKeySt p { s with next := none }).keyReview p accRekey
  | none =>
    if d.get .rekeyState p 0 = 2 then
      let ready := d.partnerReady p accRekey
      if s.late && ready then d.setKeySt p { s with announce := mfn + 16, late := false }
      else if mfn ≥ s.announce then
        if ready then
          let d := d.enterEpoch p (d.get .keyEpochTx p 0 + 1)
          ((d.set .rekeyState p 0 3).setKeySt p { s with announce := 0, late := false }).keyReview p accRekey
        else d.setKeySt p { s with late := true }
      else d
    else d.keyReview p accRekey

/-! ### Master keys (R258, R259) -/

/-- An installed blob as journalled: its 320 bits below a leading 1; 0 after an erase. -/
def blobValue (blob : Nat) : Nat := 2 ^ 320 + blob

/-- Install the master of a selection from its wrapped blob. -/
def Device.masterInstall (d : Device) (p sel : Nat) : Device × Bool :=
  let m := d.master p sel
  let blob := d.get .masterWrapped p sel
  match kwUnwrap (Config.deviceKey p).toNat blob with
  | none => (d.bump .unwrapFail p 0, false)
  | some k =>
    if m.pending.isSome then (d, false)
    else
      let r := d.journal [(⟨.masterWrapped, p, sel⟩, blobValue blob)]
      if !r.2 then (r.1, false)
      else if m.keyed || d.get .rekeyState p 0 = 1 || (d.keySt p).deriving_.isSome then
        (r.1.setMaster p sel { m with pending := some k }, true)
      else
        let d := r.1.setMaster p sel { m with inForce := some k }
        let e := d.get .keyEpochTx p 0
        let d := d.deriveSel p sel e
        (if d.get .rekeyState p 0 = 2 then d.deriveSel p sel (e + 1) else d, true)

/-- An enabled tributary of a tenant exists on the plane. -/
def Device.tribOf (d : Device) (p t : Nat) : Bool :=
  d.regs.any (fun e => e.1.obj = .tribDesc && e.1.plane = p && bit e.2 31 && !bit e.2 30 && fld e.2 10 12 = t)

/-- Erase the master in force, the pending one and both traffic keys of a selection (R259). -/
def Device.masterErase (d : Device) (p sel : Nat) : Device × Bool :=
  if sel = mgmtSel || d.tribOf p sel then (d, false)
  else
    let r := d.journal [(⟨.masterWrapped, p, sel⟩, 0)]
    if !r.2 then (r.1, false)
    else
      let m := r.1.master p sel
      let d := r.1.setMaster p sel { keyed := m.keyed }
      ((d.setTkey p (2 * sel) none).setTkey p (2 * sel + 1) none, true)

/-- A write to `master_cmd`. -/
def Device.masterCommand (d : Device) (p ses v : Nat) : Device :=
  let t : Target := ⟨.masterCmd, p, 0⟩
  let sel := d.place t ses
  let r := if v = 1 then d.masterInstall p sel else d.masterErase p sel
  r.1.cmdReads t ses (if r.2 then 2 else 3)

/-! ### Commands -/

/-- MASTER_INSTALL. -/
def execMasterInstall (p : Plane) (rq : Req) (s : State) : Res :=
  s.run (fun d => d.command rq ⟨.masterCmd, p, 0⟩ 1 (fun d => d.masterCommand p rq.ses.val 1))
/-- MASTER_ERASE. -/
def execMasterErase (p : Plane) (rq : Req) (s : State) : Res :=
  s.run (fun d => d.command rq ⟨.masterCmd, p, 0⟩ 2 (fun d => d.masterCommand p rq.ses.val 2))
/-- REKEY_CMD. -/
def execRekeyCmd (p : Plane) (rq : Req) (s : State) : Res :=
  s.run (fun d => d.commandNow rq ⟨.rekeyCmd, p, 0⟩ 1 (fun d => d.rekeyCommand p))

end Sys2Proof.Machine
end

