-- ==== Sys2Proof/Machine/Rs.lean ====
section
/-! DEFINITION. The erasure code of Tether (spec/10_tether_long_haul_line.md R224, R225): a Reed-Solomon code over GF(2^8). -/

namespace Sys2Proof.Machine

/-- Multiplication by α in the field of R224. -/
def gfDouble (a : Nat) : Nat := if a < 128 then 2 * a else (2 * a - 256) ^^^ 0x1D

/-- A product in the field, one bit of `b` at a time. -/
def gfMulBits : Nat → Nat → Nat → Nat
  | 0, _, _ => 0
  | n + 1, a, b => (if b % 2 = 1 then a else 0) ^^^ gfMulBits n (gfDouble a) (b / 2)

/-- A product in the field. -/
def gfMul (a b : Nat) : Nat := gfMulBits 8 a b

/-- A power in the field. -/
def gfPow (a : Nat) : Nat → Nat
  | 0 => 1
  | n + 1 => gfMul a (gfPow a n)

/-- The inverse of an element that is not 0. -/
def gfInv (a : Nat) : Nat := gfPow a 254

/-- The locator of symbol q: α^(15 − q). -/
def gfLoc (q : Nat) : Nat := gfPow 2 (15 - q)

/-- The factor of known symbol q in erased symbol e: the codeword has the roots α⁰ to α^(n − 1) for the n erased symbols, so the
factors are Lagrange's. -/
def rsFactor (erased : List Nat) (e q : Nat) : Nat :=
  ((erased.filter (· ≠ e)).map (fun f =>
    gfMul (gfLoc q ^^^ gfLoc f) (gfInv (gfLoc e ^^^ gfLoc f)))).foldl gfMul 1

/-- The products of all bytes by a factor. -/
def gfTable (k : Nat) : List Nat := (List.range 256).map (gfMul k)

/-- Add a multiple of a symbol's bytes to a sum; an empty symbol is all zero. -/
def gfAddMul (k : Nat) (sum b : Bytes) : Bytes :=
  if b = [] then sum
  else
    let t := (gfTable k).toArray
    let m := b.map (fun x => BitVec.ofNat 8 (t.getD x.toNat 0))
    if sum = [] then m else List.zipWith (fun x y => x ^^^ y) sum m

/-- An erased symbol from the known symbols of its codewords (R225); an empty symbol is all zero. -/
def rsSolve (known : List (Nat × Bytes)) (erased : List Nat) (e : Nat) : Bytes :=
  known.foldl (fun s x => gfAddMul (rsFactor erased e x.1) s x.2) []

end Sys2Proof.Machine
end

