-- ==== Sys2Proof/Machine/Tether.lean ====
section
/-! DEFINITION. The Tether long-haul line (spec/10_tether_long_haul_line.md) and the record checks of the keys' chapter
(spec/11 R251 to R256, R270, R271). -/

namespace Sys2Proof.Machine

/-! ### Tables -/

/-- A long-haul link. -/
def Device.link (d : Device) (p l : Nat) : LinkSt := Tbl.get d.links (p, l) {}
/-- Replace it. -/
def Device.setLink (d : Device) (p l : Nat) (v : LinkSt) : Device := { d with links := Tbl.put Ix.lt d.links (p, l) v {} }
/-- Tether of a plane. -/
def Device.tether (d : Device) (p : Nat) : TetherSt := Tbl.get d.tethers (p, 0) {}
/-- Replace it. -/
def Device.setTether (d : Device) (p : Nat) (v : TetherSt) : Device :=
  { d with tethers := Tbl.put Ix.lt d.tethers (p, 0) v {} }
/-- A tributary. -/
def Device.trib (d : Device) (p t : Nat) : TribSt := Tbl.get d.tribs (p, t) {}
/-- Replace it. -/
def Device.setTrib (d : Device) (p t : Nat) (v : TribSt) : Device := { d with tribs := Tbl.put Ix.lt d.tribs (p, t) v {} }

/-- The unit of a Tether cause: [15:12] port, [9:0] tributary (Table 18.2). -/
def tetherUnit (l t : Nat) : Nat := l * 4096 + t

/-! ### Ports (R215) -/

/-- Whether a link is in the bundle. -/
def Device.inBundle (d : Device) (p l : Nat) : Bool := bit (d.get .lhBundle p 0) l

/-- Bring `lh_state` up to what holds (Table 10.12). CMIS module state 3 is ModuleReady (assumption log 11). -/
def Device.lhRefresh (d : Device) (p l : Nat) : Device :=
  let s := d.link p l
  let v :=
    if bit (d.get .fencedLongHaul p 0) l then 6
    else if !d.lhUp p l then 0
    else if d.get .lhModuleState p l ≠ 3 || !s.pcs then 1
    else if d.inBundle p l then 5
    else s.align + 2
  (d.set .lhState p l v).svcUpdate p (128 + l)

/-- The links of the bundle in increasing number. -/
def Device.bundle (d : Device) (p : Nat) : List Nat := (List.range 4).filter (d.inBundle p)

/-! ### Connection pages (R223, R229 to R232) -/

/-- The register index of a position's entry: direction (2: the receive page before the last change), position. -/
def tsiIx (dir pos : Nat) : Nat := dir * 65536 + pos

/-- Parity frames of a stripe by PCODE (Table 10.2). -/
def parityOf (pcode : Nat) : Nat := nth [0, 1, 2, 4] pcode

/-- The symbol of frame (L, FN) in its stripe. -/
def symbolOf (l fn : Nat) : Nat := 4 * (fn % 4) + l

/-- Whether a position lies in a parity frame. -/
def isParity (pcode l fn : Nat) : Bool := symbolOf l fn + parityOf pcode ≥ 16

/-- The tributary of a position under a page's entries with a bridge away from group `br` (R236): a protected position of the
bridged group is carried by its mirror, and carries nothing itself. -/
def posTrib (entry : Nat → Nat) (br : Option Nat) (pos : Nat) : Option Nat :=
  let own := let e := entry pos; if bit e 15 then some (fld e 0 10) else none
  match br with
  | none => own
  | some g =>
    if pos / 1024 = g then (if bit (entry pos) 15 && bit (entry pos) 14 then none else own)
    else
      let m := entry (pos ^^^ 1024)
      if bit m 15 && bit m 14 then some (fld m 0 10) else own

/-- Whether a page may be committed with its P (R229). -/
def pageOk (entry : Nat → Nat) (pcode : Nat) : Bool :=
  (List.range 2048).all (fun pos =>
    let e := entry pos
    let par := fun x => isParity pcode (x / 512) (x % 512 / 8)
    fld e 10 4 = 0 && (!bit e 15 || !par pos) &&
      (!bit e 14 || (!par (pos ^^^ 1024) && !bit (entry (pos ^^^ 1024)) 14)))

/-- Copy a page of connection entries with its PCODE. -/
def Device.copyPage (d : Device) (p : Nat) (src : Obj) (sdir : Nat) (dst : Obj) (ddir : Nat) : Device :=
  (List.range 2048).foldl (fun d pos => d.set dst p (tsiIx ddir pos) (d.get src p (tsiIx sdir pos))) d

/-- The entries of a direction's active page. -/
def Device.entries (d : Device) (p dir : Nat) : Nat → Nat := fun pos => d.get .tsiEntryActive p (tsiIx dir pos)

/-- The bridge sent (`aps_bridge`). -/
def bridgeOf (v : Nat) : Option Nat := if bit v 1 then some (v % 2) else none

/-! ### Spool buffers of a tributary (R238, R244) -/

/-- Whether a tributary is enabled. -/
def Device.tribOn (d : Device) (p t : Nat) : Bool := bit (d.get .tribDesc p t) 31

/-- The requester of a tributary. -/
def Device.tribReq (d : Device) (p t : Nat) : Nat :=
  let v := d.get .tribDesc p t
  if bit v 30 then sysReq else requester (fld v 10 12)

/-- Bytes waiting in a tributary. -/
def TribSt.waiting (s : TribSt) : Nat := total (s.txq.map (·.bytes.length))

/-- Slots a tributary needs for its copies and for `extra` more bytes than it has waiting. -/
def TribSt.slotsFor (s : TribSt) (extra : Nat) : Nat := s.copies.length + ceilDiv (s.waiting + extra) 1008

/-- Take spool buffers until `n` slots fit in `per` a buffer; none where one is refused, with those taken returned. -/
def Device.growBufs (d : Device) (p req per n : Nat) : Nat → List Nat → Device × Option (List Nat)
  | 0, l => (d, some l)
  | fuel + 1, l =>
    if n ≤ per * l.length then (d, some l)
    else
      let r := d.alloc p 0 req
      match r.2 with
      | none => (r.1, none)
      | some b =>
        let x := r.1.growBufs p req per n fuel (l ++ [b])
        match x.2 with
        | some _ => x
        | none => (x.1.free p 0 req b, none)

/-- Free the spool buffers that `n` slots no longer need. -/
def Device.shrinkBufs (d : Device) (p req per n : Nat) (l : List Nat) : Device × List Nat :=
  let keep := ceilDiv n per
  (d.freeAll p 0 req (l.drop keep), l.take keep)

/-- Return the transmit buffers of a tributary that it no longer needs. -/
def Device.trimTx (d : Device) (p t : Nat) : Device :=
  let s := d.trib p t
  let r := d.shrinkBufs p (d.tribReq p t) 64 (s.slotsFor 0) s.txBufs
  r.1.setTrib p t { s with txBufs := r.2 }

/-- Return the receive buffers of a tributary that it no longer needs. -/
def Device.trimRx (d : Device) (p t : Nat) : Device :=
  let s := d.trib p t
  let r := d.shrinkBufs p (d.tribReq p t) 63 s.held.length s.rxBufs
  r.1.setTrib p t { s with rxBufs := r.2 }

/-! ### Placement (R219, R226) -/

/-- The enabled tributary that a frame matches. -/
def Device.tribFor (d : Device) (p tenant cls : Nat) : Option Nat :=
  ((d.regs.filter (fun e => e.1.obj = .tribDesc && e.1.plane = p && bit e.2 31 && bit e.2 (22 + cls) &&
    (if bit e.2 30 then tenant = 0 else fld e.2 10 12 = tenant && tenant ≠ 0))).map (·.1.idx)).head?

/-- The bytes of a frame as it lies in a stream. -/
def frameWire (f : Frame) : Bytes :=
  f.hdrBytes ++ f.payload ++ (if f.payload = [] then [] else natToBytes 4 f.trailer.toNat)

/-- The outcome of placing a frame. -/
inductive Placed where
  | done
  | refused
  | noTrib
  deriving DecidableEq, Repr

/-- Place a frame that a long-haul output delivers into its tributary; a refused spool buffer leaves it in its kite (Table
5.5). The frame is given as it leaves, LINK_SEQ 0 and HOPS reduced. -/
def Device.placeTrib (d : Device) (p l : Nat) (f : Frame) (only : Option Nat) : Device × Placed :=
  match d.tribFor p f.tenant f.cls with
  | none => ((d.bump .lhNoTrib p 0).causeTether p 1 (tetherUnit l 0), .noTrib)
  | some t =>
    let s := d.trib p t
    let b := frameWire f
    let r := d.growBufs p (d.tribReq p t) 64 (s.slotsFor b.length + (if only.isSome then 1 else 0)) 4096 s.txBufs
    match r.2 with
    | none => (r.1, .refused)
    | some bufs => (r.1.setTrib p t { s with txBufs := bufs, txq := s.txq ++ [{ bytes := b, only := only }] }, .done)

/-! ### Sealing (R250 to R256, R270) -/

/-- The key slot holder of a tributary (R261). -/
def Device.holderOf (d : Device) (p t : Nat) : Nat :=
  let v := d.get .tribDesc p t
  if bit v 30 then 4096 + t % 64 else fld v 10 12

/-- The `key_sel` value of a tributary's holder. -/
def Device.keyUnit (d : Device) (p t : Nat) : Nat := if d.holderOf p t ≥ 4096 then mgmtSel else d.holderOf p t

/-- The nonce (R252, R253): fixed field and invocation counter. -/
def nonce (p l dir trib parity inv : Nat) : Nat :=
  (p * 2 ^ 30 + l * 2 ^ 28 + dir * 2 ^ 27 + (2 * trib + parity) * 2 ^ 16) * 2 ^ 64 + inv

/-- DIR of the device whose ID is `a` toward `b`. -/
def dirBit (a b : Nat) : Nat := if a < b then 0 else 1

/-- What a transmit counter's advance raises (R256): near the limit, with `rekey_auto` a rekey, and at the limit the stall. -/
def Device.noteCounter (d : Device) (p t c limit : Nat) : Device :=
  let u := d.keyUnit p t
  let d := if c = limit - limit / 16 then
      let d := d.causeCipher p 2 u
      if d.get .rekeyAuto p 0 = 1 then
        let mfn := d.get .lhMfnTx p 0 + 32768
        let r := (d.set .rekeyMfn p 0 mfn).startRekey p mfn
        r.1.set .rekeyCmd p 0 (if r.2 then 1 else 3)
      else d
    else d
  if c = limit then (d.bump .keyExhausted p 0).causeCipher p 1 u else d

/-- A request that the pipelines reject for its length: it is counted and raises the cipher-fault cause (R251). -/
def Device.lenReject (d : Device) (p : Nat) : Device := (d.bump .gcmLenReject p 0).causeCipher p 0 0

/-- Seal one slot of a tributary for a position on link l; none where the key, its limit or the plaintext's length does not allow
it. -/
def Device.sealSlot (d : Device) (p l t tsn firstOff : Nat) (payload : Bytes) (retx : Bool) : Device × Option Bytes :=
  let e := d.get .keyEpochTx p 0
  let i := 2 * d.holderOf p t + e % 2
  let th := d.tether p
  match d.tkey p i with
  | none => (d, none)
  | some k =>
    let c := nth k.ctrs l + 1
    if k.epoch ≠ e || c > k.limit then (d, none)
    else if payload.length > 1008 then (d.lenReject p, none)
    else
      let inv := e % 2 * 2 ^ 63 + c
      let hdr := natToBytes 16 (inv * 2 ^ 64 + tsn % 2 ^ 32 * 2 ^ 32 + t * 2 ^ 22 + (if retx then 2 ^ 21 else 0) +
        firstOff * 2 ^ 11 + payload.length)
      let iv := nonce p l (dirBit (d.devId p) (d.get .lhPartnerDevice p 0)) t (e % 2) inv
      let rec_ := gcmSeal k.key iv hdr (payload ++ List.replicate (1008 - payload.length) 0)
      let d := d.setTkey p i (some { k with ctrs := k.ctrs.set l c })
      let d := d.setTether p { th with sealed := th.sealed + 1 }
      ((d.bump .gcmTxRecords p 0).noteCounter p t c k.limit, some (hdr ++ rec_))

/-- Cut the next payload of at most `room` bytes off a tributary's queue: FIRST_OFF, payload, what is left (R219). A PTP frame
starts at byte 0 and goes on its own link only (spec/15 R339). -/
def cutSlot (l : Nat) : Nat → List TxFrame → Nat → Nat × Bytes × List TxFrame
  | _, [], _ => (0x3FF, [], [])
  | room, f :: rest, off =>
    if room = 0 then (0x3FF, [], f :: rest)
    else if f.only.isSome && !f.begun && (off ≠ 0 || f.only ≠ some l) then (0x3FF, [], f :: rest)
    else
      let b := f.bytes.take room
      if f.bytes.length ≤ room then
        let r := cutSlot l (room - b.length) rest (off + b.length)
        (if f.begun then r.1 else off, b ++ r.2.1, r.2.2)
      else (if f.begun then 0x3FF else off, b, { f with bytes := f.bytes.drop room, begun := true } :: rest)

/-- A PTP frame at the head of a tributary takes its departure time from the carrier frame that holds its slot (spec/15 R338,
R339). -/
def Device.departWire (d : Device) (p l : Nat) (q : List TxFrame) : Device × List TxFrame :=
  match q with
  | t :: rest =>
    if t.only = some l && !t.begun then
      let n := t.bytes.length - 36
      let f : Frame := { hdr := BitVec.ofNat 256 (beNat t.bytes 0 32), payload := (t.bytes.drop 32).take n,
                         trailer := BitVec.ofNat 32 (beNat t.bytes (32 + n) 4) }
      let x := d.ptpDepart p (128 + l) (toSigned 32 (d.get .lhAsymNs p l) * 32768) f
      (x.1, { t with bytes := frameWire x.2 } :: rest)
    else (d, q)
  | [] => (d, [])

/-- Distance modulo 2^32. -/
def tsnDist (a b : Nat) : Nat := (a + 2 ^ 32 - b % 2 ^ 32) % 2 ^ 32

/-- The copy that a tributary retransmits next: the first in TSN order of those queued and not yet sent `limit` times (R230,
R241). -/
def TribSt.nextRetx (s : TribSt) (limit : Nat) : Option TxCopy :=
  let first := match s.copies with | c :: _ => c.tsn | [] => 0
  argMin (fun c => tsnDist c.tsn first) (s.copies.filter (fun c => s.retx.contains c.tsn && c.tries < limit))

/-- The next slot of a tributary for a position on link l: retransmissions first, then new data; none where it has nothing to
send or may not seal it. -/
def Device.nextSlot (d : Device) (p l t : Nat) : Device × Option Bytes :=
  match (d.trib p t).nextRetx (d.get .lhRetxMax p 0) with
  | some c =>
    let r := d.sealSlot p l t c.tsn c.firstOff c.payload true
    match r.2 with
    | none => r
    | some b =>
      let s := r.1.trib p t
      let d := r.1.setTrib p t { s with
        retx := s.retx.filter (· ≠ c.tsn),
        copies := s.copies.map (fun x => if x.tsn = c.tsn then { x with tries := x.tries + 1, link := l } else x) }
      (d.bump .tribRetransmitted p t, some b)
  | none =>
    let x := d.departWire p l (d.trib p t).txq
    let cut := cutSlot l 1008 x.2 0
    if cut.2.1 = [] then (d, none)
    else
      let tsn := x.1.get .tribTxNext p t
      let r := x.1.sealSlot p l t tsn cut.1 cut.2.1 false
      match r.2 with
      -- the bytes stay queued, and a PTP frame takes its departure time when it leaves
      | none => (d, none)
      | some b =>
        let s := r.1.trib p t
        let d := r.1.setTrib p t { s with
          txq := cut.2.2,
          copies := s.copies ++ [{ tsn := tsn, firstOff := cut.1, payload := cut.2.1, tries := 1, link := l }] }
        ((d.set .tribTxNext p t (tsn + 1)).count .tribTxBytes p t cut.2.1.length, some b)

/-! ### Transmission (R216, R217, R230) -/

/-- Whether the pipelines allow another record in this multiframe (R250). -/
def Device.sealRoom (d : Device) (p : Nat) : Bool := d.pipes p 0 = 16 || (d.tether p).sealed < 2021

/-- One slot of a data frame: the position's tributary sends, or it is idle (empty). -/
def Device.fillSlot (d : Device) (p l fn k : Nat) : Device × Bytes :=
  let pos := 512 * l + 8 * fn + k
  if d.get .lhRdiRx p l = 1 || d.get .lhPartnerDevice p 0 = d.devId p then (d, [])
  else
    match posTrib (d.entries p 0) (bridgeOf (d.get .apsBridge p 0)) pos with
    | none => (d, [])
    | some t =>
      if !d.tribOn p t then (d, [])
      else if !d.sealRoom p then
        -- the limit acts where the position would have carried data, and raises its cause once in a multiframe
        let th := d.tether p
        let s := d.trib p t
        let idle := (s.nextRetx (d.get .lhRetxMax p 0)).isNone && (cutSlot l 1008 s.txq 0).2.1 = []
        (if th.limited || idle then d else (d.setTether p { th with limited := true }).causeCipher p 0 0, [])
      else
        let r := d.nextSlot p l t
        (r.1, r.2.getD [])

/-- Join eight slots to an area: empty where all are idle. -/
def joinSlots (l : List Bytes) : Bytes :=
  if l.all (· = []) then [] else l.flatMap (fun b => if b = [] then List.replicate 1040 0 else b)

/-- Fill frame number n = 4 · FN + L of the transmit multiframe: data slots in order, or the stripe's parity (R224, R230). -/
def Device.fillFrame (d : Device) (p n : Nat) : Device :=
  let l := n % 4
  let fn := n / 4
  if isParity (d.get .tsiPcodeActive p 0) l fn then
    let pp := parityOf (d.get .tsiPcodeActive p 0)
    let er := (List.range pp).map (fun i => 16 - pp + i)
    let base := fn / 4 * 16
    let known := (List.range (16 - pp)).map (fun q =>
      (q, match (d.tether p).areas.find? (fun a => a.1 = base + q) with | some a => a.2 | none => []))
    let th := d.tether p
    d.setTether p { th with areas := (n, rsSolve known er (symbolOf l fn)) :: th.areas, filled := n + 1 }
  else
    let r := (List.range 8).foldl (fun (x : Device × List Bytes) k =>
      let y := if x.1.lhUp p l then x.1.fillSlot p l fn k else (x.1, [])
      (y.1, x.2 ++ [y.2])) (d, [])
    let th := r.1.tether p
    r.1.setTether p { th with areas := (n, joinSlots r.2) :: th.areas, filled := n + 1 }

/-- The overhead of a carrier frame (Table 10.2). -/
def Device.overhead (d : Device) (p l fn : Nat) (ack : Option (Nat × Nat)) (nak : Option (Nat × Nat × Nat)) : Nat :=
  let th := d.tether p
  let pc := d.get .tsiPcodeActive p 0
  let next := match th.txPend with | some m => if th.announced then m else 0 | none => 0
  let req := d.get .apsLocalReq p 0
  let br := d.get .apsBridge p 0
  let v := 0xC35A * 2 ^ 496 + fn * 2 ^ 490 + l * 2 ^ 488 + p * 2 ^ 486 + pc * 2 ^ 484 +
    (if isParity pc l fn then 2 ^ 483 else 0) + th.txPage * 2 ^ 482 + (if d.inBundle p l then 0 else 2 ^ 481) +
    d.get .lhMfnTx p 0 % 2 ^ 48 * 2 ^ 432 + d.devId p % 4096 * 2 ^ 420 + req / 16 * 2 ^ 412 + req % 2 * 2 ^ 411 +
    br / 2 % 2 * 2 ^ 410 + br % 2 * 2 ^ 409 + next % 2 ^ 48 * 2 ^ 352 + d.get .keyEpochTx p 0 * 2 ^ 336 +
    (d.keySt p).announce % 2 ^ 48 * 2 ^ 288 +
    (match ack with | some (t, e) => 2 ^ 287 + t * 2 ^ 272 + e % 2 ^ 32 * 2 ^ 240 | none => 0) +
    (match nak with | some (t, f, c) => 2 ^ 239 + t * 2 ^ 224 + f % 2 ^ 32 * 2 ^ 192 + c * 2 ^ 184 | none => 0)
  v + crc16 ((natToBytes 64 v).take 62)

/-- The source address of R216. -/
def Device.srcMac (d : Device) (p l : Nat) : Nat :=
  0x024C5900 * 2 ^ 16 + fld (d.devId p) 4 8 * 2 ^ 8 + d.devId p % 16 * 16 + p * 4 + l

/-- A carrier frame with a good FCS. -/
def carrierOf (src oh : Nat) (area : Bytes) : CarrierFrame :=
  let a := if area = [] then List.replicate 8320 0 else area
  let b := natToBytes 6 0xFFFFFFFFFFFF ++ natToBytes 6 src ++ natToBytes 2 0x88B5 ++ natToBytes 64 oh ++ a
  { dst := BitVec.ofNat 48 0xFFFFFFFFFFFF, src := BitVec.ofNat 48 src, etherType := 0x88B5, oh := BitVec.ofNat 512 oh,
    area := a, fcs := BitVec.ofNat 32 (ethFcs b) }

/-- CARRIER_FRAME_TX: the next frame of the transmit multiframe on a link; after its 64th a link waits for the next
multiframe. -/
def Device.carrierTx (d : Device) (p l : Nat) : Device :=
  let s := d.link p l
  if !d.lhUp p l || s.fn ≥ 64 then d
  else
    let n := 4 * s.fn + l
    let first := (d.tether p).filled
    let d := ((List.range (n + 1 - first)).map (first + ·)).foldl (fun d k => d.fillFrame p k) d
    let d := if d.get .lhPartnerDevice p 0 = d.devId p then d.causeTether p 0 (tetherUnit l 0) else d
    let th := d.tether p
    let ack := th.ackQ.head?.map (fun t => (t, d.get .tribRxExpected p t))
    let oh := d.overhead p l s.fn ack th.nakQ.head?
    let area := match th.areas.find? (fun a => a.1 = n) with | some a => a.2 | none => []
    let d := d.setTether p { th with ackQ := th.ackQ.drop 1, nakQ := th.nakQ.drop 1 }
    let d := d.setLink p l { s with fn := s.fn + 1 }
    (d.bump .lhTxFrames p l).emit (.carrier p l (carrierOf (d.srcMac p l) oh area))

/-! ### Acknowledgement (R238, R240, R241) -/

/-- Queue an ACK for a tributary, once. -/
def Device.queueAck (d : Device) (p t : Nat) : Device :=
  let th := d.tether p
  if th.ackQ.contains t then d else d.setTether p { th with ackQ := th.ackQ ++ [t] }

/-- Queue a NAK; false where the queue is full. -/
def Device.queueNak (d : Device) (p t first count : Nat) : Device × Bool :=
  let th := d.tether p
  if th.nakQ.length ≥ 8192 then (d.bump .lhNakOverflow p 0, false)
  else (d.setTether p { th with nakQ := th.nakQ ++ [(t, first, count)] }, true)

/-- A received ACK. -/
def Device.ackRx (d : Device) (p t e : Nat) : Device :=
  let s := d.trib p t
  let oldest := match s.copies with | c :: _ => c.tsn | [] => d.get .tribTxNext p t
  let n := tsnDist e oldest
  if !d.tribOn p t || n > s.copies.length then d.bump .lhNakIgnored p 0
  else
    let gone := (s.copies.take n).map (·.tsn)
    (d.setTrib p t { s with copies := s.copies.drop n, retx := s.retx.filter (fun q => !gone.contains q) }).trimTx p t

/-- A received NAK: each named copy still held is queued, once. -/
def Device.tsnNakRx (d : Device) (p t first count : Nat) : Device :=
  let s := d.trib p t
  let named := (s.copies.filter (fun c => tsnDist c.tsn first < count)).map (·.tsn)
  if named = [] then d.bump .lhNakIgnored p 0
  else d.setTrib p t { s with retx := s.retx ++ named.filter (fun q => !s.retx.contains q) }

/-- RDI first received for a link: every unacknowledged slot last sent on it is queued (R230). -/
def Device.rdiRx (d : Device) (p l : Nat) (rdi : Bool) : Device :=
  let was := d.get .lhRdiRx p l = 1
  let d := d.set .lhRdiRx p l (if rdi then 1 else 0)
  if rdi && !was then
    { d with tribs := d.tribs.map (fun e =>
        if e.1.1 = p then
          (e.1, { e.2 with retx := e.2.retx ++ ((e.2.copies.filter (fun c => c.link = l && !e.2.retx.contains c.tsn)).map (·.tsn)) })
        else e) }
  else d

/-! ### Delivery (R239, R242, R267, R271) -/

/-- The header of a slot as a number. -/
def slotHdr (b : Bytes) : Nat := beNat b 0 16

/-- Open a held slot (Table 11.5): its payload's valid bytes, or none with the check's counter and cause. -/
def Device.openSlot (d : Device) (p t : Nat) (s : RxSlot) : Device × Option Bytes :=
  let h := slotHdr s.bytes
  let inv := fld h 64 64
  let u := d.keyUnit p t
  if fld inv 44 19 ≠ 0 || fld inv 0 44 = 0 then ((d.bump .gcmNonceReject p 0).causeCipher p 5 u, none)
  else
    let par := fld inv 63 1
    let rx := d.get .keyEpochRx p 0
    match d.tkey p (2 * d.holderOf p t + par) with
    | none => ((d.bump .keyUnknown p 0).causeCipher p 3 u, none)
    | some k =>
      if k.epoch + 1 < rx || k.epoch > rx + 1 then ((d.bump .keyUnknown p 0).causeCipher p 3 u, none)
      else if s.bytes.length ≠ 1040 then (d.lenReject p, none)
      else
        let iv := nonce p s.link (dirBit (d.get .lhPartnerDevice p 0) (d.devId p)) t par inv
        match gcmOpen k.key iv (s.bytes.take 16) ((s.bytes.drop 16).take 1008) (s.bytes.drop 1024) with
        | none => ((d.bump .gcmAuthFail p 0).causeCipher p 4 u, none)
        | some pl => (d.bump .gcmRxRecords p 0, some (pl.take (fld h 0 11)))

/-- A frame of a tributary's stream goes through checks 4 to 8 of Table 3.9 and enters by input L(n) (R227). -/
def Device.lhIntake (d : Device) (p t : Nat) (f : Frame) : Device :=
  let n := (f.srcDevice + f.srcPort + f.destPort + f.tenant + f.cls) % 4
  let v := d.get .tribDesc p t
  -- classes 5 and 6 take TENANT 0x000 alone (Table 3.9 check 6)
  let v := d.verdict p f (f.tenant = (if bit v 30 then 0 else fld v 10 12) && (!(f.cls = 5 || f.cls = 6) || f.tenant = 0))
  let rej := fun (d : Device) b => (d.bump .lhRxReject p 0).causeFabric p b (128 + n)
  -- a fenced port takes no frame into the plane (spec/02 R35; assumption log 23)
  if bit (d.get .fencedLongHaul p 0) n then d.bump .lhRxReject p 0 else
  match v with
  | .malformed => rej d 2
  | .wrongPlane => rej d 3
  | .suspended => d.bump .tnSuspendDrop p f.tenant
  | .tenant => rej d 4
  | .hops => rej d 5
  | .pass =>
    if f.opcode = opPtp then d.ptpTaken p f
    else
      match f.trailerCheck with
      | .good =>
        -- a unicast frame for another partition fails check 8 (R33), which the input's lookup applies
        d.intake p (128 + 4 * n) f
      | _ => rej d 0

/-- Take whole frames off a tributary's stream. -/
def Device.parseStream (d : Device) (p t : Nat) : Nat → Device
  | 0 => d
  | fuel + 1 =>
    let s := d.trib p t
    if s.stream.length < 32 then d
    else
      let len := fld (beNat s.stream 0 32) 128 13
      let n := 32 + len + (if len > 0 then 4 else 0)
      if s.stream.length < n then d
      else
        let b := s.stream.take n
        let f : Frame := { hdr := BitVec.ofNat 256 (beNat b 0 32), payload := (b.drop 32).take len,
                           trailer := BitVec.ofNat 32 (if len = 0 then 0 else beNat b (32 + len) 4) }
        ((d.setTrib p t { s with stream := s.stream.drop n }).lhIntake p t f).parseStream p t fuel

/-- Deliver a slot's bytes: after a loss, from the slot's FIRST_OFF on (R219). -/
def Device.deliverBytes (d : Device) (p t firstOff : Nat) (b : Bytes) : Device :=
  let d := d.count .tribRxBytes p t b.length
  let s := d.trib p t
  let d :=
    if s.synced then d.setTrib p t { s with stream := s.stream ++ b }
    else if firstOff = 0x3FF then d
    else d.setTrib p t { s with stream := b.drop firstOff, synced := true }
  d.parseStream p t 64

/-- Drop holds that are delivered and whose stripe is decided. -/
def Device.dropHolds (d : Device) (p t : Nat) : Device :=
  let s := d.trib p t
  (d.setTrib p t { s with held := s.held.filter (fun h => !(h.done && h.decided)) }).trimRx p t

/-- Group consecutive TSNs into runs of at most 255. -/
def runsOf : List Nat → List (Nat × Nat)
  | [] => []
  | q :: r =>
    match runsOf r with
    | (f, c) :: rest => if f = (q + 1) % 2 ^ 32 && c < 255 then (q, c + 1) :: rest else (q, 1) :: (f, c) :: rest
    | [] => [(q, 1)]

/-- What of a gap is still missing, in runs. -/
def Gap.trim (e : Nat) (held : List RxSlot) (g : Gap) : List Gap :=
  let l := (List.range g.count).filter (fun k =>
    tsnDist (g.first + k) e < 2 ^ 31 && !held.any (fun h => h.tsn = (g.first + k) % 2 ^ 32))
  (runsOf (l.map (fun k => (g.first + k) % 2 ^ 32))).map (fun r => { g with first := r.1, count := r.2 })

/-- Gaps that are filled or passed end. -/
def Device.trimGaps (d : Device) (p t : Nat) : Device :=
  let s := d.trib p t
  d.setTrib p t { s with gaps := s.gaps.flatMap (Gap.trim (d.get .tribRxExpected p t) s.held) }

/-- Deliver every held slot in sequence from E (R239). -/
def Device.deliverRun (d : Device) (p t : Nat) : Nat → Device
  | 0 => d
  | fuel + 1 =>
    let e := d.get .tribRxExpected p t
    match (d.trib p t).held.find? (fun h => h.tsn = e && !h.done) with
    | none => d
    | some h =>
      let r := d.openSlot p t h
      let s := r.1.trib p t
      match r.2 with
      | none =>
        -- the slot is missing again
        (r.1.setTrib p t { s with held := s.held.filter (fun x => x.tsn ≠ e) }).trimRx p t
      | some b =>
        let d := r.1.setTrib p t { s with held := s.held.map (fun x => if x.tsn = e then { x with done := true } else x) }
        let d := (d.set .tribRxExpected p t (e + 1)).queueAck p t
        ((d.deliverBytes p t (fld (slotHdr h.bytes) 11 10) b).dropHolds p t).deliverRun p t fuel

/-- After a slot has come in or E has moved. -/
def Device.settleTrib (d : Device) (p t : Nat) : Device := (d.deliverRun p t ((d.trib p t).held.length + 1)).trimGaps p t

/-! ### Slots received (R239) -/

/-- The page under which a multiframe is decoded: direction index and PAGE bit (R232). -/
def TetherSt.pageAt (th : TetherSt) (mfn : Nat) : Nat × Nat :=
  match th.rxFrom with
  | some m => if (mfn + 2 ^ 48 - m) % 2 ^ 48 < 2 ^ 47 then (1, th.rxPage) else (2, 1 - th.rxPage)
  | none => (1, th.rxPage)

/-- PCODE of a receive page. -/
def Device.rxPcode (d : Device) (p dir : Nat) : Nat := d.get .tsiPcodeActive p dir

/-- The bridge under which a multiframe is decoded (R236). -/
def TetherSt.bridgeAt (th : TetherSt) (mfn : Nat) : Option Nat := bridgeOf (lookNat th.infos mfn)

/-- One slot of a received or rebuilt frame, checks 2 to 8 of Table 10.11; `decided` for a rebuilt frame. -/
def Device.slotRx (d : Device) (p l mfn fn k : Nat) (b : Bytes) (decided : Bool) : Device :=
  let th := d.tether p
  let h := slotHdr b
  let len := fld h 0 11
  let t := fld h 22 10
  let tsn := fld h 32 32
  if len > 1008 || (len = 0 && b.any (· ≠ 0)) then d.bump .lhSlotMalformed p 0
  else if len = 0 then d
  else if posTrib (d.entries p (th.pageAt mfn).1) (th.bridgeAt mfn) (512 * l + 8 * fn + k) ≠ some t then
    d.bump .lhTribMismatch p 0
  else if !d.tribOn p t then d.bump .lhNoTrib p 0
  else
    let s := d.trib p t
    let e := d.get .tribRxExpected p t
    let n := tsnDist tsn e
    if n ≥ 2 ^ 31 || s.held.any (fun x => x.tsn = tsn) then d.bump .lhDupSlots p 0
    else if n ≥ 2 ^ 24 then d.bump .lhWindowDrop p 0
    else
      -- the limit of R250 and its cause, once in a multiframe
      let cnt := lookNat th.opened mfn
      let d := d.setTether p { th with opened := putNat (th.opened.take 2048) mfn (cnt + 1) }
      if d.pipes p 1 < 16 && cnt ≥ 2021 then (if cnt = 2021 then d.causeCipher p 0 0 else d)
      else
        let slot : RxSlot := { tsn := tsn, link := l, stripe := 16 * mfn + fn / 4, bytes := b, decided := decided }
        let r := d.growBufs p (d.tribReq p t) 63 (s.held.length + 1) 2 s.rxBufs
        match r.2 with
        | some bufs => (r.1.setTrib p t { s with held := s.held ++ [slot], rxBufs := bufs }).settleTrib p t
        | none =>
          if n = 0 then
            -- delivered without hold
            let x := r.1.openSlot p t slot
            match x.2 with
            | none => x.1
            | some pl =>
              ((((x.1.set .tribRxExpected p t (e + 1)).queueAck p t).deliverBytes p t (fld h 11 10) pl)).settleTrib p t
          else r.1.bump .lhRxQuotaDrop p 0

/-- The eight slots of a data frame. -/
def Device.areaRx (d : Device) (p l mfn fn : Nat) (area : Bytes) (decided : Bool) : Device :=
  (List.range 8).foldl (fun d k => d.slotRx p l mfn fn k ((area.drop (1040 * k)).take 1040) decided) d

/-! ### Stripes (R225) -/

/-- What a frame of a stripe is: received, erased (its link is out of the bundle or past it, or its parity was discarded), or
still to come. -/
inductive Sym where
  | got
  | erased
  | open_
  deriving DecidableEq, Repr

/-- The state of symbol q of a stripe. -/
def Device.symOf (d : Device) (p : Nat) (s : Stripe) (q : Nat) : Sym :=
  let l := q % 4
  let num := s.no * 4 + q / 4
  if s.got.any (fun g => g.1 = q) || s.par.any (fun g => g.1 = q) then .got
  else if !d.inBundle p l || s.dropped.contains q then .erased
  else if num < (d.link p l).expect then .erased else .open_

/-- Data slots of a stripe's received frames that are not idle. -/
def Stripe.records (s : Stripe) : Nat :=
  total (s.got.map (fun g => ((List.range 8).filter (fun k => fld (slotHdr ((g.2.drop (1040 * k)).take 16)) 0 11 ≠ 0)).length))

/-- Slots of a stripe that are held. -/
def Device.heldOf (d : Device) (p no : Nat) : Nat :=
  total ((d.tribs.filter (fun e => e.1.1 = p)).map (fun e => (e.2.held.filter (fun h => h.stripe = no)).length))

/-- Free the parity buffers that the frames held no longer need (R225). -/
def Device.trimParity (d : Device) (p : Nat) : Device :=
  let th := d.tether p
  let n := total (th.stripes.map (·.par.length))
  let r := d.shrinkBufs p sysReq 7 n th.parityBufs
  r.1.setTether p { r.1.tether p with parityBufs := r.2 }

/-- Count an unrecovered stripe against the route groups whose data frames it lost (R234). -/
def Device.noteLoss (d : Device) (p : Nat) (lost : List Nat) : Device :=
  let th := d.tether p
  let w := d.clock / 1000000000
  let th := if th.sdWindow = w then th
    else { th with sdWindow := w, sdLast := if th.sdWindow + 1 = w then th.sdNow else [], sdNow := [] }
  let up := fun g => nth th.sdNow g + (if lost.any (fun q => q % 4 / 2 = g) then 1 else 0)
  (d.setTether p { th with sdNow := [up 0, up 1] }).bump .lhStripesUnrecovered p 0

/-- Decide one stripe (R225). -/
def Device.decideStripe (d : Device) (p : Nat) (s : Stripe) : Device :=
  let th := d.tether p
  let mfn := s.no / 16
  let page := (th.pageAt mfn).1
  let pp := parityOf (d.rxPcode p page)
  let er := (List.range 16).filter (fun q => d.symOf p s q = .erased)
  let data := er.filter (· < 16 - pp)
  let whole := d.heldOf p s.no = s.records
  let d := d.setTether p { th with stripes := th.stripes.filter (fun x => x.no ≠ s.no) }
  let d := d.trimParity p
  let d : Device := { d with tribs := d.tribs.map (fun e =>
      if e.1.1 = p then (e.1, { e.2 with held := e.2.held.map (fun h => if h.stripe = s.no then { h with decided := true } else h) })
      else e) }
  let touched := (d.tribs.filter (fun e => e.1.1 = p && e.2.held ≠ [])).map (·.1.2)
  let d := touched.foldl (fun d t => d.dropHolds p t) d
  if data = [] then d
  else if er.length ≤ pp && whole then
    let known := s.got ++ s.par
    let d := d.bump .lhStripesRepaired p 0
    data.foldl (fun d q => d.areaRx p (q % 4) mfn (s.no % 16 * 4 + q / 4) (rsSolve known er q) true) d
  else d.noteLoss p data

/-- The missing TSNs below held slots whose stripes, and all before them, are decided (R240). -/
def Device.missing (d : Device) (p t : Nat) : List Nat :=
  let s := d.trib p t
  let e := d.get .tribRxExpected p t
  let open_ := (d.tether p).stripes.map (·.no)
  let ready := s.held.filter (fun h => h.decided && open_.all (fun n => h.stripe < n) && tsnDist h.tsn e < 2 ^ 24)
  match argMax (fun h => tsnDist h.tsn e) ready with
  | none => []
  | some h =>
    ((List.range (tsnDist h.tsn e)).map (fun k => (e + k) % 2 ^ 32)).filter (fun q =>
      !s.held.any (fun x => x.tsn = q) && !s.gaps.any (fun g => tsnDist q g.first < g.count))

/-- NAK the new gaps of a tributary. -/
def Device.nakGaps (d : Device) (p t : Nat) : Device :=
  (runsOf (d.missing p t)).foldl (fun d g =>
    let r := d.queueNak p t g.1 g.2
    let s := r.1.trib p t
    r.1.setTrib p t { s with gaps := s.gaps ++ [{ first := g.1, count := g.2, naks := if r.2 then 1 else 0, at_ := d.clock, left := !r.2 }] }) d

/-- Decide every stripe of which no frame is still to come, oldest first, then NAK what is missing. -/
def Device.decideStripes (d : Device) (p : Nat) : Device :=
  let ready := (d.tether p).stripes.filter (fun s => (List.range 16).all (fun q => d.symOf p s q ≠ .open_))
  if ready = [] then d
  else
    let d := (sortBy (fun a b => a.no < b.no) ready).foldl (fun d s => d.decideStripe p s) d
    ((d.tribs.filter (fun e => e.1.1 = p && e.2.held ≠ [])).map (·.1.2)).foldl (fun d t => d.nakGaps p t) d

/-- A frame's place in its stripe opens the stripe's record. -/
def Device.touchStripe (d : Device) (p num : Nat) : Device :=
  let th := d.tether p
  let no := num / 4
  if th.stripes.any (fun s => s.no = no) then d else d.setTether p { th with stripes := th.stripes ++ [{ no := no }] }

/-- Change a stripe's record. -/
def Device.modStripe (d : Device) (p no : Nat) (f : Stripe → Stripe) : Device :=
  let th := d.tether p
  d.setTether p { th with stripes := th.stripes.map (fun s => if s.no = no then f s else s) }

/-- Hold a parity frame, 7 to a buffer of the system requester in at most 1,536 buffers; beyond that it is discarded. -/
def Device.parityRx (d : Device) (p q no : Nat) (area : Bytes) : Device :=
  let th := d.tether p
  let n := total (th.stripes.map (·.par.length))
  let r := if n ≥ 7 * 1536 then (d, none) else d.growBufs p sysReq 7 (n + 1) 2 th.parityBufs
  match r.2 with
  | none => (r.1.bump .lhParityDropped p 0).modStripe p no (fun s => { s with dropped := q :: s.dropped })
  | some bufs =>
    (r.1.setTether p { r.1.tether p with parityBufs := bufs }).modStripe p no (fun s => { s with par := (q, area) :: s.par })

/-! ### Alignment (R220 to R222) -/

/-- A link leaves the bundle; other than by command, fence or module removal that is a fault event of its channel (spec/19
Table 19.1). -/
def Device.leaveBundle (d : Device) (p l : Nat) (fault : Bool) : Device :=
  if d.inBundle p l then
    let d := d.set .lhBundle p 0 (clrBit (d.get .lhBundle p 0) l)
    let d := if fault && !(d.link p l).removed then d.chanFault p (chan 8 l) else d
    d.decideStripes p
  else d

/-- A link goes out of frame. -/
def Device.goOof (d : Device) (p l : Nat) (fault : Bool) : Device :=
  let s := d.link p l
  let d := d.setLink p l { s with align := 0, last := none, bad := 0, whole := false, clean := true, good := 0, incons := 0 }
  (d.leaveBundle p l fault).lhRefresh p l

/-- The end of a multiframe on a link in frame (R221, Table 10.4). -/
def Device.mfEnd (d : Device) (p l : Nat) : Device :=
  let s := d.link p l
  let ok := s.whole && s.clean
  let s := { s with whole := true, clean := true, good := if ok then s.good + 1 else 0, incons := if ok then 0 else s.incons + 1 }
  if s.align = 1 && s.good ≥ 2 then (d.setLink p l { s with align := 2 }).lhRefresh p l
  else if s.align = 2 && s.incons ≥ 8 then
    (((d.setLink p l { s with align := 1 }).bump .lhOomEvents p l).leaveBundle p l true).lhRefresh p l
  else d.setLink p l s

/-- The expected position moves on by one frame. -/
def Device.advance (d : Device) (p l : Nat) : Device :=
  let s := d.link p l
  let d := d.setLink p l { s with expect := (s.expect + 1) % 2 ^ 54 }
  if s.expect % 64 = 63 then d.mfEnd p l else d

/-- A bad frame on a link in frame: an erasure at its position; the fourth in a row loses the frame (R220). `mfn` is the MFN of
a frame that was valid and out of place. -/
def Device.badFrame (d : Device) (p l : Nat) (mfn : Option Nat) : Device :=
  let d := d.bump .lhBadFrames p l
  let s := d.link p l
  if s.align = 0 then d.setLink p l { s with last := none }
  else
    let d := if d.inBundle p l then d.touchStripe p s.expect else d
    let d := d.bump .lhErasedFrames p l
    let clean := s.clean && (match mfn with | some m => m = s.expect / 64 | none => true)
    let d := (d.setLink p l { s with bad := s.bad + 1, clean := clean }).advance p l
    let d := if (d.link p l).bad ≥ 4 then (d.bump .lhOofEvents p l).goOof p l true else d
    d.decideStripes p

/-- Extend or restart a reading's run (R235). -/
def Reading.next (r : Reading) (mfn v : Nat) : Reading :=
  if r.run > 0 && mfn = (r.mfn + 1) % 2 ^ 48 && r.value = v then { mfn := mfn, value := v, run := r.run + 1 }
  else { mfn := mfn, value := v, run := 1 }

/-- The values read at FN 0 from the lowest-numbered link of the bundle (R232, R235, R263). -/
def Device.readings (d : Device) (p oh : Nat) : Device :=
  let th := d.tether p
  let mfn := fld oh 432 48
  let req := fld oh 412 4
  let known := [0xF, 0xE, 0xB, 0x9, 0x7, 0x5, 0x0].contains req
  let rq := if known then th.reqRun.next mfn (16 * req + fld oh 411 1) else th.reqRun
  let ep := th.epochRun.next mfn (fld oh 336 16)
  let rk := th.rekeyRun.next mfn (fld oh 288 48)
  let pg := th.pageRun.next mfn (fld oh 352 48)
  let d := d.setTether p { th with
    reqRun := rq, epochRun := ep, rekeyRun := rk, pageRun := pg,
    accRekey := if rk.run ≥ 3 then rk.value else th.accRekey,
    rxNext := if pg.run ≥ 3 && pg.value ≠ 0 && (pg.value + 2 ^ 48 - mfn) % 2 ^ 48 < 2 ^ 47 then some pg.value else th.rxNext,
    infos := putNat (th.infos.take 2048) mfn (fld oh 410 1 * 2 + fld oh 409 1) }
  let d := d.set .apsSelect p 0 (fld oh 410 1 * 2 + fld oh 409 1)
  let d := if known && rq.run ≥ 3 then d.set .apsRemoteReq p 0 rq.value else d
  let d := if ep.run ≥ 3 then d.set .keyEpochRx p 0 ep.value else d
  if ep.run ≥ 3 || rk.run ≥ 3 then d.keyReview p (d.tether p).accRekey else d

/-- The first frame of a multiframe in the bundle: the announced page change is due (R232). -/
def Device.enterMf (d : Device) (p mfn : Nat) : Device :=
  let d := d.set .lhMfnRx p 0 mfn
  let th := d.tether p
  match th.rxNext with
  | some m =>
    if (mfn + 2 ^ 48 - m) % 2 ^ 48 < 2 ^ 47 then
      let d := d.setTether p { th with rxNext := none }
      if th.rxArmed then
        let d := (d.copyPage p .tsiEntryActive 1 .tsiEntryActive 2).copyPage p .tsiEntry 1 .tsiEntryActive 1
        let d := (d.set .tsiPcodeActive p 2 (d.get .tsiPcodeActive p 1)).set .tsiPcodeActive p 1 (d.get .tsiPcode p 1)
        let d := d.setTether p { d.tether p with rxArmed := false, rxFrom := some m, rxPage := 1 - th.rxPage }
        d.set .tsiCommitCmd p 1 2
      else (d.bump .tsiUnready p 0).causeTether p 2 0
    else d
  | none => d

/-- FN 0 arrives: the link's skew against the bundle's earliest arrival (R222). -/
def Device.fnZero (d : Device) (p l mfn : Nat) : Device :=
  let th := d.tether p
  match th.fn0.find? (fun e => e.1 = mfn) with
  | none =>
    let d := if d.inBundle p l || d.get .lhBundle p 0 = 0 then d.setTether p { th with fn0 := (mfn, d.clock) :: th.fn0.take 2047 } else d
    d.set .lhSkewNs p l 0
  | some e =>
    let d := d.set .lhSkewNs p l (d.clock - e.2)
    if d.clock - e.2 > d.get .lhDeskewMaxUs p 0 * 1000 then (d.leaveBundle p l true).lhRefresh p l else d

/-- A good frame of a link in the bundle: overhead, page, stripe and slots. -/
def Device.bundleFrame (d : Device) (p l num oh : Nat) (area : Bytes) : Device :=
  let mfn := num / 64
  let fn := num % 64
  let fresh := (mfn + 2 ^ 48 - d.get .lhMfnRx p 0) % 2 ^ 48
  let d := if fresh ≠ 0 && fresh < 2 ^ 47 then d.enterMf p mfn else d
  let d := if (d.tether p).infos.any (fun e => e.1 = mfn) then d
    else d.setTether p { d.tether p with infos := putNat ((d.tether p).infos.take 2048) mfn (fld oh 410 1 * 2 + fld oh 409 1) }
  let d := if fn = 0 && (d.bundle p).head? = some l then d.readings p oh else d
  let page := (d.tether p).pageAt mfn
  let d := if fld oh 482 1 ≠ page.2 then d.causeTether p 2 (tetherUnit l 0) else d
  let d := d.touchStripe p num
  let q := symbolOf l fn
  if fld oh 483 1 = 1 then d.parityRx p q (num / 4) area
  else (d.modStripe p (num / 4) (fun s => { s with got := (q, area) :: s.got })).areaRx p l mfn fn area false

/-- A good frame: valid and at the expected position. -/
def Device.goodFrame (d : Device) (p l oh : Nat) (area : Bytes) : Device :=
  let s := d.link p l
  let num := s.expect
  let d := d.setLink p l { s with bad := 0 }
  let d := d.rdiRx p l (bit oh 481)
  let d := if bit oh 287 then d.ackRx p (fld oh 272 10) (fld oh 240 32) else d
  let d := if bit oh 239 then d.tsnNakRx p (fld oh 224 10) (fld oh 192 32) (fld oh 184 8) else d
  let d := if num % 64 = 0 then d.fnZero p l (num / 64) else d
  let d := if d.inBundle p l then d.bundleFrame p l num oh area else d
  (d.advance p l).decideStripes p

/-- Whether a frame passes the structural conditions of R220, and those on its identity. -/
def Device.carrierOk (d : Device) (p l : Nat) (cf : CarrierFrame) : Bool × Bool :=
  let oh := cf.oh.toNat
  let b := natToBytes 6 cf.dst.toNat ++ natToBytes 6 cf.src.toNat ++ natToBytes 2 cf.etherType.toNat ++ natToBytes 64 oh ++ cf.area
  (cf.etherType = 0x88B5 && cf.area.length = 8320 && cf.fcs.toNat = ethFcs b && fld oh 496 16 = 0xC35A &&
     fld oh 0 16 = crc16 ((natToBytes 64 oh).take 62),
   fld oh 486 2 = p && fld oh 488 2 = l && fld oh 420 12 = d.get .lhPartnerDevice p 0)

/-- CARRIER_FRAME_RX. -/
def Device.carrierRx (d : Device) (p l : Nat) (cf : CarrierFrame) : Device :=
  if d.get .lhState p l < 2 || d.get .lhState p l = 6 then d
  else
    let ok := d.carrierOk p l cf
    let oh := cf.oh.toNat
    if !(ok.1 && ok.2) then
      let d := if ok.1 then (d.bump .lhPeerMismatch p l).causeTether p 0 (tetherUnit l 0) else d
      d.badFrame p l none
    else
      let d := d.bump .lhRxFrames p l
      let num := fld oh 432 48 * 64 + fld oh 490 6
      let s := d.link p l
      if s.align = 0 then
        if s.last = some ((num + 2 ^ 54 - 1) % 2 ^ 54) then
          let d := d.setLink p l { s with align := 1, last := none, expect := (num + 1) % 2 ^ 54, bad := 0, whole := num % 64 = 63,
                                          clean := true, good := 0, incons := 0 }
          d.lhRefresh p l
        else d.setLink p l { s with last := some num }
      else if num = s.expect then d.goodFrame p l oh cf.area
      else d.badFrame p l (some (num / 64))

/-! ### Protection (R234 to R237) -/

/-- Signal fail of a route group (R234). -/
def Device.signalFail (d : Device) (p g : Nat) : Bool :=
  let out := (List.range 4).filter (fun l => !d.inBundle p l)
  out.any (fun l => l / 2 = g && (parityOf (d.rxPcode p 1) < 4 || out.any (· ≠ l)))

/-- Signal degrade of a route group (R234). -/
def Device.signalDegrade (d : Device) (p g : Nat) : Bool :=
  let th := d.tether p
  let w := d.clock / 1000000000
  let thr := d.get .lhSdThreshold p 0
  (th.sdWindow = w && nth th.sdNow g ≥ thr) || (th.sdWindow + 1 = w && nth th.sdNow g ≥ thr) ||
    (th.sdWindow = w && nth th.sdLast g ≥ thr)

/-- Whether a signal fail (REQ 0xB) or degrade (0x9) holds, as 16 · REQ + group. -/
def Device.lineCond (d : Device) (p c : Nat) : Bool := if c / 16 = 0xB then d.signalFail p (c % 16) else d.signalDegrade p (c % 16)

/-- Follow the signal fails and degrades: one that begins starts its hold-off; one that clears ends, and where it caused a bridge
the wait-to-restore begins (R234, R237). -/
def Device.apsFollow (d : Device) (p : Nat) : Device :=
  [0xB0, 0xB1, 0x90, 0x91].foldl (fun d c =>
    let th := d.tether p
    let known := th.running.contains c || th.confirmed.contains c
    if d.lineCond p c then (if known then d else d.setTether p { th with running := th.running ++ [c] })
    else if !known then d
    else
      let w := d.get .lhWtrS p 0
      d.setTether p { th with
        running := th.running.filter (· ≠ c), confirmed := th.confirmed.filter (· ≠ c), caused := th.caused.filter (· ≠ c),
        wtr := if th.caused.contains c && w > 0 then some (c % 16, d.clock + w * 1000000000) else th.wtr }) d

/-- A signal fail or degrade has persisted for its hold-off: it is a local request, and replaces a wait-to-restore. -/
def Device.apsConfirm (d : Device) (p c : Nat) : Device :=
  let th := d.tether p
  d.setTether p { th with running := th.running.filter (· ≠ c), confirmed := th.confirmed ++ [c], wtr := none }

/-- The conditions at a multiframe boundary: with no hold-off they are requests at once. -/
def Device.apsConditions (d : Device) (p : Nat) : Device :=
  let d := d.apsFollow p
  if d.get .lhHoldoffMs p 0 = 0 then (d.tether p).running.foldl (fun d c => d.apsConfirm p c) d else d

/-- HOLDOFF_EXPIRY: the hold-off of a route group that began first has run. -/
def Device.holdoffRun (d : Device) (p g : Nat) : Device :=
  let d := d.apsFollow p
  match (d.tether p).running.find? (fun c => c % 16 = g) with
  | some c => d.apsConfirm p c
  | none => d

/-- The local requests as 16 · REQ + group (Table 10.8). -/
def Device.localReqs (d : Device) (p : Nat) : List Nat :=
  let th := d.tether p
  let cmd := d.get .apsCommand p 0
  (if cmd / 16 ≠ 0 then [cmd] else []) ++
    th.confirmed ++
    (match th.wtr with | some (g, _) => [16 * 5 + g] | none => [])

/-- The top local request: equal priorities keep the one in force, else group 0 (R236). -/
def topReq (l : List Nat) (inForce : Nat) : Nat :=
  match argMax (· / 16) l with
  | none => 0
  | some r =>
    let same := l.filter (fun x => x / 16 = r / 16)
    if same.contains inForce then inForce else (argMin (· % 2) same).getD 0

/-- The protection part of a multiframe boundary (R236, R237). -/
def Device.apsBoundary (d : Device) (p : Nat) : Device :=
  let d := d.apsConditions p
  let loc := topReq (d.localReqs p) (d.get .apsLocalReq p 0)
  let rem := d.get .apsRemoteReq p 0
  let win := if rem / 16 > loc / 16 then rem else loc
  let d := if d.get .apsCommand p 0 / 16 = 7 && win / 16 > 7 then d.set .apsCommand p 0 0 else d
  let br := if [0xE, 0xB, 0x9, 0x7, 0x5].contains (win / 16) then 2 + win % 2 else 0
  let d := d.set .apsLocalReq p 0 loc
  let th := d.tether p
  let d := if win = loc && th.confirmed.contains loc && !th.caused.contains loc then d.setTether p { th with caused := loc :: th.caused }
    else d
  if br = d.get .apsBridge p 0 then d else (d.set .apsBridge p 0 br).bump .apsSwitches p 0

/-- Links in multiframe within the skew limit join the bundle, unless their channel is retired (R222, spec/19 Table 19.1). -/
def Device.joinLinks (d : Device) (p : Nat) : Device :=
  (List.range 4).foldl (fun d l =>
    if !d.inBundle p l && (d.link p l).align = 2 && d.lhUp p l && !d.retired p (chan 8 l) &&
        d.get .lhSkewNs p l ≤ d.get .lhDeskewMaxUs p 0 * 1000 then
      ((d.set .lhBundle p 0 (setBit (d.get .lhBundle p 0) l)).chanClear p (chan 8 l)).lhRefresh p l
    else d) d

/-- The transmit page of a pending commit is announced, and taken at its multiframe (R231). -/
def Device.txPageBoundary (d : Device) (p : Nat) : Device :=
  let th := d.tether p
  match th.txPend with
  | none => d
  | some m =>
    if d.get .lhMfnTx p 0 ≥ m then
      let d := (d.copyPage p .tsiEntry 0 .tsiEntryActive 0).set .tsiPcodeActive p 0 (d.get .tsiPcode p 0)
      (d.setTether p { th with txPend := none, announced := false, txPage := 1 - th.txPage }).set .tsiCommitCmd p 0 2
    else d.setTether p { th with announced := true }

/-- MULTIFRAME_BOUNDARY: the transmit multiframe ends and the next begins; in the spine role the framers are off (spec/01 R12). -/
def Device.mfBoundary (d : Device) (p : Nat) : Device :=
  if !d.live p || d.role p ≠ 1 then d
  else
    let d := d.set .lhMfnTx p 0 ((d.get .lhMfnTx p 0 + 1) % 2 ^ 48)
    let d := d.setTether p { d.tether p with areas := [], filled := 0, sealed := 0, limited := false }
    let d := (List.range 4).foldl (fun d l => d.setLink p l { d.link p l with fn := 0 }) d
    let d := d.joinLinks p
    let d := d.keyBoundary p (d.tether p).accRekey
    (d.txPageBoundary p).apsBoundary p

/-! ### Timers -/

/-- A gap is declared lost (R242): E moves to the lowest held TSN above it, or past it; the skipped slots count. -/
def Device.gapLost (d : Device) (p t : Nat) (g : Gap) : Device :=
  let s := d.trib p t
  let e := d.get .tribRxExpected p t
  let past := tsnDist (g.first + g.count) e
  let above := s.held.filter (fun h => !h.done && past ≤ tsnDist h.tsn e && tsnDist h.tsn e < 2 ^ 31)
  let dest := match argMin (fun h => tsnDist h.tsn e) above with
    | some h => h.tsn
    | none => (g.first + g.count) % 2 ^ 32
  let n := tsnDist dest e
  -- the skipped slots never came, so how many frames had a byte in them is not known here: from one to as many as fit (a free
  -- value, assumption log 35)
  let x := d.fresh
  let lost := 1 + x.1 % ((n * 1008 - 2) / 32 + 2)
  let d := x.2.setTrib p t { s with stream := [], synced := false, gaps := s.gaps.filter (· ≠ g),
                                    held := s.held.filter (fun h => h.done || n ≤ tsnDist h.tsn e) }
  let d := (d.set .tribRxExpected p t dest).count .tribLostSlots p t n
  let d := (d.count .lhFramesLost p 0 lost).causeTether p 3 (tetherUnit 0 t)
  ((d.queueAck p t).trimRx p t).settleTrib p t

/-- An open gap whose timer has run: NAKed again, or lost once it has been NAKed `lh_retx_max` times; one that finds the queue full
is left to the sender's timeout. -/
def Device.gapDue (d : Device) (p t : Nat) (g : Gap) : Device :=
  if !(d.trib p t).gaps.contains g then d
  else if g.naks ≥ d.get .lhRetxMax p 0 then d.gapLost p t g
  else
    let r := d.queueNak p t g.first g.count
    let s := r.1.trib p t
    r.1.setTrib p t { s with gaps := s.gaps.map (fun x =>
      if x = g then { x with naks := if r.2 then x.naks + 1 else x.naks, at_ := d.clock, left := !r.2 } else x) }

/-- RENAK_TIMER: the open gaps of a tributary whose last NAK lies longest back (R240, R242). -/
def Device.renak (d : Device) (p t : Nat) : Device :=
  let open_ := (d.trib p t).gaps.filter (fun g => !g.left)
  match argMin (·.at_) open_ with
  | none => d
  | some g => (open_.filter (fun x => x.at_ = g.at_)).foldl (fun d x => d.gapDue p t x) d

/-- RETX_TIMEOUT: the oldest copy is queued (R241). -/
def Device.retxTimeout (d : Device) (p t : Nat) : Device :=
  let s := d.trib p t
  match s.copies with
  | c :: _ => if s.retx.contains c.tsn then d else d.setTrib p t { s with retx := s.retx ++ [c.tsn] }
  | [] => d

/-! ### Management (R226, R231, R232, R237, R247) -/

/-- Whether a write to `trib_desc` is allowed (R226; spec/16 R358). -/
def Device.tribDescOk (d : Device) (p t v : Nat) : Bool :=
  let old := d.get .tribDesc p t
  let others := d.regs.filter (fun e => e.1.obj = .tribDesc && e.1.plane = p && e.1.idx ≠ t && bit e.2 31)
  let key := fun x => if bit x 30 then 0 else fld x 10 12
  let clash := others.any (fun e => key e.2 = key v && fld e.2 22 8 &&& fld v 22 8 ≠ 0)
  if bit old 31 then !bit v 31
  else
    !bit v 31 ||
      (!clash && (if bit v 30 then fld v 10 12 = 0 && (others.filter (fun e => bit e.2 30)).length < 128 else fld v 10 12 ≠ 0))

/-- A write to `trib_desc`: enabling and disabling start the tributary anew; frames that waited in it match none. -/
def Device.tribDescWrite (d : Device) (p t v : Nat) : Device × Bool :=
  let was := bit (d.get .tribDesc p t) 31
  let req := d.tribReq p t
  let r := d.store .tribDesc p t v
  if !r.2 then r
  else if was ≠ bit v 31 then
    let s := r.1.trib p t
    let d := (r.1.freeAll p 0 req s.txBufs).freeAll p 0 req s.rxBufs
    let lost := (s.txq.filter (fun f => !f.begun)).length
    let d := if lost > 0 then (d.count .lhNoTrib p 0 lost).causeTether p 1 (tetherUnit 0 t) else d
    let d := d.setTrib p t {}
    let d := d.setTether p { d.tether p with ackQ := (d.tether p).ackQ.filter (· ≠ t), nakQ := (d.tether p).nakQ.filter (fun x => x.1 ≠ t) }
    ((d.set .tribTxNext p t 0).set .tribRxExpected p t 0, true)
  else r

/-- A write of 0x01 to `tsi_commit_cmd` for a direction. -/
def Device.tsiCommit (d : Device) (p dir : Nat) : Device :=
  let th := d.tether p
  let ok := pageOk (fun pos => d.get .tsiEntry p (tsiIx dir pos)) (d.get .tsiPcode p dir)
  if dir = 0 then
    let m := d.get .tsiSwitchMfn p 0 % 2 ^ 48
    if ok && d.get .lhMfnTx p 0 + 16 ≤ m && th.txPend.isNone then
      (d.setTether p { th with txPend := some m, announced := false }).set .tsiCommitCmd p 0 1
    else d.set .tsiCommitCmd p 0 3
  else if ok then (d.setTether p { th with rxArmed := true }).set .tsiCommitCmd p 1 1
  else d.set .tsiCommitCmd p 1 3

/-- A write to `lh_admin` (R215). -/
def Device.lhAdminWrite (d : Device) (p l v : Nat) : Device × Bool :=
  let r := d.store .lhAdmin p l v
  if !r.2 then r
  else if v = 0 then (r.1.goOof p l false, true) else (r.1.lhRefresh p l, true)

/-! ### Commands -/

/-- LH_ADMIN_WRITE. -/
def execLhAdminWrite (p : Plane) (l : Lh) (v : Byte) (rq : Req) (s : State) : Res :=
  s.run (fun d => d.request rq (fun d =>
    d.doWrite rq ⟨⟨.lhAdmin, p, l⟩, 1, v.toNat⟩ (fun _ => true) (fun d => d.lhAdminWrite p l v.toNat)))
/-- CARRIER_FRAME_TX. -/
def execCarrierFrameTx (p : Plane) (l : Lh) (s : State) : Res := s.runOn p (fun d => d.carrierTx p l)
/-- CARRIER_FRAME_RX. -/
def execCarrierFrameRx (p : Plane) (l : Lh) (cf : CarrierFrame) (s : State) : Res := s.runOn p (fun d => d.carrierRx p l cf)
/-- CARRIER_FRAME_ABSENT. -/
def execCarrierFrameAbsent (p : Plane) (l : Lh) (s : State) : Res :=
  s.runOn p (fun d => if (d.link p l).align = 0 || d.get .lhState p l < 2 then d else d.badFrame p l none)
/-- LH_LOSS_OF_SIGNAL. -/
def execLhLossOfSignal (p : Plane) (l : Lh) (s : State) : Res := s.runOn p (fun d => d.goOof p l true)
/-- MULTIFRAME_BOUNDARY. -/
def execMultiframeBoundary (p : Plane) (s : State) : Res := s.runOn p (fun d => d.mfBoundary p)
/-- HOLDOFF_EXPIRY. -/
def execHoldoffExpiry (p : Plane) (g : Fin 2) (s : State) : Res :=
  s.runOn p (fun d =>
    d.holdoffRun p g.val)
/-- WTR_EXPIRY. -/
def execWtrExpiry (p : Plane) (s : State) : Res := s.runOn p (fun d => d.setTether p { d.tether p with wtr := none })
/-- APS_COMMAND: applies at the next multiframe boundary, which reads it. -/
def execApsCommand (p : Plane) (v : Byte) (rq : Req) (s : State) : Res :=
  s.run (fun d => d.request rq (fun d =>
    d.doWrite rq ⟨⟨.apsCommand, p, 0⟩, 1, v.toNat⟩ (fun _ => [0x0, 0x7, 0xE, 0xF].contains (v.toNat / 16))
      (fun d => (d.set .apsCommand p 0 v.toNat, true))))
/-- A write to `tsi_commit_cmd`: for the transmit direction R231 refuses one that finds a commit pending. -/
def Device.tsiCommitWrite (d : Device) (p : Nat) (rq : Req) : Device :=
  let dir := d.sel .tsiDirSel p 0 rq.ses.val
  if dir = 0 then d.commandNow rq ⟨.tsiCommitCmd, p, 0⟩ 1 (fun d => d.tsiCommit p dir)
  else d.command rq ⟨.tsiCommitCmd, p, 0⟩ 1 (fun d => d.tsiCommit p dir)
/-- TSI_COMMIT_TX. -/
def execTsiCommitTx (p : Plane) (rq : Req) (s : State) : Res :=
  s.run (fun d => d.tsiCommitWrite p rq)
/-- TSI_COMMIT_RX. -/
def execTsiCommitRx (p : Plane) (rq : Req) (s : State) : Res :=
  s.run (fun d => d.tsiCommitWrite p rq)
/-- TRIB_DESC_WRITE. -/
def execTribDescWrite (p : Plane) (v : BitVec 32) (rq : Req) (s : State) : Res :=
  s.run (fun d => d.request rq (fun d =>
    let t : Target := ⟨.tribDesc, p, 0⟩
    let i := d.place t rq.ses.val
    d.doWrite rq ⟨t, 4, v.toNat⟩ (fun d => d.tribDescOk p i v.toNat) (fun d => d.tribDescWrite p i v.toNat)))
/-- ACK_REPORT_TIMER. -/
def execAckReportTimer (p : Plane) (tr : Trib) (s : State) : Res :=
  s.runOn p (fun d => if d.tribOn p tr then d.queueAck p tr else d)
/-- RENAK_TIMER. -/
def execRenakTimer (p : Plane) (tr : Trib) (s : State) : Res := s.runOn p (fun d => d.renak p tr)
/-- RETX_TIMEOUT. -/
def execRetxTimeout (p : Plane) (tr : Trib) (s : State) : Res := s.runOn p (fun d => d.retxTimeout p tr)
/-- DERIVATION_COMPLETE. -/
def execDerivationComplete (p : Plane) (s : State) : Res := s.runOn p (fun d => d.derived p (d.tether p).accRekey)
/-- LONG_HAUL_PCS_LOCK. -/
def execLongHaulPcsLock (p : Plane) (l : Lh) (lock : Bool) (s : State) : Res :=
  s.runOn p (fun d =>
    let d := d.setLink p l { d.link p l with pcs := lock }
    if lock then (d.retuned p l 3).lhRefresh p l else d.goOof p l true)

end Sys2Proof.Machine
end

