-- ==== Sys2Proof/Machine/Sched.lean ====
section
/-! DEFINITION. Scheduling, shaping and time gates (spec/06_scheduling_and_shaping.md). A scheduled output is a line port: 0 to 127
fabric, 128 to 131 long-haul. -/

namespace Sys2Proof.Machine

/-- Whether a frame may be sent in the open window: DATA or SPRAY_DATA toward the far peer's device, of an open class, ended
before the window does, within `byp_win_cells` (spec/14 R325 to R327). -/
def Device.windowFits (d : Device) (p o : Nat) (f : FrameRec) : Bool :=
  let e := d.gateIn p o 0
  let g := d.readdress p o f.grp f.frame
  entryByp e.1 && bit e.1 (56 + f.cls) && (g.opcode = opData || g.opcode = opSpray) &&
    g.destDevice = fld (d.get .bypWinPeer p (bypIx o)) 10 12 &&
    frameCost g * 8000 ≤ e.2 * d.rate p o && (d.port p o).winTx + f.cells ≤ d.get .bypWinCells p (bypIx o)

/-- Send a window frame: LINK_SEQ 0, no credit and no retry, so its cells have reached their release point (spec/14 R326). -/
def Device.sendWindow (d : Device) (p n id : Nat) (fr : FrameRec) : Device :=
  let s := d.port p n
  let f := { fr with frame := d.readdress p n fr.grp fr.frame }.outgoing 0
  let d := d.setPort p n { s with winTx := s.winTx + fr.cells }
  let d := match d.copy? p id with
    | some c => d.setCopy p id { c with wait := c.wait.filter (· ≠ n), due := c.due ++ [n] }
    | none => d
  ((d.bump .txFrames p n).count .txBytes p n f.bytes).emit (.lfl p n f)

/-- ns from `t` ns on for which the gate word and `gcl_enable` in force then both hold. -/
def Device.gateRun (d : Device) (p o t : Nat) : Nat :=
  let n := (d.gateIn p o t).2
  if (d.outp p o).enableNext.isSome && t < d.cycleLeft p o then min n (d.cycleLeft p o - t) else n

/-- Whether the gate of class c stays open for `need` units of 1/rate from `t` ns on: need ≤ ns · rate / 1000. -/
def Device.gateHolds (d : Device) (p o c rate need : Nat) : Nat → Nat → Bool
  | 0, _ => true
  | fuel + 1, t =>
    let n := d.gateRun p o t
    if d.enableIn p o t && !entryOpen (d.gateIn p o t).1 c then false
    else if need ≤ (t + n) * rate then true
    else if n = 0 then false
    else d.gateHolds p o c rate need fuel (t + n)

/-- Whether a frame ends before its gate closes (R114), a pending `gcl_enable` in view. -/
def Device.gateFits (d : Device) (p o c : Nat) (f : Frame) : Bool :=
  (!(d.outp p o).enabled && (d.outp p o).enableNext ≠ some true) ||
    d.gateHolds p o c (d.rate p o) (frameCost f * 8000) 600 0

/-- Bring the active lists of an output up to what is queued (R117): emptied queues leave with deficit 0, new ones join the
tail and wake: where a frame was appended, at that instant; after a decision (`sent`), which made it the head, now. -/
def Device.syncLists (d : Device) (p o : Nat) (sent : Bool) : Device :=
  let heads := d.heads p o
  (List.range 8).foldl (fun d c =>
    let b := backlog heads c
    let s := d.outp p o
    let old := s.lists.getD c []
    let gone := old.filter (fun t => !b.contains t)
    let fresh := b.filter (fun t => !old.contains t)
    if gone = [] && fresh = [] then d
    else
      let lists := (List.range 8).map (fun k => if k = c then old.filter b.contains ++ fresh else s.lists.getD k [])
      let turns := (List.range 8).map (fun k => if k = c && gone.contains (nth s.turns k - 1) && nth s.turns k ≠ 0 then 0 else nth s.turns k)
      let d := d.setOutp p o { s with
        lists := lists, turns := turns,
        promoted := s.promoted.filter (fun x => !(x.1 = c && gone.contains x.2)),
        promo := match s.promo with | some x => if x.1 = c && gone.contains x.2.1 then none else some x | none => none }
      let d := gone.foldl (fun d t =>
        let d := d.updateCredit p o c t (d.gateOpen p o c)
        d.setTq p o c t { d.tq p o c t with deficit := 0, backlogged := false, waited := 0, waitFrom := none }) d
      fresh.foldl (fun d t =>
        let at_ := match (queueHeads heads c t).head? with | some x => if sent then d.clock else x.2.1.at_ | none => d.clock
        d.wakeQueue p o c t at_) d) d

/-! ### Eligibility (R111) -/

/-- Whether the spool quota allows a frame to be placed (Table 5.5). -/
def Device.spoolFits (d : Device) (p : Nat) (f : Frame) : Bool :=
  match d.tribFor p f.tenant f.cls with
  | none => true
  | some t =>
    let s := d.trib p t
    let need := ceilDiv (s.slotsFor (frameWire f).length) 64 - s.txBufs.length
    d.quotaUsed p 0 (d.tribReq p t) + need ≤ d.quota p 0 (d.tribReq p t)

/-- Whether a head frame may start at this decision, the shaper apart. -/
def Device.headFits (d : Device) (p o : Nat) (x : Nat × Copy × FrameRec) : Bool :=
  let c := x.2.2.cls
  if d.sendsWindow p o then d.windowFits p o x.2.2
  else d.gateOpen p o c && d.gateFits p o c x.2.2.frame &&
    (if o < 128 then x.2.2.cells ≤ (d.port p o).creditLeft c && (d.port p o).unacked.length < 2047
     else !(d.outp p o).noSpool.contains x.2.2.tenant)

/-- Whether tenant queue (o, c, t) is eligible, its credit being up to date. -/
def Device.eligible (d : Device) (p o c t : Nat) (heads : List (Nat × Copy × FrameRec)) : Bool :=
  (d.tq p o c t).credit ≥ 0 &&
    (match (queueHeads heads c t).head? with | some x => d.headFits p o x | none => false)

/-! ### Sending -/

/-- A request for spool was refused: the long-haul output passes over the tenant's queues (Table 5.5). -/
def Device.passOver (d : Device) (p o t : Nat) : Device :=
  let s := d.outp p o
  if s.noSpool.contains t then d else d.setOutp p o { s with noSpool := t :: s.noSpool }

/-- Send the first head of a queue and charge the shaper (Table 6.3). A long-haul output places it in a tributary; a refused
spool buffer leaves it (Table 5.5). The device, and whether it went. -/
def Device.sendHead (d : Device) (p o : Nat) (x : Nat × Copy × FrameRec) : Device × Bool :=
  let sw := swOfLine o
  let f := x.2.2
  let c := f.cls
  let t := f.tenant
  let r : Device × Bool :=
    if d.sendsWindow p o then (d.sendWindow p o x.1 f, true)
    else if o < 128 then (d.transmit p o x.1 false, true)
    else
      let g := { f with frame := d.readdress p sw f.grp f.frame }.outgoing 0
      let y := d.placeTrib p (o - 128) g none
      match y.2 with
      | .refused => (y.1.passOver p o t, false)
      | .noTrib => (y.1.release p x.1 sw, true)
      | .done => (y.1.readCopy p x.1 sw, true)
  if !r.2 then r
  else
    let d := r.1
    let q := d.tq p o c t
    let i := d.idleMbps p c t
    let rt := d.rate p o
    let len := frameCost f.frame
    let dur := len * 8000 * 2400 / rt
    let fall : Int := if i = 0 then 0 else (len : Int) * ((rt : Int) - i) * (creditUnit / rt : Nat)
    (d.setTq p o c t { q with credit := d.clipCredit p c t (q.credit - fall), upTo := max q.upTo d.sTime + dur,
                              mark := d.svcThen p o c d.sTime + dur, waited := 0, waitFrom := none }, true)

/-- The quantum of a tenant's class (`drr_quantum`), and of telemetry (R122). -/
def Device.quantum (d : Device) (p c t : Nat) : Nat := if t = sysReq then 16384 else d.get .drrQuantum p (tqSelOf c t)

/-- The queue at its turn goes on: it is eligible and its head fits its deficit (R117). -/
def Device.goesOn (d : Device) (p o c t : Nat) (heads : List (Nat × Copy × FrameRec)) : Bool :=
  d.eligible p o c t heads &&
    (match (queueHeads heads c t).head? with
      | some x => frameCost x.2.2.frame ≤ (d.tq p o c t).deficit
      | none => false)

/-- A turn whose queue does not go on has ended, whichever class is served: the queue moves to the tail (R117). -/
def Device.endTurns (d : Device) (p o : Nat) (heads : List (Nat × Copy × FrameRec)) : Device :=
  (List.range 8).foldl (fun d c =>
    let turn := nth (d.outp p o).turns c
    if turn = 0 || d.goesOn p o c (turn - 1) heads then d else d.toTail p o c (turn - 1)) d

/-- The queue that deficit round robin serves in class c (R117): the one at its turn, else the next eligible queue of the list. -/
def Device.drrPick (d : Device) (p o c : Nat) (heads : List (Nat × Copy × FrameRec)) : Option Nat :=
  let turn := nth (d.outp p o).turns c
  if turn ≠ 0 then some (turn - 1) else ((d.outp p o).lists.getD c []).find? (fun t => d.eligible p o c t heads)

/-- Deficit round robin within class c (R117): a queue whose turn begins takes a fresh quantum, its head frame's cost comes off
its deficit. -/
def Device.drrSend (d : Device) (p o c : Nat) (heads : List (Nat × Copy × FrameRec)) : Device :=
  match d.drrPick p o c heads with
  | none => d
  | some t =>
    match (queueHeads heads c t).head? with
    | none => d
    | some x =>
      let grant := if nth (d.outp p o).turns c = 0 then d.quantum p c t else 0
      let r := d.sendHead p o x
      if !r.2 then r.1
      else
        let q := r.1.tq p o c t
        let s := r.1.outp p o
        (r.1.setTq p o c t { q with deficit := q.deficit + grant - frameCost x.2.2.frame }).setOutp p o
          { s with turns := (List.range 8).map (fun k => if k = c then t + 1 else nth s.turns k) }

/-- A queue's wait clock as it reads now. -/
def Device.waitOf (d : Device) (q : TqSt) : Nat := q.waited + (match q.waitFrom with | some w => d.clock - w | none => 0)

/-- Serve a promoted queue (R121): its head frames while they fit an allowance of one quantum, longest wait first, ties to the
lowest tenant. -/
def Device.promoPick (d : Device) (p o : Nat) (heads : List (Nat × Copy × FrameRec)) : Option (Nat × Nat × Nat) :=
  let s := d.outp p o
  let cont := match s.promo with
    | some (c, t, a) =>
      (match (queueHeads heads c t).head? with
        | some x => if d.eligible p o c t heads && frameCost x.2.2.frame ≤ a then some (c, t, a) else none
        | none => none)
    | none => none
  match cont with
  | some x => some x
  | none =>
    let ok := s.promoted.filter (fun x => d.eligible p o x.1 x.2 heads)
    let wait := fun (x : Nat × Nat) => d.waitOf (d.tq p o x.1 x.2)
    let most := (ok.map wait).foldl max 0
    match argMin (fun x => (most - wait x) * 8192 + x.2) ok with
    | some (c, t) => some (c, t, d.quantum p c t)
    | none => none

/-- Send one frame of a promoted queue. -/
def Device.promoSend (d : Device) (p o c t a : Nat) (heads : List (Nat × Copy × FrameRec)) : Device :=
  match (queueHeads heads c t).head? with
  | none => d
  | some x =>
    let r := d.sendHead p o x
    let s := r.1.outp p o
    if r.2 then
      r.1.setOutp p o { s with promo := some (c, t, a - frameCost x.2.2.frame), promoted := s.promoted.filter (· ≠ (c, t)) }
    else r.1

/-- Serve an idle hold (R122): the output sends only link frames and resends for its length. -/
def Device.serveHold (d : Device) (p o kind : Nat) : Device :=
  let s := d.outp p o
  let l := if kind = 1 then s.calHold else s.bistHold
  match l with
  | [] => d
  | n :: rest =>
    let s := { s with holdUntil := d.clock + n, bgPromoted := s.bgPromoted.filter (· ≠ kind) }
    d.setOutp p o (if kind = 1 then { s with calHold := rest } else { s with bistHold := rest })

/-- The class to serve: the candidate of highest rank (R111). -/
def Device.classPick (d : Device) (p o : Nat) (heads : List (Nat × Copy × FrameRec)) : Option Nat :=
  argMax (fun c => octet 8 8 (d.get .classRank p 0) c)
    ((List.range 8).filter (fun c => (backlog heads c).any (fun t => d.eligible p o c t heads)))

/-- Per class, the high-water of queued cells and head delay (R123). -/
def Device.classHigh (d : Device) (p o : Nat) (heads : List (Nat × Copy × FrameRec)) : Device :=
  let sw := swOfLine o
  (List.range 8).foldl (fun d c =>
    let cells := total ((d.copiesOf p).map (fun e =>
      if e.2.stage = .queued && e.2.wait.contains sw then
        (match d.frame? p e.2.fid with | some f => if f.cls = c then f.cells else 0 | none => 0) else 0))
    let delay := match (heads.filter (fun x => x.2.2.cls = c)).head? with | some x => d.clock - x.2.1.at_ | none => 0
    let a := d.get .classDepthHw p o
    let b := d.get .classDelayHw p o
    let d := if octet 8 32 a c < cells then d.set .classDepthHw p o (setOctet 8 32 a c cells) else d
    if octet 8 32 b c < delay then d.set .classDelayHw p o (setOctet 8 32 b c delay) else d) d

/-- The wait clock of a queue runs while it is eligible and not served (R121). -/
def Device.waitClocks (d : Device) (p o : Nat) (heads : List (Nat × Copy × FrameRec)) : Device :=
  (d.queuesOf p o).foldl (fun d x =>
    let q := d.tq p o x.1 x.2
    match q.backlogged && d.eligible p o x.1 x.2 heads, q.waitFrom with
    | true, none => d.setTq p o x.1 x.2 { q with waitFrom := some d.clock }
    | false, some _ => d.setTq p o x.1 x.2 { q with waited := d.waitOf q, waitFrom := none }
    | _, _ => d) d

/-- Bring an output's clocks, lists and credits up to now. -/
def Device.refresh (d : Device) (p o : Nat) : Device :=
  let d := (d.svcUpdate p o).syncLists p o false
  let d := d.creditTick p o (d.gateOpen p o)
  d.waitClocks p o (d.heads p o)

/-- The head frame that would be sent: of the promoted queue, else of the class of highest rank (R111). -/
def Device.nextHead (d : Device) (p o : Nat) (heads : List (Nat × Copy × FrameRec)) : Option (Nat × Copy × FrameRec) :=
  match d.promoPick p o heads with
  | some (c, t, _) => (queueHeads heads c t).head?
  | none =>
    (d.classPick p o heads).bind (fun c => (d.drrPick p o c heads).bind (fun t => (queueHeads heads c t).head?))

/-- One request for spool of a long-haul output's decision: the head that would be sent asks for its buffers; where that is refused,
which counts and raises its cause (spec/05 Table 5.3), its tenant is passed over (Table 5.5) and the next is to be tried. -/
def Device.spoolTurn (d : Device) (p o : Nat) (heads : List (Nat × Copy × FrameRec)) : Device × Bool :=
  let d := d.endTurns p o heads
  if o < 128 then (d, false)
  else
    match d.nextHead p o heads with
    | some x =>
      if d.spoolFits p x.2.2.frame then (d, false)
      else (((d.placeTrib p (o - 128) x.2.2.frame none).1).passOver p o x.2.2.tenant, true)
    | none => (d, false)

/-- The requests for spool of a decision, until one is granted or none is left. -/
def Device.spoolScreen (d : Device) (p o : Nat) (heads : List (Nat × Copy × FrameRec)) : Nat → Device
  | 0 => d
  | fuel + 1 =>
    let r := d.spoolTurn p o heads
    if r.2 then r.1.spoolScreen p o heads fuel else r.1

/-- What an output does at a decision: a forced hold, a promoted queue, the candidate class of highest rank or, where a hold is
promoted, the hold ahead of class 0 (R111, R122). -/
def Device.choose (d : Device) (p o : Nat) (heads : List (Nat × Copy × FrameRec)) : Device :=
  let s := d.outp p o
  match s.forceHold, d.promoPick p o heads with
  | some n, _ => d.setOutp p o { s with forceHold := none, holdUntil := d.clock + n }
  | none, some (c, t, a) => d.promoSend p o c t a heads
  | none, none =>
    let d := d.setOutp p o { s with promo := none }
    match d.classPick p o heads with
    | some c =>
      if octet 8 8 (d.get .classRank p 0) c = 0 && s.bgPromoted ≠ [] then d.serveHold p o (s.bgPromoted.headD 1)
      else d.drrSend p o c heads
    | none =>
      if d.sendsWindow p o then d
      else if s.calHold ≠ [] then d.serveHold p o 1
      else if s.bistHold ≠ [] then d.serveHold p o 2
      else d

/-- A decision is counted; at every 1,024th a sample is due (R123). A change of service takes effect (R119). -/
def Device.countDecision (d : Device) (p o : Nat) : Device :=
  let s := d.outp p o
  d.setOutp p o { s with decisions := (s.decisions + 1) % 1024, sampleDue := s.sampleDue || s.decisions + 1 = 1024,
                         recovery := d.recoveryMode p }

/-- One scheduling decision (R111, R122); a due calibration pair in a gap has asked for its hold by then (R305). -/
def Device.decide_ (d : Device) (p o : Nat) : Device :=
  let d := ((d.calHolds p o).refresh p o).countDecision p o
  let heads := d.heads p o
  let d := (d.spoolScreen p o heads heads.length).choose p o heads
  ((d.classHigh p o heads).syncLists p o true).svcUpdate p o

/-- A frame boundary of a fabric output: resends first (R110), then a decision; a port that is not UP sends nothing here. -/
def Device.fabricTurn (d : Device) (p n : Nat) : Device :=
  if !d.live p then d
  else if d.sendsWindow p n then d.decide_ p n
  else if d.get .portState p n ≠ 4 then d
  else if (d.port p n).resend ≠ [] then d.sendResend p n
  else if d.clock < (d.outp p n).holdUntil then d
  else d.decide_ p n

/-- A frame boundary of a long-haul output. -/
def Device.longHaulTurn (d : Device) (p l : Nat) : Device :=
  if !d.lhUp p l || d.clock < (d.outp p (128 + l)).holdUntil then d else d.decide_ p (128 + l)

/-- What an engine attachment does with a frame it has read: the hub path's frames leave to the hub, the others wait for the
engine. -/
def Device.engineTakes (d : Device) (p sw : Nat) (f : FrameRec) : Device :=
  let g := f.frame
  if sw = 157 then d.emit (.hubPath p g) else { d with inbox := d.inbox ++ [(p, sw, f.input, g)] }

/-- The head that an output without tenant queues reads next: by class rank, within a class the kites of its column in round robin
after the one served last (R109). A column reducer passes over heads that wait for a clearing (spec/07 R137). -/
def Device.plainPick (d : Device) (p sw : Nat) : Option (Nat × Copy × FrameRec) :=
  let all := (d.headsAt p sw).filter (fun x => sw < 200 || !d.clearsFor p x.2.2)
  match argMax (fun (x : Nat × Copy × FrameRec) => octet 8 8 (d.get .classRank p 0) x.2.2.cls) all with
  | none => none
  | some top =>
    let last := nth (d.outp p (200 + sw)).lastRow top.2.2.cls
    argMin (fun x => ((x.2.1.row + 20 - last) % 20) * 2 ^ 64 + x.2.1.seq) (all.filter (fun x => x.2.2.cls = top.2.2.cls))

/-- Note the row that such an output has served. -/
def Device.served_ (d : Device) (p sw : Nat) (x : Nat × Copy × FrameRec) : Device :=
  let s := d.outp p (200 + sw)
  d.setOutp p (200 + sw) { s with lastRow := (List.range 8).map (fun k => if k = x.2.2.cls then x.2.1.row + 1 else nth s.lastRow k) }

/-- An output of groups 18 and 19 reads a frame (R109). -/
def Device.engineTurn (d : Device) (p sw : Nat) : Device :=
  match d.plainPick p sw with
  | none => d
  | some x => ((d.served_ p sw x).readCopy p x.1 sw).engineTakes p sw x.2.2

/-- A column reducer in service reads the frame that R109 puts next and applies its checks, conversion and addition. -/
def Device.reducerTurn (d : Device) (p col : Nat) : Device :=
  match d.plainPick p (200 + col) with
  | none => d
  | some x => if d.get .reducerState p col ≠ 0 then d else (d.served_ p (200 + col) x).reducerFrame p col x.1

/-! ### Gate lists -/

/-- The position of the active list at the reading of its time base: credits are brought up to date under the entry that ends. -/
def Device.gateMove (d : Device) (p o : Nat) : Device :=
  let s := d.outp p o
  let old := s.page.entry (d.get .gclCurrent p o)
  let d := d.creditTick p o (fun c => !s.enabled || entryOpen old c)
  let held := match s.pend with | some w => decide (w.holdFrom ≤ d.tbNow p s.page.tb) | none => false
  d.set .gclCurrent p o (if held then s.page.entries.length - 1 else (s.page.at_ (d.tbNow p s.page.tb)).1)

/-- The gates have changed: service clocks and wait clocks follow, and a gap that a CAL_WINDOW entry declares may have begun (R305). -/
def Device.gateMoved (d : Device) (p o : Nat) : Device :=
  let d := d.svcUpdate p o
  (d.waitClocks p o (d.heads p o)).calHolds p o

/-- A pending `gcl_enable` takes effect at the start of a cycle (R114). -/
def Device.cycleStart (d : Device) (p o : Nat) : Device :=
  let s := d.outp p o
  d.setOutp p o { s with enabled := s.enableNext.getD s.enabled, enableNext := none }

/-- The line port's list entry in force changes (R114); running into entry 0 is the start of a cycle. -/
def Device.gateChange (d : Device) (p o : Nat) : Device :=
  let was := d.get .gclCurrent p o
  let one := (d.outp p o).page.entries.length = 1
  let d := d.gateMove p o
  let d := if d.get .gclCurrent p o = 0 && (was ≠ 0 || one) then d.cycleStart p o else d
  d.gateMoved p o

/-- The standby page of an output (Table 6.4). -/
def Device.standbyPage (d : Device) (p o : Nat) : GatePage :=
  { tb := d.get .gclTimeBase p o, base := unpackTime (d.get .gclBaseTime p o), cycle := d.get .gclCycleNs p o,
    entries := (List.range (d.get .gclLength p o)).map (fun e => d.get .gclEntry p (o * 256 + e)) }

/-- Whether a page is a list that may be committed, bypass entries apart (R115). -/
def GatePage.ok (g : GatePage) : Bool :=
  total (g.entries.map entryNs) = g.cycle && 1000 ≤ g.cycle && g.cycle ≤ 1000000000 && 1 ≤ g.entries.length &&
    g.entries.length ≤ 256

/-- The change instant of a commit (R115): the end of the active cycle that holds the change time, and the first start of a
standby cycle at or after it and the commit, on the standby page's time base. -/
def Device.changeInstant (d : Device) (p o : Nat) (g : GatePage) (ct : Nat) : Nat × Nat :=
  let s := d.outp p o
  let a := d.tbNow p s.page.tb
  let b := d.tbNow p g.tb
  let cyc : Int := (max 1 s.page.cycle : Nat)
  let endA : Int := s.page.base + (((ct : Int) - s.page.base) / cyc + 1) * cyc
  let endB : Int := max (endA + ((b : Int) - a)) b
  let c2 : Int := (max 1 g.cycle : Nat)
  let k := (endB - g.base + c2 - 1) / c2
  (endA.toNat, (g.base + k * c2).toNat)

/-- The committed page as one number below a leading 1, for the journal. -/
def GatePage.value (g : GatePage) : Nat :=
  bytesToNat (1 :: (natToBytes 1 g.tb ++ natToBytes 10 (packTime g.base) ++ natToBytes 4 g.cycle ++
    g.entries.flatMap (natToBytes 8)))

/-- Read a page back from its journalled number. -/
def GatePage.ofValue (v : Nat) : GatePage :=
  let b := natToBytes (Nat.log2 v / 8) v
  { tb := beNat b 0 1, base := unpackTime (beNat b 1 10), cycle := beNat b 11 4,
    entries := (List.range ((b.length - 15) / 8)).map (fun e => beNat b (15 + 8 * e) 8) }

/-- Make a page the active one. A bypass entry of it stays closed where the output's lists had been closed, until a list
without one comes (spec/14 R320). -/
def Device.activatePage (d : Device) (p o : Nat) (g : GatePage) (closed : Bool) : Device :=
  let d := d.setOutp p o { d.outp p o with page := g, pend := none, bypClosed := closed && g.entries.any entryByp }
  (List.range 256).foldl (fun d e => d.set .gclActiveEntry p (o * 256 + e) (g.entries.getD e 0xFF000000000003E8)) d

/-- Load the last committed page at initialisation (R115). -/
def Device.loadPage (d : Device) (p o : Nat) (g : GatePage) : Device := d.activatePage p o g true

/-- At initialisation no circuit exists (spec/14 R329): bypass entries of the loaded lists are closed, but of an endpoint. -/
def Device.closeBypass (d : Device) (p : Nat) : Device :=
  (List.range 128).foldl (fun d o =>
    let s := d.outp p o
    if s.bypClosed && d.get .bypWinPeer p (bypIx o) ≠ 0xFFFFFFFF then d.setOutp p o { s with bypClosed := false } else d) d

/-- Make a page the standby one. -/
def Device.toStandby (d : Device) (p o : Nat) (g : GatePage) : Device :=
  let d := (d.set .gclTimeBase p o g.tb).set .gclBaseTime p o (packTime g.base)
  let d := (d.set .gclCycleNs p o g.cycle).set .gclLength p o g.entries.length
  (List.range 256).foldl (fun d e => d.set .gclEntry p (o * 256 + e) (g.entries.getD e 0xFF000000000003E8)) d

/-- GCL_PAGE_SWAP: the change instant is reached and the pages swap (R115), which starts a cycle. The page that comes is the one
committed, as it stood then (DESIGN CHOICE, assumption log 30). -/
def Device.gclSwap (d : Device) (p o : Nat) : Device :=
  match (d.outp p o).pend with
  | none => d
  | some w =>
    let d := d.gateMove p o
    let s := d.outp p o
    let d := ((d.toStandby p o s.page).activatePage p o w.page s.bypClosed).cycleStart p o
    let d := d.set .gclCommitCmd p o 2
    (d.set .gclCurrent p o (w.page.at_ (d.tbNow p w.page.tb)).1).gateMoved p o

/-- A time base was set or stepped by more than 1 µs: the lists that it times go on at the position of the new time, and running
ones count the step (R116). -/
def Device.gclStepped (d : Device) (p tb : Nat) : Device :=
  (List.range 132).foldl (fun d o =>
    let s := d.outp p o
    if s.page.tb = tb then ((if s.enabled then d.bump .gclTimeStep p o else d).gateMove p o).gateMoved p o else d) d

/-! ### Promotion and observation -/

/-- Promote a queue whose wait clock has reached its urgency of `ms` (R121): never of the class of highest rank, and only
while its clock runs, so while it is eligible; the clock reads at least the urgency (assumption log 3). The device, and whether
it was promoted. -/
def Device.promoteQueue (d : Device) (p o c t ms : Nat) : Device × Bool :=
  let d := d.refresh p o
  let s := d.outp p o
  let heads := d.heads p o
  if octet 8 8 (d.get .classRank p 0) c = 7 || s.promoted.contains (c, t) || !(backlog heads c).contains t ||
      !d.eligible p o c t heads then (d, false)
  else
    let q := d.tq p o c t
    ((d.setTq p o c t { q with waited := max (d.waitOf q) (ms * 1000000), waitFrom := some d.clock }).setOutp p o
      { s with promoted := s.promoted ++ [(c, t)] }, true)

/-- QUEUE_PROMOTION (R121). -/
def Device.promote (d : Device) (p o c t : Nat) : Device :=
  let r := d.promoteQueue p o c t (octet 8 16 (d.get .urgencyMs p 0) c)
  if r.2 then (r.1.bump .qPromoted p (o * 65536 + tqSelOf c t)).bump .starvePromoted p 0 else r.1

/-- BACKGROUND_PROMOTION (R122): the telemetry queue is promoted as R121 states, an idle hold that waits is served once at
rank 0 ahead of class 0. -/
def Device.bgPromote (d : Device) (p o kind : Nat) : Device :=
  if kind = 0 then
    let r := d.promoteQueue p o 7 sysReq (octet 3 16 (d.get .bgUrgencyMs p 0) 0)
    if r.2 then r.1.bump .bgPromoted p 0 else r.1
  else
    let s := d.outp p o
    let waits := if kind = 1 then s.calHold ≠ [] else s.bistHold ≠ []
    if waits && !s.bgPromoted.contains kind then
      (d.setOutp p o { s with bgPromoted := s.bgPromoted ++ [kind] }).bump .bgPromoted p 0
    else d

/-- Telemetry records leave an output as class 7 frames of the system requester (R122): a record enters the output's telemetry
queue. No rule of the spec makes a record, so no command calls this (assumption log 12). -/
def Device.telemetry (d : Device) (p o : Nat) (f : Frame) : Device := d.queueDirect p 600 o f sysReq

/-- Cells in the kite queues whose head frame carries tenant t of class c (6.2). -/
def Device.depthOf (d : Device) (p o c t : Nat) (heads : List (Nat × Copy × FrameRec)) : Nat :=
  let sw := swOfLine o
  total ((d.copiesOf p).map (fun e =>
    if e.2.stage = .queued && e.2.wait.contains sw then
      (match d.frame? p e.2.fid with
        | some f => if f.cls = c && (queueHeads heads c t).any (fun x => x.2.2.input = f.input) then f.cells else 0
        | none => 0)
    else 0))

/-- OBSERVATION_SAMPLE: depth and head delay of each backlogged tenant queue, where a sample is due (R123). -/
def Device.observe (d : Device) (p o : Nat) : Device :=
  let s := d.outp p o
  if !s.sampleDue then d
  else
    let d := d.setOutp p o { s with sampleDue := false }
    let heads := d.heads p o
    (List.range 8).foldl (fun d c => ((backlog heads c).filter (· ≠ sysReq)).foldl (fun d t =>
      let i := o * 65536 + tqSelOf c t
      let cells := d.depthOf p o c t heads
      let delay := match (queueHeads heads c t).head? with | some x => d.clock - x.2.1.at_ | none => 0
      (((d.set .qDepth p i cells).set .qDelayNs p i (min delay 0xFFFFFFFF)).highWater .qDepthMax p i cells).highWater .qDelayMax p i
        (min delay 0xFFFFFFFF)) d) d

/-! ### Commands -/

/-- REDUCER_FRAME: the column reducer reads the named frame where it is the next that R109 gives it. -/
def execReducerFrame (p : Plane) (col : Group) (copy : Nat) (s : State) : Res :=
  s.carry p (fun d => if (d.plainPick p (200 + col)).map (·.1) = some copy then d.reducerTurn p col else d)
/-- SCHEDULING_DECISION. -/
def execSchedulingDecision (p : Plane) (o : Sink) (s : State) : Res :=
  s.carry p (fun d =>
    match o with
    | .reducer c => d.reducerTurn p c
    | .attach (.fabric n) => d.fabricTurn p n
    | .attach (.internal (.longHaul l)) => d.longHaulTurn p l
    | .attach (.internal a) => d.engineTurn p a.sw)
/-- GATE_ENTRY_CHANGE. -/
def execGateEntryChange (p : Plane) (o : LinePort) (s : State) : Res := s.runOn p (fun d => d.gateChange p o)
/-- GCL_ENABLE_WRITE. -/
def execGclEnableWrite (p : Plane) (v : Byte) (rq : Req) (s : State) : Res :=
  s.run (fun d => d.request rq (fun d =>
    let t : Target := ⟨.gclEnable, p, 0⟩
    let o := d.place t rq.ses.val
    d.doWrite rq ⟨t, 1, v.toNat⟩ (fun _ => true) (fun d =>
      let r := d.store .gclEnable p o v.toNat
      if r.2 then (r.1.setOutp p o { r.1.outp p o with enableNext := some (v = 1) }, true) else r)))
/-- GCL_PAGE_SWAP. -/
def execGclPageSwap (p : Plane) (o : LinePort) (s : State) : Res := s.runOn p (fun d => d.gclSwap p o)
/-- QUEUE_PROMOTION. -/
def execQueuePromotion (p : Plane) (o : LinePort) (c : Cls) (t : Tenant) (s : State) : Res :=
  s.runOn p (fun d => d.promote p o c t)
/-- BACKGROUND_PROMOTION. -/
def execBackgroundPromotion (p : Plane) (o : LinePort) (kind : Fin 3) (s : State) : Res := s.runOn p (fun d => d.bgPromote p o kind)
/-- OBSERVATION_SAMPLE. -/
def execObservationSample (p : Plane) (o : LinePort) (s : State) : Res := s.runOn p (fun d => d.observe p o)

end Sys2Proof.Machine
end

