-- ==== Sys2Proof/Machine/Bypass.lean ====
section
/-! DEFINITION. Optical bypass circuits (spec/14_optical_bypass.md) and the commit of gate lists (spec/06 R115), whose bypass
entries they check. -/

namespace Sys2Proof.Machine

/-! ### Circuits (R318, Table 14.4) -/

/-- The byte of `byp_map` of a fabric port. -/
def Device.bypByte (d : Device) (p n : Nat) : Nat := octet 32 8 (d.get .bypMap p (n / 32)) (n % 32)

/-- Set it. -/
def Device.setBypByte (d : Device) (p n v : Nat) : Device :=
  d.set .bypMap p (n / 32) (setOctet 32 8 (d.get .bypMap p (n / 32)) (n % 32) v)

/-- The other port of a port's circuit. -/
def Device.bypPartner (d : Device) (p n : Nat) : Option Nat :=
  if bit (d.bypByte p n) 7 then some (n / 32 * 32 + fld (d.bypByte p n) 0 5) else none

/-- Whether the port's circuit is windowed. -/
def Device.bypWindowed (d : Device) (p n : Nat) : Bool := bit (d.bypByte p n) 7 && bit (d.bypByte p n) 6

/-- Whether a page holds a bypass entry. -/
def GatePage.hasByp (g : GatePage) : Bool := g.entries.any entryByp

/-- Whether the active or standby list of a port, or one that is committed and waits, holds a bypass entry (R320). -/
def Device.listsByp (d : Device) (p n : Nat) : Bool :=
  (d.outp p n).page.hasByp || (d.standbyPage p n).hasByp ||
    (match (d.outp p n).pend with | some w => w.page.hasByp | none => false)

/-- Whether a port's peer sets CAPS[1] (R61). -/
def Device.peerRelocks (d : Device) (p n : Nat) : Bool := bit (d.port p n).peerCaps 1

/-! ### Windows (R324, R327) -/

/-- The BYPASS_PREAMBLE of a transmitter (R61): header-only frames back to back for 64 ns at the port's rate, 50 frames at
200 Gb/s. -/
def Device.sendPreamble (d : Device) (p n : Nat) : Device :=
  let f := (d.peerMk p n { opcode := opPreamble, cls := 5, hops := 1 }).frame []
  (List.range (ceilDiv (64 * d.rate p n) (8000 * f.bytes))).foldl (fun d _ => d.emit (.lfl p n f)) d

/-- Open the window of one port: its link state freezes. -/
def Device.openPort (d : Device) (p n : Nat) : Device :=
  let d := d.setPortState p n 5
  (d.setPort p n { d.port p n with window := true, winTx := 0, winRx := 0 }).svcUpdate p n

/-- BYPASS_WINDOW_START: on the switching side both ports of the circuit leave UP, counted once; at an endpoint the port does and
sends its preamble. Nothing opens toward a peer that does not relock (R61). -/
def Device.windowStart (d : Device) (p n : Nat) : Device :=
  let ready := fun k => d.get .portState p k = 4 && d.peerRelocks p k
  let s := d.outp p n
  if !(d.live p && s.enabled && !s.bypClosed && entryByp (d.gateIn p n 0).1 && ready n) then d
  else
    match d.bypPartner p n with
    | some m =>
      if d.bypWindowed p n && ready m then ((d.openPort p n).openPort p m).bump .bypWindows p 0 else d
    | none => if d.isEndpoint p n then (d.openPort p n).sendPreamble p n else d

/-- Close the window of one port: through state, the preamble, the return to UP with its frozen link state and the link frames
that waited. What holds a port down, and acts only now that its path is released (R330), takes it DOWN. -/
def Device.closePort (d : Device) (p n : Nat) : Device :=
  let s := d.port p n
  if !s.window then d
  else
    let q := s.linkQ
    let d := (d.setPort p n { s with window := false, winTx := 0, winRx := 0, linkQ := [] }).sendPreamble p n
    let d := d.setPortState p n 4
    -- a bank released for a re-sweep retrains the port, keeping its frames (spec/13 R312)
    if s.holdDown = 8 then d.laneRetrain p n
    else if s.holdDown ≠ 0 then (d.portFault p n).leavePort p n (if s.fenced then 6 else 0)
    else q.foldl (fun d f => d.sendLink p n f) d

/-- BYPASS_WINDOW_END. -/
def Device.windowEnd (d : Device) (p n : Nat) : Device :=
  match d.bypPartner p n with
  | some m => (d.closePort p n).closePort p m
  | none => d.closePort p n

/-- A time base was stepped: windows whose entry no longer runs are cut short (R330). -/
def Device.bypStepped (d : Device) (p tb : Nat) : Device :=
  (List.range 128).foldl (fun d n =>
    if (d.port p n).window && (d.outp p n).page.tb = tb && !entryByp (d.gateIn p n 0).1 then d.windowEnd p n else d) d

/-- What a device does when a time base is set or stepped by more than 1 us (spec/06 R116, R330). -/
def Device.tbStepped (d : Device) (p tb : Nat) : Device := (d.gclStepped p tb).bypStepped p tb

/-! ### Install and removal (R320, R321) -/

/-- The install conditions. -/
def Device.bypInstallOk (d : Device) (p a b kind c : Nat) : Bool :=
  let n := 32 * c + a
  let m := 32 * c + b
  let free := fun k => (d.bypPartner p k).isNone && !(d.port p k).fenced && !d.retired p (chan 9 k) &&
    !bit (d.port p k).holdDown 4
  a ≠ b && a ≤ 31 && b ≤ 31 && free n && free m && d.samePart p n m &&
    (if kind = 1 then d.peerRelocks p n && d.peerRelocks p m else !d.listsByp p n && !d.listsByp p m)

/-- A port is taken into a persistent circuit: its frames are discarded and counted, its path parked. -/
def Device.parkPort (d : Device) (p n : Nat) : Device :=
  let queued := ((d.copiesOf p).filter (fun e => e.2.wait.contains n || e.2.sentTo.contains n)).length
  let lost := ((d.port p n).unacked.filter (fun u => (d.copy? p u.copy).isNone)).length
  let d := (d.discardPort p n).count .bypDropFrames p 0 (queued + lost)
  (d.clearLink p n).setPortState p n 5

/-- `byp_cmd` 0x01. -/
def Device.bypInstall (d : Device) (p c : Nat) : Device :=
  let a := d.get .bypA p c
  let b := d.get .bypB p c
  let kind := d.get .bypKind p c
  if !d.bypInstallOk p a b kind c then d.set .bypCmd p c 3
  else
    let n := 32 * c + a
    let m := 32 * c + b
    let d := if kind = 0 then (d.parkPort p n).parkPort p m else d
    let d := (d.setBypByte p n (128 + 64 * kind + b)).setBypByte p m (128 + 64 * kind + a)
    (d.bump .bypInstalls p 0).set .bypCmd p c 2

/-- Remove the circuit of a port: through state; the ports of a persistent one begin training, an open window ends. A removal
that did not check the lists leaves their bypass entries closed. -/
def Device.removeCircuit (d : Device) (p n : Nat) (forced : Bool) : Device :=
  match d.bypPartner p n with
  | none => d
  | some m =>
    let windowed := d.bypWindowed p n
    let d := if windowed then d.windowEnd p n else d
    let d := (d.setBypByte p n 0).setBypByte p m 0
    [n, m].foldl (fun d k =>
      let d := if windowed then d else d.leavePort p k (if (d.port p k).fenced then 6 else 0)
      let s := d.outp p k
      if forced && (s.page.hasByp || (match s.pend with | some w => w.page.hasByp | none => false)) then
        d.setOutp p k { s with bypClosed := true }
      else d) d

/-- Every circuit of a plane is removed (R329). -/
def Device.removeCircuits (d : Device) (p : Nat) : Device := (List.range 128).foldl (fun d n => d.removeCircuit p n true) d

/-- `byp_cmd` 0x02. -/
def Device.bypRemove (d : Device) (p c : Nat) : Device :=
  let n := 32 * c + d.get .bypA p c
  match d.bypPartner p n with
  | none => d.set .bypCmd p c 3
  | some m =>
    if d.listsByp p n || d.listsByp p m then d.set .bypCmd p c 3 else (d.removeCircuit p n false).set .bypCmd p c 2

/-! ### Window frames (R326) -/

/-- A window frame enters the array as a frame of its input, charged to no link credit: what it would return is not returned. -/
def Device.windowIntake (d : Device) (p n : Nat) (f : Frame) : Device :=
  let s := d.port p n
  let first := d.nextId
  let d := d.intake p n f
  let d : Device := { d with frames := d.frames.map (fun e =>
    if e.1.1 = p && first ≤ e.1.2 && e.2.credit = some n then (e.1, { e.2 with credit := none }) else e) }
  d.setPort p n s

/-- WINDOW_FRAME: checks 1 and 4 to 9 without NAK, then the window's cells: those beyond `byp_win_cells` are counted, and the frame
they belong to is discarded. -/
def Device.windowFrame (d : Device) (p n : Nat) (f : Frame) : Device :=
  if !d.sendsWindow p n then d
  else
    let s := d.port p n
    let excess := min f.cells (s.winRx + f.cells - d.get .bypWinCells p (bypIx n))
    if !f.crcOk || d.verdict p f (d.boundTo p n f) ≠ .pass || d.outOfPart p n f || f.trailerCheck ≠ .good then d.bump .bypWinRxErr p 0
    else
      let d := d.setPort p n { s with winRx := s.winRx + f.cells }
      if excess > 0 then d.count .bypWinOverrun p 0 excess
      else (((d.notIdle p n).bump .rxFrames p n).count .rxBytes p n f.bytes).windowIntake p n f

/-! ### Commit of gate lists (spec/06 R115, R323) -/

/-- The bypass entries of a page: offset in the cycle, interval, GATES. -/
def bypSpans : List Nat → Nat → List (Nat × Nat × Nat)
  | [], _ => []
  | e :: r, off =>
    if entryByp e then (off, entryNs e, fld e 56 8) :: bypSpans r (off + entryNs e) else bypSpans r (off + entryNs e)

/-- The checks of R323 on each entry: no class but 0 and 2, at least 200 ns. -/
def spansOk (g : GatePage) : Bool := (bypSpans g.entries 0).all (fun x => 200 ≤ x.2.1 && x.2.2 &&& 0xFA = 0)

/-- The checks of R323 and R327 on the bypass entries of an output's standby page. -/
def Device.bypEntriesOk (d : Device) (p o : Nat) : Bool :=
  let g := d.standbyPage p o
  !g.hasByp ||
    (o < 128 && spansOk g && d.peerRelocks p o &&
      (match d.bypPartner p o with
        | some m =>
          let h := d.standbyPage p m
          d.bypWindowed p o && d.peerRelocks p m && g.tb = h.tb && g.base = h.base && g.cycle = h.cycle &&
            bypSpans g.entries 0 = bypSpans h.entries 0
        | none => d.get .bypWinPeer p (bypIx o) ≠ 0xFFFFFFFF))

/-- The outputs that one commit changes together: both ports of a windowed circuit where either page holds a bypass entry. -/
def Device.commitOuts (d : Device) (p o : Nat) : List Nat :=
  match if o < 128 && d.bypWindowed p o then d.bypPartner p o else none with
  | some m => if (d.standbyPage p o).hasByp || (d.standbyPage p m).hasByp then [o, m] else [o]
  | none => [o]

/-- The instant of an output's change and whether its change time is late: the change time, or the commit where it is earlier
(R115). -/
def Device.changeOf (d : Device) (p o : Nat) : Nat × Nat × Bool :=
  let now := d.tbNow p (d.outp p o).page.tb
  let ct := unpackTime (d.get .gclChangeTime p o)
  let x := d.changeInstant p o (d.standbyPage p o) (max ct now)
  (x.1, x.2, decide (ct < now))

/-- `gcl_commit_cmd` 0x01: validate, journal, arm the change; false where the journal fails. -/
def Device.gclCommit (d : Device) (p ses : Nat) : Device × Bool :=
  let t : Target := ⟨.gclCommitCmd, p, 0⟩
  let o := d.place t ses
  let outs := d.commitOuts p o
  let ok := outs.all (fun k => (d.standbyPage p k).ok && (d.outp p k).pend.isNone && d.bypEntriesOk p k)
  if !ok then (d.set .gclCommitCmd p o 3, true)
  else
    let r := d.journal (outs.map (fun k => (⟨.gclCommitCmd, p, k⟩, (d.standbyPage p k).value)))
    if !r.2 then (r.1, false)
    else
      let change := (outs.map (fun k => (d.changeOf p k).2.1)).foldl max 0
      (outs.foldl (fun d k =>
        let x := d.changeOf p k
        let d := if x.2.2 then d.bump .gclLate p k else d
        (d.setOutp p k { d.outp p k with pend := some ⟨d.standbyPage p k, x.1, change⟩ }).set .gclCommitCmd p k 1) r.1, true)

/-! ### Commands -/

/-- BYPASS_INSTALL. -/
def execBypassInstall (p : Plane) (c : Chip) (rq : Req) (s : State) : Res :=
  s.run (fun d => d.command rq ⟨.bypCmd, p, c⟩ 1 (fun d => d.bypInstall p c))

/-- BYPASS_REMOVE. -/
def execBypassRemove (p : Plane) (c : Chip) (rq : Req) (s : State) : Res :=
  s.run (fun d => d.command rq ⟨.bypCmd, p, c⟩ 2 (fun d => d.bypRemove p c))

/-- BYPASS_WINDOW_START. -/
def execBypassWindowStart (p : Plane) (n : Port) (s : State) : Res := s.carry p (fun d => d.windowStart p n)

/-- BYPASS_WINDOW_END. -/
def execBypassWindowEnd (p : Plane) (n : Port) (s : State) : Res := s.runOn p (fun d => d.windowEnd p n)

/-- WINDOW_FRAME. -/
def execWindowFrame (p : Plane) (n : Port) (f : Frame) (s : State) : Res := s.carry p (fun d => d.windowFrame p n f)

/-- GCL_COMMIT. -/
def execGclCommit (p : Plane) (rq : Req) (s : State) : Res :=
  s.run (fun d => d.request rq (fun d => d.doWriteNow rq ⟨⟨.gclCommitCmd, p, 0⟩, 1, 1⟩ (fun d => d.gclCommit p rq.ses.val)))

end Sys2Proof.Machine
end

