-- ==== Sys2Proof/Machine/Retire.lean ====
section
/-! DEFINITION. Faults of a plane's units, spares that stand in, retirement and escalation (spec/19_health_faults_and_self_test.md
R408 to R413, R417, R418; spec/04 R85, R87, R485; spec/07 R158; spec/09 R194; spec/11 R249, R250). -/

namespace Sys2Proof.Machine

/-! ### Retirement of a plane (R418) -/

/-- A plane is retired: it forwards nothing, its transmitters are dark, its coherent modules are disabled, the plane-failure cause
is latched and reason [1] set. `unit` is the unit of that cause. -/
def Device.retirePlane (d : Device) (p unit : Nat) : Device :=
  if (d.plane p).cond = .retired then d
  else
    let ch := chan 10 0
    let d := ((d.setChanState p ch 4).logRetire p ch 1).causeHealth p 1 ch
    let d := d.causeSwitch p 4 unit
    let d := d.removeCircuits p
    let d := (List.range 128).foldl (fun d n => d.leavePort p n (if (d.port p n).fenced then 6 else 0)) d
    let d := d.setPlane p { d.plane p with cond := .retired, recoveryDue := false, recoverFor := [] }
    let d := (List.range 4).foldl (fun d l => (d.goOof p l false).emit (.cmis p (16 + l) false)) d
    d.reviewReasons

/-! ### Groups of spared units -/

/-- The state of a unit that is in service: 0x05 with a fused repair. -/
def Device.inService (d : Device) (p ch : Nat) : Nat :=
  if d.hub.retireLog.any (fun e => e.plane = p && e.chan = ch && e.kind = 3) then 5 else 0

/-- Bring the objects of a group up to the states of its units: `spare_lanes_used` and `lane_retired`; tiles in service and
retired; retired pipelines, and below 15 the long-haul ports (R250). -/
def Device.refreshGroup (d : Device) (p g : Nat) : Device :=
  let code := g / 4096
  let c := g % 4096
  let out := (List.range (grpAll g)).filter (fun u => d.retired p (unitChan g u))
  if code = 4 then
    (d.set .spareLanesUsed p c (ofBits ((d.standsOf p g).map (fun x => x.2 - 64)))).set .redLaneRetired p c
      (ofBits (out.filter (· < 64)))
  else if code = 5 then
    let n := ((List.range 8).filter (fun t => [3, 4].contains (d.chanState p (unitChan g t)) && (d.spareFor p g t).isNone)).length
    ((d.set .mxTileRetired p 0 (ofBits out)).set .mxSpareInUse p 0 (if d.standsOf p g = [] then 0 else 1)).set
      .mxTilesInService p 0 (8 - n)
  else
    let d := d.set (if c = 0 then .cipherTxRetired else .cipherRxRetired) p 0 (ofBits out)
    let d := (List.range 4).foldl (fun d l => if d.lhUp p l then d.lhRefresh p l else d.goOof p l true) d
    if d.pipes p c < 15 then d.causeSwitch p 4 0 else d

/-- A spare stands in for a unit; "spare stands in" names the unit. -/
def Device.takeSpare (d : Device) (p g u s : Nat) : Device :=
  let ch := unitChan g u
  let d := d.setStands p g ((u, s) :: d.standsOf p g)
  let d := if d.retired p ch then d else d.setChanState p ch 2
  (d.causeHealth p 2 ch).refreshGroup p g

/-- A unit returns to service and its spare is free again. -/
def Device.returnUnit (d : Device) (p g u : Nat) : Device :=
  let ch := unitChan g u
  let d := d.setStands p g ((d.standsOf p g).filter (fun x => x.1 ≠ u))
  (d.setChanState p ch (d.inService p ch)).refreshGroup p g

/-- A reducer is retired: its contexts end FAILED with status 0x17 (R158). -/
def Device.retireReducer (d : Device) (p c : Nat) : Device :=
  let d := d.set .reducerState p c 1
  let xs := (List.range 2048).filter (fun x =>
    (d.ctxRuns p x || d.ctxState p x = 4) && dColumn (d.ctxDesc p x) = c)
  -- the failure of one context may end others of its slot
  xs.foldl (fun d x =>
    if d.ctxRuns p x || d.ctxState p x = 4 then (d.failCtx p x 0x17).ctxEvent p x (.failed 0x17) none else d) d

/-! ### Retirement of a channel (R412, Table 19.2) -/

/-- Enter a retirement: the channel's state, its log entry and the cause. -/
def Device.markRetired (d : Device) (p ch : Nat) : Device :=
  ((d.setChanState p ch 4).logRetire p ch 1).causeHealth p 1 ch

/-- A chiplet with 16 or more retired ports (Table 19.2): its 32 ports are held DOWN and its switch in through state. -/
def Device.reviewChiplet (d : Device) (p c : Nat) : Device :=
  let ports := (List.range 32).map (32 * c + ·)
  if (ports.filter (fun n => d.retired p (chan 2 n))).length < 16 || ports.all (fun n => bit (d.port p n).holdDown 4) then d
  else
    let d := ports.foldl (fun d n => (d.removeCircuit p n true).holdPort p n 4) d
    d.causeHealth p 3 (chan 2 (32 * c))

/-- A fabric port is retired: held DOWN, not retrained; port-failure cause. -/
def Device.retirePort (d : Device) (p n : Nat) : Device :=
  if d.retired p (chan 2 n) then d
  else
    let d := d.markRetired p (chan 2 n)
    let d := (d.removeCircuit p n true).holdPort p n 2
    (d.causeFabric p 9 n).reviewChiplet p (n / 32)

/-- A wavelength of a port is retired (R58): the port retrains on three, or with a second one is retired itself. -/
def Device.retireLane (d : Device) (p n k : Nat) : Device :=
  if d.retired p (chan 1 (4 * n + k)) then d
  else
    let d := d.markRetired p (chan 1 (4 * n + k))
    let d := d.set .portLaneRetired p n (setBit (d.get .portLaneRetired p n) k)
    let d := [0, 1].foldl (fun d dir => d.set .ringState p (n / 32 * 256 + n % 32 * 8 + dir * 4 + k) 4) d
    if (bitsOf 4 (d.get .portLaneRetired p n)).length ≥ 2 then d.retirePort p n
    else
      let d := if (d.port p n).window then d.windowEnd p n else d
      if 1 ≤ d.get .portState p n && d.get .portState p n ≤ 4 then d.laneRetrain p n else d

/-- A kite is retired (Table 19.1): `kite_state` 0x04, the spare stands in or keeps standing in; in service it is handed over
first. -/
def Device.retireKite (d : Device) (p r k : Nat) : Device :=
  if k < 20 && d.kiteState p r k = 0 && d.handOverOk p r k then d.handOver p r k false true
  else if k < 20 && d.kiteState p r k = 3 then d.setRow p r { d.row p r with retire := true }
  else d.setKiteState p r k 4

/-- A spared unit of a group is retired: a free spare stands in where none does; a reducer without one is retired. -/
def Device.retireUnit (d : Device) (p g u : Nat) : Device :=
  let d := d.refreshGroup p g
  if grpUnits g ≤ u || (d.spareFor p g u).isSome then d
  else
    match d.freeSpare p g with
    | some s => d.takeSpare p g u s
    | none => if g / 4096 = 4 then d.retireReducer p (g % 4096) else d

/-- The group and unit of a channel of code 4, 5 or 6. -/
def unitOf (ch : Nat) : Nat × Nat :=
  let n := if chanCode ch = 4 then 68 else if chanCode ch = 5 then 9 else 17
  (chanCode ch * 4096 + chanIdx ch / n, chanIdx ch % n)

/-- Row and column (20: the spare) of a channel of code 3. -/
def kiteOfChan (ch : Nat) : Nat × Nat := (chanIdx ch / 21, chanIdx ch % 21)

/-- CHANNEL_RETIRE: a permanent fault retires a channel once (R411, R412), with the action and escalation of its code. -/
def Device.retireChannel (d : Device) (p ch : Nat) : Device :=
  if d.retired p ch || !chanOk ch then d
  else
    let code := chanCode ch
    let i := chanIdx ch
    let d :=
      if code = 1 then d.retireLane p (i / 4) (i % 4)
      else if code = 2 then d.retirePort p i
      else if code = 10 then d.retirePlane p 0
      else
        let d := d.markRetired p ch
        if code = 3 then d.retireKite p (kiteOfChan ch).1 (kiteOfChan ch).2
        else if code = 7 then
          d.setPlane p { d.plane p with recoverFor := (d.plane p).recoverFor ++ [ch], recoveryDue := true }
        else if code = 8 then (d.leaveBundle p i false).lhRefresh p i
        else if code = 9 then d
        else d.retireUnit p (unitOf ch).1 (unitOf ch).2
    d.reviewReasons

/-! ### Self-test units -/

/-- The rotation of a plane. -/
def Device.bist (d : Device) (p : Nat) : BistSt := Tbl.get d.bists (p, 0) {}
/-- Replace it. -/
def Device.setBist (d : Device) (p : Nat) (v : BistSt) : Device := { d with bists := Tbl.put Ix.lt d.bists (p, 0) v {} }

/-- The channel of a unit by its place in the rotation (R419): kites, lanes, tiles, pipelines. -/
def bistChan (u : Nat) : Nat :=
  if u < 420 then chan 3 u
  else if u < 1780 then chan 4 (u - 420)
  else if u < 1789 then chan 5 (u - 1780)
  else chan 6 (u - 1789)

/-- Whether the unit under test belongs to a group of code 4, 5 or 6. -/
def Device.testedIn (d : Device) (p g : Nat) : Option Nat :=
  match (d.bist p).unit with
  | some u => if u ≥ 420 && (unitOf (bistChan u)).1 = g then some (unitOf (bistChan u)).2 else none
  | none => none

/-- An output is to be tested by loopback in an idle hold of 500 µs (R423). -/
def Device.portSlice (d : Device) (p o : Nat) : Device := d.setOutp p o { d.outp p o with bistHold := (d.outp p o).bistHold ++ [500000] }

/-- The rotation moves on to the next unit; past the last one it ends: what it tested and how long it took are reported (R420,
R422). -/
def Device.bistNext (d : Device) (p : Nat) : Device :=
  let pos := d.get .bistRotationPos p 0
  let s := d.bist p
  if pos < 1822 then (d.setBist p { s with unit := none, waiting := false, again := false }).set .bistRotationPos p 0 (pos + 1)
  else
    let d := (d.set .bistUnitsTested p 0 s.tested).set .bistRotationS p 0 ((d.clock - s.startAt) / 1000000000)
    let d := if d.get .bistPortSlices p 0 = 1 then (List.range 132).foldl (fun d o => d.portSlice p o) d else d
    (d.setBist p { startAt := d.clock }).set .bistRotationPos p 0 0

/-- A fault in the group of the unit under test aborts the test: the unit returns untested and its spare is free (Table 19.6). -/
def Device.abortTest (d : Device) (p g : Nat) : Device :=
  match d.testedIn p g with
  | some u => (d.bistNext p).returnUnit p g u
  | none => d

/-- A unit fails its test: it is retired and its spare, if any, keeps standing in; a spare that fails leaves its group without one
(R421, Table 19.6). -/
def Device.bistFail (d : Device) (p u : Nat) : Device :=
  let ch := bistChan u
  let d := d.setBist p { d.bist p with tested := (d.bist p).tested + 1 }
  let d := (((d.bistNext p).bump .bistFailures p 0).markRetired p ch).causeHealth p 4 ch
  let d := if u < 420 then d.setKiteState p (u / 21) (u % 21) 4 else d.refreshGroup p (unitOf ch).1
  d.reviewReasons

/-! ### Faults of units -/

/-- What a fault of a unit of a spared group does before its substitution: a fault in a spare that stands in retires the plane;
of a unit in service it is a fault event, and a second one within 3,600 s is permanent (R410). The device, and whether the unit
is now to be substituted. -/
def Device.unitFault (d : Device) (p g u : Nat) : Device × Bool :=
  let ch := unitChan g u
  if d.testedIn p g = some u then (d.bistFail p ((d.bist p).unit.getD 0), false)
  else if (d.standsOf p g).any (fun x => x.1 = u || x.2 = u) then ((d.chanFault p ch).retirePlane p 0, false)
  -- an idle spare lane or tile takes no work and shows no mismatch (R158)
  else if (grpUnits g ≤ u && g / 4096 ≠ 6) || [3, 4].contains (d.chanState p ch) then (d, false)
  else
    let second := d.secondFault p ch
    let d := (d.abortTest p g).chanFault p ch
    -- out of service, under test, until a spare stands in
    let d := if second then (d.markRetired p ch).refreshGroup p g else (d.setChanState p ch 3).refreshGroup p g
    (d, u < grpUnits g)

/-- A faulted unit gets a spare where one is free. -/
def Device.substitute (d : Device) (p g u : Nat) : Device :=
  match d.freeSpare p g with
  | some s => (d.takeSpare p g u s).reviewReasons
  | none => d.reviewReasons

/-- REDUCER_LANE_FAULT (R158): every context in ACCUMULATE on the reducer aborts with status 0x02 and is held until the spare
stands in; with no spare left the reducer is retired. -/
def Device.laneFault (d : Device) (p c lane : Nat) : Device :=
  let g := 4 * 4096 + c
  if !d.live p || d.get .reducerState p c ≠ 0 then d
  else
    let r := d.unitFault p g lane
    if !r.2 then r.1
    else if (r.1.freeSpare p g).isNone then
      let d := if r.1.retired p (unitChan g lane) then r.1 else r.1.markRetired p (unitChan g lane)
      ((d.refreshGroup p g).retireReducer p c).reviewReasons
    else
      let xs := (List.range 2048).filter (fun x => r.1.ctxState p x = 2 && dColumn (r.1.ctxDesc p x) = c)
      xs.foldl (fun d x =>
        let y := d.abortCtx p x 2 (2 + lane)
        if y.2 = .none then d else y.1.ctxEvent p x y.2 none) r.1

/-- SPARE_LANE_STAND_IN: the held contexts restart, those whose entries are cleared at once. -/
def Device.laneStandIn (d : Device) (p c lane : Nat) : Device :=
  let g := 4 * 4096 + c
  if (d.spareFor p g lane).isSome || grpUnits g ≤ lane || !([3, 4].contains (d.chanState p (unitChan g lane))) then d
  else
    let d := d.substitute p g lane
    let xs := (List.range 2048).filter (fun x => d.ctxState p x = 4 && (d.rctx p x).hold = 2 + lane && dColumn (d.ctxDesc p x) = c)
    xs.foldl (fun d x =>
      let s := d.rctx p x
      let d := d.setRctx p x { s with hold := 0 }
      if s.clearing || s.held then d
      else (((d.restartCtx p x).ctxNotice p x).resumeSlot p s.slot).run p) d

/-- What every tile fault does (R194): it is counted, and the contexts that the engine serves abort with status 0x04. -/
def Device.tileAbort (d : Device) (p : Nat) : Device :=
  let xs := (List.range 2048).filter (fun x => d.byXsite p x && d.ctxRuns p x)
  xs.foldl (fun d x => d.abortAnd p x 4 none) (d.bump .mxTileFaults p 0)

/-- TILE_FAULT (R194): the spare takes the tile's place; a fault in the spare that stands in takes the plane with it. -/
def Device.tileFault (d : Device) (p t : Nat) : Device :=
  let g := 5 * 4096
  if !d.live p then d
  else if d.testedIn p g ≠ some t && (d.standsOf p g).any (fun x => x.1 = t || x.2 = t) then ((d.tileAbort p).unitFault p g t).1
  else
    let r := d.unitFault p g t
    if r.2 then (r.1.tileAbort p).substitute p g t else r.1

/-- The sealed slots of the transmit multiframe that are not sent and not yet covered by parity: frame and slot. -/
def Device.unsentSlots (d : Device) (p : Nat) : List (Nat × Nat) :=
  let th := d.tether p
  let pc := d.get .tsiPcodeActive p 0
  (th.areas.filter (fun a =>
    (d.link p (a.1 % 4)).fn ≤ a.1 / 4 && a.2 ≠ [] &&
      !th.areas.any (fun b => b.1 / 16 = a.1 / 16 && isParity pc (b.1 % 4) (b.1 / 4)))).flatMap (fun a =>
    ((List.range 8).filter (fun k => fld (slotHdr ((a.2.drop (1040 * k)).take 16)) 0 11 ≠ 0)).map (fun k => (a.1, k)))

/-- A slot of a frame that is not sent becomes idle; its data slot is queued for retransmission, and the counter value that it took
is not used again (R249). -/
def Device.idleSlot (d : Device) (p n k : Nat) : Device :=
  let th := d.tether p
  match th.areas.find? (fun a => a.1 = n) with
  | none => d
  | some a =>
    let h := slotHdr ((a.2.drop (1040 * k)).take 16)
    let s := d.trib p (fld h 22 10)
    let tsn := fld h 32 32
    let area := a.2.take (1040 * k) ++ List.replicate 1040 0 ++ a.2.drop (1040 * (k + 1))
    let d := d.setTether p { th with areas := th.areas.map (fun x => if x.1 = n then (n, area) else x) }
    if s.copies.any (fun c => c.tsn = tsn) && !s.retx.contains tsn then
      d.setTrib p (fld h 22 10) { s with retx := s.retx ++ [tsn] } else d

/-- The records in flight in a faulty transmit pipeline leave as idle slots; which of the sealed slots not yet sent they are is a
free value. A received record is opened within one command, so none is in flight (DESIGN CHOICE, assumption log 36). -/
def Device.idleInFlight (d : Device) (p : Nat) : Device :=
  (d.unsentSlots p).foldl (fun d e =>
    let x := d.fresh
    if x.1 % 2 = 1 then x.2.idleSlot p e.1 e.2 else x.2) d

/-- CIPHER_FAULT (R249): a mismatch in a pipeline that works, is a spare or is under test. -/
def Device.cipherFault (d : Device) (p dir n : Nat) : Device :=
  let g := 6 * 4096 + dir
  let out := [3, 4].contains (d.chanState p (unitChan g n)) && d.testedIn p g ≠ some n && !(d.standsOf p g).any (fun x => x.1 = n)
  if !d.live p || out then d
  else
    let d := (d.bump .cipherFaults p 0).causeCipher p 0 0
    let d := if dir = 0 then d.idleInFlight p else d
    let r := d.unitFault p g n
    if r.2 then r.1.substitute p g n else r.1

/-! ### Faults of kites (R85, R87, R485) -/

/-- The context that a lost frame aborts with status 0x02 (Table 7.8). -/
def Device.lossAbort (d : Device) (p : Nat) (f : FrameRec) : Device :=
  match d.lostCtx p f with
  | some x => d.abortAnd p x 2 none
  | none => d

/-- KITE_FAULT: of a kite in service or draining, a fault event; a second one is permanent. Without an available spare the plane
is retired. -/
def Device.kiteFault (d : Device) (p r c : Nat) : Device :=
  let ch := chan 3 (21 * r + c)
  if !d.live p then d
  else if (d.bist p).unit = some (21 * r + c) && d.kiteState p r c = 5 then d.bistFail p (21 * r + c)
  else if !([0, 3].contains (d.kiteState p r c)) then d
  else
    let second := d.secondFault p ch
    let d := d.chanFault p ch
    if !d.spareReady p r c then d.retirePlane p (kiteUnit r c)
    else
      let d := if d.spareTested p r then d.bistNext p else d
      let x := d.forceSwap p r c
      let d := x.2.foldl (fun d f => d.lossAbort p f) (x.1.setChanState p ch 2)
      let d := d.causeHealth p 2 ch
      if second then (((d.markRetired p ch).setKiteState p r c 4).reviewReasons) else d

/-- SPARE_KITE_FAULT: an idle spare closes and is tested (R485); one that stands in takes the plane with it (R87). -/
def Device.spareKiteFault (d : Device) (p r : Nat) : Device :=
  let ch := chan 3 (21 * r + 20)
  let st := d.kiteState p r 20
  if !d.live p then d
  else if (d.bist p).unit = some (21 * r + 20) && st = 5 then d.bistFail p (21 * r + 20)
  else if st = 1 || st = 3 || (d.row p r).forced then (d.chanFault p ch).retirePlane p (kiteUnit r 20)
  else if st = 2 then
    let second := d.secondFault p ch
    let d := ((d.chanFault p ch).setKiteState p r 20 5).causeSwitch p 1 (kiteUnit r 20)
    if second then ((d.markRetired p ch).setKiteState p r 20 4).reviewReasons else d.setChanState p ch 3
  else d

/-! ### The test after a fault (R410) -/

/-- FAULT_RETRY_BIST_COMPLETE: a unit that passes returns to service from its spare, a kite by the planned return; one that
fails is retired and its spare keeps standing in. -/
def Device.retryDone (d : Device) (p ch : Nat) (pass : Bool) : Device :=
  let code := chanCode ch
  if !chanOk ch || d.retired p ch || !(d.chanSt p ch).retry || !(3 ≤ code && code ≤ 6) then d
  else if !pass then
    let d := d.bump .bistFailures p 0
    let d := (d.markRetired p ch).causeHealth p 4 ch
    if code = 3 then (d.setKiteState p (kiteOfChan ch).1 (kiteOfChan ch).2 4).reviewReasons
    else (d.retireUnit p (unitOf ch).1 (unitOf ch).2).reviewReasons
  else
    let d := d.chanClear p ch
    if code = 3 then
      let r := (kiteOfChan ch).1
      let k := (kiteOfChan ch).2
      let d := d.setChanState p ch (d.inService p ch)
      if k = 20 then d.setKiteState p r 20 2
      else (d.setRow p r { d.row p r with returnDue := true }).startReturns p
    else d.returnUnit p (unitOf ch).1 (unitOf ch).2

/-! ### Bypass path checks (spec/14 R328) -/

/-- BYPASS_PATH_CHECK: a failure counts, is a fault event that is cleared at once and permanent the second time, and removes the
circuit. -/
def Device.pathCheck (d : Device) (p n : Nat) (pass : Bool) : Device :=
  if pass || (d.bypPartner p n).isNone then d
  else
    let ch := chan 9 n
    let second := d.secondFault p ch
    let d := ((d.bump .bypPathFaults p 0).causeBypass p 0 (n / 32 * 256 + n % 32)).chanFault p ch
    let d := if second then d.retireChannel p ch else d.chanClear p ch
    d.removeCircuit p n true

/-! ### Commands -/

/-- REDUCER_LANE_FAULT. -/
def execReducerLaneFault (p : Plane) (col : Group) (lane : Fin 68) (s : State) : Res := s.runOn p (fun d => d.laneFault p col lane)

/-- SPARE_LANE_STAND_IN. -/
def execSpareLaneStandIn (p : Plane) (col : Group) (lane : Fin 68) (s : State) : Res :=
  s.runOn p (fun d => d.laneStandIn p col lane)

/-- TILE_FAULT. -/
def execTileFault (p : Plane) (tile : Fin 9) (s : State) : Res := s.runOn p (fun d => d.tileFault p tile)

/-- CIPHER_FAULT. -/
def execCipherFault (p : Plane) (dir : Fin 2) (pipe : Fin 17) (s : State) : Res := s.runOn p (fun d => d.cipherFault p dir pipe)

/-- KITE_FAULT. -/
def execKiteFault (p : Plane) (row col : Group) (s : State) : Res := s.runOn p (fun d => d.kiteFault p row col)

/-- SPARE_KITE_FAULT. -/
def execSpareKiteFault (p : Plane) (row : Group) (s : State) : Res := s.runOn p (fun d => d.spareKiteFault p row)

/-- FAULT_RETRY_BIST_COMPLETE. -/
def execFaultRetryBistComplete (p : Plane) (chan : BitVec 16) (pass : Bool) (s : State) : Res :=
  s.runOn p (fun d => d.retryDone p chan.toNat pass)

/-- BYPASS_PATH_CHECK. -/
def execBypassPathCheck (p : Plane) (c : Chip) (k : Fin 32) (pass : Bool) (s : State) : Res :=
  s.runOn p (fun d => d.pathCheck p (32 * c.val + k.val) pass)

end Sys2Proof.Machine
end

