-- ==== Sys2Proof/Machine/Optics.lean ====
section
/-! DEFINITION. Laser inputs, calibration in gaps, lock loops and wrong-wavelength locks (spec/13_optical_control.md). Objects of
an input stand at 256 · chiplet + input, those of a ring at 256 · chiplet + `ring_sel`. -/

namespace Sys2Proof.Machine

/-! ### Laser inputs (R292 to R297) -/

/-- The other input of the pair. -/
def laserMate (e : Nat) : Nat := if e % 2 = 0 then e + 1 else e - 1

/-- The fabric ports and calibration pairs that an input feeds (Table 13.1). -/
def laserPorts (c e : Nat) : List Nat := (List.range 16).map (fun k => 32 * c + 16 * (e / 2) + k)
/-- The calibration pairs of an input's group. -/
def laserPairs (e : Nat) : List Nat := (List.range 8).map (8 * (e / 2) + ·)

/-- Power of wavelength w of an input in 0.01 dBm. -/
def Device.laserPower (d : Device) (p c e w : Nat) : Int := toSigned 16 (octet 4 16 (d.get .laserPower p (c * 256 + e)) w)
/-- Set it. -/
def Device.setLaserPower (d : Device) (p c e w : Nat) (x : Int) : Device :=
  d.set .laserPower p (c * 256 + e) (setOctet 4 16 (d.get .laserPower p (c * 256 + e)) w (ofSigned 16 x))

/-- Pairs become due (R303). -/
def Device.makeDue (d : Device) (p c : Nat) (js : List Nat) : Device :=
  let s := d.cal p c
  d.setCal p c { s with due := s.due ++ (js.filter (fun j => !s.due.any (fun x => x.1 = j))).map (fun j => (j, d.clock)) }

/-- An input goes or returns: the chiplet's matrix is invalid, fast-follow holds, and in matrix mode a new one is measured. A mode
written while a round runs still waits for the round's end (R300). -/
def Device.loseMatrix (d : Device) (p c : Nat) : Device :=
  let s := d.cal p c
  let d := d.setCal p c { s with matrixOk := false, blocks := [] }
  if s.round.isSome && s.pendMode.isSome then (d.set .xtalkModeActive p c 1).setReserve p c else d.applyMode p c

/-- `wl_check_active` (R310): tone mode when it is selected or auto and every input in use has shown its four tones; tone
selected without them raises tone missing. -/
def Device.wlRefresh (d : Device) (p c : Nat) : Device :=
  let used := (List.range 4).filter (d.laserUsed p c)
  let tones := used ≠ [] && used.all (fun e => fld (d.get .laserTones p (c * 256 + e)) 0 4 = 0xF)
  let mode := d.get .wlCheckMode p c
  let d := d.set .wlCheckActive p c (if tones && mode ≠ 1 then 1 else 0)
  if mode = 2 && !tones then d.causeOptics p 8 (opticsUnit c 0) else d

/-- An input leaves use (R294, R295). -/
def Device.laserGone (d : Device) (p c e state : Nat) : Device :=
  let d := d.set .laserState p (c * 256 + e) state
  let d := d.emit (.cmis p (4 * c + e) false)
  let d := match (d.cal p c).round with
    | some j => if (laserPairs e).contains j then d.calAbort p c else d
    | none => d
  let d := (((d.makeDue p c (laserPairs e)).loseMatrix p c).wlRefresh p c).requestHolds p c
  if d.laserUsed p c (laserMate e) then d
  else
    let d := d.causeOptics p 3 (opticsUnit c e)
    (laserPorts c e).foldl (fun d n =>
      -- a port whose path is parked goes DOWN when it is released (spec/14 R330)
      let d := if d.get .portState p n = 5 then d.setPort p n { d.port p n with holdDown := setBit (d.port p n).holdDown 0 }
        else d.holdPort p n 0
      d.causeFabric p 9 n) d

/-- An input becomes absent: counted, laser lost. -/
def Device.laserAbsent (d : Device) (p c e : Nat) : Device :=
  ((d.bump .laserLossEvents p c).causeOptics p 2 (opticsUnit c e)).laserGone p c e 4

/-- An input's power is measured (Table 13.2): above 20.5 dBm high, from 12.0 to below 16.0 dBm low; a change of more than 0.5 dB
aborts a round of the group (R306). -/
def Device.laserLevel (d : Device) (p c e w : Nat) (x : Int) : Device :=
  if !d.laserUsed p c e then d
  else
    let d := d.setLaserPower p c e w x
    let d :=
      if x > 2050 then d.causeOptics p 0 (opticsUnit c e)
      else if 1200 ≤ x && x < 1600 then (d.set .laserState p (c * 256 + e) 3).causeOptics p 1 (opticsUnit c e)
      else if (List.range 4).all (fun k => decide (1600 ≤ d.laserPower p c e k)) then d.set .laserState p (c * 256 + e) 2
      else d
    let s := d.cal p c
    match s.round with
    | some j =>
      let was := match s.atStart.find? (fun y => y.1 = 4 * e + w) with | some y => y.2 | none => x
      if (laserPairs e).contains j && (x - was > 50 || was - x > 50) then d.calAbort p c else d
    | none => d

/-- LASER_PRESENT (R296): an enabled input whose four wavelengths have been within 16.0 to 20.0 dBm. -/
def Device.laserPresent (d : Device) (p c e : Nat) (powers : List Int) (tones : Nat) : Device :=
  if d.laserState p c e ≠ 1 || powers.length ≠ 4 || !powers.all (fun x => decide (1600 ≤ x) && decide (x ≤ 2000)) then d
  else
    let d := (d.set .laserState p (c * 256 + e) 2).set .laserTones p (c * 256 + e) tones
    let d := (List.range 4).foldl (fun d w => d.setLaserPower p c e w (powers.getD w 0)) d
    let d := if d.get .laserCmd p (c * 256 + e) = 1 then d.set .laserCmd p (c * 256 + e) 2 else d
    let d := ((d.makeDue p c (laserPairs e)).loseMatrix p c).wlRefresh p c
    ((laserPorts c e).foldl (fun d n => if bit (d.port p n).holdDown 0 then d.unholdPort p n 0 else d) d).requestHolds p c

/-- An input is enabled over CMIS. -/
def Device.laserOn (d : Device) (p c e : Nat) : Device :=
  (d.set .laserState p (c * 256 + e) 1).emit (.cmis p (4 * c + e) true)

/-- `laser_cmd` 0x01 and 0x02. An input in use is enabled already. -/
def Device.laserCmd (d : Device) (p c ses v : Nat) : Device :=
  let t : Target := ⟨.laserCmd, p, c⟩
  let e := d.sel .laserSel p c ses
  if v = 1 then
    if d.laserUsed p c e then d.cmdReads t ses 2 else (d.laserOn p c e).cmdReads t ses 1
  else if !d.laserUsed p c (laserMate e) then d.cmdReads t ses 3
  else (if d.laserUsed p c e then d.laserGone p c e 5
        else (d.set .laserState p (c * 256 + e) 5).emit (.cmis p (4 * c + e) false)).cmdReads t ses 2

/-- CMIS_POLL (R297; spec/10 R214): a laser module that has been replaced is enabled; a coherent module's state, and its removal,
are those of its long-haul port. State 0 is no module, 3 ModuleReady (assumption log 11). -/
def Device.cmisPoll (d : Device) (p m st : Nat) (outOff : Bool) : Device :=
  if m < 16 then
    let c := m / 4
    let e := m % 4
    let now := d.laserState p c e
    if st = 0 then
      if now = 2 || now = 3 then d else d.set .laserState p (c * 256 + e) 0
    else if now = 0 then d.laserOn p c e
    else d
  else
    let l := m - 16
    let d := d.setLink p l { d.link p l with removed := st == 0 }
    let d := d.set .lhModuleState p l st
    -- the fence command of the port's partition ends when the module reports its output disabled (spec/02 Table 2.4)
    let d := if outOff then d.setLink p l { d.link p l with outOff := true } else d.setLink p l { d.link p l with outOff := false }
    if st = 3 then d.lhRefresh p l else d.goOof p l true

/-- MODULE_READY_TIMEOUT: treated as absent. -/
def Device.moduleTimeout (d : Device) (p c e : Nat) : Device :=
  if d.laserState p c e = 1 then
    let d := if d.get .laserCmd p (c * 256 + e) = 1 then d.set .laserCmd p (c * 256 + e) 3 else d
    d.laserAbsent p c e
  else d

/-! ### Rings (R298, R301, R311) -/

/-- The heater code of a power in uW: linear, 65,535 at 20 mW. -/
def heaterCode (uw : Nat) : Nat := min 65535 (uw * 65535 / 20000)

/-- The lines of Table 3.1 in MHz relative to f0. -/
def lineMhz (w : Nat) : Int := ([1200000, 400000, -400000, -1200000] : List Int).getD w 0

/-- Cold resonance of a ring. -/
def CalSt.coldOf (s : CalSt) (r : Nat) : Int := match s.cold.find? (fun x => x.1 = r) with | some x => x.2 | none => 0

/-- f̂ of a ring (R311): 100 GHz per mW below the cold resonance. -/
def CalSt.fhat (s : CalSt) (r : Nat) : Int := s.coldOf r - 100 * (lookNat s.heater r : Int)

/-- `heater_headroom_uw`: least full scale less set point over the chiplet's rings. -/
def Device.headroom (d : Device) (p c : Nat) : Device :=
  let l := (d.cal p c).heater.map (fun x => 20000 - x.2)
  d.set .heaterHeadroomUw p c (match argMin id l with | some x => x | none => 0)

/-- Note a ring's set point among the swings that re-planning reads. -/
def noteSwing (l : List (Nat × Nat × Nat)) (r uw : Nat) : List (Nat × Nat × Nat) :=
  match l.find? (fun x => x.1 = r) with
  | some x => (r, min x.2.1 uw, max x.2.2 uw) :: l.filter (fun y => y.1 ≠ r)
  | none => (r, uw, uw) :: l

/-- A ring's heater stands at a power; its code, offset and headroom follow. -/
def Device.setHeater (d : Device) (p c r uw : Nat) : Device :=
  let s := d.cal p c
  let s := { s with heater := putNat s.heater r uw, swing := noteSwing s.swing r uw }
  let d := (d.setCal p c s).set .ringHeaterCode p (c * 256 + r) (heaterCode uw)
  (d.set .ringOffsetMhz p (c * 256 + r) (ofSigned 32 (s.fhat r))).headroom p c

/-- The rings of a bank that are not retired. -/
def Device.bankRings (d : Device) (p c b : Nat) : List Nat :=
  ((List.range 4).map (4 * b + ·)).filter (fun r => d.get .ringState p (c * 256 + r) ≠ 4)

/-- The fabric port of a bank. -/
def bankPort (c b : Nat) : Nat := 32 * c + b / 2

/-- Whether a list falls strictly. -/
def falling : List Int → Bool
  | x :: y :: r => decide (x > y) && falling (y :: r)
  | _ => true

/-- The ordered check (R311): the rings that are wrongly locked, among those to which calibration has given a cold resonance. -/
def Device.orderedWrong (d : Device) (p c b : Nat) : List Nat :=
  let s := d.cal p c
  let rs := (d.bankRings p c b).filter (fun r => s.cold.any (fun x => x.1 = r))
  let off := rs.filter (fun r => s.fhat r - lineMhz (r % 4) > 300000 || lineMhz (r % 4) - s.fhat r > 300000)
  if off ≠ [] then off else if falling (rs.map s.fhat) then [] else rs

/-! ### Wrong locks and re-sweeps (R312, R313) -/

/-- Release a bank's heaters and re-sweep it; the port leaves UP for the OPTICAL stage and trains when the bank is locked. -/
def Device.releaseBank (d : Device) (p c b : Nat) : Device :=
  let n := bankPort c b
  let d := (d.bankRings p c b).foldl (fun d r => (d.setHeater p c r 0).set .ringState p (c * 256 + r) 3) d
  let s := d.cal p c
  let d := d.setCal p c { s with sweeping := if s.sweeping.any (fun x => x.1 = b) then s.sweeping else (b, 1) :: s.sweeping }
  let d := d.setPort p n { d.port p n with holdDown := setBit (d.port p n).holdDown 3 }
  if 1 ≤ d.get .portState p n && d.get .portState p n ≤ 4 then d.laneRetrain p n else d

/-- A wavelength is retired on a port (R313). -/
def Device.wavelengthRetire (d : Device) (p c r : Nat) : Device :=
  let n := 32 * c + r / 8
  let s := d.cal p c
  let d := d.setCal p c { s with misses := putNat s.misses r 0 }
  if d.retired p (chan 1 (4 * n + r % 4)) then d
  else ((d.bump .wlRetired p c).causeOptics p 7 (opticsUnit c r)).retireChannel p (chan 1 (4 * n + r % 4))

/-- Wrong locks of rings of one bank: each is counted and noted, the third within 3,600 s retires its wavelength, and the bank is
swept again for the others (R312, R313, R314). A round on the bank's pair aborts first. -/
def Device.wrongLock (d : Device) (p c b : Nat) (rs : List Nat) : Device :=
  if rs = [] || (d.cal p c).sweeping.any (fun x => x.1 = b) then d
  else
    let d := if (d.cal p c).round = some (b / 4) then d.calAbort p c else d
    let d := rs.foldl (fun d r => (d.bump .wrongLockEvents p c).causeOptics p 6 (opticsUnit c r)) d
    let s := d.cal p c
    let recent := s.wrong.filter (fun x => d.clock ≤ x.2 + 3600 * 1000000000)
    let d := d.setCal p c { s with wrong := rs.map (fun r => (r, d.clock)) ++ recent }
    let third := rs.filter (fun r => (recent.filter (fun x => x.1 = r)).length ≥ 2)
    let d := if rs.all third.contains then d else d.releaseBank p c b
    third.foldl (fun d r => d.wavelengthRetire p c r) d

/-- `ring_wrong_locks`: wrong locks of a ring in the last 3,600 s. -/
def Device.ringWrongLocks (d : Device) (p c r : Nat) : Nat :=
  min 255 ((d.cal p c).wrong.filter (fun x => x.1 = r && decide (d.clock ≤ x.2 + 3600 * 1000000000))).length

/-- Run the ordered check on a bank. -/
def Device.checkBank (d : Device) (p c b : Nat) : Device := d.wrongLock p c b (d.orderedWrong p c b)

/-- Whether a bank is checked by tone: in tone mode the transmit banks, and the receive bank of a port whose incoming light showed
tones at its last training (R310). -/
def Device.toneChecked (d : Device) (p c b : Nat) : Bool :=
  d.get .wlCheckActive p c = 1 && (b % 2 = 0 || (d.cal p c).toned.contains (b / 2))

/-- RESWEEP_COMPLETE: the heaters that the rings W0 to W3 found, in uW; a value not below full scale is a ring that found no line;
`locked` is the tone verdict where one is due. A failed sweep is repeated once; the second failure retires the wavelengths that
failed. -/
def Device.resweepDone (d : Device) (p c b : Nat) (locked : Bool) (heaters : List Nat) : Device :=
  let s := d.cal p c
  match s.sweeping.find? (fun x => x.1 = b) with
  | none => d
  | some w =>
    let rs := d.bankRings p c b
    let none_ := rs.filter (fun r => heaters.getD (r % 4) 20000 ≥ 20000)
    let e := (rs.filter (fun r => !none_.contains r)).foldl (fun d r => d.setHeater p c r (heaters.getD (r % 4) 0)) d
    let wrong := if none_ ≠ [] then none_ else e.orderedWrong p c b
    let bad := if wrong = [] && d.toneChecked p c b && !locked then rs else wrong
    let finish := fun (d : Device) (good : List Nat) =>
      let d := good.foldl (fun d r => (d.set .ringState p (c * 256 + r) 1).rangeCheck p c r (heaters.getD (r % 4) 0)) d
      let d := d.setCal p c { d.cal p c with sweeping := (d.cal p c).sweeping.filter (fun x => x.1 ≠ b) }
      d.unholdPort p (bankPort c b) 3
    if bad = [] then finish e rs
    else if w.2 = 1 then
      rs.foldl (fun d r => d.setHeater p c r 0) (d.setCal p c { s with sweeping := (b, 2) :: s.sweeping.filter (fun x => x.1 ≠ b) })
    else bad.foldl (fun d r => d.wavelengthRetire p c r) (finish e (rs.filter (fun r => !bad.contains r)))

/-- RING_LOCK_LOST (R301): a set point would pass full scale; the re-sweep runs. -/
def Device.ringLockLost (d : Device) (p c r : Nat) : Device :=
  if d.get .ringState p (c * 256 + r) = 4 || (d.cal p c).sweeping.any (fun x => x.1 = r / 4) then d
  else
    let d := if (d.cal p c).round = some (r / 16) then d.calAbort p c else d
    ((d.set .ringState p (c * 256 + r) 0).causeOptics p 4 (opticsUnit c r)).releaseBank p c (r / 4)

/-- Move a ring's set point within its range; at full scale or past it the ring's lock is lost (R301), which the callers follow. -/
def Device.moveHeater (d : Device) (p c r uw : Nat) : Device := (d.setHeater p c r (min 20000 uw)).rangeCheck p c r uw

/-- HEATER_STEP_CHECK: the bank's heaters after a fast move, and the ordered check. -/
def Device.heaterStep (d : Device) (p c r : Nat) (heaters : List Nat) : Device :=
  let b := r / 4
  if (d.cal p c).sweeping.any (fun x => x.1 = b) then d
  else
    let moves := (d.bankRings p c b).map (fun q => (q, heaters.getD (q % 4) (lookNat (d.cal p c).heater q)))
    let d := moves.foldl (fun d m => d.moveHeater p c m.1 m.2) d
    match moves.find? (fun m => 20000 ≤ m.2) with
    | none => d.checkBank p c b
    | some m => d.ringLockLost p c m.1

/-- TONE_VERDICT (R310): in tone mode, rings whose strongest tone is another wavelength's are wrongly locked. -/
def Device.toneVerdict (d : Device) (p c : Nat) (l : List (Nat × Nat)) : Device :=
  if d.get .wlCheckActive p c ≠ 1 then d
  else
    (List.range 64).foldl (fun d b =>
      if !d.toneChecked p c b then d
      else
        d.wrongLock p c b (((l.filter (fun x => x.1 / 4 = b && x.1 % 4 ≠ x.2)).map (·.1)).filter (fun r =>
          d.get .ringState p (c * 256 + r) ≠ 4))) d

/-! ### Calibration rounds (R303 to R309) -/

/-- An output's idle hold is served: in force now, or the port sends nothing because it is not UP. -/
def Device.holdServed (d : Device) (p n : Nat) : Bool := d.get .portState p n ≠ 4 || d.clock < (d.outp p n).holdUntil

/-- CAL_ROUND_START: both holds of the pair are served; loops frozen, heater codes recorded. -/
def Device.roundStart (d : Device) (p c : Nat) : Device :=
  match d.nextRound p c with
  | none => d
  | some (j, kind) =>
    if !d.live p || !(d.holdServed p (32 * c + 2 * j) && d.holdServed p (32 * c + 2 * j + 1)) then d
    else
      let rings := ((List.range 16).map (16 * j + ·)).filter (fun r => d.get .ringState p (c * 256 + r) = 1)
      let s := d.cal p c
      let s := { s with
        round := some j, kind := kind, saved := rings.map (fun r => (r, d.get .ringHeaterCode p (c * 256 + r))),
        forcedPair := if kind = 1 then none else s.forcedPair,
        atStart := (d.pairInputs p c j).flatMap (fun e => (List.range 4).map (fun w => (4 * e + w, d.laserPower p c e w))) }
      let d := rings.foldl (fun d r => d.set .ringState p (c * 256 + r) 2) (d.setCal p c s)
      if kind = 1 then d.bump .calForced p c else d

/-- Whether a ring is a receive ring (`ring_sel`). -/
def rxRing (r : Nat) : Bool := r / 4 % 2 = 1

/-- The fit of one ring (Table 13.7): a found one is applied, and a miss keeps the old set point. A receive ring whose port
receives no light keeps its set point and takes no part (R304). -/
def Device.applyFit (d : Device) (p c : Nat) (f : RingFit) : Device :=
  let r := f.ring.val
  let s := d.cal p c
  if d.get .ringState p (c * 256 + r) = 4 then d
  else if rxRing r && !f.lit then d.set .ringState p (c * 256 + r) 5
  else if f.found then
    let d := d.setCal p c { s with cold := (r, f.coldMhz) :: s.cold.filter (fun x => x.1 ≠ r), misses := putNat s.misses r 0 }
    (d.set .ringState p (c * 256 + r) 1).moveHeater p c r f.setUw
  else (d.setCal p c { s with misses := putNat s.misses r (lookNat s.misses r + 1) }).bump .calFitFail p c

/-- Whether a fit puts its ring at full scale. -/
def Device.fitLost (d : Device) (p c : Nat) (f : RingFit) : Bool :=
  d.get .ringState p (c * 256 + f.ring.val) ≠ 4 && !(rxRing f.ring.val && !f.lit) && f.found && 20000 ≤ f.setUw

/-- The rings of a pair that have missed the fit in three consecutive completed rounds (Table 13.7). -/
def CalSt.missed (s : CalSt) (j : Nat) : List Nat := ((List.range 16).map (16 * j + ·)).filter (fun r => lookNat s.misses r ≥ 3)

/-- CAL_ROUND_COMPLETE: fits applied, the round counted, the pair no longer due, its window request cleared, and the ordered
check of its banks. What the fits bring about, a retirement or a lock lost, follows the round, whose set points stand (R314). -/
def Device.roundDone (d : Device) (p c : Nat) (fits : List RingFit) : Device :=
  let s := d.cal p c
  match s.round with
  | none => d
  | some j =>
    if s.kind = 2 then d
    else
      let fits := fits.filter (fun f => f.ring.val / 16 = j)
      let lost := (fits.filter (fun f => d.fitLost p c f)).map (·.ring.val)
      let d := fits.foldl (fun d f => d.applyFit p c f) d
      let s := d.cal p c
      let d := d.setCal p c { s with due := s.due.filter (fun x => x.1 ≠ j), aborts := putNat s.aborts j 0,
                                     lastDone := putNat s.lastDone j d.clock }
      let d := (d.bump .calRounds p c).set .calWindowReq p c (clrBit (d.get .calWindowReq p c) j)
      let d := d.endRound p c j
      let d := if s.kind = 1 && d.get .calForceCmd p c = 1 then d.set .calForceCmd p c 2 else d
      let d := lost.foldl (fun d r => d.ringLockLost p c r) d
      let d := (s.missed j).foldl (fun d r => d.wavelengthRetire p c r) d
      ((List.range 4).foldl (fun d k => d.checkBank p c (4 * j + k)) d).requestHolds p c

/-- The 16 × 16 block of a pair as a matrix round measured it, by rows (R299). -/
def Device.measured (d : Device) : List (BitVec 16) := (List.range 256).map (Config.coupling d.freeCtr)

/-- MATRIX_ROUND_COMPLETE: the pair's block is measured, a free value, and stored; with the last one the matrix is valid, and matrix
mode takes effect. -/
def Device.matrixDone (d : Device) (p c j : Nat) : Device :=
  let s := d.cal p c
  if !((s.round = some j && s.kind = 2) || (s.round.isNone && s.matrix.contains j)) then d
  else
    let block := d.measured
    let d := if s.round.isSome then d.fresh.2.endRound p c j else d.fresh.2
    let left := s.matrix.filter (· ≠ j)
    let d := (d.setCal p c { d.cal p c with
      matrix := left, blocks := (j, block) :: (d.cal p c).blocks.filter (fun x => x.1 ≠ j) }).bump .matrixRounds p c
    if left ≠ [] then d.requestHolds p c
    else
      let d := d.setCal p c { d.cal p c with matrixOk := true }
      let d := if d.get .matrixCmd p c = 1 then d.set .matrixCmd p c 2 else d
      d.applyMode p c

/-- `xtalk_mode` is written: at once, or at the end of a running round (R300). -/
def Device.xtalkWrite (d : Device) (p c v : Nat) : Device × Bool :=
  let r := d.store .xtalkMode p c v
  if !r.2 then r
  else if (r.1.cal p c).round.isSome then (r.1.setCal p c { r.1.cal p c with pendMode := some v }, true)
  else ((r.1.applyMode p c).requestHolds p c, true)

/-! ### Commands -/

/-- LASER_ABSENT. -/
def execLaserAbsent (p : Plane) (c : Chip) (e : Fin 4) (s : State) : Res :=
  s.runOn p (fun d => if d.laserUsed p c e then d.laserAbsent p c e else d)

/-- LASER_LEVEL_ALARM. -/
def execLaserLevelAlarm (p : Plane) (c : Chip) (e : Fin 4) (wl : Fin 4) (cdbm : Int) (s : State) : Res :=
  s.runOn p (fun d => d.laserLevel p c e wl cdbm)

/-- LASER_PRESENT. -/
def execLaserPresent (p : Plane) (c : Chip) (e : Fin 4) (cdbm : List Int) (tones : BitVec 4) (s : State) : Res :=
  s.runOn p (fun d => d.laserPresent p c e cdbm tones.toNat)

/-- LASER_ENABLE. -/
def execLaserEnable (p : Plane) (c : Chip) (rq : Req) (s : State) : Res :=
  s.run (fun d => d.command rq ⟨.laserCmd, p, c⟩ 1 (fun d => d.laserCmd p c rq.ses.val 1))

/-- LASER_DISABLE. -/
def execLaserDisable (p : Plane) (c : Chip) (rq : Req) (s : State) : Res :=
  s.run (fun d => d.command rq ⟨.laserCmd, p, c⟩ 2 (fun d => d.laserCmd p c rq.ses.val 2))

/-- CMIS_POLL: while VDD_IO is low nothing is read (spec/22 R477). -/
def execCmisPoll (p : Plane) (m : Fin 20) (st : Byte) (outOff : Bool) (s : State) : Res :=
  s.runOn p (fun d => if d.hub.vddIo then d.cmisPoll p m st.toNat outOff else d)

/-- MODULE_READY_TIMEOUT. -/
def execModuleReadyTimeout (p : Plane) (c : Chip) (e : Fin 4) (s : State) : Res := s.runOn p (fun d => d.moduleTimeout p c e)

/-- XTALK_MODE_WRITE. -/
def execXtalkModeWrite (p : Plane) (c : Chip) (v : Byte) (rq : Req) (s : State) : Res :=
  s.run (fun d => d.request rq (fun d =>
    d.doWrite rq ⟨⟨.xtalkMode, p, c⟩, 1, v.toNat⟩ (fun _ => true) (fun d => d.xtalkWrite p c v.toNat)))

/-- RING_LOCK_LOST. -/
def execRingLockLost (p : Plane) (c : Chip) (ring : Ring) (s : State) : Res := s.runOn p (fun d => d.ringLockLost p c ring)

/-- CAL_PERIOD_EXPIRY. -/
def execCalPeriodExpiry (p : Plane) (c : Chip) (j : Pair) (s : State) : Res :=
  s.runOn p (fun d => (d.makeDue p c [j]).requestHolds p c)

/-- SETPOINT_ERROR_DUE. -/
def execSetpointErrorDue (p : Plane) (c : Chip) (j : Pair) (s : State) : Res :=
  s.runOn p (fun d => (d.makeDue p c [j]).requestHolds p c)

/-- PORT_IDLE_DETECTED. -/
def execPortIdleDetected (p : Plane) (n : Port) (s : State) : Res :=
  s.runOn p (fun d =>
    let c := n.val / 32
    let k := d.cal p c
    let d := if k.idle.contains (n.val % 32) then d else d.setCal p c { k with idle := (n.val % 32) :: k.idle }
    (d.requestHolds p c).retuned p n 2)

/-- CAL_ROUND_START. -/
def execCalRoundStart (p : Plane) (c : Chip) (s : State) : Res := s.runOn p (fun d => d.roundStart p c)

/-- CAL_ROUND_COMPLETE. -/
def execCalRoundComplete (p : Plane) (c : Chip) (fits : List RingFit) (s : State) : Res := s.runOn p (fun d => d.roundDone p c fits)

/-- CAL_WINDOW_REQUEST. -/
def execCalWindowRequest (p : Plane) (c : Chip) (j : Pair) (s : State) : Res := s.runOn p (fun d => d.windowRequest p c j)

/-- CAL_FORCE: the pair in `cal_force_sel`. -/
def execCalForce (p : Plane) (c : Chip) (rq : Req) (s : State) : Res :=
  s.run (fun d => d.command rq ⟨.calForceCmd, p, c⟩ 1 (fun d =>
    ((d.setCal p c { d.cal p c with forcedPair := some (d.sel .calForceSel p c rq.ses.val) }).set .calForceCmd p c 1).requestHolds p c))

/-- MATRIX_CMD. -/
def execMatrixCmd (p : Plane) (c : Chip) (rq : Req) (s : State) : Res :=
  s.run (fun d => d.command rq ⟨.matrixCmd, p, c⟩ 1 (fun d =>
    ((d.setCal p c { d.cal p c with matrix := allPairs }).set .matrixCmd p c 1).requestHolds p c))

/-- MATRIX_ROUND_COMPLETE. -/
def execMatrixRoundComplete (p : Plane) (c : Chip) (j : Pair) (s : State) : Res := s.runOn p (fun d => d.matrixDone p c j)

/-- HEATER_STEP_CHECK. -/
def execHeaterStepCheck (p : Plane) (c : Chip) (ring : Ring) (heaters : List Nat) (s : State) : Res :=
  s.runOn p (fun d => d.heaterStep p c ring heaters)

/-- TONE_VERDICT. -/
def execToneVerdict (p : Plane) (c : Chip) (verdicts : List (Ring × Fin 4)) (s : State) : Res :=
  s.runOn p (fun d => d.toneVerdict p c (verdicts.map (fun x => (x.1.val, x.2.val))))

/-- RESWEEP_COMPLETE. -/
def execResweepComplete (p : Plane) (c : Chip) (bank : Bank) (locked : Bool) (heaters : List Nat) (s : State) : Res :=
  s.runOn p (fun d => d.resweepDone p c bank locked heaters)

end Sys2Proof.Machine
end

