-- ==== Sys2Proof/Machine/Read.lean ====
section
/-! DEFINITION. What a read of the dictionary returns (spec/17_object_dictionary.md): registers as they stand, and the objects
whose value the owning chapter forms from other state at the instant of the read. Snapshots latch through the same reads
(spec/15 R351, spec/17 R393, R394). -/

namespace Sys2Proof.Machine

/-! ### Values formed at a read -/

/-- Number of registers of an object on a plane that hold a value. -/
def Device.countOf (d : Device) (o : Obj) (p : Nat) (f : Nat → Bool) : Nat :=
  (d.regs.filter (fun e => e.1.obj = o && e.1.plane = p && f e.2)).length

/-- `kite_parked_cells`: cells of parked frames in a kite. -/
def Device.parkedCells (d : Device) (p r k : Nat) : Nat :=
  total ((d.copies.filter (fun e => e.2.plane = p && e.2.row = r && e.2.stage = .parked)).map (fun e => e.2.cellsIn k))

/-- The holders that a `key_sel` value names. -/
def Device.keysOf (d : Device) (p sel par : Nat) : List TKey := (holdersOf sel).filterMap (fun h => d.tkey p (2 * h + par))

/-- `key_held`. -/
def Device.keyHeld (d : Device) (p sel : Nat) : Nat := ofBits ([0, 1].filter (fun par => d.keysOf p sel par ≠ []))

/-- The transmit keys in force of a `key_sel` value. -/
def Device.txKeys (d : Device) (p sel : Nat) : List TKey :=
  (d.keysOf p sel (d.get .keyEpochTx p 0 % 2)).filter (fun k => k.epoch = d.get .keyEpochTx p 0)

/-- `key_ctr_max`: the highest c of the transmit key in force over its links and pairs. -/
def Device.keyCtrMax (d : Device) (p sel : Nat) : Nat :=
  ((d.txKeys p sel).flatMap (·.ctrs)).foldl max 0

/-- `key_stalled`: links on which a transmit key has reached its limit (spec/11 R256). -/
def Device.keyStalled (d : Device) (p sel : Nat) : Nat :=
  ofBits ((List.range 4).filter (fun l => (d.txKeys p sel).any (fun k => nth k.ctrs l ≥ k.limit)))

/-- `aps_wtr_left_s`. -/
def Device.wtrLeft (d : Device) (p : Nat) : Nat :=
  match (d.tether p).wtr with
  | some (_, e) => ceilDiv (e - d.clock) 1000000000
  | none => 0

/-- `tn_planes`: bit p for a context on plane p. -/
def Device.tnPlanes (d : Device) (t : Nat) : Nat := ofBits ((List.range 4).filter (fun p => d.hasTenant p t))

/-- `tn_bound_ports`: fabric ports whose bound set holds the tenant. -/
def Device.boundPorts (d : Device) (p t : Nat) : Nat :=
  (((d.regs.filter (fun e => e.1.obj = .tenantBind && e.1.plane = p && e.2 = t)).map (fun e => e.1.idx / 256)).eraseDups).length

/-- `health_summary` (spec/19 Table 19.12). -/
def Device.healthSummary (d : Device) : Nat :=
  ofBits ((List.range 4).flatMap (fun p =>
    (if d.countOf .hfChanState p (· = 4) > 0 then [p] else []) ++
    (match (d.plane p).cond with
      | .retired => [4 + p]
      | .recovering => [8 + p]
      | .maintenance => [12 + p]
      | _ => [])) ++ (if d.serviceAsked then [16] else []))

/-- `switch_status`: plane retired, else swap in progress. -/
def Device.switchStatus (d : Device) (p : Nat) : Nat :=
  if (d.plane p).cond = .retired || (d.plane p).cond = .tripped then 2 else if d.swapBusy p then 1 else 0

/-- `mon_limit` in 0.01 of the unit (spec/19 Table 19.5). -/
def Device.monLimit (d : Device) (p m : Nat) : Nat :=
  let kind := m / 4096
  if kind = 1 then 300 else if kind = 2 then 2500 else if kind = 3 then 2000 else if kind = 4 then 1600
  else if kind = 5 then (d.get .heaterReserveUw p (m % 4096) + 1000) * 100 else if kind = 6 then 100000 else 0

/-- `evt_filter` of entry e: session e div 8 + 1, filter e mod 8 (spec/18 R405). -/
def Device.evtFilter (d : Device) (e : Nat) : Nat :=
  match ((d.session (e / 8 + 1)).filters.getD (e % 8) none) with
  | some (i, m) => (e / 8 + 1) * 2 ^ 56 + i * 2 ^ 32 + m
  | none => 0

/-- Bits [n+63:n] of the fence bits. -/
def Device.fencedFrom (d : Device) (p n : Nat) : Nat := ofBits ((List.range 64).filter (fun k => (d.port p (n + k)).fenced))

/-- The value a register reads as. -/
def Device.readReg (d : Device) (o : Obj) (p i : Nat) : Nat :=
  match o with
  | .switchStatus => d.switchStatus p
  -- corrected errors have no command: their counters read as free values (assumption log 6)
  | .fecCorrected => Config.corrected 0 p i d.clock % 2 ^ 64
  | .hbmCorrected => Config.corrected 1 p i d.clock % 2 ^ 64
  | .accCorrected => Config.corrected 2 p i d.clock % 2 ^ 32
  -- in the spine role the long-haul ports are reported as administratively down (spec/01 R12)
  | .lhAdmin => if d.role p = 1 then d.get o p i else 0
  | .sprayLive => d.sprayLive p i
  | .kiteOccupancy => d.occupancy p (kiteOf i).1 (kiteOf i).2
  | .kiteParkedCells => d.parkedCells p (kiteOf i).1 (kiteOf i).2
  | .poolFree => d.poolFree p i
  | .poolReserved => d.poolReserved p i (d.poolGib p i)
  | .quotaBuffers => if bit i 15 then d.quota p (i % 32768 / 4096) sysReq else d.get o p i
  | .quotaHighWater => if bit i 15 || d.hasTenant p (i % 4096) then d.get o p i else 0
  | .quotaRefused => if bit i 15 || d.hasTenant p (i % 4096) then d.get o p i else 0
  | .quotaUsed => d.quotaUsed p (i % 32768 / 4096) (if bit i 15 then sysReq else i % 4096)
  | .tnCellsUsed => d.cellsUsed p i
  | .schedServiceActive => if d.recoveryMode p then 1 else 0
  | .redContextsActive => d.countOf .rctxState p (· ≠ 0)
  | .slotsRunning => d.countOf .slotState p (· = 2)
  | .notifyUsed => (d.notifies.filter (fun n => n.plane = p)).length
  | .grpLive => (d.liveMembers p i).length
  | .tribUnacked => (d.trib p i).copies.length
  | .tribHeld => (d.trib p i).held.length
  | .apsWtrLeftS => d.wtrLeft p
  | .masterState => (if (d.master p i).inForce.isSome then 1 else 0) + (if (d.master p i).pending.isSome then 2 else 0)
  | .keyHeld => d.keyHeld p i
  | .keyCtrMax => d.keyCtrMax p i
  | .keyStalled => d.keyStalled p i
  | .rgnT1Held => d.rgnHeld p i
  | .t2Versions => d.t2Versions p i
  | .replState => d.peerState p i false
  | .mirrorState => d.peerState p i true
  | .ringWrongLocks => d.ringWrongLocks p (i / 256) (i % 256)
  | .tbTime => packTime (d.tbNow p i)
  | .tbFreqPpb => ofSigned 32 ((d.tb p i).adj / 2 ^ 32)
  | .tnPlanes => d.tnPlanes i
  | .tnBoundPorts => d.boundPorts p i
  | .fencedFabricLo => d.fencedFrom p 0
  | .fencedFabricHi => d.fencedFrom p 64
  | .ndpSessions => ((List.range 16).filter (fun s => (d.session (s + 1)).isOpen)).length
  | .jnlFreeBytes => d.jnlFree
  | .fwVersion => if d.get .bootImage 4 0 = 0 then (Config.imageVersion d.hub.imgA).toNat else (Config.imageVersion d.hub.imgB).toNat
  | .fwVersionA => (Config.imageVersion d.hub.imgA).toNat
  | .fwVersionB => (Config.imageVersion d.hub.imgB).toNat
  | .healthSummary => d.healthSummary
  | .monLimit => d.monLimit p i
  | .evtFilter => d.evtFilter i
  | o => d.get o p i

/-- The bytes of a STRING: those stored, without leading padding. -/
def stringBytes (v : Nat) : Bytes := natToBytes (if v = 0 then 0 else Nat.log2 v / 8 + 1) v

/-- The bytes a read of a register returns, most significant first (R368). -/
def Device.readBytes (d : Device) (o : Obj) (p i : Nat) : Bytes :=
  match o.info.ty with
  | .string _ => stringBytes (d.readReg o p i)
  | ty => natToBytes ty.bytes (d.readReg o p i)

/-! ### Journal records (R388) -/

/-- INDEX and SUBINDEX of a register. -/
def Key.place (k : Key) : Nat × Nat :=
  let r := k.obj.info
  let bits := if k.obj = .grpMember || k.obj = .grpMemberActive then 64 else total (k.obj.sels.map Obj.width)
  let inst := if k.obj.isSel then k.idx / 32 else k.idx / 2 ^ bits
  let B := 0x4000 + 0x1000 * k.plane
  match r.space with
  | .hub => (r.base, r.sub)
  | .role => (0x1400, r.sub + inst)
  | .partF => (0x1410 + k.plane, 1 + inst)
  | .partL => (0x1410 + k.plane, 0x81 + inst)
  | .hubPlane => (r.base + k.plane, r.sub)
  | .tenant => (0x8000 + inst, r.sub)
  | .tenantPlane => (0x8000 + inst, 0x10 + 0x10 * k.plane + r.sub)
  | .timeBase => (0x3000 + 0x100 * k.plane + 0x20 * inst, r.sub)
  | .fabric => (B + inst, r.sub)
  | .longHaul => (B + 0x80 + inst, r.sub)
  | .chiplet => (B + 0xA0 + inst, r.sub)
  | .bypass => (B + 0xB0 + inst, r.sub)
  | .plane => (B + r.base, r.sub)
  | .cause => (causeIndex k.plane inst, if inst ≥ 0x20 then r.sub + 0x19 else r.sub)
  | .evtFilter => (0x9000 + inst, 1)

/-- The value bytes of an entry of a record; a value wider than its object is kept as bytes below a leading 1. -/
def entryBytes (e : Key × Nat) : Bytes :=
  if e.2 < 2 ^ e.1.obj.width then natToBytes e.1.obj.info.ty.bytes e.2 else natToBytes (Nat.log2 e.2 / 8) e.2

/-- A record as stored: header, value padded to 8 bytes, commit word (Table 17.10). -/
def JRec.stored (r : JRec) : Bytes :=
  let one : Nat × Nat × Nat × Nat × Bytes := match r.vals with
    | [e] => (e.1.place.1, e.1.place.2, e.1.obj.info.ty.code, 1, entryBytes e)
    | l => (0xFFFF, 0, 0, 2, l.flatMap (fun (e : Key × Nat) => natToBytes 2 e.1.place.1 ++ natToBytes 1 e.1.place.2 ++
        natToBytes 1 e.1.obj.info.ty.code ++ natToBytes 2 (entryBytes e).length ++ entryBytes e))
  let v := one.2.2.2.2
  let h := natToBytes 8 r.seq ++ natToBytes 2 one.1 ++ natToBytes 1 one.2.1 ++ natToBytes 1 one.2.2.1 ++
    natToBytes 2 v.length ++ natToBytes 1 one.2.2.2.1 ++ List.replicate 13 0xFF
  h ++ natToBytes 4 (crc32 (h ++ v)) ++ v ++ List.replicate (ceilDiv v.length 8 * 8 - v.length) 0xFF ++
    natToBytes 8 (2 ^ 64 - 1 - r.seq)

/-- `jnl_export`: the live records in SEQ order, those of `role_fp` and `ca_cert` left out. -/
def Device.jnlExport (d : Device) : Bytes :=
  ((liveRecords d.hub.jnl).filter (fun r => !r.vals.any (fun e => e.1.obj = .roleFp || e.1.obj = .caCert))).flatMap JRec.stored

/-- The value of a DOMAIN object. -/
def Device.domainValue (d : Device) (o : Obj) (p i : Nat) : Bytes :=
  match o with
  | .jnlExport => d.jnlExport
  | .retireLog => d.hub.retireLog.flatMap RetireEntry.bytes
  | .devCert => Config.devCert
  | o => d.domain o p i

/-! ### Snapshots (spec/15 R351, spec/17 R393, R394) -/

/-- The object that a listed entry names: [31:16] index, [15:8] subindex. -/
def snapTarget (v : Nat) : Option Target := target (fld v 16 16) (fld v 8 8)

/-- FLAGS of a part: [0] LATE, [1] UNLOCKED, [2] ABSENT. -/
def snapPart (late unlocked absent : Bool) : Nat :=
  (if late then 1 else 0) + (if unlocked then 2 else 0) + (if absent then 4 else 0)

/-- Latch the listed objects of plane p (4: of the hub) with the given flags; an absent part holds zeros. -/
def Device.snapTake (d : Device) (p flags : Nat) : Device :=
  let s := d.snap
  let mine : List (Nat × Nat × Bytes) := s.objs.filterMap (fun x =>
    match snapTarget x.2 with
    | some t =>
      if t.plane = p then
        some (x.1, flags, if bit flags 2 then List.replicate t.obj.info.ty.bytes 0 else d.readBytes t.obj t.plane (d.place t 0))
      else none
    | none => none)
  { d with snap := { s with wait := s.wait.filter (· ≠ p), parts := s.parts ++ mine } }

/-- When every plane has latched, the hub's own objects are latched, the result replaces the old one and `snap_cmd` reads
0x02. -/
def Device.snapClose (d : Device) : Device :=
  if d.snap.armed && d.snap.wait = [] then
    let d := d.snapTake 4 0
    let one := fun (x : Nat × Nat) =>
      match (d.snap.parts.find? (fun (e : Nat × Nat × Bytes) => e.1 = x.1)) with
      | some e => natToBytes 3 (x.2 / 256) ++ natToBytes 1 e.2.1 ++ e.2.2
      | none => []
    let v := d.snap.objs.flatMap one
    ({ d with snap := {} }.setDomain .snapResult 4 0 v).set .snapCmd 4 0 2
  else d

/-- A plane latches its part: late where the request came after T, unlocked where its time base counts as unlocked (R350). -/
def Device.snapPlane (d : Device) (p : Nat) (late : Bool) : Device :=
  if d.snap.armed && d.snap.wait.contains p then
    (d.snapTake p (snapPart late (!d.tbLocked p d.snap.tb) false)).snapClose
  else d

/-- A time base of a plane was carried from `old` ns to its present reading: a step forward across T latches (R351). -/
def Device.snapStep (d : Device) (p n old : Nat) : Device :=
  if d.snap.tb = n && old < d.snap.t && d.snap.t ≤ d.tbNow p n then d.snapPlane p false else d

/-- The value bytes of a snapshot list. -/
def snapBytes (l : List (Nat × Nat)) : Nat :=
  total (l.map (fun x => match snapTarget x.2 with | some t => t.obj.info.ty.bytes | none => 0))

/-- Whether a list may be armed (R393): not empty, no DOMAIN object and none that acts on a selection, at most 8,192 value
bytes; an entry that names no object cannot be latched. -/
def Device.snapOk (d : Device) (l : List (Nat × Nat)) : Bool :=
  !d.snap.armed && l ≠ [] && snapBytes l ≤ 8192 &&
    l.all (fun x => match snapTarget x.2 with
      | some t => t.obj.info.ty ≠ .domain && t.obj.sels = [] && t.obj ≠ .grpMember && t.obj ≠ .grpMemberActive
      | none => false)

/-- The list in `snap_obj`, up to the first empty entry, with its places. -/
def Device.snapList (d : Device) : List (Nat × Nat) :=
  (((List.range 256).map (fun k => (k, d.get .snapObj 4 k))).takeWhile (fun x => x.2 ≠ 0))

/-- SNAPSHOT_ARM: the request reaches every listed plane; one that reads T or later latches at once as late, one that does not
answer is absent. -/
def Device.snapArm (d : Device) : Device :=
  let l := d.snapList
  if !d.snapOk l then d.set .snapCmd 4 0 3
  else
    let t := unpackTime (d.get .snapTime 4 0)
    let n := d.get .snapTb 4 0
    let planes := (List.range 4).filter (fun p => l.any (fun x => (snapTarget x.2).any (fun g => g.plane = p)))
    let d := { d.set .snapCmd 4 0 1 with snap := { armed := true, t := t, tb := n, objs := l, wait := planes, parts := [] } }
    let d := planes.foldl (fun d p =>
      if !d.answers p then d.snapTake p 4
      else if t ≤ d.tbNow p n then d.snapTake p (snapPart true (!d.tbLocked p n) false) else d) d
    d.snapClose

end Sys2Proof.Machine
end

