-- ==== Sys2Proof/Machine/Time.lean ====
section
/-! DEFINITION. Time bases, their servo and standby domains, PTP messages and link delay
(spec/15_time_and_synchronisation.md). Offsets are in 2^-16 ns, readings in 2^-32 ns, adjustments in 2^-32 ppb. -/

namespace Sys2Proof.Machine

/-! ### Setting and stepping a time base (R344, R346) -/

/-- Give a time base a reading, which wraps at 2^48 s. -/
def Device.tbPut (d : Device) (p n : Nat) (fine : Int) : Device :=
  d.setTb p n { d.tb p n with base := (fine % (2 ^ 48 * 1000000000 * 2 ^ 32)).toNat, since := d.clock }

/-- Set or step a time base: counted, latched; beyond 1 µs gate lists and bypass windows see it (R116, R330); a snapshot whose
instant it passes is latched (R351). -/
def Device.tbMove (d : Device) (p n : Nat) (fine : Int) : Device :=
  let old := d.tbFine p n
  let d := ((d.tbPut p n fine).bump .tbSteps p n).causeTime p n 3
  let d := if (fine - old).natAbs > 1000 * 2 ^ 32 then d.tbStepped p n else d
  d.snapStep p n (old / 2 ^ 32)

/-- Put a frequency adjustment in force from now on. -/
def Device.tbAdj (d : Device) (p n : Nat) (adj : Int) : Device :=
  let t := d.tb p n
  d.setTb p n { t with base := d.tbFine p n, since := d.clock, adj := adj }

/-- The greatest adjustment, 100,000 ppb (R333). -/
def adjMax : Int := 100000 * 2 ^ 32

/-- The arithmetic of the servo (R344): θ, Kp · 65,536, Ki · 65,536 and log2 τ give the new integ and adjustment. -/
def servo (theta integ kp ki : Int) (log : Int) : Int × Int :=
  let i := integ + theta
  let raw := -(kp * theta + ki * i)
  let a := if 0 ≤ log then raw / 2 ^ log.toNat else raw * 2 ^ (-log).toNat
  (i, max (-adjMax) (min adjMax a))

/-- Whole ns of an offset, toward zero, within an I32. -/
def wholeNs (theta : Int) : Int := max (-2147483648) (min 2147483647 (Int.tdiv theta 65536))

/-- Record an offset (`tb_offset_ns`, `tb_offset_max_ns`). -/
def Device.noteOffset (d : Device) (p n : Nat) (theta : Int) : Device :=
  (d.set .tbOffsetNs p n (ofSigned 32 (wholeNs theta))).highWater .tbOffsetMaxNs p n (min (theta.natAbs / 65536) 0xFFFFFFFF)

/-- The servo runs on a sample, or the time base is stepped by −θ (R344). -/
def Device.tbSteer (d : Device) (p n : Nat) (theta : Int) : Device :=
  let t := d.tb p n
  if theta.natAbs > d.get .stepThresholdNs p n * 65536 then
    (d.setTb p n { t with integ := 0 }).tbMove p n (d.tbFine p n - theta * 65536)
  else
    let r := servo theta t.integ (d.get .servoKp p n) (d.get .servoKi p n) (toSigned 32 (d.get .syncIntervalLog2 p n))
    let d := d.tbAdj p n r.2
    let t := d.tb p n
    d.setTb p n { t with integ := r.1, adjs := (r.2 :: t.adjs).take 16 }

/-! ### States (Table 15.4) -/

/-- Mean of a list, 0 of the empty one. -/
def meanOf (l : List Int) : Int := if l = [] then 0 else l.foldl (· + ·) 0 / (l.length : Int)

/-- Time bases of the plane that follow n as their standby domain. -/
def Device.followers (d : Device) (p n : Nat) : List Nat :=
  (List.range 8).filter (fun a => a ≠ n && d.get .tbRedundant p a = n && d.get .tbSource p a = 1)

/-- Enter HOLDOVER: the adjustment is frozen at the mean of its last 16 values. -/
def Device.holdover (d : Device) (p n : Nat) : Device :=
  if d.get .tbState p n = 1 || d.get .tbState p n = 2 then
    let d := d.tbAdj p n (meanOf (d.tb p n).adjs)
    ((d.set .tbState p n 3).bump .tbHoldovers p n).causeTime p n 1
  else d

/-- Change a time base's state; when it leaves LOCKED, those that follow it enter HOLDOVER (R348). -/
def Device.tbEnter (d : Device) (p n st : Nat) : Device :=
  let was := d.get .tbState p n
  let d := (d.set .tbState p n st).setTb p n { d.tb p n with good := 0, bad := 0 }
  let d := if was = 2 && st = 1 then d.causeTime p n 0 else d
  if was = 2 && st ≠ 2 then (d.followers p n).foldl (fun d a => d.holdover p a) d else d

/-- HOLDOVER of a time base and of those that follow it. -/
def Device.lose (d : Device) (p n : Nat) : Device :=
  let was := d.get .tbState p n
  let d := d.holdover p n
  if was = 2 then (d.followers p n).foldl (fun d a => d.holdover p a) d else d

/-- What a sample does to the state (R345). -/
def Device.tbJudge (d : Device) (p n : Nat) (theta : Int) : Device :=
  let t := d.tb p n
  let within := theta.natAbs ≤ d.get .lockThresholdNs p n * 65536
  let st := d.get .tbState p n
  if st = 1 then
    if !within then d.setTb p n { t with good := 0 }
    else if t.good + 1 ≥ 8 then d.tbEnter p n 2
    else d.setTb p n { t with good := t.good + 1 }
  else if st = 2 then
    if within then d.setTb p n { t with bad := 0 }
    else if t.bad + 1 ≥ 4 then d.tbEnter p n 1
    else d.setTb p n { t with bad := t.bad + 1 }
  else if st = 0 || st = 3 then d.tbEnter p n 1
  else d

/-- A sample that steers a time base. -/
def Device.tbSample (d : Device) (p n : Nat) (theta : Int) : Device :=
  if d.get .tbState p n = 4 then d
  else
    let t := (d.noteOffset p n theta).tbSteer p n theta
    t.tbJudge p n theta

/-- θ′ of a time base that follows n (R348). -/
def Device.standbyTheta (d : Device) (p a n : Nat) : Int :=
  ((d.tbFine p a : Int) - d.tbFine p n) / 65536 + (d.tb p a).frozen

/-- An own sample θ of time base n: it steers n, or is only noted while n follows its standby (R349); those that follow n, which
is LOCKED, take their θ′ (R348). -/
def Device.ownSample (d : Device) (p n : Nat) (theta : Int) : Device :=
  if d.get .tbSource p n = 1 then
    let t := d.tb p n
    d.setTb p n { t with own := (theta :: t.own).take 8 }
  else
    let d := d.tbSample p n theta
    if d.get .tbState p n = 2 then (d.followers p n).foldl (fun d a => d.tbSample p a (d.standbyTheta p a n)) d else d

/-- Switchover to the standby domain (R348): Δ is frozen. -/
def Device.switchover (d : Device) (p n : Nat) : Device :=
  let t := d.tb p n
  let d := (d.setTb p n { t with frozen := meanOf t.diffs, own := [] }).set .tbSource p n 1
  (d.bump .tbSwitchovers p n).causeTime p n 2

/-- Whether the standby of a time base is LOCKED. -/
def Device.standbyLocked (d : Device) (p n : Nat) : Bool :=
  let b := d.get .tbRedundant p n
  b < 8 && d.get .tbState p b = 2

/-- HOLDOVER_TIMEOUT: no Sync of the own domain was accepted for `holdover_timeout_ms`. -/
def Device.tbTimeout (d : Device) (p n : Nat) : Device :=
  let st := d.get .tbState p n
  if (st ≠ 1 && st ≠ 2) || d.get .tbSource p n = 1 then d
  else if d.standbyLocked p n then
    let d := d.tbAdj p n (meanOf (d.tb p n).adjs)
    (d.tbEnter p n 2).switchover p n
  else d.lose p n

/-- STANDBY_DIFF_READ: both bases are read at one instant (R347). -/
def Device.standbyRead (d : Device) (p a : Nat) : Device :=
  let b := d.get .tbRedundant p a
  if b ≥ 8 || d.get .tbSource p a = 1 then d
  else
    let t := d.tb p a
    let l := (((d.tbFine p b : Int) - d.tbFine p a) / 65536 :: t.diffs).take 16
    (d.setTb p a { t with diffs := l }).set .tbStandbyDiffNs p a (ofSigned 64 (Int.tdiv (meanOf l) 65536))

/-- A write to `tb_enable` (R345): a disabled time base runs at the nominal rate, its roles kept. -/
def Device.tbEnableTo (d : Device) (p n v : Nat) : Device :=
  if v = 1 then (if d.get .tbState p n = 4 then d.tbEnter p n 0 else d)
  else if d.get .tbState p n = 4 then d
  else (d.tbAdj p n 0).tbEnter p n 4

/-- A write to `tb_time` (R346). -/
def Device.tbTimeTo (d : Device) (p n ns : Nat) : Device :=
  let d := if d.get .tbState p n = 2 then (d.setTb p n { d.tb p n with integ := 0 }).tbEnter p n 1 else d
  d.tbMove p n (ns * 2 ^ 32)

/-! ### Messages (R335 to R341) -/

/-- clockIdentity of P<p>.TB<n> (Table 15.1). -/
def Device.clockId (d : Device) (p n : Nat) : Nat :=
  0x024C59FE * 2 ^ 32 + d.devId p % 4096 * 2 ^ 16 + p % 4 * 2 ^ 8 + n % 8

/-- The header and body of a message: versionPTP 2, minorVersionPTP 1, minorSdoId 0x00 (R335); the layout is IEEE 1588's
(assumption log 13). -/
def ptpMessage (type sdo domain corr src seq log : Nat) (body : Bytes) : Bytes :=
  natToBytes 1 (sdo * 16 + type) ++ natToBytes 1 0x12 ++ natToBytes 2 (34 + body.length) ++ natToBytes 1 domain ++
    natToBytes 1 0 ++ natToBytes 2 0 ++ natToBytes 8 corr ++ natToBytes 4 0 ++ natToBytes 10 src ++ natToBytes 2 seq ++
    natToBytes 1 (if type = 0 then 0 else 5) ++ natToBytes 1 log ++ body

/-- sourcePortIdentity of a time base on line port o: its identity and portNumber. -/
def Device.portId (d : Device) (p n o : Nat) : Nat := d.clockId p n * 65536 + o + 1

/-- sourcePortIdentity of the common mean link delay service. -/
def cmldsId (p o : Nat) : Nat := (Config.cmldsIdentity p).toNat * 65536 + o + 1

/-- Whether a line port is UP. -/
def Device.lineUp (d : Device) (p o : Nat) : Bool :=
  d.live p && (if o < 128 then d.get .portState p o = 4 else d.lhUp p (o - 128))

/-- A frame the plane makes for its own fabric port waits there in class 6, in no kite. -/
def Device.ptpQueue (d : Device) (p n : Nat) (f : Frame) : Device :=
  let a := d.newId
  let b := a.2.newId
  let c := b.2.newId
  let fr : FrameRec := { plane := p, input := 400 + n, frame := f, cls := 6, tenant := 0, cells := f.cells, charged := false,
                         credit := none }
  let cp : Copy := { plane := p, fid := a.1, row := 20, col := n / 8, stage := .queued, place := [], wait := [n], sentTo := [],
                     due := [], seq := c.1, at_ := d.clock, moved := false, charged := false }
  (c.2.setFrame p a.1 fr).setCopy p b.1 cp

/-- The time tributary: an enabled management tributary of class 6 alone (R339). -/
def Device.timeTrib (d : Device) (p : Nat) : Option Nat :=
  ((d.regs.filter (fun e => e.1.obj = .tribDesc && e.1.plane = p && bit e.2 31 && bit e.2 30 && fld e.2 22 8 = 0x40)).map
    (·.1.idx)).head?

/-- Whether the page in force gives the time tributary a position on link l. -/
def Device.timePosition (d : Device) (p l : Nat) : Bool :=
  match d.timeTrib p with
  | none => false
  | some t =>
    (List.range 512).any (fun k => posTrib (d.entries p 0) (bridgeOf (d.get .apsBridge p 0)) (512 * l + k) = some t)

/-- Send a message from a line port (R337, R339). -/
def Device.ptpSend (d : Device) (p o domain : Nat) (oneStep : Bool) (b : Bytes) : Device :=
  let m : Mk := { opcode := opPtp, cls := 6, flags := if oneStep then 16 else 0, hops := 1, srcDevice := d.devId p, srcPort := o }
  if o < 128 then d.ptpQueue p o ((d.peerMk p o m).frame b)
  else if !d.timePosition p (o - 128) then d.ptpCount .ptpLhUntimed p domain
  else
    (d.placeTrib p (o - 128) ({ m with destDevice := d.get .lhPartnerDevice p 0, destPlane := p, destPort := o }.frame b)
      (some (o - 128))).1

/-- SYNC_TX_TIMER: a master port sends a one-step Sync, whose time is inserted as it departs (R338). -/
def Device.syncTx (d : Device) (p n o : Nat) : Device :=
  if d.get .tbState p n = 4 || d.get .ptpPortRole p (n * 256 + o) ≠ 1 || !d.lineUp p o then d
  else
    let t := d.tb p n
    let dom := d.get .tbDomain p n
    let b := ptpMessage 0 0 dom 0 (d.portId p n o) t.syncSeq (d.get .syncIntervalLog2 p n % 256) (natToBytes 10 0)
    (d.setTb p n { t with syncSeq := (t.syncSeq + 1) % 65536 }).ptpSend p o dom true b

/-- The grandmaster fields a time base announces (Table 15.3): its own identity in FREE_RUN or before any Announce, whose other
fields the spec does not state. -/
def Device.announces (d : Device) (p n : Nat) : Device × Nat :=
  match d.get .tbState p n, (d.tb p n).announced with
  | 0, _ => let r := d.fresh; (r.2, r.1 % 2 ^ 48 * 2 ^ 64 + d.clockId p n)
  | _, some g => (d, g)
  | _, none => let r := d.fresh; (r.2, r.1 % 2 ^ 48 * 2 ^ 64 + d.clockId p n)

/-- ANNOUNCE_TX_TIMER. -/
def Device.announceTx (d : Device) (p n o : Nat) : Device :=
  if d.get .tbState p n = 4 || d.get .ptpPortRole p (n * 256 + o) ≠ 1 || !d.lineUp p o then d
  else
    let g := d.announces p n
    let r := g.1.fresh
    let d := r.2
    let t := d.tb p n
    let dom := d.get .tbDomain p n
    let b := ptpMessage 0xB 0 dom 0 (d.portId p n o) t.annSeq 0
      (natToBytes 10 0 ++ natToBytes 2 r.1 ++ natToBytes 1 0 ++ natToBytes 14 g.2 ++ natToBytes 3 (r.1 / 65536))
    (d.setTb p n { t with annSeq := (t.annSeq + 1) % 65536 }).ptpSend p o dom false b

/-- PDELAY_REQ_TIMER: every UP port asks for its link delay (R341); t1 is taken as the request departs. -/
def Device.pdelayTx (d : Device) (p o : Nat) : Device :=
  if !d.lineUp p o then d
  else
    let s := d.pd p o
    let b := ptpMessage 2 2 0 0 (cmldsId p o) s.nextSeq 0 (natToBytes 20 0)
    (d.setPd p o { s with nextSeq := (s.nextSeq + 1) % 65536 }).ptpSend p o 0 false b

/-- Half of `lh_asym_ns` in 2^-16 ns, 0 on a fabric port (Table 15.2). -/
def Device.halfAsym (d : Device) (p o : Nat) : Int := if o < 128 then 0 else toSigned 32 (d.get .lhAsymNs p (o - 128)) * 32768

/-- The receive timestamp with the correction of Table 15.2. -/
def Device.rxTime (d : Device) (p o : Nat) (m : PtpMsg) : Int := (m.rxStamp : Int) - d.halfAsym p o

/-- `link_delay_valid` of a line port. -/
def Device.delayValid (d : Device) (p o : Nat) : Bool :=
  if o < 128 then d.get .linkDelayValid p o = 1 else d.get .lhLinkDelayValid p (o - 128) = 1

/-- Set a port's link delay objects (R341). -/
def Device.setDelay (d : Device) (p o ns valid : Nat) : Device :=
  if o < 128 then (d.set .linkDelayNs p o ns).set .linkDelayValid p o valid
  else (d.set .lhLinkDelayNs p (o - 128) ns).set .lhLinkDelayValid p (o - 128) valid

/-- The mean link delay in 2^-16 ns. -/
def Device.meanDelay (d : Device) (p o : Nat) : Int := meanOf (d.pd p o).results

/-- The enabled time bases of a domain whose slave port is o (R340). -/
def Device.slavesOf (d : Device) (p o domain : Nat) : List Nat :=
  (List.range 8).filter (fun n => d.get .tbEnable p n = 1 && d.get .tbDomain p n = domain && d.get .ptpPortRole p (n * 256 + o) = 2)

/-- Whether a message of a domain is one the plane takes on a slave port. -/
def ptpPlain (m : PtpMsg) : Bool := m.version = 2 && m.sdo = 0

/-- A received Sync (R340, R343). -/
def Device.syncRx (d : Device) (p o : Nat) (m : PtpMsg) : Device :=
  let dom := m.domain.toNat
  let l := d.slavesOf p o dom
  if !ptpPlain m || l = [] then d.ptpCount .ptpRxDiscard p dom
  else if m.twoStep then l.foldl (fun d n => d.bump .ptpTwostepReject p n) d
  else if m.untimed then l.foldl (fun d n => d.bump .ptpLhUntimed p n) d
  else if !d.delayValid p o then l.foldl (fun d n => d.bump .ptpRxDiscard p n) d
  else
    let theta := d.rxTime p o m - ((m.origin : Int) * 65536 + m.correction) - d.meanDelay p o
    l.foldl (fun d n => d.ownSample p n theta) d

/-- A received Announce: its grandmaster fields are kept, and nothing is selected (Table 15.3). -/
def Device.announceRx (d : Device) (p o : Nat) (m : PtpMsg) : Device :=
  let dom := m.domain.toNat
  let l := d.slavesOf p o dom
  if !ptpPlain m || l = [] then d.ptpCount .ptpRxDiscard p dom
  else l.foldl (fun d n => d.setTb p n { d.tb p n with announced := some m.grandmaster.toNat }) d

/-- Whether a message belongs to the common mean link delay service and the port takes it (R340). -/
def Device.takesDelay (d : Device) (p o : Nat) (m : PtpMsg) : Bool :=
  m.version = 2 && m.sdo = 2 && m.domain = 0 && d.lineUp p o

/-- A received Pdelay_Req (R341): the response's correctionField is made as −t2 and gains t3 as it departs. -/
def Device.pdelayReqRx (d : Device) (p o : Nat) (m : PtpMsg) : Device :=
  if !d.takesDelay p o m then d.ptpCount .ptpRxDiscard p m.domain.toNat
  else if m.untimed then d.ptpCount .ptpLhUntimed p m.domain.toNat
  else
    let corr := ((-(d.rxTime p o m)) % 2 ^ 64).toNat
    d.ptpSend p o 0 true (ptpMessage 3 2 0 corr (cmldsId p o) m.seqId.toNat 0 (natToBytes 10 0 ++ natToBytes 10 m.source.toNat))

/-- A received Pdelay_Resp (R341): mean_link_delay := ((t4 − t1) − correctionField) / 2, the mean of the last 8 reported. -/
def Device.pdelayRespRx (d : Device) (p o : Nat) (m : PtpMsg) : Device :=
  if !d.takesDelay p o m then d.ptpCount .ptpRxDiscard p m.domain.toNat
  else if m.twoStep then d.ptpCount .ptpTwostepReject p m.domain.toNat
  else if m.untimed then d.ptpCount .ptpLhUntimed p m.domain.toNat
  else
    let s := d.pd p o
    match s.req with
    | none => d.ptpCount .ptpRxDiscard p 0
    | some (q, t1) =>
      if q ≠ m.seqId.toNat then d.ptpCount .ptpRxDiscard p 0
      else
        let r := (d.rxTime p o m - t1 - m.correction) / 2
        let s := { s with req := none, results := (r :: s.results).take 8 }
        (d.setPd p o s).setDelay p o (min (meanOf s.results / 65536).toNat 0xFFFFFFFF) 1

/-- LINK_DELAY_EXPIRY: no result arrived within the last 3 s. A time base whose slave port it is latches its cause (Table
18.3). -/
def Device.delayExpired (d : Device) (p o : Nat) : Device :=
  let d := if o < 128 then d.set .linkDelayValid p o 0 else d.set .lhLinkDelayValid p (o - 128) 0
  ((List.range 8).filter (fun n => d.get .tbEnable p n = 1 && d.get .ptpPortRole p (n * 256 + o) = 2)).foldl
    (fun d n => d.causeTime p n 4) d

/-- A write to `ptp_port_role` may not make a second slave (R341). -/
def Device.roleOk (d : Device) (p n o v : Nat) : Bool :=
  v ≠ 2 || (d.ptpPorts p n 2).all (· = o)

/-- A write to `tb_redundant` (R347): none, or another time base that names none itself. -/
def Device.redundantOk (d : Device) (p n v : Nat) : Bool :=
  v = 0xFF || (v < 8 && v ≠ n && d.get .tbRedundant p v = 0xFF)

/-- A new `tb_redundant` starts its readings afresh and ends the following of the old standby. -/
def Device.redundantSet (d : Device) (p n : Nat) : Device :=
  (d.setTb p n { d.tb p n with diffs := [], own := [] }).set .tbSource p n 0

/-! ### Commands -/

/-- SYNC. -/
def execSync (p : Plane) (o : LinePort) (m : PtpMsg) (s : State) : Res := s.runOn p (fun d => d.syncRx p o m)
/-- ANNOUNCE. -/
def execAnnounce (p : Plane) (o : LinePort) (m : PtpMsg) (s : State) : Res := s.runOn p (fun d => d.announceRx p o m)
/-- PDELAY_REQ. -/
def execPdelayReq (p : Plane) (o : LinePort) (m : PtpMsg) (s : State) : Res := s.runOn p (fun d => d.pdelayReqRx p o m)
/-- PDELAY_RESP. -/
def execPdelayResp (p : Plane) (o : LinePort) (m : PtpMsg) (s : State) : Res := s.runOn p (fun d => d.pdelayRespRx p o m)
/-- SYNC_TX_TIMER. -/
def execSyncTxTimer (p : Plane) (tb : Tb) (o : LinePort) (s : State) : Res := s.runOn p (fun d => d.syncTx p tb o)
/-- ANNOUNCE_TX_TIMER. -/
def execAnnounceTxTimer (p : Plane) (tb : Tb) (o : LinePort) (s : State) : Res := s.runOn p (fun d => d.announceTx p tb o)
/-- PDELAY_REQ_TIMER. -/
def execPdelayReqTimer (p : Plane) (o : LinePort) (s : State) : Res := s.runOn p (fun d => d.pdelayTx p o)
/-- LINK_DELAY_EXPIRY. -/
def execLinkDelayExpiry (p : Plane) (o : LinePort) (s : State) : Res := s.runOn p (fun d => d.delayExpired p o)
/-- HOLDOVER_TIMEOUT. -/
def execHoldoverTimeout (p : Plane) (tb : Tb) (s : State) : Res := s.runOn p (fun d => d.tbTimeout p tb)
/-- STANDBY_DIFF_READ. -/
def execStandbyDiffRead (p : Plane) (tb : Tb) (s : State) : Res := s.runOn p (fun d => d.standbyRead p tb)
/-- TB_ENABLE_WRITE. -/
def execTbEnableWrite (p : Plane) (tb : Tb) (v : Byte) (rq : Req) (s : State) : Res :=
  s.run (fun d => d.request rq (fun d => d.doWrite rq ⟨⟨.tbEnable, p, tb⟩, 1, v.toNat⟩ (fun _ => true) (fun d =>
    let r := d.store .tbEnable p tb v.toNat
    if r.2 then (r.1.tbEnableTo p tb v.toNat, true) else r)))
/-- TB_TIME_WRITE. -/
def execTbTimeWrite (p : Plane) (tb : Tb) (v : BitVec 80) (rq : Req) (s : State) : Res :=
  s.run (fun d => d.request rq (fun d => d.doWrite rq ⟨⟨.tbTime, p, tb⟩, 10, v.toNat⟩ (fun _ => true) (fun d =>
    (d.tbTimeTo p tb (unpackTime v.toNat), true))))
/-- TB_SWITCH_TO_STANDBY: refused unless the standby is LOCKED and is not followed already (R348). -/
def execTbSwitchToStandby (p : Plane) (tb : Tb) (rq : Req) (s : State) : Res :=
  s.run (fun d => d.command rq ⟨.tbSwitchCmd, p, tb⟩ 1 (fun d =>
    if d.standbyLocked p tb && d.get .tbSource p tb = 0 then (d.switchover p tb).set .tbSwitchCmd p tb 2
    else d.set .tbSwitchCmd p tb 3))
/-- TB_RETURN: accepted while the last 8 own samples lie within the lock threshold (R349). -/
def execTbReturn (p : Plane) (tb : Tb) (rq : Req) (s : State) : Res :=
  s.run (fun d => d.command rq ⟨.tbSwitchCmd, p, tb⟩ 2 (fun d =>
    let own := (d.tb p tb).own
    if d.get .tbSource p tb = 1 && own.length = 8 && own.all (fun x => x.natAbs ≤ d.get .lockThresholdNs p tb * 65536) then
      ((d.setTb p tb { d.tb p tb with own := [] }).set .tbSource p tb 0).set .tbSwitchCmd p tb 2
    else d.set .tbSwitchCmd p tb 3))
/-- SNAPSHOT_LATCH: the plane's time base first reads at or after the instant (R351). -/
def execSnapshotLatch (p : Plane) (s : State) : Res := s.runOn p (fun d => d.snapPlane p false)

end Sys2Proof.Machine
end

