-- ==== Sys2Proof/Machine/Tenants.lean ====
section
/-! DEFINITION. Tenant contexts (spec/16_tenants_and_isolation.md R356 to R363). -/

namespace Sys2Proof.Machine

/-- `tn_cmd` of tenant t on plane p. -/
def tnTarget (p t : Nat) : Target := ⟨.tnCmd, p, t⟩

/-- A write to `tn_cmd`: refused for the system tenant (R358); the action answers false where the journal fails. -/
def Device.tnCommand (d : Device) (rq : Req) (p t v : Nat) (act : Device → Device × Bool) : Device :=
  d.request rq (fun d => d.doWrite rq ⟨tnTarget p t, 1, v⟩ (fun _ => t ≠ 0) act)

/-- Contexts on a plane. -/
def Device.contexts (d : Device) (p : Nat) : Nat := d.countOf .tnState p (· ≠ 0)

/-- Journal a context's new state with other values and apply them as one change (R360, R389). -/
def Device.tnJournal (d : Device) (p t st : Nat) (vals : List (Key × Nat)) : Device × Bool :=
  let r := d.journal ((⟨.tnState, p, t⟩, st) :: vals)
  if r.2 then (vals.foldl (fun d e => d.set e.1.obj e.1.plane e.1.idx e.2) (r.1.set .tnState p t st), true) else (r.1, false)

/-- `tn_cmd` 0x01 (R360). -/
def Device.tnCreate (d : Device) (p t : Nat) : Device × Bool :=
  if d.hasTenant p t || d.contexts p ≥ 1024 then (d.set .tnCmd p t 3, true)
  else
    let r := d.tnJournal p t 1 []
    (if r.2 then r.1.set .tnCmd p t 2 else r.1, r.2)

/-- Slots of a tenant that are RUNNING or REWINDING. -/
def Device.tnRunning (d : Device) (p t : Nat) : List Nat := (d.activeSlots p).filter (fun sl => d.get .slotTenant p sl = t)

/-- `tn_cmd` 0x02 (R361): the tenant's running slots are stopped as by `slot_cmd` 0x03. -/
def Device.tnSuspend (d : Device) (p t : Nat) : Device × Bool :=
  if d.get .tnState p t ≠ 1 then (d.set .tnCmd p t 3, true)
  else
    let r := d.tnJournal p t 2 []
    if !r.2 then r
    else
      let d := (r.1.tnRunning p t).foldl (fun d sl => d.failSlot p sl 4) r.1
      ((d.run p).set .tnCmd p t 1, true)

/-- TENANT_SUSPEND_DONE: every slot has stopped. -/
def Device.tnSuspended (d : Device) (p t : Nat) : Device :=
  if d.get .tnState p t = 2 && d.get .tnCmd p t = 1 && d.tnRunning p t = [] then d.set .tnCmd p t 2 else d

/-- `tn_cmd` 0x03. -/
def Device.tnResume (d : Device) (p t : Nat) : Device × Bool :=
  if d.get .tnState p t ≠ 2 then (d.set .tnCmd p t 3, true)
  else
    let r := d.tnJournal p t 1 []
    (if r.2 then r.1.set .tnCmd p t 2 else r.1, r.2)

/-- Whether something of the tenant exists on the plane that refuses a remove (R362). -/
def Device.tnInUse (d : Device) (p t : Nat) : Bool :=
  let some_ (o : Obj) (f : Nat → Bool) : Bool := d.regs.any (fun e => e.1.obj = o && e.1.plane = p && f e.2)
  some_ .tenantBind (· = t) || some_ .slotTenant (· = t) || some_ .cctxTenant (· = t) ||
    some_ .grpDesc (fun v => fld v 52 12 = t) || some_ .grpDescActive (fun v => fld v 52 12 = t) ||
    d.regs.any (fun e => e.1.obj = .rgnDesc && e.1.plane = p && fld e.2 52 12 = t && d.get .rgnState p e.1.idx ≠ 0) ||
    some_ .tribDesc (fun v => !bit v 30 && fld v 10 12 = t) ||
    (d.master p t).inForce.isSome || (d.master p t).pending.isSome

/-- Whether a register is one of the tenant's RWP parameters on the plane: ranges, cell quota, pool quotas, shapers. -/
def Key.ofTenant (k : Key) (p t : Nat) : Bool :=
  k.plane = p &&
    (([Obj.tnSyncRange, .tnGroupRange, .tnDispRange, .tnCellQuota].contains k.obj && k.idx = t) ||
     (k.obj = .quotaBuffers && k.idx < 0x8000 && k.idx % 4096 = t) ||
     ([Obj.drrQuantum, .cbsIdleMbps, .cbsHiCredit, .cbsLoCredit].contains k.obj && k.idx % 4096 = t))

/-- `tn_cmd` 0x04 (R362): in order, buffers, quotas, synchronisation objects, parameters, the context. -/
def Device.tnRemove (d : Device) (p t : Nat) : Device × Bool :=
  if d.get .tnState p t ≠ 2 || d.tnInUse p t then (d.set .tnCmd p t 3, true)
  else
    let agent := if (List.range 4).all (fun q => q = p || !d.hasTenant q t) then [((⟨.tnAgentFp, 4, t⟩ : Key), 0)] else []
    let mine := (d.regs.filter (fun e => e.1.ofTenant p t)).map (fun e => (e.1, e.1.obj.dflt e.1.idx))
    let range := d.get .tnSyncRange p t
    let r := d.tnJournal p t 0 (mine ++ agent)
    if !r.2 then r
    else
      let d := (List.range 5).foldl (fun d k =>
        d.freeAll p k t (((d.pool p k).owners.filter (fun o => o.2 = t)).map (·.1))) r.1
      let d := { d with flows := d.flows.filter (fun w => !(w.plane = p && w.id.tenant.toNat = t)) }
      let syncs := (d.regs.filter (fun e => (e.1.obj = .syncValue || e.1.obj = .syncSaturatedFlag) && e.1.plane = p &&
        inRange range 16 14 15 e.1.idx)).map (·.1)
      let d := syncs.foldl (fun d k => d.set k.obj p k.idx 0) d
      let d := (List.range 5).foldl (fun d k =>
        (d.set .quotaHighWater p (quotaIdx k t) 0).set .quotaRefused p (quotaIdx k t) 0) d
      let d := ((d.set .tnCellDrop p t 0).set .tnSuspendDrop p t 0)
      (d.set .tnCmd p t 2, true)

/-- A range write (R357): within the plane, apart from other tenants' ranges, no slot of the tenant running. -/
def Device.tnRangeOk (d : Device) (o : Obj) (p t v : Nat) : Bool :=
  let s := if o = .tnSyncRange then (14, 15, 16384) else if o = .tnGroupRange then (12, 13, 4096) else (11, 12, 2048)
  let lo := fld v 16 s.1
  let n := fld v 0 s.2.1
  d.hasTenant p t && n ≤ s.2.2 && lo + n ≤ s.2.2 && d.tnRunning p t = [] &&
    !d.regs.any (fun e => e.1.obj = o && e.1.plane = p && e.1.idx ≠ t &&
      (let a := fld e.2 16 s.1; let m := fld e.2 0 s.2.1; 0 < n && 0 < m && lo < a + m && a < lo + n))

/-! ### Commands -/

/-- TENANT_CREATE. -/
def execTenantCreate (p : Plane) (t : Tenant) (rq : Req) (s : State) : Res := s.run (fun d => d.tnCommand rq p t 1 (·.tnCreate p t))
/-- TENANT_SUSPEND. -/
def execTenantSuspend (p : Plane) (t : Tenant) (rq : Req) (s : State) : Res := s.run (fun d => d.tnCommand rq p t 2 (·.tnSuspend p t))
/-- TENANT_SUSPEND_DONE. -/
def execTenantSuspendDone (p : Plane) (t : Tenant) (s : State) : Res := s.runOn p (fun d => d.tnSuspended p t)
/-- TENANT_RESUME. -/
def execTenantResume (p : Plane) (t : Tenant) (rq : Req) (s : State) : Res := s.run (fun d => d.tnCommand rq p t 3 (·.tnResume p t))
/-- TENANT_REMOVE. -/
def execTenantRemove (p : Plane) (t : Tenant) (rq : Req) (s : State) : Res := s.run (fun d => d.tnCommand rq p t 4 (·.tnRemove p t))

end Sys2Proof.Machine
end

