-- ==== Sys2Proof/Machine/Fence.lean ====
section
/-! DEFINITION. Partitions, fences and the liveness of hub, planes and fault manager (spec/02_system_placement.md R31 to R36,
spec/01_architecture.md R19, spec/18_interrupts_and_events.md R401). -/

namespace Sys2Proof.Machine

/-! ### Fences (R35, R36) -/

/-- The fabric ports of the partition in `fence_partition`. -/
def Device.fenceFabric (d : Device) (p : Nat) : List Nat :=
  (List.range 128).filter (fun n => d.get .portPartition p n = d.get .fencePartition p 0)

/-- Its long-haul ports. -/
def Device.fenceLh (d : Device) (p : Nat) : List Nat :=
  (List.range 4).filter (fun l => d.get .lhPortPartition p l = d.get .fencePartition p 0)

/-- Store the fence bits, journalled. -/
def Device.storeFences (d : Device) (p : Nat) : Device :=
  (d.journal [(⟨.fencedFabricLo, p, 0⟩, d.fencedFrom p 0), (⟨.fencedFabricHi, p, 0⟩, d.fencedFrom p 64),
    (⟨.fencedLongHaul, p, 0⟩, d.get .fencedLongHaul p 0)]).1

/-- A fabric port is fenced: its circuit is removed, frames queued for it are discarded and counted, its transmitter goes dark. -/
def Device.fencePort (d : Device) (p n : Nat) : Device :=
  let d := d.removeCircuit p n true
  let d := d.setPort p n { d.port p n with fenced := true }
  d.leavePort p n 6

/-- A long-haul port is fenced: it sends nothing, its module's transmitter is disabled over CMIS. -/
def Device.fenceLink (d : Device) (p l : Nat) : Device :=
  let d := d.set .fencedLongHaul p 0 (setBit (d.get .fencedLongHaul p 0) l)
  (((d.flushOut p (128 + 4 * l)).goOof p l false).lhRefresh p l).emit (.cmis p (16 + l) false)

/-- `fence_cmd` 0x01; while a fence or unfence is in progress on the plane it is refused (R36). -/
def Device.fence (d : Device) (p : Nat) : Device :=
  if (d.plane p).fenceBusy then d.set .fenceCmd p 0 3
  else
    let d := (d.fenceFabric p).foldl (fun d n => d.fencePort p n) d
    let d := (d.fenceLh p).foldl (fun d l => d.fenceLink p l) d
    let d := d.storeFences p
    (d.setPlane p { d.plane p with fenceBusy := true }).set .fenceCmd p 0 1

/-- FENCE_COMPLETE: every transmitter is dark and the modules report so. -/
def Device.fenceDone (d : Device) (p : Nat) : Device :=
  if (d.plane p).fenceBusy then (d.setPlane p { d.plane p with fenceBusy := false }).set .fenceCmd p 0 2 else d

/-- `fence_cmd` 0x02: the ports return to link training (R36). -/
def Device.unfence (d : Device) (p : Nat) : Device :=
  if (d.plane p).fenceBusy then d.set .fenceCmd p 0 3
  else
    let d := (d.fenceFabric p).foldl (fun d n =>
      if (d.port p n).fenced then (d.setPort p n { d.port p n with fenced := false }).setPortState p n 0 else d) d
    let d := (d.fenceLh p).foldl (fun d l =>
      if bit (d.get .fencedLongHaul p 0) l then
        ((d.set .fencedLongHaul p 0 (clrBit (d.get .fencedLongHaul p 0) l)).lhRefresh p l).emit (.cmis p (16 + l) true)
      else d) d
    (d.storeFences p).set .fenceCmd p 0 2

/-! ### Hub loss and return (R19, R401, R413, R444) -/

/-- A plane that waits for the hub may initialise now (R444). -/
def Device.endWait (d : Device) (p : Nat) : Device :=
  if (d.plane p).cond = .waiting then
    let d := d.setPlane p { d.plane p with cond := .inReset }
    if (d.plane p).clockLost then d else d.setStage p 1
  else d

/-- The hub answers the plane again: kept event records go out, the plane passes its unlogged retirements. -/
def Device.hubReturn (d : Device) (p : Nat) : Device :=
  if !d.hub.running then d
  else
    let d := { d with hub.silent := false }
    let d := d.setPlane p { d.plane p with hubSilent := false, notAnswering := false }
    ((d.flushEvents.passEntries p).endWait p).reviewReasons

/-- The plane's part of a snapshot is absent from now on. -/
def Device.snapAbsent (d : Device) (p : Nat) : Device :=
  if d.snap.armed && d.snap.wait.contains p then (d.snapTake p 4).snapClose else d

/-! ### Commands -/

/-- HUB_LOSS: the hub has not answered for 100 ms; the plane goes on and raises hub loss (R19). -/
def execHubLoss (p : Plane) (s : State) : Res :=
  s.run (fun d => ({ d with hub.silent := true }.setPlane p { d.plane p with hubSilent := true }).latch p 11 0 0)
/-- HUB_RETURN. -/
def execHubReturn (p : Plane) (s : State) : Res := s.run (fun d => d.hubReturn p)
/-- PLANE_NOT_ANSWERING. -/
def execPlaneNotAnswering (p : Plane) (s : State) : Res :=
  s.run (fun d => ((d.setPlane p { d.plane p with notAnswering := true }).causeHub 1 p).snapAbsent p)
/-- FM_TIMEOUT: no other behaviour changes (R31). -/
def execFmTimeout (s : State) : Res :=
  s.run (fun d => if d.hubUp then { d with hub.fmPresent := false }.causeHub 0 0 else d)
/-- FENCE. -/
def execFence (p : Plane) (rq : Req) (s : State) : Res := s.run (fun d => d.commandNow rq ⟨.fenceCmd, p, 0⟩ 1 (·.fence p))
/-- UNFENCE. -/
def execUnfence (p : Plane) (rq : Req) (s : State) : Res := s.run (fun d => d.commandNow rq ⟨.fenceCmd, p, 0⟩ 2 (·.unfence p))
/-- FENCE_COMPLETE. -/
def execFenceComplete (p : Plane) (s : State) : Res := s.run (fun d => d.fenceDone p)

end Sys2Proof.Machine
end

