-- ==== Sys2Proof/Machine/Irq.lean ====
section
/-! DEFINITION. Clearing causes and the event services (spec/18_interrupts_and_events.md R400, R405, R406). -/

namespace Sys2Proof.Machine

/-- The place of the `cause` register of a cause object. -/
def causeTarget (idx : Nat) : Option Target :=
  match causeAt idx 1 with
  | some (p, i, _) => some ⟨.cause, p, i⟩
  | none =>
    match causeAt idx 0x1A with
    | some (p, i, _) => some ⟨.cause, p, i⟩
    | none => none

/-- A write to `cause` (R400). -/
def Device.causeWrite (d : Device) (rq : Req) (idx v : Nat) : Device × Resp :=
  match causeTarget idx with
  | none => (d, statusResp rq 0x0201)
  | some t => d.doWrite rq ⟨t, 4, v⟩ (fun _ => true) (fun d => (d.clearCause t.plane t.inst v, true))

/-- An event service (R405): the mailbox offers none, so there the service does not exist; a tenant agent is refused. -/
def Device.eventService (d : Device) (rq : Req) (f : Device → Device × Resp) : Device :=
  d.request rq (fun d =>
    if rq.ses = 0 then (d, statusResp rq 0x0101)
    else if !d.holds rq.ses.val 0xF then (d, statusResp rq 0x0203)
    else f d)

/-- The 8 filters of a session. -/
def SessionSt.eight (s : SessionSt) : List (Option (Nat × Nat)) := (List.range 8).map (fun k => s.filters.getD k none)

/-- SUBSCRIBE: the first free filter takes the cause object and mask; a ninth filter is refused. -/
def Device.subscribe (d : Device) (rq : Req) (idx mask : Nat) : Device × Resp :=
  let s := d.session rq.ses.val
  if idx ≠ 0 && (causeTarget idx).isNone then (d, statusResp rq 0x0201)
  else
    match (List.range 8).find? (fun k => (s.eight.getD k none).isNone) with
    | none => (d, statusResp rq 0x0303)
    | some k =>
      (d.setSession rq.ses.val { s with filters := s.eight.set k (some (idx, mask)) },
        { statusResp rq 0 with typ := 0x02, value := natToBytes 1 k })

/-- UNSUBSCRIBE. -/
def Device.unsubscribe (d : Device) (rq : Req) (k : Nat) : Device × Resp :=
  let s := d.session rq.ses.val
  if k < 8 && (s.eight.getD k none).isSome then
    (d.setSession rq.ses.val { s with filters := s.eight.set k none }, statusResp rq 0)
  else (d, statusResp rq 0x0303)

/-- SEQ of a record. -/
def recordSeq (r : BitVec 256) : Nat := (r.extractLsb' 48 32).toNat

/-- EVENT_ACK: records up to the given SEQ are no longer held. -/
def Device.eventAck (d : Device) (rq : Req) (seq : Nat) : Device × Resp :=
  let s := d.session rq.ses.val
  (d.setSession rq.ses.val { s with events := s.events.filter (fun r => (seq + 2 ^ 32 - recordSeq r) % 2 ^ 32 ≥ 2 ^ 31) },
    statusResp rq 0)

/-- EVENT_RESEND_TIMER: every live session is sent its unacknowledged records again, 32 to a message. -/
def Device.eventResend (d : Device) : Device :=
  if !d.hubUp then d
  else
    (List.range 17).foldl (fun d s =>
      let st := d.session s
      if st.isOpen then
        (List.range (ceilDiv st.events.length 32)).foldl (fun d k => d.emit (.event s ((st.events.drop (32 * k)).take 32))) d
      else d) d

/-! ### Commands -/

/-- CAUSE_CLEAR. -/
def execCauseClear (rq : Req) (idx : BitVec 16) (v : BitVec 32) (s : State) : Res :=
  s.run (fun d => d.request rq (fun d => d.causeWrite rq idx.toNat v.toNat))
/-- SUBSCRIBE. -/
def execSubscribe (rq : Req) (idx : BitVec 16) (mask : BitVec 32) (s : State) : Res :=
  s.run (fun d => d.eventService rq (fun d => d.subscribe rq idx.toNat mask.toNat))
/-- UNSUBSCRIBE. -/
def execUnsubscribe (rq : Req) (flt : Byte) (s : State) : Res :=
  s.run (fun d => d.eventService rq (fun d => d.unsubscribe rq flt.toNat))
/-- EVENT_ACK. -/
def execEventAck (rq : Req) (seq : BitVec 32) (s : State) : Res :=
  s.run (fun d => d.eventService rq (fun d => d.eventAck rq seq.toNat))
/-- EVENT_RESEND_TIMER. -/
def execEventResendTimer (s : State) : Res := s.run (fun d => d.eventResend)

end Sys2Proof.Machine
end

