-- ==== Sys2Proof/Machine/Init.lean ====
section
/-! DEFINITION. What a reset clears, how the journal is loaded, and plane initialisation
(spec/20_clocking_reset_and_bring_up.md Table 20.2, Table 20.5, Table 20.6; spec/17 R390; spec/19 R413, R414; spec/05 R92, R93;
spec/12 R288). -/

namespace Sys2Proof.Machine

/-! ### Tables of a plane -/

/-- Entries of a per-plane table without those of plane p. -/
def lessPlane {β : Type} (p : Nat) (l : List (Ix × β)) : List (Ix × β) := l.filter (fun e => e.1.1 ≠ p)

/-- The objects that stand under a plane's index in the hub: partitions and fences (spec/02). -/
def Obj.hubHeld (o : Obj) : Bool :=
  match o.info.space with
  | .partF => true
  | .partL => true
  | .hubPlane => true
  | _ => false

/-- Whether a register is one of plane p's own. -/
def Key.ofPlane (k : Key) (p : Nat) : Bool :=
  k.plane = p && (!k.obj.hubHeld || k.obj = .fencePartition || k.obj = .fenceCmd)

/-- Registers that report contexts, links and keys which end with an initialisation, and the counters of tenant contexts, which
return to 0 (spec/16 R360). -/
def endedObjs : List Obj :=
  [.rctxDesc, .rctxTenant, .rctxSeed, .rctxState, .rctxStatus, .rctxAttempt, .rctxAnchorNow, .rctxBlocksDone, .accFreeElements,
   .slotState,
   .slotStatus, .slotStepNow, .slotLaunchNo, .slotGen, .cctxState, .cctxResBuffers, .cctxProjBuffers, .lhBundle, .lhSkewNs,
   .lhRdiRx, .apsLocalReq, .apsRemoteReq, .apsBridge, .apsSelect, .tribTxNext, .tribRxExpected, .keyEpochRx, .rekeyState,
   .tnCellDrop, .tnSuspendDrop]

/-- Traffic, contexts, pools and keys of a plane are gone: what an initialisation does not keep in any case. Of a region only its
tier-2 contents stay (R288). -/
def Device.dropTraffic (d : Device) (p : Nat) : Device :=
  { d with
    regs := d.regs.filter (fun e => !(e.1.plane = p && endedObjs.contains e.1.obj))
    sat := d.sat.filter (fun k => !(k.plane = p && endedObjs.contains k.obj))
    inbox := d.inbox.filter (fun e => e.1 ≠ p)
    frames := lessPlane p d.frames
    copies := lessPlane p d.copies
    flows := d.flows.filter (fun w => w.plane ≠ p)
    waitIn := d.waitIn.filter (fun w => w.plane ≠ p)
    spray := lessPlane p d.spray
    lfsr := lessPlane p d.lfsr
    outs := d.outs.map (fun e => if e.1.1 = p then
      (e.1, { e.2 with lists := [], turns := [], promo := none, promoted := [], noSpool := [] }) else e)
    pools := lessPlane p d.pools
    tqs := lessPlane p d.tqs
    rctxs := lessPlane p d.rctxs
    slots := lessPlane p d.slots
    notifies := d.notifies.filter (fun n => n.plane ≠ p)
    cctxs := lessPlane p d.cctxs
    tethers := lessPlane p d.tethers
    tribs := lessPlane p d.tribs
    masters := lessPlane p d.masters
    tkeys := lessPlane p d.tkeys
    keys := lessPlane p d.keys
    rgns := d.rgns.map (fun e => if e.1.1 = p then (e.1, { ({} : RgnSt) with t2 := e.2.t2 }) else e)
    copiesSc := lessPlane p d.copiesSc }

/-- State of units and their faults: what the retirement log is applied to afresh. -/
def Device.dropUnits (d : Device) (p : Nat) : Device :=
  let objs : List Obj := [.hfChanState, .portLaneRetired, .kiteState, .kiteStandIn, .spareInUse, .reducerState, .spareLanesUsed,
    .redLaneRetired, .mxTileRetired, .mxSpareInUse, .mxTilesInService, .cipherTxRetired, .cipherRxRetired]
  { d with
    regs := d.regs.filter (fun e => !(e.1.plane = p && (objs.contains e.1.obj || (e.1.obj = .ringState && e.2 = 4))))
    rows := lessPlane p d.rows
    stands := lessPlane p d.stands
    bists := lessPlane p d.bists
    ports := d.ports.map (fun e => if e.1.1 = p then
      (e.1, { e.2 with holdDown := clrBit (clrBit e.2.holdDown 2) 4 }) else e) }

/-- PLANE_RST_N, or the plane's part of PORESET_N (Table 20.2): RW objects, command status and counters at their defaults,
everything volatile gone. The plane then is in reset; it waits where the hub does not answer (R444). What the hub keeps about the
plane stays, with the entries of the retirement log that wait (assumption log 21). -/
def Device.clearPlane (d : Device) (p : Nat) : Device :=
  let s := d.plane p
  let d := (d.snapAbsent p).dropTraffic p
  let d := { d with
    regs := d.regs.filter (fun e => !e.1.ofPlane p)
    sat := d.sat.filter (fun k => !k.ofPlane p)
    domains := d.domains.filter (fun e => !e.1.ofPlane p)
    ports := lessPlane p d.ports
    rows := lessPlane p d.rows
    lfsr := lessPlane p d.lfsr
    outs := lessPlane p d.outs
    tbs := lessPlane p d.tbs
    pds := lessPlane p d.pds
    chans := lessPlane p d.chans
    cals := lessPlane p d.cals
    links := lessPlane p d.links
    bists := lessPlane p d.bists
    stands := lessPlane p d.stands
    mons := lessPlane p d.mons }
  d.setPlane p { cond := if d.hubUp then .inReset else .waiting, hubSilent := s.hubSilent, notAnswering := s.notAnswering,
                 releasedAt := d.clock, unlogged := s.unlogged, clockLost := s.clockLost,
                 fuseFull := s.fuseFull }

/-! ### Loading the journal (R390, R18) -/

/-- Apply one journalled value. Records kept as one number (a gate list, the retirement log, a wrapped master, a certificate) are
read back; whether a region is loaded is settled after tier 2 has been read. -/
def Device.loadValue (d : Device) (e : Key × Nat) : Device :=
  let p := e.1.plane
  let i := e.1.idx
  match e.1.obj with
  | .retireLog => { d with hub.retireLog := logOf e.2 }
  | .caCert => d.setDomain .caCert 4 0 (if e.2 = 0 then [] else natToBytes (Nat.log2 e.2 / 8) e.2)
  | .gclCommitCmd => d.loadPage p i (GatePage.ofValue e.2)
  | .masterWrapped =>
    d.setMaster p i { inForce := if e.2 = 0 then none else kwUnwrap (Config.deviceKey p).toNat (e.2 % 2 ^ 320) }
  | .fencedFabricLo => (List.range 64).foldl (fun d n => d.setPort p n { d.port p n with fenced := bit e.2 n }) d
  | .fencedFabricHi => (List.range 64).foldl (fun d n => d.setPort p (64 + n) { d.port p (64 + n) with fenced := bit e.2 n }) d
  | .rgnState => d
  | .resetReason => d
  | o => d.set o p i e.2

/-- Apply the committed records in SEQ order, for the registers chosen. -/
def Device.loadJournal (d : Device) (f : Key → Bool) : Device :=
  d.hub.jnl.foldl (fun d r => (r.vals.filter (fun e => f e.1)).foldl (fun d e => d.loadValue e) d) d

/-! ### The retirement log is reapplied (R413) -/

/-- Put a retired channel out of use without a test, log entry or cause. -/
def Device.reapply (d : Device) (p ch : Nat) : Device :=
  let code := chanCode ch
  let i := chanIdx ch
  let d := d.setChanState p ch 4
  if code = 1 then
    let n := i / 4
    let d := d.set .portLaneRetired p n (setBit (d.get .portLaneRetired p n) (i % 4))
    let d := [0, 1].foldl (fun d dir => d.set .ringState p (n / 32 * 256 + n % 32 * 8 + dir * 4 + i % 4) 4) d
    if (bitsOf 4 (d.get .portLaneRetired p n)).length ≥ 2 then d.setPort p n { d.port p n with holdDown := setBit (d.port p n).holdDown 2 }
    else d
  else if code = 2 then d.setPort p i { d.port p i with holdDown := setBit (d.port p i).holdDown 2 }
  else if code = 3 then
    let r := i / 21
    let k := i % 21
    let d := d.setKiteState p r k 4
    if k < 20 && d.kiteState p r 20 = 2 then
      ((d.setRow p r { col := some k, connected := true }).setKiteState p r 20 1).standIn p r (some k)
    else d
  else if 4 ≤ code && code ≤ 6 then
    let g := (unitOf ch).1
    let u := (unitOf ch).2
    let d := d.refreshGroup p g
    if grpUnits g ≤ u then d
    else
      match d.freeSpare p g with
      | some s => (d.setStands p g ((u, s) :: d.standsOf p g)).refreshGroup p g
      | none => if code = 4 then d.set .reducerState p (g % 4096) 1 else d
  else d

/-- Reapply the plane's own entries, spares before the units that need them; fused repairs show in their units' state. A retired
plane stays retired. -/
def Device.reapplyLog (d : Device) (p : Nat) : Device :=
  let own := d.hub.retireLog.filter (fun e => e.plane = p)
  let gone := ((own.filter (fun e => e.kind = 1)).map (·.chan)).dedup
  let spare := fun ch =>
    if chanCode ch = 3 then chanIdx ch % 21 = 20 else (4 ≤ chanCode ch && chanCode ch ≤ 6 && grpUnits (unitOf ch).1 ≤ (unitOf ch).2)
  let d := ((gone.filter spare) ++ gone.filter (fun ch => !spare ch)).foldl (fun d ch => d.reapply p ch) d
  let d := (own.filter (fun e => e.kind = 3)).foldl (fun d e =>
    if d.chanState p e.chan = 0 then d.setChanState p e.chan 5 else d) d
  let d := (List.range 4).foldl (fun d c => d.reviewChiplet p c) d
  if d.retired p (chan 10 0) then (d.setChanState p (chan 10 0) 0).retirePlane p 0 else d

/-! ### Tier 1 (R91, R92, R414) -/

/-- Pseudo-channels retired. -/
def Device.hbmRetired (d : Device) (p : Nat) : Nat :=
  ((List.range 64).filter (fun k => d.retired p (chan 7 k))).length

/-- HBM capacity in whole GiB: 72 GiB less 1.125 GiB for each retired pseudo-channel (R414). -/
def Device.hbmGib (d : Device) (p : Nat) : Nat := (64 - d.hbmRetired p) * 9 / 8

/-- A pool's pending size is reduced by up to `x` GiB, journalled; what remains of the excess. -/
def Device.shrinkPool (d : Device) (p pool x : Nat) : Device × Nat :=
  let v := d.get .poolSizeGib p pool
  let n := min v x
  if n = 0 then (d, x) else (d.setJ .poolSizeGib p pool (v - n), x - n)

/-- In a pool whose quotas break R99 every tenant quota is set to 0, journalled (R414). -/
def Device.dropQuotas (d : Device) (p pool : Nat) : Device :=
  let g := d.get .poolSizeGib p pool
  if d.poolReserved p pool g ≤ poolCount pool g then d
  else
    let ks := (d.regs.filter (fun e => e.1.obj = .quotaBuffers && e.1.plane = p && e.1.idx / 4096 = pool)).map (fun e => (e.1, 0))
    let r := d.journal ks
    if r.2 then ks.foldl (fun d k => d.set k.1.obj p k.1.idx 0) r.1 else r.1

/-- The pending sizes are brought within the capacity less the system region of 1 GiB: the checkpoint pool first, then the
residual pool (R414). -/
def Device.fitPools (d : Device) (p : Nat) : Device :=
  let excess := total ((List.range 5).map (fun k => d.get .poolSizeGib p k)) - (d.hbmGib p - 1)
  if excess = 0 then d
  else
    let a := d.shrinkPool p 4 excess
    let b := a.1.shrinkPool p 2 a.2
    ((b.1.causeMemory p 4 0).dropQuotas p 4).dropQuotas p 2

/-- Tier 1 is laid out with the pending sizes and every buffer free; a spool of 0 GiB raises memory configuration in the gateway
role (R92, R93). -/
def Device.layOut (d : Device) (p : Nat) : Device :=
  let d := (d.set .hbmCapacityGib p 0 (d.hbmGib p)).fitPools p
  let d := (List.range 5).foldl (fun d k => d.layOutPool p k (d.get .poolSizeGib p k)) d
  if d.role p = 1 && d.get .poolSizeGib p 0 = 0 then d.causeMemory p 4 0 else d

/-! ### Initialisation -/

/-- The regions that the journal holds as loaded. -/
def Device.loadedRegions (d : Device) (p : Nat) : List Nat :=
  (List.range 1024).filter (fun g => journalled d.hub.jnl ⟨.rgnState, p, g⟩ = some 1)

/-- The key epoch of an initialisation (spec/11 R262): `key_epoch_hi` + 1, journalled before it is derived; past the last epoch no
key is derived and the key-exhausted cause is raised. -/
def Device.initKeys (d : Device) (p : Nat) : Device :=
  let e := d.get .keyEpochHi p 0 + 1
  if e > 0xFFFF then d.causeCipher p 1 0
  else
    let r := d.startDerive p e false
    if !r.2 then r.1
    else
      let d := r.1.setKeySt p { r.1.keySt p with deriving_ := none }
      (d.deriveAll p e).enterEpoch p e

/-- What both an initialisation after a reset and one within a recovery do, from the journal to the key epoch. -/
def Device.initCommon (d : Device) (p : Nat) (st : InitReport) : Device :=
  let d := ((d.dropTraffic p).loadJournal (fun k => k.plane = p)).closeBypass p
  let d := (d.dropUnits p).reapplyLog p
  -- fence bits before any transmitter (spec/02 R35)
  let d := (List.range 128).foldl (fun d n => if (d.port p n).fenced then d.set .portState p n 6 else d) d
  let d := (d.layOut p).cxlTrained p st.cxlWidth.toNat st.cxlRate.toNat st.cxlGib.toNat
  let d := (d.loadedRegions p).foldl (fun d g => d.recoverRegion p g) d
  d.initKeys p

/-- The outputs take up their gate lists (R114, R115) and the time bases start (R333); lasers are enabled, matrix
rounds are called for on every pair (R309), and cross-talk mode and reserve follow (R300, R301). -/
def Device.initCold (d : Device) (p : Nat) : Device :=
  let d := (List.range 132).foldl (fun d o => if d.get .gclEnable p o = 1 then d.setOutp p o { d.outp p o with enabled := true } else d) d
  let d := (List.range 8).foldl (fun d n =>
    (d.setTb p n { since := d.clock }).set .tbState p n (if d.get .tbEnable p n = 1 then 0 else 4)) d
  (List.range 4).foldl (fun d c =>
    let d := (List.range 4).foldl (fun d e => d.laserOn p c e) d
    ((d.setCal p c { d.cal p c with matrix := allPairs }).applyMode p c).wlRefresh p c) d

/-- The plane takes up its role and device ID (R11, Table 17.12). -/
def Device.adoptRole (d : Device) (p : Nat) : Device :=
  (d.set .planeRoleActive 4 p (d.get .planeRole 4 p)).set .deviceIdActive 4 p (d.get .deviceId 4 0)

/-- A plane with the disabled role stops after the hub stage (R13, R455). -/
def Device.disablePlane (d : Device) (p : Nat) : Device := (d.setPlane p { d.plane p with cond := .disabled }).setStage p 7

/-- PLANE_INIT after a reset or a reference clock return (Table 20.5): refused by none, but held back while the plane is in reset
without its hub or clock. A failure to train retires the plane (Table 20.6). -/
def Device.initAfterReset (d : Device) (p : Nat) (st : InitReport) : Device :=
  let d := d.adoptRole p
  if d.role p = 2 then d.disablePlane p
  else
    let d := d.setPlane p { d.plane p with cond := .running, initAt := d.clock }
    if !st.trained then (d.retirePlane p 0).setStage p 6
    else
      let d := (d.initCommon p st).initCold p
      if (d.plane p).cond = .retired then d.setStage p 6
      else
        let d := (List.range 4).foldl (fun d l => d.lhRefresh p l) d
        (d.setBist p { startAt := d.clock }).setStage p 2

/-- PLANE_INIT within a recovery (Table 19.3): the same but for time bases and lock loops. -/
def Device.initInRecovery (d : Device) (p : Nat) (st : InitReport) : Device :=
  let d := d.adoptRole p
  if d.role p = 2 then (d.clearPlane p).disablePlane p
  else if !st.trained then (d.retirePlane p 0).setStage p 6
  else
    let d := d.initCommon p st
    if (d.plane p).cond = .retired then d
    else
      let d := d.setPlane p { d.plane p with recoveryInit := true, recoverFor := [], initAt := d.clock }
      let d := (List.range 4).foldl (fun d l => d.lhRefresh p l) d
      d.setBist p { startAt := d.clock }

/-- PLANE_INIT. -/
def Device.planeInit (d : Device) (p : Nat) (st : InitReport) : Device :=
  let s := d.plane p
  if !d.hubUp || s.clockLost then d
  else if s.cond = .inReset then d.initAfterReset p st
  else if s.cond = .recovering && !s.recoveryDue && !s.recoveryInit then d.initInRecovery p st
  else d

/-- PLANE_INIT. -/
def execPlaneInit (p : Plane) (st : InitReport) (s : State) : Res := s.run (fun d => d.planeInit p st)

end Sys2Proof.Machine
end

