-- ==== Sys2Proof/Machine/Health.lean ====
section
/-! DEFINITION. Health of a plane: fault events and windows, restore and retirement by command, plane recovery, maintenance, fuses,
self-test, ageing and margins (spec/19_health_faults_and_self_test.md R408 to R431). -/

namespace Sys2Proof.Machine

/-! ### Fault events (R408, R410) -/

/-- Loss of clock recovery lock on a wavelength in use: a fault event of the lane, whose retry retrains the port from FEC_LOCK. -/
def Device.cdrLost (d : Device) (p n w : Nat) : Device :=
  let st := d.get .portState p n
  if bit (d.get .portLaneRetired p n) w || st = 0 || 4 < st || (d.port p n).window then d
  else (d.chanFault p (chan 1 (4 * n + w))).laneRetrain p n

/-- An uncorrectable codeword on a wavelength's FEC lane. -/
def Device.badCodeword (d : Device) (p n w : Nat) : Device :=
  if bit (d.get .portLaneRetired p n) w || d.get .portState p n < 2 || 4 < d.get .portState p n then d
  else (d.bump .fecUncorrectable p n).chanFault p (chan 1 (4 * n + w))

/-- An uncorrectable error of an HBM pseudo-channel: re-read after a scrub write; a failed re-read is permanent. -/
def Device.hbmFault (d : Device) (p pc : Nat) (retryOk : Bool) : Device :=
  let ch := chan 7 pc
  if d.retired p ch then d
  else
    let d := d.chanFault p ch
    if retryOk then d.chanClear p ch else d.retireChannel p ch

/-- An uncorrectable error in plane state that has no spare: its retry is a plane recovery (R415). -/
def Device.stateFault (d : Device) (p : Nat) : Device :=
  let d := d.chanFault p (chan 10 0)
  d.setPlane p { d.plane p with recoveryDue := true }

/-- A link did not rejoin the bundle within 100 ms: its fault is permanent. -/
def Device.rejoinTimeout (d : Device) (p l : Nat) : Device :=
  if (d.chanSt p (chan 8 l)).retry && !d.inBundle p l then d.retireChannel p (chan 8 l) else d

/-! ### Windows (R409, R410) -/

/-- The end of a window of one channel: its count is reported; beyond the threshold in the third window in a row the fault is
permanent. -/
def Device.windowChan (d : Device) (p ch : Nat) : Device :=
  let s := d.chanSt p ch
  let d := (d.setChan p ch { s with count := 0 }).set .hfChanWindow p ch (min s.count 65535)
  match d.threshold p (chanCode ch) with
  | none => d
  | some t =>
    if d.retired p ch then d
    else if s.count > t then
      let o := min 3 (d.get .hfChanOver p ch + 1)
      let d := (d.set .hfChanOver p ch o).causeHealth p 0 ch
      let d := if d.chanState p ch = 0 || d.chanState p ch = 5 then d.setChanState p ch 1 else d
      if o = 3 then d.retireChannel p ch else d
    else
      let d := d.set .hfChanOver p ch 0
      if d.chanState p ch = 1 then d.setChanState p ch (d.inService p ch) else d

/-- HEALTH_WINDOW_END: channels in increasing code, then index (R411). -/
def Device.windowEndAll (d : Device) (p : Nat) : Device :=
  let a := (d.chans.filter (fun e => e.1.1 = p && e.2.count ≠ 0)).map (·.1.2)
  let b := (d.regs.filter (fun e => (e.1.obj = .hfChanWindow || e.1.obj = .hfChanOver) && e.1.plane = p)).map (·.1.idx)
  (sortBy (fun (x y : Nat) => x < y) (a ++ b).dedup).foldl (fun d ch => d.windowChan p ch) d

/-! ### Restore and retirement by command (R412, Table 19.13) -/

/-- A restored channel returns to use. -/
def Device.restoreUnit (d : Device) (p ch : Nat) : Device :=
  let code := chanCode ch
  let i := chanIdx ch
  let d := ((d.setChan p ch {}).set .hfChanOver p ch 0).setChanState p ch (d.inService p ch)
  let d :=
    if code = 1 then
      let n := i / 4
      let d := d.set .portLaneRetired p n (clrBit (d.get .portLaneRetired p n) (i % 4))
      let d := [0, 1].foldl (fun d dir => d.set .ringState p (n / 32 * 256 + n % 32 * 8 + dir * 4 + i % 4) 0) d
      let d := d.makeDue p (n / 32) [n % 32 / 2]
      if 1 ≤ d.get .portState p n && d.get .portState p n ≤ 4 then d.laneRetrain p n else d
    else if code = 2 then
      let c := i / 32
      let d := d.unholdPort p i 2
      if ((List.range 32).filter (fun k => d.retired p (chan 2 (32 * c + k)))).length < 16 then
        (List.range 32).foldl (fun d k => d.unholdPort p (32 * c + k) 4) d
      else d
    else if code = 3 then
      let r := i / 21
      let k := i % 21
      if k = 20 then d.setKiteState p r 20 2
      else if (d.row p r).col = some k then
        ((d.setKiteState p r k 5).setRow p r { d.row p r with returnDue := true }).startReturns p
      else d.setKiteState p r k 0
    else if 4 ≤ code && code ≤ 6 then
      let d := d.returnUnit p (unitOf ch).1 (unitOf ch).2
      if code = 4 then d.set .reducerState p ((unitOf ch).1 % 4096) 0 else d
    else if code = 7 then d.setPlane p { d.plane p with recoverFor := (d.plane p).recoverFor.filter (· ≠ ch) }
    else if code = 8 then d.lhRefresh p i
    else d
  d.reviewReasons

/-- `hf_restore_cmd`: a retired channel, after a passed BIST where it is spared; refused for the plane. -/
def Device.hfRestore (d : Device) (p ses : Nat) (pass : Bool) : Device :=
  let ch := d.sel .hfChanSel p 0 ses
  let code := chanCode ch
  let spared := 3 ≤ code && code ≤ 6
  if !d.live p || code = 10 || !chanOk ch || !d.retired p ch || (spared && !pass) then d.cmdReads ⟨.hfRestoreCmd, p, 0⟩ ses 3
  else (d.restoreUnit p ch).cmdReads ⟨.hfRestoreCmd, p, 0⟩ ses 2

/-- `hf_retire_cmd`. -/
def Device.hfRetire (d : Device) (p ses : Nat) : Device :=
  let ch := d.sel .hfChanSel p 0 ses
  if !d.live p || !chanOk ch then d.cmdReads ⟨.hfRetireCmd, p, 0⟩ ses 3
  else (d.retireChannel p ch).cmdReads ⟨.hfRetireCmd, p, 0⟩ ses 2

/-- The fault event that a channel's detector reports, injected. -/
def Device.injectFault (d : Device) (p ch : Nat) : Device :=
  let i := chanIdx ch
  let code := chanCode ch
  if code = 1 then (d.bump .fecUncorrectable p (i / 4)).chanFault p ch
  else if code = 2 then
    if d.get .portState p i = 4 then (d.portFault p i).retrain p i else d.chanFault p ch
  else if code = 3 then
    if i % 21 = 20 then d.spareKiteFault p (i / 21) else d.kiteFault p (i / 21) (i % 21)
  else if code = 4 then d.laneFault p (i / 68) (i % 68)
  else if code = 5 then d.tileFault p i
  else if code = 6 then d.cipherFault p (i / 17) (i % 17)
  else if code = 7 then d.hbmFault p i true
  else if code = 8 then if d.inBundle p i then d.goOof p i true else d.chanFault p ch
  else if (d.bypPartner p i).isSome then d.pathCheck p i false
  else (d.chanFault p ch).chanClear p ch

/-- `diag_inject_cmd`: refused for the plane's channel, and for kites and pseudo-channels outside maintenance. -/
def Device.diagInject (d : Device) (ses : Nat) : Device :=
  let p := d.get .diagPlane 4 0
  let ch := d.sel .diagChanSel 4 0 ses
  let code := chanCode ch
  let maint := decide ((d.plane p).cond = .maintenance)
  if !d.live p || !chanOk ch || code = 10 || ((code = 3 || code = 7) && !maint) then d.set .diagInjectCmd 4 0 3
  else ((d.bump .diagInjected 4 0).injectFault p ch).set .diagInjectCmd 4 0 2

/-! ### Plane recovery (R415, R417) -/

/-- Commands that an initialisation cuts off read refused; a scrub ends with the pools laid out anew. -/
def Device.endWork (d : Device) (p : Nat) : Device :=
  let cut : List Obj := [.rgnCmd, .tsiCommitCmd, .rekeyCmd, .slotCmd, .rctxAbortCmd, .poolScrubCmd]
  let ks := (d.regs.filter (fun e => e.1.plane = p && cut.contains e.1.obj && e.2 = 1)).map (·.1)
  let d := ks.foldl (fun d k => d.set k.obj p k.idx (if k.obj = .poolScrubCmd then 2 else 3)) d
  d.setPlane p { d.plane p with scrub := none }

/-- The outputs stop, circuits go, contexts and sessions end, ports are down (Table 19.3). -/
def Device.stopForRecovery (d : Device) (p : Nat) : Device :=
  let d := d.causeHealth p 9 0
  let d := (List.range 4).foldl (fun d c => d.calAbort p c) d
  let d := (d.removeCircuits p).scFail p 0x16
  let d := (List.range 128).foldl (fun d n => d.leavePort p n (if (d.port p n).fenced then 6 else 0)) d
  let d := (List.range 4).foldl (fun d l => d.goOof p l false) d
  ((d.endWork p).dropTraffic p).reforms p

/-- PLANE_RECOVERY_START: a due recovery begins when the hub answers; a fault during one restarts it; the third start within
3,600 s retires the plane. -/
def Device.recoveryStart (d : Device) (p : Nat) : Device :=
  let s := d.plane p
  if !d.hubUp || !s.recoveryDue || !d.live p then d
  else if s.cond = .recovering then
    (d.setPlane p { s with recoveryDue := false, recoveryInit := false }).stopForRecovery p
  else
    let recent := s.recoveries.filter (fun t => d.clock ≤ t + 3600 * 1000000000)
    let d := d.bump .planeRecoveries p 0
    if recent.length ≥ 2 then d.retirePlane p 0
    else
      (d.setPlane p { s with cond := .recovering, recoveryDue := false, recoveryInit := false,
                             recoveries := recent ++ [d.clock] }).stopForRecovery p

/-- A command that waits for the recovery reads its outcome. -/
def Device.recoverReads (d : Device) (p v : Nat) : Device :=
  let d := if d.get .planeRecoverCmd p 0 = 1 then d.set .planeRecoverCmd p 0 v else d
  if d.get .maintCmd p 0 = 1 then d.set .maintCmd p 0 v else d

/-- PLANE_RECOVERY_END: latched, scheduling service as before; the fault of the plane is cleared. -/
def Device.recoveryEnd (d : Device) (p : Nat) : Device :=
  let s := d.plane p
  if s.cond = .recovering && s.recoveryInit && !s.recoveryDue then
    let d := d.setPlane p { s with cond := .running, recoveryInit := false }
    let d := d.chanClear p (chan 10 0)
    let d := (List.range 4).foldl (fun d l => d.lhRefresh p l) d
    (d.causeHealth p 10 0).recoverReads p 2
  else d

/-- RECOVERY_TIMEOUT: not ended within 10 s, the plane is retired. -/
def Device.recoveryTimeout (d : Device) (p : Nat) : Device :=
  if (d.plane p).cond = .recovering then (d.recoverReads p 3).retirePlane p 0 else d

/-- `plane_recover_cmd`. -/
def Device.recoverCmd (d : Device) (p : Nat) : Device :=
  if !d.live p then d.set .planeRecoverCmd p 0 3
  else (d.setPlane p { d.plane p with recoveryDue := true }).set .planeRecoverCmd p 0 1

/-! ### Maintenance and fuses (R424) -/

/-- Whether a plane may enter maintenance. -/
def Device.maintOk (d : Device) (p : Nat) : Bool :=
  (d.plane p).cond = .running && d.activeSlots p = [] &&
    (List.range 128).all (fun n => (d.port p n).fenced || d.get .portAdmin p n = 0) &&
    (List.range 4).all (fun l => bit (d.get .fencedLongHaul p 0) l || d.get .lhAdmin p l = 0)

/-- `maint_cmd` 0x01. -/
def Device.maintEnter (d : Device) (p : Nat) : Device :=
  if d.maintOk p then (d.setPlane p { d.plane p with cond := .maintenance }).set .maintCmd p 0 2 else d.set .maintCmd p 0 3

/-- `maint_cmd` 0x02: by a plane recovery. -/
def Device.maintLeave (d : Device) (p : Nat) : Device :=
  if (d.plane p).cond = .maintenance then (d.setPlane p { d.plane p with recoveryDue := true }).set .maintCmd p 0 1
  else d.set .maintCmd p 0 3

/-- Reason [4] follows the planes whose fuses are full (R428). -/
def Device.fuseReason (d : Device) : Device :=
  d.setReasons (putBit (d.get .replReasons 4 0) 4 ((List.range 4).any (fun p => (d.plane p).fuseFull)))

/-- `fuse_cmd`: every logged soft repair of the plane becomes a fused one. -/
def Device.fuse (d : Device) (p : Nat) (fits : Bool) : Device :=
  if (d.plane p).cond ≠ .maintenance then d.set .fuseCmd p 0 3
  else if !fits then ((d.setPlane p { d.plane p with fuseFull := true }).fuseReason).set .fuseCmd p 0 3
  else
    let d := d.setLog (d.hub.retireLog.map (fun e => if e.plane = p && e.kind = 2 then { e with kind := 3 } else e))
    let d := (d.hub.retireLog.filter (fun e => e.plane = p && e.kind = 3)).foldl (fun d e =>
      if d.chanState p e.chan = 0 then d.setChanState p e.chan 5 else d) d
    d.reviewReasons.set .fuseCmd p 0 2

/-- `diag_full_bist_cmd`: every unit of the plane is tested; those that fail are retired. -/
def Device.fullBist (d : Device) (failed : List Nat) : Device :=
  let p := d.get .diagPlane 4 0
  if (d.plane p).cond ≠ .maintenance then d.set .diagFullBistCmd 4 0 3
  else
    let l := failed.dedup.filter (fun ch => chanOk ch && !d.retired p ch)
    (l.foldl (fun d ch => ((d.bump .bistFailures p 0).causeHealth p 4 ch).retireChannel p ch) d).set .diagFullBistCmd 4 0 2

/-- `retire_clear_cmd`: the plane's soft entries leave the log; units stay retired until its next initialisation (R413). -/
def Device.retireClear (d : Device) : Device :=
  let p := d.get .retireClearPlane 4 0
  let d := d.setLog (d.hub.retireLog.filter (fun e => !(e.plane = p && (e.kind = 1 || e.kind = 2))))
  ((d.setPlane p { d.plane p with fuseFull := false }).fuseReason).set .retireClearCmd 4 0 2

/-! ### Self-test (R419 to R422) -/

/-- The group of a unit of the rotation: the row, or the spared group behind 20 rows. -/
def bistGroup (u : Nat) : Nat := if u < 420 then u / 21 else (unitOf (bistChan u)).1

/-- A unit's group has no spare to lend: it stands in for a fault or a retired unit, is itself out, or the unit is retired. -/
def Device.bistBlocked (d : Device) (p u : Nat) : Bool :=
  let ch := bistChan u
  d.retired p ch ||
    (if u < 420 then
      let r := u / 21
      (d.row p r).col.isSome || d.kiteState p r 20 ≠ 2
    else
      let g := (unitOf ch).1
      d.standsOf p g ≠ [] || (d.freeSpare p g).isNone)

/-- A skipped unit is counted; the suspension is latched once per group and rotation (R422). -/
def Device.bistSkip (d : Device) (p u : Nat) : Device :=
  let s := d.bist p
  let g := bistGroup u
  let d := d.bump .bistSkipped p 0
  let d := if s.suspended.contains g then d
    else (d.setBist p { s with suspended := s.suspended ++ [g] }).causeHealth p 5 (bistChan u)
  d.bistNext p

/-- BIST_UNIT_START: the next unit of the rotation is put under test, its stand-in first; not at OP1 or OP2 (Table 20.4), not with
`bist_enable` 0, not beside another unit. -/
def Device.bistStart (d : Device) (p : Nat) : Device :=
  let s := d.bist p
  let u := d.get .bistRotationPos p 0
  if (d.plane p).cond ≠ .running || d.get .bistEnable p 0 ≠ 1 || d.get .opLevel 4 0 ≠ 0 || s.unit.isSome then d
  else if d.bistBlocked p u then d.bistSkip p u
  else
    let ch := bistChan u
    let take := fun (d : Device) (w : Bool) => (d.setBist p { s with unit := some u, waiting := w, again := false }).setChanState p ch 3
    if u < 420 then
      let r := u / 21
      let k := u % 21
      if k = 20 then (take d false).setKiteState p r 20 5
      else if d.handOverOk p r k then (take d true).handOver p r k true false
      else d
    else
      let g := (unitOf ch).1
      let n := (unitOf ch).2
      if grpUnits g ≤ n then take d false
      else
        match d.freeSpare p g with
        | some x => ((take d false).setStands p g ((n, x) :: d.standsOf p g)).refreshGroup p g
        | none => d

/-- A unit that passed returns to service (R410). -/
def Device.bistReturn (d : Device) (p u : Nat) : Device :=
  let ch := bistChan u
  let d := d.setChanState p ch (d.inService p ch)
  if u < 420 then
    let r := u / 21
    if u % 21 = 20 then d.setKiteState p r 20 2
    else (d.setRow p r { d.row p r with returnDue := true }).startReturns p
  else if grpUnits (unitOf ch).1 ≤ (unitOf ch).2 then d
  else d.returnUnit p (unitOf ch).1 (unitOf ch).2

/-- BIST_UNIT_COMPLETE: the end of the last slice of the unit under test; a soft repair is tested once more (R421). -/
def Device.bistComplete (d : Device) (p : Nat) (r : BistResult) : Device :=
  let s := d.bist p
  match s.unit with
  | none => d
  | some u =>
    if u < 420 && u % 21 < 20 && d.kiteState p (u / 21) (u % 21) ≠ 5 then d
    else
      match r with
      | .pass => ((d.setBist p { s with tested := s.tested + 1 }).bistNext p).bistReturn p u
      | .fail => d.bistFail p u
      | .softRepaired =>
        if s.again then d.bistFail p u
        else
          let d := (d.setBist p { s with again := true, waiting := false }).bump .softRepairs p 0
          (d.logRetire p (bistChan u) 2).causeHealth p 6 (bistChan u)

/-! ### Ageing (R425, R427) -/

/-- Monitors per plane of a kind (Table 19.5). -/
def monCount (kind : Nat) : Nat := nth [0, 96, 512, 48, 64, 4, 64] kind

/-- Whether a `mon_sel` value names a monitor. -/
def monOk (m : Nat) : Bool := m % 4096 < monCount (m / 4096)

/-- A monitor's past. -/
def Device.mon (d : Device) (p m : Nat) : MonSt := Tbl.get d.mons (p, m) {}
/-- Replace it. -/
def Device.setMon (d : Device) (p m : Nat) (v : MonSt) : Device := { d with mons := Tbl.put Ix.lt d.mons (p, m) v {} }

/-- The monitors whose values grow toward their limit: HBM corrected errors. -/
def monRises (m : Nat) : Bool := m / 4096 = 6

/-- The horizon in days of a line fitted by least squares through daily values, oldest first, that falls toward a limit. -/
def fitHorizon (l : List Int) (limit : Int) : Nat :=
  let n : Int := l.length
  if l.length < 7 then 3650
  else
    let xs : List Int := (List.range l.length).map Int.ofNat
    let sx := xs.foldl (· + ·) 0
    let sxx := (xs.map (fun x => x * x)).foldl (· + ·) 0
    let sy := l.foldl (· + ·) 0
    let sxy := ((xs.zip l).map (fun x => x.1 * x.2)).foldl (· + ·) 0
    let dd := n * sxx - sx * sx
    let b := n * sxy - sx * sy
    -- n · dd times the line's height above the limit on the last day
    let above := dd * sy + b * (n * (n - 1) - sx) - n * dd * limit
    if above ≤ 0 || (l.getLastD 0) ≤ limit then 0
    else if b ≥ 0 then 3650
    else min 3650 (above / (n * (-b))).toNat

/-- The horizon of a monitor. -/
def Device.monHorizon (d : Device) (p m : Nat) : Nat :=
  let s := d.mon p m
  let lim : Int := d.monLimit p m
  if monRises m then fitHorizon ((s.days.reverse).map (fun x => -x)) (-lim) else fitHorizon s.days.reverse lim

/-- The worse of two values of a monitor. -/
def worse (m : Nat) (a b : Int) : Int := if monRises m then max a b else min a b

/-- Take a measurement: the day's worst value; the day's end moves it to the past of at most 30 days. -/
def Device.measure (d : Device) (p m : Nat) (v : Int) : Device :=
  if !monOk m then d
  else
    let day := (d.clock - (d.plane p).initAt) / 86400000000000
    let s := d.mon p m
    let s := if s.day = day then s else { s with day := day, today := none, days := (s.today.toList ++ s.days).take 30 }
    let s := { s with today := some (match s.today with | some x => worse m x v | none => v) }
    let d := (d.setMon p m s).set .monValue p m (ofSigned 32 v)
    let lim : Int := d.monLimit p m
    let d := if (if monRises m then decide (lim < v) else decide (v < lim)) then d.causeHealth p 7 m else d
    d.set .monHorizonDays p m (d.monHorizon p m)

/-- The plane's horizon, and at the hub that of the device with reason [0] (R427, R428). -/
def Device.horizons (d : Device) (p : Nat) : Device :=
  let h := ((d.regs.filter (fun e => e.1.obj = .monHorizonDays && e.1.plane = p)).map (·.2)).foldl min 3650
  let d := d.set .planeHorizonDays p 0 h
  let d := if h < 180 then d.causeHealth p 8 0 else d
  if !d.hubUp then d
  else
    let dev := (((List.range 4).filter (fun q => decide ((d.plane q).cond ≠ .retired))).map
      (fun q => d.get .planeHorizonDays q 0)).foldl min 3650
    let d := d.set .deviceHorizonDays 4 0 dev
    let d := if dev < 180 then d.causeReplace 2 0 else d
    d.reviewReasons

/-! ### Margins (R426) -/

/-- The voltage request of an island in mV (R426, R448). -/
def Device.islandMv (d : Device) (p i : Nat) : Nat := Config.islandRequest p i + lookNat (d.plane p).vraise i

/-- Kind 1: 5 mV for each 0.5 % of slack below 5.0 %, within the AVS range. -/
def Device.replanVoltage (d : Device) (p : Nat) : Device :=
  (List.range 96).foldl (fun d i =>
    let v := toSigned 32 (d.get .monValue p (4096 + i))
    if (d.mon p (4096 + i)).today.isNone || v ≥ 500 then d
    else
      let up := 5 * ((500 - v) / 50).toNat
      let s := d.plane p
      let room := 850 - d.islandMv p i
      d.setPlane p { s with vraise := putNat s.vraise i (lookNat s.vraise i + min up room) }) d

/-- Kinds 2 and 3: the equalisers of every measured lane are to be retuned. -/
def Device.replanEyes (d : Device) (p : Nat) : Device :=
  let l := ((d.mons.filter (fun e => e.1.1 = p && (e.1.2 / 4096 = 2 || e.1.2 / 4096 = 3))).map (·.1.2))
  let s := d.plane p
  d.setPlane p { s with retune := (s.retune ++ l).dedup }

/-- Kind 5: the reserve is raised to the largest swing of set points plus 500 µW, at most 4,000 µW. -/
def Device.replanHeaters (d : Device) (p : Nat) : Device :=
  (List.range 4).foldl (fun d c =>
    let s := d.cal p c
    let w := (s.swing.map (fun e => e.2.2 - e.2.1)).foldl max 0
    (d.setCal p c { s with raised := max s.raised (min 4000 (w + 500)), swing := [] }).setReserve p c) d

/-- Kind 6: the scrub interval of a pseudo-channel above 100 corrected errors an hour is halved, down to 1 h. -/
def Device.replanScrub (d : Device) (p : Nat) : Device :=
  (List.range 64).foldl (fun d k =>
    if toSigned 32 (d.get .monValue p (6 * 4096 + k)) > 10000 then
      let s := d.plane p
      let now := match s.scrubHours.find? (fun e => e.1 = k) with | some e => e.2 | none => Config.hbmScrubHours
      d.setPlane p { s with scrubHours := putNat s.scrubHours k (max 1 (now / 2)) }
    else d) d

/-- The plane re-plans its margins. -/
def Device.replan (d : Device) (p : Nat) : Device :=
  let d := (((d.replanVoltage p).replanEyes p).replanHeaters p).replanScrub p
  (d.set .replanLast p 0 (packTime (d.stamp p))).horizons p

/-! ### Commands -/

/-- CLOCK_RECOVERY_LOCK_LOSS. -/
def execClockRecoveryLockLoss (p : Plane) (n : Port) (w : Fin 4) (s : State) : Res := s.runOn p (fun d => d.cdrLost p n w)
/-- UNCORRECTABLE_CODEWORD. -/
def execUncorrectableCodeword (p : Plane) (n : Port) (w : Fin 4) (s : State) : Res := s.runOn p (fun d => d.badCodeword p n w)
/-- LONG_HAUL_REJOIN_TIMEOUT. -/
def execLongHaulRejoinTimeout (p : Plane) (l : Lh) (s : State) : Res := s.runOn p (fun d => d.rejoinTimeout p l)
/-- HEALTH_WINDOW_END. -/
def execHealthWindowEnd (p : Plane) (s : State) : Res := s.runOn p (fun d => d.windowEndAll p)
/-- HBM_FAULT. -/
def execHbmFault (p : Plane) (pc : Fin 64) (retryOk : Bool) (s : State) : Res := s.runOn p (fun d => d.hbmFault p pc retryOk)
/-- PLANE_STATE_FAULT. -/
def execPlaneStateFault (p : Plane) (s : State) : Res := s.runOn p (fun d => d.stateFault p)
/-- DIAG_INJECT. -/
def execDiagInject (rq : Req) (s : State) : Res :=
  s.run (fun d => d.command rq ⟨.diagInjectCmd, 4, 0⟩ 1 (fun d => d.diagInject rq.ses.val))
/-- HF_RESTORE. -/
def execHfRestore (p : Plane) (bistPass : Bool) (rq : Req) (s : State) : Res :=
  s.run (fun d => d.command rq ⟨.hfRestoreCmd, p, 0⟩ 1 (fun d => d.hfRestore p rq.ses.val bistPass))
/-- HF_RETIRE. -/
def execHfRetire (p : Plane) (rq : Req) (s : State) : Res :=
  s.run (fun d => d.command rq ⟨.hfRetireCmd, p, 0⟩ 1 (fun d => d.hfRetire p rq.ses.val))
/-- PLANE_RECOVER_CMD. -/
def execPlaneRecoverCmd (p : Plane) (rq : Req) (s : State) : Res :=
  s.run (fun d => d.command rq ⟨.planeRecoverCmd, p, 0⟩ 1 (fun d => d.recoverCmd p))
/-- PLANE_RECOVERY_START. -/
def execPlaneRecoveryStart (p : Plane) (s : State) : Res := s.runOn p (fun d => d.recoveryStart p)
/-- PLANE_RECOVERY_END. -/
def execPlaneRecoveryEnd (p : Plane) (s : State) : Res := s.runOn p (fun d => d.recoveryEnd p)
/-- RECOVERY_TIMEOUT. -/
def execRecoveryTimeout (p : Plane) (s : State) : Res := s.runOn p (fun d => d.recoveryTimeout p)
/-- MAINT_ENTER. -/
def execMaintEnter (p : Plane) (rq : Req) (s : State) : Res :=
  s.run (fun d => d.command rq ⟨.maintCmd, p, 0⟩ 1 (fun d => d.maintEnter p))
/-- MAINT_LEAVE. -/
def execMaintLeave (p : Plane) (rq : Req) (s : State) : Res :=
  s.run (fun d => d.command rq ⟨.maintCmd, p, 0⟩ 2 (fun d => d.maintLeave p))
/-- FUSE_CMD. -/
def execFuseCmd (p : Plane) (fits : Bool) (rq : Req) (s : State) : Res :=
  s.run (fun d => d.command rq ⟨.fuseCmd, p, 0⟩ 1 (fun d => d.fuse p fits))
/-- FULL_BIST. -/
def execFullBist (failed : List (BitVec 16)) (rq : Req) (s : State) : Res :=
  s.run (fun d => d.command rq ⟨.diagFullBistCmd, 4, 0⟩ 1 (fun d => d.fullBist (failed.map (·.toNat))))
/-- RETIRE_CLEAR. -/
def execRetireClear (rq : Req) (s : State) : Res :=
  s.run (fun d => d.command rq ⟨.retireClearCmd, 4, 0⟩ 1 (fun d => d.retireClear))
/-- REPL_REASON_SET. -/
def execReplReasonSet (rq : Req) (s : State) : Res :=
  s.run (fun d => d.command rq ⟨.replCmd, 4, 0⟩ 1 (fun d => (d.setReasons (setBit (d.get .replReasons 4 0) 3)).set .replCmd 4 0 2))
/-- REPL_REASON_CLEAR. -/
def execReplReasonClear (rq : Req) (s : State) : Res :=
  s.run (fun d => d.command rq ⟨.replCmd, 4, 0⟩ 2 (fun d => (d.setReasons (clrBit (d.get .replReasons 4 0) 3)).set .replCmd 4 0 2))
/-- BIST_UNIT_START. -/
def execBistUnitStart (p : Plane) (s : State) : Res := s.runOn p (fun d => d.bistStart p)
/-- BIST_UNIT_COMPLETE. -/
def execBistUnitComplete (p : Plane) (r : BistResult) (s : State) : Res := s.runOn p (fun d => d.bistComplete p r)
/-- AGEING_MEASURE. -/
def execAgeingMeasure (p : Plane) (vals : List (BitVec 16 × Int)) (s : State) : Res :=
  s.runOn p (fun d => (vals.foldl (fun d v => d.measure p v.1.toNat v.2) d).horizons p)
/-- MARGIN_REPLAN. -/
def execMarginReplan (p : Plane) (s : State) : Res := s.runOn p (fun d => d.replan p)
/-- REPLAN_CMD. -/
def execReplanCmd (p : Plane) (rq : Req) (s : State) : Res :=
  s.run (fun d => d.command rq ⟨.replanCmd, p, 0⟩ 1 (fun d =>
    if d.live p then (d.replan p).set .replanCmd p 0 2 else d.set .replanCmd p 0 3))

end Sys2Proof.Machine
end

