-- ==== Sys2Proof/Machine/Copy.lean ====
section
/-! DEFINITION. Admission by state copy (spec/19_health_faults_and_self_test.md 19.8). -/

namespace Sys2Proof.Machine

/-- The switch port of the state-copy engine (R433). -/
def scSw : Nat := 156

/-! ### The REQUEST (Table 19.8) and the checks of R432 and R434 -/

/-- BKIND of a REQUEST. -/
def rqKind (v : Nat) : Nat := fld v 232 8
/-- BTB. -/
def rqTb (v : Nat) : Nat := fld v 224 8
/-- SYNC_FIRST. -/
def rqSync (v : Nat) : Nat := fld v 208 16
/-- SYNC_COUNT. -/
def rqSyncs (v : Nat) : Nat := fld v 192 16
/-- SLOT_FIRST. -/
def rqSlot (v : Nat) : Nat := fld v 176 16
/-- SLOT_COUNT. -/
def rqSlots (v : Nat) : Nat := fld v 160 16
/-- BOBJ. -/
def rqObj (v : Nat) : Nat := fld v 144 16
/-- BPOINT of a time boundary, in ns. -/
def rqTime (v : Nat) : Nat := unpackTime (fld v 48 80)
/-- BPOINT of an object boundary. -/
def rqValue (v : Nat) : Nat := fld v 64 64

/-- The slots of a REQUEST. -/
def rqSlotList (v : Nat) : List Nat := (List.range (rqSlots v)).map (rqSlot v + ·)

/-- The REQUEST that the session objects describe. -/
def Device.scRequestNow (d : Device) (p : Nat) : Nat :=
  let k := d.get .scBoundaryKind p 0
  let point := if k = 1 then d.get .scBoundaryValue p 0 * 2 ^ 64 else d.get .scBoundaryTime p 0 * 2 ^ 48
  0x01 * 2 ^ 248 + k * 2 ^ 232 + d.get .scBoundaryTb p 0 * 2 ^ 224 + d.get .scSyncFirst p 0 * 2 ^ 208 +
    d.get .scSyncCount p 0 * 2 ^ 192 + d.get .scSlotFirst p 0 * 2 ^ 176 + d.get .scSlotCount p 0 * 2 ^ 160 +
    d.get .scBoundaryObj p 0 * 2 ^ 144 + point

/-- Whether the objects and slots of a REQUEST are the tenant's on this plane. -/
def Device.scRangesOk (d : Device) (p t v : Nat) : Bool :=
  let r := d.get .tnSyncRange p t
  t ≠ 0 && d.hasTenant p t &&
    (rqSyncs v = 0 || (fld r 16 14 ≤ rqSync v && rqSync v + rqSyncs v ≤ fld r 16 14 + fld r 0 15)) &&
    (rqSlotList v).all (fun n => n ≤ 0x3FF && d.get .slotTenant p n = t)

/-- The primary regions of a tenant with a replica or a mirror. -/
def Device.scRegions (d : Device) (p t : Nat) : List Nat :=
  (List.range 1024).filter (fun g =>
    d.get .rgnState p g ≠ 0 && d.rgnTenant p g = t && (d.peerOn p g true || d.peerOn p g false))

/-- Whether a start is taken (R432). -/
def Device.scStartOk (d : Device) (p : Nat) : Bool :=
  let t := d.get .scTenant p 0
  let v := d.scRequestNow p
  !d.scRuns p && d.scRangesOk p t v && (rqSlotList v).all (fun n => d.get .slotState p n = 1) &&
    (d.scRegions p t).all (fun g => d.get .rgnState p g = 1 && d.get .rgnVersion p g = 0)

/-! ### Destination: reading regions (R435) -/

/-- Where a region is read: from its mirror, else from its replica. -/
def Device.scMirror (d : Device) (p g : Nat) : Bool := d.peerOn p g true

/-- Send the CKPT_READ of `n` pages of a region from page `o` on (R286). -/
def Device.scRead (d : Device) (p g o n : Nat) : Device :=
  let obj := peerObjs (d.scMirror p g)
  d.sendOwn p scSw ((d.ckptMk p g opCkptRead (d.get obj.1 p g) 0xFE (d.get obj.2.1 p g) 0 o).frame
    (natToBytes 16 (n * 2 ^ 80)))

/-- Issue reads while fewer than 16 are in flight, 1,024 pages each. -/
def Device.scIssue (d : Device) (p : Nat) : Nat → Device
  | 0 => d
  | fuel + 1 =>
    let s := d.sc p
    match s.todo with
    | [] => d
    | (g, o) :: rest =>
      if s.flight.length ≥ 16 then d
      else
        let n := min 1024 (d.get .rgnPages p g - o)
        let todo := if o + n < d.get .rgnPages p g then (g, o + n) :: rest else rest
        ((d.setSc p { s with todo := todo, flight := s.flight ++ [(g, o, n)] }).scRead p g o n).scIssue p fuel

/-- A control frame of the engine. -/
def Device.scFrame (d : Device) (p dev tenant off : Nat) (payload : Bytes) : Frame :=
  ({ opcode := opStateCopy, cls := 0, tenant := tenant, destDevice := dev, destPlane := p, destPort := 0xFE,
     srcDevice := d.devId p, srcPort := 0xFE, offset := off } : Mk).frame payload

/-- Once every region is stored the session is ARMED and its REQUEST goes out (Table 19.9). -/
def Device.scArm (d : Device) (p : Nat) : Device :=
  let s := d.sc p
  if d.get .scState p 0 = 1 && s.todo = [] && s.flight = [] then
    (d.set .scState p 0 2).sendOwn p scSw (d.scFrame p s.dev s.tenant 0 (natToBytes 32 s.req))
  else d

/-- `sc_cmd` 0x01. -/
def Device.scStart (d : Device) (p : Nat) : Device :=
  if d.scRuns p then d
  else if !d.scStartOk p then d.set .scCmd p 0 3
  else
    let t := d.get .scTenant p 0
    let s : ScSt := { req := d.scRequestNow p, dev := d.get .scSourceDevice p 0, tenant := t,
                      todo := (d.scRegions p t).map (fun g => (g, 0)), serving := (d.sc p).serving }
    let d := (((d.setSc p s).set .scState p 0 1).set .scStatus p 0 0).set .scCmd p 0 1
    (d.scIssue p 16).scArm p

/-- A region has been read whole: its committed version is what its pages carry, its in-progress version the next; its CRCs toward
peers stay clear (R435). -/
def Device.scStored (d : Device) (p g : Nat) : Device :=
  let s := d.sc p
  let v := lookNat s.vers g
  let pages := (s.got.filter (fun x => x.1 = g)).map (·.2)
  let d := d.setSc p { s with got := s.got.filter (fun x => x.1 ≠ g) }
  let d := d.keepPages p g pages (d.rgn p g).prog
  let r := d.rgn p g
  let d := d.setRgn p g { r with next := v + 1, repl := { r.repl with acked := [] }, mirror := { r.mirror with acked := [] } }
  d.set .rgnVersion p g v

/-- A page is expected: the region whose read in flight it answers. -/
def Device.scExpects (d : Device) (p : Nat) (f : Frame) : Option (Nat × Nat × Nat) :=
  (d.sc p).flight.find? (fun e =>
    let obj := peerObjs (d.scMirror p e.1)
    f.context = d.get obj.2.1 p e.1 && f.srcDevice = d.get obj.1 p e.1 && f.tenant = d.rgnTenant p e.1 && f.offset = e.2.1)

/-- CKPT_DATA at the destination: a page without content or without a buffer fails the session (R436). -/
def Device.scPage (d : Device) (p : Nat) (f : Frame) : Device :=
  if d.get .scState p 0 ≠ 1 then d
  else
    match d.scExpects p f with
    | none => d
    | some (g, o, n) =>
      if f.length = 0 || f.payload = [] then d.scFail p 0x14
      else
        let a := d.alloc p ckptPool (d.rgnReq p g)
        match a.2 with
        | none => a.1.scFail p 0x17
        | some b =>
          let d := a.1
          let s := d.sc p
          let rest := s.flight.filter (fun e => e ≠ (g, o, n))
          let d := d.setSc p { s with
            got := s.got ++ [(g, ⟨o, b, pageCrc f.payload, f.payload⟩)]
            vers := putNat s.vers g f.flowSeq
            flight := if n ≤ 1 then rest else (g, o + 1, n - 1) :: rest }
          let d := d.bump .scPagesCopied p 0
          let s := d.sc p
          let d := if !(s.flight.any (fun e => e.1 = g)) && !(s.todo.any (fun e => e.1 = g)) then d.scStored p g else d
          (d.scIssue p 16).scArm p

/-! ### Source (R434) -/

/-- Whether a boundary has been reached at this plane. -/
def Device.scReached (d : Device) (p v : Nat) : Bool :=
  if rqKind v = 1 then rqValue v ≤ d.syncVal p (rqObj v) else rqTime v ≤ d.tbNow p (rqTb v)

/-- The status with which a REQUEST is refused; 0 where it is taken. -/
def Device.scRefusal (d : Device) (p : Nat) (f : Frame) : Nat :=
  let v := bytesToNat f.payload
  if f.srcDevice ≠ d.get .scServeDevice p 0 then 0x10
  else if !d.scRangesOk p f.tenant v then 0x11
  else if (d.sc p).serving.isSome then 0x12
  else if d.scReached p v then 0x13
  else 0

/-- The answer to a REQUEST: its fields with a TYPE and a STATUS of their own, every reserved bit 0 (spec/00 R7). -/
def scAnswer (v typ st : Nat) : Bytes :=
  let v := setFld (setFld (setFld (setFld v 248 8 typ) 240 8 st) 128 16 0) 0 48 0
  natToBytes 32 (if rqKind v = 1 then setFld v 48 16 0 else v)

/-- SC_REQUEST at the source. -/
def Device.scServe (d : Device) (p : Nat) (f : Frame) : Device :=
  let v := bytesToNat f.payload
  if f.payload.length ≠ 32 || fld v 248 8 ≠ 1 then d
  else
    let st := d.scRefusal p f
    if st = 0 then d.setSc p { d.sc p with serving := some f }
    else d.sendOwn p scSw (d.scFrame p f.srcDevice f.tenant 0 (scAnswer v 5 st))

/-- Send the entries of a data frame kind, at most `per` in a frame: header TYPE and COUNT, then entries of `w` bytes. -/
def Device.scSendAll (d : Device) (p dev tenant typ per w : Nat) : Nat → Nat → List Nat → Device
  | 0, _, _ => d
  | fuel + 1, first, l =>
    if l = [] then d
    else
      let now := l.take per
      let pay := natToBytes 8 (typ * 2 ^ 56 + now.length * 2 ^ 32) ++ now.flatMap (natToBytes w)
      (d.sendOwn p scSw (d.scFrame p dev tenant first pay)).scSendAll p dev tenant typ per w fuel (first + now.length) (l.drop per)

/-- The SLOTS entry of a slot. -/
def Device.scSlotEntry (d : Device) (p n : Nat) : Nat :=
  n * 2 ^ 112 + d.get .slotGen p n * 2 ^ 104 + d.get .slotState p n * 2 ^ 96 + d.get .slotLaunchNo p n

/-- SC_BOUNDARY: the source's own group switches and signals at the boundary come first, then the values are latched and sent. -/
def Device.scBoundary (d : Device) (p : Nat) : Device :=
  match (d.sc p).serving with
  | none => d
  | some f =>
    let v := bytesToNat f.payload
    if rqKind v = 1 && !d.scReached p v then d
    else
      let due := (List.range 4096).filter (fun g => d.get .grpState p g = 2 && d.grpBoundaryMet p g &&
        (d.get .grpBoundaryKind p g = 1 || unpackTime (d.get .grpBoundaryTime p g) ≤ d.tbNow p (d.get .grpBoundaryTb p g)))
      let d := ((due.foldl (fun d g => d.grpBoundary p g) d).fireNotifies p).run p
      let objs := (List.range (rqSyncs v)).map (fun k => d.syncVal p (rqSync v + k))
      let slots := (rqSlotList v).map (d.scSlotEntry p)
      let d := d.setSc p { d.sc p with serving := none }
      let d := d.scSendAll p f.srcDevice f.tenant 2 511 8 (objs.length + 1) 0 objs
      let d := d.scSendAll p f.srcDevice f.tenant 3 255 16 (slots.length + 1) 0 slots
      d.sendOwn p scSw (d.scFrame p f.srcDevice f.tenant 0 (scAnswer v 4 0))

/-! ### Destination: what the source sends (R433, R435) -/

/-- Whether a frame comes from the source of an ARMED session. -/
def Device.scFromSource (d : Device) (p : Nat) (f : Frame) : Bool :=
  d.get .scState p 0 = 2 && f.srcDevice = (d.sc p).dev && f.tenant = (d.sc p).tenant

/-- The entries of a data frame of `w`-byte entries; none where TYPE, COUNT or LENGTH do not fit. -/
def scEntries (f : Frame) (typ max w : Nat) : List Nat :=
  let n := beNat f.payload 2 2
  if beNat f.payload 0 1 = typ && 1 ≤ n && n ≤ max && f.payload.length = 8 + n * w then
    (List.range n).map (fun k => beNat f.payload (8 + k * w) w)
  else []

/-- OBJECTS: its values are kept until DONE. -/
def Device.scObjects (d : Device) (p : Nat) (f : Frame) : Device :=
  if d.scFromSource p f then
    let s := d.sc p
    let l := (scEntries f 2 511 8).zipIdx.filter (fun x => f.offset + x.2 < rqSyncs s.req)
    d.setSc p { s with objs := s.objs ++ l.map (fun x => (rqSync s.req + f.offset + x.2, x.1)) }
  else d

/-- SLOTS: its entries are kept until DONE. -/
def Device.scSlots (d : Device) (p : Nat) (f : Frame) : Device :=
  if d.scFromSource p f then
    let s := d.sc p
    d.setSc p { s with slots := s.slots ++ (scEntries f 3 255 16).filter (fun e => (rqSlotList s.req).contains (fld e 112 16)) }
  else d

/-- Set a slot from its entry (R435): a running source slot starts at step 0 of launch L with the WAIT targets of a restart. -/
def Device.scSetSlot (d : Device) (p e : Nat) : Device :=
  let sl := fld e 112 16
  let st := fld e 96 8
  let l := fld e 0 64
  let d := (d.set .slotGen p sl (fld e 104 8)).set .slotLaunchNo p sl l
  if st = 2 || st = 3 then
    let t := (List.range 32).map (fun i =>
      let w := d.stepWord p sl i
      if stKind w = 1 then d.syncVal p (stSync w) + d.waitRise p sl i else 0)
    let d := d.setSlot p sl { targets := t, launch := l }
    let d := ((d.set .slotState p sl 2).set .slotStatus p sl 0).set .slotStepNow p sl 0
    (List.range (d.get .slotLength p sl)).foldl (fun d i =>
      let w := d.stepWord p sl i
      if stKind w = 8 then (d.fillSet p (d.get .slotGroup p sl) (stAux w)).getD d else d) d
  else d.set .slotState p sl 1

/-- SC_DONE: objects, slots, then the held messages under Table 8.6. -/
def Device.scDone (d : Device) (p : Nat) (f : Frame) : Device :=
  if d.scFromSource p f then
    let s := d.sc p
    let d := s.objs.foldl (fun d o => d.syncWrite p o.1 o.2) d
    let d := s.slots.foldl (fun d e => d.scSetSlot p e) d
    let d := (d.setSc p { serving := s.serving }).run p
    let d := (((d.set .scState p 0 4).set .scStatus p 0 1).set .scCmd p 0 2).causeHealth p 11 0
    s.held.foldl (fun d f => d.seqMessage p f) d
  else d

/-- SC_REFUSED: the status of the frame. -/
def Device.scRefused (d : Device) (p : Nat) (f : Frame) : Device :=
  if d.scFromSource p f then d.scFail p (fld (bytesToNat f.payload) 240 8) else d

/-! ### Commands -/

/-- CKPT_DATA. -/
def execCkptData (p : Plane) (f : Frame) (s : State) : Res := s.runOn p (fun d => (d.takeIn p ckptSw f).scPage p f)
/-- SC_START (R432). -/
def execScStart (p : Plane) (rq : Req) (s : State) : Res :=
  s.run (fun d => d.commandNow rq ⟨.scCmd, p, 0⟩ 1 (fun d => if d.scRuns p then d.set .scCmd p 0 3 else d.scStart p))
/-- SC_ABORT (R436). -/
def execScAbort (p : Plane) (rq : Req) (s : State) : Res :=
  s.run (fun d => d.commandNow rq ⟨.scCmd, p, 0⟩ 2 (fun d => if d.scRuns p then d.scFail p 0x16 else d.set .scCmd p 0 3))
/-- SC_REQUEST. -/
def execScRequest (p : Plane) (f : Frame) (s : State) : Res := s.runOn p (fun d => (d.takeIn p scSw f).scServe p f)
/-- SC_BOUNDARY. -/
def execScBoundary (p : Plane) (s : State) : Res := s.runOn p (fun d => d.scBoundary p)
/-- OBJECTS. -/
def execObjects (p : Plane) (f : Frame) (s : State) : Res := s.runOn p (fun d => (d.takeIn p scSw f).scObjects p f)
/-- SLOTS. -/
def execSlots (p : Plane) (f : Frame) (s : State) : Res := s.runOn p (fun d => (d.takeIn p scSw f).scSlots p f)
/-- SC_DONE. -/
def execScDone (p : Plane) (f : Frame) (s : State) : Res := s.runOn p (fun d => (d.takeIn p scSw f).scDone p f)
/-- SC_REFUSED. -/
def execScRefused (p : Plane) (f : Frame) (s : State) : Res := s.runOn p (fun d => (d.takeIn p scSw f).scRefused p f)
/-- SC_TIMEOUT. -/
def execScTimeout (p : Plane) (s : State) : Res := s.runOn p (fun d => if d.get .scState p 0 = 2 then d.scFail p 0x15 else d)

end Sys2Proof.Machine
end

