-- ==== Sys2Proof/Machine/Clock.lean ====
section
/-! DEFINITION. Reset, hub boot, reference clocks, power and thermal limits
(spec/20_clocking_reset_and_bring_up.md; spec/22 R477; spec/17 Table 17.11, R371, R396). -/

namespace Sys2Proof.Machine

/-! ### Reset (R443, Table 20.2) -/

/-- The reset of one plane while the others go on. -/
def Device.resetPlane (d : Device) (p : Nat) : Device :=
  let d := (d.clearPlane p).setStage p 0
  if d.hubUp && !(d.plane p).clockLost then d.setStage p 1 else d

/-- Hub objects that lie in fuses or are read from the flash headers: no reset changes them. -/
def keptObjs : List Obj := [.rollbackFloor, .bootKeyHash, .jnlSeq, .jnlBank, .jnlGeneration]

/-- What a loss of power leaves: fuses and flash. Every register, table, session and pin is as after power-good, the hub waits to
boot where `boot` is set, and every plane is in reset. -/
def Device.allCleared (d : Device) (boot : Bool) : Device :=
  let h := d.hub
  let d : Device := { d with
    hub := { awaitBoot := boot, vddIo := h.vddIo, jnl := h.jnl, jnlBadReads := h.jnlBadReads, jnlTorn := h.jnlTorn,
             jnlTornBytes := h.jnlTornBytes, jnlUnreadable := h.jnlUnreadable, imgA := h.imgA, imgB := h.imgB, tripReason := h.tripReason }
    sessions := []
    snap := {} }
  let d := (List.range 4).foldl (fun d p =>
    let d := d.clearPlane p
    d.setPlane p { releasedAt := d.clock, clockLost := (d.plane p).clockLost, fuseFull := (d.plane p).fuseFull }) d
  { d with
    regs := d.regs.filter (fun e => keptObjs.contains e.1.obj)
    sat := []
    domains := [] }

/-- PORESET_N: what of a factory reset or a lock release waited for it happens (R371, R396). -/
def Device.poreset (d : Device) : Device :=
  let factory := d.hub.factoryPending
  let unlock := d.hub.lockPendingRelease
  let d := d.allCleared true
  let d : Device :=
    if factory then { d with hub.jnl := [], hub.jnlTorn := 0, hub.jnlTornBytes := 0, hub.tripReason := false }
    else if unlock then (d.journal [(⟨.lockState, 4, 0⟩, 0)]).1 else d
  if factory then d.set .resetReason 4 0 3 else d

/-! ### Hub boot (R452, R453, R390) -/

/-- An image of the flash: 0 is A. -/
def Device.image (d : Device) (k : Nat) : Bytes := if k = 0 then d.hub.imgA else d.hub.imgB

/-- The image's signature verifies under the fused key (R452). -/
def Device.signed (d : Device) (img : Bytes) : Bool :=
  Config.sha384 (Config.imageKey img) = natToBytes 48 (d.get .bootKeyHash 4 0) &&
    Config.ecdsaVerify (Config.imageKey img) (Config.imageBody img) (Config.imageSignature img)

/-- The image's version is at least the fused floor. -/
def Device.recent (d : Device) (img : Bytes) : Bool := d.get .rollbackFloor 4 0 ≤ (Config.imageVersion img).toNat

/-- An image is accepted. -/
def Device.accepted (d : Device) (img : Bytes) : Bool := d.signed img && d.recent img

/-- Latch why image k is not accepted: its signature (bits 8 and 9 of 0x2002) or its version (bit 11). -/
def Device.refuseImage (d : Device) (k : Nat) : Device :=
  if !d.signed (d.image k) then d.causeSecurity (8 + k) 0 else d.causeSecurity 11 0

/-- `boot_pref` as the journal holds it. -/
def Device.bootFirst (d : Device) : Nat := (journalled d.hub.jnl ⟨.bootPref, 4, 0⟩).getD 0 % 2

/-- The journal is found (R390, Table 20.6): ignored records are counted; an unreadable one is taken as empty. -/
def Device.findJournal (d : Device) : Device :=
  if d.hub.jnlUnreadable then { d with hub.jnl := [] }.causeJournal 0
  else if d.hub.jnlTorn = 0 then d
  else (d.count .jnlDiscarded 4 0 d.hub.jnlTorn).causeJournal 1

/-- The planes are released after the hub stage; a disabled plane stops there (R455). -/
def Device.releasePlane (d : Device) (p : Nat) : Device :=
  if d.get .planeRole 4 p = 2 then (d.adoptRole p).disablePlane p
  else
    let d := if (d.plane p).cond = .waiting then d.setPlane p { d.plane p with cond := .inReset } else d
    if (d.plane p).clockLost then d else d.setStage p 1

/-- The hub runs image k. -/
def Device.hubStart (d : Device) (k : Nat) : Device :=
  let d : Device := { d with hub.running := true, hub.romStay := false, hub.silent := false, hub.awaitBoot := false,
                             hub.heldEvents := [] }
  let d := (d.set .bootImage 4 0 k).findJournal
  let d := d.loadJournal (fun q => q.plane = 4 || q.obj.hubHeld)
  let d := if d.hub.tripReason then { d with hub.tripReason := false }.set .resetReason 4 0 2 else d
  let d := d.set .refclkState 4 0 (ofBits (((List.range 4).filter (fun p => !(d.plane p).clockLost)) ++ [4]))
  (List.range 4).foldl (fun d p => d.releasePlane p) d

/-- HUB_BOOT: the preferred image, then the other; with neither the hub stays in its boot ROM (R453). -/
def Device.hubBoot (d : Device) : Device :=
  if !d.hub.awaitBoot then d
  else
    let a := d.bootFirst
    let b := 1 - a
    if d.accepted (d.image a) then d.hubStart a
    else if d.accepted (d.image b) then ((d.hubStart b).refuseImage a).causeSecurity 10 0
    else
      let d := (d.refuseImage a).refuseImage b
      { d with hub.awaitBoot := false, hub.romStay := true, hub.serviceN := false, hub.irqN := true }

/-! ### Firmware update (R454) -/

/-- The image that is not running; in the boot ROM the one that `boot_pref` does not name (assumption log 22). -/
def Device.spareImage (d : Device) : Nat :=
  if d.hub.running then 1 - d.get .bootImage 4 0 else 1 - d.bootFirst

/-- `fw_update_cmd` 0x01. -/
def Device.fwVerify (d : Device) : Device :=
  let k := d.spareImage
  if d.accepted (d.image k) then
    let r := d.journal [(⟨.bootPref, 4, 0⟩, k)]
    if r.2 then ((r.1.set .bootPref 4 0 k).causeSecurity 13 0).set .fwUpdateCmd 4 0 2
    else (r.1.causeSecurity 12 0).set .fwUpdateCmd 4 0 3
  else (d.causeSecurity 12 0).set .fwUpdateCmd 4 0 3

/-- `fw_update_cmd` 0x02: the floor rises to the running image's version; with no image running it is refused. -/
def Device.raiseFloor (d : Device) : Device :=
  if d.hub.running then
    let v := (Config.imageVersion (d.image (d.get .bootImage 4 0))).toNat
    (d.set .rollbackFloor 4 0 (max (d.get .rollbackFloor 4 0) v)).set .fwUpdateCmd 4 0 2
  else d.set .fwUpdateCmd 4 0 3

/-- A write to `fw_update_cmd`, which the boot ROM takes as well. -/
def Device.fwCommand (d : Device) (rq : Req) (v : Nat) (act : Device → Device) : Device :=
  d.requestIf (d.romServed rq.ses.val) rq (fun d =>
    d.doWrite rq ⟨⟨.fwUpdateCmd, 4, 0⟩, 1, v⟩ (fun _ => true) (fun d => (act d, true)))

/-! ### Reference clocks (R442) and trips (R451) -/

/-- A plane stops: transmitters dark, circuits to through state, coherent modules off. -/
def Device.darken (d : Device) (p : Nat) (c : Cond) : Device :=
  let d := (d.snapAbsent p).removeCircuits p
  let d := (List.range 128).foldl (fun d n => d.leavePort p n (if (d.port p n).fenced then 6 else 0)) d
  let d := d.setPlane p { d.plane p with cond := c, recoveryDue := false, recoverFor := [] }
  (List.range 4).foldl (fun d l => (d.goOof p l false).emit (.cmis p (16 + l) false)) d

/-- REFCLK_LOST. -/
def Device.refclkLost (d : Device) (p : Nat) : Device :=
  if (d.plane p).clockLost then d
  else
    let d := if d.live p then d.darken p .halted else d
    let d := d.setPlane p { d.plane p with clockLost := true }
    if d.hubUp then (d.set .refclkState 4 0 (clrBit (d.get .refclkState 4 0) p)).causePower 6 p else d

/-- REFCLK_RETURN: as after a release of PLANE_RST_N. -/
def Device.refclkReturn (d : Device) (p : Nat) : Device :=
  if !(d.plane p).clockLost then d
  else
    let d := d.setPlane p { d.plane p with clockLost := false }
    let d := if d.hubUp then d.set .refclkState 4 0 (setBit (d.get .refclkState 4 0) p) else d
    if (d.plane p).cond = .halted || ((d.plane p).cond = .inReset && d.hubUp) then d.resetPlane p else d

/-- A plane stops at a trip (R451) as a retired plane does; one that was not live starts no initialisation any more. -/
def Device.tripPlane (d : Device) (p : Nat) : Device :=
  if d.live p then (d.darken p .tripped).causeSwitch p 4 0
  else if (d.plane p).cond = .retired || (d.plane p).cond = .disabled then d
  else d.setPlane p { d.plane p with cond := .tripped }

/-- THERMAL_TRIP: journalled by a hub that answers; every plane stops, THERM_TRIP_N goes low. -/
def Device.thermalTrip (d : Device) : Device :=
  let d : Device :=
    if d.hubUp then
      let r := d.journal [(⟨.resetReason, 4, 0⟩, 2)]
      { r.1 with hub.tripReason := r.2 }
    else d
  let d := (List.range 4).foldl (fun d p => d.tripPlane p) d
  { d with hub.thermTripN := false }

/-! ### AVS, power and operating points (R448, R449) -/

/-- The set point asked for: the highest request of the islands of planes that are not disabled or retired, plus the margin,
rounded up to 5 mV, within 650 to 850 mV. None where no plane asks. -/
def Device.avsTarget (d : Device) : Option Nat :=
  let ps := (List.range 4).filter (fun p => decide ((d.plane p).cond ≠ .disabled ∧ (d.plane p).cond ≠ .retired))
  if ps = [] then none
  else
    let top := (ps.flatMap (fun p => (List.range 96).map (d.islandMv p))).foldl max 0
    some (min 850 (max 650 (ceilDiv (top + d.get .avsMarginMv 4 0) 5 * 5)))

/-- AVS_UPDATE: a raise at once, a lowering after 1 s; the third failure of a transaction in a row latches AVS fault. -/
def Device.avsUpdate (d : Device) (busOk : Bool) : Device :=
  if !d.hubUp then d
  else if !(busOk && d.hub.vddIo) then
    let n := d.hub.avsFails + 1
    if n ≥ 3 then { d with hub.avsFails := 0 }.causePower 1 0 else { d with hub.avsFails := n }
  else
    let d : Device := { d with hub.avsFails := 0 }
    let now := d.get .vddCoreMv 4 0
    match d.avsTarget with
    | none => d
    | some v =>
      if now ≤ v then { d with hub.avsLowSince := none }.set .vddCoreMv 4 0 v
      else
        match d.hub.avsLowSince with
        | some (w, t) =>
          if w ≠ v then { d with hub.avsLowSince := some (v, d.clock) }
          else if t + 1000000000 ≤ d.clock then { d with hub.avsLowSince := none }.set .vddCoreMv 4 0 v
          else d
        | none => { d with hub.avsLowSince := some (v, d.clock) }

/-- Nominal voltage in mV and tolerance in percent of a rail (Table 20.3). -/
def Device.railSpec (d : Device) (r : Nat) : Nat × Nat :=
  if r = 0 then (d.get .vddCoreMv 4 0, 2) else (nth [750, 800, 900, 1200, 1100, 1800, 3300, 800] r, if r = 3 then 5 else 3)

/-- One rail's reading. -/
def Device.railRead (d : Device) (r : Nat) (x : RailReading) : Device :=
  if !(x.ok && d.hub.vddIo) then (d.bump .pmbusErrors 4 0).causePower 2 r
  else
    let d := (d.set .railMv 4 r x.mv).set .railMa 4 r x.ma
    let s := d.railSpec r
    let off := if x.mv < s.1 then s.1 - x.mv else x.mv - s.1
    if s.1 * s.2 < off * 100 then d.causePower 0 r else d

/-- PMBUS_POLL: the rails in order; the package power is the sum of the rail powers. -/
def Device.pmbusPoll (d : Device) (l : List RailReading) : Device :=
  if !d.hubUp then d
  else
    let d := ((l.take 8).zipIdx).foldl (fun (d : Device) (x : RailReading × Nat) => d.railRead x.2 x.1) d
    d.set .pkgPowerW 4 0 (min 65535
      (total ((List.range 8).map (fun r => d.get .railMv 4 r * d.get .railMa 4 r)) / 1000000))

/-- OPERATING_POINT_CHANGE (Table 20.4): the higher point whose condition holds, or one point lower where the conditions of return
hold; how long they have held is what the command reports (assumption log 3). -/
def Device.operatingPoint (d : Device) (tj : Int) : Device :=
  if !d.hubUp then d
  else
    let d := d.set .tjMax 4 0 (ofSigned 16 tj)
    let w := d.get .pkgPowerW 4 0
    let lim := d.get .powerLimitW 4 0
    let now := d.get .opLevel 4 0
    let up := if lim ≤ w || 1030 ≤ tj then 2 else if lim ≤ w + 50 || 1000 ≤ tj then 1 else 0
    if now < up then ((d.bump .throttleEvents 4 0).set .opLevel 4 0 up).causePower (2 + up) 0
    else if now = 2 && w + 50 < lim && tj < 1000 then d.set .opLevel 4 0 1
    else if now = 1 && w + 100 < lim && tj < 970 then d.set .opLevel 4 0 0
    else d

/-! ### Chiplet temperature (R450) -/

/-- The ports of a chiplet are held DOWN with its heaters at 0. -/
def Device.chipletHot (d : Device) (p c : Nat) : Device :=
  let d := d.calAbort p c
  let d := (List.range 256).foldl (fun d r =>
    if d.get .ringState p (c * 256 + r) = 4 then d else (d.setHeater p c r 0).set .ringState p (c * 256 + r) 0) d
  (List.range 32).foldl (fun d k =>
    let n := 32 * c + k
    if bit (d.port p n).holdDown 1 then d
    else if d.get .portState p n = 5 then d.setPort p n { d.port p n with holdDown := setBit (d.port p n).holdDown 1 }
    else d.holdPort p n 1) d

/-- Its ports are released and every pair is due. -/
def Device.chipletCool (d : Device) (p c : Nat) : Device :=
  if (List.range 32).any (fun k => bit (d.port p (32 * c + k)).holdDown 1) then
    ((List.range 32).foldl (fun d k => d.unholdPort p (32 * c + k) 1) d).makeDue p c allPairs
  else d

/-- CHIPLET_TEMPERATURE in 0.1 °C. -/
def Device.chipletTemperature (d : Device) (p c : Nat) (t : Int) : Device :=
  let d := if d.hubUp then
      let d := d.set .chipletTemp 4 0 (setOctet 16 16 (d.get .chipletTemp 4 0) (4 * p + c) (ofSigned 16 t))
      if t < 0 || 850 < t then d.causePower 5 (p * 256 + c) else d
    else d
  if !d.live p then d else if 950 < t then d.chipletHot p c else if t < 800 then d.chipletCool p c else d

/-! ### Supply collapse (R390, Table 17.11) -/

/-- SUPPLY_COLLAPSE: an uncommitted record, whose length is open, is left to be ignored; a compaction whose new header is written counts. -/
def Device.supplyCollapse (d : Device) (at_ : JournalStep) : Device :=
  let d : Device :=
    match at_ with
    | .step1 => d.fresh.2.tornRecords 1 (d.fresh.1 % 65536)
    | .afterStep1 => d.fresh.2.tornRecords 1 (d.fresh.1 % 65536)
    | .step2 => d.fresh.2.tornRecords 1 (d.fresh.1 % 65536)
    | .compactAfterHeader => d.compact
    | _ => d
  d.allCleared false

/-! ### Commands -/

/-- A reset pulse (R443, R477): ignored while VDD_IO is low and up to 100 ns; shorter than its minimum it is a fault; else `f`. -/
def State.pulse (lowNs minNs : Nat) (f : Device → Device) (s : State) : Res :=
  if !s.dev.hub.vddIo || lowNs ≤ 100 then s.run (fun d => d)
  else if lowNs < minNs then .fault .resetPulseUndefined
  else s.run f

/-- PORESET: held low at least 1 ms. -/
def execPoreset (lowNs : Nat) (s : State) : Res := s.pulse lowNs 1000000 (·.poreset)
/-- PLANE_RST: held low at least 10 us. -/
def execPlaneRst (p : Plane) (lowNs : Nat) (s : State) : Res := s.pulse lowNs 10000 (·.resetPlane p)
/-- PLANE_RESET_CMD: a pulse on PLANE_RST_N of the plane in `plane_reset_sel`. -/
def execPlaneResetCmd (rq : Req) (s : State) : Res :=
  s.run (fun d => d.command rq ⟨.planeResetCmd, 4, 0⟩ 1 (fun d =>
    (d.resetPlane (d.sel .planeResetSel 4 0 rq.ses.val)).cmdReads ⟨.planeResetCmd, 4, 0⟩ rq.ses.val 2))
/-- HUB_BOOT. -/
def execHubBoot (s : State) : Res := s.run (·.hubBoot)
/-- REFCLK_LOST. -/
def execRefclkLost (p : Plane) (s : State) : Res := s.run (fun d => d.refclkLost p)
/-- REFCLK_RETURN. -/
def execRefclkReturn (p : Plane) (s : State) : Res := s.run (fun d => d.refclkReturn p)
/-- HUB_REFCLK_LOST: the hub stops; the planes go on as R19 states. -/
def execHubRefclkLost (s : State) : Res :=
  s.run (fun d =>
    let d : Device := { d with hub.running := false, hub.romStay := false, hub.awaitBoot := false }
    d.set .refclkState 4 0 (clrBit (d.get .refclkState 4 0) 4))
/-- AVS_UPDATE. -/
def execAvsUpdate (busOk : Bool) (s : State) : Res := s.run (fun d => d.avsUpdate busOk)
/-- PMBUS_POLL. -/
def execPmbusPoll (readings : List RailReading) (s : State) : Res := s.run (fun d => d.pmbusPoll readings)
/-- OPERATING_POINT_CHANGE: the hottest junction in 0.1 °C. -/
def execOperatingPointChange (tj : Int) (s : State) : Res := s.run (fun d => d.operatingPoint tj)
/-- CHIPLET_TEMPERATURE in 0.1 °C. -/
def execChipletTemperature (p : Plane) (c : Chip) (t : Int) (s : State) : Res := s.run (fun d => d.chipletTemperature p c t)
/-- THERMAL_TRIP. -/
def execThermalTrip (s : State) : Res := s.run (·.thermalTrip)
/-- FW_VERIFY. -/
def execFwVerify (rq : Req) (s : State) : Res := s.run (fun d => d.fwCommand rq 1 (·.fwVerify))
/-- ROLLBACK_FLOOR_RAISE. -/
def execRollbackFloorRaise (rq : Req) (s : State) : Res := s.run (fun d => d.fwCommand rq 2 (·.raiseFloor))
/-- VDD_IO_LOW: outputs are high-impedance, inputs ignored. -/
def execVddIoLow (s : State) : Res := s.run (fun d => { d with hub.vddIo := false })
/-- VDD_IO_RESTORED. -/
def execVddIoRestored (s : State) : Res := s.run (fun d => { d with hub.vddIo := true })
/-- SUPPLY_COLLAPSE. -/
def execSupplyCollapse (at_ : JournalStep) (s : State) : Res := s.run (fun d => d.supplyCollapse at_)

end Sys2Proof.Machine
end

