-- ==== Sys2Proof/Machine/Write.lean ====
section
/-! DEFINITION. Writes of registers (spec/17 R369): the rules of the owning chapters, what a write changes beside its register,
and the rows of commands that a write spells. -/

namespace Sys2Proof.Machine

/-! ### Rules of the owning chapters -/

/-- A tenant ID, or none. -/
def tenantOrNone (v : Nat) : Bool := v < 4096 || v = 0xFFFF

/-- Whether a line port is fenced or administratively down (R34). -/
def Device.portIdle (d : Device) (p n : Nat) : Bool := (d.port p n).fenced || d.get .portAdmin p n = 0
/-- The same of a long-haul port; one of a plane in the spine role, which R12 reports as administratively down, is (DEDUCED,
assumption log 34). -/
def Device.lhIdle (d : Device) (p l : Nat) : Bool :=
  bit (d.get .fencedLongHaul p 0) l || d.get .lhAdmin p l = 0 || d.role p ≠ 1

/-- A slot whose program may be written (R164). -/
def Device.slotAtRest (d : Device) (p n : Nat) : Bool := d.get .slotState p n ≠ 2 && d.get .slotState p n ≠ 3

/-- What `hw_map` takes (R382): nothing, or a readable object of at most 10 bytes that acts on no selection. -/
def windowOk (v : Nat) : Bool :=
  if v = 0 then true
  else
    match target (fld v 16 16) (fld v 8 8) with
    | none => false
    | some t =>
      let i := t.obj.info
      i.ty ≠ .domain && i.acc ≠ .wo && i.acc ≠ .cmd && i.ty.bytes ≤ 10 && t.obj.sels = [] && t.obj ≠ .grpMember &&
        t.obj ≠ .grpMemberActive

/-- Elements of an OCTETS value within a range. -/
def elemsIn (n w v lo hi : Nat) : Bool := (octetList n w v).all (fun x => lo ≤ x && x ≤ hi)

/-- A value of two's complement within a range. -/
def signedIn (w v : Nat) (lo hi : Int) : Bool := lo ≤ toSigned w v && toSigned w v ≤ hi

/-- Objects of a region that are written only while it is EMPTY (R275), of a compression context only while it is IDLE (R199), of a
group (Table 8.12). -/
def rgnObjs : List Obj :=
  [.rgnDesc, .rgnPages, .rgnT1Limit, .rgnT2Pages, .rgnSync, .rgnPeerDevice, .rgnPeerRegion, .rgnMirrorDevice, .rgnMirrorRegion]
def cctxObjs : List Obj := [.cctxDesc, .cctxSeed, .cctxChunks, .cctxShardBlocks]
def slotObjs : List Obj := [.slotLength, .slotStep, .slotTpl, .slotSeed]
def grpPageObjs : List Obj := [.grpDesc, .grpMember]
def grpObjs : List Obj :=
  grpPageObjs ++ [.grpBoundaryKind, .grpBoundaryTime, .grpBoundaryTb, .grpBoundaryObj, .grpBoundaryValue]

/-- The rule of the chapter that owns an object, for a write at a place of a session (R369: 0x0303 where it fails). A command
object takes the values of its commands only, which have rows of their own. -/
def Device.writeRule (d : Device) (t : Target) (ses v : Nat) : Bool :=
  let p := t.plane
  let n := t.inst
  let i := d.place t ses
  let o := t.obj
  if o.info.acc = .cmd then false
  else if rgnObjs.contains o then d.get .rgnState p i = 0
  else if cctxObjs.contains o then d.get .cctxState p i = 0
  else if slotObjs.contains o then d.slotAtRest p (d.sel .slotSel p 0 ses)
  else if grpObjs.contains o then
    d.get .grpState p (d.sel .grpSel p 0 ses) ≠ 2 &&
      (match o with
       | .grpDesc => fld v 0 16 + fld v 16 12 + 1 ≤ 65536
       | .grpMember => fld v 4 8 ≤ 0x83 || fld v 4 8 = 0xFF
       | _ => true)
  else
    match o with
    | .portPartition => d.portIdle p n
    | .lhPortPartition => d.lhIdle p n
    | .creditLimit => total (octetList 8 16 v) ≤ 4096 && 16 ≤ octet 8 16 v 5
    | .tenantBind => v = 0xFFFF || v = 0 || (v < 4096 && d.hasTenant p v)
    | .slotTenant => tenantOrNone v
    | .cctxTenant => tenantOrNone v && d.get .cctxState p i ≠ 2
    | .ecnMin => d.ecnMinOk p v
    | .ecnMax => d.ecnMaxOk p v
    | .routeEntry => routeOk v
    | .mcastSet => mcastOk v
    | .kiteSel => kiteSelOk v
    | .poolSizeGib => d.poolSizeOk p i v
    | .quotaSel => fld v 12 3 ≤ 4
    | .quotaBuffers => d.quotaOk p (d.sel .quotaSel p 0 ses) v
    | .hbmShare => hbmShareOk v
    | .classRank => distinct (octetList 8 8 v) && elemsIn 8 8 v 0 7
    | .urgencyMs => elemsIn 8 16 v 1 10000
    | .bgUrgencyMs => elemsIn 3 16 v 1 10000
    | .gclEntry => 8 ≤ fld v 0 32 && fld v 0 32 ≤ 1000000000
    | .cbsLoCredit => signedIn 32 v (-16777216) (-4132)
    | .dispTokenElems => v % 32 = 0
    | .bypA => v < 32
    | .bypB => v < 32
    | .syncIntervalLog2 => signedIn 32 v (-7) 0
    | .lhAsymNs => signedIn 32 v (-1000000) 1000000
    | .tbRedundant => d.redundantOk p n v
    | .ptpPortRole => d.roleOk p n (d.sel .ptpPortSel p n ses) v
    | .tnAgentFp => n ≠ 0
    | .tnCellQuota => n ≠ 0 && d.hasTenant p n
    | .tnSyncRange => n ≠ 0 && d.tnRangeOk .tnSyncRange p n v
    | .tnGroupRange => n ≠ 0 && d.tnRangeOk .tnGroupRange p n v
    | .tnDispRange => n ≠ 0 && d.tnRangeOk .tnDispRange p n v
    | .hwMap => windowOk v
    | .hfChanSel => chanOk v
    | .diagChanSel => chanOk v
    | .monSel => monOk v
    | .hfThreshold => elemsIn 5 16 v 1 65535
    | _ => true

/-- Table 8.12: a write to the standby page makes a STABLE group STAGED. -/
def Device.staged (d : Device) (p ses : Nat) : Device :=
  let g := d.sel .grpSel p 0 ses
  if d.get .grpState p g = 0 then d.set .grpState p g 1 else d

/-- Store a register and do what its write does beside: a group's standby page makes it STAGED, a new check mode and a new standby
time base take effect. -/
def Device.writeEffect (d : Device) (t : Target) (ses v : Nat) : Device × Bool :=
  let p := t.plane
  let r := d.store t.obj p (d.place t ses) v
  if !r.2 then r
  else
    match t.obj with
    | .wlCheckMode => (r.1.wlRefresh p t.inst, true)
    | .tbRedundant => (r.1.redundantSet p t.inst, true)
    | .quotaHighWater =>
      -- a selection without a context reads 0 (spec/05 R99)
      let i := d.place t ses
      if bit i 15 || d.hasTenant p (i % 4096) then r else (d, true)
    | .quotaBuffers => (if d.get .quotaBuffers p (d.place t ses) < v then r.1.spoolFreed p (d.place t ses % 4096) else r.1, true)
    | .grpDesc => (r.1.staged p ses, true)
    | .grpMember => (r.1.staged p ses, true)
    | _ => r

/-! ### Lock, factory reset, snapshot -/

/-- `lock_cmd` 0x01: at once, kept in the journal (R371). -/
def Device.lockNow (d : Device) : Device :=
  let r := d.journal [(⟨.lockState, 4, 0⟩, 1)]
  if r.2 then ((r.1.set .lockState 4 0 1).causeSecurity 1 0).set .lockCmd 4 0 2 else r.1.set .lockCmd 4 0 3

/-- LOCK. -/
def execLock (rq : Req) (s : State) : Res := s.run (fun d => d.command rq ⟨.lockCmd, 4, 0⟩ 1 (·.lockNow))
/-- LOCK_RELEASE: in progress until the next PORESET_N; done at once where nothing is locked. -/
def execLockRelease (rq : Req) (s : State) : Res :=
  s.run (fun d => d.command rq ⟨.lockCmd, 4, 0⟩ 2 (fun d =>
    if d.locked then { d with hub.lockPendingRelease := true }.set .lockCmd 4 0 1 else d.set .lockCmd 4 0 2))
/-- FACTORY_RESET: in progress until the next PORESET_N (R396). -/
def execFactoryReset (rq : Req) (s : State) : Res :=
  s.run (fun d => d.command rq ⟨.factoryResetCmd, 4, 0⟩ 1 (fun d =>
    { d with hub.factoryPending := true }.set .factoryResetCmd 4 0 1))
/-- SNAPSHOT_ARM. -/
def execSnapshotArm (rq : Req) (s : State) : Res := s.run (fun d => d.commandNow rq ⟨.snapCmd, 4, 0⟩ 1 (·.snapArm))

/-! ### Rows that a write spells -/

/-- A number as a member of a finite range. -/
def asFin (n : Nat) (h : 0 < n) (v : Nat) : Fin n := ⟨v % n, Nat.mod_lt v h⟩

/-- What a register's write does where the command table has a row for it: that row's meaning. What only the hardware knows at that
moment (whether a test passes, whether fuses fit) is a free value. -/
def rowOf (rq : Req) (idx : Nat) (t : Target) (v : Nat) : Option (State → Res) :=
  let p : Plane := asFin 4 (by decide) t.plane
  let port : Port := asFin 128 (by decide) t.inst
  let l : Lh := asFin 4 (by decide) t.inst
  let c : Chip := asFin 4 (by decide) t.inst
  let tb : Tb := asFin 8 (by decide) t.inst
  let tn : Tenant := asFin 4096 (by decide) t.inst
  let advance : State → State := fun s => { s with dev := s.dev.fresh.2 }
  let chance : State → Bool := fun s => s.dev.fresh.1 % 2 = 1
  match t.obj with
  | .fenceCmd => if v = 1 then some (execFence p rq) else if v = 2 then some (execUnfence p rq) else none
  | .portAdmin => some (execPortAdminWrite p port (BitVec.ofNat 8 v) rq)
  | .trainCmd => if v = 1 then some (execTrainCmd p port rq) else none
  | .swapCmd => if v = 1 then some (execHandOverToSpare p rq) else if v = 2 then some (execReturnFromSpare p rq) else none
  | .sprayMembers => some (execSprayMembersWrite p (BitVec.ofNat 256 v) rq)
  | .poolScrubCmd => if v = 1 then some (execPoolScrub p rq) else none
  | .cxlResetCmd => if v = 1 then some (execCxlReset p rq) else none
  | .gclEnable => some (execGclEnableWrite p (BitVec.ofNat 8 v) rq)
  | .gclCommitCmd => if v = 1 then some (execGclCommit p rq) else none
  | .rctxAbortCmd => if v = 1 then some (execRctxAbortCmd p rq) else none
  | .slotCmd =>
    if v = 1 then some (execSlotLoad p rq) else if v = 2 then some (execSlotLaunch p rq)
    else if v = 3 then some (execSlotStop p rq) else if v = 4 then some (execSlotClear p rq) else none
  | .grpExclude => some (execGrpExclude p (BitVec.ofNat 16 v) rq)
  | .grpCommitCmd => if v = 1 then some (execGrpCommit p rq) else none
  | .syncValue => some (execSyncValueWrite p (BitVec.ofNat 64 v) rq)
  | .cctxCmd => if v = 1 then some (execCctxLoad p rq) else if v = 2 then some (execCctxClear p rq) else none
  | .lhAdmin => some (execLhAdminWrite p l (BitVec.ofNat 8 v) rq)
  | .apsCommand => some (execApsCommand p (BitVec.ofNat 8 v) rq)
  | .tsiCommitCmd =>
    if v = 1 then some (fun s => if s.dev.sel .tsiDirSel p 0 rq.ses = 0 then execTsiCommitTx p rq s else execTsiCommitRx p rq s)
    else none
  | .tribDesc => some (execTribDescWrite p (BitVec.ofNat 32 v) rq)
  | .rekeyCmd => if v = 1 then some (execRekeyCmd p rq) else none
  | .masterCmd => if v = 1 then some (execMasterInstall p rq) else if v = 2 then some (execMasterErase p rq) else none
  | .rgnCmd =>
    if v = 1 then some (execRgnLoad p rq) else if v = 2 then some (execRgnArmCommit p rq)
    else if v = 3 then some (execRgnAbandon p rq) else if v = 4 then some (execRgnClear p rq) else none
  | .xtalkMode => some (execXtalkModeWrite p c (BitVec.ofNat 8 v) rq)
  | .calForceCmd => if v = 1 then some (execCalForce p c rq) else none
  | .matrixCmd => if v = 1 then some (execMatrixCmd p c rq) else none
  | .laserCmd => if v = 1 then some (execLaserEnable p c rq) else if v = 2 then some (execLaserDisable p c rq) else none
  | .bypCmd => if v = 1 then some (execBypassInstall p c rq) else if v = 2 then some (execBypassRemove p c rq) else none
  | .tbEnable => some (execTbEnableWrite p tb (BitVec.ofNat 8 v) rq)
  | .tbTime => some (execTbTimeWrite p tb (BitVec.ofNat 80 v) rq)
  | .tbSwitchCmd => if v = 1 then some (execTbSwitchToStandby p tb rq) else if v = 2 then some (execTbReturn p tb rq) else none
  | .tnCmd =>
    if v = 1 then some (execTenantCreate p tn rq) else if v = 2 then some (execTenantSuspend p tn rq)
    else if v = 3 then some (execTenantResume p tn rq) else if v = 4 then some (execTenantRemove p tn rq) else none
  | .lockCmd => if v = 1 then some (execLock rq) else if v = 2 then some (execLockRelease rq) else none
  | .factoryResetCmd => if v = 1 then some (execFactoryReset rq) else none
  | .snapCmd => if v = 1 then some (execSnapshotArm rq) else none
  | .replCmd => if v = 1 then some (execReplReasonSet rq) else if v = 2 then some (execReplReasonClear rq) else none
  | .retireClearCmd => if v = 1 then some (execRetireClear rq) else none
  | .diagInjectCmd => if v = 1 then some (execDiagInject rq) else none
  | .diagFullBistCmd =>
    if v = 1 then some (fun s => execFullBist ((bitsOf 65536 s.dev.fresh.1).map (BitVec.ofNat 16)) rq (advance s)) else none
  | .hfRestoreCmd => if v = 1 then some (fun s => execHfRestore p (chance s) rq (advance s)) else none
  | .hfRetireCmd => if v = 1 then some (execHfRetire p rq) else none
  | .planeRecoverCmd => if v = 1 then some (execPlaneRecoverCmd p rq) else none
  | .maintCmd => if v = 1 then some (execMaintEnter p rq) else if v = 2 then some (execMaintLeave p rq) else none
  | .fuseCmd => if v = 1 then some (fun s => execFuseCmd p (chance s) rq (advance s)) else none
  | .replanCmd => if v = 1 then some (execReplanCmd p rq) else none
  | .scCmd => if v = 1 then some (execScStart p rq) else if v = 2 then some (execScAbort p rq) else none
  | .fwUpdateCmd => if v = 1 then some (execFwVerify rq) else if v = 2 then some (execRollbackFloorRaise rq) else none
  | .planeResetCmd => if v = 1 then some (execPlaneResetCmd rq) else none
  | .cause => some (execCauseClear rq (BitVec.ofNat 16 idx) (BitVec.ofNat 32 v))
  | _ => none

/-- Whether a place is one of the two objects that the boot ROM holds (spec/20 R453). -/
def romObj (idx sub : Nat) : Bool := idx = 0x1210 && (sub = 6 || sub = 7)

/-- A request for a place: the boot ROM takes those for its own objects. -/
def Device.requestAt (d : Device) (rq : Req) (idx sub : Nat) (f : Device → Device × Resp) : Device :=
  if romObj idx sub then d.requestIf (d.romServed rq.ses.val) rq f else d.request rq f

/-- A WRITE request: where the place is an object whose write has a row of its own and the checks before 0x0303 pass, that row's
meaning; else the register is written under its owner's rule. -/
def Device.writeReq (d : Device) (rq : Req) (idx sub : Nat) (bytes : Bytes) : Device :=
  match target idx sub with
  | none => d.request rq (fun d => (d, statusResp rq 0x0201))
  | some t =>
    let w : Write := ⟨t, bytes.length, bytesToNat bytes⟩
    let row := if d.writeStatus w rq.ses.val = 0 then rowOf rq idx t w.val else none
    match row with
    | some f =>
      match f { dev := d } with
      | .next s => s.dev
      | _ => d
    | none => d.requestAt rq idx sub (fun d =>
        d.doWrite rq w (fun d => d.writeRule t rq.ses.val w.val) (fun d => d.writeEffect t rq.ses.val w.val))

/-- WRITE. -/
def execWrite (rq : Req) (idx : BitVec 16) (sub : Byte) (v : Bytes) (s : State) : Res :=
  s.run (fun d => d.writeReq rq idx.toNat sub.toNat v)

end Sys2Proof.Machine
end

