-- ==== Sys2Proof/Machine/Mgmt.lean ====
section
/-! DEFINITION. Sessions, reads, DOMAIN transfers and the host port (spec/17_object_dictionary.md 17.5 to 17.7). -/

namespace Sys2Proof.Machine

/-! ### Sessions (R375, R376, R383, R385) -/

/-- The open transfer of a session is discarded and counted (R385). -/
def Device.dropXfer (d : Device) (ses : Nat) : Device :=
  let s := d.session ses
  if s.xfer.isSome then (d.setSession ses { s with xfer := none, xferLost := true }).bump .domainDiscarded 4 0 else d

/-- A session ends. -/
def Device.endSession (d : Device) (ses : Nat) : Device :=
  if ses ≠ 0 && (d.session ses).isOpen then (d.dropXfer ses).setSession ses {} else d

/-- A session with fresh selectors. -/
def Device.openSession (d : Device) (ses port fp : Nat) : Device :=
  ({ d with regs := d.regs.filter (fun e => !(e.1.obj.isSel && e.1.idx % 32 = ses)) }).setSession ses
    { isOpen := true, port := port, fp := fp }

/-- NDP_HANDSHAKE on a port whose link is up: the chain must verify and the certificate hold a role (R376); beyond 16 sessions it is
refused (R375). -/
def Device.handshake (d : Device) (mp fp : Nat) (chainOk : Bool) : Device :=
  if !d.hubUp || d.get .mgmtLinkState 4 mp ≠ 1 then d
  else
    match ((List.range 16).map (· + 1)).find? (fun n => !(d.session n).isOpen) with
    | none => d
    | some n =>
      let e := d.openSession n mp fp
      if chainOk && (e.roles n ≠ 0 || e.agentOf n ≠ []) then e
      else (d.bump .ndpAuthFail 4 0).causeSecurity 0 0

/-- MGMT_LINK_DOWN: the port's sessions end. -/
def Device.mgmtDown (d : Device) (mp : Nat) : Device :=
  if !d.hubUp then d
  else
    let d := (d.set .mgmtLinkState 4 mp 0).causeHub 2 mp
    ((List.range 16).map (· + 1)).foldl (fun d n => if (d.session n).port = mp then d.endSession n else d) d

/-! ### Reads (R369, R372, R386, R479) -/

/-- A successful response with a value. -/
def valueResp (rq : Req) (typ : Nat) (sat : Bool) (v : Bytes) : Resp :=
  { ses := rq.ses.val, id := rq.id.toNat, status := 0, typ := typ, sat := sat, value := v }

/-- RO objects of 32 or 64 bits that are no counters (R386); the cipher counter's object is never cleared. -/
def stillObjs : List Obj :=
  [.fencedFabricLo, .fencedFabricHi, .peerId, .spareInUse, .sprayLive, .poolBuffers, .poolFree, .poolReserved, .quotaUsed,
   .gclActiveEntry, .qDepth, .qDelayNs, .rctxDesc, .rctxSeed, .redLaneRetired, .accFreeElements, .slotLaunchNo, .grpDescActive,
   .grpMemberActive, .cctxResBuffers, .cctxProjBuffers, .lhSkewNs, .lhMfnTx, .lhMfnRx, .tribTxNext, .tribRxExpected,
   .tribUnacked, .tribHeld, .cipherTxRetired, .cipherRxRetired, .keyCtrMax, .rgnVersion, .rgnT1Held, .replVersion,
   .mirrorVersion, .linkDelayNs, .lhLinkDelayNs, .tnCellsUsed, .fwVersion, .jnlGeneration, .jnlSeq, .jnlFreeBytes, .irqSummary,
   .timeSummary, .plSummary, .healthSummary, .bistRotationS, .fwVersionA, .fwVersionB, .rollbackFloor, .railMa, .causeUnit,
   .evtFilter]

/-- Whether an object is a counter that READ_CLEAR clears. -/
def Obj.isCounter (o : Obj) : Bool :=
  o.info.acc = .ro && (o.info.ty = .u32 || o.info.ty = .u64) && !stillObjs.contains o

/-- Checks 0x0102 to 0x0401 of a read. -/
def Device.readStatus (d : Device) (t : Target) (ses : Nat) : Nat :=
  let i := t.obj.info
  if i.ty = .domain then 0x0102
  else if i.acc = .wo then 0x0202
  else if !d.mayRead t ses then 0x0203
  else if t.plane < 4 && !d.answers t.plane then 0x0401
  else 0

/-- READ. -/
def Device.readReq (d : Device) (rq : Req) (idx sub : Nat) : Device × Resp :=
  match target idx sub with
  | none => (d, statusResp rq 0x0201)
  | some t =>
    let st := d.readStatus t rq.ses.val
    let i := d.place t rq.ses.val
    if st ≠ 0 then (d, statusResp rq st)
    else (d, valueResp rq t.obj.info.ty.code (d.satOf ⟨t.obj, t.plane, i⟩) (d.readBytes t.obj t.plane i))

/-- READ_CLEAR: the counter and its SAT are cleared once read; roles operator and fault manager. -/
def Device.readClearReq (d : Device) (rq : Req) (idx sub : Nat) : Device × Resp :=
  match target idx sub with
  | none => (d, statusResp rq 0x0201)
  | some t =>
    let i := d.place t rq.ses.val
    if t.obj.info.ty = .domain then (d, statusResp rq 0x0102)
    else if !t.obj.isCounter then (d, statusResp rq 0x0202)
    else if !d.holds rq.ses.val 3 then (d, statusResp rq 0x0203)
    else if t.plane < 4 && !d.answers t.plane then (d, statusResp rq 0x0401)
    else
      let k : Key := ⟨t.obj, t.plane, i⟩
      let r := valueResp rq t.obj.info.ty.code (d.satOf k) (d.readBytes t.obj t.plane i)
      ({ d.set t.obj t.plane i 0 with sat := d.sat.filter (· ≠ k) }, r)

/-! ### The host window (R5, R381) -/

/-- A value as the window holds it, the least significant byte first: the bytes of a read turned round, those of a TIME by its
seconds and its nanoseconds; OCTETS and STRING count as one value whose first byte is the most significant (DEDUCED, assumption
log 60). -/
def windowValue (ty : Ty) (v : Bytes) : Bytes :=
  if ty = .time then (v.take 6).reverse ++ (v.drop 6).reverse else v.reverse

/-- The 16 bytes of slot e: ten of value, byte 15 with [0] VALID and [1] SAT; all 0 while the entry of `hw_map` is empty or the
plane it names does not answer (R381). -/
def Device.windowSlot (d : Device) (e : Nat) : Bytes :=
  let v := d.get .hwMap 4 e
  match if v = 0 then none else target (fld v 16 16) (fld v 8 8) with
  | none => List.replicate 16 0
  | some t =>
    if t.plane < 4 && !d.answers t.plane then List.replicate 16 0
    else
      let i := d.place t 0
      let b := windowValue t.obj.info.ty (d.readBytes t.obj t.plane i)
      b ++ List.replicate (15 - b.length) 0 ++ [if d.satOf ⟨t.obj, t.plane, i⟩ then 3 else 1]

/-- What a read of `len` bytes at an offset of BAR2 returns: bytes of slot values taken at one instant. The table of commands has no
row for it, since it changes nothing (R382). -/
def Device.windowRead (d : Device) (off len : Nat) : Bytes :=
  (List.range len).map (fun k => (d.windowSlot ((off + k) / 16 % 4096)).getD ((off + k) % 16) 0)

/-! ### DOMAIN transfers (R384, R385) -/

/-- Bytes of a segment. -/
def segBytes : Nat := 1016

/-- The longest value a DOMAIN object takes (R384, Tables 17.12 and 20.7). -/
def domainMax (o : Obj) : Nat := if o = .caCert then 8192 else if o = .fwUpdate then 134217728 else 268435456

/-- Another session has a transfer of the object open. -/
def Device.domainBusy (d : Device) (k : Key) (ses : Nat) : Bool :=
  (List.range 17).any (fun s => s ≠ ses && (match (d.session s).xfer with | some x => x.key = k | none => false))

/-- Checks 0x0102 to 0x0401 of a DOMAIN service; `w` for one that writes. -/
def Device.domainAllowed (d : Device) (t : Target) (ses : Nat) (w : Bool) : Nat :=
  let i := t.obj.info
  if i.ty ≠ .domain then 0x0102
  else if (if w then i.acc = .ro else i.acc = .wo) then 0x0202
  else if !(if w then d.mayWrite t ses 0 else d.mayRead t ses) then 0x0203
  else if w && i.acc = .rwl && d.locked then 0x0204
  else if t.plane < 4 && !d.answers t.plane then 0x0401
  else 0

/-- Checks up to 0x0603 of a start. -/
def Device.domainStatus (d : Device) (t : Target) (ses : Nat) (w : Bool) : Nat :=
  let st := d.domainAllowed t ses w
  if st ≠ 0 then st else if d.domainBusy ⟨t.obj, t.plane, d.place t ses⟩ ses then 0x0603 else 0

/-- A start: the session's open transfer gives way. -/
def Device.domainStart (d : Device) (rq : Req) (idx sub : Nat) (w : Bool) (total_ crc : Nat) : Device × Resp :=
  let ses := rq.ses.val
  match target idx sub with
  | none => (d, statusResp rq 0x0201)
  | some t =>
    let i := d.place t ses
    let k : Key := ⟨t.obj, t.plane, i⟩
    let st := d.domainStatus t ses w
    let s := d.session ses
    if st ≠ 0 then (d, statusResp rq st)
    else if w then
      if domainMax t.obj < total_ then (d, statusResp rq 0x0303)
      else (d.setSession ses { s with xfer := some { key := k, write := true, total := total_, crc := crc }, xferLost := false },
            statusResp rq 0)
    else
      let v := d.domainValue t.obj t.plane i
      (d.setSession ses { s with xfer := some { key := k, write := false, data := v, total := v.length }, xferLost := false },
       valueResp rq t.obj.info.ty.code false (natToBytes 4 v.length ++ natToBytes 4 (crc32 v)))

/-- The session's open transfer at a place: the status of a segment where there is none, or where an earlier check of R479 fails. -/
def Device.openXfer (d : Device) (rq : Req) (idx sub : Nat) (w : Bool) : Nat × Option Xfer :=
  let ses := rq.ses.val
  match target idx sub with
  | none => (0x0201, none)
  | some t =>
    let st := d.domainAllowed t ses w
    if st ≠ 0 then (st, none)
    else
      match (d.session ses).xfer with
      | some x =>
        if x.write = w && x.key = ⟨t.obj, t.plane, d.place t ses⟩ then (0, some x) else (0x0601, none)
      | none => (if (d.session ses).xferLost then 0x0602 else 0x0601, none)

/-- DOMAIN_READ_SEG: from the copy, in any order. -/
def Device.domainReadSeg (d : Device) (rq : Req) (idx sub seg : Nat) : Device × Resp :=
  match d.openXfer rq idx sub false with
  | (_, some x) =>
    if seg * segBytes < x.total || seg = 0 then
      (d, valueResp rq x.key.obj.info.ty.code false (natToBytes 4 seg ++ (x.data.drop (seg * segBytes)).take segBytes))
    else (d, statusResp rq 0x0601)
  | (st, none) => (d, statusResp rq st)

/-- Apply a whole DOMAIN value: the CA certificate once journalled (R389), an image to the flash (R454). -/
def Device.domainApply (d : Device) (o : Obj) (v : Bytes) : Device × Bool :=
  match o with
  | .fwUpdate => (if d.spareImage = 0 then { d with hub.imgA := v } else { d with hub.imgB := v }, true)
  | .caCert =>
    let r := d.journal [(⟨.caCert, 4, 0⟩, bytesToNat (1 :: v))]
    if r.2 then (r.1.setDomain .caCert 4 0 v, true) else (r.1, false)
  | _ => (d, true)

/-- DOMAIN_WRITE_SEG: segments in order, all but the last full; the last byte brings the checks of total and CRC. -/
def Device.domainWriteSeg (d : Device) (rq : Req) (idx sub seg : Nat) (v : Bytes) : Device × Resp :=
  let ses := rq.ses.val
  match d.openXfer rq idx sub true with
  | (st, none) => (d, statusResp rq st)
  | (_, some x) =>
    let have_ := x.data.length + v.length
    if seg ≠ x.next || segBytes < v.length || (v.length < segBytes && have_ < x.total) then (d, statusResp rq 0x0601)
    else if have_ < x.total then
      (d.setSession ses { d.session ses with xfer := some { x with next := x.next + 1, data := x.data ++ v } }, statusResp rq 0)
    else
      let all := x.data ++ v
      let d := d.setSession ses { d.session ses with xfer := none }
      if have_ ≠ x.total || crc32 all ≠ x.crc then (d, statusResp rq 0x0604)
      else
        let r := d.domainApply x.key.obj all
        (r.1, statusResp rq (if r.2 then 0 else 0x0501))

/-- DOMAIN_ABORT: the session's open transfer is discarded. -/
def Device.domainAbort (d : Device) (rq : Req) (idx sub : Nat) : Device × Resp :=
  let s := d.session rq.ses.val
  match target idx sub with
  | none => (d, statusResp rq 0x0201)
  | some t =>
    if t.obj.info.ty ≠ .domain then (d, statusResp rq 0x0102)
    else if s.xfer.isNone then (d, statusResp rq (if s.xferLost then 0x0602 else 0x0601))
    else (d.setSession rq.ses.val { s with xfer := none }, statusResp rq 0)

/-! ### The mailbox (R379, R380, Tables 17.5 and 17.6) -/

/-- Data bytes that the request of a service carries. -/
def serviceLen (svc len : Nat) : Bool :=
  if svc = 1 || svc = 3 || svc = 4 || svc = 8 || svc = 9 then len = 0
  else if svc = 2 then len ≤ 1024
  else if svc = 5 then len = 4
  else if svc = 6 then len = 8
  else if svc = 7 then 4 ≤ len && len ≤ 1020
  else false

/-- Apply the message in MB_REQUEST: the checks of 0x0101, then the service. -/
def Device.mailbox (d : Device) (msg : Bytes) : Device :=
  let h := beNat msg 0 16
  let rq : Req := ⟨0, BitVec.ofNat 32 (fld h 64 32)⟩
  let svc := fld h 112 8
  let idx := fld h 48 16
  let sub := fld h 40 8
  let len := fld h 0 16
  let v := (msg.drop 16 ++ List.replicate 1024 0).take len
  if fld h 120 8 ≠ 1 || bit h 111 || fld h 104 6 ≠ 0 || fld h 32 8 ≠ 0 || !serviceLen svc len then
    d.requestIf (d.romServed 0) rq (fun d => (d.bump .ndpMalformed 4 0, statusResp rq 0x0101))
  else if svc = 1 then d.requestAt rq idx sub (fun d => d.readReq rq idx sub)
  else if svc = 2 then d.writeReq rq idx sub v
  else if svc = 3 then d.requestAt rq idx sub (fun d => d.readClearReq rq idx sub)
  else if svc = 4 then d.requestAt rq idx sub (fun d => d.domainStart rq idx sub false 0 0)
  else if svc = 5 then d.requestAt rq idx sub (fun d => d.domainReadSeg rq idx sub (bytesToNat v))
  else if svc = 6 then
    d.requestAt rq idx sub (fun d => d.domainStart rq idx sub true (beNat v 0 4) (beNat v 4 4))
  else if svc = 7 then
    d.requestAt rq idx sub (fun d => d.domainWriteSeg rq idx sub (beNat v 0 4) (v.drop 4))
  else if svc = 8 then d.requestAt rq idx sub (fun d => d.domainAbort rq idx sub)
  else d.requestIf (d.romServed 0) rq (fun d => (d, statusResp rq 0))

/-- A response as an NDP message (Table 17.5), the fields of the request copied. -/
def respBytes (msg : Bytes) (r : Resp) : Bytes :=
  let h := beNat msg 0 16
  natToBytes 16 (2 ^ 120 + fld h 112 8 * 2 ^ 112 + 2 ^ 111 + (if r.sat then 2 ^ 110 else 0) + r.typ % 64 * 2 ^ 104 +
    fld h 64 32 * 2 ^ 64 + fld h 48 16 * 2 ^ 48 + fld h 40 8 * 2 ^ 40 + r.status % 65536 * 2 ^ 16 + r.value.length % 65536) ++
    r.value

/-- MB_DOORBELL: ignored and counted while busy or ready; the response makes it ready. A hub that does not answer leaves it
busy. -/
def Device.doorbell (d : Device) (v : Nat) (msg : Bytes) : Device :=
  if v ≠ 1 then d
  else if d.hub.mbStatus ≠ 0 then { d with hub.mbIgnored := min 0xFFFFFFFF (d.hub.mbIgnored + 1) }
  else
    let d : Device := { d with hub.mbRequest := msg.take 1040, hub.mbStatus := 1 }
    let id := beNat msg 4 4
    let e := d.mailbox msg
    if !(d.hubUp || d.hub.romStay) then d
    else
      match (e.session 0).responses.find? (fun r => r.id = id) with
      | some r =>
        let e : Device := { e with hub.mbStatus := 2, hub.mbResponse := respBytes msg r }
        if e.hub.mbIrqEn then e.emit (.msix 0) else e
      | none => e

/-! ### Commands -/

/-- NDP_HANDSHAKE. -/
def execNdpHandshake (mp : Fin 2) (fp : BitVec 256) (chainOk : Bool) (s : State) : Res :=
  s.run (fun d => d.handshake mp fp.toNat chainOk)
/-- SESSION_IDLE_TIMEOUT. -/
def execSessionIdleTimeout (ses : Session) (s : State) : Res := s.run (fun d => if d.hubUp then d.endSession ses else d)
/-- MGMT_LINK_DOWN. -/
def execMgmtLinkDown (mp : Fin 2) (s : State) : Res := s.run (fun d => d.mgmtDown mp)
/-- MGMT_LINK_UP. -/
def execMgmtLinkUp (mp : Fin 2) (s : State) : Res := s.run (fun d => if d.hubUp then d.set .mgmtLinkState 4 mp 1 else d)
/-- HOST_LINK_TRAINED: used as trained. -/
def execHostLinkTrained (width rate : BitVec 4) (s : State) : Res :=
  s.run (fun d => { d with hub.hostLink := some (width.toNat, rate.toNat) })
/-- READ. -/
def execRead (rq : Req) (idx : BitVec 16) (sub : Byte) (s : State) : Res :=
  s.run (fun d => d.requestAt rq idx.toNat sub.toNat (fun d => d.readReq rq idx.toNat sub.toNat))
/-- READ_CLEAR. -/
def execReadClear (rq : Req) (idx : BitVec 16) (sub : Byte) (s : State) : Res :=
  s.run (fun d => d.requestAt rq idx.toNat sub.toNat (fun d => d.readClearReq rq idx.toNat sub.toNat))
/-- DOMAIN_READ_START. -/
def execDomainReadStart (rq : Req) (idx : BitVec 16) (sub : Byte) (s : State) : Res :=
  s.run (fun d => d.requestAt rq idx.toNat sub.toNat (fun d => d.domainStart rq idx.toNat sub.toNat false 0 0))
/-- DOMAIN_READ_SEG. -/
def execDomainReadSeg (rq : Req) (idx : BitVec 16) (sub : Byte) (seg : BitVec 32) (s : State) : Res :=
  s.run (fun d => d.requestAt rq idx.toNat sub.toNat (fun d => d.domainReadSeg rq idx.toNat sub.toNat seg.toNat))
/-- DOMAIN_WRITE_START. -/
def execDomainWriteStart (rq : Req) (idx : BitVec 16) (sub : Byte) (total crc : BitVec 32) (s : State) : Res :=
  s.run (fun d => d.requestAt rq idx.toNat sub.toNat (fun d =>
    d.domainStart rq idx.toNat sub.toNat true total.toNat crc.toNat))
/-- DOMAIN_WRITE_SEG. -/
def execDomainWriteSeg (rq : Req) (idx : BitVec 16) (sub : Byte) (seg : BitVec 32) (v : Bytes) (s : State) : Res :=
  s.run (fun d => d.requestAt rq idx.toNat sub.toNat (fun d =>
    d.domainWriteSeg rq idx.toNat sub.toNat seg.toNat v))
/-- DOMAIN_ABORT. -/
def execDomainAbort (rq : Req) (idx : BitVec 16) (sub : Byte) (s : State) : Res :=
  s.run (fun d => d.requestAt rq idx.toNat sub.toNat (fun d => d.domainAbort rq idx.toNat sub.toNat))
/-- DOMAIN_TIMEOUT: 2 s without a message for the transfer. -/
def execDomainTimeout (ses : Session) (s : State) : Res :=
  s.run (fun d => if d.hubUp || d.hub.romStay then d.dropXfer ses else d)
/-- KEEPALIVE. -/
def execKeepalive (rq : Req) (s : State) : Res := s.run (fun d => d.requestIf (d.romServed rq.ses.val) rq (fun d => (d, statusResp rq 0)))
/-- MB_DOORBELL. -/
def execMbDoorbell (v : BitVec 32) (msg : Bytes) (s : State) : Res := s.run (fun d => d.doorbell v.toNat msg)
/-- MB_STATUS_WRITE. -/
def execMbStatusWrite (v : BitVec 32) (s : State) : Res :=
  s.run (fun d => if v = 1 && d.hub.mbStatus = 2 then { d with hub.mbStatus := 0 } else d)
/-- HOST_WINDOW_WRITE: discarded and counted (R381). -/
def execHostWindowWrite (off : BitVec 16) (v : Bytes) (s : State) : Res :=
  let _ := off
  let _ := v
  s.run (fun d => if d.hubUp then d.bump .hostWinWrite 4 0 else d)

end Sys2Proof.Machine
end

