-- ==== Sys2Proof/Machine/Dispatch.lean ====
section
/-! DEFINITION. One arm per command of the table. -/

namespace Sys2Proof.Machine

def exec (i : Instr) (s : State) : Host.Outcome State Fault Refusal :=
  match i with
  | .hubLoss p => Sys2Proof.Machine.execHubLoss p s
  | .hubReturn p => Sys2Proof.Machine.execHubReturn p s
  | .fmTimeout => Sys2Proof.Machine.execFmTimeout s
  | .fence p rq => Sys2Proof.Machine.execFence p rq s
  | .unfence p rq => Sys2Proof.Machine.execUnfence p rq s
  | .fenceComplete p => Sys2Proof.Machine.execFenceComplete p s
  | .portAdminWrite p n v rq => Sys2Proof.Machine.execPortAdminWrite p n v rq s
  | .trainCmd p n rq => Sys2Proof.Machine.execTrainCmd p n rq s
  | .cdrLock p n => Sys2Proof.Machine.execCdrLock p n s
  | .fecLock p n => Sys2Proof.Machine.execFecLock p n s
  | .trainTxTimer p n => Sys2Proof.Machine.execTrainTxTimer p n s
  | .train p n f => Sys2Proof.Machine.execTrain p n f s
  | .trainDone p n f => Sys2Proof.Machine.execTrainDone p n f s
  | .trainingTimeout p n => Sys2Proof.Machine.execTrainingTimeout p n s
  | .trainingRetryTimer p n => Sys2Proof.Machine.execTrainingRetryTimer p n s
  | .credit p n f => Sys2Proof.Machine.execCredit p n f s
  | .creditTxTimer p n => Sys2Proof.Machine.execCreditTxTimer p n s
  | .retryNak p n f => Sys2Proof.Machine.execRetryNak p n f s
  | .ackTimeout p n => Sys2Proof.Machine.execAckTimeout p n s
  | .bypassPreamble p n => Sys2Proof.Machine.execBypassPreamble p n s
  | .rxForwardedFrame p n f => Sys2Proof.Machine.execRxForwardedFrame p n f s
  | .internalInputWrite p a => Sys2Proof.Machine.execInternalInputWrite p a s
  | .moveParkedFrame p row col => Sys2Proof.Machine.execMoveParkedFrame p row col s
  | .makeDeferredCopy p row col => Sys2Proof.Machine.execMakeDeferredCopy p row col s
  | .cellRelease p copy o => Sys2Proof.Machine.execCellRelease p copy o s
  | .reseqGapTimeout p flow => Sys2Proof.Machine.execReseqGapTimeout p flow s
  | .reseqFlowExpire p flow => Sys2Proof.Machine.execReseqFlowExpire p flow s
  | .kiteFault p row col => Sys2Proof.Machine.execKiteFault p row col s
  | .kiteSpareInService p row => Sys2Proof.Machine.execKiteSpareInService p row s
  | .spareKiteFault p row => Sys2Proof.Machine.execSpareKiteFault p row s
  | .handOverToSpare p rq => Sys2Proof.Machine.execHandOverToSpare p rq s
  | .returnFromSpare p rq => Sys2Proof.Machine.execReturnFromSpare p rq s
  | .kiteDrainComplete p row => Sys2Proof.Machine.execKiteDrainComplete p row s
  | .sprayMembersWrite p v rq => Sys2Proof.Machine.execSprayMembersWrite p v rq s
  | .poolCacheRefill p pool => Sys2Proof.Machine.execPoolCacheRefill p pool s
  | .poolScrub p rq => Sys2Proof.Machine.execPoolScrub p rq s
  | .poolScrubDone p pool => Sys2Proof.Machine.execPoolScrubDone p pool s
  | .cxlTrainComplete p width rate gib => Sys2Proof.Machine.execCxlTrainComplete p width rate gib s
  | .cxlLinkDown p => Sys2Proof.Machine.execCxlLinkDown p s
  | .cxlReset p rq => Sys2Proof.Machine.execCxlReset p rq s
  | .schedulingDecision p o => Sys2Proof.Machine.execSchedulingDecision p o s
  | .gateEntryChange p o => Sys2Proof.Machine.execGateEntryChange p o s
  | .gclEnableWrite p v rq => Sys2Proof.Machine.execGclEnableWrite p v rq s
  | .gclCommit p rq => Sys2Proof.Machine.execGclCommit p rq s
  | .gclPageSwap p o => Sys2Proof.Machine.execGclPageSwap p o s
  | .queuePromotion p o c t => Sys2Proof.Machine.execQueuePromotion p o c t s
  | .backgroundPromotion p o kind => Sys2Proof.Machine.execBackgroundPromotion p o kind s
  | .observationSample p o => Sys2Proof.Machine.execObservationSample p o s
  | .rctxClearDone p x => Sys2Proof.Machine.execRctxClearDone p x s
  | .reducerFrame p col copy => Sys2Proof.Machine.execReducerFrame p col copy s
  | .rctxIdleTimeout p x => Sys2Proof.Machine.execRctxIdleTimeout p x s
  | .rctxAbortCmd p rq => Sys2Proof.Machine.execRctxAbortCmd p rq s
  | .reducerLaneFault p col lane => Sys2Proof.Machine.execReducerLaneFault p col lane s
  | .spareLaneStandIn p col lane => Sys2Proof.Machine.execSpareLaneStandIn p col lane s
  | .accumulatorError p x elem => Sys2Proof.Machine.execAccumulatorError p x elem s
  | .slotLoad p rq => Sys2Proof.Machine.execSlotLoad p rq s
  | .slotLaunch p rq => Sys2Proof.Machine.execSlotLaunch p rq s
  | .slotStop p rq => Sys2Proof.Machine.execSlotStop p rq s
  | .slotClear p rq => Sys2Proof.Machine.execSlotClear p rq s
  | .launch p f => Sys2Proof.Machine.execLaunch p f s
  | .signal p f => Sys2Proof.Machine.execSignal p f s
  | .notify p f => Sys2Proof.Machine.execNotify p f s
  | .abortCtx p f => Sys2Proof.Machine.execAbortCtx p f s
  | .report p f => Sys2Proof.Machine.execReport p f s
  | .contribute p f => Sys2Proof.Machine.execContribute p f s
  | .xready p f => Sys2Proof.Machine.execXready p f s
  | .failed p f => Sys2Proof.Machine.execFailed p f s
  | .stepTimeout p sl => Sys2Proof.Machine.execStepTimeout p sl s
  | .xsiteTimeout p sl => Sys2Proof.Machine.execXsiteTimeout p sl s
  | .counts p f => Sys2Proof.Machine.execCounts p f s
  | .grpExclude p v rq => Sys2Proof.Machine.execGrpExclude p v rq s
  | .grpCommit p rq => Sys2Proof.Machine.execGrpCommit p rq s
  | .grpBoundary p g => Sys2Proof.Machine.execGrpBoundary p g s
  | .syncValueWrite p v rq => Sys2Proof.Machine.execSyncValueWrite p v rq s
  | .tileFault p tile => Sys2Proof.Machine.execTileFault p tile s
  | .compressUnit p c => Sys2Proof.Machine.execCompressUnit p c s
  | .lrTile p f => Sys2Proof.Machine.execLrTile p f s
  | .cctxLoad p rq => Sys2Proof.Machine.execCctxLoad p rq s
  | .cctxClear p rq => Sys2Proof.Machine.execCctxClear p rq s
  | .lhAdminWrite p l v rq => Sys2Proof.Machine.execLhAdminWrite p l v rq s
  | .carrierFrameTx p l => Sys2Proof.Machine.execCarrierFrameTx p l s
  | .carrierFrameRx p l cf => Sys2Proof.Machine.execCarrierFrameRx p l cf s
  | .carrierFrameAbsent p l => Sys2Proof.Machine.execCarrierFrameAbsent p l s
  | .lhLossOfSignal p l => Sys2Proof.Machine.execLhLossOfSignal p l s
  | .multiframeBoundary p => Sys2Proof.Machine.execMultiframeBoundary p s
  | .holdoffExpiry p g => Sys2Proof.Machine.execHoldoffExpiry p g s
  | .wtrExpiry p => Sys2Proof.Machine.execWtrExpiry p s
  | .apsCommand p v rq => Sys2Proof.Machine.execApsCommand p v rq s
  | .tsiCommitTx p rq => Sys2Proof.Machine.execTsiCommitTx p rq s
  | .tsiCommitRx p rq => Sys2Proof.Machine.execTsiCommitRx p rq s
  | .tribDescWrite p v rq => Sys2Proof.Machine.execTribDescWrite p v rq s
  | .ackReportTimer p tr => Sys2Proof.Machine.execAckReportTimer p tr s
  | .renakTimer p tr => Sys2Proof.Machine.execRenakTimer p tr s
  | .retxTimeout p tr => Sys2Proof.Machine.execRetxTimeout p tr s
  | .cipherFault p dir pipe => Sys2Proof.Machine.execCipherFault p dir pipe s
  | .masterInstall p rq => Sys2Proof.Machine.execMasterInstall p rq s
  | .masterErase p rq => Sys2Proof.Machine.execMasterErase p rq s
  | .rekeyCmd p rq => Sys2Proof.Machine.execRekeyCmd p rq s
  | .derivationComplete p => Sys2Proof.Machine.execDerivationComplete p s
  | .ckptWrite p port f => Sys2Proof.Machine.execCkptWrite p port f s
  | .ckptRead p port f => Sys2Proof.Machine.execCkptRead p port f s
  | .ckptData p f => Sys2Proof.Machine.execCkptData p f s
  | .replCommit p f => Sys2Proof.Machine.execReplCommit p f s
  | .replAck p f => Sys2Proof.Machine.execReplAck p f s
  | .replTimeout p g mirror => Sys2Proof.Machine.execReplTimeout p g mirror s
  | .rgnLoad p rq => Sys2Proof.Machine.execRgnLoad p rq s
  | .rgnArmCommit p rq => Sys2Proof.Machine.execRgnArmCommit p rq s
  | .rgnAbandon p rq => Sys2Proof.Machine.execRgnAbandon p rq s
  | .rgnClear p rq => Sys2Proof.Machine.execRgnClear p rq s
  | .rgnCommit p g => Sys2Proof.Machine.execRgnCommit p g s
  | .drainComplete p g => Sys2Proof.Machine.execDrainComplete p g s
  | .laserAbsent p c e => Sys2Proof.Machine.execLaserAbsent p c e s
  | .laserLevelAlarm p c e wl cdbm => Sys2Proof.Machine.execLaserLevelAlarm p c e wl cdbm s
  | .laserPresent p c e cdbm tones => Sys2Proof.Machine.execLaserPresent p c e cdbm tones s
  | .laserEnable p c rq => Sys2Proof.Machine.execLaserEnable p c rq s
  | .laserDisable p c rq => Sys2Proof.Machine.execLaserDisable p c rq s
  | .cmisPoll p m st outOff => Sys2Proof.Machine.execCmisPoll p m st outOff s
  | .moduleReadyTimeout p c e => Sys2Proof.Machine.execModuleReadyTimeout p c e s
  | .xtalkModeWrite p c v rq => Sys2Proof.Machine.execXtalkModeWrite p c v rq s
  | .ringLockLost p c ring => Sys2Proof.Machine.execRingLockLost p c ring s
  | .calPeriodExpiry p c j => Sys2Proof.Machine.execCalPeriodExpiry p c j s
  | .setpointErrorDue p c j => Sys2Proof.Machine.execSetpointErrorDue p c j s
  | .portIdleDetected p n => Sys2Proof.Machine.execPortIdleDetected p n s
  | .calRoundStart p c => Sys2Proof.Machine.execCalRoundStart p c s
  | .calRoundComplete p c fits => Sys2Proof.Machine.execCalRoundComplete p c fits s
  | .calWindowRequest p c j => Sys2Proof.Machine.execCalWindowRequest p c j s
  | .calForce p c rq => Sys2Proof.Machine.execCalForce p c rq s
  | .matrixCmd p c rq => Sys2Proof.Machine.execMatrixCmd p c rq s
  | .matrixRoundComplete p c j => Sys2Proof.Machine.execMatrixRoundComplete p c j s
  | .heaterStepCheck p c ring heaters => Sys2Proof.Machine.execHeaterStepCheck p c ring heaters s
  | .toneVerdict p c verdicts => Sys2Proof.Machine.execToneVerdict p c verdicts s
  | .resweepComplete p c bank locked heaters => Sys2Proof.Machine.execResweepComplete p c bank locked heaters s
  | .bypassInstall p c rq => Sys2Proof.Machine.execBypassInstall p c rq s
  | .bypassRemove p c rq => Sys2Proof.Machine.execBypassRemove p c rq s
  | .bypassWindowStart p n => Sys2Proof.Machine.execBypassWindowStart p n s
  | .bypassWindowEnd p n => Sys2Proof.Machine.execBypassWindowEnd p n s
  | .windowFrame p n f => Sys2Proof.Machine.execWindowFrame p n f s
  | .bypassPathCheck p c k pass => Sys2Proof.Machine.execBypassPathCheck p c k pass s
  | .sync p o m => Sys2Proof.Machine.execSync p o m s
  | .announce p o m => Sys2Proof.Machine.execAnnounce p o m s
  | .pdelayReq p o m => Sys2Proof.Machine.execPdelayReq p o m s
  | .pdelayResp p o m => Sys2Proof.Machine.execPdelayResp p o m s
  | .syncTxTimer p tb o => Sys2Proof.Machine.execSyncTxTimer p tb o s
  | .announceTxTimer p tb o => Sys2Proof.Machine.execAnnounceTxTimer p tb o s
  | .pdelayReqTimer p o => Sys2Proof.Machine.execPdelayReqTimer p o s
  | .linkDelayExpiry p o => Sys2Proof.Machine.execLinkDelayExpiry p o s
  | .holdoverTimeout p tb => Sys2Proof.Machine.execHoldoverTimeout p tb s
  | .standbyDiffRead p tb => Sys2Proof.Machine.execStandbyDiffRead p tb s
  | .tbEnableWrite p tb v rq => Sys2Proof.Machine.execTbEnableWrite p tb v rq s
  | .tbTimeWrite p tb v rq => Sys2Proof.Machine.execTbTimeWrite p tb v rq s
  | .tbSwitchToStandby p tb rq => Sys2Proof.Machine.execTbSwitchToStandby p tb rq s
  | .tbReturn p tb rq => Sys2Proof.Machine.execTbReturn p tb rq s
  | .snapshotLatch p => Sys2Proof.Machine.execSnapshotLatch p s
  | .tenantCreate p t rq => Sys2Proof.Machine.execTenantCreate p t rq s
  | .tenantSuspend p t rq => Sys2Proof.Machine.execTenantSuspend p t rq s
  | .tenantSuspendDone p t => Sys2Proof.Machine.execTenantSuspendDone p t s
  | .tenantResume p t rq => Sys2Proof.Machine.execTenantResume p t rq s
  | .tenantRemove p t rq => Sys2Proof.Machine.execTenantRemove p t rq s
  | .ndpHandshake mp fp chainOk => Sys2Proof.Machine.execNdpHandshake mp fp chainOk s
  | .sessionIdleTimeout ses => Sys2Proof.Machine.execSessionIdleTimeout ses s
  | .mgmtLinkDown mp => Sys2Proof.Machine.execMgmtLinkDown mp s
  | .read rq idx sub => Sys2Proof.Machine.execRead rq idx sub s
  | .write rq idx sub v => Sys2Proof.Machine.execWrite rq idx sub v s
  | .readClear rq idx sub => Sys2Proof.Machine.execReadClear rq idx sub s
  | .domainReadStart rq idx sub => Sys2Proof.Machine.execDomainReadStart rq idx sub s
  | .domainReadSeg rq idx sub seg => Sys2Proof.Machine.execDomainReadSeg rq idx sub seg s
  | .domainWriteStart rq idx sub total crc => Sys2Proof.Machine.execDomainWriteStart rq idx sub total crc s
  | .domainWriteSeg rq idx sub seg v => Sys2Proof.Machine.execDomainWriteSeg rq idx sub seg v s
  | .domainAbort rq idx sub => Sys2Proof.Machine.execDomainAbort rq idx sub s
  | .domainTimeout ses => Sys2Proof.Machine.execDomainTimeout ses s
  | .keepalive rq => Sys2Proof.Machine.execKeepalive rq s
  | .mbDoorbell v msg => Sys2Proof.Machine.execMbDoorbell v msg s
  | .mbStatusWrite v => Sys2Proof.Machine.execMbStatusWrite v s
  | .hostWindowWrite off v => Sys2Proof.Machine.execHostWindowWrite off v s
  | .lock rq => Sys2Proof.Machine.execLock rq s
  | .lockRelease rq => Sys2Proof.Machine.execLockRelease rq s
  | .factoryReset rq => Sys2Proof.Machine.execFactoryReset rq s
  | .snapshotArm rq => Sys2Proof.Machine.execSnapshotArm rq s
  | .causeClear rq idx v => Sys2Proof.Machine.execCauseClear rq idx v s
  | .subscribe rq idx mask => Sys2Proof.Machine.execSubscribe rq idx mask s
  | .unsubscribe rq flt => Sys2Proof.Machine.execUnsubscribe rq flt s
  | .eventAck rq seq => Sys2Proof.Machine.execEventAck rq seq s
  | .eventResendTimer => Sys2Proof.Machine.execEventResendTimer s
  | .healthWindowEnd p => Sys2Proof.Machine.execHealthWindowEnd p s
  | .hbmFault p pc retryOk => Sys2Proof.Machine.execHbmFault p pc retryOk s
  | .planeStateFault p => Sys2Proof.Machine.execPlaneStateFault p s
  | .diagInject rq => Sys2Proof.Machine.execDiagInject rq s
  | .hfRestore p bistPass rq => Sys2Proof.Machine.execHfRestore p bistPass rq s
  | .hfRetire p rq => Sys2Proof.Machine.execHfRetire p rq s
  | .planeRecoverCmd p rq => Sys2Proof.Machine.execPlaneRecoverCmd p rq s
  | .planeRecoveryStart p => Sys2Proof.Machine.execPlaneRecoveryStart p s
  | .planeRecoveryEnd p => Sys2Proof.Machine.execPlaneRecoveryEnd p s
  | .recoveryTimeout p => Sys2Proof.Machine.execRecoveryTimeout p s
  | .maintEnter p rq => Sys2Proof.Machine.execMaintEnter p rq s
  | .maintLeave p rq => Sys2Proof.Machine.execMaintLeave p rq s
  | .fuseCmd p fits rq => Sys2Proof.Machine.execFuseCmd p fits rq s
  | .fullBist failed rq => Sys2Proof.Machine.execFullBist failed rq s
  | .retireClear rq => Sys2Proof.Machine.execRetireClear rq s
  | .replReasonSet rq => Sys2Proof.Machine.execReplReasonSet rq s
  | .replReasonClear rq => Sys2Proof.Machine.execReplReasonClear rq s
  | .bistUnitStart p => Sys2Proof.Machine.execBistUnitStart p s
  | .bistUnitComplete p r => Sys2Proof.Machine.execBistUnitComplete p r s
  | .ageingMeasure p vals => Sys2Proof.Machine.execAgeingMeasure p vals s
  | .marginReplan p => Sys2Proof.Machine.execMarginReplan p s
  | .replanCmd p rq => Sys2Proof.Machine.execReplanCmd p rq s
  | .scStart p rq => Sys2Proof.Machine.execScStart p rq s
  | .scAbort p rq => Sys2Proof.Machine.execScAbort p rq s
  | .scRequest p f => Sys2Proof.Machine.execScRequest p f s
  | .scBoundary p => Sys2Proof.Machine.execScBoundary p s
  | .objects p f => Sys2Proof.Machine.execObjects p f s
  | .slots p f => Sys2Proof.Machine.execSlots p f s
  | .scDone p f => Sys2Proof.Machine.execScDone p f s
  | .scRefused p f => Sys2Proof.Machine.execScRefused p f s
  | .scTimeout p => Sys2Proof.Machine.execScTimeout p s
  | .poreset lowNs => Sys2Proof.Machine.execPoreset lowNs s
  | .planeRst p lowNs => Sys2Proof.Machine.execPlaneRst p lowNs s
  | .planeResetCmd rq => Sys2Proof.Machine.execPlaneResetCmd rq s
  | .hubBoot => Sys2Proof.Machine.execHubBoot s
  | .planeInit p st => Sys2Proof.Machine.execPlaneInit p st s
  | .refclkLost p => Sys2Proof.Machine.execRefclkLost p s
  | .refclkReturn p => Sys2Proof.Machine.execRefclkReturn p s
  | .avsUpdate busOk => Sys2Proof.Machine.execAvsUpdate busOk s
  | .pmbusPoll readings => Sys2Proof.Machine.execPmbusPoll readings s
  | .operatingPointChange tj => Sys2Proof.Machine.execOperatingPointChange tj s
  | .chipletTemperature p c t => Sys2Proof.Machine.execChipletTemperature p c t s
  | .thermalTrip => Sys2Proof.Machine.execThermalTrip s
  | .fwVerify rq => Sys2Proof.Machine.execFwVerify rq s
  | .rollbackFloorRaise rq => Sys2Proof.Machine.execRollbackFloorRaise rq s
  | .vddIoLow => Sys2Proof.Machine.execVddIoLow s
  | .clockRecoveryLockLoss p n w => Sys2Proof.Machine.execClockRecoveryLockLoss p n w s
  | .uncorrectableCodeword p n w => Sys2Proof.Machine.execUncorrectableCodeword p n w s
  | .faultRetryBistComplete p chan pass => Sys2Proof.Machine.execFaultRetryBistComplete p chan pass s
  | .longHaulRejoinTimeout p l => Sys2Proof.Machine.execLongHaulRejoinTimeout p l s
  | .longHaulPcsLock p l lock => Sys2Proof.Machine.execLongHaulPcsLock p l lock s
  | .mgmtLinkUp mp => Sys2Proof.Machine.execMgmtLinkUp mp s
  | .hostLinkTrained width rate => Sys2Proof.Machine.execHostLinkTrained width rate s
  | .planeNotAnswering p => Sys2Proof.Machine.execPlaneNotAnswering p s
  | .supplyCollapse at_ => Sys2Proof.Machine.execSupplyCollapse at_ s
  | .vddIoRestored => Sys2Proof.Machine.execVddIoRestored s
  | .hubRefclkLost => Sys2Proof.Machine.execHubRefclkLost s

end Sys2Proof.Machine
end

