-- ==== Sys2Proof/Machine/Line.lean ====
section
/-! DEFINITION. The block stream of a fabric port as its frames see it (spec/03_fabric_ports_and_link.md R39): how frames are laid
between start and terminate blocks, and how a receiver finds them. Transcoding and FEC (R38) stand below this and are not modelled.
The commands that carry a frame carry it whole, as found between its start and terminate blocks. -/

namespace Sys2Proof.Machine

/-- A block of the stream. A start block carries the start-of-frame delimiter; a terminate block carries the last bytes of a frame, at
most seven. -/
inductive LineBlock where
  | idle
  | start (delimiter : Byte)
  | data (b : Bytes)
  | term (b : Bytes)
  deriving DecidableEq, Repr

/-- The start-of-frame delimiter (R39); the timestamp points of spec/15 refer to it. -/
def startOfFrame : Byte := 0xD5

/-- The bytes of a frame: header, payload and, where there is a payload, its trailer (R40, R41). -/
def Frame.wire (f : Frame) : Bytes :=
  f.hdrBytes ++ (if f.payload = [] then [] else f.payload ++ natToBytes 4 f.trailer.toNat)

/-- Bytes as data blocks of eight and a terminate block with the rest. -/
def dataBlocks : Bytes → List LineBlock
  | a :: b :: c :: d :: e :: f :: g :: h :: rest => .data [a, b, c, d, e, f, g, h] :: dataBlocks rest
  | rest => [.term rest]

/-- A frame on the line. -/
def frameBlocks (f : Frame) : List LineBlock := .start startOfFrame :: dataBlocks (Frame.wire f)

/-- The stream of frames, each after its number of idle blocks. -/
def lineOf (l : List (Nat × Frame)) : List LineBlock := l.flatMap (fun x => List.replicate x.1 .idle ++ frameBlocks x.2)

/-- The frame that the bytes between a start and a terminate block spell; none where they are too few for a header. -/
def frameOf (b : Bytes) : Option Frame :=
  if b.length < 32 then none
  else
    let rest := b.drop 32
    some { hdr := BitVec.ofNat 256 (bytesToNat (b.take 32)), payload := rest.take (rest.length - 4),
           trailer := BitVec.ofNat 32 (bytesToNat (rest.drop (rest.length - 4))) }

/-- The frames that a receiver finds in a stream; `cur` holds the bytes since a start block. A start block with another delimiter
starts no frame, and an idle or start block ends one that no terminate block has ended. -/
def lineFrames : Option Bytes → List LineBlock → List Frame
  | _, [] => []
  | _, .idle :: r => lineFrames none r
  | _, .start x :: r => lineFrames (if x = startOfFrame then some [] else none) r
  | cur, .data b :: r => lineFrames (cur.map (· ++ b)) r
  | cur, .term b :: r => ((cur.map (· ++ b)).bind frameOf).toList ++ lineFrames none r

/-- The frames that the device has sent on a fabric port, in order. -/
def Device.sentOn (d : Device) (p n : Nat) : List Frame :=
  d.out.filterMap (fun o => match o with
    | .lfl q m f => if q = p && m = n then some f else none
    | _ => none)

/-- The stream a fabric port has sent, with the idle blocks that filled the time before each frame. -/
def Device.portLine (d : Device) (p n : Nat) (idle : Nat → Nat) : List LineBlock :=
  lineOf ((d.sentOn p n).zipIdx.map (fun x => (idle x.2, x.1)))

end Sys2Proof.Machine
end

