-- ==== Sys2Proof/WellFormed.lean ====
section
/-! DEFINITION. The limits the spec puts on a command's operands beyond the ranges of their types. -/

namespace Sys2Proof

/-- A frame on a line: LENGTH has 13 bits (spec/03 R40), so no more payload bytes can follow the header. -/
def Frame.fits (f : Frame) : Bool := decide (f.payload.length < 8192)

/-- A frame that an engine receives has passed the receive checks (spec/03 R57): its payload has LENGTH bytes, at most
4,096. -/
def Frame.wellSized (f : Frame) : Bool :=
  decide (f.payload.length = (f.hdr.extractLsb' 128 13).toNat) && decide (f.payload.length ≤ 4096)

/-- A PTP message: originTimestamp has 48-bit seconds, correctionField is a signed 64-bit number (spec/15 R339). -/
def PtpMsg.wf (m : PtpMsg) : Bool :=
  decide (m.origin < 2 ^ 48 * 1000000000) && decide (-(2 ^ 63) ≤ m.correction) && decide (m.correction < 2 ^ 63)

/-- No entry twice. -/
def noRepeats {α : Type} [DecidableEq α] (l : List α) : Bool := decide l.Nodup

/-- Well-formed commands: an accumulator has 196,608 elements (spec/07 R126), a carrier's area 8,320 bytes (spec/10 Table 10.1),
an input four wavelengths (spec/13 R292), a heater step four measured rings (spec/13 R311), the part eight rails read over
PMBus (spec/20 R448), an NDP value at most 1,024 bytes and a segment at most 1,016 (spec/17 R377, R384), a mailbox message 16 to
1,040 (spec/17 R380), the host window 64 KiB (spec/17 R379); session 0, the mailbox, has no idle time (spec/17 R375). -/
def Instr.wf (i : Instr) : Bool :=
  match i with
  | .hubLoss _ => true
  | .hubReturn _ => true
  | .fmTimeout => true
  | .fence _ _ => true
  | .unfence _ _ => true
  | .fenceComplete _ => true
  | .portAdminWrite _ _ _ _ => true
  | .trainCmd _ _ _ => true
  | .cdrLock _ _ => true
  | .fecLock _ _ => true
  | .trainTxTimer _ _ => true
  | .train _ _ f => f.fits
  | .trainDone _ _ f => f.fits
  | .trainingTimeout _ _ => true
  | .trainingRetryTimer _ _ => true
  | .credit _ _ f => f.fits
  | .creditTxTimer _ _ => true
  | .retryNak _ _ f => f.fits
  | .ackTimeout _ _ => true
  | .bypassPreamble _ _ => true
  | .rxForwardedFrame _ _ f => f.fits
  | .internalInputWrite _ _ => true
  | .moveParkedFrame _ _ _ => true
  | .makeDeferredCopy _ _ _ => true
  | .cellRelease _ _ _ => true
  | .reseqGapTimeout _ _ => true
  | .reseqFlowExpire _ _ => true
  | .kiteFault _ _ _ => true
  | .kiteSpareInService _ _ => true
  | .spareKiteFault _ _ => true
  | .handOverToSpare _ _ => true
  | .returnFromSpare _ _ => true
  | .kiteDrainComplete _ _ => true
  | .sprayMembersWrite _ _ _ => true
  | .poolCacheRefill _ _ => true
  | .poolScrub _ _ => true
  | .poolScrubDone _ _ => true
  | .cxlTrainComplete _ _ _ _ => true
  | .cxlLinkDown _ => true
  | .cxlReset _ _ => true
  | .schedulingDecision _ _ => true
  | .gateEntryChange _ _ => true
  | .gclEnableWrite _ _ _ => true
  | .gclCommit _ _ => true
  | .gclPageSwap _ _ => true
  | .queuePromotion _ _ _ _ => true
  | .backgroundPromotion _ _ _ => true
  | .observationSample _ _ => true
  | .rctxClearDone _ _ => true
  | .reducerFrame _ _ _ => true
  | .rctxIdleTimeout _ _ => true
  | .rctxAbortCmd _ _ => true
  | .reducerLaneFault _ _ _ => true
  | .spareLaneStandIn _ _ _ => true
  | .accumulatorError _ _ elem => decide (elem < 196608)
  | .slotLoad _ _ => true
  | .slotLaunch _ _ => true
  | .slotStop _ _ => true
  | .slotClear _ _ => true
  | .launch _ f => f.wellSized
  | .signal _ f => f.wellSized
  | .notify _ f => f.wellSized
  | .abortCtx _ f => f.wellSized
  | .report _ f => f.wellSized
  | .contribute _ f => f.wellSized
  | .xready _ f => f.wellSized
  | .failed _ f => f.wellSized
  | .stepTimeout _ _ => true
  | .xsiteTimeout _ _ => true
  | .counts _ f => f.wellSized
  | .grpExclude _ _ _ => true
  | .grpCommit _ _ => true
  | .grpBoundary _ _ => true
  | .syncValueWrite _ _ _ => true
  | .tileFault _ _ => true
  | .compressUnit _ _ => true
  | .lrTile _ f => f.wellSized
  | .cctxLoad _ _ => true
  | .cctxClear _ _ => true
  | .lhAdminWrite _ _ _ _ => true
  | .carrierFrameTx _ _ => true
  | .carrierFrameRx _ _ cf => decide (cf.area.length = 8320)
  | .carrierFrameAbsent _ _ => true
  | .lhLossOfSignal _ _ => true
  | .multiframeBoundary _ => true
  | .holdoffExpiry _ _ => true
  | .wtrExpiry _ => true
  | .apsCommand _ _ _ => true
  | .tsiCommitTx _ _ => true
  | .tsiCommitRx _ _ => true
  | .tribDescWrite _ _ _ => true
  | .ackReportTimer _ _ => true
  | .renakTimer _ _ => true
  | .retxTimeout _ _ => true
  | .cipherFault _ _ _ => true
  | .masterInstall _ _ => true
  | .masterErase _ _ => true
  | .rekeyCmd _ _ => true
  | .derivationComplete _ => true
  | .ckptWrite _ _ f => f.wellSized
  | .ckptRead _ _ f => f.wellSized
  | .ckptData _ f => f.wellSized
  | .replCommit _ f => f.wellSized
  | .replAck _ f => f.wellSized
  | .replTimeout _ _ _ => true
  | .rgnLoad _ _ => true
  | .rgnArmCommit _ _ => true
  | .rgnAbandon _ _ => true
  | .rgnClear _ _ => true
  | .rgnCommit _ _ => true
  | .drainComplete _ _ => true
  | .laserAbsent _ _ _ => true
  | .laserLevelAlarm _ _ _ _ _ => true
  | .laserPresent _ _ _ cdbm _ => decide (cdbm.length = 4)
  | .laserEnable _ _ _ => true
  | .laserDisable _ _ _ => true
  | .cmisPoll _ _ _ _ => true
  | .moduleReadyTimeout _ _ _ => true
  | .xtalkModeWrite _ _ _ _ => true
  | .ringLockLost _ _ _ => true
  | .calPeriodExpiry _ _ _ => true
  | .setpointErrorDue _ _ _ => true
  | .portIdleDetected _ _ => true
  | .calRoundStart _ _ => true
  | .calRoundComplete _ _ fits => noRepeats (fits.map (·.ring))
  | .calWindowRequest _ _ _ => true
  | .calForce _ _ _ => true
  | .matrixCmd _ _ _ => true
  | .matrixRoundComplete _ _ _ => true
  | .heaterStepCheck _ _ _ heaters => decide (heaters.length = 4)
  | .toneVerdict _ _ verdicts => noRepeats (verdicts.map (·.1))
  | .resweepComplete _ _ _ _ heaters => decide (heaters.length = 4)
  | .bypassInstall _ _ _ => true
  | .bypassRemove _ _ _ => true
  | .bypassWindowStart _ _ => true
  | .bypassWindowEnd _ _ => true
  | .windowFrame _ _ f => f.fits
  | .bypassPathCheck _ _ _ _ => true
  | .sync _ _ m => m.wf
  | .announce _ _ m => m.wf
  | .pdelayReq _ _ m => m.wf
  | .pdelayResp _ _ m => m.wf
  | .syncTxTimer _ _ _ => true
  | .announceTxTimer _ _ _ => true
  | .pdelayReqTimer _ _ => true
  | .linkDelayExpiry _ _ => true
  | .holdoverTimeout _ _ => true
  | .standbyDiffRead _ _ => true
  | .tbEnableWrite _ _ _ _ => true
  | .tbTimeWrite _ _ _ _ => true
  | .tbSwitchToStandby _ _ _ => true
  | .tbReturn _ _ _ => true
  | .snapshotLatch _ => true
  | .tenantCreate _ _ _ => true
  | .tenantSuspend _ _ _ => true
  | .tenantSuspendDone _ _ => true
  | .tenantResume _ _ _ => true
  | .tenantRemove _ _ _ => true
  | .ndpHandshake _ _ _ => true
  | .sessionIdleTimeout ses => decide (ses.val ≠ 0)
  | .mgmtLinkDown _ => true
  | .read _ _ _ => true
  | .write _ _ _ v => decide (v.length ≤ 1024)
  | .readClear _ _ _ => true
  | .domainReadStart _ _ _ => true
  | .domainReadSeg _ _ _ _ => true
  | .domainWriteStart _ _ _ _ _ => true
  | .domainWriteSeg _ _ _ _ v => decide (v.length ≤ 1016)
  | .domainAbort _ _ _ => true
  | .domainTimeout _ => true
  | .keepalive _ => true
  | .mbDoorbell _ msg => decide (16 ≤ msg.length) && decide (msg.length ≤ 1040)
  | .mbStatusWrite _ => true
  | .hostWindowWrite off v => decide (off.toNat + v.length ≤ 65536)
  | .lock _ => true
  | .lockRelease _ => true
  | .factoryReset _ => true
  | .snapshotArm _ => true
  | .causeClear _ _ _ => true
  | .subscribe _ _ _ => true
  | .unsubscribe _ _ => true
  | .eventAck _ _ => true
  | .eventResendTimer => true
  | .healthWindowEnd _ => true
  | .hbmFault _ _ _ => true
  | .planeStateFault _ => true
  | .diagInject _ => true
  | .hfRestore _ _ _ => true
  | .hfRetire _ _ => true
  | .planeRecoverCmd _ _ => true
  | .planeRecoveryStart _ => true
  | .planeRecoveryEnd _ => true
  | .recoveryTimeout _ => true
  | .maintEnter _ _ => true
  | .maintLeave _ _ => true
  | .fuseCmd _ _ _ => true
  | .fullBist units _ => noRepeats units
  | .retireClear _ => true
  | .replReasonSet _ => true
  | .replReasonClear _ => true
  | .bistUnitStart _ => true
  | .bistUnitComplete _ _ => true
  | .ageingMeasure _ vals => noRepeats (vals.map (·.1))
  | .marginReplan _ => true
  | .replanCmd _ _ => true
  | .scStart _ _ => true
  | .scAbort _ _ => true
  | .scRequest _ f => f.wellSized
  | .scBoundary _ => true
  | .objects _ f => f.wellSized
  | .slots _ f => f.wellSized
  | .scDone _ f => f.wellSized
  | .scRefused _ f => f.wellSized
  | .scTimeout _ => true
  | .poreset _ => true
  | .planeRst _ _ => true
  | .planeResetCmd _ => true
  | .hubBoot => true
  | .planeInit _ _ => true
  | .refclkLost _ => true
  | .refclkReturn _ => true
  | .avsUpdate _ => true
  | .pmbusPoll readings => decide (readings.length = 8)
  | .operatingPointChange _ => true
  | .chipletTemperature _ _ _ => true
  | .thermalTrip => true
  | .fwVerify _ => true
  | .rollbackFloorRaise _ => true
  | .vddIoLow => true
  | .clockRecoveryLockLoss _ _ _ => true
  | .uncorrectableCodeword _ _ _ => true
  | .faultRetryBistComplete _ _ _ => true
  | .longHaulRejoinTimeout _ _ => true
  | .longHaulPcsLock _ _ _ => true
  | .mgmtLinkUp _ => true
  | .hostLinkTrained _ _ => true
  | .planeNotAnswering _ => true
  | .supplyCollapse _ => true
  | .vddIoRestored => true
  | .hubRefclkLost => true

end Sys2Proof
end

