-- ==== Sys2Proof/Safety.lean ====
section
/-! DEFINITION. The terms in which statements about runs are made: what a command leaves alone, what has left the device, and
when a management request is taken. -/

namespace Sys2Proof.Machine

/-- The registers that are computed anew after every command: the summaries of the cause tree (spec/18 R397) and the stages of
bring-up (spec/20 R455). -/
def Obj.computed (o : Obj) : Bool :=
  match o with
  | .plSummary => true
  | .timeSummary => true
  | .irqSummary => true
  | .bringupStage => true
  | .bringupTimeMs => true
  | _ => false

/-- A device without its registers, what has left it, its pins and its sessions' records and responses: the parts that only
the chapters' engines change. -/
def Device.parts (d : Device) : Device :=
  { d with regs := [], sat := [], out := [], sessions := [],
           hub := { d.hub with irqN := true, serviceN := true, heldEvents := [], lastStamp := [] } }

/-- A session without the event records it was sent and the responses stored for it. -/
def SessionSt.bare (s : SessionSt) : SessionSt := { s with events := [], evSeq := 0, overflow := false, responses := [] }

/-- From `d` to `e` only registers named by `w`, the computed ones, event records, responses, pins and outputs may have changed,
and nothing that had left the device is taken back. -/
structure Device.Frame (d e : Device) (w : Obj → Nat → Nat → Prop) : Prop where
  regs : ∀ o p i, o.computed = false → ¬ w o p i → e.get o p i = d.get o p i
  parts : e.parts = d.parts
  sessions : ∀ n, (e.session n).bare = (d.session n).bare
  out : ∃ l, e.out = d.out ++ l

/-- The register file is in its one canonical form (keys strictly rising, no entry at its reset value), and every register holds
a value of its width. -/
def Device.RegsWf (d : Device) : Bool :=
  Tbl.wf Key.lt (fun k => k.obj.dflt k.idx) d.regs && d.regs.all (fun e => e.2 < 2 ^ e.1.obj.width)

/-- The registers of cause object `i` of plane `p` (spec/18 R398): `cause`, `cause_unit` and `cause_time`. -/
def causeRegs (p i : Nat) (o : Obj) (p' i' : Nat) : Prop :=
  (o = .cause ∨ o = .causeUnit ∨ o = .causeTime) ∧ p' = p ∧ i' = i

/-- Between `d` and `e` an output left the device. -/
def Device.Sends (d e : Device) (x : Out) : Prop := ∃ l, e.out = d.out ++ l ∧ x ∈ l

/-! ### Management requests -/

/-- The hub takes a request that is no repetition (spec/17 R378): it answers, its image runs, the session is open, and the
REQ_ID is not among those whose responses are stored. -/
def Device.takes (d : Device) (rq : Req) : Bool :=
  d.served rq.ses.val && !d.hub.romStay && (d.session rq.ses.val).responses.all (fun r => r.id ≠ rq.id.toNat)

/-- A write that the hub takes and that passes every check of its object (spec/17 R369, R370, R479). -/
def Device.admits (d : Device) (rq : Req) (w : Write) : Bool :=
  d.takes rq && (d.fmMessage rq.ses.val).writeStatus w rq.ses.val = 0 &&
    !(d.fmMessage rq.ses.val).cmdBusy w.tgt rq.ses.val

/-- The same for a command object whose chapter says what comes of a command while another is in progress. -/
def Device.admitsNow (d : Device) (rq : Req) (w : Write) : Bool :=
  d.takes rq && (d.fmMessage rq.ses.val).writeStatus w rq.ses.val = 0

/-- After a message of session `ses` the journal takes a record of these values (spec/17 R389, R391). -/
def Device.journals (d : Device) (ses : Nat) (l : List (Key × Nat)) : Bool := ((d.fmMessage ses).journal l).2

/-- The device once a message of a session has come: from a session with the fault-manager role it shows that the fault manager
is present (spec/02 R31). -/
def Device.heard (d : Device) (ses : Nat) : Device :=
  { d with hub.fmPresent := d.hub.fmPresent || (ses ≠ 0 && d.holds ses 2) }

/-- What every request moves: the count of requests, and the cause of the fault manager's absence that its message clears
(spec/02 R31). -/
def requestRegs (o : Obj) (p i : Nat) : Prop := (o = .ndpRequests ∧ p = 4 ∧ i = 0) ∨ causeRegs 4 1 o p i

/-- A request was answered with a status: the response has left, and is the newest of those stored for its session
(spec/17 R378). -/
def Device.Answered (e : Device) (rq : Req) (st : Nat) : Prop :=
  .resp (statusResp rq st) ∈ e.out ∧ (e.session rq.ses.val).responses.head? = some (statusResp rq st)

/-! ### Collectives -/

/-- No switch of a group is pending or under way on a plane (spec/08 Table 8.12). -/
def Device.noSwitch (d : Device) (p : Nat) : Bool := d.groupsIn p 2 = [] && d.groupsIn p 3 = []

/-- No slot of a plane has a move to make, no context a result to send, no notify entry is due, and no switch of a group is
(spec/08 R162, R172, R185). -/
def Device.still (d : Device) (p : Nat) : Bool :=
  decide (d.groupsIn p 3 = []) && (d.groupsIn p 2).all (fun g => decide (d.get .grpBoundaryKind p g ≠ 1) || !d.grpBoundaryMet p g) &&
  (d.activeSlots p).all (fun sl => (d.slotMove p sl).isNone) &&
    d.rctxs.all (fun e => decide (e.1.1 ≠ p) || decide (e.2.dest = 0xFFFF) || decide (d.ctxState p e.1.2 ≠ 2)) &&
    d.notifies.all (fun n => decide (n.plane ≠ p) || decide (d.syncVal p n.obj < n.value))

/-- A sequencer message that a slot takes: it is not held for a state copy, and passes the checks of Table 8.6. -/
def Device.heeds (d : Device) (p : Nat) (f : Sys2Proof.Frame) : Bool :=
  let sl := f.context
  let m := msgOf f
  let tn := d.get .slotTenant p sl
  let member := (d.memberOf p (d.get .slotGroup p sl) f.srcDevice f.srcPort).isSome
  let named := decide (f.srcPort = 0xFE) && (d.namedBy p sl 5 f.srcDevice || d.namedBy p sl 6 f.srcDevice)
  !d.scRuns p && decide (sl ≤ 0x3FF) && decide (d.get .slotState p sl ≠ 0) && !m.bad && decide (f.tenant = tn) &&
    (member || ((decide (m.typ = 4) || decide (0x81 ≤ m.typ)) && named)) &&
    (decide (m.typ = 1) || decide (m.gen = d.get .slotGen p sl)) &&
    (!(decide (m.typ = 2) || decide (m.typ = 3)) || d.inTnRange .tnSyncRange p tn 16 14 15 m.arg)

end Sys2Proof.Machine
end

