-- ==== Sys2Proof/Certificates/Slice0/Obligations.lean ====
section
/-! DEFINITION. The statements about the device: what each command does where its spec lets it act, what it leaves alone, what a
request answers, and what holds of the machine as a whole. -/

open Sys2Proof Sys2Proof.Machine
/-! ### Planes, hub, fault manager and fences -/

/-- R19, R31 and R401: a plane that finds the hub silent raises hub loss in its own block and goes on; the hub raises the loss
of the fault manager, and with the plane as unit that a plane does not answer. Nothing else moves. When the hub answers again the plane
sees it, counts as answering, and one that waited for the hub starts its initialisation (R444). -/
def Obligations.LivenessCauses : Prop :=
  ∀ (s : State) (p : Plane),
    (∃ t, exec (.hubLoss p) s = .next t ∧ t.pending = s.pending ∧ t.dev.hub.silent = true ∧
      (t.dev.plane p).hubSilent = true ∧ bit (t.dev.get .cause p 11) 0 = true ∧
      Device.Frame ({ s.dev with hub.silent := true }.setPlane p { s.dev.plane p with hubSilent := true }) t.dev
        (causeRegs p 11)) ∧
    (s.dev.hubUp = true → ∃ t, exec .fmTimeout s = .next t ∧ t.pending = s.pending ∧ t.dev.hub.fmPresent = false ∧
      bit (t.dev.get .cause 4 1) 0 = true ∧
      Device.Frame { s.dev with hub.fmPresent := false } t.dev (causeRegs 4 1)) ∧
    (s.dev.hub.running = true → ∃ t, exec (.hubReturn p) s = .next t ∧ t.pending = s.pending ∧ t.dev.hubUp = true ∧
      (t.dev.plane p).hubSilent = false ∧ (t.dev.plane p).notAnswering = false ∧
      (t.dev.plane p).cond = (if (s.dev.plane p).cond = .waiting then .inReset else (s.dev.plane p).cond) ∧
      ∀ q, q ≠ p.val → t.dev.plane q = s.dev.plane q) ∧
    (s.dev.snap.armed = false → ∃ t, exec (.planeNotAnswering p) s = .next t ∧ t.pending = s.pending ∧
      t.dev.answers p = false ∧ bit (t.dev.get .cause 4 1) 1 = true ∧
      Device.Frame (s.dev.setPlane p { s.dev.plane p with notAnswering := true }) t.dev (causeRegs 4 1))

/-- R35 and R36: an accepted fence, with no other one in progress on the plane, takes every fabric port of the partition to FENCED
and sets the fence bit of every such port and of every long-haul port of it, and no fence bit of another fabric port; an accepted
unfence returns the partition's fenced ports to training and clears their bits; `fence_cmd` reads 0x01 until the transmitters are
dark and 0x02 after, and 0x03 for a command that came while another was in progress, which does nothing else. -/
def Obligations.FenceCommand : Prop :=
  ∀ (s : State) (p : Plane) (rq : Req),
    let mine := fun (n : Nat) => s.dev.get .portPartition p n = s.dev.get .fencePartition p 0
    let mineLh := fun (l : Nat) => s.dev.get .lhPortPartition p l = s.dev.get .fencePartition p 0
    (s.dev.admitsNow rq ⟨⟨.fenceCmd, p, 0⟩, 1, 1⟩ = true → (s.dev.plane p).fenceBusy = false →
      ∃ t, exec (.fence p rq) s = .next t ∧ t.pending = s.pending ∧ t.dev.get .fenceCmd p 0 = 1 ∧
        (t.dev.plane p).fenceBusy = true ∧ t.dev.Answered rq 0 ∧
        (∀ n : Port, mine n → (t.dev.port p n).fenced = true ∧ t.dev.get .portState p n = 6) ∧
        (∀ n : Port, ¬ mine n → (t.dev.port p n).fenced = (s.dev.port p n).fenced) ∧
        (∀ l : Lh, mineLh l → bit (t.dev.get .fencedLongHaul p 0) l = true)) ∧
    (s.dev.admitsNow rq ⟨⟨.fenceCmd, p, 0⟩, 1, 2⟩ = true → (s.dev.plane p).fenceBusy = false →
      ∃ t, exec (.unfence p rq) s = .next t ∧ t.pending = s.pending ∧ t.dev.get .fenceCmd p 0 = 2 ∧
        t.dev.Answered rq 0 ∧
        (∀ n : Port, mine n → (t.dev.port p n).fenced = false ∧
          ((s.dev.port p n).fenced = true → t.dev.get .portState p n = 0)) ∧
        (∀ n : Port, ¬ mine n → (t.dev.port p n).fenced = (s.dev.port p n).fenced ∧
          t.dev.get .portState p n = s.dev.get .portState p n) ∧
        (∀ l : Lh, mineLh l → bit (t.dev.get .fencedLongHaul p 0) l = false)) ∧
    ((s.dev.plane p).fenceBusy = true →
      (∃ t, exec (.fenceComplete p) s = .next t ∧ t.pending = s.pending ∧ t.dev.get .fenceCmd p 0 = 2 ∧
        Device.Frame (s.dev.setPlane p { s.dev.plane p with fenceBusy := false }) t.dev
          (fun o q i => o = .fenceCmd ∧ q = p ∧ i = 0)) ∧
      (s.dev.admitsNow rq ⟨⟨.fenceCmd, p, 0⟩, 1, 1⟩ = true →
        ∃ t, exec (.fence p rq) s = .next t ∧ t.dev.get .fenceCmd p 0 = 3 ∧ t.dev.Answered rq 0 ∧
          Device.Frame (s.dev.heard rq.ses.val) t.dev (fun o q i => requestRegs o q i ∨ (o = .fenceCmd ∧ q = p ∧ i = 0))) ∧
      (s.dev.admitsNow rq ⟨⟨.fenceCmd, p, 0⟩, 1, 2⟩ = true →
        ∃ t, exec (.unfence p rq) s = .next t ∧ t.dev.get .fenceCmd p 0 = 3 ∧ t.dev.Answered rq 0 ∧
          Device.Frame (s.dev.heard rq.ses.val) t.dev (fun o q i => requestRegs o q i ∨ (o = .fenceCmd ∧ q = p ∧ i = 0))))
/-! ### Fabric ports (spec/03) -/

/-- R46, R47, R49, R58: what training does to a port. Clock recovery takes it from DOWN to OPTICAL and codeword lock to
FEC_LOCK, with the limits it grants loaded: those of `credit_limit`, or unchanged those of before where frames are kept over a
lane retirement. With its first training frame it is in EXCHANGE, where it sends TRAIN, and TRAIN_DONE once three training frames
have agreed; a training frame that passes the checks, names the plane and leaves four common wavelengths agrees with the last where
it equals it in all but MSG and TRAIN_SEQ; having sent and received TRAIN_DONE the port is UP once its row backs its limits (the
model's reading, assumption log 24), and there a TRAIN_DONE is ignored. A timeout counts a failed training and takes the port DOWN,
the 16th in a row raising the training-failure cause; the retry timer starts a port that is DOWN anew. -/
def Obligations.PortTraining : Prop :=
  ∀ (s : State) (p : Plane) (n : Port) (f : Frame), s.dev.live p = true →
    let frames := fun (e : Device) => Device.Frame (s.dev.setPort p n (e.port p n)) e (fun _ _ _ => False)
    (s.dev.canTrain p n = true → s.dev.get .portState p n = 0 → ∃ t, exec (.cdrLock p n) s = .next t ∧
      t.pending = s.pending ∧ t.dev.get .portState p n = 1 ∧ t.dev.ports = s.dev.ports ∧
      (∀ k, k ≠ n % 32 → ((t.dev.cal p (n / 32)).toned.contains k = (s.dev.cal p (n / 32)).toned.contains k)) ∧
      ∀ q m, (q ≠ p.val ∨ m ≠ n.val) → t.dev.get .portState q m = s.dev.get .portState q m) ∧
    (s.dev.canTrain p n = true → s.dev.get .portState p n = 1 → ∃ t, exec (.fecLock p n) s = .next t ∧
      t.pending = s.pending ∧ t.dev.get .portState p n = 2 ∧
      t.dev.port p n = { s.dev.port p n with
        limRx := if (s.dev.port p n).resendFree = true ∧ (s.dev.port p n).limRx ≠ [] then (s.dev.port p n).limRx
          else octetList 8 16 (s.dev.get .creditLimit p n),
        agree := 0, agreed := false, doneSent := false, doneRcvd := false } ∧
      ∀ q m, (q ≠ p.val ∨ m ≠ n.val) → t.dev.get .portState q m = s.dev.get .portState q m ∧ t.dev.port q m = s.dev.port q m) ∧
    (s.dev.canTrain p n = true → s.dev.get .portState p n < 4 → ∃ t, exec (.trainingTimeout p n) s = .next t ∧
      t.pending = s.pending ∧ t.dev.get .portState p n = 0 ∧
      t.dev.get .trainingFail p n = min (s.dev.get .trainingFail p n + 1) (2 ^ 32 - 1) ∧
      (t.dev.port p n).failed = (s.dev.port p n).failed + 1 ∧
      (15 ≤ (s.dev.port p n).failed → bit (t.dev.get .cause p 1) 7 = true)) ∧
    (s.dev.canTrain p n = true → s.dev.get .portState p n = 0 → ∃ t, exec (.trainingRetryTimer p n) s = .next t ∧
      t.pending = s.pending ∧ t.dev.get .portState p n = 0 ∧
      t.dev.port p n = { failed := (s.dev.port p n).failed, trainSeq := (s.dev.port p n).trainSeq,
                         fenced := (s.dev.port p n).fenced, holdDown := (s.dev.port p n).holdDown }) ∧
    ((s.dev.cal p (n / 32)).round = none →
      (s.dev.get .portState p n = 2 → (s.dev.port p n).doneRcvd = false → ∃ t, exec (.trainTxTimer p n) s = .next t ∧
        t.dev.get .portState p n = 3) ∧
      (s.dev.get .portState p n = 3 → (s.dev.port p n).doneRcvd = false → ∃ t, exec (.trainTxTimer p n) s = .next t ∧
        t.pending = s.pending ∧
        s.dev.Sends t.dev (.lfl p n ((s.dev.peerMk p n { opcode := opCtrl, cls := 5, hops := 1 }).frame
          (s.dev.trainPayload p n (if (s.dev.port p n).agreed then 2 else 1)))) ∧
        t.dev.port p n = { s.dev.port p n with
          trainSeq := ((s.dev.port p n).trainSeq + 1) % 256,
          doneSent := (s.dev.port p n).doneSent || (s.dev.port p n).agreed } ∧ frames t.dev) ∧
      (s.dev.get .portState p n = 3 → (s.dev.port p n).doneRcvd = true → (s.dev.port p n).agreed = true →
        s.dev.backs p n = true → ∃ t, exec (.trainTxTimer p n) s = .next t ∧ t.dev.get .portState p n = 4) ∧
      (s.dev.get .portState p n = 4 → s.dev.linkChecks p n f 32 true = (s.dev, true) →
        fld (bytesToNat f.payload) 248 8 = 2 → ∃ t, exec (.trainDone p n f) s = .next t ∧
          Device.Frame s.dev t.dev (fun _ _ _ => False)) ∧
      (s.dev.get .portState p n = 3 → s.dev.linkChecks p n f 32 true = (s.dev, true) →
        fld (bytesToNat f.payload) 234 2 = p → (bitsOf 4 (fld (bytesToNat f.payload) 220 4 &&& s.dev.lanes p n)).length = 4 →
        let key := BitVec.ofNat 256 (setFld (setFld (bytesToNat f.payload) 248 8 0) 208 8 0)
        let agree := if 0 < (s.dev.port p n).agree ∧ (s.dev.port p n).lastTrain = key then (s.dev.port p n).agree + 1 else 1
        let took := { s.dev.port p n with agree := agree, agreed := (s.dev.port p n).agreed || decide (3 ≤ agree), lastTrain := key }
        (fld (bytesToNat f.payload) 248 8 = 1 → (s.dev.port p n).doneSent = false →
          ∃ t, exec (.train p n f) s = .next t ∧ t.pending = s.pending ∧ t.dev.port p n = took ∧ frames t.dev) ∧
        (fld (bytesToNat f.payload) 248 8 = 2 → (s.dev.port p n).doneSent = false →
          ∃ t, exec (.trainDone p n f) s = .next t ∧ t.pending = s.pending ∧
            t.dev.port p n = { took with doneRcvd := true } ∧ frames t.dev) ∧
        (fld (bytesToNat f.payload) 248 8 = 2 → (s.dev.port p n).doneSent = true → s.dev.backs p n = true →
          ∃ t, exec (.trainDone p n f) s = .next t ∧ t.dev.get .portState p n = 4)))

/-- R50, R51, R54, R55, R56, R61: a CREDIT frame in UP brings the peer's freed counts and its cumulative acknowledgement; the
timer sends one that reports what was freed and the last number in order, while a frame is unacknowledged, on either side, or a
class has cells outstanding; a RETRY_NAK starts the resend from its number, one outside the outstanding frames is counted; the
acknowledgement timer resends from the oldest frame, and where a frame has been transmitted eight times the port counts it, raises
the cause and leaves UP for training; preamble frames do nothing. A RETRY_NAK that acts is stated where no calibration round runs
on the chiplet, which a received frame would abort (R306). -/
def Obligations.LinkAcknowledgement : Prop :=
  ∀ (s : State) (p : Plane) (n : Port) (f : Frame), s.dev.live p = true → s.dev.get .portState p n = 4 →
    (s.dev.linkChecks p n f 16 false = (s.dev, true) → ∃ t, exec (.credit p n f) s = .next t ∧ t.pending = s.pending ∧
      (t.dev.port p n).freedPeer = octetList 8 16 (bytesToNat f.payload) ∧
      (t.dev.port p n).unacked = (match (s.dev.port p n).outstanding f.linkSeq with
        | some k => (s.dev.port p n).unacked.drop (k + 1)
        | none => (s.dev.port p n).unacked)) ∧
    ((s.dev.port p n).unacked ≠ [] ∨ (s.dev.port p n).rxExp ≠ (s.dev.port p n).ackSent ∨
        (∃ c < 8, nth (s.dev.port p n).rcvd c ≠ nth (s.dev.port p n).reported c) →
      ∃ t, exec (.creditTxTimer p n) s = .next t ∧ t.pending = s.pending ∧
      s.dev.Sends t.dev (.lfl p n ((s.dev.peerMk p n
        { opcode := opCredit, cls := 5, hops := 1, linkSeq := ((s.dev.port p n).rxExp + 4095) % 4096 }).frame
          ((List.range 8).flatMap (fun c => natToBytes 2 (nth (s.dev.port p n).freed c))))) ∧
      (t.dev.port p n).reported = (s.dev.port p n).freed ∧ (t.dev.port p n).ackSent = (s.dev.port p n).rxExp) ∧
    ((s.dev.cal p (n / 32)).round = none → s.dev.linkChecks p n f 0 false = (s.dev, true) →
      (s.dev.port p n).outstanding f.linkSeq = none →
      ∃ t, exec (.retryNak p n f) s = .next t ∧ t.dev.get .nakIgnored p n = min (s.dev.get .nakIgnored p n + 1) (2 ^ 32 - 1) ∧
        Device.Frame s.dev t.dev (fun o q i => o = .nakIgnored ∧ q = p ∧ i = n)) ∧
    (∀ k, (s.dev.cal p (n / 32)).round = none → (s.dev.port p n).outstanding f.linkSeq = some k →
      s.dev.linkChecks p n f 0 false = (s.dev, true) →
      (∀ u ∈ (s.dev.port p n).unacked.drop k, (s.dev.copy? p u.copy).isSome ∧ u.tries < 8) →
      ∃ t, exec (.retryNak p n f) s = .next t ∧ t.pending = s.pending ∧
        Device.Frame (s.dev.setPort p n { s.dev.port p n with
          resend := ((s.dev.port p n).unacked.drop k).map (·.seq), resendFree := false }) t.dev (fun _ _ _ => False)) ∧
    ((s.dev.port p n).unacked ≠ [] →
      (∀ u ∈ (s.dev.port p n).unacked, (s.dev.copy? p u.copy).isSome ∧ u.tries < 8) →
      ∃ t, exec (.ackTimeout p n) s = .next t ∧ t.pending = s.pending ∧
        Device.Frame (s.dev.setPort p n { s.dev.port p n with
          resend := (s.dev.port p n).unacked.map (·.seq), resendFree := false }) t.dev (fun _ _ _ => False)) ∧
    ((∀ u ∈ (s.dev.port p n).unacked, (s.dev.copy? p u.copy).isSome) → (∃ u ∈ (s.dev.port p n).unacked, 8 ≤ u.tries) →
      (s.dev.port p n).fenced = false →
      ∃ t, exec (.ackTimeout p n) s = .next t ∧ t.pending = s.pending ∧ t.dev.get .portState p n = 0 ∧
        t.dev.get .retryExhausted p n = min (s.dev.get .retryExhausted p n + 1) (2 ^ 32 - 1) ∧
        bit (t.dev.get .cause p 1) 8 = true ∧ (t.dev.port p n).unacked = []) ∧
    (∃ t, exec (.bypassPreamble p n) s = .next t ∧ t.pending = s.pending ∧ Device.Frame s.dev t.dev (fun _ _ _ => False))

/-- R63: an accepted write of `port_admin` is journalled and in force at once, down takes the port out of training or UP unless a
persistent circuit holds it (the model's reading, assumption log 39); and `train_cmd` reads 0x01 while the port trains again, 0x03
where the port may not train. -/
def Obligations.PortManagement : Prop :=
  ∀ (s : State) (p : Plane) (n : Port) (v : Byte) (rq : Req),
    (s.dev.admits rq ⟨⟨.portAdmin, p, n⟩, 1, v.toNat⟩ = true →
      s.dev.journals rq.ses.val [(⟨.portAdmin, p, n⟩, v.toNat)] = true →
      ∃ t, exec (.portAdminWrite p n v rq) s = .next t ∧ t.pending = s.pending ∧ t.dev.get .portAdmin p n = v.toNat ∧
        t.dev.Answered rq 0 ∧ (v = 0 → s.dev.parked p n = false →
          t.dev.get .portState p n = if (s.dev.port p n).fenced then 6 else 0)) ∧
    (s.dev.admits rq ⟨⟨.trainCmd, p, n⟩, 1, 1⟩ = true →
      ∃ t, exec (.trainCmd p n rq) s = .next t ∧ t.pending = s.pending ∧ t.dev.Answered rq 0 ∧
        t.dev.get .trainCmd p n = (if s.dev.canTrain p n then 1 else 3) ∧
        (s.dev.canTrain p n = true → t.dev.get .portState p n = 0))

/-- R483, R52, R53, R57: a forwarded frame on a port with codeword lock that is not UP is discarded and counted in `rx_not_up`,
and no other register of a port moves; in UP one with a bad header CRC is counted and raises the link-error cause, and one that
passes every check and is consumed (a PTP frame) is counted as accepted. -/
def Obligations.ForwardedFrameReceived : Prop :=
  ∀ (s : State) (p : Plane) (n : Port) (f : Frame), s.dev.carries p = true →
    (2 ≤ s.dev.get .portState p n → s.dev.get .portState p n ≠ 4 → ∃ t, exec (.rxForwardedFrame p n f) s = .next t ∧
      t.pending = s.pending ∧ t.dev.get .rxNotUp p n = min (s.dev.get .rxNotUp p n + 1) (2 ^ 32 - 1) ∧
      t.dev.ports = s.dev.ports ∧ t.dev.frames = s.dev.frames ∧ t.dev.copies = s.dev.copies) ∧
    (s.dev.get .portState p n = 4 → f.crcOk = false → ∃ t, exec (.rxForwardedFrame p n f) s = .next t ∧
      t.pending = s.pending ∧ t.dev.get .hdrCrcErr p n = min (s.dev.get .hdrCrcErr p n + 1) (2 ^ 32 - 1) ∧
      bit (t.dev.get .cause p 1) 0 = true ∧ t.dev.frames = s.dev.frames ∧ t.dev.copies = s.dev.copies) ∧
    (s.dev.get .portState p n = 4 → f.crcOk = true → f.linkSeq = (s.dev.port p n).rxExp → (s.dev.port p n).rxExp < 4096 →
      (s.dev.port p n).hadCredit f = true → f.opcode = opPtp → f.trailerCheck = .good →
      (let e := (s.dev.notIdle p n).startBlock p n
       e.verdict p f (e.boundTo p n f) = .pass ∧ e.outOfPart p n f = false) →
      ∃ t, exec (.rxForwardedFrame p n f) s = .next t ∧ t.pending = s.pending ∧
        t.dev.get .rxFrames p n = (s.dev.get .rxFrames p n + 1) % 2 ^ 64 ∧
        t.dev.get .rxBytes p n = (s.dev.get .rxBytes p n + f.bytes) % 2 ^ 64 ∧
        t.dev.frames = s.dev.frames ∧ t.dev.copies = s.dev.copies)

/-! ### The switch core (spec/04) -/

/-- R71: a frame that an internal input holds is written once the reserve is kept, and waits on while it is not; written where its
first kite has room, its copy is queued there for the outputs of that column. -/
def Obligations.HeldFrameWritten : Prop :=
  ∀ (s : State) (p : Plane) (a : Attach) (w : WaitIn), s.dev.carries p = true →
    s.dev.waitIn.find? (fun x => x.plane = p.val && x.input = a.sw) = some w →
    (s.dev.reserveKept p (group a.sw) w.frame.cells = true → ∃ t, exec (.internalInputWrite p a) s = .next t ∧
      t.pending = s.pending ∧ t.dev.waitIn = s.dev.waitIn.erase w) ∧
    (∀ c k, s.dev.reserveKept p (group a.sw) w.frame.cells = true → columnsOf w.outs = [c] → (∀ o ∈ w.outs, s.dev.outShut p o = false) →
      s.dev.kiteFor p (group a.sw) c = some k → w.frame.cells ≤ s.dev.kiteFree p (group a.sw) k →
      s.dev.copies.all (fun e => e.2.stage = .queued) = true → w.frame.ecn = 0 →
      ∃ t id cp, exec (.internalInputWrite p a) s = .next t ∧ t.dev.copy? p id = some cp ∧ cp.stage = .queued ∧
        cp.row = group a.sw ∧ cp.place = [(k, w.frame.cells)] ∧ cp.wait = w.outs.filter (fun o => group o = c)) ∧
    (s.dev.reserveKept p (group a.sw) w.frame.cells = false → ∃ t, exec (.internalInputWrite p a) s = .next t ∧
      Device.Frame s.dev t.dev (fun _ _ _ => False))

/-- R70, R72: the move engine takes the oldest item that waits toward a column: a parked frame moves to the column's kite where it
fits, a deferred copy is made where the reserve is kept too, and the cells moved are counted. -/
def Obligations.MoveEngine : Prop :=
  ∀ (s : State) (p : Plane) (r c : Group) (id k : Nat) (cp : Copy) (rest : List (Nat × Copy)) (f : FrameRec),
    s.dev.carries p = true → s.dev.moveItems p r c = (id, cp) :: rest → s.dev.frame? p cp.fid = some f →
    s.dev.kiteFor p r c = some k → f.cells ≤ s.dev.kiteFree p r k →
    (cp.stage = .parked → ∃ t, exec (.moveParkedFrame p r c) s = .next t ∧ t.pending = s.pending ∧
      t.dev.get .movedCells p 0 = (s.dev.get .movedCells p 0 + f.cells) % 2 ^ 64 ∧
      t.dev.get .mcastCopies p 0 = s.dev.get .mcastCopies p 0 ∧
      ((∀ o ∈ cp.wait, s.dev.outShut p o = false) → ∃ seq, t.dev.copy? p id =
        some { cp with stage := .queued, place := [(k, f.cells)], seq := seq, at_ := s.dev.clock, moved := true })) ∧
    (cp.stage = .deferred → s.dev.reserveKept p r f.cells = true → (s.dev.row p r).forced = false → cp.charged = false →
      ∃ t, exec (.makeDeferredCopy p r c) s = .next t ∧ t.pending = s.pending ∧
        t.dev.get .movedCells p 0 = (s.dev.get .movedCells p 0 + f.cells) % 2 ^ 64 ∧
        t.dev.get .mcastCopies p 0 = (s.dev.get .mcastCopies p 0 + 1) % 2 ^ 64) ∧
    (cp.stage = .deferred → cp.charged = true → s.dev.quotaFits p f.tenant f.cells = false →
      s.dev.reserveKept p r f.cells = true → (s.dev.row p r).forced = false →
      ∃ t, exec (.makeDeferredCopy p r c) s = .next t ∧ t.dev.get .mcastCopies p 0 = s.dev.get .mcastCopies p 0 ∧
        t.dev.get .tnCellDrop p f.tenant = min (s.dev.get .tnCellDrop p f.tenant + 1) (2 ^ 32 - 1) ∧
        bit (t.dev.get .cause p 1) 10 = true)

/-- R75: at its release point an output's part of a stored copy is freed; with other outputs left the copy stays for them. -/
def Obligations.CellRelease : Prop :=
  ∀ (s : State) (p : Plane) (id : Nat) (o : Sink) (c : Copy), s.dev.carries p = true → s.dev.copy? p id = some c →
    c.due.contains o.sw = true →
    ∃ t, exec (.cellRelease p id o) s = .next t ∧ t.pending = s.pending ∧
      (c.wait.filter (· ≠ o.sw) ≠ [] ∨ c.sentTo.filter (· ≠ o.sw) ≠ [] ∨ c.due.filter (· ≠ o.sw) ≠ [] →
        t.dev.copy? p id = some { c with wait := c.wait.filter (· ≠ o.sw), sentTo := c.sentTo.filter (· ≠ o.sw),
                                         due := c.due.filter (· ≠ o.sw) } ∧ t.dev.frames = s.dev.frames) ∧
      (c.wait.filter (· ≠ o.sw) = [] → c.sentTo.filter (· ≠ o.sw) = [] → c.due.filter (· ≠ o.sw) = [] →
        s.dev.copies.all (fun e => e.2.stage = .queued) = true → t.dev.copy? p id = none)

/-- R84: an accepted hand-over connects the spare to the column and drains the kite, and an accepted return does the reverse;
where it may not start, `swap_cmd` reads 0x03 and nothing else moves. -/
def Obligations.PlannedSwaps : Prop :=
  ∀ (s : State) (p : Plane) (r c : Group) (rq : Req),
    let e := s.dev.fmMessage rq.ses.val
    let i := s.dev.place ⟨.swapCmd, p, 0⟩ rq.ses.val
    s.dev.sel .kiteSel p 0 rq.ses.val = kiteUnit r c →
    (s.dev.admitsNow rq ⟨⟨.swapCmd, p, 0⟩, 1, 1⟩ = true → e.handOverOk p r c = true →
      ∃ t, exec (.handOverToSpare p rq) s = .next t ∧ t.pending = s.pending ∧ t.dev.Answered rq 0 ∧
        t.dev.get .swapCmd p i = 1 ∧ t.dev.kiteState p r c = 3 ∧ t.dev.kiteState p r 20 = 1 ∧
        bit (t.dev.get .spareInUse p 0) r = true ∧ t.dev.get .kiteStandIn p (kiteUnit r 20) = c.val ∧
        (t.dev.row p r).col = some c.val ∧ (t.dev.row p r).connected = true ∧ (t.dev.row p r).draining = some true) ∧
    (s.dev.admitsNow rq ⟨⟨.swapCmd, p, 0⟩, 1, 1⟩ = true → e.handOverOk p r c = false →
      ∃ t, exec (.handOverToSpare p rq) s = .next t ∧ t.dev.Answered rq 0 ∧ t.dev.get .swapCmd p i = 3 ∧
        Device.Frame (s.dev.heard rq.ses.val) t.dev (fun o q j => requestRegs o q j ∨ (o = .swapCmd ∧ q = p ∧ j = i))) ∧
    (s.dev.admitsNow rq ⟨⟨.swapCmd, p, 0⟩, 1, 2⟩ = true → e.returnOk p r c = true →
      ∃ t, exec (.returnFromSpare p rq) s = .next t ∧ t.pending = s.pending ∧ t.dev.Answered rq 0 ∧
        t.dev.get .swapCmd p i = 1 ∧ t.dev.kiteState p r c = 0 ∧ t.dev.kiteState p r 20 = 3 ∧
        (t.dev.row p r).connected = false ∧ (t.dev.row p r).draining = some false) ∧
    (s.dev.admitsNow rq ⟨⟨.swapCmd, p, 0⟩, 1, 2⟩ = true → e.returnOk p r c = false →
      ∃ t, exec (.returnFromSpare p rq) s = .next t ∧ t.dev.Answered rq 0 ∧ t.dev.get .swapCmd p i = 3 ∧
        Device.Frame (s.dev.heard rq.ses.val) t.dev (fun o q j => requestRegs o q j ∨ (o = .swapCmd ∧ q = p ∧ j = i)))

/-- R84, R85: the spare enters service 120 µs after a forced swap and the swap is counted; a hand-over ends when the kite it drains
is empty, a return when the spare is. -/
def Obligations.SwapsComplete : Prop :=
  ∀ (s : State) (p : Plane) (r c : Group), s.dev.live p = true → (s.dev.row p r).col = some c.val →
    (∀ q, (s.dev.row p q).returnDue = false) →
    ((s.dev.row p r).forced = true → ∃ t, exec (.kiteSpareInService p r) s = .next t ∧ t.pending = s.pending ∧
      t.dev.kiteState p r 20 = 1 ∧ (t.dev.row p r).forced = false ∧ (t.dev.row p r).connected = true ∧
      bit (t.dev.get .spareInUse p 0) r = true ∧ t.dev.get .kiteStandIn p (kiteUnit r 20) = c.val ∧
      t.dev.get .kiteSwaps p 0 = min (s.dev.get .kiteSwaps p 0 + 1) (2 ^ 32 - 1) ∧ t.dev.copies = s.dev.copies) ∧
    ((s.dev.row p r).draining = some true → s.dev.occupancy p r c = 0 → ∃ t, exec (.kiteDrainComplete p r) s = .next t ∧
      t.pending = s.pending ∧ t.dev.kiteState p r c = (if (s.dev.row p r).retire then 4 else 5) ∧
      (t.dev.row p r).draining = none ∧
      (s.dev.get .swapCmd p (kiteUnit r c) = 1 → t.dev.get .swapCmd p (kiteUnit r c) = 2)) ∧
    ((s.dev.row p r).draining = some false → s.dev.occupancy p r 20 = 0 → ∃ t, exec (.kiteDrainComplete p r) s = .next t ∧
      t.dev.kiteState p r 20 = 2 ∧ t.dev.row p r = {} ∧ bit (t.dev.get .spareInUse p 0) r = false ∧
      t.dev.get .kiteStandIn p (kiteUnit r 20) = 0xFF)

/-- R85, R87, R410, R485: a kite that fails in service with its spare ready closes (0x05, or 0x04 the second time within the hour)
and raises "kite failure" and "spare stands in"; without a ready spare the plane is retired; an idle spare that fails closes, and one
that stands in retires the plane. -/
def Obligations.KiteFaults : Prop :=
  ∀ (s : State) (p : Plane) (r c : Group), s.dev.live p = true → (s.dev.bist p).unit = none →
    (s.dev.kiteState p r c = 0 ∨ s.dev.kiteState p r c = 3 →
      (s.dev.spareReady p r c = true → ∃ t, exec (.kiteFault p r c) s = .next t ∧ t.pending = s.pending ∧
        t.dev.kiteState p r c = (if s.dev.secondFault p (chan 3 (21 * r + c)) then 4 else 5) ∧
        bit (t.dev.get .cause p 2) 1 = true ∧ bit (t.dev.get .cause p 10) 2 = true) ∧
      (s.dev.spareReady p r c = false → ∃ t, exec (.kiteFault p r c) s = .next t ∧ t.pending = s.pending ∧
        (t.dev.plane p).cond = .retired ∧ t.dev.live p = false ∧ bit (t.dev.get .cause p 2) 4 = true ∧
        bit (t.dev.get .cause p 10) 1 = true)) ∧
    (s.dev.kiteState p r 20 = 2 → (s.dev.row p r).forced = false → ∃ t, exec (.spareKiteFault p r) s = .next t ∧
      t.pending = s.pending ∧
      t.dev.kiteState p r 20 = (if s.dev.secondFault p (chan 3 (21 * r + 20)) then 4 else 5) ∧
      bit (t.dev.get .cause p 2) 1 = true) ∧
    (s.dev.kiteState p r 20 = 1 → ∃ t, exec (.spareKiteFault p r) s = .next t ∧ (t.dev.plane p).cond = .retired ∧
      bit (t.dev.get .cause p 2) 4 = true)

/-- R79, R89: an accepted write of `spray_members` is journalled and in force at once, and the set's last choice becomes member 31;
a value that is no list of members is refused with 0x0303 and changes nothing. -/
def Obligations.SprayMembers : Prop :=
  ∀ (s : State) (p : Plane) (v : BitVec 256) (rq : Req),
    let i := s.dev.place ⟨.sprayMembers, p, 0⟩ rq.ses.val
    s.dev.admits rq ⟨⟨.sprayMembers, p, 0⟩, 32, v.toNat⟩ = true →
    (sprayOk v.toNat = true → s.dev.journals rq.ses.val [(⟨.sprayMembers, p, i⟩, v.toNat)] = true →
      ∃ t, exec (.sprayMembersWrite p v rq) s = .next t ∧ t.pending = s.pending ∧ t.dev.Answered rq 0 ∧
        t.dev.get .sprayMembers p i = v.toNat ∧ t.dev.spray = Tbl.erase s.dev.spray (p.val, i)) ∧
    (sprayOk v.toNat = false → ∃ t, exec (.sprayMembersWrite p v rq) s = .next t ∧ t.dev.Answered rq 0x0303 ∧
      t.dev.get .sprayMembers p i = s.dev.get .sprayMembers p i ∧ t.dev.spray = s.dev.spray)

/-- R82: when the time of a gap has run out, the missing numbers are skipped and counted, the cause is raised and the held frame
is passed on; an entry that holds no frame is removed when the flow has been quiet. -/
def Obligations.ReorderGaps : Prop :=
  ∀ (s : State) (p : Plane) (id : FlowId) (w : Flow) (h : Held), s.dev.live p = true → s.dev.flow? p id = some w →
    (w.held = [h] → h.seq < 2 ^ 24 → h.seq ≠ w.expected → ∃ t, exec (.reseqGapTimeout p id) s = .next t ∧
      t.pending = s.pending ∧
      t.dev.get .reseqGap p 0 = min (s.dev.get .reseqGap p 0 + seqDist h.seq w.expected) (2 ^ 32 - 1) ∧
      bit (t.dev.get .cause p 2) 2 = true ∧
      t.dev.flow? p id = some { w with expected := (h.seq + 1) % 2 ^ 24, held := [] }) ∧
    (w.held = [] → ∃ t, exec (.reseqFlowExpire p id) s = .next t ∧ t.pending = s.pending ∧
      (∀ x, t.dev.flow? p id = some x → x.held ≠ []) ∧
      Device.Frame { s.dev with flows := s.dev.flows.filter (fun x => !(x.plane = p.val && x.id = id && x.held = [])) } t.dev
        (fun _ _ _ => False)) ∧
    (w.held ≠ [] → ∃ t, exec (.reseqFlowExpire p id) s = .next t ∧ t.dev.flow? p id = some w)

/-! ### Memory, pools and the checkpoint store (spec/05, spec/12) -/

/-- R94, R98: below 1,024 entries the cache of a pool that is not being scrubbed takes 2,048 entries from the ring, or all it has; a
scrub runs on one pool of a plane at a time, `poolScrubCmd` reading 0x01 while it runs, 0x02 when every free buffer is in the
free store once, and 0x03 for one asked for meanwhile. -/
def Obligations.PoolFreeStore : Prop :=
  ∀ (s : State) (p : Plane) (k : Pool) (rq : Req),
    let i := s.dev.place ⟨.poolScrubCmd, p, 0⟩ rq.ses.val
    (s.dev.live p = true → (s.dev.pool p k).cache < 1024 → (s.dev.plane p).scrub ≠ some k.val →
      ∃ t, exec (.poolCacheRefill p k) s = .next t ∧ t.pending = s.pending ∧
        Device.Frame (s.dev.setPool p k { s.dev.pool p k with
          cache := (s.dev.pool p k).cache + min 2048 (s.dev.pool p k).ring,
          ring := (s.dev.pool p k).ring - min 2048 (s.dev.pool p k).ring }) t.dev (fun _ _ _ => False)) ∧
    (s.dev.admitsNow rq ⟨⟨.poolScrubCmd, p, 0⟩, 1, 1⟩ = true → (s.dev.plane p).scrub = none →
      ∃ t, exec (.poolScrub p rq) s = .next t ∧ t.pending = s.pending ∧ t.dev.Answered rq 0 ∧ t.dev.get .poolScrubCmd p i = 1 ∧
        (t.dev.plane p).scrub = some (s.dev.sel .poolSel p 0 rq.ses.val)) ∧
    (s.dev.admitsNow rq ⟨⟨.poolScrubCmd, p, 0⟩, 1, 1⟩ = true → (s.dev.plane p).scrub ≠ none →
      ∃ t, exec (.poolScrub p rq) s = .next t ∧ t.dev.Answered rq 0 ∧ t.dev.get .poolScrubCmd p i = 3 ∧
        t.dev.plane p = s.dev.plane p) ∧
    (s.dev.live p = true → (s.dev.plane p).scrub = some k.val →
      ∃ t, exec (.poolScrubDone p k) s = .next t ∧ t.pending = s.pending ∧ t.dev.get .poolScrubCmd p k = 2 ∧
        (t.dev.plane p).scrub = none ∧ (t.dev.pool p k).stale = 0 ∧ (t.dev.pool p k).owners = (s.dev.pool p k).owners ∧
        ((s.dev.pool p k).cache + (s.dev.pool p k).owners.length ≤ s.dev.poolBuffers p k →
          (t.dev.pool p k).cache + (t.dev.pool p k).ring + (t.dev.pool p k).owners.length = s.dev.poolBuffers p k))

/-- R103, R104: training leaves the CXL port with no expander, up, or degraded with its cause; a reset retrains it; and when its link
goes down it is counted, the cause is raised, and no tier-2 version and no drain is left. -/
def Obligations.CxlPort : Prop :=
  ∀ (s : State) (p : Plane) (w r : BitVec 4) (gib : BitVec 16) (rq : Req),
    (s.dev.live p = true → ∃ t, exec (.cxlTrainComplete p w r gib) s = .next t ∧ t.pending = s.pending ∧
      t.dev.get .cxlLink p 0 = w.toNat * 16 + r.toNat ∧
      t.dev.get .cxlCapacityGib p 0 = (if w = 0 then 0 else min gib.toNat 512) ∧
      t.dev.get .cxlState p 0 = (if w = 0 then 0 else if w = 3 ∧ r = 3 ∧ gib.toNat ≤ 512 then 2 else 3) ∧
      (w ≠ 0 → ¬ (w = 3 ∧ r = 3 ∧ gib.toNat ≤ 512) → bit (t.dev.get .cause p 3) 5 = true)) ∧
    (s.dev.admits rq ⟨⟨.cxlResetCmd, p, 0⟩, 1, 1⟩ = true → ∃ t, exec (.cxlReset p rq) s = .next t ∧ t.pending = s.pending ∧
      t.dev.Answered rq 0 ∧ t.dev.get .cxlResetCmd p 0 = 1 ∧ t.dev.get .cxlState p 0 = 1) ∧
    (s.dev.live p = true → ∃ t, exec (.cxlLinkDown p) s = .next t ∧ t.pending = s.pending ∧ t.dev.get .cxlState p 0 = 4 ∧
      t.dev.get .cxlLinkDown p 0 = min (s.dev.get .cxlLinkDown p 0 + 1) (2 ^ 32 - 1) ∧ bit (t.dev.get .cause p 3) 6 = true ∧
      ∀ g : RgnId, (t.dev.rgn p g).t2 = [] ∧ (t.dev.rgn p g).drain = none)

/-- R278, Table 12.2: a CKPT_WRITE for no loaded region is counted; one that passes the checks is stored with its CRC in a buffer of
the pool, or in delta mode kept as unchanged where its CRC is that of the committed page; a tenant other than the region's is
counted and raises the cause. -/
def Obligations.CheckpointPages : Prop :=
  ∀ (s : State) (p : Plane) (a : Attach) (f : Frame) (g : Nat), s.dev.live p = true →
    let e := if a.sw < 128 then s.dev.takeCkpt p f else s.dev.takeIn p ckptSw f
    (e.ckptRegion p f = none → ∃ t, exec (.ckptWrite p a f) s = .next t ∧ t.pending = s.pending ∧
      t.dev.get .ckptNoRegion p 0 = min (s.dev.get .ckptNoRegion p 0 + 1) (2 ^ 32 - 1)) ∧
    (e.ckptRegion p f = some g → f.tenant ≠ e.rgnTenant p g → ∃ t, exec (.ckptWrite p a f) s = .next t ∧
      t.dev.get .ckptTenantReject p 0 = min (s.dev.get .ckptTenantReject p 0 + 1) (2 ^ 32 - 1) ∧
      bit (t.dev.get .cause p 7) 0 = true ∧ t.dev.rgn p g = s.dev.rgn p g) ∧
    (e.ckptRegion p f = some g → (e.ckptFail p g f).isNone = true → f.length ≠ 32 → e.rgnReplica p g = false →
      e.rgnDelta p g = false → (e.rgn p g).bufs.length < e.get .rgnT1Limit p g →
      (e.alloc p ckptPool (e.rgnReq p g)).2.isSome = true →
      ∃ t b, exec (.ckptWrite p a f) s = .next t ∧ t.pending = s.pending ∧
        pageOf (t.dev.rgn p g).prog f.offset = some ⟨f.offset, b, pageCrc f.payload, f.payload⟩ ∧
        (t.dev.rgn p g).cur = (s.dev.rgn p g).cur ∧
        t.dev.get .ckptPagesStored p 0 = (s.dev.get .ckptPagesStored p 0 + 1) % 2 ^ 64) ∧
    (∀ x, e.ckptRegion p f = some g → (e.ckptFail p g f).isNone = true → f.length ≠ 32 → e.rgnReplica p g = false →
      e.rgnDelta p g = true → pageOf (e.rgn p g).cur f.offset = some x → x.crc = pageCrc f.payload →
      ∃ t, exec (.ckptWrite p a f) s = .next t ∧ pageOf (t.dev.rgn p g).prog f.offset = some x ∧
        t.dev.get .ckptPagesUnchanged p 0 = (s.dev.get .ckptPagesUnchanged p 0 + 1) % 2 ^ 64)

/-- R16, R289: a well-formed CKPT_READ of the committed version from a fabric port of the plane that is open is answered page by
page: each page is queued for that port through its group's memory port (input 500 + group, assumption log 37), LAST on the final
one; a page that is not held is answered empty and counted. A read from another device is answered through the array. -/
def Obligations.CheckpointReads : Prop :=
  ∀ (s : State) (p : Plane) (a : Attach) (f : Frame) (g n : Nat), s.dev.live p = true →
    let e := if a.sw < 128 then s.dev.takeCkpt p f else s.dev.takeIn p ckptSw f
    e.ckptRegion p f = some g → f.tenant = e.rgnTenant p g → f.length = 16 → f.flowSeq = 0 → beNat f.payload 4 2 = n →
    1 ≤ n → n ≤ 1024 → f.offset + n ≤ e.get .rgnPages p g → beNat f.payload 6 10 = 0 → beNat f.payload 0 4 = 0 →
    e.get .rgnVersion p g ≠ 0 → (e.rgn p g).cur ≠ [] →
    let page (k : Nat) : Frame := ({ e.ckptMk p g opCkptData f.srcDevice f.srcPort f.context
      (e.get .rgnVersion p g) (f.offset + k) with flags := if k + 1 = n then 32 else 0 } : Mk).frame
        (((pageOf (e.rgn p g).cur (f.offset + k)).map (·.data)).getD [])
    (∃ t, exec (.ckptRead p a f) s = .next t ∧ t.pending = s.pending ∧ t.dev.rgn p g = s.dev.rgn p g ∧
      t.dev.get .ckptReadFail p 0 = min (s.dev.get .ckptReadFail p 0 +
        ((List.range n).filter (fun k => (pageOf (e.rgn p g).cur (f.offset + k)).isNone)).length) (2 ^ 32 - 1) ∧
      (f.srcDevice = e.devId p → f.srcPort < 128 → s.dev.outShut p f.srcPort = false →
        ∀ k, k < n → ∃ id c r, t.dev.copy? p id = some c ∧ c.stage = .queued ∧ c.wait = [f.srcPort] ∧
          t.dev.frame? p c.fid = some r ∧ r.frame = page k ∧ r.input = 500 + group f.srcPort)) ∧
    (n = 1 → pageOf (e.rgn p g).cur f.offset ≠ none → f.srcDevice ≠ e.devId p →
      ∃ t, exec (.ckptRead p a f) s = .next t ∧ t.pending = s.pending ∧
        Device.Frame (e.sendOwn p ckptSw (page 0)) t.dev (fun _ _ _ => False))

/-- R275, R280, R281: what the commands of a region do: load makes an EMPTY one OPEN with version 0, arming makes an OPEN one PENDING
and reads 0x01 until the boundary, abandoning drops the in-progress version, and clearing leaves it EMPTY; a load or arming that
is not allowed reads 0x03. -/
def Obligations.RegionCommands : Prop :=
  ∀ (s : State) (p : Plane) (rq : Req),
    let e := s.dev.fmMessage rq.ses.val
    let g := s.dev.place ⟨.rgnCmd, p, 0⟩ rq.ses.val
    (s.dev.admitsNow rq ⟨⟨.rgnCmd, p, 0⟩, 1, 1⟩ = true → e.rgnLoadOk p g = true →
      s.dev.journals rq.ses.val [(⟨.rgnState, p, g⟩, 1)] = true →
      ∃ t, exec (.rgnLoad p rq) s = .next t ∧ t.pending = s.pending ∧ t.dev.Answered rq 0 ∧ t.dev.get .rgnCmd p g = 2 ∧
        t.dev.get .rgnState p g = 1 ∧ t.dev.get .rgnVersion p g = 0 ∧ t.dev.rgn p g = {}) ∧
    (s.dev.admitsNow rq ⟨⟨.rgnCmd, p, 0⟩, 1, 1⟩ = true → e.rgnLoadOk p g = false →
      ∃ t, exec (.rgnLoad p rq) s = .next t ∧ t.dev.Answered rq 0 ∧ t.dev.get .rgnCmd p g = 3 ∧
        t.dev.rgn p g = s.dev.rgn p g) ∧
    (s.dev.admitsNow rq ⟨⟨.rgnCmd, p, 0⟩, 1, 2⟩ = true → s.dev.get .rgnState p g = 1 → e.rgnReplica p g = false →
      ((e.set .rgnState p g 2).set .rgnCmd p g 1).rgnPast p g = false →
      ∃ t, exec (.rgnArmCommit p rq) s = .next t ∧ t.pending = s.pending ∧ t.dev.Answered rq 0 ∧ t.dev.get .rgnCmd p g = 1 ∧
        t.dev.get .rgnState p g = 2 ∧ t.dev.rgn p g = s.dev.rgn p g) ∧
    (s.dev.admitsNow rq ⟨⟨.rgnCmd, p, 0⟩, 1, 3⟩ = true → s.dev.get .rgnState p g ≠ 0 →
      ∃ t, exec (.rgnAbandon p rq) s = .next t ∧ t.pending = s.pending ∧ t.dev.Answered rq 0 ∧ t.dev.get .rgnCmd p g = 2 ∧
        t.dev.get .rgnState p g = 1 ∧ t.dev.get .rgnStatus p g = 3 ∧ (t.dev.rgn p g).prog = [] ∧
        (t.dev.rgn p g).cur = (s.dev.rgn p g).cur) ∧
    (s.dev.admitsNow rq ⟨⟨.rgnCmd, p, 0⟩, 1, 4⟩ = true → s.dev.journals rq.ses.val [(⟨.rgnState, p, g⟩, 0)] = true →
      ∃ t, exec (.rgnClear p rq) s = .next t ∧ t.pending = s.pending ∧ t.dev.Answered rq 0 ∧ t.dev.get .rgnCmd p g = 2 ∧
        t.dev.get .rgnState p g = 0 ∧ t.dev.rgn p g = {})

/-- R280, R287: at the boundary a complete in-progress version becomes the committed one, an incomplete one is refused, counted and
dropped; the region is OPEN again. A finished drain puts the version first in tier 2 and keeps as many as KEEP says. -/
def Obligations.RegionCommits : Prop :=
  ∀ (s : State) (p : Plane) (g : RgnId), s.dev.live p = true →
    let r := s.dev.rgn p g
    let pages := if s.dev.rgnDelta p g then carried r.prog r.cur else r.prog
    let full := !(List.range (s.dev.get .rgnPages p g)).any (fun n => (pageOf pages n).isNone)
    (s.dev.get .rgnState p g = 2 → (s.dev.get .rgnBoundaryKind p g = 0 ∨ s.dev.rgnReached p g = true) →
      (r.incomplete = false → full = true → r.next < 2 ^ 32 → ∃ t, exec (.rgnCommit p g) s = .next t ∧ t.pending = s.pending ∧
        t.dev.get .rgnState p g = 1 ∧ t.dev.get .rgnCmd p g = 2 ∧ t.dev.get .rgnVersion p g = r.next ∧
        t.dev.get .rgnStatus p g = 0 ∧ (t.dev.rgn p g).cur = pages ∧ (t.dev.rgn p g).prog = [] ∧
        (t.dev.rgn p g).next = r.next + 1) ∧
      ((r.incomplete = true ∨ full = false) → ∃ t, exec (.rgnCommit p g) s = .next t ∧ t.dev.get .rgnState p g = 1 ∧
        t.dev.get .rgnVersion p g = s.dev.get .rgnVersion p g ∧
        t.dev.get .rgnStatus p g = (if r.incomplete then 1 else 2) ∧
        t.dev.get .ckptCommitRefused p 0 = min (s.dev.get .ckptCommitRefused p 0 + 1) (2 ^ 32 - 1) ∧
        bit (t.dev.get .cause p 7) 3 = true ∧ (t.dev.rgn p g).prog = [] ∧ (t.dev.rgn p g).cur = r.cur)) ∧
    (∀ v, r.drain = some v → ∃ t, exec (.drainComplete p g) s = .next t ∧ t.pending = s.pending ∧
      (t.dev.rgn p g).drain = none ∧
      (t.dev.rgn p g).t2 = ((⟨v, s.dev.rgnTenant p g, s.dev.get .rgnPages p g, r.cur.map (fun x => (x.no, x.crc)),
        r.cur.map (fun x => (x.no, x.data))⟩ : T2Ver) :: r.t2).take (s.dev.rgnKeep p g) ∧
      (t.dev.rgn p g).cur = r.cur)

/-- R284, R285: a replica that received every page of a full version commits it at REPL_COMMIT; REPL_ACK 0x00 of the outstanding version
makes it the acknowledged one; without an answer the source counts a retry and sends again, and at `repl_retry_max` failures in a
row gives up with the cause. -/
def Obligations.Replication : Prop :=
  ∀ (s : State) (p : Plane) (f : Frame) (g : RgnId) (m : Bool), s.dev.live p = true →
    (let e := s.dev.takeCkpt p f
     let r := e.rgn p g
     e.ckptRegion p f = some g.val → (e.ckptFail p g f).isNone = true → f.length = 32 → e.ckptAhead p g f = 0 →
     r.incomplete = false → r.next < 2 ^ 32 → fld (bytesToNat f.payload) 208 32 = r.next → fld (bytesToNat f.payload) 144 32 = r.recv →
     fld (bytesToNat f.payload) 176 32 = 0xFFFFFFFF →
     (List.range (e.get .rgnPages p g)).all (fun k => r.seen.contains k) = true →
     ∃ t, exec (.replCommit p f) s = .next t ∧ t.pending = s.pending ∧ t.dev.get .rgnVersion p g = r.next ∧
       (t.dev.rgn p g).cur = r.prog ∧ (t.dev.rgn p g).prog = []) ∧
    (let e := s.dev.takeIn p ckptSw f
     let v := fld (bytesToNat f.payload) 208 32
     e.ckptRegion p f = some g.val → recordOk f 2 = true → fld (bytesToNat f.payload) 240 8 = 0 →
     e.peerOn p g false = true → (e.rgn p g).repl.outst = some v → f.srcDevice = e.get .rgnPeerDevice p g →
     f.tenant = e.rgnTenant p g → e.get .rgnVersion p g = v →
     ∃ t, exec (.replAck p f) s = .next t ∧ t.pending = s.pending ∧ t.dev.get .replVersion p g = v ∧
       t.dev.get .replState p g = 0 ∧ (t.dev.rgn p g).repl.outst = none ∧ (t.dev.rgn p g).repl.pend = [] ∧
       (t.dev.rgn p g).repl.fails = 0) ∧
    (((s.dev.rgn p g).peer m).outst.isSome = true →
      ∃ t, exec (.replTimeout p g m) s = .next t ∧ t.pending = s.pending ∧
        t.dev.get .replRetries p 0 = min (s.dev.get .replRetries p 0 + 1) (2 ^ 32 - 1) ∧
        (s.dev.get .replRetryMax p 0 ≤ ((s.dev.rgn p g).peer m).fails + 1 →
          t.dev.get (peerObjs m).2.2.1 p g = 3 ∧ bit (t.dev.get .cause p 7) 4 = true ∧
          t.dev.get .replFailed p 0 = min (s.dev.get .replFailed p 0 + 1) (2 ^ 32 - 1)) ∧
        (((s.dev.rgn p g).peer m).fails + 1 < s.dev.get .replRetryMax p 0 →
          t.dev.get (peerObjs m).2.2.1 p g = 2 ∧ ((t.dev.rgn p g).peer m).outst = some (s.dev.get .rgnVersion p g) ∧
          ((t.dev.rgn p g).peer m).fails = ((s.dev.rgn p g).peer m).fails + 1))

/-! ### Scheduling, gate lists and bypass circuits (spec/06, spec/14) -/

/-- R109, R110, R122: at a frame boundary an output of group 18 or 19 takes, of the heads of its queues, the one whose class has the
highest rank, the hub path's leaving to the hub and an engine's being handed to it; a column reducer in service reads its next
frame the same way, which is the effect that REDUCER_FRAME names; a fabric port sends a waiting resend ahead of any scheduled
frame, and in an idle hold none. -/
def Obligations.SchedulingDecisions : Prop :=
  ∀ (s : State) (p : Plane) (n : Port) (c : Group), s.dev.carries p = true →
    let rank (k : Nat) : Nat := octet 8 8 (s.dev.get .classRank p 0) k
    (∀ (a : Internal) (id : Nat) (cp : Copy) (fr : FrameRec), (∀ l, a ≠ .longHaul l) → s.dev.copy? p id = some cp →
      (id, cp, fr) ∈ s.dev.headsAt p (Attach.internal a).sw →
      (∀ y ∈ s.dev.headsAt p (Attach.internal a).sw, y = (id, cp, fr) ∨ rank y.2.2.cls < rank fr.cls) →
      ∃ t, exec (.schedulingDecision p (.attach (.internal a))) s = .next t ∧ t.pending = s.pending ∧
        t.dev.copy? p id = some { cp with wait := cp.wait.filter (· ≠ (Attach.internal a).sw),
                                          due := cp.due ++ [(Attach.internal a).sw] } ∧
        (a = .hubPath → s.dev.Sends t.dev (.hubPath p fr.frame) ∧ t.dev.inbox = s.dev.inbox) ∧
        (a ≠ .hubPath → t.dev.inbox = s.dev.inbox ++ [(p.val, (Attach.internal a).sw, fr.input, fr.frame)])) ∧
    (∀ (id : Nat) (cp : Copy) (fr : FrameRec), s.dev.headsAt p (200 + c) = [(id, cp, fr)] → s.dev.clearsFor p fr = false →
      ∃ t, exec (.schedulingDecision p (.reducer c)) s = .next t ∧ exec (.reducerFrame p c id) s = .next t ∧
        t.pending = s.pending) ∧
    (s.dev.headsAt p (200 + c) = [] →
      ∃ t, exec (.schedulingDecision p (.reducer c)) s = .next t ∧ Device.Frame s.dev t.dev (fun _ _ _ => False)) ∧
    (∀ q rest u, s.dev.sendsWindow p n = false → s.dev.get .portState p n = 4 → (s.dev.port p n).resend = q :: rest →
      (s.dev.port p n).unacked.find? (fun x => x.seq = q) = some u → u.cells ≤ (s.dev.port p n).creditLeft u.cls →
      u.frame.opcode ≠ opPtp →
      ∃ t, exec (.schedulingDecision p (.attach (.fabric n))) s = .next t ∧ t.pending = s.pending ∧
        s.dev.Sends t.dev (.lfl p n ((u.frame.setFld 52 12 q).seal)) ∧ (t.dev.port p n).resend = rest ∧
        t.dev.copies = s.dev.copies) ∧
    (s.dev.sendsWindow p n = false → s.dev.get .portState p n = 4 → (s.dev.port p n).resend = [] →
      s.dev.clock < (s.dev.outp p n).holdUntil →
      ∃ t, exec (.schedulingDecision p (.attach (.fabric n))) s = .next t ∧ Device.Frame s.dev t.dev (fun _ _ _ => False))

/-- R114, R115: the running entry of a gate list follows its time base, and a write of `gcl_enable` applies at the first cycle start;
a commit that passes its checks is journalled and waits for one change instant of all the outputs it changes together, one that
does not reads 0x03; at the change instant the pages swap, which starts a cycle. -/
def Obligations.GateLists : Prop :=
  ∀ (s : State) (p : Plane) (o : LinePort) (v : Byte) (rq : Req),
    (s.dev.live p = true → (s.dev.outp p o).pend = none →
      let x := s.dev.outp p o
      let i := (x.page.at_ (s.dev.tbNow p x.page.tb)).1
      let starts := i % 2 ^ 8 = 0 ∧ (s.dev.get .gclCurrent p o ≠ 0 ∨ x.page.entries.length = 1)
      ∃ t, exec (.gateEntryChange p o) s = .next t ∧ t.pending = s.pending ∧ t.dev.get .gclCurrent p o = i % 2 ^ 8 ∧
        (t.dev.outp p o).page = x.page ∧
        (starts → (t.dev.outp p o).enabled = x.enableNext.getD x.enabled ∧ (t.dev.outp p o).enableNext = none) ∧
        (¬ starts → (t.dev.outp p o).enabled = x.enabled ∧ (t.dev.outp p o).enableNext = x.enableNext)) ∧
    (let k := s.dev.place ⟨.gclEnable, p, 0⟩ rq.ses.val
     s.dev.admits rq ⟨⟨.gclEnable, p, 0⟩, 1, v.toNat⟩ = true →
     s.dev.journals rq.ses.val [(⟨.gclEnable, p, k⟩, v.toNat)] = true →
     ∃ t, exec (.gclEnableWrite p v rq) s = .next t ∧ t.pending = s.pending ∧ t.dev.Answered rq 0 ∧
       t.dev.get .gclEnable p k = v.toNat ∧ (t.dev.outp p k).enableNext = some (decide (v.toNat = 1)) ∧
       (t.dev.outp p k).enabled = (s.dev.outp p k).enabled) ∧
    (let e := s.dev.fmMessage rq.ses.val
     let k := s.dev.place ⟨.gclCommitCmd, p, 0⟩ rq.ses.val
     let outs := e.commitOuts p k
     let ok := outs.all (fun x => (e.standbyPage p x).ok && (e.outp p x).pend.isNone && e.bypEntriesOk p x)
     s.dev.admitsNow rq ⟨⟨.gclCommitCmd, p, 0⟩, 1, 1⟩ = true →
     (ok = false → ∃ t, exec (.gclCommit p rq) s = .next t ∧ t.dev.Answered rq 0 ∧ t.dev.get .gclCommitCmd p k = 3 ∧
       t.dev.outs = s.dev.outs) ∧
     (ok = true → outs.Nodup →
       s.dev.journals rq.ses.val (outs.map (fun x => (⟨.gclCommitCmd, p, x⟩, (e.standbyPage p x).value))) = true →
       ∃ t, exec (.gclCommit p rq) s = .next t ∧ t.pending = s.pending ∧ t.dev.Answered rq 0 ∧
         ∀ x ∈ outs, t.dev.get .gclCommitCmd p x = 1 ∧
           (t.dev.outp p x).pend = some ⟨e.standbyPage p x, (e.changeOf p x).1,
             (outs.map (fun y => (e.changeOf p y).2.1)).foldl max 0⟩ ∧
           (t.dev.outp p x).page = (s.dev.outp p x).page ∧
           ((e.changeOf p x).2.2 = true →
             t.dev.get .gclLate p x = min (s.dev.get .gclLate p x + 1) (2 ^ 32 - 1)))) ∧
    (∀ w, s.dev.live p = true → (s.dev.outp p o).pend = some w →
      let x := s.dev.outp p o
      ∃ t, exec (.gclPageSwap p o) s = .next t ∧ t.pending = s.pending ∧ (t.dev.outp p o).page = w.page ∧
        (t.dev.outp p o).pend = none ∧ t.dev.get .gclCommitCmd p o = 2 ∧
        (t.dev.outp p o).enabled = x.enableNext.getD x.enabled ∧
        t.dev.get .gclCycleNs p o = x.page.cycle % 2 ^ 32 ∧
        ∀ k, k < 256 →
          t.dev.get .gclActiveEntry p (o.val * 256 + k) = w.page.entries.getD k 0xFF000000000003E8 % 2 ^ 64 ∧
          t.dev.get .gclEntry p (o.val * 256 + k) = x.page.entries.getD k 0xFF000000000003E8 % 2 ^ 64)

/-- R121, R122, R123: an eligible queue below the highest rank is promoted once and counted, its clock at its urgency, and any other
is not; the telemetry queue is promoted in the same way, and an idle hold that waits is promoted and counted; an observation that
is due records depth in cells and head delay of a backlogged queue. -/
def Obligations.PromotionAndObservation : Prop :=
  ∀ (s : State) (p : Plane) (o : LinePort) (c : Cls) (tn : Tenant), s.dev.live p = true →
    let e := s.dev.refresh p o
    let may (k q : Nat) : Bool := decide (octet 8 8 (s.dev.get .classRank p 0) k ≠ 7) && !(e.outp p o).promoted.contains (k, q) &&
      (backlog (e.heads p o) k).contains q && e.eligible p o k q (e.heads p o)
    (may c tn = true →
      let i := o.val * 65536 + tqSelOf c tn
      ∃ t, exec (.queuePromotion p o c tn) s = .next t ∧ t.pending = s.pending ∧
        (t.dev.outp p o).promoted = (e.outp p o).promoted ++ [(c.val, tn.val)] ∧
        octet 8 16 (s.dev.get .urgencyMs p 0) c * 1000000 ≤ (t.dev.tq p o c tn).waited ∧
        t.dev.get .qPromoted p i = min (s.dev.get .qPromoted p i + 1) (2 ^ 32 - 1) ∧
        t.dev.get .starvePromoted p 0 = min (s.dev.get .starvePromoted p 0 + 1) (2 ^ 32 - 1)) ∧
    (may c tn = false → ∃ t, exec (.queuePromotion p o c tn) s = .next t ∧ Device.Frame e t.dev (fun _ _ _ => False)) ∧
    (may 7 sysReq = true →
      ∃ t, exec (.backgroundPromotion p o 0) s = .next t ∧ t.pending = s.pending ∧
        (t.dev.outp p o).promoted = (e.outp p o).promoted ++ [(7, sysReq)] ∧
        t.dev.get .bgPromoted p 0 = min (s.dev.get .bgPromoted p 0 + 1) (2 ^ 32 - 1)) ∧
    ((s.dev.outp p o).calHold ≠ [] → (s.dev.outp p o).bgPromoted.contains 1 = false →
      ∃ t, exec (.backgroundPromotion p o 1) s = .next t ∧ t.pending = s.pending ∧
        (t.dev.outp p o).bgPromoted = (s.dev.outp p o).bgPromoted ++ [1] ∧
        t.dev.get .bgPromoted p 0 = min (s.dev.get .bgPromoted p 0 + 1) (2 ^ 32 - 1)) ∧
    ((s.dev.outp p o).bistHold ≠ [] → (s.dev.outp p o).bgPromoted.contains 2 = false →
      ∃ t, exec (.backgroundPromotion p o 2) s = .next t ∧ t.pending = s.pending ∧
        (t.dev.outp p o).bgPromoted = (s.dev.outp p o).bgPromoted ++ [2] ∧
        t.dev.get .bgPromoted p 0 = min (s.dev.get .bgPromoted p 0 + 1) (2 ^ 32 - 1)) ∧
    ((s.dev.outp p o).sampleDue = false →
      ∃ t, exec (.observationSample p o) s = .next t ∧ Device.Frame s.dev t.dev (fun _ _ _ => False)) ∧
    (∀ id cp fr, (s.dev.outp p o).sampleDue = true → s.dev.copies = [((p.val, id), cp)] → cp.stage = .queued →
      cp.wait.contains (swOfLine o) = true → s.dev.frame? p cp.fid = some fr → fr.cls < 8 → fr.tenant ≠ sysReq →
      let i := o.val * 65536 + tqSelOf fr.cls fr.tenant
      ∃ t, exec (.observationSample p o) s = .next t ∧ t.pending = s.pending ∧
        t.dev.get .qDepth p i = fr.cells % 2 ^ 32 ∧ t.dev.get .qDelayNs p i = min (s.dev.clock - cp.at_) 0xFFFFFFFF ∧
        Device.Frame (s.dev.setOutp p o { s.dev.outp p o with sampleDue := false }) t.dev (fun w q j =>
          (w = .qDepth ∨ w = .qDelayNs ∨ w = .qDepthMax ∨ w = .qDelayMax) ∧ q = p ∧ j = i))

/-- R320, R321: an install that its conditions allow joins the two ports, parks them at 0x05 where the circuit is persistent, is
counted and reads 0x02; a removal whose lists hold no bypass entry parts them; otherwise the command reads 0x03 and the map stays. -/
def Obligations.BypassCircuits : Prop :=
  ∀ (s : State) (p : Plane) (c : Chip) (rq : Req),
    let e := s.dev.fmMessage rq.ses.val
    let a := s.dev.get .bypA p c
    let b := s.dev.get .bypB p c
    let kind := s.dev.get .bypKind p c
    let n := 32 * c.val + a
    (s.dev.admits rq ⟨⟨.bypCmd, p, c⟩, 1, 1⟩ = true → kind ≤ 1 → e.bypInstallOk p a b kind c = true →
      ∃ t, exec (.bypassInstall p c rq) s = .next t ∧ t.pending = s.pending ∧ t.dev.Answered rq 0 ∧ t.dev.get .bypCmd p c = 2 ∧
        t.dev.bypPartner p n = some (32 * c.val + b) ∧ t.dev.bypPartner p (32 * c.val + b) = some n ∧
        t.dev.bypWindowed p n = decide (kind = 1) ∧
        t.dev.get .bypInstalls p 0 = min (s.dev.get .bypInstalls p 0 + 1) (2 ^ 32 - 1) ∧
        (kind = 0 → t.dev.get .portState p n = 5 ∧ t.dev.get .portState p (32 * c.val + b) = 5)) ∧
    (s.dev.admits rq ⟨⟨.bypCmd, p, c⟩, 1, 1⟩ = true → e.bypInstallOk p a b kind c = false →
      ∃ t, exec (.bypassInstall p c rq) s = .next t ∧ t.dev.Answered rq 0 ∧ t.dev.get .bypCmd p c = 3 ∧
        t.dev.get .bypMap p c = s.dev.get .bypMap p c ∧ t.dev.ports = s.dev.ports) ∧
    (∀ m, s.dev.admits rq ⟨⟨.bypCmd, p, c⟩, 1, 2⟩ = true → a < 32 → s.dev.bypPartner p n = some m →
      e.listsByp p n = false → e.listsByp p m = false →
      ∃ t, exec (.bypassRemove p c rq) s = .next t ∧ t.pending = s.pending ∧ t.dev.Answered rq 0 ∧ t.dev.get .bypCmd p c = 2 ∧
        t.dev.bypPartner p n = none ∧ t.dev.bypPartner p m = none) ∧
    (s.dev.admits rq ⟨⟨.bypCmd, p, c⟩, 1, 2⟩ = true →
      (∀ m, s.dev.bypPartner p n = some m → e.listsByp p n = true ∨ e.listsByp p m = true) →
      ∃ t, exec (.bypassRemove p c rq) s = .next t ∧ t.dev.Answered rq 0 ∧ t.dev.get .bypCmd p c = 3 ∧
        t.dev.get .bypMap p c = s.dev.get .bypMap p c ∧ t.dev.ports = s.dev.ports)

/-- R61, R324, R326, R327: a window takes both ports of a windowed circuit, or an endpoint, from UP to 0x05 and back, with at least
50 header-only BYPASS_PREAMBLE frames where a port at 200 Gb/s sends it; a window frame is received without acknowledgement, one
that fails a check and the cells of one beyond the window's are dropped and counted. -/
def Obligations.BypassWindows : Prop :=
  ∀ (s : State) (p : Plane) (n : Port) (f : Frame), s.dev.carries p = true →
    let ready (k : Nat) : Bool := s.dev.get .portState p k = 4 && s.dev.peerRelocks p k
    let preamble (k : Nat) (e : Device) : Prop := ∃ l, e.out = s.dev.out ++ l ∧ (s.dev.get .portRate p k ≠ 1 →
      50 ≤ l.count (.lfl p k ((s.dev.peerMk p k { opcode := opPreamble, cls := 5, hops := 1 }).frame [])))
    ((s.dev.outp p n).enabled = true → (s.dev.outp p n).bypClosed = false → entryByp (s.dev.gateIn p n 0).1 = true →
      ready n = true →
      (∀ m, s.dev.bypPartner p n = some m → s.dev.bypWindowed p n = true → ready m = true →
        ∃ t, exec (.bypassWindowStart p n) s = .next t ∧ t.pending = s.pending ∧ t.dev.get .portState p n = 5 ∧
          t.dev.get .portState p m = 5 ∧ (t.dev.port p n).window = true ∧ (t.dev.port p m).window = true ∧
          (t.dev.port p n).unacked = (s.dev.port p n).unacked ∧
          t.dev.get .bypWindows p 0 = (s.dev.get .bypWindows p 0 + 1) % 2 ^ 64) ∧
      (s.dev.bypPartner p n = none → s.dev.isEndpoint p n = true →
        ∃ t, exec (.bypassWindowStart p n) s = .next t ∧ t.dev.get .portState p n = 5 ∧ (t.dev.port p n).window = true ∧
          preamble n t.dev)) ∧
    ((s.dev.port p n).window = true → (s.dev.port p n).holdDown = 0 →
      (s.dev.bypPartner p n = none → ∃ t, exec (.bypassWindowEnd p n) s = .next t ∧ t.pending = s.pending ∧
        t.dev.get .portState p n = 4 ∧ t.dev.port p n = { s.dev.port p n with window := false, winTx := 0, winRx := 0, linkQ := [] } ∧
        preamble n t.dev) ∧
      (∀ m, s.dev.bypPartner p n = some m → (s.dev.port p m).window = true → (s.dev.port p m).holdDown = 0 →
        ∃ t, exec (.bypassWindowEnd p n) s = .next t ∧ t.dev.get .portState p n = 4 ∧ t.dev.get .portState p m = 4 ∧
          (t.dev.port p n).window = false ∧ (t.dev.port p m).window = false ∧ preamble n t.dev ∧ preamble m t.dev)) ∧
    (s.dev.sendsWindow p n = true →
      let ok := f.crcOk && decide (s.dev.verdict p f (s.dev.boundTo p n f) = .pass) && !s.dev.outOfPart p n f &&
        decide (f.trailerCheck = .good)
      let extra := (s.dev.port p n).winRx + f.cells - s.dev.get .bypWinCells p (bypIx n)
      let q := { s.dev.port p n with winRx := (s.dev.port p n).winRx + f.cells }
      (ok = false → ∃ t, exec (.windowFrame p n f) s = .next t ∧ t.pending = s.pending ∧
        t.dev.get .bypWinRxErr p 0 = min (s.dev.get .bypWinRxErr p 0 + 1) (2 ^ 32 - 1) ∧
        Device.Frame s.dev t.dev (fun o q i => o = .bypWinRxErr ∧ q = p ∧ i = 0)) ∧
      (ok = true → 0 < min f.cells extra → ∃ t, exec (.windowFrame p n f) s = .next t ∧
        t.dev.get .bypWinOverrun p 0 = min (s.dev.get .bypWinOverrun p 0 + min f.cells extra) (2 ^ 32 - 1) ∧
        Device.Frame (s.dev.setPort p n q) t.dev (fun o q i => o = .bypWinOverrun ∧ q = p ∧ i = 0)) ∧
      (ok = true → min f.cells extra = 0 → ∃ t, exec (.windowFrame p n f) s = .next t ∧ t.pending = s.pending ∧ t.dev.port p n = q ∧
        t.dev.get .rxFrames p n = (s.dev.get .rxFrames p n + 1) % 2 ^ 64 ∧
        t.dev.get .rxBytes p n = (s.dev.get .rxBytes p n + f.bytes) % 2 ^ 64))

/-! ### Collectives and compression (spec/07, spec/08, spec/09) -/

/-- R164, R165, R168: a load passes where the program and its bindings are valid, a clear in READY or FAILED; a stop fails a running slot
with status 0x04; a launch takes the next number, waits behind a running one, and is refused beyond 15 that wait. -/
def Obligations.SlotCommands : Prop :=
  ∀ (s : State) (p : Plane) (rq : Req),
    let g : Target := ⟨.slotCmd, p, 0⟩
    let e := s.dev.fmMessage rq.ses.val
    let sl := s.dev.place g rq.ses.val
    let st := s.dev.get .slotState p sl
    let last := s.dev.get .slotLaunchNo p sl
    let runs := st = 2 ∨ st = 3
    (s.dev.admits rq ⟨g, 1, 1⟩ = true →
      ∃ t, exec (.slotLoad p rq) s = .next t ∧ t.pending = s.pending ∧ t.dev.Answered rq 0 ∧
        t.dev.get .slotCmd p sl = (if e.loadOk p sl then 2 else 3) ∧ t.dev.get .slotState p sl = (if e.loadOk p sl then 1 else st) ∧
        (e.loadOk p sl = true → t.dev.slot p sl = {})) ∧
    (s.dev.admits rq ⟨g, 1, 4⟩ = true →
      ∃ t, exec (.slotClear p rq) s = .next t ∧ t.pending = s.pending ∧ t.dev.Answered rq 0 ∧
        (st = 1 ∨ st = 4 → t.dev.get .slotCmd p sl = 2 ∧ t.dev.get .slotState p sl = 0 ∧ t.dev.slot p sl = {}) ∧
        (¬ (st = 1 ∨ st = 4) → t.dev.get .slotCmd p sl = 3 ∧ t.dev.get .slotState p sl = st)) ∧
    (s.dev.admits rq ⟨g, 1, 3⟩ = true →
      ∃ t, exec (.slotStop p rq) s = .next t ∧ t.pending = s.pending ∧ t.dev.Answered rq 0 ∧
        (runs → t.dev.get .slotCmd p sl = 2 ∧ t.dev.get .slotState p sl = 4 ∧ t.dev.get .slotStatus p sl = 4 ∧
          bit (t.dev.get .cause p 4) 1 = true) ∧
        (¬ runs → t.dev.get .slotCmd p sl = 3 ∧ t.dev.get .slotState p sl = st)) ∧
    (s.dev.admits rq ⟨g, 1, 2⟩ = true →
      ∃ t, exec (.slotLaunch p rq) s = .next t ∧ t.pending = s.pending ∧ t.dev.Answered rq 0 ∧
        (st = 0 → t.dev.get .slotCmd p sl = 3 ∧ t.dev.get .slotLaunchNo p sl = last) ∧
        (st ≠ 0 → last = 2 ^ 64 - 1 ∨ (runs ∧ 15 ≤ (s.dev.slot p sl).queued) →
          t.dev.get .slotCmd p sl = 3 ∧ t.dev.get .slotLaunchNo p sl = last ∧
          t.dev.get .launchRefused p 0 = min (s.dev.get .launchRefused p 0 + 1) (2 ^ 32 - 1)) ∧
        (runs → last < 2 ^ 64 - 1 → (s.dev.slot p sl).queued < 15 →
          t.dev.get .slotCmd p sl = 2 ∧ t.dev.get .slotLaunchNo p sl = last + 1 ∧
          t.dev.get .seqLaunches p 0 = (s.dev.get .seqLaunches p 0 + 1) % 2 ^ 64 ∧
          t.dev.slot p sl = { s.dev.slot p sl with queued := (s.dev.slot p sl).queued + 1 }) ∧
        ((st = 1 ∨ st = 4) → last < 2 ^ 64 - 1 → e.slotLive p sl = [] →
          t.dev.get .slotCmd p sl = 2 ∧ t.dev.get .slotLaunchNo p sl = last + 1 ∧ t.dev.get .slotState p sl = 4 ∧
          t.dev.get .slotStatus p sl = 0x21))

/-- R167, R168, R172: a sequencer message of any kind that fails a check of Table 8.6 is counted and has no effect; a launch with the next
number is taken and one at or below the last counted; a signal adds up to 2^64 − 1; a notify not yet reached waits. -/
def Obligations.SequencerMessages : Prop :=
  ∀ (s : State) (p : Plane) (f : Frame), s.dev.live p = true → s.dev.scRuns p = false →
    let d := s.dev.takeIn p unitSeq f
    let sl := f.context
    let m := msgOf f
    let tn := s.dev.get .slotTenant p sl
    let known := sl ≤ 0x3FF ∧ s.dev.get .slotState p sl ≠ 0
    let member := (s.dev.memberOf p (s.dev.get .slotGroup p sl) f.srcDevice f.srcPort).isSome
    (∀ c ∈ [Instr.launch p f, .signal p f, .notify p f, .abortCtx p f, .report p f, .contribute p f, .xready p f, .failed p f],
      ∃ t, exec c s = .next t ∧ t.pending = s.pending ∧
        (¬ known ∨ m.bad = true → t.dev.get .seqMalformed p 0 = min (s.dev.get .seqMalformed p 0 + 1) (2 ^ 32 - 1) ∧
          bit (t.dev.get .cause p 4) 3 = true ∧
          Device.Frame d t.dev (fun o q i => (o = .seqMalformed ∧ q = p ∧ i = 0) ∨ causeRegs p 4 o q i)) ∧
        (known → m.bad = false → m.typ ∈ [1, 2, 3] → f.tenant ≠ tn →
          t.dev.get .seqTenantReject p 0 = min (s.dev.get .seqTenantReject p 0 + 1) (2 ^ 32 - 1) ∧ bit (t.dev.get .cause p 4) 2 = true ∧
          Device.Frame d t.dev (fun o q i => (o = .seqTenantReject ∧ q = p ∧ i = 0) ∨ causeRegs p 4 o q i)) ∧
        (known → m.bad = false → m.typ ∈ [1, 2, 3] → f.tenant = tn → member = false →
          t.dev.get .seqNonmember p 0 = min (s.dev.get .seqNonmember p 0 + 1) (2 ^ 32 - 1) ∧
          Device.Frame d t.dev (fun o q i => o = .seqNonmember ∧ q = p ∧ i = 0)) ∧
        (known → m.bad = false → m.typ ∈ [2, 3] → f.tenant = tn → member = true → m.gen ≠ s.dev.get .slotGen p sl →
          t.dev.get .seqStale p 0 = min (s.dev.get .seqStale p 0 + 1) (2 ^ 32 - 1) ∧
          Device.Frame d t.dev (fun o q i => o = .seqStale ∧ q = p ∧ i = 0))) ∧
    (s.dev.heeds p f = true → m.typ = 1 →
      let last := s.dev.get .slotLaunchNo p sl
      ∃ t, exec (.launch p f) s = .next t ∧
        (last < 2 ^ 64 - 1 → m.value ≤ last → t.dev.get .launchDup p 0 = min (s.dev.get .launchDup p 0 + 1) (2 ^ 32 - 1) ∧
          Device.Frame d t.dev (fun o q i => o = .launchDup ∧ q = p ∧ i = 0)) ∧
        (last + 1 < m.value → t.dev.get .launchRefused p 0 = min (s.dev.get .launchRefused p 0 + 1) (2 ^ 32 - 1) ∧
          Device.Frame d t.dev (fun o q i => o = .launchRefused ∧ q = p ∧ i = 0)) ∧
        (m.value = last + 1 → (s.dev.slot p sl).queued < 15 → t.dev.get .slotLaunchNo p sl = m.value ∧
          t.dev.get .seqLaunches p 0 = (s.dev.get .seqLaunches p 0 + 1) % 2 ^ 64)) ∧
    (s.dev.heeds p f = true → m.typ = 2 → s.dev.activeSlots p = [] →
      ∃ t, exec (.signal p f) s = .next t ∧ t.dev.syncVal p m.arg = min (s.dev.syncVal p m.arg + m.value) (2 ^ 64 - 1) ∧
        (2 ^ 64 ≤ s.dev.syncVal p m.arg + m.value → t.dev.get .syncSaturatedFlag p m.arg = 1 ∧
          t.dev.get .syncSaturated p 0 = min (s.dev.get .syncSaturated p 0 + 1) (2 ^ 32 - 1)) ∧
        ∀ n ∈ t.dev.notifies, n.plane = p.val → t.dev.syncVal p n.obj < n.value) ∧
    (s.dev.heeds p f = true → m.typ = 3 → s.dev.syncVal p m.arg < m.value →
      let held := (s.dev.notifies.filter (fun n => n.plane = p.val)).length
      ∃ t, exec (.notify p f) s = .next t ∧
        (held < 4096 → t.dev.notifies = s.dev.notifies ++ [⟨p, m.arg, m.value, sl, f.srcDevice, f.srcPort⟩] ∧
          Device.Frame { d with notifies := t.dev.notifies } t.dev (fun _ _ _ => False)) ∧
        (4096 ≤ held → t.dev.get .notifyRefused p 0 = min (s.dev.get .notifyRefused p 0 + 1) (2 ^ 32 - 1) ∧
          Device.Frame d t.dev (fun o q i => o = .notifyRefused ∧ q = p ∧ i = 0)))

/-- R165, R169, R180, R182: where no group switches, a running context that another device aborts goes to ABORTING with status 0x04 and
its slot to REWINDING at the context's step; a REPORT and a CONTRIBUTE are noted for the FORWARD_UP step that names their device and
context, a CONTRIBUTE only after the REPORT of its ATTEMPT; an XREADY is noted; FAILED ends the slot with status 0x25. -/
def Obligations.PeerMessages : Prop :=
  ∀ (s : State) (p : Plane) (f : Frame), s.dev.live p = true → s.dev.heeds p f = true → s.dev.noSwitch p = true →
    let d := s.dev.takeIn p unitSeq f
    let sl := f.context
    let m := msgOf f
    let st := s.dev.get .slotState p sl
    let q := s.dev.slot p sl
    let named (k : Nat) := s.dev.namedBy p sl k f.srcDevice
    let ups := s.dev.upSteps p sl f.srcDevice m.arg
    (m.typ = 4 → ∃ t, exec (.abortCtx p f) s = .next t ∧
      (2048 ≤ m.arg ∨ (s.dev.rctx p m.arg).slot ≠ sl ∨ s.dev.ctxState p m.arg = 0 → Device.Frame d t.dev (fun _ _ _ => False)) ∧
      (m.arg ≤ 2047 → (s.dev.rctx p m.arg).slot = sl → s.dev.ctxRuns p m.arg = true → (s.dev.rctx p m.arg).restarts < 255 →
        stKind (s.dev.stepWord p sl (s.dev.rctx p m.arg).step) ≠ 6 →
        t.dev.ctxState p m.arg = 4 ∧ t.dev.get .rctxStatus p m.arg = 4 ∧
        (t.dev.rctx p m.arg).restarts = (s.dev.rctx p m.arg).restarts + 1 ∧
        (st = 2 ∨ st = 3 → t.dev.get .slotState p sl = 3 ∧ t.dev.get .slotStepNow p sl = (s.dev.rctx p m.arg).step % 256))) ∧
    (m.typ = 0x82 → ∃ t, exec (.report p f) s = .next t ∧
      (∀ i, st ≠ 2 → ups = [i] → stepAtt q.upSent i = none → stepAtt (t.dev.slot p sl).upReports i = some m.attempt ∧
        (stepAtt q.upReports i ≠ some m.attempt → stepAtt (t.dev.slot p sl).upContributes i = none) ∧
        t.dev.get .slotStepNow p sl = s.dev.get .slotStepNow p sl) ∧
      (ups = [] → s.dev.still p = true → Device.Frame d t.dev (fun _ _ _ => False))) ∧
    (m.typ = 0x83 → ∃ t, exec (.contribute p f) s = .next t ∧
      (∀ i, st ≠ 2 → ups = [i] → (t.dev.slot p sl).upReports = q.upReports ∧
        stepAtt (t.dev.slot p sl).upContributes i =
          if stepAtt q.upReports i = some m.attempt then some m.attempt else stepAtt q.upContributes i) ∧
      (ups = [] → s.dev.still p = true → Device.Frame d t.dev (fun _ _ _ => False))) ∧
    (m.typ = 0x87 → named 6 = true → st ≠ 2 → ∃ t, exec (.xready p f) s = .next t ∧
      t.dev.slot p sl = { q with xready := some (m.arg, m.attempt) }) ∧
    (m.typ = 0x85 → ∃ t, exec (.failed p f) s = .next t ∧
      (st = 2 ∨ st = 3 → named 5 = true ∨ named 6 = true → t.dev.get .slotState p sl = 4 ∧ t.dev.get .slotStatus p sl = 0x25 ∧
        bit (t.dev.get .cause p 4) 1 = true) ∧
      (st = 1 ∨ st = 4 ∨ (named 5 = false ∧ named 6 = false) → Device.Frame d t.dev (fun _ _ _ => False)))

/-- R137, R139, R155, R156, R165: where no group switches, an idle timeout and an accumulator error restart a running context with status
0x03 and 0x02, or, after as many as its launch allows, end it FAILED with 0x15 and the slot with it; an abort command restarts it; clearing ends the restart; a frame without a context, of another
tenant or of another attempt is counted and dropped; timeouts fail the slot with status 0x23 and 0x24. -/
def Obligations.ContextEvents : Prop :=
  ∀ (s : State) (p : Plane) (x : Rctx) (elem : Nat) (rq : Req),
    let c := s.dev.rctx p x
    let sl := c.slot
    let st := s.dev.get .slotState p sl
    let unhurt (t : State) : Prop := Device.Frame s.dev t.dev (fun _ _ _ => False)
    let restarts (t : State) (status : Nat) : Prop :=
      (s.dev.ctxRuns p x = true → c.faults < c.restartMax → c.restarts < 255 → stKind (s.dev.stepWord p sl c.step) ≠ 6 →
        t.dev.ctxState p x = 4 ∧ t.dev.get .rctxStatus p x = status ∧ (t.dev.rctx p x).faults = c.faults + 1 ∧
        (t.dev.rctx p x).clearing = true ∧
        (st = 2 ∨ st = 3 → t.dev.get .slotState p sl = 3 ∧ t.dev.get .slotStepNow p sl = c.step % 256)) ∧
      (s.dev.ctxRuns p x = true → c.restartMax ≤ c.faults → st = 2 ∨ st = 3 →
        t.dev.get .slotState p sl = 4 ∧ t.dev.get .slotStatus p sl = 0x15 ∧ bit (t.dev.get .cause p 4) 0 = true ∧
        bit (t.dev.get .cause p 4) 1 = true)
    s.dev.noSwitch p = true →
    (s.dev.live p = true → ∃ t, exec (.rctxIdleTimeout p x) s = .next t ∧ t.pending = s.pending ∧
      (s.dev.ctxRuns p x = false → unhurt t) ∧ restarts t 3) ∧
    (s.dev.live p = true → ∃ t, exec (.accumulatorError p x elem) s = .next t ∧ t.pending = s.pending ∧
      (s.dev.ctxRuns p x = false ∨ 32 * dBlocks (s.dev.ctxDesc p x) ≤ elem → unhurt t) ∧
      (elem < 32 * dBlocks (s.dev.ctxDesc p x) → restarts t 2)) ∧
    (let y := s.dev.place ⟨.rctxAbortCmd, p, 0⟩ rq.ses.val
     s.dev.admitsNow rq ⟨⟨.rctxAbortCmd, p, 0⟩, 1, 1⟩ = true →
     ∃ t, exec (.rctxAbortCmd p rq) s = .next t ∧ t.pending = s.pending ∧ t.dev.Answered rq 0 ∧
       (s.dev.ctxRuns p y = false → t.dev.get .rctxAbortCmd p y = 3 ∧ t.dev.ctxState p y = s.dev.ctxState p y) ∧
       (s.dev.ctxRuns p y = true → (s.dev.rctx p y).restarts < 255 →
         stKind (s.dev.stepWord p (s.dev.rctx p y).slot (s.dev.rctx p y).step) ≠ 6 →
         t.dev.get .rctxAbortCmd p y = 1 ∧ t.dev.ctxState p y = 4 ∧ t.dev.get .rctxStatus p y = 4)) ∧
    (s.dev.live p = true →
      ∃ t, exec (.rctxClearDone p x) s = .next t ∧ t.pending = s.pending ∧
        (c.clearing = false → Device.Frame s.dev t.dev (fun _ _ _ => False)) ∧
        (c.clearing = true → s.dev.ctxState p x = 4 → c.hold = 0 → c.held = false → (s.dev.slot p sl).reformed = 0 → dMode (s.dev.ctxDesc p x) = 0 → c.raise = false →
          st = 3 → s.dev.slotCtxs p sl = [x.val] → s.dev.activeSlots p = [sl] → (s.dev.slot p sl).acted = true →
          s.dev.get .slotStepNow p sl = c.step → stKind (s.dev.stepWord p sl c.step) = 3 → stRctx (s.dev.stepWord p sl c.step) = x.val →
          t.dev.ctxState p x = 1 ∧ t.dev.get .rctxAttempt p x = (s.dev.get .rctxAttempt p x + 1) % 256 ∧
          (t.dev.rctx p x).clearing = false ∧ t.dev.get .slotState p sl = 2 ∧ t.dev.get .slotStepNow p sl = c.step ∧
          t.dev.get .redRestarts p 0 = min (s.dev.get .redRestarts p 0 + 1) (2 ^ 32 - 1))) ∧
    (∀ (k : Group) (id : Nat) (cp : Copy) (fr : FrameRec), s.dev.carries p = true → s.dev.still p = true →
      s.dev.atHead p id (200 + k.val) = true → s.dev.get .reducerState p k = 0 → s.dev.copy? p id = some cp →
      s.dev.frame? p cp.fid = some fr →
      let y := fr.frame.context
      ¬ (y ≤ 2047 ∧ (s.dev.rctx p y).clearing = true ∧ s.dev.ctxRuns p y = true) →
      let known := y ≤ 2047 ∧ (s.dev.ctxRuns p y = true ∨ s.dev.ctxState p y = 4)
      let stale := s.dev.ctxState p y = 4 ∨ fr.frame.flowSeq / 65536 ≠ s.dev.get .rctxAttempt p y
      ¬ known ∨ fr.frame.tenant ≠ s.dev.get .rctxTenant p y ∨ stale →
      ∃ t, exec (.reducerFrame p k id) s = .next t ∧ t.pending = s.pending ∧
        t.dev.copy? p id = some { cp with wait := cp.wait.filter (· ≠ 200 + k.val), due := cp.due ++ [200 + k.val] } ∧
        t.dev.rctxs = s.dev.rctxs ∧
        (¬ known → t.dev.get .redNoContext p 0 = min (s.dev.get .redNoContext p 0 + 1) (2 ^ 32 - 1)) ∧
        (known → fr.frame.tenant ≠ s.dev.get .rctxTenant p y →
          t.dev.get .redTenantReject p 0 = min (s.dev.get .redTenantReject p 0 + 1) (2 ^ 32 - 1) ∧ bit (t.dev.get .cause p 4) 2 = true) ∧
        (known → fr.frame.tenant = s.dev.get .rctxTenant p y →
          t.dev.get .redStale p 0 = min (s.dev.get .redStale p 0 + 1) (2 ^ 32 - 1))) ∧
    (∀ z : SlotId, s.dev.live p = true →
      (s.dev.get .slotState p z = 2 ∨ s.dev.get .slotState p z = 3 → ∃ t, exec (.stepTimeout p z) s = .next t ∧ t.pending = s.pending ∧
        t.dev.get .slotState p z = 4 ∧ t.dev.get .slotStatus p z = 0x23) ∧
      (s.dev.runsStep p z 6 = true → (s.dev.slot p z).xready = none → ∃ t, exec (.xsiteTimeout p z) s = .next t ∧
        t.pending = s.pending ∧ t.dev.get .slotState p z = 4 ∧ t.dev.get .slotStatus p z = 0x24))

/-- R174 to R176, R185 to R187: a written value is loaded and its flag cleared; COUNTS requests are checked and kept; an exclusion marks a
member in the page in force and is counted; a commit that its conditions allow waits for its boundary, where the pages change, and a
slot of the group restarts its program with GEN one higher. -/
def Obligations.GroupsAndCounts : Prop :=
  ∀ (s : State) (p : Plane) (f : Frame) (v : BitVec 16) (w : BitVec 64) (rq : Req),
    (s.dev.admits rq ⟨⟨.syncValue, p, 0⟩, 8, w.toNat⟩ = true → s.dev.activeSlots p = [] →
      let k := s.dev.place ⟨.syncValue, p, 0⟩ rq.ses.val
      ∃ t, exec (.syncValueWrite p w rq) s = .next t ∧ t.pending = s.pending ∧ t.dev.Answered rq 0 ∧ t.dev.syncVal p k = w.toNat ∧
        t.dev.get .syncSaturatedFlag p k = 0) ∧
    (s.dev.live p = true → s.dev.countsSlot p f = none → ∃ t, exec (.counts p f) s = .next t ∧ t.pending = s.pending ∧
      t.dev.get .seqStale p 0 = min (s.dev.get .seqStale p 0 + 1) (2 ^ 32 - 1)) ∧
    (∀ sl, s.dev.live p = true → s.dev.countsSlot p f = some sl →
     let d := s.dev.takeIn p unitSeq f
     let n := f.payload.length / 4 - 1
     let h := beNat f.payload 0 4
     let shape := sl ≤ 0x3FF ∧ s.dev.get .slotState p sl ≠ 0 ∧ f.payload.length = 4 + 4 * n ∧ 1 ≤ n ∧ n ≤ 1023 ∧ fld h 0 11 = n ∧
       fld h 26 6 = 0 ∧ fld h 11 5 = 0
     shape →
     ∃ t, exec (.counts p f) s = .next t ∧ t.pending = s.pending ∧
       (f.tenant ≠ s.dev.get .slotTenant p sl → t.dev.get .seqTenantReject p 0 = min (s.dev.get .seqTenantReject p 0 + 1) (2 ^ 32 - 1) ∧
         bit (t.dev.get .cause p 4) 2 = true) ∧
       (f.tenant = s.dev.get .slotTenant p sl → s.dev.memberOf p (s.dev.get .slotGroup p sl) f.srcDevice f.srcPort = none →
         t.dev.get .seqNonmember p 0 = min (s.dev.get .seqNonmember p 0 + 1) (2 ^ 32 - 1) ∧
         Device.Frame d t.dev (fun o q i => o = .seqNonmember ∧ q = p ∧ i = 0)) ∧
       (∀ m i, f.tenant = s.dev.get .slotTenant p sl → s.dev.memberOf p (s.dev.get .slotGroup p sl) f.srcDevice f.srcPort = some m →
         s.dev.get .slotState p sl = 3 → s.dev.noSwitch p = true →
         s.dev.countsStep p sl = some i →
         (s.dev.countDests p (stAux (s.dev.stepWord p sl i)) < fld h 16 10 + n →
           t.dev.get .slotState p sl = 4 ∧ t.dev.get .slotStatus p sl = 0x22) ∧
         (stAux (s.dev.stepWord p sl i) = 0xFFF → n = 1 → fld h 16 10 = 0 → (s.dev.slot p sl).lasts = [] → (s.dev.slot p sl).counts = [] →
           (t.dev.slot p sl).counts = [(m, 0, beNat f.payload 4 4)] ∧
           (t.dev.slot p sl).lasts = if bit f.flags 5 then [m] else []))) ∧
    (let g := s.dev.sel .grpSel p 0 rq.ses.val
     let st := s.dev.get .grpState p g
     let page := if st = 3 then s.dev.get .grpDescActive p g else s.dev.get .grpDesc p g
     let j := (fld page 0 16 + v.toNat) % 65536
     s.dev.admits rq ⟨⟨.grpExclude, p, 0⟩, 2, v.toNat⟩ = true →
     (fld page 16 12 < v.toNat → ∃ t, exec (.grpExclude p v rq) s = .next t ∧ t.dev.Answered rq 0x303 ∧
       t.dev.get .grpState p g = st ∧ t.dev.get .grpMember p j = s.dev.get .grpMember p j ∧
       t.dev.get .grpMemberActive p j = s.dev.get .grpMemberActive p j) ∧
     (v.toNat ≤ fld page 16 12 → ∃ t, exec (.grpExclude p v rq) s = .next t ∧ t.pending = s.pending ∧ t.dev.Answered rq 0 ∧
       (st ≤ 1 → t.dev.get .grpState p g = 1 ∧ bit (t.dev.get .grpMember p j) 0 = true) ∧
       (st = 2 → t.dev.get .grpState p g = 2 ∧ bit (t.dev.get .grpMember p j) 0 = true ∧
         t.dev.get .reformMerges p 0 = min (s.dev.get .reformMerges p 0 + 1) (2 ^ 32 - 1)) ∧
       (st = 3 → s.dev.groupsIn p 2 = [] → bit (t.dev.get .grpMemberActive p j) 0 = true ∧
         t.dev.get .reformRestarts p 0 = min (s.dev.get .reformRestarts p 0 + 1) (2 ^ 32 - 1)))) ∧
    (let g := s.dev.place ⟨.grpCommitCmd, p, 0⟩ rq.ses.val
     let ok := (s.dev.fmMessage rq.ses.val).grpCommitOk p g
     s.dev.admitsNow rq ⟨⟨.grpCommitCmd, p, 0⟩, 1, 1⟩ = true →
     ∃ t, exec (.grpCommit p rq) s = .next t ∧ t.pending = s.pending ∧ t.dev.Answered rq 0 ∧
       (ok = false → t.dev.get .grpCommitCmd p g = 3 ∧ t.dev.get .grpState p g = s.dev.get .grpState p g) ∧
       (ok = true → s.dev.get .grpBoundaryKind p g = 1 →
         s.dev.syncVal p (s.dev.get .grpBoundaryObj p g) < s.dev.get .grpBoundaryValue p g →
         t.dev.get .grpCommitCmd p g = 1 ∧ t.dev.get .grpState p g = 2 ∧
         t.dev.get .grpDescActive p g = s.dev.get .grpDescActive p g)) ∧
    (∀ g : GroupId, s.dev.live p = true → ∃ t, exec (.grpBoundary p g) s = .next t ∧ t.pending = s.pending ∧
      (s.dev.get .grpState p g ≠ 2 ∨ s.dev.grpBoundaryMet p g = false → Device.Frame s.dev t.dev (fun _ _ _ => False)) ∧
      (s.dev.RegsWf = true → s.dev.groupsIn p 2 = [g.val] → s.dev.groupsIn p 3 = [] → s.dev.grpBoundaryMet p g = true →
        let desc := s.dev.get .grpDesc p g
        (s.dev.activeSlots p = [] →
          t.dev.get .grpState p g = 0 ∧ t.dev.get .grpCommitCmd p g = 2 ∧ t.dev.get .grpDescActive p g = desc ∧
          ∀ k ≤ fld desc 16 12, t.dev.get .grpMemberActive p ((fld desc 0 16 + k) % 65536) =
            s.dev.get .grpMember p ((fld desc 0 16 + k) % 65536)) ∧
        (∀ sl, sl ≤ 0x3FF → s.dev.activeSlots p = [sl] → s.dev.get .slotGroup p sl = g → fld desc 52 12 ≠ 0 → (s.dev.slot p sl).reformed = 0 →
          s.dev.slotCtxs p sl = [] → s.dev.cmpActive p sl = [] → stKind (s.dev.stepWord p sl 0) = 1 →
          s.dev.pageLive desc .grpMember p ≠ [] →
          t.dev.get .grpState p g = 0 ∧ t.dev.get .slotState p sl = 2 ∧ t.dev.get .slotStepNow p sl = 0 ∧
          t.dev.get .slotGen p sl = (s.dev.get .slotGen p sl + 1) % 256 ∧ (t.dev.slot p sl).launch = (s.dev.slot p sl).launch)))

/-- R197, R199, R202, R203: a compression context is loaded with a valid descriptor and cleared when not ACTIVE, its residual buffers freed;
a unit is processed once the partner is ready and its results are there; an LR_TILE record is discarded, refused or expanded. -/
def Obligations.Compression : Prop :=
  ∀ (s : State) (p : Plane) (n : Fin 256) (f : Frame) (rq : Req),
    (let g : Target := ⟨.cctxCmd, p, 0⟩
     let k := s.dev.place g rq.ses.val
     let st := s.dev.get .cctxState p k
     let tn := s.dev.get .cctxTenant p k
     let ok := st = 0 ∧ tn ≠ 0xFFFF ∧ tn ≠ 0 ∧ cctxDescOk (s.dev.cDesc p k) (s.dev.cBlocks p k) = true
     (s.dev.admits rq ⟨g, 1, 1⟩ = true → s.dev.journals rq.ses.val [(⟨.cctxState, p, k⟩, 1)] = true →
       ∃ t, exec (.cctxLoad p rq) s = .next t ∧ t.pending = s.pending ∧ t.dev.Answered rq 0 ∧
         (ok → t.dev.get .cctxCmd p k = 2 ∧ t.dev.get .cctxState p k = 1) ∧
         (¬ ok → t.dev.get .cctxCmd p k = 3 ∧ t.dev.get .cctxState p k = st)) ∧
     (s.dev.admits rq ⟨g, 1, 2⟩ = true → s.dev.journals rq.ses.val [(⟨.cctxState, p, k⟩, 0)] = true →
       ∃ t, exec (.cctxClear p rq) s = .next t ∧ t.pending = s.pending ∧ t.dev.Answered rq 0 ∧
         (st = 2 → t.dev.get .cctxCmd p k = 3 ∧ t.dev.get .cctxState p k = 2 ∧ t.dev.cctxs = s.dev.cctxs) ∧
         (st ≠ 2 → t.dev.get .cctxCmd p k = 2 ∧ t.dev.get .cctxState p k = 0 ∧ t.dev.get .cctxResBuffers p k = 0 ∧
           (t.dev.cctx p k).spans = []))) ∧
    (let c := s.dev.cctx p n
     let v := s.dev.cDesc p n
     let b0 := unitFirst v c.unit
     let nb := unitBlocks v (s.dev.cBlocks p n) c.unit
     let ready := (s.dev.slot p c.slot).xready.isSome = true ∧ s.dev.get .cctxState p n = 2 ∧ b0 < s.dev.cBlocks p n ∧
       b0 + nb ≤ c.shard.length ∧ s.dev.ctxState p (stRctx (s.dev.stepWord p c.slot c.step)) = 2
     s.dev.live p = true → ∃ t, exec (.compressUnit p n) s = .next t ∧ t.pending = s.pending ∧
       (¬ ready → Device.Frame s.dev t.dev (fun _ _ _ => False)) ∧
       (ready → (t.dev.cctx p n).unit = c.unit + 1 ∧ (t.dev.cctx p n).shard = c.shard ∧
         t.dev.get .cmpElements p 0 = (s.dev.get .cmpElements p 0 + 32 * nb) % 2 ^ 64)) ∧
    (let d := s.dev.takeIn p 144 f
     let x := f.context
     let rc := s.dev.rctx p x
     let k := stValue (s.dev.stepWord p rc.slot rc.step) % 256
     let known := x ≤ 2047 ∧ s.dev.byXsite p x = true ∧ s.dev.get .cctxState p k = 2 ∧ (s.dev.ctxState p x = 2 ∨ s.dev.ctxState p x = 4)
     s.dev.live p = true → ∃ t, exec (.lrTile p f) s = .next t ∧ t.pending = s.pending ∧
       (¬ known → t.dev.get .redNoContext p 0 = min (s.dev.get .redNoContext p 0 + 1) (2 ^ 32 - 1) ∧
         Device.Frame d t.dev (fun o q i => o = .redNoContext ∧ q = p ∧ i = 0)) ∧
       (known → f.tenant ≠ s.dev.get .rctxTenant p x →
         t.dev.get .redTenantReject p 0 = min (s.dev.get .redTenantReject p 0 + 1) (2 ^ 32 - 1) ∧ bit (t.dev.get .cause p 4) 2 = true) ∧
       (known → f.tenant = s.dev.get .rctxTenant p x → s.dev.ctxState p x = 4 ∨ f.flowSeq / 65536 ≠ s.dev.get .rctxAttempt p x →
         t.dev.get .redStale p 0 = min (s.dev.get .redStale p 0 + 1) (2 ^ 32 - 1) ∧
         Device.Frame d t.dev (fun o q i => o = .redStale ∧ q = p ∧ i = 0)) ∧
       (known → f.tenant = s.dev.get .rctxTenant p x → s.dev.ctxState p x = 2 → f.flowSeq / 65536 = s.dev.get .rctxAttempt p x →
         (f.payload.length < 16 → t.dev.get .cmpMismatch p 0 = min (s.dev.get .cmpMismatch p 0 + 1) (2 ^ 32 - 1) ∧
           bit (t.dev.get .cause p 4) 4 = true ∧
           (s.dev.get .slotState p rc.slot = 2 ∨ s.dev.get .slotState p rc.slot = 3 →
             t.dev.get .slotState p rc.slot = 4 ∧ t.dev.get .slotStatus p rc.slot = 0x10)) ∧
         (let h := beNat f.payload 0 16
          let r := cRank (s.dev.cDesc p k)
          let w := 2 ^ cLog (s.dev.cDesc p k)
          let rows := fld h 58 10
          16 ≤ f.payload.length → fld h 72 8 = r → fld h 68 4 = cLog (s.dev.cDesc p k) → fld h 112 16 = (s.dev.cctx p k).chunk % 65536 →
          fld h 80 32 = (s.dev.cctx p k).iter → 1 ≤ rows → rows ≤ 255 → f.payload.length = 16 + 2 * r * rows → f.offset % w = 0 →
          f.offset + rows * w ≤ 32 * s.dev.cBlocks p k → fld h 0 58 = 0 → cMethod (s.dev.cDesc p k) = 1 →
          t.dev.get .mxProducts p 0 = (s.dev.get .mxProducts p 0 + rows * (w * r)) % 2 ^ 64)))

/-- R158, R194, R249, R328, R410: a fault in a unit with a free spare takes the unit out and puts the spare in its place; a fault in a unit
whose spare stands in retires the plane; the test after a fault returns the unit or retires it; a failed path check removes the circuit. -/
def Obligations.UnitFaults : Prop :=
  ∀ (s : State) (p : Plane), s.dev.live p = true →
    let spared (g u : Nat) : Prop := s.dev.testedIn p g = none ∧ s.dev.standsOf p g = [] ∧ s.dev.chanState p (unitChan g u) ≠ 3 ∧ s.dev.chanState p (unitChan g u) ≠ 4 ∧
      s.dev.secondFault p (unitChan g u) = false ∧ ∀ x, s.dev.ctxState p x = 0
    (∀ (c : Group) (lane : Fin 68), let g := 4 * 4096 + c.val
      s.dev.get .reducerState p c = 0 → lane.val < 64 → spared g lane →
      (∀ z, s.dev.freeSpare p g = some z → ∃ t, exec (.reducerLaneFault p c lane) s = .next t ∧ t.pending = s.pending ∧
        t.dev.chanState p (unitChan g lane) = 3 ∧ t.dev.get .reducerState p c = 0 ∧
        t.dev.get .hfChanFaults p (unitChan g lane) = min (s.dev.get .hfChanFaults p (unitChan g lane) + 1) (2 ^ 32 - 1)) ∧
      (s.dev.freeSpare p g = none → ∃ t, exec (.reducerLaneFault p c lane) s = .next t ∧ t.pending = s.pending ∧
        t.dev.get .reducerState p c = 1 ∧ t.dev.chanState p (unitChan g lane) = 4)) ∧
    (∀ (c : Group) (lane : Fin 68), let g := 4 * 4096 + c.val
      let free := s.dev.freeSpare p g
      lane.val < 64 → s.dev.standsOf p g = [] → s.dev.chanState p (unitChan g lane) = 3 → (∀ x, s.dev.ctxState p x = 0) →
      ∃ t, exec (.spareLaneStandIn p c lane) s = .next t ∧ t.pending = s.pending ∧
        (∀ z, free = some z → t.dev.standsOf p g = [(lane.val, z)] ∧ t.dev.chanState p (unitChan g lane) = 2 ∧
          bit (t.dev.get .spareLanesUsed p c) (z - 64) = true ∧ bit (t.dev.get .cause p 10) 2 = true)) ∧
    (∀ (u : Fin 9), let g := 5 * 4096
      u.val < 8 → spared g u → s.dev.freeSpare p g = some 8 →
      ∃ t, exec (.tileFault p u) s = .next t ∧ t.pending = s.pending ∧ t.dev.standsOf p g = [(u.val, 8)] ∧
        t.dev.get .mxSpareInUse p 0 = 1 ∧ t.dev.chanState p (unitChan g u) = 2 ∧
        t.dev.get .mxTileFaults p 0 = min (s.dev.get .mxTileFaults p 0 + 1) (2 ^ 32 - 1)) ∧
    (∀ (dir : Fin 2) (u : Fin 17), let g := 6 * 4096 + dir.val
      u.val < 16 → spared g u → s.dev.freeSpare p g = some 16 →
      ∃ t, exec (.cipherFault p dir u) s = .next t ∧ t.pending = s.pending ∧ t.dev.standsOf p g = [(u.val, 16)] ∧
        t.dev.chanState p (unitChan g u) = 2 ∧ bit (t.dev.get .cause p 6) 0 = true ∧
        t.dev.get .cipherFaults p 0 = min (s.dev.get .cipherFaults p 0 + 1) (2 ^ 32 - 1)) ∧
    (∀ (u : Fin 9) (k : Nat), s.dev.standsOf p (5 * 4096) = [(u.val, k)] → s.dev.testedIn p (5 * 4096) = none →
      ∃ t, exec (.tileFault p u) s = .next t ∧ t.pending = s.pending ∧
        (t.dev.plane p).cond = .retired ∧ bit (t.dev.get .cause p 2) 4 = true) ∧
    (∀ (ch : BitVec 16), let g := (unitOf ch.toNat).1
      let u := (unitOf ch.toNat).2
      chanOk ch.toNat = true → 4 ≤ chanCode ch.toNat → chanCode ch.toNat ≤ 6 → s.dev.retired p ch.toNat = false →
      (s.dev.chanSt p ch.toNat).retry = true →
      (∃ t, exec (.faultRetryBistComplete p ch true) s = .next t ∧ t.pending = s.pending ∧ t.dev.spareFor p g u = none ∧
        (t.dev.chanSt p ch.toNat).retry = false ∧ (t.dev.chanSt p ch.toNat).cleared = some s.dev.clock ∧
        t.dev.chanState p ch.toNat = s.dev.inService p ch.toNat) ∧
      (∃ t, exec (.faultRetryBistComplete p ch false) s = .next t ∧ t.pending = s.pending ∧
        t.dev.retired p ch.toNat = true ∧ t.dev.get .bistFailures p 0 = min (s.dev.get .bistFailures p 0 + 1) (2 ^ 32 - 1) ∧
        bit (t.dev.get .cause p 10) 4 = true)) ∧
    (∀ (c : Chip) (k : Fin 32) (pass : Bool), let n := 32 * c.val + k.val
      (pass = true ∨ s.dev.bypPartner p n = none → ∃ t, exec (.bypassPathCheck p c k pass) s = .next t ∧
        Device.Frame s.dev t.dev (fun _ _ _ => False)) ∧
      (∀ m, pass = false → s.dev.bypPartner p n = some m → s.dev.secondFault p (chan 9 n) = false →
        ∃ t, exec (.bypassPathCheck p c k pass) s = .next t ∧ t.pending = s.pending ∧
          t.dev.get .bypPathFaults p 0 = min (s.dev.get .bypPathFaults p 0 + 1) (2 ^ 32 - 1) ∧ bit (t.dev.get .cause p 9) 0 = true ∧
          t.dev.bypPartner p n = none ∧ t.dev.bypPartner p m = none))

/-! ### The long-haul line and its keys (spec/10, spec/11) -/

/-- R215, R216, R220, R222: a port that nothing holds down sends the multiframe's next carrier frame; received frames move the alignment
of Table 10.4, with four bad frames in a row losing it; loss of signal, of the PCS lock and `lh_admin` 0 take the link out of frame and
out of the bundle. -/
def Obligations.LongHaulLinks : Prop :=
  ∀ (s : State) (p : Plane) (l : Lh) (cf : CarrierFrame) (lock : Bool) (v : Byte) (rq : Req),
    let k := s.dev.link p l
    let off (t : State) : Prop := (t.dev.link p l).align = 0 ∧ t.dev.inBundle p l = false
    let bad (t : State) : Prop := t.dev.get .lhBadFrames p l = min (s.dev.get .lhBadFrames p l + 1) (2 ^ 32 - 1) ∧
      (k.align = 0 → (t.dev.link p l).align = 0 ∧ (t.dev.link p l).last = none) ∧
      (k.align ≠ 0 → t.dev.get .lhErasedFrames p l = min (s.dev.get .lhErasedFrames p l + 1) (2 ^ 32 - 1) ∧
        (t.dev.link p l).expect = (k.expect + 1) % 2 ^ 54 ∧ (k.bad < 3 → (t.dev.link p l).bad = k.bad + 1) ∧
        (3 ≤ k.bad → off t ∧ t.dev.get .lhOofEvents p l = min (s.dev.get .lhOofEvents p l + 1) (2 ^ 32 - 1)))
    (s.dev.admits rq ⟨⟨.lhAdmin, p, l⟩, 1, v.toNat⟩ = true → s.dev.journals rq.ses.val [(⟨.lhAdmin, p, l⟩, v.toNat)] = true →
      ∃ t, exec (.lhAdminWrite p l v rq) s = .next t ∧ t.pending = s.pending ∧ t.dev.Answered rq 0 ∧ t.dev.get .lhAdmin p l = v.toNat ∧
        (v = 0 → off t ∧ t.dev.get .lhState p l = if bit (s.dev.get .fencedLongHaul p 0) l then 6 else 0)) ∧
    (s.dev.live p = true →
      (s.dev.lhUp p l = false ∨ 64 ≤ k.fn →
        ∃ t, exec (.carrierFrameTx p l) s = .next t ∧ Device.Frame s.dev t.dev (fun _ _ _ => False)) ∧
      (s.dev.lhUp p l = true → k.fn < 64 →
        ∃ t, exec (.carrierFrameTx p l) s = .next t ∧ t.pending = s.pending ∧ (t.dev.link p l).fn = k.fn + 1 ∧
          t.dev.get .lhTxFrames p l = (s.dev.get .lhTxFrames p l + 1) % 2 ^ 64 ∧
          ∃ oh area, s.dev.Sends t.dev (.carrier p l (carrierOf (s.dev.srcMac p l) oh area)))) ∧
    (let ok := s.dev.carrierOk p l cf
     let num := fld cf.oh.toNat 432 48 * 64 + fld cf.oh.toNat 490 6
     let listens := 2 ≤ s.dev.get .lhState p l ∧ s.dev.get .lhState p l ≠ 6
     s.dev.live p = true → ∃ t, exec (.carrierFrameRx p l cf) s = .next t ∧ t.pending = s.pending ∧
       (¬ listens → Device.Frame s.dev t.dev (fun _ _ _ => False)) ∧
       (listens → ok.1 = false ∨ ok.2 = false → bad t ∧
         (ok.1 = true → t.dev.get .lhPeerMismatch p l = min (s.dev.get .lhPeerMismatch p l + 1) (2 ^ 32 - 1) ∧
           bit (t.dev.get .cause p 5) 0 = true)) ∧
       (listens → ok = (true, true) → t.dev.get .lhRxFrames p l = (s.dev.get .lhRxFrames p l + 1) % 2 ^ 64 ∧
         (k.align = 0 → k.last = some ((num + 2 ^ 54 - 1) % 2 ^ 54) → (t.dev.link p l).align = 1 ∧
           (t.dev.link p l).expect = (num + 1) % 2 ^ 54 ∧ (t.dev.link p l).bad = 0) ∧
         (k.align = 0 → k.last ≠ some ((num + 2 ^ 54 - 1) % 2 ^ 54) → t.dev.link p l = { k with last := some num }) ∧
         (k.align ≠ 0 → num = k.expect → (t.dev.link p l).expect = (k.expect + 1) % 2 ^ 54 ∧ (t.dev.link p l).bad = 0) ∧
         (k.align ≠ 0 → num ≠ k.expect → bad t))) ∧
    (s.dev.live p = true → ∃ t, exec (.carrierFrameAbsent p l) s = .next t ∧ t.pending = s.pending ∧
      (k.align = 0 ∨ s.dev.get .lhState p l < 2 → Device.Frame s.dev t.dev (fun _ _ _ => False)) ∧
      (k.align ≠ 0 → 2 ≤ s.dev.get .lhState p l → bad t)) ∧
    (s.dev.live p = true → ∃ t, exec (.lhLossOfSignal p l) s = .next t ∧ t.pending = s.pending ∧ off t) ∧
    (s.dev.live p = true → ∃ t, exec (.longHaulPcsLock p l lock) s = .next t ∧ t.pending = s.pending ∧ (t.dev.link p l).pcs = lock ∧
      (lock = true → t.dev.link p l = { k with pcs := true } ∧ t.dev.get .lhBundle p 0 = s.dev.get .lhBundle p 0) ∧
      (lock = false → off t))

/-- R12, R222, R231, R232, R234, R236, R237: at a multiframe boundary of a gateway the MFN rises by 1, links in multiframe join the bundle
and a pending page is taken at its MFN, and in the spine role the framers are off; each change of the bridge is counted; a commit with a
valid page is announced or armed and any other refused; once the conditions are followed, the one of the group whose hold-off began
first becomes a request, and a protection command is stored. -/
def Obligations.MultiframesAndPages : Prop :=
  ∀ (s : State) (p : Plane) (g : Fin 2) (v : Byte) (rq : Req), s.dev.RegsWf = true →
    let th := s.dev.tether p
    let mfn := (s.dev.get .lhMfnTx p 0 + 1) % 2 ^ 48
    (s.dev.role p ≠ 1 → ∃ t, exec (.multiframeBoundary p) s = .next t ∧ Device.Frame s.dev t.dev (fun _ _ _ => False)) ∧
    (s.dev.live p = true → s.dev.role p = 1 → ∃ t, exec (.multiframeBoundary p) s = .next t ∧ t.pending = s.pending ∧
      t.dev.get .lhMfnTx p 0 = mfn ∧
      (∀ l : Lh, (t.dev.link p l).fn = 0) ∧ (t.dev.tether p).areas = [] ∧ (t.dev.tether p).sealed = 0 ∧
      (∀ l : Lh, s.dev.inBundle p l = true → t.dev.inBundle p l = true) ∧
      (∀ l : Lh, (s.dev.link p l).align = 2 → s.dev.lhUp p l = true → s.dev.retired p (chan 8 l) = false →
        s.dev.get .lhSkewNs p l ≤ s.dev.get .lhDeskewMaxUs p 0 * 1000 → t.dev.inBundle p l = true) ∧
      (∀ m, th.txPend = some m → mfn < m → (t.dev.tether p).announced = true ∧ (t.dev.tether p).txPage = th.txPage) ∧
      (∀ m, th.txPend = some m → m ≤ mfn → (t.dev.tether p).txPend = none ∧ (t.dev.tether p).txPage = 1 - th.txPage ∧
        t.dev.get .tsiCommitCmd p 0 = 2 ∧ t.dev.get .tsiPcodeActive p 0 = s.dev.get .tsiPcode p 0 ∧
        ∀ pos < 2048, t.dev.get .tsiEntryActive p (tsiIx 0 pos) = s.dev.get .tsiEntry p (tsiIx 0 pos)) ∧
      t.dev.get .apsSwitches p 0 = (if t.dev.get .apsBridge p 0 = s.dev.get .apsBridge p 0 then s.dev.get .apsSwitches p 0
        else min (s.dev.get .apsSwitches p 0 + 1) (2 ^ 32 - 1))) ∧
    (let e := s.dev.apsFollow p
     let x := e.tether p
     s.dev.live p = true → ∃ t, exec (.holdoffExpiry p g) s = .next t ∧ t.pending = s.pending ∧
       (∀ c, x.running.find? (fun c => c % 16 = g.val) = some c →
         t.dev.tether p = { x with running := x.running.filter (· ≠ c), confirmed := x.confirmed ++ [c], wtr := none }) ∧
       (x.running.find? (fun c => c % 16 = g.val) = none → Device.Frame e t.dev (fun _ _ _ => False))) ∧
    (∀ c ∈ [0xB0, 0xB1, 0x90, 0x91], let y := (s.dev.apsFollow p).tether p
     (s.dev.lineCond p c = true → c ∈ y.running ∨ c ∈ y.confirmed) ∧
       (s.dev.lineCond p c = false → c ∉ y.running ∧ c ∉ y.confirmed)) ∧
    (s.dev.live p = true → ∃ t, exec (.wtrExpiry p) s = .next t ∧ t.pending = s.pending ∧ t.dev.tether p = { th with wtr := none } ∧
      ∀ o q i, o.computed = false → t.dev.get o q i = s.dev.get o q i) ∧
    (s.dev.admits rq ⟨⟨.apsCommand, p, 0⟩, 1, v.toNat⟩ = true →
      (v.toNat / 16 ∈ [0x0, 0x7, 0xE, 0xF] → ∃ t, exec (.apsCommand p v rq) s = .next t ∧ t.pending = s.pending ∧ t.dev.Answered rq 0 ∧
        t.dev.get .apsCommand p 0 = v.toNat ∧ t.dev.get .apsBridge p 0 = s.dev.get .apsBridge p 0) ∧
      (v.toNat / 16 ∉ [0x0, 0x7, 0xE, 0xF] → ∃ t, exec (.apsCommand p v rq) s = .next t ∧ t.dev.Answered rq 0x303 ∧
        t.dev.get .apsCommand p 0 = s.dev.get .apsCommand p 0)) ∧
    (let dir := s.dev.sel .tsiDirSel p 0 rq.ses.val
     let w : Write := ⟨⟨.tsiCommitCmd, p, 0⟩, 1, 1⟩
     let ok := pageOk (fun pos => s.dev.get .tsiEntry p (tsiIx dir pos)) (s.dev.get .tsiPcode p dir)
     let m := s.dev.get .tsiSwitchMfn p 0 % 2 ^ 48
     let sends (t : State) : Prop := t.pending = s.pending ∧ t.dev.Answered rq 0 ∧
       (ok = true → s.dev.get .lhMfnTx p 0 + 16 ≤ m → th.txPend = none →
         t.dev.get .tsiCommitCmd p 0 = 1 ∧ t.dev.tether p = { th with txPend := some m, announced := false }) ∧
       (ok = false ∨ m < s.dev.get .lhMfnTx p 0 + 16 ∨ th.txPend.isSome = true →
         t.dev.get .tsiCommitCmd p 0 = 3 ∧ t.dev.tether p = th)
     let receives (t : State) : Prop := t.pending = s.pending ∧ t.dev.Answered rq 0 ∧
       (ok = true → t.dev.get .tsiCommitCmd p 1 = 1 ∧ t.dev.tether p = { th with rxArmed := true }) ∧
       (ok = false → t.dev.get .tsiCommitCmd p 1 = 3 ∧ t.dev.tether p = th)
     (dir = 0 → s.dev.admitsNow rq w = true →
       (∃ t, exec (.tsiCommitTx p rq) s = .next t ∧ sends t) ∧ ∃ t, exec (.tsiCommitRx p rq) s = .next t ∧ sends t) ∧
     (dir = 1 → s.dev.admits rq w = true →
       (∃ t, exec (.tsiCommitTx p rq) s = .next t ∧ receives t) ∧ ∃ t, exec (.tsiCommitRx p rq) s = .next t ∧ receives t))

/-- R226, R238, R240 to R242: a descriptor write is refused by its rule and otherwise starts the tributary anew where it enables or
disables it; acknowledgements wait once; an open gap is NAKed again, counted and left to the sender where the queue is full, or declared lost; the
oldest copy is queued once. -/
def Obligations.Tributaries : Prop :=
  ∀ (s : State) (p : Plane) (tr : Trib) (v : BitVec 32) (rq : Req),
    let th := s.dev.tether p
    let b := s.dev.trib p tr
    (let i := s.dev.place ⟨.tribDesc, p, 0⟩ rq.ses.val
     s.dev.admits rq ⟨⟨.tribDesc, p, 0⟩, 4, v.toNat⟩ = true →
     ((s.dev.fmMessage rq.ses.val).tribDescOk p i v.toNat = false → ∃ t, exec (.tribDescWrite p v rq) s = .next t ∧
       t.dev.Answered rq 0x303 ∧ t.dev.get .tribDesc p i = s.dev.get .tribDesc p i ∧ t.dev.tribs = s.dev.tribs) ∧
     ((s.dev.fmMessage rq.ses.val).tribDescOk p i v.toNat = true → s.dev.journals rq.ses.val [(⟨.tribDesc, p, i⟩, v.toNat)] = true →
       ∃ t, exec (.tribDescWrite p v rq) s = .next t ∧ t.pending = s.pending ∧ t.dev.Answered rq 0 ∧ t.dev.get .tribDesc p i = v.toNat ∧
         (bit (s.dev.get .tribDesc p i) 31 ≠ bit v.toNat 31 → t.dev.trib p i = {} ∧ t.dev.get .tribTxNext p i = 0 ∧
           t.dev.get .tribRxExpected p i = 0 ∧ i ∉ (t.dev.tether p).ackQ) ∧
         (bit (s.dev.get .tribDesc p i) 31 = bit v.toNat 31 → t.dev.tribs = s.dev.tribs))) ∧
    (s.dev.live p = true → ∃ t, exec (.ackReportTimer p tr) s = .next t ∧ t.pending = s.pending ∧
      (s.dev.tribOn p tr = true → (t.dev.tether p).ackQ = if th.ackQ.contains tr.val then th.ackQ else th.ackQ ++ [tr.val]) ∧
      (s.dev.tribOn p tr = false → Device.Frame s.dev t.dev (fun _ _ _ => False))) ∧
    (let e := s.dev.get .tribRxExpected p tr
     s.dev.live p = true → ∃ t, exec (.renakTimer p tr) s = .next t ∧ t.pending = s.pending ∧
       ((∀ g ∈ b.gaps, g.left = true) → Device.Frame s.dev t.dev (fun _ _ _ => False)) ∧
       (∀ g, b.gaps = [g] → g.left = false → g.naks < s.dev.get .lhRetxMax p 0 → th.nakQ.length < 8192 →
         (t.dev.tether p).nakQ = th.nakQ ++ [(tr.val, g.first, g.count)] ∧
         (t.dev.trib p tr).gaps = [{ g with naks := g.naks + 1, at_ := s.dev.clock }]) ∧
       (∀ g, b.gaps = [g] → g.left = false → g.naks < s.dev.get .lhRetxMax p 0 → 8192 ≤ th.nakQ.length → (t.dev.tether p).nakQ = th.nakQ ∧
         t.dev.get .lhNakOverflow p 0 = min (s.dev.get .lhNakOverflow p 0 + 1) (2 ^ 32 - 1) ∧
         (t.dev.trib p tr).gaps = [{ g with at_ := s.dev.clock, left := true }]) ∧
       (∀ g, b.gaps = [g] → g.left = false → s.dev.get .lhRetxMax p 0 ≤ g.naks → b.held = [] →
         t.dev.get .tribRxExpected p tr = (g.first + g.count) % 2 ^ 32 ∧ (t.dev.trib p tr).gaps = [] ∧
         t.dev.get .tribLostSlots p tr =
           min (s.dev.get .tribLostSlots p tr + tsnDist ((g.first + g.count) % 2 ^ 32) e) (2 ^ 32 - 1) ∧
         (t.dev.trib p tr).synced = false ∧ tr.val ∈ (t.dev.tether p).ackQ ∧ bit (t.dev.get .cause p 5) 3 = true)) ∧
    (s.dev.live p = true → ∃ t, exec (.retxTimeout p tr) s = .next t ∧ t.pending = s.pending ∧
      (∀ c rest, b.copies = c :: rest → b.retx.contains c.tsn = false → t.dev.trib p tr = { b with retx := b.retx ++ [c.tsn] }) ∧
      ((∀ c rest, b.copies = c :: rest → b.retx.contains c.tsn = true) → Device.Frame s.dev t.dev (fun _ _ _ => False)))

/-- R258, R259, R262, R264, R265: an install unwraps the blob under the device key and is refused and counted where that fails; an erase
leaves neither master nor traffic keys, and is refused for the management master and for a tenant with an enabled tributary; a rekey that
R265 allows begins the derivation of the next epoch, whose end gives every keyed master its keys of that epoch. -/
def Obligations.KeyCommands : Prop :=
  ∀ (s : State) (p : Plane) (rq : Req),
    let sel := s.dev.place ⟨.masterCmd, p, 0⟩ rq.ses.val
    let m := s.dev.master p sel
    let k := s.dev.keySt p
    let e := s.dev.get .keyEpochTx p 0
    (let blob := s.dev.get .masterWrapped p sel
     s.dev.admits rq ⟨⟨.masterCmd, p, 0⟩, 1, 1⟩ = true → s.dev.journals rq.ses.val [(⟨.masterWrapped, p, sel⟩, blobValue blob)] = true →
     ∃ t, exec (.masterInstall p rq) s = .next t ∧ t.pending = s.pending ∧ t.dev.Answered rq 0 ∧
       (kwUnwrap (Config.deviceKey p).toNat blob = none → t.dev.get .masterCmd p sel = 3 ∧ t.dev.masters = s.dev.masters ∧
         t.dev.get .unwrapFail p 0 = min (s.dev.get .unwrapFail p 0 + 1) (2 ^ 32 - 1)) ∧
       (∀ key, kwUnwrap (Config.deviceKey p).toNat blob = some key →
         (m.pending.isSome = true → t.dev.get .masterCmd p sel = 3 ∧ t.dev.masters = s.dev.masters) ∧
         (m.pending = none → m.keyed = true → t.dev.get .masterCmd p sel = 2 ∧
           t.dev.master p sel = { m with pending := some key } ∧ t.dev.tkeys = s.dev.tkeys) ∧
         (m.pending = none → m.keyed = false → s.dev.get .rekeyState p 0 = 0 → k.deriving_ = none →
           t.dev.get .masterCmd p sel = 2 ∧ t.dev.master p sel = { m with inForce := some key, keyed := true } ∧
           ∀ h ∈ holdersOf sel, (t.dev.tkey p (2 * h + e % 2)).map (·.epoch) = some e))) ∧
    (let held := sel = mgmtSel ∨ (s.dev.fmMessage rq.ses.val).tribOf p sel = true
     s.dev.admits rq ⟨⟨.masterCmd, p, 0⟩, 1, 2⟩ = true → s.dev.journals rq.ses.val [(⟨.masterWrapped, p, sel⟩, 0)] = true →
     ∃ t, exec (.masterErase p rq) s = .next t ∧ t.pending = s.pending ∧ t.dev.Answered rq 0 ∧
       (held → t.dev.get .masterCmd p sel = 3 ∧ t.dev.masters = s.dev.masters ∧ t.dev.tkeys = s.dev.tkeys) ∧
       (¬ held → t.dev.get .masterCmd p sel = 2 ∧ (t.dev.master p sel).inForce = none ∧ (t.dev.master p sel).pending = none ∧
         t.dev.tkey p (2 * sel) = none ∧ t.dev.tkey p (2 * sel + 1) = none)) ∧
    (let ok := (s.dev.fmMessage rq.ses.val).rekeyOk p (s.dev.get .rekeyMfn p 0 % 2 ^ 48)
     s.dev.admitsNow rq ⟨⟨.rekeyCmd, p, 0⟩, 1, 1⟩ = true → ∃ t, exec (.rekeyCmd p rq) s = .next t ∧ t.pending = s.pending ∧
       t.dev.Answered rq 0 ∧
       (ok = false → t.dev.get .rekeyCmd p 0 = 3 ∧ t.dev.keySt p = k ∧ t.dev.get .rekeyState p 0 = s.dev.get .rekeyState p 0) ∧
       (ok = true → 0xFFFF ≤ e → t.dev.get .rekeyCmd p 0 = 3 ∧ t.dev.keySt p = k ∧ bit (t.dev.get .cause p 6) 1 = true) ∧
       (ok = true → e < s.dev.get .keyEpochHi p 0 → e < 0xFFFF → t.dev.get .rekeyCmd p 0 = 3 ∧ t.dev.keySt p = k ∧
         t.dev.get .keyEpochHi p 0 = s.dev.get .keyEpochHi p 0) ∧
       (ok = true → s.dev.get .keyEpochHi p 0 ≤ e → e < 0xFFFF → s.dev.journals rq.ses.val [(⟨.keyEpochHi, p, 0⟩, e + 1)] = true →
         t.dev.get .rekeyCmd p 0 = 1 ∧ t.dev.get .rekeyState p 0 = 1 ∧ t.dev.get .keyEpochHi p 0 = e + 1 ∧
         (t.dev.keySt p).deriving_ = some (e + 1) ∧ (t.dev.keySt p).leading = true ∧
         (t.dev.keySt p).target = s.dev.get .rekeyMfn p 0 % 2 ^ 48 ∧ t.dev.get .keyEpochTx p 0 = e)) ∧
    (s.dev.live p = true → ∃ t, exec (.derivationComplete p) s = .next t ∧ t.pending = s.pending ∧
      (k.deriving_ = none → Device.Frame s.dev t.dev (fun _ _ _ => False)) ∧
      (∀ f, k.deriving_ = some f → (t.dev.keySt p).deriving_ = none ∧ t.dev.get .keyEpochTx p 0 = e ∧
        (∀ x ∈ s.dev.keyedSels p, (s.dev.master p x).inForce.isSome = true →
          ∀ h ∈ holdersOf x, (t.dev.tkey p (2 * h + f % 2)).map (·.epoch) = some f) ∧
        (k.resync = true → (t.dev.keySt p).next = some f) ∧
        (k.resync = false → t.dev.get .rekeyState p 0 = 2 ∧
          (t.dev.keySt p).announce = if k.leading then k.target else s.dev.get .lhMfnTx p 0 + 16)))

/-- R257: a write to `key_limit_log2` leaves every key as it is, and a key derived afterwards, at the end of a derivation, at the install of
a first master or at an initialisation, has the limit then in the object, while the keys of the other epoch keep theirs. -/
def Obligations.KeyLimitsAppliedLater : Prop :=
  ∀ (s : State) (p : Plane) (rq : Req) (v : Byte) (st : InitReport),
    let limit := s.dev.get .keyLimitLog2 p 0
    (s.dev.admits rq ⟨⟨.keyLimitLog2, p, 0⟩, 1, v.toNat⟩ = true → s.dev.journals rq.ses.val [(⟨.keyLimitLog2, p, 0⟩, v.toNat)] = true →
      ∃ t, exec (.write rq (BitVec.ofNat 16 (0x4800 + 0x1000 * p)) 3 [v]) s = .next t ∧ t.pending = s.pending ∧ t.dev.Answered rq 0 ∧
        t.dev.get .keyLimitLog2 p 0 = v.toNat ∧ t.dev.tkeys = s.dev.tkeys) ∧
    (s.dev.live p = true → ∀ f, (s.dev.keySt p).deriving_ = some f → ∃ t, exec (.derivationComplete p) s = .next t ∧
      ∀ x ∈ s.dev.keyedSels p, (s.dev.master p x).inForce.isSome = true → ∀ h ∈ holdersOf x,
        (t.dev.tkey p (2 * h + f % 2)).map (·.limit) = some (2 ^ limit) ∧
        t.dev.tkey p (2 * h + (f + 1) % 2) = s.dev.tkey p (2 * h + (f + 1) % 2)) ∧
    (let sel := s.dev.place ⟨.masterCmd, p, 0⟩ rq.ses.val
     let blob := s.dev.get .masterWrapped p sel
     let e := s.dev.get .keyEpochTx p 0
     s.dev.admits rq ⟨⟨.masterCmd, p, 0⟩, 1, 1⟩ = true → s.dev.journals rq.ses.val [(⟨.masterWrapped, p, sel⟩, blobValue blob)] = true →
     (kwUnwrap (Config.deviceKey p).toNat blob).isSome = true → (s.dev.master p sel).pending = none → (s.dev.master p sel).keyed = false →
     s.dev.get .rekeyState p 0 = 0 → (s.dev.keySt p).deriving_ = none → ∃ t, exec (.masterInstall p rq) s = .next t ∧
       ∀ h ∈ holdersOf sel, (t.dev.tkey p (2 * h + e % 2)).map (·.limit) = some (2 ^ limit) ∧
         t.dev.tkey p (2 * h + (e + 1) % 2) = s.dev.tkey p (2 * h + (e + 1) % 2)) ∧
    (s.dev.hubUp = true → (s.dev.plane p).clockLost = false → (s.dev.plane p).cond = .inReset → ∃ t, exec (.planeInit p st) s = .next t ∧
      ((t.dev.plane p).cond = .running → ∀ i k, t.dev.tkey p i = some k → k.limit = 2 ^ t.dev.get .keyLimitLog2 p 0))

/-! ### Optical control (spec/13) -/

/-- R214, R292 to R297: an input in use that becomes absent, or whose module never becomes ready, leaves use with its cause and its pairs
due, and with its mate out of use takes down the group's ports; levels latch their alarms; four good wavelengths bring an enabled input
into use; the laser commands and the CMIS poll enable and disable modules. -/
def Obligations.LaserInputs : Prop :=
  ∀ (s : State) (p : Plane) (c : Chip) (e : Fin 4) (w : Fin 4) (x : Int) (powers : List Int) (tones : BitVec 4) (rq : Req),
    let st := s.dev.laserState p c e
    let used := s.dev.laserUsed p c e = true
    let mate := s.dev.laserUsed p c (laserMate e) = true
    let gone (t : State) : Prop := t.pending = s.pending ∧ t.dev.laserState p c e = 4 ∧
      t.dev.get .laserLossEvents p c = min (s.dev.get .laserLossEvents p c + 1) (2 ^ 32 - 1) ∧
      bit (t.dev.get .cause p 8) 2 = true ∧ s.dev.Sends t.dev (.cmis p (4 * c.val + e.val) false) ∧
      (∀ j ∈ laserPairs e, ∃ y ∈ (t.dev.cal p c).due, y.1 = j) ∧ (t.dev.cal p c).matrixOk = false ∧
      (¬ mate → bit (t.dev.get .cause p 8) 3 = true ∧ ∀ n ∈ laserPorts c e, bit (t.dev.port p n).holdDown 0 = true)
    (s.dev.live p = true → ∃ t, exec (.laserAbsent p c e) s = .next t ∧ (used → gone t) ∧
      (¬ used → Device.Frame s.dev t.dev (fun _ _ _ => False))) ∧
    (s.dev.live p = true → ∃ t, exec (.moduleReadyTimeout p c e) s = .next t ∧ (st = 1 → gone t ∧
        (s.dev.get .laserCmd p (c * 256 + e) = 1 → t.dev.get .laserCmd p (c * 256 + e) = 3)) ∧
      (st ≠ 1 → Device.Frame s.dev t.dev (fun _ _ _ => False))) ∧
    (s.dev.live p = true → -32768 ≤ x → x < 32768 → ∃ t, exec (.laserLevelAlarm p c e w x) s = .next t ∧ t.pending = s.pending ∧
      (¬ used → Device.Frame s.dev t.dev (fun _ _ _ => False)) ∧
      (used → t.dev.laserPower p c e w = x ∧ (2050 < x → bit (t.dev.get .cause p 8) 0 = true) ∧
        (1200 ≤ x → x < 1600 → t.dev.laserState p c e = 3 ∧ bit (t.dev.get .cause p 8) 1 = true))) ∧
    (let ok := st = 1 ∧ powers.length = 4 ∧ ∀ y ∈ powers, 1600 ≤ y ∧ y ≤ 2000
     s.dev.live p = true → ∃ t, exec (.laserPresent p c e powers tones) s = .next t ∧ t.pending = s.pending ∧
       (¬ ok → Device.Frame s.dev t.dev (fun _ _ _ => False)) ∧
       (ok → t.dev.laserState p c e = 2 ∧ t.dev.get .laserTones p (c * 256 + e) = tones.toNat ∧
         (∀ k : Fin 4, t.dev.laserPower p c e k = powers.getD k 0) ∧ (t.dev.cal p c).matrixOk = false ∧
         (s.dev.get .laserCmd p (c * 256 + e) = 1 → t.dev.get .laserCmd p (c * 256 + e) = 2) ∧
         ∀ n ∈ laserPorts c e, bit (t.dev.port p n).holdDown 0 = false)) ∧
    (let g : Target := ⟨.laserCmd, p, c⟩
     let i := s.dev.sel .laserSel p c rq.ses.val
     let k := s.dev.place g rq.ses.val
     (s.dev.admits rq ⟨g, 1, 1⟩ = true → ∃ t, exec (.laserEnable p c rq) s = .next t ∧ t.pending = s.pending ∧ t.dev.Answered rq 0 ∧
       (s.dev.laserUsed p c i = true → t.dev.get .laserCmd p k = 2 ∧ t.dev.laserState p c i = s.dev.laserState p c i) ∧
       (s.dev.laserUsed p c i = false → t.dev.get .laserCmd p k = 1 ∧ t.dev.laserState p c i = 1 ∧
         s.dev.Sends t.dev (.cmis p (4 * c.val + i) true))) ∧
     (s.dev.admits rq ⟨g, 1, 2⟩ = true → ∃ t, exec (.laserDisable p c rq) s = .next t ∧ t.pending = s.pending ∧ t.dev.Answered rq 0 ∧
       (s.dev.laserUsed p c (laserMate i) = false → t.dev.get .laserCmd p k = 3 ∧ t.dev.laserState p c i = s.dev.laserState p c i) ∧
       (s.dev.laserUsed p c (laserMate i) = true → t.dev.get .laserCmd p k = 2 ∧ t.dev.laserState p c i = 5 ∧
         s.dev.Sends t.dev (.cmis p (4 * c.val + i) false)))) ∧
    (∀ (m : Fin 20) (z : Byte) (off : Bool), s.dev.live p = true → ∃ t, exec (.cmisPoll p m z off) s = .next t ∧ t.pending = s.pending ∧
      (s.dev.hub.vddIo = false → Device.Frame s.dev t.dev (fun _ _ _ => False)) ∧
      (s.dev.hub.vddIo = true → 16 ≤ m.val → (t.dev.link p (m.val - 16)).removed = decide (z = 0) ∧
        t.dev.get .lhModuleState p (m.val - 16) = z.toNat ∧ (t.dev.link p (m.val - 16)).outOff = off ∧
        (z ≠ 3 → (t.dev.link p (m.val - 16)).align = 0 ∧ t.dev.inBundle p (m.val - 16) = false)) ∧
      (s.dev.hub.vddIo = true → m.val < 16 → s.dev.laserUsed p (m.val / 4) (m.val % 4) = false →
        (z = 0 → t.dev.laserState p (m.val / 4) (m.val % 4) = 0) ∧
        (z ≠ 0 → s.dev.laserState p (m.val / 4) (m.val % 4) = 0 → t.dev.laserState p (m.val / 4) (m.val % 4) = 1 ∧
          s.dev.Sends t.dev (.cmis p m true))))

/-- R299, R300, R303 to R309: pairs become due once; a round starts when both its holds are served, freezing the locked rings; a completed
round is counted and its pair no longer due; forced rounds and matrix commands are taken; a matrix round stores the block of its pair, and
the last one makes the matrix valid; a mode written during a round waits for its end. -/
def Obligations.CalibrationRounds : Prop :=
  ∀ (s : State) (p : Plane) (c : Chip) (j : Pair) (n : Port) (fits : List RingFit) (v : Byte) (rq : Req),
    let k := s.dev.cal p c
    let nowDue := { k with due := if k.due.any (fun y => y.1 = j.val) then k.due else k.due ++ [(j.val, s.dev.clock)] }
    (s.dev.live p = true → ∃ t, exec (.calPeriodExpiry p c j) s = .next t ∧ t.pending = s.pending ∧ t.dev.cal p c = nowDue) ∧
    (s.dev.live p = true → ∃ t, exec (.setpointErrorDue p c j) s = .next t ∧ t.pending = s.pending ∧ t.dev.cal p c = nowDue) ∧
    (s.dev.live p = true → ∃ t, exec (.portIdleDetected p n) s = .next t ∧ t.pending = s.pending ∧
      (t.dev.cal p (n.val / 32)).idle.contains (n.val % 32) = true) ∧
    (let due := s.dev.nextRound p c
     let held (i : Nat) : Bool := s.dev.holdServed p (32 * c.val + 2 * i) && s.dev.holdServed p (32 * c.val + 2 * i + 1)
     s.dev.live p = true → ∃ t, exec (.calRoundStart p c) s = .next t ∧ t.pending = s.pending ∧
       (due = none ∨ (∀ i kind, due = some (i, kind) → held i = false) → Device.Frame s.dev t.dev (fun _ _ _ => False)) ∧
       (∀ i kind, due = some (i, kind) → held i = true → (t.dev.cal p c).round = some i ∧ (t.dev.cal p c).kind = kind ∧
         (t.dev.cal p c).due = k.due ∧
         (∀ r < 16, s.dev.get .ringState p (c * 256 + (16 * i + r)) = 1 → t.dev.get .ringState p (c * 256 + (16 * i + r)) = 2) ∧
         (kind = 1 → (t.dev.cal p c).forcedPair = none ∧
           t.dev.get .calForced p c = min (s.dev.get .calForced p c + 1) (2 ^ 32 - 1)))) ∧
    (s.dev.live p = true → ∃ t, exec (.calRoundComplete p c fits) s = .next t ∧ t.pending = s.pending ∧
      (k.round = none ∨ k.kind = 2 → Device.Frame s.dev t.dev (fun _ _ _ => False)) ∧
      (∀ i, k.round = some i → k.kind ≠ 2 → t.dev.get .calRounds p c = (s.dev.get .calRounds p c + 1) % 2 ^ 64 ∧
        (t.dev.cal p c).round = none ∧ (t.dev.cal p c).due = k.due.filter (fun y => y.1 ≠ i) ∧
        lookNat (t.dev.cal p c).lastDone i = s.dev.clock ∧ bit (t.dev.get .calWindowReq p c) i = false ∧
        (k.kind = 1 → s.dev.get .calForceCmd p c = 1 → t.dev.get .calForceCmd p c = 2))) ∧
    (s.dev.live p = true → ∃ t, exec (.calWindowRequest p c j) s = .next t ∧ t.pending = s.pending ∧
      bit (t.dev.get .calWindowReq p c) j = true ∧ bit (t.dev.get .cause p 8) 5 = true) ∧
    (s.dev.admits rq ⟨⟨.calForceCmd, p, c⟩, 1, 1⟩ = true → ∃ t, exec (.calForce p c rq) s = .next t ∧ t.pending = s.pending ∧
      t.dev.Answered rq 0 ∧ t.dev.get .calForceCmd p c = 1 ∧
      t.dev.cal p c = { k with forcedPair := some (s.dev.sel .calForceSel p c rq.ses.val) }) ∧
    (s.dev.admits rq ⟨⟨.matrixCmd, p, c⟩, 1, 1⟩ = true → ∃ t, exec (.matrixCmd p c rq) s = .next t ∧ t.pending = s.pending ∧
      t.dev.Answered rq 0 ∧ t.dev.get .matrixCmd p c = 1 ∧ t.dev.cal p c = { k with matrix := allPairs }) ∧
    (let mine := (k.round = some j.val ∧ k.kind = 2) ∨ (k.round = none ∧ k.matrix.contains j.val = true)
     s.dev.live p = true → ∃ t, exec (.matrixRoundComplete p c j) s = .next t ∧ t.pending = s.pending ∧
       (¬ mine → Device.Frame s.dev t.dev (fun _ _ _ => False)) ∧
       (mine → k.pendMode = none → (t.dev.cal p c).round = none ∧ (t.dev.cal p c).matrix = k.matrix.filter (· ≠ j.val) ∧
         (j.val, s.dev.measured) ∈ (t.dev.cal p c).blocks ∧
         t.dev.get .matrixRounds p c = min (s.dev.get .matrixRounds p c + 1) (2 ^ 32 - 1) ∧
         (k.matrix.filter (· ≠ j.val) = [] → (t.dev.cal p c).matrixOk = true ∧
           t.dev.get .xtalkModeActive p c = s.dev.get .xtalkMode p c % 2 ^ 8 ∧
           (s.dev.get .matrixCmd p c = 1 → t.dev.get .matrixCmd p c = 2)))) ∧
    (s.dev.admits rq ⟨⟨.xtalkMode, p, c⟩, 1, v.toNat⟩ = true → s.dev.journals rq.ses.val [(⟨.xtalkMode, p, c⟩, v.toNat)] = true →
      ∃ t, exec (.xtalkModeWrite p c v rq) s = .next t ∧ t.pending = s.pending ∧ t.dev.Answered rq 0 ∧ t.dev.get .xtalkMode p c = v.toNat ∧
        (k.round.isSome = true → t.dev.get .xtalkModeActive p c = s.dev.get .xtalkModeActive p c ∧ (t.dev.cal p c).pendMode = some v.toNat) ∧
        (k.round = none → v = 0 → k.matrixOk = false → t.dev.get .xtalkModeActive p c = 1 ∧ (t.dev.cal p c).matrix = allPairs) ∧
        (k.round = none → (v ≠ 0 ∨ k.matrixOk = true) → t.dev.get .xtalkModeActive p c = v.toNat))

/-- R301, R310 to R313: a ring that loses its lock, or whose heater step comes to full scale, releases its bank, which is swept again with
its port held; a heater step, and in tone mode a verdict, that finds rings on wrong lines counts each; a re-sweep that finds every line locks the bank, one that fails is repeated once, and
its second failure retires the wavelengths that failed. -/
def Obligations.RingLocks : Prop :=
  ∀ (s : State) (p : Plane) (c : Chip) (r : Ring) (b : Bank) (locked : Bool) (heaters : List Nat) (w : Fin 4), s.dev.live p = true →
    let k := s.dev.cal p c
    let swept (x : Nat) : Prop := k.sweeping.any (fun y => y.1 = x) = true
    (∃ t, exec (.ringLockLost p c r) s = .next t ∧ t.pending = s.pending ∧
      (s.dev.get .ringState p (c * 256 + r) = 4 ∨ swept (r.val / 4) → Device.Frame s.dev t.dev (fun _ _ _ => False)) ∧
      (s.dev.get .ringState p (c * 256 + r) ≠ 4 → ¬ swept (r.val / 4) → t.dev.get .ringState p (c * 256 + r) = 3 ∧
        bit (t.dev.get .cause p 8) 4 = true ∧ (t.dev.cal p c).sweeping = (r.val / 4, 1) :: k.sweeping ∧
        bit (t.dev.port p (bankPort c (r.val / 4))).holdDown 3 = true)) ∧
    (let moves := (s.dev.bankRings p c (r.val / 4)).map (fun q => (q, heaters.getD (q % 4) (lookNat k.heater q)))
     let d := moves.foldl (fun d m => d.moveHeater p c m.1 m.2) s.dev
     let bad := d.orderedWrong p c (r.val / 4)
     ∃ t, exec (.heaterStepCheck p c r heaters) s = .next t ∧ t.pending = s.pending ∧
       (swept (r.val / 4) → Device.Frame s.dev t.dev (fun _ _ _ => False)) ∧
       (¬ swept (r.val / 4) → (∀ m ∈ moves, m.2 < 20000) →
         (bad = [] → t.dev.get .wrongLockEvents p c = s.dev.get .wrongLockEvents p c ∧ ∀ q ∈ s.dev.bankRings p c (r.val / 4), heaters.length = 4 →
           lookNat (t.dev.cal p c).heater q = heaters.getD (q % 4) 0 ∧
           t.dev.get .ringHeaterCode p (c * 256 + q) = heaterCode (heaters.getD (q % 4) 0)) ∧
         (bad ≠ [] → bit (t.dev.get .cause p 8) 6 = true ∧
           t.dev.get .wrongLockEvents p c = min (s.dev.get .wrongLockEvents p c + bad.length) (2 ^ 32 - 1))) ∧
       (¬ swept (r.val / 4) → (∃ m ∈ moves, 20000 ≤ m.2) → bit (t.dev.get .cause p 8) 4 = true ∧
         (t.dev.cal p c).sweeping = (r.val / 4, 1) :: k.sweeping)) ∧
    (∃ t, exec (.toneVerdict p c [(r, w)]) s = .next t ∧ t.pending = s.pending ∧
      (s.dev.toneChecked p c (r.val / 4) = false ∨ r.val % 4 = w.val ∨ s.dev.get .ringState p (c * 256 + r) = 4 ∨ swept (r.val / 4) →
        Device.Frame s.dev t.dev (fun _ _ _ => False)) ∧
      (s.dev.toneChecked p c (r.val / 4) = true → r.val % 4 ≠ w.val → s.dev.get .ringState p (c * 256 + r) ≠ 4 → ¬ swept (r.val / 4) →
        t.dev.get .wrongLockEvents p c = min (s.dev.get .wrongLockEvents p c + 1) (2 ^ 32 - 1) ∧ bit (t.dev.get .cause p 8) 6 = true ∧
        t.dev.ringWrongLocks p c r = min (s.dev.ringWrongLocks p c r + 1) 255)) ∧
    (let rs := s.dev.bankRings p c b
     let d := rs.foldl (fun d q => d.setHeater p c q (heaters.getD (q % 4) 0)) s.dev
     let n := bankPort c b
     ∃ t, exec (.resweepComplete p c b locked heaters) s = .next t ∧ t.pending = s.pending ∧
       (¬ swept b → Device.Frame s.dev t.dev (fun _ _ _ => False)) ∧
       (swept b → rs ≠ [] → (∀ q ∈ rs, heaters.getD (q % 4) 20000 < 20000) → d.orderedWrong p c b = [] → locked = true →
         (∀ q ∈ rs, t.dev.get .ringState p (c * 256 + q) = 1) ∧ (t.dev.cal p c).sweeping = k.sweeping.filter (fun y => y.1 ≠ b.val) ∧
         bit (t.dev.port p n).holdDown 3 = false) ∧
       (∀ m, k.sweeping.find? (fun y => y.1 = b.val) = some m → rs ≠ [] → (∀ q ∈ rs, 20000 ≤ heaters.getD (q % 4) 20000) →
         (m.2 = 1 → (t.dev.cal p c).sweeping = (b.val, 2) :: k.sweeping.filter (fun y => y.1 ≠ b.val) ∧
           ∀ q ∈ rs, lookNat (t.dev.cal p c).heater q = 0) ∧
         (m.2 ≠ 1 → ∀ q ∈ rs, t.dev.retired p (chan 1 (4 * (32 * c.val + q / 8) + q % 4)) = true)))

/-! ### Time (spec/15) -/

/-- R338, R340, R341, R343 to R345, R349: a Sync on the slave port of one time base gives it a sample, which steps it or runs its servo
and moves its state; messages that are not accepted are counted; an Announce is kept; a Pdelay_Resp that matches gives a result, a
Pdelay_Req an answer; master ports send on their timers. What a fabric port sends waits for it in class 6; what a long-haul port sends
joins the time tributary, or, with no position of it on the link, is withheld and counted (R339). -/
def Obligations.TimeMessages : Prop :=
  ∀ (s : State) (p : Plane) (o : LinePort) (m : PtpMsg) (n : Tb), s.dev.live p = true →
    let dom := m.domain.toNat
    let l := s.dev.slavesOf p o dom
    let up (x : Obj) (i : Nat) (t : State) : Prop := t.dev.get x p i = min (s.dev.get x p i + 1) (2 ^ 32 - 1)
    let odd := (s.dev.ptpCounts p dom).2
    let waits (t : State) (f : Sys2Proof.Frame) : Prop := ∃ fr c, t.dev.frame? p s.dev.nextId = some fr ∧ fr.frame = f ∧ fr.cls = 6 ∧
      t.dev.copy? p (s.dev.nextId + 1) = some c ∧ c.fid = s.dev.nextId ∧ c.wait = [o.val] ∧ c.place = []
    let msg (oneStep : Bool) : Mk :=
      { opcode := opPtp, cls := 6, flags := if oneStep then 16 else 0, hops := 1, srcDevice := s.dev.devId p, srcPort := o }
    let far (oneStep : Bool) : Mk :=
      { msg oneStep with destDevice := s.dev.get .lhPartnerDevice p 0, destPlane := p, destPort := o }
    let leaves (t : State) (dom : Nat) (oneStep : Bool) (b : Bytes) : Prop := (o.val < 128 → waits t ((s.dev.peerMk p o (msg oneStep)).frame b)) ∧
      (128 ≤ o.val → s.dev.timePosition p (o - 128) = false →
        up .ptpLhUntimed (s.dev.ptpCounts p dom).2 t ∧ t.dev.tribs = s.dev.tribs) ∧
      (128 ≤ o.val → s.dev.timePosition p (o - 128) = true → ∀ k, s.dev.tribFor p 0 6 = some k →
        let w := frameWire ((far oneStep).frame b)
        (s.dev.trib p k).slotsFor w.length + 1 ≤ 64 * (s.dev.trib p k).txBufs.length →
          (t.dev.trib p k).txq = (s.dev.trib p k).txq ++ [{ bytes := w, only := some (o - 128) }])
    let st := s.dev.get .tbState p n
    let x := s.dev.tb p n
    let sends := st ≠ 4 ∧ s.dev.get .ptpPortRole p (n * 256 + o) = 1 ∧ s.dev.lineUp p o = true
    (let theta := s.dev.rxTime p o m - ((m.origin : Int) * 65536 + m.correction) - s.dev.meanDelay p o
     let inside := theta.natAbs ≤ s.dev.get .lockThresholdNs p n * 65536
     let beyond := s.dev.get .stepThresholdNs p n * 65536 < theta.natAbs
     let r := servo theta x.integ (s.dev.get .servoKp p n) (s.dev.get .servoKi p n) (toSigned 32 (s.dev.get .syncIntervalLog2 p n))
     ∃ t, exec (.sync p o m) s = .next t ∧ t.pending = s.pending ∧
       (ptpPlain m = false ∨ l = [] → up .ptpRxDiscard odd t) ∧
       (ptpPlain m = true → l = [n.val] →
         (m.twoStep = true → up .ptpTwostepReject n t) ∧
         (m.twoStep = false → m.untimed = true → up .ptpLhUntimed n t) ∧
         (m.twoStep = false → m.untimed = false → s.dev.delayValid p o = false → up .ptpRxDiscard n t) ∧
         (m.twoStep = false → m.untimed = false → s.dev.delayValid p o = true →
           (s.dev.get .tbSource p n = 1 → (t.dev.tb p n).own = (theta :: x.own).take 8 ∧ t.dev.get .tbState p n = st ∧
             (t.dev.tb p n).integ = x.integ) ∧
           (s.dev.get .tbSource p n ≠ 1 → st < 4 → t.dev.get .tbOffsetNs p n = ofSigned 32 (wholeNs theta) ∧
             (¬ beyond → (t.dev.tb p n).integ = r.1 ∧ (t.dev.tb p n).adj = r.2 ∧ (t.dev.tb p n).adjs = (r.2 :: x.adjs).take 16 ∧
               t.dev.tbFine p n = s.dev.tbFine p n) ∧
             (beyond → (t.dev.tb p n).integ = 0 ∧ up .tbSteps n t ∧ bit (t.dev.get .cause p (0x20 + n)) 3 = true ∧
               (t.dev.tbFine p n : Int) = (s.dev.tbFine p n - theta * 65536) % (2 ^ 48 * 1000000000 * 2 ^ 32)) ∧
             (st = 0 ∨ st = 3 → t.dev.get .tbState p n = 1) ∧
             (st = 1 → ¬ inside → t.dev.get .tbState p n = 1 ∧ (t.dev.tb p n).good = 0) ∧
             (st = 1 → inside → x.good < 7 → t.dev.get .tbState p n = 1 ∧ (t.dev.tb p n).good = x.good + 1) ∧
             (st = 1 → inside → 7 ≤ x.good → t.dev.get .tbState p n = 2) ∧
             (st = 2 → inside → t.dev.get .tbState p n = 2 ∧ (t.dev.tb p n).bad = 0) ∧
             (st = 2 → ¬ inside → x.bad < 3 → t.dev.get .tbState p n = 2 ∧ (t.dev.tb p n).bad = x.bad + 1) ∧
             (st = 2 → ¬ inside → 3 ≤ x.bad → t.dev.get .tbState p n = 1 ∧ bit (t.dev.get .cause p (0x20 + n)) 0 = true))))) ∧
    (∃ t, exec (.announce p o m) s = .next t ∧ t.pending = s.pending ∧
      (ptpPlain m = false ∨ l = [] → up .ptpRxDiscard odd t) ∧
      (ptpPlain m = true → ∀ k ∈ l, (t.dev.tb p k).announced = some m.grandmaster.toNat ∧ t.dev.get .tbState p k = s.dev.get .tbState p k)) ∧
    (let corr := ((-(s.dev.rxTime p o m)) % 2 ^ 64).toNat
     ∃ t, exec (.pdelayReq p o m) s = .next t ∧ t.pending = s.pending ∧
       (s.dev.takesDelay p o m = false → up .ptpRxDiscard odd t) ∧
       (s.dev.takesDelay p o m = true → m.untimed = true → up .ptpLhUntimed odd t) ∧
       (s.dev.takesDelay p o m = true → m.untimed = false → leaves t 0 true (ptpMessage 3 2 0 corr (cmldsId p o)
         m.seqId.toNat 0 (natToBytes 10 0 ++ natToBytes 10 m.source.toNat)))) ∧
    (let q := s.dev.pd p o
     ∃ t, exec (.pdelayResp p o m) s = .next t ∧ t.pending = s.pending ∧
       (s.dev.takesDelay p o m = false → up .ptpRxDiscard odd t) ∧
       (s.dev.takesDelay p o m = true → m.twoStep = true → up .ptpTwostepReject odd t) ∧
       (s.dev.takesDelay p o m = true → m.twoStep = false → m.untimed = true → up .ptpLhUntimed odd t) ∧
       (s.dev.takesDelay p o m = true → m.twoStep = false → m.untimed = false →
         (∀ y, (q.req = none ∨ (q.req = some y ∧ y.1 ≠ m.seqId.toNat)) → up .ptpRxDiscard odd t) ∧
         (∀ t1, q.req = some (m.seqId.toNat, t1) →
           let results := ((s.dev.rxTime p o m - t1 - m.correction) / 2 :: q.results).take 8
           (t.dev.pd p o).req = none ∧ (t.dev.pd p o).results = results ∧ t.dev.delayValid p o = true ∧
           (o.val < 128 → t.dev.get .linkDelayNs p o = min (meanOf results / 65536).toNat (2 ^ 32 - 1)) ∧
           (128 ≤ o.val → t.dev.get .lhLinkDelayNs p (o - 128) = min (meanOf results / 65536).toNat (2 ^ 32 - 1))))) ∧
    (∃ t, exec (.syncTxTimer p n o) s = .next t ∧ t.pending = s.pending ∧ (¬ sends → Device.Frame s.dev t.dev (fun _ _ _ => False)) ∧
      (sends → (t.dev.tb p n).syncSeq = (x.syncSeq + 1) % 65536 ∧ leaves t (s.dev.get .tbDomain p n) true (ptpMessage 0 0
        (s.dev.get .tbDomain p n) 0 (s.dev.portId p n o) x.syncSeq (s.dev.get .syncIntervalLog2 p n % 256) (natToBytes 10 0)))) ∧
    (∃ t, exec (.announceTxTimer p n o) s = .next t ∧ t.pending = s.pending ∧ (¬ sends → Device.Frame s.dev t.dev (fun _ _ _ => False)) ∧
      (sends → (t.dev.tb p n).annSeq = (x.annSeq + 1) % 65536 ∧ ∃ y gm, leaves t (s.dev.get .tbDomain p n) false (ptpMessage 0xB 0
        (s.dev.get .tbDomain p n) 0 (s.dev.portId p n o) x.annSeq 0
        (natToBytes 10 0 ++ natToBytes 2 y ++ natToBytes 1 0 ++ natToBytes 14 gm ++ natToBytes 3 (y / 65536))) ∧
        (∀ g, x.announced = some g → st ≠ 0 → gm = g) ∧ (st = 0 ∨ x.announced = none → gm % 2 ^ 64 = s.dev.clockId p n))) ∧
    (∃ t, exec (.pdelayReqTimer p o) s = .next t ∧ t.pending = s.pending ∧
      (s.dev.lineUp p o = false → Device.Frame s.dev t.dev (fun _ _ _ => False)) ∧
      (s.dev.lineUp p o = true → (t.dev.pd p o).nextSeq = ((s.dev.pd p o).nextSeq + 1) % 65536 ∧ leaves t 0 false
        (ptpMessage 2 2 0 0 (cmldsId p o) (s.dev.pd p o).nextSeq 0 (natToBytes 20 0))))

/-- R341, R345 to R349, R351: a link delay expires; a time base that gets no Sync goes to its LOCKED standby or into HOLDOVER at the mean
of its last adjustments; the standby is read; enabling, setting, switching and returning a time base; a snapshot's plane part is taken. -/
def Obligations.TimeBaseStates : Prop :=
  ∀ (s : State) (p : Plane) (o : LinePort) (n : Tb) (v : Byte) (w : BitVec 80) (rq : Req),
    let up (x : Obj) (t : State) : Prop := t.dev.get x p n = min (s.dev.get x p n + 1) (2 ^ 32 - 1)
    let st := s.dev.get .tbState p n
    let x := s.dev.tb p n
    let b := s.dev.get .tbRedundant p n
    let follows := s.dev.get .tbSource p n = 1
    let ready := b < 8 ∧ s.dev.get .tbState p b = 2
    let mean (l : List Int) : Int := if l = [] then 0 else l.foldl (· + ·) 0 / (l.length : Int)
    (s.dev.live p = true →
      (∃ t, exec (.linkDelayExpiry p o) s = .next t ∧ t.pending = s.pending ∧ t.dev.delayValid p o = false ∧
        ∀ k < 8, s.dev.get .tbEnable p k = 1 → s.dev.get .ptpPortRole p (k * 256 + o) = 2 → bit (t.dev.get .cause p (0x20 + k)) 4 = true) ∧
      (∃ t, exec (.holdoverTimeout p n) s = .next t ∧ t.pending = s.pending ∧
        ((st ≠ 1 ∧ st ≠ 2) ∨ follows → Device.Frame s.dev t.dev (fun _ _ _ => False)) ∧
        (st = 1 ∨ st = 2 → ¬ follows → (t.dev.tb p n).adj = mean x.adjs ∧ t.dev.tbFine p n = s.dev.tbFine p n ∧
          (ready → t.dev.get .tbState p n = 2 ∧ t.dev.get .tbSource p n = 1 ∧ (t.dev.tb p n).frozen = mean x.diffs ∧
            up .tbSwitchovers t ∧ bit (t.dev.get .cause p (0x20 + n)) 2 = true) ∧
          (¬ ready → t.dev.get .tbState p n = 3 ∧ up .tbHoldovers t ∧ bit (t.dev.get .cause p (0x20 + n)) 1 = true ∧
            ∀ a < 8, a ≠ n.val → st = 2 → s.dev.get .tbRedundant p a = n → s.dev.get .tbSource p a = 1 →
              s.dev.get .tbState p a = 1 ∨ s.dev.get .tbState p a = 2 → t.dev.get .tbState p a = 3))) ∧
      (∃ t, exec (.standbyDiffRead p n) s = .next t ∧ t.pending = s.pending ∧
        (8 ≤ b ∨ follows → Device.Frame s.dev t.dev (fun _ _ _ => False)) ∧
        (b < 8 → ¬ follows →
          let l := (((s.dev.tbFine p b : Int) - s.dev.tbFine p n) / 65536 :: x.diffs).take 16
          (t.dev.tb p n).diffs = l ∧ t.dev.get .tbStandbyDiffNs p n = ofSigned 64 (Int.tdiv (mean l) 65536))) ∧
      (∃ t, exec (.snapshotLatch p) s = .next t ∧ t.pending = s.pending ∧
        (s.dev.snap.armed = false ∨ s.dev.snap.wait.contains p.val = false → Device.Frame s.dev t.dev (fun _ _ _ => False)) ∧
        (s.dev.snap.armed = true → p.val ∈ s.dev.snap.wait → p.val ∉ t.dev.snap.wait ∧
          (s.dev.snap.wait = [p.val] → t.dev.snap.armed = false)))) ∧
    (s.dev.admits rq ⟨⟨.tbEnable, p, n⟩, 1, v.toNat⟩ = true → s.dev.journals rq.ses.val [(⟨.tbEnable, p, n⟩, v.toNat)] = true →
      ∃ t, exec (.tbEnableWrite p n v rq) s = .next t ∧ t.pending = s.pending ∧ t.dev.Answered rq 0 ∧
        t.dev.get .tbEnable p n = v.toNat ∧ t.dev.tbFine p n = s.dev.tbFine p n ∧
        (v = 1 → t.dev.get .tbState p n = if st = 4 then 0 else st) ∧
        (v = 0 → t.dev.get .tbState p n = 4 ∧ (st ≠ 4 → (t.dev.tb p n).adj = 0))) ∧
    (s.dev.admits rq ⟨⟨.tbTime, p, n⟩, 10, w.toNat⟩ = true → ∃ t, exec (.tbTimeWrite p n w rq) s = .next t ∧ t.pending = s.pending ∧
      t.dev.Answered rq 0 ∧ t.dev.tbFine p n = unpackTime w.toNat * 2 ^ 32 ∧ up .tbSteps t ∧
      bit (t.dev.get .cause p (0x20 + n)) 3 = true ∧ (st = 2 → t.dev.get .tbState p n = 1 ∧ (t.dev.tb p n).integ = 0) ∧
      (st ≠ 2 → t.dev.get .tbState p n = st ∧ (t.dev.tb p n).integ = x.integ)) ∧
    (s.dev.admits rq ⟨⟨.tbSwitchCmd, p, n⟩, 1, 1⟩ = true → ∃ t, exec (.tbSwitchToStandby p n rq) s = .next t ∧ t.pending = s.pending ∧
      t.dev.Answered rq 0 ∧
      (ready ∧ s.dev.get .tbSource p n = 0 → t.dev.get .tbSwitchCmd p n = 2 ∧ t.dev.get .tbSource p n = 1 ∧
        (t.dev.tb p n).frozen = mean x.diffs ∧ up .tbSwitchovers t ∧ bit (t.dev.get .cause p (0x20 + n)) 2 = true) ∧
      (¬ (ready ∧ s.dev.get .tbSource p n = 0) → t.dev.get .tbSwitchCmd p n = 3 ∧
        t.dev.get .tbSource p n = s.dev.get .tbSource p n ∧ t.dev.tb p n = x)) ∧
    (let ok := follows ∧ x.own.length = 8 ∧ ∀ y ∈ x.own, y.natAbs ≤ s.dev.get .lockThresholdNs p n * 65536
     s.dev.admits rq ⟨⟨.tbSwitchCmd, p, n⟩, 1, 2⟩ = true → ∃ t, exec (.tbReturn p n rq) s = .next t ∧ t.pending = s.pending ∧
       t.dev.Answered rq 0 ∧
       (ok → t.dev.get .tbSwitchCmd p n = 2 ∧ t.dev.get .tbSource p n = 0) ∧
       (¬ ok → t.dev.get .tbSwitchCmd p n = 3 ∧ t.dev.get .tbSource p n = s.dev.get .tbSource p n))

/-! ### Tenants (spec/16) -/

/-- R358, R360 to R362: the system tenant's commands are refused; create, suspend, resume and remove each take effect in the state that
admits them and read 0x03 in every other; a suspend fails the tenant's running slots and reads 0x02 once none runs; a remove returns the
tenant's buffers, parameters and synchronisation objects to their defaults and frees the context. -/
def Obligations.TenantContexts : Prop :=
  ∀ (s : State) (p : Plane) (n : Tenant) (rq : Req),
    let st := s.dev.get .tnState p n
    let cmd (t : State) (v x : Nat) : Prop := t.dev.get .tnCmd p n = v ∧ t.dev.get .tnState p n = x
    let may (v : Nat) := s.dev.admits rq ⟨⟨.tnCmd, p, n⟩, 1, v⟩ = true
    let stored (l : List (Key × Nat)) := s.dev.journals rq.ses.val ((⟨.tnState, p, n⟩, 0) :: l) = true
    let kept (x : Nat) := s.dev.journals rq.ses.val [(⟨.tnState, p, n⟩, x)] = true
    let full := 1024 ≤ s.dev.contexts p
    (n.val = 0 → (∀ x ∈ [(1, Instr.tenantCreate p n rq), (2, .tenantSuspend p n rq), (3, .tenantResume p n rq), (4, .tenantRemove p n rq)],
      may x.1 → ∃ t, exec x.2 s = .next t ∧ t.pending = s.pending ∧ t.dev.Answered rq 0x0303 ∧ t.dev.get .tnState p n = st)) ∧
    (n.val ≠ 0 → may 1 → ∃ t, exec (.tenantCreate p n rq) s = .next t ∧ t.pending = s.pending ∧
      (st ≠ 0 ∨ full → t.dev.Answered rq 0 ∧ cmd t 3 st) ∧ (st = 0 → ¬ full → kept 1 → t.dev.Answered rq 0 ∧ cmd t 2 1)) ∧
    (n.val ≠ 0 → may 2 → ∃ t, exec (.tenantSuspend p n rq) s = .next t ∧ t.pending = s.pending ∧
      (st ≠ 1 → t.dev.Answered rq 0 ∧ cmd t 3 st) ∧
      (st = 1 → kept 2 → t.dev.Answered rq 0 ∧ cmd t 1 2 ∧ ∀ sl ∈ s.dev.tnRunning p n, t.dev.get .slotState p sl = 4)) ∧
    (let done := st = 2 ∧ s.dev.get .tnCmd p n = 1 ∧ s.dev.tnRunning p n = []
     s.dev.live p = true → ∃ t, exec (.tenantSuspendDone p n) s = .next t ∧ t.pending = s.pending ∧ (done → cmd t 2 2) ∧
       (¬ done → Device.Frame s.dev t.dev (fun _ _ _ => False))) ∧
    (n.val ≠ 0 → may 3 → ∃ t, exec (.tenantResume p n rq) s = .next t ∧ t.pending = s.pending ∧
      (st ≠ 2 → t.dev.Answered rq 0 ∧ cmd t 3 st) ∧ (st = 2 → kept 1 → t.dev.Answered rq 0 ∧ cmd t 2 1)) ∧
    (let last := ∀ q < 4, q ≠ p.val → s.dev.hasTenant q n = false
     let agent := if (List.range 4).all (fun q => q = p.val || !s.dev.hasTenant q n) then [((⟨.tnAgentFp, 4, n⟩ : Key), 0)] else []
     let mine := (s.dev.regs.filter (fun e => e.1.ofTenant p n)).map (fun e => (e.1, e.1.obj.dflt e.1.idx))
     let once := ∀ k < 5, ∀ o ∈ (s.dev.pool p k).owners, o.2 = n.val → o.1 < s.dev.poolBuffers p k ∧
       ∀ b ∈ (s.dev.pool p k).owners, b.1 = o.1 → b.2 = n.val
     n.val ≠ 0 → may 4 → ∃ t, exec (.tenantRemove p n rq) s = .next t ∧ t.pending = s.pending ∧
       (st ≠ 2 ∨ s.dev.tnInUse p n = true → t.dev.Answered rq 0 ∧ cmd t 3 st) ∧
       (st = 2 → s.dev.tnInUse p n = false → stored (mine ++ agent) → t.dev.Answered rq 0 ∧ cmd t 2 0 ∧
         (∀ k : Key, k.ofTenant p n = true → t.dev.get k.obj k.plane k.idx = k.obj.dflt k.idx) ∧
         (∀ o, inRange (s.dev.get .tnSyncRange p n) 16 14 15 o = true → t.dev.syncVal p o = 0 ∧ t.dev.get .syncSaturatedFlag p o = 0) ∧
         t.dev.get .tnCellDrop p n = 0 ∧ t.dev.get .tnSuspendDrop p n = 0 ∧ (last → t.dev.get .tnAgentFp 4 n = 0) ∧
         (once → ∀ k < 5, ∀ o ∈ (t.dev.pool p k).owners, o.2 ≠ n.val) ∧ ∀ w ∈ t.dev.flows, w.plane = p.val → w.id.tenant.toNat ≠ n))

/-! ### Management: sessions, requests, transfers, the host port (spec/17) -/

/-- R375, R376, R381, R383, R385: a handshake opens a session with fresh selectors or is counted as an authentication failure; sessions
end at the idle timeout and with their port's link; a transfer that times out is discarded and counted; links come up; a write to the
host window is counted and nothing else, and a slot shows the value its map names, least significant byte first (R5), or zeros. -/
def Obligations.SessionsAndLinks : Prop :=
  ∀ (s : State) (mp : Fin 2) (fp : BitVec 256) (ok : Bool) (ses : Session) (width rate : BitVec 4) (off : BitVec 16) (v : Bytes),
    let nothing (t : State) := Device.Frame s.dev t.dev (fun _ _ _ => False)
    let free := ((List.range 16).map (· + 1)).find? (fun n => !(s.dev.session n).isOpen)
    let ready := s.dev.hubUp = true ∧ s.dev.get .mgmtLinkState 4 mp = 1
    (∃ t, exec (.ndpHandshake mp fp ok) s = .next t ∧ t.pending = s.pending ∧ (¬ ready ∨ free = none → nothing t) ∧
      (∀ n, ready → free = some n →
        let e := s.dev.openSession n mp fp.toNat
        (ok = true → e.roles n ≠ 0 ∨ e.agentOf n ≠ [] → t.dev.session n = { isOpen := true, port := mp, fp := fp.toNat } ∧
          ∀ o p i, o.isSel = true → i % 32 = n → t.dev.get o p i = o.dflt i) ∧
        (ok = false ∨ (e.roles n = 0 ∧ e.agentOf n = []) → (t.dev.session n).isOpen = false ∧
          t.dev.get .ndpAuthFail 4 0 = min (s.dev.get .ndpAuthFail 4 0 + 1) (2 ^ 32 - 1) ∧ bit (t.dev.get .cause 4 2) 0 = true))) ∧
    (∃ t, exec (.sessionIdleTimeout ses) s = .next t ∧ t.pending = s.pending ∧
      (s.dev.hubUp = false ∨ ses.val = 0 ∨ (s.dev.session ses).isOpen = false → nothing t) ∧
      (s.dev.hubUp = true → ses.val ≠ 0 → (s.dev.session ses).isOpen = true → t.dev.session ses = {})) ∧
    (∃ t, exec (.mgmtLinkDown mp) s = .next t ∧ t.pending = s.pending ∧ (s.dev.hubUp = false → nothing t) ∧
      (s.dev.hubUp = true → t.dev.get .mgmtLinkState 4 mp = 0 ∧ bit (t.dev.get .cause 4 1) 2 = true ∧
        (∀ n, 1 ≤ n → n ≤ 16 → (s.dev.session n).port = mp → (t.dev.session n).isOpen = false) ∧
        (∀ n, (s.dev.session n).port ≠ mp → (t.dev.session n).bare = (s.dev.session n).bare))) ∧
    (∃ t, exec (.mgmtLinkUp mp) s = .next t ∧ t.pending = s.pending ∧
      (s.dev.hubUp = true → t.dev.get .mgmtLinkState 4 mp = 1) ∧
      Device.Frame s.dev t.dev (fun o p i => s.dev.hubUp = true ∧ o = .mgmtLinkState ∧ p = 4 ∧ i = mp)) ∧
    (∃ t, exec (.hostLinkTrained width rate) s = .next t ∧ t.pending = s.pending ∧
      Device.Frame { s.dev with hub.hostLink := some (width.toNat, rate.toNat) } t.dev (fun _ _ _ => False)) ∧
    (∃ t, exec (.domainTimeout ses) s = .next t ∧ t.pending = s.pending ∧ ((s.dev.session ses).xfer = none → nothing t) ∧
      (s.dev.hubUp = true → (s.dev.session ses).xfer ≠ none → (t.dev.session ses).xfer = none ∧ (t.dev.session ses).xferLost = true ∧
        t.dev.get .domainDiscarded 4 0 = min (s.dev.get .domainDiscarded 4 0 + 1) (2 ^ 32 - 1))) ∧
    (∃ t, exec (.hostWindowWrite off v) s = .next t ∧ t.pending = s.pending ∧
      (s.dev.hubUp = true → t.dev.get .hostWinWrite 4 0 = min (s.dev.get .hostWinWrite 4 0 + 1) (2 ^ 32 - 1)) ∧
      Device.Frame s.dev t.dev (fun o p i => s.dev.hubUp = true ∧ o = .hostWinWrite ∧ p = 4 ∧ i = 0)) ∧
    (∀ e < 4096, let m := s.dev.get .hwMap 4 e
      let shows (b : Bytes) : Prop := s.dev.windowRead (16 * e) 16 = b
      (m = 0 → shows (List.replicate 16 0)) ∧
      (∀ x, m ≠ 0 → target (fld m 16 16) (fld m 8 8) = some x →
        (x.plane < 4 → s.dev.answers x.plane = false → shows (List.replicate 16 0)) ∧
        ((x.plane < 4 → s.dev.answers x.plane = true) → x.obj.info.ty ≠ .time →
          let k := s.dev.place x 0
          let v := (s.dev.readBytes x.obj x.plane k).reverse
          v.length ≤ 15 → shows (v ++ List.replicate (15 - v.length) 0 ++ [if s.dev.satOf ⟨x.obj, x.plane, k⟩ then 3 else 1]))))

/-- R369, R371, R372, R384, R386, R389, R393, R396, R479: a read answers the value, or the status of the first check that fails; a
READ_CLEAR also clears the counter; a write is stored under its owner's rule, or does what the row of its value does; the lock, a factory
reset and a snapshot; the segments of DOMAIN transfers. -/
def Obligations.Requests : Prop :=
  ∀ (s : State) (rq : Req) (idx : BitVec 16) (sub : Byte) (x : Target) (v : Bytes) (seg total check : BitVec 32), s.dev.takes rq = true →
    let h := s.dev.fmMessage rq.ses.val
    let n := rq.ses.val
    let k := h.place x n
    let key : Key := ⟨x.obj, x.plane, k⟩
    let found := target idx.toNat sub.toNat = some x
    let w : Write := ⟨x, v.length, bytesToNat v⟩
    let gives (t : State) (r : Resp) : Prop := .resp r ∈ t.dev.out ∧ (t.dev.session n).responses.head? = some r
    let value (z : Bytes) : Resp := valueResp rq x.obj.info.ty.code false z
    let read : Resp := valueResp rq x.obj.info.ty.code (h.satOf key) (h.readBytes x.obj x.plane k)
    let moved (o : Obj) (p i : Nat) : Prop := requestRegs o p i ∨ o = .mgmtRefused
    (target idx.toNat sub.toNat = none → ∀ c ∈ [Instr.read rq idx sub, .readClear rq idx sub, .write rq idx sub v, .domainReadStart rq idx sub,
      .domainReadSeg rq idx sub seg, .domainWriteStart rq idx sub total check, .domainWriteSeg rq idx sub seg v, .domainAbort rq idx sub],
      ∃ t, exec c s = .next t ∧ t.dev.Answered rq 0x0201) ∧
    (found → ∃ t, exec (.read rq idx sub) s = .next t ∧ t.pending = s.pending ∧ Device.Frame (s.dev.heard n) t.dev moved ∧
      (h.readStatus x n = 0 → gives t read) ∧ (h.readStatus x n ≠ 0 → t.dev.Answered rq (h.readStatus x n))) ∧
    (found → x.obj.isCounter = true → h.holds n 3 = true → (x.plane < 4 → h.answers x.plane = true) →
      ∃ t, exec (.readClear rq idx sub) s = .next t ∧ t.pending = s.pending ∧ gives t read ∧
        t.dev.get x.obj x.plane k = (if x.obj = .ndpRequests then 1 else 0) ∧ t.dev.satOf key = false) ∧
    (found → x.obj.info.ty ≠ .domain → x.obj.isCounter = false → ∃ t, exec (.readClear rq idx sub) s = .next t ∧ t.dev.Answered rq 0x0202) ∧
    (found → h.writeStatus w n ≠ 0 → ∃ t, exec (.write rq idx sub v) s = .next t ∧ t.pending = s.pending ∧
      t.dev.Answered rq (h.writeStatus w n) ∧ Device.Frame (s.dev.heard n) t.dev moved) ∧
    (found → rowOf rq idx.toNat x w.val = none → s.dev.admits rq w = true →
      ∃ t, exec (.write rq idx sub v) s = .next t ∧ t.pending = s.pending ∧
        (h.writeRule x n w.val = false → t.dev.Answered rq 0x0303 ∧ Device.Frame (s.dev.heard n) t.dev moved) ∧
        (h.writeRule x n w.val = true → (x.obj.info.acc = .rwp ∨ x.obj.info.acc = .rwl → s.dev.journals n [(key, w.val % 2 ^ x.obj.width)] = true) →
          t.dev.Answered rq 0 ∧ (x.obj ≠ .quotaHighWater ∨ bit k 15 = true ∨ h.hasTenant x.plane (k % 4096) = true →
            t.dev.get x.obj x.plane k = w.val))) ∧
    (∀ f u, found → s.dev.writeStatus w n = 0 → rowOf rq idx.toNat x w.val = some f → f { dev := s.dev } = .next u →
      ∃ t, exec (.write rq idx sub v) s = .next t ∧ t.pending = s.pending ∧ Device.Frame u.dev t.dev (fun _ _ _ => False)) ∧
    (s.dev.admits rq ⟨⟨.lockCmd, 4, 0⟩, 1, 1⟩ = true → s.dev.journals n [(⟨.lockState, 4, 0⟩, 1)] = true →
      ∃ t, exec (.lock rq) s = .next t ∧ t.pending = s.pending ∧ t.dev.Answered rq 0 ∧ t.dev.locked = true ∧ t.dev.get .lockCmd 4 0 = 2 ∧
        bit (t.dev.get .cause 4 2) 1 = true) ∧
    (s.dev.admits rq ⟨⟨.lockCmd, 4, 0⟩, 1, 2⟩ = true → ∃ t, exec (.lockRelease rq) s = .next t ∧ t.pending = s.pending ∧ t.dev.Answered rq 0 ∧
      t.dev.locked = s.dev.locked ∧ t.dev.get .lockCmd 4 0 = (if s.dev.locked then 1 else 2) ∧
      (s.dev.locked = true → t.dev.hub.lockPendingRelease = true)) ∧
    (s.dev.admits rq ⟨⟨.factoryResetCmd, 4, 0⟩, 1, 1⟩ = true → ∃ t, exec (.factoryReset rq) s = .next t ∧ t.pending = s.pending ∧
      t.dev.Answered rq 0 ∧ t.dev.get .factoryResetCmd 4 0 = 1 ∧
      Device.Frame { s.dev.heard n with hub.factoryPending := true } t.dev (fun o p i => requestRegs o p i ∨ (o = .factoryResetCmd ∧ p = 4 ∧ i = 0))) ∧
    (let l := s.dev.snapList
     let at_ := unpackTime (s.dev.get .snapTime 4 0)
     let waits := (List.range 4).filter (fun p => l.any (fun y => (snapTarget y.2).any (fun g => g.plane = p)) && s.dev.answers p &&
       decide (s.dev.tbNow p (s.dev.get .snapTb 4 0) < at_))
     s.dev.admitsNow rq ⟨⟨.snapCmd, 4, 0⟩, 1, 1⟩ = true → ∃ t, exec (.snapshotArm rq) s = .next t ∧ t.pending = s.pending ∧ t.dev.Answered rq 0 ∧
       (s.dev.snapOk l = false → t.dev.get .snapCmd 4 0 = 3 ∧ t.dev.snap = s.dev.snap) ∧
       (s.dev.snapOk l = true → waits = [] → t.dev.get .snapCmd 4 0 = 2 ∧ t.dev.snap.armed = false) ∧
       (s.dev.snapOk l = true → waits ≠ [] → t.dev.get .snapCmd 4 0 = 1 ∧ t.dev.snap.armed = true ∧ t.dev.snap.wait = waits ∧
         t.dev.snap.t = at_ ∧ t.dev.snap.objs = l)) ∧
    (found → ∃ t, exec (.domainReadStart rq idx sub) s = .next t ∧ t.pending = s.pending ∧
      (h.domainStatus x n false ≠ 0 → t.dev.Answered rq (h.domainStatus x n false)) ∧
      (h.domainStatus x n false = 0 →
        let z := h.domainValue x.obj x.plane k
        gives t (value (natToBytes 4 z.length ++ natToBytes 4 (crc32 z))) ∧
        (t.dev.session n).xfer = some { key := key, write := false, data := z, total := z.length })) ∧
    (found → ∃ t, exec (.domainWriteStart rq idx sub total check) s = .next t ∧ t.pending = s.pending ∧
      (h.domainStatus x n true ≠ 0 → t.dev.Answered rq (h.domainStatus x n true)) ∧
      (h.domainStatus x n true = 0 → domainMax x.obj < total.toNat → t.dev.Answered rq 0x0303) ∧
      (h.domainStatus x n true = 0 → total.toNat ≤ domainMax x.obj → t.dev.Answered rq 0 ∧
        (t.dev.session n).xfer = some { key := key, write := true, total := total.toNat, crc := check.toNat })) ∧
    (∀ y, h.openXfer rq idx.toNat sub.toNat false = (0, some y) → ∃ t, exec (.domainReadSeg rq idx sub seg) s = .next t ∧ t.pending = s.pending ∧
      (y.total ≤ seg.toNat * 1016 → seg ≠ 0 → t.dev.Answered rq 0x0601) ∧
      (seg.toNat * 1016 < y.total ∨ seg = 0 → gives t (valueResp rq y.key.obj.info.ty.code false
        (natToBytes 4 seg.toNat ++ (y.data.drop (seg.toNat * 1016)).take 1016)))) ∧
    (∀ y, h.openXfer rq idx.toNat sub.toNat true = (0, some y) →
      let all := y.data ++ v
      let bad := seg.toNat ≠ y.next ∨ 1016 < v.length ∨ (v.length < 1016 ∧ all.length < y.total)
      ∃ t, exec (.domainWriteSeg rq idx sub seg v) s = .next t ∧ t.pending = s.pending ∧
        (bad → t.dev.Answered rq 0x0601 ∧ (t.dev.session n).xfer = (s.dev.session n).xfer) ∧
        (¬ bad → all.length < y.total → t.dev.Answered rq 0 ∧ (t.dev.session n).xfer = some { y with next := y.next + 1, data := all }) ∧
        (¬ bad → y.total < all.length ∨ (all.length = y.total ∧ crc32 all ≠ y.crc) → t.dev.Answered rq 0x0604 ∧
          (t.dev.session n).xfer = none) ∧
        (¬ bad → all.length = y.total → crc32 all = y.crc → y.key.obj = .caCert → s.dev.journals n [(⟨.caCert, 4, 0⟩, bytesToNat (1 :: all))] = true →
          t.dev.Answered rq 0 ∧ (t.dev.session n).xfer = none ∧ t.dev.domain .caCert 4 0 = all)) ∧
    (∀ b st, h.openXfer rq idx.toNat sub.toNat b = (st, none) → ∀ c, (b = false ∧ c = Instr.domainReadSeg rq idx sub seg) ∨
      (b = true ∧ c = Instr.domainWriteSeg rq idx sub seg v) → ∃ t, exec c s = .next t ∧ t.dev.Answered rq st) ∧
    (found → x.obj.info.ty = .domain → ∃ t, exec (.domainAbort rq idx sub) s = .next t ∧ t.pending = s.pending ∧
      (t.dev.session n).xfer = none ∧ ((s.dev.session n).xfer ≠ none → t.dev.Answered rq 0) ∧
      ((s.dev.session n).xfer = none → t.dev.Answered rq (if (s.dev.session n).xferLost then 0x0602 else 0x0601))) ∧
    (∃ t, exec (.keepalive rq) s = .next t ∧ t.pending = s.pending ∧ t.dev.Answered rq 0 ∧ Device.Frame (s.dev.heard n) t.dev requestRegs)

/-- R378 to R380, R400, R405, R406: the mailbox takes one message at a time and answers it; a write to a cause clears the bits written as
1, one record a bit; a session's filters, acknowledgements and the resending of its records. -/
def Obligations.MailboxAndEvents : Prop :=
  ∀ (s : State) (rq : Req) (idx : BitVec 16) (v : BitVec 32) (msg : Bytes) (flt : Byte) (x : Target),
    let nothing (t : State) := Device.Frame s.dev t.dev (fun _ _ _ => False)
    let h := s.dev.fmMessage rq.ses.val
    let n := rq.ses.val
    let slot (k : Nat) := (s.dev.session n).filters.getD k none
    let gives (t : State) (r : Resp) : Prop := .resp r ∈ t.dev.out ∧ (t.dev.session n).responses.head? = some r
    (∃ t, exec (.mbDoorbell v msg) s = .next t ∧ t.pending = s.pending ∧ (v ≠ 1 → nothing t) ∧
      (v = 1 → s.dev.hub.mbStatus ≠ 0 → Device.Frame { s.dev with hub.mbIgnored := min 0xFFFFFFFF (s.dev.hub.mbIgnored + 1) } t.dev (fun _ _ _ => False)) ∧
      (let id := beNat msg 4 4
       let hd := beNat msg 0 16
       let new := ∀ r ∈ (s.dev.session 0).responses, r.id ≠ id
       let said (st : Nat) : Prop := ∃ r, r.status = st ∧ r.id = id ∧ t.dev.hub.mbResponse = respBytes msg r ∧ t.dev.hub.mbStatus = 2
       v = 1 → s.dev.hub.mbStatus = 0 → s.dev.hubUp = true → s.dev.hub.romStay = false → 16 ≤ msg.length → t.dev.hub.mbRequest = msg.take 1040 ∧
         (fld hd 120 8 ≠ 1 → new → said 0x0101 ∧
           t.dev.get .ndpMalformed 4 0 = min (s.dev.get .ndpMalformed 4 0 + 1) (2 ^ 32 - 1)) ∧
         (fld hd 112 16 = 0x0109 → fld hd 104 8 = 0 → fld hd 32 8 = 0 → fld hd 0 16 = 0 → new → said 0) ∧
         (∀ r, (s.dev.session 0).responses.find? (fun r => r.id = id) = some r → fld hd 120 8 ≠ 1 → said r.status ∧
           t.dev.get .ndpDupRequests 4 0 = min (s.dev.get .ndpDupRequests 4 0 + 1) (2 ^ 32 - 1)))) ∧
    (∃ t, exec (.mbStatusWrite v) s = .next t ∧ t.pending = s.pending ∧
      (v = 1 → s.dev.hub.mbStatus = 2 → Device.Frame { s.dev with hub.mbStatus := 0 } t.dev (fun _ _ _ => False)) ∧
      (v ≠ 1 ∨ s.dev.hub.mbStatus ≠ 2 → nothing t)) ∧
    (s.dev.takes rq = true → causeTarget idx.toNat = none → ∃ t, exec (.causeClear rq idx v) s = .next t ∧ t.dev.Answered rq 0x0201) ∧
    (causeTarget idx.toNat = some x → s.dev.admits rq ⟨x, 4, v.toNat⟩ = true →
      let c := h.get .cause x.plane x.inst
      ∃ t, exec (.causeClear rq idx v) s = .next t ∧ t.pending = s.pending ∧ t.dev.Answered rq 0 ∧
        (∀ b < 32, bit (t.dev.get .cause x.plane x.inst) b = (bit c b && !bit v.toNat b)) ∧
        (t.dev.get .cause x.plane x.inst = 0 → t.dev.get .causeUnit x.plane x.inst = 0 ∧ t.dev.get .causeTime x.plane x.inst = 0) ∧
        ∀ m, 1 ≤ m → m ≤ 16 → (s.dev.session m).isOpen = true → (h.session m).filters = [some (0, 2 ^ 32 - 1)] →
          (t.dev.session m).evSeq = (h.session m).evSeq + ((bitsOf 32 c).filter (bit v.toNat)).length) ∧
    (s.dev.takes rq = true → ∀ e ∈ [Instr.subscribe rq idx v, .unsubscribe rq flt, .eventAck rq v],
      (n = 0 → ∃ t, exec e s = .next t ∧ t.dev.Answered rq 0x0101) ∧
      (n ≠ 0 → s.dev.holds n 0xF = false → ∃ t, exec e s = .next t ∧ t.dev.Answered rq 0x0203)) ∧
    (s.dev.takes rq = true → n ≠ 0 → s.dev.holds n 0xF = true →
      (∃ t, exec (.subscribe rq idx v) s = .next t ∧ t.pending = s.pending ∧
        (idx ≠ 0 → causeTarget idx.toNat = none → t.dev.Answered rq 0x0201) ∧
        (idx = 0 ∨ (causeTarget idx.toNat).isSome = true →
          ((∀ k < 8, slot k ≠ none) → t.dev.Answered rq 0x0303) ∧
          (∀ k < 8, slot k = none → (∀ j < k, slot j ≠ none) → (t.dev.session n).filters.getD k none = some (idx.toNat, v.toNat) ∧
            (∀ j < 8, j ≠ k → (t.dev.session n).filters.getD j none = slot j) ∧
            gives t { statusResp rq 0 with typ := 0x02, value := natToBytes 1 k }))) ∧
      (∃ t, exec (.unsubscribe rq flt) s = .next t ∧ t.pending = s.pending ∧
        (8 ≤ flt.toNat ∨ slot flt.toNat = none → t.dev.Answered rq 0x0303) ∧
        (flt.toNat < 8 → slot flt.toNat ≠ none → t.dev.Answered rq 0 ∧ (t.dev.session n).filters.getD flt.toNat none = none)) ∧
      (∃ t, exec (.eventAck rq v) s = .next t ∧ t.pending = s.pending ∧ t.dev.Answered rq 0 ∧ (t.dev.session n).events =
        (h.session n).events.filter (fun r => decide ((v.toNat + 2 ^ 32 - recordSeq r) % 2 ^ 32 ≥ 2 ^ 31)))) ∧
    (∃ t, exec .eventResendTimer s = .next t ∧ t.pending = s.pending ∧ t.dev.parts = s.dev.parts ∧
      (s.dev.hubUp = false → nothing t) ∧
      (s.dev.hubUp = true → ∀ m ≤ 16, (s.dev.session m).isOpen = true → ∀ r ∈ (s.dev.session m).events,
        ∃ l, r ∈ l ∧ l.length ≤ 32 ∧ s.dev.Sends t.dev (.event m l)))

/-! ### Health (spec/19) -/

/-- R408 to R410, R412, Table 19.13: an uncorrectable codeword, a lost clock recovery lock, an HBM fault and a plane state fault each count one
fault event of their channel; a lost lock takes the port to OPTICAL; a pseudo-channel whose re-read fails, and a link that has not
rejoined, are retired. At a window's end the count is reported, and beyond the threshold in the third window in a row the channel is
retired. A fault is injected, and a channel restored or retired, by command where its conditions hold, and the command reads 0x03
elsewhere. -/
def Obligations.HealthChannels : Prop :=
  ∀ (s : State) (p : Plane) (n : Port) (w : Fin 4) (pc : Fin 64) (l : Lh) (ok : Bool) (rq : Req),
    let nothing (t : State) := Device.Frame s.dev t.dev (fun _ _ _ => False)
    let up (t : State) (o : Obj) (q i : Nat) : Prop := t.dev.get o q i = min (s.dev.get o q i + 1) (2 ^ 32 - 1)
    let faults (t : State) (q ch : Nat) : Prop := up t .hfChanFaults q ch ∧ (t.dev.chanSt q ch).count = (s.dev.chanSt q ch).count + 1
    (s.dev.live p = true →
      (let lane := chan 1 (4 * n + w)
       let st := s.dev.get .portState p n
       let out := bit (s.dev.get .portLaneRetired p n) w = true
       (∃ t, exec (.uncorrectableCodeword p n w) s = .next t ∧ t.pending = s.pending ∧ (out ∨ st < 2 ∨ 4 < st → nothing t) ∧
         (¬ out → 2 ≤ st → st ≤ 4 → up t .fecUncorrectable p n ∧
           (s.dev.retired p lane = false → faults t p lane ∧ (t.dev.chanSt p lane).retry = true))) ∧
       (∃ t, exec (.clockRecoveryLockLoss p n w) s = .next t ∧ t.pending = s.pending ∧
         (out ∨ st = 0 ∨ 4 < st ∨ (s.dev.port p n).window = true → nothing t) ∧
         (¬ out → st ≠ 0 → st ≤ 4 → (s.dev.port p n).window = false → t.dev.get .portState p n = 1 ∧
           (s.dev.retired p lane = false → faults t p lane) ∧
           (st = 4 → s.dev.retired p (chan 2 n) = false → faults t p (chan 2 n))))) ∧
      (let ch := chan 7 pc
       ∃ t, exec (.hbmFault p pc ok) s = .next t ∧ t.pending = s.pending ∧ (s.dev.retired p ch = true → nothing t) ∧
         (s.dev.retired p ch = false → up t .hfChanFaults p ch ∧
           (ok = true → t.dev.retired p ch = false ∧ (t.dev.chanSt p ch).retry = false ∧ (t.dev.chanSt p ch).cleared = some s.dev.clock) ∧
           (ok = false → t.dev.retired p ch = true ∧ (t.dev.plane p).recoveryDue = true ∧ ch ∈ (t.dev.plane p).recoverFor ∧
             bit (t.dev.get .cause p 10) 1 = true))) ∧
      (∃ t, exec (.planeStateFault p) s = .next t ∧ t.pending = s.pending ∧ (t.dev.plane p).recoveryDue = true ∧
        (s.dev.retired p (chan 10 0) = false → faults t p (chan 10 0))) ∧
      (let ch := chan 8 l
       ∃ t, exec (.longHaulRejoinTimeout p l) s = .next t ∧ t.pending = s.pending ∧
         ((s.dev.chanSt p ch).retry = false ∨ s.dev.inBundle p l = true → nothing t) ∧
         ((s.dev.chanSt p ch).retry = true → s.dev.inBundle p l = false → t.dev.retired p ch = true)) ∧
      (∃ t, exec (.healthWindowEnd p) s = .next t ∧ t.pending = s.pending ∧ ∀ ch limit,
        (∀ c, c ≠ ch → (s.dev.chanSt p c).count = 0 ∧ s.dev.get .hfChanWindow p c = 0 ∧ s.dev.get .hfChanOver p c = 0) →
        s.dev.threshold p (chanCode ch) = some limit → s.dev.retired p ch = false →
        let k := (s.dev.chanSt p ch).count
        let over' := s.dev.get .hfChanOver p ch + 1
        t.dev.get .hfChanWindow p ch = min k 65535 ∧
        (k ≤ limit → (t.dev.chanSt p ch).count = 0 ∧ t.dev.get .hfChanOver p ch = 0) ∧
        (limit < k → t.dev.get .hfChanOver p ch = min 3 over' ∧ bit (t.dev.get .cause p 10) 0 = true ∧
          (over' < 3 → s.dev.chanState p ch = 0 → t.dev.chanState p ch = 1) ∧
          (3 ≤ over' → chanOk ch = true → chanCode ch ≠ 3 → t.dev.retired p ch = true)))) ∧
    (let q := s.dev.get .diagPlane 4 0
     let ch := s.dev.sel .diagChanSel 4 0 rq.ses.val
     let no := s.dev.live q = false ∨ chanOk ch = false ∨ chanCode ch = 10 ∨
       ((chanCode ch = 3 ∨ chanCode ch = 7) ∧ (s.dev.plane q).cond ≠ .maintenance)
     s.dev.admits rq ⟨⟨.diagInjectCmd, 4, 0⟩, 1, 1⟩ = true → ∃ t, exec (.diagInject rq) s = .next t ∧ t.pending = s.pending ∧
       t.dev.Answered rq 0 ∧ (no → t.dev.get .diagInjectCmd 4 0 = 3 ∧ t.dev.get .diagInjected 4 0 = s.dev.get .diagInjected 4 0) ∧
       (¬ no → t.dev.get .diagInjectCmd 4 0 = 2 ∧ up t .diagInjected 4 0 ∧
         (chanCode ch = 1 → s.dev.retired q ch = false → up t .fecUncorrectable q (chanIdx ch / 4) ∧ faults t q ch))) ∧
    (let ch := s.dev.sel .hfChanSel p 0 rq.ses.val
     let spared := 3 ≤ chanCode ch ∧ chanCode ch ≤ 6
     let no := s.dev.live p = false ∨ chanCode ch = 10 ∨ chanOk ch = false ∨ s.dev.retired p ch = false ∨ (spared ∧ ok = false)
     (s.dev.admits rq ⟨⟨.hfRestoreCmd, p, 0⟩, 1, 1⟩ = true → ∃ t, exec (.hfRestore p ok rq) s = .next t ∧ t.pending = s.pending ∧
       t.dev.Answered rq 0 ∧
       (no → t.dev.get .hfRestoreCmd p (s.dev.place ⟨.hfRestoreCmd, p, 0⟩ rq.ses.val) = 3 ∧ t.dev.chanState p ch = s.dev.chanState p ch) ∧
       (¬ no → t.dev.get .hfRestoreCmd p (s.dev.place ⟨.hfRestoreCmd, p, 0⟩ rq.ses.val) = 2 ∧ t.dev.retired p ch = false ∧
         t.dev.get .hfChanOver p ch = 0 ∧ (chanCode ch = 1 → bit (t.dev.get .portLaneRetired p (chanIdx ch / 4)) (chanIdx ch % 4) = false))) ∧
     (s.dev.admits rq ⟨⟨.hfRetireCmd, p, 0⟩, 1, 1⟩ = true → ∃ t, exec (.hfRetire p rq) s = .next t ∧ t.pending = s.pending ∧
       t.dev.Answered rq 0 ∧
       (s.dev.live p = false ∨ chanOk ch = false → t.dev.get .hfRetireCmd p (s.dev.place ⟨.hfRetireCmd, p, 0⟩ rq.ses.val) = 3 ∧
         t.dev.chanState p ch = s.dev.chanState p ch) ∧
       (s.dev.live p = true → chanOk ch = true → t.dev.get .hfRetireCmd p (s.dev.place ⟨.hfRetireCmd, p, 0⟩ rq.ses.val) = 2 ∧
         (chanCode ch ≠ 3 → t.dev.retired p ch = true) ∧ (chanCode ch = 10 → (t.dev.plane p).cond = .retired))))

/-- R413, R415, R417, R424, R428: a recovery that is due starts, restarts or, the third time within an hour, retires the plane; it ends or
times out; maintenance is entered with everything fenced and left by a recovery; fuses, the full self-test, the clearing of the log and
the operator's replacement reason. -/
def Obligations.RecoveryAndMaintenance : Prop :=
  ∀ (s : State) (p : Plane) (fits : Bool) (failed : List (BitVec 16)) (rq : Req),
    let nothing (t : State) := Device.Frame s.dev t.dev (fun _ _ _ => False)
    let x := s.dev.plane p
    let up (t : State) (o : Obj) (q i : Nat) : Prop := t.dev.get o q i = min (s.dev.get o q i + 1) (2 ^ 32 - 1)
    let may (o : Obj) (q v : Nat) := s.dev.admits rq ⟨⟨o, q, 0⟩, 1, v⟩ = true
    let answers (t : State) (o : Obj) (q v : Nat) : Prop := t.pending = s.pending ∧ t.dev.Answered rq 0 ∧ t.dev.get o q 0 = v
    let logged (l : List RetireEntry) := s.dev.journals rq.ses.val [(⟨.retireLog, 4, 0⟩, logValue l)] = true
    (may .planeRecoverCmd p 1 → ∃ t, exec (.planeRecoverCmd p rq) s = .next t ∧
      (s.dev.live p = true → answers t .planeRecoverCmd p 1 ∧ (t.dev.plane p).recoveryDue = true) ∧
      (s.dev.live p = false → answers t .planeRecoverCmd p 3 ∧ t.dev.plane p = x)) ∧
    (s.dev.live p = true →
      (let recent := x.recoveries.filter (fun i => decide (s.dev.clock ≤ i + 3600 * 1000000000))
       let stopped (t : State) : Prop := (t.dev.plane p).cond = .recovering ∧ (t.dev.plane p).recoveryInit = false ∧
         ((∀ n < 128, (s.dev.port p n).window = false) → (t.dev.plane p).recoveryDue = false) ∧ bit (t.dev.get .cause p 10) 9 = true ∧
         (∀ n < 128, t.dev.get .portState p n = if (s.dev.port p n).fenced then 6 else 0) ∧
         (∀ i, t.dev.get .rctxState p i = 0 ∧ t.dev.get .slotState p i = 0 ∧ t.dev.get .cctxState p i = 0) ∧
         ∀ e ∈ t.dev.copies, e.1.1 ≠ p
       ∃ t, exec (.planeRecoveryStart p) s = .next t ∧ t.pending = s.pending ∧
         (s.dev.hubUp = false ∨ x.recoveryDue = false → nothing t) ∧
         (s.dev.hubUp = true → x.recoveryDue = true → x.cond = .recovering → stopped t ∧
           t.dev.get .planeRecoveries p 0 = s.dev.get .planeRecoveries p 0) ∧
         (s.dev.hubUp = true → x.recoveryDue = true → x.cond ≠ .recovering → up t .planeRecoveries p 0 ∧
           (recent.length < 2 → stopped t ∧ (t.dev.plane p).recoveries = recent ++ [s.dev.clock]) ∧
           (2 ≤ recent.length → (t.dev.plane p).cond = .retired ∧ bit (t.dev.get .cause p 2) 4 = true))) ∧
      (let ends := x.cond = .recovering ∧ x.recoveryInit = true ∧ x.recoveryDue = false
       ∃ t, exec (.planeRecoveryEnd p) s = .next t ∧ t.pending = s.pending ∧ (¬ ends → nothing t) ∧
         (ends → (t.dev.plane p).cond = .running ∧ bit (t.dev.get .cause p 10) 10 = true ∧
           ∀ o ∈ [Obj.planeRecoverCmd, .maintCmd], s.dev.get o p 0 = 1 → t.dev.get o p 0 = 2)) ∧
      (∃ t, exec (.recoveryTimeout p) s = .next t ∧ t.pending = s.pending ∧ (x.cond ≠ .recovering → nothing t) ∧
        (x.cond = .recovering → (t.dev.plane p).cond = .retired ∧
          ∀ o ∈ [Obj.planeRecoverCmd, .maintCmd], s.dev.get o p 0 = 1 → t.dev.get o p 0 = 3))) ∧
    (may .maintCmd p 1 → ∃ t, exec (.maintEnter p rq) s = .next t ∧
      (s.dev.maintOk p = true → answers t .maintCmd p 2 ∧ t.dev.plane p = { x with cond := .maintenance }) ∧
      (s.dev.maintOk p = false → answers t .maintCmd p 3 ∧ t.dev.plane p = x)) ∧
    (may .maintCmd p 2 → ∃ t, exec (.maintLeave p rq) s = .next t ∧
      (x.cond = .maintenance → answers t .maintCmd p 1 ∧ t.dev.plane p = { x with recoveryDue := true }) ∧
      (x.cond ≠ .maintenance → answers t .maintCmd p 3 ∧ t.dev.plane p = x)) ∧
    (let l := s.dev.hub.retireLog.map (fun e => if e.plane = p.val && e.kind = 2 then { e with kind := 3 } else e)
     may .fuseCmd p 1 → ∃ t, exec (.fuseCmd p fits rq) s = .next t ∧
       (x.cond ≠ .maintenance → answers t .fuseCmd p 3 ∧ t.dev.hub.retireLog = s.dev.hub.retireLog) ∧
       (x.cond = .maintenance → fits = false → answers t .fuseCmd p 3 ∧ bit (t.dev.get .replReasons 4 0) 4 = true ∧
         t.dev.hub.retireLog = s.dev.hub.retireLog) ∧
       (x.cond = .maintenance → fits = true → logged l → answers t .fuseCmd p 2 ∧ t.dev.hub.retireLog = l)) ∧
    (let q := s.dev.get .diagPlane 4 0
     may .diagFullBistCmd 4 1 → ∃ t, exec (.fullBist failed rq) s = .next t ∧
       ((s.dev.plane q).cond ≠ .maintenance → answers t .diagFullBistCmd 4 3) ∧
       ((s.dev.plane q).cond = .maintenance → answers t .diagFullBistCmd 4 2 ∧
         ∀ ch, failed = [ch] → chanOk ch.toNat = true → s.dev.retired q ch.toNat = false → up t .bistFailures q 0 ∧
           bit (t.dev.get .cause q 10) 4 = true ∧ (chanCode ch.toNat ≠ 3 → t.dev.retired q ch.toNat = true))) ∧
    (let q := s.dev.get .retireClearPlane 4 0
     let l := s.dev.hub.retireLog.filter (fun e => !(e.plane = q && (e.kind = 1 || e.kind = 2)))
     may .retireClearCmd 4 1 → logged l → ∃ t, exec (.retireClear rq) s = .next t ∧ answers t .retireClearCmd 4 2 ∧
       t.dev.hub.retireLog = l ∧ (t.dev.plane q).fuseFull = false ∧ ∀ i ch, t.dev.chanState i ch = s.dev.chanState i ch) ∧
    (may .replCmd 4 1 → ∃ t, exec (.replReasonSet rq) s = .next t ∧ answers t .replCmd 4 2 ∧ bit (t.dev.get .replReasons 4 0) 3 = true ∧
      (s.dev.get .replReasons 4 0 = 0 → t.dev.get .replOpenTime 4 0 = packTime s.dev.clock ∧ bit (t.dev.get .cause 4 0x301) 0 = true)) ∧
    (may .replCmd 4 2 → ∃ t, exec (.replReasonClear rq) s = .next t ∧ answers t .replCmd 4 2 ∧ bit (t.dev.get .replReasons 4 0) 3 = false ∧
      ∀ b < 8, b ≠ 3 → bit (t.dev.get .replReasons 4 0) b = bit (s.dev.get .replReasons 4 0) b)

/-- R419 to R422, R425 to R427: the next unit of the rotation is tested behind its stand-in or skipped; a unit that passes returns, one
that is repaired is tested once more, one that fails is retired; a measurement beyond its limit latches its cause; margins are re-planned. -/
def Obligations.SelfTestAndMargins : Prop :=
  ∀ (s : State) (p : Plane) (m : BitVec 16) (v : Int) (rq : Req),
    let nothing (t : State) := Device.Frame s.dev t.dev (fun _ _ _ => False)
    let up (t : State) (o : Obj) : Prop := t.dev.get o p 0 = min (s.dev.get o p 0 + 1) (2 ^ 32 - 1)
    let b := s.dev.bist p
    let pos := s.dev.get .bistRotationPos p 0
    let moved (t : State) : Prop := t.dev.get .bistRotationPos p 0 = (if pos < 1822 then pos + 1 else 0) ∧ (t.dev.bist p).unit = none
    let g := (unitOf (bistChan pos)).1
    let u := (unitOf (bistChan pos)).2
    let tests (t : State) : Prop := (t.dev.bist p).unit = some pos
    (s.dev.live p = true →
      (let may := (s.dev.plane p).cond = .running ∧ s.dev.get .bistEnable p 0 = 1 ∧ s.dev.get .opLevel 4 0 = 0 ∧ b.unit = none
       ∃ t, exec (.bistUnitStart p) s = .next t ∧ t.pending = s.pending ∧ (¬ may → nothing t) ∧
         (may → s.dev.bistBlocked p pos = true → up t .bistSkipped ∧ moved t) ∧
         (may → s.dev.bistBlocked p pos = false → pos < 420 → pos % 21 = 20 → tests t ∧ t.dev.kiteState p (pos / 21) 20 = 5 ∧
           t.dev.chanState p (bistChan pos) = 3) ∧
         (may → s.dev.bistBlocked p pos = false → pos < 420 → pos % 21 ≠ 20 →
           (s.dev.handOverOk p (pos / 21) (pos % 21) = true → tests t ∧ (t.dev.bist p).waiting = true) ∧
           (s.dev.handOverOk p (pos / 21) (pos % 21) = false → nothing t)) ∧
         (may → s.dev.bistBlocked p pos = false → 420 ≤ pos → tests t ∧ t.dev.chanState p (bistChan pos) = 3 ∧
           (grpUnits g ≤ u → t.dev.standsOf p g = []) ∧
           (∀ x, u < grpUnits g → s.dev.freeSpare p g = some x → t.dev.standsOf p g = [(u, x)]))) ∧
      (∀ r, ∃ t, exec (.bistUnitComplete p r) s = .next t ∧ t.pending = s.pending ∧
        (b.unit = none → nothing t) ∧
        (∀ i, b.unit = some i →
          let ch := bistChan i
          let ready := i < 420 → i % 21 < 20 → s.dev.kiteState p (i / 21) (i % 21) = 5
          (¬ ready → nothing t) ∧
          (ready → r = .pass → moved t ∧ (420 ≤ i ∨ i % 21 = 20 → t.dev.chanState p ch = s.dev.inService p ch)) ∧
          (ready → r = .fail ∨ (r = .softRepaired ∧ b.again = true) → moved t ∧ t.dev.retired p ch = true ∧ up t .bistFailures ∧
            bit (t.dev.get .cause p 10) 4 = true) ∧
          (ready → r = .softRepaired → b.again = false → (t.dev.bist p).unit = some i ∧ (t.dev.bist p).again = true ∧
            up t .softRepairs ∧ bit (t.dev.get .cause p 10) 6 = true))) ∧
      (let k := m.toNat
       let lim : Int := s.dev.monLimit p k
       ∃ t, exec (.ageingMeasure p [(m, v)]) s = .next t ∧ t.pending = s.pending ∧
         (monOk k = false → t.dev.mon p k = s.dev.mon p k ∧ t.dev.get .monValue p k = s.dev.get .monValue p k) ∧
         (monOk k = true → t.dev.get .monValue p k = ofSigned 32 v ∧ t.dev.get .monHorizonDays p k = t.dev.monHorizon p k ∧
           (monRises k = true → lim < v → bit (t.dev.get .cause p 10) 7 = true) ∧
           (monRises k = false → v < lim → bit (t.dev.get .cause p 10) 7 = true)) ∧
         (t.dev.get .planeHorizonDays p 0 < 180 → bit (t.dev.get .cause p 10) 8 = true))) ∧
    (let x := s.dev.plane p
     let slack (i : Nat) := toSigned 32 (s.dev.get .monValue p (4096 + i))
     let swing (c : Nat) := ((s.dev.cal p c).swing.map (fun e => e.2.2 - e.2.1)).foldl max 0
     let planned (t : State) : Prop := t.dev.get .replanLast p 0 = packTime (s.dev.stamp p) ∧
       (∀ i < 96, lookNat (t.dev.plane p).vraise i = lookNat x.vraise i +
         (if (s.dev.mon p (4096 + i)).today = none ∨ 500 ≤ slack i then 0
          else min (5 * ((500 - slack i) / 50).toNat) (850 - s.dev.islandMv p i))) ∧
       (∀ c < 4, (t.dev.cal p c).raised = max (s.dev.cal p c).raised (min 4000 (swing c + 500)) ∧ (t.dev.cal p c).swing = []) ∧
       (∀ k < 64, 10000 < toSigned 32 (s.dev.get .monValue p (6 * 4096 + k)) → lookNat (t.dev.plane p).scrubHours k =
         max 1 ((match x.scrubHours.find? (fun e => e.1 = k) with | some e => e.2 | none => Config.hbmScrubHours) / 2))
     (s.dev.live p = true → ∃ t, exec (.marginReplan p) s = .next t ∧ t.pending = s.pending ∧ planned t) ∧
     (s.dev.admits rq ⟨⟨.replanCmd, p, 0⟩, 1, 1⟩ = true → ∃ t, exec (.replanCmd p rq) s = .next t ∧ t.pending = s.pending ∧
       t.dev.Answered rq 0 ∧ (s.dev.live p = true → planned t ∧ t.dev.get .replanCmd p 0 = 2) ∧
       (s.dev.live p = false → t.dev.get .replanCmd p 0 = 3)))

/-! ### State copy (spec/19) -/

/-- R432 to R436, Tables 19.8 to 19.10: a session starts, reads its regions and arms; a page is stored or fails the session; the source
refuses a REQUEST, its reserved bits cleared, or serves it, and at the boundary answers; objects and slots are kept until DONE writes them; REFUSED, the timeout and
an abort fail the session. -/
def Obligations.StateCopy : Prop :=
  ∀ (s : State) (p : Plane) (f : Sys2Proof.Frame) (rq : Req),
    let st := s.dev.get .scState p 0
    let a := s.dev.takeIn p scSw f
    let failed (t : State) (code : Nat) : Prop := t.dev.get .scState p 0 = 5 ∧ t.dev.get .scStatus p 0 = code % 2 ^ 8 ∧
      t.dev.get .scCmd p 0 = 3 ∧ bit (t.dev.get .cause p 10) 12 = true
    let regions := s.dev.scRegions p (s.dev.get .scTenant p 0)
    let here := st = 2 ∧ f.srcDevice = (s.dev.sc p).dev ∧ f.tenant = (s.dev.sc p).tenant
    (s.dev.admitsNow rq ⟨⟨.scCmd, p, 0⟩, 1, 1⟩ = true → ∃ t, exec (.scStart p rq) s = .next t ∧ t.pending = s.pending ∧ t.dev.Answered rq 0 ∧
      (s.dev.scStartOk p = false → t.dev.get .scCmd p 0 = 3 ∧ t.dev.get .scState p 0 = st ∧ t.dev.sc p = s.dev.sc p) ∧
      (s.dev.scStartOk p = true → t.dev.get .scCmd p 0 = 1 ∧ t.dev.get .scStatus p 0 = 0 ∧
        (t.dev.sc p).req = s.dev.scRequestNow p ∧ (t.dev.sc p).dev = s.dev.get .scSourceDevice p 0 ∧
        (t.dev.sc p).tenant = s.dev.get .scTenant p 0 ∧ (t.dev.sc p).flight.length ≤ 16 ∧
        (regions = [] → t.dev.get .scState p 0 = 2) ∧
        (∀ g, regions.head? = some g → t.dev.get .scState p 0 = 1 ∧
          (t.dev.sc p).flight.head? = some (g, 0, min 1024 (s.dev.get .rgnPages p g))))) ∧
    (s.dev.admitsNow rq ⟨⟨.scCmd, p, 0⟩, 1, 2⟩ = true → ∃ t, exec (.scAbort p rq) s = .next t ∧ t.pending = s.pending ∧ t.dev.Answered rq 0 ∧
      (s.dev.scRuns p = true → failed t 0x16) ∧
      (s.dev.scRuns p = false → t.dev.get .scCmd p 0 = 3 ∧ t.dev.get .scState p 0 = st)) ∧
    (s.dev.live p = true →
      (let e := s.dev.takeIn p ckptSw f
       ∃ t, exec (.ckptData p f) s = .next t ∧ t.pending = s.pending ∧
         (st ≠ 1 ∨ e.scExpects p f = none → Device.Frame e t.dev (fun _ _ _ => False)) ∧
         (∀ g o n, st = 1 → e.scExpects p f = some (g, o, n) →
           (f.length = 0 ∨ f.payload = [] → failed t 0x14) ∧
           (f.length ≠ 0 → f.payload ≠ [] → (e.alloc p ckptPool (e.rgnReq p g)).2 = none → failed t 0x17) ∧
           (f.length ≠ 0 → f.payload ≠ [] → (e.alloc p ckptPool (e.rgnReq p g)).2.isSome = true →
             t.dev.get .scPagesCopied p 0 = (s.dev.get .scPagesCopied p 0 + 1) % 2 ^ 64 ∧
             (1 < n → (g, o + 1, n - 1) ∈ (t.dev.sc p).flight ∧ t.dev.get .scState p 0 = 1) ∧
             (n = 1 → (s.dev.sc p).flight = [(g, o, 1)] → (s.dev.sc p).todo = [] → t.dev.get .rgnVersion p g = f.flowSeq ∧
               (t.dev.rgn p g).next = f.flowSeq + 1 ∧ t.dev.get .scState p 0 = 2)))) ∧
      (let v := bytesToNat f.payload
       ∃ t, exec (.scRequest p f) s = .next t ∧ t.pending = s.pending ∧
         (f.payload.length ≠ 32 ∨ fld v 248 8 ≠ 1 → Device.Frame a t.dev (fun _ _ _ => False)) ∧
         (f.payload.length = 32 → fld v 248 8 = 1 →
           (a.scRefusal p f = 0 → t.dev.sc p = { s.dev.sc p with serving := some f }) ∧
           (a.scRefusal p f ≠ 0 → Device.Frame (a.sendOwn p scSw (a.scFrame p f.srcDevice f.tenant 0
             (scAnswer v 5 (a.scRefusal p f)))) t.dev (fun _ _ _ => False)))) ∧
      (∃ t, exec (.scBoundary p) s = .next t ∧ t.pending = s.pending ∧
        ((s.dev.sc p).serving = none → Device.Frame s.dev t.dev (fun _ _ _ => False)) ∧
        (∀ r, (s.dev.sc p).serving = some r → rqKind (bytesToNat r.payload) = 1 → s.dev.scReached p (bytesToNat r.payload) = false →
          Device.Frame s.dev t.dev (fun _ _ _ => False)) ∧
        (∀ r, (s.dev.sc p).serving = some r → (rqKind (bytesToNat r.payload) = 1 → s.dev.scReached p (bytesToNat r.payload) = true) →
          (t.dev.sc p).serving = none)) ∧
      (∃ t, exec (.objects p f) s = .next t ∧ t.pending = s.pending ∧ (¬ here → Device.Frame a t.dev (fun _ _ _ => False)) ∧
        (here → (t.dev.sc p).objs = (s.dev.sc p).objs ++ (((scEntries f 2 511 8).zipIdx.filter
          (fun x => f.offset + x.2 < rqSyncs (s.dev.sc p).req)).map (fun x => (rqSync (s.dev.sc p).req + f.offset + x.2, x.1))))) ∧
      (∃ t, exec (.slots p f) s = .next t ∧ t.pending = s.pending ∧ (¬ here → Device.Frame a t.dev (fun _ _ _ => False)) ∧
        (here → (t.dev.sc p).slots = (s.dev.sc p).slots ++ (scEntries f 3 255 16).filter
          (fun e => (rqSlotList (s.dev.sc p).req).contains (fld e 112 16)))) ∧
      (∃ t, exec (.scDone p f) s = .next t ∧ t.pending = s.pending ∧ (¬ here → Device.Frame a t.dev (fun _ _ _ => False)) ∧
        (here → t.dev.get .scState p 0 = 4 ∧ t.dev.get .scStatus p 0 = 1 ∧ t.dev.get .scCmd p 0 = 2 ∧
          bit (t.dev.get .cause p 10) 11 = true ∧
          (∀ o v, (s.dev.sc p).objs = [(o, v)] → (s.dev.sc p).slots = [] → (s.dev.sc p).held = [] → s.dev.activeSlots p = [] →
            t.dev.syncVal p o = v % 2 ^ 64 ∧ t.dev.get .syncSaturatedFlag p o = 0) ∧
          (∀ e, (s.dev.sc p).objs = [] → (s.dev.sc p).slots = [e] → (s.dev.sc p).held = [] → fld e 96 8 ≠ 2 → fld e 96 8 ≠ 3 →
            ((a.scSetSlot p e).setSc p { serving := (s.dev.sc p).serving }).still p = true →
            t.dev.get .slotState p (fld e 112 16) = 1 ∧ t.dev.get .slotGen p (fld e 112 16) = fld e 104 8 ∧
            t.dev.get .slotLaunchNo p (fld e 112 16) = fld e 0 64))) ∧
      (∃ t, exec (.scRefused p f) s = .next t ∧ t.pending = s.pending ∧ (¬ here → Device.Frame a t.dev (fun _ _ _ => False)) ∧
        (here → failed t (fld (bytesToNat f.payload) 240 8))) ∧
      (∃ t, exec (.scTimeout p) s = .next t ∧ t.pending = s.pending ∧ (st ≠ 2 → Device.Frame s.dev t.dev (fun _ _ _ => False)) ∧
        (st = 2 → failed t 0x15)))

/-! ### Reset, boot, clocks and power (spec/20) -/

/-- R442 to R445, R452, R453, R456, R477, Table 20.2: what a reset and a loss of supply clear and keep, what the hub boots from, what a lost
and returned reference clock does, and what PLANE_INIT brings up. A pulse whose outcome the manual does not define stops by name. -/
def Obligations.ResetsAndBoot : Prop :=
  ∀ (s : State) (p : Plane) (low : Nat) (k : JournalStep) (st : InitReport) (rq : Req),
    let d := s.dev
    let h := d.hub
    let nothing (t : State) := Device.Frame d t.dev (fun _ _ _ => False)
    let empty (t : State) (q : Nat) : Prop := (∀ e ∈ t.dev.frames, e.1.1 ≠ q) ∧ (∀ e ∈ t.dev.copies, e.1.1 ≠ q) ∧ (∀ e ∈ t.dev.pools, e.1.1 ≠ q) ∧
      (∀ e ∈ t.dev.keys, e.1.1 ≠ q) ∧ (∀ e ∈ t.dev.tbs, e.1.1 ≠ q) ∧ ∀ e ∈ t.dev.links, e.1.1 ≠ q
    let cleared (t : State) : Prop := t.dev.sessions = [] ∧ t.dev.hub.running = false ∧ t.dev.hub.imgA = h.imgA ∧ t.dev.hub.imgB = h.imgB ∧
      ∀ q < 4, (t.dev.plane q).cond = .inReset ∧ t.dev.stage q = 0 ∧ empty t q
    let defaults (t : State) : Prop := ∀ o q i, o.computed = false →
      t.dev.get o q i = if keptObjs.contains o then d.get o q i else o.dflt i
    let planeReset (t : State) : Prop := (t.dev.plane p).cond = (if d.hubUp then .inReset else .waiting) ∧
      t.dev.stage p = (if d.hubUp && !(d.plane p).clockLost then 1 else 0) ∧ empty t p ∧
      ∀ o i, o.computed = false → Key.ofPlane ⟨o, p, i⟩ p = true → t.dev.get o p i = o.dflt i
    let others (t : State) : Prop := ∀ q, q ≠ p.val → t.dev.plane q = d.plane q
    let dark (t : State) : Prop := ∀ n < 128, t.dev.get .portState p n = if (d.port p n).fenced then 6 else 0
    (h.vddIo = false ∨ low ≤ 100 → (∃ t, exec (.poreset low) s = .next t ∧ t.pending = s.pending ∧ nothing t) ∧
      ∃ t, exec (.planeRst p low) s = .next t ∧ t.pending = s.pending ∧ nothing t) ∧
    (h.vddIo = true → 100 < low →
      (low < 1000000 → exec (.poreset low) s = .fault .resetPulseUndefined) ∧
      (low < 10000 → exec (.planeRst p low) s = .fault .resetPulseUndefined) ∧
      (1000000 ≤ low → ∃ t, exec (.poreset low) s = .next t ∧ t.pending = s.pending ∧ cleared t ∧ t.dev.hub.awaitBoot = true ∧
        t.dev.hub.irqN = true ∧ t.dev.hub.serviceN = true ∧ t.dev.hub.thermTripN = true ∧
        (h.factoryPending = false → h.lockPendingRelease = false → defaults t ∧ t.dev.hub.jnl = h.jnl) ∧
        (h.factoryPending = true → t.dev.hub.jnl = [] ∧ t.dev.get .resetReason 4 0 = 3)) ∧
      (10000 ≤ low → ∃ t, exec (.planeRst p low) s = .next t ∧ t.pending = s.pending ∧ planeReset t ∧ others t ∧
        t.dev.hub.jnl = h.jnl ∧ (∀ n, (t.dev.session n).bare = (d.session n).bare) ∧
        ∀ o q i, o.computed = false → o ≠ .snapCmd → ¬ (q = p.val ∧ Key.ofPlane ⟨o, q, i⟩ p = true) → t.dev.get o q i = d.get o q i)) ∧
    (d.admits rq ⟨⟨.planeResetCmd, 4, 0⟩, 1, 1⟩ = true → d.sel .planeResetSel 4 0 rq.ses.val = p.val →
      ∃ t, exec (.planeResetCmd rq) s = .next t ∧ t.pending = s.pending ∧ t.dev.Answered rq 0 ∧ t.dev.get .planeResetCmd 4 (d.place ⟨.planeResetCmd, 4, 0⟩ rq.ses.val) = 2 ∧
        planeReset t ∧ others t) ∧
    (let ok (i : Nat) : Prop := Config.sha384 (Config.imageKey (d.image i)) = natToBytes 48 (d.get .bootKeyHash 4 0) ∧
       Config.ecdsaVerify (Config.imageKey (d.image i)) (Config.imageBody (d.image i)) (Config.imageSignature (d.image i)) = true ∧
       d.get .rollbackFloor 4 0 ≤ (Config.imageVersion (d.image i)).toNat
     let a := d.bootFirst
     let runs (t : State) (i : Nat) : Prop := t.dev.hub.running = true ∧ t.dev.hub.romStay = false ∧ t.dev.hub.silent = false ∧
       t.dev.get .bootImage 4 0 = i ∧ (h.tripReason = true → t.dev.get .resetReason 4 0 = 2) ∧
       (h.jnlUnreadable = true → bit (t.dev.get .cause 4 3) 0 = true) ∧
       ∀ q < 4, bit (t.dev.get .refclkState 4 0) q = !(d.plane q).clockLost ∧
         (t.dev.get .planeRole 4 q = 2 → (t.dev.plane q).cond = .disabled ∧ t.dev.stage q = 7) ∧
         (t.dev.get .planeRole 4 q ≠ 2 → (d.plane q).cond ∈ [Cond.inReset, .waiting] → (t.dev.plane q).cond = .inReset ∧
           ((d.plane q).clockLost = false → t.dev.stage q = 1))
     ∃ t, exec .hubBoot s = .next t ∧ t.pending = s.pending ∧ (h.awaitBoot = false → nothing t) ∧
       (h.awaitBoot = true → h.running = false → (∀ r ∈ h.jnl, ∀ e ∈ r.vals, e.1.obj ≠ .bootImage) →
         (ok a → runs t a) ∧
         (¬ ok a → ok (1 - a) → runs t (1 - a) ∧ bit (t.dev.get .cause 4 2) 10 = true ∧
           (bit (t.dev.get .cause 4 2) (8 + a) = true ∨ bit (t.dev.get .cause 4 2) 11 = true)) ∧
         (¬ ok a → ¬ ok (1 - a) → t.dev.hub.running = false ∧ t.dev.hub.romStay = true ∧ t.dev.hub.serviceN = false ∧
           t.dev.hub.irqN = true ∧ ∀ q, t.dev.plane q = d.plane q))) ∧
    (∃ t, exec (.refclkLost p) s = .next t ∧ t.pending = s.pending ∧ ((d.plane p).clockLost = true → nothing t) ∧
      ((d.plane p).clockLost = false → (t.dev.plane p).clockLost = true ∧ others t ∧
        (d.live p = true → (t.dev.plane p).cond = .halted ∧ dark t) ∧ (d.live p = false → (t.dev.plane p).cond = (d.plane p).cond) ∧
        (d.hubUp = true → bit (t.dev.get .refclkState 4 0) p = false ∧ bit (t.dev.get .cause 4 0x101) 6 = true))) ∧
    (∃ t, exec (.refclkReturn p) s = .next t ∧ t.pending = s.pending ∧ ((d.plane p).clockLost = false → nothing t) ∧
      ((d.plane p).clockLost = true → (t.dev.plane p).clockLost = false ∧ others t ∧
        (d.hubUp = true → bit (t.dev.get .refclkState 4 0) p = true) ∧
        ((d.plane p).cond = .halted → (t.dev.plane p).cond = (if d.hubUp then .inReset else .waiting) ∧ empty t p ∧
          t.dev.stage p = if d.hubUp then 1 else 0))) ∧
    (∃ t, exec .hubRefclkLost s = .next t ∧ t.pending = s.pending ∧ t.dev.hub.running = false ∧ t.dev.planes = d.planes ∧
      bit (t.dev.get .refclkState 4 0) 4 = false ∧
      ∀ o q i, o.computed = false → ¬ (o = .refclkState ∧ q = 4 ∧ i = 0) → t.dev.get o q i = d.get o q i) ∧
    (∃ t, exec (.supplyCollapse k) s = .next t ∧ t.pending = s.pending ∧ cleared t ∧ t.dev.hub.awaitBoot = false ∧
      (k ≠ .compactAfterHeader → defaults t ∧ t.dev.hub.jnl = h.jnl) ∧
      (k ∈ [JournalStep.step1, .afterStep1, .step2] → t.dev.hub.jnlTorn = h.jnlTorn + 1)) ∧
    (∃ t, exec .vddIoLow s = .next t ∧ t.pending = s.pending ∧ t.dev.irqPin = true ∧ t.dev.servicePin = true ∧ t.dev.thermTripPin = true ∧
      Device.Frame { d with hub := { h with vddIo := false } } t.dev (fun _ _ _ => False)) ∧
    (∃ t, exec .vddIoRestored s = .next t ∧ t.pending = s.pending ∧ t.dev.irqPin = t.dev.hub.irqN ∧ t.dev.servicePin = t.dev.hub.serviceN ∧
      t.dev.thermTripPin = h.thermTripN ∧ Device.Frame { d with hub := { h with vddIo := true } } t.dev (fun _ _ _ => False)) ∧
    (let c := (d.plane p).cond
     let role := d.get .planeRole 4 p % 256
     let again := c = .recovering ∧ (d.plane p).recoveryDue = false ∧ (d.plane p).recoveryInit = false
     ∃ t, exec (.planeInit p st) s = .next t ∧ t.pending = s.pending ∧
       (d.hubUp = false ∨ (d.plane p).clockLost = true ∨ (c ≠ .inReset ∧ ¬ again) → nothing t) ∧
       (d.hubUp = true → (d.plane p).clockLost = false → c = .inReset ∨ again →
         (role = 2 → (t.dev.plane p).cond = .disabled ∧ t.dev.stage p = 7) ∧
         (role ≠ 2 → st.trained = false → (t.dev.plane p).cond = .retired ∧ t.dev.stage p = 6 ∧ bit (t.dev.get .cause p 2) 4 = true) ∧
         (role ≠ 2 → st.trained = true → (∀ e ∈ h.retireLog, e.plane = p.val → e.chan ≠ chan 10 0) →
           (∀ r ∈ h.jnl, ∀ e ∈ r.vals, e.1.plane = 4 ∨ e.1.obj ≠ .retireLog) →
           (t.dev.plane p).cond = (if c = .inReset then .running else .recovering) ∧
           (again → (t.dev.plane p).recoveryInit = true) ∧
           (c = .inReset → 2 ≤ t.dev.stage p ∧ t.dev.stage p ≤ 5 ∧
             ∀ n < 8, t.dev.get .tbState p n = if t.dev.get .tbEnable p n = 1 then 0 else 4))))

/-- R448 to R454, Table 20.4: the AVS set point, rail readings and package power, the operating points, chiplet temperatures, the thermal trip, and the
verification of a written image and the rollback floor. -/
def Obligations.PowerAndFirmware : Prop :=
  ∀ (s : State) (p : Plane) (c : Chip) (busOk : Bool) (l : List RailReading) (tj : Int) (rq : Req),
    let d := s.dev
    let h := d.hub
    let nothing (t : State) := Device.Frame d t.dev (fun _ _ _ => False)
    let power (t : State) (b : Nat) : Prop := bit (t.dev.get .cause 4 0x101) b = true
    let dark (t : State) (q : Nat) : Prop := ∀ n < 128, t.dev.get .portState q n = if (d.port q n).fenced then 6 else 0
    (let asks (q i : Nat) : Prop := q < 4 ∧ i < 96 ∧ (d.plane q).cond ≠ .disabled ∧ (d.plane q).cond ≠ .retired
     let now := d.get .vddCoreMv 4 0
     ∃ t, exec (.avsUpdate busOk) s = .next t ∧ t.pending = s.pending ∧ (d.hubUp = false → nothing t) ∧
       (d.hubUp = true → busOk = false ∨ h.vddIo = false → t.dev.get .vddCoreMv 4 0 = now ∧
         (h.avsFails < 2 → t.dev.hub.avsFails = h.avsFails + 1) ∧ (2 ≤ h.avsFails → power t 1)) ∧
       (d.hubUp = true → busOk = true → h.vddIo = true → t.dev.hub.avsFails = 0 ∧ ∀ m, (∃ q i, asks q i ∧ d.islandMv q i = m) →
         (∀ q i, asks q i → d.islandMv q i ≤ m) →
         let v := min 850 (max 650 (ceilDiv (m + d.get .avsMarginMv 4 0) 5 * 5))
         (now ≤ v → t.dev.get .vddCoreMv 4 0 = v) ∧
         (v < now → h.avsLowSince = none → t.dev.get .vddCoreMv 4 0 = now ∧ t.dev.hub.avsLowSince = some (v, d.clock)) ∧
         (v < now → ∀ u, h.avsLowSince = some (v, u) → t.dev.get .vddCoreMv 4 0 = if u + 1000000000 ≤ d.clock then v else now))) ∧
    (l.length = 8 → ∃ t, exec (.pmbusPoll l) s = .next t ∧ t.pending = s.pending ∧ (d.hubUp = false → nothing t) ∧
      (d.hubUp = true → (∀ r x, l[r]? = some x →
          let nominal := if r = 0 then d.get .vddCoreMv 4 0 else nth [750, 800, 900, 1200, 1100, 1800, 3300, 800] r
          let percent := if r = 0 then 2 else if r = 3 then 5 else 3
          (x.ok = false ∨ h.vddIo = false → power t 2 ∧ t.dev.get .railMv 4 r = d.get .railMv 4 r) ∧
          (x.ok = true → h.vddIo = true → t.dev.get .railMv 4 r = x.mv % 2 ^ 16 ∧ t.dev.get .railMa 4 r = x.ma % 2 ^ 32 ∧
            (nominal * percent < (nominal - x.mv + (x.mv - nominal)) * 100 → power t 0))) ∧
        t.dev.get .pkgPowerW 4 0 =
          min 65535 (total ((List.range 8).map (fun r => t.dev.get .railMv 4 r * t.dev.get .railMa 4 r)) / 1000000))) ∧
    (let w := d.get .pkgPowerW 4 0
     let lim := d.get .powerLimitW 4 0
     let now := d.get .opLevel 4 0
     let enter (n : Nat) : Prop := (n = 1 ∧ (lim ≤ w + 50 ∨ 1000 ≤ tj)) ∨ (n = 2 ∧ (lim ≤ w ∨ 1030 ≤ tj))
     let rises (t : State) (n : Nat) : Prop := t.dev.get .opLevel 4 0 = n ∧ power t (2 + n) ∧
       t.dev.get .throttleEvents 4 0 = min (d.get .throttleEvents 4 0 + 1) (2 ^ 32 - 1)
     ∃ t, exec (.operatingPointChange tj) s = .next t ∧ t.pending = s.pending ∧ (d.hubUp = false → nothing t) ∧
       (d.hubUp = true → t.dev.get .tjMax 4 0 = ofSigned 16 tj ∧
         (now < 2 → enter 2 → rises t 2) ∧ (now < 1 → enter 1 → ¬ enter 2 → rises t 1) ∧
         (now = 2 → ¬ enter 2 → t.dev.get .opLevel 4 0 = if w + 50 < lim ∧ tj < 1000 then 1 else 2) ∧
         (now = 1 → ¬ enter 2 → t.dev.get .opLevel 4 0 = if w + 100 < lim ∧ tj < 970 then 0 else 1))) ∧
    (let temp := octet 16 16 (d.get .chipletTemp 4 0)
     ∃ t, exec (.chipletTemperature p c tj) s = .next t ∧ t.pending = s.pending ∧
       (d.hubUp = true → octet 16 16 (t.dev.get .chipletTemp 4 0) (4 * p + c) = ofSigned 16 tj ∧
         (∀ j < 16, j ≠ 4 * p.val + c.val → octet 16 16 (t.dev.get .chipletTemp 4 0) j = temp j) ∧ (tj < 0 ∨ 850 < tj → power t 5)) ∧
       (d.live p = false ∨ (800 ≤ tj ∧ tj ≤ 950) →
         Device.Frame d t.dev (fun o q i => (o = .chipletTemp ∧ q = 4 ∧ i = 0) ∨ causeRegs 4 0x101 o q i)) ∧
       (d.live p = true → 950 < tj → (∀ k < 32, bit (t.dev.port p (32 * c + k)).holdDown 1 = true ∧
           (bit (d.port p (32 * c + k)).holdDown 1 = false → d.get .portState p (32 * c + k) ≠ 5 →
             t.dev.get .portState p (32 * c + k) = if (d.port p (32 * c + k)).fenced then 6 else 0)) ∧
         ((d.cal p c).round = none → ∀ r < 256, d.get .ringState p (c * 256 + r) ≠ 4 → t.dev.get .ringState p (c * 256 + r) = 0 ∧
           lookNat (t.dev.cal p c).heater r = 0)) ∧
       (d.live p = true → tj < 800 → ∀ k < 32, bit (t.dev.port p (32 * c + k)).holdDown 1 = false)) ∧
    (∃ t, exec .thermalTrip s = .next t ∧ t.pending = s.pending ∧ t.dev.hub.thermTripN = false ∧
      (∀ q < 4, (d.live q = true → (t.dev.plane q).cond = .tripped ∧ dark t q ∧ bit (t.dev.get .cause q 2) 4 = true) ∧
        (d.live q = false → t.dev.plane q = if (d.plane q).cond ∈ [Cond.retired, .disabled] then d.plane q
          else { d.plane q with cond := .tripped })) ∧
      (d.hubUp = true → (d.journal [(⟨.resetReason, 4, 0⟩, 2)]).2 = true → t.dev.hub.tripReason = true)) ∧
    (let may (v : Nat) : Prop := d.romServed rq.ses.val = true ∧ (∀ r ∈ (d.session rq.ses.val).responses, r.id ≠ rq.id.toNat) ∧
       (d.fmMessage rq.ses.val).writeStatus ⟨⟨.fwUpdateCmd, 4, 0⟩, 1, v⟩ rq.ses.val = 0 ∧ d.get .fwUpdateCmd 4 0 ≠ 1
     let k := d.spareImage
     let ok := Config.sha384 (Config.imageKey (d.image k)) = natToBytes 48 (d.get .bootKeyHash 4 0) ∧
       Config.ecdsaVerify (Config.imageKey (d.image k)) (Config.imageBody (d.image k)) (Config.imageSignature (d.image k)) = true ∧
       d.get .rollbackFloor 4 0 ≤ (Config.imageVersion (d.image k)).toNat
     let good := ok ∧ d.journals rq.ses.val [(⟨.bootPref, 4, 0⟩, k)] = true
     let ver := (Config.imageVersion (d.image (d.get .bootImage 4 0))).toNat
     (may 1 → ∃ t, exec (.fwVerify rq) s = .next t ∧ t.pending = s.pending ∧ t.dev.Answered rq 0 ∧
       (good → t.dev.get .fwUpdateCmd 4 0 = 2 ∧ t.dev.get .bootPref 4 0 = k % 256 ∧ bit (t.dev.get .cause 4 2) 13 = true) ∧
       (¬ good → t.dev.get .fwUpdateCmd 4 0 = 3 ∧ bit (t.dev.get .cause 4 2) 12 = true)) ∧
     (may 2 → ∃ t, exec (.rollbackFloorRaise rq) s = .next t ∧ t.pending = s.pending ∧ t.dev.Answered rq 0 ∧
       (h.running = true → t.dev.get .fwUpdateCmd 4 0 = 2 ∧ t.dev.get .rollbackFloor 4 0 = max (d.get .rollbackFloor 4 0) ver % 2 ^ 32) ∧
       (h.running = false → t.dev.get .fwUpdateCmd 4 0 = 3 ∧ t.dev.get .rollbackFloor 4 0 = d.get .rollbackFloor 4 0)))

/-! ### The machine as a whole -/

/-- A step runs the command at the front of the queue with the queue's rest; on an empty queue one nanosecond passes (the model's
choice, assumption log 2). No row of the table spells a command in bits, so a word puts none into the queue. -/
def Obligations.StepTakesTheFront : Prop :=
  ∀ (c : Instr) (s : State) (rest : List Instr) (nbits w : Nat),
    step { s with pending := c :: rest } = exec c { s with pending := rest } ∧
    step { s with pending := [] } = .next { dev := { s.dev with clock := s.dev.clock + 1 }, pending := [] } ∧
    Sys2Proof.decodeTableWord nbits w = none ∧ s.withFetchWord nbits w = s

/-- From every state, a step takes exactly one command off the queue and answers a next state, unless the command is a reset pulse whose
outcome the manual does not define (R477). The next state keeps the register file in its one canonical form, with every register
within its width, and takes back nothing that has left the device. -/
def Obligations.EveryStepKeepsTheRegisters : Prop :=
  ∀ s : State,
    (∃ t, step s = .next t ∧ t.pending = s.pending.tail ∧ (∃ l, t.dev.out = s.dev.out ++ l) ∧
      (s.dev.RegsWf = true → t.dev.RegsWf = true)) ∨
    (step s = .fault .resetPulseUndefined ∧ s.dev.hub.vddIo = true ∧ ∃ low, 100 < low ∧
      ((s.pending.head? = some (.poreset low) ∧ low < 1000000) ∨ ∃ p, s.pending.head? = some (.planeRst p low) ∧ low < 10000))

/-- Right after power-good no command waits, the hub has not booted, every plane is in reset, nothing is stored or under way, the open-drain
pins are released, and every register of the dictionary holds its table's default, so the invariant of the register file holds.
Where the tables give no default the register holds what assumption log 5 names. -/
def Obligations.ResetLeavesTheDefaults : Prop :=
  let d := State.reset.dev
  State.reset.pending = [] ∧ d.RegsWf = true ∧ d.hub.running = false ∧ d.hub.awaitBoot = true ∧
    d.irqPin = true ∧ d.servicePin = true ∧ d.thermTripPin = true ∧ d.frames = [] ∧ d.copies = [] ∧ d.sessions = [] ∧ d.out = [] ∧
    (∀ p, (d.plane p).cond = .inReset ∧ d.stage p = 0) ∧ (∀ o p i, d.get o p i = o.dflt i) ∧
    d.get .powerLimitW 4 0 = 1900 ∧ d.get .vddCoreMv 4 0 = 750 ∧ d.get .avsMarginMv 4 0 = 10 ∧ d.get .resetReason 4 0 = 1 ∧
    d.get .bootPref 4 0 = 0 ∧ (∀ p n, d.get .keyLimitLog2 p n = 40) ∧ ∀ p, d.get .poolSizeGib p 2 = 16 ∧ d.get .poolSizeGib p 4 = 41

/-- R34: a write to `port_partition` of a fabric or long-haul port is taken while the port is fenced or administratively down; any
other is refused and leaves the object as it was. Administratively down is a port whose `port_admin` or `lh_admin` reads 0, as the
`lh_admin` of a plane outside the gateway role does (R12). -/
def Obligations.PortPartitionWrites : Prop :=
  ∀ (s : State) (p : Plane) (n : Port) (l : Lh) (rq : Req) (v : Bytes),
    let write (sub : Nat) : Instr := .write rq (BitVec.ofNat 16 (0x1410 + p)) (BitVec.ofNat 8 sub) v
    let passes (o : Obj) (i : Nat) : Prop := (s.dev.fmMessage rq.ses.val).writeStatus ⟨⟨o, p, i⟩, v.length, bytesToNat v⟩ rq.ses.val = 0
    let kept (o : Obj) (i : Nat) : Prop := s.dev.journals rq.ses.val [(⟨o, p, i⟩, bytesToNat v)] = true
    s.dev.takes rq = true →
      (∃ t, exec (write (1 + n)) s = .next t ∧ t.pending = s.pending ∧
        ((s.dev.port p n).fenced = true ∨ s.dev.get .portAdmin p n = 0 → passes .portPartition n → kept .portPartition n →
          t.dev.Answered rq 0 ∧ t.dev.get .portPartition p n = bytesToNat v) ∧
        (¬ ((s.dev.port p n).fenced = true ∨ s.dev.get .portAdmin p n = 0) →
          (∃ st, st ≠ 0 ∧ t.dev.Answered rq st) ∧ t.dev.get .portPartition p n = s.dev.get .portPartition p n)) ∧
      ∃ t, exec (write (0x81 + l)) s = .next t ∧ t.pending = s.pending ∧
        (bit (s.dev.get .fencedLongHaul p 0) l = true ∨ s.dev.readReg .lhAdmin p l = 0 → passes .lhPortPartition l → kept .lhPortPartition l →
          t.dev.Answered rq 0 ∧ t.dev.get .lhPortPartition p l = bytesToNat v) ∧
        (¬ (bit (s.dev.get .fencedLongHaul p 0) l = true ∨ s.dev.readReg .lhAdmin p l = 0) →
          (∃ st, st ≠ 0 ∧ t.dev.Answered rq st) ∧ t.dev.get .lhPortPartition p l = s.dev.get .lhPortPartition p l)

/-- R444: a plane released from reset while the hub does not answer waits, its ports DOWN and its long-haul links off, and PLANE_INIT does
nothing to it; when the hub answers, after a boot or a silence, it initialises. -/
def Obligations.PlaneWaitsForTheHub : Prop :=
  ∀ (s : State) (p : Plane) (low : Nat) (st : InitReport), s.dev.hubUp = false →
    let waits (x : State) : Prop := (x.dev.plane p).cond = .waiting
    let starts (t : State) : Prop := (t.dev.plane p).cond = .inReset ∧ ((s.dev.plane p).clockLost = false → t.dev.stage p = 1 ∧
      ∃ u, exec (.planeInit p st) t = .next u ∧ (u.dev.plane p).cond ∈ [Cond.running, .retired, .disabled])
    (s.dev.hub.vddIo = true → 10000 ≤ low → ∃ t, exec (.planeRst p low) s = .next t ∧ waits t ∧ (∀ n, t.dev.get .portState p n = 0) ∧
      (∀ l, t.dev.get .lhState p l = 0) ∧ ∀ e ∈ t.dev.copies, e.1.1 ≠ p.val) ∧
    (waits s → ∃ t, exec (.planeInit p st) s = .next t ∧ waits t ∧ Device.Frame s.dev t.dev (fun _ _ _ => False)) ∧
    (waits s → s.dev.hub.running = true → ∃ t, exec (.hubReturn p) s = .next t ∧ starts t) ∧
    (waits s → ∃ t, exec .hubBoot s = .next t ∧ (t.dev.hubUp = true → t.dev.get .planeRole 4 p ≠ 2 → starts t))

/-- R477: from every state every command answers a next state, in which the commands that wait are the same and nothing that had left the
device is taken back, unless it is a reset pulse on a powered pin that is longer than 100 ns and shorter than its minimum: of that one
the manual defines no outcome, and it stops by name. No command is refused. -/
def Obligations.EveryCommandCompletes : Prop :=
  ∀ (c : Instr) (s : State),
    let undefinedPulse := s.dev.hub.vddIo = true ∧ ∃ low, 100 < low ∧
      ((c = .poreset low ∧ low < 1000000) ∨ ∃ p, c = .planeRst p low ∧ low < 10000)
    (¬ undefinedPulse → ∃ t, exec c s = .next t ∧ t.pending = s.pending ∧ ∃ l, t.dev.out = s.dev.out ++ l) ∧
    (undefinedPulse → exec c s = .fault .resetPulseUndefined)

/-- R39: on a fabric port a frame lies between a start block with the start-of-frame delimiter 0xD5 and a terminate block, and idle blocks fill
the time between frames. So a receiver finds in a stream exactly the frames that were laid into it, in order, however many idle blocks
stand before each and whatever stood before; it finds them in what a port has sent; and a start block with another delimiter starts none. -/
def Obligations.LineCoding : Prop :=
  ∀ (d : Device) (p n : Nat) (l : List (Nat × Sys2Proof.Frame)) (idle : Nat → Nat) (cur : Option Bytes) (x : Byte) (b : Bytes),
    let whole (f : Sys2Proof.Frame) : Prop := f.payload = [] → f.trailer = 0
    ((∀ y ∈ l, whole y.2) → lineFrames cur (lineOf l) = l.map (·.2)) ∧
    ((∀ f ∈ d.sentOn p n, whole f) → lineFrames cur (d.portLine p n idle) = d.sentOn p n) ∧
    (∀ f k, (lineOf [(k, f)]).take (k + 1) = List.replicate k .idle ++ [.start 0xD5]) ∧
    (x ≠ 0xD5 → lineFrames cur (.start x :: dataBlocks b) = [])
end

