-- ==== Sys2Proof/Laws/Bits.lean ====
section
/-! SUPPORT. Laws of the bit operations. -/

namespace Sys2Proof.Machine

theorem bit_eq_testBit (v i : Nat) : bit v i = v.testBit i := by
  simp only [bit, Nat.testBit_eq_decide_div_mod_eq]

/-- Adding a bit that is not set sets it. -/
theorem testBit_add_two_pow (v i j : Nat) (h : v.testBit i = false) :
    (v + 2 ^ i).testBit j = (v.testBit j || decide (i = j)) := by
  have hr : v % 2 ^ i < 2 ^ i := Nat.mod_lt _ (by positivity)
  have hv : v = 2 ^ i * (v / 2 ^ i) + v % 2 ^ i := (Nat.div_add_mod v (2 ^ i)).symm
  have he : v / 2 ^ i % 2 = 0 := by
    rw [Nat.testBit_eq_decide_div_mod_eq] at h
    have := of_decide_eq_false h
    omega
  have hw : v + 2 ^ i = 2 ^ i * (v / 2 ^ i + 1) + v % 2 ^ i := by rw [Nat.mul_add]; omega
  rw [hw, Nat.testBit_two_pow_mul_add _ hr]
  conv_rhs => rw [hv, Nat.testBit_two_pow_mul_add _ hr]
  by_cases hj : j < i
  · have : i ≠ j := by omega
    simp [hj, this]
  · by_cases e : i = j
    · subst e
      simp only [lt_irrefl, if_false, Nat.sub_self, decide_true, Bool.or_true]
      rw [Nat.testBit_eq_decide_div_mod_eq]
      simp; omega
    · simp only [hj, if_false, e, decide_false, Bool.or_false]
      obtain ⟨k, hk⟩ : ∃ k, j - i = k + 1 := ⟨j - i - 1, by omega⟩
      rw [hk, Nat.testBit_add_one, Nat.testBit_add_one]
      congr 1
      omega

theorem bit_setBit (v i j : Nat) : bit (setBit v i) j = (bit v j || decide (i = j)) := by
  unfold setBit
  split
  · rename_i h
    by_cases e : i = j
    · subst e; simp [h]
    · simp [e]
  · rename_i h
    have h0 : v.testBit i = false := by simpa [bit_eq_testBit] using h
    rw [bit_eq_testBit, bit_eq_testBit, testBit_add_two_pow v i j h0]

@[simp] theorem bit_setBit_same (v i : Nat) : bit (setBit v i) i = true := by simp [bit_setBit]

theorem bit_mod (v n i : Nat) (h : i < n) : bit (v % 2 ^ n) i = bit v i := by
  simp [bit_eq_testBit, Nat.testBit_mod_two_pow, h]

@[simp] theorem bit_zero (i : Nat) : bit 0 i = false := by simp [bit]

theorem setBit_of_bit (v i : Nat) (h : bit v i = true) : setBit v i = v := by simp [setBit, h]

theorem setBit_lt (v i n : Nat) (hv : v < 2 ^ n) (hi : i < n) : setBit v i < 2 ^ n := by
  apply Nat.lt_pow_two_of_testBit
  intro k hk
  rw [← bit_eq_testBit, bit_setBit, bit_eq_testBit, Nat.testBit_lt_two_pow (lt_of_lt_of_le hv (Nat.pow_le_pow_right (by omega) hk))]
  have : i ≠ k := by omega
  simp [this]

theorem bit_andNot (n v m i : Nat) : bit (andNot n v m) i = (decide (i < n) && bit v i && !bit m i) := by
  simp only [bit_eq_testBit, andNot, BitVec.toNat_and, BitVec.toNat_not, Nat.testBit_and, BitVec.toNat_ofNat,
    Nat.testBit_mod_two_pow]
  by_cases h : i < n
  · have hm : m % 2 ^ n < 2 ^ n := Nat.mod_lt _ (by positivity)
    rw [show 2 ^ n - 1 - m % 2 ^ n = 2 ^ n - (m % 2 ^ n + 1) by omega, Nat.testBit_two_pow_sub_succ hm]
    simp [h, Nat.testBit_mod_two_pow]
  · simp [h]

theorem fld_lt (v lo w : Nat) : fld v lo w < 2 ^ w := Nat.mod_lt _ (by positivity)

end Sys2Proof.Machine
end

