-- ==== Sys2Proof/Laws/Tbl.lean ====
section
/-! SUPPORT. Laws of tables: a read after a write, and the canonical form that every write keeps. -/

namespace Sys2Proof.Machine

variable {κ β : Type} [DecidableEq κ] [DecidableEq β]

omit [DecidableEq β] in
@[simp] theorem Tbl.get_nil (k : κ) (z : β) : Tbl.get ([] : List (κ × β)) k z = z := rfl

omit [DecidableEq β] in
theorem Tbl.get_erase (t : List (κ × β)) (k j : κ) (z : β) :
    Tbl.get (Tbl.erase t k) j z = if j = k then z else Tbl.get t j z := by
  induction t with
  | nil => simp [Tbl.erase]
  | cons e r ih =>
    obtain ⟨a, v⟩ := e
    by_cases h : a = k
    · have h1 : Tbl.erase ((a, v) :: r) k = Tbl.erase r k := by simp [Tbl.erase, h]
      rw [h1, ih]
      by_cases hj : j = k
      · simp [hj]
      · have : ¬ a = j := fun e => hj (e ▸ h)
        simp [hj, Tbl.get, this]
    · have h1 : Tbl.erase ((a, v) :: r) k = (a, v) :: Tbl.erase r k := by simp [Tbl.erase, h]
      rw [h1]
      by_cases hj : a = j
      · subst hj; simp [Tbl.get, h]
      · simp [Tbl.get, hj, ih]

omit [DecidableEq β] in
theorem Tbl.get_ins (lt : κ → κ → Bool) (k j : κ) (v z : β) (t : List (κ × β)) (hk : ∀ e ∈ t, e.1 ≠ k) :
    Tbl.get (Tbl.ins lt k v t) j z = if j = k then v else Tbl.get t j z := by
  induction t with
  | nil => simp [Tbl.ins, Tbl.get, eq_comm]
  | cons e r ih =>
    obtain ⟨a, w⟩ := e
    have ha : a ≠ k := hk (a, w) (by simp)
    have hr := ih (fun e he => hk e (by simp [he]))
    by_cases hl : lt k a = true
    · simp [Tbl.ins, hl, Tbl.get, eq_comm]
    · simp only [Tbl.ins, hl, Tbl.get]
      by_cases hj : a = j
      · subst hj; simp [ha, Tbl.get]
      · simpa [hj, Tbl.get] using hr

omit [DecidableEq β] in
theorem Tbl.mem_erase_ne (t : List (κ × β)) (k : κ) : ∀ e ∈ Tbl.erase t k, e.1 ≠ k := by
  intro e he
  simpa [Tbl.erase] using (List.mem_filter.mp he).2

/-- A read after a write. -/
theorem Tbl.get_put (lt : κ → κ → Bool) (t : List (κ × β)) (k j : κ) (v z : β) :
    Tbl.get (Tbl.put lt t k v z) j z = if j = k then v else Tbl.get t j z := by
  unfold Tbl.put
  split
  · rename_i h; rw [Tbl.get_erase]; split <;> simp_all
  · rw [Tbl.get_ins lt k j v z _ (Tbl.mem_erase_ne t k)]
    split
    · rfl
    · rename_i hj; simp [Tbl.get_erase, hj]

/-- The same where the default read with belongs to another key. -/
theorem Tbl.get_put_ne (lt : κ → κ → Bool) (t : List (κ × β)) (k j : κ) (v z z' : β) (h : j ≠ k) :
    Tbl.get (Tbl.put lt t k v z) j z' = Tbl.get t j z' := by
  unfold Tbl.put
  split
  · simp [Tbl.get_erase, h]
  · rw [Tbl.get_ins lt k j v z' _ (Tbl.mem_erase_ne t k)]; simp [h, Tbl.get_erase]

/-- What a table needs of the order of its keys. -/
structure Tbl.Order (lt : κ → κ → Bool) : Prop where
  trans : ∀ a b c, lt a b = true → lt b c = true → lt a c = true
  total : ∀ a b, a ≠ b → lt a b = false → lt b a = true

theorem Tbl.wf_erase (lt : κ → κ → Bool) (z : κ → β) (t : List (κ × β)) (k : κ) (h : Tbl.wf lt z t = true) :
    Tbl.wf lt z (Tbl.erase t k) = true := by
  induction t with
  | nil => simpa [Tbl.erase] using h
  | cons e r ih =>
    obtain ⟨a, v⟩ := e
    simp only [Tbl.wf, Bool.and_eq_true, List.all_eq_true] at h
    by_cases ha : a = k
    · have h1 : Tbl.erase ((a, v) :: r) k = Tbl.erase r k := by simp [Tbl.erase, ha]
      rw [h1]; exact ih h.2
    · have h1 : Tbl.erase ((a, v) :: r) k = (a, v) :: Tbl.erase r k := by simp [Tbl.erase, ha]
      rw [h1]
      simp only [Tbl.wf, Bool.and_eq_true, List.all_eq_true]
      exact ⟨⟨h.1.1, fun x hx => h.1.2 x (List.mem_filter.mp hx).1⟩, ih h.2⟩

omit [DecidableEq κ] [DecidableEq β] in
theorem Tbl.mem_ins (lt : κ → κ → Bool) (k : κ) (v : β) (t : List (κ × β)) (x : κ × β) :
    x ∈ Tbl.ins lt k v t → x = (k, v) ∨ x ∈ t := by
  induction t with
  | nil => simp [Tbl.ins]
  | cons e r ih =>
    intro h
    simp only [Tbl.ins] at h
    split at h
    · simpa using h
    · rcases List.mem_cons.mp h with h | h
      · exact Or.inr (by simp [h])
      · rcases ih h with h | h
        · exact Or.inl h
        · exact Or.inr (by simp [h])

omit [DecidableEq κ] in
theorem Tbl.wf_ins {lt : κ → κ → Bool} (ho : Tbl.Order lt) (z : κ → β) (t : List (κ × β)) (k : κ) (v : β)
    (h : Tbl.wf lt z t = true) (hk : ∀ e ∈ t, e.1 ≠ k) (hv : v ≠ z k) : Tbl.wf lt z (Tbl.ins lt k v t) = true := by
  induction t with
  | nil => simp [Tbl.ins, Tbl.wf, hv]
  | cons e r ih =>
    obtain ⟨a, w⟩ := e
    have ha : a ≠ k := hk (a, w) (by simp)
    simp only [Tbl.wf, Bool.and_eq_true, List.all_eq_true] at h
    by_cases hl : lt k a = true
    · simp only [Tbl.ins, hl, if_true, Tbl.wf, Bool.and_eq_true, List.all_eq_true, List.mem_cons]
      refine ⟨⟨by simp [hv], ?_⟩, h⟩
      rintro x (rfl | hx)
      · exact hl
      · exact ho.trans _ _ _ hl (h.1.2 x hx)
    · have hl' : lt k a = false := by simpa using hl
      simp only [Tbl.ins, hl', Bool.false_eq_true, if_false, Tbl.wf, Bool.and_eq_true, List.all_eq_true]
      refine ⟨⟨h.1.1, ?_⟩, ih h.2 (fun e he => hk e (by simp [he]))⟩
      intro x hx
      rcases Tbl.mem_ins lt k v r x hx with rfl | hx
      · exact ho.total _ _ (Ne.symm ha) hl'
      · exact h.1.2 x hx

/-- A write keeps the canonical form. -/
theorem Tbl.wf_put {lt : κ → κ → Bool} (ho : Tbl.Order lt) (z : κ → β) (t : List (κ × β)) (k : κ) (v : β)
    (h : Tbl.wf lt z t = true) : Tbl.wf lt z (Tbl.put lt t k v (z k)) = true := by
  unfold Tbl.put
  split
  · exact Tbl.wf_erase lt z t k h
  · rename_i hv
    exact Tbl.wf_ins ho z _ k v (Tbl.wf_erase lt z t k h) (Tbl.mem_erase_ne t k) hv

omit [DecidableEq κ] in
/-- Taking entries away keeps the canonical form. -/
theorem Tbl.wf_filter (lt : κ → κ → Bool) (z : κ → β) (t : List (κ × β)) (f : κ × β → Bool) (h : Tbl.wf lt z t = true) :
    Tbl.wf lt z (t.filter f) = true := by
  induction t with
  | nil => rfl
  | cons e r ih =>
    obtain ⟨a, v⟩ := e
    simp only [Tbl.wf, Bool.and_eq_true, List.all_eq_true] at h
    by_cases ha : f (a, v) = true
    · rw [List.filter_cons_of_pos ha]
      simp only [Tbl.wf, Bool.and_eq_true, List.all_eq_true]
      exact ⟨⟨h.1.1, fun x hx => h.1.2 x (List.mem_filter.mp hx).1⟩, ih h.2⟩
    · rw [List.filter_cons_of_neg ha]; exact ih h.2

end Sys2Proof.Machine
end

