-- ==== Sys2Proof/Laws/State.lean ====
section
/-! SUPPORT. The updates of the device's state field by field, so that no proof unfolds a record update: an update of one field
leaves every other one; and each table reads as it was written. -/

namespace Sys2Proof.Machine

variable (d : Device)

/-! ### `set` -/
@[simp] theorem Device.sat_set (o : Obj) (p i v : Nat) : (d.set o p i v).sat = d.sat := rfl
@[simp] theorem Device.domains_set (o : Obj) (p i v : Nat) : (d.set o p i v).domains = d.domains := rfl
@[simp] theorem Device.clock_set (o : Obj) (p i v : Nat) : (d.set o p i v).clock = d.clock := rfl
@[simp] theorem Device.freeCtr_set (o : Obj) (p i v : Nat) : (d.set o p i v).freeCtr = d.freeCtr := rfl
@[simp] theorem Device.nextId_set (o : Obj) (p i v : Nat) : (d.set o p i v).nextId = d.nextId := rfl
@[simp] theorem Device.out_set (o : Obj) (p i v : Nat) : (d.set o p i v).out = d.out := rfl
@[simp] theorem Device.inbox_set (o : Obj) (p i v : Nat) : (d.set o p i v).inbox = d.inbox := rfl
@[simp] theorem Device.hub_set (o : Obj) (p i v : Nat) : (d.set o p i v).hub = d.hub := rfl
@[simp] theorem Device.planes_set (o : Obj) (p i v : Nat) : (d.set o p i v).planes = d.planes := rfl
@[simp] theorem Device.sessions_set (o : Obj) (p i v : Nat) : (d.set o p i v).sessions = d.sessions := rfl
@[simp] theorem Device.ports_set (o : Obj) (p i v : Nat) : (d.set o p i v).ports = d.ports := rfl
@[simp] theorem Device.frames_set (o : Obj) (p i v : Nat) : (d.set o p i v).frames = d.frames := rfl
@[simp] theorem Device.copies_set (o : Obj) (p i v : Nat) : (d.set o p i v).copies = d.copies := rfl
@[simp] theorem Device.flows_set (o : Obj) (p i v : Nat) : (d.set o p i v).flows = d.flows := rfl
@[simp] theorem Device.waitIn_set (o : Obj) (p i v : Nat) : (d.set o p i v).waitIn = d.waitIn := rfl
@[simp] theorem Device.rows_set (o : Obj) (p i v : Nat) : (d.set o p i v).rows = d.rows := rfl
@[simp] theorem Device.lfsr_set (o : Obj) (p i v : Nat) : (d.set o p i v).lfsr = d.lfsr := rfl
@[simp] theorem Device.spray_set (o : Obj) (p i v : Nat) : (d.set o p i v).spray = d.spray := rfl
@[simp] theorem Device.pools_set (o : Obj) (p i v : Nat) : (d.set o p i v).pools = d.pools := rfl
@[simp] theorem Device.outs_set (o : Obj) (p i v : Nat) : (d.set o p i v).outs = d.outs := rfl
@[simp] theorem Device.tqs_set (o : Obj) (p i v : Nat) : (d.set o p i v).tqs = d.tqs := rfl
@[simp] theorem Device.tbs_set (o : Obj) (p i v : Nat) : (d.set o p i v).tbs = d.tbs := rfl
@[simp] theorem Device.pds_set (o : Obj) (p i v : Nat) : (d.set o p i v).pds = d.pds := rfl
@[simp] theorem Device.rctxs_set (o : Obj) (p i v : Nat) : (d.set o p i v).rctxs = d.rctxs := rfl
@[simp] theorem Device.slots_set (o : Obj) (p i v : Nat) : (d.set o p i v).slots = d.slots := rfl
@[simp] theorem Device.notifies_set (o : Obj) (p i v : Nat) : (d.set o p i v).notifies = d.notifies := rfl
@[simp] theorem Device.cctxs_set (o : Obj) (p i v : Nat) : (d.set o p i v).cctxs = d.cctxs := rfl
@[simp] theorem Device.chans_set (o : Obj) (p i v : Nat) : (d.set o p i v).chans = d.chans := rfl
@[simp] theorem Device.cals_set (o : Obj) (p i v : Nat) : (d.set o p i v).cals = d.cals := rfl
@[simp] theorem Device.links_set (o : Obj) (p i v : Nat) : (d.set o p i v).links = d.links := rfl
@[simp] theorem Device.tethers_set (o : Obj) (p i v : Nat) : (d.set o p i v).tethers = d.tethers := rfl
@[simp] theorem Device.tribs_set (o : Obj) (p i v : Nat) : (d.set o p i v).tribs = d.tribs := rfl
@[simp] theorem Device.masters_set (o : Obj) (p i v : Nat) : (d.set o p i v).masters = d.masters := rfl
@[simp] theorem Device.tkeys_set (o : Obj) (p i v : Nat) : (d.set o p i v).tkeys = d.tkeys := rfl
@[simp] theorem Device.keys_set (o : Obj) (p i v : Nat) : (d.set o p i v).keys = d.keys := rfl
@[simp] theorem Device.rgns_set (o : Obj) (p i v : Nat) : (d.set o p i v).rgns = d.rgns := rfl
@[simp] theorem Device.bists_set (o : Obj) (p i v : Nat) : (d.set o p i v).bists = d.bists := rfl
@[simp] theorem Device.stands_set (o : Obj) (p i v : Nat) : (d.set o p i v).stands = d.stands := rfl
@[simp] theorem Device.mons_set (o : Obj) (p i v : Nat) : (d.set o p i v).mons = d.mons := rfl
@[simp] theorem Device.copiesSc_set (o : Obj) (p i v : Nat) : (d.set o p i v).copiesSc = d.copiesSc := rfl
@[simp] theorem Device.snap_set (o : Obj) (p i v : Nat) : (d.set o p i v).snap = d.snap := rfl
/-! ### `setDomain` -/
@[simp] theorem Device.regs_setDomain (o : Obj) (p i : Nat) (v : Bytes) : (d.setDomain o p i v).regs = d.regs := rfl
@[simp] theorem Device.sat_setDomain (o : Obj) (p i : Nat) (v : Bytes) : (d.setDomain o p i v).sat = d.sat := rfl
@[simp] theorem Device.clock_setDomain (o : Obj) (p i : Nat) (v : Bytes) : (d.setDomain o p i v).clock = d.clock := rfl
@[simp] theorem Device.freeCtr_setDomain (o : Obj) (p i : Nat) (v : Bytes) : (d.setDomain o p i v).freeCtr = d.freeCtr := rfl
@[simp] theorem Device.nextId_setDomain (o : Obj) (p i : Nat) (v : Bytes) : (d.setDomain o p i v).nextId = d.nextId := rfl
@[simp] theorem Device.out_setDomain (o : Obj) (p i : Nat) (v : Bytes) : (d.setDomain o p i v).out = d.out := rfl
@[simp] theorem Device.inbox_setDomain (o : Obj) (p i : Nat) (v : Bytes) : (d.setDomain o p i v).inbox = d.inbox := rfl
@[simp] theorem Device.hub_setDomain (o : Obj) (p i : Nat) (v : Bytes) : (d.setDomain o p i v).hub = d.hub := rfl
@[simp] theorem Device.planes_setDomain (o : Obj) (p i : Nat) (v : Bytes) : (d.setDomain o p i v).planes = d.planes := rfl
@[simp] theorem Device.sessions_setDomain (o : Obj) (p i : Nat) (v : Bytes) : (d.setDomain o p i v).sessions = d.sessions := rfl
@[simp] theorem Device.ports_setDomain (o : Obj) (p i : Nat) (v : Bytes) : (d.setDomain o p i v).ports = d.ports := rfl
@[simp] theorem Device.frames_setDomain (o : Obj) (p i : Nat) (v : Bytes) : (d.setDomain o p i v).frames = d.frames := rfl
@[simp] theorem Device.copies_setDomain (o : Obj) (p i : Nat) (v : Bytes) : (d.setDomain o p i v).copies = d.copies := rfl
@[simp] theorem Device.flows_setDomain (o : Obj) (p i : Nat) (v : Bytes) : (d.setDomain o p i v).flows = d.flows := rfl
@[simp] theorem Device.waitIn_setDomain (o : Obj) (p i : Nat) (v : Bytes) : (d.setDomain o p i v).waitIn = d.waitIn := rfl
@[simp] theorem Device.rows_setDomain (o : Obj) (p i : Nat) (v : Bytes) : (d.setDomain o p i v).rows = d.rows := rfl
@[simp] theorem Device.lfsr_setDomain (o : Obj) (p i : Nat) (v : Bytes) : (d.setDomain o p i v).lfsr = d.lfsr := rfl
@[simp] theorem Device.spray_setDomain (o : Obj) (p i : Nat) (v : Bytes) : (d.setDomain o p i v).spray = d.spray := rfl
@[simp] theorem Device.pools_setDomain (o : Obj) (p i : Nat) (v : Bytes) : (d.setDomain o p i v).pools = d.pools := rfl
@[simp] theorem Device.outs_setDomain (o : Obj) (p i : Nat) (v : Bytes) : (d.setDomain o p i v).outs = d.outs := rfl
@[simp] theorem Device.tqs_setDomain (o : Obj) (p i : Nat) (v : Bytes) : (d.setDomain o p i v).tqs = d.tqs := rfl
@[simp] theorem Device.tbs_setDomain (o : Obj) (p i : Nat) (v : Bytes) : (d.setDomain o p i v).tbs = d.tbs := rfl
@[simp] theorem Device.pds_setDomain (o : Obj) (p i : Nat) (v : Bytes) : (d.setDomain o p i v).pds = d.pds := rfl
@[simp] theorem Device.rctxs_setDomain (o : Obj) (p i : Nat) (v : Bytes) : (d.setDomain o p i v).rctxs = d.rctxs := rfl
@[simp] theorem Device.slots_setDomain (o : Obj) (p i : Nat) (v : Bytes) : (d.setDomain o p i v).slots = d.slots := rfl
@[simp] theorem Device.notifies_setDomain (o : Obj) (p i : Nat) (v : Bytes) : (d.setDomain o p i v).notifies = d.notifies := rfl
@[simp] theorem Device.cctxs_setDomain (o : Obj) (p i : Nat) (v : Bytes) : (d.setDomain o p i v).cctxs = d.cctxs := rfl
@[simp] theorem Device.chans_setDomain (o : Obj) (p i : Nat) (v : Bytes) : (d.setDomain o p i v).chans = d.chans := rfl
@[simp] theorem Device.cals_setDomain (o : Obj) (p i : Nat) (v : Bytes) : (d.setDomain o p i v).cals = d.cals := rfl
@[simp] theorem Device.links_setDomain (o : Obj) (p i : Nat) (v : Bytes) : (d.setDomain o p i v).links = d.links := rfl
@[simp] theorem Device.tethers_setDomain (o : Obj) (p i : Nat) (v : Bytes) : (d.setDomain o p i v).tethers = d.tethers := rfl
@[simp] theorem Device.tribs_setDomain (o : Obj) (p i : Nat) (v : Bytes) : (d.setDomain o p i v).tribs = d.tribs := rfl
@[simp] theorem Device.masters_setDomain (o : Obj) (p i : Nat) (v : Bytes) : (d.setDomain o p i v).masters = d.masters := rfl
@[simp] theorem Device.tkeys_setDomain (o : Obj) (p i : Nat) (v : Bytes) : (d.setDomain o p i v).tkeys = d.tkeys := rfl
@[simp] theorem Device.keys_setDomain (o : Obj) (p i : Nat) (v : Bytes) : (d.setDomain o p i v).keys = d.keys := rfl
@[simp] theorem Device.rgns_setDomain (o : Obj) (p i : Nat) (v : Bytes) : (d.setDomain o p i v).rgns = d.rgns := rfl
@[simp] theorem Device.bists_setDomain (o : Obj) (p i : Nat) (v : Bytes) : (d.setDomain o p i v).bists = d.bists := rfl
@[simp] theorem Device.stands_setDomain (o : Obj) (p i : Nat) (v : Bytes) : (d.setDomain o p i v).stands = d.stands := rfl
@[simp] theorem Device.mons_setDomain (o : Obj) (p i : Nat) (v : Bytes) : (d.setDomain o p i v).mons = d.mons := rfl
@[simp] theorem Device.copiesSc_setDomain (o : Obj) (p i : Nat) (v : Bytes) : (d.setDomain o p i v).copiesSc = d.copiesSc := rfl
@[simp] theorem Device.snap_setDomain (o : Obj) (p i : Nat) (v : Bytes) : (d.setDomain o p i v).snap = d.snap := rfl
@[simp] theorem Device.get_setDomain (o : Obj) (p i : Nat) (v : Bytes) (o' : Obj) (p' i' : Nat) : (d.setDomain o p i v).get o' p' i' = d.get o' p' i' := rfl
/-! ### `setPlane` -/
@[simp] theorem Device.regs_setPlane (p : Nat) (v : PlaneSt) : (d.setPlane p v).regs = d.regs := rfl
@[simp] theorem Device.sat_setPlane (p : Nat) (v : PlaneSt) : (d.setPlane p v).sat = d.sat := rfl
@[simp] theorem Device.domains_setPlane (p : Nat) (v : PlaneSt) : (d.setPlane p v).domains = d.domains := rfl
@[simp] theorem Device.clock_setPlane (p : Nat) (v : PlaneSt) : (d.setPlane p v).clock = d.clock := rfl
@[simp] theorem Device.freeCtr_setPlane (p : Nat) (v : PlaneSt) : (d.setPlane p v).freeCtr = d.freeCtr := rfl
@[simp] theorem Device.nextId_setPlane (p : Nat) (v : PlaneSt) : (d.setPlane p v).nextId = d.nextId := rfl
@[simp] theorem Device.out_setPlane (p : Nat) (v : PlaneSt) : (d.setPlane p v).out = d.out := rfl
@[simp] theorem Device.inbox_setPlane (p : Nat) (v : PlaneSt) : (d.setPlane p v).inbox = d.inbox := rfl
@[simp] theorem Device.hub_setPlane (p : Nat) (v : PlaneSt) : (d.setPlane p v).hub = d.hub := rfl
@[simp] theorem Device.sessions_setPlane (p : Nat) (v : PlaneSt) : (d.setPlane p v).sessions = d.sessions := rfl
@[simp] theorem Device.ports_setPlane (p : Nat) (v : PlaneSt) : (d.setPlane p v).ports = d.ports := rfl
@[simp] theorem Device.frames_setPlane (p : Nat) (v : PlaneSt) : (d.setPlane p v).frames = d.frames := rfl
@[simp] theorem Device.copies_setPlane (p : Nat) (v : PlaneSt) : (d.setPlane p v).copies = d.copies := rfl
@[simp] theorem Device.flows_setPlane (p : Nat) (v : PlaneSt) : (d.setPlane p v).flows = d.flows := rfl
@[simp] theorem Device.waitIn_setPlane (p : Nat) (v : PlaneSt) : (d.setPlane p v).waitIn = d.waitIn := rfl
@[simp] theorem Device.rows_setPlane (p : Nat) (v : PlaneSt) : (d.setPlane p v).rows = d.rows := rfl
@[simp] theorem Device.lfsr_setPlane (p : Nat) (v : PlaneSt) : (d.setPlane p v).lfsr = d.lfsr := rfl
@[simp] theorem Device.spray_setPlane (p : Nat) (v : PlaneSt) : (d.setPlane p v).spray = d.spray := rfl
@[simp] theorem Device.pools_setPlane (p : Nat) (v : PlaneSt) : (d.setPlane p v).pools = d.pools := rfl
@[simp] theorem Device.outs_setPlane (p : Nat) (v : PlaneSt) : (d.setPlane p v).outs = d.outs := rfl
@[simp] theorem Device.tqs_setPlane (p : Nat) (v : PlaneSt) : (d.setPlane p v).tqs = d.tqs := rfl
@[simp] theorem Device.tbs_setPlane (p : Nat) (v : PlaneSt) : (d.setPlane p v).tbs = d.tbs := rfl
@[simp] theorem Device.pds_setPlane (p : Nat) (v : PlaneSt) : (d.setPlane p v).pds = d.pds := rfl
@[simp] theorem Device.rctxs_setPlane (p : Nat) (v : PlaneSt) : (d.setPlane p v).rctxs = d.rctxs := rfl
@[simp] theorem Device.slots_setPlane (p : Nat) (v : PlaneSt) : (d.setPlane p v).slots = d.slots := rfl
@[simp] theorem Device.notifies_setPlane (p : Nat) (v : PlaneSt) : (d.setPlane p v).notifies = d.notifies := rfl
@[simp] theorem Device.cctxs_setPlane (p : Nat) (v : PlaneSt) : (d.setPlane p v).cctxs = d.cctxs := rfl
@[simp] theorem Device.chans_setPlane (p : Nat) (v : PlaneSt) : (d.setPlane p v).chans = d.chans := rfl
@[simp] theorem Device.cals_setPlane (p : Nat) (v : PlaneSt) : (d.setPlane p v).cals = d.cals := rfl
@[simp] theorem Device.links_setPlane (p : Nat) (v : PlaneSt) : (d.setPlane p v).links = d.links := rfl
@[simp] theorem Device.tethers_setPlane (p : Nat) (v : PlaneSt) : (d.setPlane p v).tethers = d.tethers := rfl
@[simp] theorem Device.tribs_setPlane (p : Nat) (v : PlaneSt) : (d.setPlane p v).tribs = d.tribs := rfl
@[simp] theorem Device.masters_setPlane (p : Nat) (v : PlaneSt) : (d.setPlane p v).masters = d.masters := rfl
@[simp] theorem Device.tkeys_setPlane (p : Nat) (v : PlaneSt) : (d.setPlane p v).tkeys = d.tkeys := rfl
@[simp] theorem Device.keys_setPlane (p : Nat) (v : PlaneSt) : (d.setPlane p v).keys = d.keys := rfl
@[simp] theorem Device.rgns_setPlane (p : Nat) (v : PlaneSt) : (d.setPlane p v).rgns = d.rgns := rfl
@[simp] theorem Device.bists_setPlane (p : Nat) (v : PlaneSt) : (d.setPlane p v).bists = d.bists := rfl
@[simp] theorem Device.stands_setPlane (p : Nat) (v : PlaneSt) : (d.setPlane p v).stands = d.stands := rfl
@[simp] theorem Device.mons_setPlane (p : Nat) (v : PlaneSt) : (d.setPlane p v).mons = d.mons := rfl
@[simp] theorem Device.copiesSc_setPlane (p : Nat) (v : PlaneSt) : (d.setPlane p v).copiesSc = d.copiesSc := rfl
@[simp] theorem Device.snap_setPlane (p : Nat) (v : PlaneSt) : (d.setPlane p v).snap = d.snap := rfl
@[simp] theorem Device.get_setPlane (p : Nat) (v : PlaneSt) (o' : Obj) (p' i' : Nat) : (d.setPlane p v).get o' p' i' = d.get o' p' i' := rfl
/-! ### `setPort` -/
@[simp] theorem Device.regs_setPort (p n : Nat) (v : PortSt) : (d.setPort p n v).regs = d.regs := rfl
@[simp] theorem Device.sat_setPort (p n : Nat) (v : PortSt) : (d.setPort p n v).sat = d.sat := rfl
@[simp] theorem Device.domains_setPort (p n : Nat) (v : PortSt) : (d.setPort p n v).domains = d.domains := rfl
@[simp] theorem Device.clock_setPort (p n : Nat) (v : PortSt) : (d.setPort p n v).clock = d.clock := rfl
@[simp] theorem Device.freeCtr_setPort (p n : Nat) (v : PortSt) : (d.setPort p n v).freeCtr = d.freeCtr := rfl
@[simp] theorem Device.nextId_setPort (p n : Nat) (v : PortSt) : (d.setPort p n v).nextId = d.nextId := rfl
@[simp] theorem Device.out_setPort (p n : Nat) (v : PortSt) : (d.setPort p n v).out = d.out := rfl
@[simp] theorem Device.inbox_setPort (p n : Nat) (v : PortSt) : (d.setPort p n v).inbox = d.inbox := rfl
@[simp] theorem Device.hub_setPort (p n : Nat) (v : PortSt) : (d.setPort p n v).hub = d.hub := rfl
@[simp] theorem Device.planes_setPort (p n : Nat) (v : PortSt) : (d.setPort p n v).planes = d.planes := rfl
@[simp] theorem Device.sessions_setPort (p n : Nat) (v : PortSt) : (d.setPort p n v).sessions = d.sessions := rfl
@[simp] theorem Device.frames_setPort (p n : Nat) (v : PortSt) : (d.setPort p n v).frames = d.frames := rfl
@[simp] theorem Device.copies_setPort (p n : Nat) (v : PortSt) : (d.setPort p n v).copies = d.copies := rfl
@[simp] theorem Device.flows_setPort (p n : Nat) (v : PortSt) : (d.setPort p n v).flows = d.flows := rfl
@[simp] theorem Device.waitIn_setPort (p n : Nat) (v : PortSt) : (d.setPort p n v).waitIn = d.waitIn := rfl
@[simp] theorem Device.rows_setPort (p n : Nat) (v : PortSt) : (d.setPort p n v).rows = d.rows := rfl
@[simp] theorem Device.lfsr_setPort (p n : Nat) (v : PortSt) : (d.setPort p n v).lfsr = d.lfsr := rfl
@[simp] theorem Device.spray_setPort (p n : Nat) (v : PortSt) : (d.setPort p n v).spray = d.spray := rfl
@[simp] theorem Device.pools_setPort (p n : Nat) (v : PortSt) : (d.setPort p n v).pools = d.pools := rfl
@[simp] theorem Device.outs_setPort (p n : Nat) (v : PortSt) : (d.setPort p n v).outs = d.outs := rfl
@[simp] theorem Device.tqs_setPort (p n : Nat) (v : PortSt) : (d.setPort p n v).tqs = d.tqs := rfl
@[simp] theorem Device.tbs_setPort (p n : Nat) (v : PortSt) : (d.setPort p n v).tbs = d.tbs := rfl
@[simp] theorem Device.pds_setPort (p n : Nat) (v : PortSt) : (d.setPort p n v).pds = d.pds := rfl
@[simp] theorem Device.rctxs_setPort (p n : Nat) (v : PortSt) : (d.setPort p n v).rctxs = d.rctxs := rfl
@[simp] theorem Device.slots_setPort (p n : Nat) (v : PortSt) : (d.setPort p n v).slots = d.slots := rfl
@[simp] theorem Device.notifies_setPort (p n : Nat) (v : PortSt) : (d.setPort p n v).notifies = d.notifies := rfl
@[simp] theorem Device.cctxs_setPort (p n : Nat) (v : PortSt) : (d.setPort p n v).cctxs = d.cctxs := rfl
@[simp] theorem Device.chans_setPort (p n : Nat) (v : PortSt) : (d.setPort p n v).chans = d.chans := rfl
@[simp] theorem Device.cals_setPort (p n : Nat) (v : PortSt) : (d.setPort p n v).cals = d.cals := rfl
@[simp] theorem Device.links_setPort (p n : Nat) (v : PortSt) : (d.setPort p n v).links = d.links := rfl
@[simp] theorem Device.tethers_setPort (p n : Nat) (v : PortSt) : (d.setPort p n v).tethers = d.tethers := rfl
@[simp] theorem Device.tribs_setPort (p n : Nat) (v : PortSt) : (d.setPort p n v).tribs = d.tribs := rfl
@[simp] theorem Device.masters_setPort (p n : Nat) (v : PortSt) : (d.setPort p n v).masters = d.masters := rfl
@[simp] theorem Device.tkeys_setPort (p n : Nat) (v : PortSt) : (d.setPort p n v).tkeys = d.tkeys := rfl
@[simp] theorem Device.keys_setPort (p n : Nat) (v : PortSt) : (d.setPort p n v).keys = d.keys := rfl
@[simp] theorem Device.rgns_setPort (p n : Nat) (v : PortSt) : (d.setPort p n v).rgns = d.rgns := rfl
@[simp] theorem Device.bists_setPort (p n : Nat) (v : PortSt) : (d.setPort p n v).bists = d.bists := rfl
@[simp] theorem Device.stands_setPort (p n : Nat) (v : PortSt) : (d.setPort p n v).stands = d.stands := rfl
@[simp] theorem Device.mons_setPort (p n : Nat) (v : PortSt) : (d.setPort p n v).mons = d.mons := rfl
@[simp] theorem Device.copiesSc_setPort (p n : Nat) (v : PortSt) : (d.setPort p n v).copiesSc = d.copiesSc := rfl
@[simp] theorem Device.snap_setPort (p n : Nat) (v : PortSt) : (d.setPort p n v).snap = d.snap := rfl
@[simp] theorem Device.get_setPort (p n : Nat) (v : PortSt) (o' : Obj) (p' i' : Nat) : (d.setPort p n v).get o' p' i' = d.get o' p' i' := rfl
/-! ### `setRow` -/
@[simp] theorem Device.regs_setRow (p r : Nat) (v : RowSt) : (d.setRow p r v).regs = d.regs := rfl
@[simp] theorem Device.sat_setRow (p r : Nat) (v : RowSt) : (d.setRow p r v).sat = d.sat := rfl
@[simp] theorem Device.domains_setRow (p r : Nat) (v : RowSt) : (d.setRow p r v).domains = d.domains := rfl
@[simp] theorem Device.clock_setRow (p r : Nat) (v : RowSt) : (d.setRow p r v).clock = d.clock := rfl
@[simp] theorem Device.freeCtr_setRow (p r : Nat) (v : RowSt) : (d.setRow p r v).freeCtr = d.freeCtr := rfl
@[simp] theorem Device.nextId_setRow (p r : Nat) (v : RowSt) : (d.setRow p r v).nextId = d.nextId := rfl
@[simp] theorem Device.out_setRow (p r : Nat) (v : RowSt) : (d.setRow p r v).out = d.out := rfl
@[simp] theorem Device.inbox_setRow (p r : Nat) (v : RowSt) : (d.setRow p r v).inbox = d.inbox := rfl
@[simp] theorem Device.hub_setRow (p r : Nat) (v : RowSt) : (d.setRow p r v).hub = d.hub := rfl
@[simp] theorem Device.planes_setRow (p r : Nat) (v : RowSt) : (d.setRow p r v).planes = d.planes := rfl
@[simp] theorem Device.sessions_setRow (p r : Nat) (v : RowSt) : (d.setRow p r v).sessions = d.sessions := rfl
@[simp] theorem Device.ports_setRow (p r : Nat) (v : RowSt) : (d.setRow p r v).ports = d.ports := rfl
@[simp] theorem Device.frames_setRow (p r : Nat) (v : RowSt) : (d.setRow p r v).frames = d.frames := rfl
@[simp] theorem Device.copies_setRow (p r : Nat) (v : RowSt) : (d.setRow p r v).copies = d.copies := rfl
@[simp] theorem Device.flows_setRow (p r : Nat) (v : RowSt) : (d.setRow p r v).flows = d.flows := rfl
@[simp] theorem Device.waitIn_setRow (p r : Nat) (v : RowSt) : (d.setRow p r v).waitIn = d.waitIn := rfl
@[simp] theorem Device.lfsr_setRow (p r : Nat) (v : RowSt) : (d.setRow p r v).lfsr = d.lfsr := rfl
@[simp] theorem Device.spray_setRow (p r : Nat) (v : RowSt) : (d.setRow p r v).spray = d.spray := rfl
@[simp] theorem Device.pools_setRow (p r : Nat) (v : RowSt) : (d.setRow p r v).pools = d.pools := rfl
@[simp] theorem Device.outs_setRow (p r : Nat) (v : RowSt) : (d.setRow p r v).outs = d.outs := rfl
@[simp] theorem Device.tqs_setRow (p r : Nat) (v : RowSt) : (d.setRow p r v).tqs = d.tqs := rfl
@[simp] theorem Device.tbs_setRow (p r : Nat) (v : RowSt) : (d.setRow p r v).tbs = d.tbs := rfl
@[simp] theorem Device.pds_setRow (p r : Nat) (v : RowSt) : (d.setRow p r v).pds = d.pds := rfl
@[simp] theorem Device.rctxs_setRow (p r : Nat) (v : RowSt) : (d.setRow p r v).rctxs = d.rctxs := rfl
@[simp] theorem Device.slots_setRow (p r : Nat) (v : RowSt) : (d.setRow p r v).slots = d.slots := rfl
@[simp] theorem Device.notifies_setRow (p r : Nat) (v : RowSt) : (d.setRow p r v).notifies = d.notifies := rfl
@[simp] theorem Device.cctxs_setRow (p r : Nat) (v : RowSt) : (d.setRow p r v).cctxs = d.cctxs := rfl
@[simp] theorem Device.chans_setRow (p r : Nat) (v : RowSt) : (d.setRow p r v).chans = d.chans := rfl
@[simp] theorem Device.cals_setRow (p r : Nat) (v : RowSt) : (d.setRow p r v).cals = d.cals := rfl
@[simp] theorem Device.links_setRow (p r : Nat) (v : RowSt) : (d.setRow p r v).links = d.links := rfl
@[simp] theorem Device.tethers_setRow (p r : Nat) (v : RowSt) : (d.setRow p r v).tethers = d.tethers := rfl
@[simp] theorem Device.tribs_setRow (p r : Nat) (v : RowSt) : (d.setRow p r v).tribs = d.tribs := rfl
@[simp] theorem Device.masters_setRow (p r : Nat) (v : RowSt) : (d.setRow p r v).masters = d.masters := rfl
@[simp] theorem Device.tkeys_setRow (p r : Nat) (v : RowSt) : (d.setRow p r v).tkeys = d.tkeys := rfl
@[simp] theorem Device.keys_setRow (p r : Nat) (v : RowSt) : (d.setRow p r v).keys = d.keys := rfl
@[simp] theorem Device.rgns_setRow (p r : Nat) (v : RowSt) : (d.setRow p r v).rgns = d.rgns := rfl
@[simp] theorem Device.bists_setRow (p r : Nat) (v : RowSt) : (d.setRow p r v).bists = d.bists := rfl
@[simp] theorem Device.stands_setRow (p r : Nat) (v : RowSt) : (d.setRow p r v).stands = d.stands := rfl
@[simp] theorem Device.mons_setRow (p r : Nat) (v : RowSt) : (d.setRow p r v).mons = d.mons := rfl
@[simp] theorem Device.copiesSc_setRow (p r : Nat) (v : RowSt) : (d.setRow p r v).copiesSc = d.copiesSc := rfl
@[simp] theorem Device.snap_setRow (p r : Nat) (v : RowSt) : (d.setRow p r v).snap = d.snap := rfl
@[simp] theorem Device.get_setRow (p r : Nat) (v : RowSt) (o' : Obj) (p' i' : Nat) : (d.setRow p r v).get o' p' i' = d.get o' p' i' := rfl
/-! ### `setPool` -/
@[simp] theorem Device.regs_setPool (p k : Nat) (v : PoolSt) : (d.setPool p k v).regs = d.regs := rfl
@[simp] theorem Device.sat_setPool (p k : Nat) (v : PoolSt) : (d.setPool p k v).sat = d.sat := rfl
@[simp] theorem Device.domains_setPool (p k : Nat) (v : PoolSt) : (d.setPool p k v).domains = d.domains := rfl
@[simp] theorem Device.clock_setPool (p k : Nat) (v : PoolSt) : (d.setPool p k v).clock = d.clock := rfl
@[simp] theorem Device.freeCtr_setPool (p k : Nat) (v : PoolSt) : (d.setPool p k v).freeCtr = d.freeCtr := rfl
@[simp] theorem Device.nextId_setPool (p k : Nat) (v : PoolSt) : (d.setPool p k v).nextId = d.nextId := rfl
@[simp] theorem Device.out_setPool (p k : Nat) (v : PoolSt) : (d.setPool p k v).out = d.out := rfl
@[simp] theorem Device.inbox_setPool (p k : Nat) (v : PoolSt) : (d.setPool p k v).inbox = d.inbox := rfl
@[simp] theorem Device.hub_setPool (p k : Nat) (v : PoolSt) : (d.setPool p k v).hub = d.hub := rfl
@[simp] theorem Device.planes_setPool (p k : Nat) (v : PoolSt) : (d.setPool p k v).planes = d.planes := rfl
@[simp] theorem Device.sessions_setPool (p k : Nat) (v : PoolSt) : (d.setPool p k v).sessions = d.sessions := rfl
@[simp] theorem Device.ports_setPool (p k : Nat) (v : PoolSt) : (d.setPool p k v).ports = d.ports := rfl
@[simp] theorem Device.frames_setPool (p k : Nat) (v : PoolSt) : (d.setPool p k v).frames = d.frames := rfl
@[simp] theorem Device.copies_setPool (p k : Nat) (v : PoolSt) : (d.setPool p k v).copies = d.copies := rfl
@[simp] theorem Device.flows_setPool (p k : Nat) (v : PoolSt) : (d.setPool p k v).flows = d.flows := rfl
@[simp] theorem Device.waitIn_setPool (p k : Nat) (v : PoolSt) : (d.setPool p k v).waitIn = d.waitIn := rfl
@[simp] theorem Device.rows_setPool (p k : Nat) (v : PoolSt) : (d.setPool p k v).rows = d.rows := rfl
@[simp] theorem Device.lfsr_setPool (p k : Nat) (v : PoolSt) : (d.setPool p k v).lfsr = d.lfsr := rfl
@[simp] theorem Device.spray_setPool (p k : Nat) (v : PoolSt) : (d.setPool p k v).spray = d.spray := rfl
@[simp] theorem Device.outs_setPool (p k : Nat) (v : PoolSt) : (d.setPool p k v).outs = d.outs := rfl
@[simp] theorem Device.tqs_setPool (p k : Nat) (v : PoolSt) : (d.setPool p k v).tqs = d.tqs := rfl
@[simp] theorem Device.tbs_setPool (p k : Nat) (v : PoolSt) : (d.setPool p k v).tbs = d.tbs := rfl
@[simp] theorem Device.pds_setPool (p k : Nat) (v : PoolSt) : (d.setPool p k v).pds = d.pds := rfl
@[simp] theorem Device.rctxs_setPool (p k : Nat) (v : PoolSt) : (d.setPool p k v).rctxs = d.rctxs := rfl
@[simp] theorem Device.slots_setPool (p k : Nat) (v : PoolSt) : (d.setPool p k v).slots = d.slots := rfl
@[simp] theorem Device.notifies_setPool (p k : Nat) (v : PoolSt) : (d.setPool p k v).notifies = d.notifies := rfl
@[simp] theorem Device.cctxs_setPool (p k : Nat) (v : PoolSt) : (d.setPool p k v).cctxs = d.cctxs := rfl
@[simp] theorem Device.chans_setPool (p k : Nat) (v : PoolSt) : (d.setPool p k v).chans = d.chans := rfl
@[simp] theorem Device.cals_setPool (p k : Nat) (v : PoolSt) : (d.setPool p k v).cals = d.cals := rfl
@[simp] theorem Device.links_setPool (p k : Nat) (v : PoolSt) : (d.setPool p k v).links = d.links := rfl
@[simp] theorem Device.tethers_setPool (p k : Nat) (v : PoolSt) : (d.setPool p k v).tethers = d.tethers := rfl
@[simp] theorem Device.tribs_setPool (p k : Nat) (v : PoolSt) : (d.setPool p k v).tribs = d.tribs := rfl
@[simp] theorem Device.masters_setPool (p k : Nat) (v : PoolSt) : (d.setPool p k v).masters = d.masters := rfl
@[simp] theorem Device.tkeys_setPool (p k : Nat) (v : PoolSt) : (d.setPool p k v).tkeys = d.tkeys := rfl
@[simp] theorem Device.keys_setPool (p k : Nat) (v : PoolSt) : (d.setPool p k v).keys = d.keys := rfl
@[simp] theorem Device.rgns_setPool (p k : Nat) (v : PoolSt) : (d.setPool p k v).rgns = d.rgns := rfl
@[simp] theorem Device.bists_setPool (p k : Nat) (v : PoolSt) : (d.setPool p k v).bists = d.bists := rfl
@[simp] theorem Device.stands_setPool (p k : Nat) (v : PoolSt) : (d.setPool p k v).stands = d.stands := rfl
@[simp] theorem Device.mons_setPool (p k : Nat) (v : PoolSt) : (d.setPool p k v).mons = d.mons := rfl
@[simp] theorem Device.copiesSc_setPool (p k : Nat) (v : PoolSt) : (d.setPool p k v).copiesSc = d.copiesSc := rfl
@[simp] theorem Device.snap_setPool (p k : Nat) (v : PoolSt) : (d.setPool p k v).snap = d.snap := rfl
@[simp] theorem Device.get_setPool (p k : Nat) (v : PoolSt) (o' : Obj) (p' i' : Nat) : (d.setPool p k v).get o' p' i' = d.get o' p' i' := rfl
/-! ### `setOutp` -/
@[simp] theorem Device.regs_setOutp (p o : Nat) (v : OutSt) : (d.setOutp p o v).regs = d.regs := rfl
@[simp] theorem Device.sat_setOutp (p o : Nat) (v : OutSt) : (d.setOutp p o v).sat = d.sat := rfl
@[simp] theorem Device.domains_setOutp (p o : Nat) (v : OutSt) : (d.setOutp p o v).domains = d.domains := rfl
@[simp] theorem Device.clock_setOutp (p o : Nat) (v : OutSt) : (d.setOutp p o v).clock = d.clock := rfl
@[simp] theorem Device.freeCtr_setOutp (p o : Nat) (v : OutSt) : (d.setOutp p o v).freeCtr = d.freeCtr := rfl
@[simp] theorem Device.nextId_setOutp (p o : Nat) (v : OutSt) : (d.setOutp p o v).nextId = d.nextId := rfl
@[simp] theorem Device.out_setOutp (p o : Nat) (v : OutSt) : (d.setOutp p o v).out = d.out := rfl
@[simp] theorem Device.inbox_setOutp (p o : Nat) (v : OutSt) : (d.setOutp p o v).inbox = d.inbox := rfl
@[simp] theorem Device.hub_setOutp (p o : Nat) (v : OutSt) : (d.setOutp p o v).hub = d.hub := rfl
@[simp] theorem Device.planes_setOutp (p o : Nat) (v : OutSt) : (d.setOutp p o v).planes = d.planes := rfl
@[simp] theorem Device.sessions_setOutp (p o : Nat) (v : OutSt) : (d.setOutp p o v).sessions = d.sessions := rfl
@[simp] theorem Device.ports_setOutp (p o : Nat) (v : OutSt) : (d.setOutp p o v).ports = d.ports := rfl
@[simp] theorem Device.frames_setOutp (p o : Nat) (v : OutSt) : (d.setOutp p o v).frames = d.frames := rfl
@[simp] theorem Device.copies_setOutp (p o : Nat) (v : OutSt) : (d.setOutp p o v).copies = d.copies := rfl
@[simp] theorem Device.flows_setOutp (p o : Nat) (v : OutSt) : (d.setOutp p o v).flows = d.flows := rfl
@[simp] theorem Device.waitIn_setOutp (p o : Nat) (v : OutSt) : (d.setOutp p o v).waitIn = d.waitIn := rfl
@[simp] theorem Device.rows_setOutp (p o : Nat) (v : OutSt) : (d.setOutp p o v).rows = d.rows := rfl
@[simp] theorem Device.lfsr_setOutp (p o : Nat) (v : OutSt) : (d.setOutp p o v).lfsr = d.lfsr := rfl
@[simp] theorem Device.spray_setOutp (p o : Nat) (v : OutSt) : (d.setOutp p o v).spray = d.spray := rfl
@[simp] theorem Device.pools_setOutp (p o : Nat) (v : OutSt) : (d.setOutp p o v).pools = d.pools := rfl
@[simp] theorem Device.tqs_setOutp (p o : Nat) (v : OutSt) : (d.setOutp p o v).tqs = d.tqs := rfl
@[simp] theorem Device.tbs_setOutp (p o : Nat) (v : OutSt) : (d.setOutp p o v).tbs = d.tbs := rfl
@[simp] theorem Device.pds_setOutp (p o : Nat) (v : OutSt) : (d.setOutp p o v).pds = d.pds := rfl
@[simp] theorem Device.rctxs_setOutp (p o : Nat) (v : OutSt) : (d.setOutp p o v).rctxs = d.rctxs := rfl
@[simp] theorem Device.slots_setOutp (p o : Nat) (v : OutSt) : (d.setOutp p o v).slots = d.slots := rfl
@[simp] theorem Device.notifies_setOutp (p o : Nat) (v : OutSt) : (d.setOutp p o v).notifies = d.notifies := rfl
@[simp] theorem Device.cctxs_setOutp (p o : Nat) (v : OutSt) : (d.setOutp p o v).cctxs = d.cctxs := rfl
@[simp] theorem Device.chans_setOutp (p o : Nat) (v : OutSt) : (d.setOutp p o v).chans = d.chans := rfl
@[simp] theorem Device.cals_setOutp (p o : Nat) (v : OutSt) : (d.setOutp p o v).cals = d.cals := rfl
@[simp] theorem Device.links_setOutp (p o : Nat) (v : OutSt) : (d.setOutp p o v).links = d.links := rfl
@[simp] theorem Device.tethers_setOutp (p o : Nat) (v : OutSt) : (d.setOutp p o v).tethers = d.tethers := rfl
@[simp] theorem Device.tribs_setOutp (p o : Nat) (v : OutSt) : (d.setOutp p o v).tribs = d.tribs := rfl
@[simp] theorem Device.masters_setOutp (p o : Nat) (v : OutSt) : (d.setOutp p o v).masters = d.masters := rfl
@[simp] theorem Device.tkeys_setOutp (p o : Nat) (v : OutSt) : (d.setOutp p o v).tkeys = d.tkeys := rfl
@[simp] theorem Device.keys_setOutp (p o : Nat) (v : OutSt) : (d.setOutp p o v).keys = d.keys := rfl
@[simp] theorem Device.rgns_setOutp (p o : Nat) (v : OutSt) : (d.setOutp p o v).rgns = d.rgns := rfl
@[simp] theorem Device.bists_setOutp (p o : Nat) (v : OutSt) : (d.setOutp p o v).bists = d.bists := rfl
@[simp] theorem Device.stands_setOutp (p o : Nat) (v : OutSt) : (d.setOutp p o v).stands = d.stands := rfl
@[simp] theorem Device.mons_setOutp (p o : Nat) (v : OutSt) : (d.setOutp p o v).mons = d.mons := rfl
@[simp] theorem Device.copiesSc_setOutp (p o : Nat) (v : OutSt) : (d.setOutp p o v).copiesSc = d.copiesSc := rfl
@[simp] theorem Device.snap_setOutp (p o : Nat) (v : OutSt) : (d.setOutp p o v).snap = d.snap := rfl
@[simp] theorem Device.get_setOutp (p o : Nat) (v : OutSt) (o' : Obj) (p' i' : Nat) : (d.setOutp p o v).get o' p' i' = d.get o' p' i' := rfl
/-! ### `setTq` -/
@[simp] theorem Device.regs_setTq (p o c t : Nat) (v : TqSt) : (d.setTq p o c t v).regs = d.regs := rfl
@[simp] theorem Device.sat_setTq (p o c t : Nat) (v : TqSt) : (d.setTq p o c t v).sat = d.sat := rfl
@[simp] theorem Device.domains_setTq (p o c t : Nat) (v : TqSt) : (d.setTq p o c t v).domains = d.domains := rfl
@[simp] theorem Device.clock_setTq (p o c t : Nat) (v : TqSt) : (d.setTq p o c t v).clock = d.clock := rfl
@[simp] theorem Device.freeCtr_setTq (p o c t : Nat) (v : TqSt) : (d.setTq p o c t v).freeCtr = d.freeCtr := rfl
@[simp] theorem Device.nextId_setTq (p o c t : Nat) (v : TqSt) : (d.setTq p o c t v).nextId = d.nextId := rfl
@[simp] theorem Device.out_setTq (p o c t : Nat) (v : TqSt) : (d.setTq p o c t v).out = d.out := rfl
@[simp] theorem Device.inbox_setTq (p o c t : Nat) (v : TqSt) : (d.setTq p o c t v).inbox = d.inbox := rfl
@[simp] theorem Device.hub_setTq (p o c t : Nat) (v : TqSt) : (d.setTq p o c t v).hub = d.hub := rfl
@[simp] theorem Device.planes_setTq (p o c t : Nat) (v : TqSt) : (d.setTq p o c t v).planes = d.planes := rfl
@[simp] theorem Device.sessions_setTq (p o c t : Nat) (v : TqSt) : (d.setTq p o c t v).sessions = d.sessions := rfl
@[simp] theorem Device.ports_setTq (p o c t : Nat) (v : TqSt) : (d.setTq p o c t v).ports = d.ports := rfl
@[simp] theorem Device.frames_setTq (p o c t : Nat) (v : TqSt) : (d.setTq p o c t v).frames = d.frames := rfl
@[simp] theorem Device.copies_setTq (p o c t : Nat) (v : TqSt) : (d.setTq p o c t v).copies = d.copies := rfl
@[simp] theorem Device.flows_setTq (p o c t : Nat) (v : TqSt) : (d.setTq p o c t v).flows = d.flows := rfl
@[simp] theorem Device.waitIn_setTq (p o c t : Nat) (v : TqSt) : (d.setTq p o c t v).waitIn = d.waitIn := rfl
@[simp] theorem Device.rows_setTq (p o c t : Nat) (v : TqSt) : (d.setTq p o c t v).rows = d.rows := rfl
@[simp] theorem Device.lfsr_setTq (p o c t : Nat) (v : TqSt) : (d.setTq p o c t v).lfsr = d.lfsr := rfl
@[simp] theorem Device.spray_setTq (p o c t : Nat) (v : TqSt) : (d.setTq p o c t v).spray = d.spray := rfl
@[simp] theorem Device.pools_setTq (p o c t : Nat) (v : TqSt) : (d.setTq p o c t v).pools = d.pools := rfl
@[simp] theorem Device.outs_setTq (p o c t : Nat) (v : TqSt) : (d.setTq p o c t v).outs = d.outs := rfl
@[simp] theorem Device.tbs_setTq (p o c t : Nat) (v : TqSt) : (d.setTq p o c t v).tbs = d.tbs := rfl
@[simp] theorem Device.pds_setTq (p o c t : Nat) (v : TqSt) : (d.setTq p o c t v).pds = d.pds := rfl
@[simp] theorem Device.rctxs_setTq (p o c t : Nat) (v : TqSt) : (d.setTq p o c t v).rctxs = d.rctxs := rfl
@[simp] theorem Device.slots_setTq (p o c t : Nat) (v : TqSt) : (d.setTq p o c t v).slots = d.slots := rfl
@[simp] theorem Device.notifies_setTq (p o c t : Nat) (v : TqSt) : (d.setTq p o c t v).notifies = d.notifies := rfl
@[simp] theorem Device.cctxs_setTq (p o c t : Nat) (v : TqSt) : (d.setTq p o c t v).cctxs = d.cctxs := rfl
@[simp] theorem Device.chans_setTq (p o c t : Nat) (v : TqSt) : (d.setTq p o c t v).chans = d.chans := rfl
@[simp] theorem Device.cals_setTq (p o c t : Nat) (v : TqSt) : (d.setTq p o c t v).cals = d.cals := rfl
@[simp] theorem Device.links_setTq (p o c t : Nat) (v : TqSt) : (d.setTq p o c t v).links = d.links := rfl
@[simp] theorem Device.tethers_setTq (p o c t : Nat) (v : TqSt) : (d.setTq p o c t v).tethers = d.tethers := rfl
@[simp] theorem Device.tribs_setTq (p o c t : Nat) (v : TqSt) : (d.setTq p o c t v).tribs = d.tribs := rfl
@[simp] theorem Device.masters_setTq (p o c t : Nat) (v : TqSt) : (d.setTq p o c t v).masters = d.masters := rfl
@[simp] theorem Device.tkeys_setTq (p o c t : Nat) (v : TqSt) : (d.setTq p o c t v).tkeys = d.tkeys := rfl
@[simp] theorem Device.keys_setTq (p o c t : Nat) (v : TqSt) : (d.setTq p o c t v).keys = d.keys := rfl
@[simp] theorem Device.rgns_setTq (p o c t : Nat) (v : TqSt) : (d.setTq p o c t v).rgns = d.rgns := rfl
@[simp] theorem Device.bists_setTq (p o c t : Nat) (v : TqSt) : (d.setTq p o c t v).bists = d.bists := rfl
@[simp] theorem Device.stands_setTq (p o c t : Nat) (v : TqSt) : (d.setTq p o c t v).stands = d.stands := rfl
@[simp] theorem Device.mons_setTq (p o c t : Nat) (v : TqSt) : (d.setTq p o c t v).mons = d.mons := rfl
@[simp] theorem Device.copiesSc_setTq (p o c t : Nat) (v : TqSt) : (d.setTq p o c t v).copiesSc = d.copiesSc := rfl
@[simp] theorem Device.snap_setTq (p o c t : Nat) (v : TqSt) : (d.setTq p o c t v).snap = d.snap := rfl
@[simp] theorem Device.get_setTq (p o c t : Nat) (v : TqSt) (o' : Obj) (p' i' : Nat) : (d.setTq p o c t v).get o' p' i' = d.get o' p' i' := rfl
/-! ### `setTb` -/
@[simp] theorem Device.regs_setTb (p n : Nat) (v : TbSt) : (d.setTb p n v).regs = d.regs := rfl
@[simp] theorem Device.sat_setTb (p n : Nat) (v : TbSt) : (d.setTb p n v).sat = d.sat := rfl
@[simp] theorem Device.domains_setTb (p n : Nat) (v : TbSt) : (d.setTb p n v).domains = d.domains := rfl
@[simp] theorem Device.clock_setTb (p n : Nat) (v : TbSt) : (d.setTb p n v).clock = d.clock := rfl
@[simp] theorem Device.freeCtr_setTb (p n : Nat) (v : TbSt) : (d.setTb p n v).freeCtr = d.freeCtr := rfl
@[simp] theorem Device.nextId_setTb (p n : Nat) (v : TbSt) : (d.setTb p n v).nextId = d.nextId := rfl
@[simp] theorem Device.out_setTb (p n : Nat) (v : TbSt) : (d.setTb p n v).out = d.out := rfl
@[simp] theorem Device.inbox_setTb (p n : Nat) (v : TbSt) : (d.setTb p n v).inbox = d.inbox := rfl
@[simp] theorem Device.hub_setTb (p n : Nat) (v : TbSt) : (d.setTb p n v).hub = d.hub := rfl
@[simp] theorem Device.planes_setTb (p n : Nat) (v : TbSt) : (d.setTb p n v).planes = d.planes := rfl
@[simp] theorem Device.sessions_setTb (p n : Nat) (v : TbSt) : (d.setTb p n v).sessions = d.sessions := rfl
@[simp] theorem Device.ports_setTb (p n : Nat) (v : TbSt) : (d.setTb p n v).ports = d.ports := rfl
@[simp] theorem Device.frames_setTb (p n : Nat) (v : TbSt) : (d.setTb p n v).frames = d.frames := rfl
@[simp] theorem Device.copies_setTb (p n : Nat) (v : TbSt) : (d.setTb p n v).copies = d.copies := rfl
@[simp] theorem Device.flows_setTb (p n : Nat) (v : TbSt) : (d.setTb p n v).flows = d.flows := rfl
@[simp] theorem Device.waitIn_setTb (p n : Nat) (v : TbSt) : (d.setTb p n v).waitIn = d.waitIn := rfl
@[simp] theorem Device.rows_setTb (p n : Nat) (v : TbSt) : (d.setTb p n v).rows = d.rows := rfl
@[simp] theorem Device.lfsr_setTb (p n : Nat) (v : TbSt) : (d.setTb p n v).lfsr = d.lfsr := rfl
@[simp] theorem Device.spray_setTb (p n : Nat) (v : TbSt) : (d.setTb p n v).spray = d.spray := rfl
@[simp] theorem Device.pools_setTb (p n : Nat) (v : TbSt) : (d.setTb p n v).pools = d.pools := rfl
@[simp] theorem Device.outs_setTb (p n : Nat) (v : TbSt) : (d.setTb p n v).outs = d.outs := rfl
@[simp] theorem Device.tqs_setTb (p n : Nat) (v : TbSt) : (d.setTb p n v).tqs = d.tqs := rfl
@[simp] theorem Device.pds_setTb (p n : Nat) (v : TbSt) : (d.setTb p n v).pds = d.pds := rfl
@[simp] theorem Device.rctxs_setTb (p n : Nat) (v : TbSt) : (d.setTb p n v).rctxs = d.rctxs := rfl
@[simp] theorem Device.slots_setTb (p n : Nat) (v : TbSt) : (d.setTb p n v).slots = d.slots := rfl
@[simp] theorem Device.notifies_setTb (p n : Nat) (v : TbSt) : (d.setTb p n v).notifies = d.notifies := rfl
@[simp] theorem Device.cctxs_setTb (p n : Nat) (v : TbSt) : (d.setTb p n v).cctxs = d.cctxs := rfl
@[simp] theorem Device.chans_setTb (p n : Nat) (v : TbSt) : (d.setTb p n v).chans = d.chans := rfl
@[simp] theorem Device.cals_setTb (p n : Nat) (v : TbSt) : (d.setTb p n v).cals = d.cals := rfl
@[simp] theorem Device.links_setTb (p n : Nat) (v : TbSt) : (d.setTb p n v).links = d.links := rfl
@[simp] theorem Device.tethers_setTb (p n : Nat) (v : TbSt) : (d.setTb p n v).tethers = d.tethers := rfl
@[simp] theorem Device.tribs_setTb (p n : Nat) (v : TbSt) : (d.setTb p n v).tribs = d.tribs := rfl
@[simp] theorem Device.masters_setTb (p n : Nat) (v : TbSt) : (d.setTb p n v).masters = d.masters := rfl
@[simp] theorem Device.tkeys_setTb (p n : Nat) (v : TbSt) : (d.setTb p n v).tkeys = d.tkeys := rfl
@[simp] theorem Device.keys_setTb (p n : Nat) (v : TbSt) : (d.setTb p n v).keys = d.keys := rfl
@[simp] theorem Device.rgns_setTb (p n : Nat) (v : TbSt) : (d.setTb p n v).rgns = d.rgns := rfl
@[simp] theorem Device.bists_setTb (p n : Nat) (v : TbSt) : (d.setTb p n v).bists = d.bists := rfl
@[simp] theorem Device.stands_setTb (p n : Nat) (v : TbSt) : (d.setTb p n v).stands = d.stands := rfl
@[simp] theorem Device.mons_setTb (p n : Nat) (v : TbSt) : (d.setTb p n v).mons = d.mons := rfl
@[simp] theorem Device.copiesSc_setTb (p n : Nat) (v : TbSt) : (d.setTb p n v).copiesSc = d.copiesSc := rfl
@[simp] theorem Device.snap_setTb (p n : Nat) (v : TbSt) : (d.setTb p n v).snap = d.snap := rfl
@[simp] theorem Device.get_setTb (p n : Nat) (v : TbSt) (o' : Obj) (p' i' : Nat) : (d.setTb p n v).get o' p' i' = d.get o' p' i' := rfl
/-! ### `setPd` -/
@[simp] theorem Device.regs_setPd (p o : Nat) (v : PdSt) : (d.setPd p o v).regs = d.regs := rfl
@[simp] theorem Device.sat_setPd (p o : Nat) (v : PdSt) : (d.setPd p o v).sat = d.sat := rfl
@[simp] theorem Device.domains_setPd (p o : Nat) (v : PdSt) : (d.setPd p o v).domains = d.domains := rfl
@[simp] theorem Device.clock_setPd (p o : Nat) (v : PdSt) : (d.setPd p o v).clock = d.clock := rfl
@[simp] theorem Device.freeCtr_setPd (p o : Nat) (v : PdSt) : (d.setPd p o v).freeCtr = d.freeCtr := rfl
@[simp] theorem Device.nextId_setPd (p o : Nat) (v : PdSt) : (d.setPd p o v).nextId = d.nextId := rfl
@[simp] theorem Device.out_setPd (p o : Nat) (v : PdSt) : (d.setPd p o v).out = d.out := rfl
@[simp] theorem Device.inbox_setPd (p o : Nat) (v : PdSt) : (d.setPd p o v).inbox = d.inbox := rfl
@[simp] theorem Device.hub_setPd (p o : Nat) (v : PdSt) : (d.setPd p o v).hub = d.hub := rfl
@[simp] theorem Device.planes_setPd (p o : Nat) (v : PdSt) : (d.setPd p o v).planes = d.planes := rfl
@[simp] theorem Device.sessions_setPd (p o : Nat) (v : PdSt) : (d.setPd p o v).sessions = d.sessions := rfl
@[simp] theorem Device.ports_setPd (p o : Nat) (v : PdSt) : (d.setPd p o v).ports = d.ports := rfl
@[simp] theorem Device.frames_setPd (p o : Nat) (v : PdSt) : (d.setPd p o v).frames = d.frames := rfl
@[simp] theorem Device.copies_setPd (p o : Nat) (v : PdSt) : (d.setPd p o v).copies = d.copies := rfl
@[simp] theorem Device.flows_setPd (p o : Nat) (v : PdSt) : (d.setPd p o v).flows = d.flows := rfl
@[simp] theorem Device.waitIn_setPd (p o : Nat) (v : PdSt) : (d.setPd p o v).waitIn = d.waitIn := rfl
@[simp] theorem Device.rows_setPd (p o : Nat) (v : PdSt) : (d.setPd p o v).rows = d.rows := rfl
@[simp] theorem Device.lfsr_setPd (p o : Nat) (v : PdSt) : (d.setPd p o v).lfsr = d.lfsr := rfl
@[simp] theorem Device.spray_setPd (p o : Nat) (v : PdSt) : (d.setPd p o v).spray = d.spray := rfl
@[simp] theorem Device.pools_setPd (p o : Nat) (v : PdSt) : (d.setPd p o v).pools = d.pools := rfl
@[simp] theorem Device.outs_setPd (p o : Nat) (v : PdSt) : (d.setPd p o v).outs = d.outs := rfl
@[simp] theorem Device.tqs_setPd (p o : Nat) (v : PdSt) : (d.setPd p o v).tqs = d.tqs := rfl
@[simp] theorem Device.tbs_setPd (p o : Nat) (v : PdSt) : (d.setPd p o v).tbs = d.tbs := rfl
@[simp] theorem Device.rctxs_setPd (p o : Nat) (v : PdSt) : (d.setPd p o v).rctxs = d.rctxs := rfl
@[simp] theorem Device.slots_setPd (p o : Nat) (v : PdSt) : (d.setPd p o v).slots = d.slots := rfl
@[simp] theorem Device.notifies_setPd (p o : Nat) (v : PdSt) : (d.setPd p o v).notifies = d.notifies := rfl
@[simp] theorem Device.cctxs_setPd (p o : Nat) (v : PdSt) : (d.setPd p o v).cctxs = d.cctxs := rfl
@[simp] theorem Device.chans_setPd (p o : Nat) (v : PdSt) : (d.setPd p o v).chans = d.chans := rfl
@[simp] theorem Device.cals_setPd (p o : Nat) (v : PdSt) : (d.setPd p o v).cals = d.cals := rfl
@[simp] theorem Device.links_setPd (p o : Nat) (v : PdSt) : (d.setPd p o v).links = d.links := rfl
@[simp] theorem Device.tethers_setPd (p o : Nat) (v : PdSt) : (d.setPd p o v).tethers = d.tethers := rfl
@[simp] theorem Device.tribs_setPd (p o : Nat) (v : PdSt) : (d.setPd p o v).tribs = d.tribs := rfl
@[simp] theorem Device.masters_setPd (p o : Nat) (v : PdSt) : (d.setPd p o v).masters = d.masters := rfl
@[simp] theorem Device.tkeys_setPd (p o : Nat) (v : PdSt) : (d.setPd p o v).tkeys = d.tkeys := rfl
@[simp] theorem Device.keys_setPd (p o : Nat) (v : PdSt) : (d.setPd p o v).keys = d.keys := rfl
@[simp] theorem Device.rgns_setPd (p o : Nat) (v : PdSt) : (d.setPd p o v).rgns = d.rgns := rfl
@[simp] theorem Device.bists_setPd (p o : Nat) (v : PdSt) : (d.setPd p o v).bists = d.bists := rfl
@[simp] theorem Device.stands_setPd (p o : Nat) (v : PdSt) : (d.setPd p o v).stands = d.stands := rfl
@[simp] theorem Device.mons_setPd (p o : Nat) (v : PdSt) : (d.setPd p o v).mons = d.mons := rfl
@[simp] theorem Device.copiesSc_setPd (p o : Nat) (v : PdSt) : (d.setPd p o v).copiesSc = d.copiesSc := rfl
@[simp] theorem Device.snap_setPd (p o : Nat) (v : PdSt) : (d.setPd p o v).snap = d.snap := rfl
@[simp] theorem Device.get_setPd (p o : Nat) (v : PdSt) (o' : Obj) (p' i' : Nat) : (d.setPd p o v).get o' p' i' = d.get o' p' i' := rfl
/-! ### `setRctx` -/
@[simp] theorem Device.regs_setRctx (p x : Nat) (v : RctxSt) : (d.setRctx p x v).regs = d.regs := rfl
@[simp] theorem Device.sat_setRctx (p x : Nat) (v : RctxSt) : (d.setRctx p x v).sat = d.sat := rfl
@[simp] theorem Device.domains_setRctx (p x : Nat) (v : RctxSt) : (d.setRctx p x v).domains = d.domains := rfl
@[simp] theorem Device.clock_setRctx (p x : Nat) (v : RctxSt) : (d.setRctx p x v).clock = d.clock := rfl
@[simp] theorem Device.freeCtr_setRctx (p x : Nat) (v : RctxSt) : (d.setRctx p x v).freeCtr = d.freeCtr := rfl
@[simp] theorem Device.nextId_setRctx (p x : Nat) (v : RctxSt) : (d.setRctx p x v).nextId = d.nextId := rfl
@[simp] theorem Device.out_setRctx (p x : Nat) (v : RctxSt) : (d.setRctx p x v).out = d.out := rfl
@[simp] theorem Device.inbox_setRctx (p x : Nat) (v : RctxSt) : (d.setRctx p x v).inbox = d.inbox := rfl
@[simp] theorem Device.hub_setRctx (p x : Nat) (v : RctxSt) : (d.setRctx p x v).hub = d.hub := rfl
@[simp] theorem Device.planes_setRctx (p x : Nat) (v : RctxSt) : (d.setRctx p x v).planes = d.planes := rfl
@[simp] theorem Device.sessions_setRctx (p x : Nat) (v : RctxSt) : (d.setRctx p x v).sessions = d.sessions := rfl
@[simp] theorem Device.ports_setRctx (p x : Nat) (v : RctxSt) : (d.setRctx p x v).ports = d.ports := rfl
@[simp] theorem Device.frames_setRctx (p x : Nat) (v : RctxSt) : (d.setRctx p x v).frames = d.frames := rfl
@[simp] theorem Device.copies_setRctx (p x : Nat) (v : RctxSt) : (d.setRctx p x v).copies = d.copies := rfl
@[simp] theorem Device.flows_setRctx (p x : Nat) (v : RctxSt) : (d.setRctx p x v).flows = d.flows := rfl
@[simp] theorem Device.waitIn_setRctx (p x : Nat) (v : RctxSt) : (d.setRctx p x v).waitIn = d.waitIn := rfl
@[simp] theorem Device.rows_setRctx (p x : Nat) (v : RctxSt) : (d.setRctx p x v).rows = d.rows := rfl
@[simp] theorem Device.lfsr_setRctx (p x : Nat) (v : RctxSt) : (d.setRctx p x v).lfsr = d.lfsr := rfl
@[simp] theorem Device.spray_setRctx (p x : Nat) (v : RctxSt) : (d.setRctx p x v).spray = d.spray := rfl
@[simp] theorem Device.pools_setRctx (p x : Nat) (v : RctxSt) : (d.setRctx p x v).pools = d.pools := rfl
@[simp] theorem Device.outs_setRctx (p x : Nat) (v : RctxSt) : (d.setRctx p x v).outs = d.outs := rfl
@[simp] theorem Device.tqs_setRctx (p x : Nat) (v : RctxSt) : (d.setRctx p x v).tqs = d.tqs := rfl
@[simp] theorem Device.tbs_setRctx (p x : Nat) (v : RctxSt) : (d.setRctx p x v).tbs = d.tbs := rfl
@[simp] theorem Device.pds_setRctx (p x : Nat) (v : RctxSt) : (d.setRctx p x v).pds = d.pds := rfl
@[simp] theorem Device.slots_setRctx (p x : Nat) (v : RctxSt) : (d.setRctx p x v).slots = d.slots := rfl
@[simp] theorem Device.notifies_setRctx (p x : Nat) (v : RctxSt) : (d.setRctx p x v).notifies = d.notifies := rfl
@[simp] theorem Device.cctxs_setRctx (p x : Nat) (v : RctxSt) : (d.setRctx p x v).cctxs = d.cctxs := rfl
@[simp] theorem Device.chans_setRctx (p x : Nat) (v : RctxSt) : (d.setRctx p x v).chans = d.chans := rfl
@[simp] theorem Device.cals_setRctx (p x : Nat) (v : RctxSt) : (d.setRctx p x v).cals = d.cals := rfl
@[simp] theorem Device.links_setRctx (p x : Nat) (v : RctxSt) : (d.setRctx p x v).links = d.links := rfl
@[simp] theorem Device.tethers_setRctx (p x : Nat) (v : RctxSt) : (d.setRctx p x v).tethers = d.tethers := rfl
@[simp] theorem Device.tribs_setRctx (p x : Nat) (v : RctxSt) : (d.setRctx p x v).tribs = d.tribs := rfl
@[simp] theorem Device.masters_setRctx (p x : Nat) (v : RctxSt) : (d.setRctx p x v).masters = d.masters := rfl
@[simp] theorem Device.tkeys_setRctx (p x : Nat) (v : RctxSt) : (d.setRctx p x v).tkeys = d.tkeys := rfl
@[simp] theorem Device.keys_setRctx (p x : Nat) (v : RctxSt) : (d.setRctx p x v).keys = d.keys := rfl
@[simp] theorem Device.rgns_setRctx (p x : Nat) (v : RctxSt) : (d.setRctx p x v).rgns = d.rgns := rfl
@[simp] theorem Device.bists_setRctx (p x : Nat) (v : RctxSt) : (d.setRctx p x v).bists = d.bists := rfl
@[simp] theorem Device.stands_setRctx (p x : Nat) (v : RctxSt) : (d.setRctx p x v).stands = d.stands := rfl
@[simp] theorem Device.mons_setRctx (p x : Nat) (v : RctxSt) : (d.setRctx p x v).mons = d.mons := rfl
@[simp] theorem Device.copiesSc_setRctx (p x : Nat) (v : RctxSt) : (d.setRctx p x v).copiesSc = d.copiesSc := rfl
@[simp] theorem Device.snap_setRctx (p x : Nat) (v : RctxSt) : (d.setRctx p x v).snap = d.snap := rfl
@[simp] theorem Device.get_setRctx (p x : Nat) (v : RctxSt) (o' : Obj) (p' i' : Nat) : (d.setRctx p x v).get o' p' i' = d.get o' p' i' := rfl
/-! ### `setSlot` -/
@[simp] theorem Device.regs_setSlot (p n : Nat) (v : SlotSt) : (d.setSlot p n v).regs = d.regs := rfl
@[simp] theorem Device.sat_setSlot (p n : Nat) (v : SlotSt) : (d.setSlot p n v).sat = d.sat := rfl
@[simp] theorem Device.domains_setSlot (p n : Nat) (v : SlotSt) : (d.setSlot p n v).domains = d.domains := rfl
@[simp] theorem Device.clock_setSlot (p n : Nat) (v : SlotSt) : (d.setSlot p n v).clock = d.clock := rfl
@[simp] theorem Device.freeCtr_setSlot (p n : Nat) (v : SlotSt) : (d.setSlot p n v).freeCtr = d.freeCtr := rfl
@[simp] theorem Device.nextId_setSlot (p n : Nat) (v : SlotSt) : (d.setSlot p n v).nextId = d.nextId := rfl
@[simp] theorem Device.out_setSlot (p n : Nat) (v : SlotSt) : (d.setSlot p n v).out = d.out := rfl
@[simp] theorem Device.inbox_setSlot (p n : Nat) (v : SlotSt) : (d.setSlot p n v).inbox = d.inbox := rfl
@[simp] theorem Device.hub_setSlot (p n : Nat) (v : SlotSt) : (d.setSlot p n v).hub = d.hub := rfl
@[simp] theorem Device.planes_setSlot (p n : Nat) (v : SlotSt) : (d.setSlot p n v).planes = d.planes := rfl
@[simp] theorem Device.sessions_setSlot (p n : Nat) (v : SlotSt) : (d.setSlot p n v).sessions = d.sessions := rfl
@[simp] theorem Device.ports_setSlot (p n : Nat) (v : SlotSt) : (d.setSlot p n v).ports = d.ports := rfl
@[simp] theorem Device.frames_setSlot (p n : Nat) (v : SlotSt) : (d.setSlot p n v).frames = d.frames := rfl
@[simp] theorem Device.copies_setSlot (p n : Nat) (v : SlotSt) : (d.setSlot p n v).copies = d.copies := rfl
@[simp] theorem Device.flows_setSlot (p n : Nat) (v : SlotSt) : (d.setSlot p n v).flows = d.flows := rfl
@[simp] theorem Device.waitIn_setSlot (p n : Nat) (v : SlotSt) : (d.setSlot p n v).waitIn = d.waitIn := rfl
@[simp] theorem Device.rows_setSlot (p n : Nat) (v : SlotSt) : (d.setSlot p n v).rows = d.rows := rfl
@[simp] theorem Device.lfsr_setSlot (p n : Nat) (v : SlotSt) : (d.setSlot p n v).lfsr = d.lfsr := rfl
@[simp] theorem Device.spray_setSlot (p n : Nat) (v : SlotSt) : (d.setSlot p n v).spray = d.spray := rfl
@[simp] theorem Device.pools_setSlot (p n : Nat) (v : SlotSt) : (d.setSlot p n v).pools = d.pools := rfl
@[simp] theorem Device.outs_setSlot (p n : Nat) (v : SlotSt) : (d.setSlot p n v).outs = d.outs := rfl
@[simp] theorem Device.tqs_setSlot (p n : Nat) (v : SlotSt) : (d.setSlot p n v).tqs = d.tqs := rfl
@[simp] theorem Device.tbs_setSlot (p n : Nat) (v : SlotSt) : (d.setSlot p n v).tbs = d.tbs := rfl
@[simp] theorem Device.pds_setSlot (p n : Nat) (v : SlotSt) : (d.setSlot p n v).pds = d.pds := rfl
@[simp] theorem Device.rctxs_setSlot (p n : Nat) (v : SlotSt) : (d.setSlot p n v).rctxs = d.rctxs := rfl
@[simp] theorem Device.notifies_setSlot (p n : Nat) (v : SlotSt) : (d.setSlot p n v).notifies = d.notifies := rfl
@[simp] theorem Device.cctxs_setSlot (p n : Nat) (v : SlotSt) : (d.setSlot p n v).cctxs = d.cctxs := rfl
@[simp] theorem Device.chans_setSlot (p n : Nat) (v : SlotSt) : (d.setSlot p n v).chans = d.chans := rfl
@[simp] theorem Device.cals_setSlot (p n : Nat) (v : SlotSt) : (d.setSlot p n v).cals = d.cals := rfl
@[simp] theorem Device.links_setSlot (p n : Nat) (v : SlotSt) : (d.setSlot p n v).links = d.links := rfl
@[simp] theorem Device.tethers_setSlot (p n : Nat) (v : SlotSt) : (d.setSlot p n v).tethers = d.tethers := rfl
@[simp] theorem Device.tribs_setSlot (p n : Nat) (v : SlotSt) : (d.setSlot p n v).tribs = d.tribs := rfl
@[simp] theorem Device.masters_setSlot (p n : Nat) (v : SlotSt) : (d.setSlot p n v).masters = d.masters := rfl
@[simp] theorem Device.tkeys_setSlot (p n : Nat) (v : SlotSt) : (d.setSlot p n v).tkeys = d.tkeys := rfl
@[simp] theorem Device.keys_setSlot (p n : Nat) (v : SlotSt) : (d.setSlot p n v).keys = d.keys := rfl
@[simp] theorem Device.rgns_setSlot (p n : Nat) (v : SlotSt) : (d.setSlot p n v).rgns = d.rgns := rfl
@[simp] theorem Device.bists_setSlot (p n : Nat) (v : SlotSt) : (d.setSlot p n v).bists = d.bists := rfl
@[simp] theorem Device.stands_setSlot (p n : Nat) (v : SlotSt) : (d.setSlot p n v).stands = d.stands := rfl
@[simp] theorem Device.mons_setSlot (p n : Nat) (v : SlotSt) : (d.setSlot p n v).mons = d.mons := rfl
@[simp] theorem Device.copiesSc_setSlot (p n : Nat) (v : SlotSt) : (d.setSlot p n v).copiesSc = d.copiesSc := rfl
@[simp] theorem Device.snap_setSlot (p n : Nat) (v : SlotSt) : (d.setSlot p n v).snap = d.snap := rfl
@[simp] theorem Device.get_setSlot (p n : Nat) (v : SlotSt) (o' : Obj) (p' i' : Nat) : (d.setSlot p n v).get o' p' i' = d.get o' p' i' := rfl
/-! ### `setCctx` -/
@[simp] theorem Device.regs_setCctx (p n : Nat) (v : CctxSt) : (d.setCctx p n v).regs = d.regs := rfl
@[simp] theorem Device.sat_setCctx (p n : Nat) (v : CctxSt) : (d.setCctx p n v).sat = d.sat := rfl
@[simp] theorem Device.domains_setCctx (p n : Nat) (v : CctxSt) : (d.setCctx p n v).domains = d.domains := rfl
@[simp] theorem Device.clock_setCctx (p n : Nat) (v : CctxSt) : (d.setCctx p n v).clock = d.clock := rfl
@[simp] theorem Device.freeCtr_setCctx (p n : Nat) (v : CctxSt) : (d.setCctx p n v).freeCtr = d.freeCtr := rfl
@[simp] theorem Device.nextId_setCctx (p n : Nat) (v : CctxSt) : (d.setCctx p n v).nextId = d.nextId := rfl
@[simp] theorem Device.out_setCctx (p n : Nat) (v : CctxSt) : (d.setCctx p n v).out = d.out := rfl
@[simp] theorem Device.inbox_setCctx (p n : Nat) (v : CctxSt) : (d.setCctx p n v).inbox = d.inbox := rfl
@[simp] theorem Device.hub_setCctx (p n : Nat) (v : CctxSt) : (d.setCctx p n v).hub = d.hub := rfl
@[simp] theorem Device.planes_setCctx (p n : Nat) (v : CctxSt) : (d.setCctx p n v).planes = d.planes := rfl
@[simp] theorem Device.sessions_setCctx (p n : Nat) (v : CctxSt) : (d.setCctx p n v).sessions = d.sessions := rfl
@[simp] theorem Device.ports_setCctx (p n : Nat) (v : CctxSt) : (d.setCctx p n v).ports = d.ports := rfl
@[simp] theorem Device.frames_setCctx (p n : Nat) (v : CctxSt) : (d.setCctx p n v).frames = d.frames := rfl
@[simp] theorem Device.copies_setCctx (p n : Nat) (v : CctxSt) : (d.setCctx p n v).copies = d.copies := rfl
@[simp] theorem Device.flows_setCctx (p n : Nat) (v : CctxSt) : (d.setCctx p n v).flows = d.flows := rfl
@[simp] theorem Device.waitIn_setCctx (p n : Nat) (v : CctxSt) : (d.setCctx p n v).waitIn = d.waitIn := rfl
@[simp] theorem Device.rows_setCctx (p n : Nat) (v : CctxSt) : (d.setCctx p n v).rows = d.rows := rfl
@[simp] theorem Device.lfsr_setCctx (p n : Nat) (v : CctxSt) : (d.setCctx p n v).lfsr = d.lfsr := rfl
@[simp] theorem Device.spray_setCctx (p n : Nat) (v : CctxSt) : (d.setCctx p n v).spray = d.spray := rfl
@[simp] theorem Device.pools_setCctx (p n : Nat) (v : CctxSt) : (d.setCctx p n v).pools = d.pools := rfl
@[simp] theorem Device.outs_setCctx (p n : Nat) (v : CctxSt) : (d.setCctx p n v).outs = d.outs := rfl
@[simp] theorem Device.tqs_setCctx (p n : Nat) (v : CctxSt) : (d.setCctx p n v).tqs = d.tqs := rfl
@[simp] theorem Device.tbs_setCctx (p n : Nat) (v : CctxSt) : (d.setCctx p n v).tbs = d.tbs := rfl
@[simp] theorem Device.pds_setCctx (p n : Nat) (v : CctxSt) : (d.setCctx p n v).pds = d.pds := rfl
@[simp] theorem Device.rctxs_setCctx (p n : Nat) (v : CctxSt) : (d.setCctx p n v).rctxs = d.rctxs := rfl
@[simp] theorem Device.slots_setCctx (p n : Nat) (v : CctxSt) : (d.setCctx p n v).slots = d.slots := rfl
@[simp] theorem Device.notifies_setCctx (p n : Nat) (v : CctxSt) : (d.setCctx p n v).notifies = d.notifies := rfl
@[simp] theorem Device.chans_setCctx (p n : Nat) (v : CctxSt) : (d.setCctx p n v).chans = d.chans := rfl
@[simp] theorem Device.cals_setCctx (p n : Nat) (v : CctxSt) : (d.setCctx p n v).cals = d.cals := rfl
@[simp] theorem Device.links_setCctx (p n : Nat) (v : CctxSt) : (d.setCctx p n v).links = d.links := rfl
@[simp] theorem Device.tethers_setCctx (p n : Nat) (v : CctxSt) : (d.setCctx p n v).tethers = d.tethers := rfl
@[simp] theorem Device.tribs_setCctx (p n : Nat) (v : CctxSt) : (d.setCctx p n v).tribs = d.tribs := rfl
@[simp] theorem Device.masters_setCctx (p n : Nat) (v : CctxSt) : (d.setCctx p n v).masters = d.masters := rfl
@[simp] theorem Device.tkeys_setCctx (p n : Nat) (v : CctxSt) : (d.setCctx p n v).tkeys = d.tkeys := rfl
@[simp] theorem Device.keys_setCctx (p n : Nat) (v : CctxSt) : (d.setCctx p n v).keys = d.keys := rfl
@[simp] theorem Device.rgns_setCctx (p n : Nat) (v : CctxSt) : (d.setCctx p n v).rgns = d.rgns := rfl
@[simp] theorem Device.bists_setCctx (p n : Nat) (v : CctxSt) : (d.setCctx p n v).bists = d.bists := rfl
@[simp] theorem Device.stands_setCctx (p n : Nat) (v : CctxSt) : (d.setCctx p n v).stands = d.stands := rfl
@[simp] theorem Device.mons_setCctx (p n : Nat) (v : CctxSt) : (d.setCctx p n v).mons = d.mons := rfl
@[simp] theorem Device.copiesSc_setCctx (p n : Nat) (v : CctxSt) : (d.setCctx p n v).copiesSc = d.copiesSc := rfl
@[simp] theorem Device.snap_setCctx (p n : Nat) (v : CctxSt) : (d.setCctx p n v).snap = d.snap := rfl
@[simp] theorem Device.get_setCctx (p n : Nat) (v : CctxSt) (o' : Obj) (p' i' : Nat) : (d.setCctx p n v).get o' p' i' = d.get o' p' i' := rfl
/-! ### `setSession` -/
@[simp] theorem Device.regs_setSession (s : Nat) (v : SessionSt) : (d.setSession s v).regs = d.regs := rfl
@[simp] theorem Device.sat_setSession (s : Nat) (v : SessionSt) : (d.setSession s v).sat = d.sat := rfl
@[simp] theorem Device.domains_setSession (s : Nat) (v : SessionSt) : (d.setSession s v).domains = d.domains := rfl
@[simp] theorem Device.clock_setSession (s : Nat) (v : SessionSt) : (d.setSession s v).clock = d.clock := rfl
@[simp] theorem Device.freeCtr_setSession (s : Nat) (v : SessionSt) : (d.setSession s v).freeCtr = d.freeCtr := rfl
@[simp] theorem Device.nextId_setSession (s : Nat) (v : SessionSt) : (d.setSession s v).nextId = d.nextId := rfl
@[simp] theorem Device.out_setSession (s : Nat) (v : SessionSt) : (d.setSession s v).out = d.out := rfl
@[simp] theorem Device.inbox_setSession (s : Nat) (v : SessionSt) : (d.setSession s v).inbox = d.inbox := rfl
@[simp] theorem Device.hub_setSession (s : Nat) (v : SessionSt) : (d.setSession s v).hub = d.hub := rfl
@[simp] theorem Device.planes_setSession (s : Nat) (v : SessionSt) : (d.setSession s v).planes = d.planes := rfl
@[simp] theorem Device.ports_setSession (s : Nat) (v : SessionSt) : (d.setSession s v).ports = d.ports := rfl
@[simp] theorem Device.frames_setSession (s : Nat) (v : SessionSt) : (d.setSession s v).frames = d.frames := rfl
@[simp] theorem Device.copies_setSession (s : Nat) (v : SessionSt) : (d.setSession s v).copies = d.copies := rfl
@[simp] theorem Device.flows_setSession (s : Nat) (v : SessionSt) : (d.setSession s v).flows = d.flows := rfl
@[simp] theorem Device.waitIn_setSession (s : Nat) (v : SessionSt) : (d.setSession s v).waitIn = d.waitIn := rfl
@[simp] theorem Device.rows_setSession (s : Nat) (v : SessionSt) : (d.setSession s v).rows = d.rows := rfl
@[simp] theorem Device.lfsr_setSession (s : Nat) (v : SessionSt) : (d.setSession s v).lfsr = d.lfsr := rfl
@[simp] theorem Device.spray_setSession (s : Nat) (v : SessionSt) : (d.setSession s v).spray = d.spray := rfl
@[simp] theorem Device.pools_setSession (s : Nat) (v : SessionSt) : (d.setSession s v).pools = d.pools := rfl
@[simp] theorem Device.outs_setSession (s : Nat) (v : SessionSt) : (d.setSession s v).outs = d.outs := rfl
@[simp] theorem Device.tqs_setSession (s : Nat) (v : SessionSt) : (d.setSession s v).tqs = d.tqs := rfl
@[simp] theorem Device.tbs_setSession (s : Nat) (v : SessionSt) : (d.setSession s v).tbs = d.tbs := rfl
@[simp] theorem Device.pds_setSession (s : Nat) (v : SessionSt) : (d.setSession s v).pds = d.pds := rfl
@[simp] theorem Device.rctxs_setSession (s : Nat) (v : SessionSt) : (d.setSession s v).rctxs = d.rctxs := rfl
@[simp] theorem Device.slots_setSession (s : Nat) (v : SessionSt) : (d.setSession s v).slots = d.slots := rfl
@[simp] theorem Device.notifies_setSession (s : Nat) (v : SessionSt) : (d.setSession s v).notifies = d.notifies := rfl
@[simp] theorem Device.cctxs_setSession (s : Nat) (v : SessionSt) : (d.setSession s v).cctxs = d.cctxs := rfl
@[simp] theorem Device.chans_setSession (s : Nat) (v : SessionSt) : (d.setSession s v).chans = d.chans := rfl
@[simp] theorem Device.cals_setSession (s : Nat) (v : SessionSt) : (d.setSession s v).cals = d.cals := rfl
@[simp] theorem Device.links_setSession (s : Nat) (v : SessionSt) : (d.setSession s v).links = d.links := rfl
@[simp] theorem Device.tethers_setSession (s : Nat) (v : SessionSt) : (d.setSession s v).tethers = d.tethers := rfl
@[simp] theorem Device.tribs_setSession (s : Nat) (v : SessionSt) : (d.setSession s v).tribs = d.tribs := rfl
@[simp] theorem Device.masters_setSession (s : Nat) (v : SessionSt) : (d.setSession s v).masters = d.masters := rfl
@[simp] theorem Device.tkeys_setSession (s : Nat) (v : SessionSt) : (d.setSession s v).tkeys = d.tkeys := rfl
@[simp] theorem Device.keys_setSession (s : Nat) (v : SessionSt) : (d.setSession s v).keys = d.keys := rfl
@[simp] theorem Device.rgns_setSession (s : Nat) (v : SessionSt) : (d.setSession s v).rgns = d.rgns := rfl
@[simp] theorem Device.bists_setSession (s : Nat) (v : SessionSt) : (d.setSession s v).bists = d.bists := rfl
@[simp] theorem Device.stands_setSession (s : Nat) (v : SessionSt) : (d.setSession s v).stands = d.stands := rfl
@[simp] theorem Device.mons_setSession (s : Nat) (v : SessionSt) : (d.setSession s v).mons = d.mons := rfl
@[simp] theorem Device.copiesSc_setSession (s : Nat) (v : SessionSt) : (d.setSession s v).copiesSc = d.copiesSc := rfl
@[simp] theorem Device.snap_setSession (s : Nat) (v : SessionSt) : (d.setSession s v).snap = d.snap := rfl
@[simp] theorem Device.get_setSession (s : Nat) (v : SessionSt) (o' : Obj) (p' i' : Nat) : (d.setSession s v).get o' p' i' = d.get o' p' i' := rfl
/-! ### `emit` -/
@[simp] theorem Device.regs_emit (o : Out) : (d.emit o).regs = d.regs := rfl
@[simp] theorem Device.sat_emit (o : Out) : (d.emit o).sat = d.sat := rfl
@[simp] theorem Device.domains_emit (o : Out) : (d.emit o).domains = d.domains := rfl
@[simp] theorem Device.clock_emit (o : Out) : (d.emit o).clock = d.clock := rfl
@[simp] theorem Device.freeCtr_emit (o : Out) : (d.emit o).freeCtr = d.freeCtr := rfl
@[simp] theorem Device.nextId_emit (o : Out) : (d.emit o).nextId = d.nextId := rfl
@[simp] theorem Device.inbox_emit (o : Out) : (d.emit o).inbox = d.inbox := rfl
@[simp] theorem Device.hub_emit (o : Out) : (d.emit o).hub = d.hub := rfl
@[simp] theorem Device.planes_emit (o : Out) : (d.emit o).planes = d.planes := rfl
@[simp] theorem Device.sessions_emit (o : Out) : (d.emit o).sessions = d.sessions := rfl
@[simp] theorem Device.ports_emit (o : Out) : (d.emit o).ports = d.ports := rfl
@[simp] theorem Device.frames_emit (o : Out) : (d.emit o).frames = d.frames := rfl
@[simp] theorem Device.copies_emit (o : Out) : (d.emit o).copies = d.copies := rfl
@[simp] theorem Device.flows_emit (o : Out) : (d.emit o).flows = d.flows := rfl
@[simp] theorem Device.waitIn_emit (o : Out) : (d.emit o).waitIn = d.waitIn := rfl
@[simp] theorem Device.rows_emit (o : Out) : (d.emit o).rows = d.rows := rfl
@[simp] theorem Device.lfsr_emit (o : Out) : (d.emit o).lfsr = d.lfsr := rfl
@[simp] theorem Device.spray_emit (o : Out) : (d.emit o).spray = d.spray := rfl
@[simp] theorem Device.pools_emit (o : Out) : (d.emit o).pools = d.pools := rfl
@[simp] theorem Device.outs_emit (o : Out) : (d.emit o).outs = d.outs := rfl
@[simp] theorem Device.tqs_emit (o : Out) : (d.emit o).tqs = d.tqs := rfl
@[simp] theorem Device.tbs_emit (o : Out) : (d.emit o).tbs = d.tbs := rfl
@[simp] theorem Device.pds_emit (o : Out) : (d.emit o).pds = d.pds := rfl
@[simp] theorem Device.rctxs_emit (o : Out) : (d.emit o).rctxs = d.rctxs := rfl
@[simp] theorem Device.slots_emit (o : Out) : (d.emit o).slots = d.slots := rfl
@[simp] theorem Device.notifies_emit (o : Out) : (d.emit o).notifies = d.notifies := rfl
@[simp] theorem Device.cctxs_emit (o : Out) : (d.emit o).cctxs = d.cctxs := rfl
@[simp] theorem Device.chans_emit (o : Out) : (d.emit o).chans = d.chans := rfl
@[simp] theorem Device.cals_emit (o : Out) : (d.emit o).cals = d.cals := rfl
@[simp] theorem Device.links_emit (o : Out) : (d.emit o).links = d.links := rfl
@[simp] theorem Device.tethers_emit (o : Out) : (d.emit o).tethers = d.tethers := rfl
@[simp] theorem Device.tribs_emit (o : Out) : (d.emit o).tribs = d.tribs := rfl
@[simp] theorem Device.masters_emit (o : Out) : (d.emit o).masters = d.masters := rfl
@[simp] theorem Device.tkeys_emit (o : Out) : (d.emit o).tkeys = d.tkeys := rfl
@[simp] theorem Device.keys_emit (o : Out) : (d.emit o).keys = d.keys := rfl
@[simp] theorem Device.rgns_emit (o : Out) : (d.emit o).rgns = d.rgns := rfl
@[simp] theorem Device.bists_emit (o : Out) : (d.emit o).bists = d.bists := rfl
@[simp] theorem Device.stands_emit (o : Out) : (d.emit o).stands = d.stands := rfl
@[simp] theorem Device.mons_emit (o : Out) : (d.emit o).mons = d.mons := rfl
@[simp] theorem Device.copiesSc_emit (o : Out) : (d.emit o).copiesSc = d.copiesSc := rfl
@[simp] theorem Device.snap_emit (o : Out) : (d.emit o).snap = d.snap := rfl
@[simp] theorem Device.get_emit (o : Out) (o' : Obj) (p' i' : Nat) : (d.emit o).get o' p' i' = d.get o' p' i' := rfl
/-! ### `setChan` -/
@[simp] theorem Device.regs_setChan (p ch : Nat) (v : ChanSt) : (d.setChan p ch v).regs = d.regs := rfl
@[simp] theorem Device.sat_setChan (p ch : Nat) (v : ChanSt) : (d.setChan p ch v).sat = d.sat := rfl
@[simp] theorem Device.domains_setChan (p ch : Nat) (v : ChanSt) : (d.setChan p ch v).domains = d.domains := rfl
@[simp] theorem Device.clock_setChan (p ch : Nat) (v : ChanSt) : (d.setChan p ch v).clock = d.clock := rfl
@[simp] theorem Device.freeCtr_setChan (p ch : Nat) (v : ChanSt) : (d.setChan p ch v).freeCtr = d.freeCtr := rfl
@[simp] theorem Device.nextId_setChan (p ch : Nat) (v : ChanSt) : (d.setChan p ch v).nextId = d.nextId := rfl
@[simp] theorem Device.out_setChan (p ch : Nat) (v : ChanSt) : (d.setChan p ch v).out = d.out := rfl
@[simp] theorem Device.inbox_setChan (p ch : Nat) (v : ChanSt) : (d.setChan p ch v).inbox = d.inbox := rfl
@[simp] theorem Device.hub_setChan (p ch : Nat) (v : ChanSt) : (d.setChan p ch v).hub = d.hub := rfl
@[simp] theorem Device.planes_setChan (p ch : Nat) (v : ChanSt) : (d.setChan p ch v).planes = d.planes := rfl
@[simp] theorem Device.sessions_setChan (p ch : Nat) (v : ChanSt) : (d.setChan p ch v).sessions = d.sessions := rfl
@[simp] theorem Device.ports_setChan (p ch : Nat) (v : ChanSt) : (d.setChan p ch v).ports = d.ports := rfl
@[simp] theorem Device.frames_setChan (p ch : Nat) (v : ChanSt) : (d.setChan p ch v).frames = d.frames := rfl
@[simp] theorem Device.copies_setChan (p ch : Nat) (v : ChanSt) : (d.setChan p ch v).copies = d.copies := rfl
@[simp] theorem Device.flows_setChan (p ch : Nat) (v : ChanSt) : (d.setChan p ch v).flows = d.flows := rfl
@[simp] theorem Device.waitIn_setChan (p ch : Nat) (v : ChanSt) : (d.setChan p ch v).waitIn = d.waitIn := rfl
@[simp] theorem Device.rows_setChan (p ch : Nat) (v : ChanSt) : (d.setChan p ch v).rows = d.rows := rfl
@[simp] theorem Device.lfsr_setChan (p ch : Nat) (v : ChanSt) : (d.setChan p ch v).lfsr = d.lfsr := rfl
@[simp] theorem Device.spray_setChan (p ch : Nat) (v : ChanSt) : (d.setChan p ch v).spray = d.spray := rfl
@[simp] theorem Device.pools_setChan (p ch : Nat) (v : ChanSt) : (d.setChan p ch v).pools = d.pools := rfl
@[simp] theorem Device.outs_setChan (p ch : Nat) (v : ChanSt) : (d.setChan p ch v).outs = d.outs := rfl
@[simp] theorem Device.tqs_setChan (p ch : Nat) (v : ChanSt) : (d.setChan p ch v).tqs = d.tqs := rfl
@[simp] theorem Device.tbs_setChan (p ch : Nat) (v : ChanSt) : (d.setChan p ch v).tbs = d.tbs := rfl
@[simp] theorem Device.pds_setChan (p ch : Nat) (v : ChanSt) : (d.setChan p ch v).pds = d.pds := rfl
@[simp] theorem Device.rctxs_setChan (p ch : Nat) (v : ChanSt) : (d.setChan p ch v).rctxs = d.rctxs := rfl
@[simp] theorem Device.slots_setChan (p ch : Nat) (v : ChanSt) : (d.setChan p ch v).slots = d.slots := rfl
@[simp] theorem Device.notifies_setChan (p ch : Nat) (v : ChanSt) : (d.setChan p ch v).notifies = d.notifies := rfl
@[simp] theorem Device.cctxs_setChan (p ch : Nat) (v : ChanSt) : (d.setChan p ch v).cctxs = d.cctxs := rfl
@[simp] theorem Device.cals_setChan (p ch : Nat) (v : ChanSt) : (d.setChan p ch v).cals = d.cals := rfl
@[simp] theorem Device.links_setChan (p ch : Nat) (v : ChanSt) : (d.setChan p ch v).links = d.links := rfl
@[simp] theorem Device.tethers_setChan (p ch : Nat) (v : ChanSt) : (d.setChan p ch v).tethers = d.tethers := rfl
@[simp] theorem Device.tribs_setChan (p ch : Nat) (v : ChanSt) : (d.setChan p ch v).tribs = d.tribs := rfl
@[simp] theorem Device.masters_setChan (p ch : Nat) (v : ChanSt) : (d.setChan p ch v).masters = d.masters := rfl
@[simp] theorem Device.tkeys_setChan (p ch : Nat) (v : ChanSt) : (d.setChan p ch v).tkeys = d.tkeys := rfl
@[simp] theorem Device.keys_setChan (p ch : Nat) (v : ChanSt) : (d.setChan p ch v).keys = d.keys := rfl
@[simp] theorem Device.rgns_setChan (p ch : Nat) (v : ChanSt) : (d.setChan p ch v).rgns = d.rgns := rfl
@[simp] theorem Device.bists_setChan (p ch : Nat) (v : ChanSt) : (d.setChan p ch v).bists = d.bists := rfl
@[simp] theorem Device.stands_setChan (p ch : Nat) (v : ChanSt) : (d.setChan p ch v).stands = d.stands := rfl
@[simp] theorem Device.mons_setChan (p ch : Nat) (v : ChanSt) : (d.setChan p ch v).mons = d.mons := rfl
@[simp] theorem Device.copiesSc_setChan (p ch : Nat) (v : ChanSt) : (d.setChan p ch v).copiesSc = d.copiesSc := rfl
@[simp] theorem Device.snap_setChan (p ch : Nat) (v : ChanSt) : (d.setChan p ch v).snap = d.snap := rfl
@[simp] theorem Device.get_setChan (p ch : Nat) (v : ChanSt) (o' : Obj) (p' i' : Nat) : (d.setChan p ch v).get o' p' i' = d.get o' p' i' := rfl
/-! ### `setCal` -/
@[simp] theorem Device.regs_setCal (p c : Nat) (v : CalSt) : (d.setCal p c v).regs = d.regs := rfl
@[simp] theorem Device.sat_setCal (p c : Nat) (v : CalSt) : (d.setCal p c v).sat = d.sat := rfl
@[simp] theorem Device.domains_setCal (p c : Nat) (v : CalSt) : (d.setCal p c v).domains = d.domains := rfl
@[simp] theorem Device.clock_setCal (p c : Nat) (v : CalSt) : (d.setCal p c v).clock = d.clock := rfl
@[simp] theorem Device.freeCtr_setCal (p c : Nat) (v : CalSt) : (d.setCal p c v).freeCtr = d.freeCtr := rfl
@[simp] theorem Device.nextId_setCal (p c : Nat) (v : CalSt) : (d.setCal p c v).nextId = d.nextId := rfl
@[simp] theorem Device.out_setCal (p c : Nat) (v : CalSt) : (d.setCal p c v).out = d.out := rfl
@[simp] theorem Device.inbox_setCal (p c : Nat) (v : CalSt) : (d.setCal p c v).inbox = d.inbox := rfl
@[simp] theorem Device.hub_setCal (p c : Nat) (v : CalSt) : (d.setCal p c v).hub = d.hub := rfl
@[simp] theorem Device.planes_setCal (p c : Nat) (v : CalSt) : (d.setCal p c v).planes = d.planes := rfl
@[simp] theorem Device.sessions_setCal (p c : Nat) (v : CalSt) : (d.setCal p c v).sessions = d.sessions := rfl
@[simp] theorem Device.ports_setCal (p c : Nat) (v : CalSt) : (d.setCal p c v).ports = d.ports := rfl
@[simp] theorem Device.frames_setCal (p c : Nat) (v : CalSt) : (d.setCal p c v).frames = d.frames := rfl
@[simp] theorem Device.copies_setCal (p c : Nat) (v : CalSt) : (d.setCal p c v).copies = d.copies := rfl
@[simp] theorem Device.flows_setCal (p c : Nat) (v : CalSt) : (d.setCal p c v).flows = d.flows := rfl
@[simp] theorem Device.waitIn_setCal (p c : Nat) (v : CalSt) : (d.setCal p c v).waitIn = d.waitIn := rfl
@[simp] theorem Device.rows_setCal (p c : Nat) (v : CalSt) : (d.setCal p c v).rows = d.rows := rfl
@[simp] theorem Device.lfsr_setCal (p c : Nat) (v : CalSt) : (d.setCal p c v).lfsr = d.lfsr := rfl
@[simp] theorem Device.spray_setCal (p c : Nat) (v : CalSt) : (d.setCal p c v).spray = d.spray := rfl
@[simp] theorem Device.pools_setCal (p c : Nat) (v : CalSt) : (d.setCal p c v).pools = d.pools := rfl
@[simp] theorem Device.outs_setCal (p c : Nat) (v : CalSt) : (d.setCal p c v).outs = d.outs := rfl
@[simp] theorem Device.tqs_setCal (p c : Nat) (v : CalSt) : (d.setCal p c v).tqs = d.tqs := rfl
@[simp] theorem Device.tbs_setCal (p c : Nat) (v : CalSt) : (d.setCal p c v).tbs = d.tbs := rfl
@[simp] theorem Device.pds_setCal (p c : Nat) (v : CalSt) : (d.setCal p c v).pds = d.pds := rfl
@[simp] theorem Device.rctxs_setCal (p c : Nat) (v : CalSt) : (d.setCal p c v).rctxs = d.rctxs := rfl
@[simp] theorem Device.slots_setCal (p c : Nat) (v : CalSt) : (d.setCal p c v).slots = d.slots := rfl
@[simp] theorem Device.notifies_setCal (p c : Nat) (v : CalSt) : (d.setCal p c v).notifies = d.notifies := rfl
@[simp] theorem Device.cctxs_setCal (p c : Nat) (v : CalSt) : (d.setCal p c v).cctxs = d.cctxs := rfl
@[simp] theorem Device.chans_setCal (p c : Nat) (v : CalSt) : (d.setCal p c v).chans = d.chans := rfl
@[simp] theorem Device.links_setCal (p c : Nat) (v : CalSt) : (d.setCal p c v).links = d.links := rfl
@[simp] theorem Device.tethers_setCal (p c : Nat) (v : CalSt) : (d.setCal p c v).tethers = d.tethers := rfl
@[simp] theorem Device.tribs_setCal (p c : Nat) (v : CalSt) : (d.setCal p c v).tribs = d.tribs := rfl
@[simp] theorem Device.masters_setCal (p c : Nat) (v : CalSt) : (d.setCal p c v).masters = d.masters := rfl
@[simp] theorem Device.tkeys_setCal (p c : Nat) (v : CalSt) : (d.setCal p c v).tkeys = d.tkeys := rfl
@[simp] theorem Device.keys_setCal (p c : Nat) (v : CalSt) : (d.setCal p c v).keys = d.keys := rfl
@[simp] theorem Device.rgns_setCal (p c : Nat) (v : CalSt) : (d.setCal p c v).rgns = d.rgns := rfl
@[simp] theorem Device.bists_setCal (p c : Nat) (v : CalSt) : (d.setCal p c v).bists = d.bists := rfl
@[simp] theorem Device.stands_setCal (p c : Nat) (v : CalSt) : (d.setCal p c v).stands = d.stands := rfl
@[simp] theorem Device.mons_setCal (p c : Nat) (v : CalSt) : (d.setCal p c v).mons = d.mons := rfl
@[simp] theorem Device.copiesSc_setCal (p c : Nat) (v : CalSt) : (d.setCal p c v).copiesSc = d.copiesSc := rfl
@[simp] theorem Device.snap_setCal (p c : Nat) (v : CalSt) : (d.setCal p c v).snap = d.snap := rfl
@[simp] theorem Device.get_setCal (p c : Nat) (v : CalSt) (o' : Obj) (p' i' : Nat) : (d.setCal p c v).get o' p' i' = d.get o' p' i' := rfl
/-! ### `setSc` -/
@[simp] theorem Device.regs_setSc (p : Nat) (v : ScSt) : (d.setSc p v).regs = d.regs := rfl
@[simp] theorem Device.sat_setSc (p : Nat) (v : ScSt) : (d.setSc p v).sat = d.sat := rfl
@[simp] theorem Device.domains_setSc (p : Nat) (v : ScSt) : (d.setSc p v).domains = d.domains := rfl
@[simp] theorem Device.clock_setSc (p : Nat) (v : ScSt) : (d.setSc p v).clock = d.clock := rfl
@[simp] theorem Device.freeCtr_setSc (p : Nat) (v : ScSt) : (d.setSc p v).freeCtr = d.freeCtr := rfl
@[simp] theorem Device.nextId_setSc (p : Nat) (v : ScSt) : (d.setSc p v).nextId = d.nextId := rfl
@[simp] theorem Device.out_setSc (p : Nat) (v : ScSt) : (d.setSc p v).out = d.out := rfl
@[simp] theorem Device.inbox_setSc (p : Nat) (v : ScSt) : (d.setSc p v).inbox = d.inbox := rfl
@[simp] theorem Device.hub_setSc (p : Nat) (v : ScSt) : (d.setSc p v).hub = d.hub := rfl
@[simp] theorem Device.planes_setSc (p : Nat) (v : ScSt) : (d.setSc p v).planes = d.planes := rfl
@[simp] theorem Device.sessions_setSc (p : Nat) (v : ScSt) : (d.setSc p v).sessions = d.sessions := rfl
@[simp] theorem Device.ports_setSc (p : Nat) (v : ScSt) : (d.setSc p v).ports = d.ports := rfl
@[simp] theorem Device.frames_setSc (p : Nat) (v : ScSt) : (d.setSc p v).frames = d.frames := rfl
@[simp] theorem Device.copies_setSc (p : Nat) (v : ScSt) : (d.setSc p v).copies = d.copies := rfl
@[simp] theorem Device.flows_setSc (p : Nat) (v : ScSt) : (d.setSc p v).flows = d.flows := rfl
@[simp] theorem Device.waitIn_setSc (p : Nat) (v : ScSt) : (d.setSc p v).waitIn = d.waitIn := rfl
@[simp] theorem Device.rows_setSc (p : Nat) (v : ScSt) : (d.setSc p v).rows = d.rows := rfl
@[simp] theorem Device.lfsr_setSc (p : Nat) (v : ScSt) : (d.setSc p v).lfsr = d.lfsr := rfl
@[simp] theorem Device.spray_setSc (p : Nat) (v : ScSt) : (d.setSc p v).spray = d.spray := rfl
@[simp] theorem Device.pools_setSc (p : Nat) (v : ScSt) : (d.setSc p v).pools = d.pools := rfl
@[simp] theorem Device.outs_setSc (p : Nat) (v : ScSt) : (d.setSc p v).outs = d.outs := rfl
@[simp] theorem Device.tqs_setSc (p : Nat) (v : ScSt) : (d.setSc p v).tqs = d.tqs := rfl
@[simp] theorem Device.tbs_setSc (p : Nat) (v : ScSt) : (d.setSc p v).tbs = d.tbs := rfl
@[simp] theorem Device.pds_setSc (p : Nat) (v : ScSt) : (d.setSc p v).pds = d.pds := rfl
@[simp] theorem Device.rctxs_setSc (p : Nat) (v : ScSt) : (d.setSc p v).rctxs = d.rctxs := rfl
@[simp] theorem Device.slots_setSc (p : Nat) (v : ScSt) : (d.setSc p v).slots = d.slots := rfl
@[simp] theorem Device.notifies_setSc (p : Nat) (v : ScSt) : (d.setSc p v).notifies = d.notifies := rfl
@[simp] theorem Device.cctxs_setSc (p : Nat) (v : ScSt) : (d.setSc p v).cctxs = d.cctxs := rfl
@[simp] theorem Device.chans_setSc (p : Nat) (v : ScSt) : (d.setSc p v).chans = d.chans := rfl
@[simp] theorem Device.cals_setSc (p : Nat) (v : ScSt) : (d.setSc p v).cals = d.cals := rfl
@[simp] theorem Device.links_setSc (p : Nat) (v : ScSt) : (d.setSc p v).links = d.links := rfl
@[simp] theorem Device.tethers_setSc (p : Nat) (v : ScSt) : (d.setSc p v).tethers = d.tethers := rfl
@[simp] theorem Device.tribs_setSc (p : Nat) (v : ScSt) : (d.setSc p v).tribs = d.tribs := rfl
@[simp] theorem Device.masters_setSc (p : Nat) (v : ScSt) : (d.setSc p v).masters = d.masters := rfl
@[simp] theorem Device.tkeys_setSc (p : Nat) (v : ScSt) : (d.setSc p v).tkeys = d.tkeys := rfl
@[simp] theorem Device.keys_setSc (p : Nat) (v : ScSt) : (d.setSc p v).keys = d.keys := rfl
@[simp] theorem Device.rgns_setSc (p : Nat) (v : ScSt) : (d.setSc p v).rgns = d.rgns := rfl
@[simp] theorem Device.bists_setSc (p : Nat) (v : ScSt) : (d.setSc p v).bists = d.bists := rfl
@[simp] theorem Device.stands_setSc (p : Nat) (v : ScSt) : (d.setSc p v).stands = d.stands := rfl
@[simp] theorem Device.mons_setSc (p : Nat) (v : ScSt) : (d.setSc p v).mons = d.mons := rfl
@[simp] theorem Device.snap_setSc (p : Nat) (v : ScSt) : (d.setSc p v).snap = d.snap := rfl
@[simp] theorem Device.get_setSc (p : Nat) (v : ScSt) (o' : Obj) (p' i' : Nat) : (d.setSc p v).get o' p' i' = d.get o' p' i' := rfl
/-! ### `setStands` -/
@[simp] theorem Device.regs_setStands (p g : Nat) (l : List (Nat × Nat)) : (d.setStands p g l).regs = d.regs := rfl
@[simp] theorem Device.sat_setStands (p g : Nat) (l : List (Nat × Nat)) : (d.setStands p g l).sat = d.sat := rfl
@[simp] theorem Device.domains_setStands (p g : Nat) (l : List (Nat × Nat)) : (d.setStands p g l).domains = d.domains := rfl
@[simp] theorem Device.clock_setStands (p g : Nat) (l : List (Nat × Nat)) : (d.setStands p g l).clock = d.clock := rfl
@[simp] theorem Device.freeCtr_setStands (p g : Nat) (l : List (Nat × Nat)) : (d.setStands p g l).freeCtr = d.freeCtr := rfl
@[simp] theorem Device.nextId_setStands (p g : Nat) (l : List (Nat × Nat)) : (d.setStands p g l).nextId = d.nextId := rfl
@[simp] theorem Device.out_setStands (p g : Nat) (l : List (Nat × Nat)) : (d.setStands p g l).out = d.out := rfl
@[simp] theorem Device.inbox_setStands (p g : Nat) (l : List (Nat × Nat)) : (d.setStands p g l).inbox = d.inbox := rfl
@[simp] theorem Device.hub_setStands (p g : Nat) (l : List (Nat × Nat)) : (d.setStands p g l).hub = d.hub := rfl
@[simp] theorem Device.planes_setStands (p g : Nat) (l : List (Nat × Nat)) : (d.setStands p g l).planes = d.planes := rfl
@[simp] theorem Device.sessions_setStands (p g : Nat) (l : List (Nat × Nat)) : (d.setStands p g l).sessions = d.sessions := rfl
@[simp] theorem Device.ports_setStands (p g : Nat) (l : List (Nat × Nat)) : (d.setStands p g l).ports = d.ports := rfl
@[simp] theorem Device.frames_setStands (p g : Nat) (l : List (Nat × Nat)) : (d.setStands p g l).frames = d.frames := rfl
@[simp] theorem Device.copies_setStands (p g : Nat) (l : List (Nat × Nat)) : (d.setStands p g l).copies = d.copies := rfl
@[simp] theorem Device.flows_setStands (p g : Nat) (l : List (Nat × Nat)) : (d.setStands p g l).flows = d.flows := rfl
@[simp] theorem Device.waitIn_setStands (p g : Nat) (l : List (Nat × Nat)) : (d.setStands p g l).waitIn = d.waitIn := rfl
@[simp] theorem Device.rows_setStands (p g : Nat) (l : List (Nat × Nat)) : (d.setStands p g l).rows = d.rows := rfl
@[simp] theorem Device.lfsr_setStands (p g : Nat) (l : List (Nat × Nat)) : (d.setStands p g l).lfsr = d.lfsr := rfl
@[simp] theorem Device.spray_setStands (p g : Nat) (l : List (Nat × Nat)) : (d.setStands p g l).spray = d.spray := rfl
@[simp] theorem Device.pools_setStands (p g : Nat) (l : List (Nat × Nat)) : (d.setStands p g l).pools = d.pools := rfl
@[simp] theorem Device.outs_setStands (p g : Nat) (l : List (Nat × Nat)) : (d.setStands p g l).outs = d.outs := rfl
@[simp] theorem Device.tqs_setStands (p g : Nat) (l : List (Nat × Nat)) : (d.setStands p g l).tqs = d.tqs := rfl
@[simp] theorem Device.tbs_setStands (p g : Nat) (l : List (Nat × Nat)) : (d.setStands p g l).tbs = d.tbs := rfl
@[simp] theorem Device.pds_setStands (p g : Nat) (l : List (Nat × Nat)) : (d.setStands p g l).pds = d.pds := rfl
@[simp] theorem Device.rctxs_setStands (p g : Nat) (l : List (Nat × Nat)) : (d.setStands p g l).rctxs = d.rctxs := rfl
@[simp] theorem Device.slots_setStands (p g : Nat) (l : List (Nat × Nat)) : (d.setStands p g l).slots = d.slots := rfl
@[simp] theorem Device.notifies_setStands (p g : Nat) (l : List (Nat × Nat)) : (d.setStands p g l).notifies = d.notifies := rfl
@[simp] theorem Device.cctxs_setStands (p g : Nat) (l : List (Nat × Nat)) : (d.setStands p g l).cctxs = d.cctxs := rfl
@[simp] theorem Device.chans_setStands (p g : Nat) (l : List (Nat × Nat)) : (d.setStands p g l).chans = d.chans := rfl
@[simp] theorem Device.cals_setStands (p g : Nat) (l : List (Nat × Nat)) : (d.setStands p g l).cals = d.cals := rfl
@[simp] theorem Device.links_setStands (p g : Nat) (l : List (Nat × Nat)) : (d.setStands p g l).links = d.links := rfl
@[simp] theorem Device.tethers_setStands (p g : Nat) (l : List (Nat × Nat)) : (d.setStands p g l).tethers = d.tethers := rfl
@[simp] theorem Device.tribs_setStands (p g : Nat) (l : List (Nat × Nat)) : (d.setStands p g l).tribs = d.tribs := rfl
@[simp] theorem Device.masters_setStands (p g : Nat) (l : List (Nat × Nat)) : (d.setStands p g l).masters = d.masters := rfl
@[simp] theorem Device.tkeys_setStands (p g : Nat) (l : List (Nat × Nat)) : (d.setStands p g l).tkeys = d.tkeys := rfl
@[simp] theorem Device.keys_setStands (p g : Nat) (l : List (Nat × Nat)) : (d.setStands p g l).keys = d.keys := rfl
@[simp] theorem Device.rgns_setStands (p g : Nat) (l : List (Nat × Nat)) : (d.setStands p g l).rgns = d.rgns := rfl
@[simp] theorem Device.bists_setStands (p g : Nat) (l : List (Nat × Nat)) : (d.setStands p g l).bists = d.bists := rfl
@[simp] theorem Device.mons_setStands (p g : Nat) (l : List (Nat × Nat)) : (d.setStands p g l).mons = d.mons := rfl
@[simp] theorem Device.copiesSc_setStands (p g : Nat) (l : List (Nat × Nat)) : (d.setStands p g l).copiesSc = d.copiesSc := rfl
@[simp] theorem Device.snap_setStands (p g : Nat) (l : List (Nat × Nat)) : (d.setStands p g l).snap = d.snap := rfl
@[simp] theorem Device.get_setStands (p g : Nat) (l : List (Nat × Nat)) (o' : Obj) (p' i' : Nat) : (d.setStands p g l).get o' p' i' = d.get o' p' i' := rfl
/-! ### `setRgn` -/
@[simp] theorem Device.regs_setRgn (p g : Nat) (v : RgnSt) : (d.setRgn p g v).regs = d.regs := rfl
@[simp] theorem Device.sat_setRgn (p g : Nat) (v : RgnSt) : (d.setRgn p g v).sat = d.sat := rfl
@[simp] theorem Device.domains_setRgn (p g : Nat) (v : RgnSt) : (d.setRgn p g v).domains = d.domains := rfl
@[simp] theorem Device.clock_setRgn (p g : Nat) (v : RgnSt) : (d.setRgn p g v).clock = d.clock := rfl
@[simp] theorem Device.freeCtr_setRgn (p g : Nat) (v : RgnSt) : (d.setRgn p g v).freeCtr = d.freeCtr := rfl
@[simp] theorem Device.nextId_setRgn (p g : Nat) (v : RgnSt) : (d.setRgn p g v).nextId = d.nextId := rfl
@[simp] theorem Device.out_setRgn (p g : Nat) (v : RgnSt) : (d.setRgn p g v).out = d.out := rfl
@[simp] theorem Device.inbox_setRgn (p g : Nat) (v : RgnSt) : (d.setRgn p g v).inbox = d.inbox := rfl
@[simp] theorem Device.hub_setRgn (p g : Nat) (v : RgnSt) : (d.setRgn p g v).hub = d.hub := rfl
@[simp] theorem Device.planes_setRgn (p g : Nat) (v : RgnSt) : (d.setRgn p g v).planes = d.planes := rfl
@[simp] theorem Device.sessions_setRgn (p g : Nat) (v : RgnSt) : (d.setRgn p g v).sessions = d.sessions := rfl
@[simp] theorem Device.ports_setRgn (p g : Nat) (v : RgnSt) : (d.setRgn p g v).ports = d.ports := rfl
@[simp] theorem Device.frames_setRgn (p g : Nat) (v : RgnSt) : (d.setRgn p g v).frames = d.frames := rfl
@[simp] theorem Device.copies_setRgn (p g : Nat) (v : RgnSt) : (d.setRgn p g v).copies = d.copies := rfl
@[simp] theorem Device.flows_setRgn (p g : Nat) (v : RgnSt) : (d.setRgn p g v).flows = d.flows := rfl
@[simp] theorem Device.waitIn_setRgn (p g : Nat) (v : RgnSt) : (d.setRgn p g v).waitIn = d.waitIn := rfl
@[simp] theorem Device.rows_setRgn (p g : Nat) (v : RgnSt) : (d.setRgn p g v).rows = d.rows := rfl
@[simp] theorem Device.lfsr_setRgn (p g : Nat) (v : RgnSt) : (d.setRgn p g v).lfsr = d.lfsr := rfl
@[simp] theorem Device.spray_setRgn (p g : Nat) (v : RgnSt) : (d.setRgn p g v).spray = d.spray := rfl
@[simp] theorem Device.pools_setRgn (p g : Nat) (v : RgnSt) : (d.setRgn p g v).pools = d.pools := rfl
@[simp] theorem Device.outs_setRgn (p g : Nat) (v : RgnSt) : (d.setRgn p g v).outs = d.outs := rfl
@[simp] theorem Device.tqs_setRgn (p g : Nat) (v : RgnSt) : (d.setRgn p g v).tqs = d.tqs := rfl
@[simp] theorem Device.tbs_setRgn (p g : Nat) (v : RgnSt) : (d.setRgn p g v).tbs = d.tbs := rfl
@[simp] theorem Device.pds_setRgn (p g : Nat) (v : RgnSt) : (d.setRgn p g v).pds = d.pds := rfl
@[simp] theorem Device.rctxs_setRgn (p g : Nat) (v : RgnSt) : (d.setRgn p g v).rctxs = d.rctxs := rfl
@[simp] theorem Device.slots_setRgn (p g : Nat) (v : RgnSt) : (d.setRgn p g v).slots = d.slots := rfl
@[simp] theorem Device.notifies_setRgn (p g : Nat) (v : RgnSt) : (d.setRgn p g v).notifies = d.notifies := rfl
@[simp] theorem Device.cctxs_setRgn (p g : Nat) (v : RgnSt) : (d.setRgn p g v).cctxs = d.cctxs := rfl
@[simp] theorem Device.chans_setRgn (p g : Nat) (v : RgnSt) : (d.setRgn p g v).chans = d.chans := rfl
@[simp] theorem Device.cals_setRgn (p g : Nat) (v : RgnSt) : (d.setRgn p g v).cals = d.cals := rfl
@[simp] theorem Device.links_setRgn (p g : Nat) (v : RgnSt) : (d.setRgn p g v).links = d.links := rfl
@[simp] theorem Device.tethers_setRgn (p g : Nat) (v : RgnSt) : (d.setRgn p g v).tethers = d.tethers := rfl
@[simp] theorem Device.tribs_setRgn (p g : Nat) (v : RgnSt) : (d.setRgn p g v).tribs = d.tribs := rfl
@[simp] theorem Device.masters_setRgn (p g : Nat) (v : RgnSt) : (d.setRgn p g v).masters = d.masters := rfl
@[simp] theorem Device.tkeys_setRgn (p g : Nat) (v : RgnSt) : (d.setRgn p g v).tkeys = d.tkeys := rfl
@[simp] theorem Device.keys_setRgn (p g : Nat) (v : RgnSt) : (d.setRgn p g v).keys = d.keys := rfl
@[simp] theorem Device.bists_setRgn (p g : Nat) (v : RgnSt) : (d.setRgn p g v).bists = d.bists := rfl
@[simp] theorem Device.stands_setRgn (p g : Nat) (v : RgnSt) : (d.setRgn p g v).stands = d.stands := rfl
@[simp] theorem Device.mons_setRgn (p g : Nat) (v : RgnSt) : (d.setRgn p g v).mons = d.mons := rfl
@[simp] theorem Device.copiesSc_setRgn (p g : Nat) (v : RgnSt) : (d.setRgn p g v).copiesSc = d.copiesSc := rfl
@[simp] theorem Device.snap_setRgn (p g : Nat) (v : RgnSt) : (d.setRgn p g v).snap = d.snap := rfl
@[simp] theorem Device.get_setRgn (p g : Nat) (v : RgnSt) (o' : Obj) (p' i' : Nat) : (d.setRgn p g v).get o' p' i' = d.get o' p' i' := rfl
/-! ### `setMon` -/
@[simp] theorem Device.regs_setMon (p m : Nat) (v : MonSt) : (d.setMon p m v).regs = d.regs := rfl
@[simp] theorem Device.sat_setMon (p m : Nat) (v : MonSt) : (d.setMon p m v).sat = d.sat := rfl
@[simp] theorem Device.domains_setMon (p m : Nat) (v : MonSt) : (d.setMon p m v).domains = d.domains := rfl
@[simp] theorem Device.clock_setMon (p m : Nat) (v : MonSt) : (d.setMon p m v).clock = d.clock := rfl
@[simp] theorem Device.freeCtr_setMon (p m : Nat) (v : MonSt) : (d.setMon p m v).freeCtr = d.freeCtr := rfl
@[simp] theorem Device.nextId_setMon (p m : Nat) (v : MonSt) : (d.setMon p m v).nextId = d.nextId := rfl
@[simp] theorem Device.out_setMon (p m : Nat) (v : MonSt) : (d.setMon p m v).out = d.out := rfl
@[simp] theorem Device.inbox_setMon (p m : Nat) (v : MonSt) : (d.setMon p m v).inbox = d.inbox := rfl
@[simp] theorem Device.hub_setMon (p m : Nat) (v : MonSt) : (d.setMon p m v).hub = d.hub := rfl
@[simp] theorem Device.planes_setMon (p m : Nat) (v : MonSt) : (d.setMon p m v).planes = d.planes := rfl
@[simp] theorem Device.sessions_setMon (p m : Nat) (v : MonSt) : (d.setMon p m v).sessions = d.sessions := rfl
@[simp] theorem Device.ports_setMon (p m : Nat) (v : MonSt) : (d.setMon p m v).ports = d.ports := rfl
@[simp] theorem Device.frames_setMon (p m : Nat) (v : MonSt) : (d.setMon p m v).frames = d.frames := rfl
@[simp] theorem Device.copies_setMon (p m : Nat) (v : MonSt) : (d.setMon p m v).copies = d.copies := rfl
@[simp] theorem Device.flows_setMon (p m : Nat) (v : MonSt) : (d.setMon p m v).flows = d.flows := rfl
@[simp] theorem Device.waitIn_setMon (p m : Nat) (v : MonSt) : (d.setMon p m v).waitIn = d.waitIn := rfl
@[simp] theorem Device.rows_setMon (p m : Nat) (v : MonSt) : (d.setMon p m v).rows = d.rows := rfl
@[simp] theorem Device.lfsr_setMon (p m : Nat) (v : MonSt) : (d.setMon p m v).lfsr = d.lfsr := rfl
@[simp] theorem Device.spray_setMon (p m : Nat) (v : MonSt) : (d.setMon p m v).spray = d.spray := rfl
@[simp] theorem Device.pools_setMon (p m : Nat) (v : MonSt) : (d.setMon p m v).pools = d.pools := rfl
@[simp] theorem Device.outs_setMon (p m : Nat) (v : MonSt) : (d.setMon p m v).outs = d.outs := rfl
@[simp] theorem Device.tqs_setMon (p m : Nat) (v : MonSt) : (d.setMon p m v).tqs = d.tqs := rfl
@[simp] theorem Device.tbs_setMon (p m : Nat) (v : MonSt) : (d.setMon p m v).tbs = d.tbs := rfl
@[simp] theorem Device.pds_setMon (p m : Nat) (v : MonSt) : (d.setMon p m v).pds = d.pds := rfl
@[simp] theorem Device.rctxs_setMon (p m : Nat) (v : MonSt) : (d.setMon p m v).rctxs = d.rctxs := rfl
@[simp] theorem Device.slots_setMon (p m : Nat) (v : MonSt) : (d.setMon p m v).slots = d.slots := rfl
@[simp] theorem Device.notifies_setMon (p m : Nat) (v : MonSt) : (d.setMon p m v).notifies = d.notifies := rfl
@[simp] theorem Device.cctxs_setMon (p m : Nat) (v : MonSt) : (d.setMon p m v).cctxs = d.cctxs := rfl
@[simp] theorem Device.chans_setMon (p m : Nat) (v : MonSt) : (d.setMon p m v).chans = d.chans := rfl
@[simp] theorem Device.cals_setMon (p m : Nat) (v : MonSt) : (d.setMon p m v).cals = d.cals := rfl
@[simp] theorem Device.links_setMon (p m : Nat) (v : MonSt) : (d.setMon p m v).links = d.links := rfl
@[simp] theorem Device.tethers_setMon (p m : Nat) (v : MonSt) : (d.setMon p m v).tethers = d.tethers := rfl
@[simp] theorem Device.tribs_setMon (p m : Nat) (v : MonSt) : (d.setMon p m v).tribs = d.tribs := rfl
@[simp] theorem Device.masters_setMon (p m : Nat) (v : MonSt) : (d.setMon p m v).masters = d.masters := rfl
@[simp] theorem Device.tkeys_setMon (p m : Nat) (v : MonSt) : (d.setMon p m v).tkeys = d.tkeys := rfl
@[simp] theorem Device.keys_setMon (p m : Nat) (v : MonSt) : (d.setMon p m v).keys = d.keys := rfl
@[simp] theorem Device.rgns_setMon (p m : Nat) (v : MonSt) : (d.setMon p m v).rgns = d.rgns := rfl
@[simp] theorem Device.bists_setMon (p m : Nat) (v : MonSt) : (d.setMon p m v).bists = d.bists := rfl
@[simp] theorem Device.stands_setMon (p m : Nat) (v : MonSt) : (d.setMon p m v).stands = d.stands := rfl
@[simp] theorem Device.copiesSc_setMon (p m : Nat) (v : MonSt) : (d.setMon p m v).copiesSc = d.copiesSc := rfl
@[simp] theorem Device.snap_setMon (p m : Nat) (v : MonSt) : (d.setMon p m v).snap = d.snap := rfl
@[simp] theorem Device.get_setMon (p m : Nat) (v : MonSt) (o' : Obj) (p' i' : Nat) : (d.setMon p m v).get o' p' i' = d.get o' p' i' := rfl
/-! ### `setBist` -/
@[simp] theorem Device.regs_setBist (p : Nat) (v : BistSt) : (d.setBist p v).regs = d.regs := rfl
@[simp] theorem Device.sat_setBist (p : Nat) (v : BistSt) : (d.setBist p v).sat = d.sat := rfl
@[simp] theorem Device.domains_setBist (p : Nat) (v : BistSt) : (d.setBist p v).domains = d.domains := rfl
@[simp] theorem Device.clock_setBist (p : Nat) (v : BistSt) : (d.setBist p v).clock = d.clock := rfl
@[simp] theorem Device.freeCtr_setBist (p : Nat) (v : BistSt) : (d.setBist p v).freeCtr = d.freeCtr := rfl
@[simp] theorem Device.nextId_setBist (p : Nat) (v : BistSt) : (d.setBist p v).nextId = d.nextId := rfl
@[simp] theorem Device.out_setBist (p : Nat) (v : BistSt) : (d.setBist p v).out = d.out := rfl
@[simp] theorem Device.inbox_setBist (p : Nat) (v : BistSt) : (d.setBist p v).inbox = d.inbox := rfl
@[simp] theorem Device.hub_setBist (p : Nat) (v : BistSt) : (d.setBist p v).hub = d.hub := rfl
@[simp] theorem Device.planes_setBist (p : Nat) (v : BistSt) : (d.setBist p v).planes = d.planes := rfl
@[simp] theorem Device.sessions_setBist (p : Nat) (v : BistSt) : (d.setBist p v).sessions = d.sessions := rfl
@[simp] theorem Device.ports_setBist (p : Nat) (v : BistSt) : (d.setBist p v).ports = d.ports := rfl
@[simp] theorem Device.frames_setBist (p : Nat) (v : BistSt) : (d.setBist p v).frames = d.frames := rfl
@[simp] theorem Device.copies_setBist (p : Nat) (v : BistSt) : (d.setBist p v).copies = d.copies := rfl
@[simp] theorem Device.flows_setBist (p : Nat) (v : BistSt) : (d.setBist p v).flows = d.flows := rfl
@[simp] theorem Device.waitIn_setBist (p : Nat) (v : BistSt) : (d.setBist p v).waitIn = d.waitIn := rfl
@[simp] theorem Device.rows_setBist (p : Nat) (v : BistSt) : (d.setBist p v).rows = d.rows := rfl
@[simp] theorem Device.lfsr_setBist (p : Nat) (v : BistSt) : (d.setBist p v).lfsr = d.lfsr := rfl
@[simp] theorem Device.spray_setBist (p : Nat) (v : BistSt) : (d.setBist p v).spray = d.spray := rfl
@[simp] theorem Device.pools_setBist (p : Nat) (v : BistSt) : (d.setBist p v).pools = d.pools := rfl
@[simp] theorem Device.outs_setBist (p : Nat) (v : BistSt) : (d.setBist p v).outs = d.outs := rfl
@[simp] theorem Device.tqs_setBist (p : Nat) (v : BistSt) : (d.setBist p v).tqs = d.tqs := rfl
@[simp] theorem Device.tbs_setBist (p : Nat) (v : BistSt) : (d.setBist p v).tbs = d.tbs := rfl
@[simp] theorem Device.pds_setBist (p : Nat) (v : BistSt) : (d.setBist p v).pds = d.pds := rfl
@[simp] theorem Device.rctxs_setBist (p : Nat) (v : BistSt) : (d.setBist p v).rctxs = d.rctxs := rfl
@[simp] theorem Device.slots_setBist (p : Nat) (v : BistSt) : (d.setBist p v).slots = d.slots := rfl
@[simp] theorem Device.notifies_setBist (p : Nat) (v : BistSt) : (d.setBist p v).notifies = d.notifies := rfl
@[simp] theorem Device.cctxs_setBist (p : Nat) (v : BistSt) : (d.setBist p v).cctxs = d.cctxs := rfl
@[simp] theorem Device.chans_setBist (p : Nat) (v : BistSt) : (d.setBist p v).chans = d.chans := rfl
@[simp] theorem Device.cals_setBist (p : Nat) (v : BistSt) : (d.setBist p v).cals = d.cals := rfl
@[simp] theorem Device.links_setBist (p : Nat) (v : BistSt) : (d.setBist p v).links = d.links := rfl
@[simp] theorem Device.tethers_setBist (p : Nat) (v : BistSt) : (d.setBist p v).tethers = d.tethers := rfl
@[simp] theorem Device.tribs_setBist (p : Nat) (v : BistSt) : (d.setBist p v).tribs = d.tribs := rfl
@[simp] theorem Device.masters_setBist (p : Nat) (v : BistSt) : (d.setBist p v).masters = d.masters := rfl
@[simp] theorem Device.tkeys_setBist (p : Nat) (v : BistSt) : (d.setBist p v).tkeys = d.tkeys := rfl
@[simp] theorem Device.keys_setBist (p : Nat) (v : BistSt) : (d.setBist p v).keys = d.keys := rfl
@[simp] theorem Device.rgns_setBist (p : Nat) (v : BistSt) : (d.setBist p v).rgns = d.rgns := rfl
@[simp] theorem Device.stands_setBist (p : Nat) (v : BistSt) : (d.setBist p v).stands = d.stands := rfl
@[simp] theorem Device.mons_setBist (p : Nat) (v : BistSt) : (d.setBist p v).mons = d.mons := rfl
@[simp] theorem Device.copiesSc_setBist (p : Nat) (v : BistSt) : (d.setBist p v).copiesSc = d.copiesSc := rfl
@[simp] theorem Device.snap_setBist (p : Nat) (v : BistSt) : (d.setBist p v).snap = d.snap := rfl
@[simp] theorem Device.get_setBist (p : Nat) (v : BistSt) (o' : Obj) (p' i' : Nat) : (d.setBist p v).get o' p' i' = d.get o' p' i' := rfl
/-! ### `setKeySt` -/
@[simp] theorem Device.regs_setKeySt (p : Nat) (v : KeySt) : (d.setKeySt p v).regs = d.regs := rfl
@[simp] theorem Device.sat_setKeySt (p : Nat) (v : KeySt) : (d.setKeySt p v).sat = d.sat := rfl
@[simp] theorem Device.domains_setKeySt (p : Nat) (v : KeySt) : (d.setKeySt p v).domains = d.domains := rfl
@[simp] theorem Device.clock_setKeySt (p : Nat) (v : KeySt) : (d.setKeySt p v).clock = d.clock := rfl
@[simp] theorem Device.freeCtr_setKeySt (p : Nat) (v : KeySt) : (d.setKeySt p v).freeCtr = d.freeCtr := rfl
@[simp] theorem Device.nextId_setKeySt (p : Nat) (v : KeySt) : (d.setKeySt p v).nextId = d.nextId := rfl
@[simp] theorem Device.out_setKeySt (p : Nat) (v : KeySt) : (d.setKeySt p v).out = d.out := rfl
@[simp] theorem Device.inbox_setKeySt (p : Nat) (v : KeySt) : (d.setKeySt p v).inbox = d.inbox := rfl
@[simp] theorem Device.hub_setKeySt (p : Nat) (v : KeySt) : (d.setKeySt p v).hub = d.hub := rfl
@[simp] theorem Device.planes_setKeySt (p : Nat) (v : KeySt) : (d.setKeySt p v).planes = d.planes := rfl
@[simp] theorem Device.sessions_setKeySt (p : Nat) (v : KeySt) : (d.setKeySt p v).sessions = d.sessions := rfl
@[simp] theorem Device.ports_setKeySt (p : Nat) (v : KeySt) : (d.setKeySt p v).ports = d.ports := rfl
@[simp] theorem Device.frames_setKeySt (p : Nat) (v : KeySt) : (d.setKeySt p v).frames = d.frames := rfl
@[simp] theorem Device.copies_setKeySt (p : Nat) (v : KeySt) : (d.setKeySt p v).copies = d.copies := rfl
@[simp] theorem Device.flows_setKeySt (p : Nat) (v : KeySt) : (d.setKeySt p v).flows = d.flows := rfl
@[simp] theorem Device.waitIn_setKeySt (p : Nat) (v : KeySt) : (d.setKeySt p v).waitIn = d.waitIn := rfl
@[simp] theorem Device.rows_setKeySt (p : Nat) (v : KeySt) : (d.setKeySt p v).rows = d.rows := rfl
@[simp] theorem Device.lfsr_setKeySt (p : Nat) (v : KeySt) : (d.setKeySt p v).lfsr = d.lfsr := rfl
@[simp] theorem Device.spray_setKeySt (p : Nat) (v : KeySt) : (d.setKeySt p v).spray = d.spray := rfl
@[simp] theorem Device.pools_setKeySt (p : Nat) (v : KeySt) : (d.setKeySt p v).pools = d.pools := rfl
@[simp] theorem Device.outs_setKeySt (p : Nat) (v : KeySt) : (d.setKeySt p v).outs = d.outs := rfl
@[simp] theorem Device.tqs_setKeySt (p : Nat) (v : KeySt) : (d.setKeySt p v).tqs = d.tqs := rfl
@[simp] theorem Device.tbs_setKeySt (p : Nat) (v : KeySt) : (d.setKeySt p v).tbs = d.tbs := rfl
@[simp] theorem Device.pds_setKeySt (p : Nat) (v : KeySt) : (d.setKeySt p v).pds = d.pds := rfl
@[simp] theorem Device.rctxs_setKeySt (p : Nat) (v : KeySt) : (d.setKeySt p v).rctxs = d.rctxs := rfl
@[simp] theorem Device.slots_setKeySt (p : Nat) (v : KeySt) : (d.setKeySt p v).slots = d.slots := rfl
@[simp] theorem Device.notifies_setKeySt (p : Nat) (v : KeySt) : (d.setKeySt p v).notifies = d.notifies := rfl
@[simp] theorem Device.cctxs_setKeySt (p : Nat) (v : KeySt) : (d.setKeySt p v).cctxs = d.cctxs := rfl
@[simp] theorem Device.chans_setKeySt (p : Nat) (v : KeySt) : (d.setKeySt p v).chans = d.chans := rfl
@[simp] theorem Device.cals_setKeySt (p : Nat) (v : KeySt) : (d.setKeySt p v).cals = d.cals := rfl
@[simp] theorem Device.links_setKeySt (p : Nat) (v : KeySt) : (d.setKeySt p v).links = d.links := rfl
@[simp] theorem Device.tethers_setKeySt (p : Nat) (v : KeySt) : (d.setKeySt p v).tethers = d.tethers := rfl
@[simp] theorem Device.tribs_setKeySt (p : Nat) (v : KeySt) : (d.setKeySt p v).tribs = d.tribs := rfl
@[simp] theorem Device.masters_setKeySt (p : Nat) (v : KeySt) : (d.setKeySt p v).masters = d.masters := rfl
@[simp] theorem Device.tkeys_setKeySt (p : Nat) (v : KeySt) : (d.setKeySt p v).tkeys = d.tkeys := rfl
@[simp] theorem Device.rgns_setKeySt (p : Nat) (v : KeySt) : (d.setKeySt p v).rgns = d.rgns := rfl
@[simp] theorem Device.bists_setKeySt (p : Nat) (v : KeySt) : (d.setKeySt p v).bists = d.bists := rfl
@[simp] theorem Device.stands_setKeySt (p : Nat) (v : KeySt) : (d.setKeySt p v).stands = d.stands := rfl
@[simp] theorem Device.mons_setKeySt (p : Nat) (v : KeySt) : (d.setKeySt p v).mons = d.mons := rfl
@[simp] theorem Device.copiesSc_setKeySt (p : Nat) (v : KeySt) : (d.setKeySt p v).copiesSc = d.copiesSc := rfl
@[simp] theorem Device.snap_setKeySt (p : Nat) (v : KeySt) : (d.setKeySt p v).snap = d.snap := rfl
@[simp] theorem Device.get_setKeySt (p : Nat) (v : KeySt) (o' : Obj) (p' i' : Nat) : (d.setKeySt p v).get o' p' i' = d.get o' p' i' := rfl
/-! ### `setMaster` -/
@[simp] theorem Device.regs_setMaster (p sel : Nat) (v : MasterSt) : (d.setMaster p sel v).regs = d.regs := rfl
@[simp] theorem Device.sat_setMaster (p sel : Nat) (v : MasterSt) : (d.setMaster p sel v).sat = d.sat := rfl
@[simp] theorem Device.domains_setMaster (p sel : Nat) (v : MasterSt) : (d.setMaster p sel v).domains = d.domains := rfl
@[simp] theorem Device.clock_setMaster (p sel : Nat) (v : MasterSt) : (d.setMaster p sel v).clock = d.clock := rfl
@[simp] theorem Device.freeCtr_setMaster (p sel : Nat) (v : MasterSt) : (d.setMaster p sel v).freeCtr = d.freeCtr := rfl
@[simp] theorem Device.nextId_setMaster (p sel : Nat) (v : MasterSt) : (d.setMaster p sel v).nextId = d.nextId := rfl
@[simp] theorem Device.out_setMaster (p sel : Nat) (v : MasterSt) : (d.setMaster p sel v).out = d.out := rfl
@[simp] theorem Device.inbox_setMaster (p sel : Nat) (v : MasterSt) : (d.setMaster p sel v).inbox = d.inbox := rfl
@[simp] theorem Device.hub_setMaster (p sel : Nat) (v : MasterSt) : (d.setMaster p sel v).hub = d.hub := rfl
@[simp] theorem Device.planes_setMaster (p sel : Nat) (v : MasterSt) : (d.setMaster p sel v).planes = d.planes := rfl
@[simp] theorem Device.sessions_setMaster (p sel : Nat) (v : MasterSt) : (d.setMaster p sel v).sessions = d.sessions := rfl
@[simp] theorem Device.ports_setMaster (p sel : Nat) (v : MasterSt) : (d.setMaster p sel v).ports = d.ports := rfl
@[simp] theorem Device.frames_setMaster (p sel : Nat) (v : MasterSt) : (d.setMaster p sel v).frames = d.frames := rfl
@[simp] theorem Device.copies_setMaster (p sel : Nat) (v : MasterSt) : (d.setMaster p sel v).copies = d.copies := rfl
@[simp] theorem Device.flows_setMaster (p sel : Nat) (v : MasterSt) : (d.setMaster p sel v).flows = d.flows := rfl
@[simp] theorem Device.waitIn_setMaster (p sel : Nat) (v : MasterSt) : (d.setMaster p sel v).waitIn = d.waitIn := rfl
@[simp] theorem Device.rows_setMaster (p sel : Nat) (v : MasterSt) : (d.setMaster p sel v).rows = d.rows := rfl
@[simp] theorem Device.lfsr_setMaster (p sel : Nat) (v : MasterSt) : (d.setMaster p sel v).lfsr = d.lfsr := rfl
@[simp] theorem Device.spray_setMaster (p sel : Nat) (v : MasterSt) : (d.setMaster p sel v).spray = d.spray := rfl
@[simp] theorem Device.pools_setMaster (p sel : Nat) (v : MasterSt) : (d.setMaster p sel v).pools = d.pools := rfl
@[simp] theorem Device.outs_setMaster (p sel : Nat) (v : MasterSt) : (d.setMaster p sel v).outs = d.outs := rfl
@[simp] theorem Device.tqs_setMaster (p sel : Nat) (v : MasterSt) : (d.setMaster p sel v).tqs = d.tqs := rfl
@[simp] theorem Device.tbs_setMaster (p sel : Nat) (v : MasterSt) : (d.setMaster p sel v).tbs = d.tbs := rfl
@[simp] theorem Device.pds_setMaster (p sel : Nat) (v : MasterSt) : (d.setMaster p sel v).pds = d.pds := rfl
@[simp] theorem Device.rctxs_setMaster (p sel : Nat) (v : MasterSt) : (d.setMaster p sel v).rctxs = d.rctxs := rfl
@[simp] theorem Device.slots_setMaster (p sel : Nat) (v : MasterSt) : (d.setMaster p sel v).slots = d.slots := rfl
@[simp] theorem Device.notifies_setMaster (p sel : Nat) (v : MasterSt) : (d.setMaster p sel v).notifies = d.notifies := rfl
@[simp] theorem Device.cctxs_setMaster (p sel : Nat) (v : MasterSt) : (d.setMaster p sel v).cctxs = d.cctxs := rfl
@[simp] theorem Device.chans_setMaster (p sel : Nat) (v : MasterSt) : (d.setMaster p sel v).chans = d.chans := rfl
@[simp] theorem Device.cals_setMaster (p sel : Nat) (v : MasterSt) : (d.setMaster p sel v).cals = d.cals := rfl
@[simp] theorem Device.links_setMaster (p sel : Nat) (v : MasterSt) : (d.setMaster p sel v).links = d.links := rfl
@[simp] theorem Device.tethers_setMaster (p sel : Nat) (v : MasterSt) : (d.setMaster p sel v).tethers = d.tethers := rfl
@[simp] theorem Device.tribs_setMaster (p sel : Nat) (v : MasterSt) : (d.setMaster p sel v).tribs = d.tribs := rfl
@[simp] theorem Device.tkeys_setMaster (p sel : Nat) (v : MasterSt) : (d.setMaster p sel v).tkeys = d.tkeys := rfl
@[simp] theorem Device.keys_setMaster (p sel : Nat) (v : MasterSt) : (d.setMaster p sel v).keys = d.keys := rfl
@[simp] theorem Device.rgns_setMaster (p sel : Nat) (v : MasterSt) : (d.setMaster p sel v).rgns = d.rgns := rfl
@[simp] theorem Device.bists_setMaster (p sel : Nat) (v : MasterSt) : (d.setMaster p sel v).bists = d.bists := rfl
@[simp] theorem Device.stands_setMaster (p sel : Nat) (v : MasterSt) : (d.setMaster p sel v).stands = d.stands := rfl
@[simp] theorem Device.mons_setMaster (p sel : Nat) (v : MasterSt) : (d.setMaster p sel v).mons = d.mons := rfl
@[simp] theorem Device.copiesSc_setMaster (p sel : Nat) (v : MasterSt) : (d.setMaster p sel v).copiesSc = d.copiesSc := rfl
@[simp] theorem Device.snap_setMaster (p sel : Nat) (v : MasterSt) : (d.setMaster p sel v).snap = d.snap := rfl
@[simp] theorem Device.get_setMaster (p sel : Nat) (v : MasterSt) (o' : Obj) (p' i' : Nat) : (d.setMaster p sel v).get o' p' i' = d.get o' p' i' := rfl
/-! ### `setTkey` -/
@[simp] theorem Device.regs_setTkey (p i : Nat) (v : Option TKey) : (d.setTkey p i v).regs = d.regs := rfl
@[simp] theorem Device.sat_setTkey (p i : Nat) (v : Option TKey) : (d.setTkey p i v).sat = d.sat := rfl
@[simp] theorem Device.domains_setTkey (p i : Nat) (v : Option TKey) : (d.setTkey p i v).domains = d.domains := rfl
@[simp] theorem Device.clock_setTkey (p i : Nat) (v : Option TKey) : (d.setTkey p i v).clock = d.clock := rfl
@[simp] theorem Device.freeCtr_setTkey (p i : Nat) (v : Option TKey) : (d.setTkey p i v).freeCtr = d.freeCtr := rfl
@[simp] theorem Device.nextId_setTkey (p i : Nat) (v : Option TKey) : (d.setTkey p i v).nextId = d.nextId := rfl
@[simp] theorem Device.out_setTkey (p i : Nat) (v : Option TKey) : (d.setTkey p i v).out = d.out := rfl
@[simp] theorem Device.inbox_setTkey (p i : Nat) (v : Option TKey) : (d.setTkey p i v).inbox = d.inbox := rfl
@[simp] theorem Device.hub_setTkey (p i : Nat) (v : Option TKey) : (d.setTkey p i v).hub = d.hub := rfl
@[simp] theorem Device.planes_setTkey (p i : Nat) (v : Option TKey) : (d.setTkey p i v).planes = d.planes := rfl
@[simp] theorem Device.sessions_setTkey (p i : Nat) (v : Option TKey) : (d.setTkey p i v).sessions = d.sessions := rfl
@[simp] theorem Device.ports_setTkey (p i : Nat) (v : Option TKey) : (d.setTkey p i v).ports = d.ports := rfl
@[simp] theorem Device.frames_setTkey (p i : Nat) (v : Option TKey) : (d.setTkey p i v).frames = d.frames := rfl
@[simp] theorem Device.copies_setTkey (p i : Nat) (v : Option TKey) : (d.setTkey p i v).copies = d.copies := rfl
@[simp] theorem Device.flows_setTkey (p i : Nat) (v : Option TKey) : (d.setTkey p i v).flows = d.flows := rfl
@[simp] theorem Device.waitIn_setTkey (p i : Nat) (v : Option TKey) : (d.setTkey p i v).waitIn = d.waitIn := rfl
@[simp] theorem Device.rows_setTkey (p i : Nat) (v : Option TKey) : (d.setTkey p i v).rows = d.rows := rfl
@[simp] theorem Device.lfsr_setTkey (p i : Nat) (v : Option TKey) : (d.setTkey p i v).lfsr = d.lfsr := rfl
@[simp] theorem Device.spray_setTkey (p i : Nat) (v : Option TKey) : (d.setTkey p i v).spray = d.spray := rfl
@[simp] theorem Device.pools_setTkey (p i : Nat) (v : Option TKey) : (d.setTkey p i v).pools = d.pools := rfl
@[simp] theorem Device.outs_setTkey (p i : Nat) (v : Option TKey) : (d.setTkey p i v).outs = d.outs := rfl
@[simp] theorem Device.tqs_setTkey (p i : Nat) (v : Option TKey) : (d.setTkey p i v).tqs = d.tqs := rfl
@[simp] theorem Device.tbs_setTkey (p i : Nat) (v : Option TKey) : (d.setTkey p i v).tbs = d.tbs := rfl
@[simp] theorem Device.pds_setTkey (p i : Nat) (v : Option TKey) : (d.setTkey p i v).pds = d.pds := rfl
@[simp] theorem Device.rctxs_setTkey (p i : Nat) (v : Option TKey) : (d.setTkey p i v).rctxs = d.rctxs := rfl
@[simp] theorem Device.slots_setTkey (p i : Nat) (v : Option TKey) : (d.setTkey p i v).slots = d.slots := rfl
@[simp] theorem Device.notifies_setTkey (p i : Nat) (v : Option TKey) : (d.setTkey p i v).notifies = d.notifies := rfl
@[simp] theorem Device.cctxs_setTkey (p i : Nat) (v : Option TKey) : (d.setTkey p i v).cctxs = d.cctxs := rfl
@[simp] theorem Device.chans_setTkey (p i : Nat) (v : Option TKey) : (d.setTkey p i v).chans = d.chans := rfl
@[simp] theorem Device.cals_setTkey (p i : Nat) (v : Option TKey) : (d.setTkey p i v).cals = d.cals := rfl
@[simp] theorem Device.links_setTkey (p i : Nat) (v : Option TKey) : (d.setTkey p i v).links = d.links := rfl
@[simp] theorem Device.tethers_setTkey (p i : Nat) (v : Option TKey) : (d.setTkey p i v).tethers = d.tethers := rfl
@[simp] theorem Device.tribs_setTkey (p i : Nat) (v : Option TKey) : (d.setTkey p i v).tribs = d.tribs := rfl
@[simp] theorem Device.masters_setTkey (p i : Nat) (v : Option TKey) : (d.setTkey p i v).masters = d.masters := rfl
@[simp] theorem Device.keys_setTkey (p i : Nat) (v : Option TKey) : (d.setTkey p i v).keys = d.keys := rfl
@[simp] theorem Device.rgns_setTkey (p i : Nat) (v : Option TKey) : (d.setTkey p i v).rgns = d.rgns := rfl
@[simp] theorem Device.bists_setTkey (p i : Nat) (v : Option TKey) : (d.setTkey p i v).bists = d.bists := rfl
@[simp] theorem Device.stands_setTkey (p i : Nat) (v : Option TKey) : (d.setTkey p i v).stands = d.stands := rfl
@[simp] theorem Device.mons_setTkey (p i : Nat) (v : Option TKey) : (d.setTkey p i v).mons = d.mons := rfl
@[simp] theorem Device.copiesSc_setTkey (p i : Nat) (v : Option TKey) : (d.setTkey p i v).copiesSc = d.copiesSc := rfl
@[simp] theorem Device.snap_setTkey (p i : Nat) (v : Option TKey) : (d.setTkey p i v).snap = d.snap := rfl
@[simp] theorem Device.get_setTkey (p i : Nat) (v : Option TKey) (o' : Obj) (p' i' : Nat) : (d.setTkey p i v).get o' p' i' = d.get o' p' i' := rfl
/-! ### `setLink` -/
@[simp] theorem Device.regs_setLink (p l : Nat) (v : LinkSt) : (d.setLink p l v).regs = d.regs := rfl
@[simp] theorem Device.sat_setLink (p l : Nat) (v : LinkSt) : (d.setLink p l v).sat = d.sat := rfl
@[simp] theorem Device.domains_setLink (p l : Nat) (v : LinkSt) : (d.setLink p l v).domains = d.domains := rfl
@[simp] theorem Device.clock_setLink (p l : Nat) (v : LinkSt) : (d.setLink p l v).clock = d.clock := rfl
@[simp] theorem Device.freeCtr_setLink (p l : Nat) (v : LinkSt) : (d.setLink p l v).freeCtr = d.freeCtr := rfl
@[simp] theorem Device.nextId_setLink (p l : Nat) (v : LinkSt) : (d.setLink p l v).nextId = d.nextId := rfl
@[simp] theorem Device.out_setLink (p l : Nat) (v : LinkSt) : (d.setLink p l v).out = d.out := rfl
@[simp] theorem Device.inbox_setLink (p l : Nat) (v : LinkSt) : (d.setLink p l v).inbox = d.inbox := rfl
@[simp] theorem Device.hub_setLink (p l : Nat) (v : LinkSt) : (d.setLink p l v).hub = d.hub := rfl
@[simp] theorem Device.planes_setLink (p l : Nat) (v : LinkSt) : (d.setLink p l v).planes = d.planes := rfl
@[simp] theorem Device.sessions_setLink (p l : Nat) (v : LinkSt) : (d.setLink p l v).sessions = d.sessions := rfl
@[simp] theorem Device.ports_setLink (p l : Nat) (v : LinkSt) : (d.setLink p l v).ports = d.ports := rfl
@[simp] theorem Device.frames_setLink (p l : Nat) (v : LinkSt) : (d.setLink p l v).frames = d.frames := rfl
@[simp] theorem Device.copies_setLink (p l : Nat) (v : LinkSt) : (d.setLink p l v).copies = d.copies := rfl
@[simp] theorem Device.flows_setLink (p l : Nat) (v : LinkSt) : (d.setLink p l v).flows = d.flows := rfl
@[simp] theorem Device.waitIn_setLink (p l : Nat) (v : LinkSt) : (d.setLink p l v).waitIn = d.waitIn := rfl
@[simp] theorem Device.rows_setLink (p l : Nat) (v : LinkSt) : (d.setLink p l v).rows = d.rows := rfl
@[simp] theorem Device.lfsr_setLink (p l : Nat) (v : LinkSt) : (d.setLink p l v).lfsr = d.lfsr := rfl
@[simp] theorem Device.spray_setLink (p l : Nat) (v : LinkSt) : (d.setLink p l v).spray = d.spray := rfl
@[simp] theorem Device.pools_setLink (p l : Nat) (v : LinkSt) : (d.setLink p l v).pools = d.pools := rfl
@[simp] theorem Device.outs_setLink (p l : Nat) (v : LinkSt) : (d.setLink p l v).outs = d.outs := rfl
@[simp] theorem Device.tqs_setLink (p l : Nat) (v : LinkSt) : (d.setLink p l v).tqs = d.tqs := rfl
@[simp] theorem Device.tbs_setLink (p l : Nat) (v : LinkSt) : (d.setLink p l v).tbs = d.tbs := rfl
@[simp] theorem Device.pds_setLink (p l : Nat) (v : LinkSt) : (d.setLink p l v).pds = d.pds := rfl
@[simp] theorem Device.rctxs_setLink (p l : Nat) (v : LinkSt) : (d.setLink p l v).rctxs = d.rctxs := rfl
@[simp] theorem Device.slots_setLink (p l : Nat) (v : LinkSt) : (d.setLink p l v).slots = d.slots := rfl
@[simp] theorem Device.notifies_setLink (p l : Nat) (v : LinkSt) : (d.setLink p l v).notifies = d.notifies := rfl
@[simp] theorem Device.cctxs_setLink (p l : Nat) (v : LinkSt) : (d.setLink p l v).cctxs = d.cctxs := rfl
@[simp] theorem Device.chans_setLink (p l : Nat) (v : LinkSt) : (d.setLink p l v).chans = d.chans := rfl
@[simp] theorem Device.cals_setLink (p l : Nat) (v : LinkSt) : (d.setLink p l v).cals = d.cals := rfl
@[simp] theorem Device.tethers_setLink (p l : Nat) (v : LinkSt) : (d.setLink p l v).tethers = d.tethers := rfl
@[simp] theorem Device.tribs_setLink (p l : Nat) (v : LinkSt) : (d.setLink p l v).tribs = d.tribs := rfl
@[simp] theorem Device.masters_setLink (p l : Nat) (v : LinkSt) : (d.setLink p l v).masters = d.masters := rfl
@[simp] theorem Device.tkeys_setLink (p l : Nat) (v : LinkSt) : (d.setLink p l v).tkeys = d.tkeys := rfl
@[simp] theorem Device.keys_setLink (p l : Nat) (v : LinkSt) : (d.setLink p l v).keys = d.keys := rfl
@[simp] theorem Device.rgns_setLink (p l : Nat) (v : LinkSt) : (d.setLink p l v).rgns = d.rgns := rfl
@[simp] theorem Device.bists_setLink (p l : Nat) (v : LinkSt) : (d.setLink p l v).bists = d.bists := rfl
@[simp] theorem Device.stands_setLink (p l : Nat) (v : LinkSt) : (d.setLink p l v).stands = d.stands := rfl
@[simp] theorem Device.mons_setLink (p l : Nat) (v : LinkSt) : (d.setLink p l v).mons = d.mons := rfl
@[simp] theorem Device.copiesSc_setLink (p l : Nat) (v : LinkSt) : (d.setLink p l v).copiesSc = d.copiesSc := rfl
@[simp] theorem Device.snap_setLink (p l : Nat) (v : LinkSt) : (d.setLink p l v).snap = d.snap := rfl
@[simp] theorem Device.get_setLink (p l : Nat) (v : LinkSt) (o' : Obj) (p' i' : Nat) : (d.setLink p l v).get o' p' i' = d.get o' p' i' := rfl
/-! ### `setTether` -/
@[simp] theorem Device.regs_setTether (p : Nat) (v : TetherSt) : (d.setTether p v).regs = d.regs := rfl
@[simp] theorem Device.sat_setTether (p : Nat) (v : TetherSt) : (d.setTether p v).sat = d.sat := rfl
@[simp] theorem Device.domains_setTether (p : Nat) (v : TetherSt) : (d.setTether p v).domains = d.domains := rfl
@[simp] theorem Device.clock_setTether (p : Nat) (v : TetherSt) : (d.setTether p v).clock = d.clock := rfl
@[simp] theorem Device.freeCtr_setTether (p : Nat) (v : TetherSt) : (d.setTether p v).freeCtr = d.freeCtr := rfl
@[simp] theorem Device.nextId_setTether (p : Nat) (v : TetherSt) : (d.setTether p v).nextId = d.nextId := rfl
@[simp] theorem Device.out_setTether (p : Nat) (v : TetherSt) : (d.setTether p v).out = d.out := rfl
@[simp] theorem Device.inbox_setTether (p : Nat) (v : TetherSt) : (d.setTether p v).inbox = d.inbox := rfl
@[simp] theorem Device.hub_setTether (p : Nat) (v : TetherSt) : (d.setTether p v).hub = d.hub := rfl
@[simp] theorem Device.planes_setTether (p : Nat) (v : TetherSt) : (d.setTether p v).planes = d.planes := rfl
@[simp] theorem Device.sessions_setTether (p : Nat) (v : TetherSt) : (d.setTether p v).sessions = d.sessions := rfl
@[simp] theorem Device.ports_setTether (p : Nat) (v : TetherSt) : (d.setTether p v).ports = d.ports := rfl
@[simp] theorem Device.frames_setTether (p : Nat) (v : TetherSt) : (d.setTether p v).frames = d.frames := rfl
@[simp] theorem Device.copies_setTether (p : Nat) (v : TetherSt) : (d.setTether p v).copies = d.copies := rfl
@[simp] theorem Device.flows_setTether (p : Nat) (v : TetherSt) : (d.setTether p v).flows = d.flows := rfl
@[simp] theorem Device.waitIn_setTether (p : Nat) (v : TetherSt) : (d.setTether p v).waitIn = d.waitIn := rfl
@[simp] theorem Device.rows_setTether (p : Nat) (v : TetherSt) : (d.setTether p v).rows = d.rows := rfl
@[simp] theorem Device.lfsr_setTether (p : Nat) (v : TetherSt) : (d.setTether p v).lfsr = d.lfsr := rfl
@[simp] theorem Device.spray_setTether (p : Nat) (v : TetherSt) : (d.setTether p v).spray = d.spray := rfl
@[simp] theorem Device.pools_setTether (p : Nat) (v : TetherSt) : (d.setTether p v).pools = d.pools := rfl
@[simp] theorem Device.outs_setTether (p : Nat) (v : TetherSt) : (d.setTether p v).outs = d.outs := rfl
@[simp] theorem Device.tqs_setTether (p : Nat) (v : TetherSt) : (d.setTether p v).tqs = d.tqs := rfl
@[simp] theorem Device.tbs_setTether (p : Nat) (v : TetherSt) : (d.setTether p v).tbs = d.tbs := rfl
@[simp] theorem Device.pds_setTether (p : Nat) (v : TetherSt) : (d.setTether p v).pds = d.pds := rfl
@[simp] theorem Device.rctxs_setTether (p : Nat) (v : TetherSt) : (d.setTether p v).rctxs = d.rctxs := rfl
@[simp] theorem Device.slots_setTether (p : Nat) (v : TetherSt) : (d.setTether p v).slots = d.slots := rfl
@[simp] theorem Device.notifies_setTether (p : Nat) (v : TetherSt) : (d.setTether p v).notifies = d.notifies := rfl
@[simp] theorem Device.cctxs_setTether (p : Nat) (v : TetherSt) : (d.setTether p v).cctxs = d.cctxs := rfl
@[simp] theorem Device.chans_setTether (p : Nat) (v : TetherSt) : (d.setTether p v).chans = d.chans := rfl
@[simp] theorem Device.cals_setTether (p : Nat) (v : TetherSt) : (d.setTether p v).cals = d.cals := rfl
@[simp] theorem Device.links_setTether (p : Nat) (v : TetherSt) : (d.setTether p v).links = d.links := rfl
@[simp] theorem Device.tribs_setTether (p : Nat) (v : TetherSt) : (d.setTether p v).tribs = d.tribs := rfl
@[simp] theorem Device.masters_setTether (p : Nat) (v : TetherSt) : (d.setTether p v).masters = d.masters := rfl
@[simp] theorem Device.tkeys_setTether (p : Nat) (v : TetherSt) : (d.setTether p v).tkeys = d.tkeys := rfl
@[simp] theorem Device.keys_setTether (p : Nat) (v : TetherSt) : (d.setTether p v).keys = d.keys := rfl
@[simp] theorem Device.rgns_setTether (p : Nat) (v : TetherSt) : (d.setTether p v).rgns = d.rgns := rfl
@[simp] theorem Device.bists_setTether (p : Nat) (v : TetherSt) : (d.setTether p v).bists = d.bists := rfl
@[simp] theorem Device.stands_setTether (p : Nat) (v : TetherSt) : (d.setTether p v).stands = d.stands := rfl
@[simp] theorem Device.mons_setTether (p : Nat) (v : TetherSt) : (d.setTether p v).mons = d.mons := rfl
@[simp] theorem Device.copiesSc_setTether (p : Nat) (v : TetherSt) : (d.setTether p v).copiesSc = d.copiesSc := rfl
@[simp] theorem Device.snap_setTether (p : Nat) (v : TetherSt) : (d.setTether p v).snap = d.snap := rfl
@[simp] theorem Device.get_setTether (p : Nat) (v : TetherSt) (o' : Obj) (p' i' : Nat) : (d.setTether p v).get o' p' i' = d.get o' p' i' := rfl
/-! ### `setTrib` -/
@[simp] theorem Device.regs_setTrib (p t : Nat) (v : TribSt) : (d.setTrib p t v).regs = d.regs := rfl
@[simp] theorem Device.sat_setTrib (p t : Nat) (v : TribSt) : (d.setTrib p t v).sat = d.sat := rfl
@[simp] theorem Device.domains_setTrib (p t : Nat) (v : TribSt) : (d.setTrib p t v).domains = d.domains := rfl
@[simp] theorem Device.clock_setTrib (p t : Nat) (v : TribSt) : (d.setTrib p t v).clock = d.clock := rfl
@[simp] theorem Device.freeCtr_setTrib (p t : Nat) (v : TribSt) : (d.setTrib p t v).freeCtr = d.freeCtr := rfl
@[simp] theorem Device.nextId_setTrib (p t : Nat) (v : TribSt) : (d.setTrib p t v).nextId = d.nextId := rfl
@[simp] theorem Device.out_setTrib (p t : Nat) (v : TribSt) : (d.setTrib p t v).out = d.out := rfl
@[simp] theorem Device.inbox_setTrib (p t : Nat) (v : TribSt) : (d.setTrib p t v).inbox = d.inbox := rfl
@[simp] theorem Device.hub_setTrib (p t : Nat) (v : TribSt) : (d.setTrib p t v).hub = d.hub := rfl
@[simp] theorem Device.planes_setTrib (p t : Nat) (v : TribSt) : (d.setTrib p t v).planes = d.planes := rfl
@[simp] theorem Device.sessions_setTrib (p t : Nat) (v : TribSt) : (d.setTrib p t v).sessions = d.sessions := rfl
@[simp] theorem Device.ports_setTrib (p t : Nat) (v : TribSt) : (d.setTrib p t v).ports = d.ports := rfl
@[simp] theorem Device.frames_setTrib (p t : Nat) (v : TribSt) : (d.setTrib p t v).frames = d.frames := rfl
@[simp] theorem Device.copies_setTrib (p t : Nat) (v : TribSt) : (d.setTrib p t v).copies = d.copies := rfl
@[simp] theorem Device.flows_setTrib (p t : Nat) (v : TribSt) : (d.setTrib p t v).flows = d.flows := rfl
@[simp] theorem Device.waitIn_setTrib (p t : Nat) (v : TribSt) : (d.setTrib p t v).waitIn = d.waitIn := rfl
@[simp] theorem Device.rows_setTrib (p t : Nat) (v : TribSt) : (d.setTrib p t v).rows = d.rows := rfl
@[simp] theorem Device.lfsr_setTrib (p t : Nat) (v : TribSt) : (d.setTrib p t v).lfsr = d.lfsr := rfl
@[simp] theorem Device.spray_setTrib (p t : Nat) (v : TribSt) : (d.setTrib p t v).spray = d.spray := rfl
@[simp] theorem Device.pools_setTrib (p t : Nat) (v : TribSt) : (d.setTrib p t v).pools = d.pools := rfl
@[simp] theorem Device.outs_setTrib (p t : Nat) (v : TribSt) : (d.setTrib p t v).outs = d.outs := rfl
@[simp] theorem Device.tqs_setTrib (p t : Nat) (v : TribSt) : (d.setTrib p t v).tqs = d.tqs := rfl
@[simp] theorem Device.tbs_setTrib (p t : Nat) (v : TribSt) : (d.setTrib p t v).tbs = d.tbs := rfl
@[simp] theorem Device.pds_setTrib (p t : Nat) (v : TribSt) : (d.setTrib p t v).pds = d.pds := rfl
@[simp] theorem Device.rctxs_setTrib (p t : Nat) (v : TribSt) : (d.setTrib p t v).rctxs = d.rctxs := rfl
@[simp] theorem Device.slots_setTrib (p t : Nat) (v : TribSt) : (d.setTrib p t v).slots = d.slots := rfl
@[simp] theorem Device.notifies_setTrib (p t : Nat) (v : TribSt) : (d.setTrib p t v).notifies = d.notifies := rfl
@[simp] theorem Device.cctxs_setTrib (p t : Nat) (v : TribSt) : (d.setTrib p t v).cctxs = d.cctxs := rfl
@[simp] theorem Device.chans_setTrib (p t : Nat) (v : TribSt) : (d.setTrib p t v).chans = d.chans := rfl
@[simp] theorem Device.cals_setTrib (p t : Nat) (v : TribSt) : (d.setTrib p t v).cals = d.cals := rfl
@[simp] theorem Device.links_setTrib (p t : Nat) (v : TribSt) : (d.setTrib p t v).links = d.links := rfl
@[simp] theorem Device.tethers_setTrib (p t : Nat) (v : TribSt) : (d.setTrib p t v).tethers = d.tethers := rfl
@[simp] theorem Device.masters_setTrib (p t : Nat) (v : TribSt) : (d.setTrib p t v).masters = d.masters := rfl
@[simp] theorem Device.tkeys_setTrib (p t : Nat) (v : TribSt) : (d.setTrib p t v).tkeys = d.tkeys := rfl
@[simp] theorem Device.keys_setTrib (p t : Nat) (v : TribSt) : (d.setTrib p t v).keys = d.keys := rfl
@[simp] theorem Device.rgns_setTrib (p t : Nat) (v : TribSt) : (d.setTrib p t v).rgns = d.rgns := rfl
@[simp] theorem Device.bists_setTrib (p t : Nat) (v : TribSt) : (d.setTrib p t v).bists = d.bists := rfl
@[simp] theorem Device.stands_setTrib (p t : Nat) (v : TribSt) : (d.setTrib p t v).stands = d.stands := rfl
@[simp] theorem Device.mons_setTrib (p t : Nat) (v : TribSt) : (d.setTrib p t v).mons = d.mons := rfl
@[simp] theorem Device.copiesSc_setTrib (p t : Nat) (v : TribSt) : (d.setTrib p t v).copiesSc = d.copiesSc := rfl
@[simp] theorem Device.snap_setTrib (p t : Nat) (v : TribSt) : (d.setTrib p t v).snap = d.snap := rfl
@[simp] theorem Device.get_setTrib (p t : Nat) (v : TribSt) (o' : Obj) (p' i' : Nat) : (d.setTrib p t v).get o' p' i' = d.get o' p' i' := rfl

/-! ### The registers -/

/-- A register reads as written, cut to its width; every other register keeps its value. -/
theorem Device.get_set (o : Obj) (p i v : Nat) (o' : Obj) (p' i' : Nat) :
    (d.set o p i v).get o' p' i' = if o' = o ∧ p' = p ∧ i' = i then v % 2 ^ o.width else d.get o' p' i' := by
  unfold Device.get Device.set
  by_cases h : o' = o ∧ p' = p ∧ i' = i
  · obtain ⟨rfl, rfl, rfl⟩ := h
    simp [Tbl.get_put]
  · rw [if_neg h]
    exact Tbl.get_put_ne _ _ _ _ _ _ _ (by simpa [Key.mk.injEq] using h)

theorem Device.get_set_same (o : Obj) (p i v : Nat) : (d.set o p i v).get o p i = v % 2 ^ o.width := by
  simp [Device.get_set]

theorem Device.get_set_obj (o : Obj) (p i v : Nat) (o' : Obj) (p' i' : Nat) (h : o' ≠ o) :
    (d.set o p i v).get o' p' i' = d.get o' p' i' := by simp [Device.get_set, h]

/-! ### The tables -/

theorem Device.port_setPort (p n : Nat) (v : PortSt) (p' n' : Nat) :
    (d.setPort p n v).port p' n' = if p' = p ∧ n' = n then v else d.port p' n' := by
  simp [Device.port, Device.setPort, Tbl.get_put]
theorem Device.row_setRow (p r : Nat) (v : RowSt) (p' n' : Nat) :
    (d.setRow p r v).row p' n' = if p' = p ∧ n' = r then v else d.row p' n' := by
  simp [Device.row, Device.setRow, Tbl.get_put]
theorem Device.pool_setPool (p k : Nat) (v : PoolSt) (p' n' : Nat) :
    (d.setPool p k v).pool p' n' = if p' = p ∧ n' = k then v else d.pool p' n' := by
  simp [Device.pool, Device.setPool, Tbl.get_put]
theorem Device.outp_setOutp (p o : Nat) (v : OutSt) (p' n' : Nat) :
    (d.setOutp p o v).outp p' n' = if p' = p ∧ n' = o then v else d.outp p' n' := by
  simp [Device.outp, Device.setOutp, Tbl.get_put]
theorem Device.tb_setTb (p n : Nat) (v : TbSt) (p' n' : Nat) :
    (d.setTb p n v).tb p' n' = if p' = p ∧ n' = n then v else d.tb p' n' := by
  simp [Device.tb, Device.setTb, Tbl.get_put]
theorem Device.pd_setPd (p o : Nat) (v : PdSt) (p' n' : Nat) :
    (d.setPd p o v).pd p' n' = if p' = p ∧ n' = o then v else d.pd p' n' := by
  simp [Device.pd, Device.setPd, Tbl.get_put]
theorem Device.rctx_setRctx (p x : Nat) (v : RctxSt) (p' n' : Nat) :
    (d.setRctx p x v).rctx p' n' = if p' = p ∧ n' = x then v else d.rctx p' n' := by
  simp [Device.rctx, Device.setRctx, Tbl.get_put]
theorem Device.slot_setSlot (p n : Nat) (v : SlotSt) (p' n' : Nat) :
    (d.setSlot p n v).slot p' n' = if p' = p ∧ n' = n then v else d.slot p' n' := by
  simp [Device.slot, Device.setSlot, Tbl.get_put]
theorem Device.cctx_setCctx (p n : Nat) (v : CctxSt) (p' n' : Nat) :
    (d.setCctx p n v).cctx p' n' = if p' = p ∧ n' = n then v else d.cctx p' n' := by
  simp [Device.cctx, Device.setCctx, Tbl.get_put]
theorem Device.chanSt_setChan (p ch : Nat) (v : ChanSt) (p' n' : Nat) :
    (d.setChan p ch v).chanSt p' n' = if p' = p ∧ n' = ch then v else d.chanSt p' n' := by
  simp [Device.chanSt, Device.setChan, Tbl.get_put]
theorem Device.cal_setCal (p c : Nat) (v : CalSt) (p' n' : Nat) :
    (d.setCal p c v).cal p' n' = if p' = p ∧ n' = c then v else d.cal p' n' := by
  simp [Device.cal, Device.setCal, Tbl.get_put]
theorem Device.rgn_setRgn (p g : Nat) (v : RgnSt) (p' n' : Nat) :
    (d.setRgn p g v).rgn p' n' = if p' = p ∧ n' = g then v else d.rgn p' n' := by
  simp [Device.rgn, Device.setRgn, Tbl.get_put]
theorem Device.mon_setMon (p m : Nat) (v : MonSt) (p' n' : Nat) :
    (d.setMon p m v).mon p' n' = if p' = p ∧ n' = m then v else d.mon p' n' := by
  simp [Device.mon, Device.setMon, Tbl.get_put]
theorem Device.master_setMaster (p sel : Nat) (v : MasterSt) (p' n' : Nat) :
    (d.setMaster p sel v).master p' n' = if p' = p ∧ n' = sel then v else d.master p' n' := by
  simp [Device.master, Device.setMaster, Tbl.get_put]
theorem Device.tkey_setTkey (p i : Nat) (v : Option TKey) (p' n' : Nat) :
    (d.setTkey p i v).tkey p' n' = if p' = p ∧ n' = i then v else d.tkey p' n' := by
  simp [Device.tkey, Device.setTkey, Tbl.get_put]
theorem Device.link_setLink (p l : Nat) (v : LinkSt) (p' n' : Nat) :
    (d.setLink p l v).link p' n' = if p' = p ∧ n' = l then v else d.link p' n' := by
  simp [Device.link, Device.setLink, Tbl.get_put]
theorem Device.trib_setTrib (p t : Nat) (v : TribSt) (p' n' : Nat) :
    (d.setTrib p t v).trib p' n' = if p' = p ∧ n' = t then v else d.trib p' n' := by
  simp [Device.trib, Device.setTrib, Tbl.get_put]
theorem Device.plane_setPlane (p : Nat) (v : PlaneSt) (p' : Nat) :
    (d.setPlane p v).plane p' = if p' = p then v else d.plane p' := by
  simp [Device.plane, Device.setPlane, Tbl.get_put]
theorem Device.session_setSession (s : Nat) (v : SessionSt) (p' : Nat) :
    (d.setSession s v).session p' = if p' = s then v else d.session p' := by
  simp [Device.session, Device.setSession, Tbl.get_put]
theorem Device.sc_setSc (p : Nat) (v : ScSt) (p' : Nat) :
    (d.setSc p v).sc p' = if p' = p then v else d.sc p' := by
  simp [Device.sc, Device.setSc, Tbl.get_put]
theorem Device.bist_setBist (p : Nat) (v : BistSt) (p' : Nat) :
    (d.setBist p v).bist p' = if p' = p then v else d.bist p' := by
  simp [Device.bist, Device.setBist, Tbl.get_put]
theorem Device.keySt_setKeySt (p : Nat) (v : KeySt) (p' : Nat) :
    (d.setKeySt p v).keySt p' = if p' = p then v else d.keySt p' := by
  simp [Device.keySt, Device.setKeySt, Tbl.get_put]
theorem Device.tether_setTether (p : Nat) (v : TetherSt) (p' : Nat) :
    (d.setTether p v).tether p' = if p' = p then v else d.tether p' := by
  simp [Device.tether, Device.setTether, Tbl.get_put]

end Sys2Proof.Machine
end

