-- ==== Sys2Proof/Laws/Ops.lean ====
section
/-! SUPPORT. What each shared operation can change, said once: the frame of register writes, counters, causes, event records,
the settling of summaries and pins. -/

namespace Sys2Proof.Machine

/-! ### Frames compose -/

theorem Device.Frame.refl (d : Device) (w : Obj → Nat → Nat → Prop) : Device.Frame d d w :=
  ⟨fun _ _ _ _ _ => rfl, rfl, fun _ => rfl, [], by simp⟩

theorem Device.Frame.trans {d e f : Device} {w : Obj → Nat → Nat → Prop} (h : Device.Frame d e w) (k : Device.Frame e f w) :
    Device.Frame d f w := by
  obtain ⟨l, hl⟩ := h.out
  obtain ⟨m, hm⟩ := k.out
  exact ⟨fun o p i a b => (k.regs o p i a b).trans (h.regs o p i a b), k.parts.trans h.parts,
    fun n => (k.sessions n).trans (h.sessions n), l ++ m, by rw [hm, hl, List.append_assoc]⟩

theorem Device.Frame.mono {d e : Device} {w w' : Obj → Nat → Nat → Prop} (h : Device.Frame d e w)
    (k : ∀ o p i, w o p i → w' o p i) : Device.Frame d e w' :=
  ⟨fun o p i a b => h.regs o p i a (fun x => b (k o p i x)), h.parts, h.sessions, h.out⟩

theorem Device.Frame.foldl {α : Type} {w : Obj → Nat → Nat → Prop} (f : Device → α → Device)
    (hf : ∀ d a, Device.Frame d (f d a) w) (l : List α) : ∀ d, Device.Frame d (l.foldl f d) w := by
  induction l with
  | nil => exact fun d => Device.Frame.refl d w
  | cons a r ih => exact fun d => (hf d a).trans (ih (f d a))

theorem Device.Frame.foldl' {α : Type} {w : Obj → Nat → Nat → Prop} {f : Device → α → Device} {l : List α} {d e : Device}
    (h : Device.Frame d e w) (hf : ∀ d a, Device.Frame d (f d a) w) : Device.Frame d (l.foldl f e) w :=
  h.trans (Device.Frame.foldl f hf l e)

theorem Device.Frame.ite {d a b : Device} {w : Obj → Nat → Nat → Prop} {c : Prop} [Decidable c] (h : Device.Frame d a w)
    (k : Device.Frame d b w) : Device.Frame d (if c then a else b) w := by
  split
  · exact h
  · exact k

/-- Registers that a frame names nothing of. -/
abbrev noRegs : Obj → Nat → Nat → Prop := fun _ _ _ => False

/-! ### Primitive operations -/

theorem Device.frame_set (d : Device) (o : Obj) (p i v : Nat) (w : Obj → Nat → Nat → Prop)
    (h : o.computed = true ∨ w o p i) : Device.Frame d (d.set o p i v) w := by
  refine ⟨fun o' p' i' a b => ?_, rfl, fun _ => rfl, [], by simp⟩
  rw [Device.get_set]
  split
  · rename_i e; obtain ⟨rfl, rfl, rfl⟩ := e
    rcases h with h | h
    · simp [a] at h
    · exact absurd h b
  · rfl

theorem Device.frame_emit (d : Device) (x : Out) (w : Obj → Nat → Nat → Prop) : Device.Frame d (d.emit x) w :=
  ⟨fun _ _ _ _ _ => rfl, rfl, fun _ => rfl, [x], rfl⟩

theorem Device.frame_hub (d : Device) (a b : Bool) (w : Obj → Nat → Nat → Prop) :
    Device.Frame d { d with hub.irqN := a, hub.serviceN := b } w :=
  ⟨fun _ _ _ _ _ => rfl, rfl, fun _ => rfl, [], by simp⟩

theorem Device.frame_session (d : Device) (s : Nat) (v : SessionSt) (w : Obj → Nat → Nat → Prop)
    (h : v.bare = (d.session s).bare) : Device.Frame d (d.setSession s v) w := by
  refine ⟨fun _ _ _ _ _ => rfl, rfl, fun n => ?_, [], by simp⟩
  rw [Device.session_setSession]
  split
  · rename_i e; rw [e, h]
  · rfl

theorem Device.get_sat (d : Device) (l : List Key) (o : Obj) (p i : Nat) : ({ d with sat := l } : Device).get o p i = d.get o p i :=
  rfl

theorem Device.frame_count (d : Device) (o : Obj) (p i n : Nat) (w : Obj → Nat → Nat → Prop)
    (h : o.computed = true ∨ w o p i) : Device.Frame d (d.count o p i n) w := by
  unfold Device.count
  simp only
  split
  · exact d.frame_set _ _ _ _ _ h
  · split
    · exact d.frame_set _ _ _ _ _ h
    · have k := d.frame_set o p i (2 ^ o.width - 1) w h
      exact ⟨k.regs, k.parts, k.sessions, k.out⟩

theorem Device.frame_bump (d : Device) (o : Obj) (p i : Nat) (w : Obj → Nat → Nat → Prop)
    (h : o.computed = true ∨ w o p i) : Device.Frame d (d.bump o p i) w := d.frame_count o p i 1 w h

theorem Device.frame_highWater (d : Device) (o : Obj) (p i v : Nat) (w : Obj → Nat → Nat → Prop)
    (h : o.computed = true ∨ w o p i) : Device.Frame d (d.highWater o p i v) w := by
  unfold Device.highWater
  split
  · exact d.frame_set _ _ _ _ _ h
  · exact .refl d w

/-! ### Event records -/

theorem Device.frame_pushTo (d : Device) (ses : Nat) (r : BitVec 256) (w : Obj → Nat → Nat → Prop) :
    Device.Frame d (d.pushTo ses r) w := by
  unfold Device.pushTo
  refine (Device.frame_session d ses _ w ?_).trans (Device.frame_emit _ _ w)
  rfl

theorem Device.frame_stamps (d : Device) (l : List Nat) (w : Obj → Nat → Nat → Prop) :
    Device.Frame d { d with hub.lastStamp := l } w :=
  ⟨fun _ _ _ _ _ => rfl, rfl, fun _ => rfl, [], by simp⟩

theorem Device.frame_pushRecord (d : Device) (p i b k u st : Nat) (un : Bool) (w : Obj → Nat → Nat → Prop) :
    Device.Frame d (d.pushRecord p i b k u st un) w := by
  unfold Device.pushRecord
  simp only
  apply Device.Frame.foldl'
  · split
    · exact Device.frame_stamps d _ w
    · exact .refl d w
  · intro e n
    split
    · refine Device.Frame.trans (Device.frame_session e n _ w ?_) (Device.frame_pushTo _ _ _ w)
      rfl
    · exact .refl e w

theorem Device.frame_pushEvent (d : Device) (p i b k u st : Nat) (w : Obj → Nat → Nat → Prop) :
    Device.Frame d (d.pushEvent p i b k u st) w := by
  unfold Device.pushEvent
  simp only
  split
  · exact ⟨fun _ _ _ _ _ => rfl, rfl, fun _ => rfl, [], by simp⟩
  · exact Device.frame_pushRecord ..

/-! ### Causes -/

theorem Device.frame_latch (d : Device) (p i b u : Nat) (w : Obj → Nat → Nat → Prop)
    (h : ∀ o p' i', causeRegs p i o p' i' → w o p' i') : Device.Frame d (d.latch p i b u) w := by
  unfold Device.latch
  simp only
  split
  · exact .refl d w
  · refine Device.Frame.trans (Device.Frame.trans (e := if d.get .cause p i = 0 then _ else d) ?_ (Device.frame_set _ .cause p i _ w (Or.inr (h _ _ _ ⟨Or.inl rfl, rfl, rfl⟩)))) (Device.frame_pushEvent ..)
    split
    · exact (Device.frame_set _ _ _ _ _ w (Or.inr (h _ _ _ ⟨Or.inr (Or.inl rfl), rfl, rfl⟩))).trans
        (Device.frame_set _ _ _ _ _ w (Or.inr (h _ _ _ ⟨Or.inr (Or.inr rfl), rfl, rfl⟩)))
    · exact .refl d w

theorem Device.frame_clearCause (d : Device) (p i m : Nat) (w : Obj → Nat → Nat → Prop)
    (h : ∀ o p' i', causeRegs p i o p' i' → w o p' i') : Device.Frame d (d.clearCause p i m) w := by
  unfold Device.clearCause
  simp only
  have h1 := h .cause p i ⟨Or.inl rfl, rfl, rfl⟩
  have h2 := h .causeUnit p i ⟨Or.inr (Or.inl rfl), rfl, rfl⟩
  have h3 := h .causeTime p i ⟨Or.inr (Or.inr rfl), rfl, rfl⟩
  apply Device.Frame.trans (Device.frame_set d .cause p i (andNot 32 (d.get .cause p i) m) w (Or.inr h1))
  apply Device.Frame.trans (Device.Frame.ite (c := andNot 32 (d.get .cause p i) m = 0)
    ((Device.frame_set _ .causeUnit p i 0 w (Or.inr h2)).trans (Device.frame_set _ .causeTime p i 0 w (Or.inr h3)))
    (Device.Frame.refl _ w))
  exact Device.Frame.foldl _ (fun e b => Device.frame_pushEvent ..) _ _

/-! ### Settling -/

theorem Device.frame_settlePlanes (d : Device) (w : Obj → Nat → Nat → Prop) : Device.Frame d d.settlePlanes w :=
  Device.Frame.foldl _ (fun e p => Device.frame_set e .plSummary p 0 _ w (Or.inl rfl)) _ d

theorem Device.frame_setStage (d : Device) (p v : Nat) (w : Obj → Nat → Nat → Prop) : Device.Frame d (d.setStage p v) w :=
  Device.frame_set d .bringupStage 4 0 _ w (Or.inl rfl)

theorem Device.frame_stageOn (d : Device) (p : Nat) (w : Obj → Nat → Nat → Prop) : Device.Frame d (d.stageOn p) w := by
  have go : ∀ (e : Device) (v : Nat) (ok : Bool), Device.Frame e (if e.stage p = v && ok then e.setStage p (v + 1) else e) w :=
    fun e v ok => Device.Frame.ite (Device.frame_setStage e p _ w) (.refl e w)
  unfold Device.stageOn
  simp only
  apply Device.Frame.ite (.refl d w)
  apply Device.Frame.trans (go d 2 (d.lasersReady p))
  apply Device.Frame.trans (go _ 3 _)
  apply Device.Frame.trans (go _ 4 _)
  exact Device.Frame.ite (Device.frame_set _ .bringupTimeMs 4 0 _ w (Or.inl rfl)) (.refl _ w)

theorem Device.frame_settleHub (d : Device) (w : Obj → Nat → Nat → Prop) : Device.Frame d d.settleHub w :=
  (Device.frame_set d .timeSummary 4 0 _ w (Or.inl rfl)).trans (Device.frame_set _ .irqSummary 4 0 _ w (Or.inl rfl))

theorem Device.frame_settlePins (d : Device) (b : Nat) (w : Obj → Nat → Nat → Prop) : Device.Frame d (d.settlePins b) w := by
  unfold Device.settlePins
  simp only
  have step : ∀ (e : Device) (c : Bool) (v : Nat), Device.Frame e (if c then e.emit (.msix v) else e) w := by
    intro e c v
    split
    · exact Device.frame_emit e _ w
    · exact .refl e w
  exact (Device.frame_hub d _ _ w).trans ((step _ _ 1).trans (step _ _ 2))

/-- What follows every command changes only the computed registers, the pins and what has left. -/
theorem Device.frame_settle (d : Device) (w : Obj → Nat → Nat → Prop) : Device.Frame d d.settle w := by
  unfold Device.settle
  simp only
  refine Device.Frame.trans ((Device.frame_settlePlanes d w).trans
    (Device.Frame.foldl _ (fun e p => Device.frame_stageOn e p w) [0, 1, 2, 3] d.settlePlanes)) ?_
  split
  · exact (Device.frame_settleHub _ w).trans (Device.frame_settlePins _ _ w)
  · exact .refl _ w

/-! ### What a frame says of each part -/

end Sys2Proof.Machine
end

