-- ==== Sys2Proof/Laws/Frames.lean ====
section
/-! SUPPORT. What a frame says of each part of the device, and the same for the operations that every command uses. -/

namespace Sys2Proof.Machine

variable {d e : Device} {w : Obj → Nat → Nat → Prop}

theorem Device.Frame.domains (h : Device.Frame d e w) : e.domains = d.domains := (congrArg Device.domains h.parts :)
theorem Device.Frame.clock (h : Device.Frame d e w) : e.clock = d.clock := (congrArg Device.clock h.parts :)
theorem Device.Frame.freeCtr (h : Device.Frame d e w) : e.freeCtr = d.freeCtr := (congrArg Device.freeCtr h.parts :)
theorem Device.Frame.nextId (h : Device.Frame d e w) : e.nextId = d.nextId := (congrArg Device.nextId h.parts :)
theorem Device.Frame.inbox (h : Device.Frame d e w) : e.inbox = d.inbox := (congrArg Device.inbox h.parts :)
theorem Device.Frame.planes (h : Device.Frame d e w) : e.planes = d.planes := (congrArg Device.planes h.parts :)
theorem Device.Frame.ports (h : Device.Frame d e w) : e.ports = d.ports := (congrArg Device.ports h.parts :)
theorem Device.Frame.frames (h : Device.Frame d e w) : e.frames = d.frames := (congrArg Device.frames h.parts :)
theorem Device.Frame.copies (h : Device.Frame d e w) : e.copies = d.copies := (congrArg Device.copies h.parts :)
theorem Device.Frame.flows (h : Device.Frame d e w) : e.flows = d.flows := (congrArg Device.flows h.parts :)
theorem Device.Frame.waitIn (h : Device.Frame d e w) : e.waitIn = d.waitIn := (congrArg Device.waitIn h.parts :)
theorem Device.Frame.rows (h : Device.Frame d e w) : e.rows = d.rows := (congrArg Device.rows h.parts :)
theorem Device.Frame.lfsr (h : Device.Frame d e w) : e.lfsr = d.lfsr := (congrArg Device.lfsr h.parts :)
theorem Device.Frame.spray (h : Device.Frame d e w) : e.spray = d.spray := (congrArg Device.spray h.parts :)
theorem Device.Frame.pools (h : Device.Frame d e w) : e.pools = d.pools := (congrArg Device.pools h.parts :)
theorem Device.Frame.outs (h : Device.Frame d e w) : e.outs = d.outs := (congrArg Device.outs h.parts :)
theorem Device.Frame.tqs (h : Device.Frame d e w) : e.tqs = d.tqs := (congrArg Device.tqs h.parts :)
theorem Device.Frame.tbs (h : Device.Frame d e w) : e.tbs = d.tbs := (congrArg Device.tbs h.parts :)
theorem Device.Frame.pds (h : Device.Frame d e w) : e.pds = d.pds := (congrArg Device.pds h.parts :)
theorem Device.Frame.rctxs (h : Device.Frame d e w) : e.rctxs = d.rctxs := (congrArg Device.rctxs h.parts :)
theorem Device.Frame.slots (h : Device.Frame d e w) : e.slots = d.slots := (congrArg Device.slots h.parts :)
theorem Device.Frame.notifies (h : Device.Frame d e w) : e.notifies = d.notifies := (congrArg Device.notifies h.parts :)
theorem Device.Frame.cctxs (h : Device.Frame d e w) : e.cctxs = d.cctxs := (congrArg Device.cctxs h.parts :)
theorem Device.Frame.chans (h : Device.Frame d e w) : e.chans = d.chans := (congrArg Device.chans h.parts :)
theorem Device.Frame.cals (h : Device.Frame d e w) : e.cals = d.cals := (congrArg Device.cals h.parts :)
theorem Device.Frame.links (h : Device.Frame d e w) : e.links = d.links := (congrArg Device.links h.parts :)
theorem Device.Frame.tethers (h : Device.Frame d e w) : e.tethers = d.tethers := (congrArg Device.tethers h.parts :)
theorem Device.Frame.tribs (h : Device.Frame d e w) : e.tribs = d.tribs := (congrArg Device.tribs h.parts :)
theorem Device.Frame.masters (h : Device.Frame d e w) : e.masters = d.masters := (congrArg Device.masters h.parts :)
theorem Device.Frame.tkeys (h : Device.Frame d e w) : e.tkeys = d.tkeys := (congrArg Device.tkeys h.parts :)
theorem Device.Frame.keys (h : Device.Frame d e w) : e.keys = d.keys := (congrArg Device.keys h.parts :)
theorem Device.Frame.rgns (h : Device.Frame d e w) : e.rgns = d.rgns := (congrArg Device.rgns h.parts :)
theorem Device.Frame.bists (h : Device.Frame d e w) : e.bists = d.bists := (congrArg Device.bists h.parts :)
theorem Device.Frame.stands (h : Device.Frame d e w) : e.stands = d.stands := (congrArg Device.stands h.parts :)
theorem Device.Frame.mons (h : Device.Frame d e w) : e.mons = d.mons := (congrArg Device.mons h.parts :)
theorem Device.Frame.copiesSc (h : Device.Frame d e w) : e.copiesSc = d.copiesSc := (congrArg Device.copiesSc h.parts :)
theorem Device.Frame.snap (h : Device.Frame d e w) : e.snap = d.snap := (congrArg Device.snap h.parts :)
theorem Device.Frame.hub_awaitBoot (h : Device.Frame d e w) : e.hub.awaitBoot = d.hub.awaitBoot := (congrArg (fun x => x.hub.awaitBoot) h.parts :)
theorem Device.Frame.hub_running (h : Device.Frame d e w) : e.hub.running = d.hub.running := (congrArg (fun x => x.hub.running) h.parts :)
theorem Device.Frame.hub_romStay (h : Device.Frame d e w) : e.hub.romStay = d.hub.romStay := (congrArg (fun x => x.hub.romStay) h.parts :)
theorem Device.Frame.hub_silent (h : Device.Frame d e w) : e.hub.silent = d.hub.silent := (congrArg (fun x => x.hub.silent) h.parts :)
theorem Device.Frame.hub_thermTripN (h : Device.Frame d e w) : e.hub.thermTripN = d.hub.thermTripN := (congrArg (fun x => x.hub.thermTripN) h.parts :)
theorem Device.Frame.hub_vddIo (h : Device.Frame d e w) : e.hub.vddIo = d.hub.vddIo := (congrArg (fun x => x.hub.vddIo) h.parts :)
theorem Device.Frame.hub_hostLink (h : Device.Frame d e w) : e.hub.hostLink = d.hub.hostLink := (congrArg (fun x => x.hub.hostLink) h.parts :)
theorem Device.Frame.hub_fmPresent (h : Device.Frame d e w) : e.hub.fmPresent = d.hub.fmPresent := (congrArg (fun x => x.hub.fmPresent) h.parts :)
theorem Device.Frame.hub_lockPendingRelease (h : Device.Frame d e w) : e.hub.lockPendingRelease = d.hub.lockPendingRelease := (congrArg (fun x => x.hub.lockPendingRelease) h.parts :)
theorem Device.Frame.hub_factoryPending (h : Device.Frame d e w) : e.hub.factoryPending = d.hub.factoryPending := (congrArg (fun x => x.hub.factoryPending) h.parts :)
theorem Device.Frame.hub_jnl (h : Device.Frame d e w) : e.hub.jnl = d.hub.jnl := (congrArg (fun x => x.hub.jnl) h.parts :)
theorem Device.Frame.hub_jnlBadReads (h : Device.Frame d e w) : e.hub.jnlBadReads = d.hub.jnlBadReads := (congrArg (fun x => x.hub.jnlBadReads) h.parts :)
theorem Device.Frame.hub_jnlTorn (h : Device.Frame d e w) : e.hub.jnlTorn = d.hub.jnlTorn := (congrArg (fun x => x.hub.jnlTorn) h.parts :)
theorem Device.Frame.hub_jnlTornBytes (h : Device.Frame d e w) : e.hub.jnlTornBytes = d.hub.jnlTornBytes := (congrArg (fun x => x.hub.jnlTornBytes) h.parts :)
theorem Device.Frame.hub_jnlUnreadable (h : Device.Frame d e w) : e.hub.jnlUnreadable = d.hub.jnlUnreadable := (congrArg (fun x => x.hub.jnlUnreadable) h.parts :)
theorem Device.Frame.hub_imgA (h : Device.Frame d e w) : e.hub.imgA = d.hub.imgA := (congrArg (fun x => x.hub.imgA) h.parts :)
theorem Device.Frame.hub_imgB (h : Device.Frame d e w) : e.hub.imgB = d.hub.imgB := (congrArg (fun x => x.hub.imgB) h.parts :)
theorem Device.Frame.hub_mbStatus (h : Device.Frame d e w) : e.hub.mbStatus = d.hub.mbStatus := (congrArg (fun x => x.hub.mbStatus) h.parts :)
theorem Device.Frame.hub_mbIrqEn (h : Device.Frame d e w) : e.hub.mbIrqEn = d.hub.mbIrqEn := (congrArg (fun x => x.hub.mbIrqEn) h.parts :)
theorem Device.Frame.hub_mbIgnored (h : Device.Frame d e w) : e.hub.mbIgnored = d.hub.mbIgnored := (congrArg (fun x => x.hub.mbIgnored) h.parts :)
theorem Device.Frame.hub_mbRequest (h : Device.Frame d e w) : e.hub.mbRequest = d.hub.mbRequest := (congrArg (fun x => x.hub.mbRequest) h.parts :)
theorem Device.Frame.hub_mbResponse (h : Device.Frame d e w) : e.hub.mbResponse = d.hub.mbResponse := (congrArg (fun x => x.hub.mbResponse) h.parts :)
theorem Device.Frame.hub_tripReason (h : Device.Frame d e w) : e.hub.tripReason = d.hub.tripReason := (congrArg (fun x => x.hub.tripReason) h.parts :)
theorem Device.Frame.hub_retireLog (h : Device.Frame d e w) : e.hub.retireLog = d.hub.retireLog := (congrArg (fun x => x.hub.retireLog) h.parts :)
theorem Device.Frame.hub_avsFails (h : Device.Frame d e w) : e.hub.avsFails = d.hub.avsFails := (congrArg (fun x => x.hub.avsFails) h.parts :)
theorem Device.Frame.hub_avsLowSince (h : Device.Frame d e w) : e.hub.avsLowSince = d.hub.avsLowSince := (congrArg (fun x => x.hub.avsLowSince) h.parts :)

theorem Device.Frame.isOpen (h : Device.Frame d e w) (n : Nat) : (e.session n).isOpen = (d.session n).isOpen :=
  (congrArg SessionSt.isOpen (h.sessions n) :)
theorem Device.Frame.fp (h : Device.Frame d e w) (n : Nat) : (e.session n).fp = (d.session n).fp :=
  (congrArg SessionSt.fp (h.sessions n) :)
theorem Device.Frame.plane (h : Device.Frame d e w) (p : Nat) : e.plane p = d.plane p := by
  unfold Device.plane; rw [h.planes]
theorem Device.Frame.port (h : Device.Frame d e w) (p n : Nat) : e.port p n = d.port p n := by
  unfold Device.port; rw [h.ports]
theorem Device.Frame.live (h : Device.Frame d e w) (p : Nat) : e.live p = d.live p := by
  unfold Device.live; rw [h.plane]
theorem Device.Frame.answers (h : Device.Frame d e w) (p : Nat) : e.answers p = d.answers p := by
  unfold Device.answers; rw [h.plane]
theorem Device.Frame.hubUp (h : Device.Frame d e w) : e.hubUp = d.hubUp := by
  unfold Device.hubUp; rw [h.hub_running, h.hub_silent]
theorem Device.Frame.served (h : Device.Frame d e w) (s : Nat) : e.served s = d.served s := by
  unfold Device.served; rw [h.hubUp, h.isOpen]

variable (d)

/-! ### `settle` -/
@[simp] theorem Device.domains_settle : (d.settle).domains = d.domains := (Device.frame_settle d noRegs).domains
@[simp] theorem Device.clock_settle : (d.settle).clock = d.clock := (Device.frame_settle d noRegs).clock
@[simp] theorem Device.freeCtr_settle : (d.settle).freeCtr = d.freeCtr := (Device.frame_settle d noRegs).freeCtr
@[simp] theorem Device.nextId_settle : (d.settle).nextId = d.nextId := (Device.frame_settle d noRegs).nextId
@[simp] theorem Device.inbox_settle : (d.settle).inbox = d.inbox := (Device.frame_settle d noRegs).inbox
@[simp] theorem Device.planes_settle : (d.settle).planes = d.planes := (Device.frame_settle d noRegs).planes
@[simp] theorem Device.ports_settle : (d.settle).ports = d.ports := (Device.frame_settle d noRegs).ports
@[simp] theorem Device.frames_settle : (d.settle).frames = d.frames := (Device.frame_settle d noRegs).frames
@[simp] theorem Device.copies_settle : (d.settle).copies = d.copies := (Device.frame_settle d noRegs).copies
@[simp] theorem Device.flows_settle : (d.settle).flows = d.flows := (Device.frame_settle d noRegs).flows
@[simp] theorem Device.waitIn_settle : (d.settle).waitIn = d.waitIn := (Device.frame_settle d noRegs).waitIn
@[simp] theorem Device.rows_settle : (d.settle).rows = d.rows := (Device.frame_settle d noRegs).rows
@[simp] theorem Device.lfsr_settle : (d.settle).lfsr = d.lfsr := (Device.frame_settle d noRegs).lfsr
@[simp] theorem Device.spray_settle : (d.settle).spray = d.spray := (Device.frame_settle d noRegs).spray
@[simp] theorem Device.pools_settle : (d.settle).pools = d.pools := (Device.frame_settle d noRegs).pools
@[simp] theorem Device.outs_settle : (d.settle).outs = d.outs := (Device.frame_settle d noRegs).outs
@[simp] theorem Device.tqs_settle : (d.settle).tqs = d.tqs := (Device.frame_settle d noRegs).tqs
@[simp] theorem Device.tbs_settle : (d.settle).tbs = d.tbs := (Device.frame_settle d noRegs).tbs
@[simp] theorem Device.pds_settle : (d.settle).pds = d.pds := (Device.frame_settle d noRegs).pds
@[simp] theorem Device.rctxs_settle : (d.settle).rctxs = d.rctxs := (Device.frame_settle d noRegs).rctxs
@[simp] theorem Device.slots_settle : (d.settle).slots = d.slots := (Device.frame_settle d noRegs).slots
@[simp] theorem Device.notifies_settle : (d.settle).notifies = d.notifies := (Device.frame_settle d noRegs).notifies
@[simp] theorem Device.cctxs_settle : (d.settle).cctxs = d.cctxs := (Device.frame_settle d noRegs).cctxs
@[simp] theorem Device.chans_settle : (d.settle).chans = d.chans := (Device.frame_settle d noRegs).chans
@[simp] theorem Device.cals_settle : (d.settle).cals = d.cals := (Device.frame_settle d noRegs).cals
@[simp] theorem Device.links_settle : (d.settle).links = d.links := (Device.frame_settle d noRegs).links
@[simp] theorem Device.tethers_settle : (d.settle).tethers = d.tethers := (Device.frame_settle d noRegs).tethers
@[simp] theorem Device.tribs_settle : (d.settle).tribs = d.tribs := (Device.frame_settle d noRegs).tribs
@[simp] theorem Device.masters_settle : (d.settle).masters = d.masters := (Device.frame_settle d noRegs).masters
@[simp] theorem Device.tkeys_settle : (d.settle).tkeys = d.tkeys := (Device.frame_settle d noRegs).tkeys
@[simp] theorem Device.keys_settle : (d.settle).keys = d.keys := (Device.frame_settle d noRegs).keys
@[simp] theorem Device.rgns_settle : (d.settle).rgns = d.rgns := (Device.frame_settle d noRegs).rgns
@[simp] theorem Device.bists_settle : (d.settle).bists = d.bists := (Device.frame_settle d noRegs).bists
@[simp] theorem Device.stands_settle : (d.settle).stands = d.stands := (Device.frame_settle d noRegs).stands
@[simp] theorem Device.mons_settle : (d.settle).mons = d.mons := (Device.frame_settle d noRegs).mons
@[simp] theorem Device.copiesSc_settle : (d.settle).copiesSc = d.copiesSc := (Device.frame_settle d noRegs).copiesSc
@[simp] theorem Device.snap_settle : (d.settle).snap = d.snap := (Device.frame_settle d noRegs).snap
@[simp] theorem Device.plane_settle (p' : Nat) : (d.settle).plane p' = d.plane p' := (Device.frame_settle d noRegs).plane p'
@[simp] theorem Device.port_settle (p' n' : Nat) : (d.settle).port p' n' = d.port p' n' := (Device.frame_settle d noRegs).port p' n'
@[simp] theorem Device.live_settle (p' : Nat) : (d.settle).live p' = d.live p' := (Device.frame_settle d noRegs).live p'
@[simp] theorem Device.answers_settle (p' : Nat) : (d.settle).answers p' = d.answers p' := (Device.frame_settle d noRegs).answers p'
@[simp] theorem Device.hubUp_settle : (d.settle).hubUp = d.hubUp := (Device.frame_settle d noRegs).hubUp
/-! ### `latch` -/
@[simp] theorem Device.domains_latch (p i b u : Nat) : (d.latch p i b u).domains = d.domains := (Device.frame_latch d p i b u _ (fun _ _ _ x => x)).domains
@[simp] theorem Device.clock_latch (p i b u : Nat) : (d.latch p i b u).clock = d.clock := (Device.frame_latch d p i b u _ (fun _ _ _ x => x)).clock
@[simp] theorem Device.freeCtr_latch (p i b u : Nat) : (d.latch p i b u).freeCtr = d.freeCtr := (Device.frame_latch d p i b u _ (fun _ _ _ x => x)).freeCtr
@[simp] theorem Device.nextId_latch (p i b u : Nat) : (d.latch p i b u).nextId = d.nextId := (Device.frame_latch d p i b u _ (fun _ _ _ x => x)).nextId
@[simp] theorem Device.inbox_latch (p i b u : Nat) : (d.latch p i b u).inbox = d.inbox := (Device.frame_latch d p i b u _ (fun _ _ _ x => x)).inbox
@[simp] theorem Device.planes_latch (p i b u : Nat) : (d.latch p i b u).planes = d.planes := (Device.frame_latch d p i b u _ (fun _ _ _ x => x)).planes
@[simp] theorem Device.ports_latch (p i b u : Nat) : (d.latch p i b u).ports = d.ports := (Device.frame_latch d p i b u _ (fun _ _ _ x => x)).ports
@[simp] theorem Device.frames_latch (p i b u : Nat) : (d.latch p i b u).frames = d.frames := (Device.frame_latch d p i b u _ (fun _ _ _ x => x)).frames
@[simp] theorem Device.copies_latch (p i b u : Nat) : (d.latch p i b u).copies = d.copies := (Device.frame_latch d p i b u _ (fun _ _ _ x => x)).copies
@[simp] theorem Device.flows_latch (p i b u : Nat) : (d.latch p i b u).flows = d.flows := (Device.frame_latch d p i b u _ (fun _ _ _ x => x)).flows
@[simp] theorem Device.waitIn_latch (p i b u : Nat) : (d.latch p i b u).waitIn = d.waitIn := (Device.frame_latch d p i b u _ (fun _ _ _ x => x)).waitIn
@[simp] theorem Device.rows_latch (p i b u : Nat) : (d.latch p i b u).rows = d.rows := (Device.frame_latch d p i b u _ (fun _ _ _ x => x)).rows
@[simp] theorem Device.lfsr_latch (p i b u : Nat) : (d.latch p i b u).lfsr = d.lfsr := (Device.frame_latch d p i b u _ (fun _ _ _ x => x)).lfsr
@[simp] theorem Device.spray_latch (p i b u : Nat) : (d.latch p i b u).spray = d.spray := (Device.frame_latch d p i b u _ (fun _ _ _ x => x)).spray
@[simp] theorem Device.pools_latch (p i b u : Nat) : (d.latch p i b u).pools = d.pools := (Device.frame_latch d p i b u _ (fun _ _ _ x => x)).pools
@[simp] theorem Device.outs_latch (p i b u : Nat) : (d.latch p i b u).outs = d.outs := (Device.frame_latch d p i b u _ (fun _ _ _ x => x)).outs
@[simp] theorem Device.tqs_latch (p i b u : Nat) : (d.latch p i b u).tqs = d.tqs := (Device.frame_latch d p i b u _ (fun _ _ _ x => x)).tqs
@[simp] theorem Device.tbs_latch (p i b u : Nat) : (d.latch p i b u).tbs = d.tbs := (Device.frame_latch d p i b u _ (fun _ _ _ x => x)).tbs
@[simp] theorem Device.pds_latch (p i b u : Nat) : (d.latch p i b u).pds = d.pds := (Device.frame_latch d p i b u _ (fun _ _ _ x => x)).pds
@[simp] theorem Device.rctxs_latch (p i b u : Nat) : (d.latch p i b u).rctxs = d.rctxs := (Device.frame_latch d p i b u _ (fun _ _ _ x => x)).rctxs
@[simp] theorem Device.slots_latch (p i b u : Nat) : (d.latch p i b u).slots = d.slots := (Device.frame_latch d p i b u _ (fun _ _ _ x => x)).slots
@[simp] theorem Device.notifies_latch (p i b u : Nat) : (d.latch p i b u).notifies = d.notifies := (Device.frame_latch d p i b u _ (fun _ _ _ x => x)).notifies
@[simp] theorem Device.cctxs_latch (p i b u : Nat) : (d.latch p i b u).cctxs = d.cctxs := (Device.frame_latch d p i b u _ (fun _ _ _ x => x)).cctxs
@[simp] theorem Device.chans_latch (p i b u : Nat) : (d.latch p i b u).chans = d.chans := (Device.frame_latch d p i b u _ (fun _ _ _ x => x)).chans
@[simp] theorem Device.cals_latch (p i b u : Nat) : (d.latch p i b u).cals = d.cals := (Device.frame_latch d p i b u _ (fun _ _ _ x => x)).cals
@[simp] theorem Device.links_latch (p i b u : Nat) : (d.latch p i b u).links = d.links := (Device.frame_latch d p i b u _ (fun _ _ _ x => x)).links
@[simp] theorem Device.tethers_latch (p i b u : Nat) : (d.latch p i b u).tethers = d.tethers := (Device.frame_latch d p i b u _ (fun _ _ _ x => x)).tethers
@[simp] theorem Device.tribs_latch (p i b u : Nat) : (d.latch p i b u).tribs = d.tribs := (Device.frame_latch d p i b u _ (fun _ _ _ x => x)).tribs
@[simp] theorem Device.masters_latch (p i b u : Nat) : (d.latch p i b u).masters = d.masters := (Device.frame_latch d p i b u _ (fun _ _ _ x => x)).masters
@[simp] theorem Device.tkeys_latch (p i b u : Nat) : (d.latch p i b u).tkeys = d.tkeys := (Device.frame_latch d p i b u _ (fun _ _ _ x => x)).tkeys
@[simp] theorem Device.keys_latch (p i b u : Nat) : (d.latch p i b u).keys = d.keys := (Device.frame_latch d p i b u _ (fun _ _ _ x => x)).keys
@[simp] theorem Device.rgns_latch (p i b u : Nat) : (d.latch p i b u).rgns = d.rgns := (Device.frame_latch d p i b u _ (fun _ _ _ x => x)).rgns
@[simp] theorem Device.bists_latch (p i b u : Nat) : (d.latch p i b u).bists = d.bists := (Device.frame_latch d p i b u _ (fun _ _ _ x => x)).bists
@[simp] theorem Device.stands_latch (p i b u : Nat) : (d.latch p i b u).stands = d.stands := (Device.frame_latch d p i b u _ (fun _ _ _ x => x)).stands
@[simp] theorem Device.mons_latch (p i b u : Nat) : (d.latch p i b u).mons = d.mons := (Device.frame_latch d p i b u _ (fun _ _ _ x => x)).mons
@[simp] theorem Device.copiesSc_latch (p i b u : Nat) : (d.latch p i b u).copiesSc = d.copiesSc := (Device.frame_latch d p i b u _ (fun _ _ _ x => x)).copiesSc
@[simp] theorem Device.snap_latch (p i b u : Nat) : (d.latch p i b u).snap = d.snap := (Device.frame_latch d p i b u _ (fun _ _ _ x => x)).snap
@[simp] theorem Device.plane_latch (p i b u : Nat) (p' : Nat) : (d.latch p i b u).plane p' = d.plane p' := (Device.frame_latch d p i b u _ (fun _ _ _ x => x)).plane p'
@[simp] theorem Device.port_latch (p i b u : Nat) (p' n' : Nat) : (d.latch p i b u).port p' n' = d.port p' n' := (Device.frame_latch d p i b u _ (fun _ _ _ x => x)).port p' n'
@[simp] theorem Device.live_latch (p i b u : Nat) (p' : Nat) : (d.latch p i b u).live p' = d.live p' := (Device.frame_latch d p i b u _ (fun _ _ _ x => x)).live p'
@[simp] theorem Device.answers_latch (p i b u : Nat) (p' : Nat) : (d.latch p i b u).answers p' = d.answers p' := (Device.frame_latch d p i b u _ (fun _ _ _ x => x)).answers p'
@[simp] theorem Device.hubUp_latch (p i b u : Nat) : (d.latch p i b u).hubUp = d.hubUp := (Device.frame_latch d p i b u _ (fun _ _ _ x => x)).hubUp
/-! ### `clearCause` -/
@[simp] theorem Device.domains_clearCause (p i m : Nat) : (d.clearCause p i m).domains = d.domains := (Device.frame_clearCause d p i m _ (fun _ _ _ x => x)).domains
@[simp] theorem Device.clock_clearCause (p i m : Nat) : (d.clearCause p i m).clock = d.clock := (Device.frame_clearCause d p i m _ (fun _ _ _ x => x)).clock
@[simp] theorem Device.freeCtr_clearCause (p i m : Nat) : (d.clearCause p i m).freeCtr = d.freeCtr := (Device.frame_clearCause d p i m _ (fun _ _ _ x => x)).freeCtr
@[simp] theorem Device.nextId_clearCause (p i m : Nat) : (d.clearCause p i m).nextId = d.nextId := (Device.frame_clearCause d p i m _ (fun _ _ _ x => x)).nextId
@[simp] theorem Device.inbox_clearCause (p i m : Nat) : (d.clearCause p i m).inbox = d.inbox := (Device.frame_clearCause d p i m _ (fun _ _ _ x => x)).inbox
@[simp] theorem Device.planes_clearCause (p i m : Nat) : (d.clearCause p i m).planes = d.planes := (Device.frame_clearCause d p i m _ (fun _ _ _ x => x)).planes
@[simp] theorem Device.ports_clearCause (p i m : Nat) : (d.clearCause p i m).ports = d.ports := (Device.frame_clearCause d p i m _ (fun _ _ _ x => x)).ports
@[simp] theorem Device.frames_clearCause (p i m : Nat) : (d.clearCause p i m).frames = d.frames := (Device.frame_clearCause d p i m _ (fun _ _ _ x => x)).frames
@[simp] theorem Device.copies_clearCause (p i m : Nat) : (d.clearCause p i m).copies = d.copies := (Device.frame_clearCause d p i m _ (fun _ _ _ x => x)).copies
@[simp] theorem Device.flows_clearCause (p i m : Nat) : (d.clearCause p i m).flows = d.flows := (Device.frame_clearCause d p i m _ (fun _ _ _ x => x)).flows
@[simp] theorem Device.waitIn_clearCause (p i m : Nat) : (d.clearCause p i m).waitIn = d.waitIn := (Device.frame_clearCause d p i m _ (fun _ _ _ x => x)).waitIn
@[simp] theorem Device.rows_clearCause (p i m : Nat) : (d.clearCause p i m).rows = d.rows := (Device.frame_clearCause d p i m _ (fun _ _ _ x => x)).rows
@[simp] theorem Device.lfsr_clearCause (p i m : Nat) : (d.clearCause p i m).lfsr = d.lfsr := (Device.frame_clearCause d p i m _ (fun _ _ _ x => x)).lfsr
@[simp] theorem Device.spray_clearCause (p i m : Nat) : (d.clearCause p i m).spray = d.spray := (Device.frame_clearCause d p i m _ (fun _ _ _ x => x)).spray
@[simp] theorem Device.pools_clearCause (p i m : Nat) : (d.clearCause p i m).pools = d.pools := (Device.frame_clearCause d p i m _ (fun _ _ _ x => x)).pools
@[simp] theorem Device.outs_clearCause (p i m : Nat) : (d.clearCause p i m).outs = d.outs := (Device.frame_clearCause d p i m _ (fun _ _ _ x => x)).outs
@[simp] theorem Device.tqs_clearCause (p i m : Nat) : (d.clearCause p i m).tqs = d.tqs := (Device.frame_clearCause d p i m _ (fun _ _ _ x => x)).tqs
@[simp] theorem Device.tbs_clearCause (p i m : Nat) : (d.clearCause p i m).tbs = d.tbs := (Device.frame_clearCause d p i m _ (fun _ _ _ x => x)).tbs
@[simp] theorem Device.pds_clearCause (p i m : Nat) : (d.clearCause p i m).pds = d.pds := (Device.frame_clearCause d p i m _ (fun _ _ _ x => x)).pds
@[simp] theorem Device.rctxs_clearCause (p i m : Nat) : (d.clearCause p i m).rctxs = d.rctxs := (Device.frame_clearCause d p i m _ (fun _ _ _ x => x)).rctxs
@[simp] theorem Device.slots_clearCause (p i m : Nat) : (d.clearCause p i m).slots = d.slots := (Device.frame_clearCause d p i m _ (fun _ _ _ x => x)).slots
@[simp] theorem Device.notifies_clearCause (p i m : Nat) : (d.clearCause p i m).notifies = d.notifies := (Device.frame_clearCause d p i m _ (fun _ _ _ x => x)).notifies
@[simp] theorem Device.cctxs_clearCause (p i m : Nat) : (d.clearCause p i m).cctxs = d.cctxs := (Device.frame_clearCause d p i m _ (fun _ _ _ x => x)).cctxs
@[simp] theorem Device.chans_clearCause (p i m : Nat) : (d.clearCause p i m).chans = d.chans := (Device.frame_clearCause d p i m _ (fun _ _ _ x => x)).chans
@[simp] theorem Device.cals_clearCause (p i m : Nat) : (d.clearCause p i m).cals = d.cals := (Device.frame_clearCause d p i m _ (fun _ _ _ x => x)).cals
@[simp] theorem Device.links_clearCause (p i m : Nat) : (d.clearCause p i m).links = d.links := (Device.frame_clearCause d p i m _ (fun _ _ _ x => x)).links
@[simp] theorem Device.tethers_clearCause (p i m : Nat) : (d.clearCause p i m).tethers = d.tethers := (Device.frame_clearCause d p i m _ (fun _ _ _ x => x)).tethers
@[simp] theorem Device.tribs_clearCause (p i m : Nat) : (d.clearCause p i m).tribs = d.tribs := (Device.frame_clearCause d p i m _ (fun _ _ _ x => x)).tribs
@[simp] theorem Device.masters_clearCause (p i m : Nat) : (d.clearCause p i m).masters = d.masters := (Device.frame_clearCause d p i m _ (fun _ _ _ x => x)).masters
@[simp] theorem Device.tkeys_clearCause (p i m : Nat) : (d.clearCause p i m).tkeys = d.tkeys := (Device.frame_clearCause d p i m _ (fun _ _ _ x => x)).tkeys
@[simp] theorem Device.keys_clearCause (p i m : Nat) : (d.clearCause p i m).keys = d.keys := (Device.frame_clearCause d p i m _ (fun _ _ _ x => x)).keys
@[simp] theorem Device.rgns_clearCause (p i m : Nat) : (d.clearCause p i m).rgns = d.rgns := (Device.frame_clearCause d p i m _ (fun _ _ _ x => x)).rgns
@[simp] theorem Device.bists_clearCause (p i m : Nat) : (d.clearCause p i m).bists = d.bists := (Device.frame_clearCause d p i m _ (fun _ _ _ x => x)).bists
@[simp] theorem Device.stands_clearCause (p i m : Nat) : (d.clearCause p i m).stands = d.stands := (Device.frame_clearCause d p i m _ (fun _ _ _ x => x)).stands
@[simp] theorem Device.mons_clearCause (p i m : Nat) : (d.clearCause p i m).mons = d.mons := (Device.frame_clearCause d p i m _ (fun _ _ _ x => x)).mons
@[simp] theorem Device.copiesSc_clearCause (p i m : Nat) : (d.clearCause p i m).copiesSc = d.copiesSc := (Device.frame_clearCause d p i m _ (fun _ _ _ x => x)).copiesSc
@[simp] theorem Device.snap_clearCause (p i m : Nat) : (d.clearCause p i m).snap = d.snap := (Device.frame_clearCause d p i m _ (fun _ _ _ x => x)).snap
@[simp] theorem Device.plane_clearCause (p i m : Nat) (p' : Nat) : (d.clearCause p i m).plane p' = d.plane p' := (Device.frame_clearCause d p i m _ (fun _ _ _ x => x)).plane p'
@[simp] theorem Device.port_clearCause (p i m : Nat) (p' n' : Nat) : (d.clearCause p i m).port p' n' = d.port p' n' := (Device.frame_clearCause d p i m _ (fun _ _ _ x => x)).port p' n'
@[simp] theorem Device.live_clearCause (p i m : Nat) (p' : Nat) : (d.clearCause p i m).live p' = d.live p' := (Device.frame_clearCause d p i m _ (fun _ _ _ x => x)).live p'
@[simp] theorem Device.answers_clearCause (p i m : Nat) (p' : Nat) : (d.clearCause p i m).answers p' = d.answers p' := (Device.frame_clearCause d p i m _ (fun _ _ _ x => x)).answers p'
@[simp] theorem Device.hubUp_clearCause (p i m : Nat) : (d.clearCause p i m).hubUp = d.hubUp := (Device.frame_clearCause d p i m _ (fun _ _ _ x => x)).hubUp
/-! ### `pushEvent` -/
@[simp] theorem Device.domains_pushEvent (p i b k u st : Nat) : (d.pushEvent p i b k u st).domains = d.domains := (Device.frame_pushEvent d p i b k u st noRegs).domains
@[simp] theorem Device.clock_pushEvent (p i b k u st : Nat) : (d.pushEvent p i b k u st).clock = d.clock := (Device.frame_pushEvent d p i b k u st noRegs).clock
@[simp] theorem Device.freeCtr_pushEvent (p i b k u st : Nat) : (d.pushEvent p i b k u st).freeCtr = d.freeCtr := (Device.frame_pushEvent d p i b k u st noRegs).freeCtr
@[simp] theorem Device.nextId_pushEvent (p i b k u st : Nat) : (d.pushEvent p i b k u st).nextId = d.nextId := (Device.frame_pushEvent d p i b k u st noRegs).nextId
@[simp] theorem Device.inbox_pushEvent (p i b k u st : Nat) : (d.pushEvent p i b k u st).inbox = d.inbox := (Device.frame_pushEvent d p i b k u st noRegs).inbox
@[simp] theorem Device.planes_pushEvent (p i b k u st : Nat) : (d.pushEvent p i b k u st).planes = d.planes := (Device.frame_pushEvent d p i b k u st noRegs).planes
@[simp] theorem Device.ports_pushEvent (p i b k u st : Nat) : (d.pushEvent p i b k u st).ports = d.ports := (Device.frame_pushEvent d p i b k u st noRegs).ports
@[simp] theorem Device.frames_pushEvent (p i b k u st : Nat) : (d.pushEvent p i b k u st).frames = d.frames := (Device.frame_pushEvent d p i b k u st noRegs).frames
@[simp] theorem Device.copies_pushEvent (p i b k u st : Nat) : (d.pushEvent p i b k u st).copies = d.copies := (Device.frame_pushEvent d p i b k u st noRegs).copies
@[simp] theorem Device.flows_pushEvent (p i b k u st : Nat) : (d.pushEvent p i b k u st).flows = d.flows := (Device.frame_pushEvent d p i b k u st noRegs).flows
@[simp] theorem Device.waitIn_pushEvent (p i b k u st : Nat) : (d.pushEvent p i b k u st).waitIn = d.waitIn := (Device.frame_pushEvent d p i b k u st noRegs).waitIn
@[simp] theorem Device.rows_pushEvent (p i b k u st : Nat) : (d.pushEvent p i b k u st).rows = d.rows := (Device.frame_pushEvent d p i b k u st noRegs).rows
@[simp] theorem Device.lfsr_pushEvent (p i b k u st : Nat) : (d.pushEvent p i b k u st).lfsr = d.lfsr := (Device.frame_pushEvent d p i b k u st noRegs).lfsr
@[simp] theorem Device.spray_pushEvent (p i b k u st : Nat) : (d.pushEvent p i b k u st).spray = d.spray := (Device.frame_pushEvent d p i b k u st noRegs).spray
@[simp] theorem Device.pools_pushEvent (p i b k u st : Nat) : (d.pushEvent p i b k u st).pools = d.pools := (Device.frame_pushEvent d p i b k u st noRegs).pools
@[simp] theorem Device.outs_pushEvent (p i b k u st : Nat) : (d.pushEvent p i b k u st).outs = d.outs := (Device.frame_pushEvent d p i b k u st noRegs).outs
@[simp] theorem Device.tqs_pushEvent (p i b k u st : Nat) : (d.pushEvent p i b k u st).tqs = d.tqs := (Device.frame_pushEvent d p i b k u st noRegs).tqs
@[simp] theorem Device.tbs_pushEvent (p i b k u st : Nat) : (d.pushEvent p i b k u st).tbs = d.tbs := (Device.frame_pushEvent d p i b k u st noRegs).tbs
@[simp] theorem Device.pds_pushEvent (p i b k u st : Nat) : (d.pushEvent p i b k u st).pds = d.pds := (Device.frame_pushEvent d p i b k u st noRegs).pds
@[simp] theorem Device.rctxs_pushEvent (p i b k u st : Nat) : (d.pushEvent p i b k u st).rctxs = d.rctxs := (Device.frame_pushEvent d p i b k u st noRegs).rctxs
@[simp] theorem Device.slots_pushEvent (p i b k u st : Nat) : (d.pushEvent p i b k u st).slots = d.slots := (Device.frame_pushEvent d p i b k u st noRegs).slots
@[simp] theorem Device.notifies_pushEvent (p i b k u st : Nat) : (d.pushEvent p i b k u st).notifies = d.notifies := (Device.frame_pushEvent d p i b k u st noRegs).notifies
@[simp] theorem Device.cctxs_pushEvent (p i b k u st : Nat) : (d.pushEvent p i b k u st).cctxs = d.cctxs := (Device.frame_pushEvent d p i b k u st noRegs).cctxs
@[simp] theorem Device.chans_pushEvent (p i b k u st : Nat) : (d.pushEvent p i b k u st).chans = d.chans := (Device.frame_pushEvent d p i b k u st noRegs).chans
@[simp] theorem Device.cals_pushEvent (p i b k u st : Nat) : (d.pushEvent p i b k u st).cals = d.cals := (Device.frame_pushEvent d p i b k u st noRegs).cals
@[simp] theorem Device.links_pushEvent (p i b k u st : Nat) : (d.pushEvent p i b k u st).links = d.links := (Device.frame_pushEvent d p i b k u st noRegs).links
@[simp] theorem Device.tethers_pushEvent (p i b k u st : Nat) : (d.pushEvent p i b k u st).tethers = d.tethers := (Device.frame_pushEvent d p i b k u st noRegs).tethers
@[simp] theorem Device.tribs_pushEvent (p i b k u st : Nat) : (d.pushEvent p i b k u st).tribs = d.tribs := (Device.frame_pushEvent d p i b k u st noRegs).tribs
@[simp] theorem Device.masters_pushEvent (p i b k u st : Nat) : (d.pushEvent p i b k u st).masters = d.masters := (Device.frame_pushEvent d p i b k u st noRegs).masters
@[simp] theorem Device.tkeys_pushEvent (p i b k u st : Nat) : (d.pushEvent p i b k u st).tkeys = d.tkeys := (Device.frame_pushEvent d p i b k u st noRegs).tkeys
@[simp] theorem Device.keys_pushEvent (p i b k u st : Nat) : (d.pushEvent p i b k u st).keys = d.keys := (Device.frame_pushEvent d p i b k u st noRegs).keys
@[simp] theorem Device.rgns_pushEvent (p i b k u st : Nat) : (d.pushEvent p i b k u st).rgns = d.rgns := (Device.frame_pushEvent d p i b k u st noRegs).rgns
@[simp] theorem Device.bists_pushEvent (p i b k u st : Nat) : (d.pushEvent p i b k u st).bists = d.bists := (Device.frame_pushEvent d p i b k u st noRegs).bists
@[simp] theorem Device.stands_pushEvent (p i b k u st : Nat) : (d.pushEvent p i b k u st).stands = d.stands := (Device.frame_pushEvent d p i b k u st noRegs).stands
@[simp] theorem Device.mons_pushEvent (p i b k u st : Nat) : (d.pushEvent p i b k u st).mons = d.mons := (Device.frame_pushEvent d p i b k u st noRegs).mons
@[simp] theorem Device.copiesSc_pushEvent (p i b k u st : Nat) : (d.pushEvent p i b k u st).copiesSc = d.copiesSc := (Device.frame_pushEvent d p i b k u st noRegs).copiesSc
@[simp] theorem Device.snap_pushEvent (p i b k u st : Nat) : (d.pushEvent p i b k u st).snap = d.snap := (Device.frame_pushEvent d p i b k u st noRegs).snap
@[simp] theorem Device.plane_pushEvent (p i b k u st : Nat) (p' : Nat) : (d.pushEvent p i b k u st).plane p' = d.plane p' := (Device.frame_pushEvent d p i b k u st noRegs).plane p'
@[simp] theorem Device.port_pushEvent (p i b k u st : Nat) (p' n' : Nat) : (d.pushEvent p i b k u st).port p' n' = d.port p' n' := (Device.frame_pushEvent d p i b k u st noRegs).port p' n'
@[simp] theorem Device.live_pushEvent (p i b k u st : Nat) (p' : Nat) : (d.pushEvent p i b k u st).live p' = d.live p' := (Device.frame_pushEvent d p i b k u st noRegs).live p'
@[simp] theorem Device.answers_pushEvent (p i b k u st : Nat) (p' : Nat) : (d.pushEvent p i b k u st).answers p' = d.answers p' := (Device.frame_pushEvent d p i b k u st noRegs).answers p'
@[simp] theorem Device.hubUp_pushEvent (p i b k u st : Nat) : (d.pushEvent p i b k u st).hubUp = d.hubUp := (Device.frame_pushEvent d p i b k u st noRegs).hubUp
/-! ### `count` -/
@[simp] theorem Device.domains_count (o : Obj) (p i n : Nat) : (d.count o p i n).domains = d.domains := (Device.frame_count d o p i n (fun _ _ _ => True) (Or.inr trivial)).domains
@[simp] theorem Device.clock_count (o : Obj) (p i n : Nat) : (d.count o p i n).clock = d.clock := (Device.frame_count d o p i n (fun _ _ _ => True) (Or.inr trivial)).clock
@[simp] theorem Device.freeCtr_count (o : Obj) (p i n : Nat) : (d.count o p i n).freeCtr = d.freeCtr := (Device.frame_count d o p i n (fun _ _ _ => True) (Or.inr trivial)).freeCtr
@[simp] theorem Device.nextId_count (o : Obj) (p i n : Nat) : (d.count o p i n).nextId = d.nextId := (Device.frame_count d o p i n (fun _ _ _ => True) (Or.inr trivial)).nextId
@[simp] theorem Device.inbox_count (o : Obj) (p i n : Nat) : (d.count o p i n).inbox = d.inbox := (Device.frame_count d o p i n (fun _ _ _ => True) (Or.inr trivial)).inbox
@[simp] theorem Device.planes_count (o : Obj) (p i n : Nat) : (d.count o p i n).planes = d.planes := (Device.frame_count d o p i n (fun _ _ _ => True) (Or.inr trivial)).planes
@[simp] theorem Device.ports_count (o : Obj) (p i n : Nat) : (d.count o p i n).ports = d.ports := (Device.frame_count d o p i n (fun _ _ _ => True) (Or.inr trivial)).ports
@[simp] theorem Device.frames_count (o : Obj) (p i n : Nat) : (d.count o p i n).frames = d.frames := (Device.frame_count d o p i n (fun _ _ _ => True) (Or.inr trivial)).frames
@[simp] theorem Device.copies_count (o : Obj) (p i n : Nat) : (d.count o p i n).copies = d.copies := (Device.frame_count d o p i n (fun _ _ _ => True) (Or.inr trivial)).copies
@[simp] theorem Device.flows_count (o : Obj) (p i n : Nat) : (d.count o p i n).flows = d.flows := (Device.frame_count d o p i n (fun _ _ _ => True) (Or.inr trivial)).flows
@[simp] theorem Device.waitIn_count (o : Obj) (p i n : Nat) : (d.count o p i n).waitIn = d.waitIn := (Device.frame_count d o p i n (fun _ _ _ => True) (Or.inr trivial)).waitIn
@[simp] theorem Device.rows_count (o : Obj) (p i n : Nat) : (d.count o p i n).rows = d.rows := (Device.frame_count d o p i n (fun _ _ _ => True) (Or.inr trivial)).rows
@[simp] theorem Device.lfsr_count (o : Obj) (p i n : Nat) : (d.count o p i n).lfsr = d.lfsr := (Device.frame_count d o p i n (fun _ _ _ => True) (Or.inr trivial)).lfsr
@[simp] theorem Device.spray_count (o : Obj) (p i n : Nat) : (d.count o p i n).spray = d.spray := (Device.frame_count d o p i n (fun _ _ _ => True) (Or.inr trivial)).spray
@[simp] theorem Device.pools_count (o : Obj) (p i n : Nat) : (d.count o p i n).pools = d.pools := (Device.frame_count d o p i n (fun _ _ _ => True) (Or.inr trivial)).pools
@[simp] theorem Device.outs_count (o : Obj) (p i n : Nat) : (d.count o p i n).outs = d.outs := (Device.frame_count d o p i n (fun _ _ _ => True) (Or.inr trivial)).outs
@[simp] theorem Device.tqs_count (o : Obj) (p i n : Nat) : (d.count o p i n).tqs = d.tqs := (Device.frame_count d o p i n (fun _ _ _ => True) (Or.inr trivial)).tqs
@[simp] theorem Device.tbs_count (o : Obj) (p i n : Nat) : (d.count o p i n).tbs = d.tbs := (Device.frame_count d o p i n (fun _ _ _ => True) (Or.inr trivial)).tbs
@[simp] theorem Device.pds_count (o : Obj) (p i n : Nat) : (d.count o p i n).pds = d.pds := (Device.frame_count d o p i n (fun _ _ _ => True) (Or.inr trivial)).pds
@[simp] theorem Device.rctxs_count (o : Obj) (p i n : Nat) : (d.count o p i n).rctxs = d.rctxs := (Device.frame_count d o p i n (fun _ _ _ => True) (Or.inr trivial)).rctxs
@[simp] theorem Device.slots_count (o : Obj) (p i n : Nat) : (d.count o p i n).slots = d.slots := (Device.frame_count d o p i n (fun _ _ _ => True) (Or.inr trivial)).slots
@[simp] theorem Device.notifies_count (o : Obj) (p i n : Nat) : (d.count o p i n).notifies = d.notifies := (Device.frame_count d o p i n (fun _ _ _ => True) (Or.inr trivial)).notifies
@[simp] theorem Device.cctxs_count (o : Obj) (p i n : Nat) : (d.count o p i n).cctxs = d.cctxs := (Device.frame_count d o p i n (fun _ _ _ => True) (Or.inr trivial)).cctxs
@[simp] theorem Device.chans_count (o : Obj) (p i n : Nat) : (d.count o p i n).chans = d.chans := (Device.frame_count d o p i n (fun _ _ _ => True) (Or.inr trivial)).chans
@[simp] theorem Device.cals_count (o : Obj) (p i n : Nat) : (d.count o p i n).cals = d.cals := (Device.frame_count d o p i n (fun _ _ _ => True) (Or.inr trivial)).cals
@[simp] theorem Device.links_count (o : Obj) (p i n : Nat) : (d.count o p i n).links = d.links := (Device.frame_count d o p i n (fun _ _ _ => True) (Or.inr trivial)).links
@[simp] theorem Device.tethers_count (o : Obj) (p i n : Nat) : (d.count o p i n).tethers = d.tethers := (Device.frame_count d o p i n (fun _ _ _ => True) (Or.inr trivial)).tethers
@[simp] theorem Device.tribs_count (o : Obj) (p i n : Nat) : (d.count o p i n).tribs = d.tribs := (Device.frame_count d o p i n (fun _ _ _ => True) (Or.inr trivial)).tribs
@[simp] theorem Device.masters_count (o : Obj) (p i n : Nat) : (d.count o p i n).masters = d.masters := (Device.frame_count d o p i n (fun _ _ _ => True) (Or.inr trivial)).masters
@[simp] theorem Device.tkeys_count (o : Obj) (p i n : Nat) : (d.count o p i n).tkeys = d.tkeys := (Device.frame_count d o p i n (fun _ _ _ => True) (Or.inr trivial)).tkeys
@[simp] theorem Device.keys_count (o : Obj) (p i n : Nat) : (d.count o p i n).keys = d.keys := (Device.frame_count d o p i n (fun _ _ _ => True) (Or.inr trivial)).keys
@[simp] theorem Device.rgns_count (o : Obj) (p i n : Nat) : (d.count o p i n).rgns = d.rgns := (Device.frame_count d o p i n (fun _ _ _ => True) (Or.inr trivial)).rgns
@[simp] theorem Device.bists_count (o : Obj) (p i n : Nat) : (d.count o p i n).bists = d.bists := (Device.frame_count d o p i n (fun _ _ _ => True) (Or.inr trivial)).bists
@[simp] theorem Device.stands_count (o : Obj) (p i n : Nat) : (d.count o p i n).stands = d.stands := (Device.frame_count d o p i n (fun _ _ _ => True) (Or.inr trivial)).stands
@[simp] theorem Device.mons_count (o : Obj) (p i n : Nat) : (d.count o p i n).mons = d.mons := (Device.frame_count d o p i n (fun _ _ _ => True) (Or.inr trivial)).mons
@[simp] theorem Device.copiesSc_count (o : Obj) (p i n : Nat) : (d.count o p i n).copiesSc = d.copiesSc := (Device.frame_count d o p i n (fun _ _ _ => True) (Or.inr trivial)).copiesSc
@[simp] theorem Device.snap_count (o : Obj) (p i n : Nat) : (d.count o p i n).snap = d.snap := (Device.frame_count d o p i n (fun _ _ _ => True) (Or.inr trivial)).snap
@[simp] theorem Device.plane_count (o : Obj) (p i n : Nat) (p' : Nat) : (d.count o p i n).plane p' = d.plane p' := (Device.frame_count d o p i n (fun _ _ _ => True) (Or.inr trivial)).plane p'
@[simp] theorem Device.port_count (o : Obj) (p i n : Nat) (p' n' : Nat) : (d.count o p i n).port p' n' = d.port p' n' := (Device.frame_count d o p i n (fun _ _ _ => True) (Or.inr trivial)).port p' n'
@[simp] theorem Device.live_count (o : Obj) (p i n : Nat) (p' : Nat) : (d.count o p i n).live p' = d.live p' := (Device.frame_count d o p i n (fun _ _ _ => True) (Or.inr trivial)).live p'
@[simp] theorem Device.answers_count (o : Obj) (p i n : Nat) (p' : Nat) : (d.count o p i n).answers p' = d.answers p' := (Device.frame_count d o p i n (fun _ _ _ => True) (Or.inr trivial)).answers p'
@[simp] theorem Device.hubUp_count (o : Obj) (p i n : Nat) : (d.count o p i n).hubUp = d.hubUp := (Device.frame_count d o p i n (fun _ _ _ => True) (Or.inr trivial)).hubUp
/-! ### `bump` -/
@[simp] theorem Device.domains_bump (o : Obj) (p i : Nat) : (d.bump o p i).domains = d.domains := (Device.frame_bump d o p i (fun _ _ _ => True) (Or.inr trivial)).domains
@[simp] theorem Device.clock_bump (o : Obj) (p i : Nat) : (d.bump o p i).clock = d.clock := (Device.frame_bump d o p i (fun _ _ _ => True) (Or.inr trivial)).clock
@[simp] theorem Device.freeCtr_bump (o : Obj) (p i : Nat) : (d.bump o p i).freeCtr = d.freeCtr := (Device.frame_bump d o p i (fun _ _ _ => True) (Or.inr trivial)).freeCtr
@[simp] theorem Device.nextId_bump (o : Obj) (p i : Nat) : (d.bump o p i).nextId = d.nextId := (Device.frame_bump d o p i (fun _ _ _ => True) (Or.inr trivial)).nextId
@[simp] theorem Device.inbox_bump (o : Obj) (p i : Nat) : (d.bump o p i).inbox = d.inbox := (Device.frame_bump d o p i (fun _ _ _ => True) (Or.inr trivial)).inbox
@[simp] theorem Device.planes_bump (o : Obj) (p i : Nat) : (d.bump o p i).planes = d.planes := (Device.frame_bump d o p i (fun _ _ _ => True) (Or.inr trivial)).planes
@[simp] theorem Device.ports_bump (o : Obj) (p i : Nat) : (d.bump o p i).ports = d.ports := (Device.frame_bump d o p i (fun _ _ _ => True) (Or.inr trivial)).ports
@[simp] theorem Device.frames_bump (o : Obj) (p i : Nat) : (d.bump o p i).frames = d.frames := (Device.frame_bump d o p i (fun _ _ _ => True) (Or.inr trivial)).frames
@[simp] theorem Device.copies_bump (o : Obj) (p i : Nat) : (d.bump o p i).copies = d.copies := (Device.frame_bump d o p i (fun _ _ _ => True) (Or.inr trivial)).copies
@[simp] theorem Device.flows_bump (o : Obj) (p i : Nat) : (d.bump o p i).flows = d.flows := (Device.frame_bump d o p i (fun _ _ _ => True) (Or.inr trivial)).flows
@[simp] theorem Device.waitIn_bump (o : Obj) (p i : Nat) : (d.bump o p i).waitIn = d.waitIn := (Device.frame_bump d o p i (fun _ _ _ => True) (Or.inr trivial)).waitIn
@[simp] theorem Device.rows_bump (o : Obj) (p i : Nat) : (d.bump o p i).rows = d.rows := (Device.frame_bump d o p i (fun _ _ _ => True) (Or.inr trivial)).rows
@[simp] theorem Device.lfsr_bump (o : Obj) (p i : Nat) : (d.bump o p i).lfsr = d.lfsr := (Device.frame_bump d o p i (fun _ _ _ => True) (Or.inr trivial)).lfsr
@[simp] theorem Device.spray_bump (o : Obj) (p i : Nat) : (d.bump o p i).spray = d.spray := (Device.frame_bump d o p i (fun _ _ _ => True) (Or.inr trivial)).spray
@[simp] theorem Device.pools_bump (o : Obj) (p i : Nat) : (d.bump o p i).pools = d.pools := (Device.frame_bump d o p i (fun _ _ _ => True) (Or.inr trivial)).pools
@[simp] theorem Device.outs_bump (o : Obj) (p i : Nat) : (d.bump o p i).outs = d.outs := (Device.frame_bump d o p i (fun _ _ _ => True) (Or.inr trivial)).outs
@[simp] theorem Device.tqs_bump (o : Obj) (p i : Nat) : (d.bump o p i).tqs = d.tqs := (Device.frame_bump d o p i (fun _ _ _ => True) (Or.inr trivial)).tqs
@[simp] theorem Device.tbs_bump (o : Obj) (p i : Nat) : (d.bump o p i).tbs = d.tbs := (Device.frame_bump d o p i (fun _ _ _ => True) (Or.inr trivial)).tbs
@[simp] theorem Device.pds_bump (o : Obj) (p i : Nat) : (d.bump o p i).pds = d.pds := (Device.frame_bump d o p i (fun _ _ _ => True) (Or.inr trivial)).pds
@[simp] theorem Device.rctxs_bump (o : Obj) (p i : Nat) : (d.bump o p i).rctxs = d.rctxs := (Device.frame_bump d o p i (fun _ _ _ => True) (Or.inr trivial)).rctxs
@[simp] theorem Device.slots_bump (o : Obj) (p i : Nat) : (d.bump o p i).slots = d.slots := (Device.frame_bump d o p i (fun _ _ _ => True) (Or.inr trivial)).slots
@[simp] theorem Device.notifies_bump (o : Obj) (p i : Nat) : (d.bump o p i).notifies = d.notifies := (Device.frame_bump d o p i (fun _ _ _ => True) (Or.inr trivial)).notifies
@[simp] theorem Device.cctxs_bump (o : Obj) (p i : Nat) : (d.bump o p i).cctxs = d.cctxs := (Device.frame_bump d o p i (fun _ _ _ => True) (Or.inr trivial)).cctxs
@[simp] theorem Device.chans_bump (o : Obj) (p i : Nat) : (d.bump o p i).chans = d.chans := (Device.frame_bump d o p i (fun _ _ _ => True) (Or.inr trivial)).chans
@[simp] theorem Device.cals_bump (o : Obj) (p i : Nat) : (d.bump o p i).cals = d.cals := (Device.frame_bump d o p i (fun _ _ _ => True) (Or.inr trivial)).cals
@[simp] theorem Device.links_bump (o : Obj) (p i : Nat) : (d.bump o p i).links = d.links := (Device.frame_bump d o p i (fun _ _ _ => True) (Or.inr trivial)).links
@[simp] theorem Device.tethers_bump (o : Obj) (p i : Nat) : (d.bump o p i).tethers = d.tethers := (Device.frame_bump d o p i (fun _ _ _ => True) (Or.inr trivial)).tethers
@[simp] theorem Device.tribs_bump (o : Obj) (p i : Nat) : (d.bump o p i).tribs = d.tribs := (Device.frame_bump d o p i (fun _ _ _ => True) (Or.inr trivial)).tribs
@[simp] theorem Device.masters_bump (o : Obj) (p i : Nat) : (d.bump o p i).masters = d.masters := (Device.frame_bump d o p i (fun _ _ _ => True) (Or.inr trivial)).masters
@[simp] theorem Device.tkeys_bump (o : Obj) (p i : Nat) : (d.bump o p i).tkeys = d.tkeys := (Device.frame_bump d o p i (fun _ _ _ => True) (Or.inr trivial)).tkeys
@[simp] theorem Device.keys_bump (o : Obj) (p i : Nat) : (d.bump o p i).keys = d.keys := (Device.frame_bump d o p i (fun _ _ _ => True) (Or.inr trivial)).keys
@[simp] theorem Device.rgns_bump (o : Obj) (p i : Nat) : (d.bump o p i).rgns = d.rgns := (Device.frame_bump d o p i (fun _ _ _ => True) (Or.inr trivial)).rgns
@[simp] theorem Device.bists_bump (o : Obj) (p i : Nat) : (d.bump o p i).bists = d.bists := (Device.frame_bump d o p i (fun _ _ _ => True) (Or.inr trivial)).bists
@[simp] theorem Device.stands_bump (o : Obj) (p i : Nat) : (d.bump o p i).stands = d.stands := (Device.frame_bump d o p i (fun _ _ _ => True) (Or.inr trivial)).stands
@[simp] theorem Device.mons_bump (o : Obj) (p i : Nat) : (d.bump o p i).mons = d.mons := (Device.frame_bump d o p i (fun _ _ _ => True) (Or.inr trivial)).mons
@[simp] theorem Device.copiesSc_bump (o : Obj) (p i : Nat) : (d.bump o p i).copiesSc = d.copiesSc := (Device.frame_bump d o p i (fun _ _ _ => True) (Or.inr trivial)).copiesSc
@[simp] theorem Device.snap_bump (o : Obj) (p i : Nat) : (d.bump o p i).snap = d.snap := (Device.frame_bump d o p i (fun _ _ _ => True) (Or.inr trivial)).snap
@[simp] theorem Device.plane_bump (o : Obj) (p i : Nat) (p' : Nat) : (d.bump o p i).plane p' = d.plane p' := (Device.frame_bump d o p i (fun _ _ _ => True) (Or.inr trivial)).plane p'
@[simp] theorem Device.port_bump (o : Obj) (p i : Nat) (p' n' : Nat) : (d.bump o p i).port p' n' = d.port p' n' := (Device.frame_bump d o p i (fun _ _ _ => True) (Or.inr trivial)).port p' n'
@[simp] theorem Device.live_bump (o : Obj) (p i : Nat) (p' : Nat) : (d.bump o p i).live p' = d.live p' := (Device.frame_bump d o p i (fun _ _ _ => True) (Or.inr trivial)).live p'
@[simp] theorem Device.answers_bump (o : Obj) (p i : Nat) (p' : Nat) : (d.bump o p i).answers p' = d.answers p' := (Device.frame_bump d o p i (fun _ _ _ => True) (Or.inr trivial)).answers p'
@[simp] theorem Device.hubUp_bump (o : Obj) (p i : Nat) : (d.bump o p i).hubUp = d.hubUp := (Device.frame_bump d o p i (fun _ _ _ => True) (Or.inr trivial)).hubUp
/-! ### `highWater` -/
@[simp] theorem Device.domains_highWater (o : Obj) (p i v : Nat) : (d.highWater o p i v).domains = d.domains := (Device.frame_highWater d o p i v (fun _ _ _ => True) (Or.inr trivial)).domains
@[simp] theorem Device.clock_highWater (o : Obj) (p i v : Nat) : (d.highWater o p i v).clock = d.clock := (Device.frame_highWater d o p i v (fun _ _ _ => True) (Or.inr trivial)).clock
@[simp] theorem Device.freeCtr_highWater (o : Obj) (p i v : Nat) : (d.highWater o p i v).freeCtr = d.freeCtr := (Device.frame_highWater d o p i v (fun _ _ _ => True) (Or.inr trivial)).freeCtr
@[simp] theorem Device.nextId_highWater (o : Obj) (p i v : Nat) : (d.highWater o p i v).nextId = d.nextId := (Device.frame_highWater d o p i v (fun _ _ _ => True) (Or.inr trivial)).nextId
@[simp] theorem Device.inbox_highWater (o : Obj) (p i v : Nat) : (d.highWater o p i v).inbox = d.inbox := (Device.frame_highWater d o p i v (fun _ _ _ => True) (Or.inr trivial)).inbox
@[simp] theorem Device.planes_highWater (o : Obj) (p i v : Nat) : (d.highWater o p i v).planes = d.planes := (Device.frame_highWater d o p i v (fun _ _ _ => True) (Or.inr trivial)).planes
@[simp] theorem Device.ports_highWater (o : Obj) (p i v : Nat) : (d.highWater o p i v).ports = d.ports := (Device.frame_highWater d o p i v (fun _ _ _ => True) (Or.inr trivial)).ports
@[simp] theorem Device.frames_highWater (o : Obj) (p i v : Nat) : (d.highWater o p i v).frames = d.frames := (Device.frame_highWater d o p i v (fun _ _ _ => True) (Or.inr trivial)).frames
@[simp] theorem Device.copies_highWater (o : Obj) (p i v : Nat) : (d.highWater o p i v).copies = d.copies := (Device.frame_highWater d o p i v (fun _ _ _ => True) (Or.inr trivial)).copies
@[simp] theorem Device.flows_highWater (o : Obj) (p i v : Nat) : (d.highWater o p i v).flows = d.flows := (Device.frame_highWater d o p i v (fun _ _ _ => True) (Or.inr trivial)).flows
@[simp] theorem Device.waitIn_highWater (o : Obj) (p i v : Nat) : (d.highWater o p i v).waitIn = d.waitIn := (Device.frame_highWater d o p i v (fun _ _ _ => True) (Or.inr trivial)).waitIn
@[simp] theorem Device.rows_highWater (o : Obj) (p i v : Nat) : (d.highWater o p i v).rows = d.rows := (Device.frame_highWater d o p i v (fun _ _ _ => True) (Or.inr trivial)).rows
@[simp] theorem Device.lfsr_highWater (o : Obj) (p i v : Nat) : (d.highWater o p i v).lfsr = d.lfsr := (Device.frame_highWater d o p i v (fun _ _ _ => True) (Or.inr trivial)).lfsr
@[simp] theorem Device.spray_highWater (o : Obj) (p i v : Nat) : (d.highWater o p i v).spray = d.spray := (Device.frame_highWater d o p i v (fun _ _ _ => True) (Or.inr trivial)).spray
@[simp] theorem Device.pools_highWater (o : Obj) (p i v : Nat) : (d.highWater o p i v).pools = d.pools := (Device.frame_highWater d o p i v (fun _ _ _ => True) (Or.inr trivial)).pools
@[simp] theorem Device.outs_highWater (o : Obj) (p i v : Nat) : (d.highWater o p i v).outs = d.outs := (Device.frame_highWater d o p i v (fun _ _ _ => True) (Or.inr trivial)).outs
@[simp] theorem Device.tqs_highWater (o : Obj) (p i v : Nat) : (d.highWater o p i v).tqs = d.tqs := (Device.frame_highWater d o p i v (fun _ _ _ => True) (Or.inr trivial)).tqs
@[simp] theorem Device.tbs_highWater (o : Obj) (p i v : Nat) : (d.highWater o p i v).tbs = d.tbs := (Device.frame_highWater d o p i v (fun _ _ _ => True) (Or.inr trivial)).tbs
@[simp] theorem Device.pds_highWater (o : Obj) (p i v : Nat) : (d.highWater o p i v).pds = d.pds := (Device.frame_highWater d o p i v (fun _ _ _ => True) (Or.inr trivial)).pds
@[simp] theorem Device.rctxs_highWater (o : Obj) (p i v : Nat) : (d.highWater o p i v).rctxs = d.rctxs := (Device.frame_highWater d o p i v (fun _ _ _ => True) (Or.inr trivial)).rctxs
@[simp] theorem Device.slots_highWater (o : Obj) (p i v : Nat) : (d.highWater o p i v).slots = d.slots := (Device.frame_highWater d o p i v (fun _ _ _ => True) (Or.inr trivial)).slots
@[simp] theorem Device.notifies_highWater (o : Obj) (p i v : Nat) : (d.highWater o p i v).notifies = d.notifies := (Device.frame_highWater d o p i v (fun _ _ _ => True) (Or.inr trivial)).notifies
@[simp] theorem Device.cctxs_highWater (o : Obj) (p i v : Nat) : (d.highWater o p i v).cctxs = d.cctxs := (Device.frame_highWater d o p i v (fun _ _ _ => True) (Or.inr trivial)).cctxs
@[simp] theorem Device.chans_highWater (o : Obj) (p i v : Nat) : (d.highWater o p i v).chans = d.chans := (Device.frame_highWater d o p i v (fun _ _ _ => True) (Or.inr trivial)).chans
@[simp] theorem Device.cals_highWater (o : Obj) (p i v : Nat) : (d.highWater o p i v).cals = d.cals := (Device.frame_highWater d o p i v (fun _ _ _ => True) (Or.inr trivial)).cals
@[simp] theorem Device.links_highWater (o : Obj) (p i v : Nat) : (d.highWater o p i v).links = d.links := (Device.frame_highWater d o p i v (fun _ _ _ => True) (Or.inr trivial)).links
@[simp] theorem Device.tethers_highWater (o : Obj) (p i v : Nat) : (d.highWater o p i v).tethers = d.tethers := (Device.frame_highWater d o p i v (fun _ _ _ => True) (Or.inr trivial)).tethers
@[simp] theorem Device.tribs_highWater (o : Obj) (p i v : Nat) : (d.highWater o p i v).tribs = d.tribs := (Device.frame_highWater d o p i v (fun _ _ _ => True) (Or.inr trivial)).tribs
@[simp] theorem Device.masters_highWater (o : Obj) (p i v : Nat) : (d.highWater o p i v).masters = d.masters := (Device.frame_highWater d o p i v (fun _ _ _ => True) (Or.inr trivial)).masters
@[simp] theorem Device.tkeys_highWater (o : Obj) (p i v : Nat) : (d.highWater o p i v).tkeys = d.tkeys := (Device.frame_highWater d o p i v (fun _ _ _ => True) (Or.inr trivial)).tkeys
@[simp] theorem Device.keys_highWater (o : Obj) (p i v : Nat) : (d.highWater o p i v).keys = d.keys := (Device.frame_highWater d o p i v (fun _ _ _ => True) (Or.inr trivial)).keys
@[simp] theorem Device.rgns_highWater (o : Obj) (p i v : Nat) : (d.highWater o p i v).rgns = d.rgns := (Device.frame_highWater d o p i v (fun _ _ _ => True) (Or.inr trivial)).rgns
@[simp] theorem Device.bists_highWater (o : Obj) (p i v : Nat) : (d.highWater o p i v).bists = d.bists := (Device.frame_highWater d o p i v (fun _ _ _ => True) (Or.inr trivial)).bists
@[simp] theorem Device.stands_highWater (o : Obj) (p i v : Nat) : (d.highWater o p i v).stands = d.stands := (Device.frame_highWater d o p i v (fun _ _ _ => True) (Or.inr trivial)).stands
@[simp] theorem Device.mons_highWater (o : Obj) (p i v : Nat) : (d.highWater o p i v).mons = d.mons := (Device.frame_highWater d o p i v (fun _ _ _ => True) (Or.inr trivial)).mons
@[simp] theorem Device.copiesSc_highWater (o : Obj) (p i v : Nat) : (d.highWater o p i v).copiesSc = d.copiesSc := (Device.frame_highWater d o p i v (fun _ _ _ => True) (Or.inr trivial)).copiesSc
@[simp] theorem Device.snap_highWater (o : Obj) (p i v : Nat) : (d.highWater o p i v).snap = d.snap := (Device.frame_highWater d o p i v (fun _ _ _ => True) (Or.inr trivial)).snap
@[simp] theorem Device.plane_highWater (o : Obj) (p i v : Nat) (p' : Nat) : (d.highWater o p i v).plane p' = d.plane p' := (Device.frame_highWater d o p i v (fun _ _ _ => True) (Or.inr trivial)).plane p'
@[simp] theorem Device.port_highWater (o : Obj) (p i v : Nat) (p' n' : Nat) : (d.highWater o p i v).port p' n' = d.port p' n' := (Device.frame_highWater d o p i v (fun _ _ _ => True) (Or.inr trivial)).port p' n'
@[simp] theorem Device.live_highWater (o : Obj) (p i v : Nat) (p' : Nat) : (d.highWater o p i v).live p' = d.live p' := (Device.frame_highWater d o p i v (fun _ _ _ => True) (Or.inr trivial)).live p'
@[simp] theorem Device.answers_highWater (o : Obj) (p i v : Nat) (p' : Nat) : (d.highWater o p i v).answers p' = d.answers p' := (Device.frame_highWater d o p i v (fun _ _ _ => True) (Or.inr trivial)).answers p'
@[simp] theorem Device.hubUp_highWater (o : Obj) (p i v : Nat) : (d.highWater o p i v).hubUp = d.hubUp := (Device.frame_highWater d o p i v (fun _ _ _ => True) (Or.inr trivial)).hubUp

/-! ### Registers -/

theorem Device.get_settle (o : Obj) (p i : Nat) (h : o.computed = false) : d.settle.get o p i = d.get o p i :=
  (Device.frame_settle d noRegs).regs o p i h (fun x => x)

theorem Device.regs_pushTo (s : Nat) (r : BitVec 256) : (d.pushTo s r).regs = d.regs := rfl

theorem Device.regs_pushRecord (p i b k u st : Nat) (un : Bool) : (d.pushRecord p i b k u st un).regs = d.regs := by
  have fold : ∀ (f : Device → Nat → Device) (l : List Nat) (e : Device), (∀ e s, (f e s).regs = e.regs) →
      (l.foldl f e).regs = e.regs := by
    intro f l
    induction l with
    | nil => exact fun e _ => rfl
    | cons a r ih => exact fun e h => (ih (f e a) h).trans (h e a)
  unfold Device.pushRecord
  simp only
  rw [fold]
  · split <;> rfl
  · intro e s
    split
    · rfl
    · rfl

@[simp] theorem Device.get_pushEvent (p i b k u st : Nat) (o : Obj) (p' i' : Nat) :
    (d.pushEvent p i b k u st).get o p' i' = d.get o p' i' := by
  unfold Device.pushEvent
  simp only
  split
  · rfl
  · unfold Device.get; rw [Device.regs_pushRecord]

theorem Device.get_latch_ne (p i b u : Nat) (o : Obj) (p' i' : Nat) (h : ¬ causeRegs p i o p' i') :
    (d.latch p i b u).get o p' i' = d.get o p' i' := by
  unfold causeRegs at h
  unfold Device.latch
  simp only
  split
  · rfl
  · rw [Device.get_pushEvent]
    split <;> · simp only [Device.get_set]; split_ifs <;> first | rfl | (exfalso; apply h; simp_all)

theorem Device.get_latch_obj (p i b u : Nat) (o : Obj) (p' i' : Nat) (h : o ≠ .cause) (k : o ≠ .causeUnit) (l : o ≠ .causeTime) :
    (d.latch p i b u).get o p' i' = d.get o p' i' :=
  Device.get_latch_ne d p i b u o p' i' (by simp [causeRegs, h, k, l])

/-- A raised cause is latched. -/
theorem Device.bit_latch (p i b u : Nat) (h : b < 32) : bit ((d.latch p i b u).get .cause p i) b = true := by
  unfold Device.latch
  simp only
  split
  · assumption
  · rw [Device.get_pushEvent, Device.get_set_same]
    rw [show Obj.cause.width = 32 from rfl, bit_mod _ _ _ h]
    simp

/-- Raising a cause takes none away. -/
theorem Device.bit_latch_of_bit (p i b u k : Nat) (h : bit (d.get .cause p i) k = true) (hk : k < 32) :
    bit ((d.latch p i b u).get .cause p i) k = true := by
  unfold Device.latch
  simp only
  split
  · exact h
  · rw [Device.get_pushEvent, Device.get_set_same]
    rw [show Obj.cause.width = 32 from rfl, bit_mod _ _ _ hk, bit_setBit, h]
    rfl

theorem Device.get_clearCause_ne (p i m : Nat) (o : Obj) (p' i' : Nat) (h : o.computed = false) (k : ¬ causeRegs p i o p' i') :
    (d.clearCause p i m).get o p' i' = d.get o p' i' :=
  (Device.frame_clearCause d p i m _ (fun _ _ _ x => x)).regs o p' i' h k

/-- What clearing leaves of a cause object. -/
theorem Device.get_clearCause (p i m : Nat) : (d.clearCause p i m).get .cause p i = andNot 32 (d.get .cause p i) m % 2 ^ 32 := by
  have fold : ∀ (f : Device → Nat → Device) (l : List Nat) (e : Device), (∀ e s, (f e s).get .cause p i = e.get .cause p i) →
      (l.foldl f e).get .cause p i = e.get .cause p i := by
    intro f l
    induction l with
    | nil => exact fun e _ => rfl
    | cons a r ih => exact fun e h => (ih (f e a) h).trans (h e a)
  unfold Device.clearCause
  simp only
  rw [fold _ _ _ (fun e s => Device.get_pushEvent ..)]
  split
  · rw [Device.get_set_obj _ _ _ _ _ _ _ _ (by decide), Device.get_set_obj _ _ _ _ _ _ _ _ (by decide), Device.get_set_same]
    rfl
  · rw [Device.get_set_same]; rfl

theorem Device.get_count_ne (o : Obj) (p i n : Nat) (o' : Obj) (p' i' : Nat) (h : ¬ (o' = o ∧ p' = p ∧ i' = i)) :
    (d.count o p i n).get o' p' i' = d.get o' p' i' := by
  unfold Device.count
  simp only
  split
  · rw [Device.get_set, if_neg h]
  · split
    · rw [Device.get_set, if_neg h]
    · rw [Device.get_sat, Device.get_set, if_neg h]

theorem Device.get_count_obj (o : Obj) (p i n : Nat) (o' : Obj) (p' i' : Nat) (h : o' ≠ o) :
    (d.count o p i n).get o' p' i' = d.get o' p' i' := Device.get_count_ne d o p i n o' p' i' (by simp [h])

theorem Device.get_bump_obj (o : Obj) (p i : Nat) (o' : Obj) (p' i' : Nat) (h : o' ≠ o) :
    (d.bump o p i).get o' p' i' = d.get o' p' i' := Device.get_count_obj d o p i 1 o' p' i' h

/-- A counter below its highest value counts; at it, it stays (R386). -/
theorem Device.get_count_same (o : Obj) (p i n : Nat) (h : o.width ≠ 64) :
    (d.count o p i n).get o p i = min (d.get o p i + n) (2 ^ o.width - 1) := by
  have hp : 0 < 2 ^ o.width := by positivity
  unfold Device.count
  simp only [h, if_false]
  split
  · rename_i k; rw [Device.get_set_same, Nat.mod_eq_of_lt k]; omega
  · rename_i k
    rw [Device.get_sat, Device.get_set_same, Nat.mod_eq_of_lt (by omega)]
    omega

/-- A fold keeps what each of its steps keeps. -/
theorem foldl_keeps {α β : Type} (g : Device → β) (f : Device → α → Device) (hf : ∀ e a, g (f e a) = g e) (l : List α) :
    ∀ e, g (l.foldl f e) = g e := by
  induction l with
  | nil => exact fun e => rfl
  | cons a r ih => exact fun e => (ih (f e a)).trans (hf e a)

/-- Whatever register writes, outputs and the two pins do not change, settling does not change. -/
theorem Device.settle_keeps {β : Type} (g : Device → β) (hset : ∀ e o p i v, g (e.set o p i v) = g e)
    (hemit : ∀ e x, g (e.emit x) = g e) (hpins : ∀ (e : Device) a b, g { e with hub.irqN := a, hub.serviceN := b } = g e) :
    g d.settle = g d := by
  have ite : ∀ (c : Prop) [Decidable c] (a b x : Device), g a = g x → g b = g x → g (if c then a else b) = g x := by
    intro c _ a b x ha hb
    split
    · exact ha
    · exact hb
  have hp : g d.settlePlanes = g d := foldl_keeps g _ (fun e p => hset e .plSummary p 0 _) _ d
  have go : ∀ (p : Nat) (x : Device) (v : Nat) (ok : Bool), g (if x.stage p = v && ok then x.setStage p (v + 1) else x) = g x :=
    fun p x v ok => ite _ _ _ x (hset x .bringupStage 4 0 _) rfl
  have hs : ∀ (e : Device) (p : Nat), g (e.stageOn p) = g e := by
    intro e p
    unfold Device.stageOn
    simp only
    apply ite
    · rfl
    · apply ite
      · rw [hset, go p _ 4 _, go p _ 3 _, go p e 2 _]
      · rw [go p _ 4 _, go p _ 3 _, go p e 2 _]
  have hf := foldl_keeps g (fun e p => e.stageOn p) hs [0, 1, 2, 3] d.settlePlanes
  have pins : ∀ (e : Device) (b : Nat), g (e.settlePins b) = g e := by
    intro e b
    unfold Device.settlePins
    simp only
    have one : ∀ (x : Device) (c : Bool) (v : Nat), g (if c then x.emit (.msix v) else x) = g x :=
      fun x c v => ite _ _ _ x (hemit x _) rfl
    rw [one, one, hpins]
  unfold Device.settle
  simp only
  apply ite
  · rw [pins]
    unfold Device.settleHub
    simp only
    rw [hset, hset, hf, hp]
  · rw [hf, hp]

@[simp] theorem Device.sessions_settle : d.settle.sessions = d.sessions :=
  Device.settle_keeps d (·.sessions) (fun _ _ _ _ _ => rfl) (fun _ _ => rfl) (fun _ _ _ => rfl)

@[simp] theorem Device.session_settle (n : Nat) : d.settle.session n = d.session n := by
  unfold Device.session; rw [Device.sessions_settle]

theorem Device.fmPresent_settle : d.settle.hub.fmPresent = d.hub.fmPresent :=
  (Device.frame_settle d noRegs).hub_fmPresent

end Sys2Proof.Machine
end

