-- ==== Sys2Proof/Laws/Requests.lean ====
section
/-! SUPPORT. Laws of management requests: what the fault manager's message, a response and a taken request do. -/

namespace Sys2Proof.Machine

/-! ### The fault manager's message and the response -/

theorem Device.frame_fmMessage (d : Device) (ses : Nat) : Device.Frame (d.heard ses) (d.fmMessage ses) (causeRegs 4 1) := by
  unfold Device.fmMessage Device.heard
  split
  · rename_i h
    rw [h, Bool.or_true]
    simp only
    split
    · exact Device.frame_clearCause _ 4 1 1 _ (fun _ _ _ x => x)
    · exact .refl _ _
  · rename_i h
    rw [Bool.eq_false_iff.mpr h, Bool.or_false]
    exact .refl d _

theorem Device.get_fmMessage (d : Device) (ses : Nat) (o : Obj) (p i : Nat) (h : o.computed = false)
    (k : ¬ causeRegs 4 1 o p i) : (d.fmMessage ses).get o p i = d.get o p i :=
  (Device.frame_fmMessage d ses).regs o p i h k

theorem Device.get_fmMessage_obj (d : Device) (ses : Nat) (o : Obj) (p i : Nat) (h : o.computed = false)
    (h1 : o ≠ .cause) (h2 : o ≠ .causeUnit) (h3 : o ≠ .causeTime) : (d.fmMessage ses).get o p i = d.get o p i :=
  Device.get_fmMessage d ses o p i h (by simp [causeRegs, h1, h2, h3])

theorem Device.frame_respond (d : Device) (rq : Req) (r : Resp) :
    Device.Frame d (d.respond rq r) (fun o p i => (o = .ndpRequests ∨ o = .mgmtRefused) ∧ p = 4 ∧ i = 0) := by
  unfold Device.respond
  simp only
  refine Device.Frame.trans (e := if r.status = 0 then d.bump .ndpRequests 4 0
    else if 0x0202 ≤ r.status && r.status ≤ 0x0304 then d.bump .mgmtRefused 4 0 else d) ?_ ?_
  · split
    · exact Device.frame_bump d .ndpRequests 4 0 _ (Or.inr ⟨Or.inl rfl, rfl, rfl⟩)
    · split
      · exact Device.frame_bump d .mgmtRefused 4 0 _ (Or.inr ⟨Or.inr rfl, rfl, rfl⟩)
      · exact .refl d _
  · refine Device.Frame.trans (Device.frame_session _ _ _ _ ?_) (Device.frame_emit _ _ _)
    rfl

/-- A request that is applied is counted, and no other register moves. -/
theorem Device.frame_respond_ok (d : Device) (rq : Req) (r : Resp) (h : r.status = 0) :
    Device.Frame d (d.respond rq r) (fun o p i => o = .ndpRequests ∧ p = 4 ∧ i = 0) := by
  unfold Device.respond
  simp only [h, if_true]
  refine Device.Frame.trans (Device.frame_bump d .ndpRequests 4 0 _ (Or.inr ⟨rfl, rfl, rfl⟩)) ?_
  refine Device.Frame.trans (Device.frame_session _ _ _ _ ?_) (Device.frame_emit _ _ _)
  rfl

theorem Device.get_respond (d : Device) (rq : Req) (r : Resp) (o : Obj) (p i : Nat) (hc : o.computed = false)
    (h : o ≠ .ndpRequests) (k : o ≠ .mgmtRefused) : (d.respond rq r).get o p i = d.get o p i :=
  (Device.frame_respond d rq r).regs o p i hc (by simp [h, k])

theorem Device.sends_respond (d : Device) (rq : Req) (r : Resp) : d.Sends (d.respond rq r) (.resp r) := by
  unfold Device.respond
  simp only
  refine ⟨[.resp r], ?_, by simp⟩
  have k : ∀ (o : Obj), (d.bump o 4 0).out = d.out := by
    intro o
    unfold Device.bump Device.count
    simp only
    split
    · rfl
    · split <;> rfl
  have m : (if r.status = 0 then d.bump .ndpRequests 4 0
    else if (0x0202 ≤ r.status && r.status ≤ 0x0304) = true then d.bump .mgmtRefused 4 0 else d).out = d.out := by
    split
    · exact k _
    · split
      · exact k _
      · rfl
  exact congrArg (· ++ [Out.resp r]) m

/-- A response has left and is stored, also after settling. -/
theorem Device.answered_respond (d : Device) (rq : Req) (st : Nat) :
    ((d.respond rq (statusResp rq st)).settle).Answered rq st := by
  refine ⟨?_, ?_⟩
  · obtain ⟨l, hl, hx⟩ := Device.sends_respond d rq (statusResp rq st)
    obtain ⟨m, hm⟩ := (Device.frame_settle (d.respond rq (statusResp rq st)) noRegs).out
    rw [hm, hl]
    simp [hx]
  · rw [Device.session_settle]
    unfold Device.respond
    simp only
    show (((Device.setSession _ _ _).emit _).session _).responses.head? = _
    show ((Device.setSession _ _ _).session _).responses.head? = _
    rw [Device.session_setSession]
    simp

theorem Device.Sends.after {d e f : Device} {x : Out} {w : Obj → Nat → Nat → Prop} (h : d.Sends e x)
    (k : Device.Frame e f w) : d.Sends f x := by
  obtain ⟨l, hl, hx⟩ := h
  obtain ⟨m, hm⟩ := k.out
  exact ⟨l ++ m, by rw [hm, hl, List.append_assoc], by simp [hx]⟩

theorem Device.Sends.before {d e f : Device} {x : Out} (h : ∃ l, e.out = d.out ++ l) (k : e.Sends f x) : d.Sends f x := by
  obtain ⟨l, hl⟩ := h
  obtain ⟨m, hm, hx⟩ := k
  exact ⟨l ++ m, by rw [hm, hl, List.append_assoc], by simp [hx]⟩

/-! ### The outcome of a command -/

theorem State.run_next {f : Device → Device} {s : State} {d : Device} (h : f s.dev = d) :
    s.run f = .next { s with dev := d.settle } := by subst h; rfl

theorem State.runOn_next {p : Nat} {f : Device → Device} {s : State} (h : s.dev.live p = true) :
    s.runOn p f = .next { s with dev := (f s.dev).settle } := State.run_next (if_pos h)

theorem State.carry_next {p : Nat} {f : Device → Device} {s : State} (h : s.dev.carries p = true) :
    s.carry p f = .next { s with dev := (f s.dev).settle } := State.run_next (if_pos h)

theorem State.runOn_eq {p : Nat} {f : Device → Device} {s : State} {d : Device} (h : s.dev.live p = true) (e : f s.dev = d) :
    s.runOn p f = .next { s with dev := d.settle } := State.run_next ((if_pos h).trans e)

theorem State.carry_eq {p : Nat} {f : Device → Device} {s : State} {d : Device} (h : s.dev.carries p = true)
    (e : f s.dev = d) : s.carry p f = .next { s with dev := d.settle } := State.run_next ((if_pos h).trans e)

/-! ### A request that is taken -/

/-- The frame of a request that is applied and answered with status 0, given that of its action. -/
theorem Device.frame_request {d f : Device} {rq : Req} {w : Obj → Nat → Nat → Prop}
    (h : Device.Frame (d.fmMessage rq.ses.val) f w) :
    Device.Frame (d.heard rq.ses.val) (f.respond rq (statusResp rq 0)) (fun o p i => requestRegs o p i ∨ w o p i) :=
  (((Device.frame_fmMessage d rq.ses.val).mono (fun _ _ _ x => Or.inl (Or.inr x))).trans (h.mono (fun _ _ _ x => Or.inr x))).trans
    ((Device.frame_respond_ok f rq (statusResp rq 0) rfl).mono (fun _ _ _ x => Or.inl (Or.inl x)))

theorem Device.responses_pushRecord (d : Device) (p i b k u st : Nat) (un : Bool) (n : Nat) :
    ((d.pushRecord p i b k u st un).session n).responses = (d.session n).responses := by
  have fold : ∀ (f : Device → Nat → Device) (l : List Nat) (e : Device),
      (∀ e s, ((f e s).session n).responses = (e.session n).responses) →
      ((l.foldl f e).session n).responses = (e.session n).responses := by
    intro f l
    induction l with
    | nil => exact fun e _ => rfl
    | cons a r ih => exact fun e h => (ih (f e a) h).trans (h e a)
  unfold Device.pushRecord
  simp only
  rw [fold]
  · split <;> rfl
  · intro e s
    split
    · unfold Device.pushTo
      simp only
      show ((Device.setSession _ _ _).session n).responses = _
      rw [Device.session_setSession]
      split
      · rename_i h; subst h; simp [Device.session_setSession]
      · rw [Device.session_setSession]
        split
        · rename_i h k; exact absurd k h
        · rfl
    · rfl

theorem Device.responses_pushEvent (d : Device) (p i b k u st n : Nat) :
    ((d.pushEvent p i b k u st).session n).responses = (d.session n).responses := by
  unfold Device.pushEvent
  simp only
  split
  · rfl
  · exact Device.responses_pushRecord ..

theorem Device.responses_fmMessage (d : Device) (ses n : Nat) :
    ((d.fmMessage ses).session n).responses = (d.session n).responses := by
  have fold : ∀ (f : Device → Nat → Device) (l : List Nat) (e : Device),
      (∀ e s, ((f e s).session n).responses = (e.session n).responses) →
      ((l.foldl f e).session n).responses = (e.session n).responses := by
    intro f l
    induction l with
    | nil => exact fun e _ => rfl
    | cons a r ih => exact fun e h => (ih (f e a) h).trans (h e a)
  unfold Device.fmMessage
  split
  · simp only
    split
    · unfold Device.clearCause
      simp only
      rw [fold _ _ _ (fun e s => Device.responses_pushEvent ..)]
      split <;> rfl
    · rfl
  · rfl

/-- A request that is taken acts on the device after the fault manager's message, and is answered. -/
theorem Device.request_taken (d : Device) (rq : Req) (f : Device → Device × Resp) (h : d.takes rq = true) :
    d.request rq f = (f (d.fmMessage rq.ses.val)).1.respond rq (f (d.fmMessage rq.ses.val)).2 := by
  unfold Device.takes at h
  simp only [Bool.and_eq_true, Bool.not_eq_true', List.all_eq_true, decide_eq_true_eq] at h
  obtain ⟨⟨h1, h2⟩, h3⟩ := h
  have hf : (d.session rq.ses.val).responses.find? (fun r => decide (r.id = rq.id.toNat)) = none := by
    rw [List.find?_eq_none]; intro r hr; simpa using h3 r hr
  have hrom : (d.fmMessage rq.ses.val).hub.romStay = false := by
    rw [(Device.frame_fmMessage d rq.ses.val).hub_romStay]; exact h2
  unfold Device.request Device.requestIf Device.romServed
  simp only [h1, Bool.true_or, Bool.not_true, Bool.false_eq_true, if_false]
  rw [Device.responses_fmMessage, hf]
  simp [hrom]

/-- A command write that passes its checks acts, and is answered with status 0. -/
theorem Device.command_admitted (d : Device) (rq : Req) (t : Target) (v : Nat) (act : Device → Device)
    (h : d.admits rq ⟨t, 1, v⟩ = true) :
    d.command rq t v act = (act (d.fmMessage rq.ses.val)).respond rq (statusResp rq 0) := by
  unfold Device.admits at h
  simp only [Bool.and_eq_true, Bool.not_eq_true', decide_eq_true_eq] at h
  obtain ⟨⟨h1, h2⟩, h3⟩ := h
  unfold Device.command
  rw [Device.request_taken d rq _ h1]
  simp [Device.doWrite, h2, h3]

theorem Device.commandNow_admitted (d : Device) (rq : Req) (t : Target) (v : Nat) (act : Device → Device)
    (h : d.admitsNow rq ⟨t, 1, v⟩ = true) :
    d.commandNow rq t v act = (act (d.fmMessage rq.ses.val)).respond rq (statusResp rq 0) := by
  unfold Device.admitsNow at h
  simp only [Bool.and_eq_true, decide_eq_true_eq] at h
  unfold Device.commandNow
  rw [Device.request_taken d rq _ h.1]
  simp [Device.doWriteNow, h.2]

/-- A write that passes its checks and its chapter's rule acts. -/
theorem Device.write_admitted (d : Device) (rq : Req) (w : Write) (rule : Device → Bool) (apply : Device → Device × Bool)
    (h : d.admits rq w = true) (hr : rule (d.fmMessage rq.ses.val) = true) (ha : (apply (d.fmMessage rq.ses.val)).2 = true) :
    d.request rq (fun e => e.doWrite rq w rule apply) =
      (apply (d.fmMessage rq.ses.val)).1.respond rq (statusResp rq 0) := by
  unfold Device.admits at h
  simp only [Bool.and_eq_true, Bool.not_eq_true', decide_eq_true_eq] at h
  obtain ⟨⟨h1, h2⟩, h3⟩ := h
  rw [Device.request_taken d rq _ h1]
  simp [Device.doWrite, h2, h3, hr, ha]

/-- A write that the rule of its chapter does not allow is refused with 0x0303. -/
theorem Device.write_ruled_out (d : Device) (rq : Req) (w : Write) (rule : Device → Bool) (apply : Device → Device × Bool)
    (h : d.takes rq = true) (hs : (d.fmMessage rq.ses.val).writeStatus w rq.ses.val = 0)
    (hr : rule (d.fmMessage rq.ses.val) = false) :
    d.request rq (fun e => e.doWrite rq w rule apply) = (d.fmMessage rq.ses.val).respond rq (statusResp rq 0x0303) := by
  rw [Device.request_taken d rq _ h]
  simp [Device.doWrite, hs, hr]

theorem Device.admits_takes {d : Device} {rq : Req} {w : Write} (h : d.admits rq w = true) :
    d.takes rq = true ∧ (d.fmMessage rq.ses.val).writeStatus w rq.ses.val = 0 := by
  unfold Device.admits at h
  simp only [Bool.and_eq_true, decide_eq_true_eq] at h
  exact h.1

/-- A register that the journal keeps is written where the journal takes its record. -/
theorem Device.store_journals (d : Device) (ses : Nat) (o : Obj) (p i v : Nat) (ha : (o.info.acc = .rwp || o.info.acc = .rwl) = true)
    (h : d.journals ses [(⟨o, p, i⟩, v % 2 ^ o.width)] = true) :
    (d.fmMessage ses).store o p i v =
      (((d.fmMessage ses).journal [(⟨o, p, i⟩, v % 2 ^ o.width)]).1.set o p i v, true) := by
  unfold Device.journals at h
  unfold Device.store
  rw [if_pos ha]
  simp only
  rw [if_pos h]

end Sys2Proof.Machine
end

