-- ==== Sys2Proof/Laws/Answers.lean ====
section
/-! SUPPORT. What the fault manager's message and a response leave of each part of the device. -/

namespace Sys2Proof.Machine

variable (d : Device)

theorem Device.get_set_lt (o : Obj) (p i v : Nat) (h : v < 2 ^ o.width) : (d.set o p i v).get o p i = v := by
  rw [Device.get_set_same, Nat.mod_eq_of_lt h]

@[simp] theorem Device.domains_fmMessage (ses : Nat) : (d.fmMessage ses).domains = d.domains := (Device.frame_fmMessage d ses).domains
@[simp] theorem Device.clock_fmMessage (ses : Nat) : (d.fmMessage ses).clock = d.clock := (Device.frame_fmMessage d ses).clock
@[simp] theorem Device.freeCtr_fmMessage (ses : Nat) : (d.fmMessage ses).freeCtr = d.freeCtr := (Device.frame_fmMessage d ses).freeCtr
@[simp] theorem Device.nextId_fmMessage (ses : Nat) : (d.fmMessage ses).nextId = d.nextId := (Device.frame_fmMessage d ses).nextId
@[simp] theorem Device.inbox_fmMessage (ses : Nat) : (d.fmMessage ses).inbox = d.inbox := (Device.frame_fmMessage d ses).inbox
@[simp] theorem Device.planes_fmMessage (ses : Nat) : (d.fmMessage ses).planes = d.planes := (Device.frame_fmMessage d ses).planes
@[simp] theorem Device.ports_fmMessage (ses : Nat) : (d.fmMessage ses).ports = d.ports := (Device.frame_fmMessage d ses).ports
@[simp] theorem Device.frames_fmMessage (ses : Nat) : (d.fmMessage ses).frames = d.frames := (Device.frame_fmMessage d ses).frames
@[simp] theorem Device.copies_fmMessage (ses : Nat) : (d.fmMessage ses).copies = d.copies := (Device.frame_fmMessage d ses).copies
@[simp] theorem Device.flows_fmMessage (ses : Nat) : (d.fmMessage ses).flows = d.flows := (Device.frame_fmMessage d ses).flows
@[simp] theorem Device.waitIn_fmMessage (ses : Nat) : (d.fmMessage ses).waitIn = d.waitIn := (Device.frame_fmMessage d ses).waitIn
@[simp] theorem Device.rows_fmMessage (ses : Nat) : (d.fmMessage ses).rows = d.rows := (Device.frame_fmMessage d ses).rows
@[simp] theorem Device.lfsr_fmMessage (ses : Nat) : (d.fmMessage ses).lfsr = d.lfsr := (Device.frame_fmMessage d ses).lfsr
@[simp] theorem Device.spray_fmMessage (ses : Nat) : (d.fmMessage ses).spray = d.spray := (Device.frame_fmMessage d ses).spray
@[simp] theorem Device.pools_fmMessage (ses : Nat) : (d.fmMessage ses).pools = d.pools := (Device.frame_fmMessage d ses).pools
@[simp] theorem Device.outs_fmMessage (ses : Nat) : (d.fmMessage ses).outs = d.outs := (Device.frame_fmMessage d ses).outs
@[simp] theorem Device.tqs_fmMessage (ses : Nat) : (d.fmMessage ses).tqs = d.tqs := (Device.frame_fmMessage d ses).tqs
@[simp] theorem Device.tbs_fmMessage (ses : Nat) : (d.fmMessage ses).tbs = d.tbs := (Device.frame_fmMessage d ses).tbs
@[simp] theorem Device.pds_fmMessage (ses : Nat) : (d.fmMessage ses).pds = d.pds := (Device.frame_fmMessage d ses).pds
@[simp] theorem Device.rctxs_fmMessage (ses : Nat) : (d.fmMessage ses).rctxs = d.rctxs := (Device.frame_fmMessage d ses).rctxs
@[simp] theorem Device.slots_fmMessage (ses : Nat) : (d.fmMessage ses).slots = d.slots := (Device.frame_fmMessage d ses).slots
@[simp] theorem Device.notifies_fmMessage (ses : Nat) : (d.fmMessage ses).notifies = d.notifies := (Device.frame_fmMessage d ses).notifies
@[simp] theorem Device.cctxs_fmMessage (ses : Nat) : (d.fmMessage ses).cctxs = d.cctxs := (Device.frame_fmMessage d ses).cctxs
@[simp] theorem Device.chans_fmMessage (ses : Nat) : (d.fmMessage ses).chans = d.chans := (Device.frame_fmMessage d ses).chans
@[simp] theorem Device.cals_fmMessage (ses : Nat) : (d.fmMessage ses).cals = d.cals := (Device.frame_fmMessage d ses).cals
@[simp] theorem Device.links_fmMessage (ses : Nat) : (d.fmMessage ses).links = d.links := (Device.frame_fmMessage d ses).links
@[simp] theorem Device.tethers_fmMessage (ses : Nat) : (d.fmMessage ses).tethers = d.tethers := (Device.frame_fmMessage d ses).tethers
@[simp] theorem Device.tribs_fmMessage (ses : Nat) : (d.fmMessage ses).tribs = d.tribs := (Device.frame_fmMessage d ses).tribs
@[simp] theorem Device.masters_fmMessage (ses : Nat) : (d.fmMessage ses).masters = d.masters := (Device.frame_fmMessage d ses).masters
@[simp] theorem Device.tkeys_fmMessage (ses : Nat) : (d.fmMessage ses).tkeys = d.tkeys := (Device.frame_fmMessage d ses).tkeys
@[simp] theorem Device.keys_fmMessage (ses : Nat) : (d.fmMessage ses).keys = d.keys := (Device.frame_fmMessage d ses).keys
@[simp] theorem Device.rgns_fmMessage (ses : Nat) : (d.fmMessage ses).rgns = d.rgns := (Device.frame_fmMessage d ses).rgns
@[simp] theorem Device.bists_fmMessage (ses : Nat) : (d.fmMessage ses).bists = d.bists := (Device.frame_fmMessage d ses).bists
@[simp] theorem Device.stands_fmMessage (ses : Nat) : (d.fmMessage ses).stands = d.stands := (Device.frame_fmMessage d ses).stands
@[simp] theorem Device.mons_fmMessage (ses : Nat) : (d.fmMessage ses).mons = d.mons := (Device.frame_fmMessage d ses).mons
@[simp] theorem Device.copiesSc_fmMessage (ses : Nat) : (d.fmMessage ses).copiesSc = d.copiesSc := (Device.frame_fmMessage d ses).copiesSc
@[simp] theorem Device.snap_fmMessage (ses : Nat) : (d.fmMessage ses).snap = d.snap := (Device.frame_fmMessage d ses).snap
@[simp] theorem Device.hub_awaitBoot_fmMessage (ses : Nat) : (d.fmMessage ses).hub.awaitBoot = d.hub.awaitBoot := (Device.frame_fmMessage d ses).hub_awaitBoot
@[simp] theorem Device.hub_running_fmMessage (ses : Nat) : (d.fmMessage ses).hub.running = d.hub.running := (Device.frame_fmMessage d ses).hub_running
@[simp] theorem Device.hub_romStay_fmMessage (ses : Nat) : (d.fmMessage ses).hub.romStay = d.hub.romStay := (Device.frame_fmMessage d ses).hub_romStay
@[simp] theorem Device.hub_silent_fmMessage (ses : Nat) : (d.fmMessage ses).hub.silent = d.hub.silent := (Device.frame_fmMessage d ses).hub_silent
@[simp] theorem Device.hub_thermTripN_fmMessage (ses : Nat) : (d.fmMessage ses).hub.thermTripN = d.hub.thermTripN := (Device.frame_fmMessage d ses).hub_thermTripN
@[simp] theorem Device.hub_vddIo_fmMessage (ses : Nat) : (d.fmMessage ses).hub.vddIo = d.hub.vddIo := (Device.frame_fmMessage d ses).hub_vddIo
@[simp] theorem Device.hub_hostLink_fmMessage (ses : Nat) : (d.fmMessage ses).hub.hostLink = d.hub.hostLink := (Device.frame_fmMessage d ses).hub_hostLink
@[simp] theorem Device.hub_lockPendingRelease_fmMessage (ses : Nat) : (d.fmMessage ses).hub.lockPendingRelease = d.hub.lockPendingRelease := (Device.frame_fmMessage d ses).hub_lockPendingRelease
@[simp] theorem Device.hub_factoryPending_fmMessage (ses : Nat) : (d.fmMessage ses).hub.factoryPending = d.hub.factoryPending := (Device.frame_fmMessage d ses).hub_factoryPending
@[simp] theorem Device.hub_jnl_fmMessage (ses : Nat) : (d.fmMessage ses).hub.jnl = d.hub.jnl := (Device.frame_fmMessage d ses).hub_jnl
@[simp] theorem Device.hub_jnlBadReads_fmMessage (ses : Nat) : (d.fmMessage ses).hub.jnlBadReads = d.hub.jnlBadReads := (Device.frame_fmMessage d ses).hub_jnlBadReads
@[simp] theorem Device.hub_jnlTorn_fmMessage (ses : Nat) : (d.fmMessage ses).hub.jnlTorn = d.hub.jnlTorn := (Device.frame_fmMessage d ses).hub_jnlTorn
@[simp] theorem Device.hub_jnlTornBytes_fmMessage (ses : Nat) : (d.fmMessage ses).hub.jnlTornBytes = d.hub.jnlTornBytes := (Device.frame_fmMessage d ses).hub_jnlTornBytes
@[simp] theorem Device.hub_jnlUnreadable_fmMessage (ses : Nat) : (d.fmMessage ses).hub.jnlUnreadable = d.hub.jnlUnreadable := (Device.frame_fmMessage d ses).hub_jnlUnreadable
@[simp] theorem Device.hub_imgA_fmMessage (ses : Nat) : (d.fmMessage ses).hub.imgA = d.hub.imgA := (Device.frame_fmMessage d ses).hub_imgA
@[simp] theorem Device.hub_imgB_fmMessage (ses : Nat) : (d.fmMessage ses).hub.imgB = d.hub.imgB := (Device.frame_fmMessage d ses).hub_imgB
@[simp] theorem Device.hub_mbStatus_fmMessage (ses : Nat) : (d.fmMessage ses).hub.mbStatus = d.hub.mbStatus := (Device.frame_fmMessage d ses).hub_mbStatus
@[simp] theorem Device.hub_mbIrqEn_fmMessage (ses : Nat) : (d.fmMessage ses).hub.mbIrqEn = d.hub.mbIrqEn := (Device.frame_fmMessage d ses).hub_mbIrqEn
@[simp] theorem Device.hub_mbIgnored_fmMessage (ses : Nat) : (d.fmMessage ses).hub.mbIgnored = d.hub.mbIgnored := (Device.frame_fmMessage d ses).hub_mbIgnored
@[simp] theorem Device.hub_mbRequest_fmMessage (ses : Nat) : (d.fmMessage ses).hub.mbRequest = d.hub.mbRequest := (Device.frame_fmMessage d ses).hub_mbRequest
@[simp] theorem Device.hub_mbResponse_fmMessage (ses : Nat) : (d.fmMessage ses).hub.mbResponse = d.hub.mbResponse := (Device.frame_fmMessage d ses).hub_mbResponse
@[simp] theorem Device.hub_tripReason_fmMessage (ses : Nat) : (d.fmMessage ses).hub.tripReason = d.hub.tripReason := (Device.frame_fmMessage d ses).hub_tripReason
@[simp] theorem Device.hub_retireLog_fmMessage (ses : Nat) : (d.fmMessage ses).hub.retireLog = d.hub.retireLog := (Device.frame_fmMessage d ses).hub_retireLog
@[simp] theorem Device.hub_avsFails_fmMessage (ses : Nat) : (d.fmMessage ses).hub.avsFails = d.hub.avsFails := (Device.frame_fmMessage d ses).hub_avsFails
@[simp] theorem Device.hub_avsLowSince_fmMessage (ses : Nat) : (d.fmMessage ses).hub.avsLowSince = d.hub.avsLowSince := (Device.frame_fmMessage d ses).hub_avsLowSince
@[simp] theorem Device.plane_fmMessage (ses : Nat) (p' : Nat) : (d.fmMessage ses).plane p' = d.plane p' := (Device.frame_fmMessage d ses).plane p'
@[simp] theorem Device.port_fmMessage (ses : Nat) (p' n' : Nat) : (d.fmMessage ses).port p' n' = d.port p' n' := (Device.frame_fmMessage d ses).port p' n'
@[simp] theorem Device.live_fmMessage (ses : Nat) (p' : Nat) : (d.fmMessage ses).live p' = d.live p' := (Device.frame_fmMessage d ses).live p'
@[simp] theorem Device.answers_fmMessage (ses : Nat) (p' : Nat) : (d.fmMessage ses).answers p' = d.answers p' := (Device.frame_fmMessage d ses).answers p'
@[simp] theorem Device.hubUp_fmMessage (ses : Nat) : (d.fmMessage ses).hubUp = d.hubUp := (Device.frame_fmMessage d ses).hubUp
@[simp] theorem Device.domains_respond (rq : Req) (r : Resp) : (d.respond rq r).domains = d.domains := (Device.frame_respond d rq r).domains
@[simp] theorem Device.clock_respond (rq : Req) (r : Resp) : (d.respond rq r).clock = d.clock := (Device.frame_respond d rq r).clock
@[simp] theorem Device.freeCtr_respond (rq : Req) (r : Resp) : (d.respond rq r).freeCtr = d.freeCtr := (Device.frame_respond d rq r).freeCtr
@[simp] theorem Device.nextId_respond (rq : Req) (r : Resp) : (d.respond rq r).nextId = d.nextId := (Device.frame_respond d rq r).nextId
@[simp] theorem Device.inbox_respond (rq : Req) (r : Resp) : (d.respond rq r).inbox = d.inbox := (Device.frame_respond d rq r).inbox
@[simp] theorem Device.planes_respond (rq : Req) (r : Resp) : (d.respond rq r).planes = d.planes := (Device.frame_respond d rq r).planes
@[simp] theorem Device.ports_respond (rq : Req) (r : Resp) : (d.respond rq r).ports = d.ports := (Device.frame_respond d rq r).ports
@[simp] theorem Device.frames_respond (rq : Req) (r : Resp) : (d.respond rq r).frames = d.frames := (Device.frame_respond d rq r).frames
@[simp] theorem Device.copies_respond (rq : Req) (r : Resp) : (d.respond rq r).copies = d.copies := (Device.frame_respond d rq r).copies
@[simp] theorem Device.flows_respond (rq : Req) (r : Resp) : (d.respond rq r).flows = d.flows := (Device.frame_respond d rq r).flows
@[simp] theorem Device.waitIn_respond (rq : Req) (r : Resp) : (d.respond rq r).waitIn = d.waitIn := (Device.frame_respond d rq r).waitIn
@[simp] theorem Device.rows_respond (rq : Req) (r : Resp) : (d.respond rq r).rows = d.rows := (Device.frame_respond d rq r).rows
@[simp] theorem Device.lfsr_respond (rq : Req) (r : Resp) : (d.respond rq r).lfsr = d.lfsr := (Device.frame_respond d rq r).lfsr
@[simp] theorem Device.spray_respond (rq : Req) (r : Resp) : (d.respond rq r).spray = d.spray := (Device.frame_respond d rq r).spray
@[simp] theorem Device.pools_respond (rq : Req) (r : Resp) : (d.respond rq r).pools = d.pools := (Device.frame_respond d rq r).pools
@[simp] theorem Device.outs_respond (rq : Req) (r : Resp) : (d.respond rq r).outs = d.outs := (Device.frame_respond d rq r).outs
@[simp] theorem Device.tqs_respond (rq : Req) (r : Resp) : (d.respond rq r).tqs = d.tqs := (Device.frame_respond d rq r).tqs
@[simp] theorem Device.tbs_respond (rq : Req) (r : Resp) : (d.respond rq r).tbs = d.tbs := (Device.frame_respond d rq r).tbs
@[simp] theorem Device.pds_respond (rq : Req) (r : Resp) : (d.respond rq r).pds = d.pds := (Device.frame_respond d rq r).pds
@[simp] theorem Device.rctxs_respond (rq : Req) (r : Resp) : (d.respond rq r).rctxs = d.rctxs := (Device.frame_respond d rq r).rctxs
@[simp] theorem Device.slots_respond (rq : Req) (r : Resp) : (d.respond rq r).slots = d.slots := (Device.frame_respond d rq r).slots
@[simp] theorem Device.notifies_respond (rq : Req) (r : Resp) : (d.respond rq r).notifies = d.notifies := (Device.frame_respond d rq r).notifies
@[simp] theorem Device.cctxs_respond (rq : Req) (r : Resp) : (d.respond rq r).cctxs = d.cctxs := (Device.frame_respond d rq r).cctxs
@[simp] theorem Device.chans_respond (rq : Req) (r : Resp) : (d.respond rq r).chans = d.chans := (Device.frame_respond d rq r).chans
@[simp] theorem Device.cals_respond (rq : Req) (r : Resp) : (d.respond rq r).cals = d.cals := (Device.frame_respond d rq r).cals
@[simp] theorem Device.links_respond (rq : Req) (r : Resp) : (d.respond rq r).links = d.links := (Device.frame_respond d rq r).links
@[simp] theorem Device.tethers_respond (rq : Req) (r : Resp) : (d.respond rq r).tethers = d.tethers := (Device.frame_respond d rq r).tethers
@[simp] theorem Device.tribs_respond (rq : Req) (r : Resp) : (d.respond rq r).tribs = d.tribs := (Device.frame_respond d rq r).tribs
@[simp] theorem Device.masters_respond (rq : Req) (r : Resp) : (d.respond rq r).masters = d.masters := (Device.frame_respond d rq r).masters
@[simp] theorem Device.tkeys_respond (rq : Req) (r : Resp) : (d.respond rq r).tkeys = d.tkeys := (Device.frame_respond d rq r).tkeys
@[simp] theorem Device.keys_respond (rq : Req) (r : Resp) : (d.respond rq r).keys = d.keys := (Device.frame_respond d rq r).keys
@[simp] theorem Device.rgns_respond (rq : Req) (r : Resp) : (d.respond rq r).rgns = d.rgns := (Device.frame_respond d rq r).rgns
@[simp] theorem Device.bists_respond (rq : Req) (r : Resp) : (d.respond rq r).bists = d.bists := (Device.frame_respond d rq r).bists
@[simp] theorem Device.stands_respond (rq : Req) (r : Resp) : (d.respond rq r).stands = d.stands := (Device.frame_respond d rq r).stands
@[simp] theorem Device.mons_respond (rq : Req) (r : Resp) : (d.respond rq r).mons = d.mons := (Device.frame_respond d rq r).mons
@[simp] theorem Device.copiesSc_respond (rq : Req) (r : Resp) : (d.respond rq r).copiesSc = d.copiesSc := (Device.frame_respond d rq r).copiesSc
@[simp] theorem Device.snap_respond (rq : Req) (r : Resp) : (d.respond rq r).snap = d.snap := (Device.frame_respond d rq r).snap
@[simp] theorem Device.hub_awaitBoot_respond (rq : Req) (r : Resp) : (d.respond rq r).hub.awaitBoot = d.hub.awaitBoot := (Device.frame_respond d rq r).hub_awaitBoot
@[simp] theorem Device.hub_running_respond (rq : Req) (r : Resp) : (d.respond rq r).hub.running = d.hub.running := (Device.frame_respond d rq r).hub_running
@[simp] theorem Device.hub_romStay_respond (rq : Req) (r : Resp) : (d.respond rq r).hub.romStay = d.hub.romStay := (Device.frame_respond d rq r).hub_romStay
@[simp] theorem Device.hub_silent_respond (rq : Req) (r : Resp) : (d.respond rq r).hub.silent = d.hub.silent := (Device.frame_respond d rq r).hub_silent
@[simp] theorem Device.hub_thermTripN_respond (rq : Req) (r : Resp) : (d.respond rq r).hub.thermTripN = d.hub.thermTripN := (Device.frame_respond d rq r).hub_thermTripN
@[simp] theorem Device.hub_vddIo_respond (rq : Req) (r : Resp) : (d.respond rq r).hub.vddIo = d.hub.vddIo := (Device.frame_respond d rq r).hub_vddIo
@[simp] theorem Device.hub_hostLink_respond (rq : Req) (r : Resp) : (d.respond rq r).hub.hostLink = d.hub.hostLink := (Device.frame_respond d rq r).hub_hostLink
@[simp] theorem Device.hub_lockPendingRelease_respond (rq : Req) (r : Resp) : (d.respond rq r).hub.lockPendingRelease = d.hub.lockPendingRelease := (Device.frame_respond d rq r).hub_lockPendingRelease
@[simp] theorem Device.hub_factoryPending_respond (rq : Req) (r : Resp) : (d.respond rq r).hub.factoryPending = d.hub.factoryPending := (Device.frame_respond d rq r).hub_factoryPending
@[simp] theorem Device.hub_jnl_respond (rq : Req) (r : Resp) : (d.respond rq r).hub.jnl = d.hub.jnl := (Device.frame_respond d rq r).hub_jnl
@[simp] theorem Device.hub_jnlBadReads_respond (rq : Req) (r : Resp) : (d.respond rq r).hub.jnlBadReads = d.hub.jnlBadReads := (Device.frame_respond d rq r).hub_jnlBadReads
@[simp] theorem Device.hub_jnlTorn_respond (rq : Req) (r : Resp) : (d.respond rq r).hub.jnlTorn = d.hub.jnlTorn := (Device.frame_respond d rq r).hub_jnlTorn
@[simp] theorem Device.hub_jnlTornBytes_respond (rq : Req) (r : Resp) : (d.respond rq r).hub.jnlTornBytes = d.hub.jnlTornBytes := (Device.frame_respond d rq r).hub_jnlTornBytes
@[simp] theorem Device.hub_jnlUnreadable_respond (rq : Req) (r : Resp) : (d.respond rq r).hub.jnlUnreadable = d.hub.jnlUnreadable := (Device.frame_respond d rq r).hub_jnlUnreadable
@[simp] theorem Device.hub_imgA_respond (rq : Req) (r : Resp) : (d.respond rq r).hub.imgA = d.hub.imgA := (Device.frame_respond d rq r).hub_imgA
@[simp] theorem Device.hub_imgB_respond (rq : Req) (r : Resp) : (d.respond rq r).hub.imgB = d.hub.imgB := (Device.frame_respond d rq r).hub_imgB
@[simp] theorem Device.hub_mbStatus_respond (rq : Req) (r : Resp) : (d.respond rq r).hub.mbStatus = d.hub.mbStatus := (Device.frame_respond d rq r).hub_mbStatus
@[simp] theorem Device.hub_mbIrqEn_respond (rq : Req) (r : Resp) : (d.respond rq r).hub.mbIrqEn = d.hub.mbIrqEn := (Device.frame_respond d rq r).hub_mbIrqEn
@[simp] theorem Device.hub_mbIgnored_respond (rq : Req) (r : Resp) : (d.respond rq r).hub.mbIgnored = d.hub.mbIgnored := (Device.frame_respond d rq r).hub_mbIgnored
@[simp] theorem Device.hub_mbRequest_respond (rq : Req) (r : Resp) : (d.respond rq r).hub.mbRequest = d.hub.mbRequest := (Device.frame_respond d rq r).hub_mbRequest
@[simp] theorem Device.hub_mbResponse_respond (rq : Req) (r : Resp) : (d.respond rq r).hub.mbResponse = d.hub.mbResponse := (Device.frame_respond d rq r).hub_mbResponse
@[simp] theorem Device.hub_tripReason_respond (rq : Req) (r : Resp) : (d.respond rq r).hub.tripReason = d.hub.tripReason := (Device.frame_respond d rq r).hub_tripReason
@[simp] theorem Device.hub_retireLog_respond (rq : Req) (r : Resp) : (d.respond rq r).hub.retireLog = d.hub.retireLog := (Device.frame_respond d rq r).hub_retireLog
@[simp] theorem Device.hub_avsFails_respond (rq : Req) (r : Resp) : (d.respond rq r).hub.avsFails = d.hub.avsFails := (Device.frame_respond d rq r).hub_avsFails
@[simp] theorem Device.hub_avsLowSince_respond (rq : Req) (r : Resp) : (d.respond rq r).hub.avsLowSince = d.hub.avsLowSince := (Device.frame_respond d rq r).hub_avsLowSince
@[simp] theorem Device.plane_respond (rq : Req) (r : Resp) (p' : Nat) : (d.respond rq r).plane p' = d.plane p' := (Device.frame_respond d rq r).plane p'
@[simp] theorem Device.port_respond (rq : Req) (r : Resp) (p' n' : Nat) : (d.respond rq r).port p' n' = d.port p' n' := (Device.frame_respond d rq r).port p' n'
@[simp] theorem Device.live_respond (rq : Req) (r : Resp) (p' : Nat) : (d.respond rq r).live p' = d.live p' := (Device.frame_respond d rq r).live p'
@[simp] theorem Device.answers_respond (rq : Req) (r : Resp) (p' : Nat) : (d.respond rq r).answers p' = d.answers p' := (Device.frame_respond d rq r).answers p'
@[simp] theorem Device.hubUp_respond (rq : Req) (r : Resp) : (d.respond rq r).hubUp = d.hubUp := (Device.frame_respond d rq r).hubUp

end Sys2Proof.Machine
end

