-- ==== Sys2Proof/Laws/Quiet.lean ====
section
/-! SUPPORT. A reading of the device that registers, the hub, sessions and outputs do not move (a table of ports, of frames, of
planes) is moved by no cause, event, counter, journal write, answer or summary. -/

namespace Sys2Proof.Machine

/-- The hub without its pins, its journal and logs, its stored events and what it knows of the fault manager. -/
def HubSt.core (h : HubSt) : HubSt :=
  { h with irqN := true, serviceN := true, fmPresent := true, heldEvents := [], lastStamp := [], jnl := [], jnlBadReads := 0,
           jnlTorn := 0, jnlTornBytes := 0, retireLog := [] }

/-- A reading that the management side leaves alone. -/
structure Quiet {β : Type} (g : Device → β) : Prop where
  set : ∀ d o p i v, g (Device.set d o p i v) = g d
  emit : ∀ d x, g (Device.emit d x) = g d
  session : ∀ d n v, g (Device.setSession d n v) = g d
  hub : ∀ (d : Device) (h : HubSt), h.core = d.hub.core → g { d with hub := h } = g d
  sat : ∀ (d : Device) (l : List Key), g { d with sat := l } = g d

namespace Quiet

variable {β : Type} {g : Device → β} (q : Quiet g)
include q

omit q in
theorem ite {c : Prop} [Decidable c] {a b d : Device} (ha : g a = g d) (hb : g b = g d) : g (if c then a else b) = g d := by
  split
  · exact ha
  · exact hb

theorem count (d : Device) (o : Obj) (p i n : Nat) : g (d.count o p i n) = g d := by
  unfold Device.count
  simp only
  apply Quiet.ite (q.set ..)
  exact Quiet.ite (q.set ..) ((q.sat ..).trans (q.set ..))

theorem bump (d : Device) (o : Obj) (p i : Nat) : g (d.bump o p i) = g d := q.count d o p i 1

theorem highWater (d : Device) (o : Obj) (p i v : Nat) : g (d.highWater o p i v) = g d := Quiet.ite (q.set ..) rfl

theorem pushTo (d : Device) (s : Nat) (r : BitVec 256) : g (d.pushTo s r) = g d := (q.emit ..).trans (q.session ..)

theorem pushRecord (d : Device) (p i b k u st : Nat) (un : Bool) : g (d.pushRecord p i b k u st un) = g d := by
  unfold Device.pushRecord
  simp only
  rw [foldl_keeps g]
  · exact Quiet.ite (q.hub _ _ (by rfl)) rfl
  · exact fun e a => Quiet.ite ((q.pushTo ..).trans (q.session ..)) rfl

theorem pushEvent (d : Device) (p i b k u st : Nat) : g (d.pushEvent p i b k u st) = g d :=
  Quiet.ite (q.hub _ _ (by rfl)) (q.pushRecord ..)

theorem flushEvents (d : Device) : g d.flushEvents = g d :=
  (foldl_keeps g _ (fun _ _ => q.pushRecord ..) _ _).trans (q.hub _ _ (by rfl))

theorem latch (d : Device) (p i b u : Nat) : g (d.latch p i b u) = g d := by
  unfold Device.latch
  simp only
  apply Quiet.ite rfl
  rw [q.pushEvent, q.set]
  exact Quiet.ite ((q.set ..).trans (q.set ..)) rfl

theorem clearCause (d : Device) (p i m : Nat) : g (d.clearCause p i m) = g d := by
  unfold Device.clearCause
  simp only
  rw [foldl_keeps g _ (fun _ _ => q.pushEvent ..)]
  exact Quiet.ite ((q.set ..).trans ((q.set ..).trans (q.set ..))) (q.set ..)

theorem compact (d : Device) : g d.compact = g d := by
  unfold Device.compact
  simp only
  rw [q.bump, q.set, q.set]
  exact q.hub _ _ (by rfl)

theorem journal (d : Device) (l : List (Key × Nat)) : g (d.journal l).1 = g d := by
  unfold Device.journal
  simp only
  split
  · rfl
  · split
    · exact (q.latch ..).trans ((q.bump ..).trans ((q.hub _ _ (by rfl)).trans (q.hub _ _ (by rfl))))
    · have h : g (if d.hub.jnlBadReads = 1 then
          ({ d with hub.jnlBadReads := d.hub.jnlBadReads - 2 } : Device).tornRecords 1 (recordBytes (valueBytes l))
          else { d with hub.jnlBadReads := d.hub.jnlBadReads - 2 }) = g d :=
        Quiet.ite ((q.hub _ _ (by rfl)).trans (q.hub _ _ (by rfl))) (q.hub _ _ (by rfl))
      exact Quiet.ite ((q.compact ..).trans ((q.set ..).trans ((q.hub _ _ (by rfl)).trans h))) ((q.set ..).trans ((q.hub _ _ (by rfl)).trans h))

theorem setJ (d : Device) (o : Obj) (p i v : Nat) : g (d.setJ o p i v) = g d :=
  Quiet.ite ((q.set ..).trans (q.journal ..)) (q.journal ..)

theorem store (d : Device) (o : Obj) (p i v : Nat) : g (d.store o p i v).1 = g d := by
  unfold Device.store
  split
  · simp only
    split
    · exact (q.set ..).trans (q.journal ..)
    · exact q.journal ..
  · exact q.set ..

theorem settle (d : Device) : g d.settle = g d := d.settle_keeps g q.set q.emit (fun e _ _ => q.hub e _ (by rfl))

theorem fmMessage (d : Device) (n : Nat) : g (d.fmMessage n) = g d := by
  unfold Device.fmMessage
  apply Quiet.ite _ rfl
  simp only
  exact Quiet.ite ((q.clearCause ..).trans (q.hub _ _ (by rfl))) (q.hub _ _ (by rfl))

theorem respond (d : Device) (rq : Req) (r : Resp) : g (d.respond rq r) = g d := by
  unfold Device.respond
  simp only
  rw [q.emit, q.session]
  exact Quiet.ite (q.bump ..) (Quiet.ite (q.bump ..) rfl)

theorem setLog (d : Device) (l : List RetireEntry) : g (d.setLog l) = g d :=
  Quiet.ite ((q.hub _ _ (by rfl)).trans (q.journal ..)) (q.journal ..)

theorem logEntry (d : Device) (e : RetireEntry) : g (d.logEntry e) = g d := by
  unfold Device.logEntry
  simp only [Device.causeReplace]
  exact Quiet.ite (Quiet.ite ((q.latch ..).trans (q.setLog ..)) (q.setLog ..)) (q.latch ..)

theorem setReasons (d : Device) (v : Nat) : g (d.setReasons v) = g d := by
  unfold Device.setReasons
  simp only [Device.causeReplace]
  have h : g (if (decide (d.get .replReasons 4 0 = 0) && decide (v ≠ 0)) = true then
      ((d.set .replReasons 4 0 v).set .replOpenTime 4 0 (packTime (d.set .replReasons 4 0 v).clock)).latch 4 769 0 0
      else d.set .replReasons 4 0 v) = g d :=
    Quiet.ite ((q.latch ..).trans ((q.set ..).trans (q.set ..))) (q.set ..)
  exact Quiet.ite ((q.latch ..).trans h) h

theorem reviewReasons (d : Device) : g d.reviewReasons = g d := Quiet.ite rfl (q.setReasons ..)

theorem setStage (d : Device) (p v : Nat) : g (d.setStage p v) = g d := q.set ..

end Quiet

theorem quiet_hub : Quiet (fun d => d.hub.core) :=
  ⟨fun _ _ _ _ _ => rfl, fun _ _ => rfl, fun _ _ _ => rfl, fun _ _ h => h, fun _ _ => rfl⟩
theorem quiet_domains : Quiet (·.domains) := ⟨fun _ _ _ _ _ => rfl, fun _ _ => rfl, fun _ _ _ => rfl, fun _ _ _ => rfl, fun _ _ => rfl⟩
theorem quiet_clock : Quiet (·.clock) := ⟨fun _ _ _ _ _ => rfl, fun _ _ => rfl, fun _ _ _ => rfl, fun _ _ _ => rfl, fun _ _ => rfl⟩
theorem quiet_freeCtr : Quiet (·.freeCtr) := ⟨fun _ _ _ _ _ => rfl, fun _ _ => rfl, fun _ _ _ => rfl, fun _ _ _ => rfl, fun _ _ => rfl⟩
theorem quiet_nextId : Quiet (·.nextId) := ⟨fun _ _ _ _ _ => rfl, fun _ _ => rfl, fun _ _ _ => rfl, fun _ _ _ => rfl, fun _ _ => rfl⟩
theorem quiet_inbox : Quiet (·.inbox) := ⟨fun _ _ _ _ _ => rfl, fun _ _ => rfl, fun _ _ _ => rfl, fun _ _ _ => rfl, fun _ _ => rfl⟩
theorem quiet_planes : Quiet (·.planes) := ⟨fun _ _ _ _ _ => rfl, fun _ _ => rfl, fun _ _ _ => rfl, fun _ _ _ => rfl, fun _ _ => rfl⟩
theorem quiet_ports : Quiet (·.ports) := ⟨fun _ _ _ _ _ => rfl, fun _ _ => rfl, fun _ _ _ => rfl, fun _ _ _ => rfl, fun _ _ => rfl⟩
theorem quiet_frames : Quiet (·.frames) := ⟨fun _ _ _ _ _ => rfl, fun _ _ => rfl, fun _ _ _ => rfl, fun _ _ _ => rfl, fun _ _ => rfl⟩
theorem quiet_copies : Quiet (·.copies) := ⟨fun _ _ _ _ _ => rfl, fun _ _ => rfl, fun _ _ _ => rfl, fun _ _ _ => rfl, fun _ _ => rfl⟩
theorem quiet_flows : Quiet (·.flows) := ⟨fun _ _ _ _ _ => rfl, fun _ _ => rfl, fun _ _ _ => rfl, fun _ _ _ => rfl, fun _ _ => rfl⟩
theorem quiet_waitIn : Quiet (·.waitIn) := ⟨fun _ _ _ _ _ => rfl, fun _ _ => rfl, fun _ _ _ => rfl, fun _ _ _ => rfl, fun _ _ => rfl⟩
theorem quiet_rows : Quiet (·.rows) := ⟨fun _ _ _ _ _ => rfl, fun _ _ => rfl, fun _ _ _ => rfl, fun _ _ _ => rfl, fun _ _ => rfl⟩
theorem quiet_lfsr : Quiet (·.lfsr) := ⟨fun _ _ _ _ _ => rfl, fun _ _ => rfl, fun _ _ _ => rfl, fun _ _ _ => rfl, fun _ _ => rfl⟩
theorem quiet_spray : Quiet (·.spray) := ⟨fun _ _ _ _ _ => rfl, fun _ _ => rfl, fun _ _ _ => rfl, fun _ _ _ => rfl, fun _ _ => rfl⟩
theorem quiet_pools : Quiet (·.pools) := ⟨fun _ _ _ _ _ => rfl, fun _ _ => rfl, fun _ _ _ => rfl, fun _ _ _ => rfl, fun _ _ => rfl⟩
theorem quiet_outs : Quiet (·.outs) := ⟨fun _ _ _ _ _ => rfl, fun _ _ => rfl, fun _ _ _ => rfl, fun _ _ _ => rfl, fun _ _ => rfl⟩
theorem quiet_tqs : Quiet (·.tqs) := ⟨fun _ _ _ _ _ => rfl, fun _ _ => rfl, fun _ _ _ => rfl, fun _ _ _ => rfl, fun _ _ => rfl⟩
theorem quiet_tbs : Quiet (·.tbs) := ⟨fun _ _ _ _ _ => rfl, fun _ _ => rfl, fun _ _ _ => rfl, fun _ _ _ => rfl, fun _ _ => rfl⟩
theorem quiet_pds : Quiet (·.pds) := ⟨fun _ _ _ _ _ => rfl, fun _ _ => rfl, fun _ _ _ => rfl, fun _ _ _ => rfl, fun _ _ => rfl⟩
theorem quiet_rctxs : Quiet (·.rctxs) := ⟨fun _ _ _ _ _ => rfl, fun _ _ => rfl, fun _ _ _ => rfl, fun _ _ _ => rfl, fun _ _ => rfl⟩
theorem quiet_slots : Quiet (·.slots) := ⟨fun _ _ _ _ _ => rfl, fun _ _ => rfl, fun _ _ _ => rfl, fun _ _ _ => rfl, fun _ _ => rfl⟩
theorem quiet_notifies : Quiet (·.notifies) := ⟨fun _ _ _ _ _ => rfl, fun _ _ => rfl, fun _ _ _ => rfl, fun _ _ _ => rfl, fun _ _ => rfl⟩
theorem quiet_cctxs : Quiet (·.cctxs) := ⟨fun _ _ _ _ _ => rfl, fun _ _ => rfl, fun _ _ _ => rfl, fun _ _ _ => rfl, fun _ _ => rfl⟩
theorem quiet_chans : Quiet (·.chans) := ⟨fun _ _ _ _ _ => rfl, fun _ _ => rfl, fun _ _ _ => rfl, fun _ _ _ => rfl, fun _ _ => rfl⟩
theorem quiet_cals : Quiet (·.cals) := ⟨fun _ _ _ _ _ => rfl, fun _ _ => rfl, fun _ _ _ => rfl, fun _ _ _ => rfl, fun _ _ => rfl⟩
theorem quiet_links : Quiet (·.links) := ⟨fun _ _ _ _ _ => rfl, fun _ _ => rfl, fun _ _ _ => rfl, fun _ _ _ => rfl, fun _ _ => rfl⟩
theorem quiet_tethers : Quiet (·.tethers) := ⟨fun _ _ _ _ _ => rfl, fun _ _ => rfl, fun _ _ _ => rfl, fun _ _ _ => rfl, fun _ _ => rfl⟩
theorem quiet_tribs : Quiet (·.tribs) := ⟨fun _ _ _ _ _ => rfl, fun _ _ => rfl, fun _ _ _ => rfl, fun _ _ _ => rfl, fun _ _ => rfl⟩
theorem quiet_masters : Quiet (·.masters) := ⟨fun _ _ _ _ _ => rfl, fun _ _ => rfl, fun _ _ _ => rfl, fun _ _ _ => rfl, fun _ _ => rfl⟩
theorem quiet_tkeys : Quiet (·.tkeys) := ⟨fun _ _ _ _ _ => rfl, fun _ _ => rfl, fun _ _ _ => rfl, fun _ _ _ => rfl, fun _ _ => rfl⟩
theorem quiet_keys : Quiet (·.keys) := ⟨fun _ _ _ _ _ => rfl, fun _ _ => rfl, fun _ _ _ => rfl, fun _ _ _ => rfl, fun _ _ => rfl⟩
theorem quiet_rgns : Quiet (·.rgns) := ⟨fun _ _ _ _ _ => rfl, fun _ _ => rfl, fun _ _ _ => rfl, fun _ _ _ => rfl, fun _ _ => rfl⟩
theorem quiet_bists : Quiet (·.bists) := ⟨fun _ _ _ _ _ => rfl, fun _ _ => rfl, fun _ _ _ => rfl, fun _ _ _ => rfl, fun _ _ => rfl⟩
theorem quiet_stands : Quiet (·.stands) := ⟨fun _ _ _ _ _ => rfl, fun _ _ => rfl, fun _ _ _ => rfl, fun _ _ _ => rfl, fun _ _ => rfl⟩
theorem quiet_mons : Quiet (·.mons) := ⟨fun _ _ _ _ _ => rfl, fun _ _ => rfl, fun _ _ _ => rfl, fun _ _ _ => rfl, fun _ _ => rfl⟩
theorem quiet_copiesSc : Quiet (·.copiesSc) := ⟨fun _ _ _ _ _ => rfl, fun _ _ => rfl, fun _ _ _ => rfl, fun _ _ _ => rfl, fun _ _ => rfl⟩
theorem quiet_snap : Quiet (·.snap) := ⟨fun _ _ _ _ _ => rfl, fun _ _ => rfl, fun _ _ _ => rfl, fun _ _ _ => rfl, fun _ _ => rfl⟩

end Sys2Proof.Machine
end

