-- ==== Sys2Proof/Laws/Moves.lean ====
section
/-! SUPPORT. Once for every shared operation: what it can change. A set of objects is a number whose bit k stands for the k-th
object of the dictionary, a set of parts of the device a number whose bit k stands for the k-th part; bit 63 of the latter says
that a latched cause may be taken away. -/

namespace Sys2Proof.Machine

/-- The parts of the device beside its registers. -/
inductive Part where
  | sat
  | domains
  | clock
  | freeCtr
  | nextId
  | out
  | inbox
  | hub
  | planes
  | sessions
  | ports
  | frames
  | copies
  | flows
  | waitIn
  | rows
  | lfsr
  | spray
  | pools
  | outs
  | tqs
  | tbs
  | pds
  | rctxs
  | slots
  | notifies
  | cctxs
  | chans
  | cals
  | links
  | tethers
  | tribs
  | masters
  | tkeys
  | keys
  | rgns
  | bists
  | stands
  | mons
  | copiesSc
  | snap
  deriving DecidableEq, Repr

/-- A part is the same in two devices. -/
def Part.same (d e : Device) (x : Part) : Prop :=
  match x with
  | .sat => e.sat = d.sat
  | .domains => e.domains = d.domains
  | .clock => e.clock = d.clock
  | .freeCtr => e.freeCtr = d.freeCtr
  | .nextId => e.nextId = d.nextId
  | .out => e.out = d.out
  | .inbox => e.inbox = d.inbox
  | .hub => e.hub = d.hub
  | .planes => e.planes = d.planes
  | .sessions => e.sessions = d.sessions
  | .ports => e.ports = d.ports
  | .frames => e.frames = d.frames
  | .copies => e.copies = d.copies
  | .flows => e.flows = d.flows
  | .waitIn => e.waitIn = d.waitIn
  | .rows => e.rows = d.rows
  | .lfsr => e.lfsr = d.lfsr
  | .spray => e.spray = d.spray
  | .pools => e.pools = d.pools
  | .outs => e.outs = d.outs
  | .tqs => e.tqs = d.tqs
  | .tbs => e.tbs = d.tbs
  | .pds => e.pds = d.pds
  | .rctxs => e.rctxs = d.rctxs
  | .slots => e.slots = d.slots
  | .notifies => e.notifies = d.notifies
  | .cctxs => e.cctxs = d.cctxs
  | .chans => e.chans = d.chans
  | .cals => e.cals = d.cals
  | .links => e.links = d.links
  | .tethers => e.tethers = d.tethers
  | .tribs => e.tribs = d.tribs
  | .masters => e.masters = d.masters
  | .tkeys => e.tkeys = d.tkeys
  | .keys => e.keys = d.keys
  | .rgns => e.rgns = d.rgns
  | .bists => e.bists = d.bists
  | .stands => e.stands = d.stands
  | .mons => e.mons = d.mons
  | .copiesSc => e.copiesSc = d.copiesSc
  | .snap => e.snap = d.snap

theorem Part.same_refl (d : Device) (x : Part) : x.same d d := by cases x <;> rfl

theorem Part.same_trans {d e f : Device} {x : Part} (h : x.same d e) (k : x.same e f) : x.same d f := by
  cases x <;> exact Eq.trans k h

/-- One set lies in another. -/
def Mask.le (a b : Nat) : Prop := a &&& b = a

theorem Mask.bit {a b k : Nat} (ha : a.testBit k = true) (h : Mask.le a b) : b.testBit k = true := by
  have : (a &&& b).testBit k = true := by rw [show a &&& b = a from h]; exact ha
  rw [Nat.testBit_and] at this
  exact (Bool.and_eq_true _ _ ▸ this).2

theorem Mask.le_trans {a b c : Nat} (h : (a &&& b == a) = true) (k : Mask.le b c) : Mask.le a c := by
  have h' : a &&& b = a := by simpa using h
  unfold Mask.le at k ⊢
  calc a &&& c = (a &&& b) &&& c := by rw [h']
    _ = a &&& (b &&& c) := Nat.and_assoc ..
    _ = a := by rw [k, h']

theorem Mask.of {a b : Nat} (h : (a &&& b == a) = true) : Mask.le a b := by simpa [Mask.le] using h

theorem Mask.le_refl (a : Nat) : Mask.le a a := Nat.and_self a

/-- Every cause latched in `d` is latched in `e`. -/
def Latched (d e : Device) : Prop := ∀ p i b, b < 32 → bit (d.get .cause p i) b = true → bit (e.get .cause p i) b = true

theorem Latched.refl (d : Device) : Latched d d := fun _ _ _ _ h => h

theorem Key.order : Tbl.Order Key.lt := by
  constructor
  · intro a b c
    simp only [Key.lt, Bool.or_eq_true, Bool.and_eq_true, decide_eq_true_eq, beq_iff_eq]
    omega
  · intro a b h k
    have key : a.obj.ctorIdx = b.obj.ctorIdx → a.plane = b.plane → a.idx = b.idx → False := by
      intro x y z
      have x' : a.obj = b.obj := by
        rw [← Obj.ofNat_ctorIdx a.obj, x, Obj.ofNat_ctorIdx]
      obtain ⟨o, p, i⟩ := a; obtain ⟨o', p', i'⟩ := b
      dsimp only at x' y z
      exact h (by rw [x', y, z])
    simp only [Key.lt, Bool.or_eq_true, Bool.and_eq_true, Bool.or_eq_false_iff, Bool.and_eq_false_iff, decide_eq_true_eq,
      decide_eq_false_iff_not, beq_iff_eq, beq_eq_false_iff_ne] at k ⊢
    rcases Nat.lt_trichotomy a.obj.ctorIdx b.obj.ctorIdx with x | x | x
    · omega
    · rcases Nat.lt_trichotomy a.plane b.plane with y | y | y
      · omega
      · have : a.idx ≠ b.idx := fun z => key x y z
        omega
      · omega
    · omega

/-- A write keeps the canonical form. -/
theorem Device.regsWf_set {d : Device} {o : Obj} {p i v : Nat} (h : d.RegsWf = true) : (d.set o p i v).RegsWf = true := by
  unfold Device.RegsWf at h ⊢
  simp only [Bool.and_eq_true, List.all_eq_true, decide_eq_true_eq] at h ⊢
  refine ⟨Tbl.wf_put Key.order (fun k => k.obj.dflt k.idx) d.regs ⟨o, p, i⟩ _ h.1, fun e he => ?_⟩
  have er : ∀ e ∈ Tbl.erase d.regs ⟨o, p, i⟩, e.2 < 2 ^ e.1.obj.width := fun e he => h.2 e (List.mem_filter.mp he).1
  unfold Device.set at he
  simp only [Tbl.put] at he
  split at he
  · exact er e he
  · rcases Tbl.mem_ins _ _ _ _ _ he with rfl | k
    · exact Nat.mod_lt _ (Nat.two_pow_pos _)
    · exact er e k

/-- Taking entries away keeps the canonical form. -/
theorem Device.regsWf_filter {d e : Device} (f : Key × Nat → Bool) (h : d.RegsWf = true) (k : e.regs = d.regs.filter f) :
    e.RegsWf = true := by
  unfold Device.RegsWf at h ⊢
  simp only [Bool.and_eq_true, List.all_eq_true] at h ⊢
  rw [k]
  exact ⟨Tbl.wf_filter _ _ _ _ h.1, fun x hx => h.2 x (List.mem_filter.mp hx).1⟩

/-- From `d` to `e` only objects in `mo` and parts in `mp` may have changed, nothing that left is taken back, the
register file keeps its canonical form, and, unless `mp` says so, no latched cause is taken away. -/
structure Moves (d e : Device) (mo mp : Nat) : Prop where
  regs : ∀ o : Obj, mo.testBit o.ctorIdx = false → ∀ p i, e.get o p i = d.get o p i
  parts : ∀ y : Part, mp.testBit y.ctorIdx = false → y.same d e
  out : ∃ l, e.out = d.out ++ l
  latched : mp.testBit 63 = false → Latched d e
  kept : d.RegsWf = true → e.RegsWf = true

theorem Moves.refl (d : Device) (mo mp : Nat) : Moves d d mo mp :=
  ⟨fun _ _ _ _ => rfl, fun y _ => y.same_refl d, ⟨[], by simp⟩, fun _ => Latched.refl d, fun x => x⟩

variable {d₀ e₀ : Device} {mo mp : Nat}

theorem Moves.step {f : Device} (h : Moves d₀ e₀ mo mp) (k : Moves e₀ f mo mp) : Moves d₀ f mo mp := by
  refine ⟨fun o ho p i => (k.regs o ho p i).trans (h.regs o ho p i), fun y hy => Part.same_trans (h.parts y hy) (k.parts y hy), ?_,
    fun c p i b hb x => k.latched c p i b hb (h.latched c p i b hb x), fun x => k.kept (h.kept x)⟩
  obtain ⟨l, hl⟩ := h.out
  obtain ⟨m, hm⟩ := k.out
  exact ⟨l ++ m, by rw [hm, hl, List.append_assoc]⟩

theorem Moves.mono {mo' mp' : Nat} (h : Moves d₀ e₀ mo mp) (ho : Mask.le mo mo') (hp : Mask.le mp mp') : Moves d₀ e₀ mo' mp' := by
  have no {a b k : Nat} (l : Mask.le a b) (x : b.testBit k = false) : a.testBit k = false := by
    by_contra c
    rw [Mask.bit (by simpa using c) l] at x
    cases x
  exact ⟨fun o x => h.regs o (no ho x), fun y x => h.parts y (no hp x), h.out, fun x => h.latched (no hp x), h.kept⟩

theorem Moves.foldl {α : Type} {f : Device → α → Device} {x : List α} (h : Moves d₀ e₀ mo mp)
    (hf : ∀ d a, Moves d (f d a) mo mp) : Moves d₀ (x.foldl f e₀) mo mp := by
  induction x generalizing e₀ with
  | nil => exact h
  | cons a t ih => exact ih (h.step (hf e₀ a))

theorem Moves.foldl1 {α β : Type} {f : Device × β → α → Device × β} {x : List α} {z : Device × β} (h : Moves d₀ z.1 mo mp)
    (hf : ∀ s a, Moves s.1 (f s a).1 mo mp) : Moves d₀ (x.foldl f z).1 mo mp := by
  induction x generalizing z with
  | nil => exact h
  | cons a t ih => exact ih (h.step (hf z a))

theorem Moves.ite {c : Prop} [Decidable c] {a b : Device} (ha : c → Moves d₀ a mo mp) (hb : ¬c → Moves d₀ b mo mp) :
    Moves d₀ (if c then a else b) mo mp := by
  by_cases h : c
  · rw [if_pos h]; exact ha h
  · rw [if_neg h]; exact hb h

theorem Moves.ite1 {β : Type} {c : Prop} [Decidable c] {a b : Device × β} (ha : c → Moves d₀ a.1 mo mp)
    (hb : ¬c → Moves d₀ b.1 mo mp) : Moves d₀ (if c then a else b).1 mo mp := by
  by_cases h : c
  · rw [if_pos h]; exact ha h
  · rw [if_neg h]; exact hb h

theorem Moves.getD {x : Option Device} (h : Moves d₀ e₀ mo mp) (hx : ∀ r, x = some r → Moves d₀ r mo mp) :
    Moves d₀ (x.getD e₀) mo mp := by
  cases x with
  | none => exact h
  | some r => exact hx r rfl

/-- What it says of one register. -/
theorem Moves.get (h : Moves d₀ e₀ mo mp) (o : Obj) (p i : Nat) (ho : mo.testBit o.ctorIdx = false) : e₀.get o p i = d₀.get o p i :=
  h.regs o ho p i

/-- What it says of one part. -/
theorem Moves.same (h : Moves d₀ e₀ mo mp) (y : Part) (hy : mp.testBit y.ctorIdx = false) : y.same d₀ e₀ := h.parts y hy

theorem Moves.port (h : Moves d₀ e₀ mo mp) (hy : mp.testBit Part.ports.ctorIdx = false) (p n : Nat) : e₀.port p n = d₀.port p n := by
  have : e₀.ports = d₀.ports := h.parts .ports hy
  unfold Device.port; rw [this]

theorem Moves.plane (h : Moves d₀ e₀ mo mp) (hy : mp.testBit Part.planes.ctorIdx = false) (p : Nat) : e₀.plane p = d₀.plane p := by
  have : e₀.planes = d₀.planes := h.parts .planes hy
  unfold Device.plane; rw [this]

set_option linter.unusedSimpArgs false
set_option linter.unreachableTactic false
set_option linter.unusedTactic false
set_option linter.unusedVariables false

/-! ### Registers -/

theorem Moves.set {o : Obj} {p i v : Nat} (h : Moves d₀ e₀ mo mp) (ho : mo.testBit o.ctorIdx = true) (hc : (o ≠ .cause)) :
    Moves d₀ (e₀.set o p i v) mo mp := by
  refine h.step ⟨fun o' ho' p' i' => Device.get_set_obj _ _ _ _ _ _ _ _ ?_, fun y _ => by cases y <;> rfl, ⟨[], by simp [Device.set]⟩,
    fun _ p' i' b _ x => (by rw [Device.get_set_obj _ _ _ _ _ _ _ _ (Ne.symm hc)]; exact x), Device.regsWf_set⟩
  rintro rfl; rw [ho] at ho'; cases ho'

/-- A write of any object at all, also one that takes causes away. -/
theorem Moves.setAny {o : Obj} {p i v : Nat} (h : Moves d₀ e₀ mo mp) (ho : mo.testBit o.ctorIdx = true) (hc : mp.testBit 63 = true) :
    Moves d₀ (e₀.set o p i v) mo mp := by
  refine h.step ⟨fun o' ho' p' i' => Device.get_set_obj _ _ _ _ _ _ _ _ ?_, fun y _ => by cases y <;> rfl, ⟨[], by simp [Device.set]⟩,
    fun x => (by rw [hc] at x; cases x), Device.regsWf_set⟩
  rintro rfl; rw [ho] at ho'; cases ho'

theorem Moves.emit {x : Out} (h : Moves d₀ e₀ mo mp) (_ : Mask.le 0 mo) (hp : Mask.le 0x20 mp) : Moves d₀ (e₀.emit x) mo mp :=
  h.step ⟨fun _ _ _ _ => rfl, fun y hy => by
    cases y <;> first | rfl | exact absurd ((Mask.bit (k := 5) (by decide) hp).symm.trans hy) (by decide), ⟨[x], rfl⟩, fun _ => Latched.refl _, fun x => x⟩

theorem Moves.with_sat {v : List Key} (h : Moves d₀ e₀ mo mp) (hp : mp.testBit 0 = true) : Moves d₀ { e₀ with sat := v } mo mp :=
  h.step ⟨fun _ _ _ _ => rfl, fun y hy => by cases y <;> first | rfl | exact absurd (hp.symm.trans hy) (by decide), ⟨[], by simp⟩, fun _ => Latched.refl _, fun x => x⟩
theorem Moves.with_domains {v : List (Key × Bytes)} (h : Moves d₀ e₀ mo mp) (hp : mp.testBit 1 = true) : Moves d₀ { e₀ with domains := v } mo mp :=
  h.step ⟨fun _ _ _ _ => rfl, fun y hy => by cases y <;> first | rfl | exact absurd (hp.symm.trans hy) (by decide), ⟨[], by simp⟩, fun _ => Latched.refl _, fun x => x⟩
theorem Moves.with_clock {v : Nat} (h : Moves d₀ e₀ mo mp) (hp : mp.testBit 2 = true) : Moves d₀ { e₀ with clock := v } mo mp :=
  h.step ⟨fun _ _ _ _ => rfl, fun y hy => by cases y <;> first | rfl | exact absurd (hp.symm.trans hy) (by decide), ⟨[], by simp⟩, fun _ => Latched.refl _, fun x => x⟩
theorem Moves.with_freeCtr {v : Nat} (h : Moves d₀ e₀ mo mp) (hp : mp.testBit 3 = true) : Moves d₀ { e₀ with freeCtr := v } mo mp :=
  h.step ⟨fun _ _ _ _ => rfl, fun y hy => by cases y <;> first | rfl | exact absurd (hp.symm.trans hy) (by decide), ⟨[], by simp⟩, fun _ => Latched.refl _, fun x => x⟩
theorem Moves.with_nextId {v : Nat} (h : Moves d₀ e₀ mo mp) (hp : mp.testBit 4 = true) : Moves d₀ { e₀ with nextId := v } mo mp :=
  h.step ⟨fun _ _ _ _ => rfl, fun y hy => by cases y <;> first | rfl | exact absurd (hp.symm.trans hy) (by decide), ⟨[], by simp⟩, fun _ => Latched.refl _, fun x => x⟩
theorem Moves.with_inbox {v : List (Nat × Nat × Nat × Frame)} (h : Moves d₀ e₀ mo mp) (hp : mp.testBit 6 = true) : Moves d₀ { e₀ with inbox := v } mo mp :=
  h.step ⟨fun _ _ _ _ => rfl, fun y hy => by cases y <;> first | rfl | exact absurd (hp.symm.trans hy) (by decide), ⟨[], by simp⟩, fun _ => Latched.refl _, fun x => x⟩
theorem Moves.with_hub {v : HubSt} (h : Moves d₀ e₀ mo mp) (hp : mp.testBit 7 = true) : Moves d₀ { e₀ with hub := v } mo mp :=
  h.step ⟨fun _ _ _ _ => rfl, fun y hy => by cases y <;> first | rfl | exact absurd (hp.symm.trans hy) (by decide), ⟨[], by simp⟩, fun _ => Latched.refl _, fun x => x⟩
theorem Moves.with_planes {v : List (Ix × PlaneSt)} (h : Moves d₀ e₀ mo mp) (hp : mp.testBit 8 = true) : Moves d₀ { e₀ with planes := v } mo mp :=
  h.step ⟨fun _ _ _ _ => rfl, fun y hy => by cases y <;> first | rfl | exact absurd (hp.symm.trans hy) (by decide), ⟨[], by simp⟩, fun _ => Latched.refl _, fun x => x⟩
theorem Moves.with_sessions {v : List (Ix × SessionSt)} (h : Moves d₀ e₀ mo mp) (hp : mp.testBit 9 = true) : Moves d₀ { e₀ with sessions := v } mo mp :=
  h.step ⟨fun _ _ _ _ => rfl, fun y hy => by cases y <;> first | rfl | exact absurd (hp.symm.trans hy) (by decide), ⟨[], by simp⟩, fun _ => Latched.refl _, fun x => x⟩
theorem Moves.with_ports {v : List (Ix × PortSt)} (h : Moves d₀ e₀ mo mp) (hp : mp.testBit 10 = true) : Moves d₀ { e₀ with ports := v } mo mp :=
  h.step ⟨fun _ _ _ _ => rfl, fun y hy => by cases y <;> first | rfl | exact absurd (hp.symm.trans hy) (by decide), ⟨[], by simp⟩, fun _ => Latched.refl _, fun x => x⟩
theorem Moves.with_frames {v : List (Ix × FrameRec)} (h : Moves d₀ e₀ mo mp) (hp : mp.testBit 11 = true) : Moves d₀ { e₀ with frames := v } mo mp :=
  h.step ⟨fun _ _ _ _ => rfl, fun y hy => by cases y <;> first | rfl | exact absurd (hp.symm.trans hy) (by decide), ⟨[], by simp⟩, fun _ => Latched.refl _, fun x => x⟩
theorem Moves.with_copies {v : List (Ix × Copy)} (h : Moves d₀ e₀ mo mp) (hp : mp.testBit 12 = true) : Moves d₀ { e₀ with copies := v } mo mp :=
  h.step ⟨fun _ _ _ _ => rfl, fun y hy => by cases y <;> first | rfl | exact absurd (hp.symm.trans hy) (by decide), ⟨[], by simp⟩, fun _ => Latched.refl _, fun x => x⟩
theorem Moves.with_flows {v : List Flow} (h : Moves d₀ e₀ mo mp) (hp : mp.testBit 13 = true) : Moves d₀ { e₀ with flows := v } mo mp :=
  h.step ⟨fun _ _ _ _ => rfl, fun y hy => by cases y <;> first | rfl | exact absurd (hp.symm.trans hy) (by decide), ⟨[], by simp⟩, fun _ => Latched.refl _, fun x => x⟩
theorem Moves.with_waitIn {v : List WaitIn} (h : Moves d₀ e₀ mo mp) (hp : mp.testBit 14 = true) : Moves d₀ { e₀ with waitIn := v } mo mp :=
  h.step ⟨fun _ _ _ _ => rfl, fun y hy => by cases y <;> first | rfl | exact absurd (hp.symm.trans hy) (by decide), ⟨[], by simp⟩, fun _ => Latched.refl _, fun x => x⟩
theorem Moves.with_rows {v : List (Ix × RowSt)} (h : Moves d₀ e₀ mo mp) (hp : mp.testBit 15 = true) : Moves d₀ { e₀ with rows := v } mo mp :=
  h.step ⟨fun _ _ _ _ => rfl, fun y hy => by cases y <;> first | rfl | exact absurd (hp.symm.trans hy) (by decide), ⟨[], by simp⟩, fun _ => Latched.refl _, fun x => x⟩
theorem Moves.with_lfsr {v : List (Ix × Nat)} (h : Moves d₀ e₀ mo mp) (hp : mp.testBit 16 = true) : Moves d₀ { e₀ with lfsr := v } mo mp :=
  h.step ⟨fun _ _ _ _ => rfl, fun y hy => by cases y <;> first | rfl | exact absurd (hp.symm.trans hy) (by decide), ⟨[], by simp⟩, fun _ => Latched.refl _, fun x => x⟩
theorem Moves.with_spray {v : List (Ix × Nat)} (h : Moves d₀ e₀ mo mp) (hp : mp.testBit 17 = true) : Moves d₀ { e₀ with spray := v } mo mp :=
  h.step ⟨fun _ _ _ _ => rfl, fun y hy => by cases y <;> first | rfl | exact absurd (hp.symm.trans hy) (by decide), ⟨[], by simp⟩, fun _ => Latched.refl _, fun x => x⟩
theorem Moves.with_pools {v : List (Ix × PoolSt)} (h : Moves d₀ e₀ mo mp) (hp : mp.testBit 18 = true) : Moves d₀ { e₀ with pools := v } mo mp :=
  h.step ⟨fun _ _ _ _ => rfl, fun y hy => by cases y <;> first | rfl | exact absurd (hp.symm.trans hy) (by decide), ⟨[], by simp⟩, fun _ => Latched.refl _, fun x => x⟩
theorem Moves.with_outs {v : List (Ix × OutSt)} (h : Moves d₀ e₀ mo mp) (hp : mp.testBit 19 = true) : Moves d₀ { e₀ with outs := v } mo mp :=
  h.step ⟨fun _ _ _ _ => rfl, fun y hy => by cases y <;> first | rfl | exact absurd (hp.symm.trans hy) (by decide), ⟨[], by simp⟩, fun _ => Latched.refl _, fun x => x⟩
theorem Moves.with_tqs {v : List (Ix × TqSt)} (h : Moves d₀ e₀ mo mp) (hp : mp.testBit 20 = true) : Moves d₀ { e₀ with tqs := v } mo mp :=
  h.step ⟨fun _ _ _ _ => rfl, fun y hy => by cases y <;> first | rfl | exact absurd (hp.symm.trans hy) (by decide), ⟨[], by simp⟩, fun _ => Latched.refl _, fun x => x⟩
theorem Moves.with_tbs {v : List (Ix × TbSt)} (h : Moves d₀ e₀ mo mp) (hp : mp.testBit 21 = true) : Moves d₀ { e₀ with tbs := v } mo mp :=
  h.step ⟨fun _ _ _ _ => rfl, fun y hy => by cases y <;> first | rfl | exact absurd (hp.symm.trans hy) (by decide), ⟨[], by simp⟩, fun _ => Latched.refl _, fun x => x⟩
theorem Moves.with_pds {v : List (Ix × PdSt)} (h : Moves d₀ e₀ mo mp) (hp : mp.testBit 22 = true) : Moves d₀ { e₀ with pds := v } mo mp :=
  h.step ⟨fun _ _ _ _ => rfl, fun y hy => by cases y <;> first | rfl | exact absurd (hp.symm.trans hy) (by decide), ⟨[], by simp⟩, fun _ => Latched.refl _, fun x => x⟩
theorem Moves.with_rctxs {v : List (Ix × RctxSt)} (h : Moves d₀ e₀ mo mp) (hp : mp.testBit 23 = true) : Moves d₀ { e₀ with rctxs := v } mo mp :=
  h.step ⟨fun _ _ _ _ => rfl, fun y hy => by cases y <;> first | rfl | exact absurd (hp.symm.trans hy) (by decide), ⟨[], by simp⟩, fun _ => Latched.refl _, fun x => x⟩
theorem Moves.with_slots {v : List (Ix × SlotSt)} (h : Moves d₀ e₀ mo mp) (hp : mp.testBit 24 = true) : Moves d₀ { e₀ with slots := v } mo mp :=
  h.step ⟨fun _ _ _ _ => rfl, fun y hy => by cases y <;> first | rfl | exact absurd (hp.symm.trans hy) (by decide), ⟨[], by simp⟩, fun _ => Latched.refl _, fun x => x⟩
theorem Moves.with_notifies {v : List Notify} (h : Moves d₀ e₀ mo mp) (hp : mp.testBit 25 = true) : Moves d₀ { e₀ with notifies := v } mo mp :=
  h.step ⟨fun _ _ _ _ => rfl, fun y hy => by cases y <;> first | rfl | exact absurd (hp.symm.trans hy) (by decide), ⟨[], by simp⟩, fun _ => Latched.refl _, fun x => x⟩
theorem Moves.with_cctxs {v : List (Ix × CctxSt)} (h : Moves d₀ e₀ mo mp) (hp : mp.testBit 26 = true) : Moves d₀ { e₀ with cctxs := v } mo mp :=
  h.step ⟨fun _ _ _ _ => rfl, fun y hy => by cases y <;> first | rfl | exact absurd (hp.symm.trans hy) (by decide), ⟨[], by simp⟩, fun _ => Latched.refl _, fun x => x⟩
theorem Moves.with_chans {v : List (Ix × ChanSt)} (h : Moves d₀ e₀ mo mp) (hp : mp.testBit 27 = true) : Moves d₀ { e₀ with chans := v } mo mp :=
  h.step ⟨fun _ _ _ _ => rfl, fun y hy => by cases y <;> first | rfl | exact absurd (hp.symm.trans hy) (by decide), ⟨[], by simp⟩, fun _ => Latched.refl _, fun x => x⟩
theorem Moves.with_cals {v : List (Ix × CalSt)} (h : Moves d₀ e₀ mo mp) (hp : mp.testBit 28 = true) : Moves d₀ { e₀ with cals := v } mo mp :=
  h.step ⟨fun _ _ _ _ => rfl, fun y hy => by cases y <;> first | rfl | exact absurd (hp.symm.trans hy) (by decide), ⟨[], by simp⟩, fun _ => Latched.refl _, fun x => x⟩
theorem Moves.with_links {v : List (Ix × LinkSt)} (h : Moves d₀ e₀ mo mp) (hp : mp.testBit 29 = true) : Moves d₀ { e₀ with links := v } mo mp :=
  h.step ⟨fun _ _ _ _ => rfl, fun y hy => by cases y <;> first | rfl | exact absurd (hp.symm.trans hy) (by decide), ⟨[], by simp⟩, fun _ => Latched.refl _, fun x => x⟩
theorem Moves.with_tethers {v : List (Ix × TetherSt)} (h : Moves d₀ e₀ mo mp) (hp : mp.testBit 30 = true) : Moves d₀ { e₀ with tethers := v } mo mp :=
  h.step ⟨fun _ _ _ _ => rfl, fun y hy => by cases y <;> first | rfl | exact absurd (hp.symm.trans hy) (by decide), ⟨[], by simp⟩, fun _ => Latched.refl _, fun x => x⟩
theorem Moves.with_tribs {v : List (Ix × TribSt)} (h : Moves d₀ e₀ mo mp) (hp : mp.testBit 31 = true) : Moves d₀ { e₀ with tribs := v } mo mp :=
  h.step ⟨fun _ _ _ _ => rfl, fun y hy => by cases y <;> first | rfl | exact absurd (hp.symm.trans hy) (by decide), ⟨[], by simp⟩, fun _ => Latched.refl _, fun x => x⟩
theorem Moves.with_masters {v : List (Ix × MasterSt)} (h : Moves d₀ e₀ mo mp) (hp : mp.testBit 32 = true) : Moves d₀ { e₀ with masters := v } mo mp :=
  h.step ⟨fun _ _ _ _ => rfl, fun y hy => by cases y <;> first | rfl | exact absurd (hp.symm.trans hy) (by decide), ⟨[], by simp⟩, fun _ => Latched.refl _, fun x => x⟩
theorem Moves.with_tkeys {v : List (Ix × Option TKey)} (h : Moves d₀ e₀ mo mp) (hp : mp.testBit 33 = true) : Moves d₀ { e₀ with tkeys := v } mo mp :=
  h.step ⟨fun _ _ _ _ => rfl, fun y hy => by cases y <;> first | rfl | exact absurd (hp.symm.trans hy) (by decide), ⟨[], by simp⟩, fun _ => Latched.refl _, fun x => x⟩
theorem Moves.with_keys {v : List (Ix × KeySt)} (h : Moves d₀ e₀ mo mp) (hp : mp.testBit 34 = true) : Moves d₀ { e₀ with keys := v } mo mp :=
  h.step ⟨fun _ _ _ _ => rfl, fun y hy => by cases y <;> first | rfl | exact absurd (hp.symm.trans hy) (by decide), ⟨[], by simp⟩, fun _ => Latched.refl _, fun x => x⟩
theorem Moves.with_rgns {v : List (Ix × RgnSt)} (h : Moves d₀ e₀ mo mp) (hp : mp.testBit 35 = true) : Moves d₀ { e₀ with rgns := v } mo mp :=
  h.step ⟨fun _ _ _ _ => rfl, fun y hy => by cases y <;> first | rfl | exact absurd (hp.symm.trans hy) (by decide), ⟨[], by simp⟩, fun _ => Latched.refl _, fun x => x⟩
theorem Moves.with_bists {v : List (Ix × BistSt)} (h : Moves d₀ e₀ mo mp) (hp : mp.testBit 36 = true) : Moves d₀ { e₀ with bists := v } mo mp :=
  h.step ⟨fun _ _ _ _ => rfl, fun y hy => by cases y <;> first | rfl | exact absurd (hp.symm.trans hy) (by decide), ⟨[], by simp⟩, fun _ => Latched.refl _, fun x => x⟩
theorem Moves.with_stands {v : List (Ix × List (Nat × Nat))} (h : Moves d₀ e₀ mo mp) (hp : mp.testBit 37 = true) : Moves d₀ { e₀ with stands := v } mo mp :=
  h.step ⟨fun _ _ _ _ => rfl, fun y hy => by cases y <;> first | rfl | exact absurd (hp.symm.trans hy) (by decide), ⟨[], by simp⟩, fun _ => Latched.refl _, fun x => x⟩
theorem Moves.with_mons {v : List (Ix × MonSt)} (h : Moves d₀ e₀ mo mp) (hp : mp.testBit 38 = true) : Moves d₀ { e₀ with mons := v } mo mp :=
  h.step ⟨fun _ _ _ _ => rfl, fun y hy => by cases y <;> first | rfl | exact absurd (hp.symm.trans hy) (by decide), ⟨[], by simp⟩, fun _ => Latched.refl _, fun x => x⟩
theorem Moves.with_copiesSc {v : List (Ix × ScSt)} (h : Moves d₀ e₀ mo mp) (hp : mp.testBit 39 = true) : Moves d₀ { e₀ with copiesSc := v } mo mp :=
  h.step ⟨fun _ _ _ _ => rfl, fun y hy => by cases y <;> first | rfl | exact absurd (hp.symm.trans hy) (by decide), ⟨[], by simp⟩, fun _ => Latched.refl _, fun x => x⟩
theorem Moves.with_snap {v : SnapSt} (h : Moves d₀ e₀ mo mp) (hp : mp.testBit 40 = true) : Moves d₀ { e₀ with snap := v } mo mp :=
  h.step ⟨fun _ _ _ _ => rfl, fun y hy => by cases y <;> first | rfl | exact absurd (hp.symm.trans hy) (by decide), ⟨[], by simp⟩, fun _ => Latched.refl _, fun x => x⟩
theorem Moves.setDomain {o : Obj} {p i : Nat} {v : Bytes} (h : Moves d₀ e₀ mo mp) (_ : Mask.le 0 mo) (hp : Mask.le 0x2 mp) : Moves d₀ (e₀.setDomain o p i v) mo mp :=
  h.with_domains (Mask.bit (a := 0x2) (by decide) hp)
theorem Moves.setPlane {p : Nat} {v : PlaneSt} (h : Moves d₀ e₀ mo mp) (_ : Mask.le 0 mo) (hp : Mask.le 0x100 mp) : Moves d₀ (e₀.setPlane p v) mo mp :=
  h.with_planes (Mask.bit (a := 0x100) (by decide) hp)
theorem Moves.setPort {p n : Nat} {v : PortSt} (h : Moves d₀ e₀ mo mp) (_ : Mask.le 0 mo) (hp : Mask.le 0x400 mp) : Moves d₀ (e₀.setPort p n v) mo mp :=
  h.with_ports (Mask.bit (a := 0x400) (by decide) hp)
theorem Moves.setRow {p r : Nat} {v : RowSt} (h : Moves d₀ e₀ mo mp) (_ : Mask.le 0 mo) (hp : Mask.le 0x8000 mp) : Moves d₀ (e₀.setRow p r v) mo mp :=
  h.with_rows (Mask.bit (a := 0x8000) (by decide) hp)
theorem Moves.setPool {p k : Nat} {v : PoolSt} (h : Moves d₀ e₀ mo mp) (_ : Mask.le 0 mo) (hp : Mask.le 0x40000 mp) : Moves d₀ (e₀.setPool p k v) mo mp :=
  h.with_pools (Mask.bit (a := 0x40000) (by decide) hp)
theorem Moves.setOutp {p o : Nat} {v : OutSt} (h : Moves d₀ e₀ mo mp) (_ : Mask.le 0 mo) (hp : Mask.le 0x80000 mp) : Moves d₀ (e₀.setOutp p o v) mo mp :=
  h.with_outs (Mask.bit (a := 0x80000) (by decide) hp)
theorem Moves.setTq {p o c t : Nat} {v : TqSt} (h : Moves d₀ e₀ mo mp) (_ : Mask.le 0 mo) (hp : Mask.le 0x100000 mp) : Moves d₀ (e₀.setTq p o c t v) mo mp :=
  h.with_tqs (Mask.bit (a := 0x100000) (by decide) hp)
theorem Moves.setTb {p n : Nat} {v : TbSt} (h : Moves d₀ e₀ mo mp) (_ : Mask.le 0 mo) (hp : Mask.le 0x200000 mp) : Moves d₀ (e₀.setTb p n v) mo mp :=
  h.with_tbs (Mask.bit (a := 0x200000) (by decide) hp)
theorem Moves.setPd {p o : Nat} {v : PdSt} (h : Moves d₀ e₀ mo mp) (_ : Mask.le 0 mo) (hp : Mask.le 0x400000 mp) : Moves d₀ (e₀.setPd p o v) mo mp :=
  h.with_pds (Mask.bit (a := 0x400000) (by decide) hp)
theorem Moves.setRctx {p x : Nat} {v : RctxSt} (h : Moves d₀ e₀ mo mp) (_ : Mask.le 0 mo) (hp : Mask.le 0x800000 mp) : Moves d₀ (e₀.setRctx p x v) mo mp :=
  h.with_rctxs (Mask.bit (a := 0x800000) (by decide) hp)
theorem Moves.setSlot {p n : Nat} {v : SlotSt} (h : Moves d₀ e₀ mo mp) (_ : Mask.le 0 mo) (hp : Mask.le 0x1000000 mp) : Moves d₀ (e₀.setSlot p n v) mo mp :=
  h.with_slots (Mask.bit (a := 0x1000000) (by decide) hp)
theorem Moves.setCctx {p n : Nat} {v : CctxSt} (h : Moves d₀ e₀ mo mp) (_ : Mask.le 0 mo) (hp : Mask.le 0x4000000 mp) : Moves d₀ (e₀.setCctx p n v) mo mp :=
  h.with_cctxs (Mask.bit (a := 0x4000000) (by decide) hp)
theorem Moves.setSession {s : Nat} {v : SessionSt} (h : Moves d₀ e₀ mo mp) (_ : Mask.le 0 mo) (hp : Mask.le 0x200 mp) : Moves d₀ (e₀.setSession s v) mo mp :=
  h.with_sessions (Mask.bit (a := 0x200) (by decide) hp)
theorem Moves.setChan {p ch : Nat} {v : ChanSt} (h : Moves d₀ e₀ mo mp) (_ : Mask.le 0 mo) (hp : Mask.le 0x8000000 mp) : Moves d₀ (e₀.setChan p ch v) mo mp :=
  h.with_chans (Mask.bit (a := 0x8000000) (by decide) hp)
theorem Moves.setCal {p c : Nat} {v : CalSt} (h : Moves d₀ e₀ mo mp) (_ : Mask.le 0 mo) (hp : Mask.le 0x10000000 mp) : Moves d₀ (e₀.setCal p c v) mo mp :=
  h.with_cals (Mask.bit (a := 0x10000000) (by decide) hp)
theorem Moves.setSc {p : Nat} {v : ScSt} (h : Moves d₀ e₀ mo mp) (_ : Mask.le 0 mo) (hp : Mask.le 0x8000000000 mp) : Moves d₀ (e₀.setSc p v) mo mp :=
  h.with_copiesSc (Mask.bit (a := 0x8000000000) (by decide) hp)
theorem Moves.setStands {p g : Nat} {l : List (Nat × Nat)} (h : Moves d₀ e₀ mo mp) (_ : Mask.le 0 mo) (hp : Mask.le 0x2000000000 mp) : Moves d₀ (e₀.setStands p g l) mo mp :=
  h.with_stands (Mask.bit (a := 0x2000000000) (by decide) hp)
theorem Moves.setRgn {p g : Nat} {v : RgnSt} (h : Moves d₀ e₀ mo mp) (_ : Mask.le 0 mo) (hp : Mask.le 0x800000000 mp) : Moves d₀ (e₀.setRgn p g v) mo mp :=
  h.with_rgns (Mask.bit (a := 0x800000000) (by decide) hp)
theorem Moves.setMon {p m : Nat} {v : MonSt} (h : Moves d₀ e₀ mo mp) (_ : Mask.le 0 mo) (hp : Mask.le 0x4000000000 mp) : Moves d₀ (e₀.setMon p m v) mo mp :=
  h.with_mons (Mask.bit (a := 0x4000000000) (by decide) hp)
theorem Moves.setBist {p : Nat} {v : BistSt} (h : Moves d₀ e₀ mo mp) (_ : Mask.le 0 mo) (hp : Mask.le 0x1000000000 mp) : Moves d₀ (e₀.setBist p v) mo mp :=
  h.with_bists (Mask.bit (a := 0x1000000000) (by decide) hp)
theorem Moves.setKeySt {p : Nat} {v : KeySt} (h : Moves d₀ e₀ mo mp) (_ : Mask.le 0 mo) (hp : Mask.le 0x400000000 mp) : Moves d₀ (e₀.setKeySt p v) mo mp :=
  h.with_keys (Mask.bit (a := 0x400000000) (by decide) hp)
theorem Moves.setMaster {p sel : Nat} {v : MasterSt} (h : Moves d₀ e₀ mo mp) (_ : Mask.le 0 mo) (hp : Mask.le 0x100000000 mp) : Moves d₀ (e₀.setMaster p sel v) mo mp :=
  h.with_masters (Mask.bit (a := 0x100000000) (by decide) hp)
theorem Moves.setTkey {p i : Nat} {v : Option TKey} (h : Moves d₀ e₀ mo mp) (_ : Mask.le 0 mo) (hp : Mask.le 0x200000000 mp) : Moves d₀ (e₀.setTkey p i v) mo mp :=
  h.with_tkeys (Mask.bit (a := 0x200000000) (by decide) hp)
theorem Moves.setLink {p l : Nat} {v : LinkSt} (h : Moves d₀ e₀ mo mp) (_ : Mask.le 0 mo) (hp : Mask.le 0x20000000 mp) : Moves d₀ (e₀.setLink p l v) mo mp :=
  h.with_links (Mask.bit (a := 0x20000000) (by decide) hp)
theorem Moves.setTether {p : Nat} {v : TetherSt} (h : Moves d₀ e₀ mo mp) (_ : Mask.le 0 mo) (hp : Mask.le 0x40000000 mp) : Moves d₀ (e₀.setTether p v) mo mp :=
  h.with_tethers (Mask.bit (a := 0x40000000) (by decide) hp)
theorem Moves.setTrib {p t : Nat} {v : TribSt} (h : Moves d₀ e₀ mo mp) (_ : Mask.le 0 mo) (hp : Mask.le 0x80000000 mp) : Moves d₀ (e₀.setTrib p t v) mo mp :=
  h.with_tribs (Mask.bit (a := 0x80000000) (by decide) hp)

theorem Moves.count {o : Obj} {p i n : Nat} (h : Moves d₀ e₀ mo mp) (ho : mo.testBit o.ctorIdx = true) (hc : (o ≠ .cause))
    (hp : mp.testBit 0 = true) : Moves d₀ (e₀.count o p i n) mo mp := by
  unfold Device.count
  simp only
  split
  · exact h.set ho hc
  · split
    · exact h.set ho hc
    · exact (h.set ho hc).with_sat hp

theorem Moves.bump {o : Obj} {p i : Nat} (h : Moves d₀ e₀ mo mp) (ho : mo.testBit o.ctorIdx = true) (hc : (o ≠ .cause))
    (hp : mp.testBit 0 = true) : Moves d₀ (e₀.bump o p i) mo mp := h.count ho hc hp

theorem Moves.highWater {o : Obj} {p i v : Nat} (h : Moves d₀ e₀ mo mp) (ho : mo.testBit o.ctorIdx = true) (hc : (o ≠ .cause)) :
    Moves d₀ (e₀.highWater o p i v) mo mp := by
  unfold Device.highWater
  split
  · exact h.set ho hc
  · exact h

theorem Moves.fresh (h : Moves d₀ e₀ mo mp) (_ : Mask.le 0 mo) (hp : Mask.le 0x8 mp) : Moves d₀ e₀.fresh.2 mo mp :=
  h.with_freeCtr (Mask.bit (a := 0x8) (by decide) hp)

theorem Moves.newId (h : Moves d₀ e₀ mo mp) (_ : Mask.le 0 mo) (hp : Mask.le 0x10 mp) : Moves d₀ e₀.newId.2 mo mp :=
  h.with_nextId (Mask.bit (a := 0x10) (by decide) hp)

theorem Moves.cmdReads {t : Target} {ses v : Nat} (h : Moves d₀ e₀ mo mp) (ho : mo.testBit t.obj.ctorIdx = true)
    (hc : (t.obj ≠ .cause)) : Moves d₀ (e₀.cmdReads t ses v) mo mp := h.set ho hc

theorem Moves.copyPage {p sdir ddir : Nat} {src dst : Obj} (h : Moves d₀ e₀ mo mp) (ho : mo.testBit dst.ctorIdx = true)
    (hc : (dst ≠ .cause)) : Moves d₀ (e₀.copyPage p src sdir dst ddir) mo mp :=
  h.foldl (fun _ _ => (Moves.refl ..).set ho hc)

/-- Every object. -/
def objs_all : Nat := 0x7ffffffffffffffffffffffffffffffffffffffffffffffffffffffffffffffffffffffffffffffffffffffffffffffffffffffffffffffffffffffffffffffffffffffffffffffffffffff
/-- Every part. -/
def parts_all : Nat := 0xffffffffffffffff

theorem Mask.all (o : Obj) : objs_all.testBit o.ctorIdx = true := by
  cases o <;> decide

/-- An operation that may change everything but what has left. -/
theorem Moves.any {f : Device} (h : Moves d₀ e₀ mo mp) (k : f.out = e₀.out) (ho : Mask.le objs_all mo) (hp : Mask.le parts_all mp)
    (w : e₀.RegsWf = true → f.RegsWf = true := by
      first | exact fun x => x | exact Device.regsWf_set | exact fun x => Device.regsWf_set (Device.regsWf_set x) | exact fun x => Device.regsWf_filter _ x rfl) :
    Moves d₀ f mo mp := by
  have b (n : Nat) (x : parts_all.testBit n = true) (y : mp.testBit n = false) : False := by
    rw [Mask.bit x hp] at y; cases y
  refine h.step ⟨fun o x => ?_, fun y x => (b _ (by cases y <;> decide) x).elim, ⟨[], by simp [k]⟩, fun x => (b _ (by decide) x).elim, w⟩
  rw [Mask.bit (Mask.all o) ho] at x; cases x

/-! ### Events and causes -/

def objs_causeBallast : Nat := 0x3400000000000000000000000000000000000000000000000000000000000000000000000000000000000000000000000000000000000000000000000000000000000000000000000000000
def parts_causeBallast : Nat := 0x2a0
def objs_causeBypass : Nat := 0x3400000000000000000000000000000000000000000000000000000000000000000000000000000000000000000000000000000000000000000000000000000000000000000000000000000
def parts_causeBypass : Nat := 0x2a0
def objs_causeCipher : Nat := 0x3400000000000000000000000000000000000000000000000000000000000000000000000000000000000000000000000000000000000000000000000000000000000000000000000000000
def parts_causeCipher : Nat := 0x2a0
def objs_causeCollective : Nat := 0x3400000000000000000000000000000000000000000000000000000000000000000000000000000000000000000000000000000000000000000000000000000000000000000000000000000
def parts_causeCollective : Nat := 0x2a0
def objs_causeFabric : Nat := 0x3400000000000000000000000000000000000000000000000000000000000000000000000000000000000000000000000000000000000000000000000000000000000000000000000000000
def parts_causeFabric : Nat := 0x2a0
def objs_causeHealth : Nat := 0x3400000000000000000000000000000000000000000000000000000000000000000000000000000000000000000000000000000000000000000000000000000000000000000000000000000
def parts_causeHealth : Nat := 0x2a0
def objs_causeHub : Nat := 0x3400000000000000000000000000000000000000000000000000000000000000000000000000000000000000000000000000000000000000000000000000000000000000000000000000000
def parts_causeHub : Nat := 0x2a0
def objs_causeJournal : Nat := 0x3400000000000000000000000000000000000000000000000000000000000000000000000000000000000000000000000000000000000000000000000000000000000000000000000000000
def parts_causeJournal : Nat := 0x2a0
def objs_causeMemory : Nat := 0x3400000000000000000000000000000000000000000000000000000000000000000000000000000000000000000000000000000000000000000000000000000000000000000000000000000
def parts_causeMemory : Nat := 0x2a0
def objs_causeOptics : Nat := 0x3400000000000000000000000000000000000000000000000000000000000000000000000000000000000000000000000000000000000000000000000000000000000000000000000000000
def parts_causeOptics : Nat := 0x2a0
def objs_causePower : Nat := 0x3400000000000000000000000000000000000000000000000000000000000000000000000000000000000000000000000000000000000000000000000000000000000000000000000000000
def parts_causePower : Nat := 0x2a0
def objs_causeReplace : Nat := 0x3400000000000000000000000000000000000000000000000000000000000000000000000000000000000000000000000000000000000000000000000000000000000000000000000000000
def parts_causeReplace : Nat := 0x2a0
def objs_causeSecurity : Nat := 0x3400000000000000000000000000000000000000000000000000000000000000000000000000000000000000000000000000000000000000000000000000000000000000000000000000000
def parts_causeSecurity : Nat := 0x2a0
def objs_causeSwitch : Nat := 0x3400000000000000000000000000000000000000000000000000000000000000000000000000000000000000000000000000000000000000000000000000000000000000000000000000000
def parts_causeSwitch : Nat := 0x2a0
def objs_causeTether : Nat := 0x3400000000000000000000000000000000000000000000000000000000000000000000000000000000000000000000000000000000000000000000000000000000000000000000000000000
def parts_causeTether : Nat := 0x2a0
def objs_causeTime : Nat := 0x3400000000000000000000000000000000000000000000000000000000000000000000000000000000000000000000000000000000000000000000000000000000000000000000000000000
def parts_causeTime : Nat := 0x2a0
def objs_clearCause : Nat := 0x3400000000000000000000000000000000000000000000000000000000000000000000000000000000000000000000000000000000000000000000000000000000000000000000000000000
def parts_clearCause : Nat := 0x80000000000002a0
def objs_compact : Nat := 0x340000000000000000000000002b800000000000000000000000000000000000000000000000000000000000000000000000000000000000000000000000000000000000000000000000000
def parts_compact : Nat := 0x2a1
def objs_emit : Nat := 0x0
def parts_emit : Nat := 0x20
def objs_flushEvents : Nat := 0x0
def parts_flushEvents : Nat := 0x2a0
def objs_fresh : Nat := 0x0
def parts_fresh : Nat := 0x8
def objs_journal : Nat := 0x340000000000000000000000002b800000000000000000000000000000000000000000000000000000000000000000000000000000000000000000000000000000000000000000000000000
def parts_journal : Nat := 0x2a1
def objs_latch : Nat := 0x3400000000000000000000000000000000000000000000000000000000000000000000000000000000000000000000000000000000000000000000000000000000000000000000000000000
def parts_latch : Nat := 0x2a0
def objs_newId : Nat := 0x0
def parts_newId : Nat := 0x10
def objs_pushEvent : Nat := 0x0
def parts_pushEvent : Nat := 0x2a0
def objs_pushRecord : Nat := 0x0
def parts_pushRecord : Nat := 0x2a0
def objs_pushTo : Nat := 0x0
def parts_pushTo : Nat := 0x220
def objs_tornRecords : Nat := 0x0
def parts_tornRecords : Nat := 0x80

theorem Moves.pushTo {s : Nat} {r : BitVec 256} (h : Moves d₀ e₀ mo mp) (ho : Mask.le objs_pushTo mo) (hp : Mask.le parts_pushTo mp) :
    Moves d₀ (e₀.pushTo s r) mo mp := by
  unfold Device.pushTo
  exact (h.setSession (Mask.le_trans (b := objs_pushTo) (by decide) ho) (Mask.le_trans (b := parts_pushTo) (by decide) hp)).emit
    (Mask.le_trans (b := objs_pushTo) (by decide) ho) (Mask.le_trans (b := parts_pushTo) (by decide) hp)

theorem Moves.pushRecord {p i b k u st : Nat} {un : Bool} (h : Moves d₀ e₀ mo mp) (ho : Mask.le objs_pushRecord mo)
    (hp : Mask.le parts_pushRecord mp) : Moves d₀ (e₀.pushRecord p i b k u st un) mo mp := by
  unfold Device.pushRecord
  simp only
  refine Moves.foldl ?_ (fun d a => ?_)
  · split
    · exact h.with_hub (Mask.bit (a := parts_pushRecord) (by decide) hp)
    · exact h
  · split
    · refine Moves.pushTo (Moves.setSession (Moves.refl ..) ?_ ?_) ?_ ?_
      · exact Mask.le_trans (b := objs_pushRecord) (by decide) ho
      · exact Mask.le_trans (b := parts_pushRecord) (by decide) hp
      · exact Mask.le_trans (b := objs_pushRecord) (by decide) ho
      · exact Mask.le_trans (b := parts_pushRecord) (by decide) hp
    · exact Moves.refl ..

theorem Moves.pushEvent {p i b k u st : Nat} (h : Moves d₀ e₀ mo mp) (ho : Mask.le objs_pushEvent mo)
    (hp : Mask.le parts_pushEvent mp) : Moves d₀ (e₀.pushEvent p i b k u st) mo mp := by
  unfold Device.pushEvent
  simp only
  split
  · exact h.with_hub (Mask.bit (a := parts_pushEvent) (by decide) hp)
  · exact h.pushRecord ho hp

theorem Moves.flushEvents (h : Moves d₀ e₀ mo mp) (ho : Mask.le objs_flushEvents mo) (hp : Mask.le parts_flushEvents mp) :
    Moves d₀ e₀.flushEvents mo mp := by
  unfold Device.flushEvents
  refine Moves.foldl ?_ (fun d a => (Moves.refl ..).pushRecord ho hp)
  exact h.with_hub (Mask.bit (a := parts_flushEvents) (by decide) hp)

theorem Moves.latch {p i b u : Nat} (h : Moves d₀ e₀ mo mp) (ho : Mask.le objs_latch mo) (hp : Mask.le parts_latch mp) :
    Moves d₀ (e₀.latch p i b u) mo mp := by
  have l : Latched e₀ (e₀.latch p i b u) := by
    intro p' i' b' hb x
    by_cases k : p' = p ∧ i' = i
    · obtain ⟨rfl, rfl⟩ := k
      exact Device.bit_latch_of_bit _ _ _ _ _ _ x hb
    · rw [Device.get_latch_ne]
      · exact x
      · simp only [causeRegs]; tauto
  have f : Moves e₀ (e₀.latch p i b u) mo (mp ||| 2 ^ 63) := by
    have hp' : Mask.le parts_latch (mp ||| 2 ^ 63) := by
      unfold Mask.le at hp ⊢; rw [Nat.and_or_distrib_left, hp]; decide
    unfold Device.latch
    simp only
    split
    · exact Moves.refl ..
    · refine Moves.pushEvent ?_ (Mask.le_trans (b := objs_latch) (by decide) ho) hp'
      have c : (mp ||| 2 ^ 63).testBit 63 = true := by
        rw [Nat.testBit_or, Nat.testBit_two_pow_self, Bool.or_true]
      have b1 {k : Nat} (x : objs_latch.testBit k = true) := Mask.bit x ho
      split
      · exact (((Moves.refl ..).set (b1 (by decide)) (by decide)).set (b1 (by decide)) (by decide)).setAny (b1 (by decide)) c
      · exact (Moves.refl ..).setAny (b1 (by decide)) c
  have n (k : Nat) (hk : k ≠ 63) (x : mp.testBit k = false) : (mp ||| 2 ^ 63).testBit k = false := by
    rw [Nat.testBit_or, x, Nat.testBit_two_pow_of_ne (Ne.symm hk)]; rfl
  exact h.step ⟨f.regs, fun y hy => f.parts y (n _ (by cases y <;> decide) hy), f.out, fun _ => l, f.kept⟩

theorem Moves.causeFabric {p b u : Nat} (hM : Moves d₀ e₀ mo mp) (hO : Mask.le objs_causeFabric mo) (hP : Mask.le parts_causeFabric mp) : Moves d₀ (e₀.causeFabric p b u) mo mp := hM.latch hO hP
theorem Moves.causeSwitch {p b u : Nat} (hM : Moves d₀ e₀ mo mp) (hO : Mask.le objs_causeSwitch mo) (hP : Mask.le parts_causeSwitch mp) : Moves d₀ (e₀.causeSwitch p b u) mo mp := hM.latch hO hP
theorem Moves.causeMemory {p b u : Nat} (hM : Moves d₀ e₀ mo mp) (hO : Mask.le objs_causeMemory mo) (hP : Mask.le parts_causeMemory mp) : Moves d₀ (e₀.causeMemory p b u) mo mp := hM.latch hO hP
theorem Moves.causeCollective {p b u : Nat} (hM : Moves d₀ e₀ mo mp) (hO : Mask.le objs_causeCollective mo) (hP : Mask.le parts_causeCollective mp) : Moves d₀ (e₀.causeCollective p b u) mo mp := hM.latch hO hP
theorem Moves.causeTether {p b u : Nat} (hM : Moves d₀ e₀ mo mp) (hO : Mask.le objs_causeTether mo) (hP : Mask.le parts_causeTether mp) : Moves d₀ (e₀.causeTether p b u) mo mp := hM.latch hO hP
theorem Moves.causeCipher {p b u : Nat} (hM : Moves d₀ e₀ mo mp) (hO : Mask.le objs_causeCipher mo) (hP : Mask.le parts_causeCipher mp) : Moves d₀ (e₀.causeCipher p b u) mo mp := hM.latch hO hP
theorem Moves.causeBallast {p b u : Nat} (hM : Moves d₀ e₀ mo mp) (hO : Mask.le objs_causeBallast mo) (hP : Mask.le parts_causeBallast mp) : Moves d₀ (e₀.causeBallast p b u) mo mp := hM.latch hO hP
theorem Moves.causeOptics {p b u : Nat} (hM : Moves d₀ e₀ mo mp) (hO : Mask.le objs_causeOptics mo) (hP : Mask.le parts_causeOptics mp) : Moves d₀ (e₀.causeOptics p b u) mo mp := hM.latch hO hP
theorem Moves.causeBypass {p b u : Nat} (hM : Moves d₀ e₀ mo mp) (hO : Mask.le objs_causeBypass mo) (hP : Mask.le parts_causeBypass mp) : Moves d₀ (e₀.causeBypass p b u) mo mp := hM.latch hO hP
theorem Moves.causeHealth {p b u : Nat} (hM : Moves d₀ e₀ mo mp) (hO : Mask.le objs_causeHealth mo) (hP : Mask.le parts_causeHealth mp) : Moves d₀ (e₀.causeHealth p b u) mo mp := hM.latch hO hP
theorem Moves.causeTime {p n b : Nat} (hM : Moves d₀ e₀ mo mp) (hO : Mask.le objs_causeTime mo) (hP : Mask.le parts_causeTime mp) : Moves d₀ (e₀.causeTime p n b) mo mp := hM.latch hO hP
theorem Moves.causeHub {b u : Nat} (hM : Moves d₀ e₀ mo mp) (hO : Mask.le objs_causeHub mo) (hP : Mask.le parts_causeHub mp) : Moves d₀ (e₀.causeHub b u) mo mp := hM.latch hO hP
theorem Moves.causeSecurity {b u : Nat} (hM : Moves d₀ e₀ mo mp) (hO : Mask.le objs_causeSecurity mo) (hP : Mask.le parts_causeSecurity mp) : Moves d₀ (e₀.causeSecurity b u) mo mp := hM.latch hO hP
theorem Moves.causeJournal {b : Nat} (hM : Moves d₀ e₀ mo mp) (hO : Mask.le objs_causeJournal mo) (hP : Mask.le parts_causeJournal mp) : Moves d₀ (e₀.causeJournal b) mo mp := hM.latch hO hP
theorem Moves.causePower {b u : Nat} (hM : Moves d₀ e₀ mo mp) (hO : Mask.le objs_causePower mo) (hP : Mask.le parts_causePower mp) : Moves d₀ (e₀.causePower b u) mo mp := hM.latch hO hP
theorem Moves.causeReplace {b u : Nat} (hM : Moves d₀ e₀ mo mp) (hO : Mask.le objs_causeReplace mo) (hP : Mask.le parts_causeReplace mp) : Moves d₀ (e₀.causeReplace b u) mo mp := hM.latch hO hP

theorem Moves.clearCause {p i m : Nat} (h : Moves d₀ e₀ mo mp) (ho : Mask.le objs_clearCause mo) (hp : Mask.le parts_clearCause mp) :
    Moves d₀ (e₀.clearCause p i m) mo mp := by
  have c : mp.testBit 63 = true := Mask.bit (a := parts_clearCause) (by decide) hp
  have b1 {k : Nat} (x : objs_clearCause.testBit k = true) := Mask.bit x ho
  unfold Device.clearCause
  simp only
  refine Moves.foldl ?_ (fun d a => Moves.pushEvent (Moves.refl ..) (Mask.le_trans (b := objs_clearCause) (by decide) ho)
    (Mask.le_trans (b := parts_clearCause) (by decide) hp))
  split
  · exact ((h.setAny (b1 (by decide)) c).set (b1 (by decide)) (by decide)).set (b1 (by decide)) (by decide)
  · exact h.setAny (b1 (by decide)) c

/-! ### The journal -/

theorem Moves.compact (h : Moves d₀ e₀ mo mp) (ho : Mask.le objs_compact mo) (hp : Mask.le parts_compact mp) :
    Moves d₀ e₀.compact mo mp := by
  have b1 {k : Nat} (x : objs_compact.testBit k = true) := Mask.bit x ho
  unfold Device.compact
  simp only
  refine Moves.bump (Moves.set (Moves.set ?_ (b1 (by decide)) (by decide)) (b1 (by decide)) (by decide)) (b1 (by decide)) (by decide)
    (Mask.bit (a := parts_compact) (by decide) hp)
  exact h.with_hub (Mask.bit (a := parts_compact) (by decide) hp)

theorem Moves.tornRecords {k n : Nat} (h : Moves d₀ e₀ mo mp) (_ : Mask.le 0 mo) (hp : Mask.le parts_tornRecords mp) :
    Moves d₀ (e₀.tornRecords k n) mo mp :=
  h.with_hub (Mask.bit (a := parts_tornRecords) (by decide) hp)

/-- The four outcomes of a journal write: refused, failed, stored, stored and compacted. -/
theorem Device.journal_cases (d : Device) (l : List (Key × Nat)) : ∃ (h : HubSt) (v : Nat), (d.journal l).1 = d ∨
    (d.journal l).1 = (({ d with hub := h } : Device).bump .jnlErrors 4 0).latch 4 3 0 0 ∨
    (d.journal l).1 = ({ d with hub := h } : Device).set .jnlSeq 4 0 v ∨
    (d.journal l).1 = (({ d with hub := h } : Device).set .jnlSeq 4 0 v).compact := by
  unfold Device.journal
  dsimp only
  split
  · exact ⟨d.hub, 0, Or.inl rfl⟩
  · split
    · exact ⟨_, 0, Or.inr (Or.inl rfl)⟩
    · by_cases k : d.hub.jnlBadReads = 1
      · simp only [if_pos k]
        split
        · exact ⟨_, _, Or.inr (Or.inr (Or.inr rfl))⟩
        · exact ⟨_, _, Or.inr (Or.inr (Or.inl rfl))⟩
      · simp only [if_neg k]
        split
        · exact ⟨_, _, Or.inr (Or.inr (Or.inr rfl))⟩
        · exact ⟨_, _, Or.inr (Or.inr (Or.inl rfl))⟩

theorem Moves.journal {l : List (Key × Nat)} (h : Moves d₀ e₀ mo mp) (ho : Mask.le objs_journal mo) (hp : Mask.le parts_journal mp) :
    Moves d₀ (e₀.journal l).1 mo mp := by
  have b1 {k : Nat} (x : objs_journal.testBit k = true) := Mask.bit x ho
  have hh : mp.testBit 7 = true := Mask.bit (a := parts_journal) (by decide) hp
  obtain ⟨x, v, k | k | k | k⟩ := Device.journal_cases e₀ l <;> rw [k]
  · exact h
  · exact Moves.latch (Moves.bump (h.with_hub hh) (b1 (by decide)) (by decide) (Mask.bit (a := parts_journal) (by decide) hp))
      (Mask.le_trans (b := objs_journal) (by decide) ho) (Mask.le_trans (b := parts_journal) (by decide) hp)
  · exact Moves.set (h.with_hub hh) (b1 (by decide)) (by decide)
  · exact Moves.compact (Moves.set (h.with_hub hh) (b1 (by decide)) (by decide)) ho hp

theorem Moves.setJ {o : Obj} {p i v : Nat} (h : Moves d₀ e₀ mo mp) (hb : mo.testBit o.ctorIdx = true) (hc : (o ≠ .cause))
    (ho : Mask.le objs_journal mo) (hp : Mask.le parts_journal mp) : Moves d₀ (e₀.setJ o p i v) mo mp := by
  unfold Device.setJ
  simp only
  split
  · exact (h.journal ho hp).set hb hc
  · exact h.journal ho hp

theorem Moves.store {o : Obj} {p i v : Nat} (h : Moves d₀ e₀ mo mp) (hb : mo.testBit o.ctorIdx = true) (hc : (o ≠ .cause))
    (ho : Mask.le objs_journal mo) (hp : Mask.le parts_journal mp) : Moves d₀ (e₀.store o p i v).1 mo mp := by
  unfold Device.store
  split
  · simp only
    split
    · exact (h.journal ho hp).set hb hc
    · exact h.journal ho hp
  · exact h.set hb hc

end Sys2Proof.Machine
end

