-- ==== Sys2Proof/Laws/MovesShared.lean ====
section
/-! SUPPORT. What the operations of the shared operations can change: one lemma each. -/

namespace Sys2Proof.Machine

set_option linter.unusedSimpArgs false
set_option linter.unreachableTactic false
set_option linter.unusedTactic false
set_option linter.unusedVariables false
set_option linter.unnecessarySeqFocus false

variable {d₀ e₀ : Device} {mo mp : Nat}

def objs_settlePlanes : Nat := 0x80000000000000000000000000000000000000000000000000000000000000000000000000000000000000000000000000000000000000000000000000000000
def parts_settlePlanes : Nat := 0x0
theorem Moves.settlePlanes  (hM : Moves d₀ e₀ mo mp) (hO : Mask.le objs_settlePlanes mo) (hP : Mask.le parts_settlePlanes mp) :
    Moves d₀ (e₀.settlePlanes ) mo mp := by
  have O {a : Nat} (h : (a &&& objs_settlePlanes == a) = true) := Mask.le_trans h hO
  have P {a : Nat} (h : (a &&& parts_settlePlanes == a) = true) := Mask.le_trans h hP
  have B {k : Nat} (h : objs_settlePlanes.testBit k = true) := Mask.bit h hO
  have S {k : Nat} (h : parts_settlePlanes.testBit k = true) := Mask.bit h hP
  unfold Device.settlePlanes
  try simp only
  repeat' first
    | with_reducible exact hM
    | with_reducible exact Moves.refl ..
    | with_reducible refine Moves.set ?_ (B (by decide)) (by decide)
    | with_reducible refine Moves.foldl ?_ (fun d a => ?_)
    | dsimp only

def objs_settleHub : Nat := 0x24000000000000000000000000000000000000000000000000000000000000000000000000000000000000000000000000000000000000000000000000000000
def parts_settleHub : Nat := 0x0
theorem Moves.settleHub  (hM : Moves d₀ e₀ mo mp) (hO : Mask.le objs_settleHub mo) (hP : Mask.le parts_settleHub mp) :
    Moves d₀ (e₀.settleHub ) mo mp := by
  have O {a : Nat} (h : (a &&& objs_settleHub == a) = true) := Mask.le_trans h hO
  have P {a : Nat} (h : (a &&& parts_settleHub == a) = true) := Mask.le_trans h hP
  have B {k : Nat} (h : objs_settleHub.testBit k = true) := Mask.bit h hO
  have S {k : Nat} (h : parts_settleHub.testBit k = true) := Mask.bit h hP
  unfold Device.settleHub
  try simp only
  repeat' first
    | with_reducible exact hM
    | with_reducible exact Moves.refl ..
    | with_reducible refine Moves.set ?_ (B (by decide)) (by decide)
    | dsimp only

def objs_settlePins : Nat := 0x0
def parts_settlePins : Nat := 0xa0
theorem Moves.settlePins {before : Nat} (hM : Moves d₀ e₀ mo mp) (hO : Mask.le objs_settlePins mo) (hP : Mask.le parts_settlePins mp) :
    Moves d₀ (e₀.settlePins before) mo mp := by
  have O {a : Nat} (h : (a &&& objs_settlePins == a) = true) := Mask.le_trans h hO
  have P {a : Nat} (h : (a &&& parts_settlePins == a) = true) := Mask.le_trans h hP
  have S {k : Nat} (h : parts_settlePins.testBit k = true) := Mask.bit h hP
  unfold Device.settlePins
  try simp only
  repeat' first
    | with_reducible exact hM
    | with_reducible exact Moves.refl ..
    | with_reducible refine Moves.emit ?_ (O (by decide)) (P (by decide))
    | with_reducible refine Moves.ite (fun _ => ?_) (fun _ => ?_)
    | with_reducible refine Moves.ite1 (fun _ => ?_) (fun _ => ?_)
    | split
    | with_reducible refine Moves.with_hub ?_ (S (by decide))
    | dsimp only

def objs_setStage : Nat := 0x100000000000000000000000000000000000000000000000000000000000000000000000000000000000000000000000000000000000000000000000000000000000000000000000000000
def parts_setStage : Nat := 0x0
theorem Moves.setStage {p v : Nat} (hM : Moves d₀ e₀ mo mp) (hO : Mask.le objs_setStage mo) (hP : Mask.le parts_setStage mp) :
    Moves d₀ (e₀.setStage p v) mo mp := by
  have O {a : Nat} (h : (a &&& objs_setStage == a) = true) := Mask.le_trans h hO
  have P {a : Nat} (h : (a &&& parts_setStage == a) = true) := Mask.le_trans h hP
  have B {k : Nat} (h : objs_setStage.testBit k = true) := Mask.bit h hO
  have S {k : Nat} (h : parts_setStage.testBit k = true) := Mask.bit h hP
  unfold Device.setStage
  try simp only
  repeat' first
    | with_reducible exact hM
    | with_reducible exact Moves.refl ..
    | with_reducible refine Moves.set ?_ (B (by decide)) (by decide)
    | dsimp only

def objs_stageOn : Nat := 0x300000000000000000000000000000000000000000000000000000000000000000000000000000000000000000000000000000000000000000000000000000000000000000000000000000
def parts_stageOn : Nat := 0x0
theorem Moves.stageOn {p : Nat} (hM : Moves d₀ e₀ mo mp) (hO : Mask.le objs_stageOn mo) (hP : Mask.le parts_stageOn mp) :
    Moves d₀ (e₀.stageOn p) mo mp := by
  have O {a : Nat} (h : (a &&& objs_stageOn == a) = true) := Mask.le_trans h hO
  have P {a : Nat} (h : (a &&& parts_stageOn == a) = true) := Mask.le_trans h hP
  have B {k : Nat} (h : objs_stageOn.testBit k = true) := Mask.bit h hO
  have S {k : Nat} (h : parts_stageOn.testBit k = true) := Mask.bit h hP
  unfold Device.stageOn
  try simp only
  repeat' first
    | with_reducible exact hM
    | with_reducible exact Moves.refl ..
    | with_reducible refine Moves.set ?_ (B (by decide)) (by decide)
    | with_reducible refine Moves.setStage ?_ (O (by decide)) (P (by decide))
    | with_reducible refine Moves.ite (fun _ => ?_) (fun _ => ?_)
    | with_reducible refine Moves.ite1 (fun _ => ?_) (fun _ => ?_)
    | split
    | dsimp only

def objs_settle : Nat := 0x3000000000000000000000a4000000000000000000000000000000000000000000000000000000000000000000000000000000000000000000000000000000000000000000000000000000
def parts_settle : Nat := 0xa0
theorem Moves.settle  (hM : Moves d₀ e₀ mo mp) (hO : Mask.le objs_settle mo) (hP : Mask.le parts_settle mp) :
    Moves d₀ (e₀.settle ) mo mp := by
  have O {a : Nat} (h : (a &&& objs_settle == a) = true) := Mask.le_trans h hO
  have P {a : Nat} (h : (a &&& parts_settle == a) = true) := Mask.le_trans h hP
  unfold Device.settle
  try simp only
  repeat' first
    | with_reducible exact hM
    | with_reducible exact Moves.refl ..
    | with_reducible refine Moves.stageOn ?_ (O (by decide)) (P (by decide))
    | with_reducible refine Moves.settlePins ?_ (O (by decide)) (P (by decide))
    | with_reducible refine Moves.settleHub ?_ (O (by decide)) (P (by decide))
    | with_reducible refine Moves.settlePlanes ?_ (O (by decide)) (P (by decide))
    | with_reducible refine Moves.foldl ?_ (fun d a => ?_)
    | with_reducible refine Moves.ite (fun _ => ?_) (fun _ => ?_)
    | with_reducible refine Moves.ite1 (fun _ => ?_) (fun _ => ?_)
    | split
    | dsimp only


def objs_respond : Nat := 0x180000000000000000000000000000000000000000000000000000000000000000000000000000000000000000000000000000000000000000000000
def parts_respond : Nat := 0x221
theorem Moves.respond {rq : Req} {r : Resp} (hM : Moves d₀ e₀ mo mp) (hO : Mask.le objs_respond mo) (hP : Mask.le parts_respond mp) :
    Moves d₀ (e₀.respond rq r) mo mp := by
  have O {a : Nat} (h : (a &&& objs_respond == a) = true) := Mask.le_trans h hO
  have P {a : Nat} (h : (a &&& parts_respond == a) = true) := Mask.le_trans h hP
  have B {k : Nat} (h : objs_respond.testBit k = true) := Mask.bit h hO
  have S {k : Nat} (h : parts_respond.testBit k = true) := Mask.bit h hP
  unfold Device.respond
  try simp only
  repeat' first
    | with_reducible exact hM
    | with_reducible exact Moves.refl ..
    | with_reducible refine Moves.bump ?_ (B (by decide)) (by decide) (S (by decide))
    | with_reducible refine Moves.emit ?_ (O (by decide)) (P (by decide))
    | with_reducible refine Moves.setSession ?_ (O (by decide)) (P (by decide))
    | with_reducible refine Moves.ite (fun _ => ?_) (fun _ => ?_)
    | with_reducible refine Moves.ite1 (fun _ => ?_) (fun _ => ?_)
    | split
    | dsimp only

def objs_fmMessage : Nat := 0x3400000000000000000000000000000000000000000000000000000000000000000000000000000000000000000000000000000000000000000000000000000000000000000000000000000
def parts_fmMessage : Nat := 0x80000000000002a0
theorem Moves.fmMessage {ses : Nat} (hM : Moves d₀ e₀ mo mp) (hO : Mask.le objs_fmMessage mo) (hP : Mask.le parts_fmMessage mp) :
    Moves d₀ (e₀.fmMessage ses) mo mp := by
  have O {a : Nat} (h : (a &&& objs_fmMessage == a) = true) := Mask.le_trans h hO
  have P {a : Nat} (h : (a &&& parts_fmMessage == a) = true) := Mask.le_trans h hP
  have S {k : Nat} (h : parts_fmMessage.testBit k = true) := Mask.bit h hP
  unfold Device.fmMessage
  try simp only
  repeat' first
    | with_reducible exact hM
    | with_reducible exact Moves.refl ..
    | with_reducible refine Moves.clearCause ?_ (O (by decide)) (P (by decide))
    | with_reducible refine Moves.ite (fun _ => ?_) (fun _ => ?_)
    | with_reducible refine Moves.ite1 (fun _ => ?_) (fun _ => ?_)
    | split
    | with_reducible refine Moves.with_hub ?_ (S (by decide))
    | dsimp only

/-- What every request can change beside its own effect. -/
def objs_request : Nat := 0x3400000000000000000000000000000580000000000000000000000000000000000000000000000000000000000000000000000000000000000000000000000000000000000000000000000
def parts_request : Nat := 0x80000000000002a1
theorem Moves.requestIf {taken : Bool} {rq : Req} {f : Device → Device × Resp} (h : Moves d₀ e₀ mo mp) (hf : ∀ d, Moves d (f d).1 mo mp)
    (ho : Mask.le objs_request mo) (hp : Mask.le parts_request mp) : Moves d₀ (e₀.requestIf taken rq f) mo mp := by
  have h1 : Moves d₀ (e₀.fmMessage rq.ses.val) mo mp :=
    h.fmMessage (Mask.le_trans (b := objs_request) (by decide) ho) (Mask.le_trans (b := parts_request) (by decide) hp)
  unfold Device.requestIf
  simp only
  split
  · exact h
  · split
    · exact (h1.bump (Mask.bit (a := objs_request) (by decide) ho) (by decide) (Mask.bit (a := parts_request) (by decide) hp)).emit
        (Mask.le_trans (b := objs_request) (by decide) ho) (Mask.le_trans (b := parts_request) (by decide) hp)
    · exact (h1.step (hf _)).respond (Mask.le_trans (b := objs_request) (by decide) ho) (Mask.le_trans (b := parts_request) (by decide) hp)

theorem Moves.request {rq : Req} {f : Device → Device × Resp} (h : Moves d₀ e₀ mo mp) (hf : ∀ d, Moves d (f d).1 mo mp)
    (ho : Mask.le objs_request mo) (hp : Mask.le parts_request mp) : Moves d₀ (e₀.request rq f) mo mp := by
  refine h.requestIf (fun d => ?_) ho hp
  split
  · exact Moves.refl ..
  · exact hf d

theorem Moves.doWrite {rq : Req} {w : Write} {rule : Device → Bool} {f : Device → Device × Bool} (h : Moves d₀ e₀ mo mp)
    (hf : ∀ d, Moves d (f d).1 mo mp) : Moves d₀ (e₀.doWrite rq w rule f).1 mo mp := by
  unfold Device.doWrite
  simp only
  split
  · exact h
  · split
    · exact h
    · split
      · exact h
      · split
        · exact h.step (hf _)
        · exact h.step (hf _)

theorem Moves.command {rq : Req} {t : Target} {v : Nat} {f : Device → Device} (h : Moves d₀ e₀ mo mp)
    (hf : ∀ d, Moves d (f d) mo mp) (ho : Mask.le objs_request mo) (hp : Mask.le parts_request mp) :
    Moves d₀ (e₀.command rq t v f) mo mp := h.request (fun d => (Moves.refl d mo mp).doWrite hf) ho hp

theorem Moves.doWriteNow {rq : Req} {w : Write} {f : Device → Device × Bool} (h : Moves d₀ e₀ mo mp)
    (hf : ∀ d, Moves d (f d).1 mo mp) : Moves d₀ (e₀.doWriteNow rq w f).1 mo mp := by
  unfold Device.doWriteNow
  simp only
  split
  · exact h
  · split
    · exact h.step (hf _)
    · exact h.step (hf _)

theorem Moves.commandNow {rq : Req} {t : Target} {v : Nat} {f : Device → Device} (h : Moves d₀ e₀ mo mp)
    (hf : ∀ d, Moves d (f d) mo mp) (ho : Mask.le objs_request mo) (hp : Mask.le parts_request mp) :
    Moves d₀ (e₀.commandNow rq t v f) mo mp := h.request (fun d => (Moves.refl d mo mp).doWriteNow hf) ho hp


def objs_layOutPool : Nat := 0x240000000000000000000
def parts_layOutPool : Nat := 0x40000
theorem Moves.layOutPool {p pool gib : Nat} (hM : Moves d₀ e₀ mo mp) (hO : Mask.le objs_layOutPool mo) (hP : Mask.le parts_layOutPool mp) :
    Moves d₀ (e₀.layOutPool p pool gib) mo mp := by
  have O {a : Nat} (h : (a &&& objs_layOutPool == a) = true) := Mask.le_trans h hO
  have P {a : Nat} (h : (a &&& parts_layOutPool == a) = true) := Mask.le_trans h hP
  have B {k : Nat} (h : objs_layOutPool.testBit k = true) := Mask.bit h hO
  have S {k : Nat} (h : parts_layOutPool.testBit k = true) := Mask.bit h hP
  unfold Device.layOutPool
  try simp only
  repeat' first
    | with_reducible exact hM
    | with_reducible exact Moves.refl ..
    | with_reducible refine Moves.set ?_ (B (by decide)) (by decide)
    | with_reducible refine Moves.setPool ?_ (O (by decide)) (P (by decide))
    | dsimp only

def objs_cacheRefill : Nat := 0x0
def parts_cacheRefill : Nat := 0x40000
theorem Moves.cacheRefill {p pool : Nat} (hM : Moves d₀ e₀ mo mp) (hO : Mask.le objs_cacheRefill mo) (hP : Mask.le parts_cacheRefill mp) :
    Moves d₀ (e₀.cacheRefill p pool) mo mp := by
  have O {a : Nat} (h : (a &&& objs_cacheRefill == a) = true) := Mask.le_trans h hO
  have P {a : Nat} (h : (a &&& parts_cacheRefill == a) = true) := Mask.le_trans h hP
  unfold Device.cacheRefill
  try simp only
  repeat' first
    | with_reducible exact hM
    | with_reducible exact Moves.refl ..
    | with_reducible refine Moves.setPool ?_ (O (by decide)) (P (by decide))
    | with_reducible refine Moves.ite (fun _ => ?_) (fun _ => ?_)
    | with_reducible refine Moves.ite1 (fun _ => ?_) (fun _ => ?_)
    | split
    | dsimp only

def objs_cacheSpill : Nat := 0x0
def parts_cacheSpill : Nat := 0x40000
theorem Moves.cacheSpill {p pool : Nat} (hM : Moves d₀ e₀ mo mp) (hO : Mask.le objs_cacheSpill mo) (hP : Mask.le parts_cacheSpill mp) :
    Moves d₀ (e₀.cacheSpill p pool) mo mp := by
  have O {a : Nat} (h : (a &&& objs_cacheSpill == a) = true) := Mask.le_trans h hO
  have P {a : Nat} (h : (a &&& parts_cacheSpill == a) = true) := Mask.le_trans h hP
  unfold Device.cacheSpill
  try simp only
  repeat' first
    | with_reducible exact hM
    | with_reducible exact Moves.refl ..
    | with_reducible refine Moves.setPool ?_ (O (by decide)) (P (by decide))
    | with_reducible refine Moves.ite (fun _ => ?_) (fun _ => ?_)
    | with_reducible refine Moves.ite1 (fun _ => ?_) (fun _ => ?_)
    | split
    | dsimp only

def objs_poolScrubDone : Nat := 0x4000000000000000000000
def parts_poolScrubDone : Nat := 0x40100
theorem Moves.poolScrubDone {p pool : Nat} (hM : Moves d₀ e₀ mo mp) (hO : Mask.le objs_poolScrubDone mo) (hP : Mask.le parts_poolScrubDone mp) :
    Moves d₀ (e₀.poolScrubDone p pool) mo mp := by
  have O {a : Nat} (h : (a &&& objs_poolScrubDone == a) = true) := Mask.le_trans h hO
  have P {a : Nat} (h : (a &&& parts_poolScrubDone == a) = true) := Mask.le_trans h hP
  have B {k : Nat} (h : objs_poolScrubDone.testBit k = true) := Mask.bit h hO
  have S {k : Nat} (h : parts_poolScrubDone.testBit k = true) := Mask.bit h hP
  unfold Device.poolScrubDone
  try simp only
  repeat' first
    | with_reducible exact hM
    | with_reducible exact Moves.refl ..
    | with_reducible refine Moves.set ?_ (B (by decide)) (by decide)
    | with_reducible refine Moves.setPool ?_ (O (by decide)) (P (by decide))
    | with_reducible refine Moves.setPlane ?_ (O (by decide)) (P (by decide))
    | with_reducible refine Moves.cacheSpill ?_ (O (by decide)) (P (by decide))
    | with_reducible refine Moves.ite (fun _ => ?_) (fun _ => ?_)
    | with_reducible refine Moves.ite1 (fun _ => ?_) (fun _ => ?_)
    | split
    | dsimp only

def objs_awaitRefill : Nat := 0x4000000000000000000000
def parts_awaitRefill : Nat := 0x40100
theorem Moves.awaitRefill {p pool : Nat} (hM : Moves d₀ e₀ mo mp) (hO : Mask.le objs_awaitRefill mo) (hP : Mask.le parts_awaitRefill mp) :
    Moves d₀ (e₀.awaitRefill p pool) mo mp := by
  have O {a : Nat} (h : (a &&& objs_awaitRefill == a) = true) := Mask.le_trans h hO
  have P {a : Nat} (h : (a &&& parts_awaitRefill == a) = true) := Mask.le_trans h hP
  unfold Device.awaitRefill
  try simp only
  repeat' first
    | with_reducible exact hM
    | with_reducible exact Moves.refl ..
    | with_reducible refine Moves.poolScrubDone ?_ (O (by decide)) (P (by decide))
    | with_reducible refine Moves.cacheRefill ?_ (O (by decide)) (P (by decide))
    | with_reducible refine Moves.ite (fun _ => ?_) (fun _ => ?_)
    | with_reducible refine Moves.ite1 (fun _ => ?_) (fun _ => ?_)
    | split
    | dsimp only

def objs_dropStale : Nat := 0x3400000000000000000000000000000000000000000000000000000000000000000000000000000000000000000000000000000000000000000000000000000001000000000000000000000
def parts_dropStale : Nat := 0x402a1
theorem Moves.dropStale {p pool req : Nat} (hM : Moves d₀ e₀ mo mp) (hO : Mask.le objs_dropStale mo) (hP : Mask.le parts_dropStale mp) :
    Moves d₀ (e₀.dropStale p pool req) mo mp := by
  have O {a : Nat} (h : (a &&& objs_dropStale == a) = true) := Mask.le_trans h hO
  have P {a : Nat} (h : (a &&& parts_dropStale == a) = true) := Mask.le_trans h hP
  have B {k : Nat} (h : objs_dropStale.testBit k = true) := Mask.bit h hO
  have S {k : Nat} (h : parts_dropStale.testBit k = true) := Mask.bit h hP
  unfold Device.dropStale
  try simp only
  repeat' first
    | with_reducible exact hM
    | with_reducible exact Moves.refl ..
    | with_reducible refine Moves.count ?_ (B (by decide)) (by decide) (S (by decide))
    | with_reducible refine Moves.setPool ?_ (O (by decide)) (P (by decide))
    | with_reducible refine Moves.causeMemory ?_ (O (by decide)) (P (by decide))
    | with_reducible refine Moves.ite (fun _ => ?_) (fun _ => ?_)
    | with_reducible refine Moves.ite1 (fun _ => ?_) (fun _ => ?_)
    | split
    | dsimp only

def objs_alloc : Nat := 0x34000000000000000000000000000000000000000000000000000000000000000000000000000000000000000000000000000000000000000000000000000000c7200000000000000000000
def parts_alloc : Nat := 0x403a9
theorem Moves.alloc {p pool req : Nat} (hM : Moves d₀ e₀ mo mp) (hO : Mask.le objs_alloc mo) (hP : Mask.le parts_alloc mp) :
    Moves d₀ (e₀.alloc p pool req).1 mo mp := by
  have O {a : Nat} (h : (a &&& objs_alloc == a) = true) := Mask.le_trans h hO
  have P {a : Nat} (h : (a &&& parts_alloc == a) = true) := Mask.le_trans h hP
  have B {k : Nat} (h : objs_alloc.testBit k = true) := Mask.bit h hO
  have S {k : Nat} (h : parts_alloc.testBit k = true) := Mask.bit h hP
  unfold Device.alloc
  try simp only
  repeat' first
    | with_reducible exact hM
    | with_reducible exact Moves.refl ..
    | with_reducible refine Moves.set ?_ (B (by decide)) (by decide)
    | with_reducible refine Moves.bump ?_ (B (by decide)) (by decide) (S (by decide))
    | with_reducible refine Moves.highWater ?_ (B (by decide)) (by decide)
    | with_reducible refine Moves.setPool ?_ (O (by decide)) (P (by decide))
    | with_reducible refine Moves.fresh ?_ (O (by decide)) (P (by decide))
    | with_reducible refine Moves.causeMemory ?_ (O (by decide)) (P (by decide))
    | with_reducible refine Moves.dropStale ?_ (O (by decide)) (P (by decide))
    | with_reducible refine Moves.awaitRefill ?_ (O (by decide)) (P (by decide))
    | with_reducible refine Moves.ite (fun _ => ?_) (fun _ => ?_)
    | with_reducible refine Moves.ite1 (fun _ => ?_) (fun _ => ?_)
    | split
    | dsimp only

def objs_spoolFreed : Nat := 0x0
def parts_spoolFreed : Nat := 0x80000
theorem Moves.spoolFreed {p req : Nat} (hM : Moves d₀ e₀ mo mp) (hO : Mask.le objs_spoolFreed mo) (hP : Mask.le parts_spoolFreed mp) :
    Moves d₀ (e₀.spoolFreed p req) mo mp := by
  have O {a : Nat} (h : (a &&& objs_spoolFreed == a) = true) := Mask.le_trans h hO
  have P {a : Nat} (h : (a &&& parts_spoolFreed == a) = true) := Mask.le_trans h hP
  unfold Device.spoolFreed
  try simp only
  repeat' first
    | with_reducible exact hM
    | with_reducible exact Moves.refl ..
    | with_reducible refine Moves.setOutp ?_ (O (by decide)) (P (by decide))
    | with_reducible refine Moves.foldl ?_ (fun d a => ?_)
    | with_reducible refine Moves.ite (fun _ => ?_) (fun _ => ?_)
    | with_reducible refine Moves.ite1 (fun _ => ?_) (fun _ => ?_)
    | split
    | dsimp only

def objs_free : Nat := 0x3400000000000000000000000000000000000000000000000000000000000000000000000000000000000000000000000000000000000000000000000000000000c00000000000000000000
def parts_free : Nat := 0xc02a1
theorem Moves.free {p pool req i : Nat} (hM : Moves d₀ e₀ mo mp) (hO : Mask.le objs_free mo) (hP : Mask.le parts_free mp) :
    Moves d₀ (e₀.free p pool req i) mo mp := by
  have O {a : Nat} (h : (a &&& objs_free == a) = true) := Mask.le_trans h hO
  have P {a : Nat} (h : (a &&& parts_free == a) = true) := Mask.le_trans h hP
  have B {k : Nat} (h : objs_free.testBit k = true) := Mask.bit h hO
  have S {k : Nat} (h : parts_free.testBit k = true) := Mask.bit h hP
  unfold Device.free
  try simp only
  repeat' first
    | with_reducible exact hM
    | with_reducible exact Moves.refl ..
    | with_reducible refine Moves.bump ?_ (B (by decide)) (by decide) (S (by decide))
    | with_reducible refine Moves.setPool ?_ (O (by decide)) (P (by decide))
    | with_reducible refine Moves.causeMemory ?_ (O (by decide)) (P (by decide))
    | with_reducible refine Moves.spoolFreed ?_ (O (by decide)) (P (by decide))
    | with_reducible refine Moves.cacheSpill ?_ (O (by decide)) (P (by decide))
    | with_reducible refine Moves.ite (fun _ => ?_) (fun _ => ?_)
    | with_reducible refine Moves.ite1 (fun _ => ?_) (fun _ => ?_)
    | split
    | dsimp only

def objs_freeAll : Nat := 0x3400000000000000000000000000000000000000000000000000000000000000000000000000000000000000000000000000000000000000000000000000000000c00000000000000000000
def parts_freeAll : Nat := 0xc02a1
theorem Moves.freeAll {p pool req : Nat} {l : List Nat} (hM : Moves d₀ e₀ mo mp) (hO : Mask.le objs_freeAll mo) (hP : Mask.le parts_freeAll mp) :
    Moves d₀ (e₀.freeAll p pool req l) mo mp := by
  have O {a : Nat} (h : (a &&& objs_freeAll == a) = true) := Mask.le_trans h hO
  have P {a : Nat} (h : (a &&& parts_freeAll == a) = true) := Mask.le_trans h hP
  unfold Device.freeAll
  try simp only
  repeat' first
    | with_reducible exact hM
    | with_reducible exact Moves.refl ..
    | with_reducible refine Moves.free ?_ (O (by decide)) (P (by decide))
    | with_reducible refine Moves.foldl ?_ (fun d a => ?_)
    | dsimp only


def objs_setChanState : Nat := 0x1000000000000000000000000000000000000000000000000000000000000000000000000000000000000000000000000000000000000000000000000000000000000
def parts_setChanState : Nat := 0x0
theorem Moves.setChanState {p ch v : Nat} (hM : Moves d₀ e₀ mo mp) (hO : Mask.le objs_setChanState mo) (hP : Mask.le parts_setChanState mp) :
    Moves d₀ (e₀.setChanState p ch v) mo mp := by
  have O {a : Nat} (h : (a &&& objs_setChanState == a) = true) := Mask.le_trans h hO
  have P {a : Nat} (h : (a &&& parts_setChanState == a) = true) := Mask.le_trans h hP
  have B {k : Nat} (h : objs_setChanState.testBit k = true) := Mask.bit h hO
  have S {k : Nat} (h : parts_setChanState.testBit k = true) := Mask.bit h hP
  unfold Device.setChanState
  try simp only
  repeat' first
    | with_reducible exact hM
    | with_reducible exact Moves.refl ..
    | with_reducible refine Moves.set ?_ (B (by decide)) (by decide)
    | dsimp only

def objs_scFail : Nat := 0x340000001c000000000000000000000000000000000000000000000000000000000000000000000000000000000000000000000000080000000000000000000000c00000000000000000000
def parts_scFail : Nat := 0x80000c02a1
theorem Moves.scFail {p status : Nat} (hM : Moves d₀ e₀ mo mp) (hO : Mask.le objs_scFail mo) (hP : Mask.le parts_scFail mp) :
    Moves d₀ (e₀.scFail p status) mo mp := by
  have O {a : Nat} (h : (a &&& objs_scFail == a) = true) := Mask.le_trans h hO
  have P {a : Nat} (h : (a &&& parts_scFail == a) = true) := Mask.le_trans h hP
  have B {k : Nat} (h : objs_scFail.testBit k = true) := Mask.bit h hO
  have S {k : Nat} (h : parts_scFail.testBit k = true) := Mask.bit h hP
  unfold Device.scFail
  try simp only
  repeat' first
    | with_reducible exact hM
    | with_reducible exact Moves.refl ..
    | with_reducible refine Moves.set ?_ (B (by decide)) (by decide)
    | with_reducible refine Moves.count ?_ (B (by decide)) (by decide) (S (by decide))
    | with_reducible refine Moves.setSc ?_ (O (by decide)) (P (by decide))
    | with_reducible refine Moves.causeHealth ?_ (O (by decide)) (P (by decide))
    | with_reducible refine Moves.freeAll ?_ (O (by decide)) (P (by decide))
    | with_reducible refine Moves.ite (fun _ => ?_) (fun _ => ?_)
    | with_reducible refine Moves.ite1 (fun _ => ?_) (fun _ => ?_)
    | split
    | dsimp only

def objs_chanFault : Nat := 0x340000001c000000002000000000000000000000000000000000000000000000000000000000000000000000000000000000000000080000000000000000000000c00000000000000000000
def parts_chanFault : Nat := 0x80080c03a1
theorem Moves.chanFault {p ch : Nat} (hM : Moves d₀ e₀ mo mp) (hO : Mask.le objs_chanFault mo) (hP : Mask.le parts_chanFault mp) :
    Moves d₀ (e₀.chanFault p ch) mo mp := by
  have O {a : Nat} (h : (a &&& objs_chanFault == a) = true) := Mask.le_trans h hO
  have P {a : Nat} (h : (a &&& parts_chanFault == a) = true) := Mask.le_trans h hP
  have B {k : Nat} (h : objs_chanFault.testBit k = true) := Mask.bit h hO
  have S {k : Nat} (h : parts_chanFault.testBit k = true) := Mask.bit h hP
  unfold Device.chanFault
  try simp only
  repeat' first
    | with_reducible exact hM
    | with_reducible exact Moves.refl ..
    | with_reducible refine Moves.bump ?_ (B (by decide)) (by decide) (S (by decide))
    | with_reducible refine Moves.count ?_ (B (by decide)) (by decide) (S (by decide))
    | with_reducible refine Moves.setChan ?_ (O (by decide)) (P (by decide))
    | with_reducible refine Moves.setPlane ?_ (O (by decide)) (P (by decide))
    | with_reducible refine Moves.scFail ?_ (O (by decide)) (P (by decide))
    | with_reducible refine Moves.ite (fun _ => ?_) (fun _ => ?_)
    | with_reducible refine Moves.ite1 (fun _ => ?_) (fun _ => ?_)
    | split
    | dsimp only

def objs_retuned : Nat := 0x0
def parts_retuned : Nat := 0x100
theorem Moves.retuned {p n kind : Nat} (hM : Moves d₀ e₀ mo mp) (hO : Mask.le objs_retuned mo) (hP : Mask.le parts_retuned mp) :
    Moves d₀ (e₀.retuned p n kind) mo mp := by
  have O {a : Nat} (h : (a &&& objs_retuned == a) = true) := Mask.le_trans h hO
  have P {a : Nat} (h : (a &&& parts_retuned == a) = true) := Mask.le_trans h hP
  unfold Device.retuned
  try simp only
  repeat' first
    | with_reducible exact hM
    | with_reducible exact Moves.refl ..
    | with_reducible refine Moves.setPlane ?_ (O (by decide)) (P (by decide))
    | with_reducible refine Moves.ite (fun _ => ?_) (fun _ => ?_)
    | with_reducible refine Moves.ite1 (fun _ => ?_) (fun _ => ?_)
    | split
    | dsimp only

def objs_chanClear : Nat := 0x0
def parts_chanClear : Nat := 0x8000000
theorem Moves.chanClear {p ch : Nat} (hM : Moves d₀ e₀ mo mp) (hO : Mask.le objs_chanClear mo) (hP : Mask.le parts_chanClear mp) :
    Moves d₀ (e₀.chanClear p ch) mo mp := by
  have O {a : Nat} (h : (a &&& objs_chanClear == a) = true) := Mask.le_trans h hO
  have P {a : Nat} (h : (a &&& parts_chanClear == a) = true) := Mask.le_trans h hP
  unfold Device.chanClear
  try simp only
  repeat' first
    | with_reducible exact hM
    | with_reducible exact Moves.refl ..
    | with_reducible refine Moves.setChan ?_ (O (by decide)) (P (by decide))
    | with_reducible refine Moves.ite (fun _ => ?_) (fun _ => ?_)
    | with_reducible refine Moves.ite1 (fun _ => ?_) (fun _ => ?_)
    | split
    | dsimp only

def objs_windowRequest : Nat := 0x3400000000000000000000000000000000000000000000000000000080000000000000000000000000000000000000000000000000000000000000000000000000000000000000000000000
def parts_windowRequest : Nat := 0x2a0
theorem Moves.windowRequest {p c j : Nat} (hM : Moves d₀ e₀ mo mp) (hO : Mask.le objs_windowRequest mo) (hP : Mask.le parts_windowRequest mp) :
    Moves d₀ (e₀.windowRequest p c j) mo mp := by
  have O {a : Nat} (h : (a &&& objs_windowRequest == a) = true) := Mask.le_trans h hO
  have P {a : Nat} (h : (a &&& parts_windowRequest == a) = true) := Mask.le_trans h hP
  have B {k : Nat} (h : objs_windowRequest.testBit k = true) := Mask.bit h hO
  have S {k : Nat} (h : parts_windowRequest.testBit k = true) := Mask.bit h hP
  unfold Device.windowRequest
  try simp only
  repeat' first
    | with_reducible exact hM
    | with_reducible exact Moves.refl ..
    | with_reducible refine Moves.set ?_ (B (by decide)) (by decide)
    | with_reducible refine Moves.causeOptics ?_ (O (by decide)) (P (by decide))
    | dsimp only

def objs_rangeCheck : Nat := 0x3400000000000000000000000000000000000000000000000000000000000000000000000000000000000000000000000000000000000000000000000000000000000000000000000000000
def parts_rangeCheck : Nat := 0x2a0
theorem Moves.rangeCheck {p c r uw : Nat} (hM : Moves d₀ e₀ mo mp) (hO : Mask.le objs_rangeCheck mo) (hP : Mask.le parts_rangeCheck mp) :
    Moves d₀ (e₀.rangeCheck p c r uw) mo mp := by
  have O {a : Nat} (h : (a &&& objs_rangeCheck == a) = true) := Mask.le_trans h hO
  have P {a : Nat} (h : (a &&& parts_rangeCheck == a) = true) := Mask.le_trans h hP
  unfold Device.rangeCheck
  try simp only
  repeat' first
    | with_reducible exact hM
    | with_reducible exact Moves.refl ..
    | with_reducible refine Moves.causeOptics ?_ (O (by decide)) (P (by decide))
    | with_reducible refine Moves.ite (fun _ => ?_) (fun _ => ?_)
    | with_reducible refine Moves.ite1 (fun _ => ?_) (fun _ => ?_)
    | split
    | dsimp only

def objs_setReserve : Nat := 0x3400000000000000000000000000000000000000000000000000000800000000000000000000000000000000000000000000000000000000000000000000000000000000000000000000000
def parts_setReserve : Nat := 0x2a0
theorem Moves.setReserve {p c : Nat} (hM : Moves d₀ e₀ mo mp) (hO : Mask.le objs_setReserve mo) (hP : Mask.le parts_setReserve mp) :
    Moves d₀ (e₀.setReserve p c) mo mp := by
  have O {a : Nat} (h : (a &&& objs_setReserve == a) = true) := Mask.le_trans h hO
  have P {a : Nat} (h : (a &&& parts_setReserve == a) = true) := Mask.le_trans h hP
  have B {k : Nat} (h : objs_setReserve.testBit k = true) := Mask.bit h hO
  have S {k : Nat} (h : parts_setReserve.testBit k = true) := Mask.bit h hP
  unfold Device.setReserve
  try simp only
  repeat' first
    | with_reducible exact hM
    | with_reducible exact Moves.refl ..
    | with_reducible refine Moves.set ?_ (B (by first | decide | (split <;> decide))) (by first | decide | (split <;> decide))
    | with_reducible refine Moves.rangeCheck ?_ (O (by decide)) (P (by decide))
    | with_reducible refine Moves.foldl ?_ (fun d a => ?_)
    | with_reducible refine Moves.ite (fun _ => ?_) (fun _ => ?_)
    | with_reducible refine Moves.ite1 (fun _ => ?_) (fun _ => ?_)
    | split
    | dsimp only

def objs_applyMode : Nat := 0x3400000000000000000000000000000000000000000000000000000808000000000000000000000000000000000000000000000000000000000000000000000000000000000000000000000
def parts_applyMode : Nat := 0x100002a0
theorem Moves.applyMode {p c : Nat} (hM : Moves d₀ e₀ mo mp) (hO : Mask.le objs_applyMode mo) (hP : Mask.le parts_applyMode mp) :
    Moves d₀ (e₀.applyMode p c) mo mp := by
  have O {a : Nat} (h : (a &&& objs_applyMode == a) = true) := Mask.le_trans h hO
  have P {a : Nat} (h : (a &&& parts_applyMode == a) = true) := Mask.le_trans h hP
  have B {k : Nat} (h : objs_applyMode.testBit k = true) := Mask.bit h hO
  have S {k : Nat} (h : parts_applyMode.testBit k = true) := Mask.bit h hP
  unfold Device.applyMode
  try simp only
  repeat' first
    | with_reducible exact hM
    | with_reducible exact Moves.refl ..
    | with_reducible refine Moves.set ?_ (B (by decide)) (by decide)
    | with_reducible refine Moves.setCal ?_ (O (by decide)) (P (by decide))
    | with_reducible refine Moves.setReserve ?_ (O (by decide)) (P (by decide))
    | with_reducible refine Moves.ite (fun _ => ?_) (fun _ => ?_)
    | with_reducible refine Moves.ite1 (fun _ => ?_) (fun _ => ?_)
    | split
    | dsimp only

def objs_endRound : Nat := 0x3400000000000000000000000000000000000000000000000000080808000000000000000000000000000000000000000000000000000000000000000000000000000000000000000000000
def parts_endRound : Nat := 0x100802a0
theorem Moves.endRound {p c j : Nat} (hM : Moves d₀ e₀ mo mp) (hO : Mask.le objs_endRound mo) (hP : Mask.le parts_endRound mp) :
    Moves d₀ (e₀.endRound p c j) mo mp := by
  have O {a : Nat} (h : (a &&& objs_endRound == a) = true) := Mask.le_trans h hO
  have P {a : Nat} (h : (a &&& parts_endRound == a) = true) := Mask.le_trans h hP
  have B {k : Nat} (h : objs_endRound.testBit k = true) := Mask.bit h hO
  have S {k : Nat} (h : parts_endRound.testBit k = true) := Mask.bit h hP
  unfold Device.endRound
  try simp only
  repeat' first
    | with_reducible exact hM
    | with_reducible exact Moves.refl ..
    | with_reducible refine Moves.set ?_ (B (by decide)) (by decide)
    | with_reducible refine Moves.setOutp ?_ (O (by decide)) (P (by decide))
    | with_reducible refine Moves.setCal ?_ (O (by decide)) (P (by decide))
    | with_reducible refine Moves.applyMode ?_ (O (by decide)) (P (by decide))
    | with_reducible refine Moves.foldl ?_ (fun d a => ?_)
    | with_reducible refine Moves.ite (fun _ => ?_) (fun _ => ?_)
    | with_reducible refine Moves.ite1 (fun _ => ?_) (fun _ => ?_)
    | split
    | dsimp only

def objs_calAbort : Nat := 0x3400000000000000000000000000000000000000000000000001180a88000000000000000000000000000000000000000000000000000000000000000000000000000000000000000000000
def parts_calAbort : Nat := 0x100802a1
theorem Moves.calAbort {p c : Nat} (hM : Moves d₀ e₀ mo mp) (hO : Mask.le objs_calAbort mo) (hP : Mask.le parts_calAbort mp) :
    Moves d₀ (e₀.calAbort p c) mo mp := by
  have O {a : Nat} (h : (a &&& objs_calAbort == a) = true) := Mask.le_trans h hO
  have P {a : Nat} (h : (a &&& parts_calAbort == a) = true) := Mask.le_trans h hP
  have B {k : Nat} (h : objs_calAbort.testBit k = true) := Mask.bit h hO
  have S {k : Nat} (h : parts_calAbort.testBit k = true) := Mask.bit h hP
  unfold Device.calAbort
  try simp only
  repeat' first
    | with_reducible exact hM
    | with_reducible exact Moves.refl ..
    | with_reducible refine Moves.set ?_ (B (by decide)) (by decide)
    | with_reducible refine Moves.bump ?_ (B (by decide)) (by decide) (S (by decide))
    | with_reducible refine Moves.setCal ?_ (O (by decide)) (P (by decide))
    | with_reducible refine Moves.endRound ?_ (O (by decide)) (P (by decide))
    | with_reducible refine Moves.windowRequest ?_ (O (by decide)) (P (by decide))
    | with_reducible refine Moves.foldl ?_ (fun d a => ?_)
    | with_reducible refine Moves.ite (fun _ => ?_) (fun _ => ?_)
    | with_reducible refine Moves.ite1 (fun _ => ?_) (fun _ => ?_)
    | split
    | dsimp only

def objs_calAbortPort : Nat := 0x3400000000000000000000000000000000000000000000000001180a88000000000000000000000000000000000000000000000000000000000000000000000000000000000000000000000
def parts_calAbortPort : Nat := 0x100802a1
theorem Moves.calAbortPort {p n : Nat} (hM : Moves d₀ e₀ mo mp) (hO : Mask.le objs_calAbortPort mo) (hP : Mask.le parts_calAbortPort mp) :
    Moves d₀ (e₀.calAbortPort p n) mo mp := by
  have O {a : Nat} (h : (a &&& objs_calAbortPort == a) = true) := Mask.le_trans h hO
  have P {a : Nat} (h : (a &&& parts_calAbortPort == a) = true) := Mask.le_trans h hP
  unfold Device.calAbortPort
  try simp only
  repeat' first
    | with_reducible exact hM
    | with_reducible exact Moves.refl ..
    | with_reducible refine Moves.calAbort ?_ (O (by decide)) (P (by decide))
    | with_reducible refine Moves.ite (fun _ => ?_) (fun _ => ?_)
    | with_reducible refine Moves.ite1 (fun _ => ?_) (fun _ => ?_)
    | split
    | dsimp only

def objs_notIdle : Nat := 0x0
def parts_notIdle : Nat := 0x10080000
theorem Moves.notIdle {p n : Nat} (hM : Moves d₀ e₀ mo mp) (hO : Mask.le objs_notIdle mo) (hP : Mask.le parts_notIdle mp) :
    Moves d₀ (e₀.notIdle p n) mo mp := by
  have O {a : Nat} (h : (a &&& objs_notIdle == a) = true) := Mask.le_trans h hO
  have P {a : Nat} (h : (a &&& parts_notIdle == a) = true) := Mask.le_trans h hP
  unfold Device.notIdle
  try simp only
  repeat' first
    | with_reducible exact hM
    | with_reducible exact Moves.refl ..
    | with_reducible refine Moves.setOutp ?_ (O (by decide)) (P (by decide))
    | with_reducible refine Moves.setCal ?_ (O (by decide)) (P (by decide))
    | with_reducible refine Moves.ite (fun _ => ?_) (fun _ => ?_)
    | with_reducible refine Moves.ite1 (fun _ => ?_) (fun _ => ?_)
    | split
    | dsimp only

def objs_startBlock : Nat := 0x3400000000000000000000000000000000000000000000000001180a88000000000000000000000000000000000000000000000000000000000000000000000000000000000000000000000
def parts_startBlock : Nat := 0x100802a1
theorem Moves.startBlock {p n : Nat} (hM : Moves d₀ e₀ mo mp) (hO : Mask.le objs_startBlock mo) (hP : Mask.le parts_startBlock mp) :
    Moves d₀ (e₀.startBlock p n) mo mp := by
  have O {a : Nat} (h : (a &&& objs_startBlock == a) = true) := Mask.le_trans h hO
  have P {a : Nat} (h : (a &&& parts_startBlock == a) = true) := Mask.le_trans h hP
  unfold Device.startBlock
  try simp only
  repeat' first
    | with_reducible exact hM
    | with_reducible exact Moves.refl ..
    | with_reducible refine Moves.calAbortPort ?_ (O (by decide)) (P (by decide))
    | with_reducible refine Moves.ite (fun _ => ?_) (fun _ => ?_)
    | with_reducible refine Moves.ite1 (fun _ => ?_) (fun _ => ?_)
    | split
    | dsimp only

def objs_setLog : Nat := 0x340000000000000000000000002b800000000000000000000000000000000000000000000000000000000000000000000000000000000000000000000000000000000000000000000000000
def parts_setLog : Nat := 0x2a1
theorem Moves.setLog {l : List RetireEntry} (hM : Moves d₀ e₀ mo mp) (hO : Mask.le objs_setLog mo) (hP : Mask.le parts_setLog mp) :
    Moves d₀ (e₀.setLog l) mo mp := by
  have O {a : Nat} (h : (a &&& objs_setLog == a) = true) := Mask.le_trans h hO
  have P {a : Nat} (h : (a &&& parts_setLog == a) = true) := Mask.le_trans h hP
  have S {k : Nat} (h : parts_setLog.testBit k = true) := Mask.bit h hP
  unfold Device.setLog
  try simp only
  repeat' first
    | with_reducible exact hM
    | with_reducible exact Moves.refl ..
    | with_reducible refine Moves.journal ?_ (O (by decide)) (P (by decide))
    | with_reducible refine Moves.ite (fun _ => ?_) (fun _ => ?_)
    | with_reducible refine Moves.ite1 (fun _ => ?_) (fun _ => ?_)
    | split
    | with_reducible refine Moves.with_hub ?_ (S (by decide))
    | dsimp only

def objs_logEntry : Nat := 0x340000000000000000000000002b800000000000000000000000000000000000000000000000000000000000000000000000000000000000000000000000000000000000000000000000000
def parts_logEntry : Nat := 0x2a1
theorem Moves.logEntry {e : RetireEntry} (hM : Moves d₀ e₀ mo mp) (hO : Mask.le objs_logEntry mo) (hP : Mask.le parts_logEntry mp) :
    Moves d₀ (e₀.logEntry e) mo mp := by
  have O {a : Nat} (h : (a &&& objs_logEntry == a) = true) := Mask.le_trans h hO
  have P {a : Nat} (h : (a &&& parts_logEntry == a) = true) := Mask.le_trans h hP
  unfold Device.logEntry
  try simp only
  repeat' first
    | with_reducible exact hM
    | with_reducible exact Moves.refl ..
    | with_reducible refine Moves.causeReplace ?_ (O (by decide)) (P (by decide))
    | with_reducible refine Moves.setLog ?_ (O (by decide)) (P (by decide))
    | with_reducible refine Moves.ite (fun _ => ?_) (fun _ => ?_)
    | with_reducible refine Moves.ite1 (fun _ => ?_) (fun _ => ?_)
    | split
    | dsimp only

def objs_logRetire : Nat := 0x340000000000000000000000002b800000000000000000000000000000000000000000000000000000000000000000000000000000000000000000000000000000000000000000000000000
def parts_logRetire : Nat := 0x3a1
theorem Moves.logRetire {p ch kind : Nat} (hM : Moves d₀ e₀ mo mp) (hO : Mask.le objs_logRetire mo) (hP : Mask.le parts_logRetire mp) :
    Moves d₀ (e₀.logRetire p ch kind) mo mp := by
  have O {a : Nat} (h : (a &&& objs_logRetire == a) = true) := Mask.le_trans h hO
  have P {a : Nat} (h : (a &&& parts_logRetire == a) = true) := Mask.le_trans h hP
  unfold Device.logRetire
  try simp only
  repeat' first
    | with_reducible exact hM
    | with_reducible exact Moves.refl ..
    | with_reducible refine Moves.causeHealth ?_ (O (by decide)) (P (by decide))
    | with_reducible refine Moves.setPlane ?_ (O (by decide)) (P (by decide))
    | with_reducible refine Moves.logEntry ?_ (O (by decide)) (P (by decide))
    | with_reducible refine Moves.ite (fun _ => ?_) (fun _ => ?_)
    | with_reducible refine Moves.ite1 (fun _ => ?_) (fun _ => ?_)
    | split
    | dsimp only

def objs_passEntries : Nat := 0x340000000000000000000000002b800000000000000000000000000000000000000000000000000000000000000000000000000000000000000000000000000000000000000000000000000
def parts_passEntries : Nat := 0x3a1
theorem Moves.passEntries {p : Nat} (hM : Moves d₀ e₀ mo mp) (hO : Mask.le objs_passEntries mo) (hP : Mask.le parts_passEntries mp) :
    Moves d₀ (e₀.passEntries p) mo mp := by
  have O {a : Nat} (h : (a &&& objs_passEntries == a) = true) := Mask.le_trans h hO
  have P {a : Nat} (h : (a &&& parts_passEntries == a) = true) := Mask.le_trans h hP
  unfold Device.passEntries
  try simp only
  repeat' first
    | with_reducible exact hM
    | with_reducible exact Moves.refl ..
    | with_reducible refine Moves.setPlane ?_ (O (by decide)) (P (by decide))
    | with_reducible refine Moves.logEntry ?_ (O (by decide)) (P (by decide))
    | with_reducible refine Moves.foldl ?_ (fun d a => ?_)
    | with_reducible refine Moves.ite (fun _ => ?_) (fun _ => ?_)
    | with_reducible refine Moves.ite1 (fun _ => ?_) (fun _ => ?_)
    | split
    | dsimp only

def objs_setReasons : Nat := 0x3400000000000000000000c00000000000000000000000000000000000000000000000000000000000000000000000000000000000000000000000000000000000000000000000000000000
def parts_setReasons : Nat := 0x2a0
theorem Moves.setReasons {v : Nat} (hM : Moves d₀ e₀ mo mp) (hO : Mask.le objs_setReasons mo) (hP : Mask.le parts_setReasons mp) :
    Moves d₀ (e₀.setReasons v) mo mp := by
  have O {a : Nat} (h : (a &&& objs_setReasons == a) = true) := Mask.le_trans h hO
  have P {a : Nat} (h : (a &&& parts_setReasons == a) = true) := Mask.le_trans h hP
  have B {k : Nat} (h : objs_setReasons.testBit k = true) := Mask.bit h hO
  have S {k : Nat} (h : parts_setReasons.testBit k = true) := Mask.bit h hP
  unfold Device.setReasons
  try simp only
  repeat' first
    | with_reducible exact hM
    | with_reducible exact Moves.refl ..
    | with_reducible refine Moves.set ?_ (B (by decide)) (by decide)
    | with_reducible refine Moves.causeReplace ?_ (O (by decide)) (P (by decide))
    | with_reducible refine Moves.ite (fun _ => ?_) (fun _ => ?_)
    | with_reducible refine Moves.ite1 (fun _ => ?_) (fun _ => ?_)
    | split
    | dsimp only

def objs_reviewReasons : Nat := 0x3400000000000000000000c00000000000000000000000000000000000000000000000000000000000000000000000000000000000000000000000000000000000000000000000000000000
def parts_reviewReasons : Nat := 0x2a0
theorem Moves.reviewReasons  (hM : Moves d₀ e₀ mo mp) (hO : Mask.le objs_reviewReasons mo) (hP : Mask.le parts_reviewReasons mp) :
    Moves d₀ (e₀.reviewReasons ) mo mp := by
  have O {a : Nat} (h : (a &&& objs_reviewReasons == a) = true) := Mask.le_trans h hO
  have P {a : Nat} (h : (a &&& parts_reviewReasons == a) = true) := Mask.le_trans h hP
  unfold Device.reviewReasons
  try simp only
  repeat' first
    | with_reducible exact hM
    | with_reducible exact Moves.refl ..
    | with_reducible refine Moves.setReasons ?_ (O (by decide)) (P (by decide))
    | with_reducible refine Moves.ite (fun _ => ?_) (fun _ => ?_)
    | with_reducible refine Moves.ite1 (fun _ => ?_) (fun _ => ?_)
    | split
    | dsimp only


def objs_setKiteState : Nat := 0x400000000000000000
def parts_setKiteState : Nat := 0x0
theorem Moves.setKiteState {p r k v : Nat} (hM : Moves d₀ e₀ mo mp) (hO : Mask.le objs_setKiteState mo) (hP : Mask.le parts_setKiteState mp) :
    Moves d₀ (e₀.setKiteState p r k v) mo mp := by
  have O {a : Nat} (h : (a &&& objs_setKiteState == a) = true) := Mask.le_trans h hO
  have P {a : Nat} (h : (a &&& parts_setKiteState == a) = true) := Mask.le_trans h hP
  have B {k : Nat} (h : objs_setKiteState.testBit k = true) := Mask.bit h hO
  have S {k : Nat} (h : parts_setKiteState.testBit k = true) := Mask.bit h hP
  unfold Device.setKiteState
  try simp only
  repeat' first
    | with_reducible exact hM
    | with_reducible exact Moves.refl ..
    | with_reducible refine Moves.set ?_ (B (by decide)) (by decide)
    | dsimp only

def objs_setCopy : Nat := 0x0
def parts_setCopy : Nat := 0x1000
theorem Moves.setCopy {p id : Nat} {c : Copy} (hM : Moves d₀ e₀ mo mp) (hO : Mask.le objs_setCopy mo) (hP : Mask.le parts_setCopy mp) :
    Moves d₀ (e₀.setCopy p id c) mo mp := by
  have O {a : Nat} (h : (a &&& objs_setCopy == a) = true) := Mask.le_trans h hO
  have P {a : Nat} (h : (a &&& parts_setCopy == a) = true) := Mask.le_trans h hP
  have S {k : Nat} (h : parts_setCopy.testBit k = true) := Mask.bit h hP
  unfold Device.setCopy
  try simp only
  repeat' first
    | with_reducible exact hM
    | with_reducible exact Moves.refl ..
    | with_reducible refine Moves.with_copies ?_ (S (by decide))
    | dsimp only

def objs_dropCopy : Nat := 0x0
def parts_dropCopy : Nat := 0x1000
theorem Moves.dropCopy {p id : Nat} (hM : Moves d₀ e₀ mo mp) (hO : Mask.le objs_dropCopy mo) (hP : Mask.le parts_dropCopy mp) :
    Moves d₀ (e₀.dropCopy p id) mo mp := by
  have O {a : Nat} (h : (a &&& objs_dropCopy == a) = true) := Mask.le_trans h hO
  have P {a : Nat} (h : (a &&& parts_dropCopy == a) = true) := Mask.le_trans h hP
  have S {k : Nat} (h : parts_dropCopy.testBit k = true) := Mask.bit h hP
  unfold Device.dropCopy
  try simp only
  repeat' first
    | with_reducible exact hM
    | with_reducible exact Moves.refl ..
    | with_reducible refine Moves.with_copies ?_ (S (by decide))
    | dsimp only

def objs_setFrame : Nat := 0x0
def parts_setFrame : Nat := 0x800
theorem Moves.setFrame {p fid : Nat} {f : FrameRec} (hM : Moves d₀ e₀ mo mp) (hO : Mask.le objs_setFrame mo) (hP : Mask.le parts_setFrame mp) :
    Moves d₀ (e₀.setFrame p fid f) mo mp := by
  have O {a : Nat} (h : (a &&& objs_setFrame == a) = true) := Mask.le_trans h hO
  have P {a : Nat} (h : (a &&& parts_setFrame == a) = true) := Mask.le_trans h hP
  have S {k : Nat} (h : parts_setFrame.testBit k = true) := Mask.bit h hP
  unfold Device.setFrame
  try simp only
  repeat' first
    | with_reducible exact hM
    | with_reducible exact Moves.refl ..
    | with_reducible refine Moves.with_frames ?_ (S (by decide))
    | dsimp only

def objs_tenantDrop : Nat := 0x3400000000000000000000000000000000001000000000000000000000000000000000000000000000000000000000000000000000000000000000000000000000000000000000000000000
def parts_tenantDrop : Nat := 0x2a1
theorem Moves.tenantDrop {p t input : Nat} (hM : Moves d₀ e₀ mo mp) (hO : Mask.le objs_tenantDrop mo) (hP : Mask.le parts_tenantDrop mp) :
    Moves d₀ (e₀.tenantDrop p t input) mo mp := by
  have O {a : Nat} (h : (a &&& objs_tenantDrop == a) = true) := Mask.le_trans h hO
  have P {a : Nat} (h : (a &&& parts_tenantDrop == a) = true) := Mask.le_trans h hP
  have B {k : Nat} (h : objs_tenantDrop.testBit k = true) := Mask.bit h hO
  have S {k : Nat} (h : parts_tenantDrop.testBit k = true) := Mask.bit h hP
  unfold Device.tenantDrop
  try simp only
  repeat' first
    | with_reducible exact hM
    | with_reducible exact Moves.refl ..
    | with_reducible refine Moves.bump ?_ (B (by decide)) (by decide) (S (by decide))
    | with_reducible refine Moves.causeFabric ?_ (O (by decide)) (P (by decide))
    | dsimp only

def objs_sendLink : Nat := 0x3400000000000000000000000000000000000000000000000001180a88000000000000000000000000000000000000000000000000000000000000000000000000000000000000000000000
def parts_sendLink : Nat := 0x100806a1
theorem Moves.sendLink {p n : Nat} {f : Frame} (hM : Moves d₀ e₀ mo mp) (hO : Mask.le objs_sendLink mo) (hP : Mask.le parts_sendLink mp) :
    Moves d₀ (e₀.sendLink p n f) mo mp := by
  have O {a : Nat} (h : (a &&& objs_sendLink == a) = true) := Mask.le_trans h hO
  have P {a : Nat} (h : (a &&& parts_sendLink == a) = true) := Mask.le_trans h hP
  unfold Device.sendLink
  try simp only
  repeat' first
    | with_reducible exact hM
    | with_reducible exact Moves.refl ..
    | with_reducible refine Moves.emit ?_ (O (by decide)) (P (by decide))
    | with_reducible refine Moves.setPort ?_ (O (by decide)) (P (by decide))
    | with_reducible refine Moves.calAbortPort ?_ (O (by decide)) (P (by decide))
    | with_reducible refine Moves.ite (fun _ => ?_) (fun _ => ?_)
    | with_reducible refine Moves.ite1 (fun _ => ?_) (fun _ => ?_)
    | split
    | dsimp only

def objs_sendCredit : Nat := 0x3400000000000000000000000000000000000000000000000001180a88000000000000000000000000000000000000000000000000000000000000000000000000000000000000000000000
def parts_sendCredit : Nat := 0x100806a1
theorem Moves.sendCredit {p n : Nat} (hM : Moves d₀ e₀ mo mp) (hO : Mask.le objs_sendCredit mo) (hP : Mask.le parts_sendCredit mp) :
    Moves d₀ (e₀.sendCredit p n) mo mp := by
  have O {a : Nat} (h : (a &&& objs_sendCredit == a) = true) := Mask.le_trans h hO
  have P {a : Nat} (h : (a &&& parts_sendCredit == a) = true) := Mask.le_trans h hP
  unfold Device.sendCredit
  try simp only
  repeat' first
    | with_reducible exact hM
    | with_reducible exact Moves.refl ..
    | with_reducible refine Moves.setPort ?_ (O (by decide)) (P (by decide))
    | with_reducible refine Moves.sendLink ?_ (O (by decide)) (P (by decide))
    | dsimp only

def objs_sendNak : Nat := 0x3400000000000000000000000000000000000000000000000001180a88000000000000000000000000000000000000000000000000000000000000000000000000000000000000000000000
def parts_sendNak : Nat := 0x100806a1
theorem Moves.sendNak {p n : Nat} (hM : Moves d₀ e₀ mo mp) (hO : Mask.le objs_sendNak mo) (hP : Mask.le parts_sendNak mp) :
    Moves d₀ (e₀.sendNak p n) mo mp := by
  have O {a : Nat} (h : (a &&& objs_sendNak == a) = true) := Mask.le_trans h hO
  have P {a : Nat} (h : (a &&& parts_sendNak == a) = true) := Mask.le_trans h hP
  unfold Device.sendNak
  try simp only
  repeat' first
    | with_reducible exact hM
    | with_reducible exact Moves.refl ..
    | with_reducible refine Moves.sendLink ?_ (O (by decide)) (P (by decide))
    | dsimp only

def objs_creditDue : Nat := 0x3400000000000000000000000000000000000000000000000001180a88000000000000000000000000000000000000000000000000000000000000000000000000000000000000000000000
def parts_creditDue : Nat := 0x100806a1
theorem Moves.creditDue {p n : Nat} (hM : Moves d₀ e₀ mo mp) (hO : Mask.le objs_creditDue mo) (hP : Mask.le parts_creditDue mp) :
    Moves d₀ (e₀.creditDue p n) mo mp := by
  have O {a : Nat} (h : (a &&& objs_creditDue == a) = true) := Mask.le_trans h hO
  have P {a : Nat} (h : (a &&& parts_creditDue == a) = true) := Mask.le_trans h hP
  unfold Device.creditDue
  try simp only
  repeat' first
    | with_reducible exact hM
    | with_reducible exact Moves.refl ..
    | with_reducible refine Moves.sendCredit ?_ (O (by decide)) (P (by decide))
    | with_reducible refine Moves.ite (fun _ => ?_) (fun _ => ?_)
    | with_reducible refine Moves.ite1 (fun _ => ?_) (fun _ => ?_)
    | split
    | dsimp only

def objs_returnCredit : Nat := 0x3400000000000000000000000000000000000000000000000001180a88000000000000000000000000000000000000000000000000000000000000000000000000000000000000000000000
def parts_returnCredit : Nat := 0x100806a1
theorem Moves.returnCredit {p n c cells : Nat} (hM : Moves d₀ e₀ mo mp) (hO : Mask.le objs_returnCredit mo) (hP : Mask.le parts_returnCredit mp) :
    Moves d₀ (e₀.returnCredit p n c cells) mo mp := by
  have O {a : Nat} (h : (a &&& objs_returnCredit == a) = true) := Mask.le_trans h hO
  have P {a : Nat} (h : (a &&& parts_returnCredit == a) = true) := Mask.le_trans h hP
  unfold Device.returnCredit
  try simp only
  repeat' first
    | with_reducible exact hM
    | with_reducible exact Moves.refl ..
    | with_reducible refine Moves.setPort ?_ (O (by decide)) (P (by decide))
    | with_reducible refine Moves.creditDue ?_ (O (by decide)) (P (by decide))
    | dsimp only

def objs_frameDone : Nat := 0x3400000000000000000000000000000000000000000000000001180a88000000000000000000000000000000000000000000000000000000000000000000000000000000000000000000000
def parts_frameDone : Nat := 0x10080ea1
theorem Moves.frameDone {p fid : Nat} (hM : Moves d₀ e₀ mo mp) (hO : Mask.le objs_frameDone mo) (hP : Mask.le parts_frameDone mp) :
    Moves d₀ (e₀.frameDone p fid) mo mp := by
  have O {a : Nat} (h : (a &&& objs_frameDone == a) = true) := Mask.le_trans h hO
  have P {a : Nat} (h : (a &&& parts_frameDone == a) = true) := Mask.le_trans h hP
  have S {k : Nat} (h : parts_frameDone.testBit k = true) := Mask.bit h hP
  unfold Device.frameDone
  try simp only
  repeat' first
    | with_reducible exact hM
    | with_reducible exact Moves.refl ..
    | with_reducible refine Moves.returnCredit ?_ (O (by decide)) (P (by decide))
    | with_reducible refine Moves.ite (fun _ => ?_) (fun _ => ?_)
    | with_reducible refine Moves.ite1 (fun _ => ?_) (fun _ => ?_)
    | split
    | with_reducible refine Moves.with_frames ?_ (S (by decide))
    | dsimp only

def objs_tidyCopy : Nat := 0x3400000000000000000000000000000000000000000000000001180a88000000000000000000000000000000000000000000000000000000000000000000000000000000000000000000000
def parts_tidyCopy : Nat := 0x10081ea1
theorem Moves.tidyCopy {p id : Nat} (hM : Moves d₀ e₀ mo mp) (hO : Mask.le objs_tidyCopy mo) (hP : Mask.le parts_tidyCopy mp) :
    Moves d₀ (e₀.tidyCopy p id) mo mp := by
  have O {a : Nat} (h : (a &&& objs_tidyCopy == a) = true) := Mask.le_trans h hO
  have P {a : Nat} (h : (a &&& parts_tidyCopy == a) = true) := Mask.le_trans h hP
  unfold Device.tidyCopy
  try simp only
  repeat' first
    | with_reducible exact hM
    | with_reducible exact Moves.refl ..
    | with_reducible refine Moves.frameDone ?_ (O (by decide)) (P (by decide))
    | with_reducible refine Moves.dropCopy ?_ (O (by decide)) (P (by decide))
    | with_reducible refine Moves.ite (fun _ => ?_) (fun _ => ?_)
    | with_reducible refine Moves.ite1 (fun _ => ?_) (fun _ => ?_)
    | split
    | dsimp only

def objs_release : Nat := 0x3400000000000000000000000000000000000000000000000001180a88000000000000000000000000000000000000000000000000000000000000000000000000000000000000000000000
def parts_release : Nat := 0x10081ea1
theorem Moves.release {p id o : Nat} (hM : Moves d₀ e₀ mo mp) (hO : Mask.le objs_release mo) (hP : Mask.le parts_release mp) :
    Moves d₀ (e₀.release p id o) mo mp := by
  have O {a : Nat} (h : (a &&& objs_release == a) = true) := Mask.le_trans h hO
  have P {a : Nat} (h : (a &&& parts_release == a) = true) := Mask.le_trans h hP
  unfold Device.release
  try simp only
  repeat' first
    | with_reducible exact hM
    | with_reducible exact Moves.refl ..
    | with_reducible refine Moves.tidyCopy ?_ (O (by decide)) (P (by decide))
    | with_reducible refine Moves.setCopy ?_ (O (by decide)) (P (by decide))
    | split
    | dsimp only

def objs_markDue : Nat := 0x0
def parts_markDue : Nat := 0x1000
theorem Moves.markDue {p id o : Nat} (hM : Moves d₀ e₀ mo mp) (hO : Mask.le objs_markDue mo) (hP : Mask.le parts_markDue mp) :
    Moves d₀ (e₀.markDue p id o) mo mp := by
  have O {a : Nat} (h : (a &&& objs_markDue == a) = true) := Mask.le_trans h hO
  have P {a : Nat} (h : (a &&& parts_markDue == a) = true) := Mask.le_trans h hP
  unfold Device.markDue
  try simp only
  repeat' first
    | with_reducible exact hM
    | with_reducible exact Moves.refl ..
    | with_reducible refine Moves.setCopy ?_ (O (by decide)) (P (by decide))
    | with_reducible refine Moves.ite (fun _ => ?_) (fun _ => ?_)
    | with_reducible refine Moves.ite1 (fun _ => ?_) (fun _ => ?_)
    | split
    | dsimp only

def objs_countGone : Nat := 0x40000200000000
def parts_countGone : Nat := 0x1
theorem Moves.countGone {p o : Nat} (hM : Moves d₀ e₀ mo mp) (hO : Mask.le objs_countGone mo) (hP : Mask.le parts_countGone mp) :
    Moves d₀ (e₀.countGone p o) mo mp := by
  have O {a : Nat} (h : (a &&& objs_countGone == a) = true) := Mask.le_trans h hO
  have P {a : Nat} (h : (a &&& parts_countGone == a) = true) := Mask.le_trans h hP
  have B {k : Nat} (h : objs_countGone.testBit k = true) := Mask.bit h hO
  have S {k : Nat} (h : parts_countGone.testBit k = true) := Mask.bit h hP
  unfold Device.countGone
  try simp only
  repeat' first
    | with_reducible exact hM
    | with_reducible exact Moves.refl ..
    | with_reducible refine Moves.bump ?_ (B (by decide)) (by decide) (S (by decide))
    | with_reducible refine Moves.ite (fun _ => ?_) (fun _ => ?_)
    | with_reducible refine Moves.ite1 (fun _ => ?_) (fun _ => ?_)
    | split
    | dsimp only

def objs_purge : Nat := 0x3400000000000000000000000000000000000000000000000001180a88000000000000000000000000000000000000000000000000000000000000000000000000000000040000200000000
def parts_purge : Nat := 0x10081ea1
theorem Moves.purge {p id : Nat} (hM : Moves d₀ e₀ mo mp) (hO : Mask.le objs_purge mo) (hP : Mask.le parts_purge mp) :
    Moves d₀ (e₀.purge p id) mo mp := by
  have O {a : Nat} (h : (a &&& objs_purge == a) = true) := Mask.le_trans h hO
  have P {a : Nat} (h : (a &&& parts_purge == a) = true) := Mask.le_trans h hP
  unfold Device.purge
  try simp only
  repeat' first
    | with_reducible exact hM
    | with_reducible exact Moves.refl ..
    | with_reducible refine Moves.countGone ?_ (O (by decide)) (P (by decide))
    | with_reducible refine Moves.release ?_ (O (by decide)) (P (by decide))
    | with_reducible refine Moves.foldl ?_ (fun d a => ?_)
    | with_reducible refine Moves.ite (fun _ => ?_) (fun _ => ?_)
    | with_reducible refine Moves.ite1 (fun _ => ?_) (fun _ => ?_)
    | split
    | dsimp only

def objs_noteHigh : Nat := 0x2000000000000000000
def parts_noteHigh : Nat := 0x0
theorem Moves.noteHigh {p r : Nat} {pl : List (Nat × Nat)} (hM : Moves d₀ e₀ mo mp) (hO : Mask.le objs_noteHigh mo) (hP : Mask.le parts_noteHigh mp) :
    Moves d₀ (e₀.noteHigh p r pl) mo mp := by
  have O {a : Nat} (h : (a &&& objs_noteHigh == a) = true) := Mask.le_trans h hO
  have P {a : Nat} (h : (a &&& parts_noteHigh == a) = true) := Mask.le_trans h hP
  have B {k : Nat} (h : objs_noteHigh.testBit k = true) := Mask.bit h hO
  unfold Device.noteHigh
  try simp only
  repeat' first
    | with_reducible exact hM
    | with_reducible exact Moves.refl ..
    | with_reducible refine Moves.highWater ?_ (B (by decide)) (by decide)
    | with_reducible refine Moves.foldl ?_ (fun d a => ?_)
    | dsimp only

def objs_admitFirst : Nat := 0x3400000000000000000000000000000000000000000000000001180a88000000000000000000000000000000000000000000000000000000000000000000000000002000044800200000000
def parts_admitFirst : Nat := 0x10081eb1
theorem Moves.admitFirst {p fid : Nat} {f : FrameRec} {r c : Nat} {outs : List Nat} {mcast : Bool} (hM : Moves d₀ e₀ mo mp) (hO : Mask.le objs_admitFirst mo) (hP : Mask.le parts_admitFirst mp) :
    Moves d₀ (e₀.admitFirst p fid f r c outs mcast) mo mp := by
  have O {a : Nat} (h : (a &&& objs_admitFirst == a) = true) := Mask.le_trans h hO
  have P {a : Nat} (h : (a &&& parts_admitFirst == a) = true) := Mask.le_trans h hP
  have B {k : Nat} (h : objs_admitFirst.testBit k = true) := Mask.bit h hO
  have S {k : Nat} (h : parts_admitFirst.testBit k = true) := Mask.bit h hP
  unfold Device.admitFirst
  try simp only
  repeat' first
    | with_reducible exact hM
    | with_reducible exact Moves.refl ..
    | with_reducible refine Moves.bump ?_ (B (by decide)) (by decide) (S (by decide))
    | with_reducible refine Moves.newId ?_ (O (by decide)) (P (by decide))
    | with_reducible refine Moves.noteHigh ?_ (O (by decide)) (P (by decide))
    | with_reducible refine Moves.purge ?_ (O (by decide)) (P (by decide))
    | with_reducible refine Moves.setCopy ?_ (O (by decide)) (P (by decide))
    | with_reducible refine Moves.ite (fun _ => ?_) (fun _ => ?_)
    | with_reducible refine Moves.ite1 (fun _ => ?_) (fun _ => ?_)
    | split
    | dsimp only

def objs_admitExtra : Nat := 0x3400000000000000000000000000000000001000000000000001180a88000000000000000000000000000000000000000000000000000000000000000000000000002000046000200000000
def parts_admitExtra : Nat := 0x10081eb1
theorem Moves.admitExtra {p fid : Nat} {f : FrameRec} {r c : Nat} {outs : List Nat} (hM : Moves d₀ e₀ mo mp) (hO : Mask.le objs_admitExtra mo) (hP : Mask.le parts_admitExtra mp) :
    Moves d₀ (e₀.admitExtra p fid f r c outs) mo mp := by
  have O {a : Nat} (h : (a &&& objs_admitExtra == a) = true) := Mask.le_trans h hO
  have P {a : Nat} (h : (a &&& parts_admitExtra == a) = true) := Mask.le_trans h hP
  have B {k : Nat} (h : objs_admitExtra.testBit k = true) := Mask.bit h hO
  have S {k : Nat} (h : parts_admitExtra.testBit k = true) := Mask.bit h hP
  unfold Device.admitExtra
  try simp only
  repeat' first
    | with_reducible exact hM
    | with_reducible exact Moves.refl ..
    | with_reducible refine Moves.bump ?_ (B (by decide)) (by decide) (S (by decide))
    | with_reducible refine Moves.newId ?_ (O (by decide)) (P (by decide))
    | with_reducible refine Moves.noteHigh ?_ (O (by decide)) (P (by decide))
    | with_reducible refine Moves.purge ?_ (O (by decide)) (P (by decide))
    | with_reducible refine Moves.tenantDrop ?_ (O (by decide)) (P (by decide))
    | with_reducible refine Moves.setCopy ?_ (O (by decide)) (P (by decide))
    | with_reducible refine Moves.ite (fun _ => ?_) (fun _ => ?_)
    | with_reducible refine Moves.ite1 (fun _ => ?_) (fun _ => ?_)
    | split
    | dsimp only

def objs_queueDirect : Nat := 0x3400000000000000000000000000000000000000000000000001180a88000000000000000000000000000000000000000000000000000000000000000000000000000000040000200000000
def parts_queueDirect : Nat := 0x10081eb1
theorem Moves.queueDirect {p input o : Nat} {f : Frame} {tenant : Nat} (hM : Moves d₀ e₀ mo mp) (hO : Mask.le objs_queueDirect mo) (hP : Mask.le parts_queueDirect mp) :
    Moves d₀ (e₀.queueDirect p input o f tenant) mo mp := by
  have O {a : Nat} (h : (a &&& objs_queueDirect == a) = true) := Mask.le_trans h hO
  have P {a : Nat} (h : (a &&& parts_queueDirect == a) = true) := Mask.le_trans h hP
  unfold Device.queueDirect
  try simp only
  repeat' first
    | with_reducible exact hM
    | with_reducible exact Moves.refl ..
    | with_reducible refine Moves.newId ?_ (O (by decide)) (P (by decide))
    | with_reducible refine Moves.purge ?_ (O (by decide)) (P (by decide))
    | with_reducible refine Moves.setFrame ?_ (O (by decide)) (P (by decide))
    | with_reducible refine Moves.setCopy ?_ (O (by decide)) (P (by decide))
    | dsimp only

def objs_ecnMark : Nat := 0x10000000000000
def parts_ecnMark : Nat := 0x10001
theorem Moves.ecnMark {p r c : Nat} {f : Frame} (hM : Moves d₀ e₀ mo mp) (hO : Mask.le objs_ecnMark mo) (hP : Mask.le parts_ecnMark mp) :
    Moves d₀ (e₀.ecnMark p r c f).1 mo mp := by
  have O {a : Nat} (h : (a &&& objs_ecnMark == a) = true) := Mask.le_trans h hO
  have P {a : Nat} (h : (a &&& parts_ecnMark == a) = true) := Mask.le_trans h hP
  have B {k : Nat} (h : objs_ecnMark.testBit k = true) := Mask.bit h hO
  have S {k : Nat} (h : parts_ecnMark.testBit k = true) := Mask.bit h hP
  unfold Device.ecnMark
  try simp only
  repeat' first
    | with_reducible exact hM
    | with_reducible exact Moves.refl ..
    | with_reducible refine Moves.bump ?_ (B (by decide)) (by decide) (S (by decide))
    | with_reducible refine Moves.ite (fun _ => ?_) (fun _ => ?_)
    | with_reducible refine Moves.ite1 (fun _ => ?_) (fun _ => ?_)
    | split
    | with_reducible refine Moves.with_lfsr ?_ (S (by decide))
    | dsimp only

def objs_enterStore : Nat := 0x3400000000000000000000000000000000001000000000000001180a88000000000000000000000000000000000000000000000000000000000000000000000000002000056800200000000
def parts_enterStore : Nat := 0x10091eb1
theorem Moves.enterStore {p input : Nat} {f : Frame} {outs : List Nat} {grp : Option Nat} {charged : Bool} {credit : Option Nat} {ctx : Option Nat} (hM : Moves d₀ e₀ mo mp) (hO : Mask.le objs_enterStore mo) (hP : Mask.le parts_enterStore mp) :
    Moves d₀ (e₀.enterStore p input f outs grp charged credit ctx) mo mp := by
  have O {a : Nat} (h : (a &&& objs_enterStore == a) = true) := Mask.le_trans h hO
  have P {a : Nat} (h : (a &&& parts_enterStore == a) = true) := Mask.le_trans h hP
  unfold Device.enterStore
  try simp only
  repeat' first
    | with_reducible exact hM
    | with_reducible exact Moves.refl ..
    | with_reducible refine Moves.newId ?_ (O (by decide)) (P (by decide))
    | with_reducible refine Moves.ecnMark ?_ (O (by decide)) (P (by decide))
    | with_reducible refine Moves.admitExtra ?_ (O (by decide)) (P (by decide))
    | with_reducible refine Moves.admitFirst ?_ (O (by decide)) (P (by decide))
    | with_reducible refine Moves.frameDone ?_ (O (by decide)) (P (by decide))
    | with_reducible refine Moves.setFrame ?_ (O (by decide)) (P (by decide))
    | with_reducible refine Moves.foldl ?_ (fun d a => ?_)
    | split
    | dsimp only

def objs_hold : Nat := 0x0
def parts_hold : Nat := 0x84000
theorem Moves.hold {p input : Nat} {f : Frame} {outs : List Nat} {grp : Option Nat} {ctx : Option Nat} (hM : Moves d₀ e₀ mo mp) (hO : Mask.le objs_hold mo) (hP : Mask.le parts_hold mp) :
    Moves d₀ (e₀.hold p input f outs grp ctx) mo mp := by
  have O {a : Nat} (h : (a &&& objs_hold == a) = true) := Mask.le_trans h hO
  have P {a : Nat} (h : (a &&& parts_hold == a) = true) := Mask.le_trans h hP
  have S {k : Nat} (h : parts_hold.testBit k = true) := Mask.bit h hP
  unfold Device.hold
  try simp only
  repeat' first
    | with_reducible exact hM
    | with_reducible exact Moves.refl ..
    | with_reducible refine Moves.with_waitIn ?_ (S (by decide))
    | with_reducible refine Moves.with_outs ?_ (S (by decide))
    | dsimp only

def objs_writeHeld : Nat := 0x3400000000000000000000000000000000001000000000000001180a88000000000000000000000000000000000000000000000000000000000000000000000000002000056800200000000
def parts_writeHeld : Nat := 0x10095eb1
theorem Moves.writeHeld {p input : Nat} (hM : Moves d₀ e₀ mo mp) (hO : Mask.le objs_writeHeld mo) (hP : Mask.le parts_writeHeld mp) :
    Moves d₀ (e₀.writeHeld p input) mo mp := by
  have O {a : Nat} (h : (a &&& objs_writeHeld == a) = true) := Mask.le_trans h hO
  have P {a : Nat} (h : (a &&& parts_writeHeld == a) = true) := Mask.le_trans h hP
  have S {k : Nat} (h : parts_writeHeld.testBit k = true) := Mask.bit h hP
  unfold Device.writeHeld
  try simp only
  repeat' first
    | with_reducible exact hM
    | with_reducible exact Moves.refl ..
    | with_reducible refine Moves.enterStore ?_ (O (by decide)) (P (by decide))
    | with_reducible refine Moves.ite (fun _ => ?_) (fun _ => ?_)
    | with_reducible refine Moves.ite1 (fun _ => ?_) (fun _ => ?_)
    | split
    | with_reducible refine Moves.with_waitIn ?_ (S (by decide))
    | dsimp only

def objs_moveParked : Nat := 0x3400000000000000000000000000000000000000000000000001180a88000000000000000000000000000000000000000000000000000000000000000000000000002000041000200000000
def parts_moveParked : Nat := 0x10081eb1
theorem Moves.moveParked {p r c : Nat} (hM : Moves d₀ e₀ mo mp) (hO : Mask.le objs_moveParked mo) (hP : Mask.le parts_moveParked mp) :
    Moves d₀ (e₀.moveParked p r c) mo mp := by
  have O {a : Nat} (h : (a &&& objs_moveParked == a) = true) := Mask.le_trans h hO
  have P {a : Nat} (h : (a &&& parts_moveParked == a) = true) := Mask.le_trans h hP
  have B {k : Nat} (h : objs_moveParked.testBit k = true) := Mask.bit h hO
  have S {k : Nat} (h : parts_moveParked.testBit k = true) := Mask.bit h hP
  unfold Device.moveParked
  try simp only
  repeat' first
    | with_reducible exact hM
    | with_reducible exact Moves.refl ..
    | with_reducible refine Moves.count ?_ (B (by decide)) (by decide) (S (by decide))
    | with_reducible refine Moves.newId ?_ (O (by decide)) (P (by decide))
    | with_reducible refine Moves.noteHigh ?_ (O (by decide)) (P (by decide))
    | with_reducible refine Moves.purge ?_ (O (by decide)) (P (by decide))
    | with_reducible refine Moves.setCopy ?_ (O (by decide)) (P (by decide))
    | with_reducible refine Moves.ite (fun _ => ?_) (fun _ => ?_)
    | with_reducible refine Moves.ite1 (fun _ => ?_) (fun _ => ?_)
    | split
    | dsimp only

def objs_makeDeferred : Nat := 0x3400000000000000000000000000000000001000000000000001180a88000000000000000000000000000000000000000000000000000000000000000000000000002000045000200000000
def parts_makeDeferred : Nat := 0x10081eb1
theorem Moves.makeDeferred {p r c : Nat} (hM : Moves d₀ e₀ mo mp) (hO : Mask.le objs_makeDeferred mo) (hP : Mask.le parts_makeDeferred mp) :
    Moves d₀ (e₀.makeDeferred p r c) mo mp := by
  have O {a : Nat} (h : (a &&& objs_makeDeferred == a) = true) := Mask.le_trans h hO
  have P {a : Nat} (h : (a &&& parts_makeDeferred == a) = true) := Mask.le_trans h hP
  have B {k : Nat} (h : objs_makeDeferred.testBit k = true) := Mask.bit h hO
  have S {k : Nat} (h : parts_makeDeferred.testBit k = true) := Mask.bit h hP
  unfold Device.makeDeferred
  try simp only
  repeat' first
    | with_reducible exact hM
    | with_reducible exact Moves.refl ..
    | with_reducible refine Moves.bump ?_ (B (by decide)) (by decide) (S (by decide))
    | with_reducible refine Moves.count ?_ (B (by decide)) (by decide) (S (by decide))
    | with_reducible refine Moves.newId ?_ (O (by decide)) (P (by decide))
    | with_reducible refine Moves.noteHigh ?_ (O (by decide)) (P (by decide))
    | with_reducible refine Moves.purge ?_ (O (by decide)) (P (by decide))
    | with_reducible refine Moves.tidyCopy ?_ (O (by decide)) (P (by decide))
    | with_reducible refine Moves.frameDone ?_ (O (by decide)) (P (by decide))
    | with_reducible refine Moves.tenantDrop ?_ (O (by decide)) (P (by decide))
    | with_reducible refine Moves.dropCopy ?_ (O (by decide)) (P (by decide))
    | with_reducible refine Moves.setCopy ?_ (O (by decide)) (P (by decide))
    | with_reducible refine Moves.foldl ?_ (fun d a => ?_)
    | with_reducible refine Moves.ite (fun _ => ?_) (fun _ => ?_)
    | with_reducible refine Moves.ite1 (fun _ => ?_) (fun _ => ?_)
    | split
    | dsimp only

def objs_flushOut : Nat := 0x3400000000000000000000000000000000000000000000000001180a88000000000000000000000000000000000000000000000000000000000000000000000000000000040000200000000
def parts_flushOut : Nat := 0x10081ea1
theorem Moves.flushOut {p o : Nat} (hM : Moves d₀ e₀ mo mp) (hO : Mask.le objs_flushOut mo) (hP : Mask.le parts_flushOut mp) :
    Moves d₀ (e₀.flushOut p o) mo mp := by
  have O {a : Nat} (h : (a &&& objs_flushOut == a) = true) := Mask.le_trans h hO
  have P {a : Nat} (h : (a &&& parts_flushOut == a) = true) := Mask.le_trans h hP
  unfold Device.flushOut
  try simp only
  repeat' first
    | with_reducible exact hM
    | with_reducible exact Moves.refl ..
    | with_reducible refine Moves.countGone ?_ (O (by decide)) (P (by decide))
    | with_reducible refine Moves.release ?_ (O (by decide)) (P (by decide))
    | with_reducible refine Moves.foldl ?_ (fun d a => ?_)
    | with_reducible refine Moves.ite (fun _ => ?_) (fun _ => ?_)
    | with_reducible refine Moves.ite1 (fun _ => ?_) (fun _ => ?_)
    | split
    | dsimp only


def objs_poolScrub : Nat := 0x4000000000000000000000
def parts_poolScrub : Nat := 0x100
theorem Moves.poolScrub {p ses : Nat} (hM : Moves d₀ e₀ mo mp) (hO : Mask.le objs_poolScrub mo) (hP : Mask.le parts_poolScrub mp) :
    Moves d₀ (e₀.poolScrub p ses) mo mp := by
  have O {a : Nat} (h : (a &&& objs_poolScrub == a) = true) := Mask.le_trans h hO
  have P {a : Nat} (h : (a &&& parts_poolScrub == a) = true) := Mask.le_trans h hP
  have B {k : Nat} (h : objs_poolScrub.testBit k = true) := Mask.bit h hO
  unfold Device.poolScrub
  try simp only
  repeat' first
    | with_reducible exact hM
    | with_reducible exact Moves.refl ..
    | with_reducible refine Moves.cmdReads ?_ (B (by dsimp only; decide)) (by dsimp only; decide)
    | with_reducible refine Moves.setPlane ?_ (O (by decide)) (P (by decide))
    | split
    | dsimp only

def objs_cxlTrained : Nat := 0x3400000000000000000000000000000000000000000000000000000000000000000000000000000000000000000000000000000000000000000000000000013800000000000000000000000
def parts_cxlTrained : Nat := 0x3a0
theorem Moves.cxlTrained {p width rate gib : Nat} (hM : Moves d₀ e₀ mo mp) (hO : Mask.le objs_cxlTrained mo) (hP : Mask.le parts_cxlTrained mp) :
    Moves d₀ (e₀.cxlTrained p width rate gib) mo mp := by
  have O {a : Nat} (h : (a &&& objs_cxlTrained == a) = true) := Mask.le_trans h hO
  have P {a : Nat} (h : (a &&& parts_cxlTrained == a) = true) := Mask.le_trans h hP
  have B {k : Nat} (h : objs_cxlTrained.testBit k = true) := Mask.bit h hO
  have S {k : Nat} (h : parts_cxlTrained.testBit k = true) := Mask.bit h hP
  unfold Device.cxlTrained
  try simp only
  repeat' first
    | with_reducible exact hM
    | with_reducible exact Moves.refl ..
    | with_reducible refine Moves.set ?_ (B (by first | decide | (split <;> decide))) (by first | decide | (split <;> decide))
    | with_reducible refine Moves.causeMemory ?_ (O (by decide)) (P (by decide))
    | with_reducible refine Moves.retuned ?_ (O (by decide)) (P (by decide))
    | with_reducible refine Moves.ite (fun _ => ?_) (fun _ => ?_)
    | with_reducible refine Moves.ite1 (fun _ => ?_) (fun _ => ?_)
    | split
    | dsimp only


def objs_ptpDepart : Nat := 0x0
def parts_ptpDepart : Nat := 0x400000
theorem Moves.ptpDepart {p o : Nat} {half : Int} {f : Frame} (hM : Moves d₀ e₀ mo mp) (hO : Mask.le objs_ptpDepart mo) (hP : Mask.le parts_ptpDepart mp) :
    Moves d₀ (e₀.ptpDepart p o half f).1 mo mp := by
  have O {a : Nat} (h : (a &&& objs_ptpDepart == a) = true) := Mask.le_trans h hO
  have P {a : Nat} (h : (a &&& parts_ptpDepart == a) = true) := Mask.le_trans h hP
  unfold Device.ptpDepart
  try simp only
  repeat' first
    | with_reducible exact hM
    | with_reducible exact Moves.refl ..
    | with_reducible refine Moves.setPd ?_ (O (by decide)) (P (by decide))
    | with_reducible refine Moves.ite (fun _ => ?_) (fun _ => ?_)
    | with_reducible refine Moves.ite1 (fun _ => ?_) (fun _ => ?_)
    | split
    | dsimp only

def objs_ptpCounts : Nat := 0x0
def parts_ptpCounts : Nat := 0x8
theorem Moves.ptpCounts {p domain : Nat} (hM : Moves d₀ e₀ mo mp) (hO : Mask.le objs_ptpCounts mo) (hP : Mask.le parts_ptpCounts mp) :
    Moves d₀ (e₀.ptpCounts p domain).1 mo mp := by
  have O {a : Nat} (h : (a &&& objs_ptpCounts == a) = true) := Mask.le_trans h hO
  have P {a : Nat} (h : (a &&& parts_ptpCounts == a) = true) := Mask.le_trans h hP
  unfold Device.ptpCounts
  try simp only
  repeat' first
    | with_reducible exact hM
    | with_reducible exact Moves.refl ..
    | with_reducible refine Moves.fresh ?_ (O (by decide)) (P (by decide))
    | split
    | dsimp only

theorem Moves.ptpCount {o : Obj} {p domain : Nat} (hM : Moves d₀ e₀ mo mp) (hb : mo.testBit o.ctorIdx = true) (hc : (o ≠ .cause))
    (hp : mp.testBit 0 = true) (hn : Mask.le objs_ptpCounts mo) (hq : Mask.le parts_ptpCounts mp) : Moves d₀ (e₀.ptpCount o p domain) mo mp := by
  unfold Device.ptpCount
  exact (hM.ptpCounts hn hq).bump hb hc hp

def objs_ptpTaken : Nat := 0x40000000000000000000000000000000000000000000000000000000000000000000000000000000000000000000000000000000000000
def parts_ptpTaken : Nat := 0x9
theorem Moves.ptpTaken {p : Nat} {f : Frame} (hM : Moves d₀ e₀ mo mp) (hO : Mask.le objs_ptpTaken mo) (hP : Mask.le parts_ptpTaken mp) :
    Moves d₀ (e₀.ptpTaken p f) mo mp := by
  have O {a : Nat} (h : (a &&& objs_ptpTaken == a) = true) := Mask.le_trans h hO
  have P {a : Nat} (h : (a &&& parts_ptpTaken == a) = true) := Mask.le_trans h hP
  have B {k : Nat} (h : objs_ptpTaken.testBit k = true) := Mask.bit h hO
  have S {k : Nat} (h : parts_ptpTaken.testBit k = true) := Mask.bit h hP
  unfold Device.ptpTaken
  try simp only
  repeat' first
    | with_reducible exact hM
    | with_reducible exact Moves.refl ..
    | with_reducible refine Moves.ptpCount ?_ (B (by decide)) (by decide) (S (by decide)) (O (by decide)) (P (by decide))
    | with_reducible refine Moves.ite (fun _ => ?_) (fun _ => ?_)
    | with_reducible refine Moves.ite1 (fun _ => ?_) (fun _ => ?_)
    | split
    | dsimp only


end Sys2Proof.Machine
end

