-- ==== Sys2Proof/Laws/MovesSwitch.lean ====
section
/-! SUPPORT. What the operations of fabric ports and the switch core can change: one lemma each. -/

namespace Sys2Proof.Machine

set_option linter.unusedSimpArgs false
set_option linter.unreachableTactic false
set_option linter.unusedTactic false
set_option linter.unusedVariables false
set_option linter.unnecessarySeqFocus false

variable {d₀ e₀ : Device} {mo mp : Nat}

def objs_toTail : Nat := 0x0
def parts_toTail : Nat := 0x80000
theorem Moves.toTail {p o c t : Nat} (hM : Moves d₀ e₀ mo mp) (hO : Mask.le objs_toTail mo) (hP : Mask.le parts_toTail mp) :
    Moves d₀ (e₀.toTail p o c t) mo mp := by
  have O {a : Nat} (h : (a &&& objs_toTail == a) = true) := Mask.le_trans h hO
  have P {a : Nat} (h : (a &&& parts_toTail == a) = true) := Mask.le_trans h hP
  unfold Device.toTail
  try simp only
  repeat' first
    | with_reducible exact hM
    | with_reducible exact Moves.refl ..
    | (refine Moves.getD ?_ (fun r hr => ?_))
    | with_reducible refine Moves.setOutp ?_ (O (by decide)) (P (by decide))
    | with_reducible refine Moves.ite (fun _ => ?_) (fun _ => ?_)
    | with_reducible refine Moves.ite1 (fun _ => ?_) (fun _ => ?_)
    | split
    | dsimp only

def objs_updateCredit : Nat := 0x0
def parts_updateCredit : Nat := 0x100000
theorem Moves.updateCredit {p o c t : Nat} {open_ : Bool} (hM : Moves d₀ e₀ mo mp) (hO : Mask.le objs_updateCredit mo) (hP : Mask.le parts_updateCredit mp) :
    Moves d₀ (e₀.updateCredit p o c t open_) mo mp := by
  have O {a : Nat} (h : (a &&& objs_updateCredit == a) = true) := Mask.le_trans h hO
  have P {a : Nat} (h : (a &&& parts_updateCredit == a) = true) := Mask.le_trans h hP
  unfold Device.updateCredit
  try simp only
  repeat' first
    | with_reducible exact hM
    | with_reducible exact Moves.refl ..
    | with_reducible refine Moves.setTq ?_ (O (by decide)) (P (by decide))
    | dsimp only

def objs_creditTick : Nat := 0x0
def parts_creditTick : Nat := 0x100000
theorem Moves.creditTick {p o : Nat} {open_ : Nat → Bool} (hM : Moves d₀ e₀ mo mp) (hO : Mask.le objs_creditTick mo) (hP : Mask.le parts_creditTick mp) :
    Moves d₀ (e₀.creditTick p o open_) mo mp := by
  have O {a : Nat} (h : (a &&& objs_creditTick == a) = true) := Mask.le_trans h hO
  have P {a : Nat} (h : (a &&& parts_creditTick == a) = true) := Mask.le_trans h hP
  unfold Device.creditTick
  try simp only
  repeat' first
    | with_reducible exact hM
    | with_reducible exact Moves.refl ..
    | with_reducible refine Moves.updateCredit ?_ (O (by decide)) (P (by decide))
    | with_reducible refine Moves.foldl ?_ (fun d a => ?_)
    | dsimp only

def objs_wakeQueue : Nat := 0x0
def parts_wakeQueue : Nat := 0x100000
theorem Moves.wakeQueue {p o c t at_ : Nat} (hM : Moves d₀ e₀ mo mp) (hO : Mask.le objs_wakeQueue mo) (hP : Mask.le parts_wakeQueue mp) :
    Moves d₀ (e₀.wakeQueue p o c t at_) mo mp := by
  have O {a : Nat} (h : (a &&& objs_wakeQueue == a) = true) := Mask.le_trans h hO
  have P {a : Nat} (h : (a &&& parts_wakeQueue == a) = true) := Mask.le_trans h hP
  unfold Device.wakeQueue
  try simp only
  repeat' first
    | with_reducible exact hM
    | with_reducible exact Moves.refl ..
    | with_reducible refine Moves.setTq ?_ (O (by decide)) (P (by decide))
    | with_reducible refine Moves.ite (fun _ => ?_) (fun _ => ?_)
    | with_reducible refine Moves.ite1 (fun _ => ?_) (fun _ => ?_)
    | split
    | dsimp only

def objs_svcUpdate : Nat := 0x0
def parts_svcUpdate : Nat := 0x180000
theorem Moves.svcUpdate {p o : Nat} (hM : Moves d₀ e₀ mo mp) (hO : Mask.le objs_svcUpdate mo) (hP : Mask.le parts_svcUpdate mp) :
    Moves d₀ (e₀.svcUpdate p o) mo mp := by
  have O {a : Nat} (h : (a &&& objs_svcUpdate == a) = true) := Mask.le_trans h hO
  have P {a : Nat} (h : (a &&& parts_svcUpdate == a) = true) := Mask.le_trans h hP
  unfold Device.svcUpdate
  try simp only
  repeat' first
    | with_reducible exact hM
    | with_reducible exact Moves.refl ..
    | (refine Moves.getD ?_ (fun r hr => ?_))
    | with_reducible refine Moves.setOutp ?_ (O (by decide)) (P (by decide))
    | with_reducible refine Moves.wakeQueue ?_ (O (by decide)) (P (by decide))
    | with_reducible refine Moves.foldl ?_ (fun d a => ?_)
    | with_reducible refine Moves.ite (fun _ => ?_) (fun _ => ?_)
    | with_reducible refine Moves.ite1 (fun _ => ?_) (fun _ => ?_)
    | split
    | dsimp only


def objs_requestHolds : Nat := 0x0
def parts_requestHolds : Nat := 0x80000
theorem Moves.requestHolds {p c : Nat} (hM : Moves d₀ e₀ mo mp) (hO : Mask.le objs_requestHolds mo) (hP : Mask.le parts_requestHolds mp) :
    Moves d₀ (e₀.requestHolds p c) mo mp := by
  have O {a : Nat} (h : (a &&& objs_requestHolds == a) = true) := Mask.le_trans h hO
  have P {a : Nat} (h : (a &&& parts_requestHolds == a) = true) := Mask.le_trans h hP
  unfold Device.requestHolds
  try simp only
  repeat' first
    | with_reducible exact hM
    | with_reducible exact Moves.refl ..
    | with_reducible refine Moves.setOutp ?_ (O (by decide)) (P (by decide))
    | with_reducible refine Moves.foldl ?_ (fun d a => ?_)
    | with_reducible refine Moves.ite (fun _ => ?_) (fun _ => ?_)
    | with_reducible refine Moves.ite1 (fun _ => ?_) (fun _ => ?_)
    | split
    | dsimp only

def objs_calHolds : Nat := 0x0
def parts_calHolds : Nat := 0x80000
theorem Moves.calHolds {p o : Nat} (hM : Moves d₀ e₀ mo mp) (hO : Mask.le objs_calHolds mo) (hP : Mask.le parts_calHolds mp) :
    Moves d₀ (e₀.calHolds p o) mo mp := by
  have O {a : Nat} (h : (a &&& objs_calHolds == a) = true) := Mask.le_trans h hO
  have P {a : Nat} (h : (a &&& parts_calHolds == a) = true) := Mask.le_trans h hP
  unfold Device.calHolds
  try simp only
  repeat' first
    | with_reducible exact hM
    | with_reducible exact Moves.refl ..
    | with_reducible refine Moves.requestHolds ?_ (O (by decide)) (P (by decide))
    | with_reducible refine Moves.ite (fun _ => ?_) (fun _ => ?_)
    | with_reducible refine Moves.ite1 (fun _ => ?_) (fun _ => ?_)
    | split
    | dsimp only


def objs_setPortState : Nat := 0x3400000000000000000000000000000000000000000000000001180a88000000000000000000000000000000000000000000000000000000000000000000000000000000000000000001800
def parts_setPortState : Nat := 0x101802a1
theorem Moves.setPortState {p n v : Nat} (hM : Moves d₀ e₀ mo mp) (hO : Mask.le objs_setPortState mo) (hP : Mask.le parts_setPortState mp) :
    Moves d₀ (e₀.setPortState p n v) mo mp := by
  have O {a : Nat} (h : (a &&& objs_setPortState == a) = true) := Mask.le_trans h hO
  have P {a : Nat} (h : (a &&& parts_setPortState == a) = true) := Mask.le_trans h hP
  have B {k : Nat} (h : objs_setPortState.testBit k = true) := Mask.bit h hO
  have S {k : Nat} (h : parts_setPortState.testBit k = true) := Mask.bit h hP
  unfold Device.setPortState
  try simp only
  repeat' first
    | with_reducible exact hM
    | with_reducible exact Moves.refl ..
    | with_reducible refine Moves.set ?_ (B (by first | decide | (split <;> decide))) (by first | decide | (split <;> decide))
    | with_reducible refine Moves.svcUpdate ?_ (O (by decide)) (P (by decide))
    | with_reducible refine Moves.calAbortPort ?_ (O (by decide)) (P (by decide))
    | with_reducible refine Moves.ite (fun _ => ?_) (fun _ => ?_)
    | with_reducible refine Moves.ite1 (fun _ => ?_) (fun _ => ?_)
    | split
    | dsimp only

def objs_forgetCredit : Nat := 0x0
def parts_forgetCredit : Nat := 0x800
theorem Moves.forgetCredit {p n : Nat} (hM : Moves d₀ e₀ mo mp) (hO : Mask.le objs_forgetCredit mo) (hP : Mask.le parts_forgetCredit mp) :
    Moves d₀ (e₀.forgetCredit p n) mo mp := by
  have O {a : Nat} (h : (a &&& objs_forgetCredit == a) = true) := Mask.le_trans h hO
  have P {a : Nat} (h : (a &&& parts_forgetCredit == a) = true) := Mask.le_trans h hP
  have S {k : Nat} (h : parts_forgetCredit.testBit k = true) := Mask.bit h hP
  unfold Device.forgetCredit
  try simp only
  repeat' first
    | with_reducible exact hM
    | with_reducible exact Moves.refl ..
    | with_reducible refine Moves.ite (fun _ => ?_) (fun _ => ?_)
    | with_reducible refine Moves.ite1 (fun _ => ?_) (fun _ => ?_)
    | split
    | with_reducible refine Moves.with_frames ?_ (S (by decide))
    | dsimp only

def objs_clearLink : Nat := 0x0
def parts_clearLink : Nat := 0xc00
theorem Moves.clearLink {p n : Nat} (hM : Moves d₀ e₀ mo mp) (hO : Mask.le objs_clearLink mo) (hP : Mask.le parts_clearLink mp) :
    Moves d₀ (e₀.clearLink p n) mo mp := by
  have O {a : Nat} (h : (a &&& objs_clearLink == a) = true) := Mask.le_trans h hO
  have P {a : Nat} (h : (a &&& parts_clearLink == a) = true) := Mask.le_trans h hP
  unfold Device.clearLink
  try simp only
  repeat' first
    | with_reducible exact hM
    | with_reducible exact Moves.refl ..
    | with_reducible refine Moves.setPort ?_ (O (by decide)) (P (by decide))
    | with_reducible refine Moves.forgetCredit ?_ (O (by decide)) (P (by decide))
    | dsimp only

def objs_discardPort : Nat := 0x3400000000000000000000000000000000000000000000000001180a88000000000000000000000000000000000000000000000000000000000000000000000000000000040000200000000
def parts_discardPort : Nat := 0x10081ea1
theorem Moves.discardPort {p n : Nat} (hM : Moves d₀ e₀ mo mp) (hO : Mask.le objs_discardPort mo) (hP : Mask.le parts_discardPort mp) :
    Moves d₀ (e₀.discardPort p n) mo mp := by
  have O {a : Nat} (h : (a &&& objs_discardPort == a) = true) := Mask.le_trans h hO
  have P {a : Nat} (h : (a &&& parts_discardPort == a) = true) := Mask.le_trans h hP
  have B {k : Nat} (h : objs_discardPort.testBit k = true) := Mask.bit h hO
  have S {k : Nat} (h : parts_discardPort.testBit k = true) := Mask.bit h hP
  unfold Device.discardPort
  try simp only
  repeat' first
    | with_reducible exact hM
    | with_reducible exact Moves.refl ..
    | with_reducible refine Moves.count ?_ (B (by decide)) (by decide) (S (by decide))
    | with_reducible refine Moves.flushOut ?_ (O (by decide)) (P (by decide))
    | dsimp only

def objs_leavePort : Nat := 0x3400000000000000000000000000000000000000000000000001180a88000000000000000000000000000000000000000000000000000000000000000000000000000000040000200001800
def parts_leavePort : Nat := 0x10181ea1
theorem Moves.leavePort {p n st : Nat} (hM : Moves d₀ e₀ mo mp) (hO : Mask.le objs_leavePort mo) (hP : Mask.le parts_leavePort mp) :
    Moves d₀ (e₀.leavePort p n st) mo mp := by
  have O {a : Nat} (h : (a &&& objs_leavePort == a) = true) := Mask.le_trans h hO
  have P {a : Nat} (h : (a &&& parts_leavePort == a) = true) := Mask.le_trans h hP
  unfold Device.leavePort
  try simp only
  repeat' first
    | with_reducible exact hM
    | with_reducible exact Moves.refl ..
    | with_reducible refine Moves.discardPort ?_ (O (by decide)) (P (by decide))
    | with_reducible refine Moves.clearLink ?_ (O (by decide)) (P (by decide))
    | with_reducible refine Moves.setPortState ?_ (O (by decide)) (P (by decide))
    | dsimp only

def objs_portFault : Nat := 0x340000001c000000002000000000000000000000000000000000000000000000000000000000000000000000000000000000000000080000000000000000000000c00000000000000000000
def parts_portFault : Nat := 0x80080c03a1
theorem Moves.portFault {p n : Nat} (hM : Moves d₀ e₀ mo mp) (hO : Mask.le objs_portFault mo) (hP : Mask.le parts_portFault mp) :
    Moves d₀ (e₀.portFault p n) mo mp := by
  have O {a : Nat} (h : (a &&& objs_portFault == a) = true) := Mask.le_trans h hO
  have P {a : Nat} (h : (a &&& parts_portFault == a) = true) := Mask.le_trans h hP
  unfold Device.portFault
  try simp only
  repeat' first
    | with_reducible exact hM
    | with_reducible exact Moves.refl ..
    | with_reducible refine Moves.chanFault ?_ (O (by decide)) (P (by decide))
    | with_reducible refine Moves.ite (fun _ => ?_) (fun _ => ?_)
    | with_reducible refine Moves.ite1 (fun _ => ?_) (fun _ => ?_)
    | split
    | dsimp only

def objs_retrain : Nat := 0x3400000000000000000000000000000000000000000000000001180a88000000000000000000000000000000000000000000000000000000000000000000000000000000040000200001800
def parts_retrain : Nat := 0x10181ea1
theorem Moves.retrain {p n : Nat} (hM : Moves d₀ e₀ mo mp) (hO : Mask.le objs_retrain mo) (hP : Mask.le parts_retrain mp) :
    Moves d₀ (e₀.retrain p n) mo mp := by
  have O {a : Nat} (h : (a &&& objs_retrain == a) = true) := Mask.le_trans h hO
  have P {a : Nat} (h : (a &&& parts_retrain == a) = true) := Mask.le_trans h hP
  unfold Device.retrain
  try simp only
  repeat' first
    | with_reducible exact hM
    | with_reducible exact Moves.refl ..
    | with_reducible refine Moves.leavePort ?_ (O (by decide)) (P (by decide))
    | with_reducible refine Moves.ite (fun _ => ?_) (fun _ => ?_)
    | with_reducible refine Moves.ite1 (fun _ => ?_) (fun _ => ?_)
    | split
    | dsimp only

def objs_laneRetrain : Nat := 0x340000001c000000002000000000000000000000000000000001180a88000000000000000000000000000000000000000000000000080000000000000000000000c00000000000000001800
def parts_laneRetrain : Nat := 0x80181c0fa1
theorem Moves.laneRetrain {p n : Nat} (hM : Moves d₀ e₀ mo mp) (hO : Mask.le objs_laneRetrain mo) (hP : Mask.le parts_laneRetrain mp) :
    Moves d₀ (e₀.laneRetrain p n) mo mp := by
  have O {a : Nat} (h : (a &&& objs_laneRetrain == a) = true) := Mask.le_trans h hO
  have P {a : Nat} (h : (a &&& parts_laneRetrain == a) = true) := Mask.le_trans h hP
  unfold Device.laneRetrain
  try simp only
  repeat' first
    | with_reducible exact hM
    | with_reducible exact Moves.refl ..
    | with_reducible refine Moves.setPort ?_ (O (by decide)) (P (by decide))
    | with_reducible refine Moves.portFault ?_ (O (by decide)) (P (by decide))
    | with_reducible refine Moves.forgetCredit ?_ (O (by decide)) (P (by decide))
    | with_reducible refine Moves.setPortState ?_ (O (by decide)) (P (by decide))
    | dsimp only

def objs_holdPort : Nat := 0x340000001c000000002000000000000000000000000000000001180a88000000000000000000000000000000000000000000000000080000000000000000000000c00000040000200001800
def parts_holdPort : Nat := 0x80181c1fa1
theorem Moves.holdPort {p n code : Nat} (hM : Moves d₀ e₀ mo mp) (hO : Mask.le objs_holdPort mo) (hP : Mask.le parts_holdPort mp) :
    Moves d₀ (e₀.holdPort p n code) mo mp := by
  have O {a : Nat} (h : (a &&& objs_holdPort == a) = true) := Mask.le_trans h hO
  have P {a : Nat} (h : (a &&& parts_holdPort == a) = true) := Mask.le_trans h hP
  unfold Device.holdPort
  try simp only
  repeat' first
    | with_reducible exact hM
    | with_reducible exact Moves.refl ..
    | with_reducible refine Moves.setPort ?_ (O (by decide)) (P (by decide))
    | with_reducible refine Moves.portFault ?_ (O (by decide)) (P (by decide))
    | with_reducible refine Moves.leavePort ?_ (O (by decide)) (P (by decide))
    | with_reducible refine Moves.ite (fun _ => ?_) (fun _ => ?_)
    | with_reducible refine Moves.ite1 (fun _ => ?_) (fun _ => ?_)
    | split
    | dsimp only

def objs_unholdPort : Nat := 0x0
def parts_unholdPort : Nat := 0x400
theorem Moves.unholdPort {p n code : Nat} (hM : Moves d₀ e₀ mo mp) (hO : Mask.le objs_unholdPort mo) (hP : Mask.le parts_unholdPort mp) :
    Moves d₀ (e₀.unholdPort p n code) mo mp := by
  have O {a : Nat} (h : (a &&& objs_unholdPort == a) = true) := Mask.le_trans h hO
  have P {a : Nat} (h : (a &&& parts_unholdPort == a) = true) := Mask.le_trans h hP
  unfold Device.unholdPort
  try simp only
  repeat' first
    | with_reducible exact hM
    | with_reducible exact Moves.refl ..
    | with_reducible refine Moves.setPort ?_ (O (by decide)) (P (by decide))
    | dsimp only

def objs_toExchange : Nat := 0x3400000000000000000000000000000000000000000000000001180a88000000000000000000000000000000000000000000000000000000000000000000000000000000000000000001800
def parts_toExchange : Nat := 0x101802a1
theorem Moves.toExchange {p n : Nat} (hM : Moves d₀ e₀ mo mp) (hO : Mask.le objs_toExchange mo) (hP : Mask.le parts_toExchange mp) :
    Moves d₀ (e₀.toExchange p n) mo mp := by
  have O {a : Nat} (h : (a &&& objs_toExchange == a) = true) := Mask.le_trans h hO
  have P {a : Nat} (h : (a &&& parts_toExchange == a) = true) := Mask.le_trans h hP
  unfold Device.toExchange
  try simp only
  repeat' first
    | with_reducible exact hM
    | with_reducible exact Moves.refl ..
    | with_reducible refine Moves.setPortState ?_ (O (by decide)) (P (by decide))
    | with_reducible refine Moves.ite (fun _ => ?_) (fun _ => ?_)
    | with_reducible refine Moves.ite1 (fun _ => ?_) (fun _ => ?_)
    | split
    | dsimp only

def objs_tryUp : Nat := 0x3400000000000000000000000000000000000000000000000001180a88000000000000000000000000000000000000000000000000000000000000000000000000000000000000000085800
def parts_tryUp : Nat := 0x181807a1
theorem Moves.tryUp {p n : Nat} (hM : Moves d₀ e₀ mo mp) (hO : Mask.le objs_tryUp mo) (hP : Mask.le parts_tryUp mp) :
    Moves d₀ (e₀.tryUp p n) mo mp := by
  have O {a : Nat} (h : (a &&& objs_tryUp == a) = true) := Mask.le_trans h hO
  have P {a : Nat} (h : (a &&& parts_tryUp == a) = true) := Mask.le_trans h hP
  have B {k : Nat} (h : objs_tryUp.testBit k = true) := Mask.bit h hO
  have S {k : Nat} (h : parts_tryUp.testBit k = true) := Mask.bit h hP
  unfold Device.tryUp
  try simp only
  repeat' first
    | with_reducible exact hM
    | with_reducible exact Moves.refl ..
    | with_reducible refine Moves.set ?_ (B (by first | decide | (split <;> decide))) (by first | decide | (split <;> decide))
    | with_reducible refine Moves.setPort ?_ (O (by decide)) (P (by decide))
    | with_reducible refine Moves.setPortState ?_ (O (by decide)) (P (by decide))
    | with_reducible refine Moves.chanClear ?_ (O (by decide)) (P (by decide))
    | with_reducible refine Moves.retuned ?_ (O (by decide)) (P (by decide))
    | with_reducible refine Moves.foldl ?_ (fun d a => ?_)
    | with_reducible refine Moves.ite (fun _ => ?_) (fun _ => ?_)
    | with_reducible refine Moves.ite1 (fun _ => ?_) (fun _ => ?_)
    | split
    | dsimp only

def objs_lightSeen : Nat := 0x80000000000000000000000000000000000000000000000000000000000000000000000000000000000000000000000000
def parts_lightSeen : Nat := 0x10000008
theorem Moves.lightSeen {p n : Nat} (hM : Moves d₀ e₀ mo mp) (hO : Mask.le objs_lightSeen mo) (hP : Mask.le parts_lightSeen mp) :
    Moves d₀ (e₀.lightSeen p n) mo mp := by
  have O {a : Nat} (h : (a &&& objs_lightSeen == a) = true) := Mask.le_trans h hO
  have P {a : Nat} (h : (a &&& parts_lightSeen == a) = true) := Mask.le_trans h hP
  have B {k : Nat} (h : objs_lightSeen.testBit k = true) := Mask.bit h hO
  have S {k : Nat} (h : parts_lightSeen.testBit k = true) := Mask.bit h hP
  unfold Device.lightSeen
  try simp only
  repeat' first
    | with_reducible exact hM
    | with_reducible exact Moves.refl ..
    | with_reducible refine Moves.set ?_ (B (by decide)) (by decide)
    | with_reducible refine Moves.fresh ?_ (O (by decide)) (P (by decide))
    | with_reducible refine Moves.setCal ?_ (O (by decide)) (P (by decide))
    | with_reducible refine Moves.foldl ?_ (fun d a => ?_)
    | with_reducible refine Moves.ite (fun _ => ?_) (fun _ => ?_)
    | with_reducible refine Moves.ite1 (fun _ => ?_) (fun _ => ?_)
    | split
    | dsimp only

def objs_cdrLock : Nat := 0x3400000000000000000000000000000000000000000000000001180a88000000000000000000000000000000000000000000000000000000000000000000000000000000000000000001800
def parts_cdrLock : Nat := 0x101802a9
theorem Moves.cdrLock {p n : Nat} (hM : Moves d₀ e₀ mo mp) (hO : Mask.le objs_cdrLock mo) (hP : Mask.le parts_cdrLock mp) :
    Moves d₀ (e₀.cdrLock p n) mo mp := by
  have O {a : Nat} (h : (a &&& objs_cdrLock == a) = true) := Mask.le_trans h hO
  have P {a : Nat} (h : (a &&& parts_cdrLock == a) = true) := Mask.le_trans h hP
  unfold Device.cdrLock
  try simp only
  repeat' first
    | with_reducible exact hM
    | with_reducible exact Moves.refl ..
    | with_reducible refine Moves.lightSeen ?_ (O (by decide)) (P (by decide))
    | with_reducible refine Moves.setPortState ?_ (O (by decide)) (P (by decide))
    | with_reducible refine Moves.ite (fun _ => ?_) (fun _ => ?_)
    | with_reducible refine Moves.ite1 (fun _ => ?_) (fun _ => ?_)
    | split
    | dsimp only

def objs_fecLock : Nat := 0x3400000000000000000000000000000000000000000000000001180a88000000000000000000000000000000000000000000000000000000000000000000000000000000000000000001800
def parts_fecLock : Nat := 0x101806a1
theorem Moves.fecLock {p n : Nat} (hM : Moves d₀ e₀ mo mp) (hO : Mask.le objs_fecLock mo) (hP : Mask.le parts_fecLock mp) :
    Moves d₀ (e₀.fecLock p n) mo mp := by
  have O {a : Nat} (h : (a &&& objs_fecLock == a) = true) := Mask.le_trans h hO
  have P {a : Nat} (h : (a &&& parts_fecLock == a) = true) := Mask.le_trans h hP
  unfold Device.fecLock
  try simp only
  repeat' first
    | with_reducible exact hM
    | with_reducible exact Moves.refl ..
    | with_reducible refine Moves.setPort ?_ (O (by decide)) (P (by decide))
    | with_reducible refine Moves.setPortState ?_ (O (by decide)) (P (by decide))
    | with_reducible refine Moves.ite (fun _ => ?_) (fun _ => ?_)
    | with_reducible refine Moves.ite1 (fun _ => ?_) (fun _ => ?_)
    | split
    | dsimp only

def objs_trainTx : Nat := 0x3400000000000000000000000000000000000000000000000001180a88000000000000000000000000000000000000000000000000000000000000000000000000000000000000000085800
def parts_trainTx : Nat := 0x181807a1
theorem Moves.trainTx {p n : Nat} (hM : Moves d₀ e₀ mo mp) (hO : Mask.le objs_trainTx mo) (hP : Mask.le parts_trainTx mp) :
    Moves d₀ (e₀.trainTx p n) mo mp := by
  have O {a : Nat} (h : (a &&& objs_trainTx == a) = true) := Mask.le_trans h hO
  have P {a : Nat} (h : (a &&& parts_trainTx == a) = true) := Mask.le_trans h hP
  unfold Device.trainTx
  try simp only
  repeat' first
    | with_reducible exact hM
    | with_reducible exact Moves.refl ..
    | with_reducible refine Moves.emit ?_ (O (by decide)) (P (by decide))
    | with_reducible refine Moves.setPort ?_ (O (by decide)) (P (by decide))
    | with_reducible refine Moves.tryUp ?_ (O (by decide)) (P (by decide))
    | with_reducible refine Moves.toExchange ?_ (O (by decide)) (P (by decide))
    | with_reducible refine Moves.calAbortPort ?_ (O (by decide)) (P (by decide))
    | with_reducible refine Moves.ite (fun _ => ?_) (fun _ => ?_)
    | with_reducible refine Moves.ite1 (fun _ => ?_) (fun _ => ?_)
    | split
    | dsimp only

def objs_linkChecks : Nat := 0x340000000000000000000000000000000000000000000000000000000000000000000000000000000000000000000000000000000000000000000000000000000000000000000080c000000
def parts_linkChecks : Nat := 0x2a1
theorem Moves.linkChecks {p n : Nat} {f : Frame} {len : Nat} {ctrl : Bool} (hM : Moves d₀ e₀ mo mp) (hO : Mask.le objs_linkChecks mo) (hP : Mask.le parts_linkChecks mp) :
    Moves d₀ (e₀.linkChecks p n f len ctrl).1 mo mp := by
  have O {a : Nat} (h : (a &&& objs_linkChecks == a) = true) := Mask.le_trans h hO
  have P {a : Nat} (h : (a &&& parts_linkChecks == a) = true) := Mask.le_trans h hP
  have B {k : Nat} (h : objs_linkChecks.testBit k = true) := Mask.bit h hO
  have S {k : Nat} (h : parts_linkChecks.testBit k = true) := Mask.bit h hP
  unfold Device.linkChecks
  try simp only
  repeat' first
    | with_reducible exact hM
    | with_reducible exact Moves.refl ..
    | with_reducible refine Moves.bump ?_ (B (by decide)) (by decide) (S (by decide))
    | with_reducible refine Moves.causeFabric ?_ (O (by decide)) (P (by decide))
    | with_reducible refine Moves.ite (fun _ => ?_) (fun _ => ?_)
    | with_reducible refine Moves.ite1 (fun _ => ?_) (fun _ => ?_)
    | split
    | dsimp only

def objs_trainRx : Nat := 0x3400000000000000000000000000000000000000000000000001180a88000000000000000000000000000000000000000000000000000000000000000000000000000000000000000085800
def parts_trainRx : Nat := 0x181807a1
theorem Moves.trainRx {p n : Nat} {f : Frame} (hM : Moves d₀ e₀ mo mp) (hO : Mask.le objs_trainRx mo) (hP : Mask.le parts_trainRx mp) :
    Moves d₀ (e₀.trainRx p n f) mo mp := by
  have O {a : Nat} (h : (a &&& objs_trainRx == a) = true) := Mask.le_trans h hO
  have P {a : Nat} (h : (a &&& parts_trainRx == a) = true) := Mask.le_trans h hP
  unfold Device.trainRx
  try simp only
  repeat' first
    | with_reducible exact hM
    | with_reducible exact Moves.refl ..
    | with_reducible refine Moves.setPort ?_ (O (by decide)) (P (by decide))
    | with_reducible refine Moves.causeFabric ?_ (O (by decide)) (P (by decide))
    | with_reducible refine Moves.tryUp ?_ (O (by decide)) (P (by decide))
    | with_reducible refine Moves.ite (fun _ => ?_) (fun _ => ?_)
    | with_reducible refine Moves.ite1 (fun _ => ?_) (fun _ => ?_)
    | split
    | dsimp only

def objs_ctrlRx : Nat := 0x340000001c000000002000000000000000000000000000000001180a88000000000000000000000000000000000000000000000000080000000000000000000000c00000040000a0c085800
def parts_ctrlRx : Nat := 0x80181c1fa1
theorem Moves.ctrlRx {p n : Nat} {f : Frame} (hM : Moves d₀ e₀ mo mp) (hO : Mask.le objs_ctrlRx mo) (hP : Mask.le parts_ctrlRx mp) :
    Moves d₀ (e₀.ctrlRx p n f) mo mp := by
  have O {a : Nat} (h : (a &&& objs_ctrlRx == a) = true) := Mask.le_trans h hO
  have P {a : Nat} (h : (a &&& parts_ctrlRx == a) = true) := Mask.le_trans h hP
  unfold Device.ctrlRx
  try simp only
  repeat' first
    | with_reducible exact hM
    | with_reducible exact Moves.refl ..
    | with_reducible refine Moves.setPort ?_ (O (by decide)) (P (by decide))
    | with_reducible refine Moves.trainRx ?_ (O (by decide)) (P (by decide))
    | with_reducible refine Moves.linkChecks ?_ (O (by decide)) (P (by decide))
    | with_reducible refine Moves.toExchange ?_ (O (by decide)) (P (by decide))
    | with_reducible refine Moves.portFault ?_ (O (by decide)) (P (by decide))
    | with_reducible refine Moves.leavePort ?_ (O (by decide)) (P (by decide))
    | with_reducible refine Moves.startBlock ?_ (O (by decide)) (P (by decide))
    | with_reducible refine Moves.ite (fun _ => ?_) (fun _ => ?_)
    | with_reducible refine Moves.ite1 (fun _ => ?_) (fun _ => ?_)
    | split
    | dsimp only

def objs_trainingTimeout : Nat := 0x3400000000000000000000000000000000000000000000000001180a88000000000000000000000000000000000000000000000000000000000000000000000000000000040008200001800
def parts_trainingTimeout : Nat := 0x10181ea1
theorem Moves.trainingTimeout {p n : Nat} (hM : Moves d₀ e₀ mo mp) (hO : Mask.le objs_trainingTimeout mo) (hP : Mask.le parts_trainingTimeout mp) :
    Moves d₀ (e₀.trainingTimeout p n) mo mp := by
  have O {a : Nat} (h : (a &&& objs_trainingTimeout == a) = true) := Mask.le_trans h hO
  have P {a : Nat} (h : (a &&& parts_trainingTimeout == a) = true) := Mask.le_trans h hP
  have B {k : Nat} (h : objs_trainingTimeout.testBit k = true) := Mask.bit h hO
  have S {k : Nat} (h : parts_trainingTimeout.testBit k = true) := Mask.bit h hP
  unfold Device.trainingTimeout
  try simp only
  repeat' first
    | with_reducible exact hM
    | with_reducible exact Moves.refl ..
    | with_reducible refine Moves.bump ?_ (B (by decide)) (by decide) (S (by decide))
    | with_reducible refine Moves.setPort ?_ (O (by decide)) (P (by decide))
    | with_reducible refine Moves.causeFabric ?_ (O (by decide)) (P (by decide))
    | with_reducible refine Moves.leavePort ?_ (O (by decide)) (P (by decide))
    | with_reducible refine Moves.ite (fun _ => ?_) (fun _ => ?_)
    | with_reducible refine Moves.ite1 (fun _ => ?_) (fun _ => ?_)
    | split
    | dsimp only

def objs_trainingRetry : Nat := 0x3400000000000000000000000000000000000000000000000001180a88000000000000000000000000000000000000000000000000000000000000000000000000000000000000000001800
def parts_trainingRetry : Nat := 0x10180ea1
theorem Moves.trainingRetry {p n : Nat} (hM : Moves d₀ e₀ mo mp) (hO : Mask.le objs_trainingRetry mo) (hP : Mask.le parts_trainingRetry mp) :
    Moves d₀ (e₀.trainingRetry p n) mo mp := by
  have O {a : Nat} (h : (a &&& objs_trainingRetry == a) = true) := Mask.le_trans h hO
  have P {a : Nat} (h : (a &&& parts_trainingRetry == a) = true) := Mask.le_trans h hP
  unfold Device.trainingRetry
  try simp only
  repeat' first
    | with_reducible exact hM
    | with_reducible exact Moves.refl ..
    | with_reducible refine Moves.clearLink ?_ (O (by decide)) (P (by decide))
    | with_reducible refine Moves.setPortState ?_ (O (by decide)) (P (by decide))
    | with_reducible refine Moves.ite (fun _ => ?_) (fun _ => ?_)
    | with_reducible refine Moves.ite1 (fun _ => ?_) (fun _ => ?_)
    | split
    | dsimp only

def objs_applyAck : Nat := 0x0
def parts_applyAck : Nat := 0x1400
theorem Moves.applyAck {p n m : Nat} (hM : Moves d₀ e₀ mo mp) (hO : Mask.le objs_applyAck mo) (hP : Mask.le parts_applyAck mp) :
    Moves d₀ (e₀.applyAck p n m) mo mp := by
  have O {a : Nat} (h : (a &&& objs_applyAck == a) = true) := Mask.le_trans h hO
  have P {a : Nat} (h : (a &&& parts_applyAck == a) = true) := Mask.le_trans h hP
  unfold Device.applyAck
  try simp only
  repeat' first
    | with_reducible exact hM
    | with_reducible exact Moves.refl ..
    | with_reducible refine Moves.setPort ?_ (O (by decide)) (P (by decide))
    | with_reducible refine Moves.markDue ?_ (O (by decide)) (P (by decide))
    | with_reducible refine Moves.foldl ?_ (fun d a => ?_)
    | split
    | dsimp only

def objs_resendFrom : Nat := 0x340000001c000000002000000000000000000000000000000001180a88000000000000000000000000000000000000000000000000080000000000000000000000c00000240000300001800
def parts_resendFrom : Nat := 0x80181c1fa1
theorem Moves.resendFrom {p n k : Nat} (hM : Moves d₀ e₀ mo mp) (hO : Mask.le objs_resendFrom mo) (hP : Mask.le parts_resendFrom mp) :
    Moves d₀ (e₀.resendFrom p n k) mo mp := by
  have O {a : Nat} (h : (a &&& objs_resendFrom == a) = true) := Mask.le_trans h hO
  have P {a : Nat} (h : (a &&& parts_resendFrom == a) = true) := Mask.le_trans h hP
  have B {k : Nat} (h : objs_resendFrom.testBit k = true) := Mask.bit h hO
  have S {k : Nat} (h : parts_resendFrom.testBit k = true) := Mask.bit h hP
  unfold Device.resendFrom
  try simp only
  repeat' first
    | with_reducible exact hM
    | with_reducible exact Moves.refl ..
    | with_reducible refine Moves.bump ?_ (B (by decide)) (by decide) (S (by decide))
    | with_reducible refine Moves.setPort ?_ (O (by decide)) (P (by decide))
    | with_reducible refine Moves.causeFabric ?_ (O (by decide)) (P (by decide))
    | with_reducible refine Moves.retrain ?_ (O (by decide)) (P (by decide))
    | with_reducible refine Moves.portFault ?_ (O (by decide)) (P (by decide))
    | with_reducible refine Moves.ite (fun _ => ?_) (fun _ => ?_)
    | with_reducible refine Moves.ite1 (fun _ => ?_) (fun _ => ?_)
    | split
    | dsimp only

def objs_creditRx : Nat := 0x3400000000000000000000000000000000000000000000000001180a8800000000000000000000000000000000000000000000000000000000000000000000000000000000000080c000000
def parts_creditRx : Nat := 0x101816a1
theorem Moves.creditRx {p n : Nat} {f : Frame} (hM : Moves d₀ e₀ mo mp) (hO : Mask.le objs_creditRx mo) (hP : Mask.le parts_creditRx mp) :
    Moves d₀ (e₀.creditRx p n f) mo mp := by
  have O {a : Nat} (h : (a &&& objs_creditRx == a) = true) := Mask.le_trans h hO
  have P {a : Nat} (h : (a &&& parts_creditRx == a) = true) := Mask.le_trans h hP
  unfold Device.creditRx
  try simp only
  repeat' first
    | with_reducible exact hM
    | with_reducible exact Moves.refl ..
    | with_reducible refine Moves.setPort ?_ (O (by decide)) (P (by decide))
    | with_reducible refine Moves.applyAck ?_ (O (by decide)) (P (by decide))
    | with_reducible refine Moves.linkChecks ?_ (O (by decide)) (P (by decide))
    | with_reducible refine Moves.svcUpdate ?_ (O (by decide)) (P (by decide))
    | with_reducible refine Moves.startBlock ?_ (O (by decide)) (P (by decide))
    | with_reducible refine Moves.ite (fun _ => ?_) (fun _ => ?_)
    | with_reducible refine Moves.ite1 (fun _ => ?_) (fun _ => ?_)
    | split
    | dsimp only

def objs_creditTimer : Nat := 0x3400000000000000000000000000000000000000000000000001180a88000000000000000000000000000000000000000000000000000000000000000000000000000000000000000000000
def parts_creditTimer : Nat := 0x100806a1
theorem Moves.creditTimer {p n : Nat} (hM : Moves d₀ e₀ mo mp) (hO : Mask.le objs_creditTimer mo) (hP : Mask.le parts_creditTimer mp) :
    Moves d₀ (e₀.creditTimer p n) mo mp := by
  have O {a : Nat} (h : (a &&& objs_creditTimer == a) = true) := Mask.le_trans h hO
  have P {a : Nat} (h : (a &&& parts_creditTimer == a) = true) := Mask.le_trans h hP
  unfold Device.creditTimer
  try simp only
  repeat' first
    | with_reducible exact hM
    | with_reducible exact Moves.refl ..
    | with_reducible refine Moves.sendCredit ?_ (O (by decide)) (P (by decide))
    | with_reducible refine Moves.ite (fun _ => ?_) (fun _ => ?_)
    | with_reducible refine Moves.ite1 (fun _ => ?_) (fun _ => ?_)
    | split
    | dsimp only

def objs_nakRx : Nat := 0x340000001c000000002000000000000000000000000000000001180a88000000000000000000000000000000000000000000000000080000000000000000000000c00000240000b8c001800
def parts_nakRx : Nat := 0x80181c1fa1
theorem Moves.nakRx {p n : Nat} {f : Frame} (hM : Moves d₀ e₀ mo mp) (hO : Mask.le objs_nakRx mo) (hP : Mask.le parts_nakRx mp) :
    Moves d₀ (e₀.nakRx p n f) mo mp := by
  have O {a : Nat} (h : (a &&& objs_nakRx == a) = true) := Mask.le_trans h hO
  have P {a : Nat} (h : (a &&& parts_nakRx == a) = true) := Mask.le_trans h hP
  have B {k : Nat} (h : objs_nakRx.testBit k = true) := Mask.bit h hO
  have S {k : Nat} (h : parts_nakRx.testBit k = true) := Mask.bit h hP
  unfold Device.nakRx
  try simp only
  repeat' first
    | with_reducible exact hM
    | with_reducible exact Moves.refl ..
    | with_reducible refine Moves.bump ?_ (B (by decide)) (by decide) (S (by decide))
    | with_reducible refine Moves.resendFrom ?_ (O (by decide)) (P (by decide))
    | with_reducible refine Moves.linkChecks ?_ (O (by decide)) (P (by decide))
    | with_reducible refine Moves.startBlock ?_ (O (by decide)) (P (by decide))
    | with_reducible refine Moves.ite (fun _ => ?_) (fun _ => ?_)
    | with_reducible refine Moves.ite1 (fun _ => ?_) (fun _ => ?_)
    | split
    | dsimp only

def objs_ackTimeout : Nat := 0x340000001c000000002000000000000000000000000000000001180a88000000000000000000000000000000000000000000000000080000000000000000000000c00000240000300001800
def parts_ackTimeout : Nat := 0x80181c1fa1
theorem Moves.ackTimeout {p n : Nat} (hM : Moves d₀ e₀ mo mp) (hO : Mask.le objs_ackTimeout mo) (hP : Mask.le parts_ackTimeout mp) :
    Moves d₀ (e₀.ackTimeout p n) mo mp := by
  have O {a : Nat} (h : (a &&& objs_ackTimeout == a) = true) := Mask.le_trans h hO
  have P {a : Nat} (h : (a &&& parts_ackTimeout == a) = true) := Mask.le_trans h hP
  unfold Device.ackTimeout
  try simp only
  repeat' first
    | with_reducible exact hM
    | with_reducible exact Moves.refl ..
    | with_reducible refine Moves.resendFrom ?_ (O (by decide)) (P (by decide))
    | with_reducible refine Moves.ite (fun _ => ?_) (fun _ => ?_)
    | with_reducible refine Moves.ite1 (fun _ => ?_) (fun _ => ?_)
    | split
    | dsimp only

def objs_transmit : Nat := 0xc00000
def parts_transmit : Nat := 0x10481421
theorem Moves.transmit {p n id : Nat} {stomped : Bool} (hM : Moves d₀ e₀ mo mp) (hO : Mask.le objs_transmit mo) (hP : Mask.le parts_transmit mp) :
    Moves d₀ (e₀.transmit p n id stomped) mo mp := by
  have O {a : Nat} (h : (a &&& objs_transmit == a) = true) := Mask.le_trans h hO
  have P {a : Nat} (h : (a &&& parts_transmit == a) = true) := Mask.le_trans h hP
  have B {k : Nat} (h : objs_transmit.testBit k = true) := Mask.bit h hO
  have S {k : Nat} (h : parts_transmit.testBit k = true) := Mask.bit h hP
  unfold Device.transmit
  try simp only
  repeat' first
    | with_reducible exact hM
    | with_reducible exact Moves.refl ..
    | with_reducible refine Moves.bump ?_ (B (by decide)) (by decide) (S (by decide))
    | with_reducible refine Moves.count ?_ (B (by decide)) (by decide) (S (by decide))
    | with_reducible refine Moves.emit ?_ (O (by decide)) (P (by decide))
    | with_reducible refine Moves.setPort ?_ (O (by decide)) (P (by decide))
    | with_reducible refine Moves.ptpDepart ?_ (O (by decide)) (P (by decide))
    | with_reducible refine Moves.setCopy ?_ (O (by decide)) (P (by decide))
    | with_reducible refine Moves.notIdle ?_ (O (by decide)) (P (by decide))
    | with_reducible refine Moves.ite (fun _ => ?_) (fun _ => ?_)
    | with_reducible refine Moves.ite1 (fun _ => ?_) (fun _ => ?_)
    | split
    | dsimp only

def objs_again : Nat := 0x0
def parts_again : Nat := 0x400000
theorem Moves.again {p n : Nat} {u : Unacked} {q : Nat} (hM : Moves d₀ e₀ mo mp) (hO : Mask.le objs_again mo) (hP : Mask.le parts_again mp) :
    Moves d₀ (e₀.again p n u q).1 mo mp := by
  have O {a : Nat} (h : (a &&& objs_again == a) = true) := Mask.le_trans h hO
  have P {a : Nat} (h : (a &&& parts_again == a) = true) := Mask.le_trans h hP
  unfold Device.again
  try simp only
  repeat' first
    | with_reducible exact hM
    | with_reducible exact Moves.refl ..
    | with_reducible refine Moves.ptpDepart ?_ (O (by decide)) (P (by decide))
    | with_reducible refine Moves.ite (fun _ => ?_) (fun _ => ?_)
    | with_reducible refine Moves.ite1 (fun _ => ?_) (fun _ => ?_)
    | split
    | dsimp only

def objs_sendResend : Nat := 0x3400000000000000000000000000000000000000000000000001180a88000000000000000000000000000000000000000000000000000000000000000000000000000000000000040000000
def parts_sendResend : Nat := 0x104806a1
theorem Moves.sendResend {p n : Nat} (hM : Moves d₀ e₀ mo mp) (hO : Mask.le objs_sendResend mo) (hP : Mask.le parts_sendResend mp) :
    Moves d₀ (e₀.sendResend p n) mo mp := by
  have O {a : Nat} (h : (a &&& objs_sendResend == a) = true) := Mask.le_trans h hO
  have P {a : Nat} (h : (a &&& parts_sendResend == a) = true) := Mask.le_trans h hP
  have B {k : Nat} (h : objs_sendResend.testBit k = true) := Mask.bit h hO
  have S {k : Nat} (h : parts_sendResend.testBit k = true) := Mask.bit h hP
  unfold Device.sendResend
  try simp only
  repeat' first
    | with_reducible exact hM
    | with_reducible exact Moves.refl ..
    | with_reducible refine Moves.bump ?_ (B (by decide)) (by decide) (S (by decide))
    | with_reducible refine Moves.emit ?_ (O (by decide)) (P (by decide))
    | with_reducible refine Moves.setPort ?_ (O (by decide)) (P (by decide))
    | with_reducible refine Moves.again ?_ (O (by decide)) (P (by decide))
    | with_reducible refine Moves.notIdle ?_ (O (by decide)) (P (by decide))
    | with_reducible refine Moves.calAbortPort ?_ (O (by decide)) (P (by decide))
    | with_reducible refine Moves.ite (fun _ => ?_) (fun _ => ?_)
    | with_reducible refine Moves.ite1 (fun _ => ?_) (fun _ => ?_)
    | split
    | dsimp only

def objs_portAdmin : Nat := 0x340000000000000000000000002b800000000000000000000001180a88000000000000000000000000000000000000000000000000000000000000000000000000000000040000200001c00
def parts_portAdmin : Nat := 0x10181ea1
theorem Moves.portAdmin {p n v : Nat} (hM : Moves d₀ e₀ mo mp) (hO : Mask.le objs_portAdmin mo) (hP : Mask.le parts_portAdmin mp) :
    Moves d₀ (e₀.portAdmin p n v).1 mo mp := by
  have O {a : Nat} (h : (a &&& objs_portAdmin == a) = true) := Mask.le_trans h hO
  have P {a : Nat} (h : (a &&& parts_portAdmin == a) = true) := Mask.le_trans h hP
  have B {k : Nat} (h : objs_portAdmin.testBit k = true) := Mask.bit h hO
  unfold Device.portAdmin
  try simp only
  repeat' first
    | with_reducible exact hM
    | with_reducible exact Moves.refl ..
    | with_reducible refine Moves.store ?_ (B (by first | decide | (split <;> decide))) (by decide) (O (by decide)) (P (by decide))
    | with_reducible refine Moves.leavePort ?_ (O (by decide)) (P (by decide))
    | with_reducible refine Moves.ite (fun _ => ?_) (fun _ => ?_)
    | with_reducible refine Moves.ite1 (fun _ => ?_) (fun _ => ?_)
    | split
    | dsimp only

def objs_trainCmd : Nat := 0x3400000000000000000000000000000000000000000000000001180a88000000000000000000000000000000000000000000000000000000000000000000000000000000040000200081800
def parts_trainCmd : Nat := 0x10181ea1
theorem Moves.trainCmd {p n : Nat} (hM : Moves d₀ e₀ mo mp) (hO : Mask.le objs_trainCmd mo) (hP : Mask.le parts_trainCmd mp) :
    Moves d₀ (e₀.trainCmd p n) mo mp := by
  have O {a : Nat} (h : (a &&& objs_trainCmd == a) = true) := Mask.le_trans h hO
  have P {a : Nat} (h : (a &&& parts_trainCmd == a) = true) := Mask.le_trans h hP
  have B {k : Nat} (h : objs_trainCmd.testBit k = true) := Mask.bit h hO
  have S {k : Nat} (h : parts_trainCmd.testBit k = true) := Mask.bit h hP
  unfold Device.trainCmd
  try simp only
  repeat' first
    | with_reducible exact hM
    | with_reducible exact Moves.refl ..
    | with_reducible refine Moves.set ?_ (B (by decide)) (by decide)
    | with_reducible refine Moves.retrain ?_ (O (by decide)) (P (by decide))
    | with_reducible refine Moves.ite (fun _ => ?_) (fun _ => ?_)
    | with_reducible refine Moves.ite1 (fun _ => ?_) (fun _ => ?_)
    | split
    | dsimp only


def objs_standIn : Nat := 0x4000000040000000000
def parts_standIn : Nat := 0x0
theorem Moves.standIn {p r : Nat} {col : Option Nat} (hM : Moves d₀ e₀ mo mp) (hO : Mask.le objs_standIn mo) (hP : Mask.le parts_standIn mp) :
    Moves d₀ (e₀.standIn p r col) mo mp := by
  have O {a : Nat} (h : (a &&& objs_standIn == a) = true) := Mask.le_trans h hO
  have P {a : Nat} (h : (a &&& parts_standIn == a) = true) := Mask.le_trans h hP
  have B {k : Nat} (h : objs_standIn.testBit k = true) := Mask.bit h hO
  have S {k : Nat} (h : parts_standIn.testBit k = true) := Mask.bit h hP
  unfold Device.standIn
  try simp only
  repeat' first
    | with_reducible exact hM
    | with_reducible exact Moves.refl ..
    | with_reducible refine Moves.set ?_ (B (by decide)) (by decide)
    | (refine Moves.getD ?_ (fun r hr => ?_))
    | split
    | dsimp only

def objs_handOver : Nat := 0x4400000040000000000
def parts_handOver : Nat := 0x8000
theorem Moves.handOver {p r c : Nat} {forBist retire : Bool} (hM : Moves d₀ e₀ mo mp) (hO : Mask.le objs_handOver mo) (hP : Mask.le parts_handOver mp) :
    Moves d₀ (e₀.handOver p r c forBist retire) mo mp := by
  have O {a : Nat} (h : (a &&& objs_handOver == a) = true) := Mask.le_trans h hO
  have P {a : Nat} (h : (a &&& parts_handOver == a) = true) := Mask.le_trans h hP
  unfold Device.handOver
  try simp only
  repeat' first
    | with_reducible exact hM
    | with_reducible exact Moves.refl ..
    | with_reducible refine Moves.setRow ?_ (O (by decide)) (P (by decide))
    | with_reducible refine Moves.standIn ?_ (O (by decide)) (P (by decide))
    | with_reducible refine Moves.setKiteState ?_ (O (by decide)) (P (by decide))
    | dsimp only

def objs_returnFrom : Nat := 0x400000000000000000
def parts_returnFrom : Nat := 0x8000
theorem Moves.returnFrom {p r c : Nat} (hM : Moves d₀ e₀ mo mp) (hO : Mask.le objs_returnFrom mo) (hP : Mask.le parts_returnFrom mp) :
    Moves d₀ (e₀.returnFrom p r c) mo mp := by
  have O {a : Nat} (h : (a &&& objs_returnFrom == a) = true) := Mask.le_trans h hO
  have P {a : Nat} (h : (a &&& parts_returnFrom == a) = true) := Mask.le_trans h hP
  unfold Device.returnFrom
  try simp only
  repeat' first
    | with_reducible exact hM
    | with_reducible exact Moves.refl ..
    | with_reducible refine Moves.setRow ?_ (O (by decide)) (P (by decide))
    | with_reducible refine Moves.setKiteState ?_ (O (by decide)) (P (by decide))
    | dsimp only

def objs_startReturns : Nat := 0x400000000000000000
def parts_startReturns : Nat := 0x8000
theorem Moves.startReturns {p : Nat} (hM : Moves d₀ e₀ mo mp) (hO : Mask.le objs_startReturns mo) (hP : Mask.le parts_startReturns mp) :
    Moves d₀ (e₀.startReturns p) mo mp := by
  have O {a : Nat} (h : (a &&& objs_startReturns == a) = true) := Mask.le_trans h hO
  have P {a : Nat} (h : (a &&& parts_startReturns == a) = true) := Mask.le_trans h hP
  unfold Device.startReturns
  try simp only
  repeat' first
    | with_reducible exact hM
    | with_reducible exact Moves.refl ..
    | with_reducible refine Moves.setRow ?_ (O (by decide)) (P (by decide))
    | with_reducible refine Moves.returnFrom ?_ (O (by decide)) (P (by decide))
    | split
    | dsimp only

def objs_swapDone : Nat := 0x400000000000
def parts_swapDone : Nat := 0x0
theorem Moves.swapDone {p r c : Nat} (hM : Moves d₀ e₀ mo mp) (hO : Mask.le objs_swapDone mo) (hP : Mask.le parts_swapDone mp) :
    Moves d₀ (e₀.swapDone p r c) mo mp := by
  have O {a : Nat} (h : (a &&& objs_swapDone == a) = true) := Mask.le_trans h hO
  have P {a : Nat} (h : (a &&& parts_swapDone == a) = true) := Mask.le_trans h hP
  have B {k : Nat} (h : objs_swapDone.testBit k = true) := Mask.bit h hO
  have S {k : Nat} (h : parts_swapDone.testBit k = true) := Mask.bit h hP
  unfold Device.swapDone
  try simp only
  repeat' first
    | with_reducible exact hM
    | with_reducible exact Moves.refl ..
    | with_reducible refine Moves.set ?_ (B (by decide)) (by decide)
    | with_reducible refine Moves.ite (fun _ => ?_) (fun _ => ?_)
    | with_reducible refine Moves.ite1 (fun _ => ?_) (fun _ => ?_)
    | split
    | dsimp only

def objs_kiteDrained : Nat := 0x4400000440000000000
def parts_kiteDrained : Nat := 0x8000
theorem Moves.kiteDrained {p r : Nat} (hM : Moves d₀ e₀ mo mp) (hO : Mask.le objs_kiteDrained mo) (hP : Mask.le parts_kiteDrained mp) :
    Moves d₀ (e₀.kiteDrained p r) mo mp := by
  have O {a : Nat} (h : (a &&& objs_kiteDrained == a) = true) := Mask.le_trans h hO
  have P {a : Nat} (h : (a &&& parts_kiteDrained == a) = true) := Mask.le_trans h hP
  unfold Device.kiteDrained
  try simp only
  repeat' first
    | with_reducible exact hM
    | with_reducible exact Moves.refl ..
    | with_reducible refine Moves.setRow ?_ (O (by decide)) (P (by decide))
    | with_reducible refine Moves.swapDone ?_ (O (by decide)) (P (by decide))
    | with_reducible refine Moves.standIn ?_ (O (by decide)) (P (by decide))
    | with_reducible refine Moves.setKiteState ?_ (O (by decide)) (P (by decide))
    | with_reducible refine Moves.ite (fun _ => ?_) (fun _ => ?_)
    | with_reducible refine Moves.ite1 (fun _ => ?_) (fun _ => ?_)
    | split
    | dsimp only

def objs_loseKite : Nat := 0x3400000000000000000000000000000000000000000000000001180a88000000000000000000000000000000000000000000000000000000000000000000000000000000080000000000000
def parts_loseKite : Nat := 0x10081ea1
theorem Moves.loseKite {p r k : Nat} (hM : Moves d₀ e₀ mo mp) (hO : Mask.le objs_loseKite mo) (hP : Mask.le parts_loseKite mp) :
    Moves d₀ (e₀.loseKite p r k).1 mo mp := by
  have O {a : Nat} (h : (a &&& objs_loseKite == a) = true) := Mask.le_trans h hO
  have P {a : Nat} (h : (a &&& parts_loseKite == a) = true) := Mask.le_trans h hP
  have B {k : Nat} (h : objs_loseKite.testBit k = true) := Mask.bit h hO
  have S {k : Nat} (h : parts_loseKite.testBit k = true) := Mask.bit h hP
  unfold Device.loseKite
  try simp only
  repeat' first
    | with_reducible exact hM
    | with_reducible exact Moves.refl ..
    | with_reducible refine Moves.count ?_ (B (by decide)) (by decide) (S (by decide))
    | with_reducible refine Moves.frameDone ?_ (O (by decide)) (P (by decide))
    | with_reducible refine Moves.foldl ?_ (fun d a => ?_)
    | with_reducible refine Moves.with_copies ?_ (S (by decide))
    | dsimp only

def objs_forceSwap : Nat := 0x3400000000000000000000000000000000000000000000000001180a88000000000000000000000000000000000000000000000000000000000000000000000000000400080400000000000
def parts_forceSwap : Nat := 0x10089ea1
theorem Moves.forceSwap {p r c : Nat} (hM : Moves d₀ e₀ mo mp) (hO : Mask.le objs_forceSwap mo) (hP : Mask.le parts_forceSwap mp) :
    Moves d₀ (e₀.forceSwap p r c).1 mo mp := by
  have O {a : Nat} (h : (a &&& objs_forceSwap == a) = true) := Mask.le_trans h hO
  have P {a : Nat} (h : (a &&& parts_forceSwap == a) = true) := Mask.le_trans h hP
  unfold Device.forceSwap
  try simp only
  repeat' first
    | with_reducible exact hM
    | with_reducible exact Moves.refl ..
    | with_reducible refine Moves.causeSwitch ?_ (O (by decide)) (P (by decide))
    | with_reducible refine Moves.setRow ?_ (O (by decide)) (P (by decide))
    | with_reducible refine Moves.loseKite ?_ (O (by decide)) (P (by decide))
    | with_reducible refine Moves.swapDone ?_ (O (by decide)) (P (by decide))
    | with_reducible refine Moves.setKiteState ?_ (O (by decide)) (P (by decide))
    | with_reducible refine Moves.ite (fun _ => ?_) (fun _ => ?_)
    | with_reducible refine Moves.ite1 (fun _ => ?_) (fun _ => ?_)
    | split
    | dsimp only

def objs_spareInService : Nat := 0x4400100040000000000
def parts_spareInService : Nat := 0x8001
theorem Moves.spareInService {p r : Nat} (hM : Moves d₀ e₀ mo mp) (hO : Mask.le objs_spareInService mo) (hP : Mask.le parts_spareInService mp) :
    Moves d₀ (e₀.spareInService p r) mo mp := by
  have O {a : Nat} (h : (a &&& objs_spareInService == a) = true) := Mask.le_trans h hO
  have P {a : Nat} (h : (a &&& parts_spareInService == a) = true) := Mask.le_trans h hP
  have B {k : Nat} (h : objs_spareInService.testBit k = true) := Mask.bit h hO
  have S {k : Nat} (h : parts_spareInService.testBit k = true) := Mask.bit h hP
  unfold Device.spareInService
  try simp only
  repeat' first
    | with_reducible exact hM
    | with_reducible exact Moves.refl ..
    | with_reducible refine Moves.bump ?_ (B (by decide)) (by decide) (S (by decide))
    | with_reducible refine Moves.setRow ?_ (O (by decide)) (P (by decide))
    | with_reducible refine Moves.standIn ?_ (O (by decide)) (P (by decide))
    | with_reducible refine Moves.setKiteState ?_ (O (by decide)) (P (by decide))
    | with_reducible refine Moves.ite (fun _ => ?_) (fun _ => ?_)
    | with_reducible refine Moves.ite1 (fun _ => ?_) (fun _ => ?_)
    | split
    | dsimp only

def objs_swapCmd : Nat := 0x4400000440000000000
def parts_swapCmd : Nat := 0x8000
theorem Moves.swapCmd {p ses v : Nat} (hM : Moves d₀ e₀ mo mp) (hO : Mask.le objs_swapCmd mo) (hP : Mask.le parts_swapCmd mp) :
    Moves d₀ (e₀.swapCmd p ses v) mo mp := by
  have O {a : Nat} (h : (a &&& objs_swapCmd == a) = true) := Mask.le_trans h hO
  have P {a : Nat} (h : (a &&& parts_swapCmd == a) = true) := Mask.le_trans h hP
  have B {k : Nat} (h : objs_swapCmd.testBit k = true) := Mask.bit h hO
  unfold Device.swapCmd
  try simp only
  repeat' first
    | with_reducible exact hM
    | with_reducible exact Moves.refl ..
    | with_reducible refine Moves.cmdReads ?_ (B (by dsimp only; decide)) (by dsimp only; decide)
    | with_reducible refine Moves.returnFrom ?_ (O (by decide)) (P (by decide))
    | with_reducible refine Moves.handOver ?_ (O (by decide)) (P (by decide))
    | with_reducible refine Moves.ite (fun _ => ?_) (fun _ => ?_)
    | with_reducible refine Moves.ite1 (fun _ => ?_) (fun _ => ?_)
    | split
    | dsimp only

def objs_sprayWrite : Nat := 0x340000000000000000000000002b800000000000000000000000000000000000000000000000000000000000000000000000000000000000000000000000000000000020000000000000000
def parts_sprayWrite : Nat := 0x202a1
theorem Moves.sprayWrite {p set v : Nat} (hM : Moves d₀ e₀ mo mp) (hO : Mask.le objs_sprayWrite mo) (hP : Mask.le parts_sprayWrite mp) :
    Moves d₀ (e₀.sprayWrite p set v).1 mo mp := by
  have O {a : Nat} (h : (a &&& objs_sprayWrite == a) = true) := Mask.le_trans h hO
  have P {a : Nat} (h : (a &&& parts_sprayWrite == a) = true) := Mask.le_trans h hP
  have B {k : Nat} (h : objs_sprayWrite.testBit k = true) := Mask.bit h hO
  have S {k : Nat} (h : parts_sprayWrite.testBit k = true) := Mask.bit h hP
  unfold Device.sprayWrite
  try simp only
  repeat' first
    | with_reducible exact hM
    | with_reducible exact Moves.refl ..
    | with_reducible refine Moves.store ?_ (B (by decide)) (by decide) (O (by decide)) (P (by decide))
    | with_reducible refine Moves.ite (fun _ => ?_) (fun _ => ?_)
    | with_reducible refine Moves.ite1 (fun _ => ?_) (fun _ => ?_)
    | split
    | with_reducible refine Moves.with_spray ?_ (S (by decide))
    | dsimp only


def objs_sprayPick : Nat := 0x0
def parts_sprayPick : Nat := 0x20000
theorem Moves.sprayPick {p set input : Nat} {r} (hr : e₀.sprayPick p set input = some r) (hM : Moves d₀ e₀ mo mp) (hO : Mask.le objs_sprayPick mo) (hP : Mask.le parts_sprayPick mp) :
    Moves d₀ r.1 mo mp := by
  have O {a : Nat} (h : (a &&& objs_sprayPick == a) = true) := Mask.le_trans h hO
  have P {a : Nat} (h : (a &&& parts_sprayPick == a) = true) := Mask.le_trans h hP
  have S {k : Nat} (h : parts_sprayPick.testBit k = true) := Mask.bit h hP
  unfold Device.sprayPick at hr
  try simp only at hr
  repeat' split at hr
  all_goals try (cases hr)
  all_goals try dsimp only
  repeat' first
    | with_reducible exact hM
    | with_reducible exact Moves.refl ..
    | split
    | with_reducible refine Moves.with_spray ?_ (S (by decide))
    | dsimp only

def objs_fillSet : Nat := 0x100000000000000000
def parts_fillSet : Nat := 0x0
theorem Moves.fillSet {p g set : Nat} {r} (hr : e₀.fillSet p g set = some r) (hM : Moves d₀ e₀ mo mp) (hO : Mask.le objs_fillSet mo) (hP : Mask.le parts_fillSet mp) :
    Moves d₀ r mo mp := by
  have O {a : Nat} (h : (a &&& objs_fillSet == a) = true) := Mask.le_trans h hO
  have P {a : Nat} (h : (a &&& parts_fillSet == a) = true) := Mask.le_trans h hP
  have B {k : Nat} (h : objs_fillSet.testBit k = true) := Mask.bit h hO
  have S {k : Nat} (h : parts_fillSet.testBit k = true) := Mask.bit h hP
  unfold Device.fillSet at hr
  try simp only at hr
  repeat' split at hr
  all_goals try (cases hr)
  all_goals try dsimp only
  repeat' first
    | with_reducible exact hM
    | with_reducible exact Moves.refl ..
    | with_reducible refine Moves.set ?_ (B (by first | decide | (split <;> decide) | (cases m <;> decide))) (by first | decide | (split <;> decide) | (cases m <;> decide))
    | with_reducible refine Moves.foldl ?_ (fun d a => ?_)
    | with_reducible refine Moves.ite (fun _ => ?_) (fun _ => ?_)
    | with_reducible refine Moves.ite1 (fun _ => ?_) (fun _ => ?_)
    | split
    | dsimp only

def objs_route : Nat := 0x0
def parts_route : Nat := 0x20000
theorem Moves.route {p input : Nat} {f : Frame} (hM : Moves d₀ e₀ mo mp) (hO : Mask.le objs_route mo) (hP : Mask.le parts_route mp) :
    Moves d₀ (e₀.route p input f).1 mo mp := by
  have O {a : Nat} (h : (a &&& objs_route == a) = true) := Mask.le_trans h hO
  have P {a : Nat} (h : (a &&& parts_route == a) = true) := Mask.le_trans h hP
  unfold Device.route
  try simp only
  repeat' first
    | with_reducible exact hM
    | with_reducible exact Moves.refl ..
    | with_reducible refine Moves.ite (fun _ => ?_) (fun _ => ?_)
    | with_reducible refine Moves.ite1 (fun _ => ?_) (fun _ => ?_)
    | split
    | dsimp only
    | refine Moves.sprayPick (by assumption) ?_ (O (by decide)) (P (by decide))

def objs_routeMiss : Nat := 0x3400000000000000000000000000000000000000000000000000000000000000000000000000000000000000000000000000000000000000000000000000000000000000020000000000000
def parts_routeMiss : Nat := 0x2a1
theorem Moves.routeMiss {p : Nat} (hM : Moves d₀ e₀ mo mp) (hO : Mask.le objs_routeMiss mo) (hP : Mask.le parts_routeMiss mp) :
    Moves d₀ (e₀.routeMiss p) mo mp := by
  have O {a : Nat} (h : (a &&& objs_routeMiss == a) = true) := Mask.le_trans h hO
  have P {a : Nat} (h : (a &&& parts_routeMiss == a) = true) := Mask.le_trans h hP
  have B {k : Nat} (h : objs_routeMiss.testBit k = true) := Mask.bit h hO
  have S {k : Nat} (h : parts_routeMiss.testBit k = true) := Mask.bit h hP
  unfold Device.routeMiss
  try simp only
  repeat' first
    | with_reducible exact hM
    | with_reducible exact Moves.refl ..
    | with_reducible refine Moves.bump ?_ (B (by decide)) (by decide) (S (by decide))
    | with_reducible refine Moves.causeSwitch ?_ (O (by decide)) (P (by decide))
    | dsimp only

def objs_sendOwn : Nat := 0x3400000000000000000000000000000000000000000000000000000000000000000000000000000000000000000000000000000000000000000400000000000000000000028000000000000
def parts_sendOwn : Nat := 0xa42e1
theorem Moves.sendOwn {p input : Nat} {f : Frame} {ctx : Option Nat} (hM : Moves d₀ e₀ mo mp) (hO : Mask.le objs_sendOwn mo) (hP : Mask.le parts_sendOwn mp) :
    Moves d₀ (e₀.sendOwn p input f ctx) mo mp := by
  have O {a : Nat} (h : (a &&& objs_sendOwn == a) = true) := Mask.le_trans h hO
  have P {a : Nat} (h : (a &&& parts_sendOwn == a) = true) := Mask.le_trans h hP
  have B {k : Nat} (h : objs_sendOwn.testBit k = true) := Mask.bit h hO
  have S {k : Nat} (h : parts_sendOwn.testBit k = true) := Mask.bit h hP
  unfold Device.sendOwn
  try simp only
  repeat' first
    | with_reducible exact hM
    | with_reducible exact Moves.refl ..
    | with_reducible refine Moves.bump ?_ (B (by decide)) (by decide) (S (by decide))
    | with_reducible refine Moves.routeMiss ?_ (O (by decide)) (P (by decide))
    | with_reducible refine Moves.route ?_ (O (by decide)) (P (by decide))
    | with_reducible refine Moves.hold ?_ (O (by decide)) (P (by decide))
    | with_reducible refine Moves.ite (fun _ => ?_) (fun _ => ?_)
    | with_reducible refine Moves.ite1 (fun _ => ?_) (fun _ => ?_)
    | split
    | with_reducible refine Moves.with_inbox ?_ (S (by decide))
    | dsimp only

def objs_sendSet : Nat := 0x8000000000000
def parts_sendSet : Nat := 0x84001
theorem Moves.sendSet {p input set : Nat} {g : Option Nat} {f : Frame} {ctx : Option Nat} (hM : Moves d₀ e₀ mo mp) (hO : Mask.le objs_sendSet mo) (hP : Mask.le parts_sendSet mp) :
    Moves d₀ (e₀.sendSet p input set g f ctx) mo mp := by
  have O {a : Nat} (h : (a &&& objs_sendSet == a) = true) := Mask.le_trans h hO
  have P {a : Nat} (h : (a &&& parts_sendSet == a) = true) := Mask.le_trans h hP
  have B {k : Nat} (h : objs_sendSet.testBit k = true) := Mask.bit h hO
  have S {k : Nat} (h : parts_sendSet.testBit k = true) := Mask.bit h hP
  unfold Device.sendSet
  try simp only
  repeat' first
    | with_reducible exact hM
    | with_reducible exact Moves.refl ..
    | with_reducible refine Moves.bump ?_ (B (by decide)) (by decide) (S (by decide))
    | with_reducible refine Moves.hold ?_ (O (by decide)) (P (by decide))
    | with_reducible refine Moves.ite (fun _ => ?_) (fun _ => ?_)
    | with_reducible refine Moves.ite1 (fun _ => ?_) (fun _ => ?_)
    | split
    | dsimp only

def objs_sendDirect : Nat := 0x0
def parts_sendDirect : Nat := 0x1810
theorem Moves.sendDirect {p c : Nat} {f : Frame} {outs : List Nat} {g ctx : Option Nat} (hM : Moves d₀ e₀ mo mp) (hO : Mask.le objs_sendDirect mo) (hP : Mask.le parts_sendDirect mp) :
    Moves d₀ (e₀.sendDirect p c f outs g ctx) mo mp := by
  have O {a : Nat} (h : (a &&& objs_sendDirect == a) = true) := Mask.le_trans h hO
  have P {a : Nat} (h : (a &&& parts_sendDirect == a) = true) := Mask.le_trans h hP
  unfold Device.sendDirect
  try simp only
  repeat' first
    | with_reducible exact hM
    | with_reducible exact Moves.refl ..
    | with_reducible refine Moves.newId ?_ (O (by decide)) (P (by decide))
    | with_reducible refine Moves.setFrame ?_ (O (by decide)) (P (by decide))
    | with_reducible refine Moves.setCopy ?_ (O (by decide)) (P (by decide))
    | dsimp only

def objs_resultToSet : Nat := 0x8000000000000
def parts_resultToSet : Nat := 0x85811
theorem Moves.resultToSet {p c input set : Nat} {g : Option Nat} {f : Frame} {ctx : Option Nat} (hM : Moves d₀ e₀ mo mp) (hO : Mask.le objs_resultToSet mo) (hP : Mask.le parts_resultToSet mp) :
    Moves d₀ (e₀.resultToSet p c input set g f ctx) mo mp := by
  have O {a : Nat} (h : (a &&& objs_resultToSet == a) = true) := Mask.le_trans h hO
  have P {a : Nat} (h : (a &&& parts_resultToSet == a) = true) := Mask.le_trans h hP
  unfold Device.resultToSet
  try simp only
  repeat' first
    | with_reducible exact hM
    | with_reducible exact Moves.refl ..
    | with_reducible refine Moves.sendDirect ?_ (O (by decide)) (P (by decide))
    | with_reducible refine Moves.sendSet ?_ (O (by decide)) (P (by decide))
    | with_reducible refine Moves.ite (fun _ => ?_) (fun _ => ?_)
    | with_reducible refine Moves.ite1 (fun _ => ?_) (fun _ => ?_)
    | split
    | dsimp only

def objs_resultByHeader : Nat := 0x3400000000000000000000000000000000000000000000000000000000000000000000000000000000000000000000000000000000000000000400000000000000000000028000000000000
def parts_resultByHeader : Nat := 0xa5af1
theorem Moves.resultByHeader {p c input : Nat} {f : Frame} {ctx : Option Nat} (hM : Moves d₀ e₀ mo mp) (hO : Mask.le objs_resultByHeader mo) (hP : Mask.le parts_resultByHeader mp) :
    Moves d₀ (e₀.resultByHeader p c input f ctx) mo mp := by
  have O {a : Nat} (h : (a &&& objs_resultByHeader == a) = true) := Mask.le_trans h hO
  have P {a : Nat} (h : (a &&& parts_resultByHeader == a) = true) := Mask.le_trans h hP
  unfold Device.resultByHeader
  try simp only
  repeat' first
    | with_reducible exact hM
    | with_reducible exact Moves.refl ..
    | with_reducible refine Moves.sendDirect ?_ (O (by decide)) (P (by decide))
    | with_reducible refine Moves.sendOwn ?_ (O (by decide)) (P (by decide))
    | with_reducible refine Moves.route ?_ (O (by decide)) (P (by decide))
    | with_reducible refine Moves.ite (fun _ => ?_) (fun _ => ?_)
    | with_reducible refine Moves.ite1 (fun _ => ?_) (fun _ => ?_)
    | split
    | dsimp only


end Sys2Proof.Machine
end

