-- ==== Sys2Proof/Laws/MovesCollect.lean ====
section
/-! SUPPORT. What the operations of reduction, compression, collectives and received frames can change: one lemma each. -/

namespace Sys2Proof.Machine

set_option linter.unusedSimpArgs false
set_option linter.unreachableTactic false
set_option linter.unusedTactic false
set_option linter.unusedVariables false
set_option linter.unnecessarySeqFocus false

variable {d₀ e₀ : Device} {mo mp : Nat}

def objs_launchCtx : Nat := 0x20ff10000000000000000000000000000000000000
def parts_launchCtx : Nat := 0x800001
theorem Moves.launchCtx {p x desc tenant seed slot step : Nat} (hM : Moves d₀ e₀ mo mp) (hO : Mask.le objs_launchCtx mo) (hP : Mask.le parts_launchCtx mp) :
    Moves d₀ (e₀.launchCtx p x desc tenant seed slot step).1 mo mp := by
  have O {a : Nat} (h : (a &&& objs_launchCtx == a) = true) := Mask.le_trans h hO
  have P {a : Nat} (h : (a &&& parts_launchCtx == a) = true) := Mask.le_trans h hP
  have B {k : Nat} (h : objs_launchCtx.testBit k = true) := Mask.bit h hO
  have S {k : Nat} (h : parts_launchCtx.testBit k = true) := Mask.bit h hP
  unfold Device.launchCtx
  try simp only
  repeat' first
    | with_reducible exact hM
    | with_reducible exact Moves.refl ..
    | with_reducible refine Moves.set ?_ (B (by first | decide | (split <;> decide))) (by first | decide | (split <;> decide))
    | with_reducible refine Moves.bump ?_ (B (by first | decide | (split <;> decide))) (by first | decide | (split <;> decide)) (S (by decide))
    | with_reducible refine Moves.setRctx ?_ (O (by decide)) (P (by decide))
    | with_reducible refine Moves.ite (fun _ => ?_) (fun _ => ?_)
    | with_reducible refine Moves.ite1 (fun _ => ?_) (fun _ => ?_)
    | split
    | dsimp only

def objs_giveBack : Nat := 0x200000000000000000000000000000000000000000
def parts_giveBack : Nat := 0x0
theorem Moves.giveBack {p x : Nat} (hM : Moves d₀ e₀ mo mp) (hO : Mask.le objs_giveBack mo) (hP : Mask.le parts_giveBack mp) :
    Moves d₀ (e₀.giveBack p x) mo mp := by
  have O {a : Nat} (h : (a &&& objs_giveBack == a) = true) := Mask.le_trans h hO
  have P {a : Nat} (h : (a &&& parts_giveBack == a) = true) := Mask.le_trans h hP
  have B {k : Nat} (h : objs_giveBack.testBit k = true) := Mask.bit h hO
  have S {k : Nat} (h : parts_giveBack.testBit k = true) := Mask.bit h hP
  unfold Device.giveBack
  try simp only
  repeat' first
    | with_reducible exact hM
    | with_reducible exact Moves.refl ..
    | with_reducible refine Moves.set ?_ (B (by decide)) (by decide)
    | dsimp only

def objs_failCtx : Nat := 0x3400000000000000000000000000000000000000000000000000000000000000000000000000000000000000000000000000000000000211808000000000000000000000000000000000000
def parts_failCtx : Nat := 0x8002a1
theorem Moves.failCtx {p x status : Nat} (hM : Moves d₀ e₀ mo mp) (hO : Mask.le objs_failCtx mo) (hP : Mask.le parts_failCtx mp) :
    Moves d₀ (e₀.failCtx p x status) mo mp := by
  have O {a : Nat} (h : (a &&& objs_failCtx == a) = true) := Mask.le_trans h hO
  have P {a : Nat} (h : (a &&& parts_failCtx == a) = true) := Mask.le_trans h hP
  have B {k : Nat} (h : objs_failCtx.testBit k = true) := Mask.bit h hO
  have S {k : Nat} (h : parts_failCtx.testBit k = true) := Mask.bit h hP
  unfold Device.failCtx
  try simp only
  repeat' first
    | with_reducible exact hM
    | with_reducible exact Moves.refl ..
    | with_reducible refine Moves.set ?_ (B (by decide)) (by decide)
    | with_reducible refine Moves.bump ?_ (B (by decide)) (by decide) (S (by decide))
    | with_reducible refine Moves.setRctx ?_ (O (by decide)) (P (by decide))
    | with_reducible refine Moves.causeCollective ?_ (O (by decide)) (P (by decide))
    | with_reducible refine Moves.giveBack ?_ (O (by decide)) (P (by decide))
    | with_reducible refine Moves.ite (fun _ => ?_) (fun _ => ?_)
    | with_reducible refine Moves.ite1 (fun _ => ?_) (fun _ => ?_)
    | split
    | dsimp only

def objs_abortCtx : Nat := 0x3400000000000000000000000000000000000000000000000000000000000000000000000000000000000000000000000000000000000219808000000000000000000000000000000000000
def parts_abortCtx : Nat := 0x8002a1
theorem Moves.abortCtx {p x status hold : Nat} (hM : Moves d₀ e₀ mo mp) (hO : Mask.le objs_abortCtx mo) (hP : Mask.le parts_abortCtx mp) :
    Moves d₀ (e₀.abortCtx p x status hold).1 mo mp := by
  have O {a : Nat} (h : (a &&& objs_abortCtx == a) = true) := Mask.le_trans h hO
  have P {a : Nat} (h : (a &&& parts_abortCtx == a) = true) := Mask.le_trans h hP
  have B {k : Nat} (h : objs_abortCtx.testBit k = true) := Mask.bit h hO
  have S {k : Nat} (h : parts_abortCtx.testBit k = true) := Mask.bit h hP
  unfold Device.abortCtx
  try simp only
  repeat' first
    | with_reducible exact hM
    | with_reducible exact Moves.refl ..
    | with_reducible refine Moves.set ?_ (B (by decide)) (by decide)
    | with_reducible refine Moves.setRctx ?_ (O (by decide)) (P (by decide))
    | with_reducible refine Moves.failCtx ?_ (O (by decide)) (P (by decide))
    | with_reducible refine Moves.ite (fun _ => ?_) (fun _ => ?_)
    | with_reducible refine Moves.ite1 (fun _ => ?_) (fun _ => ?_)
    | split
    | dsimp only

def objs_restartCtx : Nat := 0x6806000000000000000000000000000000000000
def parts_restartCtx : Nat := 0x800001
theorem Moves.restartCtx {p x : Nat} (hM : Moves d₀ e₀ mo mp) (hO : Mask.le objs_restartCtx mo) (hP : Mask.le parts_restartCtx mp) :
    Moves d₀ (e₀.restartCtx p x) mo mp := by
  have O {a : Nat} (h : (a &&& objs_restartCtx == a) = true) := Mask.le_trans h hO
  have P {a : Nat} (h : (a &&& parts_restartCtx == a) = true) := Mask.le_trans h hP
  have B {k : Nat} (h : objs_restartCtx.testBit k = true) := Mask.bit h hO
  have S {k : Nat} (h : parts_restartCtx.testBit k = true) := Mask.bit h hP
  unfold Device.restartCtx
  try simp only
  repeat' first
    | with_reducible exact hM
    | with_reducible exact Moves.refl ..
    | with_reducible refine Moves.set ?_ (B (by decide)) (by decide)
    | with_reducible refine Moves.bump ?_ (B (by decide)) (by decide) (S (by decide))
    | with_reducible refine Moves.setRctx ?_ (O (by decide)) (P (by decide))
    | with_reducible refine Moves.ite (fun _ => ?_) (fun _ => ?_)
    | with_reducible refine Moves.ite1 (fun _ => ?_) (fun _ => ?_)
    | split
    | dsimp only

def objs_releaseCtx : Nat := 0x800000000000000000000000000000000000000
def parts_releaseCtx : Nat := 0x800000
theorem Moves.releaseCtx {p x : Nat} (hM : Moves d₀ e₀ mo mp) (hO : Mask.le objs_releaseCtx mo) (hP : Mask.le parts_releaseCtx mp) :
    Moves d₀ (e₀.releaseCtx p x) mo mp := by
  have O {a : Nat} (h : (a &&& objs_releaseCtx == a) = true) := Mask.le_trans h hO
  have P {a : Nat} (h : (a &&& parts_releaseCtx == a) = true) := Mask.le_trans h hP
  have B {k : Nat} (h : objs_releaseCtx.testBit k = true) := Mask.bit h hO
  have S {k : Nat} (h : parts_releaseCtx.testBit k = true) := Mask.bit h hP
  unfold Device.releaseCtx
  try simp only
  repeat' first
    | with_reducible exact hM
    | with_reducible exact Moves.refl ..
    | with_reducible refine Moves.set ?_ (B (by decide)) (by decide)
    | with_reducible refine Moves.setRctx ?_ (O (by decide)) (P (by decide))
    | with_reducible refine Moves.ite (fun _ => ?_) (fun _ => ?_)
    | with_reducible refine Moves.ite1 (fun _ => ?_) (fun _ => ?_)
    | split
    | dsimp only

def objs_dropCtxs : Nat := 0x3400000000000000000000000000000000000000000000000000000000000000000000000000000000000000000000000000000000000211808000000000000000000000000000000000000
def parts_dropCtxs : Nat := 0x8002a1
theorem Moves.dropCtxs {p sl : Nat} (hM : Moves d₀ e₀ mo mp) (hO : Mask.le objs_dropCtxs mo) (hP : Mask.le parts_dropCtxs mp) :
    Moves d₀ (e₀.dropCtxs p sl) mo mp := by
  have O {a : Nat} (h : (a &&& objs_dropCtxs == a) = true) := Mask.le_trans h hO
  have P {a : Nat} (h : (a &&& parts_dropCtxs == a) = true) := Mask.le_trans h hP
  unfold Device.dropCtxs
  try simp only
  repeat' first
    | with_reducible exact hM
    | with_reducible exact Moves.refl ..
    | with_reducible refine Moves.releaseCtx ?_ (O (by decide)) (P (by decide))
    | with_reducible refine Moves.failCtx ?_ (O (by decide)) (P (by decide))
    | with_reducible refine Moves.foldl ?_ (fun d a => ?_)
    | with_reducible refine Moves.ite (fun _ => ?_) (fun _ => ?_)
    | with_reducible refine Moves.ite1 (fun _ => ?_) (fun _ => ?_)
    | split
    | dsimp only

def objs_reduceFrame : Nat := 0x3400000000000000000000000000000000000000000000000000000000000000000000000000000000000000000000000000000000000219809f00000000000000000000000000000000000
def parts_reduceFrame : Nat := 0x8002a1
theorem Moves.reduceFrame {p : Nat} {f : Frame} (hM : Moves d₀ e₀ mo mp) (hO : Mask.le objs_reduceFrame mo) (hP : Mask.le parts_reduceFrame mp) :
    Moves d₀ (e₀.reduceFrame p f).1 mo mp := by
  have O {a : Nat} (h : (a &&& objs_reduceFrame == a) = true) := Mask.le_trans h hO
  have P {a : Nat} (h : (a &&& parts_reduceFrame == a) = true) := Mask.le_trans h hP
  have B {k : Nat} (h : objs_reduceFrame.testBit k = true) := Mask.bit h hO
  have S {k : Nat} (h : parts_reduceFrame.testBit k = true) := Mask.bit h hP
  unfold Device.reduceFrame
  try simp only
  repeat' first
    | with_reducible exact hM
    | with_reducible exact Moves.refl ..
    | with_reducible refine Moves.set ?_ (B (by decide)) (by decide)
    | with_reducible refine Moves.bump ?_ (B (by decide)) (by decide) (S (by decide))
    | with_reducible refine Moves.count ?_ (B (by decide)) (by decide) (S (by decide))
    | with_reducible refine Moves.setRctx ?_ (O (by decide)) (P (by decide))
    | with_reducible refine Moves.causeCollective ?_ (O (by decide)) (P (by decide))
    | with_reducible refine Moves.abortCtx ?_ (O (by decide)) (P (by decide))
    | with_reducible refine Moves.failCtx ?_ (O (by decide)) (P (by decide))
    | with_reducible refine Moves.foldl ?_ (fun d a => ?_)
    | with_reducible refine Moves.ite (fun _ => ?_) (fun _ => ?_)
    | with_reducible refine Moves.ite1 (fun _ => ?_) (fun _ => ?_)
    | split
    | dsimp only

def objs_sendResults : Nat := 0x3400000000000000000000000000000000000000000000000000000000000000000000000000000000000000000000000000000000000000000400000000000000000000028000000000000
def parts_sendResults : Nat := 0x48a5af1
theorem Moves.sendResults {p x : Nat} {l : List (Nat × Blk × Bool)} (hM : Moves d₀ e₀ mo mp) (hO : Mask.le objs_sendResults mo) (hP : Mask.le parts_sendResults mp) :
    Moves d₀ (e₀.sendResults p x l) mo mp := by
  have O {a : Nat} (h : (a &&& objs_sendResults == a) = true) := Mask.le_trans h hO
  have P {a : Nat} (h : (a &&& parts_sendResults == a) = true) := Mask.le_trans h hP
  unfold Device.sendResults
  try simp only
  repeat' first
    | with_reducible exact hM
    | with_reducible exact Moves.refl ..
    | (refine Moves.getD ?_ (fun r hr => ?_))
    | with_reducible refine Moves.setCctx ?_ (O (by decide)) (P (by decide))
    | with_reducible refine Moves.setRctx ?_ (O (by decide)) (P (by decide))
    | with_reducible refine Moves.resultByHeader ?_ (O (by decide)) (P (by decide))
    | with_reducible refine Moves.resultToSet ?_ (O (by decide)) (P (by decide))
    | with_reducible refine Moves.ite (fun _ => ?_) (fun _ => ?_)
    | with_reducible refine Moves.ite1 (fun _ => ?_) (fun _ => ?_)
    | split
    | dsimp only

def objs_emitResults : Nat := 0x3400000000000000000000000000000000000000000000000000000000000000000000000000000000000000000000000000000000000208820400000000000000000000028000000000000
def parts_emitResults : Nat := 0x48a5af1
theorem Moves.emitResults {p x : Nat} (hM : Moves d₀ e₀ mo mp) (hO : Mask.le objs_emitResults mo) (hP : Mask.le parts_emitResults mp) :
    Moves d₀ (e₀.emitResults p x).1 mo mp := by
  have O {a : Nat} (h : (a &&& objs_emitResults == a) = true) := Mask.le_trans h hO
  have P {a : Nat} (h : (a &&& parts_emitResults == a) = true) := Mask.le_trans h hP
  have B {k : Nat} (h : objs_emitResults.testBit k = true) := Mask.bit h hO
  have S {k : Nat} (h : parts_emitResults.testBit k = true) := Mask.bit h hP
  unfold Device.emitResults
  try simp only
  repeat' first
    | with_reducible exact hM
    | with_reducible exact Moves.refl ..
    | with_reducible refine Moves.set ?_ (B (by decide)) (by decide)
    | with_reducible refine Moves.count ?_ (B (by decide)) (by decide) (S (by decide))
    | with_reducible refine Moves.setRctx ?_ (O (by decide)) (P (by decide))
    | with_reducible refine Moves.sendResults ?_ (O (by decide)) (P (by decide))
    | with_reducible refine Moves.giveBack ?_ (O (by decide)) (P (by decide))
    | with_reducible refine Moves.foldl ?_ (fun d a => ?_)
    | with_reducible refine Moves.ite (fun _ => ?_) (fun _ => ?_)
    | with_reducible refine Moves.ite1 (fun _ => ?_) (fun _ => ?_)
    | split
    | dsimp only


def objs_noteCctx : Nat := 0x6000000000000000000000000000000000000000000000000000000000000
def parts_noteCctx : Nat := 0x0
theorem Moves.noteCctx {p k : Nat} (hM : Moves d₀ e₀ mo mp) (hO : Mask.le objs_noteCctx mo) (hP : Mask.le parts_noteCctx mp) :
    Moves d₀ (e₀.noteCctx p k) mo mp := by
  have O {a : Nat} (h : (a &&& objs_noteCctx == a) = true) := Mask.le_trans h hO
  have P {a : Nat} (h : (a &&& parts_noteCctx == a) = true) := Mask.le_trans h hP
  have B {k : Nat} (h : objs_noteCctx.testBit k = true) := Mask.bit h hO
  have S {k : Nat} (h : parts_noteCctx.testBit k = true) := Mask.bit h hP
  unfold Device.noteCctx
  try simp only
  repeat' first
    | with_reducible exact hM
    | with_reducible exact Moves.refl ..
    | with_reducible refine Moves.set ?_ (B (by first | decide | (split <;> decide))) (by first | decide | (split <;> decide))
    | with_reducible refine Moves.ite (fun _ => ?_) (fun _ => ?_)
    | with_reducible refine Moves.ite1 (fun _ => ?_) (fun _ => ?_)
    | split
    | dsimp only

def objs_needSpan : Nat := 0x34000000000000000000000000000000000000000000000000000000000000000000000000000000000000000060000000000000000000000000000000000000c7200000000000000000000
def parts_needSpan : Nat := 0x40403a9
theorem Moves.needSpan {p k s : Nat} (hM : Moves d₀ e₀ mo mp) (hO : Mask.le objs_needSpan mo) (hP : Mask.le parts_needSpan mp) :
    Moves d₀ (e₀.needSpan p k s) mo mp := by
  have O {a : Nat} (h : (a &&& objs_needSpan == a) = true) := Mask.le_trans h hO
  have P {a : Nat} (h : (a &&& parts_needSpan == a) = true) := Mask.le_trans h hP
  unfold Device.needSpan
  try simp only
  repeat' first
    | with_reducible exact hM
    | with_reducible exact Moves.refl ..
    | with_reducible refine Moves.setCctx ?_ (O (by decide)) (P (by decide))
    | with_reducible refine Moves.noteCctx ?_ (O (by decide)) (P (by decide))
    | with_reducible refine Moves.alloc ?_ (O (by decide)) (P (by decide))
    | with_reducible refine Moves.ite (fun _ => ?_) (fun _ => ?_)
    | with_reducible refine Moves.ite1 (fun _ => ?_) (fun _ => ?_)
    | split
    | dsimp only

def objs_freeResiduals : Nat := 0x3400000000000000000000000000000000000000000000000000000000000000000000000000000000000000006000000000000000000000000000000000000000c00000000000000000000
def parts_freeResiduals : Nat := 0x40c02a1
theorem Moves.freeResiduals {p k : Nat} (hM : Moves d₀ e₀ mo mp) (hO : Mask.le objs_freeResiduals mo) (hP : Mask.le parts_freeResiduals mp) :
    Moves d₀ (e₀.freeResiduals p k) mo mp := by
  have O {a : Nat} (h : (a &&& objs_freeResiduals == a) = true) := Mask.le_trans h hO
  have P {a : Nat} (h : (a &&& parts_freeResiduals == a) = true) := Mask.le_trans h hP
  unfold Device.freeResiduals
  try simp only
  repeat' first
    | with_reducible exact hM
    | with_reducible exact Moves.refl ..
    | with_reducible refine Moves.setCctx ?_ (O (by decide)) (P (by decide))
    | with_reducible refine Moves.noteCctx ?_ (O (by decide)) (P (by decide))
    | with_reducible refine Moves.free ?_ (O (by decide)) (P (by decide))
    | with_reducible refine Moves.foldl ?_ (fun d a => ?_)
    | dsimp only

def objs_cctxCmd : Nat := 0x340000000000000000000000002b800000000000000000000000000000000000000000000000000000000000007800000000000000000000000000000000000000c00000000000000000000
def parts_cctxCmd : Nat := 0x40c02a1
theorem Moves.cctxCmd {p ses v : Nat} (hM : Moves d₀ e₀ mo mp) (hO : Mask.le objs_cctxCmd mo) (hP : Mask.le parts_cctxCmd mp) :
    Moves d₀ (e₀.cctxCmd p ses v) mo mp := by
  have O {a : Nat} (h : (a &&& objs_cctxCmd == a) = true) := Mask.le_trans h hO
  have P {a : Nat} (h : (a &&& parts_cctxCmd == a) = true) := Mask.le_trans h hP
  have B {k : Nat} (h : objs_cctxCmd.testBit k = true) := Mask.bit h hO
  have S {k : Nat} (h : parts_cctxCmd.testBit k = true) := Mask.bit h hP
  unfold Device.cctxCmd
  try simp only
  repeat' first
    | with_reducible exact hM
    | with_reducible exact Moves.refl ..
    | with_reducible refine Moves.set ?_ (B (by decide)) (by decide)
    | with_reducible refine Moves.cmdReads ?_ (B (by dsimp only; decide)) (by dsimp only; decide)
    | with_reducible refine Moves.journal ?_ (O (by decide)) (P (by decide))
    | with_reducible refine Moves.freeResiduals ?_ (O (by decide)) (P (by decide))
    | with_reducible refine Moves.ite (fun _ => ?_) (fun _ => ?_)
    | with_reducible refine Moves.ite1 (fun _ => ?_) (fun _ => ?_)
    | split
    | dsimp only

def objs_allocProj : Nat := 0x34000000000000000000000000000000000000000000000000000000000000000000000000000000000000000000000000000000000000000000000000000000c7e00000000000000000000
def parts_allocProj : Nat := 0xc03a9
theorem Moves.allocProj {p k : Nat} {z0 : Nat} {z1 : List Nat} (hM : Moves d₀ e₀ mo mp) (hO : Mask.le objs_allocProj mo) (hP : Mask.le parts_allocProj mp) :
    Moves d₀ (e₀.allocProj p k z0 z1).1 mo mp := by
  have O {a : Nat} (h : (a &&& objs_allocProj == a) = true) := Mask.le_trans h hO
  have P {a : Nat} (h : (a &&& parts_allocProj == a) = true) := Mask.le_trans h hP
  induction z0 generalizing e₀ z1 with
  | zero => exact hM
  | succ n ih =>
  unfold Device.allocProj
  try simp only
  repeat' first
    | with_reducible exact hM
    | with_reducible exact Moves.refl ..
    | with_reducible apply ih
    | with_reducible refine Moves.freeAll ?_ (O (by decide)) (P (by decide))
    | with_reducible refine Moves.alloc ?_ (O (by decide)) (P (by decide))
    | split
    | dsimp only

def objs_cmpStart : Nat := 0x34000000000000000000000000000000000000000000000000000000000000000000000000000000000000000068020000000000000000000000000000000000c7e00000000000000000000
def parts_cmpStart : Nat := 0x40c83a9
theorem Moves.cmpStart {p k slot step launch blocks : Nat} (hM : Moves d₀ e₀ mo mp) (hO : Mask.le objs_cmpStart mo) (hP : Mask.le parts_cmpStart mp) :
    Moves d₀ (e₀.cmpStart p k slot step launch blocks).1 mo mp := by
  have O {a : Nat} (h : (a &&& objs_cmpStart == a) = true) := Mask.le_trans h hO
  have P {a : Nat} (h : (a &&& parts_cmpStart == a) = true) := Mask.le_trans h hP
  have B {k : Nat} (h : objs_cmpStart.testBit k = true) := Mask.bit h hO
  have S {k : Nat} (h : parts_cmpStart.testBit k = true) := Mask.bit h hP
  unfold Device.cmpStart
  try simp only
  repeat' first
    | with_reducible exact hM
    | with_reducible exact Moves.refl ..
    | with_reducible refine Moves.set ?_ (B (by decide)) (by decide)
    | with_reducible refine Moves.bump ?_ (B (by decide)) (by decide) (S (by decide))
    | with_reducible refine Moves.setCctx ?_ (O (by decide)) (P (by decide))
    | with_reducible refine Moves.allocProj ?_ (O (by decide)) (P (by decide))
    | with_reducible refine Moves.noteCctx ?_ (O (by decide)) (P (by decide))
    | with_reducible refine Moves.ite (fun _ => ?_) (fun _ => ?_)
    | with_reducible refine Moves.ite1 (fun _ => ?_) (fun _ => ?_)
    | split
    | with_reducible refine Moves.with_rows ?_ (S (by decide))
    | dsimp only

def objs_cmpRestart : Nat := 0x0
def parts_cmpRestart : Nat := 0x4008000
theorem Moves.cmpRestart {p k : Nat} (hM : Moves d₀ e₀ mo mp) (hO : Mask.le objs_cmpRestart mo) (hP : Mask.le parts_cmpRestart mp) :
    Moves d₀ (e₀.cmpRestart p k) mo mp := by
  have O {a : Nat} (h : (a &&& objs_cmpRestart == a) = true) := Mask.le_trans h hO
  have P {a : Nat} (h : (a &&& parts_cmpRestart == a) = true) := Mask.le_trans h hP
  have S {k : Nat} (h : parts_cmpRestart.testBit k = true) := Mask.bit h hP
  unfold Device.cmpRestart
  try simp only
  repeat' first
    | with_reducible exact hM
    | with_reducible exact Moves.refl ..
    | with_reducible refine Moves.setCctx ?_ (O (by decide)) (P (by decide))
    | with_reducible refine Moves.with_rows ?_ (S (by decide))
    | dsimp only

def objs_cmpEnd : Nat := 0x3400000000000000000000000000000000000000000000000000000000000000000000000000000000000000006800000000000000000000000000000000000000c00000000000000000000
def parts_cmpEnd : Nat := 0x40c82a1
theorem Moves.cmpEnd {p k : Nat} (hM : Moves d₀ e₀ mo mp) (hO : Mask.le objs_cmpEnd mo) (hP : Mask.le parts_cmpEnd mp) :
    Moves d₀ (e₀.cmpEnd p k) mo mp := by
  have O {a : Nat} (h : (a &&& objs_cmpEnd == a) = true) := Mask.le_trans h hO
  have P {a : Nat} (h : (a &&& parts_cmpEnd == a) = true) := Mask.le_trans h hP
  have B {k : Nat} (h : objs_cmpEnd.testBit k = true) := Mask.bit h hO
  have S {k : Nat} (h : parts_cmpEnd.testBit k = true) := Mask.bit h hP
  unfold Device.cmpEnd
  try simp only
  repeat' first
    | with_reducible exact hM
    | with_reducible exact Moves.refl ..
    | with_reducible refine Moves.set ?_ (B (by decide)) (by decide)
    | with_reducible refine Moves.setCctx ?_ (O (by decide)) (P (by decide))
    | with_reducible refine Moves.noteCctx ?_ (O (by decide)) (P (by decide))
    | with_reducible refine Moves.freeAll ?_ (O (by decide)) (P (by decide))
    | with_reducible refine Moves.with_rows ?_ (S (by decide))
    | dsimp only

def objs_cmpCommit : Nat := 0x340000000000000000000000000000000000000000000000000000000000000000000000000000000000000000e800000000000000000000000000000000000000c00000000000000000000
def parts_cmpCommit : Nat := 0x40c82a1
theorem Moves.cmpCommit {p k : Nat} (hM : Moves d₀ e₀ mo mp) (hO : Mask.le objs_cmpCommit mo) (hP : Mask.le parts_cmpCommit mp) :
    Moves d₀ (e₀.cmpCommit p k) mo mp := by
  have O {a : Nat} (h : (a &&& objs_cmpCommit == a) = true) := Mask.le_trans h hO
  have P {a : Nat} (h : (a &&& parts_cmpCommit == a) = true) := Mask.le_trans h hP
  have B {k : Nat} (h : objs_cmpCommit.testBit k = true) := Mask.bit h hO
  have S {k : Nat} (h : parts_cmpCommit.testBit k = true) := Mask.bit h hP
  unfold Device.cmpCommit
  try simp only
  repeat' first
    | with_reducible exact hM
    | with_reducible exact Moves.refl ..
    | with_reducible refine Moves.bump ?_ (B (by decide)) (by decide) (S (by decide))
    | with_reducible refine Moves.setCctx ?_ (O (by decide)) (P (by decide))
    | with_reducible refine Moves.cmpEnd ?_ (O (by decide)) (P (by decide))
    | with_reducible refine Moves.foldl ?_ (fun d a => ?_)
    | with_reducible refine Moves.ite (fun _ => ?_) (fun _ => ?_)
    | with_reducible refine Moves.ite1 (fun _ => ?_) (fun _ => ?_)
    | split
    | dsimp only

def objs_sendContrib : Nat := 0x3400000000000000000000000000000000000000000000000000000000000000000000000000000000000000000000000000000000000000000400000000000000000000028000000000000
def parts_sendContrib : Nat := 0xa42e1
theorem Moves.sendContrib {p dev ctx att tenant code b0 : Nat} {l : List (Blk × Bool)} (hM : Moves d₀ e₀ mo mp) (hO : Mask.le objs_sendContrib mo) (hP : Mask.le parts_sendContrib mp) :
    Moves d₀ (e₀.sendContrib p dev ctx att tenant code b0 l) mo mp := by
  have O {a : Nat} (h : (a &&& objs_sendContrib == a) = true) := Mask.le_trans h hO
  have P {a : Nat} (h : (a &&& parts_sendContrib == a) = true) := Mask.le_trans h hP
  unfold Device.sendContrib
  try simp only
  repeat' first
    | with_reducible exact hM
    | with_reducible exact Moves.refl ..
    | with_reducible refine Moves.foldl1 ?_ (fun s a => ?_)
    | with_reducible refine Moves.sendOwn ?_ (O (by decide)) (P (by decide))
    | with_reducible refine Moves.foldl ?_ (fun d a => ?_)
    | with_reducible refine Moves.ite (fun _ => ?_) (fun _ => ?_)
    | with_reducible refine Moves.ite1 (fun _ => ?_) (fun _ => ?_)
    | split
    | dsimp only

def objs_sendRows : Nat := 0x3400000000000000000000000000000000000000000000000000000000000000000000000000000000000000000000800000000000000000000400000000000000000000028000000000000
def parts_sendRows : Nat := 0x40ac2e1
theorem Moves.sendRows {p k dev ctx att : Nat} (hM : Moves d₀ e₀ mo mp) (hO : Mask.le objs_sendRows mo) (hP : Mask.le parts_sendRows mp) :
    Moves d₀ (e₀.sendRows p k dev ctx att) mo mp := by
  have O {a : Nat} (h : (a &&& objs_sendRows == a) = true) := Mask.le_trans h hO
  have P {a : Nat} (h : (a &&& parts_sendRows == a) = true) := Mask.le_trans h hP
  have B {k : Nat} (h : objs_sendRows.testBit k = true) := Mask.bit h hO
  have S {k : Nat} (h : parts_sendRows.testBit k = true) := Mask.bit h hP
  unfold Device.sendRows
  try simp only
  repeat' first
    | with_reducible exact hM
    | with_reducible exact Moves.refl ..
    | with_reducible refine Moves.count ?_ (B (by first | decide | (split <;> decide) | (cases m <;> decide))) (by first | decide | (split <;> decide) | (cases m <;> decide)) (S (by decide))
    | with_reducible refine Moves.setCctx ?_ (O (by decide)) (P (by decide))
    | with_reducible refine Moves.sendOwn ?_ (O (by decide)) (P (by decide))
    | with_reducible refine Moves.ite (fun _ => ?_) (fun _ => ?_)
    | with_reducible refine Moves.ite1 (fun _ => ?_) (fun _ => ?_)
    | split
    | with_reducible refine Moves.with_rows ?_ (S (by decide))
    | dsimp only

def objs_cmpUnit : Nat := 0x3400000000000000000000000000000000000000000000000000000000000000000000000000000000000000006009e000000000000000000004000000000000c7200000028000000000000
def parts_cmpUnit : Nat := 0x40ec3e9
theorem Moves.cmpUnit {p k : Nat} (hM : Moves d₀ e₀ mo mp) (hO : Mask.le objs_cmpUnit mo) (hP : Mask.le parts_cmpUnit mp) :
    Moves d₀ (e₀.cmpUnit p k) mo mp := by
  have O {a : Nat} (h : (a &&& objs_cmpUnit == a) = true) := Mask.le_trans h hO
  have P {a : Nat} (h : (a &&& parts_cmpUnit == a) = true) := Mask.le_trans h hP
  have B {k : Nat} (h : objs_cmpUnit.testBit k = true) := Mask.bit h hO
  have S {k : Nat} (h : parts_cmpUnit.testBit k = true) := Mask.bit h hP
  unfold Device.cmpUnit
  extract_lets c v s b0 nb x ef e0 n spans d1 c1 plain gs g o dev tn low c2 c3 row d2 full
  have h1 : Moves d₀ d1 mo mp := by
    unfold d1
    exact Moves.ite (fun _ => hM.foldl (fun d a => (Moves.refl ..).needSpan (O (by decide)) (P (by decide)))) (fun _ => hM)
  clear_value d1
  have h2 : Moves d₀ d2 mo mp := h1.setCctx (O (by decide)) (P (by decide))
  clear_value d2
  split
  · exact hM
  refine Moves.ite (fun _ => hM) (fun _ => ?_)
  extract_lets dA cA dB d3 d4 d5 d6
  have hA : Moves d₀ dA mo mp := h2.sendRows (O (by decide)) (P (by decide))
  clear_value dA
  have hB : Moves d₀ dB mo mp := hA.setCctx (O (by decide)) (P (by decide))
  clear_value dB
  have h3 : Moves d₀ d3 mo mp := by
    unfold d3
    exact Moves.ite (fun _ => Moves.ite (fun _ => h2.sendRows (O (by decide)) (P (by decide))) (fun _ => h2))
      (fun _ => (hB.sendContrib (O (by decide)) (P (by decide))).count (B (by decide)) (by decide) (S (by decide)))
  clear_value d3
  have h4 : Moves d₀ d4 mo mp := h3.sendContrib (O (by decide)) (P (by decide))
  clear_value d4
  have h5 : Moves d₀ d5 mo mp := (h4.count (B (by decide)) (by decide) (S (by decide))).count (B (by decide)) (by decide) (S (by decide))
  clear_value d5
  have h6 : Moves d₀ d6 mo mp := by
    unfold d6
    exact Moves.ite (fun _ => h5.count (B (by decide)) (by decide) (S (by decide))) (fun _ => h5)
  clear_value d6
  exact Moves.ite (fun _ => h6.bump (B (by decide)) (by decide) (S (by decide))) (fun _ => h6)

def objs_lrTile : Nat := 0x3400000000000000000000000000000000000000000000000000000000000000000000000000000000000000000004200000000000000000001c00000000000000000000028000000000000
def parts_lrTile : Nat := 0xa42e1
theorem Moves.lrTile {p : Nat} {f : Frame} (hM : Moves d₀ e₀ mo mp) (hO : Mask.le objs_lrTile mo) (hP : Mask.le parts_lrTile mp) :
    Moves d₀ (e₀.lrTile p f).1 mo mp := by
  have O {a : Nat} (h : (a &&& objs_lrTile == a) = true) := Mask.le_trans h hO
  have P {a : Nat} (h : (a &&& parts_lrTile == a) = true) := Mask.le_trans h hP
  have B {k : Nat} (h : objs_lrTile.testBit k = true) := Mask.bit h hO
  have S {k : Nat} (h : parts_lrTile.testBit k = true) := Mask.bit h hP
  unfold Device.lrTile
  try simp only
  repeat' first
    | with_reducible exact hM
    | with_reducible exact Moves.refl ..
    | with_reducible refine Moves.bump ?_ (B (by first | decide | (split <;> decide) | (cases m <;> decide))) (by first | decide | (split <;> decide) | (cases m <;> decide)) (S (by decide))
    | with_reducible refine Moves.count ?_ (B (by first | decide | (split <;> decide) | (cases m <;> decide))) (by first | decide | (split <;> decide) | (cases m <;> decide)) (S (by decide))
    | with_reducible refine Moves.causeCollective ?_ (O (by decide)) (P (by decide))
    | with_reducible refine Moves.sendContrib ?_ (O (by decide)) (P (by decide))
    | with_reducible refine Moves.foldl ?_ (fun d a => ?_)
    | with_reducible refine Moves.ite (fun _ => ?_) (fun _ => ?_)
    | with_reducible refine Moves.ite1 (fun _ => ?_) (fun _ => ?_)
    | split
    | dsimp only


def objs_sendMsg : Nat := 0x3400000000000000000000000000000000000000000000000000000000000000000000000000000000000000000000000000000000000000000400000000000000000000028000000000000
def parts_sendMsg : Nat := 0xa42e1
theorem Moves.sendMsg {p sl typ arg attempt status value dev port : Nat} (hM : Moves d₀ e₀ mo mp) (hO : Mask.le objs_sendMsg mo) (hP : Mask.le parts_sendMsg mp) :
    Moves d₀ (e₀.sendMsg p sl typ arg attempt status value dev port) mo mp := by
  have O {a : Nat} (h : (a &&& objs_sendMsg == a) = true) := Mask.le_trans h hO
  have P {a : Nat} (h : (a &&& parts_sendMsg == a) = true) := Mask.le_trans h hP
  unfold Device.sendMsg
  try simp only
  repeat' first
    | with_reducible exact hM
    | with_reducible exact Moves.refl ..
    | with_reducible refine Moves.sendOwn ?_ (O (by decide)) (P (by decide))
    | dsimp only

def objs_tellMembers : Nat := 0x3400000000000000000000000000000000000000000000000000000000000000000000000000000000000000000000000000000000000000000400000000000000000000028000000000000
def parts_tellMembers : Nat := 0xa42e1
theorem Moves.tellMembers {p sl typ arg attempt status value : Nat} (hM : Moves d₀ e₀ mo mp) (hO : Mask.le objs_tellMembers mo) (hP : Mask.le parts_tellMembers mp) :
    Moves d₀ (e₀.tellMembers p sl typ arg attempt status value) mo mp := by
  have O {a : Nat} (h : (a &&& objs_tellMembers == a) = true) := Mask.le_trans h hO
  have P {a : Nat} (h : (a &&& parts_tellMembers == a) = true) := Mask.le_trans h hP
  unfold Device.tellMembers
  try simp only
  repeat' first
    | with_reducible exact hM
    | with_reducible exact Moves.refl ..
    | with_reducible refine Moves.sendMsg ?_ (O (by decide)) (P (by decide))
    | with_reducible refine Moves.foldl ?_ (fun d a => ?_)
    | dsimp only

def objs_failSlot : Nat := 0x3400000000000000000000000000000000000000000000000000000000000000000000000000000000000000006800000000001800000211808400000000000000c00000028000000000000
def parts_failSlot : Nat := 0x58ec2e1
theorem Moves.failSlot {p sl status : Nat} (hM : Moves d₀ e₀ mo mp) (hO : Mask.le objs_failSlot mo) (hP : Mask.le parts_failSlot mp) :
    Moves d₀ (e₀.failSlot p sl status) mo mp := by
  have O {a : Nat} (h : (a &&& objs_failSlot == a) = true) := Mask.le_trans h hO
  have P {a : Nat} (h : (a &&& parts_failSlot == a) = true) := Mask.le_trans h hP
  have B {k : Nat} (h : objs_failSlot.testBit k = true) := Mask.bit h hO
  have S {k : Nat} (h : parts_failSlot.testBit k = true) := Mask.bit h hP
  unfold Device.failSlot
  try simp only
  repeat' first
    | with_reducible exact hM
    | with_reducible exact Moves.refl ..
    | with_reducible refine Moves.set ?_ (B (by decide)) (by decide)
    | with_reducible refine Moves.setSlot ?_ (O (by decide)) (P (by decide))
    | with_reducible refine Moves.causeCollective ?_ (O (by decide)) (P (by decide))
    | with_reducible refine Moves.tellMembers ?_ (O (by decide)) (P (by decide))
    | with_reducible refine Moves.sendMsg ?_ (O (by decide)) (P (by decide))
    | with_reducible refine Moves.cmpEnd ?_ (O (by decide)) (P (by decide))
    | with_reducible refine Moves.dropCtxs ?_ (O (by decide)) (P (by decide))
    | with_reducible refine Moves.foldl ?_ (fun d a => ?_)
    | with_reducible refine Moves.ite (fun _ => ?_) (fun _ => ?_)
    | with_reducible refine Moves.ite1 (fun _ => ?_) (fun _ => ?_)
    | split
    | dsimp only

def objs_signalObj : Nat := 0x600000001000000000000000000000000000000000000000000000
def parts_signalObj : Nat := 0x1
theorem Moves.signalObj {p o v : Nat} (hM : Moves d₀ e₀ mo mp) (hO : Mask.le objs_signalObj mo) (hP : Mask.le parts_signalObj mp) :
    Moves d₀ (e₀.signalObj p o v) mo mp := by
  have O {a : Nat} (h : (a &&& objs_signalObj == a) = true) := Mask.le_trans h hO
  have P {a : Nat} (h : (a &&& parts_signalObj == a) = true) := Mask.le_trans h hP
  have B {k : Nat} (h : objs_signalObj.testBit k = true) := Mask.bit h hO
  have S {k : Nat} (h : parts_signalObj.testBit k = true) := Mask.bit h hP
  unfold Device.signalObj
  try simp only
  repeat' first
    | with_reducible exact hM
    | with_reducible exact Moves.refl ..
    | with_reducible refine Moves.set ?_ (B (by decide)) (by decide)
    | with_reducible refine Moves.bump ?_ (B (by decide)) (by decide) (S (by decide))
    | with_reducible refine Moves.ite (fun _ => ?_) (fun _ => ?_)
    | with_reducible refine Moves.ite1 (fun _ => ?_) (fun _ => ?_)
    | split
    | dsimp only

def objs_fireNotifies : Nat := 0x3400000000000000000000000000000000000000000000000000000000000000000000000000000000000000000000000000000000000000000400000000000000000000028000000000000
def parts_fireNotifies : Nat := 0x20a42e1
theorem Moves.fireNotifies {p : Nat} (hM : Moves d₀ e₀ mo mp) (hO : Mask.le objs_fireNotifies mo) (hP : Mask.le parts_fireNotifies mp) :
    Moves d₀ (e₀.fireNotifies p) mo mp := by
  have O {a : Nat} (h : (a &&& objs_fireNotifies == a) = true) := Mask.le_trans h hO
  have P {a : Nat} (h : (a &&& parts_fireNotifies == a) = true) := Mask.le_trans h hP
  have S {k : Nat} (h : parts_fireNotifies.testBit k = true) := Mask.bit h hP
  unfold Device.fireNotifies
  try simp only
  repeat' first
    | with_reducible exact hM
    | with_reducible exact Moves.refl ..
    | with_reducible refine Moves.sendMsg ?_ (O (by decide)) (P (by decide))
    | with_reducible refine Moves.foldl ?_ (fun d a => ?_)
    | with_reducible refine Moves.with_notifies ?_ (S (by decide))
    | dsimp only

def objs_freeCtx : Nat := 0x800000000000000000000000000000000000000
def parts_freeCtx : Nat := 0x800000
theorem Moves.freeCtx {p x : Nat} (hM : Moves d₀ e₀ mo mp) (hO : Mask.le objs_freeCtx mo) (hP : Mask.le parts_freeCtx mp) :
    Moves d₀ (e₀.freeCtx p x) mo mp := by
  have O {a : Nat} (h : (a &&& objs_freeCtx == a) = true) := Mask.le_trans h hO
  have P {a : Nat} (h : (a &&& parts_freeCtx == a) = true) := Mask.le_trans h hP
  unfold Device.freeCtx
  try simp only
  repeat' first
    | with_reducible exact hM
    | with_reducible exact Moves.refl ..
    | with_reducible refine Moves.releaseCtx ?_ (O (by decide)) (P (by decide))
    | dsimp only

def objs_ctxNotice : Nat := 0x3400000000000000000000000000000000000000000000000000000000000000000000000000000000000000000000000000000000000000000400000000000000000000028000000000000
def parts_ctxNotice : Nat := 0xa42e1
theorem Moves.ctxNotice {p x : Nat} (hM : Moves d₀ e₀ mo mp) (hO : Mask.le objs_ctxNotice mo) (hP : Mask.le parts_ctxNotice mp) :
    Moves d₀ (e₀.ctxNotice p x) mo mp := by
  have O {a : Nat} (h : (a &&& objs_ctxNotice == a) = true) := Mask.le_trans h hO
  have P {a : Nat} (h : (a &&& parts_ctxNotice == a) = true) := Mask.le_trans h hP
  unfold Device.ctxNotice
  try simp only
  repeat' first
    | with_reducible exact hM
    | with_reducible exact Moves.refl ..
    | with_reducible refine Moves.tellMembers ?_ (O (by decide)) (P (by decide))
    | with_reducible refine Moves.ite (fun _ => ?_) (fun _ => ?_)
    | with_reducible refine Moves.ite1 (fun _ => ?_) (fun _ => ?_)
    | split
    | dsimp only

def objs_stepLaunch : Nat := 0x340000000000000000000000000000000000000000000000000000000000000000000000000000000000000000000000000000000000020ff16400000000000000000000028000000000000
def parts_stepLaunch : Nat := 0x8a42e1
theorem Moves.stepLaunch {p sl i x desc : Nat} (hM : Moves d₀ e₀ mo mp) (hO : Mask.le objs_stepLaunch mo) (hP : Mask.le parts_stepLaunch mp) :
    Moves d₀ (e₀.stepLaunch p sl i x desc).1 mo mp := by
  have O {a : Nat} (h : (a &&& objs_stepLaunch == a) = true) := Mask.le_trans h hO
  have P {a : Nat} (h : (a &&& parts_stepLaunch == a) = true) := Mask.le_trans h hP
  have B {k : Nat} (h : objs_stepLaunch.testBit k = true) := Mask.bit h hO
  have S {k : Nat} (h : parts_stepLaunch.testBit k = true) := Mask.bit h hP
  unfold Device.stepLaunch
  try simp only
  repeat' first
    | with_reducible exact hM
    | with_reducible exact Moves.refl ..
    | with_reducible refine Moves.set ?_ (B (by first | decide | (split <;> decide))) (by first | decide | (split <;> decide))
    | with_reducible refine Moves.bump ?_ (B (by first | decide | (split <;> decide))) (by first | decide | (split <;> decide)) (S (by decide))
    | with_reducible refine Moves.setRctx ?_ (O (by decide)) (P (by decide))
    | with_reducible refine Moves.ctxNotice ?_ (O (by decide)) (P (by decide))
    | with_reducible refine Moves.freeCtx ?_ (O (by decide)) (P (by decide))
    | with_reducible refine Moves.restartCtx ?_ (O (by decide)) (P (by decide))
    | with_reducible refine Moves.giveBack ?_ (O (by decide)) (P (by decide))
    | with_reducible refine Moves.launchCtx ?_ (O (by decide)) (P (by decide))
    | with_reducible refine Moves.hold ?_ (O (by decide)) (P (by decide))
    | with_reducible refine Moves.ite (fun _ => ?_) (fun _ => ?_)
    | with_reducible refine Moves.ite1 (fun _ => ?_) (fun _ => ?_)
    | split
    | dsimp only

def objs_sendBounds : Nat := 0x3400000000000000000000000000000000000000000000000000000000000000000000000000000000000000000000000000000000000000000400000000000000000000028000000000000
def parts_sendBounds : Nat := 0xa42e1
theorem Moves.sendBounds {p sl x dev uctx att : Nat} (hM : Moves d₀ e₀ mo mp) (hO : Mask.le objs_sendBounds mo) (hP : Mask.le parts_sendBounds mp) :
    Moves d₀ (e₀.sendBounds p sl x dev uctx att) mo mp := by
  have O {a : Nat} (h : (a &&& objs_sendBounds == a) = true) := Mask.le_trans h hO
  have P {a : Nat} (h : (a &&& parts_sendBounds == a) = true) := Mask.le_trans h hP
  unfold Device.sendBounds
  try simp only
  repeat' first
    | with_reducible exact hM
    | with_reducible exact Moves.refl ..
    | with_reducible refine Moves.sendOwn ?_ (O (by decide)) (P (by decide))
    | with_reducible refine Moves.foldl ?_ (fun d a => ?_)
    | dsimp only

def objs_nameDest : Nat := 0x100000000000000000
def parts_nameDest : Nat := 0x800000
theorem Moves.nameDest {p sl x aux : Nat} {remote : Bool} {r} (hr : e₀.nameDest p sl x aux remote = some r) (hM : Moves d₀ e₀ mo mp) (hO : Mask.le objs_nameDest mo) (hP : Mask.le parts_nameDest mp) :
    Moves d₀ r mo mp := by
  have O {a : Nat} (h : (a &&& objs_nameDest == a) = true) := Mask.le_trans h hO
  have P {a : Nat} (h : (a &&& parts_nameDest == a) = true) := Mask.le_trans h hP
  unfold Device.nameDest at hr
  try simp only at hr
  repeat' split at hr
  all_goals try (cases hr)
  all_goals try dsimp only
  repeat' first
    | with_reducible exact hM
    | with_reducible exact Moves.refl ..
    | with_reducible refine Moves.setRctx ?_ (O (by decide)) (P (by decide))
    | with_reducible refine Moves.ite (fun _ => ?_) (fun _ => ?_)
    | with_reducible refine Moves.ite1 (fun _ => ?_) (fun _ => ?_)
    | split
    | dsimp only
    | refine Moves.fillSet (by assumption) ?_ (O (by decide)) (P (by decide))

def objs_stepAct : Nat := 0x340000000000000000000000000000000000000000000000000000000000000000000000000000000000000000680200060000180100021ff1e4000000000000c7e00100028000000000000
def parts_stepAct : Nat := 0x58ec3e9
theorem Moves.stepAct {p sl : Nat} (hM : Moves d₀ e₀ mo mp) (hO : Mask.le objs_stepAct mo) (hP : Mask.le parts_stepAct mp) :
    Moves d₀ (e₀.stepAct p sl) mo mp := by
  have O {a : Nat} (h : (a &&& objs_stepAct == a) = true) := Mask.le_trans h hO
  have P {a : Nat} (h : (a &&& parts_stepAct == a) = true) := Mask.le_trans h hP
  have B {k : Nat} (h : objs_stepAct.testBit k = true) := Mask.bit h hO
  have S {k : Nat} (h : parts_stepAct.testBit k = true) := Mask.bit h hP
  unfold Device.stepAct
  extract_lets i w k x live n src d1 orFail own r1 desc again r2 d2 r3 src0 d9 t b desc2 r4 src3
  have h1 : Moves d₀ d1 mo mp := hM.setSlot (O (by decide)) (P (by decide))
  clear_value d1
  have hf (e : Device) (c : Nat) (he : Moves d₀ e mo mp) : Moves d₀ (e.failSlot p sl c) mo mp := he.failSlot (O (by decide)) (P (by decide))
  have hl (e : Device) (a b c : Nat) (he : Moves d₀ e mo mp) : Moves d₀ (e.stepLaunch p sl a b c).1 mo mp := he.stepLaunch (O (by decide)) (P (by decide))
  have ho (r : Device × Bool) (hr : Moves d₀ r.1 mo mp) : Moves d₀ (orFail r) mo mp := by
    unfold orFail
    split
    · exact hr
    · exact hf _ _ hr
  clear_value orFail
  have g1 : Moves d₀ r1.1 mo mp := by
    unfold r1
    split
    · exact h1
    · exact hl _ _ _ _ h1
  clear_value r1
  have g2 : Moves d₀ r2.1 mo mp := by
    unfold r2
    split
    · exact h1.cmpRestart (O (by decide)) (P (by decide))
    · exact h1.cmpStart (O (by decide)) (P (by decide))
  clear_value r2
  have g3 : Moves d₀ r3.1 mo mp := hl _ _ _ _ g2
  clear_value r3
  have g4 : Moves d₀ r4.1 mo mp := hl _ _ _ _ h1
  clear_value r4
  refine Moves.ite (fun _ => h1.signalObj (O (by decide)) (P (by decide))) (fun _ => ?_)
  refine Moves.ite (fun _ => ho _ (hl _ _ _ _ h1)) (fun _ => ?_)
  refine Moves.ite (fun _ => ?_) (fun _ => ?_)
  · refine Moves.ite (fun _ => hf _ _ g1) (fun _ => ?_)
    split
    · exact Moves.nameDest (by assumption) g1 (O (by decide)) (P (by decide))
    · exact hf _ _ g1
  refine Moves.ite (fun _ => ?_) (fun _ => ?_)
  · exact Moves.ite (fun _ => hf _ _ g2) (fun _ => Moves.ite (fun _ => hf _ _ g3) (fun _ => g3.sendMsg (O (by decide)) (P (by decide))))
  refine Moves.ite (fun _ => ?_) (fun _ => ?_)
  · split
    · exact Moves.nameDest (by assumption) h1 (O (by decide)) (P (by decide))
    · exact hf _ _ h1
  have g9 : Moves d₀ d9 mo mp := by
    unfold d9
    exact Moves.ite (fun _ => h1.setSlot (O (by decide)) (P (by decide))) (fun _ => h1)
  clear_value d9
  refine Moves.ite (fun _ => ?_) (fun _ => ?_)
  · split
    · exact Moves.fillSet (by assumption) g9 (O (by decide)) (P (by decide))
    · exact hf _ _ g9
  refine Moves.ite (fun _ => h1.setSlot (O (by decide)) (P (by decide))) (fun _ => ?_)
  refine Moves.ite (fun _ => h1.setSlot (O (by decide)) (P (by decide))) (fun _ => ?_)
  refine Moves.ite (fun _ => ?_) (fun _ => h1)
  refine Moves.ite (fun _ => hf _ _ (h1.bump (B (by decide)) (by decide) (S (by decide)))) (fun _ => ?_)
  exact Moves.ite (fun _ => g4.setRctx (O (by decide)) (P (by decide))) (fun _ => hf _ _ g4)

def objs_beginLaunch : Nat := 0x3400000000000000000000000000000000000000000000000000000000000000000000000000000000000000006800000000003800000211808400000000000000c00100028000000000000
def parts_beginLaunch : Nat := 0x58ec2e1
theorem Moves.beginLaunch {p sl n : Nat} (hM : Moves d₀ e₀ mo mp) (hO : Mask.le objs_beginLaunch mo) (hP : Mask.le parts_beginLaunch mp) :
    Moves d₀ (e₀.beginLaunch p sl n) mo mp := by
  have O {a : Nat} (h : (a &&& objs_beginLaunch == a) = true) := Mask.le_trans h hO
  have P {a : Nat} (h : (a &&& parts_beginLaunch == a) = true) := Mask.le_trans h hP
  have B {k : Nat} (h : objs_beginLaunch.testBit k = true) := Mask.bit h hO
  have S {k : Nat} (h : parts_beginLaunch.testBit k = true) := Mask.bit h hP
  unfold Device.beginLaunch
  try simp only
  repeat' first
    | with_reducible exact hM
    | with_reducible exact Moves.refl ..
    | with_reducible refine Moves.set ?_ (B (by decide)) (by decide)
    | (refine Moves.getD ?_ (fun r hr => ?_))
    | with_reducible refine Moves.setSlot ?_ (O (by decide)) (P (by decide))
    | with_reducible refine Moves.failSlot ?_ (O (by decide)) (P (by decide))
    | with_reducible refine Moves.tellMembers ?_ (O (by decide)) (P (by decide))
    | with_reducible refine Moves.foldl ?_ (fun d a => ?_)
    | with_reducible refine Moves.ite (fun _ => ?_) (fun _ => ?_)
    | with_reducible refine Moves.ite1 (fun _ => ?_) (fun _ => ?_)
    | split
    | dsimp only
    | refine Moves.fillSet (by assumption) ?_ (O (by decide)) (P (by decide))

def objs_endLaunch : Nat := 0x3400000000000000000000000000000000000000000000000000000000000000000000000000000000000000006800000000003800000211808400000000000000c00100028000000000000
def parts_endLaunch : Nat := 0x58ec2e1
theorem Moves.endLaunch {p sl : Nat} (hM : Moves d₀ e₀ mo mp) (hO : Mask.le objs_endLaunch mo) (hP : Mask.le parts_endLaunch mp) :
    Moves d₀ (e₀.endLaunch p sl) mo mp := by
  have O {a : Nat} (h : (a &&& objs_endLaunch == a) = true) := Mask.le_trans h hO
  have P {a : Nat} (h : (a &&& parts_endLaunch == a) = true) := Mask.le_trans h hP
  have B {k : Nat} (h : objs_endLaunch.testBit k = true) := Mask.bit h hO
  have S {k : Nat} (h : parts_endLaunch.testBit k = true) := Mask.bit h hP
  unfold Device.endLaunch
  try simp only
  repeat' first
    | with_reducible exact hM
    | with_reducible exact Moves.refl ..
    | with_reducible refine Moves.set ?_ (B (by decide)) (by decide)
    | with_reducible refine Moves.setSlot ?_ (O (by decide)) (P (by decide))
    | with_reducible refine Moves.beginLaunch ?_ (O (by decide)) (P (by decide))
    | with_reducible refine Moves.failSlot ?_ (O (by decide)) (P (by decide))
    | with_reducible refine Moves.tellMembers ?_ (O (by decide)) (P (by decide))
    | with_reducible refine Moves.dropCtxs ?_ (O (by decide)) (P (by decide))
    | with_reducible refine Moves.ite (fun _ => ?_) (fun _ => ?_)
    | with_reducible refine Moves.ite1 (fun _ => ?_) (fun _ => ?_)
    | split
    | dsimp only

def objs_leaveStep : Nat := 0x2000000000800000000000000000000000000000000000000
def parts_leaveStep : Nat := 0x1800000
theorem Moves.leaveStep {p sl : Nat} (hM : Moves d₀ e₀ mo mp) (hO : Mask.le objs_leaveStep mo) (hP : Mask.le parts_leaveStep mp) :
    Moves d₀ (e₀.leaveStep p sl) mo mp := by
  have O {a : Nat} (h : (a &&& objs_leaveStep == a) = true) := Mask.le_trans h hO
  have P {a : Nat} (h : (a &&& parts_leaveStep == a) = true) := Mask.le_trans h hP
  have B {k : Nat} (h : objs_leaveStep.testBit k = true) := Mask.bit h hO
  have S {k : Nat} (h : parts_leaveStep.testBit k = true) := Mask.bit h hP
  unfold Device.leaveStep
  try simp only
  repeat' first
    | with_reducible exact hM
    | with_reducible exact Moves.refl ..
    | with_reducible refine Moves.set ?_ (B (by decide)) (by decide)
    | with_reducible refine Moves.setSlot ?_ (O (by decide)) (P (by decide))
    | with_reducible refine Moves.releaseCtx ?_ (O (by decide)) (P (by decide))
    | with_reducible refine Moves.ite (fun _ => ?_) (fun _ => ?_)
    | with_reducible refine Moves.ite1 (fun _ => ?_) (fun _ => ?_)
    | split
    | dsimp only

def objs_forwardUp : Nat := 0x3400000000000000000000000000000000000000000000000000000000000000000000000000000000000000000000000000000000000000000400000000000000000000028000000000000
def parts_forwardUp : Nat := 0x10a42e1
theorem Moves.forwardUp {p sl att : Nat} (hM : Moves d₀ e₀ mo mp) (hO : Mask.le objs_forwardUp mo) (hP : Mask.le parts_forwardUp mp) :
    Moves d₀ (e₀.forwardUp p sl att) mo mp := by
  have O {a : Nat} (h : (a &&& objs_forwardUp == a) = true) := Mask.le_trans h hO
  have P {a : Nat} (h : (a &&& parts_forwardUp == a) = true) := Mask.le_trans h hP
  unfold Device.forwardUp
  try simp only
  repeat' first
    | with_reducible exact hM
    | with_reducible exact Moves.refl ..
    | with_reducible refine Moves.setSlot ?_ (O (by decide)) (P (by decide))
    | with_reducible refine Moves.sendBounds ?_ (O (by decide)) (P (by decide))
    | split
    | dsimp only

def objs_sendCounts : Nat := 0x3400000000000000000000000000000000000000000000000000000000000000000000000000000000000000000000000000000000000000000400000000000000000000028000000000000
def parts_sendCounts : Nat := 0xa42e1
theorem Moves.sendCounts {p sl v : Nat} {totals last : Bool} {first : Nat} {es : List (Nat × Nat)} (hM : Moves d₀ e₀ mo mp) (hO : Mask.le objs_sendCounts mo) (hP : Mask.le parts_sendCounts mp) :
    Moves d₀ (e₀.sendCounts p sl v totals last first es) mo mp := by
  have O {a : Nat} (h : (a &&& objs_sendCounts == a) = true) := Mask.le_trans h hO
  have P {a : Nat} (h : (a &&& parts_sendCounts == a) = true) := Mask.le_trans h hP
  unfold Device.sendCounts
  try simp only
  repeat' first
    | with_reducible exact hM
    | with_reducible exact Moves.refl ..
    | with_reducible refine Moves.sendOwn ?_ (O (by decide)) (P (by decide))
    | with_reducible refine Moves.ite (fun _ => ?_) (fun _ => ?_)
    | with_reducible refine Moves.ite1 (fun _ => ?_) (fun _ => ?_)
    | split
    | dsimp only

def objs_countsReplies : Nat := 0x3400000000000000000000000000000000000000000000000000000000000000000000000000000000000000000000000000000000000000000400000000000000000000028000000000000
def parts_countsReplies : Nat := 0xa42e1
theorem Moves.countsReplies {p sl aux : Nat} (hM : Moves d₀ e₀ mo mp) (hO : Mask.le objs_countsReplies mo) (hP : Mask.le parts_countsReplies mp) :
    Moves d₀ (e₀.countsReplies p sl aux) mo mp := by
  have O {a : Nat} (h : (a &&& objs_countsReplies == a) = true) := Mask.le_trans h hO
  have P {a : Nat} (h : (a &&& parts_countsReplies == a) = true) := Mask.le_trans h hP
  unfold Device.countsReplies
  try simp only
  repeat' first
    | with_reducible exact hM
    | with_reducible exact Moves.refl ..
    | with_reducible refine Moves.sendCounts ?_ (O (by decide)) (P (by decide))
    | with_reducible refine Moves.foldl ?_ (fun d a => ?_)
    | with_reducible refine Moves.ite (fun _ => ?_) (fun _ => ?_)
    | with_reducible refine Moves.ite1 (fun _ => ?_) (fun _ => ?_)
    | split
    | dsimp only

def objs_countsClose : Nat := 0x3400000000000000000000000000000000000000000000000000000000000000000000000000000000000000006800000000001800000211808400000000000000c00000028000000000000
def parts_countsClose : Nat := 0x58ec2e1
theorem Moves.countsClose {p sl i aux : Nat} (hM : Moves d₀ e₀ mo mp) (hO : Mask.le objs_countsClose mo) (hP : Mask.le parts_countsClose mp) :
    Moves d₀ (e₀.countsClose p sl i aux) mo mp := by
  have O {a : Nat} (h : (a &&& objs_countsClose == a) = true) := Mask.le_trans h hO
  have P {a : Nat} (h : (a &&& parts_countsClose == a) = true) := Mask.le_trans h hP
  unfold Device.countsClose
  try simp only
  repeat' first
    | with_reducible exact hM
    | with_reducible exact Moves.refl ..
    | with_reducible refine Moves.setSlot ?_ (O (by decide)) (P (by decide))
    | with_reducible refine Moves.countsReplies ?_ (O (by decide)) (P (by decide))
    | with_reducible refine Moves.failSlot ?_ (O (by decide)) (P (by decide))
    | with_reducible refine Moves.ite (fun _ => ?_) (fun _ => ?_)
    | with_reducible refine Moves.ite1 (fun _ => ?_) (fun _ => ?_)
    | split
    | dsimp only

def objs_slotMove : Nat := 0x340000000000000000000000000000000000000000000000000000000000000000000000000000000000000000680200060000380100021ff1e4000000000000c7e00100028000000000000
def parts_slotMove : Nat := 0x58ec3e9
theorem Moves.slotMove {p sl : Nat} {r} (hr : e₀.slotMove p sl = some r) (hM : Moves d₀ e₀ mo mp) (hO : Mask.le objs_slotMove mo) (hP : Mask.le parts_slotMove mp) :
    Moves d₀ r mo mp := by
  have O {a : Nat} (h : (a &&& objs_slotMove == a) = true) := Mask.le_trans h hO
  have P {a : Nat} (h : (a &&& parts_slotMove == a) = true) := Mask.le_trans h hP
  unfold Device.slotMove at hr
  try simp only at hr
  repeat' split at hr
  all_goals try (cases hr)
  all_goals try dsimp only
  repeat' first
    | with_reducible exact hM
    | with_reducible exact Moves.refl ..
    | with_reducible refine Moves.countsClose ?_ (O (by decide)) (P (by decide))
    | with_reducible refine Moves.forwardUp ?_ (O (by decide)) (P (by decide))
    | with_reducible refine Moves.leaveStep ?_ (O (by decide)) (P (by decide))
    | with_reducible refine Moves.endLaunch ?_ (O (by decide)) (P (by decide))
    | with_reducible refine Moves.stepAct ?_ (O (by decide)) (P (by decide))
    | with_reducible refine Moves.ite (fun _ => ?_) (fun _ => ?_)
    | with_reducible refine Moves.ite1 (fun _ => ?_) (fun _ => ?_)
    | split
    | dsimp only

def objs_emitReady : Nat := 0x340000000000000000000000000000000000000000000000000000000000000000000000000000000000000000e800000000000000000208820400000000000000c00000028000000000000
def parts_emitReady : Nat := 0x48edaf1
theorem Moves.emitReady {p : Nat} (hM : Moves d₀ e₀ mo mp) (hO : Mask.le objs_emitReady mo) (hP : Mask.le parts_emitReady mp) :
    Moves d₀ (e₀.emitReady p) mo mp := by
  have O {a : Nat} (h : (a &&& objs_emitReady == a) = true) := Mask.le_trans h hO
  have P {a : Nat} (h : (a &&& parts_emitReady == a) = true) := Mask.le_trans h hP
  unfold Device.emitReady
  try simp only
  repeat' first
    | with_reducible exact hM
    | with_reducible exact Moves.refl ..
    | with_reducible refine Moves.cmpCommit ?_ (O (by decide)) (P (by decide))
    | with_reducible refine Moves.emitResults ?_ (O (by decide)) (P (by decide))
    | with_reducible refine Moves.foldl ?_ (fun d a => ?_)
    | with_reducible refine Moves.ite (fun _ => ?_) (fun _ => ?_)
    | with_reducible refine Moves.ite1 (fun _ => ?_) (fun _ => ?_)
    | split
    | dsimp only

def objs_passAbort : Nat := 0x3400000000000000000000000000000000000000000000000000000000000000000000000000000000000000000000000000000000000000000400000000000000000000028000000000000
def parts_passAbort : Nat := 0xa42e1
theorem Moves.passAbort {p x : Nat} {sender : Option Nat} (hM : Moves d₀ e₀ mo mp) (hO : Mask.le objs_passAbort mo) (hP : Mask.le parts_passAbort mp) :
    Moves d₀ (e₀.passAbort p x sender) mo mp := by
  have O {a : Nat} (h : (a &&& objs_passAbort == a) = true) := Mask.le_trans h hO
  have P {a : Nat} (h : (a &&& parts_passAbort == a) = true) := Mask.le_trans h hP
  unfold Device.passAbort
  try simp only
  repeat' first
    | with_reducible exact hM
    | with_reducible exact Moves.refl ..
    | with_reducible refine Moves.sendMsg ?_ (O (by decide)) (P (by decide))
    | with_reducible refine Moves.ite (fun _ => ?_) (fun _ => ?_)
    | with_reducible refine Moves.ite1 (fun _ => ?_) (fun _ => ?_)
    | split
    | dsimp only

def objs_takePage : Nat := 0x480000000000000000000000000000000000000000000000000
def parts_takePage : Nat := 0x0
theorem Moves.takePage {p g : Nat} (hM : Moves d₀ e₀ mo mp) (hO : Mask.le objs_takePage mo) (hP : Mask.le parts_takePage mp) :
    Moves d₀ (e₀.takePage p g) mo mp := by
  have O {a : Nat} (h : (a &&& objs_takePage == a) = true) := Mask.le_trans h hO
  have P {a : Nat} (h : (a &&& parts_takePage == a) = true) := Mask.le_trans h hP
  have B {k : Nat} (h : objs_takePage.testBit k = true) := Mask.bit h hO
  have S {k : Nat} (h : parts_takePage.testBit k = true) := Mask.bit h hP
  unfold Device.takePage
  try simp only
  repeat' first
    | with_reducible exact hM
    | with_reducible exact Moves.refl ..
    | with_reducible refine Moves.set ?_ (B (by first | decide | (split <;> decide) | (cases m <;> decide))) (by first | decide | (split <;> decide) | (cases m <;> decide))
    | with_reducible refine Moves.foldl ?_ (fun d a => ?_)
    | dsimp only

def objs_setReformed : Nat := 0x0
def parts_setReformed : Nat := 0x1000000
theorem Moves.setReformed {p sl n : Nat} (hM : Moves d₀ e₀ mo mp) (hO : Mask.le objs_setReformed mo) (hP : Mask.le parts_setReformed mp) :
    Moves d₀ (e₀.setReformed p sl n) mo mp := by
  have O {a : Nat} (h : (a &&& objs_setReformed == a) = true) := Mask.le_trans h hO
  have P {a : Nat} (h : (a &&& parts_setReformed == a) = true) := Mask.le_trans h hP
  unfold Device.setReformed
  try simp only
  repeat' first
    | with_reducible exact hM
    | with_reducible exact Moves.refl ..
    | with_reducible refine Moves.setSlot ?_ (O (by decide)) (P (by decide))
    | dsimp only

def objs_reformAbort : Nat := 0x3400000000000000000000000000000000000000000000000000000000000000000000000000000000000000006800000000001800000219808400000000000000c00000028000000000000
def parts_reformAbort : Nat := 0x58ec2e1
theorem Moves.reformAbort {p sl : Nat} (hM : Moves d₀ e₀ mo mp) (hO : Mask.le objs_reformAbort mo) (hP : Mask.le parts_reformAbort mp) :
    Moves d₀ (e₀.reformAbort p sl) mo mp := by
  have O {a : Nat} (h : (a &&& objs_reformAbort == a) = true) := Mask.le_trans h hO
  have P {a : Nat} (h : (a &&& parts_reformAbort == a) = true) := Mask.le_trans h hP
  unfold Device.reformAbort
  try simp only
  repeat' first
    | with_reducible exact hM
    | with_reducible exact Moves.refl ..
    | with_reducible refine Moves.foldl1 ?_ (fun s a => ?_)
    | with_reducible refine Moves.setRctx ?_ (O (by decide)) (P (by decide))
    | with_reducible refine Moves.setReformed ?_ (O (by decide)) (P (by decide))
    | with_reducible refine Moves.failSlot ?_ (O (by decide)) (P (by decide))
    | with_reducible refine Moves.abortCtx ?_ (O (by decide)) (P (by decide))
    | with_reducible refine Moves.foldl ?_ (fun d a => ?_)
    | with_reducible refine Moves.ite (fun _ => ?_) (fun _ => ?_)
    | with_reducible refine Moves.ite1 (fun _ => ?_) (fun _ => ?_)
    | split
    | dsimp only

def objs_reformRestart : Nat := 0x340000000000000000000000000000000000000000000000000000000000000000000000000000000000000000680000000000b800000211808400000000000000c00000028000000000000
def parts_reformRestart : Nat := 0x58ec2e1
theorem Moves.reformRestart {p sl : Nat} (hM : Moves d₀ e₀ mo mp) (hO : Mask.le objs_reformRestart mo) (hP : Mask.le parts_reformRestart mp) :
    Moves d₀ (e₀.reformRestart p sl) mo mp := by
  have O {a : Nat} (h : (a &&& objs_reformRestart == a) = true) := Mask.le_trans h hO
  have P {a : Nat} (h : (a &&& parts_reformRestart == a) = true) := Mask.le_trans h hP
  have B {k : Nat} (h : objs_reformRestart.testBit k = true) := Mask.bit h hO
  have S {k : Nat} (h : parts_reformRestart.testBit k = true) := Mask.bit h hP
  unfold Device.reformRestart
  try simp only
  repeat' first
    | with_reducible exact hM
    | with_reducible exact Moves.refl ..
    | with_reducible refine Moves.set ?_ (B (by decide)) (by decide)
    | with_reducible refine Moves.setRctx ?_ (O (by decide)) (P (by decide))
    | with_reducible refine Moves.setSlot ?_ (O (by decide)) (P (by decide))
    | with_reducible refine Moves.passAbort ?_ (O (by decide)) (P (by decide))
    | with_reducible refine Moves.failSlot ?_ (O (by decide)) (P (by decide))
    | with_reducible refine Moves.tellMembers ?_ (O (by decide)) (P (by decide))
    | with_reducible refine Moves.cmpRestart ?_ (O (by decide)) (P (by decide))
    | with_reducible refine Moves.releaseCtx ?_ (O (by decide)) (P (by decide))
    | with_reducible refine Moves.foldl ?_ (fun d a => ?_)
    | with_reducible refine Moves.ite (fun _ => ?_) (fun _ => ?_)
    | with_reducible refine Moves.ite1 (fun _ => ?_) (fun _ => ?_)
    | split
    | dsimp only

def objs_reformEnd : Nat := 0x60240000000000000000000000000000000000000000000000000
def parts_reformEnd : Nat := 0x1000000
theorem Moves.reformEnd {p g : Nat} (hM : Moves d₀ e₀ mo mp) (hO : Mask.le objs_reformEnd mo) (hP : Mask.le parts_reformEnd mp) :
    Moves d₀ (e₀.reformEnd p g) mo mp := by
  have O {a : Nat} (h : (a &&& objs_reformEnd == a) = true) := Mask.le_trans h hO
  have P {a : Nat} (h : (a &&& parts_reformEnd == a) = true) := Mask.le_trans h hP
  have B {k : Nat} (h : objs_reformEnd.testBit k = true) := Mask.bit h hO
  have S {k : Nat} (h : parts_reformEnd.testBit k = true) := Mask.bit h hP
  unfold Device.reformEnd
  try simp only
  repeat' first
    | with_reducible exact hM
    | with_reducible exact Moves.refl ..
    | with_reducible refine Moves.set ?_ (B (by first | decide | (split <;> decide) | (cases m <;> decide))) (by first | decide | (split <;> decide) | (cases m <;> decide))
    | with_reducible refine Moves.setReformed ?_ (O (by decide)) (P (by decide))
    | with_reducible refine Moves.foldl ?_ (fun d a => ?_)
    | dsimp only

def objs_reformTurn : Nat := 0x340000000000000000000000000000000000000000000000000000000000000000000000000000000000000000680000006024b800000219808400000000000000c00000028000000000000
def parts_reformTurn : Nat := 0x58ec2e1
theorem Moves.reformTurn {p g : Nat} (hM : Moves d₀ e₀ mo mp) (hO : Mask.le objs_reformTurn mo) (hP : Mask.le parts_reformTurn mp) :
    Moves d₀ (e₀.reformTurn p g).1 mo mp := by
  have O {a : Nat} (h : (a &&& objs_reformTurn == a) = true) := Mask.le_trans h hO
  have P {a : Nat} (h : (a &&& parts_reformTurn == a) = true) := Mask.le_trans h hP
  unfold Device.reformTurn
  split
  · exact hM.reformEnd (O (by decide)) (P (by decide))
  · extract_lets d1
    have h1 : Moves d₀ d1 mo mp := by
      unfold d1
      exact Moves.ite (fun _ => hM.reformAbort (O (by decide)) (P (by decide))) (fun _ => hM)
    clear_value d1
    exact Moves.ite1 (fun _ => h1) (fun _ => Moves.ite1 (fun _ => h1) (fun _ => h1.reformRestart (O (by decide)) (P (by decide))))

def objs_reformNext : Nat := 0x340000000000000000000000000000000000000000000000000000000000000000000000000000000000000000680000006024b800000219808400000000000000c00000028000000000000
def parts_reformNext : Nat := 0x58ec2e1
theorem Moves.reformNext {p g : Nat} {z0 : Nat} (hM : Moves d₀ e₀ mo mp) (hO : Mask.le objs_reformNext mo) (hP : Mask.le parts_reformNext mp) :
    Moves d₀ (e₀.reformNext p g z0) mo mp := by
  have O {a : Nat} (h : (a &&& objs_reformNext == a) = true) := Mask.le_trans h hO
  have P {a : Nat} (h : (a &&& parts_reformNext == a) = true) := Mask.le_trans h hP
  induction z0 generalizing e₀  with
  | zero => exact hM
  | succ n ih =>
  unfold Device.reformNext
  try simp only
  repeat' first
    | with_reducible exact hM
    | with_reducible exact Moves.refl ..
    | with_reducible apply ih
    | with_reducible refine Moves.reformTurn ?_ (O (by decide)) (P (by decide))
    | with_reducible refine Moves.ite (fun _ => ?_) (fun _ => ?_)
    | with_reducible refine Moves.ite1 (fun _ => ?_) (fun _ => ?_)
    | split
    | dsimp only

def objs_reforms : Nat := 0x340000000000000000000000000000000000000000000000000000000000000000000000000000000000000000680000006024b800000219808400000000000000c00000028000000000000
def parts_reforms : Nat := 0x58ec2e1
theorem Moves.reforms {p : Nat} (hM : Moves d₀ e₀ mo mp) (hO : Mask.le objs_reforms mo) (hP : Mask.le parts_reforms mp) :
    Moves d₀ (e₀.reforms p) mo mp := by
  have O {a : Nat} (h : (a &&& objs_reforms == a) = true) := Mask.le_trans h hO
  have P {a : Nat} (h : (a &&& parts_reforms == a) = true) := Mask.le_trans h hP
  unfold Device.reforms
  try simp only
  repeat' first
    | with_reducible exact hM
    | with_reducible exact Moves.refl ..
    | with_reducible refine Moves.reformNext ?_ (O (by decide)) (P (by decide))
    | with_reducible refine Moves.foldl ?_ (fun d a => ?_)
    | dsimp only

def objs_startSwitch : Nat := 0x40480000000000000000000000000000000000000000000000000
def parts_startSwitch : Nat := 0x0
theorem Moves.startSwitch {p g : Nat} (hM : Moves d₀ e₀ mo mp) (hO : Mask.le objs_startSwitch mo) (hP : Mask.le parts_startSwitch mp) :
    Moves d₀ (e₀.startSwitch p g) mo mp := by
  have O {a : Nat} (h : (a &&& objs_startSwitch == a) = true) := Mask.le_trans h hO
  have P {a : Nat} (h : (a &&& parts_startSwitch == a) = true) := Mask.le_trans h hP
  have B {k : Nat} (h : objs_startSwitch.testBit k = true) := Mask.bit h hO
  have S {k : Nat} (h : parts_startSwitch.testBit k = true) := Mask.bit h hP
  unfold Device.startSwitch
  try simp only
  repeat' first
    | with_reducible exact hM
    | with_reducible exact Moves.refl ..
    | with_reducible refine Moves.set ?_ (B (by decide)) (by decide)
    | with_reducible refine Moves.takePage ?_ (O (by decide)) (P (by decide))
    | dsimp only

def objs_boundaries : Nat := 0x40480000000000000000000000000000000000000000000000000
def parts_boundaries : Nat := 0x0
theorem Moves.boundaries {p : Nat} (hM : Moves d₀ e₀ mo mp) (hO : Mask.le objs_boundaries mo) (hP : Mask.le parts_boundaries mp) :
    Moves d₀ (e₀.boundaries p) mo mp := by
  have O {a : Nat} (h : (a &&& objs_boundaries == a) = true) := Mask.le_trans h hO
  have P {a : Nat} (h : (a &&& parts_boundaries == a) = true) := Mask.le_trans h hP
  unfold Device.boundaries
  try simp only
  repeat' first
    | with_reducible exact hM
    | with_reducible exact Moves.refl ..
    | with_reducible refine Moves.startSwitch ?_ (O (by decide)) (P (by decide))
    | with_reducible refine Moves.foldl ?_ (fun d a => ?_)
    | dsimp only

def objs_runSlots : Nat := 0x340000000000000000000000000000000000000000000000000000000000000000000000000000000000000000e8020006606cb80100021ff3e4000000000000c7e00100028000000000000
def parts_runSlots : Nat := 0x78edbf9
theorem Moves.runSlots {p : Nat} {z0 : Nat} (hM : Moves d₀ e₀ mo mp) (hO : Mask.le objs_runSlots mo) (hP : Mask.le parts_runSlots mp) :
    Moves d₀ (e₀.runSlots p z0) mo mp := by
  have O {a : Nat} (h : (a &&& objs_runSlots == a) = true) := Mask.le_trans h hO
  have P {a : Nat} (h : (a &&& parts_runSlots == a) = true) := Mask.le_trans h hP
  induction z0 generalizing e₀ with
  | zero => exact hM
  | succ n ih =>
  unfold Device.runSlots
  extract_lets d1
  have h1 : Moves d₀ d1 mo mp := (((hM.emitReady (O (by decide)) (P (by decide))).fireNotifies (O (by decide)) (P (by decide))).boundaries (O (by decide)) (P (by decide))).reforms (O (by decide)) (P (by decide))
  clear_value d1
  split
  · rename_i r hr
    obtain ⟨sl, _, hs⟩ := List.exists_of_findSome?_eq_some hr
    exact ih (Moves.slotMove hs h1 (O (by decide)) (P (by decide)))
  · exact h1

def objs_run : Nat := 0x340000000000000000000000000000000000000000000000000000000000000000000000000000000000000000e8020006606cb80100021ff3e4000000000000c7e00100028000000000000
def parts_run : Nat := 0x78edbf9
theorem Moves.run {p : Nat} (hM : Moves d₀ e₀ mo mp) (hO : Mask.le objs_run mo) (hP : Mask.le parts_run mp) :
    Moves d₀ (e₀.run p) mo mp := by
  have O {a : Nat} (h : (a &&& objs_run == a) = true) := Mask.le_trans h hO
  have P {a : Nat} (h : (a &&& parts_run == a) = true) := Mask.le_trans h hP
  unfold Device.run
  try simp only
  repeat' first
    | with_reducible exact hM
    | with_reducible exact Moves.refl ..
    | with_reducible refine Moves.runSlots ?_ (O (by decide)) (P (by decide))
    | dsimp only

def objs_rewind : Nat := 0x2800000000000000000000000000000000000000000000000
def parts_rewind : Nat := 0x1000000
theorem Moves.rewind {p sl i : Nat} {state : Nat} {acted : Bool} (hM : Moves d₀ e₀ mo mp) (hO : Mask.le objs_rewind mo) (hP : Mask.le parts_rewind mp) :
    Moves d₀ (e₀.rewind p sl i state acted) mo mp := by
  have O {a : Nat} (h : (a &&& objs_rewind == a) = true) := Mask.le_trans h hO
  have P {a : Nat} (h : (a &&& parts_rewind == a) = true) := Mask.le_trans h hP
  have B {k : Nat} (h : objs_rewind.testBit k = true) := Mask.bit h hO
  have S {k : Nat} (h : parts_rewind.testBit k = true) := Mask.bit h hP
  unfold Device.rewind
  try simp only
  repeat' first
    | with_reducible exact hM
    | with_reducible exact Moves.refl ..
    | with_reducible refine Moves.set ?_ (B (by decide)) (by decide)
    | with_reducible refine Moves.setSlot ?_ (O (by decide)) (P (by decide))
    | dsimp only

def objs_ctxRestarts : Nat := 0x3400000000000000000000000000000000000000000000000000000000000000000000000000000000000000006800000000003800000219808400000000000000c00000028000000000000
def parts_ctxRestarts : Nat := 0x58ec2e1
theorem Moves.ctxRestarts {p x : Nat} {sender : Option Nat} (hM : Moves d₀ e₀ mo mp) (hO : Mask.le objs_ctxRestarts mo) (hP : Mask.le parts_ctxRestarts mp) :
    Moves d₀ (e₀.ctxRestarts p x sender) mo mp := by
  have O {a : Nat} (h : (a &&& objs_ctxRestarts == a) = true) := Mask.le_trans h hO
  have P {a : Nat} (h : (a &&& parts_ctxRestarts == a) = true) := Mask.le_trans h hP
  unfold Device.ctxRestarts
  try simp only
  repeat' first
    | with_reducible exact hM
    | with_reducible exact Moves.refl ..
    | with_reducible refine Moves.setSlot ?_ (O (by decide)) (P (by decide))
    | with_reducible refine Moves.rewind ?_ (O (by decide)) (P (by decide))
    | with_reducible refine Moves.passAbort ?_ (O (by decide)) (P (by decide))
    | with_reducible refine Moves.failSlot ?_ (O (by decide)) (P (by decide))
    | with_reducible refine Moves.cmpRestart ?_ (O (by decide)) (P (by decide))
    | with_reducible refine Moves.releaseCtx ?_ (O (by decide)) (P (by decide))
    | with_reducible refine Moves.abortCtx ?_ (O (by decide)) (P (by decide))
    | with_reducible refine Moves.ite (fun _ => ?_) (fun _ => ?_)
    | with_reducible refine Moves.ite1 (fun _ => ?_) (fun _ => ?_)
    | split
    | dsimp only

def objs_ctxEvent : Nat := 0x340000000000000000000000000000000000000000000000000000000000000000000000000000000000000000e8020006606cb80100021ff3e4000000000000c7e00100028000000000000
def parts_ctxEvent : Nat := 0x78edbf9
theorem Moves.ctxEvent {p x : Nat} {ev : CtxEvent} {sender : Option Nat} (hM : Moves d₀ e₀ mo mp) (hO : Mask.le objs_ctxEvent mo) (hP : Mask.le parts_ctxEvent mp) :
    Moves d₀ (e₀.ctxEvent p x ev sender) mo mp := by
  have O {a : Nat} (h : (a &&& objs_ctxEvent == a) = true) := Mask.le_trans h hO
  have P {a : Nat} (h : (a &&& parts_ctxEvent == a) = true) := Mask.le_trans h hP
  unfold Device.ctxEvent
  try simp only
  repeat' first
    | with_reducible exact hM
    | with_reducible exact Moves.refl ..
    | with_reducible refine Moves.ctxRestarts ?_ (O (by decide)) (P (by decide))
    | with_reducible refine Moves.run ?_ (O (by decide)) (P (by decide))
    | with_reducible refine Moves.failSlot ?_ (O (by decide)) (P (by decide))
    | with_reducible refine Moves.tellMembers ?_ (O (by decide)) (P (by decide))
    | with_reducible refine Moves.releaseCtx ?_ (O (by decide)) (P (by decide))
    | with_reducible refine Moves.ite (fun _ => ?_) (fun _ => ?_)
    | with_reducible refine Moves.ite1 (fun _ => ?_) (fun _ => ?_)
    | split
    | dsimp only

def objs_abortAnd : Nat := 0x340000000000000000000000000000000000000000000000000000000000000000000000000000000000000000e8020006606cb80100021ff3e4000000000000c7e00100028000000000000
def parts_abortAnd : Nat := 0x78edbf9
theorem Moves.abortAnd {p x status : Nat} {sender : Option Nat} (hM : Moves d₀ e₀ mo mp) (hO : Mask.le objs_abortAnd mo) (hP : Mask.le parts_abortAnd mp) :
    Moves d₀ (e₀.abortAnd p x status sender) mo mp := by
  have O {a : Nat} (h : (a &&& objs_abortAnd == a) = true) := Mask.le_trans h hO
  have P {a : Nat} (h : (a &&& parts_abortAnd == a) = true) := Mask.le_trans h hP
  unfold Device.abortAnd
  try simp only
  repeat' first
    | with_reducible exact hM
    | with_reducible exact Moves.refl ..
    | with_reducible refine Moves.ctxEvent ?_ (O (by decide)) (P (by decide))
    | with_reducible refine Moves.abortCtx ?_ (O (by decide)) (P (by decide))
    | with_reducible refine Moves.ite (fun _ => ?_) (fun _ => ?_)
    | with_reducible refine Moves.ite1 (fun _ => ?_) (fun _ => ?_)
    | split
    | dsimp only

def objs_resumeSlot : Nat := 0x800000000000000000000000000000000000000000000000
def parts_resumeSlot : Nat := 0x84000
theorem Moves.resumeSlot {p sl : Nat} (hM : Moves d₀ e₀ mo mp) (hO : Mask.le objs_resumeSlot mo) (hP : Mask.le parts_resumeSlot mp) :
    Moves d₀ (e₀.resumeSlot p sl) mo mp := by
  have O {a : Nat} (h : (a &&& objs_resumeSlot == a) = true) := Mask.le_trans h hO
  have P {a : Nat} (h : (a &&& parts_resumeSlot == a) = true) := Mask.le_trans h hP
  have B {k : Nat} (h : objs_resumeSlot.testBit k = true) := Mask.bit h hO
  have S {k : Nat} (h : parts_resumeSlot.testBit k = true) := Mask.bit h hP
  unfold Device.resumeSlot
  try simp only
  repeat' first
    | with_reducible exact hM
    | with_reducible exact Moves.refl ..
    | with_reducible refine Moves.set ?_ (B (by decide)) (by decide)
    | with_reducible refine Moves.hold ?_ (O (by decide)) (P (by decide))
    | with_reducible refine Moves.ite (fun _ => ?_) (fun _ => ?_)
    | with_reducible refine Moves.ite1 (fun _ => ?_) (fun _ => ?_)
    | split
    | dsimp only

def objs_grpBoundary : Nat := 0x340000000000000000000000000000000000000000000000000000000000000000000000000000000000000000e8020006606cb80100021ff3e4000000000000c7e00100028000000000000
def parts_grpBoundary : Nat := 0x78edbf9
theorem Moves.grpBoundary {p g : Nat} (hM : Moves d₀ e₀ mo mp) (hO : Mask.le objs_grpBoundary mo) (hP : Mask.le parts_grpBoundary mp) :
    Moves d₀ (e₀.grpBoundary p g) mo mp := by
  have O {a : Nat} (h : (a &&& objs_grpBoundary == a) = true) := Mask.le_trans h hO
  have P {a : Nat} (h : (a &&& parts_grpBoundary == a) = true) := Mask.le_trans h hP
  unfold Device.grpBoundary
  try simp only
  repeat' first
    | with_reducible exact hM
    | with_reducible exact Moves.refl ..
    | with_reducible refine Moves.run ?_ (O (by decide)) (P (by decide))
    | with_reducible refine Moves.startSwitch ?_ (O (by decide)) (P (by decide))
    | with_reducible refine Moves.ite (fun _ => ?_) (fun _ => ?_)
    | with_reducible refine Moves.ite1 (fun _ => ?_) (fun _ => ?_)
    | split
    | dsimp only

def objs_grpCommit : Nat := 0x340000000000000000000000000000000000000000000000000000000000000000000000000000000000000000e8020006606cb80100021ff3e4000000000000c7e00100028000000000000
def parts_grpCommit : Nat := 0x78edbf9
theorem Moves.grpCommit {p ses : Nat} (hM : Moves d₀ e₀ mo mp) (hO : Mask.le objs_grpCommit mo) (hP : Mask.le parts_grpCommit mp) :
    Moves d₀ (e₀.grpCommit p ses) mo mp := by
  have O {a : Nat} (h : (a &&& objs_grpCommit == a) = true) := Mask.le_trans h hO
  have P {a : Nat} (h : (a &&& parts_grpCommit == a) = true) := Mask.le_trans h hP
  have B {k : Nat} (h : objs_grpCommit.testBit k = true) := Mask.bit h hO
  have S {k : Nat} (h : parts_grpCommit.testBit k = true) := Mask.bit h hP
  unfold Device.grpCommit
  try simp only
  repeat' first
    | with_reducible exact hM
    | with_reducible exact Moves.refl ..
    | with_reducible refine Moves.set ?_ (B (by decide)) (by decide)
    | with_reducible refine Moves.cmdReads ?_ (B (by dsimp only; decide)) (by dsimp only; decide)
    | with_reducible refine Moves.grpBoundary ?_ (O (by decide)) (P (by decide))
    | with_reducible refine Moves.ite (fun _ => ?_) (fun _ => ?_)
    | with_reducible refine Moves.ite1 (fun _ => ?_) (fun _ => ?_)
    | split
    | dsimp only

def objs_grpExclude : Nat := 0x340000000000000000000000000000000000000000000000000000000000000000000000000000000000000000e8020006606cb801c0021ff3e4000000000000c7e00100028000000000000
def parts_grpExclude : Nat := 0x78edbf9
theorem Moves.grpExclude {p ses v : Nat} (hM : Moves d₀ e₀ mo mp) (hO : Mask.le objs_grpExclude mo) (hP : Mask.le parts_grpExclude mp) :
    Moves d₀ (e₀.grpExclude p ses v) mo mp := by
  have O {a : Nat} (h : (a &&& objs_grpExclude == a) = true) := Mask.le_trans h hO
  have P {a : Nat} (h : (a &&& parts_grpExclude == a) = true) := Mask.le_trans h hP
  have B {k : Nat} (h : objs_grpExclude.testBit k = true) := Mask.bit h hO
  have S {k : Nat} (h : parts_grpExclude.testBit k = true) := Mask.bit h hP
  unfold Device.grpExclude
  try simp only
  repeat' first
    | with_reducible exact hM
    | with_reducible exact Moves.refl ..
    | with_reducible refine Moves.set ?_ (B (by decide)) (by decide)
    | with_reducible refine Moves.bump ?_ (B (by decide)) (by decide) (S (by decide))
    | with_reducible refine Moves.run ?_ (O (by decide)) (P (by decide))
    | with_reducible refine Moves.setReformed ?_ (O (by decide)) (P (by decide))
    | with_reducible refine Moves.foldl ?_ (fun d a => ?_)
    | with_reducible refine Moves.ite (fun _ => ?_) (fun _ => ?_)
    | with_reducible refine Moves.ite1 (fun _ => ?_) (fun _ => ?_)
    | split
    | dsimp only

def objs_acceptLaunch : Nat := 0x340000000000000000000000000000000000000000000000000000000000000000000000000000000000000000e8020006606cf80100221ff3e4000000000000c7e00100028000000000000
def parts_acceptLaunch : Nat := 0x78edbf9
theorem Moves.acceptLaunch {p sl n : Nat} (hM : Moves d₀ e₀ mo mp) (hO : Mask.le objs_acceptLaunch mo) (hP : Mask.le parts_acceptLaunch mp) :
    Moves d₀ (e₀.acceptLaunch p sl n) mo mp := by
  have O {a : Nat} (h : (a &&& objs_acceptLaunch == a) = true) := Mask.le_trans h hO
  have P {a : Nat} (h : (a &&& parts_acceptLaunch == a) = true) := Mask.le_trans h hP
  have B {k : Nat} (h : objs_acceptLaunch.testBit k = true) := Mask.bit h hO
  have S {k : Nat} (h : parts_acceptLaunch.testBit k = true) := Mask.bit h hP
  unfold Device.acceptLaunch
  try simp only
  repeat' first
    | with_reducible exact hM
    | with_reducible exact Moves.refl ..
    | with_reducible refine Moves.set ?_ (B (by decide)) (by decide)
    | with_reducible refine Moves.bump ?_ (B (by decide)) (by decide) (S (by decide))
    | with_reducible refine Moves.setSlot ?_ (O (by decide)) (P (by decide))
    | with_reducible refine Moves.run ?_ (O (by decide)) (P (by decide))
    | with_reducible refine Moves.beginLaunch ?_ (O (by decide)) (P (by decide))
    | with_reducible refine Moves.ite (fun _ => ?_) (fun _ => ?_)
    | with_reducible refine Moves.ite1 (fun _ => ?_) (fun _ => ?_)
    | split
    | dsimp only

def objs_tryLaunch : Nat := 0x340000000000000000000000000000000000000000000000000000000000000000000000000000000000000000e8020006606cf80100e21ff3e4000000000000c7e00100028000000000000
def parts_tryLaunch : Nat := 0x78edbf9
theorem Moves.tryLaunch {p sl n : Nat} (hM : Moves d₀ e₀ mo mp) (hO : Mask.le objs_tryLaunch mo) (hP : Mask.le parts_tryLaunch mp) :
    Moves d₀ (e₀.tryLaunch p sl n) mo mp := by
  have O {a : Nat} (h : (a &&& objs_tryLaunch == a) = true) := Mask.le_trans h hO
  have P {a : Nat} (h : (a &&& parts_tryLaunch == a) = true) := Mask.le_trans h hP
  have B {k : Nat} (h : objs_tryLaunch.testBit k = true) := Mask.bit h hO
  have S {k : Nat} (h : parts_tryLaunch.testBit k = true) := Mask.bit h hP
  unfold Device.tryLaunch
  try simp only
  repeat' first
    | with_reducible exact hM
    | with_reducible exact Moves.refl ..
    | with_reducible refine Moves.bump ?_ (B (by decide)) (by decide) (S (by decide))
    | with_reducible refine Moves.acceptLaunch ?_ (O (by decide)) (P (by decide))
    | with_reducible refine Moves.ite (fun _ => ?_) (fun _ => ?_)
    | with_reducible refine Moves.ite1 (fun _ => ?_) (fun _ => ?_)
    | split
    | dsimp only

def objs_slotCmd : Nat := 0x340000000000000000000000000000000000000000000000000000000000000000000000000000000000000000e8020006606df80100a21ff3e4000000000000c7e00100028000000000000
def parts_slotCmd : Nat := 0x78edbf9
theorem Moves.slotCmd {p ses v : Nat} (hM : Moves d₀ e₀ mo mp) (hO : Mask.le objs_slotCmd mo) (hP : Mask.le parts_slotCmd mp) :
    Moves d₀ (e₀.slotCmd p ses v) mo mp := by
  have O {a : Nat} (h : (a &&& objs_slotCmd == a) = true) := Mask.le_trans h hO
  have P {a : Nat} (h : (a &&& parts_slotCmd == a) = true) := Mask.le_trans h hP
  have B {k : Nat} (h : objs_slotCmd.testBit k = true) := Mask.bit h hO
  have S {k : Nat} (h : parts_slotCmd.testBit k = true) := Mask.bit h hP
  unfold Device.slotCmd
  try simp only
  repeat' first
    | with_reducible exact hM
    | with_reducible exact Moves.refl ..
    | with_reducible refine Moves.set ?_ (B (by decide)) (by decide)
    | with_reducible refine Moves.cmdReads ?_ (B (by dsimp only; decide)) (by dsimp only; decide)
    | with_reducible refine Moves.bump ?_ (B (by decide)) (by decide) (S (by decide))
    | with_reducible refine Moves.setSlot ?_ (O (by decide)) (P (by decide))
    | with_reducible refine Moves.acceptLaunch ?_ (O (by decide)) (P (by decide))
    | with_reducible refine Moves.run ?_ (O (by decide)) (P (by decide))
    | with_reducible refine Moves.failSlot ?_ (O (by decide)) (P (by decide))
    | with_reducible refine Moves.ite (fun _ => ?_) (fun _ => ?_)
    | with_reducible refine Moves.ite1 (fun _ => ?_) (fun _ => ?_)
    | split
    | dsimp only

def objs_badMsg : Nat := 0x3400000000000000000000000000000000000000000000000000000000000000000000000000000000000000000000000000000000010000000000000000000000000000000000000000000
def parts_badMsg : Nat := 0x2a1
theorem Moves.badMsg {p x : Nat} (hM : Moves d₀ e₀ mo mp) (hO : Mask.le objs_badMsg mo) (hP : Mask.le parts_badMsg mp) :
    Moves d₀ (e₀.badMsg p x) mo mp := by
  have O {a : Nat} (h : (a &&& objs_badMsg == a) = true) := Mask.le_trans h hO
  have P {a : Nat} (h : (a &&& parts_badMsg == a) = true) := Mask.le_trans h hP
  have B {k : Nat} (h : objs_badMsg.testBit k = true) := Mask.bit h hO
  have S {k : Nat} (h : parts_badMsg.testBit k = true) := Mask.bit h hP
  unfold Device.badMsg
  try simp only
  repeat' first
    | with_reducible exact hM
    | with_reducible exact Moves.refl ..
    | with_reducible refine Moves.bump ?_ (B (by decide)) (by decide) (S (by decide))
    | with_reducible refine Moves.causeCollective ?_ (O (by decide)) (P (by decide))
    | dsimp only

def objs_upperReport : Nat := 0x3400000000000000000000000000000000000000000000000000000000000000000000000000000000000000006800000000003800000219808400000000000000c00000028000000000000
def parts_upperReport : Nat := 0x58ec2e1
theorem Moves.upperReport {p sl fu att : Nat} (hM : Moves d₀ e₀ mo mp) (hO : Mask.le objs_upperReport mo) (hP : Mask.le parts_upperReport mp) :
    Moves d₀ (e₀.upperReport p sl fu att) mo mp := by
  have O {a : Nat} (h : (a &&& objs_upperReport == a) = true) := Mask.le_trans h hO
  have P {a : Nat} (h : (a &&& parts_upperReport == a) = true) := Mask.le_trans h hP
  unfold Device.upperReport
  try simp only
  repeat' first
    | with_reducible exact hM
    | with_reducible exact Moves.refl ..
    | with_reducible refine Moves.setRctx ?_ (O (by decide)) (P (by decide))
    | with_reducible refine Moves.setSlot ?_ (O (by decide)) (P (by decide))
    | with_reducible refine Moves.rewind ?_ (O (by decide)) (P (by decide))
    | with_reducible refine Moves.failSlot ?_ (O (by decide)) (P (by decide))
    | with_reducible refine Moves.releaseCtx ?_ (O (by decide)) (P (by decide))
    | with_reducible refine Moves.abortCtx ?_ (O (by decide)) (P (by decide))
    | with_reducible refine Moves.ite (fun _ => ?_) (fun _ => ?_)
    | with_reducible refine Moves.ite1 (fun _ => ?_) (fun _ => ?_)
    | split
    | dsimp only

def objs_upperContribute : Nat := 0x0
def parts_upperContribute : Nat := 0x1000000
theorem Moves.upperContribute {p sl dev uctx att : Nat} (hM : Moves d₀ e₀ mo mp) (hO : Mask.le objs_upperContribute mo) (hP : Mask.le parts_upperContribute mp) :
    Moves d₀ (e₀.upperContribute p sl dev uctx att) mo mp := by
  have O {a : Nat} (h : (a &&& objs_upperContribute == a) = true) := Mask.le_trans h hO
  have P {a : Nat} (h : (a &&& parts_upperContribute == a) = true) := Mask.le_trans h hP
  unfold Device.upperContribute
  try simp only
  repeat' first
    | with_reducible exact hM
    | with_reducible exact Moves.refl ..
    | with_reducible refine Moves.setSlot ?_ (O (by decide)) (P (by decide))
    | with_reducible refine Moves.foldl ?_ (fun d a => ?_)
    | with_reducible refine Moves.ite (fun _ => ?_) (fun _ => ?_)
    | with_reducible refine Moves.ite1 (fun _ => ?_) (fun _ => ?_)
    | split
    | dsimp only

def objs_takeNotify : Nat := 0x3400000000000000000000000000000000000000000000000000000000000000000000000000000000000000000000000000000002000000000400000000000000000000028000000000000
def parts_takeNotify : Nat := 0x20a42e1
theorem Moves.takeNotify {p sl obj value dev port : Nat} (hM : Moves d₀ e₀ mo mp) (hO : Mask.le objs_takeNotify mo) (hP : Mask.le parts_takeNotify mp) :
    Moves d₀ (e₀.takeNotify p sl obj value dev port) mo mp := by
  have O {a : Nat} (h : (a &&& objs_takeNotify == a) = true) := Mask.le_trans h hO
  have P {a : Nat} (h : (a &&& parts_takeNotify == a) = true) := Mask.le_trans h hP
  have B {k : Nat} (h : objs_takeNotify.testBit k = true) := Mask.bit h hO
  have S {k : Nat} (h : parts_takeNotify.testBit k = true) := Mask.bit h hP
  unfold Device.takeNotify
  try simp only
  repeat' first
    | with_reducible exact hM
    | with_reducible exact Moves.refl ..
    | with_reducible refine Moves.bump ?_ (B (by decide)) (by decide) (S (by decide))
    | with_reducible refine Moves.sendMsg ?_ (O (by decide)) (P (by decide))
    | with_reducible refine Moves.ite (fun _ => ?_) (fun _ => ?_)
    | with_reducible refine Moves.ite1 (fun _ => ?_) (fun _ => ?_)
    | split
    | with_reducible refine Moves.with_notifies ?_ (S (by decide))
    | dsimp only

def objs_applyMsg : Nat := 0x340000000000000000000000000000000000000000000000000000000000000000000000000000000000000000e8020006606cf80300e21ff3e4000000000000c7e00100028000000000000
def parts_applyMsg : Nat := 0x78edbf9
theorem Moves.applyMsg {p sl : Nat} {f : Frame} {m : Msg} (hM : Moves d₀ e₀ mo mp) (hO : Mask.le objs_applyMsg mo) (hP : Mask.le parts_applyMsg mp) :
    Moves d₀ (e₀.applyMsg p sl f m) mo mp := by
  have O {a : Nat} (h : (a &&& objs_applyMsg == a) = true) := Mask.le_trans h hO
  have P {a : Nat} (h : (a &&& parts_applyMsg == a) = true) := Mask.le_trans h hP
  unfold Device.applyMsg
  try simp only
  repeat' first
    | with_reducible exact hM
    | with_reducible exact Moves.refl ..
    | with_reducible refine Moves.setSlot ?_ (O (by decide)) (P (by decide))
    | with_reducible refine Moves.takeNotify ?_ (O (by decide)) (P (by decide))
    | with_reducible refine Moves.upperContribute ?_ (O (by decide)) (P (by decide))
    | with_reducible refine Moves.upperReport ?_ (O (by decide)) (P (by decide))
    | with_reducible refine Moves.tryLaunch ?_ (O (by decide)) (P (by decide))
    | with_reducible refine Moves.abortAnd ?_ (O (by decide)) (P (by decide))
    | with_reducible refine Moves.run ?_ (O (by decide)) (P (by decide))
    | with_reducible refine Moves.signalObj ?_ (O (by decide)) (P (by decide))
    | with_reducible refine Moves.failSlot ?_ (O (by decide)) (P (by decide))
    | with_reducible refine Moves.foldl ?_ (fun d a => ?_)
    | with_reducible refine Moves.ite (fun _ => ?_) (fun _ => ?_)
    | with_reducible refine Moves.ite1 (fun _ => ?_) (fun _ => ?_)
    | split
    | dsimp only

def objs_seqMessage : Nat := 0x340000000000000000000000000000000000000000000000000000000000000000000000000000000000000000e8020006606cf8031fe21ff3e4000000000000c7e00100028000000000000
def parts_seqMessage : Nat := 0x78edbf9
theorem Moves.seqMessage {p : Nat} {f : Frame} (hM : Moves d₀ e₀ mo mp) (hO : Mask.le objs_seqMessage mo) (hP : Mask.le parts_seqMessage mp) :
    Moves d₀ (e₀.seqMessage p f) mo mp := by
  have O {a : Nat} (h : (a &&& objs_seqMessage == a) = true) := Mask.le_trans h hO
  have P {a : Nat} (h : (a &&& parts_seqMessage == a) = true) := Mask.le_trans h hP
  have B {k : Nat} (h : objs_seqMessage.testBit k = true) := Mask.bit h hO
  have S {k : Nat} (h : parts_seqMessage.testBit k = true) := Mask.bit h hP
  unfold Device.seqMessage
  try simp only
  repeat' first
    | with_reducible exact hM
    | with_reducible exact Moves.refl ..
    | with_reducible refine Moves.bump ?_ (B (by first | decide | (split <;> decide) | (cases m <;> decide))) (by first | decide | (split <;> decide) | (cases m <;> decide)) (S (by decide))
    | with_reducible refine Moves.causeCollective ?_ (O (by decide)) (P (by decide))
    | with_reducible refine Moves.applyMsg ?_ (O (by decide)) (P (by decide))
    | with_reducible refine Moves.badMsg ?_ (O (by decide)) (P (by decide))
    | with_reducible refine Moves.ite (fun _ => ?_) (fun _ => ?_)
    | with_reducible refine Moves.ite1 (fun _ => ?_) (fun _ => ?_)
    | split
    | dsimp only

def objs_seqIn : Nat := 0x340000000000000000000000000000000000000000000000000000000000000000000000000000000000000000e8020006606cf8031fe21ff3e4000000000000c7e00100028000000000000
def parts_seqIn : Nat := 0x80078edbf9
theorem Moves.seqIn {p : Nat} {f : Frame} (hM : Moves d₀ e₀ mo mp) (hO : Mask.le objs_seqIn mo) (hP : Mask.le parts_seqIn mp) :
    Moves d₀ (e₀.seqIn p f) mo mp := by
  have O {a : Nat} (h : (a &&& objs_seqIn == a) = true) := Mask.le_trans h hO
  have P {a : Nat} (h : (a &&& parts_seqIn == a) = true) := Mask.le_trans h hP
  have B {k : Nat} (h : objs_seqIn.testBit k = true) := Mask.bit h hO
  have S {k : Nat} (h : parts_seqIn.testBit k = true) := Mask.bit h hP
  unfold Device.seqIn
  try simp only
  repeat' first
    | with_reducible exact hM
    | with_reducible exact Moves.refl ..
    | with_reducible refine Moves.bump ?_ (B (by decide)) (by decide) (S (by decide))
    | with_reducible refine Moves.setSc ?_ (O (by decide)) (P (by decide))
    | with_reducible refine Moves.seqMessage ?_ (O (by decide)) (P (by decide))
    | with_reducible refine Moves.ite (fun _ => ?_) (fun _ => ?_)
    | with_reducible refine Moves.ite1 (fun _ => ?_) (fun _ => ?_)
    | split
    | dsimp only

def objs_countsFor : Nat := 0x340000000000000000000000000000000000000000000000000000000000000000000000000000000000000000e8020006606cb8010f021ff3e4000000000000c7e00100028000000000000
def parts_countsFor : Nat := 0x78edbf9
theorem Moves.countsFor {p sl : Nat} {f : Frame} (hM : Moves d₀ e₀ mo mp) (hO : Mask.le objs_countsFor mo) (hP : Mask.le parts_countsFor mp) :
    Moves d₀ (e₀.countsFor p sl f) mo mp := by
  have O {a : Nat} (h : (a &&& objs_countsFor == a) = true) := Mask.le_trans h hO
  have P {a : Nat} (h : (a &&& parts_countsFor == a) = true) := Mask.le_trans h hP
  have B {k : Nat} (h : objs_countsFor.testBit k = true) := Mask.bit h hO
  have S {k : Nat} (h : parts_countsFor.testBit k = true) := Mask.bit h hP
  unfold Device.countsFor
  try simp only
  repeat' first
    | with_reducible exact hM
    | with_reducible exact Moves.refl ..
    | with_reducible refine Moves.bump ?_ (B (by first | decide | (split <;> decide) | (cases m <;> decide))) (by first | decide | (split <;> decide) | (cases m <;> decide)) (S (by decide))
    | with_reducible refine Moves.setSlot ?_ (O (by decide)) (P (by decide))
    | with_reducible refine Moves.causeCollective ?_ (O (by decide)) (P (by decide))
    | with_reducible refine Moves.badMsg ?_ (O (by decide)) (P (by decide))
    | with_reducible refine Moves.run ?_ (O (by decide)) (P (by decide))
    | with_reducible refine Moves.failSlot ?_ (O (by decide)) (P (by decide))
    | with_reducible refine Moves.ite (fun _ => ?_) (fun _ => ?_)
    | with_reducible refine Moves.ite1 (fun _ => ?_) (fun _ => ?_)
    | split
    | dsimp only

def objs_countsRx : Nat := 0x340000000000000000000000000000000000000000000000000000000000000000000000000000000000000000e8020006606cb8010f021ff3e4000000000000c7e00100028000000000000
def parts_countsRx : Nat := 0x78edbf9
theorem Moves.countsRx {p : Nat} {f : Frame} (hM : Moves d₀ e₀ mo mp) (hO : Mask.le objs_countsRx mo) (hP : Mask.le parts_countsRx mp) :
    Moves d₀ (e₀.countsRx p f) mo mp := by
  have O {a : Nat} (h : (a &&& objs_countsRx == a) = true) := Mask.le_trans h hO
  have P {a : Nat} (h : (a &&& parts_countsRx == a) = true) := Mask.le_trans h hP
  have B {k : Nat} (h : objs_countsRx.testBit k = true) := Mask.bit h hO
  have S {k : Nat} (h : parts_countsRx.testBit k = true) := Mask.bit h hP
  unfold Device.countsRx
  try simp only
  repeat' first
    | with_reducible exact hM
    | with_reducible exact Moves.refl ..
    | with_reducible refine Moves.bump ?_ (B (by decide)) (by decide) (S (by decide))
    | with_reducible refine Moves.countsFor ?_ (O (by decide)) (P (by decide))
    | split
    | dsimp only

def objs_noteRelay : Nat := 0x340000000000000000000000000000000000000000000000000000000000000000000000000000000000000000e8020006606cb80100021ff3e4000000000000c7e00100028000000000000
def parts_noteRelay : Nat := 0x78edbf9
theorem Moves.noteRelay {p : Nat} {f : Frame} (hM : Moves d₀ e₀ mo mp) (hO : Mask.le objs_noteRelay mo) (hP : Mask.le parts_noteRelay mp) :
    Moves d₀ (e₀.noteRelay p f) mo mp := by
  have O {a : Nat} (h : (a &&& objs_noteRelay == a) = true) := Mask.le_trans h hO
  have P {a : Nat} (h : (a &&& parts_noteRelay == a) = true) := Mask.le_trans h hP
  unfold Device.noteRelay
  try simp only
  repeat' first
    | with_reducible exact hM
    | with_reducible exact Moves.refl ..
    | with_reducible refine Moves.setSlot ?_ (O (by decide)) (P (by decide))
    | with_reducible refine Moves.run ?_ (O (by decide)) (P (by decide))
    | with_reducible refine Moves.ite (fun _ => ?_) (fun _ => ?_)
    | with_reducible refine Moves.ite1 (fun _ => ?_) (fun _ => ?_)
    | split
    | dsimp only

def objs_noteGather : Nat := 0x340000000000000000000000000000000000000000000000000000000000000000000000000000000000000000e8020006606cb80100021ff3e4000000000000c7e00100028000000000000
def parts_noteGather : Nat := 0x78edbf9
theorem Moves.noteGather {p sl m n : Nat} (hM : Moves d₀ e₀ mo mp) (hO : Mask.le objs_noteGather mo) (hP : Mask.le parts_noteGather mp) :
    Moves d₀ (e₀.noteGather p sl m n) mo mp := by
  have O {a : Nat} (h : (a &&& objs_noteGather == a) = true) := Mask.le_trans h hO
  have P {a : Nat} (h : (a &&& parts_noteGather == a) = true) := Mask.le_trans h hP
  unfold Device.noteGather
  try simp only
  repeat' first
    | with_reducible exact hM
    | with_reducible exact Moves.refl ..
    | with_reducible refine Moves.setSlot ?_ (O (by decide)) (P (by decide))
    | with_reducible refine Moves.run ?_ (O (by decide)) (P (by decide))
    | dsimp only

def objs_noteToken : Nat := 0x340000000000000000000000000000000000000000000000000000000000000000000000000000000000000000e8020006606cb80100021ff3e4000000000000c7e00100028000000000000
def parts_noteToken : Nat := 0x78edbf9
theorem Moves.noteToken {p sl e : Nat} {last : Bool} (hM : Moves d₀ e₀ mo mp) (hO : Mask.le objs_noteToken mo) (hP : Mask.le parts_noteToken mp) :
    Moves d₀ (e₀.noteToken p sl e last) mo mp := by
  have O {a : Nat} (h : (a &&& objs_noteToken == a) = true) := Mask.le_trans h hO
  have P {a : Nat} (h : (a &&& parts_noteToken == a) = true) := Mask.le_trans h hP
  unfold Device.noteToken
  try simp only
  repeat' first
    | with_reducible exact hM
    | with_reducible exact Moves.refl ..
    | with_reducible refine Moves.setSlot ?_ (O (by decide)) (P (by decide))
    | with_reducible refine Moves.run ?_ (O (by decide)) (P (by decide))
    | with_reducible refine Moves.ite (fun _ => ?_) (fun _ => ?_)
    | with_reducible refine Moves.ite1 (fun _ => ?_) (fun _ => ?_)
    | split
    | dsimp only

def objs_takeIn : Nat := 0x0
def parts_takeIn : Nat := 0x40
theorem Moves.takeIn {p u : Nat} {f : Frame} (hM : Moves d₀ e₀ mo mp) (hO : Mask.le objs_takeIn mo) (hP : Mask.le parts_takeIn mp) :
    Moves d₀ (e₀.takeIn p u f) mo mp := by
  have O {a : Nat} (h : (a &&& objs_takeIn == a) = true) := Mask.le_trans h hO
  have P {a : Nat} (h : (a &&& parts_takeIn == a) = true) := Mask.le_trans h hP
  have S {k : Nat} (h : parts_takeIn.testBit k = true) := Mask.bit h hP
  unfold Device.takeIn
  try simp only
  repeat' first
    | with_reducible exact hM
    | with_reducible exact Moves.refl ..
    | split
    | with_reducible refine Moves.with_inbox ?_ (S (by decide))
    | dsimp only

def objs_readCopy : Nat := 0x0
def parts_readCopy : Nat := 0x1000
theorem Moves.readCopy {p id o : Nat} (hM : Moves d₀ e₀ mo mp) (hO : Mask.le objs_readCopy mo) (hP : Mask.le parts_readCopy mp) :
    Moves d₀ (e₀.readCopy p id o) mo mp := by
  have O {a : Nat} (h : (a &&& objs_readCopy == a) = true) := Mask.le_trans h hO
  have P {a : Nat} (h : (a &&& parts_readCopy == a) = true) := Mask.le_trans h hP
  unfold Device.readCopy
  try simp only
  repeat' first
    | with_reducible exact hM
    | with_reducible exact Moves.refl ..
    | with_reducible refine Moves.setCopy ?_ (O (by decide)) (P (by decide))
    | split
    | dsimp only

def objs_reducerFrame : Nat := 0x340000000000000000000000000000000000000000000000000000000000000000000000000000000000000000e8020006606cb80100021ff3ff000000000000c7e00100028000000000000
def parts_reducerFrame : Nat := 0x78edbf9
theorem Moves.reducerFrame {p col id : Nat} (hM : Moves d₀ e₀ mo mp) (hO : Mask.le objs_reducerFrame mo) (hP : Mask.le parts_reducerFrame mp) :
    Moves d₀ (e₀.reducerFrame p col id) mo mp := by
  have O {a : Nat} (h : (a &&& objs_reducerFrame == a) = true) := Mask.le_trans h hO
  have P {a : Nat} (h : (a &&& parts_reducerFrame == a) = true) := Mask.le_trans h hP
  unfold Device.reducerFrame
  try simp only
  repeat' first
    | with_reducible exact hM
    | with_reducible exact Moves.refl ..
    | with_reducible refine Moves.readCopy ?_ (O (by decide)) (P (by decide))
    | with_reducible refine Moves.ctxEvent ?_ (O (by decide)) (P (by decide))
    | with_reducible refine Moves.reduceFrame ?_ (O (by decide)) (P (by decide))
    | with_reducible refine Moves.ite (fun _ => ?_) (fun _ => ?_)
    | with_reducible refine Moves.ite1 (fun _ => ?_) (fun _ => ?_)
    | split
    | dsimp only

def objs_clearDone : Nat := 0x340000000000000000000000000000000000000000000000000000000000000000000000000000000000000000e8020006606cb80100021ff3e4000000000000c7e00100028000000000000
def parts_clearDone : Nat := 0x78edbf9
theorem Moves.clearDone {p x : Nat} (hM : Moves d₀ e₀ mo mp) (hO : Mask.le objs_clearDone mo) (hP : Mask.le parts_clearDone mp) :
    Moves d₀ (e₀.clearDone p x) mo mp := by
  have O {a : Nat} (h : (a &&& objs_clearDone == a) = true) := Mask.le_trans h hO
  have P {a : Nat} (h : (a &&& parts_clearDone == a) = true) := Mask.le_trans h hP
  have B {k : Nat} (h : objs_clearDone.testBit k = true) := Mask.bit h hO
  have S {k : Nat} (h : parts_clearDone.testBit k = true) := Mask.bit h hP
  unfold Device.clearDone
  try simp only
  repeat' first
    | with_reducible exact hM
    | with_reducible exact Moves.refl ..
    | with_reducible refine Moves.set ?_ (B (by decide)) (by decide)
    | with_reducible refine Moves.setRctx ?_ (O (by decide)) (P (by decide))
    | with_reducible refine Moves.resumeSlot ?_ (O (by decide)) (P (by decide))
    | with_reducible refine Moves.run ?_ (O (by decide)) (P (by decide))
    | with_reducible refine Moves.ctxNotice ?_ (O (by decide)) (P (by decide))
    | with_reducible refine Moves.restartCtx ?_ (O (by decide)) (P (by decide))
    | with_reducible refine Moves.hold ?_ (O (by decide)) (P (by decide))
    | with_reducible refine Moves.ite (fun _ => ?_) (fun _ => ?_)
    | with_reducible refine Moves.ite1 (fun _ => ?_) (fun _ => ?_)
    | split
    | dsimp only

def objs_rctxAbort : Nat := 0x340000000000000000000000000000000000000000000000000000000000000000000000000000000000000000e8020006606cb80100021ff3e4000000000000c7e00100028000000000000
def parts_rctxAbort : Nat := 0x78edbf9
theorem Moves.rctxAbort {p ses : Nat} (hM : Moves d₀ e₀ mo mp) (hO : Mask.le objs_rctxAbort mo) (hP : Mask.le parts_rctxAbort mp) :
    Moves d₀ (e₀.rctxAbort p ses) mo mp := by
  have O {a : Nat} (h : (a &&& objs_rctxAbort == a) = true) := Mask.le_trans h hO
  have P {a : Nat} (h : (a &&& parts_rctxAbort == a) = true) := Mask.le_trans h hP
  have B {k : Nat} (h : objs_rctxAbort.testBit k = true) := Mask.bit h hO
  unfold Device.rctxAbort
  try simp only
  repeat' first
    | with_reducible exact hM
    | with_reducible exact Moves.refl ..
    | with_reducible refine Moves.cmdReads ?_ (B (by dsimp only; decide)) (by dsimp only; decide)
    | with_reducible refine Moves.abortAnd ?_ (O (by decide)) (P (by decide))
    | with_reducible refine Moves.ite (fun _ => ?_) (fun _ => ?_)
    | with_reducible refine Moves.ite1 (fun _ => ?_) (fun _ => ?_)
    | split
    | dsimp only

def objs_syncWrite : Nat := 0x340000000000000000000000000000000000000000000000000000000000000000000000000000000000000000e8020006606cb80100021ff3e4000000000000c7e00100028000000000000
def parts_syncWrite : Nat := 0x78edbf9
theorem Moves.syncWrite {p o v : Nat} (hM : Moves d₀ e₀ mo mp) (hO : Mask.le objs_syncWrite mo) (hP : Mask.le parts_syncWrite mp) :
    Moves d₀ (e₀.syncWrite p o v) mo mp := by
  have O {a : Nat} (h : (a &&& objs_syncWrite == a) = true) := Mask.le_trans h hO
  have P {a : Nat} (h : (a &&& parts_syncWrite == a) = true) := Mask.le_trans h hP
  have B {k : Nat} (h : objs_syncWrite.testBit k = true) := Mask.bit h hO
  have S {k : Nat} (h : parts_syncWrite.testBit k = true) := Mask.bit h hP
  unfold Device.syncWrite
  try simp only
  repeat' first
    | with_reducible exact hM
    | with_reducible exact Moves.refl ..
    | with_reducible refine Moves.set ?_ (B (by decide)) (by decide)
    | with_reducible refine Moves.run ?_ (O (by decide)) (P (by decide))
    | dsimp only

def objs_lrTileRx : Nat := 0x340000000000000000000000000000000000000000000000000000000000000000000000000000000000000000e8062006606cb80100021ff3fc000000000000c7e00100028000000000000
def parts_lrTileRx : Nat := 0x78edbf9
theorem Moves.lrTileRx {p : Nat} {f : Frame} (hM : Moves d₀ e₀ mo mp) (hO : Mask.le objs_lrTileRx mo) (hP : Mask.le parts_lrTileRx mp) :
    Moves d₀ (e₀.lrTileRx p f) mo mp := by
  have O {a : Nat} (h : (a &&& objs_lrTileRx == a) = true) := Mask.le_trans h hO
  have P {a : Nat} (h : (a &&& parts_lrTileRx == a) = true) := Mask.le_trans h hP
  unfold Device.lrTileRx
  try simp only
  repeat' first
    | with_reducible exact hM
    | with_reducible exact Moves.refl ..
    | with_reducible refine Moves.ctxEvent ?_ (O (by decide)) (P (by decide))
    | with_reducible refine Moves.lrTile ?_ (O (by decide)) (P (by decide))
    | with_reducible refine Moves.failCtx ?_ (O (by decide)) (P (by decide))
    | split
    | dsimp only


def objs_omitted : Nat := 0x8000000000000
def parts_omitted : Nat := 0x1
theorem Moves.omitted {p input : Nat} {w : Onward} (hM : Moves d₀ e₀ mo mp) (hO : Mask.le objs_omitted mo) (hP : Mask.le parts_omitted mp) :
    Moves d₀ (e₀.omitted p input w).1 mo mp := by
  have O {a : Nat} (h : (a &&& objs_omitted == a) = true) := Mask.le_trans h hO
  have P {a : Nat} (h : (a &&& parts_omitted == a) = true) := Mask.le_trans h hP
  have B {k : Nat} (h : objs_omitted.testBit k = true) := Mask.bit h hO
  have S {k : Nat} (h : parts_omitted.testBit k = true) := Mask.bit h hP
  unfold Device.omitted
  try simp only
  repeat' first
    | with_reducible exact hM
    | with_reducible exact Moves.refl ..
    | with_reducible refine Moves.bump ?_ (B (by decide)) (by decide) (S (by decide))
    | with_reducible refine Moves.count ?_ (B (by decide)) (by decide) (S (by decide))
    | with_reducible refine Moves.ite (fun _ => ?_) (fun _ => ?_)
    | with_reducible refine Moves.ite1 (fun _ => ?_) (fun _ => ?_)
    | split
    | dsimp only

def objs_creditBack : Nat := 0x3400000000000000000000000000000000000000000000000001180a88000000000000000000000000000000000000000000000000000000000000000000000000000000000000000000000
def parts_creditBack : Nat := 0x100806a1
theorem Moves.creditBack {p : Nat} {input : Nat} {f : Frame} (hM : Moves d₀ e₀ mo mp) (hO : Mask.le objs_creditBack mo) (hP : Mask.le parts_creditBack mp) :
    Moves d₀ (e₀.creditBack p input f) mo mp := by
  have O {a : Nat} (h : (a &&& objs_creditBack == a) = true) := Mask.le_trans h hO
  have P {a : Nat} (h : (a &&& parts_creditBack == a) = true) := Mask.le_trans h hP
  unfold Device.creditBack
  try simp only
  repeat' first
    | with_reducible exact hM
    | with_reducible exact Moves.refl ..
    | with_reducible refine Moves.returnCredit ?_ (O (by decide)) (P (by decide))
    | with_reducible refine Moves.ite (fun _ => ?_) (fun _ => ?_)
    | with_reducible refine Moves.ite1 (fun _ => ?_) (fun _ => ?_)
    | split
    | dsimp only

def objs_enter : Nat := 0x3400000000000000000000000000000000001000000000000001180a88000000000000000000000000000000000000000000000000000000000000000000000000002000056800200000000
def parts_enter : Nat := 0x10095eb1
theorem Moves.enter {p input : Nat} {f : Frame} {outs : List Nat} {grp : Option Nat} {direct : Bool} (hM : Moves d₀ e₀ mo mp) (hO : Mask.le objs_enter mo) (hP : Mask.le parts_enter mp) :
    Moves d₀ (e₀.enter p input f outs grp direct) mo mp := by
  have O {a : Nat} (h : (a &&& objs_enter == a) = true) := Mask.le_trans h hO
  have P {a : Nat} (h : (a &&& parts_enter == a) = true) := Mask.le_trans h hP
  unfold Device.enter
  try simp only
  repeat' first
    | with_reducible exact hM
    | with_reducible exact Moves.refl ..
    | with_reducible refine Moves.creditBack ?_ (O (by decide)) (P (by decide))
    | with_reducible refine Moves.hold ?_ (O (by decide)) (P (by decide))
    | with_reducible refine Moves.enterStore ?_ (O (by decide)) (P (by decide))
    | with_reducible refine Moves.tenantDrop ?_ (O (by decide)) (P (by decide))
    | with_reducible refine Moves.ite (fun _ => ?_) (fun _ => ?_)
    | with_reducible refine Moves.ite1 (fun _ => ?_) (fun _ => ?_)
    | split
    | dsimp only

def objs_onward : Nat := 0x3400000000000000000000000000000000001000000000000001180a8800000000000000000000000100000000000000000000000000000000000000000000000000200005e800200000000
def parts_onward : Nat := 0x10095eb1
theorem Moves.onward {p input : Nat} {f : Frame} {w : Onward} {direct : Bool} (hM : Moves d₀ e₀ mo mp) (hO : Mask.le objs_onward mo) (hP : Mask.le parts_onward mp) :
    Moves d₀ (e₀.onward p input f w direct) mo mp := by
  have O {a : Nat} (h : (a &&& objs_onward == a) = true) := Mask.le_trans h hO
  have P {a : Nat} (h : (a &&& parts_onward == a) = true) := Mask.le_trans h hP
  have B {k : Nat} (h : objs_onward.testBit k = true) := Mask.bit h hO
  have S {k : Nat} (h : parts_onward.testBit k = true) := Mask.bit h hP
  unfold Device.onward
  try simp only
  repeat' first
    | with_reducible exact hM
    | with_reducible exact Moves.refl ..
    | with_reducible refine Moves.bump ?_ (B (by first | decide | (split <;> decide))) (by first | decide | (split <;> decide)) (S (by decide))
    | with_reducible refine Moves.causeFabric ?_ (O (by decide)) (P (by decide))
    | with_reducible refine Moves.enter ?_ (O (by decide)) (P (by decide))
    | with_reducible refine Moves.creditBack ?_ (O (by decide)) (P (by decide))
    | with_reducible refine Moves.omitted ?_ (O (by decide)) (P (by decide))
    | with_reducible refine Moves.ite (fun _ => ?_) (fun _ => ?_)
    | with_reducible refine Moves.ite1 (fun _ => ?_) (fun _ => ?_)
    | split
    | dsimp only

def objs_dispatchFrame : Nat := 0x3400000000000000000000000000000000001000000000000001180a8800000000000000000000000100000000e8020006606cb80120021ff3e4000000000000c7e0210007e800200000000
def parts_dispatchFrame : Nat := 0x178fdff9
theorem Moves.dispatchFrame {p input : Nat} {f : Frame} {direct : Bool} (hM : Moves d₀ e₀ mo mp) (hO : Mask.le objs_dispatchFrame mo) (hP : Mask.le parts_dispatchFrame mp) :
    Moves d₀ (e₀.dispatchFrame p input f direct) mo mp := by
  have O {a : Nat} (h : (a &&& objs_dispatchFrame == a) = true) := Mask.le_trans h hO
  have P {a : Nat} (h : (a &&& parts_dispatchFrame == a) = true) := Mask.le_trans h hP
  have B {k : Nat} (h : objs_dispatchFrame.testBit k = true) := Mask.bit h hO
  have S {k : Nat} (h : parts_dispatchFrame.testBit k = true) := Mask.bit h hP
  unfold Device.dispatchFrame
  try simp only
  repeat' first
    | with_reducible exact hM
    | with_reducible exact Moves.refl ..
    | with_reducible refine Moves.bump ?_ (B (by first | decide | (split <;> decide) | (cases m <;> decide))) (by first | decide | (split <;> decide) | (cases m <;> decide)) (S (by decide))
    | with_reducible refine Moves.onward ?_ (O (by decide)) (P (by decide))
    | with_reducible refine Moves.creditBack ?_ (O (by decide)) (P (by decide))
    | with_reducible refine Moves.noteToken ?_ (O (by decide)) (P (by decide))
    | with_reducible refine Moves.noteGather ?_ (O (by decide)) (P (by decide))
    | with_reducible refine Moves.noteRelay ?_ (O (by decide)) (P (by decide))
    | with_reducible refine Moves.routeMiss ?_ (O (by decide)) (P (by decide))
    | with_reducible refine Moves.route ?_ (O (by decide)) (P (by decide))
    | with_reducible refine Moves.ite (fun _ => ?_) (fun _ => ?_)
    | with_reducible refine Moves.ite1 (fun _ => ?_) (fun _ => ?_)
    | split
    | with_reducible refine Moves.with_inbox ?_ (S (by decide))
    | dsimp only

def objs_setFlow : Nat := 0x0
def parts_setFlow : Nat := 0x2000
theorem Moves.setFlow {w : Flow} (hM : Moves d₀ e₀ mo mp) (hO : Mask.le objs_setFlow mo) (hP : Mask.le parts_setFlow mp) :
    Moves d₀ (e₀.setFlow w) mo mp := by
  have O {a : Nat} (h : (a &&& objs_setFlow == a) = true) := Mask.le_trans h hO
  have P {a : Nat} (h : (a &&& parts_setFlow == a) = true) := Mask.le_trans h hP
  have S {k : Nat} (h : parts_setFlow.testBit k = true) := Mask.bit h hP
  unfold Device.setFlow
  try simp only
  repeat' first
    | with_reducible exact hM
    | with_reducible exact Moves.refl ..
    | with_reducible refine Moves.ite (fun _ => ?_) (fun _ => ?_)
    | with_reducible refine Moves.ite1 (fun _ => ?_) (fun _ => ?_)
    | split
    | with_reducible refine Moves.with_flows ?_ (S (by decide))
    | dsimp only

def objs_passHeld : Nat := 0x3400000000000000000000000000000000001000000000000001180a8800000000000000000000000100000000e8020006606cb80120021ff3e4000000000000c7e0210007e800200000000
def parts_passHeld : Nat := 0x178fdff9
theorem Moves.passHeld {p : Nat} {id : FlowId} {h : Held} (hM : Moves d₀ e₀ mo mp) (hO : Mask.le objs_passHeld mo) (hP : Mask.le parts_passHeld mp) :
    Moves d₀ (e₀.passHeld p id h) mo mp := by
  have O {a : Nat} (h : (a &&& objs_passHeld == a) = true) := Mask.le_trans h hO
  have P {a : Nat} (h : (a &&& parts_passHeld == a) = true) := Mask.le_trans h hP
  unfold Device.passHeld
  try simp only
  repeat' first
    | with_reducible exact hM
    | with_reducible exact Moves.refl ..
    | with_reducible refine Moves.dispatchFrame ?_ (O (by decide)) (P (by decide))
    | with_reducible refine Moves.free ?_ (O (by decide)) (P (by decide))
    | dsimp only

def objs_flowRun : Nat := 0x3400000000000000000000000000000000001000000000000001180a8800000000000000000000000100000000e8020006606cb80120021ff3e4000000000000c7e0210047e800200000000
def parts_flowRun : Nat := 0x178ffff9
theorem Moves.flowRun {p : Nat} {id : FlowId} {z0 : Nat} {z1 : Bool} (hM : Moves d₀ e₀ mo mp) (hO : Mask.le objs_flowRun mo) (hP : Mask.le parts_flowRun mp) :
    Moves d₀ (e₀.flowRun p id z0 z1) mo mp := by
  have O {a : Nat} (h : (a &&& objs_flowRun == a) = true) := Mask.le_trans h hO
  have P {a : Nat} (h : (a &&& parts_flowRun == a) = true) := Mask.le_trans h hP
  have B {k : Nat} (h : objs_flowRun.testBit k = true) := Mask.bit h hO
  have S {k : Nat} (h : parts_flowRun.testBit k = true) := Mask.bit h hP
  induction z0 generalizing e₀ z1 with
  | zero => exact hM
  | succ n ih =>
  unfold Device.flowRun
  try simp only
  repeat' first
    | with_reducible exact hM
    | with_reducible exact Moves.refl ..
    | with_reducible apply ih
    | with_reducible refine Moves.count ?_ (B (by decide)) (by decide) (S (by decide))
    | with_reducible refine Moves.causeSwitch ?_ (O (by decide)) (P (by decide))
    | with_reducible refine Moves.passHeld ?_ (O (by decide)) (P (by decide))
    | with_reducible refine Moves.setFlow ?_ (O (by decide)) (P (by decide))
    | with_reducible refine Moves.ite (fun _ => ?_) (fun _ => ?_)
    | with_reducible refine Moves.ite1 (fun _ => ?_) (fun _ => ?_)
    | split
    | dsimp only

def objs_reseqFrame : Nat := 0x3400000000000000000000000000000000001000000000000001180a8800000000000000000000000100000000e8020006606cb80120021ff3e4000000000000c7e02103c7e800200000000
def parts_reseqFrame : Nat := 0x178ffff9
theorem Moves.reseqFrame {p input : Nat} {f : Frame} (hM : Moves d₀ e₀ mo mp) (hO : Mask.le objs_reseqFrame mo) (hP : Mask.le parts_reseqFrame mp) :
    Moves d₀ (e₀.reseqFrame p input f) mo mp := by
  have O {a : Nat} (h : (a &&& objs_reseqFrame == a) = true) := Mask.le_trans h hO
  have P {a : Nat} (h : (a &&& parts_reseqFrame == a) = true) := Mask.le_trans h hP
  have B {k : Nat} (h : objs_reseqFrame.testBit k = true) := Mask.bit h hO
  have S {k : Nat} (h : parts_reseqFrame.testBit k = true) := Mask.bit h hP
  unfold Device.reseqFrame
  try simp only
  repeat' first
    | with_reducible exact hM
    | with_reducible exact Moves.refl ..
    | with_reducible refine Moves.bump ?_ (B (by decide)) (by decide) (S (by decide))
    | with_reducible refine Moves.causeSwitch ?_ (O (by decide)) (P (by decide))
    | with_reducible refine Moves.flowRun ?_ (O (by decide)) (P (by decide))
    | with_reducible refine Moves.setFlow ?_ (O (by decide)) (P (by decide))
    | with_reducible refine Moves.dispatchFrame ?_ (O (by decide)) (P (by decide))
    | with_reducible refine Moves.creditBack ?_ (O (by decide)) (P (by decide))
    | with_reducible refine Moves.alloc ?_ (O (by decide)) (P (by decide))
    | with_reducible refine Moves.ite (fun _ => ?_) (fun _ => ?_)
    | with_reducible refine Moves.ite1 (fun _ => ?_) (fun _ => ?_)
    | split
    | dsimp only

def objs_intake : Nat := 0x3400000000000000000000000000000000001000000000000001180a8800000000000000000000000100000000e8020006606cb80120021ff3e4000000000000c7e02103c7e800200000000
def parts_intake : Nat := 0x178ffff9
theorem Moves.intake {p input : Nat} {f : Frame} (hM : Moves d₀ e₀ mo mp) (hO : Mask.le objs_intake mo) (hP : Mask.le parts_intake mp) :
    Moves d₀ (e₀.intake p input f) mo mp := by
  have O {a : Nat} (h : (a &&& objs_intake == a) = true) := Mask.le_trans h hO
  have P {a : Nat} (h : (a &&& parts_intake == a) = true) := Mask.le_trans h hP
  unfold Device.intake
  try simp only
  repeat' first
    | with_reducible exact hM
    | with_reducible exact Moves.refl ..
    | with_reducible refine Moves.reseqFrame ?_ (O (by decide)) (P (by decide))
    | with_reducible refine Moves.dispatchFrame ?_ (O (by decide)) (P (by decide))
    | with_reducible refine Moves.ite (fun _ => ?_) (fun _ => ?_)
    | with_reducible refine Moves.ite1 (fun _ => ?_) (fun _ => ?_)
    | split
    | dsimp only

def objs_nakOnce : Nat := 0x3400000000000000000000000000000000000000000000000001180a88000000000000000000000000000000000000000000000000000000000000000000000000000000000000000000000
def parts_nakOnce : Nat := 0x100806a1
theorem Moves.nakOnce {p n : Nat} (hM : Moves d₀ e₀ mo mp) (hO : Mask.le objs_nakOnce mo) (hP : Mask.le parts_nakOnce mp) :
    Moves d₀ (e₀.nakOnce p n) mo mp := by
  have O {a : Nat} (h : (a &&& objs_nakOnce == a) = true) := Mask.le_trans h hO
  have P {a : Nat} (h : (a &&& parts_nakOnce == a) = true) := Mask.le_trans h hP
  unfold Device.nakOnce
  try simp only
  repeat' first
    | with_reducible exact hM
    | with_reducible exact Moves.refl ..
    | with_reducible refine Moves.setPort ?_ (O (by decide)) (P (by decide))
    | with_reducible refine Moves.sendNak ?_ (O (by decide)) (P (by decide))
    | with_reducible refine Moves.ite (fun _ => ?_) (fun _ => ?_)
    | with_reducible refine Moves.ite1 (fun _ => ?_) (fun _ => ?_)
    | split
    | dsimp only

def objs_accept : Nat := 0x0
def parts_accept : Nat := 0x400
theorem Moves.accept {p n : Nat} {f : Frame} (hM : Moves d₀ e₀ mo mp) (hO : Mask.le objs_accept mo) (hP : Mask.le parts_accept mp) :
    Moves d₀ (e₀.accept p n f) mo mp := by
  have O {a : Nat} (h : (a &&& objs_accept == a) = true) := Mask.le_trans h hO
  have P {a : Nat} (h : (a &&& parts_accept == a) = true) := Mask.le_trans h hP
  unfold Device.accept
  try simp only
  repeat' first
    | with_reducible exact hM
    | with_reducible exact Moves.refl ..
    | with_reducible refine Moves.setPort ?_ (O (by decide)) (P (by decide))
    | dsimp only

def objs_countRx : Nat := 0x300000
def parts_countRx : Nat := 0x1
theorem Moves.countRx {p n : Nat} {f : Frame} (hM : Moves d₀ e₀ mo mp) (hO : Mask.le objs_countRx mo) (hP : Mask.le parts_countRx mp) :
    Moves d₀ (e₀.countRx p n f) mo mp := by
  have O {a : Nat} (h : (a &&& objs_countRx == a) = true) := Mask.le_trans h hO
  have P {a : Nat} (h : (a &&& parts_countRx == a) = true) := Mask.le_trans h hP
  have B {k : Nat} (h : objs_countRx.testBit k = true) := Mask.bit h hO
  have S {k : Nat} (h : parts_countRx.testBit k = true) := Mask.bit h hP
  unfold Device.countRx
  try simp only
  repeat' first
    | with_reducible exact hM
    | with_reducible exact Moves.refl ..
    | with_reducible refine Moves.bump ?_ (B (by decide)) (by decide) (S (by decide))
    | with_reducible refine Moves.count ?_ (B (by decide)) (by decide) (S (by decide))
    | with_reducible refine Moves.ite (fun _ => ?_) (fun _ => ?_)
    | with_reducible refine Moves.ite1 (fun _ => ?_) (fun _ => ?_)
    | split
    | dsimp only

def objs_rejectPort : Nat := 0x3400000000000000000000000000000000002000000000000000000000000000000000000000000000000000000000000000000000000000000000000000000000000000000007800000000
def parts_rejectPort : Nat := 0x2a1
theorem Moves.rejectPort {p n : Nat} {f : Frame} {v : Verdict} (hM : Moves d₀ e₀ mo mp) (hO : Mask.le objs_rejectPort mo) (hP : Mask.le parts_rejectPort mp) :
    Moves d₀ (e₀.rejectPort p n f v) mo mp := by
  have O {a : Nat} (h : (a &&& objs_rejectPort == a) = true) := Mask.le_trans h hO
  have P {a : Nat} (h : (a &&& parts_rejectPort == a) = true) := Mask.le_trans h hP
  have B {k : Nat} (h : objs_rejectPort.testBit k = true) := Mask.bit h hO
  have S {k : Nat} (h : parts_rejectPort.testBit k = true) := Mask.bit h hP
  unfold Device.rejectPort
  try simp only
  repeat' first
    | with_reducible exact hM
    | with_reducible exact Moves.refl ..
    | with_reducible refine Moves.bump ?_ (B (by decide)) (by decide) (S (by decide))
    | with_reducible refine Moves.causeFabric ?_ (O (by decide)) (P (by decide))
    | split
    | dsimp only

def objs_begun : Nat := 0x0
def parts_begun : Nat := 0x8
theorem Moves.begun {l : List Nat} (hM : Moves d₀ e₀ mo mp) (hO : Mask.le objs_begun mo) (hP : Mask.le parts_begun mp) :
    Moves d₀ (e₀.begun l).1 mo mp := by
  induction l generalizing e₀ with
  | nil => exact hM
  | cons o r ih =>
    unfold Device.begun
    exact ih (hM.fresh hO hP)

def objs_stompOnward : Nat := 0x3400000000000000000000000000000000001000000000000001180a88000000000000000000000000000000000000000000000000000000000000000000000000002000056800200000000
def parts_stompOnward : Nat := 0x10091eb9
theorem Moves.stompOnward {p n : Nat} {f : Frame} (hM : Moves d₀ e₀ mo mp) (hO : Mask.le objs_stompOnward mo) (hP : Mask.le parts_stompOnward mp) :
    Moves d₀ (e₀.stompOnward p n f) mo mp := by
  have O {a : Nat} (h : (a &&& objs_stompOnward == a) = true) := Mask.le_trans h hO
  have P {a : Nat} (h : (a &&& parts_stompOnward == a) = true) := Mask.le_trans h hP
  unfold Device.stompOnward
  try simp only
  repeat' first
    | with_reducible exact hM
    | with_reducible exact Moves.refl ..
    | with_reducible refine Moves.begun ?_ (O (by decide)) (P (by decide))
    | with_reducible refine Moves.enterStore ?_ (O (by decide)) (P (by decide))
    | with_reducible refine Moves.ite (fun _ => ?_) (fun _ => ?_)
    | with_reducible refine Moves.ite1 (fun _ => ?_) (fun _ => ?_)
    | split
    | dsimp only

def objs_discardRx : Nat := 0x0
def parts_discardRx : Nat := 0x400
theorem Moves.discardRx {p n : Nat} {f : Frame} (hM : Moves d₀ e₀ mo mp) (hO : Mask.le objs_discardRx mo) (hP : Mask.le parts_discardRx mp) :
    Moves d₀ (e₀.discardRx p n f) mo mp := by
  have O {a : Nat} (h : (a &&& objs_discardRx == a) = true) := Mask.le_trans h hO
  have P {a : Nat} (h : (a &&& parts_discardRx == a) = true) := Mask.le_trans h hP
  unfold Device.discardRx
  try simp only
  repeat' first
    | with_reducible exact hM
    | with_reducible exact Moves.refl ..
    | with_reducible refine Moves.setPort ?_ (O (by decide)) (P (by decide))
    | dsimp only

def objs_rxUp : Nat := 0x3400000000000000000000000000000000003000040000000001180a8800000000000000000000000100000000e8020006606cb80120021ff3e4000000000000c7e02103c7e807e3c300000
def parts_rxUp : Nat := 0x178ffff9
theorem Moves.rxUp {p n : Nat} {f : Frame} (hM : Moves d₀ e₀ mo mp) (hO : Mask.le objs_rxUp mo) (hP : Mask.le parts_rxUp mp) :
    Moves d₀ (e₀.rxUp p n f) mo mp := by
  have O {a : Nat} (h : (a &&& objs_rxUp == a) = true) := Mask.le_trans h hO
  have P {a : Nat} (h : (a &&& parts_rxUp == a) = true) := Mask.le_trans h hP
  have B {k : Nat} (h : objs_rxUp.testBit k = true) := Mask.bit h hO
  have S {k : Nat} (h : parts_rxUp.testBit k = true) := Mask.bit h hP
  unfold Device.rxUp
  try simp only
  repeat' first
    | with_reducible exact hM
    | with_reducible exact Moves.refl ..
    | with_reducible refine Moves.bump ?_ (B (by decide)) (by decide) (S (by decide))
    | with_reducible refine Moves.causeFabric ?_ (O (by decide)) (P (by decide))
    | with_reducible refine Moves.discardRx ?_ (O (by decide)) (P (by decide))
    | with_reducible refine Moves.stompOnward ?_ (O (by decide)) (P (by decide))
    | with_reducible refine Moves.rejectPort ?_ (O (by decide)) (P (by decide))
    | with_reducible refine Moves.countRx ?_ (O (by decide)) (P (by decide))
    | with_reducible refine Moves.accept ?_ (O (by decide)) (P (by decide))
    | with_reducible refine Moves.nakOnce ?_ (O (by decide)) (P (by decide))
    | with_reducible refine Moves.intake ?_ (O (by decide)) (P (by decide))
    | with_reducible refine Moves.creditBack ?_ (O (by decide)) (P (by decide))
    | with_reducible refine Moves.ptpTaken ?_ (O (by decide)) (P (by decide))
    | with_reducible refine Moves.creditDue ?_ (O (by decide)) (P (by decide))
    | with_reducible refine Moves.sendCredit ?_ (O (by decide)) (P (by decide))
    | with_reducible refine Moves.ite (fun _ => ?_) (fun _ => ?_)
    | with_reducible refine Moves.ite1 (fun _ => ?_) (fun _ => ?_)
    | split
    | dsimp only

def objs_rxForwarded : Nat := 0x3400000000000000000000000000000000003000040000000001180a8800000000000000000000000100000000e8020006606cb80120021ff3e4000000000000c7e02103c7e817e3c300000
def parts_rxForwarded : Nat := 0x178ffff9
theorem Moves.rxForwarded {p n : Nat} {f : Frame} (hM : Moves d₀ e₀ mo mp) (hO : Mask.le objs_rxForwarded mo) (hP : Mask.le parts_rxForwarded mp) :
    Moves d₀ (e₀.rxForwarded p n f) mo mp := by
  have O {a : Nat} (h : (a &&& objs_rxForwarded == a) = true) := Mask.le_trans h hO
  have P {a : Nat} (h : (a &&& parts_rxForwarded == a) = true) := Mask.le_trans h hP
  have B {k : Nat} (h : objs_rxForwarded.testBit k = true) := Mask.bit h hO
  have S {k : Nat} (h : parts_rxForwarded.testBit k = true) := Mask.bit h hP
  unfold Device.rxForwarded
  try simp only
  repeat' first
    | with_reducible exact hM
    | with_reducible exact Moves.refl ..
    | with_reducible refine Moves.bump ?_ (B (by decide)) (by decide) (S (by decide))
    | with_reducible refine Moves.rxUp ?_ (O (by decide)) (P (by decide))
    | with_reducible refine Moves.startBlock ?_ (O (by decide)) (P (by decide))
    | with_reducible refine Moves.notIdle ?_ (O (by decide)) (P (by decide))
    | with_reducible refine Moves.ite (fun _ => ?_) (fun _ => ?_)
    | with_reducible refine Moves.ite1 (fun _ => ?_) (fun _ => ?_)
    | split
    | dsimp only


end Sys2Proof.Machine
end

