-- ==== Sys2Proof/Laws/MovesTether.lean ====
section
/-! SUPPORT. What the operations of Ballast, keys and the Tether can change: one lemma each. -/

namespace Sys2Proof.Machine

set_option linter.unusedSimpArgs false
set_option linter.unreachableTactic false
set_option linter.unusedTactic false
set_option linter.unusedVariables false
set_option linter.unnecessarySeqFocus false

variable {d₀ e₀ : Device} {mo mp : Nat}

def objs_keepPages : Nat := 0x3400000000000000000000000000000000000000000000000000000000000000000000000000000000000000000000000000000000000000000000000000000000c00000000000000000000
def parts_keepPages : Nat := 0x8000c02a1
theorem Moves.keepPages {p g : Nat} {cur prog : List Page} (hM : Moves d₀ e₀ mo mp) (hO : Mask.le objs_keepPages mo) (hP : Mask.le parts_keepPages mp) :
    Moves d₀ (e₀.keepPages p g cur prog) mo mp := by
  have O {a : Nat} (h : (a &&& objs_keepPages == a) = true) := Mask.le_trans h hO
  have P {a : Nat} (h : (a &&& parts_keepPages == a) = true) := Mask.le_trans h hP
  unfold Device.keepPages
  try simp only
  repeat' first
    | with_reducible exact hM
    | with_reducible exact Moves.refl ..
    | with_reducible refine Moves.setRgn ?_ (O (by decide)) (P (by decide))
    | with_reducible refine Moves.freeAll ?_ (O (by decide)) (P (by decide))
    | dsimp only

def objs_dropProgress : Nat := 0x3400000000000000000000000000000000000000000000000000000000000000000000000000000000000000000000000000000000000000000000000000000000c00000000000000000000
def parts_dropProgress : Nat := 0x8000c02a1
theorem Moves.dropProgress {p g : Nat} (hM : Moves d₀ e₀ mo mp) (hO : Mask.le objs_dropProgress mo) (hP : Mask.le parts_dropProgress mp) :
    Moves d₀ (e₀.dropProgress p g) mo mp := by
  have O {a : Nat} (h : (a &&& objs_dropProgress == a) = true) := Mask.le_trans h hO
  have P {a : Nat} (h : (a &&& parts_dropProgress == a) = true) := Mask.le_trans h hP
  unfold Device.dropProgress
  try simp only
  repeat' first
    | with_reducible exact hM
    | with_reducible exact Moves.refl ..
    | with_reducible refine Moves.setRgn ?_ (O (by decide)) (P (by decide))
    | with_reducible refine Moves.keepPages ?_ (O (by decide)) (P (by decide))
    | dsimp only

def objs_ckptFail : Nat := 0x340000000000000000000000000000000000000000000000000000000000000007c000000000000000000000000000000000000000000000000000000000000000000000000000000000000
def parts_ckptFail : Nat := 0x2a1
theorem Moves.ckptFail {p g : Nat} {f : Frame} {r} (hr : e₀.ckptFail p g f = some r) (hM : Moves d₀ e₀ mo mp) (hO : Mask.le objs_ckptFail mo) (hP : Mask.le parts_ckptFail mp) :
    Moves d₀ r mo mp := by
  have O {a : Nat} (h : (a &&& objs_ckptFail == a) = true) := Mask.le_trans h hO
  have P {a : Nat} (h : (a &&& parts_ckptFail == a) = true) := Mask.le_trans h hP
  have B {k : Nat} (h : objs_ckptFail.testBit k = true) := Mask.bit h hO
  have S {k : Nat} (h : parts_ckptFail.testBit k = true) := Mask.bit h hP
  unfold Device.ckptFail at hr
  try simp only at hr
  repeat' split at hr
  all_goals try (cases hr)
  all_goals try dsimp only
  repeat' first
    | with_reducible exact hM
    | with_reducible exact Moves.refl ..
    | with_reducible refine Moves.bump ?_ (B (by decide)) (by decide) (S (by decide))
    | with_reducible refine Moves.causeBallast ?_ (O (by decide)) (P (by decide))
    | with_reducible refine Moves.ite (fun _ => ?_) (fun _ => ?_)
    | with_reducible refine Moves.ite1 (fun _ => ?_) (fun _ => ?_)
    | split
    | dsimp only

def objs_pageRefused : Nat := 0x0
def parts_pageRefused : Nat := 0x800000000
theorem Moves.pageRefused {p g : Nat} (hM : Moves d₀ e₀ mo mp) (hO : Mask.le objs_pageRefused mo) (hP : Mask.le parts_pageRefused mp) :
    Moves d₀ (e₀.pageRefused p g) mo mp := by
  have O {a : Nat} (h : (a &&& objs_pageRefused == a) = true) := Mask.le_trans h hO
  have P {a : Nat} (h : (a &&& parts_pageRefused == a) = true) := Mask.le_trans h hP
  unfold Device.pageRefused
  try simp only
  repeat' first
    | with_reducible exact hM
    | with_reducible exact Moves.refl ..
    | with_reducible refine Moves.setRgn ?_ (O (by decide)) (P (by decide))
    | dsimp only

def objs_putPage : Nat := 0x34000000000000000000000000000000000000000000000000000000000000000018000000000000000000000000000000000000000000000000000000000000c7e00000000000000000000
def parts_putPage : Nat := 0x8000c03a9
theorem Moves.putPage {p g no : Nat} {data : Bytes} (hM : Moves d₀ e₀ mo mp) (hO : Mask.le objs_putPage mo) (hP : Mask.le parts_putPage mp) :
    Moves d₀ (e₀.putPage p g no data) mo mp := by
  have O {a : Nat} (h : (a &&& objs_putPage == a) = true) := Mask.le_trans h hO
  have P {a : Nat} (h : (a &&& parts_putPage == a) = true) := Mask.le_trans h hP
  have B {k : Nat} (h : objs_putPage.testBit k = true) := Mask.bit h hO
  have S {k : Nat} (h : parts_putPage.testBit k = true) := Mask.bit h hP
  unfold Device.putPage
  try simp only
  repeat' first
    | with_reducible exact hM
    | with_reducible exact Moves.refl ..
    | with_reducible refine Moves.bump ?_ (B (by first | decide | (split <;> decide))) (by first | decide | (split <;> decide)) (S (by decide))
    | with_reducible refine Moves.causeMemory ?_ (O (by decide)) (P (by decide))
    | with_reducible refine Moves.pageRefused ?_ (O (by decide)) (P (by decide))
    | with_reducible refine Moves.keepPages ?_ (O (by decide)) (P (by decide))
    | with_reducible refine Moves.alloc ?_ (O (by decide)) (P (by decide))
    | with_reducible refine Moves.ite (fun _ => ?_) (fun _ => ?_)
    | with_reducible refine Moves.ite1 (fun _ => ?_) (fun _ => ?_)
    | split
    | dsimp only

def objs_openVersion : Nat := 0x3400000000000000000000000000000000000000000000000000000000000000000000000000000000000000000000000000000000000000000000000000000000c00000000000000000000
def parts_openVersion : Nat := 0x8000c02a1
theorem Moves.openVersion {p g k : Nat} (hM : Moves d₀ e₀ mo mp) (hO : Mask.le objs_openVersion mo) (hP : Mask.le parts_openVersion mp) :
    Moves d₀ (e₀.openVersion p g k) mo mp := by
  have O {a : Nat} (h : (a &&& objs_openVersion == a) = true) := Mask.le_trans h hO
  have P {a : Nat} (h : (a &&& parts_openVersion == a) = true) := Mask.le_trans h hP
  unfold Device.openVersion
  try simp only
  repeat' first
    | with_reducible exact hM
    | with_reducible exact Moves.refl ..
    | with_reducible refine Moves.setRgn ?_ (O (by decide)) (P (by decide))
    | with_reducible refine Moves.dropProgress ?_ (O (by decide)) (P (by decide))
    | with_reducible refine Moves.ite (fun _ => ?_) (fun _ => ?_)
    | with_reducible refine Moves.ite1 (fun _ => ?_) (fun _ => ?_)
    | split
    | dsimp only

def objs_setPeer : Nat := 0x0
def parts_setPeer : Nat := 0x800000000
theorem Moves.setPeer {p g : Nat} {m : Bool} {v : PeerSt} (hM : Moves d₀ e₀ mo mp) (hO : Mask.le objs_setPeer mo) (hP : Mask.le parts_setPeer mp) :
    Moves d₀ (e₀.setPeer p g m v) mo mp := by
  have O {a : Nat} (h : (a &&& objs_setPeer == a) = true) := Mask.le_trans h hO
  have P {a : Nat} (h : (a &&& parts_setPeer == a) = true) := Mask.le_trans h hP
  unfold Device.setPeer
  try simp only
  repeat' first
    | with_reducible exact hM
    | with_reducible exact Moves.refl ..
    | with_reducible refine Moves.setRgn ?_ (O (by decide)) (P (by decide))
    | with_reducible refine Moves.ite (fun _ => ?_) (fun _ => ?_)
    | with_reducible refine Moves.ite1 (fun _ => ?_) (fun _ => ?_)
    | split
    | dsimp only

def objs_sendVersion : Nat := 0x3400000000000000000000000000000000000000000000000000000001e00000000000000000000000000000000000000000000000000000000400000000000000000000028000000000000
def parts_sendVersion : Nat := 0x8000a42e1
theorem Moves.sendVersion {p g : Nat} {m : Bool} (hM : Moves d₀ e₀ mo mp) (hO : Mask.le objs_sendVersion mo) (hP : Mask.le parts_sendVersion mp) :
    Moves d₀ (e₀.sendVersion p g m) mo mp := by
  have O {a : Nat} (h : (a &&& objs_sendVersion == a) = true) := Mask.le_trans h hO
  have P {a : Nat} (h : (a &&& parts_sendVersion == a) = true) := Mask.le_trans h hP
  have B {k : Nat} (h : objs_sendVersion.testBit k = true) := Mask.bit h hO
  have S {k : Nat} (h : parts_sendVersion.testBit k = true) := Mask.bit h hP
  unfold Device.sendVersion
  try simp only
  repeat' first
    | with_reducible exact hM
    | with_reducible exact Moves.refl ..
    | with_reducible refine Moves.set ?_ (B (by first | decide | (split <;> decide) | (cases m <;> decide))) (by first | decide | (split <;> decide) | (cases m <;> decide))
    | with_reducible refine Moves.setPeer ?_ (O (by decide)) (P (by decide))
    | with_reducible refine Moves.sendOwn ?_ (O (by decide)) (P (by decide))
    | with_reducible refine Moves.foldl ?_ (fun d a => ?_)
    | with_reducible refine Moves.ite (fun _ => ?_) (fun _ => ?_)
    | with_reducible refine Moves.ite1 (fun _ => ?_) (fun _ => ?_)
    | split
    | dsimp only

def objs_abandonSend : Nat := 0x0
def parts_abandonSend : Nat := 0x800004000
theorem Moves.abandonSend {p g : Nat} {m : Bool} (hM : Moves d₀ e₀ mo mp) (hO : Mask.le objs_abandonSend mo) (hP : Mask.le parts_abandonSend mp) :
    Moves d₀ (e₀.abandonSend p g m) mo mp := by
  have O {a : Nat} (h : (a &&& objs_abandonSend == a) = true) := Mask.le_trans h hO
  have P {a : Nat} (h : (a &&& parts_abandonSend == a) = true) := Mask.le_trans h hP
  have S {k : Nat} (h : parts_abandonSend.testBit k = true) := Mask.bit h hP
  unfold Device.abandonSend
  try simp only
  repeat' first
    | with_reducible exact hM
    | with_reducible exact Moves.refl ..
    | with_reducible refine Moves.setPeer ?_ (O (by decide)) (P (by decide))
    | with_reducible refine Moves.with_waitIn ?_ (S (by decide))
    | dsimp only

def objs_startPeer : Nat := 0x3400000000000000000000000000000000000000000000000000000001e00000000000000000000000000000000000000000000000000000000400000000000000000000028000000000000
def parts_startPeer : Nat := 0x8000a42e1
theorem Moves.startPeer {p g : Nat} {m : Bool} (hM : Moves d₀ e₀ mo mp) (hO : Mask.le objs_startPeer mo) (hP : Mask.le parts_startPeer mp) :
    Moves d₀ (e₀.startPeer p g m) mo mp := by
  have O {a : Nat} (h : (a &&& objs_startPeer == a) = true) := Mask.le_trans h hO
  have P {a : Nat} (h : (a &&& parts_startPeer == a) = true) := Mask.le_trans h hP
  unfold Device.startPeer
  try simp only
  repeat' first
    | with_reducible exact hM
    | with_reducible exact Moves.refl ..
    | with_reducible refine Moves.abandonSend ?_ (O (by decide)) (P (by decide))
    | with_reducible refine Moves.sendVersion ?_ (O (by decide)) (P (by decide))
    | with_reducible refine Moves.ite (fun _ => ?_) (fun _ => ?_)
    | with_reducible refine Moves.ite1 (fun _ => ?_) (fun _ => ?_)
    | split
    | dsimp only

def objs_peerFailed : Nat := 0x3400000000000000000000000000000000000000000000000000000001e00000600000000000000000000000000000000000000000000000000400000000000000000000028000000000000
def parts_peerFailed : Nat := 0x8000a42e1
theorem Moves.peerFailed {p g : Nat} {m mismatch : Bool} (hM : Moves d₀ e₀ mo mp) (hO : Mask.le objs_peerFailed mo) (hP : Mask.le parts_peerFailed mp) :
    Moves d₀ (e₀.peerFailed p g m mismatch) mo mp := by
  have O {a : Nat} (h : (a &&& objs_peerFailed == a) = true) := Mask.le_trans h hO
  have P {a : Nat} (h : (a &&& parts_peerFailed == a) = true) := Mask.le_trans h hP
  have B {k : Nat} (h : objs_peerFailed.testBit k = true) := Mask.bit h hO
  have S {k : Nat} (h : parts_peerFailed.testBit k = true) := Mask.bit h hP
  unfold Device.peerFailed
  try simp only
  repeat' first
    | with_reducible exact hM
    | with_reducible exact Moves.refl ..
    | with_reducible refine Moves.set ?_ (B (by first | decide | (split <;> decide) | (cases m <;> decide))) (by first | decide | (split <;> decide) | (cases m <;> decide))
    | with_reducible refine Moves.bump ?_ (B (by first | decide | (split <;> decide) | (cases m <;> decide))) (by first | decide | (split <;> decide) | (cases m <;> decide)) (S (by decide))
    | with_reducible refine Moves.causeBallast ?_ (O (by decide)) (P (by decide))
    | with_reducible refine Moves.abandonSend ?_ (O (by decide)) (P (by decide))
    | with_reducible refine Moves.sendVersion ?_ (O (by decide)) (P (by decide))
    | with_reducible refine Moves.setPeer ?_ (O (by decide)) (P (by decide))
    | with_reducible refine Moves.ite (fun _ => ?_) (fun _ => ?_)
    | with_reducible refine Moves.ite1 (fun _ => ?_) (fun _ => ?_)
    | split
    | dsimp only

def objs_peerAcked : Nat := 0x3400000000000000000000000000000000000000000000000000000001e00000000000000000000000000000000000000000000000000000000400000000000000000000028000000000000
def parts_peerAcked : Nat := 0x8000a42e1
theorem Moves.peerAcked {p g : Nat} {m : Bool} {v : Nat} (hM : Moves d₀ e₀ mo mp) (hO : Mask.le objs_peerAcked mo) (hP : Mask.le parts_peerAcked mp) :
    Moves d₀ (e₀.peerAcked p g m v) mo mp := by
  have O {a : Nat} (h : (a &&& objs_peerAcked == a) = true) := Mask.le_trans h hO
  have P {a : Nat} (h : (a &&& parts_peerAcked == a) = true) := Mask.le_trans h hP
  have B {k : Nat} (h : objs_peerAcked.testBit k = true) := Mask.bit h hO
  have S {k : Nat} (h : parts_peerAcked.testBit k = true) := Mask.bit h hP
  unfold Device.peerAcked
  try simp only
  repeat' first
    | with_reducible exact hM
    | with_reducible exact Moves.refl ..
    | with_reducible refine Moves.set ?_ (B (by first | decide | (split <;> decide) | (cases m <;> decide))) (by first | decide | (split <;> decide) | (cases m <;> decide))
    | with_reducible refine Moves.sendVersion ?_ (O (by decide)) (P (by decide))
    | with_reducible refine Moves.setPeer ?_ (O (by decide)) (P (by decide))
    | with_reducible refine Moves.ite (fun _ => ?_) (fun _ => ?_)
    | with_reducible refine Moves.ite1 (fun _ => ?_) (fun _ => ?_)
    | split
    | dsimp only

def objs_startDrain : Nat := 0x3400000000000000000000000000000000000000000000000000000000000001800000000000000000000000000000000000000000000000000000000000000000000000000000000000000
def parts_startDrain : Nat := 0x8000002a1
theorem Moves.startDrain {p g : Nat} (hM : Moves d₀ e₀ mo mp) (hO : Mask.le objs_startDrain mo) (hP : Mask.le parts_startDrain mp) :
    Moves d₀ (e₀.startDrain p g) mo mp := by
  have O {a : Nat} (h : (a &&& objs_startDrain == a) = true) := Mask.le_trans h hO
  have P {a : Nat} (h : (a &&& parts_startDrain == a) = true) := Mask.le_trans h hP
  have B {k : Nat} (h : objs_startDrain.testBit k = true) := Mask.bit h hO
  have S {k : Nat} (h : parts_startDrain.testBit k = true) := Mask.bit h hP
  unfold Device.startDrain
  try simp only
  repeat' first
    | with_reducible exact hM
    | with_reducible exact Moves.refl ..
    | with_reducible refine Moves.bump ?_ (B (by decide)) (by decide) (S (by decide))
    | with_reducible refine Moves.causeBallast ?_ (O (by decide)) (P (by decide))
    | with_reducible refine Moves.setRgn ?_ (O (by decide)) (P (by decide))
    | with_reducible refine Moves.ite (fun _ => ?_) (fun _ => ?_)
    | with_reducible refine Moves.ite1 (fun _ => ?_) (fun _ => ?_)
    | split
    | dsimp only

def objs_drainDone : Nat := 0x0
def parts_drainDone : Nat := 0x800000000
theorem Moves.drainDone {p g : Nat} (hM : Moves d₀ e₀ mo mp) (hO : Mask.le objs_drainDone mo) (hP : Mask.le parts_drainDone mp) :
    Moves d₀ (e₀.drainDone p g) mo mp := by
  have O {a : Nat} (h : (a &&& objs_drainDone == a) = true) := Mask.le_trans h hO
  have P {a : Nat} (h : (a &&& parts_drainDone == a) = true) := Mask.le_trans h hP
  unfold Device.drainDone
  try simp only
  repeat' first
    | with_reducible exact hM
    | with_reducible exact Moves.refl ..
    | with_reducible refine Moves.setRgn ?_ (O (by decide)) (P (by decide))
    | split
    | dsimp only

def objs_commitAs : Nat := 0x3400000000000000000000000000000000000000000000000000000001e0c001800000000000000000000000000000000000000000000000000400000000000000c00000028000000000000
def parts_commitAs : Nat := 0x8000e42e1
theorem Moves.commitAs {p g v : Nat} {pages : List Page} (hM : Moves d₀ e₀ mo mp) (hO : Mask.le objs_commitAs mo) (hP : Mask.le parts_commitAs mp) :
    Moves d₀ (e₀.commitAs p g v pages) mo mp := by
  have O {a : Nat} (h : (a &&& objs_commitAs == a) = true) := Mask.le_trans h hO
  have P {a : Nat} (h : (a &&& parts_commitAs == a) = true) := Mask.le_trans h hP
  have B {k : Nat} (h : objs_commitAs.testBit k = true) := Mask.bit h hO
  have S {k : Nat} (h : parts_commitAs.testBit k = true) := Mask.bit h hP
  unfold Device.commitAs
  try simp only
  repeat' first
    | with_reducible exact hM
    | with_reducible exact Moves.refl ..
    | with_reducible refine Moves.set ?_ (B (by decide)) (by decide)
    | with_reducible refine Moves.setRgn ?_ (O (by decide)) (P (by decide))
    | with_reducible refine Moves.startDrain ?_ (O (by decide)) (P (by decide))
    | with_reducible refine Moves.startPeer ?_ (O (by decide)) (P (by decide))
    | with_reducible refine Moves.keepPages ?_ (O (by decide)) (P (by decide))
    | dsimp only

def objs_commitRefused : Nat := 0x3400000000000000000000000000000000000000000000000000000000004000080000000000000000000000000000000000000000000000000000000000000000c00000000000000000000
def parts_commitRefused : Nat := 0x8000c02a1
theorem Moves.commitRefused {p g status : Nat} (hM : Moves d₀ e₀ mo mp) (hO : Mask.le objs_commitRefused mo) (hP : Mask.le parts_commitRefused mp) :
    Moves d₀ (e₀.commitRefused p g status) mo mp := by
  have O {a : Nat} (h : (a &&& objs_commitRefused == a) = true) := Mask.le_trans h hO
  have P {a : Nat} (h : (a &&& parts_commitRefused == a) = true) := Mask.le_trans h hP
  have B {k : Nat} (h : objs_commitRefused.testBit k = true) := Mask.bit h hO
  have S {k : Nat} (h : parts_commitRefused.testBit k = true) := Mask.bit h hP
  unfold Device.commitRefused
  try simp only
  repeat' first
    | with_reducible exact hM
    | with_reducible exact Moves.refl ..
    | with_reducible refine Moves.set ?_ (B (by decide)) (by decide)
    | with_reducible refine Moves.bump ?_ (B (by decide)) (by decide) (S (by decide))
    | with_reducible refine Moves.causeBallast ?_ (O (by decide)) (P (by decide))
    | with_reducible refine Moves.dropProgress ?_ (O (by decide)) (P (by decide))
    | dsimp only

def objs_sealVersion : Nat := 0x3400000000000000000000000000000000000000000000000000000001e0f001880000000000000000000000000000000000000000000000000400000000000000c00000028000000000000
def parts_sealVersion : Nat := 0x8000e42e1
theorem Moves.sealVersion {p g : Nat} (hM : Moves d₀ e₀ mo mp) (hO : Mask.le objs_sealVersion mo) (hP : Mask.le parts_sealVersion mp) :
    Moves d₀ (e₀.sealVersion p g) mo mp := by
  have O {a : Nat} (h : (a &&& objs_sealVersion == a) = true) := Mask.le_trans h hO
  have P {a : Nat} (h : (a &&& parts_sealVersion == a) = true) := Mask.le_trans h hP
  have B {k : Nat} (h : objs_sealVersion.testBit k = true) := Mask.bit h hO
  have S {k : Nat} (h : parts_sealVersion.testBit k = true) := Mask.bit h hP
  unfold Device.sealVersion
  try simp only
  repeat' first
    | with_reducible exact hM
    | with_reducible exact Moves.refl ..
    | with_reducible refine Moves.set ?_ (B (by decide)) (by decide)
    | with_reducible refine Moves.commitRefused ?_ (O (by decide)) (P (by decide))
    | with_reducible refine Moves.commitAs ?_ (O (by decide)) (P (by decide))
    | with_reducible refine Moves.ite (fun _ => ?_) (fun _ => ?_)
    | with_reducible refine Moves.ite1 (fun _ => ?_) (fun _ => ?_)
    | split
    | dsimp only

def objs_rgnCommit : Nat := 0x3400000000000000000000000000000000000000000000000000000001e0f001880000000000000000000000000000000000000000000000000400000000000000c00000028000000000000
def parts_rgnCommit : Nat := 0x8000e42e1
theorem Moves.rgnCommit {p g : Nat} (hM : Moves d₀ e₀ mo mp) (hO : Mask.le objs_rgnCommit mo) (hP : Mask.le parts_rgnCommit mp) :
    Moves d₀ (e₀.rgnCommit p g) mo mp := by
  have O {a : Nat} (h : (a &&& objs_rgnCommit == a) = true) := Mask.le_trans h hO
  have P {a : Nat} (h : (a &&& parts_rgnCommit == a) = true) := Mask.le_trans h hP
  unfold Device.rgnCommit
  try simp only
  repeat' first
    | with_reducible exact hM
    | with_reducible exact Moves.refl ..
    | with_reducible refine Moves.sealVersion ?_ (O (by decide)) (P (by decide))
    | with_reducible refine Moves.ite (fun _ => ?_) (fun _ => ?_)
    | with_reducible refine Moves.ite1 (fun _ => ?_) (fun _ => ?_)
    | split
    | dsimp only

def objs_replReply : Nat := 0x3400000000000000000000000000000000000000000000000000000000000000000000000000000000000000000000000000000000000000000400000000000000000000028000000000000
def parts_replReply : Nat := 0xa42e1
theorem Moves.replReply {p g : Nat} {f : Frame} {v status : Nat} (hM : Moves d₀ e₀ mo mp) (hO : Mask.le objs_replReply mo) (hP : Mask.le parts_replReply mp) :
    Moves d₀ (e₀.replReply p g f v status) mo mp := by
  have O {a : Nat} (h : (a &&& objs_replReply == a) = true) := Mask.le_trans h hO
  have P {a : Nat} (h : (a &&& parts_replReply == a) = true) := Mask.le_trans h hP
  unfold Device.replReply
  try simp only
  repeat' first
    | with_reducible exact hM
    | with_reducible exact Moves.refl ..
    | with_reducible refine Moves.sendOwn ?_ (O (by decide)) (P (by decide))
    | dsimp only

def objs_replicaCommit : Nat := 0x3400000000000000000000000000000000000000000000000000000001e0c001800000000000000000000000000000000000000000000000000400000000000000c00000028000000000000
def parts_replicaCommit : Nat := 0x8000e42e1
theorem Moves.replicaCommit {p g : Nat} {f : Frame} (hM : Moves d₀ e₀ mo mp) (hO : Mask.le objs_replicaCommit mo) (hP : Mask.le parts_replicaCommit mp) :
    Moves d₀ (e₀.replicaCommit p g f) mo mp := by
  have O {a : Nat} (h : (a &&& objs_replicaCommit == a) = true) := Mask.le_trans h hO
  have P {a : Nat} (h : (a &&& parts_replicaCommit == a) = true) := Mask.le_trans h hP
  unfold Device.replicaCommit
  try simp only
  repeat' first
    | with_reducible exact hM
    | with_reducible exact Moves.refl ..
    | with_reducible refine Moves.replReply ?_ (O (by decide)) (P (by decide))
    | with_reducible refine Moves.commitAs ?_ (O (by decide)) (P (by decide))
    | with_reducible refine Moves.openVersion ?_ (O (by decide)) (P (by decide))
    | with_reducible refine Moves.dropProgress ?_ (O (by decide)) (P (by decide))
    | with_reducible refine Moves.ite (fun _ => ?_) (fun _ => ?_)
    | with_reducible refine Moves.ite1 (fun _ => ?_) (fun _ => ?_)
    | split
    | dsimp only

def objs_ckptPage : Nat := 0x34000000000000000000000000000000000000000000000000000000000000000018000000000000000000000000000000000000000000000000000000000000c7e00000000000000000000
def parts_ckptPage : Nat := 0x8000c03a9
theorem Moves.ckptPage {p g : Nat} {f : Frame} (hM : Moves d₀ e₀ mo mp) (hO : Mask.le objs_ckptPage mo) (hP : Mask.le parts_ckptPage mp) :
    Moves d₀ (e₀.ckptPage p g f) mo mp := by
  have O {a : Nat} (h : (a &&& objs_ckptPage == a) = true) := Mask.le_trans h hO
  have P {a : Nat} (h : (a &&& parts_ckptPage == a) = true) := Mask.le_trans h hP
  unfold Device.ckptPage
  try simp only
  repeat' first
    | with_reducible exact hM
    | with_reducible exact Moves.refl ..
    | with_reducible refine Moves.setRgn ?_ (O (by decide)) (P (by decide))
    | with_reducible refine Moves.openVersion ?_ (O (by decide)) (P (by decide))
    | with_reducible refine Moves.putPage ?_ (O (by decide)) (P (by decide))
    | with_reducible refine Moves.ite (fun _ => ?_) (fun _ => ?_)
    | with_reducible refine Moves.ite1 (fun _ => ?_) (fun _ => ?_)
    | split
    | dsimp only

def objs_takeCkpt : Nat := 0x3400000000000000000000000000000000000000000000000001180a88000000000000000000000000000000000000000000000000000000000000000000000000000000000000000000000
def parts_takeCkpt : Nat := 0x100806e1
theorem Moves.takeCkpt {p : Nat} {f : Frame} (hM : Moves d₀ e₀ mo mp) (hO : Mask.le objs_takeCkpt mo) (hP : Mask.le parts_takeCkpt mp) :
    Moves d₀ (e₀.takeCkpt p f) mo mp := by
  have O {a : Nat} (h : (a &&& objs_takeCkpt == a) = true) := Mask.le_trans h hO
  have P {a : Nat} (h : (a &&& parts_takeCkpt == a) = true) := Mask.le_trans h hP
  have S {k : Nat} (h : parts_takeCkpt.testBit k = true) := Mask.bit h hP
  unfold Device.takeCkpt
  try simp only
  repeat' first
    | with_reducible exact hM
    | with_reducible exact Moves.refl ..
    | with_reducible refine Moves.creditBack ?_ (O (by decide)) (P (by decide))
    | with_reducible refine Moves.ite (fun _ => ?_) (fun _ => ?_)
    | with_reducible refine Moves.ite1 (fun _ => ?_) (fun _ => ?_)
    | split
    | with_reducible refine Moves.with_inbox ?_ (S (by decide))
    | dsimp only

def objs_lastSignal : Nat := 0x340000000000000000000000000000000000000000000000000000000000000000000000000000000000000000e8020006606cb80100021ff3e4000000000000c7e00100028000000000000
def parts_lastSignal : Nat := 0x78edbf9
theorem Moves.lastSignal {p : Nat} {f : Frame} (hM : Moves d₀ e₀ mo mp) (hO : Mask.le objs_lastSignal mo) (hP : Mask.le parts_lastSignal mp) :
    Moves d₀ (e₀.lastSignal p f) mo mp := by
  have O {a : Nat} (h : (a &&& objs_lastSignal == a) = true) := Mask.le_trans h hO
  have P {a : Nat} (h : (a &&& parts_lastSignal == a) = true) := Mask.le_trans h hP
  unfold Device.lastSignal
  try simp only
  repeat' first
    | with_reducible exact hM
    | with_reducible exact Moves.refl ..
    | with_reducible refine Moves.run ?_ (O (by decide)) (P (by decide))
    | with_reducible refine Moves.fireNotifies ?_ (O (by decide)) (P (by decide))
    | with_reducible refine Moves.signalObj ?_ (O (by decide)) (P (by decide))
    | with_reducible refine Moves.ite (fun _ => ?_) (fun _ => ?_)
    | with_reducible refine Moves.ite1 (fun _ => ?_) (fun _ => ?_)
    | split
    | dsimp only

def objs_ckptWrite : Nat := 0x3400000000000000000000000000000000000000000000000000000001e0c00187f80000000000000000000000e8020006606cb80100021ff3e4000000000000c7e00100028000000000000
def parts_ckptWrite : Nat := 0x8078edbf9
theorem Moves.ckptWrite {p : Nat} {f : Frame} (hM : Moves d₀ e₀ mo mp) (hO : Mask.le objs_ckptWrite mo) (hP : Mask.le parts_ckptWrite mp) :
    Moves d₀ (e₀.ckptWrite p f) mo mp := by
  have O {a : Nat} (h : (a &&& objs_ckptWrite == a) = true) := Mask.le_trans h hO
  have P {a : Nat} (h : (a &&& parts_ckptWrite == a) = true) := Mask.le_trans h hP
  have B {k : Nat} (h : objs_ckptWrite.testBit k = true) := Mask.bit h hO
  have S {k : Nat} (h : parts_ckptWrite.testBit k = true) := Mask.bit h hP
  unfold Device.ckptWrite
  try simp only
  repeat' first
    | with_reducible exact hM
    | with_reducible exact Moves.refl ..
    | with_reducible refine Moves.bump ?_ (B (by decide)) (by decide) (S (by decide))
    | with_reducible refine Moves.lastSignal ?_ (O (by decide)) (P (by decide))
    | with_reducible refine Moves.ckptPage ?_ (O (by decide)) (P (by decide))
    | with_reducible refine Moves.replicaCommit ?_ (O (by decide)) (P (by decide))
    | with_reducible refine Moves.ite (fun _ => ?_) (fun _ => ?_)
    | with_reducible refine Moves.ite1 (fun _ => ?_) (fun _ => ?_)
    | split
    | dsimp only
    | refine Moves.ckptFail (by assumption) ?_ (O (by decide)) (P (by decide))

def objs_replAckRx : Nat := 0x3400000000000000000000000000000000000000000000000000000001e00000610000000000000000000000000000000000000000000000000400000000000000000000028000000000000
def parts_replAckRx : Nat := 0x8000a42e1
theorem Moves.replAckRx {p : Nat} {f : Frame} (hM : Moves d₀ e₀ mo mp) (hO : Mask.le objs_replAckRx mo) (hP : Mask.le parts_replAckRx mp) :
    Moves d₀ (e₀.replAckRx p f) mo mp := by
  have O {a : Nat} (h : (a &&& objs_replAckRx == a) = true) := Mask.le_trans h hO
  have P {a : Nat} (h : (a &&& parts_replAckRx == a) = true) := Mask.le_trans h hP
  have B {k : Nat} (h : objs_replAckRx.testBit k = true) := Mask.bit h hO
  have S {k : Nat} (h : parts_replAckRx.testBit k = true) := Mask.bit h hP
  unfold Device.replAckRx
  try simp only
  repeat' first
    | with_reducible exact hM
    | with_reducible exact Moves.refl ..
    | with_reducible refine Moves.bump ?_ (B (by first | decide | (split <;> decide) | (cases m <;> decide))) (by first | decide | (split <;> decide) | (cases m <;> decide)) (S (by decide))
    | with_reducible refine Moves.causeBallast ?_ (O (by decide)) (P (by decide))
    | with_reducible refine Moves.peerAcked ?_ (O (by decide)) (P (by decide))
    | with_reducible refine Moves.peerFailed ?_ (O (by decide)) (P (by decide))
    | with_reducible refine Moves.ite (fun _ => ?_) (fun _ => ?_)
    | with_reducible refine Moves.ite1 (fun _ => ?_) (fun _ => ?_)
    | split
    | dsimp only

def objs_replTimedOut : Nat := 0x3400000000000000000000000000000000000000000000000000000001e00000600000000000000000000000000000000000000000000000000400000000000000000000028000000000000
def parts_replTimedOut : Nat := 0x8000a42e1
theorem Moves.replTimedOut {p g : Nat} {m : Bool} (hM : Moves d₀ e₀ mo mp) (hO : Mask.le objs_replTimedOut mo) (hP : Mask.le parts_replTimedOut mp) :
    Moves d₀ (e₀.replTimedOut p g m) mo mp := by
  have O {a : Nat} (h : (a &&& objs_replTimedOut == a) = true) := Mask.le_trans h hO
  have P {a : Nat} (h : (a &&& parts_replTimedOut == a) = true) := Mask.le_trans h hP
  unfold Device.replTimedOut
  try simp only
  repeat' first
    | with_reducible exact hM
    | with_reducible exact Moves.refl ..
    | with_reducible refine Moves.peerFailed ?_ (O (by decide)) (P (by decide))
    | with_reducible refine Moves.ite (fun _ => ?_) (fun _ => ?_)
    | with_reducible refine Moves.ite1 (fun _ => ?_) (fun _ => ?_)
    | split
    | dsimp only

def objs_readPage : Nat := 0x4000000000000000000000000
def parts_readPage : Nat := 0x9
theorem Moves.readPage {p g v n : Nat} (hM : Moves d₀ e₀ mo mp) (hO : Mask.le objs_readPage mo) (hP : Mask.le parts_readPage mp) :
    Moves d₀ (e₀.readPage p g v n).1 mo mp := by
  have O {a : Nat} (h : (a &&& objs_readPage == a) = true) := Mask.le_trans h hO
  have P {a : Nat} (h : (a &&& parts_readPage == a) = true) := Mask.le_trans h hP
  have B {k : Nat} (h : objs_readPage.testBit k = true) := Mask.bit h hO
  have S {k : Nat} (h : parts_readPage.testBit k = true) := Mask.bit h hP
  unfold Device.readPage
  try simp only
  repeat' first
    | with_reducible exact hM
    | with_reducible exact Moves.refl ..
    | with_reducible refine Moves.bump ?_ (B (by decide)) (by decide) (S (by decide))
    | with_reducible refine Moves.fresh ?_ (O (by decide)) (P (by decide))
    | with_reducible refine Moves.ite (fun _ => ?_) (fun _ => ?_)
    | with_reducible refine Moves.ite1 (fun _ => ?_) (fun _ => ?_)
    | split
    | dsimp only

def objs_ckptRespond : Nat := 0x3400000000000000000000000000000000000000000000000001180a88000000000000000000000000000000000000000000000000000000000400000000000000000000068000200000000
def parts_ckptRespond : Nat := 0x100a5ef1
theorem Moves.ckptRespond {p : Nat} {rq : Frame} {f : Frame} (hM : Moves d₀ e₀ mo mp) (hO : Mask.le objs_ckptRespond mo) (hP : Mask.le parts_ckptRespond mp) :
    Moves d₀ (e₀.ckptRespond p rq f) mo mp := by
  have O {a : Nat} (h : (a &&& objs_ckptRespond == a) = true) := Mask.le_trans h hO
  have P {a : Nat} (h : (a &&& parts_ckptRespond == a) = true) := Mask.le_trans h hP
  unfold Device.ckptRespond
  try simp only
  repeat' first
    | with_reducible exact hM
    | with_reducible exact Moves.refl ..
    | with_reducible refine Moves.sendOwn ?_ (O (by decide)) (P (by decide))
    | with_reducible refine Moves.queueDirect ?_ (O (by decide)) (P (by decide))
    | with_reducible refine Moves.ite (fun _ => ?_) (fun _ => ?_)
    | with_reducible refine Moves.ite1 (fun _ => ?_) (fun _ => ?_)
    | split
    | dsimp only

def objs_ckptReadRx : Nat := 0x3400000000000000000000000000000000000000000000000001180a88000000116000000000000000000000000000000000000000000000000400000000004000000000068000200000000
def parts_ckptReadRx : Nat := 0x100a5ef9
theorem Moves.ckptReadRx {p : Nat} {f : Frame} (hM : Moves d₀ e₀ mo mp) (hO : Mask.le objs_ckptReadRx mo) (hP : Mask.le parts_ckptReadRx mp) :
    Moves d₀ (e₀.ckptReadRx p f) mo mp := by
  have O {a : Nat} (h : (a &&& objs_ckptReadRx == a) = true) := Mask.le_trans h hO
  have P {a : Nat} (h : (a &&& parts_ckptReadRx == a) = true) := Mask.le_trans h hP
  have B {k : Nat} (h : objs_ckptReadRx.testBit k = true) := Mask.bit h hO
  have S {k : Nat} (h : parts_ckptReadRx.testBit k = true) := Mask.bit h hP
  unfold Device.ckptReadRx
  try simp only
  repeat' first
    | with_reducible exact hM
    | with_reducible exact Moves.refl ..
    | with_reducible refine Moves.bump ?_ (B (by first | decide | (split <;> decide) | (cases m <;> decide))) (by first | decide | (split <;> decide) | (cases m <;> decide)) (S (by decide))
    | with_reducible refine Moves.causeBallast ?_ (O (by decide)) (P (by decide))
    | with_reducible refine Moves.ckptRespond ?_ (O (by decide)) (P (by decide))
    | with_reducible refine Moves.readPage ?_ (O (by decide)) (P (by decide))
    | with_reducible refine Moves.foldl ?_ (fun d a => ?_)
    | with_reducible refine Moves.ite (fun _ => ?_) (fun _ => ?_)
    | with_reducible refine Moves.ite1 (fun _ => ?_) (fun _ => ?_)
    | split
    | dsimp only

def objs_rgnFresh : Nat := 0x1e0d000000000000000000000000000000000000000000000000000000000000000000000000000000000000000000
def parts_rgnFresh : Nat := 0x800000000
theorem Moves.rgnFresh {p g state : Nat} (hM : Moves d₀ e₀ mo mp) (hO : Mask.le objs_rgnFresh mo) (hP : Mask.le parts_rgnFresh mp) :
    Moves d₀ (e₀.rgnFresh p g state) mo mp := by
  have O {a : Nat} (h : (a &&& objs_rgnFresh == a) = true) := Mask.le_trans h hO
  have P {a : Nat} (h : (a &&& parts_rgnFresh == a) = true) := Mask.le_trans h hP
  have B {k : Nat} (h : objs_rgnFresh.testBit k = true) := Mask.bit h hO
  have S {k : Nat} (h : parts_rgnFresh.testBit k = true) := Mask.bit h hP
  unfold Device.rgnFresh
  simp only [List.foldl_cons, List.foldl_nil]
  repeat' first
    | with_reducible exact hM
    | with_reducible exact Moves.refl ..
    | with_reducible refine Moves.set ?_ (B (by decide)) (by decide)
    | with_reducible refine Moves.setRgn ?_ (O (by decide)) (P (by decide))
    | with_reducible refine Moves.foldl ?_ (fun d a => ?_)
    | dsimp only

def objs_rgnLoad : Nat := 0x340000000000000000000000002b800000000000000000000000000001e0f000000000000000000000000000000000000000000000000000000000000000000000000000000000000000000
def parts_rgnLoad : Nat := 0x8000002a1
theorem Moves.rgnLoad {p ses : Nat} (hM : Moves d₀ e₀ mo mp) (hO : Mask.le objs_rgnLoad mo) (hP : Mask.le parts_rgnLoad mp) :
    Moves d₀ (e₀.rgnLoad p ses) mo mp := by
  have O {a : Nat} (h : (a &&& objs_rgnLoad == a) = true) := Mask.le_trans h hO
  have P {a : Nat} (h : (a &&& parts_rgnLoad == a) = true) := Mask.le_trans h hP
  have B {k : Nat} (h : objs_rgnLoad.testBit k = true) := Mask.bit h hO
  unfold Device.rgnLoad
  try simp only
  repeat' first
    | with_reducible exact hM
    | with_reducible exact Moves.refl ..
    | with_reducible refine Moves.cmdReads ?_ (B (by dsimp only; decide)) (by dsimp only; decide)
    | with_reducible refine Moves.journal ?_ (O (by decide)) (P (by decide))
    | with_reducible refine Moves.rgnFresh ?_ (O (by decide)) (P (by decide))
    | with_reducible refine Moves.ite (fun _ => ?_) (fun _ => ?_)
    | with_reducible refine Moves.ite1 (fun _ => ?_) (fun _ => ?_)
    | split
    | dsimp only

def objs_rgnArm : Nat := 0x3400000000000000000000000000000000000000000000000000000001e0f001880000000000000000000000000000000000000000000000000400000000000000c00000028000000000000
def parts_rgnArm : Nat := 0x8000e42e1
theorem Moves.rgnArm {p ses : Nat} (hM : Moves d₀ e₀ mo mp) (hO : Mask.le objs_rgnArm mo) (hP : Mask.le parts_rgnArm mp) :
    Moves d₀ (e₀.rgnArm p ses) mo mp := by
  have O {a : Nat} (h : (a &&& objs_rgnArm == a) = true) := Mask.le_trans h hO
  have P {a : Nat} (h : (a &&& parts_rgnArm == a) = true) := Mask.le_trans h hP
  have B {k : Nat} (h : objs_rgnArm.testBit k = true) := Mask.bit h hO
  have S {k : Nat} (h : parts_rgnArm.testBit k = true) := Mask.bit h hP
  unfold Device.rgnArm
  try simp only
  repeat' first
    | with_reducible exact hM
    | with_reducible exact Moves.refl ..
    | with_reducible refine Moves.set ?_ (B (by decide)) (by decide)
    | with_reducible refine Moves.cmdReads ?_ (B (by dsimp only; decide)) (by dsimp only; decide)
    | with_reducible refine Moves.sealVersion ?_ (O (by decide)) (P (by decide))
    | with_reducible refine Moves.ite (fun _ => ?_) (fun _ => ?_)
    | with_reducible refine Moves.ite1 (fun _ => ?_) (fun _ => ?_)
    | split
    | dsimp only

def objs_rgnAbandon : Nat := 0x3400000000000000000000000000000000000000000000000000000000007000000000000000000000000000000000000000000000000000000000000000000000c00000000000000000000
def parts_rgnAbandon : Nat := 0x8000c02a1
theorem Moves.rgnAbandon {p ses : Nat} (hM : Moves d₀ e₀ mo mp) (hO : Mask.le objs_rgnAbandon mo) (hP : Mask.le parts_rgnAbandon mp) :
    Moves d₀ (e₀.rgnAbandon p ses) mo mp := by
  have O {a : Nat} (h : (a &&& objs_rgnAbandon == a) = true) := Mask.le_trans h hO
  have P {a : Nat} (h : (a &&& parts_rgnAbandon == a) = true) := Mask.le_trans h hP
  have B {k : Nat} (h : objs_rgnAbandon.testBit k = true) := Mask.bit h hO
  have S {k : Nat} (h : parts_rgnAbandon.testBit k = true) := Mask.bit h hP
  unfold Device.rgnAbandon
  try simp only
  repeat' first
    | with_reducible exact hM
    | with_reducible exact Moves.refl ..
    | with_reducible refine Moves.set ?_ (B (by decide)) (by decide)
    | with_reducible refine Moves.cmdReads ?_ (B (by dsimp only; decide)) (by dsimp only; decide)
    | with_reducible refine Moves.dropProgress ?_ (O (by decide)) (P (by decide))
    | with_reducible refine Moves.ite (fun _ => ?_) (fun _ => ?_)
    | with_reducible refine Moves.ite1 (fun _ => ?_) (fun _ => ?_)
    | split
    | dsimp only

def objs_clearRegion : Nat := 0x3400000000000000000000000000000000000000000000000000000001e0d000000000000000000000000000000000000000000000000000000000000000000000c00000000000000000000
def parts_clearRegion : Nat := 0x8000c42a1
theorem Moves.clearRegion {p g : Nat} (hM : Moves d₀ e₀ mo mp) (hO : Mask.le objs_clearRegion mo) (hP : Mask.le parts_clearRegion mp) :
    Moves d₀ (e₀.clearRegion p g) mo mp := by
  have O {a : Nat} (h : (a &&& objs_clearRegion == a) = true) := Mask.le_trans h hO
  have P {a : Nat} (h : (a &&& parts_clearRegion == a) = true) := Mask.le_trans h hP
  unfold Device.clearRegion
  try simp only
  repeat' first
    | with_reducible exact hM
    | with_reducible exact Moves.refl ..
    | with_reducible refine Moves.rgnFresh ?_ (O (by decide)) (P (by decide))
    | with_reducible refine Moves.abandonSend ?_ (O (by decide)) (P (by decide))
    | with_reducible refine Moves.keepPages ?_ (O (by decide)) (P (by decide))
    | dsimp only

def objs_rgnClear : Nat := 0x340000000000000000000000002b800000000000000000000000000001e0f000000000000000000000000000000000000000000000000000000000000000000000c00000000000000000000
def parts_rgnClear : Nat := 0x8000c42a1
theorem Moves.rgnClear {p ses : Nat} (hM : Moves d₀ e₀ mo mp) (hO : Mask.le objs_rgnClear mo) (hP : Mask.le parts_rgnClear mp) :
    Moves d₀ (e₀.rgnClear p ses) mo mp := by
  have O {a : Nat} (h : (a &&& objs_rgnClear == a) = true) := Mask.le_trans h hO
  have P {a : Nat} (h : (a &&& parts_rgnClear == a) = true) := Mask.le_trans h hP
  have B {k : Nat} (h : objs_rgnClear.testBit k = true) := Mask.bit h hO
  unfold Device.rgnClear
  try simp only
  repeat' first
    | with_reducible exact hM
    | with_reducible exact Moves.refl ..
    | with_reducible refine Moves.cmdReads ?_ (B (by dsimp only; decide)) (by dsimp only; decide)
    | with_reducible refine Moves.journal ?_ (O (by decide)) (P (by decide))
    | with_reducible refine Moves.clearRegion ?_ (O (by decide)) (P (by decide))
    | with_reducible refine Moves.ite (fun _ => ?_) (fun _ => ?_)
    | with_reducible refine Moves.ite1 (fun _ => ?_) (fun _ => ?_)
    | split
    | dsimp only

def objs_cxlDown : Nat := 0x3400000000000000000000000000000000000000000000000000000000000000000000000000000000000000000000000000000000000000000000000000008800000000000000000000000
def parts_cxlDown : Nat := 0x8000002a1
theorem Moves.cxlDown {p : Nat} (hM : Moves d₀ e₀ mo mp) (hO : Mask.le objs_cxlDown mo) (hP : Mask.le parts_cxlDown mp) :
    Moves d₀ (e₀.cxlDown p) mo mp := by
  have O {a : Nat} (h : (a &&& objs_cxlDown == a) = true) := Mask.le_trans h hO
  have P {a : Nat} (h : (a &&& parts_cxlDown == a) = true) := Mask.le_trans h hP
  have B {k : Nat} (h : objs_cxlDown.testBit k = true) := Mask.bit h hO
  have S {k : Nat} (h : parts_cxlDown.testBit k = true) := Mask.bit h hP
  unfold Device.cxlDown
  try simp only
  repeat' first
    | with_reducible exact hM
    | with_reducible exact Moves.refl ..
    | with_reducible refine Moves.set ?_ (B (by decide)) (by decide)
    | with_reducible refine Moves.bump ?_ (B (by decide)) (by decide) (S (by decide))
    | with_reducible refine Moves.setRgn ?_ (O (by decide)) (P (by decide))
    | with_reducible refine Moves.causeMemory ?_ (O (by decide)) (P (by decide))
    | with_reducible refine Moves.foldl ?_ (fun d a => ?_)
    | with_reducible refine Moves.ite (fun _ => ?_) (fun _ => ?_)
    | with_reducible refine Moves.ite1 (fun _ => ?_) (fun _ => ?_)
    | split
    | dsimp only

def objs_recoverRegion : Nat := 0x1e0d002000000000000000000000000000000000000000000000000000000000000000000000000000000000000000
def parts_recoverRegion : Nat := 0x800000001
theorem Moves.recoverRegion {p g : Nat} (hM : Moves d₀ e₀ mo mp) (hO : Mask.le objs_recoverRegion mo) (hP : Mask.le parts_recoverRegion mp) :
    Moves d₀ (e₀.recoverRegion p g) mo mp := by
  have O {a : Nat} (h : (a &&& objs_recoverRegion == a) = true) := Mask.le_trans h hO
  have P {a : Nat} (h : (a &&& parts_recoverRegion == a) = true) := Mask.le_trans h hP
  have B {k : Nat} (h : objs_recoverRegion.testBit k = true) := Mask.bit h hO
  have S {k : Nat} (h : parts_recoverRegion.testBit k = true) := Mask.bit h hP
  unfold Device.recoverRegion
  try simp only
  repeat' first
    | with_reducible exact hM
    | with_reducible exact Moves.refl ..
    | with_reducible refine Moves.set ?_ (B (by decide)) (by decide)
    | with_reducible refine Moves.count ?_ (B (by decide)) (by decide) (S (by decide))
    | with_reducible refine Moves.setRgn ?_ (O (by decide)) (P (by decide))
    | with_reducible refine Moves.rgnFresh ?_ (O (by decide)) (P (by decide))
    | with_reducible refine Moves.foldl ?_ (fun d a => ?_)
    | with_reducible refine Moves.ite (fun _ => ?_) (fun _ => ?_)
    | with_reducible refine Moves.ite1 (fun _ => ?_) (fun _ => ?_)
    | split
    | dsimp only


def objs_deriveSel : Nat := 0x800000000000000000000000000000000000000000000000000000000000000000000000000000000
def parts_deriveSel : Nat := 0x300000001
theorem Moves.deriveSel {p sel epoch : Nat} (hM : Moves d₀ e₀ mo mp) (hO : Mask.le objs_deriveSel mo) (hP : Mask.le parts_deriveSel mp) :
    Moves d₀ (e₀.deriveSel p sel epoch) mo mp := by
  have O {a : Nat} (h : (a &&& objs_deriveSel == a) = true) := Mask.le_trans h hO
  have P {a : Nat} (h : (a &&& parts_deriveSel == a) = true) := Mask.le_trans h hP
  have B {k : Nat} (h : objs_deriveSel.testBit k = true) := Mask.bit h hO
  have S {k : Nat} (h : parts_deriveSel.testBit k = true) := Mask.bit h hP
  unfold Device.deriveSel
  try simp only
  repeat' first
    | with_reducible exact hM
    | with_reducible exact Moves.refl ..
    | with_reducible refine Moves.bump ?_ (B (by first | decide | (split <;> decide) | (cases m <;> decide))) (by first | decide | (split <;> decide) | (cases m <;> decide)) (S (by decide))
    | with_reducible refine Moves.setMaster ?_ (O (by decide)) (P (by decide))
    | with_reducible refine Moves.setTkey ?_ (O (by decide)) (P (by decide))
    | with_reducible refine Moves.foldl ?_ (fun d a => ?_)
    | split
    | dsimp only

def objs_deriveAll : Nat := 0x800000000000000000000000000000000000000000000000000000000000000000000000000000000
def parts_deriveAll : Nat := 0x300000001
theorem Moves.deriveAll {p epoch : Nat} (hM : Moves d₀ e₀ mo mp) (hO : Mask.le objs_deriveAll mo) (hP : Mask.le parts_deriveAll mp) :
    Moves d₀ (e₀.deriveAll p epoch) mo mp := by
  have O {a : Nat} (h : (a &&& objs_deriveAll == a) = true) := Mask.le_trans h hO
  have P {a : Nat} (h : (a &&& parts_deriveAll == a) = true) := Mask.le_trans h hP
  unfold Device.deriveAll
  try simp only
  repeat' first
    | with_reducible exact hM
    | with_reducible exact Moves.refl ..
    | with_reducible refine Moves.deriveSel ?_ (O (by decide)) (P (by decide))
    | with_reducible refine Moves.foldl ?_ (fun d a => ?_)
    | dsimp only

def objs_promoteMasters : Nat := 0x0
def parts_promoteMasters : Nat := 0x100000000
theorem Moves.promoteMasters {p : Nat} (hM : Moves d₀ e₀ mo mp) (hO : Mask.le objs_promoteMasters mo) (hP : Mask.le parts_promoteMasters mp) :
    Moves d₀ (e₀.promoteMasters p) mo mp := by
  have O {a : Nat} (h : (a &&& objs_promoteMasters == a) = true) := Mask.le_trans h hO
  have P {a : Nat} (h : (a &&& parts_promoteMasters == a) = true) := Mask.le_trans h hP
  have S {k : Nat} (h : parts_promoteMasters.testBit k = true) := Mask.bit h hP
  unfold Device.promoteMasters
  try simp only
  repeat' first
    | with_reducible exact hM
    | with_reducible exact Moves.refl ..
    | with_reducible refine Moves.ite (fun _ => ?_) (fun _ => ?_)
    | with_reducible refine Moves.ite1 (fun _ => ?_) (fun _ => ?_)
    | split
    | with_reducible refine Moves.with_masters ?_ (S (by decide))
    | dsimp only

def objs_startDerive : Nat := 0x340000000000000000000000002b800000000000000000000000000000000000000000000800000000000000000000000000000000000000000000000000000000000000000000000000000
def parts_startDerive : Nat := 0x5000002a1
theorem Moves.startDerive {p epoch : Nat} {resync : Bool} (hM : Moves d₀ e₀ mo mp) (hO : Mask.le objs_startDerive mo) (hP : Mask.le parts_startDerive mp) :
    Moves d₀ (e₀.startDerive p epoch resync).1 mo mp := by
  have O {a : Nat} (h : (a &&& objs_startDerive == a) = true) := Mask.le_trans h hO
  have P {a : Nat} (h : (a &&& parts_startDerive == a) = true) := Mask.le_trans h hP
  have B {k : Nat} (h : objs_startDerive.testBit k = true) := Mask.bit h hO
  have S {k : Nat} (h : parts_startDerive.testBit k = true) := Mask.bit h hP
  unfold Device.startDerive
  try simp only
  repeat' first
    | with_reducible exact hM
    | with_reducible exact Moves.refl ..
    | with_reducible refine Moves.set ?_ (B (by decide)) (by decide)
    | with_reducible refine Moves.causeCipher ?_ (O (by decide)) (P (by decide))
    | with_reducible refine Moves.setKeySt ?_ (O (by decide)) (P (by decide))
    | with_reducible refine Moves.journal ?_ (O (by decide)) (P (by decide))
    | with_reducible refine Moves.promoteMasters ?_ (O (by decide)) (P (by decide))
    | with_reducible refine Moves.ite (fun _ => ?_) (fun _ => ?_)
    | with_reducible refine Moves.ite1 (fun _ => ?_) (fun _ => ?_)
    | split
    | dsimp only

def objs_enterEpoch : Nat := 0x200000000000000000000000000000000000000000000000000000000000000000000000000000
def parts_enterEpoch : Nat := 0x100000000
theorem Moves.enterEpoch {p epoch : Nat} (hM : Moves d₀ e₀ mo mp) (hO : Mask.le objs_enterEpoch mo) (hP : Mask.le parts_enterEpoch mp) :
    Moves d₀ (e₀.enterEpoch p epoch) mo mp := by
  have O {a : Nat} (h : (a &&& objs_enterEpoch == a) = true) := Mask.le_trans h hO
  have P {a : Nat} (h : (a &&& parts_enterEpoch == a) = true) := Mask.le_trans h hP
  have B {k : Nat} (h : objs_enterEpoch.testBit k = true) := Mask.bit h hO
  have S {k : Nat} (h : parts_enterEpoch.testBit k = true) := Mask.bit h hP
  unfold Device.enterEpoch
  try simp only
  repeat' first
    | with_reducible exact hM
    | with_reducible exact Moves.refl ..
    | with_reducible refine Moves.set ?_ (B (by decide)) (by decide)
    | with_reducible refine Moves.ite (fun _ => ?_) (fun _ => ?_)
    | with_reducible refine Moves.ite1 (fun _ => ?_) (fun _ => ?_)
    | split
    | with_reducible refine Moves.with_masters ?_ (S (by decide))
    | dsimp only

def objs_keyReview : Nat := 0x340000000000000000000000002b800000000000000000000000000000000000000000006800000000000000000000000000000000000000000000000000000000000000000000000000000
def parts_keyReview : Nat := 0x5000002a1
theorem Moves.keyReview {p accRekey : Nat} (hM : Moves d₀ e₀ mo mp) (hO : Mask.le objs_keyReview mo) (hP : Mask.le parts_keyReview mp) :
    Moves d₀ (e₀.keyReview p accRekey) mo mp := by
  have O {a : Nat} (h : (a &&& objs_keyReview == a) = true) := Mask.le_trans h hO
  have P {a : Nat} (h : (a &&& parts_keyReview == a) = true) := Mask.le_trans h hP
  have B {k : Nat} (h : objs_keyReview.testBit k = true) := Mask.bit h hO
  have S {k : Nat} (h : parts_keyReview.testBit k = true) := Mask.bit h hP
  unfold Device.keyReview
  try simp only
  repeat' first
    | with_reducible exact hM
    | with_reducible exact Moves.refl ..
    | with_reducible refine Moves.set ?_ (B (by first | decide | (split <;> decide))) (by first | decide | (split <;> decide))
    | with_reducible refine Moves.causeCipher ?_ (O (by decide)) (P (by decide))
    | with_reducible refine Moves.setKeySt ?_ (O (by decide)) (P (by decide))
    | with_reducible refine Moves.startDerive ?_ (O (by decide)) (P (by decide))
    | with_reducible refine Moves.ite (fun _ => ?_) (fun _ => ?_)
    | with_reducible refine Moves.ite1 (fun _ => ?_) (fun _ => ?_)
    | split
    | dsimp only

def objs_startRekey : Nat := 0x340000000000000000000000002b800000000000000000000000000000000000000000004800000000000000000000000000000000000000000000000000000000000000000000000000000
def parts_startRekey : Nat := 0x5000002a1
theorem Moves.startRekey {p mfn : Nat} (hM : Moves d₀ e₀ mo mp) (hO : Mask.le objs_startRekey mo) (hP : Mask.le parts_startRekey mp) :
    Moves d₀ (e₀.startRekey p mfn).1 mo mp := by
  have O {a : Nat} (h : (a &&& objs_startRekey == a) = true) := Mask.le_trans h hO
  have P {a : Nat} (h : (a &&& parts_startRekey == a) = true) := Mask.le_trans h hP
  have B {k : Nat} (h : objs_startRekey.testBit k = true) := Mask.bit h hO
  have S {k : Nat} (h : parts_startRekey.testBit k = true) := Mask.bit h hP
  unfold Device.startRekey
  try simp only
  repeat' first
    | with_reducible exact hM
    | with_reducible exact Moves.refl ..
    | with_reducible refine Moves.set ?_ (B (by decide)) (by decide)
    | with_reducible refine Moves.setKeySt ?_ (O (by decide)) (P (by decide))
    | with_reducible refine Moves.startDerive ?_ (O (by decide)) (P (by decide))
    | with_reducible refine Moves.ite (fun _ => ?_) (fun _ => ?_)
    | with_reducible refine Moves.ite1 (fun _ => ?_) (fun _ => ?_)
    | split
    | dsimp only

def objs_rekeyCommand : Nat := 0x340000000000000000000000002b800000000000000000000000000000000000000000006800000000000000000000000000000000000000000000000000000000000000000000000000000
def parts_rekeyCommand : Nat := 0x5000002a1
theorem Moves.rekeyCommand {p : Nat} (hM : Moves d₀ e₀ mo mp) (hO : Mask.le objs_rekeyCommand mo) (hP : Mask.le parts_rekeyCommand mp) :
    Moves d₀ (e₀.rekeyCommand p) mo mp := by
  have O {a : Nat} (h : (a &&& objs_rekeyCommand == a) = true) := Mask.le_trans h hO
  have P {a : Nat} (h : (a &&& parts_rekeyCommand == a) = true) := Mask.le_trans h hP
  have B {k : Nat} (h : objs_rekeyCommand.testBit k = true) := Mask.bit h hO
  have S {k : Nat} (h : parts_rekeyCommand.testBit k = true) := Mask.bit h hP
  unfold Device.rekeyCommand
  try simp only
  repeat' first
    | with_reducible exact hM
    | with_reducible exact Moves.refl ..
    | with_reducible refine Moves.set ?_ (B (by first | decide | (split <;> decide))) (by first | decide | (split <;> decide))
    | with_reducible refine Moves.startRekey ?_ (O (by decide)) (P (by decide))
    | with_reducible refine Moves.ite (fun _ => ?_) (fun _ => ?_)
    | with_reducible refine Moves.ite1 (fun _ => ?_) (fun _ => ?_)
    | split
    | dsimp only

def objs_derived : Nat := 0x340000000000000000000000002b800000000000000000000000000000000000000000806800000000000000000000000000000000000000000000000000000000000000000000000000000
def parts_derived : Nat := 0x7000002a1
theorem Moves.derived {p accRekey : Nat} (hM : Moves d₀ e₀ mo mp) (hO : Mask.le objs_derived mo) (hP : Mask.le parts_derived mp) :
    Moves d₀ (e₀.derived p accRekey) mo mp := by
  have O {a : Nat} (h : (a &&& objs_derived == a) = true) := Mask.le_trans h hO
  have P {a : Nat} (h : (a &&& parts_derived == a) = true) := Mask.le_trans h hP
  have B {k : Nat} (h : objs_derived.testBit k = true) := Mask.bit h hO
  have S {k : Nat} (h : parts_derived.testBit k = true) := Mask.bit h hP
  unfold Device.derived
  try simp only
  repeat' first
    | with_reducible exact hM
    | with_reducible exact Moves.refl ..
    | with_reducible refine Moves.set ?_ (B (by decide)) (by decide)
    | with_reducible refine Moves.setKeySt ?_ (O (by decide)) (P (by decide))
    | with_reducible refine Moves.keyReview ?_ (O (by decide)) (P (by decide))
    | with_reducible refine Moves.deriveAll ?_ (O (by decide)) (P (by decide))
    | with_reducible refine Moves.ite (fun _ => ?_) (fun _ => ?_)
    | with_reducible refine Moves.ite1 (fun _ => ?_) (fun _ => ?_)
    | split
    | dsimp only

def objs_keyBoundary : Nat := 0x340000000000000000000000002b800000000000000000000000000000000000000000006a00000000000000000000000000000000000000000000000000000000000000000000000000000
def parts_keyBoundary : Nat := 0x5000002a1
theorem Moves.keyBoundary {p accRekey : Nat} (hM : Moves d₀ e₀ mo mp) (hO : Mask.le objs_keyBoundary mo) (hP : Mask.le parts_keyBoundary mp) :
    Moves d₀ (e₀.keyBoundary p accRekey) mo mp := by
  have O {a : Nat} (h : (a &&& objs_keyBoundary == a) = true) := Mask.le_trans h hO
  have P {a : Nat} (h : (a &&& parts_keyBoundary == a) = true) := Mask.le_trans h hP
  have B {k : Nat} (h : objs_keyBoundary.testBit k = true) := Mask.bit h hO
  have S {k : Nat} (h : parts_keyBoundary.testBit k = true) := Mask.bit h hP
  unfold Device.keyBoundary
  try simp only
  repeat' first
    | with_reducible exact hM
    | with_reducible exact Moves.refl ..
    | with_reducible refine Moves.set ?_ (B (by decide)) (by decide)
    | with_reducible refine Moves.setKeySt ?_ (O (by decide)) (P (by decide))
    | with_reducible refine Moves.keyReview ?_ (O (by decide)) (P (by decide))
    | with_reducible refine Moves.enterEpoch ?_ (O (by decide)) (P (by decide))
    | with_reducible refine Moves.ite (fun _ => ?_) (fun _ => ?_)
    | with_reducible refine Moves.ite1 (fun _ => ?_) (fun _ => ?_)
    | split
    | dsimp only

def objs_masterInstall : Nat := 0x340000000000000000000000002b800000000000000000000000000000000000000002800000000000000000000000000000000000000000000000000000000000000000000000000000000
def parts_masterInstall : Nat := 0x3000002a1
theorem Moves.masterInstall {p sel : Nat} (hM : Moves d₀ e₀ mo mp) (hO : Mask.le objs_masterInstall mo) (hP : Mask.le parts_masterInstall mp) :
    Moves d₀ (e₀.masterInstall p sel).1 mo mp := by
  have O {a : Nat} (h : (a &&& objs_masterInstall == a) = true) := Mask.le_trans h hO
  have P {a : Nat} (h : (a &&& parts_masterInstall == a) = true) := Mask.le_trans h hP
  have B {k : Nat} (h : objs_masterInstall.testBit k = true) := Mask.bit h hO
  have S {k : Nat} (h : parts_masterInstall.testBit k = true) := Mask.bit h hP
  unfold Device.masterInstall
  try simp only
  repeat' first
    | with_reducible exact hM
    | with_reducible exact Moves.refl ..
    | with_reducible refine Moves.bump ?_ (B (by first | decide | (split <;> decide) | (cases m <;> decide))) (by first | decide | (split <;> decide) | (cases m <;> decide)) (S (by decide))
    | with_reducible refine Moves.setMaster ?_ (O (by decide)) (P (by decide))
    | with_reducible refine Moves.journal ?_ (O (by decide)) (P (by decide))
    | with_reducible refine Moves.deriveSel ?_ (O (by decide)) (P (by decide))
    | with_reducible refine Moves.ite (fun _ => ?_) (fun _ => ?_)
    | with_reducible refine Moves.ite1 (fun _ => ?_) (fun _ => ?_)
    | split
    | dsimp only

def objs_masterErase : Nat := 0x340000000000000000000000002b800000000000000000000000000000000000000000000000000000000000000000000000000000000000000000000000000000000000000000000000000
def parts_masterErase : Nat := 0x3000002a1
theorem Moves.masterErase {p sel : Nat} (hM : Moves d₀ e₀ mo mp) (hO : Mask.le objs_masterErase mo) (hP : Mask.le parts_masterErase mp) :
    Moves d₀ (e₀.masterErase p sel).1 mo mp := by
  have O {a : Nat} (h : (a &&& objs_masterErase == a) = true) := Mask.le_trans h hO
  have P {a : Nat} (h : (a &&& parts_masterErase == a) = true) := Mask.le_trans h hP
  unfold Device.masterErase
  try simp only
  repeat' first
    | with_reducible exact hM
    | with_reducible exact Moves.refl ..
    | with_reducible refine Moves.setMaster ?_ (O (by decide)) (P (by decide))
    | with_reducible refine Moves.setTkey ?_ (O (by decide)) (P (by decide))
    | with_reducible refine Moves.journal ?_ (O (by decide)) (P (by decide))
    | with_reducible refine Moves.ite (fun _ => ?_) (fun _ => ?_)
    | with_reducible refine Moves.ite1 (fun _ => ?_) (fun _ => ?_)
    | split
    | dsimp only

def objs_masterCommand : Nat := 0x340000000000000000000000002b800000000000000000000000000000000000000012800000000000000000000000000000000000000000000000000000000000000000000000000000000
def parts_masterCommand : Nat := 0x3000002a1
theorem Moves.masterCommand {p ses v : Nat} (hM : Moves d₀ e₀ mo mp) (hO : Mask.le objs_masterCommand mo) (hP : Mask.le parts_masterCommand mp) :
    Moves d₀ (e₀.masterCommand p ses v) mo mp := by
  have O {a : Nat} (h : (a &&& objs_masterCommand == a) = true) := Mask.le_trans h hO
  have P {a : Nat} (h : (a &&& parts_masterCommand == a) = true) := Mask.le_trans h hP
  have B {k : Nat} (h : objs_masterCommand.testBit k = true) := Mask.bit h hO
  unfold Device.masterCommand
  try simp only
  repeat' first
    | with_reducible exact hM
    | with_reducible exact Moves.refl ..
    | with_reducible refine Moves.cmdReads ?_ (B (by dsimp only; decide)) (by dsimp only; decide)
    | with_reducible refine Moves.masterErase ?_ (O (by decide)) (P (by decide))
    | with_reducible refine Moves.masterInstall ?_ (O (by decide)) (P (by decide))
    | with_reducible refine Moves.ite (fun _ => ?_) (fun _ => ?_)
    | with_reducible refine Moves.ite1 (fun _ => ?_) (fun _ => ?_)
    | split
    | dsimp only


def objs_lhRefresh : Nat := 0x20000000000000000000000000000000000000000000000000000000000000
def parts_lhRefresh : Nat := 0x180000
theorem Moves.lhRefresh {p l : Nat} (hM : Moves d₀ e₀ mo mp) (hO : Mask.le objs_lhRefresh mo) (hP : Mask.le parts_lhRefresh mp) :
    Moves d₀ (e₀.lhRefresh p l) mo mp := by
  have O {a : Nat} (h : (a &&& objs_lhRefresh == a) = true) := Mask.le_trans h hO
  have P {a : Nat} (h : (a &&& parts_lhRefresh == a) = true) := Mask.le_trans h hP
  have B {k : Nat} (h : objs_lhRefresh.testBit k = true) := Mask.bit h hO
  have S {k : Nat} (h : parts_lhRefresh.testBit k = true) := Mask.bit h hP
  unfold Device.lhRefresh
  try simp only
  repeat' first
    | with_reducible exact hM
    | with_reducible exact Moves.refl ..
    | with_reducible refine Moves.set ?_ (B (by decide)) (by decide)
    | with_reducible refine Moves.svcUpdate ?_ (O (by decide)) (P (by decide))
    | with_reducible refine Moves.ite (fun _ => ?_) (fun _ => ?_)
    | with_reducible refine Moves.ite1 (fun _ => ?_) (fun _ => ?_)
    | split
    | dsimp only

def objs_growBufs : Nat := 0x34000000000000000000000000000000000000000000000000000000000000000000000000000000000000000000000000000000000000000000000000000000c7e00000000000000000000
def parts_growBufs : Nat := 0xc03a9
theorem Moves.growBufs {p req per n : Nat} {z0 : Nat} {z1 : List Nat} (hM : Moves d₀ e₀ mo mp) (hO : Mask.le objs_growBufs mo) (hP : Mask.le parts_growBufs mp) :
    Moves d₀ (e₀.growBufs p req per n z0 z1).1 mo mp := by
  have O {a : Nat} (h : (a &&& objs_growBufs == a) = true) := Mask.le_trans h hO
  have P {a : Nat} (h : (a &&& parts_growBufs == a) = true) := Mask.le_trans h hP
  induction z0 generalizing e₀ z1 with
  | zero => exact hM
  | succ n ih =>
  unfold Device.growBufs
  try simp only
  repeat' first
    | with_reducible exact hM
    | with_reducible exact Moves.refl ..
    | with_reducible apply ih
    | with_reducible refine Moves.free ?_ (O (by decide)) (P (by decide))
    | with_reducible refine Moves.alloc ?_ (O (by decide)) (P (by decide))
    | with_reducible refine Moves.ite (fun _ => ?_) (fun _ => ?_)
    | with_reducible refine Moves.ite1 (fun _ => ?_) (fun _ => ?_)
    | split
    | dsimp only

def objs_shrinkBufs : Nat := 0x3400000000000000000000000000000000000000000000000000000000000000000000000000000000000000000000000000000000000000000000000000000000c00000000000000000000
def parts_shrinkBufs : Nat := 0xc02a1
theorem Moves.shrinkBufs {p req per n : Nat} {l : List Nat} (hM : Moves d₀ e₀ mo mp) (hO : Mask.le objs_shrinkBufs mo) (hP : Mask.le parts_shrinkBufs mp) :
    Moves d₀ (e₀.shrinkBufs p req per n l).1 mo mp := by
  have O {a : Nat} (h : (a &&& objs_shrinkBufs == a) = true) := Mask.le_trans h hO
  have P {a : Nat} (h : (a &&& parts_shrinkBufs == a) = true) := Mask.le_trans h hP
  unfold Device.shrinkBufs
  try simp only
  repeat' first
    | with_reducible exact hM
    | with_reducible exact Moves.refl ..
    | with_reducible refine Moves.freeAll ?_ (O (by decide)) (P (by decide))
    | dsimp only

def objs_trimTx : Nat := 0x3400000000000000000000000000000000000000000000000000000000000000000000000000000000000000000000000000000000000000000000000000000000c00000000000000000000
def parts_trimTx : Nat := 0x800c02a1
theorem Moves.trimTx {p t : Nat} (hM : Moves d₀ e₀ mo mp) (hO : Mask.le objs_trimTx mo) (hP : Mask.le parts_trimTx mp) :
    Moves d₀ (e₀.trimTx p t) mo mp := by
  have O {a : Nat} (h : (a &&& objs_trimTx == a) = true) := Mask.le_trans h hO
  have P {a : Nat} (h : (a &&& parts_trimTx == a) = true) := Mask.le_trans h hP
  unfold Device.trimTx
  try simp only
  repeat' first
    | with_reducible exact hM
    | with_reducible exact Moves.refl ..
    | with_reducible refine Moves.setTrib ?_ (O (by decide)) (P (by decide))
    | with_reducible refine Moves.shrinkBufs ?_ (O (by decide)) (P (by decide))
    | dsimp only

def objs_trimRx : Nat := 0x3400000000000000000000000000000000000000000000000000000000000000000000000000000000000000000000000000000000000000000000000000000000c00000000000000000000
def parts_trimRx : Nat := 0x800c02a1
theorem Moves.trimRx {p t : Nat} (hM : Moves d₀ e₀ mo mp) (hO : Mask.le objs_trimRx mo) (hP : Mask.le parts_trimRx mp) :
    Moves d₀ (e₀.trimRx p t) mo mp := by
  have O {a : Nat} (h : (a &&& objs_trimRx == a) = true) := Mask.le_trans h hO
  have P {a : Nat} (h : (a &&& parts_trimRx == a) = true) := Mask.le_trans h hP
  unfold Device.trimRx
  try simp only
  repeat' first
    | with_reducible exact hM
    | with_reducible exact Moves.refl ..
    | with_reducible refine Moves.setTrib ?_ (O (by decide)) (P (by decide))
    | with_reducible refine Moves.shrinkBufs ?_ (O (by decide)) (P (by decide))
    | dsimp only

def objs_placeTrib : Nat := 0x34000000000000000000000000000000000000000000000000000000000000000000000000000000000200000000000000000000000000000000000000000000c7e00000000000000000000
def parts_placeTrib : Nat := 0x800c03a9
theorem Moves.placeTrib {p l : Nat} {f : Frame} {only : Option Nat} (hM : Moves d₀ e₀ mo mp) (hO : Mask.le objs_placeTrib mo) (hP : Mask.le parts_placeTrib mp) :
    Moves d₀ (e₀.placeTrib p l f only).1 mo mp := by
  have O {a : Nat} (h : (a &&& objs_placeTrib == a) = true) := Mask.le_trans h hO
  have P {a : Nat} (h : (a &&& parts_placeTrib == a) = true) := Mask.le_trans h hP
  have B {k : Nat} (h : objs_placeTrib.testBit k = true) := Mask.bit h hO
  have S {k : Nat} (h : parts_placeTrib.testBit k = true) := Mask.bit h hP
  unfold Device.placeTrib
  try simp only
  repeat' first
    | with_reducible exact hM
    | with_reducible exact Moves.refl ..
    | with_reducible refine Moves.bump ?_ (B (by first | decide | (split <;> decide))) (by first | decide | (split <;> decide)) (S (by decide))
    | with_reducible refine Moves.setTrib ?_ (O (by decide)) (P (by decide))
    | with_reducible refine Moves.causeTether ?_ (O (by decide)) (P (by decide))
    | with_reducible refine Moves.growBufs ?_ (O (by decide)) (P (by decide))
    | with_reducible refine Moves.ite (fun _ => ?_) (fun _ => ?_)
    | with_reducible refine Moves.ite1 (fun _ => ?_) (fun _ => ?_)
    | split
    | dsimp only

def objs_noteCounter : Nat := 0x340000000000000000000000002b800000000000000000000000000000000000000000407800000000000000000000000000000000000000000000000000000000000000000000000000000
def parts_noteCounter : Nat := 0x5000002a1
theorem Moves.noteCounter {p t c limit : Nat} (hM : Moves d₀ e₀ mo mp) (hO : Mask.le objs_noteCounter mo) (hP : Mask.le parts_noteCounter mp) :
    Moves d₀ (e₀.noteCounter p t c limit) mo mp := by
  have O {a : Nat} (h : (a &&& objs_noteCounter == a) = true) := Mask.le_trans h hO
  have P {a : Nat} (h : (a &&& parts_noteCounter == a) = true) := Mask.le_trans h hP
  have B {k : Nat} (h : objs_noteCounter.testBit k = true) := Mask.bit h hO
  have S {k : Nat} (h : parts_noteCounter.testBit k = true) := Mask.bit h hP
  unfold Device.noteCounter
  try simp only
  repeat' first
    | with_reducible exact hM
    | with_reducible exact Moves.refl ..
    | with_reducible refine Moves.set ?_ (B (by first | decide | (split <;> decide))) (by first | decide | (split <;> decide))
    | with_reducible refine Moves.bump ?_ (B (by first | decide | (split <;> decide))) (by first | decide | (split <;> decide)) (S (by decide))
    | with_reducible refine Moves.causeCipher ?_ (O (by decide)) (P (by decide))
    | with_reducible refine Moves.startRekey ?_ (O (by decide)) (P (by decide))
    | with_reducible refine Moves.ite (fun _ => ?_) (fun _ => ?_)
    | with_reducible refine Moves.ite1 (fun _ => ?_) (fun _ => ?_)
    | split
    | dsimp only

def objs_lenReject : Nat := 0x3400000000000000000000000000000000000000000000000000000000000000000000200000000000000000000000000000000000000000000000000000000000000000000000000000000
def parts_lenReject : Nat := 0x2a1
theorem Moves.lenReject {p : Nat} (hM : Moves d₀ e₀ mo mp) (hO : Mask.le objs_lenReject mo) (hP : Mask.le parts_lenReject mp) :
    Moves d₀ (e₀.lenReject p) mo mp := by
  have O {a : Nat} (h : (a &&& objs_lenReject == a) = true) := Mask.le_trans h hO
  have P {a : Nat} (h : (a &&& parts_lenReject == a) = true) := Mask.le_trans h hP
  have B {k : Nat} (h : objs_lenReject.testBit k = true) := Mask.bit h hO
  have S {k : Nat} (h : parts_lenReject.testBit k = true) := Mask.bit h hP
  unfold Device.lenReject
  try simp only
  repeat' first
    | with_reducible exact hM
    | with_reducible exact Moves.refl ..
    | with_reducible refine Moves.bump ?_ (B (by decide)) (by decide) (S (by decide))
    | with_reducible refine Moves.causeCipher ?_ (O (by decide)) (P (by decide))
    | dsimp only

def objs_sealSlot : Nat := 0x340000000000000000000000002b800000000000000000000000000000000000000000617800000000000000000000000000000000000000000000000000000000000000000000000000000
def parts_sealSlot : Nat := 0x7400002a1
theorem Moves.sealSlot {p l t tsn firstOff : Nat} {payload : Bytes} {retx : Bool} (hM : Moves d₀ e₀ mo mp) (hO : Mask.le objs_sealSlot mo) (hP : Mask.le parts_sealSlot mp) :
    Moves d₀ (e₀.sealSlot p l t tsn firstOff payload retx).1 mo mp := by
  have O {a : Nat} (h : (a &&& objs_sealSlot == a) = true) := Mask.le_trans h hO
  have P {a : Nat} (h : (a &&& parts_sealSlot == a) = true) := Mask.le_trans h hP
  have B {k : Nat} (h : objs_sealSlot.testBit k = true) := Mask.bit h hO
  have S {k : Nat} (h : parts_sealSlot.testBit k = true) := Mask.bit h hP
  unfold Device.sealSlot
  try simp only
  repeat' first
    | with_reducible exact hM
    | with_reducible exact Moves.refl ..
    | with_reducible refine Moves.set ?_ (B (by first | decide | (split <;> decide))) (by first | decide | (split <;> decide))
    | with_reducible refine Moves.bump ?_ (B (by first | decide | (split <;> decide))) (by first | decide | (split <;> decide)) (S (by decide))
    | with_reducible refine Moves.setTether ?_ (O (by decide)) (P (by decide))
    | with_reducible refine Moves.setTkey ?_ (O (by decide)) (P (by decide))
    | with_reducible refine Moves.lenReject ?_ (O (by decide)) (P (by decide))
    | with_reducible refine Moves.noteCounter ?_ (O (by decide)) (P (by decide))
    | with_reducible refine Moves.ite (fun _ => ?_) (fun _ => ?_)
    | with_reducible refine Moves.ite1 (fun _ => ?_) (fun _ => ?_)
    | split
    | dsimp only

def objs_departWire : Nat := 0x0
def parts_departWire : Nat := 0x400008
theorem Moves.departWire {p l : Nat} {q : List TxFrame} (hM : Moves d₀ e₀ mo mp) (hO : Mask.le objs_departWire mo) (hP : Mask.le parts_departWire mp) :
    Moves d₀ (e₀.departWire p l q).1 mo mp := by
  have O {a : Nat} (h : (a &&& objs_departWire == a) = true) := Mask.le_trans h hO
  have P {a : Nat} (h : (a &&& parts_departWire == a) = true) := Mask.le_trans h hP
  unfold Device.departWire
  try simp only
  repeat' first
    | with_reducible exact hM
    | with_reducible exact Moves.refl ..
    | with_reducible refine Moves.begun ?_ (O (by decide)) (P (by decide))
    | with_reducible refine Moves.ptpDepart ?_ (O (by decide)) (P (by decide))
    | with_reducible refine Moves.ite (fun _ => ?_) (fun _ => ?_)
    | with_reducible refine Moves.ite1 (fun _ => ?_) (fun _ => ?_)
    | split
    | dsimp only

def objs_nextSlot : Nat := 0x340000000000000000000000002b800000000000000000000000000000000000000000617814400000000000000000000000000000000000000000000000000000000000000000000000000
def parts_nextSlot : Nat := 0x7c04012a9
theorem Moves.nextSlot {p l t : Nat} (hM : Moves d₀ e₀ mo mp) (hO : Mask.le objs_nextSlot mo) (hP : Mask.le parts_nextSlot mp) :
    Moves d₀ (e₀.nextSlot p l t).1 mo mp := by
  have O {a : Nat} (h : (a &&& objs_nextSlot == a) = true) := Mask.le_trans h hO
  have P {a : Nat} (h : (a &&& parts_nextSlot == a) = true) := Mask.le_trans h hP
  have B {k : Nat} (h : objs_nextSlot.testBit k = true) := Mask.bit h hO
  have S {k : Nat} (h : parts_nextSlot.testBit k = true) := Mask.bit h hP
  unfold Device.nextSlot
  split
  · extract_lets r
    have hr : Moves d₀ r.1 mo mp := hM.sealSlot (O (by decide)) (P (by decide))
    clear_value r
    split
    · exact hr
    · dsimp only
      exact Moves.bump (hr.setTrib (O (by decide)) (P (by decide))) (B (by decide)) (by decide) (S (by decide))
  · extract_lets x cut
    have hx : Moves d₀ x.1 mo mp := hM.departWire (O (by decide)) (P (by decide))
    clear_value x
    split
    · exact hM
    · split
      · exact hM
      · dsimp only
        exact Moves.count (Moves.set ((hx.sealSlot (O (by decide)) (P (by decide))).setTrib (O (by decide)) (P (by decide))) (B (by decide)) (by decide)) (B (by decide)) (by decide) (S (by decide))

def objs_fillSlot : Nat := 0x340000000000000000000000002b800000000000000000000000000000000000000000617814400000000000000000000000000000000000000000000000000000000000000000000000000
def parts_fillSlot : Nat := 0x7c04012a9
theorem Moves.fillSlot {p l fn k : Nat} (hM : Moves d₀ e₀ mo mp) (hO : Mask.le objs_fillSlot mo) (hP : Mask.le parts_fillSlot mp) :
    Moves d₀ (e₀.fillSlot p l fn k).1 mo mp := by
  have O {a : Nat} (h : (a &&& objs_fillSlot == a) = true) := Mask.le_trans h hO
  have P {a : Nat} (h : (a &&& parts_fillSlot == a) = true) := Mask.le_trans h hP
  unfold Device.fillSlot
  try simp only
  repeat' first
    | with_reducible exact hM
    | with_reducible exact Moves.refl ..
    | (refine Moves.getD ?_ (fun r hr => ?_))
    | with_reducible refine Moves.causeCipher ?_ (O (by decide)) (P (by decide))
    | with_reducible refine Moves.setTether ?_ (O (by decide)) (P (by decide))
    | with_reducible refine Moves.nextSlot ?_ (O (by decide)) (P (by decide))
    | with_reducible refine Moves.ite (fun _ => ?_) (fun _ => ?_)
    | with_reducible refine Moves.ite1 (fun _ => ?_) (fun _ => ?_)
    | split
    | dsimp only

def objs_fillFrame : Nat := 0x340000000000000000000000002b800000000000000000000000000000000000000000617814400000000000000000000000000000000000000000000000000000000000000000000000000
def parts_fillFrame : Nat := 0x7c04012a9
theorem Moves.fillFrame {p n : Nat} (hM : Moves d₀ e₀ mo mp) (hO : Mask.le objs_fillFrame mo) (hP : Mask.le parts_fillFrame mp) :
    Moves d₀ (e₀.fillFrame p n) mo mp := by
  have O {a : Nat} (h : (a &&& objs_fillFrame == a) = true) := Mask.le_trans h hO
  have P {a : Nat} (h : (a &&& parts_fillFrame == a) = true) := Mask.le_trans h hP
  unfold Device.fillFrame
  try simp only
  repeat' first
    | with_reducible exact hM
    | with_reducible exact Moves.refl ..
    | with_reducible refine Moves.foldl1 ?_ (fun s a => ?_)
    | with_reducible refine Moves.setTether ?_ (O (by decide)) (P (by decide))
    | with_reducible refine Moves.fillSlot ?_ (O (by decide)) (P (by decide))
    | with_reducible refine Moves.foldl ?_ (fun d a => ?_)
    | with_reducible refine Moves.ite (fun _ => ?_) (fun _ => ?_)
    | with_reducible refine Moves.ite1 (fun _ => ?_) (fun _ => ?_)
    | split
    | dsimp only

def objs_carrierTx : Nat := 0x340000000000000000000000002b800000000000000000000000000000000000000000617814400000000000200000000000000000000000000000000000000000000000000000000000000
def parts_carrierTx : Nat := 0x7e04012a9
theorem Moves.carrierTx {p l : Nat} (hM : Moves d₀ e₀ mo mp) (hO : Mask.le objs_carrierTx mo) (hP : Mask.le parts_carrierTx mp) :
    Moves d₀ (e₀.carrierTx p l) mo mp := by
  have O {a : Nat} (h : (a &&& objs_carrierTx == a) = true) := Mask.le_trans h hO
  have P {a : Nat} (h : (a &&& parts_carrierTx == a) = true) := Mask.le_trans h hP
  have B {k : Nat} (h : objs_carrierTx.testBit k = true) := Mask.bit h hO
  have S {k : Nat} (h : parts_carrierTx.testBit k = true) := Mask.bit h hP
  unfold Device.carrierTx
  try simp only
  repeat' first
    | with_reducible exact hM
    | with_reducible exact Moves.refl ..
    | with_reducible refine Moves.bump ?_ (B (by decide)) (by decide) (S (by decide))
    | with_reducible refine Moves.setLink ?_ (O (by decide)) (P (by decide))
    | with_reducible refine Moves.emit ?_ (O (by decide)) (P (by decide))
    | with_reducible refine Moves.setTether ?_ (O (by decide)) (P (by decide))
    | with_reducible refine Moves.causeTether ?_ (O (by decide)) (P (by decide))
    | with_reducible refine Moves.fillFrame ?_ (O (by decide)) (P (by decide))
    | with_reducible refine Moves.foldl ?_ (fun d a => ?_)
    | with_reducible refine Moves.ite (fun _ => ?_) (fun _ => ?_)
    | with_reducible refine Moves.ite1 (fun _ => ?_) (fun _ => ?_)
    | split
    | dsimp only

def objs_queueAck : Nat := 0x0
def parts_queueAck : Nat := 0x40000000
theorem Moves.queueAck {p t : Nat} (hM : Moves d₀ e₀ mo mp) (hO : Mask.le objs_queueAck mo) (hP : Mask.le parts_queueAck mp) :
    Moves d₀ (e₀.queueAck p t) mo mp := by
  have O {a : Nat} (h : (a &&& objs_queueAck == a) = true) := Mask.le_trans h hO
  have P {a : Nat} (h : (a &&& parts_queueAck == a) = true) := Mask.le_trans h hP
  unfold Device.queueAck
  try simp only
  repeat' first
    | with_reducible exact hM
    | with_reducible exact Moves.refl ..
    | with_reducible refine Moves.setTether ?_ (O (by decide)) (P (by decide))
    | with_reducible refine Moves.ite (fun _ => ?_) (fun _ => ?_)
    | with_reducible refine Moves.ite1 (fun _ => ?_) (fun _ => ?_)
    | split
    | dsimp only

def objs_queueNak : Nat := 0x400000000000000000000000000000000000000000000000000000000000000000000
def parts_queueNak : Nat := 0x40000001
theorem Moves.queueNak {p t first count : Nat} (hM : Moves d₀ e₀ mo mp) (hO : Mask.le objs_queueNak mo) (hP : Mask.le parts_queueNak mp) :
    Moves d₀ (e₀.queueNak p t first count).1 mo mp := by
  have O {a : Nat} (h : (a &&& objs_queueNak == a) = true) := Mask.le_trans h hO
  have P {a : Nat} (h : (a &&& parts_queueNak == a) = true) := Mask.le_trans h hP
  have B {k : Nat} (h : objs_queueNak.testBit k = true) := Mask.bit h hO
  have S {k : Nat} (h : parts_queueNak.testBit k = true) := Mask.bit h hP
  unfold Device.queueNak
  try simp only
  repeat' first
    | with_reducible exact hM
    | with_reducible exact Moves.refl ..
    | with_reducible refine Moves.bump ?_ (B (by decide)) (by decide) (S (by decide))
    | with_reducible refine Moves.setTether ?_ (O (by decide)) (P (by decide))
    | with_reducible refine Moves.ite (fun _ => ?_) (fun _ => ?_)
    | with_reducible refine Moves.ite1 (fun _ => ?_) (fun _ => ?_)
    | split
    | dsimp only

def objs_ackRx : Nat := 0x3400000000000000000000000000000000000000000000000000000000000000000000000000000000200000000000000000000000000000000000000000000000c00000000000000000000
def parts_ackRx : Nat := 0x800c12a1
theorem Moves.ackRx {p t e : Nat} (hM : Moves d₀ e₀ mo mp) (hO : Mask.le objs_ackRx mo) (hP : Mask.le parts_ackRx mp) :
    Moves d₀ (e₀.ackRx p t e) mo mp := by
  have O {a : Nat} (h : (a &&& objs_ackRx == a) = true) := Mask.le_trans h hO
  have P {a : Nat} (h : (a &&& parts_ackRx == a) = true) := Mask.le_trans h hP
  have B {k : Nat} (h : objs_ackRx.testBit k = true) := Mask.bit h hO
  have S {k : Nat} (h : parts_ackRx.testBit k = true) := Mask.bit h hP
  unfold Device.ackRx
  try simp only
  repeat' first
    | with_reducible exact hM
    | with_reducible exact Moves.refl ..
    | with_reducible refine Moves.bump ?_ (B (by decide)) (by decide) (S (by decide))
    | with_reducible refine Moves.setTrib ?_ (O (by decide)) (P (by decide))
    | with_reducible refine Moves.trimTx ?_ (O (by decide)) (P (by decide))
    | with_reducible refine Moves.ite (fun _ => ?_) (fun _ => ?_)
    | with_reducible refine Moves.ite1 (fun _ => ?_) (fun _ => ?_)
    | split
    | with_reducible refine Moves.with_copies ?_ (S (by decide))
    | dsimp only

def objs_tsnNakRx : Nat := 0x200000000000000000000000000000000000000000000000000000000000000000000
def parts_tsnNakRx : Nat := 0x80000001
theorem Moves.tsnNakRx {p t first count : Nat} (hM : Moves d₀ e₀ mo mp) (hO : Mask.le objs_tsnNakRx mo) (hP : Mask.le parts_tsnNakRx mp) :
    Moves d₀ (e₀.tsnNakRx p t first count) mo mp := by
  have O {a : Nat} (h : (a &&& objs_tsnNakRx == a) = true) := Mask.le_trans h hO
  have P {a : Nat} (h : (a &&& parts_tsnNakRx == a) = true) := Mask.le_trans h hP
  have B {k : Nat} (h : objs_tsnNakRx.testBit k = true) := Mask.bit h hO
  have S {k : Nat} (h : parts_tsnNakRx.testBit k = true) := Mask.bit h hP
  unfold Device.tsnNakRx
  try simp only
  repeat' first
    | with_reducible exact hM
    | with_reducible exact Moves.refl ..
    | with_reducible refine Moves.bump ?_ (B (by decide)) (by decide) (S (by decide))
    | with_reducible refine Moves.setTrib ?_ (O (by decide)) (P (by decide))
    | with_reducible refine Moves.ite (fun _ => ?_) (fun _ => ?_)
    | with_reducible refine Moves.ite1 (fun _ => ?_) (fun _ => ?_)
    | split
    | dsimp only

def objs_rdiRx : Nat := 0x100000000000000000000000000000000000000000000000000000000000000
def parts_rdiRx : Nat := 0x80000000
theorem Moves.rdiRx {p l : Nat} {rdi : Bool} (hM : Moves d₀ e₀ mo mp) (hO : Mask.le objs_rdiRx mo) (hP : Mask.le parts_rdiRx mp) :
    Moves d₀ (e₀.rdiRx p l rdi) mo mp := by
  have O {a : Nat} (h : (a &&& objs_rdiRx == a) = true) := Mask.le_trans h hO
  have P {a : Nat} (h : (a &&& parts_rdiRx == a) = true) := Mask.le_trans h hP
  have B {k : Nat} (h : objs_rdiRx.testBit k = true) := Mask.bit h hO
  have S {k : Nat} (h : parts_rdiRx.testBit k = true) := Mask.bit h hP
  unfold Device.rdiRx
  try simp only
  repeat' first
    | with_reducible exact hM
    | with_reducible exact Moves.refl ..
    | with_reducible refine Moves.set ?_ (B (by first | decide | (split <;> decide))) (by first | decide | (split <;> decide))
    | with_reducible refine Moves.ite (fun _ => ?_) (fun _ => ?_)
    | with_reducible refine Moves.ite1 (fun _ => ?_) (fun _ => ?_)
    | split
    | with_reducible refine Moves.with_tribs ?_ (S (by decide))
    | dsimp only

def objs_openSlot : Nat := 0x34000000000000000000000000000000000000000000000000000000000000000000003e0000000000000000000000000000000000000000000000000000000000000000000000000000000
def parts_openSlot : Nat := 0x2a1
theorem Moves.openSlot {p t : Nat} {s : RxSlot} (hM : Moves d₀ e₀ mo mp) (hO : Mask.le objs_openSlot mo) (hP : Mask.le parts_openSlot mp) :
    Moves d₀ (e₀.openSlot p t s).1 mo mp := by
  have O {a : Nat} (h : (a &&& objs_openSlot == a) = true) := Mask.le_trans h hO
  have P {a : Nat} (h : (a &&& parts_openSlot == a) = true) := Mask.le_trans h hP
  have B {k : Nat} (h : objs_openSlot.testBit k = true) := Mask.bit h hO
  have S {k : Nat} (h : parts_openSlot.testBit k = true) := Mask.bit h hP
  unfold Device.openSlot
  try simp only
  repeat' first
    | with_reducible exact hM
    | with_reducible exact Moves.refl ..
    | with_reducible refine Moves.bump ?_ (B (by decide)) (by decide) (S (by decide))
    | with_reducible refine Moves.causeCipher ?_ (O (by decide)) (P (by decide))
    | with_reducible refine Moves.lenReject ?_ (O (by decide)) (P (by decide))
    | with_reducible refine Moves.ite (fun _ => ?_) (fun _ => ?_)
    | with_reducible refine Moves.ite1 (fun _ => ?_) (fun _ => ?_)
    | split
    | dsimp only

def objs_lhIntake : Nat := 0x3400000000000000000000000000000000003000040000000001180a8800000000000000000000000100000000e8020006606cb80120021ff3e4000000000000c7e02103c7e800200000000
def parts_lhIntake : Nat := 0x178ffff9
theorem Moves.lhIntake {p t : Nat} {f : Frame} (hM : Moves d₀ e₀ mo mp) (hO : Mask.le objs_lhIntake mo) (hP : Mask.le parts_lhIntake mp) :
    Moves d₀ (e₀.lhIntake p t f) mo mp := by
  have O {a : Nat} (h : (a &&& objs_lhIntake == a) = true) := Mask.le_trans h hO
  have P {a : Nat} (h : (a &&& parts_lhIntake == a) = true) := Mask.le_trans h hP
  have B {k : Nat} (h : objs_lhIntake.testBit k = true) := Mask.bit h hO
  have S {k : Nat} (h : parts_lhIntake.testBit k = true) := Mask.bit h hP
  unfold Device.lhIntake
  try simp only
  repeat' first
    | with_reducible exact hM
    | with_reducible exact Moves.refl ..
    | with_reducible refine Moves.bump ?_ (B (by first | decide | (split <;> decide))) (by first | decide | (split <;> decide)) (S (by decide))
    | with_reducible refine Moves.causeFabric ?_ (O (by decide)) (P (by decide))
    | with_reducible refine Moves.intake ?_ (O (by decide)) (P (by decide))
    | with_reducible refine Moves.ptpTaken ?_ (O (by decide)) (P (by decide))
    | with_reducible refine Moves.ite (fun _ => ?_) (fun _ => ?_)
    | with_reducible refine Moves.ite1 (fun _ => ?_) (fun _ => ?_)
    | split
    | dsimp only

def objs_parseStream : Nat := 0x3400000000000000000000000000000000003000040000000001180a8800000000000000000000000100000000e8020006606cb80120021ff3e4000000000000c7e02103c7e800200000000
def parts_parseStream : Nat := 0x978ffff9
theorem Moves.parseStream {p t : Nat} {z0 : Nat} (hM : Moves d₀ e₀ mo mp) (hO : Mask.le objs_parseStream mo) (hP : Mask.le parts_parseStream mp) :
    Moves d₀ (e₀.parseStream p t z0) mo mp := by
  have O {a : Nat} (h : (a &&& objs_parseStream == a) = true) := Mask.le_trans h hO
  have P {a : Nat} (h : (a &&& parts_parseStream == a) = true) := Mask.le_trans h hP
  induction z0 generalizing e₀  with
  | zero => exact hM
  | succ n ih =>
  unfold Device.parseStream
  try simp only
  repeat' first
    | with_reducible exact hM
    | with_reducible exact Moves.refl ..
    | with_reducible apply ih
    | with_reducible refine Moves.setTrib ?_ (O (by decide)) (P (by decide))
    | with_reducible refine Moves.lhIntake ?_ (O (by decide)) (P (by decide))
    | with_reducible refine Moves.ite (fun _ => ?_) (fun _ => ?_)
    | with_reducible refine Moves.ite1 (fun _ => ?_) (fun _ => ?_)
    | split
    | dsimp only

def objs_deliverBytes : Nat := 0x3400000000000000000000000000000000003000040000000001180a8800000000000000002000000100000000e8020006606cb80120021ff3e4000000000000c7e02103c7e800200000000
def parts_deliverBytes : Nat := 0x978ffff9
theorem Moves.deliverBytes {p t firstOff : Nat} {b : Bytes} (hM : Moves d₀ e₀ mo mp) (hO : Mask.le objs_deliverBytes mo) (hP : Mask.le parts_deliverBytes mp) :
    Moves d₀ (e₀.deliverBytes p t firstOff b) mo mp := by
  have O {a : Nat} (h : (a &&& objs_deliverBytes == a) = true) := Mask.le_trans h hO
  have P {a : Nat} (h : (a &&& parts_deliverBytes == a) = true) := Mask.le_trans h hP
  have B {k : Nat} (h : objs_deliverBytes.testBit k = true) := Mask.bit h hO
  have S {k : Nat} (h : parts_deliverBytes.testBit k = true) := Mask.bit h hP
  unfold Device.deliverBytes
  try simp only
  repeat' first
    | with_reducible exact hM
    | with_reducible exact Moves.refl ..
    | with_reducible refine Moves.count ?_ (B (by decide)) (by decide) (S (by decide))
    | with_reducible refine Moves.setTrib ?_ (O (by decide)) (P (by decide))
    | with_reducible refine Moves.parseStream ?_ (O (by decide)) (P (by decide))
    | with_reducible refine Moves.ite (fun _ => ?_) (fun _ => ?_)
    | with_reducible refine Moves.ite1 (fun _ => ?_) (fun _ => ?_)
    | split
    | dsimp only

def objs_dropHolds : Nat := 0x3400000000000000000000000000000000000000000000000000000000000000000000000000000000000000000000000000000000000000000000000000000000c00000000000000000000
def parts_dropHolds : Nat := 0x800c02a1
theorem Moves.dropHolds {p t : Nat} (hM : Moves d₀ e₀ mo mp) (hO : Mask.le objs_dropHolds mo) (hP : Mask.le parts_dropHolds mp) :
    Moves d₀ (e₀.dropHolds p t) mo mp := by
  have O {a : Nat} (h : (a &&& objs_dropHolds == a) = true) := Mask.le_trans h hO
  have P {a : Nat} (h : (a &&& parts_dropHolds == a) = true) := Mask.le_trans h hP
  unfold Device.dropHolds
  try simp only
  repeat' first
    | with_reducible exact hM
    | with_reducible exact Moves.refl ..
    | with_reducible refine Moves.setTrib ?_ (O (by decide)) (P (by decide))
    | with_reducible refine Moves.trimRx ?_ (O (by decide)) (P (by decide))
    | dsimp only

def objs_trimGaps : Nat := 0x0
def parts_trimGaps : Nat := 0x80000000
theorem Moves.trimGaps {p t : Nat} (hM : Moves d₀ e₀ mo mp) (hO : Mask.le objs_trimGaps mo) (hP : Mask.le parts_trimGaps mp) :
    Moves d₀ (e₀.trimGaps p t) mo mp := by
  have O {a : Nat} (h : (a &&& objs_trimGaps == a) = true) := Mask.le_trans h hO
  have P {a : Nat} (h : (a &&& parts_trimGaps == a) = true) := Mask.le_trans h hP
  unfold Device.trimGaps
  try simp only
  repeat' first
    | with_reducible exact hM
    | with_reducible exact Moves.refl ..
    | with_reducible refine Moves.setTrib ?_ (O (by decide)) (P (by decide))
    | dsimp only

def objs_deliverRun : Nat := 0x3400000000000000000000000000000000003000040000000001180a880000000000003e002080000100000000e8020006606cb80120021ff3e4000000000000c7e02103c7e800200000000
def parts_deliverRun : Nat := 0xd78ffff9
theorem Moves.deliverRun {p t : Nat} {z0 : Nat} (hM : Moves d₀ e₀ mo mp) (hO : Mask.le objs_deliverRun mo) (hP : Mask.le parts_deliverRun mp) :
    Moves d₀ (e₀.deliverRun p t z0) mo mp := by
  have O {a : Nat} (h : (a &&& objs_deliverRun == a) = true) := Mask.le_trans h hO
  have P {a : Nat} (h : (a &&& parts_deliverRun == a) = true) := Mask.le_trans h hP
  have B {k : Nat} (h : objs_deliverRun.testBit k = true) := Mask.bit h hO
  have S {k : Nat} (h : parts_deliverRun.testBit k = true) := Mask.bit h hP
  induction z0 generalizing e₀  with
  | zero => exact hM
  | succ n ih =>
  unfold Device.deliverRun
  try simp only
  repeat' first
    | with_reducible exact hM
    | with_reducible exact Moves.refl ..
    | with_reducible apply ih
    | with_reducible refine Moves.set ?_ (B (by decide)) (by decide)
    | with_reducible refine Moves.setTrib ?_ (O (by decide)) (P (by decide))
    | with_reducible refine Moves.dropHolds ?_ (O (by decide)) (P (by decide))
    | with_reducible refine Moves.deliverBytes ?_ (O (by decide)) (P (by decide))
    | with_reducible refine Moves.openSlot ?_ (O (by decide)) (P (by decide))
    | with_reducible refine Moves.queueAck ?_ (O (by decide)) (P (by decide))
    | with_reducible refine Moves.trimRx ?_ (O (by decide)) (P (by decide))
    | with_reducible refine Moves.ite (fun _ => ?_) (fun _ => ?_)
    | with_reducible refine Moves.ite1 (fun _ => ?_) (fun _ => ?_)
    | split
    | dsimp only

def objs_settleTrib : Nat := 0x3400000000000000000000000000000000003000040000000001180a880000000000003e002080000100000000e8020006606cb80120021ff3e4000000000000c7e02103c7e800200000000
def parts_settleTrib : Nat := 0xd78ffff9
theorem Moves.settleTrib {p t : Nat} (hM : Moves d₀ e₀ mo mp) (hO : Mask.le objs_settleTrib mo) (hP : Mask.le parts_settleTrib mp) :
    Moves d₀ (e₀.settleTrib p t) mo mp := by
  have O {a : Nat} (h : (a &&& objs_settleTrib == a) = true) := Mask.le_trans h hO
  have P {a : Nat} (h : (a &&& parts_settleTrib == a) = true) := Mask.le_trans h hP
  unfold Device.settleTrib
  try simp only
  repeat' first
    | with_reducible exact hM
    | with_reducible exact Moves.refl ..
    | with_reducible refine Moves.deliverRun ?_ (O (by decide)) (P (by decide))
    | with_reducible refine Moves.trimGaps ?_ (O (by decide)) (P (by decide))
    | dsimp only

def objs_slotRx : Nat := 0x3400000000000000000000000000000000003000040000000001180a880000000000003e00208000011f800000e8020006606cb80120021ff3e4000000000000c7e02103c7e800200000000
def parts_slotRx : Nat := 0xd78ffff9
theorem Moves.slotRx {p l mfn fn k : Nat} {b : Bytes} {decided : Bool} (hM : Moves d₀ e₀ mo mp) (hO : Mask.le objs_slotRx mo) (hP : Mask.le parts_slotRx mp) :
    Moves d₀ (e₀.slotRx p l mfn fn k b decided) mo mp := by
  have O {a : Nat} (h : (a &&& objs_slotRx == a) = true) := Mask.le_trans h hO
  have P {a : Nat} (h : (a &&& parts_slotRx == a) = true) := Mask.le_trans h hP
  have B {k : Nat} (h : objs_slotRx.testBit k = true) := Mask.bit h hO
  have S {k : Nat} (h : parts_slotRx.testBit k = true) := Mask.bit h hP
  unfold Device.slotRx
  extract_lets th h len tt tsn s e n cnt d slot r x
  have hd : Moves d₀ d mo mp := hM.setTether (O (by decide)) (P (by decide))
  clear_value d
  have hr : Moves d₀ r.1 mo mp := hd.growBufs (O (by decide)) (P (by decide))
  clear_value r
  have hx : Moves d₀ x.1 mo mp := hr.openSlot (O (by decide)) (P (by decide))
  clear_value x
  split
  · exact hM.bump (B (by decide)) (by decide) (S (by decide))
  split
  · exact hM
  split
  · exact hM.bump (B (by decide)) (by decide) (S (by decide))
  split
  · exact hM.bump (B (by decide)) (by decide) (S (by decide))
  split
  · exact hM.bump (B (by decide)) (by decide) (S (by decide))
  split
  · exact hM.bump (B (by decide)) (by decide) (S (by decide))
  split
  · exact Moves.ite (fun _ => hd.causeCipher (O (by decide)) (P (by decide))) (fun _ => hd)
  split
  · exact (hr.setTrib (O (by decide)) (P (by decide))).settleTrib (O (by decide)) (P (by decide))
  split
  · split
    · exact hx
    · exact (((hx.set (B (by decide)) (by decide)).queueAck (O (by decide)) (P (by decide))).deliverBytes (O (by decide)) (P (by decide))).settleTrib (O (by decide)) (P (by decide))
  · exact hr.bump (B (by decide)) (by decide) (S (by decide))

def objs_areaRx : Nat := 0x3400000000000000000000000000000000003000040000000001180a880000000000003e00208000011f800000e8020006606cb80120021ff3e4000000000000c7e02103c7e800200000000
def parts_areaRx : Nat := 0xd78ffff9
theorem Moves.areaRx {p l mfn fn : Nat} {area : Bytes} {decided : Bool} (hM : Moves d₀ e₀ mo mp) (hO : Mask.le objs_areaRx mo) (hP : Mask.le parts_areaRx mp) :
    Moves d₀ (e₀.areaRx p l mfn fn area decided) mo mp := by
  have O {a : Nat} (h : (a &&& objs_areaRx == a) = true) := Mask.le_trans h hO
  have P {a : Nat} (h : (a &&& parts_areaRx == a) = true) := Mask.le_trans h hP
  unfold Device.areaRx
  try simp only
  repeat' first
    | with_reducible exact hM
    | with_reducible exact Moves.refl ..
    | with_reducible refine Moves.slotRx ?_ (O (by decide)) (P (by decide))
    | with_reducible refine Moves.foldl ?_ (fun d a => ?_)
    | dsimp only

def objs_trimParity : Nat := 0x3400000000000000000000000000000000000000000000000000000000000000000000000000000000000000000000000000000000000000000000000000000000c00000000000000000000
def parts_trimParity : Nat := 0x400c02a1
theorem Moves.trimParity {p : Nat} (hM : Moves d₀ e₀ mo mp) (hO : Mask.le objs_trimParity mo) (hP : Mask.le parts_trimParity mp) :
    Moves d₀ (e₀.trimParity p) mo mp := by
  have O {a : Nat} (h : (a &&& objs_trimParity == a) = true) := Mask.le_trans h hO
  have P {a : Nat} (h : (a &&& parts_trimParity == a) = true) := Mask.le_trans h hP
  unfold Device.trimParity
  try simp only
  repeat' first
    | with_reducible exact hM
    | with_reducible exact Moves.refl ..
    | with_reducible refine Moves.setTether ?_ (O (by decide)) (P (by decide))
    | with_reducible refine Moves.shrinkBufs ?_ (O (by decide)) (P (by decide))
    | dsimp only

def objs_noteLoss : Nat := 0x2000000000000000000000000000000000000000000000000000000000000000000
def parts_noteLoss : Nat := 0x40000001
theorem Moves.noteLoss {p : Nat} {lost : List Nat} (hM : Moves d₀ e₀ mo mp) (hO : Mask.le objs_noteLoss mo) (hP : Mask.le parts_noteLoss mp) :
    Moves d₀ (e₀.noteLoss p lost) mo mp := by
  have O {a : Nat} (h : (a &&& objs_noteLoss == a) = true) := Mask.le_trans h hO
  have P {a : Nat} (h : (a &&& parts_noteLoss == a) = true) := Mask.le_trans h hP
  have B {k : Nat} (h : objs_noteLoss.testBit k = true) := Mask.bit h hO
  have S {k : Nat} (h : parts_noteLoss.testBit k = true) := Mask.bit h hP
  unfold Device.noteLoss
  try simp only
  repeat' first
    | with_reducible exact hM
    | with_reducible exact Moves.refl ..
    | with_reducible refine Moves.bump ?_ (B (by first | decide | (split <;> decide))) (by first | decide | (split <;> decide)) (S (by decide))
    | with_reducible refine Moves.setTether ?_ (O (by decide)) (P (by decide))
    | with_reducible refine Moves.ite (fun _ => ?_) (fun _ => ?_)
    | with_reducible refine Moves.ite1 (fun _ => ?_) (fun _ => ?_)
    | split
    | dsimp only

def objs_decideStripe : Nat := 0x3400000000000000000000000000000000003000040000000001180a880000000000003e00208000011fb00000e8020006606cb80120021ff3e4000000000000c7e02103c7e800200000000
def parts_decideStripe : Nat := 0xd78ffff9
theorem Moves.decideStripe {p : Nat} {s : Stripe} (hM : Moves d₀ e₀ mo mp) (hO : Mask.le objs_decideStripe mo) (hP : Mask.le parts_decideStripe mp) :
    Moves d₀ (e₀.decideStripe p s) mo mp := by
  have O {a : Nat} (h : (a &&& objs_decideStripe == a) = true) := Mask.le_trans h hO
  have P {a : Nat} (h : (a &&& parts_decideStripe == a) = true) := Mask.le_trans h hP
  have B {k : Nat} (h : objs_decideStripe.testBit k = true) := Mask.bit h hO
  have S {k : Nat} (h : parts_decideStripe.testBit k = true) := Mask.bit h hP
  unfold Device.decideStripe
  try simp only
  repeat' first
    | with_reducible exact hM
    | with_reducible exact Moves.refl ..
    | with_reducible refine Moves.bump ?_ (B (by decide)) (by decide) (S (by decide))
    | with_reducible refine Moves.setTether ?_ (O (by decide)) (P (by decide))
    | with_reducible refine Moves.noteLoss ?_ (O (by decide)) (P (by decide))
    | with_reducible refine Moves.trimParity ?_ (O (by decide)) (P (by decide))
    | with_reducible refine Moves.areaRx ?_ (O (by decide)) (P (by decide))
    | with_reducible refine Moves.dropHolds ?_ (O (by decide)) (P (by decide))
    | with_reducible refine Moves.foldl ?_ (fun d a => ?_)
    | with_reducible refine Moves.ite (fun _ => ?_) (fun _ => ?_)
    | with_reducible refine Moves.ite1 (fun _ => ?_) (fun _ => ?_)
    | split
    | with_reducible refine Moves.with_tribs ?_ (S (by decide))
    | dsimp only

def objs_nakGaps : Nat := 0x400000000000000000000000000000000000000000000000000000000000000000000
def parts_nakGaps : Nat := 0xc0000001
theorem Moves.nakGaps {p t : Nat} (hM : Moves d₀ e₀ mo mp) (hO : Mask.le objs_nakGaps mo) (hP : Mask.le parts_nakGaps mp) :
    Moves d₀ (e₀.nakGaps p t) mo mp := by
  have O {a : Nat} (h : (a &&& objs_nakGaps == a) = true) := Mask.le_trans h hO
  have P {a : Nat} (h : (a &&& parts_nakGaps == a) = true) := Mask.le_trans h hP
  unfold Device.nakGaps
  try simp only
  repeat' first
    | with_reducible exact hM
    | with_reducible exact Moves.refl ..
    | with_reducible refine Moves.setTrib ?_ (O (by decide)) (P (by decide))
    | with_reducible refine Moves.queueNak ?_ (O (by decide)) (P (by decide))
    | with_reducible refine Moves.foldl ?_ (fun d a => ?_)
    | with_reducible refine Moves.ite (fun _ => ?_) (fun _ => ?_)
    | with_reducible refine Moves.ite1 (fun _ => ?_) (fun _ => ?_)
    | split
    | dsimp only

def objs_decideStripes : Nat := 0x3400000000000000000000000000000000003000040000000001180a880000000000003e00208000015fb00000e8020006606cb80120021ff3e4000000000000c7e02103c7e800200000000
def parts_decideStripes : Nat := 0xd78ffff9
theorem Moves.decideStripes {p : Nat} (hM : Moves d₀ e₀ mo mp) (hO : Mask.le objs_decideStripes mo) (hP : Mask.le parts_decideStripes mp) :
    Moves d₀ (e₀.decideStripes p) mo mp := by
  have O {a : Nat} (h : (a &&& objs_decideStripes == a) = true) := Mask.le_trans h hO
  have P {a : Nat} (h : (a &&& parts_decideStripes == a) = true) := Mask.le_trans h hP
  unfold Device.decideStripes
  try simp only
  repeat' first
    | with_reducible exact hM
    | with_reducible exact Moves.refl ..
    | with_reducible refine Moves.nakGaps ?_ (O (by decide)) (P (by decide))
    | with_reducible refine Moves.decideStripe ?_ (O (by decide)) (P (by decide))
    | with_reducible refine Moves.foldl ?_ (fun d a => ?_)
    | with_reducible refine Moves.ite (fun _ => ?_) (fun _ => ?_)
    | with_reducible refine Moves.ite1 (fun _ => ?_) (fun _ => ?_)
    | split
    | dsimp only

def objs_touchStripe : Nat := 0x0
def parts_touchStripe : Nat := 0x40000000
theorem Moves.touchStripe {p num : Nat} (hM : Moves d₀ e₀ mo mp) (hO : Mask.le objs_touchStripe mo) (hP : Mask.le parts_touchStripe mp) :
    Moves d₀ (e₀.touchStripe p num) mo mp := by
  have O {a : Nat} (h : (a &&& objs_touchStripe == a) = true) := Mask.le_trans h hO
  have P {a : Nat} (h : (a &&& parts_touchStripe == a) = true) := Mask.le_trans h hP
  unfold Device.touchStripe
  try simp only
  repeat' first
    | with_reducible exact hM
    | with_reducible exact Moves.refl ..
    | with_reducible refine Moves.setTether ?_ (O (by decide)) (P (by decide))
    | with_reducible refine Moves.ite (fun _ => ?_) (fun _ => ?_)
    | with_reducible refine Moves.ite1 (fun _ => ?_) (fun _ => ?_)
    | split
    | dsimp only

def objs_modStripe : Nat := 0x0
def parts_modStripe : Nat := 0x40000000
theorem Moves.modStripe {p no : Nat} {f : Stripe → Stripe} (hM : Moves d₀ e₀ mo mp) (hO : Mask.le objs_modStripe mo) (hP : Mask.le parts_modStripe mp) :
    Moves d₀ (e₀.modStripe p no f) mo mp := by
  have O {a : Nat} (h : (a &&& objs_modStripe == a) = true) := Mask.le_trans h hO
  have P {a : Nat} (h : (a &&& parts_modStripe == a) = true) := Mask.le_trans h hP
  unfold Device.modStripe
  try simp only
  repeat' first
    | with_reducible exact hM
    | with_reducible exact Moves.refl ..
    | with_reducible refine Moves.setTether ?_ (O (by decide)) (P (by decide))
    | with_reducible refine Moves.ite (fun _ => ?_) (fun _ => ?_)
    | with_reducible refine Moves.ite1 (fun _ => ?_) (fun _ => ?_)
    | split
    | dsimp only

def objs_parityRx : Nat := 0x34000000000000000000000000000000000000000000000000000000000000000000000000000000000040000000000000000000000000000000000000000000c7e00000000000000000000
def parts_parityRx : Nat := 0x400c03a9
theorem Moves.parityRx {p q no : Nat} {area : Bytes} (hM : Moves d₀ e₀ mo mp) (hO : Mask.le objs_parityRx mo) (hP : Mask.le parts_parityRx mp) :
    Moves d₀ (e₀.parityRx p q no area) mo mp := by
  have O {a : Nat} (h : (a &&& objs_parityRx == a) = true) := Mask.le_trans h hO
  have P {a : Nat} (h : (a &&& parts_parityRx == a) = true) := Mask.le_trans h hP
  have B {k : Nat} (h : objs_parityRx.testBit k = true) := Mask.bit h hO
  have S {k : Nat} (h : parts_parityRx.testBit k = true) := Mask.bit h hP
  unfold Device.parityRx
  try simp only
  repeat' first
    | with_reducible exact hM
    | with_reducible exact Moves.refl ..
    | with_reducible refine Moves.bump ?_ (B (by decide)) (by decide) (S (by decide))
    | with_reducible refine Moves.setTether ?_ (O (by decide)) (P (by decide))
    | with_reducible refine Moves.modStripe ?_ (O (by decide)) (P (by decide))
    | with_reducible refine Moves.growBufs ?_ (O (by decide)) (P (by decide))
    | with_reducible refine Moves.ite (fun _ => ?_) (fun _ => ?_)
    | with_reducible refine Moves.ite1 (fun _ => ?_) (fun _ => ?_)
    | split
    | dsimp only

def objs_leaveBundle : Nat := 0x340000001c000000002000000000000000003000040000000001180a880000000000003e00208000015fb20000e8020006606cb80128021ff3e4000000000000c7e02103c7e800200000000
def parts_leaveBundle : Nat := 0x80df8ffff9
theorem Moves.leaveBundle {p l : Nat} {fault : Bool} (hM : Moves d₀ e₀ mo mp) (hO : Mask.le objs_leaveBundle mo) (hP : Mask.le parts_leaveBundle mp) :
    Moves d₀ (e₀.leaveBundle p l fault) mo mp := by
  have O {a : Nat} (h : (a &&& objs_leaveBundle == a) = true) := Mask.le_trans h hO
  have P {a : Nat} (h : (a &&& parts_leaveBundle == a) = true) := Mask.le_trans h hP
  have B {k : Nat} (h : objs_leaveBundle.testBit k = true) := Mask.bit h hO
  have S {k : Nat} (h : parts_leaveBundle.testBit k = true) := Mask.bit h hP
  unfold Device.leaveBundle
  try simp only
  repeat' first
    | with_reducible exact hM
    | with_reducible exact Moves.refl ..
    | with_reducible refine Moves.set ?_ (B (by decide)) (by decide)
    | with_reducible refine Moves.decideStripes ?_ (O (by decide)) (P (by decide))
    | with_reducible refine Moves.chanFault ?_ (O (by decide)) (P (by decide))
    | with_reducible refine Moves.ite (fun _ => ?_) (fun _ => ?_)
    | with_reducible refine Moves.ite1 (fun _ => ?_) (fun _ => ?_)
    | split
    | dsimp only

def objs_goOof : Nat := 0x340000001c000000002000000000000000003000040000000001180a880000000000003e00208000015fb20002e8020006606cb80128021ff3e4000000000000c7e02103c7e800200000000
def parts_goOof : Nat := 0x80ff9ffff9
theorem Moves.goOof {p l : Nat} {fault : Bool} (hM : Moves d₀ e₀ mo mp) (hO : Mask.le objs_goOof mo) (hP : Mask.le parts_goOof mp) :
    Moves d₀ (e₀.goOof p l fault) mo mp := by
  have O {a : Nat} (h : (a &&& objs_goOof == a) = true) := Mask.le_trans h hO
  have P {a : Nat} (h : (a &&& parts_goOof == a) = true) := Mask.le_trans h hP
  unfold Device.goOof
  try simp only
  repeat' first
    | with_reducible exact hM
    | with_reducible exact Moves.refl ..
    | with_reducible refine Moves.setLink ?_ (O (by decide)) (P (by decide))
    | with_reducible refine Moves.leaveBundle ?_ (O (by decide)) (P (by decide))
    | with_reducible refine Moves.lhRefresh ?_ (O (by decide)) (P (by decide))
    | dsimp only

def objs_mfEnd : Nat := 0x340000001c000000002000000000000000003000040000000001180a880000000000003e00208000015fb20202e8020006606cb80128021ff3e4000000000000c7e02103c7e800200000000
def parts_mfEnd : Nat := 0x80ff9ffff9
theorem Moves.mfEnd {p l : Nat} (hM : Moves d₀ e₀ mo mp) (hO : Mask.le objs_mfEnd mo) (hP : Mask.le parts_mfEnd mp) :
    Moves d₀ (e₀.mfEnd p l) mo mp := by
  have O {a : Nat} (h : (a &&& objs_mfEnd == a) = true) := Mask.le_trans h hO
  have P {a : Nat} (h : (a &&& parts_mfEnd == a) = true) := Mask.le_trans h hP
  have B {k : Nat} (h : objs_mfEnd.testBit k = true) := Mask.bit h hO
  have S {k : Nat} (h : parts_mfEnd.testBit k = true) := Mask.bit h hP
  unfold Device.mfEnd
  try simp only
  repeat' first
    | with_reducible exact hM
    | with_reducible exact Moves.refl ..
    | with_reducible refine Moves.bump ?_ (B (by decide)) (by decide) (S (by decide))
    | with_reducible refine Moves.setLink ?_ (O (by decide)) (P (by decide))
    | with_reducible refine Moves.leaveBundle ?_ (O (by decide)) (P (by decide))
    | with_reducible refine Moves.lhRefresh ?_ (O (by decide)) (P (by decide))
    | with_reducible refine Moves.ite (fun _ => ?_) (fun _ => ?_)
    | with_reducible refine Moves.ite1 (fun _ => ?_) (fun _ => ?_)
    | split
    | dsimp only

def objs_advance : Nat := 0x340000001c000000002000000000000000003000040000000001180a880000000000003e00208000015fb20202e8020006606cb80128021ff3e4000000000000c7e02103c7e800200000000
def parts_advance : Nat := 0x80ff9ffff9
theorem Moves.advance {p l : Nat} (hM : Moves d₀ e₀ mo mp) (hO : Mask.le objs_advance mo) (hP : Mask.le parts_advance mp) :
    Moves d₀ (e₀.advance p l) mo mp := by
  have O {a : Nat} (h : (a &&& objs_advance == a) = true) := Mask.le_trans h hO
  have P {a : Nat} (h : (a &&& parts_advance == a) = true) := Mask.le_trans h hP
  unfold Device.advance
  try simp only
  repeat' first
    | with_reducible exact hM
    | with_reducible exact Moves.refl ..
    | with_reducible refine Moves.setLink ?_ (O (by decide)) (P (by decide))
    | with_reducible refine Moves.mfEnd ?_ (O (by decide)) (P (by decide))
    | with_reducible refine Moves.ite (fun _ => ?_) (fun _ => ?_)
    | with_reducible refine Moves.ite1 (fun _ => ?_) (fun _ => ?_)
    | split
    | dsimp only

def objs_badFrame : Nat := 0x340000001c000000002000000000000000003000040000000001180a880000000000003e00208000015fb20b82e8020006606cb80128021ff3e4000000000000c7e02103c7e800200000000
def parts_badFrame : Nat := 0x80ff9ffff9
theorem Moves.badFrame {p l : Nat} {mfn : Option Nat} (hM : Moves d₀ e₀ mo mp) (hO : Mask.le objs_badFrame mo) (hP : Mask.le parts_badFrame mp) :
    Moves d₀ (e₀.badFrame p l mfn) mo mp := by
  have O {a : Nat} (h : (a &&& objs_badFrame == a) = true) := Mask.le_trans h hO
  have P {a : Nat} (h : (a &&& parts_badFrame == a) = true) := Mask.le_trans h hP
  have B {k : Nat} (h : objs_badFrame.testBit k = true) := Mask.bit h hO
  have S {k : Nat} (h : parts_badFrame.testBit k = true) := Mask.bit h hP
  unfold Device.badFrame
  try simp only
  repeat' first
    | with_reducible exact hM
    | with_reducible exact Moves.refl ..
    | with_reducible refine Moves.bump ?_ (B (by first | decide | (split <;> decide) | (cases m <;> decide))) (by first | decide | (split <;> decide) | (cases m <;> decide)) (S (by decide))
    | with_reducible refine Moves.setLink ?_ (O (by decide)) (P (by decide))
    | with_reducible refine Moves.advance ?_ (O (by decide)) (P (by decide))
    | with_reducible refine Moves.goOof ?_ (O (by decide)) (P (by decide))
    | with_reducible refine Moves.touchStripe ?_ (O (by decide)) (P (by decide))
    | with_reducible refine Moves.decideStripes ?_ (O (by decide)) (P (by decide))
    | with_reducible refine Moves.ite (fun _ => ?_) (fun _ => ?_)
    | with_reducible refine Moves.ite1 (fun _ => ?_) (fun _ => ?_)
    | split
    | dsimp only

def objs_readings : Nat := 0x340000000000000000000000002b800000000000000000000000000000000000000000006c0000014000000000e8020006606cb80100021ff3e4000000000000c7e00100028000000000000
def parts_readings : Nat := 0x5478edbf9
theorem Moves.readings {p oh : Nat} (hM : Moves d₀ e₀ mo mp) (hO : Mask.le objs_readings mo) (hP : Mask.le parts_readings mp) :
    Moves d₀ (e₀.readings p oh) mo mp := by
  have O {a : Nat} (h : (a &&& objs_readings == a) = true) := Mask.le_trans h hO
  have P {a : Nat} (h : (a &&& parts_readings == a) = true) := Mask.le_trans h hP
  have B {k : Nat} (h : objs_readings.testBit k = true) := Mask.bit h hO
  have S {k : Nat} (h : parts_readings.testBit k = true) := Mask.bit h hP
  unfold Device.readings
  try simp only
  repeat' first
    | with_reducible exact hM
    | with_reducible exact Moves.refl ..
    | with_reducible refine Moves.set ?_ (B (by decide)) (by decide)
    | with_reducible refine Moves.setTether ?_ (O (by decide)) (P (by decide))
    | with_reducible refine Moves.keyReview ?_ (O (by decide)) (P (by decide))
    | with_reducible refine Moves.run ?_ (O (by decide)) (P (by decide))
    | with_reducible refine Moves.ite (fun _ => ?_) (fun _ => ?_)
    | with_reducible refine Moves.ite1 (fun _ => ?_) (fun _ => ?_)
    | split
    | dsimp only

def objs_enterMf : Nat := 0x34000000000000000000000000000000000000000000000000000000000000000000000000000d4000000800000000000000000000000000000000000000000000000000000000000000000
def parts_enterMf : Nat := 0x400002a1
theorem Moves.enterMf {p mfn : Nat} (hM : Moves d₀ e₀ mo mp) (hO : Mask.le objs_enterMf mo) (hP : Mask.le parts_enterMf mp) :
    Moves d₀ (e₀.enterMf p mfn) mo mp := by
  have O {a : Nat} (h : (a &&& objs_enterMf == a) = true) := Mask.le_trans h hO
  have P {a : Nat} (h : (a &&& parts_enterMf == a) = true) := Mask.le_trans h hP
  have B {k : Nat} (h : objs_enterMf.testBit k = true) := Mask.bit h hO
  have S {k : Nat} (h : parts_enterMf.testBit k = true) := Mask.bit h hP
  unfold Device.enterMf
  try simp only
  repeat' first
    | with_reducible exact hM
    | with_reducible exact Moves.refl ..
    | with_reducible refine Moves.set ?_ (B (by first | decide | (split <;> decide) | (cases m <;> decide))) (by first | decide | (split <;> decide) | (cases m <;> decide))
    | with_reducible refine Moves.copyPage ?_ (B (by first | decide | (split <;> decide) | (cases m <;> decide))) (by decide)
    | with_reducible refine Moves.bump ?_ (B (by first | decide | (split <;> decide) | (cases m <;> decide))) (by first | decide | (split <;> decide) | (cases m <;> decide)) (S (by decide))
    | with_reducible refine Moves.setTether ?_ (O (by decide)) (P (by decide))
    | with_reducible refine Moves.causeTether ?_ (O (by decide)) (P (by decide))
    | with_reducible refine Moves.ite (fun _ => ?_) (fun _ => ?_)
    | with_reducible refine Moves.ite1 (fun _ => ?_) (fun _ => ?_)
    | split
    | dsimp only

def objs_fnZero : Nat := 0x340000001c000000002000000000000000003000040000000001180a880000000000003e00208000015fb2000ae8020006606cb80128021ff3e4000000000000c7e02103c7e800200000000
def parts_fnZero : Nat := 0x80df9ffff9
theorem Moves.fnZero {p l mfn : Nat} (hM : Moves d₀ e₀ mo mp) (hO : Mask.le objs_fnZero mo) (hP : Mask.le parts_fnZero mp) :
    Moves d₀ (e₀.fnZero p l mfn) mo mp := by
  have O {a : Nat} (h : (a &&& objs_fnZero == a) = true) := Mask.le_trans h hO
  have P {a : Nat} (h : (a &&& parts_fnZero == a) = true) := Mask.le_trans h hP
  have B {k : Nat} (h : objs_fnZero.testBit k = true) := Mask.bit h hO
  have S {k : Nat} (h : parts_fnZero.testBit k = true) := Mask.bit h hP
  unfold Device.fnZero
  try simp only
  repeat' first
    | with_reducible exact hM
    | with_reducible exact Moves.refl ..
    | with_reducible refine Moves.set ?_ (B (by decide)) (by decide)
    | with_reducible refine Moves.setTether ?_ (O (by decide)) (P (by decide))
    | with_reducible refine Moves.leaveBundle ?_ (O (by decide)) (P (by decide))
    | with_reducible refine Moves.lhRefresh ?_ (O (by decide)) (P (by decide))
    | with_reducible refine Moves.ite (fun _ => ?_) (fun _ => ?_)
    | with_reducible refine Moves.ite1 (fun _ => ?_) (fun _ => ?_)
    | split
    | dsimp only

def objs_bundleFrame : Nat := 0x340000000000000000000000002b800000003000040000000001180a880000000000003e6c208d41411fc80000e8020006606cb80120021ff3e4000000000000c7e02103c7e800200000000
def parts_bundleFrame : Nat := 0x5d78ffff9
theorem Moves.bundleFrame {p l num oh : Nat} {area : Bytes} (hM : Moves d₀ e₀ mo mp) (hO : Mask.le objs_bundleFrame mo) (hP : Mask.le parts_bundleFrame mp) :
    Moves d₀ (e₀.bundleFrame p l num oh area) mo mp := by
  have O {a : Nat} (h : (a &&& objs_bundleFrame == a) = true) := Mask.le_trans h hO
  have P {a : Nat} (h : (a &&& parts_bundleFrame == a) = true) := Mask.le_trans h hP
  unfold Device.bundleFrame
  try simp only
  repeat' first
    | with_reducible exact hM
    | with_reducible exact Moves.refl ..
    | with_reducible refine Moves.setTether ?_ (O (by decide)) (P (by decide))
    | with_reducible refine Moves.causeTether ?_ (O (by decide)) (P (by decide))
    | with_reducible refine Moves.enterMf ?_ (O (by decide)) (P (by decide))
    | with_reducible refine Moves.readings ?_ (O (by decide)) (P (by decide))
    | with_reducible refine Moves.parityRx ?_ (O (by decide)) (P (by decide))
    | with_reducible refine Moves.modStripe ?_ (O (by decide)) (P (by decide))
    | with_reducible refine Moves.touchStripe ?_ (O (by decide)) (P (by decide))
    | with_reducible refine Moves.areaRx ?_ (O (by decide)) (P (by decide))
    | with_reducible refine Moves.ite (fun _ => ?_) (fun _ => ?_)
    | with_reducible refine Moves.ite1 (fun _ => ?_) (fun _ => ?_)
    | split
    | dsimp only

def objs_goodFrame : Nat := 0x340000001c00000000200000002b800000003000040000000001180a880000000000003e6c208d41417ffa021ae8020006606cb80128021ff3e4000000000000c7e02103c7e800200000000
def parts_goodFrame : Nat := 0x85ff9ffff9
theorem Moves.goodFrame {p l oh : Nat} {area : Bytes} (hM : Moves d₀ e₀ mo mp) (hO : Mask.le objs_goodFrame mo) (hP : Mask.le parts_goodFrame mp) :
    Moves d₀ (e₀.goodFrame p l oh area) mo mp := by
  have O {a : Nat} (h : (a &&& objs_goodFrame == a) = true) := Mask.le_trans h hO
  have P {a : Nat} (h : (a &&& parts_goodFrame == a) = true) := Mask.le_trans h hP
  unfold Device.goodFrame
  try simp only
  repeat' first
    | with_reducible exact hM
    | with_reducible exact Moves.refl ..
    | with_reducible refine Moves.setLink ?_ (O (by decide)) (P (by decide))
    | with_reducible refine Moves.bundleFrame ?_ (O (by decide)) (P (by decide))
    | with_reducible refine Moves.fnZero ?_ (O (by decide)) (P (by decide))
    | with_reducible refine Moves.advance ?_ (O (by decide)) (P (by decide))
    | with_reducible refine Moves.decideStripes ?_ (O (by decide)) (P (by decide))
    | with_reducible refine Moves.rdiRx ?_ (O (by decide)) (P (by decide))
    | with_reducible refine Moves.tsnNakRx ?_ (O (by decide)) (P (by decide))
    | with_reducible refine Moves.ackRx ?_ (O (by decide)) (P (by decide))
    | with_reducible refine Moves.ite (fun _ => ?_) (fun _ => ?_)
    | with_reducible refine Moves.ite1 (fun _ => ?_) (fun _ => ?_)
    | split
    | dsimp only

def objs_carrierRx : Nat := 0x340000001c00000000200000002b800000003000040000000001180a880000000000003e6c208d41417ffa0fdae8020006606cb80128021ff3e4000000000000c7e02103c7e800200000000
def parts_carrierRx : Nat := 0x85ff9ffff9
theorem Moves.carrierRx {p l : Nat} {cf : CarrierFrame} (hM : Moves d₀ e₀ mo mp) (hO : Mask.le objs_carrierRx mo) (hP : Mask.le parts_carrierRx mp) :
    Moves d₀ (e₀.carrierRx p l cf) mo mp := by
  have O {a : Nat} (h : (a &&& objs_carrierRx == a) = true) := Mask.le_trans h hO
  have P {a : Nat} (h : (a &&& parts_carrierRx == a) = true) := Mask.le_trans h hP
  have B {k : Nat} (h : objs_carrierRx.testBit k = true) := Mask.bit h hO
  have S {k : Nat} (h : parts_carrierRx.testBit k = true) := Mask.bit h hP
  unfold Device.carrierRx
  try simp only
  repeat' first
    | with_reducible exact hM
    | with_reducible exact Moves.refl ..
    | with_reducible refine Moves.bump ?_ (B (by decide)) (by decide) (S (by decide))
    | with_reducible refine Moves.setLink ?_ (O (by decide)) (P (by decide))
    | with_reducible refine Moves.causeTether ?_ (O (by decide)) (P (by decide))
    | with_reducible refine Moves.goodFrame ?_ (O (by decide)) (P (by decide))
    | with_reducible refine Moves.badFrame ?_ (O (by decide)) (P (by decide))
    | with_reducible refine Moves.lhRefresh ?_ (O (by decide)) (P (by decide))
    | with_reducible refine Moves.ite (fun _ => ?_) (fun _ => ?_)
    | with_reducible refine Moves.ite1 (fun _ => ?_) (fun _ => ?_)
    | split
    | dsimp only

def objs_apsFollow : Nat := 0x0
def parts_apsFollow : Nat := 0x40000000
theorem Moves.apsFollow {p : Nat} (hM : Moves d₀ e₀ mo mp) (hO : Mask.le objs_apsFollow mo) (hP : Mask.le parts_apsFollow mp) :
    Moves d₀ (e₀.apsFollow p) mo mp := by
  have O {a : Nat} (h : (a &&& objs_apsFollow == a) = true) := Mask.le_trans h hO
  have P {a : Nat} (h : (a &&& parts_apsFollow == a) = true) := Mask.le_trans h hP
  unfold Device.apsFollow
  try simp only
  repeat' first
    | with_reducible exact hM
    | with_reducible exact Moves.refl ..
    | with_reducible refine Moves.setTether ?_ (O (by decide)) (P (by decide))
    | with_reducible refine Moves.foldl ?_ (fun d a => ?_)
    | with_reducible refine Moves.ite (fun _ => ?_) (fun _ => ?_)
    | with_reducible refine Moves.ite1 (fun _ => ?_) (fun _ => ?_)
    | split
    | dsimp only

def objs_apsConfirm : Nat := 0x0
def parts_apsConfirm : Nat := 0x40000000
theorem Moves.apsConfirm {p c : Nat} (hM : Moves d₀ e₀ mo mp) (hO : Mask.le objs_apsConfirm mo) (hP : Mask.le parts_apsConfirm mp) :
    Moves d₀ (e₀.apsConfirm p c) mo mp := by
  have O {a : Nat} (h : (a &&& objs_apsConfirm == a) = true) := Mask.le_trans h hO
  have P {a : Nat} (h : (a &&& parts_apsConfirm == a) = true) := Mask.le_trans h hP
  unfold Device.apsConfirm
  try simp only
  repeat' first
    | with_reducible exact hM
    | with_reducible exact Moves.refl ..
    | with_reducible refine Moves.setTether ?_ (O (by decide)) (P (by decide))
    | dsimp only

def objs_apsConditions : Nat := 0x0
def parts_apsConditions : Nat := 0x40000000
theorem Moves.apsConditions {p : Nat} (hM : Moves d₀ e₀ mo mp) (hO : Mask.le objs_apsConditions mo) (hP : Mask.le parts_apsConditions mp) :
    Moves d₀ (e₀.apsConditions p) mo mp := by
  have O {a : Nat} (h : (a &&& objs_apsConditions == a) = true) := Mask.le_trans h hO
  have P {a : Nat} (h : (a &&& parts_apsConditions == a) = true) := Mask.le_trans h hP
  unfold Device.apsConditions
  try simp only
  repeat' first
    | with_reducible exact hM
    | with_reducible exact Moves.refl ..
    | with_reducible refine Moves.apsConfirm ?_ (O (by decide)) (P (by decide))
    | with_reducible refine Moves.apsFollow ?_ (O (by decide)) (P (by decide))
    | with_reducible refine Moves.foldl ?_ (fun d a => ?_)
    | with_reducible refine Moves.ite (fun _ => ?_) (fun _ => ?_)
    | with_reducible refine Moves.ite1 (fun _ => ?_) (fun _ => ?_)
    | split
    | dsimp only

def objs_holdoffRun : Nat := 0x0
def parts_holdoffRun : Nat := 0x40000000
theorem Moves.holdoffRun {p g : Nat} (hM : Moves d₀ e₀ mo mp) (hO : Mask.le objs_holdoffRun mo) (hP : Mask.le parts_holdoffRun mp) :
    Moves d₀ (e₀.holdoffRun p g) mo mp := by
  have O {a : Nat} (h : (a &&& objs_holdoffRun == a) = true) := Mask.le_trans h hO
  have P {a : Nat} (h : (a &&& parts_holdoffRun == a) = true) := Mask.le_trans h hP
  unfold Device.holdoffRun
  try simp only
  repeat' first
    | with_reducible exact hM
    | with_reducible exact Moves.refl ..
    | with_reducible refine Moves.apsConfirm ?_ (O (by decide)) (P (by decide))
    | with_reducible refine Moves.apsFollow ?_ (O (by decide)) (P (by decide))
    | split
    | dsimp only

def objs_apsBoundary : Nat := 0x2a2000000000000000000000000000000000000000000000000000000000000000000000
def parts_apsBoundary : Nat := 0x40000001
theorem Moves.apsBoundary {p : Nat} (hM : Moves d₀ e₀ mo mp) (hO : Mask.le objs_apsBoundary mo) (hP : Mask.le parts_apsBoundary mp) :
    Moves d₀ (e₀.apsBoundary p) mo mp := by
  have O {a : Nat} (h : (a &&& objs_apsBoundary == a) = true) := Mask.le_trans h hO
  have P {a : Nat} (h : (a &&& parts_apsBoundary == a) = true) := Mask.le_trans h hP
  have B {k : Nat} (h : objs_apsBoundary.testBit k = true) := Mask.bit h hO
  have S {k : Nat} (h : parts_apsBoundary.testBit k = true) := Mask.bit h hP
  unfold Device.apsBoundary
  try simp only
  repeat' first
    | with_reducible exact hM
    | with_reducible exact Moves.refl ..
    | with_reducible refine Moves.set ?_ (B (by decide)) (by decide)
    | with_reducible refine Moves.bump ?_ (B (by decide)) (by decide) (S (by decide))
    | with_reducible refine Moves.setTether ?_ (O (by decide)) (P (by decide))
    | with_reducible refine Moves.apsConditions ?_ (O (by decide)) (P (by decide))
    | with_reducible refine Moves.ite (fun _ => ?_) (fun _ => ?_)
    | with_reducible refine Moves.ite1 (fun _ => ?_) (fun _ => ?_)
    | split
    | dsimp only

def objs_joinLinks : Nat := 0x200020000000000000000000000000000000000000000000000000000000000000
def parts_joinLinks : Nat := 0x8180000
theorem Moves.joinLinks {p : Nat} (hM : Moves d₀ e₀ mo mp) (hO : Mask.le objs_joinLinks mo) (hP : Mask.le parts_joinLinks mp) :
    Moves d₀ (e₀.joinLinks p) mo mp := by
  have O {a : Nat} (h : (a &&& objs_joinLinks == a) = true) := Mask.le_trans h hO
  have P {a : Nat} (h : (a &&& parts_joinLinks == a) = true) := Mask.le_trans h hP
  have B {k : Nat} (h : objs_joinLinks.testBit k = true) := Mask.bit h hO
  have S {k : Nat} (h : parts_joinLinks.testBit k = true) := Mask.bit h hP
  unfold Device.joinLinks
  try simp only
  repeat' first
    | with_reducible exact hM
    | with_reducible exact Moves.refl ..
    | with_reducible refine Moves.set ?_ (B (by decide)) (by decide)
    | with_reducible refine Moves.lhRefresh ?_ (O (by decide)) (P (by decide))
    | with_reducible refine Moves.chanClear ?_ (O (by decide)) (P (by decide))
    | with_reducible refine Moves.foldl ?_ (fun d a => ?_)
    | with_reducible refine Moves.ite (fun _ => ?_) (fun _ => ?_)
    | with_reducible refine Moves.ite1 (fun _ => ?_) (fun _ => ?_)
    | split
    | dsimp only

def objs_txPageBoundary : Nat := 0x54000000000000000000000000000000000000000000000000000000000000000000000000
def parts_txPageBoundary : Nat := 0x40000000
theorem Moves.txPageBoundary {p : Nat} (hM : Moves d₀ e₀ mo mp) (hO : Mask.le objs_txPageBoundary mo) (hP : Mask.le parts_txPageBoundary mp) :
    Moves d₀ (e₀.txPageBoundary p) mo mp := by
  have O {a : Nat} (h : (a &&& objs_txPageBoundary == a) = true) := Mask.le_trans h hO
  have P {a : Nat} (h : (a &&& parts_txPageBoundary == a) = true) := Mask.le_trans h hP
  have B {k : Nat} (h : objs_txPageBoundary.testBit k = true) := Mask.bit h hO
  have S {k : Nat} (h : parts_txPageBoundary.testBit k = true) := Mask.bit h hP
  unfold Device.txPageBoundary
  try simp only
  repeat' first
    | with_reducible exact hM
    | with_reducible exact Moves.refl ..
    | with_reducible refine Moves.set ?_ (B (by first | decide | (split <;> decide) | (cases m <;> decide))) (by first | decide | (split <;> decide) | (cases m <;> decide))
    | with_reducible refine Moves.copyPage ?_ (B (by first | decide | (split <;> decide) | (cases m <;> decide))) (by decide)
    | with_reducible refine Moves.setTether ?_ (O (by decide)) (P (by decide))
    | with_reducible refine Moves.ite (fun _ => ?_) (fun _ => ?_)
    | with_reducible refine Moves.ite1 (fun _ => ?_) (fun _ => ?_)
    | split
    | dsimp only

def objs_mfBoundary : Nat := 0x340000000000000000000000002b800000000000000000000000000000000000000000006a000542a2000600020000000000000000000000000000000000000000000000000000000000000
def parts_mfBoundary : Nat := 0x5681802a1
theorem Moves.mfBoundary {p : Nat} (hM : Moves d₀ e₀ mo mp) (hO : Mask.le objs_mfBoundary mo) (hP : Mask.le parts_mfBoundary mp) :
    Moves d₀ (e₀.mfBoundary p) mo mp := by
  have O {a : Nat} (h : (a &&& objs_mfBoundary == a) = true) := Mask.le_trans h hO
  have P {a : Nat} (h : (a &&& parts_mfBoundary == a) = true) := Mask.le_trans h hP
  have B {k : Nat} (h : objs_mfBoundary.testBit k = true) := Mask.bit h hO
  have S {k : Nat} (h : parts_mfBoundary.testBit k = true) := Mask.bit h hP
  unfold Device.mfBoundary
  try simp only
  repeat' first
    | with_reducible exact hM
    | with_reducible exact Moves.refl ..
    | with_reducible refine Moves.set ?_ (B (by decide)) (by decide)
    | with_reducible refine Moves.setLink ?_ (O (by decide)) (P (by decide))
    | with_reducible refine Moves.setTether ?_ (O (by decide)) (P (by decide))
    | with_reducible refine Moves.txPageBoundary ?_ (O (by decide)) (P (by decide))
    | with_reducible refine Moves.joinLinks ?_ (O (by decide)) (P (by decide))
    | with_reducible refine Moves.apsBoundary ?_ (O (by decide)) (P (by decide))
    | with_reducible refine Moves.keyBoundary ?_ (O (by decide)) (P (by decide))
    | with_reducible refine Moves.foldl ?_ (fun d a => ?_)
    | with_reducible refine Moves.ite (fun _ => ?_) (fun _ => ?_)
    | with_reducible refine Moves.ite1 (fun _ => ?_) (fun _ => ?_)
    | split
    | dsimp only

def objs_gapLost : Nat := 0x3400000000000000000000000000000000003000040000000001180a880000000000003e002880000180000000e8020006606cb80120021ff3e4000000000000c7e02103c7e800200000000
def parts_gapLost : Nat := 0xd78ffff9
theorem Moves.gapLost {p t : Nat} {g : Gap} (hM : Moves d₀ e₀ mo mp) (hO : Mask.le objs_gapLost mo) (hP : Mask.le parts_gapLost mp) :
    Moves d₀ (e₀.gapLost p t g) mo mp := by
  have O {a : Nat} (h : (a &&& objs_gapLost == a) = true) := Mask.le_trans h hO
  have P {a : Nat} (h : (a &&& parts_gapLost == a) = true) := Mask.le_trans h hP
  have B {k : Nat} (h : objs_gapLost.testBit k = true) := Mask.bit h hO
  have S {k : Nat} (h : parts_gapLost.testBit k = true) := Mask.bit h hP
  unfold Device.gapLost
  try simp only
  repeat' first
    | with_reducible exact hM
    | with_reducible exact Moves.refl ..
    | with_reducible refine Moves.set ?_ (B (by decide)) (by decide)
    | with_reducible refine Moves.count ?_ (B (by decide)) (by decide) (S (by decide))
    | with_reducible refine Moves.fresh ?_ (O (by decide)) (P (by decide))
    | with_reducible refine Moves.setTrib ?_ (O (by decide)) (P (by decide))
    | with_reducible refine Moves.causeTether ?_ (O (by decide)) (P (by decide))
    | with_reducible refine Moves.settleTrib ?_ (O (by decide)) (P (by decide))
    | with_reducible refine Moves.queueAck ?_ (O (by decide)) (P (by decide))
    | with_reducible refine Moves.trimRx ?_ (O (by decide)) (P (by decide))
    | split
    | dsimp only

def objs_gapDue : Nat := 0x3400000000000000000000000000000000003000040000000001180a880000000000003e0028800001c0000000e8020006606cb80120021ff3e4000000000000c7e02103c7e800200000000
def parts_gapDue : Nat := 0xd78ffff9
theorem Moves.gapDue {p t : Nat} {g : Gap} (hM : Moves d₀ e₀ mo mp) (hO : Mask.le objs_gapDue mo) (hP : Mask.le parts_gapDue mp) :
    Moves d₀ (e₀.gapDue p t g) mo mp := by
  have O {a : Nat} (h : (a &&& objs_gapDue == a) = true) := Mask.le_trans h hO
  have P {a : Nat} (h : (a &&& parts_gapDue == a) = true) := Mask.le_trans h hP
  have B {k : Nat} (h : objs_gapDue.testBit k = true) := Mask.bit h hO
  have S {k : Nat} (h : parts_gapDue.testBit k = true) := Mask.bit h hP
  unfold Device.gapDue
  try simp only
  repeat' first
    | with_reducible exact hM
    | with_reducible exact Moves.refl ..
    | with_reducible refine Moves.count ?_ (B (by decide)) (by decide) (S (by decide))
    | with_reducible refine Moves.setTrib ?_ (O (by decide)) (P (by decide))
    | with_reducible refine Moves.gapLost ?_ (O (by decide)) (P (by decide))
    | with_reducible refine Moves.queueNak ?_ (O (by decide)) (P (by decide))
    | with_reducible refine Moves.ite (fun _ => ?_) (fun _ => ?_)
    | with_reducible refine Moves.ite1 (fun _ => ?_) (fun _ => ?_)
    | split
    | dsimp only

def objs_renak : Nat := 0x3400000000000000000000000000000000003000040000000001180a880000000000003e0028800001c0000000e8020006606cb80120021ff3e4000000000000c7e02103c7e800200000000
def parts_renak : Nat := 0xd78ffff9
theorem Moves.renak {p t : Nat} (hM : Moves d₀ e₀ mo mp) (hO : Mask.le objs_renak mo) (hP : Mask.le parts_renak mp) :
    Moves d₀ (e₀.renak p t) mo mp := by
  have O {a : Nat} (h : (a &&& objs_renak == a) = true) := Mask.le_trans h hO
  have P {a : Nat} (h : (a &&& parts_renak == a) = true) := Mask.le_trans h hP
  unfold Device.renak
  try simp only
  repeat' first
    | with_reducible exact hM
    | with_reducible exact Moves.refl ..
    | with_reducible refine Moves.gapDue ?_ (O (by decide)) (P (by decide))
    | with_reducible refine Moves.foldl ?_ (fun d a => ?_)
    | split
    | dsimp only

def objs_retxTimeout : Nat := 0x0
def parts_retxTimeout : Nat := 0x80000000
theorem Moves.retxTimeout {p t : Nat} (hM : Moves d₀ e₀ mo mp) (hO : Mask.le objs_retxTimeout mo) (hP : Mask.le parts_retxTimeout mp) :
    Moves d₀ (e₀.retxTimeout p t) mo mp := by
  have O {a : Nat} (h : (a &&& objs_retxTimeout == a) = true) := Mask.le_trans h hO
  have P {a : Nat} (h : (a &&& parts_retxTimeout == a) = true) := Mask.le_trans h hP
  unfold Device.retxTimeout
  try simp only
  repeat' first
    | with_reducible exact hM
    | with_reducible exact Moves.refl ..
    | with_reducible refine Moves.setTrib ?_ (O (by decide)) (P (by decide))
    | with_reducible refine Moves.ite (fun _ => ?_) (fun _ => ?_)
    | with_reducible refine Moves.ite1 (fun _ => ?_) (fun _ => ?_)
    | split
    | dsimp only

def objs_tribDescWrite : Nat := 0x340000000000000000000000002b800000000000000000000000000000000000000000000000e00000020000000000000000000000000000000000000000000000c00000000000000000000
def parts_tribDescWrite : Nat := 0xc00c02a9
theorem Moves.tribDescWrite {p t v : Nat} (hM : Moves d₀ e₀ mo mp) (hO : Mask.le objs_tribDescWrite mo) (hP : Mask.le parts_tribDescWrite mp) :
    Moves d₀ (e₀.tribDescWrite p t v).1 mo mp := by
  have O {a : Nat} (h : (a &&& objs_tribDescWrite == a) = true) := Mask.le_trans h hO
  have P {a : Nat} (h : (a &&& parts_tribDescWrite == a) = true) := Mask.le_trans h hP
  have B {k : Nat} (h : objs_tribDescWrite.testBit k = true) := Mask.bit h hO
  have S {k : Nat} (h : parts_tribDescWrite.testBit k = true) := Mask.bit h hP
  unfold Device.tribDescWrite
  try simp only
  repeat' first
    | with_reducible exact hM
    | with_reducible exact Moves.refl ..
    | with_reducible refine Moves.set ?_ (B (by decide)) (by decide)
    | with_reducible refine Moves.count ?_ (B (by decide)) (by decide) (S (by decide))
    | with_reducible refine Moves.store ?_ (B (by decide)) (by decide) (O (by decide)) (P (by decide))
    | with_reducible refine Moves.setTether ?_ (O (by decide)) (P (by decide))
    | with_reducible refine Moves.setTrib ?_ (O (by decide)) (P (by decide))
    | with_reducible refine Moves.causeTether ?_ (O (by decide)) (P (by decide))
    | with_reducible refine Moves.begun ?_ (O (by decide)) (P (by decide))
    | with_reducible refine Moves.freeAll ?_ (O (by decide)) (P (by decide))
    | with_reducible refine Moves.ite (fun _ => ?_) (fun _ => ?_)
    | with_reducible refine Moves.ite1 (fun _ => ?_) (fun _ => ?_)
    | split
    | dsimp only

def objs_tsiCommit : Nat := 0x40000000000000000000000000000000000000000000000000000000000000000000000000
def parts_tsiCommit : Nat := 0x40000000
theorem Moves.tsiCommit {p dir : Nat} (hM : Moves d₀ e₀ mo mp) (hO : Mask.le objs_tsiCommit mo) (hP : Mask.le parts_tsiCommit mp) :
    Moves d₀ (e₀.tsiCommit p dir) mo mp := by
  have O {a : Nat} (h : (a &&& objs_tsiCommit == a) = true) := Mask.le_trans h hO
  have P {a : Nat} (h : (a &&& parts_tsiCommit == a) = true) := Mask.le_trans h hP
  have B {k : Nat} (h : objs_tsiCommit.testBit k = true) := Mask.bit h hO
  have S {k : Nat} (h : parts_tsiCommit.testBit k = true) := Mask.bit h hP
  unfold Device.tsiCommit
  try simp only
  repeat' first
    | with_reducible exact hM
    | with_reducible exact Moves.refl ..
    | with_reducible refine Moves.set ?_ (B (by first | decide | (split <;> decide) | (cases m <;> decide))) (by first | decide | (split <;> decide) | (cases m <;> decide))
    | with_reducible refine Moves.setTether ?_ (O (by decide)) (P (by decide))
    | with_reducible refine Moves.ite (fun _ => ?_) (fun _ => ?_)
    | with_reducible refine Moves.ite1 (fun _ => ?_) (fun _ => ?_)
    | split
    | dsimp only

def objs_lhAdminWrite : Nat := 0x340000001c00000000200000002b800000003000040000000001180a880000000000003e00208000015fb20003e8020006606cb80128021ff3e4000000000000c7e02103c7e800200000000
def parts_lhAdminWrite : Nat := 0x80ff9ffff9
theorem Moves.lhAdminWrite {p l v : Nat} (hM : Moves d₀ e₀ mo mp) (hO : Mask.le objs_lhAdminWrite mo) (hP : Mask.le parts_lhAdminWrite mp) :
    Moves d₀ (e₀.lhAdminWrite p l v).1 mo mp := by
  have O {a : Nat} (h : (a &&& objs_lhAdminWrite == a) = true) := Mask.le_trans h hO
  have P {a : Nat} (h : (a &&& parts_lhAdminWrite == a) = true) := Mask.le_trans h hP
  have B {k : Nat} (h : objs_lhAdminWrite.testBit k = true) := Mask.bit h hO
  unfold Device.lhAdminWrite
  try simp only
  repeat' first
    | with_reducible exact hM
    | with_reducible exact Moves.refl ..
    | with_reducible refine Moves.store ?_ (B (by decide)) (by decide) (O (by decide)) (P (by decide))
    | with_reducible refine Moves.goOof ?_ (O (by decide)) (P (by decide))
    | with_reducible refine Moves.lhRefresh ?_ (O (by decide)) (P (by decide))
    | with_reducible refine Moves.ite (fun _ => ?_) (fun _ => ?_)
    | with_reducible refine Moves.ite1 (fun _ => ?_) (fun _ => ?_)
    | split
    | dsimp only

def objs_tsiCommitWrite : Nat := 0x3400000000000000000000000000000580000000000000000000000000000000000000000000040000000000000000000000000000000000000000000000000000000000000000000000000
def parts_tsiCommitWrite : Nat := 0x80000000400002a1
theorem Moves.tsiCommitWrite {p : Nat} {rq : Req} (hM : Moves d₀ e₀ mo mp) (hO : Mask.le objs_tsiCommitWrite mo) (hP : Mask.le parts_tsiCommitWrite mp) :
    Moves d₀ (e₀.tsiCommitWrite p rq) mo mp := by
  have O {a : Nat} (h : (a &&& objs_tsiCommitWrite == a) = true) := Mask.le_trans h hO
  have P {a : Nat} (h : (a &&& parts_tsiCommitWrite == a) = true) := Mask.le_trans h hP
  unfold Device.tsiCommitWrite
  try simp only
  repeat' first
    | with_reducible exact hM
    | with_reducible exact Moves.refl ..
    | with_reducible refine Moves.command ?_ (fun d => ?_) (O (by decide)) (P (by decide))
    | with_reducible refine Moves.commandNow ?_ (fun d => ?_) (O (by decide)) (P (by decide))
    | with_reducible refine Moves.tsiCommit ?_ (O (by decide)) (P (by decide))
    | with_reducible refine Moves.ite (fun _ => ?_) (fun _ => ?_)
    | with_reducible refine Moves.ite1 (fun _ => ?_) (fun _ => ?_)
    | split
    | dsimp only


end Sys2Proof.Machine
end

