-- ==== Sys2Proof/Laws/MovesSched.lean ====
section
/-! SUPPORT. What the operations of scheduling, optics, health and time can change: one lemma each. -/

namespace Sys2Proof.Machine

set_option linter.unusedSimpArgs false
set_option linter.unreachableTactic false
set_option linter.unusedTactic false
set_option linter.unusedVariables false
set_option linter.unnecessarySeqFocus false

variable {d₀ e₀ : Device} {mo mp : Nat}

def objs_sendWindow : Nat := 0xc00000
def parts_sendWindow : Nat := 0x1421
theorem Moves.sendWindow {p n id : Nat} {fr : FrameRec} (hM : Moves d₀ e₀ mo mp) (hO : Mask.le objs_sendWindow mo) (hP : Mask.le parts_sendWindow mp) :
    Moves d₀ (e₀.sendWindow p n id fr) mo mp := by
  have O {a : Nat} (h : (a &&& objs_sendWindow == a) = true) := Mask.le_trans h hO
  have P {a : Nat} (h : (a &&& parts_sendWindow == a) = true) := Mask.le_trans h hP
  have B {k : Nat} (h : objs_sendWindow.testBit k = true) := Mask.bit h hO
  have S {k : Nat} (h : parts_sendWindow.testBit k = true) := Mask.bit h hP
  unfold Device.sendWindow
  try simp only
  repeat' first
    | with_reducible exact hM
    | with_reducible exact Moves.refl ..
    | with_reducible refine Moves.bump ?_ (B (by decide)) (by decide) (S (by decide))
    | with_reducible refine Moves.count ?_ (B (by decide)) (by decide) (S (by decide))
    | with_reducible refine Moves.emit ?_ (O (by decide)) (P (by decide))
    | with_reducible refine Moves.setPort ?_ (O (by decide)) (P (by decide))
    | with_reducible refine Moves.setCopy ?_ (O (by decide)) (P (by decide))
    | split
    | dsimp only

def objs_syncLists : Nat := 0x0
def parts_syncLists : Nat := 0x180000
theorem Moves.syncLists {p o : Nat} {sent : Bool} (hM : Moves d₀ e₀ mo mp) (hO : Mask.le objs_syncLists mo) (hP : Mask.le parts_syncLists mp) :
    Moves d₀ (e₀.syncLists p o sent) mo mp := by
  have O {a : Nat} (h : (a &&& objs_syncLists == a) = true) := Mask.le_trans h hO
  have P {a : Nat} (h : (a &&& parts_syncLists == a) = true) := Mask.le_trans h hP
  unfold Device.syncLists
  extract_lets heads
  refine hM.foldl (fun d c => ?_)
  extract_lets b s old gone fresh lists turns d1 d2
  have h1 : Moves d d1 mo mp := (Moves.refl ..).setOutp (O (by decide)) (P (by decide))
  clear_value d1
  have h2 : Moves d d2 mo mp := by
    refine h1.foldl (fun d a => ?_)
    extract_lets e
    exact ((Moves.refl ..).updateCredit (O (by decide)) (P (by decide))).setTq (O (by decide)) (P (by decide))
  clear_value d2
  split
  · exact Moves.refl ..
  · exact h2.foldl (fun d a => (Moves.refl ..).wakeQueue (O (by decide)) (P (by decide)))

def objs_passOver : Nat := 0x0
def parts_passOver : Nat := 0x80000
theorem Moves.passOver {p o t : Nat} (hM : Moves d₀ e₀ mo mp) (hO : Mask.le objs_passOver mo) (hP : Mask.le parts_passOver mp) :
    Moves d₀ (e₀.passOver p o t) mo mp := by
  have O {a : Nat} (h : (a &&& objs_passOver == a) = true) := Mask.le_trans h hO
  have P {a : Nat} (h : (a &&& parts_passOver == a) = true) := Mask.le_trans h hP
  unfold Device.passOver
  try simp only
  repeat' first
    | with_reducible exact hM
    | with_reducible exact Moves.refl ..
    | with_reducible refine Moves.setOutp ?_ (O (by decide)) (P (by decide))
    | with_reducible refine Moves.ite (fun _ => ?_) (fun _ => ?_)
    | with_reducible refine Moves.ite1 (fun _ => ?_) (fun _ => ?_)
    | split
    | dsimp only

def objs_sendHead : Nat := 0x3400000000000000000000000000000000000000000000000001180a880000000000000000000000000200000000000000000000000000000000000000000000c7e00000000000000c00000
def parts_sendHead : Nat := 0x905c1fa9
theorem Moves.sendHead {p o : Nat} {x : Nat × Copy × FrameRec} (hM : Moves d₀ e₀ mo mp) (hO : Mask.le objs_sendHead mo) (hP : Mask.le parts_sendHead mp) :
    Moves d₀ (e₀.sendHead p o x).1 mo mp := by
  have O {a : Nat} (h : (a &&& objs_sendHead == a) = true) := Mask.le_trans h hO
  have P {a : Nat} (h : (a &&& parts_sendHead == a) = true) := Mask.le_trans h hP
  unfold Device.sendHead
  try simp only
  repeat' first
    | with_reducible exact hM
    | with_reducible exact Moves.refl ..
    | with_reducible refine Moves.setTq ?_ (O (by decide)) (P (by decide))
    | with_reducible refine Moves.passOver ?_ (O (by decide)) (P (by decide))
    | with_reducible refine Moves.sendWindow ?_ (O (by decide)) (P (by decide))
    | with_reducible refine Moves.placeTrib ?_ (O (by decide)) (P (by decide))
    | with_reducible refine Moves.readCopy ?_ (O (by decide)) (P (by decide))
    | with_reducible refine Moves.transmit ?_ (O (by decide)) (P (by decide))
    | with_reducible refine Moves.release ?_ (O (by decide)) (P (by decide))
    | with_reducible refine Moves.ite (fun _ => ?_) (fun _ => ?_)
    | with_reducible refine Moves.ite1 (fun _ => ?_) (fun _ => ?_)
    | split
    | dsimp only

def objs_endTurns : Nat := 0x0
def parts_endTurns : Nat := 0x80000
theorem Moves.endTurns {p o : Nat} {heads : List (Nat × Copy × FrameRec)} (hM : Moves d₀ e₀ mo mp) (hO : Mask.le objs_endTurns mo) (hP : Mask.le parts_endTurns mp) :
    Moves d₀ (e₀.endTurns p o heads) mo mp := by
  have O {a : Nat} (h : (a &&& objs_endTurns == a) = true) := Mask.le_trans h hO
  have P {a : Nat} (h : (a &&& parts_endTurns == a) = true) := Mask.le_trans h hP
  unfold Device.endTurns
  try simp only
  repeat' first
    | with_reducible exact hM
    | with_reducible exact Moves.refl ..
    | with_reducible refine Moves.toTail ?_ (O (by decide)) (P (by decide))
    | with_reducible refine Moves.foldl ?_ (fun d a => ?_)
    | with_reducible refine Moves.ite (fun _ => ?_) (fun _ => ?_)
    | with_reducible refine Moves.ite1 (fun _ => ?_) (fun _ => ?_)
    | split
    | dsimp only

def objs_drrSend : Nat := 0x3400000000000000000000000000000000000000000000000001180a880000000000000000000000000200000000000000000000000000000000000000000000c7e00000000000000c00000
def parts_drrSend : Nat := 0x905c1fa9
theorem Moves.drrSend {p o c : Nat} {heads : List (Nat × Copy × FrameRec)} (hM : Moves d₀ e₀ mo mp) (hO : Mask.le objs_drrSend mo) (hP : Mask.le parts_drrSend mp) :
    Moves d₀ (e₀.drrSend p o c heads) mo mp := by
  have O {a : Nat} (h : (a &&& objs_drrSend == a) = true) := Mask.le_trans h hO
  have P {a : Nat} (h : (a &&& parts_drrSend == a) = true) := Mask.le_trans h hP
  unfold Device.drrSend
  try simp only
  repeat' first
    | with_reducible exact hM
    | with_reducible exact Moves.refl ..
    | with_reducible refine Moves.setOutp ?_ (O (by decide)) (P (by decide))
    | with_reducible refine Moves.setTq ?_ (O (by decide)) (P (by decide))
    | with_reducible refine Moves.sendHead ?_ (O (by decide)) (P (by decide))
    | with_reducible refine Moves.ite (fun _ => ?_) (fun _ => ?_)
    | with_reducible refine Moves.ite1 (fun _ => ?_) (fun _ => ?_)
    | split
    | dsimp only

def objs_promoSend : Nat := 0x3400000000000000000000000000000000000000000000000001180a880000000000000000000000000200000000000000000000000000000000000000000000c7e00000000000000c00000
def parts_promoSend : Nat := 0x905c1fa9
theorem Moves.promoSend {p o c t a : Nat} {heads : List (Nat × Copy × FrameRec)} (hM : Moves d₀ e₀ mo mp) (hO : Mask.le objs_promoSend mo) (hP : Mask.le parts_promoSend mp) :
    Moves d₀ (e₀.promoSend p o c t a heads) mo mp := by
  have O {a : Nat} (h : (a &&& objs_promoSend == a) = true) := Mask.le_trans h hO
  have P {a : Nat} (h : (a &&& parts_promoSend == a) = true) := Mask.le_trans h hP
  unfold Device.promoSend
  try simp only
  repeat' first
    | with_reducible exact hM
    | with_reducible exact Moves.refl ..
    | with_reducible refine Moves.setOutp ?_ (O (by decide)) (P (by decide))
    | with_reducible refine Moves.sendHead ?_ (O (by decide)) (P (by decide))
    | with_reducible refine Moves.ite (fun _ => ?_) (fun _ => ?_)
    | with_reducible refine Moves.ite1 (fun _ => ?_) (fun _ => ?_)
    | split
    | dsimp only

def objs_serveHold : Nat := 0x0
def parts_serveHold : Nat := 0x80000
theorem Moves.serveHold {p o kind : Nat} (hM : Moves d₀ e₀ mo mp) (hO : Mask.le objs_serveHold mo) (hP : Mask.le parts_serveHold mp) :
    Moves d₀ (e₀.serveHold p o kind) mo mp := by
  have O {a : Nat} (h : (a &&& objs_serveHold == a) = true) := Mask.le_trans h hO
  have P {a : Nat} (h : (a &&& parts_serveHold == a) = true) := Mask.le_trans h hP
  unfold Device.serveHold
  try simp only
  repeat' first
    | with_reducible exact hM
    | with_reducible exact Moves.refl ..
    | with_reducible refine Moves.setOutp ?_ (O (by decide)) (P (by decide))
    | with_reducible refine Moves.ite (fun _ => ?_) (fun _ => ?_)
    | with_reducible refine Moves.ite1 (fun _ => ?_) (fun _ => ?_)
    | split
    | dsimp only

def objs_classHigh : Nat := 0x6000000000000000000000000000000000
def parts_classHigh : Nat := 0x0
theorem Moves.classHigh {p o : Nat} {heads : List (Nat × Copy × FrameRec)} (hM : Moves d₀ e₀ mo mp) (hO : Mask.le objs_classHigh mo) (hP : Mask.le parts_classHigh mp) :
    Moves d₀ (e₀.classHigh p o heads) mo mp := by
  have O {a : Nat} (h : (a &&& objs_classHigh == a) = true) := Mask.le_trans h hO
  have P {a : Nat} (h : (a &&& parts_classHigh == a) = true) := Mask.le_trans h hP
  have B {k : Nat} (h : objs_classHigh.testBit k = true) := Mask.bit h hO
  have S {k : Nat} (h : parts_classHigh.testBit k = true) := Mask.bit h hP
  unfold Device.classHigh
  try simp only
  repeat' first
    | with_reducible exact hM
    | with_reducible exact Moves.refl ..
    | with_reducible refine Moves.set ?_ (B (by decide)) (by decide)
    | with_reducible refine Moves.foldl ?_ (fun d a => ?_)
    | with_reducible refine Moves.ite (fun _ => ?_) (fun _ => ?_)
    | with_reducible refine Moves.ite1 (fun _ => ?_) (fun _ => ?_)
    | split
    | dsimp only

def objs_waitClocks : Nat := 0x0
def parts_waitClocks : Nat := 0x100000
theorem Moves.waitClocks {p o : Nat} {heads : List (Nat × Copy × FrameRec)} (hM : Moves d₀ e₀ mo mp) (hO : Mask.le objs_waitClocks mo) (hP : Mask.le parts_waitClocks mp) :
    Moves d₀ (e₀.waitClocks p o heads) mo mp := by
  have O {a : Nat} (h : (a &&& objs_waitClocks == a) = true) := Mask.le_trans h hO
  have P {a : Nat} (h : (a &&& parts_waitClocks == a) = true) := Mask.le_trans h hP
  unfold Device.waitClocks
  try simp only
  repeat' first
    | with_reducible exact hM
    | with_reducible exact Moves.refl ..
    | with_reducible refine Moves.setTq ?_ (O (by decide)) (P (by decide))
    | with_reducible refine Moves.foldl ?_ (fun d a => ?_)
    | split
    | dsimp only

def objs_refresh : Nat := 0x0
def parts_refresh : Nat := 0x180000
theorem Moves.refresh {p o : Nat} (hM : Moves d₀ e₀ mo mp) (hO : Mask.le objs_refresh mo) (hP : Mask.le parts_refresh mp) :
    Moves d₀ (e₀.refresh p o) mo mp := by
  have O {a : Nat} (h : (a &&& objs_refresh == a) = true) := Mask.le_trans h hO
  have P {a : Nat} (h : (a &&& parts_refresh == a) = true) := Mask.le_trans h hP
  unfold Device.refresh
  try simp only
  repeat' first
    | with_reducible exact hM
    | with_reducible exact Moves.refl ..
    | with_reducible refine Moves.waitClocks ?_ (O (by decide)) (P (by decide))
    | with_reducible refine Moves.syncLists ?_ (O (by decide)) (P (by decide))
    | with_reducible refine Moves.svcUpdate ?_ (O (by decide)) (P (by decide))
    | with_reducible refine Moves.creditTick ?_ (O (by decide)) (P (by decide))
    | dsimp only

def objs_spoolTurn : Nat := 0x34000000000000000000000000000000000000000000000000000000000000000000000000000000000200000000000000000000000000000000000000000000c7e00000000000000000000
def parts_spoolTurn : Nat := 0x800c03a9
theorem Moves.spoolTurn {p o : Nat} {heads : List (Nat × Copy × FrameRec)} (hM : Moves d₀ e₀ mo mp) (hO : Mask.le objs_spoolTurn mo) (hP : Mask.le parts_spoolTurn mp) :
    Moves d₀ (e₀.spoolTurn p o heads).1 mo mp := by
  have O {a : Nat} (h : (a &&& objs_spoolTurn == a) = true) := Mask.le_trans h hO
  have P {a : Nat} (h : (a &&& parts_spoolTurn == a) = true) := Mask.le_trans h hP
  unfold Device.spoolTurn
  try simp only
  repeat' first
    | with_reducible exact hM
    | with_reducible exact Moves.refl ..
    | with_reducible refine Moves.endTurns ?_ (O (by decide)) (P (by decide))
    | with_reducible refine Moves.passOver ?_ (O (by decide)) (P (by decide))
    | with_reducible refine Moves.placeTrib ?_ (O (by decide)) (P (by decide))
    | with_reducible refine Moves.ite (fun _ => ?_) (fun _ => ?_)
    | with_reducible refine Moves.ite1 (fun _ => ?_) (fun _ => ?_)
    | split
    | dsimp only

def objs_spoolScreen : Nat := 0x34000000000000000000000000000000000000000000000000000000000000000000000000000000000200000000000000000000000000000000000000000000c7e00000000000000000000
def parts_spoolScreen : Nat := 0x800c03a9
theorem Moves.spoolScreen {p o : Nat} {heads : List (Nat × Copy × FrameRec)} {z0 : Nat} (hM : Moves d₀ e₀ mo mp) (hO : Mask.le objs_spoolScreen mo) (hP : Mask.le parts_spoolScreen mp) :
    Moves d₀ (e₀.spoolScreen p o heads z0) mo mp := by
  have O {a : Nat} (h : (a &&& objs_spoolScreen == a) = true) := Mask.le_trans h hO
  have P {a : Nat} (h : (a &&& parts_spoolScreen == a) = true) := Mask.le_trans h hP
  induction z0 generalizing e₀  with
  | zero => exact hM
  | succ n ih =>
  unfold Device.spoolScreen
  try simp only
  repeat' first
    | with_reducible exact hM
    | with_reducible exact Moves.refl ..
    | with_reducible apply ih
    | with_reducible refine Moves.spoolTurn ?_ (O (by decide)) (P (by decide))
    | with_reducible refine Moves.ite (fun _ => ?_) (fun _ => ?_)
    | with_reducible refine Moves.ite1 (fun _ => ?_) (fun _ => ?_)
    | split
    | dsimp only

def objs_choose : Nat := 0x3400000000000000000000000000000000000000000000000001180a880000000000000000000000000200000000000000000000000000000000000000000000c7e00000000000000c00000
def parts_choose : Nat := 0x905c1fa9
theorem Moves.choose {p o : Nat} {heads : List (Nat × Copy × FrameRec)} (hM : Moves d₀ e₀ mo mp) (hO : Mask.le objs_choose mo) (hP : Mask.le parts_choose mp) :
    Moves d₀ (e₀.choose p o heads) mo mp := by
  have O {a : Nat} (h : (a &&& objs_choose == a) = true) := Mask.le_trans h hO
  have P {a : Nat} (h : (a &&& parts_choose == a) = true) := Mask.le_trans h hP
  unfold Device.choose
  try simp only
  repeat' first
    | with_reducible exact hM
    | with_reducible exact Moves.refl ..
    | with_reducible refine Moves.setOutp ?_ (O (by decide)) (P (by decide))
    | with_reducible refine Moves.serveHold ?_ (O (by decide)) (P (by decide))
    | with_reducible refine Moves.promoSend ?_ (O (by decide)) (P (by decide))
    | with_reducible refine Moves.drrSend ?_ (O (by decide)) (P (by decide))
    | with_reducible refine Moves.ite (fun _ => ?_) (fun _ => ?_)
    | with_reducible refine Moves.ite1 (fun _ => ?_) (fun _ => ?_)
    | split
    | dsimp only

def objs_countDecision : Nat := 0x0
def parts_countDecision : Nat := 0x80000
theorem Moves.countDecision {p o : Nat} (hM : Moves d₀ e₀ mo mp) (hO : Mask.le objs_countDecision mo) (hP : Mask.le parts_countDecision mp) :
    Moves d₀ (e₀.countDecision p o) mo mp := by
  have O {a : Nat} (h : (a &&& objs_countDecision == a) = true) := Mask.le_trans h hO
  have P {a : Nat} (h : (a &&& parts_countDecision == a) = true) := Mask.le_trans h hP
  unfold Device.countDecision
  try simp only
  repeat' first
    | with_reducible exact hM
    | with_reducible exact Moves.refl ..
    | with_reducible refine Moves.setOutp ?_ (O (by decide)) (P (by decide))
    | dsimp only

def objs_decide_ : Nat := 0x3400000000000000000000000000000000000000000000000001180a880000000000000000000000000200000000000000000000000000000000060000000000c7e00000000000000c00000
def parts_decide_ : Nat := 0x905c1fa9
theorem Moves.decide_ {p o : Nat} (hM : Moves d₀ e₀ mo mp) (hO : Mask.le objs_decide_ mo) (hP : Mask.le parts_decide_ mp) :
    Moves d₀ (e₀.decide_ p o) mo mp := by
  have O {a : Nat} (h : (a &&& objs_decide_ == a) = true) := Mask.le_trans h hO
  have P {a : Nat} (h : (a &&& parts_decide_ == a) = true) := Mask.le_trans h hP
  unfold Device.decide_
  try simp only
  repeat' first
    | with_reducible exact hM
    | with_reducible exact Moves.refl ..
    | with_reducible refine Moves.countDecision ?_ (O (by decide)) (P (by decide))
    | with_reducible refine Moves.choose ?_ (O (by decide)) (P (by decide))
    | with_reducible refine Moves.spoolScreen ?_ (O (by decide)) (P (by decide))
    | with_reducible refine Moves.refresh ?_ (O (by decide)) (P (by decide))
    | with_reducible refine Moves.classHigh ?_ (O (by decide)) (P (by decide))
    | with_reducible refine Moves.syncLists ?_ (O (by decide)) (P (by decide))
    | with_reducible refine Moves.calHolds ?_ (O (by decide)) (P (by decide))
    | with_reducible refine Moves.svcUpdate ?_ (O (by decide)) (P (by decide))
    | dsimp only

def objs_fabricTurn : Nat := 0x3400000000000000000000000000000000000000000000000001180a880000000000000000000000000200000000000000000000000000000000060000000000c7e00000000000040c00000
def parts_fabricTurn : Nat := 0x905c1fa9
theorem Moves.fabricTurn {p n : Nat} (hM : Moves d₀ e₀ mo mp) (hO : Mask.le objs_fabricTurn mo) (hP : Mask.le parts_fabricTurn mp) :
    Moves d₀ (e₀.fabricTurn p n) mo mp := by
  have O {a : Nat} (h : (a &&& objs_fabricTurn == a) = true) := Mask.le_trans h hO
  have P {a : Nat} (h : (a &&& parts_fabricTurn == a) = true) := Mask.le_trans h hP
  unfold Device.fabricTurn
  try simp only
  repeat' first
    | with_reducible exact hM
    | with_reducible exact Moves.refl ..
    | with_reducible refine Moves.decide_ ?_ (O (by decide)) (P (by decide))
    | with_reducible refine Moves.sendResend ?_ (O (by decide)) (P (by decide))
    | with_reducible refine Moves.ite (fun _ => ?_) (fun _ => ?_)
    | with_reducible refine Moves.ite1 (fun _ => ?_) (fun _ => ?_)
    | split
    | dsimp only

def objs_longHaulTurn : Nat := 0x3400000000000000000000000000000000000000000000000001180a880000000000000000000000000200000000000000000000000000000000060000000000c7e00000000000000c00000
def parts_longHaulTurn : Nat := 0x905c1fa9
theorem Moves.longHaulTurn {p l : Nat} (hM : Moves d₀ e₀ mo mp) (hO : Mask.le objs_longHaulTurn mo) (hP : Mask.le parts_longHaulTurn mp) :
    Moves d₀ (e₀.longHaulTurn p l) mo mp := by
  have O {a : Nat} (h : (a &&& objs_longHaulTurn == a) = true) := Mask.le_trans h hO
  have P {a : Nat} (h : (a &&& parts_longHaulTurn == a) = true) := Mask.le_trans h hP
  unfold Device.longHaulTurn
  try simp only
  repeat' first
    | with_reducible exact hM
    | with_reducible exact Moves.refl ..
    | with_reducible refine Moves.decide_ ?_ (O (by decide)) (P (by decide))
    | with_reducible refine Moves.ite (fun _ => ?_) (fun _ => ?_)
    | with_reducible refine Moves.ite1 (fun _ => ?_) (fun _ => ?_)
    | split
    | dsimp only

def objs_engineTakes : Nat := 0x0
def parts_engineTakes : Nat := 0x60
theorem Moves.engineTakes {p sw : Nat} {f : FrameRec} (hM : Moves d₀ e₀ mo mp) (hO : Mask.le objs_engineTakes mo) (hP : Mask.le parts_engineTakes mp) :
    Moves d₀ (e₀.engineTakes p sw f) mo mp := by
  have O {a : Nat} (h : (a &&& objs_engineTakes == a) = true) := Mask.le_trans h hO
  have P {a : Nat} (h : (a &&& parts_engineTakes == a) = true) := Mask.le_trans h hP
  have S {k : Nat} (h : parts_engineTakes.testBit k = true) := Mask.bit h hP
  unfold Device.engineTakes
  try simp only
  repeat' first
    | with_reducible exact hM
    | with_reducible exact Moves.refl ..
    | with_reducible refine Moves.emit ?_ (O (by decide)) (P (by decide))
    | with_reducible refine Moves.ite (fun _ => ?_) (fun _ => ?_)
    | with_reducible refine Moves.ite1 (fun _ => ?_) (fun _ => ?_)
    | split
    | with_reducible refine Moves.with_inbox ?_ (S (by decide))
    | dsimp only

def objs_served_ : Nat := 0x0
def parts_served_ : Nat := 0x80000
theorem Moves.served_ {p sw : Nat} {x : Nat × Copy × FrameRec} (hM : Moves d₀ e₀ mo mp) (hO : Mask.le objs_served_ mo) (hP : Mask.le parts_served_ mp) :
    Moves d₀ (e₀.served_ p sw x) mo mp := by
  have O {a : Nat} (h : (a &&& objs_served_ == a) = true) := Mask.le_trans h hO
  have P {a : Nat} (h : (a &&& parts_served_ == a) = true) := Mask.le_trans h hP
  unfold Device.served_
  try simp only
  repeat' first
    | with_reducible exact hM
    | with_reducible exact Moves.refl ..
    | with_reducible refine Moves.setOutp ?_ (O (by decide)) (P (by decide))
    | with_reducible refine Moves.ite (fun _ => ?_) (fun _ => ?_)
    | with_reducible refine Moves.ite1 (fun _ => ?_) (fun _ => ?_)
    | split
    | dsimp only

def objs_engineTurn : Nat := 0x0
def parts_engineTurn : Nat := 0x81060
theorem Moves.engineTurn {p sw : Nat} (hM : Moves d₀ e₀ mo mp) (hO : Mask.le objs_engineTurn mo) (hP : Mask.le parts_engineTurn mp) :
    Moves d₀ (e₀.engineTurn p sw) mo mp := by
  have O {a : Nat} (h : (a &&& objs_engineTurn == a) = true) := Mask.le_trans h hO
  have P {a : Nat} (h : (a &&& parts_engineTurn == a) = true) := Mask.le_trans h hP
  unfold Device.engineTurn
  try simp only
  repeat' first
    | with_reducible exact hM
    | with_reducible exact Moves.refl ..
    | with_reducible refine Moves.served_ ?_ (O (by decide)) (P (by decide))
    | with_reducible refine Moves.engineTakes ?_ (O (by decide)) (P (by decide))
    | with_reducible refine Moves.readCopy ?_ (O (by decide)) (P (by decide))
    | split
    | dsimp only

def objs_reducerTurn : Nat := 0x340000000000000000000000000000000000000000000000000000000000000000000000000000000000000000e8020006606cb80100021ff3ff000000000000c7e00100028000000000000
def parts_reducerTurn : Nat := 0x78edbf9
theorem Moves.reducerTurn {p col : Nat} (hM : Moves d₀ e₀ mo mp) (hO : Mask.le objs_reducerTurn mo) (hP : Mask.le parts_reducerTurn mp) :
    Moves d₀ (e₀.reducerTurn p col) mo mp := by
  have O {a : Nat} (h : (a &&& objs_reducerTurn == a) = true) := Mask.le_trans h hO
  have P {a : Nat} (h : (a &&& parts_reducerTurn == a) = true) := Mask.le_trans h hP
  unfold Device.reducerTurn
  try simp only
  repeat' first
    | with_reducible exact hM
    | with_reducible exact Moves.refl ..
    | with_reducible refine Moves.served_ ?_ (O (by decide)) (P (by decide))
    | with_reducible refine Moves.reducerFrame ?_ (O (by decide)) (P (by decide))
    | with_reducible refine Moves.ite (fun _ => ?_) (fun _ => ?_)
    | with_reducible refine Moves.ite1 (fun _ => ?_) (fun _ => ?_)
    | split
    | dsimp only

def objs_gateMove : Nat := 0x800000000000000000000000000000
def parts_gateMove : Nat := 0x100000
theorem Moves.gateMove {p o : Nat} (hM : Moves d₀ e₀ mo mp) (hO : Mask.le objs_gateMove mo) (hP : Mask.le parts_gateMove mp) :
    Moves d₀ (e₀.gateMove p o) mo mp := by
  have O {a : Nat} (h : (a &&& objs_gateMove == a) = true) := Mask.le_trans h hO
  have P {a : Nat} (h : (a &&& parts_gateMove == a) = true) := Mask.le_trans h hP
  have B {k : Nat} (h : objs_gateMove.testBit k = true) := Mask.bit h hO
  have S {k : Nat} (h : parts_gateMove.testBit k = true) := Mask.bit h hP
  unfold Device.gateMove
  try simp only
  repeat' first
    | with_reducible exact hM
    | with_reducible exact Moves.refl ..
    | with_reducible refine Moves.set ?_ (B (by first | decide | (split <;> decide))) (by first | decide | (split <;> decide))
    | with_reducible refine Moves.creditTick ?_ (O (by decide)) (P (by decide))
    | with_reducible refine Moves.ite (fun _ => ?_) (fun _ => ?_)
    | with_reducible refine Moves.ite1 (fun _ => ?_) (fun _ => ?_)
    | split
    | dsimp only

def objs_gateMoved : Nat := 0x0
def parts_gateMoved : Nat := 0x180000
theorem Moves.gateMoved {p o : Nat} (hM : Moves d₀ e₀ mo mp) (hO : Mask.le objs_gateMoved mo) (hP : Mask.le parts_gateMoved mp) :
    Moves d₀ (e₀.gateMoved p o) mo mp := by
  have O {a : Nat} (h : (a &&& objs_gateMoved == a) = true) := Mask.le_trans h hO
  have P {a : Nat} (h : (a &&& parts_gateMoved == a) = true) := Mask.le_trans h hP
  unfold Device.gateMoved
  try simp only
  repeat' first
    | with_reducible exact hM
    | with_reducible exact Moves.refl ..
    | with_reducible refine Moves.waitClocks ?_ (O (by decide)) (P (by decide))
    | with_reducible refine Moves.calHolds ?_ (O (by decide)) (P (by decide))
    | with_reducible refine Moves.svcUpdate ?_ (O (by decide)) (P (by decide))
    | dsimp only

def objs_cycleStart : Nat := 0x0
def parts_cycleStart : Nat := 0x80000
theorem Moves.cycleStart {p o : Nat} (hM : Moves d₀ e₀ mo mp) (hO : Mask.le objs_cycleStart mo) (hP : Mask.le parts_cycleStart mp) :
    Moves d₀ (e₀.cycleStart p o) mo mp := by
  have O {a : Nat} (h : (a &&& objs_cycleStart == a) = true) := Mask.le_trans h hO
  have P {a : Nat} (h : (a &&& parts_cycleStart == a) = true) := Mask.le_trans h hP
  unfold Device.cycleStart
  try simp only
  repeat' first
    | with_reducible exact hM
    | with_reducible exact Moves.refl ..
    | (refine Moves.getD ?_ (fun r hr => ?_))
    | with_reducible refine Moves.setOutp ?_ (O (by decide)) (P (by decide))
    | split
    | dsimp only

def objs_gateChange : Nat := 0x800000000000000000000000000000
def parts_gateChange : Nat := 0x180000
theorem Moves.gateChange {p o : Nat} (hM : Moves d₀ e₀ mo mp) (hO : Mask.le objs_gateChange mo) (hP : Mask.le parts_gateChange mp) :
    Moves d₀ (e₀.gateChange p o) mo mp := by
  have O {a : Nat} (h : (a &&& objs_gateChange == a) = true) := Mask.le_trans h hO
  have P {a : Nat} (h : (a &&& parts_gateChange == a) = true) := Mask.le_trans h hP
  unfold Device.gateChange
  try simp only
  repeat' first
    | with_reducible exact hM
    | with_reducible exact Moves.refl ..
    | with_reducible refine Moves.cycleStart ?_ (O (by decide)) (P (by decide))
    | with_reducible refine Moves.gateMoved ?_ (O (by decide)) (P (by decide))
    | with_reducible refine Moves.gateMove ?_ (O (by decide)) (P (by decide))
    | with_reducible refine Moves.ite (fun _ => ?_) (fun _ => ?_)
    | with_reducible refine Moves.ite1 (fun _ => ?_) (fun _ => ?_)
    | split
    | dsimp only

def objs_activatePage : Nat := 0x100000000000000000000000000000
def parts_activatePage : Nat := 0x80000
theorem Moves.activatePage {p o : Nat} {g : GatePage} {closed : Bool} (hM : Moves d₀ e₀ mo mp) (hO : Mask.le objs_activatePage mo) (hP : Mask.le parts_activatePage mp) :
    Moves d₀ (e₀.activatePage p o g closed) mo mp := by
  have O {a : Nat} (h : (a &&& objs_activatePage == a) = true) := Mask.le_trans h hO
  have P {a : Nat} (h : (a &&& parts_activatePage == a) = true) := Mask.le_trans h hP
  have B {k : Nat} (h : objs_activatePage.testBit k = true) := Mask.bit h hO
  have S {k : Nat} (h : parts_activatePage.testBit k = true) := Mask.bit h hP
  unfold Device.activatePage
  try simp only
  repeat' first
    | with_reducible exact hM
    | with_reducible exact Moves.refl ..
    | with_reducible refine Moves.set ?_ (B (by decide)) (by decide)
    | (refine Moves.getD ?_ (fun r hr => ?_))
    | with_reducible refine Moves.setOutp ?_ (O (by decide)) (P (by decide))
    | with_reducible refine Moves.foldl ?_ (fun d a => ?_)
    | split
    | dsimp only

def objs_loadPage : Nat := 0x100000000000000000000000000000
def parts_loadPage : Nat := 0x80000
theorem Moves.loadPage {p o : Nat} {g : GatePage} (hM : Moves d₀ e₀ mo mp) (hO : Mask.le objs_loadPage mo) (hP : Mask.le parts_loadPage mp) :
    Moves d₀ (e₀.loadPage p o g) mo mp := by
  have O {a : Nat} (h : (a &&& objs_loadPage == a) = true) := Mask.le_trans h hO
  have P {a : Nat} (h : (a &&& parts_loadPage == a) = true) := Mask.le_trans h hP
  unfold Device.loadPage
  try simp only
  repeat' first
    | with_reducible exact hM
    | with_reducible exact Moves.refl ..
    | with_reducible refine Moves.activatePage ?_ (O (by decide)) (P (by decide))
    | dsimp only

def objs_closeBypass : Nat := 0x0
def parts_closeBypass : Nat := 0x80000
theorem Moves.closeBypass {p : Nat} (hM : Moves d₀ e₀ mo mp) (hO : Mask.le objs_closeBypass mo) (hP : Mask.le parts_closeBypass mp) :
    Moves d₀ (e₀.closeBypass p) mo mp := by
  have O {a : Nat} (h : (a &&& objs_closeBypass == a) = true) := Mask.le_trans h hO
  have P {a : Nat} (h : (a &&& parts_closeBypass == a) = true) := Mask.le_trans h hP
  unfold Device.closeBypass
  try simp only
  repeat' first
    | with_reducible exact hM
    | with_reducible exact Moves.refl ..
    | with_reducible refine Moves.setOutp ?_ (O (by decide)) (P (by decide))
    | with_reducible refine Moves.foldl ?_ (fun d a => ?_)
    | with_reducible refine Moves.ite (fun _ => ?_) (fun _ => ?_)
    | with_reducible refine Moves.ite1 (fun _ => ?_) (fun _ => ?_)
    | split
    | dsimp only

def objs_toStandby : Nat := 0xbc000000000000000000000000000
def parts_toStandby : Nat := 0x0
theorem Moves.toStandby {p o : Nat} {g : GatePage} (hM : Moves d₀ e₀ mo mp) (hO : Mask.le objs_toStandby mo) (hP : Mask.le parts_toStandby mp) :
    Moves d₀ (e₀.toStandby p o g) mo mp := by
  have O {a : Nat} (h : (a &&& objs_toStandby == a) = true) := Mask.le_trans h hO
  have P {a : Nat} (h : (a &&& parts_toStandby == a) = true) := Mask.le_trans h hP
  have B {k : Nat} (h : objs_toStandby.testBit k = true) := Mask.bit h hO
  have S {k : Nat} (h : parts_toStandby.testBit k = true) := Mask.bit h hP
  unfold Device.toStandby
  try simp only
  repeat' first
    | with_reducible exact hM
    | with_reducible exact Moves.refl ..
    | with_reducible refine Moves.set ?_ (B (by decide)) (by decide)
    | (refine Moves.getD ?_ (fun r hr => ?_))
    | with_reducible refine Moves.foldl ?_ (fun d a => ?_)
    | split
    | dsimp only

def objs_gclSwap : Nat := 0xdbc000000000000000000000000000
def parts_gclSwap : Nat := 0x180000
theorem Moves.gclSwap {p o : Nat} (hM : Moves d₀ e₀ mo mp) (hO : Mask.le objs_gclSwap mo) (hP : Mask.le parts_gclSwap mp) :
    Moves d₀ (e₀.gclSwap p o) mo mp := by
  have O {a : Nat} (h : (a &&& objs_gclSwap == a) = true) := Mask.le_trans h hO
  have P {a : Nat} (h : (a &&& parts_gclSwap == a) = true) := Mask.le_trans h hP
  have B {k : Nat} (h : objs_gclSwap.testBit k = true) := Mask.bit h hO
  have S {k : Nat} (h : parts_gclSwap.testBit k = true) := Mask.bit h hP
  unfold Device.gclSwap
  try simp only
  repeat' first
    | with_reducible exact hM
    | with_reducible exact Moves.refl ..
    | with_reducible refine Moves.set ?_ (B (by decide)) (by decide)
    | with_reducible refine Moves.toStandby ?_ (O (by decide)) (P (by decide))
    | with_reducible refine Moves.activatePage ?_ (O (by decide)) (P (by decide))
    | with_reducible refine Moves.cycleStart ?_ (O (by decide)) (P (by decide))
    | with_reducible refine Moves.gateMoved ?_ (O (by decide)) (P (by decide))
    | with_reducible refine Moves.gateMove ?_ (O (by decide)) (P (by decide))
    | split
    | dsimp only

def objs_gclStepped : Nat := 0x2800000000000000000000000000000
def parts_gclStepped : Nat := 0x180001
theorem Moves.gclStepped {p tb : Nat} (hM : Moves d₀ e₀ mo mp) (hO : Mask.le objs_gclStepped mo) (hP : Mask.le parts_gclStepped mp) :
    Moves d₀ (e₀.gclStepped p tb) mo mp := by
  have O {a : Nat} (h : (a &&& objs_gclStepped == a) = true) := Mask.le_trans h hO
  have P {a : Nat} (h : (a &&& parts_gclStepped == a) = true) := Mask.le_trans h hP
  have B {k : Nat} (h : objs_gclStepped.testBit k = true) := Mask.bit h hO
  have S {k : Nat} (h : parts_gclStepped.testBit k = true) := Mask.bit h hP
  unfold Device.gclStepped
  try simp only
  repeat' first
    | with_reducible exact hM
    | with_reducible exact Moves.refl ..
    | with_reducible refine Moves.bump ?_ (B (by first | decide | (split <;> decide))) (by first | decide | (split <;> decide)) (S (by decide))
    | with_reducible refine Moves.gateMoved ?_ (O (by decide)) (P (by decide))
    | with_reducible refine Moves.gateMove ?_ (O (by decide)) (P (by decide))
    | with_reducible refine Moves.foldl ?_ (fun d a => ?_)
    | with_reducible refine Moves.ite (fun _ => ?_) (fun _ => ?_)
    | with_reducible refine Moves.ite1 (fun _ => ?_) (fun _ => ?_)
    | split
    | dsimp only

def objs_promoteQueue : Nat := 0x0
def parts_promoteQueue : Nat := 0x180000
theorem Moves.promoteQueue {p o c t ms : Nat} (hM : Moves d₀ e₀ mo mp) (hO : Mask.le objs_promoteQueue mo) (hP : Mask.le parts_promoteQueue mp) :
    Moves d₀ (e₀.promoteQueue p o c t ms).1 mo mp := by
  have O {a : Nat} (h : (a &&& objs_promoteQueue == a) = true) := Mask.le_trans h hO
  have P {a : Nat} (h : (a &&& parts_promoteQueue == a) = true) := Mask.le_trans h hP
  unfold Device.promoteQueue
  try simp only
  repeat' first
    | with_reducible exact hM
    | with_reducible exact Moves.refl ..
    | with_reducible refine Moves.setOutp ?_ (O (by decide)) (P (by decide))
    | with_reducible refine Moves.setTq ?_ (O (by decide)) (P (by decide))
    | with_reducible refine Moves.refresh ?_ (O (by decide)) (P (by decide))
    | with_reducible refine Moves.ite (fun _ => ?_) (fun _ => ?_)
    | with_reducible refine Moves.ite1 (fun _ => ?_) (fun _ => ?_)
    | split
    | dsimp only

def objs_promote : Nat := 0x1000000400000000000000000000000000
def parts_promote : Nat := 0x180001
theorem Moves.promote {p o c t : Nat} (hM : Moves d₀ e₀ mo mp) (hO : Mask.le objs_promote mo) (hP : Mask.le parts_promote mp) :
    Moves d₀ (e₀.promote p o c t) mo mp := by
  have O {a : Nat} (h : (a &&& objs_promote == a) = true) := Mask.le_trans h hO
  have P {a : Nat} (h : (a &&& parts_promote == a) = true) := Mask.le_trans h hP
  have B {k : Nat} (h : objs_promote.testBit k = true) := Mask.bit h hO
  have S {k : Nat} (h : parts_promote.testBit k = true) := Mask.bit h hP
  unfold Device.promote
  try simp only
  repeat' first
    | with_reducible exact hM
    | with_reducible exact Moves.refl ..
    | with_reducible refine Moves.bump ?_ (B (by decide)) (by decide) (S (by decide))
    | with_reducible refine Moves.promoteQueue ?_ (O (by decide)) (P (by decide))
    | with_reducible refine Moves.ite (fun _ => ?_) (fun _ => ?_)
    | with_reducible refine Moves.ite1 (fun _ => ?_) (fun _ => ?_)
    | split
    | dsimp only

def objs_bgPromote : Nat := 0x800000000000000000000000000
def parts_bgPromote : Nat := 0x180001
theorem Moves.bgPromote {p o kind : Nat} (hM : Moves d₀ e₀ mo mp) (hO : Mask.le objs_bgPromote mo) (hP : Mask.le parts_bgPromote mp) :
    Moves d₀ (e₀.bgPromote p o kind) mo mp := by
  have O {a : Nat} (h : (a &&& objs_bgPromote == a) = true) := Mask.le_trans h hO
  have P {a : Nat} (h : (a &&& parts_bgPromote == a) = true) := Mask.le_trans h hP
  have B {k : Nat} (h : objs_bgPromote.testBit k = true) := Mask.bit h hO
  have S {k : Nat} (h : parts_bgPromote.testBit k = true) := Mask.bit h hP
  unfold Device.bgPromote
  try simp only
  repeat' first
    | with_reducible exact hM
    | with_reducible exact Moves.refl ..
    | with_reducible refine Moves.bump ?_ (B (by decide)) (by decide) (S (by decide))
    | with_reducible refine Moves.setOutp ?_ (O (by decide)) (P (by decide))
    | with_reducible refine Moves.promoteQueue ?_ (O (by decide)) (P (by decide))
    | with_reducible refine Moves.ite (fun _ => ?_) (fun _ => ?_)
    | with_reducible refine Moves.ite1 (fun _ => ?_) (fun _ => ?_)
    | split
    | dsimp only

def objs_telemetry : Nat := 0x3400000000000000000000000000000000000000000000000001180a88000000000000000000000000000000000000000000000000000000000000000000000000000000040000200000000
def parts_telemetry : Nat := 0x10081eb1
theorem Moves.telemetry {p o : Nat} {f : Frame} (hM : Moves d₀ e₀ mo mp) (hO : Mask.le objs_telemetry mo) (hP : Mask.le parts_telemetry mp) :
    Moves d₀ (e₀.telemetry p o f) mo mp := by
  have O {a : Nat} (h : (a &&& objs_telemetry == a) = true) := Mask.le_trans h hO
  have P {a : Nat} (h : (a &&& parts_telemetry == a) = true) := Mask.le_trans h hP
  unfold Device.telemetry
  try simp only
  repeat' first
    | with_reducible exact hM
    | with_reducible exact Moves.refl ..
    | with_reducible refine Moves.queueDirect ?_ (O (by decide)) (P (by decide))
    | dsimp only

def objs_observe : Nat := 0xf00000000000000000000000000000000
def parts_observe : Nat := 0x80000
theorem Moves.observe {p o : Nat} (hM : Moves d₀ e₀ mo mp) (hO : Mask.le objs_observe mo) (hP : Mask.le parts_observe mp) :
    Moves d₀ (e₀.observe p o) mo mp := by
  have O {a : Nat} (h : (a &&& objs_observe == a) = true) := Mask.le_trans h hO
  have P {a : Nat} (h : (a &&& parts_observe == a) = true) := Mask.le_trans h hP
  have B {k : Nat} (h : objs_observe.testBit k = true) := Mask.bit h hO
  have S {k : Nat} (h : parts_observe.testBit k = true) := Mask.bit h hP
  unfold Device.observe
  try simp only
  repeat' first
    | with_reducible exact hM
    | with_reducible exact Moves.refl ..
    | with_reducible refine Moves.set ?_ (B (by decide)) (by decide)
    | with_reducible refine Moves.highWater ?_ (B (by decide)) (by decide)
    | with_reducible refine Moves.setOutp ?_ (O (by decide)) (P (by decide))
    | with_reducible refine Moves.foldl ?_ (fun d a => ?_)
    | with_reducible refine Moves.ite (fun _ => ?_) (fun _ => ?_)
    | with_reducible refine Moves.ite1 (fun _ => ?_) (fun _ => ?_)
    | split
    | dsimp only


def objs_setBypByte : Nat := 0x800000000000000000000000000000000000000000000000000000000000000000000000000000000000000000000000000000
def parts_setBypByte : Nat := 0x0
theorem Moves.setBypByte {p n v : Nat} (hM : Moves d₀ e₀ mo mp) (hO : Mask.le objs_setBypByte mo) (hP : Mask.le parts_setBypByte mp) :
    Moves d₀ (e₀.setBypByte p n v) mo mp := by
  have O {a : Nat} (h : (a &&& objs_setBypByte == a) = true) := Mask.le_trans h hO
  have P {a : Nat} (h : (a &&& parts_setBypByte == a) = true) := Mask.le_trans h hP
  have B {k : Nat} (h : objs_setBypByte.testBit k = true) := Mask.bit h hO
  have S {k : Nat} (h : parts_setBypByte.testBit k = true) := Mask.bit h hP
  unfold Device.setBypByte
  try simp only
  repeat' first
    | with_reducible exact hM
    | with_reducible exact Moves.refl ..
    | with_reducible refine Moves.set ?_ (B (by decide)) (by decide)
    | dsimp only

def objs_sendPreamble : Nat := 0x0
def parts_sendPreamble : Nat := 0x20
theorem Moves.sendPreamble {p n : Nat} (hM : Moves d₀ e₀ mo mp) (hO : Mask.le objs_sendPreamble mo) (hP : Mask.le parts_sendPreamble mp) :
    Moves d₀ (e₀.sendPreamble p n) mo mp := by
  have O {a : Nat} (h : (a &&& objs_sendPreamble == a) = true) := Mask.le_trans h hO
  have P {a : Nat} (h : (a &&& parts_sendPreamble == a) = true) := Mask.le_trans h hP
  unfold Device.sendPreamble
  try simp only
  repeat' first
    | with_reducible exact hM
    | with_reducible exact Moves.refl ..
    | with_reducible refine Moves.emit ?_ (O (by decide)) (P (by decide))
    | with_reducible refine Moves.foldl ?_ (fun d a => ?_)
    | dsimp only

def objs_openPort : Nat := 0x3400000000000000000000000000000000000000000000000001180a88000000000000000000000000000000000000000000000000000000000000000000000000000000000000000001800
def parts_openPort : Nat := 0x101806a1
theorem Moves.openPort {p n : Nat} (hM : Moves d₀ e₀ mo mp) (hO : Mask.le objs_openPort mo) (hP : Mask.le parts_openPort mp) :
    Moves d₀ (e₀.openPort p n) mo mp := by
  have O {a : Nat} (h : (a &&& objs_openPort == a) = true) := Mask.le_trans h hO
  have P {a : Nat} (h : (a &&& parts_openPort == a) = true) := Mask.le_trans h hP
  unfold Device.openPort
  try simp only
  repeat' first
    | with_reducible exact hM
    | with_reducible exact Moves.refl ..
    | with_reducible refine Moves.setPort ?_ (O (by decide)) (P (by decide))
    | with_reducible refine Moves.setPortState ?_ (O (by decide)) (P (by decide))
    | with_reducible refine Moves.svcUpdate ?_ (O (by decide)) (P (by decide))
    | dsimp only

def objs_windowStart : Nat := 0x3400000000000000000000000000000000000000000000020001180a88000000000000000000000000000000000000000000000000000000000000000000000000000000000000000001800
def parts_windowStart : Nat := 0x101806a1
theorem Moves.windowStart {p n : Nat} (hM : Moves d₀ e₀ mo mp) (hO : Mask.le objs_windowStart mo) (hP : Mask.le parts_windowStart mp) :
    Moves d₀ (e₀.windowStart p n) mo mp := by
  have O {a : Nat} (h : (a &&& objs_windowStart == a) = true) := Mask.le_trans h hO
  have P {a : Nat} (h : (a &&& parts_windowStart == a) = true) := Mask.le_trans h hP
  have B {k : Nat} (h : objs_windowStart.testBit k = true) := Mask.bit h hO
  have S {k : Nat} (h : parts_windowStart.testBit k = true) := Mask.bit h hP
  unfold Device.windowStart
  try simp only
  repeat' first
    | with_reducible exact hM
    | with_reducible exact Moves.refl ..
    | with_reducible refine Moves.bump ?_ (B (by first | decide | (split <;> decide) | (cases m <;> decide))) (by first | decide | (split <;> decide) | (cases m <;> decide)) (S (by decide))
    | with_reducible refine Moves.openPort ?_ (O (by decide)) (P (by decide))
    | with_reducible refine Moves.sendPreamble ?_ (O (by decide)) (P (by decide))
    | with_reducible refine Moves.ite (fun _ => ?_) (fun _ => ?_)
    | with_reducible refine Moves.ite1 (fun _ => ?_) (fun _ => ?_)
    | split
    | dsimp only

def objs_closePort : Nat := 0x340000001c000000002000000000000000000000000000000001180a88000000000000000000000000000000000000000000000000080000000000000000000000c00000040000200001800
def parts_closePort : Nat := 0x80181c1fa1
theorem Moves.closePort {p n : Nat} (hM : Moves d₀ e₀ mo mp) (hO : Mask.le objs_closePort mo) (hP : Mask.le parts_closePort mp) :
    Moves d₀ (e₀.closePort p n) mo mp := by
  have O {a : Nat} (h : (a &&& objs_closePort == a) = true) := Mask.le_trans h hO
  have P {a : Nat} (h : (a &&& parts_closePort == a) = true) := Mask.le_trans h hP
  unfold Device.closePort
  try simp only
  repeat' first
    | with_reducible exact hM
    | with_reducible exact Moves.refl ..
    | with_reducible refine Moves.setPort ?_ (O (by decide)) (P (by decide))
    | with_reducible refine Moves.sendPreamble ?_ (O (by decide)) (P (by decide))
    | with_reducible refine Moves.laneRetrain ?_ (O (by decide)) (P (by decide))
    | with_reducible refine Moves.portFault ?_ (O (by decide)) (P (by decide))
    | with_reducible refine Moves.leavePort ?_ (O (by decide)) (P (by decide))
    | with_reducible refine Moves.setPortState ?_ (O (by decide)) (P (by decide))
    | with_reducible refine Moves.sendLink ?_ (O (by decide)) (P (by decide))
    | with_reducible refine Moves.foldl ?_ (fun d a => ?_)
    | with_reducible refine Moves.ite (fun _ => ?_) (fun _ => ?_)
    | with_reducible refine Moves.ite1 (fun _ => ?_) (fun _ => ?_)
    | split
    | dsimp only

def objs_windowEnd : Nat := 0x340000001c000000002000000000000000000000000000000001180a88000000000000000000000000000000000000000000000000080000000000000000000000c00000040000200001800
def parts_windowEnd : Nat := 0x80181c1fa1
theorem Moves.windowEnd {p n : Nat} (hM : Moves d₀ e₀ mo mp) (hO : Mask.le objs_windowEnd mo) (hP : Mask.le parts_windowEnd mp) :
    Moves d₀ (e₀.windowEnd p n) mo mp := by
  have O {a : Nat} (h : (a &&& objs_windowEnd == a) = true) := Mask.le_trans h hO
  have P {a : Nat} (h : (a &&& parts_windowEnd == a) = true) := Mask.le_trans h hP
  unfold Device.windowEnd
  try simp only
  repeat' first
    | with_reducible exact hM
    | with_reducible exact Moves.refl ..
    | with_reducible refine Moves.closePort ?_ (O (by decide)) (P (by decide))
    | split
    | dsimp only

def objs_bypStepped : Nat := 0x340000001c000000002000000000000000000000000000000001180a88000000000000000000000000000000000000000000000000080000000000000000000000c00000040000200001800
def parts_bypStepped : Nat := 0x80181c1fa1
theorem Moves.bypStepped {p tb : Nat} (hM : Moves d₀ e₀ mo mp) (hO : Mask.le objs_bypStepped mo) (hP : Mask.le parts_bypStepped mp) :
    Moves d₀ (e₀.bypStepped p tb) mo mp := by
  have O {a : Nat} (h : (a &&& objs_bypStepped == a) = true) := Mask.le_trans h hO
  have P {a : Nat} (h : (a &&& parts_bypStepped == a) = true) := Mask.le_trans h hP
  unfold Device.bypStepped
  try simp only
  repeat' first
    | with_reducible exact hM
    | with_reducible exact Moves.refl ..
    | with_reducible refine Moves.windowEnd ?_ (O (by decide)) (P (by decide))
    | with_reducible refine Moves.foldl ?_ (fun d a => ?_)
    | with_reducible refine Moves.ite (fun _ => ?_) (fun _ => ?_)
    | with_reducible refine Moves.ite1 (fun _ => ?_) (fun _ => ?_)
    | split
    | dsimp only

def objs_tbStepped : Nat := 0x340000001c000000002000000000000000000000000000000001180a88000000000000000000000000000000000000000000000000080000000000002800000000c00000040000200001800
def parts_tbStepped : Nat := 0x80181c1fa1
theorem Moves.tbStepped {p tb : Nat} (hM : Moves d₀ e₀ mo mp) (hO : Mask.le objs_tbStepped mo) (hP : Mask.le parts_tbStepped mp) :
    Moves d₀ (e₀.tbStepped p tb) mo mp := by
  have O {a : Nat} (h : (a &&& objs_tbStepped == a) = true) := Mask.le_trans h hO
  have P {a : Nat} (h : (a &&& parts_tbStepped == a) = true) := Mask.le_trans h hP
  unfold Device.tbStepped
  try simp only
  repeat' first
    | with_reducible exact hM
    | with_reducible exact Moves.refl ..
    | with_reducible refine Moves.bypStepped ?_ (O (by decide)) (P (by decide))
    | with_reducible refine Moves.gclStepped ?_ (O (by decide)) (P (by decide))
    | dsimp only

def objs_parkPort : Nat := 0x3400000000000000000000000000000000000000000000010001180a88000000000000000000000000000000000000000000000000000000000000000000000000000000040000200001800
def parts_parkPort : Nat := 0x10181ea1
theorem Moves.parkPort {p n : Nat} (hM : Moves d₀ e₀ mo mp) (hO : Mask.le objs_parkPort mo) (hP : Mask.le parts_parkPort mp) :
    Moves d₀ (e₀.parkPort p n) mo mp := by
  have O {a : Nat} (h : (a &&& objs_parkPort == a) = true) := Mask.le_trans h hO
  have P {a : Nat} (h : (a &&& parts_parkPort == a) = true) := Mask.le_trans h hP
  have B {k : Nat} (h : objs_parkPort.testBit k = true) := Mask.bit h hO
  have S {k : Nat} (h : parts_parkPort.testBit k = true) := Mask.bit h hP
  unfold Device.parkPort
  try simp only
  repeat' first
    | with_reducible exact hM
    | with_reducible exact Moves.refl ..
    | with_reducible refine Moves.count ?_ (B (by decide)) (by decide) (S (by decide))
    | with_reducible refine Moves.discardPort ?_ (O (by decide)) (P (by decide))
    | with_reducible refine Moves.clearLink ?_ (O (by decide)) (P (by decide))
    | with_reducible refine Moves.setPortState ?_ (O (by decide)) (P (by decide))
    | dsimp only

def objs_bypInstall : Nat := 0x3400000000000000000000000000000000000000000000018c01180a88000000000000000000000000000000000000000000000000000000000000000000000000000000040000200001800
def parts_bypInstall : Nat := 0x10181ea1
theorem Moves.bypInstall {p c : Nat} (hM : Moves d₀ e₀ mo mp) (hO : Mask.le objs_bypInstall mo) (hP : Mask.le parts_bypInstall mp) :
    Moves d₀ (e₀.bypInstall p c) mo mp := by
  have O {a : Nat} (h : (a &&& objs_bypInstall == a) = true) := Mask.le_trans h hO
  have P {a : Nat} (h : (a &&& parts_bypInstall == a) = true) := Mask.le_trans h hP
  have B {k : Nat} (h : objs_bypInstall.testBit k = true) := Mask.bit h hO
  have S {k : Nat} (h : parts_bypInstall.testBit k = true) := Mask.bit h hP
  unfold Device.bypInstall
  try simp only
  repeat' first
    | with_reducible exact hM
    | with_reducible exact Moves.refl ..
    | with_reducible refine Moves.set ?_ (B (by first | decide | (split <;> decide) | (cases m <;> decide))) (by first | decide | (split <;> decide) | (cases m <;> decide))
    | with_reducible refine Moves.bump ?_ (B (by first | decide | (split <;> decide) | (cases m <;> decide))) (by first | decide | (split <;> decide) | (cases m <;> decide)) (S (by decide))
    | with_reducible refine Moves.parkPort ?_ (O (by decide)) (P (by decide))
    | with_reducible refine Moves.setBypByte ?_ (O (by decide)) (P (by decide))
    | with_reducible refine Moves.ite (fun _ => ?_) (fun _ => ?_)
    | with_reducible refine Moves.ite1 (fun _ => ?_) (fun _ => ?_)
    | split
    | dsimp only

def objs_removeCircuit : Nat := 0x340000001c000000002000000000000000000000000000000801180a88000000000000000000000000000000000000000000000000080000000000000000000000c00000040000200001800
def parts_removeCircuit : Nat := 0x80181c1fa1
theorem Moves.removeCircuit {p n : Nat} {forced : Bool} (hM : Moves d₀ e₀ mo mp) (hO : Mask.le objs_removeCircuit mo) (hP : Mask.le parts_removeCircuit mp) :
    Moves d₀ (e₀.removeCircuit p n forced) mo mp := by
  have O {a : Nat} (h : (a &&& objs_removeCircuit == a) = true) := Mask.le_trans h hO
  have P {a : Nat} (h : (a &&& parts_removeCircuit == a) = true) := Mask.le_trans h hP
  unfold Device.removeCircuit
  try simp only
  repeat' first
    | with_reducible exact hM
    | with_reducible exact Moves.refl ..
    | with_reducible refine Moves.setOutp ?_ (O (by decide)) (P (by decide))
    | with_reducible refine Moves.windowEnd ?_ (O (by decide)) (P (by decide))
    | with_reducible refine Moves.setBypByte ?_ (O (by decide)) (P (by decide))
    | with_reducible refine Moves.leavePort ?_ (O (by decide)) (P (by decide))
    | with_reducible refine Moves.foldl ?_ (fun d a => ?_)
    | with_reducible refine Moves.ite (fun _ => ?_) (fun _ => ?_)
    | with_reducible refine Moves.ite1 (fun _ => ?_) (fun _ => ?_)
    | split
    | dsimp only

def objs_removeCircuits : Nat := 0x340000001c000000002000000000000000000000000000000801180a88000000000000000000000000000000000000000000000000080000000000000000000000c00000040000200001800
def parts_removeCircuits : Nat := 0x80181c1fa1
theorem Moves.removeCircuits {p : Nat} (hM : Moves d₀ e₀ mo mp) (hO : Mask.le objs_removeCircuits mo) (hP : Mask.le parts_removeCircuits mp) :
    Moves d₀ (e₀.removeCircuits p) mo mp := by
  have O {a : Nat} (h : (a &&& objs_removeCircuits == a) = true) := Mask.le_trans h hO
  have P {a : Nat} (h : (a &&& parts_removeCircuits == a) = true) := Mask.le_trans h hP
  unfold Device.removeCircuits
  try simp only
  repeat' first
    | with_reducible exact hM
    | with_reducible exact Moves.refl ..
    | with_reducible refine Moves.removeCircuit ?_ (O (by decide)) (P (by decide))
    | with_reducible refine Moves.foldl ?_ (fun d a => ?_)
    | dsimp only

def objs_bypRemove : Nat := 0x340000001c000000002000000000000000000000000000000c01180a88000000000000000000000000000000000000000000000000080000000000000000000000c00000040000200001800
def parts_bypRemove : Nat := 0x80181c1fa1
theorem Moves.bypRemove {p c : Nat} (hM : Moves d₀ e₀ mo mp) (hO : Mask.le objs_bypRemove mo) (hP : Mask.le parts_bypRemove mp) :
    Moves d₀ (e₀.bypRemove p c) mo mp := by
  have O {a : Nat} (h : (a &&& objs_bypRemove == a) = true) := Mask.le_trans h hO
  have P {a : Nat} (h : (a &&& parts_bypRemove == a) = true) := Mask.le_trans h hP
  have B {k : Nat} (h : objs_bypRemove.testBit k = true) := Mask.bit h hO
  have S {k : Nat} (h : parts_bypRemove.testBit k = true) := Mask.bit h hP
  unfold Device.bypRemove
  try simp only
  repeat' first
    | with_reducible exact hM
    | with_reducible exact Moves.refl ..
    | with_reducible refine Moves.set ?_ (B (by first | decide | (split <;> decide) | (cases m <;> decide))) (by first | decide | (split <;> decide) | (cases m <;> decide))
    | with_reducible refine Moves.removeCircuit ?_ (O (by decide)) (P (by decide))
    | with_reducible refine Moves.ite (fun _ => ?_) (fun _ => ?_)
    | with_reducible refine Moves.ite1 (fun _ => ?_) (fun _ => ?_)
    | split
    | dsimp only

def objs_windowIntake : Nat := 0x3400000000000000000000000000000000001000000000000001180a8800000000000000000000000100000000e8020006606cb80120021ff3e4000000000000c7e02103c7e800200000000
def parts_windowIntake : Nat := 0x178ffff9
theorem Moves.windowIntake {p n : Nat} {f : Frame} (hM : Moves d₀ e₀ mo mp) (hO : Mask.le objs_windowIntake mo) (hP : Mask.le parts_windowIntake mp) :
    Moves d₀ (e₀.windowIntake p n f) mo mp := by
  have O {a : Nat} (h : (a &&& objs_windowIntake == a) = true) := Mask.le_trans h hO
  have P {a : Nat} (h : (a &&& parts_windowIntake == a) = true) := Mask.le_trans h hP
  have S {k : Nat} (h : parts_windowIntake.testBit k = true) := Mask.bit h hP
  unfold Device.windowIntake
  try simp only
  repeat' first
    | with_reducible exact hM
    | with_reducible exact Moves.refl ..
    | with_reducible refine Moves.setPort ?_ (O (by decide)) (P (by decide))
    | with_reducible refine Moves.intake ?_ (O (by decide)) (P (by decide))
    | with_reducible refine Moves.ite (fun _ => ?_) (fun _ => ?_)
    | with_reducible refine Moves.ite1 (fun _ => ?_) (fun _ => ?_)
    | split
    | with_reducible refine Moves.with_frames ?_ (S (by decide))
    | dsimp only

def objs_windowFrame : Nat := 0x3400000000000000000000000000000000001000000000180001180a8800000000000000000000000100000000e8020006606cb80120021ff3e4000000000000c7e02103c7e800200300000
def parts_windowFrame : Nat := 0x178ffff9
theorem Moves.windowFrame {p n : Nat} {f : Frame} (hM : Moves d₀ e₀ mo mp) (hO : Mask.le objs_windowFrame mo) (hP : Mask.le parts_windowFrame mp) :
    Moves d₀ (e₀.windowFrame p n f) mo mp := by
  have O {a : Nat} (h : (a &&& objs_windowFrame == a) = true) := Mask.le_trans h hO
  have P {a : Nat} (h : (a &&& parts_windowFrame == a) = true) := Mask.le_trans h hP
  have B {k : Nat} (h : objs_windowFrame.testBit k = true) := Mask.bit h hO
  have S {k : Nat} (h : parts_windowFrame.testBit k = true) := Mask.bit h hP
  unfold Device.windowFrame
  try simp only
  repeat' first
    | with_reducible exact hM
    | with_reducible exact Moves.refl ..
    | with_reducible refine Moves.bump ?_ (B (by decide)) (by decide) (S (by decide))
    | with_reducible refine Moves.count ?_ (B (by decide)) (by decide) (S (by decide))
    | with_reducible refine Moves.setPort ?_ (O (by decide)) (P (by decide))
    | with_reducible refine Moves.windowIntake ?_ (O (by decide)) (P (by decide))
    | with_reducible refine Moves.notIdle ?_ (O (by decide)) (P (by decide))
    | with_reducible refine Moves.ite (fun _ => ?_) (fun _ => ?_)
    | with_reducible refine Moves.ite1 (fun _ => ?_) (fun _ => ?_)
    | split
    | dsimp only

def objs_gclCommit : Nat := 0x340000000000000000000000002b800000000000000000000000000000000000000000000000000000000000000000000000000000000000000000001400000000000000000000000000000
def parts_gclCommit : Nat := 0x802a1
theorem Moves.gclCommit {p ses : Nat} (hM : Moves d₀ e₀ mo mp) (hO : Mask.le objs_gclCommit mo) (hP : Mask.le parts_gclCommit mp) :
    Moves d₀ (e₀.gclCommit p ses).1 mo mp := by
  have O {a : Nat} (h : (a &&& objs_gclCommit == a) = true) := Mask.le_trans h hO
  have P {a : Nat} (h : (a &&& parts_gclCommit == a) = true) := Mask.le_trans h hP
  have B {k : Nat} (h : objs_gclCommit.testBit k = true) := Mask.bit h hO
  have S {k : Nat} (h : parts_gclCommit.testBit k = true) := Mask.bit h hP
  unfold Device.gclCommit
  try simp only
  repeat' first
    | with_reducible exact hM
    | with_reducible exact Moves.refl ..
    | with_reducible refine Moves.set ?_ (B (by decide)) (by decide)
    | with_reducible refine Moves.bump ?_ (B (by decide)) (by decide) (S (by decide))
    | with_reducible refine Moves.setOutp ?_ (O (by decide)) (P (by decide))
    | with_reducible refine Moves.journal ?_ (O (by decide)) (P (by decide))
    | with_reducible refine Moves.foldl ?_ (fun d a => ?_)
    | with_reducible refine Moves.ite (fun _ => ?_) (fun _ => ?_)
    | with_reducible refine Moves.ite1 (fun _ => ?_) (fun _ => ?_)
    | split
    | dsimp only


def objs_retirePlane : Nat := 0x340000001c000000003000c0002b800000003000040000000801180a880000000000003e00208000015fb20002e8020006606cb80128021ff3e4000000000000c7e02103c7e800200001800
def parts_retirePlane : Nat := 0x80ff9ffff9
theorem Moves.retirePlane {p unit : Nat} (hM : Moves d₀ e₀ mo mp) (hO : Mask.le objs_retirePlane mo) (hP : Mask.le parts_retirePlane mp) :
    Moves d₀ (e₀.retirePlane p unit) mo mp := by
  have O {a : Nat} (h : (a &&& objs_retirePlane == a) = true) := Mask.le_trans h hO
  have P {a : Nat} (h : (a &&& parts_retirePlane == a) = true) := Mask.le_trans h hP
  unfold Device.retirePlane
  try simp only
  repeat' first
    | with_reducible exact hM
    | with_reducible exact Moves.refl ..
    | with_reducible refine Moves.emit ?_ (O (by decide)) (P (by decide))
    | with_reducible refine Moves.causeSwitch ?_ (O (by decide)) (P (by decide))
    | with_reducible refine Moves.causeHealth ?_ (O (by decide)) (P (by decide))
    | with_reducible refine Moves.setPlane ?_ (O (by decide)) (P (by decide))
    | with_reducible refine Moves.removeCircuits ?_ (O (by decide)) (P (by decide))
    | with_reducible refine Moves.goOof ?_ (O (by decide)) (P (by decide))
    | with_reducible refine Moves.leavePort ?_ (O (by decide)) (P (by decide))
    | with_reducible refine Moves.reviewReasons ?_ (O (by decide)) (P (by decide))
    | with_reducible refine Moves.logRetire ?_ (O (by decide)) (P (by decide))
    | with_reducible refine Moves.setChanState ?_ (O (by decide)) (P (by decide))
    | with_reducible refine Moves.foldl ?_ (fun d a => ?_)
    | with_reducible refine Moves.ite (fun _ => ?_) (fun _ => ?_)
    | with_reducible refine Moves.ite1 (fun _ => ?_) (fun _ => ?_)
    | split
    | dsimp only

def objs_refreshGroup : Nat := 0x340000001c000000002000000000000000003000040000000001180a880000000000003e00e08000015fb20002e8021c06606cb80128039ff3e4000000000000c7e02103c7e800200000000
def parts_refreshGroup : Nat := 0x80ff9ffff9
theorem Moves.refreshGroup {p g : Nat} (hM : Moves d₀ e₀ mo mp) (hO : Mask.le objs_refreshGroup mo) (hP : Mask.le parts_refreshGroup mp) :
    Moves d₀ (e₀.refreshGroup p g) mo mp := by
  have O {a : Nat} (h : (a &&& objs_refreshGroup == a) = true) := Mask.le_trans h hO
  have P {a : Nat} (h : (a &&& parts_refreshGroup == a) = true) := Mask.le_trans h hP
  have B {k : Nat} (h : objs_refreshGroup.testBit k = true) := Mask.bit h hO
  have S {k : Nat} (h : parts_refreshGroup.testBit k = true) := Mask.bit h hP
  unfold Device.refreshGroup
  try simp only
  repeat' first
    | with_reducible exact hM
    | with_reducible exact Moves.refl ..
    | with_reducible refine Moves.set ?_ (B (by first | decide | (split <;> decide))) (by first | decide | (split <;> decide))
    | with_reducible refine Moves.causeSwitch ?_ (O (by decide)) (P (by decide))
    | with_reducible refine Moves.goOof ?_ (O (by decide)) (P (by decide))
    | with_reducible refine Moves.lhRefresh ?_ (O (by decide)) (P (by decide))
    | with_reducible refine Moves.foldl ?_ (fun d a => ?_)
    | with_reducible refine Moves.ite (fun _ => ?_) (fun _ => ?_)
    | with_reducible refine Moves.ite1 (fun _ => ?_) (fun _ => ?_)
    | split
    | dsimp only

def objs_takeSpare : Nat := 0x340000001c000000003000000000000000003000040000000001180a880000000000003e00e08000015fb20002e8021c06606cb80128039ff3e4000000000000c7e02103c7e800200000000
def parts_takeSpare : Nat := 0xa0ff9ffff9
theorem Moves.takeSpare {p g u s : Nat} (hM : Moves d₀ e₀ mo mp) (hO : Mask.le objs_takeSpare mo) (hP : Mask.le parts_takeSpare mp) :
    Moves d₀ (e₀.takeSpare p g u s) mo mp := by
  have O {a : Nat} (h : (a &&& objs_takeSpare == a) = true) := Mask.le_trans h hO
  have P {a : Nat} (h : (a &&& parts_takeSpare == a) = true) := Mask.le_trans h hP
  unfold Device.takeSpare
  try simp only
  repeat' first
    | with_reducible exact hM
    | with_reducible exact Moves.refl ..
    | with_reducible refine Moves.setStands ?_ (O (by decide)) (P (by decide))
    | with_reducible refine Moves.causeHealth ?_ (O (by decide)) (P (by decide))
    | with_reducible refine Moves.refreshGroup ?_ (O (by decide)) (P (by decide))
    | with_reducible refine Moves.setChanState ?_ (O (by decide)) (P (by decide))
    | with_reducible refine Moves.ite (fun _ => ?_) (fun _ => ?_)
    | with_reducible refine Moves.ite1 (fun _ => ?_) (fun _ => ?_)
    | split
    | dsimp only

def objs_returnUnit : Nat := 0x340000001c000000003000000000000000003000040000000001180a880000000000003e00e08000015fb20002e8021c06606cb80128039ff3e4000000000000c7e02103c7e800200000000
def parts_returnUnit : Nat := 0xa0ff9ffff9
theorem Moves.returnUnit {p g u : Nat} (hM : Moves d₀ e₀ mo mp) (hO : Mask.le objs_returnUnit mo) (hP : Mask.le parts_returnUnit mp) :
    Moves d₀ (e₀.returnUnit p g u) mo mp := by
  have O {a : Nat} (h : (a &&& objs_returnUnit == a) = true) := Mask.le_trans h hO
  have P {a : Nat} (h : (a &&& parts_returnUnit == a) = true) := Mask.le_trans h hP
  unfold Device.returnUnit
  try simp only
  repeat' first
    | with_reducible exact hM
    | with_reducible exact Moves.refl ..
    | with_reducible refine Moves.setStands ?_ (O (by decide)) (P (by decide))
    | with_reducible refine Moves.refreshGroup ?_ (O (by decide)) (P (by decide))
    | with_reducible refine Moves.setChanState ?_ (O (by decide)) (P (by decide))
    | dsimp only

def objs_retireReducer : Nat := 0x340000000000000000000000000000000000000000000000000000000000000000000000000000000000000000e8020006606cb80100025ff3e4000000000000c7e00100028000000000000
def parts_retireReducer : Nat := 0x78edbf9
theorem Moves.retireReducer {p c : Nat} (hM : Moves d₀ e₀ mo mp) (hO : Mask.le objs_retireReducer mo) (hP : Mask.le parts_retireReducer mp) :
    Moves d₀ (e₀.retireReducer p c) mo mp := by
  have O {a : Nat} (h : (a &&& objs_retireReducer == a) = true) := Mask.le_trans h hO
  have P {a : Nat} (h : (a &&& parts_retireReducer == a) = true) := Mask.le_trans h hP
  have B {k : Nat} (h : objs_retireReducer.testBit k = true) := Mask.bit h hO
  have S {k : Nat} (h : parts_retireReducer.testBit k = true) := Mask.bit h hP
  unfold Device.retireReducer
  try simp only
  repeat' first
    | with_reducible exact hM
    | with_reducible exact Moves.refl ..
    | with_reducible refine Moves.set ?_ (B (by decide)) (by decide)
    | with_reducible refine Moves.ctxEvent ?_ (O (by decide)) (P (by decide))
    | with_reducible refine Moves.failCtx ?_ (O (by decide)) (P (by decide))
    | with_reducible refine Moves.foldl ?_ (fun d a => ?_)
    | with_reducible refine Moves.ite (fun _ => ?_) (fun _ => ?_)
    | with_reducible refine Moves.ite1 (fun _ => ?_) (fun _ => ?_)
    | split
    | dsimp only

def objs_markRetired : Nat := 0x340000000000000000100000002b800000000000000000000000000000000000000000000000000000000000000000000000000000000000000000000000000000000000000000000000000
def parts_markRetired : Nat := 0x3a1
theorem Moves.markRetired {p ch : Nat} (hM : Moves d₀ e₀ mo mp) (hO : Mask.le objs_markRetired mo) (hP : Mask.le parts_markRetired mp) :
    Moves d₀ (e₀.markRetired p ch) mo mp := by
  have O {a : Nat} (h : (a &&& objs_markRetired == a) = true) := Mask.le_trans h hO
  have P {a : Nat} (h : (a &&& parts_markRetired == a) = true) := Mask.le_trans h hP
  unfold Device.markRetired
  try simp only
  repeat' first
    | with_reducible exact hM
    | with_reducible exact Moves.refl ..
    | with_reducible refine Moves.causeHealth ?_ (O (by decide)) (P (by decide))
    | with_reducible refine Moves.logRetire ?_ (O (by decide)) (P (by decide))
    | with_reducible refine Moves.setChanState ?_ (O (by decide)) (P (by decide))
    | dsimp only

def objs_reviewChiplet : Nat := 0x340000001c000000002000000000000000000000000000000801180a88000000000000000000000000000000000000000000000000080000000000000000000000c00000040000200001800
def parts_reviewChiplet : Nat := 0x80181c1fa1
theorem Moves.reviewChiplet {p c : Nat} (hM : Moves d₀ e₀ mo mp) (hO : Mask.le objs_reviewChiplet mo) (hP : Mask.le parts_reviewChiplet mp) :
    Moves d₀ (e₀.reviewChiplet p c) mo mp := by
  have O {a : Nat} (h : (a &&& objs_reviewChiplet == a) = true) := Mask.le_trans h hO
  have P {a : Nat} (h : (a &&& parts_reviewChiplet == a) = true) := Mask.le_trans h hP
  unfold Device.reviewChiplet
  try simp only
  repeat' first
    | with_reducible exact hM
    | with_reducible exact Moves.refl ..
    | with_reducible refine Moves.causeHealth ?_ (O (by decide)) (P (by decide))
    | with_reducible refine Moves.removeCircuit ?_ (O (by decide)) (P (by decide))
    | with_reducible refine Moves.holdPort ?_ (O (by decide)) (P (by decide))
    | with_reducible refine Moves.foldl ?_ (fun d a => ?_)
    | with_reducible refine Moves.ite (fun _ => ?_) (fun _ => ?_)
    | with_reducible refine Moves.ite1 (fun _ => ?_) (fun _ => ?_)
    | split
    | dsimp only

def objs_retirePort : Nat := 0x340000001c00000000300000002b800000000000000000000801180a88000000000000000000000000000000000000000000000000080000000000000000000000c00000040000200001800
def parts_retirePort : Nat := 0x80181c1fa1
theorem Moves.retirePort {p n : Nat} (hM : Moves d₀ e₀ mo mp) (hO : Mask.le objs_retirePort mo) (hP : Mask.le parts_retirePort mp) :
    Moves d₀ (e₀.retirePort p n) mo mp := by
  have O {a : Nat} (h : (a &&& objs_retirePort == a) = true) := Mask.le_trans h hO
  have P {a : Nat} (h : (a &&& parts_retirePort == a) = true) := Mask.le_trans h hP
  unfold Device.retirePort
  try simp only
  repeat' first
    | with_reducible exact hM
    | with_reducible exact Moves.refl ..
    | with_reducible refine Moves.causeFabric ?_ (O (by decide)) (P (by decide))
    | with_reducible refine Moves.reviewChiplet ?_ (O (by decide)) (P (by decide))
    | with_reducible refine Moves.markRetired ?_ (O (by decide)) (P (by decide))
    | with_reducible refine Moves.removeCircuit ?_ (O (by decide)) (P (by decide))
    | with_reducible refine Moves.holdPort ?_ (O (by decide)) (P (by decide))
    | with_reducible refine Moves.ite (fun _ => ?_) (fun _ => ?_)
    | with_reducible refine Moves.ite1 (fun _ => ?_) (fun _ => ?_)
    | split
    | dsimp only

def objs_retireLane : Nat := 0x340000001c00000000300000002b800000000000000000000801180a88000000000000000000000000000000000000000000000000080000000000000000000000c00000040000200003800
def parts_retireLane : Nat := 0x80181c1fa1
theorem Moves.retireLane {p n k : Nat} (hM : Moves d₀ e₀ mo mp) (hO : Mask.le objs_retireLane mo) (hP : Mask.le parts_retireLane mp) :
    Moves d₀ (e₀.retireLane p n k) mo mp := by
  have O {a : Nat} (h : (a &&& objs_retireLane == a) = true) := Mask.le_trans h hO
  have P {a : Nat} (h : (a &&& parts_retireLane == a) = true) := Mask.le_trans h hP
  have B {k : Nat} (h : objs_retireLane.testBit k = true) := Mask.bit h hO
  have S {k : Nat} (h : parts_retireLane.testBit k = true) := Mask.bit h hP
  unfold Device.retireLane
  try simp only
  repeat' first
    | with_reducible exact hM
    | with_reducible exact Moves.refl ..
    | with_reducible refine Moves.set ?_ (B (by decide)) (by decide)
    | with_reducible refine Moves.retirePort ?_ (O (by decide)) (P (by decide))
    | with_reducible refine Moves.markRetired ?_ (O (by decide)) (P (by decide))
    | with_reducible refine Moves.windowEnd ?_ (O (by decide)) (P (by decide))
    | with_reducible refine Moves.laneRetrain ?_ (O (by decide)) (P (by decide))
    | with_reducible refine Moves.foldl ?_ (fun d a => ?_)
    | with_reducible refine Moves.ite (fun _ => ?_) (fun _ => ?_)
    | with_reducible refine Moves.ite1 (fun _ => ?_) (fun _ => ?_)
    | split
    | dsimp only

def objs_retireKite : Nat := 0x4400000040000000000
def parts_retireKite : Nat := 0x8000
theorem Moves.retireKite {p r k : Nat} (hM : Moves d₀ e₀ mo mp) (hO : Mask.le objs_retireKite mo) (hP : Mask.le parts_retireKite mp) :
    Moves d₀ (e₀.retireKite p r k) mo mp := by
  have O {a : Nat} (h : (a &&& objs_retireKite == a) = true) := Mask.le_trans h hO
  have P {a : Nat} (h : (a &&& parts_retireKite == a) = true) := Mask.le_trans h hP
  unfold Device.retireKite
  try simp only
  repeat' first
    | with_reducible exact hM
    | with_reducible exact Moves.refl ..
    | with_reducible refine Moves.setRow ?_ (O (by decide)) (P (by decide))
    | with_reducible refine Moves.handOver ?_ (O (by decide)) (P (by decide))
    | with_reducible refine Moves.setKiteState ?_ (O (by decide)) (P (by decide))
    | with_reducible refine Moves.ite (fun _ => ?_) (fun _ => ?_)
    | with_reducible refine Moves.ite1 (fun _ => ?_) (fun _ => ?_)
    | split
    | dsimp only

def objs_retireUnit : Nat := 0x340000001c000000003000000000000000003000040000000001180a880000000000003e00e08000015fb20002e8021c06606cb8012803dff3e4000000000000c7e02103c7e800200000000
def parts_retireUnit : Nat := 0xa0ff9ffff9
theorem Moves.retireUnit {p g u : Nat} (hM : Moves d₀ e₀ mo mp) (hO : Mask.le objs_retireUnit mo) (hP : Mask.le parts_retireUnit mp) :
    Moves d₀ (e₀.retireUnit p g u) mo mp := by
  have O {a : Nat} (h : (a &&& objs_retireUnit == a) = true) := Mask.le_trans h hO
  have P {a : Nat} (h : (a &&& parts_retireUnit == a) = true) := Mask.le_trans h hP
  unfold Device.retireUnit
  try simp only
  repeat' first
    | with_reducible exact hM
    | with_reducible exact Moves.refl ..
    | with_reducible refine Moves.retireReducer ?_ (O (by decide)) (P (by decide))
    | with_reducible refine Moves.takeSpare ?_ (O (by decide)) (P (by decide))
    | with_reducible refine Moves.refreshGroup ?_ (O (by decide)) (P (by decide))
    | with_reducible refine Moves.ite (fun _ => ?_) (fun _ => ?_)
    | with_reducible refine Moves.ite1 (fun _ => ?_) (fun _ => ?_)
    | split
    | dsimp only

def objs_retireChannel : Nat := 0x340000001c000000003000c0002b800000003000040000000801180a880000000000003e00e08000015fb20002e8021c06606cb8012803dff3e4000000000000c7e06503c7e840200003800
def parts_retireChannel : Nat := 0xa0ff9ffff9
theorem Moves.retireChannel {p ch : Nat} (hM : Moves d₀ e₀ mo mp) (hO : Mask.le objs_retireChannel mo) (hP : Mask.le parts_retireChannel mp) :
    Moves d₀ (e₀.retireChannel p ch) mo mp := by
  have O {a : Nat} (h : (a &&& objs_retireChannel == a) = true) := Mask.le_trans h hO
  have P {a : Nat} (h : (a &&& parts_retireChannel == a) = true) := Mask.le_trans h hP
  unfold Device.retireChannel
  try simp only
  repeat' first
    | with_reducible exact hM
    | with_reducible exact Moves.refl ..
    | with_reducible refine Moves.setPlane ?_ (O (by decide)) (P (by decide))
    | with_reducible refine Moves.retireUnit ?_ (O (by decide)) (P (by decide))
    | with_reducible refine Moves.retireKite ?_ (O (by decide)) (P (by decide))
    | with_reducible refine Moves.retireLane ?_ (O (by decide)) (P (by decide))
    | with_reducible refine Moves.retirePort ?_ (O (by decide)) (P (by decide))
    | with_reducible refine Moves.markRetired ?_ (O (by decide)) (P (by decide))
    | with_reducible refine Moves.retirePlane ?_ (O (by decide)) (P (by decide))
    | with_reducible refine Moves.leaveBundle ?_ (O (by decide)) (P (by decide))
    | with_reducible refine Moves.lhRefresh ?_ (O (by decide)) (P (by decide))
    | with_reducible refine Moves.reviewReasons ?_ (O (by decide)) (P (by decide))
    | with_reducible refine Moves.ite (fun _ => ?_) (fun _ => ?_)
    | with_reducible refine Moves.ite1 (fun _ => ?_) (fun _ => ?_)
    | split
    | dsimp only

def objs_portSlice : Nat := 0x0
def parts_portSlice : Nat := 0x80000
theorem Moves.portSlice {p o : Nat} (hM : Moves d₀ e₀ mo mp) (hO : Mask.le objs_portSlice mo) (hP : Mask.le parts_portSlice mp) :
    Moves d₀ (e₀.portSlice p o) mo mp := by
  have O {a : Nat} (h : (a &&& objs_portSlice == a) = true) := Mask.le_trans h hO
  have P {a : Nat} (h : (a &&& parts_portSlice == a) = true) := Mask.le_trans h hP
  unfold Device.portSlice
  try simp only
  repeat' first
    | with_reducible exact hM
    | with_reducible exact Moves.refl ..
    | with_reducible refine Moves.setOutp ?_ (O (by decide)) (P (by decide))
    | dsimp only

def objs_bistNext : Nat := 0x118000000000000000000000000000000000000000000000000000000000000000000000000000000000000000000000000000000000000000000000000000000000000000
def parts_bistNext : Nat := 0x1000080000
theorem Moves.bistNext {p : Nat} (hM : Moves d₀ e₀ mo mp) (hO : Mask.le objs_bistNext mo) (hP : Mask.le parts_bistNext mp) :
    Moves d₀ (e₀.bistNext p) mo mp := by
  have O {a : Nat} (h : (a &&& objs_bistNext == a) = true) := Mask.le_trans h hO
  have P {a : Nat} (h : (a &&& parts_bistNext == a) = true) := Mask.le_trans h hP
  have B {k : Nat} (h : objs_bistNext.testBit k = true) := Mask.bit h hO
  have S {k : Nat} (h : parts_bistNext.testBit k = true) := Mask.bit h hP
  unfold Device.bistNext
  try simp only
  repeat' first
    | with_reducible exact hM
    | with_reducible exact Moves.refl ..
    | with_reducible refine Moves.set ?_ (B (by decide)) (by decide)
    | with_reducible refine Moves.setBist ?_ (O (by decide)) (P (by decide))
    | with_reducible refine Moves.portSlice ?_ (O (by decide)) (P (by decide))
    | with_reducible refine Moves.foldl ?_ (fun d a => ?_)
    | with_reducible refine Moves.ite (fun _ => ?_) (fun _ => ?_)
    | with_reducible refine Moves.ite1 (fun _ => ?_) (fun _ => ?_)
    | split
    | dsimp only

def objs_abortTest : Nat := 0x340000001c000118003000000000000000003000040000000001180a880000000000003e00e08000015fb20002e8021c06606cb80128039ff3e4000000000000c7e02103c7e800200000000
def parts_abortTest : Nat := 0xb0ff9ffff9
theorem Moves.abortTest {p g : Nat} (hM : Moves d₀ e₀ mo mp) (hO : Mask.le objs_abortTest mo) (hP : Mask.le parts_abortTest mp) :
    Moves d₀ (e₀.abortTest p g) mo mp := by
  have O {a : Nat} (h : (a &&& objs_abortTest == a) = true) := Mask.le_trans h hO
  have P {a : Nat} (h : (a &&& parts_abortTest == a) = true) := Mask.le_trans h hP
  unfold Device.abortTest
  try simp only
  repeat' first
    | with_reducible exact hM
    | with_reducible exact Moves.refl ..
    | with_reducible refine Moves.bistNext ?_ (O (by decide)) (P (by decide))
    | with_reducible refine Moves.returnUnit ?_ (O (by decide)) (P (by decide))
    | split
    | dsimp only

def objs_bistFail : Nat := 0x340000001c000158003000c0002b800000003000040000000001180a880000000000003e00e08000015fb20002e8021c06606cb80128039ff3e4000000000000c7e02503c7e800200000000
def parts_bistFail : Nat := 0x90ff9ffff9
theorem Moves.bistFail {p u : Nat} (hM : Moves d₀ e₀ mo mp) (hO : Mask.le objs_bistFail mo) (hP : Mask.le parts_bistFail mp) :
    Moves d₀ (e₀.bistFail p u) mo mp := by
  have O {a : Nat} (h : (a &&& objs_bistFail == a) = true) := Mask.le_trans h hO
  have P {a : Nat} (h : (a &&& parts_bistFail == a) = true) := Mask.le_trans h hP
  have B {k : Nat} (h : objs_bistFail.testBit k = true) := Mask.bit h hO
  have S {k : Nat} (h : parts_bistFail.testBit k = true) := Mask.bit h hP
  unfold Device.bistFail
  try simp only
  repeat' first
    | with_reducible exact hM
    | with_reducible exact Moves.refl ..
    | with_reducible refine Moves.bump ?_ (B (by decide)) (by decide) (S (by decide))
    | with_reducible refine Moves.setBist ?_ (O (by decide)) (P (by decide))
    | with_reducible refine Moves.causeHealth ?_ (O (by decide)) (P (by decide))
    | with_reducible refine Moves.bistNext ?_ (O (by decide)) (P (by decide))
    | with_reducible refine Moves.markRetired ?_ (O (by decide)) (P (by decide))
    | with_reducible refine Moves.refreshGroup ?_ (O (by decide)) (P (by decide))
    | with_reducible refine Moves.setKiteState ?_ (O (by decide)) (P (by decide))
    | with_reducible refine Moves.reviewReasons ?_ (O (by decide)) (P (by decide))
    | with_reducible refine Moves.ite (fun _ => ?_) (fun _ => ?_)
    | with_reducible refine Moves.ite1 (fun _ => ?_) (fun _ => ?_)
    | split
    | dsimp only

def objs_unitFault : Nat := 0x340000001c000158003000c0002b800000003000040000000801180a880000000000003e00e08000015fb20002e8021c06606cb80128039ff3e4000000000000c7e02503c7e800200001800
def parts_unitFault : Nat := 0xb0ff9ffff9
theorem Moves.unitFault {p g u : Nat} (hM : Moves d₀ e₀ mo mp) (hO : Mask.le objs_unitFault mo) (hP : Mask.le parts_unitFault mp) :
    Moves d₀ (e₀.unitFault p g u).1 mo mp := by
  have O {a : Nat} (h : (a &&& objs_unitFault == a) = true) := Mask.le_trans h hO
  have P {a : Nat} (h : (a &&& parts_unitFault == a) = true) := Mask.le_trans h hP
  unfold Device.unitFault
  try simp only
  repeat' first
    | with_reducible exact hM
    | with_reducible exact Moves.refl ..
    | (refine Moves.getD ?_ (fun r hr => ?_))
    | with_reducible refine Moves.bistFail ?_ (O (by decide)) (P (by decide))
    | with_reducible refine Moves.abortTest ?_ (O (by decide)) (P (by decide))
    | with_reducible refine Moves.markRetired ?_ (O (by decide)) (P (by decide))
    | with_reducible refine Moves.refreshGroup ?_ (O (by decide)) (P (by decide))
    | with_reducible refine Moves.retirePlane ?_ (O (by decide)) (P (by decide))
    | with_reducible refine Moves.chanFault ?_ (O (by decide)) (P (by decide))
    | with_reducible refine Moves.setChanState ?_ (O (by decide)) (P (by decide))
    | with_reducible refine Moves.ite (fun _ => ?_) (fun _ => ?_)
    | with_reducible refine Moves.ite1 (fun _ => ?_) (fun _ => ?_)
    | split
    | dsimp only

def objs_substitute : Nat := 0x340000001c000000003000c00000000000003000040000000001180a880000000000003e00e08000015fb20002e8021c06606cb80128039ff3e4000000000000c7e02103c7e800200000000
def parts_substitute : Nat := 0xa0ff9ffff9
theorem Moves.substitute {p g u : Nat} (hM : Moves d₀ e₀ mo mp) (hO : Mask.le objs_substitute mo) (hP : Mask.le parts_substitute mp) :
    Moves d₀ (e₀.substitute p g u) mo mp := by
  have O {a : Nat} (h : (a &&& objs_substitute == a) = true) := Mask.le_trans h hO
  have P {a : Nat} (h : (a &&& parts_substitute == a) = true) := Mask.le_trans h hP
  unfold Device.substitute
  try simp only
  repeat' first
    | with_reducible exact hM
    | with_reducible exact Moves.refl ..
    | with_reducible refine Moves.takeSpare ?_ (O (by decide)) (P (by decide))
    | with_reducible refine Moves.reviewReasons ?_ (O (by decide)) (P (by decide))
    | split
    | dsimp only

def objs_laneFault : Nat := 0x340000001c000158003000c0002b800000003000040000000801180a880000000000003e00e08000015fb20002e8021c06606cb8012803dff3e4000000000000c7e02503c7e800200001800
def parts_laneFault : Nat := 0xb0ff9ffff9
theorem Moves.laneFault {p c lane : Nat} (hM : Moves d₀ e₀ mo mp) (hO : Mask.le objs_laneFault mo) (hP : Mask.le parts_laneFault mp) :
    Moves d₀ (e₀.laneFault p c lane) mo mp := by
  have O {a : Nat} (h : (a &&& objs_laneFault == a) = true) := Mask.le_trans h hO
  have P {a : Nat} (h : (a &&& parts_laneFault == a) = true) := Mask.le_trans h hP
  unfold Device.laneFault
  try simp only
  repeat' first
    | with_reducible exact hM
    | with_reducible exact Moves.refl ..
    | with_reducible refine Moves.unitFault ?_ (O (by decide)) (P (by decide))
    | with_reducible refine Moves.markRetired ?_ (O (by decide)) (P (by decide))
    | with_reducible refine Moves.retireReducer ?_ (O (by decide)) (P (by decide))
    | with_reducible refine Moves.refreshGroup ?_ (O (by decide)) (P (by decide))
    | with_reducible refine Moves.ctxEvent ?_ (O (by decide)) (P (by decide))
    | with_reducible refine Moves.abortCtx ?_ (O (by decide)) (P (by decide))
    | with_reducible refine Moves.reviewReasons ?_ (O (by decide)) (P (by decide))
    | with_reducible refine Moves.foldl ?_ (fun d a => ?_)
    | with_reducible refine Moves.ite (fun _ => ?_) (fun _ => ?_)
    | with_reducible refine Moves.ite1 (fun _ => ?_) (fun _ => ?_)
    | split
    | dsimp only

def objs_laneStandIn : Nat := 0x340000001c000000003000c00000000000003000040000000001180a880000000000003e00e08000015fb20002e8021c06606cb80128039ff3e4000000000000c7e02103c7e800200000000
def parts_laneStandIn : Nat := 0xa0ff9ffff9
theorem Moves.laneStandIn {p c lane : Nat} (hM : Moves d₀ e₀ mo mp) (hO : Mask.le objs_laneStandIn mo) (hP : Mask.le parts_laneStandIn mp) :
    Moves d₀ (e₀.laneStandIn p c lane) mo mp := by
  have O {a : Nat} (h : (a &&& objs_laneStandIn == a) = true) := Mask.le_trans h hO
  have P {a : Nat} (h : (a &&& parts_laneStandIn == a) = true) := Mask.le_trans h hP
  unfold Device.laneStandIn
  try simp only
  repeat' first
    | with_reducible exact hM
    | with_reducible exact Moves.refl ..
    | with_reducible refine Moves.setRctx ?_ (O (by decide)) (P (by decide))
    | with_reducible refine Moves.substitute ?_ (O (by decide)) (P (by decide))
    | with_reducible refine Moves.resumeSlot ?_ (O (by decide)) (P (by decide))
    | with_reducible refine Moves.run ?_ (O (by decide)) (P (by decide))
    | with_reducible refine Moves.ctxNotice ?_ (O (by decide)) (P (by decide))
    | with_reducible refine Moves.restartCtx ?_ (O (by decide)) (P (by decide))
    | with_reducible refine Moves.hold ?_ (O (by decide)) (P (by decide))
    | with_reducible refine Moves.foldl ?_ (fun d a => ?_)
    | with_reducible refine Moves.ite (fun _ => ?_) (fun _ => ?_)
    | with_reducible refine Moves.ite1 (fun _ => ?_) (fun _ => ?_)
    | split
    | dsimp only

def objs_tileAbort : Nat := 0x340000000000000000000000000000000000000000000000000000000000000000000000000000000000000000e8120006606cb80100021ff3e4000000000000c7e00100028000000000000
def parts_tileAbort : Nat := 0x78edbf9
theorem Moves.tileAbort {p : Nat} (hM : Moves d₀ e₀ mo mp) (hO : Mask.le objs_tileAbort mo) (hP : Mask.le parts_tileAbort mp) :
    Moves d₀ (e₀.tileAbort p) mo mp := by
  have O {a : Nat} (h : (a &&& objs_tileAbort == a) = true) := Mask.le_trans h hO
  have P {a : Nat} (h : (a &&& parts_tileAbort == a) = true) := Mask.le_trans h hP
  have B {k : Nat} (h : objs_tileAbort.testBit k = true) := Mask.bit h hO
  have S {k : Nat} (h : parts_tileAbort.testBit k = true) := Mask.bit h hP
  unfold Device.tileAbort
  try simp only
  repeat' first
    | with_reducible exact hM
    | with_reducible exact Moves.refl ..
    | with_reducible refine Moves.bump ?_ (B (by decide)) (by decide) (S (by decide))
    | with_reducible refine Moves.abortAnd ?_ (O (by decide)) (P (by decide))
    | with_reducible refine Moves.foldl ?_ (fun d a => ?_)
    | dsimp only

def objs_tileFault : Nat := 0x340000001c000158003000c0002b800000003000040000000801180a880000000000003e00e08000015fb20002e8121c06606cb80128039ff3e4000000000000c7e02503c7e800200001800
def parts_tileFault : Nat := 0xb0ff9ffff9
theorem Moves.tileFault {p t : Nat} (hM : Moves d₀ e₀ mo mp) (hO : Mask.le objs_tileFault mo) (hP : Mask.le parts_tileFault mp) :
    Moves d₀ (e₀.tileFault p t) mo mp := by
  have O {a : Nat} (h : (a &&& objs_tileFault == a) = true) := Mask.le_trans h hO
  have P {a : Nat} (h : (a &&& parts_tileFault == a) = true) := Mask.le_trans h hP
  unfold Device.tileFault
  try simp only
  repeat' first
    | with_reducible exact hM
    | with_reducible exact Moves.refl ..
    | with_reducible refine Moves.tileAbort ?_ (O (by decide)) (P (by decide))
    | with_reducible refine Moves.substitute ?_ (O (by decide)) (P (by decide))
    | with_reducible refine Moves.unitFault ?_ (O (by decide)) (P (by decide))
    | with_reducible refine Moves.ite (fun _ => ?_) (fun _ => ?_)
    | with_reducible refine Moves.ite1 (fun _ => ?_) (fun _ => ?_)
    | split
    | dsimp only

def objs_idleSlot : Nat := 0x0
def parts_idleSlot : Nat := 0xc0000000
theorem Moves.idleSlot {p n k : Nat} (hM : Moves d₀ e₀ mo mp) (hO : Mask.le objs_idleSlot mo) (hP : Mask.le parts_idleSlot mp) :
    Moves d₀ (e₀.idleSlot p n k) mo mp := by
  have O {a : Nat} (h : (a &&& objs_idleSlot == a) = true) := Mask.le_trans h hO
  have P {a : Nat} (h : (a &&& parts_idleSlot == a) = true) := Mask.le_trans h hP
  unfold Device.idleSlot
  try simp only
  repeat' first
    | with_reducible exact hM
    | with_reducible exact Moves.refl ..
    | with_reducible refine Moves.setTether ?_ (O (by decide)) (P (by decide))
    | with_reducible refine Moves.setTrib ?_ (O (by decide)) (P (by decide))
    | with_reducible refine Moves.ite (fun _ => ?_) (fun _ => ?_)
    | with_reducible refine Moves.ite1 (fun _ => ?_) (fun _ => ?_)
    | split
    | dsimp only

def objs_idleInFlight : Nat := 0x0
def parts_idleInFlight : Nat := 0xc0000008
theorem Moves.idleInFlight {p : Nat} (hM : Moves d₀ e₀ mo mp) (hO : Mask.le objs_idleInFlight mo) (hP : Mask.le parts_idleInFlight mp) :
    Moves d₀ (e₀.idleInFlight p) mo mp := by
  have O {a : Nat} (h : (a &&& objs_idleInFlight == a) = true) := Mask.le_trans h hO
  have P {a : Nat} (h : (a &&& parts_idleInFlight == a) = true) := Mask.le_trans h hP
  unfold Device.idleInFlight
  try simp only
  repeat' first
    | with_reducible exact hM
    | with_reducible exact Moves.refl ..
    | with_reducible refine Moves.fresh ?_ (O (by decide)) (P (by decide))
    | with_reducible refine Moves.idleSlot ?_ (O (by decide)) (P (by decide))
    | with_reducible refine Moves.foldl ?_ (fun d a => ?_)
    | with_reducible refine Moves.ite (fun _ => ?_) (fun _ => ?_)
    | with_reducible refine Moves.ite1 (fun _ => ?_) (fun _ => ?_)
    | split
    | dsimp only

def objs_cipherFault : Nat := 0x340000001c000158003000c0002b800000003000040000000801180a880000000000013e00e08000015fb20002e8021c06606cb80128039ff3e4000000000000c7e02503c7e800200001800
def parts_cipherFault : Nat := 0xb0ff9ffff9
theorem Moves.cipherFault {p dir n : Nat} (hM : Moves d₀ e₀ mo mp) (hO : Mask.le objs_cipherFault mo) (hP : Mask.le parts_cipherFault mp) :
    Moves d₀ (e₀.cipherFault p dir n) mo mp := by
  have O {a : Nat} (h : (a &&& objs_cipherFault == a) = true) := Mask.le_trans h hO
  have P {a : Nat} (h : (a &&& parts_cipherFault == a) = true) := Mask.le_trans h hP
  have B {k : Nat} (h : objs_cipherFault.testBit k = true) := Mask.bit h hO
  have S {k : Nat} (h : parts_cipherFault.testBit k = true) := Mask.bit h hP
  unfold Device.cipherFault
  try simp only
  repeat' first
    | with_reducible exact hM
    | with_reducible exact Moves.refl ..
    | with_reducible refine Moves.bump ?_ (B (by decide)) (by decide) (S (by decide))
    | with_reducible refine Moves.causeCipher ?_ (O (by decide)) (P (by decide))
    | with_reducible refine Moves.idleInFlight ?_ (O (by decide)) (P (by decide))
    | with_reducible refine Moves.substitute ?_ (O (by decide)) (P (by decide))
    | with_reducible refine Moves.unitFault ?_ (O (by decide)) (P (by decide))
    | with_reducible refine Moves.ite (fun _ => ?_) (fun _ => ?_)
    | with_reducible refine Moves.ite1 (fun _ => ?_) (fun _ => ?_)
    | split
    | dsimp only

def objs_lossAbort : Nat := 0x340000000000000000000000000000000000000000000000000000000000000000000000000000000000000000e8020006606cb80100021ff3e4000000000000c7e00100028000000000000
def parts_lossAbort : Nat := 0x78edbf9
theorem Moves.lossAbort {p : Nat} {f : FrameRec} (hM : Moves d₀ e₀ mo mp) (hO : Mask.le objs_lossAbort mo) (hP : Mask.le parts_lossAbort mp) :
    Moves d₀ (e₀.lossAbort p f) mo mp := by
  have O {a : Nat} (h : (a &&& objs_lossAbort == a) = true) := Mask.le_trans h hO
  have P {a : Nat} (h : (a &&& parts_lossAbort == a) = true) := Mask.le_trans h hP
  unfold Device.lossAbort
  try simp only
  repeat' first
    | with_reducible exact hM
    | with_reducible exact Moves.refl ..
    | with_reducible refine Moves.abortAnd ?_ (O (by decide)) (P (by decide))
    | split
    | dsimp only

def objs_kiteFault : Nat := 0x340000001c000158003000c0002b800000003000040000000801180a880000000000003e00e08000015fb20002e8021c06606cb80128039ff3e4000000000000c7e02503cfec00200001800
def parts_kiteFault : Nat := 0x90ff9ffff9
theorem Moves.kiteFault {p r c : Nat} (hM : Moves d₀ e₀ mo mp) (hO : Mask.le objs_kiteFault mo) (hP : Mask.le parts_kiteFault mp) :
    Moves d₀ (e₀.kiteFault p r c) mo mp := by
  have O {a : Nat} (h : (a &&& objs_kiteFault == a) = true) := Mask.le_trans h hO
  have P {a : Nat} (h : (a &&& parts_kiteFault == a) = true) := Mask.le_trans h hP
  unfold Device.kiteFault
  try simp only
  repeat' first
    | with_reducible exact hM
    | with_reducible exact Moves.refl ..
    | with_reducible refine Moves.causeHealth ?_ (O (by decide)) (P (by decide))
    | with_reducible refine Moves.lossAbort ?_ (O (by decide)) (P (by decide))
    | with_reducible refine Moves.bistFail ?_ (O (by decide)) (P (by decide))
    | with_reducible refine Moves.bistNext ?_ (O (by decide)) (P (by decide))
    | with_reducible refine Moves.markRetired ?_ (O (by decide)) (P (by decide))
    | with_reducible refine Moves.retirePlane ?_ (O (by decide)) (P (by decide))
    | with_reducible refine Moves.forceSwap ?_ (O (by decide)) (P (by decide))
    | with_reducible refine Moves.setKiteState ?_ (O (by decide)) (P (by decide))
    | with_reducible refine Moves.reviewReasons ?_ (O (by decide)) (P (by decide))
    | with_reducible refine Moves.chanFault ?_ (O (by decide)) (P (by decide))
    | with_reducible refine Moves.setChanState ?_ (O (by decide)) (P (by decide))
    | with_reducible refine Moves.foldl ?_ (fun d a => ?_)
    | with_reducible refine Moves.ite (fun _ => ?_) (fun _ => ?_)
    | with_reducible refine Moves.ite1 (fun _ => ?_) (fun _ => ?_)
    | split
    | dsimp only

def objs_spareKiteFault : Nat := 0x340000001c000158003000c0002b800000003000040000000801180a880000000000003e00e08000015fb20002e8021c06606cb80128039ff3e4000000000000c7e02503c7e800200001800
def parts_spareKiteFault : Nat := 0x90ff9ffff9
theorem Moves.spareKiteFault {p r : Nat} (hM : Moves d₀ e₀ mo mp) (hO : Mask.le objs_spareKiteFault mo) (hP : Mask.le parts_spareKiteFault mp) :
    Moves d₀ (e₀.spareKiteFault p r) mo mp := by
  have O {a : Nat} (h : (a &&& objs_spareKiteFault == a) = true) := Mask.le_trans h hO
  have P {a : Nat} (h : (a &&& parts_spareKiteFault == a) = true) := Mask.le_trans h hP
  unfold Device.spareKiteFault
  try simp only
  repeat' first
    | with_reducible exact hM
    | with_reducible exact Moves.refl ..
    | with_reducible refine Moves.causeSwitch ?_ (O (by decide)) (P (by decide))
    | with_reducible refine Moves.bistFail ?_ (O (by decide)) (P (by decide))
    | with_reducible refine Moves.markRetired ?_ (O (by decide)) (P (by decide))
    | with_reducible refine Moves.retirePlane ?_ (O (by decide)) (P (by decide))
    | with_reducible refine Moves.setKiteState ?_ (O (by decide)) (P (by decide))
    | with_reducible refine Moves.reviewReasons ?_ (O (by decide)) (P (by decide))
    | with_reducible refine Moves.chanFault ?_ (O (by decide)) (P (by decide))
    | with_reducible refine Moves.setChanState ?_ (O (by decide)) (P (by decide))
    | with_reducible refine Moves.ite (fun _ => ?_) (fun _ => ?_)
    | with_reducible refine Moves.ite1 (fun _ => ?_) (fun _ => ?_)
    | split
    | dsimp only

def objs_retryDone : Nat := 0x340000001c000040003000c0002b800000003000040000000001180a880000000000003e00e08000015fb20002e8021c06606cb8012803dff3e4000000000000c7e02503c7e800200000000
def parts_retryDone : Nat := 0xa0ff9ffff9
theorem Moves.retryDone {p ch : Nat} {pass : Bool} (hM : Moves d₀ e₀ mo mp) (hO : Mask.le objs_retryDone mo) (hP : Mask.le parts_retryDone mp) :
    Moves d₀ (e₀.retryDone p ch pass) mo mp := by
  have O {a : Nat} (h : (a &&& objs_retryDone == a) = true) := Mask.le_trans h hO
  have P {a : Nat} (h : (a &&& parts_retryDone == a) = true) := Mask.le_trans h hP
  have B {k : Nat} (h : objs_retryDone.testBit k = true) := Mask.bit h hO
  have S {k : Nat} (h : parts_retryDone.testBit k = true) := Mask.bit h hP
  unfold Device.retryDone
  try simp only
  repeat' first
    | with_reducible exact hM
    | with_reducible exact Moves.refl ..
    | with_reducible refine Moves.bump ?_ (B (by decide)) (by decide) (S (by decide))
    | with_reducible refine Moves.causeHealth ?_ (O (by decide)) (P (by decide))
    | with_reducible refine Moves.setRow ?_ (O (by decide)) (P (by decide))
    | with_reducible refine Moves.retireUnit ?_ (O (by decide)) (P (by decide))
    | with_reducible refine Moves.markRetired ?_ (O (by decide)) (P (by decide))
    | with_reducible refine Moves.returnUnit ?_ (O (by decide)) (P (by decide))
    | with_reducible refine Moves.startReturns ?_ (O (by decide)) (P (by decide))
    | with_reducible refine Moves.setKiteState ?_ (O (by decide)) (P (by decide))
    | with_reducible refine Moves.reviewReasons ?_ (O (by decide)) (P (by decide))
    | with_reducible refine Moves.chanClear ?_ (O (by decide)) (P (by decide))
    | with_reducible refine Moves.setChanState ?_ (O (by decide)) (P (by decide))
    | with_reducible refine Moves.ite (fun _ => ?_) (fun _ => ?_)
    | with_reducible refine Moves.ite1 (fun _ => ?_) (fun _ => ?_)
    | split
    | dsimp only

def objs_pathCheck : Nat := 0x340000001c000000003000c0002b800000003000040000040801180a880000000000003e00e08000015fb20002e8021c06606cb8012803dff3e4000000000000c7e06503c7e840200003800
def parts_pathCheck : Nat := 0xa0ff9ffff9
theorem Moves.pathCheck {p n : Nat} {pass : Bool} (hM : Moves d₀ e₀ mo mp) (hO : Mask.le objs_pathCheck mo) (hP : Mask.le parts_pathCheck mp) :
    Moves d₀ (e₀.pathCheck p n pass) mo mp := by
  have O {a : Nat} (h : (a &&& objs_pathCheck == a) = true) := Mask.le_trans h hO
  have P {a : Nat} (h : (a &&& parts_pathCheck == a) = true) := Mask.le_trans h hP
  have B {k : Nat} (h : objs_pathCheck.testBit k = true) := Mask.bit h hO
  have S {k : Nat} (h : parts_pathCheck.testBit k = true) := Mask.bit h hP
  unfold Device.pathCheck
  try simp only
  repeat' first
    | with_reducible exact hM
    | with_reducible exact Moves.refl ..
    | with_reducible refine Moves.bump ?_ (B (by decide)) (by decide) (S (by decide))
    | with_reducible refine Moves.causeBypass ?_ (O (by decide)) (P (by decide))
    | with_reducible refine Moves.retireChannel ?_ (O (by decide)) (P (by decide))
    | with_reducible refine Moves.removeCircuit ?_ (O (by decide)) (P (by decide))
    | with_reducible refine Moves.chanClear ?_ (O (by decide)) (P (by decide))
    | with_reducible refine Moves.chanFault ?_ (O (by decide)) (P (by decide))
    | with_reducible refine Moves.ite (fun _ => ?_) (fun _ => ?_)
    | with_reducible refine Moves.ite1 (fun _ => ?_) (fun _ => ?_)
    | split
    | dsimp only


def objs_setLaserPower : Nat := 0x8000000000000000000000000000000000000000000000000000000000000000000000000000000000000000000000000
def parts_setLaserPower : Nat := 0x0
theorem Moves.setLaserPower {p c e w : Nat} {x : Int} (hM : Moves d₀ e₀ mo mp) (hO : Mask.le objs_setLaserPower mo) (hP : Mask.le parts_setLaserPower mp) :
    Moves d₀ (e₀.setLaserPower p c e w x) mo mp := by
  have O {a : Nat} (h : (a &&& objs_setLaserPower == a) = true) := Mask.le_trans h hO
  have P {a : Nat} (h : (a &&& parts_setLaserPower == a) = true) := Mask.le_trans h hP
  have B {k : Nat} (h : objs_setLaserPower.testBit k = true) := Mask.bit h hO
  have S {k : Nat} (h : parts_setLaserPower.testBit k = true) := Mask.bit h hP
  unfold Device.setLaserPower
  try simp only
  repeat' first
    | with_reducible exact hM
    | with_reducible exact Moves.refl ..
    | with_reducible refine Moves.set ?_ (B (by decide)) (by decide)
    | dsimp only

def objs_makeDue : Nat := 0x0
def parts_makeDue : Nat := 0x10000000
theorem Moves.makeDue {p c : Nat} {js : List Nat} (hM : Moves d₀ e₀ mo mp) (hO : Mask.le objs_makeDue mo) (hP : Mask.le parts_makeDue mp) :
    Moves d₀ (e₀.makeDue p c js) mo mp := by
  have O {a : Nat} (h : (a &&& objs_makeDue == a) = true) := Mask.le_trans h hO
  have P {a : Nat} (h : (a &&& parts_makeDue == a) = true) := Mask.le_trans h hP
  unfold Device.makeDue
  try simp only
  repeat' first
    | with_reducible exact hM
    | with_reducible exact Moves.refl ..
    | with_reducible refine Moves.setCal ?_ (O (by decide)) (P (by decide))
    | dsimp only

def objs_loseMatrix : Nat := 0x3400000000000000000000000000000000000000000000000000000808000000000000000000000000000000000000000000000000000000000000000000000000000000000000000000000
def parts_loseMatrix : Nat := 0x100002a0
theorem Moves.loseMatrix {p c : Nat} (hM : Moves d₀ e₀ mo mp) (hO : Mask.le objs_loseMatrix mo) (hP : Mask.le parts_loseMatrix mp) :
    Moves d₀ (e₀.loseMatrix p c) mo mp := by
  have O {a : Nat} (h : (a &&& objs_loseMatrix == a) = true) := Mask.le_trans h hO
  have P {a : Nat} (h : (a &&& parts_loseMatrix == a) = true) := Mask.le_trans h hP
  have B {k : Nat} (h : objs_loseMatrix.testBit k = true) := Mask.bit h hO
  have S {k : Nat} (h : parts_loseMatrix.testBit k = true) := Mask.bit h hP
  unfold Device.loseMatrix
  try simp only
  repeat' first
    | with_reducible exact hM
    | with_reducible exact Moves.refl ..
    | with_reducible refine Moves.set ?_ (B (by decide)) (by decide)
    | with_reducible refine Moves.setCal ?_ (O (by decide)) (P (by decide))
    | with_reducible refine Moves.applyMode ?_ (O (by decide)) (P (by decide))
    | with_reducible refine Moves.setReserve ?_ (O (by decide)) (P (by decide))
    | with_reducible refine Moves.ite (fun _ => ?_) (fun _ => ?_)
    | with_reducible refine Moves.ite1 (fun _ => ?_) (fun _ => ?_)
    | split
    | dsimp only

def objs_wlRefresh : Nat := 0x3400000000000000000000000000000000000000000000000000000020000000000000000000000000000000000000000000000000000000000000000000000000000000000000000000000
def parts_wlRefresh : Nat := 0x2a0
theorem Moves.wlRefresh {p c : Nat} (hM : Moves d₀ e₀ mo mp) (hO : Mask.le objs_wlRefresh mo) (hP : Mask.le parts_wlRefresh mp) :
    Moves d₀ (e₀.wlRefresh p c) mo mp := by
  have O {a : Nat} (h : (a &&& objs_wlRefresh == a) = true) := Mask.le_trans h hO
  have P {a : Nat} (h : (a &&& parts_wlRefresh == a) = true) := Mask.le_trans h hP
  have B {k : Nat} (h : objs_wlRefresh.testBit k = true) := Mask.bit h hO
  have S {k : Nat} (h : parts_wlRefresh.testBit k = true) := Mask.bit h hP
  unfold Device.wlRefresh
  try simp only
  repeat' first
    | with_reducible exact hM
    | with_reducible exact Moves.refl ..
    | with_reducible refine Moves.set ?_ (B (by first | decide | (split <;> decide))) (by first | decide | (split <;> decide))
    | with_reducible refine Moves.causeOptics ?_ (O (by decide)) (P (by decide))
    | with_reducible refine Moves.ite (fun _ => ?_) (fun _ => ?_)
    | with_reducible refine Moves.ite1 (fun _ => ?_) (fun _ => ?_)
    | split
    | dsimp only

def objs_laserGone : Nat := 0x340000001c000000002000000000000000000000000000000001184aa8000000000000000000000000000000000000000000000000080000000000000000000000c00000040000200001800
def parts_laserGone : Nat := 0x80181c1fa1
theorem Moves.laserGone {p c e state : Nat} (hM : Moves d₀ e₀ mo mp) (hO : Mask.le objs_laserGone mo) (hP : Mask.le parts_laserGone mp) :
    Moves d₀ (e₀.laserGone p c e state) mo mp := by
  have O {a : Nat} (h : (a &&& objs_laserGone == a) = true) := Mask.le_trans h hO
  have P {a : Nat} (h : (a &&& parts_laserGone == a) = true) := Mask.le_trans h hP
  have B {k : Nat} (h : objs_laserGone.testBit k = true) := Mask.bit h hO
  have S {k : Nat} (h : parts_laserGone.testBit k = true) := Mask.bit h hP
  unfold Device.laserGone
  try simp only
  repeat' first
    | with_reducible exact hM
    | with_reducible exact Moves.refl ..
    | with_reducible refine Moves.set ?_ (B (by decide)) (by decide)
    | with_reducible refine Moves.emit ?_ (O (by decide)) (P (by decide))
    | with_reducible refine Moves.setPort ?_ (O (by decide)) (P (by decide))
    | with_reducible refine Moves.causeOptics ?_ (O (by decide)) (P (by decide))
    | with_reducible refine Moves.causeFabric ?_ (O (by decide)) (P (by decide))
    | with_reducible refine Moves.wlRefresh ?_ (O (by decide)) (P (by decide))
    | with_reducible refine Moves.loseMatrix ?_ (O (by decide)) (P (by decide))
    | with_reducible refine Moves.makeDue ?_ (O (by decide)) (P (by decide))
    | with_reducible refine Moves.holdPort ?_ (O (by decide)) (P (by decide))
    | with_reducible refine Moves.requestHolds ?_ (O (by decide)) (P (by decide))
    | with_reducible refine Moves.calAbort ?_ (O (by decide)) (P (by decide))
    | with_reducible refine Moves.foldl ?_ (fun d a => ?_)
    | with_reducible refine Moves.ite (fun _ => ?_) (fun _ => ?_)
    | with_reducible refine Moves.ite1 (fun _ => ?_) (fun _ => ?_)
    | split
    | dsimp only

def objs_laserAbsent : Nat := 0x340000001c000000002000000000000000000000000000000041184aa8000000000000000000000000000000000000000000000000080000000000000000000000c00000040000200001800
def parts_laserAbsent : Nat := 0x80181c1fa1
theorem Moves.laserAbsent {p c e : Nat} (hM : Moves d₀ e₀ mo mp) (hO : Mask.le objs_laserAbsent mo) (hP : Mask.le parts_laserAbsent mp) :
    Moves d₀ (e₀.laserAbsent p c e) mo mp := by
  have O {a : Nat} (h : (a &&& objs_laserAbsent == a) = true) := Mask.le_trans h hO
  have P {a : Nat} (h : (a &&& parts_laserAbsent == a) = true) := Mask.le_trans h hP
  have B {k : Nat} (h : objs_laserAbsent.testBit k = true) := Mask.bit h hO
  have S {k : Nat} (h : parts_laserAbsent.testBit k = true) := Mask.bit h hP
  unfold Device.laserAbsent
  try simp only
  repeat' first
    | with_reducible exact hM
    | with_reducible exact Moves.refl ..
    | with_reducible refine Moves.bump ?_ (B (by decide)) (by decide) (S (by decide))
    | with_reducible refine Moves.causeOptics ?_ (O (by decide)) (P (by decide))
    | with_reducible refine Moves.laserGone ?_ (O (by decide)) (P (by decide))
    | dsimp only

def objs_laserLevel : Nat := 0x340000000000000000000000000000000000000000000000000118ca88000000000000000000000000000000000000000000000000000000000000000000000000000000000000000000000
def parts_laserLevel : Nat := 0x100802a1
theorem Moves.laserLevel {p c e w : Nat} {x : Int} (hM : Moves d₀ e₀ mo mp) (hO : Mask.le objs_laserLevel mo) (hP : Mask.le parts_laserLevel mp) :
    Moves d₀ (e₀.laserLevel p c e w x) mo mp := by
  have O {a : Nat} (h : (a &&& objs_laserLevel == a) = true) := Mask.le_trans h hO
  have P {a : Nat} (h : (a &&& parts_laserLevel == a) = true) := Mask.le_trans h hP
  have B {k : Nat} (h : objs_laserLevel.testBit k = true) := Mask.bit h hO
  have S {k : Nat} (h : parts_laserLevel.testBit k = true) := Mask.bit h hP
  unfold Device.laserLevel
  try simp only
  repeat' first
    | with_reducible exact hM
    | with_reducible exact Moves.refl ..
    | with_reducible refine Moves.set ?_ (B (by decide)) (by decide)
    | with_reducible refine Moves.causeOptics ?_ (O (by decide)) (P (by decide))
    | with_reducible refine Moves.setLaserPower ?_ (O (by decide)) (P (by decide))
    | with_reducible refine Moves.calAbort ?_ (O (by decide)) (P (by decide))
    | with_reducible refine Moves.ite (fun _ => ?_) (fun _ => ?_)
    | with_reducible refine Moves.ite1 (fun _ => ?_) (fun _ => ?_)
    | split
    | dsimp only

def objs_laserPresent : Nat := 0x340000000000000000000000000000000000000000000000000003c828000000000000000000000000000000000000000000000000000000000000000000000000000000000000000000000
def parts_laserPresent : Nat := 0x100806a0
theorem Moves.laserPresent {p c e : Nat} {powers : List Int} {tones : Nat} (hM : Moves d₀ e₀ mo mp) (hO : Mask.le objs_laserPresent mo) (hP : Mask.le parts_laserPresent mp) :
    Moves d₀ (e₀.laserPresent p c e powers tones) mo mp := by
  have O {a : Nat} (h : (a &&& objs_laserPresent == a) = true) := Mask.le_trans h hO
  have P {a : Nat} (h : (a &&& parts_laserPresent == a) = true) := Mask.le_trans h hP
  have B {k : Nat} (h : objs_laserPresent.testBit k = true) := Mask.bit h hO
  have S {k : Nat} (h : parts_laserPresent.testBit k = true) := Mask.bit h hP
  unfold Device.laserPresent
  extract_lets d1 d2 d3 d4
  have h1 : Moves d₀ d1 mo mp := (hM.set (B (by decide)) (by decide)).set (B (by decide)) (by decide)
  clear_value d1
  have h2 : Moves d₀ d2 mo mp := h1.foldl (fun d a => (Moves.refl ..).setLaserPower (O (by decide)) (P (by decide)))
  clear_value d2
  have h3 : Moves d₀ d3 mo mp := by
    unfold d3
    split
    · exact h2.set (B (by decide)) (by decide)
    · exact h2
  clear_value d3
  have h4 : Moves d₀ d4 mo mp := ((h3.makeDue (O (by decide)) (P (by decide))).loseMatrix (O (by decide)) (P (by decide))).wlRefresh (O (by decide)) (P (by decide))
  clear_value d4
  split
  · exact hM
  · refine Moves.requestHolds (h4.foldl (fun d a => ?_)) (O (by decide)) (P (by decide))
    split
    · exact (Moves.refl ..).unholdPort (O (by decide)) (P (by decide))
    · exact Moves.refl ..

def objs_laserOn : Nat := 0x4000000000000000000000000000000000000000000000000000000000000000000000000000000000000000000000000
def parts_laserOn : Nat := 0x20
theorem Moves.laserOn {p c e : Nat} (hM : Moves d₀ e₀ mo mp) (hO : Mask.le objs_laserOn mo) (hP : Mask.le parts_laserOn mp) :
    Moves d₀ (e₀.laserOn p c e) mo mp := by
  have O {a : Nat} (h : (a &&& objs_laserOn == a) = true) := Mask.le_trans h hO
  have P {a : Nat} (h : (a &&& parts_laserOn == a) = true) := Mask.le_trans h hP
  have B {k : Nat} (h : objs_laserOn.testBit k = true) := Mask.bit h hO
  have S {k : Nat} (h : parts_laserOn.testBit k = true) := Mask.bit h hP
  unfold Device.laserOn
  try simp only
  repeat' first
    | with_reducible exact hM
    | with_reducible exact Moves.refl ..
    | with_reducible refine Moves.set ?_ (B (by decide)) (by decide)
    | with_reducible refine Moves.emit ?_ (O (by decide)) (P (by decide))
    | dsimp only

def objs_laserCmd : Nat := 0x340000001c0000000020000000000000000000000000000000011a4aa8000000000000000000000000000000000000000000000000080000000000000000000000c00000040000200001800
def parts_laserCmd : Nat := 0x80181c1fa1
theorem Moves.laserCmd {p c ses v : Nat} (hM : Moves d₀ e₀ mo mp) (hO : Mask.le objs_laserCmd mo) (hP : Mask.le parts_laserCmd mp) :
    Moves d₀ (e₀.laserCmd p c ses v) mo mp := by
  have O {a : Nat} (h : (a &&& objs_laserCmd == a) = true) := Mask.le_trans h hO
  have P {a : Nat} (h : (a &&& parts_laserCmd == a) = true) := Mask.le_trans h hP
  have B {k : Nat} (h : objs_laserCmd.testBit k = true) := Mask.bit h hO
  have S {k : Nat} (h : parts_laserCmd.testBit k = true) := Mask.bit h hP
  unfold Device.laserCmd
  try simp only
  repeat' first
    | with_reducible exact hM
    | with_reducible exact Moves.refl ..
    | with_reducible refine Moves.set ?_ (B (by first | decide | (split <;> decide))) (by first | decide | (split <;> decide))
    | with_reducible refine Moves.cmdReads ?_ (B (by dsimp only; decide)) (by dsimp only; decide)
    | with_reducible refine Moves.emit ?_ (O (by decide)) (P (by decide))
    | with_reducible refine Moves.laserOn ?_ (O (by decide)) (P (by decide))
    | with_reducible refine Moves.laserGone ?_ (O (by decide)) (P (by decide))
    | with_reducible refine Moves.ite (fun _ => ?_) (fun _ => ?_)
    | with_reducible refine Moves.ite1 (fun _ => ?_) (fun _ => ?_)
    | split
    | dsimp only

def objs_cmisPoll : Nat := 0x340000001c000000002000000000000000003000040000000001184a880000000000003e00208000015fb20006e8020006606cb80128021ff3e4000000000000c7e02103c7e800200000000
def parts_cmisPoll : Nat := 0x80ff9ffff9
theorem Moves.cmisPoll {p m st : Nat} {outOff : Bool} (hM : Moves d₀ e₀ mo mp) (hO : Mask.le objs_cmisPoll mo) (hP : Mask.le parts_cmisPoll mp) :
    Moves d₀ (e₀.cmisPoll p m st outOff) mo mp := by
  have O {a : Nat} (h : (a &&& objs_cmisPoll == a) = true) := Mask.le_trans h hO
  have P {a : Nat} (h : (a &&& parts_cmisPoll == a) = true) := Mask.le_trans h hP
  have B {k : Nat} (h : objs_cmisPoll.testBit k = true) := Mask.bit h hO
  have S {k : Nat} (h : parts_cmisPoll.testBit k = true) := Mask.bit h hP
  unfold Device.cmisPoll
  try simp only
  repeat' first
    | with_reducible exact hM
    | with_reducible exact Moves.refl ..
    | with_reducible refine Moves.set ?_ (B (by first | decide | (split <;> decide) | (cases m <;> decide))) (by first | decide | (split <;> decide) | (cases m <;> decide))
    | with_reducible refine Moves.setLink ?_ (O (by decide)) (P (by decide))
    | with_reducible refine Moves.laserOn ?_ (O (by decide)) (P (by decide))
    | with_reducible refine Moves.goOof ?_ (O (by decide)) (P (by decide))
    | with_reducible refine Moves.lhRefresh ?_ (O (by decide)) (P (by decide))
    | with_reducible refine Moves.ite (fun _ => ?_) (fun _ => ?_)
    | with_reducible refine Moves.ite1 (fun _ => ?_) (fun _ => ?_)
    | split
    | dsimp only

def objs_moduleTimeout : Nat := 0x340000001c0000000020000000000000000000000000000000411a4aa8000000000000000000000000000000000000000000000000080000000000000000000000c00000040000200001800
def parts_moduleTimeout : Nat := 0x80181c1fa1
theorem Moves.moduleTimeout {p c e : Nat} (hM : Moves d₀ e₀ mo mp) (hO : Mask.le objs_moduleTimeout mo) (hP : Mask.le parts_moduleTimeout mp) :
    Moves d₀ (e₀.moduleTimeout p c e) mo mp := by
  have O {a : Nat} (h : (a &&& objs_moduleTimeout == a) = true) := Mask.le_trans h hO
  have P {a : Nat} (h : (a &&& parts_moduleTimeout == a) = true) := Mask.le_trans h hP
  have B {k : Nat} (h : objs_moduleTimeout.testBit k = true) := Mask.bit h hO
  have S {k : Nat} (h : parts_moduleTimeout.testBit k = true) := Mask.bit h hP
  unfold Device.moduleTimeout
  try simp only
  repeat' first
    | with_reducible exact hM
    | with_reducible exact Moves.refl ..
    | with_reducible refine Moves.set ?_ (B (by decide)) (by decide)
    | with_reducible refine Moves.laserCmd ?_ (O (by decide)) (P (by decide))
    | with_reducible refine Moves.laserAbsent ?_ (O (by decide)) (P (by decide))
    | with_reducible refine Moves.ite (fun _ => ?_) (fun _ => ?_)
    | with_reducible refine Moves.ite1 (fun _ => ?_) (fun _ => ?_)
    | split
    | dsimp only

def objs_headroom : Nat := 0x1000000000000000000000000000000000000000000000000000000000000000000000000000000000000000000000000
def parts_headroom : Nat := 0x0
theorem Moves.headroom {p c : Nat} (hM : Moves d₀ e₀ mo mp) (hO : Mask.le objs_headroom mo) (hP : Mask.le parts_headroom mp) :
    Moves d₀ (e₀.headroom p c) mo mp := by
  have O {a : Nat} (h : (a &&& objs_headroom == a) = true) := Mask.le_trans h hO
  have P {a : Nat} (h : (a &&& parts_headroom == a) = true) := Mask.le_trans h hP
  have B {k : Nat} (h : objs_headroom.testBit k = true) := Mask.bit h hO
  have S {k : Nat} (h : parts_headroom.testBit k = true) := Mask.bit h hP
  unfold Device.headroom
  try simp only
  repeat' first
    | with_reducible exact hM
    | with_reducible exact Moves.refl ..
    | with_reducible refine Moves.set ?_ (B (by decide)) (by decide)
    | split
    | dsimp only

def objs_setHeater : Nat := 0x301000000000000000000000000000000000000000000000000000000000000000000000000000000000000000000000000
def parts_setHeater : Nat := 0x10000000
theorem Moves.setHeater {p c r uw : Nat} (hM : Moves d₀ e₀ mo mp) (hO : Mask.le objs_setHeater mo) (hP : Mask.le parts_setHeater mp) :
    Moves d₀ (e₀.setHeater p c r uw) mo mp := by
  have O {a : Nat} (h : (a &&& objs_setHeater == a) = true) := Mask.le_trans h hO
  have P {a : Nat} (h : (a &&& parts_setHeater == a) = true) := Mask.le_trans h hP
  have B {k : Nat} (h : objs_setHeater.testBit k = true) := Mask.bit h hO
  have S {k : Nat} (h : parts_setHeater.testBit k = true) := Mask.bit h hP
  unfold Device.setHeater
  try simp only
  repeat' first
    | with_reducible exact hM
    | with_reducible exact Moves.refl ..
    | with_reducible refine Moves.set ?_ (B (by decide)) (by decide)
    | with_reducible refine Moves.setCal ?_ (O (by decide)) (P (by decide))
    | with_reducible refine Moves.headroom ?_ (O (by decide)) (P (by decide))
    | dsimp only

def objs_releaseBank : Nat := 0x340000001c000000002000000000000000000000000000000001381a88000000000000000000000000000000000000000000000000080000000000000000000000c00000000000000001800
def parts_releaseBank : Nat := 0x80181c0fa1
theorem Moves.releaseBank {p c b : Nat} (hM : Moves d₀ e₀ mo mp) (hO : Mask.le objs_releaseBank mo) (hP : Mask.le parts_releaseBank mp) :
    Moves d₀ (e₀.releaseBank p c b) mo mp := by
  have O {a : Nat} (h : (a &&& objs_releaseBank == a) = true) := Mask.le_trans h hO
  have P {a : Nat} (h : (a &&& parts_releaseBank == a) = true) := Mask.le_trans h hP
  have B {k : Nat} (h : objs_releaseBank.testBit k = true) := Mask.bit h hO
  have S {k : Nat} (h : parts_releaseBank.testBit k = true) := Mask.bit h hP
  unfold Device.releaseBank
  try simp only
  repeat' first
    | with_reducible exact hM
    | with_reducible exact Moves.refl ..
    | with_reducible refine Moves.set ?_ (B (by decide)) (by decide)
    | with_reducible refine Moves.setPort ?_ (O (by decide)) (P (by decide))
    | with_reducible refine Moves.setCal ?_ (O (by decide)) (P (by decide))
    | with_reducible refine Moves.setHeater ?_ (O (by decide)) (P (by decide))
    | with_reducible refine Moves.laneRetrain ?_ (O (by decide)) (P (by decide))
    | with_reducible refine Moves.foldl ?_ (fun d a => ?_)
    | with_reducible refine Moves.ite (fun _ => ?_) (fun _ => ?_)
    | with_reducible refine Moves.ite1 (fun _ => ?_) (fun _ => ?_)
    | split
    | dsimp only

def objs_wavelengthRetire : Nat := 0x340000001c000000003000c0002b800000003000040000000821180a880000000000003e00e08000015fb20002e8021c06606cb8012803dff3e4000000000000c7e06503c7e840200003800
def parts_wavelengthRetire : Nat := 0xa0ff9ffff9
theorem Moves.wavelengthRetire {p c r : Nat} (hM : Moves d₀ e₀ mo mp) (hO : Mask.le objs_wavelengthRetire mo) (hP : Mask.le parts_wavelengthRetire mp) :
    Moves d₀ (e₀.wavelengthRetire p c r) mo mp := by
  have O {a : Nat} (h : (a &&& objs_wavelengthRetire == a) = true) := Mask.le_trans h hO
  have P {a : Nat} (h : (a &&& parts_wavelengthRetire == a) = true) := Mask.le_trans h hP
  have B {k : Nat} (h : objs_wavelengthRetire.testBit k = true) := Mask.bit h hO
  have S {k : Nat} (h : parts_wavelengthRetire.testBit k = true) := Mask.bit h hP
  unfold Device.wavelengthRetire
  try simp only
  repeat' first
    | with_reducible exact hM
    | with_reducible exact Moves.refl ..
    | with_reducible refine Moves.bump ?_ (B (by decide)) (by decide) (S (by decide))
    | with_reducible refine Moves.causeOptics ?_ (O (by decide)) (P (by decide))
    | with_reducible refine Moves.setCal ?_ (O (by decide)) (P (by decide))
    | with_reducible refine Moves.retireChannel ?_ (O (by decide)) (P (by decide))
    | with_reducible refine Moves.ite (fun _ => ?_) (fun _ => ?_)
    | with_reducible refine Moves.ite1 (fun _ => ?_) (fun _ => ?_)
    | split
    | dsimp only

def objs_wrongLock : Nat := 0x340000001c000000003000c0002b800000003000040000000831381a880000000000003e00e08000015fb20002e8021c06606cb8012803dff3e4000000000000c7e06503c7e840200003800
def parts_wrongLock : Nat := 0xa0ff9ffff9
theorem Moves.wrongLock {p c b : Nat} {rs : List Nat} (hM : Moves d₀ e₀ mo mp) (hO : Mask.le objs_wrongLock mo) (hP : Mask.le parts_wrongLock mp) :
    Moves d₀ (e₀.wrongLock p c b rs) mo mp := by
  have O {a : Nat} (h : (a &&& objs_wrongLock == a) = true) := Mask.le_trans h hO
  have P {a : Nat} (h : (a &&& parts_wrongLock == a) = true) := Mask.le_trans h hP
  have B {k : Nat} (h : objs_wrongLock.testBit k = true) := Mask.bit h hO
  have S {k : Nat} (h : parts_wrongLock.testBit k = true) := Mask.bit h hP
  unfold Device.wrongLock
  try simp only
  repeat' first
    | with_reducible exact hM
    | with_reducible exact Moves.refl ..
    | with_reducible refine Moves.bump ?_ (B (by decide)) (by decide) (S (by decide))
    | with_reducible refine Moves.causeOptics ?_ (O (by decide)) (P (by decide))
    | with_reducible refine Moves.setCal ?_ (O (by decide)) (P (by decide))
    | with_reducible refine Moves.wavelengthRetire ?_ (O (by decide)) (P (by decide))
    | with_reducible refine Moves.releaseBank ?_ (O (by decide)) (P (by decide))
    | with_reducible refine Moves.calAbort ?_ (O (by decide)) (P (by decide))
    | with_reducible refine Moves.foldl ?_ (fun d a => ?_)
    | with_reducible refine Moves.ite (fun _ => ?_) (fun _ => ?_)
    | with_reducible refine Moves.ite1 (fun _ => ?_) (fun _ => ?_)
    | split
    | dsimp only

def objs_checkBank : Nat := 0x340000001c000000003000c0002b800000003000040000000831381a880000000000003e00e08000015fb20002e8021c06606cb8012803dff3e4000000000000c7e06503c7e840200003800
def parts_checkBank : Nat := 0xa0ff9ffff9
theorem Moves.checkBank {p c b : Nat} (hM : Moves d₀ e₀ mo mp) (hO : Mask.le objs_checkBank mo) (hP : Mask.le parts_checkBank mp) :
    Moves d₀ (e₀.checkBank p c b) mo mp := by
  have O {a : Nat} (h : (a &&& objs_checkBank == a) = true) := Mask.le_trans h hO
  have P {a : Nat} (h : (a &&& parts_checkBank == a) = true) := Mask.le_trans h hP
  unfold Device.checkBank
  try simp only
  repeat' first
    | with_reducible exact hM
    | with_reducible exact Moves.refl ..
    | with_reducible refine Moves.wrongLock ?_ (O (by decide)) (P (by decide))
    | dsimp only

def objs_resweepDone : Nat := 0x340000001c000000003000c0002b800000003000040000000821381a880000000000003e00e08000015fb20002e8021c06606cb8012803dff3e4000000000000c7e06503c7e840200003800
def parts_resweepDone : Nat := 0xa0ff9ffff9
theorem Moves.resweepDone {p c b : Nat} {locked : Bool} {heaters : List Nat} (hM : Moves d₀ e₀ mo mp) (hO : Mask.le objs_resweepDone mo) (hP : Mask.le parts_resweepDone mp) :
    Moves d₀ (e₀.resweepDone p c b locked heaters) mo mp := by
  have O {a : Nat} (h : (a &&& objs_resweepDone == a) = true) := Mask.le_trans h hO
  have P {a : Nat} (h : (a &&& parts_resweepDone == a) = true) := Mask.le_trans h hP
  have B {k : Nat} (h : objs_resweepDone.testBit k = true) := Mask.bit h hO
  have S {k : Nat} (h : parts_resweepDone.testBit k = true) := Mask.bit h hP
  unfold Device.resweepDone
  try simp only
  repeat' first
    | with_reducible exact hM
    | with_reducible exact Moves.refl ..
    | with_reducible refine Moves.set ?_ (B (by decide)) (by decide)
    | (refine Moves.getD ?_ (fun r hr => ?_))
    | with_reducible refine Moves.setCal ?_ (O (by decide)) (P (by decide))
    | with_reducible refine Moves.wavelengthRetire ?_ (O (by decide)) (P (by decide))
    | with_reducible refine Moves.setHeater ?_ (O (by decide)) (P (by decide))
    | with_reducible refine Moves.unholdPort ?_ (O (by decide)) (P (by decide))
    | with_reducible refine Moves.rangeCheck ?_ (O (by decide)) (P (by decide))
    | with_reducible refine Moves.foldl ?_ (fun d a => ?_)
    | with_reducible refine Moves.ite (fun _ => ?_) (fun _ => ?_)
    | with_reducible refine Moves.ite1 (fun _ => ?_) (fun _ => ?_)
    | split
    | dsimp only

def objs_ringLockLost : Nat := 0x340000001c000000002000000000000000000000000000000001381a88000000000000000000000000000000000000000000000000080000000000000000000000c00000000000000001800
def parts_ringLockLost : Nat := 0x80181c0fa1
theorem Moves.ringLockLost {p c r : Nat} (hM : Moves d₀ e₀ mo mp) (hO : Mask.le objs_ringLockLost mo) (hP : Mask.le parts_ringLockLost mp) :
    Moves d₀ (e₀.ringLockLost p c r) mo mp := by
  have O {a : Nat} (h : (a &&& objs_ringLockLost == a) = true) := Mask.le_trans h hO
  have P {a : Nat} (h : (a &&& parts_ringLockLost == a) = true) := Mask.le_trans h hP
  have B {k : Nat} (h : objs_ringLockLost.testBit k = true) := Mask.bit h hO
  have S {k : Nat} (h : parts_ringLockLost.testBit k = true) := Mask.bit h hP
  unfold Device.ringLockLost
  try simp only
  repeat' first
    | with_reducible exact hM
    | with_reducible exact Moves.refl ..
    | with_reducible refine Moves.set ?_ (B (by decide)) (by decide)
    | with_reducible refine Moves.causeOptics ?_ (O (by decide)) (P (by decide))
    | with_reducible refine Moves.releaseBank ?_ (O (by decide)) (P (by decide))
    | with_reducible refine Moves.calAbort ?_ (O (by decide)) (P (by decide))
    | with_reducible refine Moves.ite (fun _ => ?_) (fun _ => ?_)
    | with_reducible refine Moves.ite1 (fun _ => ?_) (fun _ => ?_)
    | split
    | dsimp only

def objs_moveHeater : Nat := 0x3400000000000000000000000000000000000000000000000000301000000000000000000000000000000000000000000000000000000000000000000000000000000000000000000000000
def parts_moveHeater : Nat := 0x100002a0
theorem Moves.moveHeater {p c r uw : Nat} (hM : Moves d₀ e₀ mo mp) (hO : Mask.le objs_moveHeater mo) (hP : Mask.le parts_moveHeater mp) :
    Moves d₀ (e₀.moveHeater p c r uw) mo mp := by
  have O {a : Nat} (h : (a &&& objs_moveHeater == a) = true) := Mask.le_trans h hO
  have P {a : Nat} (h : (a &&& parts_moveHeater == a) = true) := Mask.le_trans h hP
  unfold Device.moveHeater
  try simp only
  repeat' first
    | with_reducible exact hM
    | with_reducible exact Moves.refl ..
    | with_reducible refine Moves.setHeater ?_ (O (by decide)) (P (by decide))
    | with_reducible refine Moves.rangeCheck ?_ (O (by decide)) (P (by decide))
    | dsimp only

def objs_heaterStep : Nat := 0x340000001c000000003000c0002b800000003000040000000831381a880000000000003e00e08000015fb20002e8021c06606cb8012803dff3e4000000000000c7e06503c7e840200003800
def parts_heaterStep : Nat := 0xa0ff9ffff9
theorem Moves.heaterStep {p c r : Nat} {heaters : List Nat} (hM : Moves d₀ e₀ mo mp) (hO : Mask.le objs_heaterStep mo) (hP : Mask.le parts_heaterStep mp) :
    Moves d₀ (e₀.heaterStep p c r heaters) mo mp := by
  have O {a : Nat} (h : (a &&& objs_heaterStep == a) = true) := Mask.le_trans h hO
  have P {a : Nat} (h : (a &&& parts_heaterStep == a) = true) := Mask.le_trans h hP
  unfold Device.heaterStep
  try simp only
  repeat' first
    | with_reducible exact hM
    | with_reducible exact Moves.refl ..
    | (refine Moves.getD ?_ (fun r hr => ?_))
    | with_reducible refine Moves.moveHeater ?_ (O (by decide)) (P (by decide))
    | with_reducible refine Moves.ringLockLost ?_ (O (by decide)) (P (by decide))
    | with_reducible refine Moves.checkBank ?_ (O (by decide)) (P (by decide))
    | with_reducible refine Moves.foldl ?_ (fun d a => ?_)
    | with_reducible refine Moves.ite (fun _ => ?_) (fun _ => ?_)
    | with_reducible refine Moves.ite1 (fun _ => ?_) (fun _ => ?_)
    | split
    | dsimp only

def objs_toneVerdict : Nat := 0x340000001c000000003000c0002b800000003000040000000831381a880000000000003e00e08000015fb20002e8021c06606cb8012803dff3e4000000000000c7e06503c7e840200003800
def parts_toneVerdict : Nat := 0xa0ff9ffff9
theorem Moves.toneVerdict {p c : Nat} {l : List (Nat × Nat)} (hM : Moves d₀ e₀ mo mp) (hO : Mask.le objs_toneVerdict mo) (hP : Mask.le parts_toneVerdict mp) :
    Moves d₀ (e₀.toneVerdict p c l) mo mp := by
  have O {a : Nat} (h : (a &&& objs_toneVerdict == a) = true) := Mask.le_trans h hO
  have P {a : Nat} (h : (a &&& parts_toneVerdict == a) = true) := Mask.le_trans h hP
  unfold Device.toneVerdict
  try simp only
  repeat' first
    | with_reducible exact hM
    | with_reducible exact Moves.refl ..
    | with_reducible refine Moves.wrongLock ?_ (O (by decide)) (P (by decide))
    | with_reducible refine Moves.foldl ?_ (fun d a => ?_)
    | with_reducible refine Moves.ite (fun _ => ?_) (fun _ => ?_)
    | with_reducible refine Moves.ite1 (fun _ => ?_) (fun _ => ?_)
    | split
    | dsimp only

def objs_roundStart : Nat := 0x4080000000000000000000000000000000000000000000000000000000000000000000000000000000000000000000000000
def parts_roundStart : Nat := 0x10000001
theorem Moves.roundStart {p c : Nat} (hM : Moves d₀ e₀ mo mp) (hO : Mask.le objs_roundStart mo) (hP : Mask.le parts_roundStart mp) :
    Moves d₀ (e₀.roundStart p c) mo mp := by
  have O {a : Nat} (h : (a &&& objs_roundStart == a) = true) := Mask.le_trans h hO
  have P {a : Nat} (h : (a &&& parts_roundStart == a) = true) := Mask.le_trans h hP
  have B {k : Nat} (h : objs_roundStart.testBit k = true) := Mask.bit h hO
  have S {k : Nat} (h : parts_roundStart.testBit k = true) := Mask.bit h hP
  unfold Device.roundStart
  try simp only
  repeat' first
    | with_reducible exact hM
    | with_reducible exact Moves.refl ..
    | with_reducible refine Moves.set ?_ (B (by decide)) (by decide)
    | with_reducible refine Moves.bump ?_ (B (by decide)) (by decide) (S (by decide))
    | with_reducible refine Moves.setCal ?_ (O (by decide)) (P (by decide))
    | with_reducible refine Moves.foldl ?_ (fun d a => ?_)
    | with_reducible refine Moves.ite (fun _ => ?_) (fun _ => ?_)
    | with_reducible refine Moves.ite1 (fun _ => ?_) (fun _ => ?_)
    | split
    | dsimp only

def objs_applyFit : Nat := 0x3400000000000000000000000000000000000000000000000002381000000000000000000000000000000000000000000000000000000000000000000000000000000000000000000000000
def parts_applyFit : Nat := 0x100002a1
theorem Moves.applyFit {p c : Nat} {f : RingFit} (hM : Moves d₀ e₀ mo mp) (hO : Mask.le objs_applyFit mo) (hP : Mask.le parts_applyFit mp) :
    Moves d₀ (e₀.applyFit p c f) mo mp := by
  have O {a : Nat} (h : (a &&& objs_applyFit == a) = true) := Mask.le_trans h hO
  have P {a : Nat} (h : (a &&& parts_applyFit == a) = true) := Mask.le_trans h hP
  have B {k : Nat} (h : objs_applyFit.testBit k = true) := Mask.bit h hO
  have S {k : Nat} (h : parts_applyFit.testBit k = true) := Mask.bit h hP
  unfold Device.applyFit
  try simp only
  repeat' first
    | with_reducible exact hM
    | with_reducible exact Moves.refl ..
    | with_reducible refine Moves.set ?_ (B (by decide)) (by decide)
    | with_reducible refine Moves.bump ?_ (B (by decide)) (by decide) (S (by decide))
    | with_reducible refine Moves.setCal ?_ (O (by decide)) (P (by decide))
    | with_reducible refine Moves.moveHeater ?_ (O (by decide)) (P (by decide))
    | with_reducible refine Moves.ite (fun _ => ?_) (fun _ => ?_)
    | with_reducible refine Moves.ite1 (fun _ => ?_) (fun _ => ?_)
    | split
    | dsimp only

def objs_roundDone : Nat := 0x340000001c000000003000c0002b800000003000040000000833b81a880000000000003e00e08000015fb20002e8021c06606cb8012803dff3e4000000000000c7e06503c7e840200003800
def parts_roundDone : Nat := 0xa0ff9ffff9
theorem Moves.roundDone {p c : Nat} {fits : List RingFit} (hM : Moves d₀ e₀ mo mp) (hO : Mask.le objs_roundDone mo) (hP : Mask.le parts_roundDone mp) :
    Moves d₀ (e₀.roundDone p c fits) mo mp := by
  have O {a : Nat} (h : (a &&& objs_roundDone == a) = true) := Mask.le_trans h hO
  have P {a : Nat} (h : (a &&& parts_roundDone == a) = true) := Mask.le_trans h hP
  have B {k : Nat} (h : objs_roundDone.testBit k = true) := Mask.bit h hO
  have S {k : Nat} (h : parts_roundDone.testBit k = true) := Mask.bit h hP
  unfold Device.roundDone
  try simp only
  repeat' first
    | with_reducible exact hM
    | with_reducible exact Moves.refl ..
    | with_reducible refine Moves.set ?_ (B (by decide)) (by decide)
    | with_reducible refine Moves.bump ?_ (B (by decide)) (by decide) (S (by decide))
    | with_reducible refine Moves.setCal ?_ (O (by decide)) (P (by decide))
    | with_reducible refine Moves.applyFit ?_ (O (by decide)) (P (by decide))
    | with_reducible refine Moves.ringLockLost ?_ (O (by decide)) (P (by decide))
    | with_reducible refine Moves.checkBank ?_ (O (by decide)) (P (by decide))
    | with_reducible refine Moves.wavelengthRetire ?_ (O (by decide)) (P (by decide))
    | with_reducible refine Moves.requestHolds ?_ (O (by decide)) (P (by decide))
    | with_reducible refine Moves.endRound ?_ (O (by decide)) (P (by decide))
    | with_reducible refine Moves.foldl ?_ (fun d a => ?_)
    | with_reducible refine Moves.ite (fun _ => ?_) (fun _ => ?_)
    | with_reducible refine Moves.ite1 (fun _ => ?_) (fun _ => ?_)
    | split
    | dsimp only

def objs_matrixDone : Nat := 0x3400000000000000000000000000000000000000000000000008080c08000000000000000000000000000000000000000000000000000000000000000000000000000000000000000000000
def parts_matrixDone : Nat := 0x100802a9
theorem Moves.matrixDone {p c j : Nat} (hM : Moves d₀ e₀ mo mp) (hO : Mask.le objs_matrixDone mo) (hP : Mask.le parts_matrixDone mp) :
    Moves d₀ (e₀.matrixDone p c j) mo mp := by
  have O {a : Nat} (h : (a &&& objs_matrixDone == a) = true) := Mask.le_trans h hO
  have P {a : Nat} (h : (a &&& parts_matrixDone == a) = true) := Mask.le_trans h hP
  have B {k : Nat} (h : objs_matrixDone.testBit k = true) := Mask.bit h hO
  have S {k : Nat} (h : parts_matrixDone.testBit k = true) := Mask.bit h hP
  unfold Device.matrixDone
  try simp only
  repeat' first
    | with_reducible exact hM
    | with_reducible exact Moves.refl ..
    | with_reducible refine Moves.set ?_ (B (by decide)) (by decide)
    | with_reducible refine Moves.bump ?_ (B (by decide)) (by decide) (S (by decide))
    | with_reducible refine Moves.fresh ?_ (O (by decide)) (P (by decide))
    | with_reducible refine Moves.setCal ?_ (O (by decide)) (P (by decide))
    | with_reducible refine Moves.requestHolds ?_ (O (by decide)) (P (by decide))
    | with_reducible refine Moves.endRound ?_ (O (by decide)) (P (by decide))
    | with_reducible refine Moves.applyMode ?_ (O (by decide)) (P (by decide))
    | with_reducible refine Moves.ite (fun _ => ?_) (fun _ => ?_)
    | with_reducible refine Moves.ite1 (fun _ => ?_) (fun _ => ?_)
    | split
    | dsimp only

def objs_xtalkWrite : Nat := 0x340000000000000000000000002b80000000000000000000000000080c000000000000000000000000000000000000000000000000000000000000000000000000000000000000000000000
def parts_xtalkWrite : Nat := 0x100802a1
theorem Moves.xtalkWrite {p c v : Nat} (hM : Moves d₀ e₀ mo mp) (hO : Mask.le objs_xtalkWrite mo) (hP : Mask.le parts_xtalkWrite mp) :
    Moves d₀ (e₀.xtalkWrite p c v).1 mo mp := by
  have O {a : Nat} (h : (a &&& objs_xtalkWrite == a) = true) := Mask.le_trans h hO
  have P {a : Nat} (h : (a &&& parts_xtalkWrite == a) = true) := Mask.le_trans h hP
  have B {k : Nat} (h : objs_xtalkWrite.testBit k = true) := Mask.bit h hO
  unfold Device.xtalkWrite
  try simp only
  repeat' first
    | with_reducible exact hM
    | with_reducible exact Moves.refl ..
    | with_reducible refine Moves.store ?_ (B (by decide)) (by decide) (O (by decide)) (P (by decide))
    | with_reducible refine Moves.setCal ?_ (O (by decide)) (P (by decide))
    | with_reducible refine Moves.requestHolds ?_ (O (by decide)) (P (by decide))
    | with_reducible refine Moves.applyMode ?_ (O (by decide)) (P (by decide))
    | with_reducible refine Moves.ite (fun _ => ?_) (fun _ => ?_)
    | with_reducible refine Moves.ite1 (fun _ => ?_) (fun _ => ?_)
    | split
    | dsimp only


def objs_snapTake : Nat := 0x0
def parts_snapTake : Nat := 0x10000000000
theorem Moves.snapTake {p flags : Nat} (hM : Moves d₀ e₀ mo mp) (hO : Mask.le objs_snapTake mo) (hP : Mask.le parts_snapTake mp) :
    Moves d₀ (e₀.snapTake p flags) mo mp := by
  have O {a : Nat} (h : (a &&& objs_snapTake == a) = true) := Mask.le_trans h hO
  have P {a : Nat} (h : (a &&& parts_snapTake == a) = true) := Mask.le_trans h hP
  have S {k : Nat} (h : parts_snapTake.testBit k = true) := Mask.bit h hP
  unfold Device.snapTake
  try simp only
  repeat' first
    | with_reducible exact hM
    | with_reducible exact Moves.refl ..
    | with_reducible refine Moves.ite (fun _ => ?_) (fun _ => ?_)
    | with_reducible refine Moves.ite1 (fun _ => ?_) (fun _ => ?_)
    | split
    | with_reducible refine Moves.with_snap ?_ (S (by decide))
    | dsimp only

def objs_snapClose : Nat := 0x1000000000000000000000000000000000000000000000000000000000000000000000000000000000000000000000000000000000000000000000000000000
def parts_snapClose : Nat := 0x10000000002
theorem Moves.snapClose  (hM : Moves d₀ e₀ mo mp) (hO : Mask.le objs_snapClose mo) (hP : Mask.le parts_snapClose mp) :
    Moves d₀ (e₀.snapClose ) mo mp := by
  have O {a : Nat} (h : (a &&& objs_snapClose == a) = true) := Mask.le_trans h hO
  have P {a : Nat} (h : (a &&& parts_snapClose == a) = true) := Mask.le_trans h hP
  have B {k : Nat} (h : objs_snapClose.testBit k = true) := Mask.bit h hO
  have S {k : Nat} (h : parts_snapClose.testBit k = true) := Mask.bit h hP
  unfold Device.snapClose
  try simp only
  repeat' first
    | with_reducible exact hM
    | with_reducible exact Moves.refl ..
    | with_reducible refine Moves.set ?_ (B (by decide)) (by decide)
    | with_reducible refine Moves.setDomain ?_ (O (by decide)) (P (by decide))
    | with_reducible refine Moves.snapTake ?_ (O (by decide)) (P (by decide))
    | with_reducible refine Moves.ite (fun _ => ?_) (fun _ => ?_)
    | with_reducible refine Moves.ite1 (fun _ => ?_) (fun _ => ?_)
    | split
    | with_reducible refine Moves.with_snap ?_ (S (by decide))
    | dsimp only

def objs_snapPlane : Nat := 0x1000000000000000000000000000000000000000000000000000000000000000000000000000000000000000000000000000000000000000000000000000000
def parts_snapPlane : Nat := 0x10000000002
theorem Moves.snapPlane {p : Nat} {late : Bool} (hM : Moves d₀ e₀ mo mp) (hO : Mask.le objs_snapPlane mo) (hP : Mask.le parts_snapPlane mp) :
    Moves d₀ (e₀.snapPlane p late) mo mp := by
  have O {a : Nat} (h : (a &&& objs_snapPlane == a) = true) := Mask.le_trans h hO
  have P {a : Nat} (h : (a &&& parts_snapPlane == a) = true) := Mask.le_trans h hP
  unfold Device.snapPlane
  try simp only
  repeat' first
    | with_reducible exact hM
    | with_reducible exact Moves.refl ..
    | with_reducible refine Moves.snapClose ?_ (O (by decide)) (P (by decide))
    | with_reducible refine Moves.snapTake ?_ (O (by decide)) (P (by decide))
    | with_reducible refine Moves.ite (fun _ => ?_) (fun _ => ?_)
    | with_reducible refine Moves.ite1 (fun _ => ?_) (fun _ => ?_)
    | split
    | dsimp only

def objs_snapStep : Nat := 0x1000000000000000000000000000000000000000000000000000000000000000000000000000000000000000000000000000000000000000000000000000000
def parts_snapStep : Nat := 0x10000000002
theorem Moves.snapStep {p n old : Nat} (hM : Moves d₀ e₀ mo mp) (hO : Mask.le objs_snapStep mo) (hP : Mask.le parts_snapStep mp) :
    Moves d₀ (e₀.snapStep p n old) mo mp := by
  have O {a : Nat} (h : (a &&& objs_snapStep == a) = true) := Mask.le_trans h hO
  have P {a : Nat} (h : (a &&& parts_snapStep == a) = true) := Mask.le_trans h hP
  unfold Device.snapStep
  try simp only
  repeat' first
    | with_reducible exact hM
    | with_reducible exact Moves.refl ..
    | with_reducible refine Moves.snapPlane ?_ (O (by decide)) (P (by decide))
    | with_reducible refine Moves.ite (fun _ => ?_) (fun _ => ?_)
    | with_reducible refine Moves.ite1 (fun _ => ?_) (fun _ => ?_)
    | split
    | dsimp only

def objs_snapArm : Nat := 0x1000000000000000000000000000000000000000000000000000000000000000000000000000000000000000000000000000000000000000000000000000000
def parts_snapArm : Nat := 0x10000000002
theorem Moves.snapArm  (hM : Moves d₀ e₀ mo mp) (hO : Mask.le objs_snapArm mo) (hP : Mask.le parts_snapArm mp) :
    Moves d₀ (e₀.snapArm ) mo mp := by
  have O {a : Nat} (h : (a &&& objs_snapArm == a) = true) := Mask.le_trans h hO
  have P {a : Nat} (h : (a &&& parts_snapArm == a) = true) := Mask.le_trans h hP
  have B {k : Nat} (h : objs_snapArm.testBit k = true) := Mask.bit h hO
  have S {k : Nat} (h : parts_snapArm.testBit k = true) := Mask.bit h hP
  unfold Device.snapArm
  try simp only
  repeat' first
    | with_reducible exact hM
    | with_reducible exact Moves.refl ..
    | with_reducible refine Moves.set ?_ (B (by decide)) (by decide)
    | with_reducible refine Moves.snapClose ?_ (O (by decide)) (P (by decide))
    | with_reducible refine Moves.snapTake ?_ (O (by decide)) (P (by decide))
    | with_reducible refine Moves.foldl ?_ (fun d a => ?_)
    | with_reducible refine Moves.ite (fun _ => ?_) (fun _ => ?_)
    | with_reducible refine Moves.ite1 (fun _ => ?_) (fun _ => ?_)
    | split
    | with_reducible refine Moves.with_snap ?_ (S (by decide))
    | dsimp only


def objs_tbPut : Nat := 0x0
def parts_tbPut : Nat := 0x200000
theorem Moves.tbPut {p n : Nat} {fine : Int} (hM : Moves d₀ e₀ mo mp) (hO : Mask.le objs_tbPut mo) (hP : Mask.le parts_tbPut mp) :
    Moves d₀ (e₀.tbPut p n fine) mo mp := by
  have O {a : Nat} (h : (a &&& objs_tbPut == a) = true) := Mask.le_trans h hO
  have P {a : Nat} (h : (a &&& parts_tbPut == a) = true) := Mask.le_trans h hP
  unfold Device.tbPut
  try simp only
  repeat' first
    | with_reducible exact hM
    | with_reducible exact Moves.refl ..
    | with_reducible refine Moves.setTb ?_ (O (by decide)) (P (by decide))
    | dsimp only

def objs_tbMove : Nat := 0x340000001c000000002000001000000000000000008000000001180a88000000000000000000000000000000000000000000000000080000000000002800000000c00000040000200001800
def parts_tbMove : Nat := 0x180183c1fa3
theorem Moves.tbMove {p n : Nat} {fine : Int} (hM : Moves d₀ e₀ mo mp) (hO : Mask.le objs_tbMove mo) (hP : Mask.le parts_tbMove mp) :
    Moves d₀ (e₀.tbMove p n fine) mo mp := by
  have O {a : Nat} (h : (a &&& objs_tbMove == a) = true) := Mask.le_trans h hO
  have P {a : Nat} (h : (a &&& parts_tbMove == a) = true) := Mask.le_trans h hP
  have B {k : Nat} (h : objs_tbMove.testBit k = true) := Mask.bit h hO
  have S {k : Nat} (h : parts_tbMove.testBit k = true) := Mask.bit h hP
  unfold Device.tbMove
  try simp only
  repeat' first
    | with_reducible exact hM
    | with_reducible exact Moves.refl ..
    | with_reducible refine Moves.bump ?_ (B (by decide)) (by decide) (S (by decide))
    | with_reducible refine Moves.causeTime ?_ (O (by decide)) (P (by decide))
    | with_reducible refine Moves.tbPut ?_ (O (by decide)) (P (by decide))
    | with_reducible refine Moves.snapStep ?_ (O (by decide)) (P (by decide))
    | with_reducible refine Moves.tbStepped ?_ (O (by decide)) (P (by decide))
    | with_reducible refine Moves.ite (fun _ => ?_) (fun _ => ?_)
    | with_reducible refine Moves.ite1 (fun _ => ?_) (fun _ => ?_)
    | split
    | dsimp only

def objs_tbAdj : Nat := 0x0
def parts_tbAdj : Nat := 0x200000
theorem Moves.tbAdj {p n : Nat} {adj : Int} (hM : Moves d₀ e₀ mo mp) (hO : Mask.le objs_tbAdj mo) (hP : Mask.le parts_tbAdj mp) :
    Moves d₀ (e₀.tbAdj p n adj) mo mp := by
  have O {a : Nat} (h : (a &&& objs_tbAdj == a) = true) := Mask.le_trans h hO
  have P {a : Nat} (h : (a &&& parts_tbAdj == a) = true) := Mask.le_trans h hP
  unfold Device.tbAdj
  try simp only
  repeat' first
    | with_reducible exact hM
    | with_reducible exact Moves.refl ..
    | with_reducible refine Moves.setTb ?_ (O (by decide)) (P (by decide))
    | dsimp only

def objs_noteOffset : Nat := 0x200002000000000000000000000000000000000000000000000000000000000000000000000000000000000000000000000000000000000
def parts_noteOffset : Nat := 0x0
theorem Moves.noteOffset {p n : Nat} {theta : Int} (hM : Moves d₀ e₀ mo mp) (hO : Mask.le objs_noteOffset mo) (hP : Mask.le parts_noteOffset mp) :
    Moves d₀ (e₀.noteOffset p n theta) mo mp := by
  have O {a : Nat} (h : (a &&& objs_noteOffset == a) = true) := Mask.le_trans h hO
  have P {a : Nat} (h : (a &&& parts_noteOffset == a) = true) := Mask.le_trans h hP
  have B {k : Nat} (h : objs_noteOffset.testBit k = true) := Mask.bit h hO
  have S {k : Nat} (h : parts_noteOffset.testBit k = true) := Mask.bit h hP
  unfold Device.noteOffset
  try simp only
  repeat' first
    | with_reducible exact hM
    | with_reducible exact Moves.refl ..
    | with_reducible refine Moves.set ?_ (B (by decide)) (by decide)
    | with_reducible refine Moves.highWater ?_ (B (by decide)) (by decide)
    | dsimp only

def objs_tbSteer : Nat := 0x340000001c000000002000001000000000000000008000000001180a88000000000000000000000000000000000000000000000000080000000000002800000000c00000040000200001800
def parts_tbSteer : Nat := 0x180183c1fa3
theorem Moves.tbSteer {p n : Nat} {theta : Int} (hM : Moves d₀ e₀ mo mp) (hO : Mask.le objs_tbSteer mo) (hP : Mask.le parts_tbSteer mp) :
    Moves d₀ (e₀.tbSteer p n theta) mo mp := by
  have O {a : Nat} (h : (a &&& objs_tbSteer == a) = true) := Mask.le_trans h hO
  have P {a : Nat} (h : (a &&& parts_tbSteer == a) = true) := Mask.le_trans h hP
  unfold Device.tbSteer
  try simp only
  repeat' first
    | with_reducible exact hM
    | with_reducible exact Moves.refl ..
    | with_reducible refine Moves.setTb ?_ (O (by decide)) (P (by decide))
    | with_reducible refine Moves.tbAdj ?_ (O (by decide)) (P (by decide))
    | with_reducible refine Moves.tbMove ?_ (O (by decide)) (P (by decide))
    | with_reducible refine Moves.ite (fun _ => ?_) (fun _ => ?_)
    | with_reducible refine Moves.ite1 (fun _ => ?_) (fun _ => ?_)
    | split
    | dsimp only

def objs_holdover : Nat := 0x3400000000000000000000000000000000000000010000800000000000000000000000000000000000000000000000000000000000000000000000000000000000000000000000000000000
def parts_holdover : Nat := 0x2002a1
theorem Moves.holdover {p n : Nat} (hM : Moves d₀ e₀ mo mp) (hO : Mask.le objs_holdover mo) (hP : Mask.le parts_holdover mp) :
    Moves d₀ (e₀.holdover p n) mo mp := by
  have O {a : Nat} (h : (a &&& objs_holdover == a) = true) := Mask.le_trans h hO
  have P {a : Nat} (h : (a &&& parts_holdover == a) = true) := Mask.le_trans h hP
  have B {k : Nat} (h : objs_holdover.testBit k = true) := Mask.bit h hO
  have S {k : Nat} (h : parts_holdover.testBit k = true) := Mask.bit h hP
  unfold Device.holdover
  try simp only
  repeat' first
    | with_reducible exact hM
    | with_reducible exact Moves.refl ..
    | with_reducible refine Moves.set ?_ (B (by decide)) (by decide)
    | with_reducible refine Moves.bump ?_ (B (by decide)) (by decide) (S (by decide))
    | with_reducible refine Moves.causeTime ?_ (O (by decide)) (P (by decide))
    | with_reducible refine Moves.tbAdj ?_ (O (by decide)) (P (by decide))
    | with_reducible refine Moves.ite (fun _ => ?_) (fun _ => ?_)
    | with_reducible refine Moves.ite1 (fun _ => ?_) (fun _ => ?_)
    | split
    | dsimp only

def objs_tbEnter : Nat := 0x3400000000000000000000000000000000000000010000800000000000000000000000000000000000000000000000000000000000000000000000000000000000000000000000000000000
def parts_tbEnter : Nat := 0x2002a1
theorem Moves.tbEnter {p n st : Nat} (hM : Moves d₀ e₀ mo mp) (hO : Mask.le objs_tbEnter mo) (hP : Mask.le parts_tbEnter mp) :
    Moves d₀ (e₀.tbEnter p n st) mo mp := by
  have O {a : Nat} (h : (a &&& objs_tbEnter == a) = true) := Mask.le_trans h hO
  have P {a : Nat} (h : (a &&& parts_tbEnter == a) = true) := Mask.le_trans h hP
  have B {k : Nat} (h : objs_tbEnter.testBit k = true) := Mask.bit h hO
  have S {k : Nat} (h : parts_tbEnter.testBit k = true) := Mask.bit h hP
  unfold Device.tbEnter
  try simp only
  repeat' first
    | with_reducible exact hM
    | with_reducible exact Moves.refl ..
    | with_reducible refine Moves.set ?_ (B (by decide)) (by decide)
    | with_reducible refine Moves.causeTime ?_ (O (by decide)) (P (by decide))
    | with_reducible refine Moves.setTb ?_ (O (by decide)) (P (by decide))
    | with_reducible refine Moves.holdover ?_ (O (by decide)) (P (by decide))
    | with_reducible refine Moves.foldl ?_ (fun d a => ?_)
    | with_reducible refine Moves.ite (fun _ => ?_) (fun _ => ?_)
    | with_reducible refine Moves.ite1 (fun _ => ?_) (fun _ => ?_)
    | split
    | dsimp only

def objs_lose : Nat := 0x3400000000000000000000000000000000000000010000800000000000000000000000000000000000000000000000000000000000000000000000000000000000000000000000000000000
def parts_lose : Nat := 0x2002a1
theorem Moves.lose {p n : Nat} (hM : Moves d₀ e₀ mo mp) (hO : Mask.le objs_lose mo) (hP : Mask.le parts_lose mp) :
    Moves d₀ (e₀.lose p n) mo mp := by
  have O {a : Nat} (h : (a &&& objs_lose == a) = true) := Mask.le_trans h hO
  have P {a : Nat} (h : (a &&& parts_lose == a) = true) := Mask.le_trans h hP
  unfold Device.lose
  try simp only
  repeat' first
    | with_reducible exact hM
    | with_reducible exact Moves.refl ..
    | with_reducible refine Moves.holdover ?_ (O (by decide)) (P (by decide))
    | with_reducible refine Moves.foldl ?_ (fun d a => ?_)
    | with_reducible refine Moves.ite (fun _ => ?_) (fun _ => ?_)
    | with_reducible refine Moves.ite1 (fun _ => ?_) (fun _ => ?_)
    | split
    | dsimp only

def objs_tbJudge : Nat := 0x3400000000000000000000000000000000000000010000800000000000000000000000000000000000000000000000000000000000000000000000000000000000000000000000000000000
def parts_tbJudge : Nat := 0x2002a1
theorem Moves.tbJudge {p n : Nat} {theta : Int} (hM : Moves d₀ e₀ mo mp) (hO : Mask.le objs_tbJudge mo) (hP : Mask.le parts_tbJudge mp) :
    Moves d₀ (e₀.tbJudge p n theta) mo mp := by
  have O {a : Nat} (h : (a &&& objs_tbJudge == a) = true) := Mask.le_trans h hO
  have P {a : Nat} (h : (a &&& parts_tbJudge == a) = true) := Mask.le_trans h hP
  unfold Device.tbJudge
  try simp only
  repeat' first
    | with_reducible exact hM
    | with_reducible exact Moves.refl ..
    | with_reducible refine Moves.setTb ?_ (O (by decide)) (P (by decide))
    | with_reducible refine Moves.tbEnter ?_ (O (by decide)) (P (by decide))
    | with_reducible refine Moves.ite (fun _ => ?_) (fun _ => ?_)
    | with_reducible refine Moves.ite1 (fun _ => ?_) (fun _ => ?_)
    | split
    | dsimp only

def objs_tbSample : Nat := 0x340000001c000000002000001000000000000000218002800001180a88000000000000000000000000000000000000000000000000080000000000002800000000c00000040000200001800
def parts_tbSample : Nat := 0x180183c1fa3
theorem Moves.tbSample {p n : Nat} {theta : Int} (hM : Moves d₀ e₀ mo mp) (hO : Mask.le objs_tbSample mo) (hP : Mask.le parts_tbSample mp) :
    Moves d₀ (e₀.tbSample p n theta) mo mp := by
  have O {a : Nat} (h : (a &&& objs_tbSample == a) = true) := Mask.le_trans h hO
  have P {a : Nat} (h : (a &&& parts_tbSample == a) = true) := Mask.le_trans h hP
  unfold Device.tbSample
  try simp only
  repeat' first
    | with_reducible exact hM
    | with_reducible exact Moves.refl ..
    | with_reducible refine Moves.tbJudge ?_ (O (by decide)) (P (by decide))
    | with_reducible refine Moves.tbSteer ?_ (O (by decide)) (P (by decide))
    | with_reducible refine Moves.noteOffset ?_ (O (by decide)) (P (by decide))
    | with_reducible refine Moves.ite (fun _ => ?_) (fun _ => ?_)
    | with_reducible refine Moves.ite1 (fun _ => ?_) (fun _ => ?_)
    | split
    | dsimp only

def objs_ownSample : Nat := 0x340000001c000000002000001000000000000000218002800001180a88000000000000000000000000000000000000000000000000080000000000002800000000c00000040000200001800
def parts_ownSample : Nat := 0x180183c1fa3
theorem Moves.ownSample {p n : Nat} {theta : Int} (hM : Moves d₀ e₀ mo mp) (hO : Mask.le objs_ownSample mo) (hP : Mask.le parts_ownSample mp) :
    Moves d₀ (e₀.ownSample p n theta) mo mp := by
  have O {a : Nat} (h : (a &&& objs_ownSample == a) = true) := Mask.le_trans h hO
  have P {a : Nat} (h : (a &&& parts_ownSample == a) = true) := Mask.le_trans h hP
  unfold Device.ownSample
  try simp only
  repeat' first
    | with_reducible exact hM
    | with_reducible exact Moves.refl ..
    | with_reducible refine Moves.setTb ?_ (O (by decide)) (P (by decide))
    | with_reducible refine Moves.tbSample ?_ (O (by decide)) (P (by decide))
    | with_reducible refine Moves.foldl ?_ (fun d a => ?_)
    | with_reducible refine Moves.ite (fun _ => ?_) (fun _ => ?_)
    | with_reducible refine Moves.ite1 (fun _ => ?_) (fun _ => ?_)
    | split
    | dsimp only

def objs_switchover : Nat := 0x3400000000000000000000000000000000000000020800000000000000000000000000000000000000000000000000000000000000000000000000000000000000000000000000000000000
def parts_switchover : Nat := 0x2002a1
theorem Moves.switchover {p n : Nat} (hM : Moves d₀ e₀ mo mp) (hO : Mask.le objs_switchover mo) (hP : Mask.le parts_switchover mp) :
    Moves d₀ (e₀.switchover p n) mo mp := by
  have O {a : Nat} (h : (a &&& objs_switchover == a) = true) := Mask.le_trans h hO
  have P {a : Nat} (h : (a &&& parts_switchover == a) = true) := Mask.le_trans h hP
  have B {k : Nat} (h : objs_switchover.testBit k = true) := Mask.bit h hO
  have S {k : Nat} (h : parts_switchover.testBit k = true) := Mask.bit h hP
  unfold Device.switchover
  try simp only
  repeat' first
    | with_reducible exact hM
    | with_reducible exact Moves.refl ..
    | with_reducible refine Moves.set ?_ (B (by decide)) (by decide)
    | with_reducible refine Moves.bump ?_ (B (by decide)) (by decide) (S (by decide))
    | with_reducible refine Moves.causeTime ?_ (O (by decide)) (P (by decide))
    | with_reducible refine Moves.setTb ?_ (O (by decide)) (P (by decide))
    | dsimp only

def objs_tbTimeout : Nat := 0x3400000000000000000000000000000000000000030800800000000000000000000000000000000000000000000000000000000000000000000000000000000000000000000000000000000
def parts_tbTimeout : Nat := 0x2002a1
theorem Moves.tbTimeout {p n : Nat} (hM : Moves d₀ e₀ mo mp) (hO : Mask.le objs_tbTimeout mo) (hP : Mask.le parts_tbTimeout mp) :
    Moves d₀ (e₀.tbTimeout p n) mo mp := by
  have O {a : Nat} (h : (a &&& objs_tbTimeout == a) = true) := Mask.le_trans h hO
  have P {a : Nat} (h : (a &&& parts_tbTimeout == a) = true) := Mask.le_trans h hP
  unfold Device.tbTimeout
  try simp only
  repeat' first
    | with_reducible exact hM
    | with_reducible exact Moves.refl ..
    | with_reducible refine Moves.switchover ?_ (O (by decide)) (P (by decide))
    | with_reducible refine Moves.lose ?_ (O (by decide)) (P (by decide))
    | with_reducible refine Moves.tbEnter ?_ (O (by decide)) (P (by decide))
    | with_reducible refine Moves.tbAdj ?_ (O (by decide)) (P (by decide))
    | with_reducible refine Moves.ite (fun _ => ?_) (fun _ => ?_)
    | with_reducible refine Moves.ite1 (fun _ => ?_) (fun _ => ?_)
    | split
    | dsimp only

def objs_standbyRead : Nat := 0x1000000000000000000000000000000000000000000000000000000000000000000000000000000000000000000000000000000000000
def parts_standbyRead : Nat := 0x200000
theorem Moves.standbyRead {p a : Nat} (hM : Moves d₀ e₀ mo mp) (hO : Mask.le objs_standbyRead mo) (hP : Mask.le parts_standbyRead mp) :
    Moves d₀ (e₀.standbyRead p a) mo mp := by
  have O {a : Nat} (h : (a &&& objs_standbyRead == a) = true) := Mask.le_trans h hO
  have P {a : Nat} (h : (a &&& parts_standbyRead == a) = true) := Mask.le_trans h hP
  have B {k : Nat} (h : objs_standbyRead.testBit k = true) := Mask.bit h hO
  have S {k : Nat} (h : parts_standbyRead.testBit k = true) := Mask.bit h hP
  unfold Device.standbyRead
  try simp only
  repeat' first
    | with_reducible exact hM
    | with_reducible exact Moves.refl ..
    | with_reducible refine Moves.set ?_ (B (by decide)) (by decide)
    | with_reducible refine Moves.setTb ?_ (O (by decide)) (P (by decide))
    | with_reducible refine Moves.ite (fun _ => ?_) (fun _ => ?_)
    | with_reducible refine Moves.ite1 (fun _ => ?_) (fun _ => ?_)
    | split
    | dsimp only

def objs_tbEnableTo : Nat := 0x3400000000000000000000000000000000000000010000800000000000000000000000000000000000000000000000000000000000000000000000000000000000000000000000000000000
def parts_tbEnableTo : Nat := 0x2002a1
theorem Moves.tbEnableTo {p n v : Nat} (hM : Moves d₀ e₀ mo mp) (hO : Mask.le objs_tbEnableTo mo) (hP : Mask.le parts_tbEnableTo mp) :
    Moves d₀ (e₀.tbEnableTo p n v) mo mp := by
  have O {a : Nat} (h : (a &&& objs_tbEnableTo == a) = true) := Mask.le_trans h hO
  have P {a : Nat} (h : (a &&& parts_tbEnableTo == a) = true) := Mask.le_trans h hP
  unfold Device.tbEnableTo
  try simp only
  repeat' first
    | with_reducible exact hM
    | with_reducible exact Moves.refl ..
    | with_reducible refine Moves.tbEnter ?_ (O (by decide)) (P (by decide))
    | with_reducible refine Moves.tbAdj ?_ (O (by decide)) (P (by decide))
    | with_reducible refine Moves.ite (fun _ => ?_) (fun _ => ?_)
    | with_reducible refine Moves.ite1 (fun _ => ?_) (fun _ => ?_)
    | split
    | dsimp only

def objs_tbTimeTo : Nat := 0x340000001c000000002000001000000000000000018000800001180a88000000000000000000000000000000000000000000000000080000000000002800000000c00000040000200001800
def parts_tbTimeTo : Nat := 0x180183c1fa3
theorem Moves.tbTimeTo {p n ns : Nat} (hM : Moves d₀ e₀ mo mp) (hO : Mask.le objs_tbTimeTo mo) (hP : Mask.le parts_tbTimeTo mp) :
    Moves d₀ (e₀.tbTimeTo p n ns) mo mp := by
  have O {a : Nat} (h : (a &&& objs_tbTimeTo == a) = true) := Mask.le_trans h hO
  have P {a : Nat} (h : (a &&& parts_tbTimeTo == a) = true) := Mask.le_trans h hP
  unfold Device.tbTimeTo
  try simp only
  repeat' first
    | with_reducible exact hM
    | with_reducible exact Moves.refl ..
    | with_reducible refine Moves.setTb ?_ (O (by decide)) (P (by decide))
    | with_reducible refine Moves.tbEnter ?_ (O (by decide)) (P (by decide))
    | with_reducible refine Moves.tbMove ?_ (O (by decide)) (P (by decide))
    | with_reducible refine Moves.ite (fun _ => ?_) (fun _ => ?_)
    | with_reducible refine Moves.ite1 (fun _ => ?_) (fun _ => ?_)
    | split
    | dsimp only

def objs_ptpQueue : Nat := 0x0
def parts_ptpQueue : Nat := 0x1810
theorem Moves.ptpQueue {p n : Nat} {f : Frame} (hM : Moves d₀ e₀ mo mp) (hO : Mask.le objs_ptpQueue mo) (hP : Mask.le parts_ptpQueue mp) :
    Moves d₀ (e₀.ptpQueue p n f) mo mp := by
  have O {a : Nat} (h : (a &&& objs_ptpQueue == a) = true) := Mask.le_trans h hO
  have P {a : Nat} (h : (a &&& parts_ptpQueue == a) = true) := Mask.le_trans h hP
  unfold Device.ptpQueue
  try simp only
  repeat' first
    | with_reducible exact hM
    | with_reducible exact Moves.refl ..
    | with_reducible refine Moves.newId ?_ (O (by decide)) (P (by decide))
    | with_reducible refine Moves.setFrame ?_ (O (by decide)) (P (by decide))
    | with_reducible refine Moves.setCopy ?_ (O (by decide)) (P (by decide))
    | dsimp only

def objs_ptpSend : Nat := 0x34000000000000000000000000000000000000001000000000000000000000000000000000000000000200000000000000000000000000000000000000000000c7e00000000000000000000
def parts_ptpSend : Nat := 0x800c1bb9
theorem Moves.ptpSend {p o domain : Nat} {oneStep : Bool} {b : Bytes} (hM : Moves d₀ e₀ mo mp) (hO : Mask.le objs_ptpSend mo) (hP : Mask.le parts_ptpSend mp) :
    Moves d₀ (e₀.ptpSend p o domain oneStep b) mo mp := by
  have O {a : Nat} (h : (a &&& objs_ptpSend == a) = true) := Mask.le_trans h hO
  have P {a : Nat} (h : (a &&& parts_ptpSend == a) = true) := Mask.le_trans h hP
  have B {k : Nat} (h : objs_ptpSend.testBit k = true) := Mask.bit h hO
  have S {k : Nat} (h : parts_ptpSend.testBit k = true) := Mask.bit h hP
  unfold Device.ptpSend
  try simp only
  repeat' first
    | with_reducible exact hM
    | with_reducible exact Moves.refl ..
    | with_reducible refine Moves.ptpCount ?_ (B (by first | decide | (split <;> decide) | (cases m <;> decide))) (by decide) (S (by decide)) (O (by decide)) (P (by decide))
    | with_reducible refine Moves.ptpQueue ?_ (O (by decide)) (P (by decide))
    | with_reducible refine Moves.placeTrib ?_ (O (by decide)) (P (by decide))
    | with_reducible refine Moves.ite (fun _ => ?_) (fun _ => ?_)
    | with_reducible refine Moves.ite1 (fun _ => ?_) (fun _ => ?_)
    | split
    | dsimp only

def objs_syncTx : Nat := 0x34000000000000000000000000000000000000001000000000000000000000000000000000000000000200000000000000000000000000000000000000000000c7e00000000000000000000
def parts_syncTx : Nat := 0x802c1bb9
theorem Moves.syncTx {p n o : Nat} (hM : Moves d₀ e₀ mo mp) (hO : Mask.le objs_syncTx mo) (hP : Mask.le parts_syncTx mp) :
    Moves d₀ (e₀.syncTx p n o) mo mp := by
  have O {a : Nat} (h : (a &&& objs_syncTx == a) = true) := Mask.le_trans h hO
  have P {a : Nat} (h : (a &&& parts_syncTx == a) = true) := Mask.le_trans h hP
  unfold Device.syncTx
  try simp only
  repeat' first
    | with_reducible exact hM
    | with_reducible exact Moves.refl ..
    | with_reducible refine Moves.setTb ?_ (O (by decide)) (P (by decide))
    | with_reducible refine Moves.ptpSend ?_ (O (by decide)) (P (by decide))
    | with_reducible refine Moves.ite (fun _ => ?_) (fun _ => ?_)
    | with_reducible refine Moves.ite1 (fun _ => ?_) (fun _ => ?_)
    | split
    | dsimp only

def objs_announces : Nat := 0x0
def parts_announces : Nat := 0x8
theorem Moves.announces {p n : Nat} (hM : Moves d₀ e₀ mo mp) (hO : Mask.le objs_announces mo) (hP : Mask.le parts_announces mp) :
    Moves d₀ (e₀.announces p n).1 mo mp := by
  have O {a : Nat} (h : (a &&& objs_announces == a) = true) := Mask.le_trans h hO
  have P {a : Nat} (h : (a &&& parts_announces == a) = true) := Mask.le_trans h hP
  unfold Device.announces
  try simp only
  repeat' first
    | with_reducible exact hM
    | with_reducible exact Moves.refl ..
    | with_reducible refine Moves.fresh ?_ (O (by decide)) (P (by decide))
    | split
    | dsimp only

def objs_announceTx : Nat := 0x34000000000000000000000000000000000000001000000000000000000000000000000000000000000200000000000000000000000000000000000000000000c7e00000000000000000000
def parts_announceTx : Nat := 0x802c1bb9
theorem Moves.announceTx {p n o : Nat} (hM : Moves d₀ e₀ mo mp) (hO : Mask.le objs_announceTx mo) (hP : Mask.le parts_announceTx mp) :
    Moves d₀ (e₀.announceTx p n o) mo mp := by
  have O {a : Nat} (h : (a &&& objs_announceTx == a) = true) := Mask.le_trans h hO
  have P {a : Nat} (h : (a &&& parts_announceTx == a) = true) := Mask.le_trans h hP
  unfold Device.announceTx
  try simp only
  repeat' first
    | with_reducible exact hM
    | with_reducible exact Moves.refl ..
    | with_reducible refine Moves.fresh ?_ (O (by decide)) (P (by decide))
    | with_reducible refine Moves.setTb ?_ (O (by decide)) (P (by decide))
    | with_reducible refine Moves.announces ?_ (O (by decide)) (P (by decide))
    | with_reducible refine Moves.ptpSend ?_ (O (by decide)) (P (by decide))
    | with_reducible refine Moves.ite (fun _ => ?_) (fun _ => ?_)
    | with_reducible refine Moves.ite1 (fun _ => ?_) (fun _ => ?_)
    | split
    | dsimp only

def objs_pdelayTx : Nat := 0x34000000000000000000000000000000000000001000000000000000000000000000000000000000000200000000000000000000000000000000000000000000c7e00000000000000000000
def parts_pdelayTx : Nat := 0x804c1bb9
theorem Moves.pdelayTx {p o : Nat} (hM : Moves d₀ e₀ mo mp) (hO : Mask.le objs_pdelayTx mo) (hP : Mask.le parts_pdelayTx mp) :
    Moves d₀ (e₀.pdelayTx p o) mo mp := by
  have O {a : Nat} (h : (a &&& objs_pdelayTx == a) = true) := Mask.le_trans h hO
  have P {a : Nat} (h : (a &&& parts_pdelayTx == a) = true) := Mask.le_trans h hP
  unfold Device.pdelayTx
  try simp only
  repeat' first
    | with_reducible exact hM
    | with_reducible exact Moves.refl ..
    | with_reducible refine Moves.setPd ?_ (O (by decide)) (P (by decide))
    | with_reducible refine Moves.ptpSend ?_ (O (by decide)) (P (by decide))
    | with_reducible refine Moves.ite (fun _ => ?_) (fun _ => ?_)
    | with_reducible refine Moves.ite1 (fun _ => ?_) (fun _ => ?_)
    | split
    | dsimp only

def objs_setDelay : Nat := 0x6c00000000000000000000000000000000000000000000000000000000000000000000000000000000000000000000000000000000000000
def parts_setDelay : Nat := 0x0
theorem Moves.setDelay {p o ns valid : Nat} (hM : Moves d₀ e₀ mo mp) (hO : Mask.le objs_setDelay mo) (hP : Mask.le parts_setDelay mp) :
    Moves d₀ (e₀.setDelay p o ns valid) mo mp := by
  have O {a : Nat} (h : (a &&& objs_setDelay == a) = true) := Mask.le_trans h hO
  have P {a : Nat} (h : (a &&& parts_setDelay == a) = true) := Mask.le_trans h hP
  have B {k : Nat} (h : objs_setDelay.testBit k = true) := Mask.bit h hO
  have S {k : Nat} (h : parts_setDelay.testBit k = true) := Mask.bit h hP
  unfold Device.setDelay
  try simp only
  repeat' first
    | with_reducible exact hM
    | with_reducible exact Moves.refl ..
    | with_reducible refine Moves.set ?_ (B (by decide)) (by decide)
    | with_reducible refine Moves.ite (fun _ => ?_) (fun _ => ?_)
    | with_reducible refine Moves.ite1 (fun _ => ?_) (fun _ => ?_)
    | split
    | dsimp only

def objs_syncRx : Nat := 0x340000001c0000000020000010000000000000003d8002800001180a88000000000000000000000000000000000000000000000000080000000000002800000000c00000040000200001800
def parts_syncRx : Nat := 0x180183c1fab
theorem Moves.syncRx {p o : Nat} {m : PtpMsg} (hM : Moves d₀ e₀ mo mp) (hO : Mask.le objs_syncRx mo) (hP : Mask.le parts_syncRx mp) :
    Moves d₀ (e₀.syncRx p o m) mo mp := by
  have O {a : Nat} (h : (a &&& objs_syncRx == a) = true) := Mask.le_trans h hO
  have P {a : Nat} (h : (a &&& parts_syncRx == a) = true) := Mask.le_trans h hP
  have B {k : Nat} (h : objs_syncRx.testBit k = true) := Mask.bit h hO
  have S {k : Nat} (h : parts_syncRx.testBit k = true) := Mask.bit h hP
  unfold Device.syncRx
  try simp only
  repeat' first
    | with_reducible exact hM
    | with_reducible exact Moves.refl ..
    | with_reducible refine Moves.ptpCount ?_ (B (by first | decide | (split <;> decide) | (cases m <;> decide))) (by decide) (S (by decide)) (O (by decide)) (P (by decide))
    | with_reducible refine Moves.bump ?_ (B (by first | decide | (split <;> decide) | (cases m <;> decide))) (by first | decide | (split <;> decide) | (cases m <;> decide)) (S (by decide))
    | with_reducible refine Moves.ownSample ?_ (O (by decide)) (P (by decide))
    | with_reducible refine Moves.foldl ?_ (fun d a => ?_)
    | with_reducible refine Moves.ite (fun _ => ?_) (fun _ => ?_)
    | with_reducible refine Moves.ite1 (fun _ => ?_) (fun _ => ?_)
    | split
    | dsimp only

def objs_announceRx : Nat := 0x40000000000000000000000000000000000000000000000000000000000000000000000000000000000000000000000000000000000000
def parts_announceRx : Nat := 0x200009
theorem Moves.announceRx {p o : Nat} {m : PtpMsg} (hM : Moves d₀ e₀ mo mp) (hO : Mask.le objs_announceRx mo) (hP : Mask.le parts_announceRx mp) :
    Moves d₀ (e₀.announceRx p o m) mo mp := by
  have O {a : Nat} (h : (a &&& objs_announceRx == a) = true) := Mask.le_trans h hO
  have P {a : Nat} (h : (a &&& parts_announceRx == a) = true) := Mask.le_trans h hP
  have B {k : Nat} (h : objs_announceRx.testBit k = true) := Mask.bit h hO
  have S {k : Nat} (h : parts_announceRx.testBit k = true) := Mask.bit h hP
  unfold Device.announceRx
  try simp only
  repeat' first
    | with_reducible exact hM
    | with_reducible exact Moves.refl ..
    | with_reducible refine Moves.ptpCount ?_ (B (by first | decide | (split <;> decide) | (cases m <;> decide))) (by decide) (S (by decide)) (O (by decide)) (P (by decide))
    | with_reducible refine Moves.setTb ?_ (O (by decide)) (P (by decide))
    | with_reducible refine Moves.foldl ?_ (fun d a => ?_)
    | with_reducible refine Moves.ite (fun _ => ?_) (fun _ => ?_)
    | with_reducible refine Moves.ite1 (fun _ => ?_) (fun _ => ?_)
    | split
    | dsimp only

def objs_pdelayReqRx : Nat := 0x34000000000000000000000000000000000000001400000000000000000000000000000000000000000200000000000000000000000000000000000000000000c7e00000000000000000000
def parts_pdelayReqRx : Nat := 0x800c1bb9
theorem Moves.pdelayReqRx {p o : Nat} {m : PtpMsg} (hM : Moves d₀ e₀ mo mp) (hO : Mask.le objs_pdelayReqRx mo) (hP : Mask.le parts_pdelayReqRx mp) :
    Moves d₀ (e₀.pdelayReqRx p o m) mo mp := by
  have O {a : Nat} (h : (a &&& objs_pdelayReqRx == a) = true) := Mask.le_trans h hO
  have P {a : Nat} (h : (a &&& parts_pdelayReqRx == a) = true) := Mask.le_trans h hP
  have B {k : Nat} (h : objs_pdelayReqRx.testBit k = true) := Mask.bit h hO
  have S {k : Nat} (h : parts_pdelayReqRx.testBit k = true) := Mask.bit h hP
  unfold Device.pdelayReqRx
  try simp only
  repeat' first
    | with_reducible exact hM
    | with_reducible exact Moves.refl ..
    | with_reducible refine Moves.ptpCount ?_ (B (by first | decide | (split <;> decide) | (cases m <;> decide))) (by decide) (S (by decide)) (O (by decide)) (P (by decide))
    | with_reducible refine Moves.ptpSend ?_ (O (by decide)) (P (by decide))
    | with_reducible refine Moves.ite (fun _ => ?_) (fun _ => ?_)
    | with_reducible refine Moves.ite1 (fun _ => ?_) (fun _ => ?_)
    | split
    | dsimp only

def objs_pdelayRespRx : Nat := 0x6dc0000000000000000000000000000000000000000000000000000000000000000000000000000000000000000000000000000000000000
def parts_pdelayRespRx : Nat := 0x400009
theorem Moves.pdelayRespRx {p o : Nat} {m : PtpMsg} (hM : Moves d₀ e₀ mo mp) (hO : Mask.le objs_pdelayRespRx mo) (hP : Mask.le parts_pdelayRespRx mp) :
    Moves d₀ (e₀.pdelayRespRx p o m) mo mp := by
  have O {a : Nat} (h : (a &&& objs_pdelayRespRx == a) = true) := Mask.le_trans h hO
  have P {a : Nat} (h : (a &&& parts_pdelayRespRx == a) = true) := Mask.le_trans h hP
  have B {k : Nat} (h : objs_pdelayRespRx.testBit k = true) := Mask.bit h hO
  have S {k : Nat} (h : parts_pdelayRespRx.testBit k = true) := Mask.bit h hP
  unfold Device.pdelayRespRx
  try simp only
  repeat' first
    | with_reducible exact hM
    | with_reducible exact Moves.refl ..
    | with_reducible refine Moves.ptpCount ?_ (B (by first | decide | (split <;> decide) | (cases m <;> decide))) (by decide) (S (by decide)) (O (by decide)) (P (by decide))
    | with_reducible refine Moves.setPd ?_ (O (by decide)) (P (by decide))
    | with_reducible refine Moves.setDelay ?_ (O (by decide)) (P (by decide))
    | with_reducible refine Moves.ite (fun _ => ?_) (fun _ => ?_)
    | with_reducible refine Moves.ite1 (fun _ => ?_) (fun _ => ?_)
    | split
    | dsimp only

def objs_delayExpired : Nat := 0x3400000000000000000000000000000000000004800000000000000000000000000000000000000000000000000000000000000000000000000000000000000000000000000000000000000
def parts_delayExpired : Nat := 0x2a0
theorem Moves.delayExpired {p o : Nat} (hM : Moves d₀ e₀ mo mp) (hO : Mask.le objs_delayExpired mo) (hP : Mask.le parts_delayExpired mp) :
    Moves d₀ (e₀.delayExpired p o) mo mp := by
  have O {a : Nat} (h : (a &&& objs_delayExpired == a) = true) := Mask.le_trans h hO
  have P {a : Nat} (h : (a &&& parts_delayExpired == a) = true) := Mask.le_trans h hP
  have B {k : Nat} (h : objs_delayExpired.testBit k = true) := Mask.bit h hO
  have S {k : Nat} (h : parts_delayExpired.testBit k = true) := Mask.bit h hP
  unfold Device.delayExpired
  try simp only
  repeat' first
    | with_reducible exact hM
    | with_reducible exact Moves.refl ..
    | with_reducible refine Moves.set ?_ (B (by decide)) (by decide)
    | with_reducible refine Moves.causeTime ?_ (O (by decide)) (P (by decide))
    | with_reducible refine Moves.foldl ?_ (fun d a => ?_)
    | with_reducible refine Moves.ite (fun _ => ?_) (fun _ => ?_)
    | with_reducible refine Moves.ite1 (fun _ => ?_) (fun _ => ?_)
    | split
    | dsimp only

def objs_redundantSet : Nat := 0x800000000000000000000000000000000000000000000000000000000000000000000000000000000000000000000000000000000000
def parts_redundantSet : Nat := 0x200000
theorem Moves.redundantSet {p n : Nat} (hM : Moves d₀ e₀ mo mp) (hO : Mask.le objs_redundantSet mo) (hP : Mask.le parts_redundantSet mp) :
    Moves d₀ (e₀.redundantSet p n) mo mp := by
  have O {a : Nat} (h : (a &&& objs_redundantSet == a) = true) := Mask.le_trans h hO
  have P {a : Nat} (h : (a &&& parts_redundantSet == a) = true) := Mask.le_trans h hP
  have B {k : Nat} (h : objs_redundantSet.testBit k = true) := Mask.bit h hO
  have S {k : Nat} (h : parts_redundantSet.testBit k = true) := Mask.bit h hP
  unfold Device.redundantSet
  try simp only
  repeat' first
    | with_reducible exact hM
    | with_reducible exact Moves.refl ..
    | with_reducible refine Moves.set ?_ (B (by decide)) (by decide)
    | with_reducible refine Moves.setTb ?_ (O (by decide)) (P (by decide))
    | dsimp only


end Sys2Proof.Machine
end

