-- ==== Sys2Proof/Laws/MovesManage.lean ====
section
/-! SUPPORT. What the operations of tenants, management, initialisation and health can change: one lemma each. -/

namespace Sys2Proof.Machine

set_option linter.unusedSimpArgs false
set_option linter.unreachableTactic false
set_option linter.unusedTactic false
set_option linter.unusedVariables false
set_option linter.unnecessarySeqFocus false

variable {d₀ e₀ : Device} {mo mp : Nat}

theorem Moves.tnCommand {rq : Req} {p t v : Nat} {f : Device → Device × Bool} (hM : Moves d₀ e₀ mo mp) (hf : ∀ d, Moves d (f d).1 mo mp)
    (hO : Mask.le objs_request mo) (hP : Mask.le parts_request mp) : Moves d₀ (e₀.tnCommand rq p t v f) mo mp :=
  hM.request (fun d => (Moves.refl ..).doWrite hf) hO hP

def objs_tnJournal : Nat := 0x7ffffffffffffffffffffffffffffffffffffffffffffffffffffffffffffffffffffffffffffffffffffffffffffffffffffffffffffffffffffffffffffffffffffffffffffffffffffff
def parts_tnJournal : Nat := 0xffffffffffffffff
theorem Moves.tnJournal {p t st : Nat} {vals : List (Key × Nat)} (hM : Moves d₀ e₀ mo mp) (hO : Mask.le objs_tnJournal mo) (hP : Mask.le parts_tnJournal mp) :
    Moves d₀ (e₀.tnJournal p t st vals).1 mo mp := by
  have O {a : Nat} (h : (a &&& objs_tnJournal == a) = true) := Mask.le_trans h hO
  have P {a : Nat} (h : (a &&& parts_tnJournal == a) = true) := Mask.le_trans h hP
  have B {k : Nat} (h : objs_tnJournal.testBit k = true) := Mask.bit h hO
  have S {k : Nat} (h : parts_tnJournal.testBit k = true) := Mask.bit h hP
  unfold Device.tnJournal
  try simp only
  repeat' first
    | with_reducible exact hM
    | with_reducible exact Moves.refl ..
    | refine Moves.setAny ?_ (B (Mask.all _)) (S (by decide))
    | with_reducible refine Moves.journal ?_ (O (by decide)) (P (by decide))
    | with_reducible refine Moves.foldl ?_ (fun d a => ?_)
    | with_reducible refine Moves.ite (fun _ => ?_) (fun _ => ?_)
    | with_reducible refine Moves.ite1 (fun _ => ?_) (fun _ => ?_)
    | split
    | dsimp only

def objs_tnCreate : Nat := 0x7ffffffffffffffffffffffffffffffffffffffffffffffffffffffffffffffffffffffffffffffffffffffffffffffffffffffffffffffffffffffffffffffffffffffffffffffffffffff
def parts_tnCreate : Nat := 0xffffffffffffffff
theorem Moves.tnCreate {p t : Nat} (hM : Moves d₀ e₀ mo mp) (hO : Mask.le objs_tnCreate mo) (hP : Mask.le parts_tnCreate mp) :
    Moves d₀ (e₀.tnCreate p t).1 mo mp := by
  have O {a : Nat} (h : (a &&& objs_tnCreate == a) = true) := Mask.le_trans h hO
  have P {a : Nat} (h : (a &&& parts_tnCreate == a) = true) := Mask.le_trans h hP
  have B {k : Nat} (h : objs_tnCreate.testBit k = true) := Mask.bit h hO
  have S {k : Nat} (h : parts_tnCreate.testBit k = true) := Mask.bit h hP
  unfold Device.tnCreate
  try simp only
  repeat' first
    | with_reducible exact hM
    | with_reducible exact Moves.refl ..
    | with_reducible refine Moves.set ?_ (B (by first | decide | (split <;> decide))) (by first | decide | (split <;> decide))
    | with_reducible refine Moves.tnJournal ?_ (O (by decide)) (P (by decide))
    | with_reducible refine Moves.ite (fun _ => ?_) (fun _ => ?_)
    | with_reducible refine Moves.ite1 (fun _ => ?_) (fun _ => ?_)
    | split
    | dsimp only

def objs_tnSuspend : Nat := 0x7ffffffffffffffffffffffffffffffffffffffffffffffffffffffffffffffffffffffffffffffffffffffffffffffffffffffffffffffffffffffffffffffffffffffffffffffffffffff
def parts_tnSuspend : Nat := 0xffffffffffffffff
theorem Moves.tnSuspend {p t : Nat} (hM : Moves d₀ e₀ mo mp) (hO : Mask.le objs_tnSuspend mo) (hP : Mask.le parts_tnSuspend mp) :
    Moves d₀ (e₀.tnSuspend p t).1 mo mp := by
  have O {a : Nat} (h : (a &&& objs_tnSuspend == a) = true) := Mask.le_trans h hO
  have P {a : Nat} (h : (a &&& parts_tnSuspend == a) = true) := Mask.le_trans h hP
  have B {k : Nat} (h : objs_tnSuspend.testBit k = true) := Mask.bit h hO
  have S {k : Nat} (h : parts_tnSuspend.testBit k = true) := Mask.bit h hP
  unfold Device.tnSuspend
  try simp only
  repeat' first
    | with_reducible exact hM
    | with_reducible exact Moves.refl ..
    | with_reducible refine Moves.set ?_ (B (by decide)) (by decide)
    | with_reducible refine Moves.tnJournal ?_ (O (by decide)) (P (by decide))
    | with_reducible refine Moves.run ?_ (O (by decide)) (P (by decide))
    | with_reducible refine Moves.failSlot ?_ (O (by decide)) (P (by decide))
    | with_reducible refine Moves.foldl ?_ (fun d a => ?_)
    | with_reducible refine Moves.ite (fun _ => ?_) (fun _ => ?_)
    | with_reducible refine Moves.ite1 (fun _ => ?_) (fun _ => ?_)
    | split
    | dsimp only

def objs_tnSuspended : Nat := 0x40000000000000000000000000000000000000000000000000000000000000000000000000000000000000000000000000000000000000000
def parts_tnSuspended : Nat := 0x0
theorem Moves.tnSuspended {p t : Nat} (hM : Moves d₀ e₀ mo mp) (hO : Mask.le objs_tnSuspended mo) (hP : Mask.le parts_tnSuspended mp) :
    Moves d₀ (e₀.tnSuspended p t) mo mp := by
  have O {a : Nat} (h : (a &&& objs_tnSuspended == a) = true) := Mask.le_trans h hO
  have P {a : Nat} (h : (a &&& parts_tnSuspended == a) = true) := Mask.le_trans h hP
  have B {k : Nat} (h : objs_tnSuspended.testBit k = true) := Mask.bit h hO
  have S {k : Nat} (h : parts_tnSuspended.testBit k = true) := Mask.bit h hP
  unfold Device.tnSuspended
  try simp only
  repeat' first
    | with_reducible exact hM
    | with_reducible exact Moves.refl ..
    | with_reducible refine Moves.set ?_ (B (by decide)) (by decide)
    | with_reducible refine Moves.ite (fun _ => ?_) (fun _ => ?_)
    | with_reducible refine Moves.ite1 (fun _ => ?_) (fun _ => ?_)
    | split
    | dsimp only

def objs_tnResume : Nat := 0x7ffffffffffffffffffffffffffffffffffffffffffffffffffffffffffffffffffffffffffffffffffffffffffffffffffffffffffffffffffffffffffffffffffffffffffffffffffffff
def parts_tnResume : Nat := 0xffffffffffffffff
theorem Moves.tnResume {p t : Nat} (hM : Moves d₀ e₀ mo mp) (hO : Mask.le objs_tnResume mo) (hP : Mask.le parts_tnResume mp) :
    Moves d₀ (e₀.tnResume p t).1 mo mp := by
  have O {a : Nat} (h : (a &&& objs_tnResume == a) = true) := Mask.le_trans h hO
  have P {a : Nat} (h : (a &&& parts_tnResume == a) = true) := Mask.le_trans h hP
  have B {k : Nat} (h : objs_tnResume.testBit k = true) := Mask.bit h hO
  have S {k : Nat} (h : parts_tnResume.testBit k = true) := Mask.bit h hP
  unfold Device.tnResume
  try simp only
  repeat' first
    | with_reducible exact hM
    | with_reducible exact Moves.refl ..
    | with_reducible refine Moves.set ?_ (B (by first | decide | (split <;> decide))) (by first | decide | (split <;> decide))
    | with_reducible refine Moves.tnJournal ?_ (O (by decide)) (P (by decide))
    | with_reducible refine Moves.ite (fun _ => ?_) (fun _ => ?_)
    | with_reducible refine Moves.ite1 (fun _ => ?_) (fun _ => ?_)
    | split
    | dsimp only

def objs_tnRemove : Nat := 0x7ffffffffffffffffffffffffffffffffffffffffffffffffffffffffffffffffffffffffffffffffffffffffffffffffffffffffffffffffffffffffffffffffffffffffffffffffffffff
def parts_tnRemove : Nat := 0xffffffffffffffff
theorem Moves.tnRemove {p t : Nat} (hM : Moves d₀ e₀ mo mp) (hO : Mask.le objs_tnRemove mo) (hP : Mask.le parts_tnRemove mp) :
    Moves d₀ (e₀.tnRemove p t).1 mo mp := by
  have O {a : Nat} (h : (a &&& objs_tnRemove == a) = true) := Mask.le_trans h hO
  have P {a : Nat} (h : (a &&& parts_tnRemove == a) = true) := Mask.le_trans h hP
  have B {k : Nat} (h : objs_tnRemove.testBit k = true) := Mask.bit h hO
  have S {k : Nat} (h : parts_tnRemove.testBit k = true) := Mask.bit h hP
  unfold Device.tnRemove
  extract_lets agent mine range r d1 d2 syncs d3 d4 d5
  have hr : Moves d₀ r.1 mo mp := hM.tnJournal (O (by decide)) (P (by decide))
  clear_value r
  have h1 : Moves d₀ d1 mo mp := hr.foldl (fun d a => (Moves.refl ..).freeAll (O (by decide)) (P (by decide)))
  clear_value d1
  have h2 : Moves d₀ d2 mo mp := h1.any (by rfl) (O (by decide)) (P (by decide))
  clear_value d2
  have h3 : Moves d₀ d3 mo mp := h2.foldl (fun d a => (Moves.refl ..).any (by rfl) (O (by decide)) (P (by decide)))
  clear_value d3
  have h4 : Moves d₀ d4 mo mp := h3.foldl (fun d a => (Moves.refl ..).any (by rfl) (O (by decide)) (P (by decide)))
  clear_value d4
  have h5 : Moves d₀ d5 mo mp := h4.any (by rfl) (O (by decide)) (P (by decide))
  clear_value d5
  split
  · exact hM.any (by rfl) (O (by decide)) (P (by decide))
  · split
    · exact hr
    · exact h5.any (by rfl) (O (by decide)) (P (by decide))


def objs_storeFences : Nat := 0x340000000000000000000000002b800000000000000000000000000000000000000000000000000000000000000000000000000000000000000000000000000000000000000000000000000
def parts_storeFences : Nat := 0x2a1
theorem Moves.storeFences {p : Nat} (hM : Moves d₀ e₀ mo mp) (hO : Mask.le objs_storeFences mo) (hP : Mask.le parts_storeFences mp) :
    Moves d₀ (e₀.storeFences p) mo mp := by
  have O {a : Nat} (h : (a &&& objs_storeFences == a) = true) := Mask.le_trans h hO
  have P {a : Nat} (h : (a &&& parts_storeFences == a) = true) := Mask.le_trans h hP
  unfold Device.storeFences
  try simp only
  repeat' first
    | with_reducible exact hM
    | with_reducible exact Moves.refl ..
    | with_reducible refine Moves.journal ?_ (O (by decide)) (P (by decide))
    | dsimp only

def objs_fencePort : Nat := 0x340000001c000000002000000000000000000000000000000801180a88000000000000000000000000000000000000000000000000080000000000000000000000c00000040000200001800
def parts_fencePort : Nat := 0x80181c1fa1
theorem Moves.fencePort {p n : Nat} (hM : Moves d₀ e₀ mo mp) (hO : Mask.le objs_fencePort mo) (hP : Mask.le parts_fencePort mp) :
    Moves d₀ (e₀.fencePort p n) mo mp := by
  have O {a : Nat} (h : (a &&& objs_fencePort == a) = true) := Mask.le_trans h hO
  have P {a : Nat} (h : (a &&& parts_fencePort == a) = true) := Mask.le_trans h hP
  unfold Device.fencePort
  try simp only
  repeat' first
    | with_reducible exact hM
    | with_reducible exact Moves.refl ..
    | with_reducible refine Moves.setPort ?_ (O (by decide)) (P (by decide))
    | with_reducible refine Moves.removeCircuit ?_ (O (by decide)) (P (by decide))
    | with_reducible refine Moves.leavePort ?_ (O (by decide)) (P (by decide))
    | dsimp only

def objs_fenceLink : Nat := 0x340000001c000000002000000000000000003000040000000001180a880000000000003e00208000015fb20002e8020006606cb80128021ff3e4000000000000c7e02103c7e800200000200
def parts_fenceLink : Nat := 0x80ff9ffff9
theorem Moves.fenceLink {p l : Nat} (hM : Moves d₀ e₀ mo mp) (hO : Mask.le objs_fenceLink mo) (hP : Mask.le parts_fenceLink mp) :
    Moves d₀ (e₀.fenceLink p l) mo mp := by
  have O {a : Nat} (h : (a &&& objs_fenceLink == a) = true) := Mask.le_trans h hO
  have P {a : Nat} (h : (a &&& parts_fenceLink == a) = true) := Mask.le_trans h hP
  have B {k : Nat} (h : objs_fenceLink.testBit k = true) := Mask.bit h hO
  have S {k : Nat} (h : parts_fenceLink.testBit k = true) := Mask.bit h hP
  unfold Device.fenceLink
  try simp only
  repeat' first
    | with_reducible exact hM
    | with_reducible exact Moves.refl ..
    | with_reducible refine Moves.set ?_ (B (by decide)) (by decide)
    | with_reducible refine Moves.emit ?_ (O (by decide)) (P (by decide))
    | with_reducible refine Moves.goOof ?_ (O (by decide)) (P (by decide))
    | with_reducible refine Moves.lhRefresh ?_ (O (by decide)) (P (by decide))
    | with_reducible refine Moves.flushOut ?_ (O (by decide)) (P (by decide))
    | dsimp only

def objs_fence : Nat := 0x340000001c00000000200000002b800000003000040000000801180a880000000000003e00208000015fb20002e8020006606cb80128021ff3e4000000000000c7e02103c7e800200001a40
def parts_fence : Nat := 0x80ff9ffff9
theorem Moves.fence {p : Nat} (hM : Moves d₀ e₀ mo mp) (hO : Mask.le objs_fence mo) (hP : Mask.le parts_fence mp) :
    Moves d₀ (e₀.fence p) mo mp := by
  have O {a : Nat} (h : (a &&& objs_fence == a) = true) := Mask.le_trans h hO
  have P {a : Nat} (h : (a &&& parts_fence == a) = true) := Mask.le_trans h hP
  have B {k : Nat} (h : objs_fence.testBit k = true) := Mask.bit h hO
  have S {k : Nat} (h : parts_fence.testBit k = true) := Mask.bit h hP
  unfold Device.fence
  try simp only
  repeat' first
    | with_reducible exact hM
    | with_reducible exact Moves.refl ..
    | with_reducible refine Moves.set ?_ (B (by decide)) (by decide)
    | with_reducible refine Moves.setPlane ?_ (O (by decide)) (P (by decide))
    | with_reducible refine Moves.fenceLink ?_ (O (by decide)) (P (by decide))
    | with_reducible refine Moves.fencePort ?_ (O (by decide)) (P (by decide))
    | with_reducible refine Moves.storeFences ?_ (O (by decide)) (P (by decide))
    | with_reducible refine Moves.foldl ?_ (fun d a => ?_)
    | with_reducible refine Moves.ite (fun _ => ?_) (fun _ => ?_)
    | with_reducible refine Moves.ite1 (fun _ => ?_) (fun _ => ?_)
    | split
    | dsimp only

def objs_fenceDone : Nat := 0x40
def parts_fenceDone : Nat := 0x100
theorem Moves.fenceDone {p : Nat} (hM : Moves d₀ e₀ mo mp) (hO : Mask.le objs_fenceDone mo) (hP : Mask.le parts_fenceDone mp) :
    Moves d₀ (e₀.fenceDone p) mo mp := by
  have O {a : Nat} (h : (a &&& objs_fenceDone == a) = true) := Mask.le_trans h hO
  have P {a : Nat} (h : (a &&& parts_fenceDone == a) = true) := Mask.le_trans h hP
  have B {k : Nat} (h : objs_fenceDone.testBit k = true) := Mask.bit h hO
  have S {k : Nat} (h : parts_fenceDone.testBit k = true) := Mask.bit h hP
  unfold Device.fenceDone
  try simp only
  repeat' first
    | with_reducible exact hM
    | with_reducible exact Moves.refl ..
    | with_reducible refine Moves.set ?_ (B (by decide)) (by decide)
    | with_reducible refine Moves.setPlane ?_ (O (by decide)) (P (by decide))
    | with_reducible refine Moves.ite (fun _ => ?_) (fun _ => ?_)
    | with_reducible refine Moves.ite1 (fun _ => ?_) (fun _ => ?_)
    | split
    | dsimp only

def objs_unfence : Nat := 0x340000000000000000000000002b800000000000000000000001180a88000000000000000000000000000000020000000000000000000000000000000000000000000000000000000001a40
def parts_unfence : Nat := 0x101806a1
theorem Moves.unfence {p : Nat} (hM : Moves d₀ e₀ mo mp) (hO : Mask.le objs_unfence mo) (hP : Mask.le parts_unfence mp) :
    Moves d₀ (e₀.unfence p) mo mp := by
  have O {a : Nat} (h : (a &&& objs_unfence == a) = true) := Mask.le_trans h hO
  have P {a : Nat} (h : (a &&& parts_unfence == a) = true) := Mask.le_trans h hP
  have B {k : Nat} (h : objs_unfence.testBit k = true) := Mask.bit h hO
  have S {k : Nat} (h : parts_unfence.testBit k = true) := Mask.bit h hP
  unfold Device.unfence
  try simp only
  repeat' first
    | with_reducible exact hM
    | with_reducible exact Moves.refl ..
    | with_reducible refine Moves.set ?_ (B (by decide)) (by decide)
    | with_reducible refine Moves.emit ?_ (O (by decide)) (P (by decide))
    | with_reducible refine Moves.setPort ?_ (O (by decide)) (P (by decide))
    | with_reducible refine Moves.storeFences ?_ (O (by decide)) (P (by decide))
    | with_reducible refine Moves.lhRefresh ?_ (O (by decide)) (P (by decide))
    | with_reducible refine Moves.setPortState ?_ (O (by decide)) (P (by decide))
    | with_reducible refine Moves.foldl ?_ (fun d a => ?_)
    | with_reducible refine Moves.ite (fun _ => ?_) (fun _ => ?_)
    | with_reducible refine Moves.ite1 (fun _ => ?_) (fun _ => ?_)
    | split
    | dsimp only

def objs_endWait : Nat := 0x100000000000000000000000000000000000000000000000000000000000000000000000000000000000000000000000000000000000000000000000000000000000000000000000000000
def parts_endWait : Nat := 0x100
theorem Moves.endWait {p : Nat} (hM : Moves d₀ e₀ mo mp) (hO : Mask.le objs_endWait mo) (hP : Mask.le parts_endWait mp) :
    Moves d₀ (e₀.endWait p) mo mp := by
  have O {a : Nat} (h : (a &&& objs_endWait == a) = true) := Mask.le_trans h hO
  have P {a : Nat} (h : (a &&& parts_endWait == a) = true) := Mask.le_trans h hP
  unfold Device.endWait
  try simp only
  repeat' first
    | with_reducible exact hM
    | with_reducible exact Moves.refl ..
    | with_reducible refine Moves.setPlane ?_ (O (by decide)) (P (by decide))
    | with_reducible refine Moves.setStage ?_ (O (by decide)) (P (by decide))
    | with_reducible refine Moves.ite (fun _ => ?_) (fun _ => ?_)
    | with_reducible refine Moves.ite1 (fun _ => ?_) (fun _ => ?_)
    | split
    | dsimp only

def objs_hubReturn : Nat := 0x3500000000000000000000c0002b800000000000000000000000000000000000000000000000000000000000000000000000000000000000000000000000000000000000000000000000000
def parts_hubReturn : Nat := 0x3a1
theorem Moves.hubReturn {p : Nat} (hM : Moves d₀ e₀ mo mp) (hO : Mask.le objs_hubReturn mo) (hP : Mask.le parts_hubReturn mp) :
    Moves d₀ (e₀.hubReturn p) mo mp := by
  have O {a : Nat} (h : (a &&& objs_hubReturn == a) = true) := Mask.le_trans h hO
  have P {a : Nat} (h : (a &&& parts_hubReturn == a) = true) := Mask.le_trans h hP
  have S {k : Nat} (h : parts_hubReturn.testBit k = true) := Mask.bit h hP
  unfold Device.hubReturn
  try simp only
  repeat' first
    | with_reducible exact hM
    | with_reducible exact Moves.refl ..
    | with_reducible refine Moves.flushEvents ?_ (O (by decide)) (P (by decide))
    | with_reducible refine Moves.setPlane ?_ (O (by decide)) (P (by decide))
    | with_reducible refine Moves.endWait ?_ (O (by decide)) (P (by decide))
    | with_reducible refine Moves.reviewReasons ?_ (O (by decide)) (P (by decide))
    | with_reducible refine Moves.passEntries ?_ (O (by decide)) (P (by decide))
    | with_reducible refine Moves.ite (fun _ => ?_) (fun _ => ?_)
    | with_reducible refine Moves.ite1 (fun _ => ?_) (fun _ => ?_)
    | split
    | with_reducible refine Moves.with_hub ?_ (S (by decide))
    | dsimp only

def objs_snapAbsent : Nat := 0x1000000000000000000000000000000000000000000000000000000000000000000000000000000000000000000000000000000000000000000000000000000
def parts_snapAbsent : Nat := 0x10000000002
theorem Moves.snapAbsent {p : Nat} (hM : Moves d₀ e₀ mo mp) (hO : Mask.le objs_snapAbsent mo) (hP : Mask.le parts_snapAbsent mp) :
    Moves d₀ (e₀.snapAbsent p) mo mp := by
  have O {a : Nat} (h : (a &&& objs_snapAbsent == a) = true) := Mask.le_trans h hO
  have P {a : Nat} (h : (a &&& parts_snapAbsent == a) = true) := Mask.le_trans h hP
  unfold Device.snapAbsent
  try simp only
  repeat' first
    | with_reducible exact hM
    | with_reducible exact Moves.refl ..
    | with_reducible refine Moves.snapClose ?_ (O (by decide)) (P (by decide))
    | with_reducible refine Moves.snapTake ?_ (O (by decide)) (P (by decide))
    | with_reducible refine Moves.ite (fun _ => ?_) (fun _ => ?_)
    | with_reducible refine Moves.ite1 (fun _ => ?_) (fun _ => ?_)
    | split
    | dsimp only


def objs_causeWrite : Nat := 0x3400000000000000000000000000000000000000000000000000000000000000000000000000000000000000000000000000000000000000000000000000000000000000000000000000000
def parts_causeWrite : Nat := 0x80000000000002a0
theorem Moves.causeWrite {rq : Req} {idx v : Nat} (hM : Moves d₀ e₀ mo mp) (hO : Mask.le objs_causeWrite mo) (hP : Mask.le parts_causeWrite mp) :
    Moves d₀ (e₀.causeWrite rq idx v).1 mo mp := by
  have O {a : Nat} (h : (a &&& objs_causeWrite == a) = true) := Mask.le_trans h hO
  have P {a : Nat} (h : (a &&& parts_causeWrite == a) = true) := Mask.le_trans h hP
  unfold Device.causeWrite
  try simp only
  repeat' first
    | with_reducible exact hM
    | with_reducible exact Moves.refl ..
    | with_reducible refine Moves.doWrite ?_ (fun d => ?_)
    | with_reducible refine Moves.clearCause ?_ (O (by decide)) (P (by decide))
    | split
    | dsimp only

theorem Moves.eventService {rq : Req} {f : Device → Device × Resp} (hM : Moves d₀ e₀ mo mp) (hf : ∀ d, Moves d (f d).1 mo mp)
    (hO : Mask.le objs_request mo) (hP : Mask.le parts_request mp) : Moves d₀ (e₀.eventService rq f) mo mp := by
  refine hM.request (fun d => ?_) hO hP
  split
  · exact Moves.refl ..
  · split
    · exact Moves.refl ..
    · exact hf d

def objs_subscribe : Nat := 0x0
def parts_subscribe : Nat := 0x200
theorem Moves.subscribe {rq : Req} {idx mask : Nat} (hM : Moves d₀ e₀ mo mp) (hO : Mask.le objs_subscribe mo) (hP : Mask.le parts_subscribe mp) :
    Moves d₀ (e₀.subscribe rq idx mask).1 mo mp := by
  have O {a : Nat} (h : (a &&& objs_subscribe == a) = true) := Mask.le_trans h hO
  have P {a : Nat} (h : (a &&& parts_subscribe == a) = true) := Mask.le_trans h hP
  have B {k : Nat} (h : objs_subscribe.testBit k = true) := Mask.bit h hO
  have S {k : Nat} (h : parts_subscribe.testBit k = true) := Mask.bit h hP
  unfold Device.subscribe
  try simp only
  repeat' first
    | with_reducible exact hM
    | with_reducible exact Moves.refl ..
    | with_reducible refine Moves.set ?_ (B (by decide)) (by decide)
    | (refine Moves.getD ?_ (fun r hr => ?_))
    | with_reducible refine Moves.setSession ?_ (O (by decide)) (P (by decide))
    | with_reducible refine Moves.ite (fun _ => ?_) (fun _ => ?_)
    | with_reducible refine Moves.ite1 (fun _ => ?_) (fun _ => ?_)
    | split
    | dsimp only

def objs_unsubscribe : Nat := 0x0
def parts_unsubscribe : Nat := 0x200
theorem Moves.unsubscribe {rq : Req} {k : Nat} (hM : Moves d₀ e₀ mo mp) (hO : Mask.le objs_unsubscribe mo) (hP : Mask.le parts_unsubscribe mp) :
    Moves d₀ (e₀.unsubscribe rq k).1 mo mp := by
  have O {a : Nat} (h : (a &&& objs_unsubscribe == a) = true) := Mask.le_trans h hO
  have P {a : Nat} (h : (a &&& parts_unsubscribe == a) = true) := Mask.le_trans h hP
  have B {k : Nat} (h : objs_unsubscribe.testBit k = true) := Mask.bit h hO
  have S {k : Nat} (h : parts_unsubscribe.testBit k = true) := Mask.bit h hP
  unfold Device.unsubscribe
  try simp only
  repeat' first
    | with_reducible exact hM
    | with_reducible exact Moves.refl ..
    | with_reducible refine Moves.set ?_ (B (by decide)) (by decide)
    | (refine Moves.getD ?_ (fun r hr => ?_))
    | with_reducible refine Moves.setSession ?_ (O (by decide)) (P (by decide))
    | with_reducible refine Moves.ite (fun _ => ?_) (fun _ => ?_)
    | with_reducible refine Moves.ite1 (fun _ => ?_) (fun _ => ?_)
    | split
    | dsimp only

def objs_eventAck : Nat := 0x0
def parts_eventAck : Nat := 0x200
theorem Moves.eventAck {rq : Req} {seq : Nat} (hM : Moves d₀ e₀ mo mp) (hO : Mask.le objs_eventAck mo) (hP : Mask.le parts_eventAck mp) :
    Moves d₀ (e₀.eventAck rq seq).1 mo mp := by
  have O {a : Nat} (h : (a &&& objs_eventAck == a) = true) := Mask.le_trans h hO
  have P {a : Nat} (h : (a &&& parts_eventAck == a) = true) := Mask.le_trans h hP
  unfold Device.eventAck
  try simp only
  repeat' first
    | with_reducible exact hM
    | with_reducible exact Moves.refl ..
    | with_reducible refine Moves.setSession ?_ (O (by decide)) (P (by decide))
    | dsimp only

def objs_eventResend : Nat := 0x0
def parts_eventResend : Nat := 0x20
theorem Moves.eventResend  (hM : Moves d₀ e₀ mo mp) (hO : Mask.le objs_eventResend mo) (hP : Mask.le parts_eventResend mp) :
    Moves d₀ (e₀.eventResend ) mo mp := by
  have O {a : Nat} (h : (a &&& objs_eventResend == a) = true) := Mask.le_trans h hO
  have P {a : Nat} (h : (a &&& parts_eventResend == a) = true) := Mask.le_trans h hP
  unfold Device.eventResend
  try simp only
  repeat' first
    | with_reducible exact hM
    | with_reducible exact Moves.refl ..
    | with_reducible refine Moves.emit ?_ (O (by decide)) (P (by decide))
    | with_reducible refine Moves.foldl ?_ (fun d a => ?_)
    | with_reducible refine Moves.ite (fun _ => ?_) (fun _ => ?_)
    | with_reducible refine Moves.ite1 (fun _ => ?_) (fun _ => ?_)
    | split
    | dsimp only


def objs_dropTraffic : Nat := 0x7ffffffffffffffffffffffffffffffffffffffffffffffffffffffffffffffffffffffffffffffffffffffffffffffffffffffffffffffffffffffffffffffffffffffffffffffffffffff
def parts_dropTraffic : Nat := 0xffffffffffffffff
theorem Moves.dropTraffic {p : Nat} (hM : Moves d₀ e₀ mo mp) (hO : Mask.le objs_dropTraffic mo) (hP : Mask.le parts_dropTraffic mp) :
    Moves d₀ (e₀.dropTraffic p) mo mp := by
  have O {a : Nat} (h : (a &&& objs_dropTraffic == a) = true) := Mask.le_trans h hO
  have P {a : Nat} (h : (a &&& parts_dropTraffic == a) = true) := Mask.le_trans h hP
  have S {k : Nat} (h : parts_dropTraffic.testBit k = true) := Mask.bit h hP
  exact hM.any rfl hO hP

def objs_dropUnits : Nat := 0x7ffffffffffffffffffffffffffffffffffffffffffffffffffffffffffffffffffffffffffffffffffffffffffffffffffffffffffffffffffffffffffffffffffffffffffffffffffffff
def parts_dropUnits : Nat := 0xffffffffffffffff
theorem Moves.dropUnits {p : Nat} (hM : Moves d₀ e₀ mo mp) (hO : Mask.le objs_dropUnits mo) (hP : Mask.le parts_dropUnits mp) :
    Moves d₀ (e₀.dropUnits p) mo mp := by
  have O {a : Nat} (h : (a &&& objs_dropUnits == a) = true) := Mask.le_trans h hO
  have P {a : Nat} (h : (a &&& parts_dropUnits == a) = true) := Mask.le_trans h hP
  have S {k : Nat} (h : parts_dropUnits.testBit k = true) := Mask.bit h hP
  exact hM.any rfl hO hP

def objs_clearPlane : Nat := 0x7ffffffffffffffffffffffffffffffffffffffffffffffffffffffffffffffffffffffffffffffffffffffffffffffffffffffffffffffffffffffffffffffffffffffffffffffffffffff
def parts_clearPlane : Nat := 0xffffffffffffffff
theorem Moves.clearPlane {p : Nat} (hM : Moves d₀ e₀ mo mp) (hO : Mask.le objs_clearPlane mo) (hP : Mask.le parts_clearPlane mp) :
    Moves d₀ (e₀.clearPlane p) mo mp := by
  have O {a : Nat} (h : (a &&& objs_clearPlane == a) = true) := Mask.le_trans h hO
  have P {a : Nat} (h : (a &&& parts_clearPlane == a) = true) := Mask.le_trans h hP
  have S {k : Nat} (h : parts_clearPlane.testBit k = true) := Mask.bit h hP
  unfold Device.clearPlane
  extract_lets s d1 d2
  have h1 : Moves d₀ d1 mo mp := (hM.snapAbsent (O (by decide)) (P (by decide))).dropTraffic (O (by decide)) (P (by decide))
  clear_value d1
  have h2 : Moves d₀ d2 mo mp := h1.any (by rfl) (O (by decide)) (P (by decide))
  clear_value d2
  exact h2.any (by rfl) (O (by decide)) (P (by decide))

def objs_loadValue : Nat := 0x7ffffffffffffffffffffffffffffffffffffffffffffffffffffffffffffffffffffffffffffffffffffffffffffffffffffffffffffffffffffffffffffffffffffffffffffffffffffff
def parts_loadValue : Nat := 0xffffffffffffffff
theorem Moves.loadValue {e : Key × Nat} (hM : Moves d₀ e₀ mo mp) (hO : Mask.le objs_loadValue mo) (hP : Mask.le parts_loadValue mp) :
    Moves d₀ (e₀.loadValue e) mo mp := by
  have O {a : Nat} (h : (a &&& objs_loadValue == a) = true) := Mask.le_trans h hO
  have P {a : Nat} (h : (a &&& parts_loadValue == a) = true) := Mask.le_trans h hP
  have B {k : Nat} (h : objs_loadValue.testBit k = true) := Mask.bit h hO
  have S {k : Nat} (h : parts_loadValue.testBit k = true) := Mask.bit h hP
  unfold Device.loadValue
  extract_lets q i
  split
  · exact hM.any (by rfl) (O (by decide)) (P (by decide))
  · exact hM.any (by rfl) (O (by decide)) (P (by decide))
  · exact hM.activatePage (O (by decide)) (P (by decide))
  · exact hM.any (by rfl) (O (by decide)) (P (by decide))
  · exact hM.foldl (fun d a => (Moves.refl ..).any (by rfl) (O (by decide)) (P (by decide)))
  · exact hM.foldl (fun d a => (Moves.refl ..).any (by rfl) (O (by decide)) (P (by decide)))
  · exact hM
  · exact hM
  · exact hM.any (by rfl) (O (by decide)) (P (by decide))

def objs_loadJournal : Nat := 0x7ffffffffffffffffffffffffffffffffffffffffffffffffffffffffffffffffffffffffffffffffffffffffffffffffffffffffffffffffffffffffffffffffffffffffffffffffffffff
def parts_loadJournal : Nat := 0xffffffffffffffff
theorem Moves.loadJournal {f : Key → Bool} (hM : Moves d₀ e₀ mo mp) (hO : Mask.le objs_loadJournal mo) (hP : Mask.le parts_loadJournal mp) :
    Moves d₀ (e₀.loadJournal f) mo mp := by
  have O {a : Nat} (h : (a &&& objs_loadJournal == a) = true) := Mask.le_trans h hO
  have P {a : Nat} (h : (a &&& parts_loadJournal == a) = true) := Mask.le_trans h hP
  unfold Device.loadJournal
  try simp only
  repeat' first
    | with_reducible exact hM
    | with_reducible exact Moves.refl ..
    | with_reducible refine Moves.loadValue ?_ (O (by decide)) (P (by decide))
    | with_reducible refine Moves.foldl ?_ (fun d a => ?_)
    | dsimp only

def objs_reapply : Nat := 0x340000001c000000003000000000000000003000040000000001180a880000000000003e00e08000015fb20002e8021c06606cb8012803dff3e4000000000000c7e06503c7e840200002000
def parts_reapply : Nat := 0xa0ff9ffff9
theorem Moves.reapply {p ch : Nat} (hM : Moves d₀ e₀ mo mp) (hO : Mask.le objs_reapply mo) (hP : Mask.le parts_reapply mp) :
    Moves d₀ (e₀.reapply p ch) mo mp := by
  have O {a : Nat} (h : (a &&& objs_reapply == a) = true) := Mask.le_trans h hO
  have P {a : Nat} (h : (a &&& parts_reapply == a) = true) := Mask.le_trans h hP
  have B {k : Nat} (h : objs_reapply.testBit k = true) := Mask.bit h hO
  have S {k : Nat} (h : parts_reapply.testBit k = true) := Mask.bit h hP
  unfold Device.reapply
  try simp only
  repeat' first
    | with_reducible exact hM
    | with_reducible exact Moves.refl ..
    | with_reducible refine Moves.set ?_ (B (by decide)) (by decide)
    | with_reducible refine Moves.setPort ?_ (O (by decide)) (P (by decide))
    | with_reducible refine Moves.setStands ?_ (O (by decide)) (P (by decide))
    | with_reducible refine Moves.setRow ?_ (O (by decide)) (P (by decide))
    | with_reducible refine Moves.refreshGroup ?_ (O (by decide)) (P (by decide))
    | with_reducible refine Moves.standIn ?_ (O (by decide)) (P (by decide))
    | with_reducible refine Moves.setKiteState ?_ (O (by decide)) (P (by decide))
    | with_reducible refine Moves.setChanState ?_ (O (by decide)) (P (by decide))
    | with_reducible refine Moves.foldl ?_ (fun d a => ?_)
    | with_reducible refine Moves.ite (fun _ => ?_) (fun _ => ?_)
    | with_reducible refine Moves.ite1 (fun _ => ?_) (fun _ => ?_)
    | split
    | dsimp only

def objs_reapplyLog : Nat := 0x340000001c000000003000c0002b800000003000040000000801180a880000000000003e00e08000015fb20002e8021c06606cb8012803dff3e4000000000000c7e06503c7e840200003800
def parts_reapplyLog : Nat := 0xa0ff9ffff9
theorem Moves.reapplyLog {p : Nat} (hM : Moves d₀ e₀ mo mp) (hO : Mask.le objs_reapplyLog mo) (hP : Mask.le parts_reapplyLog mp) :
    Moves d₀ (e₀.reapplyLog p) mo mp := by
  have O {a : Nat} (h : (a &&& objs_reapplyLog == a) = true) := Mask.le_trans h hO
  have P {a : Nat} (h : (a &&& parts_reapplyLog == a) = true) := Mask.le_trans h hP
  unfold Device.reapplyLog
  try simp only
  repeat' first
    | with_reducible exact hM
    | with_reducible exact Moves.refl ..
    | with_reducible refine Moves.reapply ?_ (O (by decide)) (P (by decide))
    | with_reducible refine Moves.reviewChiplet ?_ (O (by decide)) (P (by decide))
    | with_reducible refine Moves.retirePlane ?_ (O (by decide)) (P (by decide))
    | with_reducible refine Moves.setChanState ?_ (O (by decide)) (P (by decide))
    | with_reducible refine Moves.foldl ?_ (fun d a => ?_)
    | with_reducible refine Moves.ite (fun _ => ?_) (fun _ => ?_)
    | with_reducible refine Moves.ite1 (fun _ => ?_) (fun _ => ?_)
    | split
    | dsimp only

def objs_shrinkPool : Nat := 0x340000000000000000000000002b800000000000000000000000000000000000000000000000000000000000000000000000000000000000000000000000000000010000000000000000000
def parts_shrinkPool : Nat := 0x2a1
theorem Moves.shrinkPool {p pool x : Nat} (hM : Moves d₀ e₀ mo mp) (hO : Mask.le objs_shrinkPool mo) (hP : Mask.le parts_shrinkPool mp) :
    Moves d₀ (e₀.shrinkPool p pool x).1 mo mp := by
  have O {a : Nat} (h : (a &&& objs_shrinkPool == a) = true) := Mask.le_trans h hO
  have P {a : Nat} (h : (a &&& parts_shrinkPool == a) = true) := Mask.le_trans h hP
  have B {k : Nat} (h : objs_shrinkPool.testBit k = true) := Mask.bit h hO
  unfold Device.shrinkPool
  try simp only
  repeat' first
    | with_reducible exact hM
    | with_reducible exact Moves.refl ..
    | with_reducible refine Moves.setJ ?_ (B (by decide)) (by decide) (O (by decide)) (P (by decide))
    | with_reducible refine Moves.ite (fun _ => ?_) (fun _ => ?_)
    | with_reducible refine Moves.ite1 (fun _ => ?_) (fun _ => ?_)
    | split
    | dsimp only

def objs_dropQuotas : Nat := 0x7ffffffffffffffffffffffffffffffffffffffffffffffffffffffffffffffffffffffffffffffffffffffffffffffffffffffffffffffffffffffffffffffffffffffffffffffffffffff
def parts_dropQuotas : Nat := 0xffffffffffffffff
theorem Moves.dropQuotas {p pool : Nat} (hM : Moves d₀ e₀ mo mp) (hO : Mask.le objs_dropQuotas mo) (hP : Mask.le parts_dropQuotas mp) :
    Moves d₀ (e₀.dropQuotas p pool) mo mp := by
  have O {a : Nat} (h : (a &&& objs_dropQuotas == a) = true) := Mask.le_trans h hO
  have P {a : Nat} (h : (a &&& parts_dropQuotas == a) = true) := Mask.le_trans h hP
  have B {k : Nat} (h : objs_dropQuotas.testBit k = true) := Mask.bit h hO
  have S {k : Nat} (h : parts_dropQuotas.testBit k = true) := Mask.bit h hP
  unfold Device.dropQuotas
  try simp only
  repeat' first
    | with_reducible exact hM
    | with_reducible exact Moves.refl ..
    | refine Moves.setAny ?_ (B (Mask.all _)) (S (by decide))
    | with_reducible refine Moves.journal ?_ (O (by decide)) (P (by decide))
    | with_reducible refine Moves.foldl ?_ (fun d a => ?_)
    | with_reducible refine Moves.ite (fun _ => ?_) (fun _ => ?_)
    | with_reducible refine Moves.ite1 (fun _ => ?_) (fun _ => ?_)
    | split
    | dsimp only

def objs_fitPools : Nat := 0x7ffffffffffffffffffffffffffffffffffffffffffffffffffffffffffffffffffffffffffffffffffffffffffffffffffffffffffffffffffffffffffffffffffffffffffffffffffffff
def parts_fitPools : Nat := 0xffffffffffffffff
theorem Moves.fitPools {p : Nat} (hM : Moves d₀ e₀ mo mp) (hO : Mask.le objs_fitPools mo) (hP : Mask.le parts_fitPools mp) :
    Moves d₀ (e₀.fitPools p) mo mp := by
  have O {a : Nat} (h : (a &&& objs_fitPools == a) = true) := Mask.le_trans h hO
  have P {a : Nat} (h : (a &&& parts_fitPools == a) = true) := Mask.le_trans h hP
  unfold Device.fitPools
  try simp only
  repeat' first
    | with_reducible exact hM
    | with_reducible exact Moves.refl ..
    | with_reducible refine Moves.causeMemory ?_ (O (by decide)) (P (by decide))
    | with_reducible refine Moves.dropQuotas ?_ (O (by decide)) (P (by decide))
    | with_reducible refine Moves.shrinkPool ?_ (O (by decide)) (P (by decide))
    | with_reducible refine Moves.ite (fun _ => ?_) (fun _ => ?_)
    | with_reducible refine Moves.ite1 (fun _ => ?_) (fun _ => ?_)
    | split
    | dsimp only

def objs_layOut : Nat := 0x7ffffffffffffffffffffffffffffffffffffffffffffffffffffffffffffffffffffffffffffffffffffffffffffffffffffffffffffffffffffffffffffffffffffffffffffffffffffff
def parts_layOut : Nat := 0xffffffffffffffff
theorem Moves.layOut {p : Nat} (hM : Moves d₀ e₀ mo mp) (hO : Mask.le objs_layOut mo) (hP : Mask.le parts_layOut mp) :
    Moves d₀ (e₀.layOut p) mo mp := by
  have O {a : Nat} (h : (a &&& objs_layOut == a) = true) := Mask.le_trans h hO
  have P {a : Nat} (h : (a &&& parts_layOut == a) = true) := Mask.le_trans h hP
  have B {k : Nat} (h : objs_layOut.testBit k = true) := Mask.bit h hO
  have S {k : Nat} (h : parts_layOut.testBit k = true) := Mask.bit h hP
  unfold Device.layOut
  try simp only
  repeat' first
    | with_reducible exact hM
    | with_reducible exact Moves.refl ..
    | with_reducible refine Moves.set ?_ (B (by decide)) (by decide)
    | with_reducible refine Moves.causeMemory ?_ (O (by decide)) (P (by decide))
    | with_reducible refine Moves.fitPools ?_ (O (by decide)) (P (by decide))
    | with_reducible refine Moves.layOutPool ?_ (O (by decide)) (P (by decide))
    | with_reducible refine Moves.foldl ?_ (fun d a => ?_)
    | with_reducible refine Moves.ite (fun _ => ?_) (fun _ => ?_)
    | with_reducible refine Moves.ite1 (fun _ => ?_) (fun _ => ?_)
    | split
    | dsimp only

def objs_initKeys : Nat := 0x340000000000000000000000002b800000000000000000000000000000000000000000800a00000000000000000000000000000000000000000000000000000000000000000000000000000
def parts_initKeys : Nat := 0x7000002a1
theorem Moves.initKeys {p : Nat} (hM : Moves d₀ e₀ mo mp) (hO : Mask.le objs_initKeys mo) (hP : Mask.le parts_initKeys mp) :
    Moves d₀ (e₀.initKeys p) mo mp := by
  have O {a : Nat} (h : (a &&& objs_initKeys == a) = true) := Mask.le_trans h hO
  have P {a : Nat} (h : (a &&& parts_initKeys == a) = true) := Mask.le_trans h hP
  unfold Device.initKeys
  try simp only
  repeat' first
    | with_reducible exact hM
    | with_reducible exact Moves.refl ..
    | with_reducible refine Moves.causeCipher ?_ (O (by decide)) (P (by decide))
    | with_reducible refine Moves.setKeySt ?_ (O (by decide)) (P (by decide))
    | with_reducible refine Moves.enterEpoch ?_ (O (by decide)) (P (by decide))
    | with_reducible refine Moves.startDerive ?_ (O (by decide)) (P (by decide))
    | with_reducible refine Moves.deriveAll ?_ (O (by decide)) (P (by decide))
    | with_reducible refine Moves.ite (fun _ => ?_) (fun _ => ?_)
    | with_reducible refine Moves.ite1 (fun _ => ?_) (fun _ => ?_)
    | split
    | dsimp only

def objs_initCommon : Nat := 0x7ffffffffffffffffffffffffffffffffffffffffffffffffffffffffffffffffffffffffffffffffffffffffffffffffffffffffffffffffffffffffffffffffffffffffffffffffffffff
def parts_initCommon : Nat := 0xffffffffffffffff
theorem Moves.initCommon {p : Nat} {st : InitReport} (hM : Moves d₀ e₀ mo mp) (hO : Mask.le objs_initCommon mo) (hP : Mask.le parts_initCommon mp) :
    Moves d₀ (e₀.initCommon p st) mo mp := by
  have O {a : Nat} (h : (a &&& objs_initCommon == a) = true) := Mask.le_trans h hO
  have P {a : Nat} (h : (a &&& parts_initCommon == a) = true) := Mask.le_trans h hP
  have B {k : Nat} (h : objs_initCommon.testBit k = true) := Mask.bit h hO
  have S {k : Nat} (h : parts_initCommon.testBit k = true) := Mask.bit h hP
  unfold Device.initCommon
  try simp only
  repeat' first
    | with_reducible exact hM
    | with_reducible exact Moves.refl ..
    | with_reducible refine Moves.set ?_ (B (by decide)) (by decide)
    | with_reducible refine Moves.initKeys ?_ (O (by decide)) (P (by decide))
    | with_reducible refine Moves.layOut ?_ (O (by decide)) (P (by decide))
    | with_reducible refine Moves.reapplyLog ?_ (O (by decide)) (P (by decide))
    | with_reducible refine Moves.loadJournal ?_ (O (by decide)) (P (by decide))
    | with_reducible refine Moves.dropUnits ?_ (O (by decide)) (P (by decide))
    | with_reducible refine Moves.dropTraffic ?_ (O (by decide)) (P (by decide))
    | with_reducible refine Moves.closeBypass ?_ (O (by decide)) (P (by decide))
    | with_reducible refine Moves.recoverRegion ?_ (O (by decide)) (P (by decide))
    | with_reducible refine Moves.cxlTrained ?_ (O (by decide)) (P (by decide))
    | with_reducible refine Moves.foldl ?_ (fun d a => ?_)
    | with_reducible refine Moves.ite (fun _ => ?_) (fun _ => ?_)
    | with_reducible refine Moves.ite1 (fun _ => ?_) (fun _ => ?_)
    | split
    | dsimp only

def objs_initCold : Nat := 0x3400000000000000000000000000000000000000000000800000004828000000000000000000000000000000000000000000000000000000000000000000000000000000000000000000000
def parts_initCold : Nat := 0x102802a0
theorem Moves.initCold {p : Nat} (hM : Moves d₀ e₀ mo mp) (hO : Mask.le objs_initCold mo) (hP : Mask.le parts_initCold mp) :
    Moves d₀ (e₀.initCold p) mo mp := by
  have O {a : Nat} (h : (a &&& objs_initCold == a) = true) := Mask.le_trans h hO
  have P {a : Nat} (h : (a &&& parts_initCold == a) = true) := Mask.le_trans h hP
  have B {k : Nat} (h : objs_initCold.testBit k = true) := Mask.bit h hO
  have S {k : Nat} (h : parts_initCold.testBit k = true) := Mask.bit h hP
  unfold Device.initCold
  try simp only
  repeat' first
    | with_reducible exact hM
    | with_reducible exact Moves.refl ..
    | with_reducible refine Moves.set ?_ (B (by first | decide | (split <;> decide))) (by first | decide | (split <;> decide))
    | with_reducible refine Moves.setOutp ?_ (O (by decide)) (P (by decide))
    | with_reducible refine Moves.setCal ?_ (O (by decide)) (P (by decide))
    | with_reducible refine Moves.setTb ?_ (O (by decide)) (P (by decide))
    | with_reducible refine Moves.laserOn ?_ (O (by decide)) (P (by decide))
    | with_reducible refine Moves.wlRefresh ?_ (O (by decide)) (P (by decide))
    | with_reducible refine Moves.applyMode ?_ (O (by decide)) (P (by decide))
    | with_reducible refine Moves.foldl ?_ (fun d a => ?_)
    | with_reducible refine Moves.ite (fun _ => ?_) (fun _ => ?_)
    | with_reducible refine Moves.ite1 (fun _ => ?_) (fun _ => ?_)
    | split
    | dsimp only

def objs_adoptRole : Nat := 0x100000000000000000000000000000000000000000000000000000000000000000000000000000000000000000000000000000000000000000002
def parts_adoptRole : Nat := 0x0
theorem Moves.adoptRole {p : Nat} (hM : Moves d₀ e₀ mo mp) (hO : Mask.le objs_adoptRole mo) (hP : Mask.le parts_adoptRole mp) :
    Moves d₀ (e₀.adoptRole p) mo mp := by
  have O {a : Nat} (h : (a &&& objs_adoptRole == a) = true) := Mask.le_trans h hO
  have P {a : Nat} (h : (a &&& parts_adoptRole == a) = true) := Mask.le_trans h hP
  have B {k : Nat} (h : objs_adoptRole.testBit k = true) := Mask.bit h hO
  have S {k : Nat} (h : parts_adoptRole.testBit k = true) := Mask.bit h hP
  unfold Device.adoptRole
  try simp only
  repeat' first
    | with_reducible exact hM
    | with_reducible exact Moves.refl ..
    | with_reducible refine Moves.set ?_ (B (by decide)) (by decide)
    | dsimp only

def objs_disablePlane : Nat := 0x100000000000000000000000000000000000000000000000000000000000000000000000000000000000000000000000000000000000000000000000000000000000000000000000000000
def parts_disablePlane : Nat := 0x100
theorem Moves.disablePlane {p : Nat} (hM : Moves d₀ e₀ mo mp) (hO : Mask.le objs_disablePlane mo) (hP : Mask.le parts_disablePlane mp) :
    Moves d₀ (e₀.disablePlane p) mo mp := by
  have O {a : Nat} (h : (a &&& objs_disablePlane == a) = true) := Mask.le_trans h hO
  have P {a : Nat} (h : (a &&& parts_disablePlane == a) = true) := Mask.le_trans h hP
  unfold Device.disablePlane
  try simp only
  repeat' first
    | with_reducible exact hM
    | with_reducible exact Moves.refl ..
    | with_reducible refine Moves.setPlane ?_ (O (by decide)) (P (by decide))
    | with_reducible refine Moves.setStage ?_ (O (by decide)) (P (by decide))
    | dsimp only

def objs_initAfterReset : Nat := 0x7ffffffffffffffffffffffffffffffffffffffffffffffffffffffffffffffffffffffffffffffffffffffffffffffffffffffffffffffffffffffffffffffffffffffffffffffffffffff
def parts_initAfterReset : Nat := 0xffffffffffffffff
theorem Moves.initAfterReset {p : Nat} {st : InitReport} (hM : Moves d₀ e₀ mo mp) (hO : Mask.le objs_initAfterReset mo) (hP : Mask.le parts_initAfterReset mp) :
    Moves d₀ (e₀.initAfterReset p st) mo mp := by
  have O {a : Nat} (h : (a &&& objs_initAfterReset == a) = true) := Mask.le_trans h hO
  have P {a : Nat} (h : (a &&& parts_initAfterReset == a) = true) := Mask.le_trans h hP
  unfold Device.initAfterReset
  try simp only
  repeat' first
    | with_reducible exact hM
    | with_reducible exact Moves.refl ..
    | with_reducible refine Moves.setBist ?_ (O (by decide)) (P (by decide))
    | with_reducible refine Moves.setPlane ?_ (O (by decide)) (P (by decide))
    | with_reducible refine Moves.disablePlane ?_ (O (by decide)) (P (by decide))
    | with_reducible refine Moves.adoptRole ?_ (O (by decide)) (P (by decide))
    | with_reducible refine Moves.initCold ?_ (O (by decide)) (P (by decide))
    | with_reducible refine Moves.initCommon ?_ (O (by decide)) (P (by decide))
    | with_reducible refine Moves.retirePlane ?_ (O (by decide)) (P (by decide))
    | with_reducible refine Moves.lhRefresh ?_ (O (by decide)) (P (by decide))
    | with_reducible refine Moves.setStage ?_ (O (by decide)) (P (by decide))
    | with_reducible refine Moves.foldl ?_ (fun d a => ?_)
    | with_reducible refine Moves.ite (fun _ => ?_) (fun _ => ?_)
    | with_reducible refine Moves.ite1 (fun _ => ?_) (fun _ => ?_)
    | split
    | dsimp only

def objs_initInRecovery : Nat := 0x7ffffffffffffffffffffffffffffffffffffffffffffffffffffffffffffffffffffffffffffffffffffffffffffffffffffffffffffffffffffffffffffffffffffffffffffffffffffff
def parts_initInRecovery : Nat := 0xffffffffffffffff
theorem Moves.initInRecovery {p : Nat} {st : InitReport} (hM : Moves d₀ e₀ mo mp) (hO : Mask.le objs_initInRecovery mo) (hP : Mask.le parts_initInRecovery mp) :
    Moves d₀ (e₀.initInRecovery p st) mo mp := by
  have O {a : Nat} (h : (a &&& objs_initInRecovery == a) = true) := Mask.le_trans h hO
  have P {a : Nat} (h : (a &&& parts_initInRecovery == a) = true) := Mask.le_trans h hP
  unfold Device.initInRecovery
  try simp only
  repeat' first
    | with_reducible exact hM
    | with_reducible exact Moves.refl ..
    | with_reducible refine Moves.setBist ?_ (O (by decide)) (P (by decide))
    | with_reducible refine Moves.setPlane ?_ (O (by decide)) (P (by decide))
    | with_reducible refine Moves.disablePlane ?_ (O (by decide)) (P (by decide))
    | with_reducible refine Moves.adoptRole ?_ (O (by decide)) (P (by decide))
    | with_reducible refine Moves.initCommon ?_ (O (by decide)) (P (by decide))
    | with_reducible refine Moves.clearPlane ?_ (O (by decide)) (P (by decide))
    | with_reducible refine Moves.retirePlane ?_ (O (by decide)) (P (by decide))
    | with_reducible refine Moves.lhRefresh ?_ (O (by decide)) (P (by decide))
    | with_reducible refine Moves.setStage ?_ (O (by decide)) (P (by decide))
    | with_reducible refine Moves.foldl ?_ (fun d a => ?_)
    | with_reducible refine Moves.ite (fun _ => ?_) (fun _ => ?_)
    | with_reducible refine Moves.ite1 (fun _ => ?_) (fun _ => ?_)
    | split
    | dsimp only

def objs_planeInit : Nat := 0x7ffffffffffffffffffffffffffffffffffffffffffffffffffffffffffffffffffffffffffffffffffffffffffffffffffffffffffffffffffffffffffffffffffffffffffffffffffffff
def parts_planeInit : Nat := 0xffffffffffffffff
theorem Moves.planeInit {p : Nat} {st : InitReport} (hM : Moves d₀ e₀ mo mp) (hO : Mask.le objs_planeInit mo) (hP : Mask.le parts_planeInit mp) :
    Moves d₀ (e₀.planeInit p st) mo mp := by
  have O {a : Nat} (h : (a &&& objs_planeInit == a) = true) := Mask.le_trans h hO
  have P {a : Nat} (h : (a &&& parts_planeInit == a) = true) := Mask.le_trans h hP
  unfold Device.planeInit
  try simp only
  repeat' first
    | with_reducible exact hM
    | with_reducible exact Moves.refl ..
    | with_reducible refine Moves.initInRecovery ?_ (O (by decide)) (P (by decide))
    | with_reducible refine Moves.initAfterReset ?_ (O (by decide)) (P (by decide))
    | with_reducible refine Moves.ite (fun _ => ?_) (fun _ => ?_)
    | with_reducible refine Moves.ite1 (fun _ => ?_) (fun _ => ?_)
    | split
    | dsimp only


def objs_cdrLost : Nat := 0x340000001c000000002000000000000000000000000000000001180a88000000000000000000000000000000000000000000000000080000000000000000000000c00000000000000001800
def parts_cdrLost : Nat := 0x80181c0fa1
theorem Moves.cdrLost {p n w : Nat} (hM : Moves d₀ e₀ mo mp) (hO : Mask.le objs_cdrLost mo) (hP : Mask.le parts_cdrLost mp) :
    Moves d₀ (e₀.cdrLost p n w) mo mp := by
  have O {a : Nat} (h : (a &&& objs_cdrLost == a) = true) := Mask.le_trans h hO
  have P {a : Nat} (h : (a &&& parts_cdrLost == a) = true) := Mask.le_trans h hP
  unfold Device.cdrLost
  try simp only
  repeat' first
    | with_reducible exact hM
    | with_reducible exact Moves.refl ..
    | with_reducible refine Moves.laneRetrain ?_ (O (by decide)) (P (by decide))
    | with_reducible refine Moves.chanFault ?_ (O (by decide)) (P (by decide))
    | with_reducible refine Moves.ite (fun _ => ?_) (fun _ => ?_)
    | with_reducible refine Moves.ite1 (fun _ => ?_) (fun _ => ?_)
    | split
    | dsimp only

def objs_badCodeword : Nat := 0x340000001c000000002000000000000000000000000000000000000000000000000000000000000000000000000000000000000000080000000000000000000000c00000000000002000000
def parts_badCodeword : Nat := 0x80080c03a1
theorem Moves.badCodeword {p n w : Nat} (hM : Moves d₀ e₀ mo mp) (hO : Mask.le objs_badCodeword mo) (hP : Mask.le parts_badCodeword mp) :
    Moves d₀ (e₀.badCodeword p n w) mo mp := by
  have O {a : Nat} (h : (a &&& objs_badCodeword == a) = true) := Mask.le_trans h hO
  have P {a : Nat} (h : (a &&& parts_badCodeword == a) = true) := Mask.le_trans h hP
  have B {k : Nat} (h : objs_badCodeword.testBit k = true) := Mask.bit h hO
  have S {k : Nat} (h : parts_badCodeword.testBit k = true) := Mask.bit h hP
  unfold Device.badCodeword
  try simp only
  repeat' first
    | with_reducible exact hM
    | with_reducible exact Moves.refl ..
    | with_reducible refine Moves.bump ?_ (B (by decide)) (by decide) (S (by decide))
    | with_reducible refine Moves.chanFault ?_ (O (by decide)) (P (by decide))
    | with_reducible refine Moves.ite (fun _ => ?_) (fun _ => ?_)
    | with_reducible refine Moves.ite1 (fun _ => ?_) (fun _ => ?_)
    | split
    | dsimp only

def objs_hbmFault : Nat := 0x340000001c000000003000c0002b800000003000040000000801180a880000000000003e00e08000015fb20002e8021c06606cb8012803dff3e4000000000000c7e06503c7e840200003800
def parts_hbmFault : Nat := 0xa0ff9ffff9
theorem Moves.hbmFault {p pc : Nat} {retryOk : Bool} (hM : Moves d₀ e₀ mo mp) (hO : Mask.le objs_hbmFault mo) (hP : Mask.le parts_hbmFault mp) :
    Moves d₀ (e₀.hbmFault p pc retryOk) mo mp := by
  have O {a : Nat} (h : (a &&& objs_hbmFault == a) = true) := Mask.le_trans h hO
  have P {a : Nat} (h : (a &&& parts_hbmFault == a) = true) := Mask.le_trans h hP
  unfold Device.hbmFault
  try simp only
  repeat' first
    | with_reducible exact hM
    | with_reducible exact Moves.refl ..
    | with_reducible refine Moves.retireChannel ?_ (O (by decide)) (P (by decide))
    | with_reducible refine Moves.chanClear ?_ (O (by decide)) (P (by decide))
    | with_reducible refine Moves.chanFault ?_ (O (by decide)) (P (by decide))
    | with_reducible refine Moves.ite (fun _ => ?_) (fun _ => ?_)
    | with_reducible refine Moves.ite1 (fun _ => ?_) (fun _ => ?_)
    | split
    | dsimp only

def objs_stateFault : Nat := 0x340000001c000000002000000000000000000000000000000000000000000000000000000000000000000000000000000000000000080000000000000000000000c00000000000000000000
def parts_stateFault : Nat := 0x80080c03a1
theorem Moves.stateFault {p : Nat} (hM : Moves d₀ e₀ mo mp) (hO : Mask.le objs_stateFault mo) (hP : Mask.le parts_stateFault mp) :
    Moves d₀ (e₀.stateFault p) mo mp := by
  have O {a : Nat} (h : (a &&& objs_stateFault == a) = true) := Mask.le_trans h hO
  have P {a : Nat} (h : (a &&& parts_stateFault == a) = true) := Mask.le_trans h hP
  unfold Device.stateFault
  try simp only
  repeat' first
    | with_reducible exact hM
    | with_reducible exact Moves.refl ..
    | with_reducible refine Moves.setPlane ?_ (O (by decide)) (P (by decide))
    | with_reducible refine Moves.chanFault ?_ (O (by decide)) (P (by decide))
    | dsimp only

def objs_rejoinTimeout : Nat := 0x340000001c000000003000c0002b800000003000040000000801180a880000000000003e00e08000015fb20002e8021c06606cb8012803dff3e4000000000000c7e06503c7e840200003800
def parts_rejoinTimeout : Nat := 0xa0ff9ffff9
theorem Moves.rejoinTimeout {p l : Nat} (hM : Moves d₀ e₀ mo mp) (hO : Mask.le objs_rejoinTimeout mo) (hP : Mask.le parts_rejoinTimeout mp) :
    Moves d₀ (e₀.rejoinTimeout p l) mo mp := by
  have O {a : Nat} (h : (a &&& objs_rejoinTimeout == a) = true) := Mask.le_trans h hO
  have P {a : Nat} (h : (a &&& parts_rejoinTimeout == a) = true) := Mask.le_trans h hP
  unfold Device.rejoinTimeout
  try simp only
  repeat' first
    | with_reducible exact hM
    | with_reducible exact Moves.refl ..
    | with_reducible refine Moves.retireChannel ?_ (O (by decide)) (P (by decide))
    | with_reducible refine Moves.ite (fun _ => ?_) (fun _ => ?_)
    | with_reducible refine Moves.ite1 (fun _ => ?_) (fun _ => ?_)
    | split
    | dsimp only

def objs_windowChan : Nat := 0x340000001c00000000f000c0002b800000003000040000000801180a880000000000003e00e08000015fb20002e8021c06606cb8012803dff3e4000000000000c7e06503c7e840200003800
def parts_windowChan : Nat := 0xa0ff9ffff9
theorem Moves.windowChan {p ch : Nat} (hM : Moves d₀ e₀ mo mp) (hO : Mask.le objs_windowChan mo) (hP : Mask.le parts_windowChan mp) :
    Moves d₀ (e₀.windowChan p ch) mo mp := by
  have O {a : Nat} (h : (a &&& objs_windowChan == a) = true) := Mask.le_trans h hO
  have P {a : Nat} (h : (a &&& parts_windowChan == a) = true) := Mask.le_trans h hP
  have B {k : Nat} (h : objs_windowChan.testBit k = true) := Mask.bit h hO
  have S {k : Nat} (h : parts_windowChan.testBit k = true) := Mask.bit h hP
  unfold Device.windowChan
  try simp only
  repeat' first
    | with_reducible exact hM
    | with_reducible exact Moves.refl ..
    | with_reducible refine Moves.set ?_ (B (by decide)) (by decide)
    | with_reducible refine Moves.count ?_ (B (by decide)) (by decide) (S (by decide))
    | with_reducible refine Moves.setChan ?_ (O (by decide)) (P (by decide))
    | with_reducible refine Moves.causeHealth ?_ (O (by decide)) (P (by decide))
    | with_reducible refine Moves.retireChannel ?_ (O (by decide)) (P (by decide))
    | with_reducible refine Moves.setChanState ?_ (O (by decide)) (P (by decide))
    | with_reducible refine Moves.ite (fun _ => ?_) (fun _ => ?_)
    | with_reducible refine Moves.ite1 (fun _ => ?_) (fun _ => ?_)
    | split
    | dsimp only

def objs_windowEndAll : Nat := 0x340000001c00000000f000c0002b800000003000040000000801180a880000000000003e00e08000015fb20002e8021c06606cb8012803dff3e4000000000000c7e06503c7e840200003800
def parts_windowEndAll : Nat := 0xa0ff9ffff9
theorem Moves.windowEndAll {p : Nat} (hM : Moves d₀ e₀ mo mp) (hO : Mask.le objs_windowEndAll mo) (hP : Mask.le parts_windowEndAll mp) :
    Moves d₀ (e₀.windowEndAll p) mo mp := by
  have O {a : Nat} (h : (a &&& objs_windowEndAll == a) = true) := Mask.le_trans h hO
  have P {a : Nat} (h : (a &&& parts_windowEndAll == a) = true) := Mask.le_trans h hP
  have B {k : Nat} (h : objs_windowEndAll.testBit k = true) := Mask.bit h hO
  have S {k : Nat} (h : parts_windowEndAll.testBit k = true) := Mask.bit h hP
  unfold Device.windowEndAll
  try simp only
  repeat' first
    | with_reducible exact hM
    | with_reducible exact Moves.refl ..
    | with_reducible refine Moves.count ?_ (B (by decide)) (by decide) (S (by decide))
    | with_reducible refine Moves.windowChan ?_ (O (by decide)) (P (by decide))
    | with_reducible refine Moves.foldl ?_ (fun d a => ?_)
    | dsimp only

def objs_restoreUnit : Nat := 0x340000001c00000000b000c00000000000003000040000000001180a880000000000003e00e08000015fb20002e8021c06606cb8012803dff3e4000000000000c7e02503c7e800200003800
def parts_restoreUnit : Nat := 0xa0ff9ffff9
theorem Moves.restoreUnit {p ch : Nat} (hM : Moves d₀ e₀ mo mp) (hO : Mask.le objs_restoreUnit mo) (hP : Mask.le parts_restoreUnit mp) :
    Moves d₀ (e₀.restoreUnit p ch) mo mp := by
  have O {a : Nat} (h : (a &&& objs_restoreUnit == a) = true) := Mask.le_trans h hO
  have P {a : Nat} (h : (a &&& parts_restoreUnit == a) = true) := Mask.le_trans h hP
  have B {k : Nat} (h : objs_restoreUnit.testBit k = true) := Mask.bit h hO
  have S {k : Nat} (h : parts_restoreUnit.testBit k = true) := Mask.bit h hP
  unfold Device.restoreUnit
  try simp only
  repeat' first
    | with_reducible exact hM
    | with_reducible exact Moves.refl ..
    | with_reducible refine Moves.set ?_ (B (by decide)) (by decide)
    | with_reducible refine Moves.setChan ?_ (O (by decide)) (P (by decide))
    | with_reducible refine Moves.setRow ?_ (O (by decide)) (P (by decide))
    | with_reducible refine Moves.setPlane ?_ (O (by decide)) (P (by decide))
    | with_reducible refine Moves.makeDue ?_ (O (by decide)) (P (by decide))
    | with_reducible refine Moves.returnUnit ?_ (O (by decide)) (P (by decide))
    | with_reducible refine Moves.lhRefresh ?_ (O (by decide)) (P (by decide))
    | with_reducible refine Moves.startReturns ?_ (O (by decide)) (P (by decide))
    | with_reducible refine Moves.unholdPort ?_ (O (by decide)) (P (by decide))
    | with_reducible refine Moves.laneRetrain ?_ (O (by decide)) (P (by decide))
    | with_reducible refine Moves.setKiteState ?_ (O (by decide)) (P (by decide))
    | with_reducible refine Moves.reviewReasons ?_ (O (by decide)) (P (by decide))
    | with_reducible refine Moves.setChanState ?_ (O (by decide)) (P (by decide))
    | with_reducible refine Moves.foldl ?_ (fun d a => ?_)
    | with_reducible refine Moves.ite (fun _ => ?_) (fun _ => ?_)
    | with_reducible refine Moves.ite1 (fun _ => ?_) (fun _ => ?_)
    | split
    | dsimp only

def objs_hfRestore : Nat := 0x340000001c00000002b000c00000000000003000040000000001180a880000000000003e00e08000015fb20002e8021c06606cb8012803dff3e4000000000000c7e02503c7e800200003800
def parts_hfRestore : Nat := 0xa0ff9ffff9
theorem Moves.hfRestore {p ses : Nat} {pass : Bool} (hM : Moves d₀ e₀ mo mp) (hO : Mask.le objs_hfRestore mo) (hP : Mask.le parts_hfRestore mp) :
    Moves d₀ (e₀.hfRestore p ses pass) mo mp := by
  have O {a : Nat} (h : (a &&& objs_hfRestore == a) = true) := Mask.le_trans h hO
  have P {a : Nat} (h : (a &&& parts_hfRestore == a) = true) := Mask.le_trans h hP
  have B {k : Nat} (h : objs_hfRestore.testBit k = true) := Mask.bit h hO
  unfold Device.hfRestore
  try simp only
  repeat' first
    | with_reducible exact hM
    | with_reducible exact Moves.refl ..
    | with_reducible refine Moves.cmdReads ?_ (B (by dsimp only; decide)) (by dsimp only; decide)
    | with_reducible refine Moves.restoreUnit ?_ (O (by decide)) (P (by decide))
    | with_reducible refine Moves.ite (fun _ => ?_) (fun _ => ?_)
    | with_reducible refine Moves.ite1 (fun _ => ?_) (fun _ => ?_)
    | split
    | dsimp only

def objs_hfRetire : Nat := 0x340000001c000000043000c0002b800000003000040000000801180a880000000000003e00e08000015fb20002e8021c06606cb8012803dff3e4000000000000c7e06503c7e840200003800
def parts_hfRetire : Nat := 0xa0ff9ffff9
theorem Moves.hfRetire {p ses : Nat} (hM : Moves d₀ e₀ mo mp) (hO : Mask.le objs_hfRetire mo) (hP : Mask.le parts_hfRetire mp) :
    Moves d₀ (e₀.hfRetire p ses) mo mp := by
  have O {a : Nat} (h : (a &&& objs_hfRetire == a) = true) := Mask.le_trans h hO
  have P {a : Nat} (h : (a &&& parts_hfRetire == a) = true) := Mask.le_trans h hP
  have B {k : Nat} (h : objs_hfRetire.testBit k = true) := Mask.bit h hO
  unfold Device.hfRetire
  try simp only
  repeat' first
    | with_reducible exact hM
    | with_reducible exact Moves.refl ..
    | with_reducible refine Moves.cmdReads ?_ (B (by dsimp only; decide)) (by dsimp only; decide)
    | with_reducible refine Moves.retireChannel ?_ (O (by decide)) (P (by decide))
    | with_reducible refine Moves.ite (fun _ => ?_) (fun _ => ?_)
    | with_reducible refine Moves.ite1 (fun _ => ?_) (fun _ => ?_)
    | split
    | dsimp only

def objs_injectFault : Nat := 0x340000001c000158003000c0002b800000003000040000040801180a880000000000013e00e08000015fb20002e8121c06606cb8012803dff3e4000000000000c7e06503cfec40202003800
def parts_injectFault : Nat := 0xb0ff9ffff9
theorem Moves.injectFault {p ch : Nat} (hM : Moves d₀ e₀ mo mp) (hO : Mask.le objs_injectFault mo) (hP : Mask.le parts_injectFault mp) :
    Moves d₀ (e₀.injectFault p ch) mo mp := by
  have O {a : Nat} (h : (a &&& objs_injectFault == a) = true) := Mask.le_trans h hO
  have P {a : Nat} (h : (a &&& parts_injectFault == a) = true) := Mask.le_trans h hP
  have B {k : Nat} (h : objs_injectFault.testBit k = true) := Mask.bit h hO
  have S {k : Nat} (h : parts_injectFault.testBit k = true) := Mask.bit h hP
  unfold Device.injectFault
  try simp only
  repeat' first
    | with_reducible exact hM
    | with_reducible exact Moves.refl ..
    | with_reducible refine Moves.bump ?_ (B (by decide)) (by decide) (S (by decide))
    | with_reducible refine Moves.hbmFault ?_ (O (by decide)) (P (by decide))
    | with_reducible refine Moves.pathCheck ?_ (O (by decide)) (P (by decide))
    | with_reducible refine Moves.spareKiteFault ?_ (O (by decide)) (P (by decide))
    | with_reducible refine Moves.kiteFault ?_ (O (by decide)) (P (by decide))
    | with_reducible refine Moves.cipherFault ?_ (O (by decide)) (P (by decide))
    | with_reducible refine Moves.tileFault ?_ (O (by decide)) (P (by decide))
    | with_reducible refine Moves.laneFault ?_ (O (by decide)) (P (by decide))
    | with_reducible refine Moves.goOof ?_ (O (by decide)) (P (by decide))
    | with_reducible refine Moves.retrain ?_ (O (by decide)) (P (by decide))
    | with_reducible refine Moves.portFault ?_ (O (by decide)) (P (by decide))
    | with_reducible refine Moves.chanClear ?_ (O (by decide)) (P (by decide))
    | with_reducible refine Moves.chanFault ?_ (O (by decide)) (P (by decide))
    | with_reducible refine Moves.ite (fun _ => ?_) (fun _ => ?_)
    | with_reducible refine Moves.ite1 (fun _ => ?_) (fun _ => ?_)
    | split
    | dsimp only

def objs_diagInject : Nat := 0x340000001c000158003500c0002b800000003000040000040801180a880000000000013e00e08000015fb20002e8121c06606cb8012803dff3e4000000000000c7e06503cfec40202003800
def parts_diagInject : Nat := 0xb0ff9ffff9
theorem Moves.diagInject {ses : Nat} (hM : Moves d₀ e₀ mo mp) (hO : Mask.le objs_diagInject mo) (hP : Mask.le parts_diagInject mp) :
    Moves d₀ (e₀.diagInject ses) mo mp := by
  have O {a : Nat} (h : (a &&& objs_diagInject == a) = true) := Mask.le_trans h hO
  have P {a : Nat} (h : (a &&& parts_diagInject == a) = true) := Mask.le_trans h hP
  have B {k : Nat} (h : objs_diagInject.testBit k = true) := Mask.bit h hO
  have S {k : Nat} (h : parts_diagInject.testBit k = true) := Mask.bit h hP
  unfold Device.diagInject
  try simp only
  repeat' first
    | with_reducible exact hM
    | with_reducible exact Moves.refl ..
    | with_reducible refine Moves.set ?_ (B (by decide)) (by decide)
    | with_reducible refine Moves.bump ?_ (B (by decide)) (by decide) (S (by decide))
    | with_reducible refine Moves.injectFault ?_ (O (by decide)) (P (by decide))
    | with_reducible refine Moves.ite (fun _ => ?_) (fun _ => ?_)
    | with_reducible refine Moves.ite1 (fun _ => ?_) (fun _ => ?_)
    | split
    | dsimp only

def objs_endWork : Nat := 0x7ffffffffffffffffffffffffffffffffffffffffffffffffffffffffffffffffffffffffffffffffffffffffffffffffffffffffffffffffffffffffffffffffffffffffffffffffffffff
def parts_endWork : Nat := 0xffffffffffffffff
theorem Moves.endWork {p : Nat} (hM : Moves d₀ e₀ mo mp) (hO : Mask.le objs_endWork mo) (hP : Mask.le parts_endWork mp) :
    Moves d₀ (e₀.endWork p) mo mp := by
  have O {a : Nat} (h : (a &&& objs_endWork == a) = true) := Mask.le_trans h hO
  have P {a : Nat} (h : (a &&& parts_endWork == a) = true) := Mask.le_trans h hP
  have B {k : Nat} (h : objs_endWork.testBit k = true) := Mask.bit h hO
  have S {k : Nat} (h : parts_endWork.testBit k = true) := Mask.bit h hP
  unfold Device.endWork
  try simp only
  repeat' first
    | with_reducible exact hM
    | with_reducible exact Moves.refl ..
    | refine Moves.setAny ?_ (B (Mask.all _)) (S (by decide))
    | with_reducible refine Moves.setPlane ?_ (O (by decide)) (P (by decide))
    | with_reducible refine Moves.slotCmd ?_ (O (by decide)) (P (by decide))
    | with_reducible refine Moves.foldl ?_ (fun d a => ?_)
    | with_reducible refine Moves.ite (fun _ => ?_) (fun _ => ?_)
    | with_reducible refine Moves.ite1 (fun _ => ?_) (fun _ => ?_)
    | split
    | dsimp only

def objs_stopForRecovery : Nat := 0x7ffffffffffffffffffffffffffffffffffffffffffffffffffffffffffffffffffffffffffffffffffffffffffffffffffffffffffffffffffffffffffffffffffffffffffffffffffffff
def parts_stopForRecovery : Nat := 0xffffffffffffffff
theorem Moves.stopForRecovery {p : Nat} (hM : Moves d₀ e₀ mo mp) (hO : Mask.le objs_stopForRecovery mo) (hP : Mask.le parts_stopForRecovery mp) :
    Moves d₀ (e₀.stopForRecovery p) mo mp := by
  have O {a : Nat} (h : (a &&& objs_stopForRecovery == a) = true) := Mask.le_trans h hO
  have P {a : Nat} (h : (a &&& parts_stopForRecovery == a) = true) := Mask.le_trans h hP
  unfold Device.stopForRecovery
  try simp only
  repeat' first
    | with_reducible exact hM
    | with_reducible exact Moves.refl ..
    | with_reducible refine Moves.causeHealth ?_ (O (by decide)) (P (by decide))
    | with_reducible refine Moves.endWork ?_ (O (by decide)) (P (by decide))
    | with_reducible refine Moves.dropTraffic ?_ (O (by decide)) (P (by decide))
    | with_reducible refine Moves.removeCircuits ?_ (O (by decide)) (P (by decide))
    | with_reducible refine Moves.goOof ?_ (O (by decide)) (P (by decide))
    | with_reducible refine Moves.reforms ?_ (O (by decide)) (P (by decide))
    | with_reducible refine Moves.leavePort ?_ (O (by decide)) (P (by decide))
    | with_reducible refine Moves.calAbort ?_ (O (by decide)) (P (by decide))
    | with_reducible refine Moves.scFail ?_ (O (by decide)) (P (by decide))
    | with_reducible refine Moves.foldl ?_ (fun d a => ?_)
    | with_reducible refine Moves.ite (fun _ => ?_) (fun _ => ?_)
    | with_reducible refine Moves.ite1 (fun _ => ?_) (fun _ => ?_)
    | split
    | dsimp only

def objs_recoveryStart : Nat := 0x7ffffffffffffffffffffffffffffffffffffffffffffffffffffffffffffffffffffffffffffffffffffffffffffffffffffffffffffffffffffffffffffffffffffffffffffffffffffff
def parts_recoveryStart : Nat := 0xffffffffffffffff
theorem Moves.recoveryStart {p : Nat} (hM : Moves d₀ e₀ mo mp) (hO : Mask.le objs_recoveryStart mo) (hP : Mask.le parts_recoveryStart mp) :
    Moves d₀ (e₀.recoveryStart p) mo mp := by
  have O {a : Nat} (h : (a &&& objs_recoveryStart == a) = true) := Mask.le_trans h hO
  have P {a : Nat} (h : (a &&& parts_recoveryStart == a) = true) := Mask.le_trans h hP
  have B {k : Nat} (h : objs_recoveryStart.testBit k = true) := Mask.bit h hO
  have S {k : Nat} (h : parts_recoveryStart.testBit k = true) := Mask.bit h hP
  unfold Device.recoveryStart
  try simp only
  repeat' first
    | with_reducible exact hM
    | with_reducible exact Moves.refl ..
    | with_reducible refine Moves.bump ?_ (B (by decide)) (by decide) (S (by decide))
    | with_reducible refine Moves.setPlane ?_ (O (by decide)) (P (by decide))
    | with_reducible refine Moves.stopForRecovery ?_ (O (by decide)) (P (by decide))
    | with_reducible refine Moves.retirePlane ?_ (O (by decide)) (P (by decide))
    | with_reducible refine Moves.ite (fun _ => ?_) (fun _ => ?_)
    | with_reducible refine Moves.ite1 (fun _ => ?_) (fun _ => ?_)
    | split
    | dsimp only

def objs_recoverReads : Nat := 0x180000000000000000000000000000000000000000000000000000000000000000000000000000000000000000000000000000000000000000000000000000000000000
def parts_recoverReads : Nat := 0x0
theorem Moves.recoverReads {p v : Nat} (hM : Moves d₀ e₀ mo mp) (hO : Mask.le objs_recoverReads mo) (hP : Mask.le parts_recoverReads mp) :
    Moves d₀ (e₀.recoverReads p v) mo mp := by
  have O {a : Nat} (h : (a &&& objs_recoverReads == a) = true) := Mask.le_trans h hO
  have P {a : Nat} (h : (a &&& parts_recoverReads == a) = true) := Mask.le_trans h hP
  have B {k : Nat} (h : objs_recoverReads.testBit k = true) := Mask.bit h hO
  have S {k : Nat} (h : parts_recoverReads.testBit k = true) := Mask.bit h hP
  unfold Device.recoverReads
  try simp only
  repeat' first
    | with_reducible exact hM
    | with_reducible exact Moves.refl ..
    | with_reducible refine Moves.set ?_ (B (by decide)) (by decide)
    | with_reducible refine Moves.ite (fun _ => ?_) (fun _ => ?_)
    | with_reducible refine Moves.ite1 (fun _ => ?_) (fun _ => ?_)
    | split
    | dsimp only

def objs_recoveryEnd : Nat := 0x3400000000000000180000000000000000000000000000000000000000000000000000000000000000000000020000000000000000000000000000000000000000000000000000000000000
def parts_recoveryEnd : Nat := 0x81803a0
theorem Moves.recoveryEnd {p : Nat} (hM : Moves d₀ e₀ mo mp) (hO : Mask.le objs_recoveryEnd mo) (hP : Mask.le parts_recoveryEnd mp) :
    Moves d₀ (e₀.recoveryEnd p) mo mp := by
  have O {a : Nat} (h : (a &&& objs_recoveryEnd == a) = true) := Mask.le_trans h hO
  have P {a : Nat} (h : (a &&& parts_recoveryEnd == a) = true) := Mask.le_trans h hP
  unfold Device.recoveryEnd
  try simp only
  repeat' first
    | with_reducible exact hM
    | with_reducible exact Moves.refl ..
    | with_reducible refine Moves.causeHealth ?_ (O (by decide)) (P (by decide))
    | with_reducible refine Moves.setPlane ?_ (O (by decide)) (P (by decide))
    | with_reducible refine Moves.recoverReads ?_ (O (by decide)) (P (by decide))
    | with_reducible refine Moves.lhRefresh ?_ (O (by decide)) (P (by decide))
    | with_reducible refine Moves.chanClear ?_ (O (by decide)) (P (by decide))
    | with_reducible refine Moves.foldl ?_ (fun d a => ?_)
    | with_reducible refine Moves.ite (fun _ => ?_) (fun _ => ?_)
    | with_reducible refine Moves.ite1 (fun _ => ?_) (fun _ => ?_)
    | split
    | dsimp only

def objs_recoveryTimeout : Nat := 0x340000001c000000183000c0002b800000003000040000000801180a880000000000003e00208000015fb20002e8020006606cb80128021ff3e4000000000000c7e02103c7e800200001800
def parts_recoveryTimeout : Nat := 0x80ff9ffff9
theorem Moves.recoveryTimeout {p : Nat} (hM : Moves d₀ e₀ mo mp) (hO : Mask.le objs_recoveryTimeout mo) (hP : Mask.le parts_recoveryTimeout mp) :
    Moves d₀ (e₀.recoveryTimeout p) mo mp := by
  have O {a : Nat} (h : (a &&& objs_recoveryTimeout == a) = true) := Mask.le_trans h hO
  have P {a : Nat} (h : (a &&& parts_recoveryTimeout == a) = true) := Mask.le_trans h hP
  unfold Device.recoveryTimeout
  try simp only
  repeat' first
    | with_reducible exact hM
    | with_reducible exact Moves.refl ..
    | with_reducible refine Moves.recoverReads ?_ (O (by decide)) (P (by decide))
    | with_reducible refine Moves.retirePlane ?_ (O (by decide)) (P (by decide))
    | with_reducible refine Moves.ite (fun _ => ?_) (fun _ => ?_)
    | with_reducible refine Moves.ite1 (fun _ => ?_) (fun _ => ?_)
    | split
    | dsimp only

def objs_recoverCmd : Nat := 0x80000000000000000000000000000000000000000000000000000000000000000000000000000000000000000000000000000000000000000000000000000000000000
def parts_recoverCmd : Nat := 0x100
theorem Moves.recoverCmd {p : Nat} (hM : Moves d₀ e₀ mo mp) (hO : Mask.le objs_recoverCmd mo) (hP : Mask.le parts_recoverCmd mp) :
    Moves d₀ (e₀.recoverCmd p) mo mp := by
  have O {a : Nat} (h : (a &&& objs_recoverCmd == a) = true) := Mask.le_trans h hO
  have P {a : Nat} (h : (a &&& parts_recoverCmd == a) = true) := Mask.le_trans h hP
  have B {k : Nat} (h : objs_recoverCmd.testBit k = true) := Mask.bit h hO
  have S {k : Nat} (h : parts_recoverCmd.testBit k = true) := Mask.bit h hP
  unfold Device.recoverCmd
  try simp only
  repeat' first
    | with_reducible exact hM
    | with_reducible exact Moves.refl ..
    | with_reducible refine Moves.set ?_ (B (by decide)) (by decide)
    | with_reducible refine Moves.setPlane ?_ (O (by decide)) (P (by decide))
    | with_reducible refine Moves.ite (fun _ => ?_) (fun _ => ?_)
    | with_reducible refine Moves.ite1 (fun _ => ?_) (fun _ => ?_)
    | split
    | dsimp only

def objs_maintEnter : Nat := 0x100000000000000000000000000000000000000000000000000000000000000000000000000000000000000000000000000000000000000000000000000000000000000
def parts_maintEnter : Nat := 0x100
theorem Moves.maintEnter {p : Nat} (hM : Moves d₀ e₀ mo mp) (hO : Mask.le objs_maintEnter mo) (hP : Mask.le parts_maintEnter mp) :
    Moves d₀ (e₀.maintEnter p) mo mp := by
  have O {a : Nat} (h : (a &&& objs_maintEnter == a) = true) := Mask.le_trans h hO
  have P {a : Nat} (h : (a &&& parts_maintEnter == a) = true) := Mask.le_trans h hP
  have B {k : Nat} (h : objs_maintEnter.testBit k = true) := Mask.bit h hO
  have S {k : Nat} (h : parts_maintEnter.testBit k = true) := Mask.bit h hP
  unfold Device.maintEnter
  try simp only
  repeat' first
    | with_reducible exact hM
    | with_reducible exact Moves.refl ..
    | with_reducible refine Moves.set ?_ (B (by decide)) (by decide)
    | with_reducible refine Moves.setPlane ?_ (O (by decide)) (P (by decide))
    | with_reducible refine Moves.ite (fun _ => ?_) (fun _ => ?_)
    | with_reducible refine Moves.ite1 (fun _ => ?_) (fun _ => ?_)
    | split
    | dsimp only

def objs_maintLeave : Nat := 0x100000000000000000000000000000000000000000000000000000000000000000000000000000000000000000000000000000000000000000000000000000000000000
def parts_maintLeave : Nat := 0x100
theorem Moves.maintLeave {p : Nat} (hM : Moves d₀ e₀ mo mp) (hO : Mask.le objs_maintLeave mo) (hP : Mask.le parts_maintLeave mp) :
    Moves d₀ (e₀.maintLeave p) mo mp := by
  have O {a : Nat} (h : (a &&& objs_maintLeave == a) = true) := Mask.le_trans h hO
  have P {a : Nat} (h : (a &&& parts_maintLeave == a) = true) := Mask.le_trans h hP
  have B {k : Nat} (h : objs_maintLeave.testBit k = true) := Mask.bit h hO
  have S {k : Nat} (h : parts_maintLeave.testBit k = true) := Mask.bit h hP
  unfold Device.maintLeave
  try simp only
  repeat' first
    | with_reducible exact hM
    | with_reducible exact Moves.refl ..
    | with_reducible refine Moves.set ?_ (B (by decide)) (by decide)
    | with_reducible refine Moves.setPlane ?_ (O (by decide)) (P (by decide))
    | with_reducible refine Moves.ite (fun _ => ?_) (fun _ => ?_)
    | with_reducible refine Moves.ite1 (fun _ => ?_) (fun _ => ?_)
    | split
    | dsimp only

def objs_fuseReason : Nat := 0x3400000000000000000000c00000000000000000000000000000000000000000000000000000000000000000000000000000000000000000000000000000000000000000000000000000000
def parts_fuseReason : Nat := 0x2a0
theorem Moves.fuseReason  (hM : Moves d₀ e₀ mo mp) (hO : Mask.le objs_fuseReason mo) (hP : Mask.le parts_fuseReason mp) :
    Moves d₀ (e₀.fuseReason ) mo mp := by
  have O {a : Nat} (h : (a &&& objs_fuseReason == a) = true) := Mask.le_trans h hO
  have P {a : Nat} (h : (a &&& parts_fuseReason == a) = true) := Mask.le_trans h hP
  unfold Device.fuseReason
  try simp only
  repeat' first
    | with_reducible exact hM
    | with_reducible exact Moves.refl ..
    | with_reducible refine Moves.setReasons ?_ (O (by decide)) (P (by decide))
    | dsimp only

def objs_fuse : Nat := 0x3400000000000000201000c0002b800000000000000000000000000000000000000000000000000000000000000000000000000000000000000000000000000000000000000000000000000
def parts_fuse : Nat := 0x3a1
theorem Moves.fuse {p : Nat} {fits : Bool} (hM : Moves d₀ e₀ mo mp) (hO : Mask.le objs_fuse mo) (hP : Mask.le parts_fuse mp) :
    Moves d₀ (e₀.fuse p fits) mo mp := by
  have O {a : Nat} (h : (a &&& objs_fuse == a) = true) := Mask.le_trans h hO
  have P {a : Nat} (h : (a &&& parts_fuse == a) = true) := Mask.le_trans h hP
  have B {k : Nat} (h : objs_fuse.testBit k = true) := Mask.bit h hO
  have S {k : Nat} (h : parts_fuse.testBit k = true) := Mask.bit h hP
  unfold Device.fuse
  try simp only
  repeat' first
    | with_reducible exact hM
    | with_reducible exact Moves.refl ..
    | with_reducible refine Moves.set ?_ (B (by decide)) (by decide)
    | with_reducible refine Moves.setPlane ?_ (O (by decide)) (P (by decide))
    | with_reducible refine Moves.fuseReason ?_ (O (by decide)) (P (by decide))
    | with_reducible refine Moves.reviewReasons ?_ (O (by decide)) (P (by decide))
    | with_reducible refine Moves.setLog ?_ (O (by decide)) (P (by decide))
    | with_reducible refine Moves.setChanState ?_ (O (by decide)) (P (by decide))
    | with_reducible refine Moves.foldl ?_ (fun d a => ?_)
    | with_reducible refine Moves.ite (fun _ => ?_) (fun _ => ?_)
    | with_reducible refine Moves.ite1 (fun _ => ?_) (fun _ => ?_)
    | split
    | dsimp only

def objs_fullBist : Nat := 0x340000001c000040003200c0002b800000003000040000000801180a880000000000003e00e08000015fb20002e8021c06606cb8012803dff3e4000000000000c7e06503c7e840200003800
def parts_fullBist : Nat := 0xa0ff9ffff9
theorem Moves.fullBist {failed : List Nat} (hM : Moves d₀ e₀ mo mp) (hO : Mask.le objs_fullBist mo) (hP : Mask.le parts_fullBist mp) :
    Moves d₀ (e₀.fullBist failed) mo mp := by
  have O {a : Nat} (h : (a &&& objs_fullBist == a) = true) := Mask.le_trans h hO
  have P {a : Nat} (h : (a &&& parts_fullBist == a) = true) := Mask.le_trans h hP
  have B {k : Nat} (h : objs_fullBist.testBit k = true) := Mask.bit h hO
  have S {k : Nat} (h : parts_fullBist.testBit k = true) := Mask.bit h hP
  unfold Device.fullBist
  try simp only
  repeat' first
    | with_reducible exact hM
    | with_reducible exact Moves.refl ..
    | with_reducible refine Moves.set ?_ (B (by decide)) (by decide)
    | with_reducible refine Moves.bump ?_ (B (by decide)) (by decide) (S (by decide))
    | with_reducible refine Moves.causeHealth ?_ (O (by decide)) (P (by decide))
    | with_reducible refine Moves.retireChannel ?_ (O (by decide)) (P (by decide))
    | with_reducible refine Moves.foldl ?_ (fun d a => ?_)
    | with_reducible refine Moves.ite (fun _ => ?_) (fun _ => ?_)
    | with_reducible refine Moves.ite1 (fun _ => ?_) (fun _ => ?_)
    | split
    | dsimp only

def objs_retireClear : Nat := 0x3400000000000000000020c0002b800000000000000000000000000000000000000000000000000000000000000000000000000000000000000000000000000000000000000000000000000
def parts_retireClear : Nat := 0x3a1
theorem Moves.retireClear  (hM : Moves d₀ e₀ mo mp) (hO : Mask.le objs_retireClear mo) (hP : Mask.le parts_retireClear mp) :
    Moves d₀ (e₀.retireClear ) mo mp := by
  have O {a : Nat} (h : (a &&& objs_retireClear == a) = true) := Mask.le_trans h hO
  have P {a : Nat} (h : (a &&& parts_retireClear == a) = true) := Mask.le_trans h hP
  have B {k : Nat} (h : objs_retireClear.testBit k = true) := Mask.bit h hO
  have S {k : Nat} (h : parts_retireClear.testBit k = true) := Mask.bit h hP
  unfold Device.retireClear
  try simp only
  repeat' first
    | with_reducible exact hM
    | with_reducible exact Moves.refl ..
    | with_reducible refine Moves.set ?_ (B (by decide)) (by decide)
    | with_reducible refine Moves.setPlane ?_ (O (by decide)) (P (by decide))
    | with_reducible refine Moves.fuseReason ?_ (O (by decide)) (P (by decide))
    | with_reducible refine Moves.setLog ?_ (O (by decide)) (P (by decide))
    | dsimp only

def objs_bistSkip : Nat := 0x3400000000000138000000000000000000000000000000000000000000000000000000000000000000000000000000000000000000000000000000000000000000000000000000000000000
def parts_bistSkip : Nat := 0x10000802a1
theorem Moves.bistSkip {p u : Nat} (hM : Moves d₀ e₀ mo mp) (hO : Mask.le objs_bistSkip mo) (hP : Mask.le parts_bistSkip mp) :
    Moves d₀ (e₀.bistSkip p u) mo mp := by
  have O {a : Nat} (h : (a &&& objs_bistSkip == a) = true) := Mask.le_trans h hO
  have P {a : Nat} (h : (a &&& parts_bistSkip == a) = true) := Mask.le_trans h hP
  have B {k : Nat} (h : objs_bistSkip.testBit k = true) := Mask.bit h hO
  have S {k : Nat} (h : parts_bistSkip.testBit k = true) := Mask.bit h hP
  unfold Device.bistSkip
  try simp only
  repeat' first
    | with_reducible exact hM
    | with_reducible exact Moves.refl ..
    | with_reducible refine Moves.bump ?_ (B (by decide)) (by decide) (S (by decide))
    | with_reducible refine Moves.setBist ?_ (O (by decide)) (P (by decide))
    | with_reducible refine Moves.causeHealth ?_ (O (by decide)) (P (by decide))
    | with_reducible refine Moves.bistNext ?_ (O (by decide)) (P (by decide))
    | with_reducible refine Moves.ite (fun _ => ?_) (fun _ => ?_)
    | with_reducible refine Moves.ite1 (fun _ => ?_) (fun _ => ?_)
    | split
    | dsimp only

def objs_bistStart : Nat := 0x340000001c000138003000000000000000003000040000000001180a880000000000003e00e08000015fb20002e8021c06606cb80128039ff3e4000000000000c7e06503c7e840200000000
def parts_bistStart : Nat := 0xb0ff9ffff9
theorem Moves.bistStart {p : Nat} (hM : Moves d₀ e₀ mo mp) (hO : Mask.le objs_bistStart mo) (hP : Mask.le parts_bistStart mp) :
    Moves d₀ (e₀.bistStart p) mo mp := by
  have O {a : Nat} (h : (a &&& objs_bistStart == a) = true) := Mask.le_trans h hO
  have P {a : Nat} (h : (a &&& parts_bistStart == a) = true) := Mask.le_trans h hP
  unfold Device.bistStart
  try simp only
  repeat' first
    | with_reducible exact hM
    | with_reducible exact Moves.refl ..
    | with_reducible refine Moves.setBist ?_ (O (by decide)) (P (by decide))
    | with_reducible refine Moves.setStands ?_ (O (by decide)) (P (by decide))
    | with_reducible refine Moves.bistSkip ?_ (O (by decide)) (P (by decide))
    | with_reducible refine Moves.refreshGroup ?_ (O (by decide)) (P (by decide))
    | with_reducible refine Moves.handOver ?_ (O (by decide)) (P (by decide))
    | with_reducible refine Moves.setKiteState ?_ (O (by decide)) (P (by decide))
    | with_reducible refine Moves.setChanState ?_ (O (by decide)) (P (by decide))
    | with_reducible refine Moves.ite (fun _ => ?_) (fun _ => ?_)
    | with_reducible refine Moves.ite1 (fun _ => ?_) (fun _ => ?_)
    | split
    | dsimp only

def objs_bistReturn : Nat := 0x340000001c000000003000000000000000003000040000000001180a880000000000003e00e08000015fb20002e8021c06606cb80128039ff3e4000000000000c7e02503c7e800200000000
def parts_bistReturn : Nat := 0xa0ff9ffff9
theorem Moves.bistReturn {p u : Nat} (hM : Moves d₀ e₀ mo mp) (hO : Mask.le objs_bistReturn mo) (hP : Mask.le parts_bistReturn mp) :
    Moves d₀ (e₀.bistReturn p u) mo mp := by
  have O {a : Nat} (h : (a &&& objs_bistReturn == a) = true) := Mask.le_trans h hO
  have P {a : Nat} (h : (a &&& parts_bistReturn == a) = true) := Mask.le_trans h hP
  unfold Device.bistReturn
  try simp only
  repeat' first
    | with_reducible exact hM
    | with_reducible exact Moves.refl ..
    | with_reducible refine Moves.setRow ?_ (O (by decide)) (P (by decide))
    | with_reducible refine Moves.returnUnit ?_ (O (by decide)) (P (by decide))
    | with_reducible refine Moves.startReturns ?_ (O (by decide)) (P (by decide))
    | with_reducible refine Moves.setKiteState ?_ (O (by decide)) (P (by decide))
    | with_reducible refine Moves.setChanState ?_ (O (by decide)) (P (by decide))
    | with_reducible refine Moves.ite (fun _ => ?_) (fun _ => ?_)
    | with_reducible refine Moves.ite1 (fun _ => ?_) (fun _ => ?_)
    | split
    | dsimp only

def objs_bistComplete : Nat := 0x340000001c0001d8003000c0002b800000003000040000000001180a880000000000003e00e08000015fb20002e8021c06606cb80128039ff3e4000000000000c7e02503c7e800200000000
def parts_bistComplete : Nat := 0xb0ffdffff9
theorem Moves.bistComplete {p : Nat} {r : BistResult} (hM : Moves d₀ e₀ mo mp) (hO : Mask.le objs_bistComplete mo) (hP : Mask.le parts_bistComplete mp) :
    Moves d₀ (e₀.bistComplete p r) mo mp := by
  have O {a : Nat} (h : (a &&& objs_bistComplete == a) = true) := Mask.le_trans h hO
  have P {a : Nat} (h : (a &&& parts_bistComplete == a) = true) := Mask.le_trans h hP
  have B {k : Nat} (h : objs_bistComplete.testBit k = true) := Mask.bit h hO
  have S {k : Nat} (h : parts_bistComplete.testBit k = true) := Mask.bit h hP
  unfold Device.bistComplete
  try simp only
  repeat' first
    | with_reducible exact hM
    | with_reducible exact Moves.refl ..
    | with_reducible refine Moves.bump ?_ (B (by decide)) (by decide) (S (by decide))
    | with_reducible refine Moves.setBist ?_ (O (by decide)) (P (by decide))
    | with_reducible refine Moves.causeHealth ?_ (O (by decide)) (P (by decide))
    | with_reducible refine Moves.bistReturn ?_ (O (by decide)) (P (by decide))
    | with_reducible refine Moves.bistFail ?_ (O (by decide)) (P (by decide))
    | with_reducible refine Moves.bistNext ?_ (O (by decide)) (P (by decide))
    | with_reducible refine Moves.again ?_ (O (by decide)) (P (by decide))
    | with_reducible refine Moves.logRetire ?_ (O (by decide)) (P (by decide))
    | with_reducible refine Moves.ite (fun _ => ?_) (fun _ => ?_)
    | with_reducible refine Moves.ite1 (fun _ => ?_) (fun _ => ?_)
    | split
    | dsimp only

def objs_measure : Nat := 0x3400000000001400000000000000000000000000000000000000000000000000000000000000000000000000000000000000000000000000000000000000000000000000000000000000000
def parts_measure : Nat := 0x40000002a0
theorem Moves.measure {p m : Nat} {v : Int} (hM : Moves d₀ e₀ mo mp) (hO : Mask.le objs_measure mo) (hP : Mask.le parts_measure mp) :
    Moves d₀ (e₀.measure p m v) mo mp := by
  have O {a : Nat} (h : (a &&& objs_measure == a) = true) := Mask.le_trans h hO
  have P {a : Nat} (h : (a &&& parts_measure == a) = true) := Mask.le_trans h hP
  have B {k : Nat} (h : objs_measure.testBit k = true) := Mask.bit h hO
  have S {k : Nat} (h : parts_measure.testBit k = true) := Mask.bit h hP
  unfold Device.measure
  try simp only
  repeat' first
    | with_reducible exact hM
    | with_reducible exact Moves.refl ..
    | with_reducible refine Moves.set ?_ (B (by first | decide | (split <;> decide) | (cases m <;> decide))) (by first | decide | (split <;> decide) | (cases m <;> decide))
    | with_reducible refine Moves.setMon ?_ (O (by decide)) (P (by decide))
    | with_reducible refine Moves.causeHealth ?_ (O (by decide)) (P (by decide))
    | with_reducible refine Moves.ite (fun _ => ?_) (fun _ => ?_)
    | with_reducible refine Moves.ite1 (fun _ => ?_) (fun _ => ?_)
    | split
    | dsimp only

def objs_horizons : Nat := 0x3400000000000000800001c00000000000000000000000000000000000000000000000000000000000000000000000000000000000000000000000000000000000000000000000000000000
def parts_horizons : Nat := 0x2a0
theorem Moves.horizons {p : Nat} (hM : Moves d₀ e₀ mo mp) (hO : Mask.le objs_horizons mo) (hP : Mask.le parts_horizons mp) :
    Moves d₀ (e₀.horizons p) mo mp := by
  have O {a : Nat} (h : (a &&& objs_horizons == a) = true) := Mask.le_trans h hO
  have P {a : Nat} (h : (a &&& parts_horizons == a) = true) := Mask.le_trans h hP
  have B {k : Nat} (h : objs_horizons.testBit k = true) := Mask.bit h hO
  have S {k : Nat} (h : parts_horizons.testBit k = true) := Mask.bit h hP
  unfold Device.horizons
  try simp only
  repeat' first
    | with_reducible exact hM
    | with_reducible exact Moves.refl ..
    | with_reducible refine Moves.set ?_ (B (by decide)) (by decide)
    | with_reducible refine Moves.causeReplace ?_ (O (by decide)) (P (by decide))
    | with_reducible refine Moves.causeHealth ?_ (O (by decide)) (P (by decide))
    | with_reducible refine Moves.reviewReasons ?_ (O (by decide)) (P (by decide))
    | with_reducible refine Moves.foldl ?_ (fun d a => ?_)
    | with_reducible refine Moves.ite (fun _ => ?_) (fun _ => ?_)
    | with_reducible refine Moves.ite1 (fun _ => ?_) (fun _ => ?_)
    | split
    | dsimp only

def objs_replanVoltage : Nat := 0x0
def parts_replanVoltage : Nat := 0x100
theorem Moves.replanVoltage {p : Nat} (hM : Moves d₀ e₀ mo mp) (hO : Mask.le objs_replanVoltage mo) (hP : Mask.le parts_replanVoltage mp) :
    Moves d₀ (e₀.replanVoltage p) mo mp := by
  have O {a : Nat} (h : (a &&& objs_replanVoltage == a) = true) := Mask.le_trans h hO
  have P {a : Nat} (h : (a &&& parts_replanVoltage == a) = true) := Mask.le_trans h hP
  unfold Device.replanVoltage
  try simp only
  repeat' first
    | with_reducible exact hM
    | with_reducible exact Moves.refl ..
    | with_reducible refine Moves.setPlane ?_ (O (by decide)) (P (by decide))
    | with_reducible refine Moves.foldl ?_ (fun d a => ?_)
    | with_reducible refine Moves.ite (fun _ => ?_) (fun _ => ?_)
    | with_reducible refine Moves.ite1 (fun _ => ?_) (fun _ => ?_)
    | split
    | dsimp only

def objs_replanEyes : Nat := 0x0
def parts_replanEyes : Nat := 0x100
theorem Moves.replanEyes {p : Nat} (hM : Moves d₀ e₀ mo mp) (hO : Mask.le objs_replanEyes mo) (hP : Mask.le parts_replanEyes mp) :
    Moves d₀ (e₀.replanEyes p) mo mp := by
  have O {a : Nat} (h : (a &&& objs_replanEyes == a) = true) := Mask.le_trans h hO
  have P {a : Nat} (h : (a &&& parts_replanEyes == a) = true) := Mask.le_trans h hP
  unfold Device.replanEyes
  try simp only
  repeat' first
    | with_reducible exact hM
    | with_reducible exact Moves.refl ..
    | with_reducible refine Moves.setPlane ?_ (O (by decide)) (P (by decide))
    | dsimp only

def objs_replanHeaters : Nat := 0x3400000000000000000000000000000000000000000000000000000800000000000000000000000000000000000000000000000000000000000000000000000000000000000000000000000
def parts_replanHeaters : Nat := 0x100002a0
theorem Moves.replanHeaters {p : Nat} (hM : Moves d₀ e₀ mo mp) (hO : Mask.le objs_replanHeaters mo) (hP : Mask.le parts_replanHeaters mp) :
    Moves d₀ (e₀.replanHeaters p) mo mp := by
  have O {a : Nat} (h : (a &&& objs_replanHeaters == a) = true) := Mask.le_trans h hO
  have P {a : Nat} (h : (a &&& parts_replanHeaters == a) = true) := Mask.le_trans h hP
  unfold Device.replanHeaters
  try simp only
  repeat' first
    | with_reducible exact hM
    | with_reducible exact Moves.refl ..
    | with_reducible refine Moves.setCal ?_ (O (by decide)) (P (by decide))
    | with_reducible refine Moves.setReserve ?_ (O (by decide)) (P (by decide))
    | with_reducible refine Moves.foldl ?_ (fun d a => ?_)
    | dsimp only

def objs_replanScrub : Nat := 0x0
def parts_replanScrub : Nat := 0x100
theorem Moves.replanScrub {p : Nat} (hM : Moves d₀ e₀ mo mp) (hO : Mask.le objs_replanScrub mo) (hP : Mask.le parts_replanScrub mp) :
    Moves d₀ (e₀.replanScrub p) mo mp := by
  have O {a : Nat} (h : (a &&& objs_replanScrub == a) = true) := Mask.le_trans h hO
  have P {a : Nat} (h : (a &&& parts_replanScrub == a) = true) := Mask.le_trans h hP
  unfold Device.replanScrub
  try simp only
  repeat' first
    | with_reducible exact hM
    | with_reducible exact Moves.refl ..
    | with_reducible refine Moves.setPlane ?_ (O (by decide)) (P (by decide))
    | with_reducible refine Moves.foldl ?_ (fun d a => ?_)
    | with_reducible refine Moves.ite (fun _ => ?_) (fun _ => ?_)
    | with_reducible refine Moves.ite1 (fun _ => ?_) (fun _ => ?_)
    | split
    | dsimp only

def objs_replan : Nat := 0x3400000000004000800001c00000000000000000000000000000000800000000000000000000000000000000000000000000000000000000000000000000000000000000000000000000000
def parts_replan : Nat := 0x100003a0
theorem Moves.replan {p : Nat} (hM : Moves d₀ e₀ mo mp) (hO : Mask.le objs_replan mo) (hP : Mask.le parts_replan mp) :
    Moves d₀ (e₀.replan p) mo mp := by
  have O {a : Nat} (h : (a &&& objs_replan == a) = true) := Mask.le_trans h hO
  have P {a : Nat} (h : (a &&& parts_replan == a) = true) := Mask.le_trans h hP
  have B {k : Nat} (h : objs_replan.testBit k = true) := Mask.bit h hO
  have S {k : Nat} (h : parts_replan.testBit k = true) := Mask.bit h hP
  unfold Device.replan
  try simp only
  repeat' first
    | with_reducible exact hM
    | with_reducible exact Moves.refl ..
    | with_reducible refine Moves.set ?_ (B (by decide)) (by decide)
    | with_reducible refine Moves.replanScrub ?_ (O (by decide)) (P (by decide))
    | with_reducible refine Moves.replanHeaters ?_ (O (by decide)) (P (by decide))
    | with_reducible refine Moves.replanEyes ?_ (O (by decide)) (P (by decide))
    | with_reducible refine Moves.replanVoltage ?_ (O (by decide)) (P (by decide))
    | with_reducible refine Moves.horizons ?_ (O (by decide)) (P (by decide))
    | dsimp only


def objs_scRead : Nat := 0x3400000000000000000000000000000000000000000000000000000001e00000000000000000000000000000000000000000000000000000000400000000000000000000028000000000000
def parts_scRead : Nat := 0xa42e1
theorem Moves.scRead {p g o n : Nat} (hM : Moves d₀ e₀ mo mp) (hO : Mask.le objs_scRead mo) (hP : Mask.le parts_scRead mp) :
    Moves d₀ (e₀.scRead p g o n) mo mp := by
  have O {a : Nat} (h : (a &&& objs_scRead == a) = true) := Mask.le_trans h hO
  have P {a : Nat} (h : (a &&& parts_scRead == a) = true) := Mask.le_trans h hP
  unfold Device.scRead
  try simp only
  repeat' first
    | with_reducible exact hM
    | with_reducible exact Moves.refl ..
    | with_reducible refine Moves.sendOwn ?_ (O (by decide)) (P (by decide))
    | dsimp only

def objs_scIssue : Nat := 0x3400000000000000000000000000000000000000000000000000000001e00000000000000000000000000000000000000000000000000000000400000000000000000000028000000000000
def parts_scIssue : Nat := 0x80000a42e1
theorem Moves.scIssue {p : Nat} {z0 : Nat} (hM : Moves d₀ e₀ mo mp) (hO : Mask.le objs_scIssue mo) (hP : Mask.le parts_scIssue mp) :
    Moves d₀ (e₀.scIssue p z0) mo mp := by
  have O {a : Nat} (h : (a &&& objs_scIssue == a) = true) := Mask.le_trans h hO
  have P {a : Nat} (h : (a &&& parts_scIssue == a) = true) := Mask.le_trans h hP
  induction z0 generalizing e₀  with
  | zero => exact hM
  | succ n ih =>
  unfold Device.scIssue
  try simp only
  repeat' first
    | with_reducible exact hM
    | with_reducible exact Moves.refl ..
    | with_reducible apply ih
    | with_reducible refine Moves.setSc ?_ (O (by decide)) (P (by decide))
    | with_reducible refine Moves.scRead ?_ (O (by decide)) (P (by decide))
    | with_reducible refine Moves.ite (fun _ => ?_) (fun _ => ?_)
    | with_reducible refine Moves.ite1 (fun _ => ?_) (fun _ => ?_)
    | split
    | dsimp only

def objs_scArm : Nat := 0x3400000008000000000000000000000000000000000000000000000000000000000000000000000000000000000000000000000000000000000400000000000000000000028000000000000
def parts_scArm : Nat := 0xa42e1
theorem Moves.scArm {p : Nat} (hM : Moves d₀ e₀ mo mp) (hO : Mask.le objs_scArm mo) (hP : Mask.le parts_scArm mp) :
    Moves d₀ (e₀.scArm p) mo mp := by
  have O {a : Nat} (h : (a &&& objs_scArm == a) = true) := Mask.le_trans h hO
  have P {a : Nat} (h : (a &&& parts_scArm == a) = true) := Mask.le_trans h hP
  have B {k : Nat} (h : objs_scArm.testBit k = true) := Mask.bit h hO
  have S {k : Nat} (h : parts_scArm.testBit k = true) := Mask.bit h hP
  unfold Device.scArm
  try simp only
  repeat' first
    | with_reducible exact hM
    | with_reducible exact Moves.refl ..
    | with_reducible refine Moves.set ?_ (B (by decide)) (by decide)
    | with_reducible refine Moves.sendOwn ?_ (O (by decide)) (P (by decide))
    | with_reducible refine Moves.ite (fun _ => ?_) (fun _ => ?_)
    | with_reducible refine Moves.ite1 (fun _ => ?_) (fun _ => ?_)
    | split
    | dsimp only

def objs_scStart : Nat := 0x340000001c000000000000000000000000000000000000000000000001e00000000000000000000000000000000000000000000000000000000400000000000000000000028000000000000
def parts_scStart : Nat := 0x80000a42e1
theorem Moves.scStart {p : Nat} (hM : Moves d₀ e₀ mo mp) (hO : Mask.le objs_scStart mo) (hP : Mask.le parts_scStart mp) :
    Moves d₀ (e₀.scStart p) mo mp := by
  have O {a : Nat} (h : (a &&& objs_scStart == a) = true) := Mask.le_trans h hO
  have P {a : Nat} (h : (a &&& parts_scStart == a) = true) := Mask.le_trans h hP
  have B {k : Nat} (h : objs_scStart.testBit k = true) := Mask.bit h hO
  have S {k : Nat} (h : parts_scStart.testBit k = true) := Mask.bit h hP
  unfold Device.scStart
  try simp only
  repeat' first
    | with_reducible exact hM
    | with_reducible exact Moves.refl ..
    | with_reducible refine Moves.set ?_ (B (by decide)) (by decide)
    | with_reducible refine Moves.setSc ?_ (O (by decide)) (P (by decide))
    | with_reducible refine Moves.scArm ?_ (O (by decide)) (P (by decide))
    | with_reducible refine Moves.scIssue ?_ (O (by decide)) (P (by decide))
    | with_reducible refine Moves.ite (fun _ => ?_) (fun _ => ?_)
    | with_reducible refine Moves.ite1 (fun _ => ?_) (fun _ => ?_)
    | split
    | dsimp only

def objs_scStored : Nat := 0x3400000000000000000000000000000000000000000000000000000000008000000000000000000000000000000000000000000000000000000000000000000000c00000000000000000000
def parts_scStored : Nat := 0x88000c02a1
theorem Moves.scStored {p g : Nat} (hM : Moves d₀ e₀ mo mp) (hO : Mask.le objs_scStored mo) (hP : Mask.le parts_scStored mp) :
    Moves d₀ (e₀.scStored p g) mo mp := by
  have O {a : Nat} (h : (a &&& objs_scStored == a) = true) := Mask.le_trans h hO
  have P {a : Nat} (h : (a &&& parts_scStored == a) = true) := Mask.le_trans h hP
  have B {k : Nat} (h : objs_scStored.testBit k = true) := Mask.bit h hO
  have S {k : Nat} (h : parts_scStored.testBit k = true) := Mask.bit h hP
  unfold Device.scStored
  try simp only
  repeat' first
    | with_reducible exact hM
    | with_reducible exact Moves.refl ..
    | with_reducible refine Moves.set ?_ (B (by decide)) (by decide)
    | with_reducible refine Moves.setSc ?_ (O (by decide)) (P (by decide))
    | with_reducible refine Moves.setRgn ?_ (O (by decide)) (P (by decide))
    | with_reducible refine Moves.keepPages ?_ (O (by decide)) (P (by decide))
    | dsimp only

def objs_scPage : Nat := 0x340000003c000000000000000000000000000000000000000000000001e080000000000000000000000000000000000000000000000800000004000000000000c7e00000028000000000000
def parts_scPage : Nat := 0x88000e43e9
theorem Moves.scPage {p : Nat} {f : Frame} (hM : Moves d₀ e₀ mo mp) (hO : Mask.le objs_scPage mo) (hP : Mask.le parts_scPage mp) :
    Moves d₀ (e₀.scPage p f) mo mp := by
  have O {a : Nat} (h : (a &&& objs_scPage == a) = true) := Mask.le_trans h hO
  have P {a : Nat} (h : (a &&& parts_scPage == a) = true) := Mask.le_trans h hP
  have B {k : Nat} (h : objs_scPage.testBit k = true) := Mask.bit h hO
  have S {k : Nat} (h : parts_scPage.testBit k = true) := Mask.bit h hP
  unfold Device.scPage
  try simp only
  repeat' first
    | with_reducible exact hM
    | with_reducible exact Moves.refl ..
    | with_reducible refine Moves.bump ?_ (B (by decide)) (by decide) (S (by decide))
    | with_reducible refine Moves.setSc ?_ (O (by decide)) (P (by decide))
    | with_reducible refine Moves.scStored ?_ (O (by decide)) (P (by decide))
    | with_reducible refine Moves.scArm ?_ (O (by decide)) (P (by decide))
    | with_reducible refine Moves.scIssue ?_ (O (by decide)) (P (by decide))
    | with_reducible refine Moves.scFail ?_ (O (by decide)) (P (by decide))
    | with_reducible refine Moves.alloc ?_ (O (by decide)) (P (by decide))
    | with_reducible refine Moves.ite (fun _ => ?_) (fun _ => ?_)
    | with_reducible refine Moves.ite1 (fun _ => ?_) (fun _ => ?_)
    | split
    | dsimp only

def objs_scServe : Nat := 0x3400000000000000000000000000000000000000000000000000000000000000000000000000000000000000000000000000000000000000000400000000000000000000028000000000000
def parts_scServe : Nat := 0x80000a42e1
theorem Moves.scServe {p : Nat} {f : Frame} (hM : Moves d₀ e₀ mo mp) (hO : Mask.le objs_scServe mo) (hP : Mask.le parts_scServe mp) :
    Moves d₀ (e₀.scServe p f) mo mp := by
  have O {a : Nat} (h : (a &&& objs_scServe == a) = true) := Mask.le_trans h hO
  have P {a : Nat} (h : (a &&& parts_scServe == a) = true) := Mask.le_trans h hP
  unfold Device.scServe
  try simp only
  repeat' first
    | with_reducible exact hM
    | with_reducible exact Moves.refl ..
    | with_reducible refine Moves.setSc ?_ (O (by decide)) (P (by decide))
    | with_reducible refine Moves.sendOwn ?_ (O (by decide)) (P (by decide))
    | with_reducible refine Moves.ite (fun _ => ?_) (fun _ => ?_)
    | with_reducible refine Moves.ite1 (fun _ => ?_) (fun _ => ?_)
    | split
    | dsimp only

def objs_scSendAll : Nat := 0x3400000000000000000000000000000000000000000000000000000000000000000000000000000000000000000000000000000000000000000400000000000000000000028000000000000
def parts_scSendAll : Nat := 0xa42e1
theorem Moves.scSendAll {p dev tenant typ per w : Nat} {z0 : Nat} {z1 : Nat} {z2 : List Nat} (hM : Moves d₀ e₀ mo mp) (hO : Mask.le objs_scSendAll mo) (hP : Mask.le parts_scSendAll mp) :
    Moves d₀ (e₀.scSendAll p dev tenant typ per w z0 z1 z2) mo mp := by
  have O {a : Nat} (h : (a &&& objs_scSendAll == a) = true) := Mask.le_trans h hO
  have P {a : Nat} (h : (a &&& parts_scSendAll == a) = true) := Mask.le_trans h hP
  induction z0 generalizing e₀ z1 z2 with
  | zero => exact hM
  | succ n ih =>
  unfold Device.scSendAll
  try simp only
  repeat' first
    | with_reducible exact hM
    | with_reducible exact Moves.refl ..
    | with_reducible apply ih
    | with_reducible refine Moves.sendOwn ?_ (O (by decide)) (P (by decide))
    | with_reducible refine Moves.ite (fun _ => ?_) (fun _ => ?_)
    | with_reducible refine Moves.ite1 (fun _ => ?_) (fun _ => ?_)
    | split
    | dsimp only

def objs_scBoundary : Nat := 0x340000000000000000000000000000000000000000000000000000000000000000000000000000000000000000e8020006606cb80100021ff3e4000000000000c7e00100028000000000000
def parts_scBoundary : Nat := 0x80078edbf9
theorem Moves.scBoundary {p : Nat} (hM : Moves d₀ e₀ mo mp) (hO : Mask.le objs_scBoundary mo) (hP : Mask.le parts_scBoundary mp) :
    Moves d₀ (e₀.scBoundary p) mo mp := by
  have O {a : Nat} (h : (a &&& objs_scBoundary == a) = true) := Mask.le_trans h hO
  have P {a : Nat} (h : (a &&& parts_scBoundary == a) = true) := Mask.le_trans h hP
  have S {k : Nat} (h : parts_scBoundary.testBit k = true) := Mask.bit h hP
  unfold Device.scBoundary
  try simp only
  repeat' first
    | with_reducible exact hM
    | with_reducible exact Moves.refl ..
    | with_reducible refine Moves.setSc ?_ (O (by decide)) (P (by decide))
    | with_reducible refine Moves.scSendAll ?_ (O (by decide)) (P (by decide))
    | with_reducible refine Moves.grpBoundary ?_ (O (by decide)) (P (by decide))
    | with_reducible refine Moves.run ?_ (O (by decide)) (P (by decide))
    | with_reducible refine Moves.fireNotifies ?_ (O (by decide)) (P (by decide))
    | with_reducible refine Moves.sendOwn ?_ (O (by decide)) (P (by decide))
    | with_reducible refine Moves.foldl ?_ (fun d a => ?_)
    | with_reducible refine Moves.ite (fun _ => ?_) (fun _ => ?_)
    | with_reducible refine Moves.ite1 (fun _ => ?_) (fun _ => ?_)
    | split
    | with_reducible refine Moves.with_slots ?_ (S (by decide))
    | dsimp only

def objs_scObjects : Nat := 0x0
def parts_scObjects : Nat := 0x8000000000
theorem Moves.scObjects {p : Nat} {f : Frame} (hM : Moves d₀ e₀ mo mp) (hO : Mask.le objs_scObjects mo) (hP : Mask.le parts_scObjects mp) :
    Moves d₀ (e₀.scObjects p f) mo mp := by
  have O {a : Nat} (h : (a &&& objs_scObjects == a) = true) := Mask.le_trans h hO
  have P {a : Nat} (h : (a &&& parts_scObjects == a) = true) := Mask.le_trans h hP
  unfold Device.scObjects
  try simp only
  repeat' first
    | with_reducible exact hM
    | with_reducible exact Moves.refl ..
    | with_reducible refine Moves.setSc ?_ (O (by decide)) (P (by decide))
    | with_reducible refine Moves.ite (fun _ => ?_) (fun _ => ?_)
    | with_reducible refine Moves.ite1 (fun _ => ?_) (fun _ => ?_)
    | split
    | dsimp only

def objs_scSlots : Nat := 0x0
def parts_scSlots : Nat := 0x8001000000
theorem Moves.scSlots {p : Nat} {f : Frame} (hM : Moves d₀ e₀ mo mp) (hO : Mask.le objs_scSlots mo) (hP : Mask.le parts_scSlots mp) :
    Moves d₀ (e₀.scSlots p f) mo mp := by
  have O {a : Nat} (h : (a &&& objs_scSlots == a) = true) := Mask.le_trans h hO
  have P {a : Nat} (h : (a &&& parts_scSlots == a) = true) := Mask.le_trans h hP
  have S {k : Nat} (h : parts_scSlots.testBit k = true) := Mask.bit h hP
  unfold Device.scSlots
  try simp only
  repeat' first
    | with_reducible exact hM
    | with_reducible exact Moves.refl ..
    | with_reducible refine Moves.setSc ?_ (O (by decide)) (P (by decide))
    | with_reducible refine Moves.ite (fun _ => ?_) (fun _ => ?_)
    | with_reducible refine Moves.ite1 (fun _ => ?_) (fun _ => ?_)
    | split
    | with_reducible refine Moves.with_slots ?_ (S (by decide))
    | dsimp only

def objs_scSetSlot : Nat := 0xf800000000000000000000000000000100000000000000000
def parts_scSetSlot : Nat := 0x1000000
theorem Moves.scSetSlot {p e : Nat} (hM : Moves d₀ e₀ mo mp) (hO : Mask.le objs_scSetSlot mo) (hP : Mask.le parts_scSetSlot mp) :
    Moves d₀ (e₀.scSetSlot p e) mo mp := by
  have O {a : Nat} (h : (a &&& objs_scSetSlot == a) = true) := Mask.le_trans h hO
  have P {a : Nat} (h : (a &&& parts_scSetSlot == a) = true) := Mask.le_trans h hP
  have B {k : Nat} (h : objs_scSetSlot.testBit k = true) := Mask.bit h hO
  have S {k : Nat} (h : parts_scSetSlot.testBit k = true) := Mask.bit h hP
  unfold Device.scSetSlot
  try simp only
  repeat' first
    | with_reducible exact hM
    | with_reducible exact Moves.refl ..
    | with_reducible refine Moves.set ?_ (B (by decide)) (by decide)
    | (refine Moves.getD ?_ (fun r hr => ?_))
    | with_reducible refine Moves.setSlot ?_ (O (by decide)) (P (by decide))
    | with_reducible refine Moves.foldl ?_ (fun d a => ?_)
    | with_reducible refine Moves.ite (fun _ => ?_) (fun _ => ?_)
    | with_reducible refine Moves.ite1 (fun _ => ?_) (fun _ => ?_)
    | split
    | dsimp only
    | refine Moves.fillSet (by assumption) ?_ (O (by decide)) (P (by decide))

def objs_scDone : Nat := 0x340000001c00000000000000000000000000000000000000000000000000000000000000000000000000000000e8020006606cf8031fe21ff3e4000000000000c7e00100028000000000000
def parts_scDone : Nat := 0x80078edbf9
theorem Moves.scDone {p : Nat} {f : Frame} (hM : Moves d₀ e₀ mo mp) (hO : Mask.le objs_scDone mo) (hP : Mask.le parts_scDone mp) :
    Moves d₀ (e₀.scDone p f) mo mp := by
  have O {a : Nat} (h : (a &&& objs_scDone == a) = true) := Mask.le_trans h hO
  have P {a : Nat} (h : (a &&& parts_scDone == a) = true) := Mask.le_trans h hP
  have B {k : Nat} (h : objs_scDone.testBit k = true) := Mask.bit h hO
  have S {k : Nat} (h : parts_scDone.testBit k = true) := Mask.bit h hP
  unfold Device.scDone
  try simp only
  repeat' first
    | with_reducible exact hM
    | with_reducible exact Moves.refl ..
    | with_reducible refine Moves.set ?_ (B (by decide)) (by decide)
    | with_reducible refine Moves.setSc ?_ (O (by decide)) (P (by decide))
    | with_reducible refine Moves.causeHealth ?_ (O (by decide)) (P (by decide))
    | with_reducible refine Moves.scSetSlot ?_ (O (by decide)) (P (by decide))
    | with_reducible refine Moves.syncWrite ?_ (O (by decide)) (P (by decide))
    | with_reducible refine Moves.seqMessage ?_ (O (by decide)) (P (by decide))
    | with_reducible refine Moves.run ?_ (O (by decide)) (P (by decide))
    | with_reducible refine Moves.foldl ?_ (fun d a => ?_)
    | with_reducible refine Moves.ite (fun _ => ?_) (fun _ => ?_)
    | with_reducible refine Moves.ite1 (fun _ => ?_) (fun _ => ?_)
    | split
    | dsimp only

def objs_scRefused : Nat := 0x340000001c000000000000000000000000000000000000000000000000000000000000000000000000000000000000000000000000080000000000000000000000c00000000000000000000
def parts_scRefused : Nat := 0x80000c02a1
theorem Moves.scRefused {p : Nat} {f : Frame} (hM : Moves d₀ e₀ mo mp) (hO : Mask.le objs_scRefused mo) (hP : Mask.le parts_scRefused mp) :
    Moves d₀ (e₀.scRefused p f) mo mp := by
  have O {a : Nat} (h : (a &&& objs_scRefused == a) = true) := Mask.le_trans h hO
  have P {a : Nat} (h : (a &&& parts_scRefused == a) = true) := Mask.le_trans h hP
  unfold Device.scRefused
  try simp only
  repeat' first
    | with_reducible exact hM
    | with_reducible exact Moves.refl ..
    | with_reducible refine Moves.scFail ?_ (O (by decide)) (P (by decide))
    | with_reducible refine Moves.ite (fun _ => ?_) (fun _ => ?_)
    | with_reducible refine Moves.ite1 (fun _ => ?_) (fun _ => ?_)
    | split
    | dsimp only


def objs_resetPlane : Nat := 0x7ffffffffffffffffffffffffffffffffffffffffffffffffffffffffffffffffffffffffffffffffffffffffffffffffffffffffffffffffffffffffffffffffffffffffffffffffffffff
def parts_resetPlane : Nat := 0xffffffffffffffff
theorem Moves.resetPlane {p : Nat} (hM : Moves d₀ e₀ mo mp) (hO : Mask.le objs_resetPlane mo) (hP : Mask.le parts_resetPlane mp) :
    Moves d₀ (e₀.resetPlane p) mo mp := by
  have O {a : Nat} (h : (a &&& objs_resetPlane == a) = true) := Mask.le_trans h hO
  have P {a : Nat} (h : (a &&& parts_resetPlane == a) = true) := Mask.le_trans h hP
  unfold Device.resetPlane
  try simp only
  repeat' first
    | with_reducible exact hM
    | with_reducible exact Moves.refl ..
    | with_reducible refine Moves.clearPlane ?_ (O (by decide)) (P (by decide))
    | with_reducible refine Moves.setStage ?_ (O (by decide)) (P (by decide))
    | with_reducible refine Moves.ite (fun _ => ?_) (fun _ => ?_)
    | with_reducible refine Moves.ite1 (fun _ => ?_) (fun _ => ?_)
    | split
    | dsimp only

def objs_allCleared : Nat := 0x7ffffffffffffffffffffffffffffffffffffffffffffffffffffffffffffffffffffffffffffffffffffffffffffffffffffffffffffffffffffffffffffffffffffffffffffffffffffff
def parts_allCleared : Nat := 0xffffffffffffffff
theorem Moves.allCleared {boot : Bool} (hM : Moves d₀ e₀ mo mp) (hO : Mask.le objs_allCleared mo) (hP : Mask.le parts_allCleared mp) :
    Moves d₀ (e₀.allCleared boot) mo mp := by
  have O {a : Nat} (h : (a &&& objs_allCleared == a) = true) := Mask.le_trans h hO
  have P {a : Nat} (h : (a &&& parts_allCleared == a) = true) := Mask.le_trans h hP
  have S {k : Nat} (h : parts_allCleared.testBit k = true) := Mask.bit h hP
  unfold Device.allCleared
  extract_lets h d1 d2
  have h1 : Moves d₀ d1 mo mp := hM.any (by rfl) hO hP
  clear_value d1
  have h2 : Moves d₀ d2 mo mp := h1.foldl (fun d a => Moves.setPlane (Moves.clearPlane (Moves.refl ..) hO hP) (Mask.le_trans (b := objs_all) (by decide) hO) (Mask.le_trans (b := parts_all) (by decide) hP))
  clear_value d2
  exact h2.any (by rfl) hO hP

def objs_poreset : Nat := 0x7ffffffffffffffffffffffffffffffffffffffffffffffffffffffffffffffffffffffffffffffffffffffffffffffffffffffffffffffffffffffffffffffffffffffffffffffffffffff
def parts_poreset : Nat := 0xffffffffffffffff
theorem Moves.poreset  (hM : Moves d₀ e₀ mo mp) (hO : Mask.le objs_poreset mo) (hP : Mask.le parts_poreset mp) :
    Moves d₀ (e₀.poreset ) mo mp := by
  have O {a : Nat} (h : (a &&& objs_poreset == a) = true) := Mask.le_trans h hO
  have P {a : Nat} (h : (a &&& parts_poreset == a) = true) := Mask.le_trans h hP
  have B {k : Nat} (h : objs_poreset.testBit k = true) := Mask.bit h hO
  have S {k : Nat} (h : parts_poreset.testBit k = true) := Mask.bit h hP
  unfold Device.poreset
  try simp only
  repeat' first
    | with_reducible exact hM
    | with_reducible exact Moves.refl ..
    | with_reducible refine Moves.set ?_ (B (by decide)) (by decide)
    | with_reducible refine Moves.journal ?_ (O (by decide)) (P (by decide))
    | with_reducible refine Moves.allCleared ?_ (O (by decide)) (P (by decide))
    | with_reducible refine Moves.ite (fun _ => ?_) (fun _ => ?_)
    | with_reducible refine Moves.ite1 (fun _ => ?_) (fun _ => ?_)
    | split
    | with_reducible refine Moves.with_hub ?_ (S (by decide))
    | dsimp only

def objs_refuseImage : Nat := 0x3400000000000000000000000000000000000000000000000000000000000000000000000000000000000000000000000000000000000000000000000000000000000000000000000000000
def parts_refuseImage : Nat := 0x2a0
theorem Moves.refuseImage {k : Nat} (hM : Moves d₀ e₀ mo mp) (hO : Mask.le objs_refuseImage mo) (hP : Mask.le parts_refuseImage mp) :
    Moves d₀ (e₀.refuseImage k) mo mp := by
  have O {a : Nat} (h : (a &&& objs_refuseImage == a) = true) := Mask.le_trans h hO
  have P {a : Nat} (h : (a &&& parts_refuseImage == a) = true) := Mask.le_trans h hP
  unfold Device.refuseImage
  try simp only
  repeat' first
    | with_reducible exact hM
    | with_reducible exact Moves.refl ..
    | with_reducible refine Moves.causeSecurity ?_ (O (by decide)) (P (by decide))
    | with_reducible refine Moves.ite (fun _ => ?_) (fun _ => ?_)
    | with_reducible refine Moves.ite1 (fun _ => ?_) (fun _ => ?_)
    | split
    | dsimp only

def objs_findJournal : Nat := 0x3400000000000000000000000010000000000000000000000000000000000000000000000000000000000000000000000000000000000000000000000000000000000000000000000000000
def parts_findJournal : Nat := 0x2a1
theorem Moves.findJournal  (hM : Moves d₀ e₀ mo mp) (hO : Mask.le objs_findJournal mo) (hP : Mask.le parts_findJournal mp) :
    Moves d₀ (e₀.findJournal ) mo mp := by
  have O {a : Nat} (h : (a &&& objs_findJournal == a) = true) := Mask.le_trans h hO
  have P {a : Nat} (h : (a &&& parts_findJournal == a) = true) := Mask.le_trans h hP
  have B {k : Nat} (h : objs_findJournal.testBit k = true) := Mask.bit h hO
  have S {k : Nat} (h : parts_findJournal.testBit k = true) := Mask.bit h hP
  unfold Device.findJournal
  try simp only
  repeat' first
    | with_reducible exact hM
    | with_reducible exact Moves.refl ..
    | with_reducible refine Moves.count ?_ (B (by decide)) (by decide) (S (by decide))
    | with_reducible refine Moves.causeJournal ?_ (O (by decide)) (P (by decide))
    | with_reducible refine Moves.ite (fun _ => ?_) (fun _ => ?_)
    | with_reducible refine Moves.ite1 (fun _ => ?_) (fun _ => ?_)
    | split
    | with_reducible refine Moves.with_hub ?_ (S (by decide))
    | dsimp only

def objs_releasePlane : Nat := 0x100000000000000000000000000000000100000000000000000000000000000000000000000000000000000000000000000000000000000000000000000000000000000000000000000002
def parts_releasePlane : Nat := 0x100
theorem Moves.releasePlane {p : Nat} (hM : Moves d₀ e₀ mo mp) (hO : Mask.le objs_releasePlane mo) (hP : Mask.le parts_releasePlane mp) :
    Moves d₀ (e₀.releasePlane p) mo mp := by
  have O {a : Nat} (h : (a &&& objs_releasePlane == a) = true) := Mask.le_trans h hO
  have P {a : Nat} (h : (a &&& parts_releasePlane == a) = true) := Mask.le_trans h hP
  unfold Device.releasePlane
  try simp only
  repeat' first
    | with_reducible exact hM
    | with_reducible exact Moves.refl ..
    | with_reducible refine Moves.setPlane ?_ (O (by decide)) (P (by decide))
    | with_reducible refine Moves.disablePlane ?_ (O (by decide)) (P (by decide))
    | with_reducible refine Moves.adoptRole ?_ (O (by decide)) (P (by decide))
    | with_reducible refine Moves.setStage ?_ (O (by decide)) (P (by decide))
    | with_reducible refine Moves.ite (fun _ => ?_) (fun _ => ?_)
    | with_reducible refine Moves.ite1 (fun _ => ?_) (fun _ => ?_)
    | split
    | dsimp only

def objs_hubStart : Nat := 0x7ffffffffffffffffffffffffffffffffffffffffffffffffffffffffffffffffffffffffffffffffffffffffffffffffffffffffffffffffffffffffffffffffffffffffffffffffffffff
def parts_hubStart : Nat := 0xffffffffffffffff
theorem Moves.hubStart {k : Nat} (hM : Moves d₀ e₀ mo mp) (hO : Mask.le objs_hubStart mo) (hP : Mask.le parts_hubStart mp) :
    Moves d₀ (e₀.hubStart k) mo mp := by
  have O {a : Nat} (h : (a &&& objs_hubStart == a) = true) := Mask.le_trans h hO
  have P {a : Nat} (h : (a &&& parts_hubStart == a) = true) := Mask.le_trans h hP
  have B {k : Nat} (h : objs_hubStart.testBit k = true) := Mask.bit h hO
  have S {k : Nat} (h : parts_hubStart.testBit k = true) := Mask.bit h hP
  unfold Device.hubStart
  try simp only
  repeat' first
    | with_reducible exact hM
    | with_reducible exact Moves.refl ..
    | with_reducible refine Moves.set ?_ (B (by decide)) (by decide)
    | with_reducible refine Moves.releasePlane ?_ (O (by decide)) (P (by decide))
    | with_reducible refine Moves.findJournal ?_ (O (by decide)) (P (by decide))
    | with_reducible refine Moves.loadJournal ?_ (O (by decide)) (P (by decide))
    | with_reducible refine Moves.foldl ?_ (fun d a => ?_)
    | with_reducible refine Moves.ite (fun _ => ?_) (fun _ => ?_)
    | with_reducible refine Moves.ite1 (fun _ => ?_) (fun _ => ?_)
    | split
    | with_reducible refine Moves.with_hub ?_ (S (by decide))
    | dsimp only

def objs_hubBoot : Nat := 0x7ffffffffffffffffffffffffffffffffffffffffffffffffffffffffffffffffffffffffffffffffffffffffffffffffffffffffffffffffffffffffffffffffffffffffffffffffffffff
def parts_hubBoot : Nat := 0xffffffffffffffff
theorem Moves.hubBoot  (hM : Moves d₀ e₀ mo mp) (hO : Mask.le objs_hubBoot mo) (hP : Mask.le parts_hubBoot mp) :
    Moves d₀ (e₀.hubBoot ) mo mp := by
  have O {a : Nat} (h : (a &&& objs_hubBoot == a) = true) := Mask.le_trans h hO
  have P {a : Nat} (h : (a &&& parts_hubBoot == a) = true) := Mask.le_trans h hP
  have S {k : Nat} (h : parts_hubBoot.testBit k = true) := Mask.bit h hP
  unfold Device.hubBoot
  try simp only
  repeat' first
    | with_reducible exact hM
    | with_reducible exact Moves.refl ..
    | with_reducible refine Moves.causeSecurity ?_ (O (by decide)) (P (by decide))
    | with_reducible refine Moves.hubStart ?_ (O (by decide)) (P (by decide))
    | with_reducible refine Moves.refuseImage ?_ (O (by decide)) (P (by decide))
    | with_reducible refine Moves.ite (fun _ => ?_) (fun _ => ?_)
    | with_reducible refine Moves.ite1 (fun _ => ?_) (fun _ => ?_)
    | split
    | with_reducible refine Moves.with_hub ?_ (S (by decide))
    | dsimp only

def objs_fwVerify : Nat := 0x340000420000000000000000002b800000000000000000000000000000000000000000000000000000000000000000000000000000000000000000000000000000000000000000000000000
def parts_fwVerify : Nat := 0x2a1
theorem Moves.fwVerify  (hM : Moves d₀ e₀ mo mp) (hO : Mask.le objs_fwVerify mo) (hP : Mask.le parts_fwVerify mp) :
    Moves d₀ (e₀.fwVerify ) mo mp := by
  have O {a : Nat} (h : (a &&& objs_fwVerify == a) = true) := Mask.le_trans h hO
  have P {a : Nat} (h : (a &&& parts_fwVerify == a) = true) := Mask.le_trans h hP
  have B {k : Nat} (h : objs_fwVerify.testBit k = true) := Mask.bit h hO
  have S {k : Nat} (h : parts_fwVerify.testBit k = true) := Mask.bit h hP
  unfold Device.fwVerify
  try simp only
  repeat' first
    | with_reducible exact hM
    | with_reducible exact Moves.refl ..
    | with_reducible refine Moves.set ?_ (B (by decide)) (by decide)
    | with_reducible refine Moves.causeSecurity ?_ (O (by decide)) (P (by decide))
    | with_reducible refine Moves.journal ?_ (O (by decide)) (P (by decide))
    | with_reducible refine Moves.ite (fun _ => ?_) (fun _ => ?_)
    | with_reducible refine Moves.ite1 (fun _ => ?_) (fun _ => ?_)
    | split
    | dsimp only

def objs_raiseFloor : Nat := 0x5000000000000000000000000000000000000000000000000000000000000000000000000000000000000000000000000000000000000000000000000000000000000000000000000
def parts_raiseFloor : Nat := 0x0
theorem Moves.raiseFloor  (hM : Moves d₀ e₀ mo mp) (hO : Mask.le objs_raiseFloor mo) (hP : Mask.le parts_raiseFloor mp) :
    Moves d₀ (e₀.raiseFloor ) mo mp := by
  have O {a : Nat} (h : (a &&& objs_raiseFloor == a) = true) := Mask.le_trans h hO
  have P {a : Nat} (h : (a &&& parts_raiseFloor == a) = true) := Mask.le_trans h hP
  have B {k : Nat} (h : objs_raiseFloor.testBit k = true) := Mask.bit h hO
  have S {k : Nat} (h : parts_raiseFloor.testBit k = true) := Mask.bit h hP
  unfold Device.raiseFloor
  try simp only
  repeat' first
    | with_reducible exact hM
    | with_reducible exact Moves.refl ..
    | with_reducible refine Moves.set ?_ (B (by decide)) (by decide)
    | with_reducible refine Moves.ite (fun _ => ?_) (fun _ => ?_)
    | with_reducible refine Moves.ite1 (fun _ => ?_) (fun _ => ?_)
    | split
    | dsimp only

theorem Moves.fwCommand {rq : Req} {v : Nat} {f : Device → Device} (hM : Moves d₀ e₀ mo mp) (hf : ∀ d, Moves d (f d) mo mp)
    (hO : Mask.le objs_request mo) (hP : Mask.le parts_request mp) : Moves d₀ (e₀.fwCommand rq v f) mo mp :=
  hM.requestIf (fun d => (Moves.refl ..).doWrite hf) hO hP

def objs_darken : Nat := 0x340000001c000000002000001000000000003000040000000801180a880000000000003e00208000015fb20002e8020006606cb80128021ff3e4000000000000c7e02103c7e800200001800
def parts_darken : Nat := 0x180ff9ffffb
theorem Moves.darken {p : Nat} {c : Cond} (hM : Moves d₀ e₀ mo mp) (hO : Mask.le objs_darken mo) (hP : Mask.le parts_darken mp) :
    Moves d₀ (e₀.darken p c) mo mp := by
  have O {a : Nat} (h : (a &&& objs_darken == a) = true) := Mask.le_trans h hO
  have P {a : Nat} (h : (a &&& parts_darken == a) = true) := Mask.le_trans h hP
  unfold Device.darken
  try simp only
  repeat' first
    | with_reducible exact hM
    | with_reducible exact Moves.refl ..
    | with_reducible refine Moves.emit ?_ (O (by decide)) (P (by decide))
    | with_reducible refine Moves.setPlane ?_ (O (by decide)) (P (by decide))
    | with_reducible refine Moves.snapAbsent ?_ (O (by decide)) (P (by decide))
    | with_reducible refine Moves.removeCircuits ?_ (O (by decide)) (P (by decide))
    | with_reducible refine Moves.goOof ?_ (O (by decide)) (P (by decide))
    | with_reducible refine Moves.leavePort ?_ (O (by decide)) (P (by decide))
    | with_reducible refine Moves.foldl ?_ (fun d a => ?_)
    | with_reducible refine Moves.ite (fun _ => ?_) (fun _ => ?_)
    | with_reducible refine Moves.ite1 (fun _ => ?_) (fun _ => ?_)
    | split
    | dsimp only

def objs_refclkLost : Nat := 0x341000001c000000002000001000000000003000040000000801180a880000000000003e00208000015fb20002e8020006606cb80128021ff3e4000000000000c7e02103c7e800200001800
def parts_refclkLost : Nat := 0x180ff9ffffb
theorem Moves.refclkLost {p : Nat} (hM : Moves d₀ e₀ mo mp) (hO : Mask.le objs_refclkLost mo) (hP : Mask.le parts_refclkLost mp) :
    Moves d₀ (e₀.refclkLost p) mo mp := by
  have O {a : Nat} (h : (a &&& objs_refclkLost == a) = true) := Mask.le_trans h hO
  have P {a : Nat} (h : (a &&& parts_refclkLost == a) = true) := Mask.le_trans h hP
  have B {k : Nat} (h : objs_refclkLost.testBit k = true) := Mask.bit h hO
  have S {k : Nat} (h : parts_refclkLost.testBit k = true) := Mask.bit h hP
  unfold Device.refclkLost
  try simp only
  repeat' first
    | with_reducible exact hM
    | with_reducible exact Moves.refl ..
    | with_reducible refine Moves.set ?_ (B (by decide)) (by decide)
    | with_reducible refine Moves.causePower ?_ (O (by decide)) (P (by decide))
    | with_reducible refine Moves.setPlane ?_ (O (by decide)) (P (by decide))
    | with_reducible refine Moves.darken ?_ (O (by decide)) (P (by decide))
    | with_reducible refine Moves.ite (fun _ => ?_) (fun _ => ?_)
    | with_reducible refine Moves.ite1 (fun _ => ?_) (fun _ => ?_)
    | split
    | dsimp only

def objs_refclkReturn : Nat := 0x7ffffffffffffffffffffffffffffffffffffffffffffffffffffffffffffffffffffffffffffffffffffffffffffffffffffffffffffffffffffffffffffffffffffffffffffffffffffff
def parts_refclkReturn : Nat := 0xffffffffffffffff
theorem Moves.refclkReturn {p : Nat} (hM : Moves d₀ e₀ mo mp) (hO : Mask.le objs_refclkReturn mo) (hP : Mask.le parts_refclkReturn mp) :
    Moves d₀ (e₀.refclkReturn p) mo mp := by
  have O {a : Nat} (h : (a &&& objs_refclkReturn == a) = true) := Mask.le_trans h hO
  have P {a : Nat} (h : (a &&& parts_refclkReturn == a) = true) := Mask.le_trans h hP
  have B {k : Nat} (h : objs_refclkReturn.testBit k = true) := Mask.bit h hO
  have S {k : Nat} (h : parts_refclkReturn.testBit k = true) := Mask.bit h hP
  unfold Device.refclkReturn
  try simp only
  repeat' first
    | with_reducible exact hM
    | with_reducible exact Moves.refl ..
    | with_reducible refine Moves.set ?_ (B (by decide)) (by decide)
    | with_reducible refine Moves.setPlane ?_ (O (by decide)) (P (by decide))
    | with_reducible refine Moves.resetPlane ?_ (O (by decide)) (P (by decide))
    | with_reducible refine Moves.ite (fun _ => ?_) (fun _ => ?_)
    | with_reducible refine Moves.ite1 (fun _ => ?_) (fun _ => ?_)
    | split
    | dsimp only

def objs_tripPlane : Nat := 0x340000001c000000002000001000000000003000040000000801180a880000000000003e00208000015fb20002e8020006606cb80128021ff3e4000000000000c7e02103c7e800200001800
def parts_tripPlane : Nat := 0x180ff9ffffb
theorem Moves.tripPlane {p : Nat} (hM : Moves d₀ e₀ mo mp) (hO : Mask.le objs_tripPlane mo) (hP : Mask.le parts_tripPlane mp) :
    Moves d₀ (e₀.tripPlane p) mo mp := by
  have O {a : Nat} (h : (a &&& objs_tripPlane == a) = true) := Mask.le_trans h hO
  have P {a : Nat} (h : (a &&& parts_tripPlane == a) = true) := Mask.le_trans h hP
  unfold Device.tripPlane
  try simp only
  repeat' first
    | with_reducible exact hM
    | with_reducible exact Moves.refl ..
    | with_reducible refine Moves.causeSwitch ?_ (O (by decide)) (P (by decide))
    | with_reducible refine Moves.setPlane ?_ (O (by decide)) (P (by decide))
    | with_reducible refine Moves.darken ?_ (O (by decide)) (P (by decide))
    | with_reducible refine Moves.ite (fun _ => ?_) (fun _ => ?_)
    | with_reducible refine Moves.ite1 (fun _ => ?_) (fun _ => ?_)
    | split
    | dsimp only

def objs_thermalTrip : Nat := 0x340000001c00000000200000102b800000003000040000000801180a880000000000003e00208000015fb20002e8020006606cb80128021ff3e4000000000000c7e02103c7e800200001800
def parts_thermalTrip : Nat := 0x180ff9ffffb
theorem Moves.thermalTrip  (hM : Moves d₀ e₀ mo mp) (hO : Mask.le objs_thermalTrip mo) (hP : Mask.le parts_thermalTrip mp) :
    Moves d₀ (e₀.thermalTrip ) mo mp := by
  have O {a : Nat} (h : (a &&& objs_thermalTrip == a) = true) := Mask.le_trans h hO
  have P {a : Nat} (h : (a &&& parts_thermalTrip == a) = true) := Mask.le_trans h hP
  have S {k : Nat} (h : parts_thermalTrip.testBit k = true) := Mask.bit h hP
  unfold Device.thermalTrip
  try simp only
  repeat' first
    | with_reducible exact hM
    | with_reducible exact Moves.refl ..
    | with_reducible refine Moves.journal ?_ (O (by decide)) (P (by decide))
    | with_reducible refine Moves.tripPlane ?_ (O (by decide)) (P (by decide))
    | with_reducible refine Moves.foldl ?_ (fun d a => ?_)
    | with_reducible refine Moves.ite (fun _ => ?_) (fun _ => ?_)
    | with_reducible refine Moves.ite1 (fun _ => ?_) (fun _ => ?_)
    | split
    | with_reducible refine Moves.with_hub ?_ (S (by decide))
    | dsimp only

def objs_avsUpdate : Nat := 0x3400080000000000000000000000000000000000000000000000000000000000000000000000000000000000000000000000000000000000000000000000000000000000000000000000000
def parts_avsUpdate : Nat := 0x2a0
theorem Moves.avsUpdate {busOk : Bool} (hM : Moves d₀ e₀ mo mp) (hO : Mask.le objs_avsUpdate mo) (hP : Mask.le parts_avsUpdate mp) :
    Moves d₀ (e₀.avsUpdate busOk) mo mp := by
  have O {a : Nat} (h : (a &&& objs_avsUpdate == a) = true) := Mask.le_trans h hO
  have P {a : Nat} (h : (a &&& parts_avsUpdate == a) = true) := Mask.le_trans h hP
  have B {k : Nat} (h : objs_avsUpdate.testBit k = true) := Mask.bit h hO
  have S {k : Nat} (h : parts_avsUpdate.testBit k = true) := Mask.bit h hP
  unfold Device.avsUpdate
  try simp only
  repeat' first
    | with_reducible exact hM
    | with_reducible exact Moves.refl ..
    | with_reducible refine Moves.set ?_ (B (by decide)) (by decide)
    | with_reducible refine Moves.causePower ?_ (O (by decide)) (P (by decide))
    | with_reducible refine Moves.ite (fun _ => ?_) (fun _ => ?_)
    | with_reducible refine Moves.ite1 (fun _ => ?_) (fun _ => ?_)
    | split
    | with_reducible refine Moves.with_hub ?_ (S (by decide))
    | dsimp only

def objs_railRead : Nat := 0x340b000000000000000000000000000000000000000000000000000000000000000000000000000000000000000000000000000000000000000000000000000000000000000000000000000
def parts_railRead : Nat := 0x2a1
theorem Moves.railRead {r : Nat} {x : RailReading} (hM : Moves d₀ e₀ mo mp) (hO : Mask.le objs_railRead mo) (hP : Mask.le parts_railRead mp) :
    Moves d₀ (e₀.railRead r x) mo mp := by
  have O {a : Nat} (h : (a &&& objs_railRead == a) = true) := Mask.le_trans h hO
  have P {a : Nat} (h : (a &&& parts_railRead == a) = true) := Mask.le_trans h hP
  have B {k : Nat} (h : objs_railRead.testBit k = true) := Mask.bit h hO
  have S {k : Nat} (h : parts_railRead.testBit k = true) := Mask.bit h hP
  unfold Device.railRead
  try simp only
  repeat' first
    | with_reducible exact hM
    | with_reducible exact Moves.refl ..
    | with_reducible refine Moves.set ?_ (B (by decide)) (by decide)
    | with_reducible refine Moves.bump ?_ (B (by decide)) (by decide) (S (by decide))
    | with_reducible refine Moves.causePower ?_ (O (by decide)) (P (by decide))
    | with_reducible refine Moves.ite (fun _ => ?_) (fun _ => ?_)
    | with_reducible refine Moves.ite1 (fun _ => ?_) (fun _ => ?_)
    | split
    | dsimp only

def objs_pmbusPoll : Nat := 0x340b010000000000000000000000000000000000000000000000000000000000000000000000000000000000000000000000000000000000000000000000000000000000000000000000000
def parts_pmbusPoll : Nat := 0x2a1
theorem Moves.pmbusPoll {l : List RailReading} (hM : Moves d₀ e₀ mo mp) (hO : Mask.le objs_pmbusPoll mo) (hP : Mask.le parts_pmbusPoll mp) :
    Moves d₀ (e₀.pmbusPoll l) mo mp := by
  have O {a : Nat} (h : (a &&& objs_pmbusPoll == a) = true) := Mask.le_trans h hO
  have P {a : Nat} (h : (a &&& parts_pmbusPoll == a) = true) := Mask.le_trans h hP
  have B {k : Nat} (h : objs_pmbusPoll.testBit k = true) := Mask.bit h hO
  have S {k : Nat} (h : parts_pmbusPoll.testBit k = true) := Mask.bit h hP
  unfold Device.pmbusPoll
  try simp only
  repeat' first
    | with_reducible exact hM
    | with_reducible exact Moves.refl ..
    | with_reducible refine Moves.set ?_ (B (by decide)) (by decide)
    | with_reducible refine Moves.railRead ?_ (O (by decide)) (P (by decide))
    | with_reducible refine Moves.foldl ?_ (fun d a => ?_)
    | with_reducible refine Moves.ite (fun _ => ?_) (fun _ => ?_)
    | with_reducible refine Moves.ite1 (fun _ => ?_) (fun _ => ?_)
    | split
    | dsimp only

def objs_operatingPoint : Nat := 0x3404240000000000000000000000000000000000000000000000000000000000000000000000000000000000000000000000000000000000000000000000000000000000000000000000000
def parts_operatingPoint : Nat := 0x2a1
theorem Moves.operatingPoint {tj : Int} (hM : Moves d₀ e₀ mo mp) (hO : Mask.le objs_operatingPoint mo) (hP : Mask.le parts_operatingPoint mp) :
    Moves d₀ (e₀.operatingPoint tj) mo mp := by
  have O {a : Nat} (h : (a &&& objs_operatingPoint == a) = true) := Mask.le_trans h hO
  have P {a : Nat} (h : (a &&& parts_operatingPoint == a) = true) := Mask.le_trans h hP
  have B {k : Nat} (h : objs_operatingPoint.testBit k = true) := Mask.bit h hO
  have S {k : Nat} (h : parts_operatingPoint.testBit k = true) := Mask.bit h hP
  unfold Device.operatingPoint
  try simp only
  repeat' first
    | with_reducible exact hM
    | with_reducible exact Moves.refl ..
    | with_reducible refine Moves.set ?_ (B (by decide)) (by decide)
    | with_reducible refine Moves.bump ?_ (B (by decide)) (by decide) (S (by decide))
    | with_reducible refine Moves.causePower ?_ (O (by decide)) (P (by decide))
    | with_reducible refine Moves.ite (fun _ => ?_) (fun _ => ?_)
    | with_reducible refine Moves.ite1 (fun _ => ?_) (fun _ => ?_)
    | split
    | dsimp only

def objs_chipletHot : Nat := 0x340000001c000000002000000000000000000000000000000001381a88000000000000000000000000000000000000000000000000080000000000000000000000c00000040000200001800
def parts_chipletHot : Nat := 0x80181c1fa1
theorem Moves.chipletHot {p c : Nat} (hM : Moves d₀ e₀ mo mp) (hO : Mask.le objs_chipletHot mo) (hP : Mask.le parts_chipletHot mp) :
    Moves d₀ (e₀.chipletHot p c) mo mp := by
  have O {a : Nat} (h : (a &&& objs_chipletHot == a) = true) := Mask.le_trans h hO
  have P {a : Nat} (h : (a &&& parts_chipletHot == a) = true) := Mask.le_trans h hP
  have B {k : Nat} (h : objs_chipletHot.testBit k = true) := Mask.bit h hO
  have S {k : Nat} (h : parts_chipletHot.testBit k = true) := Mask.bit h hP
  unfold Device.chipletHot
  try simp only
  repeat' first
    | with_reducible exact hM
    | with_reducible exact Moves.refl ..
    | with_reducible refine Moves.set ?_ (B (by decide)) (by decide)
    | with_reducible refine Moves.setPort ?_ (O (by decide)) (P (by decide))
    | with_reducible refine Moves.setHeater ?_ (O (by decide)) (P (by decide))
    | with_reducible refine Moves.holdPort ?_ (O (by decide)) (P (by decide))
    | with_reducible refine Moves.calAbort ?_ (O (by decide)) (P (by decide))
    | with_reducible refine Moves.foldl ?_ (fun d a => ?_)
    | with_reducible refine Moves.ite (fun _ => ?_) (fun _ => ?_)
    | with_reducible refine Moves.ite1 (fun _ => ?_) (fun _ => ?_)
    | split
    | dsimp only

def objs_chipletCool : Nat := 0x0
def parts_chipletCool : Nat := 0x10000400
theorem Moves.chipletCool {p c : Nat} (hM : Moves d₀ e₀ mo mp) (hO : Mask.le objs_chipletCool mo) (hP : Mask.le parts_chipletCool mp) :
    Moves d₀ (e₀.chipletCool p c) mo mp := by
  have O {a : Nat} (h : (a &&& objs_chipletCool == a) = true) := Mask.le_trans h hO
  have P {a : Nat} (h : (a &&& parts_chipletCool == a) = true) := Mask.le_trans h hP
  unfold Device.chipletCool
  try simp only
  repeat' first
    | with_reducible exact hM
    | with_reducible exact Moves.refl ..
    | with_reducible refine Moves.makeDue ?_ (O (by decide)) (P (by decide))
    | with_reducible refine Moves.unholdPort ?_ (O (by decide)) (P (by decide))
    | with_reducible refine Moves.foldl ?_ (fun d a => ?_)
    | with_reducible refine Moves.ite (fun _ => ?_) (fun _ => ?_)
    | with_reducible refine Moves.ite1 (fun _ => ?_) (fun _ => ?_)
    | split
    | dsimp only

def objs_chipletTemperature : Nat := 0x340040001c000000002000000000000000000000000000000001381a88000000000000000000000000000000000000000000000000080000000000000000000000c00000040000200001800
def parts_chipletTemperature : Nat := 0x80181c1fa1
theorem Moves.chipletTemperature {p c : Nat} {t : Int} (hM : Moves d₀ e₀ mo mp) (hO : Mask.le objs_chipletTemperature mo) (hP : Mask.le parts_chipletTemperature mp) :
    Moves d₀ (e₀.chipletTemperature p c t) mo mp := by
  have O {a : Nat} (h : (a &&& objs_chipletTemperature == a) = true) := Mask.le_trans h hO
  have P {a : Nat} (h : (a &&& parts_chipletTemperature == a) = true) := Mask.le_trans h hP
  have B {k : Nat} (h : objs_chipletTemperature.testBit k = true) := Mask.bit h hO
  have S {k : Nat} (h : parts_chipletTemperature.testBit k = true) := Mask.bit h hP
  unfold Device.chipletTemperature
  try simp only
  repeat' first
    | with_reducible exact hM
    | with_reducible exact Moves.refl ..
    | with_reducible refine Moves.set ?_ (B (by decide)) (by decide)
    | with_reducible refine Moves.causePower ?_ (O (by decide)) (P (by decide))
    | with_reducible refine Moves.chipletCool ?_ (O (by decide)) (P (by decide))
    | with_reducible refine Moves.chipletHot ?_ (O (by decide)) (P (by decide))
    | with_reducible refine Moves.ite (fun _ => ?_) (fun _ => ?_)
    | with_reducible refine Moves.ite1 (fun _ => ?_) (fun _ => ?_)
    | split
    | dsimp only

def objs_supplyCollapse : Nat := 0x7ffffffffffffffffffffffffffffffffffffffffffffffffffffffffffffffffffffffffffffffffffffffffffffffffffffffffffffffffffffffffffffffffffffffffffffffffffffff
def parts_supplyCollapse : Nat := 0xffffffffffffffff
theorem Moves.supplyCollapse {at_ : JournalStep} (hM : Moves d₀ e₀ mo mp) (hO : Mask.le objs_supplyCollapse mo) (hP : Mask.le parts_supplyCollapse mp) :
    Moves d₀ (e₀.supplyCollapse at_) mo mp := by
  have O {a : Nat} (h : (a &&& objs_supplyCollapse == a) = true) := Mask.le_trans h hO
  have P {a : Nat} (h : (a &&& parts_supplyCollapse == a) = true) := Mask.le_trans h hP
  unfold Device.supplyCollapse
  try simp only
  repeat' first
    | with_reducible exact hM
    | with_reducible exact Moves.refl ..
    | with_reducible refine Moves.compact ?_ (O (by decide)) (P (by decide))
    | with_reducible refine Moves.fresh ?_ (O (by decide)) (P (by decide))
    | with_reducible refine Moves.tornRecords ?_ (O (by decide)) (P (by decide))
    | with_reducible refine Moves.allCleared ?_ (O (by decide)) (P (by decide))
    | split
    | dsimp only


def objs_staged : Nat := 0x40000000000000000000000000000000000000000000000000000
def parts_staged : Nat := 0x0
theorem Moves.staged {p ses : Nat} (hM : Moves d₀ e₀ mo mp) (hO : Mask.le objs_staged mo) (hP : Mask.le parts_staged mp) :
    Moves d₀ (e₀.staged p ses) mo mp := by
  have O {a : Nat} (h : (a &&& objs_staged == a) = true) := Mask.le_trans h hO
  have P {a : Nat} (h : (a &&& parts_staged == a) = true) := Mask.le_trans h hP
  have B {k : Nat} (h : objs_staged.testBit k = true) := Mask.bit h hO
  have S {k : Nat} (h : parts_staged.testBit k = true) := Mask.bit h hP
  unfold Device.staged
  try simp only
  repeat' first
    | with_reducible exact hM
    | with_reducible exact Moves.refl ..
    | with_reducible refine Moves.set ?_ (B (by decide)) (by decide)
    | with_reducible refine Moves.ite (fun _ => ?_) (fun _ => ?_)
    | with_reducible refine Moves.ite1 (fun _ => ?_) (fun _ => ?_)
    | split
    | dsimp only

def objs_writeEffect : Nat := 0x7ffffffffffffffffffffffffffffffffffffffffffffffffffffffffffffffffffffffffffffffffffffffffffffffffffffffffffffffffffffffffffffffffffffffffffffffffffffff
def parts_writeEffect : Nat := 0xffffffffffffffff
theorem Moves.writeEffect {t : Target} {ses v : Nat} (hM : Moves d₀ e₀ mo mp) (hO : Mask.le objs_writeEffect mo) (hP : Mask.le parts_writeEffect mp) :
    Moves d₀ (e₀.writeEffect t ses v).1 mo mp := by
  have O {a : Nat} (h : (a &&& objs_writeEffect == a) = true) := Mask.le_trans h hO
  have P {a : Nat} (h : (a &&& parts_writeEffect == a) = true) := Mask.le_trans h hP
  have B {k : Nat} (h : objs_writeEffect.testBit k = true) := Mask.bit h hO
  unfold Device.writeEffect
  extract_lets q r
  have hr : Moves d₀ r.1 mo mp := by
    unfold r Device.store
    split
    · extract_lets j
      have hj : Moves d₀ j.1 mo mp := hM.journal (O (by decide)) (P (by decide))
      clear_value j
      split
      · exact hj.any (by rfl) (O (by decide)) (P (by decide))
      · exact hj
    · exact hM.any (by rfl) (O (by decide)) (P (by decide))
  clear_value r
  split
  · exact hr
  · split
    · exact hr.wlRefresh (O (by decide)) (P (by decide))
    · exact hr.redundantSet (O (by decide)) (P (by decide))
    · exact Moves.ite1 (fun _ => hr) (fun _ => hM)
    · exact Moves.ite (fun _ => hr.spoolFreed (O (by decide)) (P (by decide))) (fun _ => hr)
    · exact hr.staged (O (by decide)) (P (by decide))
    · exact hr.staged (O (by decide)) (P (by decide))
    · exact hr

def objs_lockNow : Nat := 0x340000000000000000000000002be00000000000000000000000000000000000000000000000000000000000000000000000000000000000000000000000000000000000000000000000000
def parts_lockNow : Nat := 0x2a1
theorem Moves.lockNow  (hM : Moves d₀ e₀ mo mp) (hO : Mask.le objs_lockNow mo) (hP : Mask.le parts_lockNow mp) :
    Moves d₀ (e₀.lockNow ) mo mp := by
  have O {a : Nat} (h : (a &&& objs_lockNow == a) = true) := Mask.le_trans h hO
  have P {a : Nat} (h : (a &&& parts_lockNow == a) = true) := Mask.le_trans h hP
  have B {k : Nat} (h : objs_lockNow.testBit k = true) := Mask.bit h hO
  have S {k : Nat} (h : parts_lockNow.testBit k = true) := Mask.bit h hP
  unfold Device.lockNow
  try simp only
  repeat' first
    | with_reducible exact hM
    | with_reducible exact Moves.refl ..
    | with_reducible refine Moves.set ?_ (B (by decide)) (by decide)
    | with_reducible refine Moves.causeSecurity ?_ (O (by decide)) (P (by decide))
    | with_reducible refine Moves.journal ?_ (O (by decide)) (P (by decide))
    | with_reducible refine Moves.ite (fun _ => ?_) (fun _ => ?_)
    | with_reducible refine Moves.ite1 (fun _ => ?_) (fun _ => ?_)
    | split
    | dsimp only

theorem Moves.requestAt {rq : Req} {idx sub : Nat} {f : Device → Device × Resp} (hM : Moves d₀ e₀ mo mp) (hf : ∀ d, Moves d (f d).1 mo mp)
    (hO : Mask.le objs_request mo) (hP : Mask.le parts_request mp) : Moves d₀ (e₀.requestAt rq idx sub f) mo mp := by
  unfold Device.requestAt
  split
  · exact hM.requestIf hf hO hP
  · exact hM.request hf hO hP


def objs_dropXfer : Nat := 0x1000000000000000000000000000000000000000000000000000000000000000000000000000000000000000000000000000000000000000000000000
def parts_dropXfer : Nat := 0x201
theorem Moves.dropXfer {ses : Nat} (hM : Moves d₀ e₀ mo mp) (hO : Mask.le objs_dropXfer mo) (hP : Mask.le parts_dropXfer mp) :
    Moves d₀ (e₀.dropXfer ses) mo mp := by
  have O {a : Nat} (h : (a &&& objs_dropXfer == a) = true) := Mask.le_trans h hO
  have P {a : Nat} (h : (a &&& parts_dropXfer == a) = true) := Mask.le_trans h hP
  have B {k : Nat} (h : objs_dropXfer.testBit k = true) := Mask.bit h hO
  have S {k : Nat} (h : parts_dropXfer.testBit k = true) := Mask.bit h hP
  unfold Device.dropXfer
  try simp only
  repeat' first
    | with_reducible exact hM
    | with_reducible exact Moves.refl ..
    | with_reducible refine Moves.bump ?_ (B (by decide)) (by decide) (S (by decide))
    | with_reducible refine Moves.setSession ?_ (O (by decide)) (P (by decide))
    | with_reducible refine Moves.ite (fun _ => ?_) (fun _ => ?_)
    | with_reducible refine Moves.ite1 (fun _ => ?_) (fun _ => ?_)
    | split
    | dsimp only

def objs_endSession : Nat := 0x1000000000000000000000000000000000000000000000000000000000000000000000000000000000000000000000000000000000000000000000000
def parts_endSession : Nat := 0x201
theorem Moves.endSession {ses : Nat} (hM : Moves d₀ e₀ mo mp) (hO : Mask.le objs_endSession mo) (hP : Mask.le parts_endSession mp) :
    Moves d₀ (e₀.endSession ses) mo mp := by
  have O {a : Nat} (h : (a &&& objs_endSession == a) = true) := Mask.le_trans h hO
  have P {a : Nat} (h : (a &&& parts_endSession == a) = true) := Mask.le_trans h hP
  unfold Device.endSession
  try simp only
  repeat' first
    | with_reducible exact hM
    | with_reducible exact Moves.refl ..
    | with_reducible refine Moves.setSession ?_ (O (by decide)) (P (by decide))
    | with_reducible refine Moves.dropXfer ?_ (O (by decide)) (P (by decide))
    | with_reducible refine Moves.ite (fun _ => ?_) (fun _ => ?_)
    | with_reducible refine Moves.ite1 (fun _ => ?_) (fun _ => ?_)
    | split
    | dsimp only

def objs_openSession : Nat := 0x7ffffffffffffffffffffffffffffffffffffffffffffffffffffffffffffffffffffffffffffffffffffffffffffffffffffffffffffffffffffffffffffffffffffffffffffffffffffff
def parts_openSession : Nat := 0xffffffffffffffff
theorem Moves.openSession {ses port fp : Nat} (hM : Moves d₀ e₀ mo mp) (hO : Mask.le objs_openSession mo) (hP : Mask.le parts_openSession mp) :
    Moves d₀ (e₀.openSession ses port fp) mo mp := by
  have O {a : Nat} (h : (a &&& objs_openSession == a) = true) := Mask.le_trans h hO
  have P {a : Nat} (h : (a &&& parts_openSession == a) = true) := Mask.le_trans h hP
  exact hM.any rfl hO hP

def objs_handshake : Nat := 0x7ffffffffffffffffffffffffffffffffffffffffffffffffffffffffffffffffffffffffffffffffffffffffffffffffffffffffffffffffffffffffffffffffffffffffffffffffffffff
def parts_handshake : Nat := 0xffffffffffffffff
theorem Moves.handshake {mport fp : Nat} {chainOk : Bool} (hM : Moves d₀ e₀ mo mp) (hO : Mask.le objs_handshake mo) (hP : Mask.le parts_handshake mp) :
    Moves d₀ (e₀.handshake mport fp chainOk) mo mp := by
  have O {a : Nat} (h : (a &&& objs_handshake == a) = true) := Mask.le_trans h hO
  have P {a : Nat} (h : (a &&& parts_handshake == a) = true) := Mask.le_trans h hP
  have B {k : Nat} (h : objs_handshake.testBit k = true) := Mask.bit h hO
  have S {k : Nat} (h : parts_handshake.testBit k = true) := Mask.bit h hP
  unfold Device.handshake
  try simp only
  repeat' first
    | with_reducible exact hM
    | with_reducible exact Moves.refl ..
    | with_reducible refine Moves.bump ?_ (B (by decide)) (by decide) (S (by decide))
    | with_reducible refine Moves.causeSecurity ?_ (O (by decide)) (P (by decide))
    | with_reducible refine Moves.openSession ?_ (O (by decide)) (P (by decide))
    | with_reducible refine Moves.ite (fun _ => ?_) (fun _ => ?_)
    | with_reducible refine Moves.ite1 (fun _ => ?_) (fun _ => ?_)
    | split
    | dsimp only

def objs_mgmtDown : Nat := 0x3400000000000000000000000000001008000000000000000000000000000000000000000000000000000000000000000000000000000000000000000000000000000000000000000000000
def parts_mgmtDown : Nat := 0x2a1
theorem Moves.mgmtDown {mport : Nat} (hM : Moves d₀ e₀ mo mp) (hO : Mask.le objs_mgmtDown mo) (hP : Mask.le parts_mgmtDown mp) :
    Moves d₀ (e₀.mgmtDown mport) mo mp := by
  have O {a : Nat} (h : (a &&& objs_mgmtDown == a) = true) := Mask.le_trans h hO
  have P {a : Nat} (h : (a &&& parts_mgmtDown == a) = true) := Mask.le_trans h hP
  have B {k : Nat} (h : objs_mgmtDown.testBit k = true) := Mask.bit h hO
  have S {k : Nat} (h : parts_mgmtDown.testBit k = true) := Mask.bit h hP
  unfold Device.mgmtDown
  try simp only
  repeat' first
    | with_reducible exact hM
    | with_reducible exact Moves.refl ..
    | with_reducible refine Moves.set ?_ (B (by decide)) (by decide)
    | with_reducible refine Moves.causeHub ?_ (O (by decide)) (P (by decide))
    | with_reducible refine Moves.endSession ?_ (O (by decide)) (P (by decide))
    | with_reducible refine Moves.foldl ?_ (fun d a => ?_)
    | with_reducible refine Moves.ite (fun _ => ?_) (fun _ => ?_)
    | with_reducible refine Moves.ite1 (fun _ => ?_) (fun _ => ?_)
    | split
    | dsimp only

def objs_readReq : Nat := 0x0
def parts_readReq : Nat := 0x0
theorem Moves.readReq {rq : Req} {idx sub : Nat} (hM : Moves d₀ e₀ mo mp) (hO : Mask.le objs_readReq mo) (hP : Mask.le parts_readReq mp) :
    Moves d₀ (e₀.readReq rq idx sub).1 mo mp := by
  have O {a : Nat} (h : (a &&& objs_readReq == a) = true) := Mask.le_trans h hO
  have P {a : Nat} (h : (a &&& parts_readReq == a) = true) := Mask.le_trans h hP
  unfold Device.readReq
  try simp only
  repeat' first
    | with_reducible exact hM
    | with_reducible exact Moves.refl ..
    | with_reducible refine Moves.ite (fun _ => ?_) (fun _ => ?_)
    | with_reducible refine Moves.ite1 (fun _ => ?_) (fun _ => ?_)
    | split
    | dsimp only

def objs_readClearReq : Nat := 0x7ffffffffffffffffffffffffffffffffffffffffffffffffffffffffffffffffffffffffffffffffffffffffffffffffffffffffffffffffffffffffffffffffffffffffffffffffffffff
def parts_readClearReq : Nat := 0xffffffffffffffff
theorem Moves.readClearReq {rq : Req} {idx sub : Nat} (hM : Moves d₀ e₀ mo mp) (hO : Mask.le objs_readClearReq mo) (hP : Mask.le parts_readClearReq mp) :
    Moves d₀ (e₀.readClearReq rq idx sub).1 mo mp := by
  have O {a : Nat} (h : (a &&& objs_readClearReq == a) = true) := Mask.le_trans h hO
  have P {a : Nat} (h : (a &&& parts_readClearReq == a) = true) := Mask.le_trans h hP
  have B {k : Nat} (h : objs_readClearReq.testBit k = true) := Mask.bit h hO
  have S {k : Nat} (h : parts_readClearReq.testBit k = true) := Mask.bit h hP
  unfold Device.readClearReq
  try simp only
  repeat' first
    | with_reducible exact hM
    | with_reducible exact Moves.refl ..
    | refine Moves.setAny ?_ (B (Mask.all _)) (S (by decide))
    | with_reducible refine Moves.ite (fun _ => ?_) (fun _ => ?_)
    | with_reducible refine Moves.ite1 (fun _ => ?_) (fun _ => ?_)
    | split
    | with_reducible refine Moves.with_sat ?_ (S (by decide))
    | dsimp only

def objs_domainStart : Nat := 0x0
def parts_domainStart : Nat := 0x200
theorem Moves.domainStart {rq : Req} {idx sub : Nat} {w : Bool} {total_ crc : Nat} (hM : Moves d₀ e₀ mo mp) (hO : Mask.le objs_domainStart mo) (hP : Mask.le parts_domainStart mp) :
    Moves d₀ (e₀.domainStart rq idx sub w total_ crc).1 mo mp := by
  have O {a : Nat} (h : (a &&& objs_domainStart == a) = true) := Mask.le_trans h hO
  have P {a : Nat} (h : (a &&& parts_domainStart == a) = true) := Mask.le_trans h hP
  unfold Device.domainStart
  try simp only
  repeat' first
    | with_reducible exact hM
    | with_reducible exact Moves.refl ..
    | with_reducible refine Moves.setSession ?_ (O (by decide)) (P (by decide))
    | with_reducible refine Moves.ite (fun _ => ?_) (fun _ => ?_)
    | with_reducible refine Moves.ite1 (fun _ => ?_) (fun _ => ?_)
    | split
    | dsimp only

def objs_domainReadSeg : Nat := 0x0
def parts_domainReadSeg : Nat := 0x0
theorem Moves.domainReadSeg {rq : Req} {idx sub seg : Nat} (hM : Moves d₀ e₀ mo mp) (hO : Mask.le objs_domainReadSeg mo) (hP : Mask.le parts_domainReadSeg mp) :
    Moves d₀ (e₀.domainReadSeg rq idx sub seg).1 mo mp := by
  have O {a : Nat} (h : (a &&& objs_domainReadSeg == a) = true) := Mask.le_trans h hO
  have P {a : Nat} (h : (a &&& parts_domainReadSeg == a) = true) := Mask.le_trans h hP
  unfold Device.domainReadSeg
  try simp only
  repeat' first
    | with_reducible exact hM
    | with_reducible exact Moves.refl ..
    | with_reducible refine Moves.ite (fun _ => ?_) (fun _ => ?_)
    | with_reducible refine Moves.ite1 (fun _ => ?_) (fun _ => ?_)
    | split
    | dsimp only

def objs_domainApply : Nat := 0x340000000000000000000000002b800000000000000000000000000000000000000000000000000000000000000000000000000000000000000000000000000000000000000000000000000
def parts_domainApply : Nat := 0x2a3
theorem Moves.domainApply {o : Obj} {v : Bytes} (hM : Moves d₀ e₀ mo mp) (hO : Mask.le objs_domainApply mo) (hP : Mask.le parts_domainApply mp) :
    Moves d₀ (e₀.domainApply o v).1 mo mp := by
  have O {a : Nat} (h : (a &&& objs_domainApply == a) = true) := Mask.le_trans h hO
  have P {a : Nat} (h : (a &&& parts_domainApply == a) = true) := Mask.le_trans h hP
  have S {k : Nat} (h : parts_domainApply.testBit k = true) := Mask.bit h hP
  unfold Device.domainApply
  try simp only
  repeat' first
    | with_reducible exact hM
    | with_reducible exact Moves.refl ..
    | with_reducible refine Moves.setDomain ?_ (O (by decide)) (P (by decide))
    | with_reducible refine Moves.journal ?_ (O (by decide)) (P (by decide))
    | with_reducible refine Moves.ite (fun _ => ?_) (fun _ => ?_)
    | with_reducible refine Moves.ite1 (fun _ => ?_) (fun _ => ?_)
    | split
    | with_reducible refine Moves.with_hub ?_ (S (by decide))
    | dsimp only

def objs_domainWriteSeg : Nat := 0x340000000000000000000000002b800000000000000000000000000000000000000000000000000000000000000000000000000000000000000000000000000000000000000000000000000
def parts_domainWriteSeg : Nat := 0x2a3
theorem Moves.domainWriteSeg {rq : Req} {idx sub seg : Nat} {v : Bytes} (hM : Moves d₀ e₀ mo mp) (hO : Mask.le objs_domainWriteSeg mo) (hP : Mask.le parts_domainWriteSeg mp) :
    Moves d₀ (e₀.domainWriteSeg rq idx sub seg v).1 mo mp := by
  have O {a : Nat} (h : (a &&& objs_domainWriteSeg == a) = true) := Mask.le_trans h hO
  have P {a : Nat} (h : (a &&& parts_domainWriteSeg == a) = true) := Mask.le_trans h hP
  unfold Device.domainWriteSeg
  try simp only
  repeat' first
    | with_reducible exact hM
    | with_reducible exact Moves.refl ..
    | with_reducible refine Moves.setSession ?_ (O (by decide)) (P (by decide))
    | with_reducible refine Moves.domainApply ?_ (O (by decide)) (P (by decide))
    | with_reducible refine Moves.ite (fun _ => ?_) (fun _ => ?_)
    | with_reducible refine Moves.ite1 (fun _ => ?_) (fun _ => ?_)
    | split
    | dsimp only

def objs_domainAbort : Nat := 0x0
def parts_domainAbort : Nat := 0x200
theorem Moves.domainAbort {rq : Req} {idx sub : Nat} (hM : Moves d₀ e₀ mo mp) (hO : Mask.le objs_domainAbort mo) (hP : Mask.le parts_domainAbort mp) :
    Moves d₀ (e₀.domainAbort rq idx sub).1 mo mp := by
  have O {a : Nat} (h : (a &&& objs_domainAbort == a) = true) := Mask.le_trans h hO
  have P {a : Nat} (h : (a &&& parts_domainAbort == a) = true) := Mask.le_trans h hP
  unfold Device.domainAbort
  try simp only
  repeat' first
    | with_reducible exact hM
    | with_reducible exact Moves.refl ..
    | with_reducible refine Moves.setSession ?_ (O (by decide)) (P (by decide))
    | with_reducible refine Moves.ite (fun _ => ?_) (fun _ => ?_)
    | with_reducible refine Moves.ite1 (fun _ => ?_) (fun _ => ?_)
    | split
    | dsimp only


end Sys2Proof.Machine
end

