-- ==== Sys2Proof/Laws/MovesCommands.lean ====
section
/-! SUPPORT. What each command can change: one lemma each. -/

namespace Sys2Proof.Machine

set_option linter.unusedSimpArgs false
set_option linter.unreachableTactic false
set_option linter.unusedTactic false
set_option linter.unusedVariables false
set_option linter.unnecessarySeqFocus false

variable {d₀ e₀ : Device} {mo mp : Nat} {s₀ t₁ : State}

theorem Moves.cmdRun {f : Device → Device} (h : s₀.run f = .next t₁) (hf : ∀ d, Moves d (f d) mo mp)
    (hO : Mask.le objs_settle mo) (hP : Mask.le parts_settle mp) : Moves s₀.dev t₁.dev mo mp := by
  unfold State.run at h
  injection h with h
  subst h
  exact (hf s₀.dev).settle hO hP

theorem Moves.cmdRunOn {p : Nat} {f : Device → Device} (h : s₀.runOn p f = .next t₁) (hf : ∀ d, Moves d (f d) mo mp)
    (hO : Mask.le objs_settle mo) (hP : Mask.le parts_settle mp) : Moves s₀.dev t₁.dev mo mp :=
  Moves.cmdRun h (fun d => Moves.ite (fun _ => hf d) (fun _ => Moves.refl ..)) hO hP

theorem Moves.cmdCarry {p : Nat} {f : Device → Device} (h : s₀.carry p f = .next t₁) (hf : ∀ d, Moves d (f d) mo mp)
    (hO : Mask.le objs_settle mo) (hP : Mask.le parts_settle mp) : Moves s₀.dev t₁.dev mo mp :=
  Moves.cmdRun h (fun d => Moves.ite (fun _ => hf d) (fun _ => Moves.refl ..)) hO hP

theorem Moves.cmdPulse {a b : Nat} {f : Device → Device} (h : s₀.pulse a b f = .next t₁) (hf : ∀ d, Moves d (f d) mo mp)
    (hO : Mask.le objs_settle mo) (hP : Mask.le parts_settle mp) : Moves s₀.dev t₁.dev mo mp := by
  unfold State.pulse at h
  split at h
  · exact Moves.cmdRun h (fun d => Moves.refl ..) hO hP
  · split at h
    · cases h
    · exact Moves.cmdRun h hf hO hP

def objs_execPoolCacheRefill : Nat := 0x3000000000000000000000a4000000000000000000000000000000000000000000000000000000000000000000000000000000000000000000000000000000000000000000000000000000
def parts_execPoolCacheRefill : Nat := 0x400a0
theorem Moves.execPoolCacheRefill {p : Plane} {pool : Pool} (h : Machine.execPoolCacheRefill p pool s₀ = .next t₁) (hO : Mask.le objs_execPoolCacheRefill mo) (hP : Mask.le parts_execPoolCacheRefill mp) :
    Moves s₀.dev t₁.dev mo mp := by
  have O {a : Nat} (h : (a &&& objs_execPoolCacheRefill == a) = true) := Mask.le_trans h hO
  have P {a : Nat} (h : (a &&& parts_execPoolCacheRefill == a) = true) := Mask.le_trans h hP
  refine Moves.cmdRunOn h (fun d => ?_) (O (by decide)) (P (by decide))
  try dsimp only
  repeat' first
    | with_reducible exact Moves.refl ..
    | with_reducible refine Moves.cacheRefill ?_ (O (by decide)) (P (by decide))
    | dsimp only

def objs_execPoolScrub : Nat := 0x37000000000000000000000a400000058000000000000000000000000000000000000000000000000000000000e8020006606cb80100021ff3e4000000000000c7e00100028000000000000
def parts_execPoolScrub : Nat := 0x80000000078edbf9
theorem Moves.execPoolScrub {p : Plane} {rq : Req} (h : Machine.execPoolScrub p rq s₀ = .next t₁) (hO : Mask.le objs_execPoolScrub mo) (hP : Mask.le parts_execPoolScrub mp) :
    Moves s₀.dev t₁.dev mo mp := by
  have O {a : Nat} (h : (a &&& objs_execPoolScrub == a) = true) := Mask.le_trans h hO
  have P {a : Nat} (h : (a &&& parts_execPoolScrub == a) = true) := Mask.le_trans h hP
  refine Moves.cmdRun h (fun d => ?_) (O (by decide)) (P (by decide))
  try dsimp only
  repeat' first
    | with_reducible exact Moves.refl ..
    | with_reducible refine Moves.commandNow ?_ (fun d => ?_) (O (by decide)) (P (by decide))
    | with_reducible refine Moves.run ?_ (O (by decide)) (P (by decide))
    | with_reducible refine Moves.poolScrub ?_ (O (by decide)) (P (by decide))
    | dsimp only

def objs_execPoolScrubDone : Nat := 0x3000000000000000000000a4000000000000000000000000000000000000000000000000000000000000000000000000000000000000000000000000000000004000000000000000000000
def parts_execPoolScrubDone : Nat := 0x401a0
theorem Moves.execPoolScrubDone {p : Plane} {pool : Pool} (h : Machine.execPoolScrubDone p pool s₀ = .next t₁) (hO : Mask.le objs_execPoolScrubDone mo) (hP : Mask.le parts_execPoolScrubDone mp) :
    Moves s₀.dev t₁.dev mo mp := by
  have O {a : Nat} (h : (a &&& objs_execPoolScrubDone == a) = true) := Mask.le_trans h hO
  have P {a : Nat} (h : (a &&& parts_execPoolScrubDone == a) = true) := Mask.le_trans h hP
  refine Moves.cmdRunOn h (fun d => ?_) (O (by decide)) (P (by decide))
  try dsimp only
  repeat' first
    | with_reducible exact Moves.refl ..
    | with_reducible refine Moves.poolScrubDone ?_ (O (by decide)) (P (by decide))
    | dsimp only

def objs_execCxlTrainComplete : Nat := 0x37000000000000000000000a4000000000000000000000000000000000000000000000000000000000000000000000000000000000000000000000000000013800000000000000000000000
def parts_execCxlTrainComplete : Nat := 0x3a0
theorem Moves.execCxlTrainComplete {p : Plane} {width rate : BitVec 4} {gib : BitVec 16} (h : Machine.execCxlTrainComplete p width rate gib s₀ = .next t₁) (hO : Mask.le objs_execCxlTrainComplete mo) (hP : Mask.le parts_execCxlTrainComplete mp) :
    Moves s₀.dev t₁.dev mo mp := by
  have O {a : Nat} (h : (a &&& objs_execCxlTrainComplete == a) = true) := Mask.le_trans h hO
  have P {a : Nat} (h : (a &&& parts_execCxlTrainComplete == a) = true) := Mask.le_trans h hP
  refine Moves.cmdRunOn h (fun d => ?_) (O (by decide)) (P (by decide))
  try dsimp only
  repeat' first
    | with_reducible exact Moves.refl ..
    | with_reducible refine Moves.cxlTrained ?_ (O (by decide)) (P (by decide))
    | dsimp only

def objs_execCxlReset : Nat := 0x37000000000000000000000a400000058000000000000000000000000000000000000000000000000000000000e8020006606cb80100021ff3e4000000000108c7e00100028000000000000
def parts_execCxlReset : Nat := 0x80000000078edbf9
theorem Moves.execCxlReset {p : Plane} {rq : Req} (h : Machine.execCxlReset p rq s₀ = .next t₁) (hO : Mask.le objs_execCxlReset mo) (hP : Mask.le parts_execCxlReset mp) :
    Moves s₀.dev t₁.dev mo mp := by
  have O {a : Nat} (h : (a &&& objs_execCxlReset == a) = true) := Mask.le_trans h hO
  have P {a : Nat} (h : (a &&& parts_execCxlReset == a) = true) := Mask.le_trans h hP
  have B {k : Nat} (h : objs_execCxlReset.testBit k = true) := Mask.bit h hO
  refine Moves.cmdRun h (fun d => ?_) (O (by decide)) (P (by decide))
  try dsimp only
  repeat' first
    | with_reducible exact Moves.refl ..
    | with_reducible refine Moves.set ?_ (B (by decide)) (by decide)
    | with_reducible refine Moves.command ?_ (fun d => ?_) (O (by decide)) (P (by decide))
    | with_reducible refine Moves.run ?_ (O (by decide)) (P (by decide))
    | dsimp only

def objs_execCdrLock : Nat := 0x37000000000000000000000a4000000000000000000000000001180a88000000000000000000000000000000000000000000000000000000000000000000000000000000000000000001800
def parts_execCdrLock : Nat := 0x101802a9
theorem Moves.execCdrLock {p : Plane} {n : Port} (h : Machine.execCdrLock p n s₀ = .next t₁) (hO : Mask.le objs_execCdrLock mo) (hP : Mask.le parts_execCdrLock mp) :
    Moves s₀.dev t₁.dev mo mp := by
  have O {a : Nat} (h : (a &&& objs_execCdrLock == a) = true) := Mask.le_trans h hO
  have P {a : Nat} (h : (a &&& parts_execCdrLock == a) = true) := Mask.le_trans h hP
  refine Moves.cmdRunOn h (fun d => ?_) (O (by decide)) (P (by decide))
  try dsimp only
  repeat' first
    | with_reducible exact Moves.refl ..
    | with_reducible refine Moves.cdrLock ?_ (O (by decide)) (P (by decide))
    | dsimp only

def objs_execFecLock : Nat := 0x37000000000000000000000a4000000000000000000000000001180a88000000000000000000000000000000000000000000000000000000000000000000000000000000000000000001800
def parts_execFecLock : Nat := 0x101806a1
theorem Moves.execFecLock {p : Plane} {n : Port} (h : Machine.execFecLock p n s₀ = .next t₁) (hO : Mask.le objs_execFecLock mo) (hP : Mask.le parts_execFecLock mp) :
    Moves s₀.dev t₁.dev mo mp := by
  have O {a : Nat} (h : (a &&& objs_execFecLock == a) = true) := Mask.le_trans h hO
  have P {a : Nat} (h : (a &&& parts_execFecLock == a) = true) := Mask.le_trans h hP
  refine Moves.cmdRunOn h (fun d => ?_) (O (by decide)) (P (by decide))
  try dsimp only
  repeat' first
    | with_reducible exact Moves.refl ..
    | with_reducible refine Moves.fecLock ?_ (O (by decide)) (P (by decide))
    | dsimp only

def objs_execTrainTxTimer : Nat := 0x37000000000000000000000a4000000000000000000000000001180a88000000000000000000000000000000000000000000000000000000000000000000000000000000000000000085800
def parts_execTrainTxTimer : Nat := 0x181807a1
theorem Moves.execTrainTxTimer {p : Plane} {n : Port} (h : Machine.execTrainTxTimer p n s₀ = .next t₁) (hO : Mask.le objs_execTrainTxTimer mo) (hP : Mask.le parts_execTrainTxTimer mp) :
    Moves s₀.dev t₁.dev mo mp := by
  have O {a : Nat} (h : (a &&& objs_execTrainTxTimer == a) = true) := Mask.le_trans h hO
  have P {a : Nat} (h : (a &&& parts_execTrainTxTimer == a) = true) := Mask.le_trans h hP
  refine Moves.cmdRunOn h (fun d => ?_) (O (by decide)) (P (by decide))
  try dsimp only
  repeat' first
    | with_reducible exact Moves.refl ..
    | with_reducible refine Moves.trainTx ?_ (O (by decide)) (P (by decide))
    | dsimp only

def objs_execTrain : Nat := 0x370000001c0000000020000a4000000000000000000000000001180a88000000000000000000000000000000000000000000000000080000000000000000000000c00000040000a0c085800
def parts_execTrain : Nat := 0x80181c1fa1
theorem Moves.execTrain {p : Plane} {n : Port} {f : Frame} (h : Machine.execTrain p n f s₀ = .next t₁) (hO : Mask.le objs_execTrain mo) (hP : Mask.le parts_execTrain mp) :
    Moves s₀.dev t₁.dev mo mp := by
  have O {a : Nat} (h : (a &&& objs_execTrain == a) = true) := Mask.le_trans h hO
  have P {a : Nat} (h : (a &&& parts_execTrain == a) = true) := Mask.le_trans h hP
  refine Moves.cmdRunOn h (fun d => ?_) (O (by decide)) (P (by decide))
  try dsimp only
  repeat' first
    | with_reducible exact Moves.refl ..
    | with_reducible refine Moves.ctrlRx ?_ (O (by decide)) (P (by decide))
    | dsimp only

def objs_execTrainDone : Nat := 0x370000001c0000000020000a4000000000000000000000000001180a88000000000000000000000000000000000000000000000000080000000000000000000000c00000040000a0c085800
def parts_execTrainDone : Nat := 0x80181c1fa1
theorem Moves.execTrainDone {p : Plane} {n : Port} {f : Frame} (h : Machine.execTrainDone p n f s₀ = .next t₁) (hO : Mask.le objs_execTrainDone mo) (hP : Mask.le parts_execTrainDone mp) :
    Moves s₀.dev t₁.dev mo mp := by
  have O {a : Nat} (h : (a &&& objs_execTrainDone == a) = true) := Mask.le_trans h hO
  have P {a : Nat} (h : (a &&& parts_execTrainDone == a) = true) := Mask.le_trans h hP
  refine Moves.cmdRunOn h (fun d => ?_) (O (by decide)) (P (by decide))
  try dsimp only
  repeat' first
    | with_reducible exact Moves.refl ..
    | with_reducible refine Moves.ctrlRx ?_ (O (by decide)) (P (by decide))
    | dsimp only

def objs_execTrainingTimeout : Nat := 0x37000000000000000000000a4000000000000000000000000001180a88000000000000000000000000000000000000000000000000000000000000000000000000000000040008200001800
def parts_execTrainingTimeout : Nat := 0x10181ea1
theorem Moves.execTrainingTimeout {p : Plane} {n : Port} (h : Machine.execTrainingTimeout p n s₀ = .next t₁) (hO : Mask.le objs_execTrainingTimeout mo) (hP : Mask.le parts_execTrainingTimeout mp) :
    Moves s₀.dev t₁.dev mo mp := by
  have O {a : Nat} (h : (a &&& objs_execTrainingTimeout == a) = true) := Mask.le_trans h hO
  have P {a : Nat} (h : (a &&& parts_execTrainingTimeout == a) = true) := Mask.le_trans h hP
  refine Moves.cmdRunOn h (fun d => ?_) (O (by decide)) (P (by decide))
  try dsimp only
  repeat' first
    | with_reducible exact Moves.refl ..
    | with_reducible refine Moves.trainingTimeout ?_ (O (by decide)) (P (by decide))
    | dsimp only

def objs_execTrainingRetryTimer : Nat := 0x37000000000000000000000a4000000000000000000000000001180a88000000000000000000000000000000000000000000000000000000000000000000000000000000000000000001800
def parts_execTrainingRetryTimer : Nat := 0x10180ea1
theorem Moves.execTrainingRetryTimer {p : Plane} {n : Port} (h : Machine.execTrainingRetryTimer p n s₀ = .next t₁) (hO : Mask.le objs_execTrainingRetryTimer mo) (hP : Mask.le parts_execTrainingRetryTimer mp) :
    Moves s₀.dev t₁.dev mo mp := by
  have O {a : Nat} (h : (a &&& objs_execTrainingRetryTimer == a) = true) := Mask.le_trans h hO
  have P {a : Nat} (h : (a &&& parts_execTrainingRetryTimer == a) = true) := Mask.le_trans h hP
  refine Moves.cmdRunOn h (fun d => ?_) (O (by decide)) (P (by decide))
  try dsimp only
  repeat' first
    | with_reducible exact Moves.refl ..
    | with_reducible refine Moves.trainingRetry ?_ (O (by decide)) (P (by decide))
    | dsimp only

def objs_execCredit : Nat := 0x37000000000000000000000a4000000000000000000000000001180a8800000000000000000000000000000000000000000000000000000000000000000000000000000000000080c000000
def parts_execCredit : Nat := 0x101816a1
theorem Moves.execCredit {p : Plane} {n : Port} {f : Frame} (h : Machine.execCredit p n f s₀ = .next t₁) (hO : Mask.le objs_execCredit mo) (hP : Mask.le parts_execCredit mp) :
    Moves s₀.dev t₁.dev mo mp := by
  have O {a : Nat} (h : (a &&& objs_execCredit == a) = true) := Mask.le_trans h hO
  have P {a : Nat} (h : (a &&& parts_execCredit == a) = true) := Mask.le_trans h hP
  refine Moves.cmdRunOn h (fun d => ?_) (O (by decide)) (P (by decide))
  try dsimp only
  repeat' first
    | with_reducible exact Moves.refl ..
    | with_reducible refine Moves.creditRx ?_ (O (by decide)) (P (by decide))
    | dsimp only

def objs_execCreditTxTimer : Nat := 0x37000000000000000000000a4000000000000000000000000001180a88000000000000000000000000000000000000000000000000000000000000000000000000000000000000000000000
def parts_execCreditTxTimer : Nat := 0x100806a1
theorem Moves.execCreditTxTimer {p : Plane} {n : Port} (h : Machine.execCreditTxTimer p n s₀ = .next t₁) (hO : Mask.le objs_execCreditTxTimer mo) (hP : Mask.le parts_execCreditTxTimer mp) :
    Moves s₀.dev t₁.dev mo mp := by
  have O {a : Nat} (h : (a &&& objs_execCreditTxTimer == a) = true) := Mask.le_trans h hO
  have P {a : Nat} (h : (a &&& parts_execCreditTxTimer == a) = true) := Mask.le_trans h hP
  refine Moves.cmdRunOn h (fun d => ?_) (O (by decide)) (P (by decide))
  try dsimp only
  repeat' first
    | with_reducible exact Moves.refl ..
    | with_reducible refine Moves.creditTimer ?_ (O (by decide)) (P (by decide))
    | dsimp only

def objs_execRetryNak : Nat := 0x370000001c0000000020000a4000000000000000000000000001180a88000000000000000000000000000000000000000000000000080000000000000000000000c00000240000b8c001800
def parts_execRetryNak : Nat := 0x80181c1fa1
theorem Moves.execRetryNak {p : Plane} {n : Port} {f : Frame} (h : Machine.execRetryNak p n f s₀ = .next t₁) (hO : Mask.le objs_execRetryNak mo) (hP : Mask.le parts_execRetryNak mp) :
    Moves s₀.dev t₁.dev mo mp := by
  have O {a : Nat} (h : (a &&& objs_execRetryNak == a) = true) := Mask.le_trans h hO
  have P {a : Nat} (h : (a &&& parts_execRetryNak == a) = true) := Mask.le_trans h hP
  refine Moves.cmdRunOn h (fun d => ?_) (O (by decide)) (P (by decide))
  try dsimp only
  repeat' first
    | with_reducible exact Moves.refl ..
    | with_reducible refine Moves.nakRx ?_ (O (by decide)) (P (by decide))
    | dsimp only

def objs_execAckTimeout : Nat := 0x370000001c0000000020000a4000000000000000000000000001180a88000000000000000000000000000000000000000000000000080000000000000000000000c00000240000300001800
def parts_execAckTimeout : Nat := 0x80181c1fa1
theorem Moves.execAckTimeout {p : Plane} {n : Port} (h : Machine.execAckTimeout p n s₀ = .next t₁) (hO : Mask.le objs_execAckTimeout mo) (hP : Mask.le parts_execAckTimeout mp) :
    Moves s₀.dev t₁.dev mo mp := by
  have O {a : Nat} (h : (a &&& objs_execAckTimeout == a) = true) := Mask.le_trans h hO
  have P {a : Nat} (h : (a &&& parts_execAckTimeout == a) = true) := Mask.le_trans h hP
  refine Moves.cmdRunOn h (fun d => ?_) (O (by decide)) (P (by decide))
  try dsimp only
  repeat' first
    | with_reducible exact Moves.refl ..
    | with_reducible refine Moves.ackTimeout ?_ (O (by decide)) (P (by decide))
    | dsimp only

def objs_execBypassPreamble : Nat := 0x37000000000000000000000a400000000000000000000000000000000000000000000000000000000000000000e8020006606cb80100021ff3e4000000000000c7e00100028000000000000
def parts_execBypassPreamble : Nat := 0x78edbf9
theorem Moves.execBypassPreamble {p : Plane} {n : Port} (h : Machine.execBypassPreamble p n s₀ = .next t₁) (hO : Mask.le objs_execBypassPreamble mo) (hP : Mask.le parts_execBypassPreamble mp) :
    Moves s₀.dev t₁.dev mo mp := by
  have O {a : Nat} (h : (a &&& objs_execBypassPreamble == a) = true) := Mask.le_trans h hO
  have P {a : Nat} (h : (a &&& parts_execBypassPreamble == a) = true) := Mask.le_trans h hP
  refine Moves.cmdRun h (fun d => ?_) (O (by decide)) (P (by decide))
  try dsimp only
  repeat' first
    | with_reducible exact Moves.refl ..
    | with_reducible refine Moves.run ?_ (O (by decide)) (P (by decide))
    | dsimp only

def objs_execPortAdminWrite : Nat := 0x37000000000000000000000a402b800580000000000000000001180a8800000000000000000000000000000000e8020006606cb80100021ff3e4000000000000c7e00100068000200001c00
def parts_execPortAdminWrite : Nat := 0x80000000179edff9
theorem Moves.execPortAdminWrite {p : Plane} {n : Port} {v : Byte} {rq : Req} (h : Machine.execPortAdminWrite p n v rq s₀ = .next t₁) (hO : Mask.le objs_execPortAdminWrite mo) (hP : Mask.le parts_execPortAdminWrite mp) :
    Moves s₀.dev t₁.dev mo mp := by
  have O {a : Nat} (h : (a &&& objs_execPortAdminWrite == a) = true) := Mask.le_trans h hO
  have P {a : Nat} (h : (a &&& parts_execPortAdminWrite == a) = true) := Mask.le_trans h hP
  refine Moves.cmdRun h (fun d => ?_) (O (by decide)) (P (by decide))
  try dsimp only
  repeat' first
    | with_reducible exact Moves.refl ..
    | with_reducible refine Moves.request ?_ (fun d => ?_) (O (by decide)) (P (by decide))
    | with_reducible refine Moves.doWrite ?_ (fun d => ?_)
    | with_reducible refine Moves.run ?_ (O (by decide)) (P (by decide))
    | with_reducible refine Moves.portAdmin ?_ (O (by decide)) (P (by decide))
    | dsimp only

def objs_execTrainCmd : Nat := 0x37000000000000000000000a4000000580000000000000000001180a8800000000000000000000000000000000e8020006606cb80100021ff3e4000000000000c7e00100068000200081800
def parts_execTrainCmd : Nat := 0x80000000179edff9
theorem Moves.execTrainCmd {p : Plane} {n : Port} {rq : Req} (h : Machine.execTrainCmd p n rq s₀ = .next t₁) (hO : Mask.le objs_execTrainCmd mo) (hP : Mask.le parts_execTrainCmd mp) :
    Moves s₀.dev t₁.dev mo mp := by
  have O {a : Nat} (h : (a &&& objs_execTrainCmd == a) = true) := Mask.le_trans h hO
  have P {a : Nat} (h : (a &&& parts_execTrainCmd == a) = true) := Mask.le_trans h hP
  refine Moves.cmdRun h (fun d => ?_) (O (by decide)) (P (by decide))
  try dsimp only
  repeat' first
    | with_reducible exact Moves.refl ..
    | with_reducible refine Moves.command ?_ (fun d => ?_) (O (by decide)) (P (by decide))
    | with_reducible refine Moves.run ?_ (O (by decide)) (P (by decide))
    | with_reducible refine Moves.trainCmd ?_ (O (by decide)) (P (by decide))
    | dsimp only

def objs_execInternalInputWrite : Nat := 0x37000000000000000000000a4000000000001000000000000001180a88000000000000000000000000000000000000000000000000000000000000000000000000002000056800200000000
def parts_execInternalInputWrite : Nat := 0x10095eb1
theorem Moves.execInternalInputWrite {p : Plane} {a : Attach} (h : Machine.execInternalInputWrite p a s₀ = .next t₁) (hO : Mask.le objs_execInternalInputWrite mo) (hP : Mask.le parts_execInternalInputWrite mp) :
    Moves s₀.dev t₁.dev mo mp := by
  have O {a : Nat} (h : (a &&& objs_execInternalInputWrite == a) = true) := Mask.le_trans h hO
  have P {a : Nat} (h : (a &&& parts_execInternalInputWrite == a) = true) := Mask.le_trans h hP
  refine Moves.cmdCarry h (fun d => ?_) (O (by decide)) (P (by decide))
  try dsimp only
  repeat' first
    | with_reducible exact Moves.refl ..
    | with_reducible refine Moves.writeHeld ?_ (O (by decide)) (P (by decide))
    | dsimp only

def objs_execMoveParkedFrame : Nat := 0x37000000000000000000000a4000000000000000000000000001180a88000000000000000000000000000000000000000000000000000000000000000000000000002000041000200000000
def parts_execMoveParkedFrame : Nat := 0x10081eb1
theorem Moves.execMoveParkedFrame {p : Plane} {row col : Group} (h : Machine.execMoveParkedFrame p row col s₀ = .next t₁) (hO : Mask.le objs_execMoveParkedFrame mo) (hP : Mask.le parts_execMoveParkedFrame mp) :
    Moves s₀.dev t₁.dev mo mp := by
  have O {a : Nat} (h : (a &&& objs_execMoveParkedFrame == a) = true) := Mask.le_trans h hO
  have P {a : Nat} (h : (a &&& parts_execMoveParkedFrame == a) = true) := Mask.le_trans h hP
  refine Moves.cmdCarry h (fun d => ?_) (O (by decide)) (P (by decide))
  try dsimp only
  repeat' first
    | with_reducible exact Moves.refl ..
    | with_reducible refine Moves.moveParked ?_ (O (by decide)) (P (by decide))
    | dsimp only

def objs_execMakeDeferredCopy : Nat := 0x37000000000000000000000a4000000000001000000000000001180a88000000000000000000000000000000000000000000000000000000000000000000000000002000045000200000000
def parts_execMakeDeferredCopy : Nat := 0x10081eb1
theorem Moves.execMakeDeferredCopy {p : Plane} {row col : Group} (h : Machine.execMakeDeferredCopy p row col s₀ = .next t₁) (hO : Mask.le objs_execMakeDeferredCopy mo) (hP : Mask.le parts_execMakeDeferredCopy mp) :
    Moves s₀.dev t₁.dev mo mp := by
  have O {a : Nat} (h : (a &&& objs_execMakeDeferredCopy == a) = true) := Mask.le_trans h hO
  have P {a : Nat} (h : (a &&& parts_execMakeDeferredCopy == a) = true) := Mask.le_trans h hP
  refine Moves.cmdCarry h (fun d => ?_) (O (by decide)) (P (by decide))
  try dsimp only
  repeat' first
    | with_reducible exact Moves.refl ..
    | with_reducible refine Moves.makeDeferred ?_ (O (by decide)) (P (by decide))
    | dsimp only

def objs_execCellRelease : Nat := 0x37000000000000000000000a4000000000000000000000000001180a88000000000000000000000000000000000000000000000000000000000000000000000000000000000000000000000
def parts_execCellRelease : Nat := 0x10081ea1
theorem Moves.execCellRelease {p : Plane} {copy : Nat} {o : Sink} (h : Machine.execCellRelease p copy o s₀ = .next t₁) (hO : Mask.le objs_execCellRelease mo) (hP : Mask.le parts_execCellRelease mp) :
    Moves s₀.dev t₁.dev mo mp := by
  have O {a : Nat} (h : (a &&& objs_execCellRelease == a) = true) := Mask.le_trans h hO
  have P {a : Nat} (h : (a &&& parts_execCellRelease == a) = true) := Mask.le_trans h hP
  refine Moves.cmdCarry h (fun d => ?_) (O (by decide)) (P (by decide))
  try dsimp only
  repeat' first
    | with_reducible exact Moves.refl ..
    | with_reducible refine Moves.release ?_ (O (by decide)) (P (by decide))
    | with_reducible refine Moves.ite (fun _ => ?_) (fun _ => ?_)
    | with_reducible refine Moves.ite1 (fun _ => ?_) (fun _ => ?_)
    | split
    | dsimp only

def objs_execKiteSpareInService : Nat := 0x3000000000000000000000a4000000000000000000000000000000000000000000000000000000000000000000000000000000000000000000000000000000000004400100040000000000
def parts_execKiteSpareInService : Nat := 0x80a1
theorem Moves.execKiteSpareInService {p : Plane} {row : Group} (h : Machine.execKiteSpareInService p row s₀ = .next t₁) (hO : Mask.le objs_execKiteSpareInService mo) (hP : Mask.le parts_execKiteSpareInService mp) :
    Moves s₀.dev t₁.dev mo mp := by
  have O {a : Nat} (h : (a &&& objs_execKiteSpareInService == a) = true) := Mask.le_trans h hO
  have P {a : Nat} (h : (a &&& parts_execKiteSpareInService == a) = true) := Mask.le_trans h hP
  refine Moves.cmdRunOn h (fun d => ?_) (O (by decide)) (P (by decide))
  try dsimp only
  repeat' first
    | with_reducible exact Moves.refl ..
    | with_reducible refine Moves.spareInService ?_ (O (by decide)) (P (by decide))
    | with_reducible refine Moves.startReturns ?_ (O (by decide)) (P (by decide))
    | dsimp only

def objs_execHandOverToSpare : Nat := 0x37000000000000000000000a400000058000000000000000000000000000000000000000000000000000000000e8020006606cb80100021ff3e4000000000000c7e04500028440000000000
def parts_execHandOverToSpare : Nat := 0x80000000078edbf9
theorem Moves.execHandOverToSpare {p : Plane} {rq : Req} (h : Machine.execHandOverToSpare p rq s₀ = .next t₁) (hO : Mask.le objs_execHandOverToSpare mo) (hP : Mask.le parts_execHandOverToSpare mp) :
    Moves s₀.dev t₁.dev mo mp := by
  have O {a : Nat} (h : (a &&& objs_execHandOverToSpare == a) = true) := Mask.le_trans h hO
  have P {a : Nat} (h : (a &&& parts_execHandOverToSpare == a) = true) := Mask.le_trans h hP
  refine Moves.cmdRun h (fun d => ?_) (O (by decide)) (P (by decide))
  try dsimp only
  repeat' first
    | with_reducible exact Moves.refl ..
    | with_reducible refine Moves.commandNow ?_ (fun d => ?_) (O (by decide)) (P (by decide))
    | with_reducible refine Moves.run ?_ (O (by decide)) (P (by decide))
    | with_reducible refine Moves.swapCmd ?_ (O (by decide)) (P (by decide))
    | dsimp only

def objs_execReturnFromSpare : Nat := 0x37000000000000000000000a400000058000000000000000000000000000000000000000000000000000000000e8020006606cb80100021ff3e4000000000000c7e04500028440000000000
def parts_execReturnFromSpare : Nat := 0x80000000078edbf9
theorem Moves.execReturnFromSpare {p : Plane} {rq : Req} (h : Machine.execReturnFromSpare p rq s₀ = .next t₁) (hO : Mask.le objs_execReturnFromSpare mo) (hP : Mask.le parts_execReturnFromSpare mp) :
    Moves s₀.dev t₁.dev mo mp := by
  have O {a : Nat} (h : (a &&& objs_execReturnFromSpare == a) = true) := Mask.le_trans h hO
  have P {a : Nat} (h : (a &&& parts_execReturnFromSpare == a) = true) := Mask.le_trans h hP
  refine Moves.cmdRun h (fun d => ?_) (O (by decide)) (P (by decide))
  try dsimp only
  repeat' first
    | with_reducible exact Moves.refl ..
    | with_reducible refine Moves.commandNow ?_ (fun d => ?_) (O (by decide)) (P (by decide))
    | with_reducible refine Moves.run ?_ (O (by decide)) (P (by decide))
    | with_reducible refine Moves.swapCmd ?_ (O (by decide)) (P (by decide))
    | dsimp only

def objs_execKiteDrainComplete : Nat := 0x3000000000000000000000a4000000000000000000000000000000000000000000000000000000000000000000000000000000000000000000000000000000000004400000440000000000
def parts_execKiteDrainComplete : Nat := 0x80a0
theorem Moves.execKiteDrainComplete {p : Plane} {row : Group} (h : Machine.execKiteDrainComplete p row s₀ = .next t₁) (hO : Mask.le objs_execKiteDrainComplete mo) (hP : Mask.le parts_execKiteDrainComplete mp) :
    Moves s₀.dev t₁.dev mo mp := by
  have O {a : Nat} (h : (a &&& objs_execKiteDrainComplete == a) = true) := Mask.le_trans h hO
  have P {a : Nat} (h : (a &&& parts_execKiteDrainComplete == a) = true) := Mask.le_trans h hP
  refine Moves.cmdRunOn h (fun d => ?_) (O (by decide)) (P (by decide))
  try dsimp only
  repeat' first
    | with_reducible exact Moves.refl ..
    | with_reducible refine Moves.kiteDrained ?_ (O (by decide)) (P (by decide))
    | with_reducible refine Moves.startReturns ?_ (O (by decide)) (P (by decide))
    | dsimp only

def objs_execSprayMembersWrite : Nat := 0x37000000000000000000000a402b80058000000000000000000000000000000000000000000000000000000000e8020006606cb80100021ff3e4000000000000c7e00120028000000000000
def parts_execSprayMembersWrite : Nat := 0x80000000078edbf9
theorem Moves.execSprayMembersWrite {p : Plane} {v : BitVec 256} {rq : Req} (h : Machine.execSprayMembersWrite p v rq s₀ = .next t₁) (hO : Mask.le objs_execSprayMembersWrite mo) (hP : Mask.le parts_execSprayMembersWrite mp) :
    Moves s₀.dev t₁.dev mo mp := by
  have O {a : Nat} (h : (a &&& objs_execSprayMembersWrite == a) = true) := Mask.le_trans h hO
  have P {a : Nat} (h : (a &&& parts_execSprayMembersWrite == a) = true) := Mask.le_trans h hP
  refine Moves.cmdRun h (fun d => ?_) (O (by decide)) (P (by decide))
  try dsimp only
  repeat' first
    | with_reducible exact Moves.refl ..
    | with_reducible refine Moves.request ?_ (fun d => ?_) (O (by decide)) (P (by decide))
    | with_reducible refine Moves.doWrite ?_ (fun d => ?_)
    | with_reducible refine Moves.run ?_ (O (by decide)) (P (by decide))
    | with_reducible refine Moves.sprayWrite ?_ (O (by decide)) (P (by decide))
    | dsimp only

def objs_execRctxClearDone : Nat := 0x37000000000000000000000a400000000000000000000000000000000000000000000000000000000000000000e8020006606cb80100021ff3e4000000000000c7e00100028000000000000
def parts_execRctxClearDone : Nat := 0x78edbf9
theorem Moves.execRctxClearDone {p : Plane} {x : Rctx} (h : Machine.execRctxClearDone p x s₀ = .next t₁) (hO : Mask.le objs_execRctxClearDone mo) (hP : Mask.le parts_execRctxClearDone mp) :
    Moves s₀.dev t₁.dev mo mp := by
  have O {a : Nat} (h : (a &&& objs_execRctxClearDone == a) = true) := Mask.le_trans h hO
  have P {a : Nat} (h : (a &&& parts_execRctxClearDone == a) = true) := Mask.le_trans h hP
  refine Moves.cmdRunOn h (fun d => ?_) (O (by decide)) (P (by decide))
  try dsimp only
  repeat' first
    | with_reducible exact Moves.refl ..
    | with_reducible refine Moves.clearDone ?_ (O (by decide)) (P (by decide))
    | dsimp only

def objs_execRctxIdleTimeout : Nat := 0x37000000000000000000000a400000000000000000000000000000000000000000000000000000000000000000e8020006606cb80100021ff3e4000000000000c7e00100028000000000000
def parts_execRctxIdleTimeout : Nat := 0x78edbf9
theorem Moves.execRctxIdleTimeout {p : Plane} {x : Rctx} (h : Machine.execRctxIdleTimeout p x s₀ = .next t₁) (hO : Mask.le objs_execRctxIdleTimeout mo) (hP : Mask.le parts_execRctxIdleTimeout mp) :
    Moves s₀.dev t₁.dev mo mp := by
  have O {a : Nat} (h : (a &&& objs_execRctxIdleTimeout == a) = true) := Mask.le_trans h hO
  have P {a : Nat} (h : (a &&& parts_execRctxIdleTimeout == a) = true) := Mask.le_trans h hP
  refine Moves.cmdRunOn h (fun d => ?_) (O (by decide)) (P (by decide))
  try dsimp only
  repeat' first
    | with_reducible exact Moves.refl ..
    | with_reducible refine Moves.abortAnd ?_ (O (by decide)) (P (by decide))
    | dsimp only

def objs_execRctxAbortCmd : Nat := 0x37000000000000000000000a400000058000000000000000000000000000000000000000000000000000000000e8020006606cb80100021ff3e4000000000000c7e00100028000000000000
def parts_execRctxAbortCmd : Nat := 0x80000000078edbf9
theorem Moves.execRctxAbortCmd {p : Plane} {rq : Req} (h : Machine.execRctxAbortCmd p rq s₀ = .next t₁) (hO : Mask.le objs_execRctxAbortCmd mo) (hP : Mask.le parts_execRctxAbortCmd mp) :
    Moves s₀.dev t₁.dev mo mp := by
  have O {a : Nat} (h : (a &&& objs_execRctxAbortCmd == a) = true) := Mask.le_trans h hO
  have P {a : Nat} (h : (a &&& parts_execRctxAbortCmd == a) = true) := Mask.le_trans h hP
  refine Moves.cmdRun h (fun d => ?_) (O (by decide)) (P (by decide))
  try dsimp only
  repeat' first
    | with_reducible exact Moves.refl ..
    | with_reducible refine Moves.commandNow ?_ (fun d => ?_) (O (by decide)) (P (by decide))
    | with_reducible refine Moves.rctxAbort ?_ (O (by decide)) (P (by decide))
    | with_reducible refine Moves.run ?_ (O (by decide)) (P (by decide))
    | dsimp only

def objs_execAccumulatorError : Nat := 0x37000000000000000000000a400000000000000000000000000000000000000000000000000000000000000000e8020006606cb80100021ff3e4000000000000c7e00100028000000000000
def parts_execAccumulatorError : Nat := 0x78edbf9
theorem Moves.execAccumulatorError {p : Plane} {x : Rctx} {elem : Nat} (h : Machine.execAccumulatorError p x elem s₀ = .next t₁) (hO : Mask.le objs_execAccumulatorError mo) (hP : Mask.le parts_execAccumulatorError mp) :
    Moves s₀.dev t₁.dev mo mp := by
  have O {a : Nat} (h : (a &&& objs_execAccumulatorError == a) = true) := Mask.le_trans h hO
  have P {a : Nat} (h : (a &&& parts_execAccumulatorError == a) = true) := Mask.le_trans h hP
  refine Moves.cmdRunOn h (fun d => ?_) (O (by decide)) (P (by decide))
  try dsimp only
  repeat' first
    | with_reducible exact Moves.refl ..
    | with_reducible refine Moves.abortAnd ?_ (O (by decide)) (P (by decide))
    | with_reducible refine Moves.ite (fun _ => ?_) (fun _ => ?_)
    | with_reducible refine Moves.ite1 (fun _ => ?_) (fun _ => ?_)
    | split
    | dsimp only

def objs_execSlotLoad : Nat := 0x37000000000000000000000a400000058000000000000000000000000000000000000000000000000000000000e8020006606df80100a21ff3e4000000000000c7e00100028000000000000
def parts_execSlotLoad : Nat := 0x80000000078edbf9
theorem Moves.execSlotLoad {p : Plane} {rq : Req} (h : Machine.execSlotLoad p rq s₀ = .next t₁) (hO : Mask.le objs_execSlotLoad mo) (hP : Mask.le parts_execSlotLoad mp) :
    Moves s₀.dev t₁.dev mo mp := by
  have O {a : Nat} (h : (a &&& objs_execSlotLoad == a) = true) := Mask.le_trans h hO
  have P {a : Nat} (h : (a &&& parts_execSlotLoad == a) = true) := Mask.le_trans h hP
  refine Moves.cmdRun h (fun d => ?_) (O (by decide)) (P (by decide))
  try dsimp only
  repeat' first
    | with_reducible exact Moves.refl ..
    | with_reducible refine Moves.command ?_ (fun d => ?_) (O (by decide)) (P (by decide))
    | with_reducible refine Moves.slotCmd ?_ (O (by decide)) (P (by decide))
    | with_reducible refine Moves.run ?_ (O (by decide)) (P (by decide))
    | dsimp only

def objs_execSlotLaunch : Nat := 0x37000000000000000000000a400000058000000000000000000000000000000000000000000000000000000000e8020006606df80100a21ff3e4000000000000c7e00100028000000000000
def parts_execSlotLaunch : Nat := 0x80000000078edbf9
theorem Moves.execSlotLaunch {p : Plane} {rq : Req} (h : Machine.execSlotLaunch p rq s₀ = .next t₁) (hO : Mask.le objs_execSlotLaunch mo) (hP : Mask.le parts_execSlotLaunch mp) :
    Moves s₀.dev t₁.dev mo mp := by
  have O {a : Nat} (h : (a &&& objs_execSlotLaunch == a) = true) := Mask.le_trans h hO
  have P {a : Nat} (h : (a &&& parts_execSlotLaunch == a) = true) := Mask.le_trans h hP
  refine Moves.cmdRun h (fun d => ?_) (O (by decide)) (P (by decide))
  try dsimp only
  repeat' first
    | with_reducible exact Moves.refl ..
    | with_reducible refine Moves.command ?_ (fun d => ?_) (O (by decide)) (P (by decide))
    | with_reducible refine Moves.slotCmd ?_ (O (by decide)) (P (by decide))
    | with_reducible refine Moves.run ?_ (O (by decide)) (P (by decide))
    | dsimp only

def objs_execSlotStop : Nat := 0x37000000000000000000000a400000058000000000000000000000000000000000000000000000000000000000e8020006606df80100a21ff3e4000000000000c7e00100028000000000000
def parts_execSlotStop : Nat := 0x80000000078edbf9
theorem Moves.execSlotStop {p : Plane} {rq : Req} (h : Machine.execSlotStop p rq s₀ = .next t₁) (hO : Mask.le objs_execSlotStop mo) (hP : Mask.le parts_execSlotStop mp) :
    Moves s₀.dev t₁.dev mo mp := by
  have O {a : Nat} (h : (a &&& objs_execSlotStop == a) = true) := Mask.le_trans h hO
  have P {a : Nat} (h : (a &&& parts_execSlotStop == a) = true) := Mask.le_trans h hP
  refine Moves.cmdRun h (fun d => ?_) (O (by decide)) (P (by decide))
  try dsimp only
  repeat' first
    | with_reducible exact Moves.refl ..
    | with_reducible refine Moves.command ?_ (fun d => ?_) (O (by decide)) (P (by decide))
    | with_reducible refine Moves.slotCmd ?_ (O (by decide)) (P (by decide))
    | with_reducible refine Moves.run ?_ (O (by decide)) (P (by decide))
    | dsimp only

def objs_execSlotClear : Nat := 0x37000000000000000000000a400000058000000000000000000000000000000000000000000000000000000000e8020006606df80100a21ff3e4000000000000c7e00100028000000000000
def parts_execSlotClear : Nat := 0x80000000078edbf9
theorem Moves.execSlotClear {p : Plane} {rq : Req} (h : Machine.execSlotClear p rq s₀ = .next t₁) (hO : Mask.le objs_execSlotClear mo) (hP : Mask.le parts_execSlotClear mp) :
    Moves s₀.dev t₁.dev mo mp := by
  have O {a : Nat} (h : (a &&& objs_execSlotClear == a) = true) := Mask.le_trans h hO
  have P {a : Nat} (h : (a &&& parts_execSlotClear == a) = true) := Mask.le_trans h hP
  refine Moves.cmdRun h (fun d => ?_) (O (by decide)) (P (by decide))
  try dsimp only
  repeat' first
    | with_reducible exact Moves.refl ..
    | with_reducible refine Moves.command ?_ (fun d => ?_) (O (by decide)) (P (by decide))
    | with_reducible refine Moves.slotCmd ?_ (O (by decide)) (P (by decide))
    | with_reducible refine Moves.run ?_ (O (by decide)) (P (by decide))
    | dsimp only

def objs_execLaunch : Nat := 0x37000000000000000000000a400000000000000000000000000000000000000000000000000000000000000000e8020006606cf8031fe21ff3e4000000000000c7e00100028000000000000
def parts_execLaunch : Nat := 0x80078edbf9
theorem Moves.execLaunch {p : Plane} {f : Frame} (h : Machine.execLaunch p f s₀ = .next t₁) (hO : Mask.le objs_execLaunch mo) (hP : Mask.le parts_execLaunch mp) :
    Moves s₀.dev t₁.dev mo mp := by
  have O {a : Nat} (h : (a &&& objs_execLaunch == a) = true) := Mask.le_trans h hO
  have P {a : Nat} (h : (a &&& parts_execLaunch == a) = true) := Mask.le_trans h hP
  refine Moves.cmdRunOn h (fun d => ?_) (O (by decide)) (P (by decide))
  try dsimp only
  repeat' first
    | with_reducible exact Moves.refl ..
    | with_reducible refine Moves.takeIn ?_ (O (by decide)) (P (by decide))
    | with_reducible refine Moves.seqIn ?_ (O (by decide)) (P (by decide))
    | dsimp only

def objs_execSignal : Nat := 0x37000000000000000000000a400000000000000000000000000000000000000000000000000000000000000000e8020006606cf8031fe21ff3e4000000000000c7e00100028000000000000
def parts_execSignal : Nat := 0x80078edbf9
theorem Moves.execSignal {p : Plane} {f : Frame} (h : Machine.execSignal p f s₀ = .next t₁) (hO : Mask.le objs_execSignal mo) (hP : Mask.le parts_execSignal mp) :
    Moves s₀.dev t₁.dev mo mp := by
  have O {a : Nat} (h : (a &&& objs_execSignal == a) = true) := Mask.le_trans h hO
  have P {a : Nat} (h : (a &&& parts_execSignal == a) = true) := Mask.le_trans h hP
  refine Moves.cmdRunOn h (fun d => ?_) (O (by decide)) (P (by decide))
  try dsimp only
  repeat' first
    | with_reducible exact Moves.refl ..
    | with_reducible refine Moves.takeIn ?_ (O (by decide)) (P (by decide))
    | with_reducible refine Moves.seqIn ?_ (O (by decide)) (P (by decide))
    | dsimp only

def objs_execNotify : Nat := 0x37000000000000000000000a400000000000000000000000000000000000000000000000000000000000000000e8020006606cf8031fe21ff3e4000000000000c7e00100028000000000000
def parts_execNotify : Nat := 0x80078edbf9
theorem Moves.execNotify {p : Plane} {f : Frame} (h : Machine.execNotify p f s₀ = .next t₁) (hO : Mask.le objs_execNotify mo) (hP : Mask.le parts_execNotify mp) :
    Moves s₀.dev t₁.dev mo mp := by
  have O {a : Nat} (h : (a &&& objs_execNotify == a) = true) := Mask.le_trans h hO
  have P {a : Nat} (h : (a &&& parts_execNotify == a) = true) := Mask.le_trans h hP
  refine Moves.cmdRunOn h (fun d => ?_) (O (by decide)) (P (by decide))
  try dsimp only
  repeat' first
    | with_reducible exact Moves.refl ..
    | with_reducible refine Moves.takeIn ?_ (O (by decide)) (P (by decide))
    | with_reducible refine Moves.seqIn ?_ (O (by decide)) (P (by decide))
    | dsimp only

def objs_execAbortCtx : Nat := 0x37000000000000000000000a400000000000000000000000000000000000000000000000000000000000000000e8020006606cf8031fe21ff3e4000000000000c7e00100028000000000000
def parts_execAbortCtx : Nat := 0x80078edbf9
theorem Moves.execAbortCtx {p : Plane} {f : Frame} (h : Machine.execAbortCtx p f s₀ = .next t₁) (hO : Mask.le objs_execAbortCtx mo) (hP : Mask.le parts_execAbortCtx mp) :
    Moves s₀.dev t₁.dev mo mp := by
  have O {a : Nat} (h : (a &&& objs_execAbortCtx == a) = true) := Mask.le_trans h hO
  have P {a : Nat} (h : (a &&& parts_execAbortCtx == a) = true) := Mask.le_trans h hP
  refine Moves.cmdRunOn h (fun d => ?_) (O (by decide)) (P (by decide))
  try dsimp only
  repeat' first
    | with_reducible exact Moves.refl ..
    | with_reducible refine Moves.takeIn ?_ (O (by decide)) (P (by decide))
    | with_reducible refine Moves.seqIn ?_ (O (by decide)) (P (by decide))
    | dsimp only

def objs_execReport : Nat := 0x37000000000000000000000a400000000000000000000000000000000000000000000000000000000000000000e8020006606cf8031fe21ff3e4000000000000c7e00100028000000000000
def parts_execReport : Nat := 0x80078edbf9
theorem Moves.execReport {p : Plane} {f : Frame} (h : Machine.execReport p f s₀ = .next t₁) (hO : Mask.le objs_execReport mo) (hP : Mask.le parts_execReport mp) :
    Moves s₀.dev t₁.dev mo mp := by
  have O {a : Nat} (h : (a &&& objs_execReport == a) = true) := Mask.le_trans h hO
  have P {a : Nat} (h : (a &&& parts_execReport == a) = true) := Mask.le_trans h hP
  refine Moves.cmdRunOn h (fun d => ?_) (O (by decide)) (P (by decide))
  try dsimp only
  repeat' first
    | with_reducible exact Moves.refl ..
    | with_reducible refine Moves.takeIn ?_ (O (by decide)) (P (by decide))
    | with_reducible refine Moves.seqIn ?_ (O (by decide)) (P (by decide))
    | dsimp only

def objs_execContribute : Nat := 0x37000000000000000000000a400000000000000000000000000000000000000000000000000000000000000000e8020006606cf8031fe21ff3e4000000000000c7e00100028000000000000
def parts_execContribute : Nat := 0x80078edbf9
theorem Moves.execContribute {p : Plane} {f : Frame} (h : Machine.execContribute p f s₀ = .next t₁) (hO : Mask.le objs_execContribute mo) (hP : Mask.le parts_execContribute mp) :
    Moves s₀.dev t₁.dev mo mp := by
  have O {a : Nat} (h : (a &&& objs_execContribute == a) = true) := Mask.le_trans h hO
  have P {a : Nat} (h : (a &&& parts_execContribute == a) = true) := Mask.le_trans h hP
  refine Moves.cmdRunOn h (fun d => ?_) (O (by decide)) (P (by decide))
  try dsimp only
  repeat' first
    | with_reducible exact Moves.refl ..
    | with_reducible refine Moves.takeIn ?_ (O (by decide)) (P (by decide))
    | with_reducible refine Moves.seqIn ?_ (O (by decide)) (P (by decide))
    | dsimp only

def objs_execXready : Nat := 0x37000000000000000000000a400000000000000000000000000000000000000000000000000000000000000000e8020006606cf8031fe21ff3e4000000000000c7e00100028000000000000
def parts_execXready : Nat := 0x80078edbf9
theorem Moves.execXready {p : Plane} {f : Frame} (h : Machine.execXready p f s₀ = .next t₁) (hO : Mask.le objs_execXready mo) (hP : Mask.le parts_execXready mp) :
    Moves s₀.dev t₁.dev mo mp := by
  have O {a : Nat} (h : (a &&& objs_execXready == a) = true) := Mask.le_trans h hO
  have P {a : Nat} (h : (a &&& parts_execXready == a) = true) := Mask.le_trans h hP
  refine Moves.cmdRunOn h (fun d => ?_) (O (by decide)) (P (by decide))
  try dsimp only
  repeat' first
    | with_reducible exact Moves.refl ..
    | with_reducible refine Moves.takeIn ?_ (O (by decide)) (P (by decide))
    | with_reducible refine Moves.seqIn ?_ (O (by decide)) (P (by decide))
    | dsimp only

def objs_execFailed : Nat := 0x37000000000000000000000a400000000000000000000000000000000000000000000000000000000000000000e8020006606cf8031fe21ff3e4000000000000c7e00100028000000000000
def parts_execFailed : Nat := 0x80078edbf9
theorem Moves.execFailed {p : Plane} {f : Frame} (h : Machine.execFailed p f s₀ = .next t₁) (hO : Mask.le objs_execFailed mo) (hP : Mask.le parts_execFailed mp) :
    Moves s₀.dev t₁.dev mo mp := by
  have O {a : Nat} (h : (a &&& objs_execFailed == a) = true) := Mask.le_trans h hO
  have P {a : Nat} (h : (a &&& parts_execFailed == a) = true) := Mask.le_trans h hP
  refine Moves.cmdRunOn h (fun d => ?_) (O (by decide)) (P (by decide))
  try dsimp only
  repeat' first
    | with_reducible exact Moves.refl ..
    | with_reducible refine Moves.takeIn ?_ (O (by decide)) (P (by decide))
    | with_reducible refine Moves.seqIn ?_ (O (by decide)) (P (by decide))
    | dsimp only

def objs_execStepTimeout : Nat := 0x37000000000000000000000a400000000000000000000000000000000000000000000000000000000000000000e8020006606cb80100021ff3e4000000000000c7e00100028000000000000
def parts_execStepTimeout : Nat := 0x78edbf9
theorem Moves.execStepTimeout {p : Plane} {sl : SlotId} (h : Machine.execStepTimeout p sl s₀ = .next t₁) (hO : Mask.le objs_execStepTimeout mo) (hP : Mask.le parts_execStepTimeout mp) :
    Moves s₀.dev t₁.dev mo mp := by
  have O {a : Nat} (h : (a &&& objs_execStepTimeout == a) = true) := Mask.le_trans h hO
  have P {a : Nat} (h : (a &&& parts_execStepTimeout == a) = true) := Mask.le_trans h hP
  refine Moves.cmdRunOn h (fun d => ?_) (O (by decide)) (P (by decide))
  try dsimp only
  repeat' first
    | with_reducible exact Moves.refl ..
    | with_reducible refine Moves.run ?_ (O (by decide)) (P (by decide))
    | with_reducible refine Moves.failSlot ?_ (O (by decide)) (P (by decide))
    | with_reducible refine Moves.ite (fun _ => ?_) (fun _ => ?_)
    | with_reducible refine Moves.ite1 (fun _ => ?_) (fun _ => ?_)
    | split
    | dsimp only

def objs_execXsiteTimeout : Nat := 0x37000000000000000000000a400000000000000000000000000000000000000000000000000000000000000000e8020006606cb80100021ff3e4000000000000c7e00100028000000000000
def parts_execXsiteTimeout : Nat := 0x78edbf9
theorem Moves.execXsiteTimeout {p : Plane} {sl : SlotId} (h : Machine.execXsiteTimeout p sl s₀ = .next t₁) (hO : Mask.le objs_execXsiteTimeout mo) (hP : Mask.le parts_execXsiteTimeout mp) :
    Moves s₀.dev t₁.dev mo mp := by
  have O {a : Nat} (h : (a &&& objs_execXsiteTimeout == a) = true) := Mask.le_trans h hO
  have P {a : Nat} (h : (a &&& parts_execXsiteTimeout == a) = true) := Mask.le_trans h hP
  refine Moves.cmdRunOn h (fun d => ?_) (O (by decide)) (P (by decide))
  try dsimp only
  repeat' first
    | with_reducible exact Moves.refl ..
    | with_reducible refine Moves.run ?_ (O (by decide)) (P (by decide))
    | with_reducible refine Moves.failSlot ?_ (O (by decide)) (P (by decide))
    | with_reducible refine Moves.ite (fun _ => ?_) (fun _ => ?_)
    | with_reducible refine Moves.ite1 (fun _ => ?_) (fun _ => ?_)
    | split
    | dsimp only

def objs_execCounts : Nat := 0x37000000000000000000000a400000000000000000000000000000000000000000000000000000000000000000e8020006606cb8010f021ff3e4000000000000c7e00100028000000000000
def parts_execCounts : Nat := 0x78edbf9
theorem Moves.execCounts {p : Plane} {f : Frame} (h : Machine.execCounts p f s₀ = .next t₁) (hO : Mask.le objs_execCounts mo) (hP : Mask.le parts_execCounts mp) :
    Moves s₀.dev t₁.dev mo mp := by
  have O {a : Nat} (h : (a &&& objs_execCounts == a) = true) := Mask.le_trans h hO
  have P {a : Nat} (h : (a &&& parts_execCounts == a) = true) := Mask.le_trans h hP
  refine Moves.cmdRunOn h (fun d => ?_) (O (by decide)) (P (by decide))
  try dsimp only
  repeat' first
    | with_reducible exact Moves.refl ..
    | with_reducible refine Moves.takeIn ?_ (O (by decide)) (P (by decide))
    | with_reducible refine Moves.countsRx ?_ (O (by decide)) (P (by decide))
    | dsimp only

def objs_execGrpExclude : Nat := 0x37000000000000000000000a400000058000000000000000000000000000000000000000000000000000000000e8020006606cb801c0021ff3e4000000000000c7e00100028000000000000
def parts_execGrpExclude : Nat := 0x80000000078edbf9
theorem Moves.execGrpExclude {p : Plane} {v : BitVec 16} {rq : Req} (h : Machine.execGrpExclude p v rq s₀ = .next t₁) (hO : Mask.le objs_execGrpExclude mo) (hP : Mask.le parts_execGrpExclude mp) :
    Moves s₀.dev t₁.dev mo mp := by
  have O {a : Nat} (h : (a &&& objs_execGrpExclude == a) = true) := Mask.le_trans h hO
  have P {a : Nat} (h : (a &&& parts_execGrpExclude == a) = true) := Mask.le_trans h hP
  refine Moves.cmdRun h (fun d => ?_) (O (by decide)) (P (by decide))
  try dsimp only
  repeat' first
    | with_reducible exact Moves.refl ..
    | with_reducible refine Moves.request ?_ (fun d => ?_) (O (by decide)) (P (by decide))
    | with_reducible refine Moves.doWrite ?_ (fun d => ?_)
    | with_reducible refine Moves.grpExclude ?_ (O (by decide)) (P (by decide))
    | with_reducible refine Moves.run ?_ (O (by decide)) (P (by decide))
    | dsimp only

def objs_execGrpCommit : Nat := 0x37000000000000000000000a400000058000000000000000000000000000000000000000000000000000000000e8020006606cb80100021ff3e4000000000000c7e00100028000000000000
def parts_execGrpCommit : Nat := 0x80000000078edbf9
theorem Moves.execGrpCommit {p : Plane} {rq : Req} (h : Machine.execGrpCommit p rq s₀ = .next t₁) (hO : Mask.le objs_execGrpCommit mo) (hP : Mask.le parts_execGrpCommit mp) :
    Moves s₀.dev t₁.dev mo mp := by
  have O {a : Nat} (h : (a &&& objs_execGrpCommit == a) = true) := Mask.le_trans h hO
  have P {a : Nat} (h : (a &&& parts_execGrpCommit == a) = true) := Mask.le_trans h hP
  refine Moves.cmdRun h (fun d => ?_) (O (by decide)) (P (by decide))
  try dsimp only
  repeat' first
    | with_reducible exact Moves.refl ..
    | with_reducible refine Moves.commandNow ?_ (fun d => ?_) (O (by decide)) (P (by decide))
    | with_reducible refine Moves.grpCommit ?_ (O (by decide)) (P (by decide))
    | with_reducible refine Moves.run ?_ (O (by decide)) (P (by decide))
    | dsimp only

def objs_execGrpBoundary : Nat := 0x37000000000000000000000a400000000000000000000000000000000000000000000000000000000000000000e8020006606cb80100021ff3e4000000000000c7e00100028000000000000
def parts_execGrpBoundary : Nat := 0x78edbf9
theorem Moves.execGrpBoundary {p : Plane} {g : GroupId} (h : Machine.execGrpBoundary p g s₀ = .next t₁) (hO : Mask.le objs_execGrpBoundary mo) (hP : Mask.le parts_execGrpBoundary mp) :
    Moves s₀.dev t₁.dev mo mp := by
  have O {a : Nat} (h : (a &&& objs_execGrpBoundary == a) = true) := Mask.le_trans h hO
  have P {a : Nat} (h : (a &&& parts_execGrpBoundary == a) = true) := Mask.le_trans h hP
  refine Moves.cmdRunOn h (fun d => ?_) (O (by decide)) (P (by decide))
  try dsimp only
  repeat' first
    | with_reducible exact Moves.refl ..
    | with_reducible refine Moves.grpBoundary ?_ (O (by decide)) (P (by decide))
    | dsimp only

def objs_execSyncValueWrite : Nat := 0x37000000000000000000000a400000058000000000000000000000000000000000000000000000000000000000e8020006606cb80100021ff3e4000000000000c7e00100028000000000000
def parts_execSyncValueWrite : Nat := 0x80000000078edbf9
theorem Moves.execSyncValueWrite {p : Plane} {v : BitVec 64} {rq : Req} (h : Machine.execSyncValueWrite p v rq s₀ = .next t₁) (hO : Mask.le objs_execSyncValueWrite mo) (hP : Mask.le parts_execSyncValueWrite mp) :
    Moves s₀.dev t₁.dev mo mp := by
  have O {a : Nat} (h : (a &&& objs_execSyncValueWrite == a) = true) := Mask.le_trans h hO
  have P {a : Nat} (h : (a &&& parts_execSyncValueWrite == a) = true) := Mask.le_trans h hP
  refine Moves.cmdRun h (fun d => ?_) (O (by decide)) (P (by decide))
  try dsimp only
  repeat' first
    | with_reducible exact Moves.refl ..
    | with_reducible refine Moves.request ?_ (fun d => ?_) (O (by decide)) (P (by decide))
    | with_reducible refine Moves.doWrite ?_ (fun d => ?_)
    | with_reducible refine Moves.syncWrite ?_ (O (by decide)) (P (by decide))
    | with_reducible refine Moves.run ?_ (O (by decide)) (P (by decide))
    | dsimp only

def objs_execCompressUnit : Nat := 0x37000000000000000000000a4000000000000000000000000000000000000000000000000000000000000000006009e000000000000000000004000000000000c7200000028000000000000
def parts_execCompressUnit : Nat := 0x40ec3e9
theorem Moves.execCompressUnit {p : Plane} {c : Fin 256} (h : Machine.execCompressUnit p c s₀ = .next t₁) (hO : Mask.le objs_execCompressUnit mo) (hP : Mask.le parts_execCompressUnit mp) :
    Moves s₀.dev t₁.dev mo mp := by
  have O {a : Nat} (h : (a &&& objs_execCompressUnit == a) = true) := Mask.le_trans h hO
  have P {a : Nat} (h : (a &&& parts_execCompressUnit == a) = true) := Mask.le_trans h hP
  refine Moves.cmdRunOn h (fun d => ?_) (O (by decide)) (P (by decide))
  try dsimp only
  repeat' first
    | with_reducible exact Moves.refl ..
    | with_reducible refine Moves.cmpUnit ?_ (O (by decide)) (P (by decide))
    | dsimp only

def objs_execLrTile : Nat := 0x37000000000000000000000a400000000000000000000000000000000000000000000000000000000000000000e8062006606cb80100021ff3fc000000000000c7e00100028000000000000
def parts_execLrTile : Nat := 0x78edbf9
theorem Moves.execLrTile {p : Plane} {f : Frame} (h : Machine.execLrTile p f s₀ = .next t₁) (hO : Mask.le objs_execLrTile mo) (hP : Mask.le parts_execLrTile mp) :
    Moves s₀.dev t₁.dev mo mp := by
  have O {a : Nat} (h : (a &&& objs_execLrTile == a) = true) := Mask.le_trans h hO
  have P {a : Nat} (h : (a &&& parts_execLrTile == a) = true) := Mask.le_trans h hP
  refine Moves.cmdRunOn h (fun d => ?_) (O (by decide)) (P (by decide))
  try dsimp only
  repeat' first
    | with_reducible exact Moves.refl ..
    | with_reducible refine Moves.lrTileRx ?_ (O (by decide)) (P (by decide))
    | with_reducible refine Moves.takeIn ?_ (O (by decide)) (P (by decide))
    | dsimp only

def objs_execCctxLoad : Nat := 0x37000000000000000000000a402b80058000000000000000000000000000000000000000000000000000000000f8020006606cb80100021ff3e4000000000000c7e00100028000000000000
def parts_execCctxLoad : Nat := 0x80000000078edbf9
theorem Moves.execCctxLoad {p : Plane} {rq : Req} (h : Machine.execCctxLoad p rq s₀ = .next t₁) (hO : Mask.le objs_execCctxLoad mo) (hP : Mask.le parts_execCctxLoad mp) :
    Moves s₀.dev t₁.dev mo mp := by
  have O {a : Nat} (h : (a &&& objs_execCctxLoad == a) = true) := Mask.le_trans h hO
  have P {a : Nat} (h : (a &&& parts_execCctxLoad == a) = true) := Mask.le_trans h hP
  refine Moves.cmdRun h (fun d => ?_) (O (by decide)) (P (by decide))
  try dsimp only
  repeat' first
    | with_reducible exact Moves.refl ..
    | with_reducible refine Moves.command ?_ (fun d => ?_) (O (by decide)) (P (by decide))
    | with_reducible refine Moves.run ?_ (O (by decide)) (P (by decide))
    | with_reducible refine Moves.cctxCmd ?_ (O (by decide)) (P (by decide))
    | dsimp only

def objs_execCctxClear : Nat := 0x37000000000000000000000a402b80058000000000000000000000000000000000000000000000000000000000f8020006606cb80100021ff3e4000000000000c7e00100028000000000000
def parts_execCctxClear : Nat := 0x80000000078edbf9
theorem Moves.execCctxClear {p : Plane} {rq : Req} (h : Machine.execCctxClear p rq s₀ = .next t₁) (hO : Mask.le objs_execCctxClear mo) (hP : Mask.le parts_execCctxClear mp) :
    Moves s₀.dev t₁.dev mo mp := by
  have O {a : Nat} (h : (a &&& objs_execCctxClear == a) = true) := Mask.le_trans h hO
  have P {a : Nat} (h : (a &&& parts_execCctxClear == a) = true) := Mask.le_trans h hP
  refine Moves.cmdRun h (fun d => ?_) (O (by decide)) (P (by decide))
  try dsimp only
  repeat' first
    | with_reducible exact Moves.refl ..
    | with_reducible refine Moves.command ?_ (fun d => ?_) (O (by decide)) (P (by decide))
    | with_reducible refine Moves.run ?_ (O (by decide)) (P (by decide))
    | with_reducible refine Moves.cctxCmd ?_ (O (by decide)) (P (by decide))
    | dsimp only

def objs_execRxForwardedFrame : Nat := 0x37000000000000000000000a4000000000003000040000000001180a8800000000000000000000000100000000e8020006606cb80120021ff3e4000000000000c7e02103c7e817e3c300000
def parts_execRxForwardedFrame : Nat := 0x178ffff9
theorem Moves.execRxForwardedFrame {p : Plane} {n : Port} {f : Frame} (h : Machine.execRxForwardedFrame p n f s₀ = .next t₁) (hO : Mask.le objs_execRxForwardedFrame mo) (hP : Mask.le parts_execRxForwardedFrame mp) :
    Moves s₀.dev t₁.dev mo mp := by
  have O {a : Nat} (h : (a &&& objs_execRxForwardedFrame == a) = true) := Mask.le_trans h hO
  have P {a : Nat} (h : (a &&& parts_execRxForwardedFrame == a) = true) := Mask.le_trans h hP
  refine Moves.cmdCarry h (fun d => ?_) (O (by decide)) (P (by decide))
  try dsimp only
  repeat' first
    | with_reducible exact Moves.refl ..
    | with_reducible refine Moves.rxForwarded ?_ (O (by decide)) (P (by decide))
    | dsimp only

def objs_execReseqGapTimeout : Nat := 0x37000000000000000000000a4000000000001000000000000001180a8800000000000000000000000100000000e8020006606cb80120021ff3e4000000000000c7e0210047e800200000000
def parts_execReseqGapTimeout : Nat := 0x178ffff9
theorem Moves.execReseqGapTimeout {p : Plane} {flow : FlowId} (h : Machine.execReseqGapTimeout p flow s₀ = .next t₁) (hO : Mask.le objs_execReseqGapTimeout mo) (hP : Mask.le parts_execReseqGapTimeout mp) :
    Moves s₀.dev t₁.dev mo mp := by
  have O {a : Nat} (h : (a &&& objs_execReseqGapTimeout == a) = true) := Mask.le_trans h hO
  have P {a : Nat} (h : (a &&& parts_execReseqGapTimeout == a) = true) := Mask.le_trans h hP
  refine Moves.cmdRunOn h (fun d => ?_) (O (by decide)) (P (by decide))
  try dsimp only
  repeat' first
    | with_reducible exact Moves.refl ..
    | with_reducible refine Moves.flowRun ?_ (O (by decide)) (P (by decide))
    | dsimp only

def objs_execReseqFlowExpire : Nat := 0x3000000000000000000000a4000000000000000000000000000000000000000000000000000000000000000000000000000000000000000000000000000000000000000000000000000000
def parts_execReseqFlowExpire : Nat := 0x20a0
theorem Moves.execReseqFlowExpire {p : Plane} {flow : FlowId} (h : Machine.execReseqFlowExpire p flow s₀ = .next t₁) (hO : Mask.le objs_execReseqFlowExpire mo) (hP : Mask.le parts_execReseqFlowExpire mp) :
    Moves s₀.dev t₁.dev mo mp := by
  have O {a : Nat} (h : (a &&& objs_execReseqFlowExpire == a) = true) := Mask.le_trans h hO
  have P {a : Nat} (h : (a &&& parts_execReseqFlowExpire == a) = true) := Mask.le_trans h hP
  have S {k : Nat} (h : parts_execReseqFlowExpire.testBit k = true) := Mask.bit h hP
  refine Moves.cmdRunOn h (fun d => ?_) (O (by decide)) (P (by decide))
  try dsimp only
  repeat' first
    | with_reducible exact Moves.refl ..
    | with_reducible refine Moves.with_flows ?_ (S (by decide))
    | dsimp only

def objs_execCkptWrite : Nat := 0x37000000000000000000000a4000000000000000000000000001180a89e0c00187f80000000000000000000000e8020006606cb80100021ff3e4000000000000c7e00100028000000000000
def parts_execCkptWrite : Nat := 0x8178edff9
theorem Moves.execCkptWrite {p : Plane} {port : Attach} {f : Frame} (h : Machine.execCkptWrite p port f s₀ = .next t₁) (hO : Mask.le objs_execCkptWrite mo) (hP : Mask.le parts_execCkptWrite mp) :
    Moves s₀.dev t₁.dev mo mp := by
  have O {a : Nat} (h : (a &&& objs_execCkptWrite == a) = true) := Mask.le_trans h hO
  have P {a : Nat} (h : (a &&& parts_execCkptWrite == a) = true) := Mask.le_trans h hP
  refine Moves.cmdRunOn h (fun d => ?_) (O (by decide)) (P (by decide))
  try dsimp only
  repeat' first
    | with_reducible exact Moves.refl ..
    | with_reducible refine Moves.ckptWrite ?_ (O (by decide)) (P (by decide))
    | with_reducible refine Moves.takeCkpt ?_ (O (by decide)) (P (by decide))
    | with_reducible refine Moves.takeIn ?_ (O (by decide)) (P (by decide))
    | with_reducible refine Moves.ite (fun _ => ?_) (fun _ => ?_)
    | with_reducible refine Moves.ite1 (fun _ => ?_) (fun _ => ?_)
    | split
    | dsimp only

def objs_execCkptRead : Nat := 0x37000000000000000000000a4000000000000000000000000001180a88000000116000000000000000000000000000000000000000000000000400000000004000000000068000200000000
def parts_execCkptRead : Nat := 0x100a5ef9
theorem Moves.execCkptRead {p : Plane} {port : Attach} {f : Frame} (h : Machine.execCkptRead p port f s₀ = .next t₁) (hO : Mask.le objs_execCkptRead mo) (hP : Mask.le parts_execCkptRead mp) :
    Moves s₀.dev t₁.dev mo mp := by
  have O {a : Nat} (h : (a &&& objs_execCkptRead == a) = true) := Mask.le_trans h hO
  have P {a : Nat} (h : (a &&& parts_execCkptRead == a) = true) := Mask.le_trans h hP
  refine Moves.cmdRunOn h (fun d => ?_) (O (by decide)) (P (by decide))
  try dsimp only
  repeat' first
    | with_reducible exact Moves.refl ..
    | with_reducible refine Moves.ckptReadRx ?_ (O (by decide)) (P (by decide))
    | with_reducible refine Moves.takeCkpt ?_ (O (by decide)) (P (by decide))
    | with_reducible refine Moves.takeIn ?_ (O (by decide)) (P (by decide))
    | with_reducible refine Moves.ite (fun _ => ?_) (fun _ => ?_)
    | with_reducible refine Moves.ite1 (fun _ => ?_) (fun _ => ?_)
    | split
    | dsimp only

def objs_execReplCommit : Nat := 0x37000000000000000000000a4000000000000000000000000001180a89e0c00187f80000000000000000000000e8020006606cb80100021ff3e4000000000000c7e00100028000000000000
def parts_execReplCommit : Nat := 0x8178edff9
theorem Moves.execReplCommit {p : Plane} {f : Frame} (h : Machine.execReplCommit p f s₀ = .next t₁) (hO : Mask.le objs_execReplCommit mo) (hP : Mask.le parts_execReplCommit mp) :
    Moves s₀.dev t₁.dev mo mp := by
  have O {a : Nat} (h : (a &&& objs_execReplCommit == a) = true) := Mask.le_trans h hO
  have P {a : Nat} (h : (a &&& parts_execReplCommit == a) = true) := Mask.le_trans h hP
  refine Moves.cmdRunOn h (fun d => ?_) (O (by decide)) (P (by decide))
  try dsimp only
  repeat' first
    | with_reducible exact Moves.refl ..
    | with_reducible refine Moves.ckptWrite ?_ (O (by decide)) (P (by decide))
    | with_reducible refine Moves.takeCkpt ?_ (O (by decide)) (P (by decide))
    | dsimp only

def objs_execReplAck : Nat := 0x37000000000000000000000a4000000000000000000000000000000001e00000610000000000000000000000000000000000000000000000000400000000000000000000028000000000000
def parts_execReplAck : Nat := 0x8000a42e1
theorem Moves.execReplAck {p : Plane} {f : Frame} (h : Machine.execReplAck p f s₀ = .next t₁) (hO : Mask.le objs_execReplAck mo) (hP : Mask.le parts_execReplAck mp) :
    Moves s₀.dev t₁.dev mo mp := by
  have O {a : Nat} (h : (a &&& objs_execReplAck == a) = true) := Mask.le_trans h hO
  have P {a : Nat} (h : (a &&& parts_execReplAck == a) = true) := Mask.le_trans h hP
  refine Moves.cmdRunOn h (fun d => ?_) (O (by decide)) (P (by decide))
  try dsimp only
  repeat' first
    | with_reducible exact Moves.refl ..
    | with_reducible refine Moves.replAckRx ?_ (O (by decide)) (P (by decide))
    | with_reducible refine Moves.takeIn ?_ (O (by decide)) (P (by decide))
    | dsimp only

def objs_execReplTimeout : Nat := 0x37000000000000000000000a4000000000000000000000000000000001e00000600000000000000000000000000000000000000000000000000400000000000000000000028000000000000
def parts_execReplTimeout : Nat := 0x8000a42e1
theorem Moves.execReplTimeout {p : Plane} {g : RgnId} {mirror : Bool} (h : Machine.execReplTimeout p g mirror s₀ = .next t₁) (hO : Mask.le objs_execReplTimeout mo) (hP : Mask.le parts_execReplTimeout mp) :
    Moves s₀.dev t₁.dev mo mp := by
  have O {a : Nat} (h : (a &&& objs_execReplTimeout == a) = true) := Mask.le_trans h hO
  have P {a : Nat} (h : (a &&& parts_execReplTimeout == a) = true) := Mask.le_trans h hP
  refine Moves.cmdRunOn h (fun d => ?_) (O (by decide)) (P (by decide))
  try dsimp only
  repeat' first
    | with_reducible exact Moves.refl ..
    | with_reducible refine Moves.replTimedOut ?_ (O (by decide)) (P (by decide))
    | dsimp only

def objs_execRgnLoad : Nat := 0x37000000000000000000000a402b800580000000000000000000000001e0f00000000000000000000000000000e8020006606cb80100021ff3e4000000000000c7e00100028000000000000
def parts_execRgnLoad : Nat := 0x80000008078edbf9
theorem Moves.execRgnLoad {p : Plane} {rq : Req} (h : Machine.execRgnLoad p rq s₀ = .next t₁) (hO : Mask.le objs_execRgnLoad mo) (hP : Mask.le parts_execRgnLoad mp) :
    Moves s₀.dev t₁.dev mo mp := by
  have O {a : Nat} (h : (a &&& objs_execRgnLoad == a) = true) := Mask.le_trans h hO
  have P {a : Nat} (h : (a &&& parts_execRgnLoad == a) = true) := Mask.le_trans h hP
  refine Moves.cmdRun h (fun d => ?_) (O (by decide)) (P (by decide))
  try dsimp only
  repeat' first
    | with_reducible exact Moves.refl ..
    | with_reducible refine Moves.commandNow ?_ (fun d => ?_) (O (by decide)) (P (by decide))
    | with_reducible refine Moves.rgnLoad ?_ (O (by decide)) (P (by decide))
    | with_reducible refine Moves.run ?_ (O (by decide)) (P (by decide))
    | dsimp only

def objs_execRgnArmCommit : Nat := 0x37000000000000000000000a4000000580000000000000000000000001e0f00188000000000000000000000000e8020006606cb80100021ff3e4000000000000c7e00100028000000000000
def parts_execRgnArmCommit : Nat := 0x80000008078edbf9
theorem Moves.execRgnArmCommit {p : Plane} {rq : Req} (h : Machine.execRgnArmCommit p rq s₀ = .next t₁) (hO : Mask.le objs_execRgnArmCommit mo) (hP : Mask.le parts_execRgnArmCommit mp) :
    Moves s₀.dev t₁.dev mo mp := by
  have O {a : Nat} (h : (a &&& objs_execRgnArmCommit == a) = true) := Mask.le_trans h hO
  have P {a : Nat} (h : (a &&& parts_execRgnArmCommit == a) = true) := Mask.le_trans h hP
  refine Moves.cmdRun h (fun d => ?_) (O (by decide)) (P (by decide))
  try dsimp only
  repeat' first
    | with_reducible exact Moves.refl ..
    | with_reducible refine Moves.commandNow ?_ (fun d => ?_) (O (by decide)) (P (by decide))
    | with_reducible refine Moves.rgnArm ?_ (O (by decide)) (P (by decide))
    | with_reducible refine Moves.run ?_ (O (by decide)) (P (by decide))
    | dsimp only

def objs_execRgnAbandon : Nat := 0x37000000000000000000000a400000058000000000000000000000000000700000000000000000000000000000e8020006606cb80100021ff3e4000000000000c7e00100028000000000000
def parts_execRgnAbandon : Nat := 0x80000008078edbf9
theorem Moves.execRgnAbandon {p : Plane} {rq : Req} (h : Machine.execRgnAbandon p rq s₀ = .next t₁) (hO : Mask.le objs_execRgnAbandon mo) (hP : Mask.le parts_execRgnAbandon mp) :
    Moves s₀.dev t₁.dev mo mp := by
  have O {a : Nat} (h : (a &&& objs_execRgnAbandon == a) = true) := Mask.le_trans h hO
  have P {a : Nat} (h : (a &&& parts_execRgnAbandon == a) = true) := Mask.le_trans h hP
  refine Moves.cmdRun h (fun d => ?_) (O (by decide)) (P (by decide))
  try dsimp only
  repeat' first
    | with_reducible exact Moves.refl ..
    | with_reducible refine Moves.commandNow ?_ (fun d => ?_) (O (by decide)) (P (by decide))
    | with_reducible refine Moves.rgnAbandon ?_ (O (by decide)) (P (by decide))
    | with_reducible refine Moves.run ?_ (O (by decide)) (P (by decide))
    | dsimp only

def objs_execRgnClear : Nat := 0x37000000000000000000000a402b800580000000000000000000000001e0f00000000000000000000000000000e8020006606cb80100021ff3e4000000000000c7e00100028000000000000
def parts_execRgnClear : Nat := 0x80000008078edbf9
theorem Moves.execRgnClear {p : Plane} {rq : Req} (h : Machine.execRgnClear p rq s₀ = .next t₁) (hO : Mask.le objs_execRgnClear mo) (hP : Mask.le parts_execRgnClear mp) :
    Moves s₀.dev t₁.dev mo mp := by
  have O {a : Nat} (h : (a &&& objs_execRgnClear == a) = true) := Mask.le_trans h hO
  have P {a : Nat} (h : (a &&& parts_execRgnClear == a) = true) := Mask.le_trans h hP
  refine Moves.cmdRun h (fun d => ?_) (O (by decide)) (P (by decide))
  try dsimp only
  repeat' first
    | with_reducible exact Moves.refl ..
    | with_reducible refine Moves.commandNow ?_ (fun d => ?_) (O (by decide)) (P (by decide))
    | with_reducible refine Moves.rgnClear ?_ (O (by decide)) (P (by decide))
    | with_reducible refine Moves.run ?_ (O (by decide)) (P (by decide))
    | dsimp only

def objs_execRgnCommit : Nat := 0x37000000000000000000000a4000000000000000000000000000000001e0f001880000000000000000000000000000000000000000000000000400000000000000c00000028000000000000
def parts_execRgnCommit : Nat := 0x8000e42e1
theorem Moves.execRgnCommit {p : Plane} {g : RgnId} (h : Machine.execRgnCommit p g s₀ = .next t₁) (hO : Mask.le objs_execRgnCommit mo) (hP : Mask.le parts_execRgnCommit mp) :
    Moves s₀.dev t₁.dev mo mp := by
  have O {a : Nat} (h : (a &&& objs_execRgnCommit == a) = true) := Mask.le_trans h hO
  have P {a : Nat} (h : (a &&& parts_execRgnCommit == a) = true) := Mask.le_trans h hP
  refine Moves.cmdRunOn h (fun d => ?_) (O (by decide)) (P (by decide))
  try dsimp only
  repeat' first
    | with_reducible exact Moves.refl ..
    | with_reducible refine Moves.rgnCommit ?_ (O (by decide)) (P (by decide))
    | dsimp only

def objs_execDrainComplete : Nat := 0x3000000000000000000000a4000000000000000000000000000000000000000000000000000000000000000000000000000000000000000000000000000000000000000000000000000000
def parts_execDrainComplete : Nat := 0x8000000a0
theorem Moves.execDrainComplete {p : Plane} {g : RgnId} (h : Machine.execDrainComplete p g s₀ = .next t₁) (hO : Mask.le objs_execDrainComplete mo) (hP : Mask.le parts_execDrainComplete mp) :
    Moves s₀.dev t₁.dev mo mp := by
  have O {a : Nat} (h : (a &&& objs_execDrainComplete == a) = true) := Mask.le_trans h hO
  have P {a : Nat} (h : (a &&& parts_execDrainComplete == a) = true) := Mask.le_trans h hP
  refine Moves.cmdRunOn h (fun d => ?_) (O (by decide)) (P (by decide))
  try dsimp only
  repeat' first
    | with_reducible exact Moves.refl ..
    | with_reducible refine Moves.drainDone ?_ (O (by decide)) (P (by decide))
    | dsimp only

def objs_execCxlLinkDown : Nat := 0x37000000000000000000000a4000000000000000000000000000000000000000000000000000000000000000000000000000000000000000000000000000008800000000000000000000000
def parts_execCxlLinkDown : Nat := 0x8000002a1
theorem Moves.execCxlLinkDown {p : Plane} (h : Machine.execCxlLinkDown p s₀ = .next t₁) (hO : Mask.le objs_execCxlLinkDown mo) (hP : Mask.le parts_execCxlLinkDown mp) :
    Moves s₀.dev t₁.dev mo mp := by
  have O {a : Nat} (h : (a &&& objs_execCxlLinkDown == a) = true) := Mask.le_trans h hO
  have P {a : Nat} (h : (a &&& parts_execCxlLinkDown == a) = true) := Mask.le_trans h hP
  refine Moves.cmdRunOn h (fun d => ?_) (O (by decide)) (P (by decide))
  try dsimp only
  repeat' first
    | with_reducible exact Moves.refl ..
    | with_reducible refine Moves.cxlDown ?_ (O (by decide)) (P (by decide))
    | dsimp only

def objs_execMasterInstall : Nat := 0x37000000000000000000000a402b80058000000000000000000000000000000000001280000000000000000000e8020006606cb80100021ff3e4000000000000c7e00100028000000000000
def parts_execMasterInstall : Nat := 0x80000003078edbf9
theorem Moves.execMasterInstall {p : Plane} {rq : Req} (h : Machine.execMasterInstall p rq s₀ = .next t₁) (hO : Mask.le objs_execMasterInstall mo) (hP : Mask.le parts_execMasterInstall mp) :
    Moves s₀.dev t₁.dev mo mp := by
  have O {a : Nat} (h : (a &&& objs_execMasterInstall == a) = true) := Mask.le_trans h hO
  have P {a : Nat} (h : (a &&& parts_execMasterInstall == a) = true) := Mask.le_trans h hP
  refine Moves.cmdRun h (fun d => ?_) (O (by decide)) (P (by decide))
  try dsimp only
  repeat' first
    | with_reducible exact Moves.refl ..
    | with_reducible refine Moves.command ?_ (fun d => ?_) (O (by decide)) (P (by decide))
    | with_reducible refine Moves.masterCommand ?_ (O (by decide)) (P (by decide))
    | with_reducible refine Moves.run ?_ (O (by decide)) (P (by decide))
    | dsimp only

def objs_execMasterErase : Nat := 0x37000000000000000000000a402b80058000000000000000000000000000000000001280000000000000000000e8020006606cb80100021ff3e4000000000000c7e00100028000000000000
def parts_execMasterErase : Nat := 0x80000003078edbf9
theorem Moves.execMasterErase {p : Plane} {rq : Req} (h : Machine.execMasterErase p rq s₀ = .next t₁) (hO : Mask.le objs_execMasterErase mo) (hP : Mask.le parts_execMasterErase mp) :
    Moves s₀.dev t₁.dev mo mp := by
  have O {a : Nat} (h : (a &&& objs_execMasterErase == a) = true) := Mask.le_trans h hO
  have P {a : Nat} (h : (a &&& parts_execMasterErase == a) = true) := Mask.le_trans h hP
  refine Moves.cmdRun h (fun d => ?_) (O (by decide)) (P (by decide))
  try dsimp only
  repeat' first
    | with_reducible exact Moves.refl ..
    | with_reducible refine Moves.command ?_ (fun d => ?_) (O (by decide)) (P (by decide))
    | with_reducible refine Moves.masterCommand ?_ (O (by decide)) (P (by decide))
    | with_reducible refine Moves.run ?_ (O (by decide)) (P (by decide))
    | dsimp only

def objs_execRekeyCmd : Nat := 0x37000000000000000000000a402b80058000000000000000000000000000000000000000680000000000000000e8020006606cb80100021ff3e4000000000000c7e00100028000000000000
def parts_execRekeyCmd : Nat := 0x80000005078edbf9
theorem Moves.execRekeyCmd {p : Plane} {rq : Req} (h : Machine.execRekeyCmd p rq s₀ = .next t₁) (hO : Mask.le objs_execRekeyCmd mo) (hP : Mask.le parts_execRekeyCmd mp) :
    Moves s₀.dev t₁.dev mo mp := by
  have O {a : Nat} (h : (a &&& objs_execRekeyCmd == a) = true) := Mask.le_trans h hO
  have P {a : Nat} (h : (a &&& parts_execRekeyCmd == a) = true) := Mask.le_trans h hP
  refine Moves.cmdRun h (fun d => ?_) (O (by decide)) (P (by decide))
  try dsimp only
  repeat' first
    | with_reducible exact Moves.refl ..
    | with_reducible refine Moves.commandNow ?_ (fun d => ?_) (O (by decide)) (P (by decide))
    | with_reducible refine Moves.rekeyCommand ?_ (O (by decide)) (P (by decide))
    | with_reducible refine Moves.run ?_ (O (by decide)) (P (by decide))
    | dsimp only

def objs_execLhAdminWrite : Nat := 0x370000001c0000000020000a402b800580003000040000000001180a880000000000003e00208000015fb20003e8020006606cb80128021ff3e4000000000000c7e02103c7e800200000000
def parts_execLhAdminWrite : Nat := 0x80000080ff9ffff9
theorem Moves.execLhAdminWrite {p : Plane} {l : Lh} {v : Byte} {rq : Req} (h : Machine.execLhAdminWrite p l v rq s₀ = .next t₁) (hO : Mask.le objs_execLhAdminWrite mo) (hP : Mask.le parts_execLhAdminWrite mp) :
    Moves s₀.dev t₁.dev mo mp := by
  have O {a : Nat} (h : (a &&& objs_execLhAdminWrite == a) = true) := Mask.le_trans h hO
  have P {a : Nat} (h : (a &&& parts_execLhAdminWrite == a) = true) := Mask.le_trans h hP
  refine Moves.cmdRun h (fun d => ?_) (O (by decide)) (P (by decide))
  try dsimp only
  repeat' first
    | with_reducible exact Moves.refl ..
    | with_reducible refine Moves.request ?_ (fun d => ?_) (O (by decide)) (P (by decide))
    | with_reducible refine Moves.doWrite ?_ (fun d => ?_)
    | with_reducible refine Moves.lhAdminWrite ?_ (O (by decide)) (P (by decide))
    | with_reducible refine Moves.run ?_ (O (by decide)) (P (by decide))
    | dsimp only

def objs_execCarrierFrameTx : Nat := 0x37000000000000000000000a402b800000000000000000000000000000000000000000617814400000000000200000000000000000000000000000000000000000000000000000000000000
def parts_execCarrierFrameTx : Nat := 0x7e04012a9
theorem Moves.execCarrierFrameTx {p : Plane} {l : Lh} (h : Machine.execCarrierFrameTx p l s₀ = .next t₁) (hO : Mask.le objs_execCarrierFrameTx mo) (hP : Mask.le parts_execCarrierFrameTx mp) :
    Moves s₀.dev t₁.dev mo mp := by
  have O {a : Nat} (h : (a &&& objs_execCarrierFrameTx == a) = true) := Mask.le_trans h hO
  have P {a : Nat} (h : (a &&& parts_execCarrierFrameTx == a) = true) := Mask.le_trans h hP
  refine Moves.cmdRunOn h (fun d => ?_) (O (by decide)) (P (by decide))
  try dsimp only
  repeat' first
    | with_reducible exact Moves.refl ..
    | with_reducible refine Moves.carrierTx ?_ (O (by decide)) (P (by decide))
    | dsimp only

def objs_execCarrierFrameRx : Nat := 0x370000001c0000000020000a402b800000003000040000000001180a880000000000003e6c208d41417ffa0fdae8020006606cb80128021ff3e4000000000000c7e02103c7e800200000000
def parts_execCarrierFrameRx : Nat := 0x85ff9ffff9
theorem Moves.execCarrierFrameRx {p : Plane} {l : Lh} {cf : CarrierFrame} (h : Machine.execCarrierFrameRx p l cf s₀ = .next t₁) (hO : Mask.le objs_execCarrierFrameRx mo) (hP : Mask.le parts_execCarrierFrameRx mp) :
    Moves s₀.dev t₁.dev mo mp := by
  have O {a : Nat} (h : (a &&& objs_execCarrierFrameRx == a) = true) := Mask.le_trans h hO
  have P {a : Nat} (h : (a &&& parts_execCarrierFrameRx == a) = true) := Mask.le_trans h hP
  refine Moves.cmdRunOn h (fun d => ?_) (O (by decide)) (P (by decide))
  try dsimp only
  repeat' first
    | with_reducible exact Moves.refl ..
    | with_reducible refine Moves.carrierRx ?_ (O (by decide)) (P (by decide))
    | dsimp only

def objs_execCarrierFrameAbsent : Nat := 0x370000001c0000000020000a4000000000003000040000000001180a880000000000003e00208000015fb20b82e8020006606cb80128021ff3e4000000000000c7e02103c7e800200000000
def parts_execCarrierFrameAbsent : Nat := 0x80ff9ffff9
theorem Moves.execCarrierFrameAbsent {p : Plane} {l : Lh} (h : Machine.execCarrierFrameAbsent p l s₀ = .next t₁) (hO : Mask.le objs_execCarrierFrameAbsent mo) (hP : Mask.le parts_execCarrierFrameAbsent mp) :
    Moves s₀.dev t₁.dev mo mp := by
  have O {a : Nat} (h : (a &&& objs_execCarrierFrameAbsent == a) = true) := Mask.le_trans h hO
  have P {a : Nat} (h : (a &&& parts_execCarrierFrameAbsent == a) = true) := Mask.le_trans h hP
  refine Moves.cmdRunOn h (fun d => ?_) (O (by decide)) (P (by decide))
  try dsimp only
  repeat' first
    | with_reducible exact Moves.refl ..
    | with_reducible refine Moves.badFrame ?_ (O (by decide)) (P (by decide))
    | with_reducible refine Moves.ite (fun _ => ?_) (fun _ => ?_)
    | with_reducible refine Moves.ite1 (fun _ => ?_) (fun _ => ?_)
    | split
    | dsimp only

def objs_execLhLossOfSignal : Nat := 0x370000001c0000000020000a4000000000003000040000000001180a880000000000003e00208000015fb20002e8020006606cb80128021ff3e4000000000000c7e02103c7e800200000000
def parts_execLhLossOfSignal : Nat := 0x80ff9ffff9
theorem Moves.execLhLossOfSignal {p : Plane} {l : Lh} (h : Machine.execLhLossOfSignal p l s₀ = .next t₁) (hO : Mask.le objs_execLhLossOfSignal mo) (hP : Mask.le parts_execLhLossOfSignal mp) :
    Moves s₀.dev t₁.dev mo mp := by
  have O {a : Nat} (h : (a &&& objs_execLhLossOfSignal == a) = true) := Mask.le_trans h hO
  have P {a : Nat} (h : (a &&& parts_execLhLossOfSignal == a) = true) := Mask.le_trans h hP
  refine Moves.cmdRunOn h (fun d => ?_) (O (by decide)) (P (by decide))
  try dsimp only
  repeat' first
    | with_reducible exact Moves.refl ..
    | with_reducible refine Moves.goOof ?_ (O (by decide)) (P (by decide))
    | dsimp only

def objs_execMultiframeBoundary : Nat := 0x37000000000000000000000a402b800000000000000000000000000000000000000000006a000542a2000600020000000000000000000000000000000000000000000000000000000000000
def parts_execMultiframeBoundary : Nat := 0x5681802a1
theorem Moves.execMultiframeBoundary {p : Plane} (h : Machine.execMultiframeBoundary p s₀ = .next t₁) (hO : Mask.le objs_execMultiframeBoundary mo) (hP : Mask.le parts_execMultiframeBoundary mp) :
    Moves s₀.dev t₁.dev mo mp := by
  have O {a : Nat} (h : (a &&& objs_execMultiframeBoundary == a) = true) := Mask.le_trans h hO
  have P {a : Nat} (h : (a &&& parts_execMultiframeBoundary == a) = true) := Mask.le_trans h hP
  refine Moves.cmdRunOn h (fun d => ?_) (O (by decide)) (P (by decide))
  try dsimp only
  repeat' first
    | with_reducible exact Moves.refl ..
    | with_reducible refine Moves.mfBoundary ?_ (O (by decide)) (P (by decide))
    | dsimp only

def objs_execHoldoffExpiry : Nat := 0x3000000000000000000000a4000000000000000000000000000000000000000000000000000000000000000000000000000000000000000000000000000000000000000000000000000000
def parts_execHoldoffExpiry : Nat := 0x400000a0
theorem Moves.execHoldoffExpiry {p : Plane} {g : Fin 2} (h : Machine.execHoldoffExpiry p g s₀ = .next t₁) (hO : Mask.le objs_execHoldoffExpiry mo) (hP : Mask.le parts_execHoldoffExpiry mp) :
    Moves s₀.dev t₁.dev mo mp := by
  have O {a : Nat} (h : (a &&& objs_execHoldoffExpiry == a) = true) := Mask.le_trans h hO
  have P {a : Nat} (h : (a &&& parts_execHoldoffExpiry == a) = true) := Mask.le_trans h hP
  refine Moves.cmdRunOn h (fun d => ?_) (O (by decide)) (P (by decide))
  try dsimp only
  repeat' first
    | with_reducible exact Moves.refl ..
    | with_reducible refine Moves.holdoffRun ?_ (O (by decide)) (P (by decide))
    | dsimp only

def objs_execWtrExpiry : Nat := 0x3000000000000000000000a4000000000000000000000000000000000000000000000000000000000000000000000000000000000000000000000000000000000000000000000000000000
def parts_execWtrExpiry : Nat := 0x400000a0
theorem Moves.execWtrExpiry {p : Plane} (h : Machine.execWtrExpiry p s₀ = .next t₁) (hO : Mask.le objs_execWtrExpiry mo) (hP : Mask.le parts_execWtrExpiry mp) :
    Moves s₀.dev t₁.dev mo mp := by
  have O {a : Nat} (h : (a &&& objs_execWtrExpiry == a) = true) := Mask.le_trans h hO
  have P {a : Nat} (h : (a &&& parts_execWtrExpiry == a) = true) := Mask.le_trans h hP
  refine Moves.cmdRunOn h (fun d => ?_) (O (by decide)) (P (by decide))
  try dsimp only
  repeat' first
    | with_reducible exact Moves.refl ..
    | with_reducible refine Moves.setTether ?_ (O (by decide)) (P (by decide))
    | dsimp only

def objs_execApsCommand : Nat := 0x37000000000000000000000a400000058000000000000000000000000000000000000000000000000200000000e8020006606cb80100021ff3e4000000000000c7e00100028000000000000
def parts_execApsCommand : Nat := 0x80000000078edbf9
theorem Moves.execApsCommand {p : Plane} {v : Byte} {rq : Req} (h : Machine.execApsCommand p v rq s₀ = .next t₁) (hO : Mask.le objs_execApsCommand mo) (hP : Mask.le parts_execApsCommand mp) :
    Moves s₀.dev t₁.dev mo mp := by
  have O {a : Nat} (h : (a &&& objs_execApsCommand == a) = true) := Mask.le_trans h hO
  have P {a : Nat} (h : (a &&& parts_execApsCommand == a) = true) := Mask.le_trans h hP
  have B {k : Nat} (h : objs_execApsCommand.testBit k = true) := Mask.bit h hO
  refine Moves.cmdRun h (fun d => ?_) (O (by decide)) (P (by decide))
  try dsimp only
  repeat' first
    | with_reducible exact Moves.refl ..
    | with_reducible refine Moves.set ?_ (B (by decide)) (by decide)
    | with_reducible refine Moves.request ?_ (fun d => ?_) (O (by decide)) (P (by decide))
    | with_reducible refine Moves.doWrite ?_ (fun d => ?_)
    | with_reducible refine Moves.run ?_ (O (by decide)) (P (by decide))
    | dsimp only

def objs_execTsiCommitTx : Nat := 0x37000000000000000000000a400000058000000000000000000000000000000000000000000004000000000000e8020006606cb80100021ff3e4000000000000c7e00100028000000000000
def parts_execTsiCommitTx : Nat := 0x80000000478edbf9
theorem Moves.execTsiCommitTx {p : Plane} {rq : Req} (h : Machine.execTsiCommitTx p rq s₀ = .next t₁) (hO : Mask.le objs_execTsiCommitTx mo) (hP : Mask.le parts_execTsiCommitTx mp) :
    Moves s₀.dev t₁.dev mo mp := by
  have O {a : Nat} (h : (a &&& objs_execTsiCommitTx == a) = true) := Mask.le_trans h hO
  have P {a : Nat} (h : (a &&& parts_execTsiCommitTx == a) = true) := Mask.le_trans h hP
  refine Moves.cmdRun h (fun d => ?_) (O (by decide)) (P (by decide))
  try dsimp only
  repeat' first
    | with_reducible exact Moves.refl ..
    | with_reducible refine Moves.tsiCommitWrite ?_ (O (by decide)) (P (by decide))
    | with_reducible refine Moves.run ?_ (O (by decide)) (P (by decide))
    | dsimp only

def objs_execTsiCommitRx : Nat := 0x37000000000000000000000a400000058000000000000000000000000000000000000000000004000000000000e8020006606cb80100021ff3e4000000000000c7e00100028000000000000
def parts_execTsiCommitRx : Nat := 0x80000000478edbf9
theorem Moves.execTsiCommitRx {p : Plane} {rq : Req} (h : Machine.execTsiCommitRx p rq s₀ = .next t₁) (hO : Mask.le objs_execTsiCommitRx mo) (hP : Mask.le parts_execTsiCommitRx mp) :
    Moves s₀.dev t₁.dev mo mp := by
  have O {a : Nat} (h : (a &&& objs_execTsiCommitRx == a) = true) := Mask.le_trans h hO
  have P {a : Nat} (h : (a &&& parts_execTsiCommitRx == a) = true) := Mask.le_trans h hP
  refine Moves.cmdRun h (fun d => ?_) (O (by decide)) (P (by decide))
  try dsimp only
  repeat' first
    | with_reducible exact Moves.refl ..
    | with_reducible refine Moves.tsiCommitWrite ?_ (O (by decide)) (P (by decide))
    | with_reducible refine Moves.run ?_ (O (by decide)) (P (by decide))
    | dsimp only

def objs_execTribDescWrite : Nat := 0x37000000000000000000000a402b800580000000000000000000000000000000000000000000e0000002000000e8020006606cb80100021ff3e4000000000000c7e00100028000000000000
def parts_execTribDescWrite : Nat := 0x80000000c78edbf9
theorem Moves.execTribDescWrite {p : Plane} {v : BitVec 32} {rq : Req} (h : Machine.execTribDescWrite p v rq s₀ = .next t₁) (hO : Mask.le objs_execTribDescWrite mo) (hP : Mask.le parts_execTribDescWrite mp) :
    Moves s₀.dev t₁.dev mo mp := by
  have O {a : Nat} (h : (a &&& objs_execTribDescWrite == a) = true) := Mask.le_trans h hO
  have P {a : Nat} (h : (a &&& parts_execTribDescWrite == a) = true) := Mask.le_trans h hP
  refine Moves.cmdRun h (fun d => ?_) (O (by decide)) (P (by decide))
  try dsimp only
  repeat' first
    | with_reducible exact Moves.refl ..
    | with_reducible refine Moves.request ?_ (fun d => ?_) (O (by decide)) (P (by decide))
    | with_reducible refine Moves.doWrite ?_ (fun d => ?_)
    | with_reducible refine Moves.tribDescWrite ?_ (O (by decide)) (P (by decide))
    | with_reducible refine Moves.run ?_ (O (by decide)) (P (by decide))
    | dsimp only

def objs_execAckReportTimer : Nat := 0x3000000000000000000000a4000000000000000000000000000000000000000000000000000000000000000000000000000000000000000000000000000000000000000000000000000000
def parts_execAckReportTimer : Nat := 0x400000a0
theorem Moves.execAckReportTimer {p : Plane} {tr : Trib} (h : Machine.execAckReportTimer p tr s₀ = .next t₁) (hO : Mask.le objs_execAckReportTimer mo) (hP : Mask.le parts_execAckReportTimer mp) :
    Moves s₀.dev t₁.dev mo mp := by
  have O {a : Nat} (h : (a &&& objs_execAckReportTimer == a) = true) := Mask.le_trans h hO
  have P {a : Nat} (h : (a &&& parts_execAckReportTimer == a) = true) := Mask.le_trans h hP
  refine Moves.cmdRunOn h (fun d => ?_) (O (by decide)) (P (by decide))
  try dsimp only
  repeat' first
    | with_reducible exact Moves.refl ..
    | with_reducible refine Moves.queueAck ?_ (O (by decide)) (P (by decide))
    | with_reducible refine Moves.ite (fun _ => ?_) (fun _ => ?_)
    | with_reducible refine Moves.ite1 (fun _ => ?_) (fun _ => ?_)
    | split
    | dsimp only

def objs_execRenakTimer : Nat := 0x37000000000000000000000a4000000000003000040000000001180a880000000000003e0028800001c0000000e8020006606cb80120021ff3e4000000000000c7e02103c7e800200000000
def parts_execRenakTimer : Nat := 0xd78ffff9
theorem Moves.execRenakTimer {p : Plane} {tr : Trib} (h : Machine.execRenakTimer p tr s₀ = .next t₁) (hO : Mask.le objs_execRenakTimer mo) (hP : Mask.le parts_execRenakTimer mp) :
    Moves s₀.dev t₁.dev mo mp := by
  have O {a : Nat} (h : (a &&& objs_execRenakTimer == a) = true) := Mask.le_trans h hO
  have P {a : Nat} (h : (a &&& parts_execRenakTimer == a) = true) := Mask.le_trans h hP
  refine Moves.cmdRunOn h (fun d => ?_) (O (by decide)) (P (by decide))
  try dsimp only
  repeat' first
    | with_reducible exact Moves.refl ..
    | with_reducible refine Moves.renak ?_ (O (by decide)) (P (by decide))
    | dsimp only

def objs_execRetxTimeout : Nat := 0x3000000000000000000000a4000000000000000000000000000000000000000000000000000000000000000000000000000000000000000000000000000000000000000000000000000000
def parts_execRetxTimeout : Nat := 0x800000a0
theorem Moves.execRetxTimeout {p : Plane} {tr : Trib} (h : Machine.execRetxTimeout p tr s₀ = .next t₁) (hO : Mask.le objs_execRetxTimeout mo) (hP : Mask.le parts_execRetxTimeout mp) :
    Moves s₀.dev t₁.dev mo mp := by
  have O {a : Nat} (h : (a &&& objs_execRetxTimeout == a) = true) := Mask.le_trans h hO
  have P {a : Nat} (h : (a &&& parts_execRetxTimeout == a) = true) := Mask.le_trans h hP
  refine Moves.cmdRunOn h (fun d => ?_) (O (by decide)) (P (by decide))
  try dsimp only
  repeat' first
    | with_reducible exact Moves.refl ..
    | with_reducible refine Moves.retxTimeout ?_ (O (by decide)) (P (by decide))
    | dsimp only

def objs_execDerivationComplete : Nat := 0x37000000000000000000000a402b800000000000000000000000000000000000000000806800000000000000000000000000000000000000000000000000000000000000000000000000000
def parts_execDerivationComplete : Nat := 0x7000002a1
theorem Moves.execDerivationComplete {p : Plane} (h : Machine.execDerivationComplete p s₀ = .next t₁) (hO : Mask.le objs_execDerivationComplete mo) (hP : Mask.le parts_execDerivationComplete mp) :
    Moves s₀.dev t₁.dev mo mp := by
  have O {a : Nat} (h : (a &&& objs_execDerivationComplete == a) = true) := Mask.le_trans h hO
  have P {a : Nat} (h : (a &&& parts_execDerivationComplete == a) = true) := Mask.le_trans h hP
  refine Moves.cmdRunOn h (fun d => ?_) (O (by decide)) (P (by decide))
  try dsimp only
  repeat' first
    | with_reducible exact Moves.refl ..
    | with_reducible refine Moves.derived ?_ (O (by decide)) (P (by decide))
    | dsimp only

def objs_execLongHaulPcsLock : Nat := 0x370000001c0000000020000a4000000000003000040000000001180a880000000000003e00208000015fb20002e8020006606cb80128021ff3e4000000000000c7e02103c7e800200000000
def parts_execLongHaulPcsLock : Nat := 0x80ff9ffff9
theorem Moves.execLongHaulPcsLock {p : Plane} {l : Lh} {lock : Bool} (h : Machine.execLongHaulPcsLock p l lock s₀ = .next t₁) (hO : Mask.le objs_execLongHaulPcsLock mo) (hP : Mask.le parts_execLongHaulPcsLock mp) :
    Moves s₀.dev t₁.dev mo mp := by
  have O {a : Nat} (h : (a &&& objs_execLongHaulPcsLock == a) = true) := Mask.le_trans h hO
  have P {a : Nat} (h : (a &&& parts_execLongHaulPcsLock == a) = true) := Mask.le_trans h hP
  refine Moves.cmdRunOn h (fun d => ?_) (O (by decide)) (P (by decide))
  try dsimp only
  repeat' first
    | with_reducible exact Moves.refl ..
    | with_reducible refine Moves.setLink ?_ (O (by decide)) (P (by decide))
    | with_reducible refine Moves.goOof ?_ (O (by decide)) (P (by decide))
    | with_reducible refine Moves.lhRefresh ?_ (O (by decide)) (P (by decide))
    | with_reducible refine Moves.retuned ?_ (O (by decide)) (P (by decide))
    | with_reducible refine Moves.ite (fun _ => ?_) (fun _ => ?_)
    | with_reducible refine Moves.ite1 (fun _ => ?_) (fun _ => ?_)
    | split
    | dsimp only

def objs_execReducerFrame : Nat := 0x37000000000000000000000a400000000000000000000000000000000000000000000000000000000000000000e8020006606cb80100021ff3ff000000000000c7e00100028000000000000
def parts_execReducerFrame : Nat := 0x78edbf9
theorem Moves.execReducerFrame {p : Plane} {col : Group} {copy : Nat} (h : Machine.execReducerFrame p col copy s₀ = .next t₁) (hO : Mask.le objs_execReducerFrame mo) (hP : Mask.le parts_execReducerFrame mp) :
    Moves s₀.dev t₁.dev mo mp := by
  have O {a : Nat} (h : (a &&& objs_execReducerFrame == a) = true) := Mask.le_trans h hO
  have P {a : Nat} (h : (a &&& parts_execReducerFrame == a) = true) := Mask.le_trans h hP
  refine Moves.cmdCarry h (fun d => ?_) (O (by decide)) (P (by decide))
  try dsimp only
  repeat' first
    | with_reducible exact Moves.refl ..
    | with_reducible refine Moves.reducerTurn ?_ (O (by decide)) (P (by decide))
    | with_reducible refine Moves.ite (fun _ => ?_) (fun _ => ?_)
    | with_reducible refine Moves.ite1 (fun _ => ?_) (fun _ => ?_)
    | split
    | dsimp only

def objs_execSchedulingDecision : Nat := 0x37000000000000000000000a4000000000000000000000000001180a8800000000000000000000000002000000e8020006606cb80100021ff3ff060000000000c7e00100028000040c00000
def parts_execSchedulingDecision : Nat := 0x97dedff9
theorem Moves.execSchedulingDecision {p : Plane} {o : Sink} (h : Machine.execSchedulingDecision p o s₀ = .next t₁) (hO : Mask.le objs_execSchedulingDecision mo) (hP : Mask.le parts_execSchedulingDecision mp) :
    Moves s₀.dev t₁.dev mo mp := by
  have O {a : Nat} (h : (a &&& objs_execSchedulingDecision == a) = true) := Mask.le_trans h hO
  have P {a : Nat} (h : (a &&& parts_execSchedulingDecision == a) = true) := Mask.le_trans h hP
  refine Moves.cmdCarry h (fun d => ?_) (O (by decide)) (P (by decide))
  try dsimp only
  repeat' first
    | with_reducible exact Moves.refl ..
    | with_reducible refine Moves.reducerTurn ?_ (O (by decide)) (P (by decide))
    | with_reducible refine Moves.engineTurn ?_ (O (by decide)) (P (by decide))
    | with_reducible refine Moves.longHaulTurn ?_ (O (by decide)) (P (by decide))
    | with_reducible refine Moves.fabricTurn ?_ (O (by decide)) (P (by decide))
    | split
    | dsimp only

def objs_execGateEntryChange : Nat := 0x3000000000000000000000a4000000000000000000000000000000000000000000000000000000000000000000000000000000000000000000000000800000000000000000000000000000
def parts_execGateEntryChange : Nat := 0x1800a0
theorem Moves.execGateEntryChange {p : Plane} {o : LinePort} (h : Machine.execGateEntryChange p o s₀ = .next t₁) (hO : Mask.le objs_execGateEntryChange mo) (hP : Mask.le parts_execGateEntryChange mp) :
    Moves s₀.dev t₁.dev mo mp := by
  have O {a : Nat} (h : (a &&& objs_execGateEntryChange == a) = true) := Mask.le_trans h hO
  have P {a : Nat} (h : (a &&& parts_execGateEntryChange == a) = true) := Mask.le_trans h hP
  refine Moves.cmdRunOn h (fun d => ?_) (O (by decide)) (P (by decide))
  try dsimp only
  repeat' first
    | with_reducible exact Moves.refl ..
    | with_reducible refine Moves.gateChange ?_ (O (by decide)) (P (by decide))
    | dsimp only

def objs_execGclEnableWrite : Nat := 0x37000000000000000000000a402b80058000000000000000000000000000000000000000000000000000000000e8020006606cb80100021ff3e4000000020000c7e00100028000000000000
def parts_execGclEnableWrite : Nat := 0x80000000078edbf9
theorem Moves.execGclEnableWrite {p : Plane} {v : Byte} {rq : Req} (h : Machine.execGclEnableWrite p v rq s₀ = .next t₁) (hO : Mask.le objs_execGclEnableWrite mo) (hP : Mask.le parts_execGclEnableWrite mp) :
    Moves s₀.dev t₁.dev mo mp := by
  have O {a : Nat} (h : (a &&& objs_execGclEnableWrite == a) = true) := Mask.le_trans h hO
  have P {a : Nat} (h : (a &&& parts_execGclEnableWrite == a) = true) := Mask.le_trans h hP
  have B {k : Nat} (h : objs_execGclEnableWrite.testBit k = true) := Mask.bit h hO
  refine Moves.cmdRun h (fun d => ?_) (O (by decide)) (P (by decide))
  try dsimp only
  repeat' first
    | with_reducible exact Moves.refl ..
    | with_reducible refine Moves.store ?_ (B (by decide)) (by decide) (O (by decide)) (P (by decide))
    | with_reducible refine Moves.request ?_ (fun d => ?_) (O (by decide)) (P (by decide))
    | with_reducible refine Moves.doWrite ?_ (fun d => ?_)
    | with_reducible refine Moves.setOutp ?_ (O (by decide)) (P (by decide))
    | with_reducible refine Moves.run ?_ (O (by decide)) (P (by decide))
    | with_reducible refine Moves.ite (fun _ => ?_) (fun _ => ?_)
    | with_reducible refine Moves.ite1 (fun _ => ?_) (fun _ => ?_)
    | split
    | dsimp only

def objs_execGclPageSwap : Nat := 0x3000000000000000000000a4000000000000000000000000000000000000000000000000000000000000000000000000000000000000000000000000dbc000000000000000000000000000
def parts_execGclPageSwap : Nat := 0x1800a0
theorem Moves.execGclPageSwap {p : Plane} {o : LinePort} (h : Machine.execGclPageSwap p o s₀ = .next t₁) (hO : Mask.le objs_execGclPageSwap mo) (hP : Mask.le parts_execGclPageSwap mp) :
    Moves s₀.dev t₁.dev mo mp := by
  have O {a : Nat} (h : (a &&& objs_execGclPageSwap == a) = true) := Mask.le_trans h hO
  have P {a : Nat} (h : (a &&& parts_execGclPageSwap == a) = true) := Mask.le_trans h hP
  refine Moves.cmdRunOn h (fun d => ?_) (O (by decide)) (P (by decide))
  try dsimp only
  repeat' first
    | with_reducible exact Moves.refl ..
    | with_reducible refine Moves.gclSwap ?_ (O (by decide)) (P (by decide))
    | dsimp only

def objs_execQueuePromotion : Nat := 0x3000000000000000000000a4000000000000000000000000000000000000000000000000000000000000000000000000000000000000000000001000000400000000000000000000000000
def parts_execQueuePromotion : Nat := 0x1800a1
theorem Moves.execQueuePromotion {p : Plane} {o : LinePort} {c : Cls} {t : Tenant} (h : Machine.execQueuePromotion p o c t s₀ = .next t₁) (hO : Mask.le objs_execQueuePromotion mo) (hP : Mask.le parts_execQueuePromotion mp) :
    Moves s₀.dev t₁.dev mo mp := by
  have O {a : Nat} (h : (a &&& objs_execQueuePromotion == a) = true) := Mask.le_trans h hO
  have P {a : Nat} (h : (a &&& parts_execQueuePromotion == a) = true) := Mask.le_trans h hP
  refine Moves.cmdRunOn h (fun d => ?_) (O (by decide)) (P (by decide))
  try dsimp only
  repeat' first
    | with_reducible exact Moves.refl ..
    | with_reducible refine Moves.promote ?_ (O (by decide)) (P (by decide))
    | dsimp only

def objs_execBackgroundPromotion : Nat := 0x3000000000000000000000a4000000000000000000000000000000000000000000000000000000000000000000000000000000000000000000000000000800000000000000000000000000
def parts_execBackgroundPromotion : Nat := 0x1800a1
theorem Moves.execBackgroundPromotion {p : Plane} {o : LinePort} {kind : Fin 3} (h : Machine.execBackgroundPromotion p o kind s₀ = .next t₁) (hO : Mask.le objs_execBackgroundPromotion mo) (hP : Mask.le parts_execBackgroundPromotion mp) :
    Moves s₀.dev t₁.dev mo mp := by
  have O {a : Nat} (h : (a &&& objs_execBackgroundPromotion == a) = true) := Mask.le_trans h hO
  have P {a : Nat} (h : (a &&& parts_execBackgroundPromotion == a) = true) := Mask.le_trans h hP
  refine Moves.cmdRunOn h (fun d => ?_) (O (by decide)) (P (by decide))
  try dsimp only
  repeat' first
    | with_reducible exact Moves.refl ..
    | with_reducible refine Moves.bgPromote ?_ (O (by decide)) (P (by decide))
    | dsimp only

def objs_execObservationSample : Nat := 0x3000000000000000000000a4000000000000000000000000000000000000000000000000000000000000000000000000000000000000000000000f00000000000000000000000000000000
def parts_execObservationSample : Nat := 0x800a0
theorem Moves.execObservationSample {p : Plane} {o : LinePort} (h : Machine.execObservationSample p o s₀ = .next t₁) (hO : Mask.le objs_execObservationSample mo) (hP : Mask.le parts_execObservationSample mp) :
    Moves s₀.dev t₁.dev mo mp := by
  have O {a : Nat} (h : (a &&& objs_execObservationSample == a) = true) := Mask.le_trans h hO
  have P {a : Nat} (h : (a &&& parts_execObservationSample == a) = true) := Mask.le_trans h hP
  refine Moves.cmdRunOn h (fun d => ?_) (O (by decide)) (P (by decide))
  try dsimp only
  repeat' first
    | with_reducible exact Moves.refl ..
    | with_reducible refine Moves.observe ?_ (O (by decide)) (P (by decide))
    | dsimp only

def objs_execBypassInstall : Nat := 0x37000000000000000000000a4000000580000000000000018c01180a8800000000000000000000000000000000e8020006606cb80100021ff3e4000000000000c7e00100068000200001800
def parts_execBypassInstall : Nat := 0x80000000179edff9
theorem Moves.execBypassInstall {p : Plane} {c : Chip} {rq : Req} (h : Machine.execBypassInstall p c rq s₀ = .next t₁) (hO : Mask.le objs_execBypassInstall mo) (hP : Mask.le parts_execBypassInstall mp) :
    Moves s₀.dev t₁.dev mo mp := by
  have O {a : Nat} (h : (a &&& objs_execBypassInstall == a) = true) := Mask.le_trans h hO
  have P {a : Nat} (h : (a &&& parts_execBypassInstall == a) = true) := Mask.le_trans h hP
  refine Moves.cmdRun h (fun d => ?_) (O (by decide)) (P (by decide))
  try dsimp only
  repeat' first
    | with_reducible exact Moves.refl ..
    | with_reducible refine Moves.command ?_ (fun d => ?_) (O (by decide)) (P (by decide))
    | with_reducible refine Moves.bypInstall ?_ (O (by decide)) (P (by decide))
    | with_reducible refine Moves.run ?_ (O (by decide)) (P (by decide))
    | dsimp only

def objs_execBypassRemove : Nat := 0x370000001c0000000020000a4000000580000000000000000c01180a8800000000000000000000000000000000e8020006606cb80108021ff3e4000000000000c7e00100068000200001800
def parts_execBypassRemove : Nat := 0x800000801f9edff9
theorem Moves.execBypassRemove {p : Plane} {c : Chip} {rq : Req} (h : Machine.execBypassRemove p c rq s₀ = .next t₁) (hO : Mask.le objs_execBypassRemove mo) (hP : Mask.le parts_execBypassRemove mp) :
    Moves s₀.dev t₁.dev mo mp := by
  have O {a : Nat} (h : (a &&& objs_execBypassRemove == a) = true) := Mask.le_trans h hO
  have P {a : Nat} (h : (a &&& parts_execBypassRemove == a) = true) := Mask.le_trans h hP
  refine Moves.cmdRun h (fun d => ?_) (O (by decide)) (P (by decide))
  try dsimp only
  repeat' first
    | with_reducible exact Moves.refl ..
    | with_reducible refine Moves.command ?_ (fun d => ?_) (O (by decide)) (P (by decide))
    | with_reducible refine Moves.bypRemove ?_ (O (by decide)) (P (by decide))
    | with_reducible refine Moves.run ?_ (O (by decide)) (P (by decide))
    | dsimp only

def objs_execBypassWindowStart : Nat := 0x37000000000000000000000a4000000000000000000000020001180a88000000000000000000000000000000000000000000000000000000000000000000000000000000000000000001800
def parts_execBypassWindowStart : Nat := 0x101806a1
theorem Moves.execBypassWindowStart {p : Plane} {n : Port} (h : Machine.execBypassWindowStart p n s₀ = .next t₁) (hO : Mask.le objs_execBypassWindowStart mo) (hP : Mask.le parts_execBypassWindowStart mp) :
    Moves s₀.dev t₁.dev mo mp := by
  have O {a : Nat} (h : (a &&& objs_execBypassWindowStart == a) = true) := Mask.le_trans h hO
  have P {a : Nat} (h : (a &&& parts_execBypassWindowStart == a) = true) := Mask.le_trans h hP
  refine Moves.cmdCarry h (fun d => ?_) (O (by decide)) (P (by decide))
  try dsimp only
  repeat' first
    | with_reducible exact Moves.refl ..
    | with_reducible refine Moves.windowStart ?_ (O (by decide)) (P (by decide))
    | dsimp only

def objs_execBypassWindowEnd : Nat := 0x370000001c0000000020000a4000000000000000000000000001180a88000000000000000000000000000000000000000000000000080000000000000000000000c00000040000200001800
def parts_execBypassWindowEnd : Nat := 0x80181c1fa1
theorem Moves.execBypassWindowEnd {p : Plane} {n : Port} (h : Machine.execBypassWindowEnd p n s₀ = .next t₁) (hO : Mask.le objs_execBypassWindowEnd mo) (hP : Mask.le parts_execBypassWindowEnd mp) :
    Moves s₀.dev t₁.dev mo mp := by
  have O {a : Nat} (h : (a &&& objs_execBypassWindowEnd == a) = true) := Mask.le_trans h hO
  have P {a : Nat} (h : (a &&& parts_execBypassWindowEnd == a) = true) := Mask.le_trans h hP
  refine Moves.cmdRunOn h (fun d => ?_) (O (by decide)) (P (by decide))
  try dsimp only
  repeat' first
    | with_reducible exact Moves.refl ..
    | with_reducible refine Moves.windowEnd ?_ (O (by decide)) (P (by decide))
    | dsimp only

def objs_execWindowFrame : Nat := 0x37000000000000000000000a4000000000001000000000180001180a8800000000000000000000000100000000e8020006606cb80120021ff3e4000000000000c7e02103c7e800200300000
def parts_execWindowFrame : Nat := 0x178ffff9
theorem Moves.execWindowFrame {p : Plane} {n : Port} {f : Frame} (h : Machine.execWindowFrame p n f s₀ = .next t₁) (hO : Mask.le objs_execWindowFrame mo) (hP : Mask.le parts_execWindowFrame mp) :
    Moves s₀.dev t₁.dev mo mp := by
  have O {a : Nat} (h : (a &&& objs_execWindowFrame == a) = true) := Mask.le_trans h hO
  have P {a : Nat} (h : (a &&& parts_execWindowFrame == a) = true) := Mask.le_trans h hP
  refine Moves.cmdCarry h (fun d => ?_) (O (by decide)) (P (by decide))
  try dsimp only
  repeat' first
    | with_reducible exact Moves.refl ..
    | with_reducible refine Moves.windowFrame ?_ (O (by decide)) (P (by decide))
    | dsimp only

def objs_execGclCommit : Nat := 0x37000000000000000000000a402b80058000000000000000000000000000000000000000000000000000000000e8020006606cb80100021ff3e4000014000000c7e00100028000000000000
def parts_execGclCommit : Nat := 0x80000000078edbf9
theorem Moves.execGclCommit {p : Plane} {rq : Req} (h : Machine.execGclCommit p rq s₀ = .next t₁) (hO : Mask.le objs_execGclCommit mo) (hP : Mask.le parts_execGclCommit mp) :
    Moves s₀.dev t₁.dev mo mp := by
  have O {a : Nat} (h : (a &&& objs_execGclCommit == a) = true) := Mask.le_trans h hO
  have P {a : Nat} (h : (a &&& parts_execGclCommit == a) = true) := Mask.le_trans h hP
  refine Moves.cmdRun h (fun d => ?_) (O (by decide)) (P (by decide))
  try dsimp only
  repeat' first
    | with_reducible exact Moves.refl ..
    | with_reducible refine Moves.request ?_ (fun d => ?_) (O (by decide)) (P (by decide))
    | with_reducible refine Moves.doWriteNow ?_ (fun d => ?_)
    | with_reducible refine Moves.gclCommit ?_ (O (by decide)) (P (by decide))
    | with_reducible refine Moves.run ?_ (O (by decide)) (P (by decide))
    | dsimp only

def objs_execReducerLaneFault : Nat := 0x370000001c000158003000ca402b800000003000040000000801180a880000000000003e00e08000015fb20002e8021c06606cb8012803dff3e4000000000000c7e02503c7e800200001800
def parts_execReducerLaneFault : Nat := 0xb0ff9ffff9
theorem Moves.execReducerLaneFault {p : Plane} {col : Group} {lane : Fin 68} (h : Machine.execReducerLaneFault p col lane s₀ = .next t₁) (hO : Mask.le objs_execReducerLaneFault mo) (hP : Mask.le parts_execReducerLaneFault mp) :
    Moves s₀.dev t₁.dev mo mp := by
  have O {a : Nat} (h : (a &&& objs_execReducerLaneFault == a) = true) := Mask.le_trans h hO
  have P {a : Nat} (h : (a &&& parts_execReducerLaneFault == a) = true) := Mask.le_trans h hP
  refine Moves.cmdRunOn h (fun d => ?_) (O (by decide)) (P (by decide))
  try dsimp only
  repeat' first
    | with_reducible exact Moves.refl ..
    | with_reducible refine Moves.laneFault ?_ (O (by decide)) (P (by decide))
    | dsimp only

def objs_execSpareLaneStandIn : Nat := 0x370000001c000000003000ca4000000000003000040000000001180a880000000000003e00e08000015fb20002e8021c06606cb80128039ff3e4000000000000c7e02103c7e800200000000
def parts_execSpareLaneStandIn : Nat := 0xa0ff9ffff9
theorem Moves.execSpareLaneStandIn {p : Plane} {col : Group} {lane : Fin 68} (h : Machine.execSpareLaneStandIn p col lane s₀ = .next t₁) (hO : Mask.le objs_execSpareLaneStandIn mo) (hP : Mask.le parts_execSpareLaneStandIn mp) :
    Moves s₀.dev t₁.dev mo mp := by
  have O {a : Nat} (h : (a &&& objs_execSpareLaneStandIn == a) = true) := Mask.le_trans h hO
  have P {a : Nat} (h : (a &&& parts_execSpareLaneStandIn == a) = true) := Mask.le_trans h hP
  refine Moves.cmdRunOn h (fun d => ?_) (O (by decide)) (P (by decide))
  try dsimp only
  repeat' first
    | with_reducible exact Moves.refl ..
    | with_reducible refine Moves.laneStandIn ?_ (O (by decide)) (P (by decide))
    | dsimp only

def objs_execTileFault : Nat := 0x370000001c000158003000ca402b800000003000040000000801180a880000000000003e00e08000015fb20002e8121c06606cb80128039ff3e4000000000000c7e02503c7e800200001800
def parts_execTileFault : Nat := 0xb0ff9ffff9
theorem Moves.execTileFault {p : Plane} {tile : Fin 9} (h : Machine.execTileFault p tile s₀ = .next t₁) (hO : Mask.le objs_execTileFault mo) (hP : Mask.le parts_execTileFault mp) :
    Moves s₀.dev t₁.dev mo mp := by
  have O {a : Nat} (h : (a &&& objs_execTileFault == a) = true) := Mask.le_trans h hO
  have P {a : Nat} (h : (a &&& parts_execTileFault == a) = true) := Mask.le_trans h hP
  refine Moves.cmdRunOn h (fun d => ?_) (O (by decide)) (P (by decide))
  try dsimp only
  repeat' first
    | with_reducible exact Moves.refl ..
    | with_reducible refine Moves.tileFault ?_ (O (by decide)) (P (by decide))
    | dsimp only

def objs_execCipherFault : Nat := 0x370000001c000158003000ca402b800000003000040000000801180a880000000000013e00e08000015fb20002e8021c06606cb80128039ff3e4000000000000c7e02503c7e800200001800
def parts_execCipherFault : Nat := 0xb0ff9ffff9
theorem Moves.execCipherFault {p : Plane} {dir : Fin 2} {pipe : Fin 17} (h : Machine.execCipherFault p dir pipe s₀ = .next t₁) (hO : Mask.le objs_execCipherFault mo) (hP : Mask.le parts_execCipherFault mp) :
    Moves s₀.dev t₁.dev mo mp := by
  have O {a : Nat} (h : (a &&& objs_execCipherFault == a) = true) := Mask.le_trans h hO
  have P {a : Nat} (h : (a &&& parts_execCipherFault == a) = true) := Mask.le_trans h hP
  refine Moves.cmdRunOn h (fun d => ?_) (O (by decide)) (P (by decide))
  try dsimp only
  repeat' first
    | with_reducible exact Moves.refl ..
    | with_reducible refine Moves.cipherFault ?_ (O (by decide)) (P (by decide))
    | dsimp only

def objs_execKiteFault : Nat := 0x370000001c000158003000ca402b800000003000040000000801180a880000000000003e00e08000015fb20002e8021c06606cb80128039ff3e4000000000000c7e02503cfec00200001800
def parts_execKiteFault : Nat := 0x90ff9ffff9
theorem Moves.execKiteFault {p : Plane} {row col : Group} (h : Machine.execKiteFault p row col s₀ = .next t₁) (hO : Mask.le objs_execKiteFault mo) (hP : Mask.le parts_execKiteFault mp) :
    Moves s₀.dev t₁.dev mo mp := by
  have O {a : Nat} (h : (a &&& objs_execKiteFault == a) = true) := Mask.le_trans h hO
  have P {a : Nat} (h : (a &&& parts_execKiteFault == a) = true) := Mask.le_trans h hP
  refine Moves.cmdRunOn h (fun d => ?_) (O (by decide)) (P (by decide))
  try dsimp only
  repeat' first
    | with_reducible exact Moves.refl ..
    | with_reducible refine Moves.kiteFault ?_ (O (by decide)) (P (by decide))
    | dsimp only

def objs_execSpareKiteFault : Nat := 0x370000001c000158003000ca402b800000003000040000000801180a880000000000003e00e08000015fb20002e8021c06606cb80128039ff3e4000000000000c7e02503c7e800200001800
def parts_execSpareKiteFault : Nat := 0x90ff9ffff9
theorem Moves.execSpareKiteFault {p : Plane} {row : Group} (h : Machine.execSpareKiteFault p row s₀ = .next t₁) (hO : Mask.le objs_execSpareKiteFault mo) (hP : Mask.le parts_execSpareKiteFault mp) :
    Moves s₀.dev t₁.dev mo mp := by
  have O {a : Nat} (h : (a &&& objs_execSpareKiteFault == a) = true) := Mask.le_trans h hO
  have P {a : Nat} (h : (a &&& parts_execSpareKiteFault == a) = true) := Mask.le_trans h hP
  refine Moves.cmdRunOn h (fun d => ?_) (O (by decide)) (P (by decide))
  try dsimp only
  repeat' first
    | with_reducible exact Moves.refl ..
    | with_reducible refine Moves.spareKiteFault ?_ (O (by decide)) (P (by decide))
    | dsimp only

def objs_execFaultRetryBistComplete : Nat := 0x370000001c000040003000ca402b800000003000040000000001180a880000000000003e00e08000015fb20002e8021c06606cb8012803dff3e4000000000000c7e02503c7e800200000000
def parts_execFaultRetryBistComplete : Nat := 0xa0ff9ffff9
theorem Moves.execFaultRetryBistComplete {p : Plane} {chan : BitVec 16} {pass : Bool} (h : Machine.execFaultRetryBistComplete p chan pass s₀ = .next t₁) (hO : Mask.le objs_execFaultRetryBistComplete mo) (hP : Mask.le parts_execFaultRetryBistComplete mp) :
    Moves s₀.dev t₁.dev mo mp := by
  have O {a : Nat} (h : (a &&& objs_execFaultRetryBistComplete == a) = true) := Mask.le_trans h hO
  have P {a : Nat} (h : (a &&& parts_execFaultRetryBistComplete == a) = true) := Mask.le_trans h hP
  refine Moves.cmdRunOn h (fun d => ?_) (O (by decide)) (P (by decide))
  try dsimp only
  repeat' first
    | with_reducible exact Moves.refl ..
    | with_reducible refine Moves.retryDone ?_ (O (by decide)) (P (by decide))
    | dsimp only

def objs_execBypassPathCheck : Nat := 0x370000001c000000003000ca402b800000003000040000040801180a880000000000003e00e08000015fb20002e8021c06606cb8012803dff3e4000000000000c7e06503c7e840200003800
def parts_execBypassPathCheck : Nat := 0xa0ff9ffff9
theorem Moves.execBypassPathCheck {p : Plane} {c : Chip} {k : Fin 32} {pass : Bool} (h : Machine.execBypassPathCheck p c k pass s₀ = .next t₁) (hO : Mask.le objs_execBypassPathCheck mo) (hP : Mask.le parts_execBypassPathCheck mp) :
    Moves s₀.dev t₁.dev mo mp := by
  have O {a : Nat} (h : (a &&& objs_execBypassPathCheck == a) = true) := Mask.le_trans h hO
  have P {a : Nat} (h : (a &&& parts_execBypassPathCheck == a) = true) := Mask.le_trans h hP
  refine Moves.cmdRunOn h (fun d => ?_) (O (by decide)) (P (by decide))
  try dsimp only
  repeat' first
    | with_reducible exact Moves.refl ..
    | with_reducible refine Moves.pathCheck ?_ (O (by decide)) (P (by decide))
    | dsimp only

def objs_execLaserAbsent : Nat := 0x370000001c0000000020000a4000000000000000000000000041184aa8000000000000000000000000000000000000000000000000080000000000000000000000c00000040000200001800
def parts_execLaserAbsent : Nat := 0x80181c1fa1
theorem Moves.execLaserAbsent {p : Plane} {c : Chip} {e : Fin 4} (h : Machine.execLaserAbsent p c e s₀ = .next t₁) (hO : Mask.le objs_execLaserAbsent mo) (hP : Mask.le parts_execLaserAbsent mp) :
    Moves s₀.dev t₁.dev mo mp := by
  have O {a : Nat} (h : (a &&& objs_execLaserAbsent == a) = true) := Mask.le_trans h hO
  have P {a : Nat} (h : (a &&& parts_execLaserAbsent == a) = true) := Mask.le_trans h hP
  refine Moves.cmdRunOn h (fun d => ?_) (O (by decide)) (P (by decide))
  try dsimp only
  repeat' first
    | with_reducible exact Moves.refl ..
    | with_reducible refine Moves.laserAbsent ?_ (O (by decide)) (P (by decide))
    | with_reducible refine Moves.ite (fun _ => ?_) (fun _ => ?_)
    | with_reducible refine Moves.ite1 (fun _ => ?_) (fun _ => ?_)
    | split
    | dsimp only

def objs_execLaserLevelAlarm : Nat := 0x37000000000000000000000a400000000000000000000000000118ca88000000000000000000000000000000000000000000000000000000000000000000000000000000000000000000000
def parts_execLaserLevelAlarm : Nat := 0x100802a1
theorem Moves.execLaserLevelAlarm {p : Plane} {c : Chip} {e : Fin 4} {wl : Fin 4} {cdbm : Int} (h : Machine.execLaserLevelAlarm p c e wl cdbm s₀ = .next t₁) (hO : Mask.le objs_execLaserLevelAlarm mo) (hP : Mask.le parts_execLaserLevelAlarm mp) :
    Moves s₀.dev t₁.dev mo mp := by
  have O {a : Nat} (h : (a &&& objs_execLaserLevelAlarm == a) = true) := Mask.le_trans h hO
  have P {a : Nat} (h : (a &&& parts_execLaserLevelAlarm == a) = true) := Mask.le_trans h hP
  refine Moves.cmdRunOn h (fun d => ?_) (O (by decide)) (P (by decide))
  try dsimp only
  repeat' first
    | with_reducible exact Moves.refl ..
    | with_reducible refine Moves.laserLevel ?_ (O (by decide)) (P (by decide))
    | dsimp only

def objs_execLaserPresent : Nat := 0x37000000000000000000000a400000000000000000000000000003c828000000000000000000000000000000000000000000000000000000000000000000000000000000000000000000000
def parts_execLaserPresent : Nat := 0x100806a0
theorem Moves.execLaserPresent {p : Plane} {c : Chip} {e : Fin 4} {cdbm : List Int} {tones : BitVec 4} (h : Machine.execLaserPresent p c e cdbm tones s₀ = .next t₁) (hO : Mask.le objs_execLaserPresent mo) (hP : Mask.le parts_execLaserPresent mp) :
    Moves s₀.dev t₁.dev mo mp := by
  have O {a : Nat} (h : (a &&& objs_execLaserPresent == a) = true) := Mask.le_trans h hO
  have P {a : Nat} (h : (a &&& parts_execLaserPresent == a) = true) := Mask.le_trans h hP
  refine Moves.cmdRunOn h (fun d => ?_) (O (by decide)) (P (by decide))
  try dsimp only
  repeat' first
    | with_reducible exact Moves.refl ..
    | with_reducible refine Moves.laserPresent ?_ (O (by decide)) (P (by decide))
    | dsimp only

def objs_execLaserEnable : Nat := 0x370000001c0000000020000a40000005800000000000000000011a4aa800000000000000000000000000000000e8020006606cb80108021ff3e4000000000000c7e00100068000200001800
def parts_execLaserEnable : Nat := 0x800000801f9edff9
theorem Moves.execLaserEnable {p : Plane} {c : Chip} {rq : Req} (h : Machine.execLaserEnable p c rq s₀ = .next t₁) (hO : Mask.le objs_execLaserEnable mo) (hP : Mask.le parts_execLaserEnable mp) :
    Moves s₀.dev t₁.dev mo mp := by
  have O {a : Nat} (h : (a &&& objs_execLaserEnable == a) = true) := Mask.le_trans h hO
  have P {a : Nat} (h : (a &&& parts_execLaserEnable == a) = true) := Mask.le_trans h hP
  refine Moves.cmdRun h (fun d => ?_) (O (by decide)) (P (by decide))
  try dsimp only
  repeat' first
    | with_reducible exact Moves.refl ..
    | with_reducible refine Moves.command ?_ (fun d => ?_) (O (by decide)) (P (by decide))
    | with_reducible refine Moves.laserCmd ?_ (O (by decide)) (P (by decide))
    | with_reducible refine Moves.run ?_ (O (by decide)) (P (by decide))
    | dsimp only

def objs_execLaserDisable : Nat := 0x370000001c0000000020000a40000005800000000000000000011a4aa800000000000000000000000000000000e8020006606cb80108021ff3e4000000000000c7e00100068000200001800
def parts_execLaserDisable : Nat := 0x800000801f9edff9
theorem Moves.execLaserDisable {p : Plane} {c : Chip} {rq : Req} (h : Machine.execLaserDisable p c rq s₀ = .next t₁) (hO : Mask.le objs_execLaserDisable mo) (hP : Mask.le parts_execLaserDisable mp) :
    Moves s₀.dev t₁.dev mo mp := by
  have O {a : Nat} (h : (a &&& objs_execLaserDisable == a) = true) := Mask.le_trans h hO
  have P {a : Nat} (h : (a &&& parts_execLaserDisable == a) = true) := Mask.le_trans h hP
  refine Moves.cmdRun h (fun d => ?_) (O (by decide)) (P (by decide))
  try dsimp only
  repeat' first
    | with_reducible exact Moves.refl ..
    | with_reducible refine Moves.command ?_ (fun d => ?_) (O (by decide)) (P (by decide))
    | with_reducible refine Moves.laserCmd ?_ (O (by decide)) (P (by decide))
    | with_reducible refine Moves.run ?_ (O (by decide)) (P (by decide))
    | dsimp only

def objs_execCmisPoll : Nat := 0x370000001c0000000020000a4000000000003000040000000001184a880000000000003e00208000015fb20006e8020006606cb80128021ff3e4000000000000c7e02103c7e800200000000
def parts_execCmisPoll : Nat := 0x80ff9ffff9
theorem Moves.execCmisPoll {p : Plane} {m : Fin 20} {st : Byte} {outOff : Bool} (h : Machine.execCmisPoll p m st outOff s₀ = .next t₁) (hO : Mask.le objs_execCmisPoll mo) (hP : Mask.le parts_execCmisPoll mp) :
    Moves s₀.dev t₁.dev mo mp := by
  have O {a : Nat} (h : (a &&& objs_execCmisPoll == a) = true) := Mask.le_trans h hO
  have P {a : Nat} (h : (a &&& parts_execCmisPoll == a) = true) := Mask.le_trans h hP
  refine Moves.cmdRunOn h (fun d => ?_) (O (by decide)) (P (by decide))
  try dsimp only
  repeat' first
    | with_reducible exact Moves.refl ..
    | with_reducible refine Moves.cmisPoll ?_ (O (by decide)) (P (by decide))
    | with_reducible refine Moves.ite (fun _ => ?_) (fun _ => ?_)
    | with_reducible refine Moves.ite1 (fun _ => ?_) (fun _ => ?_)
    | split
    | dsimp only

def objs_execModuleReadyTimeout : Nat := 0x370000001c0000000020000a40000000000000000000000000411a4aa8000000000000000000000000000000000000000000000000080000000000000000000000c00000040000200001800
def parts_execModuleReadyTimeout : Nat := 0x80181c1fa1
theorem Moves.execModuleReadyTimeout {p : Plane} {c : Chip} {e : Fin 4} (h : Machine.execModuleReadyTimeout p c e s₀ = .next t₁) (hO : Mask.le objs_execModuleReadyTimeout mo) (hP : Mask.le parts_execModuleReadyTimeout mp) :
    Moves s₀.dev t₁.dev mo mp := by
  have O {a : Nat} (h : (a &&& objs_execModuleReadyTimeout == a) = true) := Mask.le_trans h hO
  have P {a : Nat} (h : (a &&& parts_execModuleReadyTimeout == a) = true) := Mask.le_trans h hP
  refine Moves.cmdRunOn h (fun d => ?_) (O (by decide)) (P (by decide))
  try dsimp only
  repeat' first
    | with_reducible exact Moves.refl ..
    | with_reducible refine Moves.moduleTimeout ?_ (O (by decide)) (P (by decide))
    | dsimp only

def objs_execXtalkModeWrite : Nat := 0x37000000000000000000000a402b80058000000000000000000000080c00000000000000000000000000000000e8020006606cb80100021ff3e4000000000000c7e00100028000000000000
def parts_execXtalkModeWrite : Nat := 0x80000000178edbf9
theorem Moves.execXtalkModeWrite {p : Plane} {c : Chip} {v : Byte} {rq : Req} (h : Machine.execXtalkModeWrite p c v rq s₀ = .next t₁) (hO : Mask.le objs_execXtalkModeWrite mo) (hP : Mask.le parts_execXtalkModeWrite mp) :
    Moves s₀.dev t₁.dev mo mp := by
  have O {a : Nat} (h : (a &&& objs_execXtalkModeWrite == a) = true) := Mask.le_trans h hO
  have P {a : Nat} (h : (a &&& parts_execXtalkModeWrite == a) = true) := Mask.le_trans h hP
  refine Moves.cmdRun h (fun d => ?_) (O (by decide)) (P (by decide))
  try dsimp only
  repeat' first
    | with_reducible exact Moves.refl ..
    | with_reducible refine Moves.request ?_ (fun d => ?_) (O (by decide)) (P (by decide))
    | with_reducible refine Moves.doWrite ?_ (fun d => ?_)
    | with_reducible refine Moves.xtalkWrite ?_ (O (by decide)) (P (by decide))
    | with_reducible refine Moves.run ?_ (O (by decide)) (P (by decide))
    | dsimp only

def objs_execRingLockLost : Nat := 0x370000001c0000000020000a4000000000000000000000000001381a88000000000000000000000000000000000000000000000000080000000000000000000000c00000000000000001800
def parts_execRingLockLost : Nat := 0x80181c0fa1
theorem Moves.execRingLockLost {p : Plane} {c : Chip} {ring : Ring} (h : Machine.execRingLockLost p c ring s₀ = .next t₁) (hO : Mask.le objs_execRingLockLost mo) (hP : Mask.le parts_execRingLockLost mp) :
    Moves s₀.dev t₁.dev mo mp := by
  have O {a : Nat} (h : (a &&& objs_execRingLockLost == a) = true) := Mask.le_trans h hO
  have P {a : Nat} (h : (a &&& parts_execRingLockLost == a) = true) := Mask.le_trans h hP
  refine Moves.cmdRunOn h (fun d => ?_) (O (by decide)) (P (by decide))
  try dsimp only
  repeat' first
    | with_reducible exact Moves.refl ..
    | with_reducible refine Moves.ringLockLost ?_ (O (by decide)) (P (by decide))
    | dsimp only

def objs_execCalPeriodExpiry : Nat := 0x3000000000000000000000a4000000000000000000000000000000000000000000000000000000000000000000000000000000000000000000000000000000000000000000000000000000
def parts_execCalPeriodExpiry : Nat := 0x100800a0
theorem Moves.execCalPeriodExpiry {p : Plane} {c : Chip} {j : Pair} (h : Machine.execCalPeriodExpiry p c j s₀ = .next t₁) (hO : Mask.le objs_execCalPeriodExpiry mo) (hP : Mask.le parts_execCalPeriodExpiry mp) :
    Moves s₀.dev t₁.dev mo mp := by
  have O {a : Nat} (h : (a &&& objs_execCalPeriodExpiry == a) = true) := Mask.le_trans h hO
  have P {a : Nat} (h : (a &&& parts_execCalPeriodExpiry == a) = true) := Mask.le_trans h hP
  refine Moves.cmdRunOn h (fun d => ?_) (O (by decide)) (P (by decide))
  try dsimp only
  repeat' first
    | with_reducible exact Moves.refl ..
    | with_reducible refine Moves.makeDue ?_ (O (by decide)) (P (by decide))
    | with_reducible refine Moves.requestHolds ?_ (O (by decide)) (P (by decide))
    | dsimp only

def objs_execSetpointErrorDue : Nat := 0x3000000000000000000000a4000000000000000000000000000000000000000000000000000000000000000000000000000000000000000000000000000000000000000000000000000000
def parts_execSetpointErrorDue : Nat := 0x100800a0
theorem Moves.execSetpointErrorDue {p : Plane} {c : Chip} {j : Pair} (h : Machine.execSetpointErrorDue p c j s₀ = .next t₁) (hO : Mask.le objs_execSetpointErrorDue mo) (hP : Mask.le parts_execSetpointErrorDue mp) :
    Moves s₀.dev t₁.dev mo mp := by
  have O {a : Nat} (h : (a &&& objs_execSetpointErrorDue == a) = true) := Mask.le_trans h hO
  have P {a : Nat} (h : (a &&& parts_execSetpointErrorDue == a) = true) := Mask.le_trans h hP
  refine Moves.cmdRunOn h (fun d => ?_) (O (by decide)) (P (by decide))
  try dsimp only
  repeat' first
    | with_reducible exact Moves.refl ..
    | with_reducible refine Moves.makeDue ?_ (O (by decide)) (P (by decide))
    | with_reducible refine Moves.requestHolds ?_ (O (by decide)) (P (by decide))
    | dsimp only

def objs_execPortIdleDetected : Nat := 0x3000000000000000000000a4000000000000000000000000000000000000000000000000000000000000000000000000000000000000000000000000000000000000000000000000000000
def parts_execPortIdleDetected : Nat := 0x100801a0
theorem Moves.execPortIdleDetected {p : Plane} {n : Port} (h : Machine.execPortIdleDetected p n s₀ = .next t₁) (hO : Mask.le objs_execPortIdleDetected mo) (hP : Mask.le parts_execPortIdleDetected mp) :
    Moves s₀.dev t₁.dev mo mp := by
  have O {a : Nat} (h : (a &&& objs_execPortIdleDetected == a) = true) := Mask.le_trans h hO
  have P {a : Nat} (h : (a &&& parts_execPortIdleDetected == a) = true) := Mask.le_trans h hP
  refine Moves.cmdRunOn h (fun d => ?_) (O (by decide)) (P (by decide))
  try dsimp only
  repeat' first
    | with_reducible exact Moves.refl ..
    | with_reducible refine Moves.setCal ?_ (O (by decide)) (P (by decide))
    | with_reducible refine Moves.requestHolds ?_ (O (by decide)) (P (by decide))
    | with_reducible refine Moves.retuned ?_ (O (by decide)) (P (by decide))
    | with_reducible refine Moves.ite (fun _ => ?_) (fun _ => ?_)
    | with_reducible refine Moves.ite1 (fun _ => ?_) (fun _ => ?_)
    | split
    | dsimp only

def objs_execCalRoundStart : Nat := 0x3000000000000000000000a4000000000000000000000000004080000000000000000000000000000000000000000000000000000000000000000000000000000000000000000000000000
def parts_execCalRoundStart : Nat := 0x100000a1
theorem Moves.execCalRoundStart {p : Plane} {c : Chip} (h : Machine.execCalRoundStart p c s₀ = .next t₁) (hO : Mask.le objs_execCalRoundStart mo) (hP : Mask.le parts_execCalRoundStart mp) :
    Moves s₀.dev t₁.dev mo mp := by
  have O {a : Nat} (h : (a &&& objs_execCalRoundStart == a) = true) := Mask.le_trans h hO
  have P {a : Nat} (h : (a &&& parts_execCalRoundStart == a) = true) := Mask.le_trans h hP
  refine Moves.cmdRunOn h (fun d => ?_) (O (by decide)) (P (by decide))
  try dsimp only
  repeat' first
    | with_reducible exact Moves.refl ..
    | with_reducible refine Moves.roundStart ?_ (O (by decide)) (P (by decide))
    | dsimp only

def objs_execCalRoundComplete : Nat := 0x370000001c000000003000ca402b800000003000040000000833b81a880000000000003e00e08000015fb20002e8021c06606cb8012803dff3e4000000000000c7e06503c7e840200003800
def parts_execCalRoundComplete : Nat := 0xa0ff9ffff9
theorem Moves.execCalRoundComplete {p : Plane} {c : Chip} {fits : List RingFit} (h : Machine.execCalRoundComplete p c fits s₀ = .next t₁) (hO : Mask.le objs_execCalRoundComplete mo) (hP : Mask.le parts_execCalRoundComplete mp) :
    Moves s₀.dev t₁.dev mo mp := by
  have O {a : Nat} (h : (a &&& objs_execCalRoundComplete == a) = true) := Mask.le_trans h hO
  have P {a : Nat} (h : (a &&& parts_execCalRoundComplete == a) = true) := Mask.le_trans h hP
  refine Moves.cmdRunOn h (fun d => ?_) (O (by decide)) (P (by decide))
  try dsimp only
  repeat' first
    | with_reducible exact Moves.refl ..
    | with_reducible refine Moves.roundDone ?_ (O (by decide)) (P (by decide))
    | dsimp only

def objs_execCalWindowRequest : Nat := 0x37000000000000000000000a4000000000000000000000000000000080000000000000000000000000000000000000000000000000000000000000000000000000000000000000000000000
def parts_execCalWindowRequest : Nat := 0x2a0
theorem Moves.execCalWindowRequest {p : Plane} {c : Chip} {j : Pair} (h : Machine.execCalWindowRequest p c j s₀ = .next t₁) (hO : Mask.le objs_execCalWindowRequest mo) (hP : Mask.le parts_execCalWindowRequest mp) :
    Moves s₀.dev t₁.dev mo mp := by
  have O {a : Nat} (h : (a &&& objs_execCalWindowRequest == a) = true) := Mask.le_trans h hO
  have P {a : Nat} (h : (a &&& parts_execCalWindowRequest == a) = true) := Mask.le_trans h hP
  refine Moves.cmdRunOn h (fun d => ?_) (O (by decide)) (P (by decide))
  try dsimp only
  repeat' first
    | with_reducible exact Moves.refl ..
    | with_reducible refine Moves.windowRequest ?_ (O (by decide)) (P (by decide))
    | dsimp only

def objs_execCalForce : Nat := 0x37000000000000000000000a400000058000000000000000000000020000000000000000000000000000000000e8020006606cb80100021ff3e4000000000000c7e00100028000000000000
def parts_execCalForce : Nat := 0x80000000178edbf9
theorem Moves.execCalForce {p : Plane} {c : Chip} {rq : Req} (h : Machine.execCalForce p c rq s₀ = .next t₁) (hO : Mask.le objs_execCalForce mo) (hP : Mask.le parts_execCalForce mp) :
    Moves s₀.dev t₁.dev mo mp := by
  have O {a : Nat} (h : (a &&& objs_execCalForce == a) = true) := Mask.le_trans h hO
  have P {a : Nat} (h : (a &&& parts_execCalForce == a) = true) := Mask.le_trans h hP
  have B {k : Nat} (h : objs_execCalForce.testBit k = true) := Mask.bit h hO
  refine Moves.cmdRun h (fun d => ?_) (O (by decide)) (P (by decide))
  try dsimp only
  repeat' first
    | with_reducible exact Moves.refl ..
    | with_reducible refine Moves.set ?_ (B (by decide)) (by decide)
    | with_reducible refine Moves.command ?_ (fun d => ?_) (O (by decide)) (P (by decide))
    | with_reducible refine Moves.setCal ?_ (O (by decide)) (P (by decide))
    | with_reducible refine Moves.run ?_ (O (by decide)) (P (by decide))
    | with_reducible refine Moves.requestHolds ?_ (O (by decide)) (P (by decide))
    | dsimp only

def objs_execMatrixCmd : Nat := 0x37000000000000000000000a400000058000000000000000000000040000000000000000000000000000000000e8020006606cb80100021ff3e4000000000000c7e00100028000000000000
def parts_execMatrixCmd : Nat := 0x80000000178edbf9
theorem Moves.execMatrixCmd {p : Plane} {c : Chip} {rq : Req} (h : Machine.execMatrixCmd p c rq s₀ = .next t₁) (hO : Mask.le objs_execMatrixCmd mo) (hP : Mask.le parts_execMatrixCmd mp) :
    Moves s₀.dev t₁.dev mo mp := by
  have O {a : Nat} (h : (a &&& objs_execMatrixCmd == a) = true) := Mask.le_trans h hO
  have P {a : Nat} (h : (a &&& parts_execMatrixCmd == a) = true) := Mask.le_trans h hP
  have B {k : Nat} (h : objs_execMatrixCmd.testBit k = true) := Mask.bit h hO
  refine Moves.cmdRun h (fun d => ?_) (O (by decide)) (P (by decide))
  try dsimp only
  repeat' first
    | with_reducible exact Moves.refl ..
    | with_reducible refine Moves.set ?_ (B (by decide)) (by decide)
    | with_reducible refine Moves.command ?_ (fun d => ?_) (O (by decide)) (P (by decide))
    | with_reducible refine Moves.setCal ?_ (O (by decide)) (P (by decide))
    | with_reducible refine Moves.run ?_ (O (by decide)) (P (by decide))
    | with_reducible refine Moves.requestHolds ?_ (O (by decide)) (P (by decide))
    | dsimp only

def objs_execMatrixRoundComplete : Nat := 0x37000000000000000000000a4000000000000000000000000008080c08000000000000000000000000000000000000000000000000000000000000000000000000000000000000000000000
def parts_execMatrixRoundComplete : Nat := 0x100802a9
theorem Moves.execMatrixRoundComplete {p : Plane} {c : Chip} {j : Pair} (h : Machine.execMatrixRoundComplete p c j s₀ = .next t₁) (hO : Mask.le objs_execMatrixRoundComplete mo) (hP : Mask.le parts_execMatrixRoundComplete mp) :
    Moves s₀.dev t₁.dev mo mp := by
  have O {a : Nat} (h : (a &&& objs_execMatrixRoundComplete == a) = true) := Mask.le_trans h hO
  have P {a : Nat} (h : (a &&& parts_execMatrixRoundComplete == a) = true) := Mask.le_trans h hP
  refine Moves.cmdRunOn h (fun d => ?_) (O (by decide)) (P (by decide))
  try dsimp only
  repeat' first
    | with_reducible exact Moves.refl ..
    | with_reducible refine Moves.matrixDone ?_ (O (by decide)) (P (by decide))
    | dsimp only

def objs_execHeaterStepCheck : Nat := 0x370000001c000000003000ca402b800000003000040000000831381a880000000000003e00e08000015fb20002e8021c06606cb8012803dff3e4000000000000c7e06503c7e840200003800
def parts_execHeaterStepCheck : Nat := 0xa0ff9ffff9
theorem Moves.execHeaterStepCheck {p : Plane} {c : Chip} {ring : Ring} {heaters : List Nat} (h : Machine.execHeaterStepCheck p c ring heaters s₀ = .next t₁) (hO : Mask.le objs_execHeaterStepCheck mo) (hP : Mask.le parts_execHeaterStepCheck mp) :
    Moves s₀.dev t₁.dev mo mp := by
  have O {a : Nat} (h : (a &&& objs_execHeaterStepCheck == a) = true) := Mask.le_trans h hO
  have P {a : Nat} (h : (a &&& parts_execHeaterStepCheck == a) = true) := Mask.le_trans h hP
  refine Moves.cmdRunOn h (fun d => ?_) (O (by decide)) (P (by decide))
  try dsimp only
  repeat' first
    | with_reducible exact Moves.refl ..
    | with_reducible refine Moves.heaterStep ?_ (O (by decide)) (P (by decide))
    | dsimp only

def objs_execToneVerdict : Nat := 0x370000001c000000003000ca402b800000003000040000000831381a880000000000003e00e08000015fb20002e8021c06606cb8012803dff3e4000000000000c7e06503c7e840200003800
def parts_execToneVerdict : Nat := 0xa0ff9ffff9
theorem Moves.execToneVerdict {p : Plane} {c : Chip} {verdicts : List (Ring × Fin 4)} (h : Machine.execToneVerdict p c verdicts s₀ = .next t₁) (hO : Mask.le objs_execToneVerdict mo) (hP : Mask.le parts_execToneVerdict mp) :
    Moves s₀.dev t₁.dev mo mp := by
  have O {a : Nat} (h : (a &&& objs_execToneVerdict == a) = true) := Mask.le_trans h hO
  have P {a : Nat} (h : (a &&& parts_execToneVerdict == a) = true) := Mask.le_trans h hP
  refine Moves.cmdRunOn h (fun d => ?_) (O (by decide)) (P (by decide))
  try dsimp only
  repeat' first
    | with_reducible exact Moves.refl ..
    | with_reducible refine Moves.toneVerdict ?_ (O (by decide)) (P (by decide))
    | dsimp only

def objs_execResweepComplete : Nat := 0x370000001c000000003000ca402b800000003000040000000821381a880000000000003e00e08000015fb20002e8021c06606cb8012803dff3e4000000000000c7e06503c7e840200003800
def parts_execResweepComplete : Nat := 0xa0ff9ffff9
theorem Moves.execResweepComplete {p : Plane} {c : Chip} {bank : Bank} {locked : Bool} {heaters : List Nat} (h : Machine.execResweepComplete p c bank locked heaters s₀ = .next t₁) (hO : Mask.le objs_execResweepComplete mo) (hP : Mask.le parts_execResweepComplete mp) :
    Moves s₀.dev t₁.dev mo mp := by
  have O {a : Nat} (h : (a &&& objs_execResweepComplete == a) = true) := Mask.le_trans h hO
  have P {a : Nat} (h : (a &&& parts_execResweepComplete == a) = true) := Mask.le_trans h hP
  refine Moves.cmdRunOn h (fun d => ?_) (O (by decide)) (P (by decide))
  try dsimp only
  repeat' first
    | with_reducible exact Moves.refl ..
    | with_reducible refine Moves.resweepDone ?_ (O (by decide)) (P (by decide))
    | dsimp only

def objs_execSync : Nat := 0x370000001c0000000020000a50000000000000003d8002800001180a88000000000000000000000000000000000000000000000000080000000000002800000000c00000040000200001800
def parts_execSync : Nat := 0x180183c1fab
theorem Moves.execSync {p : Plane} {o : LinePort} {m : PtpMsg} (h : Machine.execSync p o m s₀ = .next t₁) (hO : Mask.le objs_execSync mo) (hP : Mask.le parts_execSync mp) :
    Moves s₀.dev t₁.dev mo mp := by
  have O {a : Nat} (h : (a &&& objs_execSync == a) = true) := Mask.le_trans h hO
  have P {a : Nat} (h : (a &&& parts_execSync == a) = true) := Mask.le_trans h hP
  refine Moves.cmdRunOn h (fun d => ?_) (O (by decide)) (P (by decide))
  try dsimp only
  repeat' first
    | with_reducible exact Moves.refl ..
    | with_reducible refine Moves.syncRx ?_ (O (by decide)) (P (by decide))
    | dsimp only

def objs_execAnnounce : Nat := 0x3000000000000000000000a4000000000000000040000000000000000000000000000000000000000000000000000000000000000000000000000000000000000000000000000000000000
def parts_execAnnounce : Nat := 0x2000a9
theorem Moves.execAnnounce {p : Plane} {o : LinePort} {m : PtpMsg} (h : Machine.execAnnounce p o m s₀ = .next t₁) (hO : Mask.le objs_execAnnounce mo) (hP : Mask.le parts_execAnnounce mp) :
    Moves s₀.dev t₁.dev mo mp := by
  have O {a : Nat} (h : (a &&& objs_execAnnounce == a) = true) := Mask.le_trans h hO
  have P {a : Nat} (h : (a &&& parts_execAnnounce == a) = true) := Mask.le_trans h hP
  refine Moves.cmdRunOn h (fun d => ?_) (O (by decide)) (P (by decide))
  try dsimp only
  repeat' first
    | with_reducible exact Moves.refl ..
    | with_reducible refine Moves.announceRx ?_ (O (by decide)) (P (by decide))
    | dsimp only

def objs_execPdelayReq : Nat := 0x37000000000000000000000a40000000000000001400000000000000000000000000000000000000000200000000000000000000000000000000000000000000c7e00000000000000000000
def parts_execPdelayReq : Nat := 0x800c1bb9
theorem Moves.execPdelayReq {p : Plane} {o : LinePort} {m : PtpMsg} (h : Machine.execPdelayReq p o m s₀ = .next t₁) (hO : Mask.le objs_execPdelayReq mo) (hP : Mask.le parts_execPdelayReq mp) :
    Moves s₀.dev t₁.dev mo mp := by
  have O {a : Nat} (h : (a &&& objs_execPdelayReq == a) = true) := Mask.le_trans h hO
  have P {a : Nat} (h : (a &&& parts_execPdelayReq == a) = true) := Mask.le_trans h hP
  refine Moves.cmdRunOn h (fun d => ?_) (O (by decide)) (P (by decide))
  try dsimp only
  repeat' first
    | with_reducible exact Moves.refl ..
    | with_reducible refine Moves.pdelayReqRx ?_ (O (by decide)) (P (by decide))
    | dsimp only

def objs_execPdelayResp : Nat := 0x3000000000000000000000a4000000000000006dc0000000000000000000000000000000000000000000000000000000000000000000000000000000000000000000000000000000000000
def parts_execPdelayResp : Nat := 0x4000a9
theorem Moves.execPdelayResp {p : Plane} {o : LinePort} {m : PtpMsg} (h : Machine.execPdelayResp p o m s₀ = .next t₁) (hO : Mask.le objs_execPdelayResp mo) (hP : Mask.le parts_execPdelayResp mp) :
    Moves s₀.dev t₁.dev mo mp := by
  have O {a : Nat} (h : (a &&& objs_execPdelayResp == a) = true) := Mask.le_trans h hO
  have P {a : Nat} (h : (a &&& parts_execPdelayResp == a) = true) := Mask.le_trans h hP
  refine Moves.cmdRunOn h (fun d => ?_) (O (by decide)) (P (by decide))
  try dsimp only
  repeat' first
    | with_reducible exact Moves.refl ..
    | with_reducible refine Moves.pdelayRespRx ?_ (O (by decide)) (P (by decide))
    | dsimp only

def objs_execSyncTxTimer : Nat := 0x37000000000000000000000a40000000000000001000000000000000000000000000000000000000000200000000000000000000000000000000000000000000c7e00000000000000000000
def parts_execSyncTxTimer : Nat := 0x802c1bb9
theorem Moves.execSyncTxTimer {p : Plane} {tb : Tb} {o : LinePort} (h : Machine.execSyncTxTimer p tb o s₀ = .next t₁) (hO : Mask.le objs_execSyncTxTimer mo) (hP : Mask.le parts_execSyncTxTimer mp) :
    Moves s₀.dev t₁.dev mo mp := by
  have O {a : Nat} (h : (a &&& objs_execSyncTxTimer == a) = true) := Mask.le_trans h hO
  have P {a : Nat} (h : (a &&& parts_execSyncTxTimer == a) = true) := Mask.le_trans h hP
  refine Moves.cmdRunOn h (fun d => ?_) (O (by decide)) (P (by decide))
  try dsimp only
  repeat' first
    | with_reducible exact Moves.refl ..
    | with_reducible refine Moves.syncTx ?_ (O (by decide)) (P (by decide))
    | dsimp only

def objs_execAnnounceTxTimer : Nat := 0x37000000000000000000000a40000000000000001000000000000000000000000000000000000000000200000000000000000000000000000000000000000000c7e00000000000000000000
def parts_execAnnounceTxTimer : Nat := 0x802c1bb9
theorem Moves.execAnnounceTxTimer {p : Plane} {tb : Tb} {o : LinePort} (h : Machine.execAnnounceTxTimer p tb o s₀ = .next t₁) (hO : Mask.le objs_execAnnounceTxTimer mo) (hP : Mask.le parts_execAnnounceTxTimer mp) :
    Moves s₀.dev t₁.dev mo mp := by
  have O {a : Nat} (h : (a &&& objs_execAnnounceTxTimer == a) = true) := Mask.le_trans h hO
  have P {a : Nat} (h : (a &&& parts_execAnnounceTxTimer == a) = true) := Mask.le_trans h hP
  refine Moves.cmdRunOn h (fun d => ?_) (O (by decide)) (P (by decide))
  try dsimp only
  repeat' first
    | with_reducible exact Moves.refl ..
    | with_reducible refine Moves.announceTx ?_ (O (by decide)) (P (by decide))
    | dsimp only

def objs_execPdelayReqTimer : Nat := 0x37000000000000000000000a40000000000000001000000000000000000000000000000000000000000200000000000000000000000000000000000000000000c7e00000000000000000000
def parts_execPdelayReqTimer : Nat := 0x804c1bb9
theorem Moves.execPdelayReqTimer {p : Plane} {o : LinePort} (h : Machine.execPdelayReqTimer p o s₀ = .next t₁) (hO : Mask.le objs_execPdelayReqTimer mo) (hP : Mask.le parts_execPdelayReqTimer mp) :
    Moves s₀.dev t₁.dev mo mp := by
  have O {a : Nat} (h : (a &&& objs_execPdelayReqTimer == a) = true) := Mask.le_trans h hO
  have P {a : Nat} (h : (a &&& parts_execPdelayReqTimer == a) = true) := Mask.le_trans h hP
  refine Moves.cmdRunOn h (fun d => ?_) (O (by decide)) (P (by decide))
  try dsimp only
  repeat' first
    | with_reducible exact Moves.refl ..
    | with_reducible refine Moves.pdelayTx ?_ (O (by decide)) (P (by decide))
    | dsimp only

def objs_execLinkDelayExpiry : Nat := 0x37000000000000000000000a4000000000000004800000000000000000000000000000000000000000000000000000000000000000000000000000000000000000000000000000000000000
def parts_execLinkDelayExpiry : Nat := 0x2a0
theorem Moves.execLinkDelayExpiry {p : Plane} {o : LinePort} (h : Machine.execLinkDelayExpiry p o s₀ = .next t₁) (hO : Mask.le objs_execLinkDelayExpiry mo) (hP : Mask.le parts_execLinkDelayExpiry mp) :
    Moves s₀.dev t₁.dev mo mp := by
  have O {a : Nat} (h : (a &&& objs_execLinkDelayExpiry == a) = true) := Mask.le_trans h hO
  have P {a : Nat} (h : (a &&& parts_execLinkDelayExpiry == a) = true) := Mask.le_trans h hP
  refine Moves.cmdRunOn h (fun d => ?_) (O (by decide)) (P (by decide))
  try dsimp only
  repeat' first
    | with_reducible exact Moves.refl ..
    | with_reducible refine Moves.delayExpired ?_ (O (by decide)) (P (by decide))
    | dsimp only

def objs_execHoldoverTimeout : Nat := 0x37000000000000000000000a4000000000000000030800800000000000000000000000000000000000000000000000000000000000000000000000000000000000000000000000000000000
def parts_execHoldoverTimeout : Nat := 0x2002a1
theorem Moves.execHoldoverTimeout {p : Plane} {tb : Tb} (h : Machine.execHoldoverTimeout p tb s₀ = .next t₁) (hO : Mask.le objs_execHoldoverTimeout mo) (hP : Mask.le parts_execHoldoverTimeout mp) :
    Moves s₀.dev t₁.dev mo mp := by
  have O {a : Nat} (h : (a &&& objs_execHoldoverTimeout == a) = true) := Mask.le_trans h hO
  have P {a : Nat} (h : (a &&& parts_execHoldoverTimeout == a) = true) := Mask.le_trans h hP
  refine Moves.cmdRunOn h (fun d => ?_) (O (by decide)) (P (by decide))
  try dsimp only
  repeat' first
    | with_reducible exact Moves.refl ..
    | with_reducible refine Moves.tbTimeout ?_ (O (by decide)) (P (by decide))
    | dsimp only

def objs_execStandbyDiffRead : Nat := 0x3000000000000000000000a4000000000000000001000000000000000000000000000000000000000000000000000000000000000000000000000000000000000000000000000000000000
def parts_execStandbyDiffRead : Nat := 0x2000a0
theorem Moves.execStandbyDiffRead {p : Plane} {tb : Tb} (h : Machine.execStandbyDiffRead p tb s₀ = .next t₁) (hO : Mask.le objs_execStandbyDiffRead mo) (hP : Mask.le parts_execStandbyDiffRead mp) :
    Moves s₀.dev t₁.dev mo mp := by
  have O {a : Nat} (h : (a &&& objs_execStandbyDiffRead == a) = true) := Mask.le_trans h hO
  have P {a : Nat} (h : (a &&& parts_execStandbyDiffRead == a) = true) := Mask.le_trans h hP
  refine Moves.cmdRunOn h (fun d => ?_) (O (by decide)) (P (by decide))
  try dsimp only
  repeat' first
    | with_reducible exact Moves.refl ..
    | with_reducible refine Moves.standbyRead ?_ (O (by decide)) (P (by decide))
    | dsimp only

def objs_execTbEnableWrite : Nat := 0x37000000000000000000000a402b800580000000010000c0000000000000000000000000000000000000000000e8020006606cb80100021ff3e4000000000000c7e00100028000000000000
def parts_execTbEnableWrite : Nat := 0x8000000007aedbf9
theorem Moves.execTbEnableWrite {p : Plane} {tb : Tb} {v : Byte} {rq : Req} (h : Machine.execTbEnableWrite p tb v rq s₀ = .next t₁) (hO : Mask.le objs_execTbEnableWrite mo) (hP : Mask.le parts_execTbEnableWrite mp) :
    Moves s₀.dev t₁.dev mo mp := by
  have O {a : Nat} (h : (a &&& objs_execTbEnableWrite == a) = true) := Mask.le_trans h hO
  have P {a : Nat} (h : (a &&& parts_execTbEnableWrite == a) = true) := Mask.le_trans h hP
  have B {k : Nat} (h : objs_execTbEnableWrite.testBit k = true) := Mask.bit h hO
  refine Moves.cmdRun h (fun d => ?_) (O (by decide)) (P (by decide))
  try dsimp only
  repeat' first
    | with_reducible exact Moves.refl ..
    | with_reducible refine Moves.store ?_ (B (by decide)) (by decide) (O (by decide)) (P (by decide))
    | with_reducible refine Moves.request ?_ (fun d => ?_) (O (by decide)) (P (by decide))
    | with_reducible refine Moves.doWrite ?_ (fun d => ?_)
    | with_reducible refine Moves.tbEnableTo ?_ (O (by decide)) (P (by decide))
    | with_reducible refine Moves.run ?_ (O (by decide)) (P (by decide))
    | with_reducible refine Moves.ite (fun _ => ?_) (fun _ => ?_)
    | with_reducible refine Moves.ite1 (fun _ => ?_) (fun _ => ?_)
    | split
    | dsimp only

def objs_execTbTimeWrite : Nat := 0x370000001c0000000020000a5000000580000000018000800001180a8800000000000000000000000000000000e8020006606cb80108021ff3e4000028000000c7e00100068000200001800
def parts_execTbTimeWrite : Nat := 0x800001801fbedffb
theorem Moves.execTbTimeWrite {p : Plane} {tb : Tb} {v : BitVec 80} {rq : Req} (h : Machine.execTbTimeWrite p tb v rq s₀ = .next t₁) (hO : Mask.le objs_execTbTimeWrite mo) (hP : Mask.le parts_execTbTimeWrite mp) :
    Moves s₀.dev t₁.dev mo mp := by
  have O {a : Nat} (h : (a &&& objs_execTbTimeWrite == a) = true) := Mask.le_trans h hO
  have P {a : Nat} (h : (a &&& parts_execTbTimeWrite == a) = true) := Mask.le_trans h hP
  refine Moves.cmdRun h (fun d => ?_) (O (by decide)) (P (by decide))
  try dsimp only
  repeat' first
    | with_reducible exact Moves.refl ..
    | with_reducible refine Moves.request ?_ (fun d => ?_) (O (by decide)) (P (by decide))
    | with_reducible refine Moves.doWrite ?_ (fun d => ?_)
    | with_reducible refine Moves.tbTimeTo ?_ (O (by decide)) (P (by decide))
    | with_reducible refine Moves.run ?_ (O (by decide)) (P (by decide))
    | dsimp only

def objs_execTbSwitchToStandby : Nat := 0x37000000000000000000000a4000000580000000020c0000000000000000000000000000000000000000000000e8020006606cb80100021ff3e4000000000000c7e00100028000000000000
def parts_execTbSwitchToStandby : Nat := 0x8000000007aedbf9
theorem Moves.execTbSwitchToStandby {p : Plane} {tb : Tb} {rq : Req} (h : Machine.execTbSwitchToStandby p tb rq s₀ = .next t₁) (hO : Mask.le objs_execTbSwitchToStandby mo) (hP : Mask.le parts_execTbSwitchToStandby mp) :
    Moves s₀.dev t₁.dev mo mp := by
  have O {a : Nat} (h : (a &&& objs_execTbSwitchToStandby == a) = true) := Mask.le_trans h hO
  have P {a : Nat} (h : (a &&& parts_execTbSwitchToStandby == a) = true) := Mask.le_trans h hP
  have B {k : Nat} (h : objs_execTbSwitchToStandby.testBit k = true) := Mask.bit h hO
  refine Moves.cmdRun h (fun d => ?_) (O (by decide)) (P (by decide))
  try dsimp only
  repeat' first
    | with_reducible exact Moves.refl ..
    | with_reducible refine Moves.set ?_ (B (by decide)) (by decide)
    | with_reducible refine Moves.command ?_ (fun d => ?_) (O (by decide)) (P (by decide))
    | with_reducible refine Moves.switchover ?_ (O (by decide)) (P (by decide))
    | with_reducible refine Moves.run ?_ (O (by decide)) (P (by decide))
    | with_reducible refine Moves.ite (fun _ => ?_) (fun _ => ?_)
    | with_reducible refine Moves.ite1 (fun _ => ?_) (fun _ => ?_)
    | split
    | dsimp only

def objs_execTbReturn : Nat := 0x37000000000000000000000a4000000580000000000c0000000000000000000000000000000000000000000000e8020006606cb80100021ff3e4000000000000c7e00100028000000000000
def parts_execTbReturn : Nat := 0x8000000007aedbf9
theorem Moves.execTbReturn {p : Plane} {tb : Tb} {rq : Req} (h : Machine.execTbReturn p tb rq s₀ = .next t₁) (hO : Mask.le objs_execTbReturn mo) (hP : Mask.le parts_execTbReturn mp) :
    Moves s₀.dev t₁.dev mo mp := by
  have O {a : Nat} (h : (a &&& objs_execTbReturn == a) = true) := Mask.le_trans h hO
  have P {a : Nat} (h : (a &&& parts_execTbReturn == a) = true) := Mask.le_trans h hP
  have B {k : Nat} (h : objs_execTbReturn.testBit k = true) := Mask.bit h hO
  refine Moves.cmdRun h (fun d => ?_) (O (by decide)) (P (by decide))
  try dsimp only
  repeat' first
    | with_reducible exact Moves.refl ..
    | with_reducible refine Moves.set ?_ (B (by decide)) (by decide)
    | with_reducible refine Moves.command ?_ (fun d => ?_) (O (by decide)) (P (by decide))
    | with_reducible refine Moves.setTb ?_ (O (by decide)) (P (by decide))
    | with_reducible refine Moves.run ?_ (O (by decide)) (P (by decide))
    | with_reducible refine Moves.ite (fun _ => ?_) (fun _ => ?_)
    | with_reducible refine Moves.ite1 (fun _ => ?_) (fun _ => ?_)
    | split
    | dsimp only

def objs_execSnapshotLatch : Nat := 0x3000000000000000000000a5000000000000000000000000000000000000000000000000000000000000000000000000000000000000000000000000000000000000000000000000000000
def parts_execSnapshotLatch : Nat := 0x100000000a2
theorem Moves.execSnapshotLatch {p : Plane} (h : Machine.execSnapshotLatch p s₀ = .next t₁) (hO : Mask.le objs_execSnapshotLatch mo) (hP : Mask.le parts_execSnapshotLatch mp) :
    Moves s₀.dev t₁.dev mo mp := by
  have O {a : Nat} (h : (a &&& objs_execSnapshotLatch == a) = true) := Mask.le_trans h hO
  have P {a : Nat} (h : (a &&& parts_execSnapshotLatch == a) = true) := Mask.le_trans h hP
  refine Moves.cmdRunOn h (fun d => ?_) (O (by decide)) (P (by decide))
  try dsimp only
  repeat' first
    | with_reducible exact Moves.refl ..
    | with_reducible refine Moves.snapPlane ?_ (O (by decide)) (P (by decide))
    | dsimp only

def objs_execTenantCreate : Nat := 0x7ffffffffffffffffffffffffffffffffffffffffffffffffffffffffffffffffffffffffffffffffffffffffffffffffffffffffffffffffffffffffffffffffffffffffffffffffffffff
def parts_execTenantCreate : Nat := 0xffffffffffffffff
theorem Moves.execTenantCreate {p : Plane} {t : Tenant} {rq : Req} (h : Machine.execTenantCreate p t rq s₀ = .next t₁) (hO : Mask.le objs_execTenantCreate mo) (hP : Mask.le parts_execTenantCreate mp) :
    Moves s₀.dev t₁.dev mo mp := by
  have O {a : Nat} (h : (a &&& objs_execTenantCreate == a) = true) := Mask.le_trans h hO
  have P {a : Nat} (h : (a &&& parts_execTenantCreate == a) = true) := Mask.le_trans h hP
  refine Moves.cmdRun h (fun d => ?_) (O (by decide)) (P (by decide))
  try dsimp only
  repeat' first
    | with_reducible exact Moves.refl ..
    | with_reducible refine Moves.tnCommand ?_ (fun d => ?_) (O (by decide)) (P (by decide))
    | with_reducible refine Moves.tnCreate ?_ (O (by decide)) (P (by decide))
    | with_reducible refine Moves.run ?_ (O (by decide)) (P (by decide))
    | dsimp only

def objs_execTenantSuspend : Nat := 0x7ffffffffffffffffffffffffffffffffffffffffffffffffffffffffffffffffffffffffffffffffffffffffffffffffffffffffffffffffffffffffffffffffffffffffffffffffffffff
def parts_execTenantSuspend : Nat := 0xffffffffffffffff
theorem Moves.execTenantSuspend {p : Plane} {t : Tenant} {rq : Req} (h : Machine.execTenantSuspend p t rq s₀ = .next t₁) (hO : Mask.le objs_execTenantSuspend mo) (hP : Mask.le parts_execTenantSuspend mp) :
    Moves s₀.dev t₁.dev mo mp := by
  have O {a : Nat} (h : (a &&& objs_execTenantSuspend == a) = true) := Mask.le_trans h hO
  have P {a : Nat} (h : (a &&& parts_execTenantSuspend == a) = true) := Mask.le_trans h hP
  refine Moves.cmdRun h (fun d => ?_) (O (by decide)) (P (by decide))
  try dsimp only
  repeat' first
    | with_reducible exact Moves.refl ..
    | with_reducible refine Moves.tnCommand ?_ (fun d => ?_) (O (by decide)) (P (by decide))
    | with_reducible refine Moves.tnSuspend ?_ (O (by decide)) (P (by decide))
    | with_reducible refine Moves.run ?_ (O (by decide)) (P (by decide))
    | dsimp only

def objs_execTenantSuspendDone : Nat := 0x3000000000000000000000a4000000000000040000000000000000000000000000000000000000000000000000000000000000000000000000000000000000000000000000000000000000
def parts_execTenantSuspendDone : Nat := 0xa0
theorem Moves.execTenantSuspendDone {p : Plane} {t : Tenant} (h : Machine.execTenantSuspendDone p t s₀ = .next t₁) (hO : Mask.le objs_execTenantSuspendDone mo) (hP : Mask.le parts_execTenantSuspendDone mp) :
    Moves s₀.dev t₁.dev mo mp := by
  have O {a : Nat} (h : (a &&& objs_execTenantSuspendDone == a) = true) := Mask.le_trans h hO
  have P {a : Nat} (h : (a &&& parts_execTenantSuspendDone == a) = true) := Mask.le_trans h hP
  refine Moves.cmdRunOn h (fun d => ?_) (O (by decide)) (P (by decide))
  try dsimp only
  repeat' first
    | with_reducible exact Moves.refl ..
    | with_reducible refine Moves.tnSuspended ?_ (O (by decide)) (P (by decide))
    | dsimp only

def objs_execTenantResume : Nat := 0x7ffffffffffffffffffffffffffffffffffffffffffffffffffffffffffffffffffffffffffffffffffffffffffffffffffffffffffffffffffffffffffffffffffffffffffffffffffffff
def parts_execTenantResume : Nat := 0xffffffffffffffff
theorem Moves.execTenantResume {p : Plane} {t : Tenant} {rq : Req} (h : Machine.execTenantResume p t rq s₀ = .next t₁) (hO : Mask.le objs_execTenantResume mo) (hP : Mask.le parts_execTenantResume mp) :
    Moves s₀.dev t₁.dev mo mp := by
  have O {a : Nat} (h : (a &&& objs_execTenantResume == a) = true) := Mask.le_trans h hO
  have P {a : Nat} (h : (a &&& parts_execTenantResume == a) = true) := Mask.le_trans h hP
  refine Moves.cmdRun h (fun d => ?_) (O (by decide)) (P (by decide))
  try dsimp only
  repeat' first
    | with_reducible exact Moves.refl ..
    | with_reducible refine Moves.tnCommand ?_ (fun d => ?_) (O (by decide)) (P (by decide))
    | with_reducible refine Moves.tnResume ?_ (O (by decide)) (P (by decide))
    | with_reducible refine Moves.run ?_ (O (by decide)) (P (by decide))
    | dsimp only

def objs_execTenantRemove : Nat := 0x7ffffffffffffffffffffffffffffffffffffffffffffffffffffffffffffffffffffffffffffffffffffffffffffffffffffffffffffffffffffffffffffffffffffffffffffffffffffff
def parts_execTenantRemove : Nat := 0xffffffffffffffff
theorem Moves.execTenantRemove {p : Plane} {t : Tenant} {rq : Req} (h : Machine.execTenantRemove p t rq s₀ = .next t₁) (hO : Mask.le objs_execTenantRemove mo) (hP : Mask.le parts_execTenantRemove mp) :
    Moves s₀.dev t₁.dev mo mp := by
  have O {a : Nat} (h : (a &&& objs_execTenantRemove == a) = true) := Mask.le_trans h hO
  have P {a : Nat} (h : (a &&& parts_execTenantRemove == a) = true) := Mask.le_trans h hP
  refine Moves.cmdRun h (fun d => ?_) (O (by decide)) (P (by decide))
  try dsimp only
  repeat' first
    | with_reducible exact Moves.refl ..
    | with_reducible refine Moves.tnCommand ?_ (fun d => ?_) (O (by decide)) (P (by decide))
    | with_reducible refine Moves.tnRemove ?_ (O (by decide)) (P (by decide))
    | with_reducible refine Moves.run ?_ (O (by decide)) (P (by decide))
    | dsimp only

def objs_execHubLoss : Nat := 0x37000000000000000000000a400000000000000000000000000000000000000000000000000000000000000000e8020006606cb80100021ff3e4000000000000c7e00100028000000000000
def parts_execHubLoss : Nat := 0x78edbf9
theorem Moves.execHubLoss {p : Plane} (h : Machine.execHubLoss p s₀ = .next t₁) (hO : Mask.le objs_execHubLoss mo) (hP : Mask.le parts_execHubLoss mp) :
    Moves s₀.dev t₁.dev mo mp := by
  have O {a : Nat} (h : (a &&& objs_execHubLoss == a) = true) := Mask.le_trans h hO
  have P {a : Nat} (h : (a &&& parts_execHubLoss == a) = true) := Mask.le_trans h hP
  have S {k : Nat} (h : parts_execHubLoss.testBit k = true) := Mask.bit h hP
  refine Moves.cmdRun h (fun d => ?_) (O (by decide)) (P (by decide))
  try dsimp only
  repeat' first
    | with_reducible exact Moves.refl ..
    | with_reducible refine Moves.setPlane ?_ (O (by decide)) (P (by decide))
    | with_reducible refine Moves.latch ?_ (O (by decide)) (P (by decide))
    | with_reducible refine Moves.run ?_ (O (by decide)) (P (by decide))
    | with_reducible refine Moves.with_hub ?_ (S (by decide))
    | dsimp only

def objs_execHubReturn : Nat := 0x3700000000000000000000ca402b80000000000000000000000000000000000000000000000000000000000000e8020006606cb80100021ff3e4000000000000c7e00100028000000000000
def parts_execHubReturn : Nat := 0x78edbf9
theorem Moves.execHubReturn {p : Plane} (h : Machine.execHubReturn p s₀ = .next t₁) (hO : Mask.le objs_execHubReturn mo) (hP : Mask.le parts_execHubReturn mp) :
    Moves s₀.dev t₁.dev mo mp := by
  have O {a : Nat} (h : (a &&& objs_execHubReturn == a) = true) := Mask.le_trans h hO
  have P {a : Nat} (h : (a &&& parts_execHubReturn == a) = true) := Mask.le_trans h hP
  refine Moves.cmdRun h (fun d => ?_) (O (by decide)) (P (by decide))
  try dsimp only
  repeat' first
    | with_reducible exact Moves.refl ..
    | with_reducible refine Moves.hubReturn ?_ (O (by decide)) (P (by decide))
    | with_reducible refine Moves.run ?_ (O (by decide)) (P (by decide))
    | dsimp only

def objs_execPlaneNotAnswering : Nat := 0x37000000000000000000000a500000000000000000000000000000000000000000000000000000000000000000e8020006606cb80100021ff3e4000000000000c7e00100028000000000000
def parts_execPlaneNotAnswering : Nat := 0x100078edbfb
theorem Moves.execPlaneNotAnswering {p : Plane} (h : Machine.execPlaneNotAnswering p s₀ = .next t₁) (hO : Mask.le objs_execPlaneNotAnswering mo) (hP : Mask.le parts_execPlaneNotAnswering mp) :
    Moves s₀.dev t₁.dev mo mp := by
  have O {a : Nat} (h : (a &&& objs_execPlaneNotAnswering == a) = true) := Mask.le_trans h hO
  have P {a : Nat} (h : (a &&& parts_execPlaneNotAnswering == a) = true) := Mask.le_trans h hP
  refine Moves.cmdRun h (fun d => ?_) (O (by decide)) (P (by decide))
  try dsimp only
  repeat' first
    | with_reducible exact Moves.refl ..
    | with_reducible refine Moves.setPlane ?_ (O (by decide)) (P (by decide))
    | with_reducible refine Moves.causeHub ?_ (O (by decide)) (P (by decide))
    | with_reducible refine Moves.snapAbsent ?_ (O (by decide)) (P (by decide))
    | with_reducible refine Moves.run ?_ (O (by decide)) (P (by decide))
    | dsimp only

def objs_execFmTimeout : Nat := 0x37000000000000000000000a400000000000000000000000000000000000000000000000000000000000000000e8020006606cb80100021ff3e4000000000000c7e00100028000000000000
def parts_execFmTimeout : Nat := 0x78edbf9
theorem Moves.execFmTimeout  (h : Machine.execFmTimeout  s₀ = .next t₁) (hO : Mask.le objs_execFmTimeout mo) (hP : Mask.le parts_execFmTimeout mp) :
    Moves s₀.dev t₁.dev mo mp := by
  have O {a : Nat} (h : (a &&& objs_execFmTimeout == a) = true) := Mask.le_trans h hO
  have P {a : Nat} (h : (a &&& parts_execFmTimeout == a) = true) := Mask.le_trans h hP
  have S {k : Nat} (h : parts_execFmTimeout.testBit k = true) := Mask.bit h hP
  refine Moves.cmdRun h (fun d => ?_) (O (by decide)) (P (by decide))
  try dsimp only
  repeat' first
    | with_reducible exact Moves.refl ..
    | with_reducible refine Moves.causeHub ?_ (O (by decide)) (P (by decide))
    | with_reducible refine Moves.run ?_ (O (by decide)) (P (by decide))
    | with_reducible refine Moves.ite (fun _ => ?_) (fun _ => ?_)
    | with_reducible refine Moves.ite1 (fun _ => ?_) (fun _ => ?_)
    | split
    | with_reducible refine Moves.with_hub ?_ (S (by decide))
    | dsimp only

def objs_execFence : Nat := 0x370000001c0000000020000a402b800580003000040000000801180a880000000000003e00208000015fb20002e8020006606cb80128021ff3e4000000000000c7e02103c7e800200001a40
def parts_execFence : Nat := 0x80000080ff9ffff9
theorem Moves.execFence {p : Plane} {rq : Req} (h : Machine.execFence p rq s₀ = .next t₁) (hO : Mask.le objs_execFence mo) (hP : Mask.le parts_execFence mp) :
    Moves s₀.dev t₁.dev mo mp := by
  have O {a : Nat} (h : (a &&& objs_execFence == a) = true) := Mask.le_trans h hO
  have P {a : Nat} (h : (a &&& parts_execFence == a) = true) := Mask.le_trans h hP
  refine Moves.cmdRun h (fun d => ?_) (O (by decide)) (P (by decide))
  try dsimp only
  repeat' first
    | with_reducible exact Moves.refl ..
    | with_reducible refine Moves.commandNow ?_ (fun d => ?_) (O (by decide)) (P (by decide))
    | with_reducible refine Moves.fence ?_ (O (by decide)) (P (by decide))
    | with_reducible refine Moves.run ?_ (O (by decide)) (P (by decide))
    | dsimp only

def objs_execUnfence : Nat := 0x37000000000000000000000a402b800580000000000000000001180a8800000000000000000000000000000002e8020006606cb80100021ff3e4000000000000c7e00100028000000001a40
def parts_execUnfence : Nat := 0x80000000179edff9
theorem Moves.execUnfence {p : Plane} {rq : Req} (h : Machine.execUnfence p rq s₀ = .next t₁) (hO : Mask.le objs_execUnfence mo) (hP : Mask.le parts_execUnfence mp) :
    Moves s₀.dev t₁.dev mo mp := by
  have O {a : Nat} (h : (a &&& objs_execUnfence == a) = true) := Mask.le_trans h hO
  have P {a : Nat} (h : (a &&& parts_execUnfence == a) = true) := Mask.le_trans h hP
  refine Moves.cmdRun h (fun d => ?_) (O (by decide)) (P (by decide))
  try dsimp only
  repeat' first
    | with_reducible exact Moves.refl ..
    | with_reducible refine Moves.commandNow ?_ (fun d => ?_) (O (by decide)) (P (by decide))
    | with_reducible refine Moves.unfence ?_ (O (by decide)) (P (by decide))
    | with_reducible refine Moves.run ?_ (O (by decide)) (P (by decide))
    | dsimp only

def objs_execFenceComplete : Nat := 0x37000000000000000000000a400000000000000000000000000000000000000000000000000000000000000000e8020006606cb80100021ff3e4000000000000c7e00100028000000000040
def parts_execFenceComplete : Nat := 0x78edbf9
theorem Moves.execFenceComplete {p : Plane} (h : Machine.execFenceComplete p s₀ = .next t₁) (hO : Mask.le objs_execFenceComplete mo) (hP : Mask.le parts_execFenceComplete mp) :
    Moves s₀.dev t₁.dev mo mp := by
  have O {a : Nat} (h : (a &&& objs_execFenceComplete == a) = true) := Mask.le_trans h hO
  have P {a : Nat} (h : (a &&& parts_execFenceComplete == a) = true) := Mask.le_trans h hP
  refine Moves.cmdRun h (fun d => ?_) (O (by decide)) (P (by decide))
  try dsimp only
  repeat' first
    | with_reducible exact Moves.refl ..
    | with_reducible refine Moves.fenceDone ?_ (O (by decide)) (P (by decide))
    | with_reducible refine Moves.run ?_ (O (by decide)) (P (by decide))
    | dsimp only

def objs_execCauseClear : Nat := 0x37000000000000000000000a400000058000000000000000000000000000000000000000000000000000000000e8020006606cb80100021ff3e4000000000000c7e00100028000000000000
def parts_execCauseClear : Nat := 0x80000000078edbf9
theorem Moves.execCauseClear {rq : Req} {idx : BitVec 16} {v : BitVec 32} (h : Machine.execCauseClear rq idx v s₀ = .next t₁) (hO : Mask.le objs_execCauseClear mo) (hP : Mask.le parts_execCauseClear mp) :
    Moves s₀.dev t₁.dev mo mp := by
  have O {a : Nat} (h : (a &&& objs_execCauseClear == a) = true) := Mask.le_trans h hO
  have P {a : Nat} (h : (a &&& parts_execCauseClear == a) = true) := Mask.le_trans h hP
  refine Moves.cmdRun h (fun d => ?_) (O (by decide)) (P (by decide))
  try dsimp only
  repeat' first
    | with_reducible exact Moves.refl ..
    | with_reducible refine Moves.request ?_ (fun d => ?_) (O (by decide)) (P (by decide))
    | with_reducible refine Moves.causeWrite ?_ (O (by decide)) (P (by decide))
    | with_reducible refine Moves.run ?_ (O (by decide)) (P (by decide))
    | dsimp only

def objs_execSubscribe : Nat := 0x37000000000000000000000a400000058000000000000000000000000000000000000000000000000000000000e8020006606cb80100021ff3e4000000000000c7e00100028000000000000
def parts_execSubscribe : Nat := 0x80000000078edbf9
theorem Moves.execSubscribe {rq : Req} {idx : BitVec 16} {mask : BitVec 32} (h : Machine.execSubscribe rq idx mask s₀ = .next t₁) (hO : Mask.le objs_execSubscribe mo) (hP : Mask.le parts_execSubscribe mp) :
    Moves s₀.dev t₁.dev mo mp := by
  have O {a : Nat} (h : (a &&& objs_execSubscribe == a) = true) := Mask.le_trans h hO
  have P {a : Nat} (h : (a &&& parts_execSubscribe == a) = true) := Mask.le_trans h hP
  refine Moves.cmdRun h (fun d => ?_) (O (by decide)) (P (by decide))
  try dsimp only
  repeat' first
    | with_reducible exact Moves.refl ..
    | with_reducible refine Moves.eventService ?_ (fun d => ?_) (O (by decide)) (P (by decide))
    | with_reducible refine Moves.subscribe ?_ (O (by decide)) (P (by decide))
    | with_reducible refine Moves.run ?_ (O (by decide)) (P (by decide))
    | dsimp only

def objs_execUnsubscribe : Nat := 0x37000000000000000000000a400000058000000000000000000000000000000000000000000000000000000000e8020006606cb80100021ff3e4000000000000c7e00100028000000000000
def parts_execUnsubscribe : Nat := 0x80000000078edbf9
theorem Moves.execUnsubscribe {rq : Req} {flt : Byte} (h : Machine.execUnsubscribe rq flt s₀ = .next t₁) (hO : Mask.le objs_execUnsubscribe mo) (hP : Mask.le parts_execUnsubscribe mp) :
    Moves s₀.dev t₁.dev mo mp := by
  have O {a : Nat} (h : (a &&& objs_execUnsubscribe == a) = true) := Mask.le_trans h hO
  have P {a : Nat} (h : (a &&& parts_execUnsubscribe == a) = true) := Mask.le_trans h hP
  refine Moves.cmdRun h (fun d => ?_) (O (by decide)) (P (by decide))
  try dsimp only
  repeat' first
    | with_reducible exact Moves.refl ..
    | with_reducible refine Moves.eventService ?_ (fun d => ?_) (O (by decide)) (P (by decide))
    | with_reducible refine Moves.unsubscribe ?_ (O (by decide)) (P (by decide))
    | with_reducible refine Moves.run ?_ (O (by decide)) (P (by decide))
    | dsimp only

def objs_execEventAck : Nat := 0x37000000000000000000000a400000058000000000000000000000000000000000000000000000000000000000e8020006606cb80100021ff3e4000000000000c7e00100028000000000000
def parts_execEventAck : Nat := 0x80000000078edbf9
theorem Moves.execEventAck {rq : Req} {seq : BitVec 32} (h : Machine.execEventAck rq seq s₀ = .next t₁) (hO : Mask.le objs_execEventAck mo) (hP : Mask.le parts_execEventAck mp) :
    Moves s₀.dev t₁.dev mo mp := by
  have O {a : Nat} (h : (a &&& objs_execEventAck == a) = true) := Mask.le_trans h hO
  have P {a : Nat} (h : (a &&& parts_execEventAck == a) = true) := Mask.le_trans h hP
  refine Moves.cmdRun h (fun d => ?_) (O (by decide)) (P (by decide))
  try dsimp only
  repeat' first
    | with_reducible exact Moves.refl ..
    | with_reducible refine Moves.eventService ?_ (fun d => ?_) (O (by decide)) (P (by decide))
    | with_reducible refine Moves.eventAck ?_ (O (by decide)) (P (by decide))
    | with_reducible refine Moves.run ?_ (O (by decide)) (P (by decide))
    | dsimp only

def objs_execEventResendTimer : Nat := 0x37000000000000000000000a400000000000000000000000000000000000000000000000000000000000000000e8020006606cb80100021ff3e4000000000000c7e00100028000000000000
def parts_execEventResendTimer : Nat := 0x78edbf9
theorem Moves.execEventResendTimer  (h : Machine.execEventResendTimer  s₀ = .next t₁) (hO : Mask.le objs_execEventResendTimer mo) (hP : Mask.le parts_execEventResendTimer mp) :
    Moves s₀.dev t₁.dev mo mp := by
  have O {a : Nat} (h : (a &&& objs_execEventResendTimer == a) = true) := Mask.le_trans h hO
  have P {a : Nat} (h : (a &&& parts_execEventResendTimer == a) = true) := Mask.le_trans h hP
  refine Moves.cmdRun h (fun d => ?_) (O (by decide)) (P (by decide))
  try dsimp only
  repeat' first
    | with_reducible exact Moves.refl ..
    | with_reducible refine Moves.eventResend ?_ (O (by decide)) (P (by decide))
    | with_reducible refine Moves.run ?_ (O (by decide)) (P (by decide))
    | dsimp only

def objs_execPlaneInit : Nat := 0x7ffffffffffffffffffffffffffffffffffffffffffffffffffffffffffffffffffffffffffffffffffffffffffffffffffffffffffffffffffffffffffffffffffffffffffffffffffffff
def parts_execPlaneInit : Nat := 0xffffffffffffffff
theorem Moves.execPlaneInit {p : Plane} {st : InitReport} (h : Machine.execPlaneInit p st s₀ = .next t₁) (hO : Mask.le objs_execPlaneInit mo) (hP : Mask.le parts_execPlaneInit mp) :
    Moves s₀.dev t₁.dev mo mp := by
  have O {a : Nat} (h : (a &&& objs_execPlaneInit == a) = true) := Mask.le_trans h hO
  have P {a : Nat} (h : (a &&& parts_execPlaneInit == a) = true) := Mask.le_trans h hP
  refine Moves.cmdRun h (fun d => ?_) (O (by decide)) (P (by decide))
  try dsimp only
  repeat' first
    | with_reducible exact Moves.refl ..
    | with_reducible refine Moves.planeInit ?_ (O (by decide)) (P (by decide))
    | with_reducible refine Moves.run ?_ (O (by decide)) (P (by decide))
    | dsimp only

def objs_execClockRecoveryLockLoss : Nat := 0x370000001c0000000020000a4000000000000000000000000001180a88000000000000000000000000000000000000000000000000080000000000000000000000c00000000000000001800
def parts_execClockRecoveryLockLoss : Nat := 0x80181c0fa1
theorem Moves.execClockRecoveryLockLoss {p : Plane} {n : Port} {w : Fin 4} (h : Machine.execClockRecoveryLockLoss p n w s₀ = .next t₁) (hO : Mask.le objs_execClockRecoveryLockLoss mo) (hP : Mask.le parts_execClockRecoveryLockLoss mp) :
    Moves s₀.dev t₁.dev mo mp := by
  have O {a : Nat} (h : (a &&& objs_execClockRecoveryLockLoss == a) = true) := Mask.le_trans h hO
  have P {a : Nat} (h : (a &&& parts_execClockRecoveryLockLoss == a) = true) := Mask.le_trans h hP
  refine Moves.cmdRunOn h (fun d => ?_) (O (by decide)) (P (by decide))
  try dsimp only
  repeat' first
    | with_reducible exact Moves.refl ..
    | with_reducible refine Moves.cdrLost ?_ (O (by decide)) (P (by decide))
    | dsimp only

def objs_execUncorrectableCodeword : Nat := 0x370000001c0000000020000a4000000000000000000000000000000000000000000000000000000000000000000000000000000000080000000000000000000000c00000000000002000000
def parts_execUncorrectableCodeword : Nat := 0x80080c03a1
theorem Moves.execUncorrectableCodeword {p : Plane} {n : Port} {w : Fin 4} (h : Machine.execUncorrectableCodeword p n w s₀ = .next t₁) (hO : Mask.le objs_execUncorrectableCodeword mo) (hP : Mask.le parts_execUncorrectableCodeword mp) :
    Moves s₀.dev t₁.dev mo mp := by
  have O {a : Nat} (h : (a &&& objs_execUncorrectableCodeword == a) = true) := Mask.le_trans h hO
  have P {a : Nat} (h : (a &&& parts_execUncorrectableCodeword == a) = true) := Mask.le_trans h hP
  refine Moves.cmdRunOn h (fun d => ?_) (O (by decide)) (P (by decide))
  try dsimp only
  repeat' first
    | with_reducible exact Moves.refl ..
    | with_reducible refine Moves.badCodeword ?_ (O (by decide)) (P (by decide))
    | dsimp only

def objs_execLongHaulRejoinTimeout : Nat := 0x370000001c000000003000ca402b800000003000040000000801180a880000000000003e00e08000015fb20002e8021c06606cb8012803dff3e4000000000000c7e06503c7e840200003800
def parts_execLongHaulRejoinTimeout : Nat := 0xa0ff9ffff9
theorem Moves.execLongHaulRejoinTimeout {p : Plane} {l : Lh} (h : Machine.execLongHaulRejoinTimeout p l s₀ = .next t₁) (hO : Mask.le objs_execLongHaulRejoinTimeout mo) (hP : Mask.le parts_execLongHaulRejoinTimeout mp) :
    Moves s₀.dev t₁.dev mo mp := by
  have O {a : Nat} (h : (a &&& objs_execLongHaulRejoinTimeout == a) = true) := Mask.le_trans h hO
  have P {a : Nat} (h : (a &&& parts_execLongHaulRejoinTimeout == a) = true) := Mask.le_trans h hP
  refine Moves.cmdRunOn h (fun d => ?_) (O (by decide)) (P (by decide))
  try dsimp only
  repeat' first
    | with_reducible exact Moves.refl ..
    | with_reducible refine Moves.rejoinTimeout ?_ (O (by decide)) (P (by decide))
    | dsimp only

def objs_execHealthWindowEnd : Nat := 0x370000001c00000000f000ca402b800000003000040000000801180a880000000000003e00e08000015fb20002e8021c06606cb8012803dff3e4000000000000c7e06503c7e840200003800
def parts_execHealthWindowEnd : Nat := 0xa0ff9ffff9
theorem Moves.execHealthWindowEnd {p : Plane} (h : Machine.execHealthWindowEnd p s₀ = .next t₁) (hO : Mask.le objs_execHealthWindowEnd mo) (hP : Mask.le parts_execHealthWindowEnd mp) :
    Moves s₀.dev t₁.dev mo mp := by
  have O {a : Nat} (h : (a &&& objs_execHealthWindowEnd == a) = true) := Mask.le_trans h hO
  have P {a : Nat} (h : (a &&& parts_execHealthWindowEnd == a) = true) := Mask.le_trans h hP
  refine Moves.cmdRunOn h (fun d => ?_) (O (by decide)) (P (by decide))
  try dsimp only
  repeat' first
    | with_reducible exact Moves.refl ..
    | with_reducible refine Moves.windowEndAll ?_ (O (by decide)) (P (by decide))
    | dsimp only

def objs_execHbmFault : Nat := 0x370000001c000000003000ca402b800000003000040000000801180a880000000000003e00e08000015fb20002e8021c06606cb8012803dff3e4000000000000c7e06503c7e840200003800
def parts_execHbmFault : Nat := 0xa0ff9ffff9
theorem Moves.execHbmFault {p : Plane} {pc : Fin 64} {retryOk : Bool} (h : Machine.execHbmFault p pc retryOk s₀ = .next t₁) (hO : Mask.le objs_execHbmFault mo) (hP : Mask.le parts_execHbmFault mp) :
    Moves s₀.dev t₁.dev mo mp := by
  have O {a : Nat} (h : (a &&& objs_execHbmFault == a) = true) := Mask.le_trans h hO
  have P {a : Nat} (h : (a &&& parts_execHbmFault == a) = true) := Mask.le_trans h hP
  refine Moves.cmdRunOn h (fun d => ?_) (O (by decide)) (P (by decide))
  try dsimp only
  repeat' first
    | with_reducible exact Moves.refl ..
    | with_reducible refine Moves.hbmFault ?_ (O (by decide)) (P (by decide))
    | dsimp only

def objs_execPlaneStateFault : Nat := 0x370000001c0000000020000a4000000000000000000000000000000000000000000000000000000000000000000000000000000000080000000000000000000000c00000000000000000000
def parts_execPlaneStateFault : Nat := 0x80080c03a1
theorem Moves.execPlaneStateFault {p : Plane} (h : Machine.execPlaneStateFault p s₀ = .next t₁) (hO : Mask.le objs_execPlaneStateFault mo) (hP : Mask.le parts_execPlaneStateFault mp) :
    Moves s₀.dev t₁.dev mo mp := by
  have O {a : Nat} (h : (a &&& objs_execPlaneStateFault == a) = true) := Mask.le_trans h hO
  have P {a : Nat} (h : (a &&& parts_execPlaneStateFault == a) = true) := Mask.le_trans h hP
  refine Moves.cmdRunOn h (fun d => ?_) (O (by decide)) (P (by decide))
  try dsimp only
  repeat' first
    | with_reducible exact Moves.refl ..
    | with_reducible refine Moves.stateFault ?_ (O (by decide)) (P (by decide))
    | dsimp only

def objs_execDiagInject : Nat := 0x370000001c000158003500ca402b800580003000040000040801180a880000000000013e00e08000015fb20002e8121c06606cb8012803dff3e4000000000000c7e06503cfec40202003800
def parts_execDiagInject : Nat := 0x800000b0ff9ffff9
theorem Moves.execDiagInject {rq : Req} (h : Machine.execDiagInject rq s₀ = .next t₁) (hO : Mask.le objs_execDiagInject mo) (hP : Mask.le parts_execDiagInject mp) :
    Moves s₀.dev t₁.dev mo mp := by
  have O {a : Nat} (h : (a &&& objs_execDiagInject == a) = true) := Mask.le_trans h hO
  have P {a : Nat} (h : (a &&& parts_execDiagInject == a) = true) := Mask.le_trans h hP
  refine Moves.cmdRun h (fun d => ?_) (O (by decide)) (P (by decide))
  try dsimp only
  repeat' first
    | with_reducible exact Moves.refl ..
    | with_reducible refine Moves.command ?_ (fun d => ?_) (O (by decide)) (P (by decide))
    | with_reducible refine Moves.diagInject ?_ (O (by decide)) (P (by decide))
    | with_reducible refine Moves.run ?_ (O (by decide)) (P (by decide))
    | dsimp only

def objs_execHfRestore : Nat := 0x370000001c00000002b000ca4000000580003000040000000001180a880000000000003e00e08000015fb20002e8021c06606cb8012803dff3e4000000000000c7e02503c7e800200003800
def parts_execHfRestore : Nat := 0x800000a0ff9ffff9
theorem Moves.execHfRestore {p : Plane} {bistPass : Bool} {rq : Req} (h : Machine.execHfRestore p bistPass rq s₀ = .next t₁) (hO : Mask.le objs_execHfRestore mo) (hP : Mask.le parts_execHfRestore mp) :
    Moves s₀.dev t₁.dev mo mp := by
  have O {a : Nat} (h : (a &&& objs_execHfRestore == a) = true) := Mask.le_trans h hO
  have P {a : Nat} (h : (a &&& parts_execHfRestore == a) = true) := Mask.le_trans h hP
  refine Moves.cmdRun h (fun d => ?_) (O (by decide)) (P (by decide))
  try dsimp only
  repeat' first
    | with_reducible exact Moves.refl ..
    | with_reducible refine Moves.command ?_ (fun d => ?_) (O (by decide)) (P (by decide))
    | with_reducible refine Moves.hfRestore ?_ (O (by decide)) (P (by decide))
    | with_reducible refine Moves.run ?_ (O (by decide)) (P (by decide))
    | dsimp only

def objs_execHfRetire : Nat := 0x370000001c000000043000ca402b800580003000040000000801180a880000000000003e00e08000015fb20002e8021c06606cb8012803dff3e4000000000000c7e06503c7e840200003800
def parts_execHfRetire : Nat := 0x800000a0ff9ffff9
theorem Moves.execHfRetire {p : Plane} {rq : Req} (h : Machine.execHfRetire p rq s₀ = .next t₁) (hO : Mask.le objs_execHfRetire mo) (hP : Mask.le parts_execHfRetire mp) :
    Moves s₀.dev t₁.dev mo mp := by
  have O {a : Nat} (h : (a &&& objs_execHfRetire == a) = true) := Mask.le_trans h hO
  have P {a : Nat} (h : (a &&& parts_execHfRetire == a) = true) := Mask.le_trans h hP
  refine Moves.cmdRun h (fun d => ?_) (O (by decide)) (P (by decide))
  try dsimp only
  repeat' first
    | with_reducible exact Moves.refl ..
    | with_reducible refine Moves.command ?_ (fun d => ?_) (O (by decide)) (P (by decide))
    | with_reducible refine Moves.hfRetire ?_ (O (by decide)) (P (by decide))
    | with_reducible refine Moves.run ?_ (O (by decide)) (P (by decide))
    | dsimp only

def objs_execPlaneRecoverCmd : Nat := 0x37000000000000000800000a400000058000000000000000000000000000000000000000000000000000000000e8020006606cb80100021ff3e4000000000000c7e00100028000000000000
def parts_execPlaneRecoverCmd : Nat := 0x80000000078edbf9
theorem Moves.execPlaneRecoverCmd {p : Plane} {rq : Req} (h : Machine.execPlaneRecoverCmd p rq s₀ = .next t₁) (hO : Mask.le objs_execPlaneRecoverCmd mo) (hP : Mask.le parts_execPlaneRecoverCmd mp) :
    Moves s₀.dev t₁.dev mo mp := by
  have O {a : Nat} (h : (a &&& objs_execPlaneRecoverCmd == a) = true) := Mask.le_trans h hO
  have P {a : Nat} (h : (a &&& parts_execPlaneRecoverCmd == a) = true) := Mask.le_trans h hP
  refine Moves.cmdRun h (fun d => ?_) (O (by decide)) (P (by decide))
  try dsimp only
  repeat' first
    | with_reducible exact Moves.refl ..
    | with_reducible refine Moves.command ?_ (fun d => ?_) (O (by decide)) (P (by decide))
    | with_reducible refine Moves.recoverCmd ?_ (O (by decide)) (P (by decide))
    | with_reducible refine Moves.run ?_ (O (by decide)) (P (by decide))
    | dsimp only

def objs_execPlaneRecoveryStart : Nat := 0x7ffffffffffffffffffffffffffffffffffffffffffffffffffffffffffffffffffffffffffffffffffffffffffffffffffffffffffffffffffffffffffffffffffffffffffffffffffffff
def parts_execPlaneRecoveryStart : Nat := 0xffffffffffffffff
theorem Moves.execPlaneRecoveryStart {p : Plane} (h : Machine.execPlaneRecoveryStart p s₀ = .next t₁) (hO : Mask.le objs_execPlaneRecoveryStart mo) (hP : Mask.le parts_execPlaneRecoveryStart mp) :
    Moves s₀.dev t₁.dev mo mp := by
  have O {a : Nat} (h : (a &&& objs_execPlaneRecoveryStart == a) = true) := Mask.le_trans h hO
  have P {a : Nat} (h : (a &&& parts_execPlaneRecoveryStart == a) = true) := Mask.le_trans h hP
  refine Moves.cmdRunOn h (fun d => ?_) (O (by decide)) (P (by decide))
  try dsimp only
  repeat' first
    | with_reducible exact Moves.refl ..
    | with_reducible refine Moves.recoveryStart ?_ (O (by decide)) (P (by decide))
    | dsimp only

def objs_execPlaneRecoveryEnd : Nat := 0x37000000000000001800000a4000000000000000000000000000000000000000000000000000000000000000020000000000000000000000000000000000000000000000000000000000000
def parts_execPlaneRecoveryEnd : Nat := 0x81803a0
theorem Moves.execPlaneRecoveryEnd {p : Plane} (h : Machine.execPlaneRecoveryEnd p s₀ = .next t₁) (hO : Mask.le objs_execPlaneRecoveryEnd mo) (hP : Mask.le parts_execPlaneRecoveryEnd mp) :
    Moves s₀.dev t₁.dev mo mp := by
  have O {a : Nat} (h : (a &&& objs_execPlaneRecoveryEnd == a) = true) := Mask.le_trans h hO
  have P {a : Nat} (h : (a &&& parts_execPlaneRecoveryEnd == a) = true) := Mask.le_trans h hP
  refine Moves.cmdRunOn h (fun d => ?_) (O (by decide)) (P (by decide))
  try dsimp only
  repeat' first
    | with_reducible exact Moves.refl ..
    | with_reducible refine Moves.recoveryEnd ?_ (O (by decide)) (P (by decide))
    | dsimp only

def objs_execRecoveryTimeout : Nat := 0x370000001c000000183000ca402b800000003000040000000801180a880000000000003e00208000015fb20002e8020006606cb80128021ff3e4000000000000c7e02103c7e800200001800
def parts_execRecoveryTimeout : Nat := 0x80ff9ffff9
theorem Moves.execRecoveryTimeout {p : Plane} (h : Machine.execRecoveryTimeout p s₀ = .next t₁) (hO : Mask.le objs_execRecoveryTimeout mo) (hP : Mask.le parts_execRecoveryTimeout mp) :
    Moves s₀.dev t₁.dev mo mp := by
  have O {a : Nat} (h : (a &&& objs_execRecoveryTimeout == a) = true) := Mask.le_trans h hO
  have P {a : Nat} (h : (a &&& parts_execRecoveryTimeout == a) = true) := Mask.le_trans h hP
  refine Moves.cmdRunOn h (fun d => ?_) (O (by decide)) (P (by decide))
  try dsimp only
  repeat' first
    | with_reducible exact Moves.refl ..
    | with_reducible refine Moves.recoveryTimeout ?_ (O (by decide)) (P (by decide))
    | dsimp only

def objs_execMaintEnter : Nat := 0x37000000000000001000000a400000058000000000000000000000000000000000000000000000000000000000e8020006606cb80100021ff3e4000000000000c7e00100028000000000000
def parts_execMaintEnter : Nat := 0x80000000078edbf9
theorem Moves.execMaintEnter {p : Plane} {rq : Req} (h : Machine.execMaintEnter p rq s₀ = .next t₁) (hO : Mask.le objs_execMaintEnter mo) (hP : Mask.le parts_execMaintEnter mp) :
    Moves s₀.dev t₁.dev mo mp := by
  have O {a : Nat} (h : (a &&& objs_execMaintEnter == a) = true) := Mask.le_trans h hO
  have P {a : Nat} (h : (a &&& parts_execMaintEnter == a) = true) := Mask.le_trans h hP
  refine Moves.cmdRun h (fun d => ?_) (O (by decide)) (P (by decide))
  try dsimp only
  repeat' first
    | with_reducible exact Moves.refl ..
    | with_reducible refine Moves.command ?_ (fun d => ?_) (O (by decide)) (P (by decide))
    | with_reducible refine Moves.maintEnter ?_ (O (by decide)) (P (by decide))
    | with_reducible refine Moves.run ?_ (O (by decide)) (P (by decide))
    | dsimp only

def objs_execMaintLeave : Nat := 0x37000000000000001000000a400000058000000000000000000000000000000000000000000000000000000000e8020006606cb80100021ff3e4000000000000c7e00100028000000000000
def parts_execMaintLeave : Nat := 0x80000000078edbf9
theorem Moves.execMaintLeave {p : Plane} {rq : Req} (h : Machine.execMaintLeave p rq s₀ = .next t₁) (hO : Mask.le objs_execMaintLeave mo) (hP : Mask.le parts_execMaintLeave mp) :
    Moves s₀.dev t₁.dev mo mp := by
  have O {a : Nat} (h : (a &&& objs_execMaintLeave == a) = true) := Mask.le_trans h hO
  have P {a : Nat} (h : (a &&& parts_execMaintLeave == a) = true) := Mask.le_trans h hP
  refine Moves.cmdRun h (fun d => ?_) (O (by decide)) (P (by decide))
  try dsimp only
  repeat' first
    | with_reducible exact Moves.refl ..
    | with_reducible refine Moves.command ?_ (fun d => ?_) (O (by decide)) (P (by decide))
    | with_reducible refine Moves.maintLeave ?_ (O (by decide)) (P (by decide))
    | with_reducible refine Moves.run ?_ (O (by decide)) (P (by decide))
    | dsimp only

def objs_execFuseCmd : Nat := 0x3700000000000000201000ca402b80058000000000000000000000000000000000000000000000000000000000e8020006606cb80100021ff3e4000000000000c7e00100028000000000000
def parts_execFuseCmd : Nat := 0x80000000078edbf9
theorem Moves.execFuseCmd {p : Plane} {fits : Bool} {rq : Req} (h : Machine.execFuseCmd p fits rq s₀ = .next t₁) (hO : Mask.le objs_execFuseCmd mo) (hP : Mask.le parts_execFuseCmd mp) :
    Moves s₀.dev t₁.dev mo mp := by
  have O {a : Nat} (h : (a &&& objs_execFuseCmd == a) = true) := Mask.le_trans h hO
  have P {a : Nat} (h : (a &&& parts_execFuseCmd == a) = true) := Mask.le_trans h hP
  refine Moves.cmdRun h (fun d => ?_) (O (by decide)) (P (by decide))
  try dsimp only
  repeat' first
    | with_reducible exact Moves.refl ..
    | with_reducible refine Moves.command ?_ (fun d => ?_) (O (by decide)) (P (by decide))
    | with_reducible refine Moves.fuse ?_ (O (by decide)) (P (by decide))
    | with_reducible refine Moves.run ?_ (O (by decide)) (P (by decide))
    | dsimp only

def objs_execFullBist : Nat := 0x370000001c000040003200ca402b800580003000040000000801180a880000000000003e00e08000015fb20002e8021c06606cb8012803dff3e4000000000000c7e06503c7e840200003800
def parts_execFullBist : Nat := 0x800000a0ff9ffff9
theorem Moves.execFullBist {failed : List (BitVec 16)} {rq : Req} (h : Machine.execFullBist failed rq s₀ = .next t₁) (hO : Mask.le objs_execFullBist mo) (hP : Mask.le parts_execFullBist mp) :
    Moves s₀.dev t₁.dev mo mp := by
  have O {a : Nat} (h : (a &&& objs_execFullBist == a) = true) := Mask.le_trans h hO
  have P {a : Nat} (h : (a &&& parts_execFullBist == a) = true) := Mask.le_trans h hP
  refine Moves.cmdRun h (fun d => ?_) (O (by decide)) (P (by decide))
  try dsimp only
  repeat' first
    | with_reducible exact Moves.refl ..
    | with_reducible refine Moves.command ?_ (fun d => ?_) (O (by decide)) (P (by decide))
    | with_reducible refine Moves.fullBist ?_ (O (by decide)) (P (by decide))
    | with_reducible refine Moves.run ?_ (O (by decide)) (P (by decide))
    | dsimp only

def objs_execRetireClear : Nat := 0x3700000000000000000020ca402b80058000000000000000000000000000000000000000000000000000000000e8020006606cb80100021ff3e4000000000000c7e00100028000000000000
def parts_execRetireClear : Nat := 0x80000000078edbf9
theorem Moves.execRetireClear {rq : Req} (h : Machine.execRetireClear rq s₀ = .next t₁) (hO : Mask.le objs_execRetireClear mo) (hP : Mask.le parts_execRetireClear mp) :
    Moves s₀.dev t₁.dev mo mp := by
  have O {a : Nat} (h : (a &&& objs_execRetireClear == a) = true) := Mask.le_trans h hO
  have P {a : Nat} (h : (a &&& parts_execRetireClear == a) = true) := Mask.le_trans h hP
  refine Moves.cmdRun h (fun d => ?_) (O (by decide)) (P (by decide))
  try dsimp only
  repeat' first
    | with_reducible exact Moves.refl ..
    | with_reducible refine Moves.command ?_ (fun d => ?_) (O (by decide)) (P (by decide))
    | with_reducible refine Moves.retireClear ?_ (O (by decide)) (P (by decide))
    | with_reducible refine Moves.run ?_ (O (by decide)) (P (by decide))
    | dsimp only

def objs_execReplReasonSet : Nat := 0x3700000000000000000004ca400000058000000000000000000000000000000000000000000000000000000000e8020006606cb80100021ff3e4000000000000c7e00100028000000000000
def parts_execReplReasonSet : Nat := 0x80000000078edbf9
theorem Moves.execReplReasonSet {rq : Req} (h : Machine.execReplReasonSet rq s₀ = .next t₁) (hO : Mask.le objs_execReplReasonSet mo) (hP : Mask.le parts_execReplReasonSet mp) :
    Moves s₀.dev t₁.dev mo mp := by
  have O {a : Nat} (h : (a &&& objs_execReplReasonSet == a) = true) := Mask.le_trans h hO
  have P {a : Nat} (h : (a &&& parts_execReplReasonSet == a) = true) := Mask.le_trans h hP
  have B {k : Nat} (h : objs_execReplReasonSet.testBit k = true) := Mask.bit h hO
  refine Moves.cmdRun h (fun d => ?_) (O (by decide)) (P (by decide))
  try dsimp only
  repeat' first
    | with_reducible exact Moves.refl ..
    | with_reducible refine Moves.set ?_ (B (by decide)) (by decide)
    | with_reducible refine Moves.command ?_ (fun d => ?_) (O (by decide)) (P (by decide))
    | with_reducible refine Moves.run ?_ (O (by decide)) (P (by decide))
    | with_reducible refine Moves.setReasons ?_ (O (by decide)) (P (by decide))
    | dsimp only

def objs_execReplReasonClear : Nat := 0x3700000000000000000004ca400000058000000000000000000000000000000000000000000000000000000000e8020006606cb80100021ff3e4000000000000c7e00100028000000000000
def parts_execReplReasonClear : Nat := 0x80000000078edbf9
theorem Moves.execReplReasonClear {rq : Req} (h : Machine.execReplReasonClear rq s₀ = .next t₁) (hO : Mask.le objs_execReplReasonClear mo) (hP : Mask.le parts_execReplReasonClear mp) :
    Moves s₀.dev t₁.dev mo mp := by
  have O {a : Nat} (h : (a &&& objs_execReplReasonClear == a) = true) := Mask.le_trans h hO
  have P {a : Nat} (h : (a &&& parts_execReplReasonClear == a) = true) := Mask.le_trans h hP
  have B {k : Nat} (h : objs_execReplReasonClear.testBit k = true) := Mask.bit h hO
  refine Moves.cmdRun h (fun d => ?_) (O (by decide)) (P (by decide))
  try dsimp only
  repeat' first
    | with_reducible exact Moves.refl ..
    | with_reducible refine Moves.set ?_ (B (by decide)) (by decide)
    | with_reducible refine Moves.command ?_ (fun d => ?_) (O (by decide)) (P (by decide))
    | with_reducible refine Moves.run ?_ (O (by decide)) (P (by decide))
    | with_reducible refine Moves.setReasons ?_ (O (by decide)) (P (by decide))
    | dsimp only

def objs_execBistUnitStart : Nat := 0x370000001c0001380030000a4000000000003000040000000001180a880000000000003e00e08000015fb20002e8021c06606cb80128039ff3e4000000000000c7e06503c7e840200000000
def parts_execBistUnitStart : Nat := 0xb0ff9ffff9
theorem Moves.execBistUnitStart {p : Plane} (h : Machine.execBistUnitStart p s₀ = .next t₁) (hO : Mask.le objs_execBistUnitStart mo) (hP : Mask.le parts_execBistUnitStart mp) :
    Moves s₀.dev t₁.dev mo mp := by
  have O {a : Nat} (h : (a &&& objs_execBistUnitStart == a) = true) := Mask.le_trans h hO
  have P {a : Nat} (h : (a &&& parts_execBistUnitStart == a) = true) := Mask.le_trans h hP
  refine Moves.cmdRunOn h (fun d => ?_) (O (by decide)) (P (by decide))
  try dsimp only
  repeat' first
    | with_reducible exact Moves.refl ..
    | with_reducible refine Moves.bistStart ?_ (O (by decide)) (P (by decide))
    | dsimp only

def objs_execBistUnitComplete : Nat := 0x370000001c0001d8003000ca402b800000003000040000000001180a880000000000003e00e08000015fb20002e8021c06606cb80128039ff3e4000000000000c7e02503c7e800200000000
def parts_execBistUnitComplete : Nat := 0xb0ffdffff9
theorem Moves.execBistUnitComplete {p : Plane} {r : BistResult} (h : Machine.execBistUnitComplete p r s₀ = .next t₁) (hO : Mask.le objs_execBistUnitComplete mo) (hP : Mask.le parts_execBistUnitComplete mp) :
    Moves s₀.dev t₁.dev mo mp := by
  have O {a : Nat} (h : (a &&& objs_execBistUnitComplete == a) = true) := Mask.le_trans h hO
  have P {a : Nat} (h : (a &&& parts_execBistUnitComplete == a) = true) := Mask.le_trans h hP
  refine Moves.cmdRunOn h (fun d => ?_) (O (by decide)) (P (by decide))
  try dsimp only
  repeat' first
    | with_reducible exact Moves.refl ..
    | with_reducible refine Moves.bistComplete ?_ (O (by decide)) (P (by decide))
    | dsimp only

def objs_execAgeingMeasure : Nat := 0x3700000000001400800001ca4000000000000000000000000000000000000000000000000000000000000000000000000000000000000000000000000000000000000000000000000000000
def parts_execAgeingMeasure : Nat := 0x40000002a0
theorem Moves.execAgeingMeasure {p : Plane} {vals : List (BitVec 16 × Int)} (h : Machine.execAgeingMeasure p vals s₀ = .next t₁) (hO : Mask.le objs_execAgeingMeasure mo) (hP : Mask.le parts_execAgeingMeasure mp) :
    Moves s₀.dev t₁.dev mo mp := by
  have O {a : Nat} (h : (a &&& objs_execAgeingMeasure == a) = true) := Mask.le_trans h hO
  have P {a : Nat} (h : (a &&& parts_execAgeingMeasure == a) = true) := Mask.le_trans h hP
  refine Moves.cmdRunOn h (fun d => ?_) (O (by decide)) (P (by decide))
  try dsimp only
  repeat' first
    | with_reducible exact Moves.refl ..
    | with_reducible refine Moves.horizons ?_ (O (by decide)) (P (by decide))
    | with_reducible refine Moves.measure ?_ (O (by decide)) (P (by decide))
    | with_reducible refine Moves.foldl ?_ (fun d a => ?_)
    | dsimp only

def objs_execMarginReplan : Nat := 0x3700000000004000800001ca4000000000000000000000000000000800000000000000000000000000000000000000000000000000000000000000000000000000000000000000000000000
def parts_execMarginReplan : Nat := 0x100003a0
theorem Moves.execMarginReplan {p : Plane} (h : Machine.execMarginReplan p s₀ = .next t₁) (hO : Mask.le objs_execMarginReplan mo) (hP : Mask.le parts_execMarginReplan mp) :
    Moves s₀.dev t₁.dev mo mp := by
  have O {a : Nat} (h : (a &&& objs_execMarginReplan == a) = true) := Mask.le_trans h hO
  have P {a : Nat} (h : (a &&& parts_execMarginReplan == a) = true) := Mask.le_trans h hP
  refine Moves.cmdRunOn h (fun d => ?_) (O (by decide)) (P (by decide))
  try dsimp only
  repeat' first
    | with_reducible exact Moves.refl ..
    | with_reducible refine Moves.replan ?_ (O (by decide)) (P (by decide))
    | dsimp only

def objs_execReplanCmd : Nat := 0x3700000000006000800001ca400000058000000000000000000000080000000000000000000000000000000000e8020006606cb80100021ff3e4000000000000c7e00100028000000000000
def parts_execReplanCmd : Nat := 0x80000000178edbf9
theorem Moves.execReplanCmd {p : Plane} {rq : Req} (h : Machine.execReplanCmd p rq s₀ = .next t₁) (hO : Mask.le objs_execReplanCmd mo) (hP : Mask.le parts_execReplanCmd mp) :
    Moves s₀.dev t₁.dev mo mp := by
  have O {a : Nat} (h : (a &&& objs_execReplanCmd == a) = true) := Mask.le_trans h hO
  have P {a : Nat} (h : (a &&& parts_execReplanCmd == a) = true) := Mask.le_trans h hP
  have B {k : Nat} (h : objs_execReplanCmd.testBit k = true) := Mask.bit h hO
  refine Moves.cmdRun h (fun d => ?_) (O (by decide)) (P (by decide))
  try dsimp only
  repeat' first
    | with_reducible exact Moves.refl ..
    | with_reducible refine Moves.set ?_ (B (by decide)) (by decide)
    | with_reducible refine Moves.command ?_ (fun d => ?_) (O (by decide)) (P (by decide))
    | with_reducible refine Moves.replan ?_ (O (by decide)) (P (by decide))
    | with_reducible refine Moves.run ?_ (O (by decide)) (P (by decide))
    | with_reducible refine Moves.ite (fun _ => ?_) (fun _ => ?_)
    | with_reducible refine Moves.ite1 (fun _ => ?_) (fun _ => ?_)
    | split
    | dsimp only

def objs_execCkptData : Nat := 0x370000003c0000000000000a4000000000000000000000000000000001e080000000000000000000000000000000000000000000000800000004000000000000c7e00000028000000000000
def parts_execCkptData : Nat := 0x88000e43e9
theorem Moves.execCkptData {p : Plane} {f : Frame} (h : Machine.execCkptData p f s₀ = .next t₁) (hO : Mask.le objs_execCkptData mo) (hP : Mask.le parts_execCkptData mp) :
    Moves s₀.dev t₁.dev mo mp := by
  have O {a : Nat} (h : (a &&& objs_execCkptData == a) = true) := Mask.le_trans h hO
  have P {a : Nat} (h : (a &&& parts_execCkptData == a) = true) := Mask.le_trans h hP
  refine Moves.cmdRunOn h (fun d => ?_) (O (by decide)) (P (by decide))
  try dsimp only
  repeat' first
    | with_reducible exact Moves.refl ..
    | with_reducible refine Moves.scPage ?_ (O (by decide)) (P (by decide))
    | with_reducible refine Moves.takeIn ?_ (O (by decide)) (P (by decide))
    | dsimp only

def objs_execScStart : Nat := 0x370000001c0000000000000a4000000580000000000000000000000001e0000000000000000000000000000000e8020006606cb80100021ff3e4000000000000c7e00100028000000000000
def parts_execScStart : Nat := 0x80000080078edbf9
theorem Moves.execScStart {p : Plane} {rq : Req} (h : Machine.execScStart p rq s₀ = .next t₁) (hO : Mask.le objs_execScStart mo) (hP : Mask.le parts_execScStart mp) :
    Moves s₀.dev t₁.dev mo mp := by
  have O {a : Nat} (h : (a &&& objs_execScStart == a) = true) := Mask.le_trans h hO
  have P {a : Nat} (h : (a &&& parts_execScStart == a) = true) := Mask.le_trans h hP
  have B {k : Nat} (h : objs_execScStart.testBit k = true) := Mask.bit h hO
  refine Moves.cmdRun h (fun d => ?_) (O (by decide)) (P (by decide))
  try dsimp only
  repeat' first
    | with_reducible exact Moves.refl ..
    | with_reducible refine Moves.set ?_ (B (by decide)) (by decide)
    | with_reducible refine Moves.commandNow ?_ (fun d => ?_) (O (by decide)) (P (by decide))
    | with_reducible refine Moves.scStart ?_ (O (by decide)) (P (by decide))
    | with_reducible refine Moves.run ?_ (O (by decide)) (P (by decide))
    | with_reducible refine Moves.ite (fun _ => ?_) (fun _ => ?_)
    | with_reducible refine Moves.ite1 (fun _ => ?_) (fun _ => ?_)
    | split
    | dsimp only

def objs_execScAbort : Nat := 0x370000001c0000000000000a400000058000000000000000000000000000000000000000000000000000000000e8020006606cb80108021ff3e4000000000000c7e00100028000000000000
def parts_execScAbort : Nat := 0x80000080078edbf9
theorem Moves.execScAbort {p : Plane} {rq : Req} (h : Machine.execScAbort p rq s₀ = .next t₁) (hO : Mask.le objs_execScAbort mo) (hP : Mask.le parts_execScAbort mp) :
    Moves s₀.dev t₁.dev mo mp := by
  have O {a : Nat} (h : (a &&& objs_execScAbort == a) = true) := Mask.le_trans h hO
  have P {a : Nat} (h : (a &&& parts_execScAbort == a) = true) := Mask.le_trans h hP
  have B {k : Nat} (h : objs_execScAbort.testBit k = true) := Mask.bit h hO
  refine Moves.cmdRun h (fun d => ?_) (O (by decide)) (P (by decide))
  try dsimp only
  repeat' first
    | with_reducible exact Moves.refl ..
    | with_reducible refine Moves.set ?_ (B (by decide)) (by decide)
    | with_reducible refine Moves.commandNow ?_ (fun d => ?_) (O (by decide)) (P (by decide))
    | with_reducible refine Moves.run ?_ (O (by decide)) (P (by decide))
    | with_reducible refine Moves.scFail ?_ (O (by decide)) (P (by decide))
    | with_reducible refine Moves.ite (fun _ => ?_) (fun _ => ?_)
    | with_reducible refine Moves.ite1 (fun _ => ?_) (fun _ => ?_)
    | split
    | dsimp only

def objs_execScRequest : Nat := 0x37000000000000000000000a4000000000000000000000000000000000000000000000000000000000000000000000000000000000000000000400000000000000000000028000000000000
def parts_execScRequest : Nat := 0x80000a42e1
theorem Moves.execScRequest {p : Plane} {f : Frame} (h : Machine.execScRequest p f s₀ = .next t₁) (hO : Mask.le objs_execScRequest mo) (hP : Mask.le parts_execScRequest mp) :
    Moves s₀.dev t₁.dev mo mp := by
  have O {a : Nat} (h : (a &&& objs_execScRequest == a) = true) := Mask.le_trans h hO
  have P {a : Nat} (h : (a &&& parts_execScRequest == a) = true) := Mask.le_trans h hP
  refine Moves.cmdRunOn h (fun d => ?_) (O (by decide)) (P (by decide))
  try dsimp only
  repeat' first
    | with_reducible exact Moves.refl ..
    | with_reducible refine Moves.scServe ?_ (O (by decide)) (P (by decide))
    | with_reducible refine Moves.takeIn ?_ (O (by decide)) (P (by decide))
    | dsimp only

def objs_execScBoundary : Nat := 0x37000000000000000000000a400000000000000000000000000000000000000000000000000000000000000000e8020006606cb80100021ff3e4000000000000c7e00100028000000000000
def parts_execScBoundary : Nat := 0x80078edbf9
theorem Moves.execScBoundary {p : Plane} (h : Machine.execScBoundary p s₀ = .next t₁) (hO : Mask.le objs_execScBoundary mo) (hP : Mask.le parts_execScBoundary mp) :
    Moves s₀.dev t₁.dev mo mp := by
  have O {a : Nat} (h : (a &&& objs_execScBoundary == a) = true) := Mask.le_trans h hO
  have P {a : Nat} (h : (a &&& parts_execScBoundary == a) = true) := Mask.le_trans h hP
  refine Moves.cmdRunOn h (fun d => ?_) (O (by decide)) (P (by decide))
  try dsimp only
  repeat' first
    | with_reducible exact Moves.refl ..
    | with_reducible refine Moves.scBoundary ?_ (O (by decide)) (P (by decide))
    | dsimp only

def objs_execObjects : Nat := 0x3000000000000000000000a4000000000000000000000000000000000000000000000000000000000000000000000000000000000000000000000000000000000000000000000000000000
def parts_execObjects : Nat := 0x80000000e0
theorem Moves.execObjects {p : Plane} {f : Frame} (h : Machine.execObjects p f s₀ = .next t₁) (hO : Mask.le objs_execObjects mo) (hP : Mask.le parts_execObjects mp) :
    Moves s₀.dev t₁.dev mo mp := by
  have O {a : Nat} (h : (a &&& objs_execObjects == a) = true) := Mask.le_trans h hO
  have P {a : Nat} (h : (a &&& parts_execObjects == a) = true) := Mask.le_trans h hP
  refine Moves.cmdRunOn h (fun d => ?_) (O (by decide)) (P (by decide))
  try dsimp only
  repeat' first
    | with_reducible exact Moves.refl ..
    | with_reducible refine Moves.scObjects ?_ (O (by decide)) (P (by decide))
    | with_reducible refine Moves.takeIn ?_ (O (by decide)) (P (by decide))
    | dsimp only

def objs_execSlots : Nat := 0x3000000000000000000000a4000000000000000000000000000000000000000000000000000000000000000000000000000000000000000000000000000000000000000000000000000000
def parts_execSlots : Nat := 0x80010000e0
theorem Moves.execSlots {p : Plane} {f : Frame} (h : Machine.execSlots p f s₀ = .next t₁) (hO : Mask.le objs_execSlots mo) (hP : Mask.le parts_execSlots mp) :
    Moves s₀.dev t₁.dev mo mp := by
  have O {a : Nat} (h : (a &&& objs_execSlots == a) = true) := Mask.le_trans h hO
  have P {a : Nat} (h : (a &&& parts_execSlots == a) = true) := Mask.le_trans h hP
  refine Moves.cmdRunOn h (fun d => ?_) (O (by decide)) (P (by decide))
  try dsimp only
  repeat' first
    | with_reducible exact Moves.refl ..
    | with_reducible refine Moves.scSlots ?_ (O (by decide)) (P (by decide))
    | with_reducible refine Moves.takeIn ?_ (O (by decide)) (P (by decide))
    | dsimp only

def objs_execScDone : Nat := 0x370000001c0000000000000a400000000000000000000000000000000000000000000000000000000000000000e8020006606cf8031fe21ff3e4000000000000c7e00100028000000000000
def parts_execScDone : Nat := 0x80078edbf9
theorem Moves.execScDone {p : Plane} {f : Frame} (h : Machine.execScDone p f s₀ = .next t₁) (hO : Mask.le objs_execScDone mo) (hP : Mask.le parts_execScDone mp) :
    Moves s₀.dev t₁.dev mo mp := by
  have O {a : Nat} (h : (a &&& objs_execScDone == a) = true) := Mask.le_trans h hO
  have P {a : Nat} (h : (a &&& parts_execScDone == a) = true) := Mask.le_trans h hP
  refine Moves.cmdRunOn h (fun d => ?_) (O (by decide)) (P (by decide))
  try dsimp only
  repeat' first
    | with_reducible exact Moves.refl ..
    | with_reducible refine Moves.scDone ?_ (O (by decide)) (P (by decide))
    | with_reducible refine Moves.takeIn ?_ (O (by decide)) (P (by decide))
    | dsimp only

def objs_execScRefused : Nat := 0x370000001c0000000000000a4000000000000000000000000000000000000000000000000000000000000000000000000000000000080000000000000000000000c00000000000000000000
def parts_execScRefused : Nat := 0x80000c02e1
theorem Moves.execScRefused {p : Plane} {f : Frame} (h : Machine.execScRefused p f s₀ = .next t₁) (hO : Mask.le objs_execScRefused mo) (hP : Mask.le parts_execScRefused mp) :
    Moves s₀.dev t₁.dev mo mp := by
  have O {a : Nat} (h : (a &&& objs_execScRefused == a) = true) := Mask.le_trans h hO
  have P {a : Nat} (h : (a &&& parts_execScRefused == a) = true) := Mask.le_trans h hP
  refine Moves.cmdRunOn h (fun d => ?_) (O (by decide)) (P (by decide))
  try dsimp only
  repeat' first
    | with_reducible exact Moves.refl ..
    | with_reducible refine Moves.scRefused ?_ (O (by decide)) (P (by decide))
    | with_reducible refine Moves.takeIn ?_ (O (by decide)) (P (by decide))
    | dsimp only

def objs_execScTimeout : Nat := 0x370000001c0000000000000a4000000000000000000000000000000000000000000000000000000000000000000000000000000000080000000000000000000000c00000000000000000000
def parts_execScTimeout : Nat := 0x80000c02a1
theorem Moves.execScTimeout {p : Plane} (h : Machine.execScTimeout p s₀ = .next t₁) (hO : Mask.le objs_execScTimeout mo) (hP : Mask.le parts_execScTimeout mp) :
    Moves s₀.dev t₁.dev mo mp := by
  have O {a : Nat} (h : (a &&& objs_execScTimeout == a) = true) := Mask.le_trans h hO
  have P {a : Nat} (h : (a &&& parts_execScTimeout == a) = true) := Mask.le_trans h hP
  refine Moves.cmdRunOn h (fun d => ?_) (O (by decide)) (P (by decide))
  try dsimp only
  repeat' first
    | with_reducible exact Moves.refl ..
    | with_reducible refine Moves.scFail ?_ (O (by decide)) (P (by decide))
    | with_reducible refine Moves.ite (fun _ => ?_) (fun _ => ?_)
    | with_reducible refine Moves.ite1 (fun _ => ?_) (fun _ => ?_)
    | split
    | dsimp only

def objs_execPoreset : Nat := 0x7ffffffffffffffffffffffffffffffffffffffffffffffffffffffffffffffffffffffffffffffffffffffffffffffffffffffffffffffffffffffffffffffffffffffffffffffffffffff
def parts_execPoreset : Nat := 0xffffffffffffffff
theorem Moves.execPoreset {lowNs : Nat} (h : Machine.execPoreset lowNs s₀ = .next t₁) (hO : Mask.le objs_execPoreset mo) (hP : Mask.le parts_execPoreset mp) :
    Moves s₀.dev t₁.dev mo mp := by
  have O {a : Nat} (h : (a &&& objs_execPoreset == a) = true) := Mask.le_trans h hO
  have P {a : Nat} (h : (a &&& parts_execPoreset == a) = true) := Mask.le_trans h hP
  refine Moves.cmdPulse h (fun d => ?_) (O (by decide)) (P (by decide))
  try dsimp only
  repeat' first
    | with_reducible exact Moves.refl ..
    | with_reducible refine Moves.poreset ?_ (O (by decide)) (P (by decide))
    | dsimp only

def objs_execPlaneRst : Nat := 0x7ffffffffffffffffffffffffffffffffffffffffffffffffffffffffffffffffffffffffffffffffffffffffffffffffffffffffffffffffffffffffffffffffffffffffffffffffffffff
def parts_execPlaneRst : Nat := 0xffffffffffffffff
theorem Moves.execPlaneRst {p : Plane} {lowNs : Nat} (h : Machine.execPlaneRst p lowNs s₀ = .next t₁) (hO : Mask.le objs_execPlaneRst mo) (hP : Mask.le parts_execPlaneRst mp) :
    Moves s₀.dev t₁.dev mo mp := by
  have O {a : Nat} (h : (a &&& objs_execPlaneRst == a) = true) := Mask.le_trans h hO
  have P {a : Nat} (h : (a &&& parts_execPlaneRst == a) = true) := Mask.le_trans h hP
  refine Moves.cmdPulse h (fun d => ?_) (O (by decide)) (P (by decide))
  try dsimp only
  repeat' first
    | with_reducible exact Moves.refl ..
    | with_reducible refine Moves.resetPlane ?_ (O (by decide)) (P (by decide))
    | dsimp only

def objs_execPlaneResetCmd : Nat := 0x7ffffffffffffffffffffffffffffffffffffffffffffffffffffffffffffffffffffffffffffffffffffffffffffffffffffffffffffffffffffffffffffffffffffffffffffffffffffff
def parts_execPlaneResetCmd : Nat := 0xffffffffffffffff
theorem Moves.execPlaneResetCmd {rq : Req} (h : Machine.execPlaneResetCmd rq s₀ = .next t₁) (hO : Mask.le objs_execPlaneResetCmd mo) (hP : Mask.le parts_execPlaneResetCmd mp) :
    Moves s₀.dev t₁.dev mo mp := by
  have O {a : Nat} (h : (a &&& objs_execPlaneResetCmd == a) = true) := Mask.le_trans h hO
  have P {a : Nat} (h : (a &&& parts_execPlaneResetCmd == a) = true) := Mask.le_trans h hP
  have B {k : Nat} (h : objs_execPlaneResetCmd.testBit k = true) := Mask.bit h hO
  refine Moves.cmdRun h (fun d => ?_) (O (by decide)) (P (by decide))
  try dsimp only
  repeat' first
    | with_reducible exact Moves.refl ..
    | with_reducible refine Moves.cmdReads ?_ (B (by dsimp only; decide)) (by dsimp only; decide)
    | with_reducible refine Moves.command ?_ (fun d => ?_) (O (by decide)) (P (by decide))
    | with_reducible refine Moves.resetPlane ?_ (O (by decide)) (P (by decide))
    | with_reducible refine Moves.run ?_ (O (by decide)) (P (by decide))
    | dsimp only

def objs_execHubBoot : Nat := 0x7ffffffffffffffffffffffffffffffffffffffffffffffffffffffffffffffffffffffffffffffffffffffffffffffffffffffffffffffffffffffffffffffffffffffffffffffffffffff
def parts_execHubBoot : Nat := 0xffffffffffffffff
theorem Moves.execHubBoot  (h : Machine.execHubBoot  s₀ = .next t₁) (hO : Mask.le objs_execHubBoot mo) (hP : Mask.le parts_execHubBoot mp) :
    Moves s₀.dev t₁.dev mo mp := by
  have O {a : Nat} (h : (a &&& objs_execHubBoot == a) = true) := Mask.le_trans h hO
  have P {a : Nat} (h : (a &&& parts_execHubBoot == a) = true) := Mask.le_trans h hP
  refine Moves.cmdRun h (fun d => ?_) (O (by decide)) (P (by decide))
  try dsimp only
  repeat' first
    | with_reducible exact Moves.refl ..
    | with_reducible refine Moves.hubBoot ?_ (O (by decide)) (P (by decide))
    | with_reducible refine Moves.run ?_ (O (by decide)) (P (by decide))
    | dsimp only

def objs_execRefclkLost : Nat := 0x371000001c0000000020000a5000000000003000040000000801180a880000000000003e00208000015fb20002e8020006606cb80128021ff3e4000000000000c7e02103c7e800200001800
def parts_execRefclkLost : Nat := 0x180ff9ffffb
theorem Moves.execRefclkLost {p : Plane} (h : Machine.execRefclkLost p s₀ = .next t₁) (hO : Mask.le objs_execRefclkLost mo) (hP : Mask.le parts_execRefclkLost mp) :
    Moves s₀.dev t₁.dev mo mp := by
  have O {a : Nat} (h : (a &&& objs_execRefclkLost == a) = true) := Mask.le_trans h hO
  have P {a : Nat} (h : (a &&& parts_execRefclkLost == a) = true) := Mask.le_trans h hP
  refine Moves.cmdRun h (fun d => ?_) (O (by decide)) (P (by decide))
  try dsimp only
  repeat' first
    | with_reducible exact Moves.refl ..
    | with_reducible refine Moves.refclkLost ?_ (O (by decide)) (P (by decide))
    | with_reducible refine Moves.run ?_ (O (by decide)) (P (by decide))
    | dsimp only

def objs_execRefclkReturn : Nat := 0x7ffffffffffffffffffffffffffffffffffffffffffffffffffffffffffffffffffffffffffffffffffffffffffffffffffffffffffffffffffffffffffffffffffffffffffffffffffffff
def parts_execRefclkReturn : Nat := 0xffffffffffffffff
theorem Moves.execRefclkReturn {p : Plane} (h : Machine.execRefclkReturn p s₀ = .next t₁) (hO : Mask.le objs_execRefclkReturn mo) (hP : Mask.le parts_execRefclkReturn mp) :
    Moves s₀.dev t₁.dev mo mp := by
  have O {a : Nat} (h : (a &&& objs_execRefclkReturn == a) = true) := Mask.le_trans h hO
  have P {a : Nat} (h : (a &&& parts_execRefclkReturn == a) = true) := Mask.le_trans h hP
  refine Moves.cmdRun h (fun d => ?_) (O (by decide)) (P (by decide))
  try dsimp only
  repeat' first
    | with_reducible exact Moves.refl ..
    | with_reducible refine Moves.refclkReturn ?_ (O (by decide)) (P (by decide))
    | with_reducible refine Moves.run ?_ (O (by decide)) (P (by decide))
    | dsimp only

def objs_execHubRefclkLost : Nat := 0x37100000000000000000000a400000000000000000000000000000000000000000000000000000000000000000e8020006606cb80100021ff3e4000000000000c7e00100028000000000000
def parts_execHubRefclkLost : Nat := 0x78edbf9
theorem Moves.execHubRefclkLost  (h : Machine.execHubRefclkLost  s₀ = .next t₁) (hO : Mask.le objs_execHubRefclkLost mo) (hP : Mask.le parts_execHubRefclkLost mp) :
    Moves s₀.dev t₁.dev mo mp := by
  have O {a : Nat} (h : (a &&& objs_execHubRefclkLost == a) = true) := Mask.le_trans h hO
  have P {a : Nat} (h : (a &&& parts_execHubRefclkLost == a) = true) := Mask.le_trans h hP
  have B {k : Nat} (h : objs_execHubRefclkLost.testBit k = true) := Mask.bit h hO
  have S {k : Nat} (h : parts_execHubRefclkLost.testBit k = true) := Mask.bit h hP
  refine Moves.cmdRun h (fun d => ?_) (O (by decide)) (P (by decide))
  try dsimp only
  repeat' first
    | with_reducible exact Moves.refl ..
    | with_reducible refine Moves.set ?_ (B (by decide)) (by decide)
    | with_reducible refine Moves.run ?_ (O (by decide)) (P (by decide))
    | with_reducible refine Moves.with_hub ?_ (S (by decide))
    | dsimp only

def objs_execAvsUpdate : Nat := 0x37000800000000000000000a400000000000000000000000000000000000000000000000000000000000000000e8020006606cb80100021ff3e4000000000000c7e00100028000000000000
def parts_execAvsUpdate : Nat := 0x78edbf9
theorem Moves.execAvsUpdate {busOk : Bool} (h : Machine.execAvsUpdate busOk s₀ = .next t₁) (hO : Mask.le objs_execAvsUpdate mo) (hP : Mask.le parts_execAvsUpdate mp) :
    Moves s₀.dev t₁.dev mo mp := by
  have O {a : Nat} (h : (a &&& objs_execAvsUpdate == a) = true) := Mask.le_trans h hO
  have P {a : Nat} (h : (a &&& parts_execAvsUpdate == a) = true) := Mask.le_trans h hP
  refine Moves.cmdRun h (fun d => ?_) (O (by decide)) (P (by decide))
  try dsimp only
  repeat' first
    | with_reducible exact Moves.refl ..
    | with_reducible refine Moves.avsUpdate ?_ (O (by decide)) (P (by decide))
    | with_reducible refine Moves.run ?_ (O (by decide)) (P (by decide))
    | dsimp only

def objs_execPmbusPoll : Nat := 0x370b0100000000000000000a400000000000000000000000000000000000000000000000000000000000000000e8020006606cb80100021ff3e4000000000000c7e00100028000000000000
def parts_execPmbusPoll : Nat := 0x78edbf9
theorem Moves.execPmbusPoll {readings : List RailReading} (h : Machine.execPmbusPoll readings s₀ = .next t₁) (hO : Mask.le objs_execPmbusPoll mo) (hP : Mask.le parts_execPmbusPoll mp) :
    Moves s₀.dev t₁.dev mo mp := by
  have O {a : Nat} (h : (a &&& objs_execPmbusPoll == a) = true) := Mask.le_trans h hO
  have P {a : Nat} (h : (a &&& parts_execPmbusPoll == a) = true) := Mask.le_trans h hP
  refine Moves.cmdRun h (fun d => ?_) (O (by decide)) (P (by decide))
  try dsimp only
  repeat' first
    | with_reducible exact Moves.refl ..
    | with_reducible refine Moves.pmbusPoll ?_ (O (by decide)) (P (by decide))
    | with_reducible refine Moves.run ?_ (O (by decide)) (P (by decide))
    | dsimp only

def objs_execOperatingPointChange : Nat := 0x37042400000000000000000a400000000000000000000000000000000000000000000000000000000000000000e8020006606cb80100021ff3e4000000000000c7e00100028000000000000
def parts_execOperatingPointChange : Nat := 0x78edbf9
theorem Moves.execOperatingPointChange {tj : Int} (h : Machine.execOperatingPointChange tj s₀ = .next t₁) (hO : Mask.le objs_execOperatingPointChange mo) (hP : Mask.le parts_execOperatingPointChange mp) :
    Moves s₀.dev t₁.dev mo mp := by
  have O {a : Nat} (h : (a &&& objs_execOperatingPointChange == a) = true) := Mask.le_trans h hO
  have P {a : Nat} (h : (a &&& parts_execOperatingPointChange == a) = true) := Mask.le_trans h hP
  refine Moves.cmdRun h (fun d => ?_) (O (by decide)) (P (by decide))
  try dsimp only
  repeat' first
    | with_reducible exact Moves.refl ..
    | with_reducible refine Moves.operatingPoint ?_ (O (by decide)) (P (by decide))
    | with_reducible refine Moves.run ?_ (O (by decide)) (P (by decide))
    | dsimp only

def objs_execChipletTemperature : Nat := 0x370040001c0000000020000a4000000000000000000000000001381a8800000000000000000000000000000000e8020006606cb80108021ff3e4000000000000c7e00100068000200001800
def parts_execChipletTemperature : Nat := 0x801f9edff9
theorem Moves.execChipletTemperature {p : Plane} {c : Chip} {t : Int} (h : Machine.execChipletTemperature p c t s₀ = .next t₁) (hO : Mask.le objs_execChipletTemperature mo) (hP : Mask.le parts_execChipletTemperature mp) :
    Moves s₀.dev t₁.dev mo mp := by
  have O {a : Nat} (h : (a &&& objs_execChipletTemperature == a) = true) := Mask.le_trans h hO
  have P {a : Nat} (h : (a &&& parts_execChipletTemperature == a) = true) := Mask.le_trans h hP
  refine Moves.cmdRun h (fun d => ?_) (O (by decide)) (P (by decide))
  try dsimp only
  repeat' first
    | with_reducible exact Moves.refl ..
    | with_reducible refine Moves.chipletTemperature ?_ (O (by decide)) (P (by decide))
    | with_reducible refine Moves.run ?_ (O (by decide)) (P (by decide))
    | dsimp only

def objs_execThermalTrip : Nat := 0x370000001c0000000020000a502b800000003000040000000801180a880000000000003e00208000015fb20002e8020006606cb80128021ff3e4000000000000c7e02103c7e800200001800
def parts_execThermalTrip : Nat := 0x180ff9ffffb
theorem Moves.execThermalTrip  (h : Machine.execThermalTrip  s₀ = .next t₁) (hO : Mask.le objs_execThermalTrip mo) (hP : Mask.le parts_execThermalTrip mp) :
    Moves s₀.dev t₁.dev mo mp := by
  have O {a : Nat} (h : (a &&& objs_execThermalTrip == a) = true) := Mask.le_trans h hO
  have P {a : Nat} (h : (a &&& parts_execThermalTrip == a) = true) := Mask.le_trans h hP
  refine Moves.cmdRun h (fun d => ?_) (O (by decide)) (P (by decide))
  try dsimp only
  repeat' first
    | with_reducible exact Moves.refl ..
    | with_reducible refine Moves.thermalTrip ?_ (O (by decide)) (P (by decide))
    | with_reducible refine Moves.run ?_ (O (by decide)) (P (by decide))
    | dsimp only

def objs_execFwVerify : Nat := 0x37000042000000000000000a402b80058000000000000000000000000000000000000000000000000000000000e8020006606cb80100021ff3e4000000000000c7e00100028000000000000
def parts_execFwVerify : Nat := 0x80000000078edbf9
theorem Moves.execFwVerify {rq : Req} (h : Machine.execFwVerify rq s₀ = .next t₁) (hO : Mask.le objs_execFwVerify mo) (hP : Mask.le parts_execFwVerify mp) :
    Moves s₀.dev t₁.dev mo mp := by
  have O {a : Nat} (h : (a &&& objs_execFwVerify == a) = true) := Mask.le_trans h hO
  have P {a : Nat} (h : (a &&& parts_execFwVerify == a) = true) := Mask.le_trans h hP
  refine Moves.cmdRun h (fun d => ?_) (O (by decide)) (P (by decide))
  try dsimp only
  repeat' first
    | with_reducible exact Moves.refl ..
    | with_reducible refine Moves.fwCommand ?_ (fun d => ?_) (O (by decide)) (P (by decide))
    | with_reducible refine Moves.fwVerify ?_ (O (by decide)) (P (by decide))
    | with_reducible refine Moves.run ?_ (O (by decide)) (P (by decide))
    | dsimp only

def objs_execRollbackFloorRaise : Nat := 0x37000050000000000000000a400000058000000000000000000000000000000000000000000000000000000000e8020006606cb80100021ff3e4000000000000c7e00100028000000000000
def parts_execRollbackFloorRaise : Nat := 0x80000000078edbf9
theorem Moves.execRollbackFloorRaise {rq : Req} (h : Machine.execRollbackFloorRaise rq s₀ = .next t₁) (hO : Mask.le objs_execRollbackFloorRaise mo) (hP : Mask.le parts_execRollbackFloorRaise mp) :
    Moves s₀.dev t₁.dev mo mp := by
  have O {a : Nat} (h : (a &&& objs_execRollbackFloorRaise == a) = true) := Mask.le_trans h hO
  have P {a : Nat} (h : (a &&& parts_execRollbackFloorRaise == a) = true) := Mask.le_trans h hP
  refine Moves.cmdRun h (fun d => ?_) (O (by decide)) (P (by decide))
  try dsimp only
  repeat' first
    | with_reducible exact Moves.refl ..
    | with_reducible refine Moves.fwCommand ?_ (fun d => ?_) (O (by decide)) (P (by decide))
    | with_reducible refine Moves.raiseFloor ?_ (O (by decide)) (P (by decide))
    | with_reducible refine Moves.run ?_ (O (by decide)) (P (by decide))
    | dsimp only

def objs_execVddIoLow : Nat := 0x37000000000000000000000a400000000000000000000000000000000000000000000000000000000000000000e8020006606cb80100021ff3e4000000000000c7e00100028000000000000
def parts_execVddIoLow : Nat := 0x78edbf9
theorem Moves.execVddIoLow  (h : Machine.execVddIoLow  s₀ = .next t₁) (hO : Mask.le objs_execVddIoLow mo) (hP : Mask.le parts_execVddIoLow mp) :
    Moves s₀.dev t₁.dev mo mp := by
  have O {a : Nat} (h : (a &&& objs_execVddIoLow == a) = true) := Mask.le_trans h hO
  have P {a : Nat} (h : (a &&& parts_execVddIoLow == a) = true) := Mask.le_trans h hP
  have S {k : Nat} (h : parts_execVddIoLow.testBit k = true) := Mask.bit h hP
  refine Moves.cmdRun h (fun d => ?_) (O (by decide)) (P (by decide))
  try dsimp only
  repeat' first
    | with_reducible exact Moves.refl ..
    | with_reducible refine Moves.run ?_ (O (by decide)) (P (by decide))
    | with_reducible refine Moves.with_hub ?_ (S (by decide))
    | dsimp only

def objs_execVddIoRestored : Nat := 0x37000000000000000000000a400000000000000000000000000000000000000000000000000000000000000000e8020006606cb80100021ff3e4000000000000c7e00100028000000000000
def parts_execVddIoRestored : Nat := 0x78edbf9
theorem Moves.execVddIoRestored  (h : Machine.execVddIoRestored  s₀ = .next t₁) (hO : Mask.le objs_execVddIoRestored mo) (hP : Mask.le parts_execVddIoRestored mp) :
    Moves s₀.dev t₁.dev mo mp := by
  have O {a : Nat} (h : (a &&& objs_execVddIoRestored == a) = true) := Mask.le_trans h hO
  have P {a : Nat} (h : (a &&& parts_execVddIoRestored == a) = true) := Mask.le_trans h hP
  have S {k : Nat} (h : parts_execVddIoRestored.testBit k = true) := Mask.bit h hP
  refine Moves.cmdRun h (fun d => ?_) (O (by decide)) (P (by decide))
  try dsimp only
  repeat' first
    | with_reducible exact Moves.refl ..
    | with_reducible refine Moves.run ?_ (O (by decide)) (P (by decide))
    | with_reducible refine Moves.with_hub ?_ (S (by decide))
    | dsimp only

def objs_execSupplyCollapse : Nat := 0x7ffffffffffffffffffffffffffffffffffffffffffffffffffffffffffffffffffffffffffffffffffffffffffffffffffffffffffffffffffffffffffffffffffffffffffffffffffffff
def parts_execSupplyCollapse : Nat := 0xffffffffffffffff
theorem Moves.execSupplyCollapse {at_ : JournalStep} (h : Machine.execSupplyCollapse at_ s₀ = .next t₁) (hO : Mask.le objs_execSupplyCollapse mo) (hP : Mask.le parts_execSupplyCollapse mp) :
    Moves s₀.dev t₁.dev mo mp := by
  have O {a : Nat} (h : (a &&& objs_execSupplyCollapse == a) = true) := Mask.le_trans h hO
  have P {a : Nat} (h : (a &&& parts_execSupplyCollapse == a) = true) := Mask.le_trans h hP
  refine Moves.cmdRun h (fun d => ?_) (O (by decide)) (P (by decide))
  try dsimp only
  repeat' first
    | with_reducible exact Moves.refl ..
    | with_reducible refine Moves.supplyCollapse ?_ (O (by decide)) (P (by decide))
    | with_reducible refine Moves.run ?_ (O (by decide)) (P (by decide))
    | dsimp only

def objs_execLock : Nat := 0x37000000000000000000000a402be0058000000000000000000000000000000000000000000000000000000000e8020006606cb80100021ff3e4000000000000c7e00100028000000000000
def parts_execLock : Nat := 0x80000000078edbf9
theorem Moves.execLock {rq : Req} (h : Machine.execLock rq s₀ = .next t₁) (hO : Mask.le objs_execLock mo) (hP : Mask.le parts_execLock mp) :
    Moves s₀.dev t₁.dev mo mp := by
  have O {a : Nat} (h : (a &&& objs_execLock == a) = true) := Mask.le_trans h hO
  have P {a : Nat} (h : (a &&& parts_execLock == a) = true) := Mask.le_trans h hP
  refine Moves.cmdRun h (fun d => ?_) (O (by decide)) (P (by decide))
  try dsimp only
  repeat' first
    | with_reducible exact Moves.refl ..
    | with_reducible refine Moves.command ?_ (fun d => ?_) (O (by decide)) (P (by decide))
    | with_reducible refine Moves.lockNow ?_ (O (by decide)) (P (by decide))
    | with_reducible refine Moves.run ?_ (O (by decide)) (P (by decide))
    | dsimp only

def objs_execLockRelease : Nat := 0x37000000000000000000000a400020058000000000000000000000000000000000000000000000000000000000e8020006606cb80100021ff3e4000000000000c7e00100028000000000000
def parts_execLockRelease : Nat := 0x80000000078edbf9
theorem Moves.execLockRelease {rq : Req} (h : Machine.execLockRelease rq s₀ = .next t₁) (hO : Mask.le objs_execLockRelease mo) (hP : Mask.le parts_execLockRelease mp) :
    Moves s₀.dev t₁.dev mo mp := by
  have O {a : Nat} (h : (a &&& objs_execLockRelease == a) = true) := Mask.le_trans h hO
  have P {a : Nat} (h : (a &&& parts_execLockRelease == a) = true) := Mask.le_trans h hP
  have B {k : Nat} (h : objs_execLockRelease.testBit k = true) := Mask.bit h hO
  have S {k : Nat} (h : parts_execLockRelease.testBit k = true) := Mask.bit h hP
  refine Moves.cmdRun h (fun d => ?_) (O (by decide)) (P (by decide))
  try dsimp only
  repeat' first
    | with_reducible exact Moves.refl ..
    | with_reducible refine Moves.set ?_ (B (by decide)) (by decide)
    | with_reducible refine Moves.command ?_ (fun d => ?_) (O (by decide)) (P (by decide))
    | with_reducible refine Moves.run ?_ (O (by decide)) (P (by decide))
    | with_reducible refine Moves.ite (fun _ => ?_) (fun _ => ?_)
    | with_reducible refine Moves.ite1 (fun _ => ?_) (fun _ => ?_)
    | split
    | with_reducible refine Moves.with_hub ?_ (S (by decide))
    | dsimp only

def objs_execFactoryReset : Nat := 0x37000000000000000000000a408000058000000000000000000000000000000000000000000000000000000000e8020006606cb80100021ff3e4000000000000c7e00100028000000000000
def parts_execFactoryReset : Nat := 0x80000000078edbf9
theorem Moves.execFactoryReset {rq : Req} (h : Machine.execFactoryReset rq s₀ = .next t₁) (hO : Mask.le objs_execFactoryReset mo) (hP : Mask.le parts_execFactoryReset mp) :
    Moves s₀.dev t₁.dev mo mp := by
  have O {a : Nat} (h : (a &&& objs_execFactoryReset == a) = true) := Mask.le_trans h hO
  have P {a : Nat} (h : (a &&& parts_execFactoryReset == a) = true) := Mask.le_trans h hP
  have B {k : Nat} (h : objs_execFactoryReset.testBit k = true) := Mask.bit h hO
  have S {k : Nat} (h : parts_execFactoryReset.testBit k = true) := Mask.bit h hP
  refine Moves.cmdRun h (fun d => ?_) (O (by decide)) (P (by decide))
  try dsimp only
  repeat' first
    | with_reducible exact Moves.refl ..
    | with_reducible refine Moves.set ?_ (B (by decide)) (by decide)
    | with_reducible refine Moves.command ?_ (fun d => ?_) (O (by decide)) (P (by decide))
    | with_reducible refine Moves.run ?_ (O (by decide)) (P (by decide))
    | with_reducible refine Moves.with_hub ?_ (S (by decide))
    | dsimp only

def objs_execSnapshotArm : Nat := 0x37000000000000000000000a500000058000000000000000000000000000000000000000000000000000000000e8020006606cb80100021ff3e4000000000000c7e00100028000000000000
def parts_execSnapshotArm : Nat := 0x80000100078edbfb
theorem Moves.execSnapshotArm {rq : Req} (h : Machine.execSnapshotArm rq s₀ = .next t₁) (hO : Mask.le objs_execSnapshotArm mo) (hP : Mask.le parts_execSnapshotArm mp) :
    Moves s₀.dev t₁.dev mo mp := by
  have O {a : Nat} (h : (a &&& objs_execSnapshotArm == a) = true) := Mask.le_trans h hO
  have P {a : Nat} (h : (a &&& parts_execSnapshotArm == a) = true) := Mask.le_trans h hP
  refine Moves.cmdRun h (fun d => ?_) (O (by decide)) (P (by decide))
  try dsimp only
  repeat' first
    | with_reducible exact Moves.refl ..
    | with_reducible refine Moves.commandNow ?_ (fun d => ?_) (O (by decide)) (P (by decide))
    | with_reducible refine Moves.snapArm ?_ (O (by decide)) (P (by decide))
    | with_reducible refine Moves.run ?_ (O (by decide)) (P (by decide))
    | dsimp only

def objs_execNdpHandshake : Nat := 0x7ffffffffffffffffffffffffffffffffffffffffffffffffffffffffffffffffffffffffffffffffffffffffffffffffffffffffffffffffffffffffffffffffffffffffffffffffffffff
def parts_execNdpHandshake : Nat := 0xffffffffffffffff
theorem Moves.execNdpHandshake {mport : Fin 2} {fp : BitVec 256} {chainOk : Bool} (h : Machine.execNdpHandshake mport fp chainOk s₀ = .next t₁) (hO : Mask.le objs_execNdpHandshake mo) (hP : Mask.le parts_execNdpHandshake mp) :
    Moves s₀.dev t₁.dev mo mp := by
  have O {a : Nat} (h : (a &&& objs_execNdpHandshake == a) = true) := Mask.le_trans h hO
  have P {a : Nat} (h : (a &&& parts_execNdpHandshake == a) = true) := Mask.le_trans h hP
  refine Moves.cmdRun h (fun d => ?_) (O (by decide)) (P (by decide))
  try dsimp only
  repeat' first
    | with_reducible exact Moves.refl ..
    | with_reducible refine Moves.handshake ?_ (O (by decide)) (P (by decide))
    | with_reducible refine Moves.run ?_ (O (by decide)) (P (by decide))
    | dsimp only

def objs_execSessionIdleTimeout : Nat := 0x37000000000000000000000a400000100000000000000000000000000000000000000000000000000000000000e8020006606cb80100021ff3e4000000000000c7e00100028000000000000
def parts_execSessionIdleTimeout : Nat := 0x78edbf9
theorem Moves.execSessionIdleTimeout {ses : Session} (h : Machine.execSessionIdleTimeout ses s₀ = .next t₁) (hO : Mask.le objs_execSessionIdleTimeout mo) (hP : Mask.le parts_execSessionIdleTimeout mp) :
    Moves s₀.dev t₁.dev mo mp := by
  have O {a : Nat} (h : (a &&& objs_execSessionIdleTimeout == a) = true) := Mask.le_trans h hO
  have P {a : Nat} (h : (a &&& parts_execSessionIdleTimeout == a) = true) := Mask.le_trans h hP
  refine Moves.cmdRun h (fun d => ?_) (O (by decide)) (P (by decide))
  try dsimp only
  repeat' first
    | with_reducible exact Moves.refl ..
    | with_reducible refine Moves.endSession ?_ (O (by decide)) (P (by decide))
    | with_reducible refine Moves.run ?_ (O (by decide)) (P (by decide))
    | with_reducible refine Moves.ite (fun _ => ?_) (fun _ => ?_)
    | with_reducible refine Moves.ite1 (fun _ => ?_) (fun _ => ?_)
    | split
    | dsimp only

def objs_execMgmtLinkDown : Nat := 0x37000000000000000000000a400000100800000000000000000000000000000000000000000000000000000000e8020006606cb80100021ff3e4000000000000c7e00100028000000000000
def parts_execMgmtLinkDown : Nat := 0x78edbf9
theorem Moves.execMgmtLinkDown {mport : Fin 2} (h : Machine.execMgmtLinkDown mport s₀ = .next t₁) (hO : Mask.le objs_execMgmtLinkDown mo) (hP : Mask.le parts_execMgmtLinkDown mp) :
    Moves s₀.dev t₁.dev mo mp := by
  have O {a : Nat} (h : (a &&& objs_execMgmtLinkDown == a) = true) := Mask.le_trans h hO
  have P {a : Nat} (h : (a &&& parts_execMgmtLinkDown == a) = true) := Mask.le_trans h hP
  refine Moves.cmdRun h (fun d => ?_) (O (by decide)) (P (by decide))
  try dsimp only
  repeat' first
    | with_reducible exact Moves.refl ..
    | with_reducible refine Moves.mgmtDown ?_ (O (by decide)) (P (by decide))
    | with_reducible refine Moves.run ?_ (O (by decide)) (P (by decide))
    | dsimp only

def objs_execMgmtLinkUp : Nat := 0x37000000000000000000000a400000000800000000000000000000000000000000000000000000000000000000e8020006606cb80100021ff3e4000000000000c7e00100028000000000000
def parts_execMgmtLinkUp : Nat := 0x78edbf9
theorem Moves.execMgmtLinkUp {mport : Fin 2} (h : Machine.execMgmtLinkUp mport s₀ = .next t₁) (hO : Mask.le objs_execMgmtLinkUp mo) (hP : Mask.le parts_execMgmtLinkUp mp) :
    Moves s₀.dev t₁.dev mo mp := by
  have O {a : Nat} (h : (a &&& objs_execMgmtLinkUp == a) = true) := Mask.le_trans h hO
  have P {a : Nat} (h : (a &&& parts_execMgmtLinkUp == a) = true) := Mask.le_trans h hP
  have B {k : Nat} (h : objs_execMgmtLinkUp.testBit k = true) := Mask.bit h hO
  refine Moves.cmdRun h (fun d => ?_) (O (by decide)) (P (by decide))
  try dsimp only
  repeat' first
    | with_reducible exact Moves.refl ..
    | with_reducible refine Moves.set ?_ (B (by decide)) (by decide)
    | with_reducible refine Moves.run ?_ (O (by decide)) (P (by decide))
    | with_reducible refine Moves.ite (fun _ => ?_) (fun _ => ?_)
    | with_reducible refine Moves.ite1 (fun _ => ?_) (fun _ => ?_)
    | split
    | dsimp only

def objs_execHostLinkTrained : Nat := 0x37000000000000000000000a400000000000000000000000000000000000000000000000000000000000000000e8020006606cb80100021ff3e4000000000000c7e00100028000000000000
def parts_execHostLinkTrained : Nat := 0x78edbf9
theorem Moves.execHostLinkTrained {width rate : BitVec 4} (h : Machine.execHostLinkTrained width rate s₀ = .next t₁) (hO : Mask.le objs_execHostLinkTrained mo) (hP : Mask.le parts_execHostLinkTrained mp) :
    Moves s₀.dev t₁.dev mo mp := by
  have O {a : Nat} (h : (a &&& objs_execHostLinkTrained == a) = true) := Mask.le_trans h hO
  have P {a : Nat} (h : (a &&& parts_execHostLinkTrained == a) = true) := Mask.le_trans h hP
  have S {k : Nat} (h : parts_execHostLinkTrained.testBit k = true) := Mask.bit h hP
  refine Moves.cmdRun h (fun d => ?_) (O (by decide)) (P (by decide))
  try dsimp only
  repeat' first
    | with_reducible exact Moves.refl ..
    | with_reducible refine Moves.run ?_ (O (by decide)) (P (by decide))
    | with_reducible refine Moves.with_hub ?_ (S (by decide))
    | dsimp only

def objs_execRead : Nat := 0x37000000000000000000000a400000058000000000000000000000000000000000000000000000000000000000e8020006606cb80100021ff3e4000000000000c7e00100028000000000000
def parts_execRead : Nat := 0x80000000078edbf9
theorem Moves.execRead {rq : Req} {idx : BitVec 16} {sub : Byte} (h : Machine.execRead rq idx sub s₀ = .next t₁) (hO : Mask.le objs_execRead mo) (hP : Mask.le parts_execRead mp) :
    Moves s₀.dev t₁.dev mo mp := by
  have O {a : Nat} (h : (a &&& objs_execRead == a) = true) := Mask.le_trans h hO
  have P {a : Nat} (h : (a &&& parts_execRead == a) = true) := Mask.le_trans h hP
  refine Moves.cmdRun h (fun d => ?_) (O (by decide)) (P (by decide))
  try dsimp only
  repeat' first
    | with_reducible exact Moves.refl ..
    | with_reducible refine Moves.requestAt ?_ (fun d => ?_) (O (by decide)) (P (by decide))
    | with_reducible refine Moves.readReq ?_ (O (by decide)) (P (by decide))
    | with_reducible refine Moves.run ?_ (O (by decide)) (P (by decide))
    | dsimp only

def objs_execReadClear : Nat := 0x7ffffffffffffffffffffffffffffffffffffffffffffffffffffffffffffffffffffffffffffffffffffffffffffffffffffffffffffffffffffffffffffffffffffffffffffffffffffff
def parts_execReadClear : Nat := 0xffffffffffffffff
theorem Moves.execReadClear {rq : Req} {idx : BitVec 16} {sub : Byte} (h : Machine.execReadClear rq idx sub s₀ = .next t₁) (hO : Mask.le objs_execReadClear mo) (hP : Mask.le parts_execReadClear mp) :
    Moves s₀.dev t₁.dev mo mp := by
  have O {a : Nat} (h : (a &&& objs_execReadClear == a) = true) := Mask.le_trans h hO
  have P {a : Nat} (h : (a &&& parts_execReadClear == a) = true) := Mask.le_trans h hP
  refine Moves.cmdRun h (fun d => ?_) (O (by decide)) (P (by decide))
  try dsimp only
  repeat' first
    | with_reducible exact Moves.refl ..
    | with_reducible refine Moves.requestAt ?_ (fun d => ?_) (O (by decide)) (P (by decide))
    | with_reducible refine Moves.readClearReq ?_ (O (by decide)) (P (by decide))
    | with_reducible refine Moves.run ?_ (O (by decide)) (P (by decide))
    | dsimp only

def objs_execDomainReadStart : Nat := 0x37000000000000000000000a400000058000000000000000000000000000000000000000000000000000000000e8020006606cb80100021ff3e4000000000000c7e00100028000000000000
def parts_execDomainReadStart : Nat := 0x80000000078edbf9
theorem Moves.execDomainReadStart {rq : Req} {idx : BitVec 16} {sub : Byte} (h : Machine.execDomainReadStart rq idx sub s₀ = .next t₁) (hO : Mask.le objs_execDomainReadStart mo) (hP : Mask.le parts_execDomainReadStart mp) :
    Moves s₀.dev t₁.dev mo mp := by
  have O {a : Nat} (h : (a &&& objs_execDomainReadStart == a) = true) := Mask.le_trans h hO
  have P {a : Nat} (h : (a &&& parts_execDomainReadStart == a) = true) := Mask.le_trans h hP
  refine Moves.cmdRun h (fun d => ?_) (O (by decide)) (P (by decide))
  try dsimp only
  repeat' first
    | with_reducible exact Moves.refl ..
    | with_reducible refine Moves.requestAt ?_ (fun d => ?_) (O (by decide)) (P (by decide))
    | with_reducible refine Moves.domainStart ?_ (O (by decide)) (P (by decide))
    | with_reducible refine Moves.run ?_ (O (by decide)) (P (by decide))
    | dsimp only

def objs_execDomainReadSeg : Nat := 0x37000000000000000000000a400000058000000000000000000000000000000000000000000000000000000000e8020006606cb80100021ff3e4000000000000c7e00100028000000000000
def parts_execDomainReadSeg : Nat := 0x80000000078edbf9
theorem Moves.execDomainReadSeg {rq : Req} {idx : BitVec 16} {sub : Byte} {seg : BitVec 32} (h : Machine.execDomainReadSeg rq idx sub seg s₀ = .next t₁) (hO : Mask.le objs_execDomainReadSeg mo) (hP : Mask.le parts_execDomainReadSeg mp) :
    Moves s₀.dev t₁.dev mo mp := by
  have O {a : Nat} (h : (a &&& objs_execDomainReadSeg == a) = true) := Mask.le_trans h hO
  have P {a : Nat} (h : (a &&& parts_execDomainReadSeg == a) = true) := Mask.le_trans h hP
  refine Moves.cmdRun h (fun d => ?_) (O (by decide)) (P (by decide))
  try dsimp only
  repeat' first
    | with_reducible exact Moves.refl ..
    | with_reducible refine Moves.requestAt ?_ (fun d => ?_) (O (by decide)) (P (by decide))
    | with_reducible refine Moves.domainReadSeg ?_ (O (by decide)) (P (by decide))
    | with_reducible refine Moves.run ?_ (O (by decide)) (P (by decide))
    | dsimp only

def objs_execDomainWriteStart : Nat := 0x37000000000000000000000a400000058000000000000000000000000000000000000000000000000000000000e8020006606cb80100021ff3e4000000000000c7e00100028000000000000
def parts_execDomainWriteStart : Nat := 0x80000000078edbf9
theorem Moves.execDomainWriteStart {rq : Req} {idx : BitVec 16} {sub : Byte} {total crc : BitVec 32} (h : Machine.execDomainWriteStart rq idx sub total crc s₀ = .next t₁) (hO : Mask.le objs_execDomainWriteStart mo) (hP : Mask.le parts_execDomainWriteStart mp) :
    Moves s₀.dev t₁.dev mo mp := by
  have O {a : Nat} (h : (a &&& objs_execDomainWriteStart == a) = true) := Mask.le_trans h hO
  have P {a : Nat} (h : (a &&& parts_execDomainWriteStart == a) = true) := Mask.le_trans h hP
  refine Moves.cmdRun h (fun d => ?_) (O (by decide)) (P (by decide))
  try dsimp only
  repeat' first
    | with_reducible exact Moves.refl ..
    | with_reducible refine Moves.requestAt ?_ (fun d => ?_) (O (by decide)) (P (by decide))
    | with_reducible refine Moves.domainStart ?_ (O (by decide)) (P (by decide))
    | with_reducible refine Moves.run ?_ (O (by decide)) (P (by decide))
    | dsimp only

def objs_execDomainWriteSeg : Nat := 0x37000000000000000000000a402b80058000000000000000000000000000000000000000000000000000000000e8020006606cb80100021ff3e4000000000000c7e00100028000000000000
def parts_execDomainWriteSeg : Nat := 0x80000000078edbfb
theorem Moves.execDomainWriteSeg {rq : Req} {idx : BitVec 16} {sub : Byte} {seg : BitVec 32} {v : Bytes} (h : Machine.execDomainWriteSeg rq idx sub seg v s₀ = .next t₁) (hO : Mask.le objs_execDomainWriteSeg mo) (hP : Mask.le parts_execDomainWriteSeg mp) :
    Moves s₀.dev t₁.dev mo mp := by
  have O {a : Nat} (h : (a &&& objs_execDomainWriteSeg == a) = true) := Mask.le_trans h hO
  have P {a : Nat} (h : (a &&& parts_execDomainWriteSeg == a) = true) := Mask.le_trans h hP
  refine Moves.cmdRun h (fun d => ?_) (O (by decide)) (P (by decide))
  try dsimp only
  repeat' first
    | with_reducible exact Moves.refl ..
    | with_reducible refine Moves.requestAt ?_ (fun d => ?_) (O (by decide)) (P (by decide))
    | with_reducible refine Moves.domainWriteSeg ?_ (O (by decide)) (P (by decide))
    | with_reducible refine Moves.run ?_ (O (by decide)) (P (by decide))
    | dsimp only

def objs_execDomainAbort : Nat := 0x37000000000000000000000a400000058000000000000000000000000000000000000000000000000000000000e8020006606cb80100021ff3e4000000000000c7e00100028000000000000
def parts_execDomainAbort : Nat := 0x80000000078edbf9
theorem Moves.execDomainAbort {rq : Req} {idx : BitVec 16} {sub : Byte} (h : Machine.execDomainAbort rq idx sub s₀ = .next t₁) (hO : Mask.le objs_execDomainAbort mo) (hP : Mask.le parts_execDomainAbort mp) :
    Moves s₀.dev t₁.dev mo mp := by
  have O {a : Nat} (h : (a &&& objs_execDomainAbort == a) = true) := Mask.le_trans h hO
  have P {a : Nat} (h : (a &&& parts_execDomainAbort == a) = true) := Mask.le_trans h hP
  refine Moves.cmdRun h (fun d => ?_) (O (by decide)) (P (by decide))
  try dsimp only
  repeat' first
    | with_reducible exact Moves.refl ..
    | with_reducible refine Moves.requestAt ?_ (fun d => ?_) (O (by decide)) (P (by decide))
    | with_reducible refine Moves.domainAbort ?_ (O (by decide)) (P (by decide))
    | with_reducible refine Moves.run ?_ (O (by decide)) (P (by decide))
    | dsimp only

def objs_execDomainTimeout : Nat := 0x37000000000000000000000a400000100000000000000000000000000000000000000000000000000000000000e8020006606cb80100021ff3e4000000000000c7e00100028000000000000
def parts_execDomainTimeout : Nat := 0x78edbf9
theorem Moves.execDomainTimeout {ses : Session} (h : Machine.execDomainTimeout ses s₀ = .next t₁) (hO : Mask.le objs_execDomainTimeout mo) (hP : Mask.le parts_execDomainTimeout mp) :
    Moves s₀.dev t₁.dev mo mp := by
  have O {a : Nat} (h : (a &&& objs_execDomainTimeout == a) = true) := Mask.le_trans h hO
  have P {a : Nat} (h : (a &&& parts_execDomainTimeout == a) = true) := Mask.le_trans h hP
  refine Moves.cmdRun h (fun d => ?_) (O (by decide)) (P (by decide))
  try dsimp only
  repeat' first
    | with_reducible exact Moves.refl ..
    | with_reducible refine Moves.dropXfer ?_ (O (by decide)) (P (by decide))
    | with_reducible refine Moves.run ?_ (O (by decide)) (P (by decide))
    | with_reducible refine Moves.ite (fun _ => ?_) (fun _ => ?_)
    | with_reducible refine Moves.ite1 (fun _ => ?_) (fun _ => ?_)
    | split
    | dsimp only

def objs_execKeepalive : Nat := 0x37000000000000000000000a400000058000000000000000000000000000000000000000000000000000000000e8020006606cb80100021ff3e4000000000000c7e00100028000000000000
def parts_execKeepalive : Nat := 0x80000000078edbf9
theorem Moves.execKeepalive {rq : Req} (h : Machine.execKeepalive rq s₀ = .next t₁) (hO : Mask.le objs_execKeepalive mo) (hP : Mask.le parts_execKeepalive mp) :
    Moves s₀.dev t₁.dev mo mp := by
  have O {a : Nat} (h : (a &&& objs_execKeepalive == a) = true) := Mask.le_trans h hO
  have P {a : Nat} (h : (a &&& parts_execKeepalive == a) = true) := Mask.le_trans h hP
  refine Moves.cmdRun h (fun d => ?_) (O (by decide)) (P (by decide))
  try dsimp only
  repeat' first
    | with_reducible exact Moves.refl ..
    | with_reducible refine Moves.requestIf ?_ (fun d => ?_) (O (by decide)) (P (by decide))
    | with_reducible refine Moves.run ?_ (O (by decide)) (P (by decide))
    | dsimp only

def objs_execMbStatusWrite : Nat := 0x37000000000000000000000a400000000000000000000000000000000000000000000000000000000000000000e8020006606cb80100021ff3e4000000000000c7e00100028000000000000
def parts_execMbStatusWrite : Nat := 0x78edbf9
theorem Moves.execMbStatusWrite {v : BitVec 32} (h : Machine.execMbStatusWrite v s₀ = .next t₁) (hO : Mask.le objs_execMbStatusWrite mo) (hP : Mask.le parts_execMbStatusWrite mp) :
    Moves s₀.dev t₁.dev mo mp := by
  have O {a : Nat} (h : (a &&& objs_execMbStatusWrite == a) = true) := Mask.le_trans h hO
  have P {a : Nat} (h : (a &&& parts_execMbStatusWrite == a) = true) := Mask.le_trans h hP
  have S {k : Nat} (h : parts_execMbStatusWrite.testBit k = true) := Mask.bit h hP
  refine Moves.cmdRun h (fun d => ?_) (O (by decide)) (P (by decide))
  try dsimp only
  repeat' first
    | with_reducible exact Moves.refl ..
    | with_reducible refine Moves.run ?_ (O (by decide)) (P (by decide))
    | with_reducible refine Moves.ite (fun _ => ?_) (fun _ => ?_)
    | with_reducible refine Moves.ite1 (fun _ => ?_) (fun _ => ?_)
    | split
    | with_reducible refine Moves.with_hub ?_ (S (by decide))
    | dsimp only

def objs_execHostWindowWrite : Nat := 0x37000000000000000000000a400000200000000000000000000000000000000000000000000000000000000000e8020006606cb80100021ff3e4000000000000c7e00100028000000000000
def parts_execHostWindowWrite : Nat := 0x78edbf9
theorem Moves.execHostWindowWrite {off : BitVec 16} {v : Bytes} (h : Machine.execHostWindowWrite off v s₀ = .next t₁) (hO : Mask.le objs_execHostWindowWrite mo) (hP : Mask.le parts_execHostWindowWrite mp) :
    Moves s₀.dev t₁.dev mo mp := by
  have O {a : Nat} (h : (a &&& objs_execHostWindowWrite == a) = true) := Mask.le_trans h hO
  have P {a : Nat} (h : (a &&& parts_execHostWindowWrite == a) = true) := Mask.le_trans h hP
  have B {k : Nat} (h : objs_execHostWindowWrite.testBit k = true) := Mask.bit h hO
  have S {k : Nat} (h : parts_execHostWindowWrite.testBit k = true) := Mask.bit h hP
  unfold Sys2Proof.Machine.execHostWindowWrite at h
  dsimp only at h
  refine Moves.cmdRun h (fun d => ?_) (O (by decide)) (P (by decide))
  try dsimp only
  repeat' first
    | with_reducible exact Moves.refl ..
    | with_reducible refine Moves.bump ?_ (B (by decide)) (by decide) (S (by decide))
    | with_reducible refine Moves.run ?_ (O (by decide)) (P (by decide))
    | with_reducible refine Moves.ite (fun _ => ?_) (fun _ => ?_)
    | with_reducible refine Moves.ite1 (fun _ => ?_) (fun _ => ?_)
    | split
    | dsimp only


/-- A row: whatever it does, what has left stays. -/
def Row (f : State → Res) : Prop := ∀ s t, f s = .next t → Moves s.dev t.dev objs_all parts_all
/-- The same of the row that a write may be. -/
def OptRow (o : Option (State → Res)) : Prop := ∀ f, o = some f → Row f

theorem OptRow.none : OptRow none := fun _ h => by cases h
theorem OptRow.some {f : State → Res} (h : Row f) : OptRow (some f) := fun _ k => by injection k with k; exact k ▸ h
theorem OptRow.ite {c : Prop} [Decidable c] {a b : Option (State → Res)} (ha : OptRow a) (hb : OptRow b) :
    OptRow (if c then a else b) := by
  split
  · exact ha
  · exact hb
theorem Row.execPoolScrub {p : Plane} {rq : Req} : Row (Machine.execPoolScrub p rq) := fun _ _ h => Moves.execPoolScrub h (Mask.le_trans (by decide) (Mask.le_refl objs_all)) (Mask.le_trans (by decide) (Mask.le_refl parts_all))
theorem Row.execCxlReset {p : Plane} {rq : Req} : Row (Machine.execCxlReset p rq) := fun _ _ h => Moves.execCxlReset h (Mask.le_trans (by decide) (Mask.le_refl objs_all)) (Mask.le_trans (by decide) (Mask.le_refl parts_all))
theorem Row.execPortAdminWrite {p : Plane} {n : Port} {v : Byte} {rq : Req} : Row (Machine.execPortAdminWrite p n v rq) := fun _ _ h => Moves.execPortAdminWrite h (Mask.le_trans (by decide) (Mask.le_refl objs_all)) (Mask.le_trans (by decide) (Mask.le_refl parts_all))
theorem Row.execTrainCmd {p : Plane} {n : Port} {rq : Req} : Row (Machine.execTrainCmd p n rq) := fun _ _ h => Moves.execTrainCmd h (Mask.le_trans (by decide) (Mask.le_refl objs_all)) (Mask.le_trans (by decide) (Mask.le_refl parts_all))
theorem Row.execHandOverToSpare {p : Plane} {rq : Req} : Row (Machine.execHandOverToSpare p rq) := fun _ _ h => Moves.execHandOverToSpare h (Mask.le_trans (by decide) (Mask.le_refl objs_all)) (Mask.le_trans (by decide) (Mask.le_refl parts_all))
theorem Row.execReturnFromSpare {p : Plane} {rq : Req} : Row (Machine.execReturnFromSpare p rq) := fun _ _ h => Moves.execReturnFromSpare h (Mask.le_trans (by decide) (Mask.le_refl objs_all)) (Mask.le_trans (by decide) (Mask.le_refl parts_all))
theorem Row.execSprayMembersWrite {p : Plane} {v : BitVec 256} {rq : Req} : Row (Machine.execSprayMembersWrite p v rq) := fun _ _ h => Moves.execSprayMembersWrite h (Mask.le_trans (by decide) (Mask.le_refl objs_all)) (Mask.le_trans (by decide) (Mask.le_refl parts_all))
theorem Row.execRctxAbortCmd {p : Plane} {rq : Req} : Row (Machine.execRctxAbortCmd p rq) := fun _ _ h => Moves.execRctxAbortCmd h (Mask.le_trans (by decide) (Mask.le_refl objs_all)) (Mask.le_trans (by decide) (Mask.le_refl parts_all))
theorem Row.execSlotLoad {p : Plane} {rq : Req} : Row (Machine.execSlotLoad p rq) := fun _ _ h => Moves.execSlotLoad h (Mask.le_trans (by decide) (Mask.le_refl objs_all)) (Mask.le_trans (by decide) (Mask.le_refl parts_all))
theorem Row.execSlotLaunch {p : Plane} {rq : Req} : Row (Machine.execSlotLaunch p rq) := fun _ _ h => Moves.execSlotLaunch h (Mask.le_trans (by decide) (Mask.le_refl objs_all)) (Mask.le_trans (by decide) (Mask.le_refl parts_all))
theorem Row.execSlotStop {p : Plane} {rq : Req} : Row (Machine.execSlotStop p rq) := fun _ _ h => Moves.execSlotStop h (Mask.le_trans (by decide) (Mask.le_refl objs_all)) (Mask.le_trans (by decide) (Mask.le_refl parts_all))
theorem Row.execSlotClear {p : Plane} {rq : Req} : Row (Machine.execSlotClear p rq) := fun _ _ h => Moves.execSlotClear h (Mask.le_trans (by decide) (Mask.le_refl objs_all)) (Mask.le_trans (by decide) (Mask.le_refl parts_all))
theorem Row.execGrpExclude {p : Plane} {v : BitVec 16} {rq : Req} : Row (Machine.execGrpExclude p v rq) := fun _ _ h => Moves.execGrpExclude h (Mask.le_trans (by decide) (Mask.le_refl objs_all)) (Mask.le_trans (by decide) (Mask.le_refl parts_all))
theorem Row.execGrpCommit {p : Plane} {rq : Req} : Row (Machine.execGrpCommit p rq) := fun _ _ h => Moves.execGrpCommit h (Mask.le_trans (by decide) (Mask.le_refl objs_all)) (Mask.le_trans (by decide) (Mask.le_refl parts_all))
theorem Row.execSyncValueWrite {p : Plane} {v : BitVec 64} {rq : Req} : Row (Machine.execSyncValueWrite p v rq) := fun _ _ h => Moves.execSyncValueWrite h (Mask.le_trans (by decide) (Mask.le_refl objs_all)) (Mask.le_trans (by decide) (Mask.le_refl parts_all))
theorem Row.execCctxLoad {p : Plane} {rq : Req} : Row (Machine.execCctxLoad p rq) := fun _ _ h => Moves.execCctxLoad h (Mask.le_trans (by decide) (Mask.le_refl objs_all)) (Mask.le_trans (by decide) (Mask.le_refl parts_all))
theorem Row.execCctxClear {p : Plane} {rq : Req} : Row (Machine.execCctxClear p rq) := fun _ _ h => Moves.execCctxClear h (Mask.le_trans (by decide) (Mask.le_refl objs_all)) (Mask.le_trans (by decide) (Mask.le_refl parts_all))
theorem Row.execRgnLoad {p : Plane} {rq : Req} : Row (Machine.execRgnLoad p rq) := fun _ _ h => Moves.execRgnLoad h (Mask.le_trans (by decide) (Mask.le_refl objs_all)) (Mask.le_trans (by decide) (Mask.le_refl parts_all))
theorem Row.execRgnArmCommit {p : Plane} {rq : Req} : Row (Machine.execRgnArmCommit p rq) := fun _ _ h => Moves.execRgnArmCommit h (Mask.le_trans (by decide) (Mask.le_refl objs_all)) (Mask.le_trans (by decide) (Mask.le_refl parts_all))
theorem Row.execRgnAbandon {p : Plane} {rq : Req} : Row (Machine.execRgnAbandon p rq) := fun _ _ h => Moves.execRgnAbandon h (Mask.le_trans (by decide) (Mask.le_refl objs_all)) (Mask.le_trans (by decide) (Mask.le_refl parts_all))
theorem Row.execRgnClear {p : Plane} {rq : Req} : Row (Machine.execRgnClear p rq) := fun _ _ h => Moves.execRgnClear h (Mask.le_trans (by decide) (Mask.le_refl objs_all)) (Mask.le_trans (by decide) (Mask.le_refl parts_all))
theorem Row.execMasterInstall {p : Plane} {rq : Req} : Row (Machine.execMasterInstall p rq) := fun _ _ h => Moves.execMasterInstall h (Mask.le_trans (by decide) (Mask.le_refl objs_all)) (Mask.le_trans (by decide) (Mask.le_refl parts_all))
theorem Row.execMasterErase {p : Plane} {rq : Req} : Row (Machine.execMasterErase p rq) := fun _ _ h => Moves.execMasterErase h (Mask.le_trans (by decide) (Mask.le_refl objs_all)) (Mask.le_trans (by decide) (Mask.le_refl parts_all))
theorem Row.execRekeyCmd {p : Plane} {rq : Req} : Row (Machine.execRekeyCmd p rq) := fun _ _ h => Moves.execRekeyCmd h (Mask.le_trans (by decide) (Mask.le_refl objs_all)) (Mask.le_trans (by decide) (Mask.le_refl parts_all))
theorem Row.execLhAdminWrite {p : Plane} {l : Lh} {v : Byte} {rq : Req} : Row (Machine.execLhAdminWrite p l v rq) := fun _ _ h => Moves.execLhAdminWrite h (Mask.le_trans (by decide) (Mask.le_refl objs_all)) (Mask.le_trans (by decide) (Mask.le_refl parts_all))
theorem Row.execApsCommand {p : Plane} {v : Byte} {rq : Req} : Row (Machine.execApsCommand p v rq) := fun _ _ h => Moves.execApsCommand h (Mask.le_trans (by decide) (Mask.le_refl objs_all)) (Mask.le_trans (by decide) (Mask.le_refl parts_all))
theorem Row.execTsiCommitTx {p : Plane} {rq : Req} : Row (Machine.execTsiCommitTx p rq) := fun _ _ h => Moves.execTsiCommitTx h (Mask.le_trans (by decide) (Mask.le_refl objs_all)) (Mask.le_trans (by decide) (Mask.le_refl parts_all))
theorem Row.execTsiCommitRx {p : Plane} {rq : Req} : Row (Machine.execTsiCommitRx p rq) := fun _ _ h => Moves.execTsiCommitRx h (Mask.le_trans (by decide) (Mask.le_refl objs_all)) (Mask.le_trans (by decide) (Mask.le_refl parts_all))
theorem Row.execTribDescWrite {p : Plane} {v : BitVec 32} {rq : Req} : Row (Machine.execTribDescWrite p v rq) := fun _ _ h => Moves.execTribDescWrite h (Mask.le_trans (by decide) (Mask.le_refl objs_all)) (Mask.le_trans (by decide) (Mask.le_refl parts_all))
theorem Row.execGclEnableWrite {p : Plane} {v : Byte} {rq : Req} : Row (Machine.execGclEnableWrite p v rq) := fun _ _ h => Moves.execGclEnableWrite h (Mask.le_trans (by decide) (Mask.le_refl objs_all)) (Mask.le_trans (by decide) (Mask.le_refl parts_all))
theorem Row.execBypassInstall {p : Plane} {c : Chip} {rq : Req} : Row (Machine.execBypassInstall p c rq) := fun _ _ h => Moves.execBypassInstall h (Mask.le_trans (by decide) (Mask.le_refl objs_all)) (Mask.le_trans (by decide) (Mask.le_refl parts_all))
theorem Row.execBypassRemove {p : Plane} {c : Chip} {rq : Req} : Row (Machine.execBypassRemove p c rq) := fun _ _ h => Moves.execBypassRemove h (Mask.le_trans (by decide) (Mask.le_refl objs_all)) (Mask.le_trans (by decide) (Mask.le_refl parts_all))
theorem Row.execGclCommit {p : Plane} {rq : Req} : Row (Machine.execGclCommit p rq) := fun _ _ h => Moves.execGclCommit h (Mask.le_trans (by decide) (Mask.le_refl objs_all)) (Mask.le_trans (by decide) (Mask.le_refl parts_all))
theorem Row.execLaserEnable {p : Plane} {c : Chip} {rq : Req} : Row (Machine.execLaserEnable p c rq) := fun _ _ h => Moves.execLaserEnable h (Mask.le_trans (by decide) (Mask.le_refl objs_all)) (Mask.le_trans (by decide) (Mask.le_refl parts_all))
theorem Row.execLaserDisable {p : Plane} {c : Chip} {rq : Req} : Row (Machine.execLaserDisable p c rq) := fun _ _ h => Moves.execLaserDisable h (Mask.le_trans (by decide) (Mask.le_refl objs_all)) (Mask.le_trans (by decide) (Mask.le_refl parts_all))
theorem Row.execXtalkModeWrite {p : Plane} {c : Chip} {v : Byte} {rq : Req} : Row (Machine.execXtalkModeWrite p c v rq) := fun _ _ h => Moves.execXtalkModeWrite h (Mask.le_trans (by decide) (Mask.le_refl objs_all)) (Mask.le_trans (by decide) (Mask.le_refl parts_all))
theorem Row.execCalForce {p : Plane} {c : Chip} {rq : Req} : Row (Machine.execCalForce p c rq) := fun _ _ h => Moves.execCalForce h (Mask.le_trans (by decide) (Mask.le_refl objs_all)) (Mask.le_trans (by decide) (Mask.le_refl parts_all))
theorem Row.execMatrixCmd {p : Plane} {c : Chip} {rq : Req} : Row (Machine.execMatrixCmd p c rq) := fun _ _ h => Moves.execMatrixCmd h (Mask.le_trans (by decide) (Mask.le_refl objs_all)) (Mask.le_trans (by decide) (Mask.le_refl parts_all))
theorem Row.execTbEnableWrite {p : Plane} {tb : Tb} {v : Byte} {rq : Req} : Row (Machine.execTbEnableWrite p tb v rq) := fun _ _ h => Moves.execTbEnableWrite h (Mask.le_trans (by decide) (Mask.le_refl objs_all)) (Mask.le_trans (by decide) (Mask.le_refl parts_all))
theorem Row.execTbTimeWrite {p : Plane} {tb : Tb} {v : BitVec 80} {rq : Req} : Row (Machine.execTbTimeWrite p tb v rq) := fun _ _ h => Moves.execTbTimeWrite h (Mask.le_trans (by decide) (Mask.le_refl objs_all)) (Mask.le_trans (by decide) (Mask.le_refl parts_all))
theorem Row.execTbSwitchToStandby {p : Plane} {tb : Tb} {rq : Req} : Row (Machine.execTbSwitchToStandby p tb rq) := fun _ _ h => Moves.execTbSwitchToStandby h (Mask.le_trans (by decide) (Mask.le_refl objs_all)) (Mask.le_trans (by decide) (Mask.le_refl parts_all))
theorem Row.execTbReturn {p : Plane} {tb : Tb} {rq : Req} : Row (Machine.execTbReturn p tb rq) := fun _ _ h => Moves.execTbReturn h (Mask.le_trans (by decide) (Mask.le_refl objs_all)) (Mask.le_trans (by decide) (Mask.le_refl parts_all))
theorem Row.execTenantCreate {p : Plane} {t : Tenant} {rq : Req} : Row (Machine.execTenantCreate p t rq) := fun _ _ h => Moves.execTenantCreate h (Mask.le_trans (by decide) (Mask.le_refl objs_all)) (Mask.le_trans (by decide) (Mask.le_refl parts_all))
theorem Row.execTenantSuspend {p : Plane} {t : Tenant} {rq : Req} : Row (Machine.execTenantSuspend p t rq) := fun _ _ h => Moves.execTenantSuspend h (Mask.le_trans (by decide) (Mask.le_refl objs_all)) (Mask.le_trans (by decide) (Mask.le_refl parts_all))
theorem Row.execTenantResume {p : Plane} {t : Tenant} {rq : Req} : Row (Machine.execTenantResume p t rq) := fun _ _ h => Moves.execTenantResume h (Mask.le_trans (by decide) (Mask.le_refl objs_all)) (Mask.le_trans (by decide) (Mask.le_refl parts_all))
theorem Row.execTenantRemove {p : Plane} {t : Tenant} {rq : Req} : Row (Machine.execTenantRemove p t rq) := fun _ _ h => Moves.execTenantRemove h (Mask.le_trans (by decide) (Mask.le_refl objs_all)) (Mask.le_trans (by decide) (Mask.le_refl parts_all))
theorem Row.execFence {p : Plane} {rq : Req} : Row (Machine.execFence p rq) := fun _ _ h => Moves.execFence h (Mask.le_trans (by decide) (Mask.le_refl objs_all)) (Mask.le_trans (by decide) (Mask.le_refl parts_all))
theorem Row.execUnfence {p : Plane} {rq : Req} : Row (Machine.execUnfence p rq) := fun _ _ h => Moves.execUnfence h (Mask.le_trans (by decide) (Mask.le_refl objs_all)) (Mask.le_trans (by decide) (Mask.le_refl parts_all))
theorem Row.execCauseClear {rq : Req} {idx : BitVec 16} {v : BitVec 32} : Row (Machine.execCauseClear rq idx v) := fun _ _ h => Moves.execCauseClear h (Mask.le_trans (by decide) (Mask.le_refl objs_all)) (Mask.le_trans (by decide) (Mask.le_refl parts_all))
theorem Row.execDiagInject {rq : Req} : Row (Machine.execDiagInject rq) := fun _ _ h => Moves.execDiagInject h (Mask.le_trans (by decide) (Mask.le_refl objs_all)) (Mask.le_trans (by decide) (Mask.le_refl parts_all))
theorem Row.execHfRestore {p : Plane} {bistPass : Bool} {rq : Req} : Row (Machine.execHfRestore p bistPass rq) := fun _ _ h => Moves.execHfRestore h (Mask.le_trans (by decide) (Mask.le_refl objs_all)) (Mask.le_trans (by decide) (Mask.le_refl parts_all))
theorem Row.execHfRetire {p : Plane} {rq : Req} : Row (Machine.execHfRetire p rq) := fun _ _ h => Moves.execHfRetire h (Mask.le_trans (by decide) (Mask.le_refl objs_all)) (Mask.le_trans (by decide) (Mask.le_refl parts_all))
theorem Row.execPlaneRecoverCmd {p : Plane} {rq : Req} : Row (Machine.execPlaneRecoverCmd p rq) := fun _ _ h => Moves.execPlaneRecoverCmd h (Mask.le_trans (by decide) (Mask.le_refl objs_all)) (Mask.le_trans (by decide) (Mask.le_refl parts_all))
theorem Row.execMaintEnter {p : Plane} {rq : Req} : Row (Machine.execMaintEnter p rq) := fun _ _ h => Moves.execMaintEnter h (Mask.le_trans (by decide) (Mask.le_refl objs_all)) (Mask.le_trans (by decide) (Mask.le_refl parts_all))
theorem Row.execMaintLeave {p : Plane} {rq : Req} : Row (Machine.execMaintLeave p rq) := fun _ _ h => Moves.execMaintLeave h (Mask.le_trans (by decide) (Mask.le_refl objs_all)) (Mask.le_trans (by decide) (Mask.le_refl parts_all))
theorem Row.execFuseCmd {p : Plane} {fits : Bool} {rq : Req} : Row (Machine.execFuseCmd p fits rq) := fun _ _ h => Moves.execFuseCmd h (Mask.le_trans (by decide) (Mask.le_refl objs_all)) (Mask.le_trans (by decide) (Mask.le_refl parts_all))
theorem Row.execFullBist {failed : List (BitVec 16)} {rq : Req} : Row (Machine.execFullBist failed rq) := fun _ _ h => Moves.execFullBist h (Mask.le_trans (by decide) (Mask.le_refl objs_all)) (Mask.le_trans (by decide) (Mask.le_refl parts_all))
theorem Row.execRetireClear {rq : Req} : Row (Machine.execRetireClear rq) := fun _ _ h => Moves.execRetireClear h (Mask.le_trans (by decide) (Mask.le_refl objs_all)) (Mask.le_trans (by decide) (Mask.le_refl parts_all))
theorem Row.execReplReasonSet {rq : Req} : Row (Machine.execReplReasonSet rq) := fun _ _ h => Moves.execReplReasonSet h (Mask.le_trans (by decide) (Mask.le_refl objs_all)) (Mask.le_trans (by decide) (Mask.le_refl parts_all))
theorem Row.execReplReasonClear {rq : Req} : Row (Machine.execReplReasonClear rq) := fun _ _ h => Moves.execReplReasonClear h (Mask.le_trans (by decide) (Mask.le_refl objs_all)) (Mask.le_trans (by decide) (Mask.le_refl parts_all))
theorem Row.execReplanCmd {p : Plane} {rq : Req} : Row (Machine.execReplanCmd p rq) := fun _ _ h => Moves.execReplanCmd h (Mask.le_trans (by decide) (Mask.le_refl objs_all)) (Mask.le_trans (by decide) (Mask.le_refl parts_all))
theorem Row.execScStart {p : Plane} {rq : Req} : Row (Machine.execScStart p rq) := fun _ _ h => Moves.execScStart h (Mask.le_trans (by decide) (Mask.le_refl objs_all)) (Mask.le_trans (by decide) (Mask.le_refl parts_all))
theorem Row.execScAbort {p : Plane} {rq : Req} : Row (Machine.execScAbort p rq) := fun _ _ h => Moves.execScAbort h (Mask.le_trans (by decide) (Mask.le_refl objs_all)) (Mask.le_trans (by decide) (Mask.le_refl parts_all))
theorem Row.execPlaneResetCmd {rq : Req} : Row (Machine.execPlaneResetCmd rq) := fun _ _ h => Moves.execPlaneResetCmd h (Mask.le_trans (by decide) (Mask.le_refl objs_all)) (Mask.le_trans (by decide) (Mask.le_refl parts_all))
theorem Row.execFwVerify {rq : Req} : Row (Machine.execFwVerify rq) := fun _ _ h => Moves.execFwVerify h (Mask.le_trans (by decide) (Mask.le_refl objs_all)) (Mask.le_trans (by decide) (Mask.le_refl parts_all))
theorem Row.execRollbackFloorRaise {rq : Req} : Row (Machine.execRollbackFloorRaise rq) := fun _ _ h => Moves.execRollbackFloorRaise h (Mask.le_trans (by decide) (Mask.le_refl objs_all)) (Mask.le_trans (by decide) (Mask.le_refl parts_all))
theorem Row.execLock {rq : Req} : Row (Machine.execLock rq) := fun _ _ h => Moves.execLock h (Mask.le_trans (by decide) (Mask.le_refl objs_all)) (Mask.le_trans (by decide) (Mask.le_refl parts_all))
theorem Row.execLockRelease {rq : Req} : Row (Machine.execLockRelease rq) := fun _ _ h => Moves.execLockRelease h (Mask.le_trans (by decide) (Mask.le_refl objs_all)) (Mask.le_trans (by decide) (Mask.le_refl parts_all))
theorem Row.execFactoryReset {rq : Req} : Row (Machine.execFactoryReset rq) := fun _ _ h => Moves.execFactoryReset h (Mask.le_trans (by decide) (Mask.le_refl objs_all)) (Mask.le_trans (by decide) (Mask.le_refl parts_all))
theorem Row.execSnapshotArm {rq : Req} : Row (Machine.execSnapshotArm rq) := fun _ _ h => Moves.execSnapshotArm h (Mask.le_trans (by decide) (Mask.le_refl objs_all)) (Mask.le_trans (by decide) (Mask.le_refl parts_all))
theorem Row.execFullBistFree {rq : Req} : Row (fun s => Machine.execFullBist ((bitsOf 65536 s.dev.fresh.1).map (BitVec.ofNat 16)) rq { s with dev := s.dev.fresh.2 }) := fun _ _ h =>
  ((Moves.refl ..).fresh (Mask.le_trans (by decide) (Mask.le_refl objs_all)) (Mask.le_trans (by decide) (Mask.le_refl parts_all))).step (Moves.execFullBist h (Mask.le_trans (by decide) (Mask.le_refl objs_all)) (Mask.le_trans (by decide) (Mask.le_refl parts_all)))
theorem Row.execHfRestoreFree {p : Plane} {rq : Req} : Row (fun s => Machine.execHfRestore p (decide (s.dev.fresh.1 % 2 = 1)) rq { s with dev := s.dev.fresh.2 }) := fun _ _ h =>
  ((Moves.refl ..).fresh (Mask.le_trans (by decide) (Mask.le_refl objs_all)) (Mask.le_trans (by decide) (Mask.le_refl parts_all))).step (Moves.execHfRestore h (Mask.le_trans (by decide) (Mask.le_refl objs_all)) (Mask.le_trans (by decide) (Mask.le_refl parts_all)))
theorem Row.execFuseCmdFree {p : Plane} {rq : Req} : Row (fun s => Machine.execFuseCmd p (decide (s.dev.fresh.1 % 2 = 1)) rq { s with dev := s.dev.fresh.2 }) := fun _ _ h =>
  ((Moves.refl ..).fresh (Mask.le_trans (by decide) (Mask.le_refl objs_all)) (Mask.le_trans (by decide) (Mask.le_refl parts_all))).step (Moves.execFuseCmd h (Mask.le_trans (by decide) (Mask.le_refl objs_all)) (Mask.le_trans (by decide) (Mask.le_refl parts_all)))
theorem Row.execTsiCommit {p : Plane} {rq : Req} : Row (fun s => if s.dev.sel .tsiDirSel p 0 rq.ses = 0 then Machine.execTsiCommitTx p rq s else Machine.execTsiCommitRx p rq s) := by
  intro _ _ h
  dsimp only at h
  split at h
  · exact Moves.execTsiCommitTx h (Mask.le_trans (by decide) (Mask.le_refl objs_all)) (Mask.le_trans (by decide) (Mask.le_refl parts_all))
  · exact Moves.execTsiCommitRx h (Mask.le_trans (by decide) (Mask.le_refl objs_all)) (Mask.le_trans (by decide) (Mask.le_refl parts_all))

/-- A write that is a row of its own moves what that row moves. -/
theorem OptRow.rowOf (rq : Req) (idx v : Nat) (g : Target) : OptRow (Sys2Proof.Machine.rowOf rq idx g v) := by
  unfold Sys2Proof.Machine.rowOf
  dsimp only
  split
  all_goals repeat' first
    | with_reducible exact OptRow.none
    | with_reducible refine OptRow.ite ?_ ?_
    | with_reducible refine OptRow.some ?_
  all_goals simp only [Row.execFence, Row.execUnfence, Row.execPortAdminWrite, Row.execTrainCmd, Row.execHandOverToSpare, Row.execReturnFromSpare, Row.execSprayMembersWrite, Row.execPoolScrub, Row.execCxlReset, Row.execGclEnableWrite, Row.execGclCommit, Row.execRctxAbortCmd, Row.execSlotLoad, Row.execSlotLaunch, Row.execSlotStop, Row.execSlotClear, Row.execGrpExclude, Row.execGrpCommit, Row.execSyncValueWrite, Row.execCctxLoad, Row.execCctxClear, Row.execLhAdminWrite, Row.execApsCommand, Row.execTribDescWrite, Row.execRekeyCmd, Row.execMasterInstall, Row.execMasterErase, Row.execRgnLoad, Row.execRgnArmCommit, Row.execRgnAbandon, Row.execRgnClear, Row.execXtalkModeWrite, Row.execCalForce, Row.execMatrixCmd, Row.execLaserEnable, Row.execLaserDisable, Row.execBypassInstall, Row.execBypassRemove, Row.execTbEnableWrite, Row.execTbTimeWrite, Row.execTbSwitchToStandby, Row.execTbReturn, Row.execTenantCreate, Row.execTenantSuspend, Row.execTenantResume, Row.execTenantRemove, Row.execLock, Row.execLockRelease, Row.execFactoryReset, Row.execSnapshotArm, Row.execReplReasonSet, Row.execReplReasonClear, Row.execRetireClear, Row.execDiagInject, Row.execHfRetire, Row.execPlaneRecoverCmd, Row.execMaintEnter, Row.execMaintLeave, Row.execReplanCmd, Row.execScStart, Row.execScAbort, Row.execFwVerify, Row.execRollbackFloorRaise, Row.execPlaneResetCmd, Row.execCauseClear, Row.execFullBistFree, Row.execHfRestoreFree, Row.execFuseCmdFree, Row.execTsiCommit]

theorem Moves.rowOf {rq : Req} {idx v : Nat} {g : Target} {f : State → Res} (hr : Sys2Proof.Machine.rowOf rq idx g v = some f)
    (h : f s₀ = .next t₁) : Moves s₀.dev t₁.dev objs_all parts_all := OptRow.rowOf rq idx v g f hr _ _ h

theorem Moves.writeReq {rq : Req} {idx sub : Nat} {bytes : Bytes} (hM : Moves d₀ e₀ mo mp) (hO : Mask.le objs_all mo)
    (hP : Mask.le parts_all mp) : Moves d₀ (e₀.writeReq rq idx sub bytes) mo mp := by
  have O {a : Nat} (h : (a &&& objs_all == a) = true) := Mask.le_trans h hO
  have P {a : Nat} (h : (a &&& parts_all == a) = true) := Mask.le_trans h hP
  unfold Device.writeReq
  split
  · exact hM.request (fun d => Moves.refl ..) (O (by decide)) (P (by decide))
  · rename_i t _
    extract_lets w row
    have hrow : ∀ f, row = some f → ∃ v, Sys2Proof.Machine.rowOf rq idx t v = some f := by
      intro f hf
      unfold row at hf
      split at hf
      · exact ⟨_, hf⟩
      · cases hf
    clear_value row
    split
    · rename_i f
      obtain ⟨v, hv⟩ := hrow f rfl
      split
      · rename_i s hs
        exact hM.step ((Moves.rowOf hv hs).mono hO hP)
      · exact hM
    · refine hM.requestAt (fun d => ?_) (O (by decide)) (P (by decide))
      exact (Moves.refl ..).doWrite (fun d => (Moves.refl ..).writeEffect (O (by decide)) (P (by decide)))

theorem Moves.mailbox {msg : Bytes} (hM : Moves d₀ e₀ mo mp) (hO : Mask.le objs_all mo)
    (hP : Mask.le parts_all mp) : Moves d₀ (e₀.mailbox msg) mo mp := by
  have O {a : Nat} (h : (a &&& objs_all == a) = true) := Mask.le_trans h hO
  have P {a : Nat} (h : (a &&& parts_all == a) = true) := Mask.le_trans h hP
  unfold Device.mailbox
  extract_lets h rq svc idx sub len v
  refine Moves.ite (fun _ => hM.requestIf (fun d => ?_) (O (by decide)) (P (by decide))) (fun _ => ?_)
  · exact Moves.bump (o := .ndpMalformed) (Moves.refl ..) (Mask.bit (a := objs_all) (by decide) hO) (by decide) (Mask.bit (a := parts_all) (by decide) hP)
  refine Moves.ite (fun _ => hM.requestAt (fun d => (Moves.refl ..).readReq (O (by decide)) (P (by decide))) (O (by decide)) (P (by decide))) (fun _ => ?_)
  refine Moves.ite (fun _ => hM.writeReq (O (by decide)) (P (by decide))) (fun _ => ?_)
  refine Moves.ite (fun _ => hM.requestAt (fun d => (Moves.refl ..).readClearReq (O (by decide)) (P (by decide))) (O (by decide)) (P (by decide))) (fun _ => ?_)
  refine Moves.ite (fun _ => hM.requestAt (fun d => (Moves.refl ..).domainStart (O (by decide)) (P (by decide))) (O (by decide)) (P (by decide))) (fun _ => ?_)
  refine Moves.ite (fun _ => hM.requestAt (fun d => (Moves.refl ..).domainReadSeg (O (by decide)) (P (by decide))) (O (by decide)) (P (by decide))) (fun _ => ?_)
  refine Moves.ite (fun _ => hM.requestAt (fun d => (Moves.refl ..).domainStart (O (by decide)) (P (by decide))) (O (by decide)) (P (by decide))) (fun _ => ?_)
  refine Moves.ite (fun _ => hM.requestAt (fun d => (Moves.refl ..).domainWriteSeg (O (by decide)) (P (by decide))) (O (by decide)) (P (by decide))) (fun _ => ?_)
  refine Moves.ite (fun _ => hM.requestAt (fun d => (Moves.refl ..).domainAbort (O (by decide)) (P (by decide))) (O (by decide)) (P (by decide))) (fun _ => ?_)
  exact hM.requestIf (fun d => Moves.refl ..) (O (by decide)) (P (by decide))

theorem Moves.doorbell {v : Nat} {msg : Bytes} (hM : Moves d₀ e₀ mo mp) (hO : Mask.le objs_all mo)
    (hP : Mask.le parts_all mp) : Moves d₀ (e₀.doorbell v msg) mo mp := by
  have O {a : Nat} (h : (a &&& objs_all == a) = true) := Mask.le_trans h hO
  have P {a : Nat} (h : (a &&& parts_all == a) = true) := Mask.le_trans h hP
  have S {k : Nat} (h : parts_all.testBit k = true) := Mask.bit h hP
  unfold Device.doorbell
  extract_lets hs d1 id e1
  have h1 : Moves d₀ d1 mo mp := hM.with_hub (S (by decide))
  clear_value d1
  have h2 : Moves d₀ e1 mo mp := h1.mailbox hO hP
  clear_value e1
  refine Moves.ite (fun _ => hM) (fun _ => ?_)
  refine Moves.ite (fun _ => hM.with_hub (S (by decide))) (fun _ => ?_)
  refine Moves.ite (fun _ => h1) (fun _ => ?_)
  split
  · rename_i r _
    extract_lets e2
    have h3 : Moves d₀ e2 mo mp := h2.with_hub (S (by decide))
    clear_value e2
    exact Moves.ite (fun _ => h3.emit (O (by decide)) (P (by decide))) (fun _ => h3)
  · exact h2

def objs_execWrite : Nat := 0x7ffffffffffffffffffffffffffffffffffffffffffffffffffffffffffffffffffffffffffffffffffffffffffffffffffffffffffffffffffffffffffffffffffffffffffffffffffffff
def parts_execWrite : Nat := 0xffffffffffffffff
theorem Moves.execWrite {rq : Req} {idx : BitVec 16} {sub : Byte} {v : Bytes} (h : Machine.execWrite rq idx sub v s₀ = .next t₁)
    (hO : Mask.le objs_execWrite mo) (hP : Mask.le parts_execWrite mp) : Moves s₀.dev t₁.dev mo mp :=
  Moves.cmdRun h (fun d => (Moves.refl ..).writeReq hO hP) (Mask.le_trans (by decide) hO) (Mask.le_trans (by decide) hP)

def objs_execMbDoorbell : Nat := 0x7ffffffffffffffffffffffffffffffffffffffffffffffffffffffffffffffffffffffffffffffffffffffffffffffffffffffffffffffffffffffffffffffffffffffffffffffffffffff
def parts_execMbDoorbell : Nat := 0xffffffffffffffff
theorem Moves.execMbDoorbell {v : BitVec 32} {msg : Bytes} (h : Machine.execMbDoorbell v msg s₀ = .next t₁)
    (hO : Mask.le objs_execMbDoorbell mo) (hP : Mask.le parts_execMbDoorbell mp) : Moves s₀.dev t₁.dev mo mp :=
  Moves.cmdRun h (fun d => (Moves.refl ..).doorbell hO hP) (Mask.le_trans (by decide) hO) (Mask.le_trans (by decide) hP)

/-- The objects that a command can change. -/
def Instr.objs (c : Instr) : Nat :=
  match c with
  | .hubLoss _ => objs_execHubLoss
  | .hubReturn _ => objs_execHubReturn
  | .fmTimeout => objs_execFmTimeout
  | .fence _ _ => objs_execFence
  | .unfence _ _ => objs_execUnfence
  | .fenceComplete _ => objs_execFenceComplete
  | .portAdminWrite _ _ _ _ => objs_execPortAdminWrite
  | .trainCmd _ _ _ => objs_execTrainCmd
  | .cdrLock _ _ => objs_execCdrLock
  | .fecLock _ _ => objs_execFecLock
  | .trainTxTimer _ _ => objs_execTrainTxTimer
  | .train _ _ _ => objs_execTrain
  | .trainDone _ _ _ => objs_execTrainDone
  | .trainingTimeout _ _ => objs_execTrainingTimeout
  | .trainingRetryTimer _ _ => objs_execTrainingRetryTimer
  | .credit _ _ _ => objs_execCredit
  | .creditTxTimer _ _ => objs_execCreditTxTimer
  | .retryNak _ _ _ => objs_execRetryNak
  | .ackTimeout _ _ => objs_execAckTimeout
  | .bypassPreamble _ _ => objs_execBypassPreamble
  | .rxForwardedFrame _ _ _ => objs_execRxForwardedFrame
  | .internalInputWrite _ _ => objs_execInternalInputWrite
  | .moveParkedFrame _ _ _ => objs_execMoveParkedFrame
  | .makeDeferredCopy _ _ _ => objs_execMakeDeferredCopy
  | .cellRelease _ _ _ => objs_execCellRelease
  | .reseqGapTimeout _ _ => objs_execReseqGapTimeout
  | .reseqFlowExpire _ _ => objs_execReseqFlowExpire
  | .kiteFault _ _ _ => objs_execKiteFault
  | .kiteSpareInService _ _ => objs_execKiteSpareInService
  | .spareKiteFault _ _ => objs_execSpareKiteFault
  | .handOverToSpare _ _ => objs_execHandOverToSpare
  | .returnFromSpare _ _ => objs_execReturnFromSpare
  | .kiteDrainComplete _ _ => objs_execKiteDrainComplete
  | .sprayMembersWrite _ _ _ => objs_execSprayMembersWrite
  | .poolCacheRefill _ _ => objs_execPoolCacheRefill
  | .poolScrub _ _ => objs_execPoolScrub
  | .poolScrubDone _ _ => objs_execPoolScrubDone
  | .cxlTrainComplete _ _ _ _ => objs_execCxlTrainComplete
  | .cxlLinkDown _ => objs_execCxlLinkDown
  | .cxlReset _ _ => objs_execCxlReset
  | .schedulingDecision _ _ => objs_execSchedulingDecision
  | .gateEntryChange _ _ => objs_execGateEntryChange
  | .gclEnableWrite _ _ _ => objs_execGclEnableWrite
  | .gclCommit _ _ => objs_execGclCommit
  | .gclPageSwap _ _ => objs_execGclPageSwap
  | .queuePromotion _ _ _ _ => objs_execQueuePromotion
  | .backgroundPromotion _ _ _ => objs_execBackgroundPromotion
  | .observationSample _ _ => objs_execObservationSample
  | .rctxClearDone _ _ => objs_execRctxClearDone
  | .reducerFrame _ _ _ => objs_execReducerFrame
  | .rctxIdleTimeout _ _ => objs_execRctxIdleTimeout
  | .rctxAbortCmd _ _ => objs_execRctxAbortCmd
  | .reducerLaneFault _ _ _ => objs_execReducerLaneFault
  | .spareLaneStandIn _ _ _ => objs_execSpareLaneStandIn
  | .accumulatorError _ _ _ => objs_execAccumulatorError
  | .slotLoad _ _ => objs_execSlotLoad
  | .slotLaunch _ _ => objs_execSlotLaunch
  | .slotStop _ _ => objs_execSlotStop
  | .slotClear _ _ => objs_execSlotClear
  | .launch _ _ => objs_execLaunch
  | .signal _ _ => objs_execSignal
  | .notify _ _ => objs_execNotify
  | .abortCtx _ _ => objs_execAbortCtx
  | .report _ _ => objs_execReport
  | .contribute _ _ => objs_execContribute
  | .xready _ _ => objs_execXready
  | .failed _ _ => objs_execFailed
  | .stepTimeout _ _ => objs_execStepTimeout
  | .xsiteTimeout _ _ => objs_execXsiteTimeout
  | .counts _ _ => objs_execCounts
  | .grpExclude _ _ _ => objs_execGrpExclude
  | .grpCommit _ _ => objs_execGrpCommit
  | .grpBoundary _ _ => objs_execGrpBoundary
  | .syncValueWrite _ _ _ => objs_execSyncValueWrite
  | .tileFault _ _ => objs_execTileFault
  | .compressUnit _ _ => objs_execCompressUnit
  | .lrTile _ _ => objs_execLrTile
  | .cctxLoad _ _ => objs_execCctxLoad
  | .cctxClear _ _ => objs_execCctxClear
  | .lhAdminWrite _ _ _ _ => objs_execLhAdminWrite
  | .carrierFrameTx _ _ => objs_execCarrierFrameTx
  | .carrierFrameRx _ _ _ => objs_execCarrierFrameRx
  | .carrierFrameAbsent _ _ => objs_execCarrierFrameAbsent
  | .lhLossOfSignal _ _ => objs_execLhLossOfSignal
  | .multiframeBoundary _ => objs_execMultiframeBoundary
  | .holdoffExpiry _ _ => objs_execHoldoffExpiry
  | .wtrExpiry _ => objs_execWtrExpiry
  | .apsCommand _ _ _ => objs_execApsCommand
  | .tsiCommitTx _ _ => objs_execTsiCommitTx
  | .tsiCommitRx _ _ => objs_execTsiCommitRx
  | .tribDescWrite _ _ _ => objs_execTribDescWrite
  | .ackReportTimer _ _ => objs_execAckReportTimer
  | .renakTimer _ _ => objs_execRenakTimer
  | .retxTimeout _ _ => objs_execRetxTimeout
  | .cipherFault _ _ _ => objs_execCipherFault
  | .masterInstall _ _ => objs_execMasterInstall
  | .masterErase _ _ => objs_execMasterErase
  | .rekeyCmd _ _ => objs_execRekeyCmd
  | .derivationComplete _ => objs_execDerivationComplete
  | .ckptWrite _ _ _ => objs_execCkptWrite
  | .ckptRead _ _ _ => objs_execCkptRead
  | .ckptData _ _ => objs_execCkptData
  | .replCommit _ _ => objs_execReplCommit
  | .replAck _ _ => objs_execReplAck
  | .replTimeout _ _ _ => objs_execReplTimeout
  | .rgnLoad _ _ => objs_execRgnLoad
  | .rgnArmCommit _ _ => objs_execRgnArmCommit
  | .rgnAbandon _ _ => objs_execRgnAbandon
  | .rgnClear _ _ => objs_execRgnClear
  | .rgnCommit _ _ => objs_execRgnCommit
  | .drainComplete _ _ => objs_execDrainComplete
  | .laserAbsent _ _ _ => objs_execLaserAbsent
  | .laserLevelAlarm _ _ _ _ _ => objs_execLaserLevelAlarm
  | .laserPresent _ _ _ _ _ => objs_execLaserPresent
  | .laserEnable _ _ _ => objs_execLaserEnable
  | .laserDisable _ _ _ => objs_execLaserDisable
  | .cmisPoll _ _ _ _ => objs_execCmisPoll
  | .moduleReadyTimeout _ _ _ => objs_execModuleReadyTimeout
  | .xtalkModeWrite _ _ _ _ => objs_execXtalkModeWrite
  | .ringLockLost _ _ _ => objs_execRingLockLost
  | .calPeriodExpiry _ _ _ => objs_execCalPeriodExpiry
  | .setpointErrorDue _ _ _ => objs_execSetpointErrorDue
  | .portIdleDetected _ _ => objs_execPortIdleDetected
  | .calRoundStart _ _ => objs_execCalRoundStart
  | .calRoundComplete _ _ _ => objs_execCalRoundComplete
  | .calWindowRequest _ _ _ => objs_execCalWindowRequest
  | .calForce _ _ _ => objs_execCalForce
  | .matrixCmd _ _ _ => objs_execMatrixCmd
  | .matrixRoundComplete _ _ _ => objs_execMatrixRoundComplete
  | .heaterStepCheck _ _ _ _ => objs_execHeaterStepCheck
  | .toneVerdict _ _ _ => objs_execToneVerdict
  | .resweepComplete _ _ _ _ _ => objs_execResweepComplete
  | .bypassInstall _ _ _ => objs_execBypassInstall
  | .bypassRemove _ _ _ => objs_execBypassRemove
  | .bypassWindowStart _ _ => objs_execBypassWindowStart
  | .bypassWindowEnd _ _ => objs_execBypassWindowEnd
  | .windowFrame _ _ _ => objs_execWindowFrame
  | .bypassPathCheck _ _ _ _ => objs_execBypassPathCheck
  | .sync _ _ _ => objs_execSync
  | .announce _ _ _ => objs_execAnnounce
  | .pdelayReq _ _ _ => objs_execPdelayReq
  | .pdelayResp _ _ _ => objs_execPdelayResp
  | .syncTxTimer _ _ _ => objs_execSyncTxTimer
  | .announceTxTimer _ _ _ => objs_execAnnounceTxTimer
  | .pdelayReqTimer _ _ => objs_execPdelayReqTimer
  | .linkDelayExpiry _ _ => objs_execLinkDelayExpiry
  | .holdoverTimeout _ _ => objs_execHoldoverTimeout
  | .standbyDiffRead _ _ => objs_execStandbyDiffRead
  | .tbEnableWrite _ _ _ _ => objs_execTbEnableWrite
  | .tbTimeWrite _ _ _ _ => objs_execTbTimeWrite
  | .tbSwitchToStandby _ _ _ => objs_execTbSwitchToStandby
  | .tbReturn _ _ _ => objs_execTbReturn
  | .snapshotLatch _ => objs_execSnapshotLatch
  | .tenantCreate _ _ _ => objs_execTenantCreate
  | .tenantSuspend _ _ _ => objs_execTenantSuspend
  | .tenantSuspendDone _ _ => objs_execTenantSuspendDone
  | .tenantResume _ _ _ => objs_execTenantResume
  | .tenantRemove _ _ _ => objs_execTenantRemove
  | .ndpHandshake _ _ _ => objs_execNdpHandshake
  | .sessionIdleTimeout _ => objs_execSessionIdleTimeout
  | .mgmtLinkDown _ => objs_execMgmtLinkDown
  | .read _ _ _ => objs_execRead
  | .write _ _ _ _ => objs_execWrite
  | .readClear _ _ _ => objs_execReadClear
  | .domainReadStart _ _ _ => objs_execDomainReadStart
  | .domainReadSeg _ _ _ _ => objs_execDomainReadSeg
  | .domainWriteStart _ _ _ _ _ => objs_execDomainWriteStart
  | .domainWriteSeg _ _ _ _ _ => objs_execDomainWriteSeg
  | .domainAbort _ _ _ => objs_execDomainAbort
  | .domainTimeout _ => objs_execDomainTimeout
  | .keepalive _ => objs_execKeepalive
  | .mbDoorbell _ _ => objs_execMbDoorbell
  | .mbStatusWrite _ => objs_execMbStatusWrite
  | .hostWindowWrite _ _ => objs_execHostWindowWrite
  | .lock _ => objs_execLock
  | .lockRelease _ => objs_execLockRelease
  | .factoryReset _ => objs_execFactoryReset
  | .snapshotArm _ => objs_execSnapshotArm
  | .causeClear _ _ _ => objs_execCauseClear
  | .subscribe _ _ _ => objs_execSubscribe
  | .unsubscribe _ _ => objs_execUnsubscribe
  | .eventAck _ _ => objs_execEventAck
  | .eventResendTimer => objs_execEventResendTimer
  | .healthWindowEnd _ => objs_execHealthWindowEnd
  | .hbmFault _ _ _ => objs_execHbmFault
  | .planeStateFault _ => objs_execPlaneStateFault
  | .diagInject _ => objs_execDiagInject
  | .hfRestore _ _ _ => objs_execHfRestore
  | .hfRetire _ _ => objs_execHfRetire
  | .planeRecoverCmd _ _ => objs_execPlaneRecoverCmd
  | .planeRecoveryStart _ => objs_execPlaneRecoveryStart
  | .planeRecoveryEnd _ => objs_execPlaneRecoveryEnd
  | .recoveryTimeout _ => objs_execRecoveryTimeout
  | .maintEnter _ _ => objs_execMaintEnter
  | .maintLeave _ _ => objs_execMaintLeave
  | .fuseCmd _ _ _ => objs_execFuseCmd
  | .fullBist _ _ => objs_execFullBist
  | .retireClear _ => objs_execRetireClear
  | .replReasonSet _ => objs_execReplReasonSet
  | .replReasonClear _ => objs_execReplReasonClear
  | .bistUnitStart _ => objs_execBistUnitStart
  | .bistUnitComplete _ _ => objs_execBistUnitComplete
  | .ageingMeasure _ _ => objs_execAgeingMeasure
  | .marginReplan _ => objs_execMarginReplan
  | .replanCmd _ _ => objs_execReplanCmd
  | .scStart _ _ => objs_execScStart
  | .scAbort _ _ => objs_execScAbort
  | .scRequest _ _ => objs_execScRequest
  | .scBoundary _ => objs_execScBoundary
  | .objects _ _ => objs_execObjects
  | .slots _ _ => objs_execSlots
  | .scDone _ _ => objs_execScDone
  | .scRefused _ _ => objs_execScRefused
  | .scTimeout _ => objs_execScTimeout
  | .poreset _ => objs_execPoreset
  | .planeRst _ _ => objs_execPlaneRst
  | .planeResetCmd _ => objs_execPlaneResetCmd
  | .hubBoot => objs_execHubBoot
  | .planeInit _ _ => objs_execPlaneInit
  | .refclkLost _ => objs_execRefclkLost
  | .refclkReturn _ => objs_execRefclkReturn
  | .avsUpdate _ => objs_execAvsUpdate
  | .pmbusPoll _ => objs_execPmbusPoll
  | .operatingPointChange _ => objs_execOperatingPointChange
  | .chipletTemperature _ _ _ => objs_execChipletTemperature
  | .thermalTrip => objs_execThermalTrip
  | .fwVerify _ => objs_execFwVerify
  | .rollbackFloorRaise _ => objs_execRollbackFloorRaise
  | .vddIoLow => objs_execVddIoLow
  | .clockRecoveryLockLoss _ _ _ => objs_execClockRecoveryLockLoss
  | .uncorrectableCodeword _ _ _ => objs_execUncorrectableCodeword
  | .faultRetryBistComplete _ _ _ => objs_execFaultRetryBistComplete
  | .longHaulRejoinTimeout _ _ => objs_execLongHaulRejoinTimeout
  | .longHaulPcsLock _ _ _ => objs_execLongHaulPcsLock
  | .mgmtLinkUp _ => objs_execMgmtLinkUp
  | .hostLinkTrained _ _ => objs_execHostLinkTrained
  | .planeNotAnswering _ => objs_execPlaneNotAnswering
  | .supplyCollapse _ => objs_execSupplyCollapse
  | .vddIoRestored => objs_execVddIoRestored
  | .hubRefclkLost => objs_execHubRefclkLost

/-- The parts of the device that a command can change. -/
def Instr.parts (c : Instr) : Nat :=
  match c with
  | .hubLoss _ => parts_execHubLoss
  | .hubReturn _ => parts_execHubReturn
  | .fmTimeout => parts_execFmTimeout
  | .fence _ _ => parts_execFence
  | .unfence _ _ => parts_execUnfence
  | .fenceComplete _ => parts_execFenceComplete
  | .portAdminWrite _ _ _ _ => parts_execPortAdminWrite
  | .trainCmd _ _ _ => parts_execTrainCmd
  | .cdrLock _ _ => parts_execCdrLock
  | .fecLock _ _ => parts_execFecLock
  | .trainTxTimer _ _ => parts_execTrainTxTimer
  | .train _ _ _ => parts_execTrain
  | .trainDone _ _ _ => parts_execTrainDone
  | .trainingTimeout _ _ => parts_execTrainingTimeout
  | .trainingRetryTimer _ _ => parts_execTrainingRetryTimer
  | .credit _ _ _ => parts_execCredit
  | .creditTxTimer _ _ => parts_execCreditTxTimer
  | .retryNak _ _ _ => parts_execRetryNak
  | .ackTimeout _ _ => parts_execAckTimeout
  | .bypassPreamble _ _ => parts_execBypassPreamble
  | .rxForwardedFrame _ _ _ => parts_execRxForwardedFrame
  | .internalInputWrite _ _ => parts_execInternalInputWrite
  | .moveParkedFrame _ _ _ => parts_execMoveParkedFrame
  | .makeDeferredCopy _ _ _ => parts_execMakeDeferredCopy
  | .cellRelease _ _ _ => parts_execCellRelease
  | .reseqGapTimeout _ _ => parts_execReseqGapTimeout
  | .reseqFlowExpire _ _ => parts_execReseqFlowExpire
  | .kiteFault _ _ _ => parts_execKiteFault
  | .kiteSpareInService _ _ => parts_execKiteSpareInService
  | .spareKiteFault _ _ => parts_execSpareKiteFault
  | .handOverToSpare _ _ => parts_execHandOverToSpare
  | .returnFromSpare _ _ => parts_execReturnFromSpare
  | .kiteDrainComplete _ _ => parts_execKiteDrainComplete
  | .sprayMembersWrite _ _ _ => parts_execSprayMembersWrite
  | .poolCacheRefill _ _ => parts_execPoolCacheRefill
  | .poolScrub _ _ => parts_execPoolScrub
  | .poolScrubDone _ _ => parts_execPoolScrubDone
  | .cxlTrainComplete _ _ _ _ => parts_execCxlTrainComplete
  | .cxlLinkDown _ => parts_execCxlLinkDown
  | .cxlReset _ _ => parts_execCxlReset
  | .schedulingDecision _ _ => parts_execSchedulingDecision
  | .gateEntryChange _ _ => parts_execGateEntryChange
  | .gclEnableWrite _ _ _ => parts_execGclEnableWrite
  | .gclCommit _ _ => parts_execGclCommit
  | .gclPageSwap _ _ => parts_execGclPageSwap
  | .queuePromotion _ _ _ _ => parts_execQueuePromotion
  | .backgroundPromotion _ _ _ => parts_execBackgroundPromotion
  | .observationSample _ _ => parts_execObservationSample
  | .rctxClearDone _ _ => parts_execRctxClearDone
  | .reducerFrame _ _ _ => parts_execReducerFrame
  | .rctxIdleTimeout _ _ => parts_execRctxIdleTimeout
  | .rctxAbortCmd _ _ => parts_execRctxAbortCmd
  | .reducerLaneFault _ _ _ => parts_execReducerLaneFault
  | .spareLaneStandIn _ _ _ => parts_execSpareLaneStandIn
  | .accumulatorError _ _ _ => parts_execAccumulatorError
  | .slotLoad _ _ => parts_execSlotLoad
  | .slotLaunch _ _ => parts_execSlotLaunch
  | .slotStop _ _ => parts_execSlotStop
  | .slotClear _ _ => parts_execSlotClear
  | .launch _ _ => parts_execLaunch
  | .signal _ _ => parts_execSignal
  | .notify _ _ => parts_execNotify
  | .abortCtx _ _ => parts_execAbortCtx
  | .report _ _ => parts_execReport
  | .contribute _ _ => parts_execContribute
  | .xready _ _ => parts_execXready
  | .failed _ _ => parts_execFailed
  | .stepTimeout _ _ => parts_execStepTimeout
  | .xsiteTimeout _ _ => parts_execXsiteTimeout
  | .counts _ _ => parts_execCounts
  | .grpExclude _ _ _ => parts_execGrpExclude
  | .grpCommit _ _ => parts_execGrpCommit
  | .grpBoundary _ _ => parts_execGrpBoundary
  | .syncValueWrite _ _ _ => parts_execSyncValueWrite
  | .tileFault _ _ => parts_execTileFault
  | .compressUnit _ _ => parts_execCompressUnit
  | .lrTile _ _ => parts_execLrTile
  | .cctxLoad _ _ => parts_execCctxLoad
  | .cctxClear _ _ => parts_execCctxClear
  | .lhAdminWrite _ _ _ _ => parts_execLhAdminWrite
  | .carrierFrameTx _ _ => parts_execCarrierFrameTx
  | .carrierFrameRx _ _ _ => parts_execCarrierFrameRx
  | .carrierFrameAbsent _ _ => parts_execCarrierFrameAbsent
  | .lhLossOfSignal _ _ => parts_execLhLossOfSignal
  | .multiframeBoundary _ => parts_execMultiframeBoundary
  | .holdoffExpiry _ _ => parts_execHoldoffExpiry
  | .wtrExpiry _ => parts_execWtrExpiry
  | .apsCommand _ _ _ => parts_execApsCommand
  | .tsiCommitTx _ _ => parts_execTsiCommitTx
  | .tsiCommitRx _ _ => parts_execTsiCommitRx
  | .tribDescWrite _ _ _ => parts_execTribDescWrite
  | .ackReportTimer _ _ => parts_execAckReportTimer
  | .renakTimer _ _ => parts_execRenakTimer
  | .retxTimeout _ _ => parts_execRetxTimeout
  | .cipherFault _ _ _ => parts_execCipherFault
  | .masterInstall _ _ => parts_execMasterInstall
  | .masterErase _ _ => parts_execMasterErase
  | .rekeyCmd _ _ => parts_execRekeyCmd
  | .derivationComplete _ => parts_execDerivationComplete
  | .ckptWrite _ _ _ => parts_execCkptWrite
  | .ckptRead _ _ _ => parts_execCkptRead
  | .ckptData _ _ => parts_execCkptData
  | .replCommit _ _ => parts_execReplCommit
  | .replAck _ _ => parts_execReplAck
  | .replTimeout _ _ _ => parts_execReplTimeout
  | .rgnLoad _ _ => parts_execRgnLoad
  | .rgnArmCommit _ _ => parts_execRgnArmCommit
  | .rgnAbandon _ _ => parts_execRgnAbandon
  | .rgnClear _ _ => parts_execRgnClear
  | .rgnCommit _ _ => parts_execRgnCommit
  | .drainComplete _ _ => parts_execDrainComplete
  | .laserAbsent _ _ _ => parts_execLaserAbsent
  | .laserLevelAlarm _ _ _ _ _ => parts_execLaserLevelAlarm
  | .laserPresent _ _ _ _ _ => parts_execLaserPresent
  | .laserEnable _ _ _ => parts_execLaserEnable
  | .laserDisable _ _ _ => parts_execLaserDisable
  | .cmisPoll _ _ _ _ => parts_execCmisPoll
  | .moduleReadyTimeout _ _ _ => parts_execModuleReadyTimeout
  | .xtalkModeWrite _ _ _ _ => parts_execXtalkModeWrite
  | .ringLockLost _ _ _ => parts_execRingLockLost
  | .calPeriodExpiry _ _ _ => parts_execCalPeriodExpiry
  | .setpointErrorDue _ _ _ => parts_execSetpointErrorDue
  | .portIdleDetected _ _ => parts_execPortIdleDetected
  | .calRoundStart _ _ => parts_execCalRoundStart
  | .calRoundComplete _ _ _ => parts_execCalRoundComplete
  | .calWindowRequest _ _ _ => parts_execCalWindowRequest
  | .calForce _ _ _ => parts_execCalForce
  | .matrixCmd _ _ _ => parts_execMatrixCmd
  | .matrixRoundComplete _ _ _ => parts_execMatrixRoundComplete
  | .heaterStepCheck _ _ _ _ => parts_execHeaterStepCheck
  | .toneVerdict _ _ _ => parts_execToneVerdict
  | .resweepComplete _ _ _ _ _ => parts_execResweepComplete
  | .bypassInstall _ _ _ => parts_execBypassInstall
  | .bypassRemove _ _ _ => parts_execBypassRemove
  | .bypassWindowStart _ _ => parts_execBypassWindowStart
  | .bypassWindowEnd _ _ => parts_execBypassWindowEnd
  | .windowFrame _ _ _ => parts_execWindowFrame
  | .bypassPathCheck _ _ _ _ => parts_execBypassPathCheck
  | .sync _ _ _ => parts_execSync
  | .announce _ _ _ => parts_execAnnounce
  | .pdelayReq _ _ _ => parts_execPdelayReq
  | .pdelayResp _ _ _ => parts_execPdelayResp
  | .syncTxTimer _ _ _ => parts_execSyncTxTimer
  | .announceTxTimer _ _ _ => parts_execAnnounceTxTimer
  | .pdelayReqTimer _ _ => parts_execPdelayReqTimer
  | .linkDelayExpiry _ _ => parts_execLinkDelayExpiry
  | .holdoverTimeout _ _ => parts_execHoldoverTimeout
  | .standbyDiffRead _ _ => parts_execStandbyDiffRead
  | .tbEnableWrite _ _ _ _ => parts_execTbEnableWrite
  | .tbTimeWrite _ _ _ _ => parts_execTbTimeWrite
  | .tbSwitchToStandby _ _ _ => parts_execTbSwitchToStandby
  | .tbReturn _ _ _ => parts_execTbReturn
  | .snapshotLatch _ => parts_execSnapshotLatch
  | .tenantCreate _ _ _ => parts_execTenantCreate
  | .tenantSuspend _ _ _ => parts_execTenantSuspend
  | .tenantSuspendDone _ _ => parts_execTenantSuspendDone
  | .tenantResume _ _ _ => parts_execTenantResume
  | .tenantRemove _ _ _ => parts_execTenantRemove
  | .ndpHandshake _ _ _ => parts_execNdpHandshake
  | .sessionIdleTimeout _ => parts_execSessionIdleTimeout
  | .mgmtLinkDown _ => parts_execMgmtLinkDown
  | .read _ _ _ => parts_execRead
  | .write _ _ _ _ => parts_execWrite
  | .readClear _ _ _ => parts_execReadClear
  | .domainReadStart _ _ _ => parts_execDomainReadStart
  | .domainReadSeg _ _ _ _ => parts_execDomainReadSeg
  | .domainWriteStart _ _ _ _ _ => parts_execDomainWriteStart
  | .domainWriteSeg _ _ _ _ _ => parts_execDomainWriteSeg
  | .domainAbort _ _ _ => parts_execDomainAbort
  | .domainTimeout _ => parts_execDomainTimeout
  | .keepalive _ => parts_execKeepalive
  | .mbDoorbell _ _ => parts_execMbDoorbell
  | .mbStatusWrite _ => parts_execMbStatusWrite
  | .hostWindowWrite _ _ => parts_execHostWindowWrite
  | .lock _ => parts_execLock
  | .lockRelease _ => parts_execLockRelease
  | .factoryReset _ => parts_execFactoryReset
  | .snapshotArm _ => parts_execSnapshotArm
  | .causeClear _ _ _ => parts_execCauseClear
  | .subscribe _ _ _ => parts_execSubscribe
  | .unsubscribe _ _ => parts_execUnsubscribe
  | .eventAck _ _ => parts_execEventAck
  | .eventResendTimer => parts_execEventResendTimer
  | .healthWindowEnd _ => parts_execHealthWindowEnd
  | .hbmFault _ _ _ => parts_execHbmFault
  | .planeStateFault _ => parts_execPlaneStateFault
  | .diagInject _ => parts_execDiagInject
  | .hfRestore _ _ _ => parts_execHfRestore
  | .hfRetire _ _ => parts_execHfRetire
  | .planeRecoverCmd _ _ => parts_execPlaneRecoverCmd
  | .planeRecoveryStart _ => parts_execPlaneRecoveryStart
  | .planeRecoveryEnd _ => parts_execPlaneRecoveryEnd
  | .recoveryTimeout _ => parts_execRecoveryTimeout
  | .maintEnter _ _ => parts_execMaintEnter
  | .maintLeave _ _ => parts_execMaintLeave
  | .fuseCmd _ _ _ => parts_execFuseCmd
  | .fullBist _ _ => parts_execFullBist
  | .retireClear _ => parts_execRetireClear
  | .replReasonSet _ => parts_execReplReasonSet
  | .replReasonClear _ => parts_execReplReasonClear
  | .bistUnitStart _ => parts_execBistUnitStart
  | .bistUnitComplete _ _ => parts_execBistUnitComplete
  | .ageingMeasure _ _ => parts_execAgeingMeasure
  | .marginReplan _ => parts_execMarginReplan
  | .replanCmd _ _ => parts_execReplanCmd
  | .scStart _ _ => parts_execScStart
  | .scAbort _ _ => parts_execScAbort
  | .scRequest _ _ => parts_execScRequest
  | .scBoundary _ => parts_execScBoundary
  | .objects _ _ => parts_execObjects
  | .slots _ _ => parts_execSlots
  | .scDone _ _ => parts_execScDone
  | .scRefused _ _ => parts_execScRefused
  | .scTimeout _ => parts_execScTimeout
  | .poreset _ => parts_execPoreset
  | .planeRst _ _ => parts_execPlaneRst
  | .planeResetCmd _ => parts_execPlaneResetCmd
  | .hubBoot => parts_execHubBoot
  | .planeInit _ _ => parts_execPlaneInit
  | .refclkLost _ => parts_execRefclkLost
  | .refclkReturn _ => parts_execRefclkReturn
  | .avsUpdate _ => parts_execAvsUpdate
  | .pmbusPoll _ => parts_execPmbusPoll
  | .operatingPointChange _ => parts_execOperatingPointChange
  | .chipletTemperature _ _ _ => parts_execChipletTemperature
  | .thermalTrip => parts_execThermalTrip
  | .fwVerify _ => parts_execFwVerify
  | .rollbackFloorRaise _ => parts_execRollbackFloorRaise
  | .vddIoLow => parts_execVddIoLow
  | .clockRecoveryLockLoss _ _ _ => parts_execClockRecoveryLockLoss
  | .uncorrectableCodeword _ _ _ => parts_execUncorrectableCodeword
  | .faultRetryBistComplete _ _ _ => parts_execFaultRetryBistComplete
  | .longHaulRejoinTimeout _ _ => parts_execLongHaulRejoinTimeout
  | .longHaulPcsLock _ _ _ => parts_execLongHaulPcsLock
  | .mgmtLinkUp _ => parts_execMgmtLinkUp
  | .hostLinkTrained _ _ => parts_execHostLinkTrained
  | .planeNotAnswering _ => parts_execPlaneNotAnswering
  | .supplyCollapse _ => parts_execSupplyCollapse
  | .vddIoRestored => parts_execVddIoRestored
  | .hubRefclkLost => parts_execHubRefclkLost

/-- What a command does to a device lies within its objects and its parts. -/
theorem Moves.exec {c : Instr} (h : Machine.exec c s₀ = .next t₁) : Moves s₀.dev t₁.dev (Instr.objs c) (Instr.parts c) := by
  cases c with
  | hubLoss p => exact Moves.execHubLoss (p := p) h (Mask.le_refl _) (Mask.le_refl _)
  | hubReturn p => exact Moves.execHubReturn (p := p) h (Mask.le_refl _) (Mask.le_refl _)
  | fmTimeout => exact Moves.execFmTimeout h (Mask.le_refl _) (Mask.le_refl _)
  | fence p rq => exact Moves.execFence (p := p) (rq := rq) h (Mask.le_refl _) (Mask.le_refl _)
  | unfence p rq => exact Moves.execUnfence (p := p) (rq := rq) h (Mask.le_refl _) (Mask.le_refl _)
  | fenceComplete p => exact Moves.execFenceComplete (p := p) h (Mask.le_refl _) (Mask.le_refl _)
  | portAdminWrite p n v rq => exact Moves.execPortAdminWrite (p := p) (n := n) (v := v) (rq := rq) h (Mask.le_refl _) (Mask.le_refl _)
  | trainCmd p n rq => exact Moves.execTrainCmd (p := p) (n := n) (rq := rq) h (Mask.le_refl _) (Mask.le_refl _)
  | cdrLock p n => exact Moves.execCdrLock (p := p) (n := n) h (Mask.le_refl _) (Mask.le_refl _)
  | fecLock p n => exact Moves.execFecLock (p := p) (n := n) h (Mask.le_refl _) (Mask.le_refl _)
  | trainTxTimer p n => exact Moves.execTrainTxTimer (p := p) (n := n) h (Mask.le_refl _) (Mask.le_refl _)
  | train p n f => exact Moves.execTrain (p := p) (n := n) (f := f) h (Mask.le_refl _) (Mask.le_refl _)
  | trainDone p n f => exact Moves.execTrainDone (p := p) (n := n) (f := f) h (Mask.le_refl _) (Mask.le_refl _)
  | trainingTimeout p n => exact Moves.execTrainingTimeout (p := p) (n := n) h (Mask.le_refl _) (Mask.le_refl _)
  | trainingRetryTimer p n => exact Moves.execTrainingRetryTimer (p := p) (n := n) h (Mask.le_refl _) (Mask.le_refl _)
  | credit p n f => exact Moves.execCredit (p := p) (n := n) (f := f) h (Mask.le_refl _) (Mask.le_refl _)
  | creditTxTimer p n => exact Moves.execCreditTxTimer (p := p) (n := n) h (Mask.le_refl _) (Mask.le_refl _)
  | retryNak p n f => exact Moves.execRetryNak (p := p) (n := n) (f := f) h (Mask.le_refl _) (Mask.le_refl _)
  | ackTimeout p n => exact Moves.execAckTimeout (p := p) (n := n) h (Mask.le_refl _) (Mask.le_refl _)
  | bypassPreamble p n => exact Moves.execBypassPreamble (p := p) (n := n) h (Mask.le_refl _) (Mask.le_refl _)
  | rxForwardedFrame p n f => exact Moves.execRxForwardedFrame (p := p) (n := n) (f := f) h (Mask.le_refl _) (Mask.le_refl _)
  | internalInputWrite p a => exact Moves.execInternalInputWrite (p := p) (a := a) h (Mask.le_refl _) (Mask.le_refl _)
  | moveParkedFrame p row col => exact Moves.execMoveParkedFrame (p := p) (row := row) (col := col) h (Mask.le_refl _) (Mask.le_refl _)
  | makeDeferredCopy p row col => exact Moves.execMakeDeferredCopy (p := p) (row := row) (col := col) h (Mask.le_refl _) (Mask.le_refl _)
  | cellRelease p copy o => exact Moves.execCellRelease (p := p) (copy := copy) (o := o) h (Mask.le_refl _) (Mask.le_refl _)
  | reseqGapTimeout p flow => exact Moves.execReseqGapTimeout (p := p) (flow := flow) h (Mask.le_refl _) (Mask.le_refl _)
  | reseqFlowExpire p flow => exact Moves.execReseqFlowExpire (p := p) (flow := flow) h (Mask.le_refl _) (Mask.le_refl _)
  | kiteFault p row col => exact Moves.execKiteFault (p := p) (row := row) (col := col) h (Mask.le_refl _) (Mask.le_refl _)
  | kiteSpareInService p row => exact Moves.execKiteSpareInService (p := p) (row := row) h (Mask.le_refl _) (Mask.le_refl _)
  | spareKiteFault p row => exact Moves.execSpareKiteFault (p := p) (row := row) h (Mask.le_refl _) (Mask.le_refl _)
  | handOverToSpare p rq => exact Moves.execHandOverToSpare (p := p) (rq := rq) h (Mask.le_refl _) (Mask.le_refl _)
  | returnFromSpare p rq => exact Moves.execReturnFromSpare (p := p) (rq := rq) h (Mask.le_refl _) (Mask.le_refl _)
  | kiteDrainComplete p row => exact Moves.execKiteDrainComplete (p := p) (row := row) h (Mask.le_refl _) (Mask.le_refl _)
  | sprayMembersWrite p v rq => exact Moves.execSprayMembersWrite (p := p) (v := v) (rq := rq) h (Mask.le_refl _) (Mask.le_refl _)
  | poolCacheRefill p pool => exact Moves.execPoolCacheRefill (p := p) (pool := pool) h (Mask.le_refl _) (Mask.le_refl _)
  | poolScrub p rq => exact Moves.execPoolScrub (p := p) (rq := rq) h (Mask.le_refl _) (Mask.le_refl _)
  | poolScrubDone p pool => exact Moves.execPoolScrubDone (p := p) (pool := pool) h (Mask.le_refl _) (Mask.le_refl _)
  | cxlTrainComplete p width rate gib => exact Moves.execCxlTrainComplete (p := p) (width := width) (rate := rate) (gib := gib) h (Mask.le_refl _) (Mask.le_refl _)
  | cxlLinkDown p => exact Moves.execCxlLinkDown (p := p) h (Mask.le_refl _) (Mask.le_refl _)
  | cxlReset p rq => exact Moves.execCxlReset (p := p) (rq := rq) h (Mask.le_refl _) (Mask.le_refl _)
  | schedulingDecision p o => exact Moves.execSchedulingDecision (p := p) (o := o) h (Mask.le_refl _) (Mask.le_refl _)
  | gateEntryChange p o => exact Moves.execGateEntryChange (p := p) (o := o) h (Mask.le_refl _) (Mask.le_refl _)
  | gclEnableWrite p v rq => exact Moves.execGclEnableWrite (p := p) (v := v) (rq := rq) h (Mask.le_refl _) (Mask.le_refl _)
  | gclCommit p rq => exact Moves.execGclCommit (p := p) (rq := rq) h (Mask.le_refl _) (Mask.le_refl _)
  | gclPageSwap p o => exact Moves.execGclPageSwap (p := p) (o := o) h (Mask.le_refl _) (Mask.le_refl _)
  | queuePromotion p o c t => exact Moves.execQueuePromotion (p := p) (o := o) (c := c) (t := t) h (Mask.le_refl _) (Mask.le_refl _)
  | backgroundPromotion p o kind => exact Moves.execBackgroundPromotion (p := p) (o := o) (kind := kind) h (Mask.le_refl _) (Mask.le_refl _)
  | observationSample p o => exact Moves.execObservationSample (p := p) (o := o) h (Mask.le_refl _) (Mask.le_refl _)
  | rctxClearDone p x => exact Moves.execRctxClearDone (p := p) (x := x) h (Mask.le_refl _) (Mask.le_refl _)
  | reducerFrame p col copy => exact Moves.execReducerFrame (p := p) (col := col) (copy := copy) h (Mask.le_refl _) (Mask.le_refl _)
  | rctxIdleTimeout p x => exact Moves.execRctxIdleTimeout (p := p) (x := x) h (Mask.le_refl _) (Mask.le_refl _)
  | rctxAbortCmd p rq => exact Moves.execRctxAbortCmd (p := p) (rq := rq) h (Mask.le_refl _) (Mask.le_refl _)
  | reducerLaneFault p col lane => exact Moves.execReducerLaneFault (p := p) (col := col) (lane := lane) h (Mask.le_refl _) (Mask.le_refl _)
  | spareLaneStandIn p col lane => exact Moves.execSpareLaneStandIn (p := p) (col := col) (lane := lane) h (Mask.le_refl _) (Mask.le_refl _)
  | accumulatorError p x elem => exact Moves.execAccumulatorError (p := p) (x := x) (elem := elem) h (Mask.le_refl _) (Mask.le_refl _)
  | slotLoad p rq => exact Moves.execSlotLoad (p := p) (rq := rq) h (Mask.le_refl _) (Mask.le_refl _)
  | slotLaunch p rq => exact Moves.execSlotLaunch (p := p) (rq := rq) h (Mask.le_refl _) (Mask.le_refl _)
  | slotStop p rq => exact Moves.execSlotStop (p := p) (rq := rq) h (Mask.le_refl _) (Mask.le_refl _)
  | slotClear p rq => exact Moves.execSlotClear (p := p) (rq := rq) h (Mask.le_refl _) (Mask.le_refl _)
  | launch p f => exact Moves.execLaunch (p := p) (f := f) h (Mask.le_refl _) (Mask.le_refl _)
  | signal p f => exact Moves.execSignal (p := p) (f := f) h (Mask.le_refl _) (Mask.le_refl _)
  | notify p f => exact Moves.execNotify (p := p) (f := f) h (Mask.le_refl _) (Mask.le_refl _)
  | abortCtx p f => exact Moves.execAbortCtx (p := p) (f := f) h (Mask.le_refl _) (Mask.le_refl _)
  | report p f => exact Moves.execReport (p := p) (f := f) h (Mask.le_refl _) (Mask.le_refl _)
  | contribute p f => exact Moves.execContribute (p := p) (f := f) h (Mask.le_refl _) (Mask.le_refl _)
  | xready p f => exact Moves.execXready (p := p) (f := f) h (Mask.le_refl _) (Mask.le_refl _)
  | failed p f => exact Moves.execFailed (p := p) (f := f) h (Mask.le_refl _) (Mask.le_refl _)
  | stepTimeout p sl => exact Moves.execStepTimeout (p := p) (sl := sl) h (Mask.le_refl _) (Mask.le_refl _)
  | xsiteTimeout p sl => exact Moves.execXsiteTimeout (p := p) (sl := sl) h (Mask.le_refl _) (Mask.le_refl _)
  | counts p f => exact Moves.execCounts (p := p) (f := f) h (Mask.le_refl _) (Mask.le_refl _)
  | grpExclude p v rq => exact Moves.execGrpExclude (p := p) (v := v) (rq := rq) h (Mask.le_refl _) (Mask.le_refl _)
  | grpCommit p rq => exact Moves.execGrpCommit (p := p) (rq := rq) h (Mask.le_refl _) (Mask.le_refl _)
  | grpBoundary p g => exact Moves.execGrpBoundary (p := p) (g := g) h (Mask.le_refl _) (Mask.le_refl _)
  | syncValueWrite p v rq => exact Moves.execSyncValueWrite (p := p) (v := v) (rq := rq) h (Mask.le_refl _) (Mask.le_refl _)
  | tileFault p tile => exact Moves.execTileFault (p := p) (tile := tile) h (Mask.le_refl _) (Mask.le_refl _)
  | compressUnit p c => exact Moves.execCompressUnit (p := p) (c := c) h (Mask.le_refl _) (Mask.le_refl _)
  | lrTile p f => exact Moves.execLrTile (p := p) (f := f) h (Mask.le_refl _) (Mask.le_refl _)
  | cctxLoad p rq => exact Moves.execCctxLoad (p := p) (rq := rq) h (Mask.le_refl _) (Mask.le_refl _)
  | cctxClear p rq => exact Moves.execCctxClear (p := p) (rq := rq) h (Mask.le_refl _) (Mask.le_refl _)
  | lhAdminWrite p l v rq => exact Moves.execLhAdminWrite (p := p) (l := l) (v := v) (rq := rq) h (Mask.le_refl _) (Mask.le_refl _)
  | carrierFrameTx p l => exact Moves.execCarrierFrameTx (p := p) (l := l) h (Mask.le_refl _) (Mask.le_refl _)
  | carrierFrameRx p l cf => exact Moves.execCarrierFrameRx (p := p) (l := l) (cf := cf) h (Mask.le_refl _) (Mask.le_refl _)
  | carrierFrameAbsent p l => exact Moves.execCarrierFrameAbsent (p := p) (l := l) h (Mask.le_refl _) (Mask.le_refl _)
  | lhLossOfSignal p l => exact Moves.execLhLossOfSignal (p := p) (l := l) h (Mask.le_refl _) (Mask.le_refl _)
  | multiframeBoundary p => exact Moves.execMultiframeBoundary (p := p) h (Mask.le_refl _) (Mask.le_refl _)
  | holdoffExpiry p g => exact Moves.execHoldoffExpiry (p := p) (g := g) h (Mask.le_refl _) (Mask.le_refl _)
  | wtrExpiry p => exact Moves.execWtrExpiry (p := p) h (Mask.le_refl _) (Mask.le_refl _)
  | apsCommand p v rq => exact Moves.execApsCommand (p := p) (v := v) (rq := rq) h (Mask.le_refl _) (Mask.le_refl _)
  | tsiCommitTx p rq => exact Moves.execTsiCommitTx (p := p) (rq := rq) h (Mask.le_refl _) (Mask.le_refl _)
  | tsiCommitRx p rq => exact Moves.execTsiCommitRx (p := p) (rq := rq) h (Mask.le_refl _) (Mask.le_refl _)
  | tribDescWrite p v rq => exact Moves.execTribDescWrite (p := p) (v := v) (rq := rq) h (Mask.le_refl _) (Mask.le_refl _)
  | ackReportTimer p tr => exact Moves.execAckReportTimer (p := p) (tr := tr) h (Mask.le_refl _) (Mask.le_refl _)
  | renakTimer p tr => exact Moves.execRenakTimer (p := p) (tr := tr) h (Mask.le_refl _) (Mask.le_refl _)
  | retxTimeout p tr => exact Moves.execRetxTimeout (p := p) (tr := tr) h (Mask.le_refl _) (Mask.le_refl _)
  | cipherFault p dir pipe => exact Moves.execCipherFault (p := p) (dir := dir) (pipe := pipe) h (Mask.le_refl _) (Mask.le_refl _)
  | masterInstall p rq => exact Moves.execMasterInstall (p := p) (rq := rq) h (Mask.le_refl _) (Mask.le_refl _)
  | masterErase p rq => exact Moves.execMasterErase (p := p) (rq := rq) h (Mask.le_refl _) (Mask.le_refl _)
  | rekeyCmd p rq => exact Moves.execRekeyCmd (p := p) (rq := rq) h (Mask.le_refl _) (Mask.le_refl _)
  | derivationComplete p => exact Moves.execDerivationComplete (p := p) h (Mask.le_refl _) (Mask.le_refl _)
  | ckptWrite p port f => exact Moves.execCkptWrite (p := p) (port := port) (f := f) h (Mask.le_refl _) (Mask.le_refl _)
  | ckptRead p port f => exact Moves.execCkptRead (p := p) (port := port) (f := f) h (Mask.le_refl _) (Mask.le_refl _)
  | ckptData p f => exact Moves.execCkptData (p := p) (f := f) h (Mask.le_refl _) (Mask.le_refl _)
  | replCommit p f => exact Moves.execReplCommit (p := p) (f := f) h (Mask.le_refl _) (Mask.le_refl _)
  | replAck p f => exact Moves.execReplAck (p := p) (f := f) h (Mask.le_refl _) (Mask.le_refl _)
  | replTimeout p g mirror => exact Moves.execReplTimeout (p := p) (g := g) (mirror := mirror) h (Mask.le_refl _) (Mask.le_refl _)
  | rgnLoad p rq => exact Moves.execRgnLoad (p := p) (rq := rq) h (Mask.le_refl _) (Mask.le_refl _)
  | rgnArmCommit p rq => exact Moves.execRgnArmCommit (p := p) (rq := rq) h (Mask.le_refl _) (Mask.le_refl _)
  | rgnAbandon p rq => exact Moves.execRgnAbandon (p := p) (rq := rq) h (Mask.le_refl _) (Mask.le_refl _)
  | rgnClear p rq => exact Moves.execRgnClear (p := p) (rq := rq) h (Mask.le_refl _) (Mask.le_refl _)
  | rgnCommit p g => exact Moves.execRgnCommit (p := p) (g := g) h (Mask.le_refl _) (Mask.le_refl _)
  | drainComplete p g => exact Moves.execDrainComplete (p := p) (g := g) h (Mask.le_refl _) (Mask.le_refl _)
  | laserAbsent p c e => exact Moves.execLaserAbsent (p := p) (c := c) (e := e) h (Mask.le_refl _) (Mask.le_refl _)
  | laserLevelAlarm p c e wl cdbm => exact Moves.execLaserLevelAlarm (p := p) (c := c) (e := e) (wl := wl) (cdbm := cdbm) h (Mask.le_refl _) (Mask.le_refl _)
  | laserPresent p c e cdbm tones => exact Moves.execLaserPresent (p := p) (c := c) (e := e) (cdbm := cdbm) (tones := tones) h (Mask.le_refl _) (Mask.le_refl _)
  | laserEnable p c rq => exact Moves.execLaserEnable (p := p) (c := c) (rq := rq) h (Mask.le_refl _) (Mask.le_refl _)
  | laserDisable p c rq => exact Moves.execLaserDisable (p := p) (c := c) (rq := rq) h (Mask.le_refl _) (Mask.le_refl _)
  | cmisPoll p m st outOff => exact Moves.execCmisPoll (p := p) (m := m) (st := st) (outOff := outOff) h (Mask.le_refl _) (Mask.le_refl _)
  | moduleReadyTimeout p c e => exact Moves.execModuleReadyTimeout (p := p) (c := c) (e := e) h (Mask.le_refl _) (Mask.le_refl _)
  | xtalkModeWrite p c v rq => exact Moves.execXtalkModeWrite (p := p) (c := c) (v := v) (rq := rq) h (Mask.le_refl _) (Mask.le_refl _)
  | ringLockLost p c ring => exact Moves.execRingLockLost (p := p) (c := c) (ring := ring) h (Mask.le_refl _) (Mask.le_refl _)
  | calPeriodExpiry p c j => exact Moves.execCalPeriodExpiry (p := p) (c := c) (j := j) h (Mask.le_refl _) (Mask.le_refl _)
  | setpointErrorDue p c j => exact Moves.execSetpointErrorDue (p := p) (c := c) (j := j) h (Mask.le_refl _) (Mask.le_refl _)
  | portIdleDetected p n => exact Moves.execPortIdleDetected (p := p) (n := n) h (Mask.le_refl _) (Mask.le_refl _)
  | calRoundStart p c => exact Moves.execCalRoundStart (p := p) (c := c) h (Mask.le_refl _) (Mask.le_refl _)
  | calRoundComplete p c fits => exact Moves.execCalRoundComplete (p := p) (c := c) (fits := fits) h (Mask.le_refl _) (Mask.le_refl _)
  | calWindowRequest p c j => exact Moves.execCalWindowRequest (p := p) (c := c) (j := j) h (Mask.le_refl _) (Mask.le_refl _)
  | calForce p c rq => exact Moves.execCalForce (p := p) (c := c) (rq := rq) h (Mask.le_refl _) (Mask.le_refl _)
  | matrixCmd p c rq => exact Moves.execMatrixCmd (p := p) (c := c) (rq := rq) h (Mask.le_refl _) (Mask.le_refl _)
  | matrixRoundComplete p c j => exact Moves.execMatrixRoundComplete (p := p) (c := c) (j := j) h (Mask.le_refl _) (Mask.le_refl _)
  | heaterStepCheck p c ring heaters => exact Moves.execHeaterStepCheck (p := p) (c := c) (ring := ring) (heaters := heaters) h (Mask.le_refl _) (Mask.le_refl _)
  | toneVerdict p c verdicts => exact Moves.execToneVerdict (p := p) (c := c) (verdicts := verdicts) h (Mask.le_refl _) (Mask.le_refl _)
  | resweepComplete p c bank locked heaters => exact Moves.execResweepComplete (p := p) (c := c) (bank := bank) (locked := locked) (heaters := heaters) h (Mask.le_refl _) (Mask.le_refl _)
  | bypassInstall p c rq => exact Moves.execBypassInstall (p := p) (c := c) (rq := rq) h (Mask.le_refl _) (Mask.le_refl _)
  | bypassRemove p c rq => exact Moves.execBypassRemove (p := p) (c := c) (rq := rq) h (Mask.le_refl _) (Mask.le_refl _)
  | bypassWindowStart p n => exact Moves.execBypassWindowStart (p := p) (n := n) h (Mask.le_refl _) (Mask.le_refl _)
  | bypassWindowEnd p n => exact Moves.execBypassWindowEnd (p := p) (n := n) h (Mask.le_refl _) (Mask.le_refl _)
  | windowFrame p n f => exact Moves.execWindowFrame (p := p) (n := n) (f := f) h (Mask.le_refl _) (Mask.le_refl _)
  | bypassPathCheck p c k pass => exact Moves.execBypassPathCheck (p := p) (c := c) (k := k) (pass := pass) h (Mask.le_refl _) (Mask.le_refl _)
  | sync p o m => exact Moves.execSync (p := p) (o := o) (m := m) h (Mask.le_refl _) (Mask.le_refl _)
  | announce p o m => exact Moves.execAnnounce (p := p) (o := o) (m := m) h (Mask.le_refl _) (Mask.le_refl _)
  | pdelayReq p o m => exact Moves.execPdelayReq (p := p) (o := o) (m := m) h (Mask.le_refl _) (Mask.le_refl _)
  | pdelayResp p o m => exact Moves.execPdelayResp (p := p) (o := o) (m := m) h (Mask.le_refl _) (Mask.le_refl _)
  | syncTxTimer p tb o => exact Moves.execSyncTxTimer (p := p) (tb := tb) (o := o) h (Mask.le_refl _) (Mask.le_refl _)
  | announceTxTimer p tb o => exact Moves.execAnnounceTxTimer (p := p) (tb := tb) (o := o) h (Mask.le_refl _) (Mask.le_refl _)
  | pdelayReqTimer p o => exact Moves.execPdelayReqTimer (p := p) (o := o) h (Mask.le_refl _) (Mask.le_refl _)
  | linkDelayExpiry p o => exact Moves.execLinkDelayExpiry (p := p) (o := o) h (Mask.le_refl _) (Mask.le_refl _)
  | holdoverTimeout p tb => exact Moves.execHoldoverTimeout (p := p) (tb := tb) h (Mask.le_refl _) (Mask.le_refl _)
  | standbyDiffRead p tb => exact Moves.execStandbyDiffRead (p := p) (tb := tb) h (Mask.le_refl _) (Mask.le_refl _)
  | tbEnableWrite p tb v rq => exact Moves.execTbEnableWrite (p := p) (tb := tb) (v := v) (rq := rq) h (Mask.le_refl _) (Mask.le_refl _)
  | tbTimeWrite p tb v rq => exact Moves.execTbTimeWrite (p := p) (tb := tb) (v := v) (rq := rq) h (Mask.le_refl _) (Mask.le_refl _)
  | tbSwitchToStandby p tb rq => exact Moves.execTbSwitchToStandby (p := p) (tb := tb) (rq := rq) h (Mask.le_refl _) (Mask.le_refl _)
  | tbReturn p tb rq => exact Moves.execTbReturn (p := p) (tb := tb) (rq := rq) h (Mask.le_refl _) (Mask.le_refl _)
  | snapshotLatch p => exact Moves.execSnapshotLatch (p := p) h (Mask.le_refl _) (Mask.le_refl _)
  | tenantCreate p t rq => exact Moves.execTenantCreate (p := p) (t := t) (rq := rq) h (Mask.le_refl _) (Mask.le_refl _)
  | tenantSuspend p t rq => exact Moves.execTenantSuspend (p := p) (t := t) (rq := rq) h (Mask.le_refl _) (Mask.le_refl _)
  | tenantSuspendDone p t => exact Moves.execTenantSuspendDone (p := p) (t := t) h (Mask.le_refl _) (Mask.le_refl _)
  | tenantResume p t rq => exact Moves.execTenantResume (p := p) (t := t) (rq := rq) h (Mask.le_refl _) (Mask.le_refl _)
  | tenantRemove p t rq => exact Moves.execTenantRemove (p := p) (t := t) (rq := rq) h (Mask.le_refl _) (Mask.le_refl _)
  | ndpHandshake mp fp chainOk => exact Moves.execNdpHandshake (mport := mp) (fp := fp) (chainOk := chainOk) h (Mask.le_refl _) (Mask.le_refl _)
  | sessionIdleTimeout ses => exact Moves.execSessionIdleTimeout (ses := ses) h (Mask.le_refl _) (Mask.le_refl _)
  | mgmtLinkDown mp => exact Moves.execMgmtLinkDown (mport := mp) h (Mask.le_refl _) (Mask.le_refl _)
  | read rq idx sub => exact Moves.execRead (rq := rq) (idx := idx) (sub := sub) h (Mask.le_refl _) (Mask.le_refl _)
  | write rq idx sub v => exact Moves.execWrite (rq := rq) (idx := idx) (sub := sub) (v := v) h (Mask.le_refl _) (Mask.le_refl _)
  | readClear rq idx sub => exact Moves.execReadClear (rq := rq) (idx := idx) (sub := sub) h (Mask.le_refl _) (Mask.le_refl _)
  | domainReadStart rq idx sub => exact Moves.execDomainReadStart (rq := rq) (idx := idx) (sub := sub) h (Mask.le_refl _) (Mask.le_refl _)
  | domainReadSeg rq idx sub seg => exact Moves.execDomainReadSeg (rq := rq) (idx := idx) (sub := sub) (seg := seg) h (Mask.le_refl _) (Mask.le_refl _)
  | domainWriteStart rq idx sub total crc => exact Moves.execDomainWriteStart (rq := rq) (idx := idx) (sub := sub) (total := total) (crc := crc) h (Mask.le_refl _) (Mask.le_refl _)
  | domainWriteSeg rq idx sub seg v => exact Moves.execDomainWriteSeg (rq := rq) (idx := idx) (sub := sub) (seg := seg) (v := v) h (Mask.le_refl _) (Mask.le_refl _)
  | domainAbort rq idx sub => exact Moves.execDomainAbort (rq := rq) (idx := idx) (sub := sub) h (Mask.le_refl _) (Mask.le_refl _)
  | domainTimeout ses => exact Moves.execDomainTimeout (ses := ses) h (Mask.le_refl _) (Mask.le_refl _)
  | keepalive rq => exact Moves.execKeepalive (rq := rq) h (Mask.le_refl _) (Mask.le_refl _)
  | mbDoorbell v msg => exact Moves.execMbDoorbell (v := v) (msg := msg) h (Mask.le_refl _) (Mask.le_refl _)
  | mbStatusWrite v => exact Moves.execMbStatusWrite (v := v) h (Mask.le_refl _) (Mask.le_refl _)
  | hostWindowWrite off v => exact Moves.execHostWindowWrite (off := off) (v := v) h (Mask.le_refl _) (Mask.le_refl _)
  | lock rq => exact Moves.execLock (rq := rq) h (Mask.le_refl _) (Mask.le_refl _)
  | lockRelease rq => exact Moves.execLockRelease (rq := rq) h (Mask.le_refl _) (Mask.le_refl _)
  | factoryReset rq => exact Moves.execFactoryReset (rq := rq) h (Mask.le_refl _) (Mask.le_refl _)
  | snapshotArm rq => exact Moves.execSnapshotArm (rq := rq) h (Mask.le_refl _) (Mask.le_refl _)
  | causeClear rq idx v => exact Moves.execCauseClear (rq := rq) (idx := idx) (v := v) h (Mask.le_refl _) (Mask.le_refl _)
  | subscribe rq idx mask => exact Moves.execSubscribe (rq := rq) (idx := idx) (mask := mask) h (Mask.le_refl _) (Mask.le_refl _)
  | unsubscribe rq flt => exact Moves.execUnsubscribe (rq := rq) (flt := flt) h (Mask.le_refl _) (Mask.le_refl _)
  | eventAck rq seq => exact Moves.execEventAck (rq := rq) (seq := seq) h (Mask.le_refl _) (Mask.le_refl _)
  | eventResendTimer => exact Moves.execEventResendTimer h (Mask.le_refl _) (Mask.le_refl _)
  | healthWindowEnd p => exact Moves.execHealthWindowEnd (p := p) h (Mask.le_refl _) (Mask.le_refl _)
  | hbmFault p pc retryOk => exact Moves.execHbmFault (p := p) (pc := pc) (retryOk := retryOk) h (Mask.le_refl _) (Mask.le_refl _)
  | planeStateFault p => exact Moves.execPlaneStateFault (p := p) h (Mask.le_refl _) (Mask.le_refl _)
  | diagInject rq => exact Moves.execDiagInject (rq := rq) h (Mask.le_refl _) (Mask.le_refl _)
  | hfRestore p bistPass rq => exact Moves.execHfRestore (p := p) (bistPass := bistPass) (rq := rq) h (Mask.le_refl _) (Mask.le_refl _)
  | hfRetire p rq => exact Moves.execHfRetire (p := p) (rq := rq) h (Mask.le_refl _) (Mask.le_refl _)
  | planeRecoverCmd p rq => exact Moves.execPlaneRecoverCmd (p := p) (rq := rq) h (Mask.le_refl _) (Mask.le_refl _)
  | planeRecoveryStart p => exact Moves.execPlaneRecoveryStart (p := p) h (Mask.le_refl _) (Mask.le_refl _)
  | planeRecoveryEnd p => exact Moves.execPlaneRecoveryEnd (p := p) h (Mask.le_refl _) (Mask.le_refl _)
  | recoveryTimeout p => exact Moves.execRecoveryTimeout (p := p) h (Mask.le_refl _) (Mask.le_refl _)
  | maintEnter p rq => exact Moves.execMaintEnter (p := p) (rq := rq) h (Mask.le_refl _) (Mask.le_refl _)
  | maintLeave p rq => exact Moves.execMaintLeave (p := p) (rq := rq) h (Mask.le_refl _) (Mask.le_refl _)
  | fuseCmd p fits rq => exact Moves.execFuseCmd (p := p) (fits := fits) (rq := rq) h (Mask.le_refl _) (Mask.le_refl _)
  | fullBist failed rq => exact Moves.execFullBist (failed := failed) (rq := rq) h (Mask.le_refl _) (Mask.le_refl _)
  | retireClear rq => exact Moves.execRetireClear (rq := rq) h (Mask.le_refl _) (Mask.le_refl _)
  | replReasonSet rq => exact Moves.execReplReasonSet (rq := rq) h (Mask.le_refl _) (Mask.le_refl _)
  | replReasonClear rq => exact Moves.execReplReasonClear (rq := rq) h (Mask.le_refl _) (Mask.le_refl _)
  | bistUnitStart p => exact Moves.execBistUnitStart (p := p) h (Mask.le_refl _) (Mask.le_refl _)
  | bistUnitComplete p r => exact Moves.execBistUnitComplete (p := p) (r := r) h (Mask.le_refl _) (Mask.le_refl _)
  | ageingMeasure p vals => exact Moves.execAgeingMeasure (p := p) (vals := vals) h (Mask.le_refl _) (Mask.le_refl _)
  | marginReplan p => exact Moves.execMarginReplan (p := p) h (Mask.le_refl _) (Mask.le_refl _)
  | replanCmd p rq => exact Moves.execReplanCmd (p := p) (rq := rq) h (Mask.le_refl _) (Mask.le_refl _)
  | scStart p rq => exact Moves.execScStart (p := p) (rq := rq) h (Mask.le_refl _) (Mask.le_refl _)
  | scAbort p rq => exact Moves.execScAbort (p := p) (rq := rq) h (Mask.le_refl _) (Mask.le_refl _)
  | scRequest p f => exact Moves.execScRequest (p := p) (f := f) h (Mask.le_refl _) (Mask.le_refl _)
  | scBoundary p => exact Moves.execScBoundary (p := p) h (Mask.le_refl _) (Mask.le_refl _)
  | objects p f => exact Moves.execObjects (p := p) (f := f) h (Mask.le_refl _) (Mask.le_refl _)
  | slots p f => exact Moves.execSlots (p := p) (f := f) h (Mask.le_refl _) (Mask.le_refl _)
  | scDone p f => exact Moves.execScDone (p := p) (f := f) h (Mask.le_refl _) (Mask.le_refl _)
  | scRefused p f => exact Moves.execScRefused (p := p) (f := f) h (Mask.le_refl _) (Mask.le_refl _)
  | scTimeout p => exact Moves.execScTimeout (p := p) h (Mask.le_refl _) (Mask.le_refl _)
  | poreset lowNs => exact Moves.execPoreset (lowNs := lowNs) h (Mask.le_refl _) (Mask.le_refl _)
  | planeRst p lowNs => exact Moves.execPlaneRst (p := p) (lowNs := lowNs) h (Mask.le_refl _) (Mask.le_refl _)
  | planeResetCmd rq => exact Moves.execPlaneResetCmd (rq := rq) h (Mask.le_refl _) (Mask.le_refl _)
  | hubBoot => exact Moves.execHubBoot h (Mask.le_refl _) (Mask.le_refl _)
  | planeInit p st => exact Moves.execPlaneInit (p := p) (st := st) h (Mask.le_refl _) (Mask.le_refl _)
  | refclkLost p => exact Moves.execRefclkLost (p := p) h (Mask.le_refl _) (Mask.le_refl _)
  | refclkReturn p => exact Moves.execRefclkReturn (p := p) h (Mask.le_refl _) (Mask.le_refl _)
  | avsUpdate busOk => exact Moves.execAvsUpdate (busOk := busOk) h (Mask.le_refl _) (Mask.le_refl _)
  | pmbusPoll readings => exact Moves.execPmbusPoll (readings := readings) h (Mask.le_refl _) (Mask.le_refl _)
  | operatingPointChange tj => exact Moves.execOperatingPointChange (tj := tj) h (Mask.le_refl _) (Mask.le_refl _)
  | chipletTemperature p c t => exact Moves.execChipletTemperature (p := p) (c := c) (t := t) h (Mask.le_refl _) (Mask.le_refl _)
  | thermalTrip => exact Moves.execThermalTrip h (Mask.le_refl _) (Mask.le_refl _)
  | fwVerify rq => exact Moves.execFwVerify (rq := rq) h (Mask.le_refl _) (Mask.le_refl _)
  | rollbackFloorRaise rq => exact Moves.execRollbackFloorRaise (rq := rq) h (Mask.le_refl _) (Mask.le_refl _)
  | vddIoLow => exact Moves.execVddIoLow h (Mask.le_refl _) (Mask.le_refl _)
  | clockRecoveryLockLoss p n w => exact Moves.execClockRecoveryLockLoss (p := p) (n := n) (w := w) h (Mask.le_refl _) (Mask.le_refl _)
  | uncorrectableCodeword p n w => exact Moves.execUncorrectableCodeword (p := p) (n := n) (w := w) h (Mask.le_refl _) (Mask.le_refl _)
  | faultRetryBistComplete p chan pass => exact Moves.execFaultRetryBistComplete (p := p) (chan := chan) (pass := pass) h (Mask.le_refl _) (Mask.le_refl _)
  | longHaulRejoinTimeout p l => exact Moves.execLongHaulRejoinTimeout (p := p) (l := l) h (Mask.le_refl _) (Mask.le_refl _)
  | longHaulPcsLock p l lock => exact Moves.execLongHaulPcsLock (p := p) (l := l) (lock := lock) h (Mask.le_refl _) (Mask.le_refl _)
  | mgmtLinkUp mp => exact Moves.execMgmtLinkUp (mport := mp) h (Mask.le_refl _) (Mask.le_refl _)
  | hostLinkTrained width rate => exact Moves.execHostLinkTrained (width := width) (rate := rate) h (Mask.le_refl _) (Mask.le_refl _)
  | planeNotAnswering p => exact Moves.execPlaneNotAnswering (p := p) h (Mask.le_refl _) (Mask.le_refl _)
  | supplyCollapse at_ => exact Moves.execSupplyCollapse (at_ := at_) h (Mask.le_refl _) (Mask.le_refl _)
  | vddIoRestored => exact Moves.execVddIoRestored h (Mask.le_refl _) (Mask.le_refl _)
  | hubRefclkLost => exact Moves.execHubRefclkLost h (Mask.le_refl _) (Mask.le_refl _)


end Sys2Proof.Machine
end

