-- ==== Sys2Proof/Laws/Ports.lean ====
section
/-! SUPPORT. What freeing cells does to the state of fabric ports: only what credit reports changes. -/

namespace Sys2Proof.Machine

/-- A port without the counts of freed cells and the link frames that wait. -/
def PortSt.bare (s : PortSt) : PortSt := { s with freed := [], reported := [], ackSent := 0, linkQ := [] }

/-- Every port is the same but for what credit reports. -/
def PortsBare (d e : Device) : Prop := ∀ q m, (e.port q m).bare = (d.port q m).bare

theorem PortsBare.refl (d : Device) : PortsBare d d := fun _ _ => rfl
theorem PortsBare.trans {d e f : Device} (h : PortsBare d e) (k : PortsBare e f) : PortsBare d f :=
  fun q m => (k q m).trans (h q m)
theorem PortsBare.of_ports {d e : Device} (h : e.ports = d.ports) : PortsBare d e :=
  fun q m => by unfold Device.port; rw [h]
theorem PortsBare.of_moves {d e : Device} {mo mp : Nat} (h : Moves d e mo mp) (hp : mp.testBit Part.ports.ctorIdx = false) :
    PortsBare d e := PortsBare.of_ports (h.same .ports hp)

theorem PortsBare.setPort (d : Device) (p n : Nat) (v : PortSt) (h : v.bare = (d.port p n).bare) : PortsBare d (d.setPort p n v) := by
  intro q m
  rw [Device.port_setPort]
  split
  · rename_i k; rw [h, k.1, k.2]
  · rfl

theorem PortsBare.foldl {α : Type} {f : Device → α → Device} (hf : ∀ d a, PortsBare d (f d a)) (x : List α) (d : Device) :
    PortsBare d (x.foldl f d) := by
  induction x generalizing d with
  | nil => exact .refl d
  | cons a t ih => exact (hf d a).trans (ih _)

theorem PortsBare.sendLink (d : Device) (p n : Nat) (f : Frame) : PortsBare d (d.sendLink p n f) := by
  unfold Device.sendLink
  split
  · apply PortsBare.setPort; rfl
  · exact PortsBare.of_moves (mo := objs_calAbortPort) (mp := parts_calAbortPort ||| 0x20)
      ((Moves.calAbortPort (Moves.refl ..) (Mask.of (by decide)) (Mask.of (by decide))).emit (Mask.of (by decide))
        (Mask.of (by decide))) (by decide)

theorem PortsBare.sendCredit (d : Device) (p n : Nat) : PortsBare d (d.sendCredit p n) := by
  unfold Device.sendCredit
  refine PortsBare.trans (PortsBare.setPort d p n _ ?_) (PortsBare.sendLink _ p n _)
  rfl

theorem PortsBare.returnCredit (d : Device) (p n c k : Nat) : PortsBare d (d.returnCredit p n c k) := by
  have h : PortsBare d (d.setPort p n { d.port p n with freed := addCount (d.port p n).freed c k }) := by
    apply PortsBare.setPort; rfl
  unfold Device.returnCredit Device.creditDue
  refine h.trans ?_
  dsimp only
  split
  · exact PortsBare.sendCredit _ _ _
  · exact .refl _

theorem PortsBare.frameDone (d : Device) (p fid : Nat) : PortsBare d (d.frameDone p fid) := by
  unfold Device.frameDone
  split
  · exact .refl d
  · split
    · exact .refl d
    · simp only
      split
      · exact PortsBare.trans (PortsBare.of_ports (by rfl)) (PortsBare.returnCredit _ _ _ _ _)
      · exact PortsBare.of_ports rfl

theorem PortsBare.tidyCopy (d : Device) (p id : Nat) : PortsBare d (d.tidyCopy p id) := by
  unfold Device.tidyCopy
  split
  · exact .refl d
  · simp only
    split
    · exact PortsBare.trans (PortsBare.of_ports (by rfl)) (PortsBare.frameDone _ _ _)
    · exact .refl d

theorem PortsBare.release (d : Device) (p id o : Nat) : PortsBare d (d.release p id o) := by
  unfold Device.release
  split
  · exact .refl d
  · exact PortsBare.trans (PortsBare.of_ports (by rfl)) (PortsBare.tidyCopy _ _ _)

theorem PortsBare.bump (d : Device) (o : Obj) (p i : Nat) : PortsBare d (d.bump o p i) := PortsBare.of_ports (Device.ports_bump ..)

theorem PortsBare.countGone (d : Device) (p o : Nat) : PortsBare d (d.countGone p o) := by
  unfold Device.countGone
  split
  · exact PortsBare.bump _ _ _ _
  · exact PortsBare.bump _ _ _ _

theorem PortsBare.flushOut (d : Device) (p o : Nat) : PortsBare d (d.flushOut p o) := by
  unfold Device.flushOut
  refine PortsBare.foldl (fun e a => ?_) _ _
  simp only
  split
  · refine PortsBare.trans ?_ (PortsBare.release _ _ _ _)
    split
    · exact PortsBare.countGone _ _ _
    · exact .refl e
  · exact .refl e

theorem PortsBare.discardPort (d : Device) (p n : Nat) : PortsBare d (d.discardPort p n) := by
  unfold Device.discardPort
  exact (PortsBare.flushOut d p n).trans (PortsBare.of_ports (Device.ports_count ..))

/-! ### The state of a port -/

/-- The bandwidth service of an output changes no port's state. -/
theorem Device.get_svcUpdate (d : Device) (p o q m : Nat) : (d.svcUpdate p o).get .portState q m = d.get .portState q m :=
  (Moves.svcUpdate (mo := objs_svcUpdate) (mp := parts_svcUpdate) (Moves.refl ..) (Mask.of (by decide)) (Mask.of (by decide))).get
    _ _ _ (by decide)

/-- The state that is set is the state of the port. -/
theorem Device.get_setPortState (d : Device) (p n v : Nat) (hv : v < 256) : (d.setPortState p n v).get .portState p n = v := by
  unfold Device.setPortState
  simp only [Device.get_svcUpdate]
  split
  · exact Device.get_set_lt _ _ _ _ _ hv
  · rw [Device.get_set_obj _ _ _ _ _ _ _ _ (by decide)]; exact Device.get_set_lt _ _ _ _ _ hv

/-- No other port changes its state. -/
theorem Device.get_setPortState_ne (d : Device) (p n v q m : Nat) (h : q ≠ p ∨ m ≠ n) :
    (d.setPortState p n v).get .portState q m = d.get .portState q m := by
  have k : (if d.get .portState p n = v then d else d.calAbortPort p n).get .portState q m = d.get .portState q m := by
    split
    · rfl
    · exact (Moves.calAbortPort (mo := objs_calAbortPort) (mp := parts_calAbortPort) (Moves.refl ..) (Mask.of (by decide)) (Mask.of (by decide))).get
        _ _ _ (by decide)
  have a : ∀ e : Device, (e.set .portState p n v).get .portState q m = e.get .portState q m := by
    intro e; rw [Device.get_set]; simp; intro h1 h2; rcases h with h | h <;> contradiction
  unfold Device.setPortState
  simp only [Device.get_svcUpdate]
  split
  · rw [a, k]
  · rw [Device.get_set_obj _ _ _ _ _ _ _ _ (by decide), a, k]

@[simp] theorem Device.port_setPortState (d : Device) (p n v q m : Nat) : (d.setPortState p n v).port q m = d.port q m :=
  Moves.port (mo := objs_setPortState) (mp := parts_setPortState) (Moves.setPortState (Moves.refl ..) (Mask.of (by decide)) (Mask.of (by decide)))
    (by decide) q m

theorem Device.port_forgetCredit (d : Device) (p n q m : Nat) : (d.forgetCredit p n).port q m = d.port q m := rfl

/-- A port that leaves UP or training keeps its failures, its TRAIN_SEQ, its fence and what holds it down; its link state
starts anew. -/
theorem Device.port_leavePort (d : Device) (p n v : Nat) :
    (d.leavePort p n v).port p n = { failed := (d.port p n).failed, trainSeq := (d.port p n).trainSeq,
                                     fenced := (d.port p n).fenced, holdDown := (d.port p n).holdDown } := by
  have h := PortsBare.discardPort d p n p n
  have h1 := congrArg PortSt.failed h
  have h2 := congrArg PortSt.trainSeq h
  have h3 := congrArg PortSt.fenced h
  have h4 := congrArg PortSt.holdDown h
  simp only [PortSt.bare] at h1 h2 h3 h4
  unfold Device.leavePort Device.clearLink
  simp only [Device.port_setPortState, Device.port_setPort, Device.port_forgetCredit, and_self, if_true, h1, h2, h3, h4]

theorem Device.get_leavePort (d : Device) (p n v : Nat) (hv : v < 256) : (d.leavePort p n v).get .portState p n = v :=
  Device.get_setPortState _ _ _ _ hv

end Sys2Proof.Machine
end

