-- ==== Sys2Proof/Laws/Lookups.lean ====
section
/-! SUPPORT. Laws of the stored frames, copies, flows and of the counters: what a look-up finds after a write. -/

namespace Sys2Proof.Machine

theorem Tbl.find_ins {κ β : Type} [DecidableEq κ] (lt : κ → κ → Bool) (k j : κ) (v : β) (t : List (κ × β)) (hk : ∀ e ∈ t, e.1 ≠ k) :
    ((Tbl.ins lt k v t).find? (fun e => decide (e.1 = j))).map (·.2) =
      if j = k then some v else (t.find? (fun e => decide (e.1 = j))).map (·.2) := by
  induction t with
  | nil => by_cases h : j = k <;> simp [Tbl.ins, h, eq_comm]
  | cons e r ih =>
    have ha : e.1 ≠ k := hk e (by simp)
    have hr := ih (fun e he => hk e (by simp [he]))
    by_cases hl : lt k e.1 = true
    · simp only [Tbl.ins, hl, if_true]
      by_cases h : j = k
      · simp [h]
      · rw [List.find?_cons_of_neg (by simpa using Ne.symm h), if_neg h]
    · have hl' : lt k e.1 = false := by simpa using hl
      simp only [Tbl.ins, hl', Bool.false_eq_true, if_false]
      by_cases hj : e.1 = j
      · have : j ≠ k := hj ▸ ha
        simp [hj, this]
      · rw [List.find?_cons_of_neg (by simpa using hj), List.find?_cons_of_neg (by simpa using hj), hr]

theorem Tbl.find_erase {κ β : Type} [DecidableEq κ] (k j : κ) (t : List (κ × β)) :
    ((Tbl.erase t k).find? (fun e => decide (e.1 = j))).map (·.2) =
      if j = k then none else (t.find? (fun e => decide (e.1 = j))).map (·.2) := by
  unfold Tbl.erase
  rw [List.find?_filter]
  by_cases h : j = k
  · subst h
    rw [if_pos rfl, List.find?_eq_none.mpr (by simp)]
    rfl
  · rw [if_neg h]
    congr 2
    funext e
    by_cases he : e.1 = j
    · simp [he, h]
    · simp [he]

variable (d : Device)

theorem Device.copy_setCopy (p id : Nat) (c : Copy) (p' id' : Nat) :
    (d.setCopy p id c).copy? p' id' = if (p', id') = (p, id) then some c else d.copy? p' id' := by
  unfold Device.copy? Device.setCopy
  simp only
  rw [Tbl.find_ins Ix.lt (p, id) (p', id') c _ (Tbl.mem_erase_ne _ _), Tbl.find_erase]
  split <;> rfl

theorem Device.copy_dropCopy (p id p' id' : Nat) :
    (d.dropCopy p id).copy? p' id' = if (p', id') = (p, id) then none else d.copy? p' id' := by
  unfold Device.copy? Device.dropCopy
  exact Tbl.find_erase _ _ _

theorem Device.frame_setFrame (p id : Nat) (c : FrameRec) (p' id' : Nat) :
    (d.setFrame p id c).frame? p' id' = if (p', id') = (p, id) then some c else d.frame? p' id' := by
  unfold Device.frame? Device.setFrame
  simp only
  rw [Tbl.find_ins Ix.lt (p, id) (p', id') c _ (Tbl.mem_erase_ne _ _), Tbl.find_erase]
  split <;> rfl

/-- The copies are the same where the part is. -/
theorem Device.copy_congr {e : Device} (h : e.copies = d.copies) (p id : Nat) : e.copy? p id = d.copy? p id := by
  unfold Device.copy?; rw [h]

theorem Device.frame_congr {e : Device} (h : e.frames = d.frames) (p id : Nat) : e.frame? p id = d.frame? p id := by
  unfold Device.frame?; rw [h]

theorem Device.row_congr {e : Device} (h : e.rows = d.rows) (p r : Nat) : e.row p r = d.row p r := by
  unfold Device.row; rw [h]

theorem Device.flow_congr {e : Device} (h : e.flows = d.flows) (p : Nat) (id : FlowId) : e.flow? p id = d.flow? p id := by
  unfold Device.flow?; rw [h]

/-- Settling leaves the parts alone. -/
theorem Device.copy_settle (p id : Nat) : d.settle.copy? p id = d.copy? p id :=
  Device.copy_congr d (Device.frame_settle d (fun _ _ _ => False)).copies p id
theorem Device.row_settle (p r : Nat) : d.settle.row p r = d.row p r :=
  Device.row_congr d (Device.frame_settle d (fun _ _ _ => False)).rows p r
theorem Device.flow_settle (p : Nat) (id : FlowId) : d.settle.flow? p id = d.flow? p id :=
  Device.flow_congr d (Device.frame_settle d (fun _ _ _ => False)).flows p id

/-- A counter of 64 bits wraps, a narrower one stops at its highest value (spec/17 R386). -/
theorem Device.get_count_wide (o : Obj) (p i n : Nat) (h : o.width = 64) :
    (d.count o p i n).get o p i = (d.get o p i + n) % 2 ^ 64 := by
  unfold Device.count
  simp only [h, if_true]
  rw [Device.get_set_same, h]

theorem Device.get_count_narrow (o : Obj) (p i n : Nat) (h : o.width ≠ 64) :
    (d.count o p i n).get o p i = min (d.get o p i + n) (2 ^ o.width - 1) := by
  have hp : 0 < 2 ^ o.width := Nat.two_pow_pos _
  unfold Device.count
  simp only [h, if_false]
  split
  · rw [Device.get_set_same, Nat.mod_eq_of_lt (by assumption)]; omega
  · show ((d.set o p i (2 ^ o.width - 1)).get o p i) = _
    rw [Device.get_set_same, Nat.mod_eq_of_lt (by omega)]; omega

theorem Device.flow_setFlow (w : Flow) (p : Nat) (id : FlowId) (h : w.plane = p) (k : w.id = id) :
    (d.setFlow w).flow? p id = some w := by
  subst h; subst k
  unfold Device.setFlow Device.flow?
  split
  · rename_i hm
    simp only
    generalize d.flows = l at hm
    induction l with
    | nil => simp at hm
    | cons a r ih =>
      by_cases ha : (decide (a.plane = w.plane) && decide (a.id = w.id)) = true
      · rw [List.map_cons, if_pos ha, List.find?_cons_of_pos (by simp)]
      · simp only [List.any_cons, Bool.or_eq_true] at hm
        rw [List.map_cons, if_neg ha, List.find?_cons_of_neg (by exact ha)]
        exact ih (hm.resolve_left ha)
  · rename_i hm
    simp only
    rw [List.find?_append, List.find?_eq_none.mpr (by simpa using hm)]
    simp

/-! ### What a message of the fault manager leaves alone -/

theorem Obj.sels_regs (o : Obj) : o.sels.all (fun x => !x.computed && x != .cause && x != .causeUnit && x != .causeTime) = true := by
  cases o <;> rfl

theorem foldl_congr_mem {α β : Type} {f g : β → α → β} (l : List α) (z : β) (h : ∀ a ∈ l, ∀ b, f b a = g b a) :
    l.foldl f z = l.foldl g z := by
  induction l generalizing z with
  | nil => rfl
  | cons a t ih => rw [List.foldl_cons, List.foldl_cons, h a (by simp) z]; exact ih _ (fun b hb => h b (by simp [hb]))

theorem Device.place_congr {e : Device} (t : Target) (ses : Nat)
    (h : ∀ o p i, o.computed = false → o ≠ .cause → o ≠ .causeUnit → o ≠ .causeTime → e.get o p i = d.get o p i) :
    e.place t ses = d.place t ses := by
  unfold Device.place Device.sel
  split
  · rfl
  · split
    · simp only
      rw [h .grpSel _ _ rfl (by decide) (by decide) (by decide), h .grpMemberSel _ _ rfl (by decide) (by decide) (by decide)]
      split <;> rw [h _ _ _ rfl (by decide) (by decide) (by decide)]
    · apply foldl_congr_mem
      intro o ho i
      have := List.all_eq_true.mp (Obj.sels_regs t.obj) o ho
      simp only [Bool.and_eq_true, Bool.not_eq_true', bne_iff_ne, ne_eq] at this
      simp only
      rw [h o _ _ this.1.1.1 this.1.1.2 this.1.2 this.2]

theorem Device.place_fmMessage (t : Target) (n ses : Nat) : (d.fmMessage n).place t ses = d.place t ses :=
  Device.place_congr d t ses (fun o p i hc h1 h2 h3 => Device.get_fmMessage_obj d n o p i hc h1 h2 h3)

theorem Device.sel_fmMessage (o : Obj) (p inst n ses : Nat) (hc : o.computed = false) (h1 : o ≠ .cause) (h2 : o ≠ .causeUnit)
    (h3 : o ≠ .causeTime) : (d.fmMessage n).sel o p inst ses = d.sel o p inst ses := by
  unfold Device.sel
  exact Device.get_fmMessage_obj d n o _ _ hc h1 h2 h3

end Sys2Proof.Machine
end

