-- ==== Sys2Proof/Tests/Slice0.lean ====
section
/-! SUPPORT. The author's own tests: ill-formed commands that the check refuses, and states that meet the hypotheses of the
statements. -/

namespace Sys2Proof.Tests

open Sys2Proof.Machine

set_option Elab.async false

/-- The hub answers and the four planes run. -/
def up : Device :=
  { hub := { awaitBoot := false, running := true }
    planes := [((0, 0), { cond := .running }), ((1, 0), { cond := .running }), ((2, 0), { cond := .running }), ((3, 0), { cond := .running })] }

/-- A request of the mailbox. -/
def rq : Req := ⟨0, 7#32⟩

/-- The state of a device with no command waiting. -/
def at_ (d : Device) : State := { dev := d, pending := [] }

/-- A frame of the given fields, its LENGTH and payload as said. -/
def fr (m : Mk) (len : Nat) (b : Bytes) : Frame := { (m.frame []).setFld 128 16 len with payload := b }

/-! ### Ill-formed commands, one for each check -/

theorem smoke_frame_too_long : Instr.wf (.train 0 0 ⟨0, List.replicate 8192 0, 0⟩) = false := by
  simp only [Instr.wf, Frame.fits, List.length_replicate]; decide
theorem smoke_length_mismatch : Instr.wf (.launch 0 ⟨0, [1], 0⟩) = false := by decide
theorem smoke_payload_over_4096 : Instr.wf (.ckptData 0 ⟨BitVec.ofNat 256 (4097 * 2 ^ 128), List.replicate 4097 0, 0⟩) = false := by
  simp only [Instr.wf, Frame.wellSized, List.length_replicate]; decide
theorem smoke_accumulator_element : Instr.wf (.accumulatorError 0 0 196608) = false := by decide
theorem smoke_carrier_area : Instr.wf (.carrierFrameRx 0 0 ⟨0, 0, 0, 0, [], 0⟩) = false := by decide
theorem smoke_repeated_ring_fit (x : RingFit) : Instr.wf (.calRoundComplete 0 0 [x, x]) = false := by simp [Instr.wf, noRepeats]
theorem smoke_heaters : Instr.wf (.heaterStepCheck 0 0 0 []) = false := by decide
theorem smoke_tones : Instr.wf (.laserPresent 0 0 0 [] 0) = false ∧ Instr.wf (.resweepComplete 0 0 0 true []) = false := by decide
theorem smoke_repeated_verdict : Instr.wf (.toneVerdict 0 0 [(1, 2), (1, 3)]) = false := by decide
theorem smoke_ptp_origin (m : PtpMsg) : Instr.wf (.sync 0 0 { m with origin := 2 ^ 48 * 1000000000 }) = false := by
  simp [Instr.wf, PtpMsg.wf]
theorem smoke_ptp_correction (m : PtpMsg) : Instr.wf (.pdelayResp 0 0 { m with correction := 2 ^ 63 }) = false := by
  simp [Instr.wf, PtpMsg.wf]
theorem smoke_mailbox_idle : Instr.wf (.sessionIdleTimeout 0) = false := by decide
theorem smoke_write_too_long : Instr.wf (.write rq 0x1000 1 (List.replicate 1025 0)) = false := by
  simp only [Instr.wf, List.length_replicate]; decide
theorem smoke_segment_too_long : Instr.wf (.domainWriteSeg rq 0x1000 1 0 (List.replicate 1017 0)) = false := by
  simp only [Instr.wf, List.length_replicate]; decide
theorem smoke_mailbox_message_short : Instr.wf (.mbDoorbell 1 []) = false := by decide
theorem smoke_mailbox_message_long : Instr.wf (.mbDoorbell 1 (List.replicate 1041 0)) = false := by
  simp only [Instr.wf, List.length_replicate]; decide
theorem smoke_host_window : Instr.wf (.hostWindowWrite 0xFFFF [1, 2]) = false := by decide
theorem smoke_rails : Instr.wf (.pmbusPoll []) = false := by decide
theorem smoke_full_test_twice : Instr.wf (.fullBist [0x1000, 0x1000] rq) = false := by decide
theorem smoke_monitor_twice : Instr.wf (.ageingMeasure 0 [(0x1000, 1), (0x1000, 2)]) = false := by decide
theorem smoke_wellformed : Instr.wf (.write rq 0x1000 1 [1, 2]) = true ∧ Instr.wf (.planeInit 0 ⟨true, 0, 0, 0⟩) = true := by decide
/-! ### The switch core -/

/-- A frame without content. -/
def f0 : Frame := ⟨0, [], 0⟩

/-- A held frame of long-haul input 0 for its own output. -/
def wHeld : WaitIn := { plane := 0, input := 128, frame := f0, outs := [128] }

theorem wit_held : up.carries 0 = true ∧
    ({ up with waitIn := [wHeld] } : Device).waitIn.find? (fun x => x.plane = 0 && x.input = (Attach.internal (.longHaul 0)).sw) = some wHeld ∧
    up.reserveKept 0 (group 128) f0.cells = true ∧ columnsOf wHeld.outs = [16] ∧ (∀ o ∈ wHeld.outs, 128 ≤ o) ∧
    up.kiteFor 0 16 16 = some 16 ∧ f0.cells ≤ up.kiteFree 0 16 16 ∧ f0.ecn = 0 := by decide

/-- The same in a row whose kites are full. -/
def dFull : Device :=
  { up with waitIn := [wHeld]
            copies := (List.range 20).map (fun k => ((0, k), { plane := 0, fid := k, row := 16, col := k, stage := .queued, place := [(k, 2048)], wait := [128], sentTo := [], due := [], seq := k, at_ := 0, moved := false, charged := false })) }

theorem wit_held_full : dFull.reserveKept 0 16 f0.cells = false := by decide

/-- A parked or deferred copy of a frame in row 0 toward column 1. -/
def dWait (st : Stage) (charged : Bool) : Device :=
  { up with frames := [((0, 5), { plane := 0, input := 0, frame := f0, cls := 0, tenant := 3, cells := 2, charged := charged, credit := none })]
            copies := [((0, 6), { plane := 0, fid := 5, row := 0, col := 1, stage := st, place := [], wait := [130], sentTo := [], due := [], seq := 1, at_ := 0, moved := false, charged := charged })] }

theorem wit_move : ∀ st ∈ [Stage.parked, .deferred], ∀ b : Bool,
    (dWait st b).carries 0 = true ∧ ((dWait st b).moveItems 0 0 1).map (·.1) = [6] ∧ ((dWait st b).frame? 0 5).isSome = true ∧
    (dWait st b).kiteFor 0 0 1 = some 1 ∧ 2 ≤ (dWait st b).kiteFree 0 0 1 ∧ (dWait st b).reserveKept 0 0 2 = true ∧
    ((dWait st b).row 0 0).forced = false := by decide

theorem wit_move_quota : ((dWait .deferred true).set .tnCellQuota 0 3 1).quotaFits 0 3 2 = false := by decide

/-- A copy at its release point for output 4, with output 5 left or not. -/
def dDue (w : List Nat) : Device :=
  { up with copies := [((0, 6), { plane := 0, fid := 5, row := 0, col := 1, stage := .queued, place := [(1, 2)], wait := w, sentTo := [], due := [4], seq := 1, at_ := 0, moved := false, charged := false })] }

theorem wit_release : ∀ w ∈ [[], [5]], ((dDue w).copy? 0 6).isSome = true ∧
    (((dDue w).copy? 0 6).any (fun c => c.due.contains (Sink.attach (.fabric 4)).sw)) = true := by decide

/-- The hub's plane-0 kite selector names K(2,3), whose spare is idle, or stands in and is connected. -/
def dSwap (busy : Bool) : Device :=
  let d := (up.set .kiteSel 0 0 (kiteUnit 2 3)).setKiteState 0 2 20 2
  if busy then d.setRow 0 2 { col := some 3, connected := true } else d

theorem wit_swaps :
    (dSwap false).sel .kiteSel 0 0 rq.ses.val = kiteUnit 2 3 ∧
    (dSwap false).admitsNow rq ⟨⟨.swapCmd, 0, 0⟩, 1, 1⟩ = true ∧ ((dSwap false).fmMessage 0).handOverOk 0 2 3 = true ∧
    ((dSwap true).fmMessage 0).handOverOk 0 2 3 = false ∧ (dSwap true).admitsNow rq ⟨⟨.swapCmd, 0, 0⟩, 1, 1⟩ = true ∧
    (dSwap true).admitsNow rq ⟨⟨.swapCmd, 0, 0⟩, 1, 2⟩ = true ∧ ((dSwap true).fmMessage 0).returnOk 0 2 3 = true ∧
    ((dSwap false).fmMessage 0).returnOk 0 2 3 = false := by decide

/-- Row 2 in a forced swap of column 3, a hand-over (true) or a return (false). -/
def dRow (forced : Bool) (dr : Option Bool) : Device :=
  (up.set .swapCmd 0 (kiteUnit 2 3) 1).setRow 0 2 { col := some 3, connected := true, forced := forced, draining := dr }

theorem wit_drain : (dRow true none).live 0 = true ∧ ((dRow true none).row 0 2).forced = true ∧
    ((dRow false (some true)).row 0 2).draining = some true ∧ (dRow false (some true)).occupancy 0 2 3 = 0 ∧
    ((dRow false (some false)).row 0 2).draining = some false ∧ (dRow false (some false)).occupancy 0 2 20 = 0 := by decide

theorem wit_kites : (up.setKiteState 0 2 20 2).live 0 = true ∧ ((up.setKiteState 0 2 20 2).bist 0).unit = none ∧
    (up.setKiteState 0 2 20 2).kiteState 0 2 3 = 0 ∧ (up.setKiteState 0 2 20 2).spareReady 0 2 3 = true ∧
    (up.setKiteState 0 2 20 1).spareReady 0 2 3 = false ∧ ((up.setKiteState 0 2 20 2).row 0 2).forced = false := by decide

theorem wit_spray : up.admits rq ⟨⟨.sprayMembers, 0, 0⟩, 32, 2 ^ 256 - 1⟩ = true ∧ sprayOk (2 ^ 256 - 1) = true ∧
    up.journals 0 [(⟨.sprayMembers, 0, up.place ⟨.sprayMembers, 0, 0⟩ 0⟩, 2 ^ 256 - 1)] = true ∧
    up.admits rq ⟨⟨.sprayMembers, 0, 0⟩, 32, 0⟩ = true ∧ sprayOk 0 = false := by decide +kernel

/-- A flow of plane 0 that holds the given frames. -/
def dFlow (l : List Held) : Device := { up with flows := [{ plane := 0, id := ⟨1, 2, 3, 4, 5, 6⟩, expected := 9, held := l, lastRx := 0 }] }

theorem wit_flow : (dFlow [⟨12, 0, f0, 0, 0⟩]).live 0 = true ∧ ((dFlow [⟨12, 0, f0, 0, 0⟩]).flow? 0 ⟨1, 2, 3, 4, 5, 6⟩).isSome = true ∧
    ((dFlow []).flow? 0 ⟨1, 2, 3, 4, 5, 6⟩).isSome = true := by decide
/-! ### Scheduling, gate lists and bypass circuits -/

/-- One queued copy of a class 2 frame of tenant 3 toward the given switch ports. -/
def dCopy (w : List Nat) : Device :=
  { up with frames := [((0, 5), { plane := 0, input := 0, frame := f0, cls := 2, tenant := 3, cells := 2, charged := false, credit := none })]
            copies := [((0, 6), { plane := 0, fid := 5, row := 0, col := 1, stage := .queued, place := [], wait := w, sentTo := [], due := [], seq := 1, at_ := 0, moved := false, charged := false })] }

theorem wit_engine : ∀ a ∈ [Internal.hubPath, .matrix], (dCopy [(Attach.internal a).sw]).carries 0 = true ∧
    ((dCopy [(Attach.internal a).sw]).headsAt 0 (Attach.internal a).sw).map (·.1) = [6] ∧
    ((dCopy [(Attach.internal a).sw]).copy? 0 6).isSome = true ∧ (∀ l, a ≠ .longHaul l) := by decide +kernel

theorem wit_reducer_turn : ((dCopy [203]).headsAt 0 203).map (fun x => (x.1, (dCopy [203]).clearsFor 0 x.2.2)) = [(6, false)] ∧
    (dCopy [204]).headsAt 0 203 = [] := by decide +kernel

/-- Fabric port 3 in UP. -/
def dUp (q : PortSt) : Device := (up.set .portState 0 3 4).setPort 0 3 q

theorem wit_resend : let q : PortSt := { resend := [9], limTx := [0, 0, 8], unacked := [⟨9, 1, 2, 2, 1, f0⟩] }
    (dUp q).sendsWindow 0 3 = false ∧ (dUp q).get .portState 0 3 = 4 ∧
    ((dUp q).port 0 3).unacked.find? (fun x => x.seq = 9) = some ⟨9, 1, 2, 2, 1, f0⟩ ∧ 2 ≤ ((dUp q).port 0 3).creditLeft 2 ∧
    f0.opcode ≠ opPtp ∧ ((dUp {}).setOutp 0 3 { holdUntil := 1 }).clock < (((dUp {}).setOutp 0 3 { holdUntil := 1 }).outp 0 3).holdUntil := by decide

/-- A list of two entries of 1,000 ns. -/
def pg : GatePage := { cycle := 2000, entries := [0xFF000000000003E8, 0x01000000000003E8] }

theorem wit_gates : ((up.setOutp 0 3 { page := pg, enableNext := some true }).outp 0 3).pend = none ∧
    (pg.at_ (up.tbNow 0 0)).1 = 0 ∧ (up.set .gclCurrent 0 3 1).get .gclCurrent 0 3 ≠ 0 ∧
    (pg.at_ (({ up with clock := 1500 } : Device).tbNow 0 0)).1 = 1 ∧
    up.admits rq ⟨⟨.gclEnable, 0, 0⟩, 1, 1⟩ = true ∧ up.journals 0 [(⟨.gclEnable, 0, up.place ⟨.gclEnable, 0, 0⟩ 0⟩, 1)] = true ∧
    ((up.setOutp 0 3 { pend := some ⟨pg, 5, 9⟩ }).outp 0 3).pend = some ⟨pg, 5, 9⟩ := by decide +kernel

/-- A standby list of one entry on output 0, or one whose cycle does not fit. -/
def dList (cycle : Nat) : Device :=
  (((up.set .gclLength 0 0 1).set .gclCycleNs 0 0 cycle).set .gclEntry 0 0 0xFF000000000003E8).set .gclChangeTime 0 0 0

theorem wit_gcl : (dList 1000).admitsNow rq ⟨⟨.gclCommitCmd, 0, 0⟩, 1, 1⟩ = true ∧ (dList 1000).place ⟨.gclCommitCmd, 0, 0⟩ 0 = 0 ∧
    ((dList 1000).fmMessage 0).commitOuts 0 0 = [0] ∧
    (((dList 1000).fmMessage 0).standbyPage 0 0).ok = true ∧ (((dList 2000).fmMessage 0).standbyPage 0 0).ok = false ∧
    ((dList 1000).outp 0 0).pend.isNone = true ∧ ((dList 1000).fmMessage 0).bypEntriesOk 0 0 = true ∧
    (dList 1000).journals 0 [(⟨.gclCommitCmd, 0, 0⟩, (((dList 1000).fmMessage 0).standbyPage 0 0).value)] = true ∧
    (({ dList 1000 with clock := 5000 } : Device).fmMessage 0).changeOf 0 0 = (6000, 6000, true) := by decide +kernel

/-- The same copy at an output with link credit. -/
def dFit : Device := (dCopy [4]).setPort 0 4 { limTx := [0, 0, 8] }

theorem wit_promo : dFit.live 0 = true ∧ octet 8 8 (dFit.get .classRank 0 0) 2 ≠ 7 ∧
    ((dFit.refresh 0 4).outp 0 4).promoted.contains (2, 3) = false ∧
    (backlog ((dFit.refresh 0 4).heads 0 4) 2).contains 3 = true ∧
    (dFit.refresh 0 4).eligible 0 4 2 3 ((dFit.refresh 0 4).heads 0 4) = true := by decide +kernel

/-- A frame of telemetry at output 4. -/
def dTele : Device :=
  (((up.set .portState 0 4 4).setPort 0 4 { limTx := [0, 0, 0, 0, 0, 0, 0, 8] }).set .classRank 0 0 0x0706050403020100).telemetry 0 4
    (fr { opcode := opData, cls := 7 } 0 [])

theorem wit_telemetry : dTele.live 0 = true ∧ octet 8 8 (dTele.get .classRank 0 0) 7 ≠ 7 ∧
    ((dTele.refresh 0 4).outp 0 4).promoted.contains (7, sysReq) = false ∧
    (backlog ((dTele.refresh 0 4).heads 0 4) 7).contains sysReq = true ∧
    (dTele.refresh 0 4).eligible 0 4 7 sysReq ((dTele.refresh 0 4).heads 0 4) = true := by decide +kernel

theorem wit_background : (∀ h : List Nat, h = [1000] → (up.setOutp 0 4 { calHold := h, bistHold := h }).live 0 = true ∧
      ((up.setOutp 0 4 { calHold := h, bistHold := h }).outp 0 4).bgPromoted = []) ∧
    up.live 0 = true ∧ (up.outp 0 4).sampleDue = false ∧
    (((dCopy [4]).setOutp 0 4 { sampleDue := true }).outp 0 4).sampleDue = true ∧ (3 : Nat) ≠ sysReq ∧
    ((dCopy [4]).copies.map (fun e => e.2.wait.contains (swOfLine 4))) = [true] := by
  refine ⟨?_, by decide +kernel⟩
  rintro h rfl; decide +kernel

/-- `byp_a` 3 and `byp_b` 5 on C1 of plane 0; the peers relock; an installed circuit of a kind, or none. -/
def dByp (kind : Nat) (on : Bool) : Device :=
  let d := (((up.set .bypA 0 1 3).set .bypB 0 1 5).set .bypKind 0 1 kind).setPort 0 35 { peerCaps := 2 }
  let d := d.setPort 0 37 { peerCaps := 2 }
  if on then (d.setBypByte 0 35 (128 + 64 * kind + 5)).setBypByte 0 37 (128 + 64 * kind + 3) else d

theorem wit_bypass : (∀ k ∈ [0, 1], (dByp k false).admits rq ⟨⟨.bypCmd, 0, 1⟩, 1, 1⟩ = true ∧
      ((dByp k false).fmMessage 0).bypInstallOk 0 3 5 k 1 = true) ∧
    (dByp 0 true).admits rq ⟨⟨.bypCmd, 0, 1⟩, 1, 1⟩ = true ∧ ((dByp 0 true).fmMessage 0).bypInstallOk 0 3 5 0 1 = false ∧
    (dByp 0 true).admits rq ⟨⟨.bypCmd, 0, 1⟩, 1, 2⟩ = true ∧ (dByp 0 true).bypPartner 0 35 = some 37 ∧
    ((dByp 0 true).fmMessage 0).listsByp 0 35 = false ∧ ((dByp 0 true).fmMessage 0).listsByp 0 37 = false ∧
    (dByp 0 false).bypPartner 0 35 = none := by decide +kernel

/-- Port 35 runs a bypass entry, its state and that of 37 as said. -/
def dWin (circuit : Bool) (q : PortSt) : Device :=
  let d := ((dByp 1 circuit).set .portState 0 35 (if q.window then 5 else 4)).set .portState 0 37 (if q.window then 5 else 4)
  let d := (d.setOutp 0 35 { enabled := true, page := { entries := [0xFF400000000003E8] } }).setPort 0 35 q
  (d.setPort 0 37 q).set .bypWinPeer 0 (bypIx 35) (if circuit then 0xFFFFFFFF else 77)

theorem wit_window : let q : PortSt := { peerCaps := 2 }
    (∀ b : Bool, (dWin b q).carries 0 = true ∧ ((dWin b q).outp 0 35).enabled = true ∧ ((dWin b q).outp 0 35).bypClosed = false ∧
      entryByp ((dWin b q).gateIn 0 35 0).1 = true ∧
      ((dWin b q).get .portState 0 35 = 4 ∧ (dWin b q).peerRelocks 0 35 = true)) ∧
    (dWin true q).bypPartner 0 35 = some 37 ∧ (dWin true q).bypWindowed 0 35 = true ∧
    ((dWin true q).get .portState 0 37 = 4 ∧ (dWin true q).peerRelocks 0 37 = true) ∧
    (dWin false q).bypPartner 0 35 = none ∧ (dWin false q).isEndpoint 0 35 = true := by decide +kernel

theorem wit_window_end : let q : PortSt := { peerCaps := 2, window := true }
    (∀ b : Bool, ((dWin b q).port 0 35).window = true ∧ ((dWin b q).port 0 35).holdDown = 0 ∧ ((dWin b q).port 0 37).window = true ∧
      ((dWin b q).port 0 37).holdDown = 0) ∧
    (dWin true q).bypPartner 0 35 = some 37 ∧ (dWin false q).bypPartner 0 35 = none ∧ (dWin false q).sendsWindow 0 35 = true := by
  decide +kernel

/-- A class 2 frame of tenant 3 to plane 0 without payload. -/
def fData : Frame := ({ opcode := opData, cls := 2, tenant := 3 } : Mk).frame []

theorem wit_window_frame : let d := ((dWin false { window := true }).set .tenantBind 0 (35 * 256) 3).set .tnState 0 3 1
    (f0.crcOk = false ∨ f0.formOk = false) ∧ (fData.crcOk && decide (d.verdict 0 fData (d.boundTo 0 35 fData) = .pass) &&
      !d.outOfPart 0 35 fData && decide (fData.trailerCheck = .good)) = true ∧
    (d.set .bypWinCells 0 (bypIx 35) 0).get .bypWinCells 0 (bypIx 35) < (d.port 0 35).winRx + fData.cells ∧
    ¬ ((d.set .bypWinCells 0 (bypIx 35) 9).get .bypWinCells 0 (bypIx 35) < (d.port 0 35).winRx + fData.cells) := by decide +kernel
/-! ### Pools, the CXL port and the checkpoint store -/

theorem wit_pool : up.live 0 = true ∧ (up.pool 0 1).cache < 1024 ∧ (up.plane 0).scrub ≠ some 1 ∧
    up.admitsNow rq ⟨⟨.poolScrubCmd, 0, 0⟩, 1, 1⟩ = true ∧ (up.plane 0).scrub = none ∧
    (up.setPlane 0 { cond := .running, scrub := some 1 }).admitsNow rq ⟨⟨.poolScrubCmd, 0, 0⟩, 1, 1⟩ = true ∧
    ((up.setPlane 0 { cond := .running, scrub := some 1 }).plane 0).scrub = some 1 := by decide

theorem wit_cxl : up.admits rq ⟨⟨.cxlResetCmd, 0, 0⟩, 1, 1⟩ = true ∧ (4#4 ≠ 0 ∧ ¬ (4#4 = 3 ∧ 3#4 = 3 ∧ (5#16).toNat ≤ 512)) := by decide

/-- Region 5 of tenant 3 on plane 0: its state, descriptor bits besides the tenant, and what it holds. -/
def dRgn (st bits : Nat) (r : RgnSt) : Device :=
  ((((((((up.set .tnState 0 3 1).set .quotaBuffers 0 (quotaIdx 4 3) 10).setPool 0 4 { laidOut := true, ring := 100 }).set .poolBuffers 0 4 100).set
    .rgnState 0 5 st).set .rgnDesc 0 5 (3 * 2 ^ 52 + bits)).set .rgnPages 0 5 2).set .rgnT1Limit 0 5 10).setRgn 0 5 r

/-- A page or record frame of tenant 3 for region 5. -/
def fCk (len off : Nat) (b : Bytes) : Frame := fr { opcode := opCkptWrite, cls := 1, tenant := 3, context := 5, flowSeq := 1, offset := off } len b

theorem wit_page : (dRgn 1 0 {}).live 0 = true ∧
    ((dRgn 1 0 {}).takeCkpt 0 (fCk 4096 1 [])).ckptRegion 0 (fCk 4096 1 []) = some 5 ∧
    (((dRgn 1 0 {}).takeCkpt 0 (fCk 4096 1 [])).ckptFail 0 5 (fCk 4096 1 [])).isNone = true ∧ (fCk 4096 1 []).length ≠ 32 ∧
    (dRgn 1 0 {}).rgnReplica 0 5 = false ∧ (dRgn 1 0 {}).rgnDelta 0 5 = false ∧
    ((dRgn 1 0 {}).rgn 0 5).bufs.length < (dRgn 1 0 {}).get .rgnT1Limit 0 5 ∧
    ((dRgn 1 0 {}).alloc 0 ckptPool ((dRgn 1 0 {}).rgnReq 0 5)).2.isSome = true ∧
    (up.takeCkpt 0 (fCk 4096 1 [])).ckptRegion 0 (fCk 4096 1 []) = none ∧
    (fCk 4096 1 []).tenant ≠ ((dRgn 1 0 {}).set .rgnDesc 0 5 0).rgnTenant 0 5 := by decide +kernel

theorem wit_delta : let d := dRgn 1 (2 ^ 49) { cur := [⟨1, 7, pageCrc [], []⟩] }
    (d.takeCkpt 0 (fCk 4096 1 [])).ckptRegion 0 (fCk 4096 1 []) = some 5 ∧
    ((d.takeCkpt 0 (fCk 4096 1 [])).ckptFail 0 5 (fCk 4096 1 [])).isNone = true ∧ d.rgnReplica 0 5 = false ∧
    d.rgnDelta 0 5 = true ∧ pageOf (d.rgn 0 5).cur 1 = some ⟨1, 7, pageCrc [], []⟩ := by decide +kernel

/-- A read of one page from page 1 on. -/
def fRd : Frame := fr { opcode := opCkptRead, cls := 1, tenant := 3, srcPort := 9, context := 5, offset := 1 } 16 [0, 0, 0, 0, 0, 1, 0, 0, 0, 0, 0, 0, 0, 0, 0, 0]

theorem wit_ckptRead : let d := ((dRgn 1 0 { cur := [⟨1, 7, 0, [1, 2]⟩] }).set .rgnVersion 0 5 1).set .portState 0 9 4
    (d.takeCkpt 0 fRd).ckptRegion 0 fRd = some 5 ∧ fRd.tenant = d.rgnTenant 0 5 ∧ fRd.length = 16 ∧ fRd.flowSeq = 0 ∧
    beNat fRd.payload 4 2 = 1 ∧ fRd.offset + 1 ≤ d.get .rgnPages 0 5 ∧ beNat fRd.payload 6 10 = 0 ∧ beNat fRd.payload 0 4 = 0 ∧
    d.get .rgnVersion 0 5 ≠ 0 ∧ (d.rgn 0 5).cur ≠ [] ∧ fRd.srcDevice = d.devId 0 ∧ fRd.srcPort < 128 ∧
    d.outShut 0 9 = false := by decide +kernel

theorem wit_read_missing : let d := (dRgn 1 0 { cur := [⟨0, 7, 0, [1, 2]⟩] }).set .rgnVersion 0 5 1
    pageOf (d.rgn 0 5).cur 1 = none ∧ (d.rgn 0 5).cur ≠ [] := by decide +kernel

/-- The same device, the mailbox's `rgn_sel` at region 5. -/
def dSel (st : Nat) (r : RgnSt) : Device := ((dRgn st 0 r).set .rgnSel 0 0 5).set .tnSyncRange 0 3 (16 : Nat)

theorem wit_rgn_cmds :
    (dSel 0 {}).admitsNow rq ⟨⟨.rgnCmd, 0, 0⟩, 1, 1⟩ = true ∧ (dSel 0 {}).place ⟨.rgnCmd, 0, 0⟩ 0 = 5 ∧
    ((dSel 0 {}).fmMessage 0).rgnLoadOk 0 5 = true ∧ (dSel 0 {}).journals 0 [(⟨.rgnState, 0, 5⟩, 1)] = true ∧
    (dSel 1 {}).admitsNow rq ⟨⟨.rgnCmd, 0, 0⟩, 1, 1⟩ = true ∧ ((dSel 1 {}).fmMessage 0).rgnLoadOk 0 5 = false ∧
    (dSel 1 {}).admitsNow rq ⟨⟨.rgnCmd, 0, 0⟩, 1, 2⟩ = true ∧ (dSel 1 {}).get .rgnState 0 5 = 1 ∧
    ((dSel 1 {}).fmMessage 0).rgnReplica 0 5 = false ∧
    ((((((dSel 1 {}).set .rgnBoundaryKind 0 5 1).set .rgnBoundaryValue 0 5 9).fmMessage 0).set .rgnState 0 5 2).set .rgnCmd 0 5 1).rgnPast 0 5 = false ∧
    (dSel 1 {}).admitsNow rq ⟨⟨.rgnCmd, 0, 0⟩, 1, 3⟩ = true ∧ (dSel 1 {}).admitsNow rq ⟨⟨.rgnCmd, 0, 0⟩, 1, 4⟩ = true ∧
    (dSel 1 {}).journals 0 [(⟨.rgnState, 0, 5⟩, 0)] = true := by decide +kernel

/-- A region in PENDING whose in-progress version holds both pages, or one. -/
def dPend (l : List Page) : Device := dRgn 2 0 { prog := l }

theorem wit_commit : (dPend [⟨0, 1, 2, []⟩, ⟨1, 2, 2, []⟩]).live 0 = true ∧ (dPend []).get .rgnState 0 5 = 2 ∧ (dPend []).get .rgnBoundaryKind 0 5 = 0 ∧
    (!(List.range ((dPend []).get .rgnPages 0 5)).any (fun n => (pageOf [⟨0, 1, 2, []⟩, ⟨1, 2, 2, []⟩] n).isNone)) = true ∧
    ((dPend [⟨0, 1, 2, []⟩, ⟨1, 2, 2, []⟩]).rgn 0 5).incomplete = false ∧ (dPend []).rgnDelta 0 5 = false ∧
    ((dRgn 1 0 { drain := some 1 }).rgn 0 5).drain = some 1 := by decide +kernel

/-- A REPL_COMMIT record of full version 1 with two pages, and a REPL_ACK 0x00 of version 1. -/
def recC : Bytes := recordBytesOf 1 0 1 0xFFFFFFFF 2
def recA : Bytes := recordBytesOf 2 0 1 0 0
/-- The frames that carry them; the engine of a device is port 0xFE. -/
def fRc : Frame := fr { opcode := opCkptWrite, cls := 1, tenant := 3, srcPort := 0xFE, context := 5, flowSeq := 1 } 32 recC
def fRa : Frame := fr { opcode := opCkptData, cls := 1, tenant := 3, srcPort := 0xFE, context := 5, flowSeq := 1 } 32 recA

theorem wit_repl_commit : let d := dRgn 1 (2 ^ 50) { recv := 2, seen := [0, 1] }
    (d.takeCkpt 0 fRc).ckptRegion 0 fRc = some 5 ∧ ((d.takeCkpt 0 fRc).ckptFail 0 5 fRc).isNone = true ∧ fRc.length = 32 ∧
    d.ckptAhead 0 5 fRc = 0 ∧ (d.rgn 0 5).incomplete = false ∧ fld (bytesToNat fRc.payload) 208 32 = (d.rgn 0 5).next ∧
    fld (bytesToNat fRc.payload) 144 32 = (d.rgn 0 5).recv ∧ fld (bytesToNat fRc.payload) 176 32 = 0xFFFFFFFF ∧
    (List.range (d.get .rgnPages 0 5)).all (fun k => (d.rgn 0 5).seen.contains k) = true := by decide +kernel

theorem wit_repl_ack : let d := (dRgn 1 (2 ^ 48) { repl := { outst := some 1 } }).set .rgnVersion 0 5 1
    (d.takeIn 0 ckptSw fRa).ckptRegion 0 fRa = some 5 ∧ recordOk fRa 2 = true ∧ fld (bytesToNat fRa.payload) 240 8 = 0 ∧
    fld (bytesToNat fRa.payload) 208 32 = 1 ∧ d.peerOn 0 5 false = true ∧ (d.rgn 0 5).repl.outst = some 1 ∧
    fRa.srcDevice = d.get .rgnPeerDevice 0 5 ∧ fRa.tenant = d.rgnTenant 0 5 ∧ d.get .rgnVersion 0 5 = 1 := by decide +kernel

theorem wit_repl_timeout : let d := dRgn 1 (2 ^ 48) { repl := { outst := some 1, fails := 1 } }
    ((d.rgn 0 5).peer false).outst.isSome = true ∧ ((d.set .replRetryMax 0 0 2).get .replRetryMax 0 0 ≤ ((d.rgn 0 5).peer false).fails + 1) ∧
    ((d.rgn 0 5).peer false).fails + 1 < (d.set .replRetryMax 0 0 3).get .replRetryMax 0 0 := by decide +kernel

/-! ### Planes, hub, fences and fabric ports -/

theorem wit_liveness : up.hubUp = true ∧ up.snap.armed = false ∧ up.hub.running = true := by decide

theorem wit_fence : (∀ b : Bool, ∀ v ∈ [1, 2], (up.setPlane 1 { cond := .running, fenceBusy := b }).admitsNow rq ⟨⟨.fenceCmd, 1, 0⟩, 1, v⟩ = true ∧
    ((up.setPlane 1 { cond := .running, fenceBusy := b }).plane 1).fenceBusy = b) := by decide +kernel

/-- Fabric port 3 of plane 0 in the given state, the plane in its training stage. -/
def dTr (st : Nat) (q : PortSt) : Device := ((up.set .bringupStage 4 0 0x04040404).set .portState 0 3 st).setPort 0 3 q

theorem wit_training : ∀ st ∈ [0, 1, 3], (dTr st {}).live 0 = true ∧ (dTr st {}).canTrain 0 3 = true ∧ (dTr st {}).get .portState 0 3 = st ∧
    15 ≤ ((dTr st { failed := 15 }).port 0 3).failed := by decide +kernel

/-- A training frame of the peer: TRAIN 1, TRAIN_DONE 2. -/
def fTrain (msg : Nat) : Frame := Mk.frame { opcode := opCtrl, cls := 5, hops := 1 } (up.trainPayload 0 3 msg)

theorem wit_exchange : (∀ q ∈ [({} : PortSt), { doneRcvd := true, agree := 3 }, { doneSent := true }], (dTr 3 q).live 0 = true ∧
      (dTr 3 q).get .portState 0 3 = 3 ∧ (dTr 3 q).port 0 3 = q) ∧
    (∀ m ∈ [1, 2], (up.linkChecks 0 3 (fTrain m) 32 true).2 = true ∧ fld (bytesToNat (fTrain m).payload) 234 2 = 0 ∧
      fld (bytesToNat (fTrain m).payload) 248 8 = m ∧
      (bitsOf 4 (fld (bytesToNat (fTrain m).payload) 220 4 &&& (dTr 3 {}).lanes 0 3)).length = 4) := by decide +kernel

/-- A link frame without payload, or with a CREDIT payload. -/
def fLink (op seq : Nat) (b : Bytes) : Frame := Mk.frame { opcode := op, cls := 5, hops := 1, linkSeq := seq } b

/-- Port 3 in UP with frames 9 and 10 unacknowledged, sent as often as said. -/
def dAck (tries : Nat) : Device :=
  (dCopy [3]).set .portState 0 3 4 |>.setPort 0 3 { unacked := [⟨9, 6, 2, 2, 1, f0⟩, ⟨10, 6, 2, 2, tries, f0⟩] }

theorem wit_credit : (dAck 1).live 0 = true ∧ (dAck 1).get .portState 0 3 = 4 ∧
    ((dAck 1).linkChecks 0 3 (fLink opCredit 9 (List.replicate 16 0)) 16 false).2 = true ∧ ((dAck 1).port 0 3).outstanding 9 = some 0 ∧
    ((dAck 1).port 0 3).unacked ≠ [] ∧ ((dAck 1).linkChecks 0 3 (fLink opRetryNak 8 []) 0 false).2 = true ∧
    ((dAck 1).port 0 3).outstanding 8 = none ∧ ((dAck 1).linkChecks 0 3 (fLink opRetryNak 10 []) 0 false).2 = true ∧
    ((dAck 1).port 0 3).outstanding 10 = some 1 ∧
    (∀ u ∈ ((dAck 1).port 0 3).unacked, ((dAck 1).copy? 0 u.copy).isSome ∧ u.tries < 8) := by decide +kernel

theorem wit_exhausted : (∀ u ∈ ((dAck 8).port 0 3).unacked, ((dAck 8).copy? 0 u.copy).isSome) ∧
    (∃ u ∈ ((dAck 8).port 0 3).unacked, 8 ≤ u.tries) ∧ ((dAck 8).port 0 3).fenced = false := by decide +kernel

theorem wit_portMgmt : up.admits rq ⟨⟨.portAdmin, 0, 3⟩, 1, (0 : Byte).toNat⟩ = true ∧ up.journals 0 [(⟨.portAdmin, 0, 3⟩, (0 : Byte).toNat)] = true ∧
    (dTr 0 {}).admits rq ⟨⟨.trainCmd, 0, 3⟩, 1, 1⟩ = true ∧ (dTr 0 {}).canTrain 0 3 = true ∧ (dTr 0 { fenced := true }).canTrain 0 3 = false := by
  decide +kernel

/-- A PTP frame for the port, and one whose header CRC is wrong. -/
def fPtp : Frame := Mk.frame { opcode := opPtp, cls := 6, hops := 0, destPort := 3 } (List.replicate 44 0)

/-- Port 3 in UP with room for class 6. -/
def dRx : Device := (up.set .portState 0 3 4).setPort 0 3 { limRx := List.replicate 8 100 }

theorem wit_received : dRx.carries 0 = true ∧ (dTr 3 {}).carries 0 = true ∧ (dTr 3 {}).get .portState 0 3 = 3 ∧ dRx.get .portState 0 3 = 4 ∧
    ({ fPtp with hdr := fPtp.hdr ^^^ 1 } : Frame).crcOk = false ∧ fPtp.crcOk = true ∧ fPtp.linkSeq = (dRx.port 0 3).rxExp ∧
    (dRx.port 0 3).rxExp < 4096 ∧ (dRx.port 0 3).hadCredit fPtp = true ∧ fPtp.opcode = opPtp ∧ fPtp.trailerCheck = .good ∧
    (dRx.startBlock 0 3).verdict 0 fPtp ((dRx.startBlock 0 3).boundTo 0 3 fPtp) = .pass ∧
    (((dRx.startBlock 0 3).accept 0 3 fPtp).outputsOf 0 3 fPtp).any (((dRx.startBlock 0 3).accept 0 3 fPtp).samePart 0 3) = true := by decide +kernel

/-! ### Collectives and compression -/

/-- A step word: kind, template, sync object, context, AUX, value. -/
def stW (k x aux v : Nat) : Nat := k * 2 ^ 59 + x * 2 ^ 32 + aux * 2 ^ 20 + v

/-- Slot 5 of tenant 3 and group 7 (one member: device 9, port 4) in a state, with a program and the rest of its state. -/
def dSlot (st : Nat) (prog : List Nat) (c : SlotSt) : Device :=
  let d := (((((up.set .slotSel 0 0 5).set .slotState 0 5 st).set .slotTenant 0 5 3).set .slotGroup 0 5 7).set .slotLength 0 5 prog.length).set
    .grpDescActive 0 7 (3 * 2 ^ 52)
  let d := ((d.set .grpMemberActive 0 0 (9 * 2 ^ 20 + 4 * 2 ^ 12 + 3 * 16)).set .tnSyncRange 0 3 (16 * 65536 + 16)).setSlot 0 5 c
  ((List.range prog.length).zip prog).foldl (fun d e => d.set .slotStep 0 (5 * 256 + e.1) e.2) d

/-- A message of the member to slot 5: type, argument, generation, attempt, value. -/
def fMsg (port typ arg gen att v : Nat) : Frame :=
  fr { opcode := opData, cls := 4, tenant := 3, srcDevice := 9, srcPort := port, destPort := 0xFE, context := 5 } 16
    (natToBytes 16 (typ * 2 ^ 120 + gen * 2 ^ 112 + att * 2 ^ 96 + arg * 2 ^ 80 + v))

theorem wit_slot_cmd :
    (∀ v ∈ [1, 2, 3, 4], ∀ st ∈ [0, 1, 2, 4], (dSlot st [0] { launch := 1 }).admits rq ⟨⟨.slotCmd, 0, 0⟩, 1, v⟩ = true) ∧
    (dSlot 1 [0] {}).place ⟨.slotCmd, 0, 0⟩ 0 = 5 ∧ ((dSlot 1 [0] {}).fmMessage 0).loadOk 0 5 = true ∧
    ((dSlot 2 [0] {}).fmMessage 0).loadOk 0 5 = false ∧ (dSlot 2 [0] { queued := 15 }).get .slotState 0 5 = 2 ∧
    15 ≤ ((dSlot 2 [0] { queued := 15, launch := 1 }).slot 0 5).queued ∧
    (((dSlot 1 [0] {}).set .grpDescActive 0 7 0).fmMessage 0).slotLive 0 5 = [] := by decide +kernel

theorem wit_messages : let d := dSlot 2 [stW 1 0 0 1, 0] { acted := true, targets := [9], launch := 1 }
    d.live 0 = true ∧ d.scRuns 0 = false ∧ (msgOf (fMsg 4 1 0 0 0 1)).bad = false ∧ (msgOf (fMsg 4 1 0 0 0 1)).typ = 1 ∧
    (msgOf { fMsg 4 1 0 0 0 1 with payload := [] }).bad = true ∧ f0.context = 0 ∧ d.get .slotState 0 0 = 0 ∧
    (fMsg 4 1 0 0 0 1).tenant = d.get .slotTenant 0 5 ∧ ((fMsg 4 1 0 0 0 1).setFld 228 12 4).tenant ≠ d.get .slotTenant 0 5 ∧
    (d.memberOf 0 7 9 4).isSome = true ∧ (d.memberOf 0 7 9 5).isSome = false ∧ (msgOf (fMsg 4 2 17 1 0 1)).gen ≠ d.get .slotGen 0 5 := by
  decide +kernel

theorem wit_launches : let d := (dSlot 1 [0] {}).set .slotLaunchNo 0 5 7
    (∀ v ∈ [7, 8, 9], d.heeds 0 (fMsg 4 1 0 0 0 v) = true ∧ (msgOf (fMsg 4 1 0 0 0 v)).typ = 1 ∧ (msgOf (fMsg 4 1 0 0 0 v)).value = v) ∧
    d.get .slotLaunchNo 0 5 = 7 ∧ (d.slot 0 5).queued < 15 := by decide +kernel

theorem wit_signals : let d := (dSlot 1 [0] {}).set .syncValue 0 17 (2 ^ 64 - 3)
    (∀ v ∈ [2, 3], d.heeds 0 (fMsg 4 2 17 0 0 v) = true ∧ (msgOf (fMsg 4 2 17 0 0 v)).typ = 2 ∧ (msgOf (fMsg 4 2 17 0 0 v)).arg = 17 ∧
      (msgOf (fMsg 4 2 17 0 0 v)).value = v) ∧ d.activeSlots 0 = [] ∧ d.syncVal 0 17 = 2 ^ 64 - 3 ∧
    (dSlot 1 [0] {}).heeds 0 (fMsg 4 3 17 0 0 9) = true ∧ (msgOf (fMsg 4 3 17 0 0 9)).typ = 3 ∧ (dSlot 1 [0] {}).syncVal 0 17 < 9 := by
  decide +kernel

/-- As many notify entries as a plane holds. -/
def dNotes : Device := { dSlot 1 [0] {} with notifies := List.replicate 4096 ⟨0, 17, 9, 5, 9, 4⟩ }

theorem wit_notes_full : dNotes.heeds 0 (fMsg 4 3 17 0 0 9) = true ∧ dNotes.syncVal 0 17 < 9 ∧
    4096 ≤ (dNotes.notifies.filter (fun n => n.plane = (0 : Plane).val)).length := by decide +kernel

/-- Slot 5 stands at its REDUCE step, whose context 6 is in a state. -/
def dCtx (st cst : Nat) (x : RctxSt) : Device :=
  let d := dSlot st [stW 3 6 0 0, stW 4 6 0xFFF 0, stW 5 8 0x11 0, stW 6 9 0x12 0, 0] { acted := true, launch := 1 }
  (d.setRctx 0 6 { x with slot := 5, restartMax := 2 }).set .rctxState 0 6 cst

theorem wit_abort_ctx : let d := dCtx 2 1 {}
    d.live 0 = true ∧ d.noSwitch 0 = true ∧ d.heeds 0 (fMsg 4 4 6 0 0 0) = true ∧ (msgOf (fMsg 4 4 6 0 0 0)).typ = 4 ∧ (msgOf (fMsg 4 4 6 0 0 0)).arg = 6 ∧
    (d.rctx 0 6).slot = 5 ∧ d.ctxRuns 0 6 = true ∧ (d.rctx 0 6).restarts < 255 ∧ stKind (d.stepWord 0 5 (d.rctx 0 6).step) ≠ 6 ∧
    d.heeds 0 (fMsg 4 4 9 0 0 0) = true ∧ (d.rctx 0 9).slot ≠ 5 := by decide +kernel

/-- A message of the upper device 0x11 or the partner 0x12 to slot 5. -/
def fUp (dev typ arg att : Nat) : Frame :=
  fr { opcode := opData, cls := 4, tenant := 3, srcDevice := dev, srcPort := 0xFE, destPort := 0xFE, context := 5 } 16
    (natToBytes 16 (typ * 2 ^ 120 + att * 2 ^ 96 + arg * 2 ^ 80))

theorem wit_upper : ∀ st ∈ [1, 3], let d := dCtx st 1 {}
    (∀ t ∈ [0x82, 0x83, 0x85], d.heeds 0 (fUp 0x11 t 8 2) = true ∧ (msgOf (fUp 0x11 t 8 2)).typ = t ∧ (msgOf (fUp 0x11 t 8 2)).arg = 8 ∧
      (msgOf (fUp 0x11 t 8 2)).attempt = 2) ∧ (fUp 0x11 0x82 8 2).srcDevice = 0x11 ∧
    d.noSwitch 0 = true ∧ d.upSteps 0 5 0x11 8 = [2] ∧ d.upSteps 0 5 0x11 9 = [] ∧ stepAtt (d.slot 0 5).upSent 2 = none ∧
    d.namedBy 0 5 5 0x11 = true ∧ d.namedBy 0 5 6 0x12 = true ∧ (dSlot 1 [stW 5 8 0x11 0, 0] {}).still 0 = true ∧
    d.heeds 0 (fUp 0x12 0x87 8 2) = true ∧ (fUp 0x12 0x87 8 2).srcDevice = 0x12 ∧ (msgOf (fUp 0x12 0x87 8 2)).typ = 0x87 ∧
    stepAtt ((d.setSlot 0 5 { d.slot 0 5 with upReports := [(2, 2)] }).slot 0 5).upReports 2 = some 2 := by decide +kernel

theorem wit_context_restart : ∀ x ∈ [({} : RctxSt), { faults := 2 }], let d := dCtx 2 1 x
    d.live 0 = true ∧ d.noSwitch 0 = true ∧ 0 < 32 * dBlocks (d.ctxDesc 0 6) ∧ d.ctxRuns 0 6 = true ∧ (d.rctx 0 6).restartMax = 2 ∧ (d.rctx 0 6).slot = 5 ∧
    (d.rctx 0 6).restarts < 255 ∧ stKind (d.stepWord 0 5 (d.rctx 0 6).step) ≠ 6 ∧ d.get .slotState 0 5 = 2 ∧
    (d.set .rctxSel 0 0 6).admitsNow rq ⟨⟨.rctxAbortCmd, 0, 0⟩, 1, 1⟩ = true ∧ (d.set .rctxSel 0 0 6).place ⟨.rctxAbortCmd, 0, 0⟩ 0 = 6 ∧
    d.ctxRuns 0 0 = false := by decide +kernel

theorem wit_clear_done : let d := dCtx 3 4 { clearing := true }
    d.noSwitch 0 = true ∧ (d.rctx 0 6).clearing = true ∧ d.ctxState 0 6 = 4 ∧ (d.rctx 0 6).hold = 0 ∧ (d.rctx 0 6).held = false ∧
    (d.slot 0 5).reformed = 0 ∧ dMode (d.ctxDesc 0 6) = 0 ∧ (d.rctx 0 6).raise = false ∧
    d.slotCtxs 0 5 = [6] ∧ d.activeSlots 0 = [5] ∧ (d.slot 0 5).acted = true ∧ d.get .slotStepNow 0 5 = (d.rctx 0 6).step ∧
    stKind (d.stepWord 0 5 0) = 3 ∧ stRctx (d.stepWord 0 5 0) = 6 := by decide +kernel

/-- A contribution of a tenant for context x waits at the reducer of column 1. -/
def dRed (x tenant att : Nat) : Device :=
  let f := fr { opcode := opRedContrib, cls := 3, tenant := tenant, context := x, flowSeq := att * 65536 } 0 []
  { ((dCtx 2 1 {}).set .rctxTenant 0 6 3).set .rctxAttempt 0 6 0 with
    frames := [((0, 5), { plane := 0, input := 0, frame := f, cls := 3, tenant := tenant, cells := 2, charged := false, credit := none })]
    copies := [((0, 6), { plane := 0, fid := 5, row := 0, col := 1, stage := .queued, place := [], wait := [201], sentTo := [], due := [], seq := 1, at_ := 0, moved := false, charged := false })] }

theorem wit_reducer_frame : ∀ e ∈ [(7, 3, 0), (6, 4, 0), (6, 3, 1)], let d := dRed e.1 e.2.1 e.2.2
    d.carries 0 = true ∧ d.still 0 = true ∧ d.noSwitch 0 = true ∧ d.atHead 0 6 201 = true ∧ d.get .reducerState 0 1 = 0 ∧ (d.copy? 0 6).isSome = true ∧
    ((d.copy? 0 6).bind (fun c => d.frame? 0 c.fid)).map (fun g => (g.frame.context, g.frame.tenant, g.frame.flowSeq / 65536)) = some e ∧
    (d.rctx 0 6).clearing = false ∧ d.ctxRuns 0 6 = true ∧ d.ctxState 0 7 = 0 ∧ d.get .rctxTenant 0 6 = 3 ∧ d.get .rctxAttempt 0 6 = 0 := by
  decide +kernel

theorem wit_timeouts : (dSlot 2 [stW 6 9 0x12 0, 0] {}).runsStep 0 5 6 = true ∧ ((dSlot 2 [stW 6 9 0x12 0, 0] {}).slot 0 5).xready = none ∧
    (dSlot 2 [stW 6 9 0x12 0, 0] {}).get .slotState 0 5 = 2 := by decide +kernel

theorem wit_sync : up.admits rq ⟨⟨.syncValue, 0, 0⟩, 8, 5⟩ = true ∧ up.activeSlots 0 = [] := by decide +kernel

/-- A COUNTS request of the member: first destination, its counts, LAST. -/
def fCnt (port first : Nat) (l : List Nat) (last : Bool) : Frame :=
  fr { opcode := opCounts, cls := 2, tenant := 3, srcDevice := 9, srcPort := port, flags := if last then 32 else 0, destPort := 0xFE, context := 5 } (4 + 4 * l.length)
    (natToBytes 4 (first * 65536 + l.length) ++ l.flatMap (natToBytes 4))

theorem wit_counts : let d := dSlot 3 [stW 10 0 0xFFF 0, 0] { acted := true, launch := 1 }
    d.live 0 = true ∧ (fCnt 4 0 [12] true).payload.length = 4 + 4 * 1 ∧ fld (beNat (fCnt 4 0 [12] true).payload 0 4) 0 11 = 1 ∧
    fld (beNat (fCnt 4 0 [12] true).payload 0 4) 26 6 = 0 ∧ fld (beNat (fCnt 4 0 [12] true).payload 0 4) 11 5 = 0 ∧
    (fCnt 4 0 [12] true).tenant = d.get .slotTenant 0 5 ∧ d.memberOf 0 7 9 4 = some 0 ∧ d.memberOf 0 7 9 5 = none ∧
    d.countsStep 0 5 = some 0 ∧ d.noSwitch 0 = true ∧ d.countsSlot 0 (fCnt 4 0 [12] true) = some 5 ∧
    d.countsSlot 0 (fr { opcode := opCounts, cls := 4, context := 5 } 0 []) = none ∧
    stAux (d.stepWord 0 5 0) = 0xFFF ∧ (d.slot 0 5).lasts = [] ∧ (d.slot 0 5).counts = [] ∧
    d.countDests 0 0xFFF < fld (beNat (fCnt 4 1 [12] true).payload 0 4) 16 10 + 1 := by decide +kernel

/-- Group 7 of two members in a state, its standby page of tenant 3 at 0, a boundary of a kind at value 9 of object 17. -/
def dGrp (st kind : Nat) : Device :=
  (((((up.set .grpSel 0 0 7).set .grpState 0 7 st).set .grpDesc 0 7 (3 * 2 ^ 52 + 65536)).set .grpMember 0 1 (5 * 2 ^ 20 + 16)).set
    .grpBoundaryKind 0 7 kind).set .grpBoundaryObj 0 7 17 |>.set .grpBoundaryValue 0 7 9

theorem wit_exclude : (∀ v ∈ [0, 1, 2], ∀ st ∈ [0, 1, 2, 3], (dGrp st 1).admits rq ⟨⟨.grpExclude, 0, 0⟩, 2, v⟩ = true) ∧
    fld ((dGrp 1 1).get .grpDesc 0 7) 16 12 = 1 ∧ (dGrp 1 1).sel .grpSel 0 0 0 = 7 := by decide +kernel

theorem wit_commit_group : (∀ st ∈ [0, 1], (dGrp st 1).admitsNow rq ⟨⟨.grpCommitCmd, 0, 0⟩, 1, 1⟩ = true) ∧
    ((dGrp 1 1).fmMessage 0).grpCommitOk 0 7 = true ∧ ((dGrp 0 1).fmMessage 0).grpCommitOk 0 7 = false ∧
    (dGrp 1 1).place ⟨.grpCommitCmd, 0, 0⟩ 0 = 7 ∧ (dGrp 1 1).syncVal 0 17 < 9 ∧ (dGrp 2 0).RegsWf = true ∧
    (dGrp 2 0).groupsIn 0 2 = [7] ∧ (dGrp 2 0).groupsIn 0 3 = [] ∧ (dGrp 2 0).grpBoundaryMet 0 7 = true ∧ (dGrp 2 1).grpBoundaryMet 0 7 = false ∧ (dGrp 2 0).activeSlots 0 = [] := by decide +kernel

/-- Group 7 at its boundary, slot 5 of it in a WAIT step. -/
def dSwitch : Device :=
  let d := ((((up.set .grpState 0 7 2).set .grpDesc 0 7 (3 * 2 ^ 52 + 65536)).set .slotState 0 5 2).set .slotTenant 0 5 3).set .slotGroup 0 5 7
  ((d.set .slotLength 0 5 2).set .slotStep 0 (5 * 256) (stW 1 0 0 1)).setSlot 0 5 { acted := true, targets := [9], launch := 1 }

theorem wit_switch : dSwitch.RegsWf = true ∧ dSwitch.groupsIn 0 2 = [7] ∧ dSwitch.groupsIn 0 3 = [] ∧ dSwitch.grpBoundaryMet 0 7 = true ∧
    dSwitch.activeSlots 0 = [5] ∧ dSwitch.get .slotGroup 0 5 = 7 ∧ fld (dSwitch.get .grpDesc 0 7) 52 12 ≠ 0 ∧
    (dSwitch.slot 0 5).reformed = 0 ∧ dSwitch.slotCtxs 0 5 = [] ∧ dSwitch.cmpActive 0 5 = [] ∧
    stKind (dSwitch.stepWord 0 5 0) = 1 ∧ dSwitch.pageLive (dSwitch.get .grpDesc 0 7) .grpMember 0 ≠ [] := by decide +kernel

/-- Compression context 4 of tenant 3 in a state: a quantising descriptor of one block. -/
def dCmp (st : Nat) (m : Nat) : Device :=
  ((((up.set .cctxSel 0 0 4).set .cctxState 0 4 st).set .cctxTenant 0 4 3).set .cctxDesc 0 4 m).set .cctxShardBlocks 0 4 2

theorem wit_cctx : (∀ st ∈ [0, 1, 2], ∀ v ∈ [1, 2], (dCmp st (3 * 2 ^ 61 + 4 * 2 ^ 54)).admits rq ⟨⟨.cctxCmd, 0, 0⟩, 1, v⟩ = true ∧
      (dCmp st (3 * 2 ^ 61 + 4 * 2 ^ 54)).journals 0 [(⟨.cctxState, 0, 4⟩, 2 - v)] = true) ∧
    cctxDescOk ((dCmp 0 (3 * 2 ^ 61 + 4 * 2 ^ 54)).cDesc 0 4) 2 = true ∧ (dCmp 0 0).place ⟨.cctxCmd, 0, 0⟩ 0 = 4 := by decide +kernel

/-- Slot 5 with its XSITE step on compression context 4 and reduction context 6, the partner ready or not. -/
def dUnit (ready : Bool) (desc : Nat) (st : Nat) : Device :=
  let d := dSlot 2 [stW 6 6 0x12 4, 0] { acted := true, launch := 1, xready := if ready then some (8, 2) else none }
  let d := (((d.setRctx 0 6 { slot := 5 }).set .rctxState 0 6 st).set .rctxTenant 0 6 3).set .rctxAttempt 0 6 0
  let d := ((d.set .cctxState 0 4 2).set .cctxTenant 0 4 3).set .cctxDesc 0 4 desc
  (d.set .cctxShardBlocks 0 4 2).setCctx 0 4 { slot := 5, shard := [[], []] }

theorem wit_unit : let d := dUnit true (3 * 2 ^ 61 + 4 * 2 ^ 54) 2
    d.live 0 = true ∧ (d.slot 0 (d.cctx 0 4).slot).xready.isSome = true ∧ d.get .cctxState 0 4 = 2 ∧
    unitFirst (d.cDesc 0 4) 0 < d.cBlocks 0 4 ∧ unitBlocks (d.cDesc 0 4) 2 0 = 1 ∧ (d.cctx 0 4).shard.length = 2 ∧
    d.ctxState 0 (stRctx (d.stepWord 0 5 0)) = 2 ∧ ((dUnit false 0 2).slot 0 5).xready.isSome = false := by decide +kernel

/-- A low-rank descriptor (rank 8, 64 columns), and a record of one row for context 6. -/
def lowRank : Nat := 2 ^ 61 + 2 * 2 ^ 54 + 2 ^ 48 + 8 * 2 ^ 40 + 6 * 2 ^ 36
def fLr (tenant att : Nat) (b : Bytes) : Frame :=
  fr { opcode := opRedContrib, cls := 3, tenant := tenant, format := 0x20, destPort := 0xFE, context := 6, flowSeq := att * 65536 } b.length b

theorem wit_record : let d := dUnit true lowRank 2
    let b := natToBytes 16 (8 * 2 ^ 72 + 6 * 2 ^ 68 + 2 ^ 58) ++ List.replicate 16 0
    let h := beNat (fLr 3 0 b).payload 0 16
    d.byXsite 0 6 = true ∧ stValue (d.stepWord 0 (d.rctx 0 6).slot (d.rctx 0 6).step) % 256 = 4 ∧ d.get .cctxState 0 4 = 2 ∧ d.ctxState 0 6 = 2 ∧
    (fLr 3 0 b).tenant = d.get .rctxTenant 0 6 ∧ (fLr 4 0 b).tenant ≠ d.get .rctxTenant 0 6 ∧ (fLr 3 0 b).flowSeq / 65536 = d.get .rctxAttempt 0 6 ∧
    (fLr 3 1 b).flowSeq / 65536 ≠ d.get .rctxAttempt 0 6 ∧ (fLr 3 0 []).payload.length < 16 ∧ fld h 72 8 = cRank (d.cDesc 0 4) ∧
    fld h 68 4 = cLog (d.cDesc 0 4) ∧ fld h 112 16 = (d.cctx 0 4).chunk % 65536 ∧ fld h 80 32 = (d.cctx 0 4).iter ∧ fld h 58 10 = 1 ∧
    (fLr 3 0 b).payload.length = 16 + 2 * 8 * 1 ∧ (fLr 3 0 b).offset % 64 = 0 ∧ (fLr 3 0 b).offset + 1 * 64 ≤ 32 * d.cBlocks 0 4 ∧
    fld h 0 58 = 0 ∧ cMethod (d.cDesc 0 4) = 1 ∧ d.get .slotState 0 (d.rctx 0 6).slot = 2 ∧ (dUnit true lowRank 0).byXsite 0 6 = false := by decide +kernel

/-- The spares of the reducer of column 1, out of use or not. -/
def dSpent (out : Bool) : Device :=
  if out then [64, 65, 66, 67].foldl (fun d u => d.setChanState 0 (unitChan (4 * 4096 + 1) u) 4) up else up

theorem wit_lanes : up.get .reducerState 0 1 = 0 ∧ up.testedIn 0 (4 * 4096 + 1) = none ∧ up.standsOf 0 (4 * 4096 + 1) = [] ∧
    (∀ b : Bool, (dSpent b).chanState 0 (unitChan (4 * 4096 + 1) 3) ≠ 3 ∧ (dSpent b).chanState 0 (unitChan (4 * 4096 + 1) 3) ≠ 4) ∧
    up.secondFault 0 (unitChan (4 * 4096 + 1) 3) = false ∧ (dSpent false).freeSpare 0 (4 * 4096 + 1) = some 64 ∧
    (dSpent true).freeSpare 0 (4 * 4096 + 1) = none ∧ up.rctxs = [] ∧
    (up.setChanState 0 (unitChan (4 * 4096 + 1) 3) 3).chanState 0 (unitChan (4 * 4096 + 1) 3) = 3 := by decide +kernel

/-- No context of a device without contexts is in use. -/
theorem wit_no_context : ∀ x, up.ctxState 0 x = 0 := fun _ => rfl

theorem wit_tiles : up.testedIn 0 (5 * 4096) = none ∧ up.standsOf 0 (5 * 4096) = [] ∧ up.chanState 0 (unitChan (5 * 4096) 2) = 0 ∧
    up.secondFault 0 (unitChan (5 * 4096) 2) = false ∧ up.freeSpare 0 (5 * 4096) = some 8 ∧ up.freeSpare 0 (6 * 4096 + 1) = some 16 ∧
    (up.setStands 0 (5 * 4096) [(2, 8)]).standsOf 0 (5 * 4096) = [(2, 8)] := by decide +kernel

theorem wit_retry : let ch : BitVec 16 := 20482
    chanOk ch.toNat = true ∧ chanCode ch.toNat = 5 ∧ up.retired 0 ch.toNat = false ∧
    ((up.setChan 0 ch.toNat { retry := true }).chanSt 0 ch.toNat).retry = true := by decide +kernel

theorem wit_path : (dByp 0 true).bypPartner 0 (32 * 1 + 3) = some 37 ∧ (dByp 0 true).secondFault 0 (chan 9 35) = false := by decide +kernel

/-! ### The long-haul line and its keys -/

/-- The low `n` bits reversed are below 2^n. -/
theorem reflect_lt (n v : Nat) : reflect n v < 2 ^ n := by
  have h : ∀ k ≤ n, (List.range k).foldl (fun a i => if bit v i then a + 2 ^ (n - 1 - i) else a) 0 + 2 ^ (n - k) ≤ 2 ^ n := by
    intro k
    induction k with
    | zero => simp
    | succ k ih =>
      intro hk
      have := ih (by omega)
      have e : 2 ^ (n - k) = 2 ^ (n - (k + 1)) + 2 ^ (n - (k + 1)) := by
        rw [← Nat.two_mul, ← pow_succ']; congr 1; omega
      have f : n - 1 - k = n - (k + 1) := by omega
      simp only [List.range_succ, List.foldl_append, List.foldl_cons, List.foldl_nil]
      rw [f]
      generalize 2 ^ (n - (k + 1)) = d at *
      split <;> omega
  have := h n (Nat.le_refl n)
  simp only [Nat.sub_self, pow_zero] at this
  exact this

/-- A frame check sequence fits its field. -/
theorem ethFcs_lt (b : Bytes) : ethFcs b < 2 ^ 32 := Nat.xor_lt_two_pow (reflect_lt 32 _) (by decide)

/-- Link 0 of plane 0 in a state, the plane a gateway with a spool. -/
def dLh (st : Nat) (k : LinkSt) : Device :=
  ((((up.set .planeRoleActive 4 0 1).setPool 0 0 { laidOut := true, ring := 100 }).set .poolBuffers 0 0 100).set .lhState 0 0 st).setLink 0 0 k

/-- An overhead with its marker and CRC: MFN, FN, and the plane and link it names. -/
def ohOf (mfn fn p l : Nat) : Nat :=
  let oh := 0xC35A * 2 ^ 496 + fn * 2 ^ 490 + l * 2 ^ 488 + p * 2 ^ 486 + mfn * 2 ^ 432
  oh + crc16 ((natToBytes 64 oh).take 62)

/-- A carrier frame of the partner whose area is idle passes the structural checks; the others depend on its overhead alone. -/
theorem carrierOk_of (d : Device) (p l mfn fn q k : Nat) (h : ohOf mfn fn q k < 2 ^ 512)
    (hm : fld (ohOf mfn fn q k) 496 16 = 0xC35A) (hc : fld (ohOf mfn fn q k) 0 16 = crc16 ((natToBytes 64 (ohOf mfn fn q k)).take 62)) :
    d.carrierOk p l (carrierOf 0 (ohOf mfn fn q k) []) = (true, decide (fld (ohOf mfn fn q k) 486 2 = p) &&
      decide (fld (ohOf mfn fn q k) 488 2 = l) && decide (fld (ohOf mfn fn q k) 420 12 = d.get .lhPartnerDevice p 0)) := by
  simp only [Device.carrierOk, carrierOf, BitVec.toNat_ofNat, Nat.mod_eq_of_lt h, Nat.mod_eq_of_lt (ethFcs_lt _), hm, hc]
  simp [-List.reduceReplicate]

theorem wit_link_up : ∀ v ∈ [0, 1], (dLh 3 {}).admits rq ⟨⟨.lhAdmin, 0, 0⟩, 1, v⟩ = true ∧
    (dLh 3 {}).journals 0 [(⟨.lhAdmin, 0, 0⟩, v)] = true ∧ (dLh 3 {}).live 0 = true ∧ (dLh 3 {}).lhUp 0 0 = true ∧ up.lhUp 0 0 = false ∧
    ((dLh 3 {}).link 0 0).fn < 64 := by decide +kernel

/-- Frames (7, 5) of this link and of link 1. -/
def cfA : CarrierFrame := carrierOf 0 (ohOf 7 5 0 0) []
def cfB : CarrierFrame := carrierOf 0 (ohOf 7 5 0 1) []

theorem wit_carrier (d : Device) (h : d.get .lhPartnerDevice 0 0 = 0) :
    d.carrierOk 0 0 cfA = (true, true) ∧ (d.carrierOk 0 0 cfB).1 = true ∧ (d.carrierOk 0 0 cfB).2 = false := by
  rw [cfA, cfB, carrierOk_of _ _ _ _ _ _ _ (by decide +kernel) (by decide +kernel) (by decide +kernel),
    carrierOk_of _ _ _ _ _ _ _ (by decide +kernel) (by decide +kernel) (by decide +kernel), h]
  decide +kernel

theorem wit_alignment : (dLh 2 { last := some 452 }).get .lhPartnerDevice 0 0 = 0 ∧ 2 ≤ (dLh 2 {}).get .lhState 0 0 ∧
    ((dLh 2 { last := some 452 }).link 0 0).last = some ((7 * 64 + 5 + 2 ^ 54 - 1) % 2 ^ 54) ∧
    fld cfA.oh.toNat 432 48 * 64 + fld cfA.oh.toNat 490 6 = 453 ∧ ((dLh 3 { align := 1, expect := 453 }).link 0 0).expect = 453 ∧
    ((dLh 3 { align := 1, expect := 9, bad := 3 }).link 0 0).bad = 3 ∧ ((dLh 3 { align := 1, expect := 9 }).link 0 0).align ≠ 0 := by
  decide +kernel

/-- Link 0 in multiframe and not in the bundle; a transmit page pending for an MFN. -/
def dMf (m : Option Nat) : Device := (dLh 4 { align := 2 }).setTether 0 { txPend := m }

theorem wit_multiframe : (dMf none).role 0 = 1 ∧ up.role 0 ≠ 1 ∧ (∀ m ∈ [none, some 1, some 9], (dMf m).RegsWf = true ∧ (dMf m).live 0 = true ∧ ((dMf m).tether 0).txPend = m) ∧
    ((dMf none).link 0 0).align = 2 ∧ (dMf none).lhUp 0 0 = true ∧ (dMf none).retired 0 (chan 8 0) = false ∧
    (dMf none).get .lhSkewNs 0 0 ≤ (dMf none).get .lhDeskewMaxUs 0 0 * 1000 ∧ ((dMf none).get .lhMfnTx 0 0 + 1) % 2 ^ 48 = 1 := by
  decide +kernel

theorem wit_protection : (dMf none).signalFail 0 0 = true ∧ ((dMf none).set .lhBundle 0 0 15).signalFail 0 0 = false ∧
    ((dMf none).set .lhBundle 0 0 15).signalDegrade 0 0 = false ∧
    (((dMf none).apsFollow 0).tether 0).running.find? (fun c => c % 16 = 0) = some 0xB0 ∧
    ((((dMf none).set .lhBundle 0 0 15).apsFollow 0).tether 0).running.find? (fun c => c % 16 = 0) = none ∧ up.admits rq ⟨⟨.apsCommand, 0, 0⟩, 1, 0xE1⟩ = true ∧
    up.admits rq ⟨⟨.apsCommand, 0, 0⟩, 1, 0x11⟩ = true := by decide +kernel

theorem wit_pages : (∀ k ∈ [0, 1], (up.set .tsiDirSel 0 0 k).sel .tsiDirSel 0 0 0 = k ∧
      (up.set .tsiDirSel 0 0 k).admitsNow rq ⟨⟨.tsiCommitCmd, 0, 0⟩, 1, 1⟩ = true ∧
      (up.set .tsiDirSel 0 0 k).admits rq ⟨⟨.tsiCommitCmd, 0, 0⟩, 1, 1⟩ = true) ∧
    pageOk (fun pos => (up.set .tsiSwitchMfn 0 0 16).get .tsiEntry 0 (tsiIx 0 pos)) 0 = true ∧
    pageOk (fun pos => (up.set .tsiEntry 0 65536 0x400).get .tsiEntry 0 (tsiIx 1 pos)) 0 = false ∧
    (up.set .tsiSwitchMfn 0 0 16).get .lhMfnTx 0 0 + 16 ≤ (up.set .tsiSwitchMfn 0 0 16).get .tsiSwitchMfn 0 0 % 2 ^ 48 := by decide +kernel

theorem wit_tributary : (∀ v ∈ [2 ^ 31 + 2 ^ 22 + 3 * 1024, 2 ^ 31], up.admits rq ⟨⟨.tribDesc, 0, 0⟩, 4, v⟩ = true) ∧
    (up.fmMessage 0).tribDescOk 0 0 (2 ^ 31 + 2 ^ 22 + 3 * 1024) = true ∧ (up.fmMessage 0).tribDescOk 0 0 (2 ^ 31) = false ∧
    up.place ⟨.tribDesc, 0, 0⟩ 0 = 0 ∧ up.journals 0 [(⟨.tribDesc, 0, 0⟩, 2 ^ 31 + 2 ^ 22 + 3 * 1024)] = true ∧
    (up.fmMessage 0).tribDescOk 0 0 (2 ^ 22) = true ∧ up.journals 0 [(⟨.tribDesc, 0, 0⟩, 2 ^ 22)] = true ∧
    up.admits rq ⟨⟨.tribDesc, 0, 0⟩, 4, 2 ^ 22⟩ = true ∧ up.tribOn 0 0 = false ∧
    (up.set .tribDesc 0 5 (2 ^ 31)).tribOn 0 5 = true := by decide +kernel

/-- Tributary 5 with one gap NAKed n times, and a NAK queue of a length. -/
def dGap (n len : Nat) : Device :=
  (up.setTrib 0 5 { gaps := [⟨7, 2, n, 0, false⟩], copies := [⟨3, 0, [], 1, 0⟩] }).setTether 0 { nakQ := List.replicate len (1, 1, 1) }

theorem wit_gaps : ∀ n ∈ [0, 9], ((dGap n 0).trib 0 5).gaps = [⟨7, 2, n, 0, false⟩] ∧ (dGap n 0).get .lhRetxMax 0 0 ≤ 9 ∧ 0 < (dGap n 0).get .lhRetxMax 0 0 ∧
    ((dGap n 0).tether 0).nakQ.length < 8192 ∧ (∀ g ∈ (up.trib 0 5).gaps, g.left = true) ∧ ((dGap n 0).trib 0 5).held = [] ∧ ((dGap n 0).trib 0 5).copies = [⟨3, 0, [], 1, 0⟩] ∧
    ((dGap n 0).trib 0 5).retx.contains 3 = false := by decide +kernel

theorem wit_nak_queue_full : 8192 ≤ ((dGap 0 8192).tether 0).nakQ.length := by
  show 8192 ≤ (List.replicate 8192 ((1, 1, 1) : Nat × Nat × Nat)).length
  rw [List.length_replicate]

theorem wit_masters : (∀ v ∈ [1, 2], (up.set .keySel 0 0 3).admits rq ⟨⟨.masterCmd, 0, 0⟩, 1, v⟩ = true) ∧
    (up.set .keySel 0 0 3).place ⟨.masterCmd, 0, 0⟩ 0 = 3 ∧ (up.set .keySel 0 0 mgmtSel).place ⟨.masterCmd, 0, 0⟩ 0 = mgmtSel ∧
    (up.set .keySel 0 0 mgmtSel).admits rq ⟨⟨.masterCmd, 0, 0⟩, 1, 2⟩ = true ∧
    (up.set .keySel 0 0 3).journals 0 [(⟨.masterWrapped, 0, 3⟩, blobValue 0)] = true ∧
    (up.set .keySel 0 0 3).journals 0 [(⟨.masterWrapped, 0, 3⟩, 0)] = true ∧ ((up.set .keySel 0 0 3).fmMessage 0).tribOf 0 3 = false ∧
    (((up.set .keySel 0 0 3).set .tribDesc 0 5 (2 ^ 31 + 3 * 1024)).fmMessage 0).tribOf 0 3 = true := by decide +kernel

theorem wit_rekey : let d := up.set .rekeyMfn 0 0 40000
    d.get .keyEpochHi 0 0 ≤ d.get .keyEpochTx 0 0 ∧ (d.set .keyEpochHi 0 0 4).get .keyEpochTx 0 0 < (d.set .keyEpochHi 0 0 4).get .keyEpochHi 0 0 ∧
    ((d.set .keyEpochHi 0 0 4).fmMessage 0).rekeyOk 0 40000 = true ∧
    d.admitsNow rq ⟨⟨.rekeyCmd, 0, 0⟩, 1, 1⟩ = true ∧ (d.fmMessage 0).rekeyOk 0 (d.get .rekeyMfn 0 0 % 2 ^ 48) = true ∧
    (up.fmMessage 0).rekeyOk 0 (up.get .rekeyMfn 0 0 % 2 ^ 48) = false ∧ d.get .keyEpochTx 0 0 < 0xFFFF ∧
    d.journals 0 [(⟨.keyEpochHi, 0, 0⟩, d.get .keyEpochTx 0 0 + 1)] = true ∧
    ((((d.set .keyEpochTx 0 0 0xFFFF).set .keyEpochRx 0 0 0xFFFF).fmMessage 0).rekeyOk 0 40000) = true := by decide +kernel

/-- Tenant 3 has a master; an epoch is being derived, for a resynchronisation or not. -/
def dDer (r : Bool) : Device := (up.setMaster 0 3 { inForce := some 99 }).setKeySt 0 { deriving_ := some 6, resync := r }

theorem wit_derivation : ∀ r : Bool, ((dDer r).keySt 0).deriving_ = some 6 ∧ ((dDer r).keySt 0).resync = r ∧ (dDer r).keyedSels 0 = [3] ∧
    ((dDer r).master 0 3).inForce.isSome = true ∧ 3 ∈ holdersOf 3 := by decide +kernel

theorem wit_keyLimit : up.admits rq ⟨⟨.keyLimitLog2, 2, 0⟩, 1, (32 : Byte).toNat⟩ = true ∧
    up.journals 0 [(⟨.keyLimitLog2, 2, 0⟩, (32 : Byte).toNat)] = true ∧ up.get .rekeyState 0 0 = 0 ∧ (up.keySt 0).deriving_ = none ∧
    (up.master 0 3).pending = none ∧ (up.master 0 3).keyed = false := by decide +kernel

/-! ### Optical control -/

/-- Chiplet 1 of plane 0: the states of its inputs 0 and 1, and its calibration engine. -/
def dLas (a b : Nat) (k : CalSt) : Device := ((up.set .laserState 0 256 a).set .laserState 0 257 b).setCal 0 1 k

theorem wit_laser : (dLas 2 0 {}).live 0 = true ∧ (dLas 2 0 {}).laserUsed 0 1 0 = true ∧ (dLas 2 0 {}).laserUsed 0 1 (laserMate 0) = false ∧
    (dLas 2 2 {}).laserUsed 0 1 (laserMate 0) = true ∧ (dLas 1 0 {}).laserUsed 0 1 0 = false ∧ (dLas 1 0 {}).laserState 0 1 0 = 1 ∧
    ((dLas 1 0 {}).set .laserCmd 0 (1 * 256 + 0) 1).get .laserCmd 0 (1 * 256 + 0) = 1 ∧ (∀ y ∈ [(1700 : Int), 1600, 2000, 1800], 1600 ≤ y ∧ y ≤ 2000) := by
  decide +kernel

theorem wit_laser_cmd : (∀ v ∈ [1, 2], ∀ a ∈ [0, 2], (dLas a 2 {}).admits rq ⟨⟨.laserCmd, 0, 1⟩, 1, v⟩ = true) ∧
    (dLas 2 2 {}).place ⟨.laserCmd, 0, 1⟩ 0 = 256 ∧ (dLas 2 2 {}).sel .laserSel 0 1 0 = 0 ∧ (dLas 2 0 {}).laserUsed 0 1 (laserMate 0) = false ∧
    (dLas 2 0 {}).admits rq ⟨⟨.laserCmd, 0, 1⟩, 1, 2⟩ = true ∧ up.hub.vddIo = true ∧
    ({ up with hub := { up.hub with vddIo := false } } : Device).live 0 = true ∧ up.laserUsed 0 1 0 = false ∧ up.laserState 0 1 0 = 0 := by decide +kernel

/-- A forced round is asked for on pair 3 of chiplet 1, whose ports are DOWN. -/
def dCal (k : CalSt) : Device := (dLas 2 2 k).set .ringState 0 (256 + 48) 1

theorem wit_round : (dCal { forcedPair := some 3 }).nextRound 0 1 = some (3, 1) ∧ (dCal {}).nextRound 0 1 = none ∧
    ((dCal { forcedPair := some 3 }).holdServed 0 (32 * 1 + 2 * 3) && (dCal { forcedPair := some 3 }).holdServed 0 (32 * 1 + 2 * 3 + 1)) = true ∧
    (((dCal { forcedPair := some 3 }).set .portState 0 38 4).holdServed 0 38) = false ∧
    (((dCal { forcedPair := some 3 }).set .portState 0 38 4).nextRound 0 1) = some (3, 1) ∧
    (dCal { forcedPair := some 3 }).get .ringState 0 (1 * 256 + (16 * 3 + 0)) = 1 ∧ (dCal { due := [(3, 0)] }).nextRound 0 1 = some (3, 0) := by
  decide +kernel

theorem wit_round_done : (((dCal { round := some 3, kind := 1, due := [(3, 0), (4, 0)] }).set .calForceCmd 0 1 1).cal 0 1).round = some 3 ∧
    ((dCal { round := some 3, kind := 1 }).cal 0 1).kind ≠ 2 ∧ ((dCal { round := some 3, kind := 2 }).cal 0 1).kind = 2 ∧
    ((dCal { matrix := [3] }).cal 0 1).round = none ∧ ((dCal { matrix := [3] }).cal 0 1).matrix.contains 3 = true ∧
    ((dCal { matrix := [3] }).cal 0 1).matrix.filter (· ≠ 3) = [] ∧ ((dCal { matrix := [3] }).cal 0 1).pendMode = none ∧
    up.admits rq ⟨⟨.calForceCmd, 0, 1⟩, 1, 1⟩ = true ∧ up.admits rq ⟨⟨.matrixCmd, 0, 1⟩, 1, 1⟩ = true ∧
    (∀ v ∈ [0, 1], ∀ b : Bool, (dCal { round := if b then some 3 else none }).admits rq ⟨⟨.xtalkMode, 0, 1⟩, 1, v⟩ = true ∧
      (dCal { round := if b then some 3 else none }).journals 0 [(⟨.xtalkMode, 0, 1⟩, v)] = true) := by decide +kernel

/-- Heaters that put the rings of bank 12 on their lines, from cold resonances one mW above. -/
def dBank (sw : List (Nat × Nat)) : Device :=
  dLas 2 2 { cold := [(48, 1300000), (49, 500000), (50, -300000), (51, -1100000)], sweeping := sw }

theorem wit_rings : (dBank []).get .ringState 0 (1 * 256 + 48) ≠ 4 ∧ ((dBank []).cal 0 1).sweeping.any (fun y => y.1 = 12) = false ∧
    ((dBank [(12, 1)]).cal 0 1).sweeping.any (fun y => y.1 = 12) = true ∧ (dBank []).bankRings 0 1 12 = [48, 49, 50, 51] ∧
    ((dBank []).set .wlCheckActive 0 1 1).toneChecked 0 1 12 = true ∧ (dBank []).toneChecked 0 1 12 = false ∧
    ((dBank []).set .ringState 0 (256 + 48) 4).get .ringState 0 (1 * 256 + 48) = 4 := by
  decide +kernel

/-- The heaters a step finds for the rings of bank 12. -/
def movesOf (hs : List Nat) : List (Nat × Nat) := [48, 49, 50, 51].map (fun q => (q, hs.getD (q % 4) (lookNat ((dBank []).cal 0 1).heater q)))

theorem wit_ordered :
    (∀ m ∈ movesOf [1000, 1000, 1000, 1000], m.2 < 20000) ∧ (∀ m ∈ movesOf [9000, 1000, 1000, 1000], m.2 < 20000) ∧
    (∃ m ∈ movesOf [20000, 1000, 1000, 1000], 20000 ≤ m.2) ∧
    (((movesOf [1000, 1000, 1000, 1000]).foldl (fun d m => d.moveHeater 0 1 m.1 m.2) (dBank [])).orderedWrong 0 1 12) = [] ∧
    (((movesOf [9000, 1000, 1000, 1000]).foldl (fun d m => d.moveHeater 0 1 m.1 m.2) (dBank [])).orderedWrong 0 1 12) = [48] ∧
    (([48, 49, 50, 51].foldl (fun d q => d.setHeater 0 1 q ([1000, 1000, 1000, 1000].getD (q % 4) 0)) (dBank [(12, 1)])).orderedWrong 0 1 12) = [] ∧
    (∀ q ∈ [48, 49, 50, 51], [1000, 1000, 1000, 1000].getD (q % 4) 20000 < 20000) ∧
    (∀ q ∈ [48, 49, 50, 51], 20000 ≤ [20001, 20000, 20001, 20001].getD (q % 4) 20000) ∧
    (∀ m ∈ [1, 2], ((dBank [(12, m)]).cal 0 1).sweeping.find? (fun y => y.1 = 12) = some (12, m)) := by decide +kernel

/-! ### Time -/

/-- TB2 of plane 0 is enabled in state `st`, with F100 as its slave port at 150 ns and F101, UP, as a master port. -/
def dTb (st : Nat) (x : TbSt) : Device :=
  ((((((((up.set .tbEnable 0 2 1).set .tbState 0 2 st).set .ptpPortRole 0 (2 * 256 + 100) 2).set .linkDelayValid 0 100 1).set .ptpPortRole 0 (2 * 256 + 101) 1).set
    .portState 0 101 4).set .portState 0 100 4).setPd 0 100 { req := some (9, 0), results := [150 * 65536] }).setTb 0 2 x

/-- A PTP message of domain 2 (Example 15.1's Sync, t2 as given) or of the delay service. -/
def mPtp (sdo : BitVec 4) (t2 : Nat) : PtpMsg :=
  { sdo := sdo, version := 2, domain := if sdo = 0 then 2 else 0, twoStep := false, seqId := 9, correction := 16384, origin := 2000400000000,
    rxStamp := t2, untimed := false, grandmaster := 77, source := 5 }

/-- 2,000 s + 400,000,155.5 ns. -/
def t2Near : Nat := 2000400000155 * 65536 + 32768
/-- 10 µs later. -/
def t2Far : Nat := t2Near + 10000 * 65536

theorem wit_timeSync : (dTb 1 {}).live 0 = true ∧ ptpPlain (mPtp 0 t2Near) = true ∧ (dTb 1 {}).slavesOf 0 100 2 = [2] ∧
    (dTb 1 {}).slavesOf 0 101 2 = [] ∧ (dTb 1 {}).delayValid 0 100 = true ∧ ((dTb 1 {}).set .linkDelayValid 0 100 0).delayValid 0 100 = false ∧
    (dTb 1 {}).get .tbSource 0 2 ≠ 1 ∧ ((dTb 2 {}).set .tbSource 0 2 1).get .tbSource 0 2 = 1 ∧
    (dTb 1 {}).rxTime 0 100 (mPtp 0 t2Near) - (((mPtp 0 t2Near).origin : Int) * 65536 + (mPtp 0 t2Near).correction) - (dTb 1 {}).meanDelay 0 100 = 5 * 65536 + 16384 := by
  decide +kernel

theorem wit_sync_far : let d := dTb 1 {}; let theta := d.rxTime 0 100 (mPtp 0 t2Far) - (((mPtp 0 t2Far).origin : Int) * 65536 + (mPtp 0 t2Far).correction) - d.meanDelay 0 100
    d.get .stepThresholdNs 0 2 * 65536 < theta.natAbs ∧ ¬ theta.natAbs ≤ d.get .lockThresholdNs 0 2 * 65536 := by decide +kernel

theorem wit_delay : (dTb 1 {}).takesDelay 0 100 (mPtp 2 t2Near) = true ∧ (dTb 1 {}).takesDelay 0 102 (mPtp 2 t2Near) = false ∧
    ((dTb 1 {}).pd 0 100).req = some ((mPtp 2 t2Near).seqId.toNat, 0) ∧ ((dTb 1 {}).pd 0 101).req = none ∧ (dTb 1 {}).takesDelay 0 101 (mPtp 2 t2Near) = true ∧
    (dTb 1 {}).get .ptpPortRole 0 (2 * 256 + 101) = 1 ∧ (dTb 1 {}).lineUp 0 101 = true ∧ (dTb 1 {}).lineUp 0 102 = false := by decide +kernel

/-- TB2 names TB3, in state `b`, as its standby; TB4 follows TB2. -/
def dStandby (st b src : Nat) (x : TbSt) : Device :=
  (((((dTb st x).set .tbRedundant 0 2 3).set .tbState 0 3 b).set .tbSource 0 2 src).set .tbRedundant 0 4 2).set .tbSource 0 4 1 |>.set .tbState 0 4 2

theorem wit_timeout : (dStandby 2 2 0 {}).get .tbRedundant 0 2 = 3 ∧ (dStandby 2 2 0 {}).get .tbState 0 3 = 2 ∧ (dStandby 2 1 0 {}).get .tbState 0 3 ≠ 2 ∧
    (dStandby 2 1 0 {}).get .tbState 0 2 = 2 ∧ (dStandby 2 1 1 {}).get .tbSource 0 2 = 1 ∧ (dStandby 2 1 0 {}).get .tbRedundant 0 4 = 2 ∧
    (dStandby 2 1 0 {}).get .tbSource 0 4 = 1 ∧ (dStandby 2 1 0 {}).get .tbState 0 4 = 2 ∧ (dTb 2 {}).get .tbEnable 0 2 = 1 ∧
    (dTb 2 {}).get .ptpPortRole 0 (2 * 256 + 100) = 2 ∧ (dTb 2 {}).get .tbRedundant 0 2 = 255 := by decide +kernel

theorem wit_time_writes : (∀ v ∈ [0, 1], ∀ st ∈ [4, 2], (dTb st {}).admits rq ⟨⟨.tbEnable, 0, 2⟩, 1, v⟩ = true ∧
      (dTb st {}).journals 0 [(⟨.tbEnable, 0, 2⟩, v)] = true) ∧
    (dTb 2 {}).admits rq ⟨⟨.tbTime, 0, 2⟩, 10, (5 * 2 ^ 32 + 999999999 : BitVec 80).toNat⟩ = true ∧ (dTb 2 {}).get .tbState 0 2 = 2 ∧
    (∀ v ∈ [1, 2], (dStandby 2 2 0 {}).admits rq ⟨⟨.tbSwitchCmd, 0, 2⟩, 1, v⟩ = true) := by decide +kernel

/-- Eight own samples at the lock threshold, and one beyond it. -/
def ownSamples (x : Int) : List Int := [10 * 65536, -10 * 65536, 0, 1, 2, 3, 4, x]

theorem wit_return : (∀ y ∈ ownSamples 5, y.natAbs ≤ (dStandby 2 2 1 { own := ownSamples 5 }).get .lockThresholdNs 0 2 * 65536) ∧
    ¬ (∀ y ∈ ownSamples 655361, y.natAbs ≤ (dStandby 2 2 1 { own := ownSamples 655361 }).get .lockThresholdNs 0 2 * 65536) ∧
    ((dStandby 2 2 1 { own := ownSamples 5 }).tb 0 2).own.length = 8 ∧ (dStandby 2 2 1 { own := ownSamples 5 }).get .tbSource 0 2 = 1 := by
  decide +kernel

theorem wit_snap : ({ up with snap := { armed := true, wait := [0] } } : Device).snap.wait = [(0 : Plane).val] ∧ up.snap.armed = false := by decide

/-- Plane 0 is a gateway whose link 0 can carry traffic, with a request waiting on it. -/
def dTbLh : Device :=
  (((up.set .planeRoleActive 4 0 1).setPool 0 0 { laidOut := true, ring := 100 }).set .poolBuffers 0 0 100).setPd 0 128 { req := some (9, 0) }

theorem wit_delay_lh : dTbLh.takesDelay 0 128 (mPtp 2 t2Near) = true ∧ (dTbLh.pd 0 128).req = some ((mPtp 2 t2Near).seqId.toNat, 0) ∧
    128 ≤ (128 : LinePort).val := by decide +kernel

/-- The same with tributary 5 as time tributary at the first position of link 0, one spool buffer held, and F128 a master port of TB2. -/
def dTimeTrib : Device :=
  (((((dTbLh.set .tribDesc 0 5 (2 ^ 31 + 2 ^ 30 + 0x40 * 2 ^ 22)).set .tsiEntryActive 0 (tsiIx 0 0) (2 ^ 15 + 5)).setTrib 0 5 { txBufs := [7] }).set
    .tbEnable 0 2 1).set .tbState 0 2 2).set .ptpPortRole 0 (2 * 256 + 128) 1

theorem wit_time_lh : dTbLh.timePosition 0 0 = false ∧ dTimeTrib.timePosition 0 0 = true ∧ dTimeTrib.tribFor 0 0 6 = some 5 ∧
    (∀ w ∈ [76, 86, 96, 102], (dTimeTrib.trib 0 5).slotsFor w + 1 ≤ 64 * (dTimeTrib.trib 0 5).txBufs.length) ∧
    dTimeTrib.lineUp 0 128 = true ∧ dTimeTrib.get .tbState 0 2 ≠ 4 ∧ dTimeTrib.get .ptpPortRole 0 (2 * 256 + 128) = 1 := by decide +kernel

/-! ### Tenants -/

/-- Tenant `n` of plane 0 in state `st`, with a quota, a range and a buffer where `own` says so. -/
def dTn (n st cmd : Nat) (own : Bool) : Device :=
  let d := (((((up.set .tnState 0 n st).set .tnCmd 0 n cmd).set .tnCellQuota 0 n 100).set .tnSyncRange 0 n (16 * 2 ^ 16 + 4)).set .syncValue 0 17 9).setPool 0 1
    { laidOut := true, ring := 10, owners := if own then [(3, n)] else [] }
  d.set .poolBuffers 0 1 10

theorem wit_tn : (∀ v ∈ [1, 2, 3, 4], ∀ n ∈ [0, 7], ∀ st ∈ [0, 1, 2], (dTn n st 0 false).admits rq ⟨⟨.tnCmd, 0, n⟩, 1, v⟩ = true) ∧
    (∀ x ∈ [1, 2, 0], (dTn 7 0 0 false).journals 0 [(⟨.tnState, 0, 7⟩, x)] = true) ∧ ¬ 1024 ≤ (dTn 7 0 0 false).contexts 0 := by decide +kernel

/-- The same plane with a running slot of the tenant. -/
def dTnRun : Device := (((dTn 7 1 0 false).set .slotTenant 0 4 7).set .slotState 0 4 2).setSlot 0 4 { launch := 3 }

theorem wit_tn_run : dTnRun.tnRunning 0 7 = [4] ∧ dTnRun.get .tnState 0 7 = 1 ∧ (dTn 7 2 1 false).tnRunning 0 7 = [] ∧
    (dTn 7 2 1 false).get .tnCmd 0 7 = 1 ∧ ((dTn 7 2 1 false).set .slotTenant 0 4 7).tnInUse 0 7 = true := by decide +kernel

theorem wit_tn_remove : let d := dTn 7 2 2 true
    d.tnInUse 0 7 = false ∧ (∀ q < 4, q ≠ 0 → d.hasTenant q 7 = false) ∧
    d.journals 0 ((⟨.tnState, 0, 7⟩, 0) :: ((d.regs.filter (fun e => e.1.ofTenant 0 7)).map (fun e => (e.1, e.1.obj.dflt e.1.idx)) ++ [((⟨.tnAgentFp, 4, 7⟩ : Key), 0)])) = true ∧
    (∀ k < 5, ∀ o ∈ (d.pool 0 k).owners, o.2 = 7 → o.1 < d.poolBuffers 0 k ∧ ∀ b ∈ (d.pool 0 k).owners, b.1 = o.1 → b.2 = 7) ∧
    (⟨.tnCellQuota, 0, 7⟩ : Key).ofTenant 0 7 = true ∧ inRange (d.get .tnSyncRange 0 7) 16 14 15 17 = true := by decide +kernel

/-! ### Management -/

/-- The hub with management link 0 up, a certificate 99 that holds the operator role in the table, and session 1 as said. -/
def dMg (x : SessionSt) : Device :=
  (((up.set .mgmtLinkState 4 0 1).set .roleFp 4 0 99).set .roleFpRoles 4 0 1).setSession 1 x

/-- An open session of that certificate on link 0. -/
def sOpen : SessionSt := { isOpen := true, port := 0, fp := 99 }

/-- A request of session 1. -/
def rq1 : Req := ⟨1, 7#32⟩

/-- A transfer of the CA certificate, two bytes long, at its start. -/
def xCa (w : Bool) : Xfer := { key := ⟨.caCert, 4, 0⟩, write := w, total := 2, crc := crc32 [1, 2], data := if w then [] else [1, 2] }

theorem wit_sessions : (dMg {}).hubUp = true ∧ (dMg {}).get .mgmtLinkState 4 0 = 1 ∧ (dMg {}).get .mgmtLinkState 4 1 ≠ 1 ∧
    ((List.range 16).map (· + 1)).find? (fun n => !((dMg {}).session n).isOpen) = some 1 ∧
    ((dMg {}).openSession 1 0 99).roles 1 ≠ 0 ∧ ((dMg {}).openSession 1 0 98).roles 1 = 0 ∧ ((dMg {}).openSession 1 0 98).agentOf 1 = [] ∧
    ((dMg sOpen).session 1).isOpen = true ∧ ((dMg sOpen).session 1).port = 0 ∧ ((dMg sOpen).session 2).port = 0 ∧
    ((dMg { sOpen with port := 1 }).session 1).port ≠ 0 ∧ ((dMg { sOpen with xfer := some (xCa true) }).session 1).xfer ≠ none ∧
    ((dMg sOpen).session 1).xfer = none ∧ Obj.isSel .routeSel = true := by decide +kernel

theorem wit_read : up.takes rq = true ∧ target 0x1100 0x11 = some ⟨.mgmtRefused, 4, 0⟩ ∧ target 0x1100 0xFF = none ∧
    (up.fmMessage 0).readStatus ⟨.mgmtRefused, 4, 0⟩ 0 = 0 ∧ Obj.isCounter .mgmtRefused = true ∧ (up.fmMessage 0).holds 0 3 = true ∧
    target 0x1100 0x10 = some ⟨.ndpRequests, 4, 0⟩ ∧ target 0x1200 0x7 = some ⟨.lockState, 4, 0⟩ ∧ Obj.isCounter .lockState = false ∧
    (Obj.info .lockState).ty ≠ .domain ∧ (up.fmMessage 0).readStatus ⟨.caCert, 4, 0⟩ 0 ≠ 0 := by decide +kernel

theorem wit_write : target 0x9080 0x2 = some ⟨.snapTb, 4, 0⟩ ∧ (rowOf rq 0x9080 ⟨.snapTb, 4, 0⟩ 3).isNone = true ∧
    up.admits rq ⟨⟨.snapTb, 4, 0⟩, 1, 3⟩ = true ∧ (up.fmMessage 0).writeRule ⟨.snapTb, 4, 0⟩ 0 3 = true ∧
    (up.fmMessage 0).writeStatus ⟨⟨.snapTb, 4, 0⟩, 2, 3⟩ 0 ≠ 0 := by decide +kernel

theorem wit_write_rule : target 0x3000 0xD = some ⟨.tbRedundant, 0, 0⟩ ∧ (rowOf rq 0x3000 ⟨.tbRedundant, 0, 0⟩ 0).isNone = true ∧
    up.admits rq ⟨⟨.tbRedundant, 0, 0⟩, 1, 0⟩ = true ∧ (up.fmMessage 0).writeRule ⟨.tbRedundant, 0, 0⟩ 0 0 = false ∧
    up.admits rq ⟨⟨.tbRedundant, 0, 0⟩, 1, 1⟩ = true ∧ (up.fmMessage 0).writeRule ⟨.tbRedundant, 0, 0⟩ 0 1 = true ∧
    (rowOf rq 0x3000 ⟨.tbRedundant, 0, 0⟩ 1).isNone = true ∧
    (Obj.info .tbRedundant).acc = .rwp ∧ up.journals 0 [(⟨.tbRedundant, 0, 0⟩, 1)] = true := by decide +kernel

theorem wit_write_row : target 0x1200 0x6 = some ⟨.lockCmd, 4, 0⟩ ∧ up.writeStatus ⟨⟨.lockCmd, 4, 0⟩, 1, 1⟩ 0 = 0 ∧
    (match rowOf rq 0x1200 ⟨.lockCmd, 4, 0⟩ 1 with | some f => (match f { dev := up } with | .next u => u.dev.locked | _ => false) | none => false) = true := by
  decide +kernel

theorem wit_hub_commands : (∀ v ∈ [1, 2], up.admits rq ⟨⟨.lockCmd, 4, 0⟩, 1, v⟩ = true) ∧ up.journals 0 [(⟨.lockState, 4, 0⟩, 1)] = true ∧
    (up.set .lockState 4 0 1).admits rq ⟨⟨.lockCmd, 4, 0⟩, 1, 2⟩ = true ∧ (up.set .lockState 4 0 1).locked = true ∧
    up.admits rq ⟨⟨.factoryResetCmd, 4, 0⟩, 1, 1⟩ = true ∧ up.admitsNow rq ⟨⟨.snapCmd, 4, 0⟩, 1, 1⟩ = true := by decide +kernel

/-- A snapshot of `tb_state` of P0.TB0 at the instant `ns`. -/
def dSnap (ns : Nat) : Device := (up.set .snapObj 4 0 0x30000300).set .snapTime 4 0 (packTime ns)

theorem wit_snapshot : (dSnap 5).snapOk (dSnap 5).snapList = true ∧ up.snapOk up.snapList = false ∧
    ((List.range 4).filter (fun p => (dSnap 5).snapList.any (fun y => (snapTarget y.2).any (fun g => g.plane = p)) && (dSnap 5).answers p &&
      decide ((dSnap 5).tbNow p ((dSnap 5).get .snapTb 4 0) < unpackTime ((dSnap 5).get .snapTime 4 0)))) = [0] ∧
    ((List.range 4).filter (fun p => (dSnap 0).snapList.any (fun y => (snapTarget y.2).any (fun g => g.plane = p)) && (dSnap 0).answers p &&
      decide ((dSnap 0).tbNow p ((dSnap 0).get .snapTb 4 0) < unpackTime ((dSnap 0).get .snapTime 4 0)))) = [] := by decide +kernel

/-- The mailbox has the transfer open. -/
def dX (w : Bool) : Device := up.setSession 0 { xfer := some (xCa w) }

theorem wit_domain : (∀ w : Bool, up.domainStatus ⟨.caCert, 4, 0⟩ 0 w = 0 ∧ (dX w).openXfer rq 0x1200 4 w = (0, some (xCa w)) ∧ (dX w).takes rq = true ∧
      up.openXfer rq 0x1200 4 w = (0x0601, none)) ∧ target 0x1200 4 = some ⟨.caCert, 4, 0⟩ ∧ domainMax .caCert = 8192 ∧
    (up.fmMessage 0).domainStatus ⟨.lockState, 4, 0⟩ 0 true ≠ 0 ∧ crc32 [1, 2] = (xCa true).crc ∧ crc32 [1, 3] ≠ (xCa true).crc ∧
    up.journals 0 [(⟨.caCert, 4, 0⟩, bytesToNat (1 :: [1, 2]))] = true := by decide +kernel

/-- An NDP message of version `v`, service `svc` and REQ_ID 7. -/
def ndpMsg (v svc : Nat) : Bytes := natToBytes 16 (v * 2 ^ 120 + svc * 2 ^ 112 + 7 * 2 ^ 64)

theorem wit_mailbox : fld (beNat (ndpMsg 2 1) 0 16) 120 8 ≠ 1 ∧ fld (beNat (ndpMsg 1 9) 0 16) 112 16 = 0x0109 ∧ 16 ≤ (ndpMsg 2 1).length ∧
    fld (beNat (ndpMsg 1 9) 0 16) 104 8 = 0 ∧ fld (beNat (ndpMsg 1 9) 0 16) 32 8 = 0 ∧ fld (beNat (ndpMsg 1 9) 0 16) 0 16 = 0 ∧
    up.hub.mbStatus = 0 ∧ up.hub.romStay = false ∧ (up.session 0).responses = [] ∧ beNat (ndpMsg 2 1) 4 4 = 7 ∧
    ((up.setSession 0 { responses := [statusResp rq 0] }).session 0).responses.find? (fun r => r.id = 7) = some (statusResp rq 0) ∧
    ({ up with hub := { up.hub with mbStatus := 2 } } : Device).hub.mbStatus = 2 := by decide +kernel

theorem wit_cause : causeTarget 0x4B01 = some ⟨.cause, 0, 1⟩ ∧ causeTarget 0x4B0F = none ∧ up.admits rq ⟨⟨.cause, 0, 1⟩, 4, 3⟩ = true ∧
    ((dMg { sOpen with filters := [some (0, 2 ^ 32 - 1)] }).session 1).isOpen = true ∧
    (((dMg { sOpen with filters := [some (0, 2 ^ 32 - 1)] }).fmMessage 0).session 1).filters = [some (0, 2 ^ 32 - 1)] := by decide +kernel

theorem wit_events : (dMg sOpen).takes rq1 = true ∧ (dMg sOpen).takes rq = true ∧ (dMg sOpen).holds 1 0xF = true ∧
    (dMg { sOpen with fp := 98 }).holds 1 0xF = false ∧ (dMg { sOpen with fp := 98 }).takes rq1 = true ∧
    ((dMg sOpen).session 1).filters.getD 0 none = none ∧
    (∀ k < 8, ((dMg { sOpen with filters := List.replicate 8 (some (0, 1)) }).session 1).filters.getD k none ≠ none) := by decide +kernel

/-- Slot 5 of the host window shows the hub's `power_limit_w`, slot 6 `plane_recoveries` of plane 1, in a condition of its own. -/
def dShown (c : Cond) : Device :=
  ((up.set .hwMap 4 5 (0x2100 * 2 ^ 16 + 2 * 2 ^ 8)).set .hwMap 4 6 (0x5A00 * 2 ^ 16 + 0xC * 2 ^ 8)).setPlane 1 { cond := c }

theorem wit_host_window : (dShown .running).get .hwMap 4 4 = 0 ∧ (dShown .running).get .hwMap 4 5 ≠ 0 ∧ (dShown .running).get .hwMap 4 6 ≠ 0 ∧
    target (fld ((dShown .running).get .hwMap 4 5) 16 16) (fld ((dShown .running).get .hwMap 4 5) 8 8) = some ⟨.powerLimitW, 4, 0⟩ ∧
    target (fld ((dShown .running).get .hwMap 4 6) 16 16) (fld ((dShown .running).get .hwMap 4 6) 8 8) = some ⟨.planeRecoveries, 1, 0⟩ ∧
    (dShown .running).answers 1 = true ∧ (dShown .halted).answers 1 = false ∧ (Obj.info .powerLimitW).ty ≠ .time ∧
    (((dShown .running).readBytes .powerLimitW 4 0).reverse).length ≤ 15 ∧
    (dShown .running).windowRead (16 * 5) 2 = [0x6C, 0x07] := by decide +kernel

theorem wit_high_water : up.hasTenant 1 3 = false ∧ (up.set .tnState 1 3 1).hasTenant 1 3 = true := by decide +kernel

/-! ### Health -/

/-- Plane 0 with port 5 in state `st`. -/
def dPort (st : Nat) : Device := up.set .portState 0 5 st

theorem wit_lane : ∀ st ∈ [2, 3, 4], bit ((dPort st).get .portLaneRetired 0 5) 1 = false ∧ (dPort st).get .portState 0 5 = st ∧
    (dPort st).retired 0 (chan 1 (4 * 5 + 1)) = false ∧ ((dPort st).port 0 5).window = false ∧ (dPort st).retired 0 (chan 2 5) = false ∧
    ((dPort st).setChanState 0 (chan 7 3) 4).retired 0 (chan 7 3) = true ∧ (dPort st).retired 0 (chan 7 3) = false ∧
    (dPort st).retired 0 (chan 10 0) = false := by decide +kernel

theorem wit_rejoin : ((up.setChan 0 (chan 8 2) { retry := true }).chanSt 0 (chan 8 2)).retry = true ∧ up.inBundle 0 2 = false ∧
    (up.set .lhBundle 0 0 4).inBundle 0 2 = true := by decide +kernel

/-- Channel 0x10B5 (Example 19.1) with `k` events in the window and `o` windows over the threshold behind it. -/
def dHw (k o : Nat) : Device := (up.setChan 0 0x10B5 { count := k }).set .hfChanOver 0 0x10B5 o

theorem wit_health_window (c : Nat) (hc : c ≠ 0x10B5) : ((dHw 60 2).chanSt 0 c).count = 0 ∧ (dHw 60 2).get .hfChanWindow 0 c = 0 ∧ (dHw 60 2).get .hfChanOver 0 c = 0 := by
  have n {a b : Nat} {o : Obj} (h : a ≠ b) : (⟨o, 0, a⟩ : Key) ≠ ⟨o, 0, b⟩ := fun e => h (congrArg Key.idx e)
  refine ⟨?_, rfl, ?_⟩
  · unfold Device.chanSt dHw Device.set Device.setChan
    rw [Tbl.get_put, if_neg (by simp [hc])]; rfl
  · unfold dHw Device.get Device.set
    dsimp only
    rw [Tbl.get_put_ne _ _ _ _ _ _ _ (n hc)]; rfl

theorem wit_health_window_at : (dHw 60 2).threshold 0 (chanCode 0x10B5) = some 16 ∧ (dHw 60 2).retired 0 0x10B5 = false ∧ chanOk 0x10B5 = true ∧
    chanCode 0x10B5 ≠ 3 ∧ (dHw 60 2).chanState 0 0x10B5 = 0 ∧ ((dHw 60 2).chanSt 0 0x10B5).count = 60 := by decide +kernel

/-- The diagnostic selectors name W1 of F045 on plane 0. -/
def dDiag : Device := (up.set .diagChanSel 4 0 0x10B5).set .hfChanSel 0 0 0x10B5

theorem wit_channel_commands : dDiag.admits rq ⟨⟨.diagInjectCmd, 4, 0⟩, 1, 1⟩ = true ∧ dDiag.sel .diagChanSel 4 0 0 = 0x10B5 ∧
    dDiag.get .diagPlane 4 0 = 0 ∧ dDiag.live 0 = true ∧ (dDiag.plane 0).cond ≠ .maintenance ∧ dDiag.retired 0 0x10B5 = false ∧
    dDiag.sel .hfChanSel 0 0 0 = 0x10B5 ∧ (∀ st ∈ [0, 4], ∀ o ∈ [Obj.hfRestoreCmd, .hfRetireCmd],
      (dDiag.setChanState 0 0x10B5 st).admits rq ⟨⟨o, 0, 0⟩, 1, 1⟩ = true) ∧ (dDiag.setChanState 0 0x10B5 4).retired 0 0x10B5 = true ∧
    (up.set .diagChanSel 4 0 0xA000).sel .diagChanSel 4 0 0 = 0xA000 ∧ chanCode 0xA000 = 10 ∧
    (dDiag.setPlane 0 { cond := .retired }).live 0 = false ∧ (dDiag.setPlane 0 { cond := .retired }).admits rq ⟨⟨.hfRetireCmd, 0, 0⟩, 1, 1⟩ = true ∧
    (up.set .hfChanSel 0 0 0x1FFF).sel .hfChanSel 0 0 0 = 0x1FFF ∧ chanOk 0x1FFF = false := by decide +kernel

/-- Plane 0 as said. -/
def dPl (x : PlaneSt) : Device := up.setPlane 0 x

theorem wit_recovery : ∀ c ∈ [Cond.running, .recovering, .maintenance], (dPl { cond := c, recoveryDue := true }).live 0 = true ∧
    (dPl { cond := c, recoveryDue := true }).hubUp = true ∧ ((dPl { cond := c, recoveryDue := true }).plane 0).recoveryDue = true ∧
    ((dPl { cond := c, recoveryDue := true, recoveries := [0, 0] }).plane 0).recoveries.filter
      (fun i => decide ((dPl { cond := c }).clock ≤ i + 3600 * 1000000000)) = [0, 0] ∧
    (∀ n < 128, ((dPl { cond := c, recoveryDue := true }).port 0 n).window = false) ∧ (dPl { cond := .retired }).live 0 = false ∧
    (∀ r ∈ [c, .retired], (dPl { cond := r }).admits rq ⟨⟨.planeRecoverCmd, 0, 0⟩, 1, 1⟩ = true) := by decide +kernel

theorem wit_recovery_end : let d := (dPl { cond := .recovering, recoveryInit := true }).set .planeRecoverCmd 0 0 1
    (d.plane 0).cond = .recovering ∧ (d.plane 0).recoveryInit = true ∧ (d.plane 0).recoveryDue = false ∧ d.get .planeRecoverCmd 0 0 = 1 ∧
    d.live 0 = true := by decide +kernel

/-- Plane 0 with every port administratively down. -/
def dIdle (c : Cond) : Device :=
  ((List.range 4).foldl (fun d l => d.set .lhAdmin 0 l 0) ((List.range 128).foldl (fun d n => d.set .portAdmin 0 n 0) (dPl { cond := c })))

theorem wit_maintenance : (dIdle .running).maintOk 0 = true ∧ up.maintOk 0 = false ∧ ((dIdle .maintenance).plane 0).cond = .maintenance ∧
    (∀ c ∈ [Cond.running, .maintenance], (dPl { cond := c }).admits rq ⟨⟨.maintCmd, 0, 0⟩, 1, 1⟩ = true ∧
      (dPl { cond := c }).admits rq ⟨⟨.maintCmd, 0, 0⟩, 1, 2⟩ = true ∧ (dPl { cond := c }).admits rq ⟨⟨.fuseCmd, 0, 0⟩, 1, 1⟩ = true ∧
      (dPl { cond := c }).admits rq ⟨⟨.diagFullBistCmd, 4, 0⟩, 1, 1⟩ = true) ∧
    (dIdle .running).admits rq ⟨⟨.maintCmd, 0, 0⟩, 1, 1⟩ = true ∧ chanOk (0x10B5#16).toNat = true ∧ chanCode (0x10B5#16).toNat ≠ 3 ∧
    (dPl { cond := .maintenance }).retired 0 0x10B5 = false := by decide +kernel

theorem wit_log : let d := { dPl { cond := .maintenance } with hub := { up.hub with retireLog := [⟨0, 0x10B5, 2, 0⟩] } }
    d.journals 0 [(⟨.retireLog, 4, 0⟩, logValue [⟨0, 0x10B5, 3, 0⟩])] = true ∧ d.journals 0 [(⟨.retireLog, 4, 0⟩, logValue [])] = true ∧
    d.admits rq ⟨⟨.retireClearCmd, 4, 0⟩, 1, 1⟩ = true ∧ d.get .retireClearPlane 4 0 = 0 ∧ d.admits rq ⟨⟨.replCmd, 4, 0⟩, 1, 1⟩ = true ∧
    d.admits rq ⟨⟨.replCmd, 4, 0⟩, 1, 2⟩ = true ∧ d.get .replReasons 4 0 = 0 := by decide +kernel

/-- The rotation of plane 0 stands at unit `u`. -/
def dBist (u : Nat) (x : BistSt) : Device := (up.set .bistRotationPos 0 0 u).setBist 0 x

theorem wit_bist_start : ((dBist 0 {}).plane 0).cond = .running ∧ (dBist 0 {}).get .bistEnable 0 0 = 1 ∧ (dBist 0 {}).get .opLevel 4 0 = 0 ∧
    ((dBist 0 {}).bist 0).unit = none ∧ (∀ u ∈ [0, 20, 420, 484, 1780, 1822], (dBist u {}).bistBlocked 0 u = false ∧ (dBist u {}).get .bistRotationPos 0 0 = u) ∧
    ((dBist 0 {}).setKiteState 0 0 20 4).bistBlocked 0 0 = true ∧ (dBist 0 {}).handOverOk 0 0 0 = true ∧
    ((dBist 0 {}).setKiteState 0 0 0 5).handOverOk 0 0 0 = false ∧ ((dBist 0 {}).setKiteState 0 0 0 5).bistBlocked 0 0 = false ∧
    (dBist 1780 {}).freeSpare 0 (unitOf (bistChan 1780)).1 = some 8 ∧ (unitOf (bistChan 1780)).2 < grpUnits (unitOf (bistChan 1780)).1 ∧
    grpUnits (unitOf (bistChan 484)).1 ≤ (unitOf (bistChan 484)).2 := by decide +kernel

theorem wit_bist_end : ∀ i ∈ [0, 20, 1780], ∀ a : Bool, ((dBist i { unit := some i, again := a }).bist 0).unit = some i ∧
    ((dBist i { unit := some i, again := a }).bist 0).again = a ∧ (dBist 0 {}).kiteState 0 0 0 ≠ 5 ∧
    ((dBist 0 {}).setKiteState 0 0 0 5).kiteState 0 (0 / 21) (0 % 21) = 5 := by decide +kernel

theorem wit_ageing : monOk 0x1003 = true ∧ monRises 0x1003 = false ∧ up.monLimit 0 0x1003 = 300 ∧ monOk 0x6003 = true ∧ monRises 0x6003 = true ∧
    up.monLimit 0 0x6003 = 100000 ∧ monOk 0x7000 = false ∧ ((up.set .planeHorizonDays 0 0 100).set .monHorizonDays 0 5 100).live 0 = true := by decide +kernel

/-- Island 3 with 4.4 % of slack, a heater swing of 3,000 µW on chiplet 1, and 200 corrected errors an hour in pseudo-channel 7. -/
def dMar : Device :=
  (((up.set .monValue 0 (4096 + 3) 440).setMon 0 (4096 + 3) { today := some 440 }).setCal 0 1 { swing := [(5, 1000, 4000)] }).set .monValue 0 (6 * 4096 + 7) 20000

theorem wit_margins : dMar.live 0 = true ∧ (dMar.mon 0 (4096 + 3)).today ≠ none ∧ toSigned 32 (dMar.get .monValue 0 (4096 + 3)) = 440 ∧
    10000 < toSigned 32 (dMar.get .monValue 0 (6 * 4096 + 7)) ∧ (dMar.mon 0 (4096 + 4)).today = none ∧
    dMar.admits rq ⟨⟨.replanCmd, 0, 0⟩, 1, 1⟩ = true ∧ (dMar.setPlane 0 { cond := .retired }).admits rq ⟨⟨.replanCmd, 0, 0⟩, 1, 1⟩ = true ∧
    (dMar.setPlane 0 { cond := .retired }).live 0 = false := by decide +kernel

/-! ### State copy -/

/-- Plane 0 in a session of tenant 3 whose only region, 5, is replicated to region 6 of device 31; state `st`. -/
def dSc (st : Nat) (x : ScSt) : Device :=
  ((((((dRgn 1 (2 ^ 48) {}).set .rgnPeerDevice 0 5 31).set .rgnPeerRegion 0 5 6).set .scState 0 0 st).set .scTenant 0 0 3).set .scSourceDevice 0 0 30).setSc 0 x

theorem wit_sc_cmd : (∀ v ∈ [1, 2], ∀ st ∈ [0, 2], (dSc st {}).admitsNow rq ⟨⟨.scCmd, 0, 0⟩, 1, v⟩ = true) ∧
    (dSc 0 {}).scStartOk 0 = true ∧ (dSc 0 {}).scRegions 0 ((dSc 0 {}).get .scTenant 0 0) = [5] ∧ (dSc 2 {}).scStartOk 0 = false ∧
    ((dSc 0 {}).set .rgnDesc 0 5 0).scStartOk 0 = true ∧ ((dSc 0 {}).set .rgnDesc 0 5 0).scRegions 0 3 = [] ∧
    (dSc 2 {}).scRuns 0 = true ∧ (dSc 0 {}).scRuns 0 = false := by decide +kernel

/-- A page of region 6 of device 31, version 41. -/
def fPage (b : Bytes) : Frame := fr { opcode := opCkptData, cls := 1, tenant := 3, srcDevice := 31, context := 6, flowSeq := 41, offset := 1 } b.length b

theorem wit_sc_page : ∀ n ∈ [1, 2], ∀ b ∈ [[], [7]], let d := dSc 1 { flight := [(5, 1, n)] }
    d.live 0 = true ∧ (d.takeIn 0 ckptSw (fPage b)).scExpects 0 (fPage b) = some (5, 1, n) ∧ ((fPage b).length = 0 ↔ b = []) ∧
    (d.takeIn 0 ckptSw (fPage b)).scExpects 0 f0 = none ∧ (d.sc 0).todo = [] ∧
    ((d.takeIn 0 ckptSw (fPage b)).alloc 0 ckptPool ((d.takeIn 0 ckptSw (fPage b)).rgnReq 0 5)).2.isSome = true ∧
    ((d.set .quotaBuffers 0 (quotaIdx 4 3) 0).alloc 0 ckptPool (d.rgnReq 0 5)).2 = none := by decide +kernel

/-- A control frame of device 30 (or `src`) for tenant 3. -/
def fSc (src v : Nat) : Frame := fr { opcode := opStateCopy, cls := 0, tenant := 3, srcDevice := src } 32 (natToBytes 32 v)

/-- A REQUEST for an object boundary: value 5 of object 16, one object, no slot. -/
def vReq : Nat := 2 ^ 248 + 2 ^ 232 + 16 * 2 ^ 208 + 2 ^ 192 + 16 * 2 ^ 144 + 5 * 2 ^ 64

/-- The source plane, whose object 16 holds `v`. -/
def dSrc (v : Nat) (r : Option Frame) : Device :=
  ((((dSc 0 { serving := r }).set .scServeDevice 0 0 31).set .tnSyncRange 0 3 (16 * 2 ^ 16 + 1)).set .syncValue 0 16 v)

theorem wit_sc_request : (fSc 31 vReq).payload.length = 32 ∧ fld (bytesToNat (fSc 31 vReq).payload) 248 8 = 1 ∧
    ((dSrc 4 none).takeIn 0 scSw (fSc 31 vReq)).scRefusal 0 (fSc 31 vReq) = 0 ∧ (dSrc 4 none).scRefusal 0 (fSc 32 vReq) = 0x10 ∧
    (dSrc 4 (some f0)).scRefusal 0 (fSc 31 vReq) = 0x12 ∧ (dSrc 5 none).scRefusal 0 (fSc 31 vReq) = 0x13 ∧
    ((dSrc 4 none).set .tnSyncRange 0 3 0).scRefusal 0 (fSc 31 vReq) = 0x11 := by decide +kernel

theorem wit_sc_boundary : ((dSrc 4 (some (fSc 31 vReq))).sc 0).serving = some (fSc 31 vReq) ∧ rqKind (bytesToNat (fSc 31 vReq).payload) = 1 ∧
    (dSrc 4 none).scReached 0 (bytesToNat (fSc 31 vReq).payload) = false ∧ (dSrc 5 none).scReached 0 (bytesToNat (fSc 31 vReq).payload) = true ∧
    ((dSrc 4 none).sc 0).serving = none := by decide +kernel

/-- An ARMED session with device 30 for one object, 16, and slot 4. -/
def dArm (x : ScSt) : Device := dSc 2 { x with req := vReq + 4 * 2 ^ 176 + 2 ^ 160, dev := 30, tenant := 3 }

/-- An OBJECTS frame with one value, 9; a SLOTS frame with slot 4, generation 8, READY, launch 77. -/
def fObjs : Frame := fr { opcode := opStateCopy, cls := 0, tenant := 3, srcDevice := 30 } 16 (natToBytes 8 (2 * 2 ^ 56 + 2 ^ 32) ++ natToBytes 8 9)
def eSlot : Nat := 4 * 2 ^ 112 + 8 * 2 ^ 104 + 1 * 2 ^ 96 + 77
def fSlots : Frame := fr { opcode := opStateCopy, cls := 0, tenant := 3, srcDevice := 30 } 24 (natToBytes 8 (3 * 2 ^ 56 + 2 ^ 32) ++ natToBytes 16 eSlot)

theorem wit_sc_armed : (dArm {}).get .scState 0 0 = 2 ∧ (fSc 30 0).srcDevice = ((dArm {}).sc 0).dev ∧ (fSc 30 0).tenant = ((dArm {}).sc 0).tenant ∧
    ¬ (fSc 31 0).srcDevice = ((dArm {}).sc 0).dev ∧ fObjs.srcDevice = ((dArm {}).sc 0).dev ∧ fSlots.tenant = ((dArm {}).sc 0).tenant ∧
    scEntries fObjs 2 511 8 = [9] ∧ scEntries fSlots 3 255 16 = [eSlot] ∧ rqSlotList ((dArm {}).sc 0).req = [4] ∧ rqSyncs ((dArm {}).sc 0).req = 1 := by
  decide +kernel

theorem wit_sc_done : ((dArm { objs := [(16, 9)] }).sc 0).objs = [(16, 9)] ∧ (dArm { objs := [(16, 9)] }).activeSlots 0 = [] ∧
    ((dArm { slots := [eSlot] }).sc 0).slots = [eSlot] ∧ fld eSlot 96 8 ≠ 2 ∧ fld eSlot 96 8 ≠ 3 ∧
    ((((dArm { slots := [eSlot] }).takeIn 0 scSw (fSc 30 0)).scSetSlot 0 eSlot).setSc 0 { serving := ((dArm { slots := [eSlot] }).sc 0).serving }).still 0 = true := by
  decide +kernel

/-! ### Reset, boot, clocks and power -/

theorem wit_pulse : up.hub.vddIo = true ∧ { up.hub with vddIo := false }.vddIo = false ∧ (∀ low ∈ [101, 999999], 100 < low ∧ low < 1000000) ∧
    100 < 9999 ∧ up.hub.factoryPending = false ∧ up.hub.lockPendingRelease = false ∧ keptObjs.contains Obj.rollbackFloor = true ∧
    keptObjs.contains Obj.powerLimitW = false ∧ Obj.powerLimitW.computed = false := by decide

theorem wit_planeReset : Key.ofPlane ⟨.portAdmin, 1, 4⟩ 1 = true ∧ ¬ ((4 : Nat) = 1 ∧ Key.ofPlane ⟨.powerLimitW, 4, 0⟩ 1 = true) ∧
    (up.set .planeResetSel 4 0 1).admits rq ⟨⟨.planeResetCmd, 4, 0⟩, 1, 1⟩ = true ∧
    (up.set .planeResetSel 4 0 1).sel .planeResetSel 4 0 rq.ses.val = 1 := by decide +kernel

/-- After power-good, with a trip in the journal, an unreadable journal and plane 2 without its clock. -/
def dBoot : Device := { ({} : Device) with hub := { tripReason := true, jnlUnreadable := true }, planes := (List.range 4).map (fun p => ((p, 0), { cond := if p = 3 then .waiting else .inReset, clockLost := p == 2 })) }

theorem wit_boot : dBoot.hub.awaitBoot = true ∧ dBoot.hub.running = false ∧ (∀ r ∈ dBoot.hub.jnl, ∀ e ∈ r.vals, e.1.obj ≠ .bootImage) ∧
    dBoot.hub.tripReason = true ∧ dBoot.hub.jnlUnreadable = true ∧ (dBoot.plane 1).cond ∈ [Cond.inReset, .waiting] ∧ (dBoot.plane 3).cond ∈ [Cond.inReset, .waiting] ∧ (dBoot.plane 1).clockLost = false ∧
    up.hub.awaitBoot = false := by decide

/-- Plane 1 has lost its clock and stands as said. -/
def dClk (c : Cond) : Device := up.setPlane 1 { cond := c, clockLost := true }

theorem wit_refclk : (up.plane 1).clockLost = false ∧ up.live 1 = true ∧ up.hubUp = true ∧ ((dClk .halted).plane 1).clockLost = true ∧
    ((dClk .halted).plane 1).cond = .halted ∧ (up.setPlane 1 { cond := .retired }).live 1 = false := by decide

/-- Plane 1 waits for its initialisation: in reset, or in a recovery. -/
def dIn (c : Cond) (role : Nat) : Device := (up.setPlane 1 { cond := c }).set .planeRole 4 1 role

theorem wit_planeInit : (∀ c ∈ [Cond.inReset, .recovering], (dIn c 0).hubUp = true ∧ ((dIn c 0).plane 1).clockLost = false ∧
      ((dIn c 0).plane 1).cond = c ∧ ((dIn c 0).plane 1).recoveryDue = false ∧ ((dIn c 0).plane 1).recoveryInit = false) ∧
    (dIn .inReset 2).get .planeRole 4 1 % 256 = 2 ∧ (dIn .inReset 0).get .planeRole 4 1 % 256 ≠ 2 ∧
    (∀ e ∈ (dIn .inReset 0).hub.retireLog, e.plane = 1 → e.chan ≠ chan 10 0) ∧
    (∀ r ∈ (dIn .inReset 0).hub.jnl, ∀ e ∈ r.vals, e.1.plane = 4 ∨ e.1.obj ≠ .retireLog) := by decide

theorem wit_avs_asks : 1 < 4 ∧ 5 < 96 ∧ (up.plane 1).cond ≠ .disabled ∧ (up.plane 1).cond ≠ .retired := by decide

/-- Whatever the islands ask for, some request is the highest. -/
theorem exists_highest (f : Nat → Nat) (n : Nat) : ∃ i ≤ n, ∀ j ≤ n, f j ≤ f i := by
  induction n with
  | zero => exact ⟨0, Nat.le_refl 0, fun j hj => by rw [Nat.le_zero.mp hj]⟩
  | succ n ih =>
    obtain ⟨i, hi, h⟩ := ih
    by_cases c : f i ≤ f (n + 1)
    · refine ⟨n + 1, Nat.le_refl _, fun j hj => ?_⟩
      rcases Nat.lt_or_ge n j with hl | hl
      · have : j = n + 1 := by omega
        rw [this]
      · exact Nat.le_trans (h j hl) c
    · refine ⟨i, by omega, fun j hj => ?_⟩
      rcases Nat.lt_or_ge n j with hl | hl
      · have : j = n + 1 := by omega
        rw [this]; omega
      · exact h j hl

/-- Only plane 0 is in use. -/
def dAvs : Device := { up with planes := (List.range 4).map (fun p => ((p, 0), { cond := if p = 0 then .running else .retired })) }

theorem wit_avs : dAvs.hubUp = true ∧ dAvs.hub.vddIo = true ∧ dAvs.hub.avsFails < 2 ∧ 2 ≤ ({ dAvs.hub with avsFails := 2 } : HubSt).avsFails ∧
    dAvs.hub.avsLowSince = none ∧ (∃ m, (∃ q i, q < 4 ∧ i < 96 ∧ (dAvs.plane q).cond ≠ .disabled ∧ (dAvs.plane q).cond ≠ .retired ∧ dAvs.islandMv q i = m) ∧
      ∀ q i, q < 4 → i < 96 → (dAvs.plane q).cond ≠ .disabled ∧ (dAvs.plane q).cond ≠ .retired → dAvs.islandMv q i ≤ m) ∧
    (∀ v, (dAvs.set .vddCoreMv 4 0 650).get .vddCoreMv 4 0 ≤ min 850 (max 650 v)) ∧
    (∀ v, min 850 (max 650 v) < (dAvs.set .vddCoreMv 4 0 851).get .vddCoreMv 4 0) := by
  refine ⟨by decide, by decide, by decide, by decide, by decide, ?_, fun v => ?_, fun v => ?_⟩
  · obtain ⟨i, hi, h⟩ := exists_highest (dAvs.islandMv 0) 95
    refine ⟨dAvs.islandMv 0 i, ⟨0, i, by decide, by omega, by decide, by decide, rfl⟩, fun q j hq hj hc => ?_⟩
    have : q = 0 := by
      rcases q with _ | _ | _ | _ | q
      · rfl
      · exact absurd (by decide) hc.2
      · exact absurd (by decide) hc.2
      · exact absurd (by decide) hc.2
      · omega
    subst this
    exact h j (by omega)
  · rw [show (dAvs.set .vddCoreMv 4 0 650).get .vddCoreMv 4 0 = 650 by decide +kernel]; omega
  · rw [show (dAvs.set .vddCoreMv 4 0 851).get .vddCoreMv 4 0 = 851 by decide +kernel]; omega

/-- Rail 1 reads low, rail 2 does not answer. -/
def rails : List RailReading :=
  [⟨true, 750, 100000⟩, ⟨true, 700, 1⟩, ⟨false, 0, 0⟩, ⟨true, 1259, 0⟩, ⟨true, 1100, 1⟩, ⟨true, 1800, 1⟩, ⟨true, 3300, 1⟩, ⟨true, 800, 1⟩]

theorem wit_rails : rails.length = 8 ∧ rails[1]? = some ⟨true, 700, 1⟩ ∧ 800 * 3 < (800 - 700 + (700 - 800)) * 100 ∧
    rails[2]? = some ⟨false, 0, 0⟩ ∧ ¬ 1200 * 5 < (1200 - 1259 + (1259 - 1200)) * 100 := by decide

/-- The operating point and the package power as said. -/
def dOp (now w : Nat) : Device := (up.set .opLevel 4 0 now).set .pkgPowerW 4 0 w

theorem wit_points : (∀ n ∈ [0, 1, 2], (dOp n 0).get .opLevel 4 0 = n) ∧ (dOp 0 1900).get .pkgPowerW 4 0 = 1900 ∧ up.get .powerLimitW 4 0 = 1900 := by
  decide +kernel

theorem wit_chiplet : up.live 1 = true ∧ (up.cal 1 2).round = none ∧ up.get .ringState 1 (2 * 256 + 5) ≠ 4 ∧
    bit (up.port 1 64).holdDown 1 = false ∧ up.get .portState 1 64 ≠ 5 ∧ (up.setPlane 1 { cond := .halted }).live 1 = false := by decide +kernel

theorem wit_trip : up.live 2 = true ∧ (up.setPlane 1 { cond := .inReset }).live 1 = false ∧ (up.setPlane 2 { cond := .retired }).live 2 = false ∧ up.hubUp = true ∧
    (up.journal [(⟨.resetReason, 4, 0⟩, 2)]).2 = true := by decide +kernel

/-- The hub in its boot ROM. -/
def dRom : Device := { up with hub := { awaitBoot := false, romStay := true } }

theorem wit_firmware : (∀ d ∈ [up, dRom], d.romServed rq.ses.val = true ∧ (∀ r ∈ (d.session rq.ses.val).responses, r.id ≠ rq.id.toNat) ∧
      (∀ v ∈ [1, 2], (d.fmMessage rq.ses.val).writeStatus ⟨⟨.fwUpdateCmd, 4, 0⟩, 1, v⟩ rq.ses.val = 0) ∧ d.get .fwUpdateCmd 4 0 ≠ 1) ∧
    up.hub.running = true ∧ dRom.hub.running = false := by decide +kernel

/-! ### The machine as a whole -/

theorem wit_regsWf : (up.set .powerLimitW 4 0 1500).RegsWf = true ∧ ((up.set .powerLimitW 4 0 1500).set .cause 1 2 16).RegsWf = true := by
  decide +kernel

theorem wit_partition : up.takes rq = true ∧ (up.port 1 70).fenced = false ∧ up.get .portAdmin 1 70 ≠ 0 ∧ (up.set .portAdmin 1 70 0).get .portAdmin 1 70 = 0 ∧
    (∀ o ∈ [Obj.portPartition, .lhPortPartition], (up.fmMessage 0).writeStatus ⟨⟨o, 1, 3⟩, 1, 0xFE⟩ 0 = 0 ∧
      up.journals 0 [(⟨o, 1, 3⟩, 0xFE)] = true) ∧
    up.get .lhAdmin 1 3 ≠ 0 ∧ bit (up.get .fencedLongHaul 1 0) 3 = false ∧ (up.set .lhAdmin 1 3 0).get .lhAdmin 1 3 = 0 ∧
    up.role 1 = 0 ∧ (up.set .planeRoleActive 4 1 1).role 1 = 1 ∧ (up.set .planeRoleActive 4 1 1).takes rq = true := by decide +kernel

/-- The hub is silent and plane 1 waits for it. -/
def dSilent : Device := { up with hub := { up.hub with silent := true } }.setPlane 1 { cond := .waiting }

theorem wit_wait : dSilent.hubUp = false ∧ dSilent.hub.vddIo = true ∧ (dSilent.plane 1).cond = .waiting ∧ dSilent.hub.running = true ∧
    (dSilent.plane 1).clockLost = false := by decide

/-! ### Every command, and the line -/

theorem wit_undefined_pulse : up.hub.vddIo = true ∧ ({ up with hub.vddIo := false } : Device).hub.vddIo = false ∧ 100 < 5000 ∧ 5000 < 1000000 ∧ 5000 < 10000 := by
  decide +kernel

/-- A frame without a payload and one with eleven bytes. -/
def fBare : Sys2Proof.Frame := { hdr := 5, payload := [], trailer := 0 }
def fLong : Sys2Proof.Frame := { hdr := 7, payload := [1, 2, 3, 4, 5, 6, 7, 8, 9, 10, 11], trailer := 77 }

theorem wit_line : (fBare.payload = [] → fBare.trailer = 0) ∧ (fLong.payload = [] → fLong.trailer = 0) ∧
    lineFrames (some [1]) (lineOf [(3, fLong), (0, fBare), (2, fLong)]) = [fLong, fBare, fLong] ∧
    ({ up with out := [.lfl 0 5 fLong, .lfl 0 6 fBare] } : Device).sentOn 0 5 = [fLong] ∧ (0xD4 : Byte) ≠ 0xD5 := by decide +kernel

theorem test_start_block_carries_0xD5 : frameBlocks fLong = [.start 0xD5, .data [0, 0, 0, 0, 0, 0, 0, 0], .data [0, 0, 0, 0, 0, 0, 0, 0],
    .data [0, 0, 0, 0, 0, 0, 0, 0], .data [0, 0, 0, 0, 0, 0, 0, 7], .data [1, 2, 3, 4, 5, 6, 7, 8], .term [9, 10, 11, 0, 0, 0, 77]] := by decide +kernel

end Sys2Proof.Tests
end

/-! ## The scope of a step

What `step` does with a waiting command and with an empty queue, and that a word leaves the queue as it is
(spec/00_scope.md R8, assumption log 2). -/

namespace Sys2Proof

@[simp] theorem decodeTableWord_eq_none (nbits w : Nat) : decodeTableWord nbits w = none := rfl

namespace Machine

theorem step_of_pending_cons {s : State} {c : Instr} {rest : List Instr} (h : s.pending = c :: rest) :
    step s = exec c { s with pending := rest } := by
  rw [step, h]

theorem step_of_pending_nil {s : State} (h : s.pending = []) :
    step s = .next { s with dev := { s.dev with clock := s.dev.clock + 1 } } := by
  rw [step, h]

theorem State.withFetchWord_of_decode_none {s : State} {nbits w : Nat} (h : decodeTableWord nbits w = none) :
    s.withFetchWord nbits w = s := by
  rw [State.withFetchWord, h]

/-- Settles O54: the two branches of `step` on the shape of the queue, and no word spells a command. -/
theorem stepTakesTheFront : Obligations.StepTakesTheFront := by
  intro c s rest nbits w
  have hword := decodeTableWord_eq_none nbits w
  exact ⟨step_of_pending_cons rfl, step_of_pending_nil rfl, hword, State.withFetchWord_of_decode_none hword⟩

end Machine

end Sys2Proof

namespace Sys2Proof.Machine

/-! ### Liveness of hub, planes and fault manager (spec/02 R31, spec/01 R19, spec/18 R401) -/

/-- A raised cause stands after the command that raised it. -/
theorem Device.bit_settle_latch (d : Device) {p i b u : Nat} (h : b < 32) :
    bit ((d.latch p i b u).settle.get .cause p i) b = true := by
  rw [Device.get_settle _ _ _ _ rfl]
  exact Device.bit_latch d p i b u h

/-- A command whose effect ends in raising a cause moves that cause and nothing else. -/
theorem Device.frame_settle_latch (d : Device) (p i b u : Nat) :
    Device.Frame d (d.latch p i b u).settle (causeRegs p i) :=
  (Device.frame_latch d p i b u _ (fun _ _ _ h => h)).trans (Device.frame_settle _ _)

theorem Device.answers_setPlane_of_notAnswering (d : Device) (p : Nat) {v : PlaneSt} (h : v.notAnswering = true) :
    (d.setPlane p v).answers p = false := by
  simp [Device.answers, Device.plane_setPlane, h]

theorem Device.snapAbsent_of_unarmed {d : Device} {p : Nat} (h : d.snap.armed = false) : d.snapAbsent p = d := by
  simp [Device.snapAbsent, h]

theorem quiet_hubUp : Quiet Device.hubUp :=
  ⟨fun _ _ _ _ _ => rfl, fun _ _ => rfl, fun _ _ _ => rfl,
    fun _ _ h => (congrArg (fun c : HubSt => c.running && !c.silent) h :), fun _ _ => rfl⟩

theorem quiet_plane (q : Nat) : Quiet (·.plane q) :=
  ⟨fun _ _ _ _ _ => rfl, fun _ _ => rfl, fun _ _ _ => rfl, fun _ _ _ => rfl, fun _ _ => rfl⟩

/-! #### The parts of the hub's return -/

theorem Device.plane_passEntries (d : Device) (p q : Nat) :
    (d.passEntries p).plane q = if q = p ∧ d.hubUp = true then { d.plane p with unlogged := [] } else d.plane q := by
  unfold Device.passEntries
  by_cases hup : d.hubUp = true
  · by_cases hlog : (d.plane p).unlogged = []
    · by_cases hq : q = p
      · subst hq
        have hplane : ({ d.plane q with unlogged := [] } : PlaneSt) = d.plane q := by rw [← hlog]
        simp [hlog, hup, hplane]
      · simp [hlog, hq]
    · have hlogged : ∀ (l : List (Nat × Nat × Nat)) (e : Device),
          (l.foldl (fun d x => d.logEntry { plane := p, chan := x.1, kind := x.2.1, at_ := x.2.2 }) e).plane q = e.plane q :=
        foldl_keeps (·.plane q) _ (fun e x => (quiet_plane q).logEntry e _)
      simp only [hup, hlog, ne_eq, not_false_eq_true, decide_true, Bool.and_self, if_true, and_true, hlogged,
        Device.plane_setPlane]
  · simp [hup]

theorem Device.hubUp_passEntries (d : Device) (p : Nat) : (d.passEntries p).hubUp = d.hubUp := by
  unfold Device.passEntries
  refine Quiet.ite ?_ rfl
  exact foldl_keeps Device.hubUp _ (fun e x => quiet_hubUp.logEntry e _) _ _

theorem Device.plane_endWait (d : Device) (p q : Nat) :
    (d.endWait p).plane q =
      if q = p ∧ (d.plane p).cond = .waiting then { d.plane p with cond := .inReset } else d.plane q := by
  unfold Device.endWait
  by_cases hw : (d.plane p).cond = .waiting
  · simp only [hw, if_true, and_true]
    split <;> exact Device.plane_setPlane d p _ q
  · simp [hw]

theorem Device.hubUp_endWait (d : Device) (p : Nat) : (d.endWait p).hubUp = d.hubUp := by
  unfold Device.endWait
  refine Quiet.ite ?_ rfl
  exact Quiet.ite rfl rfl

/-- The device once the hub and the plane see each other again, before kept records and entries are passed (R401). -/
def Device.reached (d : Device) (p : Nat) : Device :=
  { d with hub.silent := false }.setPlane p { d.plane p with hubSilent := false, notAnswering := false }

theorem Device.hubReturn_of_running {d : Device} {p : Nat} (h : d.hub.running = true) :
    d.hubReturn p = ((((d.reached p).flushEvents.passEntries p).endWait p).reviewReasons) := by
  simp [Device.hubReturn, Device.reached, h]; rfl

theorem Device.hubUp_reached {d : Device} {p : Nat} (h : d.hub.running = true) : (d.reached p).hubUp = true := by
  show (d.hub.running && !false) = true
  rw [h]; rfl

/-- After the hub's return the hub answers (R401). -/
theorem Device.hubUp_hubReturn {d : Device} {p : Nat} (h : d.hub.running = true) : (d.hubReturn p).hubUp = true := by
  rw [Device.hubReturn_of_running h, quiet_hubUp.reviewReasons, Device.hubUp_endWait, Device.hubUp_passEntries,
    quiet_hubUp.flushEvents, Device.hubUp_reached h]

/-- What the hub's return makes of a plane's record: it sees the hub, answers, its entries are logged, and where it waited it is
in reset, to be initialised (R401, R413, R444). -/
def PlaneSt.returned (v : PlaneSt) : PlaneSt :=
  { v with hubSilent := false, notAnswering := false, unlogged := [], cond := if v.cond = .waiting then .inReset else v.cond }

theorem Device.plane_hubReturn {d : Device} {p : Nat} (h : d.hub.running = true) (q : Nat) :
    (d.hubReturn p).plane q = if q = p then (d.plane p).returned else d.plane q := by
  have hreached : ∀ r, (d.reached p).flushEvents.plane r =
      if r = p then { d.plane p with hubSilent := false, notAnswering := false } else d.plane r := fun r =>
    ((quiet_plane r).flushEvents _).trans (Device.plane_setPlane _ p _ r)
  have hup : (d.reached p).flushEvents.hubUp = true := (quiet_hubUp.flushEvents _).trans (Device.hubUp_reached h)
  rw [Device.hubReturn_of_running h, (quiet_plane q).reviewReasons]
  simp only [Device.plane_endWait, Device.plane_passEntries, hreached, hup, and_true, if_true]
  by_cases hq : q = p
  · by_cases hw : (d.plane p).cond = .waiting <;> simp [hq, hw, PlaneSt.returned]
  · simp [hq]

/-! #### The four commands -/

/-- The device whose plane has found the hub silent (R19). -/
def Device.hubSilentTo (d : Device) (p : Nat) : Device :=
  { d with hub.silent := true }.setPlane p { d.plane p with hubSilent := true }

/-- The device whose plane the hub has found silent (R401). -/
def Device.planeSilent (d : Device) (p : Nat) : Device := d.setPlane p { d.plane p with notAnswering := true }

theorem exec_hubLoss (p : Plane) (s : State) :
    exec (.hubLoss p) s = .next { s with dev := ((s.dev.hubSilentTo p).latch p 11 0 0).settle } := rfl

theorem exec_fmTimeout {s : State} (h : s.dev.hubUp = true) :
    exec .fmTimeout s = .next { s with dev := (Device.latch { s.dev with hub.fmPresent := false } 4 1 0 0).settle } :=
  State.run_next (if_pos h)

theorem exec_hubReturn (p : Plane) (s : State) :
    exec (.hubReturn p) s = .next { s with dev := (s.dev.hubReturn p).settle } := rfl

theorem exec_planeNotAnswering (p : Plane) {s : State} (h : s.dev.snap.armed = false) :
    exec (.planeNotAnswering p) s = .next { s with dev := ((s.dev.planeSilent p).latch 4 1 1 p).settle } := by
  have hsnap : ((s.dev.planeSilent p).latch 4 1 1 p).snap.armed = false := by rw [Device.snap_latch]; exact h
  show s.run (fun d => ((d.planeSilent p).latch 4 1 1 p).snapAbsent p) = _
  exact State.run_next (Device.snapAbsent_of_unarmed hsnap)

/-- Settles O1: hub loss, the fault manager's loss and a silent plane each end in one cause (`frame_settle_latch`); the hub's
return is read off its plane records (`plane_hubReturn`). -/
theorem livenessCauses : Obligations.LivenessCauses := by
  intro s p
  refine ⟨?hubLoss, fun hup => ?fmTimeout, fun hrun => ?hubReturn, fun hsnap => ?planeNotAnswering⟩
  case hubLoss =>
    have hframe := Device.frame_settle_latch (s.dev.hubSilentTo p) p 11 0 0
    refine ⟨_, exec_hubLoss p s, rfl, hframe.hub_silent, ?_, Device.bit_settle_latch _ (by decide), hframe⟩
    rw [hframe.plane, Device.hubSilentTo, Device.plane_setPlane, if_pos rfl]
  case fmTimeout =>
    have hframe := Device.frame_settle_latch { s.dev with hub.fmPresent := false } 4 1 0 0
    exact ⟨_, exec_fmTimeout hup, rfl, hframe.hub_fmPresent, Device.bit_settle_latch _ (by decide), hframe⟩
  case hubReturn =>
    have hplane : ∀ q, (s.dev.hubReturn p).settle.plane q = if q = p then (s.dev.plane p).returned else s.dev.plane q :=
      fun q => ((quiet_plane q).settle _).trans (Device.plane_hubReturn hrun q)
    refine ⟨_, exec_hubReturn p s, rfl, (quiet_hubUp.settle _).trans (Device.hubUp_hubReturn hrun), ?_, ?_, ?_, fun q hq => ?_⟩
    · exact congrArg PlaneSt.hubSilent ((hplane p).trans (if_pos rfl))
    · exact congrArg PlaneSt.notAnswering ((hplane p).trans (if_pos rfl))
    · exact congrArg PlaneSt.cond ((hplane p).trans (if_pos rfl))
    · exact (hplane q).trans (if_neg hq)
  case planeNotAnswering =>
    have hframe := Device.frame_settle_latch (s.dev.planeSilent p) 4 1 1 p
    refine ⟨_, exec_planeNotAnswering p hsnap, rfl, ?_, Device.bit_settle_latch _ (by decide), hframe⟩
    rw [hframe.answers]
    exact Device.answers_setPlane_of_notAnswering _ _ rfl

end Sys2Proof.Machine

namespace Sys2Proof.Machine

/-! ### The long-haul line at a multiframe boundary (spec/10 R222, R231, R234 to R237) -/

/-- A register of a well-formed register file holds a value of its width. -/
theorem Device.get_lt_of_regsWf {d : Device} (h : d.RegsWf = true) {o : Obj} {p i : Nat} (hz : o.dflt i < 2 ^ o.width) :
    d.get o p i < 2 ^ o.width := by
  have hmem : ∀ l : List (Key × Nat), (∀ e ∈ l, e.2 < 2 ^ e.1.obj.width) → Tbl.get l ⟨o, p, i⟩ (o.dflt i) < 2 ^ o.width := by
    intro l hl
    induction l with
    | nil => exact hz
    | cons e r ih =>
      obtain ⟨k, v⟩ := e
      rw [List.forall_mem_cons] at hl
      unfold Tbl.get
      split
      · next hk => subst hk; exact hl.1
      · exact ih hl.2
  simp only [Device.RegsWf, Bool.and_eq_true, List.all_eq_true, decide_eq_true_eq] at h
  exact hmem d.regs h.2

theorem Device.tether_congr {d e : Device} (h : e.tethers = d.tethers) (p : Nat) : e.tether p = d.tether p := by
  unfold Device.tether; rw [h]

theorem Device.link_congr {d e : Device} (h : e.links = d.links) (p l : Nat) : e.link p l = d.link p l := by
  unfold Device.link; rw [h]

theorem quiet_tether (p : Nat) : Quiet (·.tether p) :=
  ⟨fun _ _ _ _ _ => rfl, fun _ _ => rfl, fun _ _ _ => rfl, fun _ _ _ => rfl, fun _ _ => rfl⟩

theorem quiet_link (p l : Nat) : Quiet (·.link p l) :=
  ⟨fun _ _ _ _ _ => rfl, fun _ _ => rfl, fun _ _ _ => rfl, fun _ _ _ => rfl, fun _ _ => rfl⟩

/-! #### Signal fails and degrades (R234) -/

/-- The state of Tether without the conditions and requests of protection switching. -/
def TetherSt.bare (x : TetherSt) : TetherSt := { x with running := [], confirmed := [], caused := [], wtr := none }

/-- One signal fail or degrade, followed: it begins its hold-off, clears, or stays. -/
def Device.followCond (d : Device) (p c : Nat) : Device :=
  let th := d.tether p
  let known := th.running.contains c || th.confirmed.contains c
  if d.lineCond p c then (if known then d else d.setTether p { th with running := th.running ++ [c] })
  else if !known then d
  else
    let w := d.get .lhWtrS p 0
    d.setTether p { th with
      running := th.running.filter (· ≠ c), confirmed := th.confirmed.filter (· ≠ c), caused := th.caused.filter (· ≠ c),
      wtr := if th.caused.contains c && w > 0 then some (c % 16, d.clock + w * 1000000000) else th.wtr }

theorem Device.apsFollow_eq_foldl (d : Device) (p : Nat) :
    d.apsFollow p = [0xB0, 0xB1, 0x90, 0x91].foldl (fun d c => d.followCond p c) d := rfl

/-- The three things following a condition can do. -/
theorem Device.followCond_cases (d : Device) (p c : Nat) :
    let known := c ∈ (d.tether p).running ∨ c ∈ (d.tether p).confirmed
    (d.followCond p c = d ∧ (known ↔ d.lineCond p c = true)) ∨
    (d.lineCond p c = true ∧ d.followCond p c = d.setTether p { d.tether p with running := (d.tether p).running ++ [c] }) ∨
    (d.lineCond p c = false ∧ ∃ caused wtr, d.followCond p c = d.setTether p { d.tether p with
      running := (d.tether p).running.filter (· ≠ c), confirmed := (d.tether p).confirmed.filter (· ≠ c),
      caused := caused, wtr := wtr }) := by
  intro known
  have hknown : ((d.tether p).running.contains c || (d.tether p).confirmed.contains c) = true ↔ known := by
    simp [known]
  unfold Device.followCond
  by_cases hcond : d.lineCond p c = true <;> by_cases hk : known
  · exact .inl ⟨by rw [if_pos hcond, if_pos (hknown.mpr hk)], by simp [hk, hcond]⟩
  · refine .inr (.inl ⟨hcond, ?_⟩)
    rw [if_pos hcond, if_neg (mt hknown.mp hk)]
  · refine .inr (.inr ⟨by simpa using hcond, ?_⟩)
    rw [if_neg hcond, if_neg (by rw [hknown.mpr hk]; decide)]
    exact ⟨_, _, rfl⟩
  · refine .inl ⟨?_, by simp [hk, hcond]⟩
    rw [if_neg hcond, if_pos (by simpa using mt hknown.mp hk)]

theorem Device.bare_followCond (d : Device) (p c : Nat) : ((d.followCond p c).tether p).bare = (d.tether p).bare := by
  rcases d.followCond_cases p c with ⟨h, -⟩ | ⟨-, h⟩ | ⟨-, _, _, h⟩
  · rw [h]
  · rw [h, Device.tether_setTether, if_pos rfl]; rfl
  · rw [h, Device.tether_setTether, if_pos rfl]; rfl

theorem Device.lineCond_followCond (d : Device) (p c x : Nat) : (d.followCond p c).lineCond p x = d.lineCond p x := by
  have hset : ∀ th : TetherSt, th.bare = (d.tether p).bare → (d.setTether p th).lineCond p x = d.lineCond p x := by
    intro th h
    have hdegrade : ∀ g, (d.setTether p th).signalDegrade p g = d.signalDegrade p g := by
      intro g
      have hw : th.sdWindow = (d.tether p).sdWindow := (congrArg TetherSt.sdWindow h :)
      have hn : th.sdNow = (d.tether p).sdNow := (congrArg TetherSt.sdNow h :)
      have hl : th.sdLast = (d.tether p).sdLast := (congrArg TetherSt.sdLast h :)
      unfold Device.signalDegrade
      simp only [Device.tether_setTether, if_pos, hw, hn, hl]
      rfl
    unfold Device.lineCond
    rw [hdegrade]
    rfl
  have hbare := d.bare_followCond p c
  rcases d.followCond_cases p c with ⟨h, -⟩ | ⟨-, h⟩ | ⟨-, _, _, h⟩
  · rw [h]
  · rw [h, Device.tether_setTether, if_pos rfl] at hbare; rw [h]; exact hset _ hbare
  · rw [h, Device.tether_setTether, if_pos rfl] at hbare; rw [h]; exact hset _ hbare

/-- Following a condition leaves the others where they stand. -/
theorem Device.known_followCond_of_ne (d : Device) {p c x : Nat} (hx : x ≠ c) :
    (x ∈ ((d.followCond p c).tether p).running ↔ x ∈ (d.tether p).running) ∧
    (x ∈ ((d.followCond p c).tether p).confirmed ↔ x ∈ (d.tether p).confirmed) := by
  rcases d.followCond_cases p c with ⟨h, -⟩ | ⟨-, h⟩ | ⟨-, _, _, h⟩
  · rw [h]; exact ⟨Iff.rfl, Iff.rfl⟩
  · rw [h, Device.tether_setTether, if_pos rfl]; simp [hx]
  · rw [h, Device.tether_setTether, if_pos rfl]; simp [hx]

/-- A condition that was followed is known exactly where it holds. -/
theorem Device.known_followCond (d : Device) (p c : Nat) :
    c ∈ ((d.followCond p c).tether p).running ∨ c ∈ ((d.followCond p c).tether p).confirmed ↔ d.lineCond p c = true := by
  rcases d.followCond_cases p c with ⟨h, hknown⟩ | ⟨hcond, h⟩ | ⟨hcond, _, _, h⟩
  · rw [h]; exact hknown
  · rw [h, Device.tether_setTether, if_pos rfl]; simp [hcond]
  · rw [h, Device.tether_setTether, if_pos rfl]; simp [hcond]

theorem Device.known_followAll (p : Nat) (l : List Nat) (hl : l.Nodup) :
    ∀ d : Device, ∀ x, let e := l.foldl (fun d c => d.followCond p c) d
      (x ∈ l → (x ∈ (e.tether p).running ∨ x ∈ (e.tether p).confirmed ↔ d.lineCond p x = true)) ∧
      (x ∉ l → (x ∈ (e.tether p).running ∨ x ∈ (e.tether p).confirmed ↔
        x ∈ (d.tether p).running ∨ x ∈ (d.tether p).confirmed)) := by
  induction l with
  | nil => exact fun d x => ⟨fun h => absurd h List.not_mem_nil, fun _ => Iff.rfl⟩
  | cons c r ih =>
    rw [List.nodup_cons] at hl
    intro d x
    have hrest := ih hl.2 (d.followCond p c) x
    have hcond := d.lineCond_followCond p c x
    refine ⟨fun hx => ?_, fun hx => ?_⟩
    · rcases List.mem_cons.mp hx with rfl | hx
      · exact (hrest.2 hl.1).trans (d.known_followCond p x)
      · exact (hrest.1 hx).trans (by rw [hcond])
    · rw [List.mem_cons, not_or] at hx
      have hsame := d.known_followCond_of_ne (p := p) hx.1
      exact (hrest.2 hx.2).trans (or_congr hsame.1 hsame.2)

/-- The signal fails and degrades followed are those that hold (R234). -/
theorem Device.known_apsFollow (d : Device) (p : Nat) {c : Nat} (hc : c ∈ [0xB0, 0xB1, 0x90, 0x91]) :
    c ∈ ((d.apsFollow p).tether p).running ∨ c ∈ ((d.apsFollow p).tether p).confirmed ↔ d.lineCond p c = true := by
  rw [Device.apsFollow_eq_foldl]
  exact (Device.known_followAll p _ (by decide) d c).1 hc

theorem Device.bare_apsFollow (d : Device) (p : Nat) : ((d.apsFollow p).tether p).bare = (d.tether p).bare := by
  rw [Device.apsFollow_eq_foldl]
  exact foldl_keeps (fun e => (e.tether p).bare) _ (fun e c => e.bare_followCond p c) _ d

theorem Device.bare_apsConfirm (d : Device) (p c : Nat) : ((d.apsConfirm p c).tether p).bare = (d.tether p).bare := by
  rw [Device.apsConfirm, Device.tether_setTether, if_pos rfl]; rfl

theorem Device.bare_apsConditions (d : Device) (p : Nat) : ((d.apsConditions p).tether p).bare = (d.tether p).bare := by
  unfold Device.apsConditions
  dsimp only
  split
  · exact (foldl_keeps (fun e => (e.tether p).bare) _ (fun e c => e.bare_apsConfirm p c) _ _).trans (d.bare_apsFollow p)
  · exact d.bare_apsFollow p

/-- `aps_bridge` under a winning request, 16 · REQ + group (R236). -/
def bridgeSent (w : Nat) : Nat := if [0xE, 0xB, 0x9, 0x7, 0x5].contains (w / 16) then 2 + w % 2 else 0

theorem bridgeSent_lt (w : Nat) : bridgeSent w < 2 ^ 8 := by unfold bridgeSent; split <;> omega

/-- The request that wins at a boundary: the partner's where it is above the top local one (R236). -/
def Device.apsWinner (d : Device) (p : Nat) : Nat :=
  let loc := topReq (d.localReqs p) (d.get .apsLocalReq p 0)
  let rem := d.get .apsRemoteReq p 0
  if rem / 16 > loc / 16 then rem else loc

/-- The requests of a boundary: an overruled exercise ends, the local request is shown, and a condition that wins is noted. -/
def Device.apsRequests (d : Device) (p : Nat) : Device :=
  let loc := topReq (d.localReqs p) (d.get .apsLocalReq p 0)
  let e := (if d.get .apsCommand p 0 / 16 = 7 && d.apsWinner p / 16 > 7 then d.set .apsCommand p 0 0 else d).set .apsLocalReq p 0 loc
  let th := e.tether p
  if d.apsWinner p = loc && th.confirmed.contains loc && !th.caused.contains loc then
    e.setTether p { th with caused := loc :: th.caused }
  else e

theorem Device.apsBoundary_eq (d : Device) (p : Nat) :
    let e := (d.apsConditions p).apsRequests p
    let br := bridgeSent ((d.apsConditions p).apsWinner p)
    d.apsBoundary p = if br = e.get .apsBridge p 0 then e else (e.set .apsBridge p 0 br).bump .apsSwitches p 0 := rfl

theorem Device.get_apsRequests (d : Device) (p q i : Nat) {o : Obj} (h : o ≠ .apsCommand) (k : o ≠ .apsLocalReq) :
    (d.apsRequests p).get o q i = d.get o q i := by
  have htether : ∀ (e : Device) (v : TetherSt), (e.setTether p v).get o q i = e.get o q i := fun _ _ => rfl
  unfold Device.apsRequests
  dsimp only
  split_ifs <;> simp only [htether, Device.get_set_obj _ _ _ _ _ _ _ _ h, Device.get_set_obj _ _ _ _ _ _ _ _ k]

theorem Device.get_apsConditions (d : Device) (p q i : Nat) (o : Obj) : (d.apsConditions p).get o q i = d.get o q i :=
  (Moves.apsConditions (p := p) (Moves.refl d objs_apsConditions parts_apsConditions) (Mask.le_refl _) (Mask.le_refl _)).get o q i
    (Nat.zero_testBit _)

theorem Device.bare_apsRequests (d : Device) (p : Nat) : ((d.apsRequests p).tether p).bare = (d.tether p).bare := by
  unfold Device.apsRequests
  dsimp only
  refine (Quiet.ite (g := fun e => (e.tether p).bare) ?_ rfl).trans (Quiet.ite (g := fun e => (e.tether p).bare) rfl rfl)
  rw [Device.tether_setTether, if_pos rfl]
  rfl

/-- A change of the bridge is counted, and nothing else is (R237). -/
theorem Device.get_apsSwitches_apsBoundary (d : Device) (p : Nat) :
    (d.apsBoundary p).get .apsSwitches p 0 = if (d.apsBoundary p).get .apsBridge p 0 = d.get .apsBridge p 0
      then d.get .apsSwitches p 0 else min (d.get .apsSwitches p 0 + 1) (2 ^ 32 - 1) := by
  have hbridge : ((d.apsConditions p).apsRequests p).get .apsBridge p 0 = d.get .apsBridge p 0 :=
    (Device.get_apsRequests _ p p 0 (by decide) (by decide)).trans (d.get_apsConditions p p 0 _)
  have hswitches : ((d.apsConditions p).apsRequests p).get .apsSwitches p 0 = d.get .apsSwitches p 0 :=
    (Device.get_apsRequests _ p p 0 (by decide) (by decide)).trans (d.get_apsConditions p p 0 _)
  rw [Device.apsBoundary_eq, hbridge]
  generalize (d.apsConditions p).apsRequests p = e at hswitches hbridge ⊢
  generalize (d.apsConditions p).apsWinner p = w
  by_cases hsame : bridgeSent w = d.get .apsBridge p 0
  · rw [if_pos hsame, hbridge, if_pos rfl, hswitches]
  · have hnow : ((e.set .apsBridge p 0 (bridgeSent w)).bump .apsSwitches p 0).get .apsBridge p 0 = bridgeSent w := by
      rw [Device.get_bump_obj _ _ _ _ _ _ _ (by decide), Device.get_set_same]
      exact Nat.mod_eq_of_lt (bridgeSent_lt w)
    rw [if_neg hsame, hnow, if_neg hsame, Device.bump, Device.get_count_same _ _ _ _ _ (by decide),
      Device.get_set_obj _ _ _ _ _ _ _ _ (by decide), hswitches]
    rfl

theorem Device.bare_apsBoundary (d : Device) (p : Nat) : ((d.apsBoundary p).tether p).bare = (d.tether p).bare := by
  have hbare : (((d.apsConditions p).apsRequests p).tether p).bare = (d.tether p).bare :=
    (Device.bare_apsRequests _ p).trans (d.bare_apsConditions p)
  rw [Device.apsBoundary_eq, ← hbare]
  split
  · rfl
  · rw [Device.tether_congr (Device.tethers_bump _ _ _ _) p]; rfl

/-! #### The transmit page (R231) -/

theorem Device.get_copyPage {d : Device} {p : Nat} {src dst : Obj} {sdir ddir : Nat} (h : src ≠ dst) {pos : Nat} (hpos : pos < 2048) :
    (d.copyPage p src sdir dst ddir).get dst p (tsiIx ddir pos) = d.get src p (tsiIx sdir pos) % 2 ^ dst.width := by
  have hfold : ∀ n, let e := (List.range n).foldl (fun d q => d.set dst p (tsiIx ddir q) (d.get src p (tsiIx sdir q))) d
      (∀ q, e.get src p q = d.get src p q) ∧
      ∀ q < n, e.get dst p (tsiIx ddir q) = d.get src p (tsiIx sdir q) % 2 ^ dst.width := by
    intro n
    induction n with
    | zero => exact ⟨fun _ => rfl, fun q hq => absurd hq (Nat.not_lt_zero q)⟩
    | succ n ih =>
      simp only [List.range_succ, List.foldl_append, List.foldl_cons, List.foldl_nil]
      refine ⟨fun q => (Device.get_set_obj _ _ _ _ _ _ _ _ h).trans (ih.1 q), fun q hq => ?_⟩
      rw [Device.get_set, ih.1]
      by_cases hqn : q = n
      · subst hqn; simp
      · rw [if_neg (by simp only [tsiIx]; omega), ih.2 q (by omega)]
  exact (hfold 2048).2 pos hpos

/-- A pending page whose multiframe has come is taken: Tether's record of it. -/
def TetherSt.pageTaken (x : TetherSt) : TetherSt := { x with txPend := none, announced := false, txPage := 1 - x.txPage }

/-- The transmit page taken over: entries, code and record (R231). -/
def Device.takeTxPage (d : Device) (p : Nat) : Device :=
  (((d.copyPage p .tsiEntry 0 .tsiEntryActive 0).set .tsiPcodeActive p 0 (d.get .tsiPcode p 0)).setTether p
    (d.tether p).pageTaken).set .tsiCommitCmd p 0 2

theorem Device.txPageBoundary_none {d : Device} {p : Nat} (h : (d.tether p).txPend = none) : d.txPageBoundary p = d := by
  simp only [Device.txPageBoundary, h]

theorem Device.txPageBoundary_early {d : Device} {p m : Nat} (h : (d.tether p).txPend = some m) (hm : d.get .lhMfnTx p 0 < m) :
    d.txPageBoundary p = d.setTether p { d.tether p with announced := true } := by
  simp only [Device.txPageBoundary, h]
  exact if_neg (Nat.not_le.mpr hm)

theorem Device.txPageBoundary_due {d : Device} {p m : Nat} (h : (d.tether p).txPend = some m) (hm : m ≤ d.get .lhMfnTx p 0) :
    d.txPageBoundary p = d.takeTxPage p := by
  simp only [Device.txPageBoundary, h]
  exact if_pos hm

/-- Taking a page is copying its entries, and three writes that the copy does not matter to. -/
theorem Device.takeTxPage_eq (d : Device) (p : Nat) : ∃ e : Device, e = d.copyPage p .tsiEntry 0 .tsiEntryActive 0 ∧
    d.takeTxPage p = ((e.set .tsiPcodeActive p 0 (d.get .tsiPcode p 0)).setTether p (d.tether p).pageTaken).set .tsiCommitCmd p 0 2 :=
  ⟨_, rfl, rfl⟩

theorem Device.tether_takeTxPage (d : Device) (p : Nat) : (d.takeTxPage p).tether p = (d.tether p).pageTaken := by
  obtain ⟨e, -, h⟩ := d.takeTxPage_eq p
  rw [h, (quiet_tether p).set, Device.tether_setTether, if_pos rfl]

theorem Device.get_takeTxPage_commitCmd (d : Device) (p : Nat) : (d.takeTxPage p).get .tsiCommitCmd p 0 = 2 :=
  Device.get_set_same _ _ _ _ _

theorem Device.get_takeTxPage_pcodeActive {d : Device} {p : Nat} (h : d.get .tsiPcode p 0 < 2 ^ Obj.tsiPcodeActive.width) :
    (d.takeTxPage p).get .tsiPcodeActive p 0 = d.get .tsiPcode p 0 := by
  obtain ⟨e, -, htake⟩ := d.takeTxPage_eq p
  rw [htake, Device.get_set_obj _ _ _ _ _ _ _ _ (by decide)]
  exact Device.get_set_lt e _ _ _ _ h

theorem Device.get_takeTxPage_entryActive {d : Device} {p pos : Nat} (hpos : pos < 2048)
    (h : d.get .tsiEntry p (tsiIx 0 pos) < 2 ^ Obj.tsiEntryActive.width) :
    (d.takeTxPage p).get .tsiEntryActive p (tsiIx 0 pos) = d.get .tsiEntry p (tsiIx 0 pos) := by
  obtain ⟨e, he, htake⟩ := d.takeTxPage_eq p
  have hcopy : e.get .tsiEntryActive p (tsiIx 0 pos) = d.get .tsiEntry p (tsiIx 0 pos) := by
    rw [he, Device.get_copyPage (by decide) hpos, Nat.mod_eq_of_lt h]
  rw [htake, Device.get_set_obj _ _ _ _ _ _ _ _ (by decide), ← hcopy]
  exact Device.get_set_obj e _ _ _ _ _ _ _ (by decide)

/-- A boundary changes nothing of Tether's record but what stands there of the page. -/
theorem Device.tether_txPageBoundary (d : Device) (p : Nat) : ∃ pend announced page,
    (d.txPageBoundary p).tether p = { d.tether p with txPend := pend, announced := announced, txPage := page } := by
  cases h : (d.tether p).txPend with
  | none => exact ⟨_, _, _, by rw [Device.txPageBoundary_none h]⟩
  | some m =>
    by_cases hm : m ≤ d.get .lhMfnTx p 0
    · exact ⟨_, _, _, by rw [Device.txPageBoundary_due h hm]; exact d.tether_takeTxPage p⟩
    · rw [Device.txPageBoundary_early h (Nat.not_le.mp hm), Device.tether_setTether, if_pos rfl]
      exact ⟨_, _, _, rfl⟩

/-! #### Links that join the bundle (R222) -/

/-- What a link needs to join the bundle: multiframe alignment, nothing that holds it down, a channel in use, and a skew within
the limit. -/
def Device.joins (d : Device) (p l : Nat) : Bool :=
  decide ((d.link p l).align = 2) && d.lhUp p l && !d.retired p (chan 8 l) &&
    decide (d.get .lhSkewNs p l ≤ d.get .lhDeskewMaxUs p 0 * 1000)

/-- A link enters the bundle. -/
def Device.bundled (d : Device) (p l : Nat) : Device :=
  ((d.set .lhBundle p 0 (setBit (d.get .lhBundle p 0) l)).chanClear p (chan 8 l)).lhRefresh p l

/-- The step of one link. -/
def Device.joinLink (d : Device) (p l : Nat) : Device := if !d.inBundle p l && d.joins p l then d.bundled p l else d

theorem Device.joinLinks_eq_foldl (d : Device) (p : Nat) :
    d.joinLinks p = (List.range 4).foldl (fun d l => d.joinLink p l) d := by
  unfold Device.joinLinks
  congr 1
  funext e l
  simp only [Device.joinLink, Device.joins, Device.bundled, Bool.and_assoc]

theorem Device.moves_joinLink (d : Device) (p l : Nat) : Moves d (d.joinLink p l) objs_joinLinks parts_joinLinks := by
  unfold Device.joinLink Device.bundled
  refine Moves.ite (fun _ => ?_) (fun _ => Moves.refl ..)
  exact ((((Moves.refl d _ _).set (by decide) (by decide)).chanClear (Mask.of (by decide)) (Mask.of (by decide))).lhRefresh
    (Mask.of (by decide)) (Mask.of (by decide)))

/-- The objects that say whether a long-haul port is held down (R215). -/
def lhUpObjs : List Obj := [.lhAdmin, .fencedLongHaul, .planeRoleActive, .poolBuffers, .hfChanState]

theorem Device.lhUp_congr {d e : Device} {p l : Nat} (hplane : e.plane p = d.plane p)
    (hget : ∀ o ∈ lhUpObjs, ∀ q i, e.get o q i = d.get o q i) : e.lhUp p l = d.lhUp p l := by
  simp only [lhUpObjs, List.forall_mem_cons] at hget
  obtain ⟨hadmin, hfence, hrole, hpool, hchan, -⟩ := hget
  have hpipes : ∀ dir, e.pipes p dir = d.pipes p dir := by
    intro dir; unfold Device.pipes Device.chanState; simp only [hchan]
  unfold Device.lhUp Device.role Device.operates Device.poolBuffers
  rw [hadmin, hfence, hrole, hpool, hpipes, hpipes, hplane]

theorem Device.joins_joinLink (d : Device) (p l m : Nat) : (d.joinLink p l).joins p m = d.joins p m := by
  have h := d.moves_joinLink p l
  have hclear : ∀ o ∈ lhUpObjs ++ [.lhSkewNs, .lhDeskewMaxUs], objs_joinLinks.testBit o.ctorIdx = false := by decide
  have hget := fun o ho => h.regs o (hclear o ho)
  have hup : (d.joinLink p l).lhUp p m = d.lhUp p m :=
    Device.lhUp_congr (h.plane (by decide) p) (fun o ho => hget o (List.mem_append_left _ ho))
  have hlink : (d.joinLink p l).link p m = d.link p m := Device.link_congr (h.parts .links (by decide)) p m
  unfold Device.joins Device.retired Device.chanState
  rw [hlink, hup, hget .hfChanState (by decide), hget .lhSkewNs (by decide), hget .lhDeskewMaxUs (by decide)]

theorem Device.inBundle_bundled (d : Device) {p l m : Nat} (hm : m < 4) :
    (d.bundled p l).inBundle p m = (d.inBundle p m || decide (l = m)) := by
  have hmove : Moves (d.set .lhBundle p 0 (setBit (d.get .lhBundle p 0) l)) (d.bundled p l) objs_lhRefresh parts_joinLinks :=
    ((Moves.refl _ _ _).chanClear (Mask.of (by decide)) (Mask.of (by decide))).lhRefresh (Mask.le_refl _) (Mask.of (by decide))
  unfold Device.inBundle
  rw [hmove.get _ _ _ (by decide), Device.get_set_same, show Obj.lhBundle.width = 8 from rfl, bit_mod _ _ _ (by omega), bit_setBit]

theorem Device.inBundle_joinLink (d : Device) {p l m : Nat} (hm : m < 4) :
    (d.joinLink p l).inBundle p m = (d.inBundle p m || (decide (l = m) && d.joins p m)) := by
  unfold Device.joinLink
  by_cases hlm : l = m
  · subst hlm
    cases hin : d.inBundle p l <;> cases hj : d.joins p l <;> simp [hin, d.inBundle_bundled hm]
  · split <;> simp [hlm, d.inBundle_bundled hm]

/-- After a boundary the bundle holds the links it held and those that could join. -/
theorem Device.inBundle_joinLinks (d : Device) {p m : Nat} (hm : m < 4) :
    (d.joinLinks p).inBundle p m = (d.inBundle p m || d.joins p m) := by
  have hfold : ∀ (l : List Nat) (e : Device), (l.foldl (fun e k => e.joinLink p k) e).inBundle p m =
      (e.inBundle p m || (l.contains m && e.joins p m)) := by
    intro l
    induction l with
    | nil => intro e; simp
    | cons k r ih =>
      intro e
      rw [List.foldl_cons, ih, e.inBundle_joinLink hm, e.joins_joinLink, List.contains_cons, Bool.or_assoc,
        ← Bool.and_or_distrib_right]
      simp only [eq_comm, beq_eq_decide]
  rw [Device.joinLinks_eq_foldl, hfold]
  simp [hm]

/-! #### The boundary -/

/-- Tether's record at the start of a transmit multiframe: no slot area is filled and no record sealed. -/
def TetherSt.begun (x : TetherSt) : TetherSt := { x with areas := [], filled := 0, sealed := 0, limited := false }

/-- A framer stands at the first frame of its multiframe. -/
def Device.framerStart (d : Device) (p l : Nat) : Device := d.setLink p l { d.link p l with fn := 0 }

/-- The MFN rises by 1 and Tether's record starts anew (R216). -/
def Device.mfTurn (d : Device) (p : Nat) : Device :=
  (d.set .lhMfnTx p 0 ((d.get .lhMfnTx p 0 + 1) % 2 ^ 48)).setTether p (d.tether p).begun

/-- The next transmit multiframe begins on every link. -/
def Device.mfBegin (d : Device) (p : Nat) : Device := (List.range 4).foldl (fun d l => d.framerStart p l) (d.mfTurn p)

/-- The boundary up to its links and keys, before pages and protection. -/
def Device.mfReady (d : Device) (p : Nat) : Device :=
  let e := (d.mfBegin p).joinLinks p
  e.keyBoundary p (e.tether p).accRekey

theorem Device.mfBoundary_gateway {d : Device} {p : Nat} (hl : d.live p = true) (hr : d.role p = 1) :
    d.mfBoundary p = ((d.mfReady p).txPageBoundary p).apsBoundary p := by
  unfold Device.mfBoundary
  rw [if_neg (by simp [hl, hr])]
  rfl

theorem Device.mfBoundary_spine {d : Device} {p : Nat} (hr : d.role p ≠ 1) : d.mfBoundary p = d := if_pos (by simp [hr])

theorem Device.mfBegin_keeps {β : Type} {g : Device → β} {p : Nat} (hg : ∀ d l v, g (Device.setLink d p l v) = g d) (d : Device) :
    g (d.mfBegin p) = g (d.mfTurn p) := foldl_keeps g _ (fun e l => hg e l _) _ _

theorem Device.tether_mfBegin (d : Device) (p : Nat) : (d.mfBegin p).tether p = (d.tether p).begun :=
  (Device.mfBegin_keeps (g := (·.tether p)) (fun _ _ _ => rfl) d).trans ((Device.tether_setTether _ _ _ _).trans (if_pos rfl))

theorem Device.get_mfBegin_mfn (d : Device) (p : Nat) : (d.mfBegin p).get .lhMfnTx p 0 = (d.get .lhMfnTx p 0 + 1) % 2 ^ 48 :=
  (Device.mfBegin_keeps (g := (·.get .lhMfnTx p 0)) (fun _ _ _ => rfl) d).trans
    (Device.get_set_lt _ _ _ _ _ (lt_of_lt_of_le (Nat.mod_lt _ (by decide)) (by decide)))

theorem Device.get_mfBegin_of_ne (d : Device) (p q i : Nat) {o : Obj} (h : o ≠ .lhMfnTx) : (d.mfBegin p).get o q i = d.get o q i :=
  (Device.mfBegin_keeps (g := (·.get o q i)) (fun _ _ _ => rfl) d).trans (Device.get_set_obj _ _ _ _ _ _ _ _ h)

/-- Every framer of a plane stands at its first frame, and nothing else of its links has moved. -/
theorem Device.link_mfBegin (d : Device) {p l : Nat} (hl : l < 4) : (d.mfBegin p).link p l = { d.link p l with fn := 0 } := by
  have hfold : ∀ (n : Nat) (e : Device), ((List.range n).foldl (fun e k => e.framerStart p k) e).link p l =
      if l < n then { e.link p l with fn := 0 } else e.link p l := by
    intro n e
    induction n with
    | zero => rfl
    | succ n ih =>
      rw [List.range_succ, List.foldl_append, List.foldl_cons, List.foldl_nil, Device.framerStart, Device.link_setLink]
      by_cases hn : l = n
      · subst hn; simp [ih]
      · simp [hn, ih, show l ≤ n ↔ l < n by omega]
  exact (hfold 4 _).trans (if_pos hl)

theorem Device.joins_mfBegin (d : Device) {p l : Nat} (hl : l < 4) : (d.mfBegin p).joins p l = d.joins p l := by
  have hplane : (d.mfBegin p).plane p = d.plane p := Device.mfBegin_keeps (g := (·.plane p)) (fun _ _ _ => rfl) d
  have hclear : ∀ o ∈ lhUpObjs, o ≠ .lhMfnTx := by decide
  have hup : (d.mfBegin p).lhUp p l = d.lhUp p l :=
    Device.lhUp_congr hplane (fun o ho q i => d.get_mfBegin_of_ne p q i (hclear o ho))
  unfold Device.joins Device.retired Device.chanState
  rw [d.link_mfBegin hl, hup, d.get_mfBegin_of_ne p p _ (by decide), d.get_mfBegin_of_ne p p _ (by decide),
    d.get_mfBegin_of_ne p p _ (by decide)]

theorem Device.moves_joinLinks (d : Device) (p : Nat) : Moves d (d.joinLinks p) objs_joinLinks parts_joinLinks :=
  (Moves.refl d _ _).joinLinks (Mask.le_refl _) (Mask.le_refl _)

theorem Device.moves_keyBoundary (d : Device) (p acc : Nat) : Moves d (d.keyBoundary p acc) objs_keyBoundary parts_keyBoundary :=
  (Moves.refl d _ _).keyBoundary (Mask.le_refl _) (Mask.le_refl _)

theorem Device.mfReady_keeps {β : Type} {g : Device → β} {p : Nat} (hjoin : ∀ d, g (Device.joinLinks d p) = g d)
    (hkey : ∀ d acc, g (Device.keyBoundary d p acc) = g d) (d : Device) : g (d.mfReady p) = g (d.mfBegin p) :=
  (hkey _ _).trans (hjoin _)

theorem Device.get_mfReady (d : Device) (p q i : Nat) {o : Obj} (h : (objs_joinLinks ||| objs_keyBoundary).testBit o.ctorIdx = false) :
    (d.mfReady p).get o q i = (d.mfBegin p).get o q i := by
  rw [Nat.testBit_or, Bool.or_eq_false_iff] at h
  exact Device.mfReady_keeps (g := (·.get o q i)) (fun e => (e.moves_joinLinks p).get o q i h.1)
    (fun e acc => (e.moves_keyBoundary p acc).get o q i h.2) d

theorem Device.get_mfReady_mfn (d : Device) (p : Nat) : (d.mfReady p).get .lhMfnTx p 0 = (d.get .lhMfnTx p 0 + 1) % 2 ^ 48 :=
  (d.get_mfReady p p 0 (by decide)).trans (d.get_mfBegin_mfn p)

theorem Device.tether_mfReady (d : Device) (p : Nat) : (d.mfReady p).tether p = (d.tether p).begun :=
  (Device.mfReady_keeps (g := (·.tether p)) (fun e => Device.tether_congr ((e.moves_joinLinks p).parts .tethers (by decide)) p)
    (fun e acc => Device.tether_congr ((e.moves_keyBoundary p acc).parts .tethers (by decide)) p) d).trans (d.tether_mfBegin p)

theorem Device.link_mfReady (d : Device) {p l : Nat} (hl : l < 4) : (d.mfReady p).link p l = { d.link p l with fn := 0 } :=
  (Device.mfReady_keeps (g := (·.link p l)) (fun e => Device.link_congr ((e.moves_joinLinks p).parts .links (by decide)) p l)
    (fun e acc => Device.link_congr ((e.moves_keyBoundary p acc).parts .links (by decide)) p l) d).trans (d.link_mfBegin hl)

theorem Device.inBundle_mfReady (d : Device) {p l : Nat} (hl : l < 4) :
    (d.mfReady p).inBundle p l = (d.inBundle p l || d.joins p l) := by
  have hkey : (d.mfReady p).inBundle p l = ((d.mfBegin p).joinLinks p).inBundle p l :=
    congrArg (bit · l) ((Device.moves_keyBoundary _ p _).get .lhBundle p 0 (by decide))
  have hbegin : (d.mfBegin p).inBundle p l = d.inBundle p l :=
    congrArg (bit · l) (d.get_mfBegin_of_ne p p 0 (o := .lhBundle) (by decide))
  rw [hkey, Device.inBundle_joinLinks _ hl, hbegin, d.joins_mfBegin hl]

/-! #### The commands of Table 10.8 and the commit of a page -/

theorem exec_multiframeBoundary (p : Plane) {s : State} (h : s.dev.live p = true) :
    exec (.multiframeBoundary p) s = .next { s with dev := (s.dev.mfBoundary p).settle } := by
  show execMultiframeBoundary p s = _
  exact State.runOn_next h

/-- In the spine role, and on a plane that does not run, a boundary does nothing (spec/01 R12). -/
theorem exec_multiframeBoundary_spine (p : Plane) {s : State} (h : s.dev.role p ≠ 1) :
    exec (.multiframeBoundary p) s = .next { s with dev := s.dev.settle } := by
  show execMultiframeBoundary p s = _
  refine State.run_next ?_
  split
  · exact Device.mfBoundary_spine h
  · rfl

theorem exec_holdoffExpiry (p : Plane) (g : Fin 2) {s : State} (h : s.dev.live p = true) :
    exec (.holdoffExpiry p g) s = .next { s with dev := (s.dev.holdoffRun p g).settle } := by
  show execHoldoffExpiry p g s = _
  exact State.runOn_next h

theorem exec_wtrExpiry (p : Plane) {s : State} (h : s.dev.live p = true) :
    exec (.wtrExpiry p) s = .next { s with dev := (s.dev.setTether p { s.dev.tether p with wtr := none }).settle } := by
  show execWtrExpiry p s = _
  exact State.runOn_next h

theorem exec_apsCommand_ok (p : Plane) {v : Byte} {rq : Req} {s : State}
    (h : s.dev.admits rq ⟨⟨.apsCommand, p, 0⟩, 1, v.toNat⟩ = true) (hv : v.toNat / 16 ∈ [0x0, 0x7, 0xE, 0xF]) :
    exec (.apsCommand p v rq) s = .next { s with dev :=
      (((s.dev.fmMessage rq.ses.val).set .apsCommand p 0 v.toNat).respond rq (statusResp rq 0)).settle } := by
  show execApsCommand p v rq s = _
  exact State.run_next (Device.write_admitted _ _ _ _ _ h (List.contains_iff_mem.mpr hv) rfl)

theorem exec_apsCommand_refused (p : Plane) {v : Byte} {rq : Req} {s : State}
    (h : s.dev.admits rq ⟨⟨.apsCommand, p, 0⟩, 1, v.toNat⟩ = true) (hv : v.toNat / 16 ∉ [0x0, 0x7, 0xE, 0xF]) :
    exec (.apsCommand p v rq) s = .next { s with dev :=
      ((s.dev.fmMessage rq.ses.val).respond rq (statusResp rq 0x303)).settle } := by
  show execApsCommand p v rq s = _
  exact State.run_next (Device.write_ruled_out _ _ _ _ _ (Device.admits_takes h).1 (Device.admits_takes h).2
    (Bool.eq_false_iff.mpr (mt List.contains_iff_mem.mp hv)))

/-- The standby page of a direction may be committed (R229). -/
def Device.standbyOk (d : Device) (p dir : Nat) : Bool :=
  pageOk (fun pos => d.get .tsiEntry p (tsiIx dir pos)) (d.get .tsiPcode p dir)

/-- The MFN at which a transmit page is to be taken (R231). -/
def Device.switchMfn (d : Device) (p : Nat) : Nat := d.get .tsiSwitchMfn p 0 % 2 ^ 48

theorem Device.tsiCommit_tx (d : Device) (p : Nat) : d.tsiCommit p 0 =
    if d.standbyOk p 0 && decide (d.get .lhMfnTx p 0 + 16 ≤ d.switchMfn p) && (d.tether p).txPend.isNone then
      (d.setTether p { d.tether p with txPend := some (d.switchMfn p), announced := false }).set .tsiCommitCmd p 0 1
    else d.set .tsiCommitCmd p 0 3 := by
  unfold Device.tsiCommit Device.standbyOk Device.switchMfn
  exact if_pos rfl

theorem Device.tsiCommit_rx (d : Device) (p : Nat) : d.tsiCommit p 1 =
    if d.standbyOk p 1 then (d.setTether p { d.tether p with rxArmed := true }).set .tsiCommitCmd p 1 1
    else d.set .tsiCommitCmd p 1 3 := by
  unfold Device.tsiCommit Device.standbyOk
  exact if_neg (by decide)

theorem Device.tsiCommitWrite_tx {d : Device} {p : Nat} {rq : Req} (hdir : d.sel .tsiDirSel p 0 rq.ses.val = 0)
    (h : d.admitsNow rq ⟨⟨.tsiCommitCmd, p, 0⟩, 1, 1⟩ = true) :
    d.tsiCommitWrite p rq = ((d.fmMessage rq.ses.val).tsiCommit p 0).respond rq (statusResp rq 0) := by
  unfold Device.tsiCommitWrite
  rw [hdir]
  exact Device.commandNow_admitted d rq _ _ _ h

theorem Device.tsiCommitWrite_rx {d : Device} {p : Nat} {rq : Req} (hdir : d.sel .tsiDirSel p 0 rq.ses.val = 1)
    (h : d.admits rq ⟨⟨.tsiCommitCmd, p, 0⟩, 1, 1⟩ = true) :
    d.tsiCommitWrite p rq = ((d.fmMessage rq.ses.val).tsiCommit p 1).respond rq (statusResp rq 0) := by
  unfold Device.tsiCommitWrite
  rw [hdir]
  exact Device.command_admitted d rq _ _ _ h

theorem exec_tsiCommitTx (p : Plane) (rq : Req) (s : State) :
    exec (.tsiCommitTx p rq) s = .next { s with dev := (s.dev.tsiCommitWrite p rq).settle } := rfl

theorem exec_tsiCommitRx (p : Plane) (rq : Req) (s : State) :
    exec (.tsiCommitRx p rq) s = .next { s with dev := (s.dev.tsiCommitWrite p rq).settle } := rfl

/-- What an answer leaves of a register that it does not count in. -/
theorem Device.get_settle_respond (d : Device) (rq : Req) (r : Resp) {o : Obj} (p i : Nat) (hc : o.computed = false)
    (h : o ≠ .ndpRequests) (k : o ≠ .mgmtRefused) : (d.respond rq r).settle.get o p i = d.get o p i :=
  (Device.get_settle _ o p i hc).trans (Device.get_respond d rq r o p i hc h k)

theorem Device.tether_settle_respond (d : Device) (rq : Req) (r : Resp) (p : Nat) :
    (d.respond rq r).settle.tether p = d.tether p := ((quiet_tether p).settle _).trans ((quiet_tether p).respond ..)

section
variable (d : Device) (ses p : Nat)

theorem Device.standbyOk_fmMessage (dir : Nat) : (d.fmMessage ses).standbyOk p dir = d.standbyOk p dir := by
  have hget : ∀ o ∈ [Obj.tsiEntry, .tsiPcode], ∀ i, (d.fmMessage ses).get o p i = d.get o p i := by
    intro o ho i
    rcases List.mem_pair.mp ho with rfl | rfl <;> exact d.get_fmMessage_obj ses _ p i rfl (by decide) (by decide) (by decide)
  unfold Device.standbyOk
  simp only [hget .tsiEntry (by decide), hget .tsiPcode (by decide)]

theorem Device.switchMfn_fmMessage : (d.fmMessage ses).switchMfn p = d.switchMfn p :=
  congrArg (· % 2 ^ 48) (d.get_fmMessage_obj ses _ p 0 rfl (by decide) (by decide) (by decide))

theorem Device.tether_fmMessage : (d.fmMessage ses).tether p = d.tether p := (quiet_tether p).fmMessage d ses

end

/-! #### What the commands leave, clause by clause -/

/-- A commit for the transmit direction: its page, where it is valid, far enough ahead and the only one, is pending (R231). -/
theorem Device.tsiCommit_tx_accepted {d : Device} {p : Nat} (hok : d.standbyOk p 0 = true)
    (hm : d.get .lhMfnTx p 0 + 16 ≤ d.switchMfn p) (hpend : (d.tether p).txPend = none) :
    (d.tsiCommit p 0).get .tsiCommitCmd p 0 = 1 ∧
    (d.tsiCommit p 0).tether p = { d.tether p with txPend := some (d.switchMfn p), announced := false } := by
  rw [d.tsiCommit_tx, if_pos (by simp [hok, hm, hpend])]
  exact ⟨Device.get_set_same _ _ _ _ _, (Device.tether_setTether _ _ _ _).trans (if_pos rfl)⟩

theorem Device.tsiCommit_tx_refused {d : Device} {p : Nat} (h : d.standbyOk p 0 = false ∨
    d.switchMfn p < d.get .lhMfnTx p 0 + 16 ∨ (d.tether p).txPend.isSome = true) :
    (d.tsiCommit p 0).get .tsiCommitCmd p 0 = 3 ∧ (d.tsiCommit p 0).tether p = d.tether p := by
  rw [d.tsiCommit_tx, if_neg]
  · exact ⟨Device.get_set_same _ _ _ _ _, rfl⟩
  · simp only [Bool.and_eq_true, decide_eq_true_eq, Option.isNone_iff_eq_none]
    rintro ⟨⟨hok, hm⟩, hpend⟩
    rcases h with h | h | h
    · rw [hok] at h; cases h
    · omega
    · rw [hpend] at h; cases h

/-- A commit for the receive direction is armed where its page is valid (R232). -/
theorem Device.tsiCommit_rx_accepted {d : Device} {p : Nat} (hok : d.standbyOk p 1 = true) :
    (d.tsiCommit p 1).get .tsiCommitCmd p 1 = 1 ∧ (d.tsiCommit p 1).tether p = { d.tether p with rxArmed := true } := by
  rw [d.tsiCommit_rx, if_pos hok]
  exact ⟨Device.get_set_same _ _ _ _ _, (Device.tether_setTether _ _ _ _).trans (if_pos rfl)⟩

theorem Device.tsiCommit_rx_refused {d : Device} {p : Nat} (hok : d.standbyOk p 1 = false) :
    (d.tsiCommit p 1).get .tsiCommitCmd p 1 = 3 ∧ (d.tsiCommit p 1).tether p = d.tether p := by
  rw [d.tsiCommit_rx, if_neg (by simp [hok])]
  exact ⟨Device.get_set_same _ _ _ _ _, rfl⟩

/-- A commit for the transmit direction is answered, and reads 0x01 with its page pending or 0x03 with Tether as it was (R231). -/
theorem Device.tsiCommitWrite_tx_spec {d : Device} {p : Nat} {rq : Req} (hdir : d.sel .tsiDirSel p 0 rq.ses.val = 0)
    (hadm : d.admitsNow rq ⟨⟨.tsiCommitCmd, p, 0⟩, 1, 1⟩ = true) :
    let u := (d.tsiCommitWrite p rq).settle
    u.Answered rq 0 ∧
    (d.standbyOk p 0 = true → d.get .lhMfnTx p 0 + 16 ≤ d.switchMfn p → (d.tether p).txPend = none →
      u.get .tsiCommitCmd p 0 = 1 ∧ u.tether p = { d.tether p with txPend := some (d.switchMfn p), announced := false }) ∧
    (d.standbyOk p 0 = false ∨ d.switchMfn p < d.get .lhMfnTx p 0 + 16 ∨ (d.tether p).txPend.isSome = true →
      u.get .tsiCommitCmd p 0 = 3 ∧ u.tether p = d.tether p) := by
  have hmfn := d.get_fmMessage_obj rq.ses.val .lhMfnTx p 0 rfl (by decide) (by decide) (by decide)
  rw [Device.tsiCommitWrite_tx hdir hadm]
  simp only [Device.get_settle_respond _ _ _ _ _ (show Obj.tsiCommitCmd.computed = false from rfl) (by decide) (by decide),
    Device.tether_settle_respond]
  rw [← d.standbyOk_fmMessage rq.ses.val p, ← d.switchMfn_fmMessage rq.ses.val p, ← hmfn, ← d.tether_fmMessage rq.ses.val p]
  exact ⟨Device.answered_respond _ _ _, Device.tsiCommit_tx_accepted, Device.tsiCommit_tx_refused⟩

/-- A commit for the receive direction is answered, and reads 0x01 and is armed or 0x03 with Tether as it was (R232). -/
theorem Device.tsiCommitWrite_rx_spec {d : Device} {p : Nat} {rq : Req} (hdir : d.sel .tsiDirSel p 0 rq.ses.val = 1)
    (hadm : d.admits rq ⟨⟨.tsiCommitCmd, p, 0⟩, 1, 1⟩ = true) :
    let u := (d.tsiCommitWrite p rq).settle
    u.Answered rq 0 ∧
    (d.standbyOk p 1 = true → u.get .tsiCommitCmd p 1 = 1 ∧ u.tether p = { d.tether p with rxArmed := true }) ∧
    (d.standbyOk p 1 = false → u.get .tsiCommitCmd p 1 = 3 ∧ u.tether p = d.tether p) := by
  rw [Device.tsiCommitWrite_rx hdir hadm]
  simp only [Device.get_settle_respond _ _ _ _ _ (show Obj.tsiCommitCmd.computed = false from rfl) (by decide) (by decide),
    Device.tether_settle_respond]
  rw [← d.standbyOk_fmMessage rq.ses.val p, ← d.tether_fmMessage rq.ses.val p]
  exact ⟨Device.answered_respond _ _ _, Device.tsiCommit_rx_accepted, Device.tsiCommit_rx_refused⟩

/-- The hold-off of a group that began first has run: its condition is a request (R234). -/
theorem Device.tether_holdoffRun {d : Device} {p g c : Nat}
    (h : ((d.apsFollow p).tether p).running.find? (fun c => c % 16 = g) = some c) :
    (d.holdoffRun p g).tether p = { (d.apsFollow p).tether p with
      running := ((d.apsFollow p).tether p).running.filter (· ≠ c),
      confirmed := ((d.apsFollow p).tether p).confirmed ++ [c], wtr := none } := by
  simp only [Device.holdoffRun, h, Device.apsConfirm, Device.tether_setTether, if_true]

theorem Device.holdoffRun_of_none {d : Device} {p g : Nat}
    (h : ((d.apsFollow p).tether p).running.find? (fun c => c % 16 = g) = none) : d.holdoffRun p g = d.apsFollow p := by
  simp only [Device.holdoffRun, h]

section
variable {d : Device} {p : Nat} (hlive : d.live p = true) (hrole : d.role p = 1)
include hlive hrole

/-- What the pages and the protection of a boundary do not move stands as the links and keys left it. -/
theorem Device.get_mfBoundary {o : Obj} (q i : Nat) (h : (objs_txPageBoundary ||| objs_apsBoundary).testBit o.ctorIdx = false) :
    (d.mfBoundary p).get o q i = (d.mfReady p).get o q i := by
  rw [Nat.testBit_or, Bool.or_eq_false_iff] at h
  rw [Device.mfBoundary_gateway hlive hrole]
  exact (((Moves.refl _ _ _).apsBoundary (Mask.le_refl _) (Mask.le_refl _)).get o q i h.2).trans
    (((Moves.refl _ _ _).txPageBoundary (Mask.le_refl _) (Mask.le_refl _)).get o q i h.1)

theorem Device.bare_mfBoundary : ((d.mfBoundary p).tether p).bare = (((d.mfReady p).txPageBoundary p).tether p).bare := by
  rw [Device.mfBoundary_gateway hlive hrole, Device.bare_apsBoundary]

/-- Every framer stands at its first frame after a boundary (R216). -/
theorem Device.link_mfBoundary {l : Nat} (hl : l < 4) : (d.mfBoundary p).link p l = { d.link p l with fn := 0 } := by
  rw [Device.mfBoundary_gateway hlive hrole, ← d.link_mfReady hl]
  exact (Device.link_congr (((Moves.refl _ _ _).apsBoundary (Mask.le_refl _) (Mask.le_refl _)).parts .links (by decide)) p l).trans
    (Device.link_congr (((Moves.refl _ _ _).txPageBoundary (Mask.le_refl _) (Mask.le_refl _)).parts .links (by decide)) p l)

theorem Device.inBundle_mfBoundary {l : Nat} (hl : l < 4) : (d.mfBoundary p).inBundle p l = (d.inBundle p l || d.joins p l) := by
  rw [← d.inBundle_mfReady hl]
  exact congrArg (bit · l) (Device.get_mfBoundary hlive hrole p 0 (by decide))

theorem Device.get_apsSwitches_mfBoundary : (d.mfBoundary p).get .apsSwitches p 0 =
    if (d.mfBoundary p).get .apsBridge p 0 = d.get .apsBridge p 0 then d.get .apsSwitches p 0
    else min (d.get .apsSwitches p 0 + 1) (2 ^ 32 - 1) := by
  have hpage : ∀ o : Obj, o ≠ .lhMfnTx → (objs_joinLinks ||| objs_keyBoundary).testBit o.ctorIdx = false →
      objs_txPageBoundary.testBit o.ctorIdx = false → ((d.mfReady p).txPageBoundary p).get o p 0 = d.get o p 0 := fun o hne hready h =>
    (((Moves.refl _ _ _).txPageBoundary (Mask.le_refl _) (Mask.le_refl _)).get o p 0 h).trans
      ((d.get_mfReady p p 0 hready).trans (d.get_mfBegin_of_ne p p 0 hne))
  rw [Device.mfBoundary_gateway hlive hrole, Device.get_apsSwitches_apsBoundary,
    hpage .apsBridge (by decide) (by decide) (by decide), hpage .apsSwitches (by decide) (by decide) (by decide)]

/-- A page pending for a later multiframe is announced (R231). -/
theorem Device.mfBoundary_announces {m : Nat} (hpend : (d.tether p).txPend = some m) (hm : (d.get .lhMfnTx p 0 + 1) % 2 ^ 48 < m) :
    ((d.mfBoundary p).tether p).announced = true ∧ ((d.mfBoundary p).tether p).txPage = (d.tether p).txPage := by
  have hready : ((d.mfReady p).tether p).txPend = some m := by rw [d.tether_mfReady]; exact hpend
  have hbare := Device.bare_mfBoundary hlive hrole
  rw [Device.txPageBoundary_early hready (d.get_mfReady_mfn p ▸ hm), Device.tether_setTether, if_pos rfl, d.tether_mfReady] at hbare
  exact ⟨(congrArg TetherSt.announced hbare :), (congrArg TetherSt.txPage hbare :)⟩

/-- A page pending for the multiframe that begins, or an earlier one, is taken (R231). -/
theorem Device.mfBoundary_takes (hwf : d.RegsWf = true) {m : Nat} (hpend : (d.tether p).txPend = some m)
    (hm : m ≤ (d.get .lhMfnTx p 0 + 1) % 2 ^ 48) :
    ((d.mfBoundary p).tether p).txPend = none ∧ ((d.mfBoundary p).tether p).txPage = 1 - (d.tether p).txPage ∧
    (d.mfBoundary p).get .tsiCommitCmd p 0 = 2 ∧ (d.mfBoundary p).get .tsiPcodeActive p 0 = d.get .tsiPcode p 0 ∧
    ∀ pos < 2048, (d.mfBoundary p).get .tsiEntryActive p (tsiIx 0 pos) = d.get .tsiEntry p (tsiIx 0 pos) := by
  have hready : ((d.mfReady p).tether p).txPend = some m := by rw [d.tether_mfReady]; exact hpend
  have htake := Device.txPageBoundary_due hready (d.get_mfReady_mfn p ▸ hm)
  have hbare := Device.bare_mfBoundary hlive hrole
  rw [htake, Device.tether_takeTxPage, d.tether_mfReady] at hbare
  have haps : ∀ o : Obj, objs_apsBoundary.testBit o.ctorIdx = false → ∀ i,
      (d.mfBoundary p).get o p i = ((d.mfReady p).takeTxPage p).get o p i := fun o ho i => by
    rw [Device.mfBoundary_gateway hlive hrole, htake]
    exact ((Moves.refl _ _ _).apsBoundary (Mask.le_refl _) (Mask.le_refl _)).get o p i ho
  have hpcode : (d.mfReady p).get .tsiPcode p 0 = d.get .tsiPcode p 0 :=
    (d.get_mfReady p p 0 (by decide)).trans (d.get_mfBegin_of_ne p p 0 (by decide))
  have hentry : ∀ i, (d.mfReady p).get .tsiEntry p i = d.get .tsiEntry p i := fun i =>
    (d.get_mfReady p p i (by decide)).trans (d.get_mfBegin_of_ne p p i (by decide))
  refine ⟨(congrArg TetherSt.txPend hbare :), (congrArg TetherSt.txPage hbare :), ?_, ?_, fun pos hpos => ?_⟩
  · rw [haps _ (by decide), Device.get_takeTxPage_commitCmd]
  · rw [haps _ (by decide), Device.get_takeTxPage_pcodeActive, hpcode]
    exact hpcode ▸ Device.get_lt_of_regsWf hwf (o := .tsiPcode) (by decide)
  · rw [haps _ (by decide), Device.get_takeTxPage_entryActive hpos, hentry]
    exact hentry _ ▸ Device.get_lt_of_regsWf hwf (o := .tsiEntry) (Nat.two_pow_pos _)

/-- No slot area is filled and no record sealed where a multiframe begins (R216). -/
theorem Device.mfBoundary_clears : ((d.mfBoundary p).tether p).areas = [] ∧ ((d.mfBoundary p).tether p).sealed = 0 := by
  have hbare := Device.bare_mfBoundary hlive hrole
  obtain ⟨pend, announced, page, hpage⟩ := (d.mfReady p).tether_txPageBoundary p
  rw [hpage, d.tether_mfReady] at hbare
  exact ⟨(congrArg TetherSt.areas hbare :), (congrArg TetherSt.sealed hbare :)⟩

end

/-- Settles O35: the boundary clause by clause from `mfReady`, `txPageBoundary` and `apsBoundary`, and the commands from what they
leave on the device their request finds. -/
theorem multiframesAndPages : Obligations.MultiframesAndPages := by
  intro s p g v rq hwf
  refine ⟨fun hspine => ?spine, fun hlive hrole => ?boundary, fun hlive => ?holdoff, fun c hc => ?conditions, fun hlive => ?wtr,
    fun hadm => ⟨fun hv => ?command, fun hv => ?commandRefused⟩, fun hdir hadm => ?commitTx, fun hdir hadm => ?commitRx⟩
  case spine => exact ⟨_, exec_multiframeBoundary_spine p hspine, Device.frame_settle _ _⟩
  case boundary =>
    have htether : (s.dev.mfBoundary p).settle.tether p = (s.dev.mfBoundary p).tether p := (quiet_tether p).settle _
    have hget : ∀ o : Obj, o.computed = false → ∀ i, (s.dev.mfBoundary p).settle.get o p i = (s.dev.mfBoundary p).get o p i :=
      fun o ho i => Device.get_settle _ o p i ho
    have hbundle : ∀ l : Lh, (s.dev.mfBoundary p).settle.inBundle p l = (s.dev.inBundle p l || s.dev.joins p l) := fun l =>
      (congrArg (bit · l) (hget .lhBundle rfl 0)).trans (Device.inBundle_mfBoundary hlive hrole l.isLt)
    have hclears := Device.mfBoundary_clears hlive hrole
    refine ⟨_, exec_multiframeBoundary p hlive, rfl, ?mfn, fun l => ?link, htether ▸ hclears.1, htether ▸ hclears.2,
      fun l hin => ?stays, fun l halign hup hret hskew => ?joins, fun m hm hlt => ?announced, fun m hm hle => ?taken, ?switches⟩
    case mfn =>
      rw [hget _ rfl, Device.get_mfBoundary hlive hrole p 0 (by decide), s.dev.get_mfReady_mfn]
    case link =>
      rw [(quiet_link p l).settle, Device.link_mfBoundary hlive hrole l.isLt]
    case stays => rw [hbundle, hin, Bool.true_or]
    case joins => simp [hbundle, Device.joins, halign, hup, hret, hskew]
    case announced => exact htether ▸ Device.mfBoundary_announces hlive hrole hm hlt
    case taken =>
      rw [htether, hget _ rfl, hget _ rfl]
      simp only [hget .tsiEntryActive rfl]
      exact Device.mfBoundary_takes hlive hrole hwf hm hle
    case switches =>
      rw [hget _ rfl, hget _ rfl]
      exact Device.get_apsSwitches_mfBoundary hlive hrole
  case holdoff =>
    refine ⟨_, exec_holdoffExpiry p g hlive, rfl, fun c hc => ?_, fun hnone => ?_⟩
    · exact ((quiet_tether p).settle _).trans (Device.tether_holdoffRun hc)
    · rw [Device.holdoffRun_of_none hnone]; exact Device.frame_settle _ _
  case conditions =>
    have hknown := s.dev.known_apsFollow p hc
    refine ⟨hknown.mpr, fun hcond => not_or.mp (mt hknown.mp ?_)⟩
    rw [hcond]; exact Bool.false_ne_true
  case wtr =>
    refine ⟨_, exec_wtrExpiry p hlive, rfl, ?_, fun o q i ho => Device.get_settle _ o q i ho⟩
    rw [(quiet_tether p).settle, Device.tether_setTether, if_pos rfl]
  case command =>
    refine ⟨_, exec_apsCommand_ok p hadm hv, rfl, Device.answered_respond _ _ _, ?_, ?_⟩
    · rw [Device.get_settle_respond _ _ _ _ _ rfl (by decide) (by decide)]
      exact Device.get_set_lt _ _ _ _ _ v.isLt
    · rw [Device.get_settle_respond _ _ _ _ _ rfl (by decide) (by decide), Device.get_set_obj _ _ _ _ _ _ _ _ (by decide)]
      exact Device.get_fmMessage_obj _ _ _ _ _ rfl (by decide) (by decide) (by decide)
  case commandRefused =>
    refine ⟨_, exec_apsCommand_refused p hadm hv, Device.answered_respond _ _ _, ?_⟩
    rw [Device.get_settle_respond _ _ _ _ _ rfl (by decide) (by decide)]
    exact Device.get_fmMessage_obj _ _ _ _ _ rfl (by decide) (by decide) (by decide)
  case commitTx =>
    have hspec := Device.tsiCommitWrite_tx_spec hdir hadm
    rw [hdir]
    exact ⟨⟨_, exec_tsiCommitTx p rq s, rfl, hspec⟩, _, exec_tsiCommitRx p rq s, rfl, hspec⟩
  case commitRx =>
    have hspec := Device.tsiCommitWrite_rx_spec hdir hadm
    rw [hdir]
    exact ⟨⟨_, exec_tsiCommitTx p rq s, rfl, hspec⟩, _, exec_tsiCommitRx p rq s, rfl, hspec⟩

end Sys2Proof.Machine

namespace Sys2Proof.Machine

/-! ### Reads of the checkpoint store (spec/12 R289, spec/01 R16) -/

/-- The device once the engine has taken a read: from a memory port, or off the array (R277). -/
def Device.ckptTaken (d : Device) (p : Nat) (a : Attach) (f : Sys2Proof.Frame) : Device :=
  if a.sw < 128 then d.takeCkpt p f else d.takeIn p ckptSw f

/-- The bytes of the page that answer `k` carries, where the committed version holds it. -/
def Device.servedPage (d : Device) (p g : Nat) (f : Sys2Proof.Frame) (k : Nat) : Option Bytes :=
  (pageOf (d.rgn p g).cur (f.offset + k)).map (·.data)

/-- Answer `k` of `n` (R289): LAST on the final one, empty where the page is not held. -/
def Device.servedFrame (d : Device) (p g n : Nat) (f : Sys2Proof.Frame) (k : Nat) : Sys2Proof.Frame :=
  ({ d.ckptMk p g opCkptData f.srcDevice f.srcPort f.context (d.get .rgnVersion p g) (f.offset + k) with
     flags := if k + 1 = n then 32 else 0 } : Mk).frame ((d.servedPage p g f k).getD [])

/-- A page that `e` does not hold is counted (R289). -/
def Device.countMissing (e : Device) (p g : Nat) (f : Sys2Proof.Frame) (d : Device) (k : Nat) : Device :=
  if (e.servedPage p g f k).isNone then d.bump .ckptReadFail p 0 else d

/-- Serving answer `k` of the version that `e` holds. -/
def Device.servePage (e : Device) (p g n : Nat) (f : Sys2Proof.Frame) (d : Device) (k : Nat) : Device :=
  (e.countMissing p g f d k).ckptRespond p f (e.servedFrame p g n f k)

/-- A read of `n` pages of the committed version of region `g` that passes the checks of Table 12.2. -/
structure Device.ServesRead (e : Device) (p g n : Nat) (f : Sys2Proof.Frame) : Prop where
  region : e.ckptRegion p f = some g
  tenant : f.tenant = e.rgnTenant p g
  length : f.length = 16
  flowSeq : f.flowSeq = 0
  count : beNat f.payload 4 2 = n
  count_pos : 1 ≤ n
  count_le : n ≤ 1024
  pages : f.offset + n ≤ e.get .rgnPages p g
  reserved : beNat f.payload 6 10 = 0
  latest : beNat f.payload 0 4 = 0
  version : e.get .rgnVersion p g ≠ 0
  held : (e.rgn p g).cur ≠ []

theorem exec_ckptRead (p : Plane) (a : Attach) (f : Sys2Proof.Frame) {s : State} (h : s.dev.live p = true) :
    exec (.ckptRead p a f) s = .next { s with dev := ((s.dev.ckptTaken p a f).ckptReadRx p f).settle } := by
  show execCkptRead p a f s = _
  exact State.runOn_next h

theorem foldl_eq_of_invariant {α β : Type} {I : β → Prop} {f g : β → α → β} (hstep : ∀ d a, I d → f d a = g d a)
    (hkeep : ∀ d a, I d → I (g d a)) (l : List α) {d : β} (h : I d) : l.foldl f d = l.foldl g d := by
  induction l generalizing d with
  | nil => rfl
  | cons a r ih => rw [List.foldl_cons, List.foldl_cons, hstep d a h, ih (hkeep d a h)]

section
variable {e : Device} {p g n : Nat} {f : Sys2Proof.Frame}

theorem Device.moves_countMissing {d : Device} (h : Moves e d objs_ckptReadRx parts_ckptReadRx) (k : Nat) :
    Moves e (e.countMissing p g f d k) objs_ckptReadRx parts_ckptReadRx :=
  Moves.ite (fun _ => h.bump (by decide) (by decide) (by decide)) (fun _ => h)

/-- Serving a page moves what a read moves. -/
theorem Device.moves_servePage {d : Device} (h : Moves e d objs_ckptReadRx parts_ckptReadRx) (k : Nat) :
    Moves e (e.servePage p g n f d k) objs_ckptReadRx parts_ckptReadRx :=
  (Device.moves_countMissing h k).ckptRespond (Mask.of (by decide)) (Mask.of (by decide))

/-- What answers a read does not move: the region and the header's fields stand as the read found them. -/
theorem Device.readPage_served {d : Device} (h : Moves e d objs_ckptReadRx parts_ckptReadRx) (hv : e.get .rgnVersion p g ≠ 0)
    (hheld : (e.rgn p g).cur ≠ []) (k : Nat) :
    d.readPage p g (e.get .rgnVersion p g) (f.offset + k) = (d, e.servedPage p g f k) := by
  have hrgn : d.rgn p g = e.rgn p g := by
    unfold Device.rgn; rw [show d.rgns = e.rgns from h.parts .rgns (by decide)]
  have hversion : d.get .rgnVersion p g = e.get .rgnVersion p g := h.get _ _ _ (by decide)
  unfold Device.readPage Device.servedPage
  simp [hv, hversion, hrgn, hheld]

theorem Device.ckptMk_served {d : Device} (h : Moves e d objs_ckptReadRx parts_ckptReadRx) (op dev port ctx seq off : Nat) :
    d.ckptMk p g op dev port ctx seq off = e.ckptMk p g op dev port ctx seq off := by
  unfold Device.ckptMk Device.rgnTenant Device.devId
  rw [h.get _ _ _ (by decide), h.get _ _ _ (by decide)]

/-- A read that passes the checks is served page by page (R289). -/
theorem Device.ckptReadRx_served (h : e.ServesRead p g n f) :
    e.ckptReadRx p f = (List.range n).foldl (e.servePage p g n f) e := by
  have hn : ¬ n > 1024 := Nat.not_lt.mpr h.count_le
  have hpages : ¬ f.offset + n > e.get .rgnPages p g := Nat.not_lt.mpr h.pages
  have hpos : n ≠ 0 := Nat.one_le_iff_ne_zero.mp h.count_pos
  unfold Device.ckptReadRx
  simp only [h.region, h.tenant, h.length, h.flowSeq, h.count, h.reserved, h.latest, hn, hpages, hpos, ne_eq, not_true,
    decide_false, Bool.or_false, if_false, if_true, Bool.false_eq_true]
  refine foldl_eq_of_invariant (I := fun d => Moves e d objs_ckptReadRx parts_ckptReadRx) (fun d k hd => ?_)
    (fun d k hd => Device.moves_servePage hd k) _ (Moves.refl ..)
  rw [Device.readPage_served hd h.version h.held, Device.ckptMk_served hd]
  unfold Device.servePage Device.countMissing Device.servedFrame
  cases e.servedPage p g f k <;> rfl

/-- Serving a page counts it where it is not held, up to the counter's highest value (R289, R386). -/
theorem Device.get_ckptReadFail_servePage (d : Device) (k : Nat) :
    (e.servePage p g n f d k).get .ckptReadFail p 0 =
      if (e.servedPage p g f k).isNone then min (d.get .ckptReadFail p 0 + 1) (2 ^ 32 - 1) else d.get .ckptReadFail p 0 := by
  have hrespond (d : Device) (r : Sys2Proof.Frame) : (d.ckptRespond p f r).get .ckptReadFail p 0 = d.get .ckptReadFail p 0 :=
    ((Moves.refl d _ _).ckptRespond (Mask.le_refl _) (Mask.le_refl _)).get _ _ _ (by decide)
  unfold Device.servePage
  rw [hrespond]
  unfold Device.countMissing
  split
  · exact Device.get_count_same d .ckptReadFail p 0 1 (by decide)
  · rfl

/-- The pages of a read that are not held are counted (R289). -/
theorem Device.get_ckptReadFail_serveAll (l : List Nat) (d : Device) (hfits : d.get .ckptReadFail p 0 ≤ 2 ^ 32 - 1) :
    (l.foldl (e.servePage p g n f) d).get .ckptReadFail p 0 =
      min (d.get .ckptReadFail p 0 + (l.filter (fun k => (e.servedPage p g f k).isNone)).length) (2 ^ 32 - 1) := by
  induction l generalizing d with
  | nil => exact (Nat.min_eq_left hfits).symm
  | cons k r ih =>
    have hstep := Device.get_ckptReadFail_servePage (e := e) (p := p) (g := g) (n := n) (f := f) d k
    cases hk : (e.servedPage p g f k).isNone
    · rw [hk, if_neg Bool.false_ne_true] at hstep
      rw [List.foldl_cons, ih _ (hstep ▸ hfits), hstep, List.filter_cons_of_neg (by simp [hk])]
    · rw [hk, if_pos rfl] at hstep
      rw [List.foldl_cons, ih _ (by omega), hstep, List.filter_cons_of_pos (by exact hk), List.length_cons]
      omega

end

/-! #### Answers that go through a memory port (spec/01 R16) -/

/-- A frame stands queued for a port, from an input. -/
def Device.Queued (d : Device) (p o input : Nat) (f : Sys2Proof.Frame) : Prop :=
  ∃ id c r, id < d.nextId ∧ c.fid < d.nextId ∧ d.copy? p id = some c ∧ c.stage = .queued ∧ c.wait = [o] ∧
    d.frame? p c.fid = some r ∧ r.frame = f ∧ r.input = input

theorem Device.Queued.of_same {d d' : Device} {p o input : Nat} {f : Sys2Proof.Frame} (h : d.Queued p o input f)
    (hid : d'.nextId = d.nextId) (hcopies : d'.copies = d.copies) (hframes : d'.frames = d.frames) : d'.Queued p o input f := by
  unfold Device.Queued Device.copy? Device.frame? at h ⊢
  rwa [hid, hcopies, hframes]

/-- Whether the pointers to a fabric port are discarded rests on its state and its window. -/
theorem Device.outShut_eq {d d' : Device} {p o : Nat} (ho : o < 128) (hstate : d'.get .portState p o = d.get .portState p o)
    (hwindow : (d'.port p o).window = (d.port p o).window) : d'.outShut p o = d.outShut p o := by
  have hline : ¬ 128 ≤ o := Nat.not_le.mpr ho
  unfold Device.outShut
  simp [hstate, hwindow, hline]

/-- The record of a frame that comes from beside the array. -/
def directRec (p input : Nat) (f : Sys2Proof.Frame) (tenant : Nat) : FrameRec :=
  { plane := p, input := input, frame := f, cls := f.cls, tenant := tenant, cells := f.cells, charged := false, credit := none }

/-- Its copy, queued for the port. -/
def Device.directCopy (d : Device) (p o : Nat) : Copy :=
  { plane := p, fid := d.nextId, row := 20, col := 20, stage := .queued, place := [], wait := [o], sentTo := [], due := [],
    seq := d.nextId + 2, at_ := d.clock, moved := false, charged := false }

/-- The device once the frame is stored for a port, before pointers to a shut port are discarded. -/
def Device.storeDirect (d : Device) (p input o : Nat) (f : Sys2Proof.Frame) (tenant : Nat) : Device :=
  (Device.setFrame { d with nextId := d.nextId + 3 } p d.nextId (directRec p input f tenant)).setCopy p (d.nextId + 1)
    (d.directCopy p o)

section
variable (d : Device) (p input o : Nat) (f : Sys2Proof.Frame) (tenant : Nat)

theorem Device.copy_storeDirect (id : Nat) :
    (d.storeDirect p input o f tenant).copy? p id = if id = d.nextId + 1 then some (d.directCopy p o) else d.copy? p id := by
  have h := Device.copy_setCopy (Device.setFrame { d with nextId := d.nextId + 3 } p d.nextId (directRec p input f tenant)) p
    (d.nextId + 1) (d.directCopy p o) p id
  simp only [Prod.mk.injEq, true_and] at h
  exact h

theorem Device.frame_storeDirect (fid : Nat) :
    (d.storeDirect p input o f tenant).frame? p fid = if fid = d.nextId then some (directRec p input f tenant) else d.frame? p fid := by
  have h := Device.frame_setFrame { d with nextId := d.nextId + 3 } p d.nextId (directRec p input f tenant) p fid
  simp only [Prod.mk.injEq, true_and] at h
  exact h

theorem Device.outShut_storeDirect {o' : Nat} (ho' : o' < 128) : (d.storeDirect p input o f tenant).outShut p o' = d.outShut p o' :=
  Device.outShut_eq ho' rfl rfl

theorem Device.queued_storeDirect : (d.storeDirect p input o f tenant).Queued p o input f :=
  ⟨d.nextId + 1, d.directCopy p o, directRec p input f tenant, Nat.lt_add_of_pos_right (k := 2) Nat.two_pos,
    Nat.lt_add_of_pos_right (k := 3) (Nat.succ_pos 2), (Device.copy_storeDirect ..).trans (if_pos rfl), rfl, rfl,
    (Device.frame_storeDirect ..).trans (if_pos rfl), rfl, rfl⟩

variable {d p}

/-- What is queued stays so when another frame is stored: that one stands under new numbers. -/
theorem Device.Queued.storeDirect {o' input' : Nat} {f' : Sys2Proof.Frame} (h : d.Queued p o' input' f') :
    (d.storeDirect p input o f tenant).Queued p o' input' f' := by
  obtain ⟨id, c, r, hid, hfid, hcopy, hstage, hwait, hframe, hrec⟩ := h
  refine ⟨id, c, r, Nat.lt_add_right 3 hid, Nat.lt_add_right 3 hfid, ?_, hstage, hwait, ?_, hrec⟩
  · rw [Device.copy_storeDirect, if_neg (Nat.ne_of_lt (Nat.lt_succ_of_lt hid))]; exact hcopy
  · rw [Device.frame_storeDirect, if_neg (Nat.ne_of_lt hfid)]; exact hframe

/-- To a port that is open a frame from beside the array is stored, and no pointer of it is discarded. -/
theorem Device.queueDirect_open (ho : o < 128) (hopen : d.outShut p o = false) :
    d.queueDirect p input o f tenant = d.storeDirect p input o f tenant := by
  have hstored : d.queueDirect p input o f tenant = (d.storeDirect p input o f tenant).purge p (d.nextId + 1) := by
    unfold Device.queueDirect Device.storeDirect Device.directCopy
    rw [show swOfLine o = o from if_pos ho]; rfl
  rw [hstored]
  unfold Device.purge
  rw [Device.copy_storeDirect, if_pos rfl]
  simp [Device.directCopy, Device.outShut_storeDirect _ _ _ _ _ _ ho, hopen]

end

section
variable {e : Device} {p g n : Nat} {f : Sys2Proof.Frame}

theorem Device.outShut_countMissing (d : Device) {o : Nat} (ho : o < 128) (k : Nat) :
    (e.countMissing p g f d k).outShut p o = d.outShut p o := by
  unfold Device.countMissing
  split
  · exact Device.outShut_eq ho (Device.get_bump_obj _ _ _ _ _ _ _ (by decide)) (by simp)
  · rfl

theorem Device.Queued.countMissing {d : Device} {o input : Nat} {r : Sys2Proof.Frame} (h : d.Queued p o input r) (k : Nat) :
    (e.countMissing p g f d k).Queued p o input r := by
  unfold Device.countMissing
  split
  · exact h.of_same (by simp) (by simp) (by simp)
  · exact h

/-- An answer to a fabric port of the plane that is open is stored for that port, from its group's memory port. -/
theorem Device.servePage_open {d : Device} (h : Moves e d objs_ckptReadRx parts_ckptReadRx) (hlocal : f.srcDevice = e.devId p)
    (ho : f.srcPort < 128) (hopen : d.outShut p f.srcPort = false) (k : Nat) :
    e.servePage p g n f d k = (e.countMissing p g f d k).storeDirect p (500 + group f.srcPort) f.srcPort
      (e.servedFrame p g n f k) (e.servedFrame p g n f k).tenant := by
  have hdev : f.srcDevice = (e.countMissing p g f d k).devId p := by
    rw [hlocal]; exact ((Device.moves_countMissing h k).get .deviceIdActive 4 p (by decide)).symm
  unfold Device.servePage Device.ckptRespond
  rw [← hdev, Device.queueDirect_open _ _ _ _ ho ((Device.outShut_countMissing _ ho _).trans hopen)]
  simp [ho]

/-- Every answer to a fabric port of the plane that is open is queued for it. -/
theorem Device.queued_serveAll (hlocal : f.srcDevice = e.devId p) (ho : f.srcPort < 128) (l : List Nat) {d : Device}
    (h : Moves e d objs_ckptReadRx parts_ckptReadRx) (hopen : d.outShut p f.srcPort = false) {k : Nat}
    (hk : k ∈ l ∨ d.Queued p f.srcPort (500 + group f.srcPort) (e.servedFrame p g n f k)) :
    (l.foldl (e.servePage p g n f) d).Queued p f.srcPort (500 + group f.srcPort) (e.servedFrame p g n f k) := by
  induction l generalizing d with
  | nil => exact hk.resolve_left List.not_mem_nil
  | cons j r ih =>
    have hserved := Device.servePage_open (g := g) (n := n) h hlocal ho hopen j
    refine ih (Device.moves_servePage h j) ?_ ?_
    · rw [hserved, Device.outShut_storeDirect _ _ _ _ _ _ ho, Device.outShut_countMissing _ ho, hopen]
    · rw [hserved]
      rcases hk with hk | hk
      · rcases List.mem_cons.mp hk with rfl | hk
        · exact .inr (Device.queued_storeDirect ..)
        · exact .inl hk
      · exact .inr ((hk.countMissing j).storeDirect ..)

/-- An answer to another device goes through the array. -/
theorem Device.servePage_array (d : Device) (hother : f.srcDevice ≠ d.devId p) {k : Nat} (hheld : e.servedPage p g f k ≠ none) :
    e.servePage p g n f d k = d.sendOwn p ckptSw (e.servedFrame p g n f k) := by
  have hcount : e.countMissing p g f d k = d := if_neg (by simp [hheld])
  unfold Device.servePage Device.ckptRespond
  rw [hcount]
  simp [hother]

end

/-! #### What taking a read leaves unchanged -/

section
variable (d : Device) (p : Nat) (a : Attach) (f : Sys2Proof.Frame)

theorem Device.moves_ckptTaken : Moves d (d.ckptTaken p a f) (objs_takeCkpt ||| objs_takeIn) (parts_takeCkpt ||| parts_takeIn) :=
  Moves.ite (fun _ => (Moves.refl d _ _).takeCkpt (Mask.of (by decide)) (Mask.of (by decide)))
    (fun _ => (Moves.refl d _ _).takeIn (Mask.of (by decide)) (Mask.of (by decide)))

theorem PortsBare.ckptTaken : PortsBare d (d.ckptTaken p a f) := by
  have hin : PortsBare d (d.takeIn p ckptSw f) := by
    unfold Device.takeIn; split <;> exact PortsBare.of_ports rfl
  have hck : PortsBare d (d.takeCkpt p f) := by
    unfold Device.takeCkpt Device.creditBack
    split
    · next x _ =>
      have herase : PortsBare d { d with inbox := d.inbox.erase x } := PortsBare.of_ports rfl
      split
      · split
        · exact herase.trans (PortsBare.returnCredit _ _ _ _ _)
        · exact herase
      · exact herase
    · exact .refl d
  unfold Device.ckptTaken
  split
  · exact hck
  · exact hin

theorem Device.outShut_ckptTaken {o : Nat} (ho : o < 128) : (d.ckptTaken p a f).outShut p o = d.outShut p o :=
  Device.outShut_eq ho ((Device.moves_ckptTaken d p a f).get .portState p o (by decide))
    (congrArg PortSt.window (PortsBare.ckptTaken d p a f p o) :)

end

/-- O18's clauses, where the counter of pages not held stands within its 32 bits, as it does in
every well-formed register file. -/
theorem checkpointReads_of_counter (s : State) (p : Plane) (a : Attach) (f : Sys2Proof.Frame) (g n : Nat) (hlive : s.dev.live p = true)
    (hfits : s.dev.get .ckptReadFail p 0 ≤ 2 ^ 32 - 1) (h : (s.dev.ckptTaken p a f).ServesRead p g n f) :
    let e := s.dev.ckptTaken p a f
    ∃ t, exec (.ckptRead p a f) s = .next t ∧ t.pending = s.pending ∧ t.dev.rgn p g = s.dev.rgn p g ∧
      t.dev.get .ckptReadFail p 0 = min (s.dev.get .ckptReadFail p 0 +
        ((List.range n).filter (fun k => (e.servedPage p g f k).isNone)).length) (2 ^ 32 - 1) ∧
      (f.srcDevice = e.devId p → f.srcPort < 128 → s.dev.outShut p f.srcPort = false →
        ∀ k, k < n → t.dev.Queued p f.srcPort (500 + group f.srcPort) (e.servedFrame p g n f k)) ∧
      (n = 1 → e.servedPage p g f 0 ≠ none → f.srcDevice ≠ e.devId p →
        Device.Frame (e.sendOwn p ckptSw (e.servedFrame p g n f 0)) t.dev noRegs) := by
  intro e
  have htaken := Device.moves_ckptTaken s.dev p a f
  have hmoves : Moves e (e.ckptReadRx p f) _ _ := (Moves.refl e _ _).ckptReadRx (Mask.le_refl _) (Mask.le_refl _)
  have hserve := Device.ckptReadRx_served h
  refine ⟨_, exec_ckptRead p a f hlive, rfl, ?region, ?count, ?queued, ?array⟩
  case region =>
    show Tbl.get (e.ckptReadRx p f).settle.rgns _ _ = _
    rw [(Device.frame_settle _ noRegs).rgns, show (e.ckptReadRx p f).rgns = e.rgns from hmoves.parts .rgns (by decide),
      show e.rgns = s.dev.rgns from htaken.parts .rgns (by decide)]
    rfl
  case count =>
    have hcounter : e.get .ckptReadFail p 0 = s.dev.get .ckptReadFail p 0 := htaken.get _ _ _ (by decide)
    show (e.ckptReadRx p f).settle.get _ _ _ = _
    rw [Device.get_settle _ _ _ _ rfl, hserve, Device.get_ckptReadFail_serveAll _ _ (hcounter ▸ hfits), hcounter]
  case queued =>
    intro hlocal ho hopen k hk
    have hq := Device.queued_serveAll (g := g) (n := n) hlocal ho (List.range n) (Moves.refl e _ _)
      ((Device.outShut_ckptTaken _ p a f ho).trans hopen) (.inl (List.mem_range.mpr hk))
    rw [← hserve] at hq
    exact hq.of_same (Device.frame_settle _ noRegs).nextId (Device.frame_settle _ noRegs).copies (Device.frame_settle _ noRegs).frames
  case array =>
    intro hn hheld hother
    subst hn
    have hone : e.ckptReadRx p f = e.sendOwn p ckptSw (e.servedFrame p g 1 f 0) := hserve.trans (Device.servePage_array e hother hheld)
    rw [← hone]
    exact Device.frame_settle _ noRegs

/-- A device that answers a read of a page it holds, and whose register file holds, where `ckptReadFail` of plane 0 stands, a value
wider than that register. -/
def wideCounterDevice : Device :=
  let d := ((Tests.dRgn 1 0 { cur := [⟨1, 7, 0, [1, 2]⟩] }).set .rgnVersion 0 5 1).set .portState 0 9 4
  { d with regs := (⟨.ckptReadFail, 0, 0⟩, 2 ^ 32) :: d.regs }

/-- Refutes O18: the statement ranges over register files that are not well formed too. Where one holds 2^32 in the 32-bit counter
`ckptReadFail`, a read of a page that is held leaves that value, which is not `min (2^32 + 0) (2^32 - 1)`. Where the counter stands
within its 32 bits, what the statement says holds: `checkpointReads_of_counter`. -/
theorem not_checkpointReads : ¬ Obligations.CheckpointReads := by
  intro h
  obtain ⟨⟨t, ht, -, -, hcount, -⟩, -⟩ := h { dev := wideCounterDevice } 0 (.fabric 9) Tests.fRd 5 1
    (by decide +kernel) (by decide +kernel)
    (by decide +kernel) (by decide +kernel) (by decide +kernel) (by decide +kernel) (by decide) (by decide) (by decide +kernel)
    (by decide +kernel) (by decide +kernel) (by decide +kernel) (by decide +kernel)
  have hnext := (exec_ckptRead 0 (.fabric 9) Tests.fRd (s := { dev := wideCounterDevice }) (by decide +kernel)).symm.trans ht
  rw [← Host.Outcome.next.inj hnext] at hcount
  exact absurd (hcount.le.trans (Nat.min_le_right ..)) (by decide +kernel)

end Sys2Proof.Machine

/-! ### Writes of partition assignments (spec/02 R34, spec/17 R369, R479) -/

namespace Sys2Proof.Machine

/-! #### A WRITE of an object without a row of its own -/

section
variable {d : Device} {rq : Req} {t : Target}

theorem Device.writeReq_of_plain {idx sub : Nat} {bytes : Bytes} (htarget : target idx sub = some t)
    (hrow : rowOf rq idx t (bytesToNat bytes) = none) (hrom : romObj idx sub = false) :
    d.writeReq rq idx sub bytes = d.request rq (fun e => e.doWrite rq ⟨t, bytes.length, bytesToNat bytes⟩
      (fun e => e.writeRule t rq.ses.val (bytesToNat bytes)) (fun e => e.writeEffect t rq.ses.val (bytesToNat bytes))) := by
  unfold Device.writeReq Device.requestAt
  simp [htarget, hrow, hrom]

/-- A write that the rule of its chapter does not allow is refused: by that rule, or by a check before it (R479). -/
theorem Device.write_refused (w : Write) (rule : Device → Bool) (apply : Device → Device × Bool) (htakes : d.takes rq = true)
    (hrule : rule (d.fmMessage rq.ses.val) = false) :
    ∃ st, st ≠ 0 ∧ d.request rq (fun e => e.doWrite rq w rule apply) = (d.fmMessage rq.ses.val).respond rq (statusResp rq st) := by
  by_cases hchecks : (d.fmMessage rq.ses.val).writeStatus w rq.ses.val = 0
  · exact ⟨0x0303, by decide, Device.write_ruled_out d rq w rule apply htakes hchecks hrule⟩
  · refine ⟨_, hchecks, ?_⟩
    rw [Device.request_taken d rq _ htakes]
    simp [Device.doWrite, hchecks]

theorem Device.cmdBusy_of_plain {ses : Nat} (h : t.obj.info.acc ≠ .cmd) : d.cmdBusy t ses = false := by
  simp [Device.cmdBusy, h]

/-- A value that passes the checks of its object lies in the object's range. -/
theorem Device.writeStatus_range {w : Write} {ses lo hi : Nat} (hrange : w.tgt.obj.range = some (lo, hi))
    (h : d.writeStatus w ses = 0) : lo ≤ w.val ∧ w.val ≤ hi := by
  by_contra hout
  have hwide : w.val < lo ∨ hi < w.val := by omega
  unfold Device.writeStatus at h
  simp only [hrange] at h
  split_ifs at h
  all_goals simp_all

end

/-! #### The two objects of R34 -/

section
variable {idx sub : Nat} {o : Obj} {r : List Obj}

theorem findObj_cons_of_none (h : o.info.at_ idx sub = none) : findObj idx sub (o :: r) = findObj idx sub r := by
  rw [findObj, h]

theorem findObj_cons_of_some {x : Nat × Nat} (h : o.info.at_ idx sub = some x) : findObj idx sub (o :: r) = some ⟨o, x.1, x.2⟩ := by
  rw [findObj, h]

/-- At the indexes of the partitions stand neither the roles of planes nor the limit of the fault manager's silence. -/
theorem target_of_partitionIndex (h : 0x1410 ≤ idx) : target idx sub = findObj idx sub (Obj.all.drop 3) := by
  have hidx : idx ≠ 0x1400 := by omega
  have hrole : Obj.planeRole.info.at_ idx sub = none := by simp [Obj.info, ObjInfo.at_, hidx]
  have hactive : Obj.planeRoleActive.info.at_ idx sub = none := by simp [Obj.info, ObjInfo.at_, hidx]
  have hlimit : Obj.fmTimeoutMs.info.at_ idx sub = none := by simp [Obj.info, ObjInfo.at_, hidx]
  exact (findObj_cons_of_none hrole).trans ((findObj_cons_of_none hactive).trans (findObj_cons_of_none hlimit))

end

theorem target_portPartition (p : Plane) (n : Port) : target (0x1410 + p) (1 + n) = some ⟨.portPartition, p, n⟩ := by
  have hp : p.val < 4 := p.isLt
  have hn : n.val < 128 := n.isLt
  have hplace : Obj.portPartition.info.at_ (0x1410 + p) (1 + n) = some (p.val, n.val) :=
    (if_pos (by simp; omega)).trans (by simp)
  exact (target_of_partitionIndex (by omega)).trans (findObj_cons_of_some hplace)

theorem target_lhPortPartition (p : Plane) (l : Lh) : target (0x1410 + p) (0x81 + l) = some ⟨.lhPortPartition, p, l⟩ := by
  have hp : p.val < 4 := p.isLt
  have hl : l.val < 4 := l.isLt
  have hfabric : Obj.portPartition.info.at_ (0x1410 + p) (0x81 + l) = none := if_neg (by simp; omega)
  have hplace : Obj.lhPortPartition.info.at_ (0x1410 + p) (0x81 + l) = some (p.val, l.val) :=
    (if_pos (by simp; omega)).trans (by simp)
  exact (target_of_partitionIndex (by omega)).trans ((findObj_cons_of_none hfabric).trans (findObj_cons_of_some hplace))

/-- R34's rule for a partition object is that its port is idle. -/
theorem Device.writeRule_portPartition (d : Device) (p n ses v : Nat) :
    d.writeRule ⟨.portPartition, p, n⟩ ses v = d.portIdle p n := rfl

theorem Device.writeRule_lhPortPartition (d : Device) (p l ses v : Nat) :
    d.writeRule ⟨.lhPortPartition, p, l⟩ ses v = d.lhIdle p l := rfl

theorem Device.portIdle_fmMessage (d : Device) (ses p n : Nat) : (d.fmMessage ses).portIdle p n = d.portIdle p n := by
  have hadmin : (d.fmMessage ses).get .portAdmin p n = d.get .portAdmin p n :=
    Device.get_fmMessage_obj d ses _ _ _ rfl (by decide) (by decide) (by decide)
  unfold Device.portIdle
  rw [hadmin, (Device.frame_fmMessage d ses).port]
  rfl

theorem Device.lhIdle_fmMessage (d : Device) (ses p l : Nat) : (d.fmMessage ses).lhIdle p l = d.lhIdle p l := by
  have hget : ∀ o ∈ [Obj.fencedLongHaul, .lhAdmin, .planeRoleActive], ∀ q i, (d.fmMessage ses).get o q i = d.get o q i := by
    simp only [List.forall_mem_cons]
    exact ⟨fun q i => Device.get_fmMessage_obj d ses _ q i rfl (by decide) (by decide) (by decide),
      fun q i => Device.get_fmMessage_obj d ses _ q i rfl (by decide) (by decide) (by decide),
      fun q i => Device.get_fmMessage_obj d ses _ q i rfl (by decide) (by decide) (by decide), by simp⟩
  simp only [List.forall_mem_cons] at hget
  obtain ⟨hfence, hadmin, hrole, -⟩ := hget
  unfold Device.lhIdle Device.role
  rw [hfence, hadmin, hrole]

theorem Device.portIdle_iff (d : Device) (p n : Nat) :
    d.portIdle p n = true ↔ (d.port p n).fenced = true ∨ d.get .portAdmin p n = 0 := by
  simp [Device.portIdle]

/-- `lh_admin` reads 0 outside the gateway role (R12), so such a port is idle. -/
theorem Device.lhIdle_iff (d : Device) (p l : Nat) :
    d.lhIdle p l = true ↔ bit (d.get .fencedLongHaul p 0) l = true ∨ d.readReg .lhAdmin p l = 0 := by
  unfold Device.lhIdle Device.readReg
  by_cases hrole : d.role p = 1 <;> simp [hrole]

/-- A partition is stored where the journal takes its record (R369). -/
theorem Device.writeEffect_partition {d : Device} {o : Obj} {p i ses v : Nat} (ho : o = .portPartition ∨ o = .lhPortPartition)
    (hv : v < 2 ^ 8) (hkept : d.journals ses [(⟨o, p, i⟩, v)] = true) :
    ∃ e : Device, (d.fmMessage ses).writeEffect ⟨o, p, i⟩ ses v = (e.set o p i v, true) := by
  have hwidth : o.width = 8 := by rcases ho with rfl | rfl <;> rfl
  have hacc : (o.info.acc = .rwp || o.info.acc = .rwl) = true := by rcases ho with rfl | rfl <;> rfl
  have hvalue : v % 2 ^ o.width = v := by rw [hwidth, Nat.mod_eq_of_lt hv]
  have hstore := Device.store_journals d ses o p i v hacc (hvalue.symm ▸ hkept)
  refine ⟨((d.fmMessage ses).journal [(⟨o, p, i⟩, v % 2 ^ o.width)]).1, ?_⟩
  have heffect : (d.fmMessage ses).writeEffect ⟨o, p, i⟩ ses v = (d.fmMessage ses).store o p i v := by
    rcases ho with rfl | rfl <;> exact ite_self _
  rw [heffect, hstore]

/-- A write of a partition, taken by the hub, where the port is idle and where it is not (R34). -/
theorem exec_write_partition {s : State} {o : Obj} {p i : Nat} {rq : Req} {v : Bytes} {idx : BitVec 16} {sub : Byte}
    (ho : o = .portPartition ∨ o = .lhPortPartition) (htarget : target idx.toNat sub.toNat = some ⟨o, p, i⟩)
    (hidx : idx.toNat ≠ 0x1210) {idle : Prop} (hidle : ∀ w,
      (s.dev.fmMessage rq.ses.val).writeRule ⟨o, p, i⟩ rq.ses.val w = true ↔ idle) (htakes : s.dev.takes rq = true) :
    ∃ t, exec (.write rq idx sub v) s = .next t ∧ t.pending = s.pending ∧
      (idle → (s.dev.fmMessage rq.ses.val).writeStatus ⟨⟨o, p, i⟩, v.length, bytesToNat v⟩ rq.ses.val = 0 →
        s.dev.journals rq.ses.val [(⟨o, p, i⟩, bytesToNat v)] = true →
        t.dev.Answered rq 0 ∧ t.dev.get o p i = bytesToNat v) ∧
      (¬ idle → (∃ st, st ≠ 0 ∧ t.dev.Answered rq st) ∧ t.dev.get o p i = s.dev.get o p i) := by
  have hplain : rowOf rq idx.toNat ⟨o, p, i⟩ (bytesToNat v) = none := by rcases ho with rfl | rfl <;> rfl
  have hregister : o ≠ .cause ∧ o ≠ .causeUnit ∧ o ≠ .causeTime ∧ o ≠ .ndpRequests ∧ o ≠ .mgmtRefused := by
    rcases ho with rfl | rfl <;> decide
  obtain ⟨hcause, hunit, htime, hrequests, hrefused⟩ := hregister
  have hcomputed : o.computed = false := by rcases ho with rfl | rfl <;> rfl
  have hwrite := Device.writeReq_of_plain (d := s.dev) htarget hplain (by simp [romObj, hidx])
  have hget : ∀ (e : Device) (r : Resp), (e.respond rq r).settle.get o p i = e.get o p i := fun e r =>
    Device.get_settle_respond e rq r p i hcomputed hrequests hrefused
  refine ⟨_, rfl, rfl, fun hport hchecks hkept => ?taken, fun hport => ?refused⟩
  case taken =>
    have hrange : o.range = some (0, 254) := by rcases ho with rfl | rfl <;> rfl
    have hwidth : o.width = 8 := by rcases ho with rfl | rfl <;> rfl
    have hvalue : bytesToNat v < 2 ^ 8 := lt_of_le_of_lt (Device.writeStatus_range hrange hchecks).2 (by decide)
    have hadmits : s.dev.admits rq ⟨⟨o, p, i⟩, v.length, bytesToNat v⟩ = true := by
      have hbusy := (s.dev.fmMessage rq.ses.val).cmdBusy_of_plain (t := ⟨o, p, i⟩) (ses := rq.ses.val)
        (show o.info.acc ≠ .cmd by rcases ho with rfl | rfl <;> decide)
      simp [Device.admits, htakes, hchecks, hbusy]
    obtain ⟨e, heffect⟩ := Device.writeEffect_partition ho hvalue hkept
    have happlied : s.dev.writeReq rq idx.toNat sub.toNat v = (e.set o p i (bytesToNat v)).respond rq (statusResp rq 0) := by
      rw [hwrite, Device.write_admitted _ _ _ _ _ hadmits ((hidle _).mpr hport) (by rw [heffect]), heffect]
    show (s.dev.writeReq rq idx.toNat sub.toNat v).settle.Answered rq 0 ∧ (s.dev.writeReq rq idx.toNat sub.toNat v).settle.get o p i = _
    rw [happlied]
    exact ⟨Device.answered_respond _ rq 0, (hget _ _).trans (Device.get_set_lt _ _ _ _ _ (hwidth.symm ▸ hvalue))⟩
  case refused =>
    obtain ⟨st, hst, hanswer⟩ := Device.write_refused ⟨⟨o, p, i⟩, v.length, bytesToNat v⟩
      (fun e => e.writeRule ⟨o, p, i⟩ rq.ses.val (bytesToNat v)) (fun e => e.writeEffect ⟨o, p, i⟩ rq.ses.val (bytesToNat v)) htakes
      (Bool.eq_false_iff.mpr (mt (hidle _).mp hport))
    show (∃ st, st ≠ 0 ∧ (s.dev.writeReq rq idx.toNat sub.toNat v).settle.Answered rq st) ∧
      (s.dev.writeReq rq idx.toNat sub.toNat v).settle.get o p i = _
    rw [hwrite, hanswer]
    exact ⟨⟨st, hst, Device.answered_respond _ rq st⟩,
      (hget _ _).trans (Device.get_fmMessage_obj _ _ _ _ _ hcomputed hcause hunit htime)⟩

/-- Settles O57: both objects obey one rule, the idleness of their port (`exec_write_partition`); a fabric port is idle by
`portIdle_iff`, a long-haul port by `lhIdle_iff`. -/
theorem portPartitionWrites : Obligations.PortPartitionWrites := by
  intro s p n l rq v write passes kept htakes
  have hp : p.val < 4 := p.isLt
  have hn : n.val < 128 := n.isLt
  have hl : l.val < 4 := l.isLt
  have hidx : (BitVec.ofNat 16 (0x1410 + p)).toNat = 0x1410 + p := by simp; omega
  have hfabric : (BitVec.ofNat 8 (1 + n)).toNat = 1 + n := by simp; omega
  have hlongHaul : (BitVec.ofNat 8 (0x81 + l)).toNat = 0x81 + l := by simp; omega
  refine ⟨exec_write_partition (.inl rfl) ?_ (by omega) (fun w => ?_) htakes,
    exec_write_partition (.inr rfl) ?_ (by omega) (fun w => ?_) htakes⟩
  · rw [hidx, hfabric]; exact target_portPartition p n
  · rw [Device.writeRule_portPartition, Device.portIdle_fmMessage]; exact s.dev.portIdle_iff p n
  · rw [hidx, hlongHaul]; exact target_lhPortPartition p l
  · rw [Device.writeRule_lhPortPartition, Device.lhIdle_fmMessage]; exact s.dev.lhIdle_iff p l

end Sys2Proof.Machine

/-! ### What takes a frame into the switch leaves every fabric port as it is, but for what credit reports (spec/04, spec/10) -/

namespace Sys2Proof.Machine

/-- Every part of the device but the fabric ports. -/
def besidePorts : Nat := parts_all ^^^ 2 ^ Part.ports.ctorIdx

/-- What moves no part of the ports leaves them as they are. -/
theorem PortsBare.of_beside {d e : Device} (h : Moves d e objs_all besidePorts) : PortsBare d e :=
  PortsBare.of_moves h (by decide)

theorem PortsBare.ite {d a b : Device} {c : Prop} [Decidable c] (ha : PortsBare d a) (hb : PortsBare d b) :
    PortsBare d (if c then a else b) := by
  split
  · exact ha
  · exact hb

section
variable {d : Device} {p : Nat}

theorem PortsBare.causeSwitch {b u : Nat} : PortsBare d (d.causeSwitch p b u) := .of_ports (quiet_ports.latch ..)

theorem PortsBare.causeFabric {b u : Nat} : PortsBare d (d.causeFabric p b u) := .of_ports (quiet_ports.latch ..)

theorem PortsBare.count {o : Obj} {i n : Nat} : PortsBare d (d.count o p i n) := .of_ports (quiet_ports.count ..)

/-! #### Admission -/

theorem PortsBare.creditBack {input : Nat} {f : Frame} : PortsBare d (d.creditBack p input f) :=
  PortsBare.ite (PortsBare.returnCredit _ _ _ _ _) (.refl d)

theorem PortsBare.purge {id : Nat} : PortsBare d (d.purge p id) := by
  unfold Device.purge
  split
  · exact .refl d
  · exact PortsBare.ite
      (PortsBare.foldl (fun e o => (PortsBare.countGone e p o).trans (PortsBare.release _ _ _ _)) _ _) (.refl d)

theorem PortsBare.admitFirst {fid : Nat} {f : FrameRec} {r c : Nat} {outs : List Nat} {mcast : Bool} :
    PortsBare d (d.admitFirst p fid f r c outs mcast) := by
  unfold Device.admitFirst
  extract_lets x id y e room
  have he : Moves d e objs_all besidePorts :=
    ((Moves.refl ..).newId (Mask.of (by decide)) (Mask.of (by decide))).newId (Mask.of (by decide)) (Mask.of (by decide))
  have hcounted : ∀ {g : Device}, Moves d g objs_all besidePorts →
      Moves d (if mcast then g.bump .mcastCopies p 0 else g) objs_all besidePorts := fun hg =>
    .ite (fun _ => hg.bump (by decide) (by decide) (by decide)) (fun _ => hg)
  clear_value room e
  cases room with
  | some k =>
    refine (PortsBare.of_beside (hcounted ?_)).trans PortsBare.purge
    exact (he.setCopy (Mask.of (by decide)) (Mask.of (by decide))).noteHigh (Mask.of (by decide)) (Mask.of (by decide))
  | none =>
    exact .of_beside ((((hcounted he).setCopy (Mask.of (by decide)) (Mask.of (by decide))).noteHigh (Mask.of (by decide))
      (Mask.of (by decide))).bump (by decide) (by decide) (by decide))

theorem PortsBare.admitExtra {fid : Nat} {f : FrameRec} {r c : Nat} {outs : List Nat} :
    PortsBare d (d.admitExtra p fid f r c outs) := by
  unfold Device.admitExtra
  extract_lets x id y e room
  have he : Moves d e objs_all besidePorts :=
    ((Moves.refl ..).newId (Mask.of (by decide)) (Mask.of (by decide))).newId (Mask.of (by decide)) (Mask.of (by decide))
  clear_value room e
  cases room with
  | some k =>
    refine PortsBare.ite (.of_beside (he.tenantDrop (Mask.of (by decide)) (Mask.of (by decide)))) ?_
    refine (PortsBare.of_beside ?_).trans PortsBare.purge
    exact ((he.setCopy (Mask.of (by decide)) (Mask.of (by decide))).noteHigh (Mask.of (by decide)) (Mask.of (by decide))).bump
      (by decide) (by decide) (by decide)
  | none =>
    exact .of_beside ((he.setCopy (Mask.of (by decide)) (Mask.of (by decide))).bump (by decide) (by decide) (by decide))

theorem PortsBare.enterStore {input : Nat} {f : Frame} {outs : List Nat} {grp : Option Nat} {charged : Bool} {credit ctx : Option Nat} :
    PortsBare d (d.enterStore p input f outs grp charged credit ctx) := by
  unfold Device.enterStore
  split
  · exact .refl d
  · extract_lets r m x fr e mcast e1 e2
    have hstored : Moves d e objs_all besidePorts :=
      (((Moves.refl ..).ecnMark (Mask.of (by decide)) (Mask.of (by decide))).newId (Mask.of (by decide)) (Mask.of (by decide))).setFrame
        (Mask.of (by decide)) (Mask.of (by decide))
    have hfirst : PortsBare d e1 := (PortsBare.of_beside hstored).trans PortsBare.admitFirst
    have hextra : PortsBare d e2 := hfirst.trans (PortsBare.foldl (fun g c => PortsBare.admitExtra) _ _)
    exact hextra.trans (PortsBare.frameDone _ _ _)

theorem PortsBare.enter {input : Nat} {f : Frame} {outs : List Nat} {grp : Option Nat} {direct : Bool} :
    PortsBare d (d.enter p input f outs grp direct) := by
  have hdrop : PortsBare d (d.tenantDrop p f.tenant input) :=
    .of_beside ((Moves.refl ..).tenantDrop (Mask.of (by decide)) (Mask.of (by decide)))
  have hhold : PortsBare d (d.hold p input f outs grp) := .of_ports rfl
  exact PortsBare.ite (PortsBare.ite (hdrop.trans PortsBare.creditBack) PortsBare.enterStore) hhold

/-! #### Output selection and resequencing -/

/-- The credit of a frame that is not stored returns where it came in direct. -/
theorem PortsBare.back {e : Device} {input : Nat} {f : Frame} {direct : Bool} (h : PortsBare d e) :
    PortsBare d (if direct then e.creditBack p input f else e) :=
  PortsBare.ite (h.trans PortsBare.creditBack) h

theorem PortsBare.onward {input : Nat} {f : Frame} {w : Onward} {direct : Bool} : PortsBare d (d.onward p input f w direct) := by
  unfold Device.onward
  dsimp only
  have homitted : PortsBare d (d.omitted p input w).1 :=
    .of_beside ((Moves.refl ..).omitted (Mask.of (by decide)) (Mask.of (by decide)))
  refine PortsBare.ite (PortsBare.ite (PortsBare.back homitted) (homitted.trans PortsBare.enter)) ?_
  split
  · exact PortsBare.ite PortsBare.enter (PortsBare.back ((PortsBare.bump _ _ _ _).trans PortsBare.causeFabric))
  · exact PortsBare.back (.refl d)

theorem PortsBare.dispatchFrame {input : Nat} {f : Frame} {direct : Bool} : PortsBare d (d.dispatchFrame p input f direct) := by
  unfold Device.dispatchFrame
  extract_lets back engine r
  have hrouted : PortsBare d r.1 := .of_beside ((Moves.refl ..).route (Mask.of (by decide)) (Mask.of (by decide)))
  clear_value r
  refine PortsBare.ite ?gather (PortsBare.ite ?token ?routed)
  case gather =>
    split
    · exact PortsBare.onward.trans (.of_beside ((Moves.refl ..).noteGather (Mask.of (by decide)) (Mask.of (by decide))))
    · exact PortsBare.back (.refl d)
  case token =>
    split
    · exact PortsBare.onward.trans (.of_beside ((Moves.refl ..).noteToken (Mask.of (by decide)) (Mask.of (by decide))))
    · exact PortsBare.back (PortsBare.bump _ _ _ _)
  case routed =>
    split
    · have hsent : ∀ w, PortsBare d (r.1.onward p input f w direct) := fun w => hrouted.trans PortsBare.onward
      exact PortsBare.ite
        ((hsent _).trans (.of_beside ((Moves.refl ..).noteRelay (Mask.of (by decide)) (Mask.of (by decide))))) (hsent _)
    · have htaken : ∀ l, PortsBare d { r.1 with inbox := l } := fun l => hrouted.trans (.of_ports rfl)
      exact PortsBare.ite (htaken _) (PortsBare.back (htaken _))
    · refine PortsBare.back (hrouted.trans (.of_beside ?_))
      exact (Moves.refl ..).routeMiss (Mask.of (by decide)) (Mask.of (by decide))
    · exact PortsBare.back (hrouted.trans (PortsBare.bump _ _ _ _))

theorem PortsBare.setFlow {w : Flow} : PortsBare d (d.setFlow w) := PortsBare.ite (.of_ports rfl) (.of_ports rfl)

theorem PortsBare.passHeld {id : FlowId} {h : Held} : PortsBare d (d.passHeld p id h) :=
  (PortsBare.of_beside ((Moves.refl ..).free (Mask.of (by decide)) (Mask.of (by decide)))).trans PortsBare.dispatchFrame

theorem PortsBare.flowRun {id : FlowId} {fuel : Nat} {force : Bool} : PortsBare d (d.flowRun p id fuel force) := by
  induction fuel generalizing d force with
  | zero => exact .refl d
  | succ fuel ih =>
    unfold Device.flowRun
    split
    · exact .refl d
    · split
      · exact (PortsBare.setFlow.trans PortsBare.passHeld).trans ih
      · split
        · exact PortsBare.ite (((PortsBare.setFlow.trans PortsBare.count).trans PortsBare.causeSwitch).trans ih) (.refl d)
        · exact .refl d

theorem PortsBare.reseqFrame {input : Nat} {f : Frame} : PortsBare d (d.reseqFrame p input f) := by
  unfold Device.reseqFrame
  dsimp only
  split
  · exact PortsBare.ite (((PortsBare.bump _ _ _ _).trans PortsBare.causeSwitch).trans PortsBare.dispatchFrame)
      (PortsBare.setFlow.trans PortsBare.dispatchFrame)
  · next w _ =>
    have hheard := PortsBare.setFlow (d := d) (w := { w with lastRx := d.clock })
    refine hheard.trans (PortsBare.ite ?expected (PortsBare.ite ?held ?dropped))
    case expected => exact (PortsBare.setFlow.trans PortsBare.dispatchFrame).trans PortsBare.flowRun
    case held =>
      have halloc := PortsBare.of_beside ((Moves.refl (d.setFlow { w with lastRx := d.clock }) ..).alloc (p := p) (pool := 1)
        (req := flowReq f.flow) (Mask.of (by decide)) (Mask.of (by decide)))
      split
      · exact (halloc.trans (PortsBare.bump _ _ _ _)).trans PortsBare.creditBack
      · exact (halloc.trans PortsBare.setFlow).trans PortsBare.creditBack
    case dropped => exact (PortsBare.bump _ _ _ _).trans PortsBare.creditBack

theorem PortsBare.intake {input : Nat} {f : Frame} : PortsBare d (d.intake p input f) :=
  PortsBare.ite PortsBare.reseqFrame PortsBare.dispatchFrame

/-! #### The long-haul line -/

theorem PortsBare.lhIntake {t : Nat} {f : Frame} : PortsBare d (d.lhIntake p t f) := by
  have hrejected : ∀ b u, PortsBare d ((d.bump .lhRxReject p 0).causeFabric p b u) := fun _ _ =>
    (PortsBare.bump _ _ _ _).trans PortsBare.causeFabric
  unfold Device.lhIntake
  refine PortsBare.ite (PortsBare.bump _ _ _ _) ?_
  split
  · exact hrejected _ _
  · exact hrejected _ _
  · exact PortsBare.bump _ _ _ _
  · exact hrejected _ _
  · exact hrejected _ _
  · refine PortsBare.ite (.of_beside ((Moves.refl ..).ptpTaken (Mask.of (by decide)) (Mask.of (by decide)))) ?_
    split
    · exact PortsBare.intake
    · exact hrejected _ _

theorem PortsBare.setTrib {t : Nat} {s : TribSt} : PortsBare d (d.setTrib p t s) := .of_ports rfl

theorem PortsBare.parseStream {t fuel : Nat} : PortsBare d (d.parseStream p t fuel) := by
  induction fuel generalizing d with
  | zero => exact .refl d
  | succ fuel ih =>
    unfold Device.parseStream
    exact PortsBare.ite (.refl d) (PortsBare.ite (.refl d) ((PortsBare.setTrib.trans PortsBare.lhIntake).trans ih))

theorem PortsBare.deliverBytes {t firstOff : Nat} {b : Bytes} : PortsBare d (d.deliverBytes p t firstOff b) := by
  unfold Device.deliverBytes
  exact (PortsBare.count.trans (PortsBare.ite PortsBare.setTrib (PortsBare.ite (.refl _) PortsBare.setTrib))).trans
    PortsBare.parseStream

theorem PortsBare.openSlot {t : Nat} {s : RxSlot} : PortsBare d (d.openSlot p t s).1 :=
  .of_beside ((Moves.refl ..).openSlot (Mask.of (by decide)) (Mask.of (by decide)))

theorem PortsBare.dropHolds {t : Nat} : PortsBare d (d.dropHolds p t) :=
  .of_beside ((Moves.refl ..).dropHolds (Mask.of (by decide)) (Mask.of (by decide)))

theorem PortsBare.trimRx {t : Nat} : PortsBare d (d.trimRx p t) :=
  .of_beside ((Moves.refl ..).trimRx (Mask.of (by decide)) (Mask.of (by decide)))

/-- The expected slot moves on and its acknowledgement is queued. -/
theorem PortsBare.expectNext {t e : Nat} : PortsBare d ((d.set .tribRxExpected p t e).queueAck p t) :=
  .of_beside (((Moves.refl ..).set (by decide) (by decide)).queueAck (Mask.of (by decide)) (Mask.of (by decide)))

theorem PortsBare.deliverRun {t fuel : Nat} : PortsBare d (d.deliverRun p t fuel) := by
  induction fuel generalizing d with
  | zero => exact .refl d
  | succ fuel ih =>
    unfold Device.deliverRun
    dsimp only
    split
    · exact .refl d
    · split
      · exact (PortsBare.openSlot.trans PortsBare.setTrib).trans PortsBare.trimRx
      · exact ((((PortsBare.openSlot.trans PortsBare.setTrib).trans PortsBare.expectNext).trans
          PortsBare.deliverBytes).trans PortsBare.dropHolds).trans ih

theorem PortsBare.settleTrib {t : Nat} : PortsBare d (d.settleTrib p t) :=
  PortsBare.deliverRun.trans (.of_beside ((Moves.refl ..).trimGaps (Mask.of (by decide)) (Mask.of (by decide))))

theorem PortsBare.slotRx {l mfn fn k : Nat} {b : Bytes} {decided : Bool} : PortsBare d (d.slotRx p l mfn fn k b decided) := by
  unfold Device.slotRx
  extract_lets th h len t tsn s e n cnt opened slot r x
  have hcounted : ∀ o i, PortsBare d (d.bump o p i) := fun o i => PortsBare.bump d o p i
  have hopened : PortsBare d opened := .of_ports rfl
  have hgrown : PortsBare d r.1 := hopened.trans (.of_beside ((Moves.refl ..).growBufs (Mask.of (by decide)) (Mask.of (by decide))))
  have hslot : PortsBare d x.1 := hgrown.trans PortsBare.openSlot
  clear_value x r opened
  refine PortsBare.ite (hcounted _ _) (PortsBare.ite (.refl d) (PortsBare.ite (hcounted _ _) (PortsBare.ite (hcounted _ _)
    (PortsBare.ite (hcounted _ _) (PortsBare.ite (hcounted _ _) (PortsBare.ite ?limited ?stored))))))
  case limited =>
    exact PortsBare.ite (hopened.trans (.of_ports (quiet_ports.latch ..))) hopened
  case stored =>
    split
    · exact (hgrown.trans PortsBare.setTrib).trans PortsBare.settleTrib
    · refine PortsBare.ite ?_ (hgrown.trans (PortsBare.bump _ _ _ _))
      split
      · exact hslot
      · exact ((hslot.trans PortsBare.expectNext).trans PortsBare.deliverBytes).trans PortsBare.settleTrib

theorem PortsBare.areaRx {l mfn fn : Nat} {area : Bytes} {decided : Bool} : PortsBare d (d.areaRx p l mfn fn area decided) :=
  PortsBare.foldl (fun _ _ => PortsBare.slotRx) _ _

theorem PortsBare.decideStripe {s : Stripe} : PortsBare d (d.decideStripe p s) := by
  unfold Device.decideStripe
  extract_lets th mfn page pp er data whole e1 e2 e3 touched e4 known e5
  have htrimmed : PortsBare d e2 := PortsBare.of_beside (((Moves.refl ..).setTether (Mask.of (by decide)) (Mask.of (by decide))).trimParity
    (Mask.of (by decide)) (Mask.of (by decide)))
  have hdropped : PortsBare d e4 := (htrimmed.trans (.of_ports rfl)).trans (PortsBare.foldl (fun _ _ => PortsBare.dropHolds) _ _)
  have hrepaired : PortsBare d e5 := hdropped.trans (PortsBare.bump _ _ _ _)
  clear_value e4 e5
  refine PortsBare.ite hdropped (PortsBare.ite (hrepaired.trans (PortsBare.foldl (fun _ _ => PortsBare.areaRx) _ _)) ?_)
  exact hdropped.trans (.of_beside ((Moves.refl ..).noteLoss (Mask.of (by decide)) (Mask.of (by decide))))

theorem PortsBare.decideStripes : PortsBare d (d.decideStripes p) := by
  unfold Device.decideStripes
  have hnak : ∀ (e : Device) (t : Nat), PortsBare e (e.nakGaps p t) := fun _ _ =>
    .of_beside ((Moves.refl ..).nakGaps (Mask.of (by decide)) (Mask.of (by decide)))
  exact PortsBare.ite (.refl d) ((PortsBare.foldl (fun _ _ => PortsBare.decideStripe) _ _).trans (PortsBare.foldl hnak _ _))

theorem PortsBare.lhRefresh {l : Nat} : PortsBare d (d.lhRefresh p l) :=
  .of_beside ((Moves.refl ..).lhRefresh (Mask.of (by decide)) (Mask.of (by decide)))

theorem PortsBare.leaveBundle {l : Nat} {fault : Bool} : PortsBare d (d.leaveBundle p l fault) := by
  unfold Device.leaveBundle
  refine PortsBare.ite (PortsBare.trans (.of_beside (Moves.ite (fun _ => ?_) (fun _ => ?_))) PortsBare.decideStripes) (.refl d)
  · exact ((Moves.refl ..).set (by decide) (by decide)).chanFault (Mask.of (by decide)) (Mask.of (by decide))
  · exact (Moves.refl ..).set (by decide) (by decide)

/-- A link out of frame takes no fabric port with it. -/
theorem PortsBare.goOof {l : Nat} {fault : Bool} : PortsBare d (d.goOof p l fault) := by
  have hlink : ∀ v, PortsBare d (d.setLink p l v) := fun _ => .of_ports rfl
  exact ((hlink _).trans PortsBare.leaveBundle).trans PortsBare.lhRefresh

end

end Sys2Proof.Machine

/-! ### Fences (spec/02 R35, R36) -/

namespace Sys2Proof.Machine

theorem bit_clrBit (v i j : Nat) : bit (clrBit v i) j = (bit v j && !decide (i = j)) := by
  unfold clrBit
  split
  · next h =>
    have hle : 2 ^ i ≤ v := by
      by_contra hlt
      simp [bit, Nat.div_eq_of_lt (Nat.lt_of_not_le hlt)] at h
    obtain ⟨u, rfl⟩ := Nat.exists_eq_add_of_le' hle
    have hu : u.testBit i = false := by
      simp only [bit, Nat.add_div_right u (Nat.two_pow_pos i), decide_eq_true_eq] at h
      simp only [Nat.testBit_eq_decide_div_mod_eq, decide_eq_false_iff_not]
      omega
    rw [Nat.add_sub_cancel, bit_eq_testBit, bit_eq_testBit, testBit_add_two_pow u i j hu]
    by_cases hj : i = j
    · subst hj; simp [hu]
    · simp [hj]
  · next h =>
    by_cases hj : i = j
    · subst hj; simpa using h
    · simp [hj]

/-! #### What fencing keeps of the ports -/

/-- Every object but `port_state`. -/
def besideStates : Nat := objs_all ^^^ 2 ^ Obj.portState.ctorIdx

/-- A fenced port: its fence bit is set, no window of it is open, and it stands in FENCED. The window belongs to the invariant: the
removal of another port's circuit ends this port's window where one is open, and that would take it out of FENCED. -/
structure Device.Shut (d : Device) (p n : Nat) : Prop where
  fenced : (d.port p n).fenced = true
  window : (d.port p n).window = false
  state : d.get .portState p n = 6

/-- No fence bit has moved, and every fenced port is still fenced. -/
structure FencesKept (d e : Device) : Prop where
  fenced : ∀ q m, (e.port q m).fenced = (d.port q m).fenced
  shut : ∀ q m, d.Shut q m → e.Shut q m

/-- Only fabric port n of plane p may have moved, and its fence bit has not. -/
structure OnlyPort (p n : Nat) (d e : Device) : Prop where
  fenced : (e.port p n).fenced = (d.port p n).fenced
  bare : ∀ q m, ¬ (q = p ∧ m = n) → (e.port q m).bare = (d.port q m).bare
  state : ∀ q m, ¬ (q = p ∧ m = n) → e.get .portState q m = d.get .portState q m

theorem PortSt.fenced_of_bare {v w : PortSt} (h : v.bare = w.bare) : v.fenced = w.fenced := (congrArg PortSt.fenced h :)

theorem PortSt.window_of_bare {v w : PortSt} (h : v.bare = w.bare) : v.window = w.window := (congrArg PortSt.window h :)

theorem Device.Shut.of_bare {d e : Device} {p n : Nat} (h : d.Shut p n) (hbare : (e.port p n).bare = (d.port p n).bare)
    (hstate : e.get .portState p n = d.get .portState p n) : e.Shut p n :=
  ⟨(PortSt.fenced_of_bare hbare).trans h.fenced, (PortSt.window_of_bare hbare).trans h.window, hstate.trans h.state⟩

section
variable {d e f : Device} {p n : Nat}

theorem FencesKept.refl (d : Device) : FencesKept d d := ⟨fun _ _ => rfl, fun _ _ h => h⟩

theorem FencesKept.trans (h : FencesKept d e) (k : FencesKept e f) : FencesKept d f :=
  ⟨fun q m => (k.fenced q m).trans (h.fenced q m), fun q m x => k.shut q m (h.shut q m x)⟩

theorem FencesKept.ite {a b : Device} {c : Prop} [Decidable c] (ha : FencesKept d a) (hb : FencesKept d b) :
    FencesKept d (if c then a else b) := by
  split
  · exact ha
  · exact hb

theorem FencesKept.foldl {α : Type} {g : Device → α → Device} (hg : ∀ d a, FencesKept d (g d a)) (l : List α) (d : Device) :
    FencesKept d (l.foldl g d) := by
  induction l generalizing d with
  | nil => exact .refl d
  | cons a r ih => exact (hg d a).trans (ih _)

theorem FencesKept.of_bare (hbare : PortsBare d e) (hstate : ∀ q m, e.get .portState q m = d.get .portState q m) : FencesKept d e :=
  ⟨fun q m => PortSt.fenced_of_bare (hbare q m), fun q m h => h.of_bare (hbare q m) (hstate q m)⟩

/-- What moves neither a fabric port nor its state keeps the fences. -/
theorem FencesKept.of_beside (h : Moves d e besideStates besidePorts) : FencesKept d e :=
  .of_bare (.of_moves h (by decide)) (fun q m => h.get .portState q m (by decide))

theorem FencesKept.of_onlyPort (h : OnlyPort p n d e) (hshut : d.Shut p n → e.Shut p n) : FencesKept d e := by
  have hthere : ∀ q m, q = p ∧ m = n ∨ ¬ (q = p ∧ m = n) := fun _ _ => Classical.em _
  constructor
  · intro q m
    rcases hthere q m with ⟨rfl, rfl⟩ | hne
    · exact h.fenced
    · exact PortSt.fenced_of_bare (h.bare q m hne)
  · intro q m hs
    rcases hthere q m with ⟨rfl, rfl⟩ | hne
    · exact hshut hs
    · exact hs.of_bare (h.bare q m hne) (h.state q m hne)

/-! #### One port at a time -/

theorem OnlyPort.trans (h : OnlyPort p n d e) (k : OnlyPort p n e f) : OnlyPort p n d f :=
  ⟨k.fenced.trans h.fenced, fun q m hne => (k.bare q m hne).trans (h.bare q m hne),
    fun q m hne => (k.state q m hne).trans (h.state q m hne)⟩

theorem OnlyPort.of_bare (hbare : PortsBare d e) (hstate : ∀ q m, e.get .portState q m = d.get .portState q m) : OnlyPort p n d e :=
  ⟨PortSt.fenced_of_bare (hbare p n), fun q m _ => hbare q m, fun q m _ => hstate q m⟩

theorem OnlyPort.of_beside (h : Moves d e besideStates besidePorts) : OnlyPort p n d e :=
  .of_bare (.of_moves h (by decide)) (fun q m => h.get .portState q m (by decide))

theorem OnlyPort.setPort {v : PortSt} (h : v.fenced = (d.port p n).fenced) : OnlyPort p n d (d.setPort p n v) := by
  refine ⟨?_, fun q m hne => ?_, fun _ _ _ => rfl⟩
  · rw [Device.port_setPort, if_pos ⟨rfl, rfl⟩, h]
  · rw [Device.port_setPort, if_neg hne]

theorem OnlyPort.setPortState {v : Nat} : OnlyPort p n d (d.setPortState p n v) := by
  refine ⟨?_, fun q m _ => ?_, fun q m hne => Device.get_setPortState_ne d p n v q m (by omega)⟩
  · rw [Device.port_setPortState]
  · rw [Device.port_setPortState]

theorem OnlyPort.discardPort {k : Nat} : OnlyPort p n d (d.discardPort p k) :=
  .of_bare (PortsBare.discardPort d p k) (fun q m => ((Moves.refl d objs_discardPort parts_discardPort).discardPort
    (Mask.le_refl _) (Mask.le_refl _)).get .portState q m (by decide))

theorem OnlyPort.forgetCredit {k : Nat} : OnlyPort p n d (d.forgetCredit p k) :=
  .of_beside ((Moves.refl ..).forgetCredit (Mask.of (by decide)) (Mask.of (by decide)))

theorem OnlyPort.leavePort {st : Nat} : OnlyPort p n d (d.leavePort p n st) := by
  have hclear : ∀ e, OnlyPort p n e (Device.clearLink e p n) := fun e => OnlyPort.forgetCredit.trans (.setPort rfl)
  exact (OnlyPort.discardPort.trans (hclear _)).trans .setPortState

theorem OnlyPort.portFault {k : Nat} : OnlyPort p n d (d.portFault p k) :=
  .of_beside ((Moves.refl ..).portFault (Mask.of (by decide)) (Mask.of (by decide)))

theorem OnlyPort.laneRetrain : OnlyPort p n d (d.laneRetrain p n) := by
  unfold Device.laneRetrain
  extract_lets e s e1 e2
  have hfault : OnlyPort p n d e := .portFault
  clear_value e
  have hforgot : OnlyPort p n d e1 := hfault.trans .forgetCredit
  have hsame : s.fenced = (e1.port p n).fenced := rfl
  clear_value e1
  have hset : OnlyPort p n e1 e2 := .setPort hsame
  exact (hforgot.trans hset).trans .setPortState

theorem OnlyPort.sendPreamble : OnlyPort p n d (d.sendPreamble p n) :=
  .of_beside ((Moves.refl ..).sendPreamble (Mask.of (by decide)) (Mask.of (by decide)))

theorem OnlyPort.sendLink {g : Frame} : OnlyPort p n d (d.sendLink p n g) :=
  .of_bare (PortsBare.sendLink d p n g) (fun q m => ((Moves.refl d objs_sendLink parts_sendLink).sendLink
    (Mask.le_refl _) (Mask.le_refl _)).get .portState q m (by decide))

theorem OnlyPort.foldl {α : Type} {g : Device → α → Device} (hg : ∀ d a, OnlyPort p n d (g d a)) (l : List α) (d : Device) :
    OnlyPort p n d (l.foldl g d) := by
  induction l generalizing d with
  | nil => exact .of_bare (.refl d) (fun _ _ => rfl)
  | cons a r ih => exact (hg d a).trans (ih _)

/-! #### The removal of a circuit -/

/-- A port whose window is not open is left alone; one whose window is open is not fenced. -/
theorem FencesKept.closePort : FencesKept d (d.closePort p n) := by
  by_cases hopen : (d.port p n).window = true
  · refine .of_onlyPort (p := p) (n := n) ?_ (fun hshut => absurd (hopen.symm.trans hshut.window) (by decide))
    unfold Device.closePort
    extract_lets s q e1 e2
    have hset : OnlyPort p n d (d.setPort p n { s with window := false, winTx := 0, winRx := 0, linkQ := [] }) := .setPort rfl
    have hclosed : OnlyPort p n d e1 := hset.trans .sendPreamble
    have hup : OnlyPort p n d e2 := hclosed.trans .setPortState
    clear_value e2
    rw [if_neg (by simp [s, hopen])]
    split
    · exact hup.trans .laneRetrain
    · split
      · exact (hup.trans .portFault).trans .leavePort
      · exact hup.trans (.foldl (fun _ _ => .sendLink) _ _)
  · have hsame : d.closePort p n = d := if_pos (by simpa using hopen)
    rw [hsame]
    exact .refl d

theorem FencesKept.windowEnd : FencesKept d (d.windowEnd p n) := by
  unfold Device.windowEnd
  split
  · exact FencesKept.closePort.trans .closePort
  · exact .closePort

/-- A port whose fence bit is set is fenced once it leaves for FENCED. -/
theorem Device.shut_leavePort (hfenced : (d.port p n).fenced = true) : (d.leavePort p n 6).Shut p n := by
  have hport := Device.port_leavePort d p n 6
  exact ⟨(congrArg PortSt.fenced hport).trans hfenced, (congrArg PortSt.window hport :), Device.get_leavePort _ _ _ _ (by decide)⟩

/-- A port leaves UP for the state its fence asks for. -/
theorem FencesKept.leavePort : FencesKept d (d.leavePort p n (if (d.port p n).fenced then 6 else 0)) := by
  refine .of_onlyPort (p := p) (n := n) .leavePort (fun hshut => ?_)
  rw [if_pos hshut.fenced]
  exact Device.shut_leavePort hshut.fenced

theorem FencesKept.setBypByte {k v : Nat} : FencesKept d (d.setBypByte p k v) :=
  .of_beside ((Moves.refl ..).setBypByte (Mask.of (by decide)) (Mask.of (by decide)))

theorem FencesKept.setOutp {o : Nat} {v : OutSt} : FencesKept d (d.setOutp p o v) :=
  .of_beside ((Moves.refl ..).setOutp (Mask.of (by decide)) (Mask.of (by decide)))

theorem FencesKept.removeCircuit {forced : Bool} : FencesKept d (d.removeCircuit p n forced) := by
  unfold Device.removeCircuit
  split
  · exact .refl d
  · refine (((FencesKept.ite .windowEnd (.refl d)).trans .setBypByte).trans .setBypByte).trans (.foldl (fun e k => ?_) _ _)
    extract_lets left s
    have hleft : FencesKept e left := .ite (.refl e) .leavePort
    exact .ite (hleft.trans .setOutp) hleft

/-! #### Fencing the fabric ports of a partition -/

/-- A port is fenced; the others keep their fences. -/
theorem Device.shut_fencePort : (d.fencePort p n).Shut p n := by
  refine Device.shut_leavePort ?_
  rw [Device.port_setPort, if_pos ⟨rfl, rfl⟩]

theorem Device.fencePort_other {q m : Nat} (hne : ¬ (q = p ∧ m = n)) :
    ((d.fencePort p n).port q m).fenced = (d.port q m).fenced ∧ (d.Shut q m → (d.fencePort p n).Shut q m) := by
  unfold Device.fencePort
  extract_lets e src e1
  have hremoved : FencesKept d e := .removeCircuit
  clear_value e
  have hport : e1.port q m = e.port q m := by rw [Device.port_setPort, if_neg hne]
  have hleft : OnlyPort p n e1 (e1.leavePort p n 6) := .leavePort
  have hbare : ((e1.leavePort p n 6).port q m).bare = (e.port q m).bare := by rw [hleft.bare q m hne, hport]
  exact ⟨(PortSt.fenced_of_bare hbare).trans (hremoved.fenced q m),
    fun h => (hremoved.shut q m h).of_bare hbare (hleft.state q m hne)⟩

/-- Fencing a list of ports of a plane: those are fenced, and every other port keeps its fence bit. -/
theorem Device.fence_foldl (l : List Nat) (d : Device) :
    (∀ m, m ∈ l ∨ d.Shut p m → (l.foldl (fun d n => d.fencePort p n) d).Shut p m) ∧
    (∀ m, m ∉ l → ((l.foldl (fun d n => d.fencePort p n) d).port p m).fenced = (d.port p m).fenced) := by
  induction l generalizing d with
  | nil => exact ⟨fun m h => h.resolve_left (by simp), fun m _ => rfl⟩
  | cons n r ih =>
    obtain ⟨hshut, hfenced⟩ := ih (d.fencePort p n)
    refine ⟨fun m hm => hshut m ?_, fun m hm => ?_⟩
    · rw [List.mem_cons] at hm
      by_cases hn : m = n
      · subst hn; exact .inr shut_fencePort
      · exact (hm.imp_left (Or.resolve_left · hn)).imp_right (fencePort_other (by simp [hn])).2
    · rw [List.mem_cons, not_or] at hm
      exact (hfenced m hm.2).trans (fencePort_other (by simp [hm.1])).1

/-! #### Fencing the long-haul ports of a partition -/

/-- A long-haul port that is fenced keeps every fabric port's fence. -/
theorem FencesKept.fenceLink {l : Nat} : FencesKept d (d.fenceLink p l) := by
  refine .of_bare ?_ (fun q m => ((Moves.refl d objs_fenceLink parts_fenceLink).fenceLink (Mask.le_refl _) (Mask.le_refl _)).get
    .portState q m (by decide))
  have hset : ∀ v, PortsBare d (d.set .fencedLongHaul p 0 v) := fun _ => .of_ports rfl
  have hemit : ∀ (e : Device) x, PortsBare e (e.emit x) := fun _ _ => .of_ports rfl
  exact (((((hset _).trans (PortsBare.flushOut _ _ _)).trans PortsBare.goOof).trans PortsBare.lhRefresh).trans (hemit _ _) :)

/-- Every object but the fence bits of the long-haul ports. -/
def besideFences : Nat := objs_all ^^^ 2 ^ Obj.fencedLongHaul.ctorIdx

theorem Device.bit_fenceLink {l k : Nat} (hk : k < 8) :
    bit ((d.fenceLink p l).get .fencedLongHaul p 0) k = (bit (d.get .fencedLongHaul p 0) k || decide (l = k)) := by
  have hmoves : Moves (d.set .fencedLongHaul p 0 (setBit (d.get .fencedLongHaul p 0) l)) (d.fenceLink p l) besideFences parts_all :=
    ((((Moves.refl _ _ _).flushOut (Mask.of (by decide)) (Mask.of (by decide))).goOof (Mask.of (by decide))
      (Mask.of (by decide))).lhRefresh (Mask.of (by decide)) (Mask.of (by decide))).emit (Mask.of (by decide)) (Mask.of (by decide))
  rw [hmoves.get _ _ _ (by decide), Device.get_set_same, show Obj.fencedLongHaul.width = 8 from rfl, bit_mod _ _ _ hk, bit_setBit]

theorem Device.bit_fenceLink_foldl (l : List Nat) (d : Device) {k : Nat} (hk : k < 8) :
    bit ((l.foldl (fun d l => d.fenceLink p l) d).get .fencedLongHaul p 0) k =
      (bit (d.get .fencedLongHaul p 0) k || decide (k ∈ l)) := by
  induction l generalizing d with
  | nil => simp
  | cons a r ih =>
    rw [List.foldl_cons, ih, bit_fenceLink hk]
    simp only [List.mem_cons, Bool.decide_or, Bool.or_assoc, eq_comm (a := a)]

/-! #### An accepted fence -/

/-- The partition's fabric ports fenced. -/
def Device.fencedPorts (d : Device) (p : Nat) : Device := (d.fenceFabric p).foldl (fun d n => d.fencePort p n) d

/-- Its long-haul ports fenced too, and the bits stored. -/
def Device.fencedAll (d : Device) (p : Nat) : Device :=
  (((d.fencedPorts p).fenceLh p).foldl (fun d l => d.fenceLink p l) (d.fencedPorts p)).storeFences p

theorem Device.fence_of_idle (h : (d.plane p).fenceBusy = false) :
    d.fence p = ((d.fencedAll p).setPlane p { (d.fencedAll p).plane p with fenceBusy := true }).set .fenceCmd p 0 1 :=
  if_neg (by simp [h])

theorem Device.fence_of_busy (h : (d.plane p).fenceBusy = true) : d.fence p = d.set .fenceCmd p 0 3 := if_pos h

theorem Device.mem_fenceFabric {n : Nat} (hn : n < 128) :
    n ∈ d.fenceFabric p ↔ d.get .portPartition p n = d.get .fencePartition p 0 := by
  simp [Device.fenceFabric, hn]

theorem Device.mem_fenceLh {l : Nat} (hl : l < 4) :
    l ∈ d.fenceLh p ↔ d.get .lhPortPartition p l = d.get .fencePartition p 0 := by
  simp [Device.fenceLh, hl]

/-- The partition's long-haul ports are read off two objects. -/
theorem Moves.fenceLh {mo mp : Nat} (h : Moves d e mo mp) (hport : mo.testBit Obj.lhPortPartition.ctorIdx = false)
    (hfence : mo.testBit Obj.fencePartition.ctorIdx = false) : e.fenceLh p = d.fenceLh p := by
  unfold Device.fenceLh
  simp only [h.get _ _ _ hport, h.get _ _ _ hfence]

/-- The journal's record moves no fence bit. -/
theorem Device.get_fences_storeFences : (d.storeFences p).get .fencedLongHaul p 0 = d.get .fencedLongHaul p 0 :=
  ((Moves.refl d objs_storeFences parts_storeFences).storeFences (Mask.le_refl _) (Mask.le_refl _)).get _ _ _ (by decide)

theorem Device.moves_fencedPorts : Moves d (d.fencedPorts p) objs_fencePort parts_fencePort :=
  (Moves.refl ..).foldl (fun _ _ => (Moves.refl ..).fencePort (Mask.le_refl _) (Mask.le_refl _))

theorem FencesKept.storeFences : FencesKept d (d.storeFences p) :=
  .of_beside ((Moves.refl ..).storeFences (Mask.of (by decide)) (Mask.of (by decide)))

theorem FencesKept.fencedAll : FencesKept (d.fencedPorts p) (d.fencedAll p) :=
  (FencesKept.foldl (fun _ _ => .fenceLink) _ _).trans .storeFences

theorem FencesKept.fence_of_idle (h : (d.plane p).fenceBusy = false) : FencesKept (d.fencedPorts p) (d.fence p) := by
  have hmarked : ∀ v w, FencesKept (d.fencedAll p) (((d.fencedAll p).setPlane p v).set .fenceCmd p 0 w) := fun _ _ =>
    .of_beside (((Moves.refl ..).setPlane (Mask.of (by decide)) (Mask.of (by decide))).set (by decide) (by decide))
  rw [Device.fence_of_idle h]
  exact FencesKept.fencedAll.trans (hmarked _ _)

theorem Device.get_fenceCmd_fence (h : (d.plane p).fenceBusy = false) : (d.fence p).get .fenceCmd p 0 = 1 := by
  rw [Device.fence_of_idle h]
  exact Device.get_set_lt _ _ _ _ _ (by decide)

theorem Device.fenceBusy_fence (h : (d.plane p).fenceBusy = false) : ((d.fence p).plane p).fenceBusy = true := by
  have hset : ∀ (e : Device) v, ((e.setPlane p v).set .fenceCmd p 0 1).plane p = v := fun e v =>
    (Device.plane_setPlane e p v p).trans (if_pos rfl)
  rw [Device.fence_of_idle h, hset]

/-- The fabric ports of the partition are fenced. -/
theorem Device.shut_fence (h : (d.plane p).fenceBusy = false) {n : Nat} (hn : n ∈ d.fenceFabric p) : (d.fence p).Shut p n :=
  (FencesKept.fence_of_idle h).shut p n ((Device.fence_foldl _ d).1 n (.inl hn))

/-- No other fabric port's fence bit moves. -/
theorem Device.fenced_fence_other (h : (d.plane p).fenceBusy = false) {n : Nat} (hn : n ∉ d.fenceFabric p) :
    ((d.fence p).port p n).fenced = (d.port p n).fenced :=
  ((FencesKept.fence_of_idle h).fenced p n).trans ((Device.fence_foldl _ d).2 n hn)

/-- The fence bits of the partition's long-haul ports are set. -/
theorem Device.bit_fence (h : (d.plane p).fenceBusy = false) {l : Nat} (hl : l < 4) (hmine : l ∈ d.fenceLh p) :
    bit ((d.fence p).get .fencedLongHaul p 0) l = true := by
  have hsame : (d.fencedPorts p).fenceLh p = d.fenceLh p := Device.moves_fencedPorts.fenceLh (by decide) (by decide)
  rw [Device.fence_of_idle h, Device.get_set_obj _ _ _ _ _ _ _ _ (by decide)]
  show bit ((d.fencedAll p).get .fencedLongHaul p 0) l = true
  rw [Device.fencedAll, Device.get_fences_storeFences, Device.bit_fenceLink_foldl _ _ (by omega), hsame]
  simp [hmine]

/-! #### An accepted unfence -/

/-- A fenced port returns to training (R36). -/
def Device.unfencePort (d : Device) (p n : Nat) : Device :=
  if (d.port p n).fenced then (d.setPort p n { d.port p n with fenced := false }).setPortState p n 0 else d

/-- A fenced long-haul port's bit is cleared and its module's transmitter enabled. -/
def Device.unfenceLink (d : Device) (p l : Nat) : Device :=
  if bit (d.get .fencedLongHaul p 0) l then
    ((d.set .fencedLongHaul p 0 (clrBit (d.get .fencedLongHaul p 0) l)).lhRefresh p l).emit (.cmis p (16 + l) true)
  else d

/-- The partition's fabric ports unfenced. -/
def Device.unfencedPorts (d : Device) (p : Nat) : Device := (d.fenceFabric p).foldl (fun d n => d.unfencePort p n) d

/-- Its long-haul ports unfenced too, and the bits stored. -/
def Device.unfencedAll (d : Device) (p : Nat) : Device :=
  (((d.unfencedPorts p).fenceLh p).foldl (fun d l => d.unfenceLink p l) (d.unfencedPorts p)).storeFences p

theorem Device.unfence_of_idle (h : (d.plane p).fenceBusy = false) : d.unfence p = (d.unfencedAll p).set .fenceCmd p 0 2 :=
  if_neg (by simp [h])

theorem Device.get_fenceCmd_unfence (h : (d.plane p).fenceBusy = false) : (d.unfence p).get .fenceCmd p 0 = 2 := by
  rw [Device.unfence_of_idle h]
  exact Device.get_set_lt _ _ _ _ _ (by decide)

theorem Device.unfence_of_busy (h : (d.plane p).fenceBusy = true) : d.unfence p = d.set .fenceCmd p 0 3 := if_pos h

theorem Device.fenced_unfencePort {m : Nat} :
    ((d.unfencePort p n).port p m).fenced = ((d.port p m).fenced && !decide (m = n)) := by
  unfold Device.unfencePort
  split
  · rw [Device.port_setPortState, Device.port_setPort]
    by_cases hm : m = n <;> simp [hm]
  · next hopen =>
    by_cases hm : m = n
    · subst hm; simpa using hopen
    · simp [hm]

theorem Device.state_unfencePort {m : Nat} : (d.unfencePort p n).get .portState p m =
    if m = n ∧ (d.port p n).fenced = true then 0 else d.get .portState p m := by
  unfold Device.unfencePort
  by_cases hfenced : (d.port p n).fenced = true
  · by_cases hm : m = n
    · subst hm
      simp [hfenced, Device.get_setPortState]
    · rw [if_pos hfenced, Device.get_setPortState_ne _ _ _ _ _ _ (.inr hm), if_neg (by simp [hm])]
      rfl
  · simp [hfenced]

/-- Unfencing a list of ports of a plane: their bits are cleared, those that were fenced are DOWN, and no other port moves. -/
theorem Device.unfence_foldl (l : List Nat) (d : Device) (m : Nat) :
    let e := l.foldl (fun d n => d.unfencePort p n) d
    (e.port p m).fenced = ((d.port p m).fenced && !decide (m ∈ l)) ∧
      e.get .portState p m = if m ∈ l ∧ (d.port p m).fenced = true then 0 else d.get .portState p m := by
  induction l generalizing d with
  | nil => simp
  | cons n r ih =>
    obtain ⟨hfenced, hstate⟩ := ih (d.unfencePort p n)
    simp only [List.foldl_cons, hfenced, hstate, fenced_unfencePort, state_unfencePort, List.mem_cons]
    by_cases hn : m = n
    · subst hn; simp
    · simp [hn]

/-- A long-haul port that is unfenced moves no fabric port. -/
theorem Device.moves_unfenceLink {l : Nat} : Moves d (d.unfenceLink p l) besideStates besidePorts := by
  unfold Device.unfenceLink
  refine Moves.ite (fun _ => ?_) (fun _ => Moves.refl ..)
  exact (((Moves.refl ..).set (by decide) (by decide)).lhRefresh (Mask.of (by decide)) (Mask.of (by decide))).emit
    (Mask.of (by decide)) (Mask.of (by decide))

theorem Device.bit_unfenceLink {l k : Nat} (hk : k < 8) :
    bit ((d.unfenceLink p l).get .fencedLongHaul p 0) k = (bit (d.get .fencedLongHaul p 0) k && !decide (l = k)) := by
  unfold Device.unfenceLink
  split
  · have hmoves : ∀ (e : Device) x, Moves e ((e.lhRefresh p l).emit x) besideFences parts_all := fun _ _ =>
      ((Moves.refl _ _ _).lhRefresh (Mask.of (by decide)) (Mask.of (by decide))).emit (Mask.of (by decide)) (Mask.of (by decide))
    rw [(hmoves _ _).get _ _ _ (by decide), Device.get_set_same, show Obj.fencedLongHaul.width = 8 from rfl, bit_mod _ _ _ hk, bit_clrBit]
  · next hclear =>
    by_cases hl : l = k
    · subst hl; simpa using hclear
    · simp [hl]

theorem Device.bit_unfenceLink_foldl (l : List Nat) (d : Device) {k : Nat} (hk : k < 8) :
    bit ((l.foldl (fun d l => d.unfenceLink p l) d).get .fencedLongHaul p 0) k =
      (bit (d.get .fencedLongHaul p 0) k && !decide (k ∈ l)) := by
  induction l generalizing d with
  | nil => simp
  | cons a r ih =>
    rw [List.foldl_cons, ih, bit_unfenceLink hk]
    simp only [List.mem_cons, Bool.decide_or, Bool.not_or, Bool.and_assoc, eq_comm (a := a)]

/-- What follows the fabric ports in an unfence moves none of them. -/
theorem Device.moves_unfence_of_idle (h : (d.plane p).fenceBusy = false) :
    Moves (d.unfencedPorts p) (d.unfence p) besideStates besidePorts := by
  rw [Device.unfence_of_idle h, Device.unfencedAll]
  exact (((Moves.refl ..).foldl (fun _ _ => moves_unfenceLink)).storeFences (Mask.of (by decide)) (Mask.of (by decide))).set
    (by decide) (by decide)

theorem Device.fenced_unfence (h : (d.plane p).fenceBusy = false) {n : Nat} :
    ((d.unfence p).port p n).fenced = ((d.port p n).fenced && !decide (n ∈ d.fenceFabric p)) := by
  rw [(moves_unfence_of_idle h).port (by decide)]
  exact (Device.unfence_foldl _ d n).1

theorem Device.state_unfence (h : (d.plane p).fenceBusy = false) {n : Nat} : (d.unfence p).get .portState p n =
    if n ∈ d.fenceFabric p ∧ (d.port p n).fenced = true then 0 else d.get .portState p n := by
  rw [(moves_unfence_of_idle h).get _ _ _ (by decide)]
  exact (Device.unfence_foldl _ d n).2

theorem Device.moves_unfencedPorts : Moves d (d.unfencedPorts p) objs_setPortState (parts_setPortState ||| 2 ^ Part.ports.ctorIdx) := by
  refine (Moves.refl ..).foldl (fun e n => ?_)
  unfold Device.unfencePort
  exact Moves.ite (fun _ => ((Moves.refl ..).setPort (Mask.of (by decide)) (Mask.of (by decide))).setPortState (Mask.le_refl _)
    (Mask.of (by decide))) (fun _ => Moves.refl ..)

/-- The fence bits of the partition's long-haul ports are cleared. -/
theorem Device.bit_unfence (h : (d.plane p).fenceBusy = false) {l : Nat} (hl : l < 4) (hmine : l ∈ d.fenceLh p) :
    bit ((d.unfence p).get .fencedLongHaul p 0) l = false := by
  have hsame : (d.unfencedPorts p).fenceLh p = d.fenceLh p := Device.moves_unfencedPorts.fenceLh (by decide) (by decide)
  rw [Device.unfence_of_idle h, Device.get_set_obj _ _ _ _ _ _ _ _ (by decide), Device.unfencedAll,
    Device.get_fences_storeFences, Device.bit_unfenceLink_foldl _ _ (by omega), hsame]
  simp [hmine]

end

/-! #### The three commands -/

section
variable {s : State} (p : Plane) (rq : Req)

theorem exec_fence (h : s.dev.admitsNow rq ⟨⟨.fenceCmd, p, 0⟩, 1, 1⟩ = true) : exec (.fence p rq) s =
    .next { s with dev := (((s.dev.fmMessage rq.ses.val).fence p).respond rq (statusResp rq 0)).settle } := by
  show execFence p rq s = _
  exact State.run_next (Device.commandNow_admitted s.dev rq _ _ _ h)

theorem exec_unfence (h : s.dev.admitsNow rq ⟨⟨.fenceCmd, p, 0⟩, 1, 2⟩ = true) : exec (.unfence p rq) s =
    .next { s with dev := (((s.dev.fmMessage rq.ses.val).unfence p).respond rq (statusResp rq 0)).settle } := by
  show execUnfence p rq s = _
  exact State.run_next (Device.commandNow_admitted s.dev rq _ _ _ h)

theorem exec_fenceComplete (h : (s.dev.plane p).fenceBusy = true) : exec (.fenceComplete p) s =
    .next { s with dev := ((s.dev.setPlane p { s.dev.plane p with fenceBusy := false }).set .fenceCmd p 0 2).settle } := by
  show execFenceComplete p s = _
  exact State.run_next (if_pos h)

end

theorem Device.port_settle_respond (d : Device) (rq : Req) (r : Resp) (p n : Nat) :
    (d.respond rq r).settle.port p n = d.port p n :=
  ((Device.frame_settle _ noRegs).port p n).trans (Device.port_respond d rq r p n)

theorem Device.plane_settle_respond (d : Device) (rq : Req) (r : Resp) (p : Nat) : (d.respond rq r).settle.plane p = d.plane p :=
  ((Device.frame_settle _ noRegs).plane p).trans (Device.plane_respond d rq r p)

/-- A fence that is accepted, with its answer (R35). -/
theorem Device.fence_accepted (d : Device) (rq : Req) (p : Nat) (h : (d.plane p).fenceBusy = false) :
    let e := ((d.fence p).respond rq (statusResp rq 0)).settle
    e.get .fenceCmd p 0 = 1 ∧ (e.plane p).fenceBusy = true ∧ e.Answered rq 0 ∧
      (∀ n ∈ d.fenceFabric p, (e.port p n).fenced = true ∧ e.get .portState p n = 6) ∧
      (∀ n, n ∉ d.fenceFabric p → (e.port p n).fenced = (d.port p n).fenced) ∧
      ∀ l < 4, l ∈ d.fenceLh p → bit (e.get .fencedLongHaul p 0) l = true := by
  intro e
  have hget : ∀ o : Obj, o.computed = false → o ≠ .ndpRequests → o ≠ .mgmtRefused → ∀ i, e.get o p i = (d.fence p).get o p i :=
    fun o hc h1 h2 i => Device.get_settle_respond _ rq _ p i hc h1 h2
  have hport : ∀ n, e.port p n = (d.fence p).port p n := Device.port_settle_respond _ rq _ p
  refine ⟨?_, ?_, Device.answered_respond _ rq 0, fun n hn => ?_, fun n hn => ?_, fun l hl hmine => ?_⟩
  · rw [hget _ rfl (by decide) (by decide)]
    exact Device.get_fenceCmd_fence h
  · exact (congrArg PlaneSt.fenceBusy (Device.plane_settle_respond _ rq _ p)).trans (Device.fenceBusy_fence h)
  · have hshut := Device.shut_fence h hn
    exact ⟨(congrArg PortSt.fenced (hport n)).trans hshut.fenced, (hget _ rfl (by decide) (by decide) n).trans hshut.state⟩
  · rw [hport, Device.fenced_fence_other h hn]
  · rw [hget _ rfl (by decide) (by decide)]
    exact Device.bit_fence h hl hmine

/-- An unfence that is accepted, with its answer (R36). -/
theorem Device.unfence_accepted (d : Device) (rq : Req) (p : Nat) (h : (d.plane p).fenceBusy = false) :
    let e := ((d.unfence p).respond rq (statusResp rq 0)).settle
    e.get .fenceCmd p 0 = 2 ∧ e.Answered rq 0 ∧
      (∀ n ∈ d.fenceFabric p, (e.port p n).fenced = false ∧ ((d.port p n).fenced = true → e.get .portState p n = 0)) ∧
      (∀ n, n ∉ d.fenceFabric p → (e.port p n).fenced = (d.port p n).fenced ∧ e.get .portState p n = d.get .portState p n) ∧
      ∀ l < 4, l ∈ d.fenceLh p → bit (e.get .fencedLongHaul p 0) l = false := by
  intro e
  have hget : ∀ o : Obj, o.computed = false → o ≠ .ndpRequests → o ≠ .mgmtRefused → ∀ i, e.get o p i = (d.unfence p).get o p i :=
    fun o hc h1 h2 i => Device.get_settle_respond _ rq _ p i hc h1 h2
  have hfenced : ∀ n, (e.port p n).fenced = ((d.port p n).fenced && !decide (n ∈ d.fenceFabric p)) := fun n =>
    (congrArg PortSt.fenced (Device.port_settle_respond _ rq _ p n)).trans (Device.fenced_unfence h)
  have hstate : ∀ n, e.get .portState p n =
      if n ∈ d.fenceFabric p ∧ (d.port p n).fenced = true then 0 else d.get .portState p n := fun n =>
    (hget _ rfl (by decide) (by decide) n).trans (Device.state_unfence h)
  refine ⟨?_, Device.answered_respond _ rq 0, fun n hn => ?_, fun n hn => ?_, fun l hl hmine => ?_⟩
  · rw [hget _ rfl (by decide) (by decide)]
    exact Device.get_fenceCmd_unfence h
  · exact ⟨by simp [hfenced, hn], fun hwas => (hstate n).trans (if_pos ⟨hn, hwas⟩)⟩
  · exact ⟨by simp [hfenced, hn], (hstate n).trans (if_neg (mt And.left hn))⟩
  · rw [hget _ rfl (by decide) (by decide)]
    exact Device.bit_unfence h hl hmine

/-- A command that finds another in progress: `fence_cmd` reads 0x03, and beside what every request does nothing moves (R36). -/
theorem Device.fenceCmd_refused (d : Device) (rq : Req) (p : Nat) :
    let e := (((d.fmMessage rq.ses.val).set .fenceCmd p 0 3).respond rq (statusResp rq 0)).settle
    e.get .fenceCmd p 0 = 3 ∧ e.Answered rq 0 ∧
      Device.Frame (d.heard rq.ses.val) e (fun o q i => requestRegs o q i ∨ (o = .fenceCmd ∧ q = p ∧ i = 0)) :=
  ⟨(Device.get_settle_respond _ _ _ _ _ rfl (by decide) (by decide)).trans (Device.get_set_lt _ _ _ _ _ (by decide)),
    Device.answered_respond _ rq 0,
    (Device.frame_request (Device.frame_set _ _ _ _ _ _ (.inr ⟨rfl, rfl, rfl⟩))).trans (Device.frame_settle _ _)⟩

/-- Settles O2: an accepted fence (`fence_accepted`) and an accepted unfence (`unfence_accepted`) act on the partition as it stands
after the fault manager's message, which moves none of it; a command that finds another in progress by `fenceCmd_refused`. -/
theorem fenceCommand : Obligations.FenceCommand := by
  intro s p rq mine mineLh
  have hmessage := Device.frame_fmMessage s.dev rq.ses.val
  have hget : ∀ o : Obj, o.computed = false → o ≠ .cause → o ≠ .causeUnit → o ≠ .causeTime → ∀ i,
      (s.dev.fmMessage rq.ses.val).get o p i = s.dev.get o p i := fun o hc h1 h2 h3 i =>
    Device.get_fmMessage_obj _ _ o p i hc h1 h2 h3
  have hport : ∀ n, ((s.dev.fmMessage rq.ses.val).port p n).fenced = (s.dev.port p n).fenced := fun n =>
    congrArg PortSt.fenced (hmessage.port p n)
  have hplane : ((s.dev.fmMessage rq.ses.val).plane p).fenceBusy = (s.dev.plane p).fenceBusy :=
    congrArg PlaneSt.fenceBusy (hmessage.plane p)
  have hmine : ∀ n : Port, n.val ∈ (s.dev.fmMessage rq.ses.val).fenceFabric p ↔ mine n := fun n => by
    rw [Device.mem_fenceFabric n.isLt, hget .portPartition rfl (by decide) (by decide) (by decide),
      hget .fencePartition rfl (by decide) (by decide) (by decide)]
  have hmineLh : ∀ l : Lh, l.val ∈ (s.dev.fmMessage rq.ses.val).fenceLh p ↔ mineLh l := fun l => by
    rw [Device.mem_fenceLh l.isLt, hget .lhPortPartition rfl (by decide) (by decide) (by decide),
      hget .fencePartition rfl (by decide) (by decide) (by decide)]
  refine ⟨fun hadmits hidle => ?fence, fun hadmits hidle => ?unfence, fun hbusy =>
    ⟨?complete, fun hadmits => ?fenceRefused, fun hadmits => ?unfenceRefused⟩⟩
  case fence =>
    obtain ⟨hcmd, hbusy, hanswered, hshut, hother, hlongHaul⟩ := Device.fence_accepted _ rq p (hplane.trans hidle)
    exact ⟨_, exec_fence p rq hadmits, rfl, hcmd, hbusy, hanswered, fun n hn => hshut n ((hmine n).mpr hn),
      fun n hn => (hother n (mt (hmine n).mp hn)).trans (hport n), fun l hl => hlongHaul l l.isLt ((hmineLh l).mpr hl)⟩
  case unfence =>
    obtain ⟨hcmd, hanswered, hopen, hother, hlongHaul⟩ := Device.unfence_accepted _ rq p (hplane.trans hidle)
    refine ⟨_, exec_unfence p rq hadmits, rfl, hcmd, hanswered, fun n hn => ?_, fun n hn => ?_,
      fun l hl => hlongHaul l l.isLt ((hmineLh l).mpr hl)⟩
    · obtain ⟨hfenced, hstate⟩ := hopen n ((hmine n).mpr hn)
      exact ⟨hfenced, fun hwas => hstate ((hport n).trans hwas)⟩
    · obtain ⟨hfenced, hstate⟩ := hother n (mt (hmine n).mp hn)
      exact ⟨hfenced.trans (hport n), hstate.trans (hget .portState rfl (by decide) (by decide) (by decide) n)⟩
  case complete =>
    refine ⟨_, exec_fenceComplete p hbusy, rfl, ?_, ?_⟩
    · exact (Device.get_settle _ _ _ _ rfl).trans (Device.get_set_lt _ _ _ _ _ (by decide))
    · exact (Device.frame_set _ _ _ _ _ _ (.inr ⟨rfl, rfl, rfl⟩)).trans (Device.frame_settle _ _)
  case fenceRefused =>
    refine ⟨_, exec_fence p rq hadmits, ?_⟩
    rw [Device.fence_of_busy (hplane.trans hbusy)]
    exact Device.fenceCmd_refused s.dev rq p
  case unfenceRefused =>
    refine ⟨_, exec_unfence p rq hadmits, ?_⟩
    rw [Device.unfence_of_busy (hplane.trans hbusy)]
    exact Device.fenceCmd_refused s.dev rq p

end Sys2Proof.Machine

/-! ### The block stream of a fabric port (spec/03 R39) -/

namespace Sys2Proof.Machine

theorem length_natToBytes (n v : Nat) : (natToBytes n v).length = n := by
  induction n with
  | zero => rfl
  | succ n ih => simp [natToBytes, ih]

/-- The bytes of a value spell it again, up to their number. -/
theorem bytesToNat_natToBytes (n v : Nat) : bytesToNat (natToBytes n v) = v % 256 ^ n := by
  have hfold : ∀ a, (natToBytes n v).foldl (fun a x => a * 256 + x.toNat) a = a * 256 ^ n + v % 256 ^ n := by
    induction n with
    | zero => simp [natToBytes, Nat.mod_one]
    | succ n ih =>
      intro a
      have hsplit : v % 256 ^ (n + 1) = 256 ^ n * (v / 256 ^ n % 256) + v % 256 ^ n := by
        rw [Nat.pow_succ, Nat.mod_mul, Nat.add_comm]
      simp only [natToBytes, List.foldl_cons, ih, hsplit, BitVec.toNat_ofNat]
      ring
  simpa [bytesToNat] using hfold 0

/-- The bytes of a word spell it again. -/
theorem ofNat_bytesToNat_natToBytes {n w : Nat} (x : BitVec w) (hw : 2 ^ w = 256 ^ n) :
    BitVec.ofNat w (bytesToNat (natToBytes n x.toNat)) = x := by
  apply BitVec.eq_of_toNat_eq
  rw [bytesToNat_natToBytes, ← hw, BitVec.toNat_ofNat, Nat.mod_mod, Nat.mod_eq_of_lt x.isLt]

/-- A frame whose trailer stands only behind a payload is spelled by its bytes (R40, R41). -/
theorem frameOf_wire {f : Sys2Proof.Frame} (hwhole : f.payload = [] → f.trailer = 0) : frameOf (Frame.wire f) = some f := by
  obtain ⟨hdr, payload, trailer⟩ := f
  have hlen : (natToBytes 32 hdr.toNat).length = 32 := length_natToBytes ..
  have htail : (natToBytes 4 trailer.toNat).length = 4 := length_natToBytes ..
  have hhdr := ofNat_bytesToNat_natToBytes (n := 32) hdr (by norm_num)
  by_cases hempty : payload = []
  · subst hempty
    obtain rfl : trailer = 0 := hwhole rfl
    have hnone : bytesToNat [] = 0 := rfl
    simp [frameOf, Frame.wire, Frame.hdrBytes, hlen, hhdr, hnone, List.take_of_length_le hlen.le, List.drop_of_length_le hlen.le]
  · have htrailer := ofNat_bytesToNat_natToBytes (n := 4) trailer (by norm_num)
    simp [frameOf, Frame.wire, Frame.hdrBytes, hlen, htail, hempty, hhdr, htrailer]

/-- Idle blocks hold no frame, and what stood before them or before the start block behind them does not matter. -/
theorem lineFrames_idle_start (k : Nat) (r : List LineBlock) (cur : Option Bytes) :
    lineFrames cur (List.replicate k .idle ++ .start startOfFrame :: r) = lineFrames (some []) r := by
  induction k generalizing cur with
  | zero => simp [lineFrames]
  | succ k ih => simpa [List.replicate_succ, lineFrames] using ih none

/-- The blocks of a byte string end a frame where a start block has begun one, and none elsewhere. -/
theorem lineFrames_dataBlocks (b : Bytes) (r : List LineBlock) (cur : Option Bytes) :
    lineFrames cur (dataBlocks b ++ r) = ((cur.map (· ++ b)).bind frameOf).toList ++ lineFrames none r := by
  induction b using dataBlocks.induct generalizing cur with
  | case1 a b c d e f g h rest ih => cases cur <;> simp [dataBlocks, lineFrames, ih]
  | case2 rest hshort => rw [dataBlocks.eq_2 _ hshort]; rfl

/-- A receiver finds the frames that were laid into a stream, whatever stood before. -/
theorem lineFrames_lineOf (l : List (Nat × Sys2Proof.Frame)) (hwhole : ∀ y ∈ l, y.2.payload = [] → y.2.trailer = 0)
    (cur : Option Bytes) : lineFrames cur (lineOf l) = l.map (·.2) := by
  induction l generalizing cur with
  | nil => rfl
  | cons x r ih =>
    have hhead : lineFrames cur (lineOf (x :: r)) = lineFrames (some []) (dataBlocks (Frame.wire x.2) ++ lineOf r) := by
      simp only [lineOf, List.flatMap_cons, frameBlocks, List.append_assoc, List.cons_append]
      exact lineFrames_idle_start ..
    rw [hhead, lineFrames_dataBlocks]
    simp [frameOf_wire (hwhole x (by simp)), ih (fun y hy => hwhole y (by simp [hy]))]

/-- Settles O60: `lineFrames_lineOf` for any stream, a port's own among them; a start block with another delimiter leaves no frame
begun, so the terminate block behind it ends none (`lineFrames_dataBlocks`). -/
theorem lineCoding : Obligations.LineCoding := by
  intro d p n l idle cur x b whole
  refine ⟨fun h => lineFrames_lineOf l h cur, fun h => ?_, fun f k => ?_, fun hx => ?_⟩
  · rw [Device.portLine, lineFrames_lineOf, List.map_map]
    · exact List.zipIdx_map_fst 0 _
    · intro y hy
      obtain ⟨z, hz, rfl⟩ := List.mem_map.mp hy
      exact h z.1 (List.fst_mem_of_mem_zipIdx hz)
  · simp [lineOf, frameBlocks, startOfFrame, List.take_append]
  · have hnone := lineFrames_dataBlocks b [] none
    rw [List.append_nil] at hnone
    rw [lineFrames, show (if x = startOfFrame then some [] else none) = none from if_neg hx, hnone]
    rfl

end Sys2Proof.Machine

/-! ### Management of a fabric port (spec/03 R63) -/

namespace Sys2Proof.Machine

/-! #### What a message of the fault manager leaves of a port's conditions -/

theorem Device.parked_congr {d e : Device} {p n : Nat} (h : e.get .bypMap p (n / 32) = d.get .bypMap p (n / 32)) :
    e.parked p n = d.parked p n := by
  unfold Device.parked; rw [h]

theorem Device.parked_fmMessage (d : Device) (ses p n : Nat) : (d.fmMessage ses).parked p n = d.parked p n :=
  Device.parked_congr (Device.get_fmMessage_obj d ses _ _ _ rfl (by decide) (by decide) (by decide))

theorem Device.canTrain_fmMessage (d : Device) (ses p n : Nat) : (d.fmMessage ses).canTrain p n = d.canTrain p n := by
  have hget : ∀ o : Obj, objs_fmMessage.testBit o.ctorIdx = false → ∀ q i, (d.fmMessage ses).get o q i = d.get o q i :=
    ((Moves.refl d objs_fmMessage parts_fmMessage).fmMessage (Mask.le_refl _) (Mask.le_refl _)).regs
  have hmessage := Device.frame_fmMessage d ses
  have hplane : (d.fmMessage ses).plane p = d.plane p := hmessage.plane p
  have hport : (d.fmMessage ses).port p n = d.port p n := hmessage.port p n
  unfold Device.canTrain Device.operates Device.stage
  rw [hplane, hport, Device.parked_fmMessage, hget .bringupStage (by decide), hget .portAdmin (by decide)]

/-! #### A port that leaves UP or training -/

section
variable {d : Device} {p n : Nat}

/-- Leaving UP or training leaves every object outside its own set as it is, `port_admin` and `train_cmd` among them. -/
theorem Device.get_leavePort_obj {st : Nat} {o : Obj} (h : objs_leavePort.testBit o.ctorIdx = false) (q i : Nat) :
    (d.leavePort p n st).get o q i = d.get o q i :=
  ((Moves.refl d objs_leavePort parts_leavePort).leavePort (Mask.le_refl _) (Mask.le_refl _)).get o q i h

/-- A port that is not fenced is DOWN once it trains again (R56). -/
theorem Device.get_retrain (h : (d.port p n).fenced = false) : (d.retrain p n).get .portState p n = 0 := by
  unfold Device.retrain
  rw [h]
  exact Device.get_leavePort _ _ _ _ (by decide)

/-! #### `port_admin` -/

/-- The device once the journal holds a value of `port_admin` and it is in force. -/
def Device.adminStored (d : Device) (p n v : Nat) : Device := (d.journal [(⟨.portAdmin, p, n⟩, v)]).1.set .portAdmin p n v

/-- A write of `port_admin` that the journal takes: the value is in force, and down takes the port out of training or UP unless a
persistent circuit holds it. -/
theorem Device.portAdmin_journalled {ses v : Nat} (hv : v < 2 ^ 8) (h : d.journals ses [(⟨.portAdmin, p, n⟩, v)] = true) :
    (d.fmMessage ses).portAdmin p n v =
      (if v = 0 ∧ d.parked p n = false
        then ((d.fmMessage ses).adminStored p n v).leavePort p n (if (d.port p n).fenced then 6 else 0)
        else (d.fmMessage ses).adminStored p n v, true) := by
  have hvalue : v % 2 ^ Obj.portAdmin.width = v := Nat.mod_eq_of_lt hv
  have hstore := Device.store_journals d ses .portAdmin p n v rfl (hvalue.symm ▸ h)
  rw [hvalue] at hstore
  have hport : (d.fmMessage ses).port p n = d.port p n := (Device.frame_fmMessage d ses).port p n
  unfold Device.portAdmin
  rw [hstore, Device.parked_fmMessage, hport]
  by_cases hdown : v = 0 ∧ d.parked p n = false
  · simp [hdown, Device.adminStored]
  · have hstays : ¬ (decide (v = 0) && !d.parked p n) = true := by simpa using hdown
    simp [hdown, hstays, Device.adminStored]

theorem exec_portAdminWrite (p : Plane) (n : Port) {v : Byte} {rq : Req} {s : State}
    (hadmits : s.dev.admits rq ⟨⟨.portAdmin, p, n⟩, 1, v.toNat⟩ = true)
    (hkept : s.dev.journals rq.ses.val [(⟨.portAdmin, p, n⟩, v.toNat)] = true) :
    exec (.portAdminWrite p n v rq) s = .next { s with dev :=
      (((s.dev.fmMessage rq.ses.val).portAdmin p n v.toNat).1.respond rq (statusResp rq 0)).settle } := by
  have hstored := Device.portAdmin_journalled v.isLt hkept
  show execPortAdminWrite p n v rq s = _
  exact State.run_next (Device.write_admitted s.dev rq _ _ _ hadmits rfl (by rw [hstored]))

/-! #### `train_cmd` -/

theorem exec_trainCmd (p : Plane) (n : Port) {rq : Req} {s : State}
    (hadmits : s.dev.admits rq ⟨⟨.trainCmd, p, n⟩, 1, 1⟩ = true) :
    exec (.trainCmd p n rq) s = .next { s with dev :=
      (((s.dev.fmMessage rq.ses.val).trainCmd p n).respond rq (statusResp rq 0)).settle } := by
  show execTrainCmd p n rq s = _
  exact State.run_next (Device.command_admitted s.dev rq _ _ _ hadmits)

theorem Device.get_trainCmd (d : Device) (p n : Nat) :
    (d.trainCmd p n).get .trainCmd p n = if d.canTrain p n then 1 else 3 := by
  unfold Device.trainCmd
  split <;> exact Device.get_set_lt _ _ _ _ _ (by decide)

/-- A port that may train is DOWN after `train_cmd`. -/
theorem Device.get_portState_trainCmd (h : d.canTrain p n = true) : (d.trainCmd p n).get .portState p n = 0 := by
  have hopen : (d.port p n).fenced = false := by
    simp only [Device.canTrain, Bool.and_eq_true, Bool.not_eq_true'] at h
    exact h.1.2
  unfold Device.trainCmd
  rw [if_pos h, Device.get_set_obj _ _ _ _ _ _ _ _ (by decide)]
  exact Device.get_retrain hopen

end

/-- Settles O5: a write of `port_admin` by `portAdmin_journalled`, and `train_cmd` by `get_trainCmd`, both on the device after the
fault manager's message, which moves nothing that they ask of the port. -/
theorem portManagement : Obligations.PortManagement := by
  intro s p n v rq
  have hget : ∀ {e : Device} {o : Obj}, o.computed = false → o ≠ .ndpRequests → o ≠ .mgmtRefused →
      (e.respond rq (statusResp rq 0)).settle.get o p n = e.get o p n := fun hc h k =>
    Device.get_settle_respond _ rq _ _ _ hc h k
  refine ⟨fun hadmits hkept => ⟨_, exec_portAdminWrite p n hadmits hkept, rfl, ?admin, Device.answered_respond _ rq 0,
    fun hdown hfree => ?down⟩, fun hadmits => ⟨_, exec_trainCmd p n hadmits, rfl, Device.answered_respond _ rq 0, ?reads,
    fun htrain => ?trains⟩⟩
  case admin =>
    have hset : ((s.dev.fmMessage rq.ses.val).adminStored p n v.toNat).get .portAdmin p n = v.toNat :=
      Device.get_set_lt _ _ _ _ _ v.isLt
    rw [hget rfl (by decide) (by decide), Device.portAdmin_journalled v.isLt hkept]
    dsimp only
    split
    · rw [Device.get_leavePort_obj (by decide), hset]
    · exact hset
  case down =>
    have hzero : v.toNat = 0 := by rw [hdown]; rfl
    rw [hget rfl (by decide) (by decide), Device.portAdmin_journalled v.isLt hkept]
    dsimp only
    rw [if_pos ⟨hzero, hfree⟩]
    exact Device.get_leavePort _ _ _ _ (by split <;> decide)
  case reads =>
    rw [hget rfl (by decide) (by decide), Device.get_trainCmd, Device.canTrain_fmMessage]
  case trains =>
    rw [hget rfl (by decide) (by decide)]
    exact Device.get_portState_trainCmd ((Device.canTrain_fmMessage ..).trans htrain)

end Sys2Proof.Machine

/-! ### Acknowledgement and retry on a fabric port (spec/03 R50 to R56, R61) -/

namespace Sys2Proof.Machine

section
variable {d : Device} {p n : Nat}

/-! #### What a received link frame does before it acts -/

/-- Without a round on its chiplet a start block aborts none (R306). -/
theorem Device.calAbortPort_of_idle (h : (d.cal p (n / 32)).round = none) : d.calAbortPort p n = d :=
  if_neg (by simp [h])

theorem Device.startBlock_of_idle (h : (d.cal p (n / 32)).round = none) : d.startBlock p n = d :=
  (ite_congr rfl (fun _ => rfl) (fun _ => Device.calAbortPort_of_idle h)).trans (ite_self d)

theorem Device.moves_startBlock : Moves d (d.startBlock p n) objs_startBlock parts_startBlock :=
  (Moves.refl ..).startBlock (Mask.le_refl _) (Mask.le_refl _)

/-- The checks of R482 look at the frame alone: one that passes them passes them anywhere. -/
theorem Device.linkChecks_of_passes {f : Sys2Proof.Frame} {len : Nat} {ctrl : Bool} (h : (d.linkChecks p n f len ctrl).2 = true) (e : Device) :
    e.linkChecks p n f len ctrl = (e, true) := by
  unfold Device.linkChecks at h ⊢
  by_cases hcrc : f.crcOk = true
  · simp only [hcrc, Bool.not_true, Bool.false_eq_true, if_false] at h ⊢
    split_ifs at h ⊢
    rfl
  · simp [hcrc] at h

/-! #### CREDIT (R50, R51, R54) -/

/-- A port after a cumulative acknowledgement: no frame up to the acknowledged one is outstanding or to be sent again (R54). -/
def PortSt.acked (v : PortSt) (m : Nat) : PortSt :=
  match v.outstanding m with
  | none => v
  | some k => { v with
      unacked := v.unacked.drop (k + 1),
      resend := v.resend.filter (fun q => !((v.unacked.take (k + 1)).any (fun u => u.seq = q))) }

theorem PortSt.freedPeer_acked (v : PortSt) (m : Nat) : (v.acked m).freedPeer = v.freedPeer := by
  unfold PortSt.acked
  split <;> rfl

theorem PortSt.unacked_acked (v : PortSt) (m : Nat) :
    (v.acked m).unacked = match v.outstanding m with
      | some k => v.unacked.drop (k + 1)
      | none => v.unacked := by
  unfold PortSt.acked
  cases v.outstanding m <;> rfl

/-- A release point reached moves no port. -/
theorem Device.port_markDue_foldl (o : Nat) (l : List Unacked) (d : Device) (q m : Nat) :
    (l.foldl (fun d u => d.markDue p u.copy o) d).port q m = d.port q m :=
  ((Moves.refl d objs_markDue parts_markDue).foldl (fun _ _ => (Moves.refl ..).markDue (Mask.le_refl _) (Mask.le_refl _))).port
    (by decide) q m

theorem Device.port_applyAck (d : Device) (p n m : Nat) : (d.applyAck p n m).port p n = (d.port p n).acked m := by
  unfold Device.applyAck PortSt.acked
  dsimp only
  cases (d.port p n).outstanding m with
  | none => rfl
  | some k =>
    dsimp only
    rw [Device.port_markDue_foldl, Device.port_setPort, if_pos ⟨rfl, rfl⟩]

theorem Device.port_svcUpdate (d : Device) (p o q m : Nat) : (d.svcUpdate p o).port q m = d.port q m :=
  ((Moves.refl d objs_svcUpdate parts_svcUpdate).svcUpdate (Mask.le_refl _) (Mask.le_refl _)).port (by decide) q m

/-- A CREDIT frame in UP that passes its checks brings the peer's freed counts and its acknowledgement. -/
theorem Device.port_creditRx {f : Sys2Proof.Frame} (hup : d.get .portState p n = 4) (hpass : (d.linkChecks p n f 16 false).2 = true) :
    (d.creditRx p n f).port p n =
      ({ d.port p n with freedPeer := octetList 8 16 (bytesToNat f.payload) } : PortSt).acked f.linkSeq := by
  have hstate : (d.startBlock p n).get .portState p n = 4 := (Device.moves_startBlock.get _ _ _ (by decide)).trans hup
  have hport : (d.startBlock p n).port p n = d.port p n := Device.moves_startBlock.port (by decide) p n
  unfold Device.creditRx
  simp only [hup, Device.linkChecks_of_passes hpass, hstate, Nat.reduceLeDiff, decide_true, Bool.and_self, if_true,
    Device.port_svcUpdate, Device.port_applyAck, Device.port_setPort, and_self, hport]

/-- A link frame that a port sends while its link state is not frozen has left. -/
theorem Device.sends_sendLink {f : Sys2Proof.Frame} (h : d.get .portState p n ≠ 5) : d.Sends (d.sendLink p n f) (.lfl p n f) := by
  have hmoves : Moves d (d.calAbortPort p n) objs_calAbortPort parts_calAbortPort :=
    (Moves.refl ..).calAbortPort (Mask.le_refl _) (Mask.le_refl _)
  unfold Device.sendLink
  rw [if_neg h]
  exact .before hmoves.out ⟨[_], rfl, by simp⟩

/-- Nothing of the port moves with it. -/
theorem Device.port_sendLink {f : Sys2Proof.Frame} (h : d.get .portState p n ≠ 5) (q m : Nat) : (d.sendLink p n f).port q m = d.port q m := by
  unfold Device.sendLink
  rw [if_neg h]
  exact (((Moves.refl d objs_sendLink parts_calAbortPort).calAbortPort (Mask.of (by decide)) (Mask.le_refl _)).emit (Mask.of (by decide))
    (Mask.of (by decide))).port (by decide) q m

/-- The CREDIT frame of a port: its freed counts and the last number received in order (R50). -/
def Device.creditFrame (d : Device) (p n : Nat) : Sys2Proof.Frame :=
  (d.peerMk p n { opcode := opCredit, cls := 5, hops := 1, linkSeq := ((d.port p n).rxExp + 4095) % 4096 }).frame
    ((List.range 8).flatMap (fun c => natToBytes 2 (nth (d.port p n).freed c)))

/-- The CREDIT that is sent in UP reports what was freed and received. -/
theorem Device.sendCredit_sends (hup : d.get .portState p n = 4) :
    d.Sends (d.sendCredit p n) (.lfl p n (d.creditFrame p n)) ∧
      (d.sendCredit p n).port p n = { d.port p n with reported := (d.port p n).freed, ackSent := (d.port p n).rxExp } := by
  have hopen : ∀ v, (d.setPort p n v).get .portState p n ≠ 5 := fun v => by
    rw [show (d.setPort p n v).get .portState p n = 4 from hup]; decide
  unfold Device.sendCredit
  refine ⟨Device.sends_sendLink (hopen _), ?_⟩
  rw [Device.port_sendLink (hopen _), Device.port_setPort, if_pos ⟨rfl, rfl⟩]

/-- The timer sends a CREDIT while something is outstanding on this side. -/
theorem Device.creditTimer_of_owed (hup : d.get .portState p n = 4)
    (howed : (d.port p n).unacked ≠ [] ∨ (d.port p n).rxExp ≠ (d.port p n).ackSent ∨
      ∃ c < 8, nth (d.port p n).rcvd c ≠ nth (d.port p n).reported c) : d.creditTimer p n = d.sendCredit p n := by
  refine if_pos ?_
  simp only [hup, decide_true, Bool.true_and, Bool.or_eq_true, decide_eq_true_eq, List.any_eq_true, List.mem_range, or_assoc]
  exact howed.imp_right (Or.imp_right (fun ⟨c, hc, hne⟩ => ⟨c, hc, .inl hne⟩))

/-! #### RETRY_NAK and the acknowledgement timer (R54 to R56) -/

/-- The resend from index k, where every frame of it is stored and none has been sent eight times (R55). -/
def PortSt.resendingFrom (v : PortSt) (k : Nat) : PortSt := { v with resend := (v.unacked.drop k).map (·.seq), resendFree := false }

theorem Device.resendFrom_of_stored {k : Nat}
    (h : ∀ u ∈ (d.port p n).unacked.drop k, (d.copy? p u.copy).isSome ∧ u.tries < 8) :
    d.resendFrom p n k = d.setPort p n ((d.port p n).resendingFrom k) := by
  have hstored : ((d.port p n).unacked.drop k).any (fun u => (d.copy? p u.copy).isNone) = false := by
    simp only [List.any_eq_false, Bool.not_eq_true, Option.isNone_eq_false_iff]
    exact fun u hu => (h u hu).1
  have htries : ((d.port p n).unacked.drop k).any (fun u => decide (u.tries ≥ 8)) = false := by
    simp only [List.any_eq_false, decide_eq_true_eq, not_le]
    exact fun u hu => (h u hu).2
  unfold Device.resendFrom
  simp only [hstored, htries, Bool.false_eq_true, if_false]
  rfl

/-- A port whose retries are exhausted: counted, and its cause raised (R56). -/
def Device.exhausted (d : Device) (p n : Nat) : Device := (d.bump .retryExhausted p n).causeFabric p 8 n

theorem Device.resendFrom_of_exhausted {k : Nat} (hstored : ∀ u ∈ (d.port p n).unacked.drop k, (d.copy? p u.copy).isSome)
    (htries : ∃ u ∈ (d.port p n).unacked.drop k, 8 ≤ u.tries) :
    d.resendFrom p n k = ((d.exhausted p n).portFault p n).retrain p n := by
  have hnone : ((d.port p n).unacked.drop k).any (fun u => (d.copy? p u.copy).isNone) = false := by
    simp only [List.any_eq_false, Bool.not_eq_true, Option.isNone_eq_false_iff]
    exact hstored
  have hsome : ((d.port p n).unacked.drop k).any (fun u => decide (u.tries ≥ 8)) = true := by
    simpa [List.any_eq_true] using htries
  unfold Device.resendFrom
  simp only [hnone, hsome, Bool.false_eq_true, if_false, if_true]
  rfl

theorem Device.ackTimeout_of_unacked (hup : d.get .portState p n = 4) (h : (d.port p n).unacked ≠ []) :
    d.ackTimeout p n = d.resendFrom p n 0 :=
  if_pos (by simp [hup, h])

/-- A RETRY_NAK in UP that passes its checks and aborts no calibration round: of an outstanding frame it starts the resend. -/
theorem Device.nakRx_of_outstanding {f : Sys2Proof.Frame} {k : Nat} (hup : d.get .portState p n = 4)
    (hidle : (d.cal p (n / 32)).round = none) (hpass : d.linkChecks p n f 0 false = (d, true))
    (h : (d.port p n).outstanding f.linkSeq = some k) : d.nakRx p n f = d.resendFrom p n k := by
  unfold Device.nakRx
  simp [hup, Device.startBlock_of_idle hidle, hpass, h]

/-- One of a frame that is not outstanding is counted. -/
theorem Device.nakRx_of_not_outstanding {f : Sys2Proof.Frame} (hup : d.get .portState p n = 4)
    (hidle : (d.cal p (n / 32)).round = none) (hpass : d.linkChecks p n f 0 false = (d, true))
    (h : (d.port p n).outstanding f.linkSeq = none) : d.nakRx p n f = d.bump .nakIgnored p n := by
  unfold Device.nakRx
  simp [hup, Device.startBlock_of_idle hidle, hpass, h]

/-- What becomes of a port whose retries are exhausted and that is not fenced (R56). -/
theorem Device.retrain_exhausted (hfenced : (d.port p n).fenced = false) :
    let e := ((d.exhausted p n).portFault p n).retrain p n
    e.get .portState p n = 0 ∧ e.get .retryExhausted p n = min (d.get .retryExhausted p n + 1) (2 ^ 32 - 1) ∧
      bit (e.get .cause p 1) 8 = true ∧ (e.port p n).unacked = [] := by
  intro e
  have hfault : Moves (d.exhausted p n) ((d.exhausted p n).portFault p n) objs_portFault parts_portFault :=
    (Moves.refl ..).portFault (Mask.le_refl _) (Mask.le_refl _)
  have hmoves : Moves (d.exhausted p n) e (objs_portFault ||| objs_retrain) (parts_portFault ||| parts_retrain) :=
    (hfault.mono (Mask.of (by decide)) (Mask.of (by decide))).retrain (Mask.of (by decide)) (Mask.of (by decide))
  have hport : ((d.exhausted p n).portFault p n).port p n = d.port p n := by
    rw [hfault.port (by decide)]
    exact (Device.port_latch ..).trans (Device.port_bump ..)
  refine ⟨?_, ?_, ?_, ?_⟩
  · have hopen : (((d.exhausted p n).portFault p n).port p n).fenced = false := by rw [hport, hfenced]
    exact Device.get_retrain hopen
  · rw [hmoves.get _ _ _ (by decide)]
    exact (Device.get_latch_obj _ _ _ _ _ _ _ _ (by decide) (by decide) (by decide)).trans (Device.get_count_narrow _ _ _ _ _ (by decide))
  · exact hmoves.latched (by decide) p 1 8 (by decide) (Device.bit_latch _ _ _ _ _ (by decide))
  · exact congrArg PortSt.unacked (Device.port_leavePort ..)

end

/-! #### The commands -/

section
variable {s : State} (p : Plane) (n : Port) (f : Sys2Proof.Frame)

theorem exec_credit (h : s.dev.live p = true) : exec (.credit p n f) s = .next { s with dev := (s.dev.creditRx p n f).settle } := by
  show execCredit p n f s = _
  exact State.runOn_next h

theorem exec_creditTxTimer (h : s.dev.live p = true) :
    exec (.creditTxTimer p n) s = .next { s with dev := (s.dev.creditTimer p n).settle } := by
  show execCreditTxTimer p n s = _
  exact State.runOn_next h

theorem exec_retryNak (h : s.dev.live p = true) : exec (.retryNak p n f) s = .next { s with dev := (s.dev.nakRx p n f).settle } := by
  show execRetryNak p n f s = _
  exact State.runOn_next h

theorem exec_ackTimeout (h : s.dev.live p = true) : exec (.ackTimeout p n) s = .next { s with dev := (s.dev.ackTimeout p n).settle } := by
  show execAckTimeout p n s = _
  exact State.runOn_next h

end

/-- Settles O4: CREDIT by `port_creditRx` and `sendCredit_sends`; RETRY_NAK and the timer both start `resendFrom`, whose two outcomes
are `resendFrom_of_stored` and, at the eighth transmission, `retrain_exhausted`. -/
theorem linkAcknowledgement : Obligations.LinkAcknowledgement := by
  intro s p n f hlive hup
  refine ⟨fun hpass => ?credit, fun howed => ?timer, fun hidle hpass houtside => ?ignored, fun k hidle hinside hpass hstored => ?nak,
    fun hunacked hstored => ?resend, fun hstored htries hfenced => ?exhausted, ?preamble⟩
  case credit =>
    have hport := (Device.port_settle _ p n).trans (Device.port_creditRx hup (congrArg Prod.snd hpass))
    exact ⟨_, exec_credit p n f hlive, rfl, (congrArg PortSt.freedPeer hport).trans (PortSt.freedPeer_acked ..),
      (congrArg PortSt.unacked hport).trans (PortSt.unacked_acked ..)⟩
  case timer =>
    obtain ⟨hsends, hport⟩ := Device.sendCredit_sends (p := p) (n := n) hup
    have hsettled := (Device.port_settle _ p n).trans hport
    refine ⟨_, exec_creditTxTimer p n hlive, rfl, ?_⟩
    rw [Device.creditTimer_of_owed hup howed]
    exact ⟨hsends.after (Device.frame_settle _ noRegs), congrArg PortSt.reported hsettled, congrArg PortSt.ackSent hsettled⟩
  case ignored =>
    refine ⟨_, exec_retryNak p n f hlive, ?_⟩
    rw [Device.nakRx_of_not_outstanding hup hidle hpass houtside]
    exact ⟨(Device.get_settle _ _ _ _ rfl).trans (Device.get_count_narrow _ _ _ _ _ (by decide)),
      (Device.frame_bump _ _ _ _ _ (.inr ⟨rfl, rfl, rfl⟩)).trans (Device.frame_settle _ _)⟩
  case nak =>
    refine ⟨_, exec_retryNak p n f hlive, rfl, ?_⟩
    rw [Device.nakRx_of_outstanding hup hidle hpass hinside, Device.resendFrom_of_stored hstored]
    exact Device.frame_settle _ _
  case resend =>
    refine ⟨_, exec_ackTimeout p n hlive, rfl, ?_⟩
    rw [Device.ackTimeout_of_unacked hup hunacked, Device.resendFrom_of_stored (k := 0) hstored]
    exact Device.frame_settle _ _
  case exhausted =>
    have hunacked : (s.dev.port p n).unacked ≠ [] := by
      obtain ⟨u, hu, -⟩ := htries
      exact List.ne_nil_of_mem hu
    obtain ⟨hstate, hcount, hcause, hempty⟩ := Device.retrain_exhausted (p := p) (n := n) hfenced
    refine ⟨_, exec_ackTimeout p n hlive, rfl, ?_⟩
    rw [Device.ackTimeout_of_unacked hup hunacked, Device.resendFrom_of_exhausted (k := 0) hstored htries]
    exact ⟨(Device.get_settle _ _ _ _ rfl).trans hstate, (Device.get_settle _ _ _ _ rfl).trans hcount,
      (congrArg (bit · 8) (Device.get_settle _ .cause p 1 rfl)).trans hcause, (congrArg PortSt.unacked (Device.port_settle ..)).trans hempty⟩
  case preamble => exact ⟨_, rfl, rfl, Device.frame_settle _ _⟩

end Sys2Proof.Machine

/-! ### Training of a fabric port (spec/03 R46 to R49, R58) -/

namespace Sys2Proof.Machine

/-! #### An aborted calibration round keeps what the ports' light has shown (spec/13 R304, R306) -/

/-- The local ports of a chiplet whose incoming light showed the pilot tones. -/
def Device.toned (d : Device) (q k : Nat) : List Nat := (d.cal q k).toned

theorem quiet_toned (q k : Nat) : Quiet (Device.toned · q k) :=
  ⟨fun _ _ _ _ _ => rfl, fun _ _ => rfl, fun _ _ _ => rfl, fun _ _ _ => rfl, fun _ _ => rfl⟩

section
variable (d : Device) (q k : Nat)

theorem Device.toned_settle : d.settle.toned q k = d.toned q k := (quiet_toned q k).settle d

theorem Device.toned_ite {c : Prop} [Decidable c] {a b : Device} (ha : a.toned q k = d.toned q k) (hb : b.toned q k = d.toned q k) :
    (if c then a else b).toned q k = d.toned q k := Quiet.ite (g := (Device.toned · q k)) ha hb

theorem Device.toned_setCal {p c : Nat} {v : CalSt} (h : v.toned = d.toned p c) : (d.setCal p c v).toned q k = d.toned q k := by
  unfold Device.toned
  rw [Device.cal_setCal]
  split
  · next he => rw [h, he.1, he.2]; rfl
  · rfl

theorem Device.toned_setReserve (p c : Nat) : (d.setReserve p c).toned q k = d.toned q k := by
  have hcheck : ∀ (e : Device) r x, (e.rangeCheck p c r x).toned q k = e.toned q k := fun e _ _ =>
    Device.toned_ite e q k ((quiet_toned q k).latch ..) rfl
  unfold Device.setReserve
  exact (foldl_keeps (Device.toned · q k) _ (fun e x => hcheck e _ _) _ _).trans ((quiet_toned q k).set ..)

theorem Device.toned_applyMode (p c : Nat) : (d.applyMode p c).toned q k = d.toned q k := by
  unfold Device.applyMode
  exact (Device.toned_setReserve _ q k p c).trans
    (Device.toned_ite d q k (Device.toned_setCal d q k rfl) (Device.toned_setCal d q k rfl))

theorem Device.toned_endRound (p c j : Nat) : (d.endRound p c j).toned q k = d.toned q k := by
  unfold Device.endRound
  extract_lets s e1 e2 e3
  have hrings : ∀ r i, e1.toned r i = d.toned r i := fun r i =>
    foldl_keeps (Device.toned · r i) _ (fun e _ => Device.toned_ite e r i ((quiet_toned r i).set ..) rfl) _ _
  have hended : e2.toned q k = e1.toned q k := Device.toned_setCal e1 q k (hrings p c).symm
  have hheld : e3.toned q k = e2.toned q k := by
    apply foldl_keeps (Device.toned · q k)
    exact fun _ _ => rfl
  have hkept : e3.toned q k = d.toned q k := (hheld.trans hended).trans (hrings q k)
  exact Device.toned_ite d q k ((Device.toned_applyMode e3 q k p c).trans hkept) hkept

theorem Device.toned_calAbort (p c : Nat) : (d.calAbort p c).toned q k = d.toned q k := by
  unfold Device.calAbort
  extract_lets s e1
  split
  · rfl
  · extract_lets a e2 e3 e4
    have hcodes : ∀ r i, e1.toned r i = d.toned r i := fun r i =>
      foldl_keeps (Device.toned · r i) _ (fun _ _ => (quiet_toned r i).set ..) _ _
    have hcounted : e2.toned q k = e1.toned q k := Device.toned_setCal e1 q k (hcodes p c).symm
    have hended : e3.toned q k = d.toned q k :=
      ((Device.toned_endRound _ q k p c _).trans ((quiet_toned q k).bump ..)).trans (hcounted.trans (hcodes q k))
    have hforced : e4.toned q k = d.toned q k := Device.toned_ite d q k (((quiet_toned q k).set ..).trans hended) hended
    exact Device.toned_ite d q k (((quiet_toned q k).latch ..).trans (((quiet_toned q k).set ..).trans hforced)) hforced

theorem Device.toned_setPortState (p n v : Nat) : (d.setPortState p n v).toned q k = d.toned q k := by
  have hsvc : ∀ e : Device, (e.svcUpdate p n).toned q k = e.toned q k := fun e => by
    have hcals : (e.svcUpdate p n).cals = e.cals :=
      ((Moves.refl e objs_svcUpdate parts_svcUpdate).svcUpdate (Mask.le_refl _) (Mask.le_refl _)).same .cals (by decide)
    unfold Device.toned Device.cal
    rw [hcals]
  have habort : (d.calAbortPort p n).toned q k = d.toned q k := Device.toned_ite d q k (Device.toned_calAbort d q k p _) rfl
  unfold Device.setPortState
  extract_lets e1 e2
  have hstate : e2.toned q k = d.toned q k := ((quiet_toned q k).set ..).trans (Device.toned_ite d q k rfl habort)
  exact (hsvc _).trans (Device.toned_ite d q k hstate (((quiet_toned q k).set ..).trans hstate))

end

/-- The light of a port shows nothing of the other ports' tones. -/
theorem Device.toned_lightSeen (d : Device) (p n : Nat) {k : Nat} (hk : k ≠ n % 32) :
    ((d.lightSeen p n).toned p (n / 32)).contains k = (d.toned p (n / 32)).contains k := by
  unfold Device.lightSeen
  extract_lets tones e s others e1
  have hseen : e1.toned p (n / 32) = if tones then n % 32 :: others else others := by
    rw [Device.toned, Device.cal_setCal, if_pos ⟨rfl, rfl⟩]
  have hothers : others.contains k = (d.toned p (n / 32)).contains k := by
    simp only [others, List.contains_eq_mem, List.mem_filter, decide_eq_true_eq, hk, ne_eq, not_false_eq_true, and_true]
    rfl
  rw [foldl_keeps (Device.toned · p (n / 32)) _ (fun e _ => Device.toned_ite e p (n / 32) ((quiet_toned _ _).set ..) rfl), hseen]
  split
  · rw [List.contains_cons, hothers, beq_eq_false_iff_ne.mpr hk, Bool.false_or]
  · exact hothers

/-! #### Light, codewords and timers (R46, R49, R58) -/

section
variable {d : Device} {p n : Nat}

theorem Device.cdrLock_of_down (htrain : d.canTrain p n = true) (hdown : d.get .portState p n = 0) :
    d.cdrLock p n = (d.lightSeen p n).setPortState p n 1 :=
  if_pos (by simp [htrain, hdown])

theorem Device.moves_lightSeen : Moves d (d.lightSeen p n) objs_lightSeen parts_lightSeen :=
  (Moves.refl ..).lightSeen (Mask.le_refl _) (Mask.le_refl _)

/-- Incoming light and the state that follows move no port beside its state. -/
theorem Device.ports_setPortState_lightSeen (v : Nat) : ((d.lightSeen p n).setPortState p n v).ports = d.ports :=
  (((Moves.refl d objs_all besidePorts).lightSeen (Mask.of (by decide)) (Mask.of (by decide))).setPortState (Mask.of (by decide))
    (Mask.of (by decide))).same .ports (by decide)

/-- A port in FEC_LOCK: the limits it grants are loaded, and its training begins anew (R47, R49). -/
def Device.fecLocked (d : Device) (p n : Nat) : PortSt :=
  { d.port p n with limRx := d.loadLimits p n, agree := 0, agreed := false, doneSent := false, doneRcvd := false }

theorem Device.fecLock_of_optical (htrain : d.canTrain p n = true) (hoptical : d.get .portState p n = 1) :
    d.fecLock p n = (d.setPort p n (d.fecLocked p n)).setPortState p n 2 :=
  if_pos (by simp [htrain, hoptical])

theorem Device.loadLimits_eq : d.loadLimits p n =
    if (d.port p n).resendFree = true ∧ (d.port p n).limRx ≠ [] then (d.port p n).limRx else octetList 8 16 (d.get .creditLimit p n) := by
  unfold Device.loadLimits
  simp only [Bool.and_eq_true, decide_eq_true_eq]

/-- A training that failed: counted, and the port is DOWN with its link state cleared (R49). -/
def Device.trainingFailed (d : Device) (p n : Nat) : Device :=
  ((d.bump .trainingFail p n).setPort p n { d.port p n with failed := (d.port p n).failed + 1 }).leavePort p n 0

theorem Device.trainingTimeout_of_training (htrain : d.canTrain p n = true) (hstate : d.get .portState p n < 4) :
    d.trainingTimeout p n =
      if (d.port p n).failed + 1 ≥ 16 then (d.trainingFailed p n).causeFabric p 7 n else d.trainingFailed p n := by
  have hport : (d.bump .trainingFail p n).port p n = d.port p n := Device.port_bump ..
  unfold Device.trainingTimeout
  rw [if_pos (by simp [htrain, hstate])]
  simp only [hport]
  rfl

theorem Device.trainingFailed_reads :
    (d.trainingFailed p n).get .portState p n = 0 ∧
      (d.trainingFailed p n).get .trainingFail p n = min (d.get .trainingFail p n + 1) (2 ^ 32 - 1) ∧
      ((d.trainingFailed p n).port p n).failed = (d.port p n).failed + 1 := by
  refine ⟨Device.get_leavePort _ _ _ _ (by decide), ?_, ?_⟩
  · rw [Device.trainingFailed, Device.get_leavePort_obj (by decide)]
    exact Device.get_count_narrow _ _ _ _ _ (by decide)
  · rw [Device.trainingFailed, Device.port_leavePort, Device.port_setPort, if_pos ⟨rfl, rfl⟩]

theorem Device.trainingRetry_of_down (htrain : d.canTrain p n = true) (hdown : d.get .portState p n = 0) :
    d.trainingRetry p n = (d.clearLink p n).setPortState p n 0 :=
  if_pos (by simp [htrain, hdown])

/-! #### The way into UP (R47, R68) -/

/-- A port that has not both sent and received TRAIN_DONE stays in EXCHANGE. -/
theorem Device.tryUp_of_waiting (h : (d.port p n).doneSent = false ∨ (d.port p n).doneRcvd = false) : d.tryUp p n = d :=
  if_neg (by rcases h with h | h <;> simp [h])

/-- A port that has done both is UP once its row backs the limits it grants. -/
theorem Device.get_tryUp (hexchange : d.get .portState p n = 3) (hsent : (d.port p n).doneSent = true)
    (hrcvd : (d.port p n).doneRcvd = true) (hbacks : d.backs p n = true) : (d.tryUp p n).get .portState p n = 4 := by
  unfold Device.tryUp
  extract_lets s v lanes kept e1 e2 e3 e4
  rw [if_pos (by simp [s, hexchange, hsent, hrcvd, hbacks])]
  have hup : e4.get .portState p n = 4 := Device.get_setPortState _ _ _ _ (by decide)
  split
  · rw [Device.get_set_obj _ _ _ _ _ _ _ _ (by decide), hup]
  · exact hup

/-- A row backs the limits of a port as before where the port's limits and counts of received cells stand. -/
theorem Device.backs_setPort {v : PortSt} (hlimits : v.limRx = (d.port p n).limRx) (hrcvd : v.rcvd = (d.port p n).rcvd)
    (hreported : v.reported = (d.port p n).reported) : (d.setPort p n v).backs p n = d.backs p n := by
  have hcredit : ∀ m, ((d.setPort p n v).port p m).unspent = (d.port p m).unspent := fun m => by
    rw [Device.port_setPort]
    split
    · next he => rw [he.2, PortSt.unspent, PortSt.unspent, hlimits, hrcvd, hreported]
    · rfl
  have hunspent : ∀ r, (d.setPort p n v).unspent p r = d.unspent p r := fun r => by
    unfold Device.unspent
    simp only [hcredit]
    rfl
  unfold Device.backs Device.reserveKept
  rw [hunspent, Device.port_setPort, if_pos ⟨rfl, rfl⟩, hlimits]
  rfl

/-! #### Training frames sent (R47) -/

/-- The training frame that a port sends: TRAIN_DONE once three frames have agreed, TRAIN before. -/
def Device.trainFrame (d : Device) (p n : Nat) : Sys2Proof.Frame :=
  (d.peerMk p n { opcode := opCtrl, cls := 5, hops := 1 }).frame (d.trainPayload p n (if (d.port p n).agreed then 2 else 1))

/-- A port once its training frame has left. -/
def PortSt.trainSent (v : PortSt) : PortSt :=
  { v with trainSeq := (v.trainSeq + 1) % 256, doneSent := v.doneSent || v.agreed }

theorem Device.toExchange_of_ne (h : d.get .portState p n ≠ 2) : d.toExchange p n = d := if_neg h

theorem Device.trainTx_eq (hexchange : (d.toExchange p n).get .portState p n = 3) :
    d.trainTx p n =
      ((((d.toExchange p n).calAbortPort p n).emit (.lfl p n ((d.toExchange p n).trainFrame p n))).setPort p n
        ((d.toExchange p n).port p n).trainSent).tryUp p n := by
  have hmsg : ∀ b : Bool, decide ((if b then 2 else 1) = 2) = b := by decide
  unfold Device.trainTx
  extract_lets e s msg m e1 e2
  rw [if_pos hexchange]
  have he2 : e2 = e1.setPort p n (e.port p n).trainSent := by
    simp only [e2, PortSt.trainSent, s, msg, hmsg]
  rw [he2]
  rfl

/-- In EXCHANGE, with no calibration round to abort, nothing happens before the frame leaves. -/
theorem Device.trainTx_of_exchange (hexchange : d.get .portState p n = 3) (hidle : (d.cal p (n / 32)).round = none) :
    d.trainTx p n = ((d.emit (.lfl p n (d.trainFrame p n))).setPort p n (d.port p n).trainSent).tryUp p n := by
  have hsame : d.toExchange p n = d := Device.toExchange_of_ne (by rw [hexchange]; decide)
  rw [Device.trainTx_eq (by rw [hsame, hexchange]), hsame, Device.calAbortPort_of_idle hidle]

/-- With its first training frame a port enters EXCHANGE. -/
theorem Device.get_trainTx_of_fecLock (hlocked : d.get .portState p n = 2) (hrcvd : (d.port p n).doneRcvd = false) :
    (d.trainTx p n).get .portState p n = 3 := by
  have henters : d.toExchange p n = d.setPortState p n 3 := if_pos hlocked
  have hexchange : (d.toExchange p n).get .portState p n = 3 := by
    rw [henters]; exact Device.get_setPortState _ _ _ _ (by decide)
  have hport : (d.toExchange p n).port p n = d.port p n := by rw [henters, Device.port_setPortState]
  have habort : Moves (d.toExchange p n) ((d.toExchange p n).calAbortPort p n) objs_calAbortPort parts_calAbortPort :=
    (Moves.refl ..).calAbortPort (Mask.le_refl _) (Mask.le_refl _)
  rw [Device.trainTx_eq hexchange, Device.tryUp_of_waiting (.inr ?_)]
  · exact (habort.get _ _ _ (by decide)).trans hexchange
  · rw [Device.port_setPort, if_pos ⟨rfl, rfl⟩, hport]
    exact hrcvd

/-! #### Training frames received (R47, R48) -/

/-- A port after a training frame with payload x that the port's checks let in: it agrees with the last where it equals it in all
but MSG and TRAIN_SEQ. -/
def PortSt.trainedBy (v : PortSt) (x : Nat) : PortSt :=
  let key := BitVec.ofNat 256 (setFld (setFld x 248 8 0) 208 8 0)
  let agree := if 0 < v.agree ∧ v.lastTrain = key then v.agree + 1 else 1
  { v with agree := agree, agreed := v.agreed || decide (3 ≤ agree), lastTrain := key,
           doneRcvd := v.doneRcvd || decide (fld x 248 8 = 2) }

theorem Device.trainRx_of_agrees {f : Sys2Proof.Frame} (hplane : fld (bytesToNat f.payload) 234 2 = p)
    (hlanes : (bitsOf 4 (fld (bytesToNat f.payload) 220 4 &&& d.lanes p n)).length = 4) :
    d.trainRx p n f = (d.setPort p n ((d.port p n).trainedBy (bytesToNat f.payload))).tryUp p n := by
  unfold Device.trainRx PortSt.trainedBy
  simp [hplane, hlanes]

/-- A training frame in EXCHANGE that passes the checks and aborts no calibration round. -/
theorem Device.ctrlRx_of_exchange {f : Sys2Proof.Frame} (hexchange : d.get .portState p n = 3)
    (hidle : (d.cal p (n / 32)).round = none) (hpass : d.linkChecks p n f 32 true = (d, true)) :
    d.ctrlRx p n f = d.trainRx p n f := by
  unfold Device.ctrlRx
  simp [hexchange, Device.startBlock_of_idle hidle, hpass, Device.toExchange_of_ne]

/-- A TRAIN_DONE in UP is ignored. -/
theorem Device.ctrlRx_of_up {f : Sys2Proof.Frame} (hup : d.get .portState p n = 4)
    (hidle : (d.cal p (n / 32)).round = none) (hpass : d.linkChecks p n f 32 true = (d, true))
    (hdone : fld (bytesToNat f.payload) 248 8 = 2) : d.ctrlRx p n f = d := by
  unfold Device.ctrlRx
  simp [hup, Device.startBlock_of_idle hidle, hpass, hdone]

/-- A command that has changed one port alone, outputs apart: what the port reads, and that nothing else moves. -/
theorem Device.settle_setPort {e : Device} {v : PortSt} (h : Device.Frame (d.setPort p n v) e noRegs) :
    e.settle.port p n = v ∧ Device.Frame (d.setPort p n (e.settle.port p n)) e.settle noRegs := by
  have hport : e.settle.port p n = v := by
    rw [Device.port_settle, h.port, Device.port_setPort, if_pos ⟨rfl, rfl⟩]
  exact ⟨hport, by rw [hport]; exact h.trans (Device.frame_settle _ _)⟩

/-- A port in EXCHANGE that has not received TRAIN_DONE sends its training frame and stays there. -/
theorem Device.trainTx_sends (hexchange : d.get .portState p n = 3) (hidle : (d.cal p (n / 32)).round = none)
    (hrcvd : (d.port p n).doneRcvd = false) :
    let e := (d.trainTx p n).settle
    d.Sends e (.lfl p n (d.trainFrame p n)) ∧ e.port p n = (d.port p n).trainSent ∧
      Device.Frame (d.setPort p n (e.port p n)) e noRegs := by
  intro e
  have hwaits : (((d.emit (.lfl p n (d.trainFrame p n))).setPort p n (d.port p n).trainSent).port p n).doneRcvd = false := by
    rw [Device.port_setPort, if_pos ⟨rfl, rfl⟩]
    exact hrcvd
  have hstays : d.trainTx p n = (d.emit (.lfl p n (d.trainFrame p n))).setPort p n (d.port p n).trainSent := by
    rw [Device.trainTx_of_exchange hexchange hidle, Device.tryUp_of_waiting (.inr hwaits)]
  have hemits : Device.Frame (d.setPort p n (d.port p n).trainSent) (d.trainTx p n) noRegs :=
    hstays ▸ Device.frame_emit (d.setPort p n _) _ noRegs
  have hsends : d.Sends (d.trainTx p n) (.lfl p n (d.trainFrame p n)) := hstays ▸ ⟨[_], rfl, List.mem_singleton.mpr rfl⟩
  exact ⟨hsends.after (Device.frame_settle _ noRegs), Device.settle_setPort hemits⟩

/-- A port in EXCHANGE that has received TRAIN_DONE is UP once it sends its own, where its row backs its limits. -/
theorem Device.get_trainTx_up (hexchange : d.get .portState p n = 3) (hidle : (d.cal p (n / 32)).round = none)
    (hrcvd : (d.port p n).doneRcvd = true) (hagreed : (d.port p n).agreed = true) (hbacks : d.backs p n = true) :
    (d.trainTx p n).get .portState p n = 4 := by
  have hport : ∀ v, ((d.emit (.lfl p n (d.trainFrame p n))).setPort p n v).port p n = v := fun v => by
    rw [Device.port_setPort, if_pos ⟨rfl, rfl⟩]
  have hemit : (d.emit (.lfl p n (d.trainFrame p n))).backs p n = d.backs p n := rfl
  rw [Device.trainTx_of_exchange hexchange hidle]
  refine Device.get_tryUp hexchange ?_ ?_ ?_
  · rw [hport]; simp [PortSt.trainSent, hagreed]
  · rw [hport]; exact hrcvd
  · rw [Device.backs_setPort, hemit, hbacks] <;> rfl

end

/-! #### The commands -/

section
variable {s : State} (p : Plane) (n : Port) (f : Frame)

theorem exec_cdrLock (h : s.dev.live p = true) : exec (.cdrLock p n) s = .next { s with dev := (s.dev.cdrLock p n).settle } := by
  show execCdrLock p n s = _
  exact State.runOn_next h

theorem exec_fecLock (h : s.dev.live p = true) : exec (.fecLock p n) s = .next { s with dev := (s.dev.fecLock p n).settle } := by
  show execFecLock p n s = _
  exact State.runOn_next h

theorem exec_trainTxTimer (h : s.dev.live p = true) :
    exec (.trainTxTimer p n) s = .next { s with dev := (s.dev.trainTx p n).settle } := by
  show execTrainTxTimer p n s = _
  exact State.runOn_next h

theorem exec_train (h : s.dev.live p = true) : exec (.train p n f) s = .next { s with dev := (s.dev.ctrlRx p n f).settle } := by
  show execTrain p n f s = _
  exact State.runOn_next h

theorem exec_trainDone (h : s.dev.live p = true) : exec (.trainDone p n f) s = .next { s with dev := (s.dev.ctrlRx p n f).settle } := by
  show execTrainDone p n f s = _
  exact State.runOn_next h

theorem exec_trainingTimeout (h : s.dev.live p = true) :
    exec (.trainingTimeout p n) s = .next { s with dev := (s.dev.trainingTimeout p n).settle } := by
  show execTrainingTimeout p n s = _
  exact State.runOn_next h

theorem exec_trainingRetryTimer (h : s.dev.live p = true) :
    exec (.trainingRetryTimer p n) s = .next { s with dev := (s.dev.trainingRetry p n).settle } := by
  show execTrainingRetryTimer p n s = _
  exact State.runOn_next h

end

/-- Settles O3: light, codewords and the timers by what each does to a port that stands where it acts (`cdrLock_of_down`,
`fecLock_of_optical`, `trainingFailed_reads`, `trainingRetry_of_down`); a training frame sent or received changes the port alone
(`trainTx_of_exchange`, `trainRx_of_agrees`), and then UP follows or not by `get_tryUp` and `tryUp_of_waiting`. -/
theorem portTraining : Obligations.PortTraining := by
  intro s p n f hlive frames
  refine ⟨fun htrain hdown => ?cdr, fun htrain hoptical => ?fec, fun htrain hstate => ?timeout, fun htrain hdown => ?retry,
    fun hidle => ⟨fun hlocked hrcvd => ?enters, fun hexchange hrcvd => ?sends, fun hexchange hrcvd hagreed hbacks => ?sendsUp,
      fun hup hpass hmsg => ?ignored, fun hexchange hpass hplane hlanes => ?received⟩⟩
  case cdr =>
    refine ⟨_, exec_cdrLock p n hlive, rfl, ?_⟩
    rw [Device.cdrLock_of_down htrain hdown]
    refine ⟨(Device.get_settle _ _ _ _ rfl).trans (Device.get_setPortState _ _ _ _ (by decide)),
      (Device.ports_settle _).trans (Device.ports_setPortState_lightSeen 1), fun k hk => ?_, fun q m hne => ?_⟩
    · show ((Device.settle _).toned p (n / 32)).contains k = (s.dev.toned p (n / 32)).contains k
      rw [Device.toned_settle, Device.toned_setPortState, Device.toned_lightSeen s.dev p n (fun h => hk (Fin.ext h))]
    · rw [Device.get_settle _ _ _ _ rfl, Device.get_setPortState_ne _ _ _ _ _ _ hne]
      exact Device.moves_lightSeen.get _ _ _ (by decide)
  case fec =>
    refine ⟨_, exec_fecLock p n hlive, rfl, ?_⟩
    rw [Device.fecLock_of_optical htrain hoptical]
    refine ⟨(Device.get_settle _ _ _ _ rfl).trans (Device.get_setPortState _ _ _ _ (by decide)), ?_, fun q m hne => ⟨?_, ?_⟩⟩
    · rw [Device.port_settle, Device.port_setPortState, Device.port_setPort, if_pos ⟨rfl, rfl⟩, Device.fecLocked, Device.loadLimits_eq]
    · rw [Device.get_settle _ _ _ _ rfl, Device.get_setPortState_ne _ _ _ _ _ _ hne]
      rfl
    · rw [Device.port_settle, Device.port_setPortState, Device.port_setPort, if_neg (by omega)]
  case timeout =>
    obtain ⟨hdown, hcount, hfailed⟩ := Device.trainingFailed_reads (d := s.dev) (p := p) (n := n)
    refine ⟨_, exec_trainingTimeout p n hlive, rfl, ?_⟩
    rw [Device.trainingTimeout_of_training htrain hstate, Device.get_settle _ _ _ _ rfl, Device.get_settle _ _ _ _ rfl,
      Device.get_settle _ _ _ _ rfl, Device.port_settle]
    split
    · exact ⟨(Device.get_latch_obj _ _ _ _ _ _ _ _ (by decide) (by decide) (by decide)).trans hdown,
        (Device.get_latch_obj _ _ _ _ _ _ _ _ (by decide) (by decide) (by decide)).trans hcount,
        (congrArg PortSt.failed (Device.port_latch ..)).trans hfailed, fun _ => Device.bit_latch _ _ _ _ _ (by decide)⟩
    · next hfew => exact ⟨hdown, hcount, hfailed, fun hmany => absurd hmany (by omega)⟩
  case retry =>
    refine ⟨_, exec_trainingRetryTimer p n hlive, rfl, ?_⟩
    rw [Device.trainingRetry_of_down htrain hdown]
    refine ⟨(Device.get_settle _ _ _ _ rfl).trans (Device.get_setPortState _ _ _ _ (by decide)), ?_⟩
    rw [Device.port_settle, Device.port_setPortState]
    unfold Device.clearLink
    rw [Device.port_setPort, if_pos ⟨rfl, rfl⟩]
  case enters =>
    exact ⟨_, exec_trainTxTimer p n hlive, (Device.get_settle _ _ _ _ rfl).trans (Device.get_trainTx_of_fecLock hlocked hrcvd)⟩
  case sends =>
    obtain ⟨hsends, hport, hframe⟩ := Device.trainTx_sends hexchange hidle hrcvd
    exact ⟨_, exec_trainTxTimer p n hlive, rfl, hsends, hport, hframe⟩
  case sendsUp =>
    exact ⟨_, exec_trainTxTimer p n hlive,
      (Device.get_settle _ _ _ _ rfl).trans (Device.get_trainTx_up hexchange hidle hrcvd hagreed hbacks)⟩
  case ignored =>
    refine ⟨_, exec_trainDone p n f hlive, ?_⟩
    rw [Device.ctrlRx_of_up hup hidle hpass hmsg]
    exact Device.frame_settle _ _
  case received =>
    intro key agree took
    have hctrl := (Device.ctrlRx_of_exchange hexchange hidle hpass).trans (Device.trainRx_of_agrees hplane hlanes)
    have hport : (s.dev.setPort p n ((s.dev.port p n).trainedBy (bytesToNat f.payload))).port p n =
        (s.dev.port p n).trainedBy (bytesToNat f.payload) := by
      rw [Device.port_setPort, if_pos ⟨rfl, rfl⟩]
    have htook := Device.settle_setPort (Device.Frame.refl (s.dev.setPort p n ((s.dev.port p n).trainedBy (bytesToNat f.payload))) noRegs)
    refine ⟨fun hmsg hsent => ?train, fun hmsg hsent => ?done, fun hmsg hsent hbacks => ?doneUp⟩
    case train =>
      refine ⟨_, exec_train p n f hlive, rfl, ?_⟩
      rw [hctrl, Device.tryUp_of_waiting (.inl (by rw [hport]; exact hsent))]
      refine ⟨htook.1.trans ?_, htook.2⟩
      simp [PortSt.trainedBy, hmsg, took, agree, key]
    case done =>
      refine ⟨_, exec_trainDone p n f hlive, rfl, ?_⟩
      rw [hctrl, Device.tryUp_of_waiting (.inl (by rw [hport]; exact hsent))]
      refine ⟨htook.1.trans ?_, htook.2⟩
      simp [PortSt.trainedBy, hmsg, took, agree, key]
    case doneUp =>
      refine ⟨_, exec_trainDone p n f hlive, (Device.get_settle _ _ _ _ rfl).trans ?_⟩
      rw [hctrl]
      refine Device.get_tryUp hexchange ?_ ?_ ?_
      · rw [hport]; exact hsent
      · rw [hport]; simp [PortSt.trainedBy, hmsg]
      · rw [Device.backs_setPort, hbacks] <;> rfl

end Sys2Proof.Machine

/-! ### Bypass windows (spec/03 R61, spec/14 R324, R326, R327) -/

namespace Sys2Proof.Machine

/-! #### The length of a frame that the device makes -/

/-- A field of a header that stands above HDR_CRC is that of the header before it was sealed. -/
theorem fld_seal (f : Sys2Proof.Frame) {lo w : Nat} (h : 16 ≤ lo) : f.seal.fld lo w = f.fld lo w := by
  have hlow : ∀ v c : Nat, setFld v 0 16 c / 2 ^ 16 = v / 2 ^ 16 := fun v c => by
    simp only [setFld, fld, pow_zero, Nat.div_one, mul_one]
    omega
  have hhigh : ∀ v c : Nat, setFld v 0 16 c / 2 ^ lo = v / 2 ^ lo := fun v c => by
    rw [show 2 ^ lo = 2 ^ 16 * 2 ^ (lo - 16) by rw [← pow_add]; congr 1; omega, ← Nat.div_div_eq_div_mul, hlow, Nat.div_div_eq_div_mul]
  have hfit : setFld f.hdr.toNat 0 16 (crc16 (f.hdrBytes.take 30)) < 2 ^ 256 := by
    have hbound := f.hdr.isLt
    simp only [setFld, fld, pow_zero, Nat.div_one, mul_one]
    omega
  simp only [Frame.fld, Frame.seal, Frame.setFld, setHdr, BitVec.extractLsb'_toNat, Nat.shiftRight_eq_div_pow, BitVec.toNat_ofNat,
    Nat.mod_eq_of_lt hfit, hhigh]

/-- The field of 13 bits from bit 128 on. -/
theorem mod_div_mod_of_split (a b l : Nat) (hb : b < 2 ^ 128) (hl : l < 2 ^ 13) :
    (a * 2 ^ 141 + l * 2 ^ 128 + b) % 2 ^ 256 / 2 ^ 128 % 2 ^ 13 = l := by
  omega

theorem fld_of_header (v lo w : Nat) (b : Bytes) (t : BitVec 32) :
    (Sys2Proof.Frame.mk (BitVec.ofNat 256 v) b t).fld lo w = v % 2 ^ 256 / 2 ^ lo % 2 ^ w := by
  simp only [Frame.fld, BitVec.extractLsb'_toNat, Nat.shiftRight_eq_div_pow, BitVec.toNat_ofNat]

/-- LENGTH of a frame that the device makes. -/
theorem Mk.length_frame (m : Mk) (b : Bytes) : (m.frame b).length = b.length % 8192 := by
  unfold Mk.frame
  extract_lets h
  have hsplit : h = (m.opcode % 64 * 2 ^ 109 + m.cls % 8 * 2 ^ 106 + m.flags % 128 * 2 ^ 99 + m.tenant % 4096 * 2 ^ 87 +
      m.hops % 16 * 2 ^ 83 + m.destDevice % 4096 * 2 ^ 71 + m.destPlane % 4 * 2 ^ 69 + m.destPort % 256 * 2 ^ 59 +
      m.ecn % 4 * 2 ^ 57 + m.format % 64 * 2 ^ 51 + m.srcDevice % 4096 * 2 ^ 39 + m.srcPort % 256 * 2 ^ 27 +
      m.context % 65536 * 2 ^ 3) * 2 ^ 141 + b.length % 8192 * 2 ^ 128 +
      (m.flowSeq % 2 ^ 24 * 2 ^ 104 + m.offset % 2 ^ 32 * 2 ^ 64 + m.linkSeq % 4096 * 2 ^ 52) := by
    simp only [h]; ring
  have hrest : m.flowSeq % 2 ^ 24 * 2 ^ 104 + m.offset % 2 ^ 32 * 2 ^ 64 + m.linkSeq % 4096 * 2 ^ 52 < 2 ^ 128 := by omega
  rw [Frame.length, fld_seal _ (by decide), fld_of_header, hsplit]
  exact mod_div_mod_of_split _ _ _ hrest (Nat.mod_lt _ (by decide))

/-! #### The preamble (R61) -/

/-- The header-only BYPASS_PREAMBLE frame of a port. -/
def Device.preambleFrame (d : Device) (p n : Nat) : Sys2Proof.Frame :=
  (d.peerMk p n { opcode := opPreamble, cls := 5, hops := 1 }).frame []

/-- From `d` to `e` a port at 200 Gb/s has sent its preamble, of at least 50 frames. -/
def Device.Preambles (d e : Device) (p n : Nat) : Prop :=
  ∃ l, e.out = d.out ++ l ∧ (d.get .portRate p n ≠ 1 → 50 ≤ l.count (.lfl p n (d.preambleFrame p n)))

section
variable {d e f : Device} {p n : Nat}

theorem Device.out_emit_foldl (x : Out) (l : List Nat) (d : Device) :
    (l.foldl (fun d _ => d.emit x) d).out = d.out ++ List.replicate l.length x := by
  induction l generalizing d with
  | nil => simp
  | cons a r ih => rw [List.foldl_cons, ih, List.length_cons, List.replicate_succ]; simp [Device.emit]

/-- A preamble frame is a header alone. -/
theorem Device.bytes_preambleFrame : (d.preambleFrame p n).bytes = 32 := by
  have hlength : (d.preambleFrame p n).length = 0 := Mk.length_frame _ []
  rw [Frame.bytes, hlength]
  rfl

theorem Device.preambles_sendPreamble : d.Preambles (d.sendPreamble p n) p n := by
  refine ⟨_, Device.out_emit_foldl _ _ d, fun hrate => ?_⟩
  have hfast : 200000 ≤ d.rate p n := by
    unfold Device.rate
    rw [if_neg hrate]
    split <;> decide
  have hcount : 50 ≤ ceilDiv (64 * d.rate p n) (8000 * (d.preambleFrame p n).bytes) := by
    rw [Device.bytes_preambleFrame]
    unfold ceilDiv
    omega
  rw [List.length_range]
  exact hcount.trans List.count_replicate_self.ge

theorem Device.Preambles.after (h : d.Preambles e p n) (k : ∃ l, f.out = e.out ++ l) : d.Preambles f p n := by
  obtain ⟨l, hl, hcount⟩ := h
  obtain ⟨m, hm⟩ := k
  exact ⟨l ++ m, by rw [hm, hl, List.append_assoc], fun hrate => by rw [List.count_append]; exact Nat.le_add_right_of_le (hcount hrate)⟩

theorem Device.moves_sendPreamble : Moves d (d.sendPreamble p n) objs_sendPreamble parts_sendPreamble :=
  (Moves.refl ..).sendPreamble (Mask.le_refl _) (Mask.le_refl _)

/-- What comes before a preamble and keeps the port's peer and rate may be taken with it. -/
theorem Device.Preambles.before (h : ∃ l, e.out = d.out ++ l) (hpeer : e.get .peerId p n = d.get .peerId p n)
    (hdevice : e.get .deviceIdActive 4 p = d.get .deviceIdActive 4 p) (hrate : e.get .portRate p n = d.get .portRate p n)
    (k : e.Preambles f p n) : d.Preambles f p n := by
  have hframe : e.preambleFrame p n = d.preambleFrame p n := by
    unfold Device.preambleFrame Device.peerMk Device.devId
    rw [hpeer, hdevice]
  obtain ⟨l, hl⟩ := h
  obtain ⟨m, hm, hcount⟩ := k
  refine ⟨l ++ m, by rw [hm, hl, List.append_assoc], fun hfast => ?_⟩
  rw [List.count_append, ← hframe]
  exact Nat.le_add_left_of_le (hcount (hrate.trans_ne hfast))

/-! #### A window opens (R324, R327) -/

/-- UP and BYPASS keep the rate of a port. -/
theorem Device.get_portRate_setPortState {v : Nat} (hv : v = 4 ∨ v = 5) (q m : Nat) :
    (d.setPortState p n v).get .portRate q m = d.get .portRate q m := by
  have hsvc : ∀ e : Device, (e.svcUpdate p n).get .portRate q m = e.get .portRate q m := fun e =>
    ((Moves.refl e objs_svcUpdate parts_svcUpdate).svcUpdate (Mask.le_refl _) (Mask.le_refl _)).get _ _ _ (by decide)
  have habort : (d.calAbortPort p n).get .portRate q m = d.get .portRate q m :=
    ((Moves.refl d objs_calAbortPort parts_calAbortPort).calAbortPort (Mask.le_refl _) (Mask.le_refl _)).get _ _ _ (by decide)
  unfold Device.setPortState
  rw [hsvc, if_pos (by simpa using hv), Device.get_set_obj _ _ _ _ _ _ _ _ (by decide)]
  split
  · rfl
  · exact habort

/-- A port's link state as it freezes in a window. -/
def PortSt.opened (v : PortSt) : PortSt := { v with window := true, winTx := 0, winRx := 0 }

theorem Device.port_openPort (q m : Nat) :
    (d.openPort p n).port q m = if q = p ∧ m = n then (d.port p n).opened else d.port q m := by
  unfold Device.openPort
  rw [Device.port_svcUpdate, Device.port_setPort, Device.port_setPortState, Device.port_setPortState]
  rfl

theorem Device.state_openPort (q m : Nat) :
    (d.openPort p n).get .portState q m = if q = p ∧ m = n then 5 else d.get .portState q m := by
  have hset : ∀ (e : Device) v, ((e.setPort p n v).svcUpdate p n).get .portState q m = e.get .portState q m := fun e v =>
    Device.get_svcUpdate (e.setPort p n v) p n q m
  unfold Device.openPort
  rw [hset]
  split
  · next h => rw [h.1, h.2]; exact Device.get_setPortState _ _ _ _ (by decide)
  · next h => exact Device.get_setPortState_ne _ _ _ _ _ _ (by omega)

theorem Device.moves_openPort : Moves d (d.openPort p n) objs_openPort parts_openPort :=
  (Moves.refl ..).openPort (Mask.le_refl _) (Mask.le_refl _)

theorem Device.rate_openPort (q m : Nat) : (d.openPort p n).get .portRate q m = d.get .portRate q m := by
  have hset : ∀ (e : Device) v, ((e.setPort p n v).svcUpdate p n).get .portRate q m = e.get .portRate q m := fun e v =>
    ((Moves.refl (e.setPort p n v) objs_svcUpdate parts_svcUpdate).svcUpdate (Mask.le_refl _) (Mask.le_refl _)).get _ _ _ (by decide)
  unfold Device.openPort
  rw [hset, Device.get_portRate_setPortState (.inr rfl)]

/-- Both ports of a circuit stand open, and what waited for an acknowledgement waits still. -/
structure OpensBoth (p n m : Nat) (d e : Device) : Prop where
  state : e.get .portState p n = 5
  state' : e.get .portState p m = 5
  window : (e.port p n).window = true
  window' : (e.port p m).window = true
  unacked : (e.port p n).unacked = (d.port p n).unacked
  windows : e.get .bypWindows p 0 = d.get .bypWindows p 0

theorem Device.opensBoth_openPort (m : Nat) : OpensBoth p n m d ((d.openPort p n).openPort p m) := by
  have hfirst : (d.openPort p n).port p n = (d.port p n).opened := (Device.port_openPort ..).trans (if_pos ⟨rfl, rfl⟩)
  have hstate : (d.openPort p n).get .portState p n = 5 := (Device.state_openPort ..).trans (if_pos ⟨rfl, rfl⟩)
  have hcount : ∀ (e : Device) k, (e.openPort p k).get .bypWindows p 0 = e.get .bypWindows p 0 := fun e k =>
    Device.moves_openPort.get _ _ _ (by decide)
  have hport : ((d.openPort p n).openPort p m).port p n =
      if p = p ∧ n = m then ((d.openPort p n).port p m).opened else (d.port p n).opened := by
    rw [Device.port_openPort, hfirst]
  have hstate' : ((d.openPort p n).openPort p m).get .portState p m = 5 := (Device.state_openPort ..).trans (if_pos ⟨rfl, rfl⟩)
  have hport' : ((d.openPort p n).openPort p m).port p m = ((d.openPort p n).port p m).opened :=
    (Device.port_openPort ..).trans (if_pos ⟨rfl, rfl⟩)
  refine ⟨?_, hstate', ?_, congrArg PortSt.window hport', ?_, (hcount ..).trans (hcount ..)⟩
  · rw [Device.state_openPort, hstate, ite_self]
  · rw [hport]
    split <;> rfl
  · rw [hport]
    split
    · next h => rw [← h.2, hfirst]; rfl
    · rfl

/-- An endpoint stands open behind its preamble. -/
theorem Device.opens_sendPreamble :
    let e := (d.openPort p n).sendPreamble p n
    e.get .portState p n = 5 ∧ (e.port p n).window = true ∧ d.Preambles e p n := by
  intro e
  have hopen := Device.moves_openPort (d := d) (p := p) (n := n)
  have hsends := Device.moves_sendPreamble (d := d.openPort p n) (p := p) (n := n)
  have hstate : (d.openPort p n).get .portState p n = 5 := (Device.state_openPort ..).trans (if_pos ⟨rfl, rfl⟩)
  have hport : (d.openPort p n).port p n = (d.port p n).opened := (Device.port_openPort ..).trans (if_pos ⟨rfl, rfl⟩)
  refine ⟨(hsends.get _ _ _ (by decide)).trans hstate, ?_, ?_⟩
  · rw [hsends.port (by decide), hport]
    rfl
  · exact .before hopen.out (hopen.get _ _ _ (by decide)) (hopen.get _ _ _ (by decide)) (Device.rate_openPort ..)
      Device.preambles_sendPreamble

/-- A port in UP whose peer relocks. -/
def Device.readyFor (d : Device) (p n : Nat) : Bool := d.get .portState p n = 4 && d.peerRelocks p n

/-- A bypass entry is in force on a port that may follow it. -/
def Device.entersWindow (d : Device) (p n : Nat) : Bool :=
  d.live p && (d.outp p n).enabled && !(d.outp p n).bypClosed && entryByp (d.gateIn p n 0).1 && d.readyFor p n

/-- On the switching side both ports of a windowed circuit open, counted once. -/
theorem Device.windowStart_of_circuit {m : Nat} (henters : d.entersWindow p n = true) (hpartner : d.bypPartner p n = some m)
    (hwindowed : d.bypWindowed p n = true) (hready : d.readyFor p m = true) :
    d.windowStart p n = ((d.openPort p n).openPort p m).bump .bypWindows p 0 := by
  have hgoes : (!d.entersWindow p n) = false := by rw [henters]; rfl
  have hboth : (d.bypWindowed p n && d.readyFor p m) = true := by rw [hwindowed, hready]; rfl
  unfold Device.entersWindow Device.readyFor at hgoes
  unfold Device.readyFor at hboth
  unfold Device.windowStart
  simp only [hgoes, hpartner, hboth, Bool.false_eq_true, if_false, if_true]

/-- An endpoint opens alone and sends its preamble. -/
theorem Device.windowStart_of_endpoint (henters : d.entersWindow p n = true) (hpartner : d.bypPartner p n = none)
    (hendpoint : d.isEndpoint p n = true) : d.windowStart p n = (d.openPort p n).sendPreamble p n := by
  have hgoes : (!d.entersWindow p n) = false := by rw [henters]; rfl
  unfold Device.entersWindow Device.readyFor at hgoes
  unfold Device.windowStart
  simp only [hgoes, hpartner, hendpoint, Bool.false_eq_true, if_false, if_true]

/-! #### A window closes (R324, R330) -/

/-- A port's link state as it thaws. -/
def PortSt.closed (v : PortSt) : PortSt := { v with window := false, winTx := 0, winRx := 0, linkQ := [] }

/-- A port in UP again behind its preamble. -/
def Device.reopened (d : Device) (p n : Nat) : Device :=
  ((d.setPort p n (d.port p n).closed).sendPreamble p n).setPortState p n 4

/-- A port whose window closes with nothing that holds it down: the link frames that waited leave. -/
theorem Device.closePort_of_window (hwindow : (d.port p n).window = true) (hfree : (d.port p n).holdDown = 0) :
    d.closePort p n = (d.port p n).linkQ.foldl (fun d f => d.sendLink p n f) (d.reopened p n) := by
  unfold Device.closePort
  extract_lets s q e1 e2
  rw [if_neg (by simp [s, hwindow]), if_neg (by simp [s, hfree]), if_neg (by simp [s, hfree])]
  rfl

theorem Device.closePort_of_no_window (h : (d.port p n).window = false) : d.closePort p n = d := if_pos (by simp [h])

/-- The link frames that waited leave a port in UP as it is. -/
theorem Device.port_sendLink_foldl (l : List Sys2Proof.Frame) (d : Device) (h : d.get .portState p n ≠ 5) (q m : Nat) :
    (l.foldl (fun d f => d.sendLink p n f) d).port q m = d.port q m := by
  induction l generalizing d with
  | nil => rfl
  | cons a r ih =>
    have hstate : (d.sendLink p n a).get .portState p n = d.get .portState p n :=
      ((Moves.refl d objs_sendLink parts_sendLink).sendLink (Mask.le_refl _) (Mask.le_refl _)).get _ _ _ (by decide)
    rw [List.foldl_cons, ih _ (hstate.trans_ne h), Device.port_sendLink h]

theorem Device.moves_sendLink_foldl (l : List Sys2Proof.Frame) (d : Device) :
    Moves d (l.foldl (fun d f => d.sendLink p n f) d) objs_sendLink parts_sendLink :=
  (Moves.refl ..).foldl (fun _ _ => (Moves.refl ..).sendLink (Mask.le_refl _) (Mask.le_refl _))

theorem Device.port_reopened (q m : Nat) :
    (d.reopened p n).port q m = if q = p ∧ m = n then (d.port p n).closed else d.port q m := by
  unfold Device.reopened
  rw [Device.port_setPortState, Device.moves_sendPreamble.port (by decide), Device.port_setPort]

theorem Device.state_reopened (q m : Nat) :
    (d.reopened p n).get .portState q m = if q = p ∧ m = n then 4 else d.get .portState q m := by
  unfold Device.reopened
  split
  · next h => rw [h.1, h.2]; exact Device.get_setPortState _ _ _ _ (by decide)
  · next h =>
    rw [Device.get_setPortState_ne _ _ _ _ _ _ (by omega)]
    exact Device.moves_sendPreamble.get _ _ _ (by decide)

theorem Device.rate_reopened (q m : Nat) : (d.reopened p n).get .portRate q m = d.get .portRate q m :=
  (Device.get_portRate_setPortState (.inl rfl) q m).trans (Device.moves_sendPreamble.get _ _ _ (by decide))

/-- What closing a port's window, with nothing that holds it down, does to the ports and their rates. -/
structure ClosesWindow (p n : Nat) (d e : Device) : Prop where
  port : ∀ q m, e.port q m = if q = p ∧ m = n then (d.port p n).closed else d.port q m
  state : ∀ q m, e.get .portState q m = if q = p ∧ m = n then 4 else d.get .portState q m
  rate : ∀ q m, e.get .portRate q m = d.get .portRate q m
  preambles : d.Preambles e p n

theorem Device.closesWindow_closePort (hwindow : (d.port p n).window = true) (hfree : (d.port p n).holdDown = 0) :
    ClosesWindow p n d (d.closePort p n) := by
  have hsends := Device.moves_sendLink_foldl (p := p) (n := n) (d.port p n).linkQ (d.reopened p n)
  have hup : (d.reopened p n).get .portState p n = 4 := (Device.state_reopened p n).trans (if_pos ⟨rfl, rfl⟩)
  have hout : ∃ l, (d.reopened p n).out = ((d.setPort p n (d.port p n).closed).sendPreamble p n).out ++ l :=
    ((Moves.refl _ objs_setPortState parts_setPortState).setPortState (Mask.le_refl _) (Mask.le_refl _)).out
  rw [Device.closePort_of_window hwindow hfree]
  constructor
  · exact fun q m => (Device.port_sendLink_foldl _ _ (by rw [hup]; decide) q m).trans (Device.port_reopened q m)
  · exact fun q m => (hsends.get _ _ _ (by decide)).trans (Device.state_reopened q m)
  · exact fun q m => (hsends.get _ _ _ (by decide)).trans (Device.rate_reopened q m)
  · exact ((Device.preambles_sendPreamble (d := d.setPort p n (d.port p n).closed)).after hout).after hsends.out

/-- Both ports of a circuit close, each behind its preamble. -/
theorem Device.windowEnd_of_circuit {m : Nat} (hpartner : d.bypPartner p n = some m) (hwindow : (d.port p n).window = true)
    (hfree : (d.port p n).holdDown = 0) (hwindow' : (d.port p m).window = true) (hfree' : (d.port p m).holdDown = 0) :
    let e := d.windowEnd p n
    e.get .portState p n = 4 ∧ e.get .portState p m = 4 ∧ (e.port p n).window = false ∧ (e.port p m).window = false ∧
      d.Preambles e p n ∧ d.Preambles e p m := by
  intro e
  have hboth : e = (d.closePort p n).closePort p m := by simp only [e, Device.windowEnd, hpartner]
  have hfirst := Device.closesWindow_closePort hwindow hfree
  have hport : (d.closePort p n).port p n = (d.port p n).closed := (hfirst.port p n).trans (if_pos ⟨rfl, rfl⟩)
  have hstate : (d.closePort p n).get .portState p n = 4 := (hfirst.state p n).trans (if_pos ⟨rfl, rfl⟩)
  by_cases hm : m = n
  · subst hm
    have hsame : e = d.closePort p m := hboth.trans (Device.closePort_of_no_window (by rw [hport]; rfl))
    rw [hsame, hport]
    exact ⟨hstate, hstate, rfl, rfl, hfirst.preambles, hfirst.preambles⟩
  · have hmoves : Moves d (d.closePort p n) objs_closePort parts_closePort :=
      (Moves.refl ..).closePort (Mask.le_refl _) (Mask.le_refl _)
    have hother : (d.closePort p n).port p m = d.port p m := (hfirst.port p m).trans (if_neg (by simp [hm]))
    have hsecond := Device.closesWindow_closePort (d := d.closePort p n) (p := p) (n := m) (by rw [hother, hwindow']) (by rw [hother, hfree'])
    have hout : ∃ l, ((d.closePort p n).closePort p m).out = (d.closePort p n).out ++ l :=
      ((Moves.refl _ objs_closePort parts_closePort).closePort (Mask.le_refl _) (Mask.le_refl _)).out
    have hkept : ((d.closePort p n).closePort p m).port p n = (d.port p n).closed :=
      (hsecond.port p n).trans ((if_neg (by simp [Ne.symm hm])).trans hport)
    have hclosed := (hsecond.port p m).trans (if_pos ⟨rfl, rfl⟩)
    rw [hboth, hkept, hclosed]
    exact ⟨(hsecond.state p n).trans ((if_neg (by simp [Ne.symm hm])).trans hstate), (hsecond.state p m).trans (if_pos ⟨rfl, rfl⟩),
      rfl, rfl, hfirst.preambles.after hout, .before hmoves.out (hmoves.get _ _ _ (by decide)) (hmoves.get _ _ _ (by decide))
        (hfirst.rate p m) hsecond.preambles⟩

/-! #### Window frames (R326) -/

/-- Checks 1 and 4 to 9 of a window frame. -/
def Device.windowOk (d : Device) (p n : Nat) (f : Sys2Proof.Frame) : Bool :=
  f.crcOk && decide (d.verdict p f (d.boundTo p n f) = .pass) && !d.outOfPart p n f && decide (f.trailerCheck = .good)

/-- The cells of a frame beyond the window's. -/
def Device.windowExcess (d : Device) (p n : Nat) (f : Sys2Proof.Frame) : Nat :=
  min f.cells ((d.port p n).winRx + f.cells - d.get .bypWinCells p (bypIx n))

/-- A port that has received a frame in its window. -/
def PortSt.winTook (v : PortSt) (f : Sys2Proof.Frame) : PortSt := { v with winRx := v.winRx + f.cells }

theorem Device.windowFrame_eq {f : Sys2Proof.Frame} (h : d.sendsWindow p n = true) : d.windowFrame p n f =
    if d.windowOk p n f then
      if d.windowExcess p n f > 0 then (d.setPort p n ((d.port p n).winTook f)).count .bypWinOverrun p 0 (d.windowExcess p n f)
      else ((((d.setPort p n ((d.port p n).winTook f)).notIdle p n).bump .rxFrames p n).count .rxBytes p n f.bytes).windowIntake p n f
    else d.bump .bypWinRxErr p 0 := by
  have hfails : (!f.crcOk || decide (d.verdict p f (d.boundTo p n f) ≠ .pass) || d.outOfPart p n f ||
      decide (f.trailerCheck ≠ .good)) = !d.windowOk p n f := by
    simp [Device.windowOk, Bool.not_and]
  unfold Device.windowFrame
  simp only [h, Bool.not_true, Bool.false_eq_true, if_false, hfails]
  cases d.windowOk p n f <;> rfl

/-- A window frame returns no credit: the port's own link state stands as it was. -/
theorem Device.port_windowIntake {f : Sys2Proof.Frame} : (d.windowIntake p n f).port p n = d.port p n := by
  unfold Device.windowIntake
  rw [Device.port_setPort, if_pos ⟨rfl, rfl⟩]

/-- A window frame that is taken is counted as accepted. -/
theorem Device.windowTaken {f : Sys2Proof.Frame} :
    let e := (((d.notIdle p n).bump .rxFrames p n).count .rxBytes p n f.bytes).windowIntake p n f
    e.port p n = d.port p n ∧ e.get .rxFrames p n = (d.get .rxFrames p n + 1) % 2 ^ 64 ∧
      e.get .rxBytes p n = (d.get .rxBytes p n + f.bytes) % 2 ^ 64 := by
  intro e
  have hidle : Moves d (d.notIdle p n) objs_notIdle parts_notIdle := (Moves.refl ..).notIdle (Mask.le_refl _) (Mask.le_refl _)
  have hintake : Moves _ e objs_windowIntake parts_windowIntake := (Moves.refl _ _ _).windowIntake (Mask.le_refl _) (Mask.le_refl _)
  refine ⟨?_, ?_, ?_⟩
  · exact ((Device.port_windowIntake.trans (Device.port_count ..)).trans (Device.port_bump ..)).trans (hidle.port (by decide) p n)
  · rw [hintake.get _ _ _ (by decide), Device.get_count_obj _ _ _ _ _ _ _ _ (by decide), Device.bump,
      Device.get_count_wide _ _ _ _ _ rfl, hidle.get _ _ _ (by decide)]
  · rw [hintake.get _ _ _ (by decide), Device.get_count_wide _ _ _ _ _ rfl, Device.get_bump_obj _ _ _ _ _ _ _ (by decide),
      hidle.get _ _ _ (by decide)]

end

/-! #### The commands -/

section
variable {s : State} (p : Plane) (n : Port) (f : Frame)

theorem exec_bypassWindowStart (h : s.dev.carries p = true) :
    exec (.bypassWindowStart p n) s = .next { s with dev := (s.dev.windowStart p n).settle } := by
  show execBypassWindowStart p n s = _
  exact State.carry_next h

theorem exec_bypassWindowEnd (h : s.dev.live p = true) :
    exec (.bypassWindowEnd p n) s = .next { s with dev := (s.dev.windowEnd p n).settle } := by
  show execBypassWindowEnd p n s = _
  exact State.runOn_next h

theorem exec_windowFrame (h : s.dev.carries p = true) :
    exec (.windowFrame p n f) s = .next { s with dev := (s.dev.windowFrame p n f).settle } := by
  show execWindowFrame p n f s = _
  exact State.carry_next h

end

/-- Settles O26: a window opens by `windowStart_of_circuit` or `windowStart_of_endpoint` and closes by `closesWindow_closePort`, one
port or both (`windowEnd_of_circuit`); a window frame has the three outcomes of `windowFrame_eq`. -/
theorem bypassWindows : Obligations.BypassWindows := by
  intro s p n f hcarries ready preamble
  have hlive : s.dev.live p = true := by
    simp only [Device.carries, Bool.and_eq_true] at hcarries
    exact hcarries.1
  have hsettled : ∀ e : Device, ∃ l, e.settle.out = e.out ++ l := fun e => (Device.frame_settle e noRegs).out
  refine ⟨fun henabled hopen hentry hready => ?starts, fun hwindow hfree => ⟨fun halone => ?endsAlone, fun m hpartner hwindow' hfree' => ?ends⟩,
    fun hsends => ?frame⟩
  case starts =>
    have henters : s.dev.entersWindow p n = true := by
      have hup : s.dev.readyFor p n = true := hready
      simp [Device.entersWindow, hlive, henabled, hopen, hentry, hup]
    refine ⟨fun m hpartner hwindowed hready' => ?circuit, fun halone hendpoint => ?endpoint⟩
    case circuit =>
      refine ⟨_, exec_bypassWindowStart p n hcarries, rfl, ?_⟩
      rw [Device.windowStart_of_circuit henters hpartner hwindowed hready']
      obtain ⟨hstate, hstate', hwindow, hwindow', hunacked, hwindows⟩ := Device.opensBoth_openPort (d := s.dev) (p := p) (n := n) m
      have hget : (((s.dev.openPort p n).openPort p m).bump .bypWindows p 0).settle.get .portState p.val =
          ((s.dev.openPort p n).openPort p m).get .portState p.val := funext fun k => by
        rw [Device.get_settle _ _ _ _ rfl, Device.get_bump_obj _ _ _ _ _ _ _ (by decide)]
      have hport : (((s.dev.openPort p n).openPort p m).bump .bypWindows p 0).settle.port p.val =
          ((s.dev.openPort p n).openPort p m).port p.val := funext fun k => by
        rw [Device.port_settle, Device.port_bump]
      rw [hget, hport]
      refine ⟨hstate, hstate', hwindow, hwindow', hunacked, (Device.get_settle _ _ _ _ rfl).trans ?_⟩
      rw [← hwindows]
      exact Device.get_count_wide _ _ _ _ _ rfl
    case endpoint =>
      refine ⟨_, exec_bypassWindowStart p n hcarries, ?_⟩
      rw [Device.windowStart_of_endpoint henters halone hendpoint]
      obtain ⟨hstate, hwindow, hsent⟩ := Device.opens_sendPreamble (d := s.dev) (p := p) (n := n)
      exact ⟨(Device.get_settle _ _ _ _ rfl).trans hstate, (congrArg PortSt.window (Device.port_settle ..)).trans hwindow,
        hsent.after (hsettled _)⟩
  case endsAlone =>
    have hcloses := Device.closesWindow_closePort hwindow hfree
    have hend : s.dev.windowEnd p n = s.dev.closePort p n := by simp only [Device.windowEnd, halone]
    refine ⟨_, exec_bypassWindowEnd p n hlive, rfl, ?_⟩
    rw [hend]
    exact ⟨(Device.get_settle _ _ _ _ rfl).trans ((hcloses.state p n).trans (if_pos ⟨rfl, rfl⟩)),
      (Device.port_settle ..).trans ((hcloses.port p n).trans (if_pos ⟨rfl, rfl⟩)), hcloses.preambles.after (hsettled _)⟩
  case ends =>
    obtain ⟨hup, hup', hclosed, hclosed', hsent, hsent'⟩ := Device.windowEnd_of_circuit hpartner hwindow hfree hwindow' hfree'
    exact ⟨_, exec_bypassWindowEnd p n hlive, (Device.get_settle _ _ _ _ rfl).trans hup, (Device.get_settle _ _ _ _ rfl).trans hup',
      (congrArg PortSt.window (Device.port_settle ..)).trans hclosed, (congrArg PortSt.window (Device.port_settle ..)).trans hclosed',
      hsent.after (hsettled _), hsent'.after (hsettled _)⟩
  case frame =>
    intro ok extra q
    refine ⟨fun hfails => ?rejected, fun hok hover => ?overrun, fun hok hfits => ?taken⟩
    case rejected =>
      have hfails' : s.dev.windowOk p n f = false := hfails
      refine ⟨_, exec_windowFrame p n f hcarries, rfl, ?_⟩
      rw [Device.windowFrame_eq hsends, if_neg (by rw [hfails']; decide)]
      exact ⟨(Device.get_settle _ _ _ _ rfl).trans (Device.get_count_narrow _ _ _ _ _ (by decide)),
        (Device.frame_bump _ _ _ _ _ (.inr ⟨rfl, rfl, rfl⟩)).trans (Device.frame_settle _ _)⟩
    case overrun =>
      have hok' : s.dev.windowOk p n f = true := hok
      have hover' : s.dev.windowExcess p n f > 0 := hover
      refine ⟨_, exec_windowFrame p n f hcarries, ?_⟩
      rw [Device.windowFrame_eq hsends, if_pos hok', if_pos hover']
      exact ⟨(Device.get_settle _ _ _ _ rfl).trans (Device.get_count_narrow _ _ _ _ _ (by decide)),
        (Device.frame_count _ _ _ _ _ _ (.inr ⟨rfl, rfl, rfl⟩)).trans (Device.frame_settle _ _)⟩
    case taken =>
      have hok' : s.dev.windowOk p n f = true := hok
      have hfits' : ¬ s.dev.windowExcess p n f > 0 := Nat.not_lt.mpr (Nat.le_of_eq hfits)
      obtain ⟨hport, hframes, hbytes⟩ := Device.windowTaken (d := s.dev.setPort p n ((s.dev.port p n).winTook f)) (p := p) (n := n) (f := f)
      refine ⟨_, exec_windowFrame p n f hcarries, rfl, ?_⟩
      rw [Device.windowFrame_eq hsends, if_pos hok', if_neg hfits']
      exact ⟨((Device.port_settle ..).trans hport).trans ((Device.port_setPort ..).trans (if_pos ⟨rfl, rfl⟩)),
        (Device.get_settle _ _ _ _ rfl).trans hframes, (Device.get_settle _ _ _ _ rfl).trans hbytes⟩

end Sys2Proof.Machine

/-! ### Frames that internal inputs hold (spec/04 R71) -/

namespace Sys2Proof.Machine

/-! #### What storage asks of a device that another has moved little of -/

section
variable {d e : Device} {mo mp : Nat} {p : Nat}

theorem Moves.outShut (h : Moves d e mo mp) (hstate : mo.testBit Obj.portState.ctorIdx = false)
    (hfence : mo.testBit Obj.fencedLongHaul.ctorIdx = false) (hports : mp.testBit Part.ports.ctorIdx = false) (o : Nat) :
    e.outShut p o = d.outShut p o := by
  unfold Device.outShut
  rw [h.get _ _ _ hstate, h.get _ _ _ hfence, h.port hports]

theorem Moves.kiteFor (h : Moves d e mo mp) (hstate : mo.testBit Obj.kiteState.ctorIdx = false)
    (hrows : mp.testBit Part.rows.ctorIdx = false) (r c : Nat) : e.kiteFor p r c = d.kiteFor p r c := by
  unfold Device.kiteFor Device.kiteState
  rw [h.get _ _ _ hstate, Device.row_congr _ (h.same .rows hrows)]

theorem Moves.kiteFree (h : Moves d e mo mp) (hcopies : mp.testBit Part.copies.ctorIdx = false) (r k : Nat) :
    e.kiteFree p r k = d.kiteFree p r k := by
  have hsame : e.copies = d.copies := h.same .copies hcopies
  unfold Device.kiteFree Device.occupancy
  rw [hsame]

/-- No input is in park mode where every copy is queued (R69). -/
theorem Device.parkMode_of_queued {input cls c : Nat} (h : d.copies.all (fun e => e.2.stage = .queued) = true) :
    d.parkMode p input cls c = false := by
  simp only [List.all_eq_true, decide_eq_true_eq] at h
  unfold Device.parkMode
  refine List.any_eq_false.mpr fun x hx => ?_
  simp [h x hx]

/-- No pointer of a copy is discarded where its outputs are open (R77). -/
theorem Device.purge_of_open {id : Nat} {c : Copy} (hcopy : d.copy? p id = some c) (hopen : ∀ o ∈ c.wait, d.outShut p o = false) :
    d.purge p id = d := by
  have hnone : c.wait.filter (d.outShut p) = [] := List.filter_eq_nil_iff.mpr fun o ho => by simp [hopen o ho]
  unfold Device.purge
  rw [hcopy]
  simp only [hnone, List.foldl_nil, ite_self]

/-- A frame with a copy is not at its end (R76). -/
theorem Device.frameDone_of_copy {id fid : Nat} {c : Copy} (hcopy : d.copy? p id = some c) (hplane : c.plane = p)
    (hfid : c.fid = fid) : d.frameDone p fid = d := by
  obtain ⟨x, hfound, rfl⟩ := Option.map_eq_some_iff.mp hcopy
  unfold Device.frameDone
  exact if_pos (List.any_eq_true.mpr ⟨x, List.mem_of_find?_eq_some hfound, by simp [hplane, hfid]⟩)

/-! #### A first copy that its kite has room for (R69) -/

/-- A copy is queued in a kite for a list of outputs. -/
structure Copy.QueuedIn (cp : Copy) (p fid r k cells : Nat) (outs : List Nat) : Prop where
  plane : cp.plane = p
  fid : cp.fid = fid
  stage : cp.stage = .queued
  row : cp.row = r
  place : cp.place = [(k, cells)]
  wait : cp.wait = outs

/-- The registers that count where a copy is stored: the kites' high water, `mcast_copies` and `moved_cells`. -/
def objs_stored : Nat := objs_noteHigh ||| 2 ^ Obj.mcastCopies.ctorIdx ||| 2 ^ Obj.movedCells.ctorIdx

/-- A copy stored for open outputs is in its kite once it has been counted and the pointers to shut ones are gone. -/
theorem Device.copy_purge_of_stored {id : Nat} {cp : Copy} (h : Moves (d.setCopy p id cp) e objs_stored 1)
    (hopen : ∀ o ∈ cp.wait, d.outShut p o = false) : (e.purge p id).copy? p id = some cp := by
  have hcopy : e.copy? p id = some cp := (Device.copy_congr _ (h.same .copies (by decide)) p id).trans
    ((Device.copy_setCopy ..).trans (if_pos rfl))
  rw [Device.purge_of_open hcopy fun o ho => (h.outShut (by decide) (by decide) (by decide) o).trans (hopen o ho)]
  exact hcopy

theorem Device.admitFirst_of_room {fid r c k : Nat} {f : FrameRec} {outs : List Nat} {mcast : Bool}
    (hqueued : d.copies.all (fun e => e.2.stage = .queued) = true) (hkite : d.kiteFor p r c = some k)
    (hfits : f.cells ≤ d.kiteFree p r k) (hopen : ∀ o ∈ outs, d.outShut p o = false) :
    ∃ id cp, (d.admitFirst p fid f r c outs mcast).copy? p id = some cp ∧ cp.QueuedIn p fid r k f.cells outs := by
  unfold Device.admitFirst
  extract_lets x id y e room
  have hnumbered : Moves d e 0 0x10 :=
    ((Moves.refl ..).newId (Mask.of (by decide)) (Mask.of (by decide))).newId (Mask.of (by decide)) (Mask.of (by decide))
  have hroom : room = some k := by
    have hcopies : e.copies = d.copies := hnumbered.same .copies (by decide)
    have hpark : e.parkMode p f.input f.cls c = false := Device.parkMode_of_queued (hcopies ▸ hqueued)
    have hfree : f.cells ≤ e.kiteFree p r k := by rw [hnumbered.kiteFree (by decide)]; exact hfits
    unfold room
    rw [hnumbered.kiteFor (by decide) (by decide), hkite]
    simp [hpark, hfree]
  have hstored : ∀ o ∈ outs, e.outShut p o = false := fun o ho =>
    (hnumbered.outShut (by decide) (by decide) (by decide) o).trans (hopen o ho)
  rw [hroom]
  refine ⟨id, ?copy, Device.copy_purge_of_stored (d := e) (.ite (fun _ => ?counted) (fun _ => ?plain)) ?stored, ?queued⟩
  case plain => exact (Moves.refl _ objs_stored 1).noteHigh (Mask.of (by decide)) (Mask.of (by decide))
  case counted =>
    exact ((Moves.refl _ objs_stored 1).noteHigh (Mask.of (by decide)) (Mask.of (by decide))).bump (by decide) (by decide) (by decide)
  case stored => exact hstored
  case queued => exact ⟨rfl, rfl, rfl, rfl, rfl, rfl⟩

/-! #### The frame that is written (R71) -/

/-- A frame for one column whose kite has room is queued there for the column's outputs (R69). -/
theorem Device.enterStore_of_column {input c k : Nat} {f : Sys2Proof.Frame} {outs : List Nat} {grp : Option Nat} {charged : Bool}
    {credit ctx : Option Nat} (hcolumn : columnsOf outs = [c])
    (hqueued : d.copies.all (fun e => e.2.stage = .queued) = true) (hkite : d.kiteFor p (group input) c = some k)
    (hfits : f.cells ≤ d.kiteFree p (group input) k) (hopen : ∀ o ∈ outs, d.outShut p o = false) :
    ∃ id cp fid, (d.enterStore p input f outs grp charged credit ctx).copy? p id = some cp ∧
      cp.QueuedIn p fid (group input) k f.cells (outs.filter (fun o => group o = c)) := by
  unfold Device.enterStore
  split
  · next hnone => exact absurd (hcolumn.symm.trans hnone) (List.cons_ne_nil _ _)
  next first rest hfirst =>
  obtain ⟨rfl, rfl⟩ := List.cons.inj (hcolumn.symm.trans hfirst)
  extract_lets r m x fr e mcast e1 e2
  have hstored : Moves d e objs_ecnMark (parts_ecnMark ||| 0x810) :=
    (((Moves.refl ..).ecnMark (Mask.of (by decide)) (Mask.of (by decide))).newId (Mask.of (by decide)) (Mask.of (by decide))).setFrame
      (Mask.of (by decide)) (Mask.of (by decide))
  have hcopies : e.copies = d.copies := hstored.same .copies (by decide)
  obtain ⟨id, cp, hcopy, hcp⟩ := Device.admitFirst_of_room (d := e) (fid := x.1) (f := fr) (mcast := mcast) (hcopies ▸ hqueued)
    ((hstored.kiteFor (by decide) (by decide) r c).trans hkite) (by rw [hstored.kiteFree (by decide)]; exact hfits)
    (fun o ho => (hstored.outShut (by decide) (by decide) (by decide) o).trans (hopen o (List.mem_filter.mp ho).1))
  rw [show e2 = e1 from rfl, Device.frameDone_of_copy hcopy hcp.plane hcp.fid]
  exact ⟨id, cp, _, hcopy, hcp⟩

theorem Device.waitIn_enterStore {input : Nat} {f : Sys2Proof.Frame} {outs : List Nat} {grp : Option Nat} {charged : Bool}
    {credit ctx : Option Nat} : (d.enterStore p input f outs grp charged credit ctx).waitIn = d.waitIn :=
  ((Moves.refl d objs_enterStore parts_enterStore).enterStore (Mask.le_refl _) (Mask.le_refl _)).same .waitIn (by decide)

/-- The device once the frame that waited has been taken from the input. -/
def Device.taken (d : Device) (w : WaitIn) : Device := { d with waitIn := d.waitIn.erase w }

theorem Device.writeHeld_eq {input : Nat} {w : WaitIn}
    (h : d.waitIn.find? (fun x => x.plane = p && x.input = input) = some w) :
    d.writeHeld p input = if d.reserveKept p (group input) w.frame.cells
      then (d.taken w).enterStore p input w.frame w.outs w.grp false none w.ctx else d := by
  unfold Device.writeHeld
  rw [h]
  rfl

end

theorem exec_internalInputWrite (p : Plane) (a : Attach) {s : State} (h : s.dev.carries p = true) :
    exec (.internalInputWrite p a) s = .next { s with dev := (s.dev.writeHeld p a.sw).settle } := by
  show execInternalInputWrite p a s = _
  exact State.carry_next h

/-- Settles O7: the frame leaves the input and enters the store where the reserve is kept (`writeHeld_eq`), and with room in the
kite of its one column it is queued there (`enterStore_of_column`). -/
theorem heldFrameWritten : Obligations.HeldFrameWritten := by
  intro s p a w hcarries hheld
  have hwritten := Device.writeHeld_eq hheld
  refine ⟨fun hkept => ?written, fun c k hkept hcolumn hopen hkite hfits hqueued _ => ?queued, fun hkept => ?waits⟩
  case written =>
    refine ⟨_, exec_internalInputWrite p a hcarries, rfl, (quiet_waitIn.settle _).trans ?_⟩
    rw [hwritten, if_pos hkept, Device.waitIn_enterStore]
    rfl
  case queued =>
    obtain ⟨id, cp, fid, hcopy, hcp⟩ := Device.enterStore_of_column (d := s.dev.taken w) (p := p) (input := a.sw) (f := w.frame)
      (grp := w.grp) (charged := false) (credit := none) (ctx := w.ctx) hcolumn hqueued hkite hfits hopen
    refine ⟨_, id, cp, exec_internalInputWrite p a hcarries, (Device.copy_settle ..).trans ?_, hcp.stage, hcp.row, hcp.place, hcp.wait⟩
    rw [hwritten, if_pos hkept]
    exact hcopy
  case waits =>
    refine ⟨_, exec_internalInputWrite p a hcarries, ?_⟩
    rw [hwritten, if_neg (by rw [hkept]; decide)]
    exact Device.frame_settle _ _

end Sys2Proof.Machine

/-! ### The move engine (spec/04 R70, R72) -/

namespace Sys2Proof.Machine

/-- A copy as the move engine queues it in kite k (R72). -/
def Copy.movedTo (cp : Copy) (k cells seq now : Nat) : Copy :=
  { cp with stage := .queued, place := [(k, cells)], seq := seq, at_ := now, moved := true }

/-- The device once the move engine has written a copy into kite k and counted its cells (R72). -/
def Device.itemMoved (d : Device) (p r id k cells : Nat) (cp : Copy) : Device :=
  ((d.newId.2.setCopy p id (cp.movedTo k cells d.newId.1 d.clock)).noteHigh p r [(k, cells)]).count .movedCells p 0 cells

/-- The copies of a frame that nothing needs any more are freed. -/
def Device.tidyFrame (d : Device) (p fid : Nat) : Device :=
  ((d.copiesOf p).filter (fun e => e.2.fid = fid)).foldl (fun d e => d.tidyCopy p e.1) d

section
variable {d : Device} {p r c id k : Nat} {cp : Copy} {rest : List (Nat × Copy)} {f : FrameRec}

/-! #### What the engine does with the oldest item -/

theorem Device.moveParked_of_room (hitem : d.moveItems p r c = (id, cp) :: rest) (hframe : d.frame? p cp.fid = some f)
    (hkite : d.kiteFor p r c = some k) (hfits : f.cells ≤ d.kiteFree p r k) (hparked : cp.stage = .parked) :
    d.moveParked p r c = (d.itemMoved p r id k f.cells cp).purge p id := by
  unfold Device.moveParked
  rw [hitem]
  simp only [hparked, hframe, hkite, hfits, if_true]
  rfl

theorem Device.makeDeferred_of_room (hitem : d.moveItems p r c = (id, cp) :: rest) (hframe : d.frame? p cp.fid = some f)
    (hkite : d.kiteFor p r c = some k) (hfits : f.cells ≤ d.kiteFree p r k) (hdeferred : cp.stage = .deferred)
    (hkept : d.reserveKept p r f.cells = true) (hrow : (d.row p r).forced = false)
    (hquota : cp.charged = true → d.quotaFits p f.tenant f.cells = true) :
    d.makeDeferred p r c = (((d.itemMoved p r id k f.cells cp).bump .mcastCopies p 0).purge p id).tidyFrame p cp.fid := by
  have hallowed : (cp.charged && !d.quotaFits p f.tenant f.cells) = false := by
    cases hcharged : cp.charged with
    | false => rfl
    | true => simp [hquota hcharged]
  unfold Device.makeDeferred
  rw [hitem]
  simp only [hdeferred, hframe, hkite, hfits, hkept, hrow, hallowed, decide_true, Bool.and_self, Bool.not_false, if_true,
    Bool.false_eq_true, if_false]
  rfl

theorem Device.makeDeferred_over_quota (hitem : d.moveItems p r c = (id, cp) :: rest) (hframe : d.frame? p cp.fid = some f)
    (hkite : d.kiteFor p r c = some k) (hfits : f.cells ≤ d.kiteFree p r k) (hdeferred : cp.stage = .deferred)
    (hkept : d.reserveKept p r f.cells = true) (hrow : (d.row p r).forced = false) (hcharged : cp.charged = true)
    (hquota : d.quotaFits p f.tenant f.cells = false) : d.makeDeferred p r c =
      (((d.dropCopy p id).tenantDrop p f.tenant f.input).frameDone p cp.fid).tidyFrame p cp.fid := by
  unfold Device.makeDeferred
  rw [hitem]
  simp only [hdeferred, hframe, hkite, hfits, hkept, hrow, hcharged, hquota, decide_true, Bool.and_self, Bool.not_false, if_true]
  rfl

/-! #### What a moved copy leaves -/

/-- What a move changes beside the copy it stores. -/
theorem Device.moves_itemMoved {cells : Nat} :
    Moves (d.newId.2.setCopy p id (cp.movedTo k cells d.newId.1 d.clock)) (d.itemMoved p r id k cells cp) objs_stored 1 :=
  ((Moves.refl ..).noteHigh (Mask.of (by decide)) (Mask.of (by decide))).count (by decide) (by decide) (by decide)

/-- The cells of a moved copy are counted (R72). -/
theorem Device.get_movedCells_itemMoved {cells : Nat} :
    (d.itemMoved p r id k cells cp).get .movedCells p 0 = (d.get .movedCells p 0 + cells) % 2 ^ 64 := by
  have hnoted : Moves d ((d.newId.2.setCopy p id (cp.movedTo k cells d.newId.1 d.clock)).noteHigh p r [(k, cells)])
      objs_noteHigh parts_all :=
    (((Moves.refl ..).newId (Mask.of (by decide)) (Mask.of (by decide))).setCopy (Mask.of (by decide)) (Mask.of (by decide))).noteHigh
      (Mask.of (by decide)) (Mask.of (by decide))
  rw [Device.itemMoved, Device.get_count_wide _ _ _ _ _ rfl, hnoted.get _ _ _ (by decide)]

theorem Device.get_mcastCopies_itemMoved {cells : Nat} :
    (d.itemMoved p r id k cells cp).get .mcastCopies p 0 = d.get .mcastCopies p 0 := by
  have hmoved : Moves d (d.itemMoved p r id k cells cp) (objs_noteHigh ||| 2 ^ Obj.movedCells.ctorIdx) parts_all :=
    ((((Moves.refl ..).newId (Mask.of (by decide)) (Mask.of (by decide))).setCopy (Mask.of (by decide)) (Mask.of (by decide))).noteHigh
      (Mask.of (by decide)) (Mask.of (by decide))).count (by decide) (by decide) (by decide)
  exact hmoved.get _ _ _ (by decide)

theorem Device.moves_purge : Moves d (d.purge p id) objs_purge parts_purge := (Moves.refl ..).purge (Mask.le_refl _) (Mask.le_refl _)

theorem Device.moves_tidyFrame {fid : Nat} : Moves d (d.tidyFrame p fid) objs_tidyCopy parts_tidyCopy :=
  (Moves.refl ..).foldl (fun _ _ => (Moves.refl ..).tidyCopy (Mask.le_refl _) (Mask.le_refl _))

/-- A moved copy for open outputs stands in its kite (R72). -/
theorem Device.copy_itemMoved {cells : Nat} (hopen : ∀ o ∈ cp.wait, d.outShut p o = false) :
    ((d.itemMoved p r id k cells cp).purge p id).copy? p id = some (cp.movedTo k cells d.newId.1 d.clock) := by
  have hnumbered : Moves d d.newId.2 0 0x10 := (Moves.refl ..).newId (Mask.of (by decide)) (Mask.of (by decide))
  exact Device.copy_purge_of_stored Device.moves_itemMoved fun o ho =>
    (hnumbered.outShut (by decide) (by decide) (by decide) o).trans (hopen o ho)

/-- What a copy over its tenant's quota leaves: it is counted for the tenant, with the cause, and no copy is made (R359). -/
theorem Device.tenantDrop_of_deferred {fid : Nat} :
    let e := ((((d.dropCopy p id).tenantDrop p f.tenant f.input).frameDone p fid).tidyFrame p fid)
    e.get .mcastCopies p 0 = d.get .mcastCopies p 0 ∧
      e.get .tnCellDrop p f.tenant = min (d.get .tnCellDrop p f.tenant + 1) (2 ^ 32 - 1) ∧
      bit (e.get .cause p 1) 10 = true := by
  intro e
  have hdropped : Moves d ((d.dropCopy p id).tenantDrop p f.tenant f.input) objs_tenantDrop parts_all :=
    ((Moves.refl ..).dropCopy (Mask.of (by decide)) (Mask.of (by decide))).tenantDrop (Mask.le_refl _) (Mask.of (by decide))
  have hfreed : Moves ((d.dropCopy p id).tenantDrop p f.tenant f.input) e objs_tidyCopy parts_tidyCopy :=
    ((Moves.refl ..).frameDone (Mask.of (by decide)) (Mask.of (by decide))).step Device.moves_tidyFrame
  have hcounted : ((d.dropCopy p id).tenantDrop p f.tenant f.input).get .tnCellDrop p f.tenant =
      min (d.get .tnCellDrop p f.tenant + 1) (2 ^ 32 - 1) :=
    (Device.get_latch_obj _ _ _ _ _ _ _ _ (by decide) (by decide) (by decide)).trans (Device.get_count_narrow _ _ _ _ _ (by decide))
  exact ⟨(hfreed.get _ _ _ (by decide)).trans (hdropped.get _ _ _ (by decide)), (hfreed.get _ _ _ (by decide)).trans hcounted,
    hfreed.latched (by decide) _ _ _ (by decide) (Device.bit_latch _ _ _ _ _ (by decide))⟩

end

theorem exec_moveParkedFrame (p : Plane) (r c : Group) {s : State} (h : s.dev.carries p = true) :
    exec (.moveParkedFrame p r c) s = .next { s with dev := (s.dev.moveParked p r c).settle } := by
  show execMoveParkedFrame p r c s = _
  exact State.carry_next h

theorem exec_makeDeferredCopy (p : Plane) (r c : Group) {s : State} (h : s.dev.carries p = true) :
    exec (.makeDeferredCopy p r c) s = .next { s with dev := (s.dev.makeDeferred p r c).settle } := by
  show execMakeDeferredCopy p r c s = _
  exact State.carry_next h

/-- Settles O8: a parked frame by `moveParked_of_room`, a deferred copy by `makeDeferred_of_room`, and one over the quota by
`makeDeferred_over_quota`; what purges and frees afterwards counts no cells and makes no copy. -/
theorem moveEngine : Obligations.MoveEngine := by
  intro s p r c id k cp rest f hcarries hitem hframe hkite hfits
  refine ⟨fun hparked => ?parked, fun hdeferred hkept hrow hfree => ?deferred, fun hdeferred hcharged hquota hkept hrow => ?dropped⟩
  case parked =>
    refine ⟨_, exec_moveParkedFrame p r c hcarries, rfl, ?_⟩
    rw [Device.moveParked_of_room hitem hframe hkite hfits hparked]
    have hpurged := Device.moves_purge (d := s.dev.itemMoved p r id k f.cells cp) (p := p) (id := id)
    refine ⟨?_, ?_, fun hopen => ⟨_, (Device.copy_settle ..).trans (Device.copy_itemMoved hopen)⟩⟩
    · exact (Device.get_settle _ _ _ _ rfl).trans ((hpurged.get _ _ _ (by decide)).trans Device.get_movedCells_itemMoved)
    · exact (Device.get_settle _ _ _ _ rfl).trans ((hpurged.get _ _ _ (by decide)).trans Device.get_mcastCopies_itemMoved)
  case deferred =>
    refine ⟨_, exec_makeDeferredCopy p r c hcarries, rfl, ?_⟩
    rw [Device.makeDeferred_of_room hitem hframe hkite hfits hdeferred hkept hrow (fun h => by rw [hfree] at h; cases h)]
    have hfreed := (Device.moves_purge (d := (s.dev.itemMoved p r id k f.cells cp).bump .mcastCopies p 0) (p := p) (id := id)).step
      ((Device.moves_tidyFrame (p := p) (fid := cp.fid)).mono (Mask.of (by decide)) (Mask.of (by decide)))
    refine ⟨(Device.get_settle _ _ _ _ rfl).trans ((hfreed.get _ _ _ (by decide)).trans ?_),
      (Device.get_settle _ _ _ _ rfl).trans ((hfreed.get _ _ _ (by decide)).trans ?_)⟩
    · exact (Device.get_bump_obj _ _ _ _ _ _ _ (by decide)).trans Device.get_movedCells_itemMoved
    · rw [← Device.get_mcastCopies_itemMoved (d := s.dev)]
      exact Device.get_count_wide _ _ _ _ _ rfl
  case dropped =>
    refine ⟨_, exec_makeDeferredCopy p r c hcarries, ?_⟩
    rw [Device.makeDeferred_over_quota hitem hframe hkite hfits hdeferred hkept hrow hcharged hquota]
    obtain ⟨hmade, hcounted, hraised⟩ := Device.tenantDrop_of_deferred (d := s.dev) (p := p) (id := id) (f := f) (fid := cp.fid)
    exact ⟨(Device.get_settle _ _ _ _ rfl).trans hmade, (Device.get_settle _ _ _ _ rfl).trans hcounted,
      (congrArg (bit · 10) (Device.get_settle _ _ _ _ rfl)).trans hraised⟩

end Sys2Proof.Machine

/-! ### Release of cells (spec/04 R75) -/

namespace Sys2Proof.Machine

/-- A copy without an output among its targets. -/
def Copy.without (c : Copy) (o : Nat) : Copy :=
  { c with wait := c.wait.filter (· ≠ o), sentTo := c.sentTo.filter (· ≠ o), due := c.due.filter (· ≠ o) }

section
variable {d : Device} {p id o : Nat} {c : Copy}

theorem Device.release_of_copy (h : d.copy? p id = some c) :
    d.release p id o = (d.setCopy p id (c.without o)).tidyCopy p id := by
  unfold Device.release
  rw [h]
  rfl

/-- A copy with a target left stays as it is. -/
theorem Device.tidyCopy_of_target (h : d.copy? p id = some c) (hleft : c.wait ≠ [] ∨ c.sentTo ≠ [] ∨ c.due ≠ []) :
    d.tidyCopy p id = d := by
  unfold Device.tidyCopy
  rw [h]
  refine if_neg fun hnone => ?_
  simp only [Bool.and_eq_true, decide_eq_true_eq] at hnone
  obtain ⟨⟨⟨hwait, hsent⟩, hdue⟩, -⟩ := hnone
  exact hleft.elim (· hwait) (·.elim (· hsent) (· hdue))

/-- A copy without a target goes where no copy of its frame is deferred. -/
theorem Device.tidyCopy_of_done (h : d.copy? p id = some c) (hwait : c.wait = []) (hsent : c.sentTo = []) (hdue : c.due = [])
    (hstored : d.hasDeferred p c.fid = false) : d.tidyCopy p id = (d.dropCopy p id).frameDone p c.fid := by
  unfold Device.tidyCopy
  rw [h]
  exact if_pos (by simp [hwait, hsent, hdue, hstored])

theorem Device.hasDeferred_of_queued {fid : Nat} (h : d.copies.all (fun e => e.2.stage = .queued) = true) :
    d.hasDeferred p fid = false := by
  simp only [List.all_eq_true, decide_eq_true_eq] at h
  simp only [Device.hasDeferred, List.any_eq_false, Bool.and_eq_true, decide_eq_true_eq]
  rintro e he ⟨-, hdeferred⟩
  rw [h e he] at hdeferred
  cases hdeferred

/-- The copies stay queued where one of them is replaced by a queued one. -/
theorem Device.queued_setCopy (h : d.copies.all (fun e => e.2.stage = .queued) = true) (hc : c.stage = .queued) :
    (d.setCopy p id c).copies.all (fun e => e.2.stage = .queued) = true := by
  simp only [List.all_eq_true, decide_eq_true_eq] at h ⊢
  intro e he
  rcases Tbl.mem_ins _ _ _ _ _ he with rfl | hold
  · exact hc
  · exact h e (List.mem_filter.mp hold).1

theorem Device.stage_of_copy (h : d.copy? p id = some c) (hall : d.copies.all (fun e => e.2.stage = .queued) = true) :
    c.stage = .queued := by
  simp only [List.all_eq_true, decide_eq_true_eq] at hall
  obtain ⟨e, hfound, rfl⟩ := Option.map_eq_some_iff.mp h
  exact hall e (List.mem_of_find?_eq_some hfound)

/-- The end of a frame removes no copy. -/
theorem Device.copies_frameDone {fid : Nat} : (d.frameDone p fid).copies = d.copies :=
  ((Moves.refl d objs_frameDone parts_frameDone).frameDone (Mask.le_refl _) (Mask.le_refl _)).same .copies (by decide)

/-- The copies stay where an output of several is released (R75). -/
theorem Device.release_of_left (h : d.copy? p id = some c)
    (hleft : (c.without o).wait ≠ [] ∨ (c.without o).sentTo ≠ [] ∨ (c.without o).due ≠ []) :
    d.release p id o = d.setCopy p id (c.without o) := by
  have hcopy : (d.setCopy p id (c.without o)).copy? p id = some (c.without o) := by rw [Device.copy_setCopy, if_pos rfl]
  rw [Device.release_of_copy h, Device.tidyCopy_of_target hcopy hleft]

/-- A copy goes with its last output (R75). -/
theorem Device.copy_release_of_last (h : d.copy? p id = some c) (hwait : (c.without o).wait = [])
    (hsent : (c.without o).sentTo = []) (hdue : (c.without o).due = [])
    (hqueued : d.copies.all (fun e => e.2.stage = .queued) = true) : (d.release p id o).copy? p id = none := by
  have hcopy : (d.setCopy p id (c.without o)).copy? p id = some (c.without o) := by rw [Device.copy_setCopy, if_pos rfl]
  have hstage : (c.without o).stage = .queued := (Device.stage_of_copy h hqueued :)
  have hstored : (d.setCopy p id (c.without o)).hasDeferred p (c.without o).fid = false :=
    Device.hasDeferred_of_queued (Device.queued_setCopy hqueued hstage)
  rw [Device.release_of_copy h, Device.tidyCopy_of_done hcopy hwait hsent hdue hstored,
    Device.copy_congr _ Device.copies_frameDone, Device.copy_dropCopy, if_pos rfl]

end

theorem exec_cellRelease (p : Plane) {s : State} {id : Nat} {o : Sink} {c : Copy} (hcarries : s.dev.carries p = true)
    (hcopy : s.dev.copy? p id = some c) (hdue : c.due.contains o.sw = true) :
    exec (.cellRelease p id o) s = .next { s with dev := (s.dev.release p id o.sw).settle } := by
  show execCellRelease p id o s = _
  refine State.carry_eq hcarries ?_
  rw [hcopy]
  exact if_pos hdue

/-- Settles O9: with outputs left the copy is replaced (`release_of_left`), with none it goes (`copy_release_of_last`). -/
theorem cellRelease : Obligations.CellRelease := by
  intro s p id o c hcarries hcopy hdue
  refine ⟨_, exec_cellRelease p hcarries hcopy hdue, rfl, fun hleft => ?stays, fun hwait hsent hnone hqueued => ?goes⟩
  case stays =>
    rw [Device.release_of_left hcopy hleft]
    exact ⟨(Device.copy_settle _ _ _).trans ((Device.copy_setCopy ..).trans (if_pos rfl)), quiet_frames.settle _⟩
  case goes => exact (Device.copy_settle _ _ _).trans (Device.copy_release_of_last hcopy hwait hsent hnone hqueued)

end Sys2Proof.Machine

/-! ### Swaps of kites (spec/04 R84, R85) -/

namespace Sys2Proof.Machine

/-! #### Kites and their spares -/

theorem kiteOf_kiteUnit (r c : Group) : kiteOf (kiteUnit r c) = (r.val, c.val) := by
  decide +revert

theorem kiteUnit_ne_spare (r c : Group) : kiteUnit r c ≠ kiteUnit r 20 := by
  decide +revert

section
variable {d : Device} {p r k v : Nat}

theorem Device.kiteState_setKiteState (hv : v < 256) : (d.setKiteState p r k v).kiteState p r k = v :=
  Device.get_set_lt d .kiteState p (kiteUnit r k) v hv

theorem Device.kiteState_setKiteState_ne {k' : Nat} (h : kiteUnit r k' ≠ kiteUnit r k) :
    (d.setKiteState p r k v).kiteState p r k' = d.kiteState p r k' := by
  unfold Device.kiteState Device.setKiteState
  rw [Device.get_set, if_neg (fun heq => h heq.2.2)]

theorem Device.get_setKiteState_obj {o : Obj} {q i : Nat} (h : o ≠ .kiteState) :
    (d.setKiteState p r k v).get o q i = d.get o q i := Device.get_set_obj _ _ _ _ _ _ _ _ h

/-- `spare_in_use` and `kite_stand_in` are all that a stand-in writes (R88). -/
theorem Device.get_standIn_obj {col : Option Nat} {o : Obj} {q i : Nat} (h : o ≠ .spareInUse) (h' : o ≠ .kiteStandIn) :
    (d.standIn p r col).get o q i = d.get o q i :=
  (Device.get_set_obj _ _ _ _ _ _ _ _ h').trans (Device.get_set_obj _ _ _ _ _ _ _ _ h)

theorem Device.kiteState_standIn {col : Option Nat} : (d.standIn p r col).kiteState p r k = d.kiteState p r k :=
  Device.get_standIn_obj (by decide) (by decide)

theorem Device.bit_standIn {col : Option Nat} (hr : r < 20) : bit ((d.standIn p r col).get .spareInUse p 0) r = col.isSome := by
  unfold Device.standIn
  rw [Device.get_set_obj _ _ _ _ _ _ _ _ (by decide), Device.get_set_same, show Obj.spareInUse.width = 32 from rfl,
    bit_mod _ _ _ (by omega)]
  cases col with
  | none => simp [putBit, bit_clrBit]
  | some c => simp [putBit]

theorem Device.get_standIn_unit {col : Option Nat} (hcol : col.getD 0xFF = v) (hv : v < 256) :
    (d.standIn p r col).get .kiteStandIn p (kiteUnit r 20) = v := by
  unfold Device.standIn
  rw [hcol]
  exact Device.get_set_lt _ _ _ _ _ hv

theorem Device.row_standIn {col : Option Nat} {q : Nat} : (d.standIn p r col).row p q = d.row p q := by
  unfold Device.standIn
  exact Device.row_congr _ ((Device.rows_set ..).trans (Device.rows_set ..)) p q

theorem Device.row_setKiteState {q : Nat} : (d.setKiteState p r k v).row p q = d.row p q := rfl

end

/-! #### `swap_cmd` (R84, R370) -/

theorem Device.place_swapCmd (d : Device) (p ses : Nat) : d.place ⟨.swapCmd, p, 0⟩ ses = d.sel .kiteSel p 0 ses := by
  unfold Device.place
  dsimp only
  rw [if_neg (by decide), if_neg (by simp), show Obj.swapCmd.sels = [.kiteSel] from rfl, List.foldl_cons, List.foldl_nil,
    if_neg (by simp), if_neg (by simp), Nat.zero_mul, Nat.zero_add]

theorem Device.cmdReads_swapCmd {d : Device} {p ses v u : Nat} (h : d.sel .kiteSel p 0 ses = u) :
    d.cmdReads ⟨.swapCmd, p, 0⟩ ses v = d.set .swapCmd p u v := by
  rw [Device.cmdReads, Device.place_swapCmd, h]

section
variable {d : Device} {p ses : Nat} {r c : Group}

theorem Device.swapCmd_handOver (hsel : d.sel .kiteSel p 0 ses = kiteUnit r c) :
    d.swapCmd p ses 1 = if d.handOverOk p r c then (d.handOver p r c false false).set .swapCmd p (kiteUnit r c) 1
      else d.set .swapCmd p (kiteUnit r c) 3 := by
  have hmoved : (d.handOver p r c false false).sel .kiteSel p 0 ses = kiteUnit r c :=
    (Device.get_standIn_obj (by decide) (by decide)).trans
      ((Device.get_setKiteState_obj (by decide)).trans ((Device.get_setKiteState_obj (by decide)).trans hsel))
  unfold Device.swapCmd
  simp only [hsel, kiteOf_kiteUnit, c.isLt, decide_true, Bool.true_and, if_true,
    Device.cmdReads_swapCmd hmoved, Device.cmdReads_swapCmd hsel]

theorem Device.swapCmd_return (hsel : d.sel .kiteSel p 0 ses = kiteUnit r c) :
    d.swapCmd p ses 2 = if d.returnOk p r c then (d.returnFrom p r c).set .swapCmd p (kiteUnit r c) 1
      else d.set .swapCmd p (kiteUnit r c) 3 := by
  have hmoved : (d.returnFrom p r c).sel .kiteSel p 0 ses = kiteUnit r c :=
    (Device.get_setKiteState_obj (by decide)).trans ((Device.get_setKiteState_obj (by decide)).trans hsel)
  unfold Device.swapCmd
  simp only [hsel, kiteOf_kiteUnit, c.isLt, decide_true, Bool.true_and, if_false, OfNat.ofNat_ne_one,
    Device.cmdReads_swapCmd hmoved, Device.cmdReads_swapCmd hsel]

theorem Device.row_handOver {forBist retire : Bool} : (d.handOver p r c forBist retire).row p r =
    { col := some c.val, connected := true, draining := some true, forBist := forBist, retire := retire } := by
  unfold Device.handOver
  rw [Device.row_standIn, Device.row_setKiteState, Device.row_setKiteState, Device.row_setRow, if_pos ⟨rfl, rfl⟩]

theorem Device.kiteState_handOver {forBist retire : Bool} : (d.handOver p r c forBist retire).kiteState p r c = 3 ∧
    (d.handOver p r c forBist retire).kiteState p r 20 = 1 :=
  ⟨Device.kiteState_standIn.trans ((Device.kiteState_setKiteState_ne (kiteUnit_ne_spare r c)).trans
      (Device.kiteState_setKiteState (by decide))),
    Device.kiteState_standIn.trans (Device.kiteState_setKiteState (by decide))⟩

theorem Device.row_returnFrom :
    (d.returnFrom p r c).row p r = { d.row p r with connected := false, draining := some false } := by
  unfold Device.returnFrom
  rw [Device.row_setKiteState, Device.row_setKiteState, Device.row_setRow, if_pos ⟨rfl, rfl⟩]

theorem Device.kiteState_returnFrom : (d.returnFrom p r c).kiteState p r c = 0 ∧ (d.returnFrom p r c).kiteState p r 20 = 3 :=
  ⟨(Device.kiteState_setKiteState_ne (kiteUnit_ne_spare r c)).trans (Device.kiteState_setKiteState (by decide)),
    Device.kiteState_setKiteState (by decide)⟩

end

theorem Device.row_settle_respond (d : Device) (rq : Req) (r : Resp) (p q : Nat) : (d.respond rq r).settle.row p q = d.row p q :=
  (Device.row_settle _ p q).trans (Device.row_congr _ (quiet_rows.respond d rq r) p q)

/-- A swap that may not start: `swap_cmd` reads 0x03, and beside what every request does nothing moves (R84). -/
theorem Device.swapCmd_refused (d : Device) (rq : Req) (p i : Nat) :
    let e := (((d.fmMessage rq.ses.val).set .swapCmd p i 3).respond rq (statusResp rq 0)).settle
    e.Answered rq 0 ∧ e.get .swapCmd p i = 3 ∧
      Device.Frame (d.heard rq.ses.val) e (fun o q j => requestRegs o q j ∨ (o = .swapCmd ∧ q = p ∧ j = i)) :=
  ⟨Device.answered_respond _ rq 0,
    (Device.get_settle_respond _ _ _ _ _ rfl (by decide) (by decide)).trans (Device.get_set_lt _ _ _ _ _ (by decide)),
    (Device.frame_request (Device.frame_set _ _ _ _ _ _ (.inr ⟨rfl, rfl, rfl⟩))).trans (Device.frame_settle _ _)⟩

theorem exec_handOverToSpare (p : Plane) {rq : Req} {s : State} (h : s.dev.admitsNow rq ⟨⟨.swapCmd, p, 0⟩, 1, 1⟩ = true) :
    exec (.handOverToSpare p rq) s = .next { s with dev :=
      (((s.dev.fmMessage rq.ses.val).swapCmd p rq.ses.val 1).respond rq (statusResp rq 0)).settle } := by
  show execHandOverToSpare p rq s = _
  exact State.run_next (Device.commandNow_admitted s.dev rq _ _ _ h)

theorem exec_returnFromSpare (p : Plane) {rq : Req} {s : State} (h : s.dev.admitsNow rq ⟨⟨.swapCmd, p, 0⟩, 1, 2⟩ = true) :
    exec (.returnFromSpare p rq) s = .next { s with dev :=
      (((s.dev.fmMessage rq.ses.val).swapCmd p rq.ses.val 2).respond rq (statusResp rq 0)).settle } := by
  show execReturnFromSpare p rq s = _
  exact State.run_next (Device.commandNow_admitted s.dev rq _ _ _ h)

/-- Settles O10: both commands act on the kite that the selector names (`swapCmd_handOver`, `swapCmd_return`), on the device after
the fault manager's message; one that may not start by `swapCmd_refused`. -/
theorem plannedSwaps : Obligations.PlannedSwaps := by
  intro s p r c rq e i hsel
  have hunit : i = kiteUnit r c := (Device.place_swapCmd ..).trans hsel
  have hsel' : e.sel .kiteSel p 0 rq.ses.val = kiteUnit r c :=
    (Device.sel_fmMessage _ _ _ _ _ _ rfl (by decide) (by decide) (by decide)).trans hsel
  have hget : ∀ {f : Device} {o : Obj} {j : Nat}, o.computed = false → o ≠ .ndpRequests → o ≠ .mgmtRefused →
      (f.respond rq (statusResp rq 0)).settle.get o p j = f.get o p j := fun hc h k =>
    Device.get_settle_respond _ rq _ _ _ hc h k
  have hreads : ∀ f : Device, ((f.set .swapCmd p (kiteUnit r c) 1).respond rq (statusResp rq 0)).settle.get .swapCmd p
      (kiteUnit r c) = 1 := fun f => (hget rfl (by decide) (by decide)).trans (Device.get_set_lt _ _ _ _ _ (by decide))
  have hkept : ∀ {f : Device} {o : Obj} {j : Nat}, o.computed = false → o ≠ .ndpRequests → o ≠ .mgmtRefused → o ≠ .swapCmd →
      ((f.set .swapCmd p (kiteUnit r c) 1).respond rq (statusResp rq 0)).settle.get o p j = f.get o p j := fun hc h k hcmd =>
    (hget hc h k).trans (Device.get_set_obj _ _ _ _ _ _ _ _ hcmd)
  have hrow : ∀ f : Device, ((f.set .swapCmd p (kiteUnit r c) 1).respond rq (statusResp rq 0)).settle.row p r = f.row p r :=
    fun f => Device.row_settle_respond _ rq _ p r
  have hstate : ∀ {f : Device} {k : Nat}, ((f.set .swapCmd p (kiteUnit r c) 1).respond rq (statusResp rq 0)).settle.kiteState p r k =
      f.kiteState p r k := hkept rfl (by decide) (by decide) (by decide)
  rw [hunit]
  refine ⟨fun hadmits hok => ?handOver, fun hadmits hok => ?handOverRefused, fun hadmits hok => ?returns,
    fun hadmits hok => ?returnRefused⟩
  case handOver =>
    refine ⟨_, exec_handOverToSpare p hadmits, rfl, Device.answered_respond _ rq 0, ?_⟩
    rw [Device.swapCmd_handOver hsel', if_pos hok]
    obtain ⟨hkite, hspare⟩ := Device.kiteState_handOver (d := e) (p := p) (r := r) (c := c) (forBist := false) (retire := false)
    have hmoved := (hrow (e.handOver p r c false false)).trans Device.row_handOver
    exact ⟨hreads _, hstate.trans hkite, hstate.trans hspare,
      (congrArg (bit · r) (hkept rfl (by decide) (by decide) (by decide))).trans (Device.bit_standIn r.isLt),
      (hkept rfl (by decide) (by decide) (by decide)).trans (Device.get_standIn_unit rfl (by omega)),
      congrArg RowSt.col hmoved, congrArg RowSt.connected hmoved, congrArg RowSt.draining hmoved⟩
  case handOverRefused =>
    refine ⟨_, exec_handOverToSpare p hadmits, ?_⟩
    rw [Device.swapCmd_handOver hsel', if_neg (by rw [hok]; decide)]
    exact Device.swapCmd_refused s.dev rq p _
  case returns =>
    refine ⟨_, exec_returnFromSpare p hadmits, rfl, Device.answered_respond _ rq 0, ?_⟩
    rw [Device.swapCmd_return hsel', if_pos hok]
    obtain ⟨hkite, hspare⟩ := Device.kiteState_returnFrom (d := e) (p := p) (r := r) (c := c)
    have hmoved := (hrow (e.returnFrom p r c)).trans Device.row_returnFrom
    exact ⟨hreads _, hstate.trans hkite, hstate.trans hspare, congrArg RowSt.connected hmoved, congrArg RowSt.draining hmoved⟩
  case returnRefused =>
    refine ⟨_, exec_returnFromSpare p hadmits, ?_⟩
    rw [Device.swapCmd_return hsel', if_neg (by rw [hok]; decide)]
    exact Device.swapCmd_refused s.dev rq p _

end Sys2Proof.Machine

/-! #### A forced swap or a drained kite completes (R84, R85) -/

namespace Sys2Proof.Machine

section
variable {d : Device} {p : Nat}

/-- Where no kite is to return from its spare, none does (spec/19 R410). -/
theorem Device.startReturns_of_none (h : ∀ q, (d.row p q).returnDue = false) : d.startReturns p = d := by
  unfold Device.startReturns
  split
  · next r hfound =>
    have hdue := List.find?_some hfound
    simp [h r] at hdue
  · rfl

theorem Device.returnDue_setRow {r : Nat} {v : RowSt} (h : ∀ q, (d.row p q).returnDue = false) (hv : v.returnDue = false)
    (q : Nat) : ((d.setRow p r v).row p q).returnDue = false := by
  rw [Device.row_setRow]
  split
  · exact hv
  · exact h q

theorem Device.row_swapDone {r c q : Nat} : (d.swapDone p r c).row p q = d.row p q := by
  unfold Device.swapDone
  split
  · exact Device.row_congr _ (Device.rows_set ..) p q
  · rfl

theorem Device.get_swapDone_obj {r c i : Nat} {o : Obj} (h : o ≠ .swapCmd) : (d.swapDone p r c).get o p i = d.get o p i := by
  unfold Device.swapDone
  split
  · exact Device.get_set_obj _ _ _ _ _ _ _ _ h
  · rfl

/-- A swap in progress reads done (R370). -/
theorem Device.get_swapDone {r c : Nat} (h : d.get .swapCmd p (kiteUnit r c) = 1) :
    (d.swapDone p r c).get .swapCmd p (kiteUnit r c) = 2 := by
  unfold Device.swapDone
  rw [if_pos h]
  exact Device.get_set_lt _ _ _ _ _ (by decide)

end

section
variable {d : Device} {p : Nat} {r c : Group}

/-- The device once the spare of a row carries column c (Table 4.4). -/
def Device.spareCarries (d : Device) (p r c : Nat) : Device :=
  ((d.setRow p r { d.row p r with forced := false, connected := true }).setKiteState p r 20 1).standIn p r (some c)

theorem Device.spareInService_of_forced (hcol : (d.row p r).col = some c.val) (hforced : (d.row p r).forced = true) :
    d.spareInService p r = (d.spareCarries p r c).bump .kiteSwaps p 0 := by
  unfold Device.spareInService
  simp only [hcol, hforced, if_true, Device.spareCarries]

theorem Device.row_spareCarries {q : Nat} : (d.spareCarries p r c).row p q =
    (d.setRow p r { d.row p r with forced := false, connected := true }).row p q := by
  unfold Device.spareCarries
  rw [Device.row_standIn, Device.row_setKiteState]

/-- The device once the kite of column c, drained by a hand-over, has left service. -/
def Device.kiteLeft (d : Device) (p r c : Nat) : Device :=
  (d.setRow p r { d.row p r with draining := none }).setKiteState p r c (if (d.row p r).retire then 4 else 5)

theorem Device.kiteDrained_of_handOver (hcol : (d.row p r).col = some c.val) (hdrains : (d.row p r).draining = some true)
    (hempty : d.occupancy p r c = 0) : d.kiteDrained p r = (d.kiteLeft p r c).swapDone p r c := by
  unfold Device.kiteDrained
  simp only [hcol, hdrains, hempty, if_true, Device.kiteLeft]

/-- The device once the spare, drained by a return, is idle again. -/
def Device.spareIdle (d : Device) (p r : Nat) : Device := ((d.setRow p r {}).setKiteState p r 20 2).standIn p r none

theorem Device.kiteDrained_of_return (hcol : (d.row p r).col = some c.val) (hdrains : (d.row p r).draining = some false)
    (hempty : d.occupancy p r 20 = 0) : d.kiteDrained p r = (d.spareIdle p r).swapDone p r c := by
  unfold Device.kiteDrained
  simp only [hcol, hdrains, hempty, if_true, Device.spareIdle]

theorem Device.row_spareIdle {q : Nat} : (d.spareIdle p r).row p q = (d.setRow p r {}).row p q := by
  unfold Device.spareIdle
  rw [Device.row_standIn, Device.row_setKiteState]

end

section
variable (p : Plane) {r c : Group} {s : State}

theorem exec_kiteSpareInService (hlive : s.dev.live p = true) (hcol : (s.dev.row p r).col = some c.val)
    (hforced : (s.dev.row p r).forced = true) (hdue : ∀ q, (s.dev.row p q).returnDue = false) :
    exec (.kiteSpareInService p r) s = .next { s with dev := ((s.dev.spareCarries p r c).bump .kiteSwaps p 0).settle } := by
  have hnone : ∀ q, (((s.dev.spareCarries p r c).bump .kiteSwaps p 0).row p q).returnDue = false := fun q => by
    rw [Device.row_congr _ (quiet_rows.bump ..), Device.row_spareCarries]
    exact Device.returnDue_setRow hdue (by exact hdue r) q
  show execKiteSpareInService p r s = _
  refine State.runOn_eq hlive ?_
  rw [Device.spareInService_of_forced hcol hforced, Device.startReturns_of_none hnone]

theorem exec_kiteDrainComplete_handOver (hlive : s.dev.live p = true) (hcol : (s.dev.row p r).col = some c.val)
    (hdrains : (s.dev.row p r).draining = some true) (hempty : s.dev.occupancy p r c = 0)
    (hdue : ∀ q, (s.dev.row p q).returnDue = false) :
    exec (.kiteDrainComplete p r) s = .next { s with dev := ((s.dev.kiteLeft p r c).swapDone p r c).settle } := by
  have hnone : ∀ q, (((s.dev.kiteLeft p r c).swapDone p r c).row p q).returnDue = false := fun q => by
    rw [Device.row_swapDone, Device.kiteLeft, Device.row_setKiteState]
    exact Device.returnDue_setRow hdue (by exact hdue r) q
  show execKiteDrainComplete p r s = _
  refine State.runOn_eq hlive ?_
  rw [Device.kiteDrained_of_handOver hcol hdrains hempty, Device.startReturns_of_none hnone]

theorem exec_kiteDrainComplete_return (hlive : s.dev.live p = true) (hcol : (s.dev.row p r).col = some c.val)
    (hdrains : (s.dev.row p r).draining = some false) (hempty : s.dev.occupancy p r 20 = 0)
    (hdue : ∀ q, (s.dev.row p q).returnDue = false) :
    exec (.kiteDrainComplete p r) s = .next { s with dev := ((s.dev.spareIdle p r).swapDone p r c).settle } := by
  have hnone : ∀ q, (((s.dev.spareIdle p r).swapDone p r c).row p q).returnDue = false := fun q => by
    rw [Device.row_swapDone, Device.row_spareIdle]
    exact Device.returnDue_setRow hdue rfl q
  show execKiteDrainComplete p r s = _
  refine State.runOn_eq hlive ?_
  rw [Device.kiteDrained_of_return hcol hdrains hempty, Device.startReturns_of_none hnone]

end

/-- Settles O11: the spare in service by `spareCarries`, the kite a hand-over drains by `kiteLeft`, the spare a return drains by
`spareIdle`; no kite waits to return, so nothing follows (`startReturns_of_none`). -/
theorem swapsComplete : Obligations.SwapsComplete := by
  intro s p r c hlive hcol hdue
  refine ⟨fun hforced => ?forced, fun hdrains hempty => ?handOver, fun hdrains hempty => ?returned⟩
  case forced =>
    have hget : ∀ {o : Obj} {i : Nat}, o.computed = false → o ≠ .kiteSwaps →
        ((s.dev.spareCarries p r c).bump .kiteSwaps p 0).settle.get o p i = (s.dev.spareCarries p r c).get o p i := fun hc h =>
      (Device.get_settle _ _ _ _ hc).trans (Device.get_bump_obj _ _ _ _ _ _ _ h)
    have hrow : ((s.dev.spareCarries p r c).bump .kiteSwaps p 0).settle.row p r =
        { s.dev.row p r with forced := false, connected := true } :=
      ((Device.row_settle ..).trans (Device.row_congr _ (quiet_rows.bump ..) p r)).trans
        (Device.row_spareCarries.trans ((Device.row_setRow ..).trans (if_pos ⟨rfl, rfl⟩)))
    have hswaps : (s.dev.spareCarries p r c).get .kiteSwaps p 0 = s.dev.get .kiteSwaps p 0 :=
      (Device.get_standIn_obj (by decide) (by decide)).trans (Device.get_setKiteState_obj (by decide))
    have hcopies : (s.dev.spareCarries p r c).copies = s.dev.copies := by
      unfold Device.spareCarries Device.standIn Device.setKiteState
      simp only [Device.copies_set, Device.copies_setRow]
    refine ⟨_, exec_kiteSpareInService p hlive hcol hforced hdue, rfl, ?_, congrArg RowSt.forced hrow,
      congrArg RowSt.connected hrow, ?_, ?_, ?_, ?_⟩
    · exact (hget rfl (by decide)).trans (Device.kiteState_standIn.trans (Device.kiteState_setKiteState (by decide)))
    · exact (congrArg (bit · r) (hget rfl (by decide))).trans (Device.bit_standIn r.isLt)
    · exact (hget rfl (by decide)).trans (Device.get_standIn_unit rfl (by omega))
    · rw [← hswaps]
      exact (Device.get_settle _ _ _ _ rfl).trans (Device.get_count_narrow _ _ _ _ _ (by decide))
    · exact (quiet_copies.settle _).trans ((quiet_copies.bump ..).trans hcopies)
  case handOver =>
    have hrow : ((s.dev.kiteLeft p r c).swapDone p r c).settle.row p r = { s.dev.row p r with draining := none } :=
      (Device.row_settle ..).trans (Device.row_swapDone.trans
        (Device.row_setKiteState.trans ((Device.row_setRow ..).trans (if_pos ⟨rfl, rfl⟩))))
    refine ⟨_, exec_kiteDrainComplete_handOver p hlive hcol hdrains hempty hdue, rfl, ?_, congrArg RowSt.draining hrow,
      fun hruns => ?_⟩
    · exact (Device.get_settle _ _ _ _ rfl).trans ((Device.get_swapDone_obj (by decide)).trans
        (Device.kiteState_setKiteState (by split <;> decide)))
    · have hruns' : (s.dev.kiteLeft p r c).get .swapCmd p (kiteUnit r c) = 1 :=
        (Device.get_setKiteState_obj (by decide)).trans hruns
      exact (Device.get_settle _ _ _ _ rfl).trans (Device.get_swapDone hruns')
  case returned =>
    have hget : ∀ {o : Obj} {i : Nat}, o.computed = false → o ≠ .swapCmd →
        ((s.dev.spareIdle p r).swapDone p r c).settle.get o p i = (s.dev.spareIdle p r).get o p i := fun hc h =>
      (Device.get_settle _ _ _ _ hc).trans (Device.get_swapDone_obj h)
    refine ⟨_, exec_kiteDrainComplete_return p hlive hcol hdrains hempty hdue, ?_, ?_, ?_, ?_⟩
    · exact (hget rfl (by decide)).trans (Device.kiteState_standIn.trans (Device.kiteState_setKiteState (by decide)))
    · exact (Device.row_settle ..).trans (Device.row_swapDone.trans
        (Device.row_spareIdle.trans ((Device.row_setRow ..).trans (if_pos ⟨rfl, rfl⟩))))
    · exact (congrArg (bit · r) (hget rfl (by decide))).trans (Device.bit_standIn r.isLt)
    · exact (hget rfl (by decide)).trans (Device.get_standIn_unit rfl (by decide))

end Sys2Proof.Machine

/-! ### The condition of every plane stays where frames are taken in (spec/08, spec/10): what may end is a pool's scrub -/

namespace Sys2Proof.Machine

/-- Every plane stands where it stood. -/
def CondsKept (d e : Device) : Prop := ∀ q, (e.plane q).cond = (d.plane q).cond

theorem CondsKept.refl (d : Device) : CondsKept d d := fun _ => rfl
theorem CondsKept.trans {d e f : Device} (h : CondsKept d e) (k : CondsKept e f) : CondsKept d f := fun q => (k q).trans (h q)
theorem CondsKept.of_planes {d e : Device} (h : e.planes = d.planes) : CondsKept d e := fun q => by unfold Device.plane; rw [h]

/-- Every part of the device but the records of its planes. -/
def besidePlanes : Nat := parts_all ^^^ 2 ^ Part.planes.ctorIdx

theorem CondsKept.of_beside {d e : Device} (h : Moves d e objs_all besidePlanes) : CondsKept d e :=
  .of_planes (h.same .planes (by decide))

theorem CondsKept.ite {d a b : Device} {c : Prop} [Decidable c] (ha : CondsKept d a) (hb : CondsKept d b) :
    CondsKept d (if c then a else b) := by
  split
  · exact ha
  · exact hb

theorem CondsKept.foldl {α : Type} {f : Device → α → Device} (hf : ∀ d a, CondsKept d (f d a)) (x : List α) (d : Device) :
    CondsKept d (x.foldl f d) := by
  induction x generalizing d with
  | nil => exact .refl d
  | cons a t ih => exact (hf d a).trans (ih _)

theorem CondsKept.setPlane {d : Device} {p : Nat} {v : PlaneSt} (h : v.cond = (d.plane p).cond) : CondsKept d (d.setPlane p v) :=
  fun q => by
    rw [Device.plane_setPlane]
    split
    · next hq => rw [h, hq]
    · rfl

section
variable {d : Device} {p : Nat}

theorem CondsKept.count {o : Obj} {i n : Nat} : CondsKept d (d.count o p i n) := .of_planes (quiet_planes.count ..)
theorem CondsKept.bump {o : Obj} {i : Nat} : CondsKept d (d.bump o p i) := .of_planes (quiet_planes.bump ..)
theorem CondsKept.emit {e : Device} {x : Out} (h : CondsKept d e) : CondsKept d (e.emit x) := h.trans (.of_planes rfl)
theorem CondsKept.latch {i b u : Nat} : CondsKept d (d.latch p i b u) := .of_planes (quiet_planes.latch ..)

/-! #### Buffers and compression contexts -/

theorem CondsKept.poolScrubDone {k : Nat} : CondsKept d (d.poolScrubDone p k) := by
  have hends : CondsKept d (d.setPlane p { d.plane p with scrub := none }) := CondsKept.setPlane rfl
  unfold Device.poolScrubDone
  refine CondsKept.ite (hends.trans (.of_beside ?_)) (.refl d)
  exact (((Moves.refl ..).setPool (Mask.of (by decide)) (Mask.of (by decide))).set (by decide) (by decide)).cacheSpill
    (Mask.of (by decide)) (Mask.of (by decide))

theorem CondsKept.awaitRefill {k : Nat} : CondsKept d (d.awaitRefill p k) :=
  CondsKept.ite
    (CondsKept.poolScrubDone.trans (.of_beside ((Moves.refl ..).cacheRefill (Mask.of (by decide)) (Mask.of (by decide)))))
    (.refl d)

theorem CondsKept.alloc {k req : Nat} : CondsKept d (d.alloc p k req).1 := by
  have hready : CondsKept d ((d.dropStale p k req).awaitRefill p k) := (CondsKept.of_beside
    ((Moves.refl ..).dropStale (Mask.of (by decide)) (Mask.of (by decide)))).trans CondsKept.awaitRefill
  unfold Device.alloc
  generalize (d.dropStale p k req).awaitRefill p k = e at hready ⊢
  split
  · exact CondsKept.bump.trans CondsKept.latch
  dsimp only
  split
  · exact (hready.trans CondsKept.bump).trans CondsKept.latch
  have htaken : ∀ v n m, Moves e ((e.fresh.2.setPool p k v).highWater .quotaHighWater p n m) objs_all besidePlanes := fun _ _ _ =>
    (((Moves.refl ..).fresh (Mask.of (by decide)) (Mask.of (by decide))).setPool (Mask.of (by decide))
      (Mask.of (by decide))).highWater (by decide) (by decide)
  exact hready.trans (.of_beside (Moves.ite (fun _ => (htaken ..).set (by decide) (by decide)) (fun _ => htaken ..)))

theorem CondsKept.allocProj {k n : Nat} {l : List Nat} : CondsKept d (d.allocProj p k n l).1 := by
  induction n generalizing d l with
  | zero => exact .refl d
  | succ n ih =>
    unfold Device.allocProj
    dsimp only
    split
    · exact CondsKept.alloc.trans ih
    · exact CondsKept.alloc.trans (.of_beside ((Moves.refl ..).freeAll (Mask.of (by decide)) (Mask.of (by decide))))

theorem CondsKept.cmpStart {k slot step launch blocks : Nat} : CondsKept d (d.cmpStart p k slot step launch blocks).1 := by
  unfold Device.cmpStart
  dsimp only
  split
  · exact CondsKept.bump
  · split
    · exact CondsKept.allocProj.trans CondsKept.bump
    · exact CondsKept.allocProj.trans (.of_beside ((((Moves.refl ..).setCctx (Mask.of (by decide)) (Mask.of (by decide))).set
        (by decide) (by decide)).noteCctx (Mask.of (by decide)) (Mask.of (by decide))))

/-! #### Collective slots -/

theorem CondsKept.failSlot {e : Device} {sl st : Nat} (h : CondsKept d e) : CondsKept d (e.failSlot p sl st) :=
  h.trans (.of_beside ((Moves.refl ..).failSlot (Mask.of (by decide)) (Mask.of (by decide))))

theorem CondsKept.stepLaunch {e : Device} {sl i x desc : Nat} (h : CondsKept d e) : CondsKept d (e.stepLaunch p sl i x desc).1 :=
  h.trans (.of_beside ((Moves.refl ..).stepLaunch (Mask.of (by decide)) (Mask.of (by decide))))

theorem CondsKept.setSlot {e : Device} {sl : Nat} {v : SlotSt} (h : CondsKept d e) : CondsKept d (e.setSlot p sl v) :=
  h.trans (.of_planes rfl)

theorem CondsKept.stepAct {sl : Nat} : CondsKept d (d.stepAct p sl) := by
  unfold Device.stepAct
  extract_lets i w k x live n src d1 orFail own r1 desc again r2 d2 r3 src0 d9 t b desc2 r4 src3
  have hacts : CondsKept d d1 := (CondsKept.refl d).setSlot
  clear_value d1
  have hfails : ∀ r : Device × Bool, CondsKept d r.1 → CondsKept d (orFail r) := fun r hr => CondsKept.ite hr hr.failSlot
  clear_value orFail
  have hreduce : CondsKept d r1.1 := by
    unfold r1
    split
    · exact hacts
    · exact hacts.stepLaunch
  clear_value r1
  have hcompress : CondsKept d r2.1 := by
    unfold r2
    split
    · exact hacts.trans (.of_beside ((Moves.refl ..).cmpRestart (Mask.of (by decide)) (Mask.of (by decide))))
    · exact hacts.trans CondsKept.cmpStart
  clear_value r2
  have hlaunched : CondsKept d r3.1 := hcompress.stepLaunch
  clear_value r3
  have hcombine : CondsKept d r4.1 := hacts.stepLaunch
  clear_value r4
  have hgather : CondsKept d d9 := CondsKept.ite hacts.setSlot hacts
  clear_value d9
  refine CondsKept.ite (hacts.trans (.of_beside ((Moves.refl ..).signalObj (Mask.of (by decide)) (Mask.of (by decide))))) ?_
  refine CondsKept.ite (hfails _ hacts.stepLaunch) ?_
  refine CondsKept.ite (CondsKept.ite hreduce.failSlot ?reduce) ?_
  case reduce =>
    split
    · next hnamed => exact hreduce.trans (.of_beside (Moves.nameDest hnamed (Moves.refl ..) (Mask.of (by decide)) (Mask.of (by decide))))
    · exact hreduce.failSlot
  refine CondsKept.ite (CondsKept.ite hcompress.failSlot (CondsKept.ite hlaunched.failSlot ?compress)) ?_
  case compress =>
    exact hlaunched.trans (.of_beside ((Moves.refl ..).sendMsg (Mask.of (by decide)) (Mask.of (by decide))))
  refine CondsKept.ite ?forward ?_
  case forward =>
    split
    · next hnamed => exact hacts.trans (.of_beside (Moves.nameDest hnamed (Moves.refl ..) (Mask.of (by decide)) (Mask.of (by decide))))
    · exact hacts.failSlot
  refine CondsKept.ite ?relay ?_
  case relay =>
    split
    · next hfilled => exact hgather.trans (.of_beside (Moves.fillSet hfilled (Moves.refl ..) (Mask.of (by decide)) (Mask.of (by decide))))
    · exact hgather.failSlot
  refine CondsKept.ite hacts.setSlot (CondsKept.ite hacts.setSlot (CondsKept.ite ?combine hacts))
  case combine =>
    exact CondsKept.ite (hacts.trans CondsKept.bump).failSlot (CondsKept.ite (hcombine.trans (.of_planes rfl)) hcombine.failSlot)

theorem CondsKept.slotMove {e : Device} {sl : Nat} (h : d.slotMove p sl = some e) : CondsKept d e := by
  unfold Device.slotMove at h
  dsimp only at h
  split at h
  · cases h
  split at h
  · cases h
    exact .of_beside ((Moves.refl ..).endLaunch (Mask.of (by decide)) (Mask.of (by decide)))
  split at h
  · cases h
    exact CondsKept.stepAct
  split at h
  · cases h
    exact .of_beside ((Moves.refl ..).forwardUp (Mask.of (by decide)) (Mask.of (by decide)))
  split at h
  · cases h
    exact .of_beside ((Moves.refl ..).countsClose (Mask.of (by decide)) (Mask.of (by decide)))
  split at h
  · cases h
    exact .of_beside ((Moves.refl ..).leaveStep (Mask.of (by decide)) (Mask.of (by decide)))
  · cases h

theorem CondsKept.runSlots {fuel : Nat} : CondsKept d (d.runSlots p fuel) := by
  induction fuel generalizing d with
  | zero => exact .refl d
  | succ fuel ih =>
    unfold Device.runSlots
    extract_lets e
    have hready : CondsKept d e := .of_beside (((((Moves.refl ..).emitReady (Mask.of (by decide)) (Mask.of (by decide))).fireNotifies
      (Mask.of (by decide)) (Mask.of (by decide))).boundaries (Mask.of (by decide)) (Mask.of (by decide))).reforms
        (Mask.of (by decide)) (Mask.of (by decide)))
    clear_value e
    split
    · next f hf =>
      obtain ⟨sl, -, hmoved⟩ := List.exists_of_findSome?_eq_some hf
      exact (hready.trans (CondsKept.slotMove hmoved)).trans ih
    · exact hready

theorem CondsKept.run {e : Device} (h : CondsKept d e) : CondsKept d (e.run p) := h.trans CondsKept.runSlots

/-! #### What the lookup relays and where a frame goes -/

theorem CondsKept.noteGather {e : Device} {sl m n : Nat} (h : CondsKept d e) : CondsKept d (e.noteGather p sl m n) := h.setSlot.run

theorem CondsKept.noteRelay {e : Device} {f : Frame} (h : CondsKept d e) : CondsKept d (e.noteRelay p f) := by
  unfold Device.noteRelay
  split
  · exact CondsKept.ite h.setSlot.run h
  · exact h

theorem CondsKept.noteToken {e : Device} {sl x : Nat} {last : Bool} (h : CondsKept d e) : CondsKept d (e.noteToken p sl x last) :=
  CondsKept.ite h.setSlot.run h

theorem CondsKept.onward {input : Nat} {f : Frame} {w : Onward} {direct : Bool} : CondsKept d (d.onward p input f w direct) :=
  .of_beside ((Moves.refl ..).onward (Mask.of (by decide)) (Mask.of (by decide)))

theorem CondsKept.creditBack {e : Device} {input : Nat} {f : Frame} (h : CondsKept d e) : CondsKept d (e.creditBack p input f) :=
  h.trans (.of_beside ((Moves.refl ..).creditBack (Mask.of (by decide)) (Mask.of (by decide))))

/-- The credit of a frame that is not stored returns where it came in direct. -/
theorem CondsKept.back {e : Device} {input : Nat} {f : Frame} {direct : Bool} (h : CondsKept d e) :
    CondsKept d (if direct then e.creditBack p input f else e) := CondsKept.ite h.creditBack h

theorem CondsKept.dispatchFrame {input : Nat} {f : Frame} {direct : Bool} : CondsKept d (d.dispatchFrame p input f direct) := by
  unfold Device.dispatchFrame
  extract_lets back engine r
  have hrouted : CondsKept d r.1 := .of_beside ((Moves.refl ..).route (Mask.of (by decide)) (Mask.of (by decide)))
  clear_value r
  refine CondsKept.ite ?gather (CondsKept.ite ?token ?routed)
  case gather =>
    split
    · exact CondsKept.onward.noteGather
    · exact CondsKept.back (.refl d)
  case token =>
    split
    · exact CondsKept.onward.noteToken
    · exact CondsKept.back CondsKept.bump
  case routed =>
    split
    · have hsent : ∀ w, CondsKept d (r.1.onward p input f w direct) := fun w => hrouted.trans CondsKept.onward
      exact CondsKept.ite (hsent _).noteRelay (hsent _)
    · have htaken : ∀ l, CondsKept d { r.1 with inbox := l } := fun l => hrouted.trans (.of_planes rfl)
      exact CondsKept.ite (htaken _) (CondsKept.back (htaken _))
    · refine CondsKept.back (hrouted.trans (.of_beside ?_))
      exact (Moves.refl ..).routeMiss (Mask.of (by decide)) (Mask.of (by decide))
    · exact CondsKept.back (hrouted.trans CondsKept.bump)

/-! #### Resequencing -/

theorem CondsKept.setFlow {w : Flow} : CondsKept d (d.setFlow w) := CondsKept.ite (.of_planes rfl) (.of_planes rfl)

theorem CondsKept.passHeld {id : FlowId} {h : Held} : CondsKept d (d.passHeld p id h) :=
  (CondsKept.of_beside ((Moves.refl ..).free (Mask.of (by decide)) (Mask.of (by decide)))).trans CondsKept.dispatchFrame

theorem CondsKept.flowRun {id : FlowId} {fuel : Nat} {force : Bool} : CondsKept d (d.flowRun p id fuel force) := by
  induction fuel generalizing d force with
  | zero => exact .refl d
  | succ fuel ih =>
    unfold Device.flowRun
    split
    · exact .refl d
    · split
      · exact (CondsKept.setFlow.trans CondsKept.passHeld).trans ih
      · split
        · exact CondsKept.ite (((CondsKept.setFlow.trans CondsKept.count).trans CondsKept.latch).trans ih) (.refl d)
        · exact .refl d

theorem CondsKept.reseqFrame {input : Nat} {f : Frame} : CondsKept d (d.reseqFrame p input f) := by
  unfold Device.reseqFrame
  dsimp only
  split
  · exact CondsKept.ite ((CondsKept.bump.trans CondsKept.latch).trans CondsKept.dispatchFrame)
      (CondsKept.setFlow.trans CondsKept.dispatchFrame)
  · next w _ =>
    have hheard := CondsKept.setFlow (d := d) (w := { w with lastRx := d.clock })
    refine hheard.trans (CondsKept.ite ?expected (CondsKept.ite ?held ?dropped))
    case expected => exact (CondsKept.setFlow.trans CondsKept.dispatchFrame).trans CondsKept.flowRun
    case held =>
      split
      · exact (CondsKept.alloc.trans CondsKept.bump).creditBack
      · exact (CondsKept.alloc.trans CondsKept.setFlow).creditBack
    case dropped => exact CondsKept.bump.creditBack

theorem CondsKept.intake {input : Nat} {f : Frame} : CondsKept d (d.intake p input f) :=
  CondsKept.ite CondsKept.reseqFrame CondsKept.dispatchFrame

/-! #### The long-haul line -/

theorem CondsKept.lhIntake {t : Nat} {f : Frame} : CondsKept d (d.lhIntake p t f) := by
  have hrejected : ∀ b u, CondsKept d ((d.bump .lhRxReject p 0).causeFabric p b u) := fun _ _ =>
    CondsKept.bump.trans CondsKept.latch
  unfold Device.lhIntake
  refine CondsKept.ite CondsKept.bump ?_
  split
  · exact hrejected _ _
  · exact hrejected _ _
  · exact CondsKept.bump
  · exact hrejected _ _
  · exact hrejected _ _
  · refine CondsKept.ite (.of_beside ((Moves.refl ..).ptpTaken (Mask.of (by decide)) (Mask.of (by decide)))) ?_
    split
    · exact CondsKept.intake
    · exact hrejected _ _

theorem CondsKept.setTrib {t : Nat} {s : TribSt} : CondsKept d (d.setTrib p t s) := .of_planes rfl

theorem CondsKept.parseStream {t fuel : Nat} : CondsKept d (d.parseStream p t fuel) := by
  induction fuel generalizing d with
  | zero => exact .refl d
  | succ fuel ih =>
    unfold Device.parseStream
    exact CondsKept.ite (.refl d) (CondsKept.ite (.refl d) ((CondsKept.setTrib.trans CondsKept.lhIntake).trans ih))

theorem CondsKept.deliverBytes {t firstOff : Nat} {b : Bytes} : CondsKept d (d.deliverBytes p t firstOff b) := by
  unfold Device.deliverBytes
  exact (CondsKept.count.trans (CondsKept.ite CondsKept.setTrib (CondsKept.ite (.refl _) CondsKept.setTrib))).trans
    CondsKept.parseStream

theorem CondsKept.openSlot {t : Nat} {s : RxSlot} : CondsKept d (d.openSlot p t s).1 :=
  .of_beside ((Moves.refl ..).openSlot (Mask.of (by decide)) (Mask.of (by decide)))

theorem CondsKept.dropHolds {t : Nat} : CondsKept d (d.dropHolds p t) :=
  .of_beside ((Moves.refl ..).dropHolds (Mask.of (by decide)) (Mask.of (by decide)))

theorem CondsKept.trimRx {t : Nat} : CondsKept d (d.trimRx p t) :=
  .of_beside ((Moves.refl ..).trimRx (Mask.of (by decide)) (Mask.of (by decide)))

/-- The expected slot moves on and its acknowledgement is queued. -/
theorem CondsKept.expectNext {t e : Nat} : CondsKept d ((d.set .tribRxExpected p t e).queueAck p t) :=
  .of_beside (((Moves.refl ..).set (by decide) (by decide)).queueAck (Mask.of (by decide)) (Mask.of (by decide)))

theorem CondsKept.deliverRun {t fuel : Nat} : CondsKept d (d.deliverRun p t fuel) := by
  induction fuel generalizing d with
  | zero => exact .refl d
  | succ fuel ih =>
    unfold Device.deliverRun
    dsimp only
    split
    · exact .refl d
    · split
      · exact (CondsKept.openSlot.trans CondsKept.setTrib).trans CondsKept.trimRx
      · exact ((((CondsKept.openSlot.trans CondsKept.setTrib).trans CondsKept.expectNext).trans
          CondsKept.deliverBytes).trans CondsKept.dropHolds).trans ih

theorem CondsKept.settleTrib {t : Nat} : CondsKept d (d.settleTrib p t) :=
  CondsKept.deliverRun.trans (.of_beside ((Moves.refl ..).trimGaps (Mask.of (by decide)) (Mask.of (by decide))))

theorem CondsKept.growBufs {req per n fuel : Nat} {l : List Nat} : CondsKept d (d.growBufs p req per n fuel l).1 := by
  induction fuel generalizing d l with
  | zero => exact .refl d
  | succ fuel ih =>
    unfold Device.growBufs
    dsimp only
    split
    · exact .refl d
    · split
      · exact CondsKept.alloc
      · split
        · exact CondsKept.alloc.trans ih
        · exact (CondsKept.alloc.trans ih).trans (.of_beside ((Moves.refl ..).free (Mask.of (by decide)) (Mask.of (by decide))))

theorem CondsKept.slotRx {l mfn fn k : Nat} {b : Bytes} {decided : Bool} : CondsKept d (d.slotRx p l mfn fn k b decided) := by
  unfold Device.slotRx
  extract_lets th h len t tsn s e n cnt opened slot r x
  have hcounted : ∀ o i, CondsKept d (d.bump o p i) := fun _ _ => CondsKept.bump
  have hopened : CondsKept d opened := .of_planes rfl
  have hgrown : CondsKept d r.1 := hopened.trans CondsKept.growBufs
  have hslot : CondsKept d x.1 := hgrown.trans CondsKept.openSlot
  clear_value x r opened
  refine CondsKept.ite (hcounted _ _) (CondsKept.ite (.refl d) (CondsKept.ite (hcounted _ _) (CondsKept.ite (hcounted _ _)
    (CondsKept.ite (hcounted _ _) (CondsKept.ite (hcounted _ _) (CondsKept.ite ?limited ?stored))))))
  case limited =>
    exact CondsKept.ite (hopened.trans CondsKept.latch) hopened
  case stored =>
    split
    · exact (hgrown.trans CondsKept.setTrib).trans CondsKept.settleTrib
    · refine CondsKept.ite ?_ (hgrown.trans CondsKept.bump)
      split
      · exact hslot
      · exact ((hslot.trans CondsKept.expectNext).trans CondsKept.deliverBytes).trans CondsKept.settleTrib

theorem CondsKept.areaRx {l mfn fn : Nat} {area : Bytes} {decided : Bool} : CondsKept d (d.areaRx p l mfn fn area decided) :=
  CondsKept.foldl (fun _ _ => CondsKept.slotRx) _ _

theorem CondsKept.decideStripe {s : Stripe} : CondsKept d (d.decideStripe p s) := by
  unfold Device.decideStripe
  extract_lets th mfn page pp er data whole e1 e2 e3 touched e4 known e5
  have htrimmed : CondsKept d e2 := CondsKept.of_beside (((Moves.refl ..).setTether (Mask.of (by decide)) (Mask.of (by decide))).trimParity
    (Mask.of (by decide)) (Mask.of (by decide)))
  have hdropped : CondsKept d e4 := (htrimmed.trans (.of_planes rfl)).trans (CondsKept.foldl (fun _ _ => CondsKept.dropHolds) _ _)
  have hrepaired : CondsKept d e5 := hdropped.trans CondsKept.bump
  clear_value e4 e5
  refine CondsKept.ite hdropped (CondsKept.ite (hrepaired.trans (CondsKept.foldl (fun _ _ => CondsKept.areaRx) _ _)) ?_)
  exact hdropped.trans (.of_beside ((Moves.refl ..).noteLoss (Mask.of (by decide)) (Mask.of (by decide))))

theorem CondsKept.decideStripes : CondsKept d (d.decideStripes p) := by
  unfold Device.decideStripes
  have hnak : ∀ (e : Device) (t : Nat), CondsKept e (e.nakGaps p t) := fun _ _ =>
    .of_beside ((Moves.refl ..).nakGaps (Mask.of (by decide)) (Mask.of (by decide)))
  exact CondsKept.ite (.refl d) ((CondsKept.foldl (fun _ _ => CondsKept.decideStripe) _ _).trans (CondsKept.foldl hnak _ _))

/-- A fault event of a channel makes a recovery due at most. -/
theorem CondsKept.chanFault {ch : Nat} : CondsKept d (d.chanFault p ch) := by
  unfold Device.chanFault
  extract_lets s e pl f
  have hcounted : CondsKept d e := .of_planes (quiet_planes.count ..)
  have hpl : pl.cond = (e.plane p).cond := rfl
  clear_value e pl
  have hdue : CondsKept d f := CondsKept.ite (hcounted.trans (CondsKept.setPlane hpl)) hcounted
  exact CondsKept.ite (.refl d) (hdue.trans (.of_beside ((Moves.refl ..).scFail (Mask.of (by decide)) (Mask.of (by decide)))))

theorem CondsKept.leaveBundle {l : Nat} {fault : Bool} : CondsKept d (d.leaveBundle p l fault) := by
  have hleft : CondsKept d (d.set .lhBundle p 0 (clrBit (d.get .lhBundle p 0) l)) := .of_planes rfl
  exact CondsKept.ite ((CondsKept.ite (hleft.trans CondsKept.chanFault) hleft).trans CondsKept.decideStripes) (.refl d)

/-- A link out of frame changes no plane's condition. -/
theorem CondsKept.goOof {l : Nat} {fault : Bool} : CondsKept d (d.goOof p l fault) := by
  have hlink : ∀ v, CondsKept d (d.setLink p l v) := fun _ => .of_planes rfl
  exact ((hlink _).trans CondsKept.leaveBundle).trans
    (.of_beside ((Moves.refl ..).lhRefresh (Mask.of (by decide)) (Mask.of (by decide))))

end
end Sys2Proof.Machine

/-! ### Faults of kites and spare kites (spec/04 R85, R87; spec/19 R410, R485) -/

namespace Sys2Proof.Machine

/-- Every object but the states of kites. -/
def besideKites : Nat := objs_all ^^^ 2 ^ Obj.kiteState.ctorIdx

/-- Every part; no latched cause is taken away. -/
def latchesKept : Nat := 2 ^ 63 - 1

section
variable {d e : Device} {p r c k : Nat}

theorem Moves.kiteState (h : Moves d e besideKites latchesKept) : e.kiteState p r k = d.kiteState p r k :=
  h.get .kiteState _ _ (by decide)

theorem Moves.latchKept {mo i b : Nat} (h : Moves d e mo latchesKept) (hb : b < 32) (hbit : bit (d.get .cause p i) b = true) :
    bit (e.get .cause p i) b = true := h.latched (by decide) p i b hb hbit

/-! #### A fault event -/

theorem Device.moves_chanFault (d : Device) (p ch : Nat) : Moves d (d.chanFault p ch) objs_chanFault parts_chanFault :=
  (Moves.refl ..).chanFault (Mask.le_refl _) (Mask.le_refl _)

theorem Device.kiteState_chanFault {ch : Nat} : (d.chanFault p ch).kiteState p r k = d.kiteState p r k :=
  (Device.moves_chanFault d p ch).get .kiteState _ _ (by decide)

theorem Device.row_chanFault {ch : Nat} : (d.chanFault p ch).row p r = d.row p r :=
  Device.row_congr _ ((Device.moves_chanFault d p ch).same .rows (by decide)) p r

theorem Device.spareTested_chanFault {ch : Nat} : (d.chanFault p ch).spareTested p r = d.spareTested p r := by
  have hbists : (d.chanFault p ch).bists = d.bists := (Device.moves_chanFault d p ch).same .bists (by decide)
  unfold Device.spareTested
  rw [hbists]

theorem Device.spareReady_chanFault {ch : Nat} : (d.chanFault p ch).spareReady p r c = d.spareReady p r c := by
  unfold Device.spareReady
  rw [Device.row_chanFault, Device.kiteState_chanFault, Device.spareTested_chanFault]

/-- A plane without a unit under test has no spare under test. -/
theorem Device.spareTested_of_none (h : (d.bist p).unit = none) : d.spareTested p r = false := by
  have hunit : (Tbl.get d.bists (p, 0) ({} : BistSt)).unit = none := h
  unfold Device.spareTested
  rw [hunit]
  rfl

/-! #### The plane is retired (R87, R411) -/

/-- From a plane that is not yet retired on: it stands retired, with the switch cause 4 and the health cause 1. -/
theorem Device.retirePlane_retires {unit : Nat} (h : (d.plane p).cond ≠ .retired) :
    ((d.retirePlane p unit).plane p).cond = .retired ∧ bit ((d.retirePlane p unit).get .cause p 2) 4 = true ∧
      bit ((d.retirePlane p unit).get .cause p 10) 1 = true := by
  unfold Device.retirePlane
  rw [if_neg h]
  extract_lets ch e1 e2 e3 e4 pl e5 e6
  have hhealth : bit (e1.get .cause p 10) 1 = true := Device.bit_latch _ _ _ _ _ (by decide)
  clear_value e1
  have hswitch : bit (e2.get .cause p 2) 4 = true := Device.bit_latch _ _ _ _ _ (by decide)
  have hhealth2 : bit (e2.get .cause p 10) 1 = true := Moves.latchKept (mo := objs_all)
    ((Moves.refl e1 ..).causeSwitch (Mask.of (by decide)) (Mask.of (by decide))) (by decide) hhealth
  clear_value e2
  have hports : Moves e2 e4 objs_all latchesKept :=
    ((Moves.refl ..).removeCircuits (Mask.of (by decide)) (Mask.of (by decide))).foldl
      (fun _ _ => (Moves.refl ..).leavePort (Mask.of (by decide)) (Mask.of (by decide)))
  clear_value e4
  have hretired : (e5.plane p).cond = .retired := by
    have hself : e5.plane p = { pl with cond := .retired, recoveryDue := false, recoverFor := [] } := by
      rw [Device.plane_setPlane, if_pos rfl]
    rw [hself]
  have hplane : Moves e2 e5 objs_all latchesKept := hports.setPlane (Mask.of (by decide)) (Mask.of (by decide))
  clear_value e5
  have hdark : Moves e5 e6 objs_all latchesKept := (Moves.refl ..).foldl (fun _ _ =>
    ((Moves.refl ..).goOof (Mask.of (by decide)) (Mask.of (by decide))).emit (Mask.of (by decide)) (Mask.of (by decide)))
  have hconds : CondsKept e5 e6 := CondsKept.foldl (fun _ _ => CondsKept.goOof.emit) _ _
  clear_value e6
  have hall : Moves e2 e6.reviewReasons objs_all latchesKept :=
    (hplane.step hdark).reviewReasons (Mask.of (by decide)) (Mask.of (by decide))
  have hreviewed : CondsKept e6 e6.reviewReasons :=
    .of_beside ((Moves.refl ..).reviewReasons (Mask.of (by decide)) (Mask.of (by decide)))
  exact ⟨((hreviewed p).trans (hconds p)).trans hretired, hall.latchKept (by decide) hswitch, hall.latchKept (by decide) hhealth2⟩

/-- The same after the fault event that retires a live plane. -/
theorem Device.retirePlane_of_live {ch unit : Nat} (h : d.live p = true) :
    (((d.chanFault p ch).retirePlane p unit).plane p).cond = .retired ∧
      bit (((d.chanFault p ch).retirePlane p unit).get .cause p 2) 4 = true ∧
      bit (((d.chanFault p ch).retirePlane p unit).get .cause p 10) 1 = true := by
  refine Device.retirePlane_retires (fun hretired => ?_)
  rw [CondsKept.chanFault p] at hretired
  unfold Device.live at h
  rw [hretired] at h
  cases h

theorem Device.live_of_retired (h : (d.plane p).cond = .retired) : d.live p = false := by
  unfold Device.live
  rw [h]

/-! #### The spare stands in (R85) -/

/-- The kite closes and its spare takes its column; cause 1 says so. -/
theorem Device.forceSwap_closes (hk : kiteUnit r c ≠ kiteUnit r 20) :
    (d.forceSwap p r c).1.kiteState p r c = 5 ∧ bit ((d.forceSwap p r c).1.get .cause p 2) 1 = true := by
  refine ⟨?_, Device.bit_latch _ _ _ _ _ (by decide)⟩
  unfold Device.forceSwap
  extract_lets s held e1 e2 e3 e4 x
  have hclosed : e2.kiteState p r c = 5 := Device.kiteState_setKiteState (by decide)
  have hspare : e3.kiteState p r c = e2.kiteState p r c := by
    unfold e3
    split
    · rfl
    · exact Device.kiteState_setKiteState_ne hk
  have hdone : e4.kiteState p r c = e3.kiteState p r c := by
    unfold e4
    split
    · exact Device.get_swapDone_obj (by decide)
    · rfl
  have hlost : Moves e4 (x.1.causeSwitch p 1 (kiteUnit r c)) besideKites latchesKept :=
    ((Moves.refl ..).loseKite (Mask.of (by decide)) (Mask.of (by decide))).causeSwitch (Mask.of (by decide)) (Mask.of (by decide))
  exact ((hlost.kiteState.trans hdone).trans hspare).trans hclosed

/-- The forced swap with what it takes along: the channel's state, the contexts that lost frames abort and the health cause. -/
def Device.failOver (d : Device) (p r c ch : Nat) : Device :=
  ((d.forceSwap p r c).2.foldl (fun d f => d.lossAbort p f) ((d.forceSwap p r c).1.setChanState p ch 2)).causeHealth p 2 ch

theorem Device.failOver_closes {ch : Nat} (hk : kiteUnit r c ≠ kiteUnit r 20) :
    (d.failOver p r c ch).kiteState p r c = 5 ∧ bit ((d.failOver p r c ch).get .cause p 2) 1 = true ∧
      bit ((d.failOver p r c ch).get .cause p 10) 2 = true := by
  obtain ⟨hclosed, hswitch⟩ := Device.forceSwap_closes (d := d) (p := p) hk
  have hrest : Moves (d.forceSwap p r c).1 (d.failOver p r c ch) besideKites latchesKept :=
    (((Moves.refl ..).setChanState (Mask.of (by decide)) (Mask.of (by decide))).foldl
      (fun _ _ => (Moves.refl ..).lossAbort (Mask.of (by decide)) (Mask.of (by decide)))).causeHealth
        (Mask.of (by decide)) (Mask.of (by decide))
  exact ⟨hrest.kiteState.trans hclosed, hrest.latchKept (by decide) hswitch, Device.bit_latch _ _ _ _ _ (by decide)⟩

/-- The second fault within the hour: the unit is retired for good (R410). -/
def Device.closeForGood (d : Device) (p r k ch : Nat) : Device := ((d.markRetired p ch).setKiteState p r k 4).reviewReasons

theorem Device.kiteState_closeForGood {ch : Nat} : (d.closeForGood p r k ch).kiteState p r k = 4 :=
  (Moves.kiteState ((Moves.refl ..).reviewReasons (Mask.of (by decide)) (Mask.of (by decide)))).trans
    (Device.kiteState_setKiteState (by decide))

theorem Device.moves_closeForGood {ch : Nat} : Moves d (d.closeForGood p r k ch) objs_all latchesKept :=
  (((Moves.refl ..).markRetired (Mask.of (by decide)) (Mask.of (by decide))).set (by decide) (by decide)).reviewReasons
    (Mask.of (by decide)) (Mask.of (by decide))

/-! #### The two commands -/

theorem contains_serving {v : Nat} (h : v = 0 ∨ v = 3) : [0, 3].contains v = true := by
  rcases h with rfl | rfl
  · rfl
  · rfl

theorem Device.kiteFault_spent (hlive : d.live p = true) (hunit : (d.bist p).unit = none)
    (hstate : d.kiteState p r c = 0 ∨ d.kiteState p r c = 3) (hspent : d.spareReady p r c = false) :
    d.kiteFault p r c = (d.chanFault p (chan 3 (21 * r + c))).retirePlane p (kiteUnit r c) := by
  unfold Device.kiteFault
  simp only [hlive, hunit, contains_serving hstate, Device.spareReady_chanFault, hspent, reduceCtorEq, decide_false,
    Bool.false_and, Bool.not_true, Bool.not_false, Bool.false_eq_true, if_false, if_true]

theorem Device.kiteFault_failOver (hlive : d.live p = true) (hunit : (d.bist p).unit = none)
    (hstate : d.kiteState p r c = 0 ∨ d.kiteState p r c = 3) (hready : d.spareReady p r c = true) :
    d.kiteFault p r c =
      let ch := chan 3 (21 * r + c)
      let e := (d.chanFault p ch).failOver p r c ch
      if d.secondFault p ch then e.closeForGood p r c ch else e := by
  have htested : ∀ ch, (d.chanFault p ch).spareTested p r = false := fun _ =>
    Device.spareTested_chanFault.trans (Device.spareTested_of_none hunit)
  unfold Device.kiteFault Device.failOver Device.closeForGood
  simp only [hlive, hunit, contains_serving hstate, htested, Device.spareReady_chanFault, hready, reduceCtorEq, decide_false,
    Bool.false_and, Bool.not_true, Bool.false_eq_true, if_false]

theorem Device.spareKiteFault_idle (hlive : d.live p = true) (hunit : (d.bist p).unit = none) (hstate : d.kiteState p r 20 = 2)
    (hforced : (d.row p r).forced = false) :
    d.spareKiteFault p r =
      let ch := chan 3 (21 * r + 20)
      let e := ((d.chanFault p ch).setKiteState p r 20 5).causeSwitch p 1 (kiteUnit r 20)
      if d.secondFault p ch then e.closeForGood p r 20 ch else e.setChanState p ch 3 := by
  unfold Device.spareKiteFault
  simp [hlive, hunit, hstate, hforced, Device.closeForGood]

theorem Device.spareKiteFault_standing (hlive : d.live p = true) (hunit : (d.bist p).unit = none)
    (hstate : d.kiteState p r 20 = 1) :
    d.spareKiteFault p r = (d.chanFault p (chan 3 (21 * r + 20))).retirePlane p (kiteUnit r 20) := by
  unfold Device.spareKiteFault
  simp [hlive, hunit, hstate]

/-- With its spare ready the kite closes, for good the second time, and both causes stand. -/
theorem Device.kiteFault_ready (hlive : d.live p = true) (hunit : (d.bist p).unit = none)
    (hstate : d.kiteState p r c = 0 ∨ d.kiteState p r c = 3) (hready : d.spareReady p r c = true)
    (hk : kiteUnit r c ≠ kiteUnit r 20) :
    (d.kiteFault p r c).kiteState p r c = (if d.secondFault p (chan 3 (21 * r + c)) then 4 else 5) ∧
      bit ((d.kiteFault p r c).get .cause p 2) 1 = true ∧ bit ((d.kiteFault p r c).get .cause p 10) 2 = true := by
  rw [Device.kiteFault_failOver hlive hunit hstate hready]
  dsimp only
  generalize chan 3 (21 * r + c) = ch
  obtain ⟨hclosed, hswitch, hhealth⟩ := Device.failOver_closes (d := d.chanFault p ch) (p := p) (ch := ch) hk
  split
  · exact ⟨Device.kiteState_closeForGood, Device.moves_closeForGood.latchKept (by decide) hswitch,
      Device.moves_closeForGood.latchKept (by decide) hhealth⟩
  · exact ⟨hclosed, hswitch, hhealth⟩

/-- An idle spare closes, for good the second time, and cause 1 stands. -/
theorem Device.spareKiteFault_closes (hlive : d.live p = true) (hunit : (d.bist p).unit = none)
    (hstate : d.kiteState p r 20 = 2) (hforced : (d.row p r).forced = false) :
    (d.spareKiteFault p r).kiteState p r 20 = (if d.secondFault p (chan 3 (21 * r + 20)) then 4 else 5) ∧
      bit ((d.spareKiteFault p r).get .cause p 2) 1 = true := by
  rw [Device.spareKiteFault_idle hlive hunit hstate hforced]
  extract_lets ch e
  have hclosed : e.kiteState p r 20 = 5 :=
    (Moves.kiteState ((Moves.refl ..).causeSwitch (Mask.of (by decide)) (Mask.of (by decide)))).trans
      (Device.kiteState_setKiteState (by decide))
  have hswitch : bit (e.get .cause p 2) 1 = true := Device.bit_latch _ _ _ _ _ (by decide)
  clear_value e
  have htested : Moves e (e.setChanState p ch 3) besideKites latchesKept :=
    (Moves.refl ..).setChanState (Mask.of (by decide)) (Mask.of (by decide))
  split
  · exact ⟨Device.kiteState_closeForGood, Device.moves_closeForGood.latchKept (by decide) hswitch⟩
  · exact ⟨htested.kiteState.trans hclosed, htested.latchKept (by decide) hswitch⟩

theorem Device.kiteState_settle : d.settle.kiteState p r k = d.kiteState p r k := Device.get_settle _ _ _ _ rfl

theorem Device.cause_settle {i : Nat} : d.settle.get .cause p i = d.get .cause p i := Device.get_settle _ _ _ _ rfl

end

theorem exec_kiteFault (p : Plane) (r c : Group) {s : State} (h : s.dev.live p = true) :
    exec (.kiteFault p r c) s = .next { s with dev := (s.dev.kiteFault p r c).settle } := by
  show execKiteFault p r c s = _
  exact State.runOn_next h

theorem exec_spareKiteFault (p : Plane) (r : Group) {s : State} (h : s.dev.live p = true) :
    exec (.spareKiteFault p r) s = .next { s with dev := (s.dev.spareKiteFault p r).settle } := by
  show execSpareKiteFault p r s = _
  exact State.runOn_next h

/-- Settles O12: with its spare ready a kite's forced swap closes it, and no later part of the command writes its state or takes
a latched cause away; a plane that is retired stands so, as taking its links out of frame changes no plane's condition. -/
theorem kiteFaults : Obligations.KiteFaults := by
  unfold Obligations.KiteFaults
  intro s p r c hlive hunit
  refine ⟨fun hstate => ⟨fun hready => ?closes, fun hspent => ?retires⟩, fun hstate hforced => ?spareCloses, fun hstate => ?spareRetires⟩
  case closes =>
    obtain ⟨hclosed, hswitch, hhealth⟩ := Device.kiteFault_ready hlive hunit hstate hready (kiteUnit_ne_spare r c)
    refine ⟨_, exec_kiteFault p r c hlive, rfl, ?_⟩
    rw [Device.kiteState_settle, Device.cause_settle, Device.cause_settle]
    exact ⟨hclosed, hswitch, hhealth⟩
  case retires =>
    obtain ⟨hretired, hswitch, hhealth⟩ := Device.retirePlane_of_live (ch := chan 3 (21 * r + c)) (unit := kiteUnit r c) hlive
    refine ⟨_, exec_kiteFault p r c hlive, rfl, ?_⟩
    rw [Device.plane_settle, Device.live_settle, Device.cause_settle, Device.cause_settle,
      Device.kiteFault_spent hlive hunit hstate hspent]
    exact ⟨hretired, Device.live_of_retired hretired, hswitch, hhealth⟩
  case spareCloses =>
    obtain ⟨hclosed, hswitch⟩ := Device.spareKiteFault_closes hlive hunit hstate hforced
    refine ⟨_, exec_spareKiteFault p r hlive, rfl, ?_⟩
    rw [Device.kiteState_settle, Device.cause_settle]
    exact ⟨hclosed, hswitch⟩
  case spareRetires =>
    obtain ⟨hretired, hswitch, -⟩ := Device.retirePlane_of_live (ch := chan 3 (21 * r + 20)) (unit := kiteUnit r 20) hlive
    refine ⟨_, exec_spareKiteFault p r hlive, ?_⟩
    rw [Device.plane_settle, Device.cause_settle, Device.spareKiteFault_standing hlive hunit hstate]
    exact ⟨hretired, hswitch⟩

end Sys2Proof.Machine

/-! ### Spray sets (spec/04 R79, R89) -/

namespace Sys2Proof.Machine

/-- The device once the journal holds the members of a spray set: they are in force, and the set's last choice becomes
member 31 (R79). -/
def Device.sprayStored (d : Device) (p set v : Nat) : Device :=
  let e := (d.journal [(⟨.sprayMembers, p, set⟩, v)]).1
  { e.set .sprayMembers p set v with spray := Tbl.erase e.spray (p, set) }

section
variable {d : Device} {p set v : Nat}

theorem Device.get_sprayStored (hv : v < 2 ^ 256) : (d.sprayStored p set v).get .sprayMembers p set = v :=
  Device.get_set_lt _ .sprayMembers p set v hv

theorem Device.spray_sprayStored : (d.sprayStored p set v).spray = Tbl.erase d.spray (p, set) :=
  congrArg (Tbl.erase · (p, set)) (quiet_spray.journal d _)

theorem Device.sprayWrite_journalled {ses : Nat} (hv : v < 2 ^ 256)
    (h : d.journals ses [(⟨.sprayMembers, p, set⟩, v)] = true) :
    (d.fmMessage ses).sprayWrite p set v = ((d.fmMessage ses).sprayStored p set v, true) := by
  have hvalue : v % 2 ^ Obj.sprayMembers.width = v := Nat.mod_eq_of_lt hv
  have hstore := Device.store_journals d ses .sprayMembers p set v rfl (hvalue.symm ▸ h)
  rw [hvalue] at hstore
  unfold Device.sprayWrite
  rw [hstore]
  rfl

end

theorem exec_sprayMembersWrite (p : Plane) (v : BitVec 256) (rq : Req) (s : State) :
    exec (.sprayMembersWrite p v rq) s = .next { s with dev := (s.dev.request rq (fun d =>
      d.doWrite rq ⟨⟨.sprayMembers, p, 0⟩, 32, v.toNat⟩ (fun _ => sprayOk v.toNat)
        (fun d => d.sprayWrite p (d.place ⟨.sprayMembers, p, 0⟩ rq.ses.val) v.toNat))).settle } := rfl

/-- Settles O13: a list of members that the journal takes by `sprayWrite_journalled`; any other value is refused before it
reaches the set (`write_ruled_out`). -/
theorem sprayMembers : Obligations.SprayMembers := by
  intro s p v rq i hadmits
  have hget : ∀ (e : Device) (r : Resp), (e.respond rq r).settle.get .sprayMembers p i = e.get .sprayMembers p i := fun e r =>
    Device.get_settle_respond e rq r p i rfl (by decide) (by decide)
  have hspray : ∀ (e : Device) (r : Resp), (e.respond rq r).settle.spray = e.spray := fun e r =>
    (quiet_spray.settle _).trans (quiet_spray.respond e rq r)
  have hplace : (s.dev.fmMessage rq.ses.val).place ⟨.sprayMembers, p, 0⟩ rq.ses.val = i := Device.place_fmMessage ..
  refine ⟨fun hmembers hkept => ?accepted, fun hmembers => ?refused⟩
  case accepted =>
    have hwritten := Device.sprayWrite_journalled v.isLt hkept
    refine ⟨_, exec_sprayMembersWrite p v rq s, rfl, ?_⟩
    rw [Device.write_admitted s.dev rq _ _ _ hadmits hmembers (by rw [hplace, hwritten]), hplace, hwritten]
    exact ⟨Device.answered_respond _ rq 0, (hget _ _).trans (Device.get_sprayStored v.isLt),
      (hspray _ _).trans (Device.spray_sprayStored.trans (by rw [quiet_spray.fmMessage]))⟩
  case refused =>
    obtain ⟨htakes, hchecks⟩ := Device.admits_takes hadmits
    refine ⟨_, exec_sprayMembersWrite p v rq s, ?_⟩
    rw [Device.write_ruled_out s.dev rq _ _ _ htakes hchecks hmembers]
    exact ⟨Device.answered_respond _ rq 0x0303,
      (hget _ _).trans (Device.get_fmMessage_obj _ _ _ _ _ rfl (by decide) (by decide) (by decide)),
      (hspray _ _).trans (quiet_spray.fmMessage _ _)⟩

end Sys2Proof.Machine

/-! ### Gaps in resequenced flows (spec/04 R82) -/

namespace Sys2Proof.Machine

section
variable {d : Device} {p : Nat} {id : FlowId} {w : Flow}

theorem Device.key_of_flow (h : d.flow? p id = some w) : w.plane = p ∧ w.id = id := by
  simpa using List.find?_some h

/-- What passing on a held frame leaves: the flows, the count of gaps, and every latched cause. -/
theorem Device.moves_passHeld (h : Held) : Moves d (d.passHeld p id h) objs_passHeld parts_passHeld :=
  (Moves.refl ..).passHeld (Mask.le_refl _) (Mask.le_refl _)

/-- A flow that holds nothing stands still. -/
theorem Device.flowRun_of_empty (hflow : d.flow? p id = some w) (hheld : w.held = []) (fuel : Nat) (force : Bool) :
    d.flowRun p id fuel force = d := by
  cases fuel with
  | zero => rfl
  | succ fuel =>
    unfold Device.flowRun
    rw [hflow]
    simp only [hheld, List.find?_nil, argMin]

/-- The device once the one held frame of a flow has been passed on. -/
def Device.heldPassed (d : Device) (p : Nat) (w : Flow) (h : Held) : Device :=
  (d.setFlow { w with expected := (h.seq + 1) % 2 ^ 24, held := [] }).passHeld p w.id h

/-- A held frame whose turn has come is passed on, and with nothing left the flow stands still. -/
theorem Device.flowRun_of_next {h : Held} (hflow : d.flow? p id = some w) (hheld : w.held = [h]) (hnext : h.seq = w.expected)
    (fuel : Nat) (force : Bool) : d.flowRun p id (fuel + 1) force = d.heldPassed p w h := by
  obtain ⟨hplane, hid⟩ := Device.key_of_flow hflow
  have hpassed : (d.heldPassed p w h).flow? p id = some { w with expected := (h.seq + 1) % 2 ^ 24, held := [] } :=
    (Device.flow_congr _ ((Device.moves_passHeld h).same .flows (by decide)) p id).trans
      (Device.flow_setFlow _ _ _ _ hplane hid)
  have hrun : d.flowRun p id (fuel + 1) force = (d.heldPassed p w h).flowRun p id fuel force := by
    conv_lhs => unfold Device.flowRun
    rw [hflow]
    simp [hheld, hnext, Device.heldPassed, hid]
  rw [hrun, Device.flowRun_of_empty hpassed rfl]

/-- The device once the missing numbers before a held frame are skipped and counted (R82). -/
def Device.gapSkipped (d : Device) (p : Nat) (w : Flow) (h : Held) : Device :=
  ((d.setFlow { w with expected := h.seq }).count .reseqGap p 0 (seqDist h.seq w.expected)).causeSwitch p 2 0

theorem Device.flowRun_of_gap {h : Held} (hflow : d.flow? p id = some w) (hheld : w.held = [h]) (hgap : h.seq ≠ w.expected)
    (fuel : Nat) : d.flowRun p id (fuel + 2) true = (d.gapSkipped p w h).heldPassed p { w with expected := h.seq } h := by
  obtain ⟨hplane, hid⟩ := Device.key_of_flow hflow
  have hskipped : (d.gapSkipped p w h).flow? p id = some { w with expected := h.seq } :=
    (Device.flow_congr _ ((quiet_flows.latch ..).trans (quiet_flows.count ..)) p id).trans
      (Device.flow_setFlow _ _ _ _ hplane hid)
  have hrun : d.flowRun p id (fuel + 2) true = (d.gapSkipped p w h).flowRun p id (fuel + 1) false := by
    conv_lhs => unfold Device.flowRun
    rw [hflow]
    simp [hheld, hgap, Device.gapSkipped, argMin]
  rw [hrun, Device.flowRun_of_next hskipped hheld rfl]

/-- What the run over a gap leaves: the flow holds nothing, the missing numbers are counted, and the cause is raised (R82). -/
theorem Device.flowRun_over_gap {h : Held} (hflow : d.flow? p id = some w) (hheld : w.held = [h]) (hgap : h.seq ≠ w.expected)
    (fuel : Nat) : (d.flowRun p id (fuel + 2) true).get .reseqGap p 0 =
        min (d.get .reseqGap p 0 + seqDist h.seq w.expected) (2 ^ 32 - 1) ∧
      bit ((d.flowRun p id (fuel + 2) true).get .cause p 2) 2 = true ∧
      (d.flowRun p id (fuel + 2) true).flow? p id = some { w with expected := (h.seq + 1) % 2 ^ 24, held := [] } := by
  obtain ⟨hplane, hid⟩ := Device.key_of_flow hflow
  rw [Device.flowRun_of_gap hflow hheld hgap]
  have hpassed := Device.moves_passHeld (p := p) (id := w.id) h
    (d := (d.gapSkipped p w h).setFlow { w with expected := (h.seq + 1) % 2 ^ 24, held := [] })
  have hset : ∀ (e : Device) (v : Flow), (e.setFlow v).get = e.get := fun e v => by
    unfold Device.setFlow
    split <;> rfl
  have hcounted : (d.gapSkipped p w h).get .reseqGap p 0 =
      min (d.get .reseqGap p 0 + seqDist h.seq w.expected) (2 ^ 32 - 1) := by
    rw [Device.gapSkipped, Device.causeSwitch, Device.get_latch_obj _ _ _ _ _ _ _ _ (by decide) (by decide) (by decide),
      Device.get_count_narrow _ _ _ _ _ (by decide), hset]
    rfl
  have hraised : bit ((d.gapSkipped p w h).get .cause p 2) 2 = true := Device.bit_latch _ _ _ _ _ (by decide)
  refine ⟨?_, ?_, ?_⟩
  · exact (hpassed.get _ _ _ (by decide)).trans ((congrFun (congrFun (congrFun (hset _ _) _) _) _).trans hcounted)
  · refine hpassed.latched (by decide) p 2 2 (by decide) ?_
    rw [hset]
    exact hraised
  · exact (Device.flow_congr _ (hpassed.same .flows (by decide)) p id).trans (Device.flow_setFlow _ _ _ _ hplane hid)

/-- Whether an entry outlasts the expiry of a flow of a plane: it is another's, or holds a frame. -/
def Flow.outlasts (p : Nat) (id : FlowId) (x : Flow) : Bool := !(x.plane = p && x.id = id && x.held = [])

/-- The device once the entry of a quiet flow is removed (R82). -/
def Device.flowExpired (d : Device) (p : Nat) (id : FlowId) : Device := { d with flows := d.flows.filter (Flow.outlasts p id) }

/-- An entry that holds a frame is not removed. -/
theorem Device.held_of_flowExpired {x : Flow} (h : (d.flowExpired p id).flow? p id = some x) : x.held ≠ [] := by
  obtain ⟨hplane, hid⟩ := Device.key_of_flow h
  have hkept := (List.mem_filter.mp (List.mem_of_find?_eq_some h)).2
  simpa [Flow.outlasts, hplane, hid] using hkept

theorem Device.flowExpired_of_held (hflow : d.flow? p id = some w) (hheld : w.held ≠ []) :
    (d.flowExpired p id).flow? p id = some w := by
  unfold Device.flow? at hflow ⊢
  obtain ⟨hkey, l, r, hflows, hbefore⟩ := List.find?_eq_some_iff_append.mp hflow
  have hexpired : (d.flowExpired p id).flows = l.filter (Flow.outlasts p id) ++ w :: r.filter (Flow.outlasts p id) := by
    rw [Device.flowExpired, hflows, List.filter_append, List.filter_cons_of_pos (by simp [Flow.outlasts, hheld])]
  exact List.find?_eq_some_iff_append.mpr ⟨hkey, _, _, hexpired, fun x hx => hbefore x (List.mem_filter.mp hx).1⟩

end

theorem exec_reseqGapTimeout (p : Plane) (id : FlowId) {s : State} (h : s.dev.live p = true) :
    exec (.reseqGapTimeout p id) s = .next { s with dev := (s.dev.flowRun p id 4096 true).settle } := by
  show execReseqGapTimeout p id s = _
  exact State.runOn_next h

theorem exec_reseqFlowExpire (p : Plane) (id : FlowId) {s : State} (h : s.dev.live p = true) :
    exec (.reseqFlowExpire p id) s = .next { s with dev := (s.dev.flowExpired p id).settle } := by
  show execReseqFlowExpire p id s = _
  exact State.runOn_next h

/-- Settles O14: the timeout by `flowRun_over_gap`; of the entries of a quiet flow only those without a frame go
(`held_of_flowExpired`, `flowExpired_of_held`). -/
theorem reorderGaps : Obligations.ReorderGaps := by
  intro s p id w h hlive hflow
  refine ⟨fun hheld _ hgap => ?timeout, fun _ => ?expires, fun hheld => ?stays⟩
  case timeout =>
    obtain ⟨hcounted, hraised, hflow'⟩ := Device.flowRun_over_gap hflow hheld hgap 4094
    refine ⟨_, exec_reseqGapTimeout p id hlive, rfl, ?_, ?_, (Device.flow_settle ..).trans hflow'⟩
    · exact (Device.get_settle _ _ _ _ rfl).trans hcounted
    · exact (congrArg (bit · 2) (Device.get_settle _ _ _ _ rfl)).trans hraised
  case expires =>
    refine ⟨_, exec_reseqFlowExpire p id hlive, rfl, fun x hx => ?_, Device.frame_settle _ _⟩
    exact Device.held_of_flowExpired ((Device.flow_settle ..).symm.trans hx)
  case stays =>
    exact ⟨_, exec_reseqFlowExpire p id hlive, (Device.flow_settle ..).trans (Device.flowExpired_of_held hflow hheld)⟩

end Sys2Proof.Machine

/-! ### The free store of a buffer pool (spec/05 R94, R98) -/

namespace Sys2Proof.Machine

theorem Device.pool_congr {d e : Device} (h : e.pools = d.pools) (p k : Nat) : e.pool p k = d.pool p k := by
  unfold Device.pool
  rw [h]

/-! #### Moves between cache and ring (R94) -/

section
variable {d : Device} {p k : Nat}

theorem Device.cacheRefill_of_low (hlow : (d.pool p k).cache < 1024) (hscrub : (d.plane p).scrub ≠ some k) :
    d.cacheRefill p k = d.setPool p k { d.pool p k with
      cache := (d.pool p k).cache + min 2048 (d.pool p k).ring,
      ring := (d.pool p k).ring - min 2048 (d.pool p k).ring } :=
  if_pos (by simp [hlow, hscrub])

/-- A spill moves some entries of the cache to the ring. -/
theorem Device.pool_cacheSpill (d : Device) (p k : Nat) : ∃ m ≤ (d.pool p k).cache, (d.cacheSpill p k).pool p k =
    { d.pool p k with cache := (d.pool p k).cache - m, ring := (d.pool p k).ring + m } := by
  unfold Device.cacheSpill
  dsimp only
  split
  · next hfull =>
    have hmore : (d.pool p k).cache > 3072 := of_decide_eq_true (Bool.and_eq_true_iff.mp hfull).1
    refine ⟨2048 * ceilDiv ((d.pool p k).cache - 3072) 2048, ?_, ?_⟩
    · unfold ceilDiv
      omega
    · rw [Device.pool_setPool, if_pos ⟨rfl, rfl⟩]
  · exact ⟨0, Nat.zero_le _, rfl⟩

/-- A spill moves nothing but the record of its pool. -/
theorem Device.cacheSpill_keeps {β : Type} (g : Device → β) (hpool : ∀ v, g (d.setPool p k v) = g d) :
    g (d.cacheSpill p k) = g d := by
  unfold Device.cacheSpill
  dsimp only
  split
  · exact hpool _
  · rfl

/-! #### The scrub (R98) -/

theorem Device.place_poolScrubCmd (ses : Nat) : d.place ⟨.poolScrubCmd, p, 0⟩ ses = d.sel .poolSel p 0 ses := by
  unfold Device.place
  dsimp only
  rw [if_neg (by decide), if_neg (by simp), show Obj.poolScrubCmd.sels = [.poolSel] from rfl, List.foldl_cons, List.foldl_nil,
    if_neg (by simp), if_neg (by simp), Nat.zero_mul, Nat.zero_add]

theorem Device.poolScrub_idle {ses : Nat} (h : (d.plane p).scrub = none) :
    d.poolScrub p ses = (d.setPlane p { d.plane p with scrub := some (d.sel .poolSel p 0 ses) }).set .poolScrubCmd p
      (d.place ⟨.poolScrubCmd, p, 0⟩ ses) 1 := by
  unfold Device.poolScrub
  dsimp only
  rw [h]
  rfl

theorem Device.poolScrub_busy {ses : Nat} (h : (d.plane p).scrub ≠ none) :
    d.poolScrub p ses = d.set .poolScrubCmd p (d.place ⟨.poolScrubCmd, p, 0⟩ ses) 3 := by
  obtain ⟨pool, hpool⟩ := Option.ne_none_iff_exists'.mp h
  unfold Device.poolScrub
  dsimp only
  rw [hpool]
  rfl

/-- The device once every free buffer of a scrubbed pool is in its free store once, before the moves that waited go on. -/
def Device.freeStoreWhole (d : Device) (p k : Nat) : Device :=
  ((d.setPlane p { d.plane p with scrub := none }).setPool p k { d.pool p k with
    stale := 0, ring := d.poolBuffers p k - (d.pool p k).owners.length - (d.pool p k).cache }).set .poolScrubCmd p k 2

theorem Device.pool_freeStoreWhole : (d.freeStoreWhole p k).pool p k = { d.pool p k with
    stale := 0, ring := d.poolBuffers p k - (d.pool p k).owners.length - (d.pool p k).cache } :=
  (Device.pool_setPool _ p k _ p k).trans (if_pos ⟨rfl, rfl⟩)

section
variable (h : (d.plane p).scrub = some k)
include h

theorem Device.poolScrubDone_running : d.poolScrubDone p k = (d.freeStoreWhole p k).cacheSpill p k := if_pos h

theorem Device.get_poolScrubDone : (d.poolScrubDone p k).get .poolScrubCmd p k = 2 := by
  rw [Device.poolScrubDone_running h, Device.cacheSpill_keeps (·.get .poolScrubCmd p k) (fun _ => rfl)]
  exact Device.get_set_lt _ _ _ _ _ (by decide)

theorem Device.scrub_poolScrubDone : ((d.poolScrubDone p k).plane p).scrub = none := by
  rw [Device.poolScrubDone_running h, Device.cacheSpill_keeps (fun e => (e.plane p).scrub) (fun _ => rfl)]
  exact congrArg PlaneSt.scrub ((Device.plane_setPlane d p _ p).trans (if_pos rfl))

/-- After a scrub the free store holds what the pool has beside its allocated buffers, and none of its entries is stale. -/
theorem Device.pool_poolScrubDone : ((d.poolScrubDone p k).pool p k).stale = 0 ∧
    ((d.poolScrubDone p k).pool p k).owners = (d.pool p k).owners ∧
    ((d.pool p k).cache + (d.pool p k).owners.length ≤ d.poolBuffers p k →
      ((d.poolScrubDone p k).pool p k).cache + ((d.poolScrubDone p k).pool p k).ring +
        ((d.poolScrubDone p k).pool p k).owners.length = d.poolBuffers p k) := by
  obtain ⟨m, hm, hspilt⟩ := Device.pool_cacheSpill (d.freeStoreWhole p k) p k
  rw [Device.pool_freeStoreWhole] at hm hspilt
  rw [Device.poolScrubDone_running h, hspilt]
  refine ⟨rfl, rfl, fun hfits => ?_⟩
  dsimp only at hm ⊢
  omega

end

end

/-! #### The three commands -/

theorem exec_poolCacheRefill (p : Plane) (k : Pool) {s : State} (h : s.dev.live p = true) :
    exec (.poolCacheRefill p k) s = .next { s with dev := (s.dev.cacheRefill p k).settle } := by
  show execPoolCacheRefill p k s = _
  exact State.runOn_next h

theorem exec_poolScrub (p : Plane) {rq : Req} {s : State} (h : s.dev.admitsNow rq ⟨⟨.poolScrubCmd, p, 0⟩, 1, 1⟩ = true) :
    exec (.poolScrub p rq) s = .next { s with dev :=
      (((s.dev.fmMessage rq.ses.val).poolScrub p rq.ses.val).respond rq (statusResp rq 0)).settle } := by
  show execPoolScrub p rq s = _
  exact State.run_next (Device.commandNow_admitted s.dev rq _ _ _ h)

theorem exec_poolScrubDone (p : Plane) (k : Pool) {s : State} (h : s.dev.live p = true) :
    exec (.poolScrubDone p k) s = .next { s with dev := (s.dev.poolScrubDone p k).settle } := by
  show execPoolScrubDone p k s = _
  exact State.runOn_next h

/-- Settles O15: the refill by `cacheRefill_of_low`; a scrub starts or is refused on the device after the fault manager's message
(`poolScrub_idle`, `poolScrub_busy`); its end by `pool_poolScrubDone`, since the spill that follows keeps the number of entries. -/
theorem poolFreeStore : Obligations.PoolFreeStore := by
  intro s p k rq i
  let m := s.dev.fmMessage rq.ses.val
  have hplace : m.place ⟨.poolScrubCmd, p, 0⟩ rq.ses.val = i := Device.place_fmMessage ..
  have hplane : m.plane p = s.dev.plane p := Device.plane_fmMessage ..
  have hreads : ∀ (e : Device) (v : Nat), v < 2 ^ 8 →
      ((e.set .poolScrubCmd p i v).respond rq (statusResp rq 0)).settle.get .poolScrubCmd p i = v := fun e v hv =>
    (Device.get_settle_respond _ rq _ _ _ rfl (by decide) (by decide)).trans (Device.get_set_lt _ _ _ _ _ hv)
  refine ⟨fun hlive hlow hscrub => ?refill, fun hadmits hidle => ?starts, fun hadmits hbusy => ?refused,
    fun hlive hscrub => ?ends⟩
  case refill =>
    rw [exec_poolCacheRefill p k hlive, Device.cacheRefill_of_low hlow hscrub]
    exact ⟨_, rfl, rfl, Device.frame_settle _ _⟩
  case starts =>
    have hsel : m.sel .poolSel p 0 rq.ses.val = s.dev.sel .poolSel p 0 rq.ses.val :=
      Device.sel_fmMessage _ _ _ _ _ _ rfl (by decide) (by decide) (by decide)
    rw [exec_poolScrub p hadmits, Device.poolScrub_idle (hplane ▸ hidle), hplace, hsel]
    refine ⟨_, rfl, rfl, Device.answered_respond _ rq 0, hreads _ 1 (by decide), ?_⟩
    exact (congrArg PlaneSt.scrub (Device.plane_settle_respond _ rq _ p)).trans
      (congrArg PlaneSt.scrub ((Device.plane_setPlane m p _ p).trans (if_pos rfl)))
  case refused =>
    rw [exec_poolScrub p hadmits, Device.poolScrub_busy (hplane ▸ hbusy), hplace]
    exact ⟨_, rfl, Device.answered_respond _ rq 0, hreads _ 3 (by decide), (Device.plane_settle_respond ..).trans hplane⟩
  case ends =>
    refine ⟨_, exec_poolScrubDone p k hlive, rfl, (Device.get_settle _ _ _ _ rfl).trans (Device.get_poolScrubDone hscrub),
      (congrArg PlaneSt.scrub (Device.plane_settle ..)).trans (Device.scrub_poolScrubDone hscrub), ?_⟩
    dsimp only
    rw [Device.pool_congr (Device.pools_settle _)]
    exact Device.pool_poolScrubDone hscrub

end Sys2Proof.Machine

/-! ### The CXL port (spec/05 R103, R104) -/

namespace Sys2Proof.Machine

theorem Device.rgn_congr {d e : Device} (h : e.rgns = d.rgns) (p g : Nat) : e.rgn p g = d.rgn p g := by
  unfold Device.rgn
  rw [h]

/-! #### Training (R103) -/

/-- The device once a training has found a width, a rate and a capacity, before the port's state follows. -/
def Device.cxlMeasured (d : Device) (p width rate gib : Nat) : Device :=
  (((d.retuned p 4 3).retuned p 5 3).set .cxlLink p 0 (width * 16 + rate)).set .cxlCapacityGib p 0
    (if width = 0 then 0 else min gib 512)

/-- A training that a reset asked for ends it: `cxl_reset_cmd` reads `v`. -/
def Device.cxlResetEnds (d : Device) (p v : Nat) : Device :=
  if d.get .cxlResetCmd p 0 = 1 then d.set .cxlResetCmd p 0 v else d

section
variable {d : Device} {p width rate gib : Nat}

theorem Device.get_cxlResetEnds {v : Nat} {o : Obj} {q i : Nat} (h : o ≠ .cxlResetCmd) :
    (d.cxlResetEnds p v).get o q i = d.get o q i := by
  unfold Device.cxlResetEnds
  split
  · exact Device.get_set_obj _ _ _ _ _ _ _ _ h
  · rfl

/-- A training ends in one of three ways. -/
theorem Device.cxlTrained_eq : d.cxlTrained p width rate gib =
    if width = 0 then ((d.cxlMeasured p width rate gib).set .cxlState p 0 0).cxlResetEnds p 3
    else if width = 3 && rate = 3 && gib ≤ 512 then ((d.cxlMeasured p width rate gib).set .cxlState p 0 2).cxlResetEnds p 2
    else (((d.cxlMeasured p width rate gib).set .cxlState p 0 3).causeMemory p 5 0).cxlResetEnds p 2 := rfl

/-- Beside what it has found, a training writes the port's state, its reset command and the cause of a degraded port. -/
theorem Device.get_cxlTrained {o : Obj} {q i : Nat} (hstate : o ≠ .cxlState) (hreset : o ≠ .cxlResetCmd) (hcause : o ≠ .cause)
    (hunit : o ≠ .causeUnit) (htime : o ≠ .causeTime) :
    (d.cxlTrained p width rate gib).get o q i = (d.cxlMeasured p width rate gib).get o q i := by
  have hset : ∀ (e : Device) (v : Nat), (e.set .cxlState p 0 v).get o q i = e.get o q i := fun e v =>
    Device.get_set_obj _ _ _ _ _ _ _ _ hstate
  rw [Device.cxlTrained_eq]
  split
  · rw [Device.get_cxlResetEnds hreset, hset]
  · split
    · rw [Device.get_cxlResetEnds hreset, hset]
    · rw [Device.get_cxlResetEnds hreset, Device.causeMemory, Device.get_latch_obj _ _ _ _ _ _ _ _ hcause hunit htime, hset]

theorem Device.get_cxlState_cxlTrained : (d.cxlTrained p width rate gib).get .cxlState p 0 =
    if width = 0 then 0 else if width = 3 ∧ rate = 3 ∧ gib ≤ 512 then 2 else 3 := by
  have hset : ∀ (e : Device) (v : Nat), v < 2 ^ 8 → (e.set .cxlState p 0 v).get .cxlState p 0 = v := fun e v hv =>
    Device.get_set_lt _ _ _ _ _ hv
  rw [Device.cxlTrained_eq]
  simp only [Bool.and_eq_true, decide_eq_true_eq, and_assoc]
  split
  · rw [Device.get_cxlResetEnds (by decide), hset _ 0 (by decide)]
  · split
    · rw [Device.get_cxlResetEnds (by decide), hset _ 2 (by decide)]
    · rw [Device.get_cxlResetEnds (by decide), Device.causeMemory,
        Device.get_latch_obj _ _ _ _ _ _ _ _ (by decide) (by decide) (by decide), hset _ 3 (by decide)]

/-- A port that is used, but not as trained in full, raises its cause. -/
theorem Device.bit_cxlTrained (hused : width ≠ 0) (hless : ¬ (width = 3 ∧ rate = 3 ∧ gib ≤ 512)) :
    bit ((d.cxlTrained p width rate gib).get .cause p 3) 5 = true := by
  rw [Device.cxlTrained_eq, if_neg hused, if_neg (by simpa [and_assoc] using hless), Device.get_cxlResetEnds (by decide)]
  exact Device.bit_latch _ p 3 5 0 (by decide)

theorem Device.get_cxlLink_cxlMeasured (hw : width < 16) (hr : rate < 16) :
    (d.cxlMeasured p width rate gib).get .cxlLink p 0 = width * 16 + rate :=
  (Device.get_set_obj _ _ _ _ _ _ _ _ (by decide)).trans
    (Device.get_set_lt _ _ _ _ _ (by rw [show Obj.cxlLink.width = 8 from rfl]; omega))

theorem Device.get_cxlCapacityGib_cxlMeasured :
    (d.cxlMeasured p width rate gib).get .cxlCapacityGib p 0 = if width = 0 then 0 else min gib 512 :=
  Device.get_set_lt _ _ _ _ _ (by rw [show Obj.cxlCapacityGib.width = 16 from rfl]; split <;> omega)

/-! #### The link goes down (R104) -/

/-- A region without its tier-2 versions and without a drain. -/
def RgnSt.noTier2 (r : RgnSt) : RgnSt := { r with t2 := [], drain := none }

/-- A region's part of the loss of tier 2. -/
def Device.dropTier2 (d : Device) (p g : Nat) : Device :=
  if (d.rgn p g).t2 = [] && (d.rgn p g).drain.isNone then d else d.setRgn p g (d.rgn p g).noTier2

theorem RgnSt.noTier2_of_empty {r : RgnSt} (h : r.t2 = [] ∧ r.drain = none) : r.noTier2 = r := by
  obtain ⟨hversions, hdrain⟩ := h
  rw [RgnSt.noTier2, ← hversions, ← hdrain]

theorem Device.rgn_dropTier2 (d : Device) (p g g' : Nat) :
    (d.dropTier2 p g).rgn p g' = if g' = g then (d.rgn p g').noTier2 else d.rgn p g' := by
  unfold Device.dropTier2
  split
  · next hempty =>
    have hnone : (d.rgn p g).t2 = [] ∧ (d.rgn p g).drain = none := by simpa using hempty
    split
    · next heq => rw [heq, RgnSt.noTier2_of_empty hnone]
    · rfl
  · rw [Device.rgn_setRgn]
    split
    · next heq => rw [if_pos heq.2, heq.2]
    · next hne => rw [if_neg (fun heq => hne ⟨rfl, heq⟩)]

theorem Device.get_dropTier2 (d : Device) (p g : Nat) (o : Obj) (q i : Nat) :
    (d.dropTier2 p g).get o q i = d.get o q i := by
  unfold Device.dropTier2
  split <;> rfl

/-- Every region of the list has lost its tier 2, and so has one that had none before. -/
theorem Device.noTier2_dropTier2_foldl (l : List Nat) (d : Device) (g : Nat) (h : g ∈ l ∨ (d.rgn p g).noTier2 = d.rgn p g) :
    ((l.foldl (·.dropTier2 p ·) d).rgn p g).noTier2 = (l.foldl (·.dropTier2 p ·) d).rgn p g := by
  induction l generalizing d with
  | nil => exact h.resolve_left List.not_mem_nil
  | cons a l ih =>
    refine ih _ ?_
    rw [Device.rgn_dropTier2]
    by_cases ha : g = a
    · exact .inr (by rw [if_pos ha]; rfl)
    · rw [if_neg ha]
      exact h.imp_left fun hmem => (List.mem_cons.mp hmem).resolve_left ha

/-- The port is down, and its cause is raised. -/
def Device.cxlLost (d : Device) (p : Nat) : Device := ((d.bump .cxlLinkDown p 0).set .cxlState p 0 4).causeMemory p 6 0

theorem Device.cxlDown_eq : d.cxlDown p = (List.range 1024).foldl (·.dropTier2 p ·) (d.cxlLost p) := rfl

theorem Device.get_cxlDown {o : Obj} {q i : Nat} : (d.cxlDown p).get o q i = (d.cxlLost p).get o q i := by
  rw [Device.cxlDown_eq]
  exact foldl_keeps (·.get o q i) _ (fun e g => Device.get_dropTier2 e p g o q i) _ _

theorem Device.rgn_cxlDown {g : Nat} (hg : g < 1024) : ((d.cxlDown p).rgn p g).t2 = [] ∧ ((d.cxlDown p).rgn p g).drain = none := by
  have hcleared : ((d.cxlDown p).rgn p g).noTier2 = (d.cxlDown p).rgn p g :=
    Device.noTier2_dropTier2_foldl _ _ _ (.inl (List.mem_range.mpr hg))
  rw [← hcleared]
  exact ⟨rfl, rfl⟩

theorem Device.get_cxlState_cxlLost : (d.cxlLost p).get .cxlState p 0 = 4 :=
  (Device.get_latch_obj _ _ _ _ _ _ _ _ (by decide) (by decide) (by decide)).trans (Device.get_set_lt _ _ _ _ _ (by decide))

theorem Device.get_cxlLinkDown_cxlLost :
    (d.cxlLost p).get .cxlLinkDown p 0 = min (d.get .cxlLinkDown p 0 + 1) (2 ^ 32 - 1) :=
  calc (d.cxlLost p).get .cxlLinkDown p 0
    _ = ((d.bump .cxlLinkDown p 0).set .cxlState p 0 4).get .cxlLinkDown p 0 :=
      Device.get_latch_obj _ _ _ _ _ _ _ _ (by decide) (by decide) (by decide)
    _ = (d.bump .cxlLinkDown p 0).get .cxlLinkDown p 0 := Device.get_set_obj _ _ _ _ _ _ _ _ (by decide)
    _ = min (d.get .cxlLinkDown p 0 + 1) (2 ^ 32 - 1) := Device.get_count_same d _ _ _ _ (by decide)

end

/-! #### The three commands -/

theorem exec_cxlTrainComplete (p : Plane) (w r : BitVec 4) (gib : BitVec 16) {s : State} (h : s.dev.live p = true) :
    exec (.cxlTrainComplete p w r gib) s = .next { s with dev := (s.dev.cxlTrained p w.toNat r.toNat gib.toNat).settle } := by
  show execCxlTrainComplete p w r gib s = _
  exact State.runOn_next h

theorem exec_cxlReset (p : Plane) {rq : Req} {s : State} (h : s.dev.admits rq ⟨⟨.cxlResetCmd, p, 0⟩, 1, 1⟩ = true) :
    exec (.cxlReset p rq) s = .next { s with dev :=
      ((((s.dev.fmMessage rq.ses.val).set .cxlResetCmd p 0 1).set .cxlState p 0 1).respond rq (statusResp rq 0)).settle } := by
  show execCxlReset p rq s = _
  exact State.run_next (Device.command_admitted s.dev rq _ _ _ h)

theorem exec_cxlLinkDown (p : Plane) {s : State} (h : s.dev.live p = true) :
    exec (.cxlLinkDown p) s = .next { s with dev := (s.dev.cxlDown p).settle } := by
  show execCxlLinkDown p s = _
  exact State.runOn_next h

/-- Settles O16: a training by what `cxlTrained` leaves of each register, the loss of the link by `rgn_cxlDown` for the regions and
`cxlLost` for the registers. -/
theorem cxlPort : Obligations.CxlPort := by
  intro s p w r gib rq
  refine ⟨fun hlive => ?trained, fun hadmits => ?reset, fun hlive => ?down⟩
  case trained =>
    have hwidth : w = 0 ↔ w.toNat = 0 := BitVec.toNat_eq
    have hfull : w = 3 ∧ r = 3 ∧ gib.toNat ≤ 512 ↔ w.toNat = 3 ∧ r.toNat = 3 ∧ gib.toNat ≤ 512 :=
      and_congr BitVec.toNat_eq (and_congr_left' BitVec.toNat_eq)
    have hfound : ∀ {o : Obj}, o.computed = false → o ≠ .cxlState → o ≠ .cxlResetCmd → o ≠ .cause → o ≠ .causeUnit →
        o ≠ .causeTime → (s.dev.cxlTrained p w.toNat r.toNat gib.toNat).settle.get o p 0 =
          (s.dev.cxlMeasured p w.toNat r.toNat gib.toNat).get o p 0 := fun hc hstate hreset hcause hunit htime =>
      (Device.get_settle _ _ _ _ hc).trans (Device.get_cxlTrained hstate hreset hcause hunit htime)
    refine ⟨_, exec_cxlTrainComplete p w r gib hlive, rfl, ?_⟩
    simp only [hwidth, hfull, ne_eq]
    exact ⟨(hfound rfl (by decide) (by decide) (by decide) (by decide) (by decide)).trans
        (Device.get_cxlLink_cxlMeasured w.isLt r.isLt),
      (hfound rfl (by decide) (by decide) (by decide) (by decide) (by decide)).trans Device.get_cxlCapacityGib_cxlMeasured,
      (Device.get_settle _ _ _ _ rfl).trans Device.get_cxlState_cxlTrained,
      fun hused hless => (congrArg (bit · 5) (Device.get_settle _ _ _ _ rfl)).trans (Device.bit_cxlTrained hused hless)⟩
  case reset =>
    refine ⟨_, exec_cxlReset p hadmits, rfl, Device.answered_respond _ rq 0, ?_, ?_⟩
    · exact (Device.get_settle_respond _ rq _ _ _ rfl (by decide) (by decide)).trans
        ((Device.get_set_obj _ _ _ _ _ _ _ _ (by decide)).trans (Device.get_set_lt _ _ _ _ _ (by decide)))
    · exact (Device.get_settle_respond _ rq _ _ _ rfl (by decide) (by decide)).trans (Device.get_set_lt _ _ _ _ _ (by decide))
  case down =>
    have hlost : ∀ {o : Obj} {i : Nat}, o.computed = false → (s.dev.cxlDown p).settle.get o p i = (s.dev.cxlLost p).get o p i :=
      fun hc => (Device.get_settle _ _ _ _ hc).trans Device.get_cxlDown
    refine ⟨_, exec_cxlLinkDown p hlive, rfl, (hlost rfl).trans Device.get_cxlState_cxlLost,
      (hlost rfl).trans Device.get_cxlLinkDown_cxlLost,
      (congrArg (bit · 6) (hlost rfl)).trans (Device.bit_latch _ p 3 6 0 (by decide)), fun g => ?_⟩
    dsimp only
    rw [Device.rgn_congr (Device.rgns_settle _)]
    exact Device.rgn_cxlDown g.isLt

end Sys2Proof.Machine

/-! ### Scheduling decisions and the turn of a column reducer (spec/06 R109, R110, R122) -/

namespace Sys2Proof.Machine

/-! #### The greatest and the least of a list -/

theorem argMax_mem {α : Type} {f : α → Nat} {l : List α} {y : α} (h : argMax f l = some y) : y ∈ l := by
  induction l generalizing y with
  | nil => cases h
  | cons a r ih =>
    unfold argMax at h
    split at h
    · cases h
      exact List.mem_cons_self
    · next z hz =>
      split at h
      · cases h
        exact List.mem_cons_of_mem a (ih hz)
      · cases h
        exact List.mem_cons_self

/-- The only element that no other reaches is the greatest. -/
theorem argMax_eq_some {α : Type} {f : α → Nat} {l : List α} {x : α} (hx : x ∈ l) (hmax : ∀ y ∈ l, y = x ∨ f y < f x) :
    argMax f l = some x := by
  induction l with
  | nil => cases hx
  | cons a r ih =>
    have ha := hmax a List.mem_cons_self
    have hr : ∀ y ∈ r, y = x ∨ f y < f x := fun y hy => hmax y (List.mem_cons_of_mem a hy)
    unfold argMax
    by_cases hin : x ∈ r
    · rw [ih hin hr]
      rcases ha with rfl | hlt
      · simp
      · simp [hlt]
    · obtain rfl : x = a := (List.mem_cons.mp hx).resolve_right hin
      cases hbest : argMax f r with
      | none => rfl
      | some z =>
        have hz : f z < f x := (hr z (argMax_mem hbest)).resolve_left (fun e => hin (e ▸ argMax_mem hbest))
        simp [Nat.not_lt_of_lt hz]

/-- The least of a list that holds one element only, once or more often. -/
theorem argMin_eq_some {α : Type} {f : α → Nat} {l : List α} {x : α} (hx : x ∈ l) (hall : ∀ y ∈ l, y = x) :
    argMin f l = some x := by
  induction l with
  | nil => cases hx
  | cons a r ih =>
    obtain rfl : a = x := hall a List.mem_cons_self
    unfold argMin
    by_cases hin : a ∈ r
    · rw [ih hin (fun y hy => hall y (List.mem_cons_of_mem a hy))]
      simp
    · obtain rfl : r = [] := List.eq_nil_iff_forall_not_mem.mpr
        (fun y hy => hin (hall y (List.mem_cons_of_mem a hy) ▸ hy))
      rfl

section
variable {d : Device} {p sw : Nat} {x : Nat × Copy × FrameRec}

/-! #### What an output without tenant queues reads next (R109) -/

/-- The heads that such an output may read: a column reducer passes over those that wait for a clearing (spec/07 R137). -/
def Device.readableHeads (d : Device) (p sw : Nat) : List (Nat × Copy × FrameRec) :=
  (d.headsAt p sw).filter (fun x => sw < 200 || !d.clearsFor p x.2.2)

/-- The rank of a class (R111). -/
def Device.rankOf (d : Device) (p c : Nat) : Nat := octet 8 8 (d.get .classRank p 0) c

theorem Device.plainPick_eq_some (hx : x ∈ d.readableHeads p sw)
    (hmax : ∀ y ∈ d.readableHeads p sw, y = x ∨ d.rankOf p y.2.2.cls < d.rankOf p x.2.2.cls) :
    d.plainPick p sw = some x := by
  have htop : argMax (fun y : Nat × Copy × FrameRec => d.rankOf p y.2.2.cls) (d.readableHeads p sw) = some x :=
    argMax_eq_some hx hmax
  have honly : ∀ y ∈ (d.readableHeads p sw).filter (fun y => y.2.2.cls = x.2.2.cls), y = x := fun y hy => by
    obtain ⟨hmem, hcls⟩ := List.mem_filter.mp hy
    refine (hmax y hmem).resolve_right (fun hlt => ?_)
    rw [of_decide_eq_true hcls] at hlt
    exact Nat.lt_irrefl _ hlt
  unfold Device.plainPick
  unfold Device.readableHeads Device.rankOf at htop
  simp only [htop]
  exact argMin_eq_some (List.mem_filter.mpr ⟨hx, by simp⟩) honly

theorem Device.plainPick_eq_none (h : d.headsAt p sw = []) : d.plainPick p sw = none := by
  unfold Device.plainPick
  simp [h, argMax]

/-- Every head of an output of group 18 or 19 may be read. -/
theorem Device.readableHeads_attach (h : sw < 200) : d.readableHeads p sw = d.headsAt p sw :=
  List.filter_eq_self.mpr (fun _ _ => by simp [h])

/-- A column reducer reads its only head, unless that waits for a clearing. -/
theorem Device.plainPick_of_single (h : d.headsAt p sw = [x]) (hclear : d.clearsFor p x.2.2 = false) : d.plainPick p sw = some x := by
  have hheads : d.readableHeads p sw = [x] := by simp [Device.readableHeads, h, hclear]
  refine Device.plainPick_eq_some (hheads ▸ List.mem_singleton_self x) (fun y hy => .inl ?_)
  rw [hheads] at hy
  exact List.mem_singleton.mp hy

/-! #### An output of group 18 or 19 reads a frame -/

theorem sw_lt_of_engine (a : Internal) (h : ∀ l, a ≠ .longHaul l) : a.sw < 200 := by
  cases a with
  | longHaul l => exact absurd rfl (h l)
  | _ => decide

theorem sw_eq_hub (a : Internal) : a.sw = 157 ↔ a = .hubPath := by
  cases a with
  | longHaul l => simp only [Internal.sw, reduceCtorEq, iff_false]; omega
  | _ => decide

/-- A copy once a sink has read its last cell (spec/04 Table 4.2). -/
def Copy.readBy (cp : Copy) (sw : Nat) : Copy := { cp with wait := cp.wait.filter (· ≠ sw), due := cp.due ++ [sw] }

theorem Device.copies_engineTakes (fr : FrameRec) : (d.engineTakes p sw fr).copies = d.copies := by
  unfold Device.engineTakes
  dsimp only
  split <;> rfl

/-- The copy that an engine's output picks is read by it. -/
theorem Device.copy_engineTurn {cp : Copy} (hpick : d.plainPick p sw = some x) (hcopy : d.copy? p x.1 = some cp) :
    (d.engineTurn p sw).copy? p x.1 = some (cp.readBy sw) := by
  have hcopy' : (d.served_ p sw x).copy? p x.1 = some cp := hcopy
  unfold Device.engineTurn Device.readCopy
  simp only [hpick, hcopy']
  rw [Device.copy_congr _ (Device.copies_engineTakes _), Device.copy_setCopy, if_pos rfl]
  rfl

theorem Device.out_readCopy (id o : Nat) : (d.readCopy p id o).out = d.out := by
  unfold Device.readCopy
  split <;> rfl

theorem Device.inbox_readCopy (id o : Nat) : (d.readCopy p id o).inbox = d.inbox := by
  unfold Device.readCopy
  split <;> rfl

/-- The hub path's frames leave to the hub. -/
theorem Device.engineTurn_hub (hpick : d.plainPick p 157 = some x) :
    (d.engineTurn p 157).out = d.out ++ [.hubPath p x.2.2.frame] ∧ (d.engineTurn p 157).inbox = d.inbox := by
  unfold Device.engineTurn Device.engineTakes
  simp only [hpick, if_true]
  exact ⟨congrArg (· ++ [Out.hubPath p x.2.2.frame]) (Device.out_readCopy ..), Device.inbox_readCopy ..⟩

/-- An engine is handed the frame that its output reads. -/
theorem Device.inbox_engineTurn (hpick : d.plainPick p sw = some x) (hsw : sw ≠ 157) :
    (d.engineTurn p sw).inbox = d.inbox ++ [(p, sw, x.2.2.input, x.2.2.frame)] := by
  unfold Device.engineTurn Device.engineTakes
  simp only [hpick, if_neg hsw]
  exact congrArg (· ++ [(p, sw, x.2.2.input, x.2.2.frame)]) (Device.inbox_readCopy ..)

end

/-! #### A fabric output: resends and idle holds (R110, R122) -/

section
variable {d : Device} {p n : Nat}

/-- The port's record once a resend of a stored frame has left: one try more, unless the resend is free of it, and the credit of
its class spent. -/
def PortSt.resent (v : PortSt) (u : Unacked) (f : Sys2Proof.Frame) (rest : List Nat) : PortSt :=
  { v with
    resend := rest, sent := addCount v.sent u.cls u.cells,
    unacked := v.unacked.map (fun x => if x.seq = u.seq then
      { x with tries := if v.resendFree then u.tries else u.tries + 1, frame := f } else x) }

/-- A stored frame as it leaves again under its number. -/
def Unacked.resendFrame (u : Unacked) : Sys2Proof.Frame := (u.frame.setFld 52 12 u.seq).seal

theorem Device.sendResend_of_credit {q : Nat} {rest : List Nat} {u : Unacked} (hwaits : (d.port p n).resend = q :: rest)
    (hstored : (d.port p n).unacked.find? (fun x => x.seq = q) = some u) (hcredit : u.cells ≤ (d.port p n).creditLeft u.cls)
    (hptp : u.frame.opcode ≠ opPtp) :
    d.sendResend p n = ((((d.setPort p n ((d.port p n).resent u u.resendFrame rest)).notIdle p n).bump .retransmissions p n).calAbortPort
      p n).emit (.lfl p n u.resendFrame) := by
  have hseq : u.seq = q := by simpa using List.find?_some hstored
  subst hseq
  unfold Device.sendResend Device.again
  simp only [hwaits, hstored, if_neg (Nat.not_lt.mpr hcredit), ne_eq, hptp, not_false_eq_true, if_true]
  rfl

/-- What a resend moves beside the port's record and the frame that leaves. -/
theorem Device.moves_resend (d : Device) (p n : Nat) :
    Moves d (((d.notIdle p n).bump .retransmissions p n).calAbortPort p n) objs_all (parts_notIdle ||| parts_calAbortPort) :=
  (((Moves.refl ..).notIdle (Mask.of (by decide)) (Mask.of (by decide))).bump (Mask.all _) (by decide) (by decide)).calAbortPort
    (Mask.of (by decide)) (Mask.of (by decide))

/-- A waiting resend whose class has credit leaves; the others go on waiting, and no copy moves. -/
theorem Device.sendResend_sends {q : Nat} {rest : List Nat} {u : Unacked} (hwaits : (d.port p n).resend = q :: rest)
    (hstored : (d.port p n).unacked.find? (fun x => x.seq = q) = some u) (hcredit : u.cells ≤ (d.port p n).creditLeft u.cls)
    (hptp : u.frame.opcode ≠ opPtp) :
    d.Sends (d.sendResend p n) (.lfl p n ((u.frame.setFld 52 12 q).seal)) ∧ ((d.sendResend p n).port p n).resend = rest ∧
      (d.sendResend p n).copies = d.copies := by
  obtain rfl : u.seq = q := by simpa using List.find?_some hstored
  have hmoves := Device.moves_resend (d.setPort p n ((d.port p n).resent u u.resendFrame rest)) p n
  have hleft := hmoves.emit (x := .lfl p n u.resendFrame) (Mask.of (by decide)) (Mask.of (by decide))
  have hcopies := hleft.same .copies (by decide)
  rw [Device.sendResend_of_credit hwaits hstored hcredit hptp]
  refine ⟨.before hmoves.out ⟨[_], rfl, List.mem_singleton_self _⟩, ?_, hcopies⟩
  rw [hleft.port (by decide), Device.port_setPort, if_pos ⟨rfl, rfl⟩]
  rfl

/-- A port in UP that runs no bypass window sends a waiting resend ahead of any decision. -/
theorem Device.fabricTurn_resends (hlive : d.live p = true) (hwindow : d.sendsWindow p n = false) (hup : d.get .portState p n = 4)
    (hwaits : (d.port p n).resend ≠ []) : d.fabricTurn p n = d.sendResend p n := by
  simp [Device.fabricTurn, hlive, hwindow, hup, hwaits]

theorem Device.fabricTurn_holds (hlive : d.live p = true) (hwindow : d.sendsWindow p n = false) (hup : d.get .portState p n = 4)
    (hwaits : (d.port p n).resend = []) (hhold : d.clock < (d.outp p n).holdUntil) : d.fabricTurn p n = d := by
  simp [Device.fabricTurn, hlive, hwindow, hup, hwaits, hhold]

theorem Device.live_of_carries (h : d.carries p = true) : d.live p = true := (Bool.and_eq_true_iff.mp h).1

end

/-! #### The two commands -/

theorem exec_schedulingDecision_engine (p : Plane) {a : Internal} (ha : ∀ l, a ≠ .longHaul l) {s : State}
    (h : s.dev.carries p = true) :
    exec (.schedulingDecision p (.attach (.internal a))) s = .next { s with dev := (s.dev.engineTurn p a.sw).settle } := by
  have hturn : exec (.schedulingDecision p (.attach (.internal a))) s = s.carry p (fun d => d.engineTurn p a.sw) := by
    cases a with
    | longHaul l => exact absurd rfl (ha l)
    | _ => rfl
  exact hturn.trans (State.carry_next h)

theorem exec_schedulingDecision_reducer (p : Plane) (c : Group) {s : State} (h : s.dev.carries p = true) :
    exec (.schedulingDecision p (.reducer c)) s = .next { s with dev := (s.dev.reducerTurn p c).settle } := by
  show s.carry p (fun d => d.reducerTurn p c) = _
  exact State.carry_next h

theorem exec_schedulingDecision_fabric (p : Plane) (n : Port) {s : State} (h : s.dev.carries p = true) :
    exec (.schedulingDecision p (.attach (.fabric n))) s = .next { s with dev := (s.dev.fabricTurn p n).settle } := by
  show s.carry p (fun d => d.fabricTurn p n) = _
  exact State.carry_next h

/-- A frame that the reducer's turn would read is read by naming it. -/
theorem exec_reducerFrame (p : Plane) (c : Group) {x : Nat × Copy × FrameRec} {s : State} (h : s.dev.carries p = true)
    (hpick : s.dev.plainPick p (200 + c) = some x) :
    exec (.reducerFrame p c x.1) s = .next { s with dev := (s.dev.reducerTurn p c).settle } := by
  show execReducerFrame p c x.1 s = _
  exact State.carry_eq h (if_pos (congrArg (Option.map (·.1)) hpick))

/-- Settles O22: what an engine's output picks by `plainPick_eq_some`, what becomes of it by `copy_engineTurn`, `engineTurn_hub` and
`inbox_engineTurn`; a reducer's two commands make the same turn; a fabric port's waiting resend by `sendResend_sends`. -/
theorem schedulingDecisions : Obligations.SchedulingDecisions := by
  intro s p n c hcarries rank
  have hlive := Device.live_of_carries hcarries
  refine ⟨fun a id cp fr ha hcopy hmem hmax => ?engine, fun id cp fr hheads hclear => ?reducer, fun hheads => ?idle,
    fun q rest u hwindow hup hwaits hstored hcredit hptp => ?resend, fun hwindow hup hwaits hhold => ?hold⟩
  case engine =>
    have hreadable : s.dev.readableHeads p a.sw = s.dev.headsAt p a.sw := Device.readableHeads_attach (sw_lt_of_engine a ha)
    have hpick : s.dev.plainPick p a.sw = some (id, cp, fr) := Device.plainPick_eq_some (hreadable ▸ hmem) (hreadable ▸ hmax)
    refine ⟨_, exec_schedulingDecision_engine p ha hcarries, rfl, ?copy, fun hhub => ?hub, fun hother => ?engineTakes⟩
    case copy => exact (Device.copy_settle ..).trans (Device.copy_engineTurn hpick hcopy)
    case hub =>
      subst hhub
      obtain ⟨hout, hinbox⟩ := Device.engineTurn_hub hpick
      exact ⟨Device.Sends.after ⟨_, hout, List.mem_singleton_self _⟩ (Device.frame_settle _ noRegs),
        (Device.inbox_settle _).trans hinbox⟩
    case engineTakes =>
      exact (Device.inbox_settle _).trans (Device.inbox_engineTurn hpick (mt (sw_eq_hub a).mp hother))
  case reducer =>
    have hpick : s.dev.plainPick p (200 + c) = some (id, cp, fr) := Device.plainPick_of_single hheads hclear
    exact ⟨_, exec_schedulingDecision_reducer p c hcarries, exec_reducerFrame p c (x := (id, cp, fr)) hcarries hpick, rfl⟩
  case idle =>
    refine ⟨_, exec_schedulingDecision_reducer p c hcarries, ?_⟩
    have hturn : s.dev.reducerTurn p c = s.dev := by
      unfold Device.reducerTurn
      rw [Device.plainPick_eq_none hheads]
    dsimp only
    rw [hturn]
    exact Device.frame_settle _ _
  case resend =>
    obtain ⟨hsends, hrest, hcopies⟩ := Device.sendResend_sends hwaits hstored hcredit hptp
    have hturn : s.dev.fabricTurn p n = s.dev.sendResend p n :=
      Device.fabricTurn_resends hlive hwindow hup (hwaits ▸ List.cons_ne_nil q rest)
    rw [exec_schedulingDecision_fabric p n hcarries, hturn]
    exact ⟨_, rfl, rfl, hsends.after (Device.frame_settle _ noRegs), (congrArg PortSt.resend (Device.port_settle ..)).trans hrest,
      (Device.copies_settle _).trans hcopies⟩
  case hold =>
    refine ⟨_, exec_schedulingDecision_fabric p n hcarries, ?_⟩
    dsimp only
    rw [Device.fabricTurn_holds hlive hwindow hup hwaits hhold]
    exact Device.frame_settle _ _

end Sys2Proof.Machine

/-! ### Promotion of queues and observation (spec/06 R121, R122, R123) -/

namespace Sys2Proof.Machine

/-! #### The records of outputs and tenant queues -/

theorem Device.outp_congr {d e : Device} (h : e.outs = d.outs) (p o : Nat) : e.outp p o = d.outp p o := by
  unfold Device.outp
  rw [h]

theorem Device.tq_congr {d e : Device} (h : e.tqs = d.tqs) (p o c t : Nat) : e.tq p o c t = d.tq p o c t := by
  unfold Device.tq
  rw [h]

theorem Device.tq_setTq_same (d : Device) (p o c t : Nat) (v : TqSt) : (d.setTq p o c t v).tq p o c t = v := by
  simp [Device.tq, Device.setTq, Tbl.get_put]

theorem Device.outp_setOutp_same (d : Device) (p o : Nat) (v : OutSt) : (d.setOutp p o v).outp p o = v :=
  (Device.outp_setOutp ..).trans (if_pos ⟨rfl, rfl⟩)

section
variable {d : Device} {p o : Nat}

/-! #### Promotion of a tenant queue (R121) -/

/-- A promotion that is allowed on an output brought up to date: the class is not of the highest rank, the queue is not promoted
yet, and it is eligible with a frame at its head. -/
def Device.mayPromote (e : Device) (p o c t : Nat) : Bool :=
  decide (octet 8 8 (e.get .classRank p 0) c ≠ 7) && !(e.outp p o).promoted.contains (c, t) &&
    (backlog (e.heads p o) c).contains t && e.eligible p o c t (e.heads p o)

/-- The output and the queue once it is promoted: its clock runs on from its urgency of `ms` at least. -/
def Device.queuePromoted (e : Device) (p o c t ms : Nat) : Device :=
  (e.setTq p o c t { e.tq p o c t with
    waited := max (e.waitOf (e.tq p o c t)) (ms * 1000000), waitFrom := some e.clock }).setOutp p o
      { e.outp p o with promoted := (e.outp p o).promoted ++ [(c, t)] }

theorem Device.promoteQueue_eq (d : Device) (p o c t ms : Nat) :
    d.promoteQueue p o c t ms = if (d.refresh p o).mayPromote p o c t then ((d.refresh p o).queuePromoted p o c t ms, true)
      else (d.refresh p o, false) := by
  have hguard : (decide (octet 8 8 ((d.refresh p o).get .classRank p 0) c = 7) || ((d.refresh p o).outp p o).promoted.contains (c, t) ||
      !(backlog ((d.refresh p o).heads p o) c).contains t || !(d.refresh p o).eligible p o c t ((d.refresh p o).heads p o)) =
      !(d.refresh p o).mayPromote p o c t := by
    simp [Device.mayPromote, Bool.not_and]
  unfold Device.promoteQueue
  dsimp only
  rw [hguard]
  cases (d.refresh p o).mayPromote p o c t <;> rfl

theorem Device.get_refresh (d : Device) (p o : Nat) (w : Obj) (q i : Nat) : (d.refresh p o).get w q i = d.get w q i :=
  ((Moves.refl d objs_refresh parts_refresh).refresh (Mask.le_refl _) (Mask.le_refl _)).get w q i (Nat.zero_testBit _)

theorem Device.get_queuePromoted (e : Device) (p o c t ms : Nat) (w : Obj) (q i : Nat) :
    (e.queuePromoted p o c t ms).get w q i = e.get w q i := rfl

theorem Device.promoted_queuePromoted (e : Device) (p o c t ms : Nat) :
    ((e.queuePromoted p o c t ms).outp p o).promoted = (e.outp p o).promoted ++ [(c, t)] :=
  congrArg OutSt.promoted (Device.outp_setOutp_same ..)

theorem Device.waited_queuePromoted (e : Device) (p o c t ms : Nat) :
    ms * 1000000 ≤ ((e.queuePromoted p o c t ms).tq p o c t).waited := by
  have hqueue : (e.queuePromoted p o c t ms).tq p o c t = { e.tq p o c t with
      waited := max (e.waitOf (e.tq p o c t)) (ms * 1000000), waitFrom := some e.clock } := Device.tq_setTq_same ..
  rw [hqueue]
  exact Nat.le_max_right ..

/-- A promotion is counted at the queue and at the plane. -/
theorem Device.promote_of_may {c t : Nat} (h : (d.refresh p o).mayPromote p o c t = true) :
    d.promote p o c t = (((d.refresh p o).queuePromoted p o c t (octet 8 16 (d.get .urgencyMs p 0) c)).bump .qPromoted p
      (o * 65536 + tqSelOf c t)).bump .starvePromoted p 0 := by
  unfold Device.promote
  simp only [Device.promoteQueue_eq, h, if_true]

theorem Device.promote_of_not_may {c t : Nat} (h : (d.refresh p o).mayPromote p o c t = false) : d.promote p o c t = d.refresh p o := by
  unfold Device.promote
  simp only [Device.promoteQueue_eq, h, Bool.false_eq_true, if_false]

theorem Device.outp_settle_bump (f : Device) (w : Obj) (q i : Nat) : (f.bump w q i).settle.outp p o = f.outp p o :=
  Device.outp_congr ((quiet_outs.settle _).trans (quiet_outs.bump ..)) p o

/-! #### Promotion of background queues (R122) -/

theorem Device.bgPromote_telemetry (h : (d.refresh p o).mayPromote p o 7 sysReq = true) :
    d.bgPromote p o 0 =
      ((d.refresh p o).queuePromoted p o 7 sysReq (octet 3 16 (d.get .bgUrgencyMs p 0) 0)).bump .bgPromoted p 0 := by
  unfold Device.bgPromote
  simp only [Device.promoteQueue_eq, h, if_true]

/-- The output once an idle hold of a kind is promoted. -/
def Device.holdPromoted (d : Device) (p o kind : Nat) : Device :=
  d.setOutp p o { d.outp p o with bgPromoted := (d.outp p o).bgPromoted ++ [kind] }

theorem Device.bgPromote_hold {kind : Nat} (hkind : kind ≠ 0)
    (hwaits : if kind = 1 then (d.outp p o).calHold ≠ [] else (d.outp p o).bistHold ≠ [])
    (hnew : (d.outp p o).bgPromoted.contains kind = false) :
    d.bgPromote p o kind = (d.holdPromoted p o kind).bump .bgPromoted p 0 := by
  unfold Device.bgPromote
  rw [if_neg hkind]
  exact if_pos (by simp only [hwaits, hnew, decide_true, Bool.not_false, Bool.and_self])

theorem Device.bgPromoted_holdPromoted (d : Device) (p o kind : Nat) :
    ((d.holdPromoted p o kind).outp p o).bgPromoted = (d.outp p o).bgPromoted ++ [kind] :=
  congrArg OutSt.bgPromoted (Device.outp_setOutp_same ..)

/-! #### Observation (R123) -/

theorem Device.observe_of_not_due (h : (d.outp p o).sampleDue = false) : d.observe p o = d :=
  if_pos (by simp [h])

end

/-- A fold keeps a reading that none of its elements moves. -/
theorem foldl_keeps_mem {α β γ : Type} {g : β → γ} {f : β → α → β} {l : List α} (h : ∀ b, ∀ y ∈ l, g (f b y) = g b) (b : β) :
    g (l.foldl f b) = g b := by
  induction l generalizing b with
  | nil => rfl
  | cons a r ih =>
    exact (ih (fun b y hy => h b y (List.mem_cons_of_mem a hy)) (f b a)).trans (h b a List.mem_cons_self)

/-- A reading that one element only of a fold moves is what that element makes of it. -/
theorem foldl_moves_once {α β γ : Type} {g : β → γ} {f : β → α → β} {k : γ → γ} {l : List α} {x : α} (hx : x ∈ l) (hl : l.Nodup)
    (hmoves : ∀ b, g (f b x) = k (g b)) (hkeeps : ∀ b, ∀ y ∈ l, y ≠ x → g (f b y) = g b) (b : β) :
    g (l.foldl f b) = k (g b) := by
  obtain ⟨before, after, rfl⟩ := List.append_of_mem hx
  obtain ⟨hbefore, hafter⟩ : x ∉ before ∧ x ∉ after := by
    simp only [List.nodup_append, List.nodup_cons, List.mem_cons] at hl
    exact ⟨fun hin => hl.2.2 x hin x (.inl rfl) rfl, hl.2.1.1⟩
  rw [List.foldl_append, List.foldl_cons,
    foldl_keeps_mem (fun b y hy => hkeeps b y (by simp [hy]) (ne_of_mem_of_not_mem hy hafter)), hmoves,
    foldl_keeps_mem (fun b y hy => hkeeps b y (by simp [hy]) (ne_of_mem_of_not_mem hy hbefore))]

/-- A fold in which one element only acts is what that element does. -/
theorem foldl_eq_of_only {α β : Type} {f : β → α → β} {l : List α} {x : α} (hx : x ∈ l) (hl : l.Nodup)
    (hkeeps : ∀ b, ∀ y ∈ l, y ≠ x → f b y = b) (b : β) : l.foldl f b = f b x :=
  foldl_moves_once (g := id) (k := (f · x)) hx hl (fun _ => rfl) hkeeps b

section
variable {d : Device} {p o id : Nat} {cp : Copy} {fr : FrameRec}

/-- What a sample writes of one tenant queue: its depth in cells and the delay of its head, both with their high-water (R123). -/
def Device.sampled (d : Device) (p i cells delay : Nat) : Device :=
  (((d.set .qDepth p i cells).set .qDelayNs p i (min delay 0xFFFFFFFF)).highWater .qDepthMax p i cells).highWater .qDelayMax p i
    (min delay 0xFFFFFFFF)

/-- The sample of tenant queue (o, c, t). -/
def Device.sampleQueue (d : Device) (p o c t : Nat) (heads : List (Nat × Copy × FrameRec)) : Device :=
  d.sampled p (o * 65536 + tqSelOf c t) (d.depthOf p o c t heads)
    (match (queueHeads heads c t).head? with | some x => d.clock - x.2.1.at_ | none => 0)

/-- The device whose due sample is taken. -/
def Device.sampleTaken (d : Device) (p o : Nat) : Device := d.setOutp p o { d.outp p o with sampleDue := false }

/-- A due sample is taken of each backlogged queue of a tenant. -/
theorem Device.observe_of_due (h : (d.outp p o).sampleDue = true) :
    d.observe p o = (List.range 8).foldl (fun e c => ((backlog ((d.sampleTaken p o).heads p o) c).filter (· ≠ sysReq)).foldl
      (fun e t => e.sampleQueue p o c t ((d.sampleTaken p o).heads p o)) e) (d.sampleTaken p o) :=
  if_neg (by simp [h])

theorem Device.get_highWater_obj (d : Device) (w : Obj) (p i v : Nat) {w' : Obj} (q j : Nat) (h : w' ≠ w) :
    (d.highWater w p i v).get w' q j = d.get w' q j := by
  unfold Device.highWater
  split
  · exact Device.get_set_obj _ _ _ _ _ _ _ _ h
  · rfl

theorem Device.get_qDepth_sampled (d : Device) (p i cells delay : Nat) :
    (d.sampled p i cells delay).get .qDepth p i = cells % 2 ^ 32 := by
  unfold Device.sampled
  rw [Device.get_highWater_obj _ _ _ _ _ _ _ (by decide), Device.get_highWater_obj _ _ _ _ _ _ _ (by decide),
    Device.get_set_obj _ _ _ _ _ _ _ _ (by decide)]
  exact Device.get_set_same ..

theorem Device.get_qDelayNs_sampled (d : Device) (p i cells delay : Nat) :
    (d.sampled p i cells delay).get .qDelayNs p i = min delay 0xFFFFFFFF := by
  unfold Device.sampled
  rw [Device.get_highWater_obj _ _ _ _ _ _ _ (by decide), Device.get_highWater_obj _ _ _ _ _ _ _ (by decide)]
  exact Device.get_set_lt _ _ _ _ _ (Nat.lt_of_le_of_lt (Nat.min_le_right ..) (by decide))

theorem Device.frame_sampled (d : Device) (p i cells delay : Nat) :
    Device.Frame d (d.sampled p i cells delay) (fun w q j =>
      (w = .qDepth ∨ w = .qDelayNs ∨ w = .qDepthMax ∨ w = .qDelayMax) ∧ q = p ∧ j = i) :=
  (((Device.frame_set _ _ _ _ _ _ (.inr ⟨.inl rfl, rfl, rfl⟩)).trans
    (Device.frame_set _ _ _ _ _ _ (.inr ⟨.inr (.inl rfl), rfl, rfl⟩))).trans
    (Device.frame_highWater _ _ _ _ _ _ (.inr ⟨.inr (.inr (.inl rfl)), rfl, rfl⟩))).trans
    (Device.frame_highWater _ _ _ _ _ _ (.inr ⟨.inr (.inr (.inr rfl)), rfl, rfl⟩))

theorem backlog_singleton (x : Nat × Copy × FrameRec) (c : Nat) :
    backlog [x] c = if x.2.2.cls = c then [x.2.2.tenant] else [] := by
  unfold backlog
  split <;> simp_all [List.eraseDups_cons]

theorem queueHeads_singleton (x : Nat × Copy × FrameRec) : queueHeads [x] x.2.2.cls x.2.2.tenant = [x] := by
  simp [queueHeads]

/-- The only copy of a device, queued for a line port. -/
structure Device.HoldsOnly (d : Device) (p o id : Nat) (cp : Copy) (fr : FrameRec) : Prop where
  copies : d.copies = [((p, id), cp)]
  queued : cp.stage = .queued
  waits : cp.wait.contains (swOfLine o) = true
  frame : d.frame? p cp.fid = some fr

variable (h : d.HoldsOnly p o id cp fr)
include h

theorem Device.HoldsOnly.copiesOf : d.copiesOf p = [(id, cp)] := by
  unfold Device.copiesOf
  simp [h.copies]

theorem Device.HoldsOnly.heads : d.heads p o = [(id, cp, fr)] := by
  unfold Device.heads Device.headsAt
  simp only [h.copiesOf, List.filterMap_cons, List.filterMap_nil, h.queued, h.waits, h.frame, decide_true, Bool.and_self, if_true,
    Option.map_some]
  simp [sortBy, insertBy]

theorem Device.HoldsOnly.depthOf : d.depthOf p o fr.cls fr.tenant [(id, cp, fr)] = fr.cells := by
  have hhead : queueHeads [(id, cp, fr)] fr.cls fr.tenant = [(id, cp, fr)] := queueHeads_singleton (id, cp, fr)
  unfold Device.depthOf
  simp only [h.copiesOf, hhead, h.queued, h.waits, h.frame, List.map_cons, List.map_nil, List.any_cons, List.any_nil, decide_true,
    Bool.or_false, Bool.and_self, if_true]
  exact Nat.zero_add _

/-- A sample of an output with one frame queued records its queue and no other. -/
theorem Device.HoldsOnly.observe (hdue : (d.outp p o).sampleDue = true) (hcls : fr.cls < 8) (htenant : fr.tenant ≠ sysReq) :
    d.observe p o = (d.sampleTaken p o).sampled p (o * 65536 + tqSelOf fr.cls fr.tenant) fr.cells (d.clock - cp.at_) := by
  have htaken : (d.sampleTaken p o).HoldsOnly p o id cp fr := ⟨h.copies, h.queued, h.waits, h.frame⟩
  have hqueue : (d.sampleTaken p o).sampleQueue p o fr.cls fr.tenant [(id, cp, fr)] =
      (d.sampleTaken p o).sampled p (o * 65536 + tqSelOf fr.cls fr.tenant) fr.cells (d.clock - cp.at_) := by
    have hhead : queueHeads [(id, cp, fr)] fr.cls fr.tenant = [(id, cp, fr)] := queueHeads_singleton (id, cp, fr)
    unfold Device.sampleQueue
    rw [htaken.depthOf, hhead]
    rfl
  rw [Device.observe_of_due hdue, htaken.heads, foldl_eq_of_only (List.mem_range.mpr hcls) List.nodup_range]
  · simp only [backlog_singleton, if_true, List.filter_cons, htenant, ne_eq, not_false_eq_true, decide_true, List.filter_nil,
      List.foldl_cons, List.foldl_nil, hqueue]
  · intro e c _ hc
    simp only [backlog_singleton, if_neg (Ne.symm hc), List.filter_nil, List.foldl_nil]

end

/-! #### The three commands -/

theorem exec_queuePromotion (p : Plane) (o : LinePort) (c : Cls) (tn : Tenant) {s : State} (h : s.dev.live p = true) :
    exec (.queuePromotion p o c tn) s = .next { s with dev := (s.dev.promote p o c tn).settle } := by
  show execQueuePromotion p o c tn s = _
  exact State.runOn_next h

theorem exec_backgroundPromotion (p : Plane) (o : LinePort) (kind : Fin 3) {s : State} (h : s.dev.live p = true) :
    exec (.backgroundPromotion p o kind) s = .next { s with dev := (s.dev.bgPromote p o kind).settle } := by
  show execBackgroundPromotion p o kind s = _
  exact State.runOn_next h

theorem exec_observationSample (p : Plane) (o : LinePort) {s : State} (h : s.dev.live p = true) :
    exec (.observationSample p o) s = .next { s with dev := (s.dev.observe p o).settle } := by
  show execObservationSample p o s = _
  exact State.runOn_next h

/-- Settles O24: the queue by `promote_of_may` and `promote_of_not_may`, the telemetry queue by `bgPromote_telemetry`, an idle hold by
`bgPromote_hold`; a due sample of one queued frame by `HoldsOnly.observe`. -/
theorem promotionAndObservation : Obligations.PromotionAndObservation := by
  intro s p o c tn hlive e may
  have hmay : ∀ k q, e.mayPromote p o k q = may k q := fun k q => by
    unfold Device.mayPromote
    rw [show e.get .classRank p 0 = s.dev.get .classRank p 0 from Device.get_refresh ..]
  have hbg : ∀ f : Device, f.get .bgPromoted p 0 = s.dev.get .bgPromoted p 0 →
      (f.bump .bgPromoted p 0).settle.get .bgPromoted p 0 = min (s.dev.get .bgPromoted p 0 + 1) (2 ^ 32 - 1) := fun f hf =>
    ((Device.get_settle _ _ _ _ rfl).trans (Device.get_count_same f _ _ _ _ (by decide))).trans (by rw [hf]; rfl)
  have hhold : ∀ kind : Fin 3, kind.val ≠ 0 →
      (if kind.val = 1 then (s.dev.outp p o).calHold ≠ [] else (s.dev.outp p o).bistHold ≠ []) →
      (s.dev.outp p o).bgPromoted.contains kind.val = false →
      ∃ t, exec (.backgroundPromotion p o kind) s = .next t ∧ t.pending = s.pending ∧
        (t.dev.outp p o).bgPromoted = (s.dev.outp p o).bgPromoted ++ [kind.val] ∧
        t.dev.get .bgPromoted p 0 = min (s.dev.get .bgPromoted p 0 + 1) (2 ^ 32 - 1) := fun kind hkind hwaits hnew => by
    rw [exec_backgroundPromotion p o kind hlive, Device.bgPromote_hold hkind hwaits hnew]
    exact ⟨_, rfl, rfl, (congrArg OutSt.bgPromoted (Device.outp_settle_bump ..)).trans (Device.bgPromoted_holdPromoted ..), hbg _ rfl⟩
  refine ⟨fun hallowed => ?promoted, fun hrefused => ?stays, fun hallowed => ?telemetry, hhold 1 (by decide), hhold 2 (by decide),
    fun hdue => ?notDue, fun id cp fr hdue hcopies hqueued hwaits hframe hcls htenant => ?sample⟩
  case promoted =>
    intro i
    let f := e.queuePromoted p o c tn (octet 8 16 (s.dev.get .urgencyMs p 0) c)
    have hreg : ∀ w j, f.get w p j = s.dev.get w p j := fun w j =>
      (Device.get_queuePromoted e p o c tn _ w p j).trans (Device.get_refresh s.dev p o w p j)
    let t := ((f.bump .qPromoted p i).bump .starvePromoted p 0).settle
    rw [exec_queuePromotion p o c tn hlive, Device.promote_of_may ((hmay c tn).trans hallowed)]
    refine ⟨_, rfl, rfl, ?out, ?clock, ?queue, ?plane⟩
    case out =>
      have hout : t.outp p o = f.outp p o := (Device.outp_settle_bump ..).trans (Device.outp_congr (quiet_outs.bump ..) p o)
      exact (congrArg OutSt.promoted hout).trans (Device.promoted_queuePromoted ..)
    case clock =>
      have hqueue : t.tq p o c tn = f.tq p o c tn :=
        Device.tq_congr ((quiet_tqs.settle _).trans ((quiet_tqs.bump ..).trans (quiet_tqs.bump ..))) ..
      exact (Device.waited_queuePromoted e p o c tn _).trans_eq (congrArg TqSt.waited hqueue.symm)
    case queue =>
      calc t.get .qPromoted p i
          = (f.bump .qPromoted p i).get .qPromoted p i :=
            (Device.get_settle _ _ _ _ rfl).trans (Device.get_bump_obj _ _ _ _ _ _ _ (by decide))
        _ = min (f.get .qPromoted p i + 1) (2 ^ 32 - 1) := Device.get_count_same f .qPromoted p i 1 (by decide)
        _ = min (s.dev.get .qPromoted p i + 1) (2 ^ 32 - 1) := by rw [hreg]
    case plane =>
      calc t.get .starvePromoted p 0
          = min ((f.bump .qPromoted p i).get .starvePromoted p 0 + 1) (2 ^ 32 - 1) :=
            (Device.get_settle _ _ _ _ rfl).trans (Device.get_count_same _ _ _ _ _ (by decide))
        _ = min (f.get .starvePromoted p 0 + 1) (2 ^ 32 - 1) :=
            congrArg (fun v => min (v + 1) (2 ^ 32 - 1)) (Device.get_bump_obj _ _ _ _ _ _ _ (by decide))
        _ = min (s.dev.get .starvePromoted p 0 + 1) (2 ^ 32 - 1) := by rw [hreg]
  case stays =>
    rw [exec_queuePromotion p o c tn hlive, Device.promote_of_not_may ((hmay c tn).trans hrefused)]
    exact ⟨_, rfl, Device.frame_settle _ _⟩
  case telemetry =>
    have hturn : s.dev.bgPromote p o (0 : Fin 3) =
        (e.queuePromoted p o 7 sysReq (octet 3 16 (s.dev.get .bgUrgencyMs p 0) 0)).bump .bgPromoted p 0 :=
      Device.bgPromote_telemetry ((hmay 7 sysReq).trans hallowed)
    rw [exec_backgroundPromotion p o 0 hlive, hturn]
    exact ⟨_, rfl, rfl,
      (congrArg OutSt.promoted (Device.outp_settle_bump ..)).trans (Device.promoted_queuePromoted ..),
      hbg _ ((Device.get_queuePromoted ..).trans (Device.get_refresh ..))⟩
  case notDue =>
    rw [exec_observationSample p o hlive, Device.observe_of_not_due hdue]
    exact ⟨_, rfl, Device.frame_settle _ _⟩
  case sample =>
    have honly : s.dev.HoldsOnly p o id cp fr := ⟨hcopies, hqueued, hwaits, hframe⟩
    rw [exec_observationSample p o hlive, honly.observe hdue hcls htenant]
    exact ⟨_, rfl, rfl, (Device.get_settle _ _ _ _ rfl).trans (Device.get_qDepth_sampled ..),
      (Device.get_settle _ _ _ _ rfl).trans (Device.get_qDelayNs_sampled ..),
      (Device.frame_sampled ..).trans (Device.frame_settle _ _)⟩

end Sys2Proof.Machine

/-! ### Gate lists (spec/06 R114, R115) -/

namespace Sys2Proof.Machine

/-! #### What scheduling leaves of an output's gate lists -/

/-- The part of an output's record that its gate lists are: the pages, the enable in force and the one that waits. -/
def OutSt.gates (x : OutSt) : GatePage × Option GatePend × Bool × Option Bool × Bool :=
  (x.page, x.pend, x.enabled, x.enableNext, x.bypClosed)

theorem OutSt.of_gates {x y : OutSt} (h : x.gates = y.gates) :
    x.page = y.page ∧ x.pend = y.pend ∧ x.enabled = y.enabled ∧ x.enableNext = y.enableNext := by
  simp only [OutSt.gates, Prod.mk.injEq] at h
  obtain ⟨hpage, hpend, henabled, hnext, -⟩ := h
  exact ⟨hpage, hpend, henabled, hnext⟩

section
variable {d : Device} {p o q m : Nat}

theorem Device.gates_setOutp {v : OutSt} (h : v.gates = (d.outp p o).gates) :
    ((d.setOutp p o v).outp q m).gates = (d.outp q m).gates := by
  rw [Device.outp_setOutp]
  split
  · next heq => rw [heq.1, heq.2, h]
  · rfl

theorem Device.outp_waitClocks (heads : List (Nat × Copy × FrameRec)) : (d.waitClocks p o heads).outp q m = d.outp q m :=
  Device.outp_congr (((Moves.refl d objs_waitClocks parts_waitClocks).waitClocks (Mask.le_refl _) (Mask.le_refl _)).same .outs
    (by decide)) q m

theorem Device.outp_wakeQueue (d : Device) (p o c t at_ : Nat) : (d.wakeQueue p o c t at_).outp q m = d.outp q m := rfl

theorem Device.gates_svcUpdate : ((d.svcUpdate p o).outp q m).gates = (d.outp q m).gates := by
  have hwake : ∀ (l : List Nat) (c : Nat) (e : Device), (l.foldl (fun e t => e.wakeQueue p o c t e.clock) e).outp q m = e.outp q m :=
    fun l c e => foldl_keeps (·.outp q m) _ (fun f t => Device.outp_wakeQueue f p o c t f.clock) l e
  unfold Device.svcUpdate
  dsimp only
  rw [foldl_keeps (·.outp q m) _ (fun e c => hwake _ c e)]
  exact Device.gates_setOutp rfl

theorem Device.gates_calHolds : ((d.calHolds p o).outp q m).gates = (d.outp q m).gates := by
  unfold Device.calHolds Device.requestHolds
  split
  · split
    · rfl
    · refine foldl_keeps (fun e => (e.outp q m).gates) _ (fun e k => ?_) _ d
      dsimp only
      split
      · rfl
      · split
        · exact Device.gates_setOutp rfl
        · split
          · exact Device.gates_setOutp rfl
          · rfl
  · rfl

/-- The clocks that follow a change of gates leave the gates alone. -/
theorem Device.gates_gateMoved : ((d.gateMoved p o).outp q m).gates = (d.outp q m).gates := by
  unfold Device.gateMoved
  dsimp only
  rw [Device.gates_calHolds, Device.outp_waitClocks, Device.gates_svcUpdate]

theorem Device.get_gateMoved (w : Obj) (j : Nat) : (d.gateMoved p o).get w q j = d.get w q j :=
  ((Moves.refl d objs_gateMoved parts_gateMoved).gateMoved (Mask.le_refl _) (Mask.le_refl _)).get w q j (Nat.zero_testBit _)

/-! #### The running entry (R114) -/

theorem Device.outp_gateMove : (d.gateMove p o).outp q m = d.outp q m :=
  Device.outp_congr (((Moves.refl d objs_gateMove parts_gateMove).gateMove (Mask.le_refl _) (Mask.le_refl _)).same .outs
    (by decide)) q m

/-- The index of the running entry of an output's page at the reading of its time base. -/
def Device.entryNow (d : Device) (p o : Nat) : Nat := ((d.outp p o).page.at_ (d.tbNow p (d.outp p o).page.tb)).1

/-- The readings of a time base follow its state and the clock only. -/
theorem Device.tbNow_congr {d e : Device} (htbs : e.tbs = d.tbs) (hclock : e.clock = d.clock) (p n : Nat) : e.tbNow p n = d.tbNow p n := by
  unfold Device.tbNow Device.tbFine Device.tb
  rw [htbs, hclock]

theorem Device.get_gclCurrent_gateMove (h : (d.outp p o).pend = none) :
    (d.gateMove p o).get .gclCurrent p o = d.entryNow p o % 2 ^ 8 := by
  have htick : ∀ open_ n, (d.creditTick p o open_).tbNow p n = d.tbNow p n := fun open_ n => by
    have hmoves : Moves d (d.creditTick p o open_) objs_creditTick parts_creditTick :=
      (Moves.refl ..).creditTick (Mask.le_refl _) (Mask.le_refl _)
    exact Device.tbNow_congr (hmoves.same .tbs (by decide)) (hmoves.same .clock (by decide)) p n
  unfold Device.gateMove
  dsimp only
  rw [Device.get_set_same, h, htick]
  rfl

/-- Running into entry 0 starts a cycle; a list of one entry starts one each time. -/
def Device.startsCycle (d : Device) (p o : Nat) : Prop :=
  d.entryNow p o % 2 ^ 8 = 0 ∧ (d.get .gclCurrent p o ≠ 0 ∨ (d.outp p o).page.entries.length = 1)

/-- At the start of a cycle the enable that waits is in force (R114). -/
def OutSt.cycled (x : OutSt) : OutSt := { x with enabled := x.enableNext.getD x.enabled, enableNext := none }

theorem Device.outp_cycleStart : (d.cycleStart p o).outp p o = (d.outp p o).cycled := Device.outp_setOutp_same ..

theorem Device.gates_gateChange (h : (d.outp p o).pend = none) :
    (d.startsCycle p o → ((d.gateChange p o).outp p o).gates = (d.outp p o).cycled.gates) ∧
      (¬ d.startsCycle p o → ((d.gateChange p o).outp p o).gates = (d.outp p o).gates) := by
  have hstarts : (decide ((d.gateMove p o).get .gclCurrent p o = 0) &&
      (decide (d.get .gclCurrent p o ≠ 0) || decide ((d.outp p o).page.entries.length = 1))) = true ↔ d.startsCycle p o := by
    simp [Device.startsCycle, Device.get_gclCurrent_gateMove h]
  unfold Device.gateChange
  dsimp only
  rw [Device.gates_gateMoved]
  refine ⟨fun hs => ?_, fun hs => ?_⟩
  · rw [if_pos (hstarts.mpr hs), Device.outp_cycleStart, Device.outp_gateMove]
  · rw [if_neg (mt hstarts.mp hs), Device.outp_gateMove]

theorem Device.get_gclCurrent_gateChange (h : (d.outp p o).pend = none) :
    (d.gateChange p o).get .gclCurrent p o = d.entryNow p o % 2 ^ 8 := by
  unfold Device.gateChange
  dsimp only
  rw [Device.get_gateMoved]
  refine Eq.trans ?_ (Device.get_gclCurrent_gateMove h)
  split <;> rfl

/-! #### The pages swap (R115) -/

theorem Device.outp_set (d : Device) (w : Obj) (r i v : Nat) : (d.set w r i v).outp q m = d.outp q m := rfl

/-- A register of a table that is written from its first entry on. -/
theorem Device.get_set_foldl {w : Obj} {base n k : Nat} {f : Nat → Nat} (hk : k < n) :
    ((List.range n).foldl (fun d e => d.set w p (base + e) (f e)) d).get w p (base + k) = f k % 2 ^ w.width := by
  induction n with
  | zero => exact absurd hk (Nat.not_lt_zero k)
  | succ n ih =>
    rw [List.range_succ, List.foldl_append, List.foldl_cons, List.foldl_nil]
    by_cases hlast : k = n
    · rw [hlast, Device.get_set_same]
    · rw [Device.get_set, if_neg (by omega)]
      exact ih (by omega)

theorem Device.get_set_foldl_obj {w w' : Obj} {base j : Nat} {f : Nat → Nat} (h : w' ≠ w) (l : List Nat) :
    (l.foldl (fun d e => d.set w p (base + e) (f e)) d).get w' q j = d.get w' q j :=
  foldl_keeps (·.get w' q j) _ (fun _ _ => Device.get_set_obj _ _ _ _ _ _ _ _ h) l d

theorem Device.outs_set_foldl {w : Obj} {base : Nat} {f : Nat → Nat} (l : List Nat) :
    (l.foldl (fun d e => d.set w p (base + e) (f e)) d).outs = d.outs :=
  foldl_keeps (·.outs) _ (fun e k => Device.outs_set e w p (base + k) (f k)) l d

/-- An output with a new active page (spec/14 R320 for its bypass entries). -/
def OutSt.activated (x : OutSt) (g : GatePage) (closed : Bool) : OutSt :=
  { x with page := g, pend := none, bypClosed := closed && g.entries.any entryByp }

theorem Device.outp_activatePage (g : GatePage) (closed : Bool) :
    (d.activatePage p o g closed).outp p o = (d.outp p o).activated g closed := by
  unfold Device.activatePage
  dsimp only
  rw [Device.outp_congr (Device.outs_set_foldl _), Device.outp_setOutp_same]
  rfl

theorem Device.outp_toStandby (g : GatePage) : (d.toStandby p o g).outp q m = d.outp q m :=
  Device.outp_congr (((Moves.refl d objs_toStandby parts_toStandby).toStandby (Mask.le_refl _) (Mask.le_refl _)).same .outs
    (Nat.zero_testBit _)) q m

/-- The device whose pages have swapped, before its clocks follow the change. -/
def Device.pagesSwapped (d : Device) (p o : Nat) (w : GatePend) : Device :=
  ((((d.gateMove p o).toStandby p o (d.outp p o).page).activatePage p o w.page (d.outp p o).bypClosed).cycleStart p o).set
    .gclCommitCmd p o 2

theorem Device.gclSwap_eq {w : GatePend} (h : (d.outp p o).pend = some w) :
    d.gclSwap p o = ((d.pagesSwapped p o w).set .gclCurrent p o
      (w.page.at_ ((d.pagesSwapped p o w).tbNow p w.page.tb)).1).gateMoved p o := by
  unfold Device.gclSwap Device.pagesSwapped
  rw [h]
  dsimp only
  rw [Device.outp_gateMove]

theorem Device.outp_pagesSwapped (w : GatePend) :
    (d.pagesSwapped p o w).outp p o = ((d.outp p o).activated w.page (d.outp p o).bypClosed).cycled := by
  unfold Device.pagesSwapped
  rw [Device.outp_set, Device.outp_cycleStart, Device.outp_activatePage, Device.outp_toStandby, Device.outp_gateMove]

theorem Device.get_cycleStart (d : Device) (p o : Nat) (w : Obj) (q j : Nat) : (d.cycleStart p o).get w q j = d.get w q j := rfl

theorem Device.get_activatePage_obj (d : Device) (p o : Nat) (g : GatePage) (closed : Bool) {w : Obj} (h : w ≠ .gclActiveEntry)
    (q j : Nat) : (d.activatePage p o g closed).get w q j = d.get w q j :=
  (Device.get_set_foldl_obj h _).trans (Device.get_setOutp ..)

/-- The active entries show the page that has come. -/
theorem Device.get_gclActiveEntry_activatePage (g : GatePage) (closed : Bool) {k : Nat} (hk : k < 256) :
    (d.activatePage p o g closed).get .gclActiveEntry p (o * 256 + k) = g.entries.getD k 0xFF000000000003E8 % 2 ^ 64 :=
  Device.get_set_foldl hk

theorem Device.get_gclEntry_toStandby (g : GatePage) {k : Nat} (hk : k < 256) :
    (d.toStandby p o g).get .gclEntry p (o * 256 + k) = g.entries.getD k 0xFF000000000003E8 % 2 ^ 64 :=
  Device.get_set_foldl hk

theorem Device.get_gclCycleNs_toStandby (g : GatePage) : (d.toStandby p o g).get .gclCycleNs p o = g.cycle % 2 ^ 32 := by
  unfold Device.toStandby
  dsimp only
  rw [Device.get_set_foldl_obj (by decide), Device.get_set_obj _ _ _ _ _ _ _ _ (by decide), Device.get_set_same]
  rfl

/-- What a swap leaves in the registers of an output, but for the active entries. -/
theorem Device.get_gclSwap_obj {w : GatePend} (h : (d.outp p o).pend = some w) {x : Obj} (hcurrent : x ≠ .gclCurrent)
    (hcmd : x ≠ .gclCommitCmd) (hactive : x ≠ .gclActiveEntry) (j : Nat) :
    (d.gclSwap p o).get x q j = ((d.gateMove p o).toStandby p o (d.outp p o).page).get x q j := by
  rw [Device.gclSwap_eq h, Device.get_gateMoved, Device.get_set_obj _ _ _ _ _ _ _ _ hcurrent]
  unfold Device.pagesSwapped
  rw [Device.get_set_obj _ _ _ _ _ _ _ _ hcmd, Device.get_cycleStart, Device.get_activatePage_obj _ _ _ _ _ hactive]

theorem Device.get_gclActiveEntry_gclSwap {w : GatePend} (h : (d.outp p o).pend = some w) {k : Nat} (hk : k < 256) :
    (d.gclSwap p o).get .gclActiveEntry p (o * 256 + k) = w.page.entries.getD k 0xFF000000000003E8 % 2 ^ 64 := by
  rw [Device.gclSwap_eq h, Device.get_gateMoved, Device.get_set_obj _ _ _ _ _ _ _ _ (by decide)]
  unfold Device.pagesSwapped
  rw [Device.get_set_obj _ _ _ _ _ _ _ _ (by decide), Device.get_cycleStart, Device.get_gclActiveEntry_activatePage _ _ hk]

theorem Device.get_gclCommitCmd_gclSwap {w : GatePend} (h : (d.outp p o).pend = some w) :
    (d.gclSwap p o).get .gclCommitCmd p o = 2 := by
  rw [Device.gclSwap_eq h, Device.get_gateMoved, Device.get_set_obj _ _ _ _ _ _ _ _ (by decide)]
  exact Device.get_set_lt _ _ _ _ _ (by decide)

/-- The committed page is the active one, none is pending, and a cycle has started. -/
theorem Device.gates_gclSwap {w : GatePend} (h : (d.outp p o).pend = some w) :
    ((d.gclSwap p o).outp p o).gates = ((d.outp p o).activated w.page (d.outp p o).bypClosed).cycled.gates := by
  rw [Device.gclSwap_eq h, Device.gates_gateMoved, Device.outp_set, Device.outp_pagesSwapped]

end

/-! #### A write of `gcl_enable` (R114) -/

section
variable {d : Device} {p k : Nat}

/-- The device once the journal holds a value of `gcl_enable`, which waits for a cycle start. -/
def Device.enableStored (d : Device) (p k v : Nat) (on : Bool) : Device :=
  ((d.journal [(⟨.gclEnable, p, k⟩, v)]).1.set .gclEnable p k v).setOutp p k { d.outp p k with enableNext := some on }

theorem Device.get_enableStored {v : Nat} (hv : v < 2 ^ 8) (on : Bool) : (d.enableStored p k v on).get .gclEnable p k = v :=
  Device.get_set_lt _ _ _ _ _ hv

theorem Device.outp_enableStored {v : Nat} (on : Bool) :
    (d.enableStored p k v on).outp p k = { d.outp p k with enableNext := some on } := Device.outp_setOutp_same ..

/-- A write of `gcl_enable`: the value is stored, and waits for the start of a cycle. -/
def Device.enableWrite (d : Device) (p k v : Nat) (on : Bool) : Device × Bool :=
  let r := d.store .gclEnable p k v
  if r.2 then (r.1.setOutp p k { r.1.outp p k with enableNext := some on }, true) else r

theorem Device.enableWrite_journalled {ses v : Nat} (hv : v < 2 ^ 8) (h : d.journals ses [(⟨.gclEnable, p, k⟩, v)] = true)
    (on : Bool) : (d.fmMessage ses).enableWrite p k v on = ((d.fmMessage ses).enableStored p k v on, true) := by
  have hvalue : v % 2 ^ Obj.gclEnable.width = v := Nat.mod_eq_of_lt hv
  have hstore := Device.store_journals d ses .gclEnable p k v rfl (hvalue.symm ▸ h)
  rw [hvalue] at hstore
  unfold Device.enableWrite Device.enableStored
  rw [hstore]
  dsimp only
  rw [if_pos rfl, Device.outp_set, Device.outp_congr (quiet_outs.journal ..)]

/-! #### A commit (R115) -/

/-- What a commit reads and leaves of one output. -/
structure GateView where
  out : OutSt
  reads : Nat
  late : Nat
  standby : GatePage
  change : Nat × Nat × Bool

/-- That view of a device. -/
def Device.gateView (d : Device) (p x : Nat) : GateView :=
  { out := d.outp p x, reads := d.get .gclCommitCmd p x, late := d.get .gclLate p x, standby := d.standbyPage p x,
    change := d.changeOf p x }

theorem Device.of_gateView {x : Nat} {v : GateView} (h : d.gateView p x = v) :
    d.outp p x = v.out ∧ d.get .gclCommitCmd p x = v.reads ∧ d.get .gclLate p x = v.late := by
  subst h
  exact ⟨rfl, rfl, rfl⟩

/-- An output whose change to its standby page waits for a change instant; a late change time is counted. -/
def GateView.armed (v : GateView) (change : Nat) : GateView :=
  { v with
    out := { v.out with pend := some ⟨v.standby, v.change.1, change⟩ }, reads := 1,
    late := if v.change.2.2 then min (v.late + 1) (2 ^ 32 - 1) else v.late }

theorem GateView.page_armed (v : GateView) (change : Nat) : (v.armed change).out.page = v.out.page := rfl

/-- What a commit does with one of its outputs. -/
def Device.armChange (d : Device) (p change x : Nat) : Device :=
  let e := if (d.changeOf p x).2.2 then d.bump .gclLate p x else d
  (e.setOutp p x { e.outp p x with pend := some ⟨e.standbyPage p x, (d.changeOf p x).1, change⟩ }).set .gclCommitCmd p x 1

/-- The registers that a standby page and its change time stand in. -/
def standbyObjs : List Obj := [.gclTimeBase, .gclBaseTime, .gclCycleNs, .gclLength, .gclEntry, .gclChangeTime]

theorem Device.standbyPage_congr {d e : Device} (hget : ∀ o ∈ standbyObjs, ∀ i, e.get o p i = d.get o p i) (x : Nat) :
    e.standbyPage p x = d.standbyPage p x := by
  unfold Device.standbyPage
  simp only [hget .gclTimeBase (by decide), hget .gclBaseTime (by decide), hget .gclCycleNs (by decide),
    hget .gclLength (by decide), hget .gclEntry (by decide)]

theorem Device.changeOf_congr {d e : Device} (hget : ∀ o ∈ standbyObjs, ∀ i, e.get o p i = d.get o p i)
    (htbs : e.tbs = d.tbs) (hclock : e.clock = d.clock) {x : Nat} (hpage : (e.outp p x).page = (d.outp p x).page) :
    e.changeOf p x = d.changeOf p x := by
  unfold Device.changeOf Device.changeInstant
  simp only [Device.standbyPage_congr hget, Device.tbNow_congr htbs hclock, hpage, hget .gclChangeTime (by decide)]

/-- Arming the change of an output moves nothing that a commit reads of any. -/
theorem Device.get_armChange {change x : Nat} {o : Obj} (hlate : o ≠ .gclLate) (hcmd : o ≠ .gclCommitCmd) (q i : Nat) :
    (d.armChange p change x).get o q i = d.get o q i := by
  unfold Device.armChange
  dsimp only
  rw [Device.get_set_obj _ _ _ _ _ _ _ _ hcmd, Device.get_setOutp]
  split
  · exact Device.get_bump_obj _ _ _ _ _ _ _ hlate
  · rfl

theorem Device.outp_armChange_same {change x : Nat} : (d.armChange p change x).outp p x =
    { d.outp p x with pend := some ⟨d.standbyPage p x, (d.changeOf p x).1, change⟩ } := by
  unfold Device.armChange
  dsimp only
  rw [Device.outp_set, Device.outp_setOutp_same]
  split
  · rw [Device.outp_congr (quiet_outs.bump ..),
      Device.standbyPage_congr (fun o ho i => Device.get_bump_obj _ _ _ _ _ _ _ (by rintro rfl; revert ho; decide))]
  · rfl

theorem Device.outp_armChange_ne {change x y : Nat} (h : y ≠ x) : (d.armChange p change x).outp p y = d.outp p y := by
  unfold Device.armChange
  dsimp only
  rw [Device.outp_set, Device.outp_setOutp, if_neg (fun e => h e.2)]
  split
  · exact Device.outp_congr (quiet_outs.bump ..) p y
  · rfl

theorem Device.page_armChange {change x y : Nat} : ((d.armChange p change x).outp p y).page = (d.outp p y).page := by
  by_cases h : y = x
  · rw [h, Device.outp_armChange_same]
  · rw [Device.outp_armChange_ne h]

theorem Device.armChange_keeps {β : Type} {g : Device → β} (hg : Quiet g) {change x : Nat}
    (hout : ∀ e v, g (Device.setOutp e p x v) = g e) : g (d.armChange p change x) = g d := by
  unfold Device.armChange
  dsimp only
  rw [hg.set, hout]
  exact Quiet.ite (hg.bump ..) rfl

theorem Device.standbyObjs_armChange {change x : Nat} :
    ∀ o ∈ standbyObjs, ∀ i, (d.armChange p change x).get o p i = d.get o p i := fun o ho i =>
  Device.get_armChange (by rintro rfl; revert ho; decide) (by rintro rfl; revert ho; decide) p i

theorem Device.changeOf_armChange {change x y : Nat} : (d.armChange p change x).changeOf p y = d.changeOf p y :=
  Device.changeOf_congr Device.standbyObjs_armChange (Device.armChange_keeps quiet_tbs (fun _ _ => rfl))
    (Device.armChange_keeps quiet_clock (fun _ _ => rfl)) Device.page_armChange

theorem Device.gateView_armChange_same {change x : Nat} :
    (d.armChange p change x).gateView p x = (d.gateView p x).armed change := by
  have hreads : (d.armChange p change x).get .gclCommitCmd p x = 1 := Device.get_set_lt _ _ _ _ _ (by decide)
  have hlate : (d.armChange p change x).get .gclLate p x =
      if (d.changeOf p x).2.2 then min (d.get .gclLate p x + 1) (2 ^ 32 - 1) else d.get .gclLate p x := by
    unfold Device.armChange
    dsimp only
    rw [Device.get_set_obj _ _ _ _ _ _ _ _ (by decide), Device.get_setOutp]
    split
    · exact Device.get_count_same d .gclLate p x 1 (by decide)
    · rfl
  simp only [Device.gateView, GateView.armed, Device.outp_armChange_same, hreads, hlate,
    Device.standbyPage_congr Device.standbyObjs_armChange, Device.changeOf_armChange]
  rfl

theorem Device.gateView_armChange_ne {change x y : Nat} (h : y ≠ x) : (d.armChange p change x).gateView p y = d.gateView p y := by
  have hreads : (d.armChange p change x).get .gclCommitCmd p y = d.get .gclCommitCmd p y := by
    unfold Device.armChange
    dsimp only
    rw [Device.get_set, if_neg (fun e => h e.2.2), Device.get_setOutp]
    split
    · exact Device.get_bump_obj _ _ _ _ _ _ _ (by decide)
    · rfl
  have hlate : (d.armChange p change x).get .gclLate p y = d.get .gclLate p y := by
    unfold Device.armChange
    dsimp only
    rw [Device.get_set_obj _ _ _ _ _ _ _ _ (by decide), Device.get_setOutp]
    split
    · exact Device.get_count_ne _ _ _ _ _ _ _ _ (fun e => h e.2.2)
    · rfl
  simp only [Device.gateView, Device.outp_armChange_ne h, hreads, hlate, Device.standbyPage_congr Device.standbyObjs_armChange,
    Device.changeOf_armChange]

/-- Each output of a commit is armed once, whatever the others. -/
theorem Device.gateView_armChange_foldl {change y : Nat} {outs : List Nat} (hy : y ∈ outs) (hnodup : outs.Nodup) :
    (outs.foldl (fun e x => e.armChange p change x) d).gateView p y = (d.gateView p y).armed change :=
  foldl_moves_once (g := (·.gateView p y)) (k := (·.armed change)) hy hnodup (fun _ => Device.gateView_armChange_same)
    (fun _ _ _ h => Device.gateView_armChange_ne h.symm) d

/-- A journal record moves nothing of it. -/
theorem Device.gateView_journal (l : List (Key × Nat)) (x : Nat) : (d.journal l).1.gateView p x = d.gateView p x := by
  have hmoves : Moves d (d.journal l).1 objs_journal parts_journal := (Moves.refl ..).journal (Mask.le_refl _) (Mask.le_refl _)
  have houtp : (d.journal l).1.outp p x = d.outp p x := Device.outp_congr (hmoves.same .outs (by decide)) p x
  have hget : ∀ o ∈ standbyObjs, ∀ i, (d.journal l).1.get o p i = d.get o p i := fun o ho i =>
    hmoves.get o p i (by revert ho o; decide)
  simp only [Device.gateView, houtp, hmoves.get .gclCommitCmd p x (by decide), hmoves.get .gclLate p x (by decide),
    Device.standbyPage_congr hget, Device.changeOf_congr hget (hmoves.same .tbs (by decide)) (hmoves.same .clock (by decide))
      (congrArg OutSt.page houtp)]

/-- The checks of a commit on every output that it changes (R115, spec/14 R323). -/
def Device.commitOk (d : Device) (p o : Nat) : Bool :=
  (d.commitOuts p o).all (fun x => (d.standbyPage p x).ok && (d.outp p x).pend.isNone && d.bypEntriesOk p x)

/-- The record of a commit: the page of every output that it changes. -/
def Device.commitRecord (d : Device) (p o : Nat) : List (Key × Nat) :=
  (d.commitOuts p o).map (fun x => (⟨.gclCommitCmd, p, x⟩, (d.standbyPage p x).value))

/-- The one change instant of all the outputs that a commit changes. -/
def Device.commitInstant (d : Device) (p o : Nat) : Nat := ((d.commitOuts p o).map (fun x => (d.changeOf p x).2.1)).foldl max 0

section
variable {ses : Nat} (hplace : d.place ⟨.gclCommitCmd, p, 0⟩ ses = k)
include hplace

theorem Device.gclCommit_refused (h : d.commitOk p k = false) : d.gclCommit p ses = (d.set .gclCommitCmd p k 3, true) := by
  subst hplace
  exact if_pos (congrArg (! ·) h)

/-- A commit that passes its checks and is journalled arms the change of every output at one instant. -/
theorem Device.gclCommit_accepted (h : d.commitOk p k = true) (hkept : (d.journal (d.commitRecord p k)).2 = true) :
    d.gclCommit p ses = ((d.commitOuts p k).foldl (fun e x => e.armChange p (d.commitInstant p k) x)
      (d.journal (d.commitRecord p k)).1, true) := by
  subst hplace
  unfold Device.commitOk at h
  unfold Device.commitRecord at hkept
  unfold Device.gclCommit
  simp only [h, hkept, Bool.not_true, Bool.false_eq_true, if_false]
  rfl

/-- What a journalled commit leaves of each output that it changes. -/
theorem Device.gateView_gclCommit {x : Nat} (h : d.commitOk p k = true) (hkept : (d.journal (d.commitRecord p k)).2 = true)
    (hx : x ∈ d.commitOuts p k) (hnodup : (d.commitOuts p k).Nodup) :
    (d.gclCommit p ses).1.gateView p x = (d.gateView p x).armed (d.commitInstant p k) := by
  rw [Device.gclCommit_accepted hplace h hkept, Device.gateView_armChange_foldl hx hnodup, Device.gateView_journal]

end

end

/-! #### The four commands -/

/-- A write that passes its checks and its chapter's rule acts on the device after the fault manager's message. -/
theorem Device.doWrite_admitted (d : Device) (rq : Req) (w : Write) (rule : Device → Bool) (apply : Device → Device × Bool)
    (h : d.admits rq w = true) (hr : rule (d.fmMessage rq.ses.val) = true) (ha : (apply (d.fmMessage rq.ses.val)).2 = true) :
    (d.fmMessage rq.ses.val).doWrite rq w rule apply = ((apply (d.fmMessage rq.ses.val)).1, statusResp rq 0) := by
  simp only [Device.admits, Bool.and_eq_true, Bool.not_eq_true', decide_eq_true_eq] at h
  obtain ⟨⟨-, hstatus⟩, hidle⟩ := h
  simp [Device.doWrite, hstatus, hidle, hr, ha]

/-- A command that passes its checks acts, also while another of its object is in progress. -/
theorem Device.writeNow_admitted (d : Device) (rq : Req) (w : Write) (apply : Device → Device × Bool)
    (h : d.admitsNow rq w = true) (ha : (apply (d.fmMessage rq.ses.val)).2 = true) :
    d.request rq (fun e => e.doWriteNow rq w apply) = (apply (d.fmMessage rq.ses.val)).1.respond rq (statusResp rq 0) := by
  simp only [Device.admitsNow, Bool.and_eq_true, decide_eq_true_eq] at h
  obtain ⟨htakes, hstatus⟩ := h
  rw [Device.request_taken d rq _ htakes]
  simp [Device.doWriteNow, hstatus, ha]

theorem exec_gateEntryChange (p : Plane) (o : LinePort) {s : State} (h : s.dev.live p = true) :
    exec (.gateEntryChange p o) s = .next { s with dev := (s.dev.gateChange p o).settle } := by
  show execGateEntryChange p o s = _
  exact State.runOn_next h

theorem exec_gclPageSwap (p : Plane) (o : LinePort) {s : State} (h : s.dev.live p = true) :
    exec (.gclPageSwap p o) s = .next { s with dev := (s.dev.gclSwap p o).settle } := by
  show execGclPageSwap p o s = _
  exact State.runOn_next h

theorem exec_gclEnableWrite (p : Plane) {v : Byte} {rq : Req} {s : State}
    (hadmits : s.dev.admits rq ⟨⟨.gclEnable, p, 0⟩, 1, v.toNat⟩ = true)
    (hkept : s.dev.journals rq.ses.val [(⟨.gclEnable, p, s.dev.place ⟨.gclEnable, p, 0⟩ rq.ses.val⟩, v.toNat)] = true) :
    exec (.gclEnableWrite p v rq) s = .next { s with dev :=
      (((s.dev.fmMessage rq.ses.val).enableStored p (s.dev.place ⟨.gclEnable, p, 0⟩ rq.ses.val) v.toNat
        (decide (v = 1))).respond rq (statusResp rq 0)).settle } := by
  have hwritten := Device.enableWrite_journalled v.isLt hkept (decide (v = 1))
  show s.run (fun d => d.request rq (fun d => d.doWrite rq _ (fun _ => true)
    (fun e => e.enableWrite p (d.place ⟨.gclEnable, p, 0⟩ rq.ses.val) v.toNat (decide (v = 1))))) = _
  refine State.run_next ?_
  rw [Device.request_taken s.dev rq _ (Device.admits_takes hadmits).1, Device.place_fmMessage,
    Device.doWrite_admitted s.dev rq _ _ _ hadmits rfl (congrArg Prod.snd hwritten), hwritten]

theorem exec_gclCommit (p : Plane) {rq : Req} {s : State} (hadmits : s.dev.admitsNow rq ⟨⟨.gclCommitCmd, p, 0⟩, 1, 1⟩ = true)
    (hdone : ((s.dev.fmMessage rq.ses.val).gclCommit p rq.ses.val).2 = true) :
    exec (.gclCommit p rq) s = .next { s with dev :=
      (((s.dev.fmMessage rq.ses.val).gclCommit p rq.ses.val).1.respond rq (statusResp rq 0)).settle } := by
  show execGclCommit p rq s = _
  exact State.run_next (Device.writeNow_admitted s.dev rq _ _ hadmits hdone)

theorem Device.outs_settle_respond (d : Device) (rq : Req) (r : Resp) : (d.respond rq r).settle.outs = d.outs :=
  (Device.outs_settle _).trans (Device.outs_respond ..)

/-- Settles O23: the running entry and the enable by `gates_gateChange`, a write of `gcl_enable` by `exec_gclEnableWrite`; a commit by
`gclCommit_refused`, or by the view `gateView_gclCommit` that it leaves of each output; the swap by `gates_gclSwap` and what it leaves
of the registers. -/
theorem gateLists : Obligations.GateLists := by
  intro s p o v rq
  refine ⟨fun hlive hnone => ?entry, ?enable, ?commit, fun w hlive hpend => ?swap⟩
  case entry =>
    intro x i starts
    have hout : (s.dev.gateChange p o).settle.outp p o = (s.dev.gateChange p o).outp p o := Device.outp_congr (Device.outs_settle _) p o
    obtain ⟨hyes, hno⟩ := Device.gates_gateChange hnone
    refine ⟨_, exec_gateEntryChange p o hlive, rfl, (Device.get_settle _ _ _ _ rfl).trans (Device.get_gclCurrent_gateChange hnone), ?_⟩
    dsimp only
    rw [hout]
    by_cases hs : s.dev.startsCycle p o
    · obtain ⟨hpage, -, henabled, hnext⟩ := OutSt.of_gates (hyes hs)
      exact ⟨hpage, fun _ => ⟨henabled, hnext⟩, fun h => absurd hs h⟩
    · obtain ⟨hpage, -, henabled, hnext⟩ := OutSt.of_gates (hno hs)
      exact ⟨hpage, fun h => absurd h hs, fun _ => ⟨henabled, hnext⟩⟩
  case enable =>
    intro k hadmits hkept
    have hout : ∀ e : Device, (e.respond rq (statusResp rq 0)).settle.outp p k = e.outp p k := fun e =>
      Device.outp_congr (Device.outs_settle_respond ..) p k
    refine ⟨_, exec_gclEnableWrite p hadmits hkept, rfl, Device.answered_respond _ rq 0,
      (Device.get_settle_respond _ rq _ _ _ rfl (by decide) (by decide)).trans (Device.get_enableStored v.isLt _), ?_⟩
    dsimp only
    rw [hout, Device.outp_enableStored, Device.outp_congr (Device.outs_fmMessage ..)]
    exact ⟨congrArg (fun b => some b) (decide_eq_decide.mpr BitVec.toNat_eq), rfl⟩
  case commit =>
    intro e k outs ok hadmits
    have hplace : e.place ⟨.gclCommitCmd, p, 0⟩ rq.ses.val = k := Device.place_fmMessage ..
    refine ⟨fun hbad => ?refused, fun hok hnodup hkept => ?accepted⟩
    case refused =>
      have hrefused : e.gclCommit p rq.ses.val = (e.set .gclCommitCmd p k 3, true) := Device.gclCommit_refused hplace hbad
      rw [exec_gclCommit p hadmits (congrArg Prod.snd hrefused), hrefused]
      exact ⟨_, rfl, Device.answered_respond _ rq 0,
        (Device.get_settle_respond _ rq _ _ _ rfl (by decide) (by decide)).trans (Device.get_set_lt _ _ _ _ _ (by decide)),
        (Device.outs_settle_respond ..).trans (Device.outs_fmMessage ..)⟩
    case accepted =>
      have hallowed : e.commitOk p k = true := hok
      have hrecord : (e.journal (e.commitRecord p k)).2 = true := hkept
      have hdone : (e.gclCommit p rq.ses.val).2 = true := congrArg Prod.snd (Device.gclCommit_accepted hplace hallowed hrecord)
      refine ⟨_, exec_gclCommit p hadmits hdone, rfl, Device.answered_respond _ rq 0, fun x hx => ?_⟩
      obtain ⟨harmed, hreads, hcounted⟩ :=
        Device.of_gateView (Device.gateView_gclCommit hplace hallowed hrecord hx hnodup)
      dsimp only
      generalize (e.gclCommit p rq.ses.val).1 = f at harmed hreads hcounted ⊢
      have hout : (f.respond rq (statusResp rq 0)).settle.outp p x = f.outp p x :=
        Device.outp_congr (Device.outs_settle_respond ..) p x
      have hbefore : e.outp p x = s.dev.outp p x := Device.outp_congr (Device.outs_fmMessage ..) p x
      have hlateBefore : e.get .gclLate p x = s.dev.get .gclLate p x :=
        Device.get_fmMessage_obj _ _ _ _ _ rfl (by decide) (by decide) (by decide)
      rw [hout, harmed, GateView.page_armed]
      refine ⟨?reads, rfl, congrArg OutSt.page hbefore, fun hlate => ?late⟩
      case reads => exact (Device.get_settle_respond _ rq _ _ _ rfl (by decide) (by decide)).trans hreads
      case late =>
        rw [Device.get_settle_respond _ rq _ _ _ rfl (by decide) (by decide), hcounted, ← hlateBefore]
        exact if_pos hlate
  case swap =>
    intro x
    obtain ⟨hpage, hnone, henabled, -⟩ := OutSt.of_gates (Device.gates_gclSwap hpend)
    have hout : (s.dev.gclSwap p o).settle.outp p o = (s.dev.gclSwap p o).outp p o := Device.outp_congr (Device.outs_settle _) p o
    refine ⟨_, exec_gclPageSwap p o hlive, rfl, (congrArg OutSt.page hout).trans hpage, (congrArg OutSt.pend hout).trans hnone,
      (Device.get_settle _ _ _ _ rfl).trans (Device.get_gclCommitCmd_gclSwap hpend),
      (congrArg OutSt.enabled hout).trans henabled, ?cycle, fun k hk => ⟨?active, ?standby⟩⟩
    case cycle =>
      exact (Device.get_settle _ _ _ _ rfl).trans ((Device.get_gclSwap_obj hpend (by decide) (by decide) (by decide) _).trans
        (Device.get_gclCycleNs_toStandby _))
    case active => exact (Device.get_settle _ _ _ _ rfl).trans (Device.get_gclActiveEntry_gclSwap hpend hk)
    case standby =>
      exact (Device.get_settle _ _ _ _ rfl).trans ((Device.get_gclSwap_obj hpend (by decide) (by decide) (by decide) _).trans
        (Device.get_gclEntry_toStandby _ hk))

end Sys2Proof.Machine

/-! ### Groups of spared units: their channels, the spares that stand in and the counts that follow (spec/19 Table 19.1) -/

namespace Sys2Proof.Machine

/-- Every object but the states of channels. -/
def besideChannels : Nat := objs_all ^^^ objs_setChanState

/-- Every part but the spares that stand in and the rotation of the self-test; no latched cause is taken away. -/
def besideSpares : Nat := latchesKept ^^^ 2 ^ Part.stands.ctorIdx ^^^ 2 ^ Part.bists.ctorIdx

/-- The objects that follow the units of reducers and of the matrix engine. -/
def objs_unitCounts : Nat :=
  [Obj.spareLanesUsed, .redLaneRetired, .mxTileRetired, .mxSpareInUse, .mxTilesInService].foldl (fun m o => m ||| 2 ^ o.ctorIdx) 0

theorem unitChan_eq_iff {g s u : Nat} : unitChan g s = unitChan g u ↔ s = u := by
  unfold unitChan chan
  omega

section
variable {d e : Device} {p g u ch : Nat}

theorem Device.standsOf_congr (h : e.stands = d.stands) (p g : Nat) : e.standsOf p g = d.standsOf p g := by
  unfold Device.standsOf
  rw [h]

theorem Device.bist_congr (h : e.bists = d.bists) (p : Nat) : e.bist p = d.bist p := by
  unfold Device.bist
  rw [h]

theorem Device.testedIn_congr (h : e.bists = d.bists) (p g : Nat) : e.testedIn p g = d.testedIn p g := by
  unfold Device.testedIn
  rw [Device.bist_congr h]

theorem Device.chanSt_congr (h : e.chans = d.chans) (p ch : Nat) : e.chanSt p ch = d.chanSt p ch := by
  unfold Device.chanSt
  rw [h]

theorem Device.freeSpare_congr (hstands : e.standsOf p g = d.standsOf p g)
    (hstates : ∀ s, grpUnits g ≤ s → e.chanState p (unitChan g s) = d.chanState p (unitChan g s)) :
    e.freeSpare p g = d.freeSpare p g := by
  unfold Device.freeSpare
  rw [hstands, ← List.head?_filter, ← List.head?_filter]
  congr 1
  refine List.filter_congr (fun s hs => ?_)
  rw [hstates s (by simpa using (List.mem_filter.mp hs).2)]

/-- A free spare is one of its group's. -/
theorem Device.freeSpare_mem {s : Nat} (h : d.freeSpare p g = some s) : grpUnits g ≤ s ∧ s < grpAll g := by
  have hmem := List.mem_of_find?_eq_some h
  rw [List.mem_filter, List.mem_range] at hmem
  exact ⟨by simpa using hmem.2, hmem.1⟩

/-! #### What leaves the units as they are -/

theorem Moves.chanState {mp : Nat} (h : Moves d e besideChannels mp) (p ch : Nat) : e.chanState p ch = d.chanState p ch :=
  h.get .hfChanState p ch (by decide)

theorem Moves.standsOf {mo : Nat} (h : Moves d e mo besideSpares) (p g : Nat) : e.standsOf p g = d.standsOf p g :=
  Device.standsOf_congr (h.same .stands (by decide)) p g

theorem Moves.testedIn {mo : Nat} (h : Moves d e mo besideSpares) (p g : Nat) : e.testedIn p g = d.testedIn p g :=
  Device.testedIn_congr (h.same .bists (by decide)) p g

theorem Moves.freeSpare (h : Moves d e besideChannels besideSpares) (p g : Nat) : e.freeSpare p g = d.freeSpare p g :=
  Device.freeSpare_congr (h.standsOf p g) (fun _ _ => h.chanState p _)

theorem Moves.bitCause {mo i b : Nat} (h : Moves d e mo besideSpares) (hb : b < 32) (hbit : bit (d.get .cause p i) b = true) :
    bit (e.get .cause p i) b = true := h.latched (by decide) p i b hb hbit

theorem Device.moves_refreshGroup (d : Device) (p g : Nat) : Moves d (d.refreshGroup p g) besideChannels besideSpares :=
  (Moves.refl ..).refreshGroup (Mask.of (by decide)) (Mask.of (by decide))

theorem Device.refreshGroup_reducer (h : g / 4096 = 4) :
    d.refreshGroup p g =
      (d.set .spareLanesUsed p (g % 4096) (ofBits ((d.standsOf p g).map (fun x => x.2 - 64)))).set .redLaneRetired p (g % 4096)
        (ofBits (((List.range (grpAll g)).filter (fun u => d.retired p (unitChan g u))).filter (· < 64))) := by
  unfold Device.refreshGroup
  dsimp only
  rw [if_pos h]

/-- The counts of reducers and of the matrix engine take nothing else along. -/
theorem Device.moves_refreshGroup_engines (h : g / 4096 = 4 ∨ g / 4096 = 5) :
    Moves d (d.refreshGroup p g) objs_unitCounts 0 := by
  rcases h with h | h
  · rw [Device.refreshGroup_reducer h]
    exact ((Moves.refl ..).set (by decide) (by decide)).set (by decide) (by decide)
  · unfold Device.refreshGroup
    dsimp only
    rw [if_neg (by omega), if_pos h]
    exact (((Moves.refl ..).set (by decide) (by decide)).set (by decide) (by decide)).set (by decide) (by decide)

theorem Device.chanState_setChanState {v : Nat} (hv : v < 256) (c : Nat) :
    (d.setChanState p ch v).chanState p c = if c = ch then v else d.chanState p c := by
  unfold Device.setChanState Device.chanState
  rw [Device.get_set]
  simp only [true_and]
  rw [show v % 2 ^ Obj.hfChanState.width = v from Nat.mod_eq_of_lt hv]

/-! #### A fault event of a unit (R158, R194, R249, R410) -/

/-- A channel that is not retired counts its fault event. -/
theorem Device.get_chanFaults_chanFault (h : d.chanState p ch ≠ 4) :
    (d.chanFault p ch).get .hfChanFaults p ch = min (d.get .hfChanFaults p ch + 1) (2 ^ 32 - 1) := by
  have hretired : ¬ d.retired p ch = true := by simpa [Device.retired] using h
  unfold Device.chanFault
  rw [if_neg hretired]
  extract_lets s e pl f
  have hcounted : e.get .hfChanFaults p ch = min (d.get .hfChanFaults p ch + 1) (2 ^ 32 - 1) :=
    Device.get_count_narrow _ _ _ _ _ (by decide)
  have hdue : f.get .hfChanFaults p ch = e.get .hfChanFaults p ch := by
    unfold f
    split
    · rfl
    · rfl
  clear_value f
  have hfailed : Moves f (f.scFail p 0x16) objs_scFail parts_all := (Moves.refl ..).scFail (Mask.le_refl _) (Mask.of (by decide))
  exact (hfailed.get .hfChanFaults p ch (by decide)).trans (hdue.trans hcounted)

/-- A unit of a group is in service, no spare of its group stands in or is under test, and its fault is the first in the hour. -/
structure Device.Spared (d : Device) (p g u : Nat) : Prop where
  untested : d.testedIn p g = none
  noStands : d.standsOf p g = []
  up : d.chanState p (unitChan g u) ≠ 3 ∧ d.chanState p (unitChan g u) ≠ 4
  first : d.secondFault p (unitChan g u) = false

/-- A unit out of service after its fault event, under test until a spare stands in. -/
def Device.unitOut (d : Device) (p g u : Nat) : Device :=
  ((d.chanFault p (unitChan g u)).setChanState p (unitChan g u) 3).refreshGroup p g

theorem Device.Spared.not_out (h : d.Spared p g u) : [3, 4].contains (d.chanState p (unitChan g u)) = false := by
  simpa using h.up

/-- The first fault of a unit in service takes it out, to be substituted (R410). -/
theorem Device.unitFault_of_spared (h : d.Spared p g u) (hu : u < grpUnits g) : d.unitFault p g u = (d.unitOut p g u, true) := by
  have hout := h.not_out
  unfold Device.unitFault Device.unitOut Device.abortTest
  dsimp only
  simp only [h.untested, h.noStands, h.first, hout, hu, Nat.not_le.mpr hu, reduceCtorEq, List.any_nil, Bool.false_eq_true,
    if_false, decide_true, decide_false, Bool.false_and, Bool.or_false]

theorem Device.moves_chanFault_units (d : Device) (p ch : Nat) : Moves d (d.chanFault p ch) besideChannels besideSpares :=
  (Moves.refl ..).chanFault (Mask.of (by decide)) (Mask.of (by decide))

theorem Device.chanState_unitOut (s : Nat) :
    (d.unitOut p g u).chanState p (unitChan g s) = if s = u then 3 else d.chanState p (unitChan g s) := by
  unfold Device.unitOut
  rw [(Device.moves_refreshGroup _ p g).chanState, Device.chanState_setChanState (by decide),
    (Device.moves_chanFault_units d p _).chanState, if_congr unitChan_eq_iff rfl rfl]

theorem Device.moves_unitOut (d : Device) (p g u : Nat) : Moves d (d.unitOut p g u) objs_all besideSpares :=
  (((Moves.refl ..).chanFault (Mask.of (by decide)) (Mask.of (by decide))).setChanState (Mask.of (by decide))
    (Mask.of (by decide))).refreshGroup (Mask.of (by decide)) (Mask.of (by decide))

theorem Device.freeSpare_unitOut (hu : u < grpUnits g) : (d.unitOut p g u).freeSpare p g = d.freeSpare p g :=
  Device.freeSpare_congr ((Device.moves_unitOut d p g u).standsOf p g) (fun s hs => by
    rw [Device.chanState_unitOut, if_neg (by omega)])

/-! #### A spare stands in -/

theorem Device.standsOf_setStands {l : List (Nat × Nat)} : (d.setStands p g l).standsOf p g = l := by
  unfold Device.setStands Device.standsOf
  exact (Tbl.get_put ..).trans (if_pos rfl)

/-- The group's counts follow a substitution last, once the spare stands in and its cause is latched. -/
theorem Device.takeSpare_refreshed (d : Device) (p g u s : Nat) :
    ∃ r : Device, d.takeSpare p g u s = r.refreshGroup p g ∧ r.standsOf p g = (u, s) :: d.standsOf p g ∧
      bit (r.get .cause p 10) 2 = true := by
  unfold Device.takeSpare
  extract_lets ch e f
  have hstands : f.standsOf p g = (u, s) :: d.standsOf p g := by
    unfold f
    split
    · exact Device.standsOf_setStands
    · exact (Device.standsOf_congr (d := e) rfl p g).trans Device.standsOf_setStands
  clear_value f
  have hlatched : Moves f (f.causeHealth p 2 ch) besideChannels besideSpares :=
    (Moves.refl ..).causeHealth (Mask.of (by decide)) (Mask.of (by decide))
  exact ⟨f.causeHealth p 2 ch, rfl, (hlatched.standsOf p g).trans hstands, Device.bit_latch _ _ _ _ _ (by decide)⟩

/-- Where the spare stands in, and the cause that says so. -/
theorem Device.takeSpare_stands {s : Nat} :
    (d.takeSpare p g u s).standsOf p g = (u, s) :: d.standsOf p g ∧ bit ((d.takeSpare p g u s).get .cause p 10) 2 = true := by
  obtain ⟨r, hr, hstands, hcause⟩ := Device.takeSpare_refreshed d p g u s
  rw [hr]
  exact ⟨((Device.moves_refreshGroup r p g).standsOf p g).trans hstands, (Device.moves_refreshGroup r p g).bitCause (by decide) hcause⟩

/-- The unit a spare stands in for reads so, or stays retired. -/
theorem Device.chanState_takeSpare {s : Nat} :
    (d.takeSpare p g u s).chanState p (unitChan g u) = if d.chanState p (unitChan g u) = 4 then 4 else 2 := by
  unfold Device.takeSpare
  extract_lets ch e f
  have hunit : f.chanState p ch = if d.chanState p ch = 4 then 4 else 2 := by
    have hretired : e.retired p ch = decide (d.chanState p ch = 4) := rfl
    unfold f
    rw [hretired]
    by_cases h : d.chanState p ch = 4
    · simp only [h, decide_true, if_true]
      exact h
    · simp only [h, decide_false, Bool.false_eq_true, if_false]
      exact (Device.chanState_setChanState (by decide) _).trans (if_pos rfl)
  clear_value f
  have hrest : Moves f ((f.causeHealth p 2 ch).refreshGroup p g) besideChannels besideSpares :=
    ((Moves.refl ..).causeHealth (Mask.of (by decide)) (Mask.of (by decide))).refreshGroup (Mask.of (by decide)) (Mask.of (by decide))
  exact (hrest.chanState p ch).trans hunit

theorem Device.moves_reviewReasons (d : Device) : Moves d d.reviewReasons besideChannels besideSpares :=
  (Moves.refl ..).reviewReasons (Mask.of (by decide)) (Mask.of (by decide))

theorem Device.substitute_of_spare {s : Nat} (h : d.freeSpare p g = some s) :
    d.substitute p g u = (d.takeSpare p g u s).reviewReasons := by
  unfold Device.substitute
  rw [h]

/-- What a substitution shows of the unit and its spare. -/
theorem Device.substitute_stands {s : Nat} (h : d.freeSpare p g = some s) (hup : d.chanState p (unitChan g u) ≠ 4) :
    (d.substitute p g u).standsOf p g = (u, s) :: d.standsOf p g ∧ (d.substitute p g u).chanState p (unitChan g u) = 2 ∧
      bit ((d.substitute p g u).get .cause p 10) 2 = true := by
  rw [Device.substitute_of_spare h]
  have hrest := Device.moves_reviewReasons (d.takeSpare p g u s)
  obtain ⟨hstands, hcause⟩ := Device.takeSpare_stands (d := d) (p := p) (g := g) (u := u) (s := s)
  exact ⟨(hrest.standsOf p g).trans hstands, (hrest.chanState p _).trans (Device.chanState_takeSpare.trans (if_neg hup)),
    hrest.bitCause (by decide) hcause⟩

end
end Sys2Proof.Machine

/-! ### Faults of reducer lanes, tiles and cipher pipelines, and what stands in (spec/07 R158, spec/09 R194, spec/11 R249) -/

namespace Sys2Proof.Machine

/-- What a unit's way out of service may change where its group is a reducer's or the matrix engine. -/
def objs_unitOut : Nat := objs_chanFault ||| objs_setChanState ||| objs_unitCounts

section
variable {d e : Device} {p c g u lane : Nat}

theorem Device.moves_unitOut_engines (h : g / 4096 = 4 ∨ g / 4096 = 5) : Moves d (d.unitOut p g u) objs_unitOut besideSpares :=
  (((Moves.refl ..).chanFault (Mask.of (by decide)) (Mask.of (by decide))).setChanState (Mask.of (by decide))
    (Mask.of (by decide))).step ((Device.moves_refreshGroup_engines h).mono (Mask.of (by decide)) (Mask.of (by decide)))

/-- The fault event of a unit is counted for its channel. -/
theorem Device.get_chanFaults_unitOut (h : g / 4096 = 4 ∨ g / 4096 = 5) (hup : d.chanState p (unitChan g u) ≠ 4) :
    (d.unitOut p g u).get .hfChanFaults p (unitChan g u) =
      min (d.get .hfChanFaults p (unitChan g u) + 1) (2 ^ 32 - 1) :=
  ((Device.moves_refreshGroup_engines h).get .hfChanFaults _ _ (by decide)).trans
    ((Device.get_set_obj _ _ _ _ _ _ _ _ (by decide)).trans (Device.get_chanFaults_chanFault hup))

/-- Contexts that satisfy a condition no idle context satisfies: there are none. -/
theorem Device.filter_ctxs_of_idle {q : Nat → Bool} (hidle : ∀ x, d.ctxState p x = 0)
    (hq : ∀ x, d.ctxState p x = 0 → q x = false) : (List.range 2048).filter q = [] :=
  List.filter_eq_nil_iff.mpr (fun x _ => by simp [hq x (hidle x)])

/-! #### Reducer lanes (R158) -/

theorem reducerGroup_div (c : Group) : (4 * 4096 + c.val) / 4096 = 4 := by omega

theorem reducerGroup_mod (c : Group) : (4 * 4096 + c.val) % 4096 = c.val := by omega

theorem grpUnits_reducer (h : g / 4096 = 4) : grpUnits g = 64 := if_pos h

theorem Device.ctxState_unitOut (h : g / 4096 = 4 ∨ g / 4096 = 5) (x : Nat) :
    (d.unitOut p g u).ctxState p x = d.ctxState p x :=
  (Device.moves_unitOut_engines h).get .rctxState p x (by decide)

/-- With no context in use a lane's fault takes the lane out and waits for the spare. -/
theorem Device.laneFault_of_spare {z : Nat} (c : Group) (hlive : d.live p = true) (hup : d.get .reducerState p c = 0)
    (hs : d.Spared p (4 * 4096 + c) lane) (hlane : lane < 64) (hidle : ∀ x, d.ctxState p x = 0)
    (hfree : d.freeSpare p (4 * 4096 + c) = some z) : d.laneFault p c lane = d.unitOut p (4 * 4096 + c) lane := by
  have hunit : lane < grpUnits (4 * 4096 + c) := by rw [grpUnits_reducer (reducerGroup_div c)]; exact hlane
  have hnone : (List.range 2048).filter (fun x => (d.unitOut p (4 * 4096 + c) lane).ctxState p x = 2 &&
      dColumn ((d.unitOut p (4 * 4096 + c) lane).ctxDesc p x) = c) = [] :=
    Device.filter_ctxs_of_idle hidle (fun x hx => by simp [Device.ctxState_unitOut (Or.inl (reducerGroup_div c)), hx])
  unfold Device.laneFault
  dsimp only
  rw [Device.unitFault_of_spared hs hunit]
  dsimp only
  rw [hnone, Device.freeSpare_unitOut hunit, hfree]
  simp [hlive, hup]

/-- A reducer retired while no context is in use. -/
theorem Device.retireReducer_of_idle (hidle : ∀ x, d.ctxState p x = 0) : d.retireReducer p c = d.set .reducerState p c 1 := by
  have hstate : ∀ x, (d.set .reducerState p c 1).ctxState p x = 0 := fun x =>
    (Device.get_set_obj _ _ _ _ _ _ _ _ (by decide)).trans (hidle x)
  unfold Device.retireReducer
  dsimp only
  rw [Device.filter_ctxs_of_idle hstate (fun x hx => by simp [Device.ctxRuns, hx])]
  rfl

/-- A reducer whose lane fails with no spare left: the lane is retired for good. -/
def Device.laneLost (d : Device) (p g lane : Nat) : Device :=
  ((d.unitOut p g lane).markRetired p (unitChan g lane)).refreshGroup p g

theorem Device.moves_laneLost (h : g / 4096 = 4) :
    Moves d (d.laneLost p g lane) (objs_unitOut ||| objs_markRetired) besideSpares :=
  ((((Device.moves_unitOut_engines (Or.inl h)).mono (Mask.of (by decide)) (Mask.le_refl _)).markRetired (Mask.of (by decide))
    (Mask.of (by decide))).step ((Device.moves_refreshGroup_engines (Or.inl h)).mono (Mask.of (by decide)) (Mask.of (by decide))))

theorem Device.laneFault_of_no_spare (c : Group) (hlive : d.live p = true) (hup : d.get .reducerState p c = 0)
    (hs : d.Spared p (4 * 4096 + c) lane) (hlane : lane < 64) (hidle : ∀ x, d.ctxState p x = 0)
    (hfree : d.freeSpare p (4 * 4096 + c) = none) :
    d.laneFault p c lane = ((d.laneLost p (4 * 4096 + c) lane).set .reducerState p c 1).reviewReasons := by
  have hunit : lane < grpUnits (4 * 4096 + c) := by rw [grpUnits_reducer (reducerGroup_div c)]; exact hlane
  have hout : (d.unitOut p (4 * 4096 + c) lane).retired p (unitChan (4 * 4096 + c) lane) = false := by
    unfold Device.retired
    rw [Device.chanState_unitOut, if_pos rfl]
    rfl
  have hstate : ∀ x, (d.laneLost p (4 * 4096 + c) lane).ctxState p x = 0 := fun x =>
    ((Device.moves_laneLost (reducerGroup_div c)).get .rctxState p x (by decide)).trans (hidle x)
  rw [← Device.retireReducer_of_idle hstate]
  unfold Device.laneFault Device.laneLost
  dsimp only
  rw [Device.unitFault_of_spared hs hunit]
  dsimp only
  rw [Device.freeSpare_unitOut hunit, hfree, hout]
  simp [hlive, hup]

/-- A channel that is retired reads so (R412). -/
theorem Device.chanState_markRetired {ch : Nat} : (d.markRetired p ch).chanState p ch = 4 := by
  have hlogged : Moves (d.setChanState p ch 4) (d.markRetired p ch) besideChannels besideSpares :=
    ((Moves.refl ..).logRetire (Mask.of (by decide)) (Mask.of (by decide))).causeHealth (Mask.of (by decide)) (Mask.of (by decide))
  exact (hlogged.chanState p ch).trans ((Device.chanState_setChanState (by decide) ch).trans (if_pos rfl))

theorem Device.chanState_laneLost : (d.laneLost p g lane).chanState p (unitChan g lane) = 4 :=
  ((Device.moves_refreshGroup _ p g).chanState p _).trans Device.chanState_markRetired

/-! #### The spare of a reducer or of the matrix engine -/

/-- What a substitution may change there. -/
def objs_spareIn : Nat := objs_setChanState ||| objs_causeHealth ||| objs_unitCounts ||| objs_reviewReasons

theorem Device.moves_takeSpare_engines {s : Nat} (h : g / 4096 = 4 ∨ g / 4096 = 5) :
    Moves d (d.takeSpare p g u s) objs_spareIn latchesKept := by
  unfold Device.takeSpare
  extract_lets ch e f
  have hunit : Moves d f objs_spareIn latchesKept := Moves.ite
    (fun _ => (Moves.refl ..).setStands (Mask.of (by decide)) (Mask.of (by decide)))
    (fun _ => ((Moves.refl ..).setStands (Mask.of (by decide)) (Mask.of (by decide))).setChanState (Mask.of (by decide))
      (Mask.of (by decide)))
  exact (hunit.causeHealth (Mask.of (by decide)) (Mask.of (by decide))).step
    ((Device.moves_refreshGroup_engines h).mono (Mask.of (by decide)) (Mask.of (by decide)))

theorem Device.moves_substitute_engines (h : g / 4096 = 4 ∨ g / 4096 = 5) :
    Moves d (d.substitute p g u) objs_spareIn latchesKept := by
  unfold Device.substitute
  split
  · exact (Device.moves_takeSpare_engines h).reviewReasons (Mask.of (by decide)) (Mask.of (by decide))
  · exact (Moves.refl ..).reviewReasons (Mask.of (by decide)) (Mask.of (by decide))

/-- The bit of a lane's spare in `spare_lanes_used`. -/
theorem Device.spareLanesUsed_takeSpare {s : Nat} (h : g / 4096 = 4) (hs : s < 68) (hnone : d.standsOf p g = []) :
    bit ((d.takeSpare p g u s).get .spareLanesUsed p (g % 4096)) (s - 64) = true := by
  obtain ⟨r, hr, hstands, -⟩ := Device.takeSpare_refreshed d p g u s
  rw [hr, Device.refreshGroup_reducer h, Device.get_set_obj _ _ _ _ _ _ _ _ (by decide), Device.get_set_same, hstands, hnone]
  show bit (setBit 0 (s - 64) % 2 ^ 8) (s - 64) = true
  rw [bit_mod _ _ _ (by omega), bit_setBit_same]

/-- The matrix engine reads its spare in use. -/
theorem Device.spareInUse_takeSpare {s : Nat} (h : g / 4096 = 5) : (d.takeSpare p g u s).get .mxSpareInUse p 0 = 1 := by
  obtain ⟨r, hr, hstands, -⟩ := Device.takeSpare_refreshed d p g u s
  rw [hr]
  unfold Device.refreshGroup
  dsimp only
  rw [if_neg (by omega), if_pos h, Device.get_set_obj _ _ _ _ _ _ _ _ (by decide), Device.get_set_same,
    if_neg (by rw [Device.standsOf_congr rfl, hstands]; exact List.cons_ne_nil _ _)]
  rfl

/-- The spare stands in for a lane that waits for it; no context waits with it. -/
theorem Device.laneStandIn_of_idle (c : Group) (hlane : lane < 64) (hnone : d.standsOf p (4 * 4096 + c) = [])
    (hwaits : d.chanState p (unitChan (4 * 4096 + c) lane) = 3) (hidle : ∀ x, d.ctxState p x = 0) :
    d.laneStandIn p c lane = d.substitute p (4 * 4096 + c) lane := by
  have hg := reducerGroup_div c
  have hstate : ∀ x, (d.substitute p (4 * 4096 + c) lane).ctxState p x = 0 := fun x =>
    ((Device.moves_substitute_engines (Or.inl hg)).get .rctxState p x (by decide)).trans (hidle x)
  have hspare : d.spareFor p (4 * 4096 + c) lane = none := by
    unfold Device.spareFor
    rw [hnone]
    rfl
  have hcontains : [3, 4].contains (d.chanState p (unitChan (4 * 4096 + c) lane)) = true := by
    rw [hwaits]
    rfl
  unfold Device.laneStandIn
  dsimp only
  rw [Device.filter_ctxs_of_idle hstate (fun x hx => by simp [hx]), hspare, hcontains, grpUnits_reducer hg]
  simp [Nat.not_le.mpr hlane]

/-! #### Tiles (R194) -/

/-- While no context is in use a tile's fault is only counted. -/
theorem Device.tileAbort_of_idle (hidle : ∀ x, d.ctxState p x = 0) : d.tileAbort p = d.bump .mxTileFaults p 0 := by
  unfold Device.tileAbort
  dsimp only
  rw [Device.filter_ctxs_of_idle hidle (fun x hx => by simp [Device.ctxRuns, hx])]
  rfl

/-- The fault of a tile in service. -/
theorem Device.tileFault_of_spared (hlive : d.live p = true) (hs : d.Spared p (5 * 4096) u) (hu : u < 8)
    (hidle : ∀ x, d.ctxState p x = 0) :
    d.tileFault p u = ((d.unitOut p (5 * 4096) u).bump .mxTileFaults p 0).substitute p (5 * 4096) u := by
  have hstate : ∀ x, (d.unitOut p (5 * 4096) u).ctxState p x = 0 := fun x =>
    (Device.ctxState_unitOut (Or.inr rfl) x).trans (hidle x)
  unfold Device.tileFault
  dsimp only
  rw [Device.unitFault_of_spared hs hu]
  dsimp only
  rw [Device.tileAbort_of_idle hstate]
  simp [hlive, hs.noStands]

/-- What a slot does with an event of its context changes no plane's condition. -/
theorem CondsKept.ctxEvent {x : Nat} {ev : CtxEvent} {sender : Option Nat} (h : CondsKept d e) :
    CondsKept d (e.ctxEvent p x ev sender) := by
  cases ev with
  | none => exact h.run
  | anchored => exact (h.trans (.of_beside ((Moves.refl ..).tellMembers (Mask.of (by decide)) (Mask.of (by decide))))).run
  | done => exact h.run
  | restarts => exact (h.trans (.of_beside ((Moves.refl ..).ctxRestarts (Mask.of (by decide)) (Mask.of (by decide))))).run
  | failed s =>
    exact (h.trans (CondsKept.ite (.of_beside ((Moves.refl ..).failSlot (Mask.of (by decide)) (Mask.of (by decide))))
      (.of_beside ((Moves.refl ..).releaseCtx (Mask.of (by decide)) (Mask.of (by decide)))))).run

/-- A plane that tiles' faults abort contexts on stands where it stood. -/
theorem CondsKept.abortAnd {x status : Nat} {sender : Option Nat} : CondsKept d (d.abortAnd p x status sender) := by
  have haborted : CondsKept d (d.abortCtx p x status 0).1 :=
    .of_beside ((Moves.refl ..).abortCtx (Mask.of (by decide)) (Mask.of (by decide)))
  exact CondsKept.ite (.refl d) haborted.ctxEvent

theorem Device.condsKept_tileAbort : CondsKept d (d.tileAbort p) :=
  CondsKept.bump.trans (CondsKept.foldl (fun _ _ => CondsKept.abortAnd) _ _)

/-- The fault of a tile whose spare stands in retires the plane. -/
theorem Device.tileFault_of_standing {k : Nat} (hlive : d.live p = true) (hstands : d.standsOf p (5 * 4096) = [(u, k)])
    (huntested : d.testedIn p (5 * 4096) = none) :
    d.tileFault p u = ((d.tileAbort p).chanFault p (unitChan (5 * 4096) u)).retirePlane p 0 := by
  have hkept : Moves d (d.tileAbort p) objs_all besideSpares := (Moves.refl ..).tileAbort (Mask.of (by decide)) (Mask.of (by decide))
  unfold Device.tileFault Device.unitFault
  dsimp only
  rw [hkept.standsOf, hkept.testedIn, hstands, huntested]
  simp [hlive]

theorem CondsKept.live {f : Device} (h : CondsKept d f) (p : Nat) : f.live p = d.live p := by
  unfold Device.live
  rw [h p]

end
end Sys2Proof.Machine

/-! ### Cipher pipelines, the test after a fault and bypass paths (spec/11 R249, spec/14 R328, spec/19 R410) -/

namespace Sys2Proof.Machine

section
variable {d e : Device} {p g u ch : Nat}

/-! #### Cipher pipelines (R249) -/

theorem Device.secondFault_congr (hchans : e.chans = d.chans) (hclock : e.clock = d.clock) (p ch : Nat) :
    e.secondFault p ch = d.secondFault p ch := by
  unfold Device.secondFault
  rw [Device.chanSt_congr hchans, hclock]

theorem Device.Spared.of_moves (hs : d.Spared p g u) (h : Moves d e besideChannels besideSpares) (hchans : e.chans = d.chans)
    (hclock : e.clock = d.clock) : e.Spared p g u where
  untested := (h.testedIn p g).trans hs.untested
  noStands := (h.standsOf p g).trans hs.noStands
  up := by rw [h.chanState]; exact hs.up
  first := (Device.secondFault_congr hchans hclock p _).trans hs.first

/-- A mismatch in a pipeline as it is counted, with what it takes of the slots that are in flight. -/
def Device.cipherNoted (d : Device) (p dir : Nat) : Device :=
  let e := (d.bump .cipherFaults p 0).causeCipher p 0 0
  if dir = 0 then e.idleInFlight p else e

def objs_cipherNoted : Nat := objs_causeCipher ||| objs_idleInFlight
def parts_cipherNoted : Nat := 1 ||| parts_causeCipher ||| parts_idleInFlight

theorem Device.moves_cipherNoted_bump (d : Device) (p dir : Nat) :
    Moves (d.bump .cipherFaults p 0) (d.cipherNoted p dir) objs_cipherNoted parts_cipherNoted := by
  have hcause : Moves (d.bump .cipherFaults p 0) ((d.bump .cipherFaults p 0).causeCipher p 0 0) objs_cipherNoted parts_cipherNoted :=
    (Moves.refl ..).causeCipher (Mask.of (by decide)) (Mask.of (by decide))
  exact Moves.ite (fun _ => hcause.idleInFlight (Mask.of (by decide)) (Mask.of (by decide))) (fun _ => hcause)

theorem Device.moves_cipherNoted (d : Device) (p dir : Nat) : Moves d (d.cipherNoted p dir) besideChannels parts_cipherNoted :=
  ((Moves.refl ..).bump (by decide) (by decide) (by decide)).step
    ((Device.moves_cipherNoted_bump d p dir).mono (Mask.of (by decide)) (Mask.le_refl _))

/-- The mismatch is counted and its cause latched. -/
theorem Device.cipherNoted_counts {dir : Nat} :
    (d.cipherNoted p dir).get .cipherFaults p 0 = min (d.get .cipherFaults p 0 + 1) (2 ^ 32 - 1) ∧
      bit ((d.cipherNoted p dir).get .cause p 6) 0 = true := by
  refine ⟨((Device.moves_cipherNoted_bump d p dir).get .cipherFaults p 0 (by decide)).trans
    (Device.get_count_narrow _ _ _ _ _ (by decide)), ?_⟩
  unfold Device.cipherNoted
  extract_lets e
  have hlatched : bit (e.get .cause p 6) 0 = true := Device.bit_latch _ _ _ _ _ (by decide)
  have hidle : Moves e (e.idleInFlight p) objs_idleInFlight besideSpares :=
    (Moves.refl ..).idleInFlight (Mask.le_refl _) (Mask.of (by decide))
  split
  · exact hidle.bitCause (by decide) hlatched
  · exact hlatched

theorem cipherGroup_units (dir : Fin 2) : grpUnits (6 * 4096 + dir.val) = 16 := by
  unfold grpUnits
  rw [if_neg (by omega), if_neg (by omega)]

theorem Device.Spared.noted (hs : d.Spared p g u) (dir : Nat) : (d.cipherNoted p dir).Spared p g u :=
  hs.of_moves ((Device.moves_cipherNoted d p dir).mono (Mask.le_refl _) (Mask.of (by decide)))
    ((Device.moves_cipherNoted d p dir).same .chans (by decide)) ((Device.moves_cipherNoted d p dir).same .clock (by decide))

/-- The fault of a pipeline in service. -/
theorem Device.cipherFault_of_spared (dir : Fin 2) (hlive : d.live p = true) (hs : d.Spared p (6 * 4096 + dir) u) (hu : u < 16) :
    d.cipherFault p dir u =
      ((d.cipherNoted p dir).unitOut p (6 * 4096 + dir) u).substitute p (6 * 4096 + dir) u := by
  have hunit : u < grpUnits (6 * 4096 + dir.val) := by rw [cipherGroup_units]; exact hu
  have hfault := Device.unitFault_of_spared (hs.noted dir) hunit
  unfold Device.cipherNoted at hfault ⊢
  unfold Device.cipherFault
  dsimp only at hfault ⊢
  rw [hfault, hs.not_out]
  simp [hlive]

/-- What the rest of the fault may change. -/
def objs_pipelineOut : Nat := objs_chanFault ||| objs_setChanState ||| objs_refreshGroup ||| objs_substitute

theorem Device.moves_pipelineOut (d : Device) (p g u : Nat) :
    Moves d ((d.unitOut p g u).substitute p g u) objs_pipelineOut latchesKept :=
  ((((Moves.refl ..).chanFault (Mask.of (by decide)) (Mask.of (by decide))).setChanState (Mask.of (by decide))
    (Mask.of (by decide))).refreshGroup (Mask.of (by decide)) (Mask.of (by decide))).substitute (Mask.of (by decide))
      (Mask.of (by decide))

/-! #### The test after a fault (R410) -/

/-- Unit and group of a channel name it. -/
theorem unitChan_unitOf (hok : chanOk ch = true) (hlow : 4 ≤ chanCode ch) (hhigh : chanCode ch ≤ 6) :
    unitChan (unitOf ch).1 (unitOf ch).2 = ch := by
  have hidx : chanIdx ch < chanCount (chanCode ch) := by simpa [chanOk] using hok
  have hch : ch = chanCode ch * 4096 + chanIdx ch := by unfold chanCode chanIdx; omega
  unfold unitOf unitChan grpAll chan
  obtain hcode | hcode | hcode : chanCode ch = 4 ∨ chanCode ch = 5 ∨ chanCode ch = 6 := by omega
  · have hlanes : chanIdx ch < 1360 := by rw [hcode] at hidx; exact hidx
    have hgroup : (4 * 4096 + chanIdx ch / 68) / 4096 = 4 := by omega
    simp only [hcode, hgroup, if_true]
    omega
  · have htiles : chanIdx ch < 9 := by rw [hcode] at hidx; exact hidx
    have hgroup : (5 * 4096 + chanIdx ch / 9) / 4096 = 5 := by omega
    simp only [hcode, hgroup, if_true, Nat.reduceEqDiff, if_false]
    omega
  · have hpipes : chanIdx ch < 34 := by rw [hcode] at hidx; exact hidx
    have hgroup : (6 * 4096 + chanIdx ch / 17) / 4096 = 6 := by omega
    simp only [hcode, hgroup, Nat.reduceEqDiff, if_false]
    omega

/-- A fault event of another channel leaves a channel as it was. -/
theorem Device.chanSt_chanFault_ne {k : Nat} (h : ch ≠ k) : (d.chanFault p k).chanSt p ch = d.chanSt p ch := by
  unfold Device.chanFault
  extract_lets s e pl f
  have hcounted : e.chanSt p ch = d.chanSt p ch := by
    have hbump : e.chanSt p ch = (d.setChan p k { s with count := s.count + 1, retry := true }).chanSt p ch :=
      Device.chanSt_congr (quiet_chans.bump ..) p ch
    rw [hbump, Device.chanSt_setChan, if_neg (fun hk => h hk.2)]
  have hdue : f.chanSt p ch = e.chanSt p ch := by
    unfold f
    split
    · rfl
    · rfl
  clear_value f
  have hfailed : (f.scFail p 0x16).chans = f.chans :=
    ((Moves.refl f ..).scFail (Mask.of (b := objs_all) (by decide)) (Mask.le_refl _)).same .chans (by decide)
  split
  · rfl
  · exact (Device.chanSt_congr hfailed p ch).trans (hdue.trans hcounted)

/-- A link out of frame is a fault event of its own channel at most. -/
theorem Device.chanSt_goOof {l : Nat} {fault : Bool} (h : ch ≠ chan 8 l) : (d.goOof p l fault).chanSt p ch = d.chanSt p ch := by
  have hdecided : ∀ f : Device, (f.decideStripes p).chanSt p ch = f.chanSt p ch := fun f =>
    Device.chanSt_congr (((Moves.refl f ..).decideStripes (Mask.of (b := objs_all) (by decide)) (Mask.le_refl _)).same .chans
      (by decide)) p ch
  have hrefreshed : ∀ f : Device, (f.lhRefresh p l).chanSt p ch = f.chanSt p ch := fun f =>
    Device.chanSt_congr (((Moves.refl f ..).lhRefresh (Mask.of (b := objs_all) (by decide)) (Mask.le_refl _)).same .chans
      (by decide)) p ch
  have hleft : ∀ f : Device, (f.leaveBundle p l fault).chanSt p ch = f.chanSt p ch := by
    intro f
    unfold Device.leaveBundle
    dsimp only
    split
    · rw [hdecided]
      split
      · rw [Device.chanSt_chanFault_ne h]
        rfl
      · rfl
    · rfl
  unfold Device.goOof
  rw [hrefreshed, hleft]
  rfl

/-- A group's counts follow without a fault event in a channel but those of long-haul links. -/
theorem Device.chanSt_refreshGroup (h : ∀ l < 4, ch ≠ chan 8 l) : (d.refreshGroup p g).chanSt p ch = d.chanSt p ch := by
  by_cases hg : g / 4096 = 4 ∨ g / 4096 = 5
  · exact Device.chanSt_congr ((Device.moves_refreshGroup_engines hg).same .chans (by decide)) p ch
  · have hlinks : ∀ f : Device, ((List.range 4).foldl (fun d l => if d.lhUp p l then d.lhRefresh p l else d.goOof p l true)
        f).chanSt p ch = f.chanSt p ch := by
      intro f
      refine foldl_keeps_mem (g := fun f : Device => f.chanSt p ch) (fun f l hl => ?_) f
      split
      · exact Device.chanSt_congr (((Moves.refl f ..).lhRefresh (Mask.of (b := objs_all) (by decide)) (Mask.le_refl _)).same .chans
          (by decide)) p ch
      · exact Device.chanSt_goOof (h l (List.mem_range.mp hl))
    unfold Device.refreshGroup
    extract_lets code c out n e3 e4
    have hset : e3.chanSt p ch = d.chanSt p ch := rfl
    have hlinked : e4.chanSt p ch = d.chanSt p ch := (hlinks e3).trans hset
    clear_value e4
    rw [if_neg (fun h4 => hg (Or.inl h4)), if_neg (fun h5 => hg (Or.inr h5))]
    split
    · exact (Device.chanSt_congr (quiet_chans.latch ..) p ch).trans hlinked
    · exact hlinked

/-- A unit that passes its test is in service again, without a spare; its fault event is cleared. -/
theorem Device.retryDone_pass (hok : chanOk ch = true) (hlow : 4 ≤ chanCode ch) (hhigh : chanCode ch ≤ 6)
    (hretired : d.retired p ch = false) (hretry : (d.chanSt p ch).retry = true) :
    d.retryDone p ch true =
      (d.setChan p ch { d.chanSt p ch with retry := false, cleared := some d.clock }).returnUnit p (unitOf ch).1 (unitOf ch).2 := by
  unfold Device.retryDone Device.chanClear
  dsimp only
  simp only [hok, hretired, hretry, Bool.not_true, Bool.false_or, if_true, Bool.false_eq_true, if_false]
  rw [if_neg (by simp; omega), if_neg (by omega)]

/-- A unit's failed test as it is counted, logged and shown. -/
def Device.testFailed (d : Device) (p ch : Nat) : Device := ((d.bump .bistFailures p 0).markRetired p ch).causeHealth p 4 ch

theorem Device.retryDone_fail (hok : chanOk ch = true) (hlow : 4 ≤ chanCode ch) (hhigh : chanCode ch ≤ 6)
    (hretired : d.retired p ch = false) (hretry : (d.chanSt p ch).retry = true) :
    d.retryDone p ch false = ((d.testFailed p ch).retireUnit p (unitOf ch).1 (unitOf ch).2).reviewReasons := by
  unfold Device.retryDone Device.testFailed
  dsimp only
  simp only [hok, hretired, hretry, Bool.not_true, Bool.not_false, Bool.false_or, if_true]
  rw [if_neg (by simp; omega), if_neg (by omega)]

theorem Device.testFailed_reads :
    (d.testFailed p ch).chanState p ch = 4 ∧
      (d.testFailed p ch).get .bistFailures p 0 = min (d.get .bistFailures p 0 + 1) (2 ^ 32 - 1) ∧
      bit ((d.testFailed p ch).get .cause p 10) 4 = true := by
  unfold Device.testFailed
  have hretired : ((d.bump .bistFailures p 0).markRetired p ch).chanState p ch = 4 := Device.chanState_markRetired
  have hcounted : ((d.bump .bistFailures p 0).markRetired p ch).get .bistFailures p 0 = min (d.get .bistFailures p 0 + 1) (2 ^ 32 - 1) :=
    (((Moves.refl (d.bump .bistFailures p 0) ..).markRetired (p := p) (ch := ch) (Mask.le_refl _) (Mask.le_refl _)).get
      .bistFailures p 0 (by decide)).trans (Device.get_count_narrow _ _ _ _ _ (by decide))
  generalize (d.bump .bistFailures p 0).markRetired p ch = e at *
  have hcause : Moves e (e.causeHealth p 4 ch) objs_causeHealth parts_causeHealth :=
    (Moves.refl ..).causeHealth (Mask.le_refl _) (Mask.le_refl _)
  exact ⟨(hcause.get .hfChanState p ch (by decide)).trans hretired, (hcause.get .bistFailures p 0 (by decide)).trans hcounted,
    Device.bit_latch _ _ _ _ _ (by decide)⟩

/-- What a unit that returns shows. -/
theorem Device.returnUnit_reads (hch : unitChan g u = ch) (hlow : ∀ l < 4, ch ≠ chan 8 l) :
    (d.returnUnit p g u).spareFor p g u = none ∧ (d.returnUnit p g u).chanSt p ch = d.chanSt p ch ∧
      (d.returnUnit p g u).chanState p ch = d.inService p ch := by
  subst hch
  unfold Device.returnUnit
  extract_lets ch f
  have hstands : f.standsOf p g = (d.standsOf p g).filter (fun x => x.1 ≠ u) := Device.standsOf_setStands
  have hservice : f.inService p ch = d.inService p ch := rfl
  have hsmall : d.inService p ch < 256 := by unfold Device.inService; split <;> decide
  have hchan : f.chanSt p ch = d.chanSt p ch := rfl
  clear_value f
  have hrest := Device.moves_refreshGroup (f.setChanState p ch (f.inService p ch)) p g
  refine ⟨?_, (Device.chanSt_refreshGroup hlow).trans hchan, ?_⟩
  · unfold Device.spareFor
    have hset : (f.setChanState p ch (f.inService p ch)).standsOf p g = f.standsOf p g := Device.standsOf_congr rfl p g
    rw [hrest.standsOf, hset, hstands]
    simp [List.find?_filter]
  · rw [hrest.chanState, hservice, Device.chanState_setChanState hsmall, if_pos rfl]

/-- A retired unit stays so whatever becomes of its place. -/
theorem Device.chanState_retireUnit (h : d.chanState p (unitChan g u) = 4) :
    (d.retireUnit p g u).chanState p (unitChan g u) = 4 := by
  unfold Device.retireUnit
  extract_lets f
  have hunit : f.chanState p (unitChan g u) = 4 := ((Device.moves_refreshGroup d p g).chanState p _).trans h
  clear_value f
  split
  · exact hunit
  · split
    · rw [Device.chanState_takeSpare, if_pos hunit]
    · split
      · have hreducer : Moves f (f.retireReducer p (g % 4096)) besideChannels besideSpares :=
          (Moves.refl ..).retireReducer (Mask.of (by decide)) (Mask.of (by decide))
        exact (hreducer.chanState p _).trans hunit
      · exact hunit

/-- What is known of a failed test stays known once the unit has gone. -/
theorem Device.retryFailed_reads (hch : unitChan g u = ch) :
    (((d.testFailed p ch).retireUnit p g u).reviewReasons).retired p ch = true ∧
      (((d.testFailed p ch).retireUnit p g u).reviewReasons).get .bistFailures p 0 = min (d.get .bistFailures p 0 + 1) (2 ^ 32 - 1) ∧
      bit ((((d.testFailed p ch).retireUnit p g u).reviewReasons).get .cause p 10) 4 = true := by
  subst hch
  obtain ⟨hretired, hcounted, hcause⟩ := Device.testFailed_reads (d := d) (p := p) (ch := unitChan g u)
  generalize d.testFailed p (unitChan g u) = e at *
  have hrest : Moves e (e.retireUnit p g u).reviewReasons (objs_retireUnit ||| objs_reviewReasons) latchesKept :=
    ((Moves.refl ..).retireUnit (Mask.of (by decide)) (Mask.of (by decide))).reviewReasons (Mask.of (by decide)) (Mask.of (by decide))
  have hstate : (e.retireUnit p g u).reviewReasons.chanState p (unitChan g u) = 4 :=
    ((Device.moves_reviewReasons _).chanState p _).trans (Device.chanState_retireUnit hretired)
  exact ⟨decide_eq_true hstate, (hrest.get .bistFailures p 0 (by decide)).trans hcounted, hrest.latchKept (by decide) hcause⟩

/-! #### Bypass paths (R328) -/

theorem bit_fld (v lo w i : Nat) : bit (fld v lo w) i = (decide (i < w) && bit v (lo + i)) := by
  simp only [bit_eq_testBit, fld, Nat.testBit_mod_two_pow, Nat.testBit_div_two_pow, Nat.add_comm lo i]

/-- A field set to 0 has no bit set, and every other bit stands as before. -/
theorem bit_setFld_zero (v lo w j : Nat) :
    bit (setFld v lo w 0) j = (bit v j && !(decide (lo ≤ j) && decide (j < lo + w))) := by
  have hlow : v % 2 ^ lo < 2 ^ lo := Nat.mod_lt _ (Nat.two_pow_pos _)
  have hfld : v / 2 ^ lo % 2 ^ w < 2 ^ w := Nat.mod_lt _ (Nat.two_pow_pos _)
  have hv : v = 2 ^ lo * (2 ^ w * (v / 2 ^ lo / 2 ^ w) + v / 2 ^ lo % 2 ^ w) + v % 2 ^ lo := by
    rw [Nat.div_add_mod, Nat.div_add_mod]
  have hset : setFld v lo w 0 = 2 ^ lo * (2 ^ w * (v / 2 ^ lo / 2 ^ w) + 0) + v % 2 ^ lo := by
    unfold setFld fld
    rw [Nat.zero_mod, Nat.zero_mul, Nat.add_zero, Nat.add_zero]
    refine Nat.sub_eq_of_eq_add ?_
    conv_lhs => rw [hv]
    ring
  rw [bit_eq_testBit, bit_eq_testBit, hset]
  conv_rhs => rw [hv]
  rw [Nat.testBit_two_pow_mul_add _ hlow, Nat.testBit_two_pow_mul_add _ hlow]
  by_cases hj : j < lo
  · simp [hj, Nat.not_le.mpr hj]
  · rw [if_neg hj, if_neg hj, Nat.testBit_two_pow_mul_add _ (Nat.two_pow_pos w), Nat.testBit_two_pow_mul_add _ hfld]
    by_cases hk : j - lo < w
    · have hin : lo ≤ j ∧ j < lo + w := by omega
      simp [hk, hin]
    · have hout : ¬ j < lo + w := by omega
      simp [hk, hout]

/-- Clearing the byte of a port in `byp_map` leaves the circuits of the others. -/
theorem Device.bit_bypByte_clear (d : Device) (p n k : Nat) :
    bit ((d.setBypByte p n 0).bypByte p k) 7 = (bit (d.bypByte p k) 7 && decide (k ≠ n)) := by
  unfold Device.setBypByte Device.bypByte octet setOctet
  rw [bit_fld, bit_fld, Device.get_set]
  by_cases hchip : k / 32 = n / 32
  · rw [if_pos ⟨rfl, rfl, hchip⟩, show Obj.bypMap.width = 256 from rfl, bit_mod _ _ _ (by omega), bit_setFld_zero, hchip]
    have hk : (k = n) ↔ (k % 32 = n % 32) := by omega
    by_cases he : k = n
    · subst he
      simp
    · have hout : (decide ((32 - 1 - n % 32) * 8 ≤ (32 - 1 - k % 32) * 8 + 7) &&
          decide ((32 - 1 - k % 32) * 8 + 7 < (32 - 1 - n % 32) * 8 + 8)) = false := by
        rw [← Bool.decide_and, decide_eq_false_iff_not]
        omega
      rw [hout]
      simp [he]
  · have he : k ≠ n := by rintro rfl; exact hchip rfl
    rw [if_neg (fun h => hchip h.2.2)]
    simp [he]

theorem Device.bypPartner_eq_none_iff (d : Device) (p n : Nat) : d.bypPartner p n = none ↔ bit (d.bypByte p n) 7 = false := by
  unfold Device.bypPartner
  split
  · next h => simp [h]
  · next h => simpa using h

theorem Device.bypPartner_congr {n : Nat} (h : e.get .bypMap p (n / 32) = d.get .bypMap p (n / 32)) :
    e.bypPartner p n = d.bypPartner p n := by
  unfold Device.bypPartner Device.bypByte
  rw [h]

/-- Two ports without their circuit, and without its window where one is open. -/
def Device.circuitCut (d : Device) (p n m : Nat) : Device :=
  ((if d.bypWindowed p n then d.windowEnd p n else d).setBypByte p n 0).setBypByte p m 0

theorem Device.bypPartner_circuitCut {n m : Nat} :
    (d.circuitCut p n m).bypPartner p n = none ∧ (d.circuitCut p n m).bypPartner p m = none := by
  unfold Device.circuitCut
  rw [Device.bypPartner_eq_none_iff, Device.bypPartner_eq_none_iff, Device.bit_bypByte_clear, Device.bit_bypByte_clear,
    Device.bit_bypByte_clear]
  simp

/-- The ports that leave a circuit take their bytes of `byp_map` no further. -/
theorem Device.bypMap_removeCircuit {n m : Nat} {forced : Bool} (h : d.bypPartner p n = some m) (c : Nat) :
    (d.removeCircuit p n forced).get .bypMap p c = (d.circuitCut p n m).get .bypMap p c := by
  have hleave : ∀ (f : Device) (j st : Nat), (f.leavePort p j st).get .bypMap p c = f.get .bypMap p c := fun f j st =>
    ((Moves.refl f ..).leavePort (Mask.le_refl _) (Mask.le_refl _)).get .bypMap p c (by decide)
  have hclosed : ∀ (q : Bool) (f : Device) (j : Nat) (o : OutSt),
      (if q then f.setOutp p j o else f).get .bypMap p c = f.get .bypMap p c := by
    intro q f j o
    cases q
    · rfl
    · rfl
  unfold Device.removeCircuit
  rw [h]
  dsimp only
  refine foldl_keeps_mem (g := fun f : Device => f.get .bypMap p c) (fun f j _ => ?_) (d.circuitCut p n m)
  refine (hclosed _ _ _ _).trans ?_
  split
  · rfl
  · exact hleave ..

/-- A circuit that is removed leaves both ports without a partner. -/
theorem Device.bypPartner_removeCircuit {n m : Nat} {forced : Bool} (h : d.bypPartner p n = some m) :
    (d.removeCircuit p n forced).bypPartner p n = none ∧ (d.removeCircuit p n forced).bypPartner p m = none :=
  ⟨(Device.bypPartner_congr (Device.bypMap_removeCircuit h _)).trans Device.bypPartner_circuitCut.1,
    (Device.bypPartner_congr (Device.bypMap_removeCircuit h _)).trans Device.bypPartner_circuitCut.2⟩

theorem Device.pathCheck_keeps {n : Nat} {pass : Bool} (h : pass = true ∨ d.bypPartner p n = none) : d.pathCheck p n pass = d := by
  unfold Device.pathCheck
  rw [if_pos (by rcases h with h | h <;> simp [h])]

/-- A path check that fails for the first time in the hour is counted, shown, and takes the circuit with it. -/
theorem Device.pathCheck_fail {n m : Nat} (hpartner : d.bypPartner p n = some m) (hfirst : d.secondFault p (chan 9 n) = false) :
    (d.pathCheck p n false).get .bypPathFaults p 0 = min (d.get .bypPathFaults p 0 + 1) (2 ^ 32 - 1) ∧
      bit ((d.pathCheck p n false).get .cause p 9) 0 = true ∧
      (d.pathCheck p n false).bypPartner p n = none ∧ (d.pathCheck p n false).bypPartner p m = none := by
  have hfault : d.pathCheck p n false = ((((d.bump .bypPathFaults p 0).causeBypass p 0 (n / 32 * 256 + n % 32)).chanFault p
      (chan 9 n)).chanClear p (chan 9 n)).removeCircuit p n true := by
    unfold Device.pathCheck
    simp [hpartner, hfirst]
  rw [hfault]
  have hcounted : (d.bump .bypPathFaults p 0).get .bypPathFaults p 0 = min (d.get .bypPathFaults p 0 + 1) (2 ^ 32 - 1) :=
    Device.get_count_narrow _ _ _ _ _ (by decide)
  have hbumped : ∀ c, (d.bump .bypPathFaults p 0).get .bypMap p c = d.get .bypMap p c := fun c =>
    ((Moves.refl (mo := besideChannels ^^^ objs_setBypByte) (mp := latchesKept) ..).bump (by decide) (by decide) (by decide)).get
      .bypMap p c (by decide)
  have hcause : bit (((d.bump .bypPathFaults p 0).causeBypass p 0 (n / 32 * 256 + n % 32)).get .cause p 9) 0 = true :=
    Device.bit_latch _ _ _ _ _ (by decide)
  have hshown : Moves (d.bump .bypPathFaults p 0) ((d.bump .bypPathFaults p 0).causeBypass p 0 (n / 32 * 256 + n % 32))
      objs_causeBypass latchesKept := (Moves.refl ..).causeBypass (Mask.le_refl _) (Mask.of (by decide))
  have hevent : ∀ f : Device, Moves f ((f.chanFault p (chan 9 n)).chanClear p (chan 9 n))
      (objs_chanFault ||| objs_chanClear) latchesKept :=
    fun f => ((Moves.refl f ..).chanFault (Mask.of (by decide)) (Mask.of (by decide))).chanClear (Mask.of (by decide))
      (Mask.of (by decide))
  generalize (d.bump .bypPathFaults p 0).causeBypass p 0 (n / 32 * 256 + n % 32) = f at *
  have hevent := hevent f
  generalize (f.chanFault p (chan 9 n)).chanClear p (chan 9 n) = g at *
  have hgone : Moves g (g.removeCircuit p n true) objs_removeCircuit latchesKept :=
    (Moves.refl ..).removeCircuit (Mask.le_refl _) (Mask.of (by decide))
  have hmap : g.bypPartner p n = some m :=
    (Device.bypPartner_congr (((hevent.get .bypMap p _ (by decide)).trans (hshown.get .bypMap p _ (by decide))).trans (hbumped _))).trans
      hpartner
  exact ⟨(hgone.get .bypPathFaults p 0 (by decide)).trans ((hevent.get .bypPathFaults p 0 (by decide)).trans
      ((hshown.get .bypPathFaults p 0 (by decide)).trans hcounted)),
    hgone.latchKept (by decide) (hevent.latchKept (by decide) hcause), Device.bypPartner_removeCircuit hmap⟩

end
end Sys2Proof.Machine

/-! ### What faults of units, tests after faults and path checks leave in a state (spec/19 R410) -/

namespace Sys2Proof.Machine

section
variable {s : State} {p : Plane}

theorem exec_reducerLaneFault (c : Group) (lane : Fin 68) (h : s.dev.live p = true) :
    exec (.reducerLaneFault p c lane) s = .next { s with dev := (s.dev.laneFault p c lane).settle } := by
  show execReducerLaneFault p c lane s = _
  exact State.runOn_next h

theorem exec_spareLaneStandIn (c : Group) (lane : Fin 68) (h : s.dev.live p = true) :
    exec (.spareLaneStandIn p c lane) s = .next { s with dev := (s.dev.laneStandIn p c lane).settle } := by
  show execSpareLaneStandIn p c lane s = _
  exact State.runOn_next h

theorem exec_tileFault (u : Fin 9) (h : s.dev.live p = true) :
    exec (.tileFault p u) s = .next { s with dev := (s.dev.tileFault p u).settle } := by
  show execTileFault p u s = _
  exact State.runOn_next h

theorem exec_cipherFault (dir : Fin 2) (u : Fin 17) (h : s.dev.live p = true) :
    exec (.cipherFault p dir u) s = .next { s with dev := (s.dev.cipherFault p dir u).settle } := by
  show execCipherFault p dir u s = _
  exact State.runOn_next h

theorem exec_faultRetryBistComplete (ch : BitVec 16) (pass : Bool) (h : s.dev.live p = true) :
    exec (.faultRetryBistComplete p ch pass) s = .next { s with dev := (s.dev.retryDone p ch.toNat pass).settle } := by
  show execFaultRetryBistComplete p ch pass s = _
  exact State.runOn_next h

theorem exec_bypassPathCheck (c : Chip) (k : Fin 32) (pass : Bool) (h : s.dev.live p = true) :
    exec (.bypassPathCheck p c k pass) s = .next { s with dev := (s.dev.pathCheck p (32 * c.val + k.val) pass).settle } := by
  show execBypassPathCheck p c k pass s = _
  exact State.runOn_next h

end

section
variable {d : Device} {p g u ch : Nat}

theorem Device.chanState_settle : d.settle.chanState p ch = d.chanState p ch := Device.get_settle _ _ _ _ rfl

theorem Device.standsOf_settle : d.settle.standsOf p g = d.standsOf p g := Device.standsOf_congr (Device.stands_settle d) p g

theorem Device.spareFor_settle : d.settle.spareFor p g u = d.spareFor p g u := by
  unfold Device.spareFor
  rw [Device.standsOf_settle]

theorem Device.chanSt_settle : d.settle.chanSt p ch = d.chanSt p ch := Device.chanSt_congr (Device.chans_settle d) p ch

theorem Device.bypPartner_settle {n : Nat} : d.settle.bypPartner p n = d.bypPartner p n :=
  Device.bypPartner_congr (Device.get_settle _ _ _ _ rfl)

theorem Device.retired_settle : d.settle.retired p ch = d.retired p ch := by
  unfold Device.retired
  rw [Device.chanState_settle]

/-- A lane's fault with a spare free. -/
theorem Device.laneFault_spared {z lane : Nat} (c : Group) (hlive : d.live p = true) (hup : d.get .reducerState p c = 0)
    (hs : d.Spared p (4 * 4096 + c) lane) (hlane : lane < 64) (hidle : ∀ x, d.ctxState p x = 0)
    (hfree : d.freeSpare p (4 * 4096 + c) = some z) :
    (d.laneFault p c lane).chanState p (unitChan (4 * 4096 + c) lane) = 3 ∧ (d.laneFault p c lane).get .reducerState p c = 0 ∧
      (d.laneFault p c lane).get .hfChanFaults p (unitChan (4 * 4096 + c) lane) =
        min (d.get .hfChanFaults p (unitChan (4 * 4096 + c) lane) + 1) (2 ^ 32 - 1) := by
  rw [Device.laneFault_of_spare c hlive hup hs hlane hidle hfree]
  exact ⟨(Device.chanState_unitOut lane).trans (if_pos rfl),
    ((Device.moves_unitOut_engines (Or.inl (reducerGroup_div c))).get .reducerState p c (by decide)).trans hup,
    Device.get_chanFaults_unitOut (Or.inl (reducerGroup_div c)) hs.up.2⟩

/-- A lane's fault with no spare left retires lane and reducer. -/
theorem Device.laneFault_unspared {lane : Nat} (c : Group) (hlive : d.live p = true) (hup : d.get .reducerState p c = 0)
    (hs : d.Spared p (4 * 4096 + c) lane) (hlane : lane < 64) (hidle : ∀ x, d.ctxState p x = 0)
    (hfree : d.freeSpare p (4 * 4096 + c) = none) :
    (d.laneFault p c lane).get .reducerState p c = 1 ∧ (d.laneFault p c lane).chanState p (unitChan (4 * 4096 + c) lane) = 4 := by
  rw [Device.laneFault_of_no_spare c hlive hup hs hlane hidle hfree]
  have hrest := Device.moves_reviewReasons ((d.laneLost p (4 * 4096 + c) lane).set .reducerState p c 1)
  have hreview : Moves ((d.laneLost p (4 * 4096 + c) lane).set .reducerState p c 1)
      ((d.laneLost p (4 * 4096 + c) lane).set .reducerState p c 1).reviewReasons objs_reviewReasons latchesKept :=
    (Moves.refl ..).reviewReasons (Mask.le_refl _) (Mask.of (by decide))
  exact ⟨(hreview.get .reducerState p c (by decide)).trans (Device.get_set_same ..),
    (hrest.chanState p _).trans ((Device.get_set_obj _ _ _ _ _ _ _ _ (by decide)).trans Device.chanState_laneLost)⟩

/-- The spare of a lane that waits for it stands in. -/
theorem Device.laneStandIn_stands {z lane : Nat} (c : Group) (hlane : lane < 64) (hnone : d.standsOf p (4 * 4096 + c) = [])
    (hwaits : d.chanState p (unitChan (4 * 4096 + c) lane) = 3) (hidle : ∀ x, d.ctxState p x = 0)
    (hfree : d.freeSpare p (4 * 4096 + c) = some z) :
    (d.laneStandIn p c lane).standsOf p (4 * 4096 + c) = [(lane, z)] ∧
      (d.laneStandIn p c lane).chanState p (unitChan (4 * 4096 + c) lane) = 2 ∧
      bit ((d.laneStandIn p c lane).get .spareLanesUsed p c) (z - 64) = true ∧
      bit ((d.laneStandIn p c lane).get .cause p 10) 2 = true := by
  rw [Device.laneStandIn_of_idle c hlane hnone hwaits hidle]
  obtain ⟨hstands, hstate, hcause⟩ := Device.substitute_stands (u := lane) hfree (by rw [hwaits]; decide)
  have hspare : z < 68 := by
    have hlast := (Device.freeSpare_mem hfree).2
    unfold grpAll at hlast
    rwa [if_pos (reducerGroup_div c)] at hlast
  refine ⟨by rw [hstands, hnone], hstate, ?_, hcause⟩
  have hused := Device.spareLanesUsed_takeSpare (d := d) (p := p) (u := lane) (reducerGroup_div c) hspare hnone
  rw [reducerGroup_mod] at hused
  have hreview : Moves (d.takeSpare p (4 * 4096 + c) lane z) (d.takeSpare p (4 * 4096 + c) lane z).reviewReasons
      objs_reviewReasons latchesKept := (Moves.refl ..).reviewReasons (Mask.le_refl _) (Mask.of (by decide))
  rw [Device.substitute_of_spare hfree, hreview.get .spareLanesUsed p c (by decide)]
  exact hused

/-- A tile's spare stands in at once. -/
theorem Device.tileFault_stands (hlive : d.live p = true) (hs : d.Spared p (5 * 4096) u) (hu : u < 8)
    (hidle : ∀ x, d.ctxState p x = 0) (hfree : d.freeSpare p (5 * 4096) = some 8) :
    (d.tileFault p u).standsOf p (5 * 4096) = [(u, 8)] ∧ (d.tileFault p u).get .mxSpareInUse p 0 = 1 ∧
      (d.tileFault p u).chanState p (unitChan (5 * 4096) u) = 2 ∧
      (d.tileFault p u).get .mxTileFaults p 0 = min (d.get .mxTileFaults p 0 + 1) (2 ^ 32 - 1) := by
  rw [Device.tileFault_of_spared hlive hs hu hidle]
  have hout := Device.moves_unitOut_engines (d := d) (p := p) (u := u) (g := 5 * 4096) (Or.inr rfl)
  have hfaults : (d.unitOut p (5 * 4096) u).get .mxTileFaults p 0 = d.get .mxTileFaults p 0 := hout.get .mxTileFaults p 0 (by decide)
  have hstate : (d.unitOut p (5 * 4096) u).chanState p (unitChan (5 * 4096) u) = 3 := (Device.chanState_unitOut u).trans (if_pos rfl)
  have hnone : (d.unitOut p (5 * 4096) u).standsOf p (5 * 4096) = [] := (hout.standsOf p _).trans hs.noStands
  have hspare : (d.unitOut p (5 * 4096) u).freeSpare p (5 * 4096) = some 8 := (Device.freeSpare_unitOut hu).trans hfree
  generalize d.unitOut p (5 * 4096) u = e at *
  have hbump : Moves e (e.bump .mxTileFaults p 0) besideChannels besideSpares :=
    (Moves.refl ..).bump (by decide) (by decide) (by decide)
  have hcounted : (e.bump .mxTileFaults p 0).get .mxTileFaults p 0 = min (e.get .mxTileFaults p 0 + 1) (2 ^ 32 - 1) :=
    Device.get_count_narrow _ _ _ _ _ (by decide)
  have hspare' := (hbump.freeSpare p (5 * 4096)).trans hspare
  obtain ⟨hstands, hnow, -⟩ := Device.substitute_stands (u := u) hspare' (by rw [hbump.chanState, hstate]; decide)
  have hreview : Moves ((e.bump .mxTileFaults p 0).takeSpare p (5 * 4096) u 8)
      ((e.bump .mxTileFaults p 0).takeSpare p (5 * 4096) u 8).reviewReasons objs_reviewReasons latchesKept :=
    (Moves.refl ..).reviewReasons (Mask.le_refl _) (Mask.of (by decide))
  refine ⟨by rw [hstands, hbump.standsOf, hnone], ?_, hnow, ?_⟩
  · rw [Device.substitute_of_spare hspare', hreview.get .mxSpareInUse p 0 (by decide)]
    exact Device.spareInUse_takeSpare (by decide)
  · rw [(Device.moves_substitute_engines (Or.inr (by decide))).get .mxTileFaults p 0 (by decide), hcounted, hfaults]

/-- A cipher pipeline's spare stands in at once. -/
theorem Device.cipherFault_stands (dir : Fin 2) (hlive : d.live p = true) (hs : d.Spared p (6 * 4096 + dir) u) (hu : u < 16)
    (hfree : d.freeSpare p (6 * 4096 + dir) = some 16) :
    (d.cipherFault p dir u).standsOf p (6 * 4096 + dir) = [(u, 16)] ∧
      (d.cipherFault p dir u).chanState p (unitChan (6 * 4096 + dir) u) = 2 ∧ bit ((d.cipherFault p dir u).get .cause p 6) 0 = true ∧
      (d.cipherFault p dir u).get .cipherFaults p 0 = min (d.get .cipherFaults p 0 + 1) (2 ^ 32 - 1) := by
  rw [Device.cipherFault_of_spared dir hlive hs hu]
  have hnoted : (d.cipherNoted p dir).Spared p (6 * 4096 + dir) u := hs.noted dir
  have hkept : Moves d (d.cipherNoted p dir) besideChannels besideSpares :=
    (Device.moves_cipherNoted d p dir).mono (Mask.le_refl _) (Mask.of (by decide))
  obtain ⟨hcounted, hcause⟩ := Device.cipherNoted_counts (d := d) (p := p) (dir := dir)
  have hspare := (hkept.freeSpare p (6 * 4096 + dir)).trans hfree
  generalize d.cipherNoted p dir = e at *
  have hunit : u < grpUnits (6 * 4096 + dir.val) := by rw [cipherGroup_units]; exact hu
  have hout : (e.unitOut p (6 * 4096 + dir) u).standsOf p (6 * 4096 + dir) = [] :=
    ((Device.moves_unitOut e p _ u).standsOf p _).trans hnoted.noStands
  have hstate : (e.unitOut p (6 * 4096 + dir) u).chanState p (unitChan (6 * 4096 + dir) u) = 3 :=
    (Device.chanState_unitOut u).trans (if_pos rfl)
  obtain ⟨hstands, hnow, -⟩ := Device.substitute_stands (u := u) ((Device.freeSpare_unitOut hunit).trans hspare)
    (by rw [hstate]; decide)
  have hrest := Device.moves_pipelineOut e p (6 * 4096 + dir.val) u
  exact ⟨by rw [hstands, hout], hnow, hrest.latchKept (by decide) hcause, (hrest.get .cipherFaults p 0 (by decide)).trans hcounted⟩

/-- A tile's fault while the spare stands in retires the plane. -/
theorem Device.tileFault_retires {k : Nat} (hlive : d.live p = true) (hstands : d.standsOf p (5 * 4096) = [(u, k)])
    (huntested : d.testedIn p (5 * 4096) = none) :
    ((d.tileFault p u).plane p).cond = .retired ∧ bit ((d.tileFault p u).get .cause p 2) 4 = true := by
  rw [Device.tileFault_of_standing hlive hstands huntested]
  obtain ⟨hcond, hcause, -⟩ := Device.retirePlane_of_live (ch := unitChan (5 * 4096) u) (unit := 0)
    ((Device.condsKept_tileAbort.live p).trans hlive)
  exact ⟨hcond, hcause⟩

/-- A unit that passes the test after its fault is back in service. -/
theorem Device.retryDone_pass_reads (hok : chanOk ch = true) (hlow : 4 ≤ chanCode ch) (hhigh : chanCode ch ≤ 6)
    (hretired : d.retired p ch = false) (hretry : (d.chanSt p ch).retry = true) :
    (d.retryDone p ch true).spareFor p (unitOf ch).1 (unitOf ch).2 = none ∧ ((d.retryDone p ch true).chanSt p ch).retry = false ∧
      ((d.retryDone p ch true).chanSt p ch).cleared = some d.clock ∧ (d.retryDone p ch true).chanState p ch = d.inService p ch := by
  have hlinks : ∀ l < 4, ch ≠ chan 8 l := by
    rintro l hl rfl
    unfold chanCode chan at hhigh
    omega
  rw [Device.retryDone_pass hok hlow hhigh hretired hretry]
  obtain ⟨hspare, hchan, hstate⟩ := Device.returnUnit_reads (p := p)
    (d := d.setChan p ch { d.chanSt p ch with retry := false, cleared := some d.clock }) (unitChan_unitOf hok hlow hhigh) hlinks
  rw [Device.chanSt_setChan, if_pos ⟨rfl, rfl⟩] at hchan
  exact ⟨hspare, by rw [hchan], by rw [hchan], hstate⟩

end

/-- Settles O33: each fault is cut into what takes the unit out, what stands in, and what only follows; the object and part masks of
the followers say what they leave. -/
theorem unitFaults : Obligations.UnitFaults := by
  unfold Obligations.UnitFaults
  intro s p hlive spared
  refine ⟨fun c lane hup hlane hspared => ?_, fun c lane hlane hnone hwaits hidle => ?_, fun u hu hspared hfree => ?_,
    fun dir u hu hspared hfree => ?_, fun u k hstands huntested => ?_, fun ch hok hlow hhigh hretired hretry => ?_,
    fun c k pass => ?_⟩
  · obtain ⟨huntested, hnone, hin, htested, hfirst, hidle⟩ := hspared
    have hs : s.dev.Spared p (4 * 4096 + c.val) lane := ⟨huntested, hnone, ⟨hin, htested⟩, hfirst⟩
    refine ⟨fun z hz => ⟨_, exec_reducerLaneFault c lane hlive, rfl, ?_⟩,
      fun hz => ⟨_, exec_reducerLaneFault c lane hlive, rfl, ?_⟩⟩
    · obtain ⟨hstate, hreducer, hfaults⟩ := Device.laneFault_spared c hlive hup hs hlane hidle hz
      exact ⟨Device.chanState_settle.trans hstate, (Device.get_settle _ _ _ _ rfl).trans hreducer,
        (Device.get_settle _ _ _ _ rfl).trans hfaults⟩
    · obtain ⟨hreducer, hstate⟩ := Device.laneFault_unspared c hlive hup hs hlane hidle hz
      exact ⟨(Device.get_settle _ _ _ _ rfl).trans hreducer, Device.chanState_settle.trans hstate⟩
  · refine ⟨_, exec_spareLaneStandIn c lane hlive, rfl, fun z hz => ?_⟩
    obtain ⟨hstands, hstate, hused, hcause⟩ := Device.laneStandIn_stands c hlane hnone hwaits hidle hz
    exact ⟨Device.standsOf_settle.trans hstands, Device.chanState_settle.trans hstate,
      by rw [Device.get_settle _ _ _ _ rfl]; exact hused, by rw [Device.cause_settle]; exact hcause⟩
  · obtain ⟨huntested, hnone, hin, htested, hfirst, hidle⟩ := hspared
    obtain ⟨hstands, huse, hstate, hfaults⟩ :=
      Device.tileFault_stands hlive ⟨huntested, hnone, ⟨hin, htested⟩, hfirst⟩ hu hidle hfree
    exact ⟨_, exec_tileFault u hlive, rfl, Device.standsOf_settle.trans hstands, (Device.get_settle _ _ _ _ rfl).trans huse,
      Device.chanState_settle.trans hstate, (Device.get_settle _ _ _ _ rfl).trans hfaults⟩
  · obtain ⟨huntested, hnone, hin, htested, hfirst, -⟩ := hspared
    obtain ⟨hstands, hstate, hcause, hfaults⟩ :=
      Device.cipherFault_stands dir hlive ⟨huntested, hnone, ⟨hin, htested⟩, hfirst⟩ hu hfree
    exact ⟨_, exec_cipherFault dir u hlive, rfl, Device.standsOf_settle.trans hstands, Device.chanState_settle.trans hstate,
      by rw [Device.cause_settle]; exact hcause, (Device.get_settle _ _ _ _ rfl).trans hfaults⟩
  · obtain ⟨hcond, hcause⟩ := Device.tileFault_retires hlive hstands huntested
    exact ⟨_, exec_tileFault u hlive, rfl, (congrArg PlaneSt.cond (Device.plane_settle _ p)).trans hcond,
      by rw [Device.cause_settle]; exact hcause⟩
  · constructor
    · obtain ⟨hspare, hclear, hwhen, hstate⟩ := Device.retryDone_pass_reads hok hlow hhigh hretired hretry
      exact ⟨_, exec_faultRetryBistComplete ch true hlive, rfl, Device.spareFor_settle.trans hspare,
        (congrArg ChanSt.retry Device.chanSt_settle).trans hclear, (congrArg ChanSt.cleared Device.chanSt_settle).trans hwhen,
        Device.chanState_settle.trans hstate⟩
    · obtain ⟨hgone, hfailures, hcause⟩ := Device.retryFailed_reads (d := s.dev) (p := p) (unitChan_unitOf hok hlow hhigh)
      rw [← Device.retryDone_fail hok hlow hhigh hretired hretry] at hgone hfailures hcause
      exact ⟨_, exec_faultRetryBistComplete ch false hlive, rfl, Device.retired_settle.trans hgone,
        (Device.get_settle _ _ _ _ rfl).trans hfailures, by rw [Device.cause_settle]; exact hcause⟩
  · refine ⟨fun h => ⟨_, exec_bypassPathCheck c k pass hlive, ?_⟩, fun m hfail hpartner hfirst => ?_⟩
    · rw [Device.pathCheck_keeps h]
      exact Device.frame_settle _ _
    · obtain rfl := hfail
      obtain ⟨hfaults, hcause, hn, hm⟩ := Device.pathCheck_fail hpartner hfirst
      exact ⟨_, exec_bypassPathCheck c k false hlive, rfl, (Device.get_settle _ _ _ _ rfl).trans hfaults,
        by rw [Device.cause_settle]; exact hcause, Device.bypPartner_settle.trans hn, Device.bypPartner_settle.trans hm⟩

end Sys2Proof.Machine

/-! ### A frame that waits at a reducer behind the one R109 puts next (spec/07 R137, spec/06 R109)

REDUCER_FRAME names a copy, and the reducer reads it only where it is the one R109 puts next. O30 asks only that the copy is the
first of its own queue (`atHead`): with two queues at the reducer the other one's head stays where it is. -/

namespace Sys2Proof.Machine

/-- Naming a copy that is not the reducer's next reads nothing. -/
theorem exec_reducerFrame_other (p : Plane) (c : Group) {id : Nat} {s : State} (h : s.dev.carries p = true)
    (hpick : (s.dev.plainPick p (200 + c)).map (·.1) ≠ some id) :
    exec (.reducerFrame p c id) s = .next { s with dev := s.dev.settle } := by
  show execReducerFrame p c id s = _
  exact State.carry_eq h (if_neg hpick)

/-- A contribution of tenant 3 for context 7, as it came in at a port. -/
def contribution (port : Nat) : FrameRec where
  plane := 0
  input := port
  frame := Mk.frame { opcode := opRedContrib, cls := 3, tenant := 3, context := 7 } []
  cls := 3
  tenant := 3
  cells := 1
  charged := false
  credit := none

/-- Its copy in the queue of a row toward the reducer of column 0, from frame record `row`. -/
def contributionCopy (row : Nat) : Copy where
  plane := 0
  fid := row
  row := row
  col := 0
  stage := .queued
  place := []
  wait := [200]
  sentTo := []
  due := []
  seq := row
  at_ := 0
  moved := false
  charged := false

/-- Two contributions of one class wait at reducer 0, from ports 0 and 32 in rows 0 and 1; context 7 is idle. -/
def twoQueues : Device where
  hub := { awaitBoot := false, running := true }
  planes := [((0, 0), { cond := .running })]
  frames := [((0, 0), contribution 0), ((0, 1), contribution 32)]
  copies := [((0, 0), contributionCopy 0), ((0, 1), contributionCopy 1)]

theorem twoQueues_waits : twoQueues.carries 0 = true ∧ twoQueues.still 0 = true ∧ twoQueues.noSwitch 0 = true ∧
    twoQueues.get .reducerState 0 0 = 0 := by decide +kernel

/-- The second copy is the first of its queue, and its frame names a context that no launch has begun. -/
theorem twoQueues_second : twoQueues.atHead 0 1 200 = true ∧ twoQueues.copy? 0 1 = some (contributionCopy 1) ∧
    twoQueues.frame? 0 1 = some (contribution 32) ∧ (contribution 32).frame.context = 7 ∧ twoQueues.ctxRuns 0 7 = false ∧
    twoQueues.ctxState 0 7 = 0 := by
  decide +kernel

/-- R109 puts the copy of row 0 next. -/
theorem twoQueues_picks_first : (twoQueues.plainPick 0 200).map (·.1) = some 0 := by decide +kernel

/-- Refutes O30: of two heads that wait at a reducer the one that R109 does not put next is not read when REDUCER_FRAME names it, so it
is not counted and dropped. -/
theorem not_contextEvents : ¬ Obligations.ContextEvents := by
  intro h
  obtain ⟨hcarries, hstill, hswitch, hreducer⟩ := twoQueues_waits
  obtain ⟨hhead, hcopy, hframe, hcontext, hruns, hidle⟩ := twoQueues_second
  obtain ⟨-, -, -, -, hframes, -⟩ := h { dev := twoQueues, pending := [] } 0 0 0 ⟨0, 0⟩ hswitch
  have hdropped := hframes 0 1 (contributionCopy 1) (contribution 32) hcarries hstill hhead hreducer hcopy hframe
  rw [hcontext] at hdropped
  obtain ⟨t, hexec, -, hread, -⟩ := hdropped (by simp [hruns]) (Or.inl (by simp [hruns, hidle]))
  rw [exec_reducerFrame_other 0 0 hcarries (by simp [twoQueues_picks_first])] at hexec
  cases hexec
  have hunread : twoQueues.settle.copy? 0 1 = some (contributionCopy 1) := (Device.copy_settle _ 0 1).trans hcopy
  have hdue := congrArg Copy.due (Option.some.inj (hunread.symm.trans hread))
  exact absurd hdue (by decide)

end Sys2Proof.Machine

/-! ### The states of groups as the register file holds them (spec/08 Table 8.12)

A switch of a group goes on where an entry of the register file says so (`Device.groupsIn` reads the file itself). Of all that a run
of the slots does, only the boundaries and the switches write such an entry. -/

namespace Sys2Proof.Machine

/-- The entries of the register file that hold the states of groups. -/
def Device.switches (d : Device) : List (Key × Nat) := d.regs.filter (fun e => decide (e.1.obj = .grpState))

/-- A write of another object leaves the entries of an object where they stand. -/
theorem Tbl.filter_put {o : Obj} {t : List (Key × Nat)} {k : Key} {v z : Nat} (h : k.obj ≠ o) :
    (Tbl.put Key.lt t k v z).filter (fun e => decide (e.1.obj = o)) = t.filter (fun e => decide (e.1.obj = o)) := by
  have herase : (Tbl.erase t k).filter (fun e => decide (e.1.obj = o)) = t.filter (fun e => decide (e.1.obj = o)) := by
    rw [Tbl.erase, List.filter_filter]
    refine List.filter_congr fun e _ => ?_
    by_cases hk : e.1 = k
    · simp [hk, h]
    · simp [hk]
  have hins : ∀ l : List (Key × Nat), (Tbl.ins Key.lt k v l).filter (fun e => decide (e.1.obj = o)) =
      l.filter (fun e => decide (e.1.obj = o)) := by
    intro l
    induction l with
    | nil => simp [Tbl.ins, h]
    | cons a r ih =>
      unfold Tbl.ins
      split
      · simp [h]
      · simp only [List.filter_cons, ih]
  unfold Tbl.put
  split
  · exact herase
  · exact (hins _).trans herase

section
variable {d : Device} {p : Nat}

theorem Device.groupsIn_eq (st : Nat) :
    d.groupsIn p st = (d.switches.filter (fun e => decide (e.1.plane = p) && decide (e.2 = st))).map (·.1.idx) := by
  unfold Device.groupsIn Device.switches
  rw [List.filter_filter]
  congr 2
  funext e
  simp only [Bool.and_comm, Bool.and_assoc]

theorem Device.groupsIn_congr {e : Device} (h : e.switches = d.switches) (st : Nat) : e.groupsIn p st = d.groupsIn p st := by
  rw [Device.groupsIn_eq, h, ← Device.groupsIn_eq]

/-! #### Registers, counters and causes -/

@[simp] theorem Device.switches_set {o : Obj} {i v : Nat} (h : o ≠ .grpState) : (d.set o p i v).switches = d.switches :=
  Tbl.filter_put h

theorem Device.switches_foldl {α : Type} {f : Device → α → Device} (h : ∀ e a, (f e a).switches = e.switches) (l : List α)
    (e : Device) : (l.foldl f e).switches = e.switches := foldl_keeps Device.switches f h l e

@[simp] theorem Device.switches_count {o : Obj} {i n : Nat} (h : o ≠ .grpState) : (d.count o p i n).switches = d.switches := by
  have hset : ∀ v, (d.set o p i v).switches = d.switches := fun _ => Device.switches_set h
  unfold Device.count
  dsimp only
  split
  · exact hset _
  · split
    · exact hset _
    · exact hset _

@[simp] theorem Device.switches_bump {o : Obj} {i : Nat} (h : o ≠ .grpState) : (d.bump o p i).switches = d.switches :=
  Device.switches_count h

@[simp] theorem Device.switches_highWater {o : Obj} {i v : Nat} (h : o ≠ .grpState) : (d.highWater o p i v).switches = d.switches := by
  simp [Device.highWater, apply_ite Device.switches, h]

@[simp] theorem Device.switches_pushEvent {i b k u st : Nat} : (d.pushEvent p i b k u st).switches = d.switches := by
  unfold Device.pushEvent
  dsimp only
  split
  · rfl
  · rw [Device.switches, Device.regs_pushRecord, Device.switches]

@[simp] theorem Device.switches_latch {i b u : Nat} : (d.latch p i b u).switches = d.switches := by
  simp [Device.latch, apply_ite Device.switches]

@[simp] theorem Device.switches_causeCollective {b u : Nat} : (d.causeCollective p b u).switches = d.switches :=
  Device.switches_latch
@[simp] theorem Device.switches_causeMemory {b u : Nat} : (d.causeMemory p b u).switches = d.switches := Device.switches_latch

/-! #### The tables -/

@[simp] theorem Device.switches_setRctx {x : Nat} {v : RctxSt} : (d.setRctx p x v).switches = d.switches := rfl
@[simp] theorem Device.switches_setSlot {sl : Nat} {v : SlotSt} : (d.setSlot p sl v).switches = d.switches := rfl
@[simp] theorem Device.switches_setCctx {k : Nat} {v : CctxSt} : (d.setCctx p k v).switches = d.switches := rfl
@[simp] theorem Device.switches_setPool {k : Nat} {v : PoolSt} : (d.setPool p k v).switches = d.switches := rfl
@[simp] theorem Device.switches_setOutp {k : Nat} {v : OutSt} : (d.setOutp p k v).switches = d.switches := rfl
@[simp] theorem Device.switches_setPlane {v : PlaneSt} : (d.setPlane p v).switches = d.switches := rfl

/-! #### Frames that units send -/

theorem Device.switches_sprayPick {s input : Nat} {r : Device × Nat} (h : d.sprayPick p s input = some r) :
    r.1.switches = d.switches := by
  unfold Device.sprayPick at h
  dsimp only at h
  split at h
  · cases h
  · cases h
    rfl

@[simp] theorem Device.switches_route {input : Nat} {f : Sys2Proof.Frame} : (d.route p input f).1.switches = d.switches := by
  unfold Device.route
  dsimp only
  split
  · rfl
  split
  · split
    · rfl
    split
    · split
      · split
        · next hpick => exact Device.switches_sprayPick hpick
        · rfl
      · split <;> rfl
    · rfl
  · repeat' split
    all_goals rfl

@[simp] theorem Device.switches_sendOwn {input : Nat} {f : Sys2Proof.Frame} {ctx : Option Nat} :
    (d.sendOwn p input f ctx).switches = d.switches := by
  have hrouted : (d.route p input f).1.switches = d.switches := Device.switches_route
  unfold Device.sendOwn
  generalize d.route p input f = r at hrouted
  dsimp only
  split
  · split
    · exact (Device.switches_bump (by decide)).trans hrouted
    · exact hrouted
  · exact hrouted
  · exact (Device.switches_latch.trans (Device.switches_bump (by decide))).trans hrouted
  · exact (Device.switches_bump (by decide)).trans hrouted

@[simp] theorem Device.switches_sendDirect {c : Nat} {f : Sys2Proof.Frame} {outs : List Nat} {g ctx : Option Nat} :
    (d.sendDirect p c f outs g ctx).switches = d.switches := rfl

@[simp] theorem Device.switches_sendSet {input s : Nat} {f : Sys2Proof.Frame} {g ctx : Option Nat} :
    (d.sendSet p input s g f ctx).switches = d.switches := by
  unfold Device.sendSet
  dsimp only
  split
  · exact Device.switches_bump (by decide)
  · rfl

@[simp] theorem Device.switches_resultToSet {c input s : Nat} {f : Sys2Proof.Frame} {g ctx : Option Nat} :
    (d.resultToSet p c input s g f ctx).switches = d.switches := by
  simp [Device.resultToSet, apply_ite Device.switches]

@[simp] theorem Device.switches_resultByHeader {c input : Nat} {f : Sys2Proof.Frame} {ctx : Option Nat} :
    (d.resultByHeader p c input f ctx).switches = d.switches := by
  unfold Device.resultByHeader
  dsimp only
  split
  · split
    · exact Device.switches_sendDirect.trans Device.switches_route
    · exact Device.switches_sendOwn
  · exact Device.switches_sendOwn

@[simp] theorem Device.switches_sendMsg {sl typ arg att st v dev port : Nat} :
    (d.sendMsg p sl typ arg att st v dev port).switches = d.switches := Device.switches_sendOwn

@[simp] theorem Device.switches_tellMembers {sl typ arg att st v : Nat} :
    (d.tellMembers p sl typ arg att st v).switches = d.switches := Device.switches_foldl (fun _ _ => Device.switches_sendMsg) _ _

@[simp] theorem Device.switches_sendCounts {sl v first : Nat} {totals last : Bool} {es : List (Nat × Nat)} :
    (d.sendCounts p sl v totals last first es).switches = d.switches := Device.switches_sendOwn

@[simp] theorem Device.switches_countsReplies {sl aux : Nat} : (d.countsReplies p sl aux).switches = d.switches := by
  unfold Device.countsReplies
  dsimp only
  split
  · exact Device.switches_foldl (fun _ _ => Device.switches_sendCounts) _ _
  · refine (Device.switches_foldl (fun _ _ => Device.switches_sendCounts) _ _).trans (Device.switches_foldl (fun e m => ?_) _ _)
    exact Device.switches_foldl (fun _ _ => Device.switches_sendCounts) _ _

@[simp] theorem Device.switches_sendBounds {sl x dev u att : Nat} : (d.sendBounds p sl x dev u att).switches = d.switches :=
  Device.switches_foldl (fun _ _ => Device.switches_sendOwn) _ _

@[simp] theorem Device.switches_sendResults {x : Nat} {l : List (Nat × Blk × Bool)} : (d.sendResults p x l).switches = d.switches := by
  unfold Device.sendResults
  dsimp only
  split
  · split <;> rfl
  · split
    · split
      · split
        · exact Device.switches_resultByHeader
        · rfl
      · rfl
    · split
      · exact Device.switches_resultByHeader
      · exact Device.switches_resultToSet

theorem Device.switches_fillSet {g s : Nat} {e : Device} (h : d.fillSet p g s = some e) : e.switches = d.switches := by
  unfold Device.fillSet at h
  dsimp only at h
  split at h
  · cases h
  · cases h
    exact Device.switches_set (by decide)

/-! #### Buffers and compression contexts -/

@[simp] theorem Device.switches_cacheSpill {k : Nat} : (d.cacheSpill p k).switches = d.switches := by
  simp [Device.cacheSpill, apply_ite Device.switches]

@[simp] theorem Device.switches_spoolFreed {req : Nat} : (d.spoolFreed p req).switches = d.switches :=
  Device.switches_foldl (fun e o => by simp [apply_ite Device.switches]) _ _

@[simp] theorem Device.switches_free {k req i : Nat} : (d.free p k req i).switches = d.switches := by
  unfold Device.free
  dsimp only
  split
  · simp
  · split
    · simp
    · simp [apply_ite Device.switches]

@[simp] theorem Device.switches_noteCctx {k : Nat} : (d.noteCctx p k).switches = d.switches := by
  simp [Device.noteCctx]

@[simp] theorem Device.switches_cmpEnd {k : Nat} : (d.cmpEnd p k).switches = d.switches := by
  have hfreed : ∀ req l, (d.freeAll p 3 req l).switches = d.switches := fun _ _ =>
    Device.switches_foldl (fun _ _ => Device.switches_free) _ _
  simp [Device.cmpEnd, hfreed]

@[simp] theorem Device.switches_cmpCommit {k : Nat} : (d.cmpCommit p k).switches = d.switches := by
  simp [Device.cmpCommit]

@[simp] theorem Device.switches_cmpRestart {k : Nat} : (d.cmpRestart p k).switches = d.switches := rfl

@[simp] theorem Device.switches_dropStale {k req : Nat} : (d.dropStale p k req).switches = d.switches := by
  simp [Device.dropStale, apply_ite Device.switches]

@[simp] theorem Device.switches_awaitRefill {k : Nat} : (d.awaitRefill p k).switches = d.switches := by
  simp [Device.awaitRefill, Device.cacheRefill, Device.poolScrubDone, apply_ite Device.switches]

@[simp] theorem Device.switches_fresh : d.fresh.2.switches = d.switches := rfl

@[simp] theorem Device.switches_alloc {k req : Nat} : (d.alloc p k req).1.switches = d.switches := by
  unfold Device.alloc
  dsimp only
  split
  · simp
  · split
    · simp
    · simp [apply_ite Device.switches]

@[simp] theorem Device.switches_allocProj {k n : Nat} {l : List Nat} : (d.allocProj p k n l).1.switches = d.switches := by
  induction n generalizing d l with
  | zero => rfl
  | succ n ih =>
    unfold Device.allocProj
    dsimp only
    split
    · exact ih.trans Device.switches_alloc
    · exact (Device.switches_foldl (fun _ _ => Device.switches_free) _ _).trans Device.switches_alloc

@[simp] theorem Device.switches_cmpStart {k sl step launch blocks : Nat} :
    (d.cmpStart p k sl step launch blocks).1.switches = d.switches := by
  unfold Device.cmpStart
  dsimp only
  split
  · simp
  · split
    · simp
    · simp

/-! #### Reduction contexts -/

@[simp] theorem Device.switches_giveBack {x : Nat} : (d.giveBack p x).switches = d.switches := by
  simp [Device.giveBack]

@[simp] theorem Device.switches_failCtx {x st : Nat} : (d.failCtx p x st).switches = d.switches := by
  simp [Device.failCtx, apply_ite Device.switches]

@[simp] theorem Device.switches_releaseCtx {x : Nat} : (d.releaseCtx p x).switches = d.switches := by
  simp [Device.releaseCtx, apply_ite Device.switches]

@[simp] theorem Device.switches_restartCtx {x : Nat} : (d.restartCtx p x).switches = d.switches := by
  simp [Device.restartCtx, apply_ite Device.switches]

@[simp] theorem Device.switches_ctxNotice {x : Nat} : (d.ctxNotice p x).switches = d.switches := by
  simp [Device.ctxNotice, apply_ite Device.switches]

@[simp] theorem Device.switches_launchCtx {x desc tn seed sl step : Nat} :
    (d.launchCtx p x desc tn seed sl step).1.switches = d.switches := by
  unfold Device.launchCtx
  split
  · simp
  · simp

@[simp] theorem Device.switches_stepLaunch {sl i x desc : Nat} : (d.stepLaunch p sl i x desc).1.switches = d.switches := by
  unfold Device.stepLaunch
  dsimp only
  split
  · rfl
  · split
    · split
      · rfl
      · split
        · simp
        · simp [apply_ite Device.switches]
    · simp [Device.freeCtx, apply_ite Device.switches]

theorem Device.switches_nameDest {sl x aux : Nat} {remote : Bool} {e : Device} (h : d.nameDest p sl x aux remote = some e) :
    e.switches = d.switches := by
  unfold Device.nameDest at h
  dsimp only at h
  split at h
  · exact (Device.switches_fillSet h).trans rfl
  · cases h
    rfl

@[simp] theorem Device.switches_dropCtxs {sl : Nat} : (d.dropCtxs p sl).switches = d.switches :=
  Device.switches_foldl (fun _ _ => by simp [apply_ite Device.switches]) _ _

@[simp] theorem Device.switches_emitResults {x : Nat} : (d.emitResults p x).1.switches = d.switches := by
  have hsent : ∀ (l : List (List (Nat × Blk × Bool))) (e : Device),
      (l.foldl (fun d l => d.sendResults p x l) e).switches = e.switches :=
    Device.switches_foldl (fun _ _ => Device.switches_sendResults)
  unfold Device.emitResults
  extract_lets c b0 ready res d1 per d2 d3 c'
  have hlast : d3.switches = d.switches := by simp [d3, d2, d1, hsent]
  clear_value d3
  split
  · rfl
  · split
    · simp [hlast]
    · exact hlast

/-! #### The moves of slots -/

@[simp] theorem Device.switches_failSlot {sl st : Nat} : (d.failSlot p sl st).switches = d.switches := by
  have hended : ∀ (l : List Nat) (e : Device), (l.foldl (fun d k => d.cmpEnd p k) e).switches = e.switches :=
    Device.switches_foldl (fun _ _ => Device.switches_cmpEnd)
  have htold : ∀ (l : List Nat) (e : Device), (l.foldl (fun d dev => d.sendMsg p sl 0x85 0 0 st 0 dev 0xFE) e).switches = e.switches :=
    Device.switches_foldl (fun _ _ => Device.switches_sendMsg)
  simp [Device.failSlot, hended, htold]

@[simp] theorem Device.switches_signalObj {o v : Nat} : (d.signalObj p o v).switches = d.switches := by
  simp [Device.signalObj, apply_ite Device.switches]

@[simp] theorem Device.switches_beginLaunch {sl n : Nat} : (d.beginLaunch p sl n).switches = d.switches := by
  unfold Device.beginLaunch
  dsimp only
  split
  · simp
  · refine (Device.switches_foldl (fun e i => ?_) _ _).trans (by simp)
    split
    · cases hfill : e.fillSet p (e.get .slotGroup p sl) (stAux (e.stepWord p sl i)) with
      | none => rfl
      | some e' => exact Device.switches_fillSet hfill
    · rfl

@[simp] theorem Device.switches_endLaunch {sl : Nat} : (d.endLaunch p sl).switches = d.switches := by
  simp [Device.endLaunch, apply_ite Device.switches]

@[simp] theorem Device.switches_leaveStep {sl : Nat} : (d.leaveStep p sl).switches = d.switches := by
  simp [Device.leaveStep, apply_ite Device.switches]

@[simp] theorem Device.switches_forwardUp {sl att : Nat} : (d.forwardUp p sl att).switches = d.switches := by
  unfold Device.forwardUp
  dsimp only
  split
  · rfl
  · simp

@[simp] theorem Device.switches_countsClose {sl i aux : Nat} : (d.countsClose p sl i aux).switches = d.switches := by
  simp [Device.countsClose, apply_ite Device.switches]

@[simp] theorem Device.switches_stepAct {sl : Nat} : (d.stepAct p sl).switches = d.switches := by
  unfold Device.stepAct
  extract_lets i w k x live n src d1 orFail own r1 desc again r2 d2 r3 src0 d9 t b desc2 r4 src3
  have hacts : d1.switches = d.switches := rfl
  clear_value d1
  have hfails : ∀ r : Device × Bool, (orFail r).switches = r.1.switches := fun r => by
    simp [orFail, apply_ite Device.switches]
  clear_value orFail
  have hreduce : r1.1.switches = d.switches := by
    simp [r1, apply_ite Prod.fst, apply_ite Device.switches, hacts]
  clear_value r1
  have hcompress : r2.1.switches = d.switches := by
    simp [r2, apply_ite Prod.fst, apply_ite Device.switches, hacts]
  clear_value r2
  have hlaunched : r3.1.switches = d.switches := by simp [r3, d2, hcompress]
  clear_value r3
  have hcombine : r4.1.switches = d.switches := by simp [r4, hacts]
  clear_value r4
  have hgather : d9.switches = d.switches := by simp [d9, apply_ite Device.switches, hacts]
  clear_value d9
  refine Quiet.ite (Device.switches_signalObj.trans hacts) ?_
  refine Quiet.ite ((hfails _).trans (Device.switches_stepLaunch.trans hacts)) ?_
  refine Quiet.ite (Quiet.ite (Device.switches_failSlot.trans hreduce) ?reduce) ?_
  case reduce =>
    split
    · next hnamed => exact (Device.switches_nameDest hnamed).trans hreduce
    · exact Device.switches_failSlot.trans hreduce
  refine Quiet.ite (Quiet.ite (Device.switches_failSlot.trans hcompress) (Quiet.ite (Device.switches_failSlot.trans hlaunched)
    (Device.switches_sendMsg.trans hlaunched))) ?_
  refine Quiet.ite ?remote ?_
  case remote =>
    split
    · next hnamed => exact (Device.switches_nameDest hnamed).trans hacts
    · exact Device.switches_failSlot.trans hacts
  refine Quiet.ite ?relay ?_
  case relay =>
    split
    · next hfilled => exact (Device.switches_fillSet hfilled).trans hgather
    · exact Device.switches_failSlot.trans hgather
  refine Quiet.ite hacts (Quiet.ite hacts (Quiet.ite (Quiet.ite ?refused (Quiet.ite hcombine ?full)) hacts))
  case refused => exact (Device.switches_failSlot.trans (Device.switches_bump (by decide))).trans hacts
  case full => exact Device.switches_failSlot.trans hcombine

/-- What a move of a slot can be: only a RUNNING slot that no switch holds back moves. -/
theorem Device.slotMove_cases {sl : Nat} {e : Device} (h : d.slotMove p sl = some e) :
    d.get .slotState p sl = 2 ∧ (d.slot p sl).reformed = d.reformMark p sl ∧
      (e = d.endLaunch p sl ∨ e = d.stepAct p sl ∨ (∃ att, e = d.forwardUp p sl att) ∨
        (∃ i aux, e = d.countsClose p sl i aux) ∨ e = d.leaveStep p sl) := by
  unfold Device.slotMove at h
  dsimp only at h
  split at h
  · cases h
  next hruns =>
  simp only [Bool.or_eq_true, decide_eq_true_eq, not_or, ne_eq, not_not] at hruns
  refine ⟨hruns.1, hruns.2, ?_⟩
  split at h
  · exact .inl (Option.some.inj h).symm
  split at h
  · exact .inr (.inl (Option.some.inj h).symm)
  split at h
  · exact .inr (.inr (.inl ⟨_, (Option.some.inj h).symm⟩))
  split at h
  · exact .inr (.inr (.inr (.inl ⟨_, _, (Option.some.inj h).symm⟩)))
  split at h
  · exact .inr (.inr (.inr (.inr (Option.some.inj h).symm)))
  · cases h

theorem Device.switches_slotMove {sl : Nat} {e : Device} (h : d.slotMove p sl = some e) : e.switches = d.switches := by
  obtain ⟨-, -, rfl | rfl | ⟨att, rfl⟩ | ⟨i, aux, rfl⟩ | rfl⟩ := Device.slotMove_cases h
  · exact Device.switches_endLaunch
  · exact Device.switches_stepAct
  · exact Device.switches_forwardUp
  · exact Device.switches_countsClose
  · exact Device.switches_leaveStep

@[simp] theorem Device.switches_emitReady : (d.emitReady p).switches = d.switches :=
  Device.switches_foldl (fun e x => by simp [apply_ite Device.switches]) _ _

@[simp] theorem Device.switches_fireNotifies : (d.fireNotifies p).switches = d.switches :=
  (Device.switches_foldl (fun _ _ => Device.switches_sendMsg) _ _).trans rfl

theorem Device.noSwitch_congr {e : Device} (h : e.switches = d.switches) : e.noSwitch p = d.noSwitch p := by
  unfold Device.noSwitch
  rw [Device.groupsIn_congr h, Device.groupsIn_congr h]

theorem Device.noSwitch_iff : d.noSwitch p = true ↔ d.groupsIn p 2 = [] ∧ d.groupsIn p 3 = [] := by
  simp [Device.noSwitch]

theorem Device.boundaries_of_none (h : d.groupsIn p 2 = []) : d.boundaries p = d := by
  simp [Device.boundaries, h]

theorem Device.reforms_of_none (h : d.groupsIn p 3 = []) : d.reforms p = d := by
  simp [Device.reforms, h]

end

end Sys2Proof.Machine

/-! ### A slot at rest (spec/08 R163, R165, R169, R186)

A run moves the RUNNING slots of a plane and restarts the slots of a switching group. A slot that is neither RUNNING nor in such a
group stays as it is, whatever the others do. -/

namespace Sys2Proof.Machine

/-- The record of a slot, its state, status and step are the same in two devices. -/
structure SlotKept (p sl : Nat) (d e : Device) : Prop where
  slot : e.slot p sl = d.slot p sl
  state : e.get .slotState p sl = d.get .slotState p sl
  status : e.get .slotStatus p sl = d.get .slotStatus p sl
  step : e.get .slotStepNow p sl = d.get .slotStepNow p sl

/-- Every object but the state, status and step of slots. -/
def besideSlotRegs : Nat :=
  objs_all ^^^ 2 ^ Obj.slotState.ctorIdx ^^^ 2 ^ Obj.slotStatus.ctorIdx ^^^ 2 ^ Obj.slotStepNow.ctorIdx

/-- Every part of the device but the records of slots. -/
def besideSlots : Nat := parts_all ^^^ 2 ^ Part.slots.ctorIdx

namespace SlotKept

variable {d e f : Device} {p sl m : Nat}

theorem refl (d : Device) : SlotKept p sl d d := ⟨rfl, rfl, rfl, rfl⟩

theorem trans (h : SlotKept p sl d e) (k : SlotKept p sl e f) : SlotKept p sl d f :=
  ⟨k.slot.trans h.slot, k.state.trans h.state, k.status.trans h.status, k.step.trans h.step⟩

theorem of_beside (h : Moves d e besideSlotRegs besideSlots) : SlotKept p sl d e := by
  have hslots : e.slots = d.slots := h.same .slots (by decide)
  exact ⟨by unfold Device.slot; rw [hslots], h.get .slotState _ _ (by decide), h.get .slotStatus _ _ (by decide),
    h.get .slotStepNow _ _ (by decide)⟩

theorem ite {c : Prop} [Decidable c] {a b : Device} (ha : SlotKept p sl d a) (hb : SlotKept p sl d b) :
    SlotKept p sl d (if c then a else b) := by
  split
  · exact ha
  · exact hb

theorem foldl {α : Type} {g : Device → α → Device} {l : List α} (hg : ∀ d, ∀ a ∈ l, SlotKept p sl d (g d a)) :
    SlotKept p sl d (l.foldl g d) := by
  induction l generalizing d with
  | nil => exact .refl d
  | cons a t ih => exact (hg d a List.mem_cons_self).trans (ih fun d x hx => hg d x (List.mem_cons_of_mem a hx))

theorem tellMembers {typ arg att st v : Nat} (h : SlotKept p sl d e) : SlotKept p sl d (e.tellMembers p m typ arg att st v) :=
  h.trans (.of_beside ((Moves.refl ..).tellMembers (Mask.of (by decide)) (Mask.of (by decide))))

/-! #### What acts on another slot -/

section
variable (hm : m ≠ sl)
include hm

theorem set {o : Obj} {v : Nat} (h : SlotKept p sl d e) : SlotKept p sl d (e.set o p m v) := by
  have hget : ∀ o', (e.set o p m v).get o' p sl = e.get o' p sl := fun o' => by
    rw [Device.get_set, if_neg fun hk => hm hk.2.2.symm]
  exact h.trans ⟨rfl, hget _, hget _, hget _⟩

theorem setSlot {v : SlotSt} (h : SlotKept p sl d e) : SlotKept p sl d (e.setSlot p m v) :=
  h.trans ⟨by rw [Device.slot_setSlot, if_neg fun hk => hm hk.2.symm], rfl, rfl, rfl⟩

theorem failSlot {st : Nat} (h : SlotKept p sl d e) : SlotKept p sl d (e.failSlot p m st) := by
  refine h.trans ?_
  unfold Device.failSlot
  extract_lets up d1 d2 d3 d4 d5 s d6
  have hended : SlotKept p sl e d2 := .of_beside (Moves.foldl ((Moves.refl ..).dropCtxs (Mask.of (by decide)) (Mask.of (by decide)))
    (fun d k => (Moves.refl ..).cmpEnd (Mask.of (by decide)) (Mask.of (by decide))))
  have hfailed : SlotKept p sl e d3 := (hended.set hm).set hm
  clear_value d3
  have htold : SlotKept p sl e d5 := hfailed.trans (.of_beside (Moves.foldl ((Moves.refl ..).tellMembers (Mask.of (by decide))
    (Mask.of (by decide))) (fun d k => (Moves.refl ..).sendMsg (Mask.of (by decide)) (Mask.of (by decide)))))
  exact (htold.setSlot hm).trans (.of_beside ((Moves.refl ..).causeCollective (Mask.of (by decide)) (Mask.of (by decide))))

theorem beginLaunch {n : Nat} (h : SlotKept p sl d e) : SlotKept p sl d (e.beginLaunch p m n) := by
  refine h.trans ?_
  unfold Device.beginLaunch
  extract_lets s t d1 d2 d3
  have hbegun : SlotKept p sl e d2 := ((((SlotKept.refl e).setSlot hm).set hm).set hm).set hm
  clear_value d2
  refine SlotKept.ite (hbegun.failSlot hm) (hbegun.tellMembers.trans (SlotKept.foldl fun d i _ => .of_beside ?_))
  dsimp only
  exact Moves.ite (fun _ => Moves.getD (.refl ..) fun r hr => Moves.fillSet hr (.refl ..) (Mask.of (by decide)) (Mask.of (by decide)))
    (fun _ => .refl ..)

theorem endLaunch (h : SlotKept p sl d e) : SlotKept p sl d (e.endLaunch p m) := by
  refine h.trans ?_
  unfold Device.endLaunch
  extract_lets d1 s d2 d3 d4
  have hdropped : SlotKept p sl e d1 := .of_beside ((Moves.refl ..).dropCtxs (Mask.of (by decide)) (Mask.of (by decide)))
  have hdone : SlotKept p sl e d4 := ((hdropped.tellMembers.setSlot hm).set hm).set hm
  exact SlotKept.ite ((SlotKept.refl e).failSlot hm) (SlotKept.ite (hdone.beginLaunch hm) hdone)

theorem leaveStep (h : SlotKept p sl d e) : SlotKept p sl d (e.leaveStep p m) := by
  refine h.trans ?_
  have hreleased : ∀ x, SlotKept p sl e (e.releaseCtx p x) := fun x =>
    .of_beside ((Moves.refl ..).releaseCtx (Mask.of (by decide)) (Mask.of (by decide)))
  exact ((SlotKept.ite (hreleased _) (SlotKept.ite (hreleased _) (.refl e))).setSlot hm).set hm

theorem forwardUp {att : Nat} (h : SlotKept p sl d e) : SlotKept p sl d (e.forwardUp p m att) := by
  refine h.trans ?_
  unfold Device.forwardUp
  dsimp only
  split
  · exact (SlotKept.refl e).setSlot hm
  · exact ((SlotKept.refl e).setSlot hm).trans
      (.of_beside ((Moves.refl ..).sendBounds (Mask.of (by decide)) (Mask.of (by decide))))

theorem countsClose {i aux : Nat} (h : SlotKept p sl d e) : SlotKept p sl d (e.countsClose p m i aux) := by
  refine h.trans ?_
  unfold Device.countsClose
  dsimp only
  refine SlotKept.ite ((SlotKept.refl e).failSlot hm) (SlotKept.setSlot hm (.of_beside ?_))
  exact (Moves.refl ..).countsReplies (Mask.of (by decide)) (Mask.of (by decide))

theorem stepAct (h : SlotKept p sl d e) : SlotKept p sl d (e.stepAct p m) := by
  refine h.trans ?_
  have launched : ∀ {g : Device} {i x desc : Nat}, SlotKept p sl e g → SlotKept p sl e (g.stepLaunch p m i x desc).1 := fun hg =>
    hg.trans (.of_beside ((Moves.refl ..).stepLaunch (Mask.of (by decide)) (Mask.of (by decide))))
  unfold Device.stepAct
  extract_lets i w k x live n src d1 orFail own r1 desc again r2 d2 r3 src0 d9 t b desc2 r4 src3
  have hacts : SlotKept p sl e d1 := (SlotKept.refl e).setSlot hm
  clear_value d1
  have hfails : ∀ r : Device × Bool, SlotKept p sl e r.1 → SlotKept p sl e (orFail r) := fun r hr => SlotKept.ite hr (hr.failSlot hm)
  clear_value orFail
  have hreduce : SlotKept p sl e r1.1 := by
    unfold r1
    split
    · exact hacts
    · exact launched hacts
  clear_value r1
  have hcompress : SlotKept p sl e r2.1 := by
    unfold r2
    split
    · exact hacts.trans (.of_beside ((Moves.refl ..).cmpRestart (Mask.of (by decide)) (Mask.of (by decide))))
    · exact hacts.trans (.of_beside ((Moves.refl ..).cmpStart (Mask.of (by decide)) (Mask.of (by decide))))
  clear_value r2
  have hlaunched : SlotKept p sl e r3.1 := launched hcompress
  clear_value r3
  have hcombine : SlotKept p sl e r4.1 := launched hacts
  clear_value r4
  have hgather : SlotKept p sl e d9 := SlotKept.ite (hacts.setSlot hm) hacts
  clear_value d9
  have named : ∀ {g g' : Device} {x aux : Nat} {remote : Bool}, SlotKept p sl e g → g.nameDest p m x aux remote = some g' →
      SlotKept p sl e g' := fun hg hn =>
    hg.trans (.of_beside (Moves.nameDest hn (.refl ..) (Mask.of (by decide)) (Mask.of (by decide))))
  refine SlotKept.ite (hacts.trans (.of_beside ((Moves.refl ..).signalObj (Mask.of (by decide)) (Mask.of (by decide))))) ?_
  refine SlotKept.ite (hfails _ (launched hacts)) ?_
  refine SlotKept.ite (SlotKept.ite (hreduce.failSlot hm) ?reduce) ?_
  case reduce =>
    split
    · next hnamed => exact named hreduce hnamed
    · exact hreduce.failSlot hm
  refine SlotKept.ite (SlotKept.ite (hcompress.failSlot hm) (SlotKept.ite (hlaunched.failSlot hm) ?compress)) ?_
  case compress => exact hlaunched.trans (.of_beside ((Moves.refl ..).sendMsg (Mask.of (by decide)) (Mask.of (by decide))))
  refine SlotKept.ite ?remote ?_
  case remote =>
    split
    · next hnamed => exact named hacts hnamed
    · exact hacts.failSlot hm
  refine SlotKept.ite ?relay ?_
  case relay =>
    split
    · next hfilled =>
      exact hgather.trans (.of_beside (Moves.fillSet hfilled (.refl ..) (Mask.of (by decide)) (Mask.of (by decide))))
    · exact hgather.failSlot hm
  refine SlotKept.ite (hacts.setSlot hm) (SlotKept.ite (hacts.setSlot hm) (SlotKept.ite (SlotKept.ite ?refused ?combine) hacts))
  case refused =>
    exact (hacts.trans (.of_beside ((Moves.refl ..).bump (by decide) (by decide) (by decide)))).failSlot hm
  case combine => exact SlotKept.ite (hcombine.trans ⟨rfl, rfl, rfl, rfl⟩) (hcombine.failSlot hm)

theorem slotMove (h : d.slotMove p m = some e) : SlotKept p sl d e := by
  obtain ⟨-, -, rfl | rfl | ⟨att, rfl⟩ | ⟨i, aux, rfl⟩ | rfl⟩ := Device.slotMove_cases h
  · exact (SlotKept.refl d).endLaunch hm
  · exact (SlotKept.refl d).stepAct hm
  · exact (SlotKept.refl d).forwardUp hm
  · exact (SlotKept.refl d).countsClose hm
  · exact (SlotKept.refl d).leaveStep hm

/-! #### The switch of a group acts on the slots of the group that are active -/

theorem reformAbort : SlotKept p sl d (d.reformAbort p m) := by
  unfold Device.reformAbort
  extract_lets r
  have haborted : SlotKept p sl d r.1 := .of_beside (Moves.foldl1 (.refl ..) fun z x => by
    have hheld := (Moves.refl z.1 besideSlotRegs besideSlots).abortCtx (p := p) (x := x) (status := 4) (hold := 1)
      (Mask.of (by decide)) (Mask.of (by decide))
    refine Moves.ite1 (fun _ => (Moves.refl ..).setRctx (Mask.of (by decide)) (Mask.of (by decide))) fun _ => ?_
    dsimp only
    split
    · exact hheld
    · exact hheld.setRctx (Mask.of (by decide)) (Mask.of (by decide))
    · exact hheld)
  clear_value r
  split
  · exact haborted.failSlot hm
  · exact haborted.setSlot hm

theorem reformRestart : SlotKept p sl d (d.reformRestart p m) := by
  unfold Device.reformRestart
  extract_lets xs d1 d2 d3 s t d4 d5
  have hreleased : SlotKept p sl d d2 := .of_beside (Moves.foldl (Moves.foldl (.refl ..) fun d x => Moves.ite (fun _ => .refl ..)
      fun _ => (Moves.refl ..).releaseCtx (Mask.of (by decide)) (Mask.of (by decide)))
    fun d k => (Moves.refl ..).cmpRestart (Mask.of (by decide)) (Mask.of (by decide)))
  have hnext : SlotKept p sl d d3 := (hreleased.set hm).set hm
  clear_value d3
  have htold : SlotKept p sl d d4 := hnext.tellMembers
  have hpassed : SlotKept p sl d d5 := htold.trans (.of_beside (Moves.foldl (.refl ..) fun d x => Moves.ite
    (fun _ => ((Moves.refl ..).passAbort (Mask.of (by decide)) (Mask.of (by decide))).setRctx (Mask.of (by decide))
      (Mask.of (by decide))) fun _ => .refl ..))
  exact SlotKept.ite (hnext.failSlot hm) ((hpassed.setSlot hm).set hm)

end

end SlotKept

section
variable {d e : Device} {p sl m g : Nat}

theorem Device.active_of_mem_groupSlots (h : m ∈ d.groupSlots p g) : d.get .slotState p m = 2 ∨ d.get .slotState p m = 3 := by
  unfold Device.groupSlots Device.activeSlots at h
  simp only [List.mem_filter, List.contains_iff_mem, Bool.and_eq_true, Bool.or_eq_true, decide_eq_true_eq] at h
  exact h.2.1.2

/-- A slot is inactive: neither RUNNING nor REWINDING. -/
def Device.Inactive (d : Device) (p sl : Nat) : Prop := ¬ (d.get .slotState p sl = 2 ∨ d.get .slotState p sl = 3)

theorem SlotKept.inactive (h : SlotKept p sl d e) (k : d.Inactive p sl) : e.Inactive p sl := by
  unfold Device.Inactive
  rw [h.state]
  exact k

theorem Device.Inactive.ne_groupSlot (k : d.Inactive p sl) (h : m ∈ d.groupSlots p g) : m ≠ sl :=
  fun he => k (he ▸ Device.active_of_mem_groupSlots h)

theorem SlotKept.reformEnd (k : d.Inactive p sl) : SlotKept p sl d (d.reformEnd p g) := by
  unfold Device.reformEnd
  extract_lets a d1 d2
  have hcopied : SlotKept p sl d d1 := .of_beside (Moves.foldl (.refl ..) fun _ _ => (Moves.refl ..).set (by decide) (by decide))
  have hnone : d1.Inactive p sl := hcopied.inactive k
  clear_value d1
  have hmarked : SlotKept p sl d d2 := hcopied.trans (SlotKept.foldl fun e m hm =>
    SlotKept.setSlot (hnone.ne_groupSlot hm) (.refl e))
  exact hmarked.trans (.of_beside ((((Moves.refl ..).set (by decide) (by decide)).set (by decide) (by decide)).set (by decide)
    (by decide)))

theorem SlotKept.reformTurn (k : d.Inactive p sl) : SlotKept p sl d (d.reformTurn p g).1 := by
  unfold Device.reformTurn
  split
  · exact SlotKept.reformEnd k
  · next m hfound =>
    have hm : m ≠ sl := k.ne_groupSlot (List.mem_of_find?_eq_some hfound)
    extract_lets d1
    have haborted : SlotKept p sl d d1 := SlotKept.ite (SlotKept.reformAbort hm) (.refl d)
    clear_value d1
    split
    · exact haborted
    · split
      · exact haborted
      · exact haborted.trans (SlotKept.reformRestart hm)

theorem SlotKept.reformNext {fuel : Nat} (k : d.Inactive p sl) : SlotKept p sl d (d.reformNext p g fuel) := by
  induction fuel generalizing d with
  | zero => exact .refl d
  | succ fuel ih =>
    have hturn := SlotKept.reformTurn (g := g) k
    unfold Device.reformNext
    exact SlotKept.ite (hturn.trans (ih (hturn.inactive k))) hturn

theorem SlotKept.reforms (k : d.Inactive p sl) : SlotKept p sl d (d.reforms p) := by
  unfold Device.reforms
  generalize d.groupsIn p 3 = l
  generalize 4096 = fuel
  induction l generalizing d with
  | nil => exact .refl d
  | cons g l ih =>
    have hnext := SlotKept.reformNext (g := g) (fuel := fuel) k
    exact hnext.trans (ih (hnext.inactive k))

/-- A run leaves a slot alone: it is not RUNNING, and REWINDING only where no group of the plane switches. -/
structure Device.Rests (d : Device) (p sl : Nat) : Prop where
  notRunning : d.get .slotState p sl ≠ 2
  rewinding : d.get .slotState p sl = 3 → d.noSwitch p = true

theorem Device.Inactive.rests (k : d.Inactive p sl) : d.Rests p sl := ⟨fun h => k (.inl h), fun h => absurd (.inr h) k⟩

theorem Device.rests_of_noSwitch (h : d.noSwitch p = true) (k : d.get .slotState p sl ≠ 2) : d.Rests p sl := ⟨k, fun _ => h⟩

/-- What a turn of a run does before it moves a slot. -/
def Device.turn (d : Device) (p : Nat) : Device := (((d.emitReady p).fireNotifies p).boundaries p).reforms p

/-- The move that a run makes after a turn, where a slot has one. -/
def Device.nextMove (d : Device) (p : Nat) : Option Device := (d.activeSlots p).findSome? (fun sl => d.slotMove p sl)

theorem Device.runSlots_of_move {fuel : Nat} (h : (d.turn p).nextMove p = some e) : d.runSlots p (fuel + 1) = e.runSlots p fuel := by
  unfold Device.turn Device.nextMove at h
  rw [Device.runSlots, h]

theorem Device.runSlots_of_none {fuel : Nat} (h : (d.turn p).nextMove p = none) : d.runSlots p (fuel + 1) = d.turn p := by
  unfold Device.turn Device.nextMove at h
  rw [Device.runSlots, h, Device.turn]

theorem Device.turn_of_noSwitch (h : d.noSwitch p = true) : d.turn p = (d.emitReady p).fireNotifies p := by
  have hready : ((d.emitReady p).fireNotifies p).noSwitch p = true := by
    rw [Device.noSwitch_congr (Device.switches_fireNotifies.trans Device.switches_emitReady)]
    exact h
  obtain ⟨hpending, hunder⟩ := Device.noSwitch_iff.mp hready
  rw [Device.turn, Device.boundaries_of_none hpending, Device.reforms_of_none hunder]

theorem Device.noSwitch_turn (h : d.noSwitch p = true) : (d.turn p).noSwitch p = true := by
  rw [Device.turn_of_noSwitch h, Device.noSwitch_congr (Device.switches_fireNotifies.trans Device.switches_emitReady)]
  exact h

theorem SlotKept.turn (k : d.Rests p sl) : SlotKept p sl d (d.turn p) := by
  have hready : SlotKept p sl d ((d.emitReady p).fireNotifies p) := .of_beside (((Moves.refl ..).emitReady (Mask.of (by decide))
    (Mask.of (by decide))).fireNotifies (Mask.of (by decide)) (Mask.of (by decide)))
  by_cases hrewinds : d.get .slotState p sl = 3
  · rw [Device.turn_of_noSwitch (k.rewinding hrewinds)]
    exact hready
  · have hdue : SlotKept p sl d (((d.emitReady p).fireNotifies p).boundaries p) := hready.trans
      (.of_beside ((Moves.refl ..).boundaries (Mask.of (by decide)) (Mask.of (by decide))))
    exact hdue.trans (SlotKept.reforms (hdue.inactive fun h => h.elim k.notRunning hrewinds))

theorem SlotKept.rests (h : SlotKept p sl d e) (k : d.Rests p sl) (hswitch : d.noSwitch p = true → e.noSwitch p = true) :
    e.Rests p sl :=
  ⟨by rw [h.state]; exact k.notRunning, fun hr => hswitch (k.rewinding (h.state ▸ hr))⟩

theorem SlotKept.runSlots {fuel : Nat} (k : d.Rests p sl) : SlotKept p sl d (d.runSlots p fuel) := by
  induction fuel generalizing d with
  | zero => exact .refl d
  | succ fuel ih =>
    have hturn := SlotKept.turn k
    have hrests := hturn.rests k Device.noSwitch_turn
    cases hmove : (d.turn p).nextMove p with
    | none =>
      rw [Device.runSlots_of_none hmove]
      exact hturn
    | some e =>
      rw [Device.runSlots_of_move hmove]
      obtain ⟨m, -, hmoved⟩ := List.exists_of_findSome?_eq_some hmove
      have hm : m ≠ sl := fun he => hrests.notRunning (he ▸ (Device.slotMove_cases hmoved).1)
      have hkept := SlotKept.slotMove hm hmoved
      refine (hturn.trans hkept).trans (ih (hkept.rests hrests fun h => ?_))
      rw [Device.noSwitch_congr (Device.switches_slotMove hmoved)]
      exact h

/-- A run leaves a slot at rest as it is. -/
theorem SlotKept.run (k : d.Rests p sl) : SlotKept p sl d (d.run p) := by
  unfold Device.run
  exact SlotKept.runSlots k

end
end Sys2Proof.Machine

/-! ### Slot commands (spec/08 R164, R165, R168) -/

namespace Sys2Proof.Machine

/-! #### Parts that no request and no settling moves -/

theorem Device.slot_congr {d e : Device} (h : e.slots = d.slots) (p sl : Nat) : e.slot p sl = d.slot p sl := by
  unfold Device.slot; rw [h]

theorem Device.slot_set (d : Device) (o : Obj) (p i v q sl : Nat) : (d.set o p i v).slot q sl = d.slot q sl := rfl

theorem Device.slot_fmMessage (d : Device) (ses p sl : Nat) : (d.fmMessage ses).slot p sl = d.slot p sl :=
  Device.slot_congr (quiet_slots.fmMessage d ses) p sl

theorem Device.slot_settle (d : Device) (p sl : Nat) : d.settle.slot p sl = d.slot p sl :=
  Device.slot_congr (quiet_slots.settle d) p sl

theorem Device.slot_settle_respond (d : Device) (rq : Req) (r : Resp) (p sl : Nat) :
    (d.respond rq r).settle.slot p sl = d.slot p sl :=
  (Device.slot_settle _ p sl).trans (Device.slot_congr (quiet_slots.respond d rq r) p sl)

/-! #### A slot that fails (R165) -/

section
variable {d e : Device} {p sl : Nat}

/-- What a failed slot shows: its state and status, the cause, and a record that keeps only the WAIT targets and the launch. -/
theorem Device.failSlot_shows (d : Device) (p sl st : Nat) : (d.failSlot p sl st).get .slotState p sl = 4 ∧
    (d.failSlot p sl st).get .slotStatus p sl = st % 256 ∧ bit ((d.failSlot p sl st).get .cause p 4) 1 = true := by
  unfold Device.failSlot
  extract_lets up d1 d2 d3 d4 d5 s d6
  have hfailed : d3.get .slotState p sl = 4 ∧ d3.get .slotStatus p sl = st % 256 := by
    refine ⟨?_, Device.get_set_same _ _ _ _ _⟩
    exact (Device.get_set_obj _ _ _ _ _ _ _ _ (by decide)).trans (Device.get_set_same _ _ _ _ _)
  have hsaid : Moves d3 d5 besideSlotRegs besideSlots := Moves.foldl ((Moves.refl ..).tellMembers (Mask.of (by decide))
    (Mask.of (by decide))) (fun d k => (Moves.refl ..).sendMsg (Mask.of (by decide)) (Mask.of (by decide)))
  have hkept : ∀ o, o ≠ .cause → o ≠ .causeUnit → o ≠ .causeTime → (d6.causeCollective p 1 sl).get o p sl = d5.get o p sl :=
    fun o h1 h2 h3 => Device.get_latch_obj _ _ _ _ _ _ _ _ h1 h2 h3
  refine ⟨?_, ?_, Device.bit_latch _ _ _ _ _ (by decide)⟩
  · exact (hkept _ (by decide) (by decide) (by decide)).trans ((hsaid.get _ _ _ (by decide)).trans hfailed.1)
  · exact (hkept _ (by decide) (by decide) (by decide)).trans ((hsaid.get _ _ _ (by decide)).trans hfailed.2)

/-- A slot that fails stays FAILED in the run that follows, and its cause stays raised. -/
theorem Device.failSlot_run_shows (d : Device) (p sl st : Nat) : ((d.failSlot p sl st).run p).get .slotState p sl = 4 ∧
    ((d.failSlot p sl st).run p).get .slotStatus p sl = st % 256 ∧ bit (((d.failSlot p sl st).run p).get .cause p 4) 1 = true := by
  obtain ⟨hstate, hstatus, hcause⟩ := Device.failSlot_shows d p sl st
  have hrests : (d.failSlot p sl st).Rests p sl := Device.Inactive.rests (by unfold Device.Inactive; omega)
  have hkept := SlotKept.run hrests
  have hrun : Moves (d.failSlot p sl st) ((d.failSlot p sl st).run p) objs_all latchesKept :=
    (Moves.refl ..).run (Mask.of (by decide)) (Mask.of (by decide))
  exact ⟨hkept.state.trans hstate, hkept.status.trans hstatus, hrun.latchKept (by decide) hcause⟩

/-- Whoever is live in a slot's group depends on the slot's group and the group's active page alone. -/
theorem Device.slotLive_congr
    (h : ∀ o, o = .slotGroup ∨ o = .grpDescActive ∨ o = .grpMemberActive → ∀ i, e.get o p i = d.get o p i) :
    e.slotLive p sl = d.slotLive p sl := by
  unfold Device.slotLive Device.liveMembers Device.members Device.member
  simp only [h .slotGroup (by simp), h .grpDescActive (by simp), h .grpMemberActive (by simp)]

/-- A launch for a group without a live member ends at once with status 0x21 (R168). -/
theorem Device.beginLaunch_of_nobody {n : Nat} (h : d.slotLive p sl = []) : ∃ e : Device, d.beginLaunch p sl n = e.failSlot p sl 0x21 ∧
    ∀ o i, o ≠ .slotState → o ≠ .slotStatus → o ≠ .slotStepNow → e.get o p i = d.get o p i := by
  unfold Device.beginLaunch
  extract_lets s t d1 d2 d3
  have hget : ∀ o i, o ≠ .slotState → o ≠ .slotStatus → o ≠ .slotStepNow → d2.get o p i = d.get o p i := fun o i h1 h2 h3 =>
    (Device.get_set_obj _ _ _ _ _ _ _ _ h3).trans ((Device.get_set_obj _ _ _ _ _ _ _ _ h2).trans
      (Device.get_set_obj _ _ _ _ _ _ _ _ h1))
  have hnobody : d2.slotLive p sl = [] := by
    rw [Device.slotLive_congr fun o ho i => hget o i (by rintro rfl; simp at ho) (by rintro rfl; simp at ho) (by rintro rfl; simp at ho)]
    exact h
  exact ⟨d2, if_pos hnobody, hget⟩

/-! #### `slot_cmd` -/

theorem Device.place_slotCmd (d : Device) (p ses : Nat) : d.place ⟨.slotCmd, p, 0⟩ ses = d.sel .slotSel p 0 ses := by
  unfold Device.place
  dsimp only
  rw [if_neg (by decide), if_neg (by simp), show Obj.slotCmd.sels = [.slotSel] from rfl, List.foldl_cons, List.foldl_nil,
    if_neg (by simp), if_neg (by simp), Nat.zero_mul, Nat.zero_add]

theorem Device.cmdReads_slotCmd {ses v : Nat} (h : d.sel .slotSel p 0 ses = sl) :
    d.cmdReads ⟨.slotCmd, p, 0⟩ ses v = d.set .slotCmd p sl v := by
  rw [Device.cmdReads, Device.place_slotCmd, h]

/-- What a slot command does leaves the selector, so that it reads back at the slot it acted on. -/
theorem Device.cmdReads_slotCmd_moved {ses v : Nat} (h : Moves d e objs_slotCmd parts_all) (k : d.sel .slotSel p 0 ses = sl) :
    e.cmdReads ⟨.slotCmd, p, 0⟩ ses v = e.set .slotCmd p sl v :=
  Device.cmdReads_slotCmd ((h.get .slotSel _ _ (by decide)).trans k)

theorem Device.get_set_slotCmd {o : Obj} {v i : Nat} (h : o ≠ .slotCmd) : (d.set .slotCmd p sl v).get o p i = d.get o p i :=
  Device.get_set_obj _ _ _ _ _ _ _ _ h

section
variable {ses : Nat} (hsel : d.sel .slotSel p 0 ses = sl)
include hsel

theorem Device.slotCmd_load_shows : (d.slotCmd p ses 1).get .slotCmd p sl = (if d.loadOk p sl then 2 else 3) ∧
    (d.slotCmd p ses 1).get .slotState p sl = (if d.loadOk p sl then 1 else d.get .slotState p sl) ∧
    (d.loadOk p sl = true → (d.slotCmd p ses 1).slot p sl = {}) := by
  have hloaded : Moves d ((d.setSlot p sl {}).set .slotState p sl 1) objs_slotCmd parts_all :=
    ((Moves.refl ..).setSlot (Mask.of (by decide)) (Mask.of (by decide))).set (by decide) (by decide)
  unfold Device.slotCmd
  dsimp only
  rw [if_pos rfl, Device.place_slotCmd, hsel]
  by_cases hok : d.loadOk p sl = true
  · simp only [if_pos hok, Device.cmdReads_slotCmd_moved hloaded hsel]
    refine ⟨Device.get_set_same _ _ _ _ _, (Device.get_set_slotCmd (by decide)).trans (Device.get_set_same _ _ _ _ _), fun _ => ?_⟩
    exact (Device.slot_setSlot d p sl {} p sl).trans (if_pos ⟨rfl, rfl⟩)
  · simp only [if_neg hok, Device.cmdReads_slotCmd hsel]
    exact ⟨Device.get_set_same _ _ _ _ _, Device.get_set_slotCmd (by decide), fun h => absurd h hok⟩

theorem Device.slotCmd_clear_shows :
    (d.get .slotState p sl = 1 ∨ d.get .slotState p sl = 4 → (d.slotCmd p ses 4).get .slotCmd p sl = 2 ∧
      (d.slotCmd p ses 4).get .slotState p sl = 0 ∧ (d.slotCmd p ses 4).slot p sl = {}) ∧
    (¬ (d.get .slotState p sl = 1 ∨ d.get .slotState p sl = 4) → (d.slotCmd p ses 4).get .slotCmd p sl = 3 ∧
      (d.slotCmd p ses 4).get .slotState p sl = d.get .slotState p sl) := by
  have hcleared : Moves d ((d.setSlot p sl {}).set .slotState p sl 0) objs_slotCmd parts_all :=
    ((Moves.refl ..).setSlot (Mask.of (by decide)) (Mask.of (by decide))).set (by decide) (by decide)
  unfold Device.slotCmd
  dsimp only
  rw [if_neg (by decide), if_neg (by decide), if_neg (by decide), Device.place_slotCmd, hsel,
    Device.cmdReads_slotCmd_moved hcleared hsel, Device.cmdReads_slotCmd hsel]
  simp only [Bool.or_eq_true, decide_eq_true_eq]
  refine ⟨fun hstate => ?_, fun hstate => ?_⟩
  · rw [if_pos hstate]
    refine ⟨Device.get_set_same _ _ _ _ _, (Device.get_set_slotCmd (by decide)).trans (Device.get_set_same _ _ _ _ _), ?_⟩
    exact (Device.slot_setSlot d p sl {} p sl).trans (if_pos ⟨rfl, rfl⟩)
  · rw [if_neg hstate]
    exact ⟨Device.get_set_same _ _ _ _ _, Device.get_set_slotCmd (by decide)⟩

theorem Device.slotCmd_stop_shows :
    (d.get .slotState p sl = 2 ∨ d.get .slotState p sl = 3 → (d.slotCmd p ses 3).get .slotCmd p sl = 2 ∧
      (d.slotCmd p ses 3).get .slotState p sl = 4 ∧ (d.slotCmd p ses 3).get .slotStatus p sl = 4 ∧
      bit ((d.slotCmd p ses 3).get .cause p 4) 1 = true) ∧
    (¬ (d.get .slotState p sl = 2 ∨ d.get .slotState p sl = 3) → (d.slotCmd p ses 3).get .slotCmd p sl = 3 ∧
      (d.slotCmd p ses 3).get .slotState p sl = d.get .slotState p sl) := by
  have hstopped : Moves d ((d.failSlot p sl 4).run p) objs_slotCmd parts_all :=
    ((Moves.refl ..).failSlot (Mask.of (by decide)) (Mask.of (by decide))).run (Mask.of (by decide)) (Mask.of (by decide))
  unfold Device.slotCmd
  dsimp only
  rw [if_neg (by decide), if_neg (by decide), if_pos rfl, Device.place_slotCmd, hsel,
    Device.cmdReads_slotCmd_moved hstopped hsel, Device.cmdReads_slotCmd hsel]
  simp only [Bool.or_eq_true, decide_eq_true_eq]
  refine ⟨fun hstate => ?_, fun hstate => ?_⟩
  · obtain ⟨hfailed, hstatus, hcause⟩ := Device.failSlot_run_shows d p sl 4
    rw [if_pos hstate]
    exact ⟨Device.get_set_same _ _ _ _ _, (Device.get_set_slotCmd (by decide)).trans hfailed,
      (Device.get_set_slotCmd (by decide)).trans hstatus, by rw [Device.get_set_slotCmd (by decide)]; exact hcause⟩
  · rw [if_neg hstate]
    exact ⟨Device.get_set_same _ _ _ _ _, Device.get_set_slotCmd (by decide)⟩

end

/-! #### Launches (R168) -/

theorem Device.acceptLaunch_waits {n : Nat} (h : d.get .slotState p sl = 2 ∨ d.get .slotState p sl = 3) : d.acceptLaunch p sl n =
    ((d.set .slotLaunchNo p sl n).bump .seqLaunches p 0).setSlot p sl
      { d.slot p sl with queued := (d.slot p sl).queued + 1 } := by
  have hstate : ((d.set .slotLaunchNo p sl n).bump .seqLaunches p 0).get .slotState p sl = d.get .slotState p sl :=
    (Device.get_bump_obj _ _ _ _ _ _ _ (by decide)).trans (Device.get_set_obj _ _ _ _ _ _ _ _ (by decide))
  have hslot : ((d.set .slotLaunchNo p sl n).bump .seqLaunches p 0).slot p sl = d.slot p sl :=
    Device.slot_congr (quiet_slots.bump (d.set .slotLaunchNo p sl n) .seqLaunches p 0) p sl
  unfold Device.acceptLaunch
  dsimp only
  rw [hstate, hslot, if_pos (by simpa using h)]

/-- A launch that starts for a group without a live member fails the slot, whose launch number it is all the same. -/
theorem Device.acceptLaunch_of_nobody {n : Nat} (h : d.Inactive p sl) (hnobody : d.slotLive p sl = []) (hn : n < 2 ^ 64) :
    (d.acceptLaunch p sl n).get .slotLaunchNo p sl = n ∧ (d.acceptLaunch p sl n).get .slotState p sl = 4 ∧
      (d.acceptLaunch p sl n).get .slotStatus p sl = 0x21 := by
  have hget : ∀ o i, o ≠ .slotLaunchNo → o ≠ .seqLaunches →
      ((d.set .slotLaunchNo p sl n).bump .seqLaunches p 0).get o p i = d.get o p i := fun o i h1 h2 =>
    (Device.get_bump_obj _ _ _ _ _ _ _ h2).trans (Device.get_set_obj _ _ _ _ _ _ _ _ h1)
  have hnumber : ((d.set .slotLaunchNo p sl n).bump .seqLaunches p 0).get .slotLaunchNo p sl = n :=
    (Device.get_bump_obj _ _ _ _ _ _ _ (by decide)).trans (Device.get_set_lt _ _ _ _ _ hn)
  have hlive : ((d.set .slotLaunchNo p sl n).bump .seqLaunches p 0).slotLive p sl = [] :=
    (Device.slotLive_congr fun o ho i => hget o i (by rintro rfl; simp at ho) (by rintro rfl; simp at ho)).trans hnobody
  unfold Device.acceptLaunch
  dsimp only
  rw [hget .slotState sl (by decide) (by decide), if_neg (by simpa [Device.Inactive] using h)]
  obtain ⟨f, hfails, hf⟩ := Device.beginLaunch_of_nobody (n := n) hlive
  rw [hfails]
  obtain ⟨hstate, hstatus, -⟩ := Device.failSlot_run_shows f p sl 0x21
  have hrun : Moves f ((f.failSlot p sl 0x21).run p) objs_run parts_all :=
    ((Moves.refl ..).failSlot (Mask.of (by decide)) (Mask.of (by decide))).run (Mask.of (by decide)) (Mask.of (by decide))
  refine ⟨?_, hstate, hstatus⟩
  rw [hrun.get .slotLaunchNo p sl (by decide), hf .slotLaunchNo sl (by decide) (by decide) (by decide), hnumber]

section
variable {ses : Nat} (hsel : d.sel .slotSel p 0 ses = sl)
include hsel

/-- A launch that is refused beyond what the slot takes is counted, and reads 0x03. -/
theorem Device.slotCmd_launch_refused (hstate : d.get .slotState p sl ≠ 0) (h : d.get .slotLaunchNo p sl = 2 ^ 64 - 1 ∨
    ((d.get .slotState p sl = 2 ∨ d.get .slotState p sl = 3) ∧ 15 ≤ (d.slot p sl).queued)) :
    d.slotCmd p ses 2 = (d.bump .launchRefused p 0).set .slotCmd p sl 3 := by
  have hcounted : Moves d (d.bump .launchRefused p 0) objs_slotCmd parts_all := (Moves.refl ..).bump (by decide) (by decide) (by decide)
  unfold Device.slotCmd
  dsimp only
  rw [if_neg (by decide), if_pos rfl, Device.place_slotCmd, hsel, if_neg hstate, if_pos (by simpa using h),
    Device.cmdReads_slotCmd_moved hcounted hsel]

/-- A launch that the slot takes has the next number. -/
theorem Device.slotCmd_launch_taken (hstate : d.get .slotState p sl ≠ 0) (hlast : d.get .slotLaunchNo p sl < 2 ^ 64 - 1)
    (h : d.get .slotState p sl = 2 ∨ d.get .slotState p sl = 3 → (d.slot p sl).queued < 15) :
    d.slotCmd p ses 2 = (d.acceptLaunch p sl (d.get .slotLaunchNo p sl + 1)).set .slotCmd p sl 2 := by
  have haccepted : Moves d (d.acceptLaunch p sl (d.get .slotLaunchNo p sl + 1)) objs_slotCmd parts_all :=
    (Moves.refl ..).acceptLaunch (Mask.of (by decide)) (Mask.of (by decide))
  have htaken : ¬ (d.get .slotLaunchNo p sl = 2 ^ 64 - 1 ∨
      ((d.get .slotState p sl = 2 ∨ d.get .slotState p sl = 3) ∧ 15 ≤ (d.slot p sl).queued)) := by
    rintro (hmax | ⟨hruns, hfull⟩)
    · omega
    · have := h hruns
      omega
  unfold Device.slotCmd
  dsimp only
  rw [if_neg (by decide), if_pos rfl, Device.place_slotCmd, hsel, if_neg hstate, if_neg (by simpa using htaken),
    Device.cmdReads_slotCmd_moved haccepted hsel]

theorem Device.slotCmd_launch_empty (hstate : d.get .slotState p sl = 0) : d.slotCmd p ses 2 = d.set .slotCmd p sl 3 := by
  unfold Device.slotCmd
  dsimp only
  rw [if_neg (by decide), if_pos rfl, Device.place_slotCmd, hsel, if_pos hstate, Device.cmdReads_slotCmd hsel]

theorem Device.slotCmd_launch_shows :
    (d.get .slotState p sl = 0 → (d.slotCmd p ses 2).get .slotCmd p sl = 3 ∧
      (d.slotCmd p ses 2).get .slotLaunchNo p sl = d.get .slotLaunchNo p sl) ∧
    (d.get .slotState p sl ≠ 0 → d.get .slotLaunchNo p sl = 2 ^ 64 - 1 ∨
        ((d.get .slotState p sl = 2 ∨ d.get .slotState p sl = 3) ∧ 15 ≤ (d.slot p sl).queued) →
      (d.slotCmd p ses 2).get .slotCmd p sl = 3 ∧ (d.slotCmd p ses 2).get .slotLaunchNo p sl = d.get .slotLaunchNo p sl ∧
      (d.slotCmd p ses 2).get .launchRefused p 0 = min (d.get .launchRefused p 0 + 1) (2 ^ 32 - 1)) ∧
    (d.get .slotState p sl = 2 ∨ d.get .slotState p sl = 3 → d.get .slotLaunchNo p sl < 2 ^ 64 - 1 → (d.slot p sl).queued < 15 →
      (d.slotCmd p ses 2).get .slotCmd p sl = 2 ∧ (d.slotCmd p ses 2).get .slotLaunchNo p sl = d.get .slotLaunchNo p sl + 1 ∧
      (d.slotCmd p ses 2).get .seqLaunches p 0 = (d.get .seqLaunches p 0 + 1) % 2 ^ 64 ∧
      (d.slotCmd p ses 2).slot p sl = { d.slot p sl with queued := (d.slot p sl).queued + 1 }) ∧
    (d.get .slotState p sl = 1 ∨ d.get .slotState p sl = 4 → d.get .slotLaunchNo p sl < 2 ^ 64 - 1 → d.slotLive p sl = [] →
      (d.slotCmd p ses 2).get .slotCmd p sl = 2 ∧ (d.slotCmd p ses 2).get .slotLaunchNo p sl = d.get .slotLaunchNo p sl + 1 ∧
      (d.slotCmd p ses 2).get .slotState p sl = 4 ∧ (d.slotCmd p ses 2).get .slotStatus p sl = 0x21) := by
  refine ⟨fun hstate => ?empty, fun hstate hrefused => ?refused, fun hruns hlast hroom => ?waits, fun hready hlast hnobody => ?starts⟩
  case empty =>
    rw [Device.slotCmd_launch_empty hsel hstate]
    exact ⟨Device.get_set_same _ _ _ _ _, Device.get_set_slotCmd (by decide)⟩
  case refused =>
    rw [Device.slotCmd_launch_refused hsel hstate hrefused]
    exact ⟨Device.get_set_same _ _ _ _ _,
      (Device.get_set_slotCmd (by decide)).trans (Device.get_bump_obj _ _ _ _ _ _ _ (by decide)),
      (Device.get_set_slotCmd (by decide)).trans (Device.get_count_narrow d .launchRefused p 0 1 (by decide))⟩
  case waits =>
    rw [Device.slotCmd_launch_taken hsel (by omega) hlast (fun _ => hroom), Device.acceptLaunch_waits hruns]
    refine ⟨Device.get_set_same _ _ _ _ _, (Device.get_set_slotCmd (by decide)).trans ?_, (Device.get_set_slotCmd (by decide)).trans ?_,
      ?_⟩
    · exact (Device.get_bump_obj _ _ _ _ _ _ _ (by decide)).trans (Device.get_set_lt _ _ _ _ _
        (show d.get .slotLaunchNo p sl + 1 < 2 ^ 64 by omega))
    · refine (Device.get_count_wide _ .seqLaunches p 0 1 (by decide)).trans ?_
      rw [Device.get_set_obj _ _ _ _ _ _ _ _ (by decide)]
    · rw [Device.slot_set, Device.slot_setSlot, if_pos ⟨rfl, rfl⟩]
  case starts =>
    obtain ⟨hnumber, hfailed, hstatus⟩ := Device.acceptLaunch_of_nobody (n := d.get .slotLaunchNo p sl + 1)
      (by unfold Device.Inactive; omega) hnobody (by omega)
    rw [Device.slotCmd_launch_taken hsel (by omega) hlast (by omega)]
    exact ⟨Device.get_set_same _ _ _ _ _, (Device.get_set_slotCmd (by decide)).trans hnumber,
      (Device.get_set_slotCmd (by decide)).trans hfailed, (Device.get_set_slotCmd (by decide)).trans hstatus⟩

end
end

/-! #### The four commands -/

theorem exec_slotLoad (p : Plane) {rq : Req} {s : State} (h : s.dev.admits rq ⟨⟨.slotCmd, p, 0⟩, 1, 1⟩ = true) :
    exec (.slotLoad p rq) s = .next { s with dev :=
      (((s.dev.fmMessage rq.ses.val).slotCmd p rq.ses.val 1).respond rq (statusResp rq 0)).settle } := by
  show execSlotLoad p rq s = _
  exact State.run_next (Device.command_admitted s.dev rq _ _ _ h)

theorem exec_slotLaunch (p : Plane) {rq : Req} {s : State} (h : s.dev.admits rq ⟨⟨.slotCmd, p, 0⟩, 1, 2⟩ = true) :
    exec (.slotLaunch p rq) s = .next { s with dev :=
      (((s.dev.fmMessage rq.ses.val).slotCmd p rq.ses.val 2).respond rq (statusResp rq 0)).settle } := by
  show execSlotLaunch p rq s = _
  exact State.run_next (Device.command_admitted s.dev rq _ _ _ h)

theorem exec_slotStop (p : Plane) {rq : Req} {s : State} (h : s.dev.admits rq ⟨⟨.slotCmd, p, 0⟩, 1, 3⟩ = true) :
    exec (.slotStop p rq) s = .next { s with dev :=
      (((s.dev.fmMessage rq.ses.val).slotCmd p rq.ses.val 3).respond rq (statusResp rq 0)).settle } := by
  show execSlotStop p rq s = _
  exact State.run_next (Device.command_admitted s.dev rq _ _ _ h)

theorem exec_slotClear (p : Plane) {rq : Req} {s : State} (h : s.dev.admits rq ⟨⟨.slotCmd, p, 0⟩, 1, 4⟩ = true) :
    exec (.slotClear p rq) s = .next { s with dev :=
      (((s.dev.fmMessage rq.ses.val).slotCmd p rq.ses.val 4).respond rq (statusResp rq 0)).settle } := by
  show execSlotClear p rq s = _
  exact State.run_next (Device.command_admitted s.dev rq _ _ _ h)

/-- Settles O27: what `slot_cmd` does on the device after the fault manager's message, one lemma per command; a stopped slot and one
whose launch finds nobody are FAILED, so the run that follows leaves them (`SlotKept.run`). -/
theorem slotCommands : Obligations.SlotCommands := by
  intro s p rq g e sl st last runs
  have hsel : e.sel .slotSel p 0 rq.ses.val = sl :=
    (Device.sel_fmMessage _ _ _ _ _ _ rfl (by decide) (by decide) (by decide)).trans (Device.place_slotCmd ..).symm
  have hst : e.get .slotState p sl = st := Device.get_fmMessage_obj _ _ _ _ _ rfl (by decide) (by decide) (by decide)
  have hlast : e.get .slotLaunchNo p sl = last := Device.get_fmMessage_obj _ _ _ _ _ rfl (by decide) (by decide) (by decide)
  have hcount : ∀ o : Obj, o.computed = false → o ≠ .cause → o ≠ .causeUnit → o ≠ .causeTime → e.get o p 0 = s.dev.get o p 0 :=
    fun o hc h1 h2 h3 => Device.get_fmMessage_obj _ _ _ _ _ hc h1 h2 h3
  have hslot : e.slot p sl = s.dev.slot p sl := Device.slot_fmMessage ..
  have hget : ∀ {f : Device} {o : Obj} {i : Nat}, o.computed = false → o ≠ .ndpRequests → o ≠ .mgmtRefused →
      (f.respond rq (statusResp rq 0)).settle.get o p i = f.get o p i := fun hc h k =>
    Device.get_settle_respond _ rq _ _ _ hc h k
  have hload := Device.slotCmd_load_shows hsel
  have hclear := Device.slotCmd_clear_shows hsel
  have hstop := Device.slotCmd_stop_shows hsel
  have hlaunch := Device.slotCmd_launch_shows hsel
  rw [hst] at hload hclear hstop
  rw [hst, hlast, hslot, hcount .launchRefused rfl (by decide) (by decide) (by decide),
    hcount .seqLaunches rfl (by decide) (by decide) (by decide)] at hlaunch
  refine ⟨fun hadmits => ⟨_, exec_slotLoad p hadmits, rfl, Device.answered_respond _ rq 0, ?_⟩,
    fun hadmits => ⟨_, exec_slotClear p hadmits, rfl, Device.answered_respond _ rq 0, ?_⟩,
    fun hadmits => ⟨_, exec_slotStop p hadmits, rfl, Device.answered_respond _ rq 0, ?_⟩,
    fun hadmits => ⟨_, exec_slotLaunch p hadmits, rfl, Device.answered_respond _ rq 0, ?_⟩⟩
  all_goals
    dsimp only
    simp only [hget (o := .slotCmd) rfl (by decide) (by decide), hget (o := .slotState) rfl (by decide) (by decide),
      hget (o := .slotStatus) rfl (by decide) (by decide), hget (o := .cause) rfl (by decide) (by decide),
      hget (o := .slotLaunchNo) rfl (by decide) (by decide), hget (o := .launchRefused) rfl (by decide) (by decide),
      hget (o := .seqLaunches) rfl (by decide) (by decide), Device.slot_settle_respond]
  · exact hload
  · exact hclear
  · exact hstop
  · exact hlaunch

end Sys2Proof.Machine

/-! ### A context that is aborted for a slot at rest (spec/08 R169, spec/07 R155)

A context that has been aborted waits in ABORTING until it is cleared. While its slot is at rest no run changes it: the other slots
launch, name, release and drop contexts of their own, and results go out only of contexts in ACCUMULATE. -/

namespace Sys2Proof.Machine

theorem Tbl.mem_put {κ β : Type} [DecidableEq κ] [DecidableEq β] {lt : κ → κ → Bool} {t : List (κ × β)} {k : κ} {v z : β}
    {e : κ × β} (h : e ∈ Tbl.put lt t k v z) : e = (k, v) ∨ (e ∈ t ∧ e.1 ≠ k) := by
  have herased : e ∈ Tbl.erase t k → e ∈ t ∧ e.1 ≠ k := fun he => ⟨(List.mem_filter.mp he).1, Tbl.mem_erase_ne t k e he⟩
  unfold Tbl.put at h
  split at h
  · exact .inr (herased h)
  · exact (Tbl.mem_ins _ _ _ _ _ h).imp_right herased

/-- Context x of slot sl is ABORTING with status 0x04 after n restarts, and no record of it names another slot. -/
structure Device.Aborting (d : Device) (p x sl n : Nat) : Prop where
  state : d.ctxState p x = 4
  status : d.get .rctxStatus p x = 4
  slot : (d.rctx p x).slot = sl
  restarts : (d.rctx p x).restarts = n
  records : ∀ e ∈ d.rctxs, e.1 = (p, x) → e.2.slot = sl

/-- Every object but the states and statuses of reduction contexts. -/
def besideCtxRegs : Nat := objs_all ^^^ 2 ^ Obj.rctxState.ctorIdx ^^^ 2 ^ Obj.rctxStatus.ctorIdx

/-- Every part of the device but the records of reduction contexts. -/
def besideCtxs : Nat := parts_all ^^^ 2 ^ Part.rctxs.ctorIdx

namespace Device.Aborting

variable {d e : Device} {p x y sl m n : Nat}

theorem of_beside (h : d.Aborting p x sl n) (k : Moves d e besideCtxRegs besideCtxs) : e.Aborting p x sl n := by
  have hrctxs : e.rctxs = d.rctxs := k.same .rctxs (by decide)
  have hrctx : e.rctx p x = d.rctx p x := by
    unfold Device.rctx
    rw [hrctxs]
  exact ⟨(k.get .rctxState p x (by decide)).trans h.state, (k.get .rctxStatus p x (by decide)).trans h.status,
    (congrArg RctxSt.slot hrctx).trans h.slot, (congrArg RctxSt.restarts hrctx).trans h.restarts, hrctxs ▸ h.records⟩

theorem foldl {α : Type} {g : Device → α → Device} {l : List α}
    (hg : ∀ e, ∀ a ∈ l, e.Aborting p x sl n → (g e a).Aborting p x sl n) (h : d.Aborting p x sl n) : (l.foldl g d).Aborting p x sl n := by
  induction l generalizing d with
  | nil => exact h
  | cons a t ih => exact ih (fun e b hb => hg e b (List.mem_cons_of_mem a hb)) (hg d a List.mem_cons_self h)

theorem ite {c : Prop} [Decidable c] {a b : Device} (ha : a.Aborting p x sl n) (hb : b.Aborting p x sl n) :
    (if c then a else b).Aborting p x sl n := by
  split
  · exact ha
  · exact hb

theorem set_ne {o : Obj} {v : Nat} (hy : y ≠ x) (h : d.Aborting p x sl n) : (d.set o p y v).Aborting p x sl n := by
  have hget : ∀ o', (d.set o p y v).get o' p x = d.get o' p x := fun o' => by
    rw [Device.get_set, if_neg fun hk => hy hk.2.2.symm]
  exact ⟨(hget _).trans h.state, (hget _).trans h.status, h.slot, h.restarts, h.records⟩

theorem setSlot {v : SlotSt} (h : d.Aborting p x sl n) : (d.setSlot p m v).Aborting p x sl n :=
  h.of_beside ((Moves.refl ..).setSlot (Mask.of (by decide)) (Mask.of (by decide)))

theorem bump {o : Obj} {i : Nat} (ho : besideCtxRegs.testBit o.ctorIdx = true) (hc : o ≠ .cause) (h : d.Aborting p x sl n) :
    (d.bump o p i).Aborting p x sl n :=
  h.of_beside ((Moves.refl ..).bump ho hc (by decide))

/-- A record that is written for the context itself keeps its slot and its restarts. -/
theorem setRctx {v : RctxSt} (hv : y = x → v.slot = sl ∧ v.restarts = n) (h : d.Aborting p x sl n) :
    (d.setRctx p y v).Aborting p x sl n := by
  have hrctx : (d.setRctx p y v).rctx p x = if x = y then v else d.rctx p x := by simp [Device.rctx_setRctx]
  refine ⟨h.state, h.status, ?_, ?_, fun e he hk => ?_⟩
  · rw [hrctx]
    split
    · next hxy => exact (hv hxy.symm).1
    · exact h.slot
  · rw [hrctx]
    split
    · next hxy => exact (hv hxy.symm).2
    · exact h.restarts
  · rcases Tbl.mem_put he with rfl | ⟨he, -⟩
    · exact (hv (congrArg Prod.snd hk)).1
    · exact h.records e he hk

theorem setDest {v : Nat} (h : d.Aborting p x sl n) : (d.setRctx p y { d.rctx p y with dest := v }).Aborting p x sl n :=
  h.setRctx fun k => ⟨k ▸ h.slot, k ▸ h.restarts⟩

theorem failCtx {st : Nat} (hy : y ≠ x) (h : d.Aborting p x sl n) : (d.failCtx p y st).Aborting p x sl n := by
  have hreturned : (d.giveBack p y).Aborting p x sl n :=
    h.of_beside ((Moves.refl ..).giveBack (Mask.of (by decide)) (Mask.of (by decide)))
  have hmarked := hreturned.set_ne (o := .rctxStatus) (v := st) hy
  unfold Device.failCtx
  extract_lets d1 d2 c d3
  have hread : d2.Aborting p x sl n := Aborting.ite (hmarked.set_ne hy) hmarked
  clear_value d2
  have hcleared : d3.Aborting p x sl n := hread.setRctx fun k => absurd k hy
  clear_value d3
  exact (hcleared.set_ne hy).of_beside (((Moves.refl ..).bump (by decide) (by decide) (by decide)).causeCollective
    (Mask.of (by decide)) (Mask.of (by decide)))

/-- Only a context that has ended is released. -/
theorem releaseCtx (h : d.Aborting p x sl n) : (d.releaseCtx p y).Aborting p x sl n := by
  unfold Device.releaseCtx
  split
  · next hended =>
    have hy : y ≠ x := fun k => by
      rw [k, h.state] at hended
      exact absurd hended (by decide)
    exact (h.set_ne hy).setRctx fun k => absurd k hy
  · exact h

theorem not_mem_slotCtxs (hm : m ≠ sl) (h : d.Aborting p x sl n) : x ∉ d.slotCtxs p m := by
  unfold Device.slotCtxs
  intro hx
  obtain ⟨e, he, rfl⟩ := List.mem_map.mp hx
  obtain ⟨he, hof⟩ := List.mem_filter.mp he
  simp only [Bool.and_eq_true, decide_eq_true_eq] at hof
  obtain ⟨⟨hplane, hslot⟩, -⟩ := hof
  exact hm (hslot.symm.trans (h.records e he (Prod.ext hplane rfl)))

theorem dropCtxs (hm : m ≠ sl) (h : d.Aborting p x sl n) : (d.dropCtxs p m).Aborting p x sl n := by
  have hnot := h.not_mem_slotCtxs hm
  unfold Device.dropCtxs
  refine foldl (fun e y hy k => ?_) h
  have hne : y ≠ x := fun heq => hnot (heq ▸ hy)
  exact (Aborting.ite (k.failCtx hne) k).releaseCtx

/-- A context is launched only where it is IDLE. -/
theorem launchCtx {desc tn seed step : Nat} (h : d.Aborting p x sl n) :
    (d.launchCtx p y desc tn seed m step).1.Aborting p x sl n := by
  unfold Device.launchCtx
  split
  · exact h.bump (o := .rctxRefused) (by decide) (by decide)
  · next hok =>
    have hy : y ≠ x := fun k => by
      subst k
      simp [Device.descOk, h.state] at hok
    extract_lets c d1 d2 d3 d4
    have htaken : d1.Aborting p x sl n := h.of_beside ((Moves.refl ..).set (by decide) (by decide))
    clear_value d1
    have hnamed : d2.Aborting p x sl n := ((htaken.set_ne hy).set_ne hy).set_ne hy
    clear_value d2
    have hbegun : d3.Aborting p x sl n := (hnamed.set_ne hy).set_ne hy
    clear_value d3
    have hanchored : d4.Aborting p x sl n := ((hbegun.set_ne hy).set_ne hy).set_ne hy
    exact hanchored.setRctx fun k => absurd k hy

theorem restartCtx (hy : y ≠ x) (h : d.Aborting p x sl n) : (d.restartCtx p y).Aborting p x sl n := by
  unfold Device.restartCtx
  extract_lets c d1 d2
  have hraised : d1.Aborting p x sl n :=
    Aborting.ite ((h.set_ne hy).bump (by decide) (by decide)) h
  clear_value d1
  have hagain : d2.Aborting p x sl n := (hraised.set_ne hy).set_ne hy
  exact (hagain.setRctx fun k => absurd k hy).bump (by decide) (by decide)

theorem stepLaunch {i desc : Nat} (hm : m ≠ sl) (h : d.Aborting p x sl n) :
    (d.stepLaunch p m i y desc).1.Aborting p x sl n := by
  unfold Device.stepLaunch
  extract_lets st c e free d1 d2 d3
  split
  · exact h
  split
  · next hown =>
    have hy : y ≠ x := fun k => by
      subst k
      simp only [Bool.and_eq_true, decide_eq_true_eq] at hown
      exact hm (hown.1.2.symm.trans h.slot)
    have hreturned : e.Aborting p x sl n := h.of_beside ((Moves.refl ..).giveBack (Mask.of (by decide)) (Mask.of (by decide)))
    clear_value e
    have hagain : d1.Aborting p x sl n := (hreturned.of_beside ((Moves.refl ..).set (by decide) (by decide))).set_ne hy
    clear_value d1
    have htaken : d2.Aborting p x sl n := hagain.setRctx fun k => absurd k hy
    clear_value d2
    split
    · exact h
    split
    · exact h.bump (o := .rctxRefused) (by decide) (by decide)
    · exact Aborting.ite htaken ((htaken.restartCtx hy).of_beside
        ((Moves.refl ..).ctxNotice (Mask.of (by decide)) (Mask.of (by decide))))
  · have hfreed : d3.Aborting p x sl n := Aborting.ite h.releaseCtx h
    exact hfreed.launchCtx

theorem nameDest {aux : Nat} {remote : Bool} (hnamed : d.nameDest p m y aux remote = some e) (h : d.Aborting p x sl n) :
    e.Aborting p x sl n := by
  have hdest := h.setDest (y := y) (v := if remote then 0x2000 + aux else aux)
  unfold Device.nameDest at hnamed
  dsimp only at hnamed
  split at hnamed
  · exact hdest.of_beside (Moves.fillSet hnamed (Moves.refl ..) (Mask.of (by decide)) (Mask.of (by decide)))
  · exact Option.some.inj hnamed ▸ hdest

/-! #### The moves of other slots -/

theorem leaveStep (h : d.Aborting p x sl n) : (d.leaveStep p m).Aborting p x sl n := by
  unfold Device.leaveStep
  extract_lets i w d1
  have hreleased : d1.Aborting p x sl n := Aborting.ite h.releaseCtx (Aborting.ite h.releaseCtx h)
  exact hreleased.of_beside (((Moves.refl ..).setSlot (Mask.of (by decide)) (Mask.of (by decide))).set (by decide) (by decide))

section
variable (hm : m ≠ sl)
include hm

theorem failSlot {st : Nat} (h : d.Aborting p x sl n) : (d.failSlot p m st).Aborting p x sl n := by
  have hdropped := h.dropCtxs hm
  unfold Device.failSlot
  extract_lets up d1 d2 d3 d4 d5 s d6
  refine hdropped.of_beside (Moves.causeCollective (Moves.setSlot ?_ (Mask.of (by decide)) (Mask.of (by decide)))
    (Mask.of (by decide)) (Mask.of (by decide)))
  refine Moves.foldl (Moves.tellMembers (Moves.set (Moves.set (Moves.foldl (Moves.refl ..) fun _ _ =>
    (Moves.refl ..).cmpEnd (Mask.of (by decide)) (Mask.of (by decide))) (by decide) (by decide)) (by decide) (by decide))
    (Mask.of (by decide)) (Mask.of (by decide))) fun _ _ =>
    (Moves.refl ..).sendMsg (Mask.of (by decide)) (Mask.of (by decide))

theorem beginLaunch {k : Nat} (h : d.Aborting p x sl n) : (d.beginLaunch p m k).Aborting p x sl n := by
  unfold Device.beginLaunch
  extract_lets s t d1 d2 d3
  have hbegun : d2.Aborting p x sl n := h.of_beside (((((Moves.refl ..).setSlot (Mask.of (by decide)) (Mask.of (by decide))).set
    (by decide) (by decide)).set (by decide) (by decide)).set (by decide) (by decide))
  clear_value d2
  have htold : d3.Aborting p x sl n := hbegun.of_beside ((Moves.refl ..).tellMembers (Mask.of (by decide)) (Mask.of (by decide)))
  clear_value d3
  refine Aborting.ite (hbegun.failSlot hm) (htold.of_beside (Moves.foldl (Moves.refl ..) fun e i => ?_))
  exact Moves.ite (fun _ => Moves.getD (.refl ..) fun r hr => Moves.fillSet hr (.refl ..) (Mask.of (by decide)) (Mask.of (by decide)))
    (fun _ => .refl ..)

theorem endLaunch (h : d.Aborting p x sl n) : (d.endLaunch p m).Aborting p x sl n := by
  have hdropped := h.dropCtxs hm
  unfold Device.endLaunch
  extract_lets d1 s d2 d3 d4
  have hdone : d4.Aborting p x sl n := hdropped.of_beside (((((Moves.refl ..).tellMembers (Mask.of (by decide))
    (Mask.of (by decide))).setSlot (Mask.of (by decide)) (Mask.of (by decide))).set (by decide) (by decide)).set (by decide) (by decide))
  clear_value d4
  exact Aborting.ite (h.failSlot hm) (Aborting.ite (hdone.beginLaunch hm) hdone)

theorem countsClose {i aux : Nat} (h : d.Aborting p x sl n) : (d.countsClose p m i aux).Aborting p x sl n := by
  unfold Device.countsClose
  dsimp only
  refine Aborting.ite (h.failSlot hm) (setSlot (h.of_beside ?_))
  exact (Moves.refl ..).countsReplies (Mask.of (by decide)) (Mask.of (by decide))

theorem stepAct (h : d.Aborting p x sl n) : (d.stepAct p m).Aborting p x sl n := by
  unfold Device.stepAct
  extract_lets i w k y live c src d1 orFail own r1 desc again r2 d2 r3 src0 d9 t b desc2 r4 src3
  have hacts : d1.Aborting p x sl n := h.setSlot
  clear_value d1
  have hfails : ∀ r : Device × Bool, r.1.Aborting p x sl n → (orFail r).Aborting p x sl n := fun r hr =>
    Aborting.ite hr (hr.failSlot hm)
  clear_value orFail
  have hreduce : r1.1.Aborting p x sl n := by
    unfold r1
    split
    · exact hacts
    · exact hacts.stepLaunch hm
  clear_value r1
  have hcompress : r2.1.Aborting p x sl n := by
    unfold r2
    split
    · exact hacts.of_beside ((Moves.refl ..).cmpRestart (Mask.of (by decide)) (Mask.of (by decide)))
    · exact hacts.of_beside ((Moves.refl ..).cmpStart (Mask.of (by decide)) (Mask.of (by decide)))
  clear_value r2
  have hlaunched : r3.1.Aborting p x sl n := hcompress.stepLaunch hm
  clear_value r3
  have hcombine : r4.1.Aborting p x sl n := hacts.stepLaunch hm
  clear_value r4
  have hgather : d9.Aborting p x sl n := Aborting.ite hacts.setSlot hacts
  clear_value d9
  refine Aborting.ite (hacts.of_beside ((Moves.refl ..).signalObj (Mask.of (by decide)) (Mask.of (by decide)))) ?_
  refine Aborting.ite (hfails _ (hacts.stepLaunch hm)) ?_
  refine Aborting.ite (Aborting.ite (hreduce.failSlot hm) ?reduce) ?_
  case reduce =>
    split
    · next hnamed => exact hreduce.nameDest hnamed
    · exact hreduce.failSlot hm
  refine Aborting.ite (Aborting.ite (hcompress.failSlot hm) (Aborting.ite (hlaunched.failSlot hm) ?compress)) ?_
  case compress => exact hlaunched.of_beside ((Moves.refl ..).sendMsg (Mask.of (by decide)) (Mask.of (by decide)))
  refine Aborting.ite ?remote ?_
  case remote =>
    split
    · next hnamed => exact hacts.nameDest hnamed
    · exact hacts.failSlot hm
  refine Aborting.ite ?relay ?_
  case relay =>
    split
    · next hfilled => exact hgather.of_beside (Moves.fillSet hfilled (.refl ..) (Mask.of (by decide)) (Mask.of (by decide)))
    · exact hgather.failSlot hm
  refine Aborting.ite hacts.setSlot (Aborting.ite hacts.setSlot (Aborting.ite (Aborting.ite ?refused ?combine) hacts))
  case refused => exact (hacts.bump (by decide) (by decide)).failSlot hm
  case combine => exact Aborting.ite (hcombine.setDest) (hcombine.failSlot hm)

theorem slotMove (hmove : d.slotMove p m = some e) (h : d.Aborting p x sl n) : e.Aborting p x sl n := by
  obtain ⟨-, -, rfl | rfl | ⟨att, rfl⟩ | ⟨i, aux, rfl⟩ | rfl⟩ := Device.slotMove_cases hmove
  · exact h.endLaunch hm
  · exact h.stepAct hm
  · exact h.of_beside ((Moves.refl ..).forwardUp (Mask.of (by decide)) (Mask.of (by decide)))
  · exact h.countsClose hm
  · exact h.leaveStep

end

/-! #### A run -/

theorem sendResults {l : List (Nat × Blk × Bool)} (hy : y ≠ x) (h : d.Aborting p x sl n) :
    (d.sendResults p y l).Aborting p x sl n := by
  unfold Device.sendResults
  extract_lets c r pay g col
  split
  · split
    · exact h.of_beside ((Moves.refl ..).setCctx (Mask.of (by decide)) (Mask.of (by decide)))
    · exact h
  split
  · split
    · split
      · exact (h.setRctx fun k => absurd k hy).of_beside
          ((Moves.refl ..).resultByHeader (Mask.of (by decide)) (Mask.of (by decide)))
      · exact h
    · exact h
  split
  · exact h.of_beside ((Moves.refl ..).resultByHeader (Mask.of (by decide)) (Mask.of (by decide)))
  · exact h.of_beside ((Moves.refl ..).resultToSet (Mask.of (by decide)) (Mask.of (by decide)))

/-- Results go out of contexts in ACCUMULATE. -/
theorem emitResults (h : d.Aborting p x sl n) : (d.emitResults p y).1.Aborting p x sl n := by
  unfold Device.emitResults
  extract_lets c b0 ready res d1 per d2 d3 c'
  split
  · exact h
  next hruns =>
  have hy : y ≠ x := fun k => by
    subst k
    simp [h.state] at hruns
  have hcounted : d1.Aborting p x sl n := h.of_beside ((Moves.refl ..).count (by decide) (by decide) (by decide))
  clear_value d1
  have hsent : d2.Aborting p x sl n := foldl (fun _ _ _ k => k.sendResults hy) hcounted
  clear_value d2
  have hdone : d3.Aborting p x sl n := hsent.of_beside ((Moves.refl ..).set (by decide) (by decide))
  clear_value d3
  split
  · exact ((hdone.of_beside ((Moves.refl ..).giveBack (Mask.of (by decide)) (Mask.of (by decide)))).set_ne hy).setRctx
      fun k => absurd k hy
  · exact hdone

theorem emitReady (h : d.Aborting p x sl n) : (d.emitReady p).Aborting p x sl n := by
  unfold Device.emitReady
  refine foldl (fun e y _ k => ?_) h
  exact Aborting.ite (k.emitResults.of_beside ((Moves.refl ..).cmpCommit (Mask.of (by decide)) (Mask.of (by decide)))) k.emitResults

theorem turn (hswitch : d.noSwitch p = true) (h : d.Aborting p x sl n) : (d.turn p).Aborting p x sl n := by
  rw [Device.turn_of_noSwitch hswitch]
  exact h.emitReady.of_beside ((Moves.refl ..).fireNotifies (Mask.of (by decide)) (Mask.of (by decide)))

theorem runSlots {fuel : Nat} (hswitch : d.noSwitch p = true) (hstate : d.get .slotState p sl ≠ 2) (h : d.Aborting p x sl n) :
    (d.runSlots p fuel).Aborting p x sl n := by
  induction fuel generalizing d with
  | zero => exact h
  | succ fuel ih =>
    have hkept := SlotKept.turn (Device.rests_of_noSwitch hswitch hstate)
    have hnone : (d.turn p).get .slotState p sl ≠ 2 := by
      rw [hkept.state]
      exact hstate
    cases hmove : (d.turn p).nextMove p with
    | none =>
      rw [Device.runSlots_of_none hmove]
      exact h.turn hswitch
    | some e =>
      rw [Device.runSlots_of_move hmove]
      obtain ⟨m, -, hmoved⟩ := List.exists_of_findSome?_eq_some hmove
      have hm : m ≠ sl := fun heq => hnone (heq ▸ (Device.slotMove_cases hmoved).1)
      refine ih ?_ ?_ ((h.turn hswitch).slotMove hm hmoved)
      · rw [Device.noSwitch_congr (Device.switches_slotMove hmoved)]
        exact Device.noSwitch_turn hswitch
      · rw [(SlotKept.slotMove hm hmoved).state]
        exact hnone

/-- A run leaves a context that is being aborted for a slot at rest as it is. -/
theorem run (hswitch : d.noSwitch p = true) (hstate : d.get .slotState p sl ≠ 2) (h : d.Aborting p x sl n) :
    (d.run p).Aborting p x sl n := by
  unfold Device.run
  exact h.runSlots hswitch hstate

end Device.Aborting
end Sys2Proof.Machine

/-! ### Messages of other devices at a slot (spec/08 R165, R169, R180, R182) -/

namespace Sys2Proof.Machine

/-! #### What a run does nothing to -/

section
variable {d : Device} {p : Nat}

theorem Device.emitReady_of_still (h : d.still p = true) : d.emitReady p = d := by
  have hnone : d.rctxs.filter (fun e => e.1.1 = p && e.2.dest ≠ 0xFFFF && d.ctxState p e.1.2 = 2) = [] := by
    simp only [Device.still, Bool.and_eq_true, List.all_eq_true] at h
    obtain ⟨⟨-, hctxs⟩, -⟩ := h
    refine List.filter_eq_nil_iff.mpr fun e he => ?_
    have := hctxs e he
    simp only [Bool.or_eq_true, decide_eq_true_eq] at this
    simp only [Bool.and_eq_true, decide_eq_true_eq]
    tauto
  unfold Device.emitReady
  rw [hnone]
  rfl

theorem Device.fireNotifies_of_still (h : d.still p = true) : d.fireNotifies p = d := by
  have hdue : ∀ n ∈ d.notifies, (decide (n.plane = p) && decide (n.value ≤ d.syncVal p n.obj)) = false := by
    simp only [Device.still, Bool.and_eq_true, List.all_eq_true] at h
    obtain ⟨-, hnotifies⟩ := h
    intro n hn
    have := hnotifies n hn
    simp only [Bool.or_eq_true, decide_eq_true_eq] at this
    simp only [Bool.and_eq_false_iff, decide_eq_false_iff_not]
    omega
  have hnone : d.notifies.filter (fun n => decide (n.plane = p) && decide (n.value ≤ d.syncVal p n.obj)) = [] :=
    List.filter_eq_nil_iff.mpr fun n hn => by simp [hdue n hn]
  have hall : d.notifies.filter (fun n => !(decide (n.plane = p) && decide (n.value ≤ d.syncVal p n.obj))) = d.notifies :=
    List.filter_eq_self.mpr fun n hn => by simp [hdue n hn]
  unfold Device.fireNotifies
  rw [hnone, hall]
  rfl

/-- A plane that is still and has no group to switch stays as it is. -/
theorem Device.run_of_still (hswitch : d.noSwitch p = true) (h : d.still p = true) : d.run p = d := by
  have hturn : d.turn p = d := by
    rw [Device.turn_of_noSwitch hswitch, Device.emitReady_of_still h, Device.fireNotifies_of_still h]
  have hnone : (d.turn p).nextMove p = none := by
    simp only [Device.still, Bool.and_eq_true, List.all_eq_true] at h
    obtain ⟨⟨⟨-, hslots⟩, -⟩, -⟩ := h
    rw [hturn]
    exact List.findSome?_eq_none_iff.mpr fun sl hsl => Option.isNone_iff_eq_none.mp (hslots sl hsl)
  unfold Device.run
  rw [Device.runSlots_of_none hnone, hturn]

/-! #### A message is taken in -/

/-- Taking a frame in removes it from the inbox and does nothing else. -/
theorem Device.takeIn_eq (d : Device) (p u : Nat) (f : Sys2Proof.Frame) : ∃ l, d.takeIn p u f = { d with inbox := l } := by
  unfold Device.takeIn
  split
  · exact ⟨_, rfl⟩
  · exact ⟨d.inbox, rfl⟩

/-- Whether a slot has a move to make depends on what it reads alone. -/
theorem Device.slotMove_isNone_congr {e : Device} {sl : Nat} (hget : ∀ o, e.get o p sl = d.get o p sl)
    (hslot : e.slot p sl = d.slot p sl) (hmark : e.reformMark p sl = d.reformMark p sl)
    (hword : ∀ i, e.stepWord p sl i = d.stepWord p sl i) (hlive : e.slotLive p sl = d.slotLive p sl)
    (hdone : e.stepDone p sl = d.stepDone p sl) : (e.slotMove p sl).isNone = (d.slotMove p sl).isNone := by
  unfold Device.slotMove
  simp only [hget, hslot, hmark, hword, hlive, hdone]
  split
  · rfl
  split
  · exact Option.isNone_some.trans Option.isNone_some.symm
  split
  · exact Option.isNone_some.trans Option.isNone_some.symm
  split
  · exact Option.isNone_some.trans Option.isNone_some.symm
  split
  · exact Option.isNone_some.trans Option.isNone_some.symm
  split
  · exact Option.isNone_some.trans Option.isNone_some.symm
  · rfl

theorem Device.still_inbox (d : Device) (l : List (Nat × Nat × Nat × Sys2Proof.Frame)) (p : Nat) :
    ({ d with inbox := l } : Device).still p = d.still p := by
  have hmoves : ∀ sl, (({ d with inbox := l } : Device).slotMove p sl).isNone = (d.slotMove p sl).isNone := fun sl =>
    Device.slotMove_isNone_congr (fun _ => rfl) rfl rfl (fun _ => rfl) rfl rfl
  unfold Device.still
  simp only [hmoves]
  rfl

/-- A message that passes the checks of Table 8.6 is applied at its slot. -/
theorem Device.seqIn_of_heeds {f : Sys2Proof.Frame} (h : d.heeds p f = true)
    (htyp : [1, 2, 3, 4, 0x81, 0x82, 0x83, 0x84, 0x85, 0x86, 0x87, 0x88].contains (msgOf f).typ = true) :
    d.seqIn p f = d.applyMsg p f.context f (msgOf f) := by
  unfold Device.heeds at h
  simp only [Bool.and_eq_true, Bool.not_eq_true', decide_eq_true_eq] at h
  obtain ⟨⟨⟨⟨⟨⟨⟨hruns, hslot⟩, hstate⟩, hbad⟩, htenant⟩, hsender⟩, hgen⟩, hrange⟩ := h
  unfold Device.seqIn
  dsimp only
  rw [hruns]
  simp only [Bool.false_and, Bool.false_eq_true, if_false]
  unfold Device.seqMessage
  dsimp only
  rw [if_neg (by simp only [hbad, htyp, Nat.not_lt.mpr hslot, hstate]; simp), if_neg (not_not_intro htenant),
    if_neg (by rw [hsender]; decide),
    if_neg (by simpa [or_iff_not_imp_left] using hgen), if_neg (by simpa [or_iff_not_imp_left] using hrange)]

/-! #### ABORT_CTX (R169) -/

variable {x : Nat}

/-- The abort that another device sends for a running context that may still restart. -/
theorem Device.abortCtx_restarts (hruns : d.ctxRuns p x = true) (hroom : (d.rctx p x).restarts < 255) :
    (d.abortCtx p x 4 0).2 = .restarts ∧
    (d.abortCtx p x 4 0).1.Aborting p x (d.rctx p x).slot ((d.rctx p x).restarts + 1) ∧
    ((d.abortCtx p x 4 0).1.rctx p x).step = (d.rctx p x).step := by
  unfold Device.abortCtx
  extract_lets c fault next e keep
  have hfault : fault = false := by decide
  rw [if_neg (by simp [hruns]), if_neg (by simp), if_neg (by simp [hfault, c]; omega)]
  have hstate : e.ctxState p x = 4 := (Device.get_set_obj _ _ _ _ _ _ _ _ (by decide)).trans (Device.get_set_same _ _ _ _ _)
  have hstatus : e.get .rctxStatus p x = 4 := (Device.get_set_obj _ _ _ _ _ _ _ _ (by decide)).trans
    ((Device.get_set_obj _ _ _ _ _ _ _ _ (by decide)).trans (Device.get_set_same _ _ _ _ _))
  refine ⟨rfl, ⟨hstate, hstatus, ?_, ?_, fun r hr hk => ?_⟩, ?_⟩
  · simp [Device.rctx_setRctx, c]
  · simp [Device.rctx_setRctx, c]
  · rcases Tbl.mem_put hr with rfl | ⟨-, hne⟩
    · rfl
    · exact absurd hk hne
  · simp [Device.rctx_setRctx, c]

@[simp] theorem Device.switches_abortCtx {st hold : Nat} : (d.abortCtx p x st hold).1.switches = d.switches := by
  unfold Device.abortCtx
  split
  · rfl
  dsimp only
  split
  · simp
  split
  · simp
  · simp

@[simp] theorem Device.switches_passAbort {sender : Option Nat} : (d.passAbort p x sender).switches = d.switches := by
  unfold Device.passAbort
  extract_lets c sl s told w
  have htold : told.switches = d.switches := by
    unfold told
    split
    · simp [apply_ite Device.switches]
    · rfl
  clear_value told
  split
  · split
    · exact Device.switches_sendMsg.trans htold
    · exact Device.switches_sendMsg.trans htold
  · exact htold

@[simp] theorem Device.switches_rewind {sl i st : Nat} {acted : Bool} : (d.rewind p sl i st acted).switches = d.switches := by
  simp [Device.rewind]

@[simp] theorem Device.switches_ctxRestarts {sender : Option Nat} : (d.ctxRestarts p x sender).switches = d.switches := by
  unfold Device.ctxRestarts
  extract_lets c sl told src freed back
  have htold : told.switches = d.switches := Device.switches_passAbort
  clear_value told
  have hback : back.switches = d.switches := Device.switches_cmpRestart.trans htold
  clear_value back
  split
  · exact htold
  split
  · split
    · have haborted : ∀ y, (if back.ctxRuns p y then back.abortCtx p y 4 0 else (back, .none)).1.switches = d.switches := fun y => by
        simp [apply_ite Prod.fst, apply_ite Device.switches, hback]
      dsimp only
      split
      · exact Device.switches_failSlot.trans (Device.switches_releaseCtx.trans (haborted _))
      · exact Device.switches_rewind.trans (haborted _)
    · exact Device.switches_rewind.trans hback
  · exact Device.switches_rewind.trans htold

/-- Where a slot stands that a restart has put back. -/
theorem Device.rewind_shows (d : Device) (p sl i st : Nat) (acted : Bool) :
    (d.rewind p sl i st acted).get .slotState p sl = st % 2 ^ Obj.slotState.width ∧
    (d.rewind p sl i st acted).get .slotStepNow p sl = i % 256 := by
  unfold Device.rewind
  extract_lets s e
  exact ⟨Device.get_set_same _ _ _ _ _, (Device.get_set_obj _ _ _ _ _ _ _ _ (by decide)).trans (Device.get_set_same _ _ _ _ _)⟩

/-- A context that restarts takes its slot, where that is active, back to the context's step (R169). -/
theorem Device.ctxRestarts_shows {sender : Option Nat} {sl n : Nat} (h : d.Aborting p x sl n)
    (hkind : stKind (d.stepWord p sl (d.rctx p x).step) ≠ 6) :
    (d.ctxRestarts p x sender).Aborting p x sl n ∧ (d.ctxRestarts p x sender).get .slotState p sl ≠ 2 ∧
    (d.get .slotState p sl = 2 ∨ d.get .slotState p sl = 3 → (d.ctxRestarts p x sender).get .slotState p sl = 3 ∧
      (d.ctxRestarts p x sender).get .slotStepNow p sl = (d.rctx p x).step % 256) := by
  have hslot := h.slot
  unfold Device.ctxRestarts
  extract_lets c m e
  have hm : m = sl := hslot
  clear_value m
  subst hm
  have hpassed : Moves d e objs_passAbort parts_passAbort := (Moves.refl ..).passAbort (Mask.of (by decide)) (Mask.of (by decide))
  have hwaits : e.Aborting p x m n := h.of_beside (hpassed.mono (Mask.of (by decide)) (Mask.of (by decide)))
  have hstate : e.get .slotState p m = d.get .slotState p m := hpassed.get .slotState p m (by decide)
  have hword : e.stepWord p m c.step = d.stepWord p m c.step := hpassed.get .slotStep p _ (by decide)
  clear_value e
  dsimp only
  split
  · next hidle =>
    simp only [Bool.and_eq_true, decide_eq_true_eq, hstate] at hidle
    exact ⟨hwaits, by rw [hstate]; exact hidle.1, fun hactive => by omega⟩
  · rw [if_neg (by rw [hword]; exact hkind)]
    obtain ⟨hrewinds, hstep⟩ := Device.rewind_shows e p m c.step 3 true
    have hthree : (e.rewind p m c.step 3 true).get .slotState p m = 3 := hrewinds
    refine ⟨hwaits.of_beside ?_, by rw [hthree]; decide, fun _ => ⟨hthree, hstep⟩⟩
    exact (Moves.refl ..).rewind (Mask.of (by decide)) (Mask.of (by decide))

/-- An abort that another device sends for a running context: the context waits in ABORTING, and its slot, where that is active, in
REWINDING at the context's step. -/
theorem Device.abortAnd_shows {sender : Option Nat} {sl : Nat} (hswitch : d.noSwitch p = true) (hslot : (d.rctx p x).slot = sl)
    (hruns : d.ctxRuns p x = true) (hroom : (d.rctx p x).restarts < 255)
    (hkind : stKind (d.stepWord p sl (d.rctx p x).step) ≠ 6) :
    (d.abortAnd p x 4 sender).Aborting p x sl ((d.rctx p x).restarts + 1) ∧
    (d.get .slotState p sl = 2 ∨ d.get .slotState p sl = 3 → (d.abortAnd p x 4 sender).get .slotState p sl = 3 ∧
      (d.abortAnd p x 4 sender).get .slotStepNow p sl = (d.rctx p x).step % 256) := by
  obtain ⟨hevent, haborted, hstep⟩ := Device.abortCtx_restarts hruns hroom
  rw [hslot] at haborted
  have hmoves : Moves d (d.abortCtx p x 4 0).1 objs_abortCtx parts_abortCtx :=
    (Moves.refl ..).abortCtx (Mask.of (by decide)) (Mask.of (by decide))
  unfold Device.abortAnd
  extract_lets r
  rw [show r.2 = .restarts from hevent, if_neg (by decide)]
  unfold Device.ctxEvent
  have hword : ∀ i, r.1.stepWord p sl i = d.stepWord p sl i := fun i => hmoves.get .slotStep p _ (by decide)
  have hstate : r.1.get .slotState p sl = d.get .slotState p sl := hmoves.get .slotState p sl (by decide)
  obtain ⟨hwaits, hnotRunning, hrewinds⟩ := Device.ctxRestarts_shows (sender := sender) haborted
    (by rw [hstep, show (d.abortCtx p x 4 0).1.stepWord p sl _ = _ from hword _]; exact hkind)
  have hnone : (r.1.ctxRestarts p x sender).noSwitch p = true := by
    rw [Device.noSwitch_congr (Device.switches_ctxRestarts.trans Device.switches_abortCtx)]
    exact hswitch
  have hkept := SlotKept.run (Device.rests_of_noSwitch hnone hnotRunning)
  refine ⟨hwaits.run hnone hnotRunning, fun hactive => ?_⟩
  obtain ⟨hthree, hback⟩ := hrewinds (hstate.symm ▸ hactive)
  exact ⟨hkept.state.trans hthree, hkept.step.trans (hback.trans (by rw [hstep]))⟩

/-! #### REPORT, CONTRIBUTE, XREADY and FAILED (R165, R180, R182) -/

theorem stepAtt_noteAtt (l : List (Nat × Nat)) (i att : Nat) : stepAtt (noteAtt l i att) i = some att := by
  simp [stepAtt, noteAtt]

theorem stepAtt_filter_ne (l : List (Nat × Nat)) (i : Nat) : stepAtt (l.filter (fun e => e.1 ≠ i)) i = none := by
  simp [stepAtt]

/-- A slot that does not run holds a record that is written for it through the run that follows. -/
theorem Device.setSlot_run (d : Device) (p sl : Nat) (v : SlotSt) (hswitch : d.noSwitch p = true) (hstate : d.get .slotState p sl ≠ 2) :
    ((d.setSlot p sl v).run p).slot p sl = v ∧ ((d.setSlot p sl v).run p).get .slotStepNow p sl = d.get .slotStepNow p sl := by
  have hrests : (d.setSlot p sl v).Rests p sl := Device.rests_of_noSwitch hswitch hstate
  have hkept := SlotKept.run hrests
  exact ⟨hkept.slot.trans ((Device.slot_setSlot _ _ _ _ _ _).trans (if_pos ⟨rfl, rfl⟩)), hkept.step⟩

/-- A REPORT for a FORWARD_UP step that has sent no bound report yet is only noted. -/
theorem Device.upperReport_of_unsent {sl i att : Nat} (h : stepAtt (d.slot p sl).upSent i = none) :
    d.upperReport p sl i att = d.setSlot p sl { d.slot p sl with
      upReports := noteAtt (d.slot p sl).upReports i att
      upContributes := if stepAtt (d.slot p sl).upReports i ≠ some att then (d.slot p sl).upContributes.filter (fun e => e.1 ≠ i)
        else (d.slot p sl).upContributes } := by
  unfold Device.upperReport
  extract_lets s active fresh e
  rw [if_pos (by simp [s, h])]

/-- A CONTRIBUTE is noted after the REPORT of its ATTEMPT alone. -/
theorem Device.upperContribute_one {sl dev uctx i att : Nat} (h : d.upSteps p sl dev uctx = [i]) :
    d.upperContribute p sl dev uctx att = if stepAtt (d.slot p sl).upReports i = some att then
      d.setSlot p sl { d.slot p sl with upContributes := noteAtt (d.slot p sl).upContributes i att } else d := by
  unfold Device.upperContribute
  rw [h]
  rfl

end

/-! #### The messages of O29 -/

section
variable {d : Device} {p : Nat} {f : Sys2Proof.Frame} (hheeds : d.heeds p f = true) (hswitch : d.noSwitch p = true)
include hheeds

theorem Device.seqIn_abort (htyp : (msgOf f).typ = 4) : d.seqIn p f =
    if (msgOf f).arg ≤ 0x7FF ∧ (d.rctx p (msgOf f).arg).slot = f.context ∧ d.ctxState p (msgOf f).arg ≠ 0 then
      d.abortAnd p (msgOf f).arg 4 (some f.srcDevice) else d := by
  rw [Device.seqIn_of_heeds hheeds (by rw [htyp]; rfl)]
  unfold Device.applyMsg
  simp [htyp, and_assoc]

theorem Device.seqIn_report (htyp : (msgOf f).typ = 0x82) : d.seqIn p f =
    ((d.upSteps p f.context f.srcDevice (msgOf f).arg).foldl (fun d i => d.upperReport p f.context i (msgOf f).attempt) d).run p := by
  rw [Device.seqIn_of_heeds hheeds (by rw [htyp]; rfl)]
  unfold Device.applyMsg
  simp [htyp]

theorem Device.seqIn_contribute (htyp : (msgOf f).typ = 0x83) : d.seqIn p f =
    (d.upperContribute p f.context f.srcDevice (msgOf f).arg (msgOf f).attempt).run p := by
  rw [Device.seqIn_of_heeds hheeds (by rw [htyp]; rfl)]
  unfold Device.applyMsg
  simp [htyp]

theorem Device.seqIn_xready (htyp : (msgOf f).typ = 0x87) (hnamed : d.namedBy p f.context 6 f.srcDevice = true) : d.seqIn p f =
    (d.setSlot p f.context { d.slot p f.context with xready := some ((msgOf f).arg, (msgOf f).attempt) }).run p := by
  rw [Device.seqIn_of_heeds hheeds (by rw [htyp]; rfl)]
  unfold Device.applyMsg
  simp [htyp, hnamed]

theorem Device.seqIn_failed (htyp : (msgOf f).typ = 0x85) : d.seqIn p f =
    if (d.get .slotState p f.context = 2 ∨ d.get .slotState p f.context = 3) ∧
        (d.namedBy p f.context 5 f.srcDevice = true ∨ d.namedBy p f.context 6 f.srcDevice = true) then
      (d.failSlot p f.context 0x25).run p else d := by
  rw [Device.seqIn_of_heeds hheeds (by rw [htyp]; rfl)]
  unfold Device.applyMsg
  simp [htyp]

include hswitch

/-- An abort by another device acts on a running context of the slot, and on nothing else. -/
theorem Device.abort_shows (htyp : (msgOf f).typ = 4) :
    (2048 ≤ (msgOf f).arg ∨ (d.rctx p (msgOf f).arg).slot ≠ f.context ∨ d.ctxState p (msgOf f).arg = 0 → d.seqIn p f = d) ∧
    ((msgOf f).arg ≤ 2047 → (d.rctx p (msgOf f).arg).slot = f.context → d.ctxRuns p (msgOf f).arg = true →
      (d.rctx p (msgOf f).arg).restarts < 255 →
      stKind (d.stepWord p f.context (d.rctx p (msgOf f).arg).step) ≠ 6 →
      (d.seqIn p f).Aborting p (msgOf f).arg f.context ((d.rctx p (msgOf f).arg).restarts + 1) ∧
      (d.get .slotState p f.context = 2 ∨ d.get .slotState p f.context = 3 → (d.seqIn p f).get .slotState p f.context = 3 ∧
        (d.seqIn p f).get .slotStepNow p f.context = (d.rctx p (msgOf f).arg).step % 256)) := by
  rw [Device.seqIn_abort hheeds htyp]
  refine ⟨fun hnot => if_neg fun hall => ?_, fun harg hslot hruns hroom hkind => ?_⟩
  · obtain ⟨harg, hslot, hstate⟩ := hall
    rcases hnot with hfar | hother | hidle
    · omega
    · exact hother hslot
    · exact hstate hidle
  · have hstate : d.ctxState p (msgOf f).arg ≠ 0 := fun hidle => by
      simp [Device.ctxRuns, hidle] at hruns
    rw [if_pos ⟨harg, hslot, hstate⟩]
    exact Device.abortAnd_shows hswitch hslot hruns hroom hkind

theorem Device.report_shows (htyp : (msgOf f).typ = 0x82) :
    (∀ i, d.get .slotState p f.context ≠ 2 → d.upSteps p f.context f.srcDevice (msgOf f).arg = [i] →
      stepAtt (d.slot p f.context).upSent i = none →
      stepAtt ((d.seqIn p f).slot p f.context).upReports i = some (msgOf f).attempt ∧
      (stepAtt (d.slot p f.context).upReports i ≠ some (msgOf f).attempt →
        stepAtt ((d.seqIn p f).slot p f.context).upContributes i = none) ∧
      (d.seqIn p f).get .slotStepNow p f.context = d.get .slotStepNow p f.context) ∧
    (d.upSteps p f.context f.srcDevice (msgOf f).arg = [] → d.still p = true → d.seqIn p f = d) := by
  rw [Device.seqIn_report hheeds htyp]
  refine ⟨fun i hstate hups hunsent => ?_, fun hups hstill => ?_⟩
  · rw [hups, List.foldl_cons, List.foldl_nil, Device.upperReport_of_unsent hunsent]
    obtain ⟨hrecord, hstep⟩ := Device.setSlot_run d p f.context _ hswitch hstate
    rw [hrecord]
    refine ⟨stepAtt_noteAtt _ _ _, fun hfresh => ?_, hstep⟩
    rw [if_pos hfresh]
    exact stepAtt_filter_ne _ _
  · rw [hups]
    exact Device.run_of_still hswitch hstill

theorem Device.contribute_shows (htyp : (msgOf f).typ = 0x83) :
    (∀ i, d.get .slotState p f.context ≠ 2 → d.upSteps p f.context f.srcDevice (msgOf f).arg = [i] →
      ((d.seqIn p f).slot p f.context).upReports = (d.slot p f.context).upReports ∧
      stepAtt ((d.seqIn p f).slot p f.context).upContributes i =
        if stepAtt (d.slot p f.context).upReports i = some (msgOf f).attempt then some (msgOf f).attempt
        else stepAtt (d.slot p f.context).upContributes i) ∧
    (d.upSteps p f.context f.srcDevice (msgOf f).arg = [] → d.still p = true → d.seqIn p f = d) := by
  rw [Device.seqIn_contribute hheeds htyp]
  refine ⟨fun i hstate hups => ?_, fun hups hstill => ?_⟩
  · rw [Device.upperContribute_one hups]
    split
    · rw [(Device.setSlot_run d p f.context _ hswitch hstate).1]
      exact ⟨rfl, stepAtt_noteAtt _ _ _⟩
    · rw [(SlotKept.run (Device.rests_of_noSwitch hswitch hstate)).slot]
      exact ⟨rfl, rfl⟩
  · unfold Device.upperContribute
    rw [hups]
    exact Device.run_of_still hswitch hstill

theorem Device.xready_shows (htyp : (msgOf f).typ = 0x87) (hnamed : d.namedBy p f.context 6 f.srcDevice = true)
    (hstate : d.get .slotState p f.context ≠ 2) :
    (d.seqIn p f).slot p f.context = { d.slot p f.context with xready := some ((msgOf f).arg, (msgOf f).attempt) } := by
  rw [Device.seqIn_xready hheeds htyp hnamed]
  exact (Device.setSlot_run d p f.context _ hswitch hstate).1

omit hswitch

/-- FAILED of a device that a step of an active slot names ends the slot; otherwise nothing changes. -/
theorem Device.failed_shows (htyp : (msgOf f).typ = 0x85) :
    (d.get .slotState p f.context = 2 ∨ d.get .slotState p f.context = 3 →
      d.namedBy p f.context 5 f.srcDevice = true ∨ d.namedBy p f.context 6 f.srcDevice = true →
      (d.seqIn p f).get .slotState p f.context = 4 ∧ (d.seqIn p f).get .slotStatus p f.context = 0x25 ∧
      bit ((d.seqIn p f).get .cause p 4) 1 = true) ∧
    (d.get .slotState p f.context = 1 ∨ d.get .slotState p f.context = 4 ∨
      (d.namedBy p f.context 5 f.srcDevice = false ∧ d.namedBy p f.context 6 f.srcDevice = false) → d.seqIn p f = d) := by
  rw [Device.seqIn_failed hheeds htyp]
  refine ⟨fun hactive hnamed => ?_, fun hnot => if_neg fun hall => ?_⟩
  · rw [if_pos ⟨hactive, hnamed⟩]
    exact Device.failSlot_run_shows d p f.context 0x25
  · obtain ⟨hactive, hnamed⟩ := hall
    rcases hnot with hready | hfailed | ⟨hfive, hsix⟩
    · omega
    · omega
    · rw [hfive, hsix] at hnamed
      simp at hnamed

end

theorem Device.rctx_settle (d : Device) (p x : Nat) : d.settle.rctx p x = d.rctx p x :=
  congrArg (fun t : List ((Nat × Nat) × RctxSt) => Tbl.get t (p, x) {}) (quiet_rctxs.settle d)

/-- The rest of the device after a message that changes nothing. -/
theorem Device.frame_of_settled {d e : Device} {w : Obj → Nat → Nat → Prop} (h : e = d) : Device.Frame d e.settle w :=
  h ▸ Device.frame_settle d w

/-- Settles O29: what each message does on the device that has taken it in; a slot that does not run keeps its record through the
run that follows (`SlotKept.run`), and an aborted context waits (`Device.Aborting.run`). -/
theorem peerMessages : Obligations.PeerMessages := by
  intro s p f hlive hheeds hswitch d sl m st q named ups
  have hexec : s.runOn p (fun d => (d.takeIn p unitSeq f).seqIn p f) = .next { s with dev := (d.seqIn p f).settle } :=
    State.runOn_eq hlive rfl
  obtain ⟨l, hl⟩ := Device.takeIn_eq s.dev p unitSeq f
  have hd : d = { s.dev with inbox := l } := hl
  clear_value d
  subst hd
  have hget : ∀ (e : Device) {o : Obj} {i : Nat}, o.computed = false → e.settle.get o p i = e.get o p i := fun e o i h =>
    Device.get_settle e o p i h
  refine ⟨fun htyp => ⟨_, hexec, ?abort⟩, fun htyp => ⟨_, hexec, ?report⟩, fun htyp => ⟨_, hexec, ?contribute⟩,
    fun htyp hnamed hstate => ⟨_, hexec, ?xready⟩, fun htyp => ⟨_, hexec, ?failed⟩⟩
  case abort =>
    obtain ⟨hnot, habort⟩ := Device.abort_shows (d := { s.dev with inbox := l }) hheeds hswitch htyp
    refine ⟨fun h => Device.frame_of_settled (hnot h), fun harg hslot hruns hroom hkind => ?_⟩
    obtain ⟨hwaits, hrewinds⟩ := habort harg hslot hruns hroom hkind
    refine ⟨(hget _ rfl).trans hwaits.state, (hget _ rfl).trans hwaits.status, ?_, fun hactive => ?_⟩
    · exact (congrArg RctxSt.restarts (Device.rctx_settle _ p m.arg)).trans hwaits.restarts
    · obtain ⟨hthree, hstep⟩ := hrewinds hactive
      exact ⟨(hget _ rfl).trans hthree, (hget _ rfl).trans hstep⟩
  case report =>
    obtain ⟨hnoted, hstill⟩ := Device.report_shows (d := { s.dev with inbox := l }) hheeds hswitch htyp
    refine ⟨fun i hstate hups hunsent => ?_, fun hups h => Device.frame_of_settled (hstill hups ((Device.still_inbox ..).trans h))⟩
    dsimp only
    rw [Device.slot_settle, hget _ rfl]
    exact hnoted i hstate hups hunsent
  case contribute =>
    obtain ⟨hnoted, hstill⟩ := Device.contribute_shows (d := { s.dev with inbox := l }) hheeds hswitch htyp
    refine ⟨fun i hstate hups => ?_, fun hups h => Device.frame_of_settled (hstill hups ((Device.still_inbox ..).trans h))⟩
    dsimp only
    rw [Device.slot_settle]
    exact hnoted i hstate hups
  case xready =>
    exact (Device.slot_settle _ p sl).trans (Device.xready_shows (d := { s.dev with inbox := l }) hheeds hswitch htyp hnamed hstate)
  case failed =>
    obtain ⟨hfailed, hnot⟩ := Device.failed_shows (d := { s.dev with inbox := l }) hheeds htyp
    refine ⟨fun hactive hby => ?_, fun h => Device.frame_of_settled (hnot h)⟩
    obtain ⟨hstate, hstatus, hcause⟩ := hfailed hactive hby
    exact ⟨(hget _ rfl).trans hstate, (hget _ rfl).trans hstatus, (congrArg (bit · 1) (hget _ rfl)).trans hcause⟩

end Sys2Proof.Machine

/-! ### The switch of a group to its new page (spec/08 Table 8.12, R185, R186) -/

namespace Sys2Proof.Machine

/-! #### The groups in a state -/

theorem Tbl.filter_ins_of_none {κ β : Type} {lt : κ → κ → Bool} {P : κ × β → Bool} {k : κ} {v : β} {t : List (κ × β)}
    (hnone : t.filter P = []) (hP : P (k, v) = true) : (Tbl.ins lt k v t).filter P = [(k, v)] := by
  induction t with
  | nil => simp [Tbl.ins, hP]
  | cons a r ih =>
    obtain ⟨ha, hr⟩ : P a = false ∧ r.filter P = [] := by
      rw [List.filter_cons] at hnone
      split at hnone
      · cases hnone
      · next ha => exact ⟨by simpa using ha, hnone⟩
    unfold Tbl.ins
    split
    · simp [hP, ha, hr]
    · simp [ha, ih hr]

section
variable {d : Device} {p q g st v : Nat}

theorem Device.mem_groupsIn {m : Nat} : m ∈ d.groupsIn p st ↔ (⟨⟨.grpState, p, m⟩, st⟩ : Key × Nat) ∈ d.regs := by
  unfold Device.groupsIn
  simp only [List.mem_map, List.mem_filter, Bool.and_eq_true, decide_eq_true_eq]
  constructor
  · rintro ⟨⟨⟨o, r, i⟩, w⟩, ⟨hmem, ⟨hobj, hplane⟩, hval⟩, hidx⟩
    simp only at hobj hplane hval hidx
    subst hobj hplane hval hidx
    exact hmem
  · exact fun h => ⟨_, ⟨h, ⟨rfl, rfl⟩, rfl⟩, rfl⟩

/-- A group that is put into a state is in no other, and no other group moves. -/
theorem Device.groupsIn_set_ne (hv : v % 2 ^ Obj.grpState.width ≠ st) (h : ∀ m ∈ d.groupsIn p st, m = g) :
    (d.set .grpState p g v).groupsIn p st = [] := by
  refine List.eq_nil_iff_forall_not_mem.mpr fun m hm => ?_
  rw [Device.mem_groupsIn] at hm
  rcases Tbl.mem_put hm with heq | ⟨hmem, hne⟩
  · exact hv (congrArg Prod.snd heq).symm
  · exact hne (by rw [h m (Device.mem_groupsIn.mpr hmem)])

theorem Device.groupsIn_set_same (hnone : d.groupsIn p st = []) (hst : v % 2 ^ Obj.grpState.width = st) (hz : st ≠ 0) :
    (d.set .grpState p g v).groupsIn p st = [g] := by
  subst hst
  have herased : (Tbl.erase d.regs ⟨.grpState, p, g⟩).filter
      (fun e => decide (e.1.obj = .grpState) && decide (e.1.plane = p) && decide (e.2 = v % 2 ^ Obj.grpState.width)) = [] := by
    refine List.filter_eq_nil_iff.mpr fun e he => ?_
    exact List.filter_eq_nil_iff.mp (List.map_eq_nil_iff.mp hnone) e (List.mem_filter.mp he).1
  unfold Device.groupsIn Device.set Tbl.put
  dsimp only
  rw [if_neg (show ¬ v % 2 ^ Obj.grpState.width = Obj.grpState.dflt g from hz), Tbl.filter_ins_of_none herased (by simp)]
  rfl

@[simp] theorem Device.switches_fmMessage {n : Nat} : (d.fmMessage n).switches = d.switches := by
  have hcleared : ∀ (e : Device) q i m, (e.clearCause q i m).switches = e.switches := fun e q i m => by
    unfold Device.clearCause
    dsimp only
    refine (Device.switches_foldl (fun _ _ => Device.switches_pushEvent) _ _).trans ?_
    simp [apply_ite Device.switches]
  unfold Device.fmMessage
  refine Quiet.ite (g := Device.switches) ?_ rfl
  exact Quiet.ite ((hcleared _ _ _ _).trans rfl) rfl

/-! #### The pages of a group -/

/-- The registers of one object copied into another at some indices. -/
def Device.copyRegs (d : Device) (p : Nat) (r w : Obj) (ix : Nat → Nat) (l : List Nat) : Device :=
  l.foldl (fun d m => d.set w p (ix m) (d.get r p (ix m))) d

theorem Device.moves_copyRegs {r w : Obj} {ix : Nat → Nat} {l : List Nat} {mo mp : Nat} (ho : mo.testBit w.ctorIdx = true)
    (hc : w ≠ .cause) : Moves d (d.copyRegs p r w ix l) mo mp := Moves.foldl (.refl ..) fun _ _ => (Moves.refl ..).set ho hc

theorem Device.get_copyRegs {r w : Obj} {ix : Nat → Nat} {l : List Nat} (hne : r ≠ w) {k : Nat} (hk : k ∈ l) :
    (d.copyRegs p r w ix l).get w p (ix k) = d.get r p (ix k) % 2 ^ w.width := by
  have hread : ∀ (l : List Nat) i, (d.copyRegs p r w ix l).get r p i = d.get r p i := fun l i =>
    foldl_keeps (·.get r p i) _ (fun _ _ => Device.get_set_obj _ _ _ _ _ _ _ _ hne) l d
  induction l using List.reverseRecOn with
  | nil => cases hk
  | append_singleton t a ih =>
    have hlast : d.copyRegs p r w ix (t ++ [a]) = (d.copyRegs p r w ix t).set w p (ix a) ((d.copyRegs p r w ix t).get r p (ix a)) := by
      simp [Device.copyRegs]
    rw [hlast, hread, Device.get_set]
    split
    · next heq => rw [heq.2.2]
    · next hother =>
      rcases List.mem_append.mp hk with ht | ha
      · exact ih ht
      · exact absurd ⟨rfl, rfl, by rw [List.mem_singleton.mp ha]⟩ hother

/-- The indices of a page's members. -/
def pageIx (page m : Nat) : Nat := (fld page 0 16 + m) % 65536

theorem Device.takePage_eq : d.takePage p g = (d.copyRegs p .grpMember .grpMemberActive (pageIx (d.get .grpDesc p g))
    (List.range (fld (d.get .grpDesc p g) 16 12 + 1))).set .grpDescActive p g (d.get .grpDesc p g) := rfl

@[simp] theorem Device.switches_takePage : (d.takePage p g).switches = d.switches := by
  rw [Device.takePage_eq, Device.switches_set (by decide)]
  exact Device.switches_foldl (fun _ _ => Device.switches_set (by decide)) _ _

/-! #### The end of a switch, and a plane without an active slot -/

/-- Every object but the states of slots. -/
def besideSlotStates : Nat := objs_all ^^^ 2 ^ Obj.slotState.ctorIdx

theorem Moves.activeSlots {e : Device} (h : Moves d e besideSlotStates besideSlots) : e.activeSlots p = d.activeSlots p := by
  unfold Device.activeSlots
  rw [show e.slots = d.slots from h.same .slots (by decide)]
  simp only [h.get .slotState _ _ (by decide)]

theorem Device.groupSlots_of_idle (h : d.activeSlots p = []) : d.groupSlots p g = [] := by
  unfold Device.groupSlots
  simp [h]

/-- The new page as the standby one, before the slots of the group are let go. -/
def Device.standby (d : Device) (p g : Nat) : Device :=
  d.copyRegs p .grpMemberActive .grpMember (pageIx (d.get .grpDescActive p g))
    (List.range (fld (d.get .grpDescActive p g) 16 12 + 1))

@[simp] theorem Device.switches_standby : (d.standby p g).switches = d.switches :=
  Device.switches_foldl (fun _ _ => Device.switches_set (by decide)) _ _

/-- The slots of a group let go at the end of its switch. -/
def Device.letGo (d : Device) (p g : Nat) : Device := (d.groupSlots p g).foldl (fun d sl => d.setReformed p sl 0) d

@[simp] theorem Device.switches_letGo : (d.letGo p g).switches = d.switches :=
  Device.switches_foldl (fun _ _ => Device.switches_setSlot) _ _

theorem Device.reformEnd_eq : d.reformEnd p g = ((((d.standby p g).letGo p g).set .grpDesc p g (d.get .grpDescActive p g)).set
    .grpState p g 0).set .grpCommitCmd p g 2 := rfl

/-- The end of a switch: the group is idle, and its command reads done. -/
theorem Device.reformEnd_shows : (d.reformEnd p g).get .grpState p g = 0 ∧ (d.reformEnd p g).get .grpCommitCmd p g = 2 := by
  rw [Device.reformEnd_eq]
  exact ⟨(Device.get_set_obj _ _ _ _ _ _ _ _ (by decide)).trans (Device.get_set_same _ _ _ _ _), Device.get_set_same _ _ _ _ _⟩

/-- What the end of a switch writes. -/
def objs_reformEnded : Nat := 2 ^ Obj.grpMember.ctorIdx ||| 2 ^ Obj.grpDesc.ctorIdx ||| 2 ^ Obj.grpState.ctorIdx |||
  2 ^ Obj.grpCommitCmd.ctorIdx

theorem Device.groupsIn_reformEnd {st : Nat} (hst : st ≠ 0) (h : ∀ m ∈ d.groupsIn p st, m = g) :
    (d.reformEnd p g).groupsIn p st = [] := by
  rw [Device.reformEnd_eq, Device.groupsIn_congr (Device.switches_set (by decide))]
  refine Device.groupsIn_set_ne (fun h => hst (h.symm.trans (by decide))) fun m hm => ?_
  rw [Device.groupsIn_congr (Device.switches_set (by decide)),
    Device.groupsIn_congr (Device.switches_letGo.trans Device.switches_standby)] at hm
  exact h m hm

theorem Device.moves_reformEnd_of_idle (h : d.activeSlots p = []) : Moves d (d.reformEnd p g) objs_reformEnded 0 := by
  have hnone : (d.standby p g).groupSlots p g = [] :=
    Device.groupSlots_of_idle ((Moves.activeSlots (Device.moves_copyRegs (by decide) (by decide))).trans h)
  rw [Device.reformEnd_eq, Device.letGo, hnone]
  exact (((Device.moves_copyRegs (by decide) (by decide)).set (by decide) (by decide)).set (by decide) (by decide)).set (by decide)
    (by decide)

/-- Where no slot is active a switch under way ends at once. -/
theorem Device.reformNext_of_idle (h : d.activeSlots p = []) (fuel : Nat) : d.reformNext p g (fuel + 1) = d.reformEnd p g := by
  unfold Device.reformNext Device.reformTurn
  rw [Device.groupSlots_of_idle h]
  rfl

theorem Device.moves_reforms_of_idle (h : d.activeSlots p = []) : Moves d (d.reforms p) objs_reformEnded 0 := by
  unfold Device.reforms
  generalize d.groupsIn p 3 = l
  induction l generalizing d with
  | nil => exact .refl ..
  | cons g l ih =>
    rw [List.foldl_cons, Device.reformNext_of_idle h]
    have hend := Device.moves_reformEnd_of_idle (g := g) h
    have hidle : (d.reformEnd p g).activeSlots p = [] :=
      (Moves.activeSlots (hend.mono (Mask.of (by decide)) (Mask.of (by decide)))).trans h
    exact hend.step (ih hidle)

/-- What a turn does before it looks at the boundaries and switches of groups. -/
def Device.send (d : Device) (p : Nat) : Device := (d.emitReady p).fireNotifies p

theorem Device.moves_send : Moves d (d.send p) (objs_emitReady ||| objs_fireNotifies) (parts_emitReady ||| parts_fireNotifies) :=
  ((Moves.refl ..).emitReady (Mask.of (by decide)) (Mask.of (by decide))).fireNotifies (Mask.of (by decide)) (Mask.of (by decide))

theorem Device.switches_send : (d.send p).switches = d.switches := Device.switches_fireNotifies.trans Device.switches_emitReady

/-- What a turn may change where no slot is active. -/
def objs_idleTurn : Nat := objs_emitReady ||| objs_fireNotifies ||| objs_boundaries ||| objs_reformEnded

theorem Device.moves_turn_of_idle (h : d.activeSlots p = []) : Moves d (d.turn p) objs_idleTurn besideSlots := by
  have hdue : Moves d ((d.send p).boundaries p) objs_idleTurn besideSlots :=
    (Device.moves_send.mono (Mask.of (by decide)) (Mask.of (by decide))).boundaries (Mask.of (by decide)) (Mask.of (by decide))
  have hidle : ((d.send p).boundaries p).activeSlots p = [] :=
    (Moves.activeSlots (hdue.mono (Mask.of (by decide)) (Mask.of (by decide)))).trans h
  exact hdue.step ((Device.moves_reforms_of_idle hidle).mono (Mask.of (by decide)) (Mask.of (by decide)))

/-- Without an active slot a run is one turn. -/
theorem Device.run_of_idle (h : d.activeSlots p = []) : d.run p = d.turn p := by
  have hidle : (d.turn p).activeSlots p = [] :=
    (Moves.activeSlots ((Device.moves_turn_of_idle h).mono (Mask.of (by decide)) (Mask.of (by decide)))).trans h
  have hnone : (d.turn p).nextMove p = none := by
    unfold Device.nextMove
    rw [hidle]
    rfl
  unfold Device.run
  rw [Device.runSlots_of_none hnone]

end
end Sys2Proof.Machine

/-! ### What a run keeps of the pages of groups (spec/08 R186, R187) -/

namespace Sys2Proof.Machine

section
variable {d : Device} {p g sl : Nat}

theorem Device.switches_foldl_fst {α β : Type} {f : Device × β → α → Device × β} (h : ∀ z a, (f z a).1.switches = z.1.switches)
    (l : List α) (z : Device × β) : (l.foldl f z).1.switches = z.1.switches := by
  induction l generalizing z with
  | nil => rfl
  | cons a l ih => exact (ih _).trans (h z a)

@[simp] theorem Device.switches_reformAbort : (d.reformAbort p sl).switches = d.switches := by
  unfold Device.reformAbort
  extract_lets r
  have hheld : r.1.switches = d.switches := by
    refine Device.switches_foldl_fst (fun z x => ?_) _ _
    dsimp only
    split
    · rfl
    · split
      · exact Device.switches_abortCtx
      · exact Device.switches_setRctx.trans Device.switches_abortCtx
      · exact Device.switches_abortCtx
  clear_value r
  split
  · exact Device.switches_failSlot.trans hheld
  · exact Device.switches_setSlot.trans hheld

@[simp] theorem Device.switches_reformRestart : (d.reformRestart p sl).switches = d.switches := by
  unfold Device.reformRestart
  extract_lets xs d1 d2 d3 s t d4 d5
  have hreleased : d1.switches = d.switches := Device.switches_foldl (fun _ _ => by simp [apply_ite Device.switches]) _ _
  have hagain : d2.switches = d.switches := (Device.switches_foldl (fun _ _ => Device.switches_cmpRestart) _ _).trans hreleased
  have hnext : d3.switches = d.switches := by simp [d3, hagain]
  clear_value d3
  have htold : d4.switches = d.switches := Device.switches_tellMembers.trans hnext
  have hpassed : d5.switches = d.switches :=
    (Device.switches_foldl (fun _ _ => by simp [apply_ite Device.switches]) _ _).trans htold
  clear_value d5
  split
  · exact Device.switches_failSlot.trans hnext
  · simp [hpassed]

theorem Device.groupsIn_reformTurn {st : Nat} (hst : st ≠ 0) (h : d.groupsIn p st = []) : (d.reformTurn p g).1.groupsIn p st = [] := by
  unfold Device.reformTurn
  split
  · exact Device.groupsIn_reformEnd hst (by simp [h])
  · extract_lets d1
    have haborted : d1.switches = d.switches := Quiet.ite (g := Device.switches) Device.switches_reformAbort rfl
    clear_value d1
    split
    · exact (Device.groupsIn_congr haborted st).trans h
    · split
      · exact (Device.groupsIn_congr haborted st).trans h
      · exact (Device.groupsIn_congr (Device.switches_reformRestart.trans haborted) st).trans h

theorem Device.groupsIn_reforms {st : Nat} (hst : st ≠ 0) (h : d.groupsIn p st = []) : (d.reforms p).groupsIn p st = [] := by
  have hnext : ∀ (fuel : Nat) (e : Device) (g : Nat), e.groupsIn p st = [] → (e.reformNext p g fuel).groupsIn p st = [] := by
    intro fuel
    induction fuel with
    | zero => exact fun _ _ h => h
    | succ fuel ih =>
      intro e g he
      unfold Device.reformNext
      dsimp only
      split
      · exact ih _ g (Device.groupsIn_reformTurn hst he)
      · exact Device.groupsIn_reformTurn hst he
  unfold Device.reforms
  generalize d.groupsIn p 3 = l
  generalize 4096 = fuel
  induction l generalizing d with
  | nil => exact h
  | cons g l ih => exact ih (hnext fuel d g h)

/-- Every object but the active members of groups and the count of exclusions in a switch. -/
def besideMembers : Nat := objs_all ^^^ 2 ^ Obj.grpMemberActive.ctorIdx ^^^ 2 ^ Obj.reformRestarts.ctorIdx

/-- Without a pending commit a run changes no active page. -/
theorem Device.moves_run_of_noCommit (h : d.groupsIn p 2 = []) : Moves d (d.run p) besideMembers parts_all := by
  unfold Device.run
  generalize 1000000 = fuel
  induction fuel generalizing d with
  | zero => exact .refl ..
  | succ fuel ih =>
    have hsent : (d.send p).groupsIn p 2 = [] := (Device.groupsIn_congr Device.switches_send 2).trans h
    have hturn : d.turn p = (d.send p).reforms p := congrArg (·.reforms p) (Device.boundaries_of_none hsent)
    have hmoves : Moves d (d.turn p) besideMembers parts_all := by
      rw [hturn]
      exact (Device.moves_send.mono (Mask.of (by decide)) (Mask.of (by decide))).reforms (Mask.of (by decide)) (Mask.of (by decide))
    have hnone : (d.turn p).groupsIn p 2 = [] := by
      rw [hturn]
      exact Device.groupsIn_reforms (by decide) hsent
    cases hmove : (d.turn p).nextMove p with
    | none =>
      rw [Device.runSlots_of_none hmove]
      exact hmoves
    | some e =>
      rw [Device.runSlots_of_move hmove]
      obtain ⟨m, -, hmoved⟩ := List.exists_of_findSome?_eq_some hmove
      have hnext := Moves.slotMove hmoved hmoves (Mask.of (by decide)) (Mask.of (by decide))
      exact hnext.step (ih ((Device.groupsIn_congr (Device.switches_slotMove hmoved) 2).trans hnone))

end
end Sys2Proof.Machine

/-! ### Sync objects, COUNTS, exclusions and commits (spec/08 R174 to R176, R185, R187) -/

namespace Sys2Proof.Machine

section
variable {d : Device} {p g sl : Nat}

/-! #### A sync object is written (R174) -/

theorem Device.activeSlots_fmMessage {n : Nat} : (d.fmMessage n).activeSlots p = d.activeSlots p := by
  unfold Device.activeSlots
  rw [show (d.fmMessage n).slots = d.slots from quiet_slots.fmMessage d n]
  simp only [Device.get_fmMessage_obj d n .slotState _ _ rfl (by decide) (by decide) (by decide)]

/-- A written value stands where no slot is active to signal. -/
theorem Device.syncWrite_shows {k v : Nat} (h : d.activeSlots p = []) :
    (d.syncWrite p k v).syncVal p k = v % 2 ^ 64 ∧ (d.syncWrite p k v).get .syncSaturatedFlag p k = 0 := by
  unfold Device.syncWrite
  have hidle : ((d.set .syncValue p k v).set .syncSaturatedFlag p k 0).activeSlots p = [] :=
    (Moves.activeSlots (((Moves.refl ..).set (by decide) (by decide)).set (by decide) (by decide))).trans h
  have hturn := Device.moves_turn_of_idle hidle
  rw [Device.run_of_idle hidle]
  refine ⟨(hturn.get .syncValue p k (by decide)).trans ?_, (hturn.get .syncSaturatedFlag p k (by decide)).trans ?_⟩
  · exact (Device.get_set_obj _ _ _ _ _ _ _ _ (by decide)).trans (Device.get_set_same _ _ _ _ _)
  · exact Device.get_set_same _ _ _ _ _

theorem exec_syncValueWrite (p : Plane) {w : BitVec 64} {rq : Req} {s : State}
    (h : s.dev.admits rq ⟨⟨.syncValue, p, 0⟩, 8, w.toNat⟩ = true) :
    exec (.syncValueWrite p w rq) s = .next { s with dev := (((s.dev.fmMessage rq.ses.val).syncWrite p
      ((s.dev.fmMessage rq.ses.val).place ⟨.syncValue, p, 0⟩ rq.ses.val) w.toNat).respond rq (statusResp rq 0)).settle } := by
  have hwritten := Device.write_admitted s.dev rq _ (fun _ => true)
    (fun d => (d.syncWrite p (d.place ⟨.syncValue, p, 0⟩ rq.ses.val) w.toNat, true)) h rfl rfl
  dsimp only at hwritten
  show execSyncValueWrite p w rq s = _
  unfold execSyncValueWrite
  exact State.run_next hwritten

/-! #### COUNTS (R175, R176) -/

variable {f : Sys2Proof.Frame}

/-- A COUNTS request as Table 8.9 lays it out, for a slot that is not EMPTY. -/
structure Device.WellShaped (d : Device) (p sl : Nat) (f : Sys2Proof.Frame) : Prop where
  slot : sl ≤ 0x3FF
  loaded : d.get .slotState p sl ≠ 0
  length : f.payload.length = 4 + 4 * fld (beNat f.payload 0 4) 0 11
  few : 1 ≤ fld (beNat f.payload 0 4) 0 11
  many : fld (beNat f.payload 0 4) 0 11 ≤ 1023
  high : fld (beNat f.payload 0 4) 26 6 = 0
  low : fld (beNat f.payload 0 4) 11 5 = 0

/-- Such a request passes the check of its shape. -/
theorem Device.WellShaped.accepted (h : d.WellShaped p sl f) :
    ¬ ((sl > 0x3FF || d.get .slotState p sl = 0 || f.payload.length ≠ 4 + 4 * fld (beNat f.payload 0 4) 0 11 ||
      fld (beNat f.payload 0 4) 0 11 = 0 || fld (beNat f.payload 0 4) 0 11 > 1023 || fld (beNat f.payload 0 4) 26 6 ≠ 0 ||
      fld (beNat f.payload 0 4) 11 5 ≠ 0 : Bool) = true) := by
  obtain ⟨hslot, hloaded, hlength, hfew, hmany, hhigh, hlow⟩ := h
  simp only [Bool.or_eq_true, decide_eq_true_eq, not_or]
  omega

theorem Device.countsFor_otherTenant (h : d.WellShaped p sl f) (htenant : f.tenant ≠ d.get .slotTenant p sl) :
    d.countsFor p sl f = (d.bump .seqTenantReject p 0).causeCollective p 2 sl := by
  unfold Device.countsFor
  dsimp only
  rw [if_neg h.accepted, if_pos htenant]

theorem Device.countsFor_nonmember (h : d.WellShaped p sl f) (htenant : f.tenant = d.get .slotTenant p sl)
    (hmember : d.memberOf p (d.get .slotGroup p sl) f.srcDevice f.srcPort = none) :
    d.countsFor p sl f = d.bump .seqNonmember p 0 := by
  unfold Device.countsFor
  dsimp only
  rw [if_neg h.accepted, if_neg (not_not_intro htenant), hmember]

variable {m i : Nat} (h : d.WellShaped p sl f) (htenant : f.tenant = d.get .slotTenant p sl)
  (hmember : d.memberOf p (d.get .slotGroup p sl) f.srcDevice f.srcPort = some m)
  (hactive : d.get .slotState p sl = 3) (hstep : d.countsStep p sl = some i)
include h htenant hmember hactive hstep

theorem Device.countsFor_high (hhigh : d.countDests p (stAux (d.stepWord p sl i)) <
      fld (beNat f.payload 0 4) 16 10 + fld (beNat f.payload 0 4) 0 11) :
    d.countsFor p sl f = (d.failSlot p sl 0x22).run p := by
  unfold Device.countsFor
  dsimp only
  rw [if_neg h.accepted, if_neg (not_not_intro htenant), hmember]
  dsimp only
  rw [if_neg (by simp [hactive]), hstep]
  dsimp only
  rw [if_pos (by simp [hhigh])]

/-- The first request of a member for a COUNTS step with one destination. -/
theorem Device.countsFor_first (haux : stAux (d.stepWord p sl i) = 0xFFF) (hone : fld (beNat f.payload 0 4) 0 11 = 1)
    (hfirst : fld (beNat f.payload 0 4) 16 10 = 0) (hlasts : (d.slot p sl).lasts = []) (hcounts : (d.slot p sl).counts = []) :
    d.countsFor p sl f = (d.setSlot p sl { d.slot p sl with
      counts := [(m, 0, beNat f.payload 4 4)], lasts := if bit f.flags 5 then [m] else [] }).run p := by
  have hdests : d.countDests p (stAux (d.stepWord p sl i)) = 1 := by simp [Device.countDests, haux]
  have hes : (List.range (fld (beNat f.payload 0 4) 0 11)).map
      (fun k => (m, fld (beNat f.payload 0 4) 16 10 + k, beNat f.payload (4 + 4 * k) 4)) = [(m, 0, beNat f.payload 4 4)] := by
    rw [hone, hfirst]
    rfl
  unfold Device.countsFor
  dsimp only
  rw [if_neg h.accepted, if_neg (not_not_intro htenant), hmember]
  dsimp only
  rw [if_neg (by simp [hactive]), hstep]
  dsimp only
  rw [if_neg (by simp [hdests, hone, hfirst, hlasts]), hes, hcounts, hlasts]
  split <;> rfl

end

section
variable {d : Device} {p g : Nat}

/-! #### `grp_exclude` (R187) -/

/-- A member marked in a page. -/
theorem Device.bit_marked (d : Device) (p e : Nat) {o : Obj} (ho : 0 < o.width) :
    bit ((d.set o p e (setBit (d.get o p e) 0)).get o p e) 0 = true := by
  rw [Device.get_set_same, bit_mod _ _ _ ho, bit_setBit_same]

variable {ses v : Nat} (hsel : d.sel .grpSel p 0 ses = g)
include hsel

theorem Device.grpExclude_idle (hstate : d.get .grpState p g ≤ 1) : d.grpExclude p ses v =
    (d.set .grpMember p (pageIx (d.get .grpDesc p g) v) (setBit (d.get .grpMember p (pageIx (d.get .grpDesc p g) v)) 0)).set
      .grpState p g 1 := by
  unfold Device.grpExclude
  rw [hsel]
  dsimp only
  split
  · omega
  · omega
  · rfl

theorem Device.grpExclude_pending (hstate : d.get .grpState p g = 2) : d.grpExclude p ses v =
    (d.set .grpMember p (pageIx (d.get .grpDesc p g) v) (setBit (d.get .grpMember p (pageIx (d.get .grpDesc p g) v)) 0)).bump
      .reformMerges p 0 := by
  unfold Device.grpExclude
  rw [hsel]
  dsimp only
  rw [hstate]
  rfl

theorem Device.grpExclude_idle_shows (hstate : d.get .grpState p g ≤ 1) : (d.grpExclude p ses v).get .grpState p g = 1 ∧
    bit ((d.grpExclude p ses v).get .grpMember p (pageIx (d.get .grpDesc p g) v)) 0 = true := by
  rw [Device.grpExclude_idle hsel hstate]
  refine ⟨Device.get_set_same _ _ _ _ _, ?_⟩
  rw [Device.get_set_obj _ _ _ _ _ _ _ _ (by decide)]
  exact Device.bit_marked d p _ (by decide)

theorem Device.grpExclude_pending_shows (hstate : d.get .grpState p g = 2) : (d.grpExclude p ses v).get .grpState p g = 2 ∧
    bit ((d.grpExclude p ses v).get .grpMember p (pageIx (d.get .grpDesc p g) v)) 0 = true ∧
    (d.grpExclude p ses v).get .reformMerges p 0 = min (d.get .reformMerges p 0 + 1) (2 ^ 32 - 1) := by
  rw [Device.grpExclude_pending hsel hstate]
  refine ⟨?_, ?_, ?_⟩
  · rw [Device.get_bump_obj _ _ _ _ _ _ _ (by decide), Device.get_set_obj _ _ _ _ _ _ _ _ (by decide), hstate]
  · rw [Device.get_bump_obj _ _ _ _ _ _ _ (by decide)]
    exact Device.bit_marked d p _ (by decide)
  · refine (Device.get_count_narrow _ .reformMerges p 0 1 (by decide)).trans ?_
    rw [Device.get_set_obj _ _ _ _ _ _ _ _ (by decide)]
    rfl

/-- In a switch the member is marked in the page in force, and the slots already restarted are rewound again. -/
theorem Device.grpExclude_switching (hstate : d.get .grpState p g = 3) : ∃ l : List Nat, d.grpExclude p ses v =
    (l.foldl (fun d sl => if (d.slot p sl).reformed = 2 then d.setReformed p sl 0 else d)
      ((d.set .grpMemberActive p (pageIx (d.get .grpDescActive p g) v)
        (setBit (d.get .grpMemberActive p (pageIx (d.get .grpDescActive p g) v)) 0)).bump .reformRestarts p 0)).run p := by
  unfold Device.grpExclude
  rw [hsel]
  dsimp only
  rw [hstate]
  exact ⟨_, rfl⟩

theorem Device.grpExclude_switching_shows (hstate : d.get .grpState p g = 3) (hnone : d.groupsIn p 2 = []) :
    bit ((d.grpExclude p ses v).get .grpMemberActive p (pageIx (d.get .grpDescActive p g) v)) 0 = true ∧
    (d.grpExclude p ses v).get .reformRestarts p 0 = min (d.get .reformRestarts p 0 + 1) (2 ^ 32 - 1) := by
  obtain ⟨l, hl⟩ := Device.grpExclude_switching (v := v) hsel hstate
  have hrewound : ∀ e : Device, Moves e (l.foldl (fun d sl => if (d.slot p sl).reformed = 2 then d.setReformed p sl 0 else d) e)
      besideMembers parts_all := fun e => Moves.foldl (.refl ..) fun _ _ => Moves.ite
    (fun _ => (Moves.refl ..).setSlot (Mask.of (by decide)) (Mask.of (by decide))) fun _ => .refl ..
  have hswitches : ∀ e : Device,
      (l.foldl (fun d sl => if (d.slot p sl).reformed = 2 then d.setReformed p sl 0 else d) e).switches = e.switches := fun e =>
    Device.switches_foldl (fun _ _ => by simp [Device.setReformed, apply_ite Device.switches]) _ _
  rw [hl]
  generalize hmarked : (d.set .grpMemberActive p (pageIx (d.get .grpDescActive p g) v)
    (setBit (d.get .grpMemberActive p (pageIx (d.get .grpDescActive p g) v)) 0)).bump .reformRestarts p 0 = e
  have hnone' : e.groupsIn p 2 = [] := by
    rw [← hmarked, Device.groupsIn_congr ((Device.switches_bump (by decide)).trans (Device.switches_set (by decide)))]
    exact hnone
  have hrun := (hrewound e).step (Device.moves_run_of_noCommit ((Device.groupsIn_congr (hswitches e) 2).trans hnone'))
  rw [hrun.get .grpMemberActive _ _ (by decide), hrun.get .reformRestarts _ _ (by decide), ← hmarked]
  refine ⟨?_, ?_⟩
  · rw [Device.get_bump_obj _ _ _ _ _ _ _ (by decide)]
    exact Device.bit_marked d p _ (by decide)
  · refine (Device.get_count_narrow _ .reformRestarts p 0 1 (by decide)).trans ?_
    rw [Device.get_set_obj _ _ _ _ _ _ _ _ (by decide)]
    rfl

omit hsel

theorem exec_grpExclude (p : Plane) {v : BitVec 16} {rq : Req} {s : State}
    (h : s.dev.admits rq ⟨⟨.grpExclude, p, 0⟩, 2, v.toNat⟩ = true)
    (hok : (s.dev.fmMessage rq.ses.val).grpExcludeOk p rq.ses.val v.toNat = true) :
    exec (.grpExclude p v rq) s = .next { s with dev :=
      (((s.dev.fmMessage rq.ses.val).grpExclude p rq.ses.val v.toNat).respond rq (statusResp rq 0)).settle } := by
  show execGrpExclude p v rq s = _
  exact State.run_next (Device.write_admitted s.dev rq _ _ _ h hok rfl)

theorem exec_grpExclude_ruled_out (p : Plane) {v : BitVec 16} {rq : Req} {s : State}
    (h : s.dev.admits rq ⟨⟨.grpExclude, p, 0⟩, 2, v.toNat⟩ = true)
    (hok : (s.dev.fmMessage rq.ses.val).grpExcludeOk p rq.ses.val v.toNat = false) :
    exec (.grpExclude p v rq) s = .next { s with dev :=
      ((s.dev.fmMessage rq.ses.val).respond rq (statusResp rq 0x0303)).settle } := by
  obtain ⟨htakes, hstatus⟩ := Device.admits_takes h
  show execGrpExclude p v rq s = _
  exact State.run_next (Device.write_ruled_out s.dev rq _ _ _ htakes hstatus hok)

end

/-! #### `grp_commit_cmd` (R185) -/

section
variable {d : Device} {p g : Nat}

theorem Device.place_grpCommitCmd (d : Device) (p ses : Nat) : d.place ⟨.grpCommitCmd, p, 0⟩ ses = d.sel .grpSel p 0 ses := by
  unfold Device.place
  dsimp only
  rw [if_neg (by decide), if_neg (by simp), show Obj.grpCommitCmd.sels = [.grpSel] from rfl, List.foldl_cons, List.foldl_nil,
    if_neg (by simp), if_neg (by simp), Nat.zero_mul, Nat.zero_add]

theorem Device.cmdReads_grpCommitCmd {ses v : Nat} (h : d.sel .grpSel p 0 ses = g) :
    d.cmdReads ⟨.grpCommitCmd, p, 0⟩ ses v = d.set .grpCommitCmd p g v := by
  rw [Device.cmdReads, Device.place_grpCommitCmd, h]

variable {ses : Nat} (hsel : d.sel .grpSel p 0 ses = g)
include hsel

theorem Device.grpCommit_refused (hok : d.grpCommitOk p g = false) : (d.grpCommit p ses).get .grpCommitCmd p g = 3 ∧
    (d.grpCommit p ses).get .grpState p g = d.get .grpState p g := by
  unfold Device.grpCommit
  dsimp only
  rw [Device.place_grpCommitCmd, hsel, if_pos (by simp [hok]), Device.cmdReads_grpCommitCmd hsel]
  exact ⟨Device.get_set_same _ _ _ _ _, Device.get_set_obj _ _ _ _ _ _ _ _ (by decide)⟩

/-- A commit whose boundary is a sync value still to come waits for it. -/
theorem Device.grpCommit_waits (hok : d.grpCommitOk p g = true) (hkind : d.get .grpBoundaryKind p g = 1)
    (hcoming : d.syncVal p (d.get .grpBoundaryObj p g) < d.get .grpBoundaryValue p g) :
    (d.grpCommit p ses).get .grpCommitCmd p g = 1 ∧ (d.grpCommit p ses).get .grpState p g = 2 ∧
    (d.grpCommit p ses).get .grpDescActive p g = d.get .grpDescActive p g := by
  have hpending : (d.set .grpState p g 2).sel .grpSel p 0 ses = g := (Device.get_set_obj _ _ _ _ _ _ _ _ (by decide)).trans hsel
  have hget : ∀ o i, o ≠ .grpState → o ≠ .grpCommitCmd →
      ((d.set .grpState p g 2).set .grpCommitCmd p g 1).get o p i = d.get o p i := fun o i h1 h2 =>
    (Device.get_set_obj _ _ _ _ _ _ _ _ h2).trans (Device.get_set_obj _ _ _ _ _ _ _ _ h1)
  have hmet : ((d.set .grpState p g 2).set .grpCommitCmd p g 1).grpBoundaryMet p g = false := by
    unfold Device.grpBoundaryMet Device.syncVal
    rw [hget _ _ (by decide) (by decide), hget _ _ (by decide) (by decide), hget _ _ (by decide) (by decide),
      hget _ _ (by decide) (by decide), hkind]
    simpa [Device.syncVal] using hcoming
  unfold Device.grpCommit
  dsimp only
  rw [Device.place_grpCommitCmd, hsel, if_neg (by simp [hok]), Device.cmdReads_grpCommitCmd hpending,
    hget _ _ (by decide) (by decide), hkind, hmet, if_neg (by simp)]
  exact ⟨Device.get_set_same _ _ _ _ _, (Device.get_set_obj _ _ _ _ _ _ _ _ (by decide)).trans (Device.get_set_same _ _ _ _ _),
    hget _ _ (by decide) (by decide)⟩

end

theorem exec_grpCommit (p : Plane) {rq : Req} {s : State} (h : s.dev.admitsNow rq ⟨⟨.grpCommitCmd, p, 0⟩, 1, 1⟩ = true) :
    exec (.grpCommit p rq) s = .next { s with dev :=
      (((s.dev.fmMessage rq.ses.val).grpCommit p rq.ses.val).respond rq (statusResp rq 0)).settle } := by
  show execGrpCommit p rq s = _
  exact State.run_next (Device.commandNow_admitted s.dev rq _ _ _ h)

end Sys2Proof.Machine

/-! ### A group at its boundary (spec/08 R185, R186) -/

namespace Sys2Proof.Machine

/-! #### The group at the boundary and its page -/

theorem Key.lt_irrefl (k : Key) : Key.lt k k = false := by
  simp [Key.lt]

/-- An entry of a table in canonical form is what a read of its key returns. -/
theorem Tbl.get_of_mem {κ β : Type} [DecidableEq κ] [DecidableEq β] {lt : κ → κ → Bool} (hlt : ∀ k, lt k k = false) {z : κ → β}
    {t : List (κ × β)} (h : Tbl.wf lt z t = true) {k : κ} {v : β} (hmem : (k, v) ∈ t) (y : β) : Tbl.get t k y = v := by
  induction t with
  | nil => cases hmem
  | cons a r ih =>
    obtain ⟨j, w⟩ := a
    simp only [Tbl.wf, Bool.and_eq_true, List.all_eq_true] at h
    obtain ⟨⟨-, hfirst⟩, hrest⟩ := h
    unfold Tbl.get
    rcases List.mem_cons.mp hmem with heq | hmem
    · cases heq
      exact if_pos rfl
    · have hne : j ≠ k := fun he => by
        have := hfirst _ hmem
        rw [he, hlt] at this
        cases this
      rw [if_neg hne]
      exact ih hrest hmem

section
variable {d : Device} {p g sl : Nat}

theorem Device.get_of_mem_groupsIn {st : Nat} (hwf : d.RegsWf = true) (h : g ∈ d.groupsIn p st) : d.get .grpState p g = st := by
  unfold Device.RegsWf at hwf
  rw [Bool.and_eq_true] at hwf
  exact Tbl.get_of_mem Key.lt_irrefl hwf.1 (Device.mem_groupsIn.mp h) _

/-- A group whose switch begins is the only one that switches, where none did. -/
theorem Device.groupsIn_startSwitch (hdue : d.groupsIn p 2 = [g]) (hunder : d.groupsIn p 3 = []) :
    (d.startSwitch p g).groupsIn p 2 = [] ∧ (d.startSwitch p g).groupsIn p 3 = [g] := by
  have htaken : ∀ st, (d.takePage p g).groupsIn p st = d.groupsIn p st := fun st => Device.groupsIn_congr Device.switches_takePage st
  unfold Device.startSwitch
  refine ⟨Device.groupsIn_set_ne (by decide) fun m hm => ?_, Device.groupsIn_set_same ((htaken 3).trans hunder) (by decide) (by decide)⟩
  rw [htaken, hdue] at hm
  exact List.mem_singleton.mp hm

/-- The new page is the standby one. -/
theorem Device.startSwitch_page (hwf : d.RegsWf = true) :
    (d.startSwitch p g).get .grpDescActive p g = d.get .grpDesc p g ∧
    ∀ k ≤ fld (d.get .grpDesc p g) 16 12, (d.startSwitch p g).get .grpMemberActive p (pageIx (d.get .grpDesc p g) k) =
      d.get .grpMember p (pageIx (d.get .grpDesc p g) k) := by
  unfold Device.startSwitch
  rw [Device.takePage_eq]
  refine ⟨?_, fun k hk => ?_⟩
  · rw [Device.get_set_obj _ _ _ _ _ _ _ _ (by decide), Device.get_set_same]
    exact Nat.mod_eq_of_lt (Device.get_lt_of_regsWf hwf (o := .grpDesc) (show Obj.grpDesc.info.dflt < 2 ^ Obj.grpDesc.width by decide))
  · rw [Device.get_set_obj _ _ _ _ _ _ _ _ (by decide), Device.get_set_obj _ _ _ _ _ _ _ _ (by decide),
      Device.get_copyRegs (by decide) (List.mem_range.mpr (by omega))]
    exact Nat.mod_eq_of_lt (Device.get_lt_of_regsWf hwf (o := .grpMember)
      (show Obj.grpMember.info.dflt < 2 ^ Obj.grpMember.width by decide))

/-- While one group switches and none waits, a turn takes its switch on. -/
theorem Device.turn_of_switching (hdue : d.groupsIn p 2 = []) (hunder : d.groupsIn p 3 = [g]) :
    d.turn p = (d.send p).reformNext p g 4096 := by
  have hsent : ∀ st, (d.send p).groupsIn p st = d.groupsIn p st := fun st => Device.groupsIn_congr Device.switches_send st
  have hturn : d.turn p = ((d.send p).boundaries p).reforms p := rfl
  rw [hturn, Device.boundaries_of_none ((hsent 2).trans hdue), Device.reforms, hsent, hunder,
    List.foldl_cons, List.foldl_nil]

theorem Device.grpBoundary_met (hwf : d.RegsWf = true) (hdue : d.groupsIn p 2 = [g]) (hmet : d.grpBoundaryMet p g = true) :
    d.grpBoundary p g = (d.startSwitch p g).run p := by
  unfold Device.grpBoundary
  rw [Device.get_of_mem_groupsIn hwf (hdue ▸ List.mem_singleton_self g), hmet, if_pos (by decide)]

theorem Device.grpBoundary_unmet (h : d.get .grpState p g ≠ 2 ∨ d.grpBoundaryMet p g = false) : d.grpBoundary p g = d := by
  unfold Device.grpBoundary
  refine if_neg fun hall => ?_
  simp only [Bool.and_eq_true, decide_eq_true_eq] at hall
  obtain ⟨hstate, hmet⟩ := hall
  rcases h with h | h
  · exact h hstate
  · exact absurd (hmet.symm.trans h) (by decide)

/-- Every object but the active page of a group. -/
def besidePages : Nat := objs_all ^^^ 2 ^ Obj.grpMemberActive.ctorIdx ^^^ 2 ^ Obj.grpDescActive.ctorIdx

/-- Where no slot is active the switch is done as soon as it begins. -/
theorem Device.startSwitch_run_of_idle (hdue : d.groupsIn p 2 = [g]) (hunder : d.groupsIn p 3 = [])
    (hidle : d.activeSlots p = []) :
    ((d.startSwitch p g).run p).get .grpState p g = 0 ∧ ((d.startSwitch p g).run p).get .grpCommitCmd p g = 2 ∧
    Moves (d.startSwitch p g) ((d.startSwitch p g).run p) besidePages parts_all := by
  obtain ⟨hnone, hone⟩ := Device.groupsIn_startSwitch hdue hunder
  have hstarted : (d.startSwitch p g).activeSlots p = [] :=
    (Moves.activeSlots ((Moves.refl ..).startSwitch (Mask.of (by decide)) (Mask.of (by decide)))).trans hidle
  have hsent : ((d.startSwitch p g).send p).activeSlots p = [] :=
    (Moves.activeSlots (Device.moves_send.mono (Mask.of (by decide)) (Mask.of (by decide)))).trans hstarted
  rw [Device.run_of_idle hstarted, Device.turn_of_switching hnone hone, Device.reformNext_of_idle hsent 4095]
  obtain ⟨hstate, hcmd⟩ := Device.reformEnd_shows (d := (d.startSwitch p g).send p) (p := p) (g := g)
  exact ⟨hstate, hcmd, (Device.moves_send.mono (Mask.of (by decide)) (Mask.of (by decide))).reformEnd (Mask.of (by decide))
    (Mask.of (by decide))⟩

end
end Sys2Proof.Machine

/-! ### Results of other slots' contexts (spec/07 R149)

What leaves a reducer belongs to contexts that are in use. A slot with no context in use has none after results have gone out. -/

namespace Sys2Proof.Machine

/-- A record that is not the default stands in its table. -/
theorem Tbl.mem_of_get_ne {κ β : Type} [DecidableEq κ] {t : List (κ × β)} {k : κ} {z : β} (h : Tbl.get t k z ≠ z) :
    (k, Tbl.get t k z) ∈ t := by
  induction t with
  | nil => exact absurd rfl h
  | cons a r ih =>
    obtain ⟨j, w⟩ := a
    unfold Tbl.get at h ⊢
    split
    · next hj => rw [hj]; exact List.mem_cons_self
    · next hj =>
      rw [if_neg hj] at h
      exact List.mem_cons_of_mem _ (ih h)

/-- No context that a record gives to a slot is in use. -/
def Device.NoContext (d : Device) (p sl : Nat) : Prop := ∀ e ∈ d.rctxs, e.1.1 = p → e.2.slot = sl → d.ctxState p e.1.2 = 0

/-- Context y is in use for another slot, and none is in use for slot sl. -/
structure Device.Elsewhere (d : Device) (p y sl : Nat) : Prop where
  none : d.NoContext p sl
  other : (d.rctx p y).slot ≠ sl
  used : d.ctxState p y ≠ 0

section
variable {d e : Device} {p y sl : Nat}

theorem Device.slotCtxs_eq_nil_iff : d.slotCtxs p sl = [] ↔ d.NoContext p sl := by
  unfold Device.slotCtxs Device.NoContext
  simp only [List.map_eq_nil_iff, List.filter_eq_nil_iff, Bool.and_eq_true, decide_eq_true_eq, ne_eq, not_and, not_not, and_imp]

theorem Device.NoContext.of_beside (h : d.NoContext p sl) (k : Moves d e besideCtxRegs besideCtxs) : e.NoContext p sl := by
  intro r hr hp hs
  rw [show e.rctxs = d.rctxs from k.same .rctxs (by decide)] at hr
  exact (k.get .rctxState p r.1.2 (by decide)).trans (h r hr hp hs)

theorem Device.NoContext.elsewhere (h : d.NoContext p sl) (hused : d.ctxState p y ≠ 0) (hdest : (d.rctx p y).dest ≠ 0xFFFF) :
    d.Elsewhere p y sl := by
  refine ⟨h, fun hslot => hused ?_, hused⟩
  have hne : d.rctx p y ≠ {} := fun heq => hdest (by rw [heq])
  exact h _ (Tbl.mem_of_get_ne hne) rfl hslot

namespace Device.Elsewhere

theorem of_beside (h : d.Elsewhere p y sl) (k : Moves d e besideCtxRegs besideCtxs) : e.Elsewhere p y sl := by
  refine ⟨h.none.of_beside k, ?_, ?_⟩
  · unfold Device.rctx
    rw [show e.rctxs = d.rctxs from k.same .rctxs (by decide)]
    exact h.other
  · rw [show e.ctxState p y = d.ctxState p y from k.get .rctxState p y (by decide)]
    exact h.used

theorem setRctx {v : RctxSt} (hv : v.slot ≠ sl) (h : d.Elsewhere p y sl) : (d.setRctx p y v).Elsewhere p y sl := by
  refine ⟨fun r hr hp hs => ?_, ?_, h.used⟩
  · rcases Tbl.mem_put hr with rfl | ⟨hr, -⟩
    · exact absurd hs hv
    · exact h.none r hr hp hs
  · rw [Device.rctx_setRctx, if_pos ⟨rfl, rfl⟩]
    exact hv

theorem setState {v : Nat} (hv : v % 2 ^ Obj.rctxState.width ≠ 0) (h : d.Elsewhere p y sl) :
    (d.set .rctxState p y v).Elsewhere p y sl := by
  have hget : ∀ i, (d.set .rctxState p y v).ctxState p i = if i = y then v % 2 ^ Obj.rctxState.width else d.ctxState p i := fun i => by
    unfold Device.ctxState
    rw [Device.get_set]
    simp
  refine ⟨fun r hr hp hs => ?_, h.other, ?_⟩
  · have hidle := h.none r hr hp hs
    have hne : r.1.2 ≠ y := fun hy => h.used (hy ▸ hidle)
    rw [hget, if_neg hne]
    exact hidle
  · rw [hget, if_pos rfl]
    exact hv

theorem sendResults {l : List (Nat × Blk × Bool)} (h : d.Elsewhere p y sl) : (d.sendResults p y l).Elsewhere p y sl := by
  unfold Device.sendResults
  extract_lets c r pay g col
  split
  · split
    · exact h.of_beside ((Moves.refl ..).setCctx (Mask.of (by decide)) (Mask.of (by decide)))
    · exact h
  split
  · split
    · split
      · refine of_beside (setRctx ?_ h) ((Moves.refl ..).resultByHeader (Mask.of (by decide)) (Mask.of (by decide)))
        exact h.other
      · exact h
    · exact h
  split
  · exact h.of_beside ((Moves.refl ..).resultByHeader (Mask.of (by decide)) (Mask.of (by decide)))
  · exact h.of_beside ((Moves.refl ..).resultToSet (Mask.of (by decide)) (Mask.of (by decide)))

theorem foldl {α : Type} {g : Device → α → Device} (hg : ∀ e a, e.Elsewhere p y sl → (g e a).Elsewhere p y sl) {l : List α}
    (h : d.Elsewhere p y sl) : (l.foldl g d).Elsewhere p y sl := by
  induction l generalizing d with
  | nil => exact h
  | cons a t ih => exact ih (hg d a h)

end Device.Elsewhere

theorem Device.NoContext.emitResults (h : d.NoContext p sl) : (d.emitResults p y).1.NoContext p sl := by
  unfold Device.emitResults
  extract_lets c b0 ready res d1 per d2 d3 c'
  split
  · exact h
  next hruns =>
  simp only [Bool.or_eq_true, decide_eq_true_eq, not_or, ne_eq, not_not] at hruns
  obtain ⟨⟨hstate, hdest⟩, -⟩ := hruns
  have helse : d.Elsewhere p y sl := h.elsewhere (by omega) hdest
  have hcounted : d1.Elsewhere p y sl := helse.of_beside ((Moves.refl ..).count (by decide) (by decide) (by decide))
  clear_value d1
  have hsent : d2.Elsewhere p y sl := Device.Elsewhere.foldl (fun _ _ k => k.sendResults) hcounted
  clear_value d2
  have hdone : d3.Elsewhere p y sl := hsent.of_beside ((Moves.refl ..).set (by decide) (by decide))
  clear_value d3
  split
  · have hreturned := hdone.of_beside ((Moves.refl d3 besideCtxRegs besideCtxs).giveBack (p := p) (x := y) (Mask.of (by decide))
      (Mask.of (by decide)))
    exact ((hreturned.setState (v := 3) (by decide)).setRctx (v := { c' with blocks := [] }) hdone.other).none
  · exact hdone.none

theorem Device.NoContext.send (h : d.NoContext p sl) : (d.send p).NoContext p sl := by
  have hemitted : (d.emitReady p).NoContext p sl := by
    unfold Device.emitReady
    generalize (d.rctxs.filter _).map _ = l
    induction l generalizing d with
    | nil => exact h
    | cons y l ih =>
      refine ih ?_
      dsimp only
      split
      · exact h.emitResults.of_beside ((Moves.refl ..).cmpCommit (Mask.of (by decide)) (Mask.of (by decide)))
      · exact h.emitResults
  exact hemitted.of_beside ((Moves.refl ..).fireNotifies (Mask.of (by decide)) (Mask.of (by decide)))

end
end Sys2Proof.Machine

/-! ### The one active slot of a group that switches (spec/08 R186)

The switch aborts the slot, takes it back to step 0 with the next GEN and lets it go. A slot whose step 0 is a WAIT then stands there:
its target lies above the value of the sync object by the rise of the step (R173). -/

namespace Sys2Proof.Machine

/-! #### One slot alone is active -/

theorem Tbl.mem_put_self {κ β : Type} [DecidableEq κ] [DecidableEq β] {lt : κ → κ → Bool} {t : List (κ × β)} {k : κ} {v z : β}
    (h : v ≠ z) : (k, v) ∈ Tbl.put lt t k v z := by
  have hins : ∀ l : List (κ × β), (k, v) ∈ Tbl.ins lt k v l := fun l => by
    induction l with
    | nil => exact List.mem_cons_self
    | cons a r ih =>
      unfold Tbl.ins
      split
      · exact List.mem_cons_self
      · exact List.mem_cons_of_mem _ ih
  unfold Tbl.put
  rw [if_neg h]
  exact hins _

theorem findSome?_of_forall_eq {α β : Type} {l : List α} {a : α} {f : α → Option β} (hall : ∀ m ∈ l, m = a) (hmem : a ∈ l) :
    l.findSome? f = f a := by
  cases hfa : f a with
  | none => exact List.findSome?_eq_none_iff.mpr fun m hm => hall m hm ▸ hfa
  | some b =>
    obtain ⟨m, t, rfl⟩ := List.exists_cons_of_ne_nil (List.ne_nil_of_mem hmem)
    rw [List.findSome?_cons, hall m List.mem_cons_self, hfa]

/-- Slot sl is the only active one of a plane. -/
def Device.Alone (d : Device) (p sl : Nat) : Prop := ∀ m, m ∈ d.activeSlots p ↔ m = sl

section
variable {d e : Device} {p g sl : Nat}

theorem Device.mem_activeSlots {m : Nat} : m ∈ d.activeSlots p ↔
    (∃ v, ((p, m), v) ∈ d.slots) ∧ (d.get .slotState p m = 2 ∨ d.get .slotState p m = 3) := by
  unfold Device.activeSlots
  simp only [List.mem_filter, List.mem_map, decide_eq_true_eq, Bool.or_eq_true]
  refine and_congr_left fun _ => ⟨?_, ?_⟩
  · rintro ⟨⟨⟨q, n⟩, v⟩, ⟨hmem, hq⟩, hn⟩
    simp only at hq hn
    subst hq hn
    exact ⟨v, hmem⟩
  · rintro ⟨v, hmem⟩
    exact ⟨((p, m), v), ⟨hmem, rfl⟩, rfl⟩

namespace Device.Alone

theorem of_eq (h : d.activeSlots p = [sl]) : d.Alone p sl := fun m => by
  rw [h]
  exact List.mem_singleton

theorem of_beside (h : d.Alone p sl) (k : Moves d e besideSlotStates besideSlots) : e.Alone p sl := fun m => by
  rw [k.activeSlots]
  exact h m

theorem setSlot {v : SlotSt} (hv : v ≠ {}) (h : d.Alone p sl) : (d.setSlot p sl v).Alone p sl := fun m => by
  refine ⟨fun hm => ?_, fun hm => ?_⟩
  · obtain ⟨⟨w, hw⟩, hactive⟩ := Device.mem_activeSlots.mp hm
    rcases Tbl.mem_put hw with heq | ⟨hw, -⟩
    · exact congrArg (·.1.2) heq
    · exact (h m).mp (Device.mem_activeSlots.mpr ⟨⟨w, hw⟩, hactive⟩)
  · subst hm
    exact Device.mem_activeSlots.mpr ⟨⟨v, Tbl.mem_put_self hv⟩, (Device.mem_activeSlots.mp ((h m).mpr rfl)).2⟩

theorem runs (h : d.Alone p sl) : (d.set .slotState p sl 2).Alone p sl := fun m => by
  have hget : (d.set .slotState p sl 2).get .slotState p m = if m = sl then 2 else d.get .slotState p m := by
    rw [Device.get_set]
    simp
    rfl
  refine ⟨fun hm => ?_, fun hm => ?_⟩
  · by_contra hne
    obtain ⟨hrecord, hactive⟩ := Device.mem_activeSlots.mp hm
    rw [hget, if_neg hne] at hactive
    exact hne ((h m).mp (Device.mem_activeSlots.mpr ⟨hrecord, hactive⟩))
  · obtain ⟨hrecord, -⟩ := Device.mem_activeSlots.mp ((h m).mpr hm)
    exact Device.mem_activeSlots.mpr ⟨hrecord, .inl (by rw [hget, if_pos hm])⟩

theorem groupSlots (h : d.Alone p sl) (hsl : sl ≤ 0x3FF) (hgroup : d.get .slotGroup p sl = g) : d.groupSlots p g = [sl] := by
  unfold Device.groupSlots
  refine List.perm_singleton.mp ((List.perm_ext_iff_of_nodup (List.nodup_range.filter _) (List.nodup_singleton sl)).mpr fun m => ?_)
  simp only [List.mem_filter, List.mem_range, Bool.and_eq_true, List.contains_iff_mem, decide_eq_true_eq, List.mem_singleton, h m]
  constructor
  · exact fun hm => hm.2.1
  · rintro rfl
    exact ⟨by omega, rfl, hgroup⟩

theorem nextMove (h : d.Alone p sl) : d.nextMove p = d.slotMove p sl :=
  findSome?_of_forall_eq (fun m hm => (h m).mp hm) ((h sl).mpr rfl)

end Device.Alone

/-! #### The slot restarts -/

theorem Device.waitRise_pos {i : Nat} (hkind : stKind (d.stepWord p sl i) = 1) (hlive : d.slotLive p sl ≠ []) :
    0 < d.waitRise p sl i := by
  unfold Device.waitRise
  dsimp only
  rw [if_neg (not_not_intro hkind)]
  split
  · exact List.length_pos_iff.mpr hlive
  · omega

/-- What a slot keeps of its record when it restarts. -/
def SlotSt.restarted (s : SlotSt) (t : List Nat) : SlotSt := { targets := t, launch := s.launch, queued := s.queued, reformed := 2 }

/-- Every object but the states, groups and programs of slots, sync values, and the states and active pages of groups. -/
def besidePrograms : Nat := objs_all ^^^ 2 ^ Obj.slotState.ctorIdx ^^^ 2 ^ Obj.slotGroup.ctorIdx ^^^ 2 ^ Obj.slotStep.ctorIdx ^^^
  2 ^ Obj.syncValue.ctorIdx ^^^ 2 ^ Obj.grpState.ctorIdx ^^^ 2 ^ Obj.grpDescActive.ctorIdx ^^^ 2 ^ Obj.grpMemberActive.ctorIdx

theorem Moves.slotLive {mp : Nat} (h : Moves d e besidePrograms mp) : e.slotLive p sl = d.slotLive p sl :=
  Device.slotLive_congr fun o ho i => by
    rcases ho with rfl | rfl | rfl
    · exact h.get .slotGroup p i (by decide)
    · exact h.get .grpDescActive p i (by decide)
    · exact h.get .grpMemberActive p i (by decide)

theorem Device.reformRestart_shows (hlive : d.slotLive p sl ≠ []) : ∃ (r : Device) (t : List Nat),
    d.reformRestart p sl = (r.setSlot p sl ((d.slot p sl).restarted t)).set .slotState p sl 2 ∧
    Moves d r besidePrograms besideSlots ∧
    r.get .slotGen p sl = (d.get .slotGen p sl + 1) % 256 ∧ r.get .slotStepNow p sl = 0 ∧
    t ≠ [] ∧ (stKind (d.stepWord p sl 0) = 1 → nth t 0 = d.syncVal p (stSync (d.stepWord p sl 0)) + d.waitRise p sl 0) := by
  unfold Device.reformRestart
  extract_lets xs d1 d2 d3 s t d4 d5
  have hfreed : Moves d d2 (besidePrograms ^^^ 2 ^ Obj.slotGen.ctorIdx) besideSlots := Moves.foldl
    (Moves.foldl (.refl ..) fun d x => Moves.ite (fun _ => .refl ..)
      fun _ => (Moves.refl ..).releaseCtx (Mask.of (by decide)) (Mask.of (by decide)))
    fun d k => (Moves.refl ..).cmpRestart (Mask.of (by decide)) (Mask.of (by decide))
  have hgen : d3.get .slotGen p sl = (d.get .slotGen p sl + 1) % 256 := by
    refine (Device.get_set_obj _ _ _ _ _ _ _ _ (by decide)).trans ((Device.get_set_same _ _ _ _ _).trans ?_)
    rw [hfreed.get .slotGen p sl (by decide)]
    exact Nat.mod_mod _ _
  have hstep : d3.get .slotStepNow p sl = 0 := Device.get_set_same _ _ _ _ _
  have hnext : Moves d d3 besidePrograms besideSlots :=
    ((hfreed.mono (Mask.of (by decide)) (Mask.of (by decide))).set (by decide) (by decide)).set (by decide) (by decide)
  clear_value d3
  have hpassed : Moves d3 d5 (besidePrograms ^^^ 2 ^ Obj.slotGen.ctorIdx ^^^ 2 ^ Obj.slotStepNow.ctorIdx) besideSlots := Moves.foldl
    ((Moves.refl ..).tellMembers (Mask.of (by decide)) (Mask.of (by decide))) fun d x => Moves.ite
    (fun _ => ((Moves.refl ..).passAbort (Mask.of (by decide)) (Mask.of (by decide))).setRctx (Mask.of (by decide))
      (Mask.of (by decide))) fun _ => .refl ..
  clear_value d5
  have hs : s = d.slot p sl := by
    unfold s Device.slot
    rw [show d3.slots = d.slots from hnext.same .slots (by decide)]
  have hword : ∀ i, d3.stepWord p sl i = d.stepWord p sl i := fun i => hnext.get .slotStep p _ (by decide)
  refine ⟨d5, t, ?_, hnext.step (hpassed.mono (Mask.of (by decide)) (Mask.of (by decide))), ?_, ?_, ?_, fun hkind => ?_⟩
  · rw [if_neg (by rw [hnext.slotLive]; exact hlive), hs]
    rfl
  · rw [hpassed.get .slotGen p sl (by decide), hgen]
  · rw [hpassed.get .slotStepNow p sl (by decide), hstep]
  · simp [t]
  · have hrise : d3.waitRise p sl 0 = d.waitRise p sl 0 := by
      unfold Device.waitRise
      rw [hword, hnext.slotLive]
    have hval : d3.syncVal p (stSync (d.stepWord p sl 0)) = d.syncVal p (stSync (d.stepWord p sl 0)) :=
      hnext.get .syncValue p _ (by decide)
    simp [t, nth, hword, hkind, hrise, hval]

/-! #### The slot waits -/

/-- The only active slot runs and stands before a WAIT at step 0 whose value is still to come; its group is idle. -/
structure Device.Waits (d : Device) (p g sl gen launch : Nat) : Prop where
  alone : d.Alone p sl
  group : d.get .slotGroup p sl = g
  idle : d.get .grpState p g = 0
  state : d.get .slotState p sl = 2
  step : d.get .slotStepNow p sl = 0
  gen : d.get .slotGen p sl = gen
  launch : (d.slot p sl).launch = launch
  released : (d.slot p sl).reformed = 0
  kind : stKind (d.stepWord p sl 0) = 1
  above : d.syncVal p (stSync (d.stepWord p sl 0)) < nth (d.slot p sl).targets 0

/-- Every object that a slot before a WAIT does not depend on. -/
def besideWait : Nat := besidePrograms ^^^ 2 ^ Obj.slotStepNow.ctorIdx ^^^ 2 ^ Obj.slotGen.ctorIdx

namespace Device.Waits

variable {n l : Nat}

theorem of_beside (h : d.Waits p g sl n l) (k : Moves d e besideWait besideSlots) : e.Waits p g sl n l := by
  have hslot : e.slot p sl = d.slot p sl := by
    unfold Device.slot
    rw [show e.slots = d.slots from k.same .slots (by decide)]
  have hword : e.stepWord p sl 0 = d.stepWord p sl 0 := k.get .slotStep p _ (by decide)
  obtain ⟨halone, hgroup, hidle, hstate, hstep, hgen, hlaunch, hreleased, hkind, habove⟩ := h
  refine ⟨halone.of_beside (k.mono (Mask.of (by decide)) (Mask.of (by decide))), ?_, ?_, ?_, ?_, ?_, ?_, ?_, ?_, ?_⟩
  · rw [k.get .slotGroup p sl (by decide), hgroup]
  · rw [k.get .grpState p g (by decide), hidle]
  · rw [k.get .slotState p sl (by decide), hstate]
  · rw [k.get .slotStepNow p sl (by decide), hstep]
  · rw [k.get .slotGen p sl (by decide), hgen]
  · rw [hslot, hlaunch]
  · rw [hslot, hreleased]
  · rw [hword, hkind]
  · rw [hslot, hword, show e.syncVal p _ = d.syncVal p _ from k.get .syncValue p _ (by decide)]
    exact habove

theorem acts (h : d.Waits p g sl n l) : (d.setSlot p sl { d.slot p sl with acted := true }).Waits p g sl n l := by
  have hslot : (d.setSlot p sl { d.slot p sl with acted := true }).slot p sl = { d.slot p sl with acted := true } :=
    (Device.slot_setSlot ..).trans (if_pos ⟨rfl, rfl⟩)
  obtain ⟨halone, hgroup, hidle, hstate, hstep, hgen, hlaunch, hreleased, hkind, habove⟩ := h
  refine ⟨halone.setSlot fun heq => Bool.noConfusion (congrArg SlotSt.acted heq), hgroup, hidle, hstate, hstep, hgen, ?_, ?_, hkind, ?_⟩
  · rw [hslot]; exact hlaunch
  · rw [hslot]; exact hreleased
  · rw [hslot]; exact habove

/-- A slot before a WAIT whose value is still to come only takes the step's action. -/
theorem slotMove (h : d.Waits p g sl n l) (hmove : d.slotMove p sl = some e) :
    e = d.setSlot p sl { d.slot p sl with acted := true } := by
  have hkind : stKind (d.stepWord p sl (d.get .slotStepNow p sl)) = 1 := h.step ▸ h.kind
  unfold Device.slotMove at hmove
  dsimp only at hmove
  rw [if_neg ?runs, if_neg (by rw [hkind]; decide)] at hmove
  case runs => simp [h.state, h.released, Device.reformMark, h.group, h.idle]
  split at hmove
  · rw [← Option.some.inj hmove]
    unfold Device.stepAct
    dsimp only
    simp [hkind]
  · have hdone : d.stepDone p sl = false := by
      unfold Device.stepDone
      dsimp only
      rw [if_pos hkind, h.step]
      simpa using h.above
    simp [hkind, hdone] at hmove

theorem send (h : d.Waits p g sl n l) : (d.send p).Waits p g sl n l :=
  h.of_beside (Device.moves_send.mono (Mask.of (by decide)) (Mask.of (by decide)))

theorem nextMove (h : d.Waits p g sl n l) (hswitch : d.noSwitch p = true) (hmove : d.nextMove p = some e) :
    e.Waits p g sl n l ∧ e.noSwitch p = true := by
  rw [h.alone.nextMove] at hmove
  refine ⟨h.slotMove hmove ▸ h.acts, ?_⟩
  rw [Device.noSwitch_congr (Device.switches_slotMove hmove)]
  exact hswitch

theorem runSlots {fuel : Nat} (h : d.Waits p g sl n l) (hswitch : d.noSwitch p = true) : (d.runSlots p fuel).Waits p g sl n l := by
  induction fuel generalizing d with
  | zero => exact h
  | succ fuel ih =>
    have hturn : (d.turn p).Waits p g sl n l := by
      rw [Device.turn_of_noSwitch hswitch]
      exact h.send
    cases hmove : (d.turn p).nextMove p with
    | none =>
      rw [Device.runSlots_of_none hmove]
      exact hturn
    | some e =>
      rw [Device.runSlots_of_move hmove]
      obtain ⟨hnext, hnone⟩ := hturn.nextMove (Device.noSwitch_turn hswitch) hmove
      exact ih hnext hnone

/-- A slot that waits after the first turn of a run waits after the run. -/
theorem run_of_turn (h : (d.turn p).Waits p g sl n l) (hswitch : (d.turn p).noSwitch p = true) : (d.run p).Waits p g sl n l := by
  unfold Device.run
  cases hmove : (d.turn p).nextMove p with
  | none =>
    rw [Device.runSlots_of_none hmove]
    exact h
  | some e =>
    rw [Device.runSlots_of_move hmove]
    obtain ⟨hnext, hnone⟩ := h.nextMove hswitch hmove
    exact hnext.runSlots hnone

end Device.Waits

end
end Sys2Proof.Machine

/-! ### The switch of a group with one active slot (spec/08 R186) -/

namespace Sys2Proof.Machine

/-- The only active slot of a plane, of group g, that a switch of g has restarted at a WAIT whose value is still to come. -/
structure Device.Restarted (d : Device) (p g sl gen launch : Nat) : Prop where
  alone : d.Alone p sl
  group : d.get .slotGroup p sl = g
  state : d.get .slotState p sl = 2
  step : d.get .slotStepNow p sl = 0
  gen : d.get .slotGen p sl = gen
  launch : (d.slot p sl).launch = launch
  restarted : (d.slot p sl).reformed = 2
  targets : (d.slot p sl).targets ≠ []
  kind : stKind (d.stepWord p sl 0) = 1
  above : d.syncVal p (stSync (d.stepWord p sl 0)) < nth (d.slot p sl).targets 0

section
variable {d : Device} {p g sl n l : Nat}

/-! #### The slot restarts -/

theorem Device.restarted_reformRestart (halone : d.Alone p sl) (hgroup : d.get .slotGroup p sl = g)
    (hlive : d.slotLive p sl ≠ []) (hkind : stKind (d.stepWord p sl 0) = 1) :
    (d.reformRestart p sl).Restarted p g sl ((d.get .slotGen p sl + 1) % 256) (d.slot p sl).launch := by
  obtain ⟨r, t, hrestart, hmoves, hgen, hstep, hne, htarget⟩ := Device.reformRestart_shows hlive
  have hslot : (d.reformRestart p sl).slot p sl = (d.slot p sl).restarted t := by
    rw [hrestart, Device.slot_set]
    exact (Device.slot_setSlot ..).trans (if_pos ⟨rfl, rfl⟩)
  have hget : ∀ o i, o ≠ .slotState → (d.reformRestart p sl).get o p i = r.get o p i := fun o i ho => by
    rw [hrestart]
    exact Device.get_set_obj _ _ _ _ _ _ _ _ ho
  have hword : (d.reformRestart p sl).stepWord p sl 0 = d.stepWord p sl 0 :=
    (hget _ _ (by decide)).trans (hmoves.get .slotStep p _ (by decide))
  have hmarked : (d.slot p sl).restarted t ≠ {} := fun heq => Nat.noConfusion (congrArg SlotSt.reformed heq)
  refine ⟨?alone, ?group, ?state, ?step, ?gen, ?launch, ?restarted, ?targets, ?kind, ?above⟩
  case alone =>
    rw [hrestart]
    exact (Device.Alone.setSlot hmarked (halone.of_beside (hmoves.mono (Mask.of (by decide)) (Mask.of (by decide))))).runs
  case group => rw [hget _ _ (by decide), hmoves.get .slotGroup p sl (by decide), hgroup]
  case state =>
    rw [hrestart]
    exact Device.get_set_same _ _ _ _ _
  case step => rw [hget _ _ (by decide), hstep]
  case gen => rw [hget _ _ (by decide), hgen]
  case launch => rw [hslot]; rfl
  case restarted => rw [hslot]; rfl
  case targets => rw [hslot]; exact hne
  case kind => rw [hword, hkind]
  case above =>
    have hval : (d.reformRestart p sl).syncVal p (stSync (d.stepWord p sl 0)) = d.syncVal p (stSync (d.stepWord p sl 0)) :=
      (hget _ _ (by decide)).trans (hmoves.get .syncValue p _ (by decide))
    have hrise := Device.waitRise_pos hkind hlive
    rw [hslot, hword, hval]
    show _ < nth t 0
    rw [htarget hkind]
    omega

theorem Device.slot_setReformed (d : Device) (p sl k : Nat) : (d.setReformed p sl k).slot p sl = { d.slot p sl with reformed := k } :=
  (Device.slot_setSlot ..).trans (if_pos ⟨rfl, rfl⟩)

/-- The first turn of the switch restarts the slot, which has no context to abort. -/
theorem Device.reformTurn_of_alone (halone : d.Alone p sl) (hsl : sl ≤ 0x3FF) (hgroup : d.get .slotGroup p sl = g)
    (hreformed : (d.slot p sl).reformed = 0) (hnone : d.slotCtxs p sl = []) :
    d.reformTurn p g = ((d.setReformed p sl 1).reformRestart p sl, true) := by
  have hctxs : (d.setReformed p sl 1).slotCtxs p sl = [] := hnone
  have habort : d.reformAbort p sl = d.setReformed p sl 1 := by
    unfold Device.reformAbort
    rw [hnone]
    rfl
  unfold Device.reformTurn
  rw [halone.groupSlots hsl hgroup, List.find?_cons_of_pos (by simp [hreformed])]
  dsimp only
  rw [if_pos hreformed, habort, if_neg (by simp [Device.slot_setReformed]), hctxs, if_neg (by simp)]

/-! #### The switch ends -/

namespace Device.Restarted

theorem reformTurn (h : d.Restarted p g sl n l) (hsl : sl ≤ 0x3FF) : d.reformTurn p g = (d.reformEnd p g, false) := by
  unfold Device.reformTurn
  rw [h.alone.groupSlots hsl h.group, List.find?_cons_of_neg (by simp [h.restarted]), List.find?_nil]

/-- The end of a switch lets the group's one active slot go. -/
theorem slot_reformEnd (h : d.Restarted p g sl n l) (hsl : sl ≤ 0x3FF) :
    (d.reformEnd p g).slot p sl = { d.slot p sl with reformed := 0 } ∧ (d.reformEnd p g).Alone p sl := by
  have hstandby : Moves d (d.standby p g) besidePrograms besideSlots := Device.moves_copyRegs (by decide) (by decide)
  have halone : (d.standby p g).Alone p sl := h.alone.of_beside (hstandby.mono (Mask.of (by decide)) (Mask.of (by decide)))
  have hslots : (d.standby p g).slot p sl = d.slot p sl := Device.slot_congr (hstandby.same .slots (by decide)) p sl
  have hlet : (d.standby p g).letGo p g = (d.standby p g).setSlot p sl { d.slot p sl with reformed := 0 } := by
    unfold Device.letGo
    rw [halone.groupSlots hsl ((hstandby.get .slotGroup p sl (by decide)).trans h.group), List.foldl_cons, List.foldl_nil,
      Device.setReformed, hslots]
  have hgone := halone.setSlot (v := { d.slot p sl with reformed := 0 }) fun heq => h.targets (congrArg SlotSt.targets heq)
  rw [Device.reformEnd_eq, hlet]
  refine ⟨?_, hgone.of_beside (Moves.set (Moves.set (Moves.set (Moves.refl ..) ?_ ?_) ?_ ?_) ?_ ?_)⟩
  · simp only [Device.slot_set]
    exact (Device.slot_setSlot ..).trans (if_pos ⟨rfl, rfl⟩)
  all_goals decide

/-- A slot that a switch has restarted at a WAIT stands before it when the switch ends. -/
theorem reformEnd (h : d.Restarted p g sl n l) (hsl : sl ≤ 0x3FF) : (d.reformEnd p g).Waits p g sl n l := by
  obtain ⟨hslot, halone⟩ := h.slot_reformEnd hsl
  have hmoves : Moves d (d.reformEnd p g) objs_reformEnd parts_reformEnd := (Moves.refl ..).reformEnd (Mask.le_refl _) (Mask.le_refl _)
  have hword : (d.reformEnd p g).stepWord p sl 0 = d.stepWord p sl 0 := hmoves.get .slotStep p _ (by decide)
  refine ⟨halone, ?group, ?idle, ?state, ?step, ?gen, ?launch, ?released, ?kind, ?above⟩
  case group => rw [hmoves.get .slotGroup p sl (by decide), h.group]
  case idle => exact Device.reformEnd_shows.1
  case state => rw [hmoves.get .slotState p sl (by decide), h.state]
  case step => rw [hmoves.get .slotStepNow p sl (by decide), h.step]
  case gen => rw [hmoves.get .slotGen p sl (by decide), h.gen]
  case launch => rw [hslot]; exact h.launch
  case released => rw [hslot]
  case kind => rw [hword, h.kind]
  case above =>
    rw [hslot, hword, show (d.reformEnd p g).syncVal p _ = d.syncVal p _ from hmoves.get .syncValue p _ (by decide)]
    exact h.above

end Device.Restarted

/-! #### The whole switch -/

/-- What the switch of a group does to its one active slot, which has no context and stands at a WAIT when it restarts. -/
theorem Device.reformNext_of_alone (halone : d.Alone p sl) (hsl : sl ≤ 0x3FF) (hgroup : d.get .slotGroup p sl = g)
    (hreformed : (d.slot p sl).reformed = 0) (hnone : d.slotCtxs p sl = []) (hlive : d.slotLive p sl ≠ [])
    (hkind : stKind (d.stepWord p sl 0) = 1) (fuel : Nat) :
    (d.reformNext p g (fuel + 2)).Waits p g sl ((d.get .slotGen p sl + 1) % 256) (d.slot p sl).launch ∧
    ∀ st, st ≠ 0 → (∀ m ∈ d.groupsIn p st, m = g) → (d.reformNext p g (fuel + 2)).groupsIn p st = [] := by
  have hfirst := Device.reformTurn_of_alone halone hsl hgroup hreformed hnone
  have halone' : (d.setReformed p sl 1).Alone p sl := halone.setSlot fun heq => Nat.noConfusion (congrArg SlotSt.reformed heq)
  have hrestarted := Device.restarted_reformRestart halone' (g := g) hgroup hlive hkind
  have hlaunch : ((d.setReformed p sl 1).slot p sl).launch = (d.slot p sl).launch := by
    rw [Device.slot_setReformed]
  have hswitches : ((d.setReformed p sl 1).reformRestart p sl).switches = d.switches :=
    Device.switches_reformRestart.trans Device.switches_setSlot
  rw [hlaunch] at hrestarted
  generalize (d.setReformed p sl 1).reformRestart p sl = b at hfirst hrestarted hswitches
  have hend : d.reformNext p g (fuel + 2) = b.reformEnd p g := by
    unfold Device.reformNext
    rw [hfirst]
    dsimp only
    unfold Device.reformNext
    rw [hrestarted.reformTurn hsl]
    rfl
  rw [hend]
  refine ⟨hrestarted.reformEnd hsl, fun st hst hothers => Device.groupsIn_reformEnd hst ?_⟩
  rw [Device.groupsIn_congr hswitches]
  exact hothers

/-- The members of the page that a switch takes are those in force. -/
theorem Device.slotLive_startSwitch (hwf : d.RegsWf = true) (hgroup : d.get .slotGroup p sl = g)
    (htenant : fld (d.get .grpDesc p g) 52 12 ≠ 0) (hlive : d.pageLive (d.get .grpDesc p g) .grpMember p ≠ []) :
    (d.startSwitch p g).slotLive p sl ≠ [] := by
  obtain ⟨hdesc, hmembers⟩ := Device.startSwitch_page (p := p) (g := g) hwf
  have hbegun : Moves d (d.startSwitch p g) objs_startSwitch parts_startSwitch :=
    (Moves.refl ..).startSwitch (Mask.le_refl _) (Mask.le_refl _)
  have hsame : (d.startSwitch p g).slotLive p sl = (List.range (fld (d.get .grpDesc p g) 16 12 + 1)).filter
      (fun m => !bit (d.get .grpMember p (pageIx (d.get .grpDesc p g) m)) 0) := by
    unfold Device.slotLive Device.liveMembers Device.members Device.member
    rw [hbegun.get .slotGroup p sl (by decide), hgroup, hdesc, if_neg htenant]
    refine List.filter_congr fun m hm => ?_
    rw [← hmembers m (Nat.lt_succ_iff.mp (List.mem_range.mp hm))]
    rfl
  unfold Device.pageLive at hlive
  rw [List.filter_map] at hlive
  rw [hsame]
  exact fun hnil => hlive (List.map_eq_nil_iff.mpr hnil)

/-- A boundary whose group has one active slot: the slot restarts and waits, and the group is idle. -/
theorem Device.startSwitch_run_of_alone (hwf : d.RegsWf = true) (hdue : d.groupsIn p 2 = [g]) (hunder : d.groupsIn p 3 = [])
    (halone : d.Alone p sl) (hsl : sl ≤ 0x3FF) (hgroup : d.get .slotGroup p sl = g) (hreformed : (d.slot p sl).reformed = 0)
    (hnone : d.slotCtxs p sl = []) (htenant : fld (d.get .grpDesc p g) 52 12 ≠ 0)
    (hlive : d.pageLive (d.get .grpDesc p g) .grpMember p ≠ []) (hkind : stKind (d.stepWord p sl 0) = 1) :
    ((d.startSwitch p g).run p).Waits p g sl ((d.get .slotGen p sl + 1) % 256) (d.slot p sl).launch := by
  obtain ⟨hnodue, hone⟩ := Device.groupsIn_startSwitch hdue hunder
  have hctxs : (d.startSwitch p g).NoContext p sl := (Device.slotCtxs_eq_nil_iff.mp hnone).of_beside
    ((Moves.refl ..).startSwitch (Mask.of (by decide)) (Mask.of (by decide)))
  have hlive' : (d.startSwitch p g).slotLive p sl ≠ [] := Device.slotLive_startSwitch hwf hgroup htenant hlive
  have hturn := Device.turn_of_switching hnodue hone
  have hmoves : Moves d ((d.startSwitch p g).send p) (objs_startSwitch ||| objs_emitReady ||| objs_fireNotifies) besideSlots :=
    Moves.step ((Moves.refl ..).startSwitch (Mask.of (by decide)) (Mask.of (by decide)))
      (Device.moves_send.mono (Mask.of (by decide)) (Mask.of (by decide)))
  have hsentLive : ((d.startSwitch p g).send p).slotLive p sl ≠ [] := by
    rw [Moves.slotLive (Device.moves_send.mono (Mask.of (by decide)) (Mask.le_refl _))]
    exact hlive'
  have hsentCtxs : ((d.startSwitch p g).send p).slotCtxs p sl = [] := Device.slotCtxs_eq_nil_iff.mpr hctxs.send
  have hgroups : ∀ st, ((d.startSwitch p g).send p).groupsIn p st = (d.startSwitch p g).groupsIn p st := fun st =>
    Device.groupsIn_congr Device.switches_send st
  generalize (d.startSwitch p g).send p = e at hturn hmoves hsentLive hsentCtxs hgroups
  have hslot : e.slot p sl = d.slot p sl := Device.slot_congr (hmoves.same .slots (by decide)) p sl
  have hword : e.stepWord p sl 0 = d.stepWord p sl 0 := hmoves.get .slotStep p _ (by decide)
  obtain ⟨hwaits, hends⟩ := Device.reformNext_of_alone (halone.of_beside (hmoves.mono (Mask.of (by decide)) (Mask.of (by decide)))) hsl
    ((hmoves.get .slotGroup p sl (by decide)).trans hgroup) (hslot ▸ hreformed) hsentCtxs hsentLive (hword ▸ hkind) 4094
  rw [hmoves.get .slotGen p sl (by decide), hslot, ← hturn] at hwaits
  rw [← hturn] at hends
  exact hwaits.run_of_turn (Device.noSwitch_iff.mpr
    ⟨hends 2 (by decide) (by simp [hgroups, hnodue]), hends 3 (by decide) (by simp [hgroups, hone])⟩)

end
end Sys2Proof.Machine

/-! ### Groups and counts (spec/08 R174 to R176, R185 to R187) -/

namespace Sys2Proof.Machine

section
variable {s : State} {p : Plane}

theorem exec_counts (f : Sys2Proof.Frame) (hlive : s.dev.live p = true) :
    exec (.counts p f) s = .next { s with dev := ((s.dev.takeIn p unitSeq f).countsRx p f).settle } := by
  show execCounts p f s = _
  exact State.runOn_eq hlive rfl

theorem exec_grpBoundary (g : GroupId) (hlive : s.dev.live p = true) :
    exec (.grpBoundary p g) s = .next { s with dev := (s.dev.grpBoundary p g).settle } := by
  show execGrpBoundary p g s = _
  exact State.runOn_eq hlive rfl

/-- A request without a slot to count for is counted as stale. -/
theorem Device.countsRx_stale {f : Sys2Proof.Frame} (h : s.dev.countsSlot p f = none) :
    ((s.dev.takeIn p unitSeq f).countsRx p f).get .seqStale p 0 = min (s.dev.get .seqStale p 0 + 1) (2 ^ 32 - 1) := by
  obtain ⟨l, hl⟩ := Device.takeIn_eq s.dev p unitSeq f
  have hnone : ({ s.dev with inbox := l } : Device).countsSlot p f = none := h
  rw [hl]
  unfold Device.countsRx
  rw [hnone]
  exact Device.get_count_narrow _ .seqStale p 0 1 (by decide)

end

section
variable {d : Device} {p sl : Nat} {f : Sys2Proof.Frame}

/-- A request of another tenant is counted and raises the cause. -/
theorem Device.countsFor_otherTenant_shows (h : d.WellShaped p sl f) (htenant : f.tenant ≠ d.get .slotTenant p sl) :
    (d.countsFor p sl f).get .seqTenantReject p 0 = min (d.get .seqTenantReject p 0 + 1) (2 ^ 32 - 1) ∧
    bit ((d.countsFor p sl f).get .cause p 4) 2 = true := by
  rw [Device.countsFor_otherTenant h htenant]
  exact ⟨(Device.get_latch_obj _ _ _ _ _ _ _ _ (by decide) (by decide) (by decide)).trans
    (Device.get_count_narrow _ .seqTenantReject p 0 1 (by decide)), Device.bit_latch _ _ _ _ _ (by decide)⟩

/-- A request of a device that is no member is counted, and nothing else changes. -/
theorem Device.countsFor_nonmember_shows (h : d.WellShaped p sl f) (htenant : f.tenant = d.get .slotTenant p sl)
    (hmember : d.memberOf p (d.get .slotGroup p sl) f.srcDevice f.srcPort = none) :
    (d.countsFor p sl f).get .seqNonmember p 0 = min (d.get .seqNonmember p 0 + 1) (2 ^ 32 - 1) ∧
    Device.Frame d (d.countsFor p sl f).settle (fun o q i => o = .seqNonmember ∧ q = p ∧ i = 0) := by
  rw [Device.countsFor_nonmember h htenant hmember]
  exact ⟨Device.get_count_narrow d .seqNonmember p 0 1 (by decide),
    (Device.frame_bump d .seqNonmember p 0 _ (.inr ⟨rfl, rfl, rfl⟩)).trans (Device.frame_settle _ _)⟩

/-- What a request does that is laid out as Table 8.9 says: checks 2 to 4 of Table 8.6, and what it asks to count. -/
theorem Device.countsFor_shows (h : d.WellShaped p sl f) :
    (f.tenant ≠ d.get .slotTenant p sl →
      (d.countsFor p sl f).settle.get .seqTenantReject p 0 = min (d.get .seqTenantReject p 0 + 1) (2 ^ 32 - 1) ∧
      bit ((d.countsFor p sl f).settle.get .cause p 4) 2 = true) ∧
    (f.tenant = d.get .slotTenant p sl → d.memberOf p (d.get .slotGroup p sl) f.srcDevice f.srcPort = none →
      (d.countsFor p sl f).settle.get .seqNonmember p 0 = min (d.get .seqNonmember p 0 + 1) (2 ^ 32 - 1) ∧
      Device.Frame d (d.countsFor p sl f).settle (fun o q i => o = .seqNonmember ∧ q = p ∧ i = 0)) ∧
    ∀ m i, f.tenant = d.get .slotTenant p sl → d.memberOf p (d.get .slotGroup p sl) f.srcDevice f.srcPort = some m →
      d.get .slotState p sl = 3 → d.noSwitch p = true → d.countsStep p sl = some i →
      (d.countDests p (stAux (d.stepWord p sl i)) < fld (beNat f.payload 0 4) 16 10 + fld (beNat f.payload 0 4) 0 11 →
        (d.countsFor p sl f).settle.get .slotState p sl = 4 ∧ (d.countsFor p sl f).settle.get .slotStatus p sl = 0x22) ∧
      (stAux (d.stepWord p sl i) = 0xFFF → fld (beNat f.payload 0 4) 0 11 = 1 → fld (beNat f.payload 0 4) 16 10 = 0 →
        (d.slot p sl).lasts = [] → (d.slot p sl).counts = [] →
        ((d.countsFor p sl f).settle.slot p sl).counts = [(m, 0, beNat f.payload 4 4)] ∧
        ((d.countsFor p sl f).settle.slot p sl).lasts = if bit f.flags 5 then [m] else []) := by
  have hget : ∀ (e : Device) {o : Obj} {i : Nat}, o.computed = false → e.settle.get o p i = e.get o p i := fun e o i h =>
    Device.get_settle e o p i h
  refine ⟨fun htenant => ?_, fun htenant hmember => ?_, fun m i htenant hmember hstate hswitch hstep =>
    ⟨fun hpast => ?_, fun haux hone hfirst hlasts hcounts => ?_⟩⟩
  · rw [hget _ rfl, hget _ rfl]
    exact Device.countsFor_otherTenant_shows h htenant
  · rw [hget _ rfl]
    exact Device.countsFor_nonmember_shows h htenant hmember
  · rw [hget _ rfl, hget _ rfl, Device.countsFor_high h htenant hmember hstate hstep hpast]
    obtain ⟨hfailed, hstatus, -⟩ := Device.failSlot_run_shows d p sl 0x22
    exact ⟨hfailed, hstatus⟩
  · rw [Device.slot_settle, Device.countsFor_first h htenant hmember hstate hstep haux hone hfirst hlasts hcounts,
      (Device.setSlot_run d p sl _ hswitch (by omega)).1]
    exact ⟨rfl, rfl⟩

end

/-- Whether `grp_exclude` takes a member index does not depend on the message that shows the fault manager present. -/
theorem Device.grpExcludeOk_fmMessage {d : Device} {p ses g v : Nat} (hsel : d.sel .grpSel p 0 ses = g) :
    (d.fmMessage ses).grpExcludeOk p ses v =
      decide (v ≤ fld (if d.get .grpState p g = 3 then d.get .grpDescActive p g else d.get .grpDesc p g) 16 12) := by
  unfold Device.grpExcludeOk
  rw [Device.sel_fmMessage _ _ _ _ _ _ rfl (by decide) (by decide) (by decide), hsel]
  simp only [Device.get_fmMessage_obj d ses .grpState p _ rfl (by decide) (by decide) (by decide),
    Device.get_fmMessage_obj d ses .grpDescActive p _ rfl (by decide) (by decide) (by decide),
    Device.get_fmMessage_obj d ses .grpDesc p _ rfl (by decide) (by decide) (by decide)]

/-- An exclusion that follows the message, by the state of the group. -/
theorem Device.grpExclude_shows {d : Device} {p ses g v : Nat} (hsel : d.sel .grpSel p 0 ses = g) :
    (d.get .grpState p g ≤ 1 → ((d.fmMessage ses).grpExclude p ses v).get .grpState p g = 1 ∧
      bit (((d.fmMessage ses).grpExclude p ses v).get .grpMember p (pageIx (d.get .grpDesc p g) v)) 0 = true) ∧
    (d.get .grpState p g = 2 → ((d.fmMessage ses).grpExclude p ses v).get .grpState p g = 2 ∧
      bit (((d.fmMessage ses).grpExclude p ses v).get .grpMember p (pageIx (d.get .grpDesc p g) v)) 0 = true ∧
      ((d.fmMessage ses).grpExclude p ses v).get .reformMerges p 0 = min (d.get .reformMerges p 0 + 1) (2 ^ 32 - 1)) ∧
    (d.get .grpState p g = 3 → d.groupsIn p 2 = [] →
      bit (((d.fmMessage ses).grpExclude p ses v).get .grpMemberActive p (pageIx (d.get .grpDescActive p g) v)) 0 = true ∧
      ((d.fmMessage ses).grpExclude p ses v).get .reformRestarts p 0 = min (d.get .reformRestarts p 0 + 1) (2 ^ 32 - 1)) := by
  have hsel' : (d.fmMessage ses).sel .grpSel p 0 ses = g :=
    (Device.sel_fmMessage _ _ _ _ _ _ rfl (by decide) (by decide) (by decide)).trans hsel
  have hnone : (d.fmMessage ses).groupsIn p 2 = d.groupsIn p 2 := Device.groupsIn_congr Device.switches_fmMessage 2
  have hidle := Device.grpExclude_idle_shows (v := v) hsel'
  have hpending := Device.grpExclude_pending_shows (v := v) hsel'
  have hswitching := Device.grpExclude_switching_shows (v := v) hsel'
  simp only [Device.get_fmMessage_obj d ses .grpState p _ rfl (by decide) (by decide) (by decide),
    Device.get_fmMessage_obj d ses .grpDesc p _ rfl (by decide) (by decide) (by decide),
    Device.get_fmMessage_obj d ses .grpDescActive p _ rfl (by decide) (by decide) (by decide),
    Device.get_fmMessage_obj d ses .reformMerges p _ rfl (by decide) (by decide) (by decide),
    Device.get_fmMessage_obj d ses .reformRestarts p _ rfl (by decide) (by decide) (by decide), hnone] at hidle hpending hswitching
  exact ⟨hidle, hpending, hswitching⟩

/-- Settles O31: what each command does on the device after its message or its request, clause by clause. A run keeps what stands where
no slot is active (`Device.run_of_idle`), the active page where no commit is pending (`Device.moves_run_of_noCommit`), and a slot at
rest (`Device.setSlot_run`); at a boundary the one active slot restarts and waits (`Device.startSwitch_run_of_alone`). -/
theorem groupsAndCounts : Obligations.GroupsAndCounts := by
  intro s p f v w rq
  have hget : ∀ (e : Device) {o : Obj} {q i : Nat}, o.computed = false → e.settle.get o q i = e.get o q i := fun e o q i h =>
    Device.get_settle e o q i h
  have hsaid : ∀ (e : Device) (st : Nat) {o : Obj} {i : Nat}, o.computed = false → o ≠ .ndpRequests → o ≠ .mgmtRefused →
      (e.respond rq (statusResp rq st)).settle.get o p i = e.get o p i := fun e st o i hc h k =>
    Device.get_settle_respond e rq _ p i hc h k
  have hfm : ∀ {o : Obj} {i : Nat}, o.computed = false → o ≠ .cause → o ≠ .causeUnit → o ≠ .causeTime →
      (s.dev.fmMessage rq.ses.val).get o p i = s.dev.get o p i := fun hc h1 h2 h3 =>
    Device.get_fmMessage_obj _ _ _ _ _ hc h1 h2 h3
  refine ⟨?sync, ?stale, ?counts, ?exclude, ?commit, ?boundary⟩
  case sync =>
    intro hadmits hidle k
    have hplace : (s.dev.fmMessage rq.ses.val).place ⟨.syncValue, p, 0⟩ rq.ses.val = k := Device.place_fmMessage ..
    obtain ⟨hval, hflag⟩ := Device.syncWrite_shows (d := s.dev.fmMessage rq.ses.val) (k := k) (v := w.toNat)
      (Device.activeSlots_fmMessage.trans hidle)
    have hexec := exec_syncValueWrite p hadmits
    rw [hplace] at hexec
    refine ⟨_, hexec, rfl, Device.answered_respond _ rq 0, ?_, ?_⟩
    · exact (hsaid _ 0 rfl (by decide) (by decide)).trans (hval.trans (Nat.mod_eq_of_lt w.isLt))
    · exact (hsaid _ 0 rfl (by decide) (by decide)).trans hflag
  case stale =>
    exact fun hlive hnone => ⟨_, exec_counts f hlive, rfl, (hget _ rfl).trans (Device.countsRx_stale hnone)⟩
  case counts =>
    intro sl hlive hslot d n h shape hshape
    obtain ⟨hsl, hloaded, hlength, hfew, hmany, hn, hhigh, hlow⟩ := hshape
    have hexec := exec_counts f hlive
    obtain ⟨l, hl⟩ := Device.takeIn_eq s.dev p unitSeq f
    have hd : d = { s.dev with inbox := l } := hl
    have hrx : (s.dev.takeIn p unitSeq f).countsRx p f = d.countsFor p sl f := by
      have hslot' : d.countsSlot p f = some sl := hd ▸ hslot
      show d.countsRx p f = _
      unfold Device.countsRx
      rw [hslot']
    rw [hrx] at hexec
    clear_value d
    subst hd
    have hwell : ({ s.dev with inbox := l } : Device).WellShaped p sl f :=
      ⟨hsl, hloaded, hn.symm ▸ hlength, hn.symm ▸ hfew, hn.symm ▸ hmany, hhigh, hlow⟩
    have hshows := Device.countsFor_shows hwell
    rw [show fld (beNat f.payload 0 4) 0 11 = n from hn] at hshows
    exact ⟨_, hexec, rfl, hshows⟩
  case exclude =>
    intro g st page j hadmits
    have hok : (s.dev.fmMessage rq.ses.val).grpExcludeOk p rq.ses.val v.toNat = decide (v.toNat ≤ fld page 16 12) :=
      Device.grpExcludeOk_fmMessage rfl
    refine ⟨fun hpast => ?_, fun hin => ?_⟩
    · refine ⟨_, exec_grpExclude_ruled_out p hadmits (by rw [hok]; simpa using hpast), Device.answered_respond _ rq 0x303, ?_, ?_, ?_⟩
      all_goals exact (hsaid _ _ rfl (by decide) (by decide)).trans (hfm rfl (by decide) (by decide) (by decide))
    · obtain ⟨hidle, hpending, hswitching⟩ := Device.grpExclude_shows (d := s.dev) (g := g) (v := v.toNat) rfl
      refine ⟨_, exec_grpExclude p hadmits (by rw [hok]; simpa using hin), rfl, Device.answered_respond _ rq 0, fun h => ?_,
        fun h => ?_, fun h hnone => ?_⟩
      all_goals
        dsimp only
        simp only [hsaid _ 0 (o := .grpState) rfl (by decide) (by decide), hsaid _ 0 (o := .grpMember) rfl (by decide) (by decide),
          hsaid _ 0 (o := .grpMemberActive) rfl (by decide) (by decide), hsaid _ 0 (o := .reformMerges) rfl (by decide) (by decide),
          hsaid _ 0 (o := .reformRestarts) rfl (by decide) (by decide)]
      · simp only [j, page, if_neg (show st ≠ 3 by omega)]
        exact hidle h
      · simp only [j, page, if_neg (show st ≠ 3 by omega)]
        exact hpending h
      · simp only [j, page, if_pos h]
        exact hswitching h hnone
  case commit =>
    intro g ok hadmits
    have hsel : (s.dev.fmMessage rq.ses.val).sel .grpSel p 0 rq.ses.val = g :=
      (Device.sel_fmMessage _ _ _ _ _ _ rfl (by decide) (by decide) (by decide)).trans (Device.place_grpCommitCmd ..).symm
    refine ⟨_, exec_grpCommit p hadmits, rfl, Device.answered_respond _ rq 0, fun hrefused => ?_, fun htaken hkind hcoming => ?_⟩
    · obtain ⟨hcmd, hstate⟩ := Device.grpCommit_refused hsel hrefused
      exact ⟨(hsaid _ 0 rfl (by decide) (by decide)).trans hcmd, (hsaid _ 0 rfl (by decide) (by decide)).trans
        (hstate.trans (hfm rfl (by decide) (by decide) (by decide)))⟩
    · obtain ⟨hcmd, hstate, hdesc⟩ := Device.grpCommit_waits hsel htaken
        ((hfm rfl (by decide) (by decide) (by decide)).trans hkind) (by
          unfold Device.syncVal
          rw [hfm rfl (by decide) (by decide) (by decide), hfm rfl (by decide) (by decide) (by decide),
            hfm rfl (by decide) (by decide) (by decide)]
          exact hcoming)
      exact ⟨(hsaid _ 0 rfl (by decide) (by decide)).trans hcmd, (hsaid _ 0 rfl (by decide) (by decide)).trans hstate,
        (hsaid _ 0 rfl (by decide) (by decide)).trans (hdesc.trans (hfm rfl (by decide) (by decide) (by decide)))⟩
  case boundary =>
    intro g hlive
    refine ⟨_, exec_grpBoundary g hlive, rfl, fun hnot => Device.frame_of_settled (Device.grpBoundary_unmet hnot),
      fun hwf hdue hunder hmet => ?_⟩
    intro desc
    dsimp only
    rw [Device.grpBoundary_met hwf hdue hmet]
    obtain ⟨hdesc, hmembers⟩ := Device.startSwitch_page (p := p) (g := g) hwf
    refine ⟨fun hidle => ?_, fun sl hsl halone hgroup htenant hreformed hctxs _ hkind hlivePage => ?_⟩
    · obtain ⟨hstate, hcmd, hpages⟩ := Device.startSwitch_run_of_idle hdue hunder hidle
      refine ⟨(hget _ rfl).trans hstate, (hget _ rfl).trans hcmd, ?_, fun k hk => ?_⟩
      · exact (hget _ rfl).trans ((hpages.get .grpDescActive p g (by decide)).trans hdesc)
      · exact (hget _ rfl).trans ((hpages.get .grpMemberActive p _ (by decide)).trans (hmembers k hk))
    · have hwaits := Device.startSwitch_run_of_alone hwf hdue hunder (Device.Alone.of_eq halone) hsl hgroup hreformed hctxs htenant
        hlivePage hkind
      exact ⟨(hget _ rfl).trans hwaits.idle, (hget _ rfl).trans hwaits.state, (hget _ rfl).trans hwaits.step,
        (hget _ rfl).trans hwaits.gen, (congrArg SlotSt.launch (Device.slot_settle _ p sl)).trans hwaits.launch⟩

end Sys2Proof.Machine

/-! ### Compression contexts: `cctx_cmd` (spec/09 R199) -/

namespace Sys2Proof.Machine

theorem Device.cctx_congr {d e : Device} (h : e.cctxs = d.cctxs) (p k : Nat) : e.cctx p k = d.cctx p k := by
  unfold Device.cctx
  rw [h]

theorem Device.cctx_settle (d : Device) (p k : Nat) : d.settle.cctx p k = d.cctx p k :=
  Device.cctx_congr (Device.cctxs_settle d) p k

section
variable {d e : Device} {p k ses : Nat}

/-! #### The residual buffers (R210) -/

theorem Device.get_resBuffers_noteCctx (h : (d.cctx p k).spans = []) : (d.noteCctx p k).get .cctxResBuffers p k = 0 := by
  unfold Device.noteCctx
  dsimp only
  rw [h]
  exact (Device.get_set_obj _ _ _ _ _ _ _ _ (by decide)).trans (Device.get_set_same ..)

/-- A context whose residual buffers are freed has no span left, and shows no buffer. -/
theorem Device.freeResiduals_shows (d : Device) (p k : Nat) :
    (d.freeResiduals p k).get .cctxResBuffers p k = 0 ∧ ((d.freeResiduals p k).cctx p k).spans = [] := by
  unfold Device.freeResiduals
  extract_lets c l d1
  have hspans : ((d1.setCctx p k { c with spans := [], vals := [], banks := 0, refused := [], written := [] }).cctx p k).spans = [] := by
    rw [Device.cctx_setCctx, if_pos ⟨rfl, rfl⟩]
  exact ⟨Device.get_resBuffers_noteCctx hspans, hspans⟩

/-! #### The command -/

/-- What a load asks of an IDLE context: a tenant that owns it, and a descriptor within Table 9.4 (R199). -/
def Device.CctxLoadable (d : Device) (p k : Nat) : Prop :=
  d.get .cctxState p k = 0 ∧ d.get .cctxTenant p k ≠ 0xFFFF ∧ d.get .cctxTenant p k ≠ 0 ∧
    cctxDescOk (d.cDesc p k) (d.cBlocks p k) = true

theorem Device.place_cctxCmd (d : Device) (p ses : Nat) : d.place ⟨.cctxCmd, p, 0⟩ ses = d.sel .cctxSel p 0 ses := by
  unfold Device.place
  dsimp only
  rw [if_neg (by decide), if_neg (by simp), show Obj.cctxCmd.sels = [.cctxSel] from rfl, List.foldl_cons, List.foldl_nil,
    if_neg (by simp), if_neg (by simp), Nat.zero_mul, Nat.zero_add]

/-- What the command does leaves the selector, so that it reads back at the context it acted on. -/
theorem Device.cmdReads_cctxCmd {v : Nat} (h : Moves d e objs_cctxCmd parts_all) (hsel : d.sel .cctxSel p 0 ses = k) :
    e.cmdReads ⟨.cctxCmd, p, 0⟩ ses v = e.set .cctxCmd p k v := by
  rw [Device.cmdReads, Device.place_cctxCmd, show e.sel .cctxSel p 0 ses = k from (h.get .cctxSel _ _ (by decide)).trans hsel]

theorem Device.moves_journal_cctx (d : Device) (l : List (Key × Nat)) : Moves d (d.journal l).1 objs_cctxCmd parts_all :=
  (Moves.refl ..).journal (Mask.of (by decide)) (Mask.of (by decide))

section
variable (hsel : d.sel .cctxSel p 0 ses = k)
include hsel

theorem Device.cctxCmd_load (hok : d.CctxLoadable p k) (hj : (d.journal [(⟨.cctxState, p, k⟩, 1)]).2 = true) :
    d.cctxCmd p ses 1 = ((d.journal [(⟨.cctxState, p, k⟩, 1)]).1.set .cctxState p k 1).set .cctxCmd p k 2 := by
  obtain ⟨hidle, hnone, hzero, hdesc⟩ := hok
  unfold Device.cctxCmd
  dsimp only
  rw [if_pos rfl, Device.place_cctxCmd, hsel, if_pos (by simp [hidle, hnone, hzero, hdesc]), if_pos hj]
  exact Device.cmdReads_cctxCmd ((Device.moves_journal_cctx d _).set (by decide) (by decide)) hsel

theorem Device.cctxCmd_load_refused (hnot : ¬ d.CctxLoadable p k) : d.cctxCmd p ses 1 = d.set .cctxCmd p k 3 := by
  unfold Device.cctxCmd
  dsimp only
  rw [if_pos rfl, Device.place_cctxCmd, hsel, if_neg (by simpa [Device.CctxLoadable, and_assoc] using hnot)]
  exact Device.cmdReads_cctxCmd (.refl ..) hsel

theorem Device.cctxCmd_clear_active (hactive : d.get .cctxState p k = 2) : d.cctxCmd p ses 2 = d.set .cctxCmd p k 3 := by
  unfold Device.cctxCmd
  dsimp only
  rw [if_neg (by decide), Device.place_cctxCmd, hsel, if_pos hactive]
  exact Device.cmdReads_cctxCmd (.refl ..) hsel

theorem Device.cctxCmd_clear (hnot : d.get .cctxState p k ≠ 2) (hj : (d.journal [(⟨.cctxState, p, k⟩, 0)]).2 = true) :
    d.cctxCmd p ses 2 =
      (((d.journal [(⟨.cctxState, p, k⟩, 0)]).1.freeResiduals p k).set .cctxState p k 0).set .cctxCmd p k 2 := by
  unfold Device.cctxCmd
  dsimp only
  rw [if_neg (by decide), Device.place_cctxCmd, hsel, if_neg hnot, if_pos hj]
  exact Device.cmdReads_cctxCmd (((Device.moves_journal_cctx d _).freeResiduals (Mask.of (by decide)) (Mask.of (by decide))).set
    (by decide) (by decide)) hsel

theorem Device.cctxCmd_load_shows (hj : (d.journal [(⟨.cctxState, p, k⟩, 1)]).2 = true) :
    (d.CctxLoadable p k → (d.cctxCmd p ses 1).get .cctxCmd p k = 2 ∧ (d.cctxCmd p ses 1).get .cctxState p k = 1) ∧
    (¬ d.CctxLoadable p k → (d.cctxCmd p ses 1).get .cctxCmd p k = 3 ∧
      (d.cctxCmd p ses 1).get .cctxState p k = d.get .cctxState p k) := by
  refine ⟨fun hok => ?_, fun hnot => ?_⟩
  · rw [Device.cctxCmd_load hsel hok hj]
    exact ⟨Device.get_set_same .., (Device.get_set_obj _ _ _ _ _ _ _ _ (by decide)).trans (Device.get_set_same ..)⟩
  · rw [Device.cctxCmd_load_refused hsel hnot]
    exact ⟨Device.get_set_same .., Device.get_set_obj _ _ _ _ _ _ _ _ (by decide)⟩

theorem Device.cctxCmd_clear_shows (hj : (d.journal [(⟨.cctxState, p, k⟩, 0)]).2 = true) :
    (d.get .cctxState p k = 2 → (d.cctxCmd p ses 2).get .cctxCmd p k = 3 ∧ (d.cctxCmd p ses 2).get .cctxState p k = 2 ∧
      (d.cctxCmd p ses 2).cctxs = d.cctxs) ∧
    (d.get .cctxState p k ≠ 2 → (d.cctxCmd p ses 2).get .cctxCmd p k = 2 ∧ (d.cctxCmd p ses 2).get .cctxState p k = 0 ∧
      (d.cctxCmd p ses 2).get .cctxResBuffers p k = 0 ∧ ((d.cctxCmd p ses 2).cctx p k).spans = []) := by
  refine ⟨fun hactive => ?_, fun hnot => ?_⟩
  · rw [Device.cctxCmd_clear_active hsel hactive]
    exact ⟨Device.get_set_same .., (Device.get_set_obj _ _ _ _ _ _ _ _ (by decide)).trans hactive, rfl⟩
  · obtain ⟨hbuffers, hspans⟩ := Device.freeResiduals_shows (d.journal [(⟨.cctxState, p, k⟩, 0)]).1 p k
    rw [Device.cctxCmd_clear hsel hnot hj]
    exact ⟨Device.get_set_same .., (Device.get_set_obj _ _ _ _ _ _ _ _ (by decide)).trans (Device.get_set_same ..),
      (Device.get_set_obj _ _ _ _ _ _ _ _ (by decide)).trans ((Device.get_set_obj _ _ _ _ _ _ _ _ (by decide)).trans hbuffers),
      hspans⟩

end
end

theorem exec_cctxLoad (p : Plane) {rq : Req} {s : State} (h : s.dev.admits rq ⟨⟨.cctxCmd, p, 0⟩, 1, 1⟩ = true) :
    exec (.cctxLoad p rq) s = .next { s with dev :=
      (((s.dev.fmMessage rq.ses.val).cctxCmd p rq.ses.val 1).respond rq (statusResp rq 0)).settle } := by
  show execCctxLoad p rq s = _
  exact State.run_next (Device.command_admitted s.dev rq _ _ _ h)

theorem exec_cctxClear (p : Plane) {rq : Req} {s : State} (h : s.dev.admits rq ⟨⟨.cctxCmd, p, 0⟩, 1, 2⟩ = true) :
    exec (.cctxClear p rq) s = .next { s with dev :=
      (((s.dev.fmMessage rq.ses.val).cctxCmd p rq.ses.val 2).respond rq (statusResp rq 0)).settle } := by
  show execCctxClear p rq s = _
  exact State.run_next (Device.command_admitted s.dev rq _ _ _ h)

end Sys2Proof.Machine

/-! ### Units of work (spec/09 R202, Table 9.5) -/

namespace Sys2Proof.Machine

/-- A compression context stands at the same unit of the same shard in two devices, and no element is counted between them. -/
structure UnitKept (p k : Nat) (d e : Device) : Prop where
  unit : (e.cctx p k).unit = (d.cctx p k).unit
  shard : (e.cctx p k).shard = (d.cctx p k).shard
  elements : e.get .cmpElements p 0 = d.get .cmpElements p 0

/-- Every object but the elements that went through compression. -/
def besideElements : Nat := objs_all ^^^ 2 ^ Obj.cmpElements.ctorIdx

/-- Every part of the device but the records of compression contexts. -/
def besideCctxs : Nat := parts_all ^^^ 2 ^ Part.cctxs.ctorIdx

namespace UnitKept

variable {d e f : Device} {p k : Nat}

theorem refl (d : Device) : UnitKept p k d d := ⟨rfl, rfl, rfl⟩

theorem trans (h : UnitKept p k d e) (g : UnitKept p k e f) : UnitKept p k d f :=
  ⟨g.unit.trans h.unit, g.shard.trans h.shard, g.elements.trans h.elements⟩

theorem of_beside (h : Moves d e besideElements besideCctxs) : UnitKept p k d e := by
  have hcctx : e.cctx p k = d.cctx p k := Device.cctx_congr (h.same .cctxs (by decide)) p k
  exact ⟨congrArg _ hcctx, congrArg _ hcctx, h.get .cmpElements p 0 (by decide)⟩

theorem ite {c : Prop} [Decidable c] {a b : Device} (ha : UnitKept p k d a) (hb : UnitKept p k d b) :
    UnitKept p k d (if c then a else b) := by
  split
  · exact ha
  · exact hb

theorem foldl {α : Type} {g : Device → α → Device} {l : List α} (hg : ∀ d a, UnitKept p k d (g d a)) :
    UnitKept p k d (l.foldl g d) := by
  induction l generalizing d with
  | nil => exact .refl d
  | cons a t ih => exact (hg d a).trans ih

/-- A new record of the context at the same unit of the same shard. -/
theorem setCctx {v : CctxSt} (h : UnitKept p k d e) (hunit : v.unit = (e.cctx p k).unit) (hshard : v.shard = (e.cctx p k).shard) :
    UnitKept p k d (e.setCctx p k v) := by
  refine h.trans ⟨?_, ?_, rfl⟩
  · rw [Device.cctx_setCctx, if_pos ⟨rfl, rfl⟩, hunit]
  · rw [Device.cctx_setCctx, if_pos ⟨rfl, rfl⟩, hshard]

theorem count {o : Obj} {n : Nat} (h : UnitKept p k d e) (ho : o ≠ .cmpElements) : UnitKept p k d (e.count o p 0 n) :=
  h.trans ⟨congrArg _ (Device.cctx_congr (Device.cctxs_count ..) p k), congrArg _ (Device.cctx_congr (Device.cctxs_count ..) p k),
    Device.get_count_obj _ _ _ _ _ _ _ _ ho.symm⟩

theorem sendContrib {dev ctx att tn code b0 : Nat} {l : List (Blk × Bool)} (h : UnitKept p k d e) :
    UnitKept p k d (e.sendContrib p dev ctx att tn code b0 l) :=
  h.trans (.of_beside ((Moves.refl ..).sendContrib (Mask.of (by decide)) (Mask.of (by decide))))

theorem sendOwn {input : Nat} {m : Sys2Proof.Frame} (h : UnitKept p k d e) : UnitKept p k d (e.sendOwn p input m) :=
  h.trans (.of_beside ((Moves.refl ..).sendOwn (Mask.of (by decide)) (Mask.of (by decide))))

/-- A span gets its buffer, or is marked as refused. -/
theorem needSpan {s : Nat} : UnitKept p k d (d.needSpan p k s) := by
  unfold Device.needSpan
  extract_lets c bank r
  have halloc : Moves d r.1 besideElements besideCctxs := (Moves.refl ..).alloc (Mask.of (by decide)) (Mask.of (by decide))
  have hcctx : r.1.cctx p k = c := Device.cctx_congr (halloc.same .cctxs (by decide)) p k
  have hallocated : UnitKept p k d r.1 := .of_beside halloc
  refine UnitKept.ite (.refl d) ?_
  split
  · refine (hallocated.setCctx ?_ ?_).trans (.of_beside ((Moves.refl ..).noteCctx (Mask.of (by decide)) (Mask.of (by decide))))
    · rw [hcctx]; rfl
    · rw [hcctx]; rfl
  · refine hallocated.setCctx ?_ ?_
    · rw [hcctx]
    · rw [hcctx]

theorem sendRows {dev ctx att : Nat} (h : UnitKept p k d e) : UnitKept p k d (e.sendRows p k dev ctx att) := by
  refine h.trans ?_
  unfold Device.sendRows
  extract_lets c v hd m pay e1
  have hsending : UnitKept p k e e1 := (UnitKept.refl e).setCctx rfl rfl
  clear_value pay m e1
  exact UnitKept.ite (.refl e) (hsending.sendOwn.count (by decide))

end UnitKept

/-- A unit of n elements is taken: the context goes on to the next unit of its shard, and the elements are counted. -/
structure UnitTaken (p k n : Nat) (d e : Device) : Prop where
  unit : (e.cctx p k).unit = (d.cctx p k).unit + 1
  shard : (e.cctx p k).shard = (d.cctx p k).shard
  elements : e.get .cmpElements p 0 = (d.get .cmpElements p 0 + n) % 2 ^ 64

theorem UnitTaken.kept {d e f : Device} {p k n : Nat} (h : UnitTaken p k n d e) (g : UnitKept p k e f) : UnitTaken p k n d f :=
  ⟨g.unit.trans h.unit, g.shard.trans h.shard, g.elements.trans h.elements⟩

section
variable {d : Device} {p k : Nat}

/-- The next unit of a context can be taken: the partner is ready, the unit lies in the shard and its results are there (R202). -/
def Device.UnitReady (d : Device) (p k : Nat) : Prop :=
  let c := d.cctx p k
  let b0 := unitFirst (d.cDesc p k) c.unit
  (d.slot p c.slot).xready.isSome = true ∧ d.get .cctxState p k = 2 ∧ b0 < d.cBlocks p k ∧
    b0 + unitBlocks (d.cDesc p k) (d.cBlocks p k) c.unit ≤ c.shard.length ∧ d.ctxState p (stRctx (d.stepWord p c.slot c.step)) = 2

theorem Device.cmpUnit_of_not_ready (h : ¬ d.UnitReady p k) : d.cmpUnit p k = d := by
  unfold Device.cmpUnit
  dsimp only
  split
  · rfl
  · next hpartner =>
    refine if_pos ?_
    simp only [Device.UnitReady, hpartner, Option.isSome_some, true_and, not_and_or, Nat.not_lt, Nat.not_le] at h
    simpa [or_assoc] using h

/-- A record whose residuals are written one by one stays at its unit and shard. -/
theorem CctxSt.foldl_unit {α : Type} {g : CctxSt → α → CctxSt} {c : CctxSt} {l : List α}
    (hg : ∀ c a, (g c a).unit = c.unit ∧ (g c a).shard = c.shard) : (l.foldl g c).unit = c.unit ∧ (l.foldl g c).shard = c.shard := by
  induction l generalizing c with
  | nil => exact ⟨rfl, rfl⟩
  | cons a t ih => exact ⟨ih.1.trans (hg c a).1, ih.2.trans (hg c a).2⟩

/-- A unit that is ready is taken (Table 9.5); what is sent and counted besides its elements leaves the context. -/
theorem Device.cmpUnit_of_ready (h : d.UnitReady p k) :
    UnitTaken p k (32 * unitBlocks (d.cDesc p k) (d.cBlocks p k) (d.cctx p k).unit) d (d.cmpUnit p k) := by
  obtain ⟨hpartner, hactive, hshard, hresults, haccumulates⟩ := h
  unfold Device.cmpUnit
  extract_lets c v s b0 nb x ef e0 n spans d1 c1 plain gs g o dev tn low c2 c3 row d2 full
  have hspans : UnitKept p k d d1 := UnitKept.ite (UnitKept.foldl fun _ _ => .needSpan) (.refl d)
  have hres : c2.unit = c1.unit ∧ c2.shard = c1.shard := by
    unfold c2
    split
    · refine CctxSt.foldl_unit fun c a => ?_
      split
      · exact ⟨rfl, rfl⟩
      · exact ⟨rfl, rfl⟩
    · exact ⟨rfl, rfl⟩
  have hwritten : c3.unit = c2.unit ∧ c3.shard = c2.shard := by
    unfold c3
    split
    · exact ⟨rfl, rfl⟩
    · exact ⟨rfl, rfl⟩
  have hunit : (d2.cctx p k).unit = c.unit + 1 ∧ (d2.cctx p k).shard = c.shard := by
    unfold d2
    rw [Device.cctx_setCctx, if_pos ⟨rfl, rfl⟩]
    exact ⟨congrArg (· + 1) (hwritten.1.trans (hres.1.trans hspans.unit)), hwritten.2.trans (hres.2.trans hspans.shard)⟩
  have helements : d2.get .cmpElements p 0 = d.get .cmpElements p 0 := hspans.elements
  clear_value d2 c3 c2 c1 d1
  split
  · next hnone => simp [c, hnone] at hpartner
  rw [if_neg (by
    simp only [Bool.or_eq_true, decide_eq_true_eq, not_or, not_not, Nat.not_le, Nat.not_lt]
    exact ⟨⟨⟨hactive, hshard⟩, hresults⟩, haccumulates⟩)]
  extract_lets dA cA dB d3 d4 d5 d6
  have hrows : UnitKept p k d2 dA := (UnitKept.refl d2).sendRows
  have hnext : UnitKept p k d2 dB := hrows.setCctx rfl rfl
  have hpartner : UnitKept p k d2 d3 := UnitKept.ite (UnitKept.ite hrows (.refl d2)) (hnext.sendContrib.count (by decide))
  have hsent : UnitKept p k d2 d4 := hpartner.sendContrib
  clear_value d4 d3 dB dA
  have hcounted : UnitTaken p k (32 * nb) d (d4.count .cmpElements p 0 n) := by
    have hcctx : (d4.count .cmpElements p 0 n).cctx p k = d4.cctx p k := Device.cctx_congr (Device.cctxs_count ..) p k
    refine ⟨?_, ?_, ?_⟩
    · rw [hcctx, hsent.unit, hunit.1]
    · rw [hcctx, hsent.shard, hunit.2]
    · rw [Device.get_count_wide _ _ _ _ _ (by decide), hsent.elements, helements, Nat.mul_comm 32]
  have hsaturated : UnitTaken p k (32 * nb) d d5 := hcounted.kept ((UnitKept.refl _).count (by decide))
  have hproducts : UnitTaken p k (32 * nb) d d6 := hsaturated.kept (UnitKept.ite ((UnitKept.refl _).count (by decide)) (.refl _))
  exact hproducts.kept (UnitKept.ite ((UnitKept.refl _).count (by decide)) (.refl _))

end

theorem exec_compressUnit (p : Plane) (n : Fin 256) {s : State} (h : s.dev.live p = true) :
    exec (.compressUnit p n) s = .next { s with dev := (s.dev.cmpUnit p n).settle } := by
  show execCompressUnit p n s = _
  exact State.runOn_next h

end Sys2Proof.Machine

/-! ### Low-rank records from the partner (spec/09 R196, R203) -/

namespace Sys2Proof.Machine

section
variable {d : Device} {p x : Nat} {f : Sys2Proof.Frame}

/-- The compression context of the step that runs on a reduction context. -/
def Device.xsiteCctx (d : Device) (p x : Nat) : Nat := stValue (d.stepWord p (d.rctx p x).slot (d.rctx p x).step) % 256

/-- A record's context is an XSITE step's, ACCUMULATE or ABORTING, and its compression context is ACTIVE. -/
def Device.LrKnown (d : Device) (p x : Nat) : Prop :=
  x ≤ 2047 ∧ d.byXsite p x = true ∧ d.get .cctxState p (d.xsiteCctx p x) = 2 ∧ (d.ctxState p x = 2 ∨ d.ctxState p x = 4)

/-- A record agrees with descriptor, chunk and iteration of its compression context and lies within the shard (R203). -/
def Device.LrFits (d : Device) (p k : Nat) (f : Sys2Proof.Frame) : Prop :=
  let h := beNat f.payload 0 16
  let r := cRank (d.cDesc p k)
  let w := 2 ^ cLog (d.cDesc p k)
  let rows := fld h 58 10
  16 ≤ f.payload.length ∧ fld h 72 8 = r ∧ fld h 68 4 = cLog (d.cDesc p k) ∧ fld h 112 16 = (d.cctx p k).chunk % 65536 ∧
    fld h 80 32 = (d.cctx p k).iter ∧ 1 ≤ rows ∧ rows ≤ 255 ∧ f.payload.length = 16 + 2 * r * rows ∧ f.offset % w = 0 ∧
    f.offset + rows * w ≤ 32 * d.cBlocks p k ∧ fld h 0 58 = 0 ∧ cMethod (d.cDesc p k) = 1

/-! #### A context that fails, and its slot with it (R165) -/

theorem Device.rctx_congr {d e : Device} (h : e.rctxs = d.rctxs) (p x : Nat) : e.rctx p x = d.rctx p x := by
  unfold Device.rctx
  rw [h]

/-- Where the slot is active it fails with its context, and stays FAILED in the run that follows. -/
theorem Device.ctxEvent_failed_shows {st : Nat} {sender : Option Nat}
    (hactive : d.get .slotState p (d.rctx p x).slot = 2 ∨ d.get .slotState p (d.rctx p x).slot = 3) :
    (d.ctxEvent p x (.failed st) sender).get .slotState p (d.rctx p x).slot = 4 ∧
      (d.ctxEvent p x (.failed st) sender).get .slotStatus p (d.rctx p x).slot = st % 256 := by
  unfold Device.ctxEvent
  dsimp only
  rw [if_pos (by simpa using hactive)]
  obtain ⟨hstate, hstatus, -⟩ := Device.failSlot_run_shows d p (d.rctx p x).slot st
  exact ⟨hstate, hstatus⟩

theorem Device.slot_rctx_failCtx (d : Device) (p x st : Nat) : ((d.failCtx p x st).rctx p x).slot = (d.rctx p x).slot := by
  unfold Device.failCtx
  extract_lets d1 d2 c
  have hbegun : Moves d d2 objs_failCtx parts_giveBack :=
    .ite (fun _ => (((Moves.refl ..).giveBack (Mask.of (by decide)) (Mask.of (by decide))).set (by decide) (by decide)).set
      (by decide) (by decide)) (fun _ => ((Moves.refl ..).giveBack (Mask.of (by decide)) (Mask.of (by decide))).set
      (by decide) (by decide))
  have hcounted : ∀ g : Device, (((g.set .rctxState p x 5).bump .redFailed p 0).causeCollective p 0 x).rctx p x = g.rctx p x :=
    fun g => Device.rctx_congr ((quiet_rctxs.latch ..).trans (quiet_rctxs.bump ..)) p x
  rw [hcounted, Device.rctx_setRctx, if_pos ⟨rfl, rfl⟩]
  show (d2.rctx p x).slot = (d.rctx p x).slot
  rw [Device.rctx_congr (hbegun.same .rctxs (by decide))]

/-- A context that fails takes its slot with it. -/
theorem Device.ctxEvent_failCtx_shows {st : Nat} {sender : Option Nat}
    (hactive : d.get .slotState p (d.rctx p x).slot = 2 ∨ d.get .slotState p (d.rctx p x).slot = 3) :
    ((d.failCtx p x st).ctxEvent p x (.failed st) sender).get .slotState p (d.rctx p x).slot = 4 ∧
      ((d.failCtx p x st).ctxEvent p x (.failed st) sender).get .slotStatus p (d.rctx p x).slot = st % 256 := by
  have hkept : (d.failCtx p x st).get .slotState p (d.rctx p x).slot = d.get .slotState p (d.rctx p x).slot :=
    ((Moves.refl d (mo := objs_failCtx) (mp := parts_failCtx)).failCtx (Mask.le_refl _) (Mask.le_refl _)).get .slotState p _ (by decide)
  have hfails := Device.ctxEvent_failed_shows (d := d.failCtx p x st) (x := x) (st := st) (sender := sender)
    (by rw [Device.slot_rctx_failCtx, hkept]; exact hactive)
  rw [Device.slot_rctx_failCtx] at hfails
  exact hfails

/-- A wide counter that every step of a fold moves on by n, once the fold has taken a step. -/
theorem Device.get_foldl_wide {α : Type} {g : Device → α → Device} {o : Obj} {i n : Nat}
    (hstep : ∀ e a, (g e a).get o p i = (e.get o p i + n) % 2 ^ 64) {l : List α} (hl : l ≠ []) :
    (l.foldl g d).get o p i = (d.get o p i + l.length * n) % 2 ^ 64 := by
  induction l generalizing d with
  | nil => exact absurd rfl hl
  | cons a t ih =>
    by_cases ht : t = []
    · subst ht
      simpa using hstep d a
    · rw [List.foldl_cons, ih ht, hstep, Nat.mod_add_mod, List.length_cons, Nat.add_one_mul, Nat.add_assoc, Nat.add_comm n]

/-! #### The checks of a record -/

/-- The first check of a record, as the model evaluates it. -/
theorem Device.LrKnown.passes (h : d.LrKnown p x) : ¬ (decide (x > 0x7FF) || !d.byXsite p x ||
    decide (d.get .cctxState p (d.xsiteCctx p x) ≠ 2) || !(decide (d.ctxState p x = 2) || decide (d.ctxState p x = 4))) = true := by
  obtain ⟨hx, hxsite, hactive, hstate⟩ := h
  rcases hstate with h | h
  · simp [hx, hxsite, hactive, h]
  · simp [hx, hxsite, hactive, h]

theorem Device.moves_sendContrib (d : Device) (p dev ctx att tn code b0 : Nat) (l : List (Blk × Bool)) :
    Moves d (d.sendContrib p dev ctx att tn code b0 l) objs_sendContrib parts_sendContrib :=
  (Moves.refl ..).sendContrib (Mask.le_refl _) (Mask.le_refl _)

theorem Device.lrTileRx_discarded {e : Device} (h : d.lrTile p f = (e, .discarded)) : d.lrTileRx p f = e := by
  unfold Device.lrTileRx
  rw [h]

/-- One event counted in a 32-bit counter, and nothing else. -/
theorem Device.bump_settled (d : Device) (o : Obj) (p i : Nat) (hc : o.computed = false) (hw : o.width = 32) :
    (d.bump o p i).settle.get o p i = min (d.get o p i + 1) (2 ^ 32 - 1) ∧
      Device.Frame d (d.bump o p i).settle (fun o' q j => o' = o ∧ q = p ∧ j = i) := by
  refine ⟨?_, (Device.frame_bump _ o p i _ (Or.inr ⟨rfl, rfl, rfl⟩)).trans (Device.frame_settle _ _)⟩
  rw [Device.get_settle _ _ _ _ hc, Device.bump, Device.get_count_narrow _ _ _ _ _ (by omega), hw]

/-- A record for no context of a step of this device is counted and discarded. -/
theorem Device.lrTileRx_unknown (h : ¬ d.LrKnown p f.context) :
    (d.lrTileRx p f).settle.get .redNoContext p 0 = min (d.get .redNoContext p 0 + 1) (2 ^ 32 - 1) ∧
      Device.Frame d (d.lrTileRx p f).settle (fun o q i => o = .redNoContext ∧ q = p ∧ i = 0) := by
  have htile : d.lrTile p f = (d.bump .redNoContext p 0, .discarded) := by
    unfold Device.lrTile
    dsimp only
    refine if_pos ?_
    simp only [Device.LrKnown, Device.xsiteCctx, not_and_or, Nat.not_le] at h
    simpa [or_assoc] using h
  rw [Device.lrTileRx_discarded htile]
  exact Device.bump_settled d .redNoContext p 0 rfl rfl

section
variable (hknown : d.LrKnown p f.context)
include hknown

/-- A record of another tenant is counted, and raises the cause of tenant violations. -/
theorem Device.lrTileRx_foreign (h : f.tenant ≠ d.get .rctxTenant p f.context) :
    (d.lrTileRx p f).get .redTenantReject p 0 = min (d.get .redTenantReject p 0 + 1) (2 ^ 32 - 1) ∧
      bit ((d.lrTileRx p f).get .cause p 4) 2 = true := by
  have htile : d.lrTile p f = ((d.bump .redTenantReject p 0).causeCollective p 2 f.context, .discarded) := by
    unfold Device.lrTile
    dsimp only
    exact (if_neg hknown.passes).trans (if_pos h)
  rw [Device.lrTileRx_discarded htile]
  exact ⟨(Device.get_latch_obj _ _ _ _ _ _ _ _ (by decide) (by decide) (by decide)).trans
    (Device.get_count_narrow _ .redTenantReject p 0 1 (by decide)), Device.bit_latch _ _ _ _ _ (by decide)⟩

variable (htenant : f.tenant = d.get .rctxTenant p f.context)
include htenant

/-- A record of another attempt, or for a context in ABORTING, is counted and discarded. -/
theorem Device.lrTileRx_stale (h : d.ctxState p f.context = 4 ∨ f.flowSeq / 65536 ≠ d.get .rctxAttempt p f.context) :
    (d.lrTileRx p f).settle.get .redStale p 0 = min (d.get .redStale p 0 + 1) (2 ^ 32 - 1) ∧
      Device.Frame d (d.lrTileRx p f).settle (fun o q i => o = .redStale ∧ q = p ∧ i = 0) := by
  have htile : d.lrTile p f = (d.bump .redStale p 0, .discarded) := by
    unfold Device.lrTile
    dsimp only
    refine (if_neg hknown.passes).trans ((if_neg (not_not.mpr htenant)).trans (if_pos ?_))
    simpa using h
  rw [Device.lrTileRx_discarded htile]
  exact Device.bump_settled d .redStale p 0 rfl rfl

variable (hruns : d.ctxState p f.context = 2) (hattempt : f.flowSeq / 65536 = d.get .rctxAttempt p f.context)
include hruns hattempt

theorem Device.lrTile_unfit (h : ¬ d.LrFits p (d.xsiteCctx p f.context) f) : d.lrTile p f =
    ((d.bump .cmpMismatch p 0).causeCollective p 4 (d.xsiteCctx p f.context), .mismatch f.context (d.xsiteCctx p f.context)) := by
  unfold Device.lrTile
  dsimp only
  refine (if_neg hknown.passes).trans ?_
  rw [if_neg (not_not.mpr htenant), if_neg (by simp [hruns, hattempt])]
  refine if_pos ?_
  simp only [Device.LrFits, Device.xsiteCctx, not_and_or, Nat.not_le, Nat.lt_one_iff] at h
  simpa [or_assoc] using h

/-- A record that fits is expanded row by row, each row w · r products. -/
theorem Device.lrTile_fits (h : d.LrFits p (d.xsiteCctx p f.context) f) :
    ∃ g : Device → Nat → Device, d.lrTile p f = ((List.range (fld (beNat f.payload 0 16) 58 10)).foldl g d, .taken) ∧
      ∀ e i, (g e i).get .mxProducts p 0 = (e.get .mxProducts p 0 +
        2 ^ cLog (d.cDesc p (d.xsiteCctx p f.context)) * cRank (d.cDesc p (d.xsiteCctx p f.context))) % 2 ^ 64 := by
  obtain ⟨hlength, hrank, hlog, hchunk, hiter, hsome, hfew, hsize, haligned, hinside, hlow, hmethod⟩ := h
  have hpasses := hknown.passes
  unfold Device.xsiteCctx at *
  unfold Device.lrTile
  dsimp only
  rw [if_neg hpasses, if_neg (not_not.mpr htenant), if_neg (by simp [hruns, hattempt]),
    if_neg (by
      simp only [Bool.or_eq_true, decide_eq_true_eq, not_or, not_not, Nat.not_lt]
      exact ⟨⟨⟨⟨⟨⟨⟨⟨⟨⟨⟨hlength, hrank⟩, hlog⟩, hchunk⟩, hiter⟩, Nat.one_le_iff_ne_zero.mp hsome⟩, hfew⟩, hsize⟩, haligned⟩, hinside⟩,
        hlow⟩, hmethod⟩)]
  refine ⟨_, rfl, fun e i => ?_⟩
  rw [Device.get_count_wide _ _ _ _ _ (by decide), (Device.moves_sendContrib ..).get .mxProducts p 0 (by decide)]

/-- A record that agrees with the context counts the products of all its rows. -/
theorem Device.lrTileRx_fits (h : d.LrFits p (d.xsiteCctx p f.context) f) :
    (d.lrTileRx p f).get .mxProducts p 0 = (d.get .mxProducts p 0 + fld (beNat f.payload 0 16) 58 10 *
      (2 ^ cLog (d.cDesc p (d.xsiteCctx p f.context)) * cRank (d.cDesc p (d.xsiteCctx p f.context)))) % 2 ^ 64 := by
  obtain ⟨g, htile, hrow⟩ := Device.lrTile_fits hknown htenant hruns hattempt h
  obtain ⟨-, -, -, -, -, hsome, -⟩ := h
  have hrows : List.range (fld (beNat f.payload 0 16) 58 10) ≠ [] := by simpa using Nat.one_le_iff_ne_zero.mp hsome
  rw [show d.lrTileRx p f = (List.range (fld (beNat f.payload 0 16) 58 10)).foldl g d by unfold Device.lrTileRx; rw [htile],
    Device.get_foldl_wide hrow hrows, List.length_range]

/-- A record that does not is counted, and its context and slot end with status 0x10. -/
theorem Device.lrTileRx_unfit (h : ¬ d.LrFits p (d.xsiteCctx p f.context) f) :
    (d.lrTileRx p f).get .cmpMismatch p 0 = min (d.get .cmpMismatch p 0 + 1) (2 ^ 32 - 1) ∧
      bit ((d.lrTileRx p f).get .cause p 4) 4 = true ∧
      (d.get .slotState p (d.rctx p f.context).slot = 2 ∨ d.get .slotState p (d.rctx p f.context).slot = 3 →
        (d.lrTileRx p f).get .slotState p (d.rctx p f.context).slot = 4 ∧
          (d.lrTileRx p f).get .slotStatus p (d.rctx p f.context).slot = 0x10) := by
  let e := (d.bump .cmpMismatch p 0).causeCollective p 4 (d.xsiteCctx p f.context)
  have hrx : d.lrTileRx p f = (e.failCtx p f.context 0x10).ctxEvent p f.context (.failed 0x10) none := by
    unfold Device.lrTileRx
    rw [Device.lrTile_unfit hknown htenant hruns hattempt h]
  have hcounted : Moves d e objs_lrTile parts_lrTile :=
    ((Moves.refl ..).bump (by decide) (by decide) (by decide)).causeCollective (Mask.of (by decide)) (Mask.of (by decide))
  have hmismatch : e.get .cmpMismatch p 0 = min (d.get .cmpMismatch p 0 + 1) (2 ^ 32 - 1) :=
    (Device.get_latch_obj _ _ _ _ _ _ _ _ (by decide) (by decide) (by decide)).trans
      (Device.get_count_narrow d .cmpMismatch p 0 1 (by decide))
  have hcause : bit (e.get .cause p 4) 4 = true := Device.bit_latch _ _ _ _ _ (by decide)
  have hslot : e.rctx p f.context = d.rctx p f.context := Device.rctx_congr (hcounted.same .rctxs (by decide)) p _
  have hstate : e.get .slotState p (d.rctx p f.context).slot = d.get .slotState p (d.rctx p f.context).slot :=
    hcounted.get .slotState p _ (by decide)
  have hfailed : Moves e (d.lrTileRx p f) (objs_failCtx ||| objs_ctxEvent) latchesKept := hrx ▸
    ((Moves.refl ..).failCtx (Mask.of (by decide)) (Mask.of (by decide))).ctxEvent (Mask.of (by decide)) (Mask.of (by decide))
  refine ⟨(hfailed.get .cmpMismatch p 0 (by decide)).trans hmismatch, hfailed.latchKept (by decide) hcause, fun hactive => ?_⟩
  have hends := Device.ctxEvent_failCtx_shows (d := e) (x := f.context) (st := 0x10) (sender := none) (by rw [hslot, hstate]; exact hactive)
  rw [hslot, ← hrx] at hends
  exact hends

end

end

theorem exec_lrTile (p : Plane) (f : Sys2Proof.Frame) {s : State} (h : s.dev.live p = true) :
    exec (.lrTile p f) s = .next { s with dev := ((s.dev.takeIn p 144 f).lrTileRx p f).settle } := by
  show execLrTile p f s = _
  exact State.runOn_next h

/-- Settles O32: `cctx_cmd` on the device after the fault manager's message, command by command; a unit by `cmpUnit_of_ready`; a record
by its four checks on the device that has taken it in, and one that fits by its rows (`lrTile_fits`). -/
theorem compression : Obligations.Compression := by
  intro s p n f rq
  have hget : ∀ (e : Device) {o : Obj} {q i : Nat}, o.computed = false → e.settle.get o q i = e.get o q i := fun e o q i h =>
    Device.get_settle e o q i h
  refine ⟨?command, ?unit, ?record⟩
  case command =>
    intro g k st tn ok
    have hsel : (s.dev.fmMessage rq.ses.val).sel .cctxSel p 0 rq.ses.val = k :=
      (Device.sel_fmMessage _ _ _ _ _ _ rfl (by decide) (by decide) (by decide)).trans (Device.place_cctxCmd ..).symm
    have hfm : ∀ {o : Obj}, o.computed = false → o ≠ .cause → o ≠ .causeUnit → o ≠ .causeTime →
        (s.dev.fmMessage rq.ses.val).get o p k = s.dev.get o p k := fun hc h1 h2 h3 =>
      Device.get_fmMessage_obj _ _ _ _ _ hc h1 h2 h3
    have hsaid : ∀ (e : Device) {o : Obj}, o.computed = false → o ≠ .ndpRequests → o ≠ .mgmtRefused →
        (e.respond rq (statusResp rq 0)).settle.get o p k = e.get o p k := fun e o hc h h' =>
      Device.get_settle_respond e rq _ p k hc h h'
    have hok : (s.dev.fmMessage rq.ses.val).CctxLoadable p k ↔ ok := by
      unfold Device.CctxLoadable Device.cDesc Device.cBlocks
      rw [hfm rfl (by decide) (by decide) (by decide), hfm rfl (by decide) (by decide) (by decide),
        hfm rfl (by decide) (by decide) (by decide), hfm rfl (by decide) (by decide) (by decide)]
      rfl
    have hst : (s.dev.fmMessage rq.ses.val).get .cctxState p k = st := hfm rfl (by decide) (by decide) (by decide)
    refine ⟨fun hadmits hj => ⟨_, exec_cctxLoad p hadmits, rfl, Device.answered_respond _ rq 0, ?_⟩,
      fun hadmits hj => ⟨_, exec_cctxClear p hadmits, rfl, Device.answered_respond _ rq 0, ?_⟩⟩
    · have hshows := Device.cctxCmd_load_shows hsel hj
      rw [hok, hst] at hshows
      simpa only [hsaid _ (o := .cctxCmd) rfl (by decide) (by decide),
        hsaid _ (o := .cctxState) rfl (by decide) (by decide)] using hshows
    · have hshows := Device.cctxCmd_clear_shows hsel hj
      rw [hst, Device.cctxs_fmMessage] at hshows
      simpa only [hsaid _ (o := .cctxCmd) rfl (by decide) (by decide), hsaid _ (o := .cctxState) rfl (by decide) (by decide),
        hsaid _ (o := .cctxResBuffers) rfl (by decide) (by decide), Device.cctxs_settle, Device.cctxs_respond, Device.cctx_settle,
        Device.cctx_congr (Device.cctxs_respond ..)] using hshows
  case unit =>
    intro c v b0 nb ready hlive
    refine ⟨_, exec_compressUnit p n hlive, rfl, fun hnot => Device.frame_of_settled (Device.cmpUnit_of_not_ready hnot), fun hready => ?_⟩
    have htaken : UnitTaken p n (32 * nb) s.dev (s.dev.cmpUnit p n) := Device.cmpUnit_of_ready hready
    dsimp only
    rw [Device.cctx_settle, hget _ rfl]
    exact ⟨htaken.unit, htaken.shard, htaken.elements⟩
  case record =>
    intro d x rc k known hlive
    have hexec := exec_lrTile p f hlive
    obtain ⟨l, hl⟩ := Device.takeIn_eq s.dev p 144 f
    have hd : d = { s.dev with inbox := l } := hl
    rw [show s.dev.takeIn p 144 f = d from rfl] at hexec
    clear_value d
    subst hd
    refine ⟨_, hexec, rfl, fun hunknown => ?unknown, fun hknown hforeign => ?foreign, fun hknown htenant hstale => ?stale,
      fun hknown htenant hruns hattempt => ⟨fun hshort => ?short, ?fits⟩⟩
    all_goals dsimp only
    case unknown => exact Device.lrTileRx_unknown (d := { s.dev with inbox := l }) hunknown
    case foreign =>
      rw [hget _ rfl, hget _ rfl]
      exact Device.lrTileRx_foreign (d := { s.dev with inbox := l }) hknown hforeign
    case stale => exact Device.lrTileRx_stale (d := { s.dev with inbox := l }) hknown htenant hstale
    case short =>
      rw [hget _ rfl, hget _ rfl, hget _ rfl, hget _ rfl]
      exact Device.lrTileRx_unfit (d := { s.dev with inbox := l }) hknown htenant hruns hattempt
        fun hfits => absurd hfits.1 (Nat.not_le.mpr hshort)
    case fits =>
      intro hlength hrank hlog hchunk hiter hsome hfew hsize haligned hinside hlow hmethod
      exact (hget _ rfl).trans (Device.lrTileRx_fits (d := { s.dev with inbox := l }) hknown htenant hruns hattempt
        ⟨hlength, hrank, hlog, hchunk, hiter, hsome, hfew, hsize, haligned, hinside, hlow, hmethod⟩)

end Sys2Proof.Machine

/-! ### Tributaries: descriptors, acknowledgements and the timers of retransmission (spec/10 R226, R238, R240 to R242) -/

namespace Sys2Proof.Machine

theorem quiet_trib (p t : Nat) : Quiet (·.trib p t) :=
  ⟨fun _ _ _ _ _ => rfl, fun _ _ => rfl, fun _ _ _ => rfl, fun _ _ _ => rfl, fun _ _ => rfl⟩

/-! #### Registers that the journal keeps -/

/-- The device once the journal holds a value of a register and it is in force (spec/17 R389). -/
def Device.recorded (d : Device) (o : Obj) (p i v : Nat) : Device := (d.journal [(⟨o, p, i⟩, v)]).1.set o p i v

theorem Device.store_recorded {d : Device} {ses p i v : Nat} {o : Obj} (hacc : (o.info.acc = .rwp || o.info.acc = .rwl) = true)
    (hv : v < 2 ^ o.width) (h : d.journals ses [(⟨o, p, i⟩, v)] = true) :
    (d.fmMessage ses).store o p i v = ((d.fmMessage ses).recorded o p i v, true) := by
  have hvalue := Nat.mod_eq_of_lt hv
  have hstore := Device.store_journals d ses o p i v hacc (hvalue.symm ▸ h)
  rw [hvalue] at hstore
  exact hstore

theorem Device.get_recorded_same (d : Device) {o : Obj} (p i : Nat) {v : Nat} (hv : v < 2 ^ o.width) :
    (d.recorded o p i v).get o p i = v := Device.get_set_lt _ _ _ _ _ hv

theorem Quiet.recorded {β : Type} {g : Device → β} (q : Quiet g) (d : Device) (o : Obj) (p i v : Nat) :
    g (d.recorded o p i v) = g d := (q.set ..).trans (q.journal ..)

section
variable {d e : Device} {p t v : Nat}

/-! #### A write of `trib_desc` (R226, R238) -/

/-- A descriptor is in force and its tributary starts anew: nothing is buffered, its TSNs begin at 0 and no acknowledgement of it
waits (R238). -/
structure Device.StartsAnew (e : Device) (p t v : Nat) : Prop where
  desc : e.get .tribDesc p t = v
  trib : e.trib p t = {}
  txNext : e.get .tribTxNext p t = 0
  rxExpected : e.get .tribRxExpected p t = 0
  ackQ : t ∉ (e.tether p).ackQ

theorem Device.tribDescWrite_of_same (hstore : d.store .tribDesc p t v = (e, true))
    (hbit : bit (d.get .tribDesc p t) 31 = bit v 31) : d.tribDescWrite p t v = (e, true) := by
  unfold Device.tribDescWrite
  rw [hstore]
  simp [hbit]

/-- The buffers of a tributary are free, and the frames that waited in it whole are counted as matching none. -/
def Device.tribEmptied (d : Device) (p t req : Nat) : Device :=
  let s := d.trib p t
  let e := (d.freeAll p 0 req s.txBufs).freeAll p 0 req s.rxBufs
  let lost := (s.txq.filter (fun f => !f.begun)).length
  if lost > 0 then (e.count .lhNoTrib p 0 lost).causeTether p 1 (tetherUnit 0 t) else e

/-- Neither an acknowledgement nor a NAK of a tributary waits. -/
def TetherSt.without (x : TetherSt) (t : Nat) : TetherSt :=
  { x with ackQ := x.ackQ.filter (· ≠ t), nakQ := x.nakQ.filter (fun y => y.1 ≠ t) }

/-- A tributary starts anew. -/
def Device.tribRestarted (d : Device) (p t req : Nat) : Device :=
  let e := (d.tribEmptied p t req).setTrib p t {}
  ((e.setTether p ((e.tether p).without t)).set .tribTxNext p t 0).set .tribRxExpected p t 0

theorem Device.tribDescWrite_of_ne (hstore : d.store .tribDesc p t v = (e, true))
    (hbit : bit (d.get .tribDesc p t) 31 ≠ bit v 31) : d.tribDescWrite p t v = (e.tribRestarted p t (d.tribReq p t), true) := by
  unfold Device.tribDescWrite
  rw [hstore]
  exact if_pos hbit

/-- What frees buffers and counts frames leaves the descriptor as it is. -/
theorem Device.get_tribDesc_tribEmptied (d : Device) (p t req : Nat) :
    (d.tribEmptied p t req).get .tribDesc p t = d.get .tribDesc p t := by
  have hfree : ∀ (e : Device) (l : List Nat), (e.freeAll p 0 req l).get .tribDesc p t = e.get .tribDesc p t := fun e _ =>
    ((Moves.refl e objs_freeAll parts_freeAll).freeAll (Mask.le_refl _) (Mask.le_refl _)).get _ _ _ (by decide)
  unfold Device.tribEmptied
  dsimp only
  split
  · rw [Device.causeTether, Device.get_latch_obj _ _ _ _ _ _ _ _ (by decide) (by decide) (by decide),
      Device.get_count_obj _ _ _ _ _ _ _ _ (by decide), hfree, hfree]
  · rw [hfree, hfree]

theorem Device.startsAnew_tribRestarted (req : Nat) (hdesc : d.get .tribDesc p t = v) :
    (d.tribRestarted p t req).StartsAnew p t v := by
  constructor
  case desc =>
    unfold Device.tribRestarted
    rw [Device.get_set_obj _ _ _ _ _ _ _ _ (by decide), Device.get_set_obj _ _ _ _ _ _ _ _ (by decide)]
    exact (d.get_tribDesc_tribEmptied p t req).trans hdesc
  case trib => exact (Device.trib_setTrib (d.tribEmptied p t req) p t {} p t).trans (if_pos ⟨rfl, rfl⟩)
  case txNext =>
    unfold Device.tribRestarted
    rw [Device.get_set_obj _ _ _ _ _ _ _ _ (by decide)]
    exact Device.get_set_same _ _ _ _ _
  case rxExpected => exact Device.get_set_same _ _ _ _ _
  case ackQ =>
    have htether : (d.tribRestarted p t req).tether p = ((d.tribEmptied p t req).tether p).without t :=
      (Device.tether_setTether _ _ _ _).trans (if_pos rfl)
    rw [htether]
    simp [TetherSt.without]

/-- A descriptor that the journal takes: in force, and its tributary starts anew where it enables or disables it. -/
theorem Device.tribDescWrite_journalled {ses : Nat} (hv : v < 2 ^ 32) (h : d.journals ses [(⟨.tribDesc, p, t⟩, v)] = true) :
    (d.fmMessage ses).tribDescWrite p t v =
      (if bit (d.get .tribDesc p t) 31 = bit v 31 then (d.fmMessage ses).recorded .tribDesc p t v
        else ((d.fmMessage ses).recorded .tribDesc p t v).tribRestarted p t ((d.fmMessage ses).tribReq p t), true) := by
  have hstore := Device.store_recorded (o := .tribDesc) rfl hv h
  have hwas : (d.fmMessage ses).get .tribDesc p t = d.get .tribDesc p t :=
    Device.get_fmMessage_obj _ _ _ _ _ rfl (by decide) (by decide) (by decide)
  split
  · next hbit => exact Device.tribDescWrite_of_same hstore (hwas ▸ hbit)
  · next hbit => exact Device.tribDescWrite_of_ne hstore (hwas ▸ hbit)

theorem exec_tribDescWrite_refused (p : Plane) {v : BitVec 32} {rq : Req} {s : State}
    (hadm : s.dev.admits rq ⟨⟨.tribDesc, p, 0⟩, 4, v.toNat⟩ = true)
    (hrule : (s.dev.fmMessage rq.ses.val).tribDescOk p (s.dev.place ⟨.tribDesc, p, 0⟩ rq.ses.val) v.toNat = false) :
    exec (.tribDescWrite p v rq) s = .next { s with dev :=
      ((s.dev.fmMessage rq.ses.val).respond rq (statusResp rq 0x303)).settle } := by
  obtain ⟨htakes, hstatus⟩ := Device.admits_takes hadm
  show execTribDescWrite p v rq s = _
  refine State.run_next ?_
  rw [Device.request_taken _ _ _ htakes]
  simp [Device.doWrite, hstatus, Device.place_fmMessage, hrule]

theorem exec_tribDescWrite_ok (p : Plane) {v : BitVec 32} {rq : Req} {s : State} {i : Nat}
    (hi : s.dev.place ⟨.tribDesc, p, 0⟩ rq.ses.val = i)
    (hadm : s.dev.admits rq ⟨⟨.tribDesc, p, 0⟩, 4, v.toNat⟩ = true)
    (hrule : (s.dev.fmMessage rq.ses.val).tribDescOk p i v.toNat = true)
    (hdone : ((s.dev.fmMessage rq.ses.val).tribDescWrite p i v.toNat).2 = true) :
    exec (.tribDescWrite p v rq) s = .next { s with dev :=
      (((s.dev.fmMessage rq.ses.val).tribDescWrite p i v.toNat).1.respond rq (statusResp rq 0)).settle } := by
  show execTribDescWrite p v rq s = _
  refine State.run_next ?_
  rw [Device.request_taken _ _ _ (Device.admits_takes hadm).1]
  simp only [Device.place_fmMessage, hi]
  rw [Device.doWrite_admitted _ _ _ _ _ hadm hrule hdone]

/-! #### The timers (R238, R240 to R242) -/

theorem exec_ackReportTimer (p : Plane) (tr : Trib) {s : State} (h : s.dev.live p = true) :
    exec (.ackReportTimer p tr) s =
      .next { s with dev := (if s.dev.tribOn p tr then s.dev.queueAck p tr else s.dev).settle } := by
  show execAckReportTimer p tr s = _
  exact State.runOn_next h

theorem exec_renakTimer (p : Plane) (tr : Trib) {s : State} (h : s.dev.live p = true) :
    exec (.renakTimer p tr) s = .next { s with dev := (s.dev.renak p tr).settle } := by
  show execRenakTimer p tr s = _
  exact State.runOn_next h

theorem exec_retxTimeout (p : Plane) (tr : Trib) {s : State} (h : s.dev.live p = true) :
    exec (.retxTimeout p tr) s = .next { s with dev := (s.dev.retxTimeout p tr).settle } := by
  show execRetxTimeout p tr s = _
  exact State.runOn_next h

theorem Device.ackQ_queueAck : ((d.queueAck p t).tether p).ackQ =
    if (d.tether p).ackQ.contains t then (d.tether p).ackQ else (d.tether p).ackQ ++ [t] := by
  unfold Device.queueAck
  dsimp only
  split
  · rfl
  · rw [Device.tether_setTether, if_pos rfl]

/-- An acknowledgement that is queued waits. -/
theorem Device.mem_ackQ_queueAck : t ∈ ((d.queueAck p t).tether p).ackQ := by
  rw [Device.ackQ_queueAck]
  split
  · next h => exact List.contains_iff_mem.mp h
  · exact List.mem_append_right _ (List.mem_singleton_self t)

theorem Device.trib_queueAck : (d.queueAck p t).trib p t = d.trib p t := by
  unfold Device.queueAck
  dsimp only
  split <;> rfl

theorem Device.renak_of_left (h : ∀ g ∈ (d.trib p t).gaps, g.left = true) : d.renak p t = d := by
  have hopen : (d.trib p t).gaps.filter (fun g => !g.left) = [] := List.filter_eq_nil_iff.mpr (by simpa using h)
  unfold Device.renak
  rw [hopen]
  rfl

variable {g : Gap}

theorem Device.renak_of_gap (hgaps : (d.trib p t).gaps = [g]) (hopen : g.left = false) : d.renak p t = d.gapDue p t g := by
  unfold Device.renak
  rw [hgaps]
  simp [hopen, argMin]

/-- A gap once its timer has run: NAKed again, or left to the sender where the queue of NAKs is full (R240). -/
def Gap.renaked (g : Gap) (clock : Nat) (queued : Bool) : Gap :=
  { g with naks := if queued then g.naks + 1 else g.naks, at_ := clock, left := !queued }

theorem Device.queueNak_room (h : (d.tether p).nakQ.length < 8192) (first count : Nat) : d.queueNak p t first count =
    (d.setTether p { d.tether p with nakQ := (d.tether p).nakQ ++ [(t, first, count)] }, true) := if_neg (Nat.not_le.mpr h)

theorem Device.queueNak_full (h : 8192 ≤ (d.tether p).nakQ.length) (first count : Nat) :
    d.queueNak p t first count = (d.bump .lhNakOverflow p 0, false) := if_pos h

theorem Device.trib_queueNak (first count : Nat) : (d.queueNak p t first count).1.trib p t = d.trib p t := by
  rcases Nat.lt_or_ge (d.tether p).nakQ.length 8192 with h | h
  · rw [Device.queueNak_room h]; rfl
  · rw [Device.queueNak_full h]; exact (quiet_trib p t).bump ..

/-- A gap that has been NAKed fewer than `lh_retx_max` times: its NAK is queued again, and nothing else of the tributary moves. -/
theorem Device.gapDue_again (hgaps : (d.trib p t).gaps = [g]) (hnaks : g.naks < d.get .lhRetxMax p 0) :
    d.gapDue p t g = (d.queueNak p t g.first g.count).1.setTrib p t
      { d.trib p t with gaps := [g.renaked d.clock (d.queueNak p t g.first g.count).2] } := by
  unfold Device.gapDue
  rw [if_neg (by simp [hgaps]), if_neg (Nat.not_le.mpr hnaks)]
  dsimp only
  rw [Device.trib_queueNak, hgaps, List.map_singleton, if_pos rfl]
  rfl

theorem Device.gaps_gapDue_again (hgaps : (d.trib p t).gaps = [g]) (hnaks : g.naks < d.get .lhRetxMax p 0) :
    ((d.gapDue p t g).trib p t).gaps = [g.renaked d.clock (d.queueNak p t g.first g.count).2] := by
  rw [Device.gapDue_again hgaps hnaks, Device.trib_setTrib, if_pos ⟨rfl, rfl⟩]

theorem Device.tether_gapDue_again (hgaps : (d.trib p t).gaps = [g]) (hnaks : g.naks < d.get .lhRetxMax p 0) :
    (d.gapDue p t g).tether p = (d.queueNak p t g.first g.count).1.tether p := by
  rw [Device.gapDue_again hgaps hnaks]
  rfl

theorem Device.get_gapDue_again (hgaps : (d.trib p t).gaps = [g]) (hnaks : g.naks < d.get .lhRetxMax p 0) (o : Obj) (q i : Nat) :
    (d.gapDue p t g).get o q i = (d.queueNak p t g.first g.count).1.get o q i := by
  rw [Device.gapDue_again hgaps hnaks]
  rfl

theorem Device.gapDue_room (hgaps : (d.trib p t).gaps = [g]) (hopen : g.left = false) (hnaks : g.naks < d.get .lhRetxMax p 0)
    (hroom : (d.tether p).nakQ.length < 8192) :
    ((d.gapDue p t g).tether p).nakQ = (d.tether p).nakQ ++ [(t, g.first, g.count)] ∧
    ((d.gapDue p t g).trib p t).gaps = [{ g with naks := g.naks + 1, at_ := d.clock }] := by
  rw [Device.tether_gapDue_again hgaps hnaks, Device.gaps_gapDue_again hgaps hnaks, Device.queueNak_room hroom,
    Device.tether_setTether, if_pos rfl]
  exact ⟨rfl, by simp [Gap.renaked, ← hopen]⟩

theorem Device.gapDue_full (hgaps : (d.trib p t).gaps = [g]) (hnaks : g.naks < d.get .lhRetxMax p 0)
    (hfull : 8192 ≤ (d.tether p).nakQ.length) :
    ((d.gapDue p t g).tether p).nakQ = (d.tether p).nakQ ∧
    (d.gapDue p t g).get .lhNakOverflow p 0 = min (d.get .lhNakOverflow p 0 + 1) (2 ^ 32 - 1) ∧
    ((d.gapDue p t g).trib p t).gaps = [{ g with at_ := d.clock, left := true }] := by
  rw [Device.tether_gapDue_again hgaps hnaks, Device.get_gapDue_again hgaps hnaks, Device.gaps_gapDue_again hgaps hnaks,
    Device.queueNak_full hfull]
  exact ⟨congrArg TetherSt.nakQ ((quiet_tether p).bump d .lhNakOverflow p 0),
    Device.get_count_narrow d .lhNakOverflow p 0 1 (by decide), rfl⟩

/-! #### A gap is declared lost (R242) -/

/-- With nothing held a tributary delivers nothing, and where no gap is open none ends. -/
theorem Device.settleTrib_of_empty (hheld : (d.trib p t).held = []) (hgaps : (d.trib p t).gaps = []) :
    d.settleTrib p t = d.setTrib p t (d.trib p t) := by
  have hrun : ∀ n, d.deliverRun p t n = d := by
    intro n
    cases n with
    | zero => rfl
    | succ n => unfold Device.deliverRun; rw [hheld]; rfl
  have hsame : ∀ (f : Gap → List Gap) (s : TribSt), s.gaps = [] → ({ s with gaps := s.gaps.flatMap f } : TribSt) = s := by
    rintro f ⟨⟩ rfl
    rfl
  unfold Device.settleTrib
  rw [hrun]
  exact congrArg (d.setTrib p t) (hsame _ _ hgaps)

theorem Device.gapDue_lost (hgaps : (d.trib p t).gaps = [g]) (hnaks : d.get .lhRetxMax p 0 ≤ g.naks) :
    d.gapDue p t g = d.gapLost p t g := by
  unfold Device.gapDue
  rw [if_neg (by simp [hgaps]), if_pos hnaks]

/-- A tributary whose last gap is declared lost with nothing held: no longer in step with the stream. -/
def TribSt.skipped (s : TribSt) : TribSt := { s with stream := [], synced := false, gaps := [], held := [] }

/-- E moves to `dest`; `n` slots and `lost` frames are counted, and the cause is raised. -/
def Device.gapCounted (d : Device) (p t dest n lost : Nat) : Device :=
  (((d.set .tribRxExpected p t dest).count .tribLostSlots p t n).count .lhFramesLost p 0 lost).causeTether p 3 (tetherUnit 0 t)

/-- The device once the slots of a tributary's only gap are skipped. -/
def Device.gapPassed (d : Device) (p t : Nat) (g : Gap) (lost : Nat) : Device :=
  (d.fresh.2.setTrib p t (d.trib p t).skipped).gapCounted p t ((g.first + g.count) % 2 ^ 32)
    (tsnDist ((g.first + g.count) % 2 ^ 32) (d.get .tribRxExpected p t)) lost

theorem Device.gapLost_eq (hgaps : (d.trib p t).gaps = [g]) (hheld : (d.trib p t).held = []) :
    ∃ lost, d.gapLost p t g = (((d.gapPassed p t g lost).queueAck p t).trimRx p t).settleTrib p t := by
  have hnone : [g].filter (· ≠ g) = [] := by simp
  unfold Device.gapLost
  simp only [hgaps, hheld, List.filter_nil, argMin, hnone]
  exact ⟨_, by rw [Device.gapPassed, TribSt.skipped, Device.gapCounted]⟩

section
variable (d g)
variable (lost : Nat)

theorem Device.trib_gapPassed : (d.gapPassed p t g lost).trib p t = (d.trib p t).skipped :=
  ((quiet_trib p t).latch ..).trans (((quiet_trib p t).count ..).trans (((quiet_trib p t).count ..).trans
    (((quiet_trib p t).set ..).trans ((Device.trib_setTrib _ _ _ _ _ _).trans (if_pos ⟨rfl, rfl⟩)))))

theorem Device.get_rxExpected_gapPassed :
    (d.gapPassed p t g lost).get .tribRxExpected p t = (g.first + g.count) % 2 ^ 32 := by
  unfold Device.gapPassed Device.gapCounted
  rw [Device.causeTether, Device.get_latch_obj _ _ _ _ _ _ _ _ (by decide) (by decide) (by decide),
    Device.get_count_obj _ _ _ _ _ _ _ _ (by decide), Device.get_count_obj _ _ _ _ _ _ _ _ (by decide)]
  exact Device.get_set_lt _ _ _ _ _ (Nat.mod_lt _ (by decide))

theorem Device.get_lostSlots_gapPassed : (d.gapPassed p t g lost).get .tribLostSlots p t =
    min (d.get .tribLostSlots p t + tsnDist ((g.first + g.count) % 2 ^ 32) (d.get .tribRxExpected p t)) (2 ^ 32 - 1) := by
  unfold Device.gapPassed Device.gapCounted
  rw [Device.causeTether, Device.get_latch_obj _ _ _ _ _ _ _ _ (by decide) (by decide) (by decide),
    Device.get_count_obj _ _ _ _ _ _ _ _ (by decide), Device.get_count_narrow _ _ _ _ _ (by decide),
    Device.get_set_obj _ _ _ _ _ _ _ _ (by decide)]
  rfl

theorem Device.bit_cause_gapPassed : bit ((d.gapPassed p t g lost).get .cause p 5) 3 = true :=
  Device.bit_latch _ _ _ 3 _ (by decide)

end

/-- What a gap that is declared lost with nothing held leaves (R242): E lies behind it, its slots are counted, the tributary is out of
step, an acknowledgement waits and the cause stands. -/
structure Device.LosesGap (d e : Device) (p t : Nat) (g : Gap) : Prop where
  expected : e.get .tribRxExpected p t = (g.first + g.count) % 2 ^ 32
  gaps : (e.trib p t).gaps = []
  counted : e.get .tribLostSlots p t =
    min (d.get .tribLostSlots p t + tsnDist ((g.first + g.count) % 2 ^ 32) (d.get .tribRxExpected p t)) (2 ^ 32 - 1)
  unsynced : (e.trib p t).synced = false
  acknowledged : t ∈ (e.tether p).ackQ
  cause : bit (e.get .cause p 5) 3 = true

theorem Device.losesGap_gapLost (hgaps : (d.trib p t).gaps = [g]) (hheld : (d.trib p t).held = []) :
    d.LosesGap (d.gapLost p t g) p t g := by
  obtain ⟨lost, hlost⟩ := Device.gapLost_eq hgaps hheld
  obtain ⟨e, he⟩ : ∃ e, e = ((d.gapPassed p t g lost).queueAck p t).trimRx p t := ⟨_, rfl⟩
  have hmoves : Moves (d.gapPassed p t g lost) e objs_trimRx (parts_trimRx ||| parts_queueAck) :=
    he ▸ ((Moves.refl ..).queueAck (Mask.of (by decide)) (Mask.of (by decide))).trimRx (Mask.le_refl _) (Mask.of (by decide))
  have htrib : e.trib p t = { (d.trib p t).skipped with rxBufs := (e.trib p t).rxBufs } := by
    simp only [he, Device.trimRx, Device.trib_setTrib, and_self, if_true, Device.trib_queueAck, Device.trib_gapPassed]
  have hwaits : t ∈ (e.tether p).ackQ := by
    rw [he, Device.tether_congr (((Moves.refl _ _ _).trimRx (Mask.le_refl _) (Mask.le_refl _)).same .tethers (by decide))]
    exact Device.mem_ackQ_queueAck
  have hsettled : d.gapLost p t g = e.setTrib p t (e.trib p t) := by
    rw [hlost, ← he]
    exact Device.settleTrib_of_empty (by rw [htrib]; rfl) (by rw [htrib]; rfl)
  have hkept : (d.gapLost p t g).trib p t = e.trib p t := by rw [hsettled, Device.trib_setTrib, if_pos ⟨rfl, rfl⟩]
  have hget : ∀ o i, (d.gapLost p t g).get o p i = e.get o p i := fun _ _ => by rw [hsettled]; rfl
  constructor
  case expected => rw [hget, hmoves.get _ _ _ (by decide), Device.get_rxExpected_gapPassed]
  case gaps => rw [hkept, htrib]; rfl
  case counted => rw [hget, hmoves.get _ _ _ (by decide), Device.get_lostSlots_gapPassed]
  case unsynced => rw [hkept, htrib]; rfl
  case acknowledged => rw [hsettled]; exact hwaits
  case cause => rw [hget]; exact hmoves.latched (by decide) p 5 3 (by decide) (d.bit_cause_gapPassed g lost)

/-! #### The oldest copy (R241) -/

theorem Device.retxTimeout_due {c : TxCopy} {rest : List TxCopy} (hcopies : (d.trib p t).copies = c :: rest)
    (hnew : (d.trib p t).retx.contains c.tsn = false) :
    d.retxTimeout p t = d.setTrib p t { d.trib p t with retx := (d.trib p t).retx ++ [c.tsn] } := by
  unfold Device.retxTimeout
  simp only [hcopies, hnew, Bool.false_eq_true, if_false]

theorem Device.retxTimeout_idle (h : ∀ c rest, (d.trib p t).copies = c :: rest → (d.trib p t).retx.contains c.tsn = true) :
    d.retxTimeout p t = d := by
  unfold Device.retxTimeout
  dsimp only
  split
  · next c rest hcopies => exact if_pos (h c rest hcopies)
  · rfl

end

/-- Settles O36: a write of `trib_desc` by what it leaves where it enables or disables and where it does neither, a gap by
`gapDue_room`, `gapDue_full` and `losesGap_gapLost`, and the queues of acknowledgements and copies by their equations. -/
theorem tributaries : Obligations.Tributaries := by
  intro s p tr v rq
  refine ⟨fun hadm => ⟨fun hrule => ?refused, fun hrule hkept => ?written⟩, fun hlive => ?ack, fun hlive => ?renak, fun hlive => ?retx⟩
  case refused =>
    refine ⟨_, exec_tribDescWrite_refused p hadm hrule, Device.answered_respond _ _ _, ?_, ?_⟩
    · rw [Device.get_settle_respond _ _ _ _ _ rfl (by decide) (by decide)]
      exact Device.get_fmMessage_obj _ _ _ _ _ rfl (by decide) (by decide) (by decide)
    · exact (quiet_tribs.settle _).trans ((quiet_tribs.respond ..).trans (quiet_tribs.fmMessage ..))
  case written =>
    have hwrite := Device.tribDescWrite_journalled v.isLt hkept
    have hexec := exec_tribDescWrite_ok p rfl hadm hrule (by rw [hwrite])
    have hget : ∀ (e : Device) {o : Obj} (i : Nat), o.computed = false → o ≠ .ndpRequests → o ≠ .mgmtRefused →
        (e.respond rq (statusResp rq 0)).settle.get o p i = e.get o p i := fun e _ _ hc h k => e.get_settle_respond rq _ _ _ hc h k
    have htrib : ∀ (e : Device) i, (e.respond rq (statusResp rq 0)).settle.trib p i = e.trib p i := fun e i =>
      ((quiet_trib p i).settle _).trans ((quiet_trib p i).respond ..)
    rw [hwrite] at hexec
    refine ⟨_, hexec, rfl, Device.answered_respond _ _ _, ?_, fun hbit => ?_, fun hbit => ?_⟩
    · rw [hget _ _ rfl (by decide) (by decide)]
      dsimp only
      split
      · exact Device.get_recorded_same _ _ _ v.isLt
      · exact (Device.startsAnew_tribRestarted _ (Device.get_recorded_same _ _ _ v.isLt)).desc
    · have hanew := Device.startsAnew_tribRestarted (t := s.dev.place ⟨.tribDesc, p, 0⟩ rq.ses.val)
        ((s.dev.fmMessage rq.ses.val).tribReq p (s.dev.place ⟨.tribDesc, p, 0⟩ rq.ses.val))
        (Device.get_recorded_same (s.dev.fmMessage rq.ses.val) (o := .tribDesc) p _ v.isLt)
      rw [if_neg hbit, htrib, hget _ _ rfl (by decide) (by decide), hget _ _ rfl (by decide) (by decide), Device.tether_settle_respond]
      exact ⟨hanew.trib, hanew.txNext, hanew.rxExpected, hanew.ackQ⟩
    · rw [if_pos hbit, quiet_tribs.settle, quiet_tribs.respond, quiet_tribs.recorded, quiet_tribs.fmMessage]
  case ack =>
    refine ⟨_, exec_ackReportTimer p tr hlive, rfl, fun hon => ?_, fun hoff => ?_⟩
    · rw [(quiet_tether p).settle, if_pos hon]
      exact Device.ackQ_queueAck
    · rw [hoff]
      exact Device.frame_settle _ _
  case renak =>
    have htrib : (s.dev.renak p tr).settle.trib p tr = (s.dev.renak p tr).trib p tr := (quiet_trib p tr).settle _
    have htether : (s.dev.renak p tr).settle.tether p = (s.dev.renak p tr).tether p := (quiet_tether p).settle _
    refine ⟨_, exec_renakTimer p tr hlive, rfl, fun hleft => ?left, fun g hgaps hopen hnaks hroom => ?room,
      fun g hgaps hopen hnaks hfull => ?full, fun g hgaps hopen hnaks hheld => ?lost⟩
    case left =>
      rw [Device.renak_of_left hleft]
      exact Device.frame_settle _ _
    case room =>
      rw [htrib, htether, Device.renak_of_gap hgaps hopen]
      exact Device.gapDue_room hgaps hopen hnaks hroom
    case full =>
      rw [htrib, htether, Device.get_settle _ _ _ _ rfl, Device.renak_of_gap hgaps hopen]
      exact Device.gapDue_full hgaps hnaks hfull
    case lost =>
      have hlost := Device.losesGap_gapLost hgaps hheld
      rw [htrib, htether, Device.get_settle _ _ _ _ rfl, Device.get_settle _ _ _ _ rfl, Device.get_settle _ _ _ _ rfl,
        Device.renak_of_gap hgaps hopen, Device.gapDue_lost hgaps hnaks]
      exact ⟨hlost.expected, hlost.gaps, hlost.counted, hlost.unsynced, hlost.acknowledged, hlost.cause⟩
  case retx =>
    refine ⟨_, exec_retxTimeout p tr hlive, rfl, fun c rest hcopies hnew => ?_, fun hidle => ?_⟩
    · rw [(quiet_trib p tr).settle, Device.retxTimeout_due hcopies hnew, Device.trib_setTrib, if_pos ⟨rfl, rfl⟩]
    · rw [Device.retxTimeout_idle hidle]
      exact Device.frame_settle _ _

end Sys2Proof.Machine

/-! ### Long-haul links: alignment, the bundle and carrier frames (spec/10 R215, R216, R220, R222) -/

namespace Sys2Proof.Machine

/-! #### Out of frame (Table 10.4) -/

/-- A link's record once it is out of frame. -/
def LinkSt.outOfFrame (s : LinkSt) : LinkSt :=
  { s with align := 0, last := none, bad := 0, whole := false, clean := true, good := 0, incons := 0 }

section
variable (d : Device) (p l : Nat) (fault : Bool)

theorem Device.link_setLink_same (v : LinkSt) : (d.setLink p l v).link p l = v :=
  (Device.link_setLink _ _ _ _ _ _).trans (if_pos ⟨rfl, rfl⟩)

theorem Device.link_decideStripes : (d.decideStripes p).link p l = d.link p l :=
  Device.link_congr (((Moves.refl d _ _).decideStripes (Mask.le_refl _) (Mask.le_refl _)).same .links (by decide)) p l

theorem Device.link_leaveBundle : (d.leaveBundle p l fault).link p l = d.link p l :=
  Device.link_congr (((Moves.refl d _ _).leaveBundle (Mask.le_refl _) (Mask.le_refl _)).same .links (by decide)) p l

theorem Device.link_lhRefresh : (d.lhRefresh p l).link p l = d.link p l :=
  Device.link_congr (((Moves.refl d _ _).lhRefresh (Mask.le_refl _) (Mask.le_refl _)).same .links (by decide)) p l

theorem Device.link_goOof : (d.goOof p l fault).link p l = (d.link p l).outOfFrame :=
  (Device.link_lhRefresh _ _ _).trans ((Device.link_leaveBundle _ _ _ _).trans (Device.link_setLink_same _ _ _ _))

theorem Device.inBundle_lhRefresh : (d.lhRefresh p l).inBundle p l = d.inBundle p l :=
  congrArg (bit · l) (((Moves.refl d _ _).lhRefresh (Mask.le_refl _) (Mask.le_refl _)).get .lhBundle p 0 (by decide))

theorem Device.inBundle_leaveBundle (hl : l < 4) : (d.leaveBundle p l fault).inBundle p l = false := by
  unfold Device.leaveBundle
  split
  · dsimp only
    have hcleared : ∀ e : Device, Moves (d.set .lhBundle p 0 (clrBit (d.get .lhBundle p 0) l)) e
        (objs_chanFault ||| objs_decideStripes) parts_all → e.inBundle p l = false := by
      intro e h
      unfold Device.inBundle
      rw [h.get _ _ _ (by decide), Device.get_set_same, show Obj.lhBundle.width = 8 from rfl, bit_mod _ _ _ (by omega), bit_clrBit]
      simp
    exact hcleared _ ((Moves.ite (fun _ => (Moves.refl ..).chanFault (Mask.of (by decide)) (Mask.of (by decide)))
      (fun _ => Moves.refl ..)).decideStripes (Mask.of (by decide)) (Mask.of (by decide)))
  · next hout => exact Bool.eq_false_iff.mpr hout

theorem Device.inBundle_goOof (hl : l < 4) : (d.goOof p l fault).inBundle p l = false :=
  (Device.inBundle_lhRefresh _ _ _).trans (Device.inBundle_leaveBundle _ _ _ _ hl)

/-- A link that is administratively down shows its fence or nothing (R215). -/
theorem Device.get_lhState_lhRefresh_down (h : d.get .lhAdmin p l = 0) :
    (d.lhRefresh p l).get .lhState p l = if bit (d.get .fencedLongHaul p 0) l then 6 else 0 := by
  have hdown : d.lhUp p l = false := by unfold Device.lhUp; rw [h]; rfl
  unfold Device.lhRefresh
  dsimp only
  rw [((Moves.refl _ _ _).svcUpdate (Mask.le_refl _) (Mask.le_refl _)).get _ _ _ (by decide), hdown, Device.get_set_lt]
  · simp
  · simp only [Bool.not_false, if_true]
    split <;> decide

theorem Device.get_lhState_goOof_down (h : d.get .lhAdmin p l = 0) :
    (d.goOof p l fault).get .lhState p l = if bit (d.get .fencedLongHaul p 0) l then 6 else 0 := by
  have hleft : Moves d ((d.setLink p l (d.link p l).outOfFrame).leaveBundle p l fault) objs_leaveBundle parts_all :=
    ((Moves.refl ..).setLink (Mask.of (by decide)) (Mask.of (by decide))).leaveBundle (Mask.le_refl _) (Mask.of (by decide))
  rw [← hleft.get .fencedLongHaul p 0 (by decide)]
  exact Device.get_lhState_lhRefresh_down _ p l ((hleft.get .lhAdmin p l (by decide)).trans h)

/-! #### The next position (R221) -/

/-- The end of a multiframe moves neither the position that a link expects nor its run of bad frames. -/
theorem Device.link_mfEnd : ((d.mfEnd p l).link p l).expect = (d.link p l).expect ∧
    ((d.mfEnd p l).link p l).bad = (d.link p l).bad := by
  unfold Device.mfEnd
  extract_lets s ok s1
  have hs1 : s1.expect = (d.link p l).expect ∧ s1.bad = (d.link p l).bad := ⟨rfl, rfl⟩
  clear_value s1
  split
  · rw [Device.link_lhRefresh, Device.link_setLink_same]
    exact hs1
  · split
    · rw [Device.link_lhRefresh, Device.link_leaveBundle, (quiet_link p l).bump, Device.link_setLink_same]
      exact hs1
    · rw [Device.link_setLink_same]
      exact hs1

theorem Device.link_advance : ((d.advance p l).link p l).expect = ((d.link p l).expect + 1) % 2 ^ 54 ∧
    ((d.advance p l).link p l).bad = (d.link p l).bad := by
  obtain ⟨e, he⟩ : ∃ e, e = d.setLink p l { d.link p l with expect := ((d.link p l).expect + 1) % 2 ^ 54 } := ⟨_, rfl⟩
  have hlink : e.link p l = { d.link p l with expect := ((d.link p l).expect + 1) % 2 ^ 54 } := by
    rw [he, Device.link_setLink_same]
  have hmoved : (e.link p l).expect = ((d.link p l).expect + 1) % 2 ^ 54 ∧ (e.link p l).bad = (d.link p l).bad := by
    rw [hlink]; exact ⟨rfl, rfl⟩
  unfold Device.advance
  dsimp only
  rw [← he]
  split
  · obtain ⟨hexpect, hbad⟩ := e.link_mfEnd p l
    exact ⟨hexpect.trans hmoved.1, hbad.trans hmoved.2⟩
  · exact hmoved

end

/-! #### Bad frames (R220) -/

/-- A long-haul link with what bad frames count for it. -/
structure LineView where
  link : LinkSt
  bad : Nat
  erased : Nat
  oof : Nat
  inBundle : Bool

/-- The view of a link. -/
def Device.lineView (d : Device) (p l : Nat) : LineView :=
  ⟨d.link p l, d.get .lhBadFrames p l, d.get .lhErasedFrames p l, d.get .lhOofEvents p l, d.inBundle p l⟩

/-- What a bad frame does to a link: it is counted; out of frame it ends a run of valid frames; in frame it is an erasure, and the
fourth in a row loses the frame. -/
structure LineView.Bad (v w : LineView) : Prop where
  counted : w.bad = min (v.bad + 1) (2 ^ 32 - 1)
  hunting : v.link.align = 0 → w.link.align = 0 ∧ w.link.last = none
  erased : v.link.align ≠ 0 → w.erased = min (v.erased + 1) (2 ^ 32 - 1)
  expect : v.link.align ≠ 0 → w.link.expect = (v.link.expect + 1) % 2 ^ 54
  run : v.link.align ≠ 0 → v.link.bad < 3 → w.link.bad = v.link.bad + 1
  lost : v.link.align ≠ 0 → 3 ≤ v.link.bad →
    (w.link.align = 0 ∧ w.inBundle = false) ∧ w.oof = min (v.oof + 1) (2 ^ 32 - 1)

/-- The registers of the view. -/
def lineObjs : List Obj := [.lhBadFrames, .lhErasedFrames, .lhOofEvents, .lhBundle]

section
variable {d e : Device} {p l : Nat}

theorem Device.lineView_congr (hlink : e.link p l = d.link p l) (hget : ∀ o ∈ lineObjs, ∀ i, e.get o p i = d.get o p i) :
    e.lineView p l = d.lineView p l := by
  simp only [lineObjs, List.forall_mem_cons] at hget
  obtain ⟨hbad, herased, hoof, hbundle, -⟩ := hget
  unfold Device.lineView Device.inBundle
  rw [hlink, hbad, herased, hoof, hbundle]

theorem Moves.lineView {mo mp : Nat} (h : Moves d e mo mp) (ho : ∀ o ∈ lineObjs, mo.testBit o.ctorIdx = false)
    (hp : mp.testBit Part.links.ctorIdx = false) : e.lineView p l = d.lineView p l :=
  Device.lineView_congr (Device.link_congr (h.parts .links hp) p l) (fun o hmem i => h.get o p i (ho o hmem))

theorem Device.lineView_settle : d.settle.lineView p l = d.lineView p l := by
  refine Device.lineView_congr ((quiet_link p l).settle d) (fun o ho i => Device.get_settle d o p i ?_)
  revert o
  decide

/-- A bad frame on a link in frame, counted and erased at its position. -/
def Device.frameErased (d : Device) (p l : Nat) : Device :=
  let e := d.bump .lhBadFrames p l
  (if e.inBundle p l then e.touchStripe p (e.link p l).expect else e).bump .lhErasedFrames p l

/-- The run of bad frames grows and the expected position moves on. -/
def Device.frameSkipped (d : Device) (p l : Nat) (clean : Bool) : Device :=
  ((d.frameErased p l).setLink p l { d.link p l with bad := (d.link p l).bad + 1, clean := clean }).advance p l

/-- The fourth bad frame in a row loses the frame. -/
def Device.frameLost (d : Device) (p l : Nat) : Device :=
  if (d.link p l).bad ≥ 4 then (d.bump .lhOofEvents p l).goOof p l true else d

theorem Device.badFrame_hunting (h : (d.link p l).align = 0) (mfn : Option Nat) :
    d.badFrame p l mfn = (d.bump .lhBadFrames p l).setLink p l { d.link p l with last := none } := by
  unfold Device.badFrame
  dsimp only
  rw [(quiet_link p l).bump, if_pos h]

theorem Device.badFrame_framed (h : (d.link p l).align ≠ 0) (mfn : Option Nat) :
    ∃ clean, d.badFrame p l mfn = ((d.frameSkipped p l clean).frameLost p l).decideStripes p := by
  have hs : d.link p l = (d.bump .lhBadFrames p l).link p l := ((quiet_link p l).bump ..).symm
  unfold Device.badFrame
  extract_lets e s e1 e2 clean e3 e4
  have hframe : ¬ s.align = 0 := fun hzero => h ((congrArg LinkSt.align hs).trans hzero)
  rw [if_neg hframe]
  refine ⟨clean, ?_⟩
  unfold Device.frameSkipped
  rw [hs]
  rfl

section
variable (d) (p) (l)

theorem Device.get_frameErased : (d.frameErased p l).get .lhBadFrames p l = min (d.get .lhBadFrames p l + 1) (2 ^ 32 - 1) ∧
    (d.frameErased p l).get .lhErasedFrames p l = min (d.get .lhErasedFrames p l + 1) (2 ^ 32 - 1) ∧
    (d.frameErased p l).get .lhOofEvents p l = d.get .lhOofEvents p l := by
  have htouched : ∀ (e : Device) (o : Obj) (i n : Nat), (if e.inBundle p l then e.touchStripe p n else e).get o p i = e.get o p i :=
    fun e o i n => (Moves.ite (fun _ => (Moves.refl e 0 parts_touchStripe).touchStripe (Mask.of (by decide)) (Mask.le_refl _))
      (fun _ => Moves.refl ..)).get o p i (Nat.zero_testBit _)
  unfold Device.frameErased
  dsimp only
  refine ⟨?_, ?_, ?_⟩
  · rw [Device.get_bump_obj _ _ _ _ _ _ _ (by decide), htouched]
    exact Device.get_count_narrow _ _ _ _ _ (by decide)
  · rw [Device.bump, Device.get_count_narrow _ _ _ _ _ (by decide), htouched, Device.get_bump_obj _ _ _ _ _ _ _ (by decide)]
    rfl
  · rw [Device.get_bump_obj _ _ _ _ _ _ _ (by decide), htouched, Device.get_bump_obj _ _ _ _ _ _ _ (by decide)]

theorem Device.link_frameSkipped (clean : Bool) :
    ((d.frameSkipped p l clean).link p l).expect = ((d.link p l).expect + 1) % 2 ^ 54 ∧
    ((d.frameSkipped p l clean).link p l).bad = (d.link p l).bad + 1 := by
  have h := Device.link_advance ((d.frameErased p l).setLink p l { d.link p l with bad := (d.link p l).bad + 1, clean := clean }) p l
  rw [Device.link_setLink_same] at h
  exact h

/-- The counters of a skipped frame are those of its erasure. -/
theorem Device.get_frameSkipped (clean : Bool) {o : Obj} (ho : objs_advance.testBit o.ctorIdx = false) :
    (d.frameSkipped p l clean).get o p l = (d.frameErased p l).get o p l :=
  (((Moves.refl _ _ _).advance (Mask.le_refl _) (Mask.le_refl _)).get o p l ho).trans rfl

theorem Device.get_frameLost {o : Obj} (h : o ≠ .lhOofEvents) (ho : objs_goOof.testBit o.ctorIdx = false) :
    (d.frameLost p l).get o p l = d.get o p l := by
  unfold Device.frameLost
  split
  · rw [((Moves.refl _ _ _).goOof (Mask.le_refl _) (Mask.le_refl _)).get o p l ho, Device.get_bump_obj _ _ _ _ _ _ _ h]
  · rfl

theorem Device.expect_frameLost : ((d.frameLost p l).link p l).expect = (d.link p l).expect := by
  unfold Device.frameLost
  split
  · rw [Device.link_goOof, (quiet_link p l).bump]; rfl
  · rfl

end

/-- A bad frame, by whether its link is in frame, and whether it is the fourth in a row (R220). -/
theorem Device.bad_badFrame (hl : l < 4) (mfn : Option Nat) : (d.lineView p l).Bad ((d.badFrame p l mfn).lineView p l) := by
  by_cases halign : (d.link p l).align = 0
  · rw [Device.badFrame_hunting halign]
    have hlink := Device.link_setLink_same (d.bump .lhBadFrames p l) p l { d.link p l with last := none }
    refine ⟨Device.get_count_narrow d .lhBadFrames p l 1 (by decide), fun _ => ?_, fun h => absurd halign h, fun h => absurd halign h,
      fun h => absurd halign h, fun h => absurd halign h⟩
    unfold Device.lineView
    dsimp only
    rw [hlink]
    exact ⟨halign, rfl⟩
  · obtain ⟨clean, heq⟩ := Device.badFrame_framed halign mfn
    obtain ⟨hbad, herased, hoof⟩ := d.get_frameErased p l
    obtain ⟨hexpect, hrun⟩ := d.link_frameSkipped p l clean
    have hdecided : (d.badFrame p l mfn).lineView p l = ((d.frameSkipped p l clean).frameLost p l).lineView p l := by
      rw [heq]
      exact ((Moves.refl _ _ _).decideStripes (Mask.le_refl _) (Mask.le_refl _)).lineView (by decide) (by decide)
    rw [hdecided]
    constructor
    case counted => exact (Device.get_frameLost _ _ _ (by decide) (by decide)).trans ((d.get_frameSkipped p l clean (by decide)).trans hbad)
    case hunting => exact fun h => absurd h halign
    case erased =>
      exact fun _ => (Device.get_frameLost _ _ _ (by decide) (by decide)).trans ((d.get_frameSkipped p l clean (by decide)).trans herased)
    case expect => exact fun _ => (Device.expect_frameLost _ _ _).trans hexpect
    case run =>
      intro _ hfew
      have hstays : (d.frameSkipped p l clean).frameLost p l = d.frameSkipped p l clean :=
        if_neg (by rw [hrun]; exact Nat.not_le.mpr (Nat.succ_lt_succ hfew))
      rw [hstays]
      exact hrun
    case lost =>
      intro _ hmany
      have hlost : (d.frameSkipped p l clean).frameLost p l = ((d.frameSkipped p l clean).bump .lhOofEvents p l).goOof p l true :=
        if_pos (by rw [hrun]; exact Nat.succ_le_succ hmany)
      rw [hlost]
      refine ⟨⟨congrArg LinkSt.align (Device.link_goOof _ p l true), Device.inBundle_goOof _ p l true hl⟩, ?_⟩
      exact (((Moves.refl _ _ _).goOof (Mask.le_refl _) (Mask.le_refl _)).get .lhOofEvents p l (by decide)).trans
        ((Device.get_count_narrow _ _ _ _ _ (by decide)).trans (by rw [d.get_frameSkipped p l clean (by decide), hoof]; rfl))

/-! #### Good frames -/

/-- Every part of the device but the records of the long-haul links. -/
def besideLinks : Nat := parts_all ^^^ 2 ^ Part.links.ctorIdx

theorem Moves.link {mo : Nat} (h : Moves d e mo besideLinks) : e.link p l = d.link p l :=
  Device.link_congr (h.parts .links (by decide)) p l

/-- A good frame ends a run of bad ones and moves the expected position on. -/
theorem Device.link_goodFrame (oh : Nat) (area : Bytes) :
    ((d.goodFrame p l oh area).link p l).expect = ((d.link p l).expect + 1) % 2 ^ 54 ∧
    ((d.goodFrame p l oh area).link p l).bad = 0 := by
  unfold Device.goodFrame
  extract_lets s num e1 e2 e3 e4 e5 e6
  have hrdi : Moves e1 e2 objs_goodFrame besideLinks := (Moves.refl ..).rdiRx (Mask.of (by decide)) (Mask.of (by decide))
  have hack : Moves e1 e3 objs_goodFrame besideLinks := .ite (fun _ => hrdi.ackRx (Mask.of (by decide)) (Mask.of (by decide))) (fun _ => hrdi)
  have hnak : Moves e1 e4 objs_goodFrame besideLinks :=
    .ite (fun _ => hack.tsnNakRx (Mask.of (by decide)) (Mask.of (by decide))) (fun _ => hack)
  have hzero : Moves e1 e5 objs_goodFrame besideLinks :=
    .ite (fun _ => hnak.fnZero (Mask.of (by decide)) (Mask.of (by decide))) (fun _ => hnak)
  have htaken : Moves e1 e6 objs_goodFrame besideLinks :=
    .ite (fun _ => hzero.bundleFrame (Mask.of (by decide)) (Mask.of (by decide))) (fun _ => hzero)
  have hlink : e6.link p l = { d.link p l with bad := 0 } := htaken.link.trans (Device.link_setLink_same _ _ _ _)
  have hadvanced := e6.link_advance p l
  rw [hlink] at hadvanced
  rw [Device.link_decideStripes]
  exact hadvanced

/-! #### Carrier frames received (R220) -/

/-- The number of a carrier frame: 64 · MFN + FN. -/
def carrierNo (cf : CarrierFrame) : Nat := fld cf.oh.toNat 432 48 * 64 + fld cf.oh.toNat 490 6

/-- The link of a port is past its module and its PCS, and the port is not fenced (Table 10.12). -/
def Device.listens (d : Device) (p l : Nat) : Prop := 2 ≤ d.get .lhState p l ∧ d.get .lhState p l ≠ 6

/-- The second frame in sequence puts a link in frame (Table 10.4). -/
def Device.inFrame (d : Device) (p l num : Nat) : Device :=
  (d.setLink p l { d.link p l with align := 1, last := none, expect := (num + 1) % 2 ^ 54, bad := 0, whole := num % 64 = 63,
                                   clean := true, good := 0, incons := 0 }).lhRefresh p l

/-- What a valid frame does to the alignment of its link. -/
def Device.carrierTaken (d : Device) (p l : Nat) (cf : CarrierFrame) : Device :=
  let num := carrierNo cf
  if (d.link p l).align = 0 then
    if (d.link p l).last = some ((num + 2 ^ 54 - 1) % 2 ^ 54) then d.inFrame p l num
    else d.setLink p l { d.link p l with last := some num }
  else if num = (d.link p l).expect then d.goodFrame p l cf.oh.toNat cf.area
  else d.badFrame p l (some (num / 64))

variable {cf : CarrierFrame}

theorem Device.carrierRx_deaf (h : ¬ d.listens p l) : d.carrierRx p l cf = d := by
  unfold Device.listens at h
  unfold Device.carrierRx
  exact if_pos (by simp only [Bool.or_eq_true, decide_eq_true_eq]; omega)

/-- A frame of another port or device is counted and raises the cause of a peer that does not match. -/
def Device.peerMismatch (d : Device) (p l : Nat) : Device := (d.bump .lhPeerMismatch p l).causeTether p 0 (tetherUnit l 0)

theorem Device.carrierRx_rejected (h : d.listens p l) (hok : (d.carrierOk p l cf).1 = false ∨ (d.carrierOk p l cf).2 = false) :
    d.carrierRx p l cf = (if (d.carrierOk p l cf).1 then d.peerMismatch p l else d).badFrame p l none := by
  unfold Device.listens at h
  unfold Device.carrierRx
  rw [if_neg (by simp only [Bool.or_eq_true, decide_eq_true_eq]; omega)]
  exact if_pos (by rcases hok with hok | hok <;> simp [hok])

theorem Device.carrierRx_accepted (h : d.listens p l) (hok : d.carrierOk p l cf = (true, true)) :
    d.carrierRx p l cf = (d.bump .lhRxFrames p l).carrierTaken p l cf := by
  unfold Device.listens at h
  unfold Device.carrierRx
  rw [if_neg (by simp only [Bool.or_eq_true, decide_eq_true_eq]; omega), hok]
  exact if_neg (by decide)

theorem Device.lineView_peerMismatch : (d.peerMismatch p l).lineView p l = d.lineView p l :=
  Moves.lineView (mo := objs_causeTether ||| 2 ^ Obj.lhPeerMismatch.ctorIdx) (mp := parts_causeTether ||| 1)
    (((Moves.refl ..).bump (by decide) (by decide) (by decide)).causeTether (Mask.of (by decide)) (Mask.of (by decide)))
    (by decide) (by decide)

/-- What a frame that fails a check leaves (R220): a bad frame, and where only its identity is wrong a counted mismatch. -/
theorem Device.carrierRx_rejected_spec (hl : l < 4) (h : d.listens p l)
    (hok : (d.carrierOk p l cf).1 = false ∨ (d.carrierOk p l cf).2 = false) :
    (d.lineView p l).Bad ((d.carrierRx p l cf).lineView p l) ∧
    ((d.carrierOk p l cf).1 = true →
      (d.carrierRx p l cf).get .lhPeerMismatch p l = min (d.get .lhPeerMismatch p l + 1) (2 ^ 32 - 1) ∧
      bit ((d.carrierRx p l cf).get .cause p 5) 0 = true) := by
  rw [Device.carrierRx_rejected h hok]
  split
  · have hbad := Device.bad_badFrame (d := d.peerMismatch p l) (p := p) hl none
    rw [Device.lineView_peerMismatch] at hbad
    have hmoves : Moves (d.peerMismatch p l) ((d.peerMismatch p l).badFrame p l none) objs_badFrame parts_badFrame :=
      (Moves.refl ..).badFrame (Mask.le_refl _) (Mask.le_refl _)
    refine ⟨hbad, fun _ => ⟨?_, hmoves.latched (by decide) p 5 0 (by decide) (Device.bit_latch _ _ _ 0 _ (by decide))⟩⟩
    rw [hmoves.get _ _ _ (by decide), Device.peerMismatch, Device.causeTether,
      Device.get_latch_obj _ _ _ _ _ _ _ _ (by decide) (by decide) (by decide)]
    exact Device.get_count_narrow _ _ _ _ _ (by decide)
  · next hfalse => exact ⟨Device.bad_badFrame hl none, fun htrue => absurd htrue hfalse⟩

theorem Device.get_lhRxFrames_carrierTaken : (d.carrierTaken p l cf).get .lhRxFrames p l = d.get .lhRxFrames p l := by
  have hmoves : Moves d (d.carrierTaken p l cf) (objs_goodFrame ||| objs_badFrame) parts_all := by
    have hset : ∀ v, Moves d (d.setLink p l v) (objs_goodFrame ||| objs_badFrame) parts_all := fun _ =>
      (Moves.refl ..).setLink (Mask.of (by decide)) (Mask.of (by decide))
    refine .ite (fun _ => .ite (fun _ => ?_) (fun _ => hset _)) (fun _ => .ite (fun _ => ?_) (fun _ => ?_))
    · exact (hset _).lhRefresh (Mask.of (by decide)) (Mask.of (by decide))
    · exact (Moves.refl ..).goodFrame (Mask.of (by decide)) (Mask.of (by decide))
    · exact (Moves.refl ..).badFrame (Mask.of (by decide)) (Mask.of (by decide))
  exact hmoves.get _ _ _ (by decide)

theorem Device.link_carrierTaken_second (halign : (d.link p l).align = 0)
    (hlast : (d.link p l).last = some ((carrierNo cf + 2 ^ 54 - 1) % 2 ^ 54)) :
    (d.carrierTaken p l cf).link p l = { d.link p l with align := 1, last := none, expect := (carrierNo cf + 1) % 2 ^ 54, bad := 0,
                                                         whole := carrierNo cf % 64 = 63, clean := true, good := 0, incons := 0 } := by
  unfold Device.carrierTaken
  dsimp only
  rw [if_pos halign, if_pos hlast]
  exact (Device.link_lhRefresh _ _ _).trans (Device.link_setLink_same _ _ _ _)

theorem Device.link_carrierTaken_first (halign : (d.link p l).align = 0)
    (hlast : (d.link p l).last ≠ some ((carrierNo cf + 2 ^ 54 - 1) % 2 ^ 54)) :
    (d.carrierTaken p l cf).link p l = { d.link p l with last := some (carrierNo cf) } := by
  unfold Device.carrierTaken
  dsimp only
  rw [if_pos halign, if_neg hlast]
  exact Device.link_setLink_same _ _ _ _

theorem Device.carrierTaken_good (halign : (d.link p l).align ≠ 0) (hnum : carrierNo cf = (d.link p l).expect) :
    d.carrierTaken p l cf = d.goodFrame p l cf.oh.toNat cf.area := by
  unfold Device.carrierTaken
  dsimp only
  rw [if_neg halign, if_pos hnum]

theorem Device.carrierTaken_misplaced (halign : (d.link p l).align ≠ 0) (hnum : carrierNo cf ≠ (d.link p l).expect) :
    d.carrierTaken p l cf = d.badFrame p l (some (carrierNo cf / 64)) := by
  unfold Device.carrierTaken
  dsimp only
  rw [if_neg halign, if_neg hnum]

/-! #### Carrier frames sent (R216) -/

theorem Device.carrierTx_held (h : d.lhUp p l = false ∨ 64 ≤ (d.link p l).fn) : d.carrierTx p l = d := by
  unfold Device.carrierTx
  exact if_pos (by rcases h with h | h <;> simp [h])

/-- A port that is up sends the next frame of its multiframe: the slots are filled, then the frame leaves. -/
theorem Device.carrierTx_sends (hup : d.lhUp p l = true) (hfn : (d.link p l).fn < 64) : ∃ e oh area,
    Moves d e (objs_fillFrame ||| objs_causeTether) (parts_fillFrame ||| parts_causeTether) ∧
    d.carrierTx p l = ((e.setLink p l { d.link p l with fn := (d.link p l).fn + 1 }).bump .lhTxFrames p l).emit
      (.carrier p l (carrierOf (e.srcMac p l) oh area)) := by
  unfold Device.carrierTx
  extract_lets s n first e1 e2 th ack oh area e3 e4
  rw [if_neg (by simp [s, hup, hfn])]
  have hfilled : Moves d e1 (objs_fillFrame ||| objs_causeTether) (parts_fillFrame ||| parts_causeTether) :=
    (Moves.refl ..).foldl (fun _ _ => (Moves.refl ..).fillFrame (Mask.of (by decide)) (Mask.of (by decide)))
  have hlooped : Moves d e2 (objs_fillFrame ||| objs_causeTether) (parts_fillFrame ||| parts_causeTether) :=
    .ite (fun _ => hfilled.causeTether (Mask.of (by decide)) (Mask.of (by decide))) (fun _ => hfilled)
  exact ⟨e3, oh, area, hlooped.setTether (Mask.of (by decide)) (Mask.of (by decide)), rfl⟩

theorem Device.srcMac_congr (h : e.get .deviceIdActive 4 p = d.get .deviceIdActive 4 p) : e.srcMac p l = d.srcMac p l := by
  unfold Device.srcMac Device.devId
  rw [h]

/-- What a frame sent leaves (R216): the link stands at its next frame, the frame is counted, and it has left. -/
theorem Device.carrierTx_spec (hup : d.lhUp p l = true) (hfn : (d.link p l).fn < 64) :
    ((d.carrierTx p l).link p l).fn = (d.link p l).fn + 1 ∧
    (d.carrierTx p l).get .lhTxFrames p l = (d.get .lhTxFrames p l + 1) % 2 ^ 64 ∧
    ∃ oh area, d.Sends (d.carrierTx p l) (.carrier p l (carrierOf (d.srcMac p l) oh area)) := by
  obtain ⟨e, oh, area, hmoves, heq⟩ := Device.carrierTx_sends hup hfn
  obtain ⟨f, hf⟩ : ∃ f, f = e.setLink p l { d.link p l with fn := (d.link p l).fn + 1 } := ⟨_, rfl⟩
  rw [← hf] at heq
  rw [heq, Device.srcMac_congr (hmoves.get .deviceIdActive 4 p (by decide))]
  refine ⟨?_, ?_, oh, area, ?_⟩
  · show (((f.bump .lhTxFrames p l).link p l).fn) = _
    rw [(quiet_link p l).bump, hf, Device.link_setLink_same]
  · show (f.bump .lhTxFrames p l).get .lhTxFrames p l = _
    rw [Device.bump, Device.get_count_wide _ _ _ _ _ (by decide), hf]
    exact congrArg (fun n => (n + 1) % 2 ^ 64) (hmoves.get .lhTxFrames p l (by decide))
  · obtain ⟨m, hm⟩ := hmoves.out
    obtain ⟨n, hn⟩ := (Device.frame_bump f .lhTxFrames p l (fun _ _ _ => True) (Or.inr trivial)).out
    have hfout : f.out = d.out ++ m := hf ▸ hm
    exact ⟨m ++ (n ++ [_]), by rw [← List.append_assoc, ← List.append_assoc, ← hfout, ← hn]; rfl, by simp⟩

end

/-! #### The commands -/

section
variable {s : State} (p : Plane) (l : Lh)

theorem exec_carrierFrameTx (h : s.dev.live p = true) :
    exec (.carrierFrameTx p l) s = .next { s with dev := (s.dev.carrierTx p l).settle } := by
  show execCarrierFrameTx p l s = _
  exact State.runOn_next h

theorem exec_carrierFrameRx (cf : CarrierFrame) (h : s.dev.live p = true) :
    exec (.carrierFrameRx p l cf) s = .next { s with dev := (s.dev.carrierRx p l cf).settle } := by
  show execCarrierFrameRx p l cf s = _
  exact State.runOn_next h

theorem exec_carrierFrameAbsent (h : s.dev.live p = true) :
    exec (.carrierFrameAbsent p l) s = .next { s with dev :=
      (if (s.dev.link p l).align = 0 || s.dev.get .lhState p l < 2 then s.dev else s.dev.badFrame p l none).settle } := by
  show execCarrierFrameAbsent p l s = _
  exact State.runOn_next h

theorem exec_lhLossOfSignal (h : s.dev.live p = true) :
    exec (.lhLossOfSignal p l) s = .next { s with dev := (s.dev.goOof p l true).settle } := by
  show execLhLossOfSignal p l s = _
  exact State.runOn_next h

/-- The PCS of a link locks or loses its lock (R215). -/
def Device.pcsSet (d : Device) (p l : Nat) (lock : Bool) : Device := d.setLink p l { d.link p l with pcs := lock }

theorem exec_longHaulPcsLock (lock : Bool) (h : s.dev.live p = true) :
    exec (.longHaulPcsLock p l lock) s = .next { s with dev :=
      (if lock then ((s.dev.pcsSet p l lock).retuned p l 3).lhRefresh p l else (s.dev.pcsSet p l lock).goOof p l true).settle } := by
  show execLongHaulPcsLock p l lock s = _
  exact State.runOn_next h

/-- A PCS that locks moves no more than that of its link (R215). -/
theorem Device.link_pcsLocked (d : Device) (p l : Nat) :
    (((d.pcsSet p l true).retuned p l 3).lhRefresh p l).link p l = { d.link p l with pcs := true } ∧
    (((d.pcsSet p l true).retuned p l 3).lhRefresh p l).get .lhBundle p 0 = d.get .lhBundle p 0 := by
  have hretuned : Moves (d.pcsSet p l true) ((d.pcsSet p l true).retuned p l 3) objs_retuned parts_retuned :=
    (Moves.refl ..).retuned (Mask.le_refl _) (Mask.le_refl _)
  refine ⟨?_, ?_⟩
  · rw [Device.link_lhRefresh, Device.link_congr (hretuned.parts .links (by decide)) p l]
    exact Device.link_setLink_same _ _ _ _
  · rw [((Moves.refl _ _ _).lhRefresh (Mask.le_refl _) (Mask.le_refl _)).get .lhBundle p 0 (by decide),
      hretuned.get .lhBundle p 0 (by decide)]
    rfl

theorem Device.inBundle_respond (d : Device) (rq : Req) (r : Resp) (p l : Nat) : (d.respond rq r).inBundle p l = d.inBundle p l :=
  congrArg (bit · l) (Device.get_respond d rq r .lhBundle p 0 rfl (by decide) (by decide))

/-- A register that the journal keeps leaves every other one but the journal's own as it is. -/
theorem Device.get_recorded_obj (d : Device) {o o' : Obj} (p i v : Nat) {q j : Nat} (hne : o' ≠ o)
    (ho : objs_journal.testBit o'.ctorIdx = false) : (d.recorded o p i v).get o' q j = d.get o' q j :=
  (Device.get_set_obj _ _ _ _ _ _ _ _ hne).trans (((Moves.refl _ _ _).journal (Mask.le_refl _) (Mask.le_refl _)).get _ _ _ ho)

theorem Device.lhAdminWrite_journalled {d : Device} {ses v : Nat} {p l : Nat} (hv : v < 2 ^ 8)
    (h : d.journals ses [(⟨.lhAdmin, p, l⟩, v)] = true) : (d.fmMessage ses).lhAdminWrite p l v =
      (if v = 0 then ((d.fmMessage ses).recorded .lhAdmin p l v).goOof p l false
        else ((d.fmMessage ses).recorded .lhAdmin p l v).lhRefresh p l, true) := by
  have hstore := Device.store_recorded (o := .lhAdmin) rfl hv h
  unfold Device.lhAdminWrite
  rw [hstore]
  dsimp only
  rw [if_neg (by decide)]
  split <;> rfl

theorem exec_lhAdminWrite {v : Byte} {rq : Req} (hadm : s.dev.admits rq ⟨⟨.lhAdmin, p, l⟩, 1, v.toNat⟩ = true)
    (hkept : s.dev.journals rq.ses.val [(⟨.lhAdmin, p, l⟩, v.toNat)] = true) :
    exec (.lhAdminWrite p l v rq) s = .next { s with dev :=
      (((s.dev.fmMessage rq.ses.val).lhAdminWrite p l v.toNat).1.respond rq (statusResp rq 0)).settle } := by
  show execLhAdminWrite p l v rq s = _
  exact State.run_next (Device.write_admitted _ _ _ _ _ hadm rfl (by rw [Device.lhAdminWrite_journalled v.isLt hkept]))

end

/-- What a valid frame leaves (R220, Table 10.4): it is counted, and its link takes its number, comes in frame, moves on, or has a
bad frame. -/
structure Device.TakesCarrier (d e : Device) (p l : Nat) (cf : CarrierFrame) : Prop where
  counted : e.get .lhRxFrames p l = (d.get .lhRxFrames p l + 1) % 2 ^ 64
  second : (d.link p l).align = 0 → (d.link p l).last = some ((carrierNo cf + 2 ^ 54 - 1) % 2 ^ 54) →
    (e.link p l).align = 1 ∧ (e.link p l).expect = (carrierNo cf + 1) % 2 ^ 54 ∧ (e.link p l).bad = 0
  first : (d.link p l).align = 0 → (d.link p l).last ≠ some ((carrierNo cf + 2 ^ 54 - 1) % 2 ^ 54) →
    e.link p l = { d.link p l with last := some (carrierNo cf) }
  good : (d.link p l).align ≠ 0 → carrierNo cf = (d.link p l).expect →
    (e.link p l).expect = ((d.link p l).expect + 1) % 2 ^ 54 ∧ (e.link p l).bad = 0
  misplaced : (d.link p l).align ≠ 0 → carrierNo cf ≠ (d.link p l).expect → (d.lineView p l).Bad (e.lineView p l)

theorem Device.takesCarrier_carrierRx {d : Device} {p l : Nat} {cf : CarrierFrame} (hl : l < 4) (h : d.listens p l)
    (hok : d.carrierOk p l cf = (true, true)) : d.TakesCarrier (d.carrierRx p l cf) p l cf := by
  have hlink : (d.bump .lhRxFrames p l).link p l = d.link p l := (quiet_link p l).bump ..
  have hview : (d.bump .lhRxFrames p l).lineView p l = d.lineView p l := by
    refine Device.lineView_congr hlink (fun o ho i => Device.get_bump_obj _ _ _ _ _ _ _ ?_)
    revert o
    decide
  rw [Device.carrierRx_accepted h hok]
  constructor
  case counted =>
    rw [Device.get_lhRxFrames_carrierTaken]
    exact Device.get_count_wide _ _ _ _ _ (by decide)
  case second =>
    intro halign hlast
    rw [Device.link_carrierTaken_second (hlink.symm ▸ halign) (hlink.symm ▸ hlast)]
    exact ⟨rfl, rfl, rfl⟩
  case first =>
    intro halign hlast
    rw [Device.link_carrierTaken_first (hlink.symm ▸ halign) (hlink.symm ▸ hlast), hlink]
  case good =>
    intro halign hnum
    rw [Device.carrierTaken_good (hlink.symm ▸ halign) (hlink.symm ▸ hnum), ← hlink]
    exact Device.link_goodFrame _ _
  case misplaced =>
    intro halign hnum
    rw [Device.carrierTaken_misplaced (hlink.symm ▸ halign) (hlink.symm ▸ hnum), ← hview]
    exact Device.bad_badFrame hl _

/-- Settles O34: carrier frames by `takesCarrier_carrierRx`, `carrierRx_rejected_spec` and `carrierTx_spec`, bad frames by
`bad_badFrame`, and what takes a link out of frame by `goOof`. -/
theorem longHaulLinks : Obligations.LongHaulLinks := by
  intro s p l cf lock v rq k off bad
  have hbad : ∀ t : State, (s.dev.lineView p l).Bad (t.dev.lineView p l) → bad t := fun t h =>
    ⟨h.counted, h.hunting, fun hframe => ⟨h.erased hframe, h.expect hframe, h.run hframe, h.lost hframe⟩⟩
  have hview : ∀ e : Device, e.settle.lineView p l = e.lineView p l := fun e => Device.lineView_settle
  have hlink : ∀ e : Device, e.settle.link p l = e.link p l := fun e => (quiet_link p l).settle e
  have hbundle : ∀ e : Device, e.settle.inBundle p l = e.inBundle p l := fun e => congrArg LineView.inBundle (hview e)
  have hout : ∀ (e : Device) (fault : Bool), ((e.goOof p l fault).settle.link p l).align = 0 ∧
      (e.goOof p l fault).settle.inBundle p l = false := fun e fault => by
    rw [hlink, hbundle, Device.link_goOof]
    exact ⟨rfl, Device.inBundle_goOof _ _ _ _ l.isLt⟩
  refine ⟨fun hadm hkept => ?admin, fun hlive => ⟨fun hheld => ?held, fun hup hfn => ?sent⟩, fun hlive => ?received,
    fun hlive => ?absent, fun hlive => ⟨_, exec_lhLossOfSignal p l hlive, rfl, hout _ _⟩, fun hlive => ?pcs⟩
  case admin =>
    have hwrite := Device.lhAdminWrite_journalled v.isLt hkept
    have hexec := exec_lhAdminWrite p l hadm hkept
    rw [hwrite] at hexec
    obtain ⟨e, he⟩ : ∃ e, e = (s.dev.fmMessage rq.ses.val).recorded .lhAdmin p l v.toNat := ⟨_, rfl⟩
    have hstored : e.get .lhAdmin p l = v.toNat := he ▸ Device.get_recorded_same _ _ _ v.isLt
    have hfence : e.get .fencedLongHaul p 0 = s.dev.get .fencedLongHaul p 0 := by
      rw [he, Device.get_recorded_obj _ _ _ _ (by decide) (by decide)]
      exact Device.get_fmMessage_obj _ _ _ _ _ rfl (by decide) (by decide) (by decide)
    rw [← he] at hexec
    refine ⟨_, hexec, rfl, Device.answered_respond _ _ _, ?_, ?_⟩
    · rw [Device.get_settle_respond _ _ _ _ _ rfl (by decide) (by decide)]
      dsimp only
      split
      · exact (((Moves.refl _ _ _).goOof (Mask.le_refl _) (Mask.le_refl _)).get _ _ _ (by decide)).trans hstored
      · exact (((Moves.refl _ _ _).lhRefresh (Mask.le_refl _) (Mask.le_refl _)).get _ _ _ (by decide)).trans hstored
    · rintro rfl
      refine ⟨⟨?_, ?_⟩, ?_⟩
      · rw [hlink, (quiet_link p l).respond]
        exact congrArg LinkSt.align (Device.link_goOof e p l false)
      · rw [hbundle, Device.inBundle_respond]
        exact Device.inBundle_goOof e p l false l.isLt
      · rw [Device.get_settle_respond _ _ _ _ _ rfl (by decide) (by decide)]
        exact (Device.get_lhState_goOof_down e p l false hstored).trans (by rw [hfence])
  case held =>
    refine ⟨_, exec_carrierFrameTx p l hlive, ?_⟩
    rw [Device.carrierTx_held hheld]
    exact Device.frame_settle _ _
  case sent =>
    obtain ⟨hnext, hcounted, oh, area, hsends⟩ := Device.carrierTx_spec hup hfn
    refine ⟨_, exec_carrierFrameTx p l hlive, rfl, ?_, ?_, oh, area, hsends.after (Device.frame_settle _ noRegs)⟩
    · rw [hlink]; exact hnext
    · rw [Device.get_settle _ _ _ _ rfl]; exact hcounted
  case received =>
    refine ⟨_, exec_carrierFrameRx p l cf hlive, rfl, fun hdeaf => ?_, fun hlistens hok => ?_, fun hlistens hok => ?_⟩
    · rw [Device.carrierRx_deaf hdeaf]
      exact Device.frame_settle _ _
    · obtain ⟨hframe, hmismatch⟩ := Device.carrierRx_rejected_spec l.isLt hlistens hok
      refine ⟨hbad _ ((hview _).symm ▸ hframe), fun hvalid => ?_⟩
      rw [Device.get_settle _ _ _ _ rfl, Device.get_settle _ _ _ _ rfl]
      exact hmismatch hvalid
    · have htaken := Device.takesCarrier_carrierRx l.isLt hlistens hok
      rw [Device.get_settle _ _ _ _ rfl, hlink]
      exact ⟨htaken.counted, htaken.second, htaken.first, htaken.good,
        fun hframe hnum => hbad _ ((hview _).symm ▸ htaken.misplaced hframe hnum)⟩
  case absent =>
    refine ⟨_, exec_carrierFrameAbsent p l hlive, rfl, fun hidle => ?_, fun hframe hup => hbad _ ?_⟩
    · rw [if_pos (by simpa using hidle)]
      exact Device.frame_settle _ _
    · have hnot : ¬ ((decide ((s.dev.link p l).align = 0) || decide (s.dev.get .lhState p l < 2)) = true) := by
        rw [Bool.or_eq_true, decide_eq_true_eq, decide_eq_true_eq]
        exact not_or.mpr ⟨hframe, Nat.not_lt.mpr hup⟩
      rw [if_neg hnot, hview]
      exact Device.bad_badFrame l.isLt none
  case pcs =>
    refine ⟨_, exec_longHaulPcsLock p l lock hlive, rfl, ?_⟩
    dsimp only
    rw [hlink]
    cases lock with
    | true =>
      obtain ⟨hkept, hbundled⟩ := Device.link_pcsLocked s.dev p l
      refine ⟨congrArg LinkSt.pcs hkept, fun _ => ⟨hkept, ?_⟩, fun h => absurd h (by decide)⟩
      rw [Device.get_settle _ _ _ _ rfl]
      exact hbundled
    | false =>
      have hlost : (((s.dev.pcsSet p l false).goOof p l true).link p l).pcs = false := by
        rw [Device.link_goOof, Device.pcsSet, Device.link_setLink_same]
        rfl
      exact ⟨hlost, fun h => absurd h (by decide), fun _ => hout (s.dev.pcsSet p l false) true⟩

end Sys2Proof.Machine

/-! ### Laser inputs (spec/13 R292 to R297, spec/10 R214) -/

namespace Sys2Proof.Machine

/-! #### What an aborted round keeps of a calibration record (R306) -/

/-- A calibration record without its round, what that round saved, its aborts, and the mode and the matrix rounds that wait. -/
def CalSt.bare (s : CalSt) : CalSt := { s with round := none, saved := [], aborts := [], pendMode := none, matrix := [] }

/-- Every calibration record is the same but for its round and what waits for it: the pairs that are due and the matrix among it. -/
def CalsBare (d e : Device) : Prop := ∀ q k, (e.cal q k).bare = (d.cal q k).bare

section
variable {d e f : Device} {p c n : Nat}

theorem CalsBare.refl (d : Device) : CalsBare d d := fun _ _ => rfl

theorem CalsBare.trans (h : CalsBare d e) (k : CalsBare e f) : CalsBare d f := fun q i => (k q i).trans (h q i)

theorem CalsBare.of_cals (h : e.cals = d.cals) : CalsBare d e := fun q k => by unfold Device.cal; rw [h]

theorem CalsBare.of_moves {mo mp : Nat} (h : Moves d e mo mp) (hp : mp.testBit Part.cals.ctorIdx = false) : CalsBare d e :=
  .of_cals (h.same .cals hp)

theorem CalsBare.ite {a b : Device} {x : Prop} [Decidable x] (ha : CalsBare d a) (hb : CalsBare d b) :
    CalsBare d (if x then a else b) := by
  split
  · exact ha
  · exact hb

theorem CalsBare.foldl {α : Type} {g : Device → α → Device} (hg : ∀ d a, CalsBare d (g d a)) (l : List α) (d : Device) :
    CalsBare d (l.foldl g d) := by
  induction l generalizing d with
  | nil => exact .refl d
  | cons a r ih => exact (hg d a).trans (ih _)

theorem CalsBare.setCal {v : CalSt} (h : v.bare = (d.cal p c).bare) : CalsBare d (d.setCal p c v) := by
  intro q k
  rw [Device.cal_setCal]
  split
  · next he => rw [h, he.1, he.2]
  · rfl

theorem CalsBare.due (h : CalsBare d e) (q k : Nat) : (e.cal q k).due = (d.cal q k).due := (congrArg CalSt.due (h q k) :)

theorem CalsBare.matrixOk (h : CalsBare d e) (q k : Nat) : (e.cal q k).matrixOk = (d.cal q k).matrixOk :=
  (congrArg CalSt.matrixOk (h q k) :)

theorem CalsBare.set {o : Obj} {i v : Nat} : CalsBare d (d.set o p i v) := .of_cals rfl

theorem CalsBare.bump {o : Obj} {i : Nat} : CalsBare d (d.bump o p i) := .of_cals (Device.cals_bump ..)

theorem CalsBare.setReserve : CalsBare d (d.setReserve p c) :=
  .of_moves ((Moves.refl ..).setReserve (Mask.le_refl _) (Mask.le_refl _)) (by decide)

theorem CalsBare.applyMode : CalsBare d (d.applyMode p c) := by
  unfold Device.applyMode
  extract_lets v s e
  have hmode : CalsBare d e := by
    refine .ite (CalsBare.trans (.setCal ?_) .set) (CalsBare.trans (.setCal ?_) .set)
    · rfl
    · rfl
  exact hmode.trans .setReserve

theorem CalsBare.endRound {j : Nat} : CalsBare d (d.endRound p c j) := by
  unfold Device.endRound
  extract_lets s e1 e2 e3
  have hrings : CalsBare d e1 := .foldl (fun _ _ => .ite .set (.refl _)) _ _
  have hended : CalsBare d e2 := hrings.trans (.setCal (hrings p c).symm)
  have hheld : CalsBare e2 e3 := by
    apply CalsBare.foldl
    exact fun _ _ => .of_cals rfl
  have hkept : CalsBare d e3 := hended.trans hheld
  exact .ite (hkept.trans .applyMode) hkept

theorem CalsBare.calAbort : CalsBare d (d.calAbort p c) := by
  unfold Device.calAbort
  extract_lets s e1
  split
  · exact .refl d
  · extract_lets a e2 e3 e4
    have hcodes : CalsBare d e1 := .foldl (fun _ _ => .set) _ _
    have hcounted : CalsBare d e2 := hcodes.trans (.setCal (hcodes p c).symm)
    have hended : CalsBare d e3 := (hcounted.trans .bump).trans .endRound
    have hforced : CalsBare d e4 := .ite (hended.trans .set) hended
    exact .ite ((hforced.trans .set).trans (.of_cals (Device.cals_latch ..))) hforced

theorem CalsBare.calAbortPort : CalsBare d (d.calAbortPort p n) := .ite .calAbort (.refl d)

/-! #### A port that leaves UP aborts no more than rounds -/

theorem CalsBare.setPort {v : PortSt} : CalsBare d (d.setPort p n v) := .of_cals rfl

theorem CalsBare.sendLink {g : Frame} : CalsBare d (d.sendLink p n g) :=
  .ite .setPort (CalsBare.calAbortPort.trans (.of_cals rfl))

theorem CalsBare.returnCredit {cls k : Nat} : CalsBare d (d.returnCredit p n cls k) :=
  CalsBare.setPort.trans (.ite (CalsBare.setPort.trans .sendLink) (.refl _))

theorem CalsBare.frameDone {fid : Nat} : CalsBare d (d.frameDone p fid) := by
  unfold Device.frameDone
  split
  · exact .refl d
  · split
    · exact .refl d
    · extract_lets g
      have herased : CalsBare d g := .of_cals rfl
      split
      · exact herased.trans .returnCredit
      · exact herased

theorem CalsBare.release {id o : Nat} : CalsBare d (d.release p id o) := by
  have htidied : ∀ g : Device, CalsBare g (g.tidyCopy p id) := fun g => by
    unfold Device.tidyCopy
    split
    · exact .refl g
    · exact .ite (CalsBare.trans (.of_cals rfl) .frameDone) (.refl g)
  unfold Device.release
  split
  · exact .refl d
  · exact CalsBare.trans (.of_cals rfl) (htidied _)

theorem CalsBare.discardPort : CalsBare d (d.discardPort p n) := by
  have hgone : ∀ g : Device, CalsBare g (g.countGone p n) := fun _ => .ite .bump .bump
  have hflushed : CalsBare d (d.flushOut p n) :=
    .foldl (fun g _ => .ite ((CalsBare.ite (hgone g) (.refl g)).trans .release) (.refl g)) _ _
  exact hflushed.trans (.of_cals (Device.cals_count ..))

theorem CalsBare.setPortState {v : Nat} : CalsBare d (d.setPortState p n v) := by
  have hsvc : ∀ g : Device, CalsBare g (g.svcUpdate p n) := fun g =>
    .of_moves ((Moves.refl g objs_svcUpdate parts_svcUpdate).svcUpdate (Mask.le_refl _) (Mask.le_refl _)) (by decide)
  unfold Device.setPortState
  extract_lets e1 e2
  have haborted : CalsBare d e1 := .ite (.refl d) .calAbortPort
  have hstate : CalsBare d e2 := haborted.trans .set
  exact (CalsBare.ite hstate (hstate.trans .set)).trans (hsvc _)

theorem CalsBare.holdPort {code : Nat} : CalsBare d (d.holdPort p n code) := by
  have hfault : CalsBare d (d.portFault p n) :=
    .of_moves ((Moves.refl d objs_portFault parts_portFault).portFault (Mask.le_refl _) (Mask.le_refl _)) (by decide)
  have hclear : ∀ g : Device, CalsBare g (g.clearLink p n) := fun g =>
    .of_moves ((Moves.refl g objs_clearLink parts_clearLink).clearLink (Mask.le_refl _) (Mask.le_refl _)) (by decide)
  unfold Device.holdPort Device.leavePort
  exact (((hfault.trans .setPort).trans .discardPort).trans (hclear _)).trans .setPortState

end

/-! #### The octets of `laser_power` (R293) -/

theorem bit_setFld (v lo w x j : Nat) :
    bit (setFld v lo w x) j = if lo ≤ j ∧ j < lo + w then bit x (j - lo) else bit v j := by
  have hlow : v % 2 ^ lo < 2 ^ lo := Nat.mod_lt _ (Nat.two_pow_pos _)
  have hold : v / 2 ^ lo % 2 ^ w < 2 ^ w := Nat.mod_lt _ (Nat.two_pow_pos _)
  have hnew : x % 2 ^ w < 2 ^ w := Nat.mod_lt _ (Nat.two_pow_pos _)
  have hv : v = 2 ^ lo * (2 ^ w * (v / 2 ^ lo / 2 ^ w) + v / 2 ^ lo % 2 ^ w) + v % 2 ^ lo := by
    rw [Nat.div_add_mod, Nat.div_add_mod]
  have hset : setFld v lo w x = 2 ^ lo * (2 ^ w * (v / 2 ^ lo / 2 ^ w) + x % 2 ^ w) + v % 2 ^ lo := by
    unfold setFld fld
    have hle : v / 2 ^ lo % 2 ^ w * 2 ^ lo ≤ v :=
      (Nat.mul_le_mul_right _ (Nat.mod_le _ _)).trans (Nat.div_mul_le_self v _)
    nlinarith [Nat.sub_add_cancel hle]
  rw [bit_eq_testBit, bit_eq_testBit, bit_eq_testBit, hset]
  conv_rhs => rw [hv]
  rw [Nat.testBit_two_pow_mul_add _ hlow, Nat.testBit_two_pow_mul_add _ hlow]
  by_cases hj : j < lo
  · simp [hj, Nat.not_le.mpr hj]
  · rw [if_neg hj, if_neg hj, Nat.testBit_two_pow_mul_add _ hnew, Nat.testBit_two_pow_mul_add _ hold, Nat.testBit_mod_two_pow]
    by_cases hk : j - lo < w
    · have hin : lo ≤ j ∧ j < lo + w := by omega
      simp [hk, hin]
    · have hout : ¬ j < lo + w := by omega
      simp [hk, hout]

/-- Writing one octet of a register leaves the others. -/
theorem octet_setOctet (v x : Nat) {n w i k : Nat} (hi : i < n) (hk : k < n) :
    octet n w (setOctet n w v i x % 2 ^ (n * w)) k = if k = i then x % 2 ^ w else octet n w v k := by
  refine Nat.eq_of_testBit_eq (fun j => ?_)
  have hplaces : (n - 1 - k) * w + w ≤ n * w := by
    rw [← Nat.succ_mul]
    exact Nat.mul_le_mul_right w (by omega)
  by_cases hj : j < w
  · have hin : (n - 1 - k) * w + j < n * w := by omega
    unfold octet setOctet
    rw [← bit_eq_testBit, bit_fld, bit_mod _ _ _ hin, bit_setFld]
    by_cases he : k = i
    · subst he
      rw [if_pos rfl, if_pos (by omega), ← bit_eq_testBit, bit_mod _ _ _ hj, Nat.add_sub_cancel_left]
      simp [hj]
    · have hapart : ¬ ((n - 1 - i) * w ≤ (n - 1 - k) * w + j ∧ (n - 1 - k) * w + j < (n - 1 - i) * w + w) := by
        rcases Nat.lt_or_gt_of_ne he with hlt | hgt
        · have : (n - 1 - i + 1) * w ≤ (n - 1 - k) * w := Nat.mul_le_mul_right w (by omega)
          rw [Nat.succ_mul] at this
          omega
        · have : (n - 1 - k + 1) * w ≤ (n - 1 - i) * w := Nat.mul_le_mul_right w (by omega)
          rw [Nat.succ_mul] at this
          omega
      rw [if_neg hapart, if_neg he, ← bit_eq_testBit, bit_fld]
  · have hshort : ∀ y, y < 2 ^ w → y.testBit j = false := fun y hy =>
      Nat.testBit_lt_two_pow (hy.trans_le (Nat.pow_le_pow_right (by decide) (Nat.not_lt.mp hj)))
    rw [show (octet n w (setOctet n w v i x % 2 ^ (n * w)) k).testBit j = false from hshort _ (fld_lt _ _ _)]
    split
    · exact (hshort _ (Nat.mod_lt _ (Nat.two_pow_pos _))).symm
    · exact (hshort _ (fld_lt _ _ _)).symm

theorem toSigned_ofSigned {x : Int} (hlow : -32768 ≤ x) (hhigh : x < 32768) : toSigned 16 (ofSigned 16 x % 2 ^ 16) = x := by
  unfold toSigned ofSigned
  rw [Nat.mod_eq_of_lt (BitVec.isLt _), BitVec.ofNat_toNat, BitVec.setWidth_eq, BitVec.toInt_ofInt]
  exact Int.bmod_eq_of_le (by omega) (by omega)

section
variable (d : Device) (p c i : Nat)

/-- The power that is set reads back, and the other wavelengths keep theirs. -/
theorem Device.laserPower_setLaserPower {w k : Nat} {x : Int} (hw : w < 4) (hk : k < 4) (hlow : -32768 ≤ x) (hhigh : x < 32768) :
    (d.setLaserPower p c i w x).laserPower p c i k = if k = w then x else d.laserPower p c i k := by
  unfold Device.laserPower Device.setLaserPower
  rw [Device.get_set_same, show Obj.laserPower.width = 4 * 16 from rfl, octet_setOctet _ _ hw hk]
  split
  · exact toSigned_ofSigned hlow hhigh
  · rfl

variable {d} {e : Device}

theorem Device.laserPower_congr {k : Nat} (h : e.get .laserPower p (c * 256 + i) = d.get .laserPower p (c * 256 + i)) :
    e.laserPower p c i k = d.laserPower p c i k := by
  unfold Device.laserPower
  rw [h]

theorem Device.laserUsed_congr (h : e.laserState p c i = d.laserState p c i) : e.laserUsed p c i = d.laserUsed p c i := by
  unfold Device.laserUsed
  rw [h]

theorem laserMate_ne : laserMate i ≠ i := by
  unfold laserMate
  split <;> omega

end

/-! #### What each step of a fold leaves for its own element -/

theorem foldl_holds {α β : Type} {P : β → α → Prop} {f : β → α → β} {l : List α} (hset : ∀ b, ∀ a ∈ l, P (f b a) a)
    (hkeep : ∀ b, ∀ a ∈ l, ∀ x, P b x → P (f b a) x) (b : β) : ∀ a ∈ l, P (l.foldl f b) a := by
  induction l generalizing b with
  | nil => exact fun a ha => absurd ha List.not_mem_nil
  | cons y r ih =>
    rw [List.forall_mem_cons]
    refine ⟨List.foldlRecOn r f (hset b y List.mem_cons_self) (fun b h a ha => hkeep b a (List.mem_cons_of_mem y ha) y h), ?_⟩
    exact ih (fun b a ha => hset b a (List.mem_cons_of_mem y ha)) (fun b a ha => hkeep b a (List.mem_cons_of_mem y ha)) _

/-! #### The ports of an input (Table 13.1) -/

section
variable {d : Device} {p n : Nat}

/-- A port of a group without light: held down, and at once DOWN unless a bypass window parks its path (spec/14 R330). -/
def Device.goDark (d : Device) (p n : Nat) : Device :=
  (if d.get .portState p n = 5 then d.setPort p n { d.port p n with holdDown := setBit (d.port p n).holdDown 0 }
   else d.holdPort p n 0).causeFabric p 9 n

theorem PortSt.holdDown_of_bare {v w : PortSt} (h : v.bare = w.bare) : v.holdDown = w.holdDown := (congrArg PortSt.holdDown h :)

theorem OnlyPort.holdDown {e : Device} {m : Nat} (h : OnlyPort p n d e) (hne : m ≠ n) : (e.port p m).holdDown = (d.port p m).holdDown :=
  PortSt.holdDown_of_bare (h.bare p m (fun hsame => hne hsame.2))

theorem Device.holdDown_holdPort (code : Nat) : ((d.holdPort p n code).port p n).holdDown = setBit (d.port p n).holdDown code := by
  unfold Device.holdPort
  extract_lets e s e1
  have hfault : e.port p n = d.port p n := ((Moves.refl d _ _).portFault (Mask.le_refl _) (Mask.le_refl _)).port (by decide) p n
  have hset : (e1.port p n).holdDown = setBit (d.port p n).holdDown code := by
    rw [Device.port_setPort, if_pos ⟨rfl, rfl⟩, ← hfault]
  rw [Device.port_leavePort]
  exact hset

theorem OnlyPort.goDark : OnlyPort p n d (d.goDark p n) := by
  have hheld : OnlyPort p n d (d.holdPort p n 0) := by
    unfold Device.holdPort
    extract_lets e s e1
    have hset : OnlyPort p n e e1 := by
      apply OnlyPort.setPort
      rfl
    exact (OnlyPort.portFault.trans hset).trans .leavePort
  have hcause : ∀ e : Device, OnlyPort p n e (e.causeFabric p 9 n) := fun e =>
    .of_beside (Moves.causeFabric (.refl ..) (Mask.of (by decide)) (Mask.of (by decide)))
  refine OnlyPort.trans ?_ (hcause _)
  split
  · apply OnlyPort.setPort
    rfl
  · exact hheld

theorem Device.holdDown_goDark : bit ((d.goDark p n).port p n).holdDown 0 = true := by
  unfold Device.goDark Device.causeFabric
  rw [Device.port_latch]
  split
  · rw [Device.port_setPort, if_pos ⟨rfl, rfl⟩]
    exact bit_setBit_same _ _
  · rw [Device.holdDown_holdPort]
    exact bit_setBit_same _ _

/-- Every port of a group without light is held down by it. -/
theorem Device.holdDown_foldl_goDark (l : List Nat) : ∀ n ∈ l, bit ((l.foldl (·.goDark p ·) d).port p n).holdDown 0 = true := by
  refine foldl_holds (P := fun (e : Device) n => bit (e.port p n).holdDown 0 = true) (fun _ _ _ => Device.holdDown_goDark) ?_ d
  intro e n _ m h
  by_cases hm : m = n
  · exact hm ▸ Device.holdDown_goDark
  · rw [OnlyPort.goDark.holdDown hm]; exact h

/-- A port of a group whose light returns is held down by the loss of it no more. -/
def Device.lighten (d : Device) (p n : Nat) : Device := if bit (d.port p n).holdDown 0 then d.unholdPort p n 0 else d

theorem Device.holdDown_lighten (m : Nat) :
    bit ((d.lighten p n).port p m).holdDown 0 = (bit (d.port p m).holdDown 0 && !decide (m = n)) := by
  unfold Device.lighten Device.unholdPort
  split
  · rw [Device.port_setPort]
    by_cases hm : m = n
    · subst hm; simp [bit_clrBit]
    · simp [hm]
  · next h =>
    by_cases hm : m = n
    · subst hm; simpa using h
    · simp [hm]

theorem Device.holdDown_foldl_lighten (l : List Nat) : ∀ n ∈ l, bit ((l.foldl (·.lighten p ·) d).port p n).holdDown 0 = false := by
  refine foldl_holds (P := fun (e : Device) n => bit (e.port p n).holdDown 0 = false) ?_ ?_ d
  · intro e n _
    rw [Device.holdDown_lighten]
    simp
  · intro e n _ m h
    rw [Device.holdDown_lighten, h]
    rfl

end

/-! #### The matrix after a change of the inputs (R296, R303) -/

section
variable (d : Device) (p c i : Nat)

/-- The pairs of an input become due and the matrix is invalid, as it goes or returns. -/
def Device.remeasure (d : Device) (p c i : Nat) : Device := ((d.makeDue p c (laserPairs i)).loseMatrix p c).wlRefresh p c

theorem Device.moves_remeasure : Moves d (d.remeasure p c i) (objs_loseMatrix ||| objs_wlRefresh) (parts_loseMatrix ||| parts_wlRefresh) :=
  (((Moves.refl ..).makeDue (Mask.of (by decide)) (Mask.of (by decide))).loseMatrix (Mask.of (by decide)) (Mask.of (by decide))).wlRefresh
    (Mask.of (by decide)) (Mask.of (by decide))

theorem CalsBare.loseMatrix : CalsBare (d.setCal p c { d.cal p c with matrixOk := false, blocks := [] }) (d.loseMatrix p c) := by
  unfold Device.loseMatrix
  exact .ite (CalsBare.set.trans .setReserve) .applyMode

theorem Device.mem_due_makeDue (js : List Nat) : ∀ j ∈ js, ∃ y ∈ ((d.makeDue p c js).cal p c).due, y.1 = j := by
  intro j hj
  unfold Device.makeDue
  rw [Device.cal_setCal, if_pos ⟨rfl, rfl⟩]
  dsimp only
  by_cases hdue : (d.cal p c).due.any (fun y => y.1 = j) = true
  · obtain ⟨y, hy, heq⟩ := List.any_eq_true.mp hdue
    exact ⟨y, List.mem_append_left _ hy, of_decide_eq_true heq⟩
  · refine ⟨(j, d.clock), List.mem_append_right _ (List.mem_map.mpr ⟨j, List.mem_filter.mpr ⟨hj, ?_⟩, rfl⟩), rfl⟩
    rw [Bool.eq_false_iff.mpr hdue]
    rfl

/-- The record of a chiplet after `remeasure`: its pairs due, its matrix invalid. -/
theorem Device.cal_remeasure :
    (∀ j ∈ laserPairs i, ∃ y ∈ ((d.remeasure p c i).cal p c).due, y.1 = j) ∧ ((d.remeasure p c i).cal p c).matrixOk = false := by
  have hlost := CalsBare.loseMatrix (d.makeDue p c (laserPairs i)) p c
  have hwl : CalsBare _ (d.remeasure p c i) :=
    .of_moves ((Moves.refl _ objs_wlRefresh parts_wlRefresh).wlRefresh (Mask.le_refl _) (Mask.le_refl _)) (by decide)
  have hall := hlost.trans hwl
  rw [hall.due, hall.matrixOk, Device.cal_setCal, if_pos ⟨rfl, rfl⟩]
  exact ⟨d.mem_due_makeDue p c _, rfl⟩

/-! #### An input that leaves use (R294, R295) -/

/-- The state of an input is set and its module told to disable its lasers. -/
def Device.inputTold (d : Device) (p c i state : Nat) : Device :=
  (d.set .laserState p (c * 256 + i) state).emit (.cmis p (4 * c + i) false)

/-- A round of the input's group is aborted (R306). -/
def Device.groupAbort (d : Device) (p c i : Nat) : Device :=
  match (d.cal p c).round with
  | some j => if (laserPairs i).contains j then d.calAbort p c else d
  | none => d

/-- What an input's leaving does whether or not its mate lights the group. -/
def Device.inputGone (d : Device) (p c i state : Nat) : Device :=
  (((d.inputTold p c i state).groupAbort p c i).remeasure p c i).requestHolds p c

/-- The group goes dark: its cause is raised and its ports are taken down (R295). -/
def Device.groupDark (d : Device) (p c i : Nat) : Device :=
  (laserPorts c i).foldl (·.goDark p ·) (d.causeOptics p 3 (opticsUnit c i))

/-- The registers that an input which leaves use moves beside its state. -/
def objs_inputGone : Nat := objs_calAbort ||| objs_loseMatrix ||| objs_wlRefresh

theorem Device.laserGone_eq (state : Nat) : d.laserGone p c i state =
    if (d.inputGone p c i state).laserUsed p c (laserMate i) then d.inputGone p c i state
    else (d.inputGone p c i state).groupDark p c i := rfl

theorem Device.moves_inputGone (state : Nat) :
    Moves (d.inputTold p c i state) (d.inputGone p c i state) objs_inputGone parts_laserGone := by
  have habort : Moves (d.inputTold p c i state) ((d.inputTold p c i state).groupAbort p c i) objs_inputGone parts_laserGone := by
    unfold Device.groupAbort
    split
    · exact .ite (fun _ => (Moves.refl ..).calAbort (Mask.of (by decide)) (Mask.of (by decide))) (fun _ => .refl ..)
    · exact .refl ..
  have hmeasure := (Device.moves_remeasure ((d.inputTold p c i state).groupAbort p c i) p c i).mono (mo' := objs_inputGone)
    (mp' := parts_laserGone) (Mask.of (by decide)) (Mask.of (by decide))
  exact (habort.step hmeasure).requestHolds (Mask.of (by decide)) (Mask.of (by decide))

theorem Device.laserMate_inputGone (state : Nat) :
    (d.inputGone p c i state).laserUsed p c (laserMate i) = d.laserUsed p c (laserMate i) := by
  have hne := laserMate_ne i
  refine Device.laserUsed_congr _ _ _ (((d.moves_inputGone p c i state).get .laserState p _ (by decide)).trans ?_)
  exact (Device.get_set ..).trans (if_neg (by omega))

theorem Device.cal_inputGone (state : Nat) :
    (∀ j ∈ laserPairs i, ∃ y ∈ ((d.inputGone p c i state).cal p c).due, y.1 = j) ∧
    ((d.inputGone p c i state).cal p c).matrixOk = false := by
  have hholds : CalsBare (((d.inputTold p c i state).groupAbort p c i).remeasure p c i) (d.inputGone p c i state) :=
    .of_moves ((Moves.refl _ objs_requestHolds parts_requestHolds).requestHolds (Mask.le_refl _) (Mask.le_refl _)) (by decide)
  rw [hholds.due, hholds.matrixOk]
  exact Device.cal_remeasure _ p c i

end

section
variable {d : Device} {p c i : Nat}

theorem Device.moves_goDark {n : Nat} : Moves d (d.goDark p n) objs_holdPort parts_laserGone :=
  Moves.causeFabric (.ite (fun _ => (Moves.refl ..).setPort (Mask.of (by decide)) (Mask.of (by decide)))
    (fun _ => (Moves.refl ..).holdPort (Mask.of (by decide)) (Mask.of (by decide)))) (Mask.of (by decide)) (Mask.of (by decide))

theorem CalsBare.goDark {n : Nat} : CalsBare d (d.goDark p n) := by
  have hcause : ∀ e : Device, CalsBare e (e.causeFabric p 9 n) := fun _ => .of_cals (Device.cals_latch ..)
  exact CalsBare.trans (.ite .setPort .holdPort) (hcause _)

theorem Device.moves_groupDark : Moves d (d.groupDark p c i) objs_holdPort parts_laserGone :=
  (Moves.causeOptics (.refl ..) (Mask.of (by decide)) (Mask.of (by decide))).foldl (fun _ _ => Device.moves_goDark)

theorem CalsBare.groupDark : CalsBare d (d.groupDark p c i) :=
  CalsBare.trans (.of_cals (Device.cals_latch ..)) (.foldl (fun _ _ => .goDark) _ _)

theorem Device.cause_groupDark : bit ((d.groupDark p c i).get .cause p 8) 3 = true := by
  have hports : Moves (d.causeOptics p 3 (opticsUnit c i)) (d.groupDark p c i) objs_holdPort parts_laserGone :=
    (Moves.refl ..).foldl (fun _ _ => Device.moves_goDark)
  exact hports.latched (by decide) p 8 3 (by decide) (Device.bit_latch _ _ _ _ _ (by decide))

end

/-- What an input leaves that leaves use (R294, R295): its state, the order to its module, its pairs due, the matrix invalid, and where its
mate is out of use too the group's ports held down. -/
structure Device.LosesInput (d e : Device) (p c i state : Nat) : Prop where
  state : e.laserState p c i = state
  sends : d.Sends e (.cmis p (4 * c + i) false)
  due : ∀ j ∈ laserPairs i, ∃ y ∈ (e.cal p c).due, y.1 = j
  matrix : (e.cal p c).matrixOk = false
  dark : d.laserUsed p c (laserMate i) = false →
    bit (e.get .cause p 8) 3 = true ∧ ∀ n ∈ laserPorts c i, bit (e.port p n).holdDown 0 = true

theorem Device.losesInput_laserGone (d : Device) (p c i : Nat) {state : Nat} (hstate : state < 256) :
    d.LosesInput (d.laserGone p c i state) p c i state := by
  obtain ⟨hdue, hmatrix⟩ := d.cal_inputGone p c i state
  have hgone := d.moves_inputGone p c i state
  have hset : (d.inputGone p c i state).laserState p c i = state :=
    (hgone.get .laserState p _ (by decide)).trans (Device.get_set_lt _ _ _ _ _ hstate)
  have hsends : d.Sends (d.inputGone p c i state) (.cmis p (4 * c + i) false) := by
    obtain ⟨l, hl⟩ := hgone.out
    exact ⟨_ :: l, by rw [hl]; simp [Device.inputTold, Device.emit, Device.set], List.mem_cons_self⟩
  rw [Device.laserGone_eq, Device.laserMate_inputGone]
  split
  · next hmate => exact ⟨hset, hsends, hdue, hmatrix, fun h => absurd (h.symm.trans hmate) (by decide)⟩
  · have hdark : Moves _ ((d.inputGone p c i state).groupDark p c i) objs_holdPort parts_laserGone := Device.moves_groupDark
    have hcals : CalsBare _ ((d.inputGone p c i state).groupDark p c i) := .groupDark
    refine ⟨(hdark.get .laserState p _ (by decide)).trans hset, ?_, ?_, ?_, fun _ => ⟨Device.cause_groupDark, ?_⟩⟩
    · obtain ⟨l, hl, hx⟩ := hsends
      obtain ⟨m, hm⟩ := hdark.out
      exact ⟨l ++ m, by rw [hm, hl, List.append_assoc], List.mem_append_left _ hx⟩
    · rw [hcals.due]; exact hdue
    · rw [hcals.matrixOk]; exact hmatrix
    · exact Device.holdDown_foldl_goDark _

/-- An input that becomes absent (R294): counted and lost, beside what any input leaves that leaves use. -/
theorem Device.laserAbsent_spec (d : Device) (p c i : Nat) : d.LosesInput (d.laserAbsent p c i) p c i 4 ∧
    (d.laserAbsent p c i).get .laserLossEvents p c = min (d.get .laserLossEvents p c + 1) (2 ^ 32 - 1) ∧
    bit ((d.laserAbsent p c i).get .cause p 8) 2 = true := by
  obtain ⟨e, he⟩ : ∃ e, e = (d.bump .laserLossEvents p c).causeOptics p 2 (opticsUnit c i) := ⟨_, rfl⟩
  have hcounted : Moves d e objs_laserAbsent parts_laserAbsent :=
    he ▸ ((Moves.refl ..).bump (by decide) (by decide) (by decide)).causeOptics (Mask.of (by decide)) (Mask.of (by decide))
  have hregs : ∀ o j, o ≠ .laserLossEvents → o ≠ .cause → o ≠ .causeUnit → o ≠ .causeTime → e.get o p j = d.get o p j :=
    fun o j hne hcause hunit htime => he ▸ (Device.get_latch_obj _ _ _ _ _ _ _ _ hcause hunit htime).trans
      (Device.get_bump_obj _ _ _ _ _ _ _ hne)
  have hgone : Moves e (e.laserGone p c i 4) objs_laserGone parts_laserGone := (Moves.refl ..).laserGone (Mask.le_refl _) (Mask.le_refl _)
  have hmate : e.laserUsed p c (laserMate i) = d.laserUsed p c (laserMate i) :=
    Device.laserUsed_congr _ _ _ (hregs .laserState _ (by decide) (by decide) (by decide) (by decide))
  have hloses := e.losesInput_laserGone p c i (state := 4) (by decide)
  have heq : d.laserAbsent p c i = e.laserGone p c i 4 := by rw [he]; rfl
  rw [heq]
  refine ⟨⟨hloses.state, hloses.sends.before hcounted.out, hloses.due, hloses.matrix, fun h => hloses.dark (hmate.trans h)⟩, ?_, ?_⟩
  · rw [hgone.get .laserLossEvents p c (by decide), he, Device.causeOptics,
      Device.get_latch_obj _ _ _ _ _ _ _ _ (by decide) (by decide) (by decide)]
    exact Device.get_count_narrow _ _ _ _ _ (by decide)
  · exact hgone.latched (by decide) p 8 2 (by decide) (he ▸ Device.bit_latch _ _ _ _ _ (by decide))

/-! #### Levels (R293, Table 13.2) -/

section
variable (d : Device) (p c i : Nat)

/-- A measured power, and what it does to the alarms and to the state of its input. -/
def Device.levelled (d : Device) (p c i w : Nat) (x : Int) : Device :=
  let d := d.setLaserPower p c i w x
  if x > 2050 then d.causeOptics p 0 (opticsUnit c i)
  else if 1200 ≤ x && x < 1600 then (d.set .laserState p (c * 256 + i) 3).causeOptics p 1 (opticsUnit c i)
  else if (List.range 4).all (fun k => decide (1600 ≤ d.laserPower p c i k)) then d.set .laserState p (c * 256 + i) 2
  else d

theorem Device.laserLevel_of_used {w : Nat} {x : Int} (h : d.laserUsed p c i = true) :
    Moves (d.levelled p c i w x) (d.laserLevel p c i w x) objs_calAbort parts_calAbort := by
  have hround : Moves (d.levelled p c i w x) ((d.levelled p c i w x).calAbort p c) objs_calAbort parts_calAbort :=
    (Moves.refl ..).calAbort (Mask.le_refl _) (Mask.le_refl _)
  unfold Device.laserLevel
  rw [if_neg (by simp [h])]
  extract_lets e1 e2 s
  have he : e2 = d.levelled p c i w x := rfl
  clear_value s
  rw [he]
  split
  · exact .ite (fun _ => hround) (fun _ => .refl ..)
  · exact .refl ..

theorem Device.laserLevel_of_unused {w : Nat} {x : Int} (h : d.laserUsed p c i = false) : d.laserLevel p c i w x = d :=
  if_pos (by simp [h])

theorem Device.laserPower_levelled {w : Nat} {x : Int} (hw : w < 4) (hlow : -32768 ≤ x) (hhigh : x < 32768) :
    (d.levelled p c i w x).laserPower p c i w = x := by
  have hset := (d.laserPower_setLaserPower p c i hw hw hlow hhigh).trans (if_pos rfl)
  refine (Device.laserPower_congr p c i ?_).trans hset
  have hstate : ∀ v, ((d.setLaserPower p c i w x).set .laserState p (c * 256 + i) v).get .laserPower p (c * 256 + i) =
      (d.setLaserPower p c i w x).get .laserPower p (c * 256 + i) := fun v => Device.get_set_obj _ _ _ _ _ _ _ _ (by decide)
  have hcause : ∀ (e : Device) b, (e.causeOptics p b (opticsUnit c i)).get .laserPower p (c * 256 + i) =
      e.get .laserPower p (c * 256 + i) := fun e b => Device.get_latch_obj _ _ _ _ _ _ _ _ (by decide) (by decide) (by decide)
  unfold Device.levelled
  extract_lets e
  split
  · exact hcause _ _
  · split
    · exact (hcause _ _).trans (hstate _)
    · split
      · exact hstate _
      · rfl

theorem Device.levelled_high {w : Nat} {x : Int} (h : 2050 < x) : bit ((d.levelled p c i w x).get .cause p 8) 0 = true := by
  unfold Device.levelled
  dsimp only
  rw [if_pos h]
  exact Device.bit_latch _ _ _ _ _ (by decide)

theorem Device.levelled_low {w : Nat} {x : Int} (hlow : 1200 ≤ x) (hhigh : x < 1600) :
    (d.levelled p c i w x).laserState p c i = 3 ∧ bit ((d.levelled p c i w x).get .cause p 8) 1 = true := by
  unfold Device.levelled
  dsimp only
  rw [if_neg (by omega), if_pos (by simp [hlow, hhigh])]
  refine ⟨?_, Device.bit_latch _ _ _ _ _ (by decide)⟩
  unfold Device.laserState Device.causeOptics
  rw [Device.get_latch_obj _ _ _ _ _ _ _ _ (by decide) (by decide) (by decide)]
  exact Device.get_set_lt _ _ _ _ _ (by decide)

/-! #### An input comes into use (R296) -/

/-- The powers of an input's four wavelengths. -/
def Device.powersSet (d : Device) (p c i : Nat) (powers : List Int) : Device :=
  (List.range 4).foldl (fun d w => d.setLaserPower p c i w (powers.getD w 0)) d

/-- The registers of an input that has been shown to be present; an enabling of it in progress is done. -/
def Device.inputShown (d : Device) (p c i : Nat) (powers : List Int) (tones : Nat) : Device :=
  let d := ((d.set .laserState p (c * 256 + i) 2).set .laserTones p (c * 256 + i) tones).powersSet p c i powers
  if d.get .laserCmd p (c * 256 + i) = 1 then d.set .laserCmd p (c * 256 + i) 2 else d

/-- Four good wavelengths of an input that has been enabled. -/
def Device.goodLight (d : Device) (p c i : Nat) (powers : List Int) : Prop :=
  d.laserState p c i = 1 ∧ powers.length = 4 ∧ ∀ y ∈ powers, 1600 ≤ y ∧ y ≤ 2000

variable {d} {p c i} {powers : List Int} {tones : Nat}

theorem Device.laserPresent_of_good (h : d.goodLight p c i powers) : d.laserPresent p c i powers tones =
    ((laserPorts c i).foldl (·.lighten p ·) ((d.inputShown p c i powers tones).remeasure p c i)).requestHolds p c := by
  obtain ⟨hstate, hlength, hgood⟩ := h
  have hall : powers.all (fun x => decide (1600 ≤ x) && decide (x ≤ 2000)) = true := by
    simpa [List.all_eq_true] using hgood
  unfold Device.laserPresent
  rw [if_neg (by simp [hstate, hlength, hall])]
  rfl

theorem Device.laserPresent_of_not_good (h : ¬ d.goodLight p c i powers) : d.laserPresent p c i powers tones = d := by
  unfold Device.laserPresent
  refine if_pos ?_
  by_contra hno
  refine h ?_
  simpa [Device.goodLight, and_assoc] using hno

theorem Device.laserPower_powersSet (hlength : powers.length = 4) (hgood : ∀ y ∈ powers, 1600 ≤ y ∧ y ≤ 2000) :
    ∀ w ∈ List.range 4, (d.powersSet p c i powers).laserPower p c i w = powers.getD w 0 := by
  have hpower : ∀ w < 4, 1600 ≤ powers.getD w 0 ∧ powers.getD w 0 ≤ 2000 := fun w hw => by
    rw [List.getD_eq_getElem _ _ (by omega)]
    exact hgood _ (List.getElem_mem _)
  have hset : ∀ (e : Device), ∀ w ∈ List.range 4, ∀ k < 4, (e.setLaserPower p c i w (powers.getD w 0)).laserPower p c i k =
      if k = w then powers.getD w 0 else e.laserPower p c i k := fun e w hw k hk => by
    have hw := List.mem_range.mp hw
    obtain ⟨hlow, hhigh⟩ := hpower w hw
    exact e.laserPower_setLaserPower p c i hw hk (by omega) (by omega)
  intro w hw
  refine foldl_holds (P := fun (e : Device) w => w < 4 → e.laserPower p c i w = powers.getD w 0) ?_ ?_ d w hw (List.mem_range.mp hw)
  · intro e w hw hlt
    rw [hset e w hw w hlt, if_pos rfl]
  · intro e w hw k hk hlt
    rw [hset e w hw k hlt]
    split
    · next he => rw [he]
    · exact hk hlt

/-- What an input that comes into use reads (R296), before its matrix is measured and its ports are released. -/
structure Device.Shown (d e : Device) (p c i : Nat) (powers : List Int) (tones : Nat) : Prop where
  state : e.laserState p c i = 2
  tones : e.get .laserTones p (c * 256 + i) = tones
  powers : ∀ k < 4, e.laserPower p c i k = powers.getD k 0
  enabled : d.get .laserCmd p (c * 256 + i) = 1 → e.get .laserCmd p (c * 256 + i) = 2

theorem Device.shown_inputShown (h : d.goodLight p c i powers) (htones : tones < 16) :
    d.Shown (d.inputShown p c i powers tones) p c i powers tones := by
  obtain ⟨-, hlength, hgood⟩ := h
  obtain ⟨e, he⟩ : ∃ e, e = (d.set .laserState p (c * 256 + i) 2).set .laserTones p (c * 256 + i) tones := ⟨_, rfl⟩
  have hstate : e.get .laserState p (c * 256 + i) = 2 := by
    rw [he, Device.get_set_obj _ _ _ _ _ _ _ _ (by decide)]; exact Device.get_set_lt _ _ _ _ _ (by decide)
  have htone : e.get .laserTones p (c * 256 + i) = tones := by
    rw [he]; exact Device.get_set_lt _ _ _ _ _ (htones.trans (by decide))
  have hcmd : e.get .laserCmd p (c * 256 + i) = d.get .laserCmd p (c * 256 + i) := by
    rw [he, Device.get_set_obj _ _ _ _ _ _ _ _ (by decide), Device.get_set_obj _ _ _ _ _ _ _ _ (by decide)]
  have hset : Moves e (e.powersSet p c i powers) objs_setLaserPower parts_setLaserPower :=
    (Moves.refl ..).foldl (fun _ _ => (Moves.refl ..).setLaserPower (Mask.le_refl _) (Mask.le_refl _))
  have hpowers := Device.laserPower_powersSet (d := e) (p := p) (c := c) (i := i) hlength hgood
  have heq : d.inputShown p c i powers tones = if (e.powersSet p c i powers).get .laserCmd p (c * 256 + i) = 1
      then (e.powersSet p c i powers).set .laserCmd p (c * 256 + i) 2 else e.powersSet p c i powers := by rw [he]; rfl
  have hkept : ∀ o, o ≠ .laserCmd →
      (d.inputShown p c i powers tones).get o p (c * 256 + i) = (e.powersSet p c i powers).get o p (c * 256 + i) := fun o hne => by
      rw [heq]
      split
      · exact Device.get_set_obj _ _ _ _ _ _ _ _ hne
      · rfl
  constructor
  case state => exact (hkept _ (by decide)).trans ((hset.get _ _ _ (by decide)).trans hstate)
  case tones => exact (hkept _ (by decide)).trans ((hset.get _ _ _ (by decide)).trans htone)
  case powers => exact fun k hk => (Device.laserPower_congr p c i (hkept _ (by decide))).trans (hpowers k (List.mem_range.mpr hk))
  case enabled =>
    intro hbusy
    rw [heq, if_pos ((hset.get _ _ _ (by decide)).trans (hcmd.trans hbusy))]
    exact Device.get_set_lt _ _ _ _ _ (by decide)

theorem Device.moves_lighten {n : Nat} : Moves d (d.lighten p n) objs_unholdPort parts_unholdPort :=
  .ite (fun _ => (Moves.refl ..).unholdPort (Mask.le_refl _) (Mask.le_refl _)) (fun _ => .refl ..)

/-- What four good wavelengths leave (R296): the input in use, the matrix invalid, and the ports held down by its absence no more. -/
theorem Device.laserPresent_spec (h : d.goodLight p c i powers) (htones : tones < 16) :
    d.Shown (d.laserPresent p c i powers tones) p c i powers tones ∧ ((d.laserPresent p c i powers tones).cal p c).matrixOk = false ∧
    ∀ n ∈ laserPorts c i, bit ((d.laserPresent p c i powers tones).port p n).holdDown 0 = false := by
  obtain ⟨e, he⟩ : ∃ e, e = (d.inputShown p c i powers tones).remeasure p c i := ⟨_, rfl⟩
  have hmeasured := (d.inputShown p c i powers tones).moves_remeasure p c i
  have hlit : Moves e ((laserPorts c i).foldl (·.lighten p ·) e) objs_unholdPort parts_unholdPort :=
    (Moves.refl ..).foldl (fun _ _ => Device.moves_lighten)
  obtain ⟨f, hf⟩ : ∃ f, f = (laserPorts c i).foldl (·.lighten p ·) e := ⟨_, rfl⟩
  have hheld : Moves f (f.requestHolds p c) objs_requestHolds parts_requestHolds := (Moves.refl ..).requestHolds (Mask.le_refl _) (Mask.le_refl _)
  have hkept : ∀ o j, (objs_loseMatrix ||| objs_wlRefresh).testBit o.ctorIdx = false →
      (f.requestHolds p c).get o p j = (d.inputShown p c i powers tones).get o p j := fun o j ho => by
    rw [hheld.get o p j (Nat.zero_testBit _), hf, hlit.get o p j (Nat.zero_testBit _), he, hmeasured.get o p j ho]
  have hshown := Device.shown_inputShown h htones
  rw [Device.laserPresent_of_good h, ← he, ← hf]
  refine ⟨⟨?_, ?_, ?_, ?_⟩, ?_, ?_⟩
  · exact (hkept _ _ (by decide)).trans hshown.state
  · exact (hkept _ _ (by decide)).trans hshown.tones
  · exact fun k hk => (Device.laserPower_congr p c i (hkept _ _ (by decide))).trans (hshown.powers k hk)
  · exact fun hbusy => (hkept _ _ (by decide)).trans (hshown.enabled hbusy)
  · have hcals : CalsBare e (f.requestHolds p c) := CalsBare.trans (hf ▸ .of_moves hlit (by decide)) (.of_moves hheld (by decide))
    rw [hcals.matrixOk, he]
    exact (Device.cal_remeasure _ p c i).2
  · intro n hn
    rw [hheld.port (by decide), hf]
    exact Device.holdDown_foldl_lighten _ n hn

end

/-! #### `laser_cmd` (R297) -/

section
variable {d e : Device} {p c ses : Nat}

theorem Device.place_laserCmd (d : Device) (p c ses : Nat) :
    d.place ⟨.laserCmd, p, c⟩ ses = c * 2 ^ Obj.laserSel.width + d.sel .laserSel p c ses := by
  unfold Device.place
  dsimp only
  rw [if_neg (by decide), if_neg (by simp), show Obj.laserCmd.sels = [.laserSel] from rfl, List.foldl_cons, List.foldl_nil,
    if_neg (by simp), if_neg (by simp)]

/-- The command object of an input reads its outcome where the session's selector stood when the command was given. -/
theorem Device.cmdReads_laserCmd {mo mp v : Nat} (h : Moves d e mo mp) (hsel : mo.testBit Obj.laserSel.ctorIdx = false) :
    e.cmdReads ⟨.laserCmd, p, c⟩ ses v = e.set .laserCmd p (d.place ⟨.laserCmd, p, c⟩ ses) v := by
  rw [Device.place_laserCmd, show d.sel .laserSel p c ses = e.sel .laserSel p c ses from (h.get .laserSel _ _ hsel).symm,
    ← Device.place_laserCmd]
  rfl

/-- What a laser command leaves: the outcome that its object reads and the state of its input. -/
structure Device.LaserCmd (d e : Device) (p c ses v state : Nat) : Prop where
  reads : e.get .laserCmd p (d.place ⟨.laserCmd, p, c⟩ ses) = v
  state : e.laserState p c (d.sel .laserSel p c ses) = state

/-- A command that has read its outcome, after an action that moved the input's state and not the selector. -/
theorem Device.laserCmd_cmdReads {mo mp v state : Nat} (h : Moves d e mo mp) (hsel : mo.testBit Obj.laserSel.ctorIdx = false)
    (hv : v < 256) (hstate : e.laserState p c (d.sel .laserSel p c ses) = state) :
    d.LaserCmd (e.cmdReads ⟨.laserCmd, p, c⟩ ses v) p c ses v state := by
  rw [Device.cmdReads_laserCmd h hsel]
  exact ⟨Device.get_set_lt _ _ _ _ _ hv, (Device.get_set_obj _ _ _ _ _ _ _ _ (by decide)).trans hstate⟩

theorem Device.moves_laserOn (i : Nat) : Moves d (d.laserOn p c i) objs_laserGone parts_laserGone :=
  ((Moves.refl ..).set (by decide) (by decide)).emit (Mask.of (by decide)) (Mask.of (by decide))

theorem Device.laserState_laserOn (i : Nat) : (d.laserOn p c i).laserState p c i = 1 :=
  Device.get_set_lt d .laserState p (c * 256 + i) 1 (by decide)

theorem Device.sends_laserOn (i : Nat) : d.Sends (d.laserOn p c i) (.cmis p (4 * c + i) true) :=
  ⟨[_], rfl, List.mem_singleton_self _⟩

/-- Enabling an input that is in use is done already. -/
theorem Device.laserCmd_enable_used (h : d.laserUsed p c (d.sel .laserSel p c ses) = true) :
    d.LaserCmd (d.laserCmd p c ses 1) p c ses 2 (d.laserState p c (d.sel .laserSel p c ses)) := by
  unfold Device.laserCmd
  dsimp only
  rw [if_pos rfl, if_pos h]
  exact Device.laserCmd_cmdReads (.refl d 0 0) (Nat.zero_testBit _) (by decide) rfl

/-- Enabling any other tells its module and is in progress. -/
theorem Device.laserCmd_enable_unused (h : d.laserUsed p c (d.sel .laserSel p c ses) = false) :
    d.LaserCmd (d.laserCmd p c ses 1) p c ses 1 1 ∧ d.Sends (d.laserCmd p c ses 1) (.cmis p (4 * c + d.sel .laserSel p c ses) true) := by
  unfold Device.laserCmd
  dsimp only
  rw [if_pos rfl, if_neg (by simp [h])]
  exact ⟨Device.laserCmd_cmdReads (Device.moves_laserOn _) (by decide) (by decide) (Device.laserState_laserOn _), Device.sends_laserOn _⟩

/-- Disabling the last input in use of its pair is refused. -/
theorem Device.laserCmd_disable_last (h : d.laserUsed p c (laserMate (d.sel .laserSel p c ses)) = false) :
    d.LaserCmd (d.laserCmd p c ses 2) p c ses 3 (d.laserState p c (d.sel .laserSel p c ses)) := by
  unfold Device.laserCmd
  dsimp only
  rw [if_neg (by decide), if_pos (by simp [h])]
  exact Device.laserCmd_cmdReads (.refl d 0 0) (Nat.zero_testBit _) (by decide) rfl

theorem Device.Sends.cmdReads {t : Target} {v : Nat} {x : Out} (h : d.Sends e x) : d.Sends (e.cmdReads t ses v) x := h

theorem Device.laserCmd_disable_eq {i : Nat} (hi : d.sel .laserSel p c ses = i) (h : d.laserUsed p c (laserMate i) = true) :
    d.laserCmd p c ses 2 =
      (if d.laserUsed p c i then d.laserGone p c i 5 else d.inputTold p c i 5).cmdReads ⟨.laserCmd, p, c⟩ ses 2 := by
  unfold Device.laserCmd
  dsimp only
  rw [if_neg (by decide), hi, if_neg (by simp [h])]
  rfl

/-- Disabling one whose mate is in use is done: its state reads disabled and its module is told. -/
theorem Device.laserCmd_disable (h : d.laserUsed p c (laserMate (d.sel .laserSel p c ses)) = true) :
    d.LaserCmd (d.laserCmd p c ses 2) p c ses 2 5 ∧ d.Sends (d.laserCmd p c ses 2) (.cmis p (4 * c + d.sel .laserSel p c ses) false) := by
  rw [Device.laserCmd_disable_eq rfl h]
  split
  · have hloses := d.losesInput_laserGone p c (d.sel .laserSel p c ses) (state := 5) (by decide)
    have hmoves : Moves d (d.laserGone p c (d.sel .laserSel p c ses) 5) objs_laserGone parts_laserGone :=
      (Moves.refl ..).laserGone (Mask.le_refl _) (Mask.le_refl _)
    exact ⟨Device.laserCmd_cmdReads hmoves (by decide) (by decide) hloses.state, hloses.sends.cmdReads⟩
  · have htold : Moves d (d.inputTold p c (d.sel .laserSel p c ses) 5) objs_laserGone parts_laserGone :=
      ((Moves.refl ..).set (by decide) (by decide)).emit (Mask.of (by decide)) (Mask.of (by decide))
    have hstate : (d.inputTold p c (d.sel .laserSel p c ses) 5).laserState p c (d.sel .laserSel p c ses) = 5 :=
      Device.get_set_lt d .laserState p _ 5 (by decide)
    have hsends : d.Sends (d.inputTold p c (d.sel .laserSel p c ses) 5) (.cmis p (4 * c + d.sel .laserSel p c ses) false) :=
      ⟨[_], rfl, List.mem_singleton_self _⟩
    exact ⟨Device.laserCmd_cmdReads htold (by decide) (by decide) hstate, hsends.cmdReads⟩

end

/-! #### The CMIS poll (R297, spec/10 R214) -/

section
variable {d : Device} {p l st : Nat} {outOff : Bool}

/-- The link of a coherent module takes what the poll reads: its removal, its state and whether its output is off. -/
def Device.modulePolled (d : Device) (p l st : Nat) (outOff : Bool) : Device :=
  let d := (d.setLink p l { d.link p l with removed := st == 0 }).set .lhModuleState p l st
  d.setLink p l { d.link p l with outOff := outOff }

theorem Device.cmisPoll_coherent {m : Nat} (h : 16 ≤ m) : d.cmisPoll p m st outOff =
    if st = 3 then (d.modulePolled p (m - 16) st outOff).lhRefresh p (m - 16)
    else (d.modulePolled p (m - 16) st outOff).goOof p (m - 16) true := by
  unfold Device.cmisPoll
  rw [if_neg (by omega)]
  cases outOff <;> rfl

theorem Device.link_modulePolled :
    (d.modulePolled p l st outOff).link p l = { d.link p l with removed := st == 0, outOff := outOff } := by
  have hremoved := Device.link_setLink_same d p l { d.link p l with removed := st == 0 }
  exact (Device.link_setLink_same _ p l _).trans (congrArg (fun k : LinkSt => { k with outOff := outOff }) hremoved)

/-- What the poll of a coherent module leaves (R214). -/
theorem Device.cmisPoll_coherent_spec {m : Nat} (h : 16 ≤ m) (hm : m < 20) (hst : st < 256) :
    ((d.cmisPoll p m st outOff).link p (m - 16)).removed = (st == 0) ∧
    (d.cmisPoll p m st outOff).get .lhModuleState p (m - 16) = st ∧
    ((d.cmisPoll p m st outOff).link p (m - 16)).outOff = outOff ∧
    (st ≠ 3 → ((d.cmisPoll p m st outOff).link p (m - 16)).align = 0 ∧ (d.cmisPoll p m st outOff).inBundle p (m - 16) = false) := by
  have hlink := Device.link_modulePolled (d := d) (p := p) (l := m - 16) (st := st) (outOff := outOff)
  have hstate : (d.modulePolled p (m - 16) st outOff).get .lhModuleState p (m - 16) = st := Device.get_set_lt _ _ _ _ _ hst
  rw [Device.cmisPoll_coherent h]
  split
  · next hready =>
    rw [Device.link_lhRefresh, hlink]
    exact ⟨rfl, (((Moves.refl _ _ _).lhRefresh (Mask.le_refl _) (Mask.le_refl _)).get _ _ _ (by decide)).trans hstate, rfl,
      fun hnot => absurd hready hnot⟩
  · rw [Device.link_goOof, hlink]
    exact ⟨rfl, (((Moves.refl _ _ _).goOof (Mask.le_refl _) (Mask.le_refl _)).get _ _ _ (by decide)).trans hstate, rfl,
      fun _ => ⟨rfl, Device.inBundle_goOof _ _ _ _ (by omega)⟩⟩

variable {m : Nat}

/-- A laser module that is not there leaves its input, where that is out of use, without one. -/
theorem Device.cmisPoll_removed (hm : m < 16) (h : d.laserUsed p (m / 4) (m % 4) = false) :
    (d.cmisPoll p m 0 outOff).laserState p (m / 4) (m % 4) = 0 := by
  unfold Device.laserUsed at h
  unfold Device.cmisPoll
  rw [if_pos hm]
  dsimp only
  rw [if_pos rfl, if_neg (by simp [h])]
  exact Device.get_set_lt d .laserState p _ 0 (by decide)

/-- A laser module found where there was none is enabled. -/
theorem Device.cmisPoll_replaced (hm : m < 16) (hst : st ≠ 0) (h : d.laserState p (m / 4) (m % 4) = 0) :
    (d.cmisPoll p m st outOff).laserState p (m / 4) (m % 4) = 1 ∧ d.Sends (d.cmisPoll p m st outOff) (.cmis p m true) := by
  have hon : d.cmisPoll p m st outOff = d.laserOn p (m / 4) (m % 4) := by
    unfold Device.cmisPoll
    dsimp only
    rw [if_pos hm, if_neg hst, if_pos h]
  have hsends := Device.sends_laserOn (d := d) (p := p) (c := m / 4) (m % 4)
  rw [Nat.div_add_mod] at hsends
  rw [hon]
  exact ⟨Device.laserState_laserOn _, hsends⟩

end

/-! #### The commands -/

/-- A module that is never ready is an input that becomes absent, and its enabling is refused. -/
theorem Device.moduleTimeout_spec {d : Device} {p c i : Nat} (h : d.laserState p c i = 1) : ∃ e : Device,
    d.moduleTimeout p c i = e.laserAbsent p c i ∧ e.out = d.out ∧ (∀ o j, o ≠ .laserCmd → e.get o p j = d.get o p j) ∧
    (d.get .laserCmd p (c * 256 + i) = 1 → e.get .laserCmd p (c * 256 + i) = 3) := by
  refine ⟨_, if_pos h, ?_, fun o j hne => ?_, fun hbusy => ?_⟩
  · split <;> rfl
  · split
    · exact Device.get_set_obj _ _ _ _ _ _ _ _ hne
    · rfl
  · rw [if_pos hbusy]
    exact Device.get_set_lt _ _ _ _ _ (by decide)

section
variable {s : State} (p : Plane) (c : Chip) (i : Fin 4)

theorem exec_laserAbsent (h : s.dev.live p = true) : exec (.laserAbsent p c i) s = .next { s with dev :=
    (if s.dev.laserUsed p c i then s.dev.laserAbsent p c i else s.dev).settle } := by
  show execLaserAbsent p c i s = _
  exact State.runOn_next h

theorem exec_moduleReadyTimeout (h : s.dev.live p = true) :
    exec (.moduleReadyTimeout p c i) s = .next { s with dev := (s.dev.moduleTimeout p c i).settle } := by
  show execModuleReadyTimeout p c i s = _
  exact State.runOn_next h

theorem exec_laserLevelAlarm (w : Fin 4) (x : Int) (h : s.dev.live p = true) :
    exec (.laserLevelAlarm p c i w x) s = .next { s with dev := (s.dev.laserLevel p c i w x).settle } := by
  show execLaserLevelAlarm p c i w x s = _
  exact State.runOn_next h

theorem exec_laserPresent (powers : List Int) (tones : BitVec 4) (h : s.dev.live p = true) :
    exec (.laserPresent p c i powers tones) s = .next { s with dev := (s.dev.laserPresent p c i powers tones.toNat).settle } := by
  show execLaserPresent p c i powers tones s = _
  exact State.runOn_next h

theorem exec_laserEnable {rq : Req} (h : s.dev.admits rq ⟨⟨.laserCmd, p, c⟩, 1, 1⟩ = true) :
    exec (.laserEnable p c rq) s = .next { s with dev :=
    (((s.dev.fmMessage rq.ses.val).laserCmd p c rq.ses.val 1).respond rq (statusResp rq 0)).settle } := by
  show execLaserEnable p c rq s = _
  exact State.run_next (Device.command_admitted _ _ _ _ _ h)

theorem exec_laserDisable {rq : Req} (h : s.dev.admits rq ⟨⟨.laserCmd, p, c⟩, 1, 2⟩ = true) :
    exec (.laserDisable p c rq) s = .next { s with dev :=
    (((s.dev.fmMessage rq.ses.val).laserCmd p c rq.ses.val 2).respond rq (statusResp rq 0)).settle } := by
  show execLaserDisable p c rq s = _
  exact State.run_next (Device.command_admitted _ _ _ _ _ h)

theorem exec_cmisPoll (m : Fin 20) (z : Byte) (off : Bool) (h : s.dev.live p = true) : exec (.cmisPoll p m z off) s = .next { s with dev :=
    (if s.dev.hub.vddIo then s.dev.cmisPoll p m z.toNat off else s.dev).settle } := by
  show execCmisPoll p m z off s = _
  exact State.runOn_next h

end

theorem Device.moduleTimeout_of_not_initialising {d : Device} {p c i : Nat} (h : d.laserState p c i ≠ 1) : d.moduleTimeout p c i = d := if_neg h

/-! #### After `settle` and the answer -/

theorem Device.laserState_settle (d : Device) (p c i : Nat) : d.settle.laserState p c i = d.laserState p c i := Device.get_settle _ _ _ _ rfl

theorem Device.cal_settle (d : Device) (p c : Nat) : d.settle.cal p c = d.cal p c := by
  unfold Device.cal
  rw [Device.cals_settle]

theorem Device.LosesInput.settle {d e : Device} {p c i state : Nat} (h : d.LosesInput e p c i state) :
    d.LosesInput e.settle p c i state := by
  refine ⟨(e.laserState_settle p c i).trans h.state, h.sends.after (Device.frame_settle _ noRegs), ?_, ?_, fun hmate => ?_⟩
  · rw [Device.cal_settle]; exact h.due
  · rw [Device.cal_settle]; exact h.matrix
  · obtain ⟨hcause, hports⟩ := h.dark hmate
    rw [Device.get_settle _ _ _ _ rfl]
    exact ⟨hcause, fun n hn => (congrArg (fun k : PortSt => bit k.holdDown 0) (Device.port_settle e p n)).trans (hports n hn)⟩

theorem Device.LaserCmd.answered {d e : Device} {p c ses v state : Nat} {rq : Req} {r : Resp}
    (h : (d.fmMessage ses).LaserCmd e p c ses v state) :
    (e.respond rq r).settle.get .laserCmd p (d.place ⟨.laserCmd, p, c⟩ ses) = v ∧
    (e.respond rq r).settle.laserState p c (d.sel .laserSel p c ses) = state := by
  obtain ⟨hreads, hstate⟩ := h
  rw [Device.place_fmMessage] at hreads
  rw [Device.sel_fmMessage _ _ _ _ _ _ rfl (by decide) (by decide) (by decide)] at hstate
  unfold Device.laserState
  rw [Device.get_settle_respond _ _ _ _ _ rfl (by decide) (by decide), Device.get_settle_respond _ _ _ _ _ rfl (by decide) (by decide)]
  exact ⟨hreads, hstate⟩

theorem Device.Sends.answered {d e : Device} {x : Out} {ses : Nat} {rq : Req} {r : Resp} (h : (d.fmMessage ses).Sends e x) :
    d.Sends (e.respond rq r).settle x := by
  have hheard : Moves d (d.fmMessage ses) objs_fmMessage parts_fmMessage := (Moves.refl ..).fmMessage (Mask.le_refl _) (Mask.le_refl _)
  exact ((h.before hheard.out).after (Device.frame_respond e rq r)).after (Device.frame_settle _ noRegs)

/-- The state of an input, after the message of the fault manager that a request is. -/
theorem Device.laserUsed_fmMessage (d : Device) (p c i ses : Nat) : (d.fmMessage ses).laserUsed p c i = d.laserUsed p c i :=
  Device.laserUsed_congr _ _ _ (Device.get_fmMessage_obj _ _ _ _ _ rfl (by decide) (by decide) (by decide))

/-- Settles O39: an absent input by `laserAbsent_spec`, levels by `levelled_high` and `levelled_low`, presence by `laserPresent_spec`,
`laser_cmd` by the `laserCmd_` lemmas and the poll by the `cmisPoll_` lemmas. -/
theorem laserInputs : Obligations.LaserInputs := by
  intro s p c i w x powers tones rq st used mate gone
  have hgone : ∀ (d e : Device), d.LosesInput e p c i 4 → e.get .laserLossEvents p c = min (d.get .laserLossEvents p c + 1) (2 ^ 32 - 1) →
      bit (e.get .cause p 8) 2 = true → (∀ o j, o ≠ .laserCmd → d.get o p j = s.dev.get o p j) → d.out = s.dev.out →
      gone { s with dev := e.settle } := by
    intro d e hloses hcount hcause hregs hout
    have hsettled := hloses.settle
    have hmate : d.laserUsed p c (laserMate i) = s.dev.laserUsed p c (laserMate i) :=
      Device.laserUsed_congr _ _ _ (hregs .laserState _ (by decide))
    have hsends : s.dev.Sends e.settle (.cmis p (4 * c.val + i.val) false) := hsettled.sends.before ⟨[], by rw [hout, List.append_nil]⟩
    refine ⟨rfl, hsettled.state, ?_, ?_, hsends, hsettled.due, hsettled.matrix, fun hunlit => hsettled.dark ?_⟩
    · exact ((Device.get_settle _ _ _ _ rfl).trans hcount).trans (by rw [hregs .laserLossEvents c (by decide)])
    · exact (congrArg (bit · 2) (Device.get_settle _ _ _ _ rfl)).trans hcause
    · exact hmate.trans (Bool.eq_false_iff.mpr hunlit)
  refine ⟨fun hlive => ?absent, fun hlive => ?timeout, fun hlive hlow hhigh => ?level, ?present, ?command, fun m z off hlive => ?poll⟩
  case absent =>
    refine ⟨_, exec_laserAbsent p c i hlive, fun hused => ?_, fun hunused => ?_⟩
    · rw [if_pos hused]
      obtain ⟨hloses, hcount, hcause⟩ := s.dev.laserAbsent_spec p c i
      exact hgone s.dev _ hloses hcount hcause (fun _ _ _ => rfl) rfl
    · rw [if_neg hunused]
      exact Device.frame_settle _ _
  case timeout =>
    refine ⟨_, exec_moduleReadyTimeout p c i hlive, fun hstate => ?_, fun hstate => ?_⟩
    · obtain ⟨e, heq, hout, hregs, hcmd⟩ := Device.moduleTimeout_spec hstate
      obtain ⟨hloses, hcount, hcause⟩ := e.laserAbsent_spec p c i
      rw [heq]
      refine ⟨hgone e _ hloses hcount hcause hregs hout, fun hbusy => ?_⟩
      rw [Device.get_settle _ _ _ _ rfl]
      exact (((Moves.refl e _ _).laserAbsent (Mask.le_refl _) (Mask.le_refl _)).get .laserCmd p _ (by decide)).trans (hcmd hbusy)
    · rw [Device.moduleTimeout_of_not_initialising hstate]
      exact Device.frame_settle _ _
  case level =>
    refine ⟨_, exec_laserLevelAlarm p c i w x hlive, rfl, fun hunused => ?_, fun hused => ?_⟩
    · rw [Device.laserLevel_of_unused _ _ _ _ (Bool.eq_false_iff.mpr hunused)]
      exact Device.frame_settle _ _
    · have hround := Device.laserLevel_of_used s.dev p c i (w := w) (x := x) hused
      have hcause : ∀ b < 32, bit ((s.dev.levelled p c i w x).get .cause p 8) b = true →
          bit ((s.dev.laserLevel p c i w x).settle.get .cause p 8) b = true := fun b hb h => by
        rw [Device.get_settle _ _ _ _ rfl]
        exact hround.latched (by decide) p 8 b hb h
      refine ⟨?_, fun h => hcause 0 (by decide) (Device.levelled_high _ _ _ _ h), fun h1 h2 => ?_⟩
      · have hpower := (Device.get_settle (s.dev.laserLevel p c i w x) .laserPower p (c * 256 + i) rfl).trans (hround.get _ _ _ (by decide))
        exact (Device.laserPower_congr p c i hpower).trans (Device.laserPower_levelled _ _ _ _ w.isLt hlow hhigh)
      · obtain ⟨hlowState, hlowCause⟩ := Device.levelled_low s.dev p c i (w := w) h1 h2
        rw [Device.laserState_settle]
        exact ⟨(hround.get .laserState p _ (by decide)).trans hlowState, hcause 1 (by decide) hlowCause⟩
  case present =>
    intro ok hlive
    refine ⟨_, exec_laserPresent p c i powers tones hlive, rfl, fun hbad => ?_, fun hok => ?_⟩
    · rw [Device.laserPresent_of_not_good hbad]
      exact Device.frame_settle _ _
    · obtain ⟨hshown, hmatrix, hports⟩ := Device.laserPresent_spec (d := s.dev) (p := p) (c := c) (i := i) hok tones.isLt
      rw [Device.laserState_settle, Device.get_settle _ _ _ _ rfl, Device.cal_settle, Device.get_settle _ _ _ _ rfl]
      refine ⟨hshown.state, hshown.tones, fun k => ?_, hmatrix, hshown.enabled, fun n hn => ?_⟩
      · exact (Device.laserPower_congr p c i (Device.get_settle _ _ _ _ rfl)).trans (hshown.powers k k.isLt)
      · rw [Device.port_settle]; exact hports n hn
  case command =>
    intro g j k
    have hsel : (s.dev.fmMessage rq.ses.val).sel .laserSel p c rq.ses.val = j :=
      Device.sel_fmMessage _ _ _ _ _ _ rfl (by decide) (by decide) (by decide)
    have hstate : (s.dev.fmMessage rq.ses.val).laserState p c j = s.dev.laserState p c j :=
      Device.get_fmMessage_obj _ _ _ _ _ rfl (by decide) (by decide) (by decide)
    have hused : ∀ i, (s.dev.fmMessage rq.ses.val).laserUsed p c i = s.dev.laserUsed p c i :=
      fun i => Device.laserUsed_fmMessage _ _ _ _ _
    refine ⟨fun hadm => ⟨_, exec_laserEnable p c hadm, rfl, Device.answered_respond _ _ _, fun h => ?_, fun h => ?_⟩,
      fun hadm => ⟨_, exec_laserDisable p c hadm, rfl, Device.answered_respond _ _ _, fun h => ?_, fun h => ?_⟩⟩
    · have hcmd := Device.laserCmd_enable_used (d := s.dev.fmMessage rq.ses.val) (p := p) (c := c) (ses := rq.ses.val)
        (by rw [hsel, hused]; exact h)
      rw [hsel, hstate] at hcmd
      exact hcmd.answered
    · obtain ⟨hcmd, hsends⟩ := Device.laserCmd_enable_unused (d := s.dev.fmMessage rq.ses.val) (p := p) (c := c) (ses := rq.ses.val)
        (by rw [hsel, hused]; exact h)
      rw [hsel] at hsends
      exact ⟨hcmd.answered.1, hcmd.answered.2, hsends.answered⟩
    · have hcmd := Device.laserCmd_disable_last (d := s.dev.fmMessage rq.ses.val) (p := p) (c := c) (ses := rq.ses.val)
        (by rw [hsel, hused]; exact h)
      rw [hsel, hstate] at hcmd
      exact hcmd.answered
    · obtain ⟨hcmd, hsends⟩ := Device.laserCmd_disable (d := s.dev.fmMessage rq.ses.val) (p := p) (c := c) (ses := rq.ses.val)
        (by rw [hsel, hused]; exact h)
      rw [hsel] at hsends
      exact ⟨hcmd.answered.1, hcmd.answered.2, hsends.answered⟩
  case poll =>
    refine ⟨_, exec_cmisPoll p m z off hlive, rfl, fun hdark => ?_, fun hio hm => ?_, fun hio hm hunused => ?_⟩
    · rw [if_neg (by simp [hdark])]
      exact Device.frame_settle _ _
    · obtain ⟨hremoved, hmodule, hoff, hdown⟩ := Device.cmisPoll_coherent_spec (d := s.dev) (p := p) (outOff := off) hm m.isLt z.isLt
      dsimp only
      rw [if_pos hio, (quiet_link p (m - 16)).settle, Device.get_settle _ _ _ _ rfl]
      have hbundle : ∀ e : Device, e.settle.inBundle p (m - 16) = e.inBundle p (m - 16) :=
        fun e => congrArg (bit · (m - 16)) (Device.get_settle e .lhBundle p 0 rfl)
      rw [hbundle]
      refine ⟨hremoved.trans ?_, hmodule, hoff, fun hz => hdown (fun h3 => hz (BitVec.eq_of_toNat_eq h3))⟩
      rw [Bool.beq_eq_decide_eq, decide_eq_decide]
      exact BitVec.toNat_inj (y := 0)
    · dsimp only
      rw [if_pos hio, Device.laserState_settle]
      refine ⟨fun hz => ?_, fun hz hnone => ?_⟩
      · rw [hz]
        exact Device.cmisPoll_removed hm hunused
      · obtain ⟨hon, hsends⟩ := Device.cmisPoll_replaced (outOff := off) hm (fun h0 => hz (BitVec.eq_of_toNat_eq h0)) hnone
        exact ⟨hon, hsends.after (Device.frame_settle _ noRegs)⟩

end Sys2Proof.Machine
